-- ==== Sys2Proof/Word.lean ====
section
/-!
DEFINITION. The word types of the SX-7380 and the small sets of names every other file uses.
-/

namespace Sys2Proof

/-- A register word (32 bits, R36). -/
abbrev Word := BitVec 32

/-- One byte of a packet, frame or image (R8). -/
abbrev Byte := BitVec 8

/-- The three lanes (R9). -/
inductive LaneId where
  | A | B | C
  deriving DecidableEq, Repr

/-- One of the four axes AX0 to AX3, or the feedback port of that axis (R9, R155). -/
abbrev Axis := Fin 4

/-- A seat (R463). -/
abbrev Seat := Fin 8

/-- A peer by its number less one: 0 is peer 1, the next lane in the order A, B, C, A; 1 is peer 2. The wing link to
that peer has the same number. -/
abbrev Peer := Fin 2

/-- A core of the trio: P0, P1, P2. -/
abbrev Core := Fin 3

/-- A switch by its number j: 0 UH, 1 UL, 2 VH, 3 VL, 4 WH, 5 WL (R87). -/
abbrev Switch := Fin 6

/-- A phase or half-bridge: 0 U, 1 V, 2 W (R112). -/
abbrev Phase := Fin 3

end Sys2Proof
end

