-- ==== Sys2Proof/Messages.lean ====
section
/-!
DEFINITION. What the commands carry: the moment and lane of an event, measurements, edges, sensor frames, and the
frames, packets and images the lane receives.
-/

namespace Sys2Proof

/-- Where and when a command comes about: the lane, and that lane's time-base count in units of 250 ps (R162, R414). -/
structure At where
  lane : LaneId
  t : Nat
  deriving DecidableEq, Repr

/-- An event together with what was measured of it: a reading, or how long a level has lasted. The meaning of the command
says which, and in which unit. -/
structure Seen (α : Type) extends At where
  val : α
  deriving DecidableEq, Repr

/-- What the two temperature sensors of each die read, in the unit of PW_TEMP (R67). -/
structure Temps where
  ld : Int × Int
  pd : Int × Int
  deriving DecidableEq, Repr

/-- What the monitors read at a beat start: VM_x, VIN_x, VG_x in units of 10 mV, VCORE_x in mV (R29, R68, R153), the die
temperatures (R67), and which of VDD1, VDD2, VDDQ and VPD_x (bits 0 to 3) are within limits (R68). -/
structure Measured where
  vm : Nat
  vin : Nat
  vg : Nat
  vcore : Nat
  temps : Temps
  rails : BitVec 4
  deriving DecidableEq, Repr

/-- An edge, or a pair of edges, at the arbiter of the A and B lines (R161 to R166): how long the line has held its new
level, in raw counts, which the glitch filter judges; for a pair, the order at the arbiter and the spacing in units of
0.1 ns. -/
inductive EdgeIn where
  | a (rise : Bool) (held : Nat)
  | b (rise : Bool) (held : Nat)
  | pair (riseA riseB aFirst : Bool) (spacing heldA heldB : Nat)
  deriving DecidableEq, Repr

/-- A serial frame as it ended (R173 to R177): whether the start bit came within the compensated delay, the data and
check bits that followed it, first bit highest, and the measured line delay in ns. The longest frame has 40 data bits and
16 check bits. -/
structure SerialFrameIn where
  inTime : Bool
  bits : BitVec 56
  delay : Nat
  deriving DecidableEq, Repr

/-- The differential lines a line fault can strike (R189). -/
inductive FbLine where
  | a | b | z | sl
  deriving DecidableEq, Repr

/-- A voted transaction (R220, R221): its type (0 register write, 1 control write, 2 store, 3 single-sample load,
4 checkpoint, whose value is the program counter and the flags), whether its address names the lane register space,
whether a register write is to a pair, the destination, the value and the byte mask. -/
structure Txn where
  kind : Fin 5
  space : Bool
  pair : Bool
  dest : BitVec 24
  value : BitVec 64
  mask : BitVec 4
  deriving DecidableEq, Repr

/-- How the 20 µs window of a hold-release check ended (R142). -/
inductive LeakResult where
  | pass | fail | void
  deriving DecidableEq, Repr

/-- The sweep of a current comparator (R355): the offset from its threshold in codes at which it trips as the input rises,
none where it does not within ±8 codes, and whether it releases as programmed as the input falls. -/
structure CodeSweep where
  trip : Option Int
  released : Bool
  deriving DecidableEq, Repr

/-- The sweep of a switch's comparators (R357), in 10 mV: where VDS and ceiling trip, and where the bootstrap lockout of a
high side falls and rises. -/
structure SwitchSweep where
  vds : Nat
  ceiling : Nat
  lockFall : Nat
  lockRise : Nat
  deriving DecidableEq, Repr

/-- The sweep of a twin (R358), in 10 mV: where it trips and where it releases. -/
structure MonitorSweep where
  trip : Nat
  release : Nat
  deriving DecidableEq, Repr

/-- What a start-of-day step found (R343, R344): failed engines in the bit order of LC_ENGSTAT; the exercises the voter missed, each a kind
on core 0 to 2 or on pair 3 to 5 (R244);
the lockstep comparator missed an injection; failing bits of stage memory as bank, row, word and bit; banks whose spare mapping fails; failed
burst-queue banks; the sweeps of current comparators and stand-ins by phase, of twins 2m + t and of switches; failed wing
serdes, Virec ports, CAN controllers and feedback ports; the hold-release checks of low sides. A step uses what its
content names. -/
structure StepResult where
  engines : BitVec 8
  voter : List (Fin 40 × Fin 6)
  lockstepBad : Bool
  bits : List (Fin 17 × Fin 2048 × Fin 32 × Fin 39)
  mapBad : BitVec 17
  burst : Nat
  comparators : List (Fin 12 × CodeSweep)
  standIns : List (Fin 12 × CodeSweep)
  twins : List (Fin 12 × MonitorSweep)
  switches : List (Axis × Switch × SwitchSweep)
  wing : BitVec 2
  virec : BitVec 2
  can : BitVec 2
  fb : BitVec 4
  leaks : List (Axis × Switch × LeakResult)
  deriving DecidableEq, Repr

/-- What trips a tamper sensor (R535): a voltage outside its window, of VPD_x or VCORE_x; light; a temperature. -/
inductive TamperCause where
  | voltage
  | light
  | temperature
  deriving DecidableEq, Repr

/-- What a tamper sensor reads (R535): VPD_x or VCORE_x at a voltage in mV for `ns`, light on a die, the temperature of a
die in °C. -/
inductive TamperReading where
  | vpd (mv ns : Nat)
  | vcore (mv ns : Nat)
  | light
  | temperature (deg : Int)
  deriving DecidableEq, Repr

/-- An unlock token at the debug port (R537), and whether each signature verifies against a key in ROM. -/
structure DebugToken where
  serial : BitVec 64
  lane : LaneId
  challenge : Nat
  scope : Byte
  ecdsaOk : Bool
  lmsOk : Bool
  deriving DecidableEq, Repr

/-- What a cartridge signs (R540 step 3): the challenge, the module serial, the lane and the axis. -/
structure CartSigned where
  challenge : Nat
  serial : BitVec 64
  lane : LaneId
  axis : Axis
  deriving DecidableEq, Repr

/-- What the authentication of a cartridge found (R540): the identity digest; the trust anchor that the chain ends at and
whether certificate and chain verify; what was signed and whether the signature verifies; the rated life in J of the
certificate (R539); the first 32 bytes of the record of this lane's port and whether its signature verifies (R544). -/
structure CartRead where
  digest : BitVec 384
  anchor : Nat
  certOk : Bool
  signed : CartSigned
  sigOk : Bool
  rated : Nat
  record : List Byte
  recordOk : Bool
  deriving DecidableEq, Repr

/-- The header of a wing-link frame (R252): type, source lane, destination lane (3 for both peers), link sequence, the
sequence acknowledged, beat index and cycle number at the source, payload length. -/
structure FrameHdr where
  kind : BitVec 4
  src : BitVec 2
  dst : BitVec 2
  seq : BitVec 8
  ack : BitVec 8
  beat : BitVec 8
  cycle : BitVec 16
  len : BitVec 16
  deriving DecidableEq, Repr

/-- What the header of a SUMMARY frame leaves open beside its source (R252, R258): destination, the sequence acknowledged,
beat index and cycle number at the source. -/
structure SummaryHdr where
  dst : BitVec 2
  ack : BitVec 8
  beat : BitVec 8
  cycle : BitVec 16
  deriving DecidableEq, Repr

/-- What misses its deadline in the loop pair or the prompter (R32, R310, R311): a loop of an axis, the agreement, or a
task of the task table. -/
inductive DropKind where
  | loops (n : Axis)
  | agreement
  | task (id : Nat)
  deriving DecidableEq, Repr

/-- An axis block of the beat summary (R259). Fractions are the signed Q1.15 codes. -/
structure AxisBlock where
  extPos : Int
  speed : Int
  valid : Bool
  uncert : Bool
  estim : Bool
  still : Bool
  inService : Bool
  recatch : Bool
  propValid : Bool
  osc : Bool
  plaus : Bool
  reglock : Bool
  outerPresent : Bool
  proposal : Int
  lim : Nat
  speedInt : Int
  outerInt : Int
  angle : Int
  force : Int
  te : Int
  nax : Nat
  /-- the consumed life this lane read at the start, agreed as HIGH (R546) -/
  life : Nat
  deriving DecidableEq, Repr

/-- A beat summary (R258). `time` is the lane time at its first bit, in quarter nanoseconds; states are their codes. -/
structure Summary where
  time : Nat
  lstate : Nat
  held : Nat
  proposed : Nat
  lead : Bool
  trio : Nat
  mask : BitVec 3
  links : Nat × Nat
  isolated : Bool
  rejoin : Bool
  digest : BitVec 64
  fwv : Nat
  confirmed : Bool
  mirrorSeq : Nat
  faults : BitVec 64
  vm : Nat
  vin : Nat
  safety : BitVec 32
  prints : List (BitVec 64)
  axes : Vector AxisBlock 4
  deriving DecidableEq, Repr

end Sys2Proof
end

