-- ==== Sys2Proof/Book.lean ====
section
/-!
DEFINITION. The prompt book as a lane reads it (R318, R328): its sections, and what the keeper found of its envelope
and signatures.
-/

namespace Sys2Proof

/-- One entry of a register image (R329): address, lanes it is for, value. -/
structure RegEntry where
  addr : Nat
  lanes : BitVec 3
  value : Word
  deriving DecidableEq, Repr

/-- A seat's row of the seat table (R463): its paths are its ring node (0 none) and its CAN path for each lane. -/
structure SeatRow where
  rank : Nat
  maxClass : Nat
  key : BitVec 64
  node : Vector Nat 3
  can : Vector (Option (Nat × Nat × Nat)) 3
  deriving DecidableEq, Repr

/-- The MACHINE section (R328): the cycle is in microseconds, the lease in milliseconds; `ports` names the seat each
lane's SEAT port serves. -/
structure MachineSection where
  laneCAbsent : Bool
  cycle : Nat
  seats : Vector (Option SeatRow) 8
  ports : Vector (Option Seat) 3
  defaultHold : Bool
  lease : Nat
  deriving DecidableEq, Repr

/-- The stop section (R578); roles are the byte codes, `reservedOk` says that every reserved byte is 0. -/
structure StopSection where
  roles : Vector Nat 4
  speedHandle : Nat
  threshold : Nat
  scale : Nat
  maxSpeed : Nat
  path : Vector Nat 4
  hold : Vector Nat 4
  points : List (Nat × Nat)
  reservedOk : Bool
  deriving DecidableEq, Repr

/-- The SAFETY section (R578). -/
structure SafetySection where
  stop : StopSection
  image : List RegEntry
  deriving DecidableEq, Repr

/-- The engines tasks and tickets run on (R300, R333). -/
inductive Engine where
  | trio | loopPair | q | n | k
  deriving DecidableEq, Repr

/-- The cost of a ticket (R300): class, duration in ns at the floor, die energy in mJ, extra power in mW, winding and
brake energy in J for each axis, supply energy in mJ. -/
structure Cost where
  cls : Fin 9
  engine : Engine
  duration : Nat
  dieLD : Nat
  diePD : Nat
  extra : Nat
  winding : Vector Nat 4
  brake : Vector Nat 4
  supply : Nat
  deriving DecidableEq, Repr

/-- One entry of the TASKS section (R302, R310, R333): where the prompter places it, its floor duration and deadline in
ns from the start of its window, the handles it reads and writes, the engine block it needs. -/
structure TaskEntry where
  id : Nat
  safety : Bool
  period : Nat
  beat : Nat
  window : Nat
  cost : Cost
  deadline : Nat
  handles : List Nat
  deriving DecidableEq, Repr

/-- One cue of a sheet (R383): START and the window in the units of the entry's codes. -/
structure CueEntry where
  start : Nat
  len : Nat
  owner : Nat
  dir : Nat
  win : Nat
  kind : Nat
  deriving DecidableEq, Repr

/-- A cue sheet (R382): its header with the CRC-32C it carries, and its entries. -/
structure CueSheet where
  num : Nat
  rate : Nat
  guardTime : Nat
  cycle : Nat
  crc : Word
  cues : List CueEntry
  deriving DecidableEq, Repr

/-- A ring description (R381): members in east-bound order, each with the maximum delay of its east link in 10 ns. -/
structure RingDescription where
  members : List (Nat × Nat)
  sheetMaster : Nat
  timeMaster : Nat
  starters : List Nat
  deriving DecidableEq, Repr

/-- The part of the CUES section for one ring. -/
structure RingPart where
  ring : RingDescription
  sheets : List CueSheet
  deriving DecidableEq, Repr

/-- Where a signal comes from (R447). -/
inductive SourcePath where
  | constant
  | cue (index : Nat)
  | canBuf (ctrl : Fin 2) (buf : Nat)
  | sealed (ctrl : Fin 2) (index buf : Nat)
  | trio
  | loopPair
  | seat (s : Seat)
  deriving DecidableEq, Repr

/-- A signal definition (R445, R446, R450): length, type, source, freshness period in µs, plausibility limits, SMAX,
where its value stands in the payload that carries it (assumption 16), and the value of a constant. -/
structure SigDef where
  handle : Nat
  len : Nat
  type : Nat
  source : SourcePath
  period : Nat
  low : Word
  high : Word
  smax : Nat
  offset : Nat
  value : List Byte
  deriving DecidableEq, Repr

/-- The SIGNALS section: definitions, hot set, and the handles that each own cue and each transmit buffer carries
(assumption 16). -/
structure SignalsSection where
  defs : List SigDef
  hot : List Nat
  cues : List (Nat × List Nat)
  buffers : List (Fin 2 × Fin 64 × List Nat)
  deriving DecidableEq, Repr

/-- The TRUST section (R463, R532, R539): seat anchors, cartridge anchors, the axes whose cartridge the book declares
(R178), and the key slots to revoke. -/
structure TrustSection where
  seatKeys : List (BitVec 64)
  cartridgeAnchors : Nat
  cartridges : BitVec 4
  revokeEcdsa : BitVec 4
  revokeLms : BitVec 4
  deriving DecidableEq, Repr

/-- The switching tables of one axis as words in the order of R103: normal six- and twelve-sector, degraded six- and
twelve-sector. -/
structure AxisTables where
  tab6 : List Word
  tab12 : List Word
  deg6 : List Word
  deg12 : List Word
  deriving DecidableEq, Repr

/-- The envelope of an image as the keeper reads it (R318): the bytes of the header, and how many bytes header, body and
signature block take together. -/
structure Envelope where
  header : List Byte
  size : Nat
  deriving DecidableEq, Repr

/-- A prompt book (R318, R328). `ecdsa` and `lms` name the key slot whose key verifies the signature, none where no key
does (R319); `digest` is the SHA-384 digest of the image; `malformed` is the first malformed section with the offset of the
fault; `unknown` lists section types the lane does not know
with their ignorable flag; `repeated` lists types that appear twice. `claims` holds the ISO 11783 address of each CAN
controller that needs one (R431). -/
structure Book where
  envelope : Envelope
  ecdsa : Option (Fin 4)
  lms : Option (Fin 4)
  digest : BitVec 384
  machine : Option MachineSection
  registers : Option (List RegEntry)
  tables : Option (Vector AxisTables 4)
  tasks : Option (List TaskEntry)
  cues : Option (Vector (Option RingPart) 3)
  canSched : Option (List RegEntry)
  claims : Vector (Option Nat) 2
  signals : Option SignalsSection
  trust : Option TrustSection
  safety : Option SafetySection
  unknown : List (Nat × Bool)
  repeated : List Nat
  malformed : Option (Nat × Nat)
  deriving DecidableEq, Repr

end Sys2Proof
end

