-- ==== Sys2Proof/Packets.lean ====
section
/-!
DEFINITION. Command packets and replies (R470, R471): the header, the payload as the opcode reads it, and what
cryptography and the check fields have found, which the model takes as given.
-/

namespace Sys2Proof

/-- The header of a command packet (R470), with the packet's fingerprint `fp` (R264). -/
structure Hdr where
  version : Nat
  seat : Seat
  noReply : Bool
  seq : BitVec 16
  opcode : Nat
  len : Nat
  mask : BitVec 3
  cls : Nat
  session : Word
  fp : BitVec 64
  deriving DecidableEq, Repr

/-- One entry of a SETPOINT (R577). -/
structure SetEntry where
  axis : Nat
  ref : BitVec 64
  deriving DecidableEq, Repr

/-- A firmware image as the keeper reads it (R318 to R321): its envelope, whether each signature verifies against the key
in ROM, and the SHA-384 digest of the image. -/
structure FwImage where
  envelope : Envelope
  ecdsaOk : Bool
  lmsOk : Bool
  digest : BitVec 384
  deriving DecidableEq, Repr

/-- The payload of a command packet, by opcode (R482). -/
inductive Op where
  | sessionOpen (key : BitVec 64) (sigOk unwrapOk : Bool)
  | sessionClose
  | ping (data : List Byte)
  | readReg (addr count : Nat)
  | writeReg (addr count : Nat) (words : List Word)
  | spotRequest (preempt : Bool)
  | spotRenew
  | spotRelease
  | spotQuery
  | arm
  | perform
  | setpoint (entries : List SetEntry)
  | disarm
  | stop
  | workshopEnter
  | workshopLeave
  | pbStatus
  | pbLoadBegin (length : Nat) (digest : BitVec 384)
  | pbLoadData (offset count : Nat)
  | pbLoadEnd (readBack : Bool) (book : Book)
  | pbActivate
  | pbAbort
  | rehReport
  | rehRerun (step : Nat)
  | rehTask (index : Nat)
  | logInfo
  | logRead (first largest : Nat)
  | logMark (text : List Byte)
  | timeRead
  | timeEcho (arrival : Nat)
  | idInfo
  | idCert (index offset : Nat)
  | attest (nonce : BitVec 256)
  | fwStatus
  | fwLoadBegin (length : Nat) (digest : BitVec 384)
  | fwLoadData (offset count : Nat)
  | fwLoadEnd (readBack : Bool) (image : FwImage)
  | fwRestart
  | fwCommit
  | confirmCheck (value : Word)
  | cartAccept (axis : Nat) (digest : BitVec 384)
  | lifeAck (axis : Nat)
  | safetyStatus
  deriving DecidableEq, Repr

/-- What cryptography and the images on record find of a packet: whether its tag verifies, whether the signature of a
SESSION_OPEN verifies and its key unwraps, what the keeper reads of a loaded
image and whether the slot written reads back as written (R317), and the lane time at the packet's last byte
(assumption 21). -/
structure PacketFacts where
  tagOk : Bool
  sigOk : Bool
  unwrapOk : Bool
  book : Book
  image : FwImage
  readBack : Bool
  arrival : Nat
  deriving DecidableEq, Repr

/-- A command packet as it arrives (R470). -/
structure PacketIn where
  bytes : List Byte
  facts : PacketFacts
  deriving DecidableEq, Repr

/-- A command packet as a lane reads it: `op` is none for an unknown opcode. -/
structure Packet where
  hdr : Hdr
  op : Option Op
  crcOk : Bool
  tagOk : Bool
  bytes : List Byte
  deriving DecidableEq, Repr

/-- The path a packet took (R463, R464, R477): the seat port, a ring node's COMMAND cue, a
seat's CAN buffers, or a wing link. -/
inductive Path where
  | port
  | ring (node : Nat)
  | can (seat : Seat)
  | wing
  deriving DecidableEq, Repr

/-- A reply (R471). -/
structure Reply where
  lane : LaneId
  seat : Seat
  cls : Nat
  detail : Nat
  seq : BitVec 16
  opcode : Nat
  payload : List Byte
  lstate : Nat
  mstate : Nat
  session : Word
  tagged : Bool
  deriving DecidableEq, Repr

end Sys2Proof
end

