-- ==== Sys2Proof/Machine/WingState.lean ====
section
/-!
DEFINITION. What a lane holds of its wing links, its peers, agreement, the lead token and re-entry that no register
shows (Three Lanes as One). Peer and link 0 are peer 1, 1 are peer 2.
-/

namespace Sys2Proof.Machine

/-- The callboard as the mirror set carries it (R510): the pending words, the active sources with the seat that holds
each, the sources whose last sample was 1, the enable words of seat 0 to 7 in turn, the priorities, the thresholds. -/
structure CallMirror where
  pend : List Word
  active : List (Nat × Seat)
  sampled : List Nat
  enabled : List Word
  prio : List Nat
  thr : List Nat
  deriving DecidableEq, Repr

/-- The spotlight as the mirror set carries it (R279), with the decisions of R489 that take effect at the next cycle. -/
structure SpotMirror where
  holder : Option Seat
  /-- the rank of the holding seat -/
  rank : Nat
  endCycle : Nat
  reserved : Option Seat
  /-- the seat granted, and whether the present lease is revoked, at the start of the next cycle -/
  grant : Option Seat
  revoke : Bool
  deriving DecidableEq, Repr

/-- The mirror set (R279): `digests` are the cartridge digests of R541. -/
structure MirrorSet where
  seq : Nat
  spot : SpotMirror
  call : CallMirror
  life : Vector Nat 4
  digests : Vector (BitVec 384) 4
  check : Word
  deriving DecidableEq, Repr

end Sys2Proof.Machine

namespace Sys2Proof.Config

/-- CRC-32C over a mirror set (R279), whose byte form the spec does not give (assumption 15). -/
opaque mirrorCrc : Sys2Proof.Machine.MirrorSet → Word

end Sys2Proof.Config

namespace Sys2Proof.Machine

/-- The non-summary frames a lane sends (R253): a COMMAND segment carries bytes of a packet (R264), a MIRROR segment one
of the four parts, 0 to 3, in which beats 0 to 3 carry the set (R279). -/
inductive WingFrame where
  | command (bytes : List Byte)
  | mirror (part : Nat) (m : MirrorSet)
  | token (seq mirrorSeq leaseEnd : Nat)
  | handover (crc : Word)
  | out
  | rejoinRequest
  | rejoinReply (mode : Nat) (m : MirrorSet)
  | digest (d : BitVec 384) (version : Nat) (serial : BitVec 64)
  | hello (figure : Nat) (time : Nat)
  deriving DecidableEq, Repr

/-- The agreed quantities of an axis (R261). -/
structure AgreedAxis where
  proposal : Int
  speed : Int
  pos : Int
  angle : Int
  force : Int
  speedInt : Option Int
  outerInt : Option Int
  valid : Bool
  propValid : Bool
  inService : Bool
  osc : Bool
  reglock : Bool
  nax : Nat
  /-- every lane that takes part shows its feedback valid (R555) -/
  everyValid : Bool
  deriving DecidableEq, Repr

/-- The agreed quantities of a beat (R261), and what opcodes ask of every lane that takes part: its check confirmed, its check
not confirmed, the own firmware version (R338, R341, R555). -/
structure Agreed where
  vm : Nat
  vin : Nat
  faults : BitVec 64
  isolated : Bool
  confirmed : Bool
  everyConfirmed : Bool
  noneConfirmed : Bool
  oneVersion : Bool
  axes : Vector AgreedAxis 4
  deriving DecidableEq, Repr

def AgreedAxis.init : AgreedAxis := ⟨0, 0, 0, 0, 0, none, none, false, false, false, false, false, 0, false⟩
def Agreed.init : Agreed := ⟨0, 0, 0, false, false, false, false, false, Vector.replicate 4 .init⟩

/-- An unacknowledged frame (R255): its link sequence, when it was last sent, how often it has been repeated. -/
structure Unacked where
  seq : Nat
  frame : WingFrame
  sentAt : Nat
  repeats : Nat
  deriving DecidableEq, Repr

/-- One wing link as this end sees it (R255, R256). Its state is in WG_STAT. -/
structure LinkEnd where
  /-- consecutive valid frames in TRAIN, frames that failed in this cycle, LOST declarations since start of day -/
  good : Nat
  failed : Nat
  lostCount : Nat
  lastValid : Nat
  /-- the next sequence to send, the last one received in order -/
  txSeq : Nat
  rxSeq : Nat
  unacked : List Unacked
  /-- frames that wait for the end of the quiet span of R254, oldest first -/
  waiting : List WingFrame
  /-- the bytes of COMMAND segments received since the last complete packet (R264) -/
  segs : List Byte
  /-- the peer sends HELLO frames; this lane's DIGEST has left on the link -/
  peerHello : Bool
  digestOut : Bool
  deriving DecidableEq, Repr

/-- A command pending agreement (R265, R266). `firstBeat` is the beat in which this lane first listed it. -/
structure Pending where
  pkt : Packet
  /-- the path of a direct copy; none for a forwarded copy only -/
  path : Option Path
  heldAt : Nat
  firstBeat : Option Nat
  deriving DecidableEq, Repr

/-- What an agreement replaces, as it was before: its values, nax, DC_TREF, DC_TQLIM, LIMC and both integrators of each
axis (R32, R311). -/
structure Prior where
  values : Agreed
  nax : Vector Nat 4
  refs : Vector Word 4
  limits : Vector Word 4
  limc : Vector Nat 4
  ints : Vector (Int × Int) 4
  deriving DecidableEq, Repr

def Prior.init : Prior :=
  ⟨.init, Vector.replicate 4 0, Vector.replicate 4 0, Vector.replicate 4 0, Vector.replicate 4 0, Vector.replicate 4 (0, 0)⟩

structure WingState where
  /-- the two wing links of the lane (R251) -/
  links : Vector LinkEnd 2
  /-- this lane's own summary of the beat; the receive deadline of the beat has passed -/
  own : Option Summary
  closed : Bool
  /-- the summaries complete for this beat, and whether each came directly -/
  got : Vector (Option (Summary × Bool)) 2
  /-- the latest summary held of each peer -/
  last : Vector (Option Summary) 2
  /-- beats in succession without the peer's summary; beats in which the other peer's mask reported it missing -/
  missed : Vector Nat 2
  maskMiss : Vector Nat 2
  /-- the lanes whose summaries this lane held at the last deadline (the receive mask, own lane included) -/
  mask : BitVec 3
  /-- beats in succession without any peer summary, and the LIVE count when they began (R274) -/
  alone : Nat
  aloneLive : Nat
  /-- beats with the own time off by more than 5 µs (R270), and positions off by more than POSTOL (R263) -/
  skew : Nat
  posOff : Vector Nat 4
  /-- the beat number since start, for the order of R266, and when the beat began -/
  beatNo : Nat
  beatAt : Nat
  /-- commands that wait for agreement (R265) -/
  pending : List Pending
  /-- commands agreed in this beat, to take effect at the next beat start (R266) -/
  agreed : List Pending
  /-- the code of the module state this lane proposes, the agreed change of the next cycle start, cycles with a differing held
  state (R271, R272) -/
  proposed : Nat
  next : Option Nat
  modeOff : Nat
  /-- the token's lease end in the units of ltime (R278) -/
  leaseEnd : Nat
  /-- the lead before the guard (R280), 3 for none -/
  oldLead : Nat
  /-- the sequence of the token, and that of the mirror set sent or held (R278, R279) -/
  tokSeq : Nat
  mirrorSeq : Nat
  /-- the set held by this lane, and a complete set to apply at the next cycle start -/
  mirror : Option MirrorSet
  mirrorNext : Option MirrorSet
  /-- the drill: a drill is asked for, running in this cycle, failures in succession -/
  drillNow : Bool
  drilling : Bool
  drillFails : Nat
  /-- the guard begins with the next cycle (R280) -/
  guardFresh : Bool
  /-- the token passes to this lane at the next beat 0 -/
  takeNext : Bool
  /-- the old lead gives up at the end of the drill cycle -/
  giveUp : Bool
  /-- the lead has left LIVE for RESYNC and hands the token over in the next beat 0 (R276, R281) -/
  leaving : Bool
  /-- a peer's REJOIN request waits for the lead's reply (R276 step 1) -/
  rejoinWaits : Vector Bool 2
  /-- re-entry (R276, R277): when RESYNC was entered, the entries of the last 60 s, beats of the present run, the agreed
  state and mirror received, the rejoin bit is set, the lane is accepted at the next cycle -/
  resyncAt : Nat
  resyncs : List Nat
  run : Nat
  gotReply : Bool
  rejoin : Bool
  peerRejoin : Vector Bool 2
  /-- struck by a lane fault before the first agreed HOLD (R581), or OUT until the next start of day -/
  struck : Bool
  /-- DIGEST sent, and when; the digests of the peers; the wait of R332 has ended; a first HOLD has been agreed -/
  digestSent : Bool
  digestAt : Nat
  digests : Vector (Option (BitVec 384 × Nat × BitVec 64)) 2
  waitOver : Bool
  firstHold : Bool
  /-- at the first agreed HOLD no two taking-part lanes held the same serial (R41) -/
  serialBad : Bool
  /-- the books or firmware versions of the taking-part lanes differ: HOLD is not left (R267) -/
  booksDiffer : Bool
  /-- the reference figures of the peers' HELLO frames (R360) -/
  figures : Vector (Option Nat) 2
  /-- the books are being verified again (R268) -/
  reverify : Bool
  /-- the last agreed nax of each axis (R274) -/
  nax : Vector Nat 4
  /-- a fitted lane was lost in the WORKSHOP held (R557) -/
  shopLoss : Bool
  /-- the values of the last agreement, and what it replaced (R311) -/
  values : Agreed
  prior : Prior
  deriving DecidableEq, Repr

def LinkEnd.init : LinkEnd := ⟨0, 0, 0, 0, 0, 0, [], [], [], false, false⟩

/-- At lane reset nothing has been received; the proposal is the state held, BOOT. -/
def WingState.init : WingState where
  links := Vector.replicate 2 .init
  own := none
  closed := true
  got := Vector.replicate 2 none
  last := Vector.replicate 2 none
  missed := Vector.replicate 2 0
  maskMiss := Vector.replicate 2 0
  mask := 0
  alone := 0
  aloneLive := 0
  skew := 0
  posOff := Vector.replicate 4 0
  beatNo := 0
  beatAt := 0
  pending := []
  agreed := []
  proposed := 1
  next := none
  modeOff := 0
  leaseEnd := 0
  oldLead := 3
  tokSeq := 0
  mirrorSeq := 0
  mirror := none
  mirrorNext := none
  drillNow := false
  drilling := false
  drillFails := 0
  guardFresh := false
  takeNext := false
  giveUp := false
  leaving := false
  rejoinWaits := Vector.replicate 2 false
  resyncAt := 0
  resyncs := []
  run := 0
  gotReply := false
  rejoin := false
  peerRejoin := Vector.replicate 2 false
  struck := false
  digestSent := false
  digestAt := 0
  digests := Vector.replicate 2 none
  waitOver := false
  firstHold := false
  serialBad := false
  booksDiffer := false
  figures := Vector.replicate 2 none
  reverify := false
  nax := Vector.replicate 4 0
  shopLoss := false
  values := .init
  prior := .init

end Sys2Proof.Machine
end

