-- ==== Sys2Proof/NetMessages.lean ====
section
/-!
DEFINITION. What reaches a lane on its Virec ring and its CAN buses (Virec Time-Triggered Ring, Network Time, CAN FD
Controllers, Signal Dictionary and Sealed Signals).
-/

namespace Sys2Proof

/-- A ring port: 0 west, 1 east. -/
abbrev Port := Fin 2

/-- A CAN controller of a lane. -/
abbrev Can := Fin 2

/-- A Virec HELLO (R371): node, ring letter, feature level, the rates permitted; where it answers a HELLO, when that was
sent by the receiver's time and received by the sender's, and when it was sent itself, in quarter nanoseconds (R373). The
layout of its payload is not given (assumption 98). -/
structure RingHello where
  node : Nat
  ring : LaneId
  level : Nat
  g1000 : Bool
  g100 : Bool
  answers : Option (Nat × Nat)
  sent : Nat
  deriving DecidableEq, Repr

/-- The payload of a CONTROL cue (R391). `brkE` and `brkW` name the neighbour beyond a break, `restore` the side and
neighbour of a restored link; `drift` is in ns. -/
structure Control where
  state : Nat
  silent : Bool
  resync : Bool
  healed : Bool
  sheet : Nat
  announce : Option Nat
  ack : Option Nat
  brkE : Option Nat
  brkW : Option Nat
  restore : Option (Bool × Nat)
  drift : Int
  node : Nat
  deriving DecidableEq, Repr

/-- The payload of a SYNC cue (R423): the master's time at its cue instant in quarter nanoseconds. -/
structure SyncMsg where
  time : Nat
  master : Nat
  grand : BitVec 64
  locked : Bool
  seq : Nat
  deriving DecidableEq, Repr

/-- A sealed record (R455), and whether its CRC-32C is clean. -/
structure SealedRec where
  handle : Nat
  seq : BitVec 16
  value : List Byte
  crcOk : Bool
  deriving DecidableEq, Repr

/-- The header of a Virec frame (R375). -/
structure RingHeader where
  version : Nat
  type : Nat
  west : Bool
  looped : Bool
  sheet : Nat
  ring : Nat
  hops : Nat
  src : Nat
  cue : Nat
  cycle : BitVec 16
  deriving DecidableEq, Repr

/-- A Virec frame as it arrives at a port (R374): its bytes from the destination address to the FCS; the first bit's moment
is the command's. `links` are the measured delays of the ring's links in the order of the ring description, in quarter
nanoseconds, which R385 takes (assumption 17); `facts` are what checking finds of the command packets in it. -/
structure VirecIn where
  bytes : List Byte
  links : List Nat
  facts : List PacketFacts
  deriving DecidableEq, Repr

/-- A START frame (R377): the starter, its cycle number and sheet, the accumulated path delay in quarter ns. -/
structure StartFrame where
  src : Nat
  time : Nat
  cycle : BitVec 64
  sheet : Nat
  delay : Nat
  deriving DecidableEq, Repr

/-- A CAN frame as a controller receives it (R433, R434); its first bit's moment is the command's. -/
structure CanFrame where
  id : BitVec 29
  ide : Bool
  fdf : Bool
  brs : Bool
  esi : Bool
  remote : Bool
  dlc : Fin 16
  data : List Byte
  deriving DecidableEq, Repr

/-- How a slot of the schedule matrix ends (R437): an error names the last-error code of CN_STAT. -/
inductive SlotEnd where
  | acked
  | ackError
  | error (code : Fin 8)
  | arbLost
  | notBegun
  deriving DecidableEq, Repr

end Sys2Proof
end

