-- ==== Sys2Proof/Syntax.lean ====
section
/-!
DEFINITION. The commands of the block: one constructor for each row of spec/opcode_table.json, in its order.
Every command names the lane it reaches and the moment, in that lane's time base, at which it comes about.
-/

namespace Sys2Proof

/-- A command: an event on a pin or bus, the end of a time the block keeps, a write with an effect of its own, or a
command packet that takes effect. -/
inductive Instr where
  /-- BEAT_START (R29). The lane's beat timer reaches a multiple of 50 µs of lane time and the beat's phases begin. -/
  | beatStart (e : At) (m : Measured)
  /-- PEER_SUMMARY (R258). A SUMMARY frame from a peer or a relay arrives complete on a wing link. -/
  | peerSummary (e : At) (link : Peer) (src : BitVec 2) (h : SummaryHdr) (sm : Summary)
  /-- RECEIVE_DEADLINE (R30). The 24 µs receive deadline passes and the lane agrees on the summaries it holds. -/
  | receiveDeadline (e : At)
  /-- LOOP_DEADLINE_DROP (R32). Loop or task work not finished at its deadline is discarded and counted as a drop. -/
  | loopDeadlineDrop (e : At) (k : DropKind)
  /-- LADDER_CROSSING (R73). A phase current crosses a ladder level and a time-stamped event is queued for the
  understudy. -/
  | ladderCrossing (e : At) (n : Axis) (p : Phase) (level : Fin 8) (up : Bool) (stamp : Nat) (taken : Bool)
  /-- UNDERSTUDY_UPDATE (R78). The understudy integrates flux over the interval since its last update, on a
  switch-state change or at the 2 µs limit. -/
  | understudyUpdate (e : At) (n : Axis)
  /-- DROPPED_UPDATE (R78). An understudy update not complete within 2.0 µs is dropped, and two in succession declare
  rotor lost. -/
  | droppedUpdate (e : At) (n : Axis)
  /-- COPY_DISAGREEMENT (R84). The two hysteresis copies disagree on a switch for over 40 ns and the disagreement is
  counted. -/
  | copyDisagreement (e : At) (n : Axis) (differ : BitVec 6)
  /-- TABLE_PARITY (R89). A table parity error turns the copy's switches off and triggers a reload. -/
  | tableParity (e : At) (n : Axis) (copy : Fin 2)
  /-- DWELL_END (R90). The minimum dwell of a switching state expires and the next lookup may apply. -/
  | dwellEnd (e : At) (n : Axis)
  /-- RATE_HOLD_RELEASE (R91). A turn-on held by the rate limit becomes allowed. -/
  | rateHoldRelease (e : At) (n : Axis)
  /-- ASC_END (R97). The ASCMIN time ends and the axis turns all six switches off for decay. -/
  | ascEnd (e : At) (n : Axis)
  /-- DECAY_DONE (R97). Every phase current has been inside the innermost levels for 100 µs and the understudy is
  re-initialised for the probe. -/
  | decayDone (e : At) (n : Axis)
  /-- RECATCH_FAIL (R97). 20 ms pass after rotor lost without success and the winding set goes out of service. -/
  | recatchFail (e : At) (n : Axis)
  /-- SUBSTITUTE_TIMEOUT (R101). The back-EMF substitute reaches SUBSTMAX and the winding set goes out of service. -/
  | substituteTimeout (e : At) (n : Axis)
  /-- AXIS_ENABLE (R132). A write of DC_CTRL[EN] 1 clears integrators and counters and starts the bootstrap
  precharge. -/
  | axisEnable (e : At) (n : Axis)
  /-- AXIS_DISABLE (R102). A write of DC_CTRL[EN] 0 turns all six switches off and abandons any re-catch or
  substitute. -/
  | axisDisable (e : At) (n : Axis)
  /-- PRECHARGE_END (R132). The precharge time PRE ends and the first table lookup follows. -/
  | prechargeEnd (e : At) (n : Axis) (gateOk : BitVec 3)
  /-- PEAK_TRIP (R124). A peak comparator trips and the conducting switch of the phase turns off. -/
  | peakTrip (e : At) (n : Axis) (p : Phase) (positive : Bool) (taken : Bool)
  /-- VDS_TRIP (R122). A VDS above threshold after blanking turns the switch off softly and marks it unavailable. -/
  | vdsTrip (e : Seen Nat) (n : Axis) (j : Switch)
  /-- CEILING_TRIP (R123). A VDS above the ceiling after arming turns the switch off softly and marks it unavailable. -/
  | ceilingTrip (e : Seen (Nat × Nat)) (n : Axis) (j : Switch)
  /-- TIER1_DECISION (R127). The lane fault manager confirms or widens the trip action within 20 µs of the first
  trip. -/
  | tier1Decision (e : At) (n : Axis)
  /-- GIN_CHANGE (R113). A filtered GIN pin changes and the PE or PS request of a half-bridge changes. -/
  | ginChange (e : At) (n : Axis) (levels : BitVec 6)
  /-- DEAD_TIME_END (R118). The peer has been off for DT with its gate below 2.0 V and the switch turns on. -/
  | deadTimeEnd (e : Seen (Bool × Bool)) (n : Axis) (j : Switch) (inside gateOk : Bool)
  /-- GATE_OFF_FAILURE (R119). A gate commanded off has not fallen below 2.0 V within 2.0 µs. -/
  | gateOffFailure (e : Seen Nat) (n : Axis) (j : Switch)
  /-- VG_LOCKOUT (R130). VG_x falls below 7.5 V and every switch of the lane turns off. -/
  | vgLockout (e : Seen Nat)
  /-- VG_LOCKOUT_PERSIST (R130). A VG_x lockout lasting 100 µs is a lane fault. -/
  | vgLockoutPersist (e : At)
  /-- VG_RECOVER (R130). VG_x rises above 8.0 V and the lockout ends. -/
  | vgRecover (e : Seen Nat)
  /-- BOOTSTRAP_LOCKOUT (R131). A bootstrap supply falls below 7.5 V and its high side turns off and becomes
  unavailable. -/
  | bootstrapLockout (e : Seen Nat) (n : Axis) (p : Phase)
  /-- BOOTSTRAP_RECOVER (R131). A bootstrap supply exceeds 8.0 V and its high side becomes available again. -/
  | bootstrapRecover (e : Seen Nat) (n : Axis) (p : Phase)
  /-- REFRESH_TIMER_RESTART (R134). SH has been low for REFW and the refresh timer restarts. -/
  | refreshTimerRestart (e : Seen Nat) (n : Axis) (p : Phase)
  /-- REFRESH_PENDING (R135). The refresh timer reaches REFT − PEND and a pending refresh is signalled to drive
  control. -/
  | refreshPending (e : At) (n : Axis) (p : Phase)
  /-- REFRESH_INSERT (R136). The refresh timer reaches REFT and a refresh insertion runs. -/
  | refreshInsert (e : At) (n : Axis) (due : BitVec 3) (above : BitVec 3)
  /-- REFRESH_LATE (R137). An insertion held back for 100 µs sets REFLATE. -/
  | refreshLate (e : At) (n : Axis)
  /-- LEAK_CHECK_REQUEST (R141). A write of a GD_LKCTL[REQ] bit requests a hold-release check. -/
  | leakCheckRequest (e : At) (n : Axis) (mask : BitVec 6)
  /-- LEAK_CHECK_START (R141). Once the switch and peer have been off for 100 µs the active pull-down is released. -/
  | leakCheckStart (e : At) (n : Axis) (j : Switch) (bst : Nat)
  /-- LEAK_CHECK_END (R142). The 20 µs window ends, the pull-down is restored and the check passes, fails or is void. -/
  | leakCheckEnd (e : At) (n : Axis) (j : Switch) (r : LeakResult) (sweep : SwitchSweep)
  /-- FAULT_CLEAR (R129). A write to GD_FCLR clears the GD_FAULT bits of the named switches in WORKSHOP. -/
  | faultClear (e : At) (n : Axis) (mask : BitVec 6)
  /-- OV1_ENTER (R146). VM_x reaches OV1 and BCH_x turns on. -/
  | ov1Enter (e : At) (vm : Nat)
  /-- OV1_RELEASE (R146). VM_x falls to OV1 − CHH and the chopper stage is released. -/
  | ov1Release (e : At) (vm : Nat)
  /-- OV2_ENTER (R146). VM_x reaches OV2 and regeneration is inhibited on every axis. -/
  | ov2Enter (e : At) (vm : Nat)
  /-- OV2_RELEASE (R146). VM_x falls to OV2 − RELH and regeneration is permitted again. -/
  | ov2Release (e : At) (vm : Nat)
  /-- OV3_ENTER (R146). VM_x reaches OV3 and axes at speed short-circuit while the others turn off. -/
  | ov3Enter (e : At) (vm : Nat)
  /-- OV3_RELEASE (R146). VM_x stays at or below OV3 − RELH for 1 ms and the stage is released. -/
  | ov3Release (e : Seen Nat) (vm : Nat)
  /-- OVMAX (R146). VM_x reaches OVMAX, every switch turns off and the lane goes OUT. -/
  | ovmax (e : At) (vm : Nat)
  /-- CHOPPER_FAULT (R149). BCS_x shows no conduction 2.0 µs after BCH_x turned on and the chopper is faulted. -/
  | chopperFault (e : At)
  /-- STUCK_CHOPPER (R150). BCS_x conducts for 10 µs with BCH_x off and the lane's sets go out with the supply
  contactor open. -/
  | stuckChopper (e : Seen Nat)
  /-- CHOPPER_MIN_ON_END (R151). The 2.0 µs minimum on time of BCH_x ends. -/
  | chopperMinOnEnd (e : At)
  /-- COUNT_EDGE (R161). An A or B edge passes the filter and arbiter and is decoded into the counter. -/
  | countEdge (e : At) (n : Axis) (edge : EdgeIn)
  /-- INDEX_PULSE (R170). QZ rises in the gated AB state and a qualified index is processed. -/
  | indexPulse (e : Seen (Bool × Nat)) (n : Axis) (ab : BitVec 2)
  /-- SERIAL_FRAME_SEND (R175). The frame period expires and the lane clocks a serial frame from the sensor. -/
  | serialFrameSend (e : At) (n : Axis)
  /-- SERIAL_FRAME (R176). A serial frame ends and is checked, compared with the counter or discarded. -/
  | serialFrame (e : At) (n : Axis) (f : SerialFrameIn)
  /-- RENEG (R175). A write of FB_CTRL[RENEG] starts serial negotiation in HOLD or WORKSHOP. -/
  | reneg (e : At) (n : Axis)
  /-- HALL_TRANSITION (R180). A Hall code change is compared with the counter angle. -/
  | hallTransition (e : At) (n : Axis) (code : BitVec 3)
  /-- HALL_INVALID (R180). A Hall code of 0 or 7 lasting 1 ms sets HALLBAD and invalidates feedback. -/
  | hallInvalid (e : At) (n : Axis)
  /-- PRBARM (R181). A write of FB_CTRL[PRBARM] arms the probe and clears PRBFULL. -/
  | prbarm (e : At) (n : Axis) (sel : BitVec 2)
  /-- PROBE_EDGE (R181). A matching probe edge latches the position and time stamp, or sets PRBOVF. -/
  | probeEdge (e : Seen Nat) (n : Axis) (rising : Bool)
  /-- STALL (R185). No counted edge for STALL ms sets speed to 0 and STILL. -/
  | stall (e : At) (n : Axis)
  /-- LINE_FAULT (R189). A differential input below 100 mV for 1 µs makes the feedback invalid. -/
  | lineFault (e : Seen (Int × Nat)) (n : Axis) (line : FbLine)
  /-- LINE_GOOD (R189). A faulted line has been good for 1 ms, allowing the next re-reference to end the cause. -/
  | lineGood (e : Seen (FbLine × Nat)) (n : Axis)
  /-- LOCKSTEP_MISMATCH (R215). The dual-rail comparator finds L0 and L1 differ, halts both and takes the lane OUT. -/
  | lockstepMismatch (e : At)
  /-- LOCKSTEP_INJECTION (R216). Every 2^16 cycles a mismatch is injected into the comparator and its detection
  checked. -/
  | lockstepInjection (e : At) (detected : Bool)
  /-- VOTE_COPY (R224). A core's copy of a voted transaction arrives at the voter and is matched. -/
  | voteCopy (e : Seen (Fin 65)) (core : Core) (txn : Txn) (selfOk : Bool)
  /-- LAGGARD_WINDOW_CLOSE (R225). The 32 ns window after a decision closes and a missing copy is judged late or a
  pair mismatch. -/
  | laggardWindowClose (e : At)
  /-- LONE_COPY_TIMEOUT (R226). A single copy unmatched for 1.0 µs is no majority and takes the lane OUT. -/
  | loneCopyTimeout (e : At)
  /-- RESYNC_COMPLETE (R236). The joining core is loaded and released and the voter votes three cores again. -/
  | resyncComplete (e : Seen Word)
  /-- RESYNC_TIMEOUT (R237). A core resynchronisation not done in 8.0 µs marks the core unusable. -/
  | resyncTimeout (e : At)
  /-- SPREAD_HIGH (R229). The core pace spread exceeds 2.00 % for 20 µs and VCORE_x is raised. -/
  | spreadHigh (e : At)
  /-- SPREAD_PERSIST (R229). The spread stays above 2.00 % for 100 µs at the maximum target and is a lane fault. -/
  | spreadPersist (e : At)
  /-- EXERCISE (R244). Every 2^16 cycles the voter corrupts one copy on purpose and checks detection. -/
  | exercise (e : At) (missed : Bool)
  /-- EXNOW (R249). A write of TV_CMD[EXNOW] in WORKSHOP runs the next exercise at the next exercise beat. -/
  | exnow (e : At)
  /-- WING_HELLO (R256). A HELLO frame trains a wing link and carries presence, time and reference figure. -/
  | wingHello (e : At) (p : Peer) (h : FrameHdr) (figure : BitVec 16) (time dur : Nat) (synced : Bool)
  /-- FRAME_RESEND (R255). An unacknowledged non-summary frame is sent again after 20 µs. -/
  | frameResend (e : At) (p : Peer)
  /-- LINK_SILENCE (R256). No valid frame for 200 µs declares an UP link LOST. -/
  | linkSilence (e : At) (p : Peer)
  /-- COMMAND_SEGMENT (R264). A forwarded command packet arrives in COMMAND segments and is checked in full. -/
  | commandSegment (e : At) (p : Peer) (h : FrameHdr) (seg : List Byte) (facts : PacketFacts)
  /-- COMMAND_EXPIRY (R266). A command not agreed within 100 µs expires with NOTAGREED. -/
  | commandExpiry (e : At) (fp : BitVec 64)
  /-- MIRROR (R279). A MIRROR segment of the lead's mirror set is received. -/
  | mirror (e : At) (p : Peer) (h : FrameHdr) (complete crcOk : Bool) (m : Machine.MirrorSet)
  /-- TOKEN (R278). The lead's TOKEN frame renews the lead lease. -/
  | token (e : At) (p : Peer) (h : FrameHdr) (seq mirrorSeq leaseEnd : Nat)
  /-- LEAD_LEASE_EXPIRY (R280). The lead lease expires without renewal and the token guard starts. -/
  | leadLeaseExpiry (e : At)
  /-- TOKEN_GUARD_END (R280). The 2-cycle guard ends and the next LIVE lane takes the token. -/
  | tokenGuardEnd (e : At)
  /-- HANDOVER_DRILL (R281). Every 2^12 cycles or when the lead leaves LIVE, the lead sends HANDOVER. -/
  | handoverDrill (e : At)
  /-- HANDOVER (R281). A HANDOVER frame is compared with the standby's mirror CRC and the token passes or the drill
  fails. -/
  | handover (e : At) (p : Peer) (h : FrameHdr) (crc : Word)
  /-- DRILLNOW (R289). A write of WG_CTRL[DRILLNOW] in WORKSHOP runs a drill at the next cycle. -/
  | drillnow (e : At)
  /-- RETRAIN (R289). A write of WG_CTRL[RETRAIN] in HOLD or WORKSHOP returns a DOWN link to TRAIN. -/
  | retrain (e : At)
  /-- OUT_FRAME (R273). An OUT frame from a peer declares it lost. -/
  | outFrame (e : At) (p : Peer) (h : FrameHdr)
  /-- REJOIN (R276). A REJOIN request or reply carries the agreed state and mirror set for re-entry. -/
  | rejoin (e : At) (p : Peer) (h : FrameHdr) (reply : Option (Nat × Machine.MirrorSet))
  /-- RESYNC_LANE_TIMEOUT (R277). A RESYNC lane that has not rejoined within 100 ms goes OUT. -/
  | resyncLaneTimeout (e : At)
  /-- DIGEST (R267). A peer's DIGEST frame with full digest, firmware version and serial arrives at start. -/
  | digest (e : At) (p : Peer) (h : FrameHdr) (d : BitVec 384) (version : Nat) (serial : BitVec 64)
  /-- DIGEST_WAIT_END (R332). The 200 ms DIGEST wait ends and peers without DIGEST are treated as not started. -/
  | digestWaitEnd (e : At)
  /-- PROMPT_BOOK_REVERIFY (R268). Keepers finish re-verifying their books after a digest difference and the
  survivors are chosen. -/
  | promptBookReverify (e : At) (passed : BitVec 3)
  /-- CURTAIN_ENTRY (R285). Ground speed below the stop threshold for 1.0 s, or 5.0 s after the profile with every
  axis STILL, enters CURTAIN. -/
  | curtainEntry (e : At)
  /-- TICKET_REQUEST (R305). An activity queues a ticket, which is refused at once if it exceeds a ledger limit. -/
  | ticketRequest (e : At) (cost : Cost) (target : Nat)
  /-- TICKETED_WORK_END (R303). A ticketed activity ends and the prompter decides sales again. -/
  | ticketedWorkEnd (e : At) (id : Nat)
  /-- TICKET_STARVED (R305). A ticket waits MAXWAIT cycles and a starvation hold begins. -/
  | ticketStarved (e : At) (id : Nat)
  /-- COMMITMENT_RELEASE (R292). 5 ms after an activity ends its die-heat commitment is released. -/
  | commitmentRelease (e : At) (id : Nat)
  /-- SUP_LEDGER_CLOSE (R299). VIN_x stays 0.5 V above PW_RESERVE for 10 ms and the SUP ledger closes. -/
  | supLedgerClose (e : At)
  /-- GAUGE_READ (R45). Every 5 µs the pace gauges are read and deficits detected. -/
  | gaugeRead (e : At) (logic power : Vector Nat 16)
  /-- DEFICIT_PERSIST (R50). A deficit lasting 100 µs at the maximum target, or a power-die deficit, is a lane fault. -/
  | deficitPersist (e : At) (power : Bool)
  /-- VCORE_STEP (R47). Every 2 µs the VCORE_x target moves one 5 mV step toward its goal. -/
  | vcoreStep (e : At)
  /-- VCORE_RISE_DONE (R48). PW_VCSET[MEAS] reaches 0.74 V and gate drivers may turn on. -/
  | vcoreRiseDone (e : At) (meas : Nat)
  /-- VCORE_RISE_TIMEOUT (R51). VCORE_x not at 0.74 V within 90 µs is a core under-voltage. -/
  | vcoreRiseTimeout (e : Seen Nat)
  /-- CORE_UNDERVOLTAGE (R51). VCORE_x below 0.715 V for 2 µs is a lane fault. -/
  | coreUndervoltage (e : Seen Nat) (meas : Nat)
  /-- CORE_OVERVOLTAGE (R62). VCORE_x above 0.93 V for 2 µs starts the power-down sequence with no restart. -/
  | coreOvervoltage (e : Seen Nat) (meas : Nat)
  /-- LATE_CROSSING (R52). A clocked-island crossing completes late and is counted. -/
  | lateCrossing (e : At) (excess : Nat)
  /-- REFERENCE_LOSS (R54). XIN_x absent or off frequency for 20 µs is a lane fault. -/
  | referenceLoss (e : Seen (Nat × Nat))
  /-- PLL_UNLOCK (R54). The PLL leaves lock and the lane goes OUT. -/
  | pllUnlock (e : At)
  /-- POWER_UP (R57). VIN_x rises above 6.8 V and the power die starts the power-up sequence. -/
  | powerUp (e : Seen Nat) (latchKept : Bool)
  /-- PLL_LOCK (R53). The PLL locks to the reference and the core supply is started. -/
  | pllLock (e : At)
  /-- SUPPLY_WINDOW_MISS (R58). A supply misses its window, the sequence stops and supplies are withdrawn. -/
  | supplyWindowMiss (e : Seen (Fin 4))
  /-- SUPPLY_RETRY (R58). 50 ms after a failure the power-up sequence is retried, up to three times. -/
  | supplyRetry (e : At)
  /-- LOGIC_RELEASE (R57). The supplies are up and the logic die leaves reset and the keeper starts. -/
  | logicRelease (e : Seen Nat) (bootv18 : Bool)
  /-- VIN_RESERVE (R59). VIN_x falls below PW_RESERVE and the SUP ledger opens. -/
  | vinReserve (e : At) (vin : Nat)
  /-- VIN_UNDERVOLTAGE (R60). VIN_x below 6.0 V starts the hardware power-down sequence. -/
  | vinUndervoltage (e : Seen Nat)
  /-- SHUTDOWN_SEQUENCE_END (R61). VDD1 falls below 10 % and the lane restarts from power-up unless an over-voltage
  caused it. -/
  | shutdownSequenceEnd (e : Seen Bool) (vinBack : Bool)
  /-- TEMPERATURE_WARNING (R67). A die temperature reaches PW_TLIM[WARN] and the heat allowance is lowered. -/
  | temperatureWarning (e : At) (ld pd : Int × Int)
  /-- TEMPERATURE_TRIP (R67). A die temperature at PW_TLIM[TRIP] for 1 ms is a lane fault. -/
  | temperatureTrip (e : At) (temps : Temps) (held : Nat)
  /-- MEMORY_INIT_DONE (R323). LPDDR4X training and start-region initialisation complete and ECCON is set. -/
  | memoryInitDone (e : At) (size : Fin 5)
  /-- FIRMWARE_VERIFIED (R323). The keeper finishes verifying the firmware slot and enters REHEARSAL, or tries the
  other slot. -/
  | firmwareVerified (e : At)
  /-- REHEARSAL_STEP_DONE (R344). A start-of-day rehearsal step completes with pass or fail. -/
  | rehearsalStepDone (e : At) (step : Fin 10) (r : StepResult)
  /-- SCRIPT_CHECK (R330). Rehearsal ends, the lane sends DIGEST and checks the prompt book. -/
  | scriptCheck (e : At)
  /-- SCRIPT_CHECK_DONE (R330). The lane's prompt-book checks complete with acceptance or a refusal code. -/
  | scriptCheckDone (e : At)
  /-- MEMORY_ROTATION (R351). Every MEMPER cycles a stage-memory bank is copied to the rotation bank. -/
  | memoryRotation (e : At)
  /-- BANK_SWAP (R351). The copy completes and the bank map swaps between two accesses. -/
  | bankSwap (e : At)
  /-- MARCH_DONE (R353). The march of an isolated bank completes and it becomes the rotation bank or unusable. -/
  | marchDone (e : At) (bits : List (Fin 2048 × Fin 32 × Fin 39))
  /-- ECC_CORRECTED (R352). ECC corrects an error, which is reported and may add a row to the repair list. -/
  | eccCorrected (e : At) (bank : Fin 17) (row : Fin 2048) (word : Fin 32) (bit : Fin 39)
  /-- COMPARATOR_ROTATION (R356). Every CMPPER cycles the stand-in takes over and relieves the next current
  comparator. -/
  | comparatorRotation (e : At) (r : Option (Vector (CodeSweep × CodeSweep) 12))
  /-- TWIN_SWEEP (R358). A rotation step sweeps one twin of a monitor while the other acts. -/
  | twinSweep (e : At) (sweep : Option MonitorSweep)
  /-- LINK_MARGIN_SCAN (R361). A margin scan compares the offset sampler and may declare the link LOST. -/
  | linkMarginScan (e : At) (p : Peer) (errors : Nat)
  /-- RERUN (R365). A write of BI_CMD[RERUN] reruns start-of-day step BLK in HOLD or WORKSHOP. -/
  | rerun (e : At) (blk : BitVec 8)
  /-- PHY_LINK (R371). A ring PHY reports link and the port starts neighbour negotiation. -/
  | phyLink (e : Seen Word) (p : Port)
  /-- VIREC_HELLO_SEND (R371). A port sends a Virec HELLO every 100 µs before admission and every 100 ms after. -/
  | virecHelloSend (e : At) (p : Port)
  /-- VIREC_HELLO (R373). A Virec HELLO is received and used for rate, level and link delay. -/
  | virecHello (e : At) (p : Port) (h : RingHello)
  /-- RATE_TIMEOUT (R372). A rate attempt of 50 ms fails and the port tries the next rate. -/
  | rateTimeout (e : At) (p : Port)
  /-- CUE_INSTANT (R379). The cycle starts: received data is applied and own cue data sampled. -/
  | cueInstant (e : At) (figure : BitVec 16)
  /-- CUE_SEND (R390). A node sends its own cue frame at START under the transmit guardian. -/
  | cueSend (e : At) (cue late size : Nat)
  /-- CUE_FRAME (R388). A Virec CUE frame arrives and is judged against the cue windows. -/
  | cueFrame (e : At) (p : Port) (f : VirecIn)
  /-- CUE_WINDOW_END (R389). A cue window ends with no accepted frame and the cue is empty. -/
  | cueWindowEnd (e : At) (cue : Nat) (links : List Nat)
  /-- PORT_BREAK (R405). A port breaks on link loss, sync loss or empty cues and the break is announced. -/
  | portBreak (e : Seen Nat) (p : Port)
  /-- COLD_START (R401). A cold starter in LISTEN for VR_CS[LISTEN] cycles sends START. -/
  | coldStart (e : At)
  /-- START_FRAME (R402). A START frame arrives and is adopted, discarded or closes the ring. -/
  | startFrame (e : At) (p : Port) (f : VirecIn)
  /-- SHANN (R400). A write of VR_CMD[SHANN] announces the sheet change in SHEET. -/
  | shann (e : At) (sheet : Fin 8)
  /-- REINT (R411). A write of VR_CMD[REINT] in HOLD or WORKSHOP returns the ring state to LISTEN. -/
  | reint (e : At)
  /-- STEP (R416). A write of TM_STEP requests a time step, refused beyond THR. -/
  | step (e : At) (step : Int)
  /-- STEP_APPLY (R416). A pending step is applied at 45 µs of the last beat of the cycle. -/
  | stepApply (e : At)
  /-- INCR (R415). A write of TM_INCR changes the time-base increment at the next tick. -/
  | incr (e : At) (w : Word)
  /-- SYNC_LOSS (R421). No SYNC for TM_CFG[LOSS] cycles enters HOLDOVER. -/
  | syncLoss (e : At)
  /-- TIME_LATCH (R426). A read of TM_NS latches the whole lane time. -/
  | timeLatch (e : At)
  /-- CAN_FRAME_RECEIVED (R433). A received CAN frame is stored in the first matching receive buffer. -/
  | canFrameReceived (e : At) (k : Can) (f : CanFrame)
  /-- CAN_SLOT (R437). A schedule entry fires at START and the controller begins its frame. -/
  | canSlot (e : At) (k : Can) (entry : Fin 64)
  /-- CAN_SLOT_END (R437). A slot ends with acknowledgement, error, lost arbitration or a miss. -/
  | canSlotEnd (e : At) (k : Can) (r : SlotEnd)
  /-- BUS_OFF_DELAY (R441). After DELAY in bus-off the lane application writes RECOVER if BOCNT allows. -/
  | busOffDelay (e : At) (k : Can)
  /-- RECOVER (R441). A write of CN_CMD[RECOVER] starts the bus-off recovery sequence. -/
  | recover (e : At) (k : Can)
  /-- RECOVERY_DONE (R441). The recovery sequence ends and the controller is error active. -/
  | recoveryDone (e : At) (k : Can)
  /-- FRESH_ACK (R434). A write of FRESH with SEEN acknowledges a stored frame. -/
  | freshAck (e : At) (k : Can) (b : Fin 64) (seen : BitVec 4)
  /-- ADDRESS_CLAIM (R431). The lane application claims its ISO 11783 address in QUEUE slots. -/
  | addressClaim (e : At) (k : Can) (b : Fin 64) (won : Option Bool)
  /-- WINDOW_LATCH (R459). A write of SG_HSELs latches a dictionary entry into the seat window. -/
  | windowLatch (e : At) (w : Seat) (handle : BitVec 20)
  /-- COMMIT (R459). A write of SG_WCMDs[COMMIT] writes WDAT to the handle if seat s is its source. -/
  | commit (e : At) (w : Seat)
  /-- SEAT_WRITE (R466). A WRITE transaction on SEAT_x delivers one command packet. -/
  | seatWrite (e : At) (waiting : Fin 3) (bytes : List Byte) (facts : PacketFacts)
  /-- SEAT_READ (R466). A READ transaction returns the oldest queued reply. -/
  | seatRead (e : At) (whole : Bool)
  /-- SEAT_STATUS (R466). A STATUS transaction returns room and reply count. -/
  | seatStatus (e : At) (waiting : Fin 3)
  /-- CAN_SEGMENT (R469). A seat packet segment arrives on CAN and is assembled. -/
  | canSegment (e : At) (k : Seat) (first last : Bool) (index : Fin 64) (number : Byte) (pkt : PacketIn)
  /-- CAN_TRANSFER_TIMEOUT (R469). A CAN transfer incomplete 8 cycles after its first segment is discarded. -/
  | canTransferTimeout (e : At) (k : Seat)
  /-- SESSION_OPEN (R473). Opens a session by ECDH key derivation and unwrapping the session keys. -/
  | sessionOpen (e : At) (h : Hdr) (path : Option Path) (key : BitVec 64) (sigOk unwrapOk : Bool)
  /-- SESSION_CLOSE (R476). Ends the seat's session. -/
  | sessionClose (e : At) (h : Hdr) (path : Option Path)
  /-- PING (R482). Echoes the payload with LC_STATE and lane time. -/
  | ping (e : At) (h : Hdr) (path : Option Path) (data : List Byte)
  /-- READ_REG (R485). Reads up to 64 words of the lane register space. -/
  | readReg (e : At) (h : Hdr) (path : Option Path) (addr count : Nat)
  /-- WRITE_REG (R486). Writes up to 254 words at its effect beat, refusing all on any refused word. -/
  | writeReg (e : At) (h : Hdr) (path : Option Path) (addr count : Nat) (words : List Word)
  /-- SPOT_REQUEST (R490). Requests the spotlight, with optional preemption. -/
  | spotRequest (e : At) (h : Hdr) (path : Option Path) (preempt : Bool)
  /-- SPOT_RENEW (R492). The holder renews its lease. -/
  | spotRenew (e : At) (h : Hdr) (path : Option Path)
  /-- SPOT_RELEASE (R582). The holder releases the lease or a reserved seat cancels its reservation. -/
  | spotRelease (e : At) (h : Hdr) (path : Option Path)
  /-- SPOT_QUERY (R482). Returns the spotlight state. -/
  | spotQuery (e : At) (h : Hdr) (path : Option Path)
  /-- SPOT_LEASE_EXPIRY (R488). A lease reaches its end cycle and the gap and default begin. -/
  | spotLeaseExpiry (e : At)
  /-- FROZEN_TIMEOUT (R493). No grant by e + 4 after a preemption revocation and the default acts. -/
  | frozenTimeout (e : At)
  /-- ARM (R555). Requests HOLD to ARMED after its checks. -/
  | arm (e : At) (h : Hdr) (path : Option Path)
  /-- PERFORM (R553). Requests ARMED to PERFORMING. -/
  | perform (e : At) (h : Hdr) (path : Option Path)
  /-- SETPOINT (R577). Writes 1–4 axis references into LE_PREF. -/
  | setpoint (e : At) (h : Hdr) (path : Option Path) (entries : List SetEntry)
  /-- DISARM (R553). Requests a return to HOLD with every axis STILL. -/
  | disarm (e : At) (h : Hdr) (path : Option Path)
  /-- STOP (R493). Ends any lease and runs the stop default. -/
  | stop (e : At) (h : Hdr) (path : Option Path)
  /-- WORKSHOP_ENTER (R553). Requests WORKSHOP from HOLD or CURTAIN. -/
  | workshopEnter (e : At) (h : Hdr) (path : Option Path)
  /-- WORKSHOP_LEAVE (R557). Requests HOLD from WORKSHOP. -/
  | workshopLeave (e : At) (h : Hdr) (path : Option Path)
  /-- PB_STATUS (R335). Returns the prompt-book status payload. -/
  | pbStatus (e : At) (h : Hdr) (path : Option Path)
  /-- PB_LOAD_BEGIN (R340). Opens a prompt-book load session into the inactive slot. -/
  | pbLoadBegin (e : At) (h : Hdr) (path : Option Path) (length : Nat) (digest : BitVec 384)
  /-- PB_LOAD_DATA (R483). Writes prompt-book data at an offset. -/
  | pbLoadData (e : At) (h : Hdr) (path : Option Path) (offset count : Nat)
  /-- PB_LOAD_END (R483). Closes the load, verifies the image and writes the slot record. -/
  | pbLoadEnd (e : At) (h : Hdr) (path : Option Path) (readBack : Bool) (book : Book)
  /-- PB_ACTIVATE (R342). Re-enters SCRIPT CHECK with the new prompt book. -/
  | pbActivate (e : At) (h : Hdr) (path : Option Path)
  /-- PB_ABORT (R483). Closes an open load session leaving the inactive slot invalid. -/
  | pbAbort (e : At) (h : Hdr) (path : Option Path)
  /-- REH_REPORT (R482). Returns the BI registers. -/
  | rehReport (e : At) (h : Hdr) (path : Option Path)
  /-- REH_RERUN (R365). Reruns a start-of-day rehearsal step. -/
  | rehRerun (e : At) (h : Hdr) (path : Option Path) (step : Nat)
  /-- REH_TASK (R365). Runs a rehearsal motion or brake-test task in WORKSHOP. -/
  | rehTask (e : At) (h : Hdr) (path : Option Path) (index : Nat)
  /-- LOG_INFO (R482). Returns house-log capacity and record range. -/
  | logInfo (e : At) (h : Hdr) (path : Option Path)
  /-- LOG_READ (R484). Returns whole house-log records from a number. -/
  | logRead (e : At) (h : Hdr) (path : Option Path) (first largest : Nat)
  /-- LOG_MARK (R484). Writes a text mark into the house log. -/
  | logMark (e : At) (h : Hdr) (path : Option Path) (text : List Byte)
  /-- TIME_READ (R482). Returns lane time and time-service state. -/
  | timeRead (e : At) (h : Hdr) (path : Option Path)
  /-- TIME_ECHO (R482). Returns lane time at packet arrival and reply queueing. -/
  | timeEcho (e : At) (h : Hdr) (path : Option Path) (arrival : Nat)
  /-- ID_INFO (R482). Returns identity and revision registers. -/
  | idInfo (e : At) (h : Hdr) (path : Option Path)
  /-- ID_CERT (R531). Returns a slice of a DER certificate. -/
  | idCert (e : At) (h : Hdr) (path : Option Path) (index offset : Nat)
  /-- ATTEST (R534). Returns a signed attestation report over a seat nonce. -/
  | attest (e : At) (h : Hdr) (path : Option Path) (nonce : BitVec 256)
  /-- FW_STATUS (R482). Returns firmware versions, counter and slots. -/
  | fwStatus (e : At) (h : Hdr) (path : Option Path)
  /-- FW_LOAD_BEGIN (R340). Opens a firmware load session. -/
  | fwLoadBegin (e : At) (h : Hdr) (path : Option Path) (length : Nat) (digest : BitVec 384)
  /-- FW_LOAD_DATA (R483). Writes firmware data at an offset. -/
  | fwLoadData (e : At) (h : Hdr) (path : Option Path) (offset count : Nat)
  /-- FW_LOAD_END (R483). Closes and verifies the firmware load. -/
  | fwLoadEnd (e : At) (h : Hdr) (path : Option Path) (readBack : Bool) (image : FwImage)
  /-- FW_RESTART (R341). Restarts every LIVE lane at one cycle start. -/
  | fwRestart (e : At) (h : Hdr) (path : Option Path)
  /-- FW_COMMIT (R341). Burns the fused counter to the running security version. -/
  | fwCommit (e : At) (h : Hdr) (path : Option Path)
  /-- CONFIRM_CHECK (R338). Confirms the SAFETY check value and records it in the keeper. -/
  | confirmCheck (e : At) (h : Hdr) (path : Option Path) (value : Word)
  /-- CART_ACCEPT (R542). Accepts an unauthenticated cartridge digest on an axis. -/
  | cartAccept (e : At) (h : Hdr) (path : Option Path) (axis : Nat) (digest : BitVec 384)
  /-- LIFE_ACK (R546). Acknowledges an over-life cartridge and runs it restricted. -/
  | lifeAck (e : At) (h : Hdr) (path : Option Path) (axis : Nat)
  /-- SAFETY_STATUS (R529). Returns the 16-byte safety summary. -/
  | safetyStatus (e : At) (h : Hdr) (path : Option Path)
  /-- CLAIM (R504). A read of CB_CLAIMs in the lead claims the presented source for the seat. -/
  | claim (e : At) (seat : Seat)
  /-- COMPLETION (R505). A write to CB_COMPLs completes an active source. -/
  | completion (e : At) (seat : Seat) (src : Fin 512)
  /-- SAFETY_INPUT_CHANGE (R517). A filtered safety input pair changes state and own demand follows. -/
  | safetyInputChange (e : Seen Nat) (k : Fin 8) (pos neg : Bool)
  /-- DISCREPANCY_FAULT (R517). A pair discrepant longer than DISC has a discrepancy fault. -/
  | discrepancyFault (e : At) (k : Fin 8)
  /-- GT_SEEN_OPEN (R518). A GT input low for FILT after BOOT sets GTOK. -/
  | gtSeenOpen (e : Seen Nat) (m : Fin 2)
  /-- RESET_BUTTON (R522). A falling edge of SRS_x is judged a valid, short or stuck-ending reset. -/
  | resetButton (e : At) (high low : Nat)
  /-- RESET_STUCK (R522). SRS_x high for more than 2 s sets RSTUCK. -/
  | resetStuck (e : Seen Nat)
  /-- RESET_SINGLE (R523). A valid reset finds no partner within RWIN and has no effect. -/
  | resetSingle (e : At)
  /-- KO_COMMAND (R524). A write of SF_KOCMD commands SEAT outputs. -/
  | koCommand (e : At) (cmd : BitVec 4)
  /-- CONTACTOR_CHECK (R525). 50 ms after a KO change the feedback must show the commanded state. -/
  | contactorCheck (e : At) (m : Fin 4) (high : Bool)
  /-- CONTACTOR_FAULT (R525). A feedback disagreement for 10 ms latches NOCLOSE or WELD. -/
  | contactorFault (e : Seen Nat) (m : Fin 4) (high : Bool)
  /-- KO_OVERCURRENT (R525). Output current over the limit for 50 µs turns the output off and latches OC. -/
  | koOvercurrent (e : Seen Nat) (m : Fin 4)
  /-- KO_SHORT (R525). Output voltage above 5.0 V for 10 ms while off latches SHORT. -/
  | koShort (e : Seen Nat) (m : Fin 4)
  /-- TAMPER (R535). A tamper sensor trips, gates go off, keys are erased and the lane resets. -/
  | tamper (e : At) (r : TamperReading)
  /-- DEBUG_CHALLENGE (R537). A debug-port read returns a fresh 32-byte challenge. -/
  | debugChallenge (e : At)
  /-- DEBUG_UNLOCK (R537). A verified unlock token burns the erase fuse and opens the debug port. -/
  | debugUnlock (e : At) (token : DebugToken)
  /-- CARTRIDGE_AUTH (R540). After serial lock the lane starts authenticating the cartridge. -/
  | cartridgeAuth (e : At) (n : Axis)
  /-- CARTRIDGE_AUTH_DONE (R540). Cartridge authentication ends with PASS or FAIL. -/
  | cartridgeAuthDone (e : At) (n : Axis) (r : CartRead)
  /-- PLAYBILL_WRITE (R545). Every 10 min the lane writes its playbill record to the cartridge. -/
  | playbillWrite (e : At) (failed : Option (BitVec 4))
  /-- CORRUPTED_FRAME (R251). A wing-link frame that fails its CRC, has a wrong length or a reserved type arrives, is
  discarded and counted, and the sixteenth such frame in a cycle declares the link LOST. -/
  | corruptedFrame (e : Seen (List Byte)) (p : Peer)
  /-- MEMORY_SUPPLY_FAULT (R68). An LPDDR4X supply made by the power die leaves its limits in service and
  PW_SUPEVT[MEMSUP] is set. -/
  | memorySupplyFault (e : At) (rail : Fin 3)
  /-- CAN_RECEIVE_ERROR (R440). A CAN controller detects an error in a frame it is receiving, raises REC under ISO
  11898-1 and may enter error passive. -/
  | canReceiveError (e : At) (k : Can) (code : Option (Fin 8)) (eight : Bool)
  /-- GT_INPUT_CHANGE (R518). After GTOK is set, a filtered GT input changes level and its own demand follows it, 1
  when low. -/
  | gtInputChange (e : Seen Nat) (m : Fin 2) (high : Bool)
  /-- TEST_HIGH (R570). TEST_x is seen high, and the lane holds every gate driver off and stays in BOOT and OUT until
  VIN_x is removed. -/
  | testHigh (e : At)
  /-- SEAT_OTHER_TRANSACTION (R466). A SEAT_x transaction whose first byte is not WRITE, READ or STATUS is ignored
  until SEATCS_x rises and is counted in HS_CNT2[FRAME]. -/
  | seatOtherTransaction (e : At)
  /-- CHOPPER_INTERVAL_END (R151). 20 µs after BCH_x last turned on, a chopper turn-on held back while OV1 is still
  active is made. -/
  | chopperIntervalEnd (e : At)
  deriving DecidableEq, Repr

/-- The lane and moment of a command. -/
def Instr.at : Instr → At
  | .beatStart e _ => e
  | .peerSummary e _ _ _ _ => e
  | .receiveDeadline e => e
  | .loopDeadlineDrop e _ => e
  | .ladderCrossing e _ _ _ _ _ _ => e
  | .understudyUpdate e _ => e
  | .droppedUpdate e _ => e
  | .copyDisagreement e _ _ => e
  | .tableParity e _ _ => e
  | .dwellEnd e _ => e
  | .rateHoldRelease e _ => e
  | .ascEnd e _ => e
  | .decayDone e _ => e
  | .recatchFail e _ => e
  | .substituteTimeout e _ => e
  | .axisEnable e _ => e
  | .axisDisable e _ => e
  | .prechargeEnd e _ _ => e
  | .peakTrip e _ _ _ _ => e
  | .vdsTrip e _ _ => e.toAt
  | .ceilingTrip e _ _ => e.toAt
  | .tier1Decision e _ => e
  | .ginChange e _ _ => e
  | .deadTimeEnd e _ _ _ _ => e.toAt
  | .gateOffFailure e _ _ => e.toAt
  | .vgLockout e => e.toAt
  | .vgLockoutPersist e => e
  | .vgRecover e => e.toAt
  | .bootstrapLockout e _ _ => e.toAt
  | .bootstrapRecover e _ _ => e.toAt
  | .refreshTimerRestart e _ _ => e.toAt
  | .refreshPending e _ _ => e
  | .refreshInsert e _ _ _ => e
  | .refreshLate e _ => e
  | .leakCheckRequest e _ _ => e
  | .leakCheckStart e _ _ _ => e
  | .leakCheckEnd e _ _ _ _ => e
  | .faultClear e _ _ => e
  | .ov1Enter e _ => e
  | .ov1Release e _ => e
  | .ov2Enter e _ => e
  | .ov2Release e _ => e
  | .ov3Enter e _ => e
  | .ov3Release e _ => e.toAt
  | .ovmax e _ => e
  | .chopperFault e => e
  | .stuckChopper e => e.toAt
  | .chopperMinOnEnd e => e
  | .countEdge e _ _ => e
  | .indexPulse e _ _ => e.toAt
  | .serialFrameSend e _ => e
  | .serialFrame e _ _ => e
  | .reneg e _ => e
  | .hallTransition e _ _ => e
  | .hallInvalid e _ => e
  | .prbarm e _ _ => e
  | .probeEdge e _ _ => e.toAt
  | .stall e _ => e
  | .lineFault e _ _ => e.toAt
  | .lineGood e _ => e.toAt
  | .lockstepMismatch e => e
  | .lockstepInjection e _ => e
  | .voteCopy e _ _ _ => e.toAt
  | .laggardWindowClose e => e
  | .loneCopyTimeout e => e
  | .resyncComplete e => e.toAt
  | .resyncTimeout e => e
  | .spreadHigh e => e
  | .spreadPersist e => e
  | .exercise e _ => e
  | .exnow e => e
  | .wingHello e _ _ _ _ _ _ => e
  | .frameResend e _ => e
  | .linkSilence e _ => e
  | .commandSegment e _ _ _ _ => e
  | .commandExpiry e _ => e
  | .mirror e _ _ _ _ _ => e
  | .token e _ _ _ _ _ => e
  | .leadLeaseExpiry e => e
  | .tokenGuardEnd e => e
  | .handoverDrill e => e
  | .handover e _ _ _ => e
  | .drillnow e => e
  | .retrain e => e
  | .outFrame e _ _ => e
  | .rejoin e _ _ _ => e
  | .resyncLaneTimeout e => e
  | .digest e _ _ _ _ _ => e
  | .digestWaitEnd e => e
  | .promptBookReverify e _ => e
  | .curtainEntry e => e
  | .ticketRequest e _ _ => e
  | .ticketedWorkEnd e _ => e
  | .ticketStarved e _ => e
  | .commitmentRelease e _ => e
  | .supLedgerClose e => e
  | .gaugeRead e _ _ => e
  | .deficitPersist e _ => e
  | .vcoreStep e => e
  | .vcoreRiseDone e _ => e
  | .vcoreRiseTimeout e => e.toAt
  | .coreUndervoltage e _ => e.toAt
  | .coreOvervoltage e _ => e.toAt
  | .lateCrossing e _ => e
  | .referenceLoss e => e.toAt
  | .pllUnlock e => e
  | .powerUp e _ => e.toAt
  | .pllLock e => e
  | .supplyWindowMiss e => e.toAt
  | .supplyRetry e => e
  | .logicRelease e _ => e.toAt
  | .vinReserve e _ => e
  | .vinUndervoltage e => e.toAt
  | .shutdownSequenceEnd e _ => e.toAt
  | .temperatureWarning e _ _ => e
  | .temperatureTrip e _ _ => e
  | .memoryInitDone e _ => e
  | .firmwareVerified e => e
  | .rehearsalStepDone e _ _ => e
  | .scriptCheck e => e
  | .scriptCheckDone e => e
  | .memoryRotation e => e
  | .bankSwap e => e
  | .marchDone e _ => e
  | .eccCorrected e _ _ _ _ => e
  | .comparatorRotation e _ => e
  | .twinSweep e _ => e
  | .linkMarginScan e _ _ => e
  | .rerun e _ => e
  | .phyLink e _ => e.toAt
  | .virecHelloSend e _ => e
  | .virecHello e _ _ => e
  | .rateTimeout e _ => e
  | .cueInstant e _ => e
  | .cueSend e _ _ _ => e
  | .cueFrame e _ _ => e
  | .cueWindowEnd e _ _ => e
  | .portBreak e _ => e.toAt
  | .coldStart e => e
  | .startFrame e _ _ => e
  | .shann e _ => e
  | .reint e => e
  | .step e _ => e
  | .stepApply e => e
  | .incr e _ => e
  | .syncLoss e => e
  | .timeLatch e => e
  | .canFrameReceived e _ _ => e
  | .canSlot e _ _ => e
  | .canSlotEnd e _ _ => e
  | .busOffDelay e _ => e
  | .recover e _ => e
  | .recoveryDone e _ => e
  | .freshAck e _ _ _ => e
  | .addressClaim e _ _ _ => e
  | .windowLatch e _ _ => e
  | .commit e _ => e
  | .seatWrite e _ _ _ => e
  | .seatRead e _ => e
  | .seatStatus e _ => e
  | .canSegment e _ _ _ _ _ _ => e
  | .canTransferTimeout e _ => e
  | .sessionOpen e _ _ _ _ _ => e
  | .sessionClose e _ _ => e
  | .ping e _ _ _ => e
  | .readReg e _ _ _ _ => e
  | .writeReg e _ _ _ _ _ => e
  | .spotRequest e _ _ _ => e
  | .spotRenew e _ _ => e
  | .spotRelease e _ _ => e
  | .spotQuery e _ _ => e
  | .spotLeaseExpiry e => e
  | .frozenTimeout e => e
  | .arm e _ _ => e
  | .perform e _ _ => e
  | .setpoint e _ _ _ => e
  | .disarm e _ _ => e
  | .stop e _ _ => e
  | .workshopEnter e _ _ => e
  | .workshopLeave e _ _ => e
  | .pbStatus e _ _ => e
  | .pbLoadBegin e _ _ _ _ => e
  | .pbLoadData e _ _ _ _ => e
  | .pbLoadEnd e _ _ _ _ => e
  | .pbActivate e _ _ => e
  | .pbAbort e _ _ => e
  | .rehReport e _ _ => e
  | .rehRerun e _ _ _ => e
  | .rehTask e _ _ _ => e
  | .logInfo e _ _ => e
  | .logRead e _ _ _ _ => e
  | .logMark e _ _ _ => e
  | .timeRead e _ _ => e
  | .timeEcho e _ _ _ => e
  | .idInfo e _ _ => e
  | .idCert e _ _ _ _ => e
  | .attest e _ _ _ => e
  | .fwStatus e _ _ => e
  | .fwLoadBegin e _ _ _ _ => e
  | .fwLoadData e _ _ _ _ => e
  | .fwLoadEnd e _ _ _ _ => e
  | .fwRestart e _ _ => e
  | .fwCommit e _ _ => e
  | .confirmCheck e _ _ _ => e
  | .cartAccept e _ _ _ _ => e
  | .lifeAck e _ _ _ => e
  | .safetyStatus e _ _ => e
  | .claim e _ => e
  | .completion e _ _ => e
  | .safetyInputChange e _ _ _ => e.toAt
  | .discrepancyFault e _ => e
  | .gtSeenOpen e _ => e.toAt
  | .resetButton e _ _ => e
  | .resetStuck e => e.toAt
  | .resetSingle e => e
  | .koCommand e _ => e
  | .contactorCheck e _ _ => e
  | .contactorFault e _ _ => e.toAt
  | .koOvercurrent e _ => e.toAt
  | .koShort e _ => e.toAt
  | .tamper e _ => e
  | .debugChallenge e => e
  | .debugUnlock e _ => e
  | .cartridgeAuth e _ => e
  | .cartridgeAuthDone e _ _ => e
  | .playbillWrite e _ => e
  | .corruptedFrame e _ => e.toAt
  | .memorySupplyFault e _ => e
  | .canReceiveError e _ _ _ => e
  | .gtInputChange e _ _ => e.toAt
  | .testHigh e => e
  | .seatOtherTransaction e => e
  | .chopperIntervalEnd e => e

end Sys2Proof
end

