-- ==== Sys2Proof/Machine/Outputs.lean ====
section
/-!
DEFINITION. What leaves a lane: the records of its house log and what it puts on its outputs during one command.
-/

namespace Sys2Proof.Machine

/-- What a house-log record holds. The spec names what is recorded and, but for the text mark, no format. -/
inductive LogEntry where
  /-- the trim of an axis reached its limit (R79) -/
  | trimLimit (n : Axis)
  /-- the feedback of an axis is implausible against the back-EMF angle (R100) -/
  | implausible (n : Axis)
  /-- the cause of the shutdown that came before, read from the latch, or none (R62) -/
  | overvoltageCause
  | noCause
  /-- the cause of a switch's trip (R127) -/
  | switchTrip (n : Axis) (j : Switch) (ceiling : Bool)
  /-- an odd event, a resynchronisation, a core marked unusable (R242), the lag of a cycle in 0.1 ns (R230) -/
  | oddCore (c : Core) (kind : Nat)
  | resynced (c : Core)
  | coreUnusable (c : Core)
  | skew (lag : Nat)
  /-- a CAN controller entered bus-off (R441) -/
  | busOff (k : Can)
  /-- a change of the fault-class bitmap (R552) -/
  | faults (old new : BitVec 64)
  /-- the prompt book is refused, with the content of R335 (R336) -/
  | bookRefused (code section_ offset : Nat)
  /-- a rehearsal step or its rerun ended (R365), blocks are unusable: BI_UNUS and LC_ENGSTAT[UNUS] (R363), a failing bit
  of stage memory (R352) -/
  | stepDone (k : Nat) (rerun failed : Bool)
  | unusable (blocks : Word) (engines : Nat)
  /-- the cause of a tamper reset (R535) -/
  | tampered (cause : Nat)
  /-- a cartridge is accepted for a seat (R542); the replace notice of an axis (R546); the loss of hold force (R563) -/
  | cartAccepted (n : Axis) (seat : Nat)
  | replaceNotice (n : Axis)
  | holdLost
  | memory (bank row word bit : Nat) (ecc : Bool)
  /-- an AUTH failure (R472); the text of LOG_MARK (R482) -/
  | authFailed (seat : Seat) (detail : Nat)
  | mark (text : List Byte)
  deriving DecidableEq, Repr

/-- A record of the house log, with its number and the lane time. -/
structure LogRecord where
  num : Nat
  time : Nat
  entry : LogEntry
  deriving DecidableEq, Repr

/-- What a lane puts on its outputs. -/
inductive Emission where
  /-- the bytes of a frame on the wing link to a peer (R251) and what they carry (R253); the beat summary (R254), a summary
  relayed unchanged (R257) -/
  | wing (link : Peer) (bytes : List Byte) (f : WingFrame)
  | summary (link : Peer) (bytes : List Byte) (s : Summary)
  | relay (link : Peer) (bytes : List Byte) (s : Summary)
  /-- bytes shifted out on SEAT_x in a READ and in a STATUS transaction (R466) -/
  | seatOut (bytes : List Byte)
  | seatStatus (bytes : List Byte)
  /-- a HELLO on a ring port (R371); the bytes of an own frame, a forwarded frame from the destination address to the FCS
  (R374, R377, R384, R390) -/
  | ringHello (p : Port) (h : RingHello)
  | ringFrame (p : Port) (bytes : List Byte)
  | ringForward (p : Port) (bytes : List Byte)
  /-- a frame on a CAN bus (R437) -/
  | canFrame (k : Can) (f : CanFrame)
  /-- the challenge at the debug port (R537); the challenge to a cartridge (R540), the 128 bytes of the playbill record written
  to it (R544, R545) -/
  | challenge (c : Nat)
  | cartChallenge (n : Axis) (c : Nat)
  | playbill (n : Axis) (record : List Byte)
  /-- VREFC_x at half of this target of VCORE_x in mV, VCEN_x, a memory supply (0 VDD1, 1 VDD2, 2 VDDQ) switched on or off
  (R47, R56, R57, R60) -/
  | coreReference (target : Nat)
  | coreEnable (on : Bool)
  | rail (r : Fin 3) (on : Bool)
  /-- a change of a KO output (R524) -/
  | ko (m : Fin 4) (on : Bool)
  deriving DecidableEq, Repr

end Sys2Proof.Machine
end

