-- ==== Sys2Proof/Machine/Wire.lean ====
section
/-!
DEFINITION. The bytes on a wing link: frames, headers and the layout of the beat summary (R251 to R253, R258, R259), the
byte order (R8) and CRC-32C. Wing-link frames are outside R8's list; they are taken most-significant byte first as well
(assumption 85).
-/

namespace Sys2Proof.Config

/-- The payload of the wing-link frames whose layout the spec does not give: MIRROR, TOKEN, HANDOVER, REJOIN, DIGEST, HELLO
(assumption 85). -/
opaque wingPayload : Sys2Proof.Machine.WingFrame → List Sys2Proof.Byte

end Sys2Proof.Config

namespace Sys2Proof.Machine

/-- `n` bytes of a number, most significant first (R8). -/
def beBytes : Nat → Nat → List Byte
  | 0, _ => []
  | n + 1, v => BitVec.ofNat 8 (v / 256 ^ n) :: beBytes n v

/-- The number that bytes spell, most significant first (R8). -/
def beNat (bs : List Byte) : Nat := bs.foldl (fun v b => v * 256 + b.toNat) 0

/-- `n` bytes of a signed number in two's complement, most significant first. -/
def beInt (n : Nat) (v : Int) : List Byte := beBytes n (v % (256 ^ n : Nat)).toNat

/-- A reflected CRC of 32 bits with initial value and final inversion of all ones; `poly` is the reflected polynomial. -/
def crcBytes (poly : Word) (bs : List Byte) : Word :=
  let bit (c : Word) : Word := if c.getLsbD 0 then (c >>> 1) ^^^ poly else c >>> 1
  ~~~(bs.foldl (fun c b => (List.range 8).foldl (fun c _ => bit c) (c ^^^ b.setWidth 32)) 0xFFFFFFFF#32)

/-- CRC-32C, polynomial 0x1EDC_6F41 (R251, R470); initial value, order of bits and final inversion as is usual
(assumption 21). -/
def crc32c (bs : List Byte) : Word := crcBytes 0x82F63B78#32 bs

/-- CRC-32 of IEEE 802.3 (R337, R374). -/
def crc32 (bs : List Byte) : Word := crcBytes 0xEDB88320#32 bs

/-- The header of a SUMMARY frame: type 1, link sequence 0, 244 bytes of payload (R252, R253, R258). -/
def summaryFrameHdr (src : BitVec 2) (h : SummaryHdr) : FrameHdr := ⟨1, src, h.dst, 0, h.ack, h.beat, h.cycle, 244⟩

/-- The header of a wing-link frame as bytes (R252). -/
def hdrBytes (h : FrameHdr) : List Byte :=
  [h.kind ++ h.src ++ h.dst, h.seq, h.ack, h.beat] ++ beBytes 2 h.cycle.toNat ++ beBytes 2 h.len.toNat

/-- A frame: header, payload, CRC-32C over both (R251). -/
def frameBytes (h : FrameHdr) (payload : List Byte) : List Byte :=
  let b := hdrBytes h ++ payload
  b ++ beBytes 4 (crc32c b).toNat

/-- A frame as received is kept (R251, R253): its length is that of its length field and at most 256 bytes, its CRC is
right, and its type is not reserved. -/
def frameOk (raw : List Byte) : Bool :=
  let body := raw.take (raw.length - 4)
  let kind := (raw.getD 0 0).toNat / 16
  decide (12 ≤ raw.length ∧ raw.length ≤ 256 ∧ raw.length = 12 + beNat ((raw.drop 6).take 2)) &&
  beNat (raw.drop (raw.length - 4)) == (crc32c body).toNat && decide (1 ≤ kind ∧ kind ≤ 9)

/-- The type code of a frame (R253). -/
def WingFrame.kind : WingFrame → BitVec 4
  | .command _ => 2
  | .mirror _ _ => 3
  | .token _ _ _ => 4
  | .handover _ => 5
  | .out => 6
  | .rejoinRequest | .rejoinReply _ _ => 7
  | .digest _ _ _ => 8
  | .hello _ _ => 9

/-- The payload of a frame: a COMMAND segment is bytes of the packet; OUT and a REJOIN request carry nothing. -/
def WingFrame.payload : WingFrame → List Byte
  | .command b => b
  | .out | .rejoinRequest => []
  | f => Config.wingPayload f

/-- A lane time in quarter nanoseconds as seconds, low 32 bits, then quarters and nanoseconds (R258). -/
def timeStamp (t : Nat) : List Byte := beBytes 4 (t / 4000000000) ++ beBytes 4 (t % 4 * 2 ^ 30 + t / 4 % 1000000000)

/-- An axis block as bytes (R259). -/
def axisBytes (b : AxisBlock) : List Byte :=
  beInt 8 b.extPos ++ beInt 2 b.speed ++
  beBytes 1 (8 * b.valid.toNat + 4 * b.uncert.toNat + 2 * b.estim.toNat + b.still.toNat) ++
  beBytes 1 (128 * b.inService.toNat + 64 * b.recatch.toNat + 32 * b.propValid.toNat + 16 * b.osc.toNat +
    8 * b.plaus.toNat + 4 * b.reglock.toNat + 2 * b.outerPresent.toNat) ++
  beInt 2 b.proposal ++ beBytes 2 b.lim ++ beInt 4 b.speedInt ++ beInt 4 b.outerInt ++ beInt 2 b.angle ++
  beInt 2 b.force ++ beInt 2 b.te ++ beBytes 1 b.nax ++ List.replicate 9 0

/-- Bytes 16 to 19 of a summary (R258); of the two links the higher bits show link 2, as in WG_STAT. -/
def summaryStates (s : Summary) : Nat :=
  s.lstate % 4 * 2 ^ 30 + s.held % 16 * 2 ^ 26 + s.proposed % 16 * 2 ^ 22 + s.lead.toNat * 2 ^ 21 + s.trio % 4 * 2 ^ 19 +
  s.mask.toNat * 2 ^ 16 + s.links.2 % 4 * 2 ^ 14 + s.links.1 % 4 * 2 ^ 12 + s.isolated.toNat * 2 ^ 11 + s.rejoin.toNat * 2 ^ 10

/-- The payload of a summary, 244 bytes (R258). -/
def summaryBytes (s : Summary) : List Byte :=
  timeStamp s.time ++ beBytes 4 (summaryStates s) ++ beBytes 8 s.digest.toNat ++
  beBytes 2 s.fwv ++ beBytes 2 (s.confirmed.toNat * 2 ^ 15 + s.mirrorSeq % 256) ++ beBytes 8 s.faults.toNat ++
  beBytes 2 s.vm ++ beBytes 2 s.vin ++ beBytes 4 s.safety.toNat ++
  (List.range 4).flatMap (fun k => beBytes 8 (s.prints.getD k 0).toNat) ++
  s.axes.toList.flatMap axisBytes ++ List.replicate 12 0

end Sys2Proof.Machine
end

