-- ==== Sys2Proof/Machine/PacketBytes.lean ====
section
/-!
DEFINITION. Command packets as bytes (R8, R470, R482): the header and payload a lane reads from them, the CRC-32C it
checks, and the fingerprint of R264.
-/

namespace Sys2Proof.Machine

/-! ### SHA-256 (R264) -/

/-- The round constants of SHA-256. -/
def shaK : List Word :=
  [0x428a2f98, 0x71374491, 0xb5c0fbcf, 0xe9b5dba5, 0x3956c25b, 0x59f111f1, 0x923f82a4, 0xab1c5ed5] ++
  [0xd807aa98, 0x12835b01, 0x243185be, 0x550c7dc3, 0x72be5d74, 0x80deb1fe, 0x9bdc06a7, 0xc19bf174] ++
  [0xe49b69c1, 0xefbe4786, 0x0fc19dc6, 0x240ca1cc, 0x2de92c6f, 0x4a7484aa, 0x5cb0a9dc, 0x76f988da] ++
  [0x983e5152, 0xa831c66d, 0xb00327c8, 0xbf597fc7, 0xc6e00bf3, 0xd5a79147, 0x06ca6351, 0x14292967] ++
  [0x27b70a85, 0x2e1b2138, 0x4d2c6dfc, 0x53380d13, 0x650a7354, 0x766a0abb, 0x81c2c92e, 0x92722c85] ++
  [0xa2bfe8a1, 0xa81a664b, 0xc24b8b70, 0xc76c51a3, 0xd192e819, 0xd6990624, 0xf40e3585, 0x106aa070] ++
  [0x19a4c116, 0x1e376c08, 0x2748774c, 0x34b0bcb5, 0x391c0cb3, 0x4ed8aa4a, 0x5b9cca4f, 0x682e6ff3] ++
  [0x748f82ee, 0x78a5636f, 0x84c87814, 0x8cc70208, 0x90befffa, 0xa4506ceb, 0xbef9a3f7, 0xc67178f2]

/-- A right rotation of a word. -/
def rotr (x : Word) (n : Nat) : Word := (x >>> n) ||| (x <<< (32 - n))

/-- The eight chaining words. -/
structure ShaState where
  a : Word
  b : Word
  c : Word
  d : Word
  e : Word
  f : Word
  g : Word
  h : Word
  deriving DecidableEq, Repr

/-- The initial chaining words. -/
def shaInit : ShaState :=
  ⟨0x6a09e667, 0xbb67ae85, 0x3c6ef372, 0xa54ff53a, 0x510e527f, 0x9b05688c, 0x1f83d9ab, 0x5be0cd19⟩

/-- One round with the constant and message word of it added. -/
def shaRound (s : ShaState) (kw : Word) : ShaState :=
  let t1 := s.h + (rotr s.e 6 ^^^ rotr s.e 11 ^^^ rotr s.e 25) + ((s.e &&& s.f) ^^^ (~~~s.e &&& s.g)) + kw
  let t2 := (rotr s.a 2 ^^^ rotr s.a 13 ^^^ rotr s.a 22) + ((s.a &&& s.b) ^^^ (s.a &&& s.c) ^^^ (s.b &&& s.c))
  ⟨t1 + t2, s.a, s.b, s.c, s.d + t1, s.e, s.f, s.g⟩

/-- `n` further words of the message schedule; the words so far stand newest first. -/
def shaExtend : Nat → List Word → List Word
  | 0, w => w
  | n + 1, w =>
    let x := w.getD 1 0
    let y := w.getD 14 0
    shaExtend n ((w.getD 15 0 + (rotr y 7 ^^^ rotr y 18 ^^^ (y >>> 3)) + w.getD 6 0 +
      (rotr x 17 ^^^ rotr x 19 ^^^ (x >>> 10))) :: w)

/-- The words that bytes spell, four bytes each, most significant first. -/
def beWords : Nat → List Byte → List Word
  | 0, _ => []
  | n + 1, b => BitVec.ofNat 32 (beNat (b.take 4)) :: beWords n (b.drop 4)

/-- One block of 64 bytes. -/
def shaBlock (s : ShaState) (b : List Byte) : ShaState :=
  let ws := (shaExtend 48 (beWords 16 b).reverse).reverse
  let t := ((shaK.zip ws).map fun x => x.1 + x.2).foldl shaRound s
  ⟨s.a + t.a, s.b + t.b, s.c + t.c, s.d + t.d, s.e + t.e, s.f + t.f, s.g + t.g, s.h + t.h⟩

/-- `n` blocks. -/
def shaBlocks : Nat → ShaState → List Byte → ShaState
  | 0, s, _ => s
  | n + 1, s, b => shaBlocks n (shaBlock s (b.take 64)) (b.drop 64)

/-- The first 64 bits of SHA-256 over some bytes (R264). -/
def sha64 (m : List Byte) : BitVec 64 :=
  let p := m ++ [0x80#8] ++ List.replicate ((119 - m.length % 64) % 64) 0 ++ beBytes 8 (8 * m.length)
  let s := shaBlocks (p.length / 64) shaInit p
  s.a ++ s.b

/-! ### Packets (R470, R482) -/

/-- The payload of a packet, by the opcode of its header (R473, R482, R577); none for an opcode that the module does not
implement. What a payload of another length than its opcode has would give never acts: R472 refuses it. -/
def readOp (code : Nat) (p : List Byte) (x : PacketFacts) : Option Op :=
  let num (at_ n : Nat) : Nat := beNat ((p.drop at_).take n)
  match code with
  | 0x0001 => some (.sessionOpen (BitVec.ofNat 64 (num 129 8)) x.sigOk x.unwrapOk)
  | 0x0002 => some .sessionClose
  | 0x0003 => some (.ping p)
  | 0x0101 => some (.readReg (num 0 4) (num 4 2))
  | 0x0102 => some (.writeReg (num 0 4) (num 4 2) (beWords ((p.length - 8) / 4) (p.drop 8)))
  | 0x0201 => some (.spotRequest ((p.getD 0 0).getLsbD 0))
  | 0x0202 => some .spotRenew
  | 0x0203 => some .spotRelease
  | 0x0204 => some .spotQuery
  | 0x0301 => some .arm
  | 0x0302 => some .perform
  | 0x0303 => some (.setpoint ((List.range (p.length / 12)).map fun k => ⟨num (12 * k) 1, BitVec.ofNat 64 (num (12 * k + 4) 8)⟩))
  | 0x0304 => some .disarm
  | 0x0305 => some .stop
  | 0x0306 => some .workshopEnter
  | 0x0307 => some .workshopLeave
  | 0x0401 => some .pbStatus
  | 0x0402 => some (.pbLoadBegin (num 0 4) (BitVec.ofNat 384 (num 4 48)))
  | 0x0403 => some (.pbLoadData (num 0 4) (p.length - 4))
  | 0x0404 => some (.pbLoadEnd x.readBack x.book)
  | 0x0405 => some .pbActivate
  | 0x0406 => some .pbAbort
  | 0x0501 => some .rehReport
  | 0x0502 => some (.rehRerun (num 0 1))
  | 0x0503 => some (.rehTask (num 0 2))
  | 0x0601 => some .logInfo
  | 0x0602 => some (.logRead (num 0 8) (num 8 2))
  | 0x0603 => some (.logMark p)
  | 0x0701 => some .timeRead
  | 0x0702 => some (.timeEcho x.arrival)
  | 0x0801 => some .idInfo
  | 0x0802 => some (.idCert (num 0 1) (num 2 2))
  | 0x0803 => some (.attest (BitVec.ofNat 256 (num 0 32)))
  | 0x0901 => some .fwStatus
  | 0x0902 => some (.fwLoadBegin (num 0 4) (BitVec.ofNat 384 (num 4 48)))
  | 0x0903 => some (.fwLoadData (num 0 4) (p.length - 4))
  | 0x0904 => some (.fwLoadEnd x.readBack x.image)
  | 0x0905 => some .fwRestart
  | 0x0906 => some .fwCommit
  | 0x0A01 => some (.confirmCheck (BitVec.ofNat 32 (num 0 4)))
  | 0x0A02 => some (.cartAccept (num 0 1) (BitVec.ofNat 384 (num 4 48)))
  | 0x0A03 => some (.lifeAck (num 0 1))
  | 0x0A04 => some .safetyStatus
  | _ => none

/-- The length a packet should have by its header: header, payload, CRC, and the tag of a class above 0 (R470). -/
def packetLength (b : List Byte) : Nat := 20 + beNat ((b.drop 8).take 2) + if (b.getD 11 0) = 0 then 0 else 16

/-- The header of a packet, with the fingerprint over header and payload (R264, R470). -/
def readHdr (b : List Byte) : Hdr where
  version := (b.getD 0 0).toNat
  seat := Fin.ofNat 8 (b.getD 1 0).toNat
  noReply := (b.getD 3 0).getLsbD 0
  seq := BitVec.ofNat 16 (beNat ((b.drop 4).take 2))
  opcode := beNat ((b.drop 6).take 2)
  len := beNat ((b.drop 8).take 2)
  mask := (b.getD 10 0).setWidth 3
  cls := (b.getD 11 0).toNat
  session := BitVec.ofNat 32 (beNat ((b.drop 12).take 4))
  fp := sha64 (b.take (16 + beNat ((b.drop 8).take 2)))

/-- The CRC-32C of a packet is right, with the length taken from the header (R472 step 1). -/
def packetCrcOk (b : List Byte) : Bool :=
  let n := 16 + beNat ((b.drop 8).take 2)
  decide (packetLength b ≤ b.length) && beNat ((b.drop n).take 4) == (crc32c (b.take n)).toNat

/-- A packet as a lane reads it. -/
def readPacket (x : PacketIn) : Packet :=
  let h := readHdr x.bytes
  { hdr := h, op := readOp h.opcode ((x.bytes.drop 16).take h.len) x.facts, crcOk := packetCrcOk x.bytes,
    tagOk := x.facts.tagOk, bytes := x.bytes.take (packetLength x.bytes) }

/-- The packets of a COMMAND cue's payload, each from a 4-byte boundary (R468); a header of zeros ends them (assumption 87).
`n` bounds their number, `fs` are their facts. -/
def cuePackets : Nat → List Byte → List PacketFacts → List Packet
  | n + 1, b, f :: fs =>
    if b.length < 20 ∨ beNat (b.take 16) = 0 then []
    else readPacket ⟨b.take (packetLength b), f⟩ :: cuePackets n (b.drop ((packetLength b + 3) / 4 * 4)) fs
  | _, _, _ => []

/-- Bytes cut into pieces of `k`, at most `n`. -/
def cutBytes (k : Nat) : Nat → List Byte → List (List Byte)
  | 0, _ => []
  | n + 1, b => if b.isEmpty then [] else b.take k :: cutBytes k n (b.drop k)

/-- The COMMAND segments of a packet: its bytes in frames of at most 244 (R251, R264; assumption 85). -/
def commandSegments (p : Packet) : List WingFrame := (cutBytes 244 5 p.bytes).map .command

end Sys2Proof.Machine
end

