-- ==== Sys2Proof/Config.lean ====
section
/-!
DEFINITION. What the spec leaves to an implementation, as uninterpreted constants: nothing here has a body a proof
could look into, so a theorem holds for every choice. Each constant is named in a row of notes/assumptions.
-/

namespace Sys2Proof.Config

/-- A choice the spec leaves open (which of two results an arbiter gives, a value it does not state), by the number of
the choice: the lane's counter `fresh` numbers them (assumption 2). -/
opaque free : Nat → Nat

/-- Whether the read-out of a quantity that is no whole number goes to the next number above (assumption 3). -/
opaque roundUp : Rat → Bool

/-- The read-out of an exact quantity in a register's unit: one of the two whole numbers beside it, the spec states no
rounding (assumption 3). -/
def quantize (x : Rat) : Int := if roundUp x then x.ceil else x.floor

/-- Square root, as the understudy forms it (R76 to R79; assumption 4). -/
opaque sqrt : Rat → Rat

/-- Cosine and sine of an angle in units of 65,536 per turn, as the understudy forms them (R76, R79; assumption 4). -/
opaque cosTurn : Rat → Rat

/-- See `cosTurn`. -/
opaque sinTurn : Rat → Rat

/-- The angle of the vector (x, y) in units of 65,536 per turn, below 65,536 (R76, R83; assumption 4). -/
opaque atan2Turn : Rat → Rat → Nat

/-- Radians per turn, 2π to 16 digits: the spec states speeds in rad/s (R82, R212; assumption 4). -/
def radPerTurn : Rat := 6283185307179586 / 1000000000000000

/-- Where in the range of R121 the ceiling's arming gate voltage lies (assumption 91). -/
opaque armSpread : Nat

/-- Where in stage memory the memory map of the lane application places the agreed values: the word of each (R235; assumption
95). -/
opaque agreedWord : Nat → Nat

/-- The ceiling's arming gate voltage, 6.8 to 7.2 V, in 10 mV (R121, R123). -/
def armLevel : Nat := 680 + armSpread % 41

/-- What house seats reserve beside the safety tasks, which the spec states without a number (R302; assumption 5): 0 the
energy in the logic die, 1 in the power die, in mJ; 2 the extra power in mW; 3 to 7 the time per beat on the trio, the
loop pair, Q, N and K in ns. -/
opaque houseSeat : Nat → Rat

/-- The cost of a firmware activity, which the spec leaves to a list (R300; assumption 5), by class and item: 0 and 1 the
energy in mJ in the logic and the power die, 2 the extra power in mW, 3 the supply energy in mJ. -/
opaque firmwareCost : Nat → Nat → Nat

/-- The engine a firmware activity runs on, by class: 0 trio, 1 Q, 2 N, 3 K (R300; assumption 5). -/
opaque firmwareEngine : Nat → Nat

/-- The fused base power of a lane in a module state, by the state's code, in mW (R307; assumption 5). -/
opaque basePower : Nat → Nat

/-- The fixed allowance of the device's own work, which the firmware image lists (R333; assumption 5): engine, beat and
phase window of R29, in ns. -/
opaque allowance : Nat → Nat → Nat → Nat

/-- Where a failed check of the prompt book is reported, where the spec states no layout for the section (R335;
assumption 19): the check's number and the item give the section's type and the byte offset. -/
opaque bookFault : Nat → Nat → Nat × Nat

/-- The bits of a serial frame beside its data and CRC (R176; assumption 19): by the serial format. -/
opaque frameOverhead : Nat → Nat

/-- Whether a twin of the VIN_x lockout that trips and releases at these levels passes its sweep: R355 points to limits that
R121 does not state for it (assumption 97). -/
opaque vinSweepOk : Nat → Nat → Bool

end Sys2Proof.Config
end

