-- ==== Sys2Proof/Machine/BoxState.lean ====
section
/-!
DEFINITION. What the box office holds beyond its registers (The Box Office: Budgets and Scheduling).
-/

namespace Sys2Proof.Machine

/-- The in-service steps that run under ROTATION tickets (R351, R356, R358). -/
inductive Rotation where
  | bank | comparator | twin
  deriving DecidableEq, Repr

/-- What a ticket was queued for. -/
inductive Work where
  | shutdown
  /-- a start-of-day step, a rerun of one (R344, R365) -/
  | step (k : Nat)
  | rerun (k : Nat)
  /-- a session opening, an attestation (R475, R534) -/
  | session (h : Hdr) (path : Option Path) (key : BitVec 64) (sigOk unwrapOk : Bool)
  | attest (h : Hdr) (path : Option Path) (nonce : BitVec 256)
  | cartWrite
  | rotation (r : Rotation)
  | logFlush
  /-- initialising what the start of day left of the memory (R323 step 2) -/
  | memory
  /-- a pace boost to a target of VCORE_x in mV (R308) -/
  | boost (target : Nat)
  /-- a task of the task table (R310) -/
  | task (id : Nat)
  | other
  deriving DecidableEq, Repr

/-- A ticket (R300): `engine` is none where the spec names none. `point` is the decision point before which it was
queued (R303), `cycle` the cycle in which it was (R305). -/
structure Ticket where
  id : Nat
  work : Work
  cost : Cost
  engine : Option Engine
  point : Nat
  cycle : Nat
  starved : Bool
  deriving DecidableEq, Repr

/-- A die-heat commitment (R292): the ticket, its energies in mJ, and when it is released, once its work has ended. -/
structure Commit where
  id : Nat
  ld : Rat
  pd : Rat
  releaseAt : Option Nat
  deriving DecidableEq, Repr

structure BoxState where
  queued : List Ticket
  running : List Ticket
  commits : List Commit
  /-- the number of the next ticket, of the next decision point -/
  nextId : Nat
  point : Nat
  /-- Tw of each winding set in °C (R293); until the house log has been read, TMAX (R294) -/
  tw : Vector Rat 4
  /-- levels of the brake resistor and of the brakes in J (R296, R298) -/
  br : Rat
  bk : Vector Rat 4
  /-- the REGEN ticket was refused (R297) -/
  regenRefused : Bool
  /-- GD_CHON at the last cycle start; readings of VM_x of this cycle, and their sum (R296) -/
  chonLast : Nat
  vmSum : Nat
  vmCount : Nat
  /-- tasks that have dropped, with the drops in succession and the cycle of the last one (R312) -/
  drops : List (Nat × Nat × Nat)
  /-- the beat in which the agreement was last dropped; the references of R311 act -/
  agreeDrop : Option Nat
  zeroRefs : Bool
  /-- the die temperatures of beat 0, logic and power die, in 0.1 K (R291) -/
  dieLD : Int
  diePD : Int
  /-- VIN_x has stood above PW_RESERVE + 0.50 V since (R299) -/
  supSince : Option Nat
  /-- a ROTATION ticket has been unsold for 2 × MAXWAIT cycles (R305) -/
  overdue : Bool
  deriving DecidableEq, Repr

def BoxState.init : BoxState where
  queued := []
  running := []
  commits := []
  nextId := 0
  point := 0
  tw := Vector.replicate 4 150
  br := 0
  bk := Vector.replicate 4 0
  regenRefused := false
  chonLast := 0
  vmSum := 0
  vmCount := 0
  drops := []
  agreeDrop := none
  zeroRefs := false
  dieLD := 0
  diePD := 0
  supSince := none
  overdue := false

end Sys2Proof.Machine
end

