-- ==== Sys2Proof/Machine/DriveState.lean ====
section
/-!
DEFINITION. The state of one axis that no register shows: understudy, hysteresis decision, switches, protection and
refresh (Drive Control, Gate Drive), and of its feedback port (Position and Speed Feedback).
Times are in raw time-base counts of 250 ps.
-/

namespace Sys2Proof.Machine

/-- A queued crossing or peak event (R72, R73, R75): for a peak event `level` is 0 for PKN and 7 for PKP (DC_LASTX). -/
structure LadderEvent where
  stamp : Nat
  phase : Phase
  level : Fin 8
  up : Bool
  peak : Bool
  deriving DecidableEq, Repr

/-- Which part of the re-catch sequence of R97 the axis has reached is DC_STAT[AXST]; the times that bound it are here. -/
structure RecatchState where
  /-- when rotor lost was declared (R97 step 6 counts from here) -/
  declared : Nat
  /-- the decay's latest crossing of a ladder level, or its start (R97 step 2) -/
  quietSince : Nat
  /-- consecutive in-bound crossings of the probe (R97 step 4) -/
  inBound : Nat
  deriving DecidableEq, Repr

/-- The understudy's model state of an axis (R76 to R79), in Wb, A and exact numbers. -/
structure Understudy where
  psiA : Rat
  psiB : Rat
  /-- reconstructed currents in the stationary frame -/
  ia : Rat
  ib : Rat
  /-- torque estimate, N·m -/
  te : Rat
  /-- time of the last update, the switch state applied then, and its changes since, oldest first: the moment and the
  switches applied from there on (R76, R78) -/
  last : Nat
  applied : BitVec 6
  trail : List (Nat × BitVec 6)
  /-- consecutive dropped updates (R78) -/
  dropped : Nat
  /-- stamps of the crossings taken within the last electrical periods (R100), newest first -/
  crossings : List Nat
  /-- beats in succession with the back-EMF angle outside ANGDEV (R100) and inside it (R101) -/
  devBeats : Nat
  agreeBeats : Nat
  /-- when the back-EMF substitute began (R101) -/
  substSince : Option Nat
  /-- time of the last estimate word and its at-speed flag (R148) -/
  lastWord : Nat
  fast : Bool
  /-- the integral of ia² + ib² since the beat start, in A²·s, and that start (R293) -/
  sq : Rat
  sqFrom : Nat
  deriving DecidableEq, Repr

/-- The switches of an axis as the power die drives them: bit j is switch j (R87). -/
structure Switches where
  /-- the source's request: the table lookup, or the GIN pins -/
  want : BitVec 6
  /-- what stands at the gate-driver inputs after the precedence of R93 -/
  cmd : BitVec 6
  /-- when each switch was last commanded off (R118), and which turn off with the soft sink (R125) -/
  offAt : Vector Nat 6
  soft : BitVec 6
  /-- demands of rank 2 (bit 0) and of rank 3 (bit 1) that stood when the drivers last followed (R93, R143) -/
  demand : BitVec 2
  /-- the last turn-ons of each switch, newest first, at most four (R91) -/
  turnOns : Vector (List Nat) 6
  /-- the end of the dwell of the present table state (R90) -/
  dwellEnd : Nat
  /-- a turn-on the rate limit holds back in PE or PS mode (R117) -/
  ginHeld : BitVec 6
  /-- switches off by a peak trip (R124), and those whose request has been withdrawn since -/
  peakHeld : BitVec 6
  peakFree : BitVec 6
  /-- whether the gate loopback has been judged at the first turn-on (R359) -/
  looped : BitVec 6
  /-- the mask of unavailable switches at the last lookup (R88) -/
  lastMask : BitVec 6
  deriving DecidableEq, Repr

/-- Trips and limits of an axis (R119 to R131). -/
structure Protection where
  /-- VDS and ceiling trips since the first one Tier 1 has not yet decided: switch and whether ceiling (R127) -/
  trips : List (Switch × Bool)
  /-- switches whose trips took the set out of service (R127) -/
  outTrips : BitVec 6
  /-- peak trips of this cycle outside the active short circuit (R128) -/
  peaks : Nat
  /-- bootstrap lockout times of each high side within the last second (R131) -/
  lockouts : Vector (List Nat) 3
  /-- high sides a bootstrap lockout has made unavailable; of those, the ones whose refresh timer has restarted since,
  and the ones whose supply exceeds 8.0 V (R131) -/
  bstOut : BitVec 3
  restarted : BitVec 3
  supplied : BitVec 3
  /-- the last table parity error: its copy and its moment (R89) -/
  parityAt : Option (Fin 2 × Nat)
  /-- the copies of the decision disagree on these switches, which it holds off (R84) -/
  disagree : BitVec 6
  deriving DecidableEq, Repr

/-- The bootstrap precharge and refresh of an axis (R132 to R140). -/
structure Refresh where
  /-- the precharge of R132 has run since -/
  precharge : Option Nat
  /-- phases whose insertion is running: the high side off, the low side on (R136 steps 1 to 4) -/
  inserting : BitVec 3
  /-- insertions due but held back, and since when (R137) -/
  due : BitVec 3
  dueSince : Option Nat
  /-- when the running insertion began (R136) -/
  insertAt : Nat
  /-- the earliest time of a new insertion after an abort (R138) -/
  retryAt : Nat
  /-- high side to be restored after the insertion, unless the request changed (R136 step 6) -/
  restore : BitVec 3
  /-- when each refresh timer last restarted (R134) -/
  timers : Vector Nat 3
  deriving DecidableEq, Repr

/-- The gate-leakage checks of an axis (R141 to R144): the switches whose pull-down is released and since when. -/
structure LeakCheck where
  running : List (Switch × Nat)
  deriving DecidableEq, Repr

/-- The causes of invalid feedback of R189. -/
structure FbCauses where
  noRef : Bool
  line : Bool
  steps : Bool
  index : Bool
  serial : Bool
  dev : Bool
  hall : Bool
  deriving DecidableEq, Repr

/-- Serial negotiation (R175). -/
structure SerialState where
  /-- negotiating at the rate code `rate` (R175) -/
  negotiating : Bool
  rate : Nat
  /-- frames at this rate, and the run of clean frames (R175) -/
  frames : Nat
  clean : Nat
  /-- consecutive discarded frames (R176), consecutive deviating frames and frames within TOL (R177, R189) -/
  bad : Nat
  devs : Nat
  within : Nat
  /-- a frame is in flight, with the counter latched at its first MA edge and the sample moment (R174) -/
  latched : Option (BitVec 32 × Nat)
  /-- the last clean frames' positions and sample moments, newest first (R188) -/
  samples : List (BitVec 32 × Nat)
  /-- when the last frame was sent (R175) -/
  sentAt : Option Nat
  deriving DecidableEq, Repr

/-- The hidden part of a feedback port. -/
structure FeedbackState where
  /-- the live wrap tally (R167, R169) -/
  wraps : BitVec 16
  /-- the history of R165, newest first: true for a step fault; at most 1,024 entries -/
  history : List Bool
  /-- step faults since the last re-reference (R171) -/
  faultsSince : Nat
  /-- stamps of counted edges, newest first, at most five, and the count of same-direction intervals (R182) -/
  stamps : List Nat
  intervals : Nat
  /-- the next counted edge is a first one (R183), or follows a skipped state (R187) -/
  starting : Bool
  skipped : Bool
  /-- the last reported speed before the bound of R184, signed, in counts per second -/
  measured : Rat
  /-- net counts since the last qualified index (R172), none before the first -/
  sinceIndex : Option Int
  causes : FbCauses
  /-- the lines (A, B, Z, SL in bits 0 to 3) whose fault has not been gone for 1 ms, and when each last struck (R189) -/
  lineBad : BitVec 4
  lineAt : Vector Nat 4
  serial : SerialState
  /-- when the B line last changed (R166) -/
  bAt : Nat
  /-- when the Hall code last changed (R180) -/
  hallAt : Nat
  /-- consecutive deviating transitions (R180), and good ones since (R189) -/
  hallDevs : Nat
  hallGood : Nat
  /-- the probe is armed for this edge selection (R181) -/
  armed : Bool
  deriving DecidableEq, Repr

/-- Everything hidden of one axis. -/
structure AxisState where
  us : Understudy
  /-- the event queue (R75), oldest first -/
  queue : List LadderEvent
  sw : Switches
  prot : Protection
  refresh : Refresh
  leak : LeakCheck
  /-- the re-catch of R97 while it runs -/
  recatch : Option RecatchState
  /-- when the last re-catch succeeded (R99) -/
  lastRecatch : Option Nat
  fb : FeedbackState
  deriving DecidableEq, Repr

def Understudy.init : Understudy := ⟨0, 0, 0, 0, 0, 0, 0, [], 0, [], 0, 0, none, 0, false, 0, 0⟩
def Switches.init : Switches :=
  ⟨0, 0, Vector.replicate 6 0, 0, 1, Vector.replicate 6 [], 0, 0, 0, 0, 0, 0⟩
def Protection.init : Protection :=
  ⟨[], 0, 0, Vector.replicate 3 [], 0, 0, 0, none, 0⟩
def Refresh.init : Refresh := ⟨none, 0, 0, none, 0, 0, 0, Vector.replicate 3 0⟩
def SerialState.init : SerialState := ⟨false, 0, 0, 0, 0, 0, 0, none, [], none⟩

/-- At reset the counter is not referenced and no serial link is locked (R160, R189). -/
def FeedbackState.init : FeedbackState :=
  ⟨0, [], 0, [], 0, true, false, 0, none, ⟨true, false, false, false, true, false, false⟩, 0, Vector.replicate 4 0, .init,
    0, 0, 0, 0, false⟩

def AxisState.init : AxisState := ⟨.init, [], .init, .init, .init, ⟨[]⟩, none, none, .init⟩

end Sys2Proof.Machine
end

