-- ==== Sys2Proof/Machine/LoopState.lean ====
section
/-!
DEFINITION. The state of the closed-loop engine that no register shows (R194 to R216), of one axis.
-/

namespace Sys2Proof.Machine

/-- An oscillation detector of one loop (R210): the last side (1 above +BAND, -1 below −BAND, 0 before the first), the
crossings of the present cycle, and of the cycles before it in the window, newest first. -/
structure OscState where
  side : Int
  cur : Nat
  past : List Nat
  deriving DecidableEq, Repr

/-- The sums of one cycle for the implied load (R212): Te codes, speed codes and curve-force codes added at each beat
start, the speed at the first beat, and the count of beats. -/
structure CycleSums where
  te : Int
  w : Int
  f : Int
  first : Int
  beats : Nat
  deriving DecidableEq, Repr

structure LoopState where
  /-- LIMC: the smallest LIM of the last agreement (R94) -/
  limc : Nat
  /-- the outer and the speed integrator, 40-bit accumulator values with 30 fraction bits (R195) -/
  io : Int
  iw : Int
  /-- this lane's integrators after the latest run, and whether the outer loop ran in this beat -/
  outerRan : Bool
  oscO : OscState
  oscW : OscState
  sums : CycleSums
  /-- plausibility: the cycles evaluated so far, and whether the phase starts with the next cycle (R209) -/
  evaluated : Nat
  startNext : Bool
  /-- the oscillation and the plausibility flag to post in the summary of beat 1 (R211, R213) -/
  oscFlag : Bool
  plausFlag : Bool
  /-- an agreed oscillation flag takes effect at the next cycle start (R211) -/
  softNext : Bool
  /-- the loop work of this beat was discarded (R208) -/
  dropped : Bool
  /-- integrators and speed reference before the loops of this beat ran (R208) -/
  saved : Int × Int × Int
  deriving DecidableEq, Repr

def LoopState.init : LoopState :=
  ⟨0, 0, 0, false, ⟨0, 0, []⟩, ⟨0, 0, []⟩, ⟨0, 0, 0, 0, 0⟩, 0, false, false, false, false, false, (0, 0, 0)⟩

end Sys2Proof.Machine
end

