-- ==== Sys2Proof/Machine/NetState.lean ====
section
/-!
DEFINITION. What a lane holds of its ring, lane time, CAN controllers and signal dictionary that no register shows.
Lane times are in units of 2^-24 ns (see `Lane.ltime`).
-/

namespace Sys2Proof.Machine

/-- A link of the ring, by its two members in east-bound order. -/
abbrev RingLink := Nat × Nat

/-- One ring port (R371 to R373, R405): VR_PSTAT shows its link state, rate, level, neighbour and delay. -/
structure RingPort where
  /-- the PHY reports link; its identifier did not match (R369) -/
  phy : Bool
  misfit : Bool
  /-- when the present rate attempt began; when the last HELLO was sent -/
  since : Nat
  helloAt : Nat
  /-- link delays of the last exchanges, newest first, at most eight, quarter nanoseconds; the neighbour's last HELLO: when
  it was sent and received (R371) -/
  delays : List Nat
  heardHello : Option (Nat × Nat)
  /-- the neighbour's level and permitted rates -/
  level : Nat
  g1000 : Bool
  g100 : Bool
  /-- a restore is to be announced -/
  restore : Bool
  deriving DecidableEq, Repr

/-- An accepted cue of the present cycle: stamp − E in quarter ns. -/
structure Accepted where
  cue : Nat
  src : Nat
  drift : Int
  sheet : Nat
  deriving DecidableEq, Repr

structure RingState where
  ports : Vector RingPort 2
  /-- the cycle number of the ring (R375, R403) -/
  num : Nat
  /-- cues accepted in this cycle, windows met on each port by their cue, for frames looped or not, cues found empty, own
  cues sent or withheld -/
  accepted : List Accepted
  met : List (Port × Nat × Bool)
  empty : List Nat
  sent : List Nat
  /-- on each port: the last expected cue was empty and no clean frame has come since (R405) -/
  emptyRun : Vector Bool 2
  /-- CONTROL payloads of this cycle and the members heard in the cycle before (R397) -/
  controls : List (Nat × Control)
  heardPrev : List Nat
  /-- the cue instant of the present cycle in lane time -/
  cueAt : Nat
  /-- payloads to be published at the next cue instant by cue, sealed or not (R380), and the bytes that the frames of this
  cycle and of the one before fill in the receive queue (R453) -/
  queue : List (Nat × Bool × List Byte)
  fill : Nat
  fillPrev : Nat
  /-- entries sampled for the own cues of this cycle (R380) -/
  snapshot : List (Nat × List Byte)
  /-- the sequence of the own sealed records (R455), of the own SYNC payloads (R423) -/
  sealSeq : BitVec 16
  syncSeq : BitVec 8
  /-- own drift D in quarter ns, without the limits of VR_DRIFT (R394, R396) -/
  drift : Int
  /-- consecutive cycles with |D| at most half the smallest own W (R395) -/
  calm : Nat
  /-- cycles in INTEGRATE without SILENT; cycles with consistent CUE frames in LISTEN (R393) -/
  settled : Nat
  consistent : Nat
  lastDrift : Option Int
  lastSheet : Option Nat
  /-- cycles without a frame in LISTEN, the back-off in quarter ns and its start (R401, R404) -/
  quiet : Nat
  backoff : Nat
  quietSince : Nat
  /-- COLDSTART: 0 until the cycle start, 1 in the first cycle, 2 in the second (R401, R402); the ports on which the own START has returned -/
  cold : Nat
  returned : Vector Bool 2
  /-- the lane time in the last own START, which tells it from another node's -/
  ownStart : Option Nat
  /-- the cycle in which the START of VR_STAT[STARTER] was adopted -/
  adoptedIn : Option Nat
  /-- a START of the own number came from another node (R402) -/
  duplicate : Bool
  /-- a sheet change: sheet and the cycle k of its announcement; the announcement cycle of one cancelled; this node
  announces; the other sheet while the majority adoption runs (R398) -/
  change : Option (Nat × Nat)
  cancelled : Option Nat
  announce : Bool
  adopting : Option Nat
  /-- broken links known, with the cycle from which the healed arrivals are used; restores with theirs (R406, R408) -/
  breaks : List (RingLink × Nat)
  restores : List (RingLink × Nat)
  healShown : Bool
  deriving DecidableEq, Repr

def RingPort.init : RingPort := ⟨false, false, 0, 0, [], none, 0, false, false, false⟩

def RingState.init : RingState where
  ports := Vector.replicate 2 .init
  num := 0
  accepted := []
  met := []
  empty := []
  sent := []
  emptyRun := Vector.replicate 2 false
  controls := []
  heardPrev := []
  cueAt := 0
  queue := []
  fill := 0
  fillPrev := 0
  snapshot := []
  sealSeq := 0
  syncSeq := 0
  drift := 0
  calm := 0
  settled := 0
  consistent := 0
  lastDrift := none
  lastSheet := none
  quiet := 0
  backoff := 0
  quietSince := 0
  cold := 0
  returned := Vector.replicate 2 false
  ownStart := none
  adoptedIn := none
  duplicate := false
  change := none
  cancelled := none
  announce := false
  adopting := none
  breaks := []
  restores := []
  healShown := false

/-- The time service (R415 to R425). -/
structure TimeState where
  /-- a pending step in ns, a held write of TM_INCR, the increment in force on entry to HOLDOVER or FAR (R415) -/
  step : Option Int
  held : Option Word
  kept : Nat
  /-- where the lane time was set from (R419): 0 not set, 1 lane B, 2 lane A without a SYNC set,
  3 a peer with one, 4 SYNC -/
  setFrom : Nat
  /-- cycles in succession with |O| ≤ 100 ns, with |O| > 1 µs, without an accepted SYNC; one came in this cycle -/
  lockRun : Nat
  unlockRun : Nat
  lost : Nat
  gotSync : Bool
  /-- a SYNC has been accepted, so that its grandmaster is known -/
  known : Bool
  deriving DecidableEq, Repr

def TimeState.init : TimeState := ⟨none, none, 167772160, 0, 0, 0, 0, false, false⟩

/-- One CAN controller (R431 to R441). -/
structure CanState where
  /-- the open slot: its entry and the frame latched from its buffer (R436); the entries that have fired, with their cycle
  (R435) -/
  slot : Option (Fin 64 × CanFrame)
  fired : List (Fin 64)
  firedIn : Nat
  /-- the address of the node is claimed on this port (R431) -/
  claimed : Bool
  /-- bus-off since -/
  offSince : Option Nat
  /-- network-engine buffers stored in this cycle (R449, R456) -/
  got : List Nat
  deriving DecidableEq, Repr

def CanState.init : CanState := ⟨none, [], 0, false, none, []⟩

/-- A dictionary entry (R446) beyond what its definition fixes. -/
structure DictEntry where
  handle : Nat
  value : List Byte
  stamp : Nat
  deadline : Option Nat
  valid : Bool
  degr : Bool
  implaus : Bool
  seq : BitVec 16
  single : Nat
  deriving DecidableEq, Repr

structure DictState where
  entries : List DictEntry
  /-- a SEALLOST came about at the last comparison (R551) -/
  lostNow : Bool
  deriving DecidableEq, Repr

def DictState.init : DictState := ⟨[], false⟩

end Sys2Proof.Machine
end

