-- ==== Sys2Proof/Machine/PowerState.lean ====
section
/-!
DEFINITION. The state of a lane's supplies, core voltage and DC link that no register shows (Self-Timed Fabric,
Supplies and Pace; Gate Drive, over-voltage). Times are in raw time-base counts of 250 ps.
-/

namespace Sys2Proof.Machine

/-- How far the power die has brought the lane (R57 to R62). -/
inductive PowerPhase where
  /-- VIN_x has not yet risen above 6.8 V -/
  | unpowered
  /-- steps 1 and 2: the oscillator starts and the PLL locks -/
  | oscillator
  /-- steps 3 and 4: VCORE_x and the memory supplies come up -/
  | supplies
  /-- step 5 done: the logic die runs -/
  | up
  /-- the sequence of R60 runs -/
  | shutdown
  /-- a supply missed its window; the retry of R58 waits -/
  | retryWait
  /-- the third failure of R58, or a stop by core over-voltage (R62): only the monitors are powered -/
  | stopped
  deriving DecidableEq, Repr

structure PowerState where
  phase : PowerPhase
  /-- when that phase began -/
  phaseAt : Nat
  /-- VCEN_x is asserted; the memory supplies that are on: bit 0 VDD1, 1 VDD2, 2 VDDQ (R57 steps 3 and 4, R60) -/
  vcen : Bool
  rails : BitVec 3
  /-- failures of the power-up sequence (R58) -/
  fails : Nat
  /-- the latch of R62 -/
  ovLatch : Bool
  /-- the goal the target of VCORE_x moves to, in mV (R47, R48, R50) -/
  goal : Nat
  /-- when the rise of R48 began, while it runs -/
  riseSince : Option Nat
  /-- MEAS has read at least 0.74 V since the last rise began, and when it first did (R51) -/
  risen : Bool
  risenAt : Nat
  /-- the tamper sensor is armed for VPD_x (R536) -/
  vpdArmed : Bool
  /-- a pace deficit of the logic die, of the power die has been present since (R46, R50) -/
  logicSince : Option Nat
  powerSince : Option Nat
  /-- the target has stood at PW_VCLIM[MAX] since (R50, R229) -/
  maxSince : Option Nat
  /-- the last step of the target, and the target before it (R47, R536) -/
  lastStep : Nat
  stepFrom : Nat
  /-- the current VG_x lockout has lasted since (R130) -/
  vgSince : Option Nat
  /-- TEST_x was seen high, or four tamper resets came within 10 s: gate drivers off and BOOT until VIN_x is removed
  (R535, R570) -/
  testHigh : Bool
  /-- a core over-voltage started the sequence of R60; VIN_x has fallen below 6.0 V since it began (R61, R62) -/
  byOv : Bool
  vinFell : Bool
  /-- VIN_x fell below 3.0 V while the latch of R62 held a cause -/
  lostCause : Bool
  /-- the reference is lost, the PLL is out of lock, the memory supplies out of their limits (bit 0 VDD1, 1 VDD2, 2 VDDQ) -/
  refLost : Bool
  pllLost : Bool
  memBad : BitVec 3
  /-- BOOTV_x as the keeper sampled it at its start: 1.8 V (R570) -/
  boot18 : Bool
  deriving DecidableEq, Repr

/-- The over-voltage stages and the chopper (R146 to R151). -/
structure LinkState where
  ov1 : Bool
  ov2 : Bool
  ov3 : Bool
  ovmax : Bool
  /-- BCH_x last turned on at, and turned on in the present OV1 stage -/
  bchOnAt : Option Nat
  bchInStage : Bool
  bchOffAt : Nat
  /-- a turn-on held back by the 20 µs of R151 -/
  bchHeld : Bool
  /-- OV1 − CHH was reached before the 2.0 µs had passed (R146, R151) -/
  releaseHeld : Bool
  /-- on-time not yet counted as a whole microsecond in GD_CHON -/
  chonRest : Nat
  /-- on-time is counted up to here -/
  chonMark : Nat
  deriving DecidableEq, Repr

def PowerState.afterReset : PowerState :=
  ⟨.up, 0, true, 7, 0, false, 800, none, false, 0, false, none, none, none, 0, 800, none, false, false, false, false, false, false, 0, false⟩
def LinkState.init : LinkState := ⟨false, false, false, false, none, false, 0, false, false, 0, 0⟩

end Sys2Proof.Machine
end

