-- ==== Sys2Proof/Machine/RegMap.lean ====
section
/-!
DEFINITION. The lane register space (R36): every register of the spec's register maps, its address, its fields,
their access codes (R10), reset values (R14) and the ranges their Meaning columns state.
A register with an index (axis, seat, buffer, word) is one row with strides.
-/

namespace Sys2Proof.Machine

/-- The access codes of R10. -/
inductive Acc where
  | ro | rw | w1c | wo | rwl
  deriving DecidableEq, Repr

/-- A named field of one register: its register's address, lowest bit and width. -/
structure Fld where
  addr : Nat
  lo : Nat
  width : Nat
  deriving DecidableEq, Repr

/-- One row of a register table: bits `[lo + width - 1 : lo]`, the access code, the reset value and the stated range. -/
structure FieldDesc where
  lo : Nat
  width : Nat
  acc : Acc
  reset : Nat
  min : Nat
  max : Nat
  deriving DecidableEq, Repr

/-- One register of a map; an indexed register has one `(stride, count)` pair for each index, the largest stride first. -/
structure RegDesc where
  base : Nat
  strides : List (Nat × Nat)
  fields : List FieldDesc
  deriving DecidableEq, Repr

/-- Whether `off` is a sum of index times stride with each index below its count. -/
def strideHit : List (Nat × Nat) → Nat → Bool
  | [], off => Nat.beq off 0
  | (st, n) :: rest, off => Nat.blt (off / st) n && strideHit rest (off % st)

/-- Whether the address `a` is an instance of the register `d`. -/
def RegDesc.hit (d : RegDesc) (a : Nat) : Bool :=
  Nat.ble d.base a && strideHit d.strides (a - d.base)

/-- The reset word of a register: its fields' reset values in their places, reserved bits 0 (R13, R14). -/
def RegDesc.resetNat (d : RegDesc) : Nat :=
  d.fields.foldl (fun acc f => acc + f.reset * 2 ^ f.lo) 0

/-- The registers of the LC block (R38). -/
def regsLC : List RegDesc :=
  [
    ⟨0x000000, [], [⟨16, 16, .ro, 29568, 0, 65535⟩, ⟨0, 2, .ro, 0, 0, 3⟩]⟩, -- LC_ID
    ⟨0x000004, [], [⟨24, 8, .ro, 0, 0, 255⟩, ⟨16, 8, .ro, 0, 0, 255⟩, ⟨0, 16, .ro, 0, 0, 65535⟩]⟩, -- LC_REV
    ⟨0x000008, [], [⟨10, 1, .ro, 0, 0, 1⟩, ⟨8, 2, .ro, 0, 0, 3⟩, ⟨6, 1, .ro, 0, 0, 1⟩, ⟨4, 2, .ro, 0, 0, 3⟩, ⟨0, 4, .ro, 1, 0, 15⟩]⟩, -- LC_STATE
    ⟨0x00000C, [], [⟨8, 8, .ro, 0, 0, 255⟩, ⟨0, 8, .ro, 0, 0, 255⟩]⟩, -- LC_ENGSTAT
    ⟨0x000010, [], [⟨3, 1, .ro, 0, 0, 1⟩, ⟨0, 3, .ro, 0, 0, 7⟩]⟩, -- LC_MEMCFG
    ⟨0x000014, [], [⟨0, 32, .ro, 0, 0, 4294967295⟩]⟩, -- LC_SERIAL_LO
    ⟨0x000018, [], [⟨0, 32, .ro, 0, 0, 4294967295⟩]⟩ -- LC_SERIAL_HI
  ]

/-- The registers of the PW block (R68). -/
def regsPW : List RegDesc :=
  [
    ⟨0x010000, [], [⟨16, 10, .ro, 0, 0, 1023⟩, ⟨0, 10, .ro, 800, 0, 1023⟩]⟩, -- PW_VCSET
    ⟨0x010004, [], [⟨16, 10, .rwl, 900, 740, 900⟩, ⟨0, 10, .rwl, 600, 600, 740⟩]⟩, -- PW_VCLIM
    ⟨0x010008, [], [⟨11, 1, .ro, 0, 0, 1⟩, ⟨10, 1, .ro, 0, 0, 1⟩, ⟨9, 1, .ro, 0, 0, 1⟩, ⟨8, 1, .ro, 0, 0, 1⟩, ⟨7, 1, .ro, 0, 0, 1⟩, ⟨6, 1, .ro, 0, 0, 1⟩, ⟨5, 1, .ro, 0, 0, 1⟩, ⟨4, 1, .ro, 0, 0, 1⟩, ⟨3, 1, .ro, 0, 0, 1⟩, ⟨2, 1, .ro, 0, 0, 1⟩, ⟨1, 1, .ro, 0, 0, 1⟩, ⟨0, 1, .ro, 0, 0, 1⟩]⟩, -- PW_SUPSTAT
    ⟨0x01000C, [], [⟨10, 1, .w1c, 0, 0, 1⟩, ⟨9, 1, .w1c, 0, 0, 1⟩, ⟨8, 1, .w1c, 0, 0, 1⟩, ⟨7, 1, .w1c, 0, 0, 1⟩, ⟨6, 1, .w1c, 0, 0, 1⟩, ⟨5, 1, .w1c, 0, 0, 1⟩, ⟨4, 1, .w1c, 0, 0, 1⟩, ⟨3, 1, .w1c, 0, 0, 1⟩, ⟨2, 1, .w1c, 0, 0, 1⟩, ⟨1, 1, .w1c, 0, 0, 1⟩, ⟨0, 1, .w1c, 0, 0, 1⟩]⟩, -- PW_SUPEVT
    ⟨0x010010, [], [⟨16, 16, .ro, 0, 0, 65535⟩, ⟨0, 16, .ro, 0, 0, 65535⟩]⟩, -- PW_VIN
    ⟨0x010014, [], [⟨0, 12, .rwl, 900, 650, 3000⟩]⟩, -- PW_RESERVE
    ⟨0x010018, [], [⟨16, 16, .ro, 0, 0, 65535⟩, ⟨0, 16, .ro, 0, 0, 65535⟩]⟩, -- PW_TEMP
    ⟨0x01001C, [], [⟨16, 16, .rwl, 1480, 1000, 1480⟩, ⟨0, 16, .rwl, 1350, 1000, 1480⟩]⟩, -- PW_TLIM
    ⟨0x010020, [], [⟨24, 8, .ro, 0, 0, 255⟩, ⟨20, 1, .ro, 0, 0, 1⟩, ⟨16, 4, .ro, 0, 0, 15⟩, ⟨0, 16, .ro, 0, 0, 65535⟩]⟩, -- PW_PACE
    ⟨0x010024, [], [⟨16, 16, .ro, 380, 0, 65535⟩, ⟨0, 16, .ro, 380, 0, 65535⟩]⟩, -- PW_GFLOOR
    ⟨0x010028, [], [⟨16, 16, .ro, 0, 0, 65535⟩, ⟨0, 16, .ro, 0, 0, 65535⟩]⟩, -- PW_XCNT
    ⟨0x010100, [(0x4, 16)], [⟨31, 1, .ro, 0, 0, 1⟩, ⟨0, 16, .ro, 0, 0, 65535⟩]⟩, -- PW_LGAUGE
    ⟨0x010140, [(0x4, 16)], [⟨31, 1, .ro, 0, 0, 1⟩, ⟨0, 16, .ro, 0, 0, 65535⟩]⟩ -- PW_PGAUGE
  ]

/-- The registers of the BX block (R313). -/
def regsBX : List RegDesc :=
  [
    ⟨0x020000, [], [⟨24, 8, .ro, 0, 0, 255⟩, ⟨11, 1, .ro, 0, 0, 1⟩, ⟨10, 1, .ro, 0, 0, 1⟩, ⟨9, 1, .ro, 1, 0, 1⟩, ⟨0, 9, .ro, 0, 0, 511⟩]⟩, -- BX_STAT
    ⟨0x020004, [], [⟨6, 1, .w1c, 0, 0, 1⟩, ⟨5, 1, .w1c, 0, 0, 1⟩, ⟨4, 1, .w1c, 0, 0, 1⟩, ⟨3, 1, .w1c, 0, 0, 1⟩, ⟨2, 1, .w1c, 0, 0, 1⟩, ⟨1, 1, .w1c, 0, 0, 1⟩, ⟨0, 1, .w1c, 0, 0, 1⟩]⟩, -- BX_EVT
    ⟨0x020008, [], [⟨16, 8, .rwl, 30, 0, 200⟩, ⟨0, 16, .rwl, 100, 1, 65535⟩]⟩, -- BX_CFG
    ⟨0x02000C, [], [⟨16, 16, .ro, 0, 0, 65535⟩, ⟨0, 16, .ro, 4000, 0, 65535⟩]⟩, -- BX_PCAP
    ⟨0x020010, [], [⟨20, 12, .ro, 0, 0, 4095⟩, ⟨10, 10, .ro, 40, 0, 1023⟩, ⟨0, 10, .ro, 40, 0, 1023⟩]⟩, -- BX_DIEMOD
    ⟨0x020014, [], [⟨16, 16, .ro, 0, 0, 65535⟩, ⟨0, 16, .ro, 0, 0, 65535⟩]⟩, -- BX_DIECOM
    ⟨0x020018, [], [⟨16, 16, .rwl, 0, 1, 65535⟩, ⟨0, 16, .rwl, 0, 1, 65535⟩]⟩, -- BX_RES0
    ⟨0x02001C, [], [⟨16, 16, .ro, 0, 0, 65535⟩, ⟨0, 16, .rwl, 0, 1, 65535⟩]⟩, -- BX_RES1
    ⟨0x020020, [], [⟨16, 16, .ro, 0, 0, 65535⟩, ⟨0, 16, .rwl, 0, 1, 65535⟩]⟩, -- BX_SUP
    ⟨0x020024, [], [⟨16, 16, .ro, 0, 0, 65535⟩, ⟨0, 16, .ro, 0, 0, 65535⟩]⟩, -- BX_TICK
    ⟨0x020028, [], [⟨30, 2, .ro, 0, 0, 3⟩, ⟨16, 14, .ro, 0, 0, 16383⟩, ⟨0, 16, .ro, 0, 0, 65535⟩]⟩, -- BX_DROP
    ⟨0x020040, [], [⟨16, 4, .rwl, 13, 0, 14⟩, ⟨0, 16, .rwl, 1000, 1, 65535⟩]⟩, -- BX_CLASS0
    ⟨0x020044, [], [⟨16, 4, .rwl, 11, 0, 14⟩, ⟨0, 16, .rwl, 1000, 1, 65535⟩]⟩, -- BX_CLASS1
    ⟨0x020048, [], [⟨16, 4, .rwl, 10, 0, 14⟩, ⟨0, 16, .rwl, 1000, 1, 65535⟩]⟩, -- BX_CLASS2
    ⟨0x02004C, [], [⟨16, 4, .rwl, 8, 0, 14⟩, ⟨0, 16, .rwl, 1000, 1, 65535⟩]⟩, -- BX_CLASS3
    ⟨0x020050, [], [⟨16, 4, .rwl, 7, 0, 14⟩, ⟨0, 16, .rwl, 1000, 1, 65535⟩]⟩, -- BX_CLASS4
    ⟨0x020054, [], [⟨16, 4, .rwl, 6, 0, 14⟩, ⟨0, 16, .rwl, 1000, 1, 65535⟩]⟩, -- BX_CLASS5
    ⟨0x020058, [], [⟨16, 4, .rwl, 5, 0, 14⟩, ⟨0, 16, .rwl, 1000, 1, 65535⟩]⟩, -- BX_CLASS6
    ⟨0x02005C, [], [⟨16, 4, .rwl, 4, 0, 14⟩, ⟨0, 16, .rwl, 1000, 1, 65535⟩]⟩, -- BX_CLASS7
    ⟨0x020060, [], [⟨16, 4, .rwl, 2, 0, 14⟩, ⟨0, 16, .rwl, 1000, 1, 65535⟩]⟩, -- BX_CLASS8
    ⟨0x020100, [(0x20, 4)], [⟨16, 16, .rwl, 0, 1, 65535⟩, ⟨0, 16, .rwl, 0, 1, 65535⟩]⟩, -- BX_WMOD0
    ⟨0x020104, [(0x20, 4)], [⟨16, 8, .rwl, 150, 0, 220⟩, ⟨8, 8, .rwl, 120, 0, 255⟩, ⟨0, 8, .rwl, 70, 0, 150⟩]⟩, -- BX_WMOD1
    ⟨0x020108, [(0x20, 4)], [⟨16, 16, .ro, 0, 0, 65535⟩, ⟨0, 16, .ro, 0, 0, 65535⟩]⟩, -- BX_WTEMP
    ⟨0x02010C, [(0x20, 4)], [⟨16, 16, .rwl, 0, 0, 65535⟩, ⟨0, 16, .rwl, 600, 1, 65535⟩]⟩, -- BX_BRK
    ⟨0x020110, [(0x20, 4)], [⟨16, 16, .rwl, 0, 0, 65535⟩, ⟨0, 16, .ro, 0, 0, 65535⟩]⟩ -- BX_BRKLV
  ]

/-- The registers of the TV block (R249). -/
def regsTV : List RegDesc :=
  [
    ⟨0x030000, [], [⟨8, 3, .ro, 0, 0, 7⟩, ⟨4, 2, .ro, 0, 0, 3⟩, ⟨2, 2, .ro, 3, 0, 3⟩]⟩, -- TV_STAT
    ⟨0x030004, [], [⟨10, 1, .w1c, 0, 0, 1⟩, ⟨9, 1, .w1c, 0, 0, 1⟩, ⟨8, 1, .w1c, 0, 0, 1⟩, ⟨7, 1, .w1c, 0, 0, 1⟩, ⟨6, 1, .w1c, 0, 0, 1⟩, ⟨5, 1, .w1c, 0, 0, 1⟩, ⟨4, 1, .w1c, 0, 0, 1⟩, ⟨3, 1, .w1c, 0, 0, 1⟩, ⟨2, 1, .w1c, 0, 0, 1⟩, ⟨1, 1, .w1c, 0, 0, 1⟩, ⟨0, 1, .w1c, 0, 0, 1⟩]⟩, -- TV_EVT
    ⟨0x030008, [], [⟨0, 24, .ro, 0, 0, 16777215⟩]⟩, -- TV_RSCNT
    ⟨0x03000C, [], [⟨0, 12, .ro, 0, 0, 4095⟩]⟩, -- TV_RECENT
    ⟨0x030010, [], [⟨30, 2, .ro, 0, 0, 3⟩, ⟨28, 2, .ro, 0, 0, 3⟩, ⟨24, 4, .ro, 0, 0, 15⟩, ⟨0, 24, .ro, 0, 0, 16777215⟩]⟩, -- TV_LASTODD
    ⟨0x030014, [], [⟨30, 2, .ro, 0, 0, 3⟩, ⟨0, 30, .ro, 0, 0, 1073741823⟩]⟩, -- TV_LASTT0
    ⟨0x030018, [], [⟨0, 32, .ro, 0, 0, 4294967295⟩]⟩, -- TV_LASTT1
    ⟨0x03001C, [], [⟨16, 16, .ro, 0, 0, 65535⟩, ⟨0, 16, .ro, 0, 0, 65535⟩]⟩, -- TV_SKEW
    ⟨0x030020, [], [⟨16, 16, .ro, 0, 0, 65535⟩, ⟨0, 16, .ro, 0, 0, 65535⟩]⟩, -- TV_SPREAD
    ⟨0x030024, [], [⟨0, 9, .ro, 0, 0, 511⟩]⟩, -- TV_WIN
    ⟨0x030028, [], [⟨16, 16, .ro, 0, 0, 65535⟩, ⟨8, 8, .ro, 0, 0, 255⟩, ⟨0, 2, .ro, 0, 0, 3⟩]⟩, -- TV_EXER
    ⟨0x03002C, [], [⟨0, 1, .wo, 0, 0, 1⟩]⟩ -- TV_CMD
  ]

/-- The registers of the WG block (R289). -/
def regsWG : List RegDesc :=
  [
    ⟨0x040000, [], [⟨24, 2, .ro, 3, 0, 3⟩, ⟨22, 2, .ro, 3, 0, 3⟩, ⟨20, 2, .ro, 3, 0, 3⟩, ⟨18, 2, .ro, 0, 0, 3⟩, ⟨16, 2, .ro, 0, 0, 3⟩, ⟨8, 1, .ro, 0, 0, 1⟩, ⟨7, 1, .ro, 0, 0, 1⟩, ⟨6, 1, .ro, 0, 0, 1⟩, ⟨5, 1, .ro, 0, 0, 1⟩, ⟨4, 1, .ro, 0, 0, 1⟩]⟩, -- WG_STAT
    ⟨0x040004, [], [⟨16, 1, .w1c, 0, 0, 1⟩, ⟨15, 1, .w1c, 0, 0, 1⟩, ⟨14, 1, .w1c, 0, 0, 1⟩, ⟨13, 1, .w1c, 0, 0, 1⟩, ⟨12, 1, .w1c, 0, 0, 1⟩, ⟨11, 1, .w1c, 0, 0, 1⟩, ⟨10, 1, .w1c, 0, 0, 1⟩, ⟨9, 1, .w1c, 0, 0, 1⟩, ⟨8, 1, .w1c, 0, 0, 1⟩, ⟨7, 1, .w1c, 0, 0, 1⟩, ⟨6, 1, .w1c, 0, 0, 1⟩, ⟨5, 1, .w1c, 0, 0, 1⟩, ⟨4, 1, .w1c, 0, 0, 1⟩, ⟨3, 1, .w1c, 0, 0, 1⟩, ⟨2, 1, .w1c, 0, 0, 1⟩, ⟨1, 1, .w1c, 0, 0, 1⟩, ⟨0, 1, .w1c, 0, 0, 1⟩]⟩, -- WG_EVT
    ⟨0x040008, [], [⟨24, 8, .rwl, 20, 1, 50⟩, ⟨16, 8, .rwl, 40, 20, 200⟩, ⟨0, 4, .rwl, 4, 2, 8⟩]⟩, -- WG_CFG
    ⟨0x04000C, [], [⟨0, 24, .rwl, 256, 1, 16777215⟩]⟩, -- WG_POSTOL
    ⟨0x040010, [], [⟨24, 8, .ro, 0, 0, 255⟩, ⟨16, 8, .ro, 0, 0, 255⟩, ⟨0, 16, .ro, 0, 0, 65535⟩]⟩, -- WG_P1CNT
    ⟨0x040014, [], [⟨24, 8, .ro, 0, 0, 255⟩, ⟨16, 8, .ro, 0, 0, 255⟩, ⟨0, 16, .ro, 0, 0, 65535⟩]⟩, -- WG_P2CNT
    ⟨0x040018, [], [⟨0, 32, .ro, 0, 0, 4294967295⟩]⟩, -- WG_TOFS1
    ⟨0x04001C, [], [⟨0, 32, .ro, 0, 0, 4294967295⟩]⟩, -- WG_TOFS2
    ⟨0x040020, [], [⟨24, 8, .ro, 0, 0, 255⟩, ⟨20, 2, .ro, 0, 0, 3⟩, ⟨0, 16, .ro, 0, 0, 65535⟩]⟩, -- WG_LEAD
    ⟨0x040024, [], [⟨16, 16, .ro, 0, 0, 65535⟩]⟩, -- WG_MIRROR
    ⟨0x040028, [], [⟨0, 32, .ro, 0, 0, 4294967295⟩]⟩, -- WG_MIRCRC
    ⟨0x04002C, [], [⟨24, 8, .ro, 0, 0, 255⟩, ⟨0, 24, .ro, 0, 0, 16777215⟩]⟩, -- WG_CMD
    ⟨0x040030, [], [⟨0, 16, .ro, 0, 0, 65535⟩]⟩, -- WG_CMDEXP
    ⟨0x040034, [], [⟨28, 4, .ro, 0, 0, 15⟩, ⟨24, 2, .ro, 0, 0, 3⟩, ⟨0, 16, .ro, 0, 0, 65535⟩]⟩, -- WG_RESYNC
    ⟨0x040038, [], [⟨16, 16, .ro, 4096, 0, 65535⟩, ⟨0, 16, .ro, 0, 0, 65535⟩]⟩, -- WG_DRILL
    ⟨0x04003C, [], [⟨1, 1, .wo, 0, 0, 1⟩, ⟨0, 1, .wo, 0, 0, 1⟩]⟩ -- WG_CTRL
  ]

/-- The registers of the BI block (R366). -/
def regsBI : List RegDesc :=
  [
    ⟨0x050000, [], [⟨16, 1, .ro, 0, 0, 1⟩, ⟨8, 8, .ro, 0, 0, 255⟩, ⟨0, 2, .ro, 0, 0, 3⟩]⟩, -- BI_STAT
    ⟨0x050004, [], [⟨11, 1, .w1c, 0, 0, 1⟩, ⟨10, 1, .w1c, 0, 0, 1⟩, ⟨9, 1, .w1c, 0, 0, 1⟩, ⟨8, 1, .w1c, 0, 0, 1⟩, ⟨7, 1, .w1c, 0, 0, 1⟩, ⟨6, 1, .w1c, 0, 0, 1⟩, ⟨5, 1, .w1c, 0, 0, 1⟩, ⟨4, 1, .w1c, 0, 0, 1⟩, ⟨3, 1, .w1c, 0, 0, 1⟩, ⟨2, 1, .w1c, 0, 0, 1⟩, ⟨1, 1, .w1c, 0, 0, 1⟩, ⟨0, 1, .w1c, 0, 0, 1⟩]⟩, -- BI_EVT
    ⟨0x050008, [], [⟨28, 1, .ro, 0, 0, 1⟩, ⟨24, 4, .ro, 0, 0, 15⟩, ⟨22, 2, .ro, 0, 0, 3⟩, ⟨20, 2, .ro, 0, 0, 3⟩, ⟨18, 2, .ro, 0, 0, 3⟩, ⟨17, 1, .ro, 0, 0, 1⟩, ⟨0, 17, .ro, 0, 0, 131071⟩]⟩, -- BI_UNUS
    ⟨0x05000C, [], [⟨16, 12, .ro, 0, 0, 4095⟩, ⟨0, 12, .ro, 0, 0, 4095⟩]⟩, -- BI_CMPST
    ⟨0x050010, [], [⟨0, 24, .ro, 0, 0, 16777215⟩]⟩, -- BI_SWFAIL
    ⟨0x050014, [], [⟨0, 12, .ro, 0, 0, 4095⟩]⟩, -- BI_TWIN
    ⟨0x050018, [], [⟨31, 1, .ro, 0, 0, 1⟩, ⟨26, 5, .ro, 0, 0, 31⟩, ⟨15, 11, .ro, 0, 0, 2047⟩, ⟨10, 5, .ro, 0, 0, 31⟩, ⟨9, 1, .ro, 0, 0, 1⟩, ⟨0, 6, .ro, 0, 0, 63⟩]⟩, -- BI_MEMRES
    ⟨0x05001C, [], [⟨16, 16, .ro, 0, 0, 65535⟩, ⟨8, 8, .ro, 0, 0, 255⟩, ⟨0, 8, .ro, 0, 0, 255⟩]⟩, -- BI_MEMCNT
    ⟨0x050020, [], [⟨16, 16, .ro, 0, 0, 65535⟩, ⟨0, 16, .ro, 0, 0, 65535⟩]⟩, -- BI_REFFIG
    ⟨0x050024, [], [⟨0, 8, .rwl, 40, 10, 100⟩]⟩, -- BI_REFCFG
    ⟨0x050028, [], [⟨16, 16, .rwl, 1000, 100, 65535⟩, ⟨0, 16, .rwl, 100, 10, 65535⟩]⟩, -- BI_ROT
    ⟨0x05002C, [], [⟨16, 16, .ro, 0, 0, 65535⟩, ⟨8, 5, .ro, 0, 0, 31⟩, ⟨0, 5, .ro, 0, 0, 31⟩]⟩, -- BI_ROTPOS
    ⟨0x050030, [], [⟨16, 16, .ro, 0, 0, 65535⟩, ⟨0, 16, .ro, 0, 0, 65535⟩]⟩, -- BI_LNK
    ⟨0x050034, [], [⟨8, 8, .wo, 0, 0, 255⟩, ⟨0, 1, .wo, 0, 0, 1⟩]⟩, -- BI_CMD
    ⟨0x050038, [], [⟨16, 16, .ro, 0, 0, 65535⟩, ⟨0, 16, .ro, 0, 0, 65535⟩]⟩ -- BI_SODT
  ]

/-- The registers of the DC block (R102). -/
def regsDC : List RegDesc :=
  [
    ⟨0x060000, [(0x1000, 4)], [⟨7, 1, .rwl, 0, 0, 1⟩, ⟨6, 1, .rwl, 0, 0, 1⟩, ⟨5, 1, .rwl, 0, 0, 1⟩, ⟨4, 1, .rwl, 0, 0, 1⟩, ⟨0, 1, .rw, 0, 0, 1⟩]⟩, -- DC_CTRL
    ⟨0x060004, [(0x1000, 4)], [⟨24, 6, .ro, 63, 0, 63⟩, ⟨19, 1, .ro, 0, 0, 1⟩, ⟨18, 1, .ro, 0, 0, 1⟩, ⟨17, 1, .ro, 0, 0, 1⟩, ⟨16, 1, .ro, 0, 0, 1⟩, ⟨15, 1, .ro, 0, 0, 1⟩, ⟨14, 1, .ro, 0, 0, 1⟩, ⟨12, 2, .ro, 0, 0, 3⟩, ⟨8, 4, .ro, 0, 0, 15⟩, ⟨0, 4, .ro, 0, 0, 15⟩]⟩, -- DC_STAT
    ⟨0x060008, [(0x1000, 4)], [⟨11, 1, .w1c, 0, 0, 1⟩, ⟨10, 1, .w1c, 0, 0, 1⟩, ⟨9, 1, .w1c, 0, 0, 1⟩, ⟨8, 1, .w1c, 0, 0, 1⟩, ⟨7, 1, .w1c, 0, 0, 1⟩, ⟨6, 1, .w1c, 0, 0, 1⟩, ⟨5, 1, .w1c, 0, 0, 1⟩, ⟨4, 1, .w1c, 0, 0, 1⟩, ⟨3, 1, .w1c, 0, 0, 1⟩, ⟨2, 1, .w1c, 0, 0, 1⟩, ⟨1, 1, .w1c, 0, 0, 1⟩, ⟨0, 1, .w1c, 0, 0, 1⟩]⟩, -- DC_EVT
    ⟨0x06000C, [(0x1000, 4)], [⟨16, 16, .ro, 0, 0, 65535⟩, ⟨8, 8, .ro, 0, 0, 255⟩, ⟨0, 8, .ro, 0, 0, 255⟩]⟩, -- DC_CNT
    ⟨0x060010, [(0x1000, 4)], [⟨16, 16, .ro, 0, 0, 65535⟩, ⟨0, 16, .ro, 0, 0, 65535⟩]⟩, -- DC_TREF
    ⟨0x060014, [(0x1000, 4)], [⟨0, 16, .ro, 0, 0, 65535⟩]⟩, -- DC_TEST
    ⟨0x060018, [(0x1000, 4)], [⟨16, 16, .rwl, 0, 0, 65535⟩, ⟨0, 16, .ro, 0, 0, 65535⟩]⟩, -- DC_TQLIM
    ⟨0x06001C, [(0x1000, 4)], [⟨16, 16, .ro, 0, 0, 65535⟩, ⟨0, 16, .ro, 0, 0, 65535⟩]⟩, -- DC_PSI
    ⟨0x060020, [(0x1000, 4)], [⟨16, 16, .ro, 0, 0, 65535⟩, ⟨0, 16, .ro, 0, 0, 65535⟩]⟩, -- DC_ANGLE
    ⟨0x060024, [(0x1000, 4)], [⟨16, 16, .rwl, 0, 0, 65535⟩, ⟨0, 16, .ro, 0, 0, 65535⟩]⟩, -- DC_TRIM
    ⟨0x060028, [(0x1000, 4)], [⟨16, 16, .rwl, 0, 1, 65535⟩, ⟨0, 16, .rwl, 0, 1, 32767⟩]⟩, -- DC_BANDS
    ⟨0x06002C, [(0x1000, 4)], [⟨16, 16, .rwl, 0, 0, 65535⟩, ⟨0, 16, .rwl, 0, 0, 65535⟩]⟩, -- DC_FLUX
    ⟨0x060030, [(0x1000, 4)], [⟨16, 16, .rwl, 0, 0, 65535⟩, ⟨0, 8, .rwl, 0, 1, 32⟩]⟩, -- DC_MOT0
    ⟨0x060034, [(0x1000, 4)], [⟨16, 16, .rwl, 0, 0, 65535⟩, ⟨0, 16, .rwl, 0, 0, 65535⟩]⟩, -- DC_MOT1
    ⟨0x060038, [(0x1000, 4)], [⟨16, 16, .rwl, 0, 0, 65535⟩, ⟨0, 16, .rwl, 0, 0, 65535⟩]⟩, -- DC_MOT2
    ⟨0x06003C, [(0x1000, 4)], [⟨16, 16, .rwl, 0, 0, 65535⟩, ⟨0, 16, .rwl, 0, 0, 65535⟩]⟩, -- DC_SCALE
    ⟨0x060040, [(0x1000, 4)], [⟨0, 16, .rwl, 0, 0, 65535⟩]⟩, -- DC_THOFS
    ⟨0x060044, [(0x1000, 4)], [⟨16, 10, .rwl, 1023, 0, 1023⟩, ⟨0, 10, .rwl, 0, 0, 1023⟩]⟩, -- DC_PEAK
    ⟨0x060048, [(0x1000, 4)], [⟨8, 4, .rwl, 2, 1, 8⟩, ⟨0, 8, .rwl, 0, 0, 255⟩]⟩, -- DC_LADCFG
    ⟨0x06004C, [(0x1000, 4)], [⟨16, 8, .rwl, 0, 0, 255⟩, ⟨8, 8, .rwl, 0, 0, 255⟩, ⟨0, 8, .rwl, 0, 0, 255⟩]⟩, -- DC_ISOFS
    ⟨0x060050, [(0x1000, 4), (0x4, 4)], [⟨16, 10, .rwl, 512, 0, 1023⟩, ⟨0, 10, .rwl, 512, 0, 1023⟩]⟩, -- DC_LAD
    ⟨0x060060, [(0x1000, 4)], [⟨16, 16, .rwl, 0, 0, 65535⟩, ⟨0, 8, .rwl, 0, 1, 255⟩]⟩, -- DC_RESID
    ⟨0x060064, [(0x1000, 4)], [⟨16, 16, .rwl, 0, 0, 65535⟩, ⟨0, 16, .rwl, 0, 0, 65535⟩]⟩, -- DC_TRIMK
    ⟨0x060068, [(0x1000, 4)], [⟨30, 2, .ro, 0, 0, 3⟩, ⟨27, 3, .ro, 0, 0, 7⟩, ⟨26, 1, .ro, 0, 0, 1⟩, ⟨25, 1, .ro, 0, 0, 1⟩, ⟨16, 4, .ro, 0, 0, 15⟩, ⟨0, 16, .ro, 0, 0, 65535⟩]⟩ -- DC_LASTX
  ]
  ++ [
    ⟨0x06006C, [(0x1000, 4)], [⟨0, 32, .ro, 0, 0, 4294967295⟩]⟩, -- DC_LASTT
    ⟨0x060070, [(0x1000, 4)], [⟨16, 16, .rwl, 0, 0, 65535⟩, ⟨0, 16, .rwl, 200, 0, 65535⟩]⟩, -- DC_REV
    ⟨0x060074, [(0x1000, 4)], [⟨16, 16, .rwl, 400, 10, 400⟩, ⟨0, 16, .rwl, 200, 200, 2000⟩]⟩, -- DC_LIMITS
    ⟨0x060078, [(0x1000, 4)], [⟨16, 16, .rwl, 2731, 0, 65535⟩, ⟨0, 16, .rwl, 1000, 0, 65535⟩]⟩, -- DC_BEMF0
    ⟨0x06007C, [(0x1000, 4)], [⟨16, 8, .rwl, 6, 0, 255⟩, ⟨0, 16, .rwl, 200, 0, 1000⟩]⟩, -- DC_BEMF1
    ⟨0x060080, [(0x1000, 4)], [⟨16, 16, .rwl, 0, 0, 65535⟩, ⟨8, 8, .rwl, 10, 5, 50⟩, ⟨5, 3, .rwl, 0, 0, 7⟩, ⟨0, 5, .rwl, 16, 8, 31⟩]⟩, -- DC_RCATCH
    ⟨0x060084, [(0x1000, 4)], [⟨0, 16, .rwl, 182, 0, 65535⟩]⟩, -- DC_SECT
    ⟨0x060088, [(0x1000, 4)], [⟨0, 32, .rwl, 0, 0, 4294967295⟩]⟩, -- DC_CPR
    ⟨0x060800, [(0x1000, 4), (0x4, 9)], [⟨31, 1, .rwl, 0, 0, 1⟩, ⟨28, 1, .rwl, 0, 0, 1⟩, ⟨24, 3, .rwl, 0, 0, 7⟩, ⟨23, 1, .rwl, 0, 0, 1⟩, ⟨20, 1, .rwl, 0, 0, 1⟩, ⟨16, 3, .rwl, 0, 0, 7⟩, ⟨15, 1, .rwl, 0, 0, 1⟩, ⟨12, 1, .rwl, 0, 0, 1⟩, ⟨8, 3, .rwl, 0, 0, 7⟩, ⟨7, 1, .rwl, 0, 0, 1⟩, ⟨4, 1, .rwl, 0, 0, 1⟩, ⟨0, 3, .rwl, 0, 0, 7⟩]⟩, -- DC_TAB6
    ⟨0x060840, [(0x1000, 4), (0x4, 18)], [⟨31, 1, .rwl, 0, 0, 1⟩, ⟨28, 1, .rwl, 0, 0, 1⟩, ⟨24, 3, .rwl, 0, 0, 7⟩, ⟨23, 1, .rwl, 0, 0, 1⟩, ⟨20, 1, .rwl, 0, 0, 1⟩, ⟨16, 3, .rwl, 0, 0, 7⟩, ⟨15, 1, .rwl, 0, 0, 1⟩, ⟨12, 1, .rwl, 0, 0, 1⟩, ⟨8, 3, .rwl, 0, 0, 7⟩, ⟨7, 1, .rwl, 0, 0, 1⟩, ⟨4, 1, .rwl, 0, 0, 1⟩, ⟨0, 3, .rwl, 0, 0, 7⟩]⟩, -- DC_TAB12
    ⟨0x060900, [(0x1000, 4), (0x4, 54)], [⟨31, 1, .rwl, 0, 0, 1⟩, ⟨28, 1, .rwl, 0, 0, 1⟩, ⟨24, 3, .rwl, 0, 0, 7⟩, ⟨23, 1, .rwl, 0, 0, 1⟩, ⟨20, 1, .rwl, 0, 0, 1⟩, ⟨16, 3, .rwl, 0, 0, 7⟩, ⟨15, 1, .rwl, 0, 0, 1⟩, ⟨12, 1, .rwl, 0, 0, 1⟩, ⟨8, 3, .rwl, 0, 0, 7⟩, ⟨7, 1, .rwl, 0, 0, 1⟩, ⟨4, 1, .rwl, 0, 0, 1⟩, ⟨0, 3, .rwl, 0, 0, 7⟩]⟩, -- DC_DEG6
    ⟨0x060A00, [(0x1000, 4), (0x4, 108)], [⟨31, 1, .rwl, 0, 0, 1⟩, ⟨28, 1, .rwl, 0, 0, 1⟩, ⟨24, 3, .rwl, 0, 0, 7⟩, ⟨23, 1, .rwl, 0, 0, 1⟩, ⟨20, 1, .rwl, 0, 0, 1⟩, ⟨16, 3, .rwl, 0, 0, 7⟩, ⟨15, 1, .rwl, 0, 0, 1⟩, ⟨12, 1, .rwl, 0, 0, 1⟩, ⟨8, 3, .rwl, 0, 0, 7⟩, ⟨7, 1, .rwl, 0, 0, 1⟩, ⟨4, 1, .rwl, 0, 0, 1⟩, ⟨0, 3, .rwl, 0, 0, 7⟩]⟩ -- DC_DEG12
  ]

/-- The registers of the GD block (R152, R153). -/
def regsGD : List RegDesc :=
  [
    ⟨0x070000, [(0x1000, 4)], [⟨0, 2, .rwl, 0, 0, 2⟩]⟩, -- GD_CFG
    ⟨0x070004, [(0x1000, 4)], [⟨0, 8, .rwl, 30, 5, 200⟩]⟩, -- GD_DT
    ⟨0x070008, [(0x1000, 4)], [⟨16, 9, .rwl, 100, 20, 500⟩, ⟨0, 9, .rwl, 100, 25, 500⟩]⟩, -- GD_VDS
    ⟨0x07000C, [(0x1000, 4)], [⟨25, 7, .rwl, 10, 1, 100⟩, ⟨16, 9, .rwl, 200, 50, 500⟩, ⟨0, 16, .rwl, 200, 5, 2000⟩]⟩, -- GD_BSTCFG
    ⟨0x070010, [(0x1000, 4)], [⟨0, 16, .rwl, 200, 50, 2000⟩]⟩, -- GD_BSTCFG2
    ⟨0x070014, [(0x1000, 4)], [⟨24, 6, .ro, 0, 0, 63⟩, ⟨16, 6, .ro, 0, 0, 63⟩, ⟨8, 6, .ro, 0, 0, 63⟩, ⟨0, 6, .ro, 0, 0, 63⟩]⟩, -- GD_STAT
    ⟨0x070018, [(0x1000, 4)], [⟨24, 6, .ro, 0, 0, 63⟩, ⟨18, 6, .ro, 0, 0, 63⟩, ⟨12, 6, .ro, 0, 0, 63⟩, ⟨6, 6, .ro, 0, 0, 63⟩, ⟨0, 6, .ro, 0, 0, 63⟩]⟩, -- GD_FAULT
    ⟨0x07001C, [(0x1000, 4)], [⟨15, 1, .w1c, 0, 0, 1⟩, ⟨14, 1, .w1c, 0, 0, 1⟩, ⟨13, 1, .w1c, 0, 0, 1⟩, ⟨12, 1, .w1c, 0, 0, 1⟩, ⟨11, 1, .w1c, 0, 0, 1⟩, ⟨10, 1, .w1c, 0, 0, 1⟩, ⟨9, 1, .w1c, 0, 0, 1⟩, ⟨8, 1, .w1c, 0, 0, 1⟩, ⟨7, 1, .w1c, 0, 0, 1⟩, ⟨6, 1, .w1c, 0, 0, 1⟩, ⟨5, 1, .w1c, 0, 0, 1⟩, ⟨4, 1, .w1c, 0, 0, 1⟩, ⟨3, 1, .w1c, 0, 0, 1⟩, ⟨2, 1, .w1c, 0, 0, 1⟩, ⟨1, 1, .w1c, 0, 0, 1⟩, ⟨0, 1, .w1c, 0, 0, 1⟩]⟩, -- GD_EVT
    ⟨0x070020, [(0x1000, 4)], [⟨16, 16, .ro, 0, 0, 65535⟩, ⟨0, 16, .ro, 0, 0, 65535⟩]⟩, -- GD_CNT0
    ⟨0x070024, [(0x1000, 4)], [⟨16, 16, .ro, 0, 0, 65535⟩, ⟨0, 16, .ro, 0, 0, 65535⟩]⟩, -- GD_CNT1
    ⟨0x070028, [(0x1000, 4)], [⟨16, 16, .ro, 0, 0, 65535⟩, ⟨0, 16, .ro, 0, 0, 65535⟩]⟩, -- GD_BSTV0
    ⟨0x07002C, [(0x1000, 4)], [⟨0, 16, .ro, 0, 0, 65535⟩]⟩, -- GD_BSTV1
    ⟨0x070030, [(0x1000, 4)], [⟨16, 6, .ro, 0, 0, 63⟩, ⟨8, 6, .ro, 0, 0, 63⟩, ⟨0, 6, .rw, 0, 0, 63⟩]⟩, -- GD_LKCTL
    ⟨0x070034, [(0x1000, 4)], [⟨0, 6, .wo, 0, 0, 63⟩]⟩, -- GD_FCLR
    ⟨0x070038, [(0x1000, 4)], [⟨0, 6, .ro, 0, 0, 63⟩]⟩, -- GD_GIN
    ⟨0x070F00, [], [⟨25, 1, .ro, 0, 0, 1⟩, ⟨24, 1, .ro, 0, 0, 1⟩, ⟨23, 1, .ro, 0, 0, 1⟩, ⟨22, 1, .ro, 0, 0, 1⟩, ⟨21, 1, .ro, 0, 0, 1⟩, ⟨20, 1, .ro, 0, 0, 1⟩, ⟨16, 3, .ro, 0, 0, 7⟩, ⟨0, 16, .ro, 0, 0, 65535⟩]⟩, -- GD_VMSTAT
    ⟨0x070F04, [], [⟨16, 16, .rwl, 9200, 2000, 10000⟩, ⟨0, 16, .rwl, 9000, 2000, 10000⟩]⟩, -- GD_OVA
    ⟨0x070F08, [], [⟨16, 16, .rwl, 9600, 2000, 10000⟩, ⟨0, 16, .rwl, 9400, 2000, 10000⟩]⟩, -- GD_OVB
    ⟨0x070F0C, [], [⟨16, 16, .rwl, 100, 10, 500⟩, ⟨0, 16, .rwl, 200, 10, 500⟩]⟩, -- GD_OVH
    ⟨0x070F10, [], [⟨24, 1, .rwl, 0, 0, 1⟩, ⟨16, 2, .rwl, 0, 0, 3⟩, ⟨0, 16, .rwl, 10000, 0, 65535⟩]⟩, -- GD_OVCFG
    ⟨0x070F14, [], [⟨7, 1, .w1c, 0, 0, 1⟩, ⟨6, 1, .w1c, 0, 0, 1⟩, ⟨5, 1, .w1c, 0, 0, 1⟩, ⟨4, 1, .w1c, 0, 0, 1⟩, ⟨3, 1, .w1c, 0, 0, 1⟩, ⟨2, 1, .w1c, 0, 0, 1⟩, ⟨1, 1, .w1c, 0, 0, 1⟩, ⟨0, 1, .w1c, 0, 0, 1⟩]⟩, -- GD_LEVT
    ⟨0x070F18, [], [⟨0, 32, .ro, 0, 0, 4294967295⟩]⟩ -- GD_CHON
  ]

/-- The registers of the FB block (R192). -/
def regsFB : List RegDesc :=
  [
    ⟨0x080000, [(0x1000, 4)], [⟨7, 1, .rwl, 0, 0, 1⟩, ⟨6, 1, .rwl, 0, 0, 1⟩, ⟨5, 1, .rwl, 0, 0, 1⟩, ⟨2, 2, .rwl, 0, 0, 2⟩, ⟨0, 2, .rwl, 0, 0, 3⟩]⟩, -- FB_CFG
    ⟨0x080004, [(0x1000, 4)], [⟨8, 3, .rwl, 2, 0, 7⟩, ⟨0, 3, .rwl, 0, 0, 7⟩]⟩, -- FB_FILT
    ⟨0x080008, [(0x1000, 4)], [⟨2, 2, .rw, 1, 0, 3⟩, ⟨1, 1, .wo, 0, 0, 1⟩, ⟨0, 1, .wo, 0, 0, 1⟩]⟩, -- FB_CTRL
    ⟨0x08000C, [(0x1000, 4)], [⟨16, 3, .ro, 0, 0, 7⟩, ⟨12, 3, .ro, 0, 0, 7⟩, ⟨10, 2, .ro, 0, 0, 3⟩, ⟨9, 1, .ro, 0, 0, 1⟩, ⟨8, 1, .ro, 0, 0, 1⟩, ⟨7, 1, .ro, 0, 0, 1⟩, ⟨6, 1, .ro, 1, 0, 1⟩, ⟨5, 1, .ro, 1, 0, 1⟩, ⟨4, 1, .ro, 0, 0, 1⟩, ⟨3, 1, .ro, 0, 0, 1⟩, ⟨0, 1, .ro, 0, 0, 1⟩]⟩, -- FB_STAT
    ⟨0x080010, [(0x1000, 4)], [⟨17, 1, .w1c, 0, 0, 1⟩, ⟨16, 1, .w1c, 0, 0, 1⟩, ⟨15, 1, .w1c, 0, 0, 1⟩, ⟨14, 1, .w1c, 0, 0, 1⟩, ⟨13, 1, .w1c, 0, 0, 1⟩, ⟨12, 1, .w1c, 0, 0, 1⟩, ⟨11, 1, .w1c, 0, 0, 1⟩, ⟨10, 1, .w1c, 0, 0, 1⟩, ⟨9, 1, .w1c, 0, 0, 1⟩, ⟨8, 1, .w1c, 0, 0, 1⟩, ⟨7, 1, .w1c, 0, 0, 1⟩, ⟨6, 1, .w1c, 0, 0, 1⟩, ⟨5, 1, .w1c, 0, 0, 1⟩, ⟨4, 1, .w1c, 0, 0, 1⟩, ⟨3, 1, .w1c, 0, 0, 1⟩, ⟨2, 1, .w1c, 0, 0, 1⟩, ⟨1, 1, .w1c, 0, 0, 1⟩, ⟨0, 1, .w1c, 0, 0, 1⟩]⟩, -- FB_EVT
    ⟨0x080014, [(0x1000, 4)], [⟨0, 32, .ro, 0, 0, 4294967295⟩]⟩, -- FB_POS
    ⟨0x080018, [(0x1000, 4)], [⟨0, 32, .ro, 0, 0, 4294967295⟩]⟩, -- FB_BPOS
    ⟨0x08001C, [(0x1000, 4)], [⟨16, 16, .ro, 0, 0, 65535⟩, ⟨8, 8, .ro, 0, 0, 255⟩]⟩, -- FB_BHI
    ⟨0x080020, [(0x1000, 4)], [⟨0, 32, .ro, 0, 0, 4294967295⟩]⟩, -- FB_SPEED
    ⟨0x080024, [(0x1000, 4)], [⟨8, 2, .rwl, 0, 0, 2⟩, ⟨0, 8, .rwl, 20, 1, 100⟩]⟩, -- FB_SPDCFG
    ⟨0x080028, [(0x1000, 4)], [⟨16, 16, .ro, 0, 0, 65535⟩, ⟨0, 11, .ro, 0, 0, 2047⟩]⟩, -- FB_STEP
    ⟨0x08002C, [(0x1000, 4)], [⟨8, 8, .rwl, 1, 0, 255⟩, ⟨1, 2, .rwl, 0, 0, 3⟩, ⟨0, 1, .rwl, 0, 0, 1⟩]⟩, -- FB_IDX
    ⟨0x080030, [(0x1000, 4)], [⟨0, 32, .rwl, 0, 0, 4294967295⟩]⟩, -- FB_IDXPOS
    ⟨0x080034, [(0x1000, 4)], [⟨0, 32, .ro, 0, 0, 4294967295⟩]⟩, -- FB_IDXERR
    ⟨0x080038, [(0x1000, 4)], [⟨0, 32, .rwl, 0, 0, 4294967295⟩]⟩, -- FB_CPR
    ⟨0x08003C, [(0x1000, 4)], [⟨0, 32, .ro, 0, 0, 4294967295⟩]⟩, -- FB_PRBPOS
    ⟨0x080040, [(0x1000, 4)], [⟨30, 2, .ro, 0, 0, 3⟩, ⟨0, 30, .ro, 0, 0, 1073741823⟩]⟩, -- FB_PRBTS0
    ⟨0x080044, [(0x1000, 4)], [⟨0, 32, .ro, 0, 0, 4294967295⟩]⟩, -- FB_PRBTS1
    ⟨0x080048, [(0x1000, 4)], [⟨21, 1, .rwl, 0, 0, 1⟩, ⟨16, 5, .rwl, 6, 3, 16⟩, ⟨8, 6, .rwl, 32, 8, 40⟩, ⟨2, 2, .rwl, 3, 0, 3⟩, ⟨0, 2, .rwl, 0, 0, 3⟩]⟩, -- FB_SER0
    ⟨0x08004C, [(0x1000, 4)], [⟨16, 10, .rwl, 50, 5, 1000⟩, ⟨0, 16, .rwl, 67, 0, 65535⟩]⟩, -- FB_SER1
    ⟨0x080050, [(0x1000, 4)], [⟨24, 1, .rwl, 0, 0, 1⟩, ⟨16, 8, .rwl, 2, 1, 255⟩, ⟨8, 5, .rwl, 0, 0, 24⟩, ⟨0, 6, .rwl, 0, 8, 32⟩]⟩, -- FB_SER2
    ⟨0x080054, [(0x1000, 4)], [⟨0, 32, .ro, 0, 0, 4294967295⟩]⟩, -- FB_SERPOS
    ⟨0x080058, [(0x1000, 4)], [⟨16, 16, .ro, 0, 0, 65535⟩, ⟨0, 11, .ro, 0, 0, 2047⟩]⟩, -- FB_SERCNT
    ⟨0x08005C, [(0x1000, 4)], [⟨16, 16, .rwl, 2731, 0, 65535⟩, ⟨0, 16, .rwl, 0, 0, 65535⟩]⟩ -- FB_HALL
  ]

/-- The registers of the LE block (R218). -/
def regsLE : List RegDesc :=
  [
    ⟨0x090000, [], [⟨1, 1, .ro, 0, 0, 1⟩, ⟨0, 1, .ro, 0, 0, 1⟩]⟩, -- LE_LSTAT
    ⟨0x090004, [], [⟨1, 1, .w1c, 0, 0, 1⟩, ⟨0, 1, .w1c, 0, 0, 1⟩]⟩, -- LE_LEVT
    ⟨0x090100, [(0x100, 4)], [⟨0, 2, .rwl, 0, 0, 3⟩]⟩, -- LE_AXCFG
    ⟨0x090104, [(0x100, 4)], [⟨8, 1, .ro, 0, 0, 1⟩, ⟨6, 2, .ro, 0, 0, 3⟩, ⟨4, 2, .ro, 0, 0, 3⟩, ⟨3, 1, .ro, 0, 0, 1⟩, ⟨2, 1, .ro, 0, 0, 1⟩, ⟨0, 2, .ro, 0, 0, 3⟩]⟩, -- LE_STAT
    ⟨0x090108, [(0x100, 4)], [⟨5, 1, .w1c, 0, 0, 1⟩, ⟨4, 1, .w1c, 0, 0, 1⟩, ⟨3, 1, .w1c, 0, 0, 1⟩, ⟨2, 1, .w1c, 0, 0, 1⟩, ⟨1, 1, .w1c, 0, 0, 1⟩, ⟨0, 1, .w1c, 0, 0, 1⟩]⟩, -- LE_EVT
    ⟨0x09010C, [(0x100, 4)], [⟨16, 4, .rwl, 0, 0, 8⟩, ⟨0, 16, .rwl, 0, 0, 32767⟩]⟩, -- LE_KPO
    ⟨0x090110, [(0x100, 4)], [⟨16, 4, .rwl, 0, 0, 8⟩, ⟨0, 16, .rwl, 0, 0, 32767⟩]⟩, -- LE_KIO
    ⟨0x090114, [(0x100, 4)], [⟨16, 4, .rwl, 0, 0, 8⟩, ⟨0, 16, .rwl, 0, 0, 32767⟩]⟩, -- LE_KPW
    ⟨0x090118, [(0x100, 4)], [⟨16, 4, .rwl, 0, 0, 8⟩, ⟨0, 16, .rwl, 0, 0, 32767⟩]⟩, -- LE_KIW
    ⟨0x09011C, [(0x100, 4)], [⟨0, 16, .rwl, 16384, 1, 32767⟩]⟩, -- LE_SOFT
    ⟨0x090120, [(0x100, 4)], [⟨16, 16, .rwl, 0, 0, 32767⟩, ⟨0, 16, .rwl, 0, 0, 32767⟩]⟩, -- LE_ILIM
    ⟨0x090124, [(0x100, 4)], [⟨0, 16, .rwl, 0, 0, 32767⟩]⟩, -- LE_WMAX
    ⟨0x090128, [(0x100, 4)], [⟨16, 16, .rwl, 0, 1, 65535⟩, ⟨0, 16, .rwl, 0, 1, 65535⟩]⟩, -- LE_SCALE
    ⟨0x09012C, [(0x100, 4)], [⟨0, 25, .rwl, 0, 1, 16777216⟩]⟩, -- LE_PFS
    ⟨0x090130, [(0x100, 4)], [⟨0, 32, .rwl, 0, 1, 4294967295⟩]⟩, -- LE_GEAR
    ⟨0x090134, [(0x100, 4)], [⟨0, 32, .rwl, 0, 0, 4294967295⟩]⟩, -- LE_PZERO_LO
    ⟨0x090138, [(0x100, 4)], [⟨0, 32, .rwl, 0, 0, 4294967295⟩]⟩, -- LE_PZERO_HI
    ⟨0x090140, [(0x100, 4), (0x4, 8)], [⟨16, 16, .rwl, 0, 0, 32767⟩, ⟨0, 16, .rwl, 0, 0, 32767⟩]⟩, -- LE_FCRV
    ⟨0x090160, [(0x100, 4)], [⟨0, 16, .rwl, 0, 1, 65535⟩]⟩, -- LE_FSTEP
    ⟨0x090164, [(0x100, 4)], [⟨24, 8, .rwl, 8, 2, 255⟩, ⟨16, 8, .rwl, 20, 1, 255⟩, ⟨0, 16, .rwl, 164, 1, 32767⟩]⟩, -- LE_OSCO
    ⟨0x090168, [(0x100, 4)], [⟨24, 8, .rwl, 8, 2, 255⟩, ⟨16, 8, .rwl, 20, 1, 255⟩, ⟨0, 16, .rwl, 164, 1, 32767⟩]⟩, -- LE_OSCW
    ⟨0x09016C, [(0x100, 4)], [⟨16, 16, .rwl, 0, 1, 65535⟩, ⟨0, 16, .rwl, 0, 0, 65535⟩]⟩, -- LE_PLS0
    ⟨0x090170, [(0x100, 4)], [⟨28, 4, .ro, 0, 0, 15⟩, ⟨24, 4, .rwl, 3, 1, 15⟩, ⟨16, 8, .rwl, 50, 10, 255⟩, ⟨0, 16, .rwl, 500, 1, 65535⟩]⟩, -- LE_PLS1
    ⟨0x090174, [(0x100, 4)], [⟨0, 16, .rwl, 0, 0, 65535⟩]⟩ -- LE_KF
  ]
  ++ [
    ⟨0x090178, [(0x100, 4)], [⟨0, 32, .ro, 0, 0, 4294967295⟩]⟩, -- LE_PREF_LO
    ⟨0x09017C, [(0x100, 4)], [⟨0, 32, .ro, 0, 0, 4294967295⟩]⟩, -- LE_PREF_HI
    ⟨0x090180, [(0x100, 4)], [⟨16, 16, .ro, 0, 0, 65535⟩, ⟨0, 16, .ro, 0, 0, 65535⟩]⟩, -- LE_WREF
    ⟨0x090184, [(0x100, 4)], [⟨16, 16, .ro, 0, 0, 65535⟩, ⟨0, 16, .ro, 0, 0, 65535⟩]⟩, -- LE_OUT
    ⟨0x090188, [(0x100, 4)], [⟨16, 16, .ro, 0, 0, 65535⟩, ⟨0, 16, .ro, 0, 0, 65535⟩]⟩, -- LE_INT
    ⟨0x09018C, [(0x100, 4)], [⟨16, 16, .ro, 0, 0, 65535⟩, ⟨0, 16, .ro, 0, 0, 65535⟩]⟩, -- LE_OANG
    ⟨0x090190, [(0x100, 4)], [⟨24, 8, .ro, 0, 0, 255⟩, ⟨16, 8, .ro, 0, 0, 255⟩, ⟨0, 16, .ro, 0, 0, 65535⟩]⟩, -- LE_SUPV
    ⟨0x090194, [(0x100, 4)], [⟨16, 16, .ro, 0, 0, 65535⟩, ⟨0, 16, .ro, 0, 0, 65535⟩]⟩ -- LE_CNT
  ]

/-- The registers of the VR block (R410). -/
def regsVR : List RegDesc :=
  [
    ⟨0x0A0000, [], [⟨16, 10, .rwl, 0, 1, 1023⟩, ⟨8, 2, .rwl, 2, 1, 2⟩, ⟨2, 1, .rwl, 1, 0, 1⟩, ⟨1, 1, .rwl, 0, 0, 1⟩, ⟨0, 1, .rwl, 0, 0, 1⟩]⟩, -- VR_CFG
    ⟨0x0A0004, [], [⟨28, 4, .ro, 0, 0, 15⟩, ⟨18, 10, .ro, 0, 0, 1023⟩, ⟨15, 3, .ro, 0, 0, 7⟩, ⟨12, 3, .ro, 0, 0, 7⟩, ⟨11, 1, .ro, 0, 0, 1⟩, ⟨10, 1, .ro, 0, 0, 1⟩, ⟨9, 1, .ro, 0, 0, 1⟩, ⟨8, 1, .ro, 0, 0, 1⟩, ⟨7, 1, .ro, 0, 0, 1⟩, ⟨0, 7, .ro, 0, 0, 127⟩]⟩, -- VR_STAT
    ⟨0x0A0008, [], [⟨15, 1, .w1c, 0, 0, 1⟩, ⟨14, 1, .w1c, 0, 0, 1⟩, ⟨13, 1, .w1c, 0, 0, 1⟩, ⟨12, 1, .w1c, 0, 0, 1⟩, ⟨11, 1, .w1c, 0, 0, 1⟩, ⟨10, 1, .w1c, 0, 0, 1⟩, ⟨9, 1, .w1c, 0, 0, 1⟩, ⟨8, 1, .w1c, 0, 0, 1⟩, ⟨7, 1, .w1c, 0, 0, 1⟩, ⟨6, 1, .w1c, 0, 0, 1⟩, ⟨5, 1, .w1c, 0, 0, 1⟩, ⟨4, 1, .w1c, 0, 0, 1⟩, ⟨3, 1, .w1c, 0, 0, 1⟩, ⟨2, 1, .w1c, 0, 0, 1⟩, ⟨1, 1, .w1c, 0, 0, 1⟩, ⟨0, 1, .w1c, 0, 0, 1⟩]⟩, -- VR_EVT
    ⟨0x0A000C, [], [⟨0, 8, .rwl, 20, 5, 200⟩]⟩, -- VR_CYC
    ⟨0x0A0010, [], [⟨0, 32, .ro, 0, 0, 4294967295⟩]⟩, -- VR_CYCNUM
    ⟨0x0A0014, [], [⟨8, 8, .rwl, 10, 1, 255⟩, ⟨0, 8, .rwl, 3, 2, 255⟩]⟩, -- VR_CS
    ⟨0x0A0018, [], [⟨16, 16, .ro, 0, 0, 65535⟩, ⟨0, 16, .ro, 0, 0, 65535⟩]⟩, -- VR_DRIFT
    ⟨0x0A0020, [], [⟨30, 2, .ro, 0, 0, 3⟩, ⟨29, 1, .ro, 0, 0, 1⟩, ⟨27, 2, .ro, 0, 0, 3⟩, ⟨26, 1, .ro, 0, 0, 1⟩, ⟨16, 10, .ro, 0, 0, 1023⟩, ⟨0, 16, .ro, 0, 0, 65535⟩]⟩, -- VR_PSTATW
    ⟨0x0A0024, [], [⟨30, 2, .ro, 0, 0, 3⟩, ⟨29, 1, .ro, 0, 0, 1⟩, ⟨27, 2, .ro, 0, 0, 3⟩, ⟨26, 1, .ro, 0, 0, 1⟩, ⟨16, 10, .ro, 0, 0, 1023⟩, ⟨0, 16, .ro, 0, 0, 65535⟩]⟩, -- VR_PSTATE
    ⟨0x0A0028, [], [⟨16, 16, .ro, 0, 0, 65535⟩, ⟨8, 8, .ro, 0, 0, 255⟩, ⟨0, 8, .ro, 0, 0, 255⟩]⟩, -- VR_PCNT0W
    ⟨0x0A002C, [], [⟨16, 16, .ro, 0, 0, 65535⟩, ⟨8, 8, .ro, 0, 0, 255⟩, ⟨0, 8, .ro, 0, 0, 255⟩]⟩, -- VR_PCNT0E
    ⟨0x0A0030, [], [⟨16, 16, .ro, 0, 0, 65535⟩, ⟨8, 8, .ro, 0, 0, 255⟩, ⟨0, 8, .ro, 0, 0, 255⟩]⟩, -- VR_PCNT1W
    ⟨0x0A0034, [], [⟨16, 16, .ro, 0, 0, 65535⟩, ⟨8, 8, .ro, 0, 0, 255⟩, ⟨0, 8, .ro, 0, 0, 255⟩]⟩, -- VR_PCNT1E
    ⟨0x0A0038, [], [⟨16, 16, .ro, 0, 0, 65535⟩, ⟨0, 16, .ro, 0, 0, 65535⟩]⟩, -- VR_NCNT
    ⟨0x0A003C, [], [⟨0, 16, .rwl, 34997, 1536, 65535⟩]⟩, -- VR_ETYPE
    ⟨0x0A0040, [], [⟨0, 32, .rwl, 0, 0, 4294967295⟩]⟩, -- VR_PHYID
    ⟨0x0A0044, [], [⟨16, 3, .rw, 0, 0, 7⟩, ⟨15, 1, .rw, 0, 0, 1⟩, ⟨0, 10, .rw, 0, 0, 1023⟩]⟩, -- VR_SHIDX
    ⟨0x0A0048, [], [⟨0, 32, .ro, 0, 0, 4294967295⟩]⟩, -- VR_SHDAT0
    ⟨0x0A004C, [], [⟨0, 32, .ro, 0, 0, 4294967295⟩]⟩, -- VR_SHDAT1
    ⟨0x0A0050, [], [⟨4, 1, .wo, 0, 0, 1⟩, ⟨1, 3, .wo, 0, 0, 7⟩, ⟨0, 1, .wo, 0, 0, 1⟩]⟩, -- VR_CMD
    ⟨0x0A0100, [(0x4, 32)], [⟨0, 32, .ro, 0, 0, 4294967295⟩]⟩ -- VR_MISS
  ]

/-- The registers of the TM block (R426). -/
def regsTM : List RegDesc :=
  [
    ⟨0x0B0000, [], [⟨5, 1, .ro, 0, 0, 1⟩, ⟨4, 1, .ro, 0, 0, 1⟩, ⟨0, 4, .ro, 0, 0, 15⟩]⟩, -- TM_STAT
    ⟨0x0B0004, [], [⟨6, 1, .w1c, 0, 0, 1⟩, ⟨5, 1, .w1c, 0, 0, 1⟩, ⟨4, 1, .w1c, 0, 0, 1⟩, ⟨3, 1, .w1c, 0, 0, 1⟩, ⟨2, 1, .w1c, 0, 0, 1⟩, ⟨1, 1, .w1c, 0, 0, 1⟩, ⟨0, 1, .w1c, 0, 0, 1⟩]⟩, -- TM_EVT
    ⟨0x0B0008, [], [⟨8, 6, .rwl, 4, 2, 63⟩, ⟨0, 1, .rwl, 0, 0, 1⟩]⟩, -- TM_CFG
    ⟨0x0B000C, [], [⟨0, 11, .rwl, 1000, 10, 2000⟩]⟩, -- TM_JUMP
    ⟨0x0B0010, [], [⟨0, 32, .rw, 167772160, 167688274, 167856046⟩]⟩, -- TM_INCR
    ⟨0x0B0014, [], [⟨0, 32, .ro, 167772160, 0, 4294967295⟩]⟩, -- TM_APPL
    ⟨0x0B0018, [], [⟨0, 32, .wo, 0, 0, 4294967295⟩]⟩, -- TM_STEP
    ⟨0x0B001C, [], [⟨0, 30, .ro, 0, 0, 1073741823⟩]⟩, -- TM_NS
    ⟨0x0B0020, [], [⟨0, 32, .ro, 0, 0, 4294967295⟩]⟩, -- TM_SECLO
    ⟨0x0B0024, [], [⟨0, 32, .ro, 0, 0, 4294967295⟩]⟩, -- TM_SECHI
    ⟨0x0B0028, [], [⟨0, 16, .ro, 0, 0, 65535⟩]⟩, -- TM_FRAC
    ⟨0x0B002C, [], [⟨0, 32, .ro, 0, 0, 4294967295⟩]⟩, -- TM_OFS
    ⟨0x0B0030, [], [⟨0, 32, .ro, 0, 0, 4294967295⟩]⟩, -- TM_GMLO
    ⟨0x0B0034, [], [⟨0, 32, .ro, 0, 0, 4294967295⟩]⟩, -- TM_GMHI
    ⟨0x0B0038, [], [⟨16, 16, .ro, 0, 0, 65535⟩, ⟨0, 16, .ro, 0, 0, 65535⟩]⟩, -- TM_CNT
    ⟨0x0B003C, [], [⟨0, 20, .rwl, 10000, 10, 1000000⟩]⟩ -- TM_FARLIM
  ]

/-- The registers of the CN block (R443). -/
def regsCN : List RegDesc :=
  [
    ⟨0x0C0000, [(0x2000, 2)], [⟨15, 1, .rwl, 0, 0, 1⟩, ⟨10, 2, .rwl, 0, 0, 2⟩, ⟨3, 1, .rwl, 0, 0, 1⟩, ⟨2, 1, .rwl, 1, 0, 1⟩, ⟨1, 1, .rwl, 0, 0, 1⟩, ⟨0, 1, .rwl, 0, 0, 1⟩]⟩, -- CN_CFG
    ⟨0x0C0004, [(0x2000, 2)], [⟨23, 9, .rwl, 55, 2, 256⟩, ⟨15, 8, .rwl, 8, 2, 128⟩, ⟨7, 8, .rwl, 8, 1, 128⟩, ⟨0, 6, .rwl, 5, 1, 32⟩]⟩, -- CN_NOMBT
    ⟨0x0C0008, [(0x2000, 2)], [⟨23, 9, .rwl, 7, 1, 32⟩, ⟨15, 8, .rwl, 2, 1, 16⟩, ⟨7, 8, .rwl, 2, 1, 16⟩, ⟨0, 6, .rwl, 1, 1, 32⟩]⟩, -- CN_DATBT
    ⟨0x0C000C, [(0x2000, 2)], [⟨0, 7, .rwl, 8, 0, 127⟩]⟩, -- CN_SSP
    ⟨0x0C0010, [(0x2000, 2)], [⟨5, 3, .ro, 0, 0, 7⟩, ⟨4, 1, .ro, 0, 0, 1⟩, ⟨3, 1, .ro, 0, 0, 1⟩, ⟨2, 1, .ro, 0, 0, 1⟩, ⟨0, 2, .ro, 0, 0, 3⟩]⟩, -- CN_STAT
    ⟨0x0C0014, [(0x2000, 2)], [⟨16, 16, .ro, 0, 0, 65535⟩, ⟨0, 16, .ro, 0, 0, 65535⟩]⟩, -- CN_ERR
    ⟨0x0C0018, [(0x2000, 2)], [⟨8, 1, .w1c, 0, 0, 1⟩, ⟨7, 1, .w1c, 0, 0, 1⟩, ⟨6, 1, .w1c, 0, 0, 1⟩, ⟨5, 1, .w1c, 0, 0, 1⟩, ⟨4, 1, .w1c, 0, 0, 1⟩, ⟨3, 1, .w1c, 0, 0, 1⟩, ⟨2, 1, .w1c, 0, 0, 1⟩, ⟨1, 1, .w1c, 0, 0, 1⟩, ⟨0, 1, .w1c, 0, 0, 1⟩]⟩, -- CN_EVT
    ⟨0x0C001C, [(0x2000, 2)], [⟨16, 16, .ro, 0, 0, 65535⟩, ⟨8, 8, .ro, 0, 0, 255⟩, ⟨0, 8, .ro, 0, 0, 255⟩]⟩, -- CN_CNT0
    ⟨0x0C0020, [(0x2000, 2)], [⟨24, 8, .ro, 0, 0, 255⟩, ⟨16, 8, .ro, 0, 0, 255⟩, ⟨8, 8, .ro, 0, 0, 255⟩, ⟨0, 8, .ro, 0, 0, 255⟩]⟩, -- CN_CNT1
    ⟨0x0C0024, [(0x2000, 2)], [⟨0, 1, .wo, 0, 0, 1⟩]⟩, -- CN_CMD
    ⟨0x0C0028, [(0x2000, 2)], [⟨24, 8, .ro, 0, 0, 255⟩, ⟨16, 8, .rwl, 3, 0, 255⟩, ⟨0, 16, .rwl, 100, 1, 65535⟩]⟩, -- CN_BOREC
    ⟨0x0C002C, [(0x2000, 2)], [⟨0, 16, .rwl, 100, 10, 10000⟩]⟩, -- CN_SCHCFG
    ⟨0x0C0100, [(0x2000, 2), (0x4, 64)], [⟨18, 14, .rwl, 0, 0, 16383⟩, ⟨12, 6, .rwl, 0, 0, 63⟩, ⟨9, 3, .rwl, 0, 0, 6⟩, ⟨3, 6, .rwl, 0, 0, 63⟩, ⟨1, 2, .rwl, 0, 0, 2⟩]⟩, -- CN_SCH
    ⟨0x0C0800, [(0x2000, 2), (0x50, 64)], [⟨0, 29, .rwl, 0, 0, 536870911⟩]⟩, -- CN_BID
    ⟨0x0C0804, [(0x2000, 2), (0x50, 64)], [⟨31, 1, .rwl, 1, 0, 1⟩, ⟨30, 1, .rwl, 0, 0, 1⟩, ⟨0, 29, .rwl, 536870911, 0, 536870911⟩]⟩, -- CN_BMSK
    ⟨0x0C0808, [(0x2000, 2), (0x50, 64)], [⟨30, 2, .rwl, 0, 0, 3⟩, ⟨27, 3, .ro, 0, 0, 7⟩, ⟨26, 1, .rw, 0, 0, 1⟩, ⟨25, 1, .rw, 0, 0, 1⟩, ⟨24, 1, .rw, 0, 0, 1⟩, ⟨23, 1, .rw, 0, 0, 1⟩, ⟨22, 1, .ro, 0, 0, 1⟩, ⟨18, 4, .rw, 0, 0, 15⟩, ⟨10, 4, .wo, 0, 0, 15⟩, ⟨6, 4, .ro, 0, 0, 15⟩, ⟨1, 1, .w1c, 0, 0, 1⟩, ⟨0, 1, .w1c, 0, 0, 1⟩]⟩, -- CN_BCTL
    ⟨0x0C080C, [(0x2000, 2), (0x50, 64)], [⟨0, 30, .ro, 0, 0, 1073741823⟩]⟩, -- CN_BSTM
    ⟨0x0C0810, [(0x2000, 2), (0x50, 64), (0x4, 16)], [⟨0, 32, .rw, 0, 0, 4294967295⟩]⟩ -- CN_BDAT
  ]

/-- The registers of the SG block (R461). -/
def regsSG : List RegDesc :=
  [
    ⟨0x0D0000, [], [⟨16, 1, .ro, 0, 0, 1⟩, ⟨0, 15, .ro, 0, 0, 32767⟩]⟩, -- SG_STAT
    ⟨0x0D0004, [], [⟨6, 1, .w1c, 0, 0, 1⟩, ⟨5, 1, .w1c, 0, 0, 1⟩, ⟨4, 1, .w1c, 0, 0, 1⟩, ⟨3, 1, .w1c, 0, 0, 1⟩, ⟨2, 1, .w1c, 0, 0, 1⟩, ⟨1, 1, .w1c, 0, 0, 1⟩, ⟨0, 1, .w1c, 0, 0, 1⟩]⟩, -- SG_EVT
    ⟨0x0D0008, [], [⟨16, 16, .ro, 0, 0, 65535⟩, ⟨0, 16, .ro, 0, 0, 65535⟩]⟩, -- SG_QSTAT
    ⟨0x0D000C, [], [⟨16, 16, .ro, 0, 0, 65535⟩, ⟨0, 16, .ro, 0, 0, 65535⟩]⟩, -- SG_CNT0
    ⟨0x0D0010, [], [⟨24, 8, .ro, 0, 0, 255⟩, ⟨16, 8, .ro, 0, 0, 255⟩, ⟨8, 8, .ro, 0, 0, 255⟩, ⟨0, 8, .ro, 0, 0, 255⟩]⟩, -- SG_CNT1
    ⟨0x0D0014, [], [⟨16, 16, .ro, 0, 0, 65535⟩, ⟨0, 16, .ro, 0, 0, 65535⟩]⟩, -- SG_CNT2
    ⟨0x0D0018, [], [⟨28, 4, .ro, 0, 0, 15⟩, ⟨0, 20, .ro, 0, 0, 1048575⟩]⟩, -- SG_LASTS
    ⟨0x0D1000, [(0x100, 8)], [⟨0, 20, .rw, 0, 0, 1048575⟩]⟩, -- SG_HSEL
    ⟨0x0D1004, [(0x100, 8)], [⟨31, 1, .ro, 0, 0, 1⟩, ⟨30, 1, .ro, 0, 0, 1⟩, ⟨29, 1, .ro, 0, 0, 1⟩]⟩, -- SG_WST
    ⟨0x0D1010, [(0x100, 8), (0x4, 16)], [⟨0, 32, .ro, 0, 0, 4294967295⟩]⟩, -- SG_LAT
    ⟨0x0D1050, [(0x100, 8), (0x4, 8)], [⟨0, 32, .rw, 0, 0, 4294967295⟩]⟩, -- SG_WDAT
    ⟨0x0D1070, [(0x100, 8)], [⟨0, 1, .wo, 0, 0, 1⟩]⟩ -- SG_WCMD
  ]

/-- The registers of the CB block (R513). -/
def regsCB : List RegDesc :=
  [
    ⟨0x0E0000, [], [⟨16, 1, .ro, 0, 0, 1⟩, ⟨0, 9, .ro, 0, 0, 511⟩]⟩, -- CB_STAT
    ⟨0x0E0004, [], [⟨2, 1, .w1c, 0, 0, 1⟩, ⟨1, 1, .w1c, 0, 0, 1⟩, ⟨0, 1, .w1c, 0, 0, 1⟩]⟩, -- CB_EVT
    ⟨0x0E0008, [], [⟨16, 16, .ro, 0, 0, 65535⟩, ⟨0, 16, .ro, 0, 0, 65535⟩]⟩, -- CB_CNT
    ⟨0x0E0100, [(0x4, 16)], [⟨0, 32, .rw, 0, 0, 4294967295⟩]⟩, -- CB_PEND
    ⟨0x0E0140, [(0x4, 16)], [⟨0, 32, .ro, 0, 0, 4294967295⟩]⟩, -- CB_ACT
    ⟨0x0E0200, [(0x80, 8), (0x4, 16)], [⟨0, 32, .rw, 0, 0, 4294967295⟩]⟩, -- CB_EN
    ⟨0x0E0240, [(0x80, 8)], [⟨0, 4, .rw, 15, 0, 15⟩]⟩, -- CB_THR
    ⟨0x0E0244, [(0x80, 8)], [⟨31, 1, .ro, 0, 0, 1⟩, ⟨30, 1, .ro, 0, 0, 1⟩, ⟨28, 2, .ro, 0, 0, 3⟩, ⟨0, 9, .ro, 0, 0, 511⟩]⟩, -- CB_CLAIM
    ⟨0x0E0248, [(0x80, 8)], [⟨0, 9, .wo, 0, 0, 511⟩]⟩, -- CB_COMPL
    ⟨0x0E024C, [(0x80, 8)], [⟨31, 1, .ro, 0, 0, 1⟩, ⟨16, 4, .ro, 0, 0, 15⟩, ⟨12, 4, .ro, 0, 0, 15⟩, ⟨0, 9, .ro, 0, 0, 511⟩]⟩, -- CB_PRES
    ⟨0x0E1000, [(0x4, 512)], [⟨29, 3, .rwl, 0, 0, 7⟩, ⟨27, 2, .rwl, 1, 0, 3⟩, ⟨25, 2, .rwl, 3, 0, 3⟩, ⟨20, 4, .rw, 0, 0, 15⟩, ⟨0, 20, .rwl, 0, 0, 1048575⟩]⟩ -- CB_SRC
  ]

/-- The registers of the SF block (R528). -/
def regsSF : List RegDesc :=
  [
    ⟨0x0F0000, [], [⟨22, 1, .ro, 0, 0, 1⟩, ⟨20, 2, .ro, 0, 0, 3⟩, ⟨10, 10, .ro, 0, 0, 1023⟩, ⟨0, 10, .ro, 1023, 0, 1023⟩]⟩, -- SF_STAT
    ⟨0x0F0004, [], [⟨19, 4, .ro, 0, 0, 15⟩, ⟨18, 1, .ro, 0, 0, 1⟩, ⟨16, 2, .ro, 0, 0, 3⟩, ⟨8, 8, .ro, 0, 0, 255⟩, ⟨0, 8, .ro, 0, 0, 255⟩]⟩, -- SF_RAW
    ⟨0x0F0008, [], [⟨10, 8, .ro, 0, 0, 255⟩, ⟨0, 10, .ro, 1023, 0, 1023⟩]⟩, -- SF_OWN
    ⟨0x0F000C, [], [⟨11, 1, .w1c, 0, 0, 1⟩, ⟨10, 1, .w1c, 0, 0, 1⟩, ⟨9, 1, .w1c, 0, 0, 1⟩, ⟨8, 1, .w1c, 0, 0, 1⟩, ⟨7, 1, .w1c, 0, 0, 1⟩, ⟨6, 1, .w1c, 0, 0, 1⟩, ⟨5, 1, .w1c, 0, 0, 1⟩, ⟨4, 1, .w1c, 0, 0, 1⟩, ⟨3, 1, .w1c, 0, 0, 1⟩, ⟨2, 1, .w1c, 0, 0, 1⟩, ⟨1, 1, .w1c, 0, 0, 1⟩, ⟨0, 1, .w1c, 0, 0, 1⟩]⟩, -- SF_EVT
    ⟨0x0F0010, [], [⟨8, 8, .rwl, 50, 10, 200⟩, ⟨0, 8, .rwl, 20, 2, 200⟩]⟩, -- SF_CFG
    ⟨0x0F0040, [(0x4, 8)], [⟨16, 16, .rwl, 50, 10, 500⟩, ⟨8, 8, .rwl, 30, 1, 200⟩, ⟨2, 1, .rwl, 1, 0, 1⟩, ⟨0, 2, .rwl, 0, 0, 2⟩]⟩, -- SF_SICFG
    ⟨0x0F0060, [(0x4, 2)], [⟨8, 8, .rwl, 30, 1, 200⟩, ⟨2, 1, .rwl, 1, 0, 1⟩, ⟨0, 2, .rwl, 0, 0, 2⟩]⟩, -- SF_GTCFG
    ⟨0x0F0080, [(0x4, 4)], [⟨12, 10, .rwl, 0, 0, 1023⟩, ⟨4, 1, .rwl, 1, 0, 1⟩, ⟨3, 1, .rwl, 1, 0, 1⟩, ⟨0, 2, .rwl, 0, 0, 3⟩]⟩, -- SF_KOCFG
    ⟨0x0F0090, [], [⟨0, 4, .rw, 0, 0, 15⟩]⟩, -- SF_KOCMD
    ⟨0x0F0094, [], [⟨28, 4, .ro, 0, 0, 15⟩, ⟨24, 4, .ro, 0, 0, 15⟩, ⟨20, 4, .ro, 0, 0, 15⟩, ⟨16, 4, .ro, 0, 0, 15⟩, ⟨8, 4, .ro, 0, 0, 15⟩, ⟨4, 4, .ro, 0, 0, 15⟩, ⟨0, 4, .ro, 0, 0, 15⟩]⟩, -- SF_KOSTAT
    ⟨0x0F0098, [], [⟨24, 8, .ro, 0, 0, 255⟩, ⟨16, 8, .ro, 0, 0, 255⟩, ⟨0, 16, .ro, 0, 0, 65535⟩]⟩, -- SF_RST
    ⟨0x0F009C, [], [⟨0, 16, .ro, 0, 0, 65535⟩]⟩ -- SF_RSTHI
  ]

/-- The registers of the KP block (R548). -/
def regsKP : List RegDesc :=
  [
    ⟨0x100000, [], [⟨4, 4, .ro, 0, 0, 15⟩, ⟨3, 1, .ro, 0, 0, 1⟩, ⟨2, 1, .ro, 0, 0, 1⟩, ⟨1, 1, .ro, 0, 0, 1⟩, ⟨0, 1, .ro, 0, 0, 1⟩]⟩, -- KP_STAT
    ⟨0x100004, [], [⟨2, 1, .w1c, 0, 0, 1⟩, ⟨1, 1, .w1c, 0, 0, 1⟩, ⟨0, 1, .w1c, 0, 0, 1⟩]⟩, -- KP_EVT
    ⟨0x100008, [], [⟨16, 16, .ro, 0, 0, 65535⟩, ⟨0, 2, .ro, 0, 0, 3⟩]⟩, -- KP_TAMP
    ⟨0x10000C, [], [⟨4, 4, .ro, 0, 0, 15⟩, ⟨0, 4, .ro, 0, 0, 15⟩]⟩ -- KP_REVOKE
  ]

/-- The registers of the CT block (R549). -/
def regsCT : List RegDesc :=
  [
    ⟨0x110000, [(0x100, 4)], [⟨3, 1, .ro, 0, 0, 1⟩, ⟨2, 1, .ro, 0, 0, 1⟩, ⟨0, 2, .ro, 0, 0, 3⟩]⟩, -- CT_STAT
    ⟨0x110004, [(0x100, 4)], [⟨5, 1, .w1c, 0, 0, 1⟩, ⟨4, 1, .w1c, 0, 0, 1⟩, ⟨3, 1, .w1c, 0, 0, 1⟩, ⟨2, 1, .w1c, 0, 0, 1⟩, ⟨1, 1, .w1c, 0, 0, 1⟩, ⟨0, 1, .w1c, 0, 0, 1⟩]⟩, -- CT_EVT
    ⟨0x110008, [(0x100, 4)], [⟨16, 16, .rwl, 11000, 10000, 20000⟩, ⟨0, 16, .rwl, 16384, 1, 32767⟩]⟩, -- CT_CFG
    ⟨0x11000C, [(0x100, 4)], [⟨0, 32, .ro, 0, 0, 4294967295⟩]⟩, -- CT_LIFE_LO
    ⟨0x110010, [(0x100, 4)], [⟨0, 32, .ro, 0, 0, 4294967295⟩]⟩, -- CT_LIFE_HI
    ⟨0x110014, [(0x100, 4)], [⟨0, 32, .ro, 0, 0, 4294967295⟩]⟩, -- CT_RATED_LO
    ⟨0x110018, [(0x100, 4)], [⟨0, 32, .ro, 0, 0, 4294967295⟩]⟩, -- CT_RATED_HI
    ⟨0x110020, [(0x100, 4), (0x4, 12)], [⟨0, 32, .ro, 0, 0, 4294967295⟩]⟩ -- CT_ID
  ]

/-- The registers of the HS block (R496). -/
def regsHS : List RegDesc :=
  [
    ⟨0x120000, [], [⟨31, 1, .ro, 0, 0, 1⟩, ⟨28, 3, .ro, 0, 0, 7⟩, ⟨25, 3, .ro, 0, 0, 7⟩, ⟨24, 1, .ro, 0, 0, 1⟩, ⟨21, 3, .ro, 0, 0, 7⟩, ⟨20, 1, .ro, 0, 0, 1⟩, ⟨19, 1, .ro, 0, 0, 1⟩, ⟨17, 2, .ro, 0, 0, 3⟩]⟩, -- HS_SPOT
    ⟨0x120004, [], [⟨0, 32, .ro, 0, 0, 4294967295⟩]⟩, -- HS_SPOTEND_LO
    ⟨0x120008, [], [⟨0, 32, .ro, 0, 0, 4294967295⟩]⟩, -- HS_SPOTEND_HI
    ⟨0x12000C, [], [⟨16, 1, .rwl, 0, 0, 1⟩, ⟨0, 16, .rwl, 100, 10, 500⟩]⟩, -- HS_SPOTCFG
    ⟨0x120010, [], [⟨10, 1, .w1c, 0, 0, 1⟩, ⟨9, 1, .w1c, 0, 0, 1⟩, ⟨8, 1, .w1c, 0, 0, 1⟩, ⟨7, 1, .w1c, 0, 0, 1⟩, ⟨6, 1, .w1c, 0, 0, 1⟩, ⟨5, 1, .w1c, 0, 0, 1⟩, ⟨4, 1, .w1c, 0, 0, 1⟩, ⟨3, 1, .w1c, 0, 0, 1⟩, ⟨2, 1, .w1c, 0, 0, 1⟩, ⟨1, 1, .w1c, 0, 0, 1⟩, ⟨0, 1, .w1c, 0, 0, 1⟩]⟩, -- HS_EVT
    ⟨0x120014, [], [⟨31, 1, .rwl, 0, 0, 1⟩, ⟨16, 4, .ro, 0, 0, 15⟩, ⟨8, 1, .ro, 0, 0, 1⟩, ⟨0, 3, .rwl, 0, 0, 7⟩]⟩, -- HS_PORT
    ⟨0x120018, [], [⟨16, 16, .ro, 0, 0, 65535⟩, ⟨0, 16, .ro, 0, 0, 65535⟩]⟩, -- HS_CNT0
    ⟨0x12001C, [], [⟨24, 8, .ro, 0, 0, 255⟩, ⟨16, 8, .ro, 0, 0, 255⟩, ⟨8, 8, .ro, 0, 0, 255⟩, ⟨0, 8, .ro, 0, 0, 255⟩]⟩, -- HS_CNT1
    ⟨0x120020, [], [⟨16, 16, .ro, 0, 0, 65535⟩, ⟨0, 16, .ro, 0, 0, 65535⟩]⟩, -- HS_CNT2
    ⟨0x120024, [], [⟨16, 16, .ro, 0, 0, 65535⟩, ⟨0, 16, .ro, 0, 0, 65535⟩]⟩, -- HS_CNT3
    ⟨0x120100, [(0x20, 8)], [⟨31, 1, .rwl, 0, 0, 1⟩, ⟨24, 3, .rwl, 0, 0, 7⟩, ⟨20, 2, .rwl, 0, 0, 3⟩, ⟨0, 10, .rwl, 0, 0, 1023⟩]⟩, -- HS_SCFG
    ⟨0x120104, [(0x20, 8)], [⟨31, 1, .rwl, 0, 0, 1⟩, ⟨30, 1, .rwl, 0, 0, 1⟩, ⟨24, 6, .rwl, 0, 0, 63⟩, ⟨16, 6, .rwl, 0, 0, 63⟩]⟩, -- HS_SCAN
    ⟨0x120108, [(0x20, 8)], [⟨0, 32, .rwl, 0, 0, 4294967295⟩]⟩, -- HS_SKEYLO
    ⟨0x12010C, [(0x20, 8)], [⟨0, 32, .rwl, 0, 0, 4294967295⟩]⟩, -- HS_SKEYHI
    ⟨0x120110, [(0x20, 8)], [⟨0, 32, .ro, 0, 0, 4294967295⟩]⟩, -- HS_SSES
    ⟨0x120114, [(0x20, 8)], [⟨31, 1, .ro, 0, 0, 1⟩, ⟨30, 1, .ro, 0, 0, 1⟩, ⟨0, 16, .ro, 0, 0, 65535⟩]⟩, -- HS_SSEQ
    ⟨0x120118, [(0x20, 8)], [⟨24, 8, .ro, 0, 0, 255⟩, ⟨16, 8, .ro, 0, 0, 255⟩, ⟨0, 16, .ro, 0, 0, 65535⟩]⟩ -- HS_SLAST
  ]

/-- The registers of the block that holds an address (R36); no row beyond 0x12_FFFF (R37). -/
def blockRegs (a : Nat) : List RegDesc :=
  match a / 0x10000 with
  | 0 => regsLC
  | 1 => regsPW
  | 2 => regsBX
  | 3 => regsTV
  | 4 => regsWG
  | 5 => regsBI
  | 6 => regsDC
  | 7 => regsGD
  | 8 => regsFB
  | 9 => regsLE
  | 10 => regsVR
  | 11 => regsTM
  | 12 => regsCN
  | 13 => regsSG
  | 14 => regsCB
  | 15 => regsSF
  | 16 => regsKP
  | 17 => regsCT
  | 18 => regsHS
  | _ => []

/-- The register an address names, if any; an address of no row is unassigned (R13, R37). -/
def regAt (a : Nat) : Option RegDesc := (blockRegs a).find? (fun d => d.hit a)

end Sys2Proof.Machine

/-! The registers' addresses and fields by the names of the spec, as `R.<register>` and `R.<register>_<field>`.
An index argument is `n` for an axis or gauge, `s` for a seat, `c` for a CAN controller, `b` for a buffer and
`k`, `m`, `w` for the entry or word the register's row names. -/

namespace Sys2Proof.Machine.R

abbrev LC_ID : Nat := 0x000000
abbrev LC_ID_PART : Fld := ⟨LC_ID, 16, 16⟩
abbrev LC_ID_LANE : Fld := ⟨LC_ID, 0, 2⟩
abbrev LC_REV : Nat := 0x000004
abbrev LC_REV_LDREV : Fld := ⟨LC_REV, 24, 8⟩
abbrev LC_REV_PDREV : Fld := ⟨LC_REV, 16, 8⟩
abbrev LC_REV_FWV : Fld := ⟨LC_REV, 0, 16⟩
abbrev LC_STATE : Nat := 0x000008
abbrev LC_STATE_CABS : Fld := ⟨LC_STATE, 10, 1⟩
abbrev LC_STATE_LIVECNT : Fld := ⟨LC_STATE, 8, 2⟩
abbrev LC_STATE_LEAD : Fld := ⟨LC_STATE, 6, 1⟩
abbrev LC_STATE_LSTATE : Fld := ⟨LC_STATE, 4, 2⟩
abbrev LC_STATE_MSTATE : Fld := ⟨LC_STATE, 0, 4⟩
abbrev LC_ENGSTAT : Nat := 0x00000C
abbrev LC_ENGSTAT_UNUS : Fld := ⟨LC_ENGSTAT, 8, 8⟩
abbrev LC_ENGSTAT_RUN : Fld := ⟨LC_ENGSTAT, 0, 8⟩
abbrev LC_MEMCFG : Nat := 0x000010
abbrev LC_MEMCFG_ECCON : Fld := ⟨LC_MEMCFG, 3, 1⟩
abbrev LC_MEMCFG_SIZE : Fld := ⟨LC_MEMCFG, 0, 3⟩
abbrev LC_SERIAL_LO : Nat := 0x000014
abbrev LC_SERIAL_LO_SERIAL : Fld := ⟨LC_SERIAL_LO, 0, 32⟩
abbrev LC_SERIAL_HI : Nat := 0x000018
abbrev LC_SERIAL_HI_SERIAL : Fld := ⟨LC_SERIAL_HI, 0, 32⟩
abbrev PW_VCSET : Nat := 0x010000
abbrev PW_VCSET_MEAS : Fld := ⟨PW_VCSET, 16, 10⟩
abbrev PW_VCSET_TARGET : Fld := ⟨PW_VCSET, 0, 10⟩
abbrev PW_VCLIM : Nat := 0x010004
abbrev PW_VCLIM_MAX : Fld := ⟨PW_VCLIM, 16, 10⟩
abbrev PW_VCLIM_IDLEMIN : Fld := ⟨PW_VCLIM, 0, 10⟩
abbrev PW_SUPSTAT : Nat := 0x010008
abbrev PW_SUPSTAT_TWARN : Fld := ⟨PW_SUPSTAT, 11, 1⟩
abbrev PW_SUPSTAT_DEFICIT : Fld := ⟨PW_SUPSTAT, 10, 1⟩
abbrev PW_SUPSTAT_PLLLOCK : Fld := ⟨PW_SUPSTAT, 9, 1⟩
abbrev PW_SUPSTAT_XINOK : Fld := ⟨PW_SUPSTAT, 8, 1⟩
abbrev PW_SUPSTAT_VPDOK : Fld := ⟨PW_SUPSTAT, 7, 1⟩
abbrev PW_SUPSTAT_VDQOK : Fld := ⟨PW_SUPSTAT, 6, 1⟩
abbrev PW_SUPSTAT_VD2OK : Fld := ⟨PW_SUPSTAT, 5, 1⟩
abbrev PW_SUPSTAT_VD1OK : Fld := ⟨PW_SUPSTAT, 4, 1⟩
abbrev PW_SUPSTAT_VCOK : Fld := ⟨PW_SUPSTAT, 3, 1⟩
abbrev PW_SUPSTAT_VGOK : Fld := ⟨PW_SUPSTAT, 2, 1⟩
abbrev PW_SUPSTAT_VINRES : Fld := ⟨PW_SUPSTAT, 1, 1⟩
abbrev PW_SUPSTAT_VINOK : Fld := ⟨PW_SUPSTAT, 0, 1⟩
abbrev PW_SUPEVT : Nat := 0x01000C
abbrev PW_SUPEVT_XLATE : Fld := ⟨PW_SUPEVT, 10, 1⟩
abbrev PW_SUPEVT_TTRIP : Fld := ⟨PW_SUPEVT, 9, 1⟩
abbrev PW_SUPEVT_TWARN : Fld := ⟨PW_SUPEVT, 8, 1⟩
abbrev PW_SUPEVT_DEFICIT : Fld := ⟨PW_SUPEVT, 7, 1⟩
abbrev PW_SUPEVT_MEMSUP : Fld := ⟨PW_SUPEVT, 6, 1⟩
abbrev PW_SUPEVT_PLLUNL : Fld := ⟨PW_SUPEVT, 5, 1⟩
abbrev PW_SUPEVT_XINLOSS : Fld := ⟨PW_SUPEVT, 4, 1⟩
abbrev PW_SUPEVT_VINRES : Fld := ⟨PW_SUPEVT, 3, 1⟩
abbrev PW_SUPEVT_VGUV : Fld := ⟨PW_SUPEVT, 2, 1⟩
abbrev PW_SUPEVT_VCOV : Fld := ⟨PW_SUPEVT, 1, 1⟩
abbrev PW_SUPEVT_VCUV : Fld := ⟨PW_SUPEVT, 0, 1⟩
abbrev PW_VIN : Nat := 0x010010
abbrev PW_VIN_VG : Fld := ⟨PW_VIN, 16, 16⟩
abbrev PW_VIN_VIN : Fld := ⟨PW_VIN, 0, 16⟩
abbrev PW_RESERVE : Nat := 0x010014
abbrev PW_RESERVE_THR : Fld := ⟨PW_RESERVE, 0, 12⟩
abbrev PW_TEMP : Nat := 0x010018
abbrev PW_TEMP_PD : Fld := ⟨PW_TEMP, 16, 16⟩
abbrev PW_TEMP_LD : Fld := ⟨PW_TEMP, 0, 16⟩
abbrev PW_TLIM : Nat := 0x01001C
abbrev PW_TLIM_TRIP : Fld := ⟨PW_TLIM, 16, 16⟩
abbrev PW_TLIM_WARN : Fld := ⟨PW_TLIM, 0, 16⟩
abbrev PW_PACE : Nat := 0x010020
abbrev PW_PACE_DEFCNT : Fld := ⟨PW_PACE, 24, 8⟩
abbrev PW_PACE_DIE : Fld := ⟨PW_PACE, 20, 1⟩
abbrev PW_PACE_WORST : Fld := ⟨PW_PACE, 16, 4⟩
abbrev PW_PACE_WORSTRD : Fld := ⟨PW_PACE, 0, 16⟩
abbrev PW_GFLOOR : Nat := 0x010024
abbrev PW_GFLOOR_PLIM : Fld := ⟨PW_GFLOOR, 16, 16⟩
abbrev PW_GFLOOR_LLIM : Fld := ⟨PW_GFLOOR, 0, 16⟩
abbrev PW_XCNT : Nat := 0x010028
abbrev PW_XCNT_MAX : Fld := ⟨PW_XCNT, 16, 16⟩
abbrev PW_XCNT_COUNT : Fld := ⟨PW_XCNT, 0, 16⟩
abbrev PW_LGAUGE (n : Nat) : Nat := 0x010100 + 0x4 * n
abbrev PW_LGAUGE_VALID (n : Nat) : Fld := ⟨PW_LGAUGE n, 31, 1⟩
abbrev PW_LGAUGE_READ (n : Nat) : Fld := ⟨PW_LGAUGE n, 0, 16⟩
abbrev PW_PGAUGE (n : Nat) : Nat := 0x010140 + 0x4 * n
abbrev PW_PGAUGE_VALID (n : Nat) : Fld := ⟨PW_PGAUGE n, 31, 1⟩
abbrev PW_PGAUGE_READ (n : Nat) : Fld := ⟨PW_PGAUGE n, 0, 16⟩
abbrev DC_CTRL (n : Nat) : Nat := 0x060000 + 0x1000 * n
abbrev DC_CTRL_DIRINV (n : Nat) : Fld := ⟨DC_CTRL n, 7, 1⟩
abbrev DC_CTRL_RCALLOW (n : Nat) : Fld := ⟨DC_CTRL n, 6, 1⟩
abbrev DC_CTRL_BEMFSUB (n : Nat) : Fld := ⟨DC_CTRL n, 5, 1⟩
abbrev DC_CTRL_EXT (n : Nat) : Fld := ⟨DC_CTRL n, 4, 1⟩
abbrev DC_CTRL_EN (n : Nat) : Fld := ⟨DC_CTRL n, 0, 1⟩
abbrev DC_STAT (n : Nat) : Nat := 0x060004 + 0x1000 * n
abbrev DC_STAT_SWAVAIL (n : Nat) : Fld := ⟨DC_STAT n, 24, 6⟩
abbrev DC_STAT_TBLDEG (n : Nat) : Fld := ⟨DC_STAT n, 19, 1⟩
abbrev DC_STAT_SUBST (n : Nat) : Fld := ⟨DC_STAT n, 18, 1⟩
abbrev DC_STAT_REVHOLD (n : Nat) : Fld := ⟨DC_STAT n, 17, 1⟩
abbrev DC_STAT_RATEHOLD (n : Nat) : Fld := ⟨DC_STAT n, 16, 1⟩
abbrev DC_STAT_DWELL (n : Nat) : Fld := ⟨DC_STAT n, 15, 1⟩
abbrev DC_STAT_CPSI (n : Nat) : Fld := ⟨DC_STAT n, 14, 1⟩
abbrev DC_STAT_CT (n : Nat) : Fld := ⟨DC_STAT n, 12, 2⟩
abbrev DC_STAT_SECTOR (n : Nat) : Fld := ⟨DC_STAT n, 8, 4⟩
abbrev DC_STAT_AXST (n : Nat) : Fld := ⟨DC_STAT n, 0, 4⟩
abbrev DC_EVT (n : Nat) : Nat := 0x060008 + 0x1000 * n
abbrev DC_EVT_TRIMLIM (n : Nat) : Fld := ⟨DC_EVT n, 11, 1⟩
abbrev DC_EVT_PEAKN (n : Nat) : Fld := ⟨DC_EVT n, 10, 1⟩
abbrev DC_EVT_PEAKP (n : Nat) : Fld := ⟨DC_EVT n, 9, 1⟩
abbrev DC_EVT_SUBSTEND (n : Nat) : Fld := ⟨DC_EVT n, 8, 1⟩
abbrev DC_EVT_ENCDEV (n : Nat) : Fld := ⟨DC_EVT n, 7, 1⟩
abbrev DC_EVT_QOVF (n : Nat) : Fld := ⟨DC_EVT n, 6, 1⟩
abbrev DC_EVT_TBLPAR (n : Nat) : Fld := ⟨DC_EVT n, 5, 1⟩
abbrev DC_EVT_COPYDIS (n : Nat) : Fld := ⟨DC_EVT n, 4, 1⟩
abbrev DC_EVT_OUTSVC (n : Nat) : Fld := ⟨DC_EVT n, 3, 1⟩
abbrev DC_EVT_RCFAIL (n : Nat) : Fld := ⟨DC_EVT n, 2, 1⟩
abbrev DC_EVT_RCOK (n : Nat) : Fld := ⟨DC_EVT n, 1, 1⟩
abbrev DC_EVT_ROTLOST (n : Nat) : Fld := ⟨DC_EVT n, 0, 1⟩
abbrev DC_CNT (n : Nat) : Nat := 0x06000C + 0x1000 * n
abbrev DC_CNT_RHCNT (n : Nat) : Fld := ⟨DC_CNT n, 16, 16⟩
abbrev DC_CNT_QOVFCNT (n : Nat) : Fld := ⟨DC_CNT n, 8, 8⟩
abbrev DC_CNT_CDCNT (n : Nat) : Fld := ⟨DC_CNT n, 0, 8⟩
abbrev DC_TREF (n : Nat) : Nat := 0x060010 + 0x1000 * n
abbrev DC_TREF_SHARE (n : Nat) : Fld := ⟨DC_TREF n, 16, 16⟩
abbrev DC_TREF_TOTAL (n : Nat) : Fld := ⟨DC_TREF n, 0, 16⟩
abbrev DC_TEST (n : Nat) : Nat := 0x060014 + 0x1000 * n
abbrev DC_TEST_EST (n : Nat) : Fld := ⟨DC_TEST n, 0, 16⟩
abbrev DC_TQLIM (n : Nat) : Nat := 0x060018 + 0x1000 * n
abbrev DC_TQLIM_RATED (n : Nat) : Fld := ⟨DC_TQLIM n, 16, 16⟩
abbrev DC_TQLIM_LIM (n : Nat) : Fld := ⟨DC_TQLIM n, 0, 16⟩
abbrev DC_PSI (n : Nat) : Nat := 0x06001C + 0x1000 * n
abbrev DC_PSI_REF (n : Nat) : Fld := ⟨DC_PSI n, 16, 16⟩
abbrev DC_PSI_EST (n : Nat) : Fld := ⟨DC_PSI n, 0, 16⟩
abbrev DC_ANGLE (n : Nat) : Nat := 0x060020 + 0x1000 * n
abbrev DC_ANGLE_FLUX (n : Nat) : Fld := ⟨DC_ANGLE n, 16, 16⟩
abbrev DC_ANGLE_ROTOR (n : Nat) : Fld := ⟨DC_ANGLE n, 0, 16⟩
abbrev DC_TRIM (n : Nat) : Nat := 0x060024 + 0x1000 * n
abbrev DC_TRIM_LIMIT (n : Nat) : Fld := ⟨DC_TRIM n, 16, 16⟩
abbrev DC_TRIM_TRIM (n : Nat) : Fld := ⟨DC_TRIM n, 0, 16⟩
abbrev DC_BANDS (n : Nat) : Nat := 0x060028 + 0x1000 * n
abbrev DC_BANDS_DPSI (n : Nat) : Fld := ⟨DC_BANDS n, 16, 16⟩
abbrev DC_BANDS_DTQ (n : Nat) : Fld := ⟨DC_BANDS n, 0, 16⟩
abbrev DC_FLUX (n : Nat) : Nat := 0x06002C + 0x1000 * n
abbrev DC_FLUX_FWK (n : Nat) : Fld := ⟨DC_FLUX n, 16, 16⟩
abbrev DC_FLUX_PSI0 (n : Nat) : Fld := ⟨DC_FLUX n, 0, 16⟩
abbrev DC_MOT0 (n : Nat) : Nat := 0x060030 + 0x1000 * n
abbrev DC_MOT0_RS (n : Nat) : Fld := ⟨DC_MOT0 n, 16, 16⟩
abbrev DC_MOT0_POLEP (n : Nat) : Fld := ⟨DC_MOT0 n, 0, 8⟩
abbrev DC_MOT1 (n : Nat) : Nat := 0x060034 + 0x1000 * n
abbrev DC_MOT1_LQ (n : Nat) : Fld := ⟨DC_MOT1 n, 16, 16⟩
abbrev DC_MOT1_LD (n : Nat) : Fld := ⟨DC_MOT1 n, 0, 16⟩
abbrev DC_MOT2 (n : Nat) : Nat := 0x060038 + 0x1000 * n
abbrev DC_MOT2_RDS (n : Nat) : Fld := ⟨DC_MOT2 n, 16, 16⟩
abbrev DC_MOT2_PSIM (n : Nat) : Fld := ⟨DC_MOT2 n, 0, 16⟩
abbrev DC_SCALE (n : Nat) : Nat := 0x06003C + 0x1000 * n
abbrev DC_SCALE_TFS (n : Nat) : Fld := ⟨DC_SCALE n, 16, 16⟩
abbrev DC_SCALE_ISENS (n : Nat) : Fld := ⟨DC_SCALE n, 0, 16⟩
abbrev DC_THOFS (n : Nat) : Nat := 0x060040 + 0x1000 * n
abbrev DC_THOFS_OFS (n : Nat) : Fld := ⟨DC_THOFS n, 0, 16⟩
abbrev DC_PEAK (n : Nat) : Nat := 0x060044 + 0x1000 * n
abbrev DC_PEAK_PKP (n : Nat) : Fld := ⟨DC_PEAK n, 16, 10⟩
abbrev DC_PEAK_PKN (n : Nat) : Fld := ⟨DC_PEAK n, 0, 10⟩
abbrev DC_LADCFG (n : Nat) : Nat := 0x060048 + 0x1000 * n
abbrev DC_LADCFG_HYS (n : Nat) : Fld := ⟨DC_LADCFG n, 8, 4⟩
abbrev DC_LADCFG_EN (n : Nat) : Fld := ⟨DC_LADCFG n, 0, 8⟩
abbrev DC_ISOFS (n : Nat) : Nat := 0x06004C + 0x1000 * n
abbrev DC_ISOFS_W (n : Nat) : Fld := ⟨DC_ISOFS n, 16, 8⟩
abbrev DC_ISOFS_V (n : Nat) : Fld := ⟨DC_ISOFS n, 8, 8⟩
abbrev DC_ISOFS_U (n : Nat) : Fld := ⟨DC_ISOFS n, 0, 8⟩
abbrev DC_LAD (n : Nat) (k : Nat) : Nat := 0x060050 + 0x1000 * n + 0x4 * k
abbrev DC_LAD_HI (n : Nat) (k : Nat) : Fld := ⟨DC_LAD n k, 16, 10⟩
abbrev DC_LAD_LO (n : Nat) (k : Nat) : Fld := ⟨DC_LAD n k, 0, 10⟩
abbrev DC_RESID (n : Nat) : Nat := 0x060060 + 0x1000 * n
abbrev DC_RESID_KC (n : Nat) : Fld := ⟨DC_RESID n, 16, 16⟩
abbrev DC_RESID_BND (n : Nat) : Fld := ⟨DC_RESID n, 0, 8⟩
abbrev DC_TRIMK (n : Nat) : Nat := 0x060064 + 0x1000 * n
abbrev DC_TRIMK_KTHR (n : Nat) : Fld := ⟨DC_TRIMK n, 16, 16⟩
abbrev DC_TRIMK_KTHS (n : Nat) : Fld := ⟨DC_TRIMK n, 0, 16⟩
abbrev DC_LASTX (n : Nat) : Nat := 0x060068 + 0x1000 * n
abbrev DC_LASTX_PHASE (n : Nat) : Fld := ⟨DC_LASTX n, 30, 2⟩
abbrev DC_LASTX_LEVEL (n : Nat) : Fld := ⟨DC_LASTX n, 27, 3⟩
abbrev DC_LASTX_DIR (n : Nat) : Fld := ⟨DC_LASTX n, 26, 1⟩
abbrev DC_LASTX_PEAK (n : Nat) : Fld := ⟨DC_LASTX n, 25, 1⟩
abbrev DC_LASTX_RLCNT (n : Nat) : Fld := ⟨DC_LASTX n, 16, 4⟩
abbrev DC_LASTX_ERES (n : Nat) : Fld := ⟨DC_LASTX n, 0, 16⟩
abbrev DC_LASTT (n : Nat) : Nat := 0x06006C + 0x1000 * n
abbrev DC_LASTT_TRES (n : Nat) : Fld := ⟨DC_LASTT n, 0, 32⟩
abbrev DC_REV (n : Nat) : Nat := 0x060070 + 0x1000 * n
abbrev DC_REV_RATEDSPD (n : Nat) : Fld := ⟨DC_REV n, 16, 16⟩
abbrev DC_REV_REVTHR (n : Nat) : Fld := ⟨DC_REV n, 0, 16⟩
abbrev DC_LIMITS (n : Nat) : Nat := 0x060074 + 0x1000 * n
abbrev DC_LIMITS_RATEMAX (n : Nat) : Fld := ⟨DC_LIMITS n, 16, 16⟩
abbrev DC_LIMITS_DWELL (n : Nat) : Fld := ⟨DC_LIMITS n, 0, 16⟩
abbrev DC_BEMF0 (n : Nat) : Nat := 0x060078 + 0x1000 * n
abbrev DC_BEMF0_ANGDEV (n : Nat) : Fld := ⟨DC_BEMF0 n, 16, 16⟩
abbrev DC_BEMF0_MINSPD (n : Nat) : Fld := ⟨DC_BEMF0 n, 0, 16⟩
abbrev DC_BEMF1 (n : Nat) : Nat := 0x06007C + 0x1000 * n
abbrev DC_BEMF1_MINEV (n : Nat) : Fld := ⟨DC_BEMF1 n, 16, 8⟩
abbrev DC_BEMF1_SUBSTMAX (n : Nat) : Fld := ⟨DC_BEMF1 n, 0, 16⟩
abbrev DC_RCATCH (n : Nat) : Nat := 0x060080 + 0x1000 * n
abbrev DC_RCATCH_PROBE (n : Nat) : Fld := ⟨DC_RCATCH n, 16, 16⟩
abbrev DC_RCATCH_ASCMIN (n : Nat) : Fld := ⟨DC_RCATCH n, 8, 8⟩
abbrev DC_RCATCH_REARM (n : Nat) : Fld := ⟨DC_RCATCH n, 5, 3⟩
abbrev DC_RCATCH_RCEV (n : Nat) : Fld := ⟨DC_RCATCH n, 0, 5⟩
abbrev DC_SECT (n : Nat) : Nat := 0x060084 + 0x1000 * n
abbrev DC_SECT_SHYS (n : Nat) : Fld := ⟨DC_SECT n, 0, 16⟩
abbrev DC_CPR (n : Nat) : Nat := 0x060088 + 0x1000 * n
abbrev DC_CPR_CPR (n : Nat) : Fld := ⟨DC_CPR n, 0, 32⟩
abbrev GD_CFG (n : Nat) : Nat := 0x070000 + 0x1000 * n
abbrev GD_CFG_SRC (n : Nat) : Fld := ⟨GD_CFG n, 0, 2⟩
abbrev GD_DT (n : Nat) : Nat := 0x070004 + 0x1000 * n
abbrev GD_DT_DT (n : Nat) : Fld := ⟨GD_DT n, 0, 8⟩
abbrev GD_VDS (n : Nat) : Nat := 0x070008 + 0x1000 * n
abbrev GD_VDS_BLANK (n : Nat) : Fld := ⟨GD_VDS n, 16, 9⟩
abbrev GD_VDS_THR (n : Nat) : Fld := ⟨GD_VDS n, 0, 9⟩
abbrev GD_BSTCFG (n : Nat) : Nat := 0x07000C + 0x1000 * n
abbrev GD_BSTCFG_PEND (n : Nat) : Fld := ⟨GD_BSTCFG n, 25, 7⟩
abbrev GD_BSTCFG_REFW (n : Nat) : Fld := ⟨GD_BSTCFG n, 16, 9⟩
abbrev GD_BSTCFG_REFT (n : Nat) : Fld := ⟨GD_BSTCFG n, 0, 16⟩
abbrev GD_BSTCFG2 (n : Nat) : Nat := 0x070010 + 0x1000 * n
abbrev GD_BSTCFG2_PRE (n : Nat) : Fld := ⟨GD_BSTCFG2 n, 0, 16⟩
abbrev GD_STAT (n : Nat) : Nat := 0x070014 + 0x1000 * n
abbrev GD_STAT_PEND (n : Nat) : Fld := ⟨GD_STAT n, 24, 6⟩
abbrev GD_STAT_BSTUV (n : Nat) : Fld := ⟨GD_STAT n, 16, 6⟩
abbrev GD_STAT_UNAV (n : Nat) : Fld := ⟨GD_STAT n, 8, 6⟩
abbrev GD_STAT_ON (n : Nat) : Fld := ⟨GD_STAT n, 0, 6⟩
abbrev GD_FAULT (n : Nat) : Nat := 0x070018 + 0x1000 * n
abbrev GD_FAULT_BLAT (n : Nat) : Fld := ⟨GD_FAULT n, 24, 6⟩
abbrev GD_FAULT_GSTK (n : Nat) : Fld := ⟨GD_FAULT n, 18, 6⟩
abbrev GD_FAULT_LEAK (n : Nat) : Fld := ⟨GD_FAULT n, 12, 6⟩
abbrev GD_FAULT_CEIL (n : Nat) : Fld := ⟨GD_FAULT n, 6, 6⟩
abbrev GD_FAULT_VDS (n : Nat) : Fld := ⟨GD_FAULT n, 0, 6⟩
abbrev GD_EVT (n : Nat) : Nat := 0x07001C + 0x1000 * n
abbrev GD_EVT_T1OUT (n : Nat) : Fld := ⟨GD_EVT n, 15, 1⟩
abbrev GD_EVT_T1DEG (n : Nat) : Fld := ⟨GD_EVT n, 14, 1⟩
abbrev GD_EVT_PKLIM (n : Nat) : Fld := ⟨GD_EVT n, 13, 1⟩
abbrev GD_EVT_GINBOTH (n : Nat) : Fld := ⟨GD_EVT n, 12, 1⟩
abbrev GD_EVT_LKABT (n : Nat) : Fld := ⟨GD_EVT n, 11, 1⟩
abbrev GD_EVT_LKVOID (n : Nat) : Fld := ⟨GD_EVT n, 10, 1⟩
abbrev GD_EVT_LKFAIL (n : Nat) : Fld := ⟨GD_EVT n, 9, 1⟩
abbrev GD_EVT_REFABT (n : Nat) : Fld := ⟨GD_EVT n, 8, 1⟩
abbrev GD_EVT_REFLATE (n : Nat) : Fld := ⟨GD_EVT n, 7, 1⟩
abbrev GD_EVT_REFINS (n : Nat) : Fld := ⟨GD_EVT n, 6, 1⟩
abbrev GD_EVT_GSTK (n : Nat) : Fld := ⟨GD_EVT n, 5, 1⟩
abbrev GD_EVT_BLAT (n : Nat) : Fld := ⟨GD_EVT n, 4, 1⟩
abbrev GD_EVT_BSTUV (n : Nat) : Fld := ⟨GD_EVT n, 3, 1⟩
abbrev GD_EVT_PEAK (n : Nat) : Fld := ⟨GD_EVT n, 2, 1⟩
abbrev GD_EVT_CEIL (n : Nat) : Fld := ⟨GD_EVT n, 1, 1⟩
abbrev GD_EVT_VDS (n : Nat) : Fld := ⟨GD_EVT n, 0, 1⟩
abbrev GD_CNT0 (n : Nat) : Nat := 0x070020 + 0x1000 * n
abbrev GD_CNT0_PKCNT (n : Nat) : Fld := ⟨GD_CNT0 n, 16, 16⟩
abbrev GD_CNT0_REFCNT (n : Nat) : Fld := ⟨GD_CNT0 n, 0, 16⟩
abbrev GD_CNT1 (n : Nat) : Nat := 0x070024 + 0x1000 * n
abbrev GD_CNT1_GINBOTH (n : Nat) : Fld := ⟨GD_CNT1 n, 16, 16⟩
abbrev GD_CNT1_GINHOLD (n : Nat) : Fld := ⟨GD_CNT1 n, 0, 16⟩
abbrev GD_BSTV0 (n : Nat) : Nat := 0x070028 + 0x1000 * n
abbrev GD_BSTV0_VH (n : Nat) : Fld := ⟨GD_BSTV0 n, 16, 16⟩
abbrev GD_BSTV0_UH (n : Nat) : Fld := ⟨GD_BSTV0 n, 0, 16⟩
abbrev GD_BSTV1 (n : Nat) : Nat := 0x07002C + 0x1000 * n
abbrev GD_BSTV1_WH (n : Nat) : Fld := ⟨GD_BSTV1 n, 0, 16⟩
abbrev GD_LKCTL (n : Nat) : Nat := 0x070030 + 0x1000 * n
abbrev GD_LKCTL_FAIL1 (n : Nat) : Fld := ⟨GD_LKCTL n, 16, 6⟩
abbrev GD_LKCTL_PASS (n : Nat) : Fld := ⟨GD_LKCTL n, 8, 6⟩
abbrev GD_LKCTL_REQ (n : Nat) : Fld := ⟨GD_LKCTL n, 0, 6⟩
abbrev GD_FCLR (n : Nat) : Nat := 0x070034 + 0x1000 * n
abbrev GD_FCLR_CLR (n : Nat) : Fld := ⟨GD_FCLR n, 0, 6⟩
abbrev GD_GIN (n : Nat) : Nat := 0x070038 + 0x1000 * n
abbrev GD_GIN_LEVEL (n : Nat) : Fld := ⟨GD_GIN n, 0, 6⟩
abbrev GD_VMSTAT : Nat := 0x070F00
abbrev GD_VMSTAT_VGUV : Fld := ⟨GD_VMSTAT, 25, 1⟩
abbrev GD_VMSTAT_STUCK : Fld := ⟨GD_VMSTAT, 24, 1⟩
abbrev GD_VMSTAT_CHFLT : Fld := ⟨GD_VMSTAT, 23, 1⟩
abbrev GD_VMSTAT_BCS : Fld := ⟨GD_VMSTAT, 22, 1⟩
abbrev GD_VMSTAT_BCH : Fld := ⟨GD_VMSTAT, 21, 1⟩
abbrev GD_VMSTAT_REGLOCK : Fld := ⟨GD_VMSTAT, 20, 1⟩
abbrev GD_VMSTAT_LEVEL : Fld := ⟨GD_VMSTAT, 16, 3⟩
abbrev GD_VMSTAT_VM : Fld := ⟨GD_VMSTAT, 0, 16⟩
abbrev GD_OVA : Nat := 0x070F04
abbrev GD_OVA_OV2 : Fld := ⟨GD_OVA, 16, 16⟩
abbrev GD_OVA_OV1 : Fld := ⟨GD_OVA, 0, 16⟩
abbrev GD_OVB : Nat := 0x070F08
abbrev GD_OVB_OVMAX : Fld := ⟨GD_OVB, 16, 16⟩
abbrev GD_OVB_OV3 : Fld := ⟨GD_OVB, 0, 16⟩
abbrev GD_OVH : Nat := 0x070F0C
abbrev GD_OVH_RELH : Fld := ⟨GD_OVH, 16, 16⟩
abbrev GD_OVH_CHH : Fld := ⟨GD_OVH, 0, 16⟩
abbrev GD_OVCFG : Nat := 0x070F10
abbrev GD_OVCFG_CHEN : Fld := ⟨GD_OVCFG, 24, 1⟩
abbrev GD_OVCFG_KOSEL : Fld := ⟨GD_OVCFG, 16, 2⟩
abbrev GD_OVCFG_ASCSPD : Fld := ⟨GD_OVCFG, 0, 16⟩
abbrev GD_LEVT : Nat := 0x070F14
abbrev GD_LEVT_REGLOCK : Fld := ⟨GD_LEVT, 7, 1⟩
abbrev GD_LEVT_VGUV : Fld := ⟨GD_LEVT, 6, 1⟩
abbrev GD_LEVT_STUCK : Fld := ⟨GD_LEVT, 5, 1⟩
abbrev GD_LEVT_CHFLT : Fld := ⟨GD_LEVT, 4, 1⟩
abbrev GD_LEVT_OVMAX : Fld := ⟨GD_LEVT, 3, 1⟩
abbrev GD_LEVT_OV3 : Fld := ⟨GD_LEVT, 2, 1⟩
abbrev GD_LEVT_OV2 : Fld := ⟨GD_LEVT, 1, 1⟩
abbrev GD_LEVT_OV1 : Fld := ⟨GD_LEVT, 0, 1⟩
abbrev GD_CHON : Nat := 0x070F18
abbrev GD_CHON_CHON : Fld := ⟨GD_CHON, 0, 32⟩
abbrev FB_CFG (n : Nat) : Nat := 0x080000 + 0x1000 * n
abbrev FB_CFG_TERM (n : Nat) : Fld := ⟨FB_CFG n, 7, 1⟩
abbrev FB_CFG_CNTINV (n : Nat) : Fld := ⟨FB_CFG n, 6, 1⟩
abbrev FB_CFG_HALLEN (n : Nat) : Fld := ⟨FB_CFG n, 5, 1⟩
abbrev FB_CFG_SER (n : Nat) : Fld := ⟨FB_CFG n, 2, 2⟩
abbrev FB_CFG_INC (n : Nat) : Fld := ⟨FB_CFG n, 0, 2⟩
abbrev FB_FILT (n : Nat) : Nat := 0x080004 + 0x1000 * n
abbrev FB_FILT_PGLT (n : Nat) : Fld := ⟨FB_FILT n, 8, 3⟩
abbrev FB_FILT_QGLT (n : Nat) : Fld := ⟨FB_FILT n, 0, 3⟩
abbrev FB_CTRL (n : Nat) : Nat := 0x080008 + 0x1000 * n
abbrev FB_CTRL_PRBEDGE (n : Nat) : Fld := ⟨FB_CTRL n, 2, 2⟩
abbrev FB_CTRL_PRBARM (n : Nat) : Fld := ⟨FB_CTRL n, 1, 1⟩
abbrev FB_CTRL_RENEG (n : Nat) : Fld := ⟨FB_CTRL n, 0, 1⟩
abbrev FB_STAT (n : Nat) : Nat := 0x08000C + 0x1000 * n
abbrev FB_STAT_HALL (n : Nat) : Fld := ⟨FB_STAT n, 16, 3⟩
abbrev FB_STAT_ABZ (n : Nat) : Fld := ⟨FB_STAT n, 12, 3⟩
abbrev FB_STAT_SRATE (n : Nat) : Fld := ⟨FB_STAT n, 10, 2⟩
abbrev FB_STAT_SERLOCK (n : Nat) : Fld := ⟨FB_STAT n, 9, 1⟩
abbrev FB_STAT_PRBFULL (n : Nat) : Fld := ⟨FB_STAT n, 8, 1⟩
abbrev FB_STAT_REF (n : Nat) : Fld := ⟨FB_STAT n, 7, 1⟩
abbrev FB_STAT_DIR (n : Nat) : Fld := ⟨FB_STAT n, 6, 1⟩
abbrev FB_STAT_STILL (n : Nat) : Fld := ⟨FB_STAT n, 5, 1⟩
abbrev FB_STAT_ESTIM (n : Nat) : Fld := ⟨FB_STAT n, 4, 1⟩
abbrev FB_STAT_UNCERT (n : Nat) : Fld := ⟨FB_STAT n, 3, 1⟩
abbrev FB_STAT_VALID (n : Nat) : Fld := ⟨FB_STAT n, 0, 1⟩
abbrev FB_EVT (n : Nat) : Nat := 0x080010 + 0x1000 * n
abbrev FB_EVT_LINE (n : Nat) : Fld := ⟨FB_EVT n, 17, 1⟩
abbrev FB_EVT_INVAL (n : Nat) : Fld := ⟨FB_EVT n, 16, 1⟩
abbrev FB_EVT_PRBOVF (n : Nat) : Fld := ⟨FB_EVT n, 15, 1⟩
abbrev FB_EVT_PRB (n : Nat) : Fld := ⟨FB_EVT n, 14, 1⟩
abbrev FB_EVT_HALLBAD (n : Nat) : Fld := ⟨FB_EVT n, 13, 1⟩
abbrev FB_EVT_HALLDEV (n : Nat) : Fld := ⟨FB_EVT n, 12, 1⟩
abbrev FB_EVT_SERWARN (n : Nat) : Fld := ⟨FB_EVT n, 11, 1⟩
abbrev FB_EVT_SERDEV (n : Nat) : Fld := ⟨FB_EVT n, 10, 1⟩
abbrev FB_EVT_SERBAD (n : Nat) : Fld := ⟨FB_EVT n, 9, 1⟩
abbrev FB_EVT_SERFAIL (n : Nat) : Fld := ⟨FB_EVT n, 8, 1⟩
abbrev FB_EVT_IDXMISS (n : Nat) : Fld := ⟨FB_EVT n, 7, 1⟩
abbrev FB_EVT_IDXERR (n : Nat) : Fld := ⟨FB_EVT n, 6, 1⟩
abbrev FB_EVT_REREF (n : Nat) : Fld := ⟨FB_EVT n, 5, 1⟩
abbrev FB_EVT_STALL (n : Nat) : Fld := ⟨FB_EVT n, 4, 1⟩
abbrev FB_EVT_STEPF (n : Nat) : Fld := ⟨FB_EVT n, 3, 1⟩
abbrev FB_EVT_DIRCHG (n : Nat) : Fld := ⟨FB_EVT n, 2, 1⟩
abbrev FB_EVT_WRAPDN (n : Nat) : Fld := ⟨FB_EVT n, 1, 1⟩
abbrev FB_EVT_WRAPUP (n : Nat) : Fld := ⟨FB_EVT n, 0, 1⟩
abbrev FB_POS (n : Nat) : Nat := 0x080014 + 0x1000 * n
abbrev FB_POS_POS (n : Nat) : Fld := ⟨FB_POS n, 0, 32⟩
abbrev FB_BPOS (n : Nat) : Nat := 0x080018 + 0x1000 * n
abbrev FB_BPOS_POS (n : Nat) : Fld := ⟨FB_BPOS n, 0, 32⟩
abbrev FB_BHI (n : Nat) : Nat := 0x08001C + 0x1000 * n
abbrev FB_BHI_WRAP (n : Nat) : Fld := ⟨FB_BHI n, 16, 16⟩
abbrev FB_BHI_BSEQ (n : Nat) : Fld := ⟨FB_BHI n, 8, 8⟩
abbrev FB_SPEED (n : Nat) : Nat := 0x080020 + 0x1000 * n
abbrev FB_SPEED_SPD (n : Nat) : Fld := ⟨FB_SPEED n, 0, 32⟩
abbrev FB_SPDCFG (n : Nat) : Nat := 0x080024 + 0x1000 * n
abbrev FB_SPDCFG_AVG (n : Nat) : Fld := ⟨FB_SPDCFG n, 8, 2⟩
abbrev FB_SPDCFG_STALL (n : Nat) : Fld := ⟨FB_SPDCFG n, 0, 8⟩
abbrev FB_STEP (n : Nat) : Nat := 0x080028 + 0x1000 * n
abbrev FB_STEP_TOTAL (n : Nat) : Fld := ⟨FB_STEP n, 16, 16⟩
abbrev FB_STEP_WIN (n : Nat) : Fld := ⟨FB_STEP n, 0, 11⟩
abbrev FB_IDX (n : Nat) : Nat := 0x08002C + 0x1000 * n
abbrev FB_IDX_TOL (n : Nat) : Fld := ⟨FB_IDX n, 8, 8⟩
abbrev FB_IDX_GATE (n : Nat) : Fld := ⟨FB_IDX n, 1, 2⟩
abbrev FB_IDX_EN (n : Nat) : Fld := ⟨FB_IDX n, 0, 1⟩
abbrev FB_IDXPOS (n : Nat) : Nat := 0x080030 + 0x1000 * n
abbrev FB_IDXPOS_IDXPOS (n : Nat) : Fld := ⟨FB_IDXPOS n, 0, 32⟩
abbrev FB_IDXERR (n : Nat) : Nat := 0x080034 + 0x1000 * n
abbrev FB_IDXERR_D (n : Nat) : Fld := ⟨FB_IDXERR n, 0, 32⟩
abbrev FB_CPR (n : Nat) : Nat := 0x080038 + 0x1000 * n
abbrev FB_CPR_CPR (n : Nat) : Fld := ⟨FB_CPR n, 0, 32⟩
abbrev FB_PRBPOS (n : Nat) : Nat := 0x08003C + 0x1000 * n
abbrev FB_PRBPOS_POS (n : Nat) : Fld := ⟨FB_PRBPOS n, 0, 32⟩
abbrev FB_PRBTS0 (n : Nat) : Nat := 0x080040 + 0x1000 * n
abbrev FB_PRBTS0_QNS (n : Nat) : Fld := ⟨FB_PRBTS0 n, 30, 2⟩
abbrev FB_PRBTS0_NS (n : Nat) : Fld := ⟨FB_PRBTS0 n, 0, 30⟩
abbrev FB_PRBTS1 (n : Nat) : Nat := 0x080044 + 0x1000 * n
abbrev FB_PRBTS1_SEC (n : Nat) : Fld := ⟨FB_PRBTS1 n, 0, 32⟩
abbrev FB_SER0 (n : Nat) : Nat := 0x080048 + 0x1000 * n
abbrev FB_SER0_GRAY (n : Nat) : Fld := ⟨FB_SER0 n, 21, 1⟩
abbrev FB_SER0_CRCL (n : Nat) : Fld := ⟨FB_SER0 n, 16, 5⟩
abbrev FB_SER0_LEN (n : Nat) : Fld := ⟨FB_SER0 n, 8, 6⟩
abbrev FB_SER0_RMIN (n : Nat) : Fld := ⟨FB_SER0 n, 2, 2⟩
abbrev FB_SER0_RMAX (n : Nat) : Fld := ⟨FB_SER0 n, 0, 2⟩
abbrev FB_SER1 (n : Nat) : Nat := 0x08004C + 0x1000 * n
abbrev FB_SER1_PER (n : Nat) : Fld := ⟨FB_SER1 n, 16, 10⟩
abbrev FB_SER1_POLY (n : Nat) : Fld := ⟨FB_SER1 n, 0, 16⟩
abbrev FB_SER2 (n : Nat) : Nat := 0x080050 + 0x1000 * n
abbrev FB_SER2_REREF (n : Nat) : Fld := ⟨FB_SER2 n, 24, 1⟩
abbrev FB_SER2_TOL (n : Nat) : Fld := ⟨FB_SER2 n, 16, 8⟩
abbrev FB_SER2_MTB (n : Nat) : Fld := ⟨FB_SER2 n, 8, 5⟩
abbrev FB_SER2_STB (n : Nat) : Fld := ⟨FB_SER2 n, 0, 6⟩
abbrev FB_SERPOS (n : Nat) : Nat := 0x080054 + 0x1000 * n
abbrev FB_SERPOS_POS (n : Nat) : Fld := ⟨FB_SERPOS n, 0, 32⟩
abbrev FB_SERCNT (n : Nat) : Nat := 0x080058 + 0x1000 * n
abbrev FB_SERCNT_BAD (n : Nat) : Fld := ⟨FB_SERCNT n, 16, 16⟩
abbrev FB_SERCNT_DLY (n : Nat) : Fld := ⟨FB_SERCNT n, 0, 11⟩
abbrev FB_HALL (n : Nat) : Nat := 0x08005C + 0x1000 * n
abbrev FB_HALL_HTOL (n : Nat) : Fld := ⟨FB_HALL n, 16, 16⟩
abbrev FB_HALL_HOFS (n : Nat) : Fld := ⟨FB_HALL n, 0, 16⟩
abbrev LE_LSTAT : Nat := 0x090000
abbrev LE_LSTAT_TESTHIT : Fld := ⟨LE_LSTAT, 1, 1⟩
abbrev LE_LSTAT_RUN : Fld := ⟨LE_LSTAT, 0, 1⟩
abbrev LE_LEVT : Nat := 0x090004
abbrev LE_LEVT_TESTMISS : Fld := ⟨LE_LEVT, 1, 1⟩
abbrev LE_LEVT_LSMIS : Fld := ⟨LE_LEVT, 0, 1⟩
abbrev LE_AXCFG (n : Nat) : Nat := 0x090100 + 0x100 * n
abbrev LE_AXCFG_ROLE (n : Nat) : Fld := ⟨LE_AXCFG n, 0, 2⟩
abbrev LE_STAT (n : Nat) : Nat := 0x090104 + 0x100 * n
abbrev LE_STAT_CURVEND (n : Nat) : Fld := ⟨LE_STAT n, 8, 1⟩
abbrev LE_STAT_ICLAMP (n : Nat) : Fld := ⟨LE_STAT n, 6, 2⟩
abbrev LE_STAT_OSAT (n : Nat) : Fld := ⟨LE_STAT n, 4, 2⟩
abbrev LE_STAT_SOFT (n : Nat) : Fld := ⟨LE_STAT n, 3, 1⟩
abbrev LE_STAT_PROPV (n : Nat) : Fld := ⟨LE_STAT n, 2, 1⟩
abbrev LE_STAT_SUP (n : Nat) : Fld := ⟨LE_STAT n, 0, 2⟩
abbrev LE_EVT (n : Nat) : Nat := 0x090108 + 0x100 * n
abbrev LE_EVT_LOADHI (n : Nat) : Fld := ⟨LE_EVT n, 5, 1⟩
abbrev LE_EVT_IMPLAUS (n : Nat) : Fld := ⟨LE_EVT n, 4, 1⟩
abbrev LE_EVT_OSC2 (n : Nat) : Fld := ⟨LE_EVT n, 3, 1⟩
abbrev LE_EVT_OSC (n : Nat) : Fld := ⟨LE_EVT n, 2, 1⟩
abbrev LE_EVT_DROP (n : Nat) : Fld := ⟨LE_EVT n, 1, 1⟩
abbrev LE_EVT_ACCSAT (n : Nat) : Fld := ⟨LE_EVT n, 0, 1⟩
abbrev LE_KPO (n : Nat) : Nat := 0x09010C + 0x100 * n
abbrev LE_KPO_S (n : Nat) : Fld := ⟨LE_KPO n, 16, 4⟩
abbrev LE_KPO_K (n : Nat) : Fld := ⟨LE_KPO n, 0, 16⟩
abbrev LE_KIO (n : Nat) : Nat := 0x090110 + 0x100 * n
abbrev LE_KIO_S (n : Nat) : Fld := ⟨LE_KIO n, 16, 4⟩
abbrev LE_KIO_K (n : Nat) : Fld := ⟨LE_KIO n, 0, 16⟩
abbrev LE_KPW (n : Nat) : Nat := 0x090114 + 0x100 * n
abbrev LE_KPW_S (n : Nat) : Fld := ⟨LE_KPW n, 16, 4⟩
abbrev LE_KPW_K (n : Nat) : Fld := ⟨LE_KPW n, 0, 16⟩
abbrev LE_KIW (n : Nat) : Nat := 0x090118 + 0x100 * n
abbrev LE_KIW_S (n : Nat) : Fld := ⟨LE_KIW n, 16, 4⟩
abbrev LE_KIW_K (n : Nat) : Fld := ⟨LE_KIW n, 0, 16⟩
abbrev LE_SOFT (n : Nat) : Nat := 0x09011C + 0x100 * n
abbrev LE_SOFT_FACT (n : Nat) : Fld := ⟨LE_SOFT n, 0, 16⟩
abbrev LE_ILIM (n : Nat) : Nat := 0x090120 + 0x100 * n
abbrev LE_ILIM_ILIMO (n : Nat) : Fld := ⟨LE_ILIM n, 16, 16⟩
abbrev LE_ILIM_ILIMW (n : Nat) : Fld := ⟨LE_ILIM n, 0, 16⟩
abbrev LE_WMAX (n : Nat) : Nat := 0x090124 + 0x100 * n
abbrev LE_WMAX_WMAX (n : Nat) : Fld := ⟨LE_WMAX n, 0, 16⟩
abbrev LE_SCALE (n : Nat) : Nat := 0x090128 + 0x100 * n
abbrev LE_SCALE_WFS (n : Nat) : Fld := ⟨LE_SCALE n, 16, 16⟩
abbrev LE_SCALE_FFS (n : Nat) : Fld := ⟨LE_SCALE n, 0, 16⟩
abbrev LE_PFS (n : Nat) : Nat := 0x09012C + 0x100 * n
abbrev LE_PFS_PFS (n : Nat) : Fld := ⟨LE_PFS n, 0, 25⟩
abbrev LE_GEAR (n : Nat) : Nat := 0x090130 + 0x100 * n
abbrev LE_GEAR_GEAR (n : Nat) : Fld := ⟨LE_GEAR n, 0, 32⟩
abbrev LE_PZERO_LO (n : Nat) : Nat := 0x090134 + 0x100 * n
abbrev LE_PZERO_LO_PZERO (n : Nat) : Fld := ⟨LE_PZERO_LO n, 0, 32⟩
abbrev LE_PZERO_HI (n : Nat) : Nat := 0x090138 + 0x100 * n
abbrev LE_PZERO_HI_PZERO (n : Nat) : Fld := ⟨LE_PZERO_HI n, 0, 32⟩
abbrev LE_FCRV (n : Nat) (k : Nat) : Nat := 0x090140 + 0x100 * n + 0x4 * k
abbrev LE_FCRV_HI (n : Nat) (k : Nat) : Fld := ⟨LE_FCRV n k, 16, 16⟩
abbrev LE_FCRV_LO (n : Nat) (k : Nat) : Fld := ⟨LE_FCRV n k, 0, 16⟩
abbrev LE_FSTEP (n : Nat) : Nat := 0x090160 + 0x100 * n
abbrev LE_FSTEP_FSTEP (n : Nat) : Fld := ⟨LE_FSTEP n, 0, 16⟩
abbrev LE_OSCO (n : Nat) : Nat := 0x090164 + 0x100 * n
abbrev LE_OSCO_LIM (n : Nat) : Fld := ⟨LE_OSCO n, 24, 8⟩
abbrev LE_OSCO_WIN (n : Nat) : Fld := ⟨LE_OSCO n, 16, 8⟩
abbrev LE_OSCO_BAND (n : Nat) : Fld := ⟨LE_OSCO n, 0, 16⟩
abbrev LE_OSCW (n : Nat) : Nat := 0x090168 + 0x100 * n
abbrev LE_OSCW_LIM (n : Nat) : Fld := ⟨LE_OSCW n, 24, 8⟩
abbrev LE_OSCW_WIN (n : Nat) : Fld := ⟨LE_OSCW n, 16, 8⟩
abbrev LE_OSCW_BAND (n : Nat) : Fld := ⟨LE_OSCW n, 0, 16⟩
abbrev LE_PLS0 (n : Nat) : Nat := 0x09016C + 0x100 * n
abbrev LE_PLS0_J (n : Nat) : Fld := ⟨LE_PLS0 n, 16, 16⟩
abbrev LE_PLS0_B (n : Nat) : Fld := ⟨LE_PLS0 n, 0, 16⟩
abbrev LE_PLS1 (n : Nat) : Nat := 0x090170 + 0x100 * n
abbrev LE_PLS1_MCNT (n : Nat) : Fld := ⟨LE_PLS1 n, 28, 4⟩
abbrev LE_PLS1_CNT (n : Nat) : Fld := ⟨LE_PLS1 n, 24, 4⟩
abbrev LE_PLS1_WIN (n : Nat) : Fld := ⟨LE_PLS1 n, 16, 8⟩
abbrev LE_PLS1_TLOAD (n : Nat) : Fld := ⟨LE_PLS1 n, 0, 16⟩
abbrev LE_KF (n : Nat) : Nat := 0x090174 + 0x100 * n
abbrev LE_KF_KF (n : Nat) : Fld := ⟨LE_KF n, 0, 16⟩
abbrev LE_PREF_LO (n : Nat) : Nat := 0x090178 + 0x100 * n
abbrev LE_PREF_LO_PREF (n : Nat) : Fld := ⟨LE_PREF_LO n, 0, 32⟩
abbrev LE_PREF_HI (n : Nat) : Nat := 0x09017C + 0x100 * n
abbrev LE_PREF_HI_PREF (n : Nat) : Fld := ⟨LE_PREF_HI n, 0, 32⟩
abbrev LE_WREF (n : Nat) : Nat := 0x090180 + 0x100 * n
abbrev LE_WREF_REF (n : Nat) : Fld := ⟨LE_WREF n, 16, 16⟩
abbrev LE_WREF_MEAS (n : Nat) : Fld := ⟨LE_WREF n, 0, 16⟩
abbrev LE_OUT (n : Nat) : Nat := 0x090184 + 0x100 * n
abbrev LE_OUT_PROP (n : Nat) : Fld := ⟨LE_OUT n, 16, 16⟩
abbrev LE_OUT_LSAT (n : Nat) : Fld := ⟨LE_OUT n, 0, 16⟩
abbrev LE_INT (n : Nat) : Nat := 0x090188 + 0x100 * n
abbrev LE_INT_IO (n : Nat) : Fld := ⟨LE_INT n, 16, 16⟩
abbrev LE_INT_IW (n : Nat) : Fld := ⟨LE_INT n, 0, 16⟩
abbrev LE_OANG (n : Nat) : Nat := 0x09018C + 0x100 * n
abbrev LE_OANG_ANG (n : Nat) : Fld := ⟨LE_OANG n, 16, 16⟩
abbrev LE_OANG_FMEAS (n : Nat) : Fld := ⟨LE_OANG n, 0, 16⟩
abbrev LE_SUPV (n : Nat) : Nat := 0x090190 + 0x100 * n
abbrev LE_SUPV_OSCO (n : Nat) : Fld := ⟨LE_SUPV n, 24, 8⟩
abbrev LE_SUPV_OSCW (n : Nat) : Fld := ⟨LE_SUPV n, 16, 8⟩
abbrev LE_SUPV_TEXT (n : Nat) : Fld := ⟨LE_SUPV n, 0, 16⟩
abbrev LE_CNT (n : Nat) : Nat := 0x090194 + 0x100 * n
abbrev LE_CNT_ACCSAT (n : Nat) : Fld := ⟨LE_CNT n, 16, 16⟩
abbrev LE_CNT_DROP (n : Nat) : Fld := ⟨LE_CNT n, 0, 16⟩
abbrev TV_STAT : Nat := 0x030000
abbrev TV_STAT_UNUS : Fld := ⟨TV_STAT, 8, 3⟩
abbrev TV_STAT_JOIN : Fld := ⟨TV_STAT, 4, 2⟩
abbrev TV_STAT_MODE : Fld := ⟨TV_STAT, 2, 2⟩
abbrev TV_EVT : Nat := 0x030004
abbrev TV_EVT_NOMAJ : Fld := ⟨TV_EVT, 10, 1⟩
abbrev TV_EVT_VOTERR : Fld := ⟨TV_EVT, 9, 1⟩
abbrev TV_EVT_SPREADHI : Fld := ⟨TV_EVT, 8, 1⟩
abbrev TV_EVT_EXMISS : Fld := ⟨TV_EVT, 7, 1⟩
abbrev TV_EVT_EXDONE : Fld := ⟨TV_EVT, 6, 1⟩
abbrev TV_EVT_RSTMO : Fld := ⟨TV_EVT, 5, 1⟩
abbrev TV_EVT_RSDONE : Fld := ⟨TV_EVT, 4, 1⟩
abbrev TV_EVT_UNUSABLE : Fld := ⟨TV_EVT, 3, 1⟩
abbrev TV_EVT_PAIRMIS : Fld := ⟨TV_EVT, 2, 1⟩
abbrev TV_EVT_ODDLATE : Fld := ⟨TV_EVT, 1, 1⟩
abbrev TV_EVT_ODDDIFF : Fld := ⟨TV_EVT, 0, 1⟩
abbrev TV_RSCNT : Nat := 0x030008
abbrev TV_RSCNT_TOTAL : Fld := ⟨TV_RSCNT, 0, 24⟩
abbrev TV_RECENT : Nat := 0x03000C
abbrev TV_RECENT_RECENT : Fld := ⟨TV_RECENT, 0, 12⟩
abbrev TV_LASTODD : Nat := 0x030010
abbrev TV_LASTODD_CORE : Fld := ⟨TV_LASTODD, 30, 2⟩
abbrev TV_LASTODD_KIND : Fld := ⟨TV_LASTODD, 28, 2⟩
abbrev TV_LASTODD_TYPE : Fld := ⟨TV_LASTODD, 24, 4⟩
abbrev TV_LASTODD_DEST : Fld := ⟨TV_LASTODD, 0, 24⟩
abbrev TV_LASTT0 : Nat := 0x030014
abbrev TV_LASTT0_QNS : Fld := ⟨TV_LASTT0, 30, 2⟩
abbrev TV_LASTT0_NS : Fld := ⟨TV_LASTT0, 0, 30⟩
abbrev TV_LASTT1 : Nat := 0x030018
abbrev TV_LASTT1_SEC : Fld := ⟨TV_LASTT1, 0, 32⟩
abbrev TV_SKEW : Nat := 0x03001C
abbrev TV_SKEW_MAXALL : Fld := ⟨TV_SKEW, 16, 16⟩
abbrev TV_SKEW_MAXCYC : Fld := ⟨TV_SKEW, 0, 16⟩
abbrev TV_SPREAD : Nat := 0x030020
abbrev TV_SPREAD_MAX : Fld := ⟨TV_SPREAD, 16, 16⟩
abbrev TV_SPREAD_NOW : Fld := ⟨TV_SPREAD, 0, 16⟩
abbrev TV_WIN : Nat := 0x030024
abbrev TV_WIN_WIN : Fld := ⟨TV_WIN, 0, 9⟩
abbrev TV_EXER : Nat := 0x030028
abbrev TV_EXER_PASSCNT : Fld := ⟨TV_EXER, 16, 16⟩
abbrev TV_EXER_NEXT : Fld := ⟨TV_EXER, 8, 8⟩
abbrev TV_EXER_LAST : Fld := ⟨TV_EXER, 0, 2⟩
abbrev TV_CMD : Nat := 0x03002C
abbrev TV_CMD_EXNOW : Fld := ⟨TV_CMD, 0, 1⟩
abbrev WG_STAT : Nat := 0x040000
abbrev WG_STAT_LEADL : Fld := ⟨WG_STAT, 24, 2⟩
abbrev WG_STAT_P2ST : Fld := ⟨WG_STAT, 22, 2⟩
abbrev WG_STAT_P1ST : Fld := ⟨WG_STAT, 20, 2⟩
abbrev WG_STAT_L2 : Fld := ⟨WG_STAT, 18, 2⟩
abbrev WG_STAT_L1 : Fld := ⟨WG_STAT, 16, 2⟩
abbrev WG_STAT_GUARD : Fld := ⟨WG_STAT, 8, 1⟩
abbrev WG_STAT_ISOL : Fld := ⟨WG_STAT, 7, 1⟩
abbrev WG_STAT_RELAYIN : Fld := ⟨WG_STAT, 6, 1⟩
abbrev WG_STAT_RELAYOUT : Fld := ⟨WG_STAT, 5, 1⟩
abbrev WG_STAT_TSLEW : Fld := ⟨WG_STAT, 4, 1⟩
abbrev WG_EVT : Nat := 0x040004
abbrev WG_EVT_OUTRX : Fld := ⟨WG_EVT, 16, 1⟩
abbrev WG_EVT_DRILLERR : Fld := ⟨WG_EVT, 15, 1⟩
abbrev WG_EVT_DRILLOK : Fld := ⟨WG_EVT, 14, 1⟩
abbrev WG_EVT_TOKLOSE : Fld := ⟨WG_EVT, 13, 1⟩
abbrev WG_EVT_TOKTAKE : Fld := ⟨WG_EVT, 12, 1⟩
abbrev WG_EVT_RSFAIL : Fld := ⟨WG_EVT, 11, 1⟩
abbrev WG_EVT_RSEND : Fld := ⟨WG_EVT, 10, 1⟩
abbrev WG_EVT_RSBEG : Fld := ⟨WG_EVT, 9, 1⟩
abbrev WG_EVT_CMDEXP : Fld := ⟨WG_EVT, 8, 1⟩
abbrev WG_EVT_POSDEV : Fld := ⟨WG_EVT, 7, 1⟩
abbrev WG_EVT_MODEDIF : Fld := ⟨WG_EVT, 6, 1⟩
abbrev WG_EVT_FWDIF : Fld := ⟨WG_EVT, 5, 1⟩
abbrev WG_EVT_DIGDIF : Fld := ⟨WG_EVT, 4, 1⟩
abbrev WG_EVT_TSKEW : Fld := ⟨WG_EVT, 3, 1⟩
abbrev WG_EVT_PLOST : Fld := ⟨WG_EVT, 2, 1⟩
abbrev WG_EVT_ISOL : Fld := ⟨WG_EVT, 1, 1⟩
abbrev WG_EVT_LLOST : Fld := ⟨WG_EVT, 0, 1⟩
abbrev WG_CFG : Nat := 0x040008
abbrev WG_CFG_SLEW : Fld := ⟨WG_CFG, 24, 8⟩
abbrev WG_CFG_REBEATS : Fld := ⟨WG_CFG, 16, 8⟩
abbrev WG_CFG_MISS : Fld := ⟨WG_CFG, 0, 4⟩
abbrev WG_POSTOL : Nat := 0x04000C
abbrev WG_POSTOL_POSTOL : Fld := ⟨WG_POSTOL, 0, 24⟩
abbrev WG_P1CNT : Nat := 0x040010
abbrev WG_P1CNT_CRC : Fld := ⟨WG_P1CNT, 24, 8⟩
abbrev WG_P1CNT_LATE : Fld := ⟨WG_P1CNT, 16, 8⟩
abbrev WG_P1CNT_MISSED : Fld := ⟨WG_P1CNT, 0, 16⟩
abbrev WG_P2CNT : Nat := 0x040014
abbrev WG_P2CNT_CRC : Fld := ⟨WG_P2CNT, 24, 8⟩
abbrev WG_P2CNT_LATE : Fld := ⟨WG_P2CNT, 16, 8⟩
abbrev WG_P2CNT_MISSED : Fld := ⟨WG_P2CNT, 0, 16⟩
abbrev WG_TOFS1 : Nat := 0x040018
abbrev WG_TOFS1_OFS : Fld := ⟨WG_TOFS1, 0, 32⟩
abbrev WG_TOFS2 : Nat := 0x04001C
abbrev WG_TOFS2_OFS : Fld := ⟨WG_TOFS2, 0, 32⟩
abbrev WG_LEAD : Nat := 0x040020
abbrev WG_LEAD_TOKSEQ : Fld := ⟨WG_LEAD, 24, 8⟩
abbrev WG_LEAD_GUARDC : Fld := ⟨WG_LEAD, 20, 2⟩
abbrev WG_LEAD_REMAIN : Fld := ⟨WG_LEAD, 0, 16⟩
abbrev WG_MIRROR : Nat := 0x040024
abbrev WG_MIRROR_SEQ : Fld := ⟨WG_MIRROR, 16, 16⟩
abbrev WG_MIRCRC : Nat := 0x040028
abbrev WG_MIRCRC_CRC : Fld := ⟨WG_MIRCRC, 0, 32⟩
abbrev WG_CMD : Nat := 0x04002C
abbrev WG_CMD_PEND : Fld := ⟨WG_CMD, 24, 8⟩
abbrev WG_CMD_AGREED : Fld := ⟨WG_CMD, 0, 24⟩
abbrev WG_CMDEXP : Nat := 0x040030
abbrev WG_CMDEXP_EXP : Fld := ⟨WG_CMDEXP, 0, 16⟩
abbrev WG_RESYNC : Nat := 0x040034
abbrev WG_RESYNC_STEP : Fld := ⟨WG_RESYNC, 28, 4⟩
abbrev WG_RESYNC_COUNT : Fld := ⟨WG_RESYNC, 24, 2⟩
abbrev WG_RESYNC_BEATS : Fld := ⟨WG_RESYNC, 0, 16⟩
abbrev WG_DRILL : Nat := 0x040038
abbrev WG_DRILL_NEXT : Fld := ⟨WG_DRILL, 16, 16⟩
abbrev WG_DRILL_PASS : Fld := ⟨WG_DRILL, 0, 16⟩
abbrev WG_CTRL : Nat := 0x04003C
abbrev WG_CTRL_RETRAIN : Fld := ⟨WG_CTRL, 1, 1⟩
abbrev WG_CTRL_DRILLNOW : Fld := ⟨WG_CTRL, 0, 1⟩
abbrev BX_STAT : Nat := 0x020000
abbrev BX_STAT_QLEN : Fld := ⟨BX_STAT, 24, 8⟩
abbrev BX_STAT_HOLDING : Fld := ⟨BX_STAT, 11, 1⟩
abbrev BX_STAT_SUPOPEN : Fld := ⟨BX_STAT, 10, 1⟩
abbrev BX_STAT_REGPERM : Fld := ⟨BX_STAT, 9, 1⟩
abbrev BX_STAT_OVER : Fld := ⟨BX_STAT, 0, 9⟩
abbrev BX_EVT : Nat := 0x020004
abbrev BX_EVT_LIMUP : Fld := ⟨BX_EVT, 6, 1⟩
abbrev BX_EVT_TREFUSE : Fld := ⟨BX_EVT, 5, 1⟩
abbrev BX_EVT_DROP3 : Fld := ⟨BX_EVT, 4, 1⟩
abbrev BX_EVT_STARVE : Fld := ⟨BX_EVT, 3, 1⟩
abbrev BX_EVT_WHOT : Fld := ⟨BX_EVT, 2, 1⟩
abbrev BX_EVT_BRKHOT : Fld := ⟨BX_EVT, 1, 1⟩
abbrev BX_EVT_REGOFF : Fld := ⟨BX_EVT, 0, 1⟩
abbrev BX_CFG : Nat := 0x020008
abbrev BX_CFG_DIEMARG : Fld := ⟨BX_CFG, 16, 8⟩
abbrev BX_CFG_AGE : Fld := ⟨BX_CFG, 0, 16⟩
abbrev BX_PCAP : Nat := 0x02000C
abbrev BX_PCAP_BASE : Fld := ⟨BX_PCAP, 16, 16⟩
abbrev BX_PCAP_CAP : Fld := ⟨BX_PCAP, 0, 16⟩
abbrev BX_DIEMOD : Nat := 0x020010
abbrev BX_DIEMOD_PLD0 : Fld := ⟨BX_DIEMOD, 20, 12⟩
abbrev BX_DIEMOD_CPD : Fld := ⟨BX_DIEMOD, 10, 10⟩
abbrev BX_DIEMOD_CLD : Fld := ⟨BX_DIEMOD, 0, 10⟩
abbrev BX_DIECOM : Nat := 0x020014
abbrev BX_DIECOM_PD : Fld := ⟨BX_DIECOM, 16, 16⟩
abbrev BX_DIECOM_LD : Fld := ⟨BX_DIECOM, 0, 16⟩
abbrev BX_RES0 : Nat := 0x020018
abbrev BX_RES0_PCONT : Fld := ⟨BX_RES0, 16, 16⟩
abbrev BX_RES0_RBR : Fld := ⟨BX_RES0, 0, 16⟩
abbrev BX_RES1 : Nat := 0x02001C
abbrev BX_RES1_LEVEL : Fld := ⟨BX_RES1, 16, 16⟩
abbrev BX_RES1_EMAX : Fld := ⟨BX_RES1, 0, 16⟩
abbrev BX_SUP : Nat := 0x020020
abbrev BX_SUP_LEVEL : Fld := ⟨BX_SUP, 16, 16⟩
abbrev BX_SUP_CHOLD : Fld := ⟨BX_SUP, 0, 16⟩
abbrev BX_TICK : Nat := 0x020024
abbrev BX_TICK_REFUSED : Fld := ⟨BX_TICK, 16, 16⟩
abbrev BX_TICK_SOLD : Fld := ⟨BX_TICK, 0, 16⟩
abbrev BX_DROP : Nat := 0x020028
abbrev BX_DROP_CONSEC : Fld := ⟨BX_DROP, 30, 2⟩
abbrev BX_DROP_TASK : Fld := ⟨BX_DROP, 16, 14⟩
abbrev BX_DROP_TOTAL : Fld := ⟨BX_DROP, 0, 16⟩
abbrev BX_CLASS (k : Nat) : Nat := 0x020040 + 0x4 * k
abbrev BX_CLASS_PRIO (k : Nat) : Fld := ⟨BX_CLASS k, 16, 4⟩
abbrev BX_CLASS_MAXWAIT (k : Nat) : Fld := ⟨BX_CLASS k, 0, 16⟩
abbrev BX_WMOD0 (n : Nat) : Nat := 0x020100 + 0x20 * n
abbrev BX_WMOD0_CTH (n : Nat) : Fld := ⟨BX_WMOD0 n, 16, 16⟩
abbrev BX_WMOD0_RTH (n : Nat) : Fld := ⟨BX_WMOD0 n, 0, 16⟩
abbrev BX_WMOD1 (n : Nat) : Nat := 0x020104 + 0x20 * n
abbrev BX_WMOD1_TMAX (n : Nat) : Fld := ⟨BX_WMOD1 n, 16, 8⟩
abbrev BX_WMOD1_TUP (n : Nat) : Fld := ⟨BX_WMOD1 n, 8, 8⟩
abbrev BX_WMOD1_WAMB (n : Nat) : Fld := ⟨BX_WMOD1 n, 0, 8⟩
abbrev BX_WTEMP (n : Nat) : Nat := 0x020108 + 0x20 * n
abbrev BX_WTEMP_P (n : Nat) : Fld := ⟨BX_WTEMP n, 16, 16⟩
abbrev BX_WTEMP_TW (n : Nat) : Fld := ⟨BX_WTEMP n, 0, 16⟩
abbrev BX_BRK (n : Nat) : Nat := 0x02010C + 0x20 * n
abbrev BX_BRK_KH (n : Nat) : Fld := ⟨BX_BRK n, 16, 16⟩
abbrev BX_BRK_TAU (n : Nat) : Fld := ⟨BX_BRK n, 0, 16⟩
abbrev BX_BRKLV (n : Nat) : Nat := 0x020110 + 0x20 * n
abbrev BX_BRKLV_WARN (n : Nat) : Fld := ⟨BX_BRKLV n, 16, 16⟩
abbrev BX_BRKLV_LEVEL (n : Nat) : Fld := ⟨BX_BRKLV n, 0, 16⟩
abbrev BI_STAT : Nat := 0x050000
abbrev BI_STAT_ROTSTOP : Fld := ⟨BI_STAT, 16, 1⟩
abbrev BI_STAT_STEP : Fld := ⟨BI_STAT, 8, 8⟩
abbrev BI_STAT_PHASE : Fld := ⟨BI_STAT, 0, 2⟩
abbrev BI_EVT : Nat := 0x050004
abbrev BI_EVT_UNUSABLE : Fld := ⟨BI_EVT, 11, 1⟩
abbrev BI_EVT_VOID : Fld := ⟨BI_EVT, 10, 1⟩
abbrev BI_EVT_LNKMARG : Fld := ⟨BI_EVT, 9, 1⟩
abbrev BI_EVT_REFDIF : Fld := ⟨BI_EVT, 8, 1⟩
abbrev BI_EVT_REFFAIL : Fld := ⟨BI_EVT, 7, 1⟩
abbrev BI_EVT_TWINFAIL : Fld := ⟨BI_EVT, 6, 1⟩
abbrev BI_EVT_GATEFAIL : Fld := ⟨BI_EVT, 5, 1⟩
abbrev BI_EVT_SWFAIL : Fld := ⟨BI_EVT, 4, 1⟩
abbrev BI_EVT_CMPFAIL : Fld := ⟨BI_EVT, 3, 1⟩
abbrev BI_EVT_ECCROW : Fld := ⟨BI_EVT, 2, 1⟩
abbrev BI_EVT_MEMFAIL : Fld := ⟨BI_EVT, 1, 1⟩
abbrev BI_EVT_SODFAIL : Fld := ⟨BI_EVT, 0, 1⟩
abbrev BI_UNUS : Nat := 0x050008
abbrev BI_UNUS_REF : Fld := ⟨BI_UNUS, 28, 1⟩
abbrev BI_UNUS_FB : Fld := ⟨BI_UNUS, 24, 4⟩
abbrev BI_UNUS_CAN : Fld := ⟨BI_UNUS, 22, 2⟩
abbrev BI_UNUS_VR : Fld := ⟨BI_UNUS, 20, 2⟩
abbrev BI_UNUS_WING : Fld := ⟨BI_UNUS, 18, 2⟩
abbrev BI_UNUS_BQSPARE : Fld := ⟨BI_UNUS, 17, 1⟩
abbrev BI_UNUS_BANK : Fld := ⟨BI_UNUS, 0, 17⟩
abbrev BI_CMPST : Nat := 0x05000C
abbrev BI_CMPST_SIFAIL : Fld := ⟨BI_CMPST, 16, 12⟩
abbrev BI_CMPST_INROLE : Fld := ⟨BI_CMPST, 0, 12⟩
abbrev BI_SWFAIL : Nat := 0x050010
abbrev BI_SWFAIL_SW : Fld := ⟨BI_SWFAIL, 0, 24⟩
abbrev BI_TWIN : Nat := 0x050014
abbrev BI_TWIN_FAIL : Fld := ⟨BI_TWIN, 0, 12⟩
abbrev BI_MEMRES : Nat := 0x050018
abbrev BI_MEMRES_VALID : Fld := ⟨BI_MEMRES, 31, 1⟩
abbrev BI_MEMRES_BANK : Fld := ⟨BI_MEMRES, 26, 5⟩
abbrev BI_MEMRES_ROW : Fld := ⟨BI_MEMRES, 15, 11⟩
abbrev BI_MEMRES_WORD : Fld := ⟨BI_MEMRES, 10, 5⟩
abbrev BI_MEMRES_ECC : Fld := ⟨BI_MEMRES, 9, 1⟩
abbrev BI_MEMRES_BIT : Fld := ⟨BI_MEMRES, 0, 6⟩
abbrev BI_MEMCNT : Nat := 0x05001C
abbrev BI_MEMCNT_FAILROWS : Fld := ⟨BI_MEMCNT, 16, 16⟩
abbrev BI_MEMCNT_REPAIRED : Fld := ⟨BI_MEMCNT, 8, 8⟩
abbrev BI_MEMCNT_PENDING : Fld := ⟨BI_MEMCNT, 0, 8⟩
abbrev BI_REFFIG : Nat := 0x050020
abbrev BI_REFFIG_MED : Fld := ⟨BI_REFFIG, 16, 16⟩
abbrev BI_REFFIG_OWN : Fld := ⟨BI_REFFIG, 0, 16⟩
abbrev BI_REFCFG : Nat := 0x050024
abbrev BI_REFCFG_TOL : Fld := ⟨BI_REFCFG, 0, 8⟩
abbrev BI_ROT : Nat := 0x050028
abbrev BI_ROT_MEMPER : Fld := ⟨BI_ROT, 16, 16⟩
abbrev BI_ROT_CMPPER : Fld := ⟨BI_ROT, 0, 16⟩
abbrev BI_ROTPOS : Nat := 0x05002C
abbrev BI_ROTPOS_SWEEPS : Fld := ⟨BI_ROTPOS, 16, 16⟩
abbrev BI_ROTPOS_NEXTCMP : Fld := ⟨BI_ROTPOS, 8, 5⟩
abbrev BI_ROTPOS_NEXTBANK : Fld := ⟨BI_ROTPOS, 0, 5⟩
abbrev BI_LNK : Nat := 0x050030
abbrev BI_LNK_ERR2 : Fld := ⟨BI_LNK, 16, 16⟩
abbrev BI_LNK_ERR1 : Fld := ⟨BI_LNK, 0, 16⟩
abbrev BI_CMD : Nat := 0x050034
abbrev BI_CMD_BLK : Fld := ⟨BI_CMD, 8, 8⟩
abbrev BI_CMD_RERUN : Fld := ⟨BI_CMD, 0, 1⟩
abbrev BI_SODT : Nat := 0x050038
abbrev BI_SODT_PEAK : Fld := ⟨BI_SODT, 16, 16⟩
abbrev BI_SODT_TIME : Fld := ⟨BI_SODT, 0, 16⟩
abbrev VR_CFG : Nat := 0x0A0000
abbrev VR_CFG_NODE : Fld := ⟨VR_CFG, 16, 10⟩
abbrev VR_CFG_LVLMAX : Fld := ⟨VR_CFG, 8, 2⟩
abbrev VR_CFG_ALLOW100 : Fld := ⟨VR_CFG, 2, 1⟩
abbrev VR_CFG_CSTART : Fld := ⟨VR_CFG, 1, 1⟩
abbrev VR_CFG_EN : Fld := ⟨VR_CFG, 0, 1⟩
abbrev VR_STAT : Nat := 0x0A0004
abbrev VR_STAT_STATE : Fld := ⟨VR_STAT, 28, 4⟩
abbrev VR_STAT_STARTER : Fld := ⟨VR_STAT, 18, 10⟩
abbrev VR_STAT_SHACT : Fld := ⟨VR_STAT, 15, 3⟩
abbrev VR_STAT_SHPEND : Fld := ⟨VR_STAT, 12, 3⟩
abbrev VR_STAT_PEND : Fld := ⟨VR_STAT, 11, 1⟩
abbrev VR_STAT_SPLIT : Fld := ⟨VR_STAT, 10, 1⟩
abbrev VR_STAT_HEALED : Fld := ⟨VR_STAT, 9, 1⟩
abbrev VR_STAT_RESYNC : Fld := ⟨VR_STAT, 8, 1⟩
abbrev VR_STAT_SILENT : Fld := ⟨VR_STAT, 7, 1⟩
abbrev VR_STAT_MEMB : Fld := ⟨VR_STAT, 0, 7⟩
abbrev VR_EVT : Nat := 0x0A0008
abbrev VR_EVT_DELAYHI : Fld := ⟨VR_EVT, 15, 1⟩
abbrev VR_EVT_RATELOW : Fld := ⟨VR_EVT, 14, 1⟩
abbrev VR_EVT_MISWIRE : Fld := ⟨VR_EVT, 13, 1⟩
abbrev VR_EVT_DUPID : Fld := ⟨VR_EVT, 12, 1⟩
abbrev VR_EVT_STARTLOST : Fld := ⟨VR_EVT, 11, 1⟩
abbrev VR_EVT_RINGUP : Fld := ⟨VR_EVT, 10, 1⟩
abbrev VR_EVT_RESTORE : Fld := ⟨VR_EVT, 9, 1⟩
abbrev VR_EVT_HEALDONE : Fld := ⟨VR_EVT, 8, 1⟩
abbrev VR_EVT_BREAK : Fld := ⟨VR_EVT, 7, 1⟩
abbrev VR_EVT_SHADOPT : Fld := ⟨VR_EVT, 6, 1⟩
abbrev VR_EVT_SHCANC : Fld := ⟨VR_EVT, 5, 1⟩
abbrev VR_EVT_SHDONE : Fld := ⟨VR_EVT, 4, 1⟩
abbrev VR_EVT_RESYNC : Fld := ⟨VR_EVT, 3, 1⟩
abbrev VR_EVT_SILENT : Fld := ⟨VR_EVT, 2, 1⟩
abbrev VR_EVT_TXGUARD : Fld := ⟨VR_EVT, 1, 1⟩
abbrev VR_EVT_PHYFAIL : Fld := ⟨VR_EVT, 0, 1⟩
abbrev VR_CYC : Nat := 0x0A000C
abbrev VR_CYC_LEN : Fld := ⟨VR_CYC, 0, 8⟩
abbrev VR_CYCNUM : Nat := 0x0A0010
abbrev VR_CYCNUM_NUM : Fld := ⟨VR_CYCNUM, 0, 32⟩
abbrev VR_CS : Nat := 0x0A0014
abbrev VR_CS_BSTEP : Fld := ⟨VR_CS, 8, 8⟩
abbrev VR_CS_LISTEN : Fld := ⟨VR_CS, 0, 8⟩
abbrev VR_DRIFT : Nat := 0x0A0018
abbrev VR_DRIFT_MAX : Fld := ⟨VR_DRIFT, 16, 16⟩
abbrev VR_DRIFT_D : Fld := ⟨VR_DRIFT, 0, 16⟩
abbrev VR_PSTATW : Nat := 0x0A0020
abbrev VR_PSTATW_LINK : Fld := ⟨VR_PSTATW, 30, 2⟩
abbrev VR_PSTATW_G1000 : Fld := ⟨VR_PSTATW, 29, 1⟩
abbrev VR_PSTATW_LVL : Fld := ⟨VR_PSTATW, 27, 2⟩
abbrev VR_PSTATW_LOOP : Fld := ⟨VR_PSTATW, 26, 1⟩
abbrev VR_PSTATW_NBR : Fld := ⟨VR_PSTATW, 16, 10⟩
abbrev VR_PSTATW_DELAY : Fld := ⟨VR_PSTATW, 0, 16⟩
abbrev VR_PSTATE : Nat := 0x0A0024
abbrev VR_PSTATE_LINK : Fld := ⟨VR_PSTATE, 30, 2⟩
abbrev VR_PSTATE_G1000 : Fld := ⟨VR_PSTATE, 29, 1⟩
abbrev VR_PSTATE_LVL : Fld := ⟨VR_PSTATE, 27, 2⟩
abbrev VR_PSTATE_LOOP : Fld := ⟨VR_PSTATE, 26, 1⟩
abbrev VR_PSTATE_NBR : Fld := ⟨VR_PSTATE, 16, 10⟩
abbrev VR_PSTATE_DELAY : Fld := ⟨VR_PSTATE, 0, 16⟩
abbrev VR_PCNT0W : Nat := 0x0A0028
abbrev VR_PCNT0W_CLEAN : Fld := ⟨VR_PCNT0W, 16, 16⟩
abbrev VR_PCNT0W_FCS : Fld := ⟨VR_PCNT0W, 8, 8⟩
abbrev VR_PCNT0W_WIN : Fld := ⟨VR_PCNT0W, 0, 8⟩
abbrev VR_PCNT0E : Nat := 0x0A002C
abbrev VR_PCNT0E_CLEAN : Fld := ⟨VR_PCNT0E, 16, 16⟩
abbrev VR_PCNT0E_FCS : Fld := ⟨VR_PCNT0E, 8, 8⟩
abbrev VR_PCNT0E_WIN : Fld := ⟨VR_PCNT0E, 0, 8⟩
abbrev VR_PCNT1W : Nat := 0x0A0030
abbrev VR_PCNT1W_EMPTY : Fld := ⟨VR_PCNT1W, 16, 16⟩
abbrev VR_PCNT1W_GUARDCUT : Fld := ⟨VR_PCNT1W, 8, 8⟩
abbrev VR_PCNT1W_CUEERR : Fld := ⟨VR_PCNT1W, 0, 8⟩
abbrev VR_PCNT1E : Nat := 0x0A0034
abbrev VR_PCNT1E_EMPTY : Fld := ⟨VR_PCNT1E, 16, 16⟩
abbrev VR_PCNT1E_GUARDCUT : Fld := ⟨VR_PCNT1E, 8, 8⟩
abbrev VR_PCNT1E_CUEERR : Fld := ⟨VR_PCNT1E, 0, 8⟩
abbrev VR_NCNT : Nat := 0x0A0038
abbrev VR_NCNT_SILCYC : Fld := ⟨VR_NCNT, 16, 16⟩
abbrev VR_NCNT_TXGUARD : Fld := ⟨VR_NCNT, 0, 16⟩
abbrev VR_ETYPE : Nat := 0x0A003C
abbrev VR_ETYPE_ETYPE : Fld := ⟨VR_ETYPE, 0, 16⟩
abbrev VR_PHYID : Nat := 0x0A0040
abbrev VR_PHYID_PHYID : Fld := ⟨VR_PHYID, 0, 32⟩
abbrev VR_SHIDX : Nat := 0x0A0044
abbrev VR_SHIDX_SHEET : Fld := ⟨VR_SHIDX, 16, 3⟩
abbrev VR_SHIDX_HDR : Fld := ⟨VR_SHIDX, 15, 1⟩
abbrev VR_SHIDX_CUE : Fld := ⟨VR_SHIDX, 0, 10⟩
abbrev VR_SHDAT0 : Nat := 0x0A0048
abbrev VR_SHDAT0_HI : Fld := ⟨VR_SHDAT0, 0, 32⟩
abbrev VR_SHDAT1 : Nat := 0x0A004C
abbrev VR_SHDAT1_LO : Fld := ⟨VR_SHDAT1, 0, 32⟩
abbrev VR_CMD : Nat := 0x0A0050
abbrev VR_CMD_REINT : Fld := ⟨VR_CMD, 4, 1⟩
abbrev VR_CMD_SHEET : Fld := ⟨VR_CMD, 1, 3⟩
abbrev VR_CMD_SHANN : Fld := ⟨VR_CMD, 0, 1⟩
abbrev VR_MISS (k : Nat) : Nat := 0x0A0100 + 0x4 * k
abbrev VR_MISS_MISS (k : Nat) : Fld := ⟨VR_MISS k, 0, 32⟩
abbrev TM_STAT : Nat := 0x0B0000
abbrev TM_STAT_STEPPEND : Fld := ⟨TM_STAT, 5, 1⟩
abbrev TM_STAT_ROLE : Fld := ⟨TM_STAT, 4, 1⟩
abbrev TM_STAT_STATE : Fld := ⟨TM_STAT, 0, 4⟩
abbrev TM_EVT : Nat := 0x0B0004
abbrev TM_EVT_FAR : Fld := ⟨TM_EVT, 6, 1⟩
abbrev TM_EVT_GMCHG : Fld := ⟨TM_EVT, 5, 1⟩
abbrev TM_EVT_LOSS : Fld := ⟨TM_EVT, 4, 1⟩
abbrev TM_EVT_UNLOCK : Fld := ⟨TM_EVT, 3, 1⟩
abbrev TM_EVT_LOCK : Fld := ⟨TM_EVT, 2, 1⟩
abbrev TM_EVT_SET : Fld := ⟨TM_EVT, 1, 1⟩
abbrev TM_EVT_STEPREF : Fld := ⟨TM_EVT, 0, 1⟩
abbrev TM_CFG : Nat := 0x0B0008
abbrev TM_CFG_LOSS : Fld := ⟨TM_CFG, 8, 6⟩
abbrev TM_CFG_ROLE : Fld := ⟨TM_CFG, 0, 1⟩
abbrev TM_JUMP : Nat := 0x0B000C
abbrev TM_JUMP_THR : Fld := ⟨TM_JUMP, 0, 11⟩
abbrev TM_INCR : Nat := 0x0B0010
abbrev TM_INCR_INCR : Fld := ⟨TM_INCR, 0, 32⟩
abbrev TM_APPL : Nat := 0x0B0014
abbrev TM_APPL_APPL : Fld := ⟨TM_APPL, 0, 32⟩
abbrev TM_STEP : Nat := 0x0B0018
abbrev TM_STEP_STEP : Fld := ⟨TM_STEP, 0, 32⟩
abbrev TM_NS : Nat := 0x0B001C
abbrev TM_NS_NS : Fld := ⟨TM_NS, 0, 30⟩
abbrev TM_SECLO : Nat := 0x0B0020
abbrev TM_SECLO_SEC : Fld := ⟨TM_SECLO, 0, 32⟩
abbrev TM_SECHI : Nat := 0x0B0024
abbrev TM_SECHI_SEC : Fld := ⟨TM_SECHI, 0, 32⟩
abbrev TM_FRAC : Nat := 0x0B0028
abbrev TM_FRAC_FRAC : Fld := ⟨TM_FRAC, 0, 16⟩
abbrev TM_OFS : Nat := 0x0B002C
abbrev TM_OFS_O : Fld := ⟨TM_OFS, 0, 32⟩
abbrev TM_GMLO : Nat := 0x0B0030
abbrev TM_GMLO_GM : Fld := ⟨TM_GMLO, 0, 32⟩
abbrev TM_GMHI : Nat := 0x0B0034
abbrev TM_GMHI_GM : Fld := ⟨TM_GMHI, 0, 32⟩
abbrev TM_CNT : Nat := 0x0B0038
abbrev TM_CNT_SYNC : Fld := ⟨TM_CNT, 16, 16⟩
abbrev TM_CNT_FOREIGN : Fld := ⟨TM_CNT, 0, 16⟩
abbrev TM_FARLIM : Nat := 0x0B003C
abbrev TM_FARLIM_LIM : Fld := ⟨TM_FARLIM, 0, 20⟩
abbrev CN_CFG (c : Nat) : Nat := 0x0C0000 + 0x2000 * c
abbrev CN_CFG_ON (c : Nat) : Fld := ⟨CN_CFG c, 15, 1⟩
abbrev CN_CFG_OPMODE (c : Nat) : Fld := ⟨CN_CFG c, 10, 2⟩
abbrev CN_CFG_SSPEN (c : Nat) : Fld := ⟨CN_CFG c, 3, 1⟩
abbrev CN_CFG_EXCINT (c : Nat) : Fld := ⟨CN_CFG c, 2, 1⟩
abbrev CN_CFG_RATESW (c : Nat) : Fld := ⟨CN_CFG c, 1, 1⟩
abbrev CN_CFG_FD (c : Nat) : Fld := ⟨CN_CFG c, 0, 1⟩
abbrev CN_NOMBT (c : Nat) : Nat := 0x0C0004 + 0x2000 * c
abbrev CN_NOMBT_BEFORE (c : Nat) : Fld := ⟨CN_NOMBT c, 23, 9⟩
abbrev CN_NOMBT_AFTER (c : Nat) : Fld := ⟨CN_NOMBT c, 15, 8⟩
abbrev CN_NOMBT_SJW (c : Nat) : Fld := ⟨CN_NOMBT c, 7, 8⟩
abbrev CN_NOMBT_PRESC (c : Nat) : Fld := ⟨CN_NOMBT c, 0, 6⟩
abbrev CN_DATBT (c : Nat) : Nat := 0x0C0008 + 0x2000 * c
abbrev CN_DATBT_BEFORE (c : Nat) : Fld := ⟨CN_DATBT c, 23, 9⟩
abbrev CN_DATBT_AFTER (c : Nat) : Fld := ⟨CN_DATBT c, 15, 8⟩
abbrev CN_DATBT_SJW (c : Nat) : Fld := ⟨CN_DATBT c, 7, 8⟩
abbrev CN_DATBT_PRESC (c : Nat) : Fld := ⟨CN_DATBT c, 0, 6⟩
abbrev CN_SSP (c : Nat) : Nat := 0x0C000C + 0x2000 * c
abbrev CN_SSP_SSPOFS (c : Nat) : Fld := ⟨CN_SSP c, 0, 7⟩
abbrev CN_STAT (c : Nat) : Nat := 0x0C0010 + 0x2000 * c
abbrev CN_STAT_LERR (c : Nat) : Fld := ⟨CN_STAT c, 5, 3⟩
abbrev CN_STAT_IDLE (c : Nat) : Fld := ⟨CN_STAT c, 4, 1⟩
abbrev CN_STAT_SLOT (c : Nat) : Fld := ⟨CN_STAT c, 3, 1⟩
abbrev CN_STAT_ALONE (c : Nat) : Fld := ⟨CN_STAT c, 2, 1⟩
abbrev CN_STAT_STATE (c : Nat) : Fld := ⟨CN_STAT c, 0, 2⟩
abbrev CN_ERR (c : Nat) : Nat := 0x0C0014 + 0x2000 * c
abbrev CN_ERR_TEC (c : Nat) : Fld := ⟨CN_ERR c, 16, 16⟩
abbrev CN_ERR_REC (c : Nat) : Fld := ⟨CN_ERR c, 0, 16⟩
abbrev CN_EVT (c : Nat) : Nat := 0x0C0018 + 0x2000 * c
abbrev CN_EVT_RXREM (c : Nat) : Fld := ⟨CN_EVT c, 8, 1⟩
abbrev CN_EVT_RXREPL (c : Nat) : Fld := ⟨CN_EVT c, 7, 1⟩
abbrev CN_EVT_MISSED (c : Nat) : Fld := ⟨CN_EVT c, 6, 1⟩
abbrev CN_EVT_RECOVERED (c : Nat) : Fld := ⟨CN_EVT c, 5, 1⟩
abbrev CN_EVT_BUSOFF (c : Nat) : Fld := ⟨CN_EVT c, 4, 1⟩
abbrev CN_EVT_PASSIVE (c : Nat) : Fld := ⟨CN_EVT c, 3, 1⟩
abbrev CN_EVT_ALONECLR (c : Nat) : Fld := ⟨CN_EVT c, 2, 1⟩
abbrev CN_EVT_ALONE (c : Nat) : Fld := ⟨CN_EVT c, 1, 1⟩
abbrev CN_EVT_UNACK (c : Nat) : Fld := ⟨CN_EVT c, 0, 1⟩
abbrev CN_CNT0 (c : Nat) : Nat := 0x0C001C + 0x2000 * c
abbrev CN_CNT0_SENT (c : Nat) : Fld := ⟨CN_CNT0 c, 16, 16⟩
abbrev CN_CNT0_UNACK (c : Nat) : Fld := ⟨CN_CNT0 c, 8, 8⟩
abbrev CN_CNT0_RUN (c : Nat) : Fld := ⟨CN_CNT0 c, 0, 8⟩
abbrev CN_CNT1 (c : Nat) : Nat := 0x0C0020 + 0x2000 * c
abbrev CN_CNT1_MISSED (c : Nat) : Fld := ⟨CN_CNT1 c, 24, 8⟩
abbrev CN_CNT1_ARBLOST (c : Nat) : Fld := ⟨CN_CNT1 c, 16, 8⟩
abbrev CN_CNT1_TXERR (c : Nat) : Fld := ⟨CN_CNT1 c, 8, 8⟩
abbrev CN_CNT1_NOMATCH (c : Nat) : Fld := ⟨CN_CNT1 c, 0, 8⟩
abbrev CN_CMD (c : Nat) : Nat := 0x0C0024 + 0x2000 * c
abbrev CN_CMD_RECOVER (c : Nat) : Fld := ⟨CN_CMD c, 0, 1⟩
abbrev CN_BOREC (c : Nat) : Nat := 0x0C0028 + 0x2000 * c
abbrev CN_BOREC_BOCNT (c : Nat) : Fld := ⟨CN_BOREC c, 24, 8⟩
abbrev CN_BOREC_MAX (c : Nat) : Fld := ⟨CN_BOREC c, 16, 8⟩
abbrev CN_BOREC_DELAY (c : Nat) : Fld := ⟨CN_BOREC c, 0, 16⟩
abbrev CN_SCHCFG (c : Nat) : Nat := 0x0C002C + 0x2000 * c
abbrev CN_SCHCFG_WIN (c : Nat) : Fld := ⟨CN_SCHCFG c, 0, 16⟩
abbrev CN_SCH (c : Nat) (k : Nat) : Nat := 0x0C0100 + 0x2000 * c + 0x4 * k
abbrev CN_SCH_START (c : Nat) (k : Nat) : Fld := ⟨CN_SCH c k, 18, 14⟩
abbrev CN_SCH_BUF (c : Nat) (k : Nat) : Fld := ⟨CN_SCH c k, 12, 6⟩
abbrev CN_SCH_REP (c : Nat) (k : Nat) : Fld := ⟨CN_SCH c k, 9, 3⟩
abbrev CN_SCH_BASE (c : Nat) (k : Nat) : Fld := ⟨CN_SCH c k, 3, 6⟩
abbrev CN_SCH_KIND (c : Nat) (k : Nat) : Fld := ⟨CN_SCH c k, 1, 2⟩
abbrev CN_BID (c : Nat) (b : Nat) : Nat := 0x0C0800 + 0x2000 * c + 0x50 * b
abbrev CN_BID_ID (c : Nat) (b : Nat) : Fld := ⟨CN_BID c b, 0, 29⟩
abbrev CN_BMSK (c : Nat) (b : Nat) : Nat := 0x0C0804 + 0x2000 * c + 0x50 * b
abbrev CN_BMSK_IDEM (c : Nat) (b : Nat) : Fld := ⟨CN_BMSK c b, 31, 1⟩
abbrev CN_BMSK_FDFM (c : Nat) (b : Nat) : Fld := ⟨CN_BMSK c b, 30, 1⟩
abbrev CN_BMSK_MASK (c : Nat) (b : Nat) : Fld := ⟨CN_BMSK c b, 0, 29⟩
abbrev CN_BCTL (c : Nat) (b : Nat) : Nat := 0x0C0808 + 0x2000 * c + 0x50 * b
abbrev CN_BCTL_OWN (c : Nat) (b : Nat) : Fld := ⟨CN_BCTL c b, 30, 2⟩
abbrev CN_BCTL_TXRES (c : Nat) (b : Nat) : Fld := ⟨CN_BCTL c b, 27, 3⟩
abbrev CN_BCTL_READY (c : Nat) (b : Nat) : Fld := ⟨CN_BCTL c b, 26, 1⟩
abbrev CN_BCTL_FDF (c : Nat) (b : Nat) : Fld := ⟨CN_BCTL c b, 25, 1⟩
abbrev CN_BCTL_BRS (c : Nat) (b : Nat) : Fld := ⟨CN_BCTL c b, 24, 1⟩
abbrev CN_BCTL_IDE (c : Nat) (b : Nat) : Fld := ⟨CN_BCTL c b, 23, 1⟩
abbrev CN_BCTL_ESI (c : Nat) (b : Nat) : Fld := ⟨CN_BCTL c b, 22, 1⟩
abbrev CN_BCTL_DLC (c : Nat) (b : Nat) : Fld := ⟨CN_BCTL c b, 18, 4⟩
abbrev CN_BCTL_SEEN (c : Nat) (b : Nat) : Fld := ⟨CN_BCTL c b, 10, 4⟩
abbrev CN_BCTL_SSEQ (c : Nat) (b : Nat) : Fld := ⟨CN_BCTL c b, 6, 4⟩
abbrev CN_BCTL_REPL (c : Nat) (b : Nat) : Fld := ⟨CN_BCTL c b, 1, 1⟩
abbrev CN_BCTL_FRESH (c : Nat) (b : Nat) : Fld := ⟨CN_BCTL c b, 0, 1⟩
abbrev CN_BSTM (c : Nat) (b : Nat) : Nat := 0x0C080C + 0x2000 * c + 0x50 * b
abbrev CN_BSTM_NS (c : Nat) (b : Nat) : Fld := ⟨CN_BSTM c b, 0, 30⟩
abbrev CN_BDAT (c : Nat) (b : Nat) (w : Nat) : Nat := 0x0C0810 + 0x2000 * c + 0x50 * b + 0x4 * w
abbrev CN_BDAT_DATA (c : Nat) (b : Nat) (w : Nat) : Fld := ⟨CN_BDAT c b w, 0, 32⟩
abbrev SG_STAT : Nat := 0x0D0000
abbrev SG_STAT_READY : Fld := ⟨SG_STAT, 16, 1⟩
abbrev SG_STAT_HOTN : Fld := ⟨SG_STAT, 0, 15⟩
abbrev SG_EVT : Nat := 0x0D0004
abbrev SG_EVT_SEQGAP : Fld := ⟨SG_EVT, 6, 1⟩
abbrev SG_EVT_IMPLAUS : Fld := ⟨SG_EVT, 5, 1⟩
abbrev SG_EVT_SEALLOST : Fld := ⟨SG_EVT, 4, 1⟩
abbrev SG_EVT_SEALDEG : Fld := ⟨SG_EVT, 3, 1⟩
abbrev SG_EVT_SEALDIF : Fld := ⟨SG_EVT, 2, 1⟩
abbrev SG_EVT_FOREIGN : Fld := ⟨SG_EVT, 1, 1⟩
abbrev SG_EVT_RXOVF : Fld := ⟨SG_EVT, 0, 1⟩
abbrev SG_QSTAT : Nat := 0x0D0008
abbrev SG_QSTAT_RXMAX : Fld := ⟨SG_QSTAT, 16, 16⟩
abbrev SG_QSTAT_RXFILL : Fld := ⟨SG_QSTAT, 0, 16⟩
abbrev SG_CNT0 : Nat := 0x0D000C
abbrev SG_CNT0_RXOVF : Fld := ⟨SG_CNT0, 16, 16⟩
abbrev SG_CNT0_FOREIGN : Fld := ⟨SG_CNT0, 0, 16⟩
abbrev SG_CNT1 : Nat := 0x0D0010
abbrev SG_CNT1_SEALDIF : Fld := ⟨SG_CNT1, 24, 8⟩
abbrev SG_CNT1_SEALLOST : Fld := ⟨SG_CNT1, 16, 8⟩
abbrev SG_CNT1_REPLAY : Fld := ⟨SG_CNT1, 8, 8⟩
abbrev SG_CNT1_SEQGAP : Fld := ⟨SG_CNT1, 0, 8⟩
abbrev SG_CNT2 : Nat := 0x0D0014
abbrev SG_CNT2_SEALDEG : Fld := ⟨SG_CNT2, 16, 16⟩
abbrev SG_CNT2_IMPLAUS : Fld := ⟨SG_CNT2, 0, 16⟩
abbrev SG_LASTS : Nat := 0x0D0018
abbrev SG_LASTS_CAUSE : Fld := ⟨SG_LASTS, 28, 4⟩
abbrev SG_LASTS_HANDLE : Fld := ⟨SG_LASTS, 0, 20⟩
abbrev SG_HSEL (s : Nat) : Nat := 0x0D1000 + 0x100 * s
abbrev SG_HSEL_HANDLE (s : Nat) : Fld := ⟨SG_HSEL s, 0, 20⟩
abbrev SG_WST (s : Nat) : Nat := 0x0D1004 + 0x100 * s
abbrev SG_WST_DONE (s : Nat) : Fld := ⟨SG_WST s, 31, 1⟩
abbrev SG_WST_STALE (s : Nat) : Fld := ⟨SG_WST s, 30, 1⟩
abbrev SG_WST_REFUSED (s : Nat) : Fld := ⟨SG_WST s, 29, 1⟩
abbrev SG_LAT (s : Nat) (w : Nat) : Nat := 0x0D1010 + 0x100 * s + 0x4 * w
abbrev SG_LAT_LAT (s : Nat) (w : Nat) : Fld := ⟨SG_LAT s w, 0, 32⟩
abbrev SG_WDAT (s : Nat) (w : Nat) : Nat := 0x0D1050 + 0x100 * s + 0x4 * w
abbrev SG_WDAT_WDAT (s : Nat) (w : Nat) : Fld := ⟨SG_WDAT s w, 0, 32⟩
abbrev SG_WCMD (s : Nat) : Nat := 0x0D1070 + 0x100 * s
abbrev SG_WCMD_COMMIT (s : Nat) : Fld := ⟨SG_WCMD s, 0, 1⟩
abbrev HS_SPOT : Nat := 0x120000
abbrev HS_SPOT_HELD : Fld := ⟨HS_SPOT, 31, 1⟩
abbrev HS_SPOT_HOLDER : Fld := ⟨HS_SPOT, 28, 3⟩
abbrev HS_SPOT_HRANK : Fld := ⟨HS_SPOT, 25, 3⟩
abbrev HS_SPOT_RESV : Fld := ⟨HS_SPOT, 24, 1⟩
abbrev HS_SPOT_RSEAT : Fld := ⟨HS_SPOT, 21, 3⟩
abbrev HS_SPOT_DEFACT : Fld := ⟨HS_SPOT, 20, 1⟩
abbrev HS_SPOT_FROZEN : Fld := ⟨HS_SPOT, 19, 1⟩
abbrev HS_SPOT_GAPC : Fld := ⟨HS_SPOT, 17, 2⟩
abbrev HS_SPOTEND_LO : Nat := 0x120004
abbrev HS_SPOTEND_LO_END : Fld := ⟨HS_SPOTEND_LO, 0, 32⟩
abbrev HS_SPOTEND_HI : Nat := 0x120008
abbrev HS_SPOTEND_HI_END : Fld := ⟨HS_SPOTEND_HI, 0, 32⟩
abbrev HS_SPOTCFG : Nat := 0x12000C
abbrev HS_SPOTCFG_DEFAULT : Fld := ⟨HS_SPOTCFG, 16, 1⟩
abbrev HS_SPOTCFG_LEASE : Fld := ⟨HS_SPOTCFG, 0, 16⟩
abbrev HS_EVT : Nat := 0x120010
abbrev HS_EVT_OVF : Fld := ⟨HS_EVT, 10, 1⟩
abbrev HS_EVT_FRAME : Fld := ⟨HS_EVT, 9, 1⟩
abbrev HS_EVT_REPLAY : Fld := ⟨HS_EVT, 8, 1⟩
abbrev HS_EVT_AUTHFAIL : Fld := ⟨HS_EVT, 7, 1⟩
abbrev HS_EVT_SESCLOSE : Fld := ⟨HS_EVT, 6, 1⟩
abbrev HS_EVT_SESOPEN : Fld := ⟨HS_EVT, 5, 1⟩
abbrev HS_EVT_STOPCMD : Fld := ⟨HS_EVT, 4, 1⟩
abbrev HS_EVT_RELEASE : Fld := ⟨HS_EVT, 3, 1⟩
abbrev HS_EVT_PREEMPT : Fld := ⟨HS_EVT, 2, 1⟩
abbrev HS_EVT_EXPIRE : Fld := ⟨HS_EVT, 1, 1⟩
abbrev HS_EVT_GRANT : Fld := ⟨HS_EVT, 0, 1⟩
abbrev HS_PORT : Nat := 0x120014
abbrev HS_PORT_EN : Fld := ⟨HS_PORT, 31, 1⟩
abbrev HS_PORT_RQ : Fld := ⟨HS_PORT, 16, 4⟩
abbrev HS_PORT_ATN : Fld := ⟨HS_PORT, 8, 1⟩
abbrev HS_PORT_SEAT : Fld := ⟨HS_PORT, 0, 3⟩
abbrev HS_CNT0 : Nat := 0x120018
abbrev HS_CNT0_RXOK : Fld := ⟨HS_CNT0, 16, 16⟩
abbrev HS_CNT0_CRC : Fld := ⟨HS_CNT0, 0, 16⟩
abbrev HS_CNT1 : Nat := 0x12001C
abbrev HS_CNT1_AUTH : Fld := ⟨HS_CNT1, 24, 8⟩
abbrev HS_CNT1_REPLAY : Fld := ⟨HS_CNT1, 16, 8⟩
abbrev HS_CNT1_DUP : Fld := ⟨HS_CNT1, 8, 8⟩
abbrev HS_CNT1_BUSY : Fld := ⟨HS_CNT1, 0, 8⟩
abbrev HS_CNT2 : Nat := 0x120020
abbrev HS_CNT2_FRAME : Fld := ⟨HS_CNT2, 16, 16⟩
abbrev HS_CNT2_OVF : Fld := ⟨HS_CNT2, 0, 16⟩
abbrev HS_CNT3 : Nat := 0x120024
abbrev HS_CNT3_EXEC : Fld := ⟨HS_CNT3, 16, 16⟩
abbrev HS_CNT3_REFUSED : Fld := ⟨HS_CNT3, 0, 16⟩
abbrev HS_SCFG (s : Nat) : Nat := 0x120100 + 0x20 * s
abbrev HS_SCFG_DEF (s : Nat) : Fld := ⟨HS_SCFG s, 31, 1⟩
abbrev HS_SCFG_RANK (s : Nat) : Fld := ⟨HS_SCFG s, 24, 3⟩
abbrev HS_SCFG_MAXCLS (s : Nat) : Fld := ⟨HS_SCFG s, 20, 2⟩
abbrev HS_SCFG_NODE (s : Nat) : Fld := ⟨HS_SCFG s, 0, 10⟩
abbrev HS_SCAN (s : Nat) : Nat := 0x120104 + 0x20 * s
abbrev HS_SCAN_EN (s : Nat) : Fld := ⟨HS_SCAN s, 31, 1⟩
abbrev HS_SCAN_CTRL (s : Nat) : Fld := ⟨HS_SCAN s, 30, 1⟩
abbrev HS_SCAN_RXBUF (s : Nat) : Fld := ⟨HS_SCAN s, 24, 6⟩
abbrev HS_SCAN_TXBUF (s : Nat) : Fld := ⟨HS_SCAN s, 16, 6⟩
abbrev HS_SKEYLO (s : Nat) : Nat := 0x120108 + 0x20 * s
abbrev HS_SKEYLO_KEYID (s : Nat) : Fld := ⟨HS_SKEYLO s, 0, 32⟩
abbrev HS_SKEYHI (s : Nat) : Nat := 0x12010C + 0x20 * s
abbrev HS_SKEYHI_KEYID (s : Nat) : Fld := ⟨HS_SKEYHI s, 0, 32⟩
abbrev HS_SSES (s : Nat) : Nat := 0x120110 + 0x20 * s
abbrev HS_SSES_SESID (s : Nat) : Fld := ⟨HS_SSES s, 0, 32⟩
abbrev HS_SSEQ (s : Nat) : Nat := 0x120114 + 0x20 * s
abbrev HS_SSEQ_OPEN (s : Nat) : Fld := ⟨HS_SSEQ s, 31, 1⟩
abbrev HS_SSEQ_EXH (s : Nat) : Fld := ⟨HS_SSEQ s, 30, 1⟩
abbrev HS_SSEQ_LASTSEQ (s : Nat) : Fld := ⟨HS_SSEQ s, 0, 16⟩
abbrev HS_SLAST (s : Nat) : Nat := 0x120118 + 0x20 * s
abbrev HS_SLAST_CLASS (s : Nat) : Fld := ⟨HS_SLAST s, 24, 8⟩
abbrev HS_SLAST_DETAIL (s : Nat) : Fld := ⟨HS_SLAST s, 16, 8⟩
abbrev HS_SLAST_OPCODE (s : Nat) : Fld := ⟨HS_SLAST s, 0, 16⟩
abbrev CB_STAT : Nat := 0x0E0000
abbrev CB_STAT_LEAD : Fld := ⟨CB_STAT, 16, 1⟩
abbrev CB_STAT_NPEND : Fld := ⟨CB_STAT, 0, 9⟩
abbrev CB_EVT : Nat := 0x0E0004
abbrev CB_EVT_TAKEOVER : Fld := ⟨CB_EVT, 2, 1⟩
abbrev CB_EVT_BADCOMPL : Fld := ⟨CB_EVT, 1, 1⟩
abbrev CB_EVT_NOTLEAD : Fld := ⟨CB_EVT, 0, 1⟩
abbrev CB_CNT : Nat := 0x0E0008
abbrev CB_CNT_CLAIMS : Fld := ⟨CB_CNT, 16, 16⟩
abbrev CB_CNT_BADCOMPL : Fld := ⟨CB_CNT, 0, 16⟩
abbrev CB_PEND (w : Nat) : Nat := 0x0E0100 + 0x4 * w
abbrev CB_PEND_PEND (w : Nat) : Fld := ⟨CB_PEND w, 0, 32⟩
abbrev CB_ACT (w : Nat) : Nat := 0x0E0140 + 0x4 * w
abbrev CB_ACT_ACT (w : Nat) : Fld := ⟨CB_ACT w, 0, 32⟩
abbrev CB_EN (s : Nat) (w : Nat) : Nat := 0x0E0200 + 0x80 * s + 0x4 * w
abbrev CB_EN_EN (s : Nat) (w : Nat) : Fld := ⟨CB_EN s w, 0, 32⟩
abbrev CB_THR (s : Nat) : Nat := 0x0E0240 + 0x80 * s
abbrev CB_THR_THR (s : Nat) : Fld := ⟨CB_THR s, 0, 4⟩
abbrev CB_CLAIM (s : Nat) : Nat := 0x0E0244 + 0x80 * s
abbrev CB_CLAIM_VALID (s : Nat) : Fld := ⟨CB_CLAIM s, 31, 1⟩
abbrev CB_CLAIM_NOTLEAD (s : Nat) : Fld := ⟨CB_CLAIM s, 30, 1⟩
abbrev CB_CLAIM_LEADL (s : Nat) : Fld := ⟨CB_CLAIM s, 28, 2⟩
abbrev CB_CLAIM_SRC (s : Nat) : Fld := ⟨CB_CLAIM s, 0, 9⟩
abbrev CB_COMPL (s : Nat) : Nat := 0x0E0248 + 0x80 * s
abbrev CB_COMPL_SRC (s : Nat) : Fld := ⟨CB_COMPL s, 0, 9⟩
abbrev CB_PRES (s : Nat) : Nat := 0x0E024C + 0x80 * s
abbrev CB_PRES_VALID (s : Nat) : Fld := ⟨CB_PRES s, 31, 1⟩
abbrev CB_PRES_ACTN (s : Nat) : Fld := ⟨CB_PRES s, 16, 4⟩
abbrev CB_PRES_EFF (s : Nat) : Fld := ⟨CB_PRES s, 12, 4⟩
abbrev CB_PRES_SRC (s : Nat) : Fld := ⟨CB_PRES s, 0, 9⟩
abbrev CB_SRC (k : Nat) : Nat := 0x0E1000 + 0x4 * k
abbrev CB_SRC_KIND (k : Nat) : Fld := ⟨CB_SRC k, 29, 3⟩
abbrev CB_SRC_SENSE (k : Nat) : Fld := ⟨CB_SRC k, 27, 2⟩
abbrev CB_SRC_LANE (k : Nat) : Fld := ⟨CB_SRC k, 25, 2⟩
abbrev CB_SRC_PRIO (k : Nat) : Fld := ⟨CB_SRC k, 20, 4⟩
abbrev CB_SRC_SEL (k : Nat) : Fld := ⟨CB_SRC k, 0, 20⟩
abbrev SF_STAT : Nat := 0x0F0000
abbrev SF_STAT_RSTUCK : Fld := ⟨SF_STAT, 22, 1⟩
abbrev SF_STAT_GTOK : Fld := ⟨SF_STAT, 20, 2⟩
abbrev SF_STAT_LATCH : Fld := ⟨SF_STAT, 10, 10⟩
abbrev SF_STAT_DEM : Fld := ⟨SF_STAT, 0, 10⟩
abbrev SF_RAW : Nat := 0x0F0004
abbrev SF_RAW_KF : Fld := ⟨SF_RAW, 19, 4⟩
abbrev SF_RAW_SRS : Fld := ⟨SF_RAW, 18, 1⟩
abbrev SF_RAW_GT : Fld := ⟨SF_RAW, 16, 2⟩
abbrev SF_RAW_N : Fld := ⟨SF_RAW, 8, 8⟩
abbrev SF_RAW_P : Fld := ⟨SF_RAW, 0, 8⟩
abbrev SF_OWN : Nat := 0x0F0008
abbrev SF_OWN_DISCF : Fld := ⟨SF_OWN, 10, 8⟩
abbrev SF_OWN_DEM : Fld := ⟨SF_OWN, 0, 10⟩
abbrev SF_EVT : Nat := 0x0F000C
abbrev SF_EVT_LANEDIF : Fld := ⟨SF_EVT, 11, 1⟩
abbrev SF_EVT_SHORT : Fld := ⟨SF_EVT, 10, 1⟩
abbrev SF_EVT_OC : Fld := ⟨SF_EVT, 9, 1⟩
abbrev SF_EVT_WELD : Fld := ⟨SF_EVT, 8, 1⟩
abbrev SF_EVT_NOCLOSE : Fld := ⟨SF_EVT, 7, 1⟩
abbrev SF_EVT_RSTUCK : Fld := ⟨SF_EVT, 6, 1⟩
abbrev SF_EVT_RSTSHORT : Fld := ⟨SF_EVT, 5, 1⟩
abbrev SF_EVT_RSTSINGLE : Fld := ⟨SF_EVT, 4, 1⟩
abbrev SF_EVT_RSTOK : Fld := ⟨SF_EVT, 3, 1⟩
abbrev SF_EVT_GTSEEN : Fld := ⟨SF_EVT, 2, 1⟩
abbrev SF_EVT_DISC : Fld := ⟨SF_EVT, 1, 1⟩
abbrev SF_EVT_DEMAND : Fld := ⟨SF_EVT, 0, 1⟩
abbrev SF_CFG : Nat := 0x0F0010
abbrev SF_CFG_RWIN : Fld := ⟨SF_CFG, 8, 8⟩
abbrev SF_CFG_LDISC : Fld := ⟨SF_CFG, 0, 8⟩
abbrev SF_SICFG (k : Nat) : Nat := 0x0F0040 + 0x4 * k
abbrev SF_SICFG_DISC (k : Nat) : Fld := ⟨SF_SICFG k, 16, 16⟩
abbrev SF_SICFG_FILT (k : Nat) : Fld := ⟨SF_SICFG k, 8, 8⟩
abbrev SF_SICFG_LATCH (k : Nat) : Fld := ⟨SF_SICFG k, 2, 1⟩
abbrev SF_SICFG_FUNC (k : Nat) : Fld := ⟨SF_SICFG k, 0, 2⟩
abbrev SF_GTCFG (m : Nat) : Nat := 0x0F0060 + 0x4 * m
abbrev SF_GTCFG_FILT (m : Nat) : Fld := ⟨SF_GTCFG m, 8, 8⟩
abbrev SF_GTCFG_LATCH (m : Nat) : Fld := ⟨SF_GTCFG m, 2, 1⟩
abbrev SF_GTCFG_FUNC (m : Nat) : Fld := ⟨SF_GTCFG m, 0, 2⟩
abbrev SF_KOCFG (m : Nat) : Nat := 0x0F0080 + 0x4 * m
abbrev SF_KOCFG_MASK (m : Nat) : Fld := ⟨SF_KOCFG m, 12, 10⟩
abbrev SF_KOCFG_FBPOL (m : Nat) : Fld := ⟨SF_KOCFG m, 4, 1⟩
abbrev SF_KOCFG_FBEN (m : Nat) : Fld := ⟨SF_KOCFG m, 3, 1⟩
abbrev SF_KOCFG_FUNC (m : Nat) : Fld := ⟨SF_KOCFG m, 0, 2⟩
abbrev SF_KOCMD : Nat := 0x0F0090
abbrev SF_KOCMD_CMD : Fld := ⟨SF_KOCMD, 0, 4⟩
abbrev SF_KOSTAT : Nat := 0x0F0094
abbrev SF_KOSTAT_OC : Fld := ⟨SF_KOSTAT, 28, 4⟩
abbrev SF_KOSTAT_SHORT : Fld := ⟨SF_KOSTAT, 24, 4⟩
abbrev SF_KOSTAT_WELD : Fld := ⟨SF_KOSTAT, 20, 4⟩
abbrev SF_KOSTAT_NOCLOSE : Fld := ⟨SF_KOSTAT, 16, 4⟩
abbrev SF_KOSTAT_RDBK : Fld := ⟨SF_KOSTAT, 8, 4⟩
abbrev SF_KOSTAT_KFOK : Fld := ⟨SF_KOSTAT, 4, 4⟩
abbrev SF_KOSTAT_ON : Fld := ⟨SF_KOSTAT, 0, 4⟩
abbrev SF_RST : Nat := 0x0F0098
abbrev SF_RST_STUCK : Fld := ⟨SF_RST, 24, 8⟩
abbrev SF_RST_SHORT : Fld := ⟨SF_RST, 16, 8⟩
abbrev SF_RST_OK : Fld := ⟨SF_RST, 0, 16⟩
abbrev SF_RSTHI : Nat := 0x0F009C
abbrev SF_RSTHI_HIGH : Fld := ⟨SF_RSTHI, 0, 16⟩
abbrev KP_STAT : Nat := 0x100000
abbrev KP_STAT_SLOTS : Fld := ⟨KP_STAT, 4, 4⟩
abbrev KP_STAT_DBGOPEN : Fld := ⟨KP_STAT, 3, 1⟩
abbrev KP_STAT_ERASED : Fld := ⟨KP_STAT, 2, 1⟩
abbrev KP_STAT_IDKEY : Fld := ⟨KP_STAT, 1, 1⟩
abbrev KP_STAT_PUFOK : Fld := ⟨KP_STAT, 0, 1⟩
abbrev KP_EVT : Nat := 0x100004
abbrev KP_EVT_REVOKE : Fld := ⟨KP_EVT, 2, 1⟩
abbrev KP_EVT_UNLOCK : Fld := ⟨KP_EVT, 1, 1⟩
abbrev KP_EVT_TAMPER : Fld := ⟨KP_EVT, 0, 1⟩
abbrev KP_TAMP : Nat := 0x100008
abbrev KP_TAMP_COUNT : Fld := ⟨KP_TAMP, 16, 16⟩
abbrev KP_TAMP_CAUSE : Fld := ⟨KP_TAMP, 0, 2⟩
abbrev KP_REVOKE : Nat := 0x10000C
abbrev KP_REVOKE_LMS : Fld := ⟨KP_REVOKE, 4, 4⟩
abbrev KP_REVOKE_ECDSA : Fld := ⟨KP_REVOKE, 0, 4⟩
abbrev CT_STAT (n : Nat) : Nat := 0x110000 + 0x100 * n
abbrev CT_STAT_RESTR (n : Nat) : Fld := ⟨CT_STAT n, 3, 1⟩
abbrev CT_STAT_REPLACE (n : Nat) : Fld := ⟨CT_STAT n, 2, 1⟩
abbrev CT_STAT_AUTH (n : Nat) : Fld := ⟨CT_STAT n, 0, 2⟩
abbrev CT_EVT (n : Nat) : Nat := 0x110004 + 0x100 * n
abbrev CT_EVT_PASS (n : Nat) : Fld := ⟨CT_EVT n, 5, 1⟩
abbrev CT_EVT_WRFAIL (n : Nat) : Fld := ⟨CT_EVT n, 4, 1⟩
abbrev CT_EVT_REPLACE (n : Nat) : Fld := ⟨CT_EVT n, 3, 1⟩
abbrev CT_EVT_IDDIF (n : Nat) : Fld := ⟨CT_EVT n, 2, 1⟩
abbrev CT_EVT_ACCEPT (n : Nat) : Fld := ⟨CT_EVT n, 1, 1⟩
abbrev CT_EVT_AUTHFAIL (n : Nat) : Fld := ⟨CT_EVT n, 0, 1⟩
abbrev CT_CFG (n : Nat) : Nat := 0x110008 + 0x100 * n
abbrev CT_CFG_LIMIT (n : Nat) : Fld := ⟨CT_CFG n, 16, 16⟩
abbrev CT_CFG_RESTR (n : Nat) : Fld := ⟨CT_CFG n, 0, 16⟩
abbrev CT_LIFE_LO (n : Nat) : Nat := 0x11000C + 0x100 * n
abbrev CT_LIFE_LO_LIFE (n : Nat) : Fld := ⟨CT_LIFE_LO n, 0, 32⟩
abbrev CT_LIFE_HI (n : Nat) : Nat := 0x110010 + 0x100 * n
abbrev CT_LIFE_HI_LIFE (n : Nat) : Fld := ⟨CT_LIFE_HI n, 0, 32⟩
abbrev CT_RATED_LO (n : Nat) : Nat := 0x110014 + 0x100 * n
abbrev CT_RATED_LO_RATED (n : Nat) : Fld := ⟨CT_RATED_LO n, 0, 32⟩
abbrev CT_RATED_HI (n : Nat) : Nat := 0x110018 + 0x100 * n
abbrev CT_RATED_HI_RATED (n : Nat) : Fld := ⟨CT_RATED_HI n, 0, 32⟩
abbrev CT_ID (n : Nat) (w : Nat) : Nat := 0x110020 + 0x100 * n + 0x4 * w
abbrev CT_ID_ID (n : Nat) (w : Nat) : Fld := ⟨CT_ID n w, 0, 32⟩
abbrev DC_TAB6 (n : Nat) (w : Nat) : Nat := 0x060800 + 0x1000 * n + 0x4 * w
abbrev DC_TAB12 (n : Nat) (w : Nat) : Nat := 0x060840 + 0x1000 * n + 0x4 * w
abbrev DC_DEG6 (n : Nat) (w : Nat) : Nat := 0x060900 + 0x1000 * n + 0x4 * w
abbrev DC_DEG12 (n : Nat) (w : Nat) : Nat := 0x060A00 + 0x1000 * n + 0x4 * w

end Sys2Proof.Machine.R
end

