-- ==== Sys2Proof/Machine/RehearsalState.lean ====
section
/-!
DEFINITION. What a lane holds of its rehearsal that no register shows (Rehearsal).
-/

namespace Sys2Proof.Machine

/-- A rotation step of stage memory (R351): the bank copied, and whether the map has swapped. -/
structure BankStep where
  bank : Nat
  swapped : Bool
  deriving DecidableEq, Repr

structure RehState where
  /-- start-of-day steps done and failed, as bits 1 to 9 (R344) -/
  done : Nat
  failed : Nat
  /-- when REHEARSAL was entered, and the highest extra power since in mW (BI_SODT) -/
  since : Nat
  peak : Nat
  /-- the bank that serves each of the sixteen address ranges, and the rotation bank (R349, R351);
  once the map has swapped, the bank under test is the rotation bank -/
  bankMap : Vector Nat 16
  spareBank : Option Nat
  /-- the cycles in which the last bank step and the last comparator step were due -/
  bankTurn : Nat
  cmpTurn : Nat
  /-- the in-service steps that run: a bank, the comparator of every axis, a twin (R351, R356, R358) -/
  bank : Option BankStep
  cmp : Option Nat
  twin : Option Nat
  /-- the next twin (R358), the next switch of every axis (R357) and the cycle each switch was last swept in -/
  nextTwin : Nat
  nextSwitch : Switch
  swept : Vector (Vector Nat 6) 4
  /-- switches whose hold-release request comes with a sweep (R357) -/
  sweepAsked : Vector (BitVec 6) 4
  /-- spare rows used in each bank (R350) -/
  spares : Vector Nat 17
  /-- corrected errors of the last second: bank, row, time (R352) -/
  corrected : List (Nat × Nat × Nat)
  /-- rows added to the repair list in this service, not yet written by the keeper (R353) -/
  toRepair : List (Nat × Nat)
  /-- burst-queue banks unusable (R362) -/
  burstBad : Nat
  /-- phases whose in-service proof has stopped (R356) -/
  proofStopped : BitVec 12
  /-- scans in succession with a disagreement, of each link (R361) -/
  margins : Vector Nat 2
  /-- the own figure has been measured (R360) -/
  figured : Bool
  /-- memory beyond the start region has been initialised (R323 step 2) -/
  memReady : Bool
  /-- cycles in succession with the own figure outside its window (R360) -/
  refBad : Nat
  /-- failed comparators of a phase at start of day (R356) -/
  cmpFailed : Vector Nat 12
  deriving DecidableEq, Repr

def RehState.init : RehState where
  done := 0
  failed := 0
  since := 0
  peak := 0
  bankMap := Vector.ofFn fun i => i.val
  spareBank := some 16
  bankTurn := 0
  cmpTurn := 0
  bank := none
  cmp := none
  twin := none
  nextTwin := 0
  nextSwitch := 0
  swept := Vector.replicate 4 (Vector.replicate 6 0)
  sweepAsked := Vector.replicate 4 0
  spares := Vector.replicate 17 0
  corrected := []
  toRepair := []
  burstBad := 0
  proofStopped := 0
  margins := Vector.replicate 2 0
  figured := false
  memReady := false
  refBad := 0
  cmpFailed := Vector.replicate 12 0

end Sys2Proof.Machine
end

