-- ==== Sys2Proof/Machine/SafetyState.lean ====
section
/-!
DEFINITION. What a lane holds of its safety inputs, reset and contactors that no register shows (Safety Inputs,
Contactors and Reset), and of the module state and its stop.
-/

namespace Sys2Proof.Machine

structure SafetyState where
  /-- pairs discrepant now since (R517); pairs that have shown DEMAND since their discrepancy fault -/
  discSince : Vector (Option Nat) 8
  shown : BitVec 8
  /-- beats with the own demand differing from the agreed one (R520) -/
  differ : Vector Nat 10
  /-- a valid reset fell since the last beat start; the lane times in ns of the lanes' valid resets that have no partner
  yet, and of the last agreed one (R523) -/
  resetNow : Bool
  resets : Vector (Option Nat) 3
  resetAgreed : Bool
  agreedAt : Option Nat
  /-- the last change of each KO output (R525) -/
  koAt : Vector Nat 4
  /-- inputs whose STOP function acts (R521) -/
  stopActing : BitVec 10
  deriving DecidableEq, Repr

def SafetyState.init : SafetyState :=
  ⟨Vector.replicate 8 none, 0, Vector.replicate 10 0, false, Vector.replicate 3 none, false, none,
   Vector.replicate 4 0, 0⟩

/-- Why the stop of the stop section runs (R285, R493). -/
inductive StopKind where
  | ghost | default
  deriving DecidableEq, Repr

structure ModeState where
  /-- the cycle number (VR_CYCNUM) in full -/
  cycle : Nat
  /-- the stop that runs and since when, in lane-time units of ltime -/
  stop : Option (StopKind × Nat)
  /-- the ground speed has been below the stop threshold since (R285) -/
  slowSince : Option Nat
  /-- fault classes of kind L that have been set since start of day (R552), and the bitmap at the last beat start -/
  latched : BitVec 64
  faults : BitVec 64
  /-- axes that enable at the first SETPOINT for them (R556) -/
  enableFirst : BitVec 4
  /-- the axes enable at the entry into ARMED or after RESYNC, once VCORE_x has risen (R48, R49) -/
  enableWait : Bool
  /-- FW_RESTART has taken effect: the lane restarts at the start of the next cycle (R341) -/
  fwRestart : Bool
  /-- when the lane left BOOT (R518, R522) -/
  leftBoot : Nat
  /-- CURTAIN has lost its hold force (R563) -/
  holdGone : Bool
  deriving DecidableEq, Repr

def ModeState.init : ModeState := ⟨0, none, none, 0, 0, 0, false, false, 0, false⟩

end Sys2Proof.Machine
end

