-- ==== Sys2Proof/Machine/SeatState.lean ====
section
/-!
DEFINITION. What a lane holds of its seats, the spotlight and the callboard that no register shows (Seats, Command
Packets and the Spotlight; Callboard). Registers HS_SPOT, HS_SPOTEND and CB_… show the rest.
-/

namespace Sys2Proof.Machine

/-- An open CAN transfer of a seat (R469): the next segment index, the cycle of the first segment, the data so far. -/
structure CanTransfer where
  number : Nat
  next : Nat
  cycle : Nat
  data : List Byte
  deriving DecidableEq, Repr

/-- A spotlight request that has taken effect (R489). -/
structure SpotReq where
  seat : Seat
  preempt : Bool
  hdr : Hdr
  path : Option Path
  deriving DecidableEq, Repr

/-- A state-change opcode that waits for the cycle start at which it is answered (R554): the state it asks for, or the
class and detail that refuse it. -/
structure ModeReq where
  mode : Nat
  refused : Option (Nat × Nat)
  hdr : Hdr
  path : Option Path
  deriving DecidableEq, Repr

/-- A stored reply of an agreed command (R478), with the fingerprint of the command. -/
structure Stored where
  fp : BitVec 64
  reply : Reply
  at_ : Nat
  deriving DecidableEq, Repr

/-- What ends a lease at the start of the next cycle (R491). -/
inductive LeaseEnd where
  | release | revoke | stop
  deriving DecidableEq, Repr

structure SeatState where
  /-- received packets in the port's buffers (R467): those whose checks have not ended -/
  buffered : Nat
  /-- replies queued on SEAT_x, oldest first; replies waiting for the lane's COMMAND cue; segments of replies waiting for
  the CAN transmit buffer of each seat, and the number of its next transfer (R468, R469) -/
  replies : List Reply
  ringReplies : List Reply
  canOut : Vector (List (List Byte)) 8
  canNum : Vector Nat 8
  /-- the open CAN transfer of each seat (R469), and stored replies (R478) -/
  transfers : Vector (Option CanTransfer) 8
  stored : List Stored
  /-- fingerprints held or executed, with the time (R478) -/
  seen : List (BitVec 64 × Nat)
  /-- requests of R489 not yet decided, and those carried under R491 -/
  requests : List SpotReq
  /-- the request that holds the reservation, answered with its grant; a reservation was cancelled in this cycle -/
  reserved : Option SpotReq
  cancelled : Bool
  /-- a grant that takes effect at the start of the next cycle (two cycles on, after a gap) -/
  grantNext : Option Seat
  endNext : Option LeaseEnd
  /-- cycles of the gap still to start; the cycle e at which the lease ended -/
  gap : Nat
  endedAt : Nat
  /-- a STOP takes effect at the start of the next cycle (R493) -/
  stopNext : Bool
  /-- state-change opcodes to answer at the next cycle start -/
  modeReqs : List ModeReq
  /-- highest session identifier of each seat in the keeper's records (R475) -/
  sessionHigh : Vector Nat 8
  /-- seats whose session has accepted a sequence (R472) -/
  sequenced : BitVec 8
  deriving DecidableEq, Repr

def SeatState.init : SeatState :=
  ⟨0, [], [], Vector.replicate 8 [], Vector.replicate 8 0, Vector.replicate 8 none, [], [], [], none, false, none, none, 0, 0,
   false, [],
   Vector.replicate 8 0, 0⟩

/-- The callboard beyond its registers: which seat each active source is active for, and the last sample of each. -/
structure CallState where
  active : List (Nat × Seat)
  sampled : List Nat
  /-- event inputs of the present beat (R499) -/
  events : List Nat
  /-- CB writes that took effect in the last two cycles: address, word, and the number of the beat since time 0 (R510) -/
  writes : List (Nat × Word × Nat)
  /-- the prompt-book state byte at the last sample (R499, source 10) -/
  bookState : Nat
  deriving DecidableEq, Repr

def CallState.init : CallState := ⟨[], [], [], [], 0⟩

end Sys2Proof.Machine
end

