-- ==== Sys2Proof/Machine/TrioState.lean ====
section
/-!
DEFINITION. What the voter of the trio and its cores hold that no register shows (The Principal Trio and Its Voter).
-/

namespace Sys2Proof.Machine

/-- A copy at the voter: its core, the transaction as it left the core, and its arrival. -/
structure Copy where
  core : Core
  txn : Txn
  at_ : Nat
  deriving DecidableEq, Repr

/-- A running exercise (R243): its kind, the core whose copy it alters, and whether the voter is to miss it. -/
structure Exercise where
  kind : Nat
  core : Core
  missed : Bool
  deriving DecidableEq, Repr

/-- An open transaction: the copies in order of arrival (R224); the decision and its time, while the laggard window is open
(R225); what its single-sample load read (R231); the events to be taken with it (R234); the exercise it carries, and the
copy that an exercise of kind 38 delays (R243). -/
structure Slot where
  copies : List Copy
  decided : Option (Txn × Nat)
  data : Word
  events : Nat
  ex : Option Exercise
  delayed : Option Copy
  deriving DecidableEq, Repr

/-- A core of the trio. -/
structure CoreState where
  /-- the number of its next voted transaction, and one it has issued while the transaction before is undecided: it
  stalls (R223) -/
  next : Nat
  held : Option Txn
  /-- instructions retired since its last voted transaction (R221) -/
  run : Nat
  /-- its register file and control registers, by transaction type and destination -/
  file : List (Nat × Word)
  /-- the data of its latest single-sample load (R231) -/
  loaded : Word
  /-- program counter and flags of its latest checkpoint, or the program counter a release gave it (R221, R236) -/
  point : BitVec 64
  /-- events it has taken (R234) -/
  taken : Nat
  /-- pipeline, branch predictor and store buffer are reset and the caches invalid, and no copy has left since (R236) -/
  cold : Bool
  deriving DecidableEq, Repr

def CoreState.init : CoreState := ⟨0, none, 0, [], 0, 0, 0, true⟩

structure TrioState where
  /-- the open transactions, oldest first: only the last can be undecided (R223, R224) -/
  slots : List Slot
  /-- the number of the first open transaction: how many have ended (R223) -/
  number : Nat
  /-- the three cores (R220) -/
  cores : Vector CoreState 3
  /-- the committed file: register and control state as decided, by transaction type and destination (R236) -/
  file : List (Nat × Word)
  /-- events that have reached the voter and wait for the next decision, and those presented (R234) -/
  waiting : Nat
  presented : Nat
  /-- when the running resynchronisation began (R236, R237) -/
  resyncAt : Nat
  /-- completion times of each core's resynchronisations within the last second (R239) -/
  done : Vector (List Nat) 3
  /-- the core whose third copy was late, and the decision it trails (R230) -/
  lateOf : Option (Core × Nat)
  /-- EXNOW asked for an exercise; an exercise is deferred (R245, R249) -/
  exNow : Bool
  exDeferred : Bool
  /-- the exercise that the next decided transaction carries (R244) -/
  exercise : Option Exercise
  /-- the cycles of the last exercise and of the last lockstep injection (R216, R244) -/
  exercisedAt : Nat
  injectedAt : Nat
  /-- the spread has been above 2.00 % since (R229) -/
  spreadSince : Option Nat
  deriving DecidableEq, Repr

def TrioState.init : TrioState where
  slots := []
  number := 0
  cores := Vector.replicate 3 .init
  file := []
  waiting := 0
  presented := 0
  resyncAt := 0
  done := Vector.replicate 3 []
  lateOf := none
  exNow := false
  exDeferred := false
  exercise := none
  exercisedAt := 0
  injectedAt := 0
  spreadSince := none

end Sys2Proof.Machine
end

