-- ==== Sys2Proof/Machine/TrustState.lean ====
section
/-!
DEFINITION. What the keeper holds: the boot flash slots and records (R316, R317, R321, R322, R338), the fuses (R530 to
R537), load sessions (R340), the prompt book in use, tamper and debug state, cartridges and playbills (R539 to R546).
What survives a loss of power is `Flash` and `Fuses`.
-/

namespace Sys2Proof.Machine

/-- A slot record (R317): write sequence, length and SHA-384 digest of the image, CRC-32C. -/
structure SlotRecord where
  seq : Word
  length : Nat
  digest : BitVec 384
  crc : Word
  deriving DecidableEq, Repr

/-- The boot flash: slots with record and image, none where no record stands (R316, R317), and the keeper records. -/
structure Flash where
  fw : Vector (Option (SlotRecord × FwImage)) 2
  pb : Vector (Option (SlotRecord × Book)) 2
  /-- firmware slots whose image a load has begun to overwrite and not made valid again (R317, R340) -/
  spoilt : BitVec 2
  /-- keeper records: confirmed check value, highest confirmed issue and the digest confirmed with it -/
  check : Option Word
  issue : Nat
  digest : BitVec 384
  /-- cartridge digests on record, at most 16 (R540), and accepted digests of each axis (R542) -/
  verified : List (BitVec 384)
  accepted : Vector (Option (BitVec 384)) 4
  /-- recorded winding temperatures at the last shutdown, 0.1 °C (R294) -/
  winding : Vector (Option Int) 4
  /-- bits and rows of stage memory added to the repair list (R352) -/
  repair : List (Nat × Nat)
  /-- a tamper cause to record at the next start, tamper resets counted, and their times within 10 s (R535) -/
  tamperCause : Nat
  tampers : Nat
  tamperTimes : List Nat
  deriving DecidableEq, Repr

structure Fuses where
  /-- the security counter (R318), the revocations of R532, and whether the secrets are erased (R537) -/
  counter : Nat
  revokeEcdsa : BitVec 4
  revokeLms : BitVec 4
  erased : Bool
  /-- identifiers of the integrator's keys, fused at manufacture (R532), and of Nataern's firmware keys in ROM (R320) -/
  keyEcdsa : Vector (BitVec 64) 4
  keyLms : Vector (BitVec 64) 4
  romEcdsa : BitVec 64
  romLms : BitVec 64
  deriving DecidableEq, Repr

/-- An open load session (R340, R483): firmware or prompt book, the seat, the slot written, the announced length and
digest, and the bytes written so far. -/
structure LoadSession where
  firmware : Bool
  seat : Seat
  slot : Fin 2
  length : Nat
  digest : BitVec 384
  written : Nat
  deriving DecidableEq, Repr

/-- A cartridge as this lane has read it (R540, R544). -/
structure CartState where
  /-- an authentication runs (R540) -/
  running : Bool
  /-- the serial link has locked since the last authentication (R540); the challenge sent in the running one -/
  due : Bool
  challenge : Option Nat
  /-- a CART_ACCEPT that waits for the end of the authentication (R542) -/
  acceptWait : Option (BitVec 384 × Hdr × Option Path)
  digest : Option (BitVec 384)
  /-- life in joules that the valid record read holds, and its sequence -/
  record : Nat
  seq : Nat
  /-- consecutive failed playbill writes (R545) -/
  failures : Nat
  /-- above its life limit at the start, and acknowledged (R546) -/
  refusedLife : Bool
  acked : Bool
  /-- the ledger in joules with its fraction (R543), and whether the start value has been taken -/
  life : Rat
  started : Bool
  deriving DecidableEq, Repr

structure TrustState where
  flash : Flash
  fuses : Fuses
  /-- the open load session (R340) -/
  load : Option LoadSession
  /-- the book being checked, the book accepted and in force, the slot of the former or, with no check running, of the
  latter; an activated book that comes into force at the agreed result (R342) -/
  checking : Option Book
  book : Option Book
  slot : Option (Fin 2)
  nextBook : Option Book
  /-- the book checked has passed and waits for the other of lanes A and B (R27) -/
  awaiting : Bool
  /-- the state byte, refusal code, failing section and offset of R335 -/
  state : Nat
  code : Nat
  section_ : Nat
  offset : Nat
  /-- the running firmware -/
  fw : Option FwImage
  /-- which firmware slots have been refused at this start (R323, R324) -/
  fwTried : Nat
  /-- the keeper answers from ROM, no firmware runs (R324); the debug challenge that stands and whether debug is open (R537) -/
  romResponder : Bool
  challenge : Option Nat
  debugOpen : Bool
  /-- the last due time of the playbill records (R545) -/
  playAt : Nat
  /-- a CONFIRM_CHECK whose value matched, until every taking-part lane shows it (R338) -/
  confirm : Option (Word × Hdr × Option Path)
  /-- the cartridges of the four axes (R539 to R546) -/
  carts : Vector CartState 4
  deriving DecidableEq, Repr

def Flash.blank : Flash :=
  ⟨Vector.replicate 2 none, Vector.replicate 2 none, 0, none, 0, 0, [], Vector.replicate 4 none,
   Vector.replicate 4 none, [], 0, 0, []⟩
def Fuses.blank : Fuses := ⟨0, 0, 0, false, Vector.replicate 4 0, Vector.replicate 4 0, 0, 0⟩
def CartState.init : CartState := ⟨false, false, none, none, none, 0, 0, 0, false, false, 0, false⟩

/-- A lane after reset with what its flash and fuses hold. -/
def TrustState.init (f : Flash) (u : Fuses) : TrustState :=
  ⟨f, u, none, none, none, none, none, false, 0, 0, 0, 0, none, 0, false, none, false, 0, none, Vector.replicate 4 .init⟩

end Sys2Proof.Machine
end

