-- ==== Sys2Proof/Machine/State.lean ====
section
/-!
DEFINITION. The state of the block: three lanes, each with its register space and what no register shows, and the
queue of waiting commands.
-/

namespace Sys2Proof.Machine

/-- The register space of a lane (R36) in canonical form: addresses strictly rising, no entry equal to what an unlisted
address reads as (its reset word, R14). -/
abbrev RegFile := List (Nat × Word)

/-- One lane (R9, R20). -/
structure Lane where
  /-- which lane it is: the die's position in the package (LC_ID) -/
  id : LaneId
  regs : RegFile
  /-- the bits that events have set in registers at the present moment, by address (R12, assumption 88) -/
  sets : List (Nat × Word)
  /-- the raw time-base count, 250 ps units: the moment of the lane's latest event -/
  now : Nat
  /-- the lane time in units of 2^-24 ns (R414, R415) -/
  ltime : Nat
  /-- MODEL: how many open choices have been taken; it numbers Config.free (assumption 2) -/
  fresh : Nat
  /-- MODEL: what the lane has put on its outputs during the latest command, newest first (assumption 6) -/
  emit : List Emission
  /-- the house log, newest first, and the number of its next record (R484) -/
  log : List LogRecord
  logNext : Nat
  axes : Vector AxisState 4
  power : PowerState
  link : LinkState
  loops : Vector LoopState 4
  wing : WingState
  seats : SeatState
  call : CallState
  safety : SafetyState
  mode_ : ModeState
  trust : TrustState
  reh : RehState
  trio : TrioState
  box : BoxState
  ring : RingState
  tm : TimeState
  can : Vector CanState 2
  dict : DictState
  /-- stage memory by word address (R349), in canonical form: a word never written reads 0 (assumption 14) -/
  stage : RegFile
  deriving DecidableEq, Repr

/-- The block. `pending` holds the waiting commands, first in, first out. -/
structure State where
  laneA : Lane
  laneB : Lane
  laneC : Lane
  pending : List Instr
  deriving DecidableEq, Repr

/-- Why the block stops. Nothing in the spec stops it, so there is no fault: every command has a next state. -/
inductive Fault where
  deriving DecidableEq, Repr

/-- Why a command is refused. -/
inductive Refusal where
  /-- raised by `exec` for a command that has no meaning yet; safe: the run ends there -/
  | notModelled (mnemonic : String)
  deriving DecidableEq, Repr

/-- A lane at the end of its power-on reset (R14): every register at its Reset column, the logic die just released
(R57 step 5), everything hidden at rest. -/
def Lane.reset (id : LaneId) : Lane :=
  { id := id, regs := [], sets := [], now := 0, ltime := 0, fresh := 0, emit := [], log := [],
    logNext := 0, axes := Vector.replicate 4 .init,
    power := .afterReset, link := .init, loops := Vector.replicate 4 .init, wing := .init, seats := .init,
    call := .init, safety := .init, mode_ := .init, trust := .init .blank .blank, reh := .init, trio := .init, box := .init, ring := .init, tm := .init, can := Vector.replicate 2 .init, dict := .init, stage := [] }

/-- The block right after reset. -/
def State.reset : State := ⟨.reset .A, .reset .B, .reset .C, []⟩

end Sys2Proof.Machine
end

