-- ==== Sys2Proof/Machine/Ops.lean ====
section
/-!
DEFINITION. The named operations every meaning is written with: reading and writing registers and their fields, the
axis and lane of an event, time, and open choices.
-/

namespace Sys2Proof.Machine

/-- The word an unlisted address reads as: its Reset column (R14); 0 where no register stands (R13, R37). The lane
number of LC_ID is the die's position. -/
def resetWord (id : LaneId) (a : Nat) : Word :=
  match regAt a with
  | none => 0
  | some d =>
    BitVec.ofNat 32 (d.resetNat + if a = R.LC_ID then (match id with | .A => 0 | .B => 1 | .C => 2) else 0)

/-- The listed word at an address. -/
def RegFile.look : RegFile → Nat → Option Word
  | [], _ => none
  | (b, v) :: r, a => if a = b then some v else RegFile.look r a

/-- Puts a word at an address and keeps the canonical form: `dflt` is what the address reads as unlisted. -/
def RegFile.put (dflt : Word) : RegFile → Nat → Word → RegFile
  | [], a, w => if w = dflt then [] else [(a, w)]
  | (b, v) :: r, a, w =>
    if a < b then (if w = dflt then (b, v) :: r else (a, w) :: (b, v) :: r)
    else if a = b then (if w = dflt then r else (a, w) :: r)
    else (b, v) :: RegFile.put dflt r a w

/-- The canonical form of a space of words: addresses strictly rising from `lo`, no entry at what `dflt` gives for its
address. -/
def RegFile.wfFrom (dflt : Nat → Word) : Nat → RegFile → Bool
  | _, [] => true
  | lo, (a, w) :: r => decide (lo ≤ a) && decide (w ≠ dflt a) && RegFile.wfFrom dflt (a + 1) r

/-- The register space of lane `id` is in canonical form. -/
def RegFile.wf (id : LaneId) (m : RegFile) : Bool := RegFile.wfFrom (resetWord id) 0 m

/-- Stage memory is in canonical form: what has not been written reads 0 (assumption 14). -/
def RegFile.wfStage (m : RegFile) : Bool := RegFile.wfFrom (fun _ => 0) 0 m

/-- The word at an address as the lane holds it (WO fields included; a read by a seat is `Lane.readWord`). -/
def Lane.word (l : Lane) (a : Nat) : Word := (l.regs.look a).getD (resetWord l.id a)

/-- Sets the word at an address. -/
def Lane.setWord (l : Lane) (a : Nat) (w : Word) : Lane :=
  { l with regs := l.regs.put (resetWord l.id a) a w }

/-- The bits of a word that a field occupies. -/
def Fld.mask (f : Fld) : Word := BitVec.ofNat 32 (2 ^ f.width - 1) <<< f.lo

/-- A word with the field `f` replaced by the low bits of `v`. -/
def Fld.insert (f : Fld) (w : Word) (v : Nat) : Word :=
  (w &&& ~~~f.mask) ||| (BitVec.ofNat 32 (v % 2 ^ f.width) <<< f.lo)

/-- The value of the field `f` in a word. -/
def Fld.extract (f : Fld) (w : Word) : Nat := (w >>> f.lo).toNat % 2 ^ f.width

/-- The word of stage memory at a byte address of a word (R349). -/
def Lane.stageWord (l : Lane) (a : Nat) : Word := (l.stage.look a).getD 0

/-- Writes a word of stage memory. -/
def Lane.setStage (l : Lane) (a : Nat) (w : Word) : Lane := { l with stage := l.stage.put 0 a w }

/-- What a write leaves of one field (R10): RW and RWL take the written bits, W1C clears where 1 is written, RO and WO
hold nothing of it. -/
def FieldDesc.write (f : FieldDesc) (new w : Word) : Word :=
  let m : Word := BitVec.ofNat 32 (2 ^ f.width - 1) <<< f.lo
  match f.acc with
  | .ro | .wo => w
  | .rw | .rwl => (w &&& ~~~m) ||| (new &&& m)
  | .w1c => w &&& ~~~(new &&& m)

/-- What a write of `new` leaves of the register word `w`. -/
def RegDesc.write (d : RegDesc) (new w : Word) : Word := d.fields.foldl (fun w f => f.write new w) w

/-- The bits of the fields that `p` holds of. -/
def RegDesc.bits (d : RegDesc) (p : FieldDesc → Bool) : Word :=
  d.fields.foldl (fun m f => if p f then m ||| (BitVec.ofNat 32 (2 ^ f.width - 1) <<< f.lo) else m) 0

/-- The assigned bits of the register at an address: the others are reserved and read 0 (R13). -/
def assignedBits (a : Nat) : Word := ((regAt a).map fun d => d.bits fun _ => true).getD 0

/-- The bits of the register at an address that a write of 1 clears. -/
def clearedByOne (a : Nat) : Word := ((regAt a).map fun d => d.bits fun f => f.acc == .w1c).getD 0

/-- The bits that events have set at the present moment in the register at an address (R12). -/
def Lane.setNow (l : Lane) (a : Nat) : Word := l.sets.foldl (fun m x => if x.1 = a then m ||| x.2 else m) 0

/-- Writes the register at an address by its access codes; an unassigned address discards the write (R13). A W1C bit that
an event sets in the same moment stays set (R12). -/
def Lane.writeWord (l : Lane) (a : Nat) (new : Word) : Lane :=
  match regAt a with
  | none => l
  | some d => l.setWord a (d.write (new &&& ~~~(l.setNow a &&& clearedByOne a)) (l.word a))

/-- The value of a register field. -/
def Lane.get (l : Lane) (f : Fld) : Nat := f.extract (l.word f.addr)

/-- A one-bit field as a truth value. -/
def Lane.flag (l : Lane) (f : Fld) : Bool := l.get f != 0

/-- The value of a signed field, in two's complement. -/
def Lane.getInt (l : Lane) (f : Fld) : Int :=
  if l.get f < 2 ^ (f.width - 1) then (l.get f : Int) else (l.get f : Int) - 2 ^ f.width

/-- A six-bit field that names a CAN buffer. -/
def Lane.bufIdx (l : Lane) (f : Fld) : Fin 64 := Fin.ofNat 64 (l.get f)

/-- Bit `j` of a field. -/
def Lane.bit (l : Lane) (f : Fld) (j : Nat) : Bool := (l.get f).testBit j

/-- Sets a field. -/
def Lane.put (l : Lane) (f : Fld) (v : Nat) : Lane := l.setWord f.addr (f.insert (l.word f.addr) v)

/-- Sets a signed field. -/
def Lane.putInt (l : Lane) (f : Fld) (v : Int) : Lane := l.put f (v % 2 ^ f.width).toNat

/-- Sets a one-bit field to a truth value. -/
def Lane.putFlag (l : Lane) (f : Fld) (b : Bool) : Lane := l.put f b.toNat

/-- Notes the bits that an event sets (R12). -/
def Lane.mark (l : Lane) (a : Nat) (w : Word) : Lane := { l with sets := (a, w) :: l.sets }

/-- Sets a one-bit field. -/
def Lane.raise (l : Lane) (f : Fld) : Lane := (l.put f 1).mark f.addr f.mask

/-- Clears a field. -/
def Lane.drop (l : Lane) (f : Fld) : Lane := l.put f 0

/-- Sets bit `j` of a field to `b`. -/
def Lane.putBit (l : Lane) (f : Fld) (j : Nat) (b : Bool) : Lane :=
  l.put f (if b then l.get f ||| 2 ^ j else l.get f &&& (2 ^ f.width - 1 - 2 ^ j))

/-- Adds one to a counter that saturates at full width. -/
def Lane.bump (l : Lane) (f : Fld) : Lane := l.put f (min (l.get f + 1) (2 ^ f.width - 1))

/-- Adds to a saturating counter. -/
def Lane.addTo (l : Lane) (f : Fld) (k : Nat) : Lane := l.put f (min (l.get f + k) (2 ^ f.width - 1))

/-- Applies `f` when `b` holds. -/
def Lane.when (l : Lane) (b : Bool) (f : Lane → Lane) : Lane := if b then f l else l

/-- The hidden state of axis `n`. -/
def Lane.ax (l : Lane) (n : Axis) : AxisState := l.axes[n]

/-- Changes the hidden state of axis `n`. -/
def Lane.onAx (l : Lane) (n : Axis) (f : AxisState → AxisState) : Lane :=
  { l with axes := l.axes.set n (f l.axes[n]) }

/-- The hidden state of the loops of axis `n`. -/
def Lane.lp (l : Lane) (n : Axis) : LoopState := l.loops[n]

/-- Changes the loops of axis `n`. -/
def Lane.onLp (l : Lane) (n : Axis) (f : LoopState → LoopState) : Lane :=
  { l with loops := l.loops.set n (f l.loops[n]) }

/-- Changes what the lane holds of its wing links and peers, of its seats, of its safety inputs, of the module state, of
its keeper, of its callboard. -/
def Lane.onWing (l : Lane) (f : WingState → WingState) : Lane := { l with wing := f l.wing }
/-- See `Lane.onWing`. -/
def Lane.onSeats (l : Lane) (f : SeatState → SeatState) : Lane := { l with seats := f l.seats }
/-- See `Lane.onWing`. -/
def Lane.onSafety (l : Lane) (f : SafetyState → SafetyState) : Lane := { l with safety := f l.safety }
/-- See `Lane.onWing`. -/
def Lane.onMode (l : Lane) (f : ModeState → ModeState) : Lane := { l with mode_ := f l.mode_ }
/-- See `Lane.onWing`. -/
def Lane.onTrust (l : Lane) (f : TrustState → TrustState) : Lane := { l with trust := f l.trust }
/-- See `Lane.onWing`. -/
def Lane.onCall (l : Lane) (f : CallState → CallState) : Lane := { l with call := f l.call }
/-- See `Lane.onWing`. -/
def Lane.onTrio (l : Lane) (f : TrioState → TrioState) : Lane := { l with trio := f l.trio }
/-- An event for the trio reaches the voter (R234). -/
def Lane.trioEvent (l : Lane) : Lane := l.onTrio fun t => { t with waiting := t.waiting + 1 }
/-- See `Lane.onWing`. -/
def Lane.onReh (l : Lane) (f : RehState → RehState) : Lane := { l with reh := f l.reh }
/-- See `Lane.onWing`. -/
def Lane.onBox (l : Lane) (f : BoxState → BoxState) : Lane := { l with box := f l.box }
/-- Changes the ring, the time service, the dictionary, a CAN controller. -/
def Lane.onRing (l : Lane) (f : RingState → RingState) : Lane := { l with ring := f l.ring }
/-- See `Lane.onRing`. -/
def Lane.onTime (l : Lane) (f : TimeState → TimeState) : Lane := { l with tm := f l.tm }
/-- See `Lane.onRing`. -/
def Lane.onDict (l : Lane) (f : DictState → DictState) : Lane := { l with dict := f l.dict }
/-- See `Lane.onRing`. -/
def Lane.onCan (l : Lane) (k : Fin 2) (f : CanState → CanState) : Lane := { l with can := l.can.set k (f l.can[k]) }
/-- See `Lane.onRing`. -/
def Lane.onPort (l : Lane) (p : Fin 2) (f : RingPort → RingPort) : Lane :=
  l.onRing fun r => { r with ports := r.ports.set p (f r.ports[p]) }
/-- Changes the supplies, the DC link. -/
def Lane.onPower (l : Lane) (f : PowerState → PowerState) : Lane := { l with power := f l.power }
/-- See `Lane.onPower`. -/
def Lane.onLink (l : Lane) (f : LinkState → LinkState) : Lane := { l with link := f l.link }

/-- Does the same on every axis. -/
def Lane.allAxes (l : Lane) (f : Lane → Axis → Lane) : Lane := f (f (f (f l 0) 1) 2) 3

/-- Sets the lane time. -/
def Lane.setLtime (l : Lane) (t : Nat) : Lane := { l with ltime := t }

/-- One open choice (assumption 2). -/
def Lane.choice (l : Lane) : Nat := Config.free l.fresh

/-- After a choice the next one is another. -/
def Lane.nextChoice (l : Lane) : Lane := { l with fresh := l.fresh + 1 }

/-- Records an entry in the house log. -/
def Lane.note (l : Lane) (x : LogEntry) : Lane :=
  { l with log := ⟨l.logNext, l.ltime, x⟩ :: l.log, logNext := l.logNext + 1 }

/-- Puts something on an output. -/
def Lane.send (l : Lane) (x : Emission) : Lane := { l with emit := x :: l.emit }

/-- Nanoseconds, microseconds and milliseconds in raw counts of 250 ps. -/
def ns (k : Nat) : Nat := 4 * k
/-- See `ns`. -/
def us (k : Nat) : Nat := 4000 * k
/-- See `ns`. -/
def ms (k : Nat) : Nat := 4000000 * k

/-- Inserts into a list in the order `before`. -/
def insertBy (before : α → α → Bool) (x : α) : List α → List α
  | [] => [x]
  | y :: r => if before y x then y :: insertBy before x r else x :: y :: r

/-- A list in the order `before`; equal elements keep theirs. -/
def sortBy (before : α → α → Bool) : List α → List α
  | [] => []
  | x :: r => insertBy before x (sortBy before r)

/-- Whether `d` has passed since `t`. -/
def Lane.since (l : Lane) (t d : Nat) : Bool := decide (t + d ≤ l.now)

/-- The raw count moves to the moment of an event, never back; the lane time moves with it by TM_INCR per 10 ns tick
(R414, R415). The outputs of the command before are gone. -/
def Lane.advanceTo (l : Lane) (t : Nat) : Lane :=
  { l with emit := [], sets := if l.now < t then [] else l.sets, now := max l.now t, ltime := l.ltime + (max l.now t / 40 - l.now / 40) * l.get R.TM_APPL_APPL }

/-- Lane `id` of the block. -/
def State.lane (s : State) : LaneId → Lane
  | .A => s.laneA
  | .B => s.laneB
  | .C => s.laneC

/-- Changes one lane and nothing else (R20, R21). -/
def State.onLane (s : State) (id : LaneId) (f : Lane → Lane) : State :=
  match id with
  | .A => { s with laneA := f s.laneA }
  | .B => { s with laneB := f s.laneB }
  | .C => { s with laneC := f s.laneC }

/-- The logic die runs: its registers and engines act. -/
def Lane.logicUp (l : Lane) : Bool := l.power.phase == .up

/-- The power die is powered: its monitors and comparators act (R57 step 1, R58). -/
def Lane.monitorsUp (l : Lane) : Bool := l.power.phase != .unpowered

/-- An event of the logic die: without effect while that die is unpowered or in reset. -/
def State.logicEvent (s : State) (e : At) (f : Lane → Lane) : State :=
  s.onLane e.lane fun l => if l.logicUp then f (l.advanceTo e.t) else l

/-- An event of the power die: without effect while that die is unpowered. -/
def State.powerEvent (s : State) (e : At) (f : Lane → Lane) : State :=
  s.onLane e.lane fun l => if l.monitorsUp then f (l.advanceTo e.t) else l

/-- An event that acts whatever the supplies are. -/
def State.anyEvent (s : State) (e : At) (f : Lane → Lane) : State :=
  s.onLane e.lane fun l => f (l.advanceTo e.t)

/-- The module states of R39. -/
inductive Mode where
  | powerOff | boot | rehearsal | scriptCheck | hold | armed | performing | degraded | ghost | curtain | workshop
  | reserved
  deriving DecidableEq, Repr

/-- The code of a module state in LC_STATE[MSTATE]. -/
def Mode.code : Mode → Nat
  | .powerOff => 0 | .boot => 1 | .rehearsal => 2 | .scriptCheck => 3 | .hold => 4 | .armed => 5
  | .performing => 6 | .degraded => 7 | .ghost => 8 | .curtain => 9 | .workshop => 10 | .reserved => 11

/-- The module state a code stands for (R39). -/
def Mode.ofCode : Nat → Mode
  | 0 => .powerOff | 1 => .boot | 2 => .rehearsal | 3 => .scriptCheck | 4 => .hold | 5 => .armed
  | 6 => .performing | 7 => .degraded | 8 => .ghost | 9 => .curtain | 10 => .workshop | _ => .reserved

/-- The module state as the lane holds it (R40). -/
def Lane.mode (l : Lane) : Mode := .ofCode (l.get R.LC_STATE_MSTATE)

/-- The lane states of LC_STATE[LSTATE]. -/
inductive LaneState where
  | out | resync | live
  deriving DecidableEq, Repr

def LaneState.code : LaneState → Nat
  | .out => 0 | .resync => 1 | .live => 2

/-- The lane's own state. -/
def Lane.lstate (l : Lane) : LaneState :=
  match l.get R.LC_STATE_LSTATE with | 2 => .live | 1 => .resync | _ => .out

def Lane.setMode (l : Lane) (m : Mode) : Lane := l.put R.LC_STATE_MSTATE m.code
def Lane.setLState (l : Lane) (m : LaneState) : Lane := l.put R.LC_STATE_LSTATE m.code

end Sys2Proof.Machine
end

