-- ==== Sys2Proof/Machine/Replies.lean ====
section
/-!
DEFINITION. Replies to seats (R467, R471, R477, R481) and the byte order of their payloads (R8).
-/

namespace Sys2Proof.Config

/-- The AES-256-CMAC tag of a reply under the session's reply key, which the model does not hold (R471, assumption 21). -/
opaque replyTag : Sys2Proof.Reply → BitVec 128

/-- The ECDSA P-384 signature of the lane identity key, 96 bytes (R534, R544; assumption 21). -/
opaque signature : Sys2Proof.LaneId → List Sys2Proof.Byte → BitVec 768

end Sys2Proof.Config

namespace Sys2Proof.Machine

/-- A lane time in the 64-bit form of R413. -/
def timeBytes (t : Nat) : List Byte := timeStamp (t / 2 ^ 22)

/-- KP_REVOKE and KP_STAT[SLOTS] read the revoke fuses (R532, R548). -/
def Lane.showFuses (l : Lane) : Lane :=
  let u := l.trust.fuses
  let l := l.put R.KP_STAT_SLOTS (~~~u.revokeEcdsa).toNat
  (l.put R.KP_REVOKE_LMS u.revokeLms.toNat).put R.KP_REVOKE_ECDSA u.revokeEcdsa.toNat

/-- Words of the register space as bytes. -/
def Lane.wordsAt (l : Lane) (as : List Nat) : List Byte := as.flatMap fun a => beBytes 4 (l.word a).toNat

/-- The status of a reply (R481): class and detail. -/
structure Status where
  cls : Nat
  detail : Nat
  deriving DecidableEq, Repr

def Status.ok : Status := ⟨0, 0⟩
def Status.busy (d : Nat) : Status := ⟨1, d⟩
def Status.retry (d : Nat) : Status := ⟨2, d⟩
def Status.locked (d : Nat) : Status := ⟨3, d⟩
def Status.param (d : Nat) : Status := ⟨5, d⟩
def Status.format (d : Nat) : Status := ⟨6, d⟩
def Status.auth (d : Nat) : Status := ⟨7, d⟩
def Status.notAgreed (d : Nat) : Status := ⟨8, d⟩
def Status.noSpot (d : Nat) : Status := ⟨10, d⟩
def Status.image (d : Nat) : Status := ⟨11, d⟩

/-- STATE with MSTATE (R481). -/
def Lane.stateStatus (l : Lane) : Status := ⟨4, l.get R.LC_STATE_MSTATE⟩

/-- PROMPTBOOK with the state byte (R336). -/
def Lane.bookStatus (l : Lane) : Status := ⟨9, l.trust.state⟩

/-- A seat holds a presented source in this lane's callboard (CB_PRES, R503). -/
def Lane.presented (l : Lane) (s : Nat) : Bool := l.flag (R.CB_PRES_VALID s)

/-- ATN_x: the port's reply queue is not empty, or the port's seat has a presented source (R467, R503). -/
def Lane.atn (l : Lane) : Lane :=
  let l := l.put R.HS_PORT_RQ l.seats.replies.length
  l.putFlag R.HS_PORT_ATN (!l.seats.replies.isEmpty || l.presented (l.get R.HS_PORT_SEAT))

/-- The bytes of a reply (R471). -/
def replyBytes (r : Reply) : List Byte :=
  let lane : Nat := match r.lane with | .A => 0 | .B => 1 | .C => 2
  let b := beBytes 1 1 ++ beBytes 1 (lane * 16 + r.seat.val) ++ beBytes 1 r.cls ++ beBytes 1 r.detail ++
    beBytes 2 r.seq.toNat ++ beBytes 2 r.opcode ++ beBytes 2 r.payload.length ++ beBytes 1 (r.lstate * 16 + r.mstate) ++
    beBytes 1 0 ++ beBytes 4 r.session.toNat ++ r.payload
  b ++ beBytes 4 (crc32c b).toNat ++ (if r.tagged then beBytes 16 (Config.replyTag r).toNat else [])

/-- The CAN segments of some bytes (R469), from index `k` on: transfer number `num`, the last one padded with 0. -/
def segments (num : Nat) : Nat → Nat → List Byte → List (List Byte)
  | 0, _, _ => []
  | n + 1, k, b =>
    let last := decide (b.length ≤ 62)
    let head := (if k = 0 then 128 else 0) + (if last then 64 else 0) + k % 64
    let seg := beBytes 1 head ++ beBytes 1 num ++ b.take 62 ++ List.replicate (62 - b.length) 0
    if last then [seg] else seg :: segments num n (k + 1) (b.drop 62)

/-- Word `w` of bytes in the order of a CAN buffer (R434): byte 4w + i in bits [8i + 7 : 8i]. -/
def canWord (b : List Byte) (w : Nat) : Word := b.getD (4 * w + 3) 0 ++ b.getD (4 * w + 2) 0 ++ b.getD (4 * w + 1) 0 ++ b.getD (4 * w) 0

/-- The network engine puts the next reply segment of a seat into its transmit buffer, where that waits for nothing
(R436, R469): a 64-byte FD frame. -/
def Lane.loadCan (l : Lane) (s : Seat) : Lane :=
  let k : Can := Fin.ofNat 2 (l.get (R.HS_SCAN_CTRL s))
  let b := l.bufIdx (R.HS_SCAN_TXBUF s)
  match l.seats.canOut[s] with
  | [] => l
  | g :: r =>
    if !l.flag (R.HS_SCAN_EN s) ∨ l.flag (R.CN_BCTL_READY k b) then l
    else
      let l := (List.range 16).foldl (fun l w => l.setWord (R.CN_BDAT k b w) (canWord g w)) l
      let l := ((l.raise (R.CN_BCTL_FDF k b)).put (R.CN_BCTL_DLC k b) 15).raise (R.CN_BCTL_READY k b)
      l.onSeats fun q => { q with canOut := q.canOut.set s r }

/-- Queues a reply on the path by which the lane received the packet directly; never over a wing link (R467 to R469,
R477). -/
def Lane.queueReply (l : Lane) (path : Option Path) (r : Reply) : Lane :=
  match path with
  | some .port =>
    if l.seats.replies.length < 8 then (l.onSeats fun s => { s with replies := s.replies ++ [r] }).atn
    else (l.bump R.HS_CNT2_OVF).raise R.HS_EVT_OVF
  | some (.ring _) => l.onSeats fun s => { s with ringReplies := s.ringReplies ++ [r] }
  | some (.can k) =>
    (l.onSeats fun s => { s with
      canOut := s.canOut.set k (s.canOut[k] ++ segments (s.canNum[k] % 256) 64 0 (replyBytes r))
      canNum := s.canNum.set k (s.canNum[k] + 1) }).loadCan k
  | some .wing => l
  | none => l

/-- The reply to a packet with header `h` (R471). -/
def Lane.mkReply (l : Lane) (h : Hdr) (st : Status) (payload : List Byte) (tagged : Bool) : Reply :=
  { lane := l.id, seat := h.seat, cls := st.cls, detail := st.detail, seq := h.seq, opcode := h.opcode,
    payload := payload, lstate := l.get R.LC_STATE_LSTATE, mstate := l.get R.LC_STATE_MSTATE, session := h.session,
    tagged := tagged }

/-- The counters and the seat's last status follow a reply (R496). -/
def Lane.countReply (l : Lane) (h : Hdr) (st : Status) : Lane :=
  let l := l.when (st.cls == 1) fun l => l.bump R.HS_CNT1_BUSY
  let l := l.when (st.cls != 0 && st.cls != 1) fun l => l.bump R.HS_CNT3_REFUSED
  let l := l.put (R.HS_SLAST_CLASS h.seat) st.cls
  let l := l.put (R.HS_SLAST_DETAIL h.seat) st.detail
  l.put (R.HS_SLAST_OPCODE h.seat) h.opcode

/-- A reply leaves on the path of a direct copy; NOREPLY suppresses OK (R470, R477). -/
def Lane.sendReply (l : Lane) (h : Hdr) (path : Option Path) (r : Reply) : Lane :=
  if h.noReply ∧ r.cls = 0 then l
  else
    match path with
    | none | some .wing => l
    | p => (l.countReply h ⟨r.cls, r.detail⟩).queueReply p r

/-- Replies to a packet. -/
def Lane.reply (l : Lane) (h : Hdr) (path : Option Path) (st : Status) (payload : List Byte) (tagged : Bool) : Lane :=
  l.sendReply h path (l.mkReply h st payload tagged)

/-- The reply of an agreed command is stored: for each seat the last eight, used for 1 s (R478). -/
def Lane.keepReply (l : Lane) (h : Hdr) (r : Reply) : Lane :=
  if l.seats.seen.any (fun x => x.1 == h.fp) then
    let same (x : Stored) : Bool := x.reply.seat == h.seat
    l.onSeats fun s => { s with
      stored := ⟨h.fp, r, l.now⟩ :: ((s.stored.filter same).take 7 ++ s.stored.filter fun x => !same x) }
  else l

/-- A reply of an executed command; an agreed command's reply is stored (R478). -/
def Lane.answerTagged (l : Lane) (h : Hdr) (path : Option Path) (st : Status) (payload : List Byte) (tagged : Bool) : Lane :=
  (l.keepReply h (l.mkReply h st payload tagged)).reply h path st payload tagged

/-- A reply of an executed command: tagged when the request carried a tag (R471). -/
def Lane.answer (l : Lane) (h : Hdr) (path : Option Path) (st : Status) (payload : List Byte) : Lane :=
  l.answerTagged h path st payload (decide (0 < h.cls))

/-- A seat's session ends (R476); a load session that its seat has open closes with it (R483). -/
def Lane.endSession (l : Lane) (s : Seat) : Lane :=
  if l.flag (R.HS_SSEQ_OPEN s) then
    let l := (l.drop (R.HS_SSEQ_OPEN s)).raise R.HS_EVT_SESCLOSE
    l.onTrust fun t => { t with load := match t.load with | some x => if x.seat = s then none else some x | none => none }
  else l

end Sys2Proof.Machine
end

