-- ==== Sys2Proof/Machine/Image.lean ====
section
/-!
DEFINITION. The envelope of firmware images and prompt books, and the slot records of the boot flash (R316 to R322).
-/

namespace Sys2Proof.Machine

/-! ### The header (R318) -/

/-- `n` bytes of an image's header from byte `at_`, as a number (R8, R318). -/
def imageField (e : Envelope) (at_ n : Nat) : Nat := beNat ((e.header.drop at_).take n)

/-- The firmware version of a firmware image; the minimum firmware version of a prompt book. -/
def imageVersion (e : Envelope) : Nat := imageField e 12 2

/-- The security version of a firmware image. -/
def imageSecurity (e : Envelope) : Nat := imageField e 14 1

/-- The issue number of a prompt book. -/
def imageIssue (e : Envelope) : Nat := imageField e 16 4

/-- The identifiers of the keys that sign an image. -/
def ecdsaId (e : Envelope) : BitVec 64 := BitVec.ofNat 64 (imageField e 20 8)

/-- See `ecdsaId`. -/
def lmsId (e : Envelope) : BitVec 64 := BitVec.ofNat 64 (imageField e 28 8)

/-- The bytes of the signature block: the ECDSA signature of 96 bytes and the LMS signature of 1,612. -/
def signatureBlock : Nat := 1708

/-- The header is as R318 lays it out for an image of its kind, and the image has the length it announces. -/
def envelopeOk (firmware : Bool) (e : Envelope) : Bool :=
  e.header.length == 64 && imageField e 0 4 == (if firmware then 0x41534B46 else 0x41534B50) &&
  imageField e 4 2 == 1 && imageField e 6 2 == 0 && imageField e 15 1 == 0 && imageField e 36 28 == 0 &&
  (if firmware then decide (imageSecurity e ≤ 64) && imageIssue e == 0 else imageSecurity e == 0) &&
  e.size == 64 + imageField e 8 4 + signatureBlock

/-! ### Slot records (R317) -/

/-- What a record's CRC covers: write sequence, length, digest, in the order R317 names them (assumption 96). -/
def slotRecordBytes (r : SlotRecord) : List Byte :=
  beBytes 4 r.seq.toNat ++ beBytes 4 r.length ++ beBytes 48 r.digest.toNat

/-- The record the keeper writes. -/
def makeRecord (seq : Word) (length : Nat) (digest : BitVec 384) : SlotRecord :=
  let r : SlotRecord := ⟨seq, length, digest, 0⟩
  { r with crc := crc32c (slotRecordBytes r) }

/-- A record passes its CRC and agrees with its image (R317). -/
def recordOk (r : SlotRecord) (size : Nat) (digest : BitVec 384) : Bool :=
  r.crc == crc32c (slotRecordBytes r) && r.length == size && r.digest == digest

/-- The valid firmware slots with their write sequences (R317). -/
def Lane.fwSlots (l : Lane) : Vector (Option (Nat × FwImage)) 2 :=
  l.trust.flash.fw.map fun s => s.bind fun x =>
    if recordOk x.1 x.2.envelope.size x.2.digest then some (x.1.seq.toNat, x.2) else none

/-- The valid prompt-book slots with their write sequences (R317). -/
def Lane.pbSlots (l : Lane) : Vector (Option (Nat × Book)) 2 :=
  l.trust.flash.pb.map fun s => s.bind fun x =>
    if recordOk x.1 x.2.envelope.size x.2.digest then some (x.1.seq.toNat, x.2) else none

/-- The order in which the keeper tries slots: valid ones, the higher write sequence first (R317, R323). -/
def slotOrder (s : Vector (Option (Nat × α)) 2) : List (Fin 2) :=
  match s[0], s[1] with
  | some a, some b => if a.1 < b.1 then [1, 0] else [0, 1]
  | some _, none => [0]
  | none, some _ => [1]
  | none, none => []

/-- The active slot (R317). -/
def activeSlot (s : Vector (Option (Nat × α)) 2) : Option (Fin 2) := (slotOrder s).head?

/-- The slot a load writes: the one that is not active. -/
def inactiveSlot (s : Vector (Option (Nat × α)) 2) : Fin 2 := match activeSlot s with | some 0 => 1 | _ => 0

/-- The write sequence of a new record: above every valid one (R317). -/
def nextWrite (s : Vector (Option (Nat × α)) 2) : Nat :=
  max ((s[0].map (·.1)).getD 0) ((s[1].map (·.1)).getD 0) + 1

/-! ### Verification (R319 to R322) -/

/-- Why a firmware image is refused (R319 to R321, R481). -/
def Lane.firmwareRefused (l : Lane) (f : FwImage) : Option Nat :=
  let u := l.trust.fuses
  if !envelopeOk true f.envelope then some 1
  else if !(f.ecdsaOk && ecdsaId f.envelope == u.romEcdsa) then some 2
  else if !(f.lmsOk && lmsId f.envelope == u.romLms) then some 3
  else if imageSecurity f.envelope < u.counter then some 4
  else none

/-- The key in a slot has the identifier the header names, and is not revoked (R320, R532). -/
def keyOk (revoked : BitVec 4) (keys : Vector (BitVec 64) 4) (ident : BitVec 64) : Option (Fin 4) → Bool
  | some k => !revoked.getLsbD k.val && keys[k] == ident
  | none => false

/-- The issue is not rolled back (R322). -/
def Lane.issueOk (l : Lane) (b : Book) : Bool :=
  let f := l.trust.flash
  decide (f.issue ≤ imageIssue b.envelope) && (imageIssue b.envelope != f.issue || f.digest == 0 || f.digest == b.digest)

/-- Envelope, signatures and issue of a book (R319, R320, R322, R330): the code of the first check that fails. -/
def Lane.verifyBook (l : Lane) (b : Book) : Option Nat :=
  let u := l.trust.fuses
  if !envelopeOk false b.envelope then some 1
  else if !keyOk u.revokeEcdsa u.keyEcdsa (ecdsaId b.envelope) b.ecdsa then some 2
  else if !keyOk u.revokeLms u.keyLms (lmsId b.envelope) b.lms then some 3
  else if !l.issueOk b then some 4
  else none

end Sys2Proof.Machine
end

