-- ==== Sys2Proof/Machine/Links.lean ====
section
/-!
DEFINITION. The wing links of a lane (R251 to R257): sending, acknowledgement, training and loss. Link and peer 0 are
peer 1, link and peer 1 are peer 2.
-/

namespace Sys2Proof.Machine

/-- The lane that is a peer of lane `id`: peer 1 is the next in the order A, B, C, A. -/
def peerLane : LaneId → Peer → LaneId
  | .A, 0 => .B | .A, 1 => .C
  | .B, 0 => .C | .B, 1 => .A
  | .C, 0 => .A | .C, 1 => .B

/-- The other peer. -/
def otherPeer (p : Peer) : Peer := if p = 0 then 1 else 0

/-- A lane's number: 0 A, 1 B, 2 C. -/
def laneNum : LaneId → Nat
  | .A => 0 | .B => 1 | .C => 2

/-- The states of WG_STAT[L1] and [L2]. -/
inductive LinkMode where
  | down | train | up | lost
  deriving DecidableEq, Repr

def LinkMode.code : LinkMode → Nat
  | .down => 0 | .train => 1 | .up => 2 | .lost => 3

/-- The field of WG_STAT that shows a link. -/
def linkFld (p : Peer) : Fld := if p = 0 then R.WG_STAT_L1 else R.WG_STAT_L2

def Lane.linkMode (l : Lane) (p : Peer) : LinkMode :=
  match l.get (linkFld p) with | 1 => .train | 2 => .up | 3 => .lost | _ => .down

def Lane.setLink (l : Lane) (p : Peer) (m : LinkMode) : Lane := l.put (linkFld p) m.code

/-- Changes what the lane holds of one link end. -/
def Lane.onLinkEnd (l : Lane) (p : Peer) (f : LinkEnd → LinkEnd) : Lane :=
  l.onWing fun w => { w with links := w.links.set p (f w.links[p]) }

/-- This end holds the link DOWN: four LOST declarations, or its serdes is unusable (R256, R362). -/
def Lane.linkHeld (l : Lane) (p : Peer) : Bool :=
  decide (4 ≤ (l.wing.links[p]).lostCount) || l.bit R.BI_UNUS_WING p.val

/-- A link that the declaration of lane C as absent has the lanes ignore: B–C and C–A. -/
def Lane.linkIgnored (l : Lane) (p : Peer) : Bool := l.flag R.LC_STATE_CABS && (l.id == .C || peerLane l.id p == .C)

/-- The beat's number within its cycle. -/
def Lane.beatIn (l : Lane) : Nat := l.wing.beatNo % l.get R.VR_CYC_LEN

/-- The header of a frame this lane sends now (R252): it acknowledges the last frame received in order on the link. -/
def Lane.frameHdr (l : Lane) (p : Peer) (kind : BitVec 4) (dst seq len : Nat) : FrameHdr where
  kind := kind
  src := BitVec.ofNat 2 (laneNum l.id)
  dst := BitVec.ofNat 2 dst
  seq := BitVec.ofNat 8 seq
  ack := BitVec.ofNat 8 (l.wing.links[p]).rxSeq
  beat := BitVec.ofNat 8 l.beatIn
  cycle := BitVec.ofNat 16 l.mode_.cycle
  len := BitVec.ofNat 16 len

/-- A frame of sequence `seq` leaves on a link, addressed to the peer there. -/
def Lane.emitFrame (l : Lane) (p : Peer) (seq : Nat) (f : WingFrame) : Lane :=
  l.send (.wing p (frameBytes (l.frameHdr p f.kind (laneNum (peerLane l.id p)) seq f.payload.length) f.payload) f)

/-- The summary leaves on a link, addressed to both peers, with link sequence 0 (R252, R254). -/
def Lane.emitSummary (l : Lane) (p : Peer) (s : Summary) : Lane :=
  l.send (.summary p (frameBytes (l.frameHdr p 1 3 0 244) (summaryBytes s)) s)

/-- The quiet span of R254: from 9.00 µs after the beat start to the end of the summary no other frame starts. The latest
summary starts at 12.44 µs and lasts 2.56 µs. -/
def Lane.quiet (l : Lane) : Bool :=
  l.wing.own.isSome && decide (l.wing.beatAt + us 9 ≤ l.now ∧ l.now < l.wing.beatAt + us 15)

/-- A non-summary frame leaves: it takes the next link sequence and waits for its acknowledgement (R255). -/
def Lane.putFrame (l : Lane) (p : Peer) (f : WingFrame) : Lane :=
  let k := (l.wing.links[p]).txSeq
  let l := l.onLinkEnd p fun e => { e with txSeq := (k + 1) % 256, unacked := e.unacked ++ [⟨k, f, l.now, 0⟩] }
  l.emitFrame p k f

/-- The frames that waited for the end of the quiet span leave, in their order (R254). -/
def Lane.flushLink (l : Lane) (p : Peer) : Lane :=
  if l.quiet then l
  else
    let q := (l.wing.links[p]).waiting
    q.foldl (fun l f => l.putFrame p f) (l.onLinkEnd p fun e => { e with waiting := [] })

/-- See `Lane.flushLink`. -/
def Lane.flushLinks (l : Lane) : Lane := (l.flushLink 0).flushLink 1

/-- Sends a non-summary frame on an UP link, after the quiet span where that runs (R254, R255). -/
def Lane.sendFrame (l : Lane) (p : Peer) (f : WingFrame) : Lane :=
  if l.linkMode p = .up then (l.onLinkEnd p fun e => { e with waiting := e.waiting ++ [f] }).flushLink p else l

/-- A HELLO on a link that is DOWN or in TRAIN, not held DOWN, outside the quiet span (R256): it carries the reference figure
(R360) and the lane time (R419), and shows the last link sequence used. One stands for the run sent back to back. -/
def Lane.sendHello (l : Lane) (p : Peer) : Lane :=
  if (l.linkMode p = .down ∨ l.linkMode p = .train) ∧ !l.linkHeld p ∧ !l.linkIgnored p ∧ !l.quiet then
    l.emitFrame p (((l.wing.links[p]).txSeq + 255) % 256) (.hello (l.get R.BI_REFFIG_OWN) (l.ltime / 2 ^ 22))
  else l

/-- See `Lane.sendHello`. -/
def Lane.sendHellos (l : Lane) : Lane := (l.sendHello 0).sendHello 1

/-- Sends a frame on both wing links. -/
def Lane.sendBoth (l : Lane) (f : WingFrame) : Lane := (l.sendFrame 0 f).sendFrame 1 f

/-- Sends a frame to the lane `id`, where that is a peer. -/
def Lane.sendTo (l : Lane) (id : LaneId) (f : WingFrame) : Lane :=
  if peerLane l.id 0 = id then l.sendFrame 0 f
  else if peerLane l.id 1 = id then l.sendFrame 1 f
  else l

/-- The link is declared LOST; the fourth declaration holds it DOWN (R255, R256). -/
def Lane.loseLink (l : Lane) (p : Peer) : Lane :=
  let n := (l.wing.links[p]).lostCount + 1
  let l := l.onLinkEnd p fun e => { e with lostCount := n, unacked := [], waiting := [], segs := [], good := 0 }
  (l.raise R.WG_EVT_LLOST).setLink p (if 4 ≤ n then .down else .lost)

/-- A frame without error on a link counts toward UP in TRAIN (R256). -/
def Lane.aliveLink (l : Lane) (p : Peer) : Lane :=
  let l := l.onLinkEnd p fun e => { e with lastValid := l.now }
  if l.linkMode p = .train then
    let g := (l.wing.links[p]).good + 1
    let l := l.onLinkEnd p fun e => { e with good := g }
    if 16 ≤ g then l.setLink p .up else l
  else l

/-- A valid frame of the link's peer: it also acknowledges (R255). -/
def Lane.validFrame (l : Lane) (p : Peer) (ack : BitVec 8) : Lane :=
  let newer (u : Unacked) : Bool := decide (128 ≤ (ack.toNat + 256 - u.seq) % 256)
  (l.onLinkEnd p fun e => { e with unacked := e.unacked.filter newer }).aliveLink p

/-- A non-summary frame is used when it is the next in order; an earlier one is a repeat, a later one comes again
(R255). -/
def Lane.inOrder (l : Lane) (p : Peer) (seq : BitVec 8) : Bool :=
  seq.toNat == ((l.wing.links[p]).rxSeq + 1) % 256

/-- Receives a non-summary frame: `f` is what it does when it is the next in order. -/
def Lane.receive (l : Lane) (p : Peer) (h : FrameHdr) (f : Lane → Lane) : Lane :=
  if l.linkIgnored p then l
  else
    let l := l.validFrame p h.ack
    if l.inOrder p h.seq then f (l.onLinkEnd p fun e => { e with rxSeq := h.seq.toNat }) else l

/-- Every frame that has waited 20 µs for its acknowledgement is sent again, outside the quiet span; one whose second repeat
went unacknowledged declares the link LOST (R254, R255). -/
def Lane.resend (l : Lane) (p : Peer) : Lane :=
  let due (u : Unacked) : Bool := l.since u.sentAt (us 20)
  let q := (l.wing.links[p]).unacked
  if q.any fun u => due u && decide (2 ≤ u.repeats) then l.loseLink p
  else if l.quiet then l
  else
    let again (u : Unacked) : Unacked := if due u then { u with sentAt := l.now, repeats := u.repeats + 1 } else u
    (q.filter due).foldl (fun l u => l.emitFrame p u.seq u.frame) (l.onLinkEnd p fun e => { e with unacked := e.unacked.map again })

/-- A frame that fails its check, or of a reserved type (R24, R251, R253): counted; 16 in a cycle lose an UP link, and a run of TRAIN begins anew. -/
def Lane.spoiledFrame (l : Lane) (p : Peer) : Lane :=
  let l := l.bump (if p = 0 then R.WG_P1CNT_CRC else R.WG_P2CNT_CRC)
  let l := l.onLinkEnd p fun e => { e with failed := e.failed + 1, good := 0 }
  if l.linkMode p = .up ∧ 16 ≤ (l.wing.links[p]).failed then l.loseLink p else l

/-- A HELLO frame (R256): with both ends sending them a DOWN link passes to TRAIN, and it sets the sequence to follow. -/
def Lane.trainLink (l : Lane) (p : Peer) (h : FrameHdr) : Lane :=
  if l.linkHeld p ∨ l.linkIgnored p then l
  else
    let was := l.linkMode p
    let l := (l.validFrame p h.ack).onLinkEnd p fun e => { e with rxSeq := h.seq.toNat, segs := [], peerHello := true }
    let l := if was = .down then (l.setLink p .train).onLinkEnd p fun e => { e with good := 0 } else l
    l.sendHello p

end Sys2Proof.Machine
end

