-- ==== Sys2Proof/Machine/Understudy.lean ====
section
/-!
DEFINITION. The understudy of an axis (R76 to R80, R100): applied voltages, integration, reconstruction, correction.
Quantities are exact rationals in SI units; angles are in units of 65,536 per electrical turn.
-/

namespace Sys2Proof.Machine

/-- The half-bridge of a switch (R87, R112). -/
def phaseOf (j : Switch) : Phase := ⟨j.val / 2, by omega⟩

/-- The high side of a half-bridge. -/
def highOf (p : Phase) : Switch := ⟨2 * p.val, by omega⟩

/-- The low side of a half-bridge. -/
def lowOf (p : Phase) : Switch := ⟨2 * p.val + 1, by omega⟩

/-- The other switch of the half-bridge. -/
def peerOf (j : Switch) : Switch := if j.val % 2 = 0 then lowOf (phaseOf j) else highOf (phaseOf j)

/-- The switches applied on, as the power die reports them (GD_STAT[ON], R76). -/
def Lane.on (l : Lane) (n : Axis) : BitVec 6 := BitVec.ofNat 6 (l.get (R.GD_STAT_ON n))

/-- The axis state of DC_STAT[AXST]. -/
inductive Axst where
  | off | run | asc | decay | probe | out
  deriving DecidableEq, Repr

def Axst.code : Axst → Nat
  | .off => 0 | .run => 1 | .asc => 2 | .decay => 3 | .probe => 4 | .out => 5

def Lane.axst (l : Lane) (n : Axis) : Axst :=
  match l.get (R.DC_STAT_AXST n) with
  | 1 => .run | 2 => .asc | 3 => .decay | 4 => .probe | 5 => .out | _ => .off

def Lane.setAxst (l : Lane) (n : Axis) (a : Axst) : Lane := l.put (R.DC_STAT_AXST n) a.code

/-- The winding set is in service (R98). -/
def Lane.inService (l : Lane) (n : Axis) : Bool := l.axst n != .out

/-- The set is in a re-catch (R97). -/
def Lane.inRecatch (l : Lane) (n : Axis) : Bool := l.axst n == .asc || l.axst n == .decay || l.axst n == .probe

/-- The feedback of the axis is valid (R189). -/
def Lane.fbValid (l : Lane) (n : Axis) : Bool := l.flag (R.FB_STAT_VALID n)

/-- The speed of feedback at the moment `at_` in counts per second, bounded by the time since the last counted edge
(R184). In serial-only mode no edge bounds it (R188). -/
def Lane.countSpeedAt (l : Lane) (n : Axis) (at_ : Nat) : Rat :=
  let f := (l.ax n).fb
  match f.stamps with
  | [] => f.measured
  | t :: _ =>
    if l.get (R.FB_CFG_INC n) = 0 ∨ at_ ≤ t then f.measured
    else
      let bound : Rat := 4000000000 / ((at_ - t : Nat) : Rat)
      if f.measured < -bound then -bound else if bound < f.measured then bound else f.measured

/-- The speed of feedback now. -/
def Lane.countSpeed (l : Lane) (n : Axis) : Rat := l.countSpeedAt n l.now

/-- The speed in units of 0.1 rpm. -/
def Lane.rpm10 (l : Lane) (n : Axis) : Rat := l.countSpeed n * 600 / (l.get (R.DC_CPR_CPR n) : Rat)

/-- The electrical speed in rad/s (R82). -/
def Lane.elecSpeed (l : Lane) (n : Axis) : Rat :=
  l.countSpeed n / (l.get (R.DC_CPR_CPR n) : Rat) * Config.radPerTurn * (l.get (R.DC_MOT0_POLEP n) : Rat)

/-- A magnitude. -/
def ratAbs (x : Rat) : Rat := if x < 0 then -x else x

/-- An angle brought into one turn. -/
def angleMod (x : Rat) : Rat := x - 65536 * ((x / 65536).floor : Rat)

/-- An angle difference brought into half a turn either side of 0. -/
def angleDiff (x : Rat) : Rat := angleMod (x + 32768) - 32768

/-- theta_enc at the moment `at_` (R77): the counter, extrapolated from the last edge by the speed but by no more than one
count, as an electrical angle; negated with DIRINV. -/
def Lane.thetaEncAt (l : Lane) (n : Axis) (at_ : Nat) : Rat :=
  let f := (l.ax n).fb
  let dt : Rat := match f.stamps with | [] => 0 | t :: _ => (((at_ : Int) - t : Int) : Rat) / 4000000000
  let x := l.countSpeedAt n at_ * dt
  let ext := if x < -1 then -1 else if 1 < x then 1 else x
  let th := ((l.get (R.FB_POS_POS n) : Rat) + ext) * 65536 * (l.get (R.DC_MOT0_POLEP n) : Rat)
    / (l.get (R.DC_CPR_CPR n) : Rat)
  angleMod (if l.flag (R.DC_CTRL_DIRINV n) then -th else th)

/-- theta_enc now. -/
def Lane.thetaEnc (l : Lane) (n : Axis) : Rat := l.thetaEncAt n l.now

/-- The winding resistance at the winding temperature of the box office (R76, R293). -/
def Lane.rs (l : Lane) (n : Axis) : Rat :=
  (l.get (R.DC_MOT0_RS n) : Rat) / 100000 *
    (1 + 393 / 100000 * ((l.getInt (R.BX_WTEMP_TW n) : Rat) / 10 - 20))

def Lane.ld (l : Lane) (n : Axis) : Rat := (l.get (R.DC_MOT1_LD n) : Rat) / 10000000
def Lane.lq (l : Lane) (n : Axis) : Rat := (l.get (R.DC_MOT1_LQ n) : Rat) / 10000000
def Lane.psim (l : Lane) (n : Axis) : Rat := (l.get (R.DC_MOT2_PSIM n) : Rat) / 1000000

/-- The back-EMF angle: the angle of the rotor flux ψ − L × i (R100), with Lq for L (assumption 12). -/
def Lane.backEmfAngle (l : Lane) (n : Axis) : Rat :=
  let u := (l.ax n).us
  (Config.atan2Turn (u.psiB - l.lq n * u.ib) (u.psiA - l.lq n * u.ia) : Rat)

/-- The rotor angle in use at the moment `at_`: theta, or the back-EMF angle during a substitute (R76, R101). -/
def Lane.thetaAt (l : Lane) (n : Axis) (at_ : Nat) : Rat :=
  if l.flag (R.DC_STAT_SUBST n) then l.backEmfAngle n
  else angleMod (l.thetaEncAt n at_ + (l.get (R.DC_THOFS_OFS n) : Rat) + (l.getInt (R.DC_TRIM_TRIM n) : Rat))

/-- The reconstructed current of a phase (R76). -/
def Lane.phaseCurrent (l : Lane) (n : Axis) (p : Phase) : Rat :=
  let u := (l.ax n).us
  match p with
  | 0 => u.ia
  | 1 => -u.ia / 2 + u.ib * Config.sqrt 3 / 2
  | 2 => -u.ia - (-u.ia / 2 + u.ib * Config.sqrt 3 / 2)

/-- The current of one threshold code (R71). -/
def Lane.ampsPerCode (l : Lane) (n : Axis) : Rat := (3 / 1024) / ((l.get (R.DC_SCALE_ISENS n) : Rat) / 100000)

/-- The code of ladder level `k` (R73). -/
def Lane.ladderCode (l : Lane) (n : Axis) (k : Nat) : Nat :=
  if k % 2 = 0 then l.get (R.DC_LAD_LO n (k / 2)) else l.get (R.DC_LAD_HI n (k / 2))

/-- The trim that DC_ISOFS adds to every threshold of a phase, in codes (R71). -/
def Lane.isTrim (l : Lane) (n : Axis) (p : Phase) : Int :=
  match p with | 0 => l.getInt (R.DC_ISOFS_U n) | 1 => l.getInt (R.DC_ISOFS_V n) | 2 => l.getInt (R.DC_ISOFS_W n)

/-- The threshold of ladder level `k` on a phase, trim included (R71). -/
def Lane.levelCode (l : Lane) (n : Axis) (p : Phase) (k : Nat) : Int := (l.ladderCode n k : Int) + l.isTrim n p

/-- The enabled ladder levels. -/
def Lane.enabledLevels (l : Lane) (n : Axis) : List Nat := (List.range 8).filter fun k => l.bit (R.DC_LADCFG_EN n) k

/-- Codes of the enabled ladder levels. -/
def Lane.enabledCodes (l : Lane) (n : Axis) : List Nat := (l.enabledLevels n).map (l.ladderCode n)

/-- IDZ of a phase: the magnitude of its innermost enabled ladder level; 0 with none enabled (R76). -/
def Lane.idz (l : Lane) (n : Axis) (p : Phase) : Rat :=
  match (l.enabledLevels n).map (fun k => (l.levelCode n p k - 512).natAbs) with
  | [] => 0
  | x :: r => (r.foldl min x : Nat) * l.ampsPerCode n

/-- The node voltage of a phase from the state applied at the last update (R76). -/
def Lane.nodeVoltage (l : Lane) (n : Axis) (p : Phase) : Rat :=
  let vm : Rat := (l.get R.GD_VMSTAT_VM : Rat) / 100
  let rds : Rat := (l.get (R.DC_MOT2_RDS n) : Rat) / 10000
  let i := l.phaseCurrent n p
  let on := (l.ax n).us.applied
  if on.getLsbD (highOf p).val then vm - rds * i
  else if on.getLsbD (lowOf p).val then - (rds * i)
  else if l.idz n p < i then -(8 / 10)
  else if i < -(l.idz n p) then vm + 8 / 10
  else vm / 2

/-- The applied voltage in the stationary frame (R76). -/
def Lane.voltage (l : Lane) (n : Axis) : Rat × Rat :=
  let vu := l.nodeVoltage n 0
  let vv := l.nodeVoltage n 1
  let vw := l.nodeVoltage n 2
  ((2 * vu - vv - vw) / 3, (vv - vw) / Config.sqrt 3)

/-- The registers that show the estimates, at the rotor angle `th` (R102). -/
def Lane.showEstimates (l : Lane) (n : Axis) (th : Rat) : Lane :=
  let u := (l.ax n).us
  let tfs : Rat := (l.get (R.DC_SCALE_TFS n) : Rat) / 100
  let mag := Config.sqrt (u.psiA * u.psiA + u.psiB * u.psiB)
  let l := l.putInt (R.DC_TEST_EST n) (Config.quantize (u.te / tfs * 32768))
  let l := l.putInt (R.DC_PSI_EST n) (Config.quantize (mag * 1000000))
  let l := l.put (R.DC_ANGLE_FLUX n) (Config.atan2Turn u.psiB u.psiA)
  l.putInt (R.DC_ANGLE_ROTOR n) (Config.quantize th)

/-- The estimates that follow from the flux and the rotor angle at the moment `at_` (R76). -/
def Lane.reconstruct (l : Lane) (n : Axis) (at_ : Nat) : Lane :=
  let th := l.thetaAt n at_
  let u := (l.ax n).us
  let c := Config.cosTurn th
  let s := Config.sinTurn th
  let d := (u.psiA * c + u.psiB * s - l.psim n) / l.ld n
  let q := (-(u.psiA * s) + u.psiB * c) / l.lq n
  let ia := d * c - q * s
  let ib := d * s + q * c
  let te := 3 / 2 * (l.get (R.DC_MOT0_POLEP n) : Rat) * (u.psiA * ib - u.psiB * ia)
  (l.onAx n fun a => { a with us := { a.us with ia := ia, ib := ib, te := te } }).showEstimates n th

/-- One forward-Euler step over the exact interval since the last update (R78), with the applied state (R76). -/
def Lane.euler (l : Lane) (n : Axis) (t : Nat) : Lane :=
  let u := (l.ax n).us
  let dt : Rat := ((t - u.last : Nat) : Rat) / 4000000000
  let v := l.voltage n
  let l' := l.onAx n fun a =>
    { a with us := { a.us with
        psiA := u.psiA + (v.1 - l.rs n * u.ia) * dt
        psiB := u.psiB + (v.2 - l.rs n * u.ib) * dt
        last := max u.last t
        sq := u.sq + (u.ia * u.ia + u.ib * u.ib) * dt
        dropped := 0 } }
  l'.reconstruct n (max u.last t)

/-- The understudy advances to the moment `t`: one step for each change of the applied state on the way (R78). -/
def Lane.integrate (l : Lane) (n : Axis) (t : Nat) : Lane :=
  let trail := (l.ax n).us.trail
  let l := (trail.filter fun x => decide (x.1 ≤ t)).foldl (fun l x =>
    (l.euler n x.1).onAx n fun a => { a with us := { a.us with applied := x.2 } }) l
  (l.onAx n fun a => { a with us := { a.us with trail := trail.filter fun x => decide (t < x.1) } }).euler n t

/-- The slope dik/dt of a reconstructed phase current, from the equations of R76: the rates of the rotor-frame fluxes and
the turning of the frame. -/
def Lane.currentSlope (l : Lane) (n : Axis) (p : Phase) (at_ : Nat) : Rat :=
  let u := (l.ax n).us
  let th := l.thetaAt n at_
  let c := Config.cosTurn th
  let s := Config.sinTurn th
  let we := if l.flag (R.DC_CTRL_DIRINV n) then -(l.elecSpeed n) else l.elecSpeed n
  let v := l.voltage n
  let da := v.1 - l.rs n * u.ia
  let db := v.2 - l.rs n * u.ib
  let psd := u.psiA * c + u.psiB * s
  let psq := -(u.psiA * s) + u.psiB * c
  let did := (da * c + db * s + we * psq) / l.ld n
  let diq := (-(da * s) + db * c - we * psd) / l.lq n
  let dia := did * c - diq * s - we * u.ib
  let dib := did * s + diq * c + we * u.ia
  match p with
  | 0 => dia
  | 1 => -dia / 2 + dib * Config.sqrt 3 / 2
  | 2 => -dia / 2 - dib * Config.sqrt 3 / 2

/-- The threshold of an event: level L upward, L − HYS downward, or the peak threshold (R72, R73), with the trim of its
phase (R71). -/
def Lane.thresholdCode (l : Lane) (n : Axis) (ev : LadderEvent) : Int :=
  if ev.peak then
    (if ev.level = 7 then (l.get (R.DC_PEAK_PKP n) : Int) else (l.get (R.DC_PEAK_PKN n) : Int)) + l.isTrim n ev.phase
  else if ev.up then l.levelCode n ev.phase ev.level.val
  else l.levelCode n ev.phase ev.level.val - (l.get (R.DC_LADCFG_HYS n) : Int)

/-- The residual e of an event in codes, after the understudy has advanced to its stamp (R79). -/
def Lane.residualCodes (l : Lane) (n : Axis) (ev : LadderEvent) : Rat :=
  ((l.thresholdCode n ev - 512 : Int) : Rat) - l.phaseCurrent n ev.phase / l.ampsPerCode n

/-- The correction of R79 at the moment `at_` with the residual `e` in amperes on phase `p`: flux in the rotor frame and the
trim, which is clamped to its limit. -/
def Lane.correct (l : Lane) (n : Axis) (p : Phase) (e : Rat) (at_ : Nat) (probing : Bool) : Lane :=
  let th := l.thetaAt n at_
  let c := Config.cosTurn th
  let s := Config.sinTurn th
  let ua : Rat := match p with | 0 => e | 1 => -e / 2 | 2 => -e / 2
  let ub : Rat := match p with | 0 => 0 | 1 => e * Config.sqrt 3 / 2 | 2 => -(e * Config.sqrt 3 / 2)
  let dd := ua * c + ub * s
  let dq := -(ua * s) + ub * c
  let kc : Rat := (l.get (R.DC_RESID_KC n) : Rat) / 32768
  let kt : Rat := (if probing then (l.get (R.DC_TRIMK_KTHR n) : Rat) else (l.get (R.DC_TRIMK_KTHS n) : Rat)) / 32768
  let pd := kc * l.ld n * dd
  let pq := kc * l.lq n * dq
  let trim := (l.getInt (R.DC_TRIM_TRIM n)) - Config.quantize (kt * l.lq n * dq / l.psim n * 65536 / Config.radPerTurn)
  let lim : Int := (l.get (R.DC_TRIM_LIMIT n) : Int)
  let old := l.getInt (R.DC_TRIM_TRIM n)
  let hit := decide (lim ≤ trim ∨ trim ≤ -lim)
  let was := decide (lim ≤ old ∨ old ≤ -lim)
  let l := l.onAx n fun a =>
    { a with us := { a.us with psiA := a.us.psiA + (pd * c - pq * s), psiB := a.us.psiB + (pd * s + pq * c) } }
  let l := l.putInt (R.DC_TRIM_TRIM n) (if lim < trim then lim else if trim < -lim then -lim else trim)
  let l := l.when hit fun l => l.raise (R.DC_EVT_TRIMLIM n)
  let l := l.when (hit && !was) fun l => l.note (.trimLimit n)
  l.reconstruct n at_

end Sys2Proof.Machine
end

