-- ==== Sys2Proof/Machine/Switching.lean ====
section
/-!
DEFINITION. The hysteresis decision and the switches of an axis: comparators (R81, R82), table lookup (R83 to R92,
R147), the precedence of demands (R93) and what stands at the gate drivers.
-/

namespace Sys2Proof.Machine

/-- A mask of switches from a condition on each. -/
def bits6 (p : Switch → Bool) : BitVec 6 := BitVec.ofBoolListLE [p 0, p 1, p 2, p 3, p 4, p 5]

/-- A mask of half-bridges from a condition on each. -/
def bits3 (p : Phase → Bool) : BitVec 3 := BitVec.ofBoolListLE [p 0, p 1, p 2]

/-- How many bits of a mask are set. -/
def count6 (m : BitVec 6) : Nat := ((List.range 6).filter (fun j => m.getLsbD j)).length

/-- The low sides, and the high sides. -/
def lowMask : BitVec 6 := 0b101010
/-- See `lowMask`. -/
def highMask : BitVec 6 := 0b010101

/-- The switches a switching state VEC turns on: bit 2 U, bit 1 V, bit 0 W; 1 high side, 0 low side (R85). -/
def vecSwitches (vec : Nat) : BitVec 6 :=
  bits6 fun j => if j.val % 2 = 0 then vec.testBit (2 - (phaseOf j).val) else !vec.testBit (2 - (phaseOf j).val)

/-- The unavailable switches of an axis, for any cause (GD_STAT[UNAV]). -/
def Lane.unav (l : Lane) (n : Axis) : BitVec 6 := BitVec.ofNat 6 (l.get (R.GD_STAT_UNAV n))

/-- Causes that make a switch unavailable: a fault bit, a trip, a bootstrap lockout, a failed sweep or loop-back (R119,
R127, R131, R144, R357, R359). -/
def Lane.unavCauses (l : Lane) (n : Axis) : BitVec 6 :=
  BitVec.ofNat 6 (l.get (R.GD_FAULT_BLAT n)) ||| BitVec.ofNat 6 (l.get (R.GD_FAULT_GSTK n)) |||
  BitVec.ofNat 6 (l.get (R.GD_FAULT_LEAK n)) ||| BitVec.ofNat 6 (l.get (R.GD_FAULT_CEIL n)) |||
  BitVec.ofNat 6 (l.get (R.GD_FAULT_VDS n)) |||
  bits6 (fun j => (l.ax n).prot.trips.any (fun x => x.1 == j)) ||| (l.ax n).prot.outTrips |||
  BitVec.ofNat 6 (l.get R.BI_SWFAIL_SW / 2 ^ (6 * n.val)) |||
  bits6 (fun j => j.val % 2 == 0 && (l.ax n).prot.bstOut.getLsbD (phaseOf j).val)

/-- The masks of GD_STAT, DC_STAT and the degraded flag follow the causes (R87). -/
def Lane.markUnav (l : Lane) (n : Axis) : Lane :=
  let m := l.unavCauses n
  let l := l.put (R.GD_STAT_UNAV n) m.toNat
  let l := l.put (R.DC_STAT_SWAVAIL n) (0x3F - m.toNat)
  l.putFlag (R.DC_STAT_TBLDEG n) (count6 m == 1)

/-- The axis counts as at speed for OV3: the posted flag, or an estimate word older than 10 µs (R148). -/
def Lane.atSpeed (l : Lane) (n : Axis) : Bool :=
  (l.ax n).us.fast || decide ((l.ax n).us.lastWord + us 10 < l.now)

/-- An estimate word is transferred, with the at-speed flag (R148). -/
def Lane.postWord (l : Lane) (n : Axis) : Lane :=
  let fast := decide ((l.get R.GD_OVCFG_ASCSPD : Rat) / 10000 * (l.get (R.DC_REV_RATEDSPD n) : Rat) ≤ ratAbs (l.rpm10 n))
  l.onAx n fun a => { a with us := { a.us with lastWord := l.now, fast := fast } }

/-- The bridge takes its requests from the hysteresis decision (R111). -/
def Lane.internal (l : Lane) (n : Axis) : Bool := l.get (R.GD_CFG_SRC n) == 0

/-- A module state in which an axis may switch: with INTERNAL source from ARMED on and in WORKSHOP; with PE or PS only
in WORKSHOP (R109, R116, R553). In DEGRADED from HOLD an axis waits for its first SETPOINT (R556). -/
def Lane.modeDrives (l : Lane) (n : Axis) : Bool :=
  match l.mode with
  | .workshop => true
  | .armed | .performing | .ghost | .curtain => l.internal n
  | .degraded => l.internal n && !l.mode_.enableFirst.getLsbD n.val
  | _ => false

/-- A demand of rank 2 of R93 holds all six switches off; without a confirmed book every gate driver stays off (R336). -/
def Lane.blocked (l : Lane) (n : Axis) : Bool :=
  !l.logicUp || l.lstate != .live || l.link.ovmax || l.power.vgSince.isSome || l.power.testHigh ||
  l.trust.state != 5 || l.wing.serialBad || !l.flag (R.DC_CTRL_EN n) || !l.modeDrives n || !l.inService n

/-- The demand of rank 3: the active short circuit, or all six off in decay and at OV3 below speed. An OV2 stage acts on
a PE or PS bridge as OV3 does (R117). -/
def Lane.rank3 (l : Lane) (n : Axis) : Option (BitVec 6) :=
  if l.axst n = .asc then some lowMask
  else if l.link.ov3 || (l.link.ov2 && !l.internal n) then some (if l.atSpeed n then lowMask else 0)
  else if l.axst n = .decay then some 0
  else none

/-- The demands below rank 3: precharge state 000 (R132), a running refresh insertion (R136, R139), the source. -/
def Lane.lowerDemand (l : Lane) (n : Axis) : BitVec 6 :=
  let a := l.ax n
  if a.refresh.precharge.isSome then lowMask
  else
    bits6 fun j =>
      if a.refresh.inserting.getLsbD (phaseOf j).val then j.val % 2 == 1 else a.sw.want.getLsbD j.val

/-- What a rank 1 demand holds off: unavailable switches, switches a peak trip turned off whose request has not come
anew, switches on which the copies disagree, the peer of a gate-off failure (R84, R119, R124, R127). -/
def Lane.rank1 (l : Lane) (n : Axis) : BitVec 6 :=
  let a := l.ax n
  l.unav n ||| (a.sw.peakHeld &&& ~~~(a.sw.peakFree &&& a.sw.want)) ||| a.prot.disagree |||
    bits6 (fun j => l.bit (R.GD_FAULT_GSTK n) (peerOf j).val)

/-- What stands at the gate-driver inputs (R93). -/
def Lane.gateCommand (l : Lane) (n : Axis) : BitVec 6 :=
  if l.blocked n then 0 else ((l.rank3 n).getD (l.lowerDemand n)) &&& ~~~(l.rank1 n)

/-- The running hold-release checks that `p` names are aborted: the pull-down is restored, the request stays (R143). -/
def Lane.leakAbortOf (l : Lane) (n : Axis) (p : Switch → Bool) : Lane :=
  if (l.ax n).leak.running.any fun x => p x.1 then
    (l.onAx n fun a => { a with leak := ⟨a.leak.running.filter fun x => !p x.1⟩ }).raise (R.GD_EVT_LKABT n)
  else l

/-- Every running hold-release check of the axis is aborted. -/
def Lane.leakAbort (l : Lane) (n : Axis) : Lane := l.leakAbortOf n fun _ => true

/-- Demands of rank 2 (bit 0) and of rank 3 (bit 1) that stand now (R93). -/
def Lane.highDemand (l : Lane) (n : Axis) : BitVec 2 := BitVec.ofBoolListLE [l.blocked n, (l.rank3 n).isSome]

/-- The applied state of the bridge changes, which the understudy is told with its moment (R76, R78). -/
def Lane.setOn (l : Lane) (n : Axis) (on : BitVec 6) : Lane :=
  if l.on n = on then l
  else (l.put (R.GD_STAT_ON n) on.toNat).onAx n fun a => { a with us := { a.us with trail := a.us.trail ++ [(l.now, on)] } }

/-- The gate drivers follow the demands: switches no longer commanded turn off at once, with the full sink; a switch newly
commanded waits for its dead time (R118). A demand of rank 2 or 3 that begins aborts every hold-release check of the axis, a
turn-on request that of its half-bridge (R143). -/
def Lane.settle (l : Lane) (n : Axis) : Lane :=
  let cmd := l.gateCommand n
  let old := (l.ax n).sw.cmd
  let high := l.highDemand n
  let l := if high &&& ~~~(l.ax n).sw.demand != 0 then l.leakAbort n
    else l.leakAbortOf n fun j => cmd.getLsbD j.val || cmd.getLsbD (peerOf j).val
  (l.setOn n (l.on n &&& cmd)).onAx n fun a =>
    { a with sw := { a.sw with
        cmd := cmd, demand := high, soft := a.sw.soft &&& ~~~cmd
        offAt := Vector.ofFn fun j => if old.getLsbD j.val && !cmd.getLsbD j.val then l.now else a.sw.offAt[j] } }

/-- The source requests `w`: a switch off by a peak trip is free to return once its request has been withdrawn (R124). -/
def Lane.setWant (l : Lane) (n : Axis) (w : BitVec 6) : Lane :=
  l.onAx n fun a => { a with sw := { a.sw with want := w, peakFree := a.sw.peakFree ||| (a.sw.peakHeld &&& ~~~w) } }

/-- The rate limits allow switch `j` to turn on at the moment `t0`: fewer than four turn-ons in the 100 µs before, and
RATEMAX (R91). -/
def Lane.rateOkAt (l : Lane) (n : Axis) (j : Switch) (t0 : Nat) : Bool :=
  let ts := (l.ax n).sw.turnOns[j]
  decide ((ts.filter (fun t => decide (t0 < t + us 100))).length < 4) &&
  (match ts with
   | [] => true
   | t :: _ => decide (40000000 ≤ (t0 - t) * l.get (R.DC_LIMITS_RATEMAX n)))

/-- The rate limits allow switch `j` to turn on now. -/
def Lane.rateOk (l : Lane) (n : Axis) (j : Switch) : Bool := l.rateOkAt n j l.now

/-- Some turn-on that `w` asks for breaks a rate limit. -/
def Lane.rateBreaks (l : Lane) (n : Axis) (w : BitVec 6) : Bool :=
  let now := (l.ax n).sw.want
  (List.finRange 6).any fun j => w.getLsbD j.val && !now.getLsbD j.val && !l.rateOk n j

/-- The torque reference in Q1.15 of TFS: the share, 0 in the probe and after a second dropped transfer (R97 step 4, R311). -/
def Lane.torqueRef (l : Lane) (n : Axis) : Rat :=
  if l.axst n = .probe ∨ l.box.zeroRefs then 0 else (l.getInt (R.DC_TREF_SHARE n) : Rat)

/-- ψref in µWb (R82, R97 step 4, R311). -/
def Lane.psiRef (l : Lane) (n : Axis) : Rat :=
  let psi0 : Rat := l.get (R.DC_FLUX_PSI0 n)
  if l.axst n = .probe then psi0 + (l.get (R.DC_RCATCH_PROBE n) : Rat)
  else if l.box.zeroRefs then psi0
  else
    let w := ratAbs (l.elecSpeed n)
    if w < 1 then psi0
    else
      let x := (l.get (R.DC_FLUX_FWK n) : Rat) / 32768 * ((l.get R.GD_VMSTAT_VM : Rat) / 100) / w * 1000000
      if x < psi0 then x else psi0

/-- The torque comparator of R81 on eT, with the present level c. -/
def torqueLevel (c : Int) (eT dT : Rat) : Int :=
  if c = 0 then (if dT < eT then 1 else if eT < -dT then -1 else 0)
  else if c = 1 then (if eT < -dT then -1 else if eT ≤ 0 then 0 else 1)
  else (if dT < eT then 1 else if 0 ≤ eT then 0 else -1)

/-- The present level of the torque comparator, from DC_STAT[CT]. -/
def Lane.torqueC (l : Lane) (n : Axis) : Int :=
  match l.get (R.DC_STAT_CT n) with | 1 => 1 | 3 => -1 | _ => 0

/-- The flux comparator of R82: true for +1. -/
def fluxLevel (c : Bool) (ePsi dPsi : Rat) : Bool := if dPsi < ePsi then true else if ePsi < -dPsi then false else c

/-- Sectors of a turn: 12 with EXT (R83). -/
def Lane.sectors (l : Lane) (n : Axis) : Nat := if l.flag (R.DC_CTRL_EXT n) then 12 else 6

/-- The centre of sector k (R83). -/
def sectorCentre (s k : Nat) : Rat :=
  if s = 12 then (65536 : Rat) / 12 * ((k : Rat) - 1) + 65536 / 24 else (65536 : Rat) / 6 * ((k : Rat) - 1)

/-- The sector an angle lies in, without hysteresis (R83). -/
def sectorOf (s : Nat) (ang : Rat) : Nat :=
  let x := if s = 12 then ang else angleMod (ang + 65536 / 12)
  ((x / (65536 / (s : Rat))).floor.toNat % s) + 1

/-- The flux sector with its hysteresis: it changes only once the angle has passed the boundary by SHYS (R83). -/
def nextSector (s k : Nat) (ang shys : Rat) : Nat :=
  if k = 0 ∨ s < k then sectorOf s ang
  else if ratAbs (angleDiff (ang - sectorCentre s k)) < 65536 / (2 * (s : Rat)) + shys then k
  else sectorOf s ang

/-- Both copies compare the estimates with the references (R81 to R83). The two copies receive the same references and
estimates; where they come to different requests, `Protection.disagree` says so (R84). -/
def Lane.compare (l : Lane) (n : Axis) : Lane :=
  let u := (l.ax n).us
  let te := u.te / ((l.get (R.DC_SCALE_TFS n) : Rat) / 100) * 32768
  let ref := l.psiRef n
  let mag := Config.sqrt (u.psiA * u.psiA + u.psiB * u.psiB) * 1000000
  let ct := torqueLevel (l.torqueC n) (l.torqueRef n - te) (l.get (R.DC_BANDS_DTQ n))
  let cp := fluxLevel (l.flag (R.DC_STAT_CPSI n)) (ref - mag) (l.get (R.DC_BANDS_DPSI n))
  let k := nextSector (l.sectors n) (l.get (R.DC_STAT_SECTOR n)) (l.get (R.DC_ANGLE_FLUX n))
    (l.get (R.DC_SECT_SHYS n))
  let l := l.putInt (R.DC_PSI_REF n) (Config.quantize ref)
  let l := l.putInt (R.DC_STAT_CT n) ct
  let l := l.putFlag (R.DC_STAT_CPSI n) cp
  l.put (R.DC_STAT_SECTOR n) k

/-- The table entry at index i of the table in use: the normal one, or sub-table j (R85, R87, R103). -/
def Lane.tableEntry (l : Lane) (n : Axis) (bad : Option Switch) (i : Nat) : Nat :=
  let twelve := l.flag (R.DC_CTRL_EXT n)
  let a := match bad with
    | none => if twelve then R.DC_TAB12 n (i / 4) else R.DC_TAB6 n (i / 4)
    | some j =>
      if twelve then R.DC_DEG12 n (18 * j.val + i / 4) else R.DC_DEG6 n (9 * j.val + i / 4)
  (l.word a).toNat / 2 ^ (8 * (i % 4)) % 256

/-- The one unavailable switch, while exactly one is (R87). -/
def Lane.oneUnav (l : Lane) (n : Axis) : Option Switch :=
  let m := l.unav n
  if count6 m = 1 then (List.finRange 6).find? (fun j => m.getLsbD j.val) else none

/-- How many phases of the requested state are high. -/
def highs (w : BitVec 6) : Nat := count6 (w &&& highMask)

/-- The zero vector ZAUTO chooses (R86): 0 or 7. DESIGN CHOICE (assumption 91): the degraded table of an unavailable low side
(111) goes before a pending refresh (000). -/
def Lane.zauto (l : Lane) (n : Axis) : Nat :=
  match l.oneUnav n with
  | some j => if j.val % 2 = 0 then 0 else 7
  | none =>
    if l.get (R.GD_STAT_PEND n) ≠ 0 then 0
    else if 2 ≤ highs (l.ax n).sw.want then 7 else 0

/-- The angle of an active vector in degrees (R86). -/
def vecAngle : Nat → Nat
  | 4 => 0 | 6 => 60 | 2 => 120 | 3 => 180 | 1 => 240 | _ => 300

/-- An active vector of sector k is forward (1), backward (-1) or neither (R86). -/
def vecSense (s k vec : Nat) : Int :=
  let c := if s = 12 then 30 * k - 15 else 60 * (k - 1)
  let d := (vecAngle vec + 720 - c) % 360
  if 0 < d ∧ d < 180 then 1 else if 180 < d then -1 else 0

/-- Whether backward vectors are refused (R92): entered at 1.25 times the threshold, left below it. -/
def Lane.revHold (l : Lane) (n : Axis) : Bool :=
  let thr : Rat := (l.get (R.DC_REV_REVTHR n) : Rat) / 10000 * (l.get (R.DC_REV_RATEDSPD n) : Rat)
  let w := ratAbs (l.rpm10 n)
  if l.flag (R.DC_STAT_REVHOLD n) then decide (thr ≤ w) else decide (5 / 4 * thr ≤ w)

/-- Regeneration is inhibited: the OV2 stage, REGLOCK at any VM_x, no REGEN ticket (R146, R149, R297). -/
def Lane.regenOff (l : Lane) : Bool :=
  l.link.ov2 || l.flag R.GD_VMSTAT_REGLOCK || !l.flag R.BX_STAT_REGPERM

/-- Te × ωe is negative (R147). DESIGN CHOICE (assumption 91): ωe is the electrical speed from feedback (R82) with the
feedback's own sign, also where DC_CTRL[DIRINV] negates theta_enc. -/
def Lane.generating (l : Lane) (n : Axis) : Bool := decide ((l.ax n).us.te * l.countSpeed n < 0)

/-- The switching state a lookup yields: none for an entry with VALID at 0 (R85 to R87, R92, R147). -/
def Lane.lookupVec (l : Lane) (n : Axis) : Option Nat :=
  let s := l.sectors n
  let k := l.get (R.DC_STAT_SECTOR n)
  let f := if l.flag (R.DC_STAT_CPSI n) then 1 else 0
  let i := (f * 3 + (l.torqueC n + 1).toNat) * s + (k - 1)
  let e := l.tableEntry n (l.oneUnav n) i
  if !e.testBit 7 then none
  else
    let vec := e % 8
    if e.testBit 4 then some (l.zauto n)
    else if vec = 0 ∨ vec = 7 then some vec
    else
      let sense := vecSense s k vec
      let w := l.countSpeed n
      if l.revHold n ∧ ((0 < w ∧ sense = -1) ∨ (w < 0 ∧ sense = 1)) then some (l.zauto n)
      else if l.regenOff ∧ l.generating n then some (l.zauto n)
      else some vec

/-- A switching state arrives at the gate-driver inputs: its dwell begins (R90), and no turn-on is held back any more. -/
def Lane.takeState (l : Lane) (n : Axis) (w : BitVec 6) : Lane :=
  let l := (l.drop (R.DC_STAT_RATEHOLD n)).setWant n w
  let l := l.onAx n fun a => { a with sw := { a.sw with dwellEnd := l.now + 40 * l.get (R.DC_LIMITS_DWELL n) } }
  (l.raise (R.DC_STAT_DWELL n)).settle n

/-- A demand of rank 3 acts on an axis, not delayed by R90 or R91. Its state is held and counted as one of the table, so
that the return to the table, or to the GIN request, is subject to both (R93, R117, R148). -/
def Lane.enterRank3 (l : Lane) (n : Axis) : Lane :=
  match l.rank3 n with
  | some w => if l.blocked n then l.settle n else if l.internal n then l.takeState n w else (l.setWant n w).settle n
  | none => l.settle n

/-- The rate limits hold a turn-on back; the hold is counted once (R91). -/
def Lane.holdRate (l : Lane) (n : Axis) : Lane :=
  let l := l.when (!l.flag (R.DC_STAT_RATEHOLD n)) fun l => l.bump (R.DC_CNT_RHCNT n)
  l.raise (R.DC_STAT_RATEHOLD n)

/-- The lookup has seen the present mask of unavailable switches (R88). -/
def Lane.seenMask (l : Lane) (n : Axis) : Lane :=
  l.onAx n fun a => { a with sw := { a.sw with lastMask := l.unav n } }

/-- All six switches off and no request left. -/
def Lane.release (l : Lane) (n : Axis) : Lane := ((l.drop (R.DC_STAT_RATEHOLD n)).setWant n 0).settle n

/-- A table lookup: the new switching state. A running dwell puts it off (R90), unless the mask of unavailable switches has
changed since the last lookup (R88); the rate limits keep the present state (R91). -/
def Lane.lookup (l : Lane) (n : Axis) : Lane :=
  let a := l.ax n
  let l := l.putFlag (R.DC_STAT_REVHOLD n) (l.revHold n)
  if l.now < a.sw.dwellEnd ∧ a.sw.lastMask = l.unav n then l.settle n
  else
    match l.lookupVec n with
    | none => ((l.raise (R.DC_EVT_TBLPAR n)).seenMask n).release n
    | some v =>
      let w := vecSwitches v
      if w = a.sw.want then ((l.drop (R.DC_STAT_RATEHOLD n)).seenMask n).settle n
      else if l.rateBreaks n w then (l.holdRate n).settle n
      else (l.seenMask n).takeState n w

/-- The axis looks up its table: drive is permitted, no demand of rank 3 acts, the source is INTERNAL, precharge has ended,
and the axis runs or probes (R93 rank 5). -/
def Lane.looksUp (l : Lane) (n : Axis) : Bool :=
  !l.blocked n && (l.rank3 n).isNone && l.internal n && (l.ax n).refresh.precharge.isNone &&
    (l.axst n == .run || l.axst n == .probe)

/-- The hysteresis decision on a new estimate word (R81): both comparators, then the lookup. -/
def Lane.decideSwitch (l : Lane) (n : Axis) : Lane :=
  let l := (l.postWord n).compare n
  if l.looksUp n then l.lookup n else l.settle n

/-- The understudy advances to the present moment and its estimates reach the decision (R78, R81). -/
def Lane.update (l : Lane) (n : Axis) : Lane := (l.integrate n l.now).decideSwitch n

/-- A demand of rank 1 to 3 acts on an axis: the comparator step, which tests every axis at once, is aborted, its result
void, and it comes again at the next turn (R348, R356). -/
def Lane.voidAxis (l : Lane) : Lane :=
  if l.reh.cmp.isSome then (l.onReh fun r => { r with cmp := none }).raise R.BI_EVT_VOID else l

/-- Every in-service step is aborted (R348). A bank not yet swapped, or swapped and not yet marched, is re-initialised and
waits for its next turn. -/
def Lane.voidSteps (l : Lane) : Lane :=
  if l.reh.cmp.isSome ∨ l.reh.bank.isSome ∨ l.reh.twin.isSome then
    (l.onReh fun r => { r with cmp := none, bank := none, twin := none }).raise R.BI_EVT_VOID
  else l

/-- A re-catch or substitute is abandoned, the set staying in service (R97, R101). -/
def Lane.abandon (l : Lane) (n : Axis) : Lane :=
  let l := l.when (l.inRecatch n) fun l => l.drop (R.DC_LASTX_RLCNT n)
  let l := l.onAx n fun a =>
    { a with recatch := none, us := { a.us with substSince := none }, refresh := { a.refresh with precharge := none } }
  let l := l.drop (R.DC_STAT_SUBST n)
  (l.when (l.inService n) fun l => l.setAxst n .off).release n

/-- The winding set goes out of service: all six switches off until the next start of day (R98). -/
def Lane.setOff (l : Lane) (n : Axis) : Lane :=
  let l := l.onAx n fun a => { a with recatch := none, us := { a.us with substSince := none } }
  (((l.setAxst n .out).raise (R.DC_EVT_OUTSVC n)).drop (R.DC_STAT_SUBST n)).release n

/-- The conditions of R100: the speed, and the crossings of the last electrical period. -/
def Lane.bemfOk (l : Lane) (n : Axis) : Bool :=
  let fast := decide ((l.get (R.DC_BEMF0_MINSPD n) : Rat) / 10000 * (l.get (R.DC_REV_RATEDSPD n) : Rat) ≤
    ratAbs (l.rpm10 n))
  let perSecond := ratAbs (l.countSpeed n) * (l.get (R.DC_MOT0_POLEP n) : Rat) / (l.get (R.DC_CPR_CPR n) : Rat)
  let recent := (l.ax n).us.crossings.filter fun t =>
    decide (((l.now - t : Nat) : Rat) * perSecond ≤ 4000000000)
  fast && decide (l.get (R.DC_BEMF1_MINEV n) ≤ recent.length)

/-- The axis is driven by the hysteresis decision, so invalid feedback acts on it (R101, R560, R561). -/
def Lane.feedbackDrives (l : Lane) (n : Axis) : Bool := !l.blocked n && l.internal n

/-- The axis is driven with invalid feedback and no substitute. -/
def Lane.angleLost (l : Lane) (n : Axis) : Bool :=
  l.feedbackDrives n && !l.fbValid n && !l.flag (R.DC_STAT_SUBST n)

/-- R101 allows the back-EMF angle in place of theta. -/
def Lane.maySubstitute (l : Lane) (n : Axis) : Bool := l.flag (R.DC_CTRL_BEMFSUB n) && l.bemfOk n

/-- The back-EMF substitute begins (R101). -/
def Lane.substitute (l : Lane) (n : Axis) : Lane :=
  (l.raise (R.DC_STAT_SUBST n)).onAx n fun a => { a with us := { a.us with substSince := some l.now, agreeBeats := 0 } }

/-- Every axis of the lane stops switching. -/
def Lane.releaseAll (l : Lane) : Lane := l.allAxes fun l n => l.abandon n

end Sys2Proof.Machine
end

