-- ==== Sys2Proof/Machine/Modes.lean ====
section
/-!
DEFINITION. Module states, the stop of the stop section, a winding set or a lane going out (R98, R284 to R286, R493,
R524, R553 to R559, R581), and taking an axis into and out of service of drive.
-/

namespace Sys2Proof.Machine

/-- Beats in a cycle: VR_CYC[LEN] counts the cycle in units of 50 µs (R378). -/
def Lane.beats (l : Lane) : Nat := l.get R.VR_CYC_LEN

/-- HOLD cannot be left: books or firmware versions differ (R267), or no two lanes hold the same serial (R41). -/
def Lane.tiedToHold (l : Lane) : Bool := l.mode == .hold && (l.wing.booksDiffer || l.wing.serialBad)

/-- Lane time in nanoseconds. -/
def Lane.ltimeNs (l : Lane) : Nat := l.ltime / 2 ^ 24

/-- A lane time stamp of the present moment, in units of 250 ps: the lane time of the last tick and the TDC value (R412,
R418). -/
def Lane.stampNow (l : Lane) : Nat := l.ltime / 2 ^ 22 + l.now % 40

/-- Lane-time units (2^-24 ns) in `k` microseconds and milliseconds. -/
def ltUs (k : Nat) : Nat := 1000 * 2 ^ 24 * k
/-- See `ltUs`. -/
def ltMs (k : Nat) : Nat := 1000000 * 2 ^ 24 * k

/-- The stop section in force. -/
def Lane.stopSection (l : Lane) : Option StopSection := l.trust.book.bind fun b => b.safety.map (·.stop)

/-- The stop roles of R284. -/
inductive StopRole where
  | none | steer | service | hold
  deriving DecidableEq, Repr

def StopRole.ofCode : Nat → StopRole
  | 1 => .steer | 2 => .service | 3 => .hold | _ => .none

/-- The stop role of an axis: NONE without a stop section. -/
def Lane.stopRole (l : Lane) (n : Axis) : StopRole :=
  match l.stopSection with
  | some s => .ofCode s.roles[n]
  | none => .none

/-- Every register a book's images name. -/
def bookImages (b : Book) : List RegEntry :=
  b.registers.getD [] ++ b.canSched.getD [] ++ ((b.safety.map (·.image)).getD [])

/-- A book enables an axis in lane `id`: its image writes DC_CTRL[EN] 1 there (R102, R329; assumption 13). -/
def bookEnabled (id : LaneId) (b : Book) (n : Axis) : Bool :=
  (bookImages b).any fun e => e.addr == R.DC_CTRL n && e.lanes.getLsbD (laneNum id) && e.value.getLsbD 0

/-- The MACHINE section declares lane C absent (R27). -/
def bookLacksC (b : Book) : Bool := (b.machine.map (·.laneCAbsent)).getD false

/-- The axis is enabled by the prompt book. -/
def Lane.bookEnables (l : Lane) (n : Axis) : Bool :=
  match l.trust.book with
  | some b => bookEnabled l.id b n
  | none => false

/-- The loop role of an axis (R199). -/
inductive LoopRole where
  | none | position | force | speed
  deriving DecidableEq, Repr

def Lane.loopRole (l : Lane) (n : Axis) : LoopRole :=
  match l.get (R.LE_AXCFG_ROLE n) with
  | 1 => .position | 2 => .force | 3 => .speed | _ => .none

/-- The reference LE_PREF as one signed 64-bit number, and as its low half-word, signed (R218). -/
def Lane.pref (l : Lane) (n : Axis) : Int :=
  ((BitVec.ofNat 32 (l.get (R.LE_PREF_HI_PREF n))) ++ (BitVec.ofNat 32 (l.get (R.LE_PREF_LO_PREF n)))).toInt

/-- The reference LE_PREF[15:0], signed. -/
def Lane.prefLow (l : Lane) (n : Axis) : Int := (BitVec.ofNat 16 (l.get (R.LE_PREF_LO_PREF n))).toInt

/-- Writes LE_PREF of an axis (R199, R577). -/
def Lane.setPref (l : Lane) (n : Axis) (v : BitVec 64) : Lane :=
  (l.put (R.LE_PREF_HI_PREF n) (v.toNat / 2 ^ 32)).put (R.LE_PREF_LO_PREF n) (v.toNat % 2 ^ 32)

/-- The extended position at beat start (R169). -/
def Lane.ext (l : Lane) (n : Axis) : Int := l.getInt (R.FB_BHI_WRAP n) * 4294967296 + (l.get (R.FB_BPOS_POS n) : Int)

/-- A reference equal to the measured quantity that the loop role controls (R553). -/
def Lane.holdMeasured (l : Lane) (n : Axis) : Lane :=
  match l.loopRole n with
  | .position => l.setPref n (BitVec.ofInt 64 (l.ext n))
  | .force => l.setPref n (BitVec.ofInt 64 (l.getInt (R.LE_OANG_FMEAS n)))
  | .speed => l.setPref n (BitVec.ofInt 64 (l.getInt (R.LE_WREF_MEAS n)))
  | .none => l

/-- The hold force of a HOLD axis (R578) as its reference. -/
def Lane.setHoldForce (l : Lane) (n : Axis) : Lane :=
  match l.stopSection with
  | some s => if l.stopRole n = .hold then l.setPref n (BitVec.ofNat 64 s.hold[n]) else l
  | none => l

/-- A quotient rounded to the nearest integer, halves toward plus infinity (R579). -/
def roundDiv (a b : Int) : Int := if b = 0 then 0 else (2 * a + b).fdiv (2 * b)

/-- The brake-force profile at `t` lane-time units after its start (R578): points of time in ms and force. -/
def profileForce : List (Nat × Nat) → Nat → Nat
  | [], _ => 0
  | [(_, f)], _ => f
  | (t0, f0) :: (t1, f1) :: r, t =>
    if t < ltMs t1 then
      (f0 + roundDiv (((f1 : Int) - f0) * ((t : Int) - ltMs t0)) (ltMs t1 - ltMs t0 : Int)).toNat
    else profileForce ((t1, f1) :: r) t

/-- The time of the last point of the profile (R578), in ms. -/
def profileEnd (p : List (Nat × Nat)) : Nat := (p.getLast?.map (·.1)).getD 0

/-- Marks a callboard event input for this beat (R499). -/
def Lane.event (l : Lane) (k : Nat) : Lane := l.onCall fun c => { c with events := k :: c.events }

/-- An input named by `m` demands or is latched, in demand-bit order (R521, R524). -/
def Lane.demands (l : Lane) (m : Nat) : Bool :=
  BitVec.ofNat 10 m &&& (BitVec.ofNat 10 (l.get R.SF_STAT_DEM) ||| BitVec.ofNat 10 (l.get R.SF_STAT_LATCH)) != 0

/-- The function of output KO m permits it to be on (R524). -/
def Lane.koPermitted (l : Lane) (m : Fin 4) : Bool :=
  let c := l.get R.LC_STATE_MSTATE
  match l.get (R.SF_KOCFG_FUNC m) with
  | 1 => decide (4 ≤ c ∧ c ≤ 10) && !(l.flag R.GD_VMSTAT_STUCK && l.get R.GD_OVCFG_KOSEL == m.val)
  | 2 => (c == 5 || c == 6 || c == 7 || c == 10) && !l.demands (l.get (R.SF_KOCFG_MASK m))
  | 3 => l.bit R.SF_KOCMD_CMD m.val && (c == 4 || c == 5 || c == 6 || c == 7 || c == 10) &&
      !l.demands (l.get (R.SF_KOCFG_MASK m))
  | _ => false

/-- Output KO m is on: also the lane is not OUT, the book is confirmed, and no fault of the output is latched. -/
def Lane.koWanted (l : Lane) (m : Fin 4) : Bool :=
  l.koPermitted m && l.lstate != .out && l.trust.state == 5 && !l.wing.serialBad && l.logicUp &&
  !(l.bit R.SF_KOSTAT_OC m.val || l.bit R.SF_KOSTAT_SHORT m.val || l.bit R.SF_KOSTAT_WELD m.val ||
    l.bit R.SF_KOSTAT_NOCLOSE m.val)

/-- SF_KOSTAT[KFOK] of output m: the feedback agrees with the command (R525). -/
def Lane.showKf (l : Lane) (m : Fin 4) : Lane :=
  let closed := l.bit R.SF_RAW_KF m.val != l.flag (R.SF_KOCFG_FBPOL m)
  l.putBit R.SF_KOSTAT_KFOK m.val (closed == l.bit R.SF_KOSTAT_ON m.val)

/-- Output KO m follows; a change restarts its feedback period (R525). -/
def Lane.koOne (l : Lane) (m : Fin 4) : Lane :=
  let w := l.koWanted m
  if l.bit R.SF_KOSTAT_ON m.val = w then l
  else
    let l := (l.putBit R.SF_KOSTAT_ON m.val w).onSafety fun s => { s with koAt := s.koAt.set m l.now }
    ((l.putBit R.SF_KOSTAT_RDBK m.val w).showKf m).send (.ko m w)

/-- Every KO output follows its function (R524). -/
def Lane.koSettle (l : Lane) : Lane := (((l.koOne 0).koOne 1).koOne 2).koOne 3

/-- The highest target of VCORE_x. -/
def Lane.vcMax (l : Lane) : Nat := l.get R.PW_VCLIM_MAX

/-- The lowest target that R48 permits, in mV. -/
def Lane.coreFloor (l : Lane) : Nat :=
  match l.mode with
  | .boot => 800
  | .hold | .workshop =>
    if [(0 : Axis), 1, 2, 3].any fun n => l.on n != 0 then 740 else l.get R.PW_VCLIM_IDLEMIN
  | _ => 740

/-- The highest target that a running boost asks for (R308). -/
def Lane.boostGoal (l : Lane) : Nat :=
  l.box.running.foldl (fun m t => match t.work with | .boost v => max m v | _ => m) 0

/-- The target moves to a goal; while it is to reach 0.74 V and the core does not read that yet, the rise of R48 runs. -/
def Lane.moveCore (l : Lane) (goal : Nat) : Lane :=
  l.onPower fun p => { p with
    goal := goal
    riseSince := if 740 ≤ goal ∧ l.get R.PW_VCSET_MEAS < 740 then some (p.riseSince.getD l.now) else none
    risen := p.risen && decide (740 ≤ p.goal) }

/-- The target of VCORE_x rises to at least 0.74 V and the lane waits for it (R48, R49). -/
def Lane.raiseCore (l : Lane) : Lane := l.moveCore (max l.power.goal 740)

/-- The target of VCORE_x keeps what R48 asks of the state held: 0.80 V in BOOT; the lowest permitted in HOLD and WORKSHOP,
unless a boost or a deficit asks for more; at least 0.74 V elsewhere. -/
def Lane.restCore (l : Lane) : Lane :=
  match l.mode with
  | .boot => l.moveCore 800
  | .hold | .workshop =>
    l.moveCore (max (if l.power.logicSince.isSome then l.power.goal else l.boostGoal) l.coreFloor)
  | _ => l.raiseCore

/-- VCORE_x permits gate drivers to turn on (R48). -/
def Lane.coreReady (l : Lane) : Bool := decide (740 ≤ l.get R.PW_VCSET_MEAS)

/-- The precharge of R132 begins: state 000 with the peak pair active. It waits for the core voltage (R48). -/
def Lane.startPrecharge (l : Lane) (n : Axis) : Lane :=
  let l := l.raiseCore
  if l.coreReady then (l.onAx n fun a => { a with refresh := { a.refresh with precharge := some l.now }, sw := { a.sw with looped := 0 } }).settle n
  else l.onMode fun m => { m with enableWait := true }

/-- At an enable R101 and R560 apply afresh to the feedback: without a valid one the substitute begins, or the set goes out
of service. -/
def Lane.judgeAngle (l : Lane) (n : Axis) : Lane :=
  if !l.angleLost n then l else if l.maySubstitute n then l.substitute n else l.setOff n

/-- The axis is enabled: integrators are cleared, wref is 0, supervision starts with plausibility, and the precharge begins
where the module state permits drive (R132, R207, R209); the counters are cleared where DC_CTRL[EN] changes from 0 to 1
(R102). A set out of service stays out (R98). -/
def Lane.enableAxis (l : Lane) (n : Axis) : Lane :=
  let l := l.when (!l.flag (R.DC_CTRL_EN n)) fun l =>
    ((l.drop (R.DC_CNT_RHCNT n)).drop (R.DC_CNT_QOVFCNT n)).drop (R.DC_CNT_CDCNT n)
  let l := (l.raise (R.DC_CTRL_EN n)).judgeAngle n
  let l := l.drop (R.LE_WREF_REF n)
  let l := l.onLp n fun p => { p with io := 0, iw := 0, startNext := true, evaluated := 0 }
  let l := (l.drop (R.LE_INT_IO n)).drop (R.LE_INT_IW n)
  if l.inService n ∧ l.modeDrives n then l.startPrecharge n else l.settle n

/-- DC_CTRL[EN] is written 0: all six switches off; a re-catch or substitute is abandoned (R97, R101, R102). -/
def Lane.disableAxis (l : Lane) (n : Axis) : Lane :=
  let l := l.drop (R.DC_CTRL_EN n)
  let l := l.put (R.LE_STAT_SUP n) 0
  l.abandon n

/-- The module state stops drive: all six switches off, DC_CTRL[EN] as it is (R97, R109, R207). -/
def Lane.parkAxis (l : Lane) (n : Axis) : Lane := (l.put (R.LE_STAT_SUP n) 0).abandon n

/-- The peers this lane counts as LIVE: WG_STAT[P1ST], [P2ST]. -/
def Lane.peerState (l : Lane) (p : Peer) : Nat := if p = 0 then l.get R.WG_STAT_P1ST else l.get R.WG_STAT_P2ST

def Lane.setPeerState (l : Lane) (p : Peer) (c : Nat) : Lane :=
  if p = 0 then l.put R.WG_STAT_P1ST c else l.put R.WG_STAT_P2ST c

def Lane.peerLive (l : Lane) (p : Peer) : Bool := l.peerState p == 2

/-- LC_STATE[LIVECNT] follows the agreed view. -/
def Lane.countLive (l : Lane) : Lane :=
  l.put R.LC_STATE_LIVECNT ((if l.lstate = .live then 1 else 0) + (l.peerLive 0).toNat + (l.peerLive 1).toNat)

/-- A peer counted LIVE whose last summary shows the winding set of the axis in service. -/
def Lane.peerSet (l : Lane) (p : Peer) (n : Axis) : Bool :=
  l.peerLive p && (match l.wing.last[p] with | some s => s.axes[n].inService | none => false)

/-- The sets an axis counts under R559: each LIVE lane whose winding set is in service, re-catch included. -/
def Lane.setCount (l : Lane) (n : Axis) : Nat :=
  (decide (l.lstate = .live) && l.inService n).toNat + (l.peerSet 0 n).toNat + (l.peerSet 1 n).toNat

/-- The lane proposes a module state (R271). -/
def Lane.propose (l : Lane) (m : Mode) : Lane := l.onWing fun w => { w with proposed := m.code }

/-- The spotlight and everything that waits for it is gone: no lease exists in GHOST LIGHT or CURTAIN (R285, R493). -/
def Lane.dropSpotlight (l : Lane) : Lane :=
  let l := l.when (l.flag R.HS_SPOT_HELD) fun l => l.event 6
  let l := (((l.drop R.HS_SPOT_HELD).drop R.HS_SPOT_HOLDER).drop R.HS_SPOT_HRANK).drop R.HS_SPOT_RESV
  let l := (((l.drop R.HS_SPOT_RSEAT).drop R.HS_SPOT_DEFACT).drop R.HS_SPOT_FROZEN).drop R.HS_SPOT_GAPC
  let l := (l.seats.requests ++ l.seats.reserved.toList).foldl (fun l r => l.answer r.hdr r.path l.stateStatus []) l
  l.onSeats fun s => { s with
    requests := [], reserved := none, grantNext := none, endNext := none, gap := 0, stopNext := false }

/-- On entry to GHOST LIGHT the lone lane completes every active source (R508). -/
def Lane.completeAll (l : Lane) : Lane :=
  let l := (List.range 16).foldl (fun l w => l.setWord (R.CB_ACT w) 0) l
  l.onCall fun c => { c with active := [] }

/-- The lead lease: 10 ms, or 2 cycles where the cycle is longer than 5 ms (R278). -/
def Lane.lease (l : Lane) : Nat := if 100 < l.beats then ltUs (100 * l.beats) else ltMs 10

/-- This lane is the lead in its own view; no guard runs. -/
def Lane.leadSelf (l : Lane) : Lane :=
  let l := ((l.raise R.LC_STATE_LEAD).raise R.CB_STAT_LEAD).put R.WG_STAT_LEADL (laneNum l.id)
  ((l.drop R.WG_STAT_GUARD).put R.WG_LEAD_GUARDC 0).onWing fun w => { w with
    leaseEnd := l.ltime + l.lease, guardFresh := false, takeNext := false }

/-- The lane takes the token (R280); source 8 of the callboard reads it (R499). -/
def Lane.takeToken (l : Lane) : Lane := ((l.leadSelf).raise R.WG_EVT_TOKTAKE).event 8

/-- A lane that is alone holds the token for itself (R280). -/
def Lane.holdToken (l : Lane) : Lane := if l.flag R.LC_STATE_LEAD then l else l.takeToken

/-- An axis of GHOST LIGHT or a stop drives: it is enabled unless it already runs or is being precharged. -/
def Lane.ensureEnabled (l : Lane) (n : Axis) : Lane :=
  if l.flag (R.DC_CTRL_EN n) ∧ (l.axst n ≠ .off ∨ (l.ax n).refresh.precharge.isSome) then l else l.enableAxis n

/-- The lane holds its module state; source 1 of the callboard reads the change (R499), the power cap follows (R307). -/
def Lane.takeMode (l : Lane) (m : Mode) : Lane :=
  let l := l.when (l.mode == .boot) fun l => l.onMode fun x => { x with leftBoot := l.now }
  let l := (l.setMode m).onWing fun w => { w with proposed := m.code, next := none, modeOff := 0, shopLoss := false }
  let l := l.put R.BX_PCAP_CAP (if m = .degraded ∨ m = .ghost then 5000 else 4000)
  let l := (l.put R.BX_PCAP_BASE (Config.basePower m.code)).restCore
  ((l.event 1).when (m == .degraded) fun l => l.event 2).when (m == .ghost) (fun l => l.event 3)
    |>.when (m == .curtain) fun l => l.event 4

/-- GHOST LIGHT (R285): the spotlight is revoked, the stop of the stop section starts, NONE axes are disabled, SERVICE
axes follow the profile from its first point, HOLD and STEER axes keep their references. -/
def Lane.enterGhost (l : Lane) : Lane :=
  if l.mode = .ghost ∨ l.mode = .curtain ∨ l.tiedToHold then l
  else
    let parked := l.mode == .hold || l.mode == .workshop
    let l := (l.takeMode .ghost).dropSpotlight.voidSteps
    let l := l.onMode fun m => { m with stop := some (.ghost, l.ltime), slowSince := none, enableFirst := 0 }
    let l := l.when (l.get R.LC_STATE_LIVECNT ≤ 1) fun l => l.completeAll.holdToken
    let l := l.allAxes fun l n =>
      match l.stopRole n with
      | .none => l.disableAxis n
      | .steer => (l.when parked fun l => l.holdMeasured n).ensureEnabled n
      | .service => (l.setPref n (BitVec.ofNat 64 (profileForce ((l.stopSection.map (·.points)).getD []) 0))).ensureEnabled n
      | .hold => (l.when parked fun l => l.setHoldForce n).ensureEnabled n
    (l.put R.BI_STAT_PHASE 2).koSettle

/-- CURTAIN (R286): HOLD axes hold the hold force, every other axis has EN at 0. -/
def Lane.enterCurtain (l : Lane) : Lane :=
  let l := (l.takeMode .curtain).dropSpotlight
  let l := l.onMode fun m => { m with stop := none, slowSince := none, enableFirst := 0 }
  let l := l.allAxes fun l n =>
    if l.stopRole n = .hold then (l.setHoldForce n).ensureEnabled n else l.disableAxis n
  (l.put R.BI_STAT_PHASE 2).koSettle

/-- HOLD: all switches off (R109, R553); DC_CTRL[EN] stays (assumption 43). -/
def Lane.enterHold (l : Lane) : Lane :=
  let l := l.takeMode .hold
  let l := l.onMode fun m => { m with stop := none, slowSince := none, enableFirst := 0 }
  let l := l.allAxes fun l n => l.parkAxis n
  (l.put R.BI_STAT_PHASE 3).restCore.koSettle

/-- ARMED from HOLD by ARM: each axis that the book or DC_CTRL[EN] enables holds (R553) and enables under R132 and R207
(R555). DESIGN CHOICE (assumption 90): the lane holds ARMED and answers ARM while VCORE_x still rises, and its axes alone
wait for the end of the rise (R49 says that the request waits). -/
def Lane.enterArmedByArm (l : Lane) : Lane :=
  let l := l.takeMode .armed
  let l := l.allAxes fun l n =>
    if l.bookEnables n ∨ l.flag (R.DC_CTRL_EN n) then
      (if l.stopRole n = .hold then l.setHoldForce n else l.holdMeasured n).enableAxis n
    else l
  l.koSettle

/-- ARMED, or still DEGRADED, at the end of a stop default: HOLD axes at the hold force, the others at their last
references (R493, R556). -/
def Lane.endDefault (l : Lane) : Lane :=
  let l := (l.onMode fun m => { m with stop := none, slowSince := none }).drop R.HS_SPOT_DEFACT
  l.allAxes fun l n => l.setHoldForce n

/-- WORKSHOP: DC_CTRL[EN] of every axis is written 0 (R553). -/
def Lane.enterWorkshop (l : Lane) : Lane :=
  let l := l.takeMode .workshop
  let l := l.onMode fun m => { m with stop := none, slowSince := none, enableFirst := 0 }
  let l := l.allAxes fun l n => l.disableAxis n
  (l.put R.BI_STAT_PHASE 3).restCore.koSettle

/-- DEGRADED (R556): from HOLD the axes stay off until the first SETPOINT; from WORKSHOP DC_CTRL[EN] is written 0;
otherwise they go on as before. -/
def Lane.enterDegraded (l : Lane) : Lane :=
  let was := l.mode
  let l := l.takeMode .degraded
  let l := l.when (was == .hold) fun l =>
    (l.onMode fun m => { m with enableFirst := 15 }).allAxes fun l n => l.parkAxis n
  let l := l.when (was == .workshop) fun l => l.allAxes fun l n => l.disableAxis n
  l.koSettle

/-- The lane takes the agreed module state (R271, R553). -/
def Lane.enterMode (l : Lane) (m : Mode) : Lane :=
  match m with
  | .hold => l.enterHold
  | .armed => if l.mode = .hold then l.enterArmedByArm else ((l.takeMode .armed).endDefault).koSettle
  | .performing => (l.takeMode .performing).koSettle
  | .degraded => l.enterDegraded
  | .ghost => l.enterGhost
  | .curtain => l.enterCurtain
  | .workshop => l.enterWorkshop
  | m => ((l.takeMode m).allAxes fun l n => l.parkAxis n).restCore.koSettle

/-- The state is HOLD or a later one. -/
def Lane.fromHold (l : Lane) : Bool := decide (4 ≤ l.get R.LC_STATE_MSTATE ∧ l.get R.LC_STATE_MSTATE ≤ 10)

/-- Some enabled axis of a module in HOLD or a later state counts fewer than two sets (R559). -/
def Lane.fewSets (l : Lane) : Bool :=
  l.fromHold && l.mode != .curtain && l.mode != .ghost &&
  [(0 : Axis), 1, 2, 3].any fun n => l.bookEnables n && decide (l.setCount n < 2)

/-- Where an enabled axis counts fewer than two sets by the loss of this lane's own, the lane enters GHOST LIGHT at once
(R559). -/
def Lane.judgeSets (l : Lane) : Lane := if l.lstate = .live ∧ l.fewSets then l.enterGhost else l

/-- The winding set of axis `n` goes out of service (R98), with what R559 makes of it. It is the widest action on a set: no
tier takes it back (R282). -/
def Lane.setOut (l : Lane) (n : Axis) : Lane := if l.inService n then (l.setOff n).judgeSets else l

/-- The next LIVE lane after the old lead in the order A, B, C, A (R280), in this lane's view. -/
def Lane.nextLead (l : Lane) (old : LaneId) : Option LaneId :=
  [peerLane old 0, peerLane old 1].find? fun i =>
    if i = l.id then l.lstate == .live
    else if peerLane l.id 0 = i then l.peerLive 0 else l.peerLive 1

/-- The token is no longer this lane's. -/
def Lane.loseToken (l : Lane) : Lane :=
  let l := ((l.drop R.LC_STATE_LEAD).drop R.CB_STAT_LEAD).raise R.WG_EVT_TOKLOSE
  let l := match l.nextLead l.id with
    | some i => l.put R.WG_STAT_LEADL (laneNum i)
    | none => l.put R.WG_STAT_LEADL 3
  l.onWing fun w => { w with leaseEnd := l.ltime + l.lease, giveUp := false, drilling := false, leaving := false }

/-- The CRC of the mirror set held (R281). -/
def Lane.mirrorSum (l : Lane) : Word := l.wing.mirror.elim 0 Config.mirrorCrc

/-- A lead that goes OUT hands the token over at once and stops arbitrating (R281; assumption 56). -/
def Lane.leaveLead (l : Lane) : Lane :=
  if l.flag R.LC_STATE_LEAD then
    let l := match l.nextLead l.id with
      | some i => l.sendTo i (.handover l.mirrorSum)
      | none => l
    l.loseToken
  else l.onWing fun w => { w with takeNext := false }

/-- The guard begins: two whole cycles without a lead (R280). A token handed over is taken without it (R281). -/
def Lane.startGuard (l : Lane) : Lane :=
  if l.flag R.WG_STAT_GUARD ∨ l.wing.takeNext then l
  else
    let old := l.get R.WG_STAT_LEADL
    let l := ((l.raise R.WG_STAT_GUARD).put R.WG_LEAD_GUARDC 2).put R.WG_STAT_LEADL 3
    l.onWing fun w => { w with guardFresh := true, oldLead := old }

/-- The lead sends HANDOVER in beat 0 (R281): in a drill, or because it has left LIVE for RESYNC. -/
def Lane.startDrill (l : Lane) : Lane :=
  match l.nextLead l.id with
  | some i =>
    let l := (l.sendTo i (.handover l.mirrorSum)).put R.WG_DRILL_NEXT 4096
    l.onWing fun w => { w with drilling := true, drillNow := false, giveUp := false }
  | none => if l.wing.leaving then l.loseToken else l

/-- The handover ends with its cycle (R281): the token has passed; or a drill repeats; or the token of a lead that has left
LIVE lapses, and the guard runs. -/
def Lane.endDrill (l : Lane) : Lane :=
  if !l.wing.drilling then l
  else if l.wing.giveUp then (l.loseToken.raise R.WG_EVT_DRILLOK).bump R.WG_DRILL_PASS
  else if l.wing.leaving then
    let l := ((l.raise R.WG_EVT_DRILLERR).raise R.WG_EVT_TOKLOSE).drop R.LC_STATE_LEAD
    ((l.drop R.CB_STAT_LEAD).onWing fun w => { w with drilling := false, leaving := false }).startGuard
  else ((l.raise R.WG_EVT_DRILLERR).put R.WG_DRILL_NEXT 0).onWing fun w => { w with drilling := false }

/-- The entries to RESYNC within the preceding 60 s (R277, R289). -/
def Lane.recentResyncs (l : Lane) : List Nat := l.wing.resyncs.filter fun t => decide (l.now < t + ms 60000)

/-- WG_RESYNC[COUNT] as it stands now. -/
def Lane.showResyncs (l : Lane) : Lane := l.put R.WG_RESYNC_COUNT (min 3 l.recentResyncs.length)

/-- A lane fault takes the lane OUT until its next start of day (R558, R581): every switch off, the token handed over, OUT
frames on both links where its peers have its DIGEST, then the supply outputs (R524). The commands it holds expire with it
(R266). -/
def Lane.laneOut (l : Lane) : Lane :=
  let l := l.leaveLead
  let known := l.lstate != .out || l.wing.digestSent
  let l := (l.setLState .out).voidSteps
  let l := (l.allAxes fun l n => l.abandon n).countLive
  let lost := l.wing.pending.length
  let l := l.wing.pending.foldl (fun l p => l.reply p.pkt.hdr p.path (.notAgreed 2) [] (decide (0 < p.pkt.hdr.cls))) l
  let l := (l.when (decide (0 < lost)) fun l => l.raise R.WG_EVT_CMDEXP).addTo R.WG_CMDEXP_EXP lost
  let l := l.onWing fun w => { w with struck := true, pending := [], agreed := [], next := none, rejoin := false }
  let l := (l.put R.WG_RESYNC_STEP 0).put R.WG_CMD_PEND 0
  let l := l.onMode fun m => { m with stop := none, enableWait := false }
  (l.when known fun l => l.sendBoth .out).koSettle

end Sys2Proof.Machine
end

