-- ==== Sys2Proof/Machine/Drive.lean ====
section
/-!
DEFINITION. Drive control (Drive Control: Torque and Flux by Hysteresis): crossings and the residual rules, rotor lost
and the flying re-catch, the back-EMF substitute, copies and tables, and taking an axis out of drive.
-/

namespace Sys2Proof.Machine

/-- The order in which the understudy takes events: by time stamp, then U, V, W (R75). -/
def LadderEvent.before (a b : LadderEvent) : Bool :=
  decide (a.stamp < b.stamp) || (a.stamp == b.stamp && decide (a.phase ≤ b.phase))

/-- Puts an event into a queue kept in that order. -/
def insertEvent (x : LadderEvent) : List LadderEvent → List LadderEvent
  | [] => [x]
  | y :: r => if y.before x then y :: insertEvent x r else x :: y :: r

/-- An event reaches the queue of 16, or is discarded and counted (R75). -/
def Lane.queueEvent (l : Lane) (n : Axis) (ev : LadderEvent) : Lane :=
  if (l.ax n).queue.length < 16 then l.onAx n fun a => { a with queue := insertEvent ev a.queue }
  else (l.raise (R.DC_EVT_QOVF n)).bump (R.DC_CNT_QOVFCNT n)

/-- Rotor lost (R97, R99): the active short circuit, or out of service where no re-catch may follow. -/
def Lane.rotorLost (l : Lane) (n : Axis) : Lane :=
  let l := (l.raise (R.DC_EVT_ROTLOST n)).voidAxis
  let again : Bool := match (l.ax n).lastRecatch with | none => false | some t => !l.since t (ms 1000)
  if l.blocked n then l.drop (R.DC_LASTX_RLCNT n)
  else if !l.flag (R.DC_CTRL_RCALLOW n) ∨ !l.fbValid n ∨ again then l.setOut n
  else
    let l := l.onAx n fun a => { a with
      recatch := some ⟨l.now, l.now, 0⟩, refresh := { a.refresh with precharge := none } }
    (l.setAxst n .asc).enterRank3 n

/-- A declaration of rotor lost on a set in service that is not in a re-catch already. DESIGN CHOICE (assumption 91): on an
axis that a demand of rank 2 holds off the declaration sets ROTLOST alone, and its sequence is abandoned at once (R97). -/
def Lane.declareRotor (l : Lane) (n : Axis) : Lane := if l.inService n && !l.inRecatch n then l.rotorLost n else l

/-- Step 5 of R97: the re-catch has succeeded; plausibility starts with the next cycle (R209). -/
def Lane.recatchDone (l : Lane) (n : Axis) : Lane :=
  let l := (l.raise (R.DC_EVT_RCOK n)).setAxst n .run
  (l.onLp n fun p => { p with startNext := true }).onAx n fun a => { a with recatch := none, lastRecatch := some l.now }

/-- Counts an event that was in or out of bound: toward success in the probe (R97 step 4), else under R80. -/
def Lane.judge (l : Lane) (n : Axis) (out : Bool) : Lane :=
  if l.axst n = .probe then
    match (l.ax n).recatch with
    | none => l
    | some r =>
      let k := if out then 0 else r.inBound + 1
      let l := l.onAx n fun a => { a with recatch := some { r with inBound := k } }
      if l.get (R.DC_RCATCH_RCEV n) ≤ k then l.recatchDone n else l
  else if out then
    let l := l.put (R.DC_LASTX_RLCNT n) (min 8 (l.get (R.DC_LASTX_RLCNT n) + 1))
    if l.get (R.DC_LASTX_RLCNT n) = 8 then l.declareRotor n else l
  else l.drop (R.DC_LASTX_RLCNT n)

/-- DC_LASTX and DC_LASTT show the last event: its phase, level, direction and residuals (R79, R102). -/
def Lane.showEvent (l : Lane) (n : Axis) (ev : LadderEvent) (codes : Rat) : Lane :=
  let slope := l.currentSlope n ev.phase ev.stamp
  let l := l.put (R.DC_LASTX_PHASE n) ev.phase.val
  let l := l.put (R.DC_LASTX_LEVEL n) ev.level.val
  let l := l.putFlag (R.DC_LASTX_DIR n) ev.up
  let l := l.putFlag (R.DC_LASTX_PEAK n) ev.peak
  let l := l.putInt (R.DC_LASTX_ERES n) (Config.quantize (16 * codes))
  l.putInt (R.DC_LASTT_TRES n) (Config.quantize (codes * l.ampsPerCode n / slope * 4000000000))

/-- The understudy takes one event: it advances to its stamp, corrects, and the event is judged (R79, R80). -/
def Lane.takeEvent (l : Lane) (n : Axis) (ev : LadderEvent) : Lane :=
  let l := l.integrate n ev.stamp
  let codes := l.residualCodes n ev
  let out := decide ((l.get (R.DC_RESID_BND n) : Rat) < ratAbs codes)
  let l := l.showEvent n ev codes
  let l := l.correct n ev.phase (codes * l.ampsPerCode n) ev.stamp (l.axst n == .probe)
  let l := l.when (!ev.peak) fun l =>
    l.onAx n fun a => { a with us := { a.us with crossings := (ev.stamp :: a.us.crossings).take 255 } }
  l.judge n out

/-- The understudy takes every queued event in order (R75). -/
def Lane.takeEvents (l : Lane) (n : Axis) : Lane :=
  let q := (l.ax n).queue
  q.foldl (fun l ev => l.takeEvent n ev) (l.onAx n fun a => { a with queue := [] })

/-- A crossing of level `k` shows the current back inside the level REARM: inward through a level no farther out, or
through a level nearer to zero (R97 step 1). -/
def Lane.insideRearm (l : Lane) (n : Axis) (p : Phase) (k : Fin 8) (up : Bool) : Bool :=
  let dist (c : Int) : Nat := (c - 512).natAbs
  let here := dist (l.levelCode n p k.val)
  let rearm := dist (l.levelCode n p (l.get (R.DC_RCATCH_REARM n)))
  let inward := if l.levelCode n p k.val < 512 then up else !up
  decide (here < rearm) || (here == rearm && inward)

/-- In an active short circuit a low side that a peak trip turned off returns (R97 step 1, R124). -/
def Lane.ascRearm (l : Lane) (n : Axis) (p : Phase) (k : Fin 8) (up : Bool) : Lane :=
  let j := lowOf p
  if l.rank3 n = some lowMask ∧ (l.ax n).sw.peakHeld.getLsbD j.val ∧ l.insideRearm n p k up then
    (l.onAx n fun a => { a with sw := { a.sw with peakHeld := a.sw.peakHeld &&& ~~~(bits6 (· == j)) } }).settle n
  else l

/-- One switch as a mask. -/
def bit6 (j : Switch) : BitVec 6 := bits6 (· == j)

/-- One half-bridge as a mask. -/
def bit3 (p : Phase) : BitVec 3 := bits3 (· == p)

/-- The insertion of half-bridge `p` ends; the dwell restarts (R93 rank 4, R136 steps 4 to 6). -/
def Lane.endInsert (l : Lane) (n : Axis) (p : Phase) : Lane :=
  if (l.ax n).refresh.inserting.getLsbD p.val then
    let l := l.onAx n fun a => { a with
      refresh := { a.refresh with inserting := a.refresh.inserting &&& ~~~(bit3 p) }
      sw := { a.sw with dwellEnd := l.now + 40 * l.get (R.DC_LIMITS_DWELL n) } }
    (l.raise (R.DC_STAT_DWELL n)).settle n
  else l

/-- An insertion ends early: REFABT, and no new one within 100 µs (R138, R139). -/
def Lane.abortInsert (l : Lane) (n : Axis) (p : Phase) : Lane :=
  let l := l.raise (R.GD_EVT_REFABT n)
  (l.onAx n fun a => { a with refresh := { a.refresh with retryAt := l.now + us 100 } }).endInsert n p

/-- The phase current falls below the innermost enabled positive ladder level (R139). -/
def Lane.belowInner (l : Lane) (n : Axis) (p : Phase) (k : Fin 8) (up : Bool) : Bool :=
  let c := l.levelCode n p k.val
  !up && decide (512 < c) && (l.enabledLevels n).all fun i => decide (l.levelCode n p i ≤ 512 ∨ c ≤ l.levelCode n p i)

/-- An insertion that holds both switches of a half-bridge off loses its current condition (R139). -/
def Lane.insertLost (l : Lane) (n : Axis) (p : Phase) (k : Fin 8) (up : Bool) : Lane :=
  if (l.ax n).refresh.inserting.getLsbD p.val ∧ (l.unav n).getLsbD (lowOf p).val ∧ l.belowInner n p k up then
    l.abortInsert n p
  else l

/-- A crossing in the decay phase: the currents have not been quiet (R97 step 2). -/
def Lane.stirDecay (l : Lane) (n : Axis) : Lane :=
  l.when (l.axst n == .decay) fun l => l.onAx n fun a => { a with recatch := a.recatch.map fun r => { r with quietSince := l.now } }

/-- A crossing of an enabled ladder level is reported and queued (R73, R75); `taken` says that the understudy takes its
queue in this event (R78). -/
def execLadderCrossing (e : At) (n : Axis) (p : Phase) (level : Fin 8) (up : Bool) (stamp : Nat) (taken : Bool)
    (s : State) : Host.Outcome State Fault Refusal :=
  .next (s.logicEvent e fun l =>
    if l.bit (R.DC_LADCFG_EN n) level.val then
      let l := ((l.queueEvent n ⟨stamp, p, level, up, false⟩).stirDecay n |>.ascRearm n p level up).insertLost n p level up
      if taken then (l.takeEvents n).decideSwitch n else l
    else l)

/-- An update (R78): queued events first, then the interval up to now, then the decision (R81). -/
def execUnderstudyUpdate (e : At) (n : Axis) (s : State) : Host.Outcome State Fault Refusal :=
  .next (s.logicEvent e fun l => (l.takeEvents n).update n)

/-- A dropped update; the second in succession declares rotor lost (R78). -/
def execDroppedUpdate (e : At) (n : Axis) (s : State) : Host.Outcome State Fault Refusal :=
  .next (s.logicEvent e fun l =>
    let l := l.onAx n fun a => { a with us := { a.us with dropped := a.us.dropped + 1 } }
    if 2 ≤ (l.ax n).us.dropped then l.declareRotor n else l)

/-- The two copies now disagree on the switches `differ`, on each for over 40 ns, or, with none named, agree again. Such a
switch stays off for the whole disagreement; each new one is counted, and the eighth of a cycle takes the set out (R84). -/
def execCopyDisagreement (e : At) (n : Axis) (differ : BitVec 6) (s : State) : Host.Outcome State Fault Refusal :=
  .next (s.logicEvent e fun l =>
    let new := count6 (differ &&& ~~~(l.ax n).prot.disagree)
    let l := (l.addTo (R.DC_CNT_CDCNT n) new).when (new != 0) fun l => l.raise (R.DC_EVT_COPYDIS n)
    let l := (l.onAx n fun a => { a with prot := { a.prot with disagree := differ } }).settle n
    if new ≠ 0 ∧ 8 ≤ l.get (R.DC_CNT_CDCNT n) then l.setOut n else l)

/-- Lays a list of words out from an address; reserved bits stay 0 (R13, R85). -/
def Lane.writeWords (l : Lane) (r : Nat → Nat) (ws : List Word) : Lane :=
  (ws.zipIdx).foldl (fun l x => l.setWord (r x.2) (x.1 &&& assignedBits (r x.2))) l

/-- The tables of an axis (R103), in the RAM of both copies (R89). -/
def Lane.writeTables (l : Lane) (n : Axis) (t : AxisTables) : Lane :=
  (((l.writeWords (R.DC_TAB6 n) (t.tab6.take 9)).writeWords (R.DC_TAB12 n) (t.tab12.take 18)).writeWords
    (R.DC_DEG6 n) (t.deg6.take 54)).writeWords (R.DC_DEG12 n) (t.deg12.take 108)

/-- Both copies' tables are loaded again from stage memory, which holds those of the book in force (R89; assumption 92). -/
def Lane.reloadTables (l : Lane) (n : Axis) : Lane :=
  match l.trust.book.bind (·.tables) with
  | some t => l.writeTables n t[n]
  | none => l

/-- A parity error in the table RAM of copy `copy`: that copy requests all switches off, so all six are, and both copies are
loaded again; the set is out of service on the second error within 1 s (R89). Writes and reloads reach both RAMs alike, so
the DC block's words stand for both. -/
def execTableParity (e : At) (n : Axis) (copy : Fin 2) (s : State) : Host.Outcome State Fault Refusal :=
  .next (s.logicEvent e fun l =>
    let second : Bool := match (l.ax n).prot.parityAt with | none => false | some t => !l.since t.2 (ms 1000)
    let l := l.raise (R.DC_EVT_TBLPAR n)
    let l := (l.onAx n fun a => { a with prot := { a.prot with parityAt := some (copy, l.now) } }).release n
    if second then l.setOut n else l.reloadTables n)

/-- The dwell ends; the lookup uses the comparators as they stand (R90). -/
def execDwellEnd (e : At) (n : Axis) (s : State) : Host.Outcome State Fault Refusal :=
  .next (s.logicEvent e fun l =>
    if (l.ax n).sw.dwellEnd ≤ l.now then
      let l := l.drop (R.DC_STAT_DWELL n)
      if l.looksUp n then l.lookup n else l
    else l)

/-- The short circuit of a re-catch has lasted ASCMIN: decay (R97 steps 1 and 2). -/
def execAscEnd (e : At) (n : Axis) (s : State) : Host.Outcome State Fault Refusal :=
  .next (s.logicEvent e fun l =>
    match (l.ax n).recatch with
    | some r =>
      if l.axst n = .asc ∧ l.since r.declared (us (100 * l.get (R.DC_RCATCH_ASCMIN n))) then
        let l := l.onAx n fun a => { a with recatch := some { r with quietSince := l.now } }
        (l.setAxst n .decay).enterRank3 n
      else l
    | none => l)

/-- The understudy is initialised anew at the rotor angle: ψ is PSIM there, every current 0 (R97 step 3). -/
def Lane.initFlux (l : Lane) (n : Axis) : Lane :=
  let th := l.thetaAt n l.now
  (l.onAx n fun a => { a with
    us := { a.us with
      psiA := l.psim n * Config.cosTurn th, psiB := l.psim n * Config.sinTurn th
      ia := 0, ib := 0, te := 0, last := l.now, applied := l.on n, trail := [] } }).showEstimates n th

/-- The currents have lain between the innermost levels for 100 µs: ψ is PSIM at theta, every current 0, and the probe
begins (R97 steps 2 to 4). -/
def execDecayDone (e : At) (n : Axis) (s : State) : Host.Outcome State Fault Refusal :=
  .next (s.logicEvent e fun l =>
    match (l.ax n).recatch with
    | some r =>
      if l.axst n = .decay ∧ l.since r.quietSince (us 100) then
        let l := (l.initFlux n).onAx n fun a => { a with recatch := some { r with inBound := 0 } }
        ((l.drop (R.DC_LASTX_RLCNT n)).setAxst n .probe).decideSwitch n
      else l
    | none => l)

/-- 20 ms after the declaration without success (R97 step 6). -/
def execRecatchFail (e : At) (n : Axis) (s : State) : Host.Outcome State Fault Refusal :=
  .next (s.logicEvent e fun l =>
    match (l.ax n).recatch with
    | some r =>
      if l.inRecatch n ∧ l.since r.declared (ms 20) then (l.raise (R.DC_EVT_RCFAIL n)).setOut n else l
    | none => l)

/-- The substitute ends without valid feedback: SUBSTEND, and the set is out of service (R101). -/
def Lane.substEnd (l : Lane) (n : Axis) : Lane := (l.raise (R.DC_EVT_SUBSTEND n)).setOut n

/-- Feedback invalid and no substitute running: the substitute starts where R101 allows it, else the set goes out of
service within the Tier 1 time (R560). -/
def Lane.actInvalid (l : Lane) (n : Axis) : Lane :=
  if !l.angleLost n then l else if l.maySubstitute n then l.substitute n else l.setOut n

/-- The substitute has lasted SUBSTMAX (R101). -/
def execSubstituteTimeout (e : At) (n : Axis) (s : State) : Host.Outcome State Fault Refusal :=
  .next (s.logicEvent e fun l =>
    match (l.ax n).us.substSince with
    | some t => if l.since t (ms (l.get (R.DC_BEMF1_SUBSTMAX n))) then l.substEnd n else l
    | none => l)

/-- DC_CTRL[EN] is written 0 (R97, R101, R102). -/
def execAxisDisable (e : At) (n : Axis) (s : State) : Host.Outcome State Fault Refusal :=
  .next (s.logicEvent e fun l => l.disableAxis n)

/-- Once per beat (R100, R101): the back-EMF angle against theta, and what the comparison ends or sets. -/
def Lane.beatAngle (l : Lane) (n : Axis) : Lane :=
  let dev := decide ((l.get (R.DC_BEMF0_ANGDEV n) : Rat) <
    ratAbs (angleDiff (l.backEmfAngle n -
      (l.thetaEnc n + (l.get (R.DC_THOFS_OFS n) : Rat) + (l.getInt (R.DC_TRIM_TRIM n) : Rat)))))
  let l := l.onAx n fun a => { a with us := { a.us with
    devBeats := if l.bemfOk n && dev then a.us.devBeats + 1 else 0
    agreeBeats := if l.fbValid n && !dev then a.us.agreeBeats + 1 else 0 } }
  let l := l.when (decide (4 ≤ (l.ax n).us.devBeats)) fun l => l.raise (R.DC_EVT_ENCDEV n)
  let l := l.when ((l.ax n).us.devBeats == 4) fun l => l.note (.implausible n)
  if l.flag (R.DC_STAT_SUBST n) then
    if !l.bemfOk n then l.substEnd n
    else if 4 ≤ (l.ax n).us.agreeBeats then
      (l.drop (R.DC_STAT_SUBST n)).onAx n fun a => { a with us := { a.us with substSince := none } }
    else l
  else l

end Sys2Proof.Machine
end

