-- ==== Sys2Proof/Machine/Loops.lean ====
section
/-!
DEFINITION. The closed-loop engine: its arithmetic (R194 to R196, R579), the loops of an axis (R198 to R207), their
supervision (R209 to R213) and the lockstep comparison (R214 to R216).
-/

namespace Sys2Proof.Machine

/-- A value limited to `[lo, hi]`. -/
def clampInt (lo hi x : Int) : Int := if x < lo then lo else if hi < x then hi else x

/-- A Q1.15 value (R194). -/
def sat16 (x : Int) : Int := clampInt (-32768) 32767 x

/-- The read-out of an accumulator before saturation: 2^14 added, shifted right by 15 (R196). -/
def readOut (x : Int) : Int := (x + 16384).fdiv 32768

/-- An accumulator of 40 bits saturates; a saturation is counted (R195). -/
def Lane.accumulate (l : Lane) (n : Axis) (x : Int) : Lane :=
  if x = clampInt (-549755813888) 549755813887 x then l
  else (l.raise (R.LE_EVT_ACCSAT n)).bump (R.LE_CNT_ACCSAT n)

/-- The accumulator's value of a sum (R195). -/
def acc (x : Int) : Int := clampInt (-549755813888) 549755813887 x

/-- The gain in use: K, or K′ with SOFT, and S (R196, R211). -/
def Lane.gain (l : Lane) (n : Axis) (k s : Fld) : Int :=
  let kk := l.get k
  let kk := if l.flag (R.LE_STAT_SOFT n) then (kk * l.get (R.LE_SOFT_FACT n) + 16384) / 32768 else kk
  ((kk * 2 ^ l.get s : Nat) : Int)

/-- hold(x, lim, e) of R200, from the saturated read-out. -/
def holds (out lim e : Int) : Bool := decide (lim < out ∧ 0 < e) || decide (out < -lim ∧ e < 0)

/-- The measured speed in Q1.15 of WFS (R198, R579, R580) from the reported speed in 1/16 count/s. -/
def Lane.measuredSpeed (l : Lane) (n : Axis) (spd : Int) : Int :=
  sat16 (roundDiv (spd * 60 * 32768) (16 * l.get (R.FB_CPR_CPR n) * l.get (R.LE_SCALE_WFS n) : Nat))

/-- PZERO as a signed 64-bit count. -/
def Lane.pzero (l : Lane) (n : Axis) : Int :=
  ((BitVec.ofNat 32 (l.get (R.LE_PZERO_HI_PZERO n))) ++ (BitVec.ofNat 32 (l.get (R.LE_PZERO_LO_PZERO n)))).toInt

/-- Point k of the stiffness curve. -/
def Lane.curvePoint (l : Lane) (n : Axis) (k : Nat) : Int :=
  if k % 2 = 0 then l.get (R.LE_FCRV_LO n (k / 2)) else l.get (R.LE_FCRV_HI n (k / 2))

/-- The position is beyond the last curve point (R203). -/
def Lane.curveEnd (l : Lane) (n : Axis) : Bool :=
  decide (15 * (l.get (R.LE_FSTEP_FSTEP n) : Int) ≤ l.ext n - l.pzero n)

/-- The measured clamp force F(ext − PZERO) (R203). -/
def Lane.clampForce (l : Lane) (n : Axis) : Int :=
  let d := l.ext n - l.pzero n
  let step : Int := l.get (R.LE_FSTEP_FSTEP n)
  if d < 0 then 0
  else if 15 * step ≤ d then l.curvePoint n 15
  else
    let k := (d / step).toNat
    l.curvePoint n k + roundDiv ((l.curvePoint n (k + 1) - l.curvePoint n k) * (d - k * step)) step

/-- The outer-loop error (R200). -/
def Lane.outerError (l : Lane) (n : Axis) : Int :=
  match l.loopRole n with
  | .position => sat16 (roundDiv ((l.pref n - l.ext n) * 32768) (l.get (R.LE_PFS_PFS n)))
  | .force => sat16 (l.prefLow n - l.clampForce n)
  | _ => 0

/-- A run of an oscillation detector on one error (R210). -/
def OscState.watch (o : OscState) (band e : Int) : OscState :=
  let side : Int := if band < e then 1 else if e < -band then -1 else o.side
  { o with side := side, cur := if o.side * side = -1 then o.cur + 1 else o.cur }

/-- Sets the outer (bit 1) or the speed (bit 0) bit of OSAT and ICLAMP (R196, R202). -/
def Lane.loopBits (l : Lane) (n : Axis) (k : Nat) (out : Int) (i lim : Int) : Lane :=
  (l.putBit (R.LE_STAT_OSAT n) k (out != sat16 out)).putBit (R.LE_STAT_ICLAMP n) k (decide (lim ≤ i.natAbs))

/-- The outer loop (R200, R202). -/
def Lane.outerLoop (l : Lane) (n : Axis) : Lane :=
  let eo := l.outerError n
  let wmax : Int := l.get (R.LE_WMAX_WMAX n)
  let u := l.gain n (R.LE_KPO_K n) (R.LE_KPO_S n) * eo + (l.lp n).io
  let l := l.accumulate n u
  let o := readOut (acc u)
  let wref := clampInt (-wmax) wmax (sat16 o)
  let lim : Int := (l.get (R.LE_ILIM_ILIMO n) : Int) * 32768
  let apart := l.loopRole n == .force && decide (l.ext n < l.pzero n)
  let i := (l.lp n).io + l.gain n (R.LE_KIO_K n) (R.LE_KIO_S n) * eo
  let hold := holds (sat16 o) wmax eo || apart
  let l := if hold then l else l.accumulate n i
  let io := if hold then (l.lp n).io else clampInt (-lim) lim (acc i)
  let l := l.onLp n fun p => { p with
    io := io, outerRan := true, oscO := p.oscO.watch (l.get (R.LE_OSCO_BAND n)) eo }
  (l.putInt (R.LE_WREF_REF n) wref).loopBits n 1 o io lim

/-- The speed loop: the lane's torque proposal (R200, R202). -/
def Lane.speedLoop (l : Lane) (n : Axis) : Lane :=
  let wref := if l.loopRole n = .speed then l.prefLow n else l.getInt (R.LE_WREF_REF n)
  let l := l.putInt (R.LE_WREF_REF n) wref
  let ew := sat16 (wref - l.getInt (R.LE_WREF_MEAS n))
  let v := l.gain n (R.LE_KPW_K n) (R.LE_KPW_S n) * ew + (l.lp n).iw
  let l := l.accumulate n v
  let o := readOut (acc v)
  let lsat : Int := min 32767 (l.wing.nax[n] * (l.lp n).limc)
  let tprop := clampInt (-lsat) lsat (sat16 o)
  let lim : Int := (l.get (R.LE_ILIM_ILIMW n) : Int) * 32768
  let i := (l.lp n).iw + l.gain n (R.LE_KIW_K n) (R.LE_KIW_S n) * ew
  let hold := holds (sat16 o) lsat ew
  let l := if hold then l else l.accumulate n i
  let iw := if hold then (l.lp n).iw else clampInt (-lim) lim (acc i)
  let l := l.onLp n fun p => { p with iw := iw, oscW := p.oscW.watch (l.get (R.LE_OSCW_BAND n)) ew }
  let l := (l.putInt (R.LE_OUT_PROP n) tprop).put (R.LE_OUT_LSAT n) lsat.toNat
  l.loopBits n 0 o iw lim

/-- The loops of an axis run: EN at 1, a module state that permits drive, a role, a LIVE lane or one in step 2 of its re-entry
or past it (R199, R207, R276). -/
def Lane.loopsRun (l : Lane) (n : Axis) : Bool :=
  l.flag (R.DC_CTRL_EN n) && l.modeDrives n &&
  (l.lstate == .live || (l.lstate == .resync && decide (2 ≤ l.get R.WG_RESYNC_STEP))) && l.loopRole n != .none && l.flag R.LE_LSTAT_RUN

/-- No proposal: 0 and not valid (R199, R205, R207). -/
def Lane.noProposal (l : Lane) (n : Axis) : Lane := (l.drop (R.LE_OUT_PROP n)).drop (R.LE_STAT_PROPV n)

/-- What every beat start measures for the loops (R198, R203, R204). -/
def Lane.loopInputs (l : Lane) (n : Axis) : Lane :=
  let l := l.putInt (R.LE_WREF_MEAS n) (l.measuredSpeed n (l.getInt (R.FB_SPEED_SPD n)))
  let l := l.putInt (R.LE_OANG_ANG n) (sat16 (roundDiv ((l.ext n - l.pzero n) * 100) (l.get (R.LE_GEAR_GEAR n))))
  let force := l.loopRole n == .force
  let l := l.putInt (R.LE_OANG_FMEAS n) (if force then l.clampForce n else 0)
  l.putFlag (R.LE_STAT_CURVEND n) (force && l.curveEnd n)

/-- The loops of an axis at a beat start (R199, R200, R205, R207); `outer` where R29 places the outer loop. -/
def Lane.runLoops (l : Lane) (n : Axis) (outer : Bool) : Lane :=
  let l := (l.loopInputs n).onLp n fun p => { p with outerRan := false, dropped := false }
  if !l.loopsRun n ∨ !l.fbValid n then l.noProposal n
  else
    let l := l.when (outer && l.loopRole n != .speed) fun l => l.outerLoop n
    (l.speedLoop n).raise (R.LE_STAT_PROPV n)

/-- The samples of a beat enter the sums of the cycle (R212). -/
def Lane.sumBeat (l : Lane) (n : Axis) : Lane :=
  let w := l.getInt (R.LE_WREF_MEAS n)
  l.onLp n fun p => { p with sums :=
    { te := p.sums.te + l.getInt (R.DC_TEST_EST n)
      w := p.sums.w + w
      f := p.sums.f + l.getInt (R.LE_OANG_FMEAS n)
      first := if p.sums.beats = 0 then w else p.sums.first
      beats := p.sums.beats + 1 } }

/-- Text of the cycle past in N·m, with `wEnd` the speed at its end (R212). -/
def Lane.implied (l : Lane) (n : Axis) (wEnd : Int) : Rat :=
  let s := (l.lp n).sums
  let k : Rat := s.beats
  let rad : Rat := (l.get (R.LE_SCALE_WFS n) : Rat) / 32768 / 60 * Config.radPerTurn
  let te : Rat := (s.te : Rat) / k * (l.get (R.DC_SCALE_TFS n) : Rat) / 100 / 32768
  let b : Rat := (l.get (R.LE_PLS0_B n) : Rat) / 100000
  let j : Rat := (l.get (R.LE_PLS0_J n) : Rat) / 100000
  let cyc : Rat := k / 20000
  let f : Rat :=
    if l.loopRole n = .force then
      (s.f : Rat) / k * (l.get (R.LE_SCALE_FFS n) : Rat) * 10 / 32768 / (l.get (R.LE_KF_KF n) : Rat)
    else 0
  (l.wing.nax[n] : Rat) * te - b * ((s.w : Rat) / k * rad) - j * ((wEnd - s.first : Int) : Rat) * rad / cyc - f

/-- A rational rounded to the nearest integer, halves toward plus infinity (R579). -/
def ratRound (x : Rat) : Int := (x + 1 / 2).floor

/-- Plausibility of the cycle past (R209, R212); the flag is posted in the summary of beat 1 (R213). -/
def Lane.plausCheck (l : Lane) (n : Axis) : Lane :=
  let x := l.implied n (l.getInt (R.LE_WREF_MEAS n))
  let bad := decide ((l.get (R.LE_PLS1_TLOAD n) : Rat) / 100 < ratAbs x)
  let l := l.putInt (R.LE_SUPV_TEXT n) (sat16 (ratRound (x * 100)))
  let l := l.onLp n fun p => { p with evaluated := p.evaluated + 1, plausFlag := bad }
  let l := if bad then l else l.put (R.LE_PLS1_MCNT n) 0
  if !bad ∧ l.get (R.LE_PLS1_WIN n) ≤ (l.lp n).evaluated then l.put (R.LE_STAT_SUP n) 1 else l

/-- A detector's crossings of the window, the cycle past included (R210). -/
def OscState.count (o : OscState) (win : Nat) : Nat := ((o.cur :: o.past).take win).sum

/-- The next cycle begins for a detector. -/
def OscState.nextCycle (o : OscState) : OscState := { o with cur := 0, past := (o.cur :: o.past).take 255 }

/-- Oscillation in the cycles past (R210, R211). -/
def Lane.oscCheck (l : Lane) (n : Axis) : Lane :=
  let a := (l.lp n).oscO.count (l.get (R.LE_OSCO_WIN n))
  let b := (l.lp n).oscW.count (l.get (R.LE_OSCW_WIN n))
  let l := (l.put (R.LE_SUPV_OSCO n) (min 255 a)).put (R.LE_SUPV_OSCW n) (min 255 b)
  let fires := decide (l.get (R.LE_OSCO_LIM n) ≤ a ∨ l.get (R.LE_OSCW_LIM n) ≤ b) && l.get (R.LE_STAT_SUP n) == 1
  let l := l.onLp n fun p => { p with oscFlag := fires, oscO := p.oscO.nextCycle, oscW := p.oscW.nextCycle }
  if fires then l.raise (R.LE_EVT_OSC n) else l

/-- A rehearsal motion step runs: a task of the task tables that a seat submitted in WORKSHOP (R365). -/
def Lane.motionRuns (l : Lane) : Bool :=
  l.mode == .workshop && l.box.running.any fun t => match t.work with | .task _ => true | _ => false

/-- Supervision in beat 0 over the cycle past, and the phase of the cycle that begins (R209). -/
def Lane.supervise (l : Lane) (n : Axis) : Lane :=
  let full := (l.lp n).sums.beats == l.beats
  let l := if l.get (R.LE_STAT_SUP n) = 2 ∧ full then l.plausCheck n else l.onLp n fun p => { p with plausFlag := false }
  let l := (l.oscCheck n).onLp n fun p => { p with sums := ⟨0, 0, 0, 0, 0⟩ }
  if !l.loopsRun n then l.put (R.LE_STAT_SUP n) 0
  else if (l.lp n).startNext || (l.motionRuns && l.get (R.LE_STAT_SUP n) != 2) then (l.put (R.LE_STAT_SUP n) 2).onLp n fun p => { p with startNext := false, evaluated := 0 }
  else if l.get (R.LE_STAT_SUP n) = 0 then l.put (R.LE_STAT_SUP n) 1
  else l

/-- The agreed value of an integrator (R206): with three values the median, with two the one nearer zero. -/
def agreeIntegrator : List Int → Option Int
  | [] => none
  | [a] => some a
  | [a, b] =>
    some (if a.natAbs < b.natAbs then a else if b.natAbs < a.natAbs then b else if a = b then a else 0)
  | a :: b :: c :: _ => some (max (min a b) (min (max a b) c))

/-- Both engines of the loop pair stop, an exception to the trio (R234): L0 and L1 are unusable and the lane goes OUT
(R215). -/
def execLockstepMismatch (e : At) (s : State) : Host.Outcome State Fault Refusal :=
  .next (s.logicEvent e fun l =>
    let l := (l.trioEvent.raise R.LE_LEVT_LSMIS).drop R.LE_LSTAT_RUN
    let l := (l.putBit R.LC_ENGSTAT_UNUS 3 true).putBit R.LC_ENGSTAT_UNUS 4 true
    ((l.putBit R.LC_ENGSTAT_RUN 3 false).putBit R.LC_ENGSTAT_RUN 4 false).laneOut)

/-- Whether an injected mismatch was detected (R216). -/
def Lane.injected (l : Lane) (detected : Bool) : Lane :=
  let l := l.putFlag R.LE_LSTAT_TESTHIT detected
  if detected then l else (l.raise R.LE_LEVT_TESTMISS).laneOut

/-- The injection is due: the pair runs in service, 2^16 cycles have passed since the last, and the moment lies 40 to 50 µs
into beat ⌊N / 2⌋ of the cycle (R216). -/
def Lane.injectionDue (l : Lane) : Bool :=
  l.fromHold && l.flag R.LE_LSTAT_RUN && decide (l.trio.injectedAt + 65536 ≤ l.mode_.cycle) &&
    l.beatIn == l.beats / 2 && l.since l.wing.beatAt (us 40) && !l.since l.wing.beatAt (us 50)

/-- A mismatch is injected into the comparator and was or was not detected (R216). -/
def execLockstepInjection (e : At) (detected : Bool) (s : State) : Host.Outcome State Fault Refusal :=
  .next (s.logicEvent e fun l =>
    if l.injectionDue then (l.onTrio fun t => { t with injectedAt := l.mode_.cycle }).injected detected else l)

end Sys2Proof.Machine
end

