-- ==== Sys2Proof/Machine/Trio.lean ====
section
/-!
DEFINITION. The trio: its modes, odd cores, resynchronisations and exercises (R226, R227, R236 to R249).
-/

namespace Sys2Proof.Machine

/-- The voter's mode (TV_STAT[MODE]). -/
inductive TrioMode where
  | trio | resync | pair | halted
  deriving DecidableEq, Repr

def TrioMode.code : TrioMode → Nat
  | .trio => 0 | .resync => 1 | .pair => 2 | .halted => 3

def Lane.trioMode (l : Lane) : TrioMode :=
  match l.get R.TV_STAT_MODE with | 0 => .trio | 1 => .resync | 2 => .pair | _ => .halted

def Lane.setTrioMode (l : Lane) (m : TrioMode) : Lane := l.put R.TV_STAT_MODE m.code

/-- A core whose copies the voter takes: not unusable, and not being resynchronised (R227, R239). -/
def Lane.coreVotes (l : Lane) (c : Core) : Bool :=
  !l.bit R.TV_STAT_UNUS c.val && !(l.trioMode == .resync && l.get R.TV_STAT_JOIN == c.val)

/-- The bytes of a word that a mask selects. -/
def maskBytes (m : BitVec 4) (new old : Word) : Word :=
  let pick (k : Nat) : Word := if m.getLsbD k then (0xFF : Word) <<< (8 * k) else 0
  let sel := pick 0 ||| pick 1 ||| pick 2 ||| pick 3
  (new &&& sel) ||| (old &&& ~~~sel)

/-- The committed file takes a decided register or control write (R236). -/
def fileSet (k : Nat) (v : Word) : List (Nat × Word) → List (Nat × Word)
  | [] => [(k, v)]
  | (j, u) :: r => if k < j then (k, v) :: (j, u) :: r else if k = j then (k, v) :: r else (j, u) :: fileSet k v r

/-- A decided write to the register file or to the control registers. A pair holds its low word under the index named and
its high word under the next (assumption 94). -/
def fileWrite (x : Txn) (f : List (Nat × Word)) : List (Nat × Word) :=
  let k := (if x.kind = 1 then 2 ^ 24 else 0) + x.dest.toNat
  let f := fileSet k (x.value.setWidth 32) f
  if x.pair then fileSet (k + 1) ((x.value >>> 32).setWidth 32) f else f

/-- TV_LASTODD and TV_LASTT record an odd event or its kin. -/
def Lane.showOdd (l : Lane) (c : Core) (kind : Nat) (x : Txn) : Lane :=
  let l := (l.put R.TV_LASTODD_CORE c.val).put R.TV_LASTODD_KIND kind
  let l := (l.put R.TV_LASTODD_TYPE x.kind.val).put R.TV_LASTODD_DEST x.dest.toNat
  let ns := l.stampNow / 4
  let l := (l.put R.TV_LASTT0_QNS (l.stampNow % 4)).put R.TV_LASTT0_NS (ns % 1000000000)
  l.put R.TV_LASTT1_SEC (ns / 1000000000)

/-- The voter halts every core and the lane goes OUT (R241). -/
def Lane.haltTrio (l : Lane) (ev : Fld) : Lane :=
  let l := (l.raise ev).setTrioMode .halted
  let l := ((l.putBit R.LC_ENGSTAT_RUN 0 false).putBit R.LC_ENGSTAT_RUN 1 false).putBit R.LC_ENGSTAT_RUN 2 false
  (l.onTrio fun t => { t with
    slots := [], cores := t.cores.map fun c => { c with held := none } }).laneOut

/-- A core is marked unusable until the next start of day; the trio runs in PAIR (R239, R242). -/
def Lane.coreUnusable (l : Lane) (c : Core) : Lane :=
  let l := (l.raise R.TV_EVT_UNUSABLE).putBit R.TV_STAT_UNUS c.val true
  let l := (l.putBit R.LC_ENGSTAT_UNUS c.val true).putBit R.LC_ENGSTAT_RUN c.val false
  (l.setTrioMode .pair).note (.coreUnusable c)

/-- Completed resynchronisations of a core within the last second (R239). -/
def Lane.recentDone (l : Lane) (c : Core) : List Nat :=
  l.trio.done[c].filter fun t => decide (l.now < t + ms 1000)

/-- TV_RECENT as it stands now. -/
def Lane.showRecent (l : Lane) : Lane :=
  l.put R.TV_RECENT_RECENT
    (min 15 (l.recentDone 0).length + 16 * min 15 (l.recentDone 1).length + 256 * min 15 (l.recentDone 2).length)

/-- The odd core is halted: its pending copies are discarded, pipeline, predictor and store buffer are reset, the caches
invalidated, and its registers loaded from the committed file (R227, R236 steps 1 to 3). An exercise still to come is deferred
(R245). -/
def TrioState.haltCore (t : TrioState) (c : Core) : TrioState := { t with
  slots := t.slots.map fun s => { s with
    copies := s.copies.filter fun k => k.core != c, ex := none, delayed := none }
  exDeferred := t.exDeferred || t.exercise.isSome || t.slots.any fun s => s.ex.isSome
  exercise := none
  cores := t.cores.set c { t.cores[c] with held := none, file := t.file, cold := true } }

/-- Core `c` is odd: it is resynchronised, or unusable with three recent resynchronisations (R226, R236, R239). -/
def Lane.oddCore (l : Lane) (c : Core) (late : Bool) (x : Txn) : Lane :=
  let l := l.raise (if late then R.TV_EVT_ODDLATE else R.TV_EVT_ODDDIFF)
  let l := (l.showOdd c late.toNat x).note (.oddCore c late.toNat)
  let l := l.showRecent.onTrio fun t => t.haltCore c
  if 3 ≤ (l.recentDone c).length then l.coreUnusable c
  else ((l.setTrioMode .resync).put R.TV_STAT_JOIN c.val).onTrio fun t => { t with resyncAt := l.now }

/-- The core that TV_STAT[JOIN] names. -/
def Lane.joining (l : Lane) : Core := if l.get R.TV_STAT_JOIN = 0 then 0 else if l.get R.TV_STAT_JOIN = 1 then 1 else 2

/-- Step 5 of R236 has not come within 8.0 µs: the core is unusable (R237). -/
def Lane.resyncLate (l : Lane) : Lane := (l.raise R.TV_EVT_RSTMO).coreUnusable l.joining

/-- The joining core is released with the program counter and the transaction number, and votes again (R236 steps 4 and 5).
The pair is held at its next voted transaction: no transaction is open. -/
def execResyncComplete (e : Seen Word) (s : State) : Host.Outcome State Fault Refusal :=
  .next (s.logicEvent e.toAt fun l =>
    if l.trioMode = .resync ∧ l.since l.trio.resyncAt (us 8 + 1) then l.resyncLate
    else if l.trioMode = .resync ∧ l.trio.slots = [] then
      let c := l.joining
      let tot := l.get R.TV_RSCNT_TOTAL
      let l := (l.setTrioMode .trio).raise R.TV_EVT_RSDONE
      let l := if tot / 2 ^ (8 * c.val) % 256 < 255 then l.put R.TV_RSCNT_TOTAL (tot + 2 ^ (8 * c.val)) else l
      let l := l.onTrio fun t => { t with
        done := t.done.set c (l.now :: l.recentDone c), lateOf := none
        cores := t.cores.set c { t.cores[c] with
          next := t.number, run := 0, file := t.file, point := e.val.setWidth 64, taken := t.presented } }
      l.showRecent.note (.resynced c)
    else l)

/-- Step 5 of R236 has not come within 8.0 µs (R237). -/
def execResyncTimeout (e : At) (s : State) : Host.Outcome State Fault Refusal :=
  .next (s.logicEvent e fun l =>
    if l.trioMode = .resync ∧ l.since l.trio.resyncAt (us 8) then
      l.resyncLate
    else l)

/-- The next exercise index. -/
def Lane.nextExercise (l : Lane) : Lane := l.put R.TV_EXER_NEXT ((l.get R.TV_EXER_NEXT + 1) % 120)

/-- An exercise ends, detected or missed: a missed one takes the lane OUT (R243, R247, R249). -/
def Lane.endExercise (l : Lane) (missed : Bool) : Lane :=
  let l := l.raise R.TV_EVT_EXDONE
  if missed then (((l.put R.TV_EXER_LAST 2).raise R.TV_EVT_EXMISS).nextExercise).laneOut
  else ((l.put R.TV_EXER_LAST 1).bump R.TV_EXER_PASSCNT).nextExercise

/-- A real disagreement makes the exercise void: it is repeated at the next due cycle (R246). -/
def Lane.voidExercise (l : Lane) : Lane := l.put R.TV_EXER_LAST 3

/-- The copy that exercise `e` alters: that of core e mod 3, in PAIR of a running core (R244; assumption 94). -/
def Lane.exerciseCore (l : Lane) (e : Nat) : Core :=
  let c : Core := ⟨e % 3, by omega⟩
  if l.coreVotes c then c else if l.coreVotes 0 then 0 else 1

/-- An exercise is due: 2^16 cycles have passed since the last, or one is deferred or asked for, and the moment lies past
the 30 µs offset of beat ⌊N / 2⌋ + 1 of the cycle (R244, R245, R249). -/
def Lane.exerciseDue (l : Lane) : Bool :=
  (l.trio.exDeferred || l.trio.exNow || decide (l.trio.exercisedAt + 65536 ≤ l.mode_.cycle)) &&
    l.beatIn == l.beats / 2 + 1 && l.since l.wing.beatAt (us 30)

/-- An undecided transaction carries an exercise; kind 38 delays the copy that its core has issued already. -/
def Slot.arm (s : Slot) (x : Exercise) : Slot :=
  let k : Option Copy := if x.kind = 38 then s.copies.find? fun k => k.core == x.core else none
  { s with ex := some x, delayed := k, copies := if k.isSome then s.copies.filter (fun k => k.core != x.core) else s.copies }

/-- Exercise NEXT is armed for the next decided transaction: the undecided one, or the one to come. Kinds 38 and 39 are not
run in PAIR: the sweep goes on with exercise 0 (R243, R244; assumption 94). -/
def Lane.armExercise (l : Lane) (missed : Bool) : Lane :=
  let l := if l.trioMode = .pair ∧ 114 ≤ l.get R.TV_EXER_NEXT then l.drop R.TV_EXER_NEXT else l
  let e := l.get R.TV_EXER_NEXT
  let x : Exercise := ⟨e / 3 % 40, l.exerciseCore e, missed⟩
  let open_ := l.trio.slots.any fun s => s.decided.isNone
  l.onTrio fun t => { t with
    exNow := false, exDeferred := false, exercisedAt := l.mode_.cycle
    exercise := if open_ then none else some x
    slots := t.slots.map fun s => if s.decided.isNone then s.arm x else s }

/-- An exercise falls due: deferred in RESYNC, armed in TRIO and PAIR (R244, R245); `missed` is whether the voter, at the
decision, misses it (R247). -/
def execExercise (e : At) (missed : Bool) (s : State) : Host.Outcome State Fault Refusal :=
  .next (s.logicEvent e fun l =>
    if !l.exerciseDue then l
    else
      match l.trioMode with
      | .halted => l
      | .resync => l.onTrio fun t => { t with exDeferred := true }
      | _ => l.armExercise missed)

/-- TV_CMD[EXNOW] is written: effective in WORKSHOP only (R249). -/
def execExnow (e : At) (s : State) : Host.Outcome State Fault Refusal :=
  .next (s.logicEvent e fun l => if l.mode = .workshop then l.onTrio fun t => { t with exNow := true } else l)

/-- At a cycle start the lag of the cycle past is recorded and the window's delay line calibrated (R225, R230). -/
def Lane.trioCycle (l : Lane) : Lane :=
  let lag := l.get R.TV_SKEW_MAXCYC
  let l := l.when (decide (240 < lag)) fun l => l.note (.skew lag)
  let l := (l.drop R.TV_SKEW_MAXCYC).put R.TV_WIN_WIN (300 + l.choice % 41)
  l.nextChoice.showRecent

end Sys2Proof.Machine
end

