-- ==== Sys2Proof/Machine/Power.lean ====
section
/-!
DEFINITION. Pace, core voltage, the reference, supplies, power-up and power-down (Self-Timed Fabric, Supplies and Pace),
and the pace spread of the trio (R229).
-/

namespace Sys2Proof.Machine

/-- A deficit raises the target by 20 mV from the value reached (R50); a higher goal that the target already moves to
stands. DESIGN CHOICE (assumption 90): a deficit that lasts raises it again at each reading once the last raise is done, and
the raised target stays when the deficit ends, until a boost ends or HOLD or WORKSHOP is entered. -/
def Lane.boostCore (l : Lane) (begins : Bool) : Lane :=
  let t := l.get R.PW_VCSET_TARGET
  if begins || l.power.goal ≤ t then l.moveCore (min l.vcMax (max (if t < l.power.goal then l.power.goal else 0) (t + 20)))
  else l

/-- A time that began at `t` goes on while `b` holds. -/
def sinceWhile (b : Bool) (t : Option Nat) (now : Nat) : Option Nat := if b then some (t.getD now) else none

/-- The readings of one die as PW_LGAUGE or PW_PGAUGE show them. -/
def showGauges (valid read : Nat → Fld) (v : Vector Nat 16) (l : Lane) : Lane :=
  (List.finRange 16).foldl (fun l k => (l.raise (valid k.val)).put (read k.val) v[k]) l

/-- The slowest gauge relative to its own die's limit: die, index, reading. DESIGN CHOICE (assumption 90): of two equally
slow gauges the first, the logic die before the power die. -/
def slowest (lim plim : Nat) (logic power : Vector Nat 16) : Bool × Nat × Nat :=
  let all : List (Bool × Nat × Nat) :=
    (List.finRange 16).map (fun k => (false, k.val, logic[k])) ++ (List.finRange 16).map (fun k => (true, k.val, power[k]))
  let other (x : Bool × Nat × Nat) : Nat := x.2.2 * (if x.1 then lim else plim)
  all.foldl (fun a b => if other a < other b then b else a) (false, 0, logic[0])

/-- The pace spread of the gauges beside the cores (R229). -/
def spreadOf (a b c : Nat) : Rat :=
  let mx := max a (max b c)
  let mn := min a (min b c)
  ((mx - mn : Nat) : Rat) / (mn : Rat)

/-- TV_SPREAD and how long the spread has been above 2.00 % (R229). -/
def Lane.showSpread (l : Lane) (a b c : Nat) : Lane :=
  let x := spreadOf a b c
  let v := (Config.quantize (x * 10000)).toNat
  let l := (l.put R.TV_SPREAD_NOW v).put R.TV_SPREAD_MAX (max (l.get R.TV_SPREAD_MAX) v)
  l.onTrio fun t => { t with spreadSince := sinceWhile (decide (2 / 100 < x)) t.spreadSince l.now }

/-- The gauges are read (R45, R46, R50). DESIGN CHOICE (assumption 90): a deficit of one die that begins while the other
die's lasts is no new deficit in DEFICIT and DEFCNT. -/
def execGaugeRead (e : At) (logic power : Vector Nat 16) (s : State) : Host.Outcome State Fault Refusal :=
  .next (s.logicEvent e fun l =>
    let l := showGauges R.PW_LGAUGE_VALID R.PW_LGAUGE_READ logic l
    let l := showGauges R.PW_PGAUGE_VALID R.PW_PGAUGE_READ power l
    let lim := l.get R.PW_GFLOOR_LLIM
    let plim := l.get R.PW_GFLOOR_PLIM
    let slow := logic.toList.any fun x => decide (lim < x)
    let pslow := power.toList.any fun x => decide (plim < x)
    let hadSlow := l.power.logicSince.isSome
    let had := hadSlow || l.power.powerSince.isSome
    let (die, i, r) := slowest lim plim logic power
    let l := ((l.putFlag R.PW_PACE_DIE die).put R.PW_PACE_WORST i).put R.PW_PACE_WORSTRD r
    let l := l.putFlag R.PW_SUPSTAT_DEFICIT (slow || pslow)
    let l := l.when ((slow || pslow) && !had) fun l => (l.raise R.PW_SUPEVT_DEFICIT).bump R.PW_PACE_DEFCNT
    let l := l.onPower fun p => { p with
      logicSince := sinceWhile slow p.logicSince l.now, powerSince := sinceWhile pslow p.powerSince l.now }
    let l := l.when slow fun l => l.boostCore !hadSlow
    l.showSpread logic[0] logic[1] logic[2])

/-- A moment lies at least `d` back. -/
def Lane.lasted (l : Lane) (t : Option Nat) (d : Nat) : Bool :=
  match t with | some t => l.since t d | none => false

/-- A deficit has lasted 100 µs: of the logic die with the target at its maximum, or of the power die (R50). -/
def execDeficitPersist (e : At) (power : Bool) (s : State) : Host.Outcome State Fault Refusal :=
  .next (s.logicEvent e fun l =>
    if power then (if l.lasted l.power.powerSince (us 100) then l.laneOut else l)
    else if l.lasted l.power.logicSince (us 100) ∧ l.lasted l.power.maxSince (us 100) then l.laneOut
    else l)

/-- The spread has been above 2.00 % for 20 µs: the target rises as for a deficit (R229). -/
def execSpreadHigh (e : At) (s : State) : Host.Outcome State Fault Refusal :=
  .next (s.logicEvent e fun l =>
    if l.lasted l.trio.spreadSince (us 20) then (l.raise R.TV_EVT_SPREADHI).boostCore true else l)

/-- The spread has stayed above 2.00 % for 100 µs at the maximum target (R229). -/
def execSpreadPersist (e : At) (s : State) : Host.Outcome State Fault Refusal :=
  .next (s.logicEvent e fun l =>
    if l.lasted l.trio.spreadSince (us 100) ∧ l.lasted l.power.maxSince (us 100) then l.laneOut else l)

/-- The target stands at PW_VCLIM[MAX] since (R50, R229). -/
def Lane.markMax (l : Lane) : Lane :=
  l.onPower fun p => { p with maxSince := sinceWhile (decide (l.vcMax ≤ l.get R.PW_VCSET_TARGET)) p.maxSince l.now }

/-- PW_SUPSTAT[VCOK]: VCORE_x is within 20 mV of the target. -/
def Lane.showVcok (l : Lane) : Lane :=
  let t := l.get R.PW_VCSET_TARGET
  let v := l.get R.PW_VCSET_MEAS
  l.putFlag R.PW_SUPSTAT_VCOK (decide (t ≤ v + 20 ∧ v ≤ t + 20))

/-- The target moves one step of 5 mV toward its goal, at most one per 2 µs, and VREFC_x with it (R47). DESIGN CHOICE
(assumption 90): the last step is shorter where the goal is no multiple of 5 mV away. -/
def execVcoreStep (e : At) (s : State) : Host.Outcome State Fault Refusal :=
  .next (s.logicEvent e fun l =>
    let t := l.get R.PW_VCSET_TARGET
    let g := l.power.goal
    if t = g ∨ !l.since l.power.lastStep (us 2) then l
    else
      let t' := if t < g then min g (t + 5) else max g (t - 5)
      (((l.put R.PW_VCSET_TARGET t').onPower fun p => { p with lastStep := l.now, stepFrom := t }).markMax.showVcok).send (.coreReference t'))

/-- VCORE_x has reached 0.74 V: axes that waited begin their precharge (R48, R49). -/
def Lane.coreRisen (l : Lane) : Lane :=
  let l := l.onPower fun p => { p with
    riseSince := none, risen := true, risenAt := if p.risen && p.riseSince.isNone then p.risenAt else l.now }
  if l.mode_.enableWait then
    let l := l.onMode fun m => { m with enableWait := false }
    l.allAxes fun l n =>
      if l.flag (R.DC_CTRL_EN n) ∧ l.modeDrives n ∧ l.axst n = .off ∧ (l.ax n).refresh.precharge.isNone then l.startPrecharge n else l
  else l

/-- VCORE_x is measured at the die: PW_VCSET[MEAS], VCOK, and the end of a rise (R48, R68). -/
def Lane.measureCore (l : Lane) (meas : Nat) : Lane :=
  let l := (l.put R.PW_VCSET_MEAS meas).showVcok
  l.when (decide (740 ≤ l.get R.PW_VCSET_MEAS)) fun l => l.coreRisen

/-- PW_VCSET[MEAS] reaches 0.74 V (R48). -/
def execVcoreRiseDone (e : At) (meas : Nat) (s : State) : Host.Outcome State Fault Refusal :=
  .next (s.logicEvent e fun l => l.measureCore meas)

/-- 90 µs after the rise of R48 began VCORE_x has not reached 0.74 V (R51); `e.val` is what it reads then. -/
def execVcoreRiseTimeout (e : Seen Nat) (s : State) : Host.Outcome State Fault Refusal :=
  .next (s.logicEvent e.toAt fun l =>
    let l := l.measureCore e.val
    if l.lasted l.power.riseSince (us 90) then (l.raise R.PW_SUPEVT_VCUV).laneOut else l)

/-- VCORE_x has been below 0.715 V for `e.val` ns, reading `meas`: 2 µs of it, counted from the end of any rise, are a lane
fault in a state that R48 holds at 0.74 V or above (R51). -/
def execCoreUndervoltage (e : Seen Nat) (meas : Nat) (s : State) : Host.Outcome State Fault Refusal :=
  .next (s.logicEvent e.toAt fun l =>
    let l := l.measureCore meas
    if meas < 715 ∧ 2000 ≤ e.val ∧ 740 ≤ l.coreFloor ∧ l.power.riseSince.isNone ∧ l.since l.power.risenAt (us 2) then (l.raise R.PW_SUPEVT_VCUV).laneOut else l)

/-- The power die enters a phase of power-up or power-down. -/
def Lane.powerPhase (l : Lane) (ph : PowerPhase) : Lane := l.onPower fun p => { p with phase := ph, phaseAt := l.now }

/-- VCEN_x follows (R57, R60). -/
def Lane.enableCore (l : Lane) (on : Bool) : Lane := (l.onPower fun p => { p with vcen := on }).send (.coreEnable on)

/-- A memory supply is switched on, or off once it has been discharged (R57, R60). -/
def Lane.setRail (l : Lane) (r : Fin 3) (on : Bool) : Lane :=
  if l.power.rails.getLsbD r = on then l
  else (l.onPower fun p => { p with rails := p.rails ^^^ bits3 (· == r) }).send (.rail r on)

/-- The first `k` memory supplies come up, in the order VDD1, VDD2, VDDQ (R57 step 4). -/
def Lane.railsUp (l : Lane) (k : Nat) : Lane :=
  [(0 : Fin 3), 1, 2].foldl (fun l r => if r.val < k then l.setRail r true else l) l

/-- The memory supplies go off in the order VDDQ, VDD2, VDD1 (R58, R60 step 4). -/
def Lane.railsDown (l : Lane) : Lane := ((l.setRail 2 false).setRail 1 false).setRail 0 false

/-- The sequence of R60 begins, steps 1 to 3: every gate driver and KO off, the logic die in reset (the lane is OUT, and
sends nothing more), VCEN_x deasserted. -/
def Lane.shutDown (l : Lane) (ov : Bool) : Lane :=
  let l := (l.powerPhase .shutdown).onPower fun p => { p with byOv := ov, vinFell := !ov, ovLatch := p.ovLatch || ov }
  ((l.setLState .out).allAxes fun l n => l.settle n).koSettle.enableCore false

/-- VCORE_x has been above 0.93 V for `e.val` ns: after 2 µs a lane fault, and the sequence of R60 with no restart by itself;
its peers see an idle link (R51, R62). -/
def execCoreOvervoltage (e : Seen Nat) (meas : Nat) (s : State) : Host.Outcome State Fault Refusal :=
  .next (s.powerEvent e.toAt fun l =>
    if 930 < meas ∧ 2000 ≤ e.val ∧ l.power.phase ≠ .shutdown ∧ l.power.phase ≠ .stopped then l.shutDown true
    else l)

/-- A boundary crossing completes `excess` ns late (R52). -/
def execLateCrossing (e : At) (excess : Nat) (s : State) : Host.Outcome State Fault Refusal :=
  .next (s.logicEvent e fun l =>
    let l := (l.bump R.PW_XCNT_COUNT).put R.PW_XCNT_MAX (max (l.get R.PW_XCNT_MAX) (min 65535 excess))
    l.raise R.PW_SUPEVT_XLATE)

/-- The reference on XIN_x has been at `e.val.1`, 0 if absent, for `e.val.2` µs: outside 25 MHz ± 1 % for 20 µs it is lost (R54). -/
def execReferenceLoss (e : Seen (Nat × Nat)) (s : State) : Host.Outcome State Fault Refusal :=
  .next (s.logicEvent e.toAt fun l => l.when (decide ((e.val.1 < 24750000 ∨ 25250000 < e.val.1) ∧ 20 ≤ e.val.2)) fun l =>
    (((l.raise R.PW_SUPEVT_XINLOSS).drop R.PW_SUPSTAT_XINOK).onPower fun p => { p with refLost := true }).laneOut)

/-- The PLL leaves lock (R54). -/
def execPllUnlock (e : At) (s : State) : Host.Outcome State Fault Refusal :=
  .next (s.logicEvent e fun l =>
    (((l.raise R.PW_SUPEVT_PLLUNL).drop R.PW_SUPSTAT_PLLLOCK).onPower fun p => { p with pllLost := true }).laneOut)

/-- VIN_x rises to `e.val` (10 mV): above 6.8 V step 1 of R57. `latchKept`: VIN_x stayed above 3.0 V since a core
over-voltage (R62). -/
def execPowerUp (e : Seen Nat) (latchKept : Bool) (s : State) : Host.Outcome State Fault Refusal :=
  .next (s.anyEvent e.toAt fun l =>
    if 680 < e.val ∧ l.power.phase = .unpowered then
      (l.onTrust fun t => { t with debugOpen := false }).onPower fun p => { p with
        phase := .oscillator, phaseAt := l.now, fails := 0, testHigh := false, byOv := false, vinFell := false
        lostCause := p.lostCause || (p.ovLatch && !latchKept), ovLatch := p.ovLatch && latchKept }
    else l)

/-- The PLL locks: step 2 of R57, which step 3 follows with VREFC_x at 0.40 V and VCEN_x asserted; or again in service. -/
def execPllLock (e : At) (s : State) : Host.Outcome State Fault Refusal :=
  .next (s.powerEvent e fun l =>
    let l := l.onPower fun p => { p with refLost := false, pllLost := false }
    if l.power.phase = .oscillator then ((l.powerPhase .supplies).send (.coreReference 800)).enableCore true
    else if l.logicUp then (l.raise R.PW_SUPSTAT_PLLLOCK).raise R.PW_SUPSTAT_XINOK
    else l)

/-- A supply misses its window: VCORE_x the 2 ms of step 3 (`e.val` 0), or a memory supply the 3 ms of step 4 with `e.val` − 1 of
them up before it. The supplies go off in the reverse order of step 4, VCORE_x last; the third failure ends the retries
(R58). -/
def execSupplyWindowMiss (e : Seen (Fin 4)) (s : State) : Host.Outcome State Fault Refusal :=
  .next (s.powerEvent e.toAt fun l =>
    if l.power.phase = .supplies ∧ l.since l.power.phaseAt (if e.val = 0 then ms 2 else ms 3) then
      let l := (l.railsUp (e.val.val - 1)).railsDown.enableCore false
      let l := l.onPower fun p => { p with fails := p.fails + 1 }
      l.powerPhase (if 3 ≤ l.power.fails then .stopped else .retryWait)
    else l)

/-- The retry of R58, 50 ms later: step 3 again. -/
def execSupplyRetry (e : At) (s : State) : Host.Outcome State Fault Refusal :=
  .next (s.powerEvent e fun l =>
    if l.power.phase = .retryWait ∧ l.since l.power.phaseAt (ms 50) then
      ((l.powerPhase .supplies).send (.coreReference 800)).enableCore true
    else l)

/-- Step 5 of R57: every register at its Reset column and nothing in progress (R14); flash, fuses and the power die's
latches stay. The keeper reads the latch of R62. -/
def Lane.releaseLogic (l : Lane) (boot18 : Bool) : Lane :=
  let r := Lane.reset l.id
  let l' : Lane := { r with
    now := l.now, fresh := l.fresh, emit := l.emit, log := l.log, logNext := l.logNext
    seats := { SeatState.init with sessionHigh := l.seats.sessionHigh }
    trust := { TrustState.init l.trust.flash l.trust.fuses with debugOpen := l.trust.debugOpen }
    power := { PowerState.afterReset with
      testHigh := l.power.testHigh, refLost := l.power.refLost, pllLost := l.power.pllLost, boot18 := boot18 } }
  let l' := if l.power.ovLatch then (l'.raise R.PW_SUPEVT_VCOV).note .overvoltageCause else l'
  if l.power.lostCause then l'.note .noCause else l'

/-- The supplies are up: VCORE_x within 0.78 to 0.82 V in 2 ms and the memory supplies in 3 ms more; the logic die is
released from reset and the keeper starts, sampling BOOTV_x (R14, R57, R570). -/
def execLogicRelease (e : Seen Nat) (bootv18 : Bool) (s : State) : Host.Outcome State Fault Refusal :=
  .next (s.powerEvent e.toAt fun l =>
    if l.power.phase = .supplies ∧ 780 ≤ e.val ∧ e.val ≤ 820 ∧ l.now ≤ l.power.phaseAt + ms 5 then
      (l.railsUp 3).releaseLogic bootv18
    else l)

/-- VIN_x falls to `e.val` (10 mV): below 6.0 V the sequence of R60, or, after a stop, the fall that R62 asks for. DESIGN
CHOICE (assumption 90): after the third failure of R58 such a fall and a new rise begin the power-up again, with the count
at 0. -/
def execVinUndervoltage (e : Seen Nat) (s : State) : Host.Outcome State Fault Refusal :=
  .next (s.powerEvent e.toAt fun l => l.when (decide (e.val < 600)) fun l =>
    match l.power.phase with
    | .shutdown => l.onPower fun p => { p with vinFell := true }
    | .stopped => (l.powerPhase .unpowered).onPower fun p => { p with vinFell := true }
    | _ => l.shutDown false)

/-- The sequence of R60 ends with step 4: the memory supplies are off. The lane starts again from step 1 if VIN_x has
recovered, unless a core over-voltage began the sequence (R61, R62). `e.val`: VIN_x stayed above 3.0 V, so the latch of
R62 keeps its cause. -/
def execShutdownSequenceEnd (e : Seen Bool) (vinBack : Bool) (s : State) : Host.Outcome State Fault Refusal :=
  .next (s.powerEvent e.toAt fun l =>
    if l.power.phase = .shutdown then
      let l := l.railsDown.onPower fun p => { p with
        fails := 0, testHigh := p.testHigh && !p.vinFell
        lostCause := p.lostCause || (p.ovLatch && !e.val), ovLatch := p.ovLatch && e.val }
      l.powerPhase (if l.power.byOv && !l.power.vinFell then .stopped else if vinBack then .oscillator else .unpowered)
    else l)

/-- The temperature of each die, the higher of its two sensors, shows in PW_TEMP, and TWARN whether one is at or above
WARN; the warning event is set when that begins (R67). -/
def Lane.showTemps (l : Lane) (t : Temps) : Lane :=
  let ld := max t.ld.1 t.ld.2
  let pd := max t.pd.1 t.pd.2
  let warm := decide ((l.get R.PW_TLIM_WARN : Int) ≤ max ld pd)
  let l := l.when (warm && !l.flag R.PW_SUPSTAT_TWARN) fun l => l.raise R.PW_SUPEVT_TWARN
  ((l.putInt R.PW_TEMP_LD ld).putInt R.PW_TEMP_PD pd).putFlag R.PW_SUPSTAT_TWARN warm

/-- The higher sensor of the warmer die. -/
def hottest (t : Temps) : Int := max (max t.ld.1 t.ld.2) (max t.pd.1 t.pd.2)

/-- A die reading reaches WARN (R67). -/
def execTemperatureWarning (e : At) (ld pd : Int × Int) (s : State) : Host.Outcome State Fault Refusal :=
  .next (s.logicEvent e fun l => l.showTemps ⟨ld, pd⟩)

/-- A die reading has been at or above TRIP for `held` µs: after 1 ms a lane fault (R67). -/
def execTemperatureTrip (e : At) (temps : Temps) (held : Nat) (s : State) : Host.Outcome State Fault Refusal :=
  .next (s.logicEvent e fun l =>
    let l := l.showTemps temps
    if 1000 ≤ held ∧ (l.get R.PW_TLIM_TRIP : Int) ≤ hottest temps then (l.raise R.PW_SUPEVT_TTRIP).laneOut else l)

/-- An LPDDR4X supply leaves its limits in service (R68). -/
def execMemorySupplyFault (e : At) (rail : Fin 3) (s : State) : Host.Outcome State Fault Refusal :=
  .next (s.logicEvent e fun l =>
    let l := (l.raise R.PW_SUPEVT_MEMSUP).onPower fun p => { p with memBad := p.memBad ||| bits3 (· == rail) }
    l.drop (match rail with | 0 => R.PW_SUPSTAT_VD1OK | 1 => R.PW_SUPSTAT_VD2OK | 2 => R.PW_SUPSTAT_VDQOK))

/-- TEST_x is seen high: every gate driver off, BOOT and OUT until VIN_x is removed (R570). -/
def execTestHigh (e : At) (s : State) : Host.Outcome State Fault Refusal :=
  .next (s.powerEvent e fun l =>
    let l := l.onPower fun p => { p with testHigh := true }
    if l.logicUp then (l.laneOut.setMode .boot).restCore.koSettle else l)

/-- What the monitors read at a beat start (R29, R68), and the supply status that follows from it. -/
def Lane.measure (l : Lane) (m : Measured) : Lane :=
  let l := l.put R.GD_VMSTAT_VM m.vm
  let l := (((l.put R.PW_VIN_VIN m.vin).put R.PW_VIN_VG m.vg).measureCore m.vcore).showTemps m.temps
  let l := l.putFlag R.PW_SUPSTAT_VINOK (decide (800 ≤ m.vin ∧ m.vin ≤ 3600))
  let l := l.putFlag R.PW_SUPSTAT_VINRES (decide (m.vin < l.get R.PW_RESERVE_THR))
  let l := l.putFlag R.PW_SUPSTAT_VGOK l.power.vgSince.isNone
  let l := l.onPower fun p => { p with memBad := ~~~(m.rails.setWidth 3) }
  let l := l.putFlag R.PW_SUPSTAT_VD1OK (!l.power.memBad.getLsbD 0)
  let l := l.putFlag R.PW_SUPSTAT_VD2OK (!l.power.memBad.getLsbD 1)
  let l := l.putFlag R.PW_SUPSTAT_VDQOK (!l.power.memBad.getLsbD 2)
  let l := l.onPower fun p => { p with vpdArmed := p.vpdArmed || m.rails.getLsbD 3 }
  let l := (l.putFlag R.PW_SUPSTAT_VPDOK (m.rails.getLsbD 3)).putFlag R.PW_SUPSTAT_XINOK (!l.power.refLost)
  l.putFlag R.PW_SUPSTAT_PLLLOCK (!l.power.pllLost)

end Sys2Proof.Machine
end

