-- ==== Sys2Proof/Machine/Box.lean ====
section
/-!
DEFINITION. The box office (R291 to R312): ledgers, the sale of tickets, suspension and release.
-/

namespace Sys2Proof.Machine

/-! ### Ledgers: 0 LD, 1 PD, 2 to 5 the windings, 6 BR, 7 to 10 the brakes, 11 SUP. Dies in 0.1 °C, windings in °C, the rest in J. -/

/-- Safety tasks of the prompt book (R302). -/
def Lane.safetyTasks (l : Lane) : List TaskEntry :=
  ((l.trust.book.bind (·.tasks)).getD []).filter (·.safety)

/-- What house seats reserve of an item: the safety tasks' costs and the device's own fixed work (R302). -/
def Lane.house (l : Lane) (k : Nat) (f : Cost → Nat) : Rat :=
  (((l.safetyTasks.map fun t => f t.cost).sum : Nat) : Rat) + Config.houseSeat k

/-- An engine's number in the house reservation. -/
def engineIndex : Engine → Nat
  | .trio => 0 | .loopPair => 1 | .q => 2 | .n => 3 | .k => 4

/-- The time per beat house seats take on an engine, in ns. -/
def Lane.houseTime (l : Lane) (e : Engine) : Rat :=
  (((l.safetyTasks.map fun t => if t.cost.engine = e then t.cost.duration else 0).sum : Nat) : Rat)
    + Config.houseSeat (3 + engineIndex e) + (if e = .trio then 200 else 0)

/-- The energy a ticket states against the logic die in mJ; a BOOST ticket's follows from its target (R308). -/
def Lane.costLD (l : Lane) (t : Ticket) : Rat :=
  match t.work with
  | .boost v =>
    let now : Rat := (l.get R.PW_VCSET_TARGET : Rat) / 800
    let goal : Rat := (v : Rat) / 800
    (10 * l.get R.BX_DIEMOD_PLD0 : Nat) * (goal * goal - now * now) * ((t.cost.duration : Rat) / 1000000000)
  | _ => t.cost.dieLD

/-- A die-heat rise in 0.1 K for an energy in mJ (R292). -/
def riseOf (mJ : Rat) (c : Nat) : Rat := 10 * mJ / (c : Rat)

/-- The committed rise of the logic die and of the power die, in 0.1 K (R292). -/
def Lane.committedLD (l : Lane) : Rat :=
  l.box.commits.foldl (fun a c => a + riseOf c.ld (l.get R.BX_DIEMOD_CLD)) 0
def Lane.committedPD (l : Lane) : Rat :=
  l.box.commits.foldl (fun a c => a + riseOf c.pd (l.get R.BX_DIEMOD_CPD)) 0

/-- What a ticket states against each ledger, in its unit. -/
def Lane.costs (l : Lane) (t : Ticket) : List Rat :=
  [riseOf (l.costLD t) (l.get R.BX_DIEMOD_CLD), riseOf t.cost.diePD (l.get R.BX_DIEMOD_CPD)] ++
  (List.finRange 4).map (fun (n : Axis) => (t.cost.winding[n] : Rat) / (l.get (R.BX_WMOD0_CTH n) : Rat)) ++
  [0] ++ (List.finRange 4).map (fun (n : Axis) => (t.cost.brake[n] : Rat)) ++ [(t.cost.supply : Rat) / 1000]

/-- The energy left above 6.0 V in J, less what running tickets have committed (R299). -/
def Lane.supLeft (l : Lane) : Rat :=
  let v : Rat := (l.get R.PW_VIN_VIN : Rat) / 100
  1 / 2 * ((l.get R.BX_SUP_CHOLD : Rat) / 10000) * (v * v - 36)
    - (((l.box.running.map fun t => t.cost.supply).sum : Nat) : Rat) / 1000

/-- The level of each ledger, the die heat over the temperatures of beat 0; SUP counts what is left below 0 (R291). -/
def Lane.levels (l : Lane) : List Rat :=
  [(l.box.dieLD : Rat) + l.committedLD, (l.box.diePD : Rat) + l.committedPD] ++
  (List.finRange 4).map (fun (n : Axis) => l.box.tw[n]) ++ [l.box.br] ++ (List.finRange 4).map (fun (n : Axis) => l.box.bk[n]) ++
  [-l.supLeft]

/-- What house seats reserve of each ledger (R302). -/
def Lane.reserved (l : Lane) : List Rat :=
  [riseOf (l.house 0 (·.dieLD)) (l.get R.BX_DIEMOD_CLD), riseOf (l.house 1 (·.diePD)) (l.get R.BX_DIEMOD_CPD)] ++
  List.replicate 10 0

/-- The limit of each ledger (R291). -/
def Lane.limits (l : Lane) : List Rat :=
  let die : Rat := (l.get R.PW_TLIM_WARN : Rat) - (l.get R.BX_CFG_DIEMARG : Rat)
  [die, die] ++ (List.finRange 4).map (fun (n : Axis) => (l.get (R.BX_WMOD1_TMAX n) : Rat)) ++ [(l.get R.BX_RES1_EMAX : Rat)] ++
  (List.finRange 4).map (fun (n : Axis) => ((100 * l.get (R.BX_BRKLV_WARN n) : Nat) : Rat)) ++ [0]

/-- Which ledgers are open: BR with the chopper enabled, a brake with a warning level, SUP (R297 to R299). -/
def Lane.opens (l : Lane) : List Bool :=
  [true, true, true, true, true, true, l.flag R.GD_OVCFG_CHEN] ++
  (List.finRange 4).map (fun (n : Axis) => l.get (R.BX_BRKLV_WARN n) != 0) ++ [l.flag R.BX_STAT_SUPOPEN]

/-- For each ledger: whether the ticket states a cost there, and whether it fits there (R303). -/
def Lane.fits (l : Lane) (t : Ticket) : List (Bool × Bool) :=
  (List.range 12).map fun k =>
    let c := (l.costs t).getD k 0
    let o := (l.opens).getD k false
    (o && decide (0 < c), !o || decide (c ≤ 0) ||
      decide ((l.levels).getD k 0 + (l.reserved).getD k 0 + c ≤ (l.limits).getD k 0))

/-- The cost of a ticket exceeds the limit of some ledger outright (R305); SUP has no limit but its level. -/
def Lane.tooDear (l : Lane) (t : Ticket) : Bool :=
  (List.range 11).any fun k =>
    (l.opens).getD k false && decide ((l.limits).getD k 0 < (l.costs t).getD k 0)

/-! ### Priorities, permission, holds -/

/-- A ticket's effective priority (R305): its class's, 1 more for every AGE cycles, at most 14; 0 is never sold. -/
def Lane.priority (l : Lane) (t : Ticket) : Nat :=
  match l.get (R.BX_CLASS_PRIO t.cost.cls) with
  | 0 => 0
  | p => min 14 (p + (l.mode_.cycle - t.cycle) / l.get R.BX_CFG_AGE)

/-- A ticket's work is a rerun (R365). -/
def Work.isRerun : Work → Bool
  | .rerun _ => true
  | _ => false

/-- A ticket's work is a session setup (R304). -/
def Work.isSession : Work → Bool
  | .session .. => true
  | _ => false

/-- The module state permits the sale of the ticket (R299, R304). -/
def Lane.permitted (l : Lane) (t : Ticket) : Bool :=
  (!l.flag R.BX_STAT_SUPOPEN || t.cost.cls == 0) &&
  (match t.cost.cls.val with
   | 0 | 1 => true
   | 2 => l.mode == .boot || l.mode == .rehearsal || ((l.mode == .hold || l.mode == .workshop) && t.work.isRerun)
   | 3 => l.mode != .ghost || t.work.isSession
   | 5 => l.mode != .ghost && l.mode != .curtain
   | 7 => l.mode != .ghost && !l.flag R.PW_SUPSTAT_TWARN
   | _ => l.mode != .ghost)

/-- The ticket's engine has a free slot in this beat after house seats (R303). -/
def Lane.engineFree (l : Lane) (t : Ticket) : Bool :=
  match t.engine with
  | none => true
  | some e => !(l.box.running.any fun r => r.engine == some e) && decide (l.houseTime e < 50000)

/-- The extra power fits under the cap (R303, R307). -/
def Lane.powerFits (l : Lane) (t : Ticket) : Bool :=
  decide ((l.get R.BX_PCAP_BASE : Rat) + l.house 2 (·.extra) +
    (((l.box.running.map fun r => r.cost.extra).sum + t.cost.extra : Nat) : Rat) ≤ (l.get R.BX_PCAP_CAP : Rat))

/-- A starved ticket `s` holds back `t`: lower in priority, with a cost against a ledger where `s` does not fit (R305). -/
def Lane.holdsBack (l : Lane) (s t : Ticket) : Bool :=
  s.starved && decide (l.priority t < l.priority s) &&
    ((l.fits s).zip (l.fits t)).any fun x => !x.1.2 && x.2.1

/-- The ticket can be sold now (R303). -/
def Lane.sellable (l : Lane) (t : Ticket) : Bool :=
  decide (0 < l.priority t) && l.permitted t && l.engineFree t && l.powerFits t && ((l.fits t).all (·.2)) &&
    !(l.box.queued.any fun s => l.holdsBack s t)

/-- The order of sale among sellable tickets: priority, then queue order, class, engine (R303). -/
def Lane.soldBefore (l : Lane) (a b : Ticket) : Bool :=
  let key (t : Ticket) : List Nat :=
    [14 - l.priority t, t.point, t.cost.cls.val, (t.engine.map engineIndex).getD 0, t.id]
  key a < key b

/-! ### Sale -/

/-- QLEN, HOLDING, DIECOM and OVER follow (R313). -/
def Lane.showBox (l : Lane) : Lane :=
  let l := l.put R.BX_STAT_QLEN (min 255 l.box.queued.length)
  let l := l.putFlag R.BX_STAT_HOLDING (l.box.queued.any (·.starved))
  let l := l.put R.BX_DIECOM_LD (min 65535 (Config.quantize (10 * l.committedLD)).toNat)
  let l := l.put R.BX_DIECOM_PD (min 65535 (Config.quantize (10 * l.committedPD)).toNat)
  let high (k : Nat) : Bool := (l.opens).getD k false && decide ((l.limits).getD k 0 ≤ (l.levels).getD k 0)
  let bits := (List.range 7).filter high ++ (if high 7 || high 8 || high 9 || high 10 then [7] else []) ++
    (if high 11 then [8] else [])
  l.put R.BX_STAT_OVER ((bits.map (2 ^ ·)).sum)

/-- What the sale of a ticket begins: a rise, an in-service step (R308, R348), the reading of the book (R335), the requests for
the hold-release checks of the low sides (R141, R344). -/
def Lane.beginWork (l : Lane) (w : Work) : Lane :=
  match w with
  | .boost v => l.onPower fun p => { p with goal := max p.goal (min v (l.vcMax)) }
  | .rotation .bank =>
    let b := l.get R.BI_ROTPOS_NEXTBANK
    l.onReh fun r => { r with bank := some ⟨b, r.spareBank == some b⟩ }
  | .rotation .comparator => l.onReh fun r => { r with cmp := some (l.get R.BI_ROTPOS_NEXTCMP) }
  | .rotation .twin => l.onReh fun r => { r with twin := some r.nextTwin }
  | .step k | .rerun k =>
    let l := l.put R.BI_STAT_STEP k
    let l := l.when (k == 9) fun l => l.allAxes fun l n => l.put (R.GD_LKCTL_REQ n) (l.get (R.GD_LKCTL_REQ n) ||| 42)
    if k = 2 ∧ !(slotOrder l.pbSlots).isEmpty then l.onTrust fun t => { t with state := 1 } else l
  | _ => l

/-- The level of a brake ledger becomes `v`: it shows, and reaching WARN raises BRKHOT (R298). -/
def Lane.setBrake (l : Lane) (n : Axis) (v : Rat) : Lane :=
  let warn : Rat := (100 * l.get (R.BX_BRKLV_WARN n) : Nat)
  let hot := decide (0 < warn ∧ l.box.bk[n] < warn ∧ warn ≤ v)
  let l := l.onBox fun b => { b with bk := b.bk.set n v }
  (l.put (R.BX_BRKLV_LEVEL n) (min 65535 (Config.quantize (v / 100)).toNat)).when hot fun l => l.raise R.BX_EVT_BRKHOT

/-- A sold ticket: it runs, the dies' rise is committed, winding and brake heat are charged (R291, R292, R303). -/
def Lane.sellOne (l : Lane) (t : Ticket) : Lane :=
  let cl := l.costLD t
  let l := l.onBox fun b => { b with
    queued := b.queued.filter (fun x => x.id != t.id), running := b.running ++ [{ t with starved := false }]
    commits := b.commits ++ [⟨t.id, cl, t.cost.diePD, none⟩]
    tw := Vector.ofFn fun n => b.tw[n] + (t.cost.winding[n] : Rat) / (l.get (R.BX_WMOD0_CTH n) : Rat) }
  let l := l.allAxes fun l n => l.setBrake n (l.box.bk[n] + (t.cost.brake[n] : Rat))
  (l.bump R.BX_TICK_SOLD).beginWork t.work

/-- The first ticket to sell. -/
def Lane.nextSale (l : Lane) : Option Ticket :=
  (l.box.queued.filter l.sellable).foldl
    (fun best t => match best with | none => some t | some b => if l.soldBefore t b then some t else some b) none

/-- Sells tickets one at a time until none can be sold (R303). -/
def sellAll : Nat → Lane → Lane
  | 0, l => l
  | k + 1, l =>
    match l.nextSale with
    | none => l
    | some t => sellAll k (l.sellOne t)

/-- Every ticket still queued was attempted and not sold. -/
def bumpBy : Nat → Fld → Lane → Lane
  | 0, _, l => l
  | k + 1, f, l => bumpBy k f (l.bump f)

/-- A decision point of the prompter (R303). -/
def Lane.decideSales (l : Lane) : Lane :=
  let l := sellAll l.box.queued.length l
  let l := bumpBy l.box.queued.length R.BX_TICK_REFUSED l
  (l.onBox fun b => { b with point := b.point + 1 }).showBox

/-- Queues a ticket (R305): refused at once where its cost exceeds a limit outright; `ask` is answered then. -/
def Lane.queueTicket (l : Lane) (w : Work) (c : Cost) (engine : Option Engine) (ask : Option (Hdr × Option Path)) : Lane :=
  let t : Ticket := ⟨l.box.nextId, w, c, engine, l.box.point, l.mode_.cycle, false⟩
  let l := l.onBox fun b => { b with nextId := b.nextId + 1 }
  if l.tooDear t then
    let l := l.raise R.BX_EVT_TREFUSE
    match ask with
    | none => l
    | some (h, p) => l.answer h p (.param 5) []
  else (l.onBox fun b => { b with queued := b.queued ++ [t] }).showBox

/-- A firmware activity's engine (R300). -/
def firmwareEngineOf (cls : Nat) : Engine :=
  match Config.firmwareEngine cls with | 0 => .trio | 1 => .q | 2 => .n | _ => .k

/-- A firmware activity's cost, which the spec leaves to a list (R300). -/
def firmwareCost (cls : Fin 9) : Cost :=
  { cls := cls, engine := firmwareEngineOf cls, duration := 0, dieLD := Config.firmwareCost cls 0
    diePD := Config.firmwareCost cls 1, extra := Config.firmwareCost cls 2, winding := Vector.replicate 4 0
    brake := Vector.replicate 4 0, supply := Config.firmwareCost cls 3 }

/-- Queues a firmware activity. -/
def Lane.queueActivity (l : Lane) (w : Work) (cls : Fin 9) (ask : Option (Hdr × Option Path)) : Lane :=
  l.queueTicket w (firmwareCost cls) (some (firmwareEngineOf cls)) ask

/-! ### End and suspension -/

/-- The commitment of a ticket's work is held for 5 ms more (R292). -/
def Lane.cool (l : Lane) (id : Nat) : Lane :=
  l.onBox fun b => { b with commits := b.commits.map fun c =>
    if c.id = id ∧ c.releaseAt = none then { c with releaseAt := some (l.now + ms 5) } else c }

/-- With no boost running the target steps down to the lowest value R48 permits (R308). -/
def Lane.endBoost (l : Lane) : Lane :=
  if l.power.logicSince.isSome then l else l.moveCore (max l.boostGoal l.coreFloor)

/-- What a suspension interrupts: a boost ends, an in-service step is void (R306, R348). -/
def Lane.interruptWork (l : Lane) (w : Work) : Lane :=
  match w with
  | .boost _ => l.endBoost
  | .rotation .bank => (l.onReh fun r => { r with bank := none }).raise R.BI_EVT_VOID
  | .rotation .comparator => (l.onReh fun r => { r with cmp := none }).raise R.BI_EVT_VOID
  | .rotation .twin => (l.onReh fun r => { r with twin := none }).raise R.BI_EVT_VOID
  | _ => l

/-- Suspends a running ticket: it is queued again with its age (R306). -/
def Lane.suspend (l : Lane) (t : Ticket) : Lane :=
  let l := l.onBox fun b => { b with
    running := b.running.filter (fun x => x.id != t.id), queued := b.queued ++ [t] }
  (l.cool t.id).interruptWork t.work

/-- A running ticket is to be suspended: a ledger it charges stands above its limit, or SUP is open (R299, R306). -/
def Lane.mustSuspend (l : Lane) (t : Ticket) : Bool :=
  (l.flag R.BX_STAT_SUPOPEN && t.cost.cls != 0) ||
  (List.range 11).any fun k =>
    (l.opens).getD k false && decide (0 < (l.costs t).getD k 0) && decide ((l.limits).getD k 0 < (l.levels).getD k 0)

/-- Suspension at a beat boundary (R306). -/
def Lane.suspendBeat (l : Lane) : Lane :=
  (l.box.running.filter l.mustSuspend).foldl (fun l t => l.suspend t) l

/-- Takes a ticket out of the running ones and begins to cool its commitment. -/
def Lane.retire (l : Lane) (t : Ticket) : Lane :=
  (l.onBox fun b => { b with running := b.running.filter (fun x => x.id != t.id) }).cool t.id

/-- The running ticket for a piece of work. -/
def Lane.runningFor (l : Lane) (w : Work) : Option Ticket := l.box.running.find? fun t => t.work == w

/-- A piece of ticketed work ends: the prompter decides sales again (R303). -/
def Lane.endWork (l : Lane) (w : Work) : Lane :=
  match l.runningFor w with
  | none => l
  | some t => (l.retire t).decideSales

/-! ### Beats and cycles -/

/-- The winding temperature of axis `n` over the beat that ends (R293, R295). -/
def Lane.windingHeat (l : Lane) (n : Axis) : Lane :=
  let u := (l.ax n).us
  let dt : Rat := ((u.last - u.sqFrom : Nat) : Rat) / 4000000000
  let mean : Rat := if dt = 0 then 0 else u.sq / dt
  let p : Rat := 3 / 2 * l.rs n * mean
  let tw := l.box.tw[n]
  let wamb : Rat := l.get (R.BX_WMOD1_WAMB n)
  let rth : Rat := (l.get (R.BX_WMOD0_RTH n) : Rat) / 1000
  let tw' := tw + (p - (tw - wamb) / rth) * (50 / 1000000) / (l.get (R.BX_WMOD0_CTH n) : Rat)
  let hot : Rat := (l.get (R.BX_WMOD1_TMAX n) : Rat) + 10
  let l := l.onBox fun b => { b with tw := b.tw.set n tw' }
  let l := l.onAx n fun a => { a with us := { a.us with sq := 0, sqFrom := u.last } }
  let l := l.putInt (R.BX_WTEMP_TW n) (clampInt (-32768) 32767 (Config.quantize (tw' * 10)))
  let l := l.put (R.BX_WTEMP_P n) (min 65535 (Config.quantize (p * 10)).toNat)
  l.when (decide (tw < hot ∧ hot ≤ tw')) fun l => l.raise R.BX_EVT_WHOT

/-- Lanes fitted in the package for this book (R28). -/
def Lane.fitted (l : Lane) : Nat :=
  match l.trust.book.bind (·.machine) with
  | some m => if m.laneCAbsent then 2 else 3
  | none => 3

/-- LIM of axis `n` (R295). -/
def Lane.limFor (l : Lane) (n : Axis) : Nat :=
  let rated := l.get (R.DC_TQLIM_RATED n)
  let tw := l.box.tw[n]
  let tup : Rat := l.get (R.BX_WMOD1_TUP n)
  let tmax : Rat := l.get (R.BX_WMOD1_TMAX n)
  let v : Rat :=
    if l.wing.nax[n] = l.fitted then rated
    else if tw ≤ tup then 3 / 2 * (rated : Rat)
    else if tw < tmax then (rated : Rat) * (1 + 1 / 2 * (tmax - tw) / (tmax - tup))
    else rated
  min 65535 (Config.quantize v).toNat

/-- DC_TQLIM[LIM] is set (R295). -/
def Lane.setLimit (l : Lane) (n : Axis) : Lane :=
  let v := l.limFor n
  let rated := l.get (R.DC_TQLIM_RATED n)
  let was := l.get (R.DC_TQLIM_LIM n)
  let l := l.put (R.DC_TQLIM_LIM n) v
  l.when (decide (rated < v ∧ was ≤ rated)) fun l => l.raise R.BX_EVT_LIMUP

/-- The chopper energy of the cycle past, in J (R296). -/
def Lane.chopperEnergy (l : Lane) : Rat :=
  let on : Rat := (((l.get R.GD_CHON_CHON + 2 ^ 32 - l.box.chonLast) % 2 ^ 32 : Nat) : Rat) / 1000000
  let vm : Rat := if l.box.vmCount = 0 then 0 else (l.box.vmSum : Rat) / (l.box.vmCount : Rat) / 100
  let r : Rat := (l.get R.BX_RES0_RBR : Rat) / 100
  on * (vm * vm) / r

/-- A REGEN ticket is refused (R297). -/
def Lane.refuseRegen (l : Lane) : Lane :=
  ((((l.drop R.BX_STAT_REGPERM).raise R.BX_EVT_REGOFF).bump R.BX_TICK_REFUSED).onBox fun b => { b with regenRefused := true })

/-- The brake resistor and the REGEN ticket in beat 0 (R296, R297). -/
def Lane.regenCycle (l : Lane) : Lane :=
  let e := l.chopperEnergy
  let cyc : Rat := (l.beats : Rat) * 50 / 1000000
  let lev := l.box.br + e - (l.get R.BX_RES0_PCONT : Rat) * cyc
  let lev := if lev < 0 then 0 else lev
  let l := l.onBox fun b => { b with br := lev, chonLast := l.get R.GD_CHON_CHON, vmSum := 0, vmCount := 0 }
  let l := l.put R.BX_RES1_LEVEL (min 65535 (Config.quantize lev).toNat)
  let emax : Rat := l.get R.BX_RES1_EMAX
  if !l.flag R.GD_OVCFG_CHEN then (l.raise R.BX_STAT_REGPERM).onBox fun b => { b with regenRefused := false }
  else if l.flag R.GD_VMSTAT_REGLOCK ∨ l.flag R.BX_STAT_SUPOPEN ∨ l.get (R.BX_CLASS_PRIO 1) = 0 then
    l.drop R.BX_STAT_REGPERM
  else if l.box.regenRefused ∧ 4 / 5 * emax < lev then l.drop R.BX_STAT_REGPERM
  else if lev + e ≤ emax then
    ((l.raise R.BX_STAT_REGPERM).bump R.BX_TICK_SOLD).onBox fun b => { b with regenRefused := false }
  else l.refuseRegen

/-- The brake ledger of an axis in beat 0: it cools (R291), and a service or hold brake heats with the ground speed `v` in
m/s (R298). -/
def Lane.brakeHeat (l : Lane) (v : Rat) (n : Axis) : Lane :=
  let cyc : Rat := (l.beats : Rat) * 50 / 1000000
  let f : Rat := (l.getInt (R.LE_OANG_FMEAS n) : Rat) * (10 * l.get (R.LE_SCALE_FFS n) : Nat) / 32768
  let brakes := l.stopRole n == .service || l.stopRole n == .hold
  let heat : Rat := if brakes then (l.get (R.BX_BRK_KH n) : Rat) / 10000 * f * v * cyc else 0
  let lev := l.box.bk[n]
  l.setBrake n (lev + heat - lev * cyc / (l.get (R.BX_BRK_TAU n) : Rat))

/-- The SUP level while the ledger is open (R299). -/
def Lane.showSup (l : Lane) : Lane :=
  if l.flag R.BX_STAT_SUPOPEN then
    l.put R.BX_SUP_LEVEL (min 65535 (Config.quantize (100 * l.supLeft)).toNat)
  else l.drop R.BX_SUP_LEVEL

/-- The box office at a beat start: winding heat, suspension, in beat 0 the ledgers and the torque limits, and a sale
(R291 to R306). A ROTATION ticket unsold for twice its limit is overdue (R305). -/
def Lane.boxBeat (l : Lane) (beat0 : Bool) : Lane :=
  let l := l.onBox fun b => { b with vmSum := b.vmSum + l.get R.GD_VMSTAT_VM, vmCount := b.vmCount + 1 }
  let l := l.allAxes fun l n => l.windingHeat n
  let l := l.onBox fun b => { b with
    supSince := sinceWhile (decide (l.get R.PW_RESERVE_THR + 50 < l.get R.PW_VIN_VIN)) b.supSince l.now }
  let l := l.when beat0 fun l => (l.onBox fun b => { b with
    dieLD := l.getInt R.PW_TEMP_LD, diePD := l.getInt R.PW_TEMP_PD }).regenCycle.allAxes fun l n => l.setLimit n
  let l := l.suspendBeat
  let late (t : Ticket) : Bool :=
    t.cost.cls.val == 5 && decide (2 * l.get (R.BX_CLASS_MAXWAIT 5) ≤ l.mode_.cycle - t.cycle)
  let l := l.onBox fun b => { b with overdue := b.queued.any late }
  (l.showSup).decideSales

/-! ### Commands -/

/-- An activity queues a ticket (R300, R305); a BOOST ticket states its target. -/
def execTicketRequest (e : At) (cost : Cost) (target : Nat) (s : State) : Host.Outcome State Fault Refusal :=
  .next (s.logicEvent e fun l =>
    l.queueTicket (if cost.cls = 7 then .boost target else if cost.cls = 0 then .shutdown
      else if cost.cls = 4 then .cartWrite else if cost.cls = 6 then .logFlush else .other) cost (some cost.engine) none)

/-- A queued ticket has waited MAXWAIT cycles: it is starved (R305). -/
def execTicketStarved (e : At) (id : Nat) (s : State) : Host.Outcome State Fault Refusal :=
  .next (s.logicEvent e fun l =>
    let due (t : Ticket) : Bool :=
      t.id == id && decide (l.get (R.BX_CLASS_MAXWAIT t.cost.cls) ≤ l.mode_.cycle - t.cycle)
    if l.box.queued.any due then
      ((l.onBox fun b => { b with queued := b.queued.map fun t => if due t then { t with starved := true } else t }).raise
        R.BX_EVT_STARVE).showBox
    else l)

/-- A commitment ends 5 ms after the activity (R292). -/
def execCommitmentRelease (e : At) (id : Nat) (s : State) : Host.Outcome State Fault Refusal :=
  .next (s.logicEvent e fun l =>
    (l.onBox fun b => { b with commits := b.commits.filter fun c =>
      !(c.id == id && (match c.releaseAt with | some t => decide (t ≤ l.now) | none => false)) }).showBox)

/-- VIN_x falls below PW_RESERVE: the SUP ledger opens (R59, R299). -/
def execVinReserve (e : At) (vin : Nat) (s : State) : Host.Outcome State Fault Refusal :=
  .next (s.logicEvent e fun l =>
    let l := l.put R.PW_VIN_VIN vin
    let l := l.when (decide (l.get R.PW_VIN_VIN ≤ l.get R.PW_RESERVE_THR + 50)) fun l => l.onBox fun b => { b with supSince := none }
    if l.get R.PW_VIN_VIN < l.get R.PW_RESERVE_THR then
      ((((l.raise R.PW_SUPSTAT_VINRES).raise R.PW_SUPEVT_VINRES).raise R.BX_STAT_SUPOPEN).showSup).showBox
    else l)

/-- VIN_x has stayed above PW_RESERVE + 0.50 V, as every beat start has read it, for 10 ms: the SUP ledger closes (R299). -/
def execSupLedgerClose (e : At) (s : State) : Host.Outcome State Fault Refusal :=
  .next (s.logicEvent e fun l =>
    if l.lasted l.box.supSince (ms 10) then ((l.drop R.BX_STAT_SUPOPEN).showSup).showBox else l)

end Sys2Proof.Machine
end

