-- ==== Sys2Proof/Machine/Signals.lean ====
section
/-!
DEFINITION. The signal dictionary (R445 to R457, R459): entries, writes by source path, sealed signals, seat windows.
-/

namespace Sys2Proof.Machine

/-- The definition of a handle in the SIGNALS section in force (R445). -/
def Lane.sigDef (l : Lane) (h : Nat) : Option SigDef :=
  (l.trust.book.bind (·.signals)).bind fun s => s.defs.find? fun d => d.handle == h

/-- The entry of a handle. -/
def Lane.entry (l : Lane) (h : Nat) : Option DictEntry := l.dict.entries.find? fun e => e.handle == h

/-- An entry is stale while the lane time is later than its deadline (R446). -/
def Lane.stale (l : Lane) (e : DictEntry) : Bool :=
  match e.deadline with | none => false | some t => decide (t < l.ltime)

/-- A value read as an integer by its type (R450): types 1 to 4, and BOOL. -/
def readValue (type : Nat) (v : List Byte) : Int :=
  let b (k : Nat) : BitVec 8 := v.getD k 0
  match type with
  | 1 => (b 0 ++ b 1 ++ b 2 ++ b 3).toInt
  | 2 => ((b 0 ++ b 1 ++ b 2 ++ b 3).toNat : Int)
  | 3 => (b 0 ++ b 1).toInt
  | 4 => ((b 0 ++ b 1).toNat : Int)
  | 5 => ((b 0).toNat : Int)
  | _ => 0

/-- The range test of R450: true where the value is implausible. -/
def implausible (d : SigDef) (v : List Byte) : Bool :=
  let x := readValue d.type v
  match d.type with
  | 1 | 3 => decide (x < d.low.toInt ∨ d.high.toInt < x)
  | 2 | 4 => decide (x < (d.low.toNat : Int) ∨ (d.high.toNat : Int) < x)
  | 5 => decide (1 < x)
  | _ => false

/-- The value of an entry as a consumer reads it: absent while stale, implausible or never accepted (R446, R450). -/
def Lane.signal (l : Lane) (h : Nat) : Option Int :=
  match l.sigDef h, l.entry h with
  | some d, some e => if l.stale e || e.implaus || !e.valid then none else some (readValue d.type e.value)
  | _, _ => none

/-- Replaces the entry of a handle. -/
def putEntry (x : DictEntry) : List DictEntry → List DictEntry
  | [] => [x]
  | y :: r => if x.handle < y.handle then x :: y :: r else if x.handle = y.handle then x :: r else y :: putEntry x r

/-- Writes a value as one unit with its stamp, deadline and flags (R449, R450); beyond L bytes the value reads 0. -/
def Lane.writeEntry (l : Lane) (d : SigDef) (v : List Byte) (stamp : Nat) (degr : Bool) (seq : BitVec 16) (single : Nat) :
    Lane :=
  let v := v.take d.len
  let bad := implausible d v
  let x : DictEntry :=
    { handle := d.handle, value := v, stamp := stamp, deadline := if d.period = 0 then none else some (stamp + ltUs d.period)
      valid := true, degr := degr, implaus := bad, seq := seq, single := single }
  let l := l.onDict fun s => { s with entries := putEntry x s.entries }
  l.when bad fun l => (l.raise R.SG_EVT_IMPLAUS).bump R.SG_CNT2_IMPLAUS

/-- Whether a source path is the one a definition gives (R447, R448). -/
def samePath : SourcePath → SourcePath → Bool
  | .sealed .., .sealed .. => true
  | a, b => a == b

/-- A write by a path: discarded where the handle has another source path or none (R448). -/
def Lane.writeSignal (l : Lane) (h : Nat) (p : SourcePath) (v : List Byte) (stamp : Nat) : Lane :=
  match l.sigDef h with
  | some d =>
    if samePath d.source p then l.writeEntry d v stamp false 0 0
    else (l.raise R.SG_EVT_FOREIGN).bump R.SG_CNT0_FOREIGN
  | none => (l.raise R.SG_EVT_FOREIGN).bump R.SG_CNT0_FOREIGN

/-- The dictionary at SCRIPT CHECK: every defined handle has an entry, constants their value (R445, R449). -/
def Lane.loadDictionary (l : Lane) : Lane :=
  match l.trust.book.bind (·.signals) with
  | none => l.onDict fun d => { d with entries := [] }
  | some s =>
    let blank (d : SigDef) : DictEntry := ⟨d.handle, List.replicate d.len 0, 0, some 0, false, false, false, 0, 0⟩
    let l := l.onDict fun _ => { DictState.init with entries := s.defs.foldl (fun es d => putEntry (blank d) es) [] }
    let l := s.defs.foldl
      (fun l d => match d.source with | .constant => l.writeSignal d.handle .constant d.value l.ltime | _ => l) l
    (l.raise R.SG_STAT_READY).put R.SG_STAT_HOTN s.hot.length

/-! ### Reading an entry (R446) -/

/-- The source path as R447 encodes it. -/
def pathCode : SourcePath → Nat
  | .constant => 0
  | .cue k => 1 * 2 ^ 13 + k
  | .canBuf c b => 2 * 2 ^ 13 + 64 * c.val + b
  | .sealed c k _ => 3 * 2 ^ 13 + 4096 * c.val + k
  | .trio => 4 * 2 ^ 13
  | .loopPair => 5 * 2 ^ 13
  | .seat s => 6 * 2 ^ 13 + s.val

/-- The definition has two paths. -/
def sealedPath : SourcePath → Bool
  | .sealed .. => true
  | _ => false

/-- The 64 bytes of an entry (R446); 64 zero bytes without a definition (R445). -/
def Lane.entryBytes (l : Lane) (h : Nat) : List Byte :=
  match l.sigDef h, l.entry h with
  | some d, some e =>
    let hot := ((l.trust.book.bind (·.signals)).map (·.hot)).getD []
    let flags := 2 ^ 15 + (sealedPath d.source).toNat * 2 ^ 14 + e.valid.toNat * 2 ^ 13 + e.degr.toNat * 2 ^ 12 +
      e.implaus.toNat * 2 ^ 11 + (hot.contains h).toNat * 2 ^ 10 + d.type * 2 ^ 6 + d.len
    (e.value ++ List.replicate (32 - e.value.length) 0) ++ timeBytes e.stamp ++
      (match e.deadline with | some t => timeBytes t | none => List.replicate 8 255) ++
      beBytes 2 (pathCode d.source) ++ beBytes 2 flags ++ beBytes 4 d.low.toNat ++ beBytes 4 d.high.toNat ++
      beBytes 2 e.seq.toNat ++ beBytes 1 e.single ++ beBytes 1 d.smax
  | _, _ => List.replicate 64 0

/-- A word of big-endian bytes (R8). -/
def wordOf (b : List Byte) (k : Nat) : Word :=
  b.getD k 0 ++ b.getD (k + 1) 0 ++ b.getD (k + 2) 0 ++ b.getD (k + 3) 0

/-! ### Sealed signals (R456, R457) -/

/-- How far a sequence is ahead of the last accepted one; newer where it lies in 1 to 32,767. -/
def seqAhead (s last : BitVec 16) : Nat := (s - last).toNat

/-- Notes a sealed event in SG_LASTS. -/
def Lane.sealedEvent (l : Lane) (cause h : Nat) : Lane := (l.put R.SG_LASTS_CAUSE cause).put R.SG_LASTS_HANDLE h

/-- A copy that is present: clean and newer than the last accepted one; a clean copy that is not newer is a replay. -/
def Lane.presentCopy (l : Lane) (e : DictEntry) (c : Option SealedRec) : Lane × Option SealedRec :=
  match c with
  | none => (l, none)
  | some r =>
    if !r.crcOk then (l, none)
    else if 1 ≤ seqAhead r.seq e.seq ∧ seqAhead r.seq e.seq ≤ 32767 then (l, some r)
    else ((l.bump R.SG_CNT1_REPLAY).sealedEvent 3 e.handle, none)

/-- An accepted sealed value; a gap in its sequence is counted. -/
def Lane.acceptSealed (l : Lane) (d : SigDef) (e : DictEntry) (r : SealedRec) (stamp : Nat) (degr : Bool) (single : Nat) :
    Lane :=
  let gap := seqAhead r.seq e.seq - 1
  let l := l.when (decide (0 < gap)) fun l => (l.raise R.SG_EVT_SEQGAP).addTo R.SG_CNT1_SEQGAP gap
  l.writeEntry d r.value stamp degr r.seq single

/-- A single copy (R457). -/
def Lane.singlePath (l : Lane) (d : SigDef) (e : DictEntry) (r : SealedRec) (stamp : Nat) : Lane :=
  if e.single < d.smax then
    (((l.acceptSealed d e r stamp true (e.single + 1)).raise R.SG_EVT_SEALDEG).bump R.SG_CNT2_SEALDEG).sealedEvent 4 d.handle
  else (((l.raise R.SG_EVT_SEALLOST).bump R.SG_CNT1_SEALLOST).sealedEvent 2 d.handle).onDict fun x => { x with lostNow := true }

/-- Compares the two copies of one sealed signal (R456); `stamp` is the cue instant of the cycle they came in. -/
def Lane.compareSealed (l : Lane) (d : SigDef) (ring can : Option SealedRec) (stamp : Nat) : Lane :=
  match l.entry d.handle with
  | none => l
  | some e =>
    let a := l.presentCopy e ring
    let b := a.1.presentCopy e can
    let l := b.1
    match a.2, b.2 with
    | some x, some y =>
      if x.seq = y.seq ∧ x.value.take d.len = y.value.take d.len then l.acceptSealed d e x stamp false 0
      else ((l.raise R.SG_EVT_SEALDIF).bump R.SG_CNT1_SEALDIF).sealedEvent 1 d.handle
    | some x, none => l.singlePath d e x stamp
    | none, some y => l.singlePath d e y stamp
    | none, none => l

/-! ### The ground speed and the path signals of the stop section (R285, R298, R578) -/

/-- The ground-speed signal's magnitude, none while it is not fresh. -/
def Lane.groundSpeed (l : Lane) : Option Nat :=
  l.stopSection.bind fun s => (l.signal s.speedHandle).map Int.natAbs

/-- The ground speed in m/s: the signal scaled, or the maximum where it is not fresh (R298). -/
def Lane.groundMps (l : Lane) : Rat :=
  match l.stopSection with
  | none => 0
  | some s =>
    match l.groundSpeed with
    | some v => ((v * s.scale : Nat) : Rat) / 1000000
    | none => (s.maxSpeed : Rat) / 1000

/-! ### Seat windows (R459) -/

/-- Latches the entry of a handle into the window of seat `w`. -/
def Lane.latchWindow (l : Lane) (w : Seat) (h : Nat) : Lane :=
  let l := l.put (R.SG_HSEL_HANDLE w) h
  let b := l.entryBytes h
  let l := (List.range 16).foldl (fun l k => l.setWord (R.SG_LAT w k) (wordOf b (4 * k))) l
  let st := match l.entry h with | some e => l.stale e | none => false
  (l.putFlag (R.SG_WST_STALE w) st).raise (R.SG_WST_DONE w)

/-- A write of SG_HSEL latches the whole entry (R459). -/
def execWindowLatch (e : At) (w : Seat) (handle : BitVec 20) (s : State) : Host.Outcome State Fault Refusal :=
  .next (s.logicEvent e fun l => l.latchWindow w handle.toNat)

/-- The start of this beat in lane time. -/
def Lane.beatStartTime (l : Lane) : Nat := l.ltime / ltUs 50 * ltUs 50

/-- Bytes of SG_WDAT of seat `w`. -/
def Lane.windowData (l : Lane) (w : Seat) : List Byte :=
  (List.range 8).flatMap fun k => beBytes 4 (l.word (R.SG_WDAT w k)).toNat

/-- A commit of seat `w`: WDAT to the handle where that seat is its source, otherwise discarded (R448, R459). -/
def Lane.commitWindow (l : Lane) (w : Seat) : Lane :=
  let h := l.get (R.SG_HSEL_HANDLE w)
  let mine : Bool := match l.sigDef h with | some d => samePath d.source (.seat w) | none => false
  (l.writeSignal h (.seat w) (l.windowData w) l.beatStartTime).putFlag (R.SG_WST_REFUSED w) (!mine)

/-- A write of SG_WCMD[COMMIT]. -/
def execCommit (e : At) (w : Seat) (s : State) : Host.Outcome State Fault Refusal :=
  .next (s.logicEvent e fun l => l.commitWindow w)

end Sys2Proof.Machine
end

