-- ==== Sys2Proof/Machine/RingFrame.lean ====
section
/-!
DEFINITION. The bytes on a Virec ring: frames and their header (R374, R375, R384, R406), the payloads of CONTROL, SYNC,
START and sealed records (R377, R391, R423, R455), the bytes of a cue sheet (R382, R383), and the flights of a cue's frames
round the ring (R384, R385, R406).
-/

namespace Sys2Proof.Machine

/-! ### Frames (R374, R375) -/

/-- The FCS of IEEE 802.3 over some bytes, as it stands in the frame. -/
def fcsBytes (b : List Byte) : List Byte := (beBytes 4 (crc32 b).toNat).reverse

/-- A frame closed with its FCS; one closed with an inverted FCS, which no node accepts (R388). -/
def closeFrame (b : List Byte) : List Byte := b ++ fcsBytes b
def spoilFrame (b : List Byte) : List Byte := b ++ (fcsBytes b).map (~~~ ·)

/-- A frame without its FCS. -/
def frameBody (b : List Byte) : List Byte := b.take (b.length - 4)

/-- The FCS of a frame is good. -/
def fcsOk (b : List Byte) : Bool := decide (30 ≤ b.length) && b.drop (b.length - 4) == fcsBytes (frameBody b)

/-- The destination address of Virec frames. -/
def virecDest : List Byte := [0x03, 0x56, 0x52, 0x43, 0x00, 0x00]

/-- The number in two bytes at an offset. -/
def half (b : List Byte) (k : Nat) : Nat := beNat ((b.drop k).take 2)

/-- A frame is a Virec frame: destination address and EtherType (R374). -/
def isVirec (etype : Nat) (b : List Byte) : Bool := b.take 6 == virecDest && half b 12 == etype

/-- The header as bytes, with the payload's length. -/
def headerBytes (h : RingHeader) (len : Nat) : List Byte :=
  [BitVec.ofNat 8 (h.version * 16 + h.type),
    BitVec.ofNat 8 (h.west.toNat * 128 + h.looped.toNat * 64 + h.sheet * 8 + h.ring)] ++
  beBytes 2 (h.hops * 1024 + h.src) ++ beBytes 2 h.cue ++ beBytes 2 h.cycle.toNat ++ beBytes 2 len ++ [0, 0]

/-- The header of a frame. -/
def readHeader (b : List Byte) : RingHeader :=
  let x := (b.getD 14 0).toNat
  let y := (b.getD 15 0).toNat
  { version := x / 16, type := x % 16, west := y.testBit 7, looped := y.testBit 6, sheet := y / 8 % 8, ring := y % 8
    hops := half b 16 / 1024, src := half b 16 % 1024, cue := half b 18 % 1024, cycle := BitVec.ofNat 16 (half b 20) }

/-- The payload of a frame. -/
def readPayload (b : List Byte) : List Byte := ((frameBody b).drop 26).take (half b 22)

/-- A frame of this node: addresses, EtherType, header, payload, padding to the least length of 64 bytes, FCS. -/
def virecFrame (etype : Nat) (h : RingHeader) (payload : List Byte) : List Byte :=
  let b := virecDest ++ [0x02, 0x56, 0x52, 0x00] ++ beBytes 2 h.src ++ beBytes 2 etype ++ headerBytes h payload.length ++ payload
  closeFrame (b ++ List.replicate (60 - b.length) 0)

/-- The bytes before the FCS with the header's flags and hops replaced, as a frame is forwarded (R384, R406). -/
def rehead (b : List Byte) (h : RingHeader) : List Byte :=
  let y := (b.getD 15 0).toNat % 64 + h.west.toNat * 128 + h.looped.toNat * 64
  b.take 15 ++ [BitVec.ofNat 8 y] ++ beBytes 2 (h.hops * 1024 + h.src) ++ b.drop 18

/-- The bytes before the FCS with a new payload of the same length. -/
def repay (b payload : List Byte) : List Byte := b.take 26 ++ payload ++ b.drop (26 + payload.length)

/-! ### Payloads (R377, R391, R423, R455) -/

/-- A lane time in quarter ns in the 80-bit form of R413, and back. -/
def longTime (q : Nat) : List Byte := beBytes 6 (q / 4000000000) ++ beBytes 4 (q % 4 * 2 ^ 30 + q / 4 % 1000000000)

/-- See `longTime`. -/
def readLongTime (b : List Byte) : Nat :=
  let low := beNat ((b.drop 6).take 4)
  beNat (b.take 6) * 4000000000 + low % 2 ^ 30 * 4 + low / 2 ^ 30

/-- An optional number of `n` bits below a valid bit. -/
def validBits (v : Nat) : Option Nat → Nat
  | some x => 2 ^ v + x
  | none => 0

/-- A CONTROL payload, 32 bytes (R391). -/
def controlBytes (c : Control) : List Byte :=
  [BitVec.ofNat 8 (c.state * 16 + c.silent.toNat * 8 + c.resync.toNat * 4 + c.healed.toNat * 2), BitVec.ofNat 8 c.sheet,
    BitVec.ofNat 8 (validBits 7 c.announce), BitVec.ofNat 8 (validBits 7 c.ack)] ++
  beBytes 2 (validBits 15 c.brkE) ++ beBytes 2 (validBits 15 c.brkW) ++
  beBytes 2 (match c.restore with | some (e, n) => 2 ^ 15 + e.toNat * 2 ^ 14 + n | none => 0) ++
  beInt 2 (clampInt (-32768) 32767 c.drift) ++ beBytes 4 c.node ++ List.replicate 16 0

/-- A CONTROL payload as received. -/
def readControl (b : List Byte) : Control :=
  let x := (b.getD 0 0).toNat
  let short (k : Nat) : Option Nat := let v := (b.getD k 0).toNat; if v.testBit 7 then some (v % 8) else none
  let long (k : Nat) : Option Nat := let v := half b k; if v.testBit 15 then some (v % 1024) else none
  { state := x / 16, silent := x.testBit 3, resync := x.testBit 2, healed := x.testBit 1, sheet := (b.getD 1 0).toNat
    announce := short 2, ack := short 3, brkE := long 4, brkW := long 6
    restore := (long 8).map fun n => ((half b 8).testBit 14, n)
    drift := (BitVec.ofNat 16 (half b 10)).toInt, node := beNat ((b.drop 12).take 4) }

/-- A SYNC payload, 24 bytes (R423). -/
def syncBytes (m : SyncMsg) : List Byte :=
  longTime m.time ++ beBytes 2 m.master ++ beBytes 8 m.grand.toNat ++ beBytes 1 (m.locked.toNat * 128) ++ beBytes 1 m.seq ++ [0, 0]

/-- A SYNC payload as received. -/
def readSync (b : List Byte) : SyncMsg :=
  { time := readLongTime b, master := half b 10 % 1024, grand := BitVec.ofNat 64 (beNat ((b.drop 12).take 8))
    locked := (b.getD 20 0).getLsbD 7, seq := (b.getD 21 0).toNat }

/-- A START payload (R377); the sheet number takes a byte (assumption 98). -/
def startBytes (f : StartFrame) : List Byte :=
  longTime f.time ++ beBytes 8 f.cycle.toNat ++ beBytes 1 f.sheet ++ beBytes 4 f.delay

/-- A START payload as received from a source. -/
def readStart (src : Nat) (b : List Byte) : StartFrame :=
  { src := src, time := readLongTime b, cycle := BitVec.ofNat 64 (beNat ((b.drop 10).take 8)), sheet := (b.getD 18 0).toNat % 8
    delay := beNat ((b.drop 19).take 4) }

/-- A sealed record as bytes (R455). -/
def sealBytes (r : SealedRec) : List Byte :=
  let b := beBytes 4 (r.handle * 2 ^ 12 + r.value.length * 2 ^ 6) ++ beBytes 2 r.seq.toNat ++ r.value
  b ++ beBytes 4 (crc32c b).toNat

/-- The sealed record at the start of some bytes. -/
def readRecord (b : List Byte) : SealedRec :=
  let w := (wordOf b 0).toNat
  let n := w / 2 ^ 6 % 2 ^ 6
  { handle := w / 2 ^ 12, seq := b.getD 4 0 ++ b.getD 5 0, value := (b.drop 6).take n
    crcOk := decide (1 ≤ n ∧ n ≤ 32 ∧ n + 10 ≤ b.length) && wordOf b (6 + n) == crc32c (b.take (6 + n)) }

/-- The sealed records of a payload, one after the other, at most `n`; one whose length field is 0 ends them. -/
def readRecords : Nat → List Byte → List SealedRec
  | 0, _ => []
  | n + 1, b =>
    if b.length < 11 ∨ (readRecord b).value.isEmpty then [] else readRecord b :: readRecords n (b.drop ((readRecord b).value.length + 10))

/-! ### Cue sheets (R382, R383) -/

/-- The half-width of a window in ns (R383). -/
def windowNs (code : Nat) : Nat := 100 * 2 ^ code

/-- A cue entry as its eight bytes (R383). -/
def cueCode (c : CueEntry) : BitVec 64 :=
  BitVec.ofNat 64 (c.start * 2 ^ 44 + c.len * 2 ^ 32 + c.owner * 2 ^ 22 + c.dir * 2 ^ 20 + c.win * 2 ^ 16 + c.kind * 2 ^ 12)

/-- The two halves of the header of a sheet (R382). -/
def sheetHead (s : CueSheet) (second : Bool) : BitVec 64 :=
  if second then BitVec.ofNat 64 s.crc.toNat
  else BitVec.ofNat 64 (s.num * 2 ^ 56 + s.rate * 2 ^ 48 + s.cues.length * 2 ^ 32 + s.guardTime * 2 ^ 16 + s.cycle)

/-- The CRC-32C of a sheet over its header, with bytes 12 to 15 taken as 0, and all entries (R382). -/
def sheetCrc (s : CueSheet) : Word :=
  crc32c (beBytes 8 (sheetHead s false).toNat ++ List.replicate 8 0 ++ s.cues.flatMap fun c => beBytes 8 (cueCode c).toNat)

/-! ### Flights (R384, R385, R406) -/

/-- A frame's flight over one link: the link's index in east-bound order, the direction, looped or not, when its first bit
leaves and arrives, in quarter ns after the cue instant, and the cue. -/
structure Flight where
  link : Nat
  east : Bool
  looped : Bool
  out : Int
  at_ : Int
  cue : Nat
  deriving DecidableEq, Repr

/-- The flights of a frame from position `src` that leaves position `pos` at `t` with `hops` links to go, on a ring of
`delays`; at a broken link it turns round once with `n − 1` hops, and its source does not send it on (R384, R385, R406). -/
def flights (delays : List Nat) (res : Nat) (broken : List Nat) (cue src : Nat) :
    Nat → Bool → Nat → Nat → Int → Bool → List Flight
  | 0, _, _, _, _, _ => []
  | fuel + 1, east, pos, hops, t, looped =>
    let n := delays.length
    let link := if east then pos else (pos + n - 1) % n
    let next := if east then (pos + 1) % n else (pos + n - 1) % n
    if hops = 0 then []
    else if broken.contains link then
      (if looped then [] else flights delays res broken cue src fuel (!east) pos (n - 1) t true)
    else
      let a := t + delays.getD link 0
      ⟨link, east, looped, t, a, cue⟩ ::
        (if next = src then [] else flights delays res broken cue src fuel east next (hops - 1) (a + res) looped)

/-- The time of a byte at a rate in quarter ns: 1000 or 100 Mbit/s. -/
def byteQ (fast : Bool) : Nat := if fast then 32 else 320

/-- The residence time in a forwarding node (R385), in quarter ns, of a frame of at most `len` bytes. -/
def residenceQ (level : Nat) (fast : Bool) (len : Nat) : Nat :=
  if level = 2 then (if fast then 4000 else 25600) else len * byteQ fast + 4000

/-- The flights of all cues of a sheet on a ring of `members`, with the links' `delays` in quarter ns. -/
def sheetFlights (members : List Nat) (s : CueSheet) (delays : List Nat) (level : Nat) (fast : Bool) (broken : List Nat) :
    List Flight :=
  let n := members.length
  s.cues.zipIdx.flatMap fun x =>
    let c := x.1
    let src := members.idxOf c.owner
    let go (east : Bool) :=
      flights delays (residenceQ level fast c.len) broken x.2 src (2 * n + 1) east src (n - 1) (40 * c.start) false
    (if c.dir = 0 ∨ c.dir = 2 then go true else []) ++ (if c.dir = 1 ∨ c.dir = 2 then go false else [])

end Sys2Proof.Machine
end

