-- ==== Sys2Proof/Machine/Time.lean ====
section
/-!
DEFINITION. Network time (R412 to R426): increment, steps, acquisition, SYNC.
-/

namespace Sys2Proof.Machine

/-- The states of TM_STAT[STATE] (R421). -/
inductive TimeMode where
  | free | master | acquire | locked | holdover | far
  deriving DecidableEq, Repr

def TimeMode.code : TimeMode → Nat
  | .free => 0 | .master => 1 | .acquire => 2 | .locked => 3 | .holdover => 4 | .far => 5

def Lane.timeMode (l : Lane) : TimeMode :=
  match l.get R.TM_STAT_STATE with
  | 1 => .master | 2 => .acquire | 3 => .locked | 4 => .holdover | 5 => .far | _ => .free

/-- The increment in force follows (R415): slewing keeps its offset, HOLDOVER and FAR take the value in force on entry. -/
def Lane.applyIncr (l : Lane) : Lane :=
  if l.flag R.WG_STAT_TSLEW then l
  else if l.timeMode = .holdover ∨ l.timeMode = .far then l.put R.TM_APPL_APPL l.tm.kept
  else l.put R.TM_APPL_APPL (l.get R.TM_INCR_INCR)

/-- The lane takes a state of R421. -/
def Lane.setTimeMode (l : Lane) (m : TimeMode) : Lane :=
  let was := l.timeMode
  let l := l.put R.TM_STAT_STATE m.code
  let l := l.when (m == .locked && was != .locked) fun l => l.raise R.TM_EVT_LOCK
  let l := l.when (was == .locked && m == .acquire) fun l => l.raise R.TM_EVT_UNLOCK
  let l := l.when (m == .far && was != .far) fun l => l.raise R.TM_EVT_FAR
  let enters := (m == .holdover && was != .holdover) || (m == .far && was != .far)
  (l.onTime fun t => { t with
    lockRun := 0, unlockRun := 0, kept := if enters then l.get R.TM_APPL_APPL else t.kept }).applyIncr

/-- A write of TM_INCR takes effect at the next tick, or is held while the lane slews (R415). -/
def Lane.writeIncr (l : Lane) (w : Word) : Lane :=
  if l.flag R.WG_STAT_TSLEW then l.onTime fun t => { t with held := some w }
  else (l.put R.TM_INCR_INCR w.toNat).applyIncr

/-- TSLEW begins: the increment is 10 ns offset by SLEW toward the reference (R270, R415). -/
def Lane.startSlew (l : Lane) (forward : Bool) : Lane :=
  let off := 167772160 * l.get R.WG_CFG_SLEW / 100000
  let l := (l.raise R.WG_STAT_TSLEW).put R.TM_APPL_APPL (if forward then 167772160 + off else 167772160 - off)
  match l.tm.step with
  | some _ => ((l.onTime fun t => { t with step := none }).drop R.TM_STAT_STEPPEND).raise R.TM_EVT_STEPREF
  | none => l

/-- TSLEW clears: a held write takes effect (R415). -/
def Lane.endSlew (l : Lane) : Lane :=
  let l := l.drop R.WG_STAT_TSLEW
  match l.tm.held with
  | some w => ((l.onTime fun t => { t with held := none }).put R.TM_INCR_INCR w.toNat).applyIncr
  | none => l.applyIncr

/-- A write of TM_STEP: pending, or refused (R416). -/
def Lane.writeStep (l : Lane) (s : Int) : Lane :=
  if l.get R.TM_JUMP_THR < s.natAbs ∨ l.flag R.WG_STAT_TSLEW ∨ l.tm.step.isSome ∨ l.timeMode = .holdover ∨
      l.timeMode = .far then
    l.raise R.TM_EVT_STEPREF
  else (l.onTime fun t => { t with step := some s }).raise R.TM_STAT_STEPPEND

/-- A pending step is applied (R416). -/
def Lane.applyStep (l : Lane) : Lane :=
  match l.tm.step with
  | none => l
  | some s =>
    let l := l.setLtime ((l.ltime : Int) + s * 2 ^ 24).toNat
    (l.onTime fun t => { t with step := none }).drop R.TM_STAT_STEPPEND

/-- The lane sets its time before the first agreed HOLD (R419): `from_` is the precedence of the source. The cue instant is
that of the new time (R414), and the drift against the ring moves with it (assumption 98). -/
def Lane.setTime (l : Lane) (from_ : Nat) (t : Nat) : Lane :=
  let cycle := ltUs (50 * l.beats)
  let moved : Int := ((t % cycle : Nat) : Int) - ((l.ltime : Int) - l.ring.cueAt)
  let l := l.onRing fun r => { r with
    cueAt := t / cycle * cycle, drift := Int.bmod (r.drift + moved / 2 ^ 22) (200000 * l.beats) }
  ((l.setLtime t).onTime fun x => { x with setFrom := from_ }).raise R.TM_EVT_SET

/-- A HELLO of a peer may set the time: from a peer with a SYNC set, else from the lowest-lettered peer below this lane
(R419). `t` is the peer's time and `dur` the frame's duration in quarter ns. Precedence: 4 the own SYNC, 3 a peer with a
SYNC set, 2 lane A, 1 lane B. -/
def Lane.helloTime (l : Lane) (peer : LaneId) (t dur : Nat) (synced : Bool) : Lane :=
  let v := (t + 4 * 180 + dur) * 2 ^ 24 / 4
  let rank := if synced then 3 else if laneNum peer < laneNum l.id then 2 - laneNum peer else 0
  if l.timeMode ≠ .free ∨ l.wing.digestSent ∨ rank ≤ l.tm.setFrom then l else l.setTime rank v

/-- Far beyond the limit that the lane follows (R421). -/
def Lane.beyondFar (l : Lane) (o : Int) : Bool := decide (l.get R.TM_FARLIM_LIM * 1000 < o.natAbs)

/-- The state after an accepted SYNC with offset `o` in ns, the first of its cycle or not (R421, R425). -/
def Lane.syncState (l : Lane) (o : Int) (newGrand first : Bool) : Lane :=
  let l := l.onTime fun t => { t with
    lockRun := if o.natAbs ≤ 100 then t.lockRun + first.toNat else 0
    unlockRun := if 1000 < o.natAbs then t.unlockRun + first.toNat else 0 }
  if l.timeMode = .free ∨ l.timeMode = .master then l
  else if l.beyondFar o then (if l.timeMode = .far then l else l.setTimeMode .far)
  else if newGrand then l.setTimeMode .acquire
  else
    match l.timeMode with
    | .holdover | .far => l.setTimeMode .acquire
    | .acquire => if 16 ≤ l.tm.lockRun then l.setTimeMode .locked else l
    | .locked => if 4 ≤ l.tm.unlockRun then l.setTimeMode .acquire else l
    | _ => l

/-- A SYNC payload from a clean frame (R419, R424, R425): `fromMaster` says that the ring description's time master
sent it, `expected` is E and `stamp` the stamp, in quarter ns after the cue instant and of lane time. -/
def Lane.takeSync (l : Lane) (m : SyncMsg) (fromMaster : Bool) (expected : Int) (stamp : Nat) : Lane :=
  if !fromMaster ∨ l.get R.TM_CFG_ROLE = 0 then l.bump R.TM_CNT_FOREIGN
  else
    let o := Config.quantize (((m.time : Int) + expected - (stamp : Int) : Int) / (4 : Rat))
    let grand := (l.word R.TM_GMHI) ++ (l.word R.TM_GMLO)
    let changed := l.tm.known && grand != m.grand
    let l := (l.bump R.TM_CNT_SYNC).putInt R.TM_OFS_O (if o < -2147483648 then -2147483648 else if 2147483647 < o then 2147483647 else o)
    let l := (l.setWord R.TM_GMLO (BitVec.ofNat 32 m.grand.toNat)).setWord R.TM_GMHI (BitVec.ofNat 32 (m.grand.toNat / 2 ^ 32))
    let first := !l.tm.gotSync
    let l := l.onTime fun t => { t with gotSync := true, known := true, lost := 0 }
    let l := l.when changed fun l => l.raise R.TM_EVT_GMCHG
    if l.timeMode = .free then
      (if l.wing.digestSent ∨ l.tm.setFrom = 4 then l
       else l.setTime 4 (((m.time : Int) + expected).toNat * 2 ^ 24 / 4))
    else l.syncState o changed first

/-- At the first agreed HOLD the time service takes its role (R420). -/
def Lane.startTime (l : Lane) : Lane :=
  if l.timeMode = .free then
    l.setTimeMode (if l.get R.TM_CFG_ROLE = 0 then .master else if l.tm.setFrom = 4 then .acquire else .far)
  else l

/-- A cycle without an accepted SYNC counts (R421). -/
def Lane.timeCycle (l : Lane) : Lane :=
  l.onTime fun t => { t with lost := if t.gotSync then 0 else t.lost + 1, gotSync := false
                             lockRun := if t.gotSync then t.lockRun else 0 }

/-- A write of TM_STEP (R416). -/
def execStep (e : At) (step : Int) (s : State) : Host.Outcome State Fault Refusal :=
  .next (s.logicEvent e fun l => l.writeStep step)

/-- The 45 µs offset of the last beat of a cycle (R416). -/
def execStepApply (e : At) (s : State) : Host.Outcome State Fault Refusal :=
  .next (s.logicEvent e fun l =>
    if ltUs (50 * l.beats) ≤ l.ltime % ltUs (50 * l.beats) + ltUs 5 then l.applyStep else l)

/-- A write of TM_INCR within its range (R415, R427). -/
def execIncr (e : At) (w : Word) (s : State) : Host.Outcome State Fault Refusal :=
  .next (s.logicEvent e fun l =>
    if 167688274 ≤ w.toNat ∧ w.toNat ≤ 167856046 then l.writeIncr w else l)

/-- No SYNC for LOSS cycles: HOLDOVER (R421). -/
def execSyncLoss (e : At) (s : State) : Host.Outcome State Fault Refusal :=
  .next (s.logicEvent e fun l =>
    if (l.timeMode = .acquire ∨ l.timeMode = .locked) ∧ l.get R.TM_CFG_LOSS ≤ l.tm.lost then
      (l.setTimeMode .holdover).raise R.TM_EVT_LOSS
    else l)

/-- A read of TM_NS latches the whole lane time (R426). -/
def Lane.latchTime (l : Lane) : Lane :=
  let t := l.ltime
  let s := t / (1000000000 * 2 ^ 24)
  let l := l.put R.TM_NS_NS (t / 2 ^ 24 % 1000000000)
  let l := (l.setWord R.TM_SECLO (BitVec.ofNat 32 s)).setWord R.TM_SECHI (BitVec.ofNat 32 (s / 2 ^ 32))
  l.put R.TM_FRAC_FRAC (t / 2 ^ 8 % 2 ^ 16)

/-- A read of TM_NS. -/
def execTimeLatch (e : At) (s : State) : Host.Outcome State Fault Refusal :=
  .next (s.logicEvent e fun l => l.latchTime)

end Sys2Proof.Machine
end

