-- ==== Sys2Proof/Machine/Ring.lean ====
section
/-!
DEFINITION. The Virec ring (R368 to R411): ports, the judgement of frames, forwarding, states, drift, sheet changes,
cold start and healing. Port 0 is west, port 1 east. Times within a cycle are in quarter ns.
-/

namespace Sys2Proof.Machine

/-! ### The ring description and the cue sheet in use (R381 to R383) -/

/-- The CUES part of the lane's own ring. -/
def Lane.ringPart (l : Lane) : Option RingPart := (l.trust.book.bind (·.cues)).bind fun cues => cues[(⟨laneNum l.id, by cases l.id <;> decide⟩ : Fin 3)]

/-- The sheet of a number. -/
def Lane.sheetOf (l : Lane) (k : Nat) : Option CueSheet := l.ringPart.bind fun r => r.sheets.find? fun s => s.num == k

/-- The sheet in use. -/
def Lane.sheet (l : Lane) : Option CueSheet := l.sheetOf (l.get R.VR_STAT_SHACT)

/-- Entry `q` of the sheet in use. -/
def Lane.cue (l : Lane) (q : Nat) : Option CueEntry := l.sheet.bind fun s => s.cues[q]?

/-- The lane's node identifier. -/
def Lane.node (l : Lane) : Nat := l.get R.VR_CFG_NODE

/-- The members in east-bound order. -/
def Lane.members (l : Lane) : List Nat := (l.ringPart.map fun r => r.ring.members.map (·.1)).getD []

/-- The member after `x` in a cyclic list. -/
def nextIn (x : Nat) : List Nat → Option Nat
  | [] => none
  | y :: r => (List.zip (y :: r) (r ++ [y])).findSome? fun p => if p.1 = x then some p.2 else none

/-- The neighbour of this node on a side by the ring description (R370, R373). -/
def Lane.neighbour (l : Lane) (p : Port) : Option Nat :=
  if p = 1 then nextIn l.node l.members else nextIn l.node l.members.reverse

/-- The link at a port, its members in east-bound order. -/
def Lane.portLink (l : Lane) (p : Port) : RingLink :=
  let n := (l.neighbour p).getD 0
  if p = 1 then (l.node, n) else (n, l.node)

/-- The largest link delay that the ring description allows at a port, in ns. -/
def Lane.maxDelay (l : Lane) (p : Port) : Nat :=
  let from_ := if p = 1 then l.node else (l.neighbour 0).getD 0
  match l.ringPart.bind fun r => r.ring.members.find? fun m => m.1 == from_ with
  | some m => 10 * m.2
  | none => 0

/-- A node of the ring sends nothing but CONTROL, or nothing at all, where it is OUT, a duplicate, or its network
engine is unusable (R393, R402). -/
def Lane.ringDead (l : Lane) : Bool := l.bit R.LC_ENGSTAT_UNUS 6 || l.ring.duplicate || !l.flag R.VR_CFG_EN

/-- The other port. -/
def otherPort (p : Port) : Port := if p = 0 then 1 else 0

/-! ### States -/

/-- The states of VR_STAT[STATE] (R392). -/
inductive RingMode where
  | off | listen | coldStart | integrate | up
  deriving DecidableEq, Repr

def RingMode.code : RingMode → Nat
  | .off => 0 | .listen => 1 | .coldStart => 2 | .integrate => 3 | .up => 4

def Lane.ringMode (l : Lane) : RingMode :=
  match l.get R.VR_STAT_STATE with
  | 1 => .listen | 2 => .coldStart | 3 => .integrate | 4 => .up | _ => .off

/-- The node is on the ring's cycle. -/
def Lane.ringOn (l : Lane) : Bool := l.ringMode == .integrate || l.ringMode == .up

/-- The node takes a ring state; counts of the state begin anew. -/
def Lane.setRing (l : Lane) (m : RingMode) : Lane :=
  (l.put R.VR_STAT_STATE m.code).onRing fun r => { r with
    settled := 0, consistent := 0, lastSheet := none, quiet := 0, quietSince := l.now, cold := 0
    returned := Vector.replicate 2 false }

/-- The fields of VR_PSTATW and VR_PSTATE, and of the port counters. -/
def psLink (p : Port) : Fld := if p = 0 then R.VR_PSTATW_LINK else R.VR_PSTATE_LINK
def psG1000 (p : Port) : Fld := if p = 0 then R.VR_PSTATW_G1000 else R.VR_PSTATE_G1000
def psLvl (p : Port) : Fld := if p = 0 then R.VR_PSTATW_LVL else R.VR_PSTATE_LVL
def psLoop (p : Port) : Fld := if p = 0 then R.VR_PSTATW_LOOP else R.VR_PSTATE_LOOP
def psNbr (p : Port) : Fld := if p = 0 then R.VR_PSTATW_NBR else R.VR_PSTATE_NBR
def psDelay (p : Port) : Fld := if p = 0 then R.VR_PSTATW_DELAY else R.VR_PSTATE_DELAY
def pcClean (p : Port) : Fld := if p = 0 then R.VR_PCNT0W_CLEAN else R.VR_PCNT0E_CLEAN
def pcFcs (p : Port) : Fld := if p = 0 then R.VR_PCNT0W_FCS else R.VR_PCNT0E_FCS
def pcWin (p : Port) : Fld := if p = 0 then R.VR_PCNT0W_WIN else R.VR_PCNT0E_WIN
def pcEmpty (p : Port) : Fld := if p = 0 then R.VR_PCNT1W_EMPTY else R.VR_PCNT1E_EMPTY
def pcCut (p : Port) : Fld := if p = 0 then R.VR_PCNT1W_GUARDCUT else R.VR_PCNT1E_GUARDCUT
def pcCueErr (p : Port) : Fld := if p = 0 then R.VR_PCNT1W_CUEERR else R.VR_PCNT1E_CUEERR

/-- The port is admitted. -/
def Lane.portUp (l : Lane) (p : Port) : Bool := l.get (psLink p) == 2

/-- The port may be used at all: the ring is in use, the port usable, its PHY the expected one (R362, R369). -/
def Lane.portUsable (l : Lane) (p : Port) : Bool :=
  l.flag R.VR_CFG_EN && !l.bit R.BI_UNUS_VR p.val && !(l.ring.ports[p]).misfit && !l.bit R.LC_ENGSTAT_UNUS 6

/-! ### Breaks and healing (R405 to R408) -/

/-- A pending sheet change is cancelled (R399). -/
def Lane.cancelChange (l : Lane) : Lane :=
  match l.ring.change with
  | some (_, c) =>
    ((l.onRing fun r => { r with change := none, announce := false, cancelled := some c }).drop R.VR_STAT_PEND).raise R.VR_EVT_SHCANC
  | none => l

/-- A link break becomes known: the healed arrivals are used from cycle `c` (R406, R407). -/
def Lane.noteBreak (l : Lane) (k : RingLink) (c : Nat) : Lane :=
  if l.ring.breaks.any (fun b => b.1 == k) then l
  else
    let l := (l.onRing fun r => { r with breaks := r.breaks ++ [(k, c)], healShown := false }).cancelChange
    l.when (decide (2 ≤ l.ring.breaks.length)) fun l => l.raise R.VR_STAT_SPLIT

/-- A restored link becomes known: the intact arrivals come back at cycle `c` (R408). -/
def Lane.noteRestore (l : Lane) (k : RingLink) (c : Nat) : Lane :=
  if l.ring.restores.any (fun b => b.1 == k) ∨ !(l.ring.breaks.any fun b => b.1 == k) then l
  else (l.onRing fun r => { r with restores := r.restores ++ [(k, c)] }).cancelChange

/-- A port breaks (R405): announced in the next CONTROL cue, healed at this node from the next cycle start; a restore of it
that was under way ends. -/
def Lane.breakPort (l : Lane) (p : Port) : Lane :=
  if l.get (psLink p) = 3 then l
  else
    let l := ((l.put (psLink p) 3).raise R.VR_EVT_BREAK).onPort p fun q => { q with delays := [], heardHello := none, restore := false }
    (l.onRing fun r => { r with restores := r.restores.filter fun x => x.1 != l.portLink p }).noteBreak (l.portLink p) (l.ring.num + 1)

/-! ### Neighbour negotiation (R371 to R373) -/

/-- The median of the last eight link delays in quarter ns. -/
def medianDelay (d : List Nat) : Nat := (sortBy (fun a b => decide (a < b)) d).getD (d.length / 2) 0

/-- The rate that the sheet in use needs: true for 1000 Mbit/s. -/
def Lane.needs1000 (l : Lane) : Bool := match l.sheet with | some s => s.rate == 0 | none => false

/-- A port is admitted: UP; the first one brings the ring to LISTEN (R373, R393). A broken one is announced as restored by a
node on the ring's cycle (R408); any other has told nobody of the break. -/
def Lane.welcome (l : Lane) (p : Port) : Lane :=
  let l := l.put (psLink p) 2
  let l := l.when (l.ring.breaks.any fun b => b.1 == l.portLink p) fun l =>
    if l.ringOn then l.onPort p fun q => { q with restore := true }
    else l.onRing fun r => { r with breaks := r.breaks.filter fun b => b.1 != l.portLink p }
  if l.ringMode = .off then l.setRing .listen else l

/-- Another node carries the own identifier: this one sends nothing more and stays in LISTEN (R402). -/
def Lane.sameNode (l : Lane) : Lane :=
  ((l.setRing .listen).onRing fun r => { r with duplicate := true }).raise R.VR_EVT_DUPID

/-- The rate the port tries is permitted by the neighbour's HELLO and by this node (R372). -/
def Lane.ratePermitted (l : Lane) (p : Port) (h : RingHello) : Bool :=
  if l.flag (psG1000 p) then h.g1000 else h.g100 && l.flag R.VR_CFG_ALLOW100

/-- The link delay of one exchange, ((t4 − t1) − (t3 − t2)) / 2, where the HELLO answers one of this node (R373, R418). -/
def Lane.helloDelay (l : Lane) (h : RingHello) : Option Nat :=
  h.answers.map fun a => ((((l.now : Int) - a.1) - ((h.sent : Int) - a.2)) / 2).toNat

/-- A received HELLO is used: wrong ring or neighbour, rate, delay (R373); a duplicate identifier (R402). -/
def Lane.ringHello (l : Lane) (p : Port) (h : RingHello) : Lane :=
  if !l.portUsable p then l
  else if h.node = l.node then l.sameNode
  else if h.ring ≠ l.id ∨ l.neighbour p ≠ some h.node then
    ((l.raise R.VR_EVT_MISWIRE).put (psNbr p) h.node).breakPort p
  else
    let l := (l.put (psNbr p) h.node).put (psLvl p) (min h.level (l.get R.VR_CFG_LVLMAX))
    let l := l.onPort p fun q => { q with
      level := h.level, g1000 := h.g1000, g100 := h.g100, heardHello := some (h.sent, l.now)
      delays := match l.helloDelay h with | some d => (d :: q.delays).take 8 | none => q.delays }
    let d := medianDelay (l.ring.ports[p]).delays
    if (l.ring.ports[p]).delays.length < 8 ∨ !l.ratePermitted p h then l
    else
      let l := l.put (psDelay p) (min 65535 (Config.quantize ((d : Rat) / 4)).toNat)
      if l.needs1000 ∧ !l.flag (psG1000 p) then (l.raise R.VR_EVT_RATELOW).breakPort p
      else if 4 * l.maxDelay p < d then (l.raise R.VR_EVT_DELAYHI).breakPort p
      else if l.portUp p then l
      else l.welcome p

/-- A usable PHY with link begins negotiation at 1000 Mbit/s (R371, R372); a broken port reads so until it is admitted. -/
def Lane.negotiateLink (l : Lane) (p : Port) : Lane :=
  if l.portUsable p ∧ !l.portUp p then
    ((l.put (psLink p) (if l.get (psLink p) = 3 then 3 else 1)).raise (psG1000 p)).onPort p fun q =>
      { q with since := l.now, helloAt := 0, delays := [], heardHello := none }
  else l

/-- A PHY reports link, its identifier registers being `e.val` (R369, R371): with another identifier than VR_PHYID the PHY
stays in reset and its port is unusable. Before step 7 has passed both PHYs are in reset. -/
def execPhyLink (e : Seen Word) (p : Port) (s : State) : Host.Outcome State Fault Refusal :=
  .next (s.logicEvent e.toAt fun l =>
    if !l.reh.done.testBit 7 ∨ l.bit R.LC_ENGSTAT_UNUS 6 then l
    else
      let bad := l.word R.VR_PHYID != 0 && l.word R.VR_PHYID != e.val
      let l := l.onPort p fun q => { q with phy := !bad, misfit := bad }
      if bad then (l.raise R.VR_EVT_PHYFAIL).breakPort p else l.negotiateLink p)

/-- VR_CFG[EN] has been written (R392, R393): switched off, no port stays admitted; switched on, ports with link negotiate. -/
def Lane.ringSwitched (l : Lane) : Lane :=
  if l.flag R.VR_CFG_EN then
    ([0, 1] : List Port).foldl (fun l p => l.when (l.ring.ports[p]).phy fun l => l.when (l.get (psLink p) == 0) fun l => l.negotiateLink p) l
  else
    ([0, 1] : List Port).foldl (fun l p => (l.put (psLink p) 0).onPort p fun q => { q with delays := [], heardHello := none })
      (l.setRing .off)

/-- A HELLO of this node (R371). -/
def Lane.ownHello (l : Lane) (p : Port) : RingHello :=
  { node := l.node, ring := l.id, level := l.get R.VR_CFG_LVLMAX, g1000 := true, g100 := l.flag R.VR_CFG_ALLOW100
    answers := (l.ring.ports[p]).heardHello, sent := l.now }

/-- A HELLO is due: every 100 µs until admission, every 100 ms after (R371, R373). -/
def execVirecHelloSend (e : At) (p : Port) (s : State) : Host.Outcome State Fault Refusal :=
  .next (s.logicEvent e fun l =>
    let q := l.ring.ports[p]
    if l.portUsable p ∧ q.phy ∧ l.since q.helloAt (if l.portUp p then ms 100 else us 100) ∧ !l.ring.duplicate then
      (l.onPort p fun q => { q with helloAt := l.now }).send (.ringHello p (l.ownHello p))
    else l)

/-- A Virec HELLO arrives (R372, R373). -/
def execVirecHello (e : At) (p : Port) (h : RingHello) (s : State) : Host.Outcome State Fault Refusal :=
  .next (s.logicEvent e fun l => l.ringHello p h)

/-- 50 ms without admission: the other rate is tried, where it is permitted (R372). -/
def execRateTimeout (e : At) (p : Port) (s : State) : Host.Outcome State Fault Refusal :=
  .next (s.logicEvent e fun l =>
    let q := l.ring.ports[p]
    if q.phy ∧ !l.portUp p ∧ l.since q.since (ms 50) then
      let slow := l.flag (psG1000 p) && l.flag R.VR_CFG_ALLOW100
      (l.putFlag (psG1000 p) (!slow)).onPort p fun q => { q with since := l.now, delays := [], heardHello := none }
    else l)

/-- The PHY's link, or its synchronisation, has been down for `e.val` µs: at 10 µs the port is broken (R405). -/
def execPortBreak (e : Seen Nat) (p : Port) (s : State) : Host.Outcome State Fault Refusal :=
  .next (s.logicEvent e.toAt fun l => l.when (decide (10 ≤ e.val)) fun l => (l.onPort p fun q => { q with phy := false }).breakPort p)

/-! ### Expected arrivals (R385, R406) -/

/-- The time since the cue instant. -/
def Lane.sinceCue (l : Lane) : Int := (l.stampNow : Int) - (l.ring.cueAt / 2 ^ 22 : Nat)

/-- The cycle length. -/
def Lane.cycleQ (l : Lane) : Int := 200000 * l.get R.VR_CYC_LEN

/-- The node's position in the ring description, and the place of the link at a port. -/
def Lane.position (l : Lane) : Nat := l.members.idxOf l.node
def Lane.linkPlace (l : Lane) (p : Port) : Nat :=
  if p = 1 then l.position else (l.position + l.members.length - 1) % l.members.length

/-- The measured delay of the link at a port, once there is one. -/
def Lane.ownDelay (l : Lane) (p : Port) : Option Nat :=
  if (l.ring.ports[p]).delays.isEmpty then none else some (medianDelay (l.ring.ports[p]).delays)

/-- The measured delays of all links in the order of the ring description: this node's two as it measured them, the others as
the command gives them (assumption 17). -/
def Lane.linkDelays (l : Lane) (links : List Nat) : List Nat :=
  (List.range l.members.length).map fun i =>
    (if i = l.linkPlace 1 then l.ownDelay 1 else if i = l.linkPlace 0 then l.ownDelay 0 else none).getD (links.getD i 0)

/-- The links at which the ring is healed in this cycle. -/
def Lane.healedLinks (l : Lane) : List Nat :=
  (l.ring.breaks.filter fun b => decide (b.2 ≤ l.ring.num)).map fun b => l.members.idxOf b.1.1

/-- The flights of a sheet's frames as this node expects them at a port: the level and rate are those of its link there
(assumption 98). -/
def Lane.ringFlights (l : Lane) (s : CueSheet) (links : List Nat) (p : Port) : List Flight :=
  sheetFlights l.members s (l.linkDelays links) (l.get (psLvl p)) (l.flag (psG1000 p)) l.healedLinks

/-- The flights that arrive at a port; those that leave by it. -/
def Lane.arrivals (l : Lane) (s : CueSheet) (links : List Nat) (p : Port) : List Flight :=
  (l.ringFlights s links p).filter fun f =>
    f.link == l.linkPlace p && f.east == (p == 0) && ((s.cues[f.cue]?).map (·.owner)) != some l.node
def Lane.departures (l : Lane) (s : CueSheet) (links : List Nat) (p : Port) : List Flight :=
  (l.ringFlights s links p).filter fun f => f.link == l.linkPlace p && f.east == (p == 1)

/-! ### Forwarding (R384, R388, R390, R406) -/

/-- The first moment after `x` at which the window of the next cue on the link out of a port begins (R390). -/
def Lane.nextWindow (l : Lane) (links : List Nat) (p : Port) (cue : Nat) (x : Int) : Option Int :=
  l.sheet.bind fun s =>
    (((l.departures s links p).filter fun f => f.cue != cue && decide (x < f.out)).map fun f =>
      f.out - 4 * (windowNs (((s.cues[f.cue]?).map (·.win)).getD 0) : Int)).min?

/-- Sends a forwarded frame; the guardian cuts one that would still be on the link when the next cue's window begins (R390). -/
def Lane.sendOn (l : Lane) (links : List Nat) (p : Port) (cue len : Nat) (body : List Byte) (bad : Bool) : Lane :=
  let fast := l.flag (psG1000 p)
  let leaves : Int := l.sinceCue + residenceQ (l.get (psLvl p)) fast len
  let room : Option Nat := (l.nextWindow links p cue leaves).map fun t => ((t - leaves) / byteQ fast).toNat
  match room.filter fun k => decide (k < body.length + 4) with
  | some k => (l.bump (pcCut p)).when (decide (4 < k)) fun l => l.send (.ringForward p (spoilFrame (body.take (k - 4))))
  | none => l.send (.ringForward p (if bad then spoilFrame body else closeFrame body))

/-- Forwards a frame that came in at `p` out of the other port; at a looped port it is sent back, a looped frame is not
(R384, R406). `body` is the frame without its FCS; `bad` closes it with an inverted one (R388). -/
def Lane.forward (l : Lane) (links : List Nat) (p : Port) (h : RingHeader) (len : Nat) (body : List Byte) (bad : Bool) : Lane :=
  let out := otherPort p
  if h.hops ≤ 1 ∨ h.src = l.node ∨ l.ringMode = .off ∨ l.ringDead then l
  else if l.flag (psLoop out) then
    (if h.looped then l
     else l.sendOn links p h.cue len
       (rehead body { h with hops := l.members.length - 1, looped := true, west := !h.west }) bad)
  else if l.portUp out then l.sendOn links out h.cue len (rehead body { h with hops := h.hops - 1 }) bad
  else l

/-! ### Receiving cue frames (R388, R389) -/

/-- A window a frame fits: its sheet and arrival, the lane's cycle it belongs to after the present one, and stamp − E. -/
structure Window where
  sheet : CueSheet
  at_ : Flight
  after : Int
  dev : Int
  deriving DecidableEq, Repr

/-- The entry of a window's cue. -/
def Window.entry (w : Window) : CueEntry := w.sheet.cues.getD w.at_.cue ⟨0, 0, 0, 3, 0, 0⟩

/-- A deviation lies in a window of half-width `w` ns about `d` (R388); within 8 ns of an edge either side is a free choice. -/
def Lane.inside (l : Lane) (w : Nat) (dev d : Int) : Bool :=
  let x : Int := ((dev - d).natAbs : Int)
  if x + 32 ≤ 4 * w then true else if 4 * (w : Int) + 32 < x then false else l.choice % 2 == 0

/-- The sheets whose windows are open: the one in use, and the other one while a majority is awaited (R398). -/
def Lane.openSheets (l : Lane) : List CueSheet :=
  l.sheet.toList ++ (l.ring.adopting.bind l.sheetOf).toList

/-- The windows at a port that the present moment lies in, taken at E + D (R388, R396). -/
def Lane.windowsNow (l : Lane) (p : Port) (links : List Nat) : List Window :=
  l.openSheets.flatMap fun s => (l.arrivals s links p).flatMap fun f => ([0, -1, 1] : List Int).filterMap fun k =>
    let w : Window := ⟨s, f, k, l.sinceCue - k * l.cycleQ - f.at_⟩
    if l.inside (windowNs w.entry.win) w.dev l.ring.drift then some w else none

/-- The header names the window's cue, cycle, ring and sheet (R388). -/
def Lane.headerFits (l : Lane) (h : RingHeader) (w : Window) : Bool :=
  h.cue == w.at_.cue && h.looped == w.at_.looped && h.sheet == w.sheet.num && h.ring == laneNum l.id &&
  h.cycle == BitVec.ofInt 16 ((l.ring.num : Int) + w.after)

/-- Breaks and restores that a member's CONTROL announces (R406, R408). -/
def Lane.takeBreaks (l : Lane) (src : Nat) (c : Control) : Lane :=
  let east (x : Nat) : RingLink := (src, x)
  let west (x : Nat) : RingLink := (x, src)
  let l := match c.brkE with | some x => l.noteBreak (east x) (l.ring.num + 1) | none => l
  let l := match c.brkW with | some x => l.noteBreak (west x) (l.ring.num + 1) | none => l
  match c.restore with
  | some (e, x) => l.noteRestore (if e then east x else west x) (l.ring.num + 2)
  | none => l

/-- A member's CONTROL (R391): breaks and restores, and a change that the sheet master announces (R397). -/
def Lane.takeControl (l : Lane) (src : Nat) (c : Control) : Lane :=
  let l := (l.onRing fun r => { r with controls := r.controls ++ [(src, c)] }).takeBreaks src c
  match c.announce, l.ringPart with
  | some sh, some r =>
    if r.ring.sheetMaster = src ∧ l.ring.change = none then
      ((l.onRing fun q => { q with change := some (sh, q.num) }).put R.VR_STAT_SHPEND sh).raise R.VR_STAT_PEND
    else l
  | _, _ => l

/-- The receive queue's fill (R453). -/
def Lane.showFill (l : Lane) : Lane :=
  let k := (l.ring.fill + l.ring.fillPrev) / 1024
  (l.put R.SG_QSTAT_RXFILL k).put R.SG_QSTAT_RXMAX (max k (l.get R.SG_QSTAT_RXMAX))

/-- The ports a cue is expected on. -/
def Lane.cuePorts (l : Lane) (s : CueSheet) (links : List Nat) (q : Nat) : List Port :=
  ([0, 1] : List Port).filter fun p => (l.arrivals s links p).any fun f => f.cue == q

/-- A clean first copy is accepted: its payload, which the cue's kind tells, goes to publication, to the time service or to
the node's view of the ring (R380, R391). A DATA or SEALED frame that does not fit the receive queue is not queued, and its
cue is handled as empty (R454). -/
def Lane.acceptCue (l : Lane) (p : Port) (w : Window) (h : RingHeader) (f : VirecIn) : Lane :=
  let kind := w.entry.kind
  let pl := readPayload f.bytes
  if (kind = 0 ∨ kind = 4) ∧ 458752 < l.ring.fill + l.ring.fillPrev + f.bytes.length then
    ((l.bump R.SG_CNT0_RXOVF).raise R.SG_EVT_RXOVF).onRing fun r => { r with
      empty := if r.empty.contains h.cue then r.empty else h.cue :: r.empty }
  else
    let entry : Accepted := ⟨h.cue, h.src, w.dev, h.sheet⟩
    let l := (l.bump (pcClean p)).onRing fun r => { r with
      accepted := r.accepted ++ [entry], empty := r.empty.filter (· != h.cue)
      emptyRun := (l.cuePorts w.sheet f.links h.cue).foldl (fun (v : Vector Bool 2) (p : Port) => v.set p false) r.emptyRun }
    match kind with
    | 1 => l.takeControl h.src (readControl pl)
    | 2 =>
      let master := match l.ringPart with | some r => r.ring.timeMaster == h.src | none => false
      l.takeSync (readSync pl) master w.at_.at_ l.stampNow
    | 3 => l
    | k => (l.onRing fun r => { r with queue := r.queue ++ [(h.cue, k == 4, pl)], fill := r.fill + f.bytes.length }).showFill

/-- A CUE frame at a port of a node that has adopted the ring's cycle (R388), in the order of the table. -/
def Lane.judgeCue (l : Lane) (p : Port) (h : RingHeader) (f : VirecIn) : Lane :=
  let ws := l.windowsNow p f.links
  let good := ws.find? (l.headerFits h)
  let l := l.nextChoice
  match ws, good with
  | [], _ => l.bump (pcWin p)
  | w :: _, none => (l.onRing fun r => { r with met := (p, w.at_.cue, w.at_.looped) :: r.met }).bump (pcCueErr p)
  | _, some w =>
    let again := l.ring.met.contains (p, h.cue, h.looped)
    let l := l.onRing fun r => { r with met := (p, h.cue, h.looped) :: r.met }
    let len := w.entry.len
    if len < f.bytes.length then (l.bump (pcWin p)).forward f.links p h len (f.bytes.take (len - 4)) true
    else if again then l.bump (pcWin p)
    else
      let l := l.onRing fun r => { r with emptyRun := r.emptyRun.set p false }
      let l := if l.ring.accepted.any (fun a => a.cue == h.cue) then l else l.acceptCue p w h f
      l.forward f.links p h len (frameBody f.bytes) false

/-- In LISTEN a node receives and forwards every frame and looks for the ring's cycle: two consecutive cycles of one
sheet and cycle with a consistent D (R393). -/
def Lane.listenCue (l : Lane) (p : Port) (h : RingHeader) (f : VirecIn) : Lane :=
  let fits := (l.sheetOf h.sheet).bind fun s => (l.arrivals s f.links p).find? fun a => a.cue == h.cue && a.looped == h.looped
  match fits with
  | none => (l.onRing fun r => { r with quiet := 0 }).forward f.links p h 64 (frameBody f.bytes) false
  | some a =>
    let x := l.sinceCue - a.at_
    let dev := Int.bmod x l.cycleQ.toNat
    let num : Nat := (((l.ring.num / 2 ^ 16 * 2 ^ 16 + h.cycle.toNat : Nat) : Int) - (x - dev) / l.cycleQ).toNat
    let known := l.ring.lastSheet.isSome
    let same := l.ring.lastSheet == some h.sheet && num == l.ring.num
    let l := l.onRing fun r => { r with
      quiet := 0, lastSheet := some h.sheet, num := num
      accepted := r.accepted ++ [⟨h.cue, h.src, dev, h.sheet⟩]
      consistent := if same || !known then r.consistent else 0 }
    (l.bump (pcClean p)).forward f.links p h (((l.sheetOf h.sheet).bind fun s => s.cues[h.cue]?).map (·.len) |>.getD 64) (frameBody f.bytes) false

/-- A frame with a bad FCS (R388): at level 2 it was being forwarded already where its header fits a window, and is closed
with an inverted FCS. -/
def Lane.badFrameIn (l : Lane) (p : Port) (h : RingHeader) (f : VirecIn) : Lane :=
  let l := l.bump (pcFcs p)
  let begun := l.get (psLvl (otherPort p)) == 2 && decide (64 ≤ f.bytes.length) && isVirec (l.get R.VR_ETYPE_ETYPE) f.bytes &&
    (l.ringMode == .listen || (l.windowsNow p f.links).any (l.headerFits h))
  if begun then l.forward f.links p h 64 (frameBody f.bytes) true else l

/-! ### Cold start (R401 to R403) -/

/-- The header of an own frame. -/
def Lane.ownHeader (l : Lane) (type cue hops : Nat) (p : Port) (looped : Bool) : RingHeader :=
  { version := 1, type := type, west := (p == 0) != looped, looped := looped, sheet := l.get R.VR_STAT_SHACT, ring := laneNum l.id
    hops := hops, src := l.node, cue := cue, cycle := BitVec.ofNat 16 l.ring.num }

/-- Sends an own frame in the direction of a port; at a looped port it goes out of the other one with the looped bit and the
direction inverted (R384, R406). -/
def Lane.sendOwn (l : Lane) (type cue hops : Nat) (pl : List Byte) (p : Port) : Lane :=
  let looped := l.flag (psLoop p)
  let p' := if looped then otherPort p else p
  if l.portUp p' then l.send (.ringFrame p' (virecFrame (l.get R.VR_ETYPE_ETYPE) (l.ownHeader type cue hops p looped) pl)) else l

/-- The START of this node (R377, R401): its lane time at the cue instant. -/
def Lane.startOf (l : Lane) : StartFrame :=
  ⟨l.node, l.ring.cueAt / 2 ^ 22, BitVec.ofNat 64 l.ring.num, l.get R.VR_STAT_SHACT, 0⟩

/-- Sends START in both directions (R401); it carries no hop limit, its hops field is 63 (assumption 98). -/
def Lane.sendStart (l : Lane) : Lane :=
  let f := l.startOf
  let b := startBytes f
  ((l.onRing fun r => { r with ownStart := some f.time }).sendOwn 2 0 63 b 1).sendOwn 2 0 63 b 0

/-- A cold starter that has heard nothing for its listen time and any back-off enters COLDSTART; START follows at the next
cycle start (R401, R404). -/
def execColdStart (e : At) (s : State) : Host.Outcome State Fault Refusal :=
  .next (s.logicEvent e fun l =>
    if l.ringMode = .listen ∧ l.get R.VR_CS_LISTEN ≤ l.ring.quiet ∧ l.since l.ring.quietSince l.ring.backoff ∧
        l.flag R.VR_CFG_CSTART ∧ l.flag R.LC_STATE_LEAD ∧ !l.ringDead then
      l.setRing .coldStart
    else l)

/-- Adopts a START that came in at `p` (R403): its cycle number and sheet, and its cue instant, by the path delay and the
delay of the last link, as this node's drift. -/
def Lane.adoptStart (l : Lane) (p : Port) (f : StartFrame) : Lane :=
  let x := l.sinceCue - f.delay - (l.ownDelay p).getD 0
  let d := Int.bmod x l.cycleQ.toNat
  let num : Nat := ((f.cycle.toNat : Int) - (x - d) / l.cycleQ).toNat
  let l := ((l.setRing .integrate).put R.VR_STAT_STARTER f.src).put R.VR_STAT_SHACT f.sheet
  let l := l.putInt R.VR_DRIFT_D (clampInt (-32768) 32767 (Config.quantize ((d : Rat) / 4)))
  (l.onRing fun r => { r with num := num, adoptedIn := some num, drift := d }).put R.VR_CYCNUM_NUM num

/-- Forwards a START out of the other port, its path delay grown by this node's link delay and residence (R377); at a looped
port it is sent back once (R406). -/
def Lane.forwardStart (l : Lane) (p : Port) (h : RingHeader) (f : StartFrame) (b : List Byte) : Lane :=
  let out := otherPort p
  let to_ := if l.flag (psLoop out) then p else out
  let h' := if l.flag (psLoop out) then { h with looped := true, west := !h.west } else h
  let delay := f.delay + (l.ownDelay p).getD 0 + residenceQ (l.get (psLvl to_)) (l.flag (psG1000 to_)) 64
  if l.ringDead ∨ !l.portUp to_ ∨ (l.flag (psLoop out) ∧ h.looped) then l
  else l.send (.ringForward to_ (closeFrame (rehead (repay (frameBody b) (startBytes { f with delay := delay })) h')))

/-- A START frame arrives (R402). -/
def Lane.takeStart (l : Lane) (p : Port) (h : RingHeader) (b : List Byte) : Lane :=
  let f := readStart h.src (readPayload b)
  if f.src = l.node ∧ l.ring.ownStart ≠ some f.time then l.sameNode
  else
    match l.ringMode with
    | .off => l
    | .up => if f.src = l.node then l else l.bump (pcCueErr p)
    | .coldStart =>
      if f.src = l.node then
        let l := l.onRing fun r => { r with returned := r.returned.set p true }
        l.when (l.ring.returned[(0 : Port)] && l.ring.returned[(1 : Port)]) fun l => l.raise R.VR_EVT_RINGUP
      else if f.src < l.node then ((l.adoptStart p f).raise R.VR_EVT_STARTLOST).forwardStart p h f b
      else l.bump (pcCueErr p)
    | .listen | .integrate =>
      if f.src = l.node ∨ l.ring.duplicate then l
      else
        let recent : Bool := match l.ring.adoptedIn with | some c => decide (l.ring.num ≤ c + 1) | none => false
        if recent ∧ l.get R.VR_STAT_STARTER < f.src then l.bump (pcCueErr p)
        else if recent ∧ l.get R.VR_STAT_STARTER = f.src ∧ l.ring.num = f.cycle.toNat then l.forwardStart p h f b
        else (l.adoptStart p f).forwardStart p h f b

/-! ### What arrives (R374, R376) -/

/-- A Virec frame arrives (R374, R376, R388, R393): a HELLO has its own command; a reserved type, or another version, is a
window error (assumption 98). -/
def Lane.virecIn (l : Lane) (p : Port) (f : VirecIn) : Lane :=
  let h := readHeader f.bytes
  if l.ringMode = .off ∨ !l.portUp p then l
  else if !fcsOk f.bytes then l.badFrameIn p h f
  else if !isVirec (l.get R.VR_ETYPE_ETYPE) f.bytes then l
  else if h.version ≠ 1 then l.bump (pcWin p)
  else
    match h.type with
    | 1 => if h.src = l.node then l else if l.ringMode = .listen then l.listenCue p h f else l.judgeCue p h f
    | 2 => l.takeStart p h f.bytes
    | 3 => l
    | _ => l.bump (pcWin p)

/-- The command packets of a frame are passed to checking when the frame is accepted (R380, R468). -/
def Lane.commandsOf (l : Lane) (p : Port) (f : VirecIn) : List Packet :=
  let h := readHeader f.bytes
  let pl := readPayload f.bytes
  let taken := (l.virecIn p f).ring.accepted.length != l.ring.accepted.length
  if l.ringOn ∧ h.type = 1 ∧ taken ∧ ((l.sheetOf h.sheet).bind fun s => s.cues[h.cue]?).any (fun c => c.kind == 3) then
    cuePackets pl.length pl f.facts
  else []

/-! ### Empty cues (R389, R405) -/

/-- A cue from which no frame was accepted by the end of its windows is empty (R389); two in succession on a port break
it (R405). -/
def Lane.emptyCue (l : Lane) (q : Nat) (links : List Nat) : Lane :=
  match l.sheet, l.cue q with
  | some s, some c =>
    let due := ([0, 1] : List Port).flatMap fun p => (l.arrivals s links p).filter fun f => f.cue == q
    let passed (f : Flight) : Bool := decide ((f.at_ + l.ring.drift + 4 * windowNs c.win) % l.cycleQ ≤ l.sinceCue)
    if !l.ringOn ∨ l.ring.accepted.any (fun a => a.cue == q) ∨ l.ring.empty.contains q ∨ due.isEmpty ∨ !due.all passed then l
    else
      (l.cuePorts s links q).foldl (fun l p =>
        if l.portUp p then
          let second := l.ring.emptyRun[p]
          let l := (l.bump (pcEmpty p)).onRing fun r => { r with emptyRun := r.emptyRun.set p true }
          if second then l.breakPort p else l
        else l) (l.onRing fun r => { r with empty := q :: r.empty })
  | _, _ => l

/-- A cue window ends (R389). -/
def execCueWindowEnd (e : At) (cue : Nat) (links : List Nat) (s : State) : Host.Outcome State Fault Refusal :=
  .next (s.logicEvent e fun l => l.emptyCue cue links)

/-! ### Sending (R390, R391, R393, R395, R423, R468) -/

/-- The CONTROL payload of this node (R391). -/
def Lane.ownControl (l : Lane) : Control :=
  let broken (p : Port) : Option Nat := if l.get (psLink p) = 3 then l.neighbour p else none
  let k : Nat := l.ring.num
  { state := if l.lstate = .out then RingMode.integrate.code else l.get R.VR_STAT_STATE
    silent := l.flag R.VR_STAT_SILENT, resync := l.flag R.VR_STAT_RESYNC, healed := l.flag R.VR_STAT_HEALED
    sheet := l.get R.VR_STAT_SHACT
    announce := match l.ring.change with | some (s, c) => if l.ring.announce && c == k then some s else none | none => none
    ack := match l.ring.change with
      | some (s, c) => if c + 1 = k ∧ (l.sheetOf s).isSome then some s else none | none => none
    brkE := broken 1, brkW := broken 0
    restore := if (l.ring.ports[(1 : Port)]).restore then (l.neighbour 1).map fun n => (true, n)
      else if (l.ring.ports[(0 : Port)]).restore then (l.neighbour 0).map fun n => (false, n) else none
    drift := l.getInt R.VR_DRIFT_D, node := (l.word R.LC_STATE).toNat % 256 }

/-- The SYNC payload of a MASTER (R423). -/
def Lane.ownSync (l : Lane) : SyncMsg :=
  { time := l.ring.cueAt / 2 ^ 22, master := l.node, grand := BitVec.ofNat 64 l.node, locked := true
    seq := l.ring.syncSeq.toNat }

/-- Whether the node may send a cue of a kind now (R392, R393, R395, R423). -/
def Lane.maySend (l : Lane) (kind : Nat) : Bool :=
  !l.ringDead && l.ringOn &&
  (kind == 1 || (l.ringMode == .up && !l.flag R.VR_STAT_SILENT && l.lstate != .out &&
    (kind != 2 || l.get R.TM_CFG_ROLE == 0)))

/-- Sends an own cue in its directions (R384). -/
def Lane.sendCue (l : Lane) (q : Nat) (dir : Nat) (pl : List Byte) : Lane :=
  let out (l : Lane) (p : Port) : Lane := l.sendOwn 1 q (l.members.length - 1) pl p
  match dir with
  | 0 => out l 1
  | 1 => out l 0
  | 2 => out (out l 1) 0
  | _ => l

/-- Replies that fit into `room` bytes, each on a 4-byte boundary, and those that wait (R468). -/
def packReplies : Nat → List Reply → List Byte × List Reply
  | _, [] => ([], [])
  | room, r :: rest =>
    let b := replyBytes r
    let n := (b.length + 3) / 4 * 4
    if b.length ≤ room then
      let x := packReplies (room - n) rest
      (b ++ List.replicate (n - b.length) 0 ++ x.1, x.2)
    else ([], r :: rest)

/-- What the node's own cue carries: CONTROL, SYNC, the replies that fit, the entries sampled at the cue instant. -/
def Lane.ownPayload (l : Lane) (q : Nat) (c : CueEntry) : List Byte :=
  match c.kind with
  | 1 => controlBytes l.ownControl
  | 2 => syncBytes l.ownSync
  | 3 => (packReplies (min 1488 (c.len - 30)) l.seats.ringReplies).1
  | _ => ((l.ring.snapshot.find? fun x => x.1 == q).map (·.2)).getD []

/-- A CONTROL cue has announced the restore of a port's link: the intact arrivals come back two cycles on (R408). -/
def Lane.restorePort (l : Lane) (p : Port) : Lane :=
  if (l.ring.ports[p]).restore then
    (l.onPort p fun q => { q with restore := false }).noteRestore (l.portLink p) (l.ring.num + 2)
  else l

/-- The restore that a CONTROL cue carries has been announced (R408). -/
def Lane.restoreAnnounced (l : Lane) : Lane := l.restorePort (if (l.ring.ports[(1 : Port)]).restore then 1 else 0)

/-- What has left with a cue leaves its queue. -/
def Lane.cueLeft (l : Lane) (c : CueEntry) : Lane :=
  match c.kind with
  | 1 => l.restoreAnnounced
  | 2 => l.onRing fun r => { r with syncSeq := r.syncSeq + 1 }
  | 3 => l.onSeats fun s => { s with ringReplies := (packReplies (min 1488 (c.len - 30)) s.ringReplies).2 }
  | _ => l

/-- An own cue is due: it leaves at START, once in a cycle (R390, R468). The network engine has its frame ready `late`
quarter nanoseconds from now, `size` bytes long if longer than its payload asks; the guardian withholds one that is not
ready by START + W/2, or longer than LEN. -/
def Lane.sendOwnCue (l : Lane) (q : Nat) (c : CueEntry) (late size : Nat) : Lane :=
  let start : Int := 40 * c.start
  if c.owner ≠ l.node ∨ c.dir = 3 ∨ !l.maySend c.kind ∨ l.ring.sent.contains q ∨ l.sinceCue + 32 < start then l
  else
    let pl := l.ownPayload q c
    let l := l.onRing fun r => { r with sent := q :: r.sent }
    if start + 2 * windowNs c.win < l.sinceCue + late ∨ c.len < max size (max 64 (30 + pl.length)) then
      (l.bump R.VR_NCNT_TXGUARD).raise R.VR_EVT_TXGUARD
    else (l.sendCue q c.dir pl).cueLeft c

/-- An own cue is due. -/
def execCueSend (e : At) (cue late size : Nat) (s : State) : Host.Outcome State Fault Refusal :=
  .next (s.logicEvent e fun l => match l.cue cue with | none => l | some c => l.sendOwnCue cue c late size)

/-! ### Publication and snapshot (R380, R449, R455, R456) -/

/-- The bytes of a buffer of a CAN controller (R434). -/
def Lane.canBytes (l : Lane) (k : Can) (b : Nat) : List Byte :=
  (List.range 64).map fun i => BitVec.ofNat 8 ((l.word (R.CN_BDAT k b (i / 4))).toNat / 2 ^ (8 * (i % 4)))

/-- The sealed record in a CAN buffer that was stored in the cycle past. -/
def Lane.canRecord (l : Lane) (k : Can) (b : Nat) : Option SealedRec :=
  if (l.can[k]).got.contains b then some (readRecord (l.canBytes k b)) else none

/-- The sealed records of the cue payloads of the cycle past, with their cues. -/
def Lane.ringRecords (l : Lane) : List (Nat × SealedRec) :=
  l.ring.queue.flatMap fun x => if x.2.1 then (readRecords 135 x.2.2).map fun r => (x.1, r) else []

/-- Publishes one definition from the payloads of the cycle past, stamped with its cue instant. -/
def Lane.publish (l : Lane) (d : SigDef) (stamp : Nat) : Lane :=
  match d.source with
  | .cue q =>
    match l.ring.queue.find? fun x => x.1 == q with
    | some (_, false, b) => l.writeSignal d.handle d.source ((b.drop d.offset).take d.len) stamp
    | _ => l
  | .canBuf k b =>
    if (l.can[k]).got.contains b then
      l.writeSignal d.handle d.source (((l.canBytes k b).drop d.offset).take d.len) stamp
    else l
  | .sealed k q b =>
    l.compareSealed d ((l.ringRecords.find? fun x => x.1 == q && x.2.handle == d.handle).map (·.2))
      ((l.canRecord k b).filter fun r => r.handle == d.handle) stamp
  | _ => l

/-- A clean sealed record that came by another path than its definition's is a foreign write (R448). -/
def Lane.foreignRecord (l : Lane) (mine : SourcePath → Bool) (r : SealedRec) : Lane :=
  if r.crcOk ∧ !(l.sigDef r.handle).any (fun d => mine d.source) then (l.raise R.SG_EVT_FOREIGN).bump R.SG_CNT0_FOREIGN else l

/-- The sealed records of the cycle past that no definition takes from where they came (R448). -/
def Lane.foreignRecords (l : Lane) (defs : List SigDef) : Lane :=
  let l := l.ringRecords.foldl (fun l x => l.foreignRecord (fun s => match s with | .sealed _ q _ => q == x.1 | _ => false) x.2) l
  let bufs := defs.filterMap fun d => match d.source with | .sealed k _ b => some (k, b) | _ => none
  bufs.eraseDups.foldl (fun l x =>
    match l.canRecord x.1 x.2 with
    | some r => l.foreignRecord (fun s => match s with | .sealed k _ b => k == x.1 && b == x.2 | _ => false) r
    | none => l) l

/-- Publication at the cue instant, `stamp` being the cue instant of the cycle past (R380, R449, R456). -/
def Lane.publishAll (l : Lane) (stamp : Nat) : Lane :=
  let defs := ((l.trust.book.bind (·.signals)).map (·.defs)).getD []
  let l := l.onDict fun x => { x with lostNow := false }
  let l := (defs.foldl (fun l d => l.publish d stamp) l).foreignRecords defs
  let l := l.onRing fun r => { r with queue := [], fillPrev := r.fill, fill := 0 }
  let l := l.put R.SG_QSTAT_RXFILL (l.ring.fillPrev / 1024)
  (l.onCan 0 fun c => { c with got := [] }).onCan 1 fun c => { c with got := [] }

/-- Lays the values of handles out at their offsets. -/
def Lane.layOut (l : Lane) (hs : List Nat) : List Byte :=
  hs.foldl (fun b h =>
    match l.sigDef h, l.entry h with
    | some d, some e =>
      let b := b ++ List.replicate (d.offset + d.len - b.length) 0
      b.take d.offset ++ e.value ++ b.drop (d.offset + d.len)
    | _, _ => b) []

/-- The sealed record of a handle as the lane sends it (R455). -/
def Lane.ownRecord (l : Lane) (h : Nat) : List Byte :=
  sealBytes ⟨h, l.ring.sealSeq, ((l.entry h).map (·.value)).getD [], true⟩

/-- The payload an own cue will carry (R380, R455). -/
def Lane.sample (l : Lane) (q : Nat) (hs : List Nat) : List Byte :=
  if (l.cue q).any (fun c => c.kind == 4) then hs.flatMap l.ownRecord else l.layOut hs

/-- Fills a transmit buffer; a buffer whose READY is 1 keeps its content (R436). -/
def Lane.fillBuffer (l : Lane) (k : Can) (b : Fin 64) (bytes : List Byte) : Lane :=
  if l.flag (R.CN_BCTL_READY k b) then l
  else (List.range 16).foldl (fun l w => l.setWord (R.CN_BDAT k b w) (canWord bytes w)) l

/-- The handles that the own SEALED cues carry. -/
def Lane.sealedOut (l : Lane) (s : SignalsSection) : List Nat :=
  s.cues.flatMap fun x => if (l.cue x.1).any (fun c => c.kind == 4) then x.2 else []

/-- What a BUFFER slot's frame carries: the record of a handle that a SEALED cue carries too (R455), else the values. -/
def Lane.sampleBuffer (l : Lane) (s : SignalsSection) (hs : List Nat) : List Byte :=
  match hs with
  | [h] => if (l.sealedOut s).contains h then l.ownRecord h else l.layOut hs
  | _ => l.layOut hs

/-- The entries that the own cues and BUFFER slots of the cycle carry are sampled (R380, R436), sealed ones for both paths
from one sample (R455). -/
def Lane.snapshotAll (l : Lane) : Lane :=
  match l.trust.book.bind (·.signals) with
  | none => l
  | some s =>
    let l := l.onRing fun r => { r with sealSeq := r.sealSeq + 1 }
    let l := l.onRing fun r => { r with snapshot := s.cues.map fun x => (x.1, l.sample x.1 x.2) }
    s.buffers.foldl (fun l x => l.fillBuffer x.1 x.2.1 (l.sampleBuffer s x.2.2)) l

/-! ### The cycle start (R393 to R399, R404, R406, R408) -/

/-- The median of integers. -/
def medianInt (d : List Int) : Int := (sortBy (fun a b => decide (a < b)) d).getD (d.length / 2) 0

/-- The smallest window among the node's own cues, in ns (R395). -/
def Lane.ownWindow (l : Lane) : Nat :=
  match l.sheet with
  | none => 0
  | some s =>
    match (s.cues.filter fun c => c.owner == l.node && c.dir != 3).map fun c => windowNs c.win with
    | [] => 0
    | w :: r => r.foldl min w

/-- Takes a drift (R394): VR_DRIFT shows it in ns. -/
def Lane.setDrift (l : Lane) (d : Int) : Lane :=
  let shown := clampInt (-32768) 32767 (Config.quantize ((d : Rat) / 4))
  ((l.onRing fun r => { r with drift := d }).putInt R.VR_DRIFT_D shown).put R.VR_DRIFT_MAX
    (min 65535 (max (l.get R.VR_DRIFT_MAX) shown.natAbs))

/-- The drift of the cycle past (R394). -/
def Lane.updateDrift (l : Lane) : Lane :=
  if l.ring.accepted.length < 3 ∨ !l.ringOn then l else l.setDrift (medianInt (l.ring.accepted.map (·.drift)))

/-- SILENT and resynchronisation by the drift (R395, R396). -/
def Lane.updateSilence (l : Lane) : Lane :=
  let d := l.ring.drift.natAbs
  let w := 4 * l.ownWindow
  let guardQ := ((l.sheet.map (·.guardTime)).getD 0) * 40
  let l := l.onRing fun r => { r with calm := if 2 * d ≤ w then r.calm + 1 else 0 }
  let l := l.when (l.ringOn && decide (w < d)) fun l =>
    (l.when (!l.flag R.VR_STAT_SILENT) fun l => l.raise R.VR_EVT_SILENT).raise R.VR_STAT_SILENT
  let l := l.when (l.ringOn && decide (guardQ < 2 * d) && !l.flag R.VR_STAT_RESYNC) fun l =>
    (((l.raise R.VR_STAT_RESYNC).raise R.VR_EVT_RESYNC).raise R.VR_STAT_SILENT).setRing .integrate
  let l := l.when (decide (d ≤ w)) fun l => l.drop R.VR_STAT_RESYNC
  let l := l.when (decide (8 ≤ l.ring.calm) && l.ring.adopting.isNone) fun l => l.drop R.VR_STAT_SILENT
  l.when (l.flag R.VR_STAT_SILENT) fun l => l.bump R.VR_NCNT_SILCYC

/-- Members whose CONTROL cue was accepted in the cycle past. -/
def Lane.heard (l : Lane) : List Nat := l.ring.controls.map (·.1)

/-- Uses a sheet. -/
def Lane.useSheet (l : Lane) (k : Nat) (f : Fld) : Lane :=
  ((l.put R.VR_STAT_SHACT k).raise f).drop R.VR_STAT_PEND

/-- The sheet named most often in the clean frames of the cycle past; none at a tie (R398). -/
def Lane.majoritySheet (l : Lane) : Option Nat :=
  let n (k : Nat) : Nat := (l.ring.accepted.filter fun a => a.sheet == k).length
  (List.range 8).find? fun k => decide (0 < n k) && (List.range 8).all fun j => j == k || decide (n j < n k)

/-- The end of the cycle in which a majority was awaited (R398): SILENT ends unless the drift keeps it. -/
def Lane.adoptMajority (l : Lane) : Lane :=
  let l := l.onRing fun r => { r with adopting := none }
  let l := l.when (decide (l.ring.drift.natAbs ≤ 4 * l.ownWindow)) fun l => (l.onRing fun r => { r with calm := 8 }).drop R.VR_STAT_SILENT
  match l.majoritySheet with
  | some k => l.useSheet k R.VR_EVT_SHADOPT
  | none => l.drop R.VR_STAT_PEND

/-- The node does not switch with the others: it is SILENT for a cycle and receives on both sheets (R398). -/
def Lane.awaitMajority (l : Lane) (k : Nat) : Lane := (l.onRing fun r => { r with adopting := some k }).raise R.VR_STAT_SILENT

/-- A sheet change at the start of cycle k + 2 (R397 to R399): `acks` holds the members that acknowledged in k + 1. A node
that sees acknowledgements of a change it knows nothing of lacks the announcement, unless it was cancelled here. -/
def Lane.changeSheet (l : Lane) (acks : List (Nat × Nat)) : Lane :=
  if l.ring.adopting.isSome then l.adoptMajority
  else
    match l.ring.change with
    | some (k, c) =>
      if l.ring.num = c + 2 then
        let by_ := (acks.filter fun a => a.2 == k).map (·.1)
        let required := l.heard.filter fun m => l.ring.heardPrev.contains m
        let l := l.onRing fun r => { r with change := none, announce := false }
        if by_.isEmpty ∧ !required.isEmpty then (l.drop R.VR_STAT_PEND).raise R.VR_EVT_SHCANC
        else if required.all (fun m => by_.contains m) ∧ (l.sheetOf k).isSome then l.useSheet k R.VR_EVT_SHDONE
        else l.awaitMajority k
      else l
    | none =>
      match acks.head? with
      | some a => if l.ring.cancelled.any (fun c => decide (l.ring.num ≤ c + 2)) ∨ !l.ringOn then l else l.awaitMajority a.2
      | none => l

/-- The cycle from which a break counts as healed: traffic is complete at the node at the break one cycle after it uses the
healed arrivals itself (R406). -/
def Lane.healDue (l : Lane) (b : RingLink × Nat) : Nat :=
  if b.1 == l.portLink 0 || b.1 == l.portLink 1 then b.2 + 1 else b.2

/-- Healing and restoring at a cycle start (R406, R408). -/
def Lane.healCycle (l : Lane) : Lane :=
  let now := l.ring.num
  let ended := (l.ring.restores.filter fun x => decide (x.2 ≤ now)).map (·.1)
  let l := l.when (!ended.isEmpty) fun l => (l.onRing fun r => { r with
    breaks := r.breaks.filter fun b => !ended.contains b.1
    restores := r.restores.filter fun x => !ended.contains x.1 }).raise R.VR_EVT_RESTORE
  let l := ([0, 1] : List Port).foldl (fun l p =>
    l.putFlag (psLoop p) (l.ring.breaks.any fun b => b.1 == l.portLink p && decide (b.2 ≤ now))) l
  let healed := l.ring.breaks.any fun b => decide (l.healDue b ≤ now)
  let l := l.putFlag R.VR_STAT_HEALED healed
  let l := l.putFlag R.VR_STAT_SPLIT (decide (2 ≤ l.ring.breaks.length))
  if healed ∧ !l.ring.healShown then (l.onRing fun r => { r with healShown := true }).raise R.VR_EVT_HEALDONE else l

/-- The back-off of R404 in raw counts. -/
def Lane.startBackoff (l : Lane) : Nat :=
  us (50 * l.beats * l.get R.VR_CS_LISTEN) + us (l.node % 64 * l.get R.VR_CS_BSTEP * 10)

/-- A cycle in LISTEN ends (R393): frames of one sheet and cycle with a consistent D in two cycles bring the node into
INTEGRATE. -/
def Lane.listenCycle (l : Lane) : Lane :=
  let heardAny := !l.ring.accepted.isEmpty
  let d := medianInt (l.ring.accepted.map (·.drift))
  let near := match l.ring.lastDrift with | none => true | some x => decide ((d - x).natAbs ≤ 4 * l.ownWindow)
  let l := l.onRing fun r => { r with
    consistent := if !heardAny then 0 else if near then r.consistent + 1 else 1
    lastDrift := if heardAny then some d else none, quiet := if heardAny then 0 else r.quiet + 1
    quietSince := if heardAny then l.now else r.quietSince }
  if 2 ≤ l.ring.consistent ∧ !l.ring.duplicate then
    ((l.put R.VR_STAT_SHACT ((l.ring.lastSheet).getD 0)).setRing .integrate).setDrift d
  else l

/-- The ring state at a cycle start: integration, cold start (R393, R401, R402, R404). -/
def Lane.ringStateCycle (l : Lane) : Lane :=
  match l.ringMode with
  | .listen => l.listenCycle
  | .integrate =>
    let l := l.onRing fun r => { r with settled := if l.flag R.VR_STAT_SILENT then 0 else r.settled + 1 }
    if 2 ≤ l.ring.settled then l.setRing .up else l
  | .coldStart =>
    if l.ring.cold = 0 then l.onRing fun r => { r with cold := 1 }
    else if l.ring.returned[(0 : Port)] ∧ l.ring.returned[(1 : Port)] then
      (if l.ring.cold = 1 then l.onRing fun r => { r with cold := 2 } else l.setRing .up)
    else (l.setRing .listen).onRing fun r => { r with backoff := l.startBackoff, quietSince := l.now }
  | _ => l

/-- A port that is not admitted counts as broken (R373, R405). -/
def Lane.breakUnadmitted (l : Lane) : Lane :=
  if l.ringMode = .off then l
  else ([0, 1] : List Port).foldl (fun l p => if l.portUp p then l else l.breakPort p) l

/-- The ring's part of a cycle start (R379, R393 to R408): `num` counts on, the cycle past is judged. START leaves at the
cue instant of both cycles of a cold start (R401). -/
def Lane.ringCycle (l : Lane) : Lane :=
  let acks := l.ring.controls.filterMap fun c => c.2.ack.map fun k => (c.1, k)
  let l := l.updateDrift.updateSilence.ringStateCycle.breakUnadmitted
  let stamp := l.ring.cueAt
  let l := l.onRing fun r => { r with num := r.num + 1, cueAt := l.ltime }
  let l := (l.changeSheet acks).healCycle
  let l := l.when (l.ringMode == .coldStart) fun l => l.sendStart
  let l := l.put R.VR_STAT_MEMB (l.heard.eraseDups.length + 1)
  let l := (List.range 32).foldl (fun l k => l.setWord (R.VR_MISS k)
    (BitVec.ofNat 32 ((((List.range 32).filter fun b => l.ring.empty.contains (32 * k + b)).map (2 ^ ·)).sum))) l
  let l := l.put R.VR_CYCNUM_NUM l.ring.num
  let l := (l.publishAll stamp).snapshotAll
  l.onRing fun r => { r with
    accepted := [], met := [], empty := [], sent := [], emptyRun := Vector.replicate 2 false
    heardPrev := r.controls.map (·.1), controls := [] }

/-! ### Commands of VR_CMD (R400, R411) -/

/-- A sheet change may be announced: none is pending and no healing is in progress (R400). -/
def Lane.mayAnnounce (l : Lane) : Bool :=
  l.ring.change.isNone && l.ring.adopting.isNone && !(l.ring.breaks.any fun b => decide (l.ring.num < l.healDue b)) &&
  l.ring.restores.isEmpty

/-- The sheet master announces a change in this cycle's CONTROL cue, or in the next one where that has left (R400). -/
def Lane.announce (l : Lane) (k : Nat) : Lane :=
  let left := l.ring.sent.any fun q => (l.cue q).any fun c => c.kind == 1
  if l.mayAnnounce ∧ (l.ringPart.map fun r => r.ring.sheetMaster) = some l.node then
    ((l.onRing fun r => { r with change := some (k, if left then r.num + 1 else r.num), announce := true }).put R.VR_STAT_SHPEND k).raise R.VR_STAT_PEND
  else l

/-- A write of VR_CMD[SHANN] with [SHEET] (R400). -/
def execShann (e : At) (sheet : Fin 8) (s : State) : Host.Outcome State Fault Refusal :=
  .next (s.logicEvent e fun l => l.announce sheet.val)

/-- The ring state returns to LISTEN (R410). -/
def Lane.reintegrate (l : Lane) : Lane := if l.ringMode = .off then l else l.setRing .listen

/-- A write of VR_CMD[REINT], effective in HOLD or WORKSHOP (R411). -/
def execReint (e : At) (s : State) : Host.Outcome State Fault Refusal :=
  .next (s.logicEvent e fun l => if l.mode = .hold ∨ l.mode = .workshop then l.reintegrate else l)

end Sys2Proof.Machine
end

