-- ==== Sys2Proof/Machine/Faults.lean ====
section
/-!
DEFINITION. The fault-class bitmap (R551, R552).
-/

namespace Sys2Proof.Machine

/-- A condition of some axis. -/
def anyAxis (f : Axis → Bool) : Bool := f 0 || f 1 || f 2 || f 3

/-- The trio runs as a pair (R551, bit 0): TV_STAT[MODE] reads PAIR. -/
def Lane.trioReduced (l : Lane) : Bool := l.get R.TV_STAT_MODE == 2

/-- A proof is overdue (R305, R354, R356, R357): a switch counts from the cycle in which it was last swept. -/
def Lane.proofOverdue (l : Lane) : Bool :=
  l.box.overdue || l.flag R.BI_STAT_ROTSTOP || l.reh.proofStopped != 0 ||
  anyAxis fun n => (l.reh.swept[n]).any fun c => decide (2 ^ 22 ≤ l.mode_.cycle - c)

/-- A fault of R525 on an output. -/
def Lane.contactorBad (l : Lane) : Bool :=
  l.get R.SF_KOSTAT_OC != 0 || l.get R.SF_KOSTAT_SHORT != 0 || l.get R.SF_KOSTAT_WELD != 0 || l.get R.SF_KOSTAT_NOCLOSE != 0

/-- The faults of kind L that stand in registers now, by their bits (R551). -/
def Lane.standingL (l : Lane) : List Nat :=
  let axis (n : Axis) : List Nat :=
    (if l.inService n then [] else [32 + 8 * n.val]) ++ (if l.flag (R.LE_EVT_OSC2 n) then [36 + 8 * n.val] else [])
  (if l.trioReduced then [0] else []) ++
  (if l.flag R.WG_EVT_LLOST then [1] else []) ++
  (if l.flag R.VR_EVT_DUPID || l.flag R.VR_EVT_MISWIRE || l.flag R.VR_EVT_PHYFAIL then [5] else []) ++
  (if l.flag R.GD_VMSTAT_CHFLT || l.flag R.GD_VMSTAT_STUCK then [10] else []) ++
  (if l.proofOverdue then [13] else []) ++
  (if l.flag R.BI_EVT_REFDIF then [14] else []) ++
  (if l.flag R.SF_EVT_DISC || l.get R.SF_OWN_DISCF != 0 then [15] else []) ++
  (if l.flag R.SF_EVT_LANEDIF then [16] else []) ++
  (if l.contactorBad then [17] else []) ++
  (if anyAxis fun n => l.flag (R.CT_EVT_WRFAIL n) then [20] else []) ++
  axis 0 ++ axis 1 ++ axis 2 ++ axis 3

/-- Bit `c` of axis `n` reads `b`. -/
def axisBit (n : Axis) (c : Nat) (b : Bool) : List Nat := if b then [32 + 8 * n.val + c] else []

/-- A winding set is above TMAX + 10 °C (R295). -/
def Lane.windingHot (l : Lane) (n : Axis) : Bool :=
  decide ((l.get (R.BX_WMOD1_TMAX n) : Rat) + 10 ≤ l.box.tw[n])

/-- A brake's level is at WARN (R298). -/
def Lane.brakeHot (l : Lane) (n : Axis) : Bool :=
  l.get (R.BX_BRKLV_WARN n) != 0 && decide (((100 * l.get (R.BX_BRKLV_WARN n) : Nat) : Rat) ≤ l.box.bk[n])

/-- The cartridge of an axis is authenticated or accepted (R541). -/
def Lane.cartOk (l : Lane) (n : Axis) : Bool := l.get (R.CT_STAT_AUTH n) == 1 || l.get (R.CT_STAT_AUTH n) == 3

/-- The conditions of kind C that hold now, by their bits (R551). -/
def Lane.conditionsC (l : Lane) : List Nat :=
  let axis (n : Axis) : List Nat :=
    axisBit n 1 (l.flag (R.DC_STAT_TBLDEG n)) ++ axisBit n 2 (!l.fbValid n) ++ axisBit n 3 (l.flag (R.DC_STAT_SUBST n)) ++
    axisBit n 5 (l.windingHot n) ++ axisBit n 6 (l.brakeHot n) ++ axisBit n 7 (l.bookEnables n && !l.cartOk n)
  let bus (k : Nat) : Nat := l.get (R.CN_STAT_STATE k)
  let sealedDegr := l.dict.entries.any fun x => x.degr && (match l.sigDef x.handle with | some d => sealedPath d.source | none => false)
  (if l.flag R.VR_STAT_HEALED then [2] else []) ++
  (if l.flag R.VR_STAT_SPLIT then [3] else []) ++
  (if l.flag R.VR_STAT_SILENT || l.flag R.VR_STAT_RESYNC then [4] else []) ++
  (if l.timeMode == .holdover || l.timeMode == .far then [6] else []) ++
  (if l.flag (R.CN_STAT_ALONE 0) || l.flag (R.CN_STAT_ALONE 1) then [7] else []) ++
  (if 2 ≤ bus 0 || 2 ≤ bus 1 then [8] else []) ++
  (if sealedDegr || l.dict.lostNow then [9] else []) ++
  (if l.flag R.PW_SUPSTAT_VINRES then [11] else []) ++
  (if l.flag R.PW_SUPSTAT_TWARN then [12] else []) ++
  (if l.flag R.WG_STAT_TSLEW then [18] else []) ++
  axis 0 ++ axis 1 ++ axis 2 ++ axis 3

/-- A word with the listed bits. -/
def bitsOf (b : List Nat) : BitVec 64 := b.foldl (fun w k => w ||| BitVec.twoPow 64 k) 0

/-- A fault class of kind L stays set until the next start of day (R552). -/
def Lane.latchFault (l : Lane) (k : Nat) : Lane := l.onMode fun m => { m with latched := m.latched ||| BitVec.twoPow 64 k }

/-- The standing faults of kind L are latched. -/
def Lane.latchFaults (l : Lane) : Lane :=
  let b := bitsOf l.standingL
  l.onMode fun m => { m with latched := m.latched ||| b }

/-- In CURTAIN no HOLD axis is left in service in any LIVE lane: every switch is off, and the house log records the loss of
the hold force once (R563). -/
def Lane.watchHold (l : Lane) : Lane :=
  let holds := [(0 : Axis), 1, 2, 3].filter fun n => l.stopRole n == .hold
  let gone := l.mode == .curtain && !holds.isEmpty && holds.all fun n => l.setCount n == 0
  (l.when (gone && !l.mode_.holdGone) fun l => l.note .holdLost).onMode fun m => { m with holdGone := gone }

/-- The bitmap at a beat start; every change of it is logged (R552). -/
def Lane.sampleFaults (l : Lane) : Lane :=
  let l := l.latchFaults
  let w := l.mode_.latched ||| bitsOf l.conditionsC
  let l := l.when (w != l.mode_.faults) fun x => x.note (.faults l.mode_.faults w)
  l.onMode fun m => { m with faults := w }

end Sys2Proof.Machine
end

