-- ==== Sys2Proof/Machine/Callboard.lean ====
section
/-!
DEFINITION. The callboard (R498 to R514): sampling, presentation, claims, completion, the mirror set's part of it.
-/

namespace Sys2Proof.Machine

/-- Source `k` is pending. -/
def Lane.pends (l : Lane) (k : Nat) : Bool := (l.word (R.CB_PEND (k / 32 % 16))).toNat.testBit (k % 32)

/-- Sets or clears the pending bit of source `k`; source 0 does not exist (R498, R513). -/
def Lane.setPend (l : Lane) (k : Nat) (b : Bool) : Lane :=
  if k = 0 then l else l.putBit (R.CB_PEND_PEND (k / 32 % 16)) (k % 32) b

/-- Source `k` is active for some seat. -/
def Lane.callActive (l : Lane) (k : Nat) : Bool := l.call.active.any fun x => x.1 == k

/-- Source `k` is enabled for seat `s`. -/
def Lane.callEnabled (l : Lane) (s : Seat) (k : Nat) : Bool := (l.word (R.CB_EN s (k / 32))).toNat.testBit (k % 32)

/-! ### Presentation (R502) -/

/-- The priorities of the sources active for a seat. -/
def Lane.activeFor (l : Lane) (s : Seat) : List Nat :=
  (l.call.active.filter fun x => x.2 == s).map fun x => l.get (R.CB_SRC_PRIO x.1)

/-- The effective threshold of a seat. -/
def Lane.effective (l : Lane) (s : Seat) : Nat := (l.activeFor s).foldl max (l.get (R.CB_THR_THR s))

/-- Source `k` is a candidate for seat `s`. -/
def Lane.candidate (l : Lane) (s : Seat) (k : Nat) : Bool :=
  l.pends k && !l.callActive k && l.callEnabled s k && decide (l.effective s < l.get (R.CB_SRC_PRIO k))

/-- The source presented to a seat: highest priority, then lowest number. -/
def Lane.presentedTo (l : Lane) (s : Seat) : Option Nat :=
  ((List.range 512).filter (l.candidate s)).foldl
    (fun best k =>
      match best with
      | none => some k
      | some b => if l.get (R.CB_SRC_PRIO b) < l.get (R.CB_SRC_PRIO k) then some k else some b) none

/-- CB_PRES of a seat; a new presentation is an event for the trio (R234). -/
def Lane.presentOne (l : Lane) (s : Seat) : Lane :=
  let p := l.presentedTo s
  let n := min 15 (l.activeFor s).length
  let eff := l.effective s
  let shown := l.flag (R.CB_PRES_VALID s) && p == some (l.get (R.CB_PRES_SRC s))
  let l := l.when (p.isSome && !shown) fun l => l.trioEvent
  (((l.putFlag (R.CB_PRES_VALID s) p.isSome).put (R.CB_PRES_SRC s) (p.getD 0)).put (R.CB_PRES_ACTN s) n).put (R.CB_PRES_EFF s) eff

/-- Every presentation, the count of pending sources and ATN_x (R502, R503). -/
def Lane.presentAll (l : Lane) : Lane :=
  let l := (List.finRange 8).foldl (fun l s => l.presentOne s) l
  let l := l.put R.CB_STAT_NPEND ((List.range 512).filter l.pends).length
  l.atn

/-! ### Sampling (R499 to R501) -/

/-- The latest summary this lane holds of a lane, its own included. -/
def Lane.summaryOf (l : Lane) (id : LaneId) : Option Summary :=
  if id = l.id then l.wing.own
  else if peerLane l.id 0 = id then l.wing.last[(0 : Peer)] else l.wing.last[(1 : Peer)]

/-- A lane is LIVE in this lane's view. -/
def Lane.liveIn (l : Lane) (id : LaneId) : Bool :=
  if id = l.id then l.lstate == .live else if peerLane l.id 0 = id then l.peerLive 0 else l.peerLive 1

/-- A condition on the summary of the lane a code names, or of any LIVE lane for the code ANY (R500). -/
def Lane.onSummaries (l : Lane) (code : Nat) (f : Summary → Bool) : Bool :=
  let of (id : LaneId) : Bool := match l.summaryOf id with | some s => f s | none => false
  match code with
  | 0 => of .A
  | 1 => of .B
  | 2 => of .C
  | _ => (l.liveIn .A && of .A) || (l.liveIn .B && of .B) || (l.liveIn .C && of .C)

/-- Byte 10 of an axis block (R259). -/
def axisFlags (b : AxisBlock) : Nat :=
  b.valid.toNat * 8 + b.uncert.toNat * 4 + b.estim.toNat * 2 + b.still.toNat
/-- See `axisFlags`: byte 11. -/
def axisStates (b : AxisBlock) : Nat :=
  b.inService.toNat * 128 + b.recatch.toNat * 64 + b.propValid.toNat * 32 + b.osc.toNat * 16 + b.plaus.toNat * 8 +
  b.reglock.toNat * 4 + b.outerPresent.toNat * 2

/-- The input of source `k` (R499, R500). -/
def Lane.callInput (l : Lane) (k : Nat) : Bool :=
  if k < 32 then
    (if k = 11 then l.onSummaries 3 fun s => [38, 46, 54, 62].any fun b => s.faults.getLsbD b
     else if k = 12 then l.onSummaries 3 fun s => [37, 45, 53, 61].any fun b => s.faults.getLsbD b
     else if k = 10 then l.trust.state != l.call.bookState
     else decide (k < 10) && l.call.events.contains k)
  else
    let sel := l.get (R.CB_SRC_SEL k)
    match l.get (R.CB_SRC_KIND k) with
    | 1 => l.onSummaries (l.get (R.CB_SRC_LANE k)) fun s => s.faults.getLsbD (sel % 64)
    | 2 => l.onSummaries (l.get (R.CB_SRC_LANE k)) fun s =>
      let b := s.axes[(⟨sel / 16 % 4, by omega⟩ : Axis)]
      (if sel / 8 % 2 = 0 then axisFlags b else axisStates b).testBit (sel % 8)
    | 3 =>
      match l.entry sel with
      | some x => !l.stale x && !x.implaus && (x.value.getD 0 0) != 0
      | none => false
    | _ => false

/-- A source fires by its sensing (R501): 0 LEVEL, 1 RISING, 2 FALLING, 3 BOTH. -/
def senseFires (sense : Nat) (was now : Bool) : Bool :=
  match sense with
  | 0 => now
  | 1 => now && !was
  | 2 => was && !now
  | _ => was != now

/-- The lead samples every input and recomputes the presentations; every lane's events of the beat are over (R501). -/
def Lane.sampleCall (l : Lane) : Lane :=
  if l.flag R.CB_STAT_LEAD then
    let ins := (List.range 512).filter l.callInput
    let was (k : Nat) : Bool := l.call.sampled.contains k
    let fires (k : Nat) : Bool := senseFires (if k < 32 then 1 else l.get (R.CB_SRC_SENSE k)) (was k) (ins.contains k)
    let l := ((List.range 512).filter fires).foldl (fun l k => l.setPend k true) l
    (l.onCall fun c => { c with events := [], sampled := ins, bookState := l.trust.state }).presentAll
  else l.onCall fun c => { c with events := [], bookState := l.trust.state }

/-! ### Claim and completion (R504 to R508) -/

/-- The callboard takes no claims now: the token guard or a drill cycle (R280, R510). -/
def Lane.callGuarded (l : Lane) : Bool := l.flag R.WG_STAT_GUARD || l.wing.drilling

/-- The word a claim returns. -/
def Lane.claimWord (l : Lane) (valid notLead : Bool) (src : Nat) : Word :=
  BitVec.ofNat 32 (valid.toNat * 2 ^ 31 + notLead.toNat * 2 ^ 30 + l.get R.WG_STAT_LEADL * 2 ^ 28 + src)

/-- A claim for seat `s` (R504); in GHOST LIGHT it completes its source at once (R508). CB_CLAIMs keeps what the read returned. -/
def Lane.claimFor (l : Lane) (s : Seat) : Lane :=
  if !l.flag R.CB_STAT_LEAD then (l.setWord (R.CB_CLAIM s) (l.claimWord false true 0)).raise R.CB_EVT_NOTLEAD
  else
    match l.presentedTo s with
    | none => l.setWord (R.CB_CLAIM s) (l.claimWord false false 0)
    | some k =>
      let l := (l.setPend k false).bump R.CB_CNT_CLAIMS
      let l := l.when (l.mode != .ghost) fun l =>
        (l.onCall fun c => { c with active := c.active ++ [(k, s)] }).putBit (R.CB_ACT_ACT (k / 32 % 16)) (k % 32) true
      (l.presentAll).setWord (R.CB_CLAIM s) (l.claimWord true false k)

/-- Source `k` is active for seat `s`. -/
def Lane.heldBy (l : Lane) (s : Seat) (k : Nat) : Bool := l.call.active.any fun x => x.1 == k && x.2 == s

/-- The active bit of a source is cleared. -/
def Lane.deactivate (l : Lane) (k : Nat) : Lane :=
  (l.onCall fun c => { c with active := c.active.filter fun x => x.1 != k }).putBit (R.CB_ACT_ACT (k / 32 % 16)) (k % 32) false

/-- A completion: every lane applies it; a source not active for the seat is counted (R505, R506). -/
def Lane.completeFor (l : Lane) (s : Seat) (k : Nat) : Lane :=
  if l.heldBy s k then (l.deactivate k).presentAll
  else (l.raise R.CB_EVT_BADCOMPL).bump R.CB_CNT_BADCOMPL

/-- The number of the present beat since time 0. -/
def Lane.beatIndex (l : Lane) : Nat := l.ltime / ltUs 50

/-- Records a CB write for R510. -/
def Lane.keepCallWrite (l : Lane) (a : Nat) (w : Word) : Lane :=
  let b := l.beatIndex
  l.onCall fun c => { c with writes := (c.writes.filter fun x => decide (b ≤ x.2.2 + 2 * l.beats)) ++ [(a, w, b)] }

/-! ### The mirror set (R279, R510) -/

/-- The callboard as the mirror set carries it. -/
def Lane.callMirror (l : Lane) : CallMirror where
  pend := (List.range 16).map fun w => l.word (R.CB_PEND w)
  active := l.call.active
  sampled := l.call.sampled
  enabled := (List.range 128).map fun i => l.word (R.CB_EN (i / 16) (i % 16))
  prio := (List.range 512).map fun k => l.get (R.CB_SRC_PRIO k)
  thr := (List.range 8).map fun s => l.get (R.CB_THR_THR s)

/-- A CB write applied again after a mirror set (R510). -/
def Lane.repeatCallWrite (l : Lane) (a : Nat) (w : Word) : Lane :=
  match (List.finRange 8).find? fun s => R.CB_COMPL s.val == a with
  | some s => if l.heldBy s (w.toNat % 512) then l.deactivate (w.toNat % 512) else l
  | none => l.writeWord a w

/-- A standby lane takes the callboard of a mirror set, then repeats the CB writes that took effect after beat 0 of the
mirrored cycle, which is the cycle before the present one (R279, R510). -/
def Lane.applyCallMirror (l : Lane) (m : CallMirror) : Lane :=
  let l := (List.range 16).foldl (fun l w => (l.setWord (R.CB_PEND w) (m.pend.getD w 0)).setWord (R.CB_ACT w) 0) l
  let l := m.active.foldl (fun l x => l.putBit (R.CB_ACT_ACT (x.1 / 32 % 16)) (x.1 % 32) true) l
  let l := (List.range 128).foldl (fun l i => l.setWord (R.CB_EN (i / 16) (i % 16)) (m.enabled.getD i 0)) l
  let l := (List.range 512).foldl (fun l k => l.put (R.CB_SRC_PRIO k) (m.prio.getD k 0)) l
  let l := (List.range 8).foldl (fun l s => l.put (R.CB_THR_THR s) (m.thr.getD s 15)) l
  let l := l.onCall fun c => { c with active := m.active, sampled := m.sampled }
  let from_ := (l.mode_.cycle - 1) * l.beats
  let l := l.call.writes.foldl (fun l x => if from_ < x.2.2 then l.repeatCallWrite x.1 x.2.1 else l) l
  l.presentAll

/-- A take-over after the guard (R511): source 9 fires and the sampling goes on from the mirrored samples. -/
def Lane.takeOverCall (l : Lane) : Lane := (l.event 9).raise R.CB_EVT_TAKEOVER

/-! ### Commands -/

/-- A seat claims (R504): a READ_REG that covers CB_CLAIMs. During the guard and a drill it changes nothing. -/
def execClaim (e : At) (s : Seat) (st : State) : Host.Outcome State Fault Refusal :=
  .next (st.logicEvent e fun l => if l.callGuarded then l else l.claimFor s)

/-- The write of a source's number to CB_COMPLs takes effect (R505). -/
def execCompletion (e : At) (s : Seat) (src : Fin 512) (st : State) : Host.Outcome State Fault Refusal :=
  .next (st.logicEvent e fun l => (l.completeFor s src).keepCallWrite (R.CB_COMPL s) (BitVec.ofNat 32 src))

end Sys2Proof.Machine
end

