-- ==== Sys2Proof/Machine/Can.lean ====
section
/-!
DEFINITION. The CAN FD controllers (R428 to R444): slots, reception, error confinement, bus-off.
-/

namespace Sys2Proof.Machine

/-- Controller `k` is in use: switched on, and its block usable (R362, R443). -/
def Lane.canOn (l : Lane) (k : Can) : Bool := l.flag (R.CN_CFG_ON k) && !l.bit R.BI_UNUS_CAN k.val

/-- Bus-off or recovering: the controller sends and receives nothing (R440, R441). -/
def Lane.canOff (l : Lane) (k : Can) : Bool := decide (2 ≤ l.get (R.CN_STAT_STATE k))

/-- The state follows the error counters (R440; ISO 11898-1, assumption 18). -/
def Lane.confine (l : Lane) (k : Can) : Lane :=
  let was := l.get (R.CN_STAT_STATE k)
  if 2 ≤ was then l
  else if 255 < l.get (R.CN_ERR_TEC k) then
    let l := ((l.put (R.CN_STAT_STATE k) 2).raise (R.CN_EVT_BUSOFF k)).bump (R.CN_BOREC_BOCNT k)
    (l.onCan k fun c => { c with offSince := some l.now }).note (.busOff k)
  else if 127 < l.get (R.CN_ERR_TEC k) ∨ 127 < l.get (R.CN_ERR_REC k) then
    (l.when (was == 0) fun l => l.raise (R.CN_EVT_PASSIVE k)).put (R.CN_STAT_STATE k) 1
  else l.put (R.CN_STAT_STATE k) 0

/-! ### Reception (R433, R434) -/

/-- Buffer `b` takes a frame: it is a receive buffer, and identifier, IDE and FDF match under its mask (R433). -/
def Lane.canMatch (l : Lane) (k : Can) (f : CanFrame) (b : Fin 64) : Bool :=
  decide (2 ≤ l.get (R.CN_BCTL_OWN k b)) &&
  (!l.flag (R.CN_BMSK_IDEM k b) || l.flag (R.CN_BCTL_IDE k b) == f.ide) &&
  (!l.flag (R.CN_BMSK_FDFM k b) || l.flag (R.CN_BCTL_FDF k b) == f.fdf) &&
  (BitVec.ofNat 29 (l.get (R.CN_BID_ID k b)) ^^^ f.id) &&& BitVec.ofNat 29 (l.get (R.CN_BMSK_MASK k b)) == 0

/-- The frame is stored in buffer `b` (R434): SSEQ moves on by 2 over the store. -/
def Lane.canStore (l : Lane) (k : Can) (f : CanFrame) (b : Fin 64) : Lane :=
  let l := l.when (l.flag (R.CN_BCTL_FRESH k b)) fun l => (l.raise (R.CN_BCTL_REPL k b)).raise (R.CN_EVT_RXREPL k)
  let l := l.put (R.CN_BCTL_SSEQ k b) (l.get (R.CN_BCTL_SSEQ k b) + 2)
  let l := l.put (R.CN_BID_ID k b) f.id.toNat
  let l := ((l.putFlag (R.CN_BCTL_FDF k b) f.fdf).putFlag (R.CN_BCTL_BRS k b) f.brs).putFlag (R.CN_BCTL_IDE k b) f.ide
  let l := (l.putFlag (R.CN_BCTL_ESI k b) f.esi).put (R.CN_BCTL_DLC k b) f.dlc
  let l := l.put (R.CN_BSTM_NS k b) (l.ltimeNs % 1000000000)
  let l := (List.range 16).foldl (fun l w => l.setWord (R.CN_BDAT k b w) (canWord f.data w)) l
  let l := l.raise (R.CN_BCTL_FRESH k b)
  l.when (l.get (R.CN_BCTL_OWN k b) == 2) fun l => l.onCan k fun c => { c with got := c.got ++ [b.val] }

/-- A frame without error lowers REC (assumption 18): above 127 to a value from 119 to 127 that the standard leaves open. -/
def Lane.goodFrame (l : Lane) (k : Can) : Lane :=
  let r := l.get (R.CN_ERR_REC k)
  if 127 < r then ((l.put (R.CN_ERR_REC k) (119 + l.choice % 9)).nextChoice).confine k
  else (l.put (R.CN_ERR_REC k) (r - 1)).confine k

/-- An error in a frame being received raises REC by 1, or by 8 where the standard says so (R440, assumption 18). -/
def Lane.receiveError (l : Lane) (k : Can) (code amount : Nat) : Lane :=
  ((l.put (R.CN_STAT_LERR k) code).put (R.CN_ERR_REC k) (min 65535 (l.get (R.CN_ERR_REC k) + amount))).confine k

/-- A recessive res bit (R429): with EXCINT 1 the controller integrates to the bus, with 0 it signals a form error. -/
def Lane.protocolException (l : Lane) (k : Can) : Lane :=
  if l.flag (R.CN_CFG_EXCINT k) then l.drop (R.CN_STAT_IDLE k) else l.receiveError k 3 1

/-- A frame is received without error (R433): remote frames are discarded and counted as an event (R429). Without FD the
FDF bit of an FD frame is a recessive res bit. -/
def Lane.canReceive (l : Lane) (k : Can) (f : CanFrame) : Lane :=
  if !l.canOn k ∨ l.canOff k then l
  else if f.fdf ∧ !l.flag (R.CN_CFG_FD k) then l.protocolException k
  else
    let l := l.goodFrame k
    if f.remote then l.raise (R.CN_EVT_RXREM k)
    else
      match (List.finRange 64).find? (l.canMatch k f) with
      | some b => l.canStore k f b
      | none => l.bump (R.CN_CNT1_NOMATCH k)

/-! ### Slots (R435 to R439) -/

/-- A slot is missed (R437). -/
def Lane.canMissed (l : Lane) (k : Can) (b : Fin 64) : Lane :=
  (((l.raise (R.CN_EVT_MISSED k)).bump (R.CN_CNT1_MISSED k)).put (R.CN_BCTL_TXRES k b) 5).drop (R.CN_BCTL_READY k b)

/-- Buffer BUF of an entry as a frame: FD frames need CN_CFG[FD], bit rate switching CN_CFG[RATESW]; ESI is the controller's
error state (R429, R443). -/
def Lane.canFrameOf (l : Lane) (k : Can) (b : Fin 64) : CanFrame :=
  let dlc : Fin 16 := ⟨l.get (R.CN_BCTL_DLC k b) % 16, by omega⟩
  let len : Nat := match dlc.val with | 9 => 12 | 10 => 16 | 11 => 20 | 12 => 24 | 13 => 32 | 14 => 48 | 15 => 64 | n => n
  let fd := l.flag (R.CN_BCTL_FDF k b) && l.flag (R.CN_CFG_FD k)
  { id := BitVec.ofNat 29 (l.get (R.CN_BID_ID k b)), ide := l.flag (R.CN_BCTL_IDE k b), fdf := fd
    brs := fd && l.flag (R.CN_BCTL_BRS k b) && l.flag (R.CN_CFG_RATESW k), esi := fd && l.get (R.CN_STAT_STATE k) == 1
    remote := false, dlc := dlc, data := (l.canBytes k b).take (if fd then len else min 8 len) }

/-- The controller needs an address that it has not claimed (R431). -/
def Lane.canUnclaimed (l : Lane) (k : Can) : Bool :=
  (match l.trust.book with | some b => b.claims[k].isSome | none => false) && !(l.can[k]).claimed

/-- An entry fires in this cycle (R435). -/
def Lane.canFires (l : Lane) (k : Can) (i : Fin 64) : Bool :=
  l.get (R.VR_CYCNUM_NUM) % 2 ^ l.get (R.CN_SCH_REP k i) == l.get (R.CN_SCH_BASE k i)

/-- The entry has fired in this cycle already. -/
def Lane.canFired (l : Lane) (k : Can) (i : Fin 64) : Bool :=
  (l.can[k]).firedIn == l.get R.VR_CYCNUM_NUM && (l.can[k]).fired.contains i

/-- Notes that an entry fires. -/
def Lane.noteFired (l : Lane) (k : Can) (i : Fin 64) : Lane :=
  let c := l.get R.VR_CYCNUM_NUM
  l.onCan k fun s => { s with fired := if s.firedIn = c then i :: s.fired else [i], firedIn := c }

/-- A slot opens at START, once in a cycle (R435 to R437): its buffer is latched. A QUEUE slot without a ready frame stays
empty. -/
def Lane.canOpen (l : Lane) (k : Can) (i : Fin 64) : Lane :=
  let b := l.bufIdx (R.CN_SCH_BUF k i)
  let kind := l.get (R.CN_SCH_KIND k i)
  let late : Bool := decide ((4000 * l.get (R.CN_SCH_START k i) : Int) ≤ l.sinceCue)
  let due := late && l.canFires k i && !l.canFired k i
  let l := l.when due fun l => l.noteFired k i
  if !l.canOn k ∨ !due ∨ (kind ≠ 1 ∧ kind ≠ 2) then l
  else if kind = 2 ∧ !l.flag (R.CN_BCTL_READY k b) then l
  else if l.canOff k ∨ (kind = 1 ∧ l.canUnclaimed k) ∨ l.get (R.CN_CFG_OPMODE k) = 2 then l.canMissed k b
  else
    let f := l.canFrameOf k b
    ((l.raise (R.CN_STAT_SLOT k)).drop (R.CN_STAT_IDLE k)).onCan k fun c => { c with slot := some (i, f) }

/-- An acknowledged slot ends the run of unacknowledged ones (R437, R439). -/
def Lane.canAcked (l : Lane) (k : Can) (b : Fin 64) : Lane :=
  let l := (l.bump (R.CN_CNT0_SENT k)).put (R.CN_CNT0_RUN k) 0
  let l := l.when (l.flag (R.CN_STAT_ALONE k)) fun l => (l.drop (R.CN_STAT_ALONE k)).raise (R.CN_EVT_ALONECLR k)
  let l := l.put (R.CN_BCTL_TXRES k b) 1
  (l.put (R.CN_ERR_TEC k) (l.get (R.CN_ERR_TEC k) - 1)).confine k

/-- An acknowledgement error: sixteen in succession set ALONE; a passive transmitter keeps its TEC (R437, R439, R440). -/
def Lane.canUnacked (l : Lane) (k : Can) (b : Fin 64) : Lane :=
  let passive := l.get (R.CN_STAT_STATE k) == 1
  let l := (((l.bump (R.CN_CNT0_UNACK k)).bump (R.CN_CNT0_RUN k)).raise (R.CN_EVT_UNACK k)).put (R.CN_STAT_LERR k) 2
  let l := l.when (decide (16 ≤ l.get (R.CN_CNT0_RUN k)) && !l.flag (R.CN_STAT_ALONE k)) fun l =>
    (l.raise (R.CN_STAT_ALONE k)).raise (R.CN_EVT_ALONE k)
  let l := l.put (R.CN_BCTL_TXRES k b) 2
  (l.when (!passive) fun l => l.put (R.CN_ERR_TEC k) (l.get (R.CN_ERR_TEC k) + 8)).confine k

/-- How a slot ended (R437). -/
def Lane.canOutcome (l : Lane) (k : Can) (b : Fin 64) (r : SlotEnd) : Lane :=
  match r with
  | .acked => l.canAcked k b
  | .ackError => l.canUnacked k b
  | .error c =>
    let l := ((l.bump (R.CN_CNT1_TXERR k)).put (R.CN_STAT_LERR k) c).put (R.CN_BCTL_TXRES k b) 3
    (l.put (R.CN_ERR_TEC k) (l.get (R.CN_ERR_TEC k) + 8)).confine k
  | .arbLost => (l.bump (R.CN_CNT1_ARBLOST k)).put (R.CN_BCTL_TXRES k b) 4
  | .notBegun => l.canMissed k b

/-- The end of the open slot: the frame was on the bus unless it was not begun; READY is cleared (R436, R437). -/
def Lane.canClose (l : Lane) (k : Can) (r : SlotEnd) : Lane :=
  match (l.can[k]).slot with
  | none => l
  | some (i, f) =>
    let b := l.bufIdx (R.CN_SCH_BUF k i)
    let waits : Int := 4000 * (l.get (R.CN_SCH_START k i) + l.get (R.CN_SCHCFG_WIN k))
    if r = .notBegun ∧ 0 ≤ l.sinceCue ∧ l.sinceCue < waits ∧ l.canFired k i then l
    else
      let l := (l.onCan k fun c => { c with slot := none }).drop (R.CN_STAT_SLOT k)
      let l := l.when (r != .notBegun) fun l => l.send (.canFrame k f)
      ((l.canOutcome k b r).drop (R.CN_BCTL_READY k b)).raise (R.CN_STAT_IDLE k)

/-! ### Bus-off (R441), acknowledgement of a buffer, address claim -/

/-- CN_CMD[RECOVER] starts the recovery sequence in bus-off and is ignored otherwise. -/
def Lane.canRecover (l : Lane) (k : Can) : Lane :=
  if l.get (R.CN_STAT_STATE k) = 2 then l.put (R.CN_STAT_STATE k) 3 else l

/-- A write of FRESH 1 with SEEN: it clears FRESH only where SEEN is the present SSEQ (R434). -/
def Lane.ackBuffer (l : Lane) (k : Can) (b : Fin 64) (seen : Nat) : Lane :=
  if l.get (R.CN_BCTL_SSEQ k b) = seen then l.drop (R.CN_BCTL_FRESH k b) else l

/-- A frame arrives without error (R433). -/
def execCanFrameReceived (e : At) (k : Can) (f : CanFrame) (s : State) : Host.Outcome State Fault Refusal :=
  .next (s.logicEvent e fun l => l.canReceive k f)

/-- A schedule entry fires (R437). -/
def execCanSlot (e : At) (k : Can) (entry : Fin 64) (s : State) : Host.Outcome State Fault Refusal :=
  .next (s.logicEvent e fun l => l.canOpen k entry)

/-- A slot ends (R437); reply segments that wait take the buffers now free (R469). -/
def execCanSlotEnd (e : At) (k : Can) (r : SlotEnd) (s : State) : Host.Outcome State Fault Refusal :=
  .next (s.logicEvent e fun l => (List.finRange 8).foldl (fun l s => l.loadCan s) (l.canClose k r))

/-- After DELAY in bus-off the lane application writes RECOVER while BOCNT is below MAX (R441). -/
def execBusOffDelay (e : At) (k : Can) (s : State) : Host.Outcome State Fault Refusal :=
  .next (s.logicEvent e fun l =>
    match (l.can[k]).offSince with
    | some t =>
      if l.since t (ms (l.get (R.CN_BOREC_DELAY k))) ∧ l.get (R.CN_BOREC_BOCNT k) < l.get (R.CN_BOREC_MAX k) then l.canRecover k
      else l
    | none => l)

/-- CN_CMD[RECOVER] is written (R441). -/
def execRecover (e : At) (k : Can) (s : State) : Host.Outcome State Fault Refusal :=
  .next (s.logicEvent e fun l => l.canRecover k)

/-- 128 occurrences of 11 recessive bits have been seen (R441). -/
def execRecoveryDone (e : At) (k : Can) (s : State) : Host.Outcome State Fault Refusal :=
  .next (s.logicEvent e fun l =>
    if l.get (R.CN_STAT_STATE k) = 3 then
      let l := ((l.put (R.CN_STAT_STATE k) 0).put (R.CN_ERR_TEC k) 0).put (R.CN_ERR_REC k) 0
      (l.raise (R.CN_EVT_RECOVERED k)).onCan k fun c => { c with offSince := none }
    else l)

/-- A stored frame is acknowledged (R434). -/
def execFreshAck (e : At) (k : Can) (b : Fin 64) (seen : BitVec 4) (s : State) : Host.Outcome State Fault Refusal :=
  .next (s.logicEvent e fun l => l.ackBuffer k b seen.toNat)

/-- The address claim (R431): the claim frame in buffer `b` is made ready for its QUEUE slot, or the claim is concluded. -/
def execAddressClaim (e : At) (k : Can) (b : Fin 64) (won : Option Bool) (s : State) : Host.Outcome State Fault Refusal :=
  .next (s.logicEvent e fun l =>
    match won with
    | none => if l.get (R.CN_BCTL_OWN k b) = 1 then l.raise (R.CN_BCTL_READY k b) else l
    | some w => l.onCan k fun c => { c with claimed := w })

/-- An error in a frame being received, with the last-error code of CN_STAT; `eight`: ISO 11898-1 raises REC by 8 (R440). No
code: a recessive res bit (R429). -/
def execCanReceiveError (e : At) (k : Can) (code : Option (Fin 8)) (eight : Bool) (s : State) : Host.Outcome State Fault Refusal :=
  .next (s.logicEvent e fun l =>
    if !l.canOn k ∨ l.canOff k then l
    else
      match code with
      | some c => l.receiveError k c (if eight then 8 else 1)
      | none => l.protocolException k)

end Sys2Proof.Machine
end

