-- ==== Sys2Proof/Machine/Ranges.lean ====
section
/-!
DEFINITION. Which words a register accepts (R11, R69, R104, R154, R193, R219, R290, R314, R367, R411, R427, R444, R462,
R497, R514, R529, R550, R576): stated ranges, reserved codes and the orderings stated in a Meaning.
-/

namespace Sys2Proof.Machine

/-- The value of bits `[lo + width - 1 : lo]` of a word. -/
def bitsAt (w : Word) (lo width : Nat) : Nat := (w >>> lo).toNat % 2 ^ width

/-- A field's value lies in its stated range; what cannot be written is not judged. -/
def FieldDesc.inRange (f : FieldDesc) (w : Word) : Bool :=
  f.acc == .ro || f.acc == .w1c || decide (f.min ≤ bitsAt w f.lo f.width ∧ bitsAt w f.lo f.width ≤ f.max)

/-- A power of two from 2^8 to 2^24 (R170). -/
def isCpr (v : Nat) : Bool := (List.range 17).any fun k => v == 2 ^ (k + 8)

/-- The axis whose register of a group stands at `a`. -/
def axisAt (r : Nat → Nat) (a : Nat) : Option Axis := (List.finRange 4).find? fun n => r n.val == a

/-- The orderings and reserved codes that the Meaning columns state beyond the ranges of the fields. DESIGN CHOICE
(assumption 89): KIND 0b111 in CB_SRC32 to CB_SRC511, which its Meaning calls fixed and not reserved, counts as out of
range like the reserved codes 0b100 to 0b110 (R576). -/
def Lane.ordered (l : Lane) (a : Nat) (w : Word) : Bool :=
  let onAxis (r : Nat → Nat) (f : Axis → Bool) : Bool := match axisAt r a with | some n => f n | none => true
  let onBus (r : Nat → Nat) (f : Bool) : Bool := if a = r 0 ∨ a = r 1 then f else true
  (a != R.PW_TLIM || decide (bitsAt w 0 16 ≤ bitsAt w 16 16)) &&
  onAxis R.DC_CPR (fun _ => isCpr w.toNat) &&
  onAxis R.FB_CPR (fun _ => isCpr w.toNat) &&
  onAxis R.FB_IDXPOS (fun n => decide (w.toNat < l.get (R.FB_CPR_CPR n))) &&
  onAxis R.GD_BSTCFG (fun _ => decide (bitsAt w 25 7 < bitsAt w 0 16)) &&
  onAxis R.FB_SER0 (fun _ => decide (bitsAt w 0 2 ≤ bitsAt w 2 2)) &&
  onAxis R.BX_WMOD1 (fun _ => decide (bitsAt w 0 8 < bitsAt w 8 8 ∧ bitsAt w 8 8 < bitsAt w 16 8)) &&
  onAxis R.LE_KF (fun n => l.loopRole n != .force || decide (0 < bitsAt w 0 16)) &&
  onBus R.CN_NOMBT (decide (bitsAt w 7 8 ≤ bitsAt w 15 8)) &&
  onBus R.CN_DATBT (decide (bitsAt w 7 8 ≤ bitsAt w 15 8)) &&
  (!((List.range 128).any fun i => R.CN_SCH (i / 64) (i % 64) == a) || decide (bitsAt w 3 6 < 2 ^ bitsAt w 9 3)) &&
  (!(decide (R.CB_SRC 32 ≤ a ∧ a ≤ R.CB_SRC 511)) || decide (bitsAt w 29 3 ≤ 3))

/-- A word that a register accepts; the fixed callboard sources accept any, since only their PRIO is writable (R513). -/
def Lane.rangeOk (l : Lane) (a : Nat) (w : Word) : Bool :=
  match regAt a with
  | none => true
  | some d => decide (R.CB_SRC 0 ≤ a ∧ a ≤ R.CB_SRC 31) || (d.fields.all (fun f => f.inRange w) && l.ordered a w)

/-- A write would change an RWL field (R11). DESIGN CHOICE (assumption 89): a write whose RWL fields equal the values that
the register holds changes none of them, and R11 refuses it by its first sentence and not by its last; it is accepted. -/
def Lane.changesLocked (l : Lane) (a : Nat) (w : Word) : Bool :=
  match regAt a with
  | none => false
  | some d => !(decide (R.CB_SRC 0 ≤ a ∧ a ≤ R.CB_SRC 31)) &&
    d.fields.any fun f => f.acc == .rwl && bitsAt w f.lo f.width != bitsAt (l.word a) f.lo f.width

end Sys2Proof.Machine
end

