-- ==== Sys2Proof/Machine/BookCheck.lean ====
section
/-!
DEFINITION. The checks of a prompt book (R318 to R322, R328 to R334, R337, R578) and its register image.
-/

namespace Sys2Proof.Machine

/-! ### The check value (R337) -/

/-- The bytes of a register image (R329). -/
def imageBytes (es : List RegEntry) : List Byte :=
  es.flatMap fun e => beBytes 3 e.addr ++ [e.lanes.setWidth 8] ++ beBytes 4 e.value.toNat

/-- The stop section's 112 bytes (R578). -/
def stopBytes (s : StopSection) : List Byte :=
  let pad (n : Nat) (b : List Byte) : List Byte := b ++ List.replicate (n - b.length) 0
  s.roles.toList.flatMap (beBytes 1) ++ beBytes 4 s.speedHandle ++ beBytes 4 s.threshold ++ beBytes 4 s.scale ++
  beBytes 4 s.maxSpeed ++ s.path.toList.flatMap (beBytes 4) ++ s.hold.toList.flatMap (beBytes 2) ++
  beBytes 1 s.points.length ++ [0, 0, 0] ++ pad 64 (s.points.flatMap fun p => beBytes 2 p.1 ++ beBytes 2 p.2)

/-- The check value of a book (R337); 0 without a SAFETY section (R335). -/
def checkValue (b : Book) : Word :=
  match b.safety with
  | some s => crc32 (stopBytes s.stop ++ imageBytes s.image)
  | none => 0

/-! ### The register image in the lane (R329) -/

/-- The keeper writes a register image: the entries for this lane, whole, whatever the lock. -/
def Lane.writeImage (l : Lane) (es : List RegEntry) : Lane :=
  es.foldl (fun l e => if e.lanes.getLsbD (laneNum l.id) then l.writeWord e.addr e.value else l) l

/-- The seat table of the MACHINE section in the HS block (R463). -/
def Lane.writeSeats (l : Lane) (m : MachineSection) : Lane :=
  let x := laneNum l.id
  let l := (List.finRange 8).foldl (fun l s =>
    match m.seats[s] with
    | none => (l.setWord (R.HS_SCFG s.val) 0).setWord (R.HS_SCAN s.val) 0
    | some r =>
      let l := ((l.raise (R.HS_SCFG_DEF s.val)).put (R.HS_SCFG_RANK s.val) r.rank).put (R.HS_SCFG_MAXCLS s.val) r.maxClass
      let l := l.put (R.HS_SCFG_NODE s.val) (r.node.toList.getD x 0)
      let l := (l.setWord (R.HS_SKEYLO s.val) (r.key.setWidth 32)).setWord (R.HS_SKEYHI s.val) ((r.key >>> 32).setWidth 32)
      match r.can.toList.getD x none with
      | none => l.setWord (R.HS_SCAN s.val) 0
      | some (c, rx, tx) =>
        (((l.raise (R.HS_SCAN_EN s.val)).put (R.HS_SCAN_CTRL s.val) c).put (R.HS_SCAN_RXBUF s.val) rx).put (R.HS_SCAN_TXBUF s.val) tx) l
  let l := (l.putFlag R.HS_SPOTCFG_DEFAULT m.defaultHold).put R.HS_SPOTCFG_LEASE m.lease
  match m.ports.toList.getD x none with
  | some s => (l.raise R.HS_PORT_EN).put R.HS_PORT_SEAT s
  | none => l.drop R.HS_PORT_EN

/-- The ring role of the time service by the ring description (R419): 0 MASTER, 1 FOLLOWER. -/
def Lane.bookRole (l : Lane) (b : Book) : Option Nat :=
  ((b.cues.bind fun c => c.toList.getD (laneNum l.id) none)).map fun r =>
    if r.ring.timeMaster = l.get R.VR_CFG_NODE then 0 else 1

/-- The registers as a book leaves them. -/
def Lane.writeBook (l : Lane) (b : Book) : Lane :=
  let l := l.writeImage (bookImages b)
  let l := match b.tables with
    | some t => (List.finRange 4).foldl (fun (l : Lane) n => l.writeTables n t[n]) l
    | none => l
  let l := match b.machine with
    | some m => ((l.writeSeats m).put R.VR_CYC_LEN (m.cycle / 50)).putFlag R.LC_STATE_CABS m.laneCAbsent
    | none => l
  match l.bookRole b with | some r => l.put R.TM_CFG_ROLE r | none => l

/-- The registers that a book names return to their Reset values before another book is written (R329). -/
def Lane.clearBook (l : Lane) (b : Book) : Lane :=
  (bookImages b).foldl (fun l e =>
    if e.lanes.getLsbD (laneNum l.id) then l.writeWord e.addr (resetWord l.id e.addr) else l) l

/-! ### Checks (R330) -/

/-- A refusal: code, section type, offset. -/
abbrev BookFault := Nat × Nat × Nat

/-- A failed check reported at a place the spec does not lay out. -/
def faultAt (code rule item : Nat) : BookFault := (code, Config.bookFault rule item)

/-- The failure of the first of a list of items. -/
def firstBad (code rule : Nat) (bs : List Bool) : Option BookFault :=
  (bs.zipIdx.find? fun x => !x.1).map fun x => faultAt code rule x.2

/-- The failure of a condition. -/
def needs (ok : Bool) (f : BookFault) : Option BookFault := if ok then none else some f

/-- A safety field's register (R329). -/
def safetyAddr (a : Nat) : Bool :=
  [R.GD_OVA, R.GD_OVB, R.GD_OVH, R.GD_OVCFG, R.WG_CFG, R.WG_POSTOL, R.SF_CFG].contains a ||
  anyAxis (fun n => [R.GD_DT n, R.GD_VDS n, R.GD_BSTCFG n, R.DC_PEAK n, R.DC_TQLIM n, R.DC_LIMITS n, R.DC_REV n,
    R.LE_WMAX n].contains a) ||
  (List.range 8).any (fun k => R.SF_SICFG k == a) || (List.range 2).any (fun k => R.SF_GTCFG k == a) ||
  (List.range 4).any (fun k => R.SF_KOCFG k == a)

/-- The first entry of an image that fails, at its offset (R329, R335); `base` is the image's offset in its section. -/
def firstEntry (code section_ base : Nat) (ok : RegEntry → Bool) (es : List RegEntry) : Option BookFault :=
  (es.zipIdx.find? fun x => !ok x.1).map fun x => (code, section_, base + 8 * x.2)

/-- No earlier entry names the same address for a common lane. -/
def noRepeat : List RegEntry → List RegEntry → Bool
  | _, [] => true
  | seen, e :: r => !(seen.any fun x => x.addr == e.addr && x.lanes &&& e.lanes != 0) && noRepeat (e :: seen) r

/-- Schema (0x06). -/
def checkSchema (b : Book) : Option BookFault :=
  let assigned (e : RegEntry) : Bool := (regAt e.addr).isSome
  let regs := b.registers.getD []
  let can := b.canSched.getD []
  let safe := (b.safety.map (·.image)).getD []
  needs b.machine.isSome (6, 1, 0) <|> needs b.registers.isSome (6, 2, 0) <|> needs b.tasks.isSome (6, 4, 0) <|>
  needs b.safety.isSome (6, 9, 0) <|>
  (b.repeated.head?.map fun t => (6, t, 0)) <|>
  ((b.unknown.find? fun u => !u.2).map fun u => (6, u.1, 0)) <|>
  (b.malformed.map fun m => (6, m.1, m.2)) <|>
  firstEntry 6 2 0 (fun e => assigned e && !safetyAddr e.addr) regs <|>
  firstEntry 6 6 0 (fun e => assigned e && !safetyAddr e.addr) can <|>
  firstEntry 6 9 112 assigned safe <|>
  needs (noRepeat [] (regs ++ can ++ safe)) (faultAt 6 1 0)

/-- Range (0x07): register images against the registers as the book leaves them, and the sections' own codes. -/
def Lane.checkRange (l : Lane) (b : Book) : Option BookFault :=
  let ok (e : RegEntry) : Bool := !e.lanes.getLsbD (laneNum l.id) || l.rangeOk e.addr e.value
  firstEntry 7 2 0 ok (b.registers.getD []) <|> firstEntry 7 6 0 ok (b.canSched.getD []) <|>
  firstEntry 7 9 112 ok ((b.safety.map (·.image)).getD []) <|>
  (b.machine.bind fun m =>
    needs (decide (250 ≤ m.cycle ∧ m.cycle ≤ 10000) && m.cycle % 50 == 0 && decide (10 ≤ m.lease ∧ m.lease ≤ 500)) (faultAt 7 2 0) <|>
    firstBad 7 3 (m.seats.toList.map fun s => match s with
      | some r => decide (r.rank ≤ 7 ∧ r.maxClass ≤ 3) && r.node.toList.all (fun n => decide (n ≤ 1023))
      | none => true)) <|>
  (b.safety.bind fun s =>
    needs (s.stop.roles.toList.all fun r => decide (r ≤ 3)) (7, 9, 0) <|>
    needs s.stop.reservedOk (7, 9, 4) <|>
    needs (decide (1 ≤ s.stop.points.length ∧ s.stop.points.length ≤ 16)) (7, 9, 44)) <|>
  (b.signals.bind fun s =>
    needs (decide (s.hot.length ≤ 16384)) (faultAt 7 4 0) <|>
    firstBad 7 5 (s.defs.map fun d => decide (d.type ≤ 5 ∧ 1 ≤ d.len ∧ d.len ≤ 32))) <|>
  (b.cues.bind fun c =>
    firstBad 7 6 (c.toList.map fun r => match r with
      | none => true
      | some r => decide (2 ≤ r.ring.members.length ∧ r.ring.members.length ≤ 64 ∧ r.ring.starters.length ≤ 4) &&
        r.sheets.all fun s => decide (s.num ≤ 7 ∧ 1 ≤ s.cues.length ∧ s.cues.length ≤ 1024 ∧ s.rate ≤ 1) && s.crc == sheetCrc s &&
          s.cues.all fun q => decide (64 ≤ q.len ∧ q.len ≤ 1518 ∧ 1 ≤ q.owner ∧ q.owner ≤ 1023 ∧ q.win ≤ 7 ∧ q.kind ≤ 4)))

/-- The tables of an axis (R88): the active tables' entries usable, no sub-table turning its own switch on. -/
def Lane.tablesOk (l : Lane) (n : Axis) : Bool :=
  let sectors := if l.flag (R.DC_CTRL_EXT n) then 72 else 36
  (List.range sectors).all (fun i => (l.tableEntry n none i).testBit 7) &&
  (List.finRange 6).all fun j => (List.range sectors).all fun i =>
    let x := l.tableEntry n (some j) i
    x.testBit 7 && (x.testBit 4 || !(vecSwitches (x % 8)).getLsbD j.val)

/-- The ladder of an axis (R73). -/
def Lane.ladderOk (l : Lane) (n : Axis) : Bool :=
  let cs := l.enabledCodes n
  let hys := l.get (R.DC_LADCFG_HYS n)
  decide (l.get (R.DC_PEAK_PKN n) < l.get (R.DC_PEAK_PKP n)) &&
  cs.all (fun c => decide (l.get (R.DC_PEAK_PKN n) < c ∧ c < l.get (R.DC_PEAK_PKP n))) &&
  (cs.zip (cs.drop 1)).all fun x => decide (x.1 + hys < x.2)

/-- The stiffness curve of an axis in the force role (R203). -/
def Lane.curveOk (l : Lane) (n : Axis) : Bool :=
  l.loopRole n != .force ||
  (l.curvePoint n 0 == 0 && l.curvePoint n 15 != 0 &&
    (List.range 15).all fun k => decide (l.curvePoint n k ≤ l.curvePoint n (k + 1)))

/-- Rates of the serial formats in kHz (R175). -/
def serialRate : Nat → Nat | 0 => 10000 | 1 => 5000 | 2 => 2500 | _ => 1000

/-- The frame period covers 1.2 frame times at the lowest rate (R176). -/
def Lane.periodOk (l : Lane) (n : Axis) : Bool :=
  let ser := l.get (R.FB_CFG_SER n)
  let bits := l.get (R.FB_SER0_LEN n) + l.get (R.FB_SER0_CRCL n) + Config.frameOverhead ser
  ser == 0 || decide (12 * bits * 1000 ≤ 10 * l.get (R.FB_SER1_PER n) * serialRate (l.get (R.FB_SER0_RMIN n)))

/-- The rules that span fields, of one axis, by number. -/
def Lane.axisRules (l : Lane) (b : Book) (n : Axis) : List Bool :=
  let m := bookEnabled l.id b n
  [!m || l.tablesOk n, l.ladderOk n || !m, !m || l.get (R.DC_RESID_BND n) != 0,
   !m || l.get (R.FB_CFG_SER n) != 0, l.periodOk n,
   !((b.trust.map fun t => t.cartridges.getLsbD n.val).getD false && l.get (R.FB_CFG_SER n) == 1),
   l.curveOk n, l.loopRole n == .none || l.get (R.LE_SCALE_WFS n) != 0,
   l.loopRole n != .position || l.get (R.LE_PFS_PFS n) != 0, l.get (R.FB_CPR_CPR n) == l.get (R.DC_CPR_CPR n),
   l.get (R.FB_CFG_SER n) == 0 || decide (Nat.log2 (l.get (R.FB_CPR_CPR n)) ≤ l.get (R.FB_SER2_STB n))]

/-- The stop section against the axes and signals (R284, R331, R578). -/
def Lane.stopRules (l : Lane) (b : Book) : List Bool :=
  match b.safety, b.machine with
  | some s, some _ =>
    let role (n : Axis) : StopRole := .ofCode s.stop.roles[n]
    let handle (h : Nat) : Option SigDef := b.signals.bind fun g => g.defs.find? fun d => d.handle == h
    let ground := match handle s.stop.speedHandle with | some d => decide (1 ≤ d.type ∧ d.type ≤ 4) | none => false
    let path (n : Axis) : Bool := s.stop.path[n] == 0 ||
      match handle s.stop.path[n] with | some d => d.type == 1 && sealedPath d.source | none => false
    [anyAxis fun n => role n == .service, anyAxis fun n => role n == .hold] ++
    (List.finRange 4).map (fun n => role n == .none || bookEnabled l.id b n) ++
    (List.finRange 4).map (fun n => match role n with
      | .steer => l.loopRole n == .position | .service | .hold => l.loopRole n == .force | .none => true) ++
    [ground] ++ (List.finRange 4).map path ++
    (List.finRange 4).map (fun n => role n == .hold || s.stop.hold[n] == 0) ++
    [(s.stop.points.head?.map (·.1)) == some 0,
     (s.stop.points.zip (s.stop.points.drop 1)).all fun x => decide (x.1.1 < x.2.1)]
  | _, _ => []

/-- Over-voltage, safety inputs and outputs (R145, R517, R524). -/
def Lane.safetyRules (l : Lane) : List Bool :=
  [decide (l.get R.GD_OVA_OV1 < l.get R.GD_OVA_OV2 ∧ l.get R.GD_OVA_OV2 < l.get R.GD_OVB_OV3 ∧
    l.get R.GD_OVB_OV3 < l.get R.GD_OVB_OVMAX ∧ l.get R.GD_OVB_OVMAX ≤ 10000 ∧ 2000 + l.get R.GD_OVH_CHH < l.get R.GD_OVA_OV1)] ++
  (List.range 8).map (fun k => decide (l.get (R.SF_SICFG_FILT k) < 10 * l.get (R.SF_SICFG_DISC k))) ++
  (List.range 4).map (fun m => l.get (R.SF_KOCFG_FUNC m) != 1 || l.get (R.SF_KOCFG_MASK m) == 0) ++
  [l.get (R.SF_KOCFG_FUNC (l.get R.GD_OVCFG_KOSEL)) == 1]

/-- No entry twice. -/
def distinct : List Nat → Bool
  | [] => true
  | x :: r => !r.contains x && distinct r

/-- The seat table (R463). -/
def Lane.seatRules (l : Lane) (m : MachineSection) : List Bool :=
  let rows : List SeatRow := m.seats.toList.filterMap fun r => r
  let canOf (x : Nat) (pick : Nat × Nat × Nat → Nat) : List Nat := rows.filterMap fun r => (r.can.toList.getD x none).map pick
  let ported (s : Seat) : Bool := m.ports.toList.any fun p => p == some s
  (List.range 3).map (fun x => distinct ((rows.map fun r => r.node.toList.getD x 0).filter (· != 0))) ++
  (List.range 3).map (fun x => distinct (canOf x fun c => 64 * c.1 + c.2.1)) ++
  (List.range 3).map (fun x => distinct (canOf x fun c => 64 * c.1 + c.2.2)) ++
  (List.finRange 8).map (fun s => match m.seats[s] with
    | none => true
    | some r => ported s || r.node.toList.any (· != 0) || r.can.toList.any (·.isSome)) ++
  rows.map (fun r => match r.can.toList.getD (laneNum l.id) none with
    | some c => l.flag (R.CN_CFG_FD c.1)
    | none => true)

/-! #### CAN schedule (R438); bit counts by ISO 11898-1 (assumption 18) -/

/-- A bit of a phase in units of 12.5 ns (R430). -/
def bitUnits (before after presc : Nat) : Nat := (1 + before + after) * presc

/-- Bytes that a data length code stands for. -/
def dlcBytes : Nat → Nat
  | 9 => 12 | 10 => 16 | 11 => 20 | 12 => 24 | 13 => 32 | 14 => 48 | 15 => 64 | n => n

/-- The worst-case duration of a buffer's frame with maximal stuff bits and 3 bits of intermission, in units of 12.5 ns. -/
def Lane.frameUnits (l : Lane) (k : Nat) (b : Nat) : Nat :=
  let nom := bitUnits (l.get (R.CN_NOMBT_BEFORE k)) (l.get (R.CN_NOMBT_AFTER k)) (l.get (R.CN_NOMBT_PRESC k))
  let dat := bitUnits (l.get (R.CN_DATBT_BEFORE k)) (l.get (R.CN_DATBT_AFTER k)) (l.get (R.CN_DATBT_PRESC k))
  let ext := l.flag (R.CN_BCTL_IDE k b)
  if l.flag (R.CN_BCTL_FDF k b) then
    let n := dlcBytes (l.get (R.CN_BCTL_DLC k b))
    let arb := if ext then 36 else 17
    let body := 5 + 8 * n
    let crc := if 16 < n then 21 + 4 + 7 else 17 + 4 + 6
    let fast := if l.flag (R.CN_BCTL_BRS k b) then dat else nom
    (arb + (arb - 1) / 4 + 13) * nom + (body + body / 4 + crc) * fast
  else
    let n := min 8 (l.get (R.CN_BCTL_DLC k b))
    let g := (if ext then 54 else 34) + 8 * n
    (g + 13 + (g - 1) / 4) * nom

/-- Two entries can fire in the same cycle (R435). -/
def Lane.sameCycle (l : Lane) (k i j : Nat) : Bool :=
  let r := 2 ^ min (l.get (R.CN_SCH_REP k i)) (l.get (R.CN_SCH_REP k j))
  l.get (R.CN_SCH_BASE k i) % r == l.get (R.CN_SCH_BASE k j) % r

/-- The schedule of one controller (R438). -/
def Lane.scheduleOk (l : Lane) (k : Nat) : Bool :=
  let es := (List.range 64).filter fun i => l.get (R.CN_SCH_KIND k i) != 0
  let start (i : Nat) : Nat := 80 * l.get (R.CN_SCH_START k i)
  let units (i : Nat) : Nat := l.frameUnits k (l.get (R.CN_SCH_BUF k i))
  es.all (fun i => decide (l.get (R.CN_SCH_START k i) < 50 * l.get R.VR_CYC_LEN ∧
    l.get (R.CN_SCH_BASE k i) < 2 ^ l.get (R.CN_SCH_REP k i)) && l.get (R.CN_BCTL_OWN k (l.get (R.CN_SCH_BUF k i))) == 1) &&
  es.all fun i => es.all fun j =>
    !(decide (i < j) && l.sameCycle k i j) ||
    decide (80 * l.get (R.CN_SCHCFG_WIN k) + max (units i) (units j) ≤ max (start i) (start j) - min (start i) (start j))

/-! #### Signals (R448, R450, R452, R453, R455, R500) -/

/-- The bytes a type needs (R450). -/
def typeBytes : Nat → Nat | 1 | 2 => 4 | 3 | 4 => 2 | 5 => 1 | _ => 0

/-- The SIGNALS section. -/
def Lane.signalRules (l : Lane) (b : Book) (g : SignalsSection) : List Bool :=
  let carried := g.cues.flatMap (·.2) ++ g.buffers.flatMap (fun x => x.2.2)
  let tasks := ((b.tasks.getD []).filter (·.safety)).flatMap (·.handles)
  let fromNet (d : SigDef) : Bool := match d.source with | .cue _ | .canBuf .. | .sealed .. => true | _ => false
  let sealedOk (d : SigDef) : Bool := match d.source with
    | .sealed c _ buf => l.flag (R.CN_CFG_FD c) && decide (d.len + 10 ≤ dlcBytes (l.get (R.CN_BCTL_DLC c buf)))
    | _ => true
  [distinct (g.defs.map (·.handle))] ++ g.defs.map (fun d => decide (typeBytes d.type ≤ d.len)) ++
  [g.defs.all fun d => !fromNet d || g.hot.contains d.handle, carried.all g.hot.contains, tasks.all g.hot.contains,
   decide ((g.defs.filter fun d => sealedPath d.source).length ≤ 512)] ++ g.defs.map sealedOk ++
  (List.range 480).map fun i => l.get (R.CB_SRC_KIND (i + 32)) != 3 ||
    (g.defs.find? fun d => d.handle == l.get (R.CB_SRC_SEL (i + 32))).any fun d => d.type == 5

/-! #### Cue sheets (R386, R453) -/

/-- Rule 2 of R386 for one ring state, in quarter ns. -/
def linksOk (ring : RingDescription) (s : CueSheet) (level : Nat) (broken : List Nat) : Bool :=
  let fast := s.rate == 0
  let entry (q : Nat) : CueEntry := s.cues.getD q ⟨0, 0, 0, 3, 0, 0⟩
  let all := sheetFlights (ring.members.map (·.1)) s (ring.members.map fun m => 40 * m.2) level fast broken
  let first (f : Flight) : Int := f.at_ - 4 * windowNs (entry f.cue).win
  let last (f : Flight) : Int := f.at_ + 4 * windowNs (entry f.cue).win + (entry f.cue).len * byteQ fast + 40 * s.guardTime
  all.all (fun f => decide (last f ≤ 200000 * s.cycle)) &&
  all.all fun f => all.all fun g =>
    f.link != g.link || f.east != g.east || f.cue == g.cue || decide (last f ≤ first g ∨ last g ≤ first f)

/-- One sheet of the lane's ring (R382, R386, R453). -/
def Lane.sheetOk (l : Lane) (ring : RingDescription) (s : CueSheet) : Bool :=
  let on := s.cues.filter fun c => c.dir != 3
  let widest := (on.map fun c => windowNs c.win).foldl max 0
  let bytes (p : CueEntry → Bool) : Nat := ((on.filter p).map (·.len)).sum
  s.cycle == l.get R.VR_CYC_LEN && (s.cues.zip (s.cues.drop 1)).all (fun x => decide (x.1.start ≤ x.2.start)) &&
  decide (2 * widest + 200 ≤ 10 * s.guardTime) &&
  ([] :: (List.range ring.members.length).map fun k => [k]).all (linksOk ring s (l.get R.VR_CFG_LVLMAX)) &&
  ring.members.all (fun m => (on.filter fun c => c.owner == m.1 && c.kind == 1).length == 1) &&
  on.any (fun c => c.owner == ring.timeMaster && c.kind == 2) &&
  decide (8 * bytes (fun c => c.owner != l.node && (c.kind == 0 || c.kind == 3 || c.kind == 4)) * 1000 ≤ 1200 * 50000 * s.cycle) &&
  ring.starters.any (· != l.node) && decide (bytes (fun c => c.owner == l.node) ≤ 65536)

/-- The roles of the three lanes' time services (R419): every lane MASTER, or every lane FOLLOWER of one time master, which
stands for the one grandmaster that the rule asks for (assumption 98). -/
def rolesOk (b : Book) : Bool :=
  match b.cues with
  | none => true
  | some c =>
    let node (x : Nat) : Nat := match (bookImages b).find? fun e => e.addr == R.VR_CFG && e.lanes.getLsbD x with
      | some e => bitsAt e.value 16 10 | none => 0
    let roles := (List.range 3).filterMap fun x => (c.toList.getD x none).map fun r => r.ring.timeMaster == node x
    let masters := (List.range 3).filterMap fun x => (c.toList.getD x none).map fun r => r.ring.timeMaster
    roles.all (fun r => r) || (roles.all (!·) && (masters.zip (masters.drop 1)).all fun m => m.1 == m.2)

/-- Cross-field rules (0x08). -/
def Lane.checkCross (l : Lane) (b : Book) : Option BookFault :=
  firstBad 8 10 ((List.finRange 4).flatMap (l.axisRules b)) <|> firstBad 8 11 (l.stopRules b) <|> firstBad 8 12 l.safetyRules <|>
  firstBad 8 13 ((b.machine.map l.seatRules).getD []) <|> firstBad 8 14 [l.scheduleOk 0, l.scheduleOk 1] <|>
  firstBad 8 15 ((b.signals.map (l.signalRules b)).getD []) <|>
  firstBad 8 16 (match b.cues.bind fun c => c.toList.getD (laneNum l.id) none with
    | some r => r.sheets.map (l.sheetOk r.ring)
    | none => []) <|>
  needs (rolesOk b) (faultAt 8 17 0) <|>
  needs ((b.trust.map fun t =>
    !((b.ecdsa.any fun k => t.revokeEcdsa.getLsbD k.val) || (b.lms.any fun k => t.revokeLms.getLsbD k.val))).getD true) (faultAt 8 18 0)

/-! #### Schedulability (R333) -/

/-- The length of a phase window of R29 in ns. -/
def windowLen : Nat → Nat
  | 0 => 2000 | 1 => 10000 | 2 => 3000 | 3 => 9000 | 4 => 2000 | 5 => 2000 | _ => 22000

/-- What an engine's window of a beat holds so far: the fixed allowances, on the trio with the 0.2 µs of the pair hold
(R302), and the tasks placed before. -/
def placed (done : List TaskEntry) (e : Engine) (beat win : Nat) : Nat :=
  Config.allowance (engineIndex e) beat win + (if e = .trio ∧ win = 6 then 200 else 0) +
  ((done.filter fun t => t.cost.engine == e && t.beat == beat && t.window == win).map fun t => t.cost.duration + 200).sum

/-- Placing the tasks in order: the index of the first that breaks a limit. -/
def placeTasks : List TaskEntry → List (TaskEntry × Nat) → Nat → Option Nat
  | _, [], _ => none
  | done, (t, i) :: r, hyper =>
    let sum := placed done t.cost.engine t.beat t.window + t.cost.duration + 200
    let h := Nat.lcm hyper t.period
    if 9 * windowLen t.window < 10 * sum ∨ t.deadline < sum ∨ 64 < h then some i else placeTasks (t :: done) r h

/-- Schedulability at the pace floor (0x09). -/
def Lane.checkSchedule (l : Lane) (b : Book) : Option BookFault :=
  let engines : List Engine := [.trio, .loopPair, .q, .n, .k]
  let bare := engines.all fun e => (List.range l.beats).all fun k => (List.range 7).all fun w =>
    decide (10 * placed [] e k w ≤ 9 * windowLen w)
  if !bare then some (9, 4, 0xFFFFFFFF)
  else (placeTasks [] (((b.tasks.getD []).zipIdx).filter fun x => x.1.safety) 1).map fun i => (9, 4, (Config.bookFault 19 i).2)

/-- The engine of a task is usable. -/
def Lane.engineOk (l : Lane) (e : Engine) : Bool :=
  match e with
  | .trio => true
  | .loopPair => !l.bit R.LC_ENGSTAT_UNUS 3 && !l.bit R.LC_ENGSTAT_UNUS 4
  | .q => !l.bit R.LC_ENGSTAT_UNUS 5
  | .n => !l.bit R.LC_ENGSTAT_UNUS 6
  | .k => !l.bit R.LC_ENGSTAT_UNUS 7

/-- Hardware that rehearsal marked unusable (0x0A, R362). -/
def Lane.checkHardware (l : Lane) (b : Book) : Option BookFault :=
  let on (n : Axis) : Bool := bookEnabled l.id b n
  let ring := (b.cues.bind fun c => c.toList.getD (laneNum l.id) none).isSome && l.flag R.VR_CFG_EN
  firstBad 10 20 ((List.finRange 4).map fun n => !on n || (!l.bit R.BI_UNUS_FB n.val && l.inService n)) <|>
  firstBad 10 21 [!ring || l.get R.BI_UNUS_VR == 0] <|>
  firstBad 10 22 ((List.range 2).map fun k => !l.flag (R.CN_CFG_ON k) || !l.bit R.BI_UNUS_CAN k) <|>
  firstBad 10 23 ((b.tasks.getD []).map fun t => l.engineOk t.cost.engine)

/-- The checks of R330 in order; none where the book is accepted. `l` is the lane as it stands. -/
def Lane.checkBook (l : Lane) (b : Book) : Option BookFault :=
  let c := (match l.trust.book with | some o => l.clearBook o | none => l).writeBook b
  ((l.verifyBook b).map fun k => (k, 0, 0)) <|>
  needs ((l.trust.fw.map fun f => decide (imageVersion b.envelope ≤ imageVersion f.envelope)).getD false) (5, 0, 0) <|>
  checkSchema b <|> c.checkRange b <|> c.checkCross b <|> c.checkSchedule b <|> c.checkHardware b

end Sys2Proof.Machine
end

