-- ==== Sys2Proof/Machine/Feedback.lean ====
section
/-!
DEFINITION. Position and speed feedback: edges and the counter, index and re-reference, serial sensors, Hall, probe,
speed and validity.
-/

namespace Sys2Proof.Machine

/-- The hidden state of feedback port n. -/
def Lane.fb (l : Lane) (n : Axis) : FeedbackState := (l.ax n).fb

/-- Changes the hidden state of port n. -/
def Lane.onFb (l : Lane) (n : Axis) (f : FeedbackState → FeedbackState) : Lane :=
  l.onAx n fun a => { a with fb := f a.fb }

/-- Changes the serial state of port n. -/
def Lane.onSer (l : Lane) (n : Axis) (f : SerialState → SerialState) : Lane :=
  l.onFb n fun b => { b with serial := f b.serial }

/-- No cause of R189 is present. -/
def FbCauses.clear (c : FbCauses) : Bool :=
  !c.noRef && !c.line && !c.steps && !c.index && !c.serial && !c.dev && !c.hall

/-- The causes change; FB_STAT[VALID] follows, and feedback that turns invalid acts on the drive (R189, R190). -/
def Lane.causes (l : Lane) (n : Axis) (f : FbCauses → FbCauses) : Lane :=
  let was := l.fbValid n
  let l := l.onFb n fun b => { b with causes := f b.causes }
  let ok := (l.fb n).causes.clear
  let l := l.putFlag (R.FB_STAT_VALID n) ok
  if was && !ok then (l.raise (R.FB_EVT_INVAL n)).actInvalid n else l

/-- A 32-bit difference as a signed number. -/
def diff32 (a b : Nat) : Int := (BitVec.ofInt 32 ((a : Int) - b)).toInt

/-- FB_SPEED follows the measured speed (R182), in 1/16 count/s. -/
def Lane.showSpeed (l : Lane) (n : Axis) : Lane :=
  l.putInt (R.FB_SPEED_SPD n) (Config.quantize (16 * (l.fb n).measured))

/-- The measured speed becomes `v`. -/
def Lane.setSpeed (l : Lane) (n : Axis) (v : Rat) : Lane :=
  (l.onFb n fun b => { b with measured := v }).showSpeed n

/-- The counter is off the last index by more than the index allows (R172). -/
def Lane.indexFar (l : Lane) (n : Axis) (k : Option Int) : Bool :=
  match k with
  | some x => l.flag (R.FB_IDX_EN n) && decide (l.get (R.FB_CPR_CPR n) + l.get (R.FB_IDX_TOL n) < x.natAbs)
  | none => false

/-- Moves the counter by `d` counts with its wraps (R167), and judges a missing index (R172). -/
def Lane.moveCounter (l : Lane) (n : Axis) (d : Int) : Lane :=
  let x := (l.get (R.FB_POS_POS n) : Int) + d
  let l := l.putInt (R.FB_POS_POS n) x
  let l := l.when (decide (4294967296 ≤ x)) fun l =>
    (l.raise (R.FB_EVT_WRAPUP n)).onFb n fun b => { b with wraps := b.wraps + 1 }
  let l := l.when (decide (x < 0)) fun l =>
    (l.raise (R.FB_EVT_WRAPDN n)).onFb n fun b => { b with wraps := b.wraps - 1 }
  let old := (l.fb n).sinceIndex
  let l := l.onFb n fun b => { b with sinceIndex := b.sinceIndex.map (· + d) }
  if l.indexFar n (l.fb n).sinceIndex && !l.indexFar n old then
    (l.raise (R.FB_EVT_IDXMISS n)).causes n fun c => { c with index := true }
  else l

/-- The history takes an event; FB_STEP[WIN] counts its step faults (R165). -/
def Lane.history (l : Lane) (n : Axis) (fault : Bool) : Lane :=
  let l := l.onFb n fun b => { b with history := (fault :: b.history).take 1024 }
  l.put (R.FB_STEP_WIN n) ((l.fb n).history.filter (· == true)).length

/-- A skipped state or undirected step (R164, R166): the counter and DIR stay. -/
def Lane.stepFault (l : Lane) (n : Axis) : Lane :=
  let l := ((l.bump (R.FB_STEP_TOTAL n)).raise (R.FB_EVT_STEPF n)).raise (R.FB_STAT_UNCERT n)
  let l := (l.history n true).onFb n fun b => { b with faultsSince := b.faultsSince + 1, skipped := true }
  if 5 ≤ l.get (R.FB_STEP_WIN n) then l.causes n fun c => { c with steps := true } else l

/-- The delay of the A, B and Z filter in ns (R161). -/
def filterNs : Nat → Nat
  | 1 => 20 | 2 => 50 | 3 => 100 | 4 => 200 | 5 => 500 | 6 => 1000 | 7 => 2000 | _ => 0

/-- Edges averaged: 1, 2 or 4. -/
def Lane.avg (l : Lane) (n : Axis) : Nat := 2 ^ l.get (R.FB_SPDCFG_AVG n)

/-- The glitch filter `code` passes a level that the line has held for `held` raw counts (R161, R181). -/
def filterPasses (code held : Nat) : Bool := decide (ns (filterNs code) ≤ held)

/-- The stamp of an edge that leaves the filter now, referred to the ball (R161, R162). -/
def Lane.edgeStamp (l : Lane) (n : Axis) : Nat := l.now - ns (filterNs (l.get (R.FB_FILT_QGLT n)))

/-- The speed a counted edge gives (R182, R183, R186, R187): `t` is its stamp, `up` its direction, `turn` whether it
changed DIR. Over an interval of no stamp count the speed is open (assumption 93). -/
def Lane.edgeSpeed (l : Lane) (n : Axis) (t : Nat) (up turn : Bool) : Lane :=
  let b := l.fb n
  let reported := l.countSpeed n
  let l := l.drop (R.FB_STAT_STILL n)
  let anew (v : Rat) : Lane :=
    ((l.raise (R.FB_STAT_ESTIM n)).onFb n fun b =>
      { b with stamps := [t], intervals := 0, starting := false, skipped := false }).setSpeed n v
  if b.starting ∨ turn then anew 0
  else if b.skipped then anew reported
  else
    let k := min (l.avg n) (b.intervals + 1)
    let back := ((t :: b.stamps)[k]?).getD t
    let v : Rat := if t ≤ back then (l.choice : Rat) else (k : Rat) * 4000000000 / ((t - back : Nat) : Rat)
    ((l.nextChoice.drop (R.FB_STAT_ESTIM n)).onFb n fun b =>
      { b with stamps := (t :: b.stamps).take 5, intervals := b.intervals + 1 }).setSpeed n (if up then v else -v)

/-- A counted edge with stamp `t`, up or down before CNTINV (R166 to R168, R182). -/
def Lane.countedEdge (l : Lane) (n : Axis) (fwd : Bool) (t : Nat) : Lane :=
  let up := fwd != l.flag (R.FB_CFG_CNTINV n)
  let turn := l.flag (R.FB_STAT_DIR n) != up
  let l := (l.history n false).edgeSpeed n t up turn
  let l := l.when turn fun l => (l.putFlag (R.FB_STAT_DIR n) up).raise (R.FB_EVT_DIRCHG n)
  l.moveCounter n (if up then 1 else -1)

/-- The filtered level of A, of B (FB_STAT[ABZ]). -/
def Lane.levelA (l : Lane) (n : Axis) : Bool := l.bit (R.FB_STAT_ABZ n) 2
/-- See `Lane.levelA`. -/
def Lane.levelB (l : Lane) (n : Axis) : Bool := l.bit (R.FB_STAT_ABZ n) 1

/-- The direction of a step: the level of B, open where B has not been stable for 50 ns (R166). -/
def Lane.stepUp (l : Lane) (n : Axis) (t : Nat) : Bool :=
  if t < (l.fb n).bAt + ns 50 then l.choice % 2 == 0 else l.levelB n

/-- One edge on A, stamped `t`, in the incremental format (R164, R166). -/
def Lane.edgeA (l : Lane) (n : Axis) (rise : Bool) (t : Nat) : Lane :=
  if l.levelA n = rise then l
  else
    let l := l.putBit (R.FB_STAT_ABZ n) 2 rise
    match l.get (R.FB_CFG_INC n) with
    | 1 => l.countedEdge n (rise != l.levelB n) t
    | 2 => if rise then l.nextChoice.countedEdge n (l.stepUp n t) t else l
    | 3 => if rise then l.countedEdge n true t else l
    | _ => l

/-- The B line takes a level at `t`. -/
def Lane.moveB (l : Lane) (n : Axis) (rise : Bool) (t : Nat) : Lane :=
  (l.putBit (R.FB_STAT_ABZ n) 1 rise).onFb n fun b => { b with bAt := t }

/-- One edge on B, stamped `t`. -/
def Lane.edgeB (l : Lane) (n : Axis) (rise : Bool) (t : Nat) : Lane :=
  if l.levelB n = rise then l
  else
    let l := l.moveB n rise t
    match l.get (R.FB_CFG_INC n) with
    | 1 => l.countedEdge n (rise == l.levelA n) t
    | 3 => if rise then l.countedEdge n false t else l
    | _ => l

/-- A pair the decoder sees as simultaneous (R163, R164, R166): in up/down it counts both ways, in an order left open. -/
def Lane.edgeBoth (l : Lane) (n : Axis) (riseA riseB : Bool) (t : Nat) : Lane :=
  if l.levelA n = riseA then l.edgeB n riseB t
  else if l.levelB n = riseB then l.edgeA n riseA t
  else
    let moved := (l.putBit (R.FB_STAT_ABZ n) 2 riseA).moveB n riseB t
    match l.get (R.FB_CFG_INC n) with
    | 1 => moved.stepFault n
    | 2 => if riseA then moved.stepFault n else moved
    | 3 =>
      if l.choice % 2 = 0 then (l.nextChoice.edgeA n riseA t).edgeB n riseB t
      else (l.nextChoice.edgeB n riseB t).edgeA n riseA t
    | _ => moved

/-- A pair taken in order: the first edge at `t`, the second at `u`. -/
def Lane.edgePair (l : Lane) (n : Axis) (riseA riseB aFirst : Bool) (t u : Nat) : Lane :=
  if aFirst then (l.edgeA n riseA t).edgeB n riseB u else (l.edgeB n riseB t).edgeA n riseA u

/-- Edges on A and B that the filter passes meet at the arbiter (R161 to R166): under 0.5 ns apart simultaneous, over
3.0 ns in order, between them either. The second edge of a pair is the one of the command's moment. -/
def execCountEdge (e : At) (n : Axis) (edge : EdgeIn) (s : State) : Host.Outcome State Fault Refusal :=
  .next (s.logicEvent e fun l =>
    let pass := filterPasses (l.get (R.FB_FILT_QGLT n))
    let t := l.edgeStamp n
    match edge with
    | .a r h => l.when (pass h) fun l => l.edgeA n r t
    | .b r h => l.when (pass h) fun l => l.edgeB n r t
    | .pair ra rb aFirst sp ha hb =>
      let first := t - sp * 2 / 5
      if !pass ha then l.when (pass hb) fun l => l.edgeB n rb (if aFirst then t else first)
      else if !pass hb then l.edgeA n ra (if aFirst then first else t)
      else if sp < 5 then l.edgeBoth n ra rb t
      else if 30 < sp then l.edgePair n ra rb aFirst first t
      else if l.choice % 2 = 0 then l.nextChoice.edgeBoth n ra rb t
      else l.nextChoice.edgePair n ra rb aFirst first t)

/-- A re-reference by `d` (R171); `bad` marks an index error whatever its d (R172). -/
def Lane.reReference (l : Lane) (n : Axis) (d : Int) (bad : Bool) : Lane :=
  let allow := l.get (R.FB_IDX_TOL n) + 2 * (l.fb n).faultsSince
  let good := decide (d.natAbs ≤ allow) && !bad
  let lineGood := (l.fb n).lineBad == 0
  let l := (l.putInt (R.FB_IDXERR_D n) d).moveCounter n d
  let l := l.when (d != 0) fun l => l.raise (R.FB_EVT_REREF n)
  let l := l.onFb n fun b => { b with faultsSince := 0 }
  let l := if good then l.drop (R.FB_STAT_UNCERT n) else l.raise (R.FB_EVT_IDXERR n)
  let clean := l.get (R.FB_STEP_WIN n) == 0
  l.causes n fun c => { c with
    index := c.index || !good
    line := c.line && !lineGood
    steps := c.steps && !(good && clean) }

/-- The distance from the counter to the nearest count the index represents (R170). -/
def Lane.indexDistance (l : Lane) (n : Axis) : Int :=
  let cpr : Int := (l.get (R.FB_CPR_CPR n) : Int)
  let d := (l.get (R.FB_IDXPOS_IDXPOS n) : Int) - ((l.get (R.FB_POS_POS n) % l.get (R.FB_CPR_CPR n) : Nat) : Int)
  let d := if cpr / 2 < d then d - cpr else d
  if d ≤ -(cpr / 2) then d + cpr else d

/-- An edge of QZ with A and B in the state `ab` (bit 1 A, bit 0 B), once it has held its level for `e.val.2` counts: the
filter passes it (R161), and a rising one is judged (R170 to R172). -/
def execIndexPulse (e : Seen (Bool × Nat)) (n : Axis) (ab : BitVec 2) (s : State) :
    Host.Outcome State Fault Refusal :=
  .next (s.logicEvent e.toAt fun l => l.when (filterPasses (l.get (R.FB_FILT_QGLT n)) e.val.2) fun l =>
    let was := l.bit (R.FB_STAT_ABZ n) 0
    let l := l.putBit (R.FB_STAT_ABZ n) 0 e.val.1
    if e.val.1 ∧ !was ∧ l.flag (R.FB_IDX_EN n) ∧ ab.toNat = l.get (R.FB_IDX_GATE n) then
      let d := l.indexDistance n
      let close : Bool := match (l.fb n).sinceIndex with
        | some k => decide (k.natAbs + l.get (R.FB_IDX_TOL n) < l.get (R.FB_CPR_CPR n))
        | none => false
      let l := l.reReference n d close
      let l := l.onFb n fun b => { b with sinceIndex := some 0 }
      if d.natAbs ≤ l.get (R.FB_IDX_TOL n) ∧ !close then l.causes n fun c => { c with index := false } else l
    else l)

/-- Serial negotiation starts at RMAX (R175); the counter is no longer referenced (R189). -/
def Lane.negotiate (l : Lane) (n : Axis) : Lane :=
  if l.get (R.FB_CFG_SER n) = 0 then l
  else
    let l := ((l.drop (R.FB_STAT_SERLOCK n)).drop (R.FB_STAT_REF n)).drop (R.FB_SERCNT_BAD n)
    let l := l.onSer n fun _ => { SerialState.init with negotiating := true, rate := l.get (R.FB_SER0_RMAX n) }
    l.causes n fun c => { c with noRef := true, serial := true }

/-- The next lower rate, or SERFAIL below RMIN (R175). -/
def Lane.stepRate (l : Lane) (n : Axis) : Lane :=
  let r := (l.fb n).serial.rate
  if l.get (R.FB_SER0_RMIN n) ≤ r then
    (l.raise (R.FB_EVT_SERFAIL n)).onSer n fun x => { x with negotiating := false, frames := 0, clean := 0 }
  else l.onSer n fun x => { x with rate := r + 1, frames := 0, clean := 0 }

/-- One bit through a CRC register of `len` bits with the polynomial `poly`, lowest term in bit 0 (R173). -/
def crcBit (len poly c : Nat) (b : Bool) : Nat :=
  let shifted := c * 2 % 2 ^ len
  if c.testBit (len - 1) != b then shifted ^^^ (poly % 2 ^ len) else shifted

/-- The CRC of the `count` low bits of `data`, highest bit first, from 0 (R173; assumption 93). -/
def serialCrc (len poly count data : Nat) : Nat :=
  (List.range count).foldl (fun c i => crcBit len poly c (data.testBit (count - 1 - i))) 0

/-- Binary from a Gray code of 40 bits: each bit is the parity of the bits from the top down to it (R173). -/
def grayToBinary (g : Nat) : Nat :=
  let g := g ^^^ (g >>> 1)
  let g := g ^^^ (g >>> 2)
  let g := g ^^^ (g >>> 4)
  let g := g ^^^ (g >>> 8)
  let g := g ^^^ (g >>> 16)
  g ^^^ (g >>> 32)

/-- The port runs BiSS C, whose data end in nE and nW (R158, R173). -/
def Lane.biss (l : Lane) (n : Axis) : Bool := l.get (R.FB_CFG_SER n) == 2

/-- The data bits of a frame (FB_SER0[LEN]). -/
def Lane.frameData (l : Lane) (n : Axis) (f : SerialFrameIn) : Nat :=
  f.bits.toNat / 2 ^ l.get (R.FB_SER0_CRCL n) % 2 ^ l.get (R.FB_SER0_LEN n)

/-- The check bits match the data: the CRC is transmitted inverted (R173). -/
def Lane.frameCrcOk (l : Lane) (n : Axis) (f : SerialFrameIn) : Bool :=
  let len := l.get (R.FB_SER0_CRCL n)
  f.bits.toNat % 2 ^ len + serialCrc len (l.get (R.FB_SER1_POLY n)) (l.get (R.FB_SER0_LEN n)) (l.frameData n f) + 1 == 2 ^ len

/-- The frame's nE, nW are active: they are low-active, and only BiSS C has them (R173; assumption 93). -/
def Lane.frameErr (l : Lane) (n : Axis) (f : SerialFrameIn) : Bool := l.biss n && !(l.frameData n f).testBit 1
/-- See `Lane.frameErr`. -/
def Lane.frameWarn (l : Lane) (n : Axis) (f : SerialFrameIn) : Bool := l.biss n && !(l.frameData n f).testBit 0

/-- The position a frame carries: Gray where the port says so, without nE and nW (R173). -/
def Lane.framePosition (l : Lane) (n : Axis) (f : SerialFrameIn) : Nat :=
  if l.biss n then l.frameData n f / 4
  else if l.flag (R.FB_SER0_GRAY n) then grayToBinary (l.frameData n f) else l.frameData n f

/-- A frame in counts (R174), reversed by CNTINV (R167): the low STB bits of the position are the single turn, the MTB bits
above them the turns. -/
def Lane.frameCounts (l : Lane) (n : Axis) (f : SerialFrameIn) : Nat :=
  let cpr := l.get (R.FB_CPR_CPR n)
  let stb := l.get (R.FB_SER2_STB n)
  let p := l.framePosition n f
  let c := p / 2 ^ stb % 2 ^ l.get (R.FB_SER2_MTB n) * cpr + p % 2 ^ stb / 2 ^ (stb - Nat.log2 cpr)
  let c := c % 4294967296
  if l.flag (R.FB_CFG_CNTINV n) then (4294967296 - c) % 4294967296 else c

/-- In serial-only mode the speed is estimated anew (R188). -/
def Lane.estimateAnew (l : Lane) (n : Axis) : Lane :=
  l.when (l.get (R.FB_CFG_INC n) == 0) fun l => l.raise (R.FB_STAT_ESTIM n)

/-- A frame of position `c` during negotiation (R175). -/
def Lane.negotiateFrame (l : Lane) (n : Axis) (clean : Bool) (c delay : Nat) : Lane :=
  let l := l.when clean fun l => l.put (R.FB_SERPOS_POS n) c
  let l := l.onSer n fun x => { x with frames := x.frames + 1, clean := if clean then x.clean + 1 else 0 }
  let x := (l.fb n).serial
  if 64 ≤ x.clean then
    let l := ((l.raise (R.FB_STAT_SERLOCK n)).put (R.FB_STAT_SRATE n) x.rate).estimateAnew n
    let l := l.onSer n fun x => { x with negotiating := false, bad := 0, devs := 0, within := 0, samples := [] }
    let l := l.onTrust fun t => { t with carts := t.carts.set n { t.carts[n] with due := true } }
    l.causes n fun c => { c with serial := false }
  else if 2000 < delay ∨ 256 ≤ x.frames then l.stepRate n
  else l

/-- A frame in service that is not clean (R176, R188). -/
def Lane.badFrame (l : Lane) (n : Axis) : Lane :=
  let l := (l.bump (R.FB_SERCNT_BAD n)).raise (R.FB_EVT_SERBAD n)
  let l := l.onSer n fun x => { x with bad := x.bad + 1, clean := 0, samples := [] }
  let l := l.estimateAnew n
  if 3 ≤ (l.fb n).serial.bad then l.causes n fun c => { c with serial := true } else l

/-- Speed in serial-only mode (R188). -/
def Lane.serialSpeed (l : Lane) (n : Axis) : Lane :=
  let k := l.avg n
  match (l.fb n).serial.samples with
  | (p, t) :: r =>
    (match r[k - 1]? with
     | some (q, u) =>
       (l.drop (R.FB_STAT_ESTIM n)).setSpeed n ((diff32 p.toNat q.toNat : Rat) * 4000000000 / ((t - u : Nat) : Rat))
     | none => l.raise (R.FB_STAT_ESTIM n))
  | [] => l

/-- The comparison of a clean frame with the latched counter, and the re-reference by it (R177). -/
def Lane.compareFrame (l : Lane) (n : Axis) (d : Int) : Lane :=
  let dev := decide (l.get (R.FB_SER2_TOL n) < d.natAbs)
  let l := l.when dev fun l => l.raise (R.FB_EVT_SERDEV n)
  let l := l.onSer n fun x => { x with
    devs := if dev then x.devs + 1 else 0, within := if dev then 0 else x.within + 1 }
  let x := (l.fb n).serial
  let l := l.when (decide (2 ≤ x.devs)) fun l => l.causes n fun c => { c with dev := true }
  let l := l.when (decide (8 ≤ x.within)) fun l => l.causes n fun c => { c with dev := false }
  if l.flag (R.FB_SER2_REREF n) then l.reReference n d false else l

/-- The first clean frame makes the position valid: the counter moves by `d` on an incremental axis, else the position is
the frame's (R174, R188). -/
def Lane.firstFrame (l : Lane) (n : Axis) (c : Nat) (d : Int) (inc : Bool) : Lane :=
  let l := l.putInt (R.FB_POS_POS n) (if inc then (l.get (R.FB_POS_POS n) : Int) + d else (c : Int))
  let l := (l.raise (R.FB_STAT_REF n)).onFb n fun b => { b with sinceIndex := none }
  l.causes n fun c => { c with noRef := false }

/-- A clean frame in service: position `c`, latched counter `q` at the sample moment `t` (R160, R174, R177, R188). -/
def Lane.cleanFrame (l : Lane) (n : Axis) (c : Nat) (q : BitVec 32) (t : Nat) : Lane :=
  let l := l.put (R.FB_SERPOS_POS n) c
  let l := l.onSer n fun x => { x with
    bad := 0, clean := x.clean + 1, samples := ((BitVec.ofNat 32 c, t) :: x.samples).take 5 }
  let l := l.when (decide (64 ≤ (l.fb n).serial.clean)) fun l => l.causes n fun c => { c with serial := false }
  let d := diff32 c q.toNat
  let inc := l.get (R.FB_CFG_INC n) != 0
  let l :=
    if !l.flag (R.FB_STAT_REF n) then l.firstFrame n c d inc
    else if inc then l.compareFrame n d
    else l.moveCounter n (diff32 c (l.get (R.FB_POS_POS n)))
  if inc then l else l.serialSpeed n

/-- PER µs have passed since the last frame was sent, or none was (R175). -/
def Lane.periodOver (l : Lane) (n : Axis) : Bool :=
  match (l.fb n).serial.sentAt with
  | some t => l.since t (us (l.get (R.FB_SER1_PER n)))
  | none => true

/-- The frame period expires: the counter is latched at the first edge of MA (R174, R175). -/
def execSerialFrameSend (e : At) (n : Axis) (s : State) : Host.Outcome State Fault Refusal :=
  .next (s.logicEvent e fun l =>
    if l.get (R.FB_CFG_SER n) ≠ 0 ∧ ((l.fb n).serial.negotiating ∨ l.flag (R.FB_STAT_SERLOCK n)) ∧ l.periodOver n then
      l.onSer n fun x => { x with
        latched := some (BitVec.ofNat 32 (l.get (R.FB_POS_POS n)), l.now), sentAt := some l.now }
    else l)

/-- A serial frame ends (R175 to R177). -/
def execSerialFrame (e : At) (n : Axis) (f : SerialFrameIn) (s : State) : Host.Outcome State Fault Refusal :=
  .next (s.logicEvent e fun l =>
    match (l.fb n).serial.latched with
    | none => l
    | some (q, t) =>
      let good := f.inTime && l.frameCrcOk n f
      let clean := good && !l.frameErr n f
      let l := (l.onSer n fun x => { x with latched := none }).put (R.FB_SERCNT_DLY n) (min 2047 f.delay)
      let l := l.when (good && l.frameWarn n f) fun l => l.raise (R.FB_EVT_SERWARN n)
      if (l.fb n).serial.negotiating then l.negotiateFrame n clean (l.frameCounts n f) f.delay
      else if clean then l.cleanFrame n (l.frameCounts n f) q t
      else l.badFrame n)

/-- FB_CTRL[RENEG] is written: only in HOLD and WORKSHOP (R175). -/
def execReneg (e : At) (n : Axis) (s : State) : Host.Outcome State Fault Refusal :=
  .next (s.logicEvent e fun l => if l.mode = .hold ∨ l.mode = .workshop then l.negotiate n else l)

/-- The sector of a Hall code, counted forward from HOFS (R179); none for 0 and 7. -/
def hallSector : Nat → Option Nat
  | 5 => some 0 | 1 => some 1 | 3 => some 2 | 2 => some 3 | 6 => some 4 | 4 => some 5 | _ => none

/-- The boundary between two sectors in sixths of a turn: none unless they are neighbours. -/
def hallBoundary (a b : Nat) : Option Nat :=
  if b = (a + 1) % 6 then some b else if a = (b + 1) % 6 then some a else none

/-- A Hall boundary was or was not within HTOL of the counter angle (R180, R189). -/
def Lane.hallJudge (l : Lane) (n : Axis) (dev : Bool) : Lane :=
  let l := l.when dev fun l => l.raise (R.FB_EVT_HALLDEV n)
  let l := l.onFb n fun b => { b with
    hallDevs := if dev then b.hallDevs + 1 else 0, hallGood := if dev then 0 else b.hallGood + 1 }
  let b := l.fb n
  let l := l.when (decide (2 ≤ b.hallDevs)) fun l => l.causes n fun c => { c with hall := true }
  l.when (decide (4 ≤ b.hallGood)) fun l => l.causes n fun c => { c with hall := false }

/-- The Hall code changes (R179, R180). Between codes that are no neighbours the spec names no boundary: the result is
open. -/
def execHallTransition (e : At) (n : Axis) (code : BitVec 3) (s : State) : Host.Outcome State Fault Refusal :=
  .next (s.logicEvent e fun l =>
    let old := l.get (R.FB_STAT_HALL n)
    let l := l.put (R.FB_STAT_HALL n) code.toNat
    let l := l.when (old != code.toNat) fun l => l.onFb n fun b => { b with hallAt := l.now }
    if !l.flag (R.FB_CFG_HALLEN n) then l
    else
      match hallSector old, hallSector code.toNat with
      | some a, some b =>
        (match hallBoundary a b with
         | some k =>
           let edge : Rat := 65536 / 6 * (k : Rat) + (l.get (R.FB_HALL_HOFS n) : Rat)
           let here := l.thetaEnc n + (l.get (R.DC_THOFS_OFS n) : Rat)
           l.hallJudge n (decide ((l.get (R.FB_HALL_HTOL n) : Rat) < ratAbs (angleDiff (edge - here))))
         | none => if a = b then l else l.nextChoice.hallJudge n (l.choice % 2 == 0))
      | _, _ => l)

/-- A Hall code of 0 or 7 has lasted 1 ms (R180). -/
def execHallInvalid (e : At) (n : Axis) (s : State) : Host.Outcome State Fault Refusal :=
  .next (s.logicEvent e fun l =>
    if l.flag (R.FB_CFG_HALLEN n) ∧ hallSector (l.get (R.FB_STAT_HALL n)) = none ∧ l.since (l.fb n).hallAt (ms 1) then
      ((l.raise (R.FB_EVT_HALLBAD n)).onFb n fun b => { b with hallGood := 0 }).causes n fun c => { c with hall := true }
    else l)

/-- FB_CTRL is written with PRBARM 1: the probe is armed for the edges `sel` (R181). -/
def execPrbarm (e : At) (n : Axis) (sel : BitVec 2) (s : State) : Host.Outcome State Fault Refusal :=
  .next (s.logicEvent e fun l =>
    ((l.put (R.FB_CTRL_PRBEDGE n) sel.toNat).drop (R.FB_STAT_PRBFULL n)).onFb n fun b => { b with armed := true })

/-- The counter at some instant within 10 ns of now: counts the decoder made in that time may be left out (R181). They go
one way, since a reversal begins the stamps anew. -/
def Lane.probePos (l : Lane) (n : Axis) : Nat :=
  let p := l.get (R.FB_POS_POS n)
  let near := ((l.fb n).stamps.filter fun t => l.edgeStamp n < t + ns 10).length
  let out := l.choice % (near + 1)
  if l.flag (R.FB_STAT_DIR n) then (p + 4294967296 - out) % 4294967296 else (p + out) % 4294967296

/-- A probe edge whose level has held for `e.val` counts, after its filter (R181): it latches, or finds the latch full. -/
def execProbeEdge (e : Seen Nat) (n : Axis) (rising : Bool) (s : State) : Host.Outcome State Fault Refusal :=
  .next (s.logicEvent e.toAt fun l =>
    if !filterPasses (l.get (R.FB_FILT_PGLT n)) e.val ∨ !l.bit (R.FB_CTRL_PRBEDGE n) (if rising then 0 else 1) then l
    else if l.flag (R.FB_STAT_PRBFULL n) then l.raise (R.FB_EVT_PRBOVF n)
    else if (l.fb n).armed then
      let l := (l.put (R.FB_PRBPOS_POS n) (l.probePos n)).nextChoice
      let t := l.stampNow / 4
      let l := (l.put (R.FB_PRBTS0_QNS n) (l.stampNow % 4)).put (R.FB_PRBTS0_NS n) (t % 1000000000)
      let l := (l.put (R.FB_PRBTS1_SEC n) (t / 1000000000)).raise (R.FB_STAT_PRBFULL n)
      (l.raise (R.FB_EVT_PRB n)).onFb n fun b => { b with armed := false }
    else l)

/-- No counted edge for STALL ms (R185). -/
def execStall (e : At) (n : Axis) (s : State) : Host.Outcome State Fault Refusal :=
  .next (s.logicEvent e fun l =>
    match (l.fb n).stamps with
    | t :: _ =>
      if l.get (R.FB_CFG_INC n) ≠ 0 ∧ l.since t (ms (l.get (R.FB_SPDCFG_STALL n))) then
        let l := ((l.raise (R.FB_STAT_STILL n)).raise (R.FB_EVT_STALL n)).setSpeed n 0
        l.onFb n fun b => { b with starting := true, skipped := false }
      else l
    | [] => l)

/-- The number of a line: A, B, Z, SL. -/
def lineNo : FbLine → Fin 4
  | .a => 0 | .b => 1 | .z => 2 | .sl => 3

/-- A differential line has been at `e.val.1` mV for `e.val.2` ns: below 100 mV for 1 µs it is faulted (R189). -/
def execLineFault (e : Seen (Int × Nat)) (n : Axis) (line : FbLine) (s : State) : Host.Outcome State Fault Refusal :=
  .next (s.logicEvent e.toAt fun l => l.when (decide (e.val.1.natAbs < 100 ∧ 1000 ≤ e.val.2)) fun l =>
    ((l.raise (R.FB_EVT_LINE n)).onFb n fun b => { b with
      lineBad := b.lineBad ||| 1#4 <<< (lineNo line).val, lineAt := b.lineAt.set (lineNo line) l.now }).causes n fun c =>
      { c with line := true })

/-- A faulted line has been good for `e.val.2` µs: once every faulted line has been so for 1 ms, the next re-reference ends the
cause (R189). -/
def execLineGood (e : Seen (FbLine × Nat)) (n : Axis) (s : State) : Host.Outcome State Fault Refusal :=
  .next (s.logicEvent e.toAt fun l =>
    if 1000 ≤ e.val.2 ∧ l.since (l.fb n).lineAt[(lineNo e.val.1)] (ms 1) then
      l.onFb n fun b => { b with lineBad := b.lineBad &&& ~~~(1#4 <<< (lineNo e.val.1).val) }
    else l)

end Sys2Proof.Machine
end

