-- ==== Sys2Proof/Machine/Sweeps.lean ====
section
/-!
DEFINITION. What the sweeps of comparators have to show (R355 to R358) with the limits of R121.
-/

namespace Sys2Proof.Machine

/-- The ceiling threshold of an axis, the larger of 2 × THR and 6.00 V, in 10 mV (R123). -/
def Lane.ceilingLevel (l : Lane) (n : Axis) : Nat := max (2 * l.get (R.GD_VDS_THR n)) 600

/-- A current comparator trips within ±2 codes of its threshold and releases as programmed (R355). -/
def codeSweepOk (s : CodeSweep) : Bool := s.released && s.trip.any fun d => decide (-2 ≤ d ∧ d ≤ 2)

/-- A threshold error of at most 3 % + 20 mV (R121). -/
def vdsErrorOk (threshold level : Nat) : Bool :=
  decide (100 * level ≤ 103 * threshold + 200 ∧ 97 * threshold ≤ 100 * level + 200)

/-- A lockout falls between 7.3 V and 7.7 V with a hysteresis of 0.4 V to 0.6 V (R121). -/
def lockoutOk (fall rise : Nat) : Bool := decide (730 ≤ fall ∧ fall ≤ 770 ∧ fall + 40 ≤ rise ∧ rise ≤ fall + 60)

/-- The VDS, ceiling and, of a high side, bootstrap-lockout comparators of a switch pass (R357). -/
def Lane.switchSweepOk (l : Lane) (n : Axis) (j : Switch) (s : SwitchSweep) : Bool :=
  vdsErrorOk (l.get (R.GD_VDS_THR n)) s.vds && vdsErrorOk (l.ceilingLevel n) s.ceiling &&
  (j.val % 2 == 1 || lockoutOk s.lockFall s.lockRise)

/-- An over-voltage threshold error of at most 1.0 % (R121). -/
def ovErrorOk (threshold level : Nat) : Bool := decide (100 * level ≤ 101 * threshold ∧ 99 * threshold ≤ 100 * level)

/-- Twin `t` passes: monitor ⌊t / 2⌋ is OV1, OV2, OV3, OVMAX, VG_x or VIN_x (R355, R358, R366). -/
def Lane.twinSweepOk (l : Lane) (t : Nat) (s : MonitorSweep) : Bool :=
  match t / 2 with
  | 0 => ovErrorOk (l.get R.GD_OVA_OV1) s.trip
  | 1 => ovErrorOk (l.get R.GD_OVA_OV2) s.trip
  | 2 => ovErrorOk (l.get R.GD_OVB_OV3) s.trip
  | 3 => ovErrorOk (l.get R.GD_OVB_OVMAX) s.trip
  | 4 => lockoutOk s.trip s.release
  | _ => Config.vinSweepOk s.trip s.release

/-- The phases of failed comparators or stand-ins, in the order of their sweeps. -/
def failedPhases (ss : List (Fin 12 × CodeSweep)) : List (Fin 12) := (ss.filter fun x => !codeSweepOk x.2).map (·.1)

/-- The same as one bit per phase. -/
def phaseBits (ps : List (Fin 12)) : BitVec 12 := ps.foldl (fun m p => m ||| BitVec.twoPow 12 p.val) 0

/-- Twins that fail their sweeps. -/
def Lane.failedTwins (l : Lane) (ss : List (Fin 12 × MonitorSweep)) : BitVec 12 :=
  phaseBits ((ss.filter fun x => !l.twinSweepOk x.1 x.2).map (·.1))

/-- Switches 6n + j that fail their sweeps. -/
def Lane.failedSwitches (l : Lane) (ss : List (Axis × Switch × SwitchSweep)) : BitVec 24 :=
  (ss.filter fun x => !l.switchSweepOk x.1 x.2.1 x.2.2).foldl
    (fun m x => m ||| BitVec.twoPow 24 (6 * x.1.val + x.2.1.val)) 0

end Sys2Proof.Machine
end

