-- ==== Sys2Proof/Machine/Gate.lean ====
section
/-!
DEFINITION. Gate drive and switch protection (Gate Drive and Power-Stage Protection): requests and dead time, trips,
gate supplies, precharge, refresh and the gate-leakage check.
-/

namespace Sys2Proof.Machine

/-- The mask of unavailable switches has changed: two of them take the set out of service, else the next lookup uses the
sub-table (R87, R88). -/
def Lane.afterUnav (l : Lane) (n : Axis) : Lane :=
  let l := l.markUnav n
  if 2 ≤ count6 (l.unav n) ∧ l.inService n then l.setOut n
  else if l.looksUp n then l.lookup n else l.settle n

/-- A switch fails a sweep or the loop-back: its bit in BI_SWFAIL until the next start of day (R357, R359). -/
def Lane.failSwitch (l : Lane) (n : Axis) (j : Switch) (ev : Fld) : Lane :=
  ((l.putBit R.BI_SWFAIL_SW (6 * n.val + j.val) true).raise ev).afterUnav n

/-- The request of the GIN pins of a PE or PS bridge (R113, R114). -/
def Lane.ginRequest (l : Lane) (n : Axis) : BitVec 6 :=
  let g := BitVec.ofNat 6 (l.get (R.GD_GIN_LEVEL n))
  if l.get (R.GD_CFG_SRC n) = 1 then
    bits6 fun j =>
      let p := phaseOf j
      g.getLsbD (lowOf p).val && (g.getLsbD (highOf p).val == (j.val % 2 == 0))
  else if l.get (R.GD_CFG_SRC n) = 2 then bits6 fun j => g.getLsbD j.val && !g.getLsbD (peerOf j).val
  else 0

/-- Turn-ons of a PE or PS bridge that R91 holds back; each is counted once (R117). -/
def Lane.holdGin (l : Lane) (n : Axis) (hold : BitVec 6) : Lane :=
  let fresh := hold &&& ~~~(l.ax n).sw.ginHeld
  (l.addTo (R.GD_CNT1_GINHOLD n) (count6 fresh)).onAx n fun a => { a with sw := { a.sw with ginHeld := hold } }

/-- The request becomes the source's demand; a turn-on that R91 forbids is held and counted (R117). While a demand of rank 3
acts on the bridge the pins wait for its end. -/
def Lane.ginApply (l : Lane) (n : Axis) : Lane :=
  if (l.rank3 n).isSome then l.settle n
  else
    let w := l.ginRequest n
    let hold := bits6 fun j => w.getLsbD j.val && !(l.ax n).sw.want.getLsbD j.val && !l.rateOk n j
    ((l.holdGin n hold).setWant n (w &&& ~~~hold)).settle n

/-- In PS mode a request for both switches of a half-bridge sets GINBOTH and is counted (R114): `old` are the pins as a PS
bridge saw them before. -/
def Lane.ginBoth (l : Lane) (n : Axis) (old levels : BitVec 6) : Lane :=
  let both (g : BitVec 6) (p : Phase) : Bool := g.getLsbD (highOf p).val && g.getLsbD (lowOf p).val
  let k := (([0, 1, 2] : List Phase).filter fun p => both levels p && !both old p).length
  if l.get (R.GD_CFG_SRC n) = 2 ∧ k ≠ 0 then (l.raise (R.GD_EVT_GINBOTH n)).addTo (R.GD_CNT1_GINBOTH n) k else l

/-- A filtered GIN pin has changed (R113 to R117). -/
def execGinChange (e : At) (n : Axis) (levels : BitVec 6) (s : State) : Host.Outcome State Fault Refusal :=
  .next (s.powerEvent e fun l =>
    let old := BitVec.ofNat 6 (l.get (R.GD_GIN_LEVEL n))
    let l := l.put (R.GD_GIN_LEVEL n) levels.toNat
    if l.internal n then l else (l.ginBoth n old levels).ginApply n)

/-- A turn-on that the rate limits held back becomes allowed (R91, R117). -/
def execRateHoldRelease (e : At) (n : Axis) (s : State) : Host.Outcome State Fault Refusal :=
  .next (s.powerEvent e fun l =>
    if l.internal n then
      (if l.flag (R.DC_STAT_RATEHOLD n) then
        let l := l.drop (R.DC_STAT_RATEHOLD n)
        if l.looksUp n then l.lookup n else l
      else l)
    else l.ginApply n)

/-- The refresh width REFW and the dead time DT in raw counts. -/
def Lane.refw (l : Lane) (n : Axis) : Nat := 40 * l.get (R.GD_BSTCFG_REFW n)
/-- See `Lane.refw`. -/
def Lane.deadTime (l : Lane) (n : Axis) : Nat := 40 * l.get (R.GD_DT_DT n)

/-- An insertion may begin: no demand of ranks 1 to 3, no rate limit broken, by the low side or by the high side's return,
the wait after an abort over (R137, R138). -/
def Lane.mayInsert (l : Lane) (n : Axis) (ph : BitVec 3) (above : BitVec 3) : Bool :=
  let a := l.ax n
  !l.blocked n && (l.rank3 n).isNone && decide (a.refresh.retryAt ≤ l.now) &&
  (List.finRange 3).all fun p =>
    !ph.getLsbD p.val ||
      ((if (l.unav n).getLsbD (lowOf p).val then above.getLsbD p.val
        else l.rateOkAt n (lowOf p) (l.now + l.deadTime n) && !(a.sw.peakHeld.getLsbD (lowOf p).val)) &&
       (!a.sw.cmd.getLsbD (highOf p).val ||
         l.rateOkAt n (highOf p) (l.now + 2 * l.deadTime n + l.refw n)))

/-- The insertion of R133 begins on the half-bridges `ph` (R136, R137); others stay due. -/
def Lane.beginInsert (l : Lane) (n : Axis) (ph : BitVec 3) : Lane :=
  let l := (l.raise (R.GD_EVT_REFINS n)).bump (R.GD_CNT0_REFCNT n)
  let l := l.leakAbort n
  let l := l.onAx n fun a =>
    let due := a.refresh.due &&& ~~~ph
    { a with refresh := { a.refresh with
      inserting := a.refresh.inserting ||| ph, insertAt := l.now, due := due
      dueSince := if due = 0 then none else a.refresh.dueSince } }
  l.settle n

/-- Insertions that are due are held back from now on (R137). -/
def Lane.holdInsert (l : Lane) (n : Axis) : Lane :=
  l.onAx n fun a => { a with refresh := { a.refresh with dueSince := some (a.refresh.dueSince.getD l.now) } }

/-- Switch `j` turns on; `gateOk`: its gate passed 7.0 V in time, which a high side's first turn-on judges (R359). -/
def Lane.turnOn (l : Lane) (n : Axis) (j : Switch) (gateOk : Bool) : Lane :=
  let judged := j.val % 2 == 0 && !(l.ax n).sw.looped.getLsbD j.val
  let l := (l.setOn n (l.on n ||| bit6 j)).onAx n fun a => { a with sw := { a.sw with
    turnOns := a.sw.turnOns.set j ((l.now :: a.sw.turnOns[j]).take 4)
    peakHeld := a.sw.peakHeld &&& ~~~(bit6 j)
    peakFree := a.sw.peakFree &&& ~~~(bit6 j)
    looped := a.sw.looped ||| bit6 j } }
  if judged && !gateOk then l.failSwitch n j R.BI_EVT_GATEFAIL else l

/-- Switch `j` may turn on (R118): it is commanded on, its peer has been off for DT with its gate below 2.0 V (`peerLow`),
and after a peak trip the phase current lies 8 codes inside the threshold (`inside`, R124). -/
def Lane.mayTurnOn (l : Lane) (n : Axis) (j : Switch) (peerLow inside : Bool) : Bool :=
  let sw := (l.ax n).sw
  let peer := peerOf j
  sw.cmd.getLsbD j.val && !(l.on n).getLsbD j.val && !(l.on n).getLsbD peer.val && !sw.cmd.getLsbD peer.val && peerLow &&
    l.since sw.offAt[peer] (l.deadTime n) && !l.bit (R.GD_FAULT_GSTK n) peer.val && (inside || !sw.peakHeld.getLsbD j.val)

/-- A turn-on whose dead time is over, but which the rate limits forbid, is held back and counted (R91, R117). -/
def Lane.holdTurnOn (l : Lane) (n : Axis) (j : Switch) : Lane :=
  if l.internal n then l.holdRate n else l.holdGin n ((l.ax n).sw.ginHeld ||| bit6 j)

/-- Dead time is over and switch `j` turns on (R118), unless a rate limit forbids it (R91; not under rank 3, R93); an
insertion that is due runs before the turn-on of its high side (R136). `e.val.2`: the phase current is above the innermost
positive ladder level (R139). -/
def execDeadTimeEnd (e : Seen (Bool × Bool)) (n : Axis) (j : Switch) (inside gateOk : Bool) (s : State) :
    Host.Outcome State Fault Refusal :=
  .next (s.powerEvent e.toAt fun l =>
    let p := phaseOf j
    let due := j.val % 2 == 0 && (l.ax n).refresh.due.getLsbD p.val
    if !l.mayTurnOn n j e.val.1 inside then l
    else if (l.rank3 n).isNone && !l.rateOk n j then l.holdTurnOn n j
    else if due && l.mayInsert n (bit3 p) (if e.val.2 then bit3 p else 0) then l.beginInsert n (bit3 p)
    else (l.when due fun l => l.holdInsert n).turnOn n j gateOk)

/-- High sides whose bootstrap supply is in lockout at the end of the precharge are unavailable (R131, R132). -/
def Lane.stillLocked (l : Lane) (n : Axis) : Lane :=
  let out := bits3 fun p => l.bit (R.GD_STAT_BSTUV n) (highOf p).val
  if out = 0 then l
  else (l.onAx n fun a => { a with prot := { a.prot with bstOut := a.prot.bstOut ||| out } }).afterUnav n

/-- The precharge has lasted PRE: the low-side gates are judged (R359), R101 and R560 apply to the feedback as it stands, and
the first lookup follows (R132). -/
def execPrechargeEnd (e : At) (n : Axis) (gateOk : BitVec 3) (s : State) : Host.Outcome State Fault Refusal :=
  .next (s.powerEvent e fun l =>
    match (l.ax n).refresh.precharge with
    | none => l
    | some t =>
      if l.since t (us (l.get (R.GD_BSTCFG2_PRE n))) then
        let l := l.onAx n fun a => { a with refresh := { a.refresh with precharge := none } }
        let l := l.when (l.internal n && l.inService n) fun l => l.setAxst n .run
        let bad := ([0, 1, 2] : List Phase).filter fun p =>
          !gateOk.getLsbD p.val && (l.ax n).sw.cmd.getLsbD (lowOf p).val
        let l := bad.foldl (fun l p => l.failSwitch n (lowOf p) R.BI_EVT_GATEFAIL) l
        let l := (l.stillLocked n).actInvalid n
        if l.internal n then l.update n else l.ginApply n
      else l)

/-- A gate commanded off for 2.0 µs still reads `e.val` (10 mV): above 2.0 V its peer stays off and the switch is unavailable
(R119). -/
def execGateOffFailure (e : Seen Nat) (n : Axis) (j : Switch) (s : State) : Host.Outcome State Fault Refusal :=
  .next (s.powerEvent e.toAt fun l =>
    let sw := (l.ax n).sw
    if e.val ≤ 200 ∨ sw.cmd.getLsbD j.val ∨ !l.since sw.offAt[j] (us 2) then l
    else (((l.leakAbort n).raise (R.GD_EVT_GSTK n)).putBit (R.GD_FAULT_GSTK n) j.val true).afterUnav n)

/-- The switch of a phase that a peak trip turns off: the high side while it is on, else the low side while that is on
(R124). -/
def Lane.conducting (l : Lane) (n : Axis) (p : Phase) : Option Switch :=
  if (l.on n).getLsbD (highOf p).val then some (highOf p)
  else if (l.on n).getLsbD (lowOf p).val then some (lowOf p)
  else none

/-- A switch stays off by a peak trip until its source requests it anew (R124): after a withdrawal of the request, or at
the first request, where the switch was on by a precharge or an insertion alone. -/
def Lane.holdPeak (l : Lane) (n : Axis) (j : Switch) : Lane :=
  (l.onAx n fun a => { a with sw := { a.sw with
    peakHeld := a.sw.peakHeld ||| bit6 j
    peakFree := (a.sw.peakFree &&& ~~~(bit6 j)) ||| (bit6 j &&& ~~~a.sw.want) } }).settle n

/-- A peak trip outside the active short circuit counts; the sixteenth of a cycle takes the set out (R128). -/
def Lane.countPeak (l : Lane) (n : Axis) : Lane :=
  if l.rank3 n = some lowMask then l
  else
    let l := l.onAx n fun a => { a with prot := { a.prot with peaks := a.prot.peaks + 1 } }
    if (l.ax n).prot.peaks = 16 then (l.raise (R.GD_EVT_PKLIM n)).setOut n else l

/-- The trip of the conducting switch, where there is one. -/
def Lane.holdHit (l : Lane) (n : Axis) : Option Switch → Lane
  | some j => l.holdPeak n j
  | none => l

/-- A peak comparator trips (R72, R124, R128, R138). -/
def execPeakTrip (e : At) (n : Axis) (p : Phase) (positive : Bool) (taken : Bool) (s : State) :
    Host.Outcome State Fault Refusal :=
  .next (s.powerEvent e fun l =>
    let l := (l.raise (R.GD_EVT_PEAK n)).bump (R.GD_CNT0_PKCNT n)
    let l := l.raise (if positive then R.DC_EVT_PEAKP n else R.DC_EVT_PEAKN n)
    let l := (l.leakAbort n).voidAxis
    let l := (l.queueEvent n ⟨l.now, p, if positive then 7 else 0, positive, true⟩).stirDecay n
    let hit := l.conducting n p
    let l := l.holdHit n hit
    let l := l.when (hit == some (lowOf p) && (l.ax n).refresh.inserting.getLsbD p.val) fun l => l.abortInsert n p
    let l := l.countPeak n
    if taken ∧ l.logicUp then (l.takeEvents n).decideSwitch n else l)

/-- The turn-off of switch `j` runs: commanded off within the last 2.0 µs (R119), its gate may still conduct. -/
def Lane.turningOff (l : Lane) (n : Axis) (j : Switch) : Bool :=
  !(l.ax n).sw.cmd.getLsbD j.val && !l.since (l.ax n).sw.offAt[j] (us 2) && !(l.ax n).sw.turnOns[j].isEmpty

/-- Switch `j` was last turned on at least `d` ago. -/
def Lane.onFor (l : Lane) (n : Axis) (j : Switch) (d : Nat) : Bool :=
  match (l.ax n).sw.turnOns[j] with | [] => false | t :: _ => l.since t d

/-- A VDS or ceiling trip latches its switch off with the soft sink and marks it unavailable at once, the Tier 0 action that
Tier 1 confirms or widens (R125, R127, R282). Each switch has its own trip path: a trip that arrives while the switch is being
turned off, for another's trip or by its request, acts as well (R125, R126). -/
def Lane.tripSwitch (l : Lane) (n : Axis) (j : Switch) (ceiling : Bool) : Lane :=
  if (l.on n).getLsbD j.val || l.turningOff n j then
    let l := l.raise (if ceiling then R.GD_EVT_CEIL n else R.GD_EVT_VDS n)
    let l := (l.leakAbort n).voidAxis
    let l := (l.onAx n fun a => { a with prot := { a.prot with trips := a.prot.trips ++ [(j, ceiling)] } }).afterUnav n
    l.onAx n fun a => { a with sw := { a.sw with soft := a.sw.soft ||| bit6 j } }
  else l

/-- The VDS comparator of switch `j` reads `e.val` (10 mV): a trip above THR once BLANK has passed since the turn-on (R122). -/
def execVdsTrip (e : Seen Nat) (n : Axis) (j : Switch) (s : State) : Host.Outcome State Fault Refusal :=
  .next (s.powerEvent e.toAt fun l =>
    if l.get (R.GD_VDS_THR n) < e.val ∧ l.onFor n j (40 * l.get (R.GD_VDS_BLANK n)) then l.tripSwitch n j false else l)

/-- The ceiling comparator of switch `j` reads `e.val.1` at the gate-source voltage `e.val.2` (10 mV): a trip above
max(2 × THR, 6.00 V) from the arming level on (R121, R123). -/
def execCeilingTrip (e : Seen (Nat × Nat)) (n : Axis) (j : Switch) (s : State) : Host.Outcome State Fault Refusal :=
  .next (s.powerEvent e.toAt fun l =>
    if l.ceilingLevel n < e.val.1 ∧ Config.armLevel ≤ e.val.2 then l.tripSwitch n j true else l)

/-- One confirmed trip: the fault bit of its kind and a house-log record of its cause (R127). -/
def Lane.confirmTrip (l : Lane) (n : Axis) (x : Switch × Bool) : Lane :=
  (l.putBit (if x.2 then R.GD_FAULT_CEIL n else R.GD_FAULT_VDS n) x.1.val true).note (.switchTrip n x.1 x.2)

/-- The Tier 1 decision on the trips since the first (R127): it confirms or widens what Tier 0 has done and takes nothing of
it back (R282). -/
def execTier1Decision (e : At) (n : Axis) (s : State) : Host.Outcome State Fault Refusal :=
  .next (s.logicEvent e fun l =>
    let ts := (l.ax n).prot.trips
    let hit := bits6 fun j => ts.any fun x => x.1 == j
    if hit = 0 then l
    else if count6 hit = 1 then
      let l := ts.foldl (fun l x => l.confirmTrip n x) (l.raise (R.GD_EVT_T1DEG n))
      (l.onAx n fun a => { a with prot := { a.prot with trips := [] } }).afterUnav n
    else
      let l := l.onAx n fun a => { a with prot := { a.prot with trips := [], outTrips := a.prot.outTrips ||| hit } }
      ((l.raise (R.GD_EVT_T1OUT n)).markUnav n).setOut n)

/-- VG_x reads `e.val` (10 mV): below 7.5 V every switch of the lane is off (R130). -/
def execVgLockout (e : Seen Nat) (s : State) : Host.Outcome State Fault Refusal :=
  .next (s.powerEvent e.toAt fun l => l.when (decide (e.val < 750)) fun l =>
    let l := ((l.raise R.GD_VMSTAT_VGUV).raise R.GD_LEVT_VGUV).raise R.PW_SUPEVT_VGUV
    let l := l.drop R.PW_SUPSTAT_VGOK
    let l := l.onPower fun p => { p with vgSince := some (p.vgSince.getD l.now) }
    l.voidAxis.allAxes fun l n => (l.leakAbort n).settle n)

/-- A VG_x lockout of 100 µs is a lane fault (R130). -/
def execVgLockoutPersist (e : At) (s : State) : Host.Outcome State Fault Refusal :=
  .next (s.powerEvent e fun l =>
    match l.power.vgSince with
    | some t => if l.since t (us 100) then l.laneOut else l
    | none => l)

/-- VG_x reads `e.val` (10 mV): above 8.0 V the lockout ends (R130). -/
def execVgRecover (e : Seen Nat) (s : State) : Host.Outcome State Fault Refusal :=
  .next (s.powerEvent e.toAt fun l => l.when (decide (800 < e.val)) fun l =>
    let l := ((l.drop R.GD_VMSTAT_VGUV).raise R.PW_SUPSTAT_VGOK).onPower fun p => { p with vgSince := none }
    l.allAxes fun l n => l.settle n)

/-- A bootstrap supply reads `e.val` (10 mV): below 7.5 V its high side is off and unavailable; the third time within 1 s
latches (R131). During the precharge it does not count (R132). -/
def execBootstrapLockout (e : Seen Nat) (n : Axis) (p : Phase) (s : State) : Host.Outcome State Fault Refusal :=
  .next (s.powerEvent e.toAt fun l => l.when (decide (e.val < 750)) fun l =>
    let l := (l.putBit (R.GD_STAT_BSTUV n) (highOf p).val true).raise (R.GD_EVT_BSTUV n)
    let l := l.leakAbort n
    let l := l.onAx n fun a => { a with prot := { a.prot with
      supplied := a.prot.supplied &&& ~~~(bit3 p), restarted := a.prot.restarted &&& ~~~(bit3 p) } }
    if (l.ax n).refresh.precharge.isSome then l
    else
      let recent := l.now :: ((l.ax n).prot.lockouts[p]).filter fun t => decide (l.now < t + ms 1000)
      let l := l.onAx n fun a => { a with prot := { a.prot with
        lockouts := a.prot.lockouts.set p recent
        bstOut := if 3 ≤ recent.length then a.prot.bstOut &&& ~~~(bit3 p) else a.prot.bstOut ||| bit3 p } }
      let l := l.when (decide (3 ≤ recent.length)) fun l =>
        (l.putBit (R.GD_FAULT_BLAT n) (highOf p).val true).raise (R.GD_EVT_BLAT n)
      l.afterUnav n)

/-- A high side is available again once its supply exceeds 8.0 V and its refresh timer has restarted (R131). -/
def Lane.bstBack (l : Lane) (n : Axis) (p : Phase) : Lane :=
  let a := (l.ax n).prot
  if a.bstOut.getLsbD p.val ∧ a.supplied.getLsbD p.val ∧ a.restarted.getLsbD p.val then
    (l.onAx n fun a => { a with prot := { a.prot with bstOut := a.prot.bstOut &&& ~~~(bit3 p) } }).afterUnav n
  else l

/-- A bootstrap supply reads `e.val` (10 mV): above 8.0 V it is back (R131). -/
def execBootstrapRecover (e : Seen Nat) (n : Axis) (p : Phase) (s : State) : Host.Outcome State Fault Refusal :=
  .next (s.powerEvent e.toAt fun l => l.when (decide (800 < e.val)) fun l =>
    let l := l.putBit (R.GD_STAT_BSTUV n) (highOf p).val false
    (l.onAx n fun a => { a with prot := { a.prot with supplied := a.prot.supplied ||| bit3 p } }).bstBack n p)

/-- Step 3 of a running insertion has lasted REFW: the low side on, or, where it is unavailable, both off (R136, R139). -/
def Lane.insertDone (l : Lane) (n : Axis) (p : Phase) : Bool :=
  if (l.unav n).getLsbD (lowOf p).val then l.since (l.ax n).refresh.insertAt (l.deadTime n + l.refw n)
  else (l.on n).getLsbD (lowOf p).val && l.onFor n (lowOf p) (l.refw n)

/-- SH has been below 2.0 V for `e.val` (10 ns): from REFW on the refresh timer restarts, and with it ends an insertion that
has done its step 3 (R134, R136). -/
def execRefreshTimerRestart (e : Seen Nat) (n : Axis) (p : Phase) (s : State) : Host.Outcome State Fault Refusal :=
  .next (s.powerEvent e.toAt fun l =>
    if e.val < l.get (R.GD_BSTCFG_REFW n) then l
    else
    let l := l.putBit (R.GD_STAT_PEND n) (highOf p).val false
    let l := l.onAx n fun a =>
      let due := a.refresh.due &&& ~~~(bit3 p)
      { a with
        refresh := { a.refresh with
          timers := a.refresh.timers.set p l.now
          due := due
          dueSince := if due = 0 then none else a.refresh.dueSince }
        prot := { a.prot with restarted := a.prot.restarted ||| bit3 p } }
    (l.when (l.insertDone n p) fun l => l.endInsert n p).bstBack n p)

/-- The refresh timer reaches REFT − PEND: ZAUTO prefers 000 from now on (R86, R133, R135). -/
def execRefreshPending (e : At) (n : Axis) (p : Phase) (s : State) : Host.Outcome State Fault Refusal :=
  .next (s.powerEvent e fun l =>
    if l.since (l.ax n).refresh.timers[p] (us (100 * (l.get (R.GD_BSTCFG_REFT n) - l.get (R.GD_BSTCFG_PEND n)))) then
      l.putBit (R.GD_STAT_PEND n) (highOf p).val true
    else l)

/-- The half-bridges whose refresh an insertion makes: those of `due` whose timers have reached REFT, those that wait, and,
with these, any whose timers reach REFT within 100 µs while their high sides are on (R137). -/
def Lane.refreshSet (l : Lane) (n : Axis) (due : BitVec 3) : BitVec 3 :=
  let reft := 100 * l.get (R.GD_BSTCFG_REFT n)
  let ripe := bits3 fun p => due.getLsbD p.val && l.since (l.ax n).refresh.timers[p] (us reft)
  let near := bits3 fun p => (l.on n).getLsbD (highOf p).val && l.since (l.ax n).refresh.timers[p] (us (reft - 100))
  if ripe ||| (l.ax n).refresh.due = 0 then 0 else ripe ||| (l.ax n).refresh.due ||| near

/-- Refresh timers reach REFT: the bootstrap capacitor of a high side that has been on for long is refreshed (R133, R136, R137,
R139). The insertion begins, waits for the next turn-on of its high side, or is held back. `above`: phases whose current is
above the innermost positive level. -/
def execRefreshInsert (e : At) (n : Axis) (due : BitVec 3) (above : BitVec 3) (s : State) :
    Host.Outcome State Fault Refusal :=
  .next (s.powerEvent e fun l =>
    let all := l.refreshSet n due
    let now := bits3 fun p => all.getLsbD p.val && (l.on n).getLsbD (highOf p).val
    if all = 0 then l
    else if now ≠ 0 ∧ l.mayInsert n all above then l.beginInsert n all
    else
      l.onAx n fun a => { a with refresh := { a.refresh with
        due := all
        dueSince := if now = 0 then a.refresh.dueSince else some (a.refresh.dueSince.getD l.now) } })

/-- An insertion has been held back for 100 µs (R137). -/
def execRefreshLate (e : At) (n : Axis) (s : State) : Host.Outcome State Fault Refusal :=
  .next (s.powerEvent e fun l =>
    match (l.ax n).refresh.dueSince with
    | some t => if l.since t (us 100) then l.raise (R.GD_EVT_REFLATE n) else l
    | none => l)

/-- A write of GD_LKCTL[REQ] (R141). -/
def execLeakCheckRequest (e : At) (n : Axis) (mask : BitVec 6) (s : State) : Host.Outcome State Fault Refusal :=
  .next (s.logicEvent e fun l => l.put (R.GD_LKCTL_REQ n) mask.toNat)

/-- The measured bootstrap supply of a high side shows in GD_BSTV0 and GD_BSTV1, in 10 mV (R152). -/
def Lane.showBst (l : Lane) (n : Axis) (p : Phase) (v : Nat) : Lane :=
  match p with
  | 0 => l.put (R.GD_BSTV0_UH n) v
  | 1 => l.put (R.GD_BSTV0_VH n) v
  | 2 => l.put (R.GD_BSTV1_WH n) v

/-- The hold-release check of switch `j` may start: requested, and it and its peer off for 100 µs; a high side with its
supply above 8.0 V (R141). -/
def Lane.leakMayStart (l : Lane) (n : Axis) (j : Switch) (bst : Nat) : Bool :=
  let sw := (l.ax n).sw
  let quiet (k : Switch) : Bool := !sw.cmd.getLsbD k.val && !(l.on n).getLsbD k.val && l.since sw.offAt[k] (us 100)
  l.bit (R.GD_LKCTL_REQ n) j.val && !(l.ax n).leak.running.any (fun x => x.1 == j) && quiet j && quiet (peerOf j) &&
    (j.val % 2 == 1 || decide (800 < bst))

/-- The active pull-down of switch `j` is released (R142 step 1); `bst` is its bootstrap supply in 10 mV. -/
def execLeakCheckStart (e : At) (n : Axis) (j : Switch) (bst : Nat) (s : State) : Host.Outcome State Fault Refusal :=
  .next (s.powerEvent e fun l =>
    let l := l.when (j.val % 2 == 0) fun l => l.showBst n (phaseOf j) bst
    if l.leakMayStart n j bst then l.onAx n fun a => { a with leak := ⟨(j, l.now) :: a.leak.running⟩ } else l)

/-- What the end of a check leaves (R142, R144). -/
def Lane.leakResult (l : Lane) (n : Axis) (j : Switch) (r : LeakResult) : Lane :=
  match r with
  | .void => l.raise (R.GD_EVT_LKVOID n)
  | .pass =>
    ((l.putBit (R.GD_LKCTL_REQ n) j.val false).putBit (R.GD_LKCTL_FAIL1 n) j.val false).putBit (R.GD_LKCTL_PASS n) j.val true
  | .fail =>
    let l' := l.putBit (R.GD_LKCTL_PASS n) j.val false
    if l.bit (R.GD_LKCTL_FAIL1 n) j.val then
      (((l'.putBit (R.GD_LKCTL_REQ n) j.val false).putBit (R.GD_LKCTL_FAIL1 n) j.val false).putBit
        (R.GD_FAULT_LEAK n) j.val true).afterUnav n
    else (l'.putBit (R.GD_LKCTL_FAIL1 n) j.val true).raise (R.GD_EVT_LKFAIL n)

/-- The 20 µs window ends (R142, R144), and with it the sweep of R357 that shared it. -/
def execLeakCheckEnd (e : At) (n : Axis) (j : Switch) (r : LeakResult) (sweep : SwitchSweep) (s : State) :
    Host.Outcome State Fault Refusal :=
  .next (s.powerEvent e fun l =>
    match (l.ax n).leak.running.find? fun x => x.1 == j with
    | some (_, t) =>
      if l.since t (us 20) then
        let l := (l.onAx n fun a => { a with leak := ⟨a.leak.running.filter fun x => x.1 != j⟩ }).leakResult n j r
        if r ≠ .void ∧ l.reh.sweepAsked[n].getLsbD j.val then
          let l := l.onReh fun q => { q with
            sweepAsked := q.sweepAsked.set n (q.sweepAsked[n] &&& ~~~(bit6 j))
            swept := q.swept.set n (q.swept[n].set j l.mode_.cycle) }
          if l.switchSweepOk n j sweep then l else l.failSwitch n j R.BI_EVT_SWFAIL
        else l
      else l
    | none => l)

/-- Clears the bits `m` of a field of one bit per switch. -/
def Lane.clearBits (l : Lane) (f : Fld) (m : BitVec 6) : Lane := l.put f (BitVec.ofNat 6 (l.get f) &&& ~~~m).toNat

/-- Clears every GD_FAULT bit of the named switches (R129). -/
def Lane.clearFaults (l : Lane) (n : Axis) (m : BitVec 6) : Lane :=
  (((((l.clearBits (R.GD_FAULT_BLAT n) m).clearBits (R.GD_FAULT_GSTK n) m).clearBits (R.GD_FAULT_LEAK n) m).clearBits
    (R.GD_FAULT_CEIL n) m).clearBits (R.GD_FAULT_VDS n) m).afterUnav n

/-- A write of GD_FCLR: effective in WORKSHOP only (R129). -/
def execFaultClear (e : At) (n : Axis) (mask : BitVec 6) (s : State) : Host.Outcome State Fault Refusal :=
  .next (s.logicEvent e fun l => if l.mode = .workshop then l.clearFaults n mask else l)

end Sys2Proof.Machine
end

