-- ==== Sys2Proof/Machine/OverVoltage.lean ====
section
/-!
DEFINITION. Motor-supply over-voltage and the brake chopper (R145 to R151).
-/

namespace Sys2Proof.Machine

/-- The on-time of BCH_x up to now counts in GD_CHON (R151). -/
def Lane.chopperCount (l : Lane) : Lane :=
  if l.flag R.GD_VMSTAT_BCH then
    let total := (l.now - l.link.chonMark) + l.link.chonRest
    (l.put R.GD_CHON_CHON (l.get R.GD_CHON_CHON + total / 4000)).onLink fun k =>
      { k with chonRest := total % 4000, chonMark := l.now }
  else l

/-- BCH_x turns on (R146). -/
def Lane.chopperOn (l : Lane) : Lane :=
  (l.raise R.GD_VMSTAT_BCH).onLink fun k =>
    { k with bchOnAt := some l.now, bchInStage := true, bchHeld := false, chonMark := l.now }

/-- BCH_x turns off. -/
def Lane.chopperOff (l : Lane) : Lane :=
  let l := l.chopperCount
  ((l.drop R.GD_VMSTAT_BCH).drop R.GD_VMSTAT_BCS).onLink fun k => { k with bchOffAt := l.now, bchHeld := false }

/-- GD_VMSTAT[LEVEL]: the highest active stage. -/
def Lane.showLevel (l : Lane) : Lane :=
  l.put R.GD_VMSTAT_LEVEL
    (if l.link.ovmax then 4 else if l.link.ov3 then 3 else if l.link.ov2 then 2 else if l.link.ov1 then 1 else 0)

/-- The chopper may turn on: enabled and not faulted. -/
def Lane.chopperUsable (l : Lane) : Bool := l.flag R.GD_OVCFG_CHEN && !l.flag R.GD_VMSTAT_CHFLT

/-- Stage OV1 begins: BCH_x turns on, at the earliest 20 µs after it last did (R146, R151). -/
def Lane.stageOv1 (l : Lane) : Lane :=
  let l := ((l.raise R.GD_LEVT_OV1).onLink fun k => { k with ov1 := true, bchInStage := false, releaseHeld := false }).showLevel
  if l.chopperUsable ∧ !l.flag R.GD_VMSTAT_BCH then
    (match l.link.bchOnAt with
     | some t => if l.since t (us 20) then l.chopperOn else l.onLink fun k => { k with bchHeld := true }
     | none => l.chopperOn)
  else l

/-- Stage OV1 is released, and with it the chopper. -/
def Lane.dropOv1 (l : Lane) : Lane :=
  let l := (l.onLink fun k => { k with ov1 := false, releaseHeld := false, bchHeld := false }).showLevel
  l.when (l.flag R.GD_VMSTAT_BCH) fun l => l.chopperOff

/-- BCH_x turned on in this stage and has not yet been on for 2.0 µs. -/
def Lane.minOnRuns (l : Lane) : Bool :=
  l.flag R.GD_VMSTAT_BCH && l.link.bchInStage &&
    (match l.link.bchOnAt with | some t => !l.since t (us 2) | none => false)

/-- VM_x lies at or below OV1 − CHH with no higher stage active: release, or wait for the minimum on-time (R146, R151). -/
def Lane.releaseOv1 (l : Lane) (vm : Nat) : Lane :=
  if l.link.ov1 ∧ !l.link.ov2 ∧ !l.link.ov3 ∧ !l.link.ovmax ∧ vm + l.get R.GD_OVH_CHH ≤ l.get R.GD_OVA_OV1 then
    if l.minOnRuns then l.onLink fun k => { k with releaseHeld := true } else l.dropOv1
  else l

/-- Every axis that looks its table up does so; a PE or PS bridge follows its pins, the others their demands. -/
def Lane.lookAll (l : Lane) : Lane :=
  l.allAxes fun l n => if l.looksUp n then l.lookup n else if l.internal n then l.settle n else l.ginApply n

/-- VM_x lies at or below OV2 − RELH and OV3 is not active: regeneration is permitted again, then OV1 is judged. -/
def Lane.releaseOv2 (l : Lane) (vm : Nat) : Lane :=
  let l :=
    if l.link.ov2 ∧ !l.link.ov3 ∧ !l.link.ovmax ∧ vm + l.get R.GD_OVH_RELH ≤ l.get R.GD_OVA_OV2 then
      ((l.onLink fun k => { k with ov2 := false }).showLevel).lookAll
    else l
  l.releaseOv1 vm

/-- The event's VM_x shows in GD_VMSTAT[VM]. -/
def Lane.showVm (l : Lane) (vm : Nat) : Lane := l.put R.GD_VMSTAT_VM vm

/-- VM_x reaches OV1 (R146). -/
def execOv1Enter (e : At) (vm : Nat) (s : State) : Host.Outcome State Fault Refusal :=
  .next (s.powerEvent e fun l =>
    let l := l.showVm vm
    if l.get R.GD_OVA_OV1 ≤ vm ∧ !l.link.ov1 then l.stageOv1 else l)

/-- VM_x falls to OV1 − CHH (R146). -/
def execOv1Release (e : At) (vm : Nat) (s : State) : Host.Outcome State Fault Refusal :=
  .next (s.powerEvent e fun l => (l.showVm vm).releaseOv1 vm)

/-- VM_x reaches OV2: regeneration is inhibited on every axis; a PE or PS bridge acts as at OV3 (R117, R146, R147). -/
def execOv2Enter (e : At) (vm : Nat) (s : State) : Host.Outcome State Fault Refusal :=
  .next (s.powerEvent e fun l =>
    let l := l.showVm vm
    if l.get R.GD_OVA_OV2 ≤ vm ∧ !l.link.ov2 then
      let l := ((l.raise R.GD_LEVT_OV2).onLink fun k => { k with ov2 := true }).showLevel
      l.allAxes fun l n => if l.looksUp n then l.lookup n else if l.internal n then l.settle n else l.enterRank3 n
    else l)

/-- VM_x falls to OV2 − RELH (R146). -/
def execOv2Release (e : At) (vm : Nat) (s : State) : Host.Outcome State Fault Refusal :=
  .next (s.powerEvent e fun l => (l.showVm vm).releaseOv2 vm)

/-- VM_x reaches OV3: the active short circuit at speed, all six off otherwise (R146, R148). -/
def execOv3Enter (e : At) (vm : Nat) (s : State) : Host.Outcome State Fault Refusal :=
  .next (s.powerEvent e fun l =>
    let l := l.showVm vm
    if l.get R.GD_OVB_OV3 ≤ vm ∧ !l.link.ov3 then
      let l := ((l.raise R.GD_LEVT_OV3).onLink fun k => { k with ov3 := true }).showLevel
      l.voidAxis.allAxes fun l n => (l.leakAbort n).enterRank3 n
    else l)

/-- VM_x has stayed at or below OV3 − RELH for `e.val` µs, and reads `vm`: after 1 ms OV3 ends (R146). -/
def execOv3Release (e : Seen Nat) (vm : Nat) (s : State) : Host.Outcome State Fault Refusal :=
  .next (s.powerEvent e.toAt fun l =>
    let l := l.showVm vm
    if 1000 ≤ e.val ∧ l.link.ov3 ∧ !l.link.ovmax ∧ vm + l.get R.GD_OVH_RELH ≤ l.get R.GD_OVB_OV3 then
      ((l.onLink fun k => { k with ov3 := false }).showLevel.lookAll).releaseOv2 vm
    else l)

/-- VM_x reaches OVMAX: every switch off, and the lane goes OUT (R146). -/
def execOvmax (e : At) (vm : Nat) (s : State) : Host.Outcome State Fault Refusal :=
  .next (s.powerEvent e fun l =>
    let l := l.showVm vm
    if l.get R.GD_OVB_OVMAX ≤ vm ∧ !l.link.ovmax then
      let l := ((l.raise R.GD_LEVT_OVMAX).onLink fun k => { k with ovmax := true }).showLevel
      (l.allAxes fun l n => (l.leakAbort n).settle n).laneOut
    else l)

/-- BCS_x shows no conduction 2.0 µs after BCH_x turned on: the chopper is faulted and REGLOCK is set (R149). -/
def execChopperFault (e : At) (s : State) : Host.Outcome State Fault Refusal :=
  .next (s.powerEvent e fun l =>
    match l.link.bchOnAt with
    | some t =>
      if l.flag R.GD_VMSTAT_BCH ∧ l.since t (us 2) then
        let l := (l.chopperOff.raise R.GD_VMSTAT_CHFLT).raise R.GD_LEVT_CHFLT
        let l := (l.raise R.GD_VMSTAT_REGLOCK).raise R.GD_LEVT_REGLOCK
        let l := if l.link.releaseHeld then l.dropOv1 else l
        l.lookAll
      else l
    | none => l)

/-- BCS_x has conducted for `e.val` µs: at 10 µs, with BCH_x off for more than 2.0 µs, every set of the lane goes out, and the
supply contactor opens (R150). -/
def execStuckChopper (e : Seen Nat) (s : State) : Host.Outcome State Fault Refusal :=
  .next (s.powerEvent e.toAt fun l =>
    if 10 ≤ e.val ∧ !l.flag R.GD_VMSTAT_BCH ∧ l.link.bchOffAt + us 2 < l.now then
      let l := ((l.raise R.GD_VMSTAT_BCS).raise R.GD_VMSTAT_STUCK).raise R.GD_LEVT_STUCK
      (l.allAxes fun l n => l.setOut n).koSettle
    else l)

/-- BCH_x has been on for 2.0 µs: a release that waited is made (R151). Its conduction shows in BCS. -/
def execChopperMinOnEnd (e : At) (s : State) : Host.Outcome State Fault Refusal :=
  .next (s.powerEvent e fun l =>
    if l.flag R.GD_VMSTAT_BCH ∧ !l.minOnRuns then
      let l := l.raise R.GD_VMSTAT_BCS
      if l.link.releaseHeld then l.dropOv1 else l
    else l)

/-- 20 µs after BCH_x last turned on, a turn-on that was held back is made if OV1 is still active (R151). -/
def execChopperIntervalEnd (e : At) (s : State) : Host.Outcome State Fault Refusal :=
  .next (s.powerEvent e fun l =>
    match l.link.bchOnAt with
    | some t =>
      if l.link.bchHeld ∧ l.link.ov1 ∧ l.since t (us 20) ∧ l.chopperUsable then l.chopperOn else l
    | none => l)

end Sys2Proof.Machine
end

