-- ==== Sys2Proof/Machine/Startup.lean ====
section
/-!
DEFINITION. Start of day (R323 to R339): the keeper's start, firmware, the rehearsal steps, SCRIPT CHECK, and the
comparison of digests, versions and serials.
-/

namespace Sys2Proof.Machine

/-! ### Keeper start and firmware -/

/-- The keeper's registers at its start (R535, R537, R548): fuses, keys, the tamper cause it records. DEDUCED (assumption
99): an unlock has overwritten the helper data, so the unclonable function is not reconstructed again. The keeper runs, and
HELLO frames leave on the wing links (R38, R256). -/
def Lane.keeperStart (l : Lane) : Lane :=
  let u := l.trust.fuses
  let l := (l.putBit R.LC_ENGSTAT_RUN 7 true).sendHellos
  let l := (l.putFlag R.KP_STAT_PUFOK (!u.erased)).putFlag R.KP_STAT_IDKEY (!u.erased)
  let l := (l.putFlag R.KP_STAT_ERASED u.erased).showFuses
  let l := l.putFlag R.KP_STAT_DBGOPEN l.trust.debugOpen
  let l := (l.put R.KP_TAMP_COUNT (min 65535 l.trust.flash.tampers)).put R.KP_TAMP_CAUSE l.trust.flash.tamperCause
  let l := l.when (l.trust.flash.tamperCause != 0) fun l => (l.raise R.KP_EVT_TAMPER).note (.tampered l.trust.flash.tamperCause)
  (l.onTrust fun t => { t with flash := { t.flash with tamperCause := 0 } }).when (u.erased || l.trust.debugOpen)
    fun l => l.onWing fun w => { w with struck := true }

/-- The lane is held in BOOT (R41, R535, R570). -/
def Lane.heldInBoot (l : Lane) : Bool := l.power.testHigh || l.get R.LC_MEMCFG_SIZE == 0

/-- Memory training and initialisation end (R41, R323 step 2): `size` GiB were detected. -/
def execMemoryInitDone (e : At) (size : Fin 5) (s : State) : Host.Outcome State Fault Refusal :=
  .next (s.logicEvent e fun l =>
    if l.mode = .boot ∧ !l.flag R.LC_MEMCFG_ECCON then
      ((l.put R.LC_MEMCFG_SIZE size).raise R.LC_MEMCFG_ECCON).keeperStart
    else l)

/-- A firmware image is accepted (R319 to R321). -/
def Lane.firmwareOk (l : Lane) (f : FwImage) : Bool := (l.firmwareRefused f).isNone

/-- The seat table of R533: seat 7 alone, on SEAT_x, with rank 7 and class 3. -/
def Lane.bareSeats (l : Lane) : Lane :=
  let l := (List.range 8).foldl (fun l s => (l.setWord (R.HS_SCFG s) 0).setWord (R.HS_SCAN s) 0) l
  let l := ((l.raise (R.HS_SCFG_DEF 7)).put (R.HS_SCFG_RANK 7) 7).put (R.HS_SCFG_MAXCLS 7) 3
  let slot := ((List.range 4).find? fun k => !l.trust.fuses.revokeEcdsa.getLsbD k)
  let key : BitVec 64 := match slot with | some k => l.trust.fuses.keyEcdsa.toList.getD k 0 | none => 0
  let l := (l.setWord (R.HS_SKEYLO 7) (key.setWidth 32)).setWord (R.HS_SKEYHI 7) ((key >>> 32).setWidth 32)
  (l.raise R.HS_PORT_EN).put R.HS_PORT_SEAT 7

/-- Floor durations in ms and extra powers in mW of the start-of-day steps (R344). -/
def stepCost : Nat → Nat × Nat
  | 1 => (20, 300) | 2 => (30, 400) | 3 => (30, 800) | 4 => (2, 200) | 5 => (48, 1200)
  | 6 => (36, 400) | 7 => (25, 500) | 8 => (58, 600) | 9 => (1, 50) | _ => (0, 0)

/-- The REHEARSAL ticket of a start-of-day step (R344); no engine is stated for it. -/
def stepTicket (k : Nat) : Cost :=
  { cls := 2, engine := .k, duration := (stepCost k).1 * 1000000, dieLD := 0, diePD := 0, extra := (stepCost k).2
    winding := Vector.replicate 4 0, brake := Vector.replicate 4 0, supply := 0 }

/-- Queues a start-of-day step. -/
def Lane.queueStep (l : Lane) (k : Nat) : Lane := l.queueTicket (.step k) (stepTicket k) none none

/-- The engines start, REHEARSAL is entered, and the steps that wait for no other are queued, with the BACKGROUND ticket that
initialises the rest of the memory (R323, R344). -/
def Lane.startRehearsal (l : Lane) (f : FwImage) : Lane :=
  let l := (l.onTrust fun t => { t with fw := some f }).put R.LC_REV_FWV (imageVersion f.envelope)
  let l := ((l.takeMode .rehearsal).put R.LC_ENGSTAT_RUN 255).sendHellos
  let l := ((l.put R.LE_LSTAT_RUN 1).put R.BI_STAT_PHASE 1).bareSeats
  let l := l.onReh fun r => { r with since := l.now }
  ([1, 3, 5, 6, 7, 8, 9].foldl (fun (l : Lane) k => l.queueStep k) l).queueActivity .memory 8 none

/-- The keeper ends the verification of a firmware slot: REHEARSAL, the other slot, or the ROM responder (R323, R324). -/
def Lane.verifyFirmware (l : Lane) : Lane :=
  let left := (slotOrder l.fwSlots).filter fun k => !l.trust.fwTried.testBit k.val
  match left with
  | [] => (l.onTrust fun t => { t with romResponder := true }).bareSeats
  | k :: r =>
    let l := l.onTrust fun t => { t with fwTried := t.fwTried ||| 2 ^ k.val }
    match l.fwSlots[k] with
    | some (_, f) =>
      if l.firmwareOk f then l.startRehearsal f
      else if r.isEmpty then (l.onTrust fun t => { t with romResponder := true }).bareSeats
      else l
    | none => l

/-- The keeper finishes verifying a firmware slot. -/
def execFirmwareVerified (e : At) (s : State) : Host.Outcome State Fault Refusal :=
  .next (s.logicEvent e fun l =>
    if l.mode = .boot ∧ l.flag R.LC_MEMCFG_ECCON ∧ !l.heldInBoot ∧ !l.trust.romResponder then l.verifyFirmware else l)

/-! ### Rehearsal steps (R343 to R362) -/

/-- Marks blocks unusable by `f`: a change of BI_UNUS or LC_ENGSTAT is shown and logged (R363). -/
def Lane.marking (l : Lane) (f : Lane → Lane) : Lane :=
  let l' := f l
  if l'.word R.BI_UNUS = l.word R.BI_UNUS ∧ l'.get R.LC_ENGSTAT_UNUS = l.get R.LC_ENGSTAT_UNUS then l'
  else (l'.raise R.BI_EVT_UNUSABLE).note (.unusable (l'.word R.BI_UNUS) (l'.get R.LC_ENGSTAT_UNUS))

/-- Sets bits of a field. -/
def Lane.orBits (l : Lane) (f : Fld) (m : Nat) : Lane := l.put f (l.get f ||| m)

/-- How many of the low `n` bits of a number are 1. -/
def ones (n m : Nat) : Nat := ((List.range n).filter fun k => m.testBit k).length

/-- Engines fail their self-test: one trio core leaves a pair, anything else takes the lane OUT (R362); the loop pair runs
no more without L0 or L1 (R218). -/
def Lane.failEngines (l : Lane) (m : BitVec 8) : Lane :=
  let l := l.marking fun l =>
    let l := (l.orBits R.LC_ENGSTAT_UNUS m.toNat).put R.LC_ENGSTAT_RUN (l.get R.LC_ENGSTAT_RUN &&& (255 - m.toNat))
    let l := l.when (m.getLsbD 3 || m.getLsbD 4) fun l => l.drop R.LE_LSTAT_RUN
    l.orBits R.TV_STAT_UNUS (m.toNat % 8)
  if 2 ≤ ones 3 (l.get R.TV_STAT_UNUS) ∨ m.toNat / 8 ≠ 0 then l.laneOut else l

/-- A failing bit of stage memory is reported (R352). -/
def Lane.showMemory (l : Lane) (bank row word bit : Nat) (ecc : Bool) : Lane :=
  let l := ((l.raise R.BI_MEMRES_VALID).put R.BI_MEMRES_BANK bank).put R.BI_MEMRES_ROW row
  let l := ((l.put R.BI_MEMRES_WORD word).putFlag R.BI_MEMRES_ECC ecc).put R.BI_MEMRES_BIT bit
  l.note (.memory bank row word bit ecc)

/-- The rows of failing bits that the list does not hold yet. -/
def newRows (bits : List (Nat × Nat)) (known : List (Nat × Nat)) : List (Nat × Nat) :=
  bits.foldl (fun r x => if x ∈ r ∨ x ∈ known then r else r ++ [x]) []

/-- Stage memory with `u` the banks that are usable: sixteen leave no rotation bank, fewer take the lane OUT (R354). The
range of an unusable bank is served by bank 16. -/
def Lane.bankCount (l : Lane) : Lane :=
  let bad := l.get R.BI_UNUS_BANK
  let usable := 17 - ones 17 bad
  let l := l.onReh fun r => { r with
    bankMap := Vector.ofFn fun i => if bad.testBit r.bankMap[i] then 16 else r.bankMap[i]
    spareBank := if usable = 17 then r.spareBank else none }
  if usable = 17 then l
  else
    let l := l.raise R.BI_STAT_ROTSTOP
    if usable ≤ 15 then l.laneOut else l

/-- The march of step 5 (R350): listed rows are mapped first, failing rows are added and repaired; a bank that needs
more than 8 spares, or whose mapping fails, is unusable. Burst-queue banks follow R362. -/
def Lane.marchAll (l : Lane) (r : StepResult) : Lane :=
  let rows := newRows (r.bits.map fun b => (b.1.val, b.2.1.val)) l.trust.flash.repair
  let list := l.trust.flash.repair ++ rows
  let l := r.bits.foldl (fun l b => l.showMemory b.1 b.2.1 b.2.2.1 b.2.2.2 false) l
  let l := l.when (!r.bits.isEmpty) fun l => l.raise R.BI_EVT_MEMFAIL
  let need (b : Nat) : Nat := (list.filter fun x => x.1 == b).length
  let bad (b : Nat) : Bool := decide (8 < need b) || r.mapBad.getLsbD b
  let l := l.onTrust fun t => { t with flash := { t.flash with repair := list } }
  let l := l.onReh fun q => { q with spares := Vector.ofFn fun b => need b.val }
  let l := l.addTo R.BI_MEMCNT_FAILROWS rows.length
  let l := (l.put R.BI_MEMCNT_REPAIRED (min 255 (list.filter fun x => !bad x.1).length)).drop R.BI_MEMCNT_PENDING
  let l := l.marking fun l => l.orBits R.BI_UNUS_BANK (((List.range 17).filter bad).map (2 ^ ·)).sum
  let l := l.onReh fun q => { q with burstBad := max q.burstBad r.burst }
  let l := l.when (decide (0 < r.burst)) fun l => l.marking fun l => l.raise R.BI_UNUS_BQSPARE
  l.bankCount.when (decide (2 ≤ r.burst)) fun l => l.laneOut

/-- Failed comparators and stand-ins by phase: a stand-in takes the role of a failed comparator and the phase's proof
stops; two in a phase, the stand-in counted, put the set out (R356). -/
def Lane.failComparators (l : Lane) (comps : List (Fin 12)) (standIns : BitVec 12) : Lane :=
  let count (p : Fin 12) : Nat := (comps.filter (· == p)).length
  let hit := (List.finRange 12).filter fun p => 0 < count p ∨ standIns.getLsbD p.val
  let l := l.when (!hit.isEmpty) fun l => l.raise R.BI_EVT_CMPFAIL
  hit.foldl (fun (l : Lane) (p : Fin 12) =>
    let l := l.onReh fun q => { q with
      cmpFailed := q.cmpFailed.set p (q.cmpFailed[p] + count p), proofStopped := q.proofStopped ||| BitVec.twoPow 12 p.val }
    let l := if standIns.getLsbD p.val then l.putBit R.BI_CMPST_SIFAIL p.val true else l.putBit R.BI_CMPST_INROLE p.val true
    if 2 ≤ l.reh.cmpFailed[p] + (l.bit R.BI_CMPST_SIFAIL p.val).toNat then l.setOut ⟨p.val / 3, by omega⟩ else l) l

/-- Switches fail a sweep (R357). -/
def Lane.failSwitches (l : Lane) (m : BitVec 24) : Lane :=
  if m = 0 then l
  else ((l.orBits R.BI_SWFAIL_SW m.toNat).raise R.BI_EVT_SWFAIL).allAxes fun l n => l.afterUnav n

/-- Twins fail: the partner acts alone (R358). -/
def Lane.failTwins (l : Lane) (m : BitVec 12) : Lane :=
  if m = 0 then l else (l.orBits R.BI_TWIN_FAIL m.toNat).raise R.BI_EVT_TWINFAIL

/-- The book is refused with the content of R335 (R336). -/
def Lane.refuseBook (l : Lane) (f : BookFault) : Lane :=
  let l := l.onTrust fun t => { t with state := 3, code := f.1, section_ := f.2.1, offset := f.2.2, checking := none }
  l.note (.bookRefused f.1 f.2.1 f.2.2)

/-- The keeper takes a verified book for SCRIPT CHECK. -/
def Lane.takeBook (l : Lane) (k : Fin 2) (b : Book) : Lane :=
  l.onTrust fun t => { t with state := 2, code := 0, section_ := 0, offset := 0, checking := some b, slot := some k }

/-- Step 2: the active prompt book is verified, or the other slot's when it is refused (R323). -/
def Lane.readBook (l : Lane) : Lane :=
  (slotOrder l.pbSlots).foldl (fun l k =>
    if l.trust.checking.isSome then l
    else
      match l.pbSlots[k] with
      | none => l
      | some (_, b) =>
        match l.verifyBook b with
        | none => l.takeBook k b
        | some c => l.refuseBook (c, 0, 0)) l

/-- The hold-release check of a low side in step 9: its request bit is set, and it and its peer have been off for 100 µs
(R141, R345). -/
def Lane.stepLeak (l : Lane) (n : Axis) (j : Switch) (r : LeakResult) : Lane :=
  if j.val % 2 = 1 ∧ l.leakMayStart n j 0 then l.leakResult n j r else l

/-- The exercises of step 4: every kind on every core, and every kind that a pair runs on every pair (R243, R244). -/
def exerciseRuns (x : Fin 40 × Fin 6) : Bool := decide (x.2.val < 3 ∨ x.1.val < 38)

/-- What a step's result leaves (R343, R345, R350 to R362). -/
def Lane.stepResult (l : Lane) (k : Nat) (r : StepResult) : Lane :=
  match k with
  | 1 => if r.engines.getLsbD 7 then l.failEngines 0x80 else l
  | 3 => l.failEngines r.engines
  | 4 => (l.injected !r.lockstepBad).when (r.voter.any exerciseRuns) fun l => l.laneOut
  | 5 => l.marchAll r
  | 6 =>
    let switches := l.failedSwitches r.switches
    let twins := l.failedTwins r.twins
    ((l.failComparators (failedPhases r.comparators) (phaseBits (failedPhases r.standIns))).failSwitches switches).failTwins twins
  | 7 => l.marking fun l =>
      ((l.orBits R.BI_UNUS_WING r.wing.toNat).orBits R.BI_UNUS_VR r.virec.toNat).orBits R.BI_UNUS_CAN r.can.toNat
  | 8 => l.marking fun l => l.orBits R.BI_UNUS_FB r.fb.toNat
  | 9 => r.leaks.foldl (fun l x => l.stepLeak x.1 x.2.1 x.2.2) l
  | _ => l

/-- Whether a step has found a failure. -/
def Lane.stepFailed (l : Lane) (r : StepResult) (k : Nat) : Bool :=
  match k with
  | 1 => r.engines.getLsbD 7
  | 3 => r.engines != 0
  | 4 => r.voter.any exerciseRuns || r.lockstepBad
  | 5 => !r.bits.isEmpty || r.mapBad != 0 || r.burst != 0
  | 6 => !(failedPhases r.comparators).isEmpty || !(failedPhases r.standIns).isEmpty || l.failedSwitches r.switches != 0 ||
    l.failedTwins r.twins != 0
  | 7 => r.wing != 0 || r.virec != 0 || r.can != 0
  | 8 => r.fb != 0
  | 9 => r.leaks.any fun x => x.2.2 == .fail
  | _ => false

/-- The extra power of the running tickets, in mW. -/
def Lane.runningExtra (l : Lane) : Nat := (l.box.running.map fun t => t.cost.extra).sum

/-- BI_STAT[STEP] shows a step that still runs. -/
def Lane.showStep (l : Lane) : Lane :=
  l.put R.BI_STAT_STEP ((l.box.running.findSome? fun t => match t.work with | .step k | .rerun k => some k | _ => none).getD 0)

/-- A start-of-day step has ended: its result, its ticket, the steps that waited for it, BI_SODT after the last. -/
def Lane.endStep (l : Lane) (k : Nat) (r : StepResult) : Lane :=
  let bad := l.stepFailed r k
  let l := l.onReh fun q => { q with
    peak := max q.peak l.runningExtra, done := q.done ||| 2 ^ k, failed := q.failed ||| (if bad then 2 ^ k else 0) }
  let l := if k = 2 then l.readBook else l.stepResult k r
  let l := (l.when bad fun l => l.raise R.BI_EVT_SODFAIL).note (.stepDone k false bad)
  let l := if k = 1 then l.queueStep 2 else if k = 3 then l.queueStep 4 else l
  let l := (l.endWork (.step k)).showStep
  if l.reh.done = 0x3FE then
    (l.put R.BI_SODT_TIME (min 65535 ((l.now - l.reh.since) / 400000))).put R.BI_SODT_PEAK (min 65535 l.reh.peak)
  else l

/-- A rerun has ended: its result is logged and reported; it makes no block usable again (R365). -/
def Lane.endRerun (l : Lane) (k : Nat) (r : StepResult) : Lane :=
  let l := (l.stepResult k r).note (.stepDone k true (l.stepFailed r k))
  (l.endWork (.rerun k)).showStep

/-- A start-of-day step, or the rerun of one, completes. -/
def execRehearsalStepDone (e : At) (step : Fin 10) (r : StepResult) (s : State) : Host.Outcome State Fault Refusal :=
  .next (s.logicEvent e fun l =>
    if l.mode = .rehearsal ∧ (l.runningFor (.step step)).isSome then l.endStep step r
    else if (l.runningFor (.rerun step)).isSome then l.endRerun step r
    else l)

/-! ### SCRIPT CHECK -/

/-- The digest a lane shows: of the book under check, else of the book in force; zero without a book (R267, R325). -/
def Lane.bookDigest (l : Lane) : BitVec 384 :=
  match l.trust.checking with
  | some b => b.digest
  | none => match l.trust.nextBook with
    | some b => b.digest
    | none => (l.trust.book.map (·.digest)).getD 0

/-- DIGEST leaves on a link that is UP and has not carried it yet (R332). -/
def Lane.digestOn (l : Lane) (p : Peer) : Lane :=
  if l.wing.digestSent ∧ !l.wing.struck ∧ l.linkMode p = .up ∧ !(l.wing.links[p]).digestOut then
    let serial : BitVec 64 := l.word R.LC_SERIAL_HI ++ l.word R.LC_SERIAL_LO
    (l.onLinkEnd p fun e => { e with digestOut := true }).sendFrame p (.digest l.bookDigest (l.get R.LC_REV_FWV) serial)
  else l

/-- See `Lane.digestOn`. -/
def Lane.sendDigests (l : Lane) : Lane := (l.digestOn 0).digestOn 1

/-- DIGEST leaves on both links, and the wait of R332 begins. -/
def Lane.sendDigest (l : Lane) : Lane :=
  let anew (e : LinkEnd) : LinkEnd := { e with digestOut := false }
  let l := (l.onLinkEnd 0 anew).onLinkEnd 1 anew
  (l.onWing fun w => { w with digestSent := true, digestAt := l.now, waitOver := false }).sendDigests

/-- The trio at the start of the lane application (R362): its mode, and every core at its first transaction. -/
def Lane.startTrio (l : Lane) : Lane :=
  (l.onTrio fun t => { t with slots := [], number := 0, cores := Vector.replicate 3 .init, file := [] }).setTrioMode (if l.get R.TV_STAT_UNUS = 0 then .trio else .pair)

/-- Rehearsal has ended: SCRIPT CHECK is entered and DIGEST sent (R323 step 5); not by a lane that is to stay OUT
(R354, R581). -/
def execScriptCheck (e : At) (s : State) : Host.Outcome State Fault Refusal :=
  .next (s.logicEvent e fun l =>
    if l.mode = .rehearsal ∧ l.reh.done = 0x3FE ∧ !l.wing.struck then
      ((((l.takeMode .scriptCheck).put R.BI_STAT_PHASE 2).drop R.BI_STAT_STEP).startTrio).sendDigest
    else l)

/-- Tw starts at the larger of WAMB and the recorded value (R294). -/
def Lane.startWindings (l : Lane) : Lane :=
  l.onBox fun b => { b with tw := Vector.ofFn fun n =>
    let wamb : Rat := l.get (R.BX_WMOD1_WAMB n)
    match l.trust.flash.winding[n] with
    | some t => max wamb ((t : Rat) / 10)
    | none => wamb }

/-- The accepted book comes into force: registers, tables, seats, dictionary; serial links negotiate, and the session of a
seat whose entry changes ends (R175, R323, R329, R476). -/
def Lane.installBook (l : Lane) (b : Book) : Lane :=
  let first := l.trust.book.isNone
  let old := l
  let l := (match l.trust.book with | some o => l.clearBook o | none => l).writeBook b
  let l := l.onTrust fun t => { t with book := some b, nextBook := none }
  let l := (l.when first fun l => l.startWindings).loadDictionary
  let l := (l.moveCore (min l.vcMax l.power.goal)).markMax
  let l := l.allAxes fun l n => (l.markUnav n).negotiate n
  let differs (l : Lane) (s : Seat) : Bool := [R.HS_SCFG s, R.HS_SCAN s, R.HS_SKEYLO s, R.HS_SKEYHI s].any fun a => l.word a != old.word a
  (List.finRange 8).foldl (fun l s => if differs l s then l.endSession s else l) l

/-- The state byte of an accepted book: confirmed when its check value is on record (R339). -/
def Lane.acceptedState (l : Lane) (b : Book) : Nat := if l.trust.flash.check = some (checkValue b) then 5 else 4

/-- Serial and digest of a taking-part peer, in this lane's view (R332); a lane C declared absent takes no part (R27). -/
def Lane.peerDigest (l : Lane) (p : Peer) : Option (BitVec 384 × Nat × BitVec 64) :=
  if l.peerState p = 0 ∨ l.linkIgnored p then none else l.wing.digests[p]

/-- The lane's own digest, version and serial. -/
def Lane.ownDigest (l : Lane) : BitVec 384 × Nat × BitVec 64 :=
  (l.bookDigest, l.get R.LC_REV_FWV, l.word R.LC_SERIAL_HI ++ l.word R.LC_SERIAL_LO)

/-- A lane that has sent DIGEST and has its own result compares it with those of the peers that take part (R267): the
state byte of R335 follows, and comes back once they agree. -/
def Lane.compareDigests (l : Lane) : Lane :=
  if !l.wing.digestSent ∨ l.trust.checking.isSome then l
  else
    let own := l.ownDigest
    let peers := (l.peerDigest 0).toList ++ (l.peerDigest 1).toList
    let dig := peers.any fun x => x.1 != own.1
    let fw := peers.any fun x => x.2.1 != own.2.1
    let l := (l.when dig fun l => l.raise R.WG_EVT_DIGDIF).when fw fun l => l.raise R.WG_EVT_FWDIF
    let l := l.onWing fun w => { w with booksDiffer := dig || fw }
    if l.trust.state = 4 ∨ l.trust.state = 5 ∨ l.trust.state = 6 ∨ l.trust.state = 7 then
      let base := match l.trust.nextBook <|> l.trust.book with | some b => l.acceptedState b | none => l.trust.state
      l.onTrust fun t => { t with state := if dig then 6 else if fw then 7 else base }
    else l

/-- No two taking-part lanes hold the same serial: the module stays in HOLD with every output refused (R41). -/
def Lane.serialsDiffer (l : Lane) : Bool :=
  let own := l.ownDigest.2.2
  match l.peerDigest 0, l.peerDigest 1 with
  | some a, some b => a.2.2 != b.2.2 && a.2.2 != own && b.2.2 != own
  | some a, none => a.2.2 != own
  | none, some b => b.2.2 != own
  | none, none => false

/-- A peer is treated as a lane that did not start (R28). -/
def Lane.notStarted (l : Lane) (p : Peer) : Lane :=
  (l.setPeerState p 0).onWing fun w => { w with digests := w.digests.set p none }

/-- Of three serials the odd one's lane goes OUT, and to the other two it is a lane that did not start (R41). -/
def Lane.compareSerials (l : Lane) : Lane :=
  let own := l.ownDigest.2.2
  match l.peerDigest 0, l.peerDigest 1 with
  | some a, some b =>
    if a.2.2 = b.2.2 then (if a.2.2 = own then l else l.laneOut)
    else if a.2.2 = own then l.notStarted 1
    else if b.2.2 = own then l.notStarted 0
    else l
  | _, _ => l

/-- A book that has passed the checks is accepted: it comes into force at once at the first start, with the agreed result
after PB_ACTIVATE (R342). -/
def Lane.acceptBook (l : Lane) (b : Book) : Lane :=
  let l := l.onTrust fun t => { t with checking := none, state := l.acceptedState b }
  if l.trust.book.isNone then l.installBook b else l.onTrust fun t => { t with nextBook := some b }

/-- The other of lanes A and B has sent no DIGEST. -/
def Lane.withoutPartner (l : Lane) : Bool :=
  match l.id with
  | .A => (l.peerDigest 0).isNone
  | .B => (l.peerDigest 1).isNone
  | .C => false

/-- A book that declares lane C absent waits in lanes A and B until the other's DIGEST shows that it holds a book too, and is
refused where none comes (R27, R331, R332). -/
def Lane.awaitsPartner (l : Lane) (b : Book) : Bool := bookLacksC b && l.withoutPartner

/-- The checks of R330 end: a refused book leaves the registers as they are. The lane then proposes HOLD. -/
def Lane.endScriptCheck (l : Lane) : Lane :=
  match l.trust.checking with
  | none => l.compareDigests.propose .hold
  | some b =>
    match l.checkBook b with
    | some f => (l.refuseBook f).compareDigests.propose .hold
    | none =>
      if !l.awaitsPartner b then ((l.onTrust fun t => { t with awaiting := false }).acceptBook b).compareDigests.propose .hold
      else if l.wing.waitOver then
        let at_ := Config.bookFault 27 0
        (((l.onTrust fun t => { t with awaiting := false }).refuseBook (8, at_.1, at_.2)).compareDigests).propose .hold
      else l.onTrust fun t => { t with awaiting := true }

/-- The partner's DIGEST has come, or the wait for it has ended. -/
def Lane.settleAwaiting (l : Lane) : Lane := if l.trust.awaiting ∧ l.mode = .scriptCheck then l.endScriptCheck else l

/-- The prompt-book checks complete. -/
def execScriptCheckDone (e : At) (s : State) : Host.Outcome State Fault Refusal :=
  .next (s.logicEvent e fun l =>
    if l.mode = .scriptCheck ∧ l.wing.proposed ≠ Mode.code .hold then l.endScriptCheck else l)

end Sys2Proof.Machine
end

