-- ==== Sys2Proof/Machine/Rehearsal.lean ====
section
/-!
DEFINITION. Rehearsal in service (R346 to R365): rotation of stage memory, comparators and twins, link margins, reruns.
-/

namespace Sys2Proof.Machine

/-- In-service rotation runs (R304, R364). -/
def Lane.rotates (l : Lane) : Bool := l.fromHold && l.mode != .ghost && l.mode != .curtain && l.lstate == .live

/-- A ROTATION ticket for the step is queued or sold. -/
def Lane.rotating (l : Lane) (r : Rotation) : Bool :=
  l.box.queued.any (fun t => t.work == .rotation r) || l.box.running.any fun t => t.work == .rotation r

/-- A ROTATION ticket is queued for an in-service step (R343). -/
def Lane.queueRotation (l : Lane) (r : Rotation) : Lane := l.queueActivity (.rotation r) 5 none

/-- The next bank step is due, MEMPER cycles after the last (R351). -/
def Lane.bankDue (l : Lane) : Lane :=
  if l.rotates ∧ !l.rotating .bank ∧ l.reh.spareBank.isSome ∧ !l.flag R.BI_STAT_ROTSTOP ∧
      l.reh.bankTurn + l.get R.BI_ROT_MEMPER ≤ l.mode_.cycle then
    (l.onReh fun r => { r with bankTurn := l.mode_.cycle }).queueRotation .bank
  else l

/-- MEMPER cycles have passed: the ticket of the next bank is queued; the copy runs from its sale (R351). -/
def execMemoryRotation (e : At) (s : State) : Host.Outcome State Fault Refusal :=
  .next (s.logicEvent e fun l => l.bankDue)

/-- The copy is complete: the rotation bank takes the bank's address range, and the bank is isolated (R351 step 2). -/
def Lane.swapBank (l : Lane) : Lane :=
  match l.reh.bank, l.reh.spareBank with
  | some ⟨b, false⟩, some c =>
    l.onReh fun r => { r with
      bankMap := Vector.ofFn fun i => if r.bankMap[i] = b then c else r.bankMap[i]
      spareBank := some b, bank := some ⟨b, true⟩ }
  | _, _ => l

/-- The bank map swaps. -/
def execBankSwap (e : At) (s : State) : Host.Outcome State Fault Refusal :=
  .next (s.logicEvent e fun l => l.swapBank)

/-- Rows enter the repair list; the keeper writes them with the next flush (R353). -/
def Lane.addRows (l : Lane) (rows : List (Nat × Nat)) : Lane :=
  let new := newRows rows (l.reh.toRepair ++ l.trust.flash.repair)
  let l := l.onReh fun r => { r with toRepair := r.toRepair ++ new }
  l.addTo R.BI_MEMCNT_PENDING new.length

/-- What the failing bits of a march change: the rows that need repair, and the bank is unusable (R351 to R353). -/
def Lane.marchFails (l : Lane) (b : Nat) (bits : List (Fin 2048 × Fin 32 × Fin 39)) : Lane :=
  let l := bits.foldl (fun l x => l.showMemory b x.1 x.2.1 x.2.2 false) l
  let rows := newRows (bits.map fun x => (b, x.1.val)) []
  let l := ((l.raise R.BI_EVT_MEMFAIL).addTo R.BI_MEMCNT_FAILROWS rows.length).addRows rows
  let l := l.onReh fun r => { r with spareBank := none }
  (l.marking fun l => l.putBit R.BI_UNUS_BANK b true).bankCount

/-- The march of the isolated bank ends (R351 step 4, R352, R353): `bits` are the failing bits as row, word and bit. -/
def Lane.endMarch (l : Lane) (b : Nat) (bits : List (Fin 2048 × Fin 32 × Fin 39)) : Lane :=
  let l := l.onReh fun r => { r with bank := none }
  let l := l.put R.BI_ROTPOS_NEXTBANK ((b + 1) % 17)
  let l := l.when (b == 16) fun l => l.bump R.BI_ROTPOS_SWEEPS
  (if bits.isEmpty then l else l.marchFails b bits).endWork (.rotation .bank)

/-- A march of an isolated bank completes. -/
def execMarchDone (e : At) (bits : List (Fin 2048 × Fin 32 × Fin 39)) (s : State) : Host.Outcome State Fault Refusal :=
  .next (s.logicEvent e fun l =>
    match l.reh.bank with
    | some ⟨b, true⟩ => l.endMarch b bits
    | _ => l)

/-- ECC corrects an error (R352): a second one in a row within 1 s adds the row to the repair list. -/
def execEccCorrected (e : At) (bank : Fin 17) (row : Fin 2048) (word : Fin 32) (bit : Fin 39) (s : State) :
    Host.Outcome State Fault Refusal :=
  .next (s.logicEvent e fun l =>
    let l := l.showMemory bank row word bit true
    let recent := l.reh.corrected.filter fun x => decide (l.now ≤ x.2.2 + ms 1000)
    let again := recent.any fun x => x.1 == bank.val && x.2.1 == row.val
    let l := l.onReh fun r => { r with corrected := (bank.val, row.val, l.now) :: recent }
    l.when again fun l => (l.raise R.BI_EVT_ECCROW).addRows [(bank.val, row.val)])

/-- The comparator step of every axis is due, and the next switch of each axis gets its hold-release request with a
sweep in the same window (R356, R357). -/
def Lane.comparatorDue (l : Lane) : Lane :=
  if l.rotates ∧ l.reh.cmpTurn + l.get R.BI_ROT_CMPPER ≤ l.mode_.cycle then
    let j := l.reh.nextSwitch
    let l := l.allAxes fun l n => l.putBit (R.GD_LKCTL_REQ n) j.val true
    let l := l.onReh fun r => { r with
      cmpTurn := l.mode_.cycle, nextSwitch := j + 1, sweepAsked := Vector.ofFn fun n => r.sweepAsked[n] ||| bit6 j }
    if l.rotating .comparator then l else l.queueRotation .comparator
  else l

/-- The comparator step ends (R356) with the sweeps of the stand-in and of the comparator of each phase: a stand-in that
fails takes no role, so that its comparator is not swept; phases whose proof has stopped take no part. -/
def Lane.endComparators (l : Lane) (c : Nat) (r : Vector (CodeSweep × CodeSweep) 12) : Lane :=
  let live := (List.finRange 12).filter fun p => !l.reh.proofStopped.getLsbD p.val
  let standIns := live.filter fun p => !codeSweepOk r[p].1
  let comps := live.filter fun p => codeSweepOk r[p].1 && !codeSweepOk r[p].2
  let l := (l.onReh fun r => { r with cmp := none }).put R.BI_ROTPOS_NEXTCMP ((c + 1) % 30)
  (l.failComparators comps (phaseBits standIns)).endWork (.rotation .comparator)

/-- CMPPER cycles have passed (`none`), or the sold step has ended with the sweeps of each phase. -/
def execComparatorRotation (e : At) (r : Option (Vector (CodeSweep × CodeSweep) 12)) (s : State) :
    Host.Outcome State Fault Refusal :=
  .next (s.logicEvent e fun l =>
    match r, l.reh.cmp with
    | none, _ => l.comparatorDue
    | some r, some k => l.endComparators k r
    | some _, none => l)

/-- A twin can be swept while its partner acts. -/
def Lane.twinOk (l : Lane) (t : Nat) : Bool := !l.bit R.BI_TWIN_FAIL t && !l.bit R.BI_TWIN_FAIL (t / 2 * 2 + (1 - t % 2))

/-- The twin after `t` that can be swept. -/
def Lane.twinAfter (l : Lane) (t : Nat) : Nat :=
  (((List.range 12).map fun k => (t + 1 + k) % 12).find? l.twinOk).getD t

/-- The next twin's ticket is queued (R358). -/
def Lane.twinDue (l : Lane) : Lane :=
  let l := if l.twinOk l.reh.nextTwin then l else l.onReh fun r => { r with nextTwin := l.twinAfter r.nextTwin }
  if l.rotates ∧ !l.rotating .twin ∧ l.twinOk l.reh.nextTwin then l.queueRotation .twin else l

/-- The sweep of a twin ends. -/
def Lane.endTwin (l : Lane) (t : Nat) (pass : Bool) : Lane :=
  let l := l.onReh fun r => { r with twin := none }
  let l := if pass then l else l.failTwins (BitVec.twoPow 12 t)
  (l.onReh fun r => { r with nextTwin := l.twinAfter t }).endWork (.rotation .twin)

/-- The next twin's turn has come (`none`), or the sold sweep has ended. -/
def execTwinSweep (e : At) (sweep : Option MonitorSweep) (s : State) : Host.Outcome State Fault Refusal :=
  .next (s.logicEvent e fun l =>
    match sweep, l.reh.twin with
    | none, _ => l.twinDue
    | some m, some t => l.endTwin t (l.twinSweepOk t m)
    | some _, none => l)

/-- A margin scan of 2^20 bits ends (R361): the second in succession with a disagreement declares the link LOST. -/
def Lane.marginScan (l : Lane) (p : Peer) (errors : Nat) : Lane :=
  let l := l.addTo (if p = 0 then R.BI_LNK_ERR1 else R.BI_LNK_ERR2) errors
  let n := if errors = 0 then 0 else l.reh.margins[p] + 1
  let l := l.onReh fun r => { r with margins := r.margins.set p (if 2 ≤ n then 0 else n) }
  if 2 ≤ n ∧ l.linkMode p ≠ .down then (l.raise R.BI_EVT_LNKMARG).loseLink p else l

/-- The margin scan of a wing link ends. -/
def execLinkMarginScan (e : At) (p : Peer) (errors : Nat) (s : State) : Host.Outcome State Fault Refusal :=
  .next (s.logicEvent e fun l => l.marginScan p errors)

/-- A rerun of a start-of-day step is requested: BLK 3 to 9, in HOLD or WORKSHOP (R365). -/
def Lane.rerun (l : Lane) (k : Nat) (ask : Option (Hdr × Option Path)) : Lane :=
  if (l.mode = .hold ∨ l.mode = .workshop) ∧ 3 ≤ k ∧ k ≤ 9 then l.queueTicket (.rerun k) (stepTicket k) none ask else l

/-- A write of BI_CMD with RERUN at 1. -/
def execRerun (e : At) (blk : BitVec 8) (s : State) : Host.Outcome State Fault Refusal :=
  .next (s.logicEvent e fun l => l.rerun blk.toNat none)

end Sys2Proof.Machine
end

