-- ==== Sys2Proof/Machine/SafetyIo.lean ====
section
/-!
DEFINITION. Safety inputs, reset and contactors (R517 to R529).
-/

namespace Sys2Proof.Machine

/-- Own demand of pair k (R517): demanded unless the pair shows PERMIT and no discrepancy fault stands. -/
def Lane.ownPair (l : Lane) (k : Fin 8) : Lane :=
  let permit := l.bit R.SF_RAW_P k.val && !l.bit R.SF_RAW_N k.val
  l.putBit R.SF_OWN_DEM k.val (!permit || l.bit R.SF_OWN_DISCF k.val)

/-- Pair k changes after its filters (R517). -/
def Lane.pairChange (l : Lane) (k : Fin 8) (pos neg : Bool) : Lane :=
  let l := (l.putBit R.SF_RAW_P k.val pos).putBit R.SF_RAW_N k.val neg
  let l := l.onSafety fun s => { s with
    discSince := s.discSince.set k (if pos = neg then some (s.discSince[k].getD l.now) else none)
    shown := if !pos && neg && l.bit R.SF_OWN_DISCF k.val then s.shown ||| BitVec.twoPow 8 k.val else s.shown }
  l.ownPair k

/-- A filter setting in units of 0.1 ms. -/
def tenths (k : Nat) : Nat := 400000 * k

/-- The lines of a safety input pair have been at these levels for `e.val` µs: the filter passes them on from FILT on
(R517). -/
def execSafetyInputChange (e : Seen Nat) (k : Fin 8) (pos neg : Bool) (s : State) : Host.Outcome State Fault Refusal :=
  .next (s.logicEvent e.toAt fun l => l.when (decide (tenths (l.get (R.SF_SICFG_FILT k)) ≤ us e.val)) fun l => l.pairChange k pos neg)

/-- Pair k has been discrepant for DISC (R517). -/
def execDiscrepancyFault (e : At) (k : Fin 8) (s : State) : Host.Outcome State Fault Refusal :=
  .next (s.logicEvent e fun l =>
    match l.safety.discSince[k] with
    | some t =>
      if l.since t (ms (l.get (R.SF_SICFG_DISC k))) ∧ !l.bit R.SF_OWN_DISCF k.val then
        let l := (l.putBit R.SF_OWN_DISCF k.val true).raise R.SF_EVT_DISC
        (l.onSafety fun s => { s with shown := s.shown &&& ~~~(BitVec.twoPow 8 k.val) }).ownPair k
      else l
    | none => l)

/-- The filter of GTm passes a level that has been there for `held` µs. -/
def Lane.gtFilter (l : Lane) (m : Fin 2) (held : Nat) : Bool := decide (tenths (l.get (R.SF_GTCFG_FILT m)) ≤ us held)

/-- GTm has been low for `e.val` µs: for FILT since the lane left BOOT, it is seen open (R518). -/
def execGtSeenOpen (e : Seen Nat) (m : Fin 2) (s : State) : Host.Outcome State Fault Refusal :=
  .next (s.logicEvent e.toAt fun l =>
    if l.mode ≠ .boot ∧ !l.bit R.SF_STAT_GTOK m.val ∧ l.gtFilter m e.val ∧
        l.since l.mode_.leftBoot (tenths (l.get (R.SF_GTCFG_FILT m))) then
      ((l.putBit R.SF_STAT_GTOK m.val true).raise R.SF_EVT_GTSEEN).putBit R.SF_RAW_GT m.val false
    else l)

/-- GTm has been at a level for `e.val` µs: with GTOK set its own demand follows the filtered level, 1 when low (R518). -/
def execGtInputChange (e : Seen Nat) (m : Fin 2) (high : Bool) (s : State) : Host.Outcome State Fault Refusal :=
  .next (s.logicEvent e.toAt fun l =>
    if !l.gtFilter m e.val then l
    else
      let l := l.putBit R.SF_RAW_GT m.val high
      if l.bit R.SF_STAT_GTOK m.val then l.putBit R.SF_OWN_DEM (8 + m.val) (!high) else l)

/-- SRS_x was high before the lane left BOOT, if it has been high for `high` µs (R522). -/
def Lane.highFromBoot (l : Lane) (high : Nat) : Bool := decide (l.mode = .boot ∨ l.now ≤ l.mode_.leftBoot + us high)

/-- SRS_x falls after `high` µs and stays low for `low` µs; a level shorter than its filter of 1 ms is none (R522). -/
def Lane.resetFall (l : Lane) (high low : Nat) : Lane :=
  if high < 1000 ∨ low < 1000 then l
  else
    let l := (l.drop R.SF_RAW_SRS).put R.SF_RSTHI_HIGH (min 65535 (high / 1000))
    if l.flag R.SF_STAT_RSTUCK ∨ 2000000 < high then l.drop R.SF_STAT_RSTUCK
    else if l.highFromBoot high then l
    else if high < 50000 then (l.raise R.SF_EVT_RSTSHORT).bump R.SF_RST_SHORT
    else l.onSafety fun s => { s with resetNow := true }

/-- A falling edge of SRS_x after `high` µs, which has lasted for `low` µs. -/
def execResetButton (e : At) (high low : Nat) (s : State) : Host.Outcome State Fault Refusal :=
  .next (s.logicEvent e fun l => l.resetFall high low)

/-- SRS_x has been high for `e.val` µs: for more than 2 s it is stuck (R522). -/
def execResetStuck (e : Seen Nat) (s : State) : Host.Outcome State Fault Refusal :=
  .next (s.logicEvent e.toAt fun l =>
    if e.val ≤ 2000000 ∨ l.flag R.SF_STAT_RSTUCK then l
    else (((l.raise R.SF_STAT_RSTUCK).raise R.SF_EVT_RSTUCK).raise R.SF_RAW_SRS).bump R.SF_RST_STUCK)

/-- The reset window in ns (R523). -/
def Lane.resetWindow (l : Lane) : Nat := l.get R.SF_CFG_RWIN * 1000000

/-- Valid resets whose window has passed without a partner (R523). -/
def Lane.singleResets (l : Lane) : Lane :=
  let past (x : Option Nat) : Bool := match x with | some t => decide (t + l.resetWindow < l.ltimeNs) | none => false
  if l.safety.resets.any past then
    (l.raise R.SF_EVT_RSTSINGLE).onSafety fun s => { s with resets := s.resets.map fun x => if past x then none else x }
  else l

/-- A valid reset has found no partner. -/
def execResetSingle (e : At) (s : State) : Host.Outcome State Fault Refusal :=
  .next (s.logicEvent e fun l => l.singleResets)

/-- SF_KOCMD is written (R524). -/
def execKoCommand (e : At) (cmd : BitVec 4) (s : State) : Host.Outcome State Fault Refusal :=
  .next (s.logicEvent e fun l => (l.put R.SF_KOCMD_CMD cmd.toNat).koSettle)

/-- The contactor of output m shows closed by its feedback level (FBPOL). -/
def Lane.contactorClosed (l : Lane) (m : Fin 4) (high : Bool) : Bool := high != l.flag (R.SF_KOCFG_FBPOL m)

/-- A fault that turns output m off for the day; with a SUPPLY output every winding set goes out (R525, R560). -/
def Lane.outputFault (l : Lane) (m : Fin 4) (bits ev : Fld) : Lane :=
  let l := ((l.putBit bits m.val true).raise ev).koSettle
  if l.get (R.SF_KOCFG_FUNC m) = 1 then l.allAxes fun l n => l.setOut n else l

/-- The feedback of output m is judged where the last change of KOm_x lies `d` back: a disagreement is NOCLOSE or WELD
(R525). -/
def Lane.judgeContactor (l : Lane) (m : Fin 4) (high : Bool) (d : Nat) : Lane :=
  let l := (l.putBit R.SF_RAW_KF m.val high).showKf m
  let on := l.bit R.SF_KOSTAT_ON m.val
  if !l.flag (R.SF_KOCFG_FBEN m) ∨ !l.since l.safety.koAt[m] d ∨ l.contactorClosed m high = on then l
  else if on then l.outputFault m R.SF_KOSTAT_NOCLOSE R.SF_EVT_NOCLOSE
  else (l.putBit R.SF_KOSTAT_WELD m.val true).raise R.SF_EVT_WELD

/-- 50 ms after a change of KOm_x its feedback must show the commanded state (R525). -/
def execContactorCheck (e : At) (m : Fin 4) (high : Bool) (s : State) : Host.Outcome State Fault Refusal :=
  .next (s.logicEvent e fun l => l.judgeContactor m high (ms 50))

/-- The feedback has been at a level for `e.val` µs: a disagreement of 10 ms outside the period of 50 ms is a fault
(R525). -/
def execContactorFault (e : Seen Nat) (m : Fin 4) (high : Bool) (s : State) : Host.Outcome State Fault Refusal :=
  .next (s.logicEvent e.toAt fun l => l.when (decide (10000 ≤ e.val)) fun l => l.judgeContactor m high (ms 60))

/-- The current of output m has been above its limit for `e.val` µs: at 50 µs that is a fault (R525). -/
def execKoOvercurrent (e : Seen Nat) (m : Fin 4) (s : State) : Host.Outcome State Fault Refusal :=
  .next (s.logicEvent e.toAt fun l =>
    if l.bit R.SF_KOSTAT_ON m.val ∧ 50 ≤ e.val then l.outputFault m R.SF_KOSTAT_OC R.SF_EVT_OC else l)

/-- Output m has been off and above 5.0 V for `e.val` µs: at 10 ms that is a fault (R525). -/
def execKoShort (e : Seen Nat) (m : Fin 4) (s : State) : Host.Outcome State Fault Refusal :=
  .next (s.logicEvent e.toAt fun l =>
    if l.bit R.SF_KOSTAT_ON m.val then l
    else
      let l := l.putBit R.SF_KOSTAT_RDBK m.val true
      if 10000 ≤ e.val ∧ l.since l.safety.koAt[m] (ms 10) then (l.putBit R.SF_KOSTAT_SHORT m.val true).raise R.SF_EVT_SHORT
      else l)

end Sys2Proof.Machine
end

