-- ==== Sys2Proof/Machine/Trust.lean ====
section
/-!
DEFINITION. Tamper, the debug port, cartridges and their life (R530 to R546).
-/

namespace Sys2Proof.Machine

/-! ### Tamper and debug -/

/-- The code of KP_TAMP[CAUSE]. -/
def tamperCode : TamperCause → Nat | .voltage => 1 | .light => 2 | .temperature => 3

/-- Light and temperature are sensed from step 1 of R57 until VIN_x falls below 6.0 V (R536). -/
def Lane.sensesAttack (l : Lane) : Bool :=
  l.power.phase != .unpowered && !(l.power.vinFell && (l.power.phase == .shutdown || l.power.phase == .stopped))

/-- The set-points of VCORE_x that its window is taken from, the lower and the higher (R536): the present target, and during
a target step the target before it. DESIGN CHOICE (assumption 99): a step lasts the 2 µs of R47. -/
def Lane.coreWindow (l : Lane) : Nat × Nat :=
  let t := l.get R.PW_VCSET_TARGET
  let old := if l.since l.power.lastStep (us 2) then t else l.power.stepFrom
  (min t old, max t old)

/-- A voltage has left ±15 % of a set-point between `lo` and `hi` for 10 ns. -/
def offPoint (lo hi mv ns : Nat) : Bool := decide (10 ≤ ns ∧ (100 * mv < 85 * lo ∨ 115 * hi < 100 * mv))

/-- The cause that an armed sensor trips on (R535, R536). The voltage sensor of VPD_x, whose set-point is 1.00 V (R43), is
armed from VPDOK on, that of VCORE_x from its first 0.80 V ± 20 mV, which the release of the logic die asks for; none while
supplies are withdrawn or the lane is held in reset. -/
def Lane.tamperCause (l : Lane) : TamperReading → Option TamperCause
  | .vpd mv ns => if l.logicUp ∧ l.power.vpdArmed ∧ offPoint 1000 1000 mv ns then some .voltage else none
  | .vcore mv ns => if l.logicUp ∧ offPoint l.coreWindow.1 l.coreWindow.2 mv ns then some .voltage else none
  | .light => if l.sensesAttack then some .light else none
  | .temperature d => if l.sensesAttack ∧ (d < -55 ∨ 175 < d) then some .temperature else none

/-- A trip (R535): gates off, session and unwrapped keys erased, and the lane restarts under R57; the fourth within 10 s
keeps it in BOOT until VIN_x is removed. -/
def Lane.tamper (l : Lane) (c : TamperCause) : Lane :=
  let times := l.now :: (l.trust.flash.tamperTimes.filter fun t => decide (l.now < t + ms 10000))
  let l := l.onTrust fun t => { t with flash := { t.flash with
    tamperCause := tamperCode c, tampers := t.flash.tampers + 1, tamperTimes := times } }
  let l := (List.range 8).foldl (fun l s => l.drop (R.HS_SSEQ_OPEN s)) (l.drop R.KP_STAT_IDKEY)
  let l := (l.powerPhase .oscillator).onPower fun p => { p with fails := 0, testHigh := p.testHigh || decide (4 ≤ times.length) }
  (l.allAxes fun l n => l.settle n).koSettle

/-- A tamper sensor reads (R535, R536). -/
def execTamper (e : At) (r : TamperReading) (s : State) : Host.Outcome State Fault Refusal :=
  .next (s.powerEvent e fun l => match l.tamperCause r with | some c => l.tamper c | none => l)

/-- The debug port gives a fresh challenge (R537). -/
def execDebugChallenge (e : At) (s : State) : Host.Outcome State Fault Refusal :=
  .next (s.logicEvent e fun l =>
    ((l.onTrust fun t => { t with challenge := some l.choice }).nextChoice).send (.challenge l.choice))

/-- A token names this lane and the present challenge, and both signatures verify (R537). -/
def Lane.tokenOk (l : Lane) (t : DebugToken) : Bool :=
  t.ecdsaOk && t.lmsOk && t.serial == l.word R.LC_SERIAL_HI ++ l.word R.LC_SERIAL_LO && t.lane == l.id &&
    l.trust.challenge == some t.challenge

/-- The identity is erased and the port opens until power-off; the lane is OUT (R537). -/
def Lane.unlock (l : Lane) : Lane :=
  let l := l.onTrust fun t => { t with challenge := none, debugOpen := true, fuses := { t.fuses with erased := true } }
  let l := ((l.raise R.KP_STAT_DBGOPEN).raise R.KP_STAT_ERASED).drop R.KP_STAT_IDKEY
  (l.raise R.KP_EVT_UNLOCK).laneOut

/-- An unlock token is written to the debug port. -/
def execDebugUnlock (e : At) (token : DebugToken) (s : State) : Host.Outcome State Fault Refusal :=
  .next (s.logicEvent e fun l => if l.tokenOk token then l.unlock else l)

/-! ### Cartridges -/

/-- What the lane holds of the cartridge of axis `n`. -/
def Lane.cart (l : Lane) (n : Axis) : CartState := l.trust.carts[n]

/-- Changes it. -/
def Lane.onCart (l : Lane) (n : Axis) (f : CartState → CartState) : Lane :=
  l.onTrust fun t => { t with carts := t.carts.set n (f t.carts[n]) }

/-- Authentication starts on an enabled axis once its serial link has locked, and again after each new lock: over BiSS C
alone (R178, R540). The challenge is a free value. -/
def execCartridgeAuth (e : At) (n : Axis) (s : State) : Host.Outcome State Fault Refusal :=
  .next (s.logicEvent e fun l =>
    if l.bookEnables n ∧ l.get (R.FB_CFG_SER n) = 2 ∧ l.flag (R.FB_STAT_SERLOCK n) ∧ (l.cart n).due then
      let c := l.choice
      ((l.onCart n fun x => { x with running := true, due := false, challenge := some c }).nextChoice).send (.cartChallenge n c)
    else l)

/-- The 32 bytes of a playbill record that its signature covers (R544): life, sequence, serial, lane, lane time. -/
def Lane.recordBody (l : Lane) (life seq : Nat) : List Byte :=
  beBytes 8 life ++ beBytes 4 seq ++ l.wordsAt [R.LC_SERIAL_HI, R.LC_SERIAL_LO] ++ beBytes 1 (laneNum l.id) ++ [0, 0, 0] ++
    timeBytes l.ltime

/-- Life and sequence of a record that a chip port holds, if it is valid (R544). -/
def playbillOf (r : CartRead) : Option (Nat × Nat) :=
  if r.recordOk ∧ r.record.length = 32 then some (beNat (r.record.take 8), beNat ((r.record.drop 8).take 4)) else none

/-- The chain of the cartridge certificate ends at a trust anchor of the book (R539, R540). -/
def Lane.chainOk (l : Lane) (r : CartRead) : Bool :=
  r.certOk && decide (r.anchor < ((l.trust.book.bind Book.trust).map TrustSection.cartridgeAnchors).getD 0)

/-- The cartridge signed the present challenge for this module, lane and axis (R540 steps 3 and 4). -/
def Lane.challengeOk (l : Lane) (n : Axis) (r : CartRead) : Bool :=
  r.sigOk && (l.cart n).challenge == some r.signed.challenge && r.signed.lane == l.id && r.signed.axis == n &&
    r.signed.serial == l.word R.LC_SERIAL_HI ++ l.word R.LC_SERIAL_LO

/-- The digest read shows in CT_ID (R549). -/
def Lane.showDigest (l : Lane) (n : Axis) (d : BitVec 384) : Lane :=
  (List.range 12).foldl (fun l w => l.setWord (R.CT_ID n w) ((d >>> (32 * (11 - w))).setWidth 32)) l

/-- A cartridge is accepted in this lane (R542). -/
def Lane.acceptCart (l : Lane) (n : Axis) (d : BitVec 384) (seat : Nat) : Lane :=
  let l := (l.put (R.CT_STAT_AUTH n) 3).raise (R.CT_EVT_ACCEPT n)
  (l.onTrust fun t => { t with flash := { t.flash with accepted := t.flash.accepted.set n (some d) } }).note (.cartAccepted n seat)

/-- A 64-bit quantity in a pair of registers. -/
def Lane.put64 (l : Lane) (lo hi : Fld) (v : Nat) : Lane := (l.put lo (v % 2 ^ 32)).put hi (v / 2 ^ 32)

/-- Another cartridge has been read on the axis: an acceptance no longer holds (R542). -/
def Lane.dropAcceptance (l : Lane) (n : Axis) (d : BitVec 384) : Lane :=
  if l.trust.flash.accepted[n] = some d then l
  else l.onTrust fun t => { t with flash := { t.flash with accepted := t.flash.accepted.set n none } }

/-- Authentication passed (R540). DESIGN CHOICE (assumption 99): of more than 16 digests the oldest leaves the records. -/
def Lane.cartPass (l : Lane) (n : Axis) (r : CartRead) : Lane :=
  let l := (l.put (R.CT_STAT_AUTH n) 1).put64 (R.CT_RATED_LO_RATED n) (R.CT_RATED_HI_RATED n) r.rated
  let l := l.onTrust fun t => { t with flash := { t.flash with
    verified := if r.digest ∈ t.flash.verified then t.flash.verified else (r.digest :: t.flash.verified).take 16 } }
  let l := l.onCart n fun c => { c with record := ((playbillOf r).map (·.1)).getD 0, seq := ((playbillOf r).map (·.2)).getD 0 }
  match (l.cart n).acceptWait with
  | some (_, h, p) => (l.onCart n fun c => { c with acceptWait := none }).answer h p ⟨0, 2⟩ []
  | none => l

/-- Authentication failed (R540): an acceptance on record holds, and a CART_ACCEPT that waited applies (R542). -/
def Lane.cartFail (l : Lane) (n : Axis) (r : CartRead) : Lane :=
  let l := (l.put (R.CT_STAT_AUTH n) 2).raise (R.CT_EVT_AUTHFAIL n)
  let l := l.when (l.trust.flash.accepted[n] == some r.digest) fun l => l.put (R.CT_STAT_AUTH n) 3
  match (l.cart n).acceptWait with
  | some (d, h, p) =>
    let l := l.onCart n fun c => { c with acceptWait := none }
    if d = r.digest then (l.acceptCart n d h.seat).answer h p .ok [] else l.answer h p (.param 7) []
  | none => l

/-- Authentication of the cartridge of axis `n` ends (R540). -/
def execCartridgeAuthDone (e : At) (n : Axis) (r : CartRead) (s : State) : Host.Outcome State Fault Refusal :=
  .next (s.logicEvent e fun l =>
    if (l.cart n).running then
      let ok := decide (r.digest ∈ l.trust.flash.verified ∨ l.chainOk r) && l.challengeOk n r
      let l := (l.onCart n fun c => { c with running := false, challenge := none, digest := some r.digest }).showDigest n r.digest
      let l := l.dropAcceptance n r.digest
      if ok then l.cartPass n r else l.cartFail n r
    else l)

/-- A lane whose digest differs from the mirrored one, or that failed while the axis is authenticated (`agreed`), keeps
its set out of service (R541). -/
def Lane.cartCheck (l : Lane) (n : Axis) (agreed : Bool) : Lane :=
  let held := (l.wing.mirror.map fun m => m.digests[n]).getD 0
  match (l.cart n).digest with
  | none => l
  | some d =>
    if held ≠ 0 ∧ held ≠ d ∧ !l.flag R.LC_STATE_LEAD then ((l.raise (R.CT_EVT_IDDIF n)).setOut n)
    else if agreed ∧ l.get (R.CT_STAT_AUTH n) = 2 then l.setOut n
    else l

/-! ### Life (R543 to R546) -/

/-- The rated life of the cartridge of an axis in J. -/
def Lane.rated (l : Lane) (n : Axis) : Nat := l.get (R.CT_RATED_HI_RATED n) * 2 ^ 32 + l.get (R.CT_RATED_LO_RATED n)

/-- The consumed life in 0.01 % of the rated life. -/
def Lane.consumed (l : Lane) (n : Axis) (life : Rat) : Rat :=
  if l.rated n = 0 then 0 else life * 10000 / (l.rated n : Rat)

/-- The ledger shows in CT_LIFE. -/
def Lane.showLife (l : Lane) (n : Axis) : Lane :=
  l.put64 (R.CT_LIFE_LO_LIFE n) (R.CT_LIFE_HI_LIFE n) ((l.cart n).life.floor.toNat % 2 ^ 64)

/-- The ledger of axis `n` starts from the agreed consumed life; the limits act on this value (R546). -/
def Lane.startLife (l : Lane) (n : Axis) (life : Nat) : Lane :=
  let l := (l.onCart n fun c => { c with life := life, started := true }).showLife n
  let k := l.consumed n life
  let spent := decide ((l.get (R.CT_CFG_LIMIT n) : Rat) < k)
  let l := l.when (decide (10000 ≤ k)) fun l =>
    ((l.raise (R.CT_STAT_REPLACE n)).raise (R.CT_EVT_REPLACE n)).note (.replaceNotice n)
  l.onCart n fun c => { c with refusedLife := spent }

/-- The ledger takes a new value: a threshold crossed in operation sets PASS (R543, R546). -/
def Lane.setLife (l : Lane) (n : Axis) (life : Rat) : Lane :=
  let was := l.consumed n (l.cart n).life
  let is := l.consumed n life
  let lim : Rat := l.get (R.CT_CFG_LIMIT n)
  let l := (l.onCart n fun c => { c with life := life }).showLife n
  l.when (decide ((was < 10000 ∧ 10000 ≤ is) ∨ (was ≤ lim ∧ lim < is))) fun l => l.raise (R.CT_EVT_PASS n)

/-- A field multiplied by a Q1.15 factor. -/
def Lane.scaleField (l : Lane) (f : Fld) (k : Nat) : Lane :=
  l.put f (Config.quantize ((l.get f * k : Nat) / (32768 : Rat))).toNat

/-- LIFE_ACK on an axis above its limit: it runs restricted for the day (R546). -/
def Lane.ackLife (l : Lane) (n : Axis) : Lane :=
  let k := l.get (R.CT_CFG_RESTR n)
  let l := (l.raise (R.CT_STAT_RESTR n)).onCart n fun c => { c with acked := true }
  ((l.scaleField (R.DC_TQLIM_RATED n) k).scaleField (R.LE_WMAX_WMAX n) k).setLimit n

/-- The axis is refused for life (R546). -/
def Lane.lifeRefused (l : Lane) (n : Axis) : Bool := (l.cart n).refusedLife && !(l.cart n).acked

/-- The outcome of one axis's record write (R545). -/
def Lane.playbillAxis (l : Lane) (failed : BitVec 4) (n : Axis) : Lane :=
  if !l.bookEnables n ∨ (l.cart n).digest.isNone then l
  else if failed.getLsbD n.val then
    let k := (l.cart n).failures + 1
    (l.onCart n fun c => { c with failures := k }).when (decide (3 ≤ k)) fun l => l.raise (R.CT_EVT_WRFAIL n)
  else
    let life := (l.cart n).life.floor.toNat
    let q := (l.cart n).seq + 1
    (l.onCart n fun c => { c with failures := 0, seq := q, record := life }).send
      (.playbill n (let b := l.recordBody life q; b ++ beBytes 96 (Config.signature l.id b).toNat))

/-- Ten minutes have passed (`none`): a CARTWRITE ticket is queued; or the sold writes end, naming the axes whose write
failed or was rejected (R545). -/
def execPlaybillWrite (e : At) (failed : Option (BitVec 4)) (s : State) : Host.Outcome State Fault Refusal :=
  .next (s.logicEvent e fun l =>
    match failed with
    | none =>
      if l.since l.trust.playAt (ms 600000) ∧ !(l.box.queued.any fun t => t.work == .cartWrite) ∧
          (l.runningFor .cartWrite).isNone then
        (l.onTrust fun t => { t with playAt := l.now }).queueActivity .cartWrite 4 none
      else l
    | some m =>
      if (l.runningFor .cartWrite).isSome then (l.allAxes fun l n => l.playbillAxis m n).endWork .cartWrite else l)

end Sys2Proof.Machine
end

