-- ==== Sys2Proof/Machine/Registers.lean ====
section
/-!
DEFINITION. Reading and writing the lane register space (R10 to R13, R485 to R487, R583): what a read gives, which writes
are refused with which status, and what a write does beside storing its fields.
-/

namespace Sys2Proof.Machine

/-- The seat whose register of a group stands at `a`. -/
def seatAt (r : Nat → Nat) (a : Nat) : Option Seat := (List.finRange 8).find? fun s => r s.val == a

/-- The CAN controller whose register stands at `a`. -/
def canAt (r : Nat → Nat) (a : Nat) : Option Can := (List.finRange 2).find? fun k => r k.val == a

/-! ### Reading (R485) -/

/-- What VR_SHDAT0 and VR_SHDAT1 return together (R387); where no such entry exists the spec states no value. -/
def Lane.sheetData (l : Lane) : Option (BitVec 64) :=
  (l.sheetOf (l.get R.VR_SHIDX_SHEET)).bind fun s =>
    let q := l.get R.VR_SHIDX_CUE
    if l.flag R.VR_SHIDX_HDR then (if q ≤ 1 then some (sheetHead s (q == 1)) else none)
    else (s.cues[q]?).map cueCode

/-- The sheet registers show the entry that VR_SHIDX selects. -/
def Lane.showSheet (l : Lane) : Lane :=
  match l.sheetData with
  | some v => (l.setWord R.VR_SHDAT0 ((v >>> 32).setWidth 32)).setWord R.VR_SHDAT1 (v.setWidth 32)
  | none =>
    let l' := (l.setWord R.VR_SHDAT0 (BitVec.ofNat 32 l.choice)).nextChoice
    (l'.setWord R.VR_SHDAT1 (BitVec.ofNat 32 l'.choice)).nextChoice

/-- What is left of the lead lease, in units of 10 µs. -/
def Lane.showLease (l : Lane) : Lane := l.put R.WG_LEAD_REMAIN (min 65535 ((l.wing.leaseEnd - l.ltime) / ltUs 10))

/-- FB_SPEED as it stands now (R184), in 1/16 count/s. -/
def Lane.speedNow (l : Lane) (n : Axis) : Lane := l.putInt (R.FB_SPEED_SPD n) (Config.quantize (16 * l.countSpeed n))

/-- What a read of the register at `a` brings about: registers that follow the present moment, the latch of TM_NS (R426)
and a claim (R504). -/
def Lane.onRead (l : Lane) (a : Nat) : Lane :=
  if a = R.TV_RECENT then l.showRecent
  else if a = R.WG_LEAD then l.showLease
  else if a = R.WG_RESYNC then l.showResyncs
  else if a = R.TM_NS then l.latchTime
  else if a = R.GD_CHON then l.chopperCount
  else if a = R.VR_SHDAT0 ∨ a = R.VR_SHDAT1 then l.showSheet
  else
    match axisAt R.FB_SPEED a with
    | some n => l.speedNow n
    | none =>
      match seatAt R.CB_CLAIM a with
      | some s => l.claimFor s
      | none => l

/-- The word that a read returns: source 0 of the callboard does not exist, the fixed ones show KIND 0b111 (R513). -/
def Lane.readWord (l : Lane) (a : Nat) : Word :=
  if a = R.CB_SRC 0 then 0
  else if R.CB_SRC 1 ≤ a ∧ a ≤ R.CB_SRC 31 then l.word a ||| 0xE0000000
  else l.word a

/-- Reads `n` words upward from `a`, each with its effects (R485). -/
def readWords : Nat → Nat → Lane → Lane × List Word
  | 0, _, l => (l, [])
  | n + 1, a, l =>
    let l := l.onRead a
    let w := l.readWord a
    let (l, ws) := readWords n (a + 4) l
    (l, w :: ws)

/-- A register range of READ_REG or WRITE_REG that the opcode accepts: 4-aligned, a count of 1 to `most`, within the
space (R485, R486). -/
def rangeFits (a count most : Nat) : Bool :=
  decide (a % 4 = 0 ∧ 1 ≤ count ∧ count ≤ most ∧ a + 4 * count ≤ 2 ^ 24)

/-- A range reads a CB_CLAIM register. -/
def claims (a count : Nat) : Bool :=
  (List.range 8).any fun s => decide (a ≤ R.CB_CLAIM s ∧ R.CB_CLAIM s < a + 4 * count)

/-! ### Agreed conditions that writes and motion opcodes ask for -/

/-- The summary of peer `p` that takes part in the latest agreement: the peer is LIVE and its summary was held at the
deadline (R260). -/
def Lane.voteOf (l : Lane) (p : Peer) : Option Summary :=
  if l.peerLive p && l.wing.mask.getLsbD (laneNum (peerLane l.id p)) then l.wing.last[p] else none

/-- The summaries this lane agrees over: its own, those of its peers (R260). -/
def Lane.votes (l : Lane) : List Summary :=
  (if l.lstate = .live then l.wing.own.toList else []) ++ (l.voteOf 0).toList ++ (l.voteOf 1).toList

/-- The rule of class INHIBIT (R261): two of three, or either of two. -/
def agreeInhibit (b : List Bool) : Bool :=
  match b with
  | [a, b, c] => (a && b) || (a && c) || (b && c)
  | b => b.any id

/-- The rule of class PERMIT (R261): two of three, or both of two; not set where none takes part. -/
def agreePermit (b : List Bool) : Bool :=
  match b with
  | [] => false
  | [a, b, c] => (a && b) || (a && c) || (b && c)
  | b => b.all id

/-- A fault class is agreed in the fault-class bitmap (R261, R551). -/
def Lane.agreedFault (l : Lane) (k : Nat) : Bool := agreeInhibit (l.votes.map fun s => s.faults.getLsbD k)

/-- The axis is authenticated or accepted (R541). -/
def Lane.axisTrusted (l : Lane) (n : Axis) : Bool :=
  if l.votes.isEmpty then l.cartOk n else !l.agreedFault (39 + 8 * n.val)

/-- The function of safety input `k`: 0 to 7 the pairs, 8 and 9 the gate inputs (R521). -/
def Lane.inputFunc (l : Lane) (k : Nat) : Nat :=
  if k < 8 then l.get (R.SF_SICFG_FUNC k) else l.get (R.SF_GTCFG_FUNC (k - 8))

/-- An input with the function INHIBIT or STOP demands or is latched (R521). -/
def Lane.inhibited (l : Lane) : Bool :=
  (List.range 10).any fun k =>
    (l.inputFunc k == 1 || l.inputFunc k == 2) && (l.bit R.SF_STAT_DEM k || l.bit R.SF_STAT_LATCH k)

/-- The threshold conditions of R145, in 10 mV. -/
def Lane.thresholdsHold (l : Lane) : Bool :=
  let v (f : Fld) : Nat := l.get f
  decide (v R.GD_OVA_OV1 < v R.GD_OVA_OV2 ∧ v R.GD_OVA_OV2 < v R.GD_OVB_OV3 ∧ v R.GD_OVB_OV3 < v R.GD_OVB_OVMAX ∧
    v R.GD_OVB_OVMAX ≤ 10000 ∧ 2000 + v R.GD_OVH_CHH < v R.GD_OVA_OV1)

/-! ### Which writes are refused (R11, R69, R129, R432, R486, R583) -/

/-- A write in HOLD or WORKSHOP that sets DC_CTRL[EN] to 1: the book's state (R336), the inputs (R521), feedback (R561),
the cartridge (R541), its life (R546) and the thresholds (R145). -/
def Lane.enableRefused (l : Lane) (n : Axis) : Option Status :=
  let parked := l.mode == .hold || l.mode == .workshop
  let cart := l.bookEnables n && (!l.axisTrusted n || l.lifeRefused n)
  if l.mode = .workshop ∧ l.trust.state ≠ 5 then some l.bookStatus
  else if l.mode = .workshop ∧ (l.inhibited || (l.internal n && !l.fbValid n) || !l.thresholdsHold) then some l.stateStatus
  else if parked ∧ cart then some l.stateStatus
  else none

/-- Bits of a register that act only in some states, and whether they act now (R583). DESIGN CHOICE (assumption 89): BLK of
BI_CMD beside RERUN 0 acts on nothing and is no such bit; a code of CN_CFG[OPMODE] is no such bit either, and bus monitoring
(0b10, in WORKSHOP only by R429) written in HOLD is stored. -/
def Lane.actsElsewhere (l : Lane) (a : Nat) (w : Word) : Bool :=
  let shop := l.mode == .workshop
  let parked := shop || l.mode == .hold
  (!shop && ((axisAt R.GD_FCLR a).isSome && bitsAt w 0 6 != 0 || a == R.TV_CMD && w.getLsbD 0 ||
    a == R.WG_CTRL && w.getLsbD 0)) ||
  (!parked && (a == R.WG_CTRL && w.getLsbD 1 || a == R.BI_CMD && w.getLsbD 0 || a == R.VR_CMD && w.getLsbD 4 ||
    (axisAt R.FB_CTRL a).isSome && w.getLsbD 0))

/-- The CAN buffer that a register belongs to. -/
def canBufferAt (a : Nat) : Option (Can × Fin 64) :=
  match (List.finRange 2).find? fun (k : Can) => decide (R.CN_BID k 0 ≤ a ∧ a < R.CN_BID k 64) with
  | some k => if h : (a - R.CN_BID k 0) / 80 < 64 then some (k, ⟨(a - R.CN_BID k 0) / 80, h⟩) else none
  | none => none

/-- A write that the ownership of a CAN buffer forbids (R432). -/
def Lane.ownedBuffer (l : Lane) (a : Nat) (w : Word) : Bool :=
  match canBufferAt a with
  | none => false
  | some (k, b) =>
    l.get (R.CN_BCTL_OWN k b) == 1 ||
    (l.get (R.CN_BCTL_OWN k b) == 2 && a == R.CN_BCTL k b && (bitsAt w 0 2 != 0 || bitsAt w 10 4 != 0))

/-- Registers whose extra condition is an ordering between fields (PARAM 0x03); the others lie outside a range. -/
def isOrdering (a : Nat) : Bool :=
  a == R.PW_TLIM || (axisAt R.GD_BSTCFG a).isSome || (axisAt R.FB_SER0 a).isSome || (axisAt R.BX_WMOD1 a).isSome ||
  (canAt R.CN_NOMBT a).isSome || (canAt R.CN_DATBT a).isSome

/-- The fields of a word lie in their stated ranges. -/
def fieldsOk (a : Nat) (w : Word) : Bool :=
  match regAt a with
  | none => true
  | some d => d.fields.all fun f => f.inRange w

/-- The status that refuses a word, none where it is accepted. -/
def Lane.wordRefused (l : Lane) (a : Nat) (w : Word) : Option Status :=
  if l.changesLocked a w ∧ l.mode ≠ .hold ∧ l.mode ≠ .workshop then some (.locked 1)
  else if l.actsElsewhere a w then some (.locked 2)
  else if l.ownedBuffer a w then some (.param 4)
  else if !l.rangeOk a w then some (.param (if fieldsOk a w && isOrdering a then 3 else 1))
  else if a = R.BI_CMD ∧ w.getLsbD 0 ∧ (bitsAt w 8 8 < 3 ∨ 9 < bitsAt w 8 8) then some (.param 1)
  else if a = R.VR_CMD ∧ w.getLsbD 0 ∧ !l.mayAnnounce then some (.param 6)
  else
    match axisAt R.DC_CTRL a with
    | some n => if w.getLsbD 0 ∧ !l.flag (R.DC_CTRL_EN n) then l.enableRefused n else none
    | none => none

/-! ### What a write does -/

/-- WG_CTRL[RETRAIN]: a DOWN link returns to TRAIN, unless this end holds it DOWN until its next start of day (R256). -/
def Lane.retrain (l : Lane) : Lane :=
  let one (l : Lane) (p : Peer) : Lane :=
    if l.linkMode p = .down ∧ !l.linkHeld p then
      ((l.setLink p .train).onLinkEnd p fun e => { e with good := 0 }).sendHello p
    else l
  one (one l 0) 1

/-- WG_CTRL[DRILLNOW]: a drill at the next cycle. -/
def Lane.askDrill (l : Lane) : Lane := l.onWing fun w => { w with drillNow := true }

/-- TV_CMD[EXNOW]. -/
def Lane.askExercise (l : Lane) : Lane := l.onTrio fun t => { t with exNow := true }

/-- DC_CTRL is written: EN acts on its changes (R102). -/
def Lane.writeControl (l : Lane) (n : Axis) (w : Word) : Lane :=
  let was := l.flag (R.DC_CTRL_EN n)
  let l := (l.writeWord (R.DC_CTRL n) w).putFlag (R.DC_CTRL_EN n) was
  if w.getLsbD 0 ∧ !was then (l.enableAxis n).judgeSets else if was ∧ !w.getLsbD 0 then l.disableAxis n else l

/-- FB_CTRL is written (R175, R181). -/
def Lane.writeFbControl (l : Lane) (n : Axis) (w : Word) : Lane :=
  let l := l.writeWord (R.FB_CTRL n) w
  let l := l.when (w.getLsbD 1) fun l => (l.drop (R.FB_STAT_PRBFULL n)).onFb n fun b => { b with armed := true }
  l.when (w.getLsbD 0) fun l => l.negotiate n

/-- GD_CFG is written: the bridge follows its new source, with the precharge of R132 where PE or PS now drives it. -/
def Lane.writeBridge (l : Lane) (n : Axis) (w : Word) : Lane :=
  let was := l.internal n
  let l := l.writeWord (R.GD_CFG n) w
  if l.internal n then (if was then l else l.release n)
  else
    let l := l.when (was && !l.blocked n) fun l => l.startPrecharge n
    (l.ginBoth n 0 (BitVec.ofNat 6 (l.get (R.GD_GIN_LEVEL n)))).ginApply n

/-- A register of a CAN buffer is written: nothing while READY is 1 (R436); FRESH clears as R434 states. -/
def Lane.writeBuffer (l : Lane) (k : Can) (b : Fin 64) (a : Nat) (w : Word) : Lane :=
  if l.flag (R.CN_BCTL_READY k b) then l
  else if a = R.CN_BCTL k b then
    let l := l.writeWord a (w &&& ~~~(1 : Word))
    l.when (w.getLsbD 0) fun l => l.ackBuffer k b (bitsAt w 10 4)
  else l.writeWord a w

/-- A CB register is written (R505, R509, R513). -/
def Lane.writeCall (l : Lane) (a : Nat) (w : Word) : Lane :=
  match seatAt R.CB_COMPL a with
  | some s => (l.completeFor s (bitsAt w 0 9)).keepCallWrite a w
  | none =>
    let l :=
      if a = R.CB_SRC 0 then l
      else if R.CB_SRC 1 ≤ a ∧ a ≤ R.CB_SRC 31 then l.writeWord a ((w &&& (R.CB_SRC_PRIO 0).mask) ||| (l.word a &&& ~~~(R.CB_SRC_PRIO 0).mask))
      else if a = R.CB_PEND 0 then l.writeWord a (w &&& ~~~(1 : Word))
      else l.writeWord a w
    (l.keepCallWrite a w).presentAll

/-- PW_VCLIM is written: the goal of VCORE_x keeps to the new limits (R47, R48). -/
def Lane.writeCoreLimits (l : Lane) (w : Word) : Lane :=
  let rests := decide (l.power.goal = l.get R.PW_VCLIM_IDLEMIN ∧ l.power.riseSince.isNone)
  let l := l.writeWord R.PW_VCLIM w
  (l.moveCore (min l.vcMax (if rests then max l.boostGoal l.coreFloor else max l.power.goal l.coreFloor))).markMax

/-- VR_CMD is written (R400, R411). -/
def Lane.writeRingCommand (l : Lane) (w : Word) : Lane :=
  let l := l.when (w.getLsbD 0) fun l => l.announce (bitsAt w 1 3)
  l.when (w.getLsbD 4) fun l => l.reintegrate

/-- Registers that stand once in the lane. -/
def Lane.writeSingle (l : Lane) (a : Nat) (w : Word) : Lane :=
  if a = R.TM_INCR then l.writeIncr w
  else if a = R.TM_STEP then l.writeStep w.toInt
  else if a = R.PW_VCLIM then l.writeCoreLimits w
  else if a = R.TV_CMD then l.when (w.getLsbD 0) fun l => l.askExercise
  else if a = R.WG_CTRL then (l.when (w.getLsbD 1) fun l => l.retrain).when (w.getLsbD 0) fun l => l.askDrill
  else if a = R.BI_CMD then l.when (w.getLsbD 0) fun l => l.rerun (bitsAt w 8 8) none
  else if a = R.VR_CMD then l.writeRingCommand w
  else if a = R.VR_CFG then
    (l.writeWord a w).ringSwitched
  else if R.SF_STAT ≤ a ∧ a < R.KP_STAT then (l.writeWord a w).koSettle
  else l.writeWord a w

/-- Registers of an axis or a port. -/
def Lane.writeAxis (l : Lane) (a : Nat) (w : Word) : Lane :=
  match axisAt R.DC_CTRL a, axisAt R.GD_FCLR a, axisAt R.FB_CTRL a, axisAt R.GD_CFG a with
  | some n, _, _, _ => l.writeControl n w
  | _, some n, _, _ => if l.mode = .workshop then l.clearFaults n (w.setWidth 6) else l
  | _, _, some n, _ => l.writeFbControl n w
  | _, _, _, some n => l.writeBridge n w
  | none, none, none, none => l.writeSingle a w

/-- A write of one word takes effect: each field by its access code, and what the register does beside. Fault classes of
kind L that stand in a register are latched before a W1C bit can clear (R552). -/
def Lane.applyWrite (l : Lane) (a : Nat) (w : Word) : Lane :=
  let l := l.latchFaults
  match canBufferAt a, canAt R.CN_CMD a, seatAt R.SG_HSEL a, seatAt R.SG_WCMD a with
  | some (k, b), _, _, _ => l.writeBuffer k b a w
  | _, some k, _, _ => l.when (w.getLsbD 0) fun l => l.canRecover k
  | _, _, some s, _ => l.latchWindow s (bitsAt w 0 20)
  | _, _, _, some s => l.when (w.getLsbD 0) fun l => l.commitWindow s
  | none, none, none, none =>
    if R.CB_STAT ≤ a ∧ a < R.SF_STAT then l.writeCall a w else l.writeAxis a w

/-- The words of a WRITE_REG with their addresses. -/
def numbered : Nat → List Word → List (Nat × Word)
  | _, [] => []
  | a, w :: r => (a, w) :: numbered (a + 4) r

/-- The status of the first refused word (R486). -/
def Lane.firstRefused (l : Lane) (ws : List (Nat × Word)) : Option Status := ws.findSome? fun x => l.wordRefused x.1 x.2

/-- The detail of an accepted WRITE_REG: words at unassigned addresses discarded, or a completion without effect. -/
def Lane.writeDetail (l : Lane) (ws : List (Nat × Word)) : Nat :=
  if ws.any fun x => (regAt x.1).isNone then 1
  else if ws.any (fun x => match seatAt R.CB_COMPL x.1 with | some s => !l.heldBy s (bitsAt x.2 0 9) | none => false) then 2
  else 0

/-- WRITE_REG takes effect (R486). -/
def Lane.writeRegs (l : Lane) (a count : Nat) (words : List Word) : Lane × Status :=
  if !rangeFits a count 254 then (l, .param 2)
  else
    let ws := numbered a (words.take count)
    match l.firstRefused ws with
    | some st => (l, st)
    | none => (ws.foldl (fun l x => l.applyWrite x.1 x.2) l, ⟨0, l.writeDetail ws⟩)

/-! ### Commands -/

/-- DC_CTRL[EN] is written 1 (R102, R132, R207), where that write is not refused. -/
def execAxisEnable (e : At) (n : Axis) (s : State) : Host.Outcome State Fault Refusal :=
  .next (s.logicEvent e fun l =>
    if !l.flag (R.DC_CTRL_EN n) ∧ (l.enableRefused n).isNone then (l.enableAxis n).judgeSets else l)

/-- WG_CTRL[RETRAIN] is written in HOLD or WORKSHOP. -/
def execRetrain (e : At) (s : State) : Host.Outcome State Fault Refusal :=
  .next (s.logicEvent e fun l => if l.mode = .hold ∨ l.mode = .workshop then l.retrain else l)

/-- WG_CTRL[DRILLNOW] is written in WORKSHOP. -/
def execDrillnow (e : At) (s : State) : Host.Outcome State Fault Refusal :=
  .next (s.logicEvent e fun l => if l.mode = .workshop then l.askDrill else l)

end Sys2Proof.Machine
end

