-- ==== Sys2Proof/Machine/Spotlight.lean ====
section
/-!
DEFINITION. The spotlight (R488 to R494, R582) and the stop default.
-/

namespace Sys2Proof.Machine

/-! ### What the registers show -/

/-- Lc: the lease in whole cycles (R488). -/
def Lane.leaseCycles (l : Lane) : Nat :=
  max 2 ((l.get R.HS_SPOTCFG_LEASE * 1000 + (50 * l.beats - 1)) / (50 * l.beats))

/-- HS_SPOTEND. -/
def Lane.endCycle (l : Lane) : Nat := l.get R.HS_SPOTEND_HI_END * 2 ^ 32 + l.get R.HS_SPOTEND_LO_END

def Lane.setEndCycle (l : Lane) (c : Nat) : Lane := l.put64 R.HS_SPOTEND_LO_END R.HS_SPOTEND_HI_END c

/-- The holding or reserved seat, 0xFF where there is none (R481, R494). -/
def Lane.spotOwner (l : Lane) : Nat :=
  if l.flag R.HS_SPOT_HELD then l.get R.HS_SPOT_HOLDER
  else if l.flag R.HS_SPOT_RESV then l.get R.HS_SPOT_RSEAT
  else 255

/-- The seat holds the spotlight in this cycle (R492, R494). -/
def Lane.holdsSpot (l : Lane) (s : Seat) : Bool :=
  l.flag R.HS_SPOT_HELD && l.get R.HS_SPOT_HOLDER == s.val && decide (l.mode_.cycle < l.endCycle)

/-- The payload of SPOT_QUERY (R482) with `c` as the end cycle. -/
def Lane.spotBytes (l : Lane) (c : Nat) : List Byte :=
  beBytes 4 (l.word R.HS_SPOT).toNat ++ beBytes 8 c ++ beBytes 2 l.leaseCycles ++ beBytes 1 (l.get R.HS_SPOTCFG_DEFAULT) ++ [0]

/-! ### The start of a lease and its end -/

/-- A grant takes effect (R488); what acted since the last lease ends (R493). -/
def Lane.startLease (l : Lane) (s : Seat) : Lane :=
  let l := ((l.raise R.HS_SPOT_HELD).put R.HS_SPOT_HOLDER s.val).put R.HS_SPOT_HRANK (l.get (R.HS_SCFG_RANK s))
  let l := (((l.drop R.HS_SPOT_RESV).drop R.HS_SPOT_RSEAT).drop R.HS_SPOT_DEFACT).drop R.HS_SPOT_FROZEN
  let l := ((l.drop R.HS_SPOT_GAPC).setEndCycle (l.mode_.cycle + l.leaseCycles)).raise R.HS_EVT_GRANT
  let l := l.onSeats fun q => { q with gap := 0, reserved := none }
  let l := l.when (match l.mode_.stop with | some (.default, _) => true | _ => false)
    fun l => l.onMode fun m => { m with stop := none, slowSince := none }
  l.event 5

/-- The default acts (R493): DEFAULT HOLD leaves every reference; a stop follows the stop section where axes drive. -/
def Lane.startDefault (l : Lane) (stop : Bool) : Lane :=
  let l := (l.raise R.HS_SPOT_DEFACT).drop R.HS_SPOT_FROZEN
  if stop ∧ (l.mode = .armed ∨ l.mode = .performing ∨ l.mode = .degraded) then
    (match l.mode_.stop with
     | some _ => l
     | none => l.onMode fun m => { m with stop := some (.default, l.ltime), slowSince := none })
  else l

/-- What acts from the start of the cycle in which a lease ended, or in which a STOP takes effect (R493). -/
def Lane.leaseAction (l : Lane) (why : LeaseEnd) : Lane :=
  if l.mode = .workshop then l.allAxes fun l n => l.disableAxis n
  else if l.mode = .ghost ∨ l.mode = .curtain then l
  else
    match why with
    | .revoke => l.raise R.HS_SPOT_FROZEN
    | .release => l.startDefault (!l.flag R.HS_SPOTCFG_DEFAULT)
    | .stop => l.startDefault true

/-- The lease ends at the start of the present cycle: the gap of R491 begins. -/
def Lane.endLease (l : Lane) (why : LeaseEnd) (ev : Fld) : Lane :=
  let l := ((((l.drop R.HS_SPOT_HELD).drop R.HS_SPOT_HOLDER).drop R.HS_SPOT_HRANK).put R.HS_SPOT_GAPC 2).raise ev
  let l := l.onSeats fun s => { s with gap := 2, endedAt := l.mode_.cycle, endNext := none }
  (l.event 6).leaseAction why

/-- A lease reaches its end cycle (R488): at the start of it. -/
def Lane.expireLease (l : Lane) : Lane :=
  if l.flag R.HS_SPOT_HELD ∧ l.endCycle ≤ l.mode_.cycle then l.endLease .release R.HS_EVT_EXPIRE else l

/-- A reservation is cancelled; the request that held it gets NOSPOT (assumption 22). -/
def Lane.cancelReservation (l : Lane) : Lane :=
  let l := (l.drop R.HS_SPOT_RESV).drop R.HS_SPOT_RSEAT
  let l := l.seats.reserved.toList.foldl (fun l r => l.answer r.hdr r.path (.noSpot l.spotOwner) []) l
  l.onSeats fun s => { s with reserved := none, cancelled := true }

/-- A STOP takes effect at the start of a cycle (R493): it ends any lease and cancels any reservation. -/
def Lane.stopNow (l : Lane) : Lane :=
  let l := (l.onSeats fun s => { s with stopNext := false, endNext := none }).cancelReservation
  if l.flag R.HS_SPOT_HELD then l.endLease .stop R.HS_EVT_STOPCMD else (l.raise R.HS_EVT_STOPCMD).leaseAction .stop

/-- The start of a cycle (R489 to R493, R582): one gap cycle has passed, then releases, revocations and grants decided in
the cycle past take effect, then a STOP. -/
def Lane.spotCycle (l : Lane) : Lane :=
  let l := l.when (decide (0 < l.seats.gap)) fun l =>
    (l.put R.HS_SPOT_GAPC (l.seats.gap - 1)).onSeats fun s => { s with gap := s.gap - 1 }
  let l := match l.seats.endNext with
    | some .revoke => l.endLease .revoke R.HS_EVT_PREEMPT
    | some w => l.endLease w R.HS_EVT_RELEASE
    | none => l
  let l := match l.seats.grantNext with
    | some s => (l.onSeats fun q => { q with grantNext := none }).startLease s
    | none => l
  let l := if l.seats.stopNext then l.stopNow else l
  l.onSeats fun s => { s with cancelled := false }

/-! ### The decisions of the lead (R489 to R491) -/

/-- The winner among requests: the higher rank, then the lower seat. -/
def Lane.bestRequest (l : Lane) (rs : List SpotReq) : Option SpotReq :=
  rs.foldl (fun best r =>
    match best with
    | none => some r
    | some b =>
      let rb := l.get (R.HS_SCFG_RANK b.seat)
      let rr := l.get (R.HS_SCFG_RANK r.seat)
      if rb < rr ∨ (rb = rr ∧ r.seat < b.seat) then some r else some b) none

/-- Every request of a list gets BUSY with a seat. -/
def Lane.busyAll (l : Lane) (rs : List SpotReq) (s : Nat) : Lane :=
  rs.foldl (fun l r => l.answer r.hdr r.path (.busy s) []) l

/-- A request whose preempt flag is set and whose rank is above a seat's. -/
def Lane.outranks (l : Lane) (r : SpotReq) (s : Nat) : Bool :=
  r.preempt && decide (l.get (R.HS_SCFG_RANK s) < l.get (R.HS_SCFG_RANK r.seat))

/-- A request wins the reservation. -/
def Lane.reserve (l : Lane) (r : SpotReq) : Lane :=
  ((l.raise R.HS_SPOT_RESV).put R.HS_SPOT_RSEAT r.seat.val).onSeats fun s => { s with reserved := some r }

/-- A request is granted from the start of the next cycle, and answered with the new end cycle. -/
def Lane.grantTo (l : Lane) (r : SpotReq) : Lane :=
  let l := l.onSeats fun s => { s with grantNext := some r.seat }
  l.answer r.hdr r.path .ok (l.spotBytes (l.mode_.cycle + 1 + l.leaseCycles))

/-- The spotlight is free and no gap runs, or the gap ends with this decision: the winner is granted. -/
def Lane.decideFree (l : Lane) (rs : List SpotReq) : Lane :=
  match l.bestRequest rs with
  | none => l
  | some w => (l.grantTo w).busyAll (rs.filter (· != w)) w.seat

/-- The spotlight is held: the holder's own requests change nothing, a preempting one takes the reservation and has the
lease revoked. -/
def Lane.decideHeld (l : Lane) (rs : List SpotReq) : Lane :=
  let h := l.get R.HS_SPOT_HOLDER
  let own := rs.filter fun r => r.seat.val == h
  let rest := rs.filter fun r => r.seat.val != h
  let l := own.foldl (fun l r => l.answer r.hdr r.path ⟨0, 2⟩ (l.spotBytes l.endCycle)) l
  match l.bestRequest (rest.filter fun r => l.outranks r h) with
  | some w =>
    ((l.reserve w).onSeats fun s => { s with endNext := some .revoke }).busyAll (rest.filter (· != w)) w.seat
  | none => l.busyAll rest h

/-- The spotlight is reserved: a preempting request of higher rank takes the reservation. -/
def Lane.decideReserved (l : Lane) (rs : List SpotReq) : Lane :=
  let s := l.get R.HS_SPOT_RSEAT
  match l.bestRequest (rs.filter fun r => l.outranks r s) with
  | some w => ((l.busyAll l.seats.reserved.toList w.seat).reserve w).busyAll (rs.filter (· != w)) w.seat
  | none => l.busyAll rs s

/-- A reserved seat is granted at the decision of cycle e + 1. -/
def Lane.grantReserved (l : Lane) : Lane :=
  match l.seats.reserved with
  | some r => l.grantTo r
  | none => l.onSeats fun s => { s with grantNext := (List.finRange 8).find? fun k => k.val == l.get R.HS_SPOT_RSEAT }

/-- The decision in beat 0 of a cycle, by the lead alone and not under the guard. -/
def Lane.decideSpot (l : Lane) : Lane :=
  if !l.flag R.LC_STATE_LEAD ∨ l.flag R.WG_STAT_GUARD ∨ l.seats.grantNext.isSome then l
  else
    let rs := l.seats.requests
    let keep (l : Lane) : Lane := l.onSeats fun s => { s with requests := [] }
    if l.flag R.HS_SPOT_HELD then (keep l).decideHeld rs
    else if l.flag R.HS_SPOT_RESV then
      let l := (keep l).decideReserved rs
      if l.seats.gap ≤ 1 then l.grantReserved else l
    else if 2 ≤ l.seats.gap then l
    else (keep l).decideFree rs

/-! ### The opcodes -/

/-- SPOT_REQUEST takes effect (R489): the lead takes it for its next decision; under the guard it is to be repeated (R280). -/
def Lane.spotRequest (l : Lane) (h : Hdr) (path : Option Path) (preempt : Bool) : Lane :=
  if l.flag R.WG_STAT_GUARD then l.answer h path (.retry 1) []
  else if l.flag R.LC_STATE_LEAD then l.onSeats fun s => { s with requests := s.requests ++ [⟨h.seat, preempt, h, path⟩] }
  else l

/-- SPOT_RENEW takes effect (R492). -/
def Lane.spotRenew (l : Lane) (h : Hdr) (path : Option Path) : Lane :=
  if l.holdsSpot h.seat then
    let l := l.setEndCycle (l.mode_.cycle + 1 + l.leaseCycles)
    l.answer h path .ok (l.spotBytes l.endCycle)
  else l.answer h path (.noSpot l.spotOwner) []

/-- SPOT_RELEASE takes effect (R582). -/
def Lane.spotRelease (l : Lane) (h : Hdr) (path : Option Path) : Lane :=
  if l.holdsSpot h.seat then
    (l.onSeats fun s => { s with endNext := some (s.endNext.getD .release) }).answer h path .ok []
  else if l.flag R.HS_SPOT_RESV ∧ l.get R.HS_SPOT_RSEAT = h.seat.val then
    l.cancelReservation.answer h path .ok []
  else l.answer h path (.noSpot l.spotOwner) []

/-- STOP takes effect (R493): at the start of the next cycle. -/
def Lane.stopCommand (l : Lane) (h : Hdr) (path : Option Path) : Lane :=
  (l.onSeats fun s => { s with stopNext := true }).answer h path .ok []

/-! ### The spotlight in the mirror set (R279) -/

/-- What the lead's mirror set carries. -/
def Lane.spotMirror (l : Lane) : SpotMirror where
  holder := if l.flag R.HS_SPOT_HELD then (List.finRange 8).find? fun k => k.val == l.get R.HS_SPOT_HOLDER else none
  rank := l.get R.HS_SPOT_HRANK
  endCycle := l.endCycle
  reserved := if l.flag R.HS_SPOT_RESV then (List.finRange 8).find? fun k => k.val == l.get R.HS_SPOT_RSEAT else none
  grant := l.seats.grantNext
  revoke := l.seats.endNext == some .revoke

/-- A standby lane takes the spotlight of a mirror set; agreed commands since have kept its own state (R488, R492). -/
def Lane.applySpotMirror (l : Lane) (m : SpotMirror) : Lane :=
  let l := match m.holder with
    | some s =>
      let same := l.flag R.HS_SPOT_HELD && l.get R.HS_SPOT_HOLDER == s.val
      let l := ((l.raise R.HS_SPOT_HELD).put R.HS_SPOT_HOLDER s.val).put R.HS_SPOT_HRANK m.rank
      l.setEndCycle (if same then max l.endCycle m.endCycle else m.endCycle)
    | none => l
  let l :=
    if l.seats.cancelled then l
    else
      match m.reserved with
      | some s => (l.raise R.HS_SPOT_RESV).put R.HS_SPOT_RSEAT s.val
      | none => (l.drop R.HS_SPOT_RESV).drop R.HS_SPOT_RSEAT
  l.onSeats fun s => { s with
    grantNext := m.grant, endNext := if m.revoke then some .revoke else s.endNext }

/-! ### Commands -/

/-- The end cycle of a lease starts (R488, R491). -/
def execSpotLeaseExpiry (e : At) (s : State) : Host.Outcome State Fault Refusal :=
  .next (s.logicEvent e fun l => l.expireLease)

/-- No grant has taken effect by the start of e + 4 after a revocation (R493). -/
def execFrozenTimeout (e : At) (s : State) : Host.Outcome State Fault Refusal :=
  .next (s.logicEvent e fun l =>
    if l.flag R.HS_SPOT_FROZEN ∧ !l.flag R.HS_SPOT_HELD ∧ l.seats.endedAt + 4 ≤ l.mode_.cycle then
      l.startDefault (!l.flag R.HS_SPOTCFG_DEFAULT)
    else l)

end Sys2Proof.Machine
end

