-- ==== Sys2Proof/Machine/Opcodes.lean ====
section
/-!
DEFINITION. The opcodes (R482): their classes, states and lengths, and what each one does where it is executed, at the
effect for an agreed opcode, on a direct copy for a local one (R477).
-/

namespace Sys2Proof.Config

/-- The DER certificate that ID_CERT returns for an index (R531): 0 the lane's, 1 the device CA's, 2 the root
(assumption 21). -/
opaque certificate : Sys2Proof.LaneId → Nat → List Sys2Proof.Byte

/-- The kind and data of a house-log record, for which the spec gives no format (R484; assumption 23). -/
opaque logForm : Sys2Proof.Machine.LogEntry → Nat × List Sys2Proof.Byte

/-- The capacity of the house log in MiB, by LC_MEMCFG[SIZE] (R482; assumption 23). -/
opaque logCapacity : Nat → Nat

end Sys2Proof.Config

namespace Sys2Proof.Machine

/-! ### The table of R482 -/

/-- The opcode's number. -/
def opCode : Op → Nat
  | .sessionOpen .. => 0x0001 | .sessionClose => 0x0002 | .ping _ => 0x0003
  | .readReg .. => 0x0101 | .writeReg .. => 0x0102
  | .spotRequest _ => 0x0201 | .spotRenew => 0x0202 | .spotRelease => 0x0203 | .spotQuery => 0x0204
  | .arm => 0x0301 | .perform => 0x0302 | .setpoint _ => 0x0303 | .disarm => 0x0304 | .stop => 0x0305
  | .workshopEnter => 0x0306 | .workshopLeave => 0x0307
  | .pbStatus => 0x0401 | .pbLoadBegin .. => 0x0402 | .pbLoadData .. => 0x0403 | .pbLoadEnd .. => 0x0404
  | .pbActivate => 0x0405 | .pbAbort => 0x0406
  | .rehReport => 0x0501 | .rehRerun _ => 0x0502 | .rehTask _ => 0x0503
  | .logInfo => 0x0601 | .logRead .. => 0x0602 | .logMark _ => 0x0603
  | .timeRead => 0x0701 | .timeEcho _ => 0x0702
  | .idInfo => 0x0801 | .idCert .. => 0x0802 | .attest _ => 0x0803
  | .fwStatus => 0x0901 | .fwLoadBegin .. => 0x0902 | .fwLoadData .. => 0x0903 | .fwLoadEnd .. => 0x0904
  | .fwRestart => 0x0905 | .fwCommit => 0x0906
  | .confirmCheck _ => 0x0A01 | .cartAccept .. => 0x0A02 | .lifeAck _ => 0x0A03 | .safetyStatus => 0x0A04

/-- The lowest authority class. -/
def opClass : Op → Nat
  | .sessionOpen .. | .ping _ | .readReg .. | .spotQuery | .pbStatus | .rehReport | .logInfo | .logRead .. | .timeRead
  | .timeEcho _ | .idInfo | .idCert .. | .fwStatus | .safetyStatus => 0
  | .sessionClose | .writeReg .. | .stop | .logMark _ | .attest _ => 1
  | .spotRequest _ | .spotRenew | .spotRelease | .arm | .perform | .setpoint _ | .disarm => 2
  | .workshopEnter | .workshopLeave | .pbLoadBegin .. | .pbLoadData .. | .pbLoadEnd .. | .pbActivate | .pbAbort
  | .rehRerun _ | .rehTask _ | .fwLoadBegin .. | .fwLoadData .. | .fwLoadEnd .. | .fwRestart | .fwCommit
  | .confirmCheck _ | .cartAccept .. | .lifeAck _ => 3

/-- The opcode is local; the others are agreed (R477). -/
def opLocal : Op → Bool
  | .ping _ | .readReg .. | .spotQuery | .pbStatus | .rehReport | .logInfo | .logRead .. | .timeRead | .timeEcho _
  | .idInfo | .idCert .. | .attest _ | .fwStatus | .safetyStatus => true
  | _ => false

/-- The seat must hold the spotlight at the effect (R494). -/
def opHolder : Op → Bool
  | .arm | .perform | .setpoint _ | .disarm | .rehTask _ => true
  | _ => false

/-- The module state permits the opcode (R480, R482). -/
def opStates (op : Op) (m : Mode) : Bool :=
  let parked := m == .hold || m == .workshop
  match op with
  | .spotRequest _ | .spotRenew | .spotRelease => parked || m == .armed || m == .performing || m == .degraded
  | .arm | .pbActivate | .fwCommit | .confirmCheck _ | .lifeAck _ => m == .hold
  | .perform => m == .armed
  | .setpoint _ => m == .performing || m == .degraded || m == .workshop
  | .disarm => m == .armed || m == .performing
  | .stop | .attest _ => decide (4 ≤ m.code ∧ m.code ≤ 10)
  | .workshopEnter => m == .hold || m == .curtain
  | .workshopLeave | .rehTask _ => m == .workshop
  | .pbLoadBegin .. | .pbLoadData .. | .pbLoadEnd .. | .pbAbort | .rehRerun _ | .fwLoadBegin .. | .fwLoadData ..
  | .fwLoadEnd .. | .fwRestart | .cartAccept .. => parked
  | _ => true

/-- The payload length fits the opcode (R472 step 10, R473, R486, R577). -/
def opFits (op : Op) (n : Nat) : Bool :=
  match op with
  | .sessionOpen .. => n == 449
  | .ping d => n == d.length && decide (n ≤ 64)
  | .readReg .. => n == 8
  | .writeReg _ c ws => n == 8 + 4 * c && ws.length == c
  | .setpoint es => n == 12 * es.length && decide (1 ≤ es.length ∧ es.length ≤ 4)
  | .spotRequest _ | .rehRerun _ | .rehTask _ | .idCert .. | .confirmCheck _ | .lifeAck _ => n == 4
  | .pbLoadBegin .. | .fwLoadBegin .. | .cartAccept .. => n == 52
  | .pbLoadData _ c | .fwLoadData _ c => n == 4 + c && decide (1 ≤ c ∧ c ≤ 1020)
  | .logRead .. => n == 12
  | .logMark t => n == t.length && decide (1 ≤ n ∧ n ≤ 64)
  | .attest _ => n == 32
  | _ => n == 0

/-- What GHOST LIGHT still executes (R479): class-0 local opcodes, session and log opcodes, STOP, the 0x0Axx opcodes. -/
def opInGhost (op : Op) : Bool :=
  let c := opCode op
  (opLocal op && opClass op == 0) || c == 1 || c == 2 || c / 256 == 6 || c == 0x0305 || c / 256 == 10

/-- What the ROM responder answers (R324, R479): the session, identity and firmware opcodes. -/
def opInRom (op : Op) : Bool := let c := opCode op; c == 1 || c == 2 || c / 256 == 8 || c / 256 == 9

/-- The opcodes that are answered at a cycle start (R554). -/
def opAtCycle : Op → Bool
  | .arm | .perform | .disarm | .workshopEnter | .workshopLeave => true
  | _ => false

/-! ### Sessions (R473 to R476) -/

/-- An AUTH failure is shown, counted and logged (R472). -/
def Lane.authFail (l : Lane) (s : Seat) (d : Nat) : Lane :=
  let l := l.raise R.HS_EVT_AUTHFAIL
  let l := if d = 3 then (l.bump R.HS_CNT1_REPLAY).raise R.HS_EVT_REPLAY else l.bump R.HS_CNT1_AUTH
  l.note (.authFailed s d)

/-- The reply to an AUTH failure found in execution. -/
def Lane.answerAuth (l : Lane) (h : Hdr) (path : Option Path) (d : Nat) : Lane := (l.authFail h.seat d).answer h path (.auth d) []

/-- The identifier is newer than every one on record (R475). -/
def Lane.newerSession (l : Lane) (h : Hdr) : Bool := decide (l.seats.sessionHigh[h.seat] < h.session.toNat)

/-- Verification and key derivation have ended (R474, R475): the session replaces the one before, or AUTH. A lane without
its identity key unwraps nothing (R537). -/
def Lane.finishSession (l : Lane) (h : Hdr) (path : Option Path) (key : BitVec 64) (sigOk unwrapOk : Bool) : Lane :=
  let anchor := l.word (R.HS_SKEYHI h.seat) ++ l.word (R.HS_SKEYLO h.seat)
  if !l.newerSession h then l.answerAuth h path 3
  else if anchor ≠ key ∨ !sigOk ∨ !unwrapOk ∨ !l.flag R.KP_STAT_IDKEY then l.answerAuth h path 7
  else
    let l := l.endSession h.seat
    let l := l.onSeats fun s => { s with
      sessionHigh := s.sessionHigh.set h.seat h.session.toNat, sequenced := s.sequenced &&& ~~~(BitVec.twoPow 8 h.seat.val) }
    let l := ((l.setWord (R.HS_SSES h.seat) h.session).setWord (R.HS_SSEQ h.seat) 0).raise (R.HS_SSEQ_OPEN h.seat)
    (l.raise R.HS_EVT_SESOPEN).answerTagged h path .ok [] true

/-- A ticket is queued for a command: the reply `ok` where the prompter takes it (R305). -/
def Lane.queueAsked (l : Lane) (h : Hdr) (path : Option Path) (w : Work) (c : Cost) (e : Option Engine)
    (ok : Option (List Byte)) : Lane :=
  let l' := l.queueTicket w c e (some (h, path))
  if l'.box.queued.length = l.box.queued.length then l'
  else match ok with
    | some b => l'.answer h path .ok b
    | none => l'

/-- SESSION_OPEN: the work runs under a CRYPTO ticket (R475); the ROM responder has no prompter. -/
def Lane.sessionOpen (l : Lane) (h : Hdr) (path : Option Path) (key : BitVec 64) (sigOk unwrapOk : Bool) : Lane :=
  if !l.newerSession h then l.answerAuth h path 3
  else if l.trust.romResponder then l.finishSession h path key sigOk unwrapOk
  else l.queueAsked h path (.session h path key sigOk unwrapOk) (firmwareCost 3) (some (firmwareEngineOf 3)) none

/-- SESSION_CLOSE. -/
def Lane.sessionClose (l : Lane) (h : Hdr) (path : Option Path) : Lane :=
  if l.flag (R.HS_SSEQ_OPEN h.seat) then (l.endSession h.seat).answer h path .ok []
  else l.answer h path ⟨0, 2⟩ []

/-! ### Reads -/

/-- A lane time in the 80-bit form of R413. -/
def timeBytes80 (t : Nat) : List Byte :=
  let q := t * 4 / 2 ^ 24
  beBytes 6 (q / 4000000000) ++ beBytes 4 ((q % 4) * 2 ^ 30 + q / 4 % 1000000000)

/-- PING. -/
def Lane.ping (l : Lane) (h : Hdr) (path : Option Path) (data : List Byte) : Lane :=
  l.answer h path .ok (data ++ l.wordsAt [R.LC_STATE] ++ timeBytes l.ltime)

/-- READ_REG (R485). Claims under the guard or in a drill cycle are to be repeated (R280, R510). -/
def Lane.readReg (l : Lane) (h : Hdr) (path : Option Path) (a count : Nat) : Lane :=
  if !rangeFits a count 64 then l.answer h path (.param 2) []
  else if claims a count ∧ l.callGuarded then l.answer h path (.retry 1) []
  else
    let r := readWords count a l
    r.1.answer h path .ok (r.2.flatMap fun w => beBytes 4 w.toNat)

/-- WRITE_REG (R486). -/
def Lane.writeReg (l : Lane) (h : Hdr) (path : Option Path) (a count : Nat) (ws : List Word) : Lane :=
  let r := l.writeRegs a count ws
  r.1.answer h path r.2 []

/-- SPOT_QUERY. -/
def Lane.spotQuery (l : Lane) (h : Hdr) (path : Option Path) : Lane := l.answer h path .ok (l.spotBytes l.endCycle)

/-- REH_REPORT: BI_STAT to BI_SODT. -/
def Lane.rehReport (l : Lane) (h : Hdr) (path : Option Path) : Lane :=
  l.answer h path .ok (l.wordsAt ((List.range 15).map fun k => R.BI_STAT + 4 * k))

/-- The oldest record of the house log. -/
def Lane.oldestRecord (l : Lane) : Nat := ((l.log.getLast?).map (·.num)).getD 0

/-- LOG_INFO; the model's log loses no record (assumption 23). -/
def Lane.logInfo (l : Lane) (h : Hdr) (path : Option Path) : Lane :=
  l.answer h path .ok (beBytes 4 (Config.logCapacity (l.get R.LC_MEMCFG_SIZE)) ++ beBytes 8 l.oldestRecord ++
    beBytes 8 (((l.log.head?).map (·.num)).getD 0) ++ beBytes 4 0)

/-- The event bit that a record's kind names (R484). -/
def logEvent : LogEntry → Option Fld
  | .trimLimit n => some (R.DC_EVT_TRIMLIM n)
  | .implausible n => some (R.DC_EVT_ENCDEV n)
  | .switchTrip n _ ceiling => some (if ceiling then R.GD_EVT_CEIL n else R.GD_EVT_VDS n)
  | .oddCore _ kind => some (if kind = 1 then R.TV_EVT_ODDLATE else R.TV_EVT_ODDDIFF)
  | .resynced _ => some R.TV_EVT_RSDONE
  | .coreUnusable _ => some R.TV_EVT_UNUSABLE
  | .busOff k => some (R.CN_EVT_BUSOFF k)
  | .unusable _ _ => some R.BI_EVT_UNUSABLE
  | .memory _ _ _ _ ecc => some (if ecc then R.BI_EVT_ECCROW else R.BI_EVT_MEMFAIL)
  | .tampered _ => some R.KP_EVT_TAMPER
  | .cartAccepted n _ => some (R.CT_EVT_ACCEPT n)
  | .replaceNotice n => some (R.CT_EVT_REPLACE n)
  | .authFailed _ _ => some R.HS_EVT_AUTHFAIL
  | .overvoltageCause | .noCause | .skew _ | .faults _ _ | .bookRefused _ _ _ | .stepDone _ _ _ | .holdLost | .mark _ => none

/-- A record of the house log (R484): its kind is the block and the bit of the event it records; a text mark has the kind of
the HS block and 0xFE. Other kinds and the data are not given (assumption 23). -/
def recordBytes (r : LogRecord) : List Byte :=
  let g := Config.logForm r.entry
  let f : Nat × List Byte := match r.entry with
    | .mark t => (0x12FE, t)
    | e => (match logEvent e with | some x => x.addr / 65536 * 256 + x.lo | none => g.1, g.2)
  let data := f.2.take 240
  beBytes 8 r.num ++ timeBytes r.time ++ beBytes 2 f.1 ++ beBytes 2 data.length ++ data

/-- Whole records from the front that fit in `n` bytes. -/
def wholeRecords : Nat → List LogRecord → List Byte
  | _, [] => []
  | n, r :: rs => let b := recordBytes r; if b.length ≤ n then b ++ wholeRecords (n - b.length) rs else []

/-- LOG_READ (R484). -/
def Lane.logRead (l : Lane) (h : Hdr) (path : Option Path) (first largest : Nat) : Lane :=
  if largest < 16 ∨ 1024 < largest then l.answer h path (.param 1) []
  else l.answer h path .ok (wholeRecords largest ((l.log.filter fun r => decide (first ≤ r.num)).reverse))

/-- LOG_MARK: the reply holds the number of the record. -/
def Lane.logMark (l : Lane) (h : Hdr) (path : Option Path) (text : List Byte) : Lane :=
  (l.note (.mark text)).answer h path .ok (beBytes 8 l.logNext)

/-- TIME_READ. -/
def Lane.timeRead (l : Lane) (h : Hdr) (path : Option Path) : Lane :=
  l.answer h path .ok (timeBytes80 l.ltime ++ [0, 0] ++ l.wordsAt [R.TM_STAT, R.TM_OFS, R.TM_APPL])

/-- TIME_ECHO: `arrival` is the lane time at the packet's last byte. -/
def Lane.timeEcho (l : Lane) (h : Hdr) (path : Option Path) (arrival : Nat) : Lane :=
  l.answer h path .ok (timeBytes80 arrival ++ timeBytes80 l.ltime ++ [0, 0, 0, 0])

/-- ID_INFO. -/
def Lane.idInfo (l : Lane) (h : Hdr) (path : Option Path) : Lane :=
  l.answer h path .ok (l.wordsAt [R.LC_ID, R.LC_REV, R.LC_SERIAL_LO, R.LC_SERIAL_HI])

/-- ID_CERT (R531). -/
def Lane.idCert (l : Lane) (h : Hdr) (path : Option Path) (index offset : Nat) : Lane :=
  if 2 < index then l.answer h path (.param 7) []
  else
    let der := Config.certificate l.id index
    l.answer h path .ok (beBytes 2 der.length ++ (der.drop offset).take 1022)

/-- SAFETY_STATUS (R529). -/
def Lane.safetyStatus (l : Lane) (h : Hdr) (path : Option Path) : Lane :=
  l.answer h path .ok (l.wordsAt [R.SF_STAT, R.SF_OWN, R.SF_KOSTAT, R.SF_RAW])

/-- The book this lane is concerned with: under check, to come into force, in force. -/
def Lane.presentBook (l : Lane) : Option Book := l.trust.checking <|> (l.trust.nextBook <|> l.trust.book)

/-- The prompt-book status (R335). -/
def Lane.bookBytes (l : Lane) : List Byte :=
  let t := l.trust
  let slot := match activeSlot l.pbSlots with | some k => k.val | none => 255
  beBytes 1 t.state ++ beBytes 1 (if t.state = 3 then t.code else 0) ++ beBytes 2 t.section_ ++ beBytes 4 t.offset ++
  beBytes 1 slot ++ beBytes 1 t.fuses.counter ++ [0, 0] ++ beBytes 4 ((l.presentBook.map checkValue).getD 0).toNat

/-- PB_STATUS. -/
def Lane.pbStatus (l : Lane) (h : Hdr) (path : Option Path) : Lane := l.answer h path .ok l.bookBytes

/-- The report of ATTEST without its signature (R534). -/
def Lane.reportBody (l : Lane) (nonce : BitVec 256) : List Byte :=
  let t := l.trust
  let fw := t.fw
  let cart (n : Axis) : List Byte :=
    beBytes 48 ((t.carts[n].digest).getD 0).toNat ++ beBytes 1 (l.get (R.CT_STAT_AUTH n)) ++
      beBytes 2 (l.consumed n t.carts[n].life).floor.toNat ++ [0]
  beBytes 2 1 ++ beBytes 1 (laneNum l.id) ++ [0] ++ l.wordsAt [R.LC_SERIAL_HI, R.LC_SERIAL_LO] ++
  timeBytes80 l.ltime ++ [0, 0] ++ beBytes 32 nonce.toNat ++ beBytes 48 ((fw.map FwImage.digest).getD 0).toNat ++
  beBytes 2 ((fw.map fun f => imageVersion f.envelope).getD 0) ++
  beBytes 1 ((fw.map fun f => imageSecurity f.envelope).getD 0) ++ beBytes 1 t.fuses.counter ++
  beBytes 48 ((l.presentBook.map Book.digest).getD 0).toNat ++
  beBytes 4 ((l.presentBook.map fun b => imageIssue b.envelope).getD 0) ++
  beBytes 4 (t.flash.check.getD 0).toNat ++ beBytes 1 t.state ++
  beBytes 1 (l.get R.LC_STATE_MSTATE * 16 + l.get R.LC_STATE_LSTATE * 4) ++ [0, 0] ++
  l.wordsAt [R.BI_UNUS, R.LC_ENGSTAT, R.BI_SWFAIL, R.BI_STAT] ++ cart 0 ++ cart 1 ++ cart 2 ++ cart 3 ++
  beBytes 2 (l.get R.KP_TAMP_COUNT) ++ beBytes 1 ((l.word R.KP_STAT).toNat % 256) ++ [0]

/-- The signed report leaves (R534). -/
def Lane.finishAttest (l : Lane) (h : Hdr) (path : Option Path) (nonce : BitVec 256) : Lane :=
  let body := l.reportBody nonce
  l.answer h path .ok (body ++ beBytes 96 (Config.signature l.id body).toNat)

/-- ATTEST: the keeper signs under a CRYPTO ticket (R534); the ROM responder at once. -/
def Lane.attest (l : Lane) (h : Hdr) (path : Option Path) (nonce : BitVec 256) : Lane :=
  if l.trust.romResponder then l.finishAttest h path nonce
  else l.queueAsked h path (.attest h path nonce) (firmwareCost 3) (some (firmwareEngineOf 3)) none

/-! ### Module state and motion (R554 to R557, R577) -/

/-- The order of R271, most restrictive first, by the codes of R39. -/
def modeOrder : List Nat := [8, 9, 7, 4, 10, 5, 6]

/-- The more restrictive of two states. -/
def stricter (a b : Nat) : Nat := if modeOrder.idxOf a ≤ modeOrder.idxOf b then a else b

/-- A state-change opcode is refused; it is answered at the next cycle start (R554). -/
def Lane.refuseMode (l : Lane) (h : Hdr) (path : Option Path) (st : Status) : Lane :=
  l.onSeats fun s => { s with modeReqs := s.modeReqs ++ [⟨0, some (st.cls, st.detail), h, path⟩] }

/-- A state-change opcode proposes its state; of two proposals of one cycle the more restrictive stands (R271, R554). -/
def Lane.askMode (l : Lane) (h : Hdr) (path : Option Path) (m : Mode) : Lane :=
  let l := l.onSeats fun s => { s with modeReqs := s.modeReqs ++ [⟨m.code, none, h, path⟩] }
  l.onWing fun w => { w with
    proposed := if w.proposed = l.get R.LC_STATE_MSTATE then m.code else stricter w.proposed m.code }

/-- Every axis that the book enables, and those alone. -/
def Lane.everyAxis (l : Lane) (f : Axis → Bool) : Bool := (List.finRange 4).all fun n => !l.bookEnables n || f n

/-- Why ARM is refused, none where every condition of R555 holds: of the other lanes the trio uses what has been agreed
(R235). -/
def Lane.armRefused (l : Lane) : Option Status :=
  if l.trust.state ≠ 5 ∨ !l.wing.values.everyConfirmed then some l.bookStatus
  else if l.tiedToHold ∨ l.inhibited then some l.stateStatus
  else if !l.everyAxis l.internal then some l.stateStatus
  else if !l.everyAxis (fun n => l.fbValid n && l.wing.values.axes[n].everyValid) then some l.stateStatus
  else if !l.everyAxis (fun n => l.axisTrusted n && !l.lifeRefused n) then some l.stateStatus
  else if !l.thresholdsHold then some l.stateStatus
  else none

/-- ARM (R555). -/
def Lane.arm (l : Lane) (h : Hdr) (path : Option Path) : Lane :=
  match l.armRefused with
  | some st => l.refuseMode h path st
  | none => l.askMode h path .armed

/-- PERFORM: refused while an input with the function INHIBIT or STOP acts (R521). -/
def Lane.performOp (l : Lane) (h : Hdr) (path : Option Path) : Lane :=
  if l.inhibited then l.refuseMode h path l.stateStatus else l.askMode h path .performing

/-- DISARM: with every axis STILL (R482). -/
def Lane.disarm (l : Lane) (h : Hdr) (path : Option Path) : Lane :=
  if l.everyAxis fun n => l.flag (R.FB_STAT_STILL n) then l.askMode h path .hold else l.refuseMode h path l.stateStatus

/-- WORKSHOP_ENTER: from CURTAIN with two LIVE lanes (R557); not from a HOLD that digests, versions or serials keep (R41,
R267). -/
def Lane.workshopEnter (l : Lane) (h : Hdr) (path : Option Path) : Lane :=
  if l.mode = .curtain ∧ l.get R.LC_STATE_LIVECNT < 2 then l.refuseMode h path l.stateStatus
  else if l.tiedToHold then l.refuseMode h path l.stateStatus
  else l.askMode h path .workshop

/-- WORKSHOP_LEAVE. -/
def Lane.workshopLeave (l : Lane) (h : Hdr) (path : Option Path) : Lane := l.askMode h path .hold

/-- Why a SETPOINT is refused (R577). -/
def Lane.setpointRefused (l : Lane) (es : List SetEntry) : Option Status :=
  let valid (e : SetEntry) : Bool := if h : e.axis < 4 then l.loopRole ⟨e.axis, h⟩ != .none else false
  if !es.all valid then some (.param 7)
  else if !(es.map (·.axis)).Nodup then some (.param 2)
  else none

/-- One entry of a SETPOINT; in DEGRADED from HOLD the axis enables at its first one (R556). -/
def Lane.setOne (l : Lane) (e : SetEntry) : Lane :=
  if h : e.axis < 4 then
    let n : Axis := ⟨e.axis, h⟩
    let l := l.setPref n e.ref
    if l.mode = .degraded ∧ l.mode_.enableFirst.getLsbD n ∧ (l.bookEnables n ∨ l.flag (R.DC_CTRL_EN n)) then
      (l.onMode fun m => { m with enableFirst := m.enableFirst &&& ~~~(BitVec.twoPow 4 n.val) }).ensureEnabled n
    else l
  else l

/-- SETPOINT (R577). -/
def Lane.setpoint (l : Lane) (h : Hdr) (path : Option Path) (es : List SetEntry) : Lane :=
  match l.setpointRefused es with
  | some st => l.answer h path st []
  | none => (es.foldl (fun l e => l.setOne e) l).answer h path .ok []

/-! ### Rehearsal opcodes (R365) -/

/-- REH_RERUN. -/
def Lane.rehRerun (l : Lane) (h : Hdr) (path : Option Path) (step : Nat) : Lane :=
  if step < 3 ∨ 9 < step then l.answer h path (.param 7) []
  else l.queueAsked h path (.rerun step) (stepTicket step) none (some [])

/-- REH_TASK: a task of the task tables, by its place in the section. -/
def Lane.rehTask (l : Lane) (h : Hdr) (path : Option Path) (index : Nat) : Lane :=
  match ((l.trust.book.bind (·.tasks)).getD [])[index]? with
  | none => l.answer h path (.param 7) []
  | some t => l.queueAsked h path (.task t.id) t.cost (some t.cost.engine) (some [])

/-! ### Images (R317 to R322, R340 to R342, R483) -/

/-- Firmware status (R482). -/
def Lane.firmwareBytes (l : Lane) : List Byte :=
  let t := l.trust
  let k := inactiveSlot l.fwSlots
  let here := l.fwSlots[k]
  let slot := match activeSlot l.fwSlots with | some k => k.val | none => 255
  beBytes 2 ((t.fw.map fun f => imageVersion f.envelope).getD 0) ++
  beBytes 1 ((t.fw.map fun f => imageSecurity f.envelope).getD 0) ++ beBytes 1 t.fuses.counter ++
  beBytes 1 slot ++ beBytes 1 (if here.isSome then 1 else if t.flash.spoilt.getLsbD k.val then 2 else 0) ++
  beBytes 2 ((here.map fun x => imageVersion x.2.envelope).getD 0) ++ beBytes 8 0

/-- FW_STATUS. -/
def Lane.fwStatus (l : Lane) (h : Hdr) (path : Option Path) : Lane := l.answer h path .ok l.firmwareBytes

/-- A load session begins: the slot it writes is invalid until the end (R317, R340). -/
def Lane.loadBegin (l : Lane) (h : Hdr) (path : Option Path) (firmware : Bool) (length : Nat) (digest : BitVec 384) : Lane :=
  let f := l.trust.flash
  let k := if firmware then inactiveSlot l.fwSlots else inactiveSlot l.pbSlots
  if l.trust.load.isSome then l.answer h path (.busy 16) []
  else if (if firmware then 4194304 else 2097152) < length then l.answer h path (.param 1) []
  else
    let f := if firmware then { f with fw := f.fw.set k none, spoilt := f.spoilt ||| BitVec.twoPow 2 k.val } else { f with pb := f.pb.set k none }
    (l.onTrust fun t => { t with flash := f, load := some ⟨firmware, h.seat, k, length, digest, 0⟩ }).answer h path .ok []

/-- Data of a load: neither a gap nor an overlap, nor beyond the announced length (R483). -/
def Lane.loadData (l : Lane) (h : Hdr) (path : Option Path) (firmware : Bool) (offset count : Nat) : Lane :=
  match l.trust.load with
  | some x =>
    if x.seat ≠ h.seat then l.answer h path (.busy 16) []
    else if x.firmware ≠ firmware ∨ offset ≠ x.written ∨ x.length < offset + count then l.answer h path (.param 3) []
    else (l.onTrust fun t => { t with load := some { x with written := offset + count } }).answer h path .ok []
  | none => l.answer h path (.param 3) []

/-- The load session whose end a seat asks for. -/
def Lane.loadOf (l : Lane) (h : Hdr) (firmware : Bool) : Option LoadSession :=
  l.trust.load.bind fun x => if x.firmware = firmware ∧ x.seat = h.seat then some x else none

/-- The load session closes. -/
def Lane.closeLoad (l : Lane) : Lane := l.onTrust fun t => { t with load := none }

/-- PB_LOAD_END: the image has been written and read back, it is verified under R319 to R322, and only then its record is
written (R317, R340). -/
def Lane.pbLoadEnd (l : Lane) (h : Hdr) (path : Option Path) (readBack : Bool) (b : Book) : Lane :=
  match l.loadOf h false with
  | none => l.answer h path (.image 1) []
  | some x =>
    let l := l.closeLoad
    if x.written ≠ x.length ∨ x.digest ≠ b.digest ∨ !readBack then l.answer h path (.image 1) []
    else
      match l.verifyBook b with
      | some c => l.answer h path (.image c) l.bookBytes
      | none =>
        let r := makeRecord (BitVec.ofNat 32 (nextWrite l.pbSlots)) x.length x.digest
        let l := l.onTrust fun t => { t with flash := { t.flash with pb := t.flash.pb.set x.slot (some (r, b)) } }
        l.answer h path .ok l.bookBytes

/-- FW_LOAD_END. -/
def Lane.fwLoadEnd (l : Lane) (h : Hdr) (path : Option Path) (readBack : Bool) (f : FwImage) : Lane :=
  match l.loadOf h true with
  | none => l.answer h path (.image 1) []
  | some x =>
    let l := l.closeLoad
    if x.written ≠ x.length ∨ x.digest ≠ f.digest ∨ !readBack then l.answer h path (.image 1) []
    else
      match l.firmwareRefused f with
      | some c => l.answer h path (.image c) []
      | none =>
        let r := makeRecord (BitVec.ofNat 32 (nextWrite l.fwSlots)) x.length x.digest
        let l := l.onTrust fun t => { t with flash := { t.flash with
          fw := t.flash.fw.set x.slot (some (r, f)), spoilt := t.flash.spoilt &&& ~~~(BitVec.twoPow 2 x.slot.val) } }
        l.answer h path .ok l.firmwareBytes

/-- PB_ABORT closes an open load session; its slot stays invalid (R483). -/
def Lane.pbAbort (l : Lane) (h : Hdr) (path : Option Path) : Lane :=
  if l.trust.load.isSome then l.closeLoad.answer h path .ok [] else l.answer h path ⟨0, 2⟩ []

/-- PB_ACTIVATE (R342): the book of the active slot goes through SCRIPT CHECK; the registers in force stay. -/
def Lane.pbActivate (l : Lane) (h : Hdr) (path : Option Path) : Lane :=
  match activeSlot l.pbSlots with
  | none => l.answer h path l.bookStatus l.bookBytes
  | some k =>
    match l.pbSlots[k] with
    | none => l
    | some (_, b) =>
      let l := match l.verifyBook b with
        | none => l.takeBook k b
        | some c => l.refuseBook (c, 0, 0)
      let l := ((l.takeMode .scriptCheck).allAxes fun l n => l.parkAxis n).put R.BI_STAT_PHASE 2
      l.koSettle.sendDigest.answer h path .ok []

/-- FW_RESTART: every LIVE lane resets at the start of the next cycle (R341). -/
def Lane.fwRestart (l : Lane) (h : Hdr) (path : Option Path) : Lane :=
  (l.onMode fun m => { m with fwRestart := true }).answer h path .ok []

/-- FW_COMMIT: with one version in every LIVE lane, the fused counter rises to the security version in use (R341). -/
def Lane.fwCommit (l : Lane) (h : Hdr) (path : Option Path) : Lane :=
  match l.trust.fw with
  | none => l.answer h path l.stateStatus []
  | some f =>
    if l.wing.values.oneVersion then
      let l := l.onTrust fun t => { t with fuses := { t.fuses with counter := max t.fuses.counter (min 64 (imageSecurity f.envelope)) } }
      l.answer h path .ok (beBytes 1 l.trust.fuses.counter ++ [0, 0, 0])
    else l.answer h path l.stateStatus []

/-! ### Confirmation, cartridges, life (R338, R542, R546) -/

/-- CONFIRM_CHECK at its effect (R338): every taking-part lane in state 0x4 and this lane's value matches; the outcome
follows once the summaries show whether every lane matched. The status of a mismatch is not stated (assumption 24). -/
def Lane.confirmCheck (l : Lane) (h : Hdr) (path : Option Path) (v : Word) : Lane :=
  if l.trust.load.isSome then l.answer h path (.busy 17) []
  else if l.trust.state ≠ 4 ∨ !l.wing.values.noneConfirmed then l.answer h path l.bookStatus l.bookBytes
  else if (l.trust.book.map checkValue) ≠ some v then (l.answer h path (.param (l.choice % 256)) l.bookBytes).nextChoice
  else l.onTrust fun t => { t with confirm := some (v, h, path) }

/-- CART_ACCEPT (R542). -/
def Lane.cartAccept (l : Lane) (h : Hdr) (path : Option Path) (axis : Nat) (d : BitVec 384) : Lane :=
  if hn : axis < 4 then
    let n : Axis := ⟨axis, hn⟩
    if (l.cart n).running then l.onCart n fun c => { c with acceptWait := some (d, h, path) }
    else if (l.cart n).digest ≠ some d then l.answer h path (.param 7) []
    else if l.axisTrusted n then l.answer h path ⟨0, 2⟩ []
    else (l.acceptCart n d h.seat).answer h path .ok []
  else l.answer h path (.param 7) []

/-- LIFE_ACK (R546). -/
def Lane.lifeAckOp (l : Lane) (h : Hdr) (path : Option Path) (axis : Nat) : Lane :=
  if hn : axis < 4 then
    let n : Axis := ⟨axis, hn⟩
    if l.lifeRefused n then (l.ackLife n).answer h path .ok [] else l.answer h path ⟨0, 2⟩ []
  else l.answer h path (.param 7) []

/-! ### Execution (R477, R479, R480, R494) -/

/-- An OUT lane, after the first agreed HOLD or after a lane fault before it (R558). -/
def Lane.goneOut (l : Lane) : Bool := l.lstate == .out && (l.wing.struck || l.fromHold) && !l.trust.romResponder

/-- The checks of module state and spotlight, as execution makes them. -/
def Lane.opRefused (l : Lane) (h : Hdr) (op : Op) : Option Status :=
  if l.trust.romResponder then (if opInRom op then none else some l.stateStatus)
  else if l.goneOut then (if opLocal op && opClass op == 0 then none else some l.stateStatus)
  else if l.mode = .ghost ∧ !opInGhost op then some l.stateStatus
  else if !opStates op l.mode then some l.stateStatus
  else if opHolder op ∧ !l.holdsSpot h.seat then some (.noSpot l.spotOwner)
  else none

/-- What an opcode does. -/
def Lane.runOp (l : Lane) (h : Hdr) (path : Option Path) (op : Op) : Lane :=
  match op with
  | .sessionOpen k a b => l.sessionOpen h path k a b
  | .sessionClose => l.sessionClose h path
  | .ping d => l.ping h path d
  | .readReg a c => l.readReg h path a c
  | .writeReg a c ws => l.writeReg h path a c ws
  | .spotRequest p => l.spotRequest h path p
  | .spotRenew => l.spotRenew h path
  | .spotRelease => l.spotRelease h path
  | .spotQuery => l.spotQuery h path
  | .arm => l.arm h path
  | .perform => l.performOp h path
  | .setpoint es => l.setpoint h path es
  | .disarm => l.disarm h path
  | .stop => l.stopCommand h path
  | .workshopEnter => l.workshopEnter h path
  | .workshopLeave => l.workshopLeave h path
  | .pbStatus => l.pbStatus h path
  | .pbLoadBegin n d => l.loadBegin h path false n d
  | .pbLoadData o c => l.loadData h path false o c
  | .pbLoadEnd r b => l.pbLoadEnd h path r b
  | .pbActivate => l.pbActivate h path
  | .pbAbort => l.pbAbort h path
  | .rehReport => l.rehReport h path
  | .rehRerun k => l.rehRerun h path k
  | .rehTask k => l.rehTask h path k
  | .logInfo => l.logInfo h path
  | .logRead f n => l.logRead h path f n
  | .logMark t => l.logMark h path t
  | .timeRead => l.timeRead h path
  | .timeEcho t => l.timeEcho h path t
  | .idInfo => l.idInfo h path
  | .idCert k o => l.idCert h path k o
  | .attest n => l.attest h path n
  | .fwStatus => l.fwStatus h path
  | .fwLoadBegin n d => l.loadBegin h path true n d
  | .fwLoadData o c => l.loadData h path true o c
  | .fwLoadEnd r f => l.fwLoadEnd h path r f
  | .fwRestart => l.fwRestart h path
  | .fwCommit => l.fwCommit h path
  | .confirmCheck v => l.confirmCheck h path v
  | .cartAccept n d => l.cartAccept h path n d
  | .lifeAck n => l.lifeAckOp h path n
  | .safetyStatus => l.safetyStatus h path

/-- The packet does not name this lane (R477); a restart takes every LIVE lane with it (R341). -/
def Lane.notAddressed (l : Lane) (h : Hdr) (path : Option Path) (op : Op) : Lane :=
  if opLocal op then l
  else if op = .fwRestart ∧ (l.mode = .hold ∨ l.mode = .workshop) then
    (l.onMode fun m => { m with fwRestart := true }).answer h path ⟨0, 3⟩ []
  else l.answer h path ⟨0, 3⟩ []

/-- An opcode is executed in this lane. -/
def Lane.perform (l : Lane) (h : Hdr) (path : Option Path) (op : Op) : Lane :=
  if !h.mask.getLsbD (laneNum l.id) then l.notAddressed h path op
  else
    let l := l.when (!opLocal op) fun l => l.bump R.HS_CNT3_EXEC
    match l.opRefused h op with
    | some st => if opAtCycle op ∧ l.fromHold then l.refuseMode h path st else l.answer h path st []
    | none => l.runOp h path op

end Sys2Proof.Machine
end

