-- ==== Sys2Proof/Machine/SeatOpcodes.lean ====
section
/-!
DEFINITION. The opcode rows: a seat's opcode is executed in one lane, its checks on receipt passed (R472, R477). `path`
is the path of the lane's direct copy, none where it holds a forwarded copy alone.
-/

namespace Sys2Proof.Machine

/-- An opcode is executed in the lane of the event. -/
def State.opcode (s : State) (e : At) (h : Hdr) (path : Option Path) (op : Op) : State :=
  s.logicEvent e fun l => l.perform h path op

/-- A session is opened (R473 to R475). -/
def execSessionOpen (e : At) (h : Hdr) (path : Option Path) (key : BitVec 64) (sigOk unwrapOk : Bool) (s : State) :
    Host.Outcome State Fault Refusal :=
  .next (s.opcode e h path (.sessionOpen key sigOk unwrapOk))

/-- The seat's session is closed (R476). -/
def execSessionClose (e : At) (h : Hdr) (path : Option Path) (s : State) :
    Host.Outcome State Fault Refusal :=
  .next (s.opcode e h path .sessionClose)

/-- PING: the payload, LC_STATE and the lane time (R482). -/
def execPing (e : At) (h : Hdr) (path : Option Path) (data : List Byte) (s : State) :
    Host.Outcome State Fault Refusal :=
  .next (s.opcode e h path (.ping data))

/-- READ_REG (R485). -/
def execReadReg (e : At) (h : Hdr) (path : Option Path) (addr count : Nat) (s : State) :
    Host.Outcome State Fault Refusal :=
  .next (s.opcode e h path (.readReg addr count))

/-- WRITE_REG (R486). -/
def execWriteReg (e : At) (h : Hdr) (path : Option Path) (addr count : Nat) (words : List Word) (s : State) :
    Host.Outcome State Fault Refusal :=
  .next (s.opcode e h path (.writeReg addr count words))

/-- SPOT_REQUEST (R489). -/
def execSpotRequest (e : At) (h : Hdr) (path : Option Path) (preempt : Bool) (s : State) :
    Host.Outcome State Fault Refusal :=
  .next (s.opcode e h path (.spotRequest preempt))

/-- SPOT_RENEW (R492). -/
def execSpotRenew (e : At) (h : Hdr) (path : Option Path) (s : State) :
    Host.Outcome State Fault Refusal :=
  .next (s.opcode e h path .spotRenew)

/-- SPOT_RELEASE (R582). -/
def execSpotRelease (e : At) (h : Hdr) (path : Option Path) (s : State) :
    Host.Outcome State Fault Refusal :=
  .next (s.opcode e h path .spotRelease)

/-- SPOT_QUERY (R482). -/
def execSpotQuery (e : At) (h : Hdr) (path : Option Path) (s : State) :
    Host.Outcome State Fault Refusal :=
  .next (s.opcode e h path .spotQuery)

/-- ARM (R555). -/
def execArm (e : At) (h : Hdr) (path : Option Path) (s : State) :
    Host.Outcome State Fault Refusal :=
  .next (s.opcode e h path .arm)

/-- PERFORM (R482, R521). -/
def execPerform (e : At) (h : Hdr) (path : Option Path) (s : State) :
    Host.Outcome State Fault Refusal :=
  .next (s.opcode e h path .perform)

/-- SETPOINT (R577). -/
def execSetpoint (e : At) (h : Hdr) (path : Option Path) (entries : List SetEntry) (s : State) :
    Host.Outcome State Fault Refusal :=
  .next (s.opcode e h path (.setpoint entries))

/-- DISARM (R482). -/
def execDisarm (e : At) (h : Hdr) (path : Option Path) (s : State) :
    Host.Outcome State Fault Refusal :=
  .next (s.opcode e h path .disarm)

/-- STOP (R493). -/
def execStop (e : At) (h : Hdr) (path : Option Path) (s : State) :
    Host.Outcome State Fault Refusal :=
  .next (s.opcode e h path .stop)

/-- WORKSHOP_ENTER (R557). -/
def execWorkshopEnter (e : At) (h : Hdr) (path : Option Path) (s : State) :
    Host.Outcome State Fault Refusal :=
  .next (s.opcode e h path .workshopEnter)

/-- WORKSHOP_LEAVE (R557). -/
def execWorkshopLeave (e : At) (h : Hdr) (path : Option Path) (s : State) :
    Host.Outcome State Fault Refusal :=
  .next (s.opcode e h path .workshopLeave)

/-- PB_STATUS (R335). -/
def execPbStatus (e : At) (h : Hdr) (path : Option Path) (s : State) :
    Host.Outcome State Fault Refusal :=
  .next (s.opcode e h path .pbStatus)

/-- PB_LOAD_BEGIN (R340, R483). -/
def execPbLoadBegin (e : At) (h : Hdr) (path : Option Path) (length : Nat) (digest : BitVec 384) (s : State) :
    Host.Outcome State Fault Refusal :=
  .next (s.opcode e h path (.pbLoadBegin length digest))

/-- PB_LOAD_DATA (R483). -/
def execPbLoadData (e : At) (h : Hdr) (path : Option Path) (offset count : Nat) (s : State) :
    Host.Outcome State Fault Refusal :=
  .next (s.opcode e h path (.pbLoadData offset count))

/-- PB_LOAD_END (R340). -/
def execPbLoadEnd (e : At) (h : Hdr) (path : Option Path) (readBack : Bool) (book : Book) (s : State) :
    Host.Outcome State Fault Refusal :=
  .next (s.opcode e h path (.pbLoadEnd readBack book))

/-- PB_ACTIVATE (R342). -/
def execPbActivate (e : At) (h : Hdr) (path : Option Path) (s : State) :
    Host.Outcome State Fault Refusal :=
  .next (s.opcode e h path .pbActivate)

/-- PB_ABORT (R483). -/
def execPbAbort (e : At) (h : Hdr) (path : Option Path) (s : State) :
    Host.Outcome State Fault Refusal :=
  .next (s.opcode e h path .pbAbort)

/-- REH_REPORT (R364). -/
def execRehReport (e : At) (h : Hdr) (path : Option Path) (s : State) :
    Host.Outcome State Fault Refusal :=
  .next (s.opcode e h path .rehReport)

/-- REH_RERUN (R365). -/
def execRehRerun (e : At) (h : Hdr) (path : Option Path) (step : Nat) (s : State) :
    Host.Outcome State Fault Refusal :=
  .next (s.opcode e h path (.rehRerun step))

/-- REH_TASK (R365). -/
def execRehTask (e : At) (h : Hdr) (path : Option Path) (index : Nat) (s : State) :
    Host.Outcome State Fault Refusal :=
  .next (s.opcode e h path (.rehTask index))

/-- LOG_INFO (R482). -/
def execLogInfo (e : At) (h : Hdr) (path : Option Path) (s : State) :
    Host.Outcome State Fault Refusal :=
  .next (s.opcode e h path .logInfo)

/-- LOG_READ (R484). -/
def execLogRead (e : At) (h : Hdr) (path : Option Path) (first largest : Nat) (s : State) :
    Host.Outcome State Fault Refusal :=
  .next (s.opcode e h path (.logRead first largest))

/-- LOG_MARK (R482). -/
def execLogMark (e : At) (h : Hdr) (path : Option Path) (text : List Byte) (s : State) :
    Host.Outcome State Fault Refusal :=
  .next (s.opcode e h path (.logMark text))

/-- TIME_READ (R413). -/
def execTimeRead (e : At) (h : Hdr) (path : Option Path) (s : State) :
    Host.Outcome State Fault Refusal :=
  .next (s.opcode e h path .timeRead)

/-- TIME_ECHO (R482). -/
def execTimeEcho (e : At) (h : Hdr) (path : Option Path) (arrival : Nat) (s : State) :
    Host.Outcome State Fault Refusal :=
  .next (s.opcode e h path (.timeEcho arrival))

/-- ID_INFO (R482). -/
def execIdInfo (e : At) (h : Hdr) (path : Option Path) (s : State) :
    Host.Outcome State Fault Refusal :=
  .next (s.opcode e h path .idInfo)

/-- ID_CERT (R531). -/
def execIdCert (e : At) (h : Hdr) (path : Option Path) (index offset : Nat) (s : State) :
    Host.Outcome State Fault Refusal :=
  .next (s.opcode e h path (.idCert index offset))

/-- ATTEST (R534). -/
def execAttest (e : At) (h : Hdr) (path : Option Path) (nonce : BitVec 256) (s : State) :
    Host.Outcome State Fault Refusal :=
  .next (s.opcode e h path (.attest nonce))

/-- FW_STATUS (R482). -/
def execFwStatus (e : At) (h : Hdr) (path : Option Path) (s : State) :
    Host.Outcome State Fault Refusal :=
  .next (s.opcode e h path .fwStatus)

/-- FW_LOAD_BEGIN (R340, R483). -/
def execFwLoadBegin (e : At) (h : Hdr) (path : Option Path) (length : Nat) (digest : BitVec 384) (s : State) :
    Host.Outcome State Fault Refusal :=
  .next (s.opcode e h path (.fwLoadBegin length digest))

/-- FW_LOAD_DATA (R483). -/
def execFwLoadData (e : At) (h : Hdr) (path : Option Path) (offset count : Nat) (s : State) :
    Host.Outcome State Fault Refusal :=
  .next (s.opcode e h path (.fwLoadData offset count))

/-- FW_LOAD_END (R340). -/
def execFwLoadEnd (e : At) (h : Hdr) (path : Option Path) (readBack : Bool) (image : FwImage) (s : State) :
    Host.Outcome State Fault Refusal :=
  .next (s.opcode e h path (.fwLoadEnd readBack image))

/-- FW_RESTART (R341). -/
def execFwRestart (e : At) (h : Hdr) (path : Option Path) (s : State) :
    Host.Outcome State Fault Refusal :=
  .next (s.opcode e h path .fwRestart)

/-- FW_COMMIT (R341). -/
def execFwCommit (e : At) (h : Hdr) (path : Option Path) (s : State) :
    Host.Outcome State Fault Refusal :=
  .next (s.opcode e h path .fwCommit)

/-- CONFIRM_CHECK (R338). -/
def execConfirmCheck (e : At) (h : Hdr) (path : Option Path) (value : Word) (s : State) :
    Host.Outcome State Fault Refusal :=
  .next (s.opcode e h path (.confirmCheck value))

/-- CART_ACCEPT (R542). -/
def execCartAccept (e : At) (h : Hdr) (path : Option Path) (axis : Nat) (digest : BitVec 384) (s : State) :
    Host.Outcome State Fault Refusal :=
  .next (s.opcode e h path (.cartAccept axis digest))

/-- LIFE_ACK (R546). -/
def execLifeAck (e : At) (h : Hdr) (path : Option Path) (axis : Nat) (s : State) :
    Host.Outcome State Fault Refusal :=
  .next (s.opcode e h path (.lifeAck axis))

/-- SAFETY_STATUS (R529). -/
def execSafetyStatus (e : At) (h : Hdr) (path : Option Path) (s : State) :
    Host.Outcome State Fault Refusal :=
  .next (s.opcode e h path .safetyStatus)

end Sys2Proof.Machine
end

