-- ==== Sys2Proof/Machine/Seats.lean ====
section
/-!
DEFINITION. How command packets reach a lane: the seat port, the rings, CAN and the wing links (R464 to R469, R477), the
checks of R472, duplicates (R478), and the commands a lane holds until they are agreed (R264 to R266).
-/

namespace Sys2Proof.Machine

/-! ### Orders -/

/-- The order by seat number, then by sequence number (R265, R266). -/
def seatBefore (a b : Pending) : Bool :=
  decide (a.pkt.hdr.seat < b.pkt.hdr.seat) ||
  (a.pkt.hdr.seat == b.pkt.hdr.seat && decide (a.pkt.hdr.seq.toNat < b.pkt.hdr.seq.toNat))

/-- The order of effects (R266): the beat first listed, then seat, then sequence. -/
def effectBefore (a b : Pending) : Bool :=
  let x := a.firstBeat.getD 0
  let y := b.firstBeat.getD 0
  decide (x < y) || (x == y && seatBefore a b)

/-! ### Listing (R265) -/

/-- The commands a lane lists: four of the pending ones, the lowest in order. -/
def Lane.listed (l : Lane) : List (BitVec 64) := ((sortBy seatBefore l.wing.pending).take 4).map (·.pkt.hdr.fp)

/-- WG_CMD[PEND]. -/
def Lane.showPending (l : Lane) : Lane := l.put R.WG_CMD_PEND (min 255 l.wing.pending.length)

/-- The fingerprints stand in the summary of this beat; a command listed for the first time notes the beat. -/
def Lane.listCommands (l : Lane) : Lane :=
  let fps := l.listed
  l.onWing fun w => { w with
    own := w.own.map fun s => { s with prints := fps }
    pending := w.pending.map fun p =>
      if p.firstBeat.isNone ∧ p.pkt.hdr.fp ∈ fps then { p with firstBeat := some w.beatNo } else p }

/-- The summary leaves on both links (R254). -/
def Lane.sendSummary (l : Lane) : Lane :=
  match l.wing.own with
  | some s => (l.emitSummary 0 s).emitSummary 1 s
  | none => l

/-- Whether the summary of this beat has not yet left: it leaves from 12.00 µs after the beat start (R254). -/
def Lane.beforeSummary (l : Lane) : Bool := l.wing.own.isSome && decide (l.now < l.wing.beatAt + us 12)

/-! ### The checks (R472) -/

/-- The seat is defined and served by the path (R463, R465, R468, R469). -/
def Lane.serves (l : Lane) (s : Seat) (path : Path) : Bool :=
  l.flag (R.HS_SCFG_DEF s) &&
  (match path with
   | .port => l.flag R.HS_PORT_EN && l.get R.HS_PORT_SEAT == s.val
   | .ring n => n != 0 && l.get (R.HS_SCFG_NODE s) == n
   | .can k => k == s && l.flag (R.HS_SCAN_EN s)
   | .wing => true)

/-- The session of the header is open, or exhausted since (R472 step 7, R476). -/
def Lane.inSession (l : Lane) (h : Hdr) : Bool :=
  (l.flag (R.HS_SSEQ_OPEN h.seat) || l.flag (R.HS_SSEQ_EXH h.seat)) && l.word (R.HS_SSES h.seat) == h.session

/-- Steps 2 to 7: the first failure. -/
def Lane.frontFails (l : Lane) (p : Packet) (path : Path) : Option Status :=
  let h := p.hdr
  if h.version ≠ 1 then some (.format 3)
  else if !l.serves h.seat path then some (.auth 6)
  else if h.mask = 0 ∨ (h.mask.getLsbD 2 ∧ l.flag R.LC_STATE_CABS) then some (.format 4)
  else
    match p.op with
    | none => some (.format 5)
    | some op =>
      if l.get (R.HS_SCFG_MAXCLS h.seat) < h.cls then some (.auth 4)
      else if h.cls < opClass op then some (.auth 5)
      else if 0 < h.cls ∧ !l.inSession h then some (.auth 1)
      else if 0 < h.cls ∧ !p.tagOk then some (.auth 2)
      else none

/-- Step 9 (R472, R476): the sequence exceeds the last accepted one. -/
def Lane.sequenceFails (l : Lane) (h : Hdr) : Option Status :=
  if h.cls = 0 then none
  else if l.flag (R.HS_SSEQ_EXH h.seat) then some (.auth 8)
  else if l.seats.sequenced.getLsbD h.seat ∧ h.seq.toNat ≤ l.get (R.HS_SSEQ_LASTSEQ h.seat) then some (.auth 3)
  else none

/-- A sequence is accepted; 0xFFFF ends the session (R476). -/
def Lane.acceptSequence (l : Lane) (h : Hdr) : Lane :=
  if h.cls = 0 then l
  else
    let l := l.put (R.HS_SSEQ_LASTSEQ h.seat) h.seq.toNat
    let l := l.onSeats fun s => { s with sequenced := s.sequenced ||| BitVec.twoPow 8 h.seat.val }
    if h.seq = 0xFFFF#16 then (l.raise (R.HS_SSEQ_EXH h.seat)).endSession h.seat else l

/-- A packet fails a check: an AUTH failure is shown, and a direct copy is answered (R471, R472, R477). -/
def Lane.packetFails (l : Lane) (h : Hdr) (path : Path) (st : Status) (tagged : Bool) : Lane :=
  (l.when (st.cls == 7) fun l => l.authFail h.seat st.detail).reply h (some path) st [] tagged

/-! ### Duplicates and held commands (R264 to R266, R478) -/

/-- The path of a copy as a held command keeps it. -/
def directPath : Path → Option Path
  | .wing => none
  | p => some p

/-- This lane has held or executed a copy within the preceding second. -/
def Lane.duplicate (l : Lane) (fp : BitVec 64) : Bool :=
  l.seats.seen.any fun x => x.1 == fp && decide (l.now ≤ x.2 + ms 1000)

/-- A copy has been held or executed now. -/
def Lane.markSeen (l : Lane) (fp : BitVec 64) : Lane :=
  l.onSeats fun s => { s with seen := (fp, l.now) :: s.seen.filter fun x => x.1 != fp && decide (l.now ≤ x.2 + ms 1000) }

/-- A second copy (R478): a direct one gives a command held without one its path; once executed, the stored reply goes
again. -/
def Lane.secondCopy (l : Lane) (h : Hdr) (path : Path) : Lane :=
  let l := l.bump R.HS_CNT1_DUP
  let adopt (p : Pending) : Pending := if p.pkt.hdr.fp = h.fp ∧ p.path.isNone then { p with path := directPath path } else p
  let l := l.onWing fun w => { w with pending := w.pending.map adopt, agreed := w.agreed.map adopt }
  match l.seats.stored.find? fun x => x.fp == h.fp && decide (l.now ≤ x.at_ + ms 1000) with
  | some x => l.sendReply h (directPath path) x.reply
  | none => l

/-- A copy of an agreed opcode is held: it is listed in this beat where the summary has not left (R265). -/
def Lane.holdCommand (l : Lane) (p : Packet) (path : Path) : Lane :=
  let l := (l.markSeen p.hdr.fp).onWing fun w => { w with pending := w.pending ++ [⟨p, directPath path, l.now, none⟩] }
  (l.showPending).when l.beforeSummary fun l => (l.listCommands).sendSummary

/-- A packet has passed every check on receipt: a direct copy is forwarded (R264); a local opcode is executed, an agreed
one held (R477); an OUT lane refuses what it does not answer (R558); the ROM responder acts on its own (R324). -/
def Lane.takePacket (l : Lane) (p : Packet) (op : Op) (path : Path) : Lane :=
  let h := p.hdr
  let direct := path != .wing
  if l.trust.romResponder then l.perform h (directPath path) op
  else
    let l := l.when (direct && !l.goneOut) fun l => (commandSegments p).foldl (fun l f => l.sendBoth f) l
    if opLocal op then l.perform h (directPath path) op
    else if l.goneOut then (if direct then l.answer h (directPath path) l.stateStatus [] else l)
    else l.holdCommand p path

/-- The checks of R472, in their order; a forwarded copy of a local opcode is discarded (R477). -/
def Lane.checkPacket (l : Lane) (p : Packet) (path : Path) : Lane :=
  let h := p.hdr
  if !p.crcOk then l.bump R.HS_CNT0_CRC
  else
    let l := l.bump R.HS_CNT0_RXOK
    match p.op with
    | some op =>
      if path = .wing ∧ (opLocal op ∨ l.goneOut) then l
      else
        match l.frontFails p path with
        | some st => l.packetFails h path st false
        | none =>
          if !opLocal op ∧ !l.trust.romResponder ∧ l.duplicate h.fp then l.secondCopy h path
          else
            match l.sequenceFails h with
            | some st => l.packetFails h path st (decide (0 < h.cls))
            | none =>
              let l := l.acceptSequence h
              if opFits op h.len then l.takePacket p op path
              else l.packetFails h path (.format 1) (decide (0 < h.cls))
    | none =>
      match l.frontFails p path with
      | some st => l.packetFails h path st false
      | none => l

/-! ### The seat port (R465 to R467) -/

/-- A framing error (R466, R469). -/
def Lane.frameError (l : Lane) : Lane := (l.bump R.HS_CNT2_FRAME).raise R.HS_EVT_FRAME

/-- A WRITE transaction with `waiting` packets still in the port's buffers: it is accepted when SEATCS_x rises after exactly
the packet's length (R466). -/
def execSeatWrite (e : At) (waiting : Fin 3) (bytes : List Byte) (facts : PacketFacts) (s : State) :
    Host.Outcome State Fault Refusal :=
  .next (s.logicEvent e fun l =>
    if !l.flag R.HS_PORT_EN then l
    else if bytes.length ≠ packetLength bytes then l.frameError
    else if waiting = 2 then (l.bump R.HS_CNT2_OVF).raise R.HS_EVT_OVF
    else (l.onSeats fun q => { q with buffered := waiting.val + 1 }).checkPacket (readPacket ⟨bytes, facts⟩) .port)

/-- What a READ transaction shifts out: zero during the first byte and the filler, the length, the oldest reply (R466). -/
def portRead (r : Option Reply) : List Byte :=
  let b := (r.map replyBytes).getD []
  [0, 0] ++ beBytes 2 b.length ++ b

/-- A READ transaction; `whole`: all 2 + L bytes were sent. -/
def execSeatRead (e : At) (whole : Bool) (s : State) : Host.Outcome State Fault Refusal :=
  .next (s.logicEvent e fun l =>
    if !l.flag R.HS_PORT_EN then l
    else
      let l := l.send (.seatOut (portRead l.seats.replies.head?))
      if whole then (l.onSeats fun q => { q with replies := q.replies.tail }).atn else l)

/-- A STATUS transaction. -/
def execSeatStatus (e : At) (waiting : Fin 3) (s : State) : Host.Outcome State Fault Refusal :=
  .next (s.logicEvent e fun l =>
    if !l.flag R.HS_PORT_EN then l
    else
      let l := l.onSeats fun q => { q with buffered := waiting.val }
      l.send (.seatStatus [0, 0, BitVec.ofNat 8 ((if waiting.val < 2 then 128 else 0) + 16 * min 7 l.seats.replies.length)]))

/-- A transaction with another first byte is ignored and counted (R466). -/
def execSeatOtherTransaction (e : At) (s : State) : Host.Outcome State Fault Refusal :=
  .next (s.logicEvent e fun l => if l.flag R.HS_PORT_EN then l.frameError else l)

/-! ### CAN (R469) -/

/-- The open transfer of a seat. -/
def Lane.setTransfer (l : Lane) (k : Seat) (t : Option CanTransfer) : Lane :=
  l.onSeats fun s => { s with transfers := s.transfers.set k t }

/-- A segment in HS_SCANk[RXBUF]: byte 0 holds `first`, `last` and `index`, byte 1 the transfer number, `pkt` the data of
bytes 2 to 63; the last segment completes the packet, whose padding falls away (R469). -/
def Lane.segment (l : Lane) (k : Seat) (first last : Bool) (index : Fin 64) (number : Byte) (pkt : PacketIn) : Lane :=
  let whole (b : List Byte) : Packet := readPacket ⟨b.take (packetLength b), pkt.facts⟩
  if first then
    let l := if l.seats.transfers[k].isSome then (l.setTransfer k none).frameError else l
    if index ≠ 0 then l.frameError
    else if last then l.checkPacket (whole pkt.bytes) (.can k)
    else l.setTransfer k (some ⟨number.toNat, 1, l.mode_.cycle, pkt.bytes⟩)
  else
    match l.seats.transfers[k] with
    | none => l.frameError
    | some t =>
      if t.number ≠ number.toNat ∨ t.next ≠ index.val then (l.setTransfer k none).frameError
      else if last then (l.setTransfer k none).checkPacket (whole (t.data ++ pkt.bytes)) (.can k)
      else l.setTransfer k (some { t with next := t.next + 1, data := t.data ++ pkt.bytes })

/-- A seat segment arrives on CAN. -/
def execCanSegment (e : At) (k : Seat) (first last : Bool) (index : Fin 64) (number : Byte) (pkt : PacketIn) (s : State) :
    Host.Outcome State Fault Refusal :=
  .next (s.logicEvent e fun l => if l.flag (R.HS_SCAN_EN k) then l.segment k first last index number pkt else l)

/-- A transfer is not complete 8 cycles after its first segment. -/
def execCanTransferTimeout (e : At) (k : Seat) (s : State) : Host.Outcome State Fault Refusal :=
  .next (s.logicEvent e fun l =>
    match l.seats.transfers[k] with
    | some t => if t.cycle + 8 ≤ l.mode_.cycle then (l.setTransfer k none).frameError else l
    | none => l)

/-! ### Rings and wing links -/

/-- A Virec frame arrives; the packets of a COMMAND cue go to checking at once (R380, R468). -/
def Lane.takeVirec (l : Lane) (p : Port) (f : VirecIn) : Lane :=
  (l.commandsOf p f).foldl (fun l q => l.checkPacket q (.ring (readHeader f.bytes).src)) (l.virecIn p f)

/-- A CUE frame arrives (R388). -/
def execCueFrame (e : At) (p : Port) (f : VirecIn) (s : State) : Host.Outcome State Fault Refusal :=
  .next (s.logicEvent e fun l => l.takeVirec p f)

/-- A START frame arrives (R402, R403). -/
def execStartFrame (e : At) (p : Port) (f : VirecIn) (s : State) : Host.Outcome State Fault Refusal :=
  .next (s.logicEvent e fun l => l.takeVirec p f)

/-- The bytes of a COMMAND segment follow those before it; with the packet's length by its header the packet is whole
(R264). -/
def Lane.addSegment (l : Lane) (p : Peer) (seg : List Byte) (facts : PacketFacts) : Lane :=
  let b := (l.wing.links[p]).segs ++ seg
  if 16 ≤ b.length ∧ packetLength b ≤ b.length then
    (l.onLinkEnd p fun e => { e with segs := [] }).checkPacket (readPacket ⟨b, facts⟩) .wing
  else l.onLinkEnd p fun e => { e with segs := b }

/-- A COMMAND segment on a wing link (R253, R264). -/
def execCommandSegment (e : At) (p : Peer) (h : FrameHdr) (seg : List Byte) (facts : PacketFacts) (s : State) :
    Host.Outcome State Fault Refusal :=
  .next (s.logicEvent e fun l => l.receive p h fun l => l.addSegment p seg facts)

/-- A held command that has not been agreed within 100 µs expires (R266). -/
def Lane.expire (l : Lane) (q : Pending) : Lane :=
  let l := l.onWing fun w => { w with pending := w.pending.filter fun p => p.pkt.hdr.fp != q.pkt.hdr.fp }
  let l := ((l.showPending).raise R.WG_EVT_CMDEXP).bump R.WG_CMDEXP_EXP
  l.reply q.pkt.hdr q.path (.notAgreed 1) [] (decide (0 < q.pkt.hdr.cls))

/-- The expiry of a command. -/
def execCommandExpiry (e : At) (fp : BitVec 64) (s : State) : Host.Outcome State Fault Refusal :=
  .next (s.logicEvent e fun l =>
    match l.wing.pending.find? fun p => p.pkt.hdr.fp == fp && l.since p.heldAt (us 100) with
    | some q => l.expire q
    | none => l)

end Sys2Proof.Machine
end

