-- ==== Sys2Proof/Machine/Wing.lean ====
section
/-!
DEFINITION. The wing links' frames (R251 to R258, R269), the loss of a lane (R273, R274), re-entry (R276, R277), the lead
token (R278 to R281), and the comparison of prompt books (R267, R268, R332).
-/

namespace Sys2Proof.Machine

/-! ### Links -/

/-- Bytes came on a link that make no frame of a known type (R24, R251, R253): discarded and counted. Bytes that pass every
check show a live link. -/
def execCorruptedFrame (e : Seen (List Byte)) (p : Peer) (s : State) : Host.Outcome State Fault Refusal :=
  .next (s.logicEvent e.toAt fun l => if l.linkIgnored p then l else if frameOk e.val then l.aliveLink p else l.spoiledFrame p)

/-- A frame is still unacknowledged 20 µs after it was sent (R255). -/
def execFrameResend (e : At) (p : Peer) (s : State) : Host.Outcome State Fault Refusal :=
  .next (s.logicEvent e fun l => l.resend p)

/-- An UP link has had no valid frame for 200 µs (R256). -/
def execLinkSilence (e : At) (p : Peer) (s : State) : Host.Outcome State Fault Refusal :=
  .next (s.logicEvent e fun l =>
    if l.linkMode p = .up ∧ l.since (l.wing.links[p]).lastValid (us 200) then l.loseLink p else l)

/-- The median of three. -/
def median3 [LT α] [DecidableRel (· < · : α → α → Prop)] (a b c : α) : α :=
  if a < b then (if b < c then b else if a < c then c else a) else if a < c then a else if b < c then c else b

/-- The fused window of the reference figure, 0x8000 ± 0.60 % (R360). -/
def figureOk (x : Nat) : Bool := decide (32572 ≤ x ∧ x ≤ 32964)

/-- Two reference figures are more than `k` × TOL apart (R360): TOL counts 0.01 % of 0x8000, as the window of R360 is given
(assumption 97). -/
def Lane.figuresApart (l : Lane) (k a b : Nat) : Bool :=
  decide (32768 * (k * l.get R.BI_REFCFG_TOL) < 10000 * ((a : Int) - b).natAbs)

/-- The own figure is more than TOL from the median of three (R360). -/
def Lane.figureFar (l : Lane) : Bool :=
  match l.wing.figures[(0 : Peer)], l.wing.figures[(1 : Peer)] with
  | some a, some b =>
    let own := l.get R.BI_REFFIG_OWN
    l.figuresApart 1 own (median3 own a b)
  | _, _ => false

/-- BI_REFFIG[MED] shows the median of three figures. -/
def Lane.showMedian (l : Lane) : Lane :=
  match l.wing.figures[(0 : Peer)], l.wing.figures[(1 : Peer)] with
  | some a, some b => l.put R.BI_REFFIG_MED (median3 (l.get R.BI_REFFIG_OWN) a b)
  | _, _ => l

/-- The figures of start of day, once the own one is known (R360): a lane outside the window, or away from the median of
three, is marked unusable and goes OUT (R362). -/
def Lane.checkFigures (l : Lane) : Lane :=
  if !l.reh.figured then l
  else
    let l := l.showMedian
    if !l.wing.firstHold ∧ (!figureOk (l.get R.BI_REFFIG_OWN) ∨ l.figureFar) ∧ !l.flag R.BI_EVT_REFFAIL then
      ((l.raise R.BI_EVT_REFFAIL).marking fun l => l.raise R.BI_UNUS_REF).laneOut
    else l

/-- With two figures more than 2 × TOL apart both lanes carry on (R360). -/
def Lane.compareFigures (l : Lane) : Lane :=
  let far (x : Nat) : Bool := l.figuresApart 2 x (l.get R.BI_REFFIG_OWN)
  match l.wing.figures[(0 : Peer)], l.wing.figures[(1 : Peer)] with
  | some a, none | none, some a => if far a then l.raise R.BI_EVT_REFDIF else l
  | _, _ => l

/-- A HELLO frame (R256): training, the peer's figure (R360), its lane time (R419). -/
def execWingHello (e : At) (p : Peer) (h : FrameHdr) (figure : BitVec 16) (time dur : Nat) (synced : Bool) (s : State) :
    Host.Outcome State Fault Refusal :=
  .next (s.logicEvent e fun l =>
    let l := l.trainLink p h
    let l := l.onWing fun w => { w with figures := w.figures.set p (some figure.toNat) }
    (l.helloTime (peerLane l.id p) time dur synced).checkFigures)

/-! ### Summaries (R257, R258, R269) -/

/-- The time offset of a peer from a direct summary (R269). -/
def Lane.setOffset (l : Lane) (p : Peer) (sm : Summary) : Lane :=
  let o : Int := (sm.time : Int) / 4 + 2740 - l.ltimeNs
  l.putInt (if p = 0 then R.WG_TOFS1_OFS else R.WG_TOFS2_OFS) (max (-2147483648) (min 2147483647 o))

/-- A summary belongs to the beat this lane is in (R30, R252). Lane times agree from the first agreed HOLD on; before it the
beat index of a peer says nothing here. -/
def Lane.ofThisBeat (l : Lane) (h : FrameHdr) : Bool :=
  !l.wing.firstHold || (h.beat.toNat == l.beatIn % 256 && h.cycle == BitVec.ofNat 16 l.mode_.cycle)

/-- A complete summary of peer `p` (R30, R257): the first of a beat counts; one after the deadline, or of another beat, is
late. A relayed one leaves again byte for byte. -/
def Lane.takeSummary (l : Lane) (p : Peer) (relayed : Bool) (h : FrameHdr) (sm : Summary) : Lane :=
  let l := if relayed then l.raise R.WG_STAT_RELAYIN
    else (l.setOffset p sm).when (l.flag R.WG_STAT_RELAYOUT && l.lstate != .out) fun l =>
      l.send (.relay (otherPeer p) (frameBytes h (summaryBytes sm)) sm)
  if l.wing.closed ∨ !l.ofThisBeat h then l.bump (if p = 0 then R.WG_P1CNT_LATE else R.WG_P2CNT_LATE)
  else if l.wing.got[p].isSome then l
  else l.onWing fun w => { w with got := w.got.set p (some (sm, !relayed)), last := w.last.set p (some sm) }

/-- A summary arrives on a link: of the link's peer, or relayed by it, which the source lane shows (R257). -/
def execPeerSummary (e : At) (link : Peer) (src : BitVec 2) (h : SummaryHdr) (sm : Summary) (s : State) :
    Host.Outcome State Fault Refusal :=
  .next (s.logicEvent e fun l =>
    if l.linkIgnored link then l
    else if src.toNat = laneNum (peerLane l.id link) then
      (l.validFrame link h.ack).takeSummary link false (summaryFrameHdr src h) sm
    else if src.toNat = laneNum (peerLane l.id (otherPeer link)) then
      (l.aliveLink link).takeSummary (otherPeer link) true (summaryFrameHdr src h) sm
    else l.aliveLink link)

/-! ### The lead token (R278 to R281) -/

/-- The lane a code of WG_STAT[LEADL] names. -/
def laneOf : Nat → Option LaneId
  | 0 => some .A | 1 => some .B | 2 => some .C | _ => none

/-- The peer is the lead in this lane's view. -/
def Lane.leadIs (l : Lane) (p : Peer) : Bool := l.get R.WG_STAT_LEADL == laneNum (peerLane l.id p)

/-- The lead lease has passed without renewal (R280). -/
def execLeadLeaseExpiry (e : At) (s : State) : Host.Outcome State Fault Refusal :=
  .next (s.logicEvent e fun l =>
    if l.wing.firstHold ∧ l.lstate ≠ .out ∧ !l.flag R.LC_STATE_LEAD ∧ l.wing.leaseEnd < l.ltime then l.startGuard else l)

/-- After the guard the next LIVE lane after the old lead takes the token (R280, R511). -/
def Lane.endGuard (l : Lane) : Lane :=
  let l := (l.drop R.WG_STAT_GUARD).onWing fun w => { w with leaseEnd := l.ltime + l.lease }
  match (laneOf l.wing.oldLead).bind l.nextLead with
  | some i => if i = l.id then l.takeToken.takeOverCall else l.put R.WG_STAT_LEADL (laneNum i)
  | none => l

/-- The two cycles of the guard have passed. -/
def execTokenGuardEnd (e : At) (s : State) : Host.Outcome State Fault Refusal :=
  .next (s.logicEvent e fun l =>
    if l.flag R.WG_STAT_GUARD ∧ l.get R.WG_LEAD_GUARDC = 0 ∧ !l.wing.guardFresh then l.endGuard else l)

/-- The old lead of a drill has seen the standby take the token: it stops arbitrating at the end of the cycle (R281). -/
def Lane.yieldToken (l : Lane) : Lane := l.onWing fun w => { w with giveUp := true }

/-- A TOKEN frame renews the lease of its sender (R278). -/
def Lane.takeTokenFrame (l : Lane) (p : Peer) (seq leaseEnd : Nat) : Lane :=
  if l.flag R.LC_STATE_LEAD then (if l.wing.drilling then l.yieldToken else l)
  else
    let l := ((l.put R.WG_STAT_LEADL (laneNum (peerLane l.id p))).drop R.WG_STAT_GUARD).put R.WG_LEAD_GUARDC 0
    (l.put R.WG_LEAD_TOKSEQ (seq % 256)).onWing fun w => { w with
      leaseEnd := leaseEnd, tokSeq := seq, guardFresh := false }

/-- A TOKEN frame arrives. The mirror sequence it names is the lead's; a standby reports the sequence of the set it holds
itself (R279). -/
def execToken (e : At) (p : Peer) (h : FrameHdr) (seq _mirrorSeq leaseEnd : Nat) (s : State) :
    Host.Outcome State Fault Refusal :=
  .next (s.logicEvent e fun l => l.receive p h fun l => l.takeTokenFrame p seq leaseEnd)

/-- The last segment of a mirror set that is complete and CRC-clean: applied at the next cycle start (R279). -/
def execMirror (e : At) (p : Peer) (h : FrameHdr) (complete crcOk : Bool) (m : MirrorSet) (s : State) :
    Host.Outcome State Fault Refusal :=
  .next (s.logicEvent e fun l => l.receive p h fun l =>
    if complete ∧ crcOk ∧ l.leadIs p then l.onWing fun w => { w with mirrorNext := some m } else l)

/-- A lane in RESYNC, in this lane's view. -/
def Lane.someResync (l : Lane) : Bool := l.lstate == .resync || l.peerState 0 == 1 || l.peerState 1 == 1

/-- A drill is due: the lead sends HANDOVER in beat 0 (R281). -/
def execHandoverDrill (e : At) (s : State) : Host.Outcome State Fault Refusal :=
  .next (s.logicEvent e fun l =>
    if l.beatIn = 0 ∧ l.flag R.LC_STATE_LEAD ∧ l.lstate = .live ∧ !l.wing.drilling ∧ (l.get R.WG_DRILL_NEXT = 0 ∨ l.wing.drillNow) ∧
        l.mode ≠ .ghost ∧ l.mode ≠ .curtain ∧ !l.someResync then l.startDrill
    else l)

/-! ### Loss, isolation, RESYNC -/

/-- A lane enters RESYNC (R276, R277): the third entry within 60 s takes it OUT. A lead first hands over the token: it keeps
it until the end of the cycle in whose beat 0 it sends HANDOVER (R281). -/
def Lane.enterResync (l : Lane) : Lane :=
  if l.lstate ≠ .live then l
  else
    let recent := l.recentResyncs
    if 2 ≤ recent.length then (l.raise R.WG_EVT_RSFAIL).laneOut
    else
      let lead := l.flag R.LC_STATE_LEAD
      let l := ((l.raise R.WG_EVT_RSBEG).setLState .resync).voidSteps
      let l := (l.allAxes fun l n => l.abandon n).countLive
      let l := (l.put R.WG_RESYNC_STEP 1).put R.WG_RESYNC_BEATS 0
      let l := l.onWing fun w => { w with
        resyncAt := l.now, resyncs := l.now :: recent, run := 0, gotReply := false, rejoin := false
        takeNext := false, leaving := lead, drilling := w.drilling && !lead }
      (l.showResyncs.sendBoth .rejoinRequest).koSettle

/-- Only one LIVE lane remains: GHOST LIGHT at once (R285). -/
def Lane.lastLive (l : Lane) : Lane :=
  if l.lstate = .live ∧ l.get R.LC_STATE_LIVECNT ≤ 1 ∧ l.fromHold then l.enterGhost else l

/-- A peer's RESYNC shows: it does not vote and is LIVE no more (R260, R276, R285). -/
def Lane.peerResync (l : Lane) (p : Peer) : Lane := ((l.setPeerState p 1).countLive).lastLive

/-- One LIVE lane remains (R285), or two of three in a WORKSHOP (R557). -/
def Lane.afterLoss (l : Lane) : Lane :=
  (l.onWing fun w => { w with shopLoss := w.shopLoss || l.mode == .workshop }).lastLive

/-- A peer is declared lost (R273): OUT in the agreed view. A resynchronisation in progress ends (R277), a lost lead starts
the guard (R280). -/
def Lane.declareLost (l : Lane) (p : Peer) : Lane :=
  if l.peerState p = 0 then l
  else
    let was := l.peerLive p
    let l := (l.setPeerState p 0).raise R.WG_EVT_PLOST
    if l.lstate = .resync ∧ was then (l.raise R.WG_EVT_RSFAIL).laneOut
    else
      let other := otherPeer p
      let l := if was ∧ l.peerState other = 1 then l.setPeerState other 0 else l
      let l := l.countLive
      let l := l.when (was && l.flag R.LC_STATE_LEAD) fun l => l.event 7
      let l := l.when (l.leadIs p) fun l => l.startGuard
      l.afterLoss

/-- An OUT frame arrives (R273); before the first agreed HOLD it withdraws its sender (R581). -/
def Lane.outSeen (l : Lane) (p : Peer) : Lane :=
  let l := l.raise R.WG_EVT_OUTRX
  if l.wing.firstHold then l.declareLost p
  else ((l.setPeerState p 0).onWing fun w => { w with digests := w.digests.set p none }).compareDigests

/-- An OUT frame arrives. -/
def execOutFrame (e : At) (p : Peer) (h : FrameHdr) (s : State) : Host.Outcome State Fault Refusal :=
  .next (s.logicEvent e fun l => l.receive p h fun l => l.outSeen p)

/-- The next LIVE lane receives the HANDOVER of the lead (R281). On a mismatch the lead keeps the token, and a second one in
succession puts this lane into RESYNC; of a lead that has left LIVE the token lapses. -/
def Lane.takeHandover (l : Lane) (p : Peer) (crc : Word) : Lane :=
  if !l.leadIs p ∨ l.lstate ≠ .live ∨ l.nextLead (peerLane l.id p) ≠ some l.id then l
  else if crc = l.mirrorSum then
    let l := ((l.raise R.WG_EVT_DRILLOK).bump R.WG_DRILL_PASS).put R.WG_DRILL_NEXT 4096
    l.onWing fun w => { w with takeNext := true, drillFails := 0 }
  else if !l.peerLive p then (l.raise R.WG_EVT_DRILLERR).startGuard
  else
    let n := l.wing.drillFails + 1
    let l := (l.raise R.WG_EVT_DRILLERR).onWing fun w => { w with drillFails := if 2 ≤ n then 0 else n }
    if 2 ≤ n then l.enterResync else l

/-- A HANDOVER frame arrives. -/
def execHandover (e : At) (p : Peer) (h : FrameHdr) (crc : Word) (s : State) : Host.Outcome State Fault Refusal :=
  .next (s.logicEvent e fun l => l.receive p h fun l => l.takeHandover p crc)

/-- A standby lane takes a mirror set (R279, R510, R541, R543). -/
def Lane.applyMirror (l : Lane) (m : MirrorSet) : Lane :=
  let l := l.onWing fun w => { w with mirror := some m, mirrorNext := none, mirrorSeq := m.seq }
  let l := (l.put R.WG_MIRROR_SEQ (m.seq % 65536)).setWord R.WG_MIRCRC (Config.mirrorCrc m)
  let l := (l.applySpotMirror m.spot).applyCallMirror m.call
  l.allAxes fun l n => l.when (decide ((l.trust.carts[n]).life < m.life[n])) fun l => l.setLife n m.life[n]

/-- The lead's reply to a REJOIN request: the agreed module state and the full mirror set (R276 step 1). -/
def Lane.rejoinReply (l : Lane) (mode : Nat) (m : MirrorSet) : Lane :=
  if l.lstate = .resync ∧ l.get R.WG_RESYNC_STEP = 1 then
    let l := (if l.get R.LC_STATE_MSTATE = mode then l else l.takeMode (.ofCode mode)).applyMirror m
    (l.put R.WG_RESYNC_STEP 2).onWing fun w => { w with run := 0, gotReply := true }
  else l

/-- A LIVE lead answers the REJOIN request of a peer, where one waits (R276 step 1). -/
def Lane.answerRejoin (l : Lane) (p : Peer) : Lane :=
  match l.wing.mirror with
  | some m =>
    if l.wing.rejoinWaits[p] ∧ l.peerState p = 1 ∧ l.flag R.LC_STATE_LEAD ∧ l.lstate = .live then
      (l.onWing fun w => { w with rejoinWaits := w.rejoinWaits.set p false }).sendFrame p (.rejoinReply (l.get R.LC_STATE_MSTATE) m)
    else l
  | none => l

/-- A REJOIN request arrives at a lane: it waits until this lane is the lead with a mirror set. -/
def Lane.rejoinAsked (l : Lane) (p : Peer) : Lane :=
  let l := l.onWing fun w => { w with rejoinWaits := w.rejoinWaits.set p true }
  (if l.peerLive p then l.peerResync p else l).answerRejoin p

/-- A REJOIN frame arrives: a request, or the lead's reply. -/
def execRejoin (e : At) (p : Peer) (h : FrameHdr) (reply : Option (Nat × MirrorSet)) (s : State) :
    Host.Outcome State Fault Refusal :=
  .next (s.logicEvent e fun l => l.receive p h fun l =>
    match reply with
    | some (mode, m) => if l.leadIs p then l.rejoinReply mode m else l
    | none => l.rejoinAsked p)

/-- Step 3 of R276 has not been reached within 100 ms (R277). -/
def execResyncLaneTimeout (e : At) (s : State) : Host.Outcome State Fault Refusal :=
  .next (s.logicEvent e fun l =>
    if l.lstate = .resync ∧ l.get R.WG_RESYNC_STEP < 3 ∧ l.since l.wing.resyncAt (ms 100) then
      (l.raise R.WG_EVT_RSFAIL).laneOut
    else l)

/-! ### Prompt books of the peers (R41, R267, R268, R332) -/

/-- A DIGEST frame (R267, R332): one after the wait comes from a lane that takes no part. -/
def Lane.takeDigest (l : Lane) (p : Peer) (d : BitVec 384) (version : Nat) (serial : BitVec 64) : Lane :=
  if l.peerState p = 0 ∨ (l.wing.waitOver ∧ !l.wing.firstHold) then l
  else
    let l := l.onWing fun w => { w with digests := w.digests.set p (some (d, version, serial)) }
    (if l.wing.firstHold then l else l.compareSerials).compareDigests.settleAwaiting

/-- A DIGEST frame arrives. -/
def execDigest (e : At) (p : Peer) (h : FrameHdr) (d : BitVec 384) (version : Nat) (serial : BitVec 64) (s : State) :
    Host.Outcome State Fault Refusal :=
  .next (s.logicEvent e fun l => l.receive p h fun l => l.takeDigest p d version serial)

/-- The wait of R332 ends: a peer without DIGEST is treated as not started (R28). -/
def Lane.endWait (l : Lane) : Lane :=
  let absent (l : Lane) (p : Peer) : Lane := if l.wing.digests[p].isNone then l.setPeerState p 0 else l
  let l := (absent (absent l 0) 1).onWing fun w => { w with waitOver := true }
  l.compareFigures.compareDigests.settleAwaiting

/-- 200 ms after the own DIGEST. -/
def execDigestWaitEnd (e : At) (s : State) : Host.Outcome State Fault Refusal :=
  .next (s.logicEvent e fun l =>
    if l.wing.digestSent ∧ !l.wing.waitOver ∧ !l.wing.firstHold ∧ l.since l.wing.digestAt (ms 200) then l.endWait else l)

/-- A set holds the lane `i` of the result of R268. -/
def passes (b : BitVec 3) (i : LaneId) : Bool := b.getLsbD (laneNum i)

/-- The books have been verified again (R268): `passed` says in which lanes. -/
def Lane.endReverify (l : Lane) (passed : BitVec 3) : Lane :=
  let l := l.onWing fun w => { w with reverify := false }
  let live (i : LaneId) : Bool := l.liveIn i
  let lead := (laneOf (l.get R.WG_STAT_LEADL)).getD l.id
  let chosen := [lead, peerLane lead 0, peerLane lead 1].find? fun i => live i && passes passed i
  if !passes passed l.id then l.laneOut
  else if chosen = some l.id then l.holdToken.enterGhost
  else l.laneOut

/-- The keepers have verified the prompt books again. -/
def execPromptBookReverify (e : At) (passed : BitVec 3) (s : State) : Host.Outcome State Fault Refusal :=
  .next (s.logicEvent e fun l => if l.wing.reverify ∧ l.lstate = .live then l.endReverify passed else l)

end Sys2Proof.Machine
end

