-- ==== Sys2Proof/Machine/Agree.lean ====
section
/-!
DEFINITION. Agreement at the receive deadline (R260 to R276, R94, R206, R213, R519 to R523): the rules of the classes, and
what a lane does with the summaries of a beat.
-/

namespace Sys2Proof.Machine

/-! ### The classes (R261) -/

/-- TORQUE: the median; of two with one sign the smaller magnitude, otherwise 0. -/
def agreeTorque : List Int → Int
  | [] => 0
  | [a] => a
  | [a, b] => if (0 < a ∧ 0 < b) ∨ (a < 0 ∧ b < 0) then (if a.natAbs ≤ b.natAbs then a else b) else 0
  | a :: b :: c :: _ => median3 a b c

/-- LIMIT: the median; of two the smaller. -/
def agreeLimit : List Int → Int
  | [] => 0
  | [a] => a
  | [a, b] => min a b
  | a :: b :: c :: _ => median3 a b c

/-- HIGH: the median; of two the larger. -/
def agreeHigh : List Int → Int
  | [] => 0
  | [a] => a
  | [a, b] => max a b
  | a :: b :: c :: _ => median3 a b c

/-- SPEED: the median; of two the larger magnitude, at equal magnitude the positive value. -/
def agreeSpeed : List Int → Int
  | [] => 0
  | [a] => a
  | [a, b] => if b.natAbs < a.natAbs then a else if a.natAbs < b.natAbs then b else max a b
  | a :: b :: c :: _ => median3 a b c

/-- POSE: the median; of two the one farther from `zero`, at equal distance the larger value. -/
def agreePose (zero : Int) : List Int → Int
  | [] => 0
  | [a] => a
  | [a, b] =>
    if (b - zero).natAbs < (a - zero).natAbs then a
    else if (a - zero).natAbs < (b - zero).natAbs then b
    else max a b
  | a :: b :: c :: _ => median3 a b c

/-- COUNT: two of three, or the smallest; of two the smaller. -/
def agreeCount : List Nat → Nat
  | [] => 0
  | [a] => a
  | [a, b] => min a b
  | a :: b :: c :: _ => if a = b ∨ a = c then a else if b = c then b else min a (min b c)

/-- STATE (R271): two of three, or the most restrictive; of two, GHOST LIGHT or CURTAIN from either, else one that both
propose. -/
def agreeState : List Nat → Option Nat
  | [] => none
  | [a] => some a
  | [a, b] => if a = b then some a else if a = 8 ∨ b = 8 then some 8 else if a = 9 ∨ b = 9 then some 9 else none
  | a :: b :: c :: _ =>
    if a = b ∨ a = c then some a else if b = c then some b else some (stricter a (stricter b c))

/-! ### What has arrived (R30, R257, R273, R274) -/

/-- The bit of a lane in a receive mask (R258). -/
def maskBit (i : LaneId) : BitVec 3 := BitVec.twoPow 3 (laneNum i)

/-- The peer takes part in the module: it is LIVE or in RESYNC in this lane's view. -/
def Lane.expects (l : Lane) (p : Peer) : Bool := l.peerState p == 1 || l.peerState p == 2

/-- Counts beats in which a condition held in succession. -/
def runOf (b : Bool) (n : Nat) : Nat := if b then n + 1 else 0

/-- A summary shows that its lane held none of lane `i` in the beat before (R258). -/
def reportsMissing (got : Option (Summary × Bool)) (i : LaneId) : Bool :=
  match got with
  | some (s, _) => !s.mask.getLsbD (laneNum i)
  | none => false

/-- The deadline passes: the mask, and the beats without a peer's summary. -/
def Lane.closeBeat (l : Lane) : Lane :=
  let got := l.wing.got
  let count (l : Lane) (p : Peer) : Lane :=
    l.when (l.expects p && got[p].isNone) fun l => l.bump (if p = 0 then R.WG_P1CNT_MISSED else R.WG_P2CNT_MISSED)
  let l := count (count l 0) 1
  let bit (p : Peer) : BitVec 3 := if got[p].isSome then maskBit (peerLane l.id p) else 0
  let l := l.onWing fun w => { w with
    closed := true, mask := maskBit l.id ||| bit 0 ||| bit 1
    missed := Vector.ofFn fun (p : Peer) => runOf got[p].isNone w.missed[p]
    maskMiss := Vector.ofFn fun (p : Peer) => runOf (reportsMissing got[otherPeer p] (peerLane l.id p)) w.maskMiss[p] }
  l.putFlag R.WG_STAT_RELAYIN
    (match got[(0 : Peer)], got[(1 : Peer)] with
     | some (_, d), some (_, e) => !d || !e
     | some (_, d), none | none, some (_, d) => !d
     | none, none => false)

/-- A summary shows its lane's link to lane `j` UP. -/
def linkUp (i : LaneId) (s : Summary) (j : LaneId) : Bool := (if peerLane i 0 = j then s.links.1 else s.links.2) == 2

/-- Whether the lane relays (R257): it begins when both peers' masks report the other missing and this lane present, and
ends once both show their link UP (assumption 26). An OUT lane does not relay (R558). -/
def Lane.decideRelay (l : Lane) : Lane :=
  let a := peerLane l.id 0
  let b := peerLane l.id 1
  let go := match l.wing.got[(0 : Peer)], l.wing.got[(1 : Peer)] with
    | some (s, _), some (t, _) =>
      let starts := !s.mask.getLsbD (laneNum b) && !t.mask.getLsbD (laneNum a) && s.mask.getLsbD (laneNum l.id) &&
        t.mask.getLsbD (laneNum l.id)
      starts || (l.flag R.WG_STAT_RELAYOUT && !(linkUp a s b && linkUp b t a))
    | _, _ => l.flag R.WG_STAT_RELAYOUT
  l.putFlag R.WG_STAT_RELAYOUT (go && l.lstate != .out)

/-- The lane states that the summaries show: a LIVE peer in RESYNC (R260), a lane that announces its re-entry (R276). -/
def Lane.readStates (l : Lane) : Lane :=
  let one (l : Lane) (p : Peer) : Lane :=
    match l.wing.got[p] with
    | some (s, _) =>
      let l := l.when (l.peerLive p && s.lstate == 1) fun l => l.peerResync p
      l.when (l.peerState p == 1 && s.rejoin) fun l =>
        l.onWing fun w => { w with peerRejoin := w.peerRejoin.set p true }
    | none => l
  one (one l 0) 1

/-- Beats in succession without any peer summary, with the LIVE count at their beginning (R274). -/
def Lane.countAlone (l : Lane) : Lane :=
  if l.wing.got[(0 : Peer)].isSome ∨ l.wing.got[(1 : Peer)].isSome then
    (l.drop R.WG_STAT_ISOL).onWing fun w => { w with alone := 0 }
  else if !l.expects 0 ∧ !l.expects 1 then l
  else
    let n := l.get R.LC_STATE_LIVECNT
    l.onWing fun w => { w with alone := w.alone + 1, aloneLive := if w.alone = 0 then n else w.aloneLive }

/-- A lane without any peer summary for MISS beats is isolated (R274); alone in GHOST LIGHT it holds the token (R280) and
completes its sources (R508). -/
def Lane.isolate (l : Lane) : Lane :=
  if l.flag R.WG_STAT_ISOL ∨ l.wing.alone < l.get R.WG_CFG_MISS then l
  else
    let l := (l.raise R.WG_STAT_ISOL).raise R.WG_EVT_ISOL
    if l.lstate = .resync then (l.raise R.WG_EVT_RSFAIL).laneOut
    else if l.wing.aloneLive = 3 then l.laneOut
    else if l.wing.aloneLive = 2 then
      (if l.mode = .ghost ∨ l.mode = .curtain then l else l.enterGhost.completeAll).holdToken
    else l

/-- The own record and the masks of the other LIVE lane show the peer missing for MISS beats (R273); `prior` counts them up
to the beat before. -/
def Lane.peerGone (l : Lane) (prior : Vector Nat 2) (p : Peer) : Bool :=
  l.expects p && !l.flag R.WG_STAT_ISOL && decide (l.get R.WG_CFG_MISS ≤ prior[p]) &&
    (!l.peerLive (otherPeer p) || decide (l.get R.WG_CFG_MISS ≤ l.wing.maskMiss[p]))

/-- Loss and isolation of this beat. -/
def Lane.judgeLoss (l : Lane) (prior : Vector Nat 2) : Lane :=
  if l.lstate = .out ∨ !l.wing.firstHold then l
  else
    let l := (l.readStates.countAlone).isolate
    let l := if l.peerGone prior 0 then l.declareLost 0 else l
    if l.peerGone prior 1 then l.declareLost 1 else l

/-! ### Agreed values (R260 to R263) -/

/-- The agreed quantities of axis `n` over the summaries `vs`; where feedback is not valid, its quantities do not take
part, nor do proposal and integrators without a valid proposal (R206, R260). -/
def agreeAxis (zero : Int) (vs : List AxisBlock) : AgreedAxis :=
  let fb := vs.filter (·.valid)
  let pv := vs.filter (·.propValid)
  { proposal := agreeTorque (pv.map (·.proposal))
    speed := agreeSpeed (fb.map (·.speed))
    pos := agreePose zero (fb.map (·.extPos))
    angle := agreePose 0 (fb.map (·.angle))
    force := agreeHigh (fb.map (·.force))
    speedInt := agreeIntegrator (pv.map (·.speedInt))
    outerInt := agreeIntegrator ((pv.filter (·.outerPresent)).map (·.outerInt))
    valid := agreePermit (vs.map (·.valid))
    propValid := agreePermit (vs.map (·.propValid))
    inService := agreePermit (vs.map (·.inService))
    osc := agreeInhibit (vs.map (·.osc))
    reglock := agreeInhibit (vs.map (·.reglock))
    nax := agreeCount (vs.map (·.nax))
    everyValid := vs.all (·.valid) }

/-- The agreed quantities of the beat. -/
def Lane.agreeAll (l : Lane) : Agreed :=
  let vs := l.votes
  { vm := (agreeHigh (vs.map fun s => (s.vm : Int))).toNat
    vin := (agreeLimit (vs.map fun s => (s.vin : Int))).toNat
    faults := bitsOf ((List.range 64).filter fun k => agreeInhibit (vs.map fun s => s.faults.getLsbD k))
    isolated := agreeInhibit (vs.map (·.isolated))
    confirmed := agreePermit (vs.map (·.confirmed))
    everyConfirmed := vs.all (·.confirmed)
    noneConfirmed := vs.all fun s => !s.confirmed
    oneVersion := vs.all fun s => s.fwv == l.get R.LC_REV_FWV
    axes := Vector.ofFn fun n => agreeAxis (l.pzero n) (vs.map fun s => s.axes[n]) }

/-- The winding set of a summary counts toward nax (R94). -/
def setCounts (b : AxisBlock) : Bool := b.inService && !b.recatch

/-- The winding sets of an axis that count (R94): of every LIVE lane, by the latest summary this lane holds of it. -/
def Lane.countedSets (l : Lane) (n : Axis) : List AxisBlock :=
  let peer (p : Peer) : List Summary := if l.peerLive p then l.wing.last[p].toList else []
  (((if l.lstate = .live then l.wing.own.toList else []) ++ peer 0 ++ peer 1).map fun s => s.axes[n]).filter setCounts

/-- The agreed nax: not above the LIVE sets known to count (assumption 27); an isolated lane that counted two holds it
(R274). -/
def Lane.naxFor (l : Lane) (n : Axis) : Nat :=
  if l.flag R.WG_STAT_ISOL ∧ l.wing.aloneLive = 2 then l.wing.nax[n]
  else min l.wing.values.axes[n].nax (l.countedSets n).length

/-- LIMC: the smallest LIM among the sets that count (R94). -/
def Lane.limcFor (l : Lane) (n : Axis) : Nat :=
  match (l.countedSets n).map (·.lim) with
  | [] => (l.lp n).limc
  | x :: r => r.foldl min x

/-- The share of an axis (R94): the agreed total divided by nax, within ±LIMC. The division's rounding is not stated
(assumption 3). -/
def shareOf (total : Int) (nax limc : Nat) : Int :=
  if nax = 0 then 0
  else
    let q := if total % nax = 0 then total / nax else Config.quantize ((total : Rat) / (nax : Rat))
    sat16 (clampInt (-limc) limc q)

/-- The decision compares with the references just transferred (R31, R81). -/
def Lane.reDecide (l : Lane) (n : Axis) : Lane :=
  let l := l.compare n
  if l.looksUp n then l.lookup n else l.settle n

/-- The reference transfer of one axis: nax, limit, total and share (R31, R94, R295). -/
def Lane.transfer (l : Lane) (n : Axis) : Lane :=
  let k := l.naxFor n
  let limc := l.limcFor n
  let total := l.wing.values.axes[n].proposal
  let changed := l.wing.nax[n] != k
  let l := (l.onLp n fun p => { p with limc := limc }).onWing fun w => { w with nax := w.nax.set n k }
  let l := l.when changed fun l => l.setLimit n
  ((l.putInt (R.DC_TREF_TOTAL n) total).putInt (R.DC_TREF_SHARE n) (shareOf total k limc)).reDecide n

/-- Both integrators of an axis take values, and LE_INT shows them. -/
def Lane.setIntegrators (l : Lane) (n : Axis) (io iw : Int) : Lane :=
  let l := l.onLp n fun p => { p with io := io, iw := iw }
  (l.putInt (R.LE_INT_IO n) (sat16 (readOut io))).putInt (R.LE_INT_IW n) (sat16 (readOut iw))

/-- The integrators of one axis take the agreed values (R206). -/
def Lane.takeIntegrators (l : Lane) (n : Axis) : Lane :=
  let v := l.wing.values.axes[n]
  l.setIntegrators n (v.outerInt.getD (l.lp n).io) (v.speedInt.getD (l.lp n).iw)

/-- What the agreement of this beat is about to replace. -/
def Lane.snapshot (l : Lane) : Prior where
  values := l.wing.values
  nax := l.wing.nax
  refs := Vector.ofFn fun n => l.word (R.DC_TREF n)
  limits := Vector.ofFn fun n => l.word (R.DC_TQLIM n)
  limc := Vector.ofFn fun n => (l.lp n).limc
  ints := Vector.ofFn fun n => ((l.lp n).io, (l.lp n).iw)

/-- The work of a dropped agreement is discarded (R32, R311). -/
def Lane.dropAgreed (l : Lane) : Lane :=
  if !l.wing.closed then l
  else
    let q := l.wing.prior
    let l := l.onWing fun w => { w with values := q.values, nax := q.nax }
    l.allAxes fun l n =>
      let l := ((l.setWord (R.DC_TREF n) q.refs[n]).setWord (R.DC_TQLIM n) q.limits[n]).onLp n fun p => { p with limc := q.limc[n] }
      l.setIntegrators n q.ints[n].1 q.ints[n].2

/-- A signed value as a word. -/
def intWord (x : Int) : Word := BitVec.ofInt 32 x

/-- The agreed values of an axis as words of the single-sample region (assumption 95). -/
def AgreedAxis.words (a : AgreedAxis) : List Word :=
  [intWord a.proposal, intWord a.speed, intWord a.pos, intWord (a.pos / 2 ^ 32), intWord a.angle, intWord a.force,
   intWord (a.speedInt.getD 0), intWord (a.outerInt.getD 0),
   BitVec.ofNat 32 (a.valid.toNat + 2 * a.propValid.toNat + 4 * a.inService.toNat + 8 * a.osc.toNat + 16 * a.reglock.toNat +
     32 * a.everyValid.toNat + 64 * a.speedInt.isSome.toNat + 128 * a.outerInt.isSome.toNat),
   BitVec.ofNat 32 a.nax]

/-- The agreed values of a beat as words of the single-sample region. -/
def Agreed.words (a : Agreed) : List Word :=
  [BitVec.ofNat 32 a.vm, BitVec.ofNat 32 a.vin, a.faults.setWidth 32, (a.faults >>> 32).setWidth 32,
   BitVec.ofNat 32 (a.isolated.toNat + 2 * a.confirmed.toNat + 4 * a.everyConfirmed.toNat + 8 * a.noneConfirmed.toNat +
     16 * a.oneVersion.toNat)] ++ a.axes.toList.flatMap AgreedAxis.words

/-- The loop pair writes the agreed values into the single-sample region from which the trio reads them (R235). -/
def Lane.postAgreed (l : Lane) : Lane :=
  l.wing.values.words.zipIdx.foldl (fun l x => l.setStage (Config.agreedWord x.2 % 1048576 * 4) x.1) l

/-- The agreement and the reference transfer of R29; nothing of it where it is dropped (R32). -/
def Lane.agreeValues (l : Lane) : Lane :=
  let l := l.onWing fun w => { w with prior := l.snapshot }
  if l.box.agreeDrop = some l.wing.beatNo then l
  else
    let l := (l.onWing fun w => { w with values := l.agreeAll }).postAgreed.onBox fun b => { b with zeroRefs := false }
    let l := l.allAxes fun l n => l.takeIntegrators n
    l.allAxes fun l n => l.transfer n

/-- The extended positions that agree (R263). -/
def Lane.positions (l : Lane) (n : Axis) : List Int :=
  ((l.votes.filter fun s => s.axes[n].valid).map fun s => s.axes[n].extPos)

/-- The own extended position differs (R263): from the median of three, or of two values from the other. -/
def Lane.posDiffers (l : Lane) (n : Axis) : Bool :=
  let tol := l.get R.WG_POSTOL_POSTOL
  match l.wing.own with
  | none => false
  | some s =>
    s.axes[n].valid &&
    (match l.positions n with
     | [a, b] => decide (tol < (a - b).natAbs)
     | [a, b, c] => decide (tol < (s.axes[n].extPos - median3 a b c).natAbs)
     | _ => false)

/-- The comparison of positions on one axis (R263). -/
def Lane.comparePos (l : Lane) (n : Axis) : Lane :=
  let k := runOf (l.posDiffers n) l.wing.posOff[n]
  let three := decide ((l.positions n).length = 3)
  let l := l.onWing fun w => { w with posOff := w.posOff.set n k }
  if k < 4 then l
  else
    let l := l.raise R.WG_EVT_POSDEV
    if three then l.setOut n else l.latchFault 19

/-- The time of the reference less the own time, in ns (R270), where the beat's direct summaries show it. -/
def Lane.timeOff (l : Lane) : Option Int :=
  let direct (p : Peer) : Bool := match l.wing.got[p] with | some (_, d) => d | none => false
  let o1 := l.getInt R.WG_TOFS1_OFS
  let o2 := l.getInt R.WG_TOFS2_OFS
  match l.peerLive 0, l.peerLive 1 with
  | true, true => if direct 0 && direct 1 then some (median3 0 o1 o2) else none
  | true, false => if direct 0 && l.leadIs 0 then some o1 else none
  | false, true => if direct 1 && l.leadIs 1 then some o2 else none
  | false, false => none

/-- This lane's time is its own reference: it is alone, or the lead of two (R270). -/
def Lane.isReference (l : Lane) : Bool :=
  (!l.peerLive 0 && !l.peerLive 1) || (!(l.peerLive 0 && l.peerLive 1) && l.flag R.LC_STATE_LEAD)

/-- The comparison of lane times (R270). A lane that has become the reference slews no more. -/
def Lane.compareTime (l : Lane) : Lane :=
  match l.timeOff with
  | none =>
    (l.onWing fun w => { w with skew := 0 }).when (l.flag R.WG_STAT_TSLEW && l.isReference) fun l => l.endSlew
  | some d =>
    let k := runOf (decide (5000 < d.natAbs)) l.wing.skew
    let l := l.onWing fun w => { w with skew := k }
    if l.flag R.WG_STAT_TSLEW then (if d.natAbs ≤ 1000 then l.endSlew else l)
    else if 4 ≤ k then (l.raise R.WG_EVT_TSKEW).startSlew (decide (0 < d))
    else l

/-- The digest fragments in service (R268): of three LIVE lanes the odd one goes OUT; otherwise a difference has every
keeper verify its book again. -/
def Lane.compareFragments (l : Lane) : Lane :=
  let others := (l.voteOf 0).toList ++ (l.voteOf 1).toList
  let all := (!l.peerLive 0 || (l.voteOf 0).isSome) && (!l.peerLive 1 || (l.voteOf 1).isSome)
  match l.wing.own with
  | none => l
  | some s =>
    if !l.fromHold ∨ l.trust.state = 6 ∨ others.isEmpty ∨ !all ∨ others.any (fun x => x.digest == s.digest) then l
    else
      match others with
      | [a, b] => if a.digest = b.digest then l.laneOut else l.onWing fun w => { w with reverify := true }
      | _ => l.onWing fun w => { w with reverify := true }

/-! ### Safety inputs and reset (R519 to R523) -/

/-- The agreed demand of input `k`. -/
def Lane.agreedDemand (l : Lane) (k : Nat) : Bool := agreeInhibit (l.votes.map fun s => s.safety.getLsbD k)

/-- LATCH of input `k`. -/
def Lane.latches (l : Lane) (k : Nat) : Bool := if k < 8 then l.flag (R.SF_SICFG_LATCH k) else l.flag (R.SF_GTCFG_LATCH (k - 8))

/-- The demand of input `k` is agreed; a rising one is shown and latched (R521). -/
def Lane.takeDemand (l : Lane) (k : Nat) : Lane :=
  let d := l.agreedDemand k
  let rises := d && !l.bit R.SF_STAT_DEM k
  let l := l.putBit R.SF_STAT_DEM k d
  l.when rises fun l => (l.raise R.SF_EVT_DEMAND).when (l.latches k) fun l => l.putBit R.SF_STAT_LATCH k true

/-- The own demand of input `k` differs from the agreed one; with two values both lanes differ (R520). -/
def Lane.demandDiffers (l : Lane) (k : Nat) : Bool :=
  match l.wing.own with
  | none => false
  | some s =>
    s.safety.getLsbD k != l.bit R.SF_STAT_DEM k ||
    (match l.votes with | [a, b] => a.safety.getLsbD k != b.safety.getLsbD k | _ => false)

/-- Lanes that differ for LDISC beats (R520). -/
def Lane.laneDiffers (l : Lane) : Lane :=
  let l := l.onSafety fun s => { s with differ := Vector.ofFn fun (k : Fin 10) => runOf (l.demandDiffers k) s.differ[k] }
  l.when (l.safety.differ.toList.any fun k => decide (l.get R.SF_CFG_LDISC ≤ k)) fun l => l.raise R.SF_EVT_LANEDIF

/-- Inputs whose STOP acts now; none in GHOST LIGHT or CURTAIN (R521). -/
def Lane.stopInputs (l : Lane) : BitVec 10 :=
  if l.mode = .ghost ∨ l.mode = .curtain then 0
  else BitVec.ofBoolListLE ((List.range 10).map fun k =>
    l.inputFunc k == 2 && (l.bit R.SF_STAT_DEM k || l.bit R.SF_STAT_LATCH k))

/-- A STOP function starts to act (R521). -/
def Lane.stopFunction (l : Lane) : Lane :=
  let acts := l.stopInputs
  let starts := acts &&& ~~~l.safety.stopActing != 0
  let l := l.onSafety fun s => { s with stopActing := acts }
  if !starts then l
  else if l.mode = .performing ∨ l.mode = .degraded then l.onSeats fun s => { s with stopNext := true }
  else if l.mode = .workshop then l.allAxes fun l n => l.disableAxis n
  else l

/-- The lane is alone: itself the only LIVE one in its view, or isolated (R265). -/
def Lane.isAlone (l : Lane) : Bool := (l.lstate == .live && l.get R.LC_STATE_LIVECNT == 1) || l.flag R.WG_STAT_ISOL

/-- How many lanes' valid resets an agreed reset needs (R523): two, or the own one alone in GHOST LIGHT or CURTAIN. -/
def Lane.resetsNeeded (l : Lane) : Nat := if l.isAlone && (l.mode == .ghost || l.mode == .curtain) then 1 else 2

/-- The reset flags of the beat (R523): two that fall within RWIN are an agreed reset. A flag within RWIN of an agreed one
belongs to it. -/
def Lane.takeResets (l : Lane) : Lane :=
  let t := l.ltimeNs
  let win := l.get R.SF_CFG_RWIN * 1000000
  let own (i : LaneId) : Bool := l.liveIn i && (match l.summaryOf i with | some s => s.safety.getLsbD 10 | none => false) &&
    l.wing.mask.getLsbD (laneNum i)
  let past := match l.safety.agreedAt with | some u => decide (t ≤ u + win) | none => false
  if past then l
  else
    let mark (v : Vector (Option Nat) 3) (i : LaneId) (k : Fin 3) : Vector (Option Nat) 3 := if own i then v.set k (some t) else v
    let v := mark (mark (mark l.safety.resets .A 0) .B 1) .C 2
    let have_ := (v.toList.filter fun x => match x with | some u => decide (t ≤ u + win) | none => false).length
    if l.resetsNeeded ≤ have_ then
      l.onSafety fun s => { s with resets := Vector.replicate 3 none, resetAgreed := true, agreedAt := some t }
    else l.onSafety fun s => { s with resets := v }

/-- The safety inputs of the beat. -/
def Lane.agreeSafety (l : Lane) : Lane :=
  let l := (List.range 10).foldl (fun l k => l.takeDemand k) l
  l.laneDiffers.stopFunction.takeResets.koSettle

/-! ### Flags of beat 1 (R211, R213) -/

/-- An agreed oscillation flag: soft gains from the next cycle, or a loop fault where they are in use (R211). -/
def Lane.takeOsc (l : Lane) (n : Axis) : Lane :=
  if !l.wing.values.axes[n].osc then l
  else if l.flag (R.LE_STAT_SOFT n) then l.raise (R.LE_EVT_OSC2 n)
  else l.onLp n fun p => { p with softNext := true }

/-- The plausibility flags in a flagging lane (R213). -/
def Lane.takePlaus (l : Lane) (n : Axis) : Lane :=
  let vs := l.votes.map fun s => s.axes[n].plaus
  let own := match l.wing.own with | some s => s.axes[n].plaus && l.lstate == .live | none => false
  if !own then l
  else if vs.all (· == true) then l.raise (R.LE_EVT_LOADHI n)
  else
    let k := min 15 (l.get (R.LE_PLS1_MCNT n) + 1)
    let l := l.put (R.LE_PLS1_MCNT n) k
    if l.get (R.LE_PLS1_CNT n) ≤ k then (l.raise (R.LE_EVT_IMPLAUS n)).setOut n else l

/-! ### Commands (R265, R266) -/

/-- A pending command is agreed in this beat. Before the first agreed HOLD no lane is LIVE, and a lane agrees on its own
copy (assumption 28). -/
def Lane.commandAgreed (l : Lane) (q : Pending) : Bool :=
  !l.wing.firstHold || l.isAlone ||
    decide (2 ≤ (l.votes.filter fun s => s.prints.contains q.pkt.hdr.fp).length)

/-- The commands agreed in this beat take effect at the next beat start. -/
def Lane.agreeCommands (l : Lane) : Lane :=
  let now := l.wing.pending.filter l.commandAgreed
  let beat := l.wing.beatNo
  let l := l.onWing fun w => { w with
    pending := w.pending.filter fun q => !l.commandAgreed q
    agreed := w.agreed ++ now.map fun q => { q with firstBeat := some (q.firstBeat.getD beat) } }
  (l.addTo R.WG_CMD_AGREED now.length).showPending

/-! ### Module state (R271, R272, R332) -/

/-- The changes of module state that R553 gives, from a state held to another. -/
def mayChange : Nat → Nat → Bool
  | 3, m => m == 4
  | 4, m => m == 5 || m == 7 || m == 8 || m == 9 || m == 10
  | 5, m => m == 4 || m == 6 || m == 7 || m == 8
  | 6, m => m == 4 || m == 5 || m == 7 || m == 8
  | 7, m => m == 8
  | 8, m => m == 9
  | 9, m => m == 10
  | 10, m => m == 4 || m == 7 || m == 8
  | _, _ => false

/-- An agreed change waits for the next cycle start; of two the more restrictive stands (R554). -/
def Lane.planMode (l : Lane) (m : Nat) : Lane :=
  if mayChange (l.get R.LC_STATE_MSTATE) m ∧ !l.tiedToHold then
    l.onWing fun w => { w with next := some (match w.next with | some k => stricter k m | none => m) }
  else l

/-- A peer takes no part in start of day, or shows that it proposes HOLD. -/
def Lane.peerReady (l : Lane) (p : Peer) : Bool :=
  l.peerState p == 0 || (peerLane l.id p == .C && l.flag R.LC_STATE_CABS) ||
    (l.wing.digests[p].isSome && (match l.wing.got[p] with | some (s, _) => s.proposed == 4 | none => false))

/-- HOLD is agreed from SCRIPT CHECK when every taking-part lane proposes it (R323, R332; assumption 25). A lane C that the
book declares absent takes no part (R27). -/
def Lane.holdAgreed (l : Lane) : Bool :=
  l.mode == .scriptCheck && l.wing.proposed == 4 && !l.wing.struck && !(l.id == .C && l.flag R.LC_STATE_CABS) &&
    l.peerReady 0 && l.peerReady 1

/-- The proposals of the beat (R271). -/
def Lane.agreeModes (l : Lane) : Lane :=
  if l.mode = .scriptCheck then (if l.holdAgreed then l.planMode 4 else l)
  else
    match agreeState (l.votes.map (·.proposed)) with
    | some m => if m = l.get R.LC_STATE_MSTATE then l else l.planMode m
    | none => l

/-- How the held states of the LIVE lanes stand: whether the own one differs from the agreed one, and whether all three
differ (R272). -/
def Lane.heldDiffers (l : Lane) : Bool × Bool :=
  let own := l.get R.LC_STATE_MSTATE
  match l.votes.map (·.held) with
  | [a, b] => (a != b, false)
  | [a, b, c] =>
    if a ≠ b ∧ a ≠ c ∧ b ≠ c then (true, true)
    else (own != (if a = b ∨ a = c then a else b), false)
  | _ => (false, false)

/-- The held states at a cycle start (R272). -/
def Lane.judgeHeld (l : Lane) : Lane :=
  let (differs, all) := l.heldDiffers
  let k := runOf differs l.wing.modeOff
  let two := decide (l.votes.length = 2)
  let l := l.onWing fun w => { w with modeOff := k }
  if k < 2 ∨ l.lstate ≠ .live then l
  else if all then (if l.flag R.LC_STATE_LEAD then l.enterGhost else l.laneOut)
  else if two ∧ l.flag R.LC_STATE_LEAD then l
  else (l.raise R.WG_EVT_MODEDIF).enterResync

/-! ### Confirmation (R338, R532) -/

/-- The keeper records the confirmed book, and burns the revoke fuses it lists. -/
def Lane.confirmBook (l : Lane) (v : Word) : Lane :=
  match l.trust.book with
  | none => l
  | some b =>
    let (re, rl) := match b.trust with | some t => (t.revokeEcdsa, t.revokeLms) | none => (0, 0)
    let l := l.onTrust fun t => { t with
      state := 5, flash := { t.flash with check := some v, issue := imageIssue b.envelope, digest := b.digest }
      fuses := { t.fuses with revokeEcdsa := t.fuses.revokeEcdsa ||| re, revokeLms := t.fuses.revokeLms ||| rl } }
    l.when (re != 0 || rl != 0) fun l => l.showFuses.raise R.KP_EVT_REVOKE

/-- A CONFIRM_CHECK is decided once the summaries of its effect beat show whether every lane matched; the status of a
mismatch is not stated (assumption 24). -/
def Lane.decideConfirm (l : Lane) : Lane :=
  match l.trust.confirm with
  | none => l
  | some (v, h, path) =>
    let l := l.onTrust fun t => { t with confirm := none }
    let shown (p : Peer) : Bool := !l.peerLive p || (match l.voteOf p with | some s => s.confirmed | none => false)
    if shown 0 ∧ shown 1 then
      let l := l.confirmBook v
      (l.koSettle).answer h path .ok l.bookBytes
    else (l.answer h path (.param (l.choice % 256)) l.bookBytes).nextChoice

/-! ### Life, mirror, drill (R279, R281, R543) -/

/-- The shaft work of one beat on an axis, in J: |total torque × speed| × 50 µs (R543). -/
def Lane.shaftWork (l : Lane) (n : Axis) : Rat :=
  let v := l.wing.values.axes[n]
  let torque : Rat := (v.proposal.natAbs : Rat) * (l.get (R.DC_SCALE_TFS n) : Rat) / 100 / 32768
  let speed : Rat := (v.speed.natAbs : Rat) * (l.get (R.LE_SCALE_WFS n) : Rat) / 32768 / 60 * Config.radPerTurn
  torque * speed * (50 / 1000000)

/-- The lead keeps the life ledgers (R543). -/
def Lane.keepLife (l : Lane) : Lane :=
  if l.flag R.LC_STATE_LEAD then
    l.allAxes fun l n => if (l.cart n).started then l.setLife n ((l.cart n).life + l.shaftWork n) else l
  else l

/-- The mirror set as the lead holds it (R279, R339, R541). -/
def Lane.makeMirror (l : Lane) : MirrorSet where
  seq := l.wing.mirrorSeq + 1
  spot := l.spotMirror
  call := l.callMirror
  life := Vector.ofFn fun n => (l.cart n).life.floor.toNat
  digests := Vector.ofFn fun n => ((l.cart n).digest).getD 0
  check := l.trust.flash.check.getD 0

/-- The lead forms its mirror set in beat 0 (R279); the REJOIN requests that wait get it. -/
def Lane.formMirror (l : Lane) : Lane :=
  if l.flag R.LC_STATE_LEAD ∧ l.lstate = .live then
    let m := l.makeMirror
    let l := l.onWing fun w => { w with mirror := some m, mirrorSeq := m.seq }
    let l := (l.put R.WG_MIRROR_SEQ (m.seq % 65536)).setWord R.WG_MIRCRC (Config.mirrorCrc m)
    (l.answerRejoin 0).answerRejoin 1
  else l

/-- The MIRROR segment of beats 0 to 3 (R279). -/
def Lane.sendMirror (l : Lane) : Lane :=
  match l.wing.mirror with
  | some m => if l.flag R.LC_STATE_LEAD ∧ l.lstate = .live ∧ l.beatIn < 4 then l.sendBoth (.mirror l.beatIn m) else l
  | none => l

/-- The lead of a drill sees the next lane show the token (R281). -/
def Lane.watchDrill (l : Lane) : Lane :=
  if !l.wing.drilling ∨ !l.flag R.LC_STATE_LEAD then l
  else
    match (l.nextLead l.id).bind l.summaryOf with
    | some s => if s.lead then l.yieldToken else l
    | none => l

/-! ### RESYNC (R276 step 2) -/

/-- The beat shows the agreed state held and every position within the tolerance. -/
def Lane.resyncGood (l : Lane) : Bool :=
  let held := match l.votes.map (·.held) with
    | [a, b] => if l.leadIs 0 then a else b
    | a :: b :: c :: _ => if a = b ∨ a = c then a else b
    | [a] => a
    | [] => l.get R.LC_STATE_MSTATE
  l.get R.LC_STATE_MSTATE == held &&
  (List.finRange 4).all fun n =>
    (l.positions n).isEmpty || decide ((l.ext n - l.wing.values.axes[n].pos).natAbs ≤ l.get R.WG_POSTOL_POSTOL)

/-- A beat of a lane in RESYNC (R276). -/
def Lane.resyncBeat (l : Lane) : Lane :=
  if l.lstate ≠ .resync then l
  else
    let l := l.put R.WG_RESYNC_BEATS (min 65535 (l.get R.WG_RESYNC_BEATS + 1))
    if l.get R.WG_RESYNC_STEP ≠ 2 then l
    else
      let k := runOf l.resyncGood l.wing.run
      let l := l.onWing fun w => { w with run := k }
      if l.get R.WG_CFG_REBEATS ≤ k then
        (l.put R.WG_RESYNC_STEP 3).onWing fun w => { w with rejoin := true }
      else l

/-! ### The deadline -/

/-- What a LIVE or RESYNC lane does with the agreed summaries. -/
def Lane.agreeBeat (l : Lane) : Lane :=
  let l := l.agreeValues
  let l := if l.lstate = .live then ((l.allAxes fun l n => l.comparePos n).compareTime).compareFragments else l.resyncBeat
  if l.lstate = .out then l
  else
    let l := l.agreeSafety
    let l := l.when (l.beatIn == 1) fun l => l.allAxes fun l n => (l.takeOsc n).takePlaus n
    let l := l.agreeModes.agreeCommands.decideConfirm
    let l := l.when (l.beatIn == 0) fun l => l.judgeHeld
    l.keepLife

/-- The trio's part in the lead: the callboard, in beat 0 the spotlight and the mirror set, which leaves in beats 0 to 3. -/
def Lane.leadBeat (l : Lane) : Lane :=
  let l := l.sampleCall
  ((l.when (l.beatIn == 0) fun l => l.decideSpot.formMirror).sendMirror).watchDrill

/-- The 24 µs receive deadline passes (R30), once in a beat. -/
def Lane.deadline (l : Lane) : Lane :=
  if l.wing.closed ∨ !l.since l.wing.beatAt (us 24) then l
  else
    let l := l.flushLinks
    let prior := l.wing.missed
    let l := (l.closeBeat.decideRelay).judgeLoss prior
    if l.wing.firstHold then (if l.lstate = .out then l.sampleCall else l.agreeBeat.leadBeat)
    else l.agreeModes.agreeCommands.decideConfirm.sampleCall

/-- The receive deadline. -/
def execReceiveDeadline (e : At) (s : State) : Host.Outcome State Fault Refusal :=
  .next (s.logicEvent e fun l => l.deadline)

end Sys2Proof.Machine
end

