-- ==== Sys2Proof/Machine/Beat.lean ====
section
/-!
DEFINITION. A beat and a cycle of a lane (R29 to R32, R254 to R259, R265, R285, R303, R310 to R312, R379): what happens at
a beat start, at a missed deadline, when ticketed work ends, when CURTAIN comes due and at a cue instant.
-/

namespace Sys2Proof.Machine

/-! ### The start of a beat -/

/-- A beat begins: its number by lane time, and no summary of it yet (R29, R414). -/
def Lane.newBeat (l : Lane) : Lane :=
  l.onWing fun w => { w with
    beatNo := (l.ltime + ltUs 25) / ltUs 50, beatAt := l.now, closed := false, own := none, got := Vector.replicate 2 none }

/-- What leaves on the wing links at a beat start before anything else: frames that waited (R254), HELLO frames (R256), DIGEST
where a link has come UP since (R332). -/
def Lane.beatFrames (l : Lane) : Lane := (l.flushLinks.sendHellos).sendDigests

/-- The counter copies of an axis at the beat start (R169), its speed and its electrical angle (R29, R100). -/
def Lane.sampleAxis (l : Lane) (n : Axis) : Lane :=
  let l := l.put (R.FB_BPOS_POS n) (l.get (R.FB_POS_POS n))
  let l := l.put (R.FB_BHI_WRAP n) (l.ax n).fb.wraps.toNat
  let l := l.put (R.FB_BHI_BSEQ n) (l.get (R.FB_BHI_BSEQ n) + 1)
  (l.speedNow n).beatAngle n

/-- What the input logic latches (R29). -/
def Lane.sampleBeat (l : Lane) (m : Measured) : Lane := (l.measure m).sampleFaults.watchHold.allAxes fun l n => l.sampleAxis n

/-- Commands agreed in the beat before take effect, in the order of R266. -/
def Lane.takeEffects (l : Lane) : Lane :=
  let q := sortBy effectBefore l.wing.agreed
  let l := l.onWing fun w => { w with agreed := [] }
  q.foldl (fun l p =>
    match p.pkt.op with
    | some op => (l.markSeen p.pkt.hdr.fp).perform p.pkt.hdr p.path op
    | none => l) l

/-- The output-angle count a path signal asks of an axis (R285 step 3, R578). -/
def Lane.pathPref (l : Lane) (s : StopSection) (n : Axis) : Option Int :=
  if s.path[n] = 0 then none
  else (l.signal s.path[n]).map fun a => roundDiv (a * l.get (R.LE_GEAR_GEAR n)) 100 + l.pzero n

/-- The references of a running stop (R285, R493): SERVICE axes follow the profile; in GHOST LIGHT a STEER axis follows its
path signal. -/
def Lane.stopRef (l : Lane) (s : StopSection) (kind : StopKind) (t0 : Nat) (n : Axis) : Lane :=
  match l.stopRole n with
  | .service => l.setPref n (BitVec.ofNat 64 (profileForce s.points (l.ltime - t0)))
  | .steer =>
    match kind, l.pathPref s n with
    | .ghost, some v => l.setPref n (BitVec.ofInt 64 v)
    | _, _ => l
  | _ => l

/-- The ground speed is fresh and below the stop threshold (R285 step 5). -/
def Lane.slowNow (l : Lane) (s : StopSection) : Bool :=
  match l.groundSpeed with
  | some v => decide (v < s.threshold)
  | none => false

/-- A running stop at a beat start. -/
def Lane.stopBeat (l : Lane) : Lane :=
  match l.mode_.stop, l.stopSection with
  | some (kind, t0), some s =>
    let l := l.allAxes fun l n => l.stopRef s kind t0 n
    l.onMode fun m => { m with slowSince := if l.slowNow s then some (m.slowSince.getD l.ltime) else none }
  | _, _ => l

/-- The loops of an axis (R29, R199): the values before their run are kept for a drop (R208). -/
def Lane.loopBeat (l : Lane) (outer : Bool) (n : Axis) : Lane :=
  let l := l.onLp n fun p => { p with saved := (p.io, p.iw, l.getInt (R.LE_WREF_REF n)) }
  (l.runLoops n outer).sumBeat n

/-- Supervision of the cycle past and the brake ledgers (R209, R298). -/
def Lane.beatZero (l : Lane) : Lane :=
  let v := l.groundMps
  l.allAxes fun l n => ((l.loopInputs n).supervise n).brakeHeat v n

/-- The loops of every axis; the outer loops run where lane time is a multiple of 200 µs (R29). -/
def Lane.loopsBeat (l : Lane) : Lane :=
  let l := if l.beatIn = 0 then l.beatZero else l
  l.allAxes fun l n => l.loopBeat (l.wing.beatNo % 4 == 0) n

/-- Re-entry is complete once no axis is being precharged (R276 step 4). -/
def Lane.endReentry (l : Lane) : Lane :=
  if l.lstate = .live ∧ l.get R.WG_RESYNC_STEP = 4 ∧ !l.mode_.enableWait ∧
      (List.finRange 4).all (fun n => (l.ax n).refresh.precharge.isNone) then l.put R.WG_RESYNC_STEP 0
  else l

/-- The lead's TOKEN frame of beat 0 renews the lease (R278); a lead that has left LIVE sends HANDOVER there (R281). -/
def Lane.sendToken (l : Lane) : Lane :=
  if l.wing.leaving ∧ l.flag R.LC_STATE_LEAD then (if l.wing.drilling then l else l.startDrill)
  else if l.flag R.LC_STATE_LEAD ∧ l.lstate = .live then
    let seq := l.wing.tokSeq + 1
    let end_ := l.ltime + l.lease
    let l := (l.put R.WG_LEAD_TOKSEQ (seq % 256)).onWing fun w => { w with tokSeq := seq, leaseEnd := end_ }
    l.sendBoth (.token seq l.wing.mirrorSeq end_)
  else l

/-! ### The beat summary (R258, R259, R519) -/

/-- The module state the standing rules call for, whatever opcodes ask (R271, R283, R541, R557, R559). -/
def Lane.standing (l : Lane) : Option Nat :=
  if l.lstate ≠ .live ∨ !l.fromHold ∨ l.mode = .ghost ∨ l.mode = .curtain ∨ l.tiedToHold then none
  else if l.mode = .hold ∧ l.get R.LC_STATE_LIVECNT = 1 then some 9
  else if l.fewSets then some 8
  else if l.fitted = 3 ∧ l.get R.LC_STATE_LIVECNT = 2 ∧ (l.peerState 0 = 0 ∨ l.peerState 1 = 0) ∧
      (l.mode = .hold ∨ l.mode = .armed ∨ l.mode = .performing ∨ (l.mode = .workshop ∧ l.wing.shopLoss)) then some 7
  else none

/-- The proposed module state: what an opcode or a rule proposed in this cycle, or a more restrictive standing one. -/
def Lane.proposal (l : Lane) : Nat :=
  match l.standing with
  | none => l.wing.proposed
  | some k => if l.wing.proposed = l.get R.LC_STATE_MSTATE then k else stricter l.wing.proposed k

/-- The winding set counts toward nax (R94, R276 step 4; assumption 27). -/
def Lane.ownCounts (l : Lane) (n : Axis) : Bool :=
  l.lstate == .live && l.inService n && !l.inRecatch n &&
    !(l.get R.WG_RESYNC_STEP == 4 && (l.ax n).refresh.precharge.isSome)

/-- nax as this lane holds it at the summary. -/
def Lane.heldNax (l : Lane) (n : Axis) : Nat :=
  let other (p : Peer) : Bool := l.peerLive p && (match l.wing.last[p] with | some s => setCounts s.axes[n] | none => false)
  (l.ownCounts n).toNat + (other 0).toNat + (other 1).toNat

/-- The axis block of the summary (R259). -/
def Lane.axisBlock (l : Lane) (n : Axis) : AxisBlock where
  extPos := l.ext n
  speed := l.getInt (R.LE_WREF_MEAS n)
  valid := l.flag (R.FB_STAT_VALID n)
  uncert := l.flag (R.FB_STAT_UNCERT n)
  estim := l.flag (R.FB_STAT_ESTIM n)
  still := l.flag (R.FB_STAT_STILL n)
  inService := l.inService n
  recatch := l.inRecatch n || (l.get R.WG_RESYNC_STEP == 4 && (l.ax n).refresh.precharge.isSome)
  propValid := l.flag (R.LE_STAT_PROPV n)
  osc := l.beatIn == 1 && (l.lp n).oscFlag
  plaus := l.beatIn == 1 && (l.lp n).plausFlag
  reglock := l.flag R.GD_VMSTAT_REGLOCK
  outerPresent := (l.lp n).outerRan
  proposal := l.getInt (R.LE_OUT_PROP n)
  lim := l.get (R.DC_TQLIM_LIM n)
  speedInt := (l.lp n).iw
  outerInt := (l.lp n).io
  angle := l.getInt (R.LE_OANG_ANG n)
  force := l.getInt (R.LE_OANG_FMEAS n)
  te := l.getInt (R.DC_TEST_EST n)
  nax := l.heldNax n
  life := if l.get (R.CT_STAT_AUTH n) = 1 then (l.cart n).record else 0

/-- The safety word of the summary (R519). -/
def Lane.safetyWord (l : Lane) : BitVec 32 :=
  BitVec.ofNat 32 (l.get R.SF_OWN_DEM + 1024 * l.safety.resetNow.toNat + 2048 * (l.flag R.SF_STAT_RSTUCK).toNat +
    4096 * l.get R.SF_KOSTAT_ON + 65536 * l.get R.SF_KOSTAT_KFOK)

/-- The summary of this beat. Its first bit leaves between 12.00 and 12.44 µs after the beat start (R254, R258). -/
def Lane.summary (l : Lane) : Summary where
  time := l.ltime / 2 ^ 22 + 48000 + l.choice % 1761
  lstate := l.lstate.code
  held := l.get R.LC_STATE_MSTATE
  proposed := l.proposal
  lead := l.flag R.LC_STATE_LEAD || l.wing.takeNext
  trio := l.get R.TV_STAT_MODE
  mask := l.wing.mask
  links := (l.get R.WG_STAT_L1, l.get R.WG_STAT_L2)
  isolated := l.flag R.WG_STAT_ISOL
  rejoin := l.wing.rejoin
  digest := (l.bookDigest >>> 320).setWidth 64
  fwv := l.get R.LC_REV_FWV
  confirmed := l.trust.state == 5 || l.trust.confirm.isSome
  mirrorSeq := l.wing.mirrorSeq % 256
  faults := l.mode_.faults
  vm := l.get R.GD_VMSTAT_VM
  vin := l.get R.PW_VIN_VIN
  safety := l.safetyWord
  prints := []
  axes := Vector.ofFn fun n => l.axisBlock n

/-- The lane sends its summary (R254, R265); before the first agreed HOLD from its DIGEST on (assumption 25). An OUT lane
sends OUT frames (R23, R558). -/
def Lane.compose (l : Lane) : Lane :=
  if l.lstate = .out ∧ (l.wing.struck ∨ !l.wing.digestSent) then
    l.when (l.wing.struck && l.wing.digestSent) fun l => l.sendBoth .out
  else
    let sm := l.summary
    let l := (l.onWing fun w => { w with own := some sm }).nextChoice
    ((l.onSafety fun s => { s with resetNow := false }).listCommands).sendSummary

/-- A beat starts (R29). -/
def Lane.beatStart (l : Lane) (m : Measured) : Lane :=
  let l := (l.newBeat.beatFrames.sampleBeat m).takeEffects
  let l := (l.stopBeat.loopsBeat).boxBeat (l.beatIn == 0)
  let l := if l.beatIn = 0 then l.endReentry.sendToken else l.endReentry
  l.compose

/-- A beat start, with what the monitors read. -/
def execBeatStart (e : At) (m : Measured) (s : State) : Host.Outcome State Fault Refusal :=
  .next (s.logicEvent e fun l => l.beatStart m)

/-! ### Dropped work (R32, R208, R310 to R312) -/

/-- Drops of a piece of work in succession: `at_` is now, and `gap` how far back the last one may lie. The numbers of tasks
are their places in the table; the loops of axis n count as 65536 + n and the agreement as 65540 (assumption 29). -/
def Lane.countDrop (l : Lane) (id at_ gap : Nat) : Lane × Nat :=
  let n := match l.box.drops.find? fun x => x.1 == id with
    | some (_, k, c) => if at_ ≤ c + gap then min 3 (k + 1) else 1
    | none => 1
  (l.onBox fun b => { b with drops := (id, n, at_) :: b.drops.filter fun x => x.1 != id }, n)

/-- The third drop in succession is a lane fault (R312). -/
def Lane.thirdDrop (l : Lane) (n : Nat) : Lane := if 3 ≤ n then (l.raise R.BX_EVT_DROP3).laneOut else l

/-- The loop work of an axis is discarded (R208): its integrators and wref are as before, the proposal is not valid. -/
def Lane.discardLoops (l : Lane) (n : Axis) : Lane :=
  let (io, iw, wref) := (l.lp n).saved
  let l := l.onLp n fun p => { p with io := io, iw := iw, outerRan := false, dropped := true }
  let l := ((l.putInt (R.LE_WREF_REF n) wref).noProposal n).bump (R.LE_CNT_DROP n)
  l.raise (R.LE_EVT_DROP n)

/-- The loops of an axis miss 12 µs, once in a beat: the summary carries the proposal marked not valid (R208). -/
def Lane.dropLoops (l : Lane) (n : Axis) : Lane :=
  if l.wing.closed ∨ (l.lp n).dropped then l
  else
    let l := l.discardLoops n
    let l := (l.onWing fun w => { w with own := w.own.map fun s => { s with axes := s.axes.set n (l.axisBlock n) } }).sendSummary
    let r := l.countDrop (65536 + n.val) l.wing.beatNo 1
    r.1.thirdDrop r.2

/-- The agreement or the reference transfer is dropped, once in a beat: its work is discarded and the last references stay;
in the second beat in succession torque 0 and flux PSI0 act (R32, R311). A drop known before the receive deadline lets no
part of the agreement act. -/
def Lane.dropAgreement (l : Lane) : Lane :=
  if l.box.agreeDrop = some l.wing.beatNo then l
  else
    let second := l.box.agreeDrop == some (l.wing.beatNo - 1) && l.wing.beatNo != 0
    let l := l.dropAgreed
    let l := l.when second fun l => (l.allAxes fun l n => l.drop (R.DC_TREF_SHARE n)).onBox fun b => { b with zeroRefs := true }
    let l := (l.onBox fun b => { b with agreeDrop := some l.wing.beatNo }).allAxes fun l n => l.reDecide n
    let r := l.countDrop 65540 l.wing.beatNo 1
    r.1.thirdDrop r.2

/-- A task has not finished at the end of its period (R310). -/
def Lane.dropTask (l : Lane) (id : Nat) : Lane :=
  match ((l.trust.book.bind (·.tasks)).getD [])[id]? with
  | none => l
  | some t =>
    let r := l.countDrop id l.mode_.cycle t.period
    (((r.1.put R.BX_DROP_TASK id).put R.BX_DROP_CONSEC r.2).bump R.BX_DROP_TOTAL).thirdDrop r.2

/-- Work misses its deadline. -/
def execLoopDeadlineDrop (e : At) (k : DropKind) (s : State) : Host.Outcome State Fault Refusal :=
  .next (s.logicEvent e fun l =>
    match k with
    | .loops n => l.dropLoops n
    | .agreement => l.dropAgreement
    | .task id => l.dropTask id)

/-! ### The end of a stop (R285 step 5, R493) -/

/-- The criteria of step 5 of R285 are met for a stop that runs since `t0`. -/
def Lane.stopDue (l : Lane) (s : StopSection) (t0 : Nat) : Bool :=
  match l.groundSpeed with
  | some v => decide (v < s.threshold) &&
      (match l.mode_.slowSince with | some t => decide (t + ltMs 1000 ≤ l.ltime) | none => false)
  | none => decide (t0 + ltMs (profileEnd s.points) + ltMs 5000 ≤ l.ltime) &&
      l.everyAxis fun n => l.flag (R.FB_STAT_STILL n)

/-- A stop ends: GHOST LIGHT proposes CURTAIN; a stop default gives ARMED from PERFORMING, and otherwise ends where it is
(R493, R556). -/
def Lane.endStop (l : Lane) : Lane :=
  match l.mode_.stop, l.stopSection with
  | some (kind, t0), some s =>
    if !l.stopDue s t0 then l
    else
      match kind with
      | .ghost => l.propose .curtain
      | .default =>
        if l.mode = .performing then l.onWing fun w => { w with
          proposed := if w.proposed = l.get R.LC_STATE_MSTATE then 5 else stricter w.proposed 5 }
        else l.endDefault
  | _, _ => l

/-- The stop criteria are met. -/
def execCurtainEntry (e : At) (s : State) : Host.Outcome State Fault Refusal :=
  .next (s.logicEvent e fun l => l.endStop)

/-! ### The end of ticketed work (R303) -/

/-- The keeper writes the rows added in service (R353). -/
def Lane.writeRepairs (l : Lane) : Lane :=
  let rows := l.reh.toRepair
  let l := l.onTrust fun t => { t with flash := { t.flash with repair := t.flash.repair ++ rows } }
  (l.onReh fun r => { r with toRepair := [] }).drop R.BI_MEMCNT_PENDING

/-- The final flush: winding temperatures and repair rows are recorded (R294, R353). -/
def Lane.finalFlush (l : Lane) : Lane :=
  let tw := l.box.tw
  (l.onTrust fun t => { t with flash := { t.flash with
    winding := Vector.ofFn fun n => some (Config.quantize (10 * tw[n])) } }).writeRepairs

/-- What a piece of ticketed work leaves at its end. -/
def Lane.workDone (l : Lane) (w : Work) : Lane :=
  match w with
  | .boost _ => l.endBoost
  | .session h path key sigOk unwrapOk => l.finishSession h path key sigOk unwrapOk
  | .attest h path nonce => l.finishAttest h path nonce
  | .shutdown => l.finalFlush
  | .logFlush => l.writeRepairs
  | .memory => l.onReh fun r => { r with memReady := true }
  | _ => l

/-- Rows of their own end start-of-day steps, reruns, in-service steps and cartridge writes. -/
def ownEnd : Work → Bool
  | .step _ | .rerun _ | .rotation _ | .cartWrite => true
  | _ => false

/-- The running ticket `id` has done its work. -/
def Lane.endTicket (l : Lane) (id : Nat) : Lane :=
  match l.box.running.find? fun t => t.id == id with
  | none => l
  | some t => if ownEnd t.work then l else ((l.retire t).workDone t.work).decideSales

/-- Ticketed work ends. -/
def execTicketedWorkEnd (e : At) (id : Nat) (s : State) : Host.Outcome State Fault Refusal :=
  .next (s.logicEvent e fun l => l.endTicket id)

/-! ### The start of a cycle -/

/-- The figure of this cycle (R360): at start of day it is compared; in service three in succession outside the window
are a lane fault. -/
def Lane.takeFigure (l : Lane) (figure : Nat) : Lane :=
  let l := (l.put R.BI_REFFIG_OWN figure).onReh fun r => { r with figured := true }
  let k := if l.lstate = .out ∨ figureOk (l.get R.BI_REFFIG_OWN) then 0 else l.reh.refBad + 1
  let l := (l.onReh fun r => { r with refBad := k }).checkFigures
  if 3 ≤ k then l.laneOut else l

/-- Counts of one cycle begin anew (R84, R128, R256); LOST links retrain (R256). -/
def Lane.clearCycle (l : Lane) : Lane :=
  let l := l.allAxes fun l n => (l.drop (R.DC_CNT_CDCNT n)).onAx n fun a => { a with prot := { a.prot with peaks := 0 } }
  let link (l : Lane) (p : Peer) : Lane :=
    let l := l.onLinkEnd p fun e => { e with failed := 0 }
    if l.linkMode p = .lost ∧ !l.linkHeld p then (l.setLink p .train).onLinkEnd p fun e => { e with good := 0 } else l
  link (link l 0) 1

/-- FW_RESTART: the lane resets at the start of a cycle (R341, R57). -/
def Lane.restart (l : Lane) : Lane :=
  let l := (List.range 8).foldl (fun l s => l.drop (R.HS_SSEQ_OPEN s)) l
  let l := (l.onMode fun m => { m with fwRestart := false }).onPower fun p => { p with phase := .oscillator, fails := 0 }
  (l.allAxes fun l n => l.settle n).koSettle

/-- The guard counts whole cycles (R280). -/
def Lane.guardCycle (l : Lane) : Lane :=
  if !l.flag R.WG_STAT_GUARD then l
  else if l.wing.guardFresh then l.onWing fun w => { w with guardFresh := false }
  else l.put R.WG_LEAD_GUARDC (l.get R.WG_LEAD_GUARDC - 1)

/-- The drill count and the token handed over at the end of the drill cycle (R281). -/
def Lane.drillCycle (l : Lane) : Lane :=
  let fresh := !l.wing.drilling
  let l := l.endDrill
  let l := l.when fresh fun l => l.put R.WG_DRILL_NEXT (l.get R.WG_DRILL_NEXT - 1)
  if l.wing.takeNext ∧ l.lstate = .live then l.takeToken.takeOverCall else l

/-- A peer that has announced its re-entry is LIVE from this cycle (R276 step 3). -/
def Lane.acceptPeer (l : Lane) (p : Peer) : Lane :=
  if l.wing.peerRejoin[p] ∧ l.peerState p = 1 then
    let l := (l.setPeerState p 2).raise R.WG_EVT_RSEND
    (l.onWing fun w => { w with peerRejoin := w.peerRejoin.set p false }).countLive
  else l.onWing fun w => { w with peerRejoin := w.peerRejoin.set p false }

/-- The lane's own re-entry (R276 steps 3 and 4): its summaries have announced it. -/
def Lane.reenter (l : Lane) : Lane :=
  if l.lstate = .resync ∧ l.wing.rejoin ∧ l.wing.own.any (·.rejoin) then
    let l := (((l.setLState .live).put R.WG_RESYNC_STEP 4).raise R.WG_EVT_RSEND).countLive
    let l := l.onWing fun w => { w with rejoin := false }
    (l.allAxes fun l n => if l.flag (R.DC_CTRL_EN n) ∧ l.modeDrives n then l.enableAxis n else l).koSettle
  else l

/-- The peer takes part in the first agreed HOLD (R332, R558). -/
def Lane.takesPart (l : Lane) (p : Peer) : Bool :=
  l.wing.digests[p].isSome && l.peerState p != 0 && !(peerLane l.id p == .C && l.flag R.LC_STATE_CABS)

/-- The lowest-lettered LIVE lane in this lane's view. -/
def Lane.lowestLive (l : Lane) : LaneId := ([LaneId.A, .B, .C].find? fun i => l.liveIn i).getD l.id

/-- The first agreed HOLD: every taking-part lane is LIVE, the lowest-lettered one leads, lane time is set (R41, R278, R332,
R419, R558). -/
def Lane.firstHold (l : Lane) : Lane :=
  let bad := l.serialsDiffer
  let part (l : Lane) (p : Peer) : Lane := l.setPeerState p (if l.takesPart p then 2 else 0)
  let l := ((part (part l 0) 1).setLState .live).countLive
  let l := l.onWing fun w => { w with firstHold := true, serialBad := bad, alone := 0, missed := Vector.replicate 2 0 }
  let lead := l.lowestLive
  let l := if lead = l.id then l.leadSelf
    else (l.put R.WG_STAT_LEADL (laneNum lead)).onWing fun w => { w with leaseEnd := l.ltime + l.lease }
  l.startTime

/-- A book activated comes into force with the agreed HOLD (R342). -/
def Lane.takeNextBook (l : Lane) : Lane :=
  match l.trust.nextBook with
  | some b => l.installBook b
  | none => l

/-- The agreed module state takes effect (R271, R553). -/
def Lane.takeNextMode (l : Lane) : Lane :=
  match l.wing.next with
  | none => l
  | some m =>
    let script := l.mode == .scriptCheck && m == 4
    let l := l.when (script && !l.wing.firstHold) fun l => l.firstHold
    let l := l.when script fun l => l.takeNextBook
    (l.onWing fun w => { w with next := none }).enterMode (.ofCode m)

/-- The state-change opcodes of the cycle past are answered (R554). -/
def Lane.answerModes (l : Lane) : Lane :=
  let q := l.seats.modeReqs
  let l := l.onSeats fun s => { s with modeReqs := [] }
  q.foldl (fun l r =>
    match r.refused with
    | some (c, d) => l.answer r.hdr r.path ⟨c, d⟩ []
    | none => if l.get R.LC_STATE_MSTATE = r.mode then l.answer r.hdr r.path .ok [] else l.answer r.hdr r.path l.stateStatus []) l

/-- The module state at a cycle start. From HOLD on a proposal stands for its cycle (R554). -/
def Lane.modeCycle (l : Lane) : Lane :=
  let l := (if l.lstate = .out ∧ l.mode ≠ .scriptCheck then l else l.takeNextMode).answerModes
  if l.fromHold then l.onWing fun w => { w with proposed := l.get R.LC_STATE_MSTATE } else l

/-- A standby lane takes the complete mirror set of the cycle past (R279). -/
def Lane.mirrorCycle (l : Lane) : Lane :=
  match l.wing.mirrorNext with
  | some m =>
    if l.flag R.LC_STATE_LEAD ∨ l.lstate = .out then l.onWing fun w => { w with mirrorNext := none } else l.applyMirror m
  | none => l

/-- Latch bits that an agreed reset clears (R523). -/
def Lane.clearLatches (l : Lane) : Lane :=
  l.put R.SF_STAT_LATCH (l.get R.SF_STAT_LATCH &&& l.get R.SF_STAT_DEM)

/-- Discrepancy faults that an agreed reset clears (R523). -/
def Lane.clearDisc (l : Lane) : Lane :=
  (List.finRange 8).foldl (fun (l : Lane) k =>
    if l.bit R.SF_OWN_DISCF k.val ∧ l.safety.shown.getLsbD k.val then (l.putBit R.SF_OWN_DISCF k.val false).ownPair k else l) l

/-- An agreed reset takes effect (R523). -/
def Lane.resetCycle (l : Lane) : Lane :=
  if l.safety.resetAgreed then
    let l := (l.onSafety fun s => { s with resetAgreed := false }).clearLatches.clearDisc
    ((l.raise R.SF_EVT_RSTOK).bump R.SF_RST_OK).koSettle
  else l

/-- Soft gains of an agreed oscillation act from here (R211). -/
def Lane.softCycle (l : Lane) (n : Axis) : Lane :=
  if (l.lp n).softNext then (l.raise (R.LE_STAT_SOFT n)).onLp n fun p => { p with softNext := false } else l

/-- The cartridge of an axis at a cycle start: the checks of R541, and the start value of the ledger (R546). -/
def Lane.cartCycle (l : Lane) (n : Axis) : Lane :=
  if !l.wing.firstHold ∨ l.lstate ≠ .live ∨ !l.bookEnables n then l
  else
    let ok := l.axisTrusted n
    let l := l.cartCheck n ok
    if ok ∧ !(l.cart n).started then
      l.startLife n (agreeHigh (l.votes.map fun s => (s.axes[n].life : Int))).toNat
    else l

/-- The command a CRYPTO ticket was queued for. -/
def Work.asker : Work → Option (Hdr × Option Path)
  | .session h p _ _ _ => some (h, p)
  | .attest h p _ => some (h, p)
  | _ => none

/-- CRYPTO tickets unsold for 100 cycles are given up, and answered RETRY 0x02 (R481, R534). -/
def Lane.cryptoCycle (l : Lane) : Lane :=
  let old (t : Ticket) : Bool := t.work.asker.isSome && decide (100 ≤ l.mode_.cycle - t.cycle)
  let late := l.box.queued.filter old
  let l := (l.onBox fun b => { b with queued := b.queued.filter fun t => !old t }).showBox
  late.foldl (fun l t => match t.work.asker with | some (h, p) => l.answer h p (.retry 2) [] | none => l) l

/-- The ring's part; without a ring the cycle number still counts (R379). -/
def Lane.ringPartCycle (l : Lane) : Lane :=
  if l.flag R.VR_CFG_EN then l.ringCycle
  else (l.onRing fun r => { r with num := l.mode_.cycle - 1 }).ringCycle

/-- A cycle starts (R379), with the figure of the check reference (R360). -/
def Lane.cueInstant (l : Lane) (figure : Nat) : Lane :=
  let l := l.onMode fun m => { m with cycle := (l.ltime + ltUs 25) / ltUs (50 * l.beats) }
  if l.mode_.fwRestart then l.restart
  else
    let l := (l.takeFigure figure).clearCycle.guardCycle.drillCycle
    let l := ((l.acceptPeer 0).acceptPeer 1).reenter
    let l := l.modeCycle.mirrorCycle
    let l := (l.when (l.lstate != .out) fun l => l.spotCycle).resetCycle
    let l := l.allAxes fun l n => (l.softCycle n).cartCycle n
    l.cryptoCycle.trioCycle.ringPartCycle.timeCycle

/-- A cue instant. -/
def execCueInstant (e : At) (figure : BitVec 16) (s : State) : Host.Outcome State Fault Refusal :=
  .next (s.logicEvent e fun l => l.cueInstant figure.toNat)

end Sys2Proof.Machine
end

