-- ==== Sys2Proof/Machine/Vote.lean ====
section
/-!
DEFINITION. The voter of the trio: copies, decisions and what a decided transaction does (R220 to R231, R238).
-/

namespace Sys2Proof.Machine

/-- A decided store becomes visible (R220, R222): in the lane register space, as a write of that register, or in stage
memory, which has 4 MiB. The bytes outside the mask are stored as they stand, and 0 in their W1C bits, so that the store
clears no bit to which it writes no 1 (R10). -/
def Lane.voterStore (l : Lane) (x : Txn) : Lane :=
  let a := x.dest.toNat / 4 * 4
  let w := BitVec.ofNat 32 x.value.toNat
  let v := maskBytes x.mask w (l.word a &&& ~~~clearedByOne a)
  if x.space then (if (l.wordRefused a v).isSome then l else l.applyWrite a v)
  else if a < 4194304 then l.setStage a (maskBytes x.mask w (l.stageWord a))
  else l

/-- A word of stage memory as the cores read it: an open store of theirs is served from the store buffer until it is
visible (R222). -/
def Lane.bufferedWord (l : Lane) (a : Nat) : Word :=
  l.trio.slots.foldl (fun w s =>
    match s.decided with
    | some (x, _) =>
      if x.kind = 2 ∧ !x.space ∧ x.dest.toNat / 4 * 4 = a then maskBytes x.mask (x.value.setWidth 32) w else w
    | none => w) (l.stageWord a)

/-- Changes the last open transaction. -/
def Lane.onLast (l : Lane) (f : Slot → Slot) : Lane :=
  l.onTrio fun t => { t with slots := t.slots.dropLast ++ (t.slots.getLast?.map f).toList }

/-- A single-sample load is performed once, at its decision, and its side effects with it (R231). -/
def Lane.voterLoad (l : Lane) (x : Txn) : Lane :=
  let a := x.dest.toNat / 4 * 4
  let l := l.when x.space fun l => l.onRead a
  let w := if x.space then l.readWord a else l.bufferedWord a
  l.onLast fun s => { s with data := w }

/-- What a transaction that has ended leaves in a core that votes or is being loaded: register and control writes, which are
forwarded to a loading core (R236 step 3), the data of a load (R231), the checkpoint (R221). -/
def CoreState.commit (c : CoreState) (x : Txn) (data : Word) (votes : Bool) : CoreState :=
  if x.kind.val ≤ 1 then { c with file := fileWrite x c.file }
  else if !votes then c
  else if x.kind = 3 then { c with loaded := data }
  else if x.kind = 4 then { c with point := x.value } else c

/-- The first open transaction ends with the value `x`: its effect becomes visible (R224). -/
def Lane.commitTxn (l : Lane) (x : Txn) : Lane :=
  let data := (l.trio.slots.head?.map (·.data)).getD 0
  let l := l.onTrio fun t => { t with
    slots := t.slots.tail, number := t.number + 1
    file := if x.kind.val ≤ 1 then fileWrite x t.file else t.file
    cores := Vector.ofFn fun c => t.cores[c].commit x data (l.coreVotes c) }
  if x.kind = 2 then l.voterStore x else l

/-- The lag of a third copy behind its decision, in 0.1 ns (R230). -/
def Lane.showLag (l : Lane) (t : Nat) : Lane :=
  let lag := (l.now - t) * 5 / 2
  (l.put R.TV_SKEW_MAXCYC (max (l.get R.TV_SKEW_MAXCYC) lag)).put R.TV_SKEW_MAXALL (max (l.get R.TV_SKEW_MAXALL) lag)

/-- The laggard window in raw counts: TV_WIN, and 32 ns before the first calibration (R225). -/
def Lane.window (l : Lane) : Nat := (if l.get R.TV_WIN_WIN = 0 then 320 else l.get R.TV_WIN_WIN) * 2 / 5

/-- A pair mismatch (R238). -/
def Lane.pairMismatch (l : Lane) (c : Core) (x : Txn) : Lane := (l.showOdd c 3 x).haltTrio R.TV_EVT_PAIRMIS

/-- No majority (R226); the recorded core is that of the first copy. -/
def Lane.noMajority (l : Lane) (first : Copy) : Lane := (l.showOdd first.core 2 first.txn).haltTrio R.TV_EVT_NOMAJ

/-- The voter's check of itself fails: handled as no majority (R228), and recorded as one. -/
def Lane.voterFault (l : Lane) (first : Copy) : Lane := (l.showOdd first.core 2 first.txn).haltTrio R.TV_EVT_VOTERR

/-! ### Exercises at the voter's input (R243) -/

/-- A transaction as an exercise kind alters it: a value bit, a destination group, and for kind 39 the value in two ways. -/
def alterTxn (kind : Nat) (second : Bool) (x : Txn) : Txn :=
  if kind < 32 then { x with value := x.value ^^^ BitVec.twoPow 64 kind }
  else match kind with
    | 32 => { x with dest := x.dest ^^^ 1 }
    | 33 => { x with dest := x.dest ^^^ 0xFF }
    | 34 => { x with dest := x.dest ^^^ 0xFF00 }
    | 35 => { x with dest := x.dest ^^^ 0xFF0000 }
    | 36 => { x with kind := x.kind + 1 }
    | 37 => { x with mask := ~~~x.mask }
    | _ => { x with value := x.value ^^^ (if second then 2 else 1) }

/-- Whether the exercise alters the copies of core `c`. -/
def Exercise.alters (x : Exercise) (c : Core) : Bool :=
  x.kind != 38 && (c == x.core || (x.kind == 39 && c == x.core + 1))

/-- A copy as the voter receives it. -/
def Slot.received (s : Slot) (k : Copy) : Txn :=
  match s.ex with
  | some x => if x.alters k.core then alterTxn x.kind (k.core != x.core) k.txn else k.txn
  | none => k.txn

/-- A copy that no exercise alters. -/
def Slot.plain (s : Slot) (k : Copy) : Bool := match s.ex with | some x => !x.alters k.core | none => true

/-- The copies as they left the cores agree: no real disagreement (R246). -/
def Slot.agree (s : Slot) : Bool :=
  match s.copies with
  | [] => true
  | a :: r => r.all fun k => k.txn == a.txn

/-- The exercise that a transaction carries, if any, ends: by its detection, or void (R246, R247). -/
def Lane.closeExercise (l : Lane) (s : Slot) (real : Bool) : Lane :=
  match s.ex with
  | none => l
  | some x => if real then l.voidExercise else l.endExercise x.missed

/-! ### Decisions (R224, R226, R238) -/

/-- The last open transaction is decided with the value `x`: a single-sample load is performed, and the events that wait are
presented to the cores that have issued their copy (R224, R231, R234). -/
def Lane.decideTxn (l : Lane) (x : Txn) : Lane :=
  let l := l.onTrio fun t =>
    let has (c : Core) : Bool := t.slots.getLast?.any fun s => s.copies.any (fun k => k.core == c) || s.delayed.any fun k => k.core == c
    { t with
      presented := t.presented + t.waiting, waiting := 0
      cores := Vector.ofFn fun c => if has c then { t.cores[c] with taken := t.cores[c].taken + t.waiting } else t.cores[c]
      slots := t.slots.dropLast ++ (t.slots.getLast?.map fun s =>
        { s with decided := some (x, l.now), events := t.waiting }).toList }
  if x.kind = 3 then l.voterLoad x else l

/-- Every transaction decided ends: in PAIR and RESYNC modes no copy is awaited after the decision (R238). -/
def Lane.flushDecided : Nat → Lane → Lane
  | 0, l => l
  | k + 1, l =>
    match l.trio.slots with
    | s :: _ => (match s.decided with | some (x, _) => Lane.flushDecided k (l.commitTxn x) | none => l)
    | [] => l

/-- A core becomes odd; the two others go on under the pair rule (R226, R236 step 1). -/
def Lane.makeOdd (l : Lane) (c : Core) (late : Bool) (x : Txn) : Lane :=
  let l := l.oddCore c late x
  Lane.flushDecided l.trio.slots.length l

/-- Three copies of an undecided transaction as received, the last at `t`: the third matches one of the first two within 32 ns
of the second, or there is no majority (R226). -/
def Lane.judgeThree (l : Lane) (s : Slot) (a b k : Copy) (t : Nat) (selfOk : Bool) : Lane :=
  let x := s.received k
  if b.at_ + 128 < t ∨ (x ≠ s.received a ∧ x ≠ s.received b) then l.noMajority a
  else if !selfOk then l.voterFault a
  else
    let odd := if x = s.received a then b else a
    ((l.decideTxn x).commitTxn x).makeOdd odd.core false (s.received odd)

/-- The last open transaction is judged after a copy came, in TRIO mode (R226, R243). -/
def Lane.judgeTrio (l : Lane) (s : Slot) (selfOk : Bool) : Lane :=
  match s.copies with
  | [a, b] =>
    if s.plain a && s.plain b && a.txn == b.txn then (if selfOk then l.decideTxn a.txn else l.voterFault a) else l
  | [a, b, k] =>
    if s.ex.isSome && s.agree && decide (k.at_ ≤ b.at_ + 128) then
      (if selfOk then ((l.decideTxn k.txn).commitTxn k.txn).closeExercise s false else l.voterFault a)
    else (l.closeExercise s true).judgeThree s a b k k.at_ selfOk
  | _ => l

/-- The last open transaction is judged after a copy came, in PAIR or RESYNC mode (R238, R243). -/
def Lane.judgePair (l : Lane) (s : Slot) (selfOk : Bool) : Lane :=
  match s.copies with
  | [a, k] =>
    let l := l.closeExercise s (!s.agree)
    if l.trioMode = .halted then l
    else if s.received a = s.received k ∨ (s.ex.isSome ∧ s.agree) then
      (if selfOk then (l.decideTxn k.txn).commitTxn k.txn else l.voterFault a)
    else l.pairMismatch k.core (s.received k)
  | _ => l

/-- A core takes the events of a transaction after issuing its own copy of it (R234). -/
def Lane.giveEvents (l : Lane) (c : Core) (n : Nat) : Lane :=
  l.onTrio fun t => { t with cores := t.cores.set c { t.cores[c] with taken := t.cores[c].taken + n } }

/-- A third copy of a transaction decided at `t` arrives within the window (R226, R230). -/
def Lane.judgeThird (l : Lane) (s : Slot) (x : Txn) (t : Nat) (k : Copy) : Lane :=
  let l := l.showLag t
  let real := k.txn != x
  let l := (l.commitTxn x).closeExercise s real
  if real ∧ s.received k ≠ x then l.makeOdd k.core false (s.received k) else l

/-- The open transaction that the next copy of core `c` belongs to. -/
def Lane.slotOf (l : Lane) (c : Core) : Nat := l.trio.cores[c].next - l.trio.number

/-- A copy of core `c` is placed with its transaction; it opens one where it is the first. -/
def Lane.placeCopy (l : Lane) (c : Core) (x : Txn) : Lane :=
  let i := l.slotOf c
  let k : Copy := ⟨c, x, l.now⟩
  let delay (s : Slot) : Bool := s.ex.any fun e => e.kind == 38 && e.core == c
  let add (s : Slot) : Slot := if delay s then { s with delayed := some k } else { s with copies := s.copies ++ [k] }
  l.onTrio fun t =>
    let fresh : Slot := ⟨[], none, 0, 0, t.exercise, none⟩
    { t with
      slots := if i < t.slots.length then t.slots.modify i add else t.slots ++ [add fresh]
      exercise := if i < t.slots.length then t.exercise else none
      cores := t.cores.set c { t.cores[c] with next := t.cores[c].next + 1, held := none, cold := false } }

/-- Copies that stalled until the decision go to the voter (R223). -/
def Lane.releaseHeld (l : Lane) : Lane :=
  (List.finRange 3).foldl (fun l c =>
    match l.trio.cores[c].held with
    | some x => if l.trio.slots.all (fun s => s.decided.isSome) ∨ l.slotOf c < l.trio.slots.length then l.placeCopy c x else l
    | none => l) l

/-- Judges the last open transaction, and the one after it whose copies had waited for the decision. -/
def Lane.judgeLast : Nat → Bool → Lane → Lane
  | 0, _, l => l
  | n + 1, selfOk, l =>
    match l.trio.slots.getLast? with
    | none => l
    | some s =>
      if s.decided.isSome then l
      else
        let l' := if l.trioMode = .trio then l.judgeTrio s selfOk else l.judgePair s selfOk
        if l'.trioMode = .halted ∨ l'.trio.slots.any (fun s => s.decided.isNone) then l'
        else Lane.judgeLast n selfOk l'.releaseHeld

/-- A core issues a voted transaction: it stalls while the one before is undecided (R223). -/
def Lane.issue (l : Lane) (c : Core) (x : Txn) (selfOk : Bool) : Lane :=
  let i := l.slotOf c
  if l.trio.cores[c].held.isSome then l
  else if l.trio.slots.length ≤ i ∧ l.trio.slots.any (fun s => s.decided.isNone) then
    l.onTrio fun t => { t with cores := t.cores.set c { t.cores[c] with held := some x } }
  else
    let l := l.placeCopy c x
    match l.trio.slots[i]? with
    | none => l
    | some s =>
      match s.decided with
      | none => Lane.judgeLast 3 selfOk l
      | some (y, t) =>
        let l := l.giveEvents c s.events
        if s.delayed.isSome then l else l.judgeThird s y t ⟨c, x, l.now⟩

/-! ### Windows (R225, R226, R238) -/

/-- The core that has sent no copy of a transaction. -/
def Slot.absent (s : Slot) : Core :=
  if s.copies.all (fun c => c.core != 0) then 0 else if s.copies.all (fun c => c.core != 1) then 1 else 2

/-- The running core of a pair that is not `c`. -/
def Lane.otherOfPair (l : Lane) (c : Core) : Core :=
  if c ≠ 0 ∧ l.coreVotes 0 then 0 else if c ≠ 1 ∧ l.coreVotes 1 then 1 else 2

/-- The window of a transaction decided at `t` closes without its third copy (R226): the core is late, or an exercise delayed
its copy by 40 ns, which counts as detected where that is past the window (R243). -/
def Lane.closeDecided (l : Lane) (s : Slot) (x : Txn) (t : Nat) : Lane :=
  match s.ex, s.delayed with
  | some e, some d =>
    (l.commitTxn x).endExercise (e.missed || decide (d.at_ + 160 ≤ t + l.window))
  | _, _ =>
    let c := s.absent
    let l := (l.commitTxn x).closeExercise s true
    (l.onTrio fun q => { q with lateOf := some (c, t) }).makeOdd c true x

/-- A window closes without a decision in TRIO mode (R226): a copy that an exercise delayed is judged as the third, received
40 ns after it came (R243, R246). -/
def Lane.closeUndecided (l : Lane) (s : Slot) (a b : Copy) : Lane :=
  let l := l.closeExercise s true
  match s.delayed with
  | some d => l.judgeThree s a b d (d.at_ + 160) true
  | none => l.noMajority a

/-- The windows that have closed, `slack` raw counts ago at least, oldest transaction first. -/
def Lane.closeWindows : Nat → Nat → Lane → Lane
  | 0, _, l => l
  | n + 1, slack, l =>
    let passed (t w : Nat) : Bool := l.since t (w + slack)
    match l.trioMode, l.trio.slots with
    | .halted, _ | _, [] => l
    | .trio, s :: _ =>
      (match s.decided, s.copies with
       | some (x, t), _ => if passed t l.window then Lane.closeWindows n slack (l.closeDecided s x t) else l
       | none, a :: b :: _ => if passed b.at_ 128 then l.closeUndecided s a b else l
       | none, _ => l)
    | _, s :: _ =>
      (match s.copies with
       | a :: _ => if passed a.at_ l.window then (l.closeExercise s true).pairMismatch (l.otherOfPair a.core) a.txn else l
       | [] => l)

/-- The lag of a copy that came after its window had closed is recorded, and the copy discarded (R227, R230). -/
def Lane.discardCopy (l : Lane) (c : Core) : Lane :=
  match l.trio.lateOf with
  | some (d, t) => if d = c then (l.showLag t).onTrio fun q => { q with lateOf := none } else l
  | none => l

/-- A copy of a voted transaction arrives; `e.val` is how many instructions its core retired since the last (R221), `selfOk`
the voter's check of itself on a decision (R224, R228). -/
def execVoteCopy (e : Seen (Fin 65)) (core : Core) (txn : Txn) (selfOk : Bool) (s : State) :
    Host.Outcome State Fault Refusal :=
  .next (s.logicEvent e.toAt fun l =>
    let l := Lane.closeWindows 4 1 l
    if l.trioMode = .halted then l
    else if !l.coreVotes core then l.discardCopy core
    else
      (l.onTrio fun t => { t with cores := t.cores.set core { t.cores[core] with run := e.val.val } }).issue core txn selfOk)

/-- The laggard window closes (R225, R226, R238). -/
def execLaggardWindowClose (e : At) (s : State) : Host.Outcome State Fault Refusal :=
  .next (s.logicEvent e fun l => Lane.closeWindows 1 0 l)

/-- One copy alone for 1.0 µs in TRIO mode (R226); a copy that an exercise delayed is the second. -/
def Lane.loneCopy (l : Lane) (s : Slot) : Lane :=
  match s.copies, s.delayed with
  | [a], none => if l.since a.at_ (us 1) then (l.closeExercise s true).noMajority a else l
  | [], some d => if l.since d.at_ (us 1) then (l.closeExercise s true).noMajority d else l
  | [a], some d =>
    if !l.since a.at_ (us 1) then l
    else
      let l := l.closeExercise s true
      if a.txn = d.txn then ((l.decideTxn a.txn).commitTxn a.txn).makeOdd (Slot.absent { s with copies := [a, d] }) true a.txn
      else l.noMajority a
  | _, _ => l

/-- See `Lane.loneCopy`. -/
def execLoneCopyTimeout (e : At) (s : State) : Host.Outcome State Fault Refusal :=
  .next (s.logicEvent e fun l =>
    match l.trioMode, l.trio.slots.getLast? with
    | .trio, some s => if s.decided.isSome then l else l.loneCopy s
    | _, _ => l)

end Sys2Proof.Machine
end

