-- ==== Sys2Proof/Machine/Dispatch.lean ====
section
/-!
DEFINITION. What each command does: one arm for each constructor of Instr, each a call of its meaning.
-/

namespace Sys2Proof.Machine

/-- The effect of a command on everything but the queue. -/
def exec (i : Instr) (s : State) : Host.Outcome State Fault Refusal :=
  match i with
  | .beatStart e m => Sys2Proof.Machine.execBeatStart e m s
  | .peerSummary e link src h sm => Sys2Proof.Machine.execPeerSummary e link src h sm s
  | .receiveDeadline e => Sys2Proof.Machine.execReceiveDeadline e s
  | .loopDeadlineDrop e k => Sys2Proof.Machine.execLoopDeadlineDrop e k s
  | .ladderCrossing e n p level up stamp taken => Sys2Proof.Machine.execLadderCrossing e n p level up stamp taken s
  | .understudyUpdate e n => Sys2Proof.Machine.execUnderstudyUpdate e n s
  | .droppedUpdate e n => Sys2Proof.Machine.execDroppedUpdate e n s
  | .copyDisagreement e n differ => Sys2Proof.Machine.execCopyDisagreement e n differ s
  | .tableParity e n copy => Sys2Proof.Machine.execTableParity e n copy s
  | .dwellEnd e n => Sys2Proof.Machine.execDwellEnd e n s
  | .rateHoldRelease e n => Sys2Proof.Machine.execRateHoldRelease e n s
  | .ascEnd e n => Sys2Proof.Machine.execAscEnd e n s
  | .decayDone e n => Sys2Proof.Machine.execDecayDone e n s
  | .recatchFail e n => Sys2Proof.Machine.execRecatchFail e n s
  | .substituteTimeout e n => Sys2Proof.Machine.execSubstituteTimeout e n s
  | .axisEnable e n => Sys2Proof.Machine.execAxisEnable e n s
  | .axisDisable e n => Sys2Proof.Machine.execAxisDisable e n s
  | .prechargeEnd e n gateOk => Sys2Proof.Machine.execPrechargeEnd e n gateOk s
  | .peakTrip e n p positive taken => Sys2Proof.Machine.execPeakTrip e n p positive taken s
  | .vdsTrip e n j => Sys2Proof.Machine.execVdsTrip e n j s
  | .ceilingTrip e n j => Sys2Proof.Machine.execCeilingTrip e n j s
  | .tier1Decision e n => Sys2Proof.Machine.execTier1Decision e n s
  | .ginChange e n levels => Sys2Proof.Machine.execGinChange e n levels s
  | .deadTimeEnd e n j inside gateOk => Sys2Proof.Machine.execDeadTimeEnd e n j inside gateOk s
  | .gateOffFailure e n j => Sys2Proof.Machine.execGateOffFailure e n j s
  | .vgLockout e => Sys2Proof.Machine.execVgLockout e s
  | .vgLockoutPersist e => Sys2Proof.Machine.execVgLockoutPersist e s
  | .vgRecover e => Sys2Proof.Machine.execVgRecover e s
  | .bootstrapLockout e n p => Sys2Proof.Machine.execBootstrapLockout e n p s
  | .bootstrapRecover e n p => Sys2Proof.Machine.execBootstrapRecover e n p s
  | .refreshTimerRestart e n p => Sys2Proof.Machine.execRefreshTimerRestart e n p s
  | .refreshPending e n p => Sys2Proof.Machine.execRefreshPending e n p s
  | .refreshInsert e n due above => Sys2Proof.Machine.execRefreshInsert e n due above s
  | .refreshLate e n => Sys2Proof.Machine.execRefreshLate e n s
  | .leakCheckRequest e n mask => Sys2Proof.Machine.execLeakCheckRequest e n mask s
  | .leakCheckStart e n j bst => Sys2Proof.Machine.execLeakCheckStart e n j bst s
  | .leakCheckEnd e n j r sweep => Sys2Proof.Machine.execLeakCheckEnd e n j r sweep s
  | .faultClear e n mask => Sys2Proof.Machine.execFaultClear e n mask s
  | .ov1Enter e vm => Sys2Proof.Machine.execOv1Enter e vm s
  | .ov1Release e vm => Sys2Proof.Machine.execOv1Release e vm s
  | .ov2Enter e vm => Sys2Proof.Machine.execOv2Enter e vm s
  | .ov2Release e vm => Sys2Proof.Machine.execOv2Release e vm s
  | .ov3Enter e vm => Sys2Proof.Machine.execOv3Enter e vm s
  | .ov3Release e vm => Sys2Proof.Machine.execOv3Release e vm s
  | .ovmax e vm => Sys2Proof.Machine.execOvmax e vm s
  | .chopperFault e => Sys2Proof.Machine.execChopperFault e s
  | .stuckChopper e => Sys2Proof.Machine.execStuckChopper e s
  | .chopperMinOnEnd e => Sys2Proof.Machine.execChopperMinOnEnd e s
  | .countEdge e n edge => Sys2Proof.Machine.execCountEdge e n edge s
  | .indexPulse e n ab => Sys2Proof.Machine.execIndexPulse e n ab s
  | .serialFrameSend e n => Sys2Proof.Machine.execSerialFrameSend e n s
  | .serialFrame e n f => Sys2Proof.Machine.execSerialFrame e n f s
  | .reneg e n => Sys2Proof.Machine.execReneg e n s
  | .hallTransition e n code => Sys2Proof.Machine.execHallTransition e n code s
  | .hallInvalid e n => Sys2Proof.Machine.execHallInvalid e n s
  | .prbarm e n sel => Sys2Proof.Machine.execPrbarm e n sel s
  | .probeEdge e n rising => Sys2Proof.Machine.execProbeEdge e n rising s
  | .stall e n => Sys2Proof.Machine.execStall e n s
  | .lineFault e n line => Sys2Proof.Machine.execLineFault e n line s
  | .lineGood e n => Sys2Proof.Machine.execLineGood e n s
  | .lockstepMismatch e => Sys2Proof.Machine.execLockstepMismatch e s
  | .lockstepInjection e detected => Sys2Proof.Machine.execLockstepInjection e detected s
  | .voteCopy e core txn selfOk => Sys2Proof.Machine.execVoteCopy e core txn selfOk s
  | .laggardWindowClose e => Sys2Proof.Machine.execLaggardWindowClose e s
  | .loneCopyTimeout e => Sys2Proof.Machine.execLoneCopyTimeout e s
  | .resyncComplete e => Sys2Proof.Machine.execResyncComplete e s
  | .resyncTimeout e => Sys2Proof.Machine.execResyncTimeout e s
  | .spreadHigh e => Sys2Proof.Machine.execSpreadHigh e s
  | .spreadPersist e => Sys2Proof.Machine.execSpreadPersist e s
  | .exercise e missed => Sys2Proof.Machine.execExercise e missed s
  | .exnow e => Sys2Proof.Machine.execExnow e s
  | .wingHello e p h figure time dur synced => Sys2Proof.Machine.execWingHello e p h figure time dur synced s
  | .frameResend e p => Sys2Proof.Machine.execFrameResend e p s
  | .linkSilence e p => Sys2Proof.Machine.execLinkSilence e p s
  | .commandSegment e p h seg facts => Sys2Proof.Machine.execCommandSegment e p h seg facts s
  | .commandExpiry e fp => Sys2Proof.Machine.execCommandExpiry e fp s
  | .mirror e p h complete crcOk m => Sys2Proof.Machine.execMirror e p h complete crcOk m s
  | .token e p h seq mirrorSeq leaseEnd => Sys2Proof.Machine.execToken e p h seq mirrorSeq leaseEnd s
  | .leadLeaseExpiry e => Sys2Proof.Machine.execLeadLeaseExpiry e s
  | .tokenGuardEnd e => Sys2Proof.Machine.execTokenGuardEnd e s
  | .handoverDrill e => Sys2Proof.Machine.execHandoverDrill e s
  | .handover e p h crc => Sys2Proof.Machine.execHandover e p h crc s
  | .drillnow e => Sys2Proof.Machine.execDrillnow e s
  | .retrain e => Sys2Proof.Machine.execRetrain e s
  | .outFrame e p h => Sys2Proof.Machine.execOutFrame e p h s
  | .rejoin e p h reply => Sys2Proof.Machine.execRejoin e p h reply s
  | .resyncLaneTimeout e => Sys2Proof.Machine.execResyncLaneTimeout e s
  | .digest e p h d version serial => Sys2Proof.Machine.execDigest e p h d version serial s
  | .digestWaitEnd e => Sys2Proof.Machine.execDigestWaitEnd e s
  | .promptBookReverify e passed => Sys2Proof.Machine.execPromptBookReverify e passed s
  | .curtainEntry e => Sys2Proof.Machine.execCurtainEntry e s
  | .ticketRequest e cost target => Sys2Proof.Machine.execTicketRequest e cost target s
  | .ticketedWorkEnd e id => Sys2Proof.Machine.execTicketedWorkEnd e id s
  | .ticketStarved e id => Sys2Proof.Machine.execTicketStarved e id s
  | .commitmentRelease e id => Sys2Proof.Machine.execCommitmentRelease e id s
  | .supLedgerClose e => Sys2Proof.Machine.execSupLedgerClose e s
  | .gaugeRead e logic power => Sys2Proof.Machine.execGaugeRead e logic power s
  | .deficitPersist e power => Sys2Proof.Machine.execDeficitPersist e power s
  | .vcoreStep e => Sys2Proof.Machine.execVcoreStep e s
  | .vcoreRiseDone e meas => Sys2Proof.Machine.execVcoreRiseDone e meas s
  | .vcoreRiseTimeout e => Sys2Proof.Machine.execVcoreRiseTimeout e s
  | .coreUndervoltage e meas => Sys2Proof.Machine.execCoreUndervoltage e meas s
  | .coreOvervoltage e meas => Sys2Proof.Machine.execCoreOvervoltage e meas s
  | .lateCrossing e excess => Sys2Proof.Machine.execLateCrossing e excess s
  | .referenceLoss e => Sys2Proof.Machine.execReferenceLoss e s
  | .pllUnlock e => Sys2Proof.Machine.execPllUnlock e s
  | .powerUp e latchKept => Sys2Proof.Machine.execPowerUp e latchKept s
  | .pllLock e => Sys2Proof.Machine.execPllLock e s
  | .supplyWindowMiss e => Sys2Proof.Machine.execSupplyWindowMiss e s
  | .supplyRetry e => Sys2Proof.Machine.execSupplyRetry e s
  | .logicRelease e bootv18 => Sys2Proof.Machine.execLogicRelease e bootv18 s
  | .vinReserve e vin => Sys2Proof.Machine.execVinReserve e vin s
  | .vinUndervoltage e => Sys2Proof.Machine.execVinUndervoltage e s
  | .shutdownSequenceEnd e vinBack => Sys2Proof.Machine.execShutdownSequenceEnd e vinBack s
  | .temperatureWarning e ld pd => Sys2Proof.Machine.execTemperatureWarning e ld pd s
  | .temperatureTrip e temps held => Sys2Proof.Machine.execTemperatureTrip e temps held s
  | .memoryInitDone e size => Sys2Proof.Machine.execMemoryInitDone e size s
  | .firmwareVerified e => Sys2Proof.Machine.execFirmwareVerified e s
  | .rehearsalStepDone e step r => Sys2Proof.Machine.execRehearsalStepDone e step r s
  | .scriptCheck e => Sys2Proof.Machine.execScriptCheck e s
  | .scriptCheckDone e => Sys2Proof.Machine.execScriptCheckDone e s
  | .memoryRotation e => Sys2Proof.Machine.execMemoryRotation e s
  | .bankSwap e => Sys2Proof.Machine.execBankSwap e s
  | .marchDone e bits => Sys2Proof.Machine.execMarchDone e bits s
  | .eccCorrected e bank row word bit => Sys2Proof.Machine.execEccCorrected e bank row word bit s
  | .comparatorRotation e r => Sys2Proof.Machine.execComparatorRotation e r s
  | .twinSweep e sweep => Sys2Proof.Machine.execTwinSweep e sweep s
  | .linkMarginScan e p errors => Sys2Proof.Machine.execLinkMarginScan e p errors s
  | .rerun e blk => Sys2Proof.Machine.execRerun e blk s
  | .phyLink e p => Sys2Proof.Machine.execPhyLink e p s
  | .virecHelloSend e p => Sys2Proof.Machine.execVirecHelloSend e p s
  | .virecHello e p h => Sys2Proof.Machine.execVirecHello e p h s
  | .rateTimeout e p => Sys2Proof.Machine.execRateTimeout e p s
  | .cueInstant e figure => Sys2Proof.Machine.execCueInstant e figure s
  | .cueSend e cue late size => Sys2Proof.Machine.execCueSend e cue late size s
  | .cueFrame e p f => Sys2Proof.Machine.execCueFrame e p f s
  | .cueWindowEnd e cue links => Sys2Proof.Machine.execCueWindowEnd e cue links s
  | .portBreak e p => Sys2Proof.Machine.execPortBreak e p s
  | .coldStart e => Sys2Proof.Machine.execColdStart e s
  | .startFrame e p f => Sys2Proof.Machine.execStartFrame e p f s
  | .shann e sheet => Sys2Proof.Machine.execShann e sheet s
  | .reint e => Sys2Proof.Machine.execReint e s
  | .step e step => Sys2Proof.Machine.execStep e step s
  | .stepApply e => Sys2Proof.Machine.execStepApply e s
  | .incr e w => Sys2Proof.Machine.execIncr e w s
  | .syncLoss e => Sys2Proof.Machine.execSyncLoss e s
  | .timeLatch e => Sys2Proof.Machine.execTimeLatch e s
  | .canFrameReceived e k f => Sys2Proof.Machine.execCanFrameReceived e k f s
  | .canSlot e k entry => Sys2Proof.Machine.execCanSlot e k entry s
  | .canSlotEnd e k r => Sys2Proof.Machine.execCanSlotEnd e k r s
  | .busOffDelay e k => Sys2Proof.Machine.execBusOffDelay e k s
  | .recover e k => Sys2Proof.Machine.execRecover e k s
  | .recoveryDone e k => Sys2Proof.Machine.execRecoveryDone e k s
  | .freshAck e k b seen => Sys2Proof.Machine.execFreshAck e k b seen s
  | .addressClaim e k b won => Sys2Proof.Machine.execAddressClaim e k b won s
  | .windowLatch e w handle => Sys2Proof.Machine.execWindowLatch e w handle s
  | .commit e w => Sys2Proof.Machine.execCommit e w s
  | .seatWrite e waiting bytes facts => Sys2Proof.Machine.execSeatWrite e waiting bytes facts s
  | .seatRead e whole => Sys2Proof.Machine.execSeatRead e whole s
  | .seatStatus e waiting => Sys2Proof.Machine.execSeatStatus e waiting s
  | .canSegment e k first last index number pkt => Sys2Proof.Machine.execCanSegment e k first last index number pkt s
  | .canTransferTimeout e k => Sys2Proof.Machine.execCanTransferTimeout e k s
  | .sessionOpen e h path key sigOk unwrapOk => Sys2Proof.Machine.execSessionOpen e h path key sigOk unwrapOk s
  | .sessionClose e h path => Sys2Proof.Machine.execSessionClose e h path s
  | .ping e h path data => Sys2Proof.Machine.execPing e h path data s
  | .readReg e h path addr count => Sys2Proof.Machine.execReadReg e h path addr count s
  | .writeReg e h path addr count words => Sys2Proof.Machine.execWriteReg e h path addr count words s
  | .spotRequest e h path preempt => Sys2Proof.Machine.execSpotRequest e h path preempt s
  | .spotRenew e h path => Sys2Proof.Machine.execSpotRenew e h path s
  | .spotRelease e h path => Sys2Proof.Machine.execSpotRelease e h path s
  | .spotQuery e h path => Sys2Proof.Machine.execSpotQuery e h path s
  | .spotLeaseExpiry e => Sys2Proof.Machine.execSpotLeaseExpiry e s
  | .frozenTimeout e => Sys2Proof.Machine.execFrozenTimeout e s
  | .arm e h path => Sys2Proof.Machine.execArm e h path s
  | .perform e h path => Sys2Proof.Machine.execPerform e h path s
  | .setpoint e h path entries => Sys2Proof.Machine.execSetpoint e h path entries s
  | .disarm e h path => Sys2Proof.Machine.execDisarm e h path s
  | .stop e h path => Sys2Proof.Machine.execStop e h path s
  | .workshopEnter e h path => Sys2Proof.Machine.execWorkshopEnter e h path s
  | .workshopLeave e h path => Sys2Proof.Machine.execWorkshopLeave e h path s
  | .pbStatus e h path => Sys2Proof.Machine.execPbStatus e h path s
  | .pbLoadBegin e h path length digest => Sys2Proof.Machine.execPbLoadBegin e h path length digest s
  | .pbLoadData e h path offset count => Sys2Proof.Machine.execPbLoadData e h path offset count s
  | .pbLoadEnd e h path readBack book => Sys2Proof.Machine.execPbLoadEnd e h path readBack book s
  | .pbActivate e h path => Sys2Proof.Machine.execPbActivate e h path s
  | .pbAbort e h path => Sys2Proof.Machine.execPbAbort e h path s
  | .rehReport e h path => Sys2Proof.Machine.execRehReport e h path s
  | .rehRerun e h path step => Sys2Proof.Machine.execRehRerun e h path step s
  | .rehTask e h path index => Sys2Proof.Machine.execRehTask e h path index s
  | .logInfo e h path => Sys2Proof.Machine.execLogInfo e h path s
  | .logRead e h path first largest => Sys2Proof.Machine.execLogRead e h path first largest s
  | .logMark e h path text => Sys2Proof.Machine.execLogMark e h path text s
  | .timeRead e h path => Sys2Proof.Machine.execTimeRead e h path s
  | .timeEcho e h path arrival => Sys2Proof.Machine.execTimeEcho e h path arrival s
  | .idInfo e h path => Sys2Proof.Machine.execIdInfo e h path s
  | .idCert e h path index offset => Sys2Proof.Machine.execIdCert e h path index offset s
  | .attest e h path nonce => Sys2Proof.Machine.execAttest e h path nonce s
  | .fwStatus e h path => Sys2Proof.Machine.execFwStatus e h path s
  | .fwLoadBegin e h path length digest => Sys2Proof.Machine.execFwLoadBegin e h path length digest s
  | .fwLoadData e h path offset count => Sys2Proof.Machine.execFwLoadData e h path offset count s
  | .fwLoadEnd e h path readBack image => Sys2Proof.Machine.execFwLoadEnd e h path readBack image s
  | .fwRestart e h path => Sys2Proof.Machine.execFwRestart e h path s
  | .fwCommit e h path => Sys2Proof.Machine.execFwCommit e h path s
  | .confirmCheck e h path value => Sys2Proof.Machine.execConfirmCheck e h path value s
  | .cartAccept e h path axis digest => Sys2Proof.Machine.execCartAccept e h path axis digest s
  | .lifeAck e h path axis => Sys2Proof.Machine.execLifeAck e h path axis s
  | .safetyStatus e h path => Sys2Proof.Machine.execSafetyStatus e h path s
  | .claim e seat => Sys2Proof.Machine.execClaim e seat s
  | .completion e seat src => Sys2Proof.Machine.execCompletion e seat src s
  | .safetyInputChange e k pos neg => Sys2Proof.Machine.execSafetyInputChange e k pos neg s
  | .discrepancyFault e k => Sys2Proof.Machine.execDiscrepancyFault e k s
  | .gtSeenOpen e m => Sys2Proof.Machine.execGtSeenOpen e m s
  | .resetButton e high low => Sys2Proof.Machine.execResetButton e high low s
  | .resetStuck e => Sys2Proof.Machine.execResetStuck e s
  | .resetSingle e => Sys2Proof.Machine.execResetSingle e s
  | .koCommand e cmd => Sys2Proof.Machine.execKoCommand e cmd s
  | .contactorCheck e m high => Sys2Proof.Machine.execContactorCheck e m high s
  | .contactorFault e m high => Sys2Proof.Machine.execContactorFault e m high s
  | .koOvercurrent e m => Sys2Proof.Machine.execKoOvercurrent e m s
  | .koShort e m => Sys2Proof.Machine.execKoShort e m s
  | .tamper e r => Sys2Proof.Machine.execTamper e r s
  | .debugChallenge e => Sys2Proof.Machine.execDebugChallenge e s
  | .debugUnlock e token => Sys2Proof.Machine.execDebugUnlock e token s
  | .cartridgeAuth e n => Sys2Proof.Machine.execCartridgeAuth e n s
  | .cartridgeAuthDone e n r => Sys2Proof.Machine.execCartridgeAuthDone e n r s
  | .playbillWrite e failed => Sys2Proof.Machine.execPlaybillWrite e failed s
  | .corruptedFrame e p => Sys2Proof.Machine.execCorruptedFrame e p s
  | .memorySupplyFault e rail => Sys2Proof.Machine.execMemorySupplyFault e rail s
  | .canReceiveError e k code eight => Sys2Proof.Machine.execCanReceiveError e k code eight s
  | .gtInputChange e m high => Sys2Proof.Machine.execGtInputChange e m high s
  | .testHigh e => Sys2Proof.Machine.execTestHigh e s
  | .seatOtherTransaction e => Sys2Proof.Machine.execSeatOtherTransaction e s
  | .chopperIntervalEnd e => Sys2Proof.Machine.execChopperIntervalEnd e s

end Sys2Proof.Machine
end

