-- ==== Sys2Proof/Machine/Balls.lean ====
section
/-!
DEFINITION. The output balls of a lane, as R569 states them for the time from VIN_x reaching 6.8 V until the keeper starts
and for the lane in service: a reading of the state, by which no step goes.
-/

namespace Sys2Proof.Machine

/-- An output that may be left undriven. -/
inductive Level where
  | highZ | low | high
  deriving DecidableEq, Repr

/-- A Virec transmit pair (R392, R569). -/
inductive TxPair where
  | highZ | idle | active
  deriving DecidableEq, Repr

structure Balls where
  /-- the gates that are driven on, by axis in the order of GD_STAT[ON]; every other gate is pulled down -/
  gates : Vector (BitVec 6) 4
  bch : Bool
  /-- ISREF_x and VREFC_x in 0.1 mV -/
  isref : Nat
  vrefc : Nat
  vcen : Bool
  ko : BitVec 4
  /-- MA between frames; the transmit pairs of the two ring ports; PHYRST -/
  ma : Level
  tx : Vector TxPair 2
  phyrst : Level
  atn : Bool
  /-- DDR_RST -/
  ddrRst : Level
  deriving DecidableEq, Repr

/-- The output balls of a lane (R569). -/
def Lane.balls (l : Lane) : Balls where
  gates := if l.logicUp then Vector.ofFn fun n => l.on n else Vector.replicate 4 0
  bch := l.monitorsUp && l.flag R.GD_VMSTAT_BCH
  isref := if l.monitorsUp then 15000 else 0
  vrefc := if l.logicUp then 5 * l.get R.PW_VCSET_TARGET else if l.power.vcen then 4000 else 0
  vcen := l.power.vcen
  ko := if l.logicUp then BitVec.ofNat 4 (l.get R.SF_KOSTAT_ON) else 0
  ma := if l.logicUp then .high else .highZ
  tx := Vector.ofFn fun p => if !l.logicUp then .highZ else if l.portUp p then .active else .idle
  phyrst := if l.logicUp ∧ l.reh.done.testBit 7 then .high else .low
  atn := l.logicUp && l.flag R.HS_PORT_ATN
  ddrRst := if l.power.rails = 7 then .high else .low

end Sys2Proof.Machine
end

