-- ==== Sys2Proof/Safety.lean ====
section
/-!
DEFINITION. What counts as a sound state of the block and as a safe lane, in the terms the statements use.
-/

namespace Sys2Proof.Machine

/-- A lane in its place: its number is its own, and its register space is in canonical form. -/
def Lane.Sound (id : LaneId) (l : Lane) : Prop := l.id = id ∧ RegFile.wf id l.regs = true ∧ RegFile.wfStage l.stage = true

/-- Every lane is in its place. -/
def State.Sound (s : State) : Prop := s.laneA.Sound .A ∧ s.laneB.Sound .B ∧ s.laneC.Sound .C

-- BEGIN Near

/-- The event registers: their flags are set by the block and cleared by writes of 1 alone (R10). -/
def isEvt (a : Nat) : Bool :=
  match a / 0x10000 with
  | 1 => a == R.PW_SUPEVT
  | 2 => a == R.BX_EVT
  | 3 => a == R.TV_EVT
  | 4 => a == R.WG_EVT
  | 5 => a == R.BI_EVT
  | 6 => a == R.DC_EVT 0 || a == R.DC_EVT 1 || a == R.DC_EVT 2 || a == R.DC_EVT 3
  | 7 => a == R.GD_LEVT || a == R.GD_EVT 0 || a == R.GD_EVT 1 || a == R.GD_EVT 2 || a == R.GD_EVT 3
  | 8 => a == R.FB_EVT 0 || a == R.FB_EVT 1 || a == R.FB_EVT 2 || a == R.FB_EVT 3
  | 9 => a == R.LE_LEVT || a == R.LE_EVT 0 || a == R.LE_EVT 1 || a == R.LE_EVT 2 || a == R.LE_EVT 3
  | 10 => a == R.VR_EVT
  | 11 => a == R.TM_EVT
  | 12 => a == R.CN_EVT 0 || a == R.CN_EVT 1
  | 13 => a == R.SG_EVT
  | 14 => a == R.CB_EVT
  | 15 => a == R.SF_EVT
  | 16 => a == R.KP_EVT
  | 17 => a == R.CT_EVT 0 || a == R.CT_EVT 1 || a == R.CT_EVT 2 || a == R.CT_EVT 3
  | 18 => a == R.HS_EVT
  | _ => false

/-- The number of the first register of each block, and after the last. -/
def blockStart (k : Nat) : Nat := [0, 7, 20, 45, 57, 73, 88, 124, 146, 170, 202, 223, 239, 257, 269, 280, 292, 296, 304, 321].getD k 321

/-- The register that an address belongs to, as its place among all rows of the register maps (every instance of an
indexed register has the number of its row); 321 for an address of none. -/
def regNo (a : Nat) : Nat :=
  match (blockRegs a).findIdx? (·.hit a) with
  | some k => blockStart (a / 0x10000) + k
  | none => 321

/-- `y` comes from `x` with changes inside the mask `M` only. -/
structure AxisState.Near (M : Nat) (x y : AxisState) : Prop where
  us : M.testBit 328 = false → y.us = x.us
  queue : M.testBit 329 = false → y.queue = x.queue
  sw : M.testBit 330 = false → y.sw = x.sw
  prot : M.testBit 331 = false → y.prot = x.prot
  refresh : M.testBit 332 = false → y.refresh = x.refresh
  leak : M.testBit 333 = false → y.leak = x.leak
  recatch : M.testBit 334 = false → y.recatch = x.recatch
  lastRecatch : M.testBit 335 = false → y.lastRecatch = x.lastRecatch
  fb : M.testBit 336 = false → y.fb = x.fb

/-- `y` comes from `x` with changes inside the mask `M` only. -/
structure PowerState.Near (M : Nat) (x y : PowerState) : Prop where
  phase : M.testBit 337 = false → y.phase = x.phase
  phaseAt : M.testBit 338 = false → y.phaseAt = x.phaseAt
  vcen : M.testBit 339 = false → y.vcen = x.vcen
  rails : M.testBit 340 = false → y.rails = x.rails
  fails : M.testBit 341 = false → y.fails = x.fails
  ovLatch : M.testBit 342 = false → y.ovLatch = x.ovLatch
  goal : M.testBit 343 = false → y.goal = x.goal
  riseSince : M.testBit 344 = false → y.riseSince = x.riseSince
  risen : M.testBit 345 = false → y.risen = x.risen
  risenAt : M.testBit 346 = false → y.risenAt = x.risenAt
  vpdArmed : M.testBit 347 = false → y.vpdArmed = x.vpdArmed
  logicSince : M.testBit 348 = false → y.logicSince = x.logicSince
  powerSince : M.testBit 349 = false → y.powerSince = x.powerSince
  maxSince : M.testBit 350 = false → y.maxSince = x.maxSince
  lastStep : M.testBit 351 = false → y.lastStep = x.lastStep
  stepFrom : M.testBit 352 = false → y.stepFrom = x.stepFrom
  vgSince : M.testBit 353 = false → y.vgSince = x.vgSince
  testHigh : M.testBit 354 = false → y.testHigh = x.testHigh
  byOv : M.testBit 355 = false → y.byOv = x.byOv
  vinFell : M.testBit 356 = false → y.vinFell = x.vinFell
  lostCause : M.testBit 357 = false → y.lostCause = x.lostCause
  refLost : M.testBit 358 = false → y.refLost = x.refLost
  pllLost : M.testBit 359 = false → y.pllLost = x.pllLost
  memBad : M.testBit 360 = false → y.memBad = x.memBad
  boot18 : M.testBit 361 = false → y.boot18 = x.boot18

/-- `y` comes from `x` with changes inside the mask `M` only. -/
structure LinkState.Near (M : Nat) (x y : LinkState) : Prop where
  ov1 : M.testBit 362 = false → y.ov1 = x.ov1
  ov2 : M.testBit 363 = false → y.ov2 = x.ov2
  ov3 : M.testBit 364 = false → y.ov3 = x.ov3
  ovmax : M.testBit 365 = false → y.ovmax = x.ovmax
  bchOnAt : M.testBit 366 = false → y.bchOnAt = x.bchOnAt
  bchInStage : M.testBit 367 = false → y.bchInStage = x.bchInStage
  bchOffAt : M.testBit 368 = false → y.bchOffAt = x.bchOffAt
  bchHeld : M.testBit 369 = false → y.bchHeld = x.bchHeld
  releaseHeld : M.testBit 370 = false → y.releaseHeld = x.releaseHeld
  chonRest : M.testBit 371 = false → y.chonRest = x.chonRest
  chonMark : M.testBit 372 = false → y.chonMark = x.chonMark

/-- `y` comes from `x` with changes inside the mask `M` only. -/
structure LoopState.Near (M : Nat) (x y : LoopState) : Prop where
  limc : M.testBit 373 = false → y.limc = x.limc
  io : M.testBit 374 = false → y.io = x.io
  iw : M.testBit 375 = false → y.iw = x.iw
  outerRan : M.testBit 376 = false → y.outerRan = x.outerRan
  oscO : M.testBit 377 = false → y.oscO = x.oscO
  oscW : M.testBit 378 = false → y.oscW = x.oscW
  sums : M.testBit 379 = false → y.sums = x.sums
  evaluated : M.testBit 380 = false → y.evaluated = x.evaluated
  startNext : M.testBit 381 = false → y.startNext = x.startNext
  oscFlag : M.testBit 382 = false → y.oscFlag = x.oscFlag
  plausFlag : M.testBit 383 = false → y.plausFlag = x.plausFlag
  softNext : M.testBit 384 = false → y.softNext = x.softNext
  dropped : M.testBit 385 = false → y.dropped = x.dropped
  saved : M.testBit 386 = false → y.saved = x.saved

/-- `y` comes from `x` with changes inside the mask `M` only. -/
structure WingState.Near (M : Nat) (x y : WingState) : Prop where
  links : M.testBit 387 = false → y.links = x.links
  own : M.testBit 388 = false → y.own = x.own
  closed : M.testBit 389 = false → y.closed = x.closed
  got : M.testBit 390 = false → y.got = x.got
  last : M.testBit 391 = false → y.last = x.last
  missed : M.testBit 392 = false → y.missed = x.missed
  maskMiss : M.testBit 393 = false → y.maskMiss = x.maskMiss
  mask : M.testBit 394 = false → y.mask = x.mask
  alone : M.testBit 395 = false → y.alone = x.alone
  aloneLive : M.testBit 396 = false → y.aloneLive = x.aloneLive
  skew : M.testBit 397 = false → y.skew = x.skew
  posOff : M.testBit 398 = false → y.posOff = x.posOff
  beatNo : M.testBit 399 = false → y.beatNo = x.beatNo
  beatAt : M.testBit 400 = false → y.beatAt = x.beatAt
  pending : M.testBit 401 = false → y.pending = x.pending
  agreed : M.testBit 402 = false → y.agreed = x.agreed
  proposed : M.testBit 403 = false → y.proposed = x.proposed
  next : M.testBit 404 = false → y.next = x.next
  modeOff : M.testBit 405 = false → y.modeOff = x.modeOff
  leaseEnd : M.testBit 406 = false → y.leaseEnd = x.leaseEnd
  oldLead : M.testBit 407 = false → y.oldLead = x.oldLead
  tokSeq : M.testBit 408 = false → y.tokSeq = x.tokSeq
  mirrorSeq : M.testBit 409 = false → y.mirrorSeq = x.mirrorSeq
  mirror : M.testBit 410 = false → y.mirror = x.mirror
  mirrorNext : M.testBit 411 = false → y.mirrorNext = x.mirrorNext
  drillNow : M.testBit 412 = false → y.drillNow = x.drillNow
  drilling : M.testBit 413 = false → y.drilling = x.drilling
  drillFails : M.testBit 414 = false → y.drillFails = x.drillFails
  guardFresh : M.testBit 415 = false → y.guardFresh = x.guardFresh
  takeNext : M.testBit 416 = false → y.takeNext = x.takeNext
  giveUp : M.testBit 417 = false → y.giveUp = x.giveUp
  leaving : M.testBit 418 = false → y.leaving = x.leaving
  rejoinWaits : M.testBit 419 = false → y.rejoinWaits = x.rejoinWaits
  resyncAt : M.testBit 420 = false → y.resyncAt = x.resyncAt
  resyncs : M.testBit 421 = false → y.resyncs = x.resyncs
  run : M.testBit 422 = false → y.run = x.run
  gotReply : M.testBit 423 = false → y.gotReply = x.gotReply
  rejoin : M.testBit 424 = false → y.rejoin = x.rejoin
  peerRejoin : M.testBit 425 = false → y.peerRejoin = x.peerRejoin
  struck : M.testBit 426 = false → y.struck = x.struck
  digestSent : M.testBit 427 = false → y.digestSent = x.digestSent
  digestAt : M.testBit 428 = false → y.digestAt = x.digestAt
  digests : M.testBit 429 = false → y.digests = x.digests
  waitOver : M.testBit 430 = false → y.waitOver = x.waitOver
  firstHold : M.testBit 431 = false → y.firstHold = x.firstHold
  serialBad : M.testBit 432 = false → y.serialBad = x.serialBad
  booksDiffer : M.testBit 433 = false → y.booksDiffer = x.booksDiffer
  figures : M.testBit 434 = false → y.figures = x.figures
  reverify : M.testBit 435 = false → y.reverify = x.reverify
  nax : M.testBit 436 = false → y.nax = x.nax
  shopLoss : M.testBit 437 = false → y.shopLoss = x.shopLoss
  values : M.testBit 438 = false → y.values = x.values
  prior : M.testBit 439 = false → y.prior = x.prior

/-- `y` comes from `x` with changes inside the mask `M` only. -/
structure SeatState.Near (M : Nat) (x y : SeatState) : Prop where
  buffered : M.testBit 440 = false → y.buffered = x.buffered
  replies : M.testBit 441 = false → y.replies = x.replies
  ringReplies : M.testBit 442 = false → y.ringReplies = x.ringReplies
  canOut : M.testBit 443 = false → y.canOut = x.canOut
  canNum : M.testBit 444 = false → y.canNum = x.canNum
  transfers : M.testBit 445 = false → y.transfers = x.transfers
  stored : M.testBit 446 = false → y.stored = x.stored
  seen : M.testBit 447 = false → y.seen = x.seen
  requests : M.testBit 448 = false → y.requests = x.requests
  reserved : M.testBit 449 = false → y.reserved = x.reserved
  cancelled : M.testBit 450 = false → y.cancelled = x.cancelled
  grantNext : M.testBit 451 = false → y.grantNext = x.grantNext
  endNext : M.testBit 452 = false → y.endNext = x.endNext
  gap : M.testBit 453 = false → y.gap = x.gap
  endedAt : M.testBit 454 = false → y.endedAt = x.endedAt
  stopNext : M.testBit 455 = false → y.stopNext = x.stopNext
  modeReqs : M.testBit 456 = false → y.modeReqs = x.modeReqs
  sessionHigh : M.testBit 457 = false → y.sessionHigh = x.sessionHigh
  sequenced : M.testBit 458 = false → y.sequenced = x.sequenced

/-- `y` comes from `x` with changes inside the mask `M` only. -/
structure CallState.Near (M : Nat) (x y : CallState) : Prop where
  active : M.testBit 459 = false → y.active = x.active
  sampled : M.testBit 460 = false → y.sampled = x.sampled
  events : M.testBit 461 = false → y.events = x.events
  writes : M.testBit 462 = false → y.writes = x.writes
  bookState : M.testBit 463 = false → y.bookState = x.bookState

/-- `y` comes from `x` with changes inside the mask `M` only. -/
structure SafetyState.Near (M : Nat) (x y : SafetyState) : Prop where
  discSince : M.testBit 464 = false → y.discSince = x.discSince
  shown : M.testBit 465 = false → y.shown = x.shown
  differ : M.testBit 466 = false → y.differ = x.differ
  resetNow : M.testBit 467 = false → y.resetNow = x.resetNow
  resets : M.testBit 468 = false → y.resets = x.resets
  resetAgreed : M.testBit 469 = false → y.resetAgreed = x.resetAgreed
  agreedAt : M.testBit 470 = false → y.agreedAt = x.agreedAt
  koAt : M.testBit 471 = false → y.koAt = x.koAt
  stopActing : M.testBit 472 = false → y.stopActing = x.stopActing

/-- `y` comes from `x` with changes inside the mask `M` only. -/
structure ModeState.Near (M : Nat) (x y : ModeState) : Prop where
  cycle : M.testBit 473 = false → y.cycle = x.cycle
  stop : M.testBit 474 = false → y.stop = x.stop
  slowSince : M.testBit 475 = false → y.slowSince = x.slowSince
  latched : M.testBit 476 = false → y.latched = x.latched
  faults : M.testBit 477 = false → y.faults = x.faults
  enableFirst : M.testBit 478 = false → y.enableFirst = x.enableFirst
  enableWait : M.testBit 479 = false → y.enableWait = x.enableWait
  fwRestart : M.testBit 480 = false → y.fwRestart = x.fwRestart
  leftBoot : M.testBit 481 = false → y.leftBoot = x.leftBoot
  holdGone : M.testBit 482 = false → y.holdGone = x.holdGone

/-- `y` comes from `x` with changes inside the mask `M` only. -/
structure TrustState.Near (M : Nat) (x y : TrustState) : Prop where
  flash : M.testBit 483 = false → y.flash = x.flash
  fuses : M.testBit 484 = false → y.fuses = x.fuses
  load : M.testBit 485 = false → y.load = x.load
  checking : M.testBit 486 = false → y.checking = x.checking
  book : M.testBit 487 = false → y.book = x.book
  slot : M.testBit 488 = false → y.slot = x.slot
  nextBook : M.testBit 489 = false → y.nextBook = x.nextBook
  awaiting : M.testBit 490 = false → y.awaiting = x.awaiting
  state : M.testBit 491 = false → y.state = x.state
  code : M.testBit 492 = false → y.code = x.code
  section_ : M.testBit 493 = false → y.section_ = x.section_
  offset : M.testBit 494 = false → y.offset = x.offset
  fw : M.testBit 495 = false → y.fw = x.fw
  fwTried : M.testBit 496 = false → y.fwTried = x.fwTried
  romResponder : M.testBit 497 = false → y.romResponder = x.romResponder
  challenge : M.testBit 498 = false → y.challenge = x.challenge
  debugOpen : M.testBit 499 = false → y.debugOpen = x.debugOpen
  playAt : M.testBit 500 = false → y.playAt = x.playAt
  confirm : M.testBit 501 = false → y.confirm = x.confirm
  carts : M.testBit 502 = false → y.carts = x.carts

/-- `y` comes from `x` with changes inside the mask `M` only. -/
structure RehState.Near (M : Nat) (x y : RehState) : Prop where
  done : M.testBit 503 = false → y.done = x.done
  failed : M.testBit 504 = false → y.failed = x.failed
  since : M.testBit 505 = false → y.since = x.since
  peak : M.testBit 506 = false → y.peak = x.peak
  bankMap : M.testBit 507 = false → y.bankMap = x.bankMap
  spareBank : M.testBit 508 = false → y.spareBank = x.spareBank
  bankTurn : M.testBit 509 = false → y.bankTurn = x.bankTurn
  cmpTurn : M.testBit 510 = false → y.cmpTurn = x.cmpTurn
  bank : M.testBit 511 = false → y.bank = x.bank
  cmp : M.testBit 512 = false → y.cmp = x.cmp
  twin : M.testBit 513 = false → y.twin = x.twin
  nextTwin : M.testBit 514 = false → y.nextTwin = x.nextTwin
  nextSwitch : M.testBit 515 = false → y.nextSwitch = x.nextSwitch
  swept : M.testBit 516 = false → y.swept = x.swept
  sweepAsked : M.testBit 517 = false → y.sweepAsked = x.sweepAsked
  spares : M.testBit 518 = false → y.spares = x.spares
  corrected : M.testBit 519 = false → y.corrected = x.corrected
  toRepair : M.testBit 520 = false → y.toRepair = x.toRepair
  burstBad : M.testBit 521 = false → y.burstBad = x.burstBad
  proofStopped : M.testBit 522 = false → y.proofStopped = x.proofStopped
  margins : M.testBit 523 = false → y.margins = x.margins
  figured : M.testBit 524 = false → y.figured = x.figured
  memReady : M.testBit 525 = false → y.memReady = x.memReady
  refBad : M.testBit 526 = false → y.refBad = x.refBad
  cmpFailed : M.testBit 527 = false → y.cmpFailed = x.cmpFailed

/-- `y` comes from `x` with changes inside the mask `M` only. -/
structure TrioState.Near (M : Nat) (x y : TrioState) : Prop where
  slots : M.testBit 528 = false → y.slots = x.slots
  number : M.testBit 529 = false → y.number = x.number
  cores : M.testBit 530 = false → y.cores = x.cores
  file : M.testBit 531 = false → y.file = x.file
  waiting : M.testBit 532 = false → y.waiting = x.waiting
  presented : M.testBit 533 = false → y.presented = x.presented
  resyncAt : M.testBit 534 = false → y.resyncAt = x.resyncAt
  done : M.testBit 535 = false → y.done = x.done
  lateOf : M.testBit 536 = false → y.lateOf = x.lateOf
  exNow : M.testBit 537 = false → y.exNow = x.exNow
  exDeferred : M.testBit 538 = false → y.exDeferred = x.exDeferred
  exercise : M.testBit 539 = false → y.exercise = x.exercise
  exercisedAt : M.testBit 540 = false → y.exercisedAt = x.exercisedAt
  injectedAt : M.testBit 541 = false → y.injectedAt = x.injectedAt
  spreadSince : M.testBit 542 = false → y.spreadSince = x.spreadSince

/-- `y` comes from `x` with changes inside the mask `M` only. -/
structure BoxState.Near (M : Nat) (x y : BoxState) : Prop where
  queued : M.testBit 543 = false → y.queued = x.queued
  running : M.testBit 544 = false → y.running = x.running
  commits : M.testBit 545 = false → y.commits = x.commits
  nextId : M.testBit 546 = false → y.nextId = x.nextId
  point : M.testBit 547 = false → y.point = x.point
  tw : M.testBit 548 = false → y.tw = x.tw
  br : M.testBit 549 = false → y.br = x.br
  bk : M.testBit 550 = false → y.bk = x.bk
  regenRefused : M.testBit 551 = false → y.regenRefused = x.regenRefused
  chonLast : M.testBit 552 = false → y.chonLast = x.chonLast
  vmSum : M.testBit 553 = false → y.vmSum = x.vmSum
  vmCount : M.testBit 554 = false → y.vmCount = x.vmCount
  drops : M.testBit 555 = false → y.drops = x.drops
  agreeDrop : M.testBit 556 = false → y.agreeDrop = x.agreeDrop
  zeroRefs : M.testBit 557 = false → y.zeroRefs = x.zeroRefs
  dieLD : M.testBit 558 = false → y.dieLD = x.dieLD
  diePD : M.testBit 559 = false → y.diePD = x.diePD
  supSince : M.testBit 560 = false → y.supSince = x.supSince
  overdue : M.testBit 561 = false → y.overdue = x.overdue

/-- `y` comes from `x` with changes inside the mask `M` only. -/
structure RingState.Near (M : Nat) (x y : RingState) : Prop where
  ports : M.testBit 562 = false → y.ports = x.ports
  num : M.testBit 563 = false → y.num = x.num
  accepted : M.testBit 564 = false → y.accepted = x.accepted
  met : M.testBit 565 = false → y.met = x.met
  empty : M.testBit 566 = false → y.empty = x.empty
  sent : M.testBit 567 = false → y.sent = x.sent
  emptyRun : M.testBit 568 = false → y.emptyRun = x.emptyRun
  controls : M.testBit 569 = false → y.controls = x.controls
  heardPrev : M.testBit 570 = false → y.heardPrev = x.heardPrev
  cueAt : M.testBit 571 = false → y.cueAt = x.cueAt
  queue : M.testBit 572 = false → y.queue = x.queue
  fill : M.testBit 573 = false → y.fill = x.fill
  fillPrev : M.testBit 574 = false → y.fillPrev = x.fillPrev
  snapshot : M.testBit 575 = false → y.snapshot = x.snapshot
  sealSeq : M.testBit 576 = false → y.sealSeq = x.sealSeq
  syncSeq : M.testBit 577 = false → y.syncSeq = x.syncSeq
  drift : M.testBit 578 = false → y.drift = x.drift
  calm : M.testBit 579 = false → y.calm = x.calm
  settled : M.testBit 580 = false → y.settled = x.settled
  consistent : M.testBit 581 = false → y.consistent = x.consistent
  lastDrift : M.testBit 582 = false → y.lastDrift = x.lastDrift
  lastSheet : M.testBit 583 = false → y.lastSheet = x.lastSheet
  quiet : M.testBit 584 = false → y.quiet = x.quiet
  backoff : M.testBit 585 = false → y.backoff = x.backoff
  quietSince : M.testBit 586 = false → y.quietSince = x.quietSince
  cold : M.testBit 587 = false → y.cold = x.cold
  returned : M.testBit 588 = false → y.returned = x.returned
  ownStart : M.testBit 589 = false → y.ownStart = x.ownStart
  adoptedIn : M.testBit 590 = false → y.adoptedIn = x.adoptedIn
  duplicate : M.testBit 591 = false → y.duplicate = x.duplicate
  change : M.testBit 592 = false → y.change = x.change
  cancelled : M.testBit 593 = false → y.cancelled = x.cancelled
  announce : M.testBit 594 = false → y.announce = x.announce
  adopting : M.testBit 595 = false → y.adopting = x.adopting
  breaks : M.testBit 596 = false → y.breaks = x.breaks
  restores : M.testBit 597 = false → y.restores = x.restores
  healShown : M.testBit 598 = false → y.healShown = x.healShown

/-- `y` comes from `x` with changes inside the mask `M` only. -/
structure TimeState.Near (M : Nat) (x y : TimeState) : Prop where
  step : M.testBit 599 = false → y.step = x.step
  held : M.testBit 600 = false → y.held = x.held
  kept : M.testBit 601 = false → y.kept = x.kept
  setFrom : M.testBit 602 = false → y.setFrom = x.setFrom
  lockRun : M.testBit 603 = false → y.lockRun = x.lockRun
  unlockRun : M.testBit 604 = false → y.unlockRun = x.unlockRun
  lost : M.testBit 605 = false → y.lost = x.lost
  gotSync : M.testBit 606 = false → y.gotSync = x.gotSync
  known : M.testBit 607 = false → y.known = x.known

/-- `y` comes from `x` with changes inside the mask `M` only. -/
structure CanState.Near (M : Nat) (x y : CanState) : Prop where
  slot : M.testBit 608 = false → y.slot = x.slot
  fired : M.testBit 609 = false → y.fired = x.fired
  firedIn : M.testBit 610 = false → y.firedIn = x.firedIn
  claimed : M.testBit 611 = false → y.claimed = x.claimed
  offSince : M.testBit 612 = false → y.offSince = x.offSince
  got : M.testBit 613 = false → y.got = x.got

/-- `y` comes from `x` with changes inside the mask `M` only. -/
structure DictState.Near (M : Nat) (x y : DictState) : Prop where
  entries : M.testBit 614 = false → y.entries = x.entries
  lostNow : M.testBit 615 = false → y.lostNow = x.lostNow

/-- `l` comes from `l0` with changes inside the mask `M` only, and its spaces of words are in canonical form. The bits of
a mask are the registers by `regNo` (every instance of one), 321 for addresses of no register, 322 for the clearing of an
event flag, and then the hidden parts of the lane. The lane's number and the raw count never change; the record of the
event bits of the present moment is in no mask. -/
structure Lane.Near (M : Nat) (l0 l : Lane) : Prop where
  id : l.id = l0.id
  now : l.now = l0.now
  regsWf : RegFile.wf l.id l.regs = true
  stageWf : RegFile.wfStage l.stage = true
  word : ∀ a, M.testBit (regNo a) = false → l.word a = l0.word a
  evt : M.testBit 322 = false → ∀ a, isEvt a = true → ∀ j, (l0.word a).getLsbD j = true → (l.word a).getLsbD j = true
  log : M.testBit 323 = false → l.log = l0.log ∧ l.logNext = l0.logNext
  emit : M.testBit 324 = false → l.emit = l0.emit
  ltime : M.testBit 325 = false → l.ltime = l0.ltime
  fresh : M.testBit 326 = false → l.fresh = l0.fresh
  stage : M.testBit 327 = false → l.stage = l0.stage
  axes : ∀ n : Axis, AxisState.Near M l0.axes[n] l.axes[n]
  power : PowerState.Near M l0.power l.power
  link : LinkState.Near M l0.link l.link
  loops : ∀ n : Axis, LoopState.Near M l0.loops[n] l.loops[n]
  wing : WingState.Near M l0.wing l.wing
  seats : SeatState.Near M l0.seats l.seats
  call : CallState.Near M l0.call l.call
  safety : SafetyState.Near M l0.safety l.safety
  mode_ : ModeState.Near M l0.mode_ l.mode_
  trust : TrustState.Near M l0.trust l.trust
  reh : RehState.Near M l0.reh l.reh
  trio : TrioState.Near M l0.trio l.trio
  box : BoxState.Near M l0.box l.box
  ring : RingState.Near M l0.ring l.ring
  tm : TimeState.Near M l0.tm l.tm
  can : ∀ n : Can, CanState.Near M l0.can[n] l.can[n]
  dict : DictState.Near M l0.dict l.dict

/-- What a command may change, as statements name it. -/
inductive Part where
  /-- every instance of the register that holds the address -/
  | reg (a : Nat)
  /-- every register of a block, by its number (R36) -/
  | block (k : Nat)
  /-- event flags may clear -/
  | clears
  /-- addresses of no register -/
  | unassigned
  | log
  | emit
  | ltime
  | fresh
  | stage
  | axes
  | power
  | link
  | loops
  | wing
  | seats
  | call
  | safety
  | modeState
  | trust
  | reh
  | trio
  | box
  | ring
  | tm
  | can
  | dict
  | axUs
  | axQueue
  | axSw
  | axProt
  | axRefresh
  | axLeak
  | axRecatch
  | axLastRecatch
  | axFb
  deriving DecidableEq, Repr

/-- The bits of a part. -/
def Part.mask : Part → Nat
  | .reg a => 2 ^ regNo a
  | .block k => 2 ^ blockStart (k + 1) - 2 ^ blockStart k
  | .unassigned => 2 ^ 321
  | .clears => 2 ^ 322
  | .log => 2 ^ 323
  | .emit => 2 ^ 324
  | .ltime => 2 ^ 325
  | .fresh => 2 ^ 326
  | .stage => 2 ^ 327
  | .axes => 2 ^ 337 - 2 ^ 328
  | .power => 2 ^ 362 - 2 ^ 337
  | .link => 2 ^ 373 - 2 ^ 362
  | .loops => 2 ^ 387 - 2 ^ 373
  | .wing => 2 ^ 440 - 2 ^ 387
  | .seats => 2 ^ 459 - 2 ^ 440
  | .call => 2 ^ 464 - 2 ^ 459
  | .safety => 2 ^ 473 - 2 ^ 464
  | .modeState => 2 ^ 483 - 2 ^ 473
  | .trust => 2 ^ 503 - 2 ^ 483
  | .reh => 2 ^ 528 - 2 ^ 503
  | .trio => 2 ^ 543 - 2 ^ 528
  | .box => 2 ^ 562 - 2 ^ 543
  | .ring => 2 ^ 599 - 2 ^ 562
  | .tm => 2 ^ 608 - 2 ^ 599
  | .can => 2 ^ 614 - 2 ^ 608
  | .dict => 2 ^ 616 - 2 ^ 614
  | .axUs => 2 ^ 328
  | .axQueue => 2 ^ 329
  | .axSw => 2 ^ 330
  | .axProt => 2 ^ 331
  | .axRefresh => 2 ^ 332
  | .axLeak => 2 ^ 333
  | .axRecatch => 2 ^ 334
  | .axLastRecatch => 2 ^ 335
  | .axFb => 2 ^ 336

/-- The bits of several parts. -/
def maskOf (ps : List Part) : Nat := ps.foldl (fun m p => m ||| p.mask) 0

/-! ### What a command does, as statements say it -/

/-- The lane of a command just before its effect: at the command's moment, its outputs empty. -/
def State.before (s : State) (c : Instr) : Lane := (s.lane c.at.lane).advanceTo c.at.t

/-- The state is sound and the logic die of the command's lane runs. -/
def State.Runs (s : State) (e : At) : Prop := s.Sound ∧ (s.lane e.lane).logicUp = true

/-- The state is sound and the power die of the command's lane is powered. -/
def State.Powered (s : State) (e : At) : Prop := s.Sound ∧ (s.lane e.lane).monitorsUp = true

/-- The command completes: it answers a next state; the queue and the other lanes are as they were; its own lane changed
only in the parts `ps`, with the canonical forms kept; and `P` holds of that lane before and after. -/
def Does (c : Instr) (s : State) (ps : List Part) (P : Lane → Lane → Prop) : Prop :=
  ∃ t, exec c s = .next t ∧ t.pending = s.pending ∧ (∀ i, i ≠ c.at.lane → t.lane i = s.lane i) ∧
    Lane.Near (maskOf ps) (s.before c) (t.lane c.at.lane) ∧ P (s.before c) (t.lane c.at.lane)

/-- What a beat may change, and what may change with the execution of received commands. -/
def beatParts : List Part :=
  [.block 0, .block 1, .block 2, .block 3, .block 4, .block 5, .block 6, .block 7, .block 8, .block 9, .block 10,
   .block 11, .block 12, .block 13, .block 14, .block 15, .block 16, .block 17, .block 18, .clears, .log, .emit,
   .fresh, .axUs, .axSw, .axRefresh, .axLeak, .axRecatch, .axFb, .power, .link, .loops, .wing, .seats, .call,
   .safety, .modeState, .trust, .reh, .trio, .box, .ring, .tm, .dict]

/-- What may change when a lane goes OUT. -/
def laneOutParts : List Part :=
  [.reg R.LC_STATE, .reg R.WG_STAT, .reg R.WG_EVT, .reg R.WG_CMD, .reg R.WG_RESYNC, .reg R.BI_EVT, .reg (R.DC_STAT
   0), .reg (R.DC_TEST 0), .reg (R.DC_PSI 0), .reg (R.DC_ANGLE 0), .reg (R.DC_LASTX 0), .reg (R.GD_STAT 0), .reg
   (R.GD_EVT 0), .reg (R.CN_BCTL 0 0), .reg (R.CN_BDAT 0 0 0), .reg R.CB_STAT, .reg R.SF_KOSTAT, .reg R.HS_EVT,
   .reg R.HS_PORT, .reg R.HS_CNT1, .reg R.HS_CNT2, .reg R.HS_CNT3, .reg (R.HS_SLAST 0), .emit, .axUs, .axSw,
   .axRefresh, .axLeak, .axRecatch, .wing, .seats, .safety, .modeState, .reh]

/-- What may change when a winding set goes out of service, which may take the lane to GHOST LIGHT. -/
def setOutParts : List Part :=
  [.reg R.LC_STATE, .reg R.BX_PCAP, .reg R.WG_STAT, .reg R.WG_EVT, .reg R.WG_LEAD, .reg R.BI_STAT, .reg R.BI_EVT,
   .block 6, .reg (R.GD_STAT 0), .reg (R.GD_EVT 0), .reg (R.LE_STAT 0), .reg (R.LE_PREF_LO 0), .reg
   (R.LE_PREF_HI 0), .reg (R.LE_WREF 0), .reg (R.LE_INT 0), .reg (R.CN_BCTL 0 0), .reg (R.CN_BDAT 0 0 0), .reg
   R.CB_STAT, .reg (R.CB_ACT 0), .reg R.SF_KOSTAT, .block 18, .emit, .axUs, .axSw, .axRefresh, .axLeak,
   .axRecatch, .power, .loops, .wing, .seats, .call, .safety, .modeState, .reh]

/-- What the answer to an opcode may change. -/
def replyParts : List Part :=
  [.reg (R.CN_BCTL 0 0), .reg (R.CN_BDAT 0 0 0), .reg R.HS_EVT, .reg R.HS_PORT, .reg R.HS_CNT1, .reg R.HS_CNT2,
   .reg R.HS_CNT3, .reg (R.HS_SLAST 0), .seats, .modeState]

/-- What a table lookup leaves of the request of axis `n` (R85 to R92): a running dwell puts it off; an entry that is not
valid releases every switch; a state that breaks a rate limit is held back; any other becomes the request. -/
def Looked (l m : Lane) (n : Axis) : Prop :=
  let w := (l.ax n).sw.want
  if l.now < (l.ax n).sw.dwellEnd ∧ (l.ax n).sw.lastMask = l.unav n then (m.ax n).sw.want = w
  else
    match (l.putFlag (R.DC_STAT_REVHOLD n) (l.revHold n)).lookupVec n with
    | none => (m.ax n).sw.want = 0 ∧ m.flag (R.DC_EVT_TBLPAR n) = true
    | some v =>
      if vecSwitches v ≠ w ∧ l.rateBreaks n (vecSwitches v) then (m.ax n).sw.want = w ∧ m.flag (R.DC_STAT_RATEHOLD n) = true
      else (m.ax n).sw.want = vecSwitches v

/-- A reply to the packet of header `h` (R471). -/
def IsReply (l : Lane) (h : Hdr) (st : Status) (payload : List Byte) (r : Reply) : Prop :=
  r.lane = l.id ∧ r.seat = h.seat ∧ r.cls = st.cls ∧ r.detail = st.detail ∧ r.seq = h.seq ∧ r.opcode = h.opcode ∧
  r.session = h.session ∧ r.payload = payload ∧ r.tagged = decide (0 < h.cls)

/-- How lane `l` answers a packet in becoming `m` (R467, R468, R477): a reply joins the queue of the port or of the lane's
cue; a full port queue discards it; NOREPLY suppresses OK, and no reply crosses a wing link. -/
def Answered (l m : Lane) (h : Hdr) (path : Option Path) (st : Status) (payload : List Byte) : Prop :=
  ((path = none ∨ path = some .wing ∨ h.noReply = true ∧ st.cls = 0) →
    m.seats.replies = l.seats.replies ∧ m.seats.ringReplies = l.seats.ringReplies) ∧
  ((h.noReply = false ∨ st.cls ≠ 0) → ∃ r, IsReply l h st payload r ∧
    (path = some .port → l.seats.replies.length < 8 → m.seats.replies = l.seats.replies ++ [r]) ∧
    (path = some .port → 8 ≤ l.seats.replies.length → m.seats.replies = l.seats.replies ∧ m.flag R.HS_EVT_OVF = true) ∧
    (∀ n, path = some (.ring n) → m.seats.ringReplies = l.seats.ringReplies ++ [r]))

/-- The packet names this lane (R470). -/
abbrev Lane.named (l : Lane) (h : Hdr) : Prop := h.mask.getLsbD (laneNum l.id) = true

/-- The lane runs its firmware, has not gone OUT and is not in GHOST LIGHT: no opcode is refused for these (R479, R558). -/
abbrev Lane.inPlay (l : Lane) : Prop := l.trust.romResponder = false ∧ l.goneOut = false ∧ l.mode ≠ .ghost

/-- The lane executes an opcode: the packet names it and no check of state or spotlight refuses (R477, R480). -/
abbrev Lane.allows (l : Lane) (h : Hdr) (op : Op) : Prop := l.named h ∧ l.opRefused h op = none

/-- What a lane does with an opcode that it does not execute: a local one it ignores where it is not named, an agreed one it
answers OK 0x03 (R477); what it refuses it answers, a state-change opcode at the next cycle start (R554). -/
def TurnedAway (l m : Lane) (h : Hdr) (path : Option Path) (op : Op) : Prop :=
  (¬l.named h → if opLocal op then m = l else Answered l m h path ⟨0, 3⟩ []) ∧
  (∀ st, l.named h → l.opRefused h op = some st →
    if opAtCycle op ∧ l.fromHold then
      m.seats.modeReqs = l.seats.modeReqs ++ [⟨0, some (st.cls, st.detail), h, path⟩] ∧ m.seats.replies = l.seats.replies
    else Answered l m h path st [])

/-- The die whose supplies a command needs (R57, R58, R60). -/
inductive Die where
  /-- the logic die: nothing happens to it while it is unpowered or in reset -/
  | logic
  /-- the power die -/
  | power
  /-- the supply itself comes or goes: no supply is needed -/
  | either
  deriving DecidableEq, Repr

/-- The die that takes a command. -/
def dieOf : Instr → Die
  | .rateHoldRelease .. | .prechargeEnd .. | .peakTrip .. | .vdsTrip .. | .ceilingTrip .. | .ginChange ..
  | .deadTimeEnd .. | .gateOffFailure .. | .vgLockout .. | .vgLockoutPersist .. | .vgRecover ..
  | .bootstrapLockout .. | .bootstrapRecover .. | .refreshTimerRestart .. | .refreshPending ..
  | .refreshInsert .. | .refreshLate .. | .leakCheckStart .. | .leakCheckEnd .. | .ov1Enter .. | .ov1Release ..
  | .ov2Enter .. | .ov2Release .. | .ov3Enter .. | .ov3Release .. | .ovmax .. | .chopperFault ..
  | .stuckChopper .. | .chopperMinOnEnd .. | .coreOvervoltage .. | .pllLock .. | .supplyWindowMiss ..
  | .supplyRetry .. | .logicRelease .. | .vinUndervoltage .. | .shutdownSequenceEnd .. | .tamper ..
  | .testHigh .. | .chopperIntervalEnd .. => .power
  | .powerUp .. => .either
  | .beatStart .. | .peerSummary .. | .receiveDeadline .. | .loopDeadlineDrop .. | .ladderCrossing ..
  | .understudyUpdate .. | .droppedUpdate .. | .copyDisagreement .. | .tableParity .. | .dwellEnd ..
  | .ascEnd .. | .decayDone .. | .recatchFail .. | .substituteTimeout .. | .axisEnable .. | .axisDisable ..
  | .tier1Decision .. | .leakCheckRequest .. | .faultClear .. | .countEdge .. | .indexPulse ..
  | .serialFrameSend .. | .serialFrame .. | .reneg .. | .hallTransition .. | .hallInvalid .. | .prbarm ..
  | .probeEdge .. | .stall .. | .lineFault .. | .lineGood .. | .lockstepMismatch .. | .lockstepInjection ..
  | .voteCopy .. | .laggardWindowClose .. | .loneCopyTimeout .. | .resyncComplete .. | .resyncTimeout ..
  | .spreadHigh .. | .spreadPersist .. | .exercise .. | .exnow .. | .wingHello .. | .frameResend ..
  | .linkSilence .. | .commandSegment .. | .commandExpiry .. | .mirror .. | .token .. | .leadLeaseExpiry ..
  | .tokenGuardEnd .. | .handoverDrill .. | .handover .. | .drillnow .. | .retrain .. | .outFrame ..
  | .rejoin .. | .resyncLaneTimeout .. | .digest .. | .digestWaitEnd .. | .promptBookReverify ..
  | .curtainEntry .. | .ticketRequest .. | .ticketedWorkEnd .. | .ticketStarved .. | .commitmentRelease ..
  | .supLedgerClose .. | .gaugeRead .. | .deficitPersist .. | .vcoreStep .. | .vcoreRiseDone ..
  | .vcoreRiseTimeout .. | .coreUndervoltage .. | .lateCrossing .. | .referenceLoss .. | .pllUnlock ..
  | .vinReserve .. | .temperatureWarning .. | .temperatureTrip .. | .memoryInitDone .. | .firmwareVerified ..
  | .rehearsalStepDone .. | .scriptCheck .. | .scriptCheckDone .. | .memoryRotation .. | .bankSwap ..
  | .marchDone .. | .eccCorrected .. | .comparatorRotation .. | .twinSweep .. | .linkMarginScan .. | .rerun ..
  | .phyLink .. | .virecHelloSend .. | .virecHello .. | .rateTimeout .. | .cueInstant .. | .cueSend ..
  | .cueFrame .. | .cueWindowEnd .. | .portBreak .. | .coldStart .. | .startFrame .. | .shann .. | .reint ..
  | .step .. | .stepApply .. | .incr .. | .syncLoss .. | .timeLatch .. | .canFrameReceived .. | .canSlot ..
  | .canSlotEnd .. | .busOffDelay .. | .recover .. | .recoveryDone .. | .freshAck .. | .addressClaim ..
  | .windowLatch .. | .commit .. | .seatWrite .. | .seatRead .. | .seatStatus .. | .canSegment ..
  | .canTransferTimeout .. | .sessionOpen .. | .sessionClose .. | .ping .. | .readReg .. | .writeReg ..
  | .spotRequest .. | .spotRenew .. | .spotRelease .. | .spotQuery .. | .spotLeaseExpiry .. | .frozenTimeout ..
  | .arm .. | .perform .. | .setpoint .. | .disarm .. | .stop .. | .workshopEnter .. | .workshopLeave ..
  | .pbStatus .. | .pbLoadBegin .. | .pbLoadData .. | .pbLoadEnd .. | .pbActivate .. | .pbAbort ..
  | .rehReport .. | .rehRerun .. | .rehTask .. | .logInfo .. | .logRead .. | .logMark .. | .timeRead ..
  | .timeEcho .. | .idInfo .. | .idCert .. | .attest .. | .fwStatus .. | .fwLoadBegin .. | .fwLoadData ..
  | .fwLoadEnd .. | .fwRestart .. | .fwCommit .. | .confirmCheck .. | .cartAccept .. | .lifeAck ..
  | .safetyStatus .. | .claim .. | .completion .. | .safetyInputChange .. | .discrepancyFault ..
  | .gtSeenOpen .. | .resetButton .. | .resetStuck .. | .resetSingle .. | .koCommand .. | .contactorCheck ..
  | .contactorFault .. | .koOvercurrent .. | .koShort .. | .debugChallenge .. | .debugUnlock ..
  | .cartridgeAuth .. | .cartridgeAuthDone .. | .playbillWrite .. | .corruptedFrame .. | .memorySupplyFault ..
  | .canReceiveError .. | .gtInputChange .. | .seatOtherTransaction .. => .logic

/-- The order in which three proposed module states that differ are agreed, the first first (R271). -/
def stateOrder : List Mode := [.ghost, .curtain, .degraded, .hold, .workshop, .armed, .performing]

end Sys2Proof.Machine
end

