-- ==== Sys2Proof/Certificates/Slice0/Obligations.lean ====
section
/-!
DEFINITION. The statements for the provers. Each states what commands do in every sound state (`State.Sound`, kept
by every step: `StepKeepsSound`) in which the die that takes them is up. `Does` says of one command that it answers
a next state, that the queue and the other lanes are as before, that its own lane changed in the listed parts alone,
and that the clause after `fun l m` holds of the lane just before (`l`) and after (`m`) it. A command whose time has
not come, or to which the lane's state does not answer, changes nothing: that reading (`m = l`) is the model's (log
entry 9), and no rule of the spec.
-/

set_option linter.unusedVariables false

open Sys2Proof
open Sys2Proof.Machine

/-- A step with a command at the front of the queue is that command's effect on the state with the queue's rest. -/
def Obligations.StepRunsFrontCommand : Prop :=
  ∀ (c : Instr) (rest : List Instr) (s : State),
    step { s with pending := c :: rest } = exec c { s with pending := rest }

/-- With no command waiting the block idles. This is the model's choice (log entry 1). -/
def Obligations.EmptyQueueIdles : Prop :=
  ∀ s : State, s.pending = [] → step s = .next s

/-- The lanes after reset (R14): the hidden state rests as log entry 8 chooses. -/
def Obligations.ResetLane : Prop :=
  State.reset.pending = [] ∧ ∀ i : LaneId,
    (State.reset.lane i).id = i ∧ (∀ a, (State.reset.lane i).word a = resetWord i a) ∧
    (State.reset.lane i).mode = .boot ∧ (State.reset.lane i).lstate = .out ∧ ∀ n : Axis, (State.reset.lane i).on n = 0

/-- The state after reset is sound. -/
def Obligations.ResetSound : Prop :=
  State.reset.Sound

/-- Every step keeps the state sound, whichever command it runs. -/
def Obligations.StepKeepsSound : Prop :=
  ∀ s t : State, s.Sound → step s = .next t → t.Sound

/-- Every command completes and changes its own lane alone. -/
def Obligations.CommandsCompleteInTheirLane : Prop :=
  ∀ (c : Instr) (s : State), ∃ t, exec c s = .next t ∧ t.pending = s.pending ∧ ∀ i, i ≠ c.at.lane → t.lane i = s.lane i

/-- A die that is not up ignores its events (R57, R58, R60). -/
def Obligations.UnpoweredDieIgnores : Prop :=
  (∀ (c : Instr) (s : State), dieOf c = .logic → (s.lane c.at.lane).logicUp = false → exec c s = .next s) ∧
  (∀ (c : Instr) (s : State), dieOf c = .power → (s.lane c.at.lane).monitorsUp = false → exec c s = .next s)

/-- The rules of the agreement classes (R261, R206). -/
def Obligations.AgreementClasses : Prop :=
  (∀ a b c z : Int, a ≤ b → b ≤ c → ∀ v : List Int, v.Perm [a, b, c] →
    agreeTorque v = b ∧ agreeLimit v = b ∧ agreeHigh v = b ∧ agreeSpeed v = b ∧ agreePose z v = b ∧
      agreeIntegrator v = some b) ∧
  (∀ a b : Int, (0 < a → 0 < b → agreeTorque [a, b] = min a b) ∧ (a < 0 → b < 0 → agreeTorque [a, b] = max a b) ∧
    (a * b ≤ 0 → agreeTorque [a, b] = 0) ∧ agreeLimit [a, b] = min a b ∧ agreeHigh [a, b] = max a b) ∧
  (∀ a b : Int, (a.natAbs < b.natAbs → agreeSpeed [a, b] = b ∧ agreeSpeed [b, a] = b) ∧ agreeSpeed [a, a] = a ∧
    (0 < a → agreeSpeed [a, -a] = a ∧ agreeSpeed [-a, a] = a)) ∧
  (∀ z a b : Int, ((a - z).natAbs < (b - z).natAbs → agreePose z [a, b] = b ∧ agreePose z [b, a] = b) ∧
    ((a - z).natAbs = (b - z).natAbs → a ≤ b → agreePose z [a, b] = b ∧ agreePose z [b, a] = b)) ∧
  (∀ a b : Int, (a.natAbs < b.natAbs → agreeIntegrator [a, b] = some a ∧ agreeIntegrator [b, a] = some a) ∧
    agreeIntegrator [a, a] = some a ∧ agreeIntegrator [a, -a] = some 0) ∧
  (∀ a b c : Bool, agreeInhibit [a, b, c] = decide (2 ≤ a.toNat + b.toNat + c.toNat) ∧ agreeInhibit [a, b] = (a || b) ∧
    agreePermit [a, b, c] = decide (2 ≤ a.toNat + b.toNat + c.toNat) ∧ agreePermit [a, b] = (a && b) ∧
    agreeInhibit [a] = a ∧ agreePermit [a] = a) ∧
  (∀ a b c : Nat, agreeCount [a, a, b] = a ∧ agreeCount [a, b, a] = a ∧ agreeCount [b, a, a] = a ∧
    (a ≠ b → a ≠ c → b ≠ c → agreeCount [a, b, c] = min a (min b c)) ∧ agreeCount [a, b] = min a b ∧
      agreeCount [a] = a) ∧
  (∀ a z : Int, agreeTorque [a] = a ∧ agreeLimit [a] = a ∧ agreeHigh [a] = a ∧ agreeSpeed [a] = a ∧
    agreePose z [a] = a ∧
    agreeIntegrator [a] = some a)

/-- How proposed module states are agreed (R271). -/
def Obligations.ModeAgreement : Prop :=
  (∀ a b : Nat, agreeState [a, a, b] = some a ∧ agreeState [a, b, a] = some a ∧ agreeState [b, a, a] = some a) ∧
  (∀ a b c : Mode, a ≠ b → a ≠ c → b ≠ c → (∀ x ∈ [a, b, c], x ∈ stateOrder) →
    ∃ x ∈ [a, b, c], agreeState [a.code, b.code, c.code] = some x.code ∧
      ∀ y ∈ [a, b, c], stateOrder.idxOf x ≤ stateOrder.idxOf y) ∧
  (∀ a b : Mode, a ≠ b → a ∈ stateOrder → b ∈ stateOrder →
    agreeState [a.code, b.code] =
      (if a = .ghost ∨ b = .ghost then some Mode.ghost.code else if a = .curtain ∨ b = .curtain then some
        Mode.curtain.code else none)) ∧
  (∀ a : Nat, agreeState [a, a] = some a ∧ agreeState [a] = some a)

/-- The share of an axis keeps within LIMC (R94). -/
def Obligations.ShareRule : Prop :=
  (∀ (total : Int) (nax limc : Nat), limc ≤ 32767 → -(limc : Int) ≤ shareOf total nax limc ∧
    shareOf total nax limc ≤ limc) ∧
  (∀ (q : Int) (nax limc : Nat), 0 < nax → limc ≤ 32767 → -(limc : Int) ≤ q → q ≤ limc → shareOf (q * nax) nax limc = q)

/-- The distance from the counter to the nearest count that an index represents (R170). -/
def Obligations.IndexDistance : Prop :=
  ∀ (l : Lane) (n : Axis) (k : Nat), 8 ≤ k → k ≤ 24 → l.get (R.FB_CPR_CPR n) = 2 ^ k →
    l.get (R.FB_IDXPOS_IDXPOS n) < 2 ^ k →
    -(2 ^ (k - 1) : Int) < l.indexDistance n ∧ l.indexDistance n ≤ 2 ^ (k - 1) ∧
    ((l.get (R.FB_POS_POS n) : Int) + l.indexDistance n - l.get (R.FB_IDXPOS_IDXPOS n)) % (2 ^ k) = 0

/-- What a write leaves of a register (R10, R13). -/
def Obligations.AccessCodes : Prop :=
  (∀ (a : Nat) (d : RegDesc), regAt a = some d → ∀ (new w : Word) (i : Nat), i < 32 →
    (∀ f ∈ d.fields, f.lo ≤ i → i < f.lo + f.width →
      (f.acc = .rw ∨ f.acc = .rwl → (d.write new w).getLsbD i = new.getLsbD i) ∧
      (f.acc = .w1c → (d.write new w).getLsbD i = (w.getLsbD i && !new.getLsbD i)) ∧
      (f.acc = .ro ∨ f.acc = .wo → (d.write new w).getLsbD i = w.getLsbD i)) ∧
    ((∀ f ∈ d.fields, i < f.lo ∨ f.lo + f.width ≤ i) → (d.write new w).getLsbD i = w.getLsbD i)) ∧
  (∀ (a : Nat) (l : Lane) (new : Word), regAt a = none → l.writeWord a new = l)

/-- Presentation and sensing of the callboard (R501, R502). -/
def Obligations.Presentation : Prop :=
  (∀ (l : Lane) (s : Seat) (k : Nat), l.presentedTo s = some k → k < 512 ∧ l.pends k = true ∧ l.callActive k = false ∧
    l.callEnabled s k = true ∧ l.effective s < l.get (R.CB_SRC_PRIO k) ∧
    ∀ j, j < 512 → l.candidate s j = true →
      l.get (R.CB_SRC_PRIO j) < l.get (R.CB_SRC_PRIO k) ∨ (l.get (R.CB_SRC_PRIO j) = l.get (R.CB_SRC_PRIO k) ∧ k ≤ j)) ∧
  (∀ (l : Lane) (s : Seat), l.presentedTo s = none → ∀ j, j < 512 → l.candidate s j = false) ∧
  (∀ (l : Lane) (s : Seat), l.get (R.CB_THR_THR s) ≤ l.effective s ∧
    (∀ x ∈ l.call.active, x.2 = s → l.get (R.CB_SRC_PRIO x.1) ≤ l.effective s) ∧
    (l.effective s = l.get (R.CB_THR_THR s) ∨ ∃ x ∈ l.call.active, x.2 = s ∧
      l.effective s = l.get (R.CB_SRC_PRIO x.1))) ∧
  (∀ was now : Bool, senseFires 0 was now = now ∧ senseFires 1 was now = (now && !was) ∧
    senseFires 2 was now = (was && !now) ∧ senseFires 3 was now = (was != now))

/-- Which opcodes a lane refuses for its state (R479, R480, R558). -/
def Obligations.OpcodeRefusals : Prop :=
  ∀ (l : Lane) (h : Hdr) (op : Op),
    (l.trust.romResponder = true →
      (opCode op ∈ [0x0001, 0x0002] ∨ opCode op / 256 ∈ [0x08, 0x09] → l.opRefused h op = none) ∧
      (opCode op ∉ [0x0001, 0x0002] → opCode op / 256 ∉ [0x08, 0x09] →
        l.opRefused h op = some ⟨4, l.get R.LC_STATE_MSTATE⟩)) ∧
    (l.trust.romResponder = false → l.goneOut = true →
      (opLocal op = true → opClass op = 0 → l.opRefused h op = none) ∧
      (opLocal op = false ∨ opClass op ≠ 0 → l.opRefused h op = some ⟨4, l.get R.LC_STATE_MSTATE⟩)) ∧
    (l.trust.romResponder = false → l.goneOut = false → l.mode = .ghost →
      ¬(opLocal op = true ∧ opClass op = 0) → opCode op ∉ [0x0001, 0x0002, 0x0305] → opCode op / 256 ∉ [0x06, 0x0A] →
      l.opRefused h op = some ⟨4, 8⟩) ∧
    (l.trust.romResponder = false → opStates op l.mode = false → l.goneOut = false →
      l.opRefused h op = some ⟨4, l.get R.LC_STATE_MSTATE⟩) ∧
    (l.inPlay → opStates op l.mode = true → opHolder op = false → l.opRefused h op = none)

/-- The gate drivers follow the demands (R93, R118, R336). -/
def Obligations.SettledSwitches : Prop :=
  ∀ (i : LaneId) (l : Lane) (n : Axis), l.Sound i →
    (l.settle n).on n &&& ~~~l.on n = 0 ∧
    (l.logicUp = false ∨ l.lstate ≠ .live ∨ l.link.ovmax = true ∨ l.power.vgSince ≠ none ∨ l.power.testHigh = true ∨
      l.trust.state ≠ 5 ∨ l.flag (R.DC_CTRL_EN n) = false ∨ l.inService n = false → (l.settle n).on n = 0) ∧
    ∀ k, k ≠ n → (l.settle n).on k = l.on k

/-- What the output balls of a lane show (R569). -/
def Obligations.OutputBalls : Prop :=
  (∀ l : Lane, l.logicUp = false → l.balls.gates = Vector.replicate 4 0 ∧ l.balls.ko = 0 ∧ l.balls.ma = .highZ ∧
    l.balls.tx = Vector.replicate 2 .highZ ∧ l.balls.phyrst = .low ∧ l.balls.atn = false ∧
    l.balls.vrefc = (if l.balls.vcen then 4000 else 0)) ∧
  (∀ l : Lane, l.logicUp = true → (∀ n : Axis, l.balls.gates[n] = l.on n) ∧ l.balls.ko.toNat = l.get R.SF_KOSTAT_ON ∧
    l.balls.ma = .high ∧ l.balls.vrefc = 5 * l.get R.PW_VCSET_TARGET ∧ l.balls.atn = l.flag R.HS_PORT_ATN) ∧
  (∀ (i : LaneId) (l : Lane) (n : Axis), l.Sound i → l.trust.state ≠ 5 ∨ l.lstate = .out →
    (l.settle n).balls.gates[n] = 0) ∧
  (∀ (i : LaneId) (l : Lane), l.Sound i → l.trust.state ≠ 5 ∨ l.lstate = .out → l.koSettle.balls.ko = 0)

/-- Gauges, pace deficits and the core voltage: what each event does (R45, R50, R47, R48, R51, R62). -/
def Obligations.PaceAndCoreVoltage : Prop :=
  -- GAUGE_READ (R45)
  (∀ (e : At) (lg pw : Vector Nat 16) (s : State), s.Runs e →
    Does (.gaugeRead e lg pw) s [.reg R.PW_SUPSTAT, .reg R.PW_SUPEVT, .reg R.PW_PACE, .reg (R.PW_LGAUGE 0),
    .reg (R.PW_PGAUGE 0), .reg R.TV_SPREAD, .power, .trio] fun l m =>
      ((∀ x ∈ lg.toList, x ≤ l.get R.PW_GFLOOR_LLIM) → (∀ x ∈ pw.toList, x ≤ l.get R.PW_GFLOOR_PLIM) →
        m.get R.PW_SUPSTAT_DEFICIT = 0 ∧ m.power.logicSince = none ∧ m.power.powerSince = none ∧
        m.power.goal = l.power.goal) ∧
      ((∃ x ∈ lg.toList, l.get R.PW_GFLOOR_LLIM < x) → m.get R.PW_SUPSTAT_DEFICIT = 1 ∧
        m.power.logicSince = some (l.power.logicSince.getD l.now) ∧
        (l.power.goal ≤ l.get R.PW_VCSET_TARGET →
          m.power.goal = min l.vcMax (l.get R.PW_VCSET_TARGET + 20)) ∧
        (l.power.logicSince = none → l.power.powerSince = none → m.flag R.PW_SUPEVT_DEFICIT = true)) ∧
      ((∀ x ∈ lg.toList, x ≤ l.get R.PW_GFLOOR_LLIM) → (∃ x ∈ pw.toList, l.get R.PW_GFLOOR_PLIM < x) →
        m.get R.PW_SUPSTAT_DEFICIT = 1 ∧ m.power.powerSince = some (l.power.powerSince.getD l.now) ∧
        m.power.goal = l.power.goal)) ∧
  -- DEFICIT_PERSIST (R50)
  (∀ (e : At) (power : Bool) (s : State), s.Runs e → Does (.deficitPersist e power) s laneOutParts fun l m =>
      (power = true → l.power.powerSince = none → m = l) ∧
      (∀ t, power = true → l.power.powerSince = some t → t + us 100 ≤ l.now → m.lstate = .out) ∧
      (power = false → l.power.maxSince = none → m = l) ∧
      (∀ t u, power = false → l.power.logicSince = some t → t + us 100 ≤ l.now → l.power.maxSince = some u →
        u + us 100 ≤ l.now → m.lstate = .out)) ∧
  -- VCORE_STEP (R47)
  (∀ (e : At) (s : State), s.Runs e → Does (.vcoreStep e) s [.reg R.PW_VCSET, .reg R.PW_SUPSTAT, .emit,
    .power] fun l m =>
      (l.get R.PW_VCSET_TARGET = l.power.goal → m = l) ∧ (l.now < l.power.lastStep + us 2 → m = l) ∧
      (l.get R.PW_VCSET_TARGET < l.power.goal → l.power.goal ≤ 900 → l.power.lastStep + us 2 ≤ l.now →
        m.get R.PW_VCSET_TARGET = min l.power.goal (l.get R.PW_VCSET_TARGET + 5)) ∧
      (l.power.goal < l.get R.PW_VCSET_TARGET → l.power.lastStep + us 2 ≤ l.now →
        m.get R.PW_VCSET_TARGET = max l.power.goal (l.get R.PW_VCSET_TARGET - 5))) ∧
  -- VCORE_RISE_DONE (R48)
  (∀ (e : At) (meas : Nat) (s : State), s.Runs e → Does (.vcoreRiseDone e meas) s [.reg R.PW_VCSET,
    .reg R.PW_SUPSTAT, .reg (R.GD_STAT 0), .reg (R.GD_EVT 0), .axUs, .axSw, .axRefresh, .axLeak, .power,
    .modeState] fun l m =>
      (meas < 740 → m = (l.put R.PW_VCSET_MEAS meas).showVcok) ∧
      (740 ≤ meas → meas < 1024 → l.mode_.enableWait = false → m.power.riseSince = none ∧ m.power.risen = true ∧
        m.get R.PW_VCSET_MEAS = meas)) ∧
  -- VCORE_RISE_TIMEOUT (R51)
  (∀ (e : At) (meas : Nat) (s : State), s.Runs e → Does (.vcoreRiseTimeout ⟨e, meas⟩) s (laneOutParts ++
    [.reg R.PW_VCSET, .reg R.PW_SUPSTAT, .reg R.PW_SUPEVT, .power]) fun l m =>
      (l.power.riseSince = none → l.mode_.enableWait = false → meas < 1024 → m.get R.PW_VCSET_MEAS = meas ∧
        m.lstate = l.lstate) ∧
      (∀ t, l.power.riseSince = some t → t + us 90 ≤ l.now → meas < 740 →
        m.flag R.PW_SUPEVT_VCUV = true ∧ m.lstate = .out) ∧
      (740 ≤ meas → meas < 1024 → l.mode_.enableWait = false → m.power.riseSince = none ∧ m.lstate = l.lstate)) ∧
  -- CORE_UNDERVOLTAGE (R51)
  (∀ (e : At) (meas held : Nat) (s : State), s.Runs e →
    Does (.coreUndervoltage ⟨e, held⟩ meas) s (laneOutParts ++
    [.reg R.PW_VCSET, .reg R.PW_SUPSTAT, .reg R.PW_SUPEVT, .power]) fun l m =>
      (meas < 715 → held < 2000 → m = (l.put R.PW_VCSET_MEAS meas).showVcok) ∧
      (meas < 715 → 2000 ≤ held → 740 ≤ l.coreFloor → l.power.riseSince = none → l.power.risenAt + us 2 ≤ l.now →
        m.flag R.PW_SUPEVT_VCUV = true ∧ m.lstate = .out)) ∧
  -- CORE_OVERVOLTAGE (R62)
  (∀ (e : At) (meas held : Nat) (s : State), s.Powered e →
    Does (.coreOvervoltage ⟨e, held⟩ meas) s [.reg R.LC_STATE, .reg (R.GD_STAT 0), .reg (R.GD_EVT 0),
    .reg R.SF_KOSTAT, .emit, .axUs, .axSw, .axLeak, .power, .safety] fun l m =>
      (meas ≤ 930 → m = l) ∧ (held < 2000 → m = l) ∧
      (930 < meas → 2000 ≤ held → l.power.phase ≠ .shutdown → l.power.phase ≠ .stopped →
        m.power.phase = .shutdown ∧ m.power.ovLatch = true ∧ m.power.byOv = true ∧ m.power.vcen = false ∧
        m.lstate = .out))

/-- Late crossings, the reference and the power-up sequence (R52, R54, R57, R53, R58). -/
def Obligations.ReferenceAndPowerUp : Prop :=
  -- LATE_CROSSING (R52)
  (∀ (e : At) (excess : Nat) (s : State), s.Runs e → Does (.lateCrossing e excess) s [.reg R.PW_SUPEVT,
    .reg R.PW_XCNT] fun l m =>
      m.flag R.PW_SUPEVT_XLATE = true ∧ m.get R.PW_XCNT_COUNT = min (l.get R.PW_XCNT_COUNT + 1) 65535 ∧
      m.get R.PW_XCNT_MAX = max (l.get R.PW_XCNT_MAX) (min 65535 excess)) ∧
  -- REFERENCE_LOSS (R54)
  (∀ (e : At) (hz held : Nat) (s : State), s.Runs e → Does (.referenceLoss ⟨e, hz, held⟩) s (laneOutParts ++
    [.reg R.PW_SUPSTAT, .reg R.PW_SUPEVT, .power]) fun l m =>
      (24750000 ≤ hz → hz ≤ 25250000 → m = l) ∧ (held < 20 → m = l) ∧
      ((hz < 24750000 ∨ 25250000 < hz) → 20 ≤ held →
        m.flag R.PW_SUPEVT_XINLOSS = true ∧ m.get R.PW_SUPSTAT_XINOK = 0 ∧ m.lstate = .out)) ∧
  -- PLL_UNLOCK (R54)
  (∀ (e : At) (s : State), s.Runs e → Does (.pllUnlock e) s (laneOutParts ++
    [.reg R.PW_SUPSTAT, .reg R.PW_SUPEVT, .power]) fun _ m =>
      m.flag R.PW_SUPEVT_PLLUNL = true ∧ m.get R.PW_SUPSTAT_PLLLOCK = 0 ∧ m.lstate = .out) ∧
  -- POWER_UP (R57)
  (∀ (e : At) (vin : Nat) (latchKept : Bool) (s : State), s.Sound →
    Does (.powerUp ⟨e, vin⟩ latchKept) s [.power, .trust] fun l m =>
      (l.power.phase ≠ .unpowered → m = l) ∧ (vin ≤ 680 → m = l) ∧
      (680 < vin → l.power.phase = .unpowered → m.power.phase = .oscillator ∧ m.power.phaseAt = l.now ∧
        m.power.fails = 0 ∧ m.power.testHigh = false ∧ m.power.ovLatch = (l.power.ovLatch && latchKept))) ∧
  -- PLL_LOCK (R53)
  (∀ (e : At) (s : State), s.Powered e → Does (.pllLock e) s [.reg R.PW_SUPSTAT, .emit, .power] fun l m =>
      (l.power.phase = .oscillator → m.power.phase = .supplies ∧ m.power.phaseAt = l.now ∧ m.power.vcen = true ∧
        m.emit = [.coreEnable true, .coreReference 800]) ∧
      (l.power.phase = .up → m.power.phase = .up ∧ m.get R.PW_SUPSTAT_PLLLOCK = 1 ∧ m.get R.PW_SUPSTAT_XINOK = 1)) ∧
  -- SUPPLY_WINDOW_MISS (R58)
  (∀ (e : At) (up : Fin 4) (s : State), s.Powered e → Does (.supplyWindowMiss ⟨e, up⟩) s [.emit, .power] fun l m =>
      (l.power.phase ≠ .supplies → m = l) ∧ (l.now < l.power.phaseAt + ms 2 → m = l) ∧
      (l.power.phase = .supplies → l.power.phaseAt + ms 3 ≤ l.now → m.power.vcen = false ∧ m.power.rails = 0 ∧
        m.power.fails = l.power.fails + 1 ∧ m.power.phase = (if l.power.fails < 2 then .retryWait else .stopped)) ∧
      (up = 0 → l.power.phase = .supplies → l.power.phaseAt + ms 2 ≤ l.now → m.power.vcen = false ∧ m.power.rails = 0 ∧
        m.power.fails = l.power.fails + 1 ∧ m.power.phase = (if l.power.fails < 2 then .retryWait else .stopped))) ∧
  -- SUPPLY_RETRY (R58)
  (∀ (e : At) (s : State), s.Powered e → Does (.supplyRetry e) s [.emit, .power] fun l m =>
      (l.power.phase ≠ .retryWait → m = l) ∧ (l.now < l.power.phaseAt + ms 50 → m = l) ∧
      (l.power.phase = .retryWait → l.power.phaseAt + ms 50 ≤ l.now → m.power.phase = .supplies ∧ m.power.vcen = true ∧
        m.power.phaseAt = l.now)) ∧
  -- LOGIC_RELEASE (R57)
  (∀ (e : At) (bootv18 : Bool) (vcore : Nat) (s : State), s.Powered e →
    Does (.logicRelease ⟨e, vcore⟩ bootv18) s (beatParts ++
    [.unassigned, .ltime, .stage, .axQueue, .axProt, .axLastRecatch, .can]) fun l m =>
      (l.power.phase ≠ .supplies → m = l) ∧ (vcore < 780 ∨ 820 < vcore → m = l) ∧
        (l.power.phaseAt + ms 5 < l.now → m = l) ∧
      (l.power.phase = .supplies → 780 ≤ vcore → vcore ≤ 820 → l.now ≤ l.power.phaseAt + ms 5 →
        m.power.phase = .up ∧ m.power.boot18 = bootv18 ∧ m.trust.flash = l.trust.flash ∧ m.trust.fuses = l.trust.fuses ∧
        (l.power.lostCause = false → l.power.ovLatch = false → m.regs = (Lane.reset l.id).regs)))

/-- Hold-up, power-down, temperatures, memory supplies and TEST_x (R59, R299, R60, R61, R67, R68, R570). -/
def Obligations.PowerDownAndTemperature : Prop :=
  -- VIN_RESERVE (R59)
  (∀ (e : At) (vin : Nat) (s : State), s.Runs e → Does (.vinReserve e vin) s [.reg R.PW_SUPSTAT, .reg R.PW_SUPEVT,
    .reg R.PW_VIN, .reg R.BX_STAT, .reg R.BX_DIECOM, .reg R.BX_SUP, .box] fun l m =>
      (vin < 65536 → l.get R.PW_RESERVE_THR + 50 < vin → m = l.put R.PW_VIN_VIN vin) ∧
      (vin < 65536 → l.get R.PW_RESERVE_THR ≤ vin → m.regs = (l.put R.PW_VIN_VIN vin).regs ∧
        (vin ≤ l.get R.PW_RESERVE_THR + 50 → m.box = { l.box with supSince := none })) ∧
      (vin < l.get R.PW_RESERVE_THR → m.flag R.PW_SUPEVT_VINRES = true ∧ m.get R.PW_SUPSTAT_VINRES = 1 ∧
        m.get R.BX_STAT_SUPOPEN = 1)) ∧
  -- SUP_LEDGER_CLOSE (R299)
  (∀ (e : At) (s : State), s.Runs e → Does (.supLedgerClose e) s [.reg R.BX_STAT, .reg R.BX_DIECOM,
    .reg R.BX_SUP] fun l m =>
      (l.box.supSince = none → m = l) ∧
      (∀ t, l.box.supSince = some t → t + ms 10 ≤ l.now → m.get R.BX_STAT_SUPOPEN = 0)) ∧
  -- VIN_UNDERVOLTAGE (R60)
  (∀ (e : At) (vin : Nat) (s : State), s.Powered e → Does (.vinUndervoltage ⟨e, vin⟩) s [.reg R.LC_STATE,
    .reg (R.GD_STAT 0), .reg (R.GD_EVT 0), .reg R.SF_KOSTAT, .emit, .axUs, .axSw, .axLeak, .power, .safety] fun l m =>
      (600 ≤ vin → m = l) ∧
      (vin < 600 → l.power.phase = .shutdown → m.power.phase = .shutdown ∧ m.power.vinFell = true ∧ m.regs = l.regs) ∧
      (vin < 600 → l.power.phase = .stopped → m.power.phase = .unpowered ∧ m.regs = l.regs) ∧
      (vin < 600 → l.power.phase = .up → m.power.phase = .shutdown ∧ m.power.vcen = false ∧ m.lstate = .out)) ∧
  -- SHUTDOWN_SEQUENCE_END (R61)
  (∀ (e : At) (vinBack latchKept : Bool) (s : State), s.Powered e →
    Does (.shutdownSequenceEnd ⟨e, latchKept⟩ vinBack) s [.emit, .power] fun l m =>
      (l.power.phase ≠ .shutdown → m = l) ∧
      (l.power.phase = .shutdown → m.power.rails = 0 ∧ m.power.ovLatch = (l.power.ovLatch && latchKept)) ∧
      (l.power.phase = .shutdown → l.power.byOv = true → l.power.vinFell = false → m.power.phase = .stopped) ∧
      (l.power.phase = .shutdown → l.power.byOv = false → m.power.phase = if vinBack then .oscillator else
        .unpowered)) ∧
  -- TEMPERATURE_WARNING (R67)
  (∀ (e : At) (temps : Temps) (s : State), s.Runs e → Does (.temperatureWarning e temps.ld temps.pd) s [.reg
    R.PW_SUPSTAT, .reg R.PW_SUPEVT, .reg R.PW_TEMP] fun l m =>
      (hottest temps < (l.get R.PW_TLIM_WARN : Int) → m.get R.PW_SUPSTAT_TWARN = 0) ∧
      ((l.get R.PW_TLIM_WARN : Int) ≤ hottest temps → l.flag R.PW_SUPSTAT_TWARN = false →
        m.flag R.PW_SUPEVT_TWARN = true ∧ m.get R.PW_SUPSTAT_TWARN = 1) ∧
      (-2 ^ 15 ≤ max temps.ld.1 temps.ld.2 → max temps.ld.1 temps.ld.2 < 2 ^ 15 →
        m.getInt R.PW_TEMP_LD = max temps.ld.1 temps.ld.2)) ∧
  -- TEMPERATURE_TRIP (R67)
  (∀ (e : At) (temps : Temps) (held : Nat) (s : State), s.Runs e →
    Does (.temperatureTrip e temps held) s (laneOutParts ++
    [.reg R.PW_SUPSTAT, .reg R.PW_SUPEVT, .reg R.PW_TEMP]) fun l m =>
      (hottest temps < (l.get R.PW_TLIM_TRIP : Int) ∨ held < 1000 → m = l.showTemps temps) ∧
      ((l.get R.PW_TLIM_TRIP : Int) ≤ hottest temps → 1000 ≤ held → m.flag R.PW_SUPEVT_TTRIP = true ∧
        m.lstate = .out)) ∧
  -- MEMORY_SUPPLY_FAULT (R68)
  (∀ (e : At) (rail : Fin 3) (s : State), s.Runs e → Does (.memorySupplyFault e rail) s [.reg R.PW_SUPSTAT,
    .reg R.PW_SUPEVT, .power] fun _ m =>
      m.flag R.PW_SUPEVT_MEMSUP = true ∧
      m.get (match rail with | 0 => R.PW_SUPSTAT_VD1OK | 1 => R.PW_SUPSTAT_VD2OK | 2 => R.PW_SUPSTAT_VDQOK) = 0) ∧
  -- TEST_HIGH (R570)
  (∀ (e : At) (s : State), s.Powered e → Does (.testHigh e) s (laneOutParts ++ [.power]) fun l m =>
      (l.logicUp = false → m = l.onPower fun p => { p with testHigh := true }) ∧
      (l.logicUp = true → m.lstate = .out ∧ m.mode = .boot))

/-- Crossings, understudy updates, copies, the table, dwell and rate holds (R73, R78, R84, R89, R90, R91). -/
def Obligations.UnderstudyAndTable : Prop :=
  -- LADDER_CROSSING (R73)
  (∀ (e : At) (n : Axis) (p : Phase) (level : Fin 8) (up : Bool) (stamp : Nat) (taken : Bool) (s : State), s.Runs e →
    Does (.ladderCrossing e n p level up stamp taken) s (setOutParts ++
      [.reg (R.DC_TEST 0), .reg (R.DC_PSI 0), .reg (R.DC_ANGLE 0), .reg (R.DC_TRIM 0), .reg (R.DC_LASTT 0), .log,
      .axQueue, .axLastRecatch]) fun l m =>
      (l.bit (R.DC_LADCFG_EN n) level.val = false → m = l) ∧
      (l.bit (R.DC_LADCFG_EN n) level.val = true → 16 ≤ (l.ax n).queue.length → m.flag (R.DC_EVT_QOVF n) = true) ∧
      (l.bit (R.DC_LADCFG_EN n) level.val = true → taken = true →
        (m.ax n).queue = [] ∧ (m.ax n).us.lastWord = l.now) ∧
      (l.bit (R.DC_LADCFG_EN n) level.val = true → taken = false → (l.ax n).queue.length < 16 →
        (m.ax n).queue.length = (l.ax n).queue.length + 1 ∧ (⟨stamp, p, level, up,
          false⟩ : LadderEvent) ∈ (m.ax n).queue ∧
        (∀ x ∈ (l.ax n).queue, x ∈ (m.ax n).queue))) ∧
  -- UNDERSTUDY_UPDATE (R78)
  (∀ (e : At) (n : Axis) (s : State), s.Runs e → Does (.understudyUpdate e n) s (setOutParts ++
    [.reg (R.DC_TEST 0), .reg (R.DC_PSI 0), .reg (R.DC_ANGLE 0), .reg (R.DC_TRIM 0), .reg (R.DC_LASTT 0), .log,
    .axQueue, .axLastRecatch]) fun l m =>
      (m.ax n).queue = [] ∧ l.now ≤ (m.ax n).us.last ∧ (m.ax n).us.lastWord = l.now ∧ (m.ax n).us.dropped = 0 ∧
      m.torqueC n = torqueLevel (l.torqueC n)
        (m.torqueRef n - (m.ax n).us.te / ((l.get (R.DC_SCALE_TFS n) : Rat) / 100) * 32768) (l.get (R.DC_BANDS_DTQ
          n))) ∧
  -- DROPPED_UPDATE (R78)
  (∀ (e : At) (n : Axis) (s : State), s.Runs e → Does (.droppedUpdate e n) s setOutParts fun l m =>
      ((l.ax n).us.dropped = 0 → m = l.onAx n fun a => { a with us := { a.us with dropped := 1 } }) ∧
      (1 ≤ (l.ax n).us.dropped → l.inService n = true → l.inRecatch n = false → m.flag (R.DC_EVT_ROTLOST n) = true) ∧
      (1 ≤ (l.ax n).us.dropped → l.inService n = false ∨ l.inRecatch n = true →
        m = l.onAx n fun a => { a with us := { a.us with dropped := a.us.dropped + 1 } })) ∧
  -- COPY_DISAGREEMENT (R84)
  (∀ (e : At) (n : Axis) (differ : BitVec 6) (s : State), s.Runs e →
    Does (.copyDisagreement e n differ) s (setOutParts ++ [.axProt]) fun l m =>
      (m.ax n).prot.disagree = differ ∧ m.on n &&& differ = 0 ∧
      (differ &&& ~~~(l.ax n).prot.disagree ≠ 0 → m.flag (R.DC_EVT_COPYDIS n) = true ∧
        m.get (R.DC_CNT_CDCNT n) = min (l.get (R.DC_CNT_CDCNT n) + count6 (differ &&& ~~~(l.ax n).prot.disagree)) 255) ∧
      (differ &&& ~~~(l.ax n).prot.disagree ≠ 0 →
        8 ≤ l.get (R.DC_CNT_CDCNT n) + count6 (differ &&& ~~~(l.ax n).prot.disagree) → m.inService n = false)) ∧
  -- TABLE_PARITY (R89)
  (∀ (e : At) (n : Axis) (copy : Fin 2) (s : State), s.Runs e →
    Does (.tableParity e n copy) s (setOutParts ++ [.reg (R.DC_TAB6 0 0), .reg (R.DC_TAB12 0 0),
    .reg (R.DC_DEG6 0 0), .reg (R.DC_DEG12 0 0), .axProt]) fun l m =>
      m.flag (R.DC_EVT_TBLPAR n) = true ∧ (m.ax n).sw.want = 0 ∧ (m.ax n).prot.parityAt = some (copy, l.now) ∧
      (∀ t, (l.ax n).prot.parityAt = some t → l.now < t.2 + ms 1000 → m.inService n = false)) ∧
  -- DWELL_END (R90)
  (∀ (e : At) (n : Axis) (s : State), s.Runs e → Does (.dwellEnd e n) s [.reg (R.DC_STAT 0), .reg (R.DC_EVT 0),
    .reg (R.DC_CNT 0), .reg (R.GD_STAT 0), .reg (R.GD_EVT 0), .axUs, .axSw, .axLeak] fun l m =>
      (l.now < (l.ax n).sw.dwellEnd → m = l) ∧
      ((l.ax n).sw.dwellEnd ≤ l.now → l.looksUp n = false → m = l.drop (R.DC_STAT_DWELL n)) ∧
      ((l.ax n).sw.dwellEnd ≤ l.now → l.looksUp n = true → Looked (l.drop (R.DC_STAT_DWELL n)) m n)) ∧
  -- RATE_HOLD_RELEASE (R91)
  (∀ (e : At) (n : Axis) (s : State), s.Powered e → Does (.rateHoldRelease e n) s [.reg (R.DC_STAT 0),
    .reg (R.DC_EVT 0), .reg (R.DC_CNT 0), .reg (R.GD_STAT 0), .reg (R.GD_EVT 0), .reg (R.GD_CNT1 0), .axUs, .axSw,
    .axLeak] fun l m =>
      (l.internal n = true → l.get (R.DC_STAT_RATEHOLD n) = 0 → m = l) ∧
      (l.internal n = true → l.looksUp n = false → m.get (R.DC_STAT_RATEHOLD n) = 0) ∧
      (l.internal n = true → l.flag (R.DC_STAT_RATEHOLD n) = true → l.looksUp n = true →
        Looked (l.drop (R.DC_STAT_RATEHOLD n)) m n) ∧
      (l.internal n = false → l.rank3 n = none → ∀ j : Switch, (m.ax n).sw.want.getLsbD j.val =
        ((l.ginRequest n).getLsbD j.val && ((l.ax n).sw.want.getLsbD j.val || l.rateOk n j))) ∧
      (l.internal n = false → l.rank3 n ≠ none → (m.ax n).sw.want = (l.ax n).sw.want))

/-- Re-catch, substitute, and enabling and disabling an axis (R97, R101, R132, R102). -/
def Obligations.RecatchAndEnable : Prop :=
  -- ASC_END (R97)
  (∀ (e : At) (n : Axis) (s : State), s.Runs e → Does (.ascEnd e n) s [.reg (R.DC_STAT 0), .reg (R.GD_STAT 0),
    .reg (R.GD_EVT 0), .axUs, .axSw, .axLeak, .axRecatch] fun l m =>
      (l.axst n ≠ .asc → m = l) ∧ ((l.ax n).recatch = none → m = l) ∧
      (∀ r, (l.ax n).recatch = some r → l.axst n = .asc → l.since r.declared (us (100 * l.get (R.DC_RCATCH_ASCMIN
        n))) = true →
        m.axst n = .decay ∧ (m.ax n).recatch = some { r with quietSince := l.now })) ∧
  -- DECAY_DONE (R97)
  (∀ (e : At) (n : Axis) (s : State), s.Runs e → Does (.decayDone e n) s [.block 6, .reg (R.GD_STAT 0),
    .reg (R.GD_EVT 0), .axUs, .axSw, .axLeak, .axRecatch] fun l m =>
      (l.axst n ≠ .decay → m = l) ∧ ((l.ax n).recatch = none → m = l) ∧
      (∀ r, (l.ax n).recatch = some r → l.axst n = .decay → l.since r.quietSince (us 100) = true →
        m.axst n = .probe ∧ m.get (R.DC_LASTX_RLCNT n) = 0 ∧ (m.ax n).us.ia = 0 ∧ (m.ax n).us.ib = 0 ∧
        (m.ax n).us.psiA = l.psim n * Config.cosTurn (l.thetaAt n l.now) ∧
        (m.ax n).us.psiB = l.psim n * Config.sinTurn (l.thetaAt n l.now))) ∧
  -- RECATCH_FAIL (R97)
  (∀ (e : At) (n : Axis) (s : State), s.Runs e → Does (.recatchFail e n) s setOutParts fun l m =>
      (l.inRecatch n = false → m = l) ∧ ((l.ax n).recatch = none → m = l) ∧
      (∀ r, (l.ax n).recatch = some r → l.inRecatch n = true → l.since r.declared (ms 20) = true →
        m.flag (R.DC_EVT_RCFAIL n) = true ∧ m.flag (R.DC_EVT_OUTSVC n) = true ∧ m.inService n = false)) ∧
  -- SUBSTITUTE_TIMEOUT (R101)
  (∀ (e : At) (n : Axis) (s : State), s.Runs e → Does (.substituteTimeout e n) s setOutParts fun l m =>
      ((l.ax n).us.substSince = none → m = l) ∧
      (∀ t, (l.ax n).us.substSince = some t → l.since t (ms (l.get (R.DC_BEMF1_SUBSTMAX n))) = true →
        m.flag (R.DC_EVT_SUBSTEND n) = true ∧ m.inService n = false)) ∧
  -- AXIS_ENABLE (R132)
  (∀ (e : At) (n : Axis) (s : State), s.Runs e → Does (.axisEnable e n) s setOutParts fun l m =>
      (l.enableRefused n ≠ none → m = l) ∧ (l.flag (R.DC_CTRL_EN n) = true → m = l) ∧
      (l.get (R.DC_CTRL_EN n) = 0 → l.enableRefused n = none →
        m.get (R.DC_CNT_RHCNT n) = 0 ∧ m.get (R.DC_CNT_QOVFCNT n) = 0 ∧ m.get (R.DC_CNT_CDCNT n) = 0 ∧
        m.get (R.LE_WREF_REF n) = 0 ∧ m.get (R.LE_INT_IO n) = 0 ∧ m.get (R.LE_INT_IW n) = 0) ∧
      (l.get (R.DC_CTRL_EN n) = 0 → l.enableRefused n = none → l.fbValid n = true → l.fewSets = false →
        m.get (R.DC_CTRL_EN n) = 1 ∧
        (l.inService n = true → l.modeDrives n = true → l.coreReady = true →
          (m.ax n).refresh.precharge = some l.now))) ∧
  -- AXIS_DISABLE (R102)
  (∀ (e : At) (n : Axis) (s : State), s.Runs e → Does (.axisDisable e n) s [.reg (R.DC_CTRL 0), .reg (R.DC_STAT 0),
    .reg (R.DC_LASTX 0), .reg (R.GD_STAT 0), .reg (R.GD_EVT 0), .reg (R.LE_STAT 0), .axUs, .axSw, .axRefresh,
    .axLeak, .axRecatch] fun l m =>
      m.get (R.DC_CTRL_EN n) = 0 ∧ m.get (R.DC_STAT_SUBST n) = 0 ∧ m.get (R.LE_STAT_SUP n) = 0 ∧ m.on n = 0 ∧
      (m.ax n).recatch = none ∧ (m.ax n).us.substSince = none ∧ m.inRecatch n = false)

/-- Precharge, trips, the Tier 1 decision, dead time, gate-off failure and fault clear (R132, R124, R122, R123, R127,
R118, R119, R129). -/
def Obligations.GateProtection : Prop :=
  -- PRECHARGE_END (R132)
  (∀ (e : At) (n : Axis) (gateOk : BitVec 3) (s : State), s.Powered e →
    Does (.prechargeEnd e n gateOk) s (setOutParts ++ [.reg R.BI_SWFAIL, .reg (R.DC_TEST 0), .reg (R.DC_PSI 0),
    .reg (R.DC_ANGLE 0), .reg (R.GD_CNT1 0), .axProt]) fun l m =>
      ((l.ax n).refresh.precharge = none → m = l) ∧
      (∀ t, (l.ax n).refresh.precharge = some t → l.now < t + us (l.get (R.GD_BSTCFG2_PRE n)) → m = l) ∧
      (∀ t, (l.ax n).refresh.precharge = some t → t + us (l.get (R.GD_BSTCFG2_PRE n)) ≤ l.now →
        (m.ax n).refresh.precharge = none ∧
        (l.internal n = true → l.inService n = true → gateOk = 7 → l.fbValid n = true → l.get (R.GD_STAT_BSTUV n) = 0 →
          m.axst n = .run ∧ (m.ax n).us.lastWord = l.now))) ∧
  -- PEAK_TRIP (R124)
  (∀ (e : At) (n : Axis) (p : Phase) (positive taken : Bool) (s : State), s.Powered e →
    Does (.peakTrip e n p positive taken) s (setOutParts ++
    [.reg (R.DC_TEST 0), .reg (R.DC_PSI 0), .reg (R.DC_ANGLE 0), .reg (R.DC_TRIM 0), .reg (R.DC_LASTT 0),
    .reg (R.GD_CNT0 0), .log, .axQueue, .axProt, .axLastRecatch]) fun l m =>
      m.flag (R.GD_EVT_PEAK n) = true ∧ m.get (R.GD_CNT0_PKCNT n) = min (l.get (R.GD_CNT0_PKCNT n) + 1) 65535 ∧
      (positive = true → m.flag (R.DC_EVT_PEAKP n) = true) ∧ (positive = false → m.flag (R.DC_EVT_PEAKN n) = true) ∧
      (∀ j, l.conducting n p = some j → (m.on n).getLsbD j.val = false)) ∧
  -- VDS_TRIP (R122)
  (∀ (e : At) (n : Axis) (j : Switch) (vds : Nat) (s : State), s.Powered e →
    Does (.vdsTrip ⟨e, vds⟩ n j) s (setOutParts ++ [.axProt]) fun l m =>
      (vds ≤ l.get (R.GD_VDS_THR n) → m = l) ∧ (l.onFor n j (40 * l.get (R.GD_VDS_BLANK n)) = false → m = l) ∧
      ((l.on n).getLsbD j.val = false → l.turningOff n j = false → m = l) ∧
      (l.get (R.GD_VDS_THR n) < vds → l.onFor n j (40 * l.get (R.GD_VDS_BLANK n)) = true →
        ((l.on n).getLsbD j.val = true ∨ l.turningOff n j = true) →
        m.flag (R.GD_EVT_VDS n) = true ∧ (m.on n).getLsbD j.val = false ∧ m.bit (R.GD_STAT_UNAV n) j.val = true ∧
        (m.ax n).sw.soft.getLsbD j.val = true)) ∧
  -- CEILING_TRIP (R123)
  (∀ (e : At) (n : Axis) (j : Switch) (vds vgs : Nat) (s : State), s.Powered e →
    Does (.ceilingTrip ⟨e, vds, vgs⟩ n j) s (setOutParts ++ [.axProt]) fun l m =>
      (vds ≤ l.ceilingLevel n → m = l) ∧ (vgs < Config.armLevel → m = l) ∧
      ((l.on n).getLsbD j.val = false → l.turningOff n j = false → m = l) ∧
      (l.ceilingLevel n < vds → Config.armLevel ≤ vgs → ((l.on n).getLsbD j.val = true ∨ l.turningOff n j = true) →
        m.flag (R.GD_EVT_CEIL n) = true ∧ (m.on n).getLsbD j.val = false ∧ m.bit (R.GD_STAT_UNAV n) j.val = true ∧
        (m.ax n).sw.soft.getLsbD j.val = true)) ∧
  -- TIER1_DECISION (R127)
  (∀ (e : At) (n : Axis) (s : State), s.Runs e → Does (.tier1Decision e n) s (setOutParts ++
    [.reg (R.GD_FAULT 0), .log, .axProt]) fun l m =>
      ((l.ax n).prot.trips = [] → m = l) ∧
      (∀ j c, (l.ax n).prot.trips = [(j, c)] → m.flag (R.GD_EVT_T1DEG n) = true ∧
        m.bit (if c then R.GD_FAULT_CEIL n else R.GD_FAULT_VDS n) j.val = true) ∧
      (∀ j k b c, j ≠ k → (l.ax n).prot.trips = [(j, b), (k, c)] → l.inService n = true →
        m.flag (R.GD_EVT_T1OUT n) = true ∧ m.flag (R.DC_EVT_OUTSVC n) = true)) ∧
  -- DEAD_TIME_END (R118)
  (∀ (e : At) (n : Axis) (j : Switch) (peerLow inside gateOk above : Bool) (s : State), s.Powered e →
    Does (.deadTimeEnd ⟨e, peerLow, above⟩ n j inside gateOk) s (setOutParts ++
      [.reg R.BI_SWFAIL, .reg (R.GD_CNT0 0), .reg (R.GD_CNT1 0)]) fun l m =>
      (peerLow = false → m = l) ∧
      ((l.ax n).sw.cmd.getLsbD j.val = false → m = l) ∧ ((l.ax n).sw.cmd.getLsbD (peerOf j).val = true → m = l) ∧
      ((l.on n).getLsbD (peerOf j).val = true → m = l) ∧
      (l.now < (l.ax n).sw.offAt[peerOf j] + 40 * l.get (R.GD_DT_DT n) → m = l) ∧
      (l.bit (R.GD_FAULT_GSTK n) (peerOf j).val = true → m = l) ∧
      (peerLow = true → inside = true → (l.ax n).sw.cmd.getLsbD j.val = true →
        (l.ax n).sw.cmd.getLsbD (peerOf j).val = false →
        (l.on n).getLsbD j.val = false → (l.on n).getLsbD (peerOf j).val = false →
        (l.ax n).sw.offAt[peerOf j] + 40 * l.get (R.GD_DT_DT n) ≤ l.now →
          l.bit (R.GD_FAULT_GSTK n) (peerOf j).val = false →
        (l.rank3 n = none → l.rateOk n j = false → m.on n = l.on n ∧
          (l.internal n = true → m.flag (R.DC_STAT_RATEHOLD n) = true) ∧
          (l.internal n = false → (m.ax n).sw.ginHeld.getLsbD j.val = true)) ∧
        (l.rank3 n ≠ none ∨ l.rateOk n j = true →
          (j.val % 2 = 1 → m.on n = l.on n ||| bit6 j) ∧
          (j.val % 2 = 0 → (l.ax n).refresh.due.getLsbD (phaseOf j).val = false → gateOk = true →
            m.on n = l.on n ||| bit6 j) ∧
          (j.val % 2 = 0 → (l.ax n).refresh.due.getLsbD (phaseOf j).val = true →
            l.mayInsert n (bit3 (phaseOf j)) (if above then bit3 (phaseOf j) else 0) = true →
            m.flag (R.GD_EVT_REFINS n) = true ∧ (m.ax n).refresh.inserting.getLsbD (phaseOf j).val = true)))) ∧
  -- GATE_OFF_FAILURE (R119)
  (∀ (e : At) (n : Axis) (j : Switch) (vgs : Nat) (s : State), s.Powered e →
    Does (.gateOffFailure ⟨e, vgs⟩ n j) s (setOutParts ++ [.reg (R.GD_FAULT 0)]) fun l m =>
      (vgs ≤ 200 → m = l) ∧ ((l.ax n).sw.cmd.getLsbD j.val = true → m = l) ∧
        (l.now < (l.ax n).sw.offAt[j] + us 2 → m = l) ∧
      (200 < vgs → (l.ax n).sw.cmd.getLsbD j.val = false → (l.ax n).sw.offAt[j] + us 2 ≤ l.now →
        m.flag (R.GD_EVT_GSTK n) = true ∧ m.bit (R.GD_FAULT_GSTK n) j.val = true ∧
          m.bit (R.GD_STAT_UNAV n) j.val = true ∧
        (m.on n).getLsbD (peerOf j).val = false)) ∧
  -- FAULT_CLEAR (R129)
  (∀ (e : At) (n : Axis) (mask : BitVec 6) (s : State), s.Runs e →
    Does (.faultClear e n mask) s (setOutParts ++ [.reg (R.GD_FAULT 0)]) fun l m =>
      (l.mode ≠ .workshop → m = l) ∧
      (∀ j : Switch, l.mode = .workshop → mask.getLsbD j.val = true →
        m.bit (R.GD_FAULT_VDS n) j.val = false ∧ m.bit (R.GD_FAULT_CEIL n) j.val = false ∧
        m.bit (R.GD_FAULT_LEAK n) j.val = false ∧ m.bit (R.GD_FAULT_GSTK n) j.val = false ∧
        m.bit (R.GD_FAULT_BLAT n) j.val = false))

/-- GIN pins: what a PE or PS bridge requests (R113). -/
def Obligations.DirectInputs : Prop :=
  -- GIN_CHANGE (R113)
  (∀ (e : At) (n : Axis) (levels : BitVec 6) (s : State), s.Powered e →
    Does (.ginChange e n levels) s [.reg (R.GD_STAT 0), .reg (R.GD_EVT 0), .reg (R.GD_CNT1 0), .reg (R.GD_GIN 0),
    .axUs, .axSw, .axLeak] fun l m =>
      m.get (R.GD_GIN_LEVEL n) = levels.toNat ∧ (l.internal n = true → m = l.put (R.GD_GIN_LEVEL n) levels.toNat) ∧
      (∀ p, l.get (R.GD_CFG_SRC n) = 2 → levels.getLsbD (highOf p).val = true → levels.getLsbD (lowOf p).val = true →
        (l.bit (R.GD_GIN_LEVEL n) (highOf p).val = false ∨ l.bit (R.GD_GIN_LEVEL n) (lowOf p).val = false) →
        m.flag (R.GD_EVT_GINBOTH n) = true) ∧
      (∀ p, l.get (R.GD_CFG_SRC n) = 1 →
        (levels.getLsbD (lowOf p).val = false →
          (m.ginRequest n).getLsbD (highOf p).val = false ∧ (m.ginRequest n).getLsbD (lowOf p).val = false) ∧
        (levels.getLsbD (lowOf p).val = true → levels.getLsbD (highOf p).val = true →
          (m.ginRequest n).getLsbD (highOf p).val = true ∧ (m.ginRequest n).getLsbD (lowOf p).val = false) ∧
        (levels.getLsbD (lowOf p).val = true → levels.getLsbD (highOf p).val = false →
          (m.ginRequest n).getLsbD (highOf p).val = false ∧ (m.ginRequest n).getLsbD (lowOf p).val = true)) ∧
      (l.internal n = false → l.rank3 n = none → ∀ j : Switch, (m.ax n).sw.want.getLsbD j.val =
        ((m.ginRequest n).getLsbD j.val && ((l.ax n).sw.want.getLsbD j.val || l.rateOk n j))) ∧
      (l.internal n = false → l.rank3 n ≠ none → (m.ax n).sw.want = (l.ax n).sw.want))

/-- VG_x and bootstrap lockouts (R130, R131). -/
def Obligations.VgAndBootstrap : Prop :=
  -- VG_LOCKOUT (R130)
  (∀ (e : At) (vg : Nat) (s : State), s.Powered e → Does (.vgLockout ⟨e, vg⟩) s [.reg R.PW_SUPSTAT, .reg R.PW_SUPEVT,
    .reg R.BI_EVT, .reg (R.GD_STAT 0), .reg (R.GD_EVT 0), .reg R.GD_VMSTAT, .reg R.GD_LEVT, .axUs, .axSw, .axLeak,
    .power, .reh] fun l m =>
      (750 ≤ vg → m = l) ∧
      (vg < 750 → m.flag R.GD_LEVT_VGUV = true ∧ m.flag R.PW_SUPEVT_VGUV = true ∧ m.get R.GD_VMSTAT_VGUV = 1 ∧
        m.get R.PW_SUPSTAT_VGOK = 0 ∧ m.power.vgSince = some (l.power.vgSince.getD l.now) ∧ ∀ n : Axis, m.on n = 0)) ∧
  -- VG_LOCKOUT_PERSIST (R130)
  (∀ (e : At) (s : State), s.Powered e → Does (.vgLockoutPersist e) s laneOutParts fun l m =>
      (l.power.vgSince = none → m = l) ∧ (∀ t, l.power.vgSince = some t → t + us 100 ≤ l.now → m.lstate = .out)) ∧
  -- VG_RECOVER (R130)
  (∀ (e : At) (vg : Nat) (s : State), s.Powered e → Does (.vgRecover ⟨e, vg⟩) s [.reg R.PW_SUPSTAT,
    .reg (R.GD_STAT 0), .reg (R.GD_EVT 0), .reg R.GD_VMSTAT, .axUs, .axSw, .axLeak, .power] fun l m =>
      (vg ≤ 800 → m = l) ∧
      (800 < vg → m.get R.GD_VMSTAT_VGUV = 0 ∧ m.get R.PW_SUPSTAT_VGOK = 1 ∧ m.power.vgSince = none)) ∧
  -- BOOTSTRAP_LOCKOUT (R131)
  (∀ (e : At) (n : Axis) (p : Phase) (bst : Nat) (s : State), s.Powered e →
    Does (.bootstrapLockout ⟨e, bst⟩ n p) s (setOutParts ++ [.reg (R.GD_FAULT 0), .axProt]) fun l m =>
      (750 ≤ bst → m = l) ∧
      (bst < 750 → m.flag (R.GD_EVT_BSTUV n) = true ∧ m.bit (R.GD_STAT_BSTUV n) (highOf p).val = true ∧
        ((l.ax n).refresh.precharge.isSome = true →
          m.get (R.GD_FAULT_BLAT n) = l.get (R.GD_FAULT_BLAT n) ∧ m.get (R.GD_STAT_UNAV n) = l.get (R.GD_STAT_UNAV n)) ∧
        ((l.ax n).refresh.precharge = none →
          m.bit (R.GD_STAT_UNAV n) (highOf p).val = true ∧ (m.on n).getLsbD (highOf p).val = false) ∧
        ((l.ax n).refresh.precharge = none →
          2 ≤ (((l.ax n).prot.lockouts[p]).filter fun t => decide (l.now < t + ms 1000)).length →
          m.flag (R.GD_EVT_BLAT n) = true ∧ m.bit (R.GD_FAULT_BLAT n) (highOf p).val = true))) ∧
  -- BOOTSTRAP_RECOVER (R131)
  (∀ (e : At) (n : Axis) (p : Phase) (bst : Nat) (s : State), s.Powered e →
    Does (.bootstrapRecover ⟨e, bst⟩ n p) s (setOutParts ++ [.axProt]) fun l m =>
      (bst ≤ 800 → m = l) ∧
      (800 < bst → m.bit (R.GD_STAT_BSTUV n) (highOf p).val = false ∧
        ((l.ax n).prot.restarted.getLsbD p.val = true → (m.ax n).prot.bstOut.getLsbD p.val = false) ∧
        ((l.ax n).prot.restarted.getLsbD p.val = false → (m.ax n).prot.supplied.getLsbD p.val = true ∧
          (m.ax n).prot.bstOut = (l.ax n).prot.bstOut)))

/-- Bootstrap refresh and the hold-release check (R134, R135, R136, R137, R141, R142). -/
def Obligations.RefreshAndLeakCheck : Prop :=
  -- REFRESH_TIMER_RESTART (R134)
  (∀ (e : At) (n : Axis) (p : Phase) (lowFor : Nat) (s : State), s.Powered e →
    Does (.refreshTimerRestart ⟨e, lowFor⟩ n p) s (setOutParts ++ [.axProt]) fun l m =>
      (lowFor < l.get (R.GD_BSTCFG_REFW n) → m = l) ∧
      (l.get (R.GD_BSTCFG_REFW n) ≤ lowFor →
        m.bit (R.GD_STAT_PEND n) (highOf p).val = false ∧ (m.ax n).refresh.timers[p] = l.now ∧
        (m.ax n).refresh.due.getLsbD p.val = false ∧
        (l.insertDone n p = true → (m.ax n).refresh.inserting.getLsbD p.val = false) ∧
        ((l.ax n).prot.supplied.getLsbD p.val = true → (m.ax n).prot.bstOut.getLsbD p.val = false))) ∧
  -- REFRESH_PENDING (R135)
  (∀ (e : At) (n : Axis) (p : Phase) (s : State), s.Powered e →
    Does (.refreshPending e n p) s [.reg (R.GD_STAT 0)] fun l m =>
      (l.since (l.ax n).refresh.timers[p] (us (100 * (l.get (R.GD_BSTCFG_REFT n) - l.get (R.GD_BSTCFG_PEND n)))) =
        true →
        m.bit (R.GD_STAT_PEND n) (highOf p).val = true) ∧
      (l.since (l.ax n).refresh.timers[p] (us (100 * (l.get (R.GD_BSTCFG_REFT n) - l.get (R.GD_BSTCFG_PEND n)))) =
        false →
        m = l)) ∧
  -- REFRESH_INSERT (R136)
  (∀ (e : At) (n : Axis) (due above : BitVec 3) (s : State), s.Powered e →
    Does (.refreshInsert e n due above) s [.reg (R.GD_STAT 0), .reg (R.GD_EVT 0), .reg (R.GD_CNT0 0), .axUs, .axSw,
    .axRefresh, .axLeak] fun l m =>
      (l.refreshSet n due = 0 → m = l) ∧
      (∀ p : Phase, (l.refreshSet n due).getLsbD p.val = true → (l.on n).getLsbD (highOf p).val = true →
        l.mayInsert n (l.refreshSet n due) above = true →
        m.flag (R.GD_EVT_REFINS n) = true ∧ (m.ax n).refresh.inserting.getLsbD p.val = true ∧
        (m.on n).getLsbD (highOf p).val = false ∧
        m.get (R.GD_CNT0_REFCNT n) = min (l.get (R.GD_CNT0_REFCNT n) + 1) 65535) ∧
      (∀ p : Phase, (l.refreshSet n due).getLsbD p.val = true → (l.on n).getLsbD (highOf p).val = true →
        l.mayInsert n (l.refreshSet n due) above = false →
        (m.ax n).refresh.due = l.refreshSet n due ∧ (m.ax n).refresh.dueSince = some ((l.ax n).refresh.dueSince.getD
          l.now)) ∧
      (l.refreshSet n due ≠ 0 → (∀ p : Phase, (l.refreshSet n due).getLsbD p.val = true →
        (l.on n).getLsbD (highOf p).val = false) →
        (m.ax n).refresh.due = l.refreshSet n due ∧ m.on n = l.on n) ∧
      (∀ p : Phase, due.getLsbD p.val = true → (l.ax n).refresh.timers[p] + us (100 * l.get (R.GD_BSTCFG_REFT n)) ≤
        l.now →
        (l.refreshSet n due).getLsbD p.val = true)) ∧
  -- REFRESH_LATE (R137)
  (∀ (e : At) (n : Axis) (s : State), s.Powered e → Does (.refreshLate e n) s [.reg (R.GD_EVT 0)] fun l m =>
      ((l.ax n).refresh.dueSince = none → m = l) ∧
      (∀ t, (l.ax n).refresh.dueSince = some t → t + us 100 ≤ l.now → m.flag (R.GD_EVT_REFLATE n) = true)) ∧
  -- LEAK_CHECK_REQUEST (R141)
  (∀ (e : At) (n : Axis) (mask : BitVec 6) (s : State), s.Runs e →
    Does (.leakCheckRequest e n mask) s [.reg (R.GD_LKCTL 0)] fun _ m =>
      m.get (R.GD_LKCTL_REQ n) = mask.toNat) ∧
  -- LEAK_CHECK_START (R141)
  (∀ (e : At) (n : Axis) (j : Switch) (bst : Nat) (s : State), s.Powered e →
    Does (.leakCheckStart e n j bst) s [.reg (R.GD_BSTV0 0), .reg (R.GD_BSTV1 0), .axLeak] fun l m =>
      (l.leakMayStart n j bst = true → (m.ax n).leak.running = (j, l.now) :: (l.ax n).leak.running) ∧
      (l.leakMayStart n j bst = false → j.val % 2 = 1 → m = l) ∧
      (l.leakMayStart n j bst = false → j.val % 2 = 0 → m = l.showBst n (phaseOf j) bst) ∧
      (j.val % 2 = 0 → bst ≤ 800 → m = l.showBst n (phaseOf j) bst)) ∧
  -- LEAK_CHECK_END (R142)
  (∀ (e : At) (n : Axis) (j : Switch) (r : LeakResult) (sweep : SwitchSweep) (s : State), s.Powered e →
    Does (.leakCheckEnd e n j r sweep) s (setOutParts ++ [.reg R.BI_SWFAIL, .reg (R.GD_FAULT 0),
      .reg (R.GD_LKCTL 0)]) fun l m =>
      ((∀ x ∈ (l.ax n).leak.running, x.1 ≠ j) → m = l) ∧
      (∀ t, (l.ax n).leak.running.find? (fun x => x.1 == j) = some (j, t) → l.now < t + us 20 → m = l) ∧
      (∀ t, (l.ax n).leak.running.find? (fun x => x.1 == j) = some (j, t) → t + us 20 ≤ l.now →
        (∀ x ∈ (m.ax n).leak.running, x.1 ≠ j) ∧
        (r = .void → m.flag (R.GD_EVT_LKVOID n) = true ∧ m.get (R.GD_LKCTL_REQ n) = l.get (R.GD_LKCTL_REQ n)) ∧
        (r = .fail → l.bit (R.GD_LKCTL_FAIL1 n) j.val = false →
          m.flag (R.GD_EVT_LKFAIL n) = true ∧ m.bit (R.GD_LKCTL_FAIL1 n) j.val = true ∧
          m.get (R.GD_LKCTL_REQ n) = l.get (R.GD_LKCTL_REQ n)) ∧
        (r = .fail → l.bit (R.GD_LKCTL_FAIL1 n) j.val = true → m.bit (R.GD_FAULT_LEAK n) j.val = true) ∧
        (r = .pass → m.bit (R.GD_LKCTL_PASS n) j.val = true ∧ m.bit (R.GD_LKCTL_REQ n) j.val = false) ∧
        (r ≠ .void → l.reh.sweepAsked[n].getLsbD j.val = true → m.reh.sweepAsked[n].getLsbD j.val = false ∧
          (l.switchSweepOk n j sweep = false → m.flag R.BI_EVT_SWFAIL = true))))

/-- The over-voltage stages OV1 to OVMAX (R146). -/
def Obligations.OverVoltageStages : Prop :=
  -- OV1_ENTER (R146)
  (∀ (e : At) (vm : Nat) (s : State), s.Powered e → Does (.ov1Enter e vm) s [.reg R.GD_VMSTAT, .reg R.GD_LEVT,
    .link] fun l m =>
      (vm < l.get R.GD_OVA_OV1 → m = l.showVm vm) ∧
      (l.get R.GD_OVA_OV1 ≤ vm → l.link.ov1 = false → m.flag R.GD_LEVT_OV1 = true ∧ m.link.ov1 = true ∧
        (l.chopperUsable = true → l.link.bchOnAt = none → m.get R.GD_VMSTAT_BCH = 1) ∧
        (∀ t, l.chopperUsable = true → l.link.bchOnAt = some t → t + us 20 ≤ l.now → m.get R.GD_VMSTAT_BCH = 1) ∧
        (∀ t, l.chopperUsable = true → l.link.bchOnAt = some t → l.now < t + us 20 → l.flag R.GD_VMSTAT_BCH = false →
          m.flag R.GD_VMSTAT_BCH = false ∧ m.link.bchHeld = true))) ∧
  -- OV1_RELEASE (R146)
  (∀ (e : At) (vm : Nat) (s : State), s.Powered e → Does (.ov1Release e vm) s [.reg R.GD_VMSTAT, .reg R.GD_CHON,
    .link] fun l m =>
      (l.get R.GD_OVA_OV1 < vm + l.get R.GD_OVH_CHH → m = l.showVm vm) ∧
      (l.link.ov2 = true ∨ l.link.ov3 = true ∨ l.link.ovmax = true → m = l.showVm vm) ∧
      (vm + l.get R.GD_OVH_CHH ≤ l.get R.GD_OVA_OV1 → l.link.ov1 = true → l.link.ov2 = false → l.link.ov3 = false →
        l.link.ovmax = false →
        m.link.ov1 = l.minOnRuns ∧ m.link.releaseHeld = l.minOnRuns ∧
          (l.minOnRuns = false → m.get R.GD_VMSTAT_BCH = 0))) ∧
  -- OV2_ENTER (R146)
  (∀ (e : At) (vm : Nat) (s : State), s.Powered e → Does (.ov2Enter e vm) s [.reg (R.DC_STAT 0), .reg (R.DC_EVT 0),
    .reg (R.DC_CNT 0), .reg (R.GD_STAT 0), .reg (R.GD_EVT 0), .reg R.GD_VMSTAT, .reg R.GD_LEVT, .axUs, .axSw,
    .axLeak, .link] fun l m =>
      (vm < l.get R.GD_OVA_OV2 → m = l.showVm vm) ∧
      (l.get R.GD_OVA_OV2 ≤ vm → l.link.ov2 = false → m.flag R.GD_LEVT_OV2 = true ∧ m.link.ov2 = true ∧
        m.regenOff = true ∧
        ∀ n : Axis, l.internal n = false → m.on n &&& highMask = 0)) ∧
  -- OV2_RELEASE (R146)
  (∀ (e : At) (vm : Nat) (s : State), s.Powered e → Does (.ov2Release e vm) s [.reg (R.DC_STAT 0), .reg (R.DC_EVT 0),
    .reg (R.DC_CNT 0), .reg (R.GD_STAT 0), .reg (R.GD_EVT 0), .reg (R.GD_CNT1 0), .reg R.GD_VMSTAT, .reg R.GD_CHON,
    .axUs, .axSw, .axLeak, .link] fun l m =>
      (vm + l.get R.GD_OVH_RELH ≤ l.get R.GD_OVA_OV2 → l.link.ov3 = false → l.link.ovmax = false → m.link.ov2 = false) ∧
      (l.link.ov3 = true ∨ l.link.ovmax = true → m = l.showVm vm) ∧
      (l.get R.GD_OVA_OV2 < vm + l.get R.GD_OVH_RELH → m.link.ov2 = l.link.ov2)) ∧
  -- OV3_ENTER (R146)
  (∀ (e : At) (vm : Nat) (s : State), s.Powered e → Does (.ov3Enter e vm) s [.reg R.BI_EVT, .reg (R.DC_STAT 0),
    .reg (R.GD_STAT 0), .reg (R.GD_EVT 0), .reg R.GD_VMSTAT, .reg R.GD_LEVT, .axUs, .axSw, .axLeak, .link,
    .reh] fun l m =>
      (vm < l.get R.GD_OVB_OV3 → m = l.showVm vm) ∧
      (l.get R.GD_OVB_OV3 ≤ vm → l.link.ov3 = false → m.flag R.GD_LEVT_OV3 = true ∧ m.link.ov3 = true ∧
        ∀ n : Axis, m.on n &&& highMask = 0 ∧ (l.atSpeed n = false → l.axst n ≠ .asc → m.on n = 0))) ∧
  -- OV3_RELEASE (R146)
  (∀ (e : At) (vm held : Nat) (s : State), s.Powered e →
    Does (.ov3Release ⟨e, held⟩ vm) s [.reg (R.DC_STAT 0), .reg (R.DC_EVT 0), .reg (R.DC_CNT 0), .reg (R.GD_STAT 0),
    .reg (R.GD_EVT 0), .reg (R.GD_CNT1 0), .reg R.GD_VMSTAT, .reg R.GD_CHON, .axUs, .axSw, .axLeak, .link] fun l m =>
      (l.link.ov3 = false ∨ l.link.ovmax = true → m = l.showVm vm) ∧ (held < 1000 → m = l.showVm vm) ∧
      (l.get R.GD_OVB_OV3 < vm + l.get R.GD_OVH_RELH → m = l.showVm vm) ∧
      (1000 ≤ held → l.link.ovmax = false → vm + l.get R.GD_OVH_RELH ≤ l.get R.GD_OVB_OV3 → m.link.ov3 = false)) ∧
  -- OVMAX (R146)
  (∀ (e : At) (vm : Nat) (s : State), s.Powered e → Does (.ovmax e vm) s (laneOutParts ++
    [.reg R.GD_VMSTAT, .reg R.GD_LEVT, .link]) fun l m =>
      (vm < l.get R.GD_OVB_OVMAX → m = l.showVm vm) ∧
      (l.get R.GD_OVB_OVMAX ≤ vm → l.link.ovmax = false →
        m.flag R.GD_LEVT_OVMAX = true ∧ m.lstate = .out ∧ ∀ n : Axis, m.on n = 0))

/-- The brake chopper (R149, R150, R151). -/
def Obligations.Chopper : Prop :=
  -- CHOPPER_FAULT (R149)
  (∀ (e : At) (s : State), s.Powered e → Does (.chopperFault e) s [.reg (R.DC_STAT 0), .reg (R.DC_EVT 0),
    .reg (R.DC_CNT 0), .reg (R.GD_STAT 0), .reg (R.GD_EVT 0), .reg (R.GD_CNT1 0), .reg R.GD_VMSTAT, .reg R.GD_LEVT,
    .reg R.GD_CHON, .axUs, .axSw, .axLeak, .link] fun l m =>
      (l.link.bchOnAt = none → m = l) ∧ (l.flag R.GD_VMSTAT_BCH = false → m = l) ∧
      (∀ t, l.link.bchOnAt = some t → l.flag R.GD_VMSTAT_BCH = true → t + us 2 ≤ l.now →
        m.flag R.GD_LEVT_CHFLT = true ∧ m.flag R.GD_LEVT_REGLOCK = true ∧ m.get R.GD_VMSTAT_BCH = 0 ∧
        m.get R.GD_VMSTAT_CHFLT = 1 ∧ m.get R.GD_VMSTAT_REGLOCK = 1)) ∧
  -- STUCK_CHOPPER (R150)
  (∀ (e : At) (held : Nat) (s : State), s.Powered e → Does (.stuckChopper ⟨e, held⟩) s (setOutParts ++
    [.reg R.GD_VMSTAT, .reg R.GD_LEVT]) fun l m =>
      (l.flag R.GD_VMSTAT_BCH = true → m = l) ∧ (held < 10 → m = l) ∧ (l.now ≤ l.link.bchOffAt + us 2 → m = l) ∧
      (10 ≤ held → l.flag R.GD_VMSTAT_BCH = false → l.link.bchOffAt + us 2 < l.now →
        m.flag R.GD_LEVT_STUCK = true ∧ m.get R.GD_VMSTAT_STUCK = 1 ∧ ∀ n : Axis, m.inService n = false)) ∧
  -- CHOPPER_MIN_ON_END (R151)
  (∀ (e : At) (s : State), s.Powered e → Does (.chopperMinOnEnd e) s [.reg R.GD_VMSTAT, .reg R.GD_CHON,
    .link] fun l m =>
      (l.flag R.GD_VMSTAT_BCH = false → m = l) ∧ (l.minOnRuns = true → m = l) ∧
      (l.flag R.GD_VMSTAT_BCH = true → l.minOnRuns = false → l.link.releaseHeld = false → m = l.raise R.GD_VMSTAT_BCS) ∧
      (l.flag R.GD_VMSTAT_BCH = true → l.minOnRuns = false → l.link.releaseHeld = true →
        m.link.ov1 = false ∧ m.get R.GD_VMSTAT_BCH = 0)) ∧
  -- CHOPPER_INTERVAL_END (R151)
  (∀ (e : At) (s : State), s.Powered e → Does (.chopperIntervalEnd e) s [.reg R.GD_VMSTAT, .link] fun l m =>
      (l.link.bchHeld = false → m = l) ∧ (l.link.ov1 = false → m = l) ∧
      (∀ t, l.link.bchOnAt = some t → t + us 20 ≤ l.now → l.link.bchHeld = true → l.link.ov1 = true →
        l.chopperUsable = true → m.get R.GD_VMSTAT_BCH = 1))

/-- Count edges, the index pulse, probes and stall (R161, R170, R181, R185). -/
def Obligations.EncoderFeedback : Prop :=
  -- COUNT_EDGE (R161)
  (∀ (e : At) (n : Axis) (edge : EdgeIn) (s : State), s.Runs e →
    Does (.countEdge e n edge) s (setOutParts ++ [.reg (R.FB_STAT 0), .reg (R.FB_EVT 0), .reg (R.FB_POS 0),
    .reg (R.FB_SPEED 0), .reg (R.FB_STEP 0), .fresh, .axFb]) fun l m =>
      (∀ r h, edge = .a r h → filterPasses (l.get (R.FB_FILT_QGLT n)) h = false → m = l) ∧
      (∀ r h, edge = .b r h → filterPasses (l.get (R.FB_FILT_QGLT n)) h = false → m = l) ∧
      (∀ r h, edge = .a r h → l.levelA n = r → m = l) ∧ (∀ r h, edge = .b r h → l.levelB n = r → m = l) ∧
      (∀ r h, edge = .a r h → filterPasses (l.get (R.FB_FILT_QGLT n)) h = true → l.levelA n ≠ r →
        (l.get (R.FB_CFG_INC n) = 1 → m.get (R.FB_POS_POS n) = (((l.get (R.FB_POS_POS n) : Int) +
          (if (l.levelB n != r) = l.flag (R.FB_CFG_CNTINV n) then -1 else 1)) % 4294967296).toNat) ∧
        (l.get (R.FB_CFG_INC n) = 2 → r = true → (l.fb n).bAt + ns 50 ≤ l.edgeStamp n →
          m.get (R.FB_POS_POS n) = (((l.get (R.FB_POS_POS n) : Int) +
            (if l.levelB n = l.flag (R.FB_CFG_CNTINV n) then -1 else 1)) % 4294967296).toNat) ∧
        (l.get (R.FB_CFG_INC n) = 2 → r = true →
          m.get (R.FB_POS_POS n) = (((l.get (R.FB_POS_POS n) : Int) + 1) % 4294967296).toNat ∨
          m.get (R.FB_POS_POS n) = (((l.get (R.FB_POS_POS n) : Int) - 1) % 4294967296).toNat) ∧
        (l.get (R.FB_CFG_INC n) = 3 → r = true → m.get (R.FB_POS_POS n) = (((l.get (R.FB_POS_POS n) : Int) +
          (if l.flag (R.FB_CFG_CNTINV n) then -1 else 1)) % 4294967296).toNat) ∧
        (l.get (R.FB_CFG_INC n) = 0 → m = l.putBit (R.FB_STAT_ABZ n) 2 r) ∧
        (2 ≤ l.get (R.FB_CFG_INC n) → r = false → m = l.putBit (R.FB_STAT_ABZ n) 2 false)) ∧
      (∀ r h, edge = .b r h → filterPasses (l.get (R.FB_FILT_QGLT n)) h = true → l.levelB n ≠ r →
        m.levelB n = r ∧ (m.fb n).bAt = l.edgeStamp n ∧
        (l.get (R.FB_CFG_INC n) = 1 → m.get (R.FB_POS_POS n) = (((l.get (R.FB_POS_POS n) : Int) +
          (if (l.levelA n == r) = l.flag (R.FB_CFG_CNTINV n) then -1 else 1)) % 4294967296).toNat) ∧
        (l.get (R.FB_CFG_INC n) = 3 → r = true → m.get (R.FB_POS_POS n) = (((l.get (R.FB_POS_POS n) : Int) +
          (if l.flag (R.FB_CFG_CNTINV n) then 1 else -1)) % 4294967296).toNat)) ∧
      (∀ ra rb first sp ha hb, edge = .pair ra rb first sp ha hb → filterPasses (l.get (R.FB_FILT_QGLT n)) ha = true →
        filterPasses (l.get (R.FB_FILT_QGLT n)) hb = true → l.levelA n ≠ ra → l.levelB n ≠ rb →
          l.get (R.FB_CFG_INC n) = 1 →
        (sp < 5 → m.get (R.FB_POS_POS n) = l.get (R.FB_POS_POS n) ∧ m.flag (R.FB_EVT_STEPF n) = true) ∧
        (30 < sp → m.get (R.FB_POS_POS n) = (((l.get (R.FB_POS_POS n) : Int) +
          (if ((ra == rb) == first) = l.flag (R.FB_CFG_CNTINV n) then -2 else 2)) % 4294967296).toNat))) ∧
  -- INDEX_PULSE (R170)
  (∀ (e : At) (n : Axis) (rise : Bool) (ab : BitVec 2) (held : Nat) (s : State), s.Runs e →
    Does (.indexPulse ⟨e, rise, held⟩ n ab) s (setOutParts ++
    [.reg (R.FB_STAT 0), .reg (R.FB_EVT 0), .reg (R.FB_POS 0), .reg (R.FB_IDXERR 0), .axFb]) fun l m =>
      (filterPasses (l.get (R.FB_FILT_QGLT n)) held = false → m = l) ∧
      (filterPasses (l.get (R.FB_FILT_QGLT n)) held = true →
        (rise = false → m = l.putBit (R.FB_STAT_ABZ n) 0 false) ∧
        (l.bit (R.FB_STAT_ABZ n) 0 = true → m = l.putBit (R.FB_STAT_ABZ n) 0 rise) ∧
        (l.flag (R.FB_IDX_EN n) = false → m = l.putBit (R.FB_STAT_ABZ n) 0 rise) ∧
        (l.get (R.FB_IDX_GATE n) ≠ ab.toNat → m = l.putBit (R.FB_STAT_ABZ n) 0 rise) ∧
        (rise = true → l.bit (R.FB_STAT_ABZ n) 0 = false → l.flag (R.FB_IDX_EN n) = true →
          l.get (R.FB_IDX_GATE n) = ab.toNat →
          m.get (R.FB_POS_POS n) = (((l.get (R.FB_POS_POS n) : Int) + l.indexDistance n) % 4294967296).toNat ∧
          (m.fb n).sinceIndex = some 0 ∧ (m.fb n).faultsSince = 0 ∧
          (l.indexDistance n ≠ 0 → m.flag (R.FB_EVT_REREF n) = true)))) ∧
  -- PRBARM (R181)
  (∀ (e : At) (n : Axis) (sel : BitVec 2) (s : State), s.Runs e →
    Does (.prbarm e n sel) s [.reg (R.FB_CTRL 0), .reg (R.FB_STAT 0), .axFb] fun _ m =>
      m.get (R.FB_CTRL_PRBEDGE n) = sel.toNat ∧ m.get (R.FB_STAT_PRBFULL n) = 0 ∧ (m.fb n).armed = true) ∧
  -- PROBE_EDGE (R181)
  (∀ (e : At) (n : Axis) (rising : Bool) (held : Nat) (s : State), s.Runs e →
    Does (.probeEdge ⟨e, held⟩ n rising) s [.reg (R.FB_STAT 0), .reg (R.FB_EVT 0), .reg (R.FB_PRBPOS 0),
    .reg (R.FB_PRBTS0 0), .reg (R.FB_PRBTS1 0), .fresh, .axFb] fun l m =>
      (filterPasses (l.get (R.FB_FILT_PGLT n)) held = false → m = l) ∧
      (l.bit (R.FB_CTRL_PRBEDGE n) (if rising then 0 else 1) = false → m = l) ∧
      (filterPasses (l.get (R.FB_FILT_PGLT n)) held = true →
        l.bit (R.FB_CTRL_PRBEDGE n) (if rising then 0 else 1) = true →
        (l.get (R.FB_STAT_PRBFULL n) = 1 → m.flag (R.FB_EVT_PRBOVF n) = true ∧
          m.word (R.FB_PRBPOS n) = l.word (R.FB_PRBPOS n)) ∧
        (l.get (R.FB_STAT_PRBFULL n) = 0 → (l.fb n).armed = false → m = l) ∧
        (l.get (R.FB_STAT_PRBFULL n) = 0 → (l.fb n).armed = true →
          m.flag (R.FB_EVT_PRB n) = true ∧ m.get (R.FB_STAT_PRBFULL n) = 1 ∧ (m.fb n).armed = false ∧
          m.get (R.FB_PRBTS0_QNS n) = l.stampNow % 4 ∧ m.get (R.FB_PRBTS0_NS n) = l.stampNow / 4 % 1000000000))) ∧
  -- STALL (R185)
  (∀ (e : At) (n : Axis) (s : State), s.Runs e → Does (.stall e n) s [.reg (R.FB_STAT 0), .reg (R.FB_EVT 0),
    .reg (R.FB_SPEED 0), .axFb] fun l m =>
      ((l.fb n).stamps = [] → m = l) ∧
      (∀ t r, (l.fb n).stamps = t :: r → l.now < t + ms (l.get (R.FB_SPDCFG_STALL n)) → m = l) ∧
      (∀ t r, (l.fb n).stamps = t :: r → l.get (R.FB_CFG_INC n) ≠ 0 →
        t + ms (l.get (R.FB_SPDCFG_STALL n)) ≤ l.now →
        m.flag (R.FB_EVT_STALL n) = true ∧ m.get (R.FB_STAT_STILL n) = 1 ∧ (m.fb n).measured = 0))

/-- Serial frames, renegotiation, Hall inputs and line faults (R175, R176, R180, R189). -/
def Obligations.SerialAndHall : Prop :=
  -- SERIAL_FRAME_SEND (R175)
  (∀ (e : At) (n : Axis) (s : State), s.Runs e → Does (.serialFrameSend e n) s [.axFb] fun l m =>
      (l.get (R.FB_CFG_SER n) = 0 → m = l) ∧ (l.periodOver n = false → m = l) ∧
      (l.flag (R.FB_STAT_SERLOCK n) = false → (l.fb n).serial.negotiating = false → m = l) ∧
      (l.get (R.FB_CFG_SER n) ≠ 0 → l.periodOver n = true →
        (l.flag (R.FB_STAT_SERLOCK n) = true ∨ (l.fb n).serial.negotiating = true) →
        (m.fb n).serial.latched = some (BitVec.ofNat 32 (l.get (R.FB_POS_POS n)), l.now) ∧
        (m.fb n).serial.sentAt = some l.now)) ∧
  -- SERIAL_FRAME (R176)
  (∀ (e : At) (n : Axis) (f : SerialFrameIn) (s : State), s.Runs e →
    Does (.serialFrame e n f) s (setOutParts ++ [.block 8, .axFb, .trust]) fun l m =>
      ((l.fb n).serial.latched = none → m = l) ∧
      ((l.fb n).serial.latched ≠ none →
        (m.fb n).serial.latched = none ∧ m.get (R.FB_SERCNT_DLY n) = min 2047 f.delay ∧
        ((l.fb n).serial.negotiating = false → (f.inTime && l.frameCrcOk n f && !l.frameErr n f) = false →
          m.flag (R.FB_EVT_SERBAD n) = true ∧
          m.get (R.FB_SERCNT_BAD n) = min (l.get (R.FB_SERCNT_BAD n) + 1) 65535 ∧
          (m.fb n).serial.bad = (l.fb n).serial.bad + 1) ∧
        ((l.fb n).serial.negotiating = false → (f.inTime && l.frameCrcOk n f && !l.frameErr n f) = true →
          (m.fb n).serial.bad = 0 ∧ m.get (R.FB_SERPOS_POS n) = l.frameCounts n f ∧ m.get (R.FB_STAT_REF n) = 1) ∧
        ((l.fb n).serial.negotiating = true → (f.inTime && l.frameCrcOk n f && !l.frameErr n f) = true →
          m.get (R.FB_SERPOS_POS n) = l.frameCounts n f ∧
          (63 ≤ (l.fb n).serial.clean → m.get (R.FB_STAT_SERLOCK n) = 1 ∧ (m.fb n).serial.negotiating = false)) ∧
        ((l.fb n).serial.negotiating = true → (f.inTime && l.frameCrcOk n f && !l.frameErr n f) = false →
          (m.fb n).serial.clean = 0 ∧
          (f.delay ≤ 2000 → (l.fb n).serial.frames < 255 → (m.fb n).serial.frames = (l.fb n).serial.frames + 1) ∧
          (2000 < f.delay ∨ 255 ≤ (l.fb n).serial.frames → (m.fb n).serial.frames = 0)))) ∧
  -- RENEG (R175)
  (∀ (e : At) (n : Axis) (s : State), s.Runs e → Does (.reneg e n) s (setOutParts ++
    [.reg (R.FB_STAT 0), .reg (R.FB_EVT 0), .reg (R.FB_SERCNT 0), .axFb]) fun l m =>
      (l.mode ≠ .hold → l.mode ≠ .workshop → m = l) ∧ (l.get (R.FB_CFG_SER n) = 0 → m = l) ∧
      (l.mode = .hold ∨ l.mode = .workshop → l.get (R.FB_CFG_SER n) ≠ 0 →
        m.get (R.FB_STAT_REF n) = 0 ∧ m.get (R.FB_STAT_SERLOCK n) = 0 ∧ m.get (R.FB_SERCNT_BAD n) = 0 ∧
        m.get (R.FB_STAT_VALID n) = 0 ∧ (m.fb n).serial.negotiating = true ∧
        (m.fb n).serial.rate = l.get (R.FB_SER0_RMAX n))) ∧
  -- HALL_TRANSITION (R180)
  (∀ (e : At) (n : Axis) (code : BitVec 3) (s : State), s.Runs e →
    Does (.hallTransition e n code) s (setOutParts ++ [.reg (R.FB_STAT 0), .reg (R.FB_EVT 0), .fresh, .axFb]) fun l m =>
      m.get (R.FB_STAT_HALL n) = code.toNat ∧
      (l.get (R.FB_STAT_HALL n) ≠ code.toNat → (m.fb n).hallAt = l.now) ∧
      (∀ a b k, l.flag (R.FB_CFG_HALLEN n) = true → hallSector (l.get (R.FB_STAT_HALL n)) = some a →
        hallSector code.toNat = some b → hallBoundary a b = some k →
        ((l.get (R.FB_HALL_HTOL n) : Rat) < ratAbs (angleDiff (65536 / 6 * (k : Rat) + (l.get (R.FB_HALL_HOFS n) :
          Rat) -
            (l.thetaEnc n + (l.get (R.DC_THOFS_OFS n) : Rat)))) →
          m.flag (R.FB_EVT_HALLDEV n) = true ∧ (m.fb n).hallDevs = (l.fb n).hallDevs + 1 ∧ (m.fb n).hallGood = 0) ∧
        (ratAbs (angleDiff (65536 / 6 * (k : Rat) + (l.get (R.FB_HALL_HOFS n) : Rat) -
            (l.thetaEnc n + (l.get (R.DC_THOFS_OFS n) : Rat)))) ≤ (l.get (R.FB_HALL_HTOL n) : Rat) →
          (m.fb n).hallDevs = 0 ∧ (m.fb n).hallGood = (l.fb n).hallGood + 1))) ∧
  -- HALL_INVALID (R180)
  (∀ (e : At) (n : Axis) (s : State), s.Runs e → Does (.hallInvalid e n) s (setOutParts ++
    [.reg (R.FB_STAT 0), .reg (R.FB_EVT 0), .axFb]) fun l m =>
      (l.flag (R.FB_CFG_HALLEN n) = false → m = l) ∧ (l.now < (l.fb n).hallAt + ms 1 → m = l) ∧
      (l.flag (R.FB_CFG_HALLEN n) = true → l.get (R.FB_STAT_HALL n) = 0 ∨ l.get (R.FB_STAT_HALL n) = 7 →
        (l.fb n).hallAt + ms 1 ≤ l.now → m.flag (R.FB_EVT_HALLBAD n) = true ∧ m.get (R.FB_STAT_VALID n) = 0)) ∧
  -- LINE_FAULT (R189)
  (∀ (e : At) (n : Axis) (line : FbLine) (vid : Int) (held : Nat) (s : State), s.Runs e →
    Does (.lineFault ⟨e, vid, held⟩ n line) s (setOutParts ++ [.reg (R.FB_STAT 0), .reg (R.FB_EVT 0), .axFb]) fun l m =>
      (100 ≤ vid.natAbs → m = l) ∧ (held < 1000 → m = l) ∧
      (vid.natAbs < 100 → 1000 ≤ held → m.flag (R.FB_EVT_LINE n) = true ∧ m.get (R.FB_STAT_VALID n) = 0 ∧
        (m.fb n).lineBad.getLsbD (lineNo line).val = true)) ∧
  -- LINE_GOOD (R189)
  (∀ (e : At) (n : Axis) (line : FbLine) (held : Nat) (s : State), s.Runs e →
    Does (.lineGood ⟨e, line, held⟩ n) s [.axFb] fun l m =>
      m.regs = l.regs ∧ (held < 1000 → m = l) ∧ (l.now < (l.fb n).lineAt[(lineNo line)] + ms 1 → m = l) ∧
      (1000 ≤ held → (l.fb n).lineAt[(lineNo line)] + ms 1 ≤ l.now →
        (m.fb n).lineBad.getLsbD (lineNo line).val = false))

/-- The beat, the receive deadline, dropped loops and lockstep (R29, R30, R32, R215, R216). -/
def Obligations.BeatAndLockstep : Prop :=
  -- BEAT_START (R29)
  (∀ (e : At) (ms : Measured) (s : State), s.Runs e → Does (.beatStart e ms) s beatParts fun l m =>
      m.wing.beatAt = l.now ∧ m.wing.closed = false ∧ m.wing.beatNo = (l.ltime + ltUs 25) / ltUs 50 ∧
      m.wing.got = Vector.replicate 2 none ∧ (m.lstate ≠ .out → ∃ x, m.wing.own = some x) ∧
      (l.wing.agreed = [] → ∀ n : Axis, m.get (R.FB_BPOS_POS n) = l.get (R.FB_POS_POS n) ∧
        m.get (R.FB_BHI_BSEQ n) = (l.get (R.FB_BHI_BSEQ n) + 1) % 256 ∧
        m.get (R.FB_BHI_WRAP n) = (l.ax n).fb.wraps.toNat)) ∧
  -- RECEIVE_DEADLINE (R30)
  (∀ (e : At) (s : State), s.Runs e → Does (.receiveDeadline e) s (setOutParts ++
    [.reg R.BX_EVT, .block 4, .reg (R.DC_TREF 0), .reg (R.DC_TQLIM 0), .reg (R.DC_PSI 0), .reg (R.LE_EVT 0),
    .reg (R.LE_PLS1 0), .reg R.TM_STAT, .reg R.TM_EVT, .reg R.TM_INCR, .reg R.TM_APPL, .reg (R.CB_PEND 0),
    .reg (R.CB_PRES 0), .reg R.SF_STAT, .reg R.SF_EVT, .reg R.KP_STAT, .reg R.KP_EVT, .reg R.KP_REVOKE,
    .reg (R.CT_EVT 0), .reg (R.CT_LIFE_LO 0), .reg (R.CT_LIFE_HI 0), .fresh, .stage, .trust, .trio, .box,
    .tm]) fun l m =>
      (l.wing.closed = true → m = l) ∧ (l.now < l.wing.beatAt + us 24 → m = l) ∧
      (l.wing.closed = false → l.wing.beatAt + us 24 ≤ l.now →
        m.wing.closed = true ∧ m.wing.mask.getLsbD (laneNum l.id) = true ∧
        (∀ p : Peer, m.wing.mask.getLsbD (laneNum (peerLane l.id p)) = l.wing.got[p].isSome) ∧
        (l.wing.firstHold = true → l.box.agreeDrop ≠ some l.wing.beatNo →
          ((l.flushLinks.closeBeat.decideRelay).judgeLoss l.wing.missed).lstate ≠ .out →
          m.wing.values = ((l.flushLinks.closeBeat.decideRelay).judgeLoss l.wing.missed).agreeAll))) ∧
  -- LOOP_DEADLINE_DROP (R32)
  (∀ (e : At) (k : DropKind) (s : State), s.Runs e → Does (.loopDeadlineDrop e k) s (laneOutParts ++
    [.reg R.BX_EVT, .reg R.BX_DROP, .reg (R.DC_EVT 0), .reg (R.DC_CNT 0), .reg (R.DC_TREF 0), .reg (R.DC_TQLIM 0),
    .reg (R.DC_PSI 0), .reg (R.LE_STAT 0), .reg (R.LE_EVT 0), .reg (R.LE_WREF 0), .reg (R.LE_OUT 0),
    .reg (R.LE_INT 0), .reg (R.LE_CNT 0), .loops, .box]) fun l m =>
      (∀ n, k = .loops n → l.wing.closed = true → m = l) ∧
      (∀ n, k = .loops n → (l.lp n).dropped = true → m = l) ∧
      (∀ n, k = .loops n → l.wing.closed = false → (l.lp n).dropped = false →
        m.flag (R.LE_EVT_DROP n) = true ∧ m.get (R.LE_OUT_PROP n) = 0 ∧ m.get (R.LE_STAT_PROPV n) = 0 ∧
        (m.lp n).io = (l.lp n).saved.1 ∧ (m.lp n).iw = (l.lp n).saved.2.1) ∧
      (k = .agreement → l.box.agreeDrop = some l.wing.beatNo → m = l) ∧
      (k = .agreement → l.box.agreeDrop ≠ some l.wing.beatNo → m.box.agreeDrop = some l.wing.beatNo ∧
        (l.wing.closed = true → m.wing.values = l.wing.prior.values ∧ m.wing.nax = l.wing.prior.nax ∧
          ∀ n : Axis, (m.lp n).io = l.wing.prior.ints[n].1 ∧ (m.lp n).iw = l.wing.prior.ints[n].2) ∧
        (l.wing.closed = false → m.wing.values = l.wing.values ∧ m.wing.nax = l.wing.nax) ∧
        (l.box.agreeDrop = some (l.wing.beatNo - 1) → l.wing.beatNo ≠ 0 → m.box.zeroRefs = true ∧
          ∀ n : Axis, m.get (R.DC_TREF_SHARE n) = 0)) ∧
      (∀ id, k = .task id → ((l.trust.book.bind (·.tasks)).getD [])[id]? = none → m = l) ∧
      (∀ id t, k = .task id → ((l.trust.book.bind (·.tasks)).getD [])[id]? = some t →
        m.get R.BX_DROP_TASK = id % 16384 ∧ m.get R.BX_DROP_TOTAL = min (l.get R.BX_DROP_TOTAL + 1) 65535)) ∧
  -- LOCKSTEP_MISMATCH (R215)
  (∀ (e : At) (s : State), s.Runs e → Does (.lockstepMismatch e) s (laneOutParts ++
    [.reg R.LC_ENGSTAT, .reg R.LE_LSTAT, .reg R.LE_LEVT, .trio]) fun l m =>
      m.flag R.LE_LEVT_LSMIS = true ∧ m.get R.LE_LSTAT_RUN = 0 ∧ m.lstate = .out ∧
      m.bit R.LC_ENGSTAT_UNUS 3 = true ∧ m.bit R.LC_ENGSTAT_UNUS 4 = true) ∧
  -- LOCKSTEP_INJECTION (R216)
  (∀ (e : At) (detected : Bool) (s : State), s.Runs e →
    Does (.lockstepInjection e detected) s (laneOutParts ++ [.reg R.LE_LSTAT, .reg R.LE_LEVT, .trio]) fun l m =>
      (l.injectionDue = false → m = l) ∧
      (l.injectionDue = true → m.get R.LE_LSTAT_TESTHIT = detected.toNat ∧ m.trio.injectedAt = l.mode_.cycle ∧
        (detected = false → m.flag R.LE_LEVT_TESTMISS = true ∧ m.lstate = .out)))

/-- Voting of the trio, resynchronisation, pace spread and the exercise (R224, R225, R226, R236, R237, R229, R244, R249). -/
def Obligations.TrioVoting : Prop :=
  -- VOTE_COPY (R224)
  (∀ (e : At) (c : Core) (x : Txn) (run : Fin 65) (selfOk : Bool) (s : State), s.Runs e →
    Does (.voteCopy ⟨e, run⟩ c x selfOk) s (beatParts ++ [.stage]) fun l m =>
      (l.trioMode = .halted → m = l) ∧
      (l.trio.slots = [] → l.coreVotes c = false → l.trio.lateOf = none → m = l) ∧
      (l.trioMode ≠ .halted → l.coreVotes c = true → (∀ d : Core, l.trio.cores[d].held = none) →
        l.trio.cores[c].next = l.trio.number →
        (l.trio.slots = [] → l.trio.exercise = none →
          m.trio.slots = [⟨[⟨c, x, l.now⟩], none, 0, 0, none, none⟩] ∧ m.trio.cores[c].next = l.trio.number + 1 ∧
          m.trio.cores[c].run = run ∧ m.regs = l.regs) ∧
        (∀ q a, l.trio.slots = [q] → q.copies = [a] → q.ex = none → q.delayed = none → q.decided = none →
          (l.trioMode = .trio → a.txn = x → selfOk = true →
            (m.trio.slots.map (·.decided)).head? = some (some (x, l.now)) ∧
              m.trio.presented = l.trio.presented + l.trio.waiting) ∧
          (l.trioMode = .trio → a.txn = x → selfOk = false → m.flag R.TV_EVT_VOTERR = true ∧ m.lstate = .out) ∧
          (l.trioMode ≠ .trio → a.txn ≠ x → m.flag R.TV_EVT_PAIRMIS = true ∧ m.lstate = .out) ∧
          (l.trioMode ≠ .trio → l.now ≤ a.at_ + l.window → a.txn = x → selfOk = true →
            (x.kind ≠ 2 → m.trio.slots = [] ∧ m.trio.number = l.trio.number + 1) ∧
            (x.kind.val ≤ 1 → m.trio.file = fileWrite x l.trio.file))) ∧
        (∀ q a b, l.trioMode = .trio → l.trio.slots = [q] → q.copies = [a, b] → q.ex = none → q.delayed = none →
          q.decided = none → a.txn ≠ b.txn →
          (b.at_ + ns 32 < l.now → m.flag R.TV_EVT_NOMAJ = true ∧ m.lstate = .out) ∧
          (x ≠ a.txn → x ≠ b.txn → m.flag R.TV_EVT_NOMAJ = true ∧ m.lstate = .out) ∧
          (l.now ≤ b.at_ + ns 32 → x = a.txn → selfOk = true →
            m.flag R.TV_EVT_ODDDIFF = true ∧ m.get R.TV_LASTODD_CORE = b.core.val ∧
              (x.kind ≠ 2 → m.trio.number = l.trio.number + 1) ∧
            (x.kind.val ≤ 1 → m.trio.file = fileWrite x l.trio.file))) ∧
        (∀ q t, l.trioMode = .trio → l.trio.slots = [q] → q.decided = some (x, t) → q.ex = none → q.delayed = none →
          l.now ≤ t + l.window → (x.kind ≠ 2 → m.trio.slots = [] ∧ m.trio.number = l.trio.number + 1) ∧
          (x.kind.val ≤ 1 → m.trio.file = fileWrite x l.trio.file)) ∧
        (∀ q y t, l.trioMode = .trio → l.trio.slots = [q] → q.decided = some (y, t) → y ≠ x → q.ex = none →
          q.delayed = none →
          l.now ≤ t + l.window → m.flag R.TV_EVT_ODDDIFF = true ∧ m.get R.TV_LASTODD_CORE = c.val ∧
          (y.kind ≠ 2 → m.trio.number = l.trio.number + 1)))) ∧
  -- LAGGARD_WINDOW_CLOSE (R225)
  (∀ (e : At) (s : State), s.Runs e → Does (.laggardWindowClose e) s (beatParts ++ [.stage]) fun l m =>
      (l.trioMode = .halted → m = l) ∧ (l.trio.slots = [] → m = l) ∧
      (∀ q x t, l.trioMode = .trio → l.trio.slots = [q] → q.decided = some (x, t) → q.ex = none →
        (l.now < t + l.window → m = l) ∧
        (t + l.window ≤ l.now → m.flag R.TV_EVT_ODDLATE = true ∧ m.get R.TV_LASTODD_CORE = q.absent.val ∧
          (x.kind ≠ 2 → m.trio.number = l.trio.number + 1) ∧ (x.kind.val ≤ 1 →
            m.trio.file = fileWrite x l.trio.file))) ∧
      (∀ q a b, l.trioMode = .trio → l.trio.slots = [q] → q.decided = none → q.copies = [a, b] → q.ex = none →
        q.delayed = none →
        (l.now < b.at_ + ns 32 → m = l) ∧
        (b.at_ + ns 32 ≤ l.now → m.flag R.TV_EVT_NOMAJ = true ∧ m.lstate = .out)) ∧
      (∀ q a, l.trioMode = .pair ∨ l.trioMode = .resync → l.trio.slots = [q] → q.copies = [a] → q.ex = none →
        (l.now < a.at_ + l.window → m = l) ∧
        (a.at_ + l.window ≤ l.now → m.flag R.TV_EVT_PAIRMIS = true ∧ m.lstate = .out))) ∧
  -- LONE_COPY_TIMEOUT (R226)
  (∀ (e : At) (s : State), s.Runs e → Does (.loneCopyTimeout e) s (beatParts ++ [.stage]) fun l m =>
      (l.trioMode ≠ .trio → m = l) ∧ (l.trio.slots = [] → m = l) ∧
      (∀ q a, l.trioMode = .trio → l.trio.slots.getLast? = some q → q.copies = [a] → q.decided = none →
        q.delayed = none →
        (l.now < a.at_ + us 1 → m = l) ∧
        (a.at_ + us 1 ≤ l.now → m.flag R.TV_EVT_NOMAJ = true ∧ m.lstate = .out))) ∧
  -- RESYNC_COMPLETE (R236)
  (∀ (e : At) (pc : Word) (s : State), s.Runs e → Does (.resyncComplete ⟨e, pc⟩) s [.reg R.LC_ENGSTAT,
    .reg R.TV_STAT, .reg R.TV_EVT, .reg R.TV_RSCNT, .reg R.TV_RECENT, .log, .trio] fun l m =>
      (l.trioMode ≠ .resync → m = l) ∧
      (l.trioMode = .resync → l.trio.resyncAt + (us 8 + 1) ≤ l.now → m.flag R.TV_EVT_RSTMO = true ∧
        m.get R.TV_STAT_MODE = 2) ∧
      (l.trioMode = .resync → l.now ≤ l.trio.resyncAt + us 8 → l.trio.slots ≠ [] → m = l) ∧
      (l.trioMode = .resync → l.now ≤ l.trio.resyncAt + us 8 → l.trio.slots = [] →
        m.flag R.TV_EVT_RSDONE = true ∧ m.get R.TV_STAT_MODE = 0 ∧
        m.trio.cores[l.joining].next = l.trio.number ∧ m.trio.cores[l.joining].file = l.trio.file ∧
        m.trio.cores[l.joining].point = pc.setWidth 64)) ∧
  -- RESYNC_TIMEOUT (R237)
  (∀ (e : At) (s : State), s.Runs e → Does (.resyncTimeout e) s [.reg R.LC_ENGSTAT, .reg R.TV_STAT, .reg R.TV_EVT,
    .log] fun l m =>
      (l.trioMode ≠ .resync → m = l) ∧ (l.now < l.trio.resyncAt + us 8 → m = l) ∧
      (l.trioMode = .resync → l.trio.resyncAt + us 8 ≤ l.now →
        m.flag R.TV_EVT_RSTMO = true ∧ m.flag R.TV_EVT_UNUSABLE = true ∧ m.get R.TV_STAT_MODE = 2 ∧
        m.bit R.TV_STAT_UNUS l.joining.val = true)) ∧
  -- SPREAD_HIGH (R229)
  (∀ (e : At) (s : State), s.Runs e → Does (.spreadHigh e) s [.reg R.TV_EVT, .power] fun l m =>
      (l.trio.spreadSince = none → m = l) ∧
      (∀ t, l.trio.spreadSince = some t → t + us 20 ≤ l.now → m.flag R.TV_EVT_SPREADHI = true)) ∧
  -- SPREAD_PERSIST (R229)
  (∀ (e : At) (s : State), s.Runs e → Does (.spreadPersist e) s laneOutParts fun l m =>
      (l.trio.spreadSince = none → m = l) ∧ (l.power.maxSince = none → m = l) ∧
      (∀ t u, l.trio.spreadSince = some t → t + us 100 ≤ l.now → l.power.maxSince = some u → u + us 100 ≤ l.now →
        m.lstate = .out)) ∧
  -- EXERCISE (R244)
  (∀ (e : At) (missed : Bool) (s : State), s.Runs e → Does (.exercise e missed) s [.reg R.TV_EXER, .trio] fun l m =>
      (l.exerciseDue = false → m = l) ∧ (l.trioMode = .halted → m = l) ∧
      (l.exerciseDue = true → l.trioMode = .resync → m.trio.exDeferred = true ∧ m.trio.exercise = l.trio.exercise) ∧
      (l.exerciseDue = true → l.trioMode = .trio →
        m.trio.exNow = false ∧ m.trio.exDeferred = false ∧ m.trio.exercisedAt = l.mode_.cycle ∧
        m.get R.TV_EXER_NEXT = l.get R.TV_EXER_NEXT ∧
        (l.trio.slots.all (fun q => q.decided.isSome) = true →
          m.trio.exercise = some ⟨l.get R.TV_EXER_NEXT / 3 % 40, l.exerciseCore (l.get R.TV_EXER_NEXT), missed⟩))) ∧
  -- EXNOW (R249)
  (∀ (e : At) (s : State), s.Runs e → Does (.exnow e) s [.trio] fun l m =>
      (l.mode ≠ .workshop → m = l) ∧ (l.mode = .workshop → m.trio.exNow = true ∧ m.regs = l.regs))

/-- Wing links: frames, silence, summaries and training (R251, R255, R256, R258, R289). -/
def Obligations.WingLinks : Prop :=
  -- CORRUPTED_FRAME (R251)
  (∀ (e : At) (p : Peer) (raw : List Byte) (s : State), s.Runs e →
    Does (.corruptedFrame ⟨e, raw⟩ p) s [.reg R.WG_STAT, .reg R.WG_EVT, .reg R.WG_P1CNT, .reg R.WG_P2CNT,
    .wing] fun l m =>
      (l.linkIgnored p = true → m = l) ∧ (l.linkIgnored p = false → frameOk raw = true → m = l.aliveLink p) ∧
      (l.linkIgnored p = false → frameOk raw = false →
        (p = 0 → m.get R.WG_P1CNT_CRC = min (l.get R.WG_P1CNT_CRC + 1) 255) ∧
        (p = 1 → m.get R.WG_P2CNT_CRC = min (l.get R.WG_P2CNT_CRC + 1) 255) ∧ m.wing.got = l.wing.got ∧
        (l.linkMode p = .up → 15 ≤ l.wing.links[p].failed → m.flag R.WG_EVT_LLOST = true))) ∧
  -- FRAME_RESEND (R255)
  (∀ (e : At) (p : Peer) (s : State), s.Runs e → Does (.frameResend e p) s [.reg R.WG_STAT, .reg R.WG_EVT, .emit,
    .wing] fun l m =>
      (l.wing.links[p].unacked = [] → m = l) ∧
      ((∃ x ∈ l.wing.links[p].unacked, 2 ≤ x.repeats ∧ x.sentAt + us 20 ≤ l.now) →
        m.flag R.WG_EVT_LLOST = true ∧ m.linkMode p = if l.wing.links[p].lostCount < 3 then .lost else .down) ∧
      ((∀ x ∈ l.wing.links[p].unacked, x.repeats < 2) →
        (l.quiet = true → m = l) ∧
        (l.quiet = false → m.regs = l.regs ∧ m.wing.links[p].unacked = l.wing.links[p].unacked.map fun u =>
          if l.since u.sentAt (us 20) then { u with sentAt := l.now, repeats := u.repeats + 1 } else u) ∧
        (∀ w, l.quiet = false → l.wing.links[p].unacked = [w] → w.sentAt + us 20 ≤ l.now →
          m.emit = (l.emitFrame p w.seq w.frame).emit))) ∧
  -- LINK_SILENCE (R256)
  (∀ (e : At) (p : Peer) (s : State), s.Runs e → Does (.linkSilence e p) s [.reg R.WG_STAT, .reg R.WG_EVT,
    .wing] fun l m =>
      (l.linkMode p ≠ .up → m = l) ∧ (l.now < l.wing.links[p].lastValid + us 200 → m = l) ∧
      (l.linkMode p = .up → l.wing.links[p].lastValid + us 200 ≤ l.now →
        m.flag R.WG_EVT_LLOST = true ∧ m.linkMode p = if l.wing.links[p].lostCount < 3 then .lost else .down)) ∧
  -- PEER_SUMMARY (R258)
  (∀ (e : At) (k : Peer) (src : BitVec 2) (h : SummaryHdr) (sm : Summary) (s : State), s.Runs e →
    Does (.peerSummary e k src h sm) s [.reg R.WG_STAT, .reg R.WG_P1CNT, .reg R.WG_P2CNT, .reg R.WG_TOFS1,
    .reg R.WG_TOFS2, .emit, .wing] fun l m =>
      (l.linkIgnored k = true → m = l) ∧
      (l.linkIgnored k = false → src.toNat ≠ laneNum (peerLane l.id k) →
        src.toNat ≠ laneNum (peerLane l.id (otherPeer k)) → m = l.aliveLink k) ∧
      (∀ p : Peer, l.linkIgnored k = false → src.toNat = laneNum (peerLane l.id p) →
        (l.wing.closed = true ∨ l.ofThisBeat (summaryFrameHdr src h) = false →
          m.wing.got = l.wing.got ∧ m.get (if p = 0 then R.WG_P1CNT_LATE else R.WG_P2CNT_LATE) =
            min (l.get (if p = 0 then R.WG_P1CNT_LATE else R.WG_P2CNT_LATE) + 1) 255) ∧
        (l.wing.closed = false → l.ofThisBeat (summaryFrameHdr src h) = true → l.wing.got[p] = none →
          m.wing.got[p] = some (sm, p == k) ∧ m.wing.last[p] = some sm) ∧
        (p = k → m.getInt (if p = 0 then R.WG_TOFS1_OFS else R.WG_TOFS2_OFS) =
          max (-2147483648) (min 2147483647 ((sm.time : Int) / 4 + 2740 - l.ltimeNs))) ∧
        (p ≠ k → m.get R.WG_STAT_RELAYIN = 1))) ∧
  -- RETRAIN (R289)
  (∀ (e : At) (s : State), s.Runs e → Does (.retrain e) s [.reg R.WG_STAT, .emit, .wing] fun l m =>
      (l.mode ≠ .hold → l.mode ≠ .workshop → m = l) ∧
      (l.mode = .hold ∨ l.mode = .workshop → ∀ p : Peer,
        (l.linkMode p = .down → l.linkHeld p = false → m.linkMode p = .train ∧ m.wing.links[p].good = 0) ∧
        (l.linkMode p ≠ .down → m.linkMode p = l.linkMode p) ∧ (l.linkHeld p = true → m.linkMode p = l.linkMode p))) ∧
  -- WING_HELLO (R256)
  (∀ (e : At) (p : Peer) (h : FrameHdr) (figure : BitVec 16) (time dur : Nat) (synced : Bool) (s : State), s.Runs e →
    Does (.wingHello e p h figure time dur synced) s (laneOutParts ++
    [.reg R.BI_UNUS, .reg R.BI_REFFIG, .reg R.TM_EVT, .log, .ltime, .ring, .tm]) fun l m =>
      m.wing.figures[p] = some figure.toNat ∧
      (l.linkHeld p = false → l.linkIgnored p = false →
        m.wing.links[p].rxSeq = h.seq.toNat ∧ (l.linkMode p = .down → m.linkMode p = .train)) ∧
      (l.timeMode = .free → l.wing.digestSent = false → l.tm.setFrom < 3 → synced = true → m.tm.setFrom = 3))

/-- The lead token: lease, guard, mirror and drill (R280, R278, R279, R281, R289). -/
def Obligations.LeadToken : Prop :=
  -- LEAD_LEASE_EXPIRY (R280)
  (∀ (e : At) (s : State), s.Runs e → Does (.leadLeaseExpiry e) s [.reg R.WG_STAT, .reg R.WG_LEAD, .wing] fun l m =>
      (l.flag R.LC_STATE_LEAD = true → m = l) ∧ (l.ltime ≤ l.wing.leaseEnd → m = l) ∧
      (l.wing.firstHold = true → l.lstate ≠ .out → l.flag R.LC_STATE_LEAD = false → l.wing.leaseEnd < l.ltime →
        l.flag R.WG_STAT_GUARD = false → l.wing.takeNext = false →
        m.get R.WG_STAT_GUARD = 1 ∧ m.get R.WG_LEAD_GUARDC = 2 ∧ m.get R.WG_STAT_LEADL = 3 ∧
        m.wing.oldLead = l.get R.WG_STAT_LEADL)) ∧
  -- TOKEN_GUARD_END (R280)
  (∀ (e : At) (s : State), s.Runs e → Does (.tokenGuardEnd e) s [.reg R.LC_STATE, .reg R.WG_STAT, .reg R.WG_EVT,
    .reg R.WG_LEAD, .reg R.CB_STAT, .reg R.CB_EVT, .wing, .call] fun l m =>
      (l.flag R.WG_STAT_GUARD = false → m = l) ∧ (l.get R.WG_LEAD_GUARDC ≠ 0 → m = l) ∧
        (l.wing.guardFresh = true → m = l) ∧
      (l.flag R.WG_STAT_GUARD = true → l.get R.WG_LEAD_GUARDC = 0 → l.wing.guardFresh = false →
        m.get R.WG_STAT_GUARD = 0 ∧
        ((laneOf l.wing.oldLead).bind l.nextLead = some l.id → m.flag R.WG_EVT_TOKTAKE = true ∧
          m.get R.LC_STATE_LEAD = 1) ∧
        (∀ i, (laneOf l.wing.oldLead).bind l.nextLead = some i → i ≠ l.id →
          m.get R.WG_STAT_LEADL = laneNum i ∧ m.wing.leaseEnd = l.ltime + l.lease ∧
            m.get R.LC_STATE_LEAD = l.get R.LC_STATE_LEAD) ∧
        ((laneOf l.wing.oldLead).bind l.nextLead = none → m.wing.leaseEnd = l.ltime + l.lease))) ∧
  -- TOKEN (R278)
  (∀ (e : At) (p : Peer) (h : FrameHdr) (seq mirrorSeq leaseEnd : Nat) (s : State), s.Runs e →
    Does (.token e p h seq mirrorSeq leaseEnd) s [.reg R.WG_STAT, .reg R.WG_LEAD, .wing] fun l m =>
      (l.linkIgnored p = true → m = l) ∧
      (l.linkIgnored p = false → l.inOrder p h.seq = false → m = l.validFrame p h.ack) ∧
      (l.linkIgnored p = false → l.inOrder p h.seq = true →
        (l.flag R.LC_STATE_LEAD = false →
          m.get R.WG_STAT_LEADL = laneNum (peerLane l.id p) ∧ m.get R.WG_STAT_GUARD = 0 ∧
            m.get R.WG_LEAD_TOKSEQ = seq % 256 ∧
          m.wing.leaseEnd = leaseEnd ∧ m.wing.tokSeq = seq) ∧
        (l.flag R.LC_STATE_LEAD = true → m.get R.LC_STATE_LEAD = 1 ∧ m.wing.leaseEnd = l.wing.leaseEnd ∧
          m.wing.giveUp = (l.wing.giveUp || l.wing.drilling)))) ∧
  -- MIRROR (R279)
  (∀ (e : At) (p : Peer) (h : FrameHdr) (complete crcOk : Bool) (m' : MirrorSet) (s : State), s.Runs e →
    Does (.mirror e p h complete crcOk m') s [.reg R.WG_STAT, .wing] fun l m =>
      (l.linkIgnored p = true → m = l) ∧
      (l.linkIgnored p = false → l.inOrder p h.seq = false → m = l.validFrame p h.ack) ∧
      (l.linkIgnored p = false → l.inOrder p h.seq = true → complete = true → crcOk = true → l.leadIs p = true →
        m.wing.mirrorNext = some m') ∧
      ((complete && crcOk && l.leadIs p) = false → m.wing.mirrorNext = l.wing.mirrorNext)) ∧
  -- HANDOVER_DRILL (R281)
  (∀ (e : At) (s : State), s.Runs e → Does (.handoverDrill e) s [.reg R.LC_STATE, .reg R.WG_STAT, .reg R.WG_EVT,
    .reg R.WG_DRILL, .reg R.CB_STAT, .emit, .wing] fun l m =>
      (l.flag R.LC_STATE_LEAD = false → m = l) ∧ (l.beatIn ≠ 0 → m = l) ∧
      (l.mode = .ghost ∨ l.mode = .curtain → m = l) ∧ (l.someResync = true → m = l) ∧
      (l.get R.WG_DRILL_NEXT ≠ 0 → l.wing.drillNow = false → m = l) ∧
      (∀ i, l.beatIn = 0 → l.flag R.LC_STATE_LEAD = true → l.lstate = .live → l.wing.drilling = false →
        l.get R.WG_DRILL_NEXT = 0 ∨ l.wing.drillNow = true → l.mode ≠ .ghost → l.mode ≠ .curtain →
          l.someResync = false →
        l.nextLead l.id = some i →
        m.get R.WG_DRILL_NEXT = 4096 ∧ m.wing.drilling = true ∧ m.wing.drillNow = false ∧
        (∀ p : Peer, peerLane l.id p = i → l.linkMode p = .up → l.quiet = false →
          (m.wing.links[p].unacked.getLast?.map (·.frame)) = some (.handover l.mirrorSum)))) ∧
  -- HANDOVER (R281)
  (∀ (e : At) (p : Peer) (h : FrameHdr) (crc : Word) (s : State), s.Runs e →
    Does (.handover e p h crc) s (laneOutParts ++ [.reg R.WG_LEAD, .reg R.WG_DRILL]) fun l m =>
      (l.linkIgnored p = true → m = l) ∧
      (l.linkIgnored p = false → l.inOrder p h.seq = false → m = l.validFrame p h.ack) ∧
      (l.linkIgnored p = false → l.inOrder p h.seq = true → l.leadIs p = true → l.lstate = .live →
        l.nextLead (peerLane l.id p) = some l.id →
        (crc = l.mirrorSum → m.flag R.WG_EVT_DRILLOK = true ∧ m.wing.takeNext = true ∧ m.get R.WG_DRILL_NEXT = 4096 ∧
          m.wing.drillFails = 0) ∧
        (crc ≠ l.mirrorSum → m.flag R.WG_EVT_DRILLERR = true) ∧
        (crc ≠ l.mirrorSum → l.peerLive p = true → l.wing.drillFails = 0 → m.wing.drillFails = 1 ∧ m.lstate = .live) ∧
        (crc ≠ l.mirrorSum → l.peerLive p = true → 1 ≤ l.wing.drillFails → m.lstate ≠ .live))) ∧
  -- DRILLNOW (R289)
  (∀ (e : At) (s : State), s.Runs e → Does (.drillnow e) s [.wing] fun l m =>
      (l.mode ≠ .workshop → m = l) ∧ (l.mode = .workshop → m.wing.drillNow = true ∧ m.regs = l.regs))

/-- Lane states: OUT, RESYNC, the stop end, digests (R273, R276, R277, R285, R267, R332, R268). -/
def Obligations.LaneStates : Prop :=
  -- OUT_FRAME (R273)
  (∀ (e : At) (p : Peer) (h : FrameHdr) (s : State), s.Runs e →
    Does (.outFrame e p h) s (setOutParts ++ [.reg R.WG_CMD, .reg R.WG_CMDEXP, .reg R.WG_RESYNC, .trust]) fun l m =>
      (l.linkIgnored p = true → m = l) ∧
      (l.linkIgnored p = false → l.inOrder p h.seq = false → m = l.validFrame p h.ack) ∧
      (l.linkIgnored p = false → l.inOrder p h.seq = true →
        m.flag R.WG_EVT_OUTRX = true ∧ m.peerState p = 0 ∧
        (l.wing.firstHold = true → l.peerState p ≠ 0 → m.flag R.WG_EVT_PLOST = true) ∧
        (l.wing.firstHold = false → m.wing.digests[p] = none))) ∧
  -- REJOIN (R276)
  (∀ (e : At) (p : Peer) (h : FrameHdr) (reply : Option (Nat × MirrorSet)) (s : State), s.Runs e →
    Does (.rejoin e p h reply) s (setOutParts ++ [.reg R.LC_ID, .reg R.LC_REV, .reg R.LC_ENGSTAT, .reg R.LC_MEMCFG,
    .reg R.LC_SERIAL_LO, .reg R.LC_SERIAL_HI, .block 1, .block 2, .block 3, .block 4, .block 5, .block 6, .block 7,
    .block 8, .block 9, .block 10, .block 11, .block 12, .block 13, .block 14, .block 15, .block 16, .block 17,
    .clears, .trust, .trio]) fun l m =>
      (l.linkIgnored p = true → m = l) ∧
      (l.linkIgnored p = false → l.inOrder p h.seq = false → m = l.validFrame p h.ack) ∧
      (∀ md mr, l.linkIgnored p = false → l.inOrder p h.seq = true → reply = some (md, mr) → l.leadIs p = true →
        l.lstate = .resync → l.get R.WG_RESYNC_STEP = 1 →
        m.get R.WG_RESYNC_STEP = 2 ∧ m.wing.gotReply = true ∧ m.wing.mirror = some mr) ∧
      (l.linkIgnored p = false → l.inOrder p h.seq = true → reply = none → l.flag R.LC_STATE_LEAD = false →
        m.wing.rejoinWaits[p] = true ∧ (l.peerLive p = true → m.peerState p = 1)) ∧
      (∀ mr, l.linkIgnored p = false → l.inOrder p h.seq = true → reply = none → l.peerState p = 1 →
        l.flag R.LC_STATE_LEAD = true → l.lstate = .live → l.wing.mirror = some mr →
        m.wing.rejoinWaits[p] = false ∧
        (l.linkMode p = .up → l.quiet = false → (m.wing.links[p].unacked.getLast?.map (·.frame)) =
          some (.rejoinReply (l.get R.LC_STATE_MSTATE) mr)))) ∧
  -- RESYNC_LANE_TIMEOUT (R277)
  (∀ (e : At) (s : State), s.Runs e → Does (.resyncLaneTimeout e) s laneOutParts fun l m =>
      (l.lstate ≠ .resync → m = l) ∧ (3 ≤ l.get R.WG_RESYNC_STEP → m = l) ∧ (l.now < l.wing.resyncAt + ms 100 → m = l) ∧
      (l.lstate = .resync → l.get R.WG_RESYNC_STEP < 3 → l.wing.resyncAt + ms 100 ≤ l.now →
        m.flag R.WG_EVT_RSFAIL = true ∧ m.lstate = .out)) ∧
  -- CURTAIN_ENTRY (R285)
  (∀ (e : At) (s : State), s.Runs e → Does (.curtainEntry e) s [.reg (R.LE_PREF_LO 0), .reg (R.LE_PREF_HI 0),
    .reg R.HS_SPOT, .wing, .modeState] fun l m =>
      (l.mode_.stop = none → m = l) ∧
      (∀ k t0 st, l.mode_.stop = some (k, t0) → l.stopSection = some st → l.stopDue st t0 = false → m = l) ∧
      (∀ t0 st, l.mode_.stop = some (.ghost, t0) → l.stopSection = some st → l.stopDue st t0 = true →
        m.wing.proposed = 9 ∧ m.regs = l.regs) ∧
      (∀ t0 st, l.mode_.stop = some (.default, t0) → l.stopSection = some st → l.stopDue st t0 = true →
        (l.mode = .performing → m.regs = l.regs ∧
          m.wing.proposed = if l.wing.proposed = l.get R.LC_STATE_MSTATE then 5 else stricter l.wing.proposed 5) ∧
        (l.mode ≠ .performing → m = l.endDefault))) ∧
  -- DIGEST (R267)
  (∀ (e : At) (p : Peer) (h : FrameHdr) (d : BitVec 384) (version : Nat) (serial : BitVec 64) (s : State), s.Runs e →
    Does (.digest e p h d version serial) s (setOutParts ++
    [.reg R.LC_ID, .reg R.LC_REV, .reg R.LC_ENGSTAT, .reg R.LC_MEMCFG, .reg R.LC_SERIAL_LO, .reg R.LC_SERIAL_HI,
    .block 1, .block 2, .block 3, .block 4, .block 5, .block 6, .block 7, .block 8, .block 9, .block 10, .block 11,
    .block 12, .block 13, .block 14, .block 15, .block 16, .block 17, .clears, .log, .axFb, .trust, .box,
    .dict]) fun l m =>
      (l.linkIgnored p = true → m = l) ∧
      (l.linkIgnored p = false → l.inOrder p h.seq = false → m = l.validFrame p h.ack) ∧
      (l.linkIgnored p = false → l.inOrder p h.seq = true → l.peerState p ≠ 0 →
        l.wing.waitOver = false ∨ l.wing.firstHold = true → m.wing.digests[p] = some (d, version, serial))) ∧
  -- DIGEST_WAIT_END (R332)
  (∀ (e : At) (s : State), s.Runs e → Does (.digestWaitEnd e) s (setOutParts ++
    [.reg R.LC_ID, .reg R.LC_REV, .reg R.LC_ENGSTAT, .reg R.LC_MEMCFG, .reg R.LC_SERIAL_LO, .reg R.LC_SERIAL_HI,
    .block 1, .block 2, .block 3, .block 4, .block 5, .block 6, .block 7, .block 8, .block 9, .block 10, .block 11,
    .block 12, .block 13, .block 14, .block 15, .block 16, .block 17, .clears, .log, .axFb, .trust, .box,
    .dict]) fun l m =>
      (l.wing.digestSent = false → m = l) ∧ (l.wing.waitOver = true → m = l) ∧ (l.wing.firstHold = true → m = l) ∧
      (l.now < l.wing.digestAt + ms 200 → m = l) ∧
      (l.wing.digestSent = true → l.wing.waitOver = false → l.wing.firstHold = false →
        l.wing.digestAt + ms 200 ≤ l.now →
        m.wing.waitOver = true ∧ (l.wing.digests[(0 : Peer)] = none → m.peerState 0 = 0) ∧
        (l.wing.digests[(1 : Peer)] = none → m.peerState 1 = 0))) ∧
  -- PROMPT_BOOK_REVERIFY (R268)
  (∀ (e : At) (passed : BitVec 3) (s : State), s.Runs e →
    Does (.promptBookReverify e passed) s (setOutParts ++
    [.reg R.WG_CMD, .reg R.WG_CMDEXP, .reg R.WG_RESYNC]) fun l m =>
      (l.wing.reverify = false → m = l) ∧ (l.lstate ≠ .live → m = l) ∧
      (l.wing.reverify = true → l.lstate = .live →
        (passes passed l.id = false → m.lstate = .out) ∧
        (∀ i, laneOf (l.get R.WG_STAT_LEADL) = some i → i ≠ l.id → l.liveIn i = true → passes passed i = true →
          m.lstate = .out) ∧
        (passes passed l.id = true → l.get R.WG_STAT_LEADL = laneNum l.id → l.mode ≠ .curtain → m.mode = .ghost)))

/-- Forwarded packets and the expiry of held commands (R264, R266). -/
def Obligations.HeldCommands : Prop :=
  -- COMMAND_SEGMENT (R264)
  (∀ (e : At) (p : Peer) (h : FrameHdr) (seg : List Byte) (facts : PacketFacts) (s : State), s.Runs e →
    Does (.commandSegment e p h seg facts) s beatParts fun l m =>
      (l.linkIgnored p = true → m = l) ∧
      (l.linkIgnored p = false → l.inOrder p h.seq = false → m = l.validFrame p h.ack) ∧
      (l.linkIgnored p = false → l.inOrder p h.seq = true →
        ((l.wing.links[p].segs ++ seg).length < 16 ∨ (l.wing.links[p].segs ++
          seg).length < packetLength (l.wing.links[p].segs ++ seg) →
          m.wing.links[p].segs = l.wing.links[p].segs ++ seg ∧ m.wing.links[p].rxSeq = h.seq.toNat) ∧
        (16 ≤ (l.wing.links[p].segs ++ seg).length → packetLength (l.wing.links[p].segs ++
          seg) ≤ (l.wing.links[p].segs ++ seg).length →
          m = ((l.validFrame p h.ack).onLinkEnd p fun q => { q with rxSeq := h.seq.toNat, segs := [] }).checkPacket
            (readPacket ⟨l.wing.links[p].segs ++ seg, facts⟩) .wing))) ∧
  -- COMMAND_EXPIRY (R266)
  (∀ (e : At) (fp : BitVec 64) (s : State), s.Runs e →
    Does (.commandExpiry e fp) s [.reg R.WG_EVT, .reg R.WG_CMD, .reg R.WG_CMDEXP, .reg (R.CN_BCTL 0 0),
    .reg (R.CN_BDAT 0 0 0), .reg R.HS_EVT, .reg R.HS_PORT, .reg R.HS_CNT1, .reg R.HS_CNT2, .reg R.HS_CNT3,
    .reg (R.HS_SLAST 0), .wing, .seats] fun l m =>
      ((∀ q ∈ l.wing.pending, q.pkt.hdr.fp = fp → l.now < q.heldAt + us 100) → m = l) ∧
      ((∃ q ∈ l.wing.pending, q.pkt.hdr.fp = fp ∧ q.heldAt + us 100 ≤ l.now) →
        m.flag R.WG_EVT_CMDEXP = true ∧ (∀ q ∈ m.wing.pending, q.pkt.hdr.fp ≠ fp) ∧
        m.get R.WG_CMDEXP_EXP = min (l.get R.WG_CMDEXP_EXP + 1) 65535))

/-- Tickets and commitments of the box office (R305, R303, R292). -/
def Obligations.BoxOffice : Prop :=
  -- TICKET_REQUEST (R305)
  (∀ (e : At) (cost : Cost) (target : Nat) (s : State), s.Runs e →
    Does (.ticketRequest e cost target) s [.reg R.BX_STAT, .reg R.BX_EVT, .reg R.BX_DIECOM, .reg (R.CN_BCTL 0 0),
    .reg (R.CN_BDAT 0 0 0), .reg R.HS_EVT, .reg R.HS_PORT, .reg R.HS_CNT1, .reg R.HS_CNT2, .reg R.HS_CNT3,
    .reg (R.HS_SLAST 0), .seats, .box] fun l m =>
      ∃ t : Ticket, t.id = l.box.nextId ∧ t.cost = cost ∧ t.cycle = l.mode_.cycle ∧ m.box.nextId = l.box.nextId + 1 ∧
        (l.tooDear t = true → m.flag R.BX_EVT_TREFUSE = true ∧ m.box.queued = l.box.queued) ∧
        (l.tooDear t = false → m.box.queued = l.box.queued ++ [t])) ∧
  -- TICKETED_WORK_END (R303)
  (∀ (e : At) (id : Nat) (s : State), s.Runs e → Does (.ticketedWorkEnd e id) s [.reg R.BX_STAT, .reg R.BX_EVT,
    .reg R.BX_DIECOM, .reg R.BX_TICK, .reg (R.BX_BRKLV 0), .reg R.BI_STAT, .reg R.BI_MEMCNT, .reg (R.GD_LKCTL 0),
    .reg (R.CN_BCTL 0 0), .reg (R.CN_BDAT 0 0 0), .block 18, .log, .power, .seats, .trust, .reh, .box] fun l m =>
      ((l.box.running.find? fun t => t.id == id) = none → m = l) ∧
      (∀ t, (l.box.running.find? fun t => t.id == id) = some t → ownEnd t.work = true → m = l) ∧
      (∀ t, (l.box.running.find? fun t => t.id == id) = some t → ownEnd t.work = false →
        m = ((l.retire t).workDone t.work).decideSales ∧
        (t.work = .logFlush → m.trust.flash.repair = l.trust.flash.repair ++ l.reh.toRepair ∧
          m.get R.BI_MEMCNT_PENDING = 0) ∧
        (t.work = .other → l.box.queued = [] → (∀ r ∈ m.box.running, r.id ≠ id) ∧
          (∀ c ∈ l.box.commits, c.id = id → c.releaseAt = none →
            { c with releaseAt := some (l.now + ms 5) } ∈ m.box.commits)))) ∧
  -- TICKET_STARVED (R305)
  (∀ (e : At) (id : Nat) (s : State), s.Runs e → Does (.ticketStarved e id) s [.reg R.BX_STAT, .reg R.BX_EVT,
    .reg R.BX_DIECOM, .box] fun l m =>
      ((∀ t ∈ l.box.queued, t.id = id → l.mode_.cycle - t.cycle < l.get (R.BX_CLASS_MAXWAIT t.cost.cls)) → m = l) ∧
      ((∃ t ∈ l.box.queued, t.id = id ∧ l.get (R.BX_CLASS_MAXWAIT t.cost.cls) ≤ l.mode_.cycle - t.cycle) →
        m.flag R.BX_EVT_STARVE = true ∧ ∃ t ∈ m.box.queued, t.id = id ∧ t.starved = true)) ∧
  -- COMMITMENT_RELEASE (R292)
  (∀ (e : At) (id : Nat) (s : State), s.Runs e → Does (.commitmentRelease e id) s [.reg R.BX_STAT, .reg R.BX_DIECOM,
    .box] fun l m =>
      (∀ c ∈ m.box.commits, c ∈ l.box.commits ∧ (c.id = id → ∀ t, c.releaseAt = some t → l.now < t)) ∧
      (∀ c ∈ l.box.commits, c.id ≠ id → c ∈ m.box.commits))

/-- Start of day: memory, firmware, rehearsal steps and SCRIPT CHECK (R323, R344, R330). -/
def Obligations.StartOfDay : Prop :=
  -- MEMORY_INIT_DONE (R323)
  (∀ (e : At) (size : Fin 5) (s : State), s.Runs e → Does (.memoryInitDone e size) s [.reg R.LC_ENGSTAT,
    .reg R.LC_MEMCFG, .block 16, .log, .emit, .wing, .trust] fun l m =>
      (l.mode ≠ .boot → m = l) ∧ (l.flag R.LC_MEMCFG_ECCON = true → m = l) ∧
      (l.mode = .boot → l.flag R.LC_MEMCFG_ECCON = false →
        m.get R.LC_MEMCFG_SIZE = size.val ∧ m.get R.LC_MEMCFG_ECCON = 1 ∧ m.bit R.LC_ENGSTAT_RUN 7 = true ∧
        m.flag R.KP_STAT_PUFOK = !l.trust.fuses.erased ∧ m.flag R.KP_STAT_IDKEY = !l.trust.fuses.erased)) ∧
  -- FIRMWARE_VERIFIED (R323)
  (∀ (e : At) (s : State), s.Runs e → Does (.firmwareVerified e) s [.reg R.LC_REV, .reg R.LC_STATE,
    .reg R.LC_ENGSTAT, .reg R.BX_STAT, .reg R.BX_EVT, .reg R.BX_PCAP, .reg R.BX_DIECOM, .reg R.BI_STAT,
    .reg R.LE_LSTAT, .reg (R.CN_BCTL 0 0), .reg (R.CN_BDAT 0 0 0), .block 18, .emit, .power, .wing, .seats, .call,
    .modeState, .trust, .reh, .box] fun l m =>
      (l.mode ≠ .boot → m = l) ∧ (l.heldInBoot = true → m = l) ∧ (l.trust.romResponder = true → m = l) ∧
      (l.flag R.LC_MEMCFG_ECCON = false → m = l) ∧
      (l.mode = .boot → l.flag R.LC_MEMCFG_ECCON = true → l.heldInBoot = false → l.trust.romResponder = false →
        ((slotOrder l.fwSlots).filter (fun k => !l.trust.fwTried.testBit k.val) = [] →
          m.trust.romResponder = true ∧ m.get R.HS_PORT_SEAT = 7) ∧
        (∀ k r x f, (slotOrder l.fwSlots).filter (fun k => !l.trust.fwTried.testBit k.val) = k :: r →
          l.fwSlots[k] = some (x, f) →
          (l.firmwareOk f = true → m.mode = .rehearsal ∧ m.get R.LC_REV_FWV = imageVersion f.envelope % 65536 ∧
            m.get R.LC_ENGSTAT_RUN = 255 ∧ m.trust.fw = some f) ∧
          (l.firmwareOk f = false → r = [] → m.trust.romResponder = true ∧ m.get R.HS_PORT_SEAT = 7) ∧
          (l.firmwareOk f = false → r ≠ [] → m.mode = .boot ∧ m.trust.fwTried.testBit k.val = true ∧
            m.regs = l.regs)))) ∧
  -- REHEARSAL_STEP_DONE (R344)
  (∀ (e : At) (step : Fin 10) (r : StepResult) (s : State), s.Runs e →
    Does (.rehearsalStepDone e step r) s (setOutParts ++
    [.reg R.LC_ENGSTAT, .reg R.BX_STAT, .reg R.BX_EVT, .reg R.BX_DIECOM, .reg R.BX_TICK, .reg (R.BX_BRKLV 0),
    .reg R.TV_STAT, .reg R.WG_CMD, .reg R.WG_CMDEXP, .reg R.WG_RESYNC, .block 5, .reg (R.GD_FAULT 0),
    .reg (R.GD_LKCTL 0), .reg R.LE_LSTAT, .reg R.LE_LEVT, .log, .trust, .box]) fun l m =>
      (l.runningFor (.step step) = none → l.runningFor (.rerun step) = none → m = l) ∧
      (l.mode = .rehearsal → (l.runningFor (.step step)).isSome = true →
        m.reh.done = l.reh.done ||| 2 ^ step.val ∧
        m.reh.failed = l.reh.failed ||| (if l.stepFailed r step then 2 ^ step.val else 0) ∧
        (l.stepFailed r step = true → m.flag R.BI_EVT_SODFAIL = true)) ∧
      (l.mode ≠ .rehearsal → (l.runningFor (.rerun step)).isSome = true →
        m.reh.done = l.reh.done ∧ m = (((l.stepResult step r).note (.stepDone step true (l.stepFailed r
          step))).endWork (.rerun step)).showStep)) ∧
  -- SCRIPT_CHECK (R330)
  (∀ (e : At) (s : State), s.Runs e → Does (.scriptCheck e) s [.reg R.LC_STATE, .reg R.BX_PCAP, .reg R.TV_STAT,
    .reg R.BI_STAT, .emit, .power, .wing, .call, .modeState, .trio] fun l m =>
      (l.mode ≠ .rehearsal → m = l) ∧ (l.reh.done ≠ 0x3FE → m = l) ∧ (l.wing.struck = true → m = l) ∧
      (l.mode = .rehearsal → l.reh.done = 0x3FE → l.wing.struck = false →
        m.mode = .scriptCheck ∧ m.wing.digestSent = true ∧ m.wing.digestAt = l.now ∧ m.get R.BI_STAT_PHASE = 2)) ∧
  -- SCRIPT_CHECK_DONE (R330)
  (∀ (e : At) (s : State), s.Runs e → Does (.scriptCheckDone e) s (setOutParts ++
    [.reg R.LC_ID, .reg R.LC_REV, .reg R.LC_ENGSTAT, .reg R.LC_MEMCFG, .reg R.LC_SERIAL_LO, .reg R.LC_SERIAL_HI,
    .block 1, .block 2, .block 3, .block 4, .block 5, .block 6, .block 7, .block 8, .block 9, .block 10, .block 11,
    .block 12, .block 13, .block 14, .block 15, .block 16, .block 17, .clears, .log, .axFb, .trust, .box,
    .dict]) fun l m =>
      (l.mode ≠ .scriptCheck → m = l) ∧ (l.wing.proposed = 4 → m = l) ∧
      (l.mode = .scriptCheck → l.wing.proposed ≠ 4 →
        (l.trust.checking = none → m.wing.proposed = 4) ∧
        (∀ b c, l.trust.checking = some b → l.checkBook b = some c →
          m.wing.proposed = 4 ∧ m.trust.state = 3 ∧ m.trust.code = c.1 ∧ m.trust.checking = none) ∧
        (∀ b, l.trust.checking = some b → l.checkBook b = none → l.awaitsPartner b = false →
          m.wing.proposed = 4 ∧ m.trust.checking = none ∧ (l.trust.book = none → m.trust.book = some b) ∧
          (l.trust.book ≠ none → m.trust.nextBook = some b)) ∧
        (∀ b, l.trust.checking = some b → l.checkBook b = none → l.awaitsPartner b = true → l.wing.waitOver = true →
          m.wing.proposed = 4 ∧ m.trust.state = 3 ∧ m.trust.code = 8) ∧
        (∀ b, l.trust.checking = some b → l.checkBook b = none → l.awaitsPartner b = true → l.wing.waitOver = false →
          m.trust.awaiting = true ∧ m.regs = l.regs)))

/-- Rehearsal in service: banks, comparators, twins, link margins and reruns (R351, R353, R352, R356, R358, R361, R365). -/
def Obligations.ServiceRehearsal : Prop :=
  -- MEMORY_ROTATION (R351)
  (∀ (e : At) (s : State), s.Runs e → Does (.memoryRotation e) s [.reg R.BX_STAT, .reg R.BX_EVT, .reg R.BX_DIECOM,
    .reg (R.CN_BCTL 0 0), .reg (R.CN_BDAT 0 0 0), .reg R.HS_EVT, .reg R.HS_PORT, .reg R.HS_CNT1, .reg R.HS_CNT2,
    .reg R.HS_CNT3, .reg (R.HS_SLAST 0), .seats, .reh, .box] fun l m =>
      (l.rotates = false → m = l) ∧ (l.flag R.BI_STAT_ROTSTOP = true → m = l) ∧ (l.rotating .bank = true → m = l) ∧
      (l.reh.spareBank = none → m = l) ∧ (l.mode_.cycle < l.reh.bankTurn + l.get R.BI_ROT_MEMPER → m = l) ∧
      (l.rotates = true → l.rotating .bank = false → l.reh.spareBank ≠ none → l.flag R.BI_STAT_ROTSTOP = false →
        l.reh.bankTurn + l.get R.BI_ROT_MEMPER ≤ l.mode_.cycle →
        m.reh.bankTurn = l.mode_.cycle ∧ ∃ t : Ticket, t.work = .rotation .bank ∧ t.cost = firmwareCost 5 ∧
          (l.tooDear t = true → m.flag R.BX_EVT_TREFUSE = true) ∧
          (l.tooDear t = false → m.box.queued = l.box.queued ++ [t]))) ∧
  -- BANK_SWAP (R351)
  (∀ (e : At) (s : State), s.Runs e → Does (.bankSwap e) s [.reh] fun l m =>
      (l.reh.bank = none → m = l) ∧
      (∀ b c, l.reh.bank = some ⟨b, false⟩ → l.reh.spareBank = some c →
        m.reh.spareBank = some b ∧ m.reh.bank = some ⟨b, true⟩ ∧ m.regs = l.regs ∧
        ∀ i : Fin 16, m.reh.bankMap[i] = if l.reh.bankMap[i] = b then c else l.reh.bankMap[i])) ∧
  -- MARCH_DONE (R353)
  (∀ (e : At) (bits : List (Fin 2048 × Fin 32 × Fin 39)) (s : State), s.Runs e →
    Does (.marchDone e bits) s (laneOutParts ++ [.reg R.BX_STAT, .reg R.BX_EVT, .reg R.BX_DIECOM, .reg R.BX_TICK,
    .reg (R.BX_BRKLV 0), .reg R.BI_STAT, .reg R.BI_UNUS, .reg R.BI_MEMRES, .reg R.BI_MEMCNT, .reg R.BI_ROTPOS,
    .reg (R.GD_LKCTL 0), .log, .power, .trust, .box]) fun l m =>
      (l.reh.bank = none → m = l) ∧ (∀ b, l.reh.bank = some ⟨b, false⟩ → m = l) ∧
      (∀ b, l.reh.bank = some ⟨b, true⟩ →
        m.get R.BI_ROTPOS_NEXTBANK = (b + 1) % 17 ∧
        (b = 16 → m.get R.BI_ROTPOS_SWEEPS = min (l.get R.BI_ROTPOS_SWEEPS + 1) 65535) ∧
        (bits ≠ [] → m.flag R.BI_EVT_MEMFAIL = true ∧ (b < 17 → m.bit R.BI_UNUS_BANK b = true)))) ∧
  -- ECC_CORRECTED (R352)
  (∀ (e : At) (bank : Fin 17) (row : Fin 2048) (word : Fin 32) (bit : Fin 39) (s : State), s.Runs e →
    Does (.eccCorrected e bank row word bit) s [.reg R.BI_EVT, .reg R.BI_MEMRES, .reg R.BI_MEMCNT, .log,
    .reh] fun l m =>
      m.get R.BI_MEMRES_VALID = 1 ∧ m.get R.BI_MEMRES_BANK = bank.val ∧ m.get R.BI_MEMRES_ROW = row.val ∧
      m.get R.BI_MEMRES_WORD = word.val ∧ m.get R.BI_MEMRES_ECC = 1 ∧ m.get R.BI_MEMRES_BIT = bit.val ∧
      ((∃ t, (bank.val, row.val, t) ∈ l.reh.corrected ∧ l.now ≤ t + ms 1000) → m.flag R.BI_EVT_ECCROW = true)) ∧
  -- COMPARATOR_ROTATION (R356)
  (∀ (e : At) (r : Option (Vector (CodeSweep × CodeSweep) 12)) (s : State), s.Runs e →
    Does (.comparatorRotation e r) s (setOutParts ++ [.reg R.BX_STAT, .reg R.BX_EVT, .reg R.BX_DIECOM,
    .reg R.BX_TICK, .reg (R.BX_BRKLV 0), .reg R.BI_CMPST, .reg R.BI_ROTPOS, .reg (R.GD_LKCTL 0), .trust,
    .box]) fun l m =>
      (r = none → l.rotates = false → m = l) ∧
      (r = none → l.mode_.cycle < l.reh.cmpTurn + l.get R.BI_ROT_CMPPER → m = l) ∧
        (r ≠ none → l.reh.cmp = none → m = l) ∧
      (r = none → l.rotates = true → l.reh.cmpTurn + l.get R.BI_ROT_CMPPER ≤ l.mode_.cycle →
        m.reh.cmpTurn = l.mode_.cycle ∧ m.reh.nextSwitch = l.reh.nextSwitch + 1 ∧
        (∀ n : Axis, m.bit (R.GD_LKCTL_REQ n) l.reh.nextSwitch.val = true) ∧
        (l.rotating .comparator = true → m.box.queued = l.box.queued) ∧
        (l.rotating .comparator = false → ∃ t : Ticket, t.work = .rotation .comparator ∧ t.cost = firmwareCost 5 ∧
          (l.tooDear t = true → m.flag R.BX_EVT_TREFUSE = true) ∧
          (l.tooDear t = false → m.box.queued = l.box.queued ++ [t]))) ∧
      (∀ v k, r = some v → l.reh.cmp = some k →
        m.get R.BI_ROTPOS_NEXTCMP = (k + 1) % 30 ∧
        (∀ p : Fin 12, l.reh.proofStopped.getLsbD p.val = false →
          (codeSweepOk v[p].1 = false → m.bit R.BI_CMPST_SIFAIL p.val = true) ∧
          (codeSweepOk v[p].1 = true → codeSweepOk v[p].2 = false → m.bit R.BI_CMPST_INROLE p.val = true ∧
            m.flag R.BI_EVT_CMPFAIL = true)))) ∧
  -- TWIN_SWEEP (R358)
  (∀ (e : At) (sweep : Option MonitorSweep) (s : State), s.Runs e →
    Does (.twinSweep e sweep) s [.reg R.BX_STAT, .reg R.BX_EVT, .reg R.BX_DIECOM, .reg R.BX_TICK,
    .reg (R.BX_BRKLV 0), .reg R.BI_STAT, .reg R.BI_EVT, .reg R.BI_TWIN, .reg (R.GD_LKCTL 0), .reg (R.CN_BCTL 0 0),
    .reg (R.CN_BDAT 0 0 0), .reg R.HS_EVT, .reg R.HS_PORT, .reg R.HS_CNT1, .reg R.HS_CNT2, .reg R.HS_CNT3,
    .reg (R.HS_SLAST 0), .power, .seats, .trust, .reh, .box] fun l m =>
      (sweep ≠ none → l.reh.twin = none → m = l) ∧ (sweep = none → l.rotates = false → m.regs = l.regs ∧
        m.box = l.box) ∧
      (sweep = none → l.rotates = true → l.rotating .twin = false → l.twinOk l.reh.nextTwin = true →
        ∃ t : Ticket, t.work = .rotation .twin ∧ t.cost = firmwareCost 5 ∧
          (l.tooDear t = true → m.flag R.BX_EVT_TREFUSE = true) ∧
          (l.tooDear t = false → m.box.queued = l.box.queued ++ [t])) ∧
      (∀ t v, sweep = some v → l.reh.twin = some t →
        (l.twinSweepOk t v = false → t < 12 → m.flag R.BI_EVT_TWINFAIL = true ∧ m.bit R.BI_TWIN_FAIL t = true) ∧
        (l.twinSweepOk t v = true → m.get R.BI_TWIN_FAIL = l.get R.BI_TWIN_FAIL ∧
          (l.runningFor (.rotation .twin) = none → m.reh.twin = none ∧ m.reh.nextTwin = l.twinAfter t)))) ∧
  -- LINK_MARGIN_SCAN (R361)
  (∀ (e : At) (p : Peer) (errors : Nat) (s : State), s.Runs e →
    Does (.linkMarginScan e p errors) s [.reg R.WG_STAT, .reg R.WG_EVT, .reg R.BI_EVT, .reg R.BI_LNK, .wing,
    .reh] fun l m =>
      (errors = 0 → m.reh.margins[p] = 0 ∧ m.regs = l.regs) ∧
      (errors ≠ 0 → l.reh.margins[p] = 0 → m.reh.margins[p] = 1) ∧
      (errors ≠ 0 → m.get (if p = 0 then R.BI_LNK_ERR1 else R.BI_LNK_ERR2) =
        min 65535 (l.get (if p = 0 then R.BI_LNK_ERR1 else R.BI_LNK_ERR2) + errors)) ∧
      (errors ≠ 0 → 1 ≤ l.reh.margins[p] → l.linkMode p ≠ .down → m.flag R.BI_EVT_LNKMARG = true ∧
        m.flag R.WG_EVT_LLOST = true)) ∧
  -- RERUN (R365)
  (∀ (e : At) (blk : BitVec 8) (s : State), s.Runs e →
    Does (.rerun e blk) s [.reg R.BX_STAT, .reg R.BX_EVT, .reg R.BX_DIECOM, .reg (R.CN_BCTL 0 0),
    .reg (R.CN_BDAT 0 0 0), .reg R.HS_EVT, .reg R.HS_PORT, .reg R.HS_CNT1, .reg R.HS_CNT2, .reg R.HS_CNT3,
    .reg (R.HS_SLAST 0), .seats, .box] fun l m =>
      (l.mode ≠ .hold → l.mode ≠ .workshop → m = l) ∧ (blk.toNat < 3 ∨ 9 < blk.toNat → m = l) ∧
      (l.mode = .hold ∨ l.mode = .workshop → 3 ≤ blk.toNat → blk.toNat ≤ 9 →
        ∃ t : Ticket, t.work = .rerun blk.toNat ∧ t.cost = stepTicket blk.toNat ∧
          (l.tooDear t = true → m.flag R.BX_EVT_TREFUSE = true) ∧
            (l.tooDear t = false → m.box.queued = l.box.queued ++ [t])))

/-- The Virec ring: ports, HELLO, cold start and joining (R371, R373, R372, R405, R401, R402, R411). -/
def Obligations.RingJoining : Prop :=
  -- PHY_LINK (R371)
  (∀ (e : At) (p : Port) (ident : Word) (s : State), s.Runs e →
    Does (.phyLink ⟨e, ident⟩ p) s [.reg R.VR_STAT, .reg R.VR_EVT, .reg R.VR_PSTATW, .reg R.VR_PSTATE, .ring] fun l m =>
      (l.reh.done.testBit 7 = false → m = l) ∧ (l.bit R.LC_ENGSTAT_UNUS 6 = true → m = l) ∧
      (l.reh.done.testBit 7 = true → l.bit R.LC_ENGSTAT_UNUS 6 = false →
        (l.word R.VR_PHYID ≠ 0 → l.word R.VR_PHYID ≠ ident →
          m.flag R.VR_EVT_PHYFAIL = true ∧ m.get (psLink p) = 3 ∧ m.ring.ports[p].misfit = true) ∧
        (l.word R.VR_PHYID = 0 ∨ l.word R.VR_PHYID = ident →
          m.ring.ports[p].phy = true ∧ m.ring.ports[p].misfit = false ∧
          (l.flag R.VR_CFG_EN = true → l.bit R.BI_UNUS_VR p.val = false → l.portUp p = false →
            m.get (psLink p) = (if l.get (psLink p) = 3 then 3 else 1) ∧ m.get (psG1000 p) = 1 ∧
            m.ring.ports[p].since = l.now)))) ∧
  -- VIREC_HELLO_SEND (R371)
  (∀ (e : At) (p : Port) (s : State), s.Runs e → Does (.virecHelloSend e p) s [.emit, .ring] fun l m =>
      (l.portUsable p = false → m = l) ∧ (l.ring.ports[p].phy = false → m = l) ∧ (l.ring.duplicate = true → m = l) ∧
      (l.now < l.ring.ports[p].helloAt + (if l.portUp p then ms 100 else us 100) → m = l) ∧
      (l.portUsable p = true → l.ring.ports[p].phy = true → l.ring.duplicate = false →
        l.ring.ports[p].helloAt + (if l.portUp p then ms 100 else us 100) ≤ l.now →
        m.emit = .ringHello p (l.ownHello p) :: l.emit ∧ m.ring.ports[p].helloAt = l.now ∧ m.regs = l.regs)) ∧
  -- VIREC_HELLO (R373)
  (∀ (e : At) (p : Port) (h : RingHello) (s : State), s.Runs e →
    Does (.virecHello e p h) s [.reg R.VR_STAT, .reg R.VR_EVT, .reg R.VR_PSTATW, .reg R.VR_PSTATE, .ring] fun l m =>
      (l.portUsable p = false → m = l) ∧
      (l.portUsable p = true → h.node = l.node → m.flag R.VR_EVT_DUPID = true ∧ m.ringMode = .listen ∧
        m.ring.duplicate = true) ∧
      (l.portUsable p = true → h.node ≠ l.node → h.ring ≠ l.id ∨ l.neighbour p ≠ some h.node →
        m.flag R.VR_EVT_MISWIRE = true ∧ m.get (psLink p) = 3) ∧
      (∀ ds, l.portUsable p = true → h.node ≠ l.node → h.ring = l.id → l.neighbour p = some h.node →
        ds = (((l.helloDelay h).map fun d => (d :: l.ring.ports[p].delays).take 8).getD l.ring.ports[p].delays) →
        m.get (psLvl p) = min h.level (l.get R.VR_CFG_LVLMAX) % 4 ∧ m.ring.ports[p].level = h.level ∧
        m.ring.ports[p].g1000 = h.g1000 ∧ m.ring.ports[p].g100 = h.g100 ∧
        (ds.length < 8 ∨ l.ratePermitted p h = false →
          m.ring.ports[p].delays = ds ∧ m.ring.ports[p].heardHello = some (h.sent, l.now) ∧
            m.get (psLink p) = l.get (psLink p)) ∧
        (8 ≤ ds.length → l.ratePermitted p h = true →
          (l.needs1000 = true → l.flag (psG1000 p) = false → m.flag R.VR_EVT_RATELOW = true ∧ m.get (psLink p) = 3) ∧
          (l.needs1000 = false ∨ l.flag (psG1000 p) = true → 4 * l.maxDelay p < medianDelay ds →
            m.flag R.VR_EVT_DELAYHI = true ∧ m.get (psLink p) = 3) ∧
          (l.needs1000 = false ∨ l.flag (psG1000 p) = true → medianDelay ds ≤ 4 * l.maxDelay p →
            m.get (psLink p) = 2 ∧ m.ring.ports[p].delays = ds ∧ m.get (psDelay p) =
              min 65535 (Config.quantize ((medianDelay ds : Rat) / 4)).toNat ∧
            (l.ringMode = .off → l.portUp p = false → m.ringMode = .listen))))) ∧
  -- RATE_TIMEOUT (R372)
  (∀ (e : At) (p : Port) (s : State), s.Runs e → Does (.rateTimeout e p) s [.reg R.VR_PSTATW, .reg R.VR_PSTATE,
    .ring] fun l m =>
      (l.ring.ports[p].phy = false → m = l) ∧ (l.portUp p = true → m = l) ∧
      (l.now < l.ring.ports[p].since + ms 50 → m = l) ∧
      (l.ring.ports[p].phy = true → l.portUp p = false → l.ring.ports[p].since + ms 50 ≤ l.now →
        m.flag (psG1000 p) = !(l.flag (psG1000 p) && l.flag R.VR_CFG_ALLOW100) ∧ m.ring.ports[p].since = l.now ∧
        m.ring.ports[p].delays = [])) ∧
  -- PORT_BREAK (R405)
  (∀ (e : At) (p : Port) (held : Nat) (s : State), s.Runs e →
    Does (.portBreak ⟨e, held⟩ p) s [.reg R.VR_STAT, .reg R.VR_EVT, .reg R.VR_PSTATW, .reg R.VR_PSTATE,
    .ring] fun l m =>
      (held < 10 → m = l) ∧
      (10 ≤ held → m.get (psLink p) = 3 ∧ m.ring.ports[p].phy = false ∧
        (l.get (psLink p) ≠ 3 → m.flag R.VR_EVT_BREAK = true ∧ m.ring.ports[p].delays = []))) ∧
  -- COLD_START (R401)
  (∀ (e : At) (s : State), s.Runs e → Does (.coldStart e) s [.reg R.VR_STAT, .ring] fun l m =>
      (l.ringMode ≠ .listen → m = l) ∧ (l.flag R.LC_STATE_LEAD = false → m = l) ∧
        (l.flag R.VR_CFG_CSTART = false → m = l) ∧
      (l.ring.quiet < l.get R.VR_CS_LISTEN → m = l) ∧ (l.now < l.ring.quietSince + l.ring.backoff → m = l) ∧
      (l.ringMode = .listen → l.get R.VR_CS_LISTEN ≤ l.ring.quiet → l.ring.quietSince + l.ring.backoff ≤ l.now →
        l.flag R.VR_CFG_CSTART = true → l.flag R.LC_STATE_LEAD = true → l.ringDead = false →
        m.get R.VR_STAT_STATE = 2 ∧ m.ring.cold = 0 ∧ m.ring.returned = Vector.replicate 2 false)) ∧
  -- START_FRAME (R402)
  (∀ (e : At) (p : Port) (f : VirecIn) (s : State), s.Runs e →
    Does (.startFrame e p f) s (beatParts ++ [.ltime]) fun l m =>
      (l.ringMode = .off → m = l) ∧ (l.portUp p = false → m = l) ∧
      (l.portUp p = true → fcsOk f.bytes = true → isVirec (l.get R.VR_ETYPE_ETYPE) f.bytes = true →
        (readHeader f.bytes).version = 1 → (readHeader f.bytes).type = 2 →
        (l.ringMode ≠ .off → (readHeader f.bytes).src = l.node →
          l.ring.ownStart ≠ some (readStart (readHeader f.bytes).src (readPayload f.bytes)).time →
          m.flag R.VR_EVT_DUPID = true ∧ m.ringMode = .listen) ∧
        (l.ringMode = .up → (readHeader f.bytes).src ≠ l.node → m.get (pcCueErr p) = min (l.get (pcCueErr p) + 1) 255) ∧
        (l.ringMode = .coldStart → (readHeader f.bytes).src = l.node →
          l.ring.ownStart = some (readStart (readHeader f.bytes).src (readPayload f.bytes)).time →
          m.ring.returned[p] = true ∧ (l.ring.returned[otherPort p] = true → m.flag R.VR_EVT_RINGUP = true)) ∧
        (l.ringMode = .coldStart → l.node < (readHeader f.bytes).src →
          m.get (pcCueErr p) = min (l.get (pcCueErr p) + 1) 255) ∧
        (l.ringMode = .coldStart → (readHeader f.bytes).src < l.node →
          m.flag R.VR_EVT_STARTLOST = true ∧ m.get R.VR_STAT_STATE = 3 ∧
            m.get R.VR_STAT_STARTER = (readHeader f.bytes).src) ∧
        (l.ringMode = .listen ∨ l.ringMode = .integrate → (readHeader f.bytes).src ≠ l.node → l.ring.duplicate = false →
          l.ring.adoptedIn = none →
          m.get R.VR_STAT_STATE = 3 ∧ m.get R.VR_STAT_STARTER = (readHeader f.bytes).src ∧
          m.get R.VR_STAT_SHACT = (readStart (readHeader f.bytes).src (readPayload f.bytes)).sheet ∧
          m.ring.adoptedIn = some m.ring.num))) ∧
  -- REINT (R411)
  (∀ (e : At) (s : State), s.Runs e → Does (.reint e) s [.reg R.VR_STAT, .ring] fun l m =>
      (l.mode ≠ .hold → l.mode ≠ .workshop → m = l) ∧ (l.ringMode = .off → m = l) ∧
      (l.mode = .hold ∨ l.mode = .workshop → l.ringMode ≠ .off → m.get R.VR_STAT_STATE = 1))

/-- The Virec ring in a cycle: cues, windows, sheet change and the cue instant (R390, R388, R389, R400, R379). -/
def Obligations.RingCycle : Prop :=
  -- CUE_SEND (R390)
  (∀ (e : At) (cue late size : Nat) (s : State), s.Runs e →
    Does (.cueSend e cue late size) s [.reg R.VR_STAT, .reg R.VR_EVT, .reg R.VR_NCNT, .emit, .seats, .ring] fun l m =>
      (l.cue cue = none → m = l) ∧
      (∀ c, l.cue cue = some c →
        c.owner ≠ l.node ∨ c.dir = 3 ∨ l.maySend c.kind = false ∨ cue ∈ l.ring.sent ∨ l.sinceCue + 32 < 40 * c.start
          → m = l) ∧
      (∀ c, l.cue cue = some c → c.owner = l.node → c.dir ≠ 3 → l.maySend c.kind = true → cue ∉ l.ring.sent →
        40 * (c.start : Int) ≤ l.sinceCue + 32 →
        m.ring.sent = cue :: l.ring.sent ∧
        (40 * (c.start : Int) + 2 * windowNs c.win < l.sinceCue + late ∨ c.len < max size (max 64 (30 + (l.ownPayload
          cue c).length)) →
          m.flag R.VR_EVT_TXGUARD = true ∧ m.get R.VR_NCNT_TXGUARD = min (l.get R.VR_NCNT_TXGUARD + 1) 65535 ∧
            m.emit = l.emit) ∧
        (l.sinceCue + late ≤ 40 * (c.start : Int) + 2 * windowNs c.win →
          max size (max 64 (30 + (l.ownPayload cue c).length)) ≤ c.len →
          c.dir = 0 → l.portUp 1 = true → l.flag (psLoop 1) = false →
          m.emit = .ringFrame 1 (virecFrame (l.get R.VR_ETYPE_ETYPE) (l.ownHeader 1 cue (l.members.length - 1) 1 false)
            (l.ownPayload cue c)) :: l.emit) ∧
        (l.sinceCue + late ≤ 40 * (c.start : Int) + 2 * windowNs c.win →
          max size (max 64 (30 + (l.ownPayload cue c).length)) ≤ c.len →
          c.dir = 1 → l.portUp 0 = true → l.flag (psLoop 0) = false →
          m.emit = .ringFrame 0 (virecFrame (l.get R.VR_ETYPE_ETYPE) (l.ownHeader 1 cue (l.members.length - 1) 0 false)
            (l.ownPayload cue c)) :: l.emit))) ∧
  -- CUE_FRAME (R388)
  (∀ (e : At) (p : Port) (f : VirecIn) (s : State), s.Runs e →
    Does (.cueFrame e p f) s (beatParts ++ [.ltime]) fun l m =>
      (l.ringMode = .off → m = l) ∧ (l.portUp p = false → m = l) ∧
      (l.ringMode ≠ .off → l.portUp p = true →
        (fcsOk f.bytes = false → m.get (pcFcs p) = min (l.get (pcFcs p) + 1) 255) ∧
        (fcsOk f.bytes = true → isVirec (l.get R.VR_ETYPE_ETYPE) f.bytes = false → m = l) ∧
        (fcsOk f.bytes = true → isVirec (l.get R.VR_ETYPE_ETYPE) f.bytes = true → (readHeader f.bytes).version ≠ 1 →
          m.get (pcWin p) = min (l.get (pcWin p) + 1) 255) ∧
        (fcsOk f.bytes = true → isVirec (l.get R.VR_ETYPE_ETYPE) f.bytes = true → (readHeader f.bytes).version = 1 →
          (readHeader f.bytes).type = 1 → (readHeader f.bytes).src = l.node → m = l) ∧
        (fcsOk f.bytes = true → isVirec (l.get R.VR_ETYPE_ETYPE) f.bytes = true → (readHeader f.bytes).version = 1 →
          (readHeader f.bytes).type = 1 → (readHeader f.bytes).src ≠ l.node →
          (l.ringMode = .listen → m.ring.quiet = 0) ∧
          (∀ sh a, l.ringMode = .listen → l.sheetOf (readHeader f.bytes).sheet = some sh →
            ((l.arrivals sh f.links p).find? fun a => a.cue == (readHeader f.bytes).cue && a.looped == (readHeader
              f.bytes).looped) = some a →
            m.ring.lastSheet = some (readHeader f.bytes).sheet ∧
              m.get (pcClean p) = min (l.get (pcClean p) + 1) 65535) ∧
          (l.ringMode ≠ .listen → l.windowsNow p f.links = [] →
            m.get (pcWin p) = min (l.get (pcWin p) + 1) 255 ∧ m.ring.accepted = l.ring.accepted) ∧
          (l.ringMode ≠ .listen → l.windowsNow p f.links ≠ [] →
            (l.windowsNow p f.links).find? (l.headerFits (readHeader f.bytes)) = none →
            m.get (pcCueErr p) = min (l.get (pcCueErr p) + 1) 255 ∧ m.ring.accepted = l.ring.accepted) ∧
          (∀ w, l.ringMode ≠ .listen → (l.windowsNow p f.links).find? (l.headerFits (readHeader f.bytes)) = some w →
            (w.entry.len < f.bytes.length → m.get (pcWin p) = min (l.get (pcWin p) + 1) 255 ∧
              m.ring.accepted = l.ring.accepted) ∧
            (f.bytes.length ≤ w.entry.len →
              (p, (readHeader f.bytes).cue, (readHeader f.bytes).looped) ∉ l.ring.met →
              (∀ a ∈ l.ring.accepted, a.cue ≠ (readHeader f.bytes).cue) →
              w.entry.kind = 0 ∨ w.entry.kind = 4 → l.ring.fill + l.ring.fillPrev + f.bytes.length ≤ 458752 →
              m.ring.accepted = l.ring.accepted ++ [⟨(readHeader f.bytes).cue, (readHeader f.bytes).src, w.dev,
                (readHeader f.bytes).sheet⟩] ∧
              m.ring.queue = l.ring.queue ++ [((readHeader f.bytes).cue, w.entry.kind == 4, readPayload f.bytes)] ∧
              m.get (pcClean p) = min (l.get (pcClean p) + 1) 65535))))) ∧
  -- CUE_WINDOW_END (R389)
  (∀ (e : At) (cue : Nat) (links : List Nat) (s : State), s.Runs e →
    Does (.cueWindowEnd e cue links) s [.reg R.VR_STAT, .reg R.VR_EVT, .reg R.VR_PSTATW, .reg R.VR_PSTATE,
    .reg R.VR_PCNT1W, .reg R.VR_PCNT1E, .ring] fun l m =>
      (l.ringOn = false → m = l) ∧ ((l.ring.accepted.any fun a => a.cue == cue) = true → m = l) ∧
        (cue ∈ l.ring.empty → m = l) ∧
      (l.sheet = none → m = l) ∧
      (∀ sh c p' a', l.ringOn = true → (l.ring.accepted.any fun a => a.cue == cue) = false → cue ∉ l.ring.empty →
        l.sheet = some sh → l.cue cue = some c → a' ∈ l.arrivals sh links p' → a'.cue = cue →
        (∀ p : Port, ∀ a ∈ l.arrivals sh links p, a.cue = cue →
          (a.at_ + l.ring.drift + 4 * windowNs c.win) % l.cycleQ ≤ l.sinceCue) →
        m.ring.empty = cue :: l.ring.empty ∧
        (∀ p : Port, l.cuePorts sh links cue = [p] → l.portUp p = true →
          m.get (pcEmpty p) = min (l.get (pcEmpty p) + 1) 65535 ∧ m.ring.emptyRun[p] = true ∧
          (l.ring.emptyRun[p] = true → m.get (psLink p) = 3 ∧ m.flag R.VR_EVT_BREAK = true)))) ∧
  -- SHANN (R400)
  (∀ (e : At) (sheet : Fin 8) (s : State), s.Runs e → Does (.shann e sheet) s [.reg R.VR_STAT, .ring] fun l m =>
      (l.mayAnnounce = false → m = l) ∧ ((l.ringPart.map fun r => r.ring.sheetMaster) ≠ some l.node → m = l) ∧
      (l.mayAnnounce = true → (l.ringPart.map fun r => r.ring.sheetMaster) = some l.node →
        m.get R.VR_STAT_PEND = 1 ∧ m.get R.VR_STAT_SHPEND = sheet.val ∧ m.ring.announce = true ∧
        (l.ring.sent = [] → m.ring.change = some (sheet.val, l.ring.num)) ∧
        ((l.ring.sent.any fun q => (l.cue q).any fun c => c.kind == 1) = true →
          m.ring.change = some (sheet.val, l.ring.num + 1)))) ∧
  -- CUE_INSTANT (R379)
  (∀ (e : At) (figure : BitVec 16) (s : State), s.Runs e →
    Does (.cueInstant e figure) s (beatParts ++ [.axProt, .can]) fun l m =>
      (l.mode_.fwRestart = true → m.power.phase = .oscillator ∧ m.mode_.fwRestart = false) ∧
      (l.mode_.fwRestart = false → m.get R.BI_REFFIG_OWN = figure.toNat ∧
        m.mode_.cycle = (l.ltime + ltUs 25) / ltUs (50 * l.beats)))

/-- Lane time: step, increment, loss and latch (R416, R415, R421, R426). -/
def Obligations.NetworkTime : Prop :=
  -- STEP (R416)
  (∀ (e : At) (step : Int) (s : State), s.Runs e → Does (.step e step) s [.reg R.TM_STAT, .reg R.TM_EVT, .tm] fun l m =>
      (l.get R.TM_JUMP_THR < step.natAbs ∨ l.flag R.WG_STAT_TSLEW = true ∨ l.tm.step ≠ none ∨ l.timeMode = .holdover ∨
        l.timeMode = .far → m = l.raise R.TM_EVT_STEPREF ∧ m.flag R.TM_EVT_STEPREF = true) ∧
      (step.natAbs ≤ l.get R.TM_JUMP_THR → l.flag R.WG_STAT_TSLEW = false → l.tm.step = none → l.timeMode ≠ .holdover →
        l.timeMode ≠ .far → m.tm.step = some step ∧ m.get R.TM_STAT_STEPPEND = 1 ∧ m.ltime = l.ltime)) ∧
  -- STEP_APPLY (R416)
  (∀ (e : At) (s : State), s.Runs e → Does (.stepApply e) s [.reg R.TM_STAT, .ltime, .tm] fun l m =>
      (l.tm.step = none → m = l) ∧
      (l.ltime % ltUs (50 * l.beats) + ltUs 5 < ltUs (50 * l.beats) → m = l) ∧
      (∀ d, l.tm.step = some d → ltUs (50 * l.beats) ≤ l.ltime % ltUs (50 * l.beats) + ltUs 5 →
        m.ltime = ((l.ltime : Int) + d * 2 ^ 24).toNat ∧ m.tm.step = none ∧ m.get R.TM_STAT_STEPPEND = 0)) ∧
  -- INCR (R415)
  (∀ (e : At) (w : Word) (s : State), s.Runs e → Does (.incr e w) s [.reg R.TM_INCR, .reg R.TM_APPL, .tm] fun l m =>
      (w.toNat < 167688274 ∨ 167856046 < w.toNat → m = l) ∧
      (167688274 ≤ w.toNat → w.toNat ≤ 167856046 → l.flag R.WG_STAT_TSLEW = true → m.tm.held = some w ∧
        m.regs = l.regs) ∧
      (167688274 ≤ w.toNat → w.toNat ≤ 167856046 → l.flag R.WG_STAT_TSLEW = false →
        m.get R.TM_INCR_INCR = w.toNat ∧ (l.timeMode ≠ .holdover → l.timeMode ≠ .far → m.get R.TM_APPL_APPL = w.toNat) ∧
        (l.timeMode = .holdover ∨ l.timeMode = .far → m.get R.TM_APPL_APPL = l.tm.kept % 2 ^ 32))) ∧
  -- SYNC_LOSS (R421)
  (∀ (e : At) (s : State), s.Runs e → Does (.syncLoss e) s [.reg R.TM_STAT, .reg R.TM_EVT, .reg R.TM_APPL,
    .tm] fun l m =>
      (l.timeMode ≠ .acquire → l.timeMode ≠ .locked → m = l) ∧ (l.tm.lost < l.get R.TM_CFG_LOSS → m = l) ∧
      (l.timeMode = .acquire ∨ l.timeMode = .locked → l.get R.TM_CFG_LOSS ≤ l.tm.lost →
        m.get R.TM_STAT_STATE = 4 ∧ m.flag R.TM_EVT_LOSS = true ∧ m.tm.kept = l.get R.TM_APPL_APPL)) ∧
  -- TIME_LATCH (R426)
  (∀ (e : At) (s : State), s.Runs e → Does (.timeLatch e) s [.reg R.TM_NS, .reg R.TM_SECLO, .reg R.TM_SECHI,
    .reg R.TM_FRAC] fun l m =>
      m.ltime = l.ltime ∧ m.get R.TM_NS_NS = l.ltime / 2 ^ 24 % 1000000000 ∧
      m.word R.TM_SECLO = BitVec.ofNat 32 (l.ltime / (1000000000 * 2 ^ 24)) ∧
      m.word R.TM_SECHI = BitVec.ofNat 32 (l.ltime / (1000000000 * 2 ^ 24) / 2 ^ 32) ∧
      m.get R.TM_FRAC_FRAC = l.ltime / 2 ^ 8 % 2 ^ 16)

/-- CAN: frames, slots, error states and address claim (R433, R437, R441, R434, R431, R440). -/
def Obligations.CanBus : Prop :=
  -- CAN_FRAME_RECEIVED (R433)
  (∀ (e : At) (k : Can) (f : CanFrame) (s : State), s.Runs e →
    Does (.canFrameReceived e k f) s [.block 12, .log, .fresh, .can] fun l m =>
      (l.canOn k = false → m = l) ∧ (l.canOff k = true → m = l) ∧
      (l.canOn k = true → l.canOff k = false → f.fdf = true → l.flag (R.CN_CFG_FD k) = false →
        (l.flag (R.CN_CFG_EXCINT k) = true → m = l.drop (R.CN_STAT_IDLE k)) ∧
        (l.flag (R.CN_CFG_EXCINT k) = false → m.get (R.CN_STAT_LERR k) = 3 ∧
          m.get (R.CN_ERR_REC k) = min 65535 (l.get (R.CN_ERR_REC k) + 1))) ∧
      (l.canOn k = true → l.canOff k = false → f.fdf = false ∨ l.flag (R.CN_CFG_FD k) = true →
        (f.remote = true → m = (l.goodFrame k).raise (R.CN_EVT_RXREM k)) ∧
        (∀ b, f.remote = false → (List.finRange 64).find? ((l.goodFrame k).canMatch k f) = some b →
          m.get (R.CN_BID_ID k b) = f.id.toNat ∧ m.get (R.CN_BCTL_FRESH k b) = 1 ∧
            m.get (R.CN_BCTL_DLC k b) = f.dlc.val ∧
          m.get (R.CN_BCTL_SSEQ k b) = (l.get (R.CN_BCTL_SSEQ k b) + 2) % 16 ∧
          (∀ w : Fin 16, m.word (R.CN_BDAT k b w) = canWord f.data w) ∧
          (l.flag (R.CN_BCTL_FRESH k b) = true → m.flag (R.CN_EVT_RXREPL k) = true)) ∧
        (f.remote = false → (List.finRange 64).find? ((l.goodFrame k).canMatch k f) = none →
          m = (l.goodFrame k).bump (R.CN_CNT1_NOMATCH k)))) ∧
  -- CAN_SLOT (R437)
  (∀ (e : At) (k : Can) (entry : Fin 64) (s : State), s.Runs e →
    Does (.canSlot e k entry) s [.reg (R.CN_STAT 0), .reg (R.CN_EVT 0), .reg (R.CN_CNT1 0), .reg (R.CN_BCTL 0 0),
    .can] fun l m =>
      (l.canFires k entry = false → m = l) ∧ (l.canFired k entry = true → m = l) ∧
      (l.sinceCue < 4000 * l.get (R.CN_SCH_START k entry) → m = l) ∧ (l.canOn k = false → m.regs = l.regs) ∧
      (l.get (R.CN_SCH_KIND k entry) ≠ 1 → l.get (R.CN_SCH_KIND k entry) ≠ 2 → m.regs = l.regs) ∧
      (l.canOn k = true → l.canFires k entry = true → l.canFired k entry = false →
        4000 * (l.get (R.CN_SCH_START k entry) : Int) ≤ l.sinceCue →
        m.canFired k entry = true ∧
        (l.get (R.CN_SCH_KIND k entry) = 2 → l.flag (R.CN_BCTL_READY k (l.bufIdx (R.CN_SCH_BUF k entry))) = false →
          m.regs = l.regs) ∧
        (l.get (R.CN_SCH_KIND k entry) = 1 → l.canOff k = true ∨ l.canUnclaimed k = true ∨ l.get (R.CN_CFG_OPMODE k)
          = 2 →
          m.flag (R.CN_EVT_MISSED k) = true ∧ m.get (R.CN_BCTL_TXRES k (l.bufIdx (R.CN_SCH_BUF k entry))) = 5) ∧
        (l.get (R.CN_SCH_KIND k entry) = 1 ∨
            (l.get (R.CN_SCH_KIND k entry) = 2 ∧ l.flag (R.CN_BCTL_READY k (l.bufIdx (R.CN_SCH_BUF k entry))) = true) →
          l.canOff k = false → l.canUnclaimed k = false → l.get (R.CN_CFG_OPMODE k) ≠ 2 →
          m.get (R.CN_STAT_SLOT k) = 1 ∧ m.get (R.CN_STAT_IDLE k) = 0 ∧
          m.can[k].slot = some (entry, l.canFrameOf k (l.bufIdx (R.CN_SCH_BUF k entry)))))) ∧
  -- CAN_SLOT_END (R437)
  (∀ (e : At) (k : Can) (r : SlotEnd) (s : State), s.Runs e →
    Does (.canSlotEnd e k r) s [.block 12, .log, .emit, .seats, .can] fun l m =>
      (∀ i f, l.can[k].slot = some (i, f) →
        (r = .notBegun → 0 ≤ l.sinceCue →
          l.sinceCue < 4000 * ((l.get (R.CN_SCH_START k i) : Int) + l.get (R.CN_SCHCFG_WIN k)) → l.canFired k i = true →
          m.can[k].slot = some (i, f)) ∧
        ((r = .notBegun → l.sinceCue < 0 ∨
            4000 * ((l.get (R.CN_SCH_START k i) : Int) + l.get (R.CN_SCHCFG_WIN k)) ≤ l.sinceCue ∨ l.canFired k i =
              false) →
          m.can[k].slot = none ∧ m.get (R.CN_STAT_SLOT k) = 0 ∧ m.get (R.CN_STAT_IDLE k) = 1 ∧
          (r ≠ .notBegun → .canFrame k f ∈ m.emit) ∧
          (r = .acked → m.get (R.CN_CNT0_RUN k) = 0 ∧ m.get (R.CN_STAT_ALONE k) = 0) ∧
          (r = .ackError → m.flag (R.CN_EVT_UNACK k) = true ∧ m.get (R.CN_STAT_LERR k) = 2) ∧
          (∀ c, r = .error c → m.get (R.CN_STAT_LERR k) = c.val) ∧
          (r = .arbLost → m.get (R.CN_CNT1_ARBLOST k) = min (l.get (R.CN_CNT1_ARBLOST k) + 1) 255) ∧
          (r = .notBegun → m.flag (R.CN_EVT_MISSED k) = true)))) ∧
  -- BUS_OFF_DELAY (R441)
  (∀ (e : At) (k : Can) (s : State), s.Runs e → Does (.busOffDelay e k) s [.reg (R.CN_STAT 0)] fun l m =>
      (l.can[k].offSince = none → m = l) ∧ (l.get (R.CN_BOREC_MAX k) ≤ l.get (R.CN_BOREC_BOCNT k) → m = l) ∧
      (∀ t, l.can[k].offSince = some t → l.now < t + ms (l.get (R.CN_BOREC_DELAY k)) → m = l) ∧
      (∀ t, l.can[k].offSince = some t → t + ms (l.get (R.CN_BOREC_DELAY k)) ≤ l.now →
        l.get (R.CN_BOREC_BOCNT k) < l.get (R.CN_BOREC_MAX k) → l.get (R.CN_STAT_STATE k) = 2 →
          m.get (R.CN_STAT_STATE k) = 3)) ∧
  -- RECOVER (R441)
  (∀ (e : At) (k : Can) (s : State), s.Runs e → Does (.recover e k) s [.reg (R.CN_STAT 0)] fun l m =>
      (l.get (R.CN_STAT_STATE k) ≠ 2 → m = l) ∧ (l.get (R.CN_STAT_STATE k) = 2 → m.get (R.CN_STAT_STATE k) = 3)) ∧
  -- RECOVERY_DONE (R441)
  (∀ (e : At) (k : Can) (s : State), s.Runs e → Does (.recoveryDone e k) s [.reg (R.CN_STAT 0), .reg (R.CN_ERR 0),
    .reg (R.CN_EVT 0), .can] fun l m =>
      (l.get (R.CN_STAT_STATE k) ≠ 3 → m = l) ∧
      (l.get (R.CN_STAT_STATE k) = 3 → m.get (R.CN_STAT_STATE k) = 0 ∧ m.get (R.CN_ERR_TEC k) = 0 ∧
        m.get (R.CN_ERR_REC k) = 0 ∧
        m.flag (R.CN_EVT_RECOVERED k) = true)) ∧
  -- FRESH_ACK (R434)
  (∀ (e : At) (k : Can) (b : Fin 64) (seen : BitVec 4) (s : State), s.Runs e →
    Does (.freshAck e k b seen) s [.reg (R.CN_BCTL 0 0)] fun l m =>
      (l.get (R.CN_BCTL_SSEQ k b) ≠ seen.toNat → m = l) ∧
      (l.get (R.CN_BCTL_SSEQ k b) = seen.toNat → m.get (R.CN_BCTL_FRESH k b) = 0)) ∧
  -- ADDRESS_CLAIM (R431)
  (∀ (e : At) (k : Can) (b : Fin 64) (won : Option Bool) (s : State), s.Runs e →
    Does (.addressClaim e k b won) s [.reg (R.CN_BCTL 0 0), .can] fun l m =>
      (won = none → l.get (R.CN_BCTL_OWN k b) ≠ 1 → m = l) ∧
      (won = none → l.get (R.CN_BCTL_OWN k b) = 1 → m.get (R.CN_BCTL_READY k b) = 1) ∧
      (∀ w, won = some w → m.can[k].claimed = w ∧ m.regs = l.regs)) ∧
  -- CAN_RECEIVE_ERROR (R440)
  (∀ (e : At) (k : Can) (code : Option (Fin 8)) (eight : Bool) (s : State), s.Runs e →
    Does (.canReceiveError e k code eight) s [.reg (R.CN_STAT 0), .reg (R.CN_ERR 0), .reg (R.CN_EVT 0),
    .reg (R.CN_BOREC 0), .log, .can] fun l m =>
      (l.canOn k = false → m = l) ∧ (l.canOff k = true → m = l) ∧
      (l.canOn k = true → l.canOff k = false →
        (∀ c, code = some c → m.get (R.CN_STAT_LERR k) = c.val ∧
          m.get (R.CN_ERR_REC k) = min 65535 (l.get (R.CN_ERR_REC k) + if eight then 8 else 1)) ∧
        (code = none → l.flag (R.CN_CFG_EXCINT k) = true → m = l.drop (R.CN_STAT_IDLE k)) ∧
        (code = none → l.flag (R.CN_CFG_EXCINT k) = false → m.get (R.CN_STAT_LERR k) = 3 ∧
          m.get (R.CN_ERR_REC k) = min 65535 (l.get (R.CN_ERR_REC k) + 1))))

/-- Signal windows, and claims and completions of the callboard (R459, R504, R505). -/
def Obligations.WindowsAndCallboard : Prop :=
  -- WINDOW_LATCH (R459)
  (∀ (e : At) (w : Seat) (handle : BitVec 20) (s : State), s.Runs e →
    Does (.windowLatch e w handle) s [.reg (R.SG_HSEL 0), .reg (R.SG_WST 0), .reg (R.SG_LAT 0 0)] fun l m =>
      m.get (R.SG_HSEL_HANDLE w) = handle.toNat ∧ m.get (R.SG_WST_DONE w) = 1 ∧ m.dict = l.dict ∧
      (∀ k : Fin 16, m.word (R.SG_LAT w k) = wordOf (l.entryBytes handle.toNat) (4 * k.val))) ∧
  -- COMMIT (R459)
  (∀ (e : At) (w : Seat) (s : State), s.Runs e → Does (.commit e w) s [.reg R.SG_EVT, .reg R.SG_CNT0, .reg R.SG_CNT2,
    .reg (R.SG_WST 0), .dict] fun l m =>
      (∀ d, l.sigDef (l.get (R.SG_HSEL_HANDLE w)) = some d → d.source = .seat w →
        m.get (R.SG_WST_REFUSED w) = 0 ∧ m.dict = (l.writeEntry d (l.windowData w) l.beatStartTime false 0 0).dict) ∧
      ((∀ d, l.sigDef (l.get (R.SG_HSEL_HANDLE w)) = some d → d.source ≠ .seat w) →
        m.get (R.SG_WST_REFUSED w) = 1 ∧ m.flag R.SG_EVT_FOREIGN = true ∧ m.dict = l.dict)) ∧
  -- CLAIM (R504)
  (∀ (e : At) (w : Seat) (s : State), s.Runs e → Does (.claim e w) s [.block 14, .reg R.HS_PORT, .call,
    .trio] fun l m =>
      (l.callGuarded = true → m = l) ∧
      (l.callGuarded = false → l.flag R.CB_STAT_LEAD = false →
        m.get (R.CB_CLAIM_VALID w) = 0 ∧ m.get (R.CB_CLAIM_NOTLEAD w) = 1 ∧
          m.get (R.CB_CLAIM_LEADL w) = l.get R.WG_STAT_LEADL ∧
        m.flag R.CB_EVT_NOTLEAD = true ∧ m.call = l.call) ∧
      (l.callGuarded = false → l.flag R.CB_STAT_LEAD = true → l.presentedTo w = none →
        m.get (R.CB_CLAIM_VALID w) = 0 ∧ m.get (R.CB_CLAIM_NOTLEAD w) = 0 ∧ m.call = l.call) ∧
      (∀ k, l.callGuarded = false → l.flag R.CB_STAT_LEAD = true → l.presentedTo w = some k → k ≠ 0 →
        m.get (R.CB_CLAIM_VALID w) = 1 ∧ m.get (R.CB_CLAIM_SRC w) = k ∧ m.pends k = false ∧
        m.get R.CB_CNT_CLAIMS = min 65535 (l.get R.CB_CNT_CLAIMS + 1) ∧
        m.call.active = (if l.mode = .ghost then l.call.active else l.call.active ++ [(k, w)]))) ∧
  -- COMPLETION (R505)
  (∀ (e : At) (w : Seat) (src : Fin 512) (s : State), s.Runs e →
    Does (.completion e w src) s [.reg R.CB_STAT, .reg R.CB_EVT, .reg R.CB_CNT, .reg (R.CB_ACT 0),
    .reg (R.CB_PRES 0), .reg R.HS_PORT, .call, .trio] fun l m =>
      (l.heldBy w src = false → m.flag R.CB_EVT_BADCOMPL = true ∧
        m.get R.CB_CNT_BADCOMPL = min 65535 (l.get R.CB_CNT_BADCOMPL + 1) ∧
        m.call.active = l.call.active) ∧
      (l.heldBy w src = true → m.callActive src = false ∧ (∀ x ∈ l.call.active, x.1 ≠ src → x ∈ m.call.active) ∧
        m.get R.CB_CNT_BADCOMPL = l.get R.CB_CNT_BADCOMPL))

/-- The seat port and CAN transfers (R466, R469). -/
def Obligations.SeatPaths : Prop :=
  -- SEAT_WRITE (R466)
  (∀ (e : At) (waiting : Fin 3) (pkt : PacketIn) (s : State), s.Runs e →
    Does (.seatWrite e waiting pkt.bytes pkt.facts) s beatParts fun l m =>
      (l.flag R.HS_PORT_EN = false → m = l) ∧
      (l.flag R.HS_PORT_EN = true → pkt.bytes.length ≠ packetLength pkt.bytes →
        m.flag R.HS_EVT_FRAME = true ∧ m.get R.HS_CNT2_FRAME = min 65535 (l.get R.HS_CNT2_FRAME + 1) ∧
          m.seats = l.seats) ∧
      (l.flag R.HS_PORT_EN = true → pkt.bytes.length = packetLength pkt.bytes → waiting = 2 →
        m.flag R.HS_EVT_OVF = true ∧ m.get R.HS_CNT2_OVF = min 65535 (l.get R.HS_CNT2_OVF + 1) ∧ m.seats = l.seats) ∧
      (l.flag R.HS_PORT_EN = true → pkt.bytes.length = packetLength pkt.bytes → waiting ≠ 2 →
        m.seats.buffered = waiting.val + 1 ∧
        (packetCrcOk pkt.bytes = false → m.get R.HS_CNT0_CRC = min 65535 (l.get R.HS_CNT0_CRC + 1) ∧
          m.seats.replies = l.seats.replies) ∧
        (packetCrcOk pkt.bytes = true → m.get R.HS_CNT0_RXOK = min 65535 (l.get R.HS_CNT0_RXOK + 1)) ∧
        (packetCrcOk pkt.bytes = true → ∀ st, l.frontFails (readPacket pkt) .port = some st →
          Answered l m { (readHdr pkt.bytes) with cls := 0 } (some .port) st []) ∧
        (∀ op, packetCrcOk pkt.bytes = true → (readPacket pkt).op = some op →
          l.frontFails (readPacket pkt) .port = none →
          opLocal op = false → l.trust.romResponder = false → l.goneOut = false →
            l.duplicate (readHdr pkt.bytes).fp = false →
          l.sequenceFails (readHdr pkt.bytes) = none → opFits op (readHdr pkt.bytes).len = true →
          ∃ q ∈ m.wing.pending, q.pkt = readPacket pkt ∧ q.path = some .port ∧ q.heldAt = l.now) ∧
        (∀ op, packetCrcOk pkt.bytes = true → (readPacket pkt).op = some op →
          l.frontFails (readPacket pkt) .port = none →
          opLocal op = false → l.trust.romResponder = false → l.duplicate (readHdr pkt.bytes).fp = true →
          m.get R.HS_CNT1_DUP = min 255 (l.get R.HS_CNT1_DUP + 1)))) ∧
  -- SEAT_READ (R466)
  (∀ (e : At) (whole : Bool) (s : State), s.Runs e → Does (.seatRead e whole) s [.reg R.HS_PORT, .emit,
    .seats] fun l m =>
      (l.flag R.HS_PORT_EN = false → m = l) ∧
      (l.flag R.HS_PORT_EN = true → m.emit = .seatOut (portRead l.seats.replies.head?) :: l.emit ∧
        m.seats.replies = (if whole then l.seats.replies.tail else l.seats.replies)) ∧
      (l.flag R.HS_PORT_EN = true → whole = true →
        m.flag R.HS_PORT_ATN = (!l.seats.replies.tail.isEmpty || l.presented (l.get R.HS_PORT_SEAT)))) ∧
  -- SEAT_STATUS (R466)
  (∀ (e : At) (waiting : Fin 3) (s : State), s.Runs e → Does (.seatStatus e waiting) s [.emit, .seats] fun l m =>
      (l.flag R.HS_PORT_EN = false → m = l) ∧
      (l.flag R.HS_PORT_EN = true → m.regs = l.regs ∧ m.seats.buffered = waiting.val ∧
        ∃ b : Byte, m.emit = .seatStatus [0, 0, b] :: l.emit ∧ b.getLsbD 7 = decide (waiting.val < 2) ∧
          b.toNat / 16 % 8 = min 7 l.seats.replies.length ∧ b.toNat % 16 = 0)) ∧
  -- SEAT_OTHER_TRANSACTION (R466)
  (∀ (e : At) (s : State), s.Runs e → Does (.seatOtherTransaction e) s [.reg R.HS_EVT, .reg R.HS_CNT2] fun l m =>
      (l.flag R.HS_PORT_EN = false → m = l) ∧
      (l.flag R.HS_PORT_EN = true → m.flag R.HS_EVT_FRAME = true ∧
        m.get R.HS_CNT2_FRAME = min 65535 (l.get R.HS_CNT2_FRAME + 1))) ∧
  -- CAN_SEGMENT (R469)
  (∀ (e : At) (k : Seat) (first last : Bool) (index : Fin 64) (number : Byte) (pkt : PacketIn) (s : State),
    s.Runs e → Does (.canSegment e k first last index number pkt) s beatParts fun l m =>
      (l.flag (R.HS_SCAN_EN k) = false → m = l) ∧
      (l.flag (R.HS_SCAN_EN k) = true → first = true → index ≠ 0 →
        m.seats.transfers[k] = none ∧ m.flag R.HS_EVT_FRAME = true) ∧
      (l.flag (R.HS_SCAN_EN k) = true → first = true → index = 0 →
        last = false →
        m.seats.transfers[k] = some ⟨number.toNat, 1, l.mode_.cycle, pkt.bytes⟩ ∧
        (l.seats.transfers[k] ≠ none → m.flag R.HS_EVT_FRAME = true)) ∧
      (l.flag (R.HS_SCAN_EN k) = true → first = true → index = 0 →
        last = true → l.seats.transfers[k] = none →
        m = l.checkPacket (readPacket ⟨pkt.bytes.take (packetLength pkt.bytes), pkt.facts⟩) (.can k)) ∧
      (l.flag (R.HS_SCAN_EN k) = true → first = false → l.seats.transfers[k] = none →
        m.flag R.HS_EVT_FRAME = true) ∧
      (∀ t, l.flag (R.HS_SCAN_EN k) = true → first = false → l.seats.transfers[k] = some t →
        (t.number ≠ number.toNat ∨ t.next ≠ index.val →
          m.seats.transfers[k] = none ∧ m.flag R.HS_EVT_FRAME = true) ∧
        (t.number = number.toNat → t.next = index.val →
          (last = false → m.regs = l.regs ∧
            m.seats.transfers[k] = some { t with next := t.next + 1, data := t.data ++ pkt.bytes }) ∧
          (last = true → m = (l.setTransfer k none).checkPacket
            (readPacket ⟨(t.data ++ pkt.bytes).take (packetLength (t.data ++ pkt.bytes)), pkt.facts⟩) (.can k))))) ∧
  -- CAN_TRANSFER_TIMEOUT (R469)
  (∀ (e : At) (k : Seat) (s : State), s.Runs e → Does (.canTransferTimeout e k) s [.reg R.HS_EVT, .reg R.HS_CNT2,
    .seats] fun l m =>
      (l.seats.transfers[k] = none → m = l) ∧
      (∀ t, l.seats.transfers[k] = some t → l.mode_.cycle < t.cycle + 8 → m = l) ∧
      (∀ t, l.seats.transfers[k] = some t → t.cycle + 8 ≤ l.mode_.cycle →
        m.seats.transfers[k] = none ∧ m.flag R.HS_EVT_FRAME = true ∧
        m.get R.HS_CNT2_FRAME = min 65535 (l.get R.HS_CNT2_FRAME + 1)))

/-- READ_REG and WRITE_REG (R485, R486). -/
def Obligations.RegisterOpcodes : Prop :=
  -- READ_REG (R485)
  (∀ (e : At) (h : Hdr) (path : Option Path) (addr count : Nat) (s : State), s.Runs e →
    Does (.readReg e h path addr count) s (replyParts ++
    [.reg R.TV_RECENT, .reg R.WG_LEAD, .reg R.WG_RESYNC, .reg R.GD_CHON, .reg (R.FB_SPEED 0), .reg R.VR_SHDAT0,
    .reg R.VR_SHDAT1, .reg R.TM_NS, .reg R.TM_SECLO, .reg R.TM_SECHI, .reg R.TM_FRAC, .block 14, .fresh, .link,
    .call, .trio]) fun l m =>
      TurnedAway l m h path (.readReg addr count) ∧
      (l.allows h (.readReg addr count) → ¬(addr % 4 = 0 ∧ 1 ≤ count ∧ count ≤ 64 ∧ addr + 4 * count ≤ 2 ^ 24) →
        Answered l m h path (.param 2) []) ∧
      (l.allows h (.readReg addr count) → addr % 4 = 0 ∧ 1 ≤ count ∧ count ≤ 64 ∧ addr + 4 * count ≤ 2 ^ 24 →
        claims addr count = true ∧ l.callGuarded = true → Answered l m h path (.retry 1) []) ∧
      (l.allows h (.readReg addr count) → addr % 4 = 0 ∧ 1 ≤ count ∧ count ≤ 64 ∧ addr + 4 * count ≤ 2 ^ 24 →
        ¬(claims addr count = true ∧ l.callGuarded = true) →
        Answered l m h path .ok ((readWords count addr l).2.flatMap fun w => beBytes 4 w.toNat))) ∧
  -- WRITE_REG (R486)
  (∀ (e : At) (h : Hdr) (path : Option Path) (addr count : Nat) (words : List Word) (s : State), s.Runs e →
    Does (.writeReg e h path addr count words) s beatParts fun l m =>
      TurnedAway l m h path (.writeReg addr count words) ∧
      (l.allows h (.writeReg addr count words) → ¬(addr % 4 = 0 ∧ 1 ≤ count ∧ count ≤ 254 ∧ addr + 4 * count ≤ 2 ^ 24) →
        Answered l m h path (.param 2) [] ∧ m.stage = l.stage) ∧
      (l.allows h (.writeReg addr count words) → addr % 4 = 0 ∧ 1 ≤ count ∧ count ≤ 254 ∧ addr + 4 * count ≤ 2 ^ 24 →
        ∀ st, l.firstRefused (numbered addr (words.take count)) = some st → Answered l m h path st [] ∧
          m.stage = l.stage) ∧
      (∀ w, l.allows h (.writeReg addr count words) → addr = R.PW_TLIM → count = 1 → words = [w] →
        l.firstRefused [(addr, w)] = none → Answered l m h path .ok [] ∧
        m.get R.PW_TLIM_WARN = R.PW_TLIM_WARN.extract w ∧ m.get R.PW_TLIM_TRIP = R.PW_TLIM_TRIP.extract w) ∧
      (∀ w, l.allows h (.writeReg addr count words) → addr % 4 = 0 → 0x130000 ≤ addr → addr + 4 ≤ 2 ^ 24 → count = 1 →
        words = [w] → Answered l m h path ⟨0, 1⟩ []))

/-- The opcodes that only report (R482, R335, R531, R529). -/
def Obligations.ReportOpcodes : Prop :=
  -- PING (R482)
  (∀ (e : At) (h : Hdr) (path : Option Path) (data : List Byte) (s : State), s.Runs e →
    Does (.ping e h path data) s replyParts fun l m =>
      TurnedAway l m h path (.ping data) ∧
      (l.allows h (.ping data) → Answered l m h path .ok (data ++ l.wordsAt [R.LC_STATE] ++ timeBytes l.ltime))) ∧
  -- PB_STATUS (R335)
  (∀ (e : At) (h : Hdr) (path : Option Path) (s : State), s.Runs e → Does (.pbStatus e h path) s replyParts fun l m =>
      TurnedAway l m h path .pbStatus ∧
      (l.allows h .pbStatus → Answered l m h path .ok (l.bookBytes))) ∧
  -- REH_REPORT (R482)
  (∀ (e : At) (h : Hdr) (path : Option Path) (s : State), s.Runs e → Does (.rehReport e h path) s replyParts fun l m =>
      TurnedAway l m h path .rehReport ∧
      (l.allows h .rehReport → Answered l m h path .ok (l.wordsAt ((List.range 15).map fun k => R.BI_STAT + 4 * k)))) ∧
  -- LOG_INFO (R482)
  (∀ (e : At) (h : Hdr) (path : Option Path) (s : State), s.Runs e → Does (.logInfo e h path) s replyParts fun l m =>
      TurnedAway l m h path .logInfo ∧
      (l.allows h .logInfo → ∃ b : List Byte, Answered l m h path .ok b ∧ b.length = 24)) ∧
  -- TIME_READ (R482)
  (∀ (e : At) (h : Hdr) (path : Option Path) (s : State), s.Runs e → Does (.timeRead e h path) s replyParts fun l m =>
      TurnedAway l m h path .timeRead ∧
      (l.allows h .timeRead → Answered l m h path .ok (timeBytes80 l.ltime ++ [0, 0] ++
        l.wordsAt [R.TM_STAT, R.TM_OFS, R.TM_APPL]))) ∧
  -- TIME_ECHO (R482)
  (∀ (e : At) (h : Hdr) (path : Option Path) (arrival : Nat) (s : State), s.Runs e →
    Does (.timeEcho e h path arrival) s replyParts fun l m =>
      TurnedAway l m h path (.timeEcho arrival) ∧
      (l.allows h (.timeEcho arrival) → Answered l m h path .ok (timeBytes80 arrival ++ timeBytes80 l.ltime ++
        [0, 0, 0, 0]))) ∧
  -- ID_INFO (R482)
  (∀ (e : At) (h : Hdr) (path : Option Path) (s : State), s.Runs e → Does (.idInfo e h path) s replyParts fun l m =>
      TurnedAway l m h path .idInfo ∧
      (l.allows h .idInfo → Answered l m h path .ok (l.wordsAt [R.LC_ID, R.LC_REV, R.LC_SERIAL_LO, R.LC_SERIAL_HI]))) ∧
  -- ID_CERT (R531)
  (∀ (e : At) (h : Hdr) (path : Option Path) (index offset : Nat) (s : State), s.Runs e →
    Does (.idCert e h path index offset) s replyParts fun l m =>
      TurnedAway l m h path (.idCert index offset) ∧
      (l.allows h (.idCert index offset) → 2 < index → Answered l m h path (.param 7) []) ∧
      (l.allows h (.idCert index offset) → index ≤ 2 → Answered l m h path .ok
        (beBytes 2 (Config.certificate l.id index).length ++ ((Config.certificate l.id index).drop offset).take
          1022))) ∧
  -- FW_STATUS (R482)
  (∀ (e : At) (h : Hdr) (path : Option Path) (s : State), s.Runs e → Does (.fwStatus e h path) s replyParts fun l m =>
      TurnedAway l m h path .fwStatus ∧
      (l.allows h .fwStatus → Answered l m h path .ok (l.firmwareBytes))) ∧
  -- SAFETY_STATUS (R529)
  (∀ (e : At) (h : Hdr) (path : Option Path) (s : State), s.Runs e →
    Does (.safetyStatus e h path) s replyParts fun l m =>
      TurnedAway l m h path .safetyStatus ∧
      (l.allows h .safetyStatus → Answered l m h path .ok (l.wordsAt [R.SF_STAT, R.SF_OWN, R.SF_KOSTAT, R.SF_RAW])))

/-- Requests, queries, STOP and the frozen timeout of the spotlight (R490, R482, R493). -/
def Obligations.SpotlightOpcodes : Prop :=
  -- SPOT_REQUEST (R490)
  (∀ (e : At) (h : Hdr) (path : Option Path) (preempt : Bool) (s : State), s.Runs e →
    Does (.spotRequest e h path preempt) s replyParts fun l m =>
      TurnedAway l m h path (.spotRequest preempt) ∧
      (l.allows h (.spotRequest preempt) → l.flag R.WG_STAT_GUARD = true → Answered l m h path (.retry 1) [] ∧
        m.seats.requests = l.seats.requests) ∧
      (l.allows h (.spotRequest preempt) → l.flag R.WG_STAT_GUARD = false → l.flag R.LC_STATE_LEAD = true →
        m.seats.requests = l.seats.requests ++ [⟨h.seat, preempt, h, path⟩] ∧ m.seats.replies = l.seats.replies) ∧
      (l.allows h (.spotRequest preempt) → l.flag R.WG_STAT_GUARD = false → l.flag R.LC_STATE_LEAD = false →
        m.seats = l.seats)) ∧
  -- SPOT_QUERY (R482)
  (∀ (e : At) (h : Hdr) (path : Option Path) (s : State), s.Runs e → Does (.spotQuery e h path) s replyParts fun l m =>
      TurnedAway l m h path .spotQuery ∧
      (l.allows h .spotQuery → Answered l m h path .ok (l.spotBytes l.endCycle))) ∧
  -- STOP (R493)
  (∀ (e : At) (h : Hdr) (path : Option Path) (s : State), s.Runs e → Does (.stop e h path) s replyParts fun l m =>
      TurnedAway l m h path .stop ∧
      (l.allows h .stop → m.seats.stopNext = true ∧ Answered l m h path .ok [])) ∧
  -- FROZEN_TIMEOUT (R493)
  (∀ (e : At) (s : State), s.Runs e → Does (.frozenTimeout e) s [.reg R.HS_SPOT, .modeState] fun l m =>
      (l.flag R.HS_SPOT_FROZEN = false → m = l) ∧ (l.flag R.HS_SPOT_HELD = true → m = l) ∧
      (l.mode_.cycle < l.seats.endedAt + 4 → m = l) ∧
      (l.flag R.HS_SPOT_FROZEN = true → l.flag R.HS_SPOT_HELD = false → l.seats.endedAt + 4 ≤ l.mode_.cycle →
        m.flag R.HS_SPOT_DEFACT = true ∧ m.flag R.HS_SPOT_FROZEN = false ∧
        (l.flag R.HS_SPOTCFG_DEFAULT = false → l.mode = .performing → l.mode_.stop = none →
          m.mode_.stop = some (.default, l.ltime))))

/-- Opcodes that ask for a module state, and SETPOINT (R555, R553, R577, R557). -/
def Obligations.StateOpcodes : Prop :=
  -- ARM (R555)
  (∀ (e : At) (h : Hdr) (path : Option Path) (s : State), s.Runs e →
    Does (.arm e h path) s (replyParts ++ [.wing]) fun l m =>
      TurnedAway l m h path .arm ∧
      (l.allows h .arm → l.armRefused = none → m.seats.modeReqs = l.seats.modeReqs ++
        [⟨Mode.armed.code, none, h, path⟩] ∧ m.seats.replies = l.seats.replies ∧ m.mode = l.mode ∧
        m.wing.proposed = (if l.wing.proposed = l.get R.LC_STATE_MSTATE then Mode.armed.code else stricter
        l.wing.proposed Mode.armed.code)) ∧
      (∀ st, l.allows h .arm → l.armRefused = some st → m.seats.modeReqs = l.seats.modeReqs ++
        [⟨0, some (st.cls, st.detail), h, path⟩] ∧ m.wing.proposed = l.wing.proposed)) ∧
  -- PERFORM (R553)
  (∀ (e : At) (h : Hdr) (path : Option Path) (s : State), s.Runs e →
    Does (.perform e h path) s (replyParts ++ [.wing]) fun l m =>
      TurnedAway l m h path .perform ∧
      (l.allows h .perform → l.inhibited = false → m.seats.modeReqs = l.seats.modeReqs ++
        [⟨Mode.performing.code, none, h, path⟩] ∧ m.seats.replies = l.seats.replies ∧ m.mode = l.mode) ∧
      (l.allows h .perform → l.inhibited = true → m.seats.modeReqs = l.seats.modeReqs ++
        [⟨0, some (4, l.mode.code), h, path⟩] ∧ m.wing.proposed = l.wing.proposed)) ∧
  -- SETPOINT (R577)
  (∀ (e : At) (h : Hdr) (path : Option Path) (es : List SetEntry) (s : State), s.Runs e →
    Does (.setpoint e h path es) s (replyParts ++ [.reg (R.DC_CTRL 0), .reg (R.DC_STAT 0), .reg (R.DC_EVT 0),
    .reg (R.DC_CNT 0), .reg (R.GD_STAT 0), .reg (R.GD_EVT 0), .reg (R.LE_PREF_LO 0), .reg (R.LE_PREF_HI 0),
    .reg (R.LE_WREF 0), .reg (R.LE_INT 0), .axUs, .axSw, .axRefresh, .axLeak, .axRecatch, .power, .loops]) fun l m =>
      TurnedAway l m h path (.setpoint es) ∧
      (l.allows h (.setpoint es) → (∃ x ∈ es, 4 ≤ x.axis) → Answered l m h path (.param 7) [] ∧ m.loops = l.loops) ∧
      (l.allows h (.setpoint es) → (∃ x ∈ es, ∃ n : Axis, n.val = x.axis ∧ l.loopRole n = .none) →
        Answered l m h path (.param 7) [] ∧ m.loops = l.loops) ∧
      (l.allows h (.setpoint es) → (∀ x ∈ es, ∃ n : Axis, n.val = x.axis ∧ l.loopRole n ≠ .none) →
        (¬(es.map (·.axis)).Nodup → Answered l m h path (.param 2) [] ∧ m.loops = l.loops) ∧
        ((es.map (·.axis)).Nodup → Answered l m h path .ok [] ∧
          ∀ (n : Axis) r, ⟨n.val, r⟩ ∈ es → m.word (R.LE_PREF_HI n) = BitVec.ofNat 32 (r.toNat / 2 ^ 32) ∧
            m.word (R.LE_PREF_LO n) = BitVec.ofNat 32 (r.toNat % 2 ^ 32)))) ∧
  -- DISARM (R553)
  (∀ (e : At) (h : Hdr) (path : Option Path) (s : State), s.Runs e →
    Does (.disarm e h path) s (replyParts ++ [.wing]) fun l m =>
      TurnedAway l m h path .disarm ∧
      (l.allows h .disarm → (∀ n, l.bookEnables n = true → l.flag (R.FB_STAT_STILL n) = true) →
        m.seats.modeReqs = l.seats.modeReqs ++ [⟨Mode.hold.code, none, h, path⟩] ∧
        m.seats.replies = l.seats.replies ∧ m.mode = l.mode) ∧
      (l.allows h .disarm → (∃ n, l.bookEnables n = true ∧
        l.flag (R.FB_STAT_STILL n) = false) → m.seats.modeReqs = l.seats.modeReqs ++
        [⟨0, some (4, l.mode.code), h, path⟩] ∧ m.wing.proposed = l.wing.proposed)) ∧
  -- WORKSHOP_ENTER (R553)
  (∀ (e : At) (h : Hdr) (path : Option Path) (s : State), s.Runs e →
    Does (.workshopEnter e h path) s (replyParts ++ [.wing]) fun l m =>
      TurnedAway l m h path .workshopEnter ∧
      (l.allows h .workshopEnter → l.mode = .curtain → 2 ≤ l.get R.LC_STATE_LIVECNT →
        m.seats.modeReqs = l.seats.modeReqs ++ [⟨Mode.workshop.code, none, h, path⟩] ∧
          m.seats.replies = l.seats.replies ∧ m.mode = l.mode) ∧
      (l.allows h .workshopEnter → l.mode = .curtain → l.get R.LC_STATE_LIVECNT < 2 →
        m.seats.modeReqs = l.seats.modeReqs ++ [⟨0, some (4, l.mode.code), h, path⟩]) ∧
      (l.allows h .workshopEnter → l.mode = .hold → l.wing.booksDiffer = false → l.wing.serialBad = false →
        m.seats.modeReqs = l.seats.modeReqs ++ [⟨Mode.workshop.code, none, h, path⟩] ∧
          m.seats.replies = l.seats.replies ∧ m.mode = l.mode) ∧
      (l.allows h .workshopEnter → l.mode = .hold → l.wing.booksDiffer = true ∨ l.wing.serialBad = true →
        m.seats.modeReqs = l.seats.modeReqs ++ [⟨0, some (4, l.mode.code), h, path⟩])) ∧
  -- WORKSHOP_LEAVE (R557)
  (∀ (e : At) (h : Hdr) (path : Option Path) (s : State), s.Runs e →
    Does (.workshopLeave e h path) s (replyParts ++ [.wing]) fun l m =>
      TurnedAway l m h path .workshopLeave ∧
      (l.allows h .workshopLeave → m.seats.modeReqs = l.seats.modeReqs ++ [⟨Mode.hold.code, none, h, path⟩] ∧
        m.seats.replies = l.seats.replies ∧ m.mode = l.mode))

/-- Sessions, the house log and attestation (R473, R476, R484, R534). -/
def Obligations.SessionsAndLog : Prop :=
  -- SESSION_OPEN (R473)
  (∀ (e : At) (h : Hdr) (path : Option Path) (key : BitVec 64) (a b : Bool) (s : State), s.Runs e →
    Does (.sessionOpen e h path key a b) s (replyParts ++
    [.reg R.BX_STAT, .reg R.BX_EVT, .reg R.BX_DIECOM, .reg (R.HS_SSES 0), .reg (R.HS_SSEQ 0), .log, .trust,
    .box]) fun l m =>
      TurnedAway l m h path (.sessionOpen key a b) ∧
      (l.allows h (.sessionOpen key a b) → h.session.toNat ≤ l.seats.sessionHigh[h.seat] →
        Answered l m h path (.auth 3) [] ∧ m.flag R.HS_EVT_AUTHFAIL = true ∧ m.flag R.HS_EVT_REPLAY = true ∧
        ∃ r, m.log = r :: l.log ∧ r.entry = .authFailed h.seat 3) ∧
      (l.allows h (.sessionOpen key a b) → l.trust.romResponder = false →
        l.seats.sessionHigh[h.seat] < h.session.toNat →
        ∃ t : Ticket, t.work = .session h path key a b ∧ t.cost = firmwareCost 3 ∧
        (l.tooDear t = true → Answered l m h path (.param 5) [] ∧ m.flag R.BX_EVT_TREFUSE = true ∧
          m.box.queued = l.box.queued) ∧
        (l.tooDear t = false → m.box.queued = l.box.queued ++ [t] ∧ m.seats.replies = l.seats.replies))) ∧
  -- SESSION_CLOSE (R476)
  (∀ (e : At) (h : Hdr) (path : Option Path) (s : State), s.Runs e →
    Does (.sessionClose e h path) s (replyParts ++ [.reg (R.HS_SSEQ 0), .trust]) fun l m =>
      TurnedAway l m h path .sessionClose ∧
      (l.allows h .sessionClose → l.flag (R.HS_SSEQ_OPEN h.seat) = false → Answered l m h path ⟨0, 2⟩ []) ∧
      (l.allows h .sessionClose → l.flag (R.HS_SSEQ_OPEN h.seat) = true → Answered l m h path .ok [] ∧
        m.flag (R.HS_SSEQ_OPEN h.seat) = false ∧ m.flag R.HS_EVT_SESCLOSE = true)) ∧
  -- LOG_READ (R484)
  (∀ (e : At) (h : Hdr) (path : Option Path) (first largest : Nat) (s : State), s.Runs e →
    Does (.logRead e h path first largest) s replyParts fun l m =>
      TurnedAway l m h path (.logRead first largest) ∧
      (l.allows h (.logRead first largest) → largest < 16 ∨ 1024 < largest → Answered l m h path (.param 1) []) ∧
      (l.allows h (.logRead first largest) → 16 ≤ largest → largest ≤ 1024 →
        ∃ rs, rs <+: (l.log.filter fun r => decide (first ≤ r.num)).reverse ∧
          (rs.flatMap recordBytes).length ≤ largest ∧
          Answered l m h path .ok (rs.flatMap recordBytes))) ∧
  -- LOG_MARK (R484)
  (∀ (e : At) (h : Hdr) (path : Option Path) (text : List Byte) (s : State), s.Runs e →
    Does (.logMark e h path text) s (replyParts ++ [.log]) fun l m =>
      TurnedAway l m h path (.logMark text) ∧
      (l.allows h (.logMark text) → Answered l m h path .ok (beBytes 8 l.logNext) ∧
        ∃ r, m.log = r :: l.log ∧ r.num = l.logNext ∧ r.entry = .mark text)) ∧
  -- ATTEST (R534)
  (∀ (e : At) (h : Hdr) (path : Option Path) (nonce : BitVec 256) (s : State), s.Runs e →
    Does (.attest e h path nonce) s (replyParts ++ [.reg R.BX_STAT, .reg R.BX_EVT, .reg R.BX_DIECOM, .box]) fun l m =>
      TurnedAway l m h path (.attest nonce) ∧
      (l.allows h (.attest nonce) → l.trust.romResponder = false → ∃ t : Ticket, t.work = .attest h path nonce ∧
        t.cost = firmwareCost 3 ∧
        (l.tooDear t = true → Answered l m h path (.param 5) [] ∧ m.flag R.BX_EVT_TREFUSE = true ∧
          m.box.queued = l.box.queued) ∧
        (l.tooDear t = false → m.box.queued = l.box.queued ++ [t] ∧ m.seats.replies = l.seats.replies)))

/-- Loading, activating and aborting a prompt book (R340, R483, R342). -/
def Obligations.BookOpcodes : Prop :=
  -- PB_LOAD_BEGIN (R340)
  (∀ (e : At) (h : Hdr) (path : Option Path) (length : Nat) (digest : BitVec 384) (s : State), s.Runs e →
    Does (.pbLoadBegin e h path length digest) s (replyParts ++ [.trust]) fun l m =>
      TurnedAway l m h path (.pbLoadBegin length digest) ∧
      (l.allows h (.pbLoadBegin length digest) → l.trust.load ≠ none → Answered l m h path (.busy 16) [] ∧
        m.trust = l.trust) ∧
      (l.allows h (.pbLoadBegin length digest) → l.trust.load = none → 2097152 < length →
        Answered l m h path (.param 1) [] ∧ m.trust = l.trust) ∧
      (l.allows h (.pbLoadBegin length digest) → l.trust.load = none → length ≤ 2097152 →
        Answered l m h path .ok [] ∧ m.trust.load = some ⟨false, h.seat, inactiveSlot l.pbSlots, length, digest, 0⟩ ∧
        m.trust.flash.pb[inactiveSlot l.pbSlots] = none ∧ activeSlot m.pbSlots = activeSlot l.pbSlots)) ∧
  -- PB_LOAD_DATA (R483)
  (∀ (e : At) (h : Hdr) (path : Option Path) (offset count : Nat) (s : State), s.Runs e →
    Does (.pbLoadData e h path offset count) s (replyParts ++ [.trust]) fun l m =>
      TurnedAway l m h path (.pbLoadData offset count) ∧
      (l.allows h (.pbLoadData offset count) → l.trust.load = none → Answered l m h path (.param 3) [] ∧
        m.trust = l.trust) ∧
      (∀ x, l.allows h (.pbLoadData offset count) → l.trust.load = some x → x.seat ≠ h.seat →
        Answered l m h path (.busy 16) [] ∧ m.trust = l.trust) ∧
      (∀ x, l.allows h (.pbLoadData offset count) → l.trust.load = some x → x.seat = h.seat →
        (x.firmware ≠ false ∨ offset ≠ x.written ∨ x.length < offset + count) → Answered l m h path (.param 3) [] ∧
          m.trust = l.trust) ∧
      (∀ x, l.allows h (.pbLoadData offset count) → l.trust.load = some x → x.seat = h.seat → x.firmware = false →
        offset = x.written → offset + count ≤ x.length →
        Answered l m h path .ok [] ∧ m.trust.load = some { x with written := offset + count })) ∧
  -- PB_LOAD_END (R483)
  (∀ (e : At) (h : Hdr) (path : Option Path) (rb : Bool) (b : Book) (s : State), s.Runs e →
    Does (.pbLoadEnd e h path rb b) s (replyParts ++ [.trust]) fun l m =>
      TurnedAway l m h path (.pbLoadEnd rb b) ∧
      (l.allows h (.pbLoadEnd rb b) → l.loadOf h false = none → Answered l m h path (.image 1) [] ∧ m.trust = l.trust) ∧
      (∀ x, l.allows h (.pbLoadEnd rb b) → l.loadOf h false = some x →
        x.written ≠ x.length ∨ x.digest ≠ b.digest ∨ rb = false →
        Answered l m h path (.image 1) [] ∧ m.trust.load = none ∧ m.trust.flash = l.trust.flash) ∧
      (∀ x c, l.allows h (.pbLoadEnd rb b) → l.loadOf h false = some x → x.written = x.length → x.digest = b.digest →
        rb = true →
        l.verifyBook b = some c → Answered l m h path (.image c) l.bookBytes ∧ m.trust.load = none ∧
          m.trust.flash = l.trust.flash) ∧
      (∀ x, l.allows h (.pbLoadEnd rb b) → l.loadOf h false = some x → x.written = x.length → x.digest = b.digest →
        rb = true →
        l.verifyBook b = none → Answered l m h path .ok m.bookBytes ∧ m.trust.load = none ∧
        m.trust.flash.pb[x.slot] = some (makeRecord (BitVec.ofNat 32 (nextWrite l.pbSlots)) x.length x.digest, b))) ∧
  -- PB_ACTIVATE (R342)
  (∀ (e : At) (h : Hdr) (path : Option Path) (s : State), s.Runs e →
    Does (.pbActivate e h path) s (replyParts ++ [.reg R.LC_STATE, .reg R.BX_PCAP, .reg R.BI_STAT,
    .reg (R.DC_STAT 0), .reg (R.DC_LASTX 0), .reg (R.GD_STAT 0), .reg (R.GD_EVT 0), .reg (R.LE_STAT 0),
    .reg R.SF_KOSTAT, .log, .emit, .axUs, .axSw, .axRefresh, .axLeak, .axRecatch, .power, .wing, .call, .safety,
    .trust]) fun l m =>
      TurnedAway l m h path .pbActivate ∧
      (l.allows h .pbActivate → activeSlot l.pbSlots = none → Answered l m h path l.bookStatus l.bookBytes ∧
        m.mode = l.mode) ∧
      (∀ k x b, l.allows h .pbActivate → activeSlot l.pbSlots = some k → l.pbSlots[k] = some (x, b) →
        m.mode = .scriptCheck ∧ m.trust.book = l.trust.book ∧ m.wing.digestSent = true ∧
        (l.verifyBook b = none → m.trust.state = 2 ∧ m.trust.checking = some b) ∧
        (∀ c, l.verifyBook b = some c → m.trust.state = 3 ∧ m.trust.code = c) ∧
        ∀ n : Axis, m.flag (R.DC_CTRL_EN n) = l.flag (R.DC_CTRL_EN n))) ∧
  -- PB_ABORT (R483)
  (∀ (e : At) (h : Hdr) (path : Option Path) (s : State), s.Runs e →
    Does (.pbAbort e h path) s (replyParts ++ [.trust]) fun l m =>
      TurnedAway l m h path .pbAbort ∧
      (l.allows h .pbAbort → l.trust.load = none → Answered l m h path ⟨0, 2⟩ [] ∧ m.trust = l.trust) ∧
      (l.allows h .pbAbort → l.trust.load ≠ none → Answered l m h path .ok [] ∧ m.trust.load = none ∧
        m.trust.flash = l.trust.flash))

/-- Loading, restarting and committing firmware (R340, R483, R341). -/
def Obligations.FirmwareOpcodes : Prop :=
  -- FW_LOAD_BEGIN (R340)
  (∀ (e : At) (h : Hdr) (path : Option Path) (length : Nat) (digest : BitVec 384) (s : State), s.Runs e →
    Does (.fwLoadBegin e h path length digest) s (replyParts ++ [.trust]) fun l m =>
      TurnedAway l m h path (.fwLoadBegin length digest) ∧
      (l.allows h (.fwLoadBegin length digest) → l.trust.load ≠ none → Answered l m h path (.busy 16) [] ∧
        m.trust = l.trust) ∧
      (l.allows h (.fwLoadBegin length digest) → l.trust.load = none → 4194304 < length →
        Answered l m h path (.param 1) [] ∧ m.trust = l.trust) ∧
      (l.allows h (.fwLoadBegin length digest) → l.trust.load = none → length ≤ 4194304 →
        Answered l m h path .ok [] ∧ m.trust.load = some ⟨true, h.seat, inactiveSlot l.fwSlots, length, digest, 0⟩ ∧
        m.trust.flash.fw[inactiveSlot l.fwSlots] = none ∧ activeSlot m.fwSlots = activeSlot l.fwSlots)) ∧
  -- FW_LOAD_DATA (R483)
  (∀ (e : At) (h : Hdr) (path : Option Path) (offset count : Nat) (s : State), s.Runs e →
    Does (.fwLoadData e h path offset count) s (replyParts ++ [.trust]) fun l m =>
      TurnedAway l m h path (.fwLoadData offset count) ∧
      (l.allows h (.fwLoadData offset count) → l.trust.load = none → Answered l m h path (.param 3) [] ∧
        m.trust = l.trust) ∧
      (∀ x, l.allows h (.fwLoadData offset count) → l.trust.load = some x → x.seat ≠ h.seat →
        Answered l m h path (.busy 16) [] ∧ m.trust = l.trust) ∧
      (∀ x, l.allows h (.fwLoadData offset count) → l.trust.load = some x → x.seat = h.seat →
        (x.firmware ≠ true ∨ offset ≠ x.written ∨ x.length < offset + count) → Answered l m h path (.param 3) [] ∧
          m.trust = l.trust) ∧
      (∀ x, l.allows h (.fwLoadData offset count) → l.trust.load = some x → x.seat = h.seat → x.firmware = true →
        offset = x.written → offset + count ≤ x.length →
        Answered l m h path .ok [] ∧ m.trust.load = some { x with written := offset + count })) ∧
  -- FW_LOAD_END (R483)
  (∀ (e : At) (h : Hdr) (path : Option Path) (rb : Bool) (f : FwImage) (s : State), s.Runs e →
    Does (.fwLoadEnd e h path rb f) s (replyParts ++ [.trust]) fun l m =>
      TurnedAway l m h path (.fwLoadEnd rb f) ∧
      (l.allows h (.fwLoadEnd rb f) → l.loadOf h true = none → Answered l m h path (.image 1) [] ∧ m.trust = l.trust) ∧
      (∀ x, l.allows h (.fwLoadEnd rb f) → l.loadOf h true = some x →
        x.written ≠ x.length ∨ x.digest ≠ f.digest ∨ rb = false →
        Answered l m h path (.image 1) [] ∧ m.trust.load = none ∧ m.trust.flash = l.trust.flash) ∧
      (∀ x c, l.allows h (.fwLoadEnd rb f) → l.loadOf h true = some x → x.written = x.length → x.digest = f.digest →
        rb = true →
        l.firmwareRefused f = some c → Answered l m h path (.image c) [] ∧ m.trust.load = none ∧
          m.trust.flash = l.trust.flash) ∧
      (∀ x, l.allows h (.fwLoadEnd rb f) → l.loadOf h true = some x → x.written = x.length → x.digest = f.digest →
        rb = true →
        l.firmwareRefused f = none → Answered l m h path .ok m.firmwareBytes ∧ m.trust.load = none ∧
        m.trust.flash.fw[x.slot] = some (makeRecord (BitVec.ofNat 32 (nextWrite l.fwSlots)) x.length x.digest, f))) ∧
  -- FW_RESTART (R341)
  (∀ (e : At) (h : Hdr) (path : Option Path) (s : State), s.Runs e → Does (.fwRestart e h path) s replyParts fun l m =>
      TurnedAway l m h path .fwRestart ∧
      (l.allows h .fwRestart → m.mode_.fwRestart = true ∧ Answered l m h path .ok []) ∧
      (l.named h → l.opRefused h .fwRestart ≠ none → m.mode_.fwRestart = l.mode_.fwRestart) ∧
      (¬l.named h → l.mode = .hold ∨ l.mode = .workshop → m.mode_.fwRestart = true)) ∧
  -- FW_COMMIT (R341)
  (∀ (e : At) (h : Hdr) (path : Option Path) (s : State), s.Runs e →
    Does (.fwCommit e h path) s (replyParts ++ [.trust]) fun l m =>
      TurnedAway l m h path .fwCommit ∧
      (∀ f, l.allows h .fwCommit → l.trust.fw = some f → l.wing.values.oneVersion = true →
        m.trust.fuses.counter = max l.trust.fuses.counter (min 64 (imageSecurity f.envelope)) ∧
        Answered l m h path .ok (beBytes 1 m.trust.fuses.counter ++ [0, 0, 0])) ∧
      (∀ f, l.allows h .fwCommit → l.trust.fw = some f → l.wing.values.oneVersion = false →
        Answered l m h path ⟨4, l.mode.code⟩ [] ∧ m.trust = l.trust))

/-- Confirmation, cartridge and life decisions, reruns and tasks (R338, R542, R546, R365). -/
def Obligations.DecisionOpcodes : Prop :=
  -- CONFIRM_CHECK (R338)
  (∀ (e : At) (h : Hdr) (path : Option Path) (v : Word) (s : State), s.Runs e →
    Does (.confirmCheck e h path v) s (replyParts ++ [.fresh, .trust]) fun l m =>
      TurnedAway l m h path (.confirmCheck v) ∧
      (l.allows h (.confirmCheck v) → l.trust.load ≠ none → Answered l m h path (.busy 17) [] ∧ m.trust = l.trust) ∧
      (l.allows h (.confirmCheck v) → l.trust.load = none → l.trust.state ≠ 4 ∨ l.wing.values.noneConfirmed = false →
        Answered l m h path l.bookStatus l.bookBytes ∧ m.trust = l.trust) ∧
      (∀ b, l.allows h (.confirmCheck v) → l.trust.load = none → l.trust.state = 4 →
        l.wing.values.noneConfirmed = true →
        l.trust.book = some b → checkValue b = v → m.trust.confirm = some (v, h, path) ∧
          m.seats.replies = l.seats.replies) ∧
      (∀ b, l.allows h (.confirmCheck v) → l.trust.load = none → l.trust.state = 4 →
        l.wing.values.noneConfirmed = true →
        l.trust.book = some b → checkValue b ≠ v → m.trust = l.trust ∧
        ∃ d, d < 256 ∧ Answered l m h path (.param d) l.bookBytes)) ∧
  -- CART_ACCEPT (R542)
  (∀ (e : At) (h : Hdr) (path : Option Path) (axis : Nat) (d : BitVec 384) (s : State), s.Runs e →
    Does (.cartAccept e h path axis d) s (replyParts ++
    [.reg (R.CT_STAT 0), .reg (R.CT_EVT 0), .log, .trust]) fun l m =>
      TurnedAway l m h path (.cartAccept axis d) ∧
      (l.allows h (.cartAccept axis d) → 4 ≤ axis → Answered l m h path (.param 7) [] ∧ m.trust = l.trust) ∧
      (∀ n : Axis, n.val = axis → l.allows h (.cartAccept axis d) → (l.cart n).running = true →
        (m.cart n).acceptWait = some (d, h, path)) ∧
      (∀ n : Axis, n.val = axis → l.allows h (.cartAccept axis d) → (l.cart n).running = false →
        (l.cart n).digest ≠ some d →
        Answered l m h path (.param 7) [] ∧ m.trust = l.trust) ∧
      (∀ n : Axis, n.val = axis → l.allows h (.cartAccept axis d) → (l.cart n).running = false →
        (l.cart n).digest = some d →
        l.axisTrusted n = true → Answered l m h path ⟨0, 2⟩ [] ∧ m.trust = l.trust) ∧
      (∀ n : Axis, n.val = axis → l.allows h (.cartAccept axis d) → (l.cart n).running = false →
        (l.cart n).digest = some d →
        l.axisTrusted n = false → Answered l m h path .ok [] ∧ m.get (R.CT_STAT_AUTH n) = 3 ∧
        m.flag (R.CT_EVT_ACCEPT n) = true ∧ m.trust.flash.accepted[n] = some d)) ∧
  -- LIFE_ACK (R546)
  (∀ (e : At) (h : Hdr) (path : Option Path) (axis : Nat) (s : State), s.Runs e →
    Does (.lifeAck e h path axis) s (replyParts ++ [.reg R.BX_EVT, .reg (R.DC_TQLIM 0), .reg (R.LE_WMAX 0),
    .reg (R.CT_STAT 0), .trust]) fun l m =>
      TurnedAway l m h path (.lifeAck axis) ∧
      (l.allows h (.lifeAck axis) → 4 ≤ axis → Answered l m h path (.param 7) [] ∧ m.trust = l.trust) ∧
      (∀ n : Axis, n.val = axis → l.allows h (.lifeAck axis) → l.lifeRefused n = false →
        Answered l m h path ⟨0, 2⟩ [] ∧ m.trust = l.trust) ∧
      (∀ n : Axis, n.val = axis → l.allows h (.lifeAck axis) → l.lifeRefused n = true →
        Answered l m h path .ok [] ∧ m.get (R.CT_STAT_RESTR n) = 1 ∧ (m.cart n).acked = true)) ∧
  -- REH_RERUN (R365)
  (∀ (e : At) (h : Hdr) (path : Option Path) (step : Nat) (s : State), s.Runs e →
    Does (.rehRerun e h path step) s (replyParts ++ [.reg R.BX_STAT, .reg R.BX_EVT, .reg R.BX_DIECOM, .box]) fun l m =>
      TurnedAway l m h path (.rehRerun step) ∧
      (l.allows h (.rehRerun step) → step < 3 ∨ 9 < step → Answered l m h path (.param 7) [] ∧ m.box = l.box) ∧
      (l.allows h (.rehRerun step) → 3 ≤ step → step ≤ 9 → ∃ t : Ticket, t.work = .rerun step ∧
        t.cost = stepTicket step ∧
        (l.tooDear t = true → Answered l m h path (.param 5) [] ∧ m.flag R.BX_EVT_TREFUSE = true ∧
          m.box.queued = l.box.queued) ∧
        (l.tooDear t = false → Answered l m h path .ok [] ∧ m.box.queued = l.box.queued ++ [t]))) ∧
  -- REH_TASK (R365)
  (∀ (e : At) (h : Hdr) (path : Option Path) (index : Nat) (s : State), s.Runs e →
    Does (.rehTask e h path index) s (replyParts ++ [.reg R.BX_STAT, .reg R.BX_EVT, .reg R.BX_DIECOM, .box]) fun l m =>
      TurnedAway l m h path (.rehTask index) ∧
      (l.allows h (.rehTask index) → (((l.trust.book.bind (·.tasks)).getD [])[index]?) = none →
        Answered l m h path (.param 7) [] ∧ m.box = l.box) ∧
      (∀ x, l.allows h (.rehTask index) → (((l.trust.book.bind (·.tasks)).getD [])[index]?) = some x →
        ∃ t : Ticket, t.work = .task x.id ∧ t.cost = x.cost ∧
        (l.tooDear t = true → Answered l m h path (.param 5) [] ∧ m.flag R.BX_EVT_TREFUSE = true ∧
          m.box.queued = l.box.queued) ∧
        (l.tooDear t = false → Answered l m h path .ok [] ∧ m.box.queued = l.box.queued ++ [t])))

/-- Safety inputs and the reset button (R517, R518, R522, R523). -/
def Obligations.SafetyInputs : Prop :=
  -- SAFETY_INPUT_CHANGE (R517)
  (∀ (e : At) (k : Fin 8) (pos neg : Bool) (held : Nat) (s : State), s.Runs e →
    Does (.safetyInputChange ⟨e, held⟩ k pos neg) s [.reg R.SF_RAW, .reg R.SF_OWN, .safety] fun l m =>
      (us held < tenths (l.get (R.SF_SICFG_FILT k)) → m = l) ∧
      (tenths (l.get (R.SF_SICFG_FILT k)) ≤ us held →
        m.bit R.SF_RAW_P k = pos ∧ m.bit R.SF_RAW_N k = neg ∧
        m.bit R.SF_OWN_DEM k = (!(pos && !neg) || l.bit R.SF_OWN_DISCF k) ∧
          m.bit R.SF_OWN_DISCF k = l.bit R.SF_OWN_DISCF k ∧
        (pos = neg → m.safety.discSince[k] = some (l.safety.discSince[k].getD l.now)) ∧
        (pos ≠ neg → m.safety.discSince[k] = none) ∧
        (pos = false → neg = true → l.bit R.SF_OWN_DISCF k = true → m.safety.shown.getLsbD k = true))) ∧
  -- DISCREPANCY_FAULT (R517)
  (∀ (e : At) (k : Fin 8) (s : State), s.Runs e → Does (.discrepancyFault e k) s [.reg R.SF_OWN, .reg R.SF_EVT,
    .safety] fun l m =>
      (l.safety.discSince[k] = none → m = l) ∧
      (∀ t, l.safety.discSince[k] = some t → l.now < t + ms (l.get (R.SF_SICFG_DISC k)) → m = l) ∧
      (∀ t, l.safety.discSince[k] = some t → t + ms (l.get (R.SF_SICFG_DISC k)) ≤ l.now →
        l.bit R.SF_OWN_DISCF k = false →
        m.bit R.SF_OWN_DISCF k = true ∧ m.flag R.SF_EVT_DISC = true ∧ m.bit R.SF_OWN_DEM k = true ∧
          m.safety.shown.getLsbD k = false)) ∧
  -- GT_SEEN_OPEN (R518)
  (∀ (e : At) (g : Fin 2) (low : Nat) (s : State), s.Runs e →
    Does (.gtSeenOpen ⟨e, low⟩ g) s [.reg R.SF_STAT, .reg R.SF_RAW, .reg R.SF_EVT] fun l m =>
      (l.mode = .boot ∨ l.bit R.SF_STAT_GTOK g = true ∨ us low < tenths (l.get (R.SF_GTCFG_FILT g)) ∨
        l.now < l.mode_.leftBoot + tenths (l.get (R.SF_GTCFG_FILT g)) → m = l) ∧
      (l.mode ≠ .boot → l.bit R.SF_STAT_GTOK g = false → tenths (l.get (R.SF_GTCFG_FILT g)) ≤ us low →
        l.mode_.leftBoot + tenths (l.get (R.SF_GTCFG_FILT g)) ≤ l.now →
        m.bit R.SF_STAT_GTOK g = true ∧ m.flag R.SF_EVT_GTSEEN = true ∧ m.bit R.SF_RAW_GT g = false)) ∧
  -- GT_INPUT_CHANGE (R518)
  (∀ (e : At) (g : Fin 2) (high : Bool) (held : Nat) (s : State), s.Runs e →
    Does (.gtInputChange ⟨e, held⟩ g high) s [.reg R.SF_RAW, .reg R.SF_OWN] fun l m =>
      (us held < tenths (l.get (R.SF_GTCFG_FILT g)) → m = l) ∧
      (tenths (l.get (R.SF_GTCFG_FILT g)) ≤ us held → m.bit R.SF_RAW_GT g = high ∧
        m.bit R.SF_OWN_DEM (8 + g.val) = (if l.bit R.SF_STAT_GTOK g then !high else l.bit R.SF_OWN_DEM (8 + g.val)))) ∧
  -- RESET_BUTTON (R522)
  (∀ (e : At) (high low : Nat) (s : State), s.Runs e →
    Does (.resetButton e high low) s [.reg R.SF_STAT, .reg R.SF_RAW, .reg R.SF_EVT, .reg R.SF_RST, .reg R.SF_RSTHI,
    .safety] fun l m =>
      (high < 1000 ∨ low < 1000 → m = l) ∧
      (1000 ≤ high → 1000 ≤ low → m.flag R.SF_RAW_SRS = false ∧ m.get R.SF_RSTHI_HIGH = min 65535 (high / 1000) ∧
        m.flag R.SF_STAT_RSTUCK = false) ∧
      (1000 ≤ high → 1000 ≤ low → l.flag R.SF_STAT_RSTUCK = true ∨ 2000000 < high ∨ l.highFromBoot high = true →
        m.safety.resetNow = l.safety.resetNow ∧ m.get R.SF_RST_SHORT = l.get R.SF_RST_SHORT) ∧
      (l.flag R.SF_STAT_RSTUCK = false → l.highFromBoot high = false → 1000 ≤ low → 1000 ≤ high → high < 50000 →
        m.safety.resetNow = l.safety.resetNow ∧ m.flag R.SF_EVT_RSTSHORT = true ∧
        m.get R.SF_RST_SHORT = min 255 (l.get R.SF_RST_SHORT + 1)) ∧
      (l.flag R.SF_STAT_RSTUCK = false → l.highFromBoot high = false → 1000 ≤ low → 50000 ≤ high → high ≤ 2000000 →
        m.safety.resetNow = true)) ∧
  -- RESET_STUCK (R522)
  (∀ (e : At) (high : Nat) (s : State), s.Runs e → Does (.resetStuck ⟨e, high⟩) s [.reg R.SF_STAT, .reg R.SF_RAW,
    .reg R.SF_EVT, .reg R.SF_RST] fun l m =>
      (l.flag R.SF_STAT_RSTUCK = true ∨ high ≤ 2000000 → m = l) ∧
      (l.flag R.SF_STAT_RSTUCK = false → 2000000 < high →
        m.flag R.SF_STAT_RSTUCK = true ∧ m.flag R.SF_EVT_RSTUCK = true ∧ m.flag R.SF_RAW_SRS = true ∧
        m.get R.SF_RST_STUCK = min 255 (l.get R.SF_RST_STUCK + 1))) ∧
  -- RESET_SINGLE (R523)
  (∀ (e : At) (s : State), s.Runs e → Does (.resetSingle e) s [.reg R.SF_EVT, .safety] fun l m =>
      ((∀ x ∈ l.safety.resets.toList, ∀ t, x = some t → l.ltimeNs ≤ t + l.get R.SF_CFG_RWIN * 1000000) → m = l) ∧
      ((∃ t, some t ∈ l.safety.resets.toList ∧ t + l.get R.SF_CFG_RWIN * 1000000 < l.ltimeNs) →
        m.flag R.SF_EVT_RSTSINGLE = true ∧
        ∀ t, some t ∈ m.safety.resets.toList → l.ltimeNs ≤ t + l.get R.SF_CFG_RWIN * 1000000))

/-- Contactor outputs and their faults (R524, R525). -/
def Obligations.Contactors : Prop :=
  -- KO_COMMAND (R524)
  (∀ (e : At) (cmd : BitVec 4) (s : State), s.Runs e →
    Does (.koCommand e cmd) s [.reg R.SF_KOCMD, .reg R.SF_KOSTAT, .emit, .safety] fun l m =>
      m.get R.SF_KOCMD_CMD = cmd.toNat ∧
      (∀ k : Fin 4, m.bit R.SF_KOSTAT_ON k = (l.put R.SF_KOCMD_CMD cmd.toNat).koWanted k) ∧
      (∀ k : Fin 4, l.get (R.SF_KOCFG_FUNC k) = 3 → cmd.getLsbD k = false → m.bit R.SF_KOSTAT_ON k = false)) ∧
  -- CONTACTOR_CHECK (R525)
  (∀ (e : At) (k : Fin 4) (high : Bool) (s : State), s.Runs e →
    Does (.contactorCheck e k high) s (setOutParts ++ [.reg R.SF_RAW, .reg R.SF_EVT]) fun l m =>
      m.bit R.SF_RAW_KF k = high ∧
      (l.flag (R.SF_KOCFG_FBEN k) = false ∨ l.now < l.safety.koAt[k] + ms 50 ∨ l.contactorClosed k high = l.bit
        R.SF_KOSTAT_ON k →
        m.bit R.SF_KOSTAT_ON k = l.bit R.SF_KOSTAT_ON k ∧ m.bit R.SF_KOSTAT_NOCLOSE k = l.bit R.SF_KOSTAT_NOCLOSE k ∧
        m.bit R.SF_KOSTAT_WELD k = l.bit R.SF_KOSTAT_WELD k) ∧
      (l.flag (R.SF_KOCFG_FBEN k) = true → l.safety.koAt[k] + ms 50 ≤ l.now → l.contactorClosed k high = false →
        l.bit R.SF_KOSTAT_ON k = true →
        m.bit R.SF_KOSTAT_NOCLOSE k = true ∧ m.flag R.SF_EVT_NOCLOSE = true ∧ m.bit R.SF_KOSTAT_ON k = false ∧
        (l.get (R.SF_KOCFG_FUNC k) = 1 → ∀ n, m.inService n = false)) ∧
      (l.flag (R.SF_KOCFG_FBEN k) = true → l.safety.koAt[k] + ms 50 ≤ l.now → l.contactorClosed k high = true →
        l.bit R.SF_KOSTAT_ON k = false →
        m.bit R.SF_KOSTAT_WELD k = true ∧ m.flag R.SF_EVT_WELD = true ∧ m.bit R.SF_KOSTAT_ON k = false)) ∧
  -- CONTACTOR_FAULT (R525)
  (∀ (e : At) (k : Fin 4) (high : Bool) (held : Nat) (s : State), s.Runs e →
    Does (.contactorFault ⟨e, held⟩ k high) s (setOutParts ++ [.reg R.SF_RAW, .reg R.SF_EVT]) fun l m =>
      (held < 10000 → m = l) ∧
      (10000 ≤ held → m.bit R.SF_RAW_KF k = high) ∧
      (10000 ≤ held → l.flag (R.SF_KOCFG_FBEN k) = false ∨ l.now < l.safety.koAt[k] + ms 60 ∨
        l.contactorClosed k high = l.bit R.SF_KOSTAT_ON k →
        m.bit R.SF_KOSTAT_ON k = l.bit R.SF_KOSTAT_ON k ∧ m.bit R.SF_KOSTAT_NOCLOSE k = l.bit R.SF_KOSTAT_NOCLOSE k ∧
        m.bit R.SF_KOSTAT_WELD k = l.bit R.SF_KOSTAT_WELD k) ∧
      (10000 ≤ held → l.flag (R.SF_KOCFG_FBEN k) = true → l.safety.koAt[k] + ms 60 ≤ l.now →
        l.contactorClosed k high = false →
        l.bit R.SF_KOSTAT_ON k = true →
        m.bit R.SF_KOSTAT_NOCLOSE k = true ∧ m.flag R.SF_EVT_NOCLOSE = true ∧ m.bit R.SF_KOSTAT_ON k = false ∧
        (l.get (R.SF_KOCFG_FUNC k) = 1 → ∀ n, m.inService n = false)) ∧
      (10000 ≤ held → l.flag (R.SF_KOCFG_FBEN k) = true → l.safety.koAt[k] + ms 60 ≤ l.now →
        l.contactorClosed k high = true →
        l.bit R.SF_KOSTAT_ON k = false →
        m.bit R.SF_KOSTAT_WELD k = true ∧ m.flag R.SF_EVT_WELD = true ∧ m.bit R.SF_KOSTAT_ON k = false)) ∧
  -- KO_OVERCURRENT (R525)
  (∀ (e : At) (k : Fin 4) (held : Nat) (s : State), s.Runs e →
    Does (.koOvercurrent ⟨e, held⟩ k) s (setOutParts ++ [.reg R.SF_EVT]) fun l m =>
      (l.bit R.SF_KOSTAT_ON k = false ∨ held < 50 → m = l) ∧
      (l.bit R.SF_KOSTAT_ON k = true → 50 ≤ held →
        m.bit R.SF_KOSTAT_OC k = true ∧ m.flag R.SF_EVT_OC = true ∧ m.bit R.SF_KOSTAT_ON k = false ∧
        (l.get (R.SF_KOCFG_FUNC k) = 1 → ∀ n, m.inService n = false))) ∧
  -- KO_SHORT (R525)
  (∀ (e : At) (k : Fin 4) (held : Nat) (s : State), s.Runs e →
    Does (.koShort ⟨e, held⟩ k) s [.reg R.SF_EVT, .reg R.SF_KOSTAT] fun l m =>
      (l.bit R.SF_KOSTAT_ON k = true → m = l) ∧
      (l.bit R.SF_KOSTAT_ON k = false → m.bit R.SF_KOSTAT_RDBK k = true ∧ m.bit R.SF_KOSTAT_ON k = false) ∧
      (l.bit R.SF_KOSTAT_ON k = false → held < 10000 ∨ l.now < l.safety.koAt[k] + ms 10 →
        m.bit R.SF_KOSTAT_SHORT k = l.bit R.SF_KOSTAT_SHORT k) ∧
      (l.bit R.SF_KOSTAT_ON k = false → 10000 ≤ held → l.safety.koAt[k] + ms 10 ≤ l.now →
        m.bit R.SF_KOSTAT_SHORT k = true ∧ m.flag R.SF_EVT_SHORT = true))

/-- Tamper trips and the debug port (R535, R537). -/
def Obligations.TamperAndDebug : Prop :=
  -- TAMPER (R535)
  (∀ (e : At) (r : TamperReading) (s : State), s.Powered e →
    Does (.tamper e r) s [.reg (R.GD_STAT 0), .reg (R.GD_EVT 0), .reg R.SF_KOSTAT, .reg R.KP_STAT,
    .reg (R.HS_SSEQ 0), .emit, .axUs, .axSw, .axLeak, .power, .safety, .trust] fun l m =>
      (l.tamperCause r = none → m = l) ∧
      (∀ c, l.tamperCause r = some c → m.power.phase = .oscillator ∧ m.logicUp = false ∧ (∀ n, m.on n = 0) ∧
        m.flag R.KP_STAT_IDKEY = false ∧ (∀ w : Seat, m.flag (R.HS_SSEQ_OPEN w) = false) ∧
        m.trust.flash.tampers = l.trust.flash.tampers + 1 ∧ m.trust.flash.tamperCause = tamperCode c)) ∧
  -- DEBUG_CHALLENGE (R537)
  (∀ (e : At) (s : State), s.Runs e → Does (.debugChallenge e) s [.emit, .fresh, .trust] fun l m =>
      ∃ c, m.trust.challenge = some c ∧ m.emit = .challenge c :: l.emit) ∧
  -- DEBUG_UNLOCK (R537)
  (∀ (e : At) (token : DebugToken) (s : State), s.Runs e →
    Does (.debugUnlock e token) s (laneOutParts ++ [.reg R.KP_STAT, .reg R.KP_EVT, .trust]) fun l m =>
      (l.tokenOk token = false → m = l) ∧
      (l.tokenOk token = true → m.lstate = .out ∧ m.flag R.KP_STAT_DBGOPEN = true ∧ m.flag R.KP_STAT_ERASED = true ∧
        m.flag R.KP_STAT_IDKEY = false ∧ m.flag R.KP_EVT_UNLOCK = true ∧ m.trust.fuses.erased = true ∧
          m.trust.debugOpen = true))

/-- Cartridge authentication and the playbill (R540, R545). -/
def Obligations.Cartridges : Prop :=
  -- CARTRIDGE_AUTH (R540)
  (∀ (e : At) (n : Axis) (s : State), s.Runs e → Does (.cartridgeAuth e n) s [.emit, .fresh, .trust] fun l m =>
      (l.bookEnables n = false ∨ l.get (R.FB_CFG_SER n) ≠ 2 ∨ l.flag (R.FB_STAT_SERLOCK n) = false ∨ (l.cart n).due =
        false → m = l) ∧
      (l.bookEnables n = true → l.get (R.FB_CFG_SER n) = 2 → l.flag (R.FB_STAT_SERLOCK n) = true →
        (l.cart n).due = true →
        ∃ c, (m.cart n).running = true ∧ (m.cart n).due = false ∧ (m.cart n).challenge = some c ∧ m.regs = l.regs ∧
        m.emit = .cartChallenge n c :: l.emit)) ∧
  -- CARTRIDGE_AUTH_DONE (R540)
  (∀ (e : At) (n : Axis) (r : CartRead) (s : State), s.Runs e →
    Does (.cartridgeAuthDone e n r) s [.reg (R.CN_BCTL 0 0), .reg (R.CN_BDAT 0 0 0), .reg (R.CT_STAT 0),
    .reg (R.CT_EVT 0), .reg (R.CT_RATED_LO 0), .reg (R.CT_RATED_HI 0), .reg (R.CT_ID 0 0), .reg R.HS_EVT,
    .reg R.HS_PORT, .reg R.HS_CNT1, .reg R.HS_CNT2, .reg R.HS_CNT3, .reg (R.HS_SLAST 0), .log, .seats,
    .trust] fun l m =>
      ((l.cart n).running = false → m = l) ∧
      ((l.cart n).running = true → (m.cart n).running = false ∧ (m.cart n).challenge = none ∧
        (m.cart n).digest = some r.digest) ∧
      ((l.cart n).running = true → r.digest ∈ l.trust.flash.verified ∨ l.chainOk r = true → l.challengeOk n r = true →
        m.get (R.CT_STAT_AUTH n) = 1 ∧ (r.rated < 2 ^ 64 → m.rated n = r.rated) ∧
        (m.cart n).record = ((playbillOf r).map (·.1)).getD 0 ∧ (m.cart n).seq = ((playbillOf r).map (·.2)).getD 0 ∧
        r.digest ∈ m.trust.flash.verified) ∧
      ((l.cart n).running = true → (r.digest ∉ l.trust.flash.verified ∧
        l.chainOk r = false) ∨ l.challengeOk n r = false →
        m.flag (R.CT_EVT_AUTHFAIL n) = true ∧
        (l.trust.flash.accepted[n] = some r.digest → m.get (R.CT_STAT_AUTH n) = 3) ∧
        ((l.cart n).acceptWait = none → l.trust.flash.accepted[n] ≠ some r.digest → m.get (R.CT_STAT_AUTH n) = 2)) ∧
      (∀ d h p, (l.cart n).running = true → (r.digest ∉ l.trust.flash.verified ∧
        l.chainOk r = false) ∨ l.challengeOk n r = false →
        (l.cart n).acceptWait = some (d, h, p) → d = r.digest →
        m.get (R.CT_STAT_AUTH n) = 3 ∧ m.flag (R.CT_EVT_ACCEPT n) = true ∧ m.trust.flash.accepted[n] = some d)) ∧
  -- PLAYBILL_WRITE (R545)
  (∀ (e : At) (failed : Option (BitVec 4)) (s : State), s.Runs e →
    Does (.playbillWrite e failed) s [.reg R.BX_STAT, .reg R.BX_EVT, .reg R.BX_DIECOM, .reg R.BX_TICK,
    .reg (R.BX_BRKLV 0), .reg R.BI_STAT, .reg (R.GD_LKCTL 0), .reg (R.CN_BCTL 0 0), .reg (R.CN_BDAT 0 0 0),
    .reg (R.CT_EVT 0), .reg R.HS_EVT, .reg R.HS_PORT, .reg R.HS_CNT1, .reg R.HS_CNT2, .reg R.HS_CNT3,
    .reg (R.HS_SLAST 0), .emit, .power, .seats, .trust, .reh, .box] fun l m =>
      (failed = none → l.now < l.trust.playAt + ms 600000 ∨ (∃ t ∈ l.box.queued, t.work = .cartWrite) ∨
        l.runningFor .cartWrite ≠ none → m = l) ∧
      (failed = none → l.trust.playAt + ms 600000 ≤ l.now → (∀ t ∈ l.box.queued, t.work ≠ .cartWrite) →
        l.runningFor .cartWrite = none → m.trust.playAt = l.now ∧ ∃ t : Ticket, t.work = .cartWrite ∧
          t.cost = firmwareCost 4 ∧
        (l.tooDear t = true → m.flag R.BX_EVT_TREFUSE = true ∧ m.box.queued = l.box.queued) ∧
        (l.tooDear t = false → m.box.queued = l.box.queued ++ [t])) ∧
      (∀ f, failed = some f → l.runningFor .cartWrite = none → m = l) ∧
      (∀ f x, failed = some f → l.runningFor .cartWrite = some x → ∀ n : Axis, l.bookEnables n = true →
        (l.cart n).digest ≠ none →
        (f.getLsbD n = false → (m.cart n).seq = (l.cart n).seq + 1 ∧
          (m.cart n).record = (l.cart n).life.floor.toNat ∧ (m.cart n).failures = 0 ∧
          ∃ b, Emission.playbill n b ∈ m.emit) ∧
        (f.getLsbD n = true → (m.cart n).failures = (l.cart n).failures + 1 ∧ (m.cart n).seq = (l.cart n).seq ∧
          (2 ≤ (l.cart n).failures → m.flag (R.CT_EVT_WRFAIL n) = true))))

/-- An opcode marked holder from a seat that does not hold the spotlight (R494). -/
def Obligations.HolderRefused : Prop :=
  (∀ (e : At) (h : Hdr) (path : Option Path) (es : List SetEntry) (s : State), s.Runs e →
    Does (.setpoint e h path es) s (replyParts ++ [.reg (R.DC_CTRL 0), .reg (R.DC_STAT 0), .reg (R.DC_EVT 0),
    .reg (R.DC_CNT 0), .reg (R.GD_STAT 0), .reg (R.GD_EVT 0), .reg (R.LE_PREF_LO 0), .reg (R.LE_PREF_HI 0),
    .reg (R.LE_WREF 0), .reg (R.LE_INT 0), .axUs, .axSw, .axRefresh, .axLeak, .axRecatch, .power, .loops]) fun l m =>
    l.named h → l.inPlay → (l.mode = .performing ∨ l.mode = .degraded ∨ l.mode = .workshop) →
      ¬(l.flag R.HS_SPOT_HELD = true ∧ l.get R.HS_SPOT_HOLDER = h.seat.val ∧ l.mode_.cycle < l.endCycle) →
      Answered l m h path ⟨10, (if l.flag R.HS_SPOT_HELD then l.get R.HS_SPOT_HOLDER else if l.flag R.HS_SPOT_RESV
        then l.get R.HS_SPOT_RSEAT else 255)⟩ []) ∧
  (∀ (e : At) (h : Hdr) (path : Option Path) (index : Nat) (s : State), s.Runs e →
    Does (.rehTask e h path index) s (replyParts ++ [.reg R.BX_STAT, .reg R.BX_EVT, .reg R.BX_DIECOM, .box]) fun l m =>
    l.named h → l.inPlay → l.mode = .workshop → ¬(l.flag R.HS_SPOT_HELD = true ∧
      l.get R.HS_SPOT_HOLDER = h.seat.val ∧ l.mode_.cycle < l.endCycle) →
      Answered l m h path ⟨10, (if l.flag R.HS_SPOT_HELD then l.get R.HS_SPOT_HOLDER else if l.flag R.HS_SPOT_RESV
        then l.get R.HS_SPOT_RSEAT else 255)⟩ []) ∧
  (∀ (e : At) (h : Hdr) (path : Option Path) (s : State), s.Runs e →
    Does (.arm e h path) s (replyParts ++ [.wing]) fun l m =>
    l.named h → l.inPlay → l.mode = .hold → ¬(l.flag R.HS_SPOT_HELD = true ∧ l.get R.HS_SPOT_HOLDER = h.seat.val ∧
      l.mode_.cycle < l.endCycle) →
      m.seats.modeReqs = l.seats.modeReqs ++ [⟨0, some (10,
        (if l.flag R.HS_SPOT_HELD then l.get R.HS_SPOT_HOLDER else if l.flag R.HS_SPOT_RESV then l.get
        R.HS_SPOT_RSEAT else 255)), h, path⟩] ∧ m.mode = l.mode) ∧
  (∀ (e : At) (h : Hdr) (path : Option Path) (s : State), s.Runs e →
    Does (.perform e h path) s (replyParts ++ [.wing]) fun l m =>
    l.named h → l.inPlay → l.mode = .armed → ¬(l.flag R.HS_SPOT_HELD = true ∧ l.get R.HS_SPOT_HOLDER = h.seat.val ∧
      l.mode_.cycle < l.endCycle) →
      m.seats.modeReqs = l.seats.modeReqs ++ [⟨0, some (10,
        (if l.flag R.HS_SPOT_HELD then l.get R.HS_SPOT_HOLDER else if l.flag R.HS_SPOT_RESV then l.get
        R.HS_SPOT_RSEAT else 255)), h, path⟩] ∧ m.mode = l.mode) ∧
  (∀ (e : At) (h : Hdr) (path : Option Path) (s : State), s.Runs e →
    Does (.disarm e h path) s (replyParts ++ [.wing]) fun l m =>
    l.named h → l.inPlay → (l.mode = .armed ∨ l.mode = .performing) → ¬(l.flag R.HS_SPOT_HELD = true ∧
      l.get R.HS_SPOT_HOLDER = h.seat.val ∧ l.mode_.cycle < l.endCycle) →
      m.seats.modeReqs = l.seats.modeReqs ++ [⟨0, some (10,
        (if l.flag R.HS_SPOT_HELD then l.get R.HS_SPOT_HOLDER else if l.flag R.HS_SPOT_RESV then l.get
        R.HS_SPOT_RSEAT else 255)), h, path⟩] ∧ m.mode = l.mode) ∧
  (∀ (l : Lane) (r : ModeReq) (c d : Nat) (i : LaneId), l.Sound i → l.seats.modeReqs = [r] → r.refused = some (c, d) →
    Answered l l.answerModes r.hdr r.path ⟨c, d⟩ [] ∧ l.answerModes.seats.modeReqs = [])

/-- The lease of the spotlight (R488). -/
def Obligations.SpotlightLease : Prop :=
  (∀ l : Lane, 0 < l.beats → 2 ≤ l.leaseCycles ∧ l.get R.HS_SPOTCFG_LEASE * 1000 ≤ l.leaseCycles * (50 * l.beats) ∧
    ∀ c, 2 ≤ c → l.get R.HS_SPOTCFG_LEASE * 1000 ≤ c * (50 * l.beats) → l.leaseCycles ≤ c) ∧
  (∀ (i : LaneId) (l : Lane) (w : Seat), l.Sound i → l.seats.grantNext = some w → l.seats.stopNext = false →
    l.mode_.cycle + l.leaseCycles < 2 ^ 64 →
    l.spotCycle.flag R.HS_SPOT_HELD = true ∧ l.spotCycle.get R.HS_SPOT_HOLDER = w.val ∧
    l.spotCycle.endCycle = l.mode_.cycle + l.leaseCycles ∧ l.spotCycle.flag R.HS_EVT_GRANT = true) ∧
  (∀ (e : At) (s : State), s.Runs e → Does (.spotLeaseExpiry e) s [.reg (R.DC_CTRL 0), .reg (R.DC_STAT 0),
    .reg (R.DC_LASTX 0), .reg (R.GD_STAT 0), .reg (R.GD_EVT 0), .reg (R.LE_STAT 0), .reg R.HS_SPOT, .reg R.HS_EVT,
    .axUs, .axSw, .axRefresh, .axLeak, .axRecatch, .seats, .call, .modeState] fun l m =>
      (l.flag R.HS_SPOT_HELD = false → m = l) ∧ (l.mode_.cycle < l.endCycle → m = l) ∧
      (l.flag R.HS_SPOT_HELD = true → l.endCycle ≤ l.mode_.cycle →
        m.flag R.HS_SPOT_HELD = false ∧ m.flag R.HS_EVT_EXPIRE = true ∧ m.get R.HS_SPOT_GAPC = 2 ∧ m.seats.gap = 2 ∧
        m.seats.endedAt = l.mode_.cycle) ∧
      (l.flag R.HS_SPOT_HELD = true → l.endCycle ≤ l.mode_.cycle → l.flag R.HS_SPOTCFG_DEFAULT = false →
        l.mode = .performing →
        l.mode_.stop = none → m.mode_.stop = some (.default, l.ltime) ∧ m.flag R.HS_SPOT_DEFACT = true))

/-- SPOT_RENEW (R492). -/
def Obligations.SpotlightRenewal : Prop :=
  ∀ (e : At) (h : Hdr) (path : Option Path) (s : State), s.Runs e →
    Does (.spotRenew e h path) s (replyParts ++ [.reg R.HS_SPOTEND_LO, .reg R.HS_SPOTEND_HI]) fun l m =>
    TurnedAway l m h path .spotRenew ∧ m.seats.endNext = l.seats.endNext ∧
    (l.allows h .spotRenew →
      ¬(l.flag R.HS_SPOT_HELD = true ∧ l.get R.HS_SPOT_HOLDER = h.seat.val ∧ l.mode_.cycle < l.endCycle) →
      Answered l m h path (.noSpot l.spotOwner) [] ∧ m.endCycle = l.endCycle) ∧
    (l.allows h .spotRenew → l.flag R.HS_SPOT_HELD = true → l.get R.HS_SPOT_HOLDER = h.seat.val →
      l.mode_.cycle < l.endCycle →
      Answered l m h path .ok (m.spotBytes m.endCycle) ∧
      (l.mode_.cycle + 1 + l.leaseCycles < 2 ^ 64 → m.endCycle = l.mode_.cycle + 1 + l.leaseCycles))

/-- SPOT_RELEASE (R582). -/
def Obligations.SpotlightRelease : Prop :=
  (∀ (e : At) (h : Hdr) (path : Option Path) (s : State), s.Runs e →
    Does (.spotRelease e h path) s (replyParts ++ [.reg R.HS_SPOT]) fun l m =>
    TurnedAway l m h path .spotRelease ∧
    (l.allows h .spotRelease → l.holdsSpot h.seat = true →
      Answered l m h path .ok [] ∧ (l.seats.endNext = none → m.seats.endNext = some .release) ∧
      (l.seats.endNext ≠ none → m.seats.endNext = l.seats.endNext)) ∧
    (l.allows h .spotRelease → l.holdsSpot h.seat = false → l.flag R.HS_SPOT_RESV = true →
      l.get R.HS_SPOT_RSEAT = h.seat.val →
      Answered l.cancelReservation m h path .ok [] ∧ m.flag R.HS_SPOT_RESV = false ∧ m.seats.reserved = none ∧
      m.seats.endNext = l.seats.endNext ∧ m.seats.gap = l.seats.gap) ∧
    (l.allows h .spotRelease → l.holdsSpot h.seat = false →
      ¬(l.flag R.HS_SPOT_RESV = true ∧ l.get R.HS_SPOT_RSEAT = h.seat.val) →
      Answered l m h path (.noSpot l.spotOwner) [] ∧ m.word R.HS_SPOT = l.word R.HS_SPOT ∧ m.endCycle = l.endCycle ∧
      m.seats.endNext = l.seats.endNext ∧ m.seats.reserved = l.seats.reserved)) ∧
  (∀ (i : LaneId) (l : Lane), l.Sound i → l.seats.endNext = some .release → l.seats.grantNext = none →
    l.seats.stopNext = false →
    l.seats.gap = 0 →
    l.spotCycle.flag R.HS_SPOT_HELD = false ∧ l.spotCycle.flag R.HS_EVT_RELEASE = true ∧ l.spotCycle.seats.gap = 2) ∧
  (∀ (i : LaneId) (l : Lane), l.Sound i → l.seats.endNext = some .revoke → l.seats.grantNext = none →
    l.seats.stopNext = false →
    l.seats.gap = 0 →
    l.spotCycle.flag R.HS_SPOT_HELD = false ∧ l.spotCycle.flag R.HS_EVT_PREEMPT = true ∧ l.spotCycle.seats.gap = 2 ∧
    l.spotCycle.flag R.HS_SPOT_RESV = l.flag R.HS_SPOT_RESV)
end

