-- ==== Sys2Proof/Laws/RegFile.lean ====
section
/-!
SUPPORT. Spaces of words (the register space, stage memory): a word put is the word looked up, other addresses keep
theirs, and the canonical form stays.
-/

namespace Sys2Proof.Machine

/-- A space canonical from a higher address on is canonical from a lower one on. -/
theorem RegFile.wfFrom_of_le {dflt : Nat → Word} {lo hi : Nat} {m : RegFile} (h : lo ≤ hi)
    (hm : RegFile.wfFrom dflt hi m = true) : RegFile.wfFrom dflt lo m = true := by
  cases m with
  | nil => rfl
  | cons x r =>
    simp only [RegFile.wfFrom, Bool.and_eq_true, decide_eq_true_eq] at hm ⊢
    exact ⟨⟨by omega, hm.1.2⟩, hm.2⟩

/-- Putting a word keeps the canonical form. -/
theorem RegFile.wfFrom_put (dflt : Nat → Word) (a : Nat) (w : Word) (lo : Nat) (m : RegFile) (h : lo ≤ a)
    (hm : RegFile.wfFrom dflt lo m = true) : RegFile.wfFrom dflt lo (RegFile.put (dflt a) m a w) = true := by
  induction m generalizing lo with
  | nil => unfold RegFile.put; split <;> simp_all [RegFile.wfFrom]
  | cons x r ih =>
    obtain ⟨b, v⟩ := x
    simp only [RegFile.wfFrom, Bool.and_eq_true, decide_eq_true_eq] at hm
    obtain ⟨⟨h1, h2⟩, h3⟩ := hm
    unfold RegFile.put
    split
    · rename_i hab
      have : a + 1 ≤ b := hab
      split <;> simp_all [RegFile.wfFrom]
    · split
      · rename_i hab
        subst hab
        split
        · exact RegFile.wfFrom_of_le (by omega) h3
        · simp_all [RegFile.wfFrom]
      · simp only [RegFile.wfFrom, Bool.and_eq_true, decide_eq_true_eq]
        exact ⟨⟨h1, h2⟩, ih (b + 1) (by omega) h3⟩

/-- In a canonical space nothing is listed below its start. -/
theorem RegFile.look_of_lt {dflt : Nat → Word} {lo : Nat} {m : RegFile} {a : Nat} (hm : RegFile.wfFrom dflt lo m = true)
    (h : a < lo) : RegFile.look m a = none := by
  induction m generalizing lo with
  | nil => rfl
  | cons x r ih =>
    obtain ⟨b, v⟩ := x
    simp only [RegFile.wfFrom, Bool.and_eq_true, decide_eq_true_eq] at hm
    obtain ⟨⟨h1, -⟩, h3⟩ := hm
    rw [RegFile.look, if_neg (by omega)]
    exact ih h3 (by omega)

/-- Other addresses keep their words. -/
theorem RegFile.look_put_of_ne (d : Word) (m : RegFile) {a b : Nat} (w : Word) (h : b ≠ a) :
    RegFile.look (RegFile.put d m a w) b = RegFile.look m b := by
  induction m with
  | nil => unfold RegFile.put; split <;> simp [RegFile.look, h]
  | cons x r ih =>
    obtain ⟨c, v⟩ := x
    unfold RegFile.put
    split
    · split
      · rfl
      · rw [RegFile.look, if_neg h]
    · split
      · rename_i hac
        subst hac
        split <;> simp [RegFile.look, h]
      · simp only [RegFile.look]
        split
        · rfl
        · exact ih

/-- The word put is the word looked up. -/
theorem RegFile.look_put (dflt : Nat → Word) {lo : Nat} {m : RegFile} (hm : RegFile.wfFrom dflt lo m = true) (a : Nat)
    (w : Word) : (RegFile.look (RegFile.put (dflt a) m a w) a).getD (dflt a) = w := by
  induction m generalizing lo with
  | nil => unfold RegFile.put; split <;> simp_all [RegFile.look]
  | cons x r ih =>
    obtain ⟨b, v⟩ := x
    simp only [RegFile.wfFrom, Bool.and_eq_true, decide_eq_true_eq] at hm
    obtain ⟨⟨-, -⟩, h3⟩ := hm
    unfold RegFile.put
    split
    · rename_i hab
      split
      · rename_i hw
        rw [RegFile.look, if_neg (by omega), RegFile.look_of_lt h3 (by omega), hw]
        rfl
      · rw [RegFile.look, if_pos rfl]
        rfl
    · split
      · rename_i hab
        subst hab
        split
        · rename_i hw
          rw [RegFile.look_of_lt h3 (by omega), hw]
          rfl
        · rw [RegFile.look, if_pos rfl]
          rfl
      · rename_i h1 h2
        rw [RegFile.look, if_neg h2]
        exact ih h3

end Sys2Proof.Machine
end

