-- ==== Sys2Proof/Laws/Near.lean ====
section
/-!
SUPPORT. The frame calculus: `Lane.Near M l0 l` under each operation on a lane. A lemma `foo_near` says that `foo` stays within every
mask that contains its own.
-/

namespace Sys2Proof.Machine

-- one elaboration thread: thousands of small proofs would otherwise start one each
set_option Elab.async false

/-- The mask `a` is contained in the mask `b`. -/
def sub (a b : Nat) : Bool := Nat.beq (Nat.land a b) a

theorem sub_iff {a b : Nat} : sub a b = true ↔ ∀ j, a.testBit j = true → b.testBit j = true := by
  have key : sub a b = true ↔ a &&& b = a := Nat.beq_eq ▸ Iff.rfl
  rw [key]
  constructor
  · intro h j hj
    rw [← h, Nat.testBit_and, Bool.and_eq_true] at hj
    exact hj.2
  · intro h
    apply Nat.eq_of_testBit_eq
    intro j
    rw [Nat.testBit_and]
    cases ha : a.testBit j
    · rfl
    · rw [h j ha]; rfl

/-- Containment is transitive. -/
theorem tr {a b c : Nat} (h : sub b c = true) (w : sub a b = true) : sub a c = true :=
  sub_iff.2 fun j hj => sub_iff.1 h j (sub_iff.1 w j hj)

theorem sub_refl (a : Nat) : sub a a = true := sub_iff.2 fun _ h => h

/-- A bit of a contained mask. -/
theorem tb {k w M : Nat} (m : sub w M = true) (h : w.testBit k = true) : M.testBit k = true := sub_iff.1 m k h

theorem not_bit {k M : Nat} {P : Prop} (m : M.testBit k = true) (h : M.testBit k = false) : P := by
  rw [m] at h
  cases h

/-- The register of an address may change. -/
abbrev Evt (a M : Nat) : Prop := M.testBit (regNo a) = true

/-- The register of an address may change, and it is no event register. -/
abbrev Put (a M : Nat) : Prop := M.testBit (regNo a) = true ∧ isEvt a = false

/-- An address and the number of its register, no event register. -/
abbrev IsReg (a k : Nat) : Prop := regNo a = k ∧ isEvt a = false

theorem inReg {a k M : Nat} (h : IsReg a k) (m : M.testBit k = true) : Put a M := ⟨h.1.symm ▸ m, h.2⟩

theorem inEvt {a k M : Nat} (h : regNo a = k) (m : M.testBit k = true) : Evt a M := by
  show M.testBit (regNo a) = true
  rw [h]
  exact m

theorem put_ite {c : Prop} [Decidable c] {f g : Fld} {M : Nat} (hf : Put f.addr M) (hg : Put g.addr M) :
    Put (if c then f else g).addr M := by
  split
  · exact hf
  · exact hg

theorem evt_ite {c : Prop} [Decidable c] {f g : Fld} {M : Nat} (hf : Evt f.addr M) (hg : Evt g.addr M) :
    Evt (if c then f else g).addr M := by
  split
  · exact hf
  · exact hg

theorem wd_ite {c : Prop} [Decidable c] {a b a' b' : Nat} : (if c then (⟨a, b, 1⟩ : Fld) else ⟨a', b', 1⟩).width = 1 := by
  split <;> rfl

/-- A part kept. -/
theorem kp {α : Type} {a : α} {P : Prop} : P → a = a := fun _ => rfl

/-- A part that the mask lets change. -/
theorem ch {k w M : Nat} {P : Prop} (m : sub w M = true) (h : w.testBit k = true) : M.testBit k = false → P :=
  not_bit (tb m h)

/-- A bit outside the larger mask is outside the smaller. -/
theorem off {k M N : Nat} (m : sub M N = true) (h : N.testBit k = false) : M.testBit k = false := by
  cases hk : M.testBit k
  · rfl
  · rw [sub_iff.1 m k hk] at h; cases h

theorem AxisState.Near.refl {M : Nat} (x : AxisState) : AxisState.Near M x x := ⟨kp, kp, kp, kp, kp, kp, kp, kp, kp⟩

theorem AxisState.Near.trans {M : Nat} {x y z : AxisState} (h : AxisState.Near M x y) (k : AxisState.Near M y z) : AxisState.Near M x z :=
  ⟨fun q => (k.us q).trans (h.us q), fun q => (k.queue q).trans (h.queue q), fun q => (k.sw q).trans (h.sw q), fun q => (k.prot q).trans (h.prot q), fun q => (k.refresh q).trans (h.refresh q), fun q => (k.leak q).trans (h.leak q), fun q => (k.recatch q).trans (h.recatch q), fun q => (k.lastRecatch q).trans (h.lastRecatch q), fun q => (k.fb q).trans (h.fb q)⟩

theorem AxisState.Near.mono {M N : Nat} {x y : AxisState} (m : sub M N = true) (h : AxisState.Near M x y) : AxisState.Near N x y :=
  ⟨fun q => h.us (off m q), fun q => h.queue (off m q), fun q => h.sw (off m q), fun q => h.prot (off m q), fun q => h.refresh (off m q), fun q => h.leak (off m q), fun q => h.recatch (off m q), fun q => h.lastRecatch (off m q), fun q => h.fb (off m q)⟩

theorem PowerState.Near.refl {M : Nat} (x : PowerState) : PowerState.Near M x x := ⟨kp, kp, kp, kp, kp, kp, kp, kp, kp, kp, kp, kp, kp, kp, kp, kp, kp, kp, kp, kp, kp, kp, kp, kp, kp⟩

theorem PowerState.Near.trans {M : Nat} {x y z : PowerState} (h : PowerState.Near M x y) (k : PowerState.Near M y z) : PowerState.Near M x z :=
  ⟨fun q => (k.phase q).trans (h.phase q), fun q => (k.phaseAt q).trans (h.phaseAt q), fun q => (k.vcen q).trans (h.vcen q), fun q => (k.rails q).trans (h.rails q), fun q => (k.fails q).trans (h.fails q), fun q => (k.ovLatch q).trans (h.ovLatch q), fun q => (k.goal q).trans (h.goal q), fun q => (k.riseSince q).trans (h.riseSince q), fun q => (k.risen q).trans (h.risen q), fun q => (k.risenAt q).trans (h.risenAt q), fun q => (k.vpdArmed q).trans (h.vpdArmed q), fun q => (k.logicSince q).trans (h.logicSince q), fun q => (k.powerSince q).trans (h.powerSince q), fun q => (k.maxSince q).trans (h.maxSince q), fun q => (k.lastStep q).trans (h.lastStep q), fun q => (k.stepFrom q).trans (h.stepFrom q), fun q => (k.vgSince q).trans (h.vgSince q), fun q => (k.testHigh q).trans (h.testHigh q), fun q => (k.byOv q).trans (h.byOv q), fun q => (k.vinFell q).trans (h.vinFell q), fun q => (k.lostCause q).trans (h.lostCause q), fun q => (k.refLost q).trans (h.refLost q), fun q => (k.pllLost q).trans (h.pllLost q), fun q => (k.memBad q).trans (h.memBad q), fun q => (k.boot18 q).trans (h.boot18 q)⟩

theorem PowerState.Near.mono {M N : Nat} {x y : PowerState} (m : sub M N = true) (h : PowerState.Near M x y) : PowerState.Near N x y :=
  ⟨fun q => h.phase (off m q), fun q => h.phaseAt (off m q), fun q => h.vcen (off m q), fun q => h.rails (off m q), fun q => h.fails (off m q), fun q => h.ovLatch (off m q), fun q => h.goal (off m q), fun q => h.riseSince (off m q), fun q => h.risen (off m q), fun q => h.risenAt (off m q), fun q => h.vpdArmed (off m q), fun q => h.logicSince (off m q), fun q => h.powerSince (off m q), fun q => h.maxSince (off m q), fun q => h.lastStep (off m q), fun q => h.stepFrom (off m q), fun q => h.vgSince (off m q), fun q => h.testHigh (off m q), fun q => h.byOv (off m q), fun q => h.vinFell (off m q), fun q => h.lostCause (off m q), fun q => h.refLost (off m q), fun q => h.pllLost (off m q), fun q => h.memBad (off m q), fun q => h.boot18 (off m q)⟩

theorem LinkState.Near.refl {M : Nat} (x : LinkState) : LinkState.Near M x x := ⟨kp, kp, kp, kp, kp, kp, kp, kp, kp, kp, kp⟩

theorem LinkState.Near.trans {M : Nat} {x y z : LinkState} (h : LinkState.Near M x y) (k : LinkState.Near M y z) : LinkState.Near M x z :=
  ⟨fun q => (k.ov1 q).trans (h.ov1 q), fun q => (k.ov2 q).trans (h.ov2 q), fun q => (k.ov3 q).trans (h.ov3 q), fun q => (k.ovmax q).trans (h.ovmax q), fun q => (k.bchOnAt q).trans (h.bchOnAt q), fun q => (k.bchInStage q).trans (h.bchInStage q), fun q => (k.bchOffAt q).trans (h.bchOffAt q), fun q => (k.bchHeld q).trans (h.bchHeld q), fun q => (k.releaseHeld q).trans (h.releaseHeld q), fun q => (k.chonRest q).trans (h.chonRest q), fun q => (k.chonMark q).trans (h.chonMark q)⟩

theorem LinkState.Near.mono {M N : Nat} {x y : LinkState} (m : sub M N = true) (h : LinkState.Near M x y) : LinkState.Near N x y :=
  ⟨fun q => h.ov1 (off m q), fun q => h.ov2 (off m q), fun q => h.ov3 (off m q), fun q => h.ovmax (off m q), fun q => h.bchOnAt (off m q), fun q => h.bchInStage (off m q), fun q => h.bchOffAt (off m q), fun q => h.bchHeld (off m q), fun q => h.releaseHeld (off m q), fun q => h.chonRest (off m q), fun q => h.chonMark (off m q)⟩

theorem LoopState.Near.refl {M : Nat} (x : LoopState) : LoopState.Near M x x := ⟨kp, kp, kp, kp, kp, kp, kp, kp, kp, kp, kp, kp, kp, kp⟩

theorem LoopState.Near.trans {M : Nat} {x y z : LoopState} (h : LoopState.Near M x y) (k : LoopState.Near M y z) : LoopState.Near M x z :=
  ⟨fun q => (k.limc q).trans (h.limc q), fun q => (k.io q).trans (h.io q), fun q => (k.iw q).trans (h.iw q), fun q => (k.outerRan q).trans (h.outerRan q), fun q => (k.oscO q).trans (h.oscO q), fun q => (k.oscW q).trans (h.oscW q), fun q => (k.sums q).trans (h.sums q), fun q => (k.evaluated q).trans (h.evaluated q), fun q => (k.startNext q).trans (h.startNext q), fun q => (k.oscFlag q).trans (h.oscFlag q), fun q => (k.plausFlag q).trans (h.plausFlag q), fun q => (k.softNext q).trans (h.softNext q), fun q => (k.dropped q).trans (h.dropped q), fun q => (k.saved q).trans (h.saved q)⟩

theorem LoopState.Near.mono {M N : Nat} {x y : LoopState} (m : sub M N = true) (h : LoopState.Near M x y) : LoopState.Near N x y :=
  ⟨fun q => h.limc (off m q), fun q => h.io (off m q), fun q => h.iw (off m q), fun q => h.outerRan (off m q), fun q => h.oscO (off m q), fun q => h.oscW (off m q), fun q => h.sums (off m q), fun q => h.evaluated (off m q), fun q => h.startNext (off m q), fun q => h.oscFlag (off m q), fun q => h.plausFlag (off m q), fun q => h.softNext (off m q), fun q => h.dropped (off m q), fun q => h.saved (off m q)⟩

theorem WingState.Near.refl {M : Nat} (x : WingState) : WingState.Near M x x := ⟨kp, kp, kp, kp, kp, kp, kp, kp, kp, kp, kp, kp, kp, kp, kp, kp, kp, kp, kp, kp, kp, kp, kp, kp, kp, kp, kp, kp, kp, kp, kp, kp, kp, kp, kp, kp, kp, kp, kp, kp, kp, kp, kp, kp, kp, kp, kp, kp, kp, kp, kp, kp, kp⟩

theorem WingState.Near.trans {M : Nat} {x y z : WingState} (h : WingState.Near M x y) (k : WingState.Near M y z) : WingState.Near M x z :=
  ⟨fun q => (k.links q).trans (h.links q), fun q => (k.own q).trans (h.own q), fun q => (k.closed q).trans (h.closed q), fun q => (k.got q).trans (h.got q), fun q => (k.last q).trans (h.last q), fun q => (k.missed q).trans (h.missed q), fun q => (k.maskMiss q).trans (h.maskMiss q), fun q => (k.mask q).trans (h.mask q), fun q => (k.alone q).trans (h.alone q), fun q => (k.aloneLive q).trans (h.aloneLive q), fun q => (k.skew q).trans (h.skew q), fun q => (k.posOff q).trans (h.posOff q), fun q => (k.beatNo q).trans (h.beatNo q), fun q => (k.beatAt q).trans (h.beatAt q), fun q => (k.pending q).trans (h.pending q), fun q => (k.agreed q).trans (h.agreed q), fun q => (k.proposed q).trans (h.proposed q), fun q => (k.next q).trans (h.next q), fun q => (k.modeOff q).trans (h.modeOff q), fun q => (k.leaseEnd q).trans (h.leaseEnd q), fun q => (k.oldLead q).trans (h.oldLead q), fun q => (k.tokSeq q).trans (h.tokSeq q), fun q => (k.mirrorSeq q).trans (h.mirrorSeq q), fun q => (k.mirror q).trans (h.mirror q), fun q => (k.mirrorNext q).trans (h.mirrorNext q), fun q => (k.drillNow q).trans (h.drillNow q), fun q => (k.drilling q).trans (h.drilling q), fun q => (k.drillFails q).trans (h.drillFails q), fun q => (k.guardFresh q).trans (h.guardFresh q), fun q => (k.takeNext q).trans (h.takeNext q), fun q => (k.giveUp q).trans (h.giveUp q), fun q => (k.leaving q).trans (h.leaving q), fun q => (k.rejoinWaits q).trans (h.rejoinWaits q), fun q => (k.resyncAt q).trans (h.resyncAt q), fun q => (k.resyncs q).trans (h.resyncs q), fun q => (k.run q).trans (h.run q), fun q => (k.gotReply q).trans (h.gotReply q), fun q => (k.rejoin q).trans (h.rejoin q), fun q => (k.peerRejoin q).trans (h.peerRejoin q), fun q => (k.struck q).trans (h.struck q), fun q => (k.digestSent q).trans (h.digestSent q), fun q => (k.digestAt q).trans (h.digestAt q), fun q => (k.digests q).trans (h.digests q), fun q => (k.waitOver q).trans (h.waitOver q), fun q => (k.firstHold q).trans (h.firstHold q), fun q => (k.serialBad q).trans (h.serialBad q), fun q => (k.booksDiffer q).trans (h.booksDiffer q), fun q => (k.figures q).trans (h.figures q), fun q => (k.reverify q).trans (h.reverify q), fun q => (k.nax q).trans (h.nax q), fun q => (k.shopLoss q).trans (h.shopLoss q), fun q => (k.values q).trans (h.values q), fun q => (k.prior q).trans (h.prior q)⟩

theorem WingState.Near.mono {M N : Nat} {x y : WingState} (m : sub M N = true) (h : WingState.Near M x y) : WingState.Near N x y :=
  ⟨fun q => h.links (off m q), fun q => h.own (off m q), fun q => h.closed (off m q), fun q => h.got (off m q), fun q => h.last (off m q), fun q => h.missed (off m q), fun q => h.maskMiss (off m q), fun q => h.mask (off m q), fun q => h.alone (off m q), fun q => h.aloneLive (off m q), fun q => h.skew (off m q), fun q => h.posOff (off m q), fun q => h.beatNo (off m q), fun q => h.beatAt (off m q), fun q => h.pending (off m q), fun q => h.agreed (off m q), fun q => h.proposed (off m q), fun q => h.next (off m q), fun q => h.modeOff (off m q), fun q => h.leaseEnd (off m q), fun q => h.oldLead (off m q), fun q => h.tokSeq (off m q), fun q => h.mirrorSeq (off m q), fun q => h.mirror (off m q), fun q => h.mirrorNext (off m q), fun q => h.drillNow (off m q), fun q => h.drilling (off m q), fun q => h.drillFails (off m q), fun q => h.guardFresh (off m q), fun q => h.takeNext (off m q), fun q => h.giveUp (off m q), fun q => h.leaving (off m q), fun q => h.rejoinWaits (off m q), fun q => h.resyncAt (off m q), fun q => h.resyncs (off m q), fun q => h.run (off m q), fun q => h.gotReply (off m q), fun q => h.rejoin (off m q), fun q => h.peerRejoin (off m q), fun q => h.struck (off m q), fun q => h.digestSent (off m q), fun q => h.digestAt (off m q), fun q => h.digests (off m q), fun q => h.waitOver (off m q), fun q => h.firstHold (off m q), fun q => h.serialBad (off m q), fun q => h.booksDiffer (off m q), fun q => h.figures (off m q), fun q => h.reverify (off m q), fun q => h.nax (off m q), fun q => h.shopLoss (off m q), fun q => h.values (off m q), fun q => h.prior (off m q)⟩

theorem SeatState.Near.refl {M : Nat} (x : SeatState) : SeatState.Near M x x := ⟨kp, kp, kp, kp, kp, kp, kp, kp, kp, kp, kp, kp, kp, kp, kp, kp, kp, kp, kp⟩

theorem SeatState.Near.trans {M : Nat} {x y z : SeatState} (h : SeatState.Near M x y) (k : SeatState.Near M y z) : SeatState.Near M x z :=
  ⟨fun q => (k.buffered q).trans (h.buffered q), fun q => (k.replies q).trans (h.replies q), fun q => (k.ringReplies q).trans (h.ringReplies q), fun q => (k.canOut q).trans (h.canOut q), fun q => (k.canNum q).trans (h.canNum q), fun q => (k.transfers q).trans (h.transfers q), fun q => (k.stored q).trans (h.stored q), fun q => (k.seen q).trans (h.seen q), fun q => (k.requests q).trans (h.requests q), fun q => (k.reserved q).trans (h.reserved q), fun q => (k.cancelled q).trans (h.cancelled q), fun q => (k.grantNext q).trans (h.grantNext q), fun q => (k.endNext q).trans (h.endNext q), fun q => (k.gap q).trans (h.gap q), fun q => (k.endedAt q).trans (h.endedAt q), fun q => (k.stopNext q).trans (h.stopNext q), fun q => (k.modeReqs q).trans (h.modeReqs q), fun q => (k.sessionHigh q).trans (h.sessionHigh q), fun q => (k.sequenced q).trans (h.sequenced q)⟩

theorem SeatState.Near.mono {M N : Nat} {x y : SeatState} (m : sub M N = true) (h : SeatState.Near M x y) : SeatState.Near N x y :=
  ⟨fun q => h.buffered (off m q), fun q => h.replies (off m q), fun q => h.ringReplies (off m q), fun q => h.canOut (off m q), fun q => h.canNum (off m q), fun q => h.transfers (off m q), fun q => h.stored (off m q), fun q => h.seen (off m q), fun q => h.requests (off m q), fun q => h.reserved (off m q), fun q => h.cancelled (off m q), fun q => h.grantNext (off m q), fun q => h.endNext (off m q), fun q => h.gap (off m q), fun q => h.endedAt (off m q), fun q => h.stopNext (off m q), fun q => h.modeReqs (off m q), fun q => h.sessionHigh (off m q), fun q => h.sequenced (off m q)⟩

theorem CallState.Near.refl {M : Nat} (x : CallState) : CallState.Near M x x := ⟨kp, kp, kp, kp, kp⟩

theorem CallState.Near.trans {M : Nat} {x y z : CallState} (h : CallState.Near M x y) (k : CallState.Near M y z) : CallState.Near M x z :=
  ⟨fun q => (k.active q).trans (h.active q), fun q => (k.sampled q).trans (h.sampled q), fun q => (k.events q).trans (h.events q), fun q => (k.writes q).trans (h.writes q), fun q => (k.bookState q).trans (h.bookState q)⟩

theorem CallState.Near.mono {M N : Nat} {x y : CallState} (m : sub M N = true) (h : CallState.Near M x y) : CallState.Near N x y :=
  ⟨fun q => h.active (off m q), fun q => h.sampled (off m q), fun q => h.events (off m q), fun q => h.writes (off m q), fun q => h.bookState (off m q)⟩

theorem SafetyState.Near.refl {M : Nat} (x : SafetyState) : SafetyState.Near M x x := ⟨kp, kp, kp, kp, kp, kp, kp, kp, kp⟩

theorem SafetyState.Near.trans {M : Nat} {x y z : SafetyState} (h : SafetyState.Near M x y) (k : SafetyState.Near M y z) : SafetyState.Near M x z :=
  ⟨fun q => (k.discSince q).trans (h.discSince q), fun q => (k.shown q).trans (h.shown q), fun q => (k.differ q).trans (h.differ q), fun q => (k.resetNow q).trans (h.resetNow q), fun q => (k.resets q).trans (h.resets q), fun q => (k.resetAgreed q).trans (h.resetAgreed q), fun q => (k.agreedAt q).trans (h.agreedAt q), fun q => (k.koAt q).trans (h.koAt q), fun q => (k.stopActing q).trans (h.stopActing q)⟩

theorem SafetyState.Near.mono {M N : Nat} {x y : SafetyState} (m : sub M N = true) (h : SafetyState.Near M x y) : SafetyState.Near N x y :=
  ⟨fun q => h.discSince (off m q), fun q => h.shown (off m q), fun q => h.differ (off m q), fun q => h.resetNow (off m q), fun q => h.resets (off m q), fun q => h.resetAgreed (off m q), fun q => h.agreedAt (off m q), fun q => h.koAt (off m q), fun q => h.stopActing (off m q)⟩

theorem ModeState.Near.refl {M : Nat} (x : ModeState) : ModeState.Near M x x := ⟨kp, kp, kp, kp, kp, kp, kp, kp, kp, kp⟩

theorem ModeState.Near.trans {M : Nat} {x y z : ModeState} (h : ModeState.Near M x y) (k : ModeState.Near M y z) : ModeState.Near M x z :=
  ⟨fun q => (k.cycle q).trans (h.cycle q), fun q => (k.stop q).trans (h.stop q), fun q => (k.slowSince q).trans (h.slowSince q), fun q => (k.latched q).trans (h.latched q), fun q => (k.faults q).trans (h.faults q), fun q => (k.enableFirst q).trans (h.enableFirst q), fun q => (k.enableWait q).trans (h.enableWait q), fun q => (k.fwRestart q).trans (h.fwRestart q), fun q => (k.leftBoot q).trans (h.leftBoot q), fun q => (k.holdGone q).trans (h.holdGone q)⟩

theorem ModeState.Near.mono {M N : Nat} {x y : ModeState} (m : sub M N = true) (h : ModeState.Near M x y) : ModeState.Near N x y :=
  ⟨fun q => h.cycle (off m q), fun q => h.stop (off m q), fun q => h.slowSince (off m q), fun q => h.latched (off m q), fun q => h.faults (off m q), fun q => h.enableFirst (off m q), fun q => h.enableWait (off m q), fun q => h.fwRestart (off m q), fun q => h.leftBoot (off m q), fun q => h.holdGone (off m q)⟩

theorem TrustState.Near.refl {M : Nat} (x : TrustState) : TrustState.Near M x x := ⟨kp, kp, kp, kp, kp, kp, kp, kp, kp, kp, kp, kp, kp, kp, kp, kp, kp, kp, kp, kp⟩

theorem TrustState.Near.trans {M : Nat} {x y z : TrustState} (h : TrustState.Near M x y) (k : TrustState.Near M y z) : TrustState.Near M x z :=
  ⟨fun q => (k.flash q).trans (h.flash q), fun q => (k.fuses q).trans (h.fuses q), fun q => (k.load q).trans (h.load q), fun q => (k.checking q).trans (h.checking q), fun q => (k.book q).trans (h.book q), fun q => (k.slot q).trans (h.slot q), fun q => (k.nextBook q).trans (h.nextBook q), fun q => (k.awaiting q).trans (h.awaiting q), fun q => (k.state q).trans (h.state q), fun q => (k.code q).trans (h.code q), fun q => (k.section_ q).trans (h.section_ q), fun q => (k.offset q).trans (h.offset q), fun q => (k.fw q).trans (h.fw q), fun q => (k.fwTried q).trans (h.fwTried q), fun q => (k.romResponder q).trans (h.romResponder q), fun q => (k.challenge q).trans (h.challenge q), fun q => (k.debugOpen q).trans (h.debugOpen q), fun q => (k.playAt q).trans (h.playAt q), fun q => (k.confirm q).trans (h.confirm q), fun q => (k.carts q).trans (h.carts q)⟩

theorem TrustState.Near.mono {M N : Nat} {x y : TrustState} (m : sub M N = true) (h : TrustState.Near M x y) : TrustState.Near N x y :=
  ⟨fun q => h.flash (off m q), fun q => h.fuses (off m q), fun q => h.load (off m q), fun q => h.checking (off m q), fun q => h.book (off m q), fun q => h.slot (off m q), fun q => h.nextBook (off m q), fun q => h.awaiting (off m q), fun q => h.state (off m q), fun q => h.code (off m q), fun q => h.section_ (off m q), fun q => h.offset (off m q), fun q => h.fw (off m q), fun q => h.fwTried (off m q), fun q => h.romResponder (off m q), fun q => h.challenge (off m q), fun q => h.debugOpen (off m q), fun q => h.playAt (off m q), fun q => h.confirm (off m q), fun q => h.carts (off m q)⟩

theorem RehState.Near.refl {M : Nat} (x : RehState) : RehState.Near M x x := ⟨kp, kp, kp, kp, kp, kp, kp, kp, kp, kp, kp, kp, kp, kp, kp, kp, kp, kp, kp, kp, kp, kp, kp, kp, kp⟩

theorem RehState.Near.trans {M : Nat} {x y z : RehState} (h : RehState.Near M x y) (k : RehState.Near M y z) : RehState.Near M x z :=
  ⟨fun q => (k.done q).trans (h.done q), fun q => (k.failed q).trans (h.failed q), fun q => (k.since q).trans (h.since q), fun q => (k.peak q).trans (h.peak q), fun q => (k.bankMap q).trans (h.bankMap q), fun q => (k.spareBank q).trans (h.spareBank q), fun q => (k.bankTurn q).trans (h.bankTurn q), fun q => (k.cmpTurn q).trans (h.cmpTurn q), fun q => (k.bank q).trans (h.bank q), fun q => (k.cmp q).trans (h.cmp q), fun q => (k.twin q).trans (h.twin q), fun q => (k.nextTwin q).trans (h.nextTwin q), fun q => (k.nextSwitch q).trans (h.nextSwitch q), fun q => (k.swept q).trans (h.swept q), fun q => (k.sweepAsked q).trans (h.sweepAsked q), fun q => (k.spares q).trans (h.spares q), fun q => (k.corrected q).trans (h.corrected q), fun q => (k.toRepair q).trans (h.toRepair q), fun q => (k.burstBad q).trans (h.burstBad q), fun q => (k.proofStopped q).trans (h.proofStopped q), fun q => (k.margins q).trans (h.margins q), fun q => (k.figured q).trans (h.figured q), fun q => (k.memReady q).trans (h.memReady q), fun q => (k.refBad q).trans (h.refBad q), fun q => (k.cmpFailed q).trans (h.cmpFailed q)⟩

theorem RehState.Near.mono {M N : Nat} {x y : RehState} (m : sub M N = true) (h : RehState.Near M x y) : RehState.Near N x y :=
  ⟨fun q => h.done (off m q), fun q => h.failed (off m q), fun q => h.since (off m q), fun q => h.peak (off m q), fun q => h.bankMap (off m q), fun q => h.spareBank (off m q), fun q => h.bankTurn (off m q), fun q => h.cmpTurn (off m q), fun q => h.bank (off m q), fun q => h.cmp (off m q), fun q => h.twin (off m q), fun q => h.nextTwin (off m q), fun q => h.nextSwitch (off m q), fun q => h.swept (off m q), fun q => h.sweepAsked (off m q), fun q => h.spares (off m q), fun q => h.corrected (off m q), fun q => h.toRepair (off m q), fun q => h.burstBad (off m q), fun q => h.proofStopped (off m q), fun q => h.margins (off m q), fun q => h.figured (off m q), fun q => h.memReady (off m q), fun q => h.refBad (off m q), fun q => h.cmpFailed (off m q)⟩

theorem TrioState.Near.refl {M : Nat} (x : TrioState) : TrioState.Near M x x := ⟨kp, kp, kp, kp, kp, kp, kp, kp, kp, kp, kp, kp, kp, kp, kp⟩

theorem TrioState.Near.trans {M : Nat} {x y z : TrioState} (h : TrioState.Near M x y) (k : TrioState.Near M y z) : TrioState.Near M x z :=
  ⟨fun q => (k.slots q).trans (h.slots q), fun q => (k.number q).trans (h.number q), fun q => (k.cores q).trans (h.cores q), fun q => (k.file q).trans (h.file q), fun q => (k.waiting q).trans (h.waiting q), fun q => (k.presented q).trans (h.presented q), fun q => (k.resyncAt q).trans (h.resyncAt q), fun q => (k.done q).trans (h.done q), fun q => (k.lateOf q).trans (h.lateOf q), fun q => (k.exNow q).trans (h.exNow q), fun q => (k.exDeferred q).trans (h.exDeferred q), fun q => (k.exercise q).trans (h.exercise q), fun q => (k.exercisedAt q).trans (h.exercisedAt q), fun q => (k.injectedAt q).trans (h.injectedAt q), fun q => (k.spreadSince q).trans (h.spreadSince q)⟩

theorem TrioState.Near.mono {M N : Nat} {x y : TrioState} (m : sub M N = true) (h : TrioState.Near M x y) : TrioState.Near N x y :=
  ⟨fun q => h.slots (off m q), fun q => h.number (off m q), fun q => h.cores (off m q), fun q => h.file (off m q), fun q => h.waiting (off m q), fun q => h.presented (off m q), fun q => h.resyncAt (off m q), fun q => h.done (off m q), fun q => h.lateOf (off m q), fun q => h.exNow (off m q), fun q => h.exDeferred (off m q), fun q => h.exercise (off m q), fun q => h.exercisedAt (off m q), fun q => h.injectedAt (off m q), fun q => h.spreadSince (off m q)⟩

theorem BoxState.Near.refl {M : Nat} (x : BoxState) : BoxState.Near M x x := ⟨kp, kp, kp, kp, kp, kp, kp, kp, kp, kp, kp, kp, kp, kp, kp, kp, kp, kp, kp⟩

theorem BoxState.Near.trans {M : Nat} {x y z : BoxState} (h : BoxState.Near M x y) (k : BoxState.Near M y z) : BoxState.Near M x z :=
  ⟨fun q => (k.queued q).trans (h.queued q), fun q => (k.running q).trans (h.running q), fun q => (k.commits q).trans (h.commits q), fun q => (k.nextId q).trans (h.nextId q), fun q => (k.point q).trans (h.point q), fun q => (k.tw q).trans (h.tw q), fun q => (k.br q).trans (h.br q), fun q => (k.bk q).trans (h.bk q), fun q => (k.regenRefused q).trans (h.regenRefused q), fun q => (k.chonLast q).trans (h.chonLast q), fun q => (k.vmSum q).trans (h.vmSum q), fun q => (k.vmCount q).trans (h.vmCount q), fun q => (k.drops q).trans (h.drops q), fun q => (k.agreeDrop q).trans (h.agreeDrop q), fun q => (k.zeroRefs q).trans (h.zeroRefs q), fun q => (k.dieLD q).trans (h.dieLD q), fun q => (k.diePD q).trans (h.diePD q), fun q => (k.supSince q).trans (h.supSince q), fun q => (k.overdue q).trans (h.overdue q)⟩

theorem BoxState.Near.mono {M N : Nat} {x y : BoxState} (m : sub M N = true) (h : BoxState.Near M x y) : BoxState.Near N x y :=
  ⟨fun q => h.queued (off m q), fun q => h.running (off m q), fun q => h.commits (off m q), fun q => h.nextId (off m q), fun q => h.point (off m q), fun q => h.tw (off m q), fun q => h.br (off m q), fun q => h.bk (off m q), fun q => h.regenRefused (off m q), fun q => h.chonLast (off m q), fun q => h.vmSum (off m q), fun q => h.vmCount (off m q), fun q => h.drops (off m q), fun q => h.agreeDrop (off m q), fun q => h.zeroRefs (off m q), fun q => h.dieLD (off m q), fun q => h.diePD (off m q), fun q => h.supSince (off m q), fun q => h.overdue (off m q)⟩

theorem RingState.Near.refl {M : Nat} (x : RingState) : RingState.Near M x x := ⟨kp, kp, kp, kp, kp, kp, kp, kp, kp, kp, kp, kp, kp, kp, kp, kp, kp, kp, kp, kp, kp, kp, kp, kp, kp, kp, kp, kp, kp, kp, kp, kp, kp, kp, kp, kp, kp⟩

theorem RingState.Near.trans {M : Nat} {x y z : RingState} (h : RingState.Near M x y) (k : RingState.Near M y z) : RingState.Near M x z :=
  ⟨fun q => (k.ports q).trans (h.ports q), fun q => (k.num q).trans (h.num q), fun q => (k.accepted q).trans (h.accepted q), fun q => (k.met q).trans (h.met q), fun q => (k.empty q).trans (h.empty q), fun q => (k.sent q).trans (h.sent q), fun q => (k.emptyRun q).trans (h.emptyRun q), fun q => (k.controls q).trans (h.controls q), fun q => (k.heardPrev q).trans (h.heardPrev q), fun q => (k.cueAt q).trans (h.cueAt q), fun q => (k.queue q).trans (h.queue q), fun q => (k.fill q).trans (h.fill q), fun q => (k.fillPrev q).trans (h.fillPrev q), fun q => (k.snapshot q).trans (h.snapshot q), fun q => (k.sealSeq q).trans (h.sealSeq q), fun q => (k.syncSeq q).trans (h.syncSeq q), fun q => (k.drift q).trans (h.drift q), fun q => (k.calm q).trans (h.calm q), fun q => (k.settled q).trans (h.settled q), fun q => (k.consistent q).trans (h.consistent q), fun q => (k.lastDrift q).trans (h.lastDrift q), fun q => (k.lastSheet q).trans (h.lastSheet q), fun q => (k.quiet q).trans (h.quiet q), fun q => (k.backoff q).trans (h.backoff q), fun q => (k.quietSince q).trans (h.quietSince q), fun q => (k.cold q).trans (h.cold q), fun q => (k.returned q).trans (h.returned q), fun q => (k.ownStart q).trans (h.ownStart q), fun q => (k.adoptedIn q).trans (h.adoptedIn q), fun q => (k.duplicate q).trans (h.duplicate q), fun q => (k.change q).trans (h.change q), fun q => (k.cancelled q).trans (h.cancelled q), fun q => (k.announce q).trans (h.announce q), fun q => (k.adopting q).trans (h.adopting q), fun q => (k.breaks q).trans (h.breaks q), fun q => (k.restores q).trans (h.restores q), fun q => (k.healShown q).trans (h.healShown q)⟩

theorem RingState.Near.mono {M N : Nat} {x y : RingState} (m : sub M N = true) (h : RingState.Near M x y) : RingState.Near N x y :=
  ⟨fun q => h.ports (off m q), fun q => h.num (off m q), fun q => h.accepted (off m q), fun q => h.met (off m q), fun q => h.empty (off m q), fun q => h.sent (off m q), fun q => h.emptyRun (off m q), fun q => h.controls (off m q), fun q => h.heardPrev (off m q), fun q => h.cueAt (off m q), fun q => h.queue (off m q), fun q => h.fill (off m q), fun q => h.fillPrev (off m q), fun q => h.snapshot (off m q), fun q => h.sealSeq (off m q), fun q => h.syncSeq (off m q), fun q => h.drift (off m q), fun q => h.calm (off m q), fun q => h.settled (off m q), fun q => h.consistent (off m q), fun q => h.lastDrift (off m q), fun q => h.lastSheet (off m q), fun q => h.quiet (off m q), fun q => h.backoff (off m q), fun q => h.quietSince (off m q), fun q => h.cold (off m q), fun q => h.returned (off m q), fun q => h.ownStart (off m q), fun q => h.adoptedIn (off m q), fun q => h.duplicate (off m q), fun q => h.change (off m q), fun q => h.cancelled (off m q), fun q => h.announce (off m q), fun q => h.adopting (off m q), fun q => h.breaks (off m q), fun q => h.restores (off m q), fun q => h.healShown (off m q)⟩

theorem TimeState.Near.refl {M : Nat} (x : TimeState) : TimeState.Near M x x := ⟨kp, kp, kp, kp, kp, kp, kp, kp, kp⟩

theorem TimeState.Near.trans {M : Nat} {x y z : TimeState} (h : TimeState.Near M x y) (k : TimeState.Near M y z) : TimeState.Near M x z :=
  ⟨fun q => (k.step q).trans (h.step q), fun q => (k.held q).trans (h.held q), fun q => (k.kept q).trans (h.kept q), fun q => (k.setFrom q).trans (h.setFrom q), fun q => (k.lockRun q).trans (h.lockRun q), fun q => (k.unlockRun q).trans (h.unlockRun q), fun q => (k.lost q).trans (h.lost q), fun q => (k.gotSync q).trans (h.gotSync q), fun q => (k.known q).trans (h.known q)⟩

theorem TimeState.Near.mono {M N : Nat} {x y : TimeState} (m : sub M N = true) (h : TimeState.Near M x y) : TimeState.Near N x y :=
  ⟨fun q => h.step (off m q), fun q => h.held (off m q), fun q => h.kept (off m q), fun q => h.setFrom (off m q), fun q => h.lockRun (off m q), fun q => h.unlockRun (off m q), fun q => h.lost (off m q), fun q => h.gotSync (off m q), fun q => h.known (off m q)⟩

theorem CanState.Near.refl {M : Nat} (x : CanState) : CanState.Near M x x := ⟨kp, kp, kp, kp, kp, kp⟩

theorem CanState.Near.trans {M : Nat} {x y z : CanState} (h : CanState.Near M x y) (k : CanState.Near M y z) : CanState.Near M x z :=
  ⟨fun q => (k.slot q).trans (h.slot q), fun q => (k.fired q).trans (h.fired q), fun q => (k.firedIn q).trans (h.firedIn q), fun q => (k.claimed q).trans (h.claimed q), fun q => (k.offSince q).trans (h.offSince q), fun q => (k.got q).trans (h.got q)⟩

theorem CanState.Near.mono {M N : Nat} {x y : CanState} (m : sub M N = true) (h : CanState.Near M x y) : CanState.Near N x y :=
  ⟨fun q => h.slot (off m q), fun q => h.fired (off m q), fun q => h.firedIn (off m q), fun q => h.claimed (off m q), fun q => h.offSince (off m q), fun q => h.got (off m q)⟩

theorem DictState.Near.refl {M : Nat} (x : DictState) : DictState.Near M x x := ⟨kp, kp⟩

theorem DictState.Near.trans {M : Nat} {x y z : DictState} (h : DictState.Near M x y) (k : DictState.Near M y z) : DictState.Near M x z :=
  ⟨fun q => (k.entries q).trans (h.entries q), fun q => (k.lostNow q).trans (h.lostNow q)⟩

theorem DictState.Near.mono {M N : Nat} {x y : DictState} (m : sub M N = true) (h : DictState.Near M x y) : DictState.Near N x y :=
  ⟨fun q => h.entries (off m q), fun q => h.lostNow (off m q)⟩

/-- A lane in its place stays within every mask. -/
theorem Lane.Near.refl {i : LaneId} {l : Lane} (M : Nat) (h : l.Sound i) : Lane.Near M l l where
  id := rfl
  now := rfl
  regsWf := h.1.symm ▸ h.2.1
  stageWf := h.2.2
  word _ _ := rfl
  evt _ _ _ _ hj := hj
  log := fun _ => ⟨rfl, rfl⟩
  emit := kp
  ltime := kp
  fresh := kp
  stage := kp
  axes := fun _ => .refl _
  power := .refl _
  link := .refl _
  loops := fun _ => .refl _
  wing := .refl _
  seats := .refl _
  call := .refl _
  safety := .refl _
  mode_ := .refl _
  trust := .refl _
  reh := .refl _
  trio := .refl _
  box := .refl _
  ring := .refl _
  tm := .refl _
  can := fun _ => .refl _
  dict := .refl _

/-- What stays within a mask is a lane in its place. -/
theorem Lane.Near.sound {M : Nat} {i : LaneId} {l0 l : Lane} (h : Lane.Near M l0 l) (hi : l0.id = i) : l.Sound i :=
  ⟨h.id.trans hi, hi ▸ h.id ▸ h.regsWf, h.stageWf⟩

theorem Lane.Near.trans {M : Nat} {a b c : Lane} (h : Lane.Near M a b) (k : Lane.Near M b c) : Lane.Near M a c where
  id := k.id.trans h.id
  now := k.now.trans h.now
  regsWf := k.regsWf
  stageWf := k.stageWf
  word x q := (k.word x q).trans (h.word x q)
  evt q x e j t := k.evt q x e j (h.evt q x e j t)
  log := fun q => ⟨((k.log q).1).trans (h.log q).1, ((k.log q).2).trans (h.log q).2⟩
  emit := fun q => (k.emit q).trans (h.emit q)
  ltime := fun q => (k.ltime q).trans (h.ltime q)
  fresh := fun q => (k.fresh q).trans (h.fresh q)
  stage := fun q => (k.stage q).trans (h.stage q)
  axes := fun n => (h.axes n).trans (k.axes n)
  power := h.power.trans k.power
  link := h.link.trans k.link
  loops := fun n => (h.loops n).trans (k.loops n)
  wing := h.wing.trans k.wing
  seats := h.seats.trans k.seats
  call := h.call.trans k.call
  safety := h.safety.trans k.safety
  mode_ := h.mode_.trans k.mode_
  trust := h.trust.trans k.trust
  reh := h.reh.trans k.reh
  trio := h.trio.trans k.trio
  box := h.box.trans k.box
  ring := h.ring.trans k.ring
  tm := h.tm.trans k.tm
  can := fun n => (h.can n).trans (k.can n)
  dict := h.dict.trans k.dict

theorem Lane.Near.mono {M N : Nat} {a b : Lane} (m : sub M N = true) (h : Lane.Near M a b) : Lane.Near N a b where
  id := h.id
  now := h.now
  regsWf := h.regsWf
  stageWf := h.stageWf
  word x q := h.word x (off m q)
  evt q x e j t := h.evt (off m q) x e j t
  log := fun q => h.log (off m q)
  emit := fun q => h.emit (off m q)
  ltime := fun q => h.ltime (off m q)
  fresh := fun q => h.fresh (off m q)
  stage := fun q => h.stage (off m q)
  axes := fun n => (h.axes n).mono m
  power := h.power.mono m
  link := h.link.mono m
  loops := fun n => (h.loops n).mono m
  wing := h.wing.mono m
  seats := h.seats.mono m
  call := h.call.mono m
  safety := h.safety.mono m
  mode_ := h.mode_.mono m
  trust := h.trust.mono m
  reh := h.reh.mono m
  trio := h.trio.mono m
  box := h.box.mono m
  ring := h.ring.mono m
  tm := h.tm.mono m
  can := fun n => (h.can n).mono m
  dict := h.dict.mono m

theorem Lane.onPower_near {M : Nat} {l0 l : Lane} {f : PowerState → PowerState} (hf : PowerState.Near M l.power (f l.power))
    (h : Lane.Near M l0 l) : Lane.Near M l0 (l.onPower f) :=
  ⟨h.id, h.now, h.regsWf, h.stageWf, h.word, h.evt, h.log, h.emit, h.ltime, h.fresh, h.stage, h.axes, h.power.trans hf, h.link, h.loops, h.wing, h.seats, h.call, h.safety, h.mode_, h.trust, h.reh, h.trio, h.box, h.ring, h.tm, h.can, h.dict⟩

theorem Lane.onLink_near {M : Nat} {l0 l : Lane} {f : LinkState → LinkState} (hf : LinkState.Near M l.link (f l.link))
    (h : Lane.Near M l0 l) : Lane.Near M l0 (l.onLink f) :=
  ⟨h.id, h.now, h.regsWf, h.stageWf, h.word, h.evt, h.log, h.emit, h.ltime, h.fresh, h.stage, h.axes, h.power, h.link.trans hf, h.loops, h.wing, h.seats, h.call, h.safety, h.mode_, h.trust, h.reh, h.trio, h.box, h.ring, h.tm, h.can, h.dict⟩

theorem Lane.onWing_near {M : Nat} {l0 l : Lane} {f : WingState → WingState} (hf : WingState.Near M l.wing (f l.wing))
    (h : Lane.Near M l0 l) : Lane.Near M l0 (l.onWing f) :=
  ⟨h.id, h.now, h.regsWf, h.stageWf, h.word, h.evt, h.log, h.emit, h.ltime, h.fresh, h.stage, h.axes, h.power, h.link, h.loops, h.wing.trans hf, h.seats, h.call, h.safety, h.mode_, h.trust, h.reh, h.trio, h.box, h.ring, h.tm, h.can, h.dict⟩

theorem Lane.onSeats_near {M : Nat} {l0 l : Lane} {f : SeatState → SeatState} (hf : SeatState.Near M l.seats (f l.seats))
    (h : Lane.Near M l0 l) : Lane.Near M l0 (l.onSeats f) :=
  ⟨h.id, h.now, h.regsWf, h.stageWf, h.word, h.evt, h.log, h.emit, h.ltime, h.fresh, h.stage, h.axes, h.power, h.link, h.loops, h.wing, h.seats.trans hf, h.call, h.safety, h.mode_, h.trust, h.reh, h.trio, h.box, h.ring, h.tm, h.can, h.dict⟩

theorem Lane.onCall_near {M : Nat} {l0 l : Lane} {f : CallState → CallState} (hf : CallState.Near M l.call (f l.call))
    (h : Lane.Near M l0 l) : Lane.Near M l0 (l.onCall f) :=
  ⟨h.id, h.now, h.regsWf, h.stageWf, h.word, h.evt, h.log, h.emit, h.ltime, h.fresh, h.stage, h.axes, h.power, h.link, h.loops, h.wing, h.seats, h.call.trans hf, h.safety, h.mode_, h.trust, h.reh, h.trio, h.box, h.ring, h.tm, h.can, h.dict⟩

theorem Lane.onSafety_near {M : Nat} {l0 l : Lane} {f : SafetyState → SafetyState} (hf : SafetyState.Near M l.safety (f l.safety))
    (h : Lane.Near M l0 l) : Lane.Near M l0 (l.onSafety f) :=
  ⟨h.id, h.now, h.regsWf, h.stageWf, h.word, h.evt, h.log, h.emit, h.ltime, h.fresh, h.stage, h.axes, h.power, h.link, h.loops, h.wing, h.seats, h.call, h.safety.trans hf, h.mode_, h.trust, h.reh, h.trio, h.box, h.ring, h.tm, h.can, h.dict⟩

theorem Lane.onMode_near {M : Nat} {l0 l : Lane} {f : ModeState → ModeState} (hf : ModeState.Near M l.mode_ (f l.mode_))
    (h : Lane.Near M l0 l) : Lane.Near M l0 (l.onMode f) :=
  ⟨h.id, h.now, h.regsWf, h.stageWf, h.word, h.evt, h.log, h.emit, h.ltime, h.fresh, h.stage, h.axes, h.power, h.link, h.loops, h.wing, h.seats, h.call, h.safety, h.mode_.trans hf, h.trust, h.reh, h.trio, h.box, h.ring, h.tm, h.can, h.dict⟩

theorem Lane.onTrust_near {M : Nat} {l0 l : Lane} {f : TrustState → TrustState} (hf : TrustState.Near M l.trust (f l.trust))
    (h : Lane.Near M l0 l) : Lane.Near M l0 (l.onTrust f) :=
  ⟨h.id, h.now, h.regsWf, h.stageWf, h.word, h.evt, h.log, h.emit, h.ltime, h.fresh, h.stage, h.axes, h.power, h.link, h.loops, h.wing, h.seats, h.call, h.safety, h.mode_, h.trust.trans hf, h.reh, h.trio, h.box, h.ring, h.tm, h.can, h.dict⟩

theorem Lane.onReh_near {M : Nat} {l0 l : Lane} {f : RehState → RehState} (hf : RehState.Near M l.reh (f l.reh))
    (h : Lane.Near M l0 l) : Lane.Near M l0 (l.onReh f) :=
  ⟨h.id, h.now, h.regsWf, h.stageWf, h.word, h.evt, h.log, h.emit, h.ltime, h.fresh, h.stage, h.axes, h.power, h.link, h.loops, h.wing, h.seats, h.call, h.safety, h.mode_, h.trust, h.reh.trans hf, h.trio, h.box, h.ring, h.tm, h.can, h.dict⟩

theorem Lane.onTrio_near {M : Nat} {l0 l : Lane} {f : TrioState → TrioState} (hf : TrioState.Near M l.trio (f l.trio))
    (h : Lane.Near M l0 l) : Lane.Near M l0 (l.onTrio f) :=
  ⟨h.id, h.now, h.regsWf, h.stageWf, h.word, h.evt, h.log, h.emit, h.ltime, h.fresh, h.stage, h.axes, h.power, h.link, h.loops, h.wing, h.seats, h.call, h.safety, h.mode_, h.trust, h.reh, h.trio.trans hf, h.box, h.ring, h.tm, h.can, h.dict⟩

theorem Lane.onBox_near {M : Nat} {l0 l : Lane} {f : BoxState → BoxState} (hf : BoxState.Near M l.box (f l.box))
    (h : Lane.Near M l0 l) : Lane.Near M l0 (l.onBox f) :=
  ⟨h.id, h.now, h.regsWf, h.stageWf, h.word, h.evt, h.log, h.emit, h.ltime, h.fresh, h.stage, h.axes, h.power, h.link, h.loops, h.wing, h.seats, h.call, h.safety, h.mode_, h.trust, h.reh, h.trio, h.box.trans hf, h.ring, h.tm, h.can, h.dict⟩

theorem Lane.onRing_near {M : Nat} {l0 l : Lane} {f : RingState → RingState} (hf : RingState.Near M l.ring (f l.ring))
    (h : Lane.Near M l0 l) : Lane.Near M l0 (l.onRing f) :=
  ⟨h.id, h.now, h.regsWf, h.stageWf, h.word, h.evt, h.log, h.emit, h.ltime, h.fresh, h.stage, h.axes, h.power, h.link, h.loops, h.wing, h.seats, h.call, h.safety, h.mode_, h.trust, h.reh, h.trio, h.box, h.ring.trans hf, h.tm, h.can, h.dict⟩

theorem Lane.onTime_near {M : Nat} {l0 l : Lane} {f : TimeState → TimeState} (hf : TimeState.Near M l.tm (f l.tm))
    (h : Lane.Near M l0 l) : Lane.Near M l0 (l.onTime f) :=
  ⟨h.id, h.now, h.regsWf, h.stageWf, h.word, h.evt, h.log, h.emit, h.ltime, h.fresh, h.stage, h.axes, h.power, h.link, h.loops, h.wing, h.seats, h.call, h.safety, h.mode_, h.trust, h.reh, h.trio, h.box, h.ring, h.tm.trans hf, h.can, h.dict⟩

theorem Lane.onDict_near {M : Nat} {l0 l : Lane} {f : DictState → DictState} (hf : DictState.Near M l.dict (f l.dict))
    (h : Lane.Near M l0 l) : Lane.Near M l0 (l.onDict f) :=
  ⟨h.id, h.now, h.regsWf, h.stageWf, h.word, h.evt, h.log, h.emit, h.ltime, h.fresh, h.stage, h.axes, h.power, h.link, h.loops, h.wing, h.seats, h.call, h.safety, h.mode_, h.trust, h.reh, h.trio, h.box, h.ring, h.tm, h.can, h.dict.trans hf⟩

theorem Lane.onAx_near {M : Nat} {l0 l : Lane} {n : Axis} {f : AxisState → AxisState} (hf : AxisState.Near M l.axes[n] (f l.axes[n]))
    (h : Lane.Near M l0 l) : Lane.Near M l0 (l.onAx n f) := by
  refine ⟨h.id, h.now, h.regsWf, h.stageWf, h.word, h.evt, h.log, h.emit, h.ltime, h.fresh, h.stage, fun k => ?_, h.power, h.link, h.loops, h.wing, h.seats, h.call, h.safety, h.mode_, h.trust, h.reh, h.trio, h.box, h.ring, h.tm, h.can, h.dict⟩
  show AxisState.Near M l0.axes[k] (l.axes.set n (f l.axes[n]))[k]
  by_cases e : n = k
  · subst e
    rw [show (l.axes.set n (f l.axes[n]))[n] = f l.axes[n] from Vector.getElem_set_self n.isLt]
    exact (h.axes n).trans hf
  · rw [show (l.axes.set n (f l.axes[n]))[k] = l.axes[k] from
      Vector.getElem_set_ne n.isLt k.isLt (fun q => e (Fin.ext q))]
    exact h.axes k

theorem Lane.onLp_near {M : Nat} {l0 l : Lane} {n : Axis} {f : LoopState → LoopState} (hf : LoopState.Near M l.loops[n] (f l.loops[n]))
    (h : Lane.Near M l0 l) : Lane.Near M l0 (l.onLp n f) := by
  refine ⟨h.id, h.now, h.regsWf, h.stageWf, h.word, h.evt, h.log, h.emit, h.ltime, h.fresh, h.stage, h.axes, h.power, h.link, fun k => ?_, h.wing, h.seats, h.call, h.safety, h.mode_, h.trust, h.reh, h.trio, h.box, h.ring, h.tm, h.can, h.dict⟩
  show LoopState.Near M l0.loops[k] (l.loops.set n (f l.loops[n]))[k]
  by_cases e : n = k
  · subst e
    rw [show (l.loops.set n (f l.loops[n]))[n] = f l.loops[n] from Vector.getElem_set_self n.isLt]
    exact (h.loops n).trans hf
  · rw [show (l.loops.set n (f l.loops[n]))[k] = l.loops[k] from
      Vector.getElem_set_ne n.isLt k.isLt (fun q => e (Fin.ext q))]
    exact h.loops k

theorem Lane.onCan_near {M : Nat} {l0 l : Lane} {n : Fin 2} {f : CanState → CanState} (hf : CanState.Near M l.can[n] (f l.can[n]))
    (h : Lane.Near M l0 l) : Lane.Near M l0 (l.onCan n f) := by
  refine ⟨h.id, h.now, h.regsWf, h.stageWf, h.word, h.evt, h.log, h.emit, h.ltime, h.fresh, h.stage, h.axes, h.power, h.link, h.loops, h.wing, h.seats, h.call, h.safety, h.mode_, h.trust, h.reh, h.trio, h.box, h.ring, h.tm, fun k => ?_, h.dict⟩
  show CanState.Near M l0.can[k] (l.can.set n (f l.can[n]))[k]
  by_cases e : n = k
  · subst e
    rw [show (l.can.set n (f l.can[n]))[n] = f l.can[n] from Vector.getElem_set_self n.isLt]
    exact (h.can n).trans hf
  · rw [show (l.can.set n (f l.can[n]))[k] = l.can[k] from
      Vector.getElem_set_ne n.isLt k.isLt (fun q => e (Fin.ext q))]
    exact h.can k

theorem Lane.send_near {M : Nat} {l0 l : Lane} {x : Emission} (m : M.testBit 324 = true) (h : Lane.Near M l0 l) :
    Lane.Near M l0 (l.send x) := ⟨h.id, h.now, h.regsWf, h.stageWf, h.word, h.evt, h.log, not_bit m, h.ltime, h.fresh, h.stage, h.axes, h.power, h.link, h.loops, h.wing, h.seats, h.call, h.safety, h.mode_, h.trust, h.reh, h.trio, h.box, h.ring, h.tm, h.can, h.dict⟩

theorem Lane.note_near {M : Nat} {l0 l : Lane} {x : LogEntry} (m : M.testBit 323 = true) (h : Lane.Near M l0 l) :
    Lane.Near M l0 (l.note x) := ⟨h.id, h.now, h.regsWf, h.stageWf, h.word, h.evt, not_bit m, h.emit, h.ltime, h.fresh, h.stage, h.axes, h.power, h.link, h.loops, h.wing, h.seats, h.call, h.safety, h.mode_, h.trust, h.reh, h.trio, h.box, h.ring, h.tm, h.can, h.dict⟩

theorem Lane.nextChoice_near {M : Nat} {l0 l : Lane}  (m : M.testBit 326 = true) (h : Lane.Near M l0 l) :
    Lane.Near M l0 (l.nextChoice) := ⟨h.id, h.now, h.regsWf, h.stageWf, h.word, h.evt, h.log, h.emit, h.ltime, not_bit m, h.stage, h.axes, h.power, h.link, h.loops, h.wing, h.seats, h.call, h.safety, h.mode_, h.trust, h.reh, h.trio, h.box, h.ring, h.tm, h.can, h.dict⟩

theorem Lane.setLtime_near {M : Nat} {l0 l : Lane} {t : Nat} (m : M.testBit 325 = true) (h : Lane.Near M l0 l) :
    Lane.Near M l0 (l.setLtime t) := ⟨h.id, h.now, h.regsWf, h.stageWf, h.word, h.evt, h.log, h.emit, not_bit m, h.fresh, h.stage, h.axes, h.power, h.link, h.loops, h.wing, h.seats, h.call, h.safety, h.mode_, h.trust, h.reh, h.trio, h.box, h.ring, h.tm, h.can, h.dict⟩

/-- Setting a word: its register is in the mask, and where it is an event register no flag clears. -/
theorem Lane.setWord_near' {M : Nat} {l0 l : Lane} {a : Nat} {w : Word} (hb : Evt a M)
    (he : isEvt a = true → ∀ j, (l.word a).getLsbD j = true → w.getLsbD j = true)
    (h : Lane.Near M l0 l) : Lane.Near M l0 (l.setWord a w) := by
  have hr : ∀ b, b ≠ a → (l.setWord a w).word b = l.word b := fun b hne => by
    show (RegFile.look (RegFile.put _ l.regs a w) b).getD _ = _
    rw [RegFile.look_put_of_ne _ _ _ hne]
    rfl
  have hs : (l.setWord a w).word a = w := RegFile.look_put (resetWord l.id) h.regsWf a w
  refine ⟨h.id, h.now, RegFile.wfFrom_put _ a w 0 _ (Nat.zero_le a) h.regsWf, h.stageWf, ?_, ?_, h.log, h.emit, h.ltime, h.fresh, h.stage, h.axes, h.power, h.link, h.loops, h.wing, h.seats, h.call, h.safety, h.mode_, h.trust, h.reh, h.trio, h.box, h.ring, h.tm, h.can, h.dict⟩
  · intro b hbit
    rw [hr b (fun e => by subst e; rw [hb] at hbit; cases hbit)]
    exact h.word b hbit
  · intro hm b hev j hj
    by_cases e : b = a
    · subst e
      rw [hs]
      exact he hev j (h.evt hm b hev j hj)
    · rw [hr b e]
      exact h.evt hm b hev j hj

theorem Lane.setWord_near {M : Nat} {l0 l : Lane} {a : Nat} {w : Word} (ha : Put a M)
    (h : Lane.Near M l0 l) : Lane.Near M l0 (l.setWord a w) :=
  Lane.setWord_near' ha.1 (fun e => by rw [ha.2] at e; cases e) h

theorem findIdx_lt {p : RegDesc → Bool} {rs : List RegDesc} {k : Nat} (h : rs.findIdx? p = some k) : k < rs.length :=
  (List.findIdx?_eq_some_iff_getElem.1 h).1

/-- Every register has a number below that of the unassigned addresses. -/
theorem regNo_le (a : Nat) : regNo a ≤ 321 := by
  unfold regNo
  split
  · rename_i k hk
    have hl := findIdx_lt hk
    unfold blockRegs at hl
    unfold blockStart
    generalize a / 65536 = b at hl ⊢
    split at hl <;>
      simp only [show regsLC.length = 7 from rfl, show regsPW.length = 13 from rfl, show regsBX.length = 25 from rfl, show regsTV.length = 12 from rfl, show regsWG.length = 16 from rfl, show regsBI.length = 15 from rfl, show regsDC.length = 36 from rfl, show regsGD.length = 22 from rfl, show regsFB.length = 24 from rfl, show regsLE.length = 32 from rfl, show regsVR.length = 21 from rfl, show regsTM.length = 16 from rfl, show regsCN.length = 18 from rfl, show regsSG.length = 12 from rfl, show regsCB.length = 11 from rfl, show regsSF.length = 12 from rfl, show regsKP.length = 4 from rfl, show regsCT.length = 8 from rfl, show regsHS.length = 17 from rfl, List.length_nil, List.getD_cons_succ, List.getD_cons_zero] at hl ⊢ <;>
      omega
  · exact Nat.le_refl _

theorem any_bit {k : Nat} (h : k ≤ 321) : (0x7ffffffffffffffffffffffffffffffffffffffffffffffffffffffffffffffffffffffffffffffff : Nat).testBit k = true :=
  (by decide +kernel : ∀ k, k < 322 → (0x7ffffffffffffffffffffffffffffffffffffffffffffffffffffffffffffffffffffffffffffffff : Nat).testBit k = true) k (by omega)

/-- Any address at all: every register and the clearing of flags are in the mask. -/
theorem Lane.setAny_near {M : Nat} {l0 l : Lane} {a : Nat} {w : Word} (m : sub 0x7ffffffffffffffffffffffffffffffffffffffffffffffffffffffffffffffffffffffffffffffff M = true)
    (h : Lane.Near M l0 l) : Lane.Near M l0 (l.setWord a w) := by
  have hk : (0x7ffffffffffffffffffffffffffffffffffffffffffffffffffffffffffffffffffffffffffffffff : Nat).testBit (regNo a) = true := any_bit (regNo_le a)
  have m1 : M.testBit (regNo a) = true := sub_iff.1 m _ hk
  have m2 : M.testBit 322 = true := sub_iff.1 m 322 rfl
  refine ⟨h.id, h.now, RegFile.wfFrom_put _ a w 0 _ (Nat.zero_le a) h.regsWf, h.stageWf, ?_, ?_, h.log, h.emit, h.ltime, h.fresh, h.stage, h.axes, h.power, h.link, h.loops, h.wing, h.seats, h.call, h.safety, h.mode_, h.trust, h.reh, h.trio, h.box, h.ring, h.tm, h.can, h.dict⟩
  · intro b hbit
    have hne : b ≠ a := fun e => by subst e; rw [m1] at hbit; cases hbit
    show (RegFile.look (RegFile.put _ l.regs a w) b).getD _ = _
    rw [RegFile.look_put_of_ne _ _ _ hne]
    exact h.word b hbit
  · intro hm
    rw [m2] at hm
    cases hm

/-- Any address whose register is in the mask, with the clearing of flags. -/
theorem Lane.setReg_near {M : Nat} {l0 l : Lane} {a : Nat} {w : Word} (m1 : M.testBit (regNo a) = true)
    (m2 : M.testBit 322 = true) (h : Lane.Near M l0 l) : Lane.Near M l0 (l.setWord a w) := by
  refine ⟨h.id, h.now, RegFile.wfFrom_put _ a w 0 _ (Nat.zero_le a) h.regsWf, h.stageWf, ?_, ?_, h.log, h.emit, h.ltime, h.fresh, h.stage, h.axes, h.power, h.link, h.loops, h.wing, h.seats, h.call, h.safety, h.mode_, h.trust, h.reh, h.trio, h.box, h.ring, h.tm, h.can, h.dict⟩
  · intro b hbit
    have hne : b ≠ a := fun e => by subst e; rw [m1] at hbit; cases hbit
    show (RegFile.look (RegFile.put _ l.regs a w) b).getD _ = _
    rw [RegFile.look_put_of_ne _ _ _ hne]
    exact h.word b hbit
  · intro hm
    rw [m2] at hm
    cases hm

theorem Lane.setStage_near {M : Nat} {l0 l : Lane} {a : Nat} {w : Word} (m : M.testBit 327 = true)
    (h : Lane.Near M l0 l) : Lane.Near M l0 (l.setStage a w) :=
  ⟨h.id, h.now, h.regsWf, RegFile.wfFrom_put (fun _ => 0) a w 0 _ (Nat.zero_le a) h.stageWf, h.word, h.evt, h.log, h.emit, h.ltime, h.fresh, not_bit m, h.axes, h.power, h.link, h.loops, h.wing, h.seats, h.call, h.safety, h.mode_, h.trust, h.reh, h.trio, h.box, h.ring, h.tm, h.can, h.dict⟩

/-- The record of the event bits of the present moment is in no mask: any command may change it. -/
theorem Lane.mark_near {M : Nat} {l0 l : Lane} {a : Nat} {w : Word} (h : Lane.Near M l0 l) :
    Lane.Near M l0 (l.mark a w) :=
  ⟨h.id, h.now, h.regsWf, h.stageWf, h.word, h.evt, h.log, h.emit, h.ltime, h.fresh, h.stage, h.axes, h.power, h.link, h.loops, h.wing, h.seats, h.call, h.safety, h.mode_, h.trust, h.reh, h.trio, h.box, h.ring, h.tm, h.can, h.dict⟩

/-- Raising a one-bit flag clears nothing. -/
theorem Lane.raise_near {M : Nat} {l0 l : Lane} {f : Fld} (hb : Evt f.addr M) (hw : f.width = 1)
    (h : Lane.Near M l0 l) : Lane.Near M l0 (l.raise f) := by
  refine Lane.mark_near (Lane.setWord_near' hb (fun _ j hj => ?_) h)
  unfold Fld.insert Fld.mask
  rw [hw]
  simp only [BitVec.getLsbD_or, BitVec.getLsbD_and, BitVec.getLsbD_not, BitVec.getLsbD_shiftLeft]
  have := BitVec.lt_of_getLsbD hj
  simp_all
  omega

theorem Lane.put_near {M : Nat} {l0 l : Lane} {f : Fld} {v : Nat} (ha : Put f.addr M)
    (h : Lane.Near M l0 l) : Lane.Near M l0 (l.put f v) := Lane.setWord_near ha h

theorem Lane.putInt_near {M : Nat} {l0 l : Lane} {f : Fld} {v : Int} (ha : Put f.addr M)
    (h : Lane.Near M l0 l) : Lane.Near M l0 (l.putInt f v) := Lane.setWord_near ha h

theorem Lane.putFlag_near {M : Nat} {l0 l : Lane} {f : Fld} {b : Bool} (ha : Put f.addr M)
    (h : Lane.Near M l0 l) : Lane.Near M l0 (l.putFlag f b) := Lane.setWord_near ha h

theorem Lane.drop_near {M : Nat} {l0 l : Lane} {f : Fld} (ha : Put f.addr M)
    (h : Lane.Near M l0 l) : Lane.Near M l0 (l.drop f) := Lane.setWord_near ha h

theorem Lane.putBit_near {M : Nat} {l0 l : Lane} {f : Fld} {j : Nat} {b : Bool} (ha : Put f.addr M)
    (h : Lane.Near M l0 l) : Lane.Near M l0 (l.putBit f j b) := Lane.setWord_near ha h

theorem Lane.bump_near {M : Nat} {l0 l : Lane} {f : Fld} (ha : Put f.addr M)
    (h : Lane.Near M l0 l) : Lane.Near M l0 (l.bump f) := Lane.setWord_near ha h

theorem Lane.near_ite {M : Nat} {c : Prop} [Decidable c] {l0 l m : Lane} (hl : Lane.Near M l0 l) (hm : Lane.Near M l0 m) :
    Lane.Near M l0 (if c then l else m) := by
  split
  · exact hl
  · exact hm

theorem Lane.near_foldl {α : Type} {M : Nat} {l0 : Lane} {xs : List α} {f : Lane → α → Lane} {l : Lane}
    (hf : ∀ l x, x ∈ xs → Lane.Near M l0 l → Lane.Near M l0 (f l x)) (h : Lane.Near M l0 l) : Lane.Near M l0 (xs.foldl f l) := by
  induction xs generalizing l with
  | nil => exact h
  | cons x r ih =>
    exact ih (fun l y hy => hf l y (List.mem_cons_of_mem _ hy)) (hf l x List.mem_cons_self h)

theorem Lane.when_near {M : Nat} {l0 l : Lane} {b : Bool} {f : Lane → Lane} (h : Lane.Near M l0 l)
    (hf : ∀ l, Lane.Near M l0 l → Lane.Near M l0 (f l)) : Lane.Near M l0 (l.when b f) := by
  cases b
  · exact h
  · exact hf l h

theorem Lane.allAxes_near {M : Nat} {l0 l : Lane} {f : Lane → Axis → Lane} (h : Lane.Near M l0 l)
    (hf : ∀ l n, Lane.Near M l0 l → Lane.Near M l0 (f l n)) : Lane.Near M l0 (l.allAxes f) :=
  hf _ _ (hf _ _ (hf _ _ (hf _ _ h)))

end Sys2Proof.Machine
end

