-- ==== Sys2Proof/Laws/RegNo.lean ====
section
/-!
SUPPORT. The number of each register, by its name.
-/

namespace Sys2Proof.Machine

-- one elaboration thread: thousands of small proofs would otherwise start one each
set_option Elab.async false

theorem at_BI_CMPST : IsReg R.BI_CMPST 76 := by decide +kernel

theorem ev_BI_EVT : regNo R.BI_EVT = 74 := by decide +kernel

theorem is_BI_EVT : isEvt R.BI_EVT = true := by decide +kernel

theorem at_BI_LNK : IsReg R.BI_LNK 85 := by decide +kernel

theorem at_BI_MEMCNT : IsReg R.BI_MEMCNT 80 := by decide +kernel

theorem at_BI_MEMRES : IsReg R.BI_MEMRES 79 := by decide +kernel

theorem at_BI_REFFIG : IsReg R.BI_REFFIG 81 := by decide +kernel

theorem at_BI_ROTPOS : IsReg R.BI_ROTPOS 84 := by decide +kernel

theorem at_BI_SODT : IsReg R.BI_SODT 87 := by decide +kernel

theorem at_BI_STAT : IsReg R.BI_STAT 73 := by decide +kernel

theorem at_BI_SWFAIL : IsReg R.BI_SWFAIL 77 := by decide +kernel

theorem at_BI_TWIN : IsReg R.BI_TWIN 78 := by decide +kernel

theorem at_BI_UNUS : IsReg R.BI_UNUS 75 := by decide +kernel

theorem at_BX_BRKLV {n : Nat} (hn : n < 4) : IsReg (R.BX_BRKLV n) 44 :=
  (by decide +kernel : ∀ n, n < 4 → IsReg (R.BX_BRKLV n) 44) n hn

theorem at_BX_DIECOM : IsReg R.BX_DIECOM 25 := by decide +kernel

theorem at_BX_DROP : IsReg R.BX_DROP 30 := by decide +kernel

theorem ev_BX_EVT : regNo R.BX_EVT = 21 := by decide +kernel

theorem is_BX_EVT : isEvt R.BX_EVT = true := by decide +kernel

theorem at_BX_PCAP : IsReg R.BX_PCAP 23 := by decide +kernel

theorem at_BX_RES1 : IsReg R.BX_RES1 27 := by decide +kernel

theorem at_BX_STAT : IsReg R.BX_STAT 20 := by decide +kernel

theorem at_BX_SUP : IsReg R.BX_SUP 28 := by decide +kernel

theorem at_BX_TICK : IsReg R.BX_TICK 29 := by decide +kernel

theorem at_BX_WTEMP {n : Nat} (hn : n < 4) : IsReg (R.BX_WTEMP n) 42 :=
  (by decide +kernel : ∀ n, n < 4 → IsReg (R.BX_WTEMP n) 42) n hn

theorem at_CB_ACT {w : Nat} (hw : w < 16) : IsReg (R.CB_ACT w) 273 :=
  (by decide +kernel : ∀ w, w < 16 → IsReg (R.CB_ACT w) 273) w hw

theorem at_CB_CLAIM {s : Nat} (hs : s < 8) : IsReg (R.CB_CLAIM s) 276 :=
  (by decide +kernel : ∀ s, s < 8 → IsReg (R.CB_CLAIM s) 276) s hs

theorem at_CB_CNT : IsReg R.CB_CNT 271 := by decide +kernel

theorem at_CB_EN {s : Nat} {w : Nat} (hs : s < 8) (hw : w < 16) : IsReg (R.CB_EN s w) 274 :=
  (by decide +kernel : ∀ s, s < 8 → ∀ w, w < 16 → IsReg (R.CB_EN s w) 274) s hs w hw

theorem ev_CB_EVT : regNo R.CB_EVT = 270 := by decide +kernel

theorem is_CB_EVT : isEvt R.CB_EVT = true := by decide +kernel

theorem at_CB_PEND {w : Nat} (hw : w < 16) : IsReg (R.CB_PEND w) 272 :=
  (by decide +kernel : ∀ w, w < 16 → IsReg (R.CB_PEND w) 272) w hw

theorem at_CB_PRES {s : Nat} (hs : s < 8) : IsReg (R.CB_PRES s) 278 :=
  (by decide +kernel : ∀ s, s < 8 → IsReg (R.CB_PRES s) 278) s hs

theorem at_CB_SRC {k : Nat} (hk : k < 512) : IsReg (R.CB_SRC k) 279 :=
  (by decide +kernel : ∀ k, k < 512 → IsReg (R.CB_SRC k) 279) k hk

theorem at_CB_STAT : IsReg R.CB_STAT 269 := by decide +kernel

theorem at_CB_THR {s : Nat} (hs : s < 8) : IsReg (R.CB_THR s) 275 :=
  (by decide +kernel : ∀ s, s < 8 → IsReg (R.CB_THR s) 275) s hs

theorem at_CN_BCTL {c : Nat} {b : Nat} (hc : c < 2) (hb : b < 64) : IsReg (R.CN_BCTL c b) 254 :=
  (by decide +kernel : ∀ c, c < 2 → ∀ b, b < 64 → IsReg (R.CN_BCTL c b) 254) c hc b hb

theorem at_CN_BDAT {c : Nat} {b : Nat} {w : Nat} (hc : c < 2) (hb : b < 64) (hw : w < 16) : IsReg (R.CN_BDAT c b w) 256 :=
  (by decide +kernel : ∀ c, c < 2 → ∀ b, b < 64 → ∀ w, w < 16 → IsReg (R.CN_BDAT c b w) 256) c hc b hb w hw

theorem at_CN_BID {c : Nat} {b : Nat} (hc : c < 2) (hb : b < 64) : IsReg (R.CN_BID c b) 252 :=
  (by decide +kernel : ∀ c, c < 2 → ∀ b, b < 64 → IsReg (R.CN_BID c b) 252) c hc b hb

theorem at_CN_BOREC {c : Nat} (hc : c < 2) : IsReg (R.CN_BOREC c) 249 :=
  (by decide +kernel : ∀ c, c < 2 → IsReg (R.CN_BOREC c) 249) c hc

theorem at_CN_BSTM {c : Nat} {b : Nat} (hc : c < 2) (hb : b < 64) : IsReg (R.CN_BSTM c b) 255 :=
  (by decide +kernel : ∀ c, c < 2 → ∀ b, b < 64 → IsReg (R.CN_BSTM c b) 255) c hc b hb

theorem at_CN_CNT0 {c : Nat} (hc : c < 2) : IsReg (R.CN_CNT0 c) 246 :=
  (by decide +kernel : ∀ c, c < 2 → IsReg (R.CN_CNT0 c) 246) c hc

theorem at_CN_CNT1 {c : Nat} (hc : c < 2) : IsReg (R.CN_CNT1 c) 247 :=
  (by decide +kernel : ∀ c, c < 2 → IsReg (R.CN_CNT1 c) 247) c hc

theorem at_CN_ERR {c : Nat} (hc : c < 2) : IsReg (R.CN_ERR c) 244 :=
  (by decide +kernel : ∀ c, c < 2 → IsReg (R.CN_ERR c) 244) c hc

theorem ev_CN_EVT {c : Nat} (hc : c < 2) : regNo (R.CN_EVT c) = 245 :=
  (by decide +kernel : ∀ c, c < 2 → regNo (R.CN_EVT c) = 245) c hc

theorem is_CN_EVT {c : Nat} (hc : c < 2) : isEvt (R.CN_EVT c) = true :=
  (by decide +kernel : ∀ c, c < 2 → isEvt (R.CN_EVT c) = true) c hc

theorem at_CN_STAT {c : Nat} (hc : c < 2) : IsReg (R.CN_STAT c) 243 :=
  (by decide +kernel : ∀ c, c < 2 → IsReg (R.CN_STAT c) 243) c hc

theorem ev_CT_EVT {n : Nat} (hn : n < 4) : regNo (R.CT_EVT n) = 297 :=
  (by decide +kernel : ∀ n, n < 4 → regNo (R.CT_EVT n) = 297) n hn

theorem is_CT_EVT {n : Nat} (hn : n < 4) : isEvt (R.CT_EVT n) = true :=
  (by decide +kernel : ∀ n, n < 4 → isEvt (R.CT_EVT n) = true) n hn

theorem at_CT_ID {n : Nat} {w : Nat} (hn : n < 4) (hw : w < 12) : IsReg (R.CT_ID n w) 303 :=
  (by decide +kernel : ∀ n, n < 4 → ∀ w, w < 12 → IsReg (R.CT_ID n w) 303) n hn w hw

theorem at_CT_LIFE_HI {n : Nat} (hn : n < 4) : IsReg (R.CT_LIFE_HI n) 300 :=
  (by decide +kernel : ∀ n, n < 4 → IsReg (R.CT_LIFE_HI n) 300) n hn

theorem at_CT_LIFE_LO {n : Nat} (hn : n < 4) : IsReg (R.CT_LIFE_LO n) 299 :=
  (by decide +kernel : ∀ n, n < 4 → IsReg (R.CT_LIFE_LO n) 299) n hn

theorem at_CT_RATED_HI {n : Nat} (hn : n < 4) : IsReg (R.CT_RATED_HI n) 302 :=
  (by decide +kernel : ∀ n, n < 4 → IsReg (R.CT_RATED_HI n) 302) n hn

theorem at_CT_RATED_LO {n : Nat} (hn : n < 4) : IsReg (R.CT_RATED_LO n) 301 :=
  (by decide +kernel : ∀ n, n < 4 → IsReg (R.CT_RATED_LO n) 301) n hn

theorem at_CT_STAT {n : Nat} (hn : n < 4) : IsReg (R.CT_STAT n) 296 :=
  (by decide +kernel : ∀ n, n < 4 → IsReg (R.CT_STAT n) 296) n hn

theorem at_DC_ANGLE {n : Nat} (hn : n < 4) : IsReg (R.DC_ANGLE n) 96 :=
  (by decide +kernel : ∀ n, n < 4 → IsReg (R.DC_ANGLE n) 96) n hn

theorem at_DC_CNT {n : Nat} (hn : n < 4) : IsReg (R.DC_CNT n) 91 :=
  (by decide +kernel : ∀ n, n < 4 → IsReg (R.DC_CNT n) 91) n hn

theorem at_DC_CTRL {n : Nat} (hn : n < 4) : IsReg (R.DC_CTRL n) 88 :=
  (by decide +kernel : ∀ n, n < 4 → IsReg (R.DC_CTRL n) 88) n hn

theorem at_DC_DEG12 {n : Nat} {w : Nat} (hn : n < 4) (hw : w < 108) : IsReg (R.DC_DEG12 n w) 123 :=
  (by decide +kernel : ∀ n, n < 4 → ∀ w, w < 108 → IsReg (R.DC_DEG12 n w) 123) n hn w hw

theorem at_DC_DEG6 {n : Nat} {w : Nat} (hn : n < 4) (hw : w < 54) : IsReg (R.DC_DEG6 n w) 122 :=
  (by decide +kernel : ∀ n, n < 4 → ∀ w, w < 54 → IsReg (R.DC_DEG6 n w) 122) n hn w hw

theorem ev_DC_EVT {n : Nat} (hn : n < 4) : regNo (R.DC_EVT n) = 90 :=
  (by decide +kernel : ∀ n, n < 4 → regNo (R.DC_EVT n) = 90) n hn

theorem is_DC_EVT {n : Nat} (hn : n < 4) : isEvt (R.DC_EVT n) = true :=
  (by decide +kernel : ∀ n, n < 4 → isEvt (R.DC_EVT n) = true) n hn

theorem at_DC_LASTT {n : Nat} (hn : n < 4) : IsReg (R.DC_LASTT n) 112 :=
  (by decide +kernel : ∀ n, n < 4 → IsReg (R.DC_LASTT n) 112) n hn

theorem at_DC_LASTX {n : Nat} (hn : n < 4) : IsReg (R.DC_LASTX n) 111 :=
  (by decide +kernel : ∀ n, n < 4 → IsReg (R.DC_LASTX n) 111) n hn

theorem at_DC_PSI {n : Nat} (hn : n < 4) : IsReg (R.DC_PSI n) 95 :=
  (by decide +kernel : ∀ n, n < 4 → IsReg (R.DC_PSI n) 95) n hn

theorem at_DC_STAT {n : Nat} (hn : n < 4) : IsReg (R.DC_STAT n) 89 :=
  (by decide +kernel : ∀ n, n < 4 → IsReg (R.DC_STAT n) 89) n hn

theorem at_DC_TAB12 {n : Nat} {w : Nat} (hn : n < 4) (hw : w < 18) : IsReg (R.DC_TAB12 n w) 121 :=
  (by decide +kernel : ∀ n, n < 4 → ∀ w, w < 18 → IsReg (R.DC_TAB12 n w) 121) n hn w hw

theorem at_DC_TAB6 {n : Nat} {w : Nat} (hn : n < 4) (hw : w < 9) : IsReg (R.DC_TAB6 n w) 120 :=
  (by decide +kernel : ∀ n, n < 4 → ∀ w, w < 9 → IsReg (R.DC_TAB6 n w) 120) n hn w hw

theorem at_DC_TEST {n : Nat} (hn : n < 4) : IsReg (R.DC_TEST n) 93 :=
  (by decide +kernel : ∀ n, n < 4 → IsReg (R.DC_TEST n) 93) n hn

theorem at_DC_TQLIM {n : Nat} (hn : n < 4) : IsReg (R.DC_TQLIM n) 94 :=
  (by decide +kernel : ∀ n, n < 4 → IsReg (R.DC_TQLIM n) 94) n hn

theorem at_DC_TREF {n : Nat} (hn : n < 4) : IsReg (R.DC_TREF n) 92 :=
  (by decide +kernel : ∀ n, n < 4 → IsReg (R.DC_TREF n) 92) n hn

theorem at_DC_TRIM {n : Nat} (hn : n < 4) : IsReg (R.DC_TRIM n) 97 :=
  (by decide +kernel : ∀ n, n < 4 → IsReg (R.DC_TRIM n) 97) n hn

theorem at_FB_BHI {n : Nat} (hn : n < 4) : IsReg (R.FB_BHI n) 153 :=
  (by decide +kernel : ∀ n, n < 4 → IsReg (R.FB_BHI n) 153) n hn

theorem at_FB_BPOS {n : Nat} (hn : n < 4) : IsReg (R.FB_BPOS n) 152 :=
  (by decide +kernel : ∀ n, n < 4 → IsReg (R.FB_BPOS n) 152) n hn

theorem at_FB_CTRL {n : Nat} (hn : n < 4) : IsReg (R.FB_CTRL n) 148 :=
  (by decide +kernel : ∀ n, n < 4 → IsReg (R.FB_CTRL n) 148) n hn

theorem ev_FB_EVT {n : Nat} (hn : n < 4) : regNo (R.FB_EVT n) = 150 :=
  (by decide +kernel : ∀ n, n < 4 → regNo (R.FB_EVT n) = 150) n hn

theorem is_FB_EVT {n : Nat} (hn : n < 4) : isEvt (R.FB_EVT n) = true :=
  (by decide +kernel : ∀ n, n < 4 → isEvt (R.FB_EVT n) = true) n hn

theorem at_FB_IDXERR {n : Nat} (hn : n < 4) : IsReg (R.FB_IDXERR n) 159 :=
  (by decide +kernel : ∀ n, n < 4 → IsReg (R.FB_IDXERR n) 159) n hn

theorem at_FB_POS {n : Nat} (hn : n < 4) : IsReg (R.FB_POS n) 151 :=
  (by decide +kernel : ∀ n, n < 4 → IsReg (R.FB_POS n) 151) n hn

theorem at_FB_PRBPOS {n : Nat} (hn : n < 4) : IsReg (R.FB_PRBPOS n) 161 :=
  (by decide +kernel : ∀ n, n < 4 → IsReg (R.FB_PRBPOS n) 161) n hn

theorem at_FB_PRBTS0 {n : Nat} (hn : n < 4) : IsReg (R.FB_PRBTS0 n) 162 :=
  (by decide +kernel : ∀ n, n < 4 → IsReg (R.FB_PRBTS0 n) 162) n hn

theorem at_FB_PRBTS1 {n : Nat} (hn : n < 4) : IsReg (R.FB_PRBTS1 n) 163 :=
  (by decide +kernel : ∀ n, n < 4 → IsReg (R.FB_PRBTS1 n) 163) n hn

theorem at_FB_SERCNT {n : Nat} (hn : n < 4) : IsReg (R.FB_SERCNT n) 168 :=
  (by decide +kernel : ∀ n, n < 4 → IsReg (R.FB_SERCNT n) 168) n hn

theorem at_FB_SERPOS {n : Nat} (hn : n < 4) : IsReg (R.FB_SERPOS n) 167 :=
  (by decide +kernel : ∀ n, n < 4 → IsReg (R.FB_SERPOS n) 167) n hn

theorem at_FB_SPEED {n : Nat} (hn : n < 4) : IsReg (R.FB_SPEED n) 154 :=
  (by decide +kernel : ∀ n, n < 4 → IsReg (R.FB_SPEED n) 154) n hn

theorem at_FB_STAT {n : Nat} (hn : n < 4) : IsReg (R.FB_STAT n) 149 :=
  (by decide +kernel : ∀ n, n < 4 → IsReg (R.FB_STAT n) 149) n hn

theorem at_FB_STEP {n : Nat} (hn : n < 4) : IsReg (R.FB_STEP n) 156 :=
  (by decide +kernel : ∀ n, n < 4 → IsReg (R.FB_STEP n) 156) n hn

theorem at_GD_BSTV0 {n : Nat} (hn : n < 4) : IsReg (R.GD_BSTV0 n) 134 :=
  (by decide +kernel : ∀ n, n < 4 → IsReg (R.GD_BSTV0 n) 134) n hn

theorem at_GD_BSTV1 {n : Nat} (hn : n < 4) : IsReg (R.GD_BSTV1 n) 135 :=
  (by decide +kernel : ∀ n, n < 4 → IsReg (R.GD_BSTV1 n) 135) n hn

theorem at_GD_CHON : IsReg R.GD_CHON 145 := by decide +kernel

theorem at_GD_CNT0 {n : Nat} (hn : n < 4) : IsReg (R.GD_CNT0 n) 132 :=
  (by decide +kernel : ∀ n, n < 4 → IsReg (R.GD_CNT0 n) 132) n hn

theorem at_GD_CNT1 {n : Nat} (hn : n < 4) : IsReg (R.GD_CNT1 n) 133 :=
  (by decide +kernel : ∀ n, n < 4 → IsReg (R.GD_CNT1 n) 133) n hn

theorem ev_GD_EVT {n : Nat} (hn : n < 4) : regNo (R.GD_EVT n) = 131 :=
  (by decide +kernel : ∀ n, n < 4 → regNo (R.GD_EVT n) = 131) n hn

theorem is_GD_EVT {n : Nat} (hn : n < 4) : isEvt (R.GD_EVT n) = true :=
  (by decide +kernel : ∀ n, n < 4 → isEvt (R.GD_EVT n) = true) n hn

theorem at_GD_FAULT {n : Nat} (hn : n < 4) : IsReg (R.GD_FAULT n) 130 :=
  (by decide +kernel : ∀ n, n < 4 → IsReg (R.GD_FAULT n) 130) n hn

theorem at_GD_GIN {n : Nat} (hn : n < 4) : IsReg (R.GD_GIN n) 138 :=
  (by decide +kernel : ∀ n, n < 4 → IsReg (R.GD_GIN n) 138) n hn

theorem ev_GD_LEVT : regNo R.GD_LEVT = 144 := by decide +kernel

theorem is_GD_LEVT : isEvt R.GD_LEVT = true := by decide +kernel

theorem at_GD_LKCTL {n : Nat} (hn : n < 4) : IsReg (R.GD_LKCTL n) 136 :=
  (by decide +kernel : ∀ n, n < 4 → IsReg (R.GD_LKCTL n) 136) n hn

theorem at_GD_STAT {n : Nat} (hn : n < 4) : IsReg (R.GD_STAT n) 129 :=
  (by decide +kernel : ∀ n, n < 4 → IsReg (R.GD_STAT n) 129) n hn

theorem at_GD_VMSTAT : IsReg R.GD_VMSTAT 139 := by decide +kernel

theorem at_HS_CNT0 : IsReg R.HS_CNT0 310 := by decide +kernel

theorem at_HS_CNT1 : IsReg R.HS_CNT1 311 := by decide +kernel

theorem at_HS_CNT2 : IsReg R.HS_CNT2 312 := by decide +kernel

theorem at_HS_CNT3 : IsReg R.HS_CNT3 313 := by decide +kernel

theorem ev_HS_EVT : regNo R.HS_EVT = 308 := by decide +kernel

theorem is_HS_EVT : isEvt R.HS_EVT = true := by decide +kernel

theorem at_HS_PORT : IsReg R.HS_PORT 309 := by decide +kernel

theorem at_HS_SCAN {s : Nat} (hs : s < 8) : IsReg (R.HS_SCAN s) 315 :=
  (by decide +kernel : ∀ s, s < 8 → IsReg (R.HS_SCAN s) 315) s hs

theorem at_HS_SCFG {s : Nat} (hs : s < 8) : IsReg (R.HS_SCFG s) 314 :=
  (by decide +kernel : ∀ s, s < 8 → IsReg (R.HS_SCFG s) 314) s hs

theorem at_HS_SKEYHI {s : Nat} (hs : s < 8) : IsReg (R.HS_SKEYHI s) 317 :=
  (by decide +kernel : ∀ s, s < 8 → IsReg (R.HS_SKEYHI s) 317) s hs

theorem at_HS_SKEYLO {s : Nat} (hs : s < 8) : IsReg (R.HS_SKEYLO s) 316 :=
  (by decide +kernel : ∀ s, s < 8 → IsReg (R.HS_SKEYLO s) 316) s hs

theorem at_HS_SLAST {s : Nat} (hs : s < 8) : IsReg (R.HS_SLAST s) 320 :=
  (by decide +kernel : ∀ s, s < 8 → IsReg (R.HS_SLAST s) 320) s hs

theorem at_HS_SPOT : IsReg R.HS_SPOT 304 := by decide +kernel

theorem at_HS_SPOTCFG : IsReg R.HS_SPOTCFG 307 := by decide +kernel

theorem at_HS_SPOTEND_HI : IsReg R.HS_SPOTEND_HI 306 := by decide +kernel

theorem at_HS_SPOTEND_LO : IsReg R.HS_SPOTEND_LO 305 := by decide +kernel

theorem at_HS_SSEQ {s : Nat} (hs : s < 8) : IsReg (R.HS_SSEQ s) 319 :=
  (by decide +kernel : ∀ s, s < 8 → IsReg (R.HS_SSEQ s) 319) s hs

theorem at_HS_SSES {s : Nat} (hs : s < 8) : IsReg (R.HS_SSES s) 318 :=
  (by decide +kernel : ∀ s, s < 8 → IsReg (R.HS_SSES s) 318) s hs

theorem ev_KP_EVT : regNo R.KP_EVT = 293 := by decide +kernel

theorem is_KP_EVT : isEvt R.KP_EVT = true := by decide +kernel

theorem at_KP_REVOKE : IsReg R.KP_REVOKE 295 := by decide +kernel

theorem at_KP_STAT : IsReg R.KP_STAT 292 := by decide +kernel

theorem at_KP_TAMP : IsReg R.KP_TAMP 294 := by decide +kernel

theorem at_LC_ENGSTAT : IsReg R.LC_ENGSTAT 3 := by decide +kernel

theorem at_LC_MEMCFG : IsReg R.LC_MEMCFG 4 := by decide +kernel

theorem at_LC_REV : IsReg R.LC_REV 1 := by decide +kernel

theorem at_LC_STATE : IsReg R.LC_STATE 2 := by decide +kernel

theorem at_LE_CNT {n : Nat} (hn : n < 4) : IsReg (R.LE_CNT n) 201 :=
  (by decide +kernel : ∀ n, n < 4 → IsReg (R.LE_CNT n) 201) n hn

theorem ev_LE_EVT {n : Nat} (hn : n < 4) : regNo (R.LE_EVT n) = 174 :=
  (by decide +kernel : ∀ n, n < 4 → regNo (R.LE_EVT n) = 174) n hn

theorem is_LE_EVT {n : Nat} (hn : n < 4) : isEvt (R.LE_EVT n) = true :=
  (by decide +kernel : ∀ n, n < 4 → isEvt (R.LE_EVT n) = true) n hn

theorem at_LE_INT {n : Nat} (hn : n < 4) : IsReg (R.LE_INT n) 198 :=
  (by decide +kernel : ∀ n, n < 4 → IsReg (R.LE_INT n) 198) n hn

theorem ev_LE_LEVT : regNo R.LE_LEVT = 171 := by decide +kernel

theorem is_LE_LEVT : isEvt R.LE_LEVT = true := by decide +kernel

theorem at_LE_LSTAT : IsReg R.LE_LSTAT 170 := by decide +kernel

theorem at_LE_OANG {n : Nat} (hn : n < 4) : IsReg (R.LE_OANG n) 199 :=
  (by decide +kernel : ∀ n, n < 4 → IsReg (R.LE_OANG n) 199) n hn

theorem at_LE_OUT {n : Nat} (hn : n < 4) : IsReg (R.LE_OUT n) 197 :=
  (by decide +kernel : ∀ n, n < 4 → IsReg (R.LE_OUT n) 197) n hn

theorem at_LE_PLS1 {n : Nat} (hn : n < 4) : IsReg (R.LE_PLS1 n) 192 :=
  (by decide +kernel : ∀ n, n < 4 → IsReg (R.LE_PLS1 n) 192) n hn

theorem at_LE_PREF_HI {n : Nat} (hn : n < 4) : IsReg (R.LE_PREF_HI n) 195 :=
  (by decide +kernel : ∀ n, n < 4 → IsReg (R.LE_PREF_HI n) 195) n hn

theorem at_LE_PREF_LO {n : Nat} (hn : n < 4) : IsReg (R.LE_PREF_LO n) 194 :=
  (by decide +kernel : ∀ n, n < 4 → IsReg (R.LE_PREF_LO n) 194) n hn

theorem at_LE_STAT {n : Nat} (hn : n < 4) : IsReg (R.LE_STAT n) 173 :=
  (by decide +kernel : ∀ n, n < 4 → IsReg (R.LE_STAT n) 173) n hn

theorem at_LE_SUPV {n : Nat} (hn : n < 4) : IsReg (R.LE_SUPV n) 200 :=
  (by decide +kernel : ∀ n, n < 4 → IsReg (R.LE_SUPV n) 200) n hn

theorem at_LE_WMAX {n : Nat} (hn : n < 4) : IsReg (R.LE_WMAX n) 181 :=
  (by decide +kernel : ∀ n, n < 4 → IsReg (R.LE_WMAX n) 181) n hn

theorem at_LE_WREF {n : Nat} (hn : n < 4) : IsReg (R.LE_WREF n) 196 :=
  (by decide +kernel : ∀ n, n < 4 → IsReg (R.LE_WREF n) 196) n hn

theorem at_PW_LGAUGE {n : Nat} (hn : n < 16) : IsReg (R.PW_LGAUGE n) 18 :=
  (by decide +kernel : ∀ n, n < 16 → IsReg (R.PW_LGAUGE n) 18) n hn

theorem at_PW_PACE : IsReg R.PW_PACE 15 := by decide +kernel

theorem at_PW_PGAUGE {n : Nat} (hn : n < 16) : IsReg (R.PW_PGAUGE n) 19 :=
  (by decide +kernel : ∀ n, n < 16 → IsReg (R.PW_PGAUGE n) 19) n hn

theorem ev_PW_SUPEVT : regNo R.PW_SUPEVT = 10 := by decide +kernel

theorem is_PW_SUPEVT : isEvt R.PW_SUPEVT = true := by decide +kernel

theorem at_PW_SUPSTAT : IsReg R.PW_SUPSTAT 9 := by decide +kernel

theorem at_PW_TEMP : IsReg R.PW_TEMP 13 := by decide +kernel

theorem at_PW_VCSET : IsReg R.PW_VCSET 7 := by decide +kernel

theorem at_PW_VIN : IsReg R.PW_VIN 11 := by decide +kernel

theorem at_PW_XCNT : IsReg R.PW_XCNT 17 := by decide +kernel

theorem ev_SF_EVT : regNo R.SF_EVT = 283 := by decide +kernel

theorem is_SF_EVT : isEvt R.SF_EVT = true := by decide +kernel

theorem at_SF_KOCMD : IsReg R.SF_KOCMD 288 := by decide +kernel

theorem at_SF_KOSTAT : IsReg R.SF_KOSTAT 289 := by decide +kernel

theorem at_SF_OWN : IsReg R.SF_OWN 282 := by decide +kernel

theorem at_SF_RAW : IsReg R.SF_RAW 281 := by decide +kernel

theorem at_SF_RST : IsReg R.SF_RST 290 := by decide +kernel

theorem at_SF_RSTHI : IsReg R.SF_RSTHI 291 := by decide +kernel

theorem at_SF_STAT : IsReg R.SF_STAT 280 := by decide +kernel

theorem at_SG_CNT0 : IsReg R.SG_CNT0 260 := by decide +kernel

theorem at_SG_CNT1 : IsReg R.SG_CNT1 261 := by decide +kernel

theorem at_SG_CNT2 : IsReg R.SG_CNT2 262 := by decide +kernel

theorem ev_SG_EVT : regNo R.SG_EVT = 258 := by decide +kernel

theorem is_SG_EVT : isEvt R.SG_EVT = true := by decide +kernel

theorem at_SG_HSEL {s : Nat} (hs : s < 8) : IsReg (R.SG_HSEL s) 264 :=
  (by decide +kernel : ∀ s, s < 8 → IsReg (R.SG_HSEL s) 264) s hs

theorem at_SG_LASTS : IsReg R.SG_LASTS 263 := by decide +kernel

theorem at_SG_LAT {s : Nat} {w : Nat} (hs : s < 8) (hw : w < 16) : IsReg (R.SG_LAT s w) 266 :=
  (by decide +kernel : ∀ s, s < 8 → ∀ w, w < 16 → IsReg (R.SG_LAT s w) 266) s hs w hw

theorem at_SG_QSTAT : IsReg R.SG_QSTAT 259 := by decide +kernel

theorem at_SG_STAT : IsReg R.SG_STAT 257 := by decide +kernel

theorem at_SG_WST {s : Nat} (hs : s < 8) : IsReg (R.SG_WST s) 265 :=
  (by decide +kernel : ∀ s, s < 8 → IsReg (R.SG_WST s) 265) s hs

theorem at_TM_APPL : IsReg R.TM_APPL 228 := by decide +kernel

theorem at_TM_CFG : IsReg R.TM_CFG 225 := by decide +kernel

theorem at_TM_CNT : IsReg R.TM_CNT 237 := by decide +kernel

theorem ev_TM_EVT : regNo R.TM_EVT = 224 := by decide +kernel

theorem is_TM_EVT : isEvt R.TM_EVT = true := by decide +kernel

theorem at_TM_FRAC : IsReg R.TM_FRAC 233 := by decide +kernel

theorem at_TM_GMHI : IsReg R.TM_GMHI 236 := by decide +kernel

theorem at_TM_GMLO : IsReg R.TM_GMLO 235 := by decide +kernel

theorem at_TM_INCR : IsReg R.TM_INCR 227 := by decide +kernel

theorem at_TM_NS : IsReg R.TM_NS 230 := by decide +kernel

theorem at_TM_OFS : IsReg R.TM_OFS 234 := by decide +kernel

theorem at_TM_SECHI : IsReg R.TM_SECHI 232 := by decide +kernel

theorem at_TM_SECLO : IsReg R.TM_SECLO 231 := by decide +kernel

theorem at_TM_STAT : IsReg R.TM_STAT 223 := by decide +kernel

theorem ev_TV_EVT : regNo R.TV_EVT = 46 := by decide +kernel

theorem is_TV_EVT : isEvt R.TV_EVT = true := by decide +kernel

theorem at_TV_EXER : IsReg R.TV_EXER 55 := by decide +kernel

theorem at_TV_LASTODD : IsReg R.TV_LASTODD 49 := by decide +kernel

theorem at_TV_LASTT0 : IsReg R.TV_LASTT0 50 := by decide +kernel

theorem at_TV_LASTT1 : IsReg R.TV_LASTT1 51 := by decide +kernel

theorem at_TV_RECENT : IsReg R.TV_RECENT 48 := by decide +kernel

theorem at_TV_RSCNT : IsReg R.TV_RSCNT 47 := by decide +kernel

theorem at_TV_SKEW : IsReg R.TV_SKEW 52 := by decide +kernel

theorem at_TV_SPREAD : IsReg R.TV_SPREAD 53 := by decide +kernel

theorem at_TV_STAT : IsReg R.TV_STAT 45 := by decide +kernel

theorem at_TV_WIN : IsReg R.TV_WIN 54 := by decide +kernel

theorem at_VR_CYC : IsReg R.VR_CYC 205 := by decide +kernel

theorem at_VR_CYCNUM : IsReg R.VR_CYCNUM 206 := by decide +kernel

theorem at_VR_DRIFT : IsReg R.VR_DRIFT 208 := by decide +kernel

theorem ev_VR_EVT : regNo R.VR_EVT = 204 := by decide +kernel

theorem is_VR_EVT : isEvt R.VR_EVT = true := by decide +kernel

theorem at_VR_MISS {k : Nat} (hk : k < 32) : IsReg (R.VR_MISS k) 222 :=
  (by decide +kernel : ∀ k, k < 32 → IsReg (R.VR_MISS k) 222) k hk

theorem at_VR_NCNT : IsReg R.VR_NCNT 215 := by decide +kernel

theorem at_VR_PCNT0E : IsReg R.VR_PCNT0E 212 := by decide +kernel

theorem at_VR_PCNT0W : IsReg R.VR_PCNT0W 211 := by decide +kernel

theorem at_VR_PCNT1E : IsReg R.VR_PCNT1E 214 := by decide +kernel

theorem at_VR_PCNT1W : IsReg R.VR_PCNT1W 213 := by decide +kernel

theorem at_VR_PSTATE : IsReg R.VR_PSTATE 210 := by decide +kernel

theorem at_VR_PSTATW : IsReg R.VR_PSTATW 209 := by decide +kernel

theorem at_VR_SHDAT0 : IsReg R.VR_SHDAT0 219 := by decide +kernel

theorem at_VR_SHDAT1 : IsReg R.VR_SHDAT1 220 := by decide +kernel

theorem at_VR_STAT : IsReg R.VR_STAT 203 := by decide +kernel

theorem at_WG_CMD : IsReg R.WG_CMD 68 := by decide +kernel

theorem at_WG_CMDEXP : IsReg R.WG_CMDEXP 69 := by decide +kernel

theorem at_WG_DRILL : IsReg R.WG_DRILL 71 := by decide +kernel

theorem ev_WG_EVT : regNo R.WG_EVT = 58 := by decide +kernel

theorem is_WG_EVT : isEvt R.WG_EVT = true := by decide +kernel

theorem at_WG_LEAD : IsReg R.WG_LEAD 65 := by decide +kernel

theorem at_WG_MIRCRC : IsReg R.WG_MIRCRC 67 := by decide +kernel

theorem at_WG_MIRROR : IsReg R.WG_MIRROR 66 := by decide +kernel

theorem at_WG_P1CNT : IsReg R.WG_P1CNT 61 := by decide +kernel

theorem at_WG_P2CNT : IsReg R.WG_P2CNT 62 := by decide +kernel

theorem at_WG_RESYNC : IsReg R.WG_RESYNC 70 := by decide +kernel

theorem at_WG_STAT : IsReg R.WG_STAT 57 := by decide +kernel

theorem at_WG_TOFS1 : IsReg R.WG_TOFS1 63 := by decide +kernel

theorem at_WG_TOFS2 : IsReg R.WG_TOFS2 64 := by decide +kernel



/-- An assigned address has the number of a register. -/
theorem regNo_of_regAt {a : Nat} {d : RegDesc} (h : regAt a = some d) : regNo a < 321 := by
  refine Nat.lt_of_le_of_ne (regNo_le a) fun e => ?_
  unfold regAt at h
  unfold regNo at e
  have hx := List.find?_some h
  have hm := List.mem_of_find?_eq_some h
  split at e
  · rename_i k hk
    have hl := findIdx_lt hk
    unfold blockRegs at hl
    unfold blockStart at e
    generalize a / 65536 = b at hl e
    split at hl <;>
      simp only [show regsLC.length = 7 from rfl, show regsPW.length = 13 from rfl, show regsBX.length = 25 from rfl, show regsTV.length = 12 from rfl, show regsWG.length = 16 from rfl, show regsBI.length = 15 from rfl, show regsDC.length = 36 from rfl, show regsGD.length = 22 from rfl, show regsFB.length = 24 from rfl, show regsLE.length = 32 from rfl, show regsVR.length = 21 from rfl, show regsTM.length = 16 from rfl, show regsCN.length = 18 from rfl, show regsSG.length = 12 from rfl, show regsCB.length = 11 from rfl, show regsSF.length = 12 from rfl, show regsKP.length = 4 from rfl, show regsCT.length = 8 from rfl, show regsHS.length = 17 from rfl, List.length_nil, List.getD_cons_succ, List.getD_cons_zero] at hl e <;>
      omega
  · rename_i hk
    rw [List.findIdx?_eq_none_iff] at hk
    rw [hk _ hm] at hx
    cases hx

theorem reg_bit {k : Nat} (h : k < 321) : (0x5ffffffffffffffffffffffffffffffffffffffffffffffffffffffffffffffffffffffffffffffff : Nat).testBit k = true :=
  (by decide +kernel : ∀ k, k < 321 → (0x5ffffffffffffffffffffffffffffffffffffffffffffffffffffffffffffffffffffffffffffffff : Nat).testBit k = true) k h

/-- A write of a register: any register, and flags may clear. -/
theorem Lane.writeWord_near {M : Nat} {b l0 : Lane} {y1} {y2} (m : sub 0x5ffffffffffffffffffffffffffffffffffffffffffffffffffffffffffffffffffffffffffffffff M = true) (h : Lane.Near M b l0) :
    Lane.Near M b (Lane.writeWord l0 y1 y2) := by
  delta Lane.writeWord
  split
  · exact h
  · rename_i d hd
    exact Lane.setReg_near (sub_iff.1 m _ (reg_bit (regNo_of_regAt hd))) (tb m rfl) h

/-- Words written one after another. -/
theorem Lane.writeWords_near {M c : Nat} {b l : Lane} {r : Nat → Nat} {ws : List Word} (hr : ∀ k, k < c → Put (r k) M)
    (h : Lane.Near M b l) : Lane.Near M b (l.writeWords r (ws.take c)) := by
  refine Lane.near_foldl (fun _ x q g => Lane.setWord_near (hr x.2 ?_) g) h
  have := List.mem_zipIdx q
  have := List.length_take_le c ws
  omega
theorem Lane.addTo_near {M : Nat} {b l : Lane} {f : Fld} {n} (ha : Put f.addr M)
    (h : Lane.Near M b l) : Lane.Near M b (l.addTo f n) := Lane.put_near ha h

theorem Lane.orBits_near {M : Nat} {b l : Lane} {f : Fld} {n} (ha : Put f.addr M)
    (h : Lane.Near M b l) : Lane.Near M b (l.orBits f n) := Lane.put_near ha h

theorem Lane.scaleField_near {M : Nat} {b l : Lane} {f : Fld} {n} (ha : Put f.addr M)
    (h : Lane.Near M b l) : Lane.Near M b (l.scaleField f n) := Lane.put_near ha h

theorem Lane.clearBits_near {M : Nat} {b l : Lane} {f : Fld} {n} (ha : Put f.addr M)
    (h : Lane.Near M b l) : Lane.Near M b (l.clearBits f n) := Lane.put_near ha h

end Sys2Proof.Machine
end

