-- ==== Sys2Proof/Laws/NearDrive.lean ====
section
/-!
SUPPORT. What the functions of the lane may change: the shared operations, the estimates and switching of an axis, replies, links, the module states and the trio.
-/

namespace Sys2Proof.Machine

-- one elaboration thread: thousands of small proofs would otherwise start one each
set_option Elab.async false

theorem Lane.trioEvent_near {M : Nat} {b : Lane} {l0 : Lane} (m : sub 0x10000000000000000000000000000000000000000000000000000000000000000000000000000000000000000000000000000000000000000000000000000000000000 M = true) (h0 : Lane.Near M b l0) :
    Lane.Near M b (Lane.trioEvent l0) := by
  delta Lane.trioEvent
  exact Lane.onTrio_near (f := _) (TrioState.Near.mk kp kp kp kp (ch m rfl) kp kp kp kp kp kp kp kp kp kp) h0

theorem Lane.onPort_near {M : Nat} {b : Lane} {l0 : Lane} {y1} {y2} (m : sub 0x400000000000000000000000000000000000000000000000000000000000000000000000000000000000000000000000000000000000000000000000000000000000000000000 M = true) (h0 : Lane.Near M b l0) :
    Lane.Near M b (Lane.onPort l0 y1 y2) := by
  delta Lane.onPort
  exact Lane.onRing_near (f := _) (RingState.Near.mk (ch m rfl) kp kp kp kp kp kp kp kp kp kp kp kp kp kp kp kp kp kp kp kp kp kp kp kp kp kp kp kp kp kp kp kp kp kp kp kp) h0

theorem Lane.setMode_near {M : Nat} {b : Lane} {l0 : Lane} {y1} (m : sub 0x4 M = true) (h0 : Lane.Near M b l0) :
    Lane.Near M b (Lane.setMode l0 y1) := by
  delta Lane.setMode
  exact Lane.put_near (inReg at_LC_STATE (tb m rfl)) h0

theorem Lane.setLState_near {M : Nat} {b : Lane} {l0 : Lane} {y1} (m : sub 0x4 M = true) (h0 : Lane.Near M b l0) :
    Lane.Near M b (Lane.setLState l0 y1) := by
  delta Lane.setLState
  exact Lane.put_near (inReg at_LC_STATE (tb m rfl)) h0

theorem Lane.setAxst_near {M : Nat} {b : Lane} {l0 : Lane} {y1} {y2} (m : sub 0x20000000000000000000000 M = true) (h0 : Lane.Near M b l0) :
    Lane.Near M b (Lane.setAxst l0 y1 y2) := by
  delta Lane.setAxst
  exact Lane.put_near (inReg (at_DC_STAT (Fin.isLt _)) (tb m rfl)) h0

theorem Lane.showEstimates_near {M : Nat} {b : Lane} {l0 : Lane} {y1} {y2} (m : sub 0x1a00000000000000000000000 M = true) (h0 : Lane.Near M b l0) :
    Lane.Near M b (Lane.showEstimates l0 y1 y2) := by
  delta Lane.showEstimates
  extract_lets -underBinder +onlyGivenNames x10 x11 x12
  clear_value x10 x11 x12
  extract_lets -underBinder +onlyGivenNames x13
  have h13 : Lane.Near M b x13 := Lane.putInt_near (inReg (at_DC_TEST (Fin.isLt _)) (tb m rfl)) h0
  clear_value x13
  extract_lets -underBinder +onlyGivenNames x14
  have h14 : Lane.Near M b x14 := Lane.putInt_near (inReg (at_DC_PSI (Fin.isLt _)) (tb m rfl)) h13
  clear_value x14
  extract_lets -underBinder +onlyGivenNames x15
  have h15 : Lane.Near M b x15 := Lane.put_near (inReg (at_DC_ANGLE (Fin.isLt _)) (tb m rfl)) h14
  clear_value x15
  exact Lane.putInt_near (inReg (at_DC_ANGLE (Fin.isLt _)) (tb m rfl)) h15

theorem Lane.reconstruct_near {M : Nat} {b : Lane} {l0 : Lane} {y1} {y2} (m : sub 0x10000000000000000000000000000000000000000000000000000000001a00000000000000000000000 M = true) (h0 : Lane.Near M b l0) :
    Lane.Near M b (Lane.reconstruct l0 y1 y2) := by
  delta Lane.reconstruct
  extract_lets -underBinder +onlyGivenNames x10 x11 x12 x13 x14 x15 x16 x17 x18
  clear_value x10 x11 x12 x13 x14 x15 x16 x17 x18
  exact Lane.showEstimates_near (tr m rfl) (Lane.onAx_near (f := _) (AxisState.Near.mk (ch m rfl) kp kp kp kp kp kp kp kp) h0)

theorem Lane.euler_near {M : Nat} {b : Lane} {l0 : Lane} {y1} {y2} (m : sub 0x10000000000000000000000000000000000000000000000000000000001a00000000000000000000000 M = true) (h0 : Lane.Near M b l0) :
    Lane.Near M b (Lane.euler l0 y1 y2) := by
  delta Lane.euler
  extract_lets -underBinder +onlyGivenNames x10 x11 x12
  clear_value x10 x11 x12
  extract_lets -underBinder +onlyGivenNames x13
  have h13 : Lane.Near M b x13 := Lane.onAx_near (f := _) (AxisState.Near.mk (ch m rfl) kp kp kp kp kp kp kp kp) h0
  clear_value x13
  exact Lane.reconstruct_near (tr m rfl) h13

theorem Lane.integrate_near {M : Nat} {b : Lane} {l0 : Lane} {y1} {y2} (m : sub 0x10000000000000000000000000000000000000000000000000000000001a00000000000000000000000 M = true) (h0 : Lane.Near M b l0) :
    Lane.Near M b (Lane.integrate l0 y1 y2) := by
  delta Lane.integrate
  extract_lets -underBinder +onlyGivenNames x10
  clear_value x10
  extract_lets -underBinder +onlyGivenNames x11
  have h11 : Lane.Near M b x11 := Lane.near_foldl (fun _ _ q12 g12 => Lane.onAx_near (f := _) (AxisState.Near.mk (ch m rfl) kp kp kp kp kp kp kp kp) (Lane.euler_near (tr m rfl) g12)) h0
  clear_value x11
  exact Lane.euler_near (tr m rfl) (Lane.onAx_near (f := _) (AxisState.Near.mk (ch m rfl) kp kp kp kp kp kp kp kp) h11)

theorem Lane.correct_near {M : Nat} {b : Lane} {l0 : Lane} {y1} {y2} {y3} {y4} {y5} (m : sub 0x10800000000000000000000000000000000000000000000000000000003a40000000000000000000000 M = true) (h0 : Lane.Near M b l0) :
    Lane.Near M b (Lane.correct l0 y1 y2 y3 y4 y5) := by
  delta Lane.correct
  extract_lets -underBinder +onlyGivenNames x10 x11 x12 x13 x14 x15 x16 x17 x18 x19 x20 x21 x22 x23 x24 x25
  clear_value x10 x11 x12 x13 x14 x15 x16 x17 x18 x19 x20 x21 x22 x23 x24 x25
  extract_lets -underBinder +onlyGivenNames x26
  have h26 : Lane.Near M b x26 := Lane.onAx_near (f := _) (AxisState.Near.mk (ch m rfl) kp kp kp kp kp kp kp kp) h0
  clear_value x26
  extract_lets -underBinder +onlyGivenNames x27
  have h27 : Lane.Near M b x27 := Lane.putInt_near (inReg (at_DC_TRIM (Fin.isLt _)) (tb m rfl)) h26
  clear_value x27
  extract_lets -underBinder +onlyGivenNames x28
  have h28 : Lane.Near M b x28 := Lane.when_near h27 (fun _ g29 => Lane.raise_near (inEvt (ev_DC_EVT (Fin.isLt _)) (tb m rfl)) rfl g29)
  clear_value x28
  extract_lets -underBinder +onlyGivenNames x30
  have h30 : Lane.Near M b x30 := Lane.when_near h28 (fun _ g31 => Lane.note_near (tb m rfl) g31)
  clear_value x30
  exact Lane.reconstruct_near (tr m rfl) h30

theorem Lane.markUnav_near {M : Nat} {b : Lane} {l0 : Lane} {y1} (m : sub 0x200000000020000000000000000000000 M = true) (h0 : Lane.Near M b l0) :
    Lane.Near M b (Lane.markUnav l0 y1) := by
  delta Lane.markUnav
  extract_lets -underBinder +onlyGivenNames x10
  clear_value x10
  extract_lets -underBinder +onlyGivenNames x11
  have h11 : Lane.Near M b x11 := Lane.put_near (inReg (at_GD_STAT (Fin.isLt _)) (tb m rfl)) h0
  clear_value x11
  extract_lets -underBinder +onlyGivenNames x12
  have h12 : Lane.Near M b x12 := Lane.put_near (inReg (at_DC_STAT (Fin.isLt _)) (tb m rfl)) h11
  clear_value x12
  exact Lane.putFlag_near (inReg (at_DC_STAT (Fin.isLt _)) (tb m rfl)) h12

theorem Lane.postWord_near {M : Nat} {b : Lane} {l0 : Lane} {y1} (m : sub 0x10000000000000000000000000000000000000000000000000000000000000000000000000000000000 M = true) (h0 : Lane.Near M b l0) :
    Lane.Near M b (Lane.postWord l0 y1) := by
  delta Lane.postWord
  extract_lets -underBinder +onlyGivenNames x10
  clear_value x10
  exact Lane.onAx_near (f := _) (AxisState.Near.mk (ch m rfl) kp kp kp kp kp kp kp kp) h0

theorem Lane.leakAbortOf_near {M : Nat} {b : Lane} {l0 : Lane} {y1} {y2} (m : sub 0x200000000000000000000000000000000000000000000000000800000000000000000000000000000000 M = true) (h0 : Lane.Near M b l0) :
    Lane.Near M b (Lane.leakAbortOf l0 y1 y2) := by
  delta Lane.leakAbortOf
  exact Lane.near_ite (Lane.raise_near (inEvt (ev_GD_EVT (Fin.isLt _)) (tb m rfl)) rfl (Lane.onAx_near (f := _) (AxisState.Near.mk kp kp kp kp kp (ch m rfl) kp kp kp) h0)) h0

theorem Lane.leakAbort_near {M : Nat} {b : Lane} {l0 : Lane} {y1} (m : sub 0x200000000000000000000000000000000000000000000000000800000000000000000000000000000000 M = true) (h0 : Lane.Near M b l0) :
    Lane.Near M b (Lane.leakAbort l0 y1) := by
  delta Lane.leakAbort
  exact Lane.leakAbortOf_near (tr m rfl) h0

theorem Lane.setOn_near {M : Nat} {b : Lane} {l0 : Lane} {y1} {y2} (m : sub 0x10000000000000000000000000000000000000000000000000200000000000000000000000000000000 M = true) (h0 : Lane.Near M b l0) :
    Lane.Near M b (Lane.setOn l0 y1 y2) := by
  delta Lane.setOn
  exact Lane.near_ite h0 (Lane.onAx_near (f := _) (AxisState.Near.mk (ch m rfl) kp kp kp kp kp kp kp kp) (Lane.put_near (inReg (at_GD_STAT (Fin.isLt _)) (tb m rfl)) h0))

theorem Lane.settle_near {M : Nat} {b : Lane} {l0 : Lane} {y1} (m : sub 0x250000000000000000000000000000000000000000000000000a00000000000000000000000000000000 M = true) (h0 : Lane.Near M b l0) :
    Lane.Near M b (Lane.settle l0 y1) := by
  delta Lane.settle
  extract_lets -underBinder +onlyGivenNames x10 x11 x12
  clear_value x10 x11 x12
  extract_lets -underBinder +onlyGivenNames x13
  have h13 : Lane.Near M b x13 := Lane.near_ite (Lane.leakAbort_near (tr m rfl) h0) (Lane.leakAbortOf_near (tr m rfl) h0)
  clear_value x13
  exact Lane.onAx_near (f := _) (AxisState.Near.mk kp kp (ch m rfl) kp kp kp kp kp kp) (Lane.setOn_near (tr m rfl) h13)

theorem Lane.setWant_near {M : Nat} {b : Lane} {l0 : Lane} {y1} {y2} (m : sub 0x40000000000000000000000000000000000000000000000000000000000000000000000000000000000 M = true) (h0 : Lane.Near M b l0) :
    Lane.Near M b (Lane.setWant l0 y1 y2) := by
  delta Lane.setWant
  exact Lane.onAx_near (f := _) (AxisState.Near.mk kp kp (ch m rfl) kp kp kp kp kp kp) h0

theorem Lane.compare_near {M : Nat} {b : Lane} {l0 : Lane} {y1} (m : sub 0x820000000000000000000000 M = true) (h0 : Lane.Near M b l0) :
    Lane.Near M b (Lane.compare l0 y1) := by
  delta Lane.compare
  extract_lets -underBinder +onlyGivenNames x10 x11 x12 x13 x14 x15 x16
  clear_value x10 x11 x12 x13 x14 x15 x16
  extract_lets -underBinder +onlyGivenNames x17
  have h17 : Lane.Near M b x17 := Lane.putInt_near (inReg (at_DC_PSI (Fin.isLt _)) (tb m rfl)) h0
  clear_value x17
  extract_lets -underBinder +onlyGivenNames x18
  have h18 : Lane.Near M b x18 := Lane.putInt_near (inReg (at_DC_STAT (Fin.isLt _)) (tb m rfl)) h17
  clear_value x18
  extract_lets -underBinder +onlyGivenNames x19
  have h19 : Lane.Near M b x19 := Lane.putFlag_near (inReg (at_DC_STAT (Fin.isLt _)) (tb m rfl)) h18
  clear_value x19
  exact Lane.put_near (inReg (at_DC_STAT (Fin.isLt _)) (tb m rfl)) h19

theorem Lane.takeState_near {M : Nat} {b : Lane} {l0 : Lane} {y1} {y2} (m : sub 0x250000000000000000000000000000000000000000000000000a00000000020000000000000000000000 M = true) (h0 : Lane.Near M b l0) :
    Lane.Near M b (Lane.takeState l0 y1 y2) := by
  delta Lane.takeState
  extract_lets -underBinder +onlyGivenNames x10
  have h10 : Lane.Near M b x10 := Lane.setWant_near (tr m rfl) (Lane.drop_near (inReg (at_DC_STAT (Fin.isLt _)) (tb m rfl)) h0)
  clear_value x10
  extract_lets -underBinder +onlyGivenNames x11
  have h11 : Lane.Near M b x11 := Lane.onAx_near (f := _) (AxisState.Near.mk kp kp (ch m rfl) kp kp kp kp kp kp) h10
  clear_value x11
  exact Lane.settle_near (tr m rfl) (Lane.raise_near (inReg (at_DC_STAT (Fin.isLt _)) (tb m rfl)).1 rfl h11)

theorem Lane.enterRank3_near {M : Nat} {b : Lane} {l0 : Lane} {y1} (m : sub 0x250000000000000000000000000000000000000000000000000a00000000020000000000000000000000 M = true) (h0 : Lane.Near M b l0) :
    Lane.Near M b (Lane.enterRank3 l0 y1) := by
  delta Lane.enterRank3
  split
  · exact Lane.near_ite (Lane.settle_near (tr m rfl) h0) (Lane.near_ite (Lane.takeState_near (tr m rfl) h0) (Lane.settle_near (tr m rfl) (Lane.setWant_near (tr m rfl) h0)))
  · exact Lane.settle_near (tr m rfl) h0

theorem Lane.holdRate_near {M : Nat} {b : Lane} {l0 : Lane} {y1} (m : sub 0xa0000000000000000000000 M = true) (h0 : Lane.Near M b l0) :
    Lane.Near M b (Lane.holdRate l0 y1) := by
  delta Lane.holdRate
  extract_lets -underBinder +onlyGivenNames x10
  have h10 : Lane.Near M b x10 := Lane.when_near h0 (fun _ g11 => Lane.bump_near (inReg (at_DC_CNT (Fin.isLt _)) (tb m rfl)) g11)
  clear_value x10
  exact Lane.raise_near (inReg (at_DC_STAT (Fin.isLt _)) (tb m rfl)).1 rfl h10

theorem Lane.seenMask_near {M : Nat} {b : Lane} {l0 : Lane} {y1} (m : sub 0x40000000000000000000000000000000000000000000000000000000000000000000000000000000000 M = true) (h0 : Lane.Near M b l0) :
    Lane.Near M b (Lane.seenMask l0 y1) := by
  delta Lane.seenMask
  exact Lane.onAx_near (f := _) (AxisState.Near.mk kp kp (ch m rfl) kp kp kp kp kp kp) h0

theorem Lane.release_near {M : Nat} {b : Lane} {l0 : Lane} {y1} (m : sub 0x250000000000000000000000000000000000000000000000000a00000000020000000000000000000000 M = true) (h0 : Lane.Near M b l0) :
    Lane.Near M b (Lane.release l0 y1) := by
  delta Lane.release
  exact Lane.settle_near (tr m rfl) (Lane.setWant_near (tr m rfl) (Lane.drop_near (inReg (at_DC_STAT (Fin.isLt _)) (tb m rfl)) h0))

theorem Lane.lookup_near {M : Nat} {b : Lane} {l0 : Lane} {y1} (m : sub 0x250000000000000000000000000000000000000000000000000a000000000e0000000000000000000000 M = true) (h0 : Lane.Near M b l0) :
    Lane.Near M b (Lane.lookup l0 y1) := by
  delta Lane.lookup
  extract_lets -underBinder +onlyGivenNames x10
  clear_value x10
  extract_lets -underBinder +onlyGivenNames x11
  have h11 : Lane.Near M b x11 := Lane.putFlag_near (inReg (at_DC_STAT (Fin.isLt _)) (tb m rfl)) h0
  clear_value x11
  exact Lane.near_ite (Lane.settle_near (tr m rfl) h11) (by
    split
    · exact Lane.release_near (tr m rfl) (Lane.seenMask_near (tr m rfl) (Lane.raise_near (inEvt (ev_DC_EVT (Fin.isLt _)) (tb m rfl)) rfl h11))
    · extract_lets -underBinder +onlyGivenNames x12
      clear_value x12
      exact Lane.near_ite (Lane.settle_near (tr m rfl) (Lane.seenMask_near (tr m rfl) (Lane.drop_near (inReg (at_DC_STAT (Fin.isLt _)) (tb m rfl)) h11))) (Lane.near_ite (Lane.settle_near (tr m rfl) (Lane.holdRate_near (tr m rfl) h11)) (Lane.takeState_near (tr m rfl) (Lane.seenMask_near (tr m rfl) h11))))

theorem Lane.decideSwitch_near {M : Nat} {b : Lane} {l0 : Lane} {y1} (m : sub 0x250000000000000000000000000000000000000000000000000a000000008e0000000000000000000000 M = true) (h0 : Lane.Near M b l0) :
    Lane.Near M b (Lane.decideSwitch l0 y1) := by
  delta Lane.decideSwitch
  extract_lets -underBinder +onlyGivenNames x10
  have h10 : Lane.Near M b x10 := Lane.compare_near (tr m rfl) (Lane.postWord_near (tr m rfl) h0)
  clear_value x10
  exact Lane.near_ite (Lane.lookup_near (tr m rfl) h10) (Lane.settle_near (tr m rfl) h10)

theorem Lane.update_near {M : Nat} {b : Lane} {l0 : Lane} {y1} (m : sub 0x250000000000000000000000000000000000000000000000000a00000001ae0000000000000000000000 M = true) (h0 : Lane.Near M b l0) :
    Lane.Near M b (Lane.update l0 y1) := by
  delta Lane.update
  exact Lane.decideSwitch_near (tr m rfl) (Lane.integrate_near (tr m rfl) h0)

theorem Lane.voidAxis_near {M : Nat} {b : Lane} {l0 : Lane} (m : sub 0x100000000000000000000000000000000000000000000000000000000000000000000000000000000000000000000000000000000000004000000000000000000 M = true) (h0 : Lane.Near M b l0) :
    Lane.Near M b (Lane.voidAxis l0) := by
  delta Lane.voidAxis
  exact Lane.near_ite (Lane.raise_near (inEvt ev_BI_EVT (tb m rfl)) rfl (Lane.onReh_near (f := _) (RehState.Near.mk kp kp kp kp kp kp kp kp kp (ch m rfl) kp kp kp kp kp kp kp kp kp kp kp kp kp kp kp) h0)) h0

theorem Lane.voidSteps_near {M : Nat} {b : Lane} {l0 : Lane} (m : sub 0x380000000000000000000000000000000000000000000000000000000000000000000000000000000000000000000000000000000000004000000000000000000 M = true) (h0 : Lane.Near M b l0) :
    Lane.Near M b (Lane.voidSteps l0) := by
  delta Lane.voidSteps
  exact Lane.near_ite (Lane.raise_near (inEvt ev_BI_EVT (tb m rfl)) rfl (Lane.onReh_near (f := _) (RehState.Near.mk kp kp kp kp kp kp kp kp (ch m rfl) (ch m rfl) (ch m rfl) kp kp kp kp kp kp kp kp kp kp kp kp kp kp) h0)) h0

theorem Lane.abandon_near {M : Nat} {b : Lane} {l0 : Lane} {y1} (m : sub 0x750000000000000000000000000000000000000000000000000a00008000020000000000000000000000 M = true) (h0 : Lane.Near M b l0) :
    Lane.Near M b (Lane.abandon l0 y1) := by
  delta Lane.abandon
  extract_lets -underBinder +onlyGivenNames x10
  have h10 : Lane.Near M b x10 := Lane.when_near h0 (fun _ g11 => Lane.drop_near (inReg (at_DC_LASTX (Fin.isLt _)) (tb m rfl)) g11)
  clear_value x10
  extract_lets -underBinder +onlyGivenNames x12
  have h12 : Lane.Near M b x12 := Lane.onAx_near (f := _) (AxisState.Near.mk (ch m rfl) kp kp kp (ch m rfl) kp (ch m rfl) kp kp) h10
  clear_value x12
  extract_lets -underBinder +onlyGivenNames x13
  have h13 : Lane.Near M b x13 := Lane.drop_near (inReg (at_DC_STAT (Fin.isLt _)) (tb m rfl)) h12
  clear_value x13
  exact Lane.release_near (tr m rfl) (Lane.when_near h13 (fun _ g14 => Lane.setAxst_near (tr m rfl) g14))

theorem Lane.setOff_near {M : Nat} {b : Lane} {l0 : Lane} {y1} (m : sub 0x650000000000000000000000000000000000000000000000000a00000000060000000000000000000000 M = true) (h0 : Lane.Near M b l0) :
    Lane.Near M b (Lane.setOff l0 y1) := by
  delta Lane.setOff
  extract_lets -underBinder +onlyGivenNames x10
  have h10 : Lane.Near M b x10 := Lane.onAx_near (f := _) (AxisState.Near.mk (ch m rfl) kp kp kp kp kp (ch m rfl) kp kp) h0
  clear_value x10
  exact Lane.release_near (tr m rfl) (Lane.drop_near (inReg (at_DC_STAT (Fin.isLt _)) (tb m rfl)) (Lane.raise_near (inEvt (ev_DC_EVT (Fin.isLt _)) (tb m rfl)) rfl (Lane.setAxst_near (tr m rfl) h10)))

theorem Lane.substitute_near {M : Nat} {b : Lane} {l0 : Lane} {y1} (m : sub 0x10000000000000000000000000000000000000000000000000000000000020000000000000000000000 M = true) (h0 : Lane.Near M b l0) :
    Lane.Near M b (Lane.substitute l0 y1) := by
  delta Lane.substitute
  exact Lane.onAx_near (f := _) (AxisState.Near.mk (ch m rfl) kp kp kp kp kp kp kp kp) (Lane.raise_near (inReg (at_DC_STAT (Fin.isLt _)) (tb m rfl)).1 rfl h0)

theorem Lane.releaseAll_near {M : Nat} {b : Lane} {l0 : Lane} (m : sub 0x750000000000000000000000000000000000000000000000000a00008000020000000000000000000000 M = true) (h0 : Lane.Near M b l0) :
    Lane.Near M b (Lane.releaseAll l0) := by
  delta Lane.releaseAll
  exact Lane.allAxes_near h0 (fun _ _ g10 => Lane.abandon_near (tr m rfl) g10)

theorem Lane.showFuses_near {M : Nat} {b : Lane} {l0 : Lane} (m : sub 0x90000000000000000000000000000000000000000000000000000000000000000000000000 M = true) (h0 : Lane.Near M b l0) :
    Lane.Near M b (Lane.showFuses l0) := by
  delta Lane.showFuses
  extract_lets -underBinder +onlyGivenNames x10
  clear_value x10
  extract_lets -underBinder +onlyGivenNames x11
  have h11 : Lane.Near M b x11 := Lane.put_near (inReg at_KP_STAT (tb m rfl)) h0
  clear_value x11
  exact Lane.put_near (inReg at_KP_REVOKE (tb m rfl)) (Lane.put_near (inReg at_KP_REVOKE (tb m rfl)) h11)

theorem Lane.atn_near {M : Nat} {b : Lane} {l0 : Lane} (m : sub 0x200000000000000000000000000000000000000000000000000000000000000000000000000000 M = true) (h0 : Lane.Near M b l0) :
    Lane.Near M b (Lane.atn l0) := by
  delta Lane.atn
  extract_lets -underBinder +onlyGivenNames x10
  have h10 : Lane.Near M b x10 := Lane.put_near (inReg at_HS_PORT (tb m rfl)) h0
  clear_value x10
  exact Lane.putFlag_near (inReg at_HS_PORT (tb m rfl)) h10

theorem Lane.loadCan_near {M : Nat} {b : Lane} {l0 : Lane} {y1} (m : sub 0x800000000000000000000000000000000000000000000014000000000000000000000000000000000000000000000000000000000000000 M = true) (h0 : Lane.Near M b l0) :
    Lane.Near M b (Lane.loadCan l0 y1) := by
  delta Lane.loadCan
  extract_lets -underBinder +onlyGivenNames x10 x11
  clear_value x10 x11
  split
  · exact h0
  · exact Lane.near_ite h0 (by
    extract_lets -underBinder +onlyGivenNames x12
    have h12 : Lane.Near M b x12 := Lane.near_foldl (fun _ _ q13 g13 => Lane.setWord_near (inReg (at_CN_BDAT (Fin.isLt _) (Fin.isLt _) (List.mem_range.1 q13)) (tb m rfl)) g13) h0
    clear_value x12
    extract_lets -underBinder +onlyGivenNames x14
    have h14 : Lane.Near M b x14 := Lane.raise_near (inReg (at_CN_BCTL (Fin.isLt _) (Fin.isLt _)) (tb m rfl)).1 rfl (Lane.put_near (inReg (at_CN_BCTL (Fin.isLt _) (Fin.isLt _)) (tb m rfl)) (Lane.raise_near (inReg (at_CN_BCTL (Fin.isLt _) (Fin.isLt _)) (tb m rfl)).1 rfl h12))
    clear_value x14
    exact Lane.onSeats_near (f := _) (SeatState.Near.mk kp kp kp (ch m rfl) kp kp kp kp kp kp kp kp kp kp kp kp kp kp kp) h14)

theorem Lane.queueReply_near {M : Nat} {b : Lane} {l0 : Lane} {y1} {y2} (m : sub 0x1e00000000000000000000000000000001300000000000014000000000000000000000000000000000000000000000000000000000000000 M = true) (h0 : Lane.Near M b l0) :
    Lane.Near M b (Lane.queueReply l0 y1 y2) := by
  delta Lane.queueReply
  split
  · exact Lane.near_ite (Lane.atn_near (tr m rfl) (Lane.onSeats_near (f := _) (SeatState.Near.mk kp (ch m rfl) kp kp kp kp kp kp kp kp kp kp kp kp kp kp kp kp kp) h0)) (Lane.raise_near (inEvt ev_HS_EVT (tb m rfl)) rfl (Lane.bump_near (inReg at_HS_CNT2 (tb m rfl)) h0))
  · exact Lane.onSeats_near (f := _) (SeatState.Near.mk kp kp (ch m rfl) kp kp kp kp kp kp kp kp kp kp kp kp kp kp kp kp) h0
  · exact Lane.loadCan_near (tr m rfl) (Lane.onSeats_near (f := _) (SeatState.Near.mk kp kp kp (ch m rfl) (ch m rfl) kp kp kp kp kp kp kp kp kp kp kp kp kp kp) h0)
  · exact h0
  · exact h0

theorem Lane.countReply_near {M : Nat} {b : Lane} {l0 : Lane} {y1} {y2} (m : sub 0x102800000000000000000000000000000000000000000000000000000000000000000000000000000 M = true) (h0 : Lane.Near M b l0) :
    Lane.Near M b (Lane.countReply l0 y1 y2) := by
  delta Lane.countReply
  extract_lets -underBinder +onlyGivenNames x10
  have h10 : Lane.Near M b x10 := Lane.when_near h0 (fun _ g11 => Lane.bump_near (inReg at_HS_CNT1 (tb m rfl)) g11)
  clear_value x10
  extract_lets -underBinder +onlyGivenNames x12
  have h12 : Lane.Near M b x12 := Lane.when_near h10 (fun _ g13 => Lane.bump_near (inReg at_HS_CNT3 (tb m rfl)) g13)
  clear_value x12
  extract_lets -underBinder +onlyGivenNames x14
  have h14 : Lane.Near M b x14 := Lane.put_near (inReg (at_HS_SLAST (Fin.isLt _)) (tb m rfl)) h12
  clear_value x14
  extract_lets -underBinder +onlyGivenNames x15
  have h15 : Lane.Near M b x15 := Lane.put_near (inReg (at_HS_SLAST (Fin.isLt _)) (tb m rfl)) h14
  clear_value x15
  exact Lane.put_near (inReg (at_HS_SLAST (Fin.isLt _)) (tb m rfl)) h15

theorem Lane.sendReply_near {M : Nat} {b : Lane} {l0 : Lane} {y1} {y2} {y3} (m : sub 0x1e00000000000000000000000000000103b00000000000014000000000000000000000000000000000000000000000000000000000000000 M = true) (h0 : Lane.Near M b l0) :
    Lane.Near M b (Lane.sendReply l0 y1 y2 y3) := by
  delta Lane.sendReply
  exact Lane.near_ite h0 (by
    split
    · exact h0
    · exact h0
    · exact Lane.queueReply_near (tr m rfl) (Lane.countReply_near (tr m rfl) h0))

theorem Lane.reply_near {M : Nat} {b : Lane} {l0 : Lane} {y1} {y2} {y3} {y4} {y5} (m : sub 0x1e00000000000000000000000000000103b00000000000014000000000000000000000000000000000000000000000000000000000000000 M = true) (h0 : Lane.Near M b l0) :
    Lane.Near M b (Lane.reply l0 y1 y2 y3 y4 y5) := by
  delta Lane.reply
  exact Lane.sendReply_near (tr m rfl) h0

theorem Lane.keepReply_near {M : Nat} {b : Lane} {l0 : Lane} {y1} {y2} (m : sub 0x4000000000000000000000000000000000000000000000000000000000000000000000000000000000000000000000000000000000000000 M = true) (h0 : Lane.Near M b l0) :
    Lane.Near M b (Lane.keepReply l0 y1 y2) := by
  delta Lane.keepReply
  exact Lane.near_ite (by
    extract_lets -underBinder +onlyGivenNames x10
    clear_value x10
    exact Lane.onSeats_near (f := _) (SeatState.Near.mk kp kp kp kp kp kp (ch m rfl) kp kp kp kp kp kp kp kp kp kp kp kp) h0) h0

theorem Lane.answerTagged_near {M : Nat} {b : Lane} {l0 : Lane} {y1} {y2} {y3} {y4} {y5} (m : sub 0x5e00000000000000000000000000000103b00000000000014000000000000000000000000000000000000000000000000000000000000000 M = true) (h0 : Lane.Near M b l0) :
    Lane.Near M b (Lane.answerTagged l0 y1 y2 y3 y4 y5) := by
  delta Lane.answerTagged
  exact Lane.reply_near (tr m rfl) (Lane.keepReply_near (tr m rfl) h0)

theorem Lane.answer_near {M : Nat} {b : Lane} {l0 : Lane} {y1} {y2} {y3} {y4} (m : sub 0x5e00000000000000000000000000000103b00000000000014000000000000000000000000000000000000000000000000000000000000000 M = true) (h0 : Lane.Near M b l0) :
    Lane.Near M b (Lane.answer l0 y1 y2 y3 y4) := by
  delta Lane.answer
  exact Lane.answerTagged_near (tr m rfl) h0

theorem Lane.endSession_near {M : Nat} {b : Lane} {l0 : Lane} {y1} (m : sub 0x20000000000000000000000000000000000000000080100000000000000000000000000000000000000000000000000000000000000000000000000000 M = true) (h0 : Lane.Near M b l0) :
    Lane.Near M b (Lane.endSession l0 y1) := by
  delta Lane.endSession
  exact Lane.near_ite (by
    extract_lets -underBinder +onlyGivenNames x10
    have h10 : Lane.Near M b x10 := Lane.raise_near (inEvt ev_HS_EVT (tb m rfl)) rfl (Lane.drop_near (inReg (at_HS_SSEQ (Fin.isLt _)) (tb m rfl)) h0)
    clear_value x10
    exact Lane.onTrust_near (f := _) (TrustState.Near.mk kp kp (ch m rfl) kp kp kp kp kp kp kp kp kp kp kp kp kp kp kp kp kp) h10) h0

theorem Lane.setLink_near {M : Nat} {b : Lane} {l0 : Lane} {y1} {y2} (m : sub 0x200000000000000 M = true) (h0 : Lane.Near M b l0) :
    Lane.Near M b (Lane.setLink l0 y1 y2) := by
  delta Lane.setLink
  exact Lane.put_near (put_ite (inReg at_WG_STAT (tb m rfl)) (inReg at_WG_STAT (tb m rfl))) h0

theorem Lane.onLinkEnd_near {M : Nat} {b : Lane} {l0 : Lane} {y1} {y2} (m : sub 0x8000000000000000000000000000000000000000000000000000000000000000000000000000000000000000000000000 M = true) (h0 : Lane.Near M b l0) :
    Lane.Near M b (Lane.onLinkEnd l0 y1 y2) := by
  delta Lane.onLinkEnd
  exact Lane.onWing_near (f := _) (WingState.Near.mk (ch m rfl) kp kp kp kp kp kp kp kp kp kp kp kp kp kp kp kp kp kp kp kp kp kp kp kp kp kp kp kp kp kp kp kp kp kp kp kp kp kp kp kp kp kp kp kp kp kp kp kp kp kp kp kp) h0

theorem Lane.emitFrame_near {M : Nat} {b : Lane} {l0 : Lane} {y1} {y2} {y3} (m : sub 0x1000000000000000000000000000000000000000000000000000000000000000000000000000000000 M = true) (h0 : Lane.Near M b l0) :
    Lane.Near M b (Lane.emitFrame l0 y1 y2 y3) := by
  delta Lane.emitFrame
  exact Lane.send_near (tb m rfl) h0

theorem Lane.emitSummary_near {M : Nat} {b : Lane} {l0 : Lane} {y1} {y2} (m : sub 0x1000000000000000000000000000000000000000000000000000000000000000000000000000000000 M = true) (h0 : Lane.Near M b l0) :
    Lane.Near M b (Lane.emitSummary l0 y1 y2) := by
  delta Lane.emitSummary
  exact Lane.send_near (tb m rfl) h0

theorem Lane.putFrame_near {M : Nat} {b : Lane} {l0 : Lane} {y1} {y2} (m : sub 0x8000000000000001000000000000000000000000000000000000000000000000000000000000000000000000000000000 M = true) (h0 : Lane.Near M b l0) :
    Lane.Near M b (Lane.putFrame l0 y1 y2) := by
  delta Lane.putFrame
  extract_lets -underBinder +onlyGivenNames x10
  clear_value x10
  extract_lets -underBinder +onlyGivenNames x11
  have h11 : Lane.Near M b x11 := Lane.onLinkEnd_near (tr m rfl) h0
  clear_value x11
  exact Lane.emitFrame_near (tr m rfl) h11

theorem Lane.flushLink_near {M : Nat} {b : Lane} {l0 : Lane} {y1} (m : sub 0x8000000000000001000000000000000000000000000000000000000000000000000000000000000000000000000000000 M = true) (h0 : Lane.Near M b l0) :
    Lane.Near M b (Lane.flushLink l0 y1) := by
  delta Lane.flushLink
  exact Lane.near_ite h0 (by
    extract_lets -underBinder +onlyGivenNames x10
    clear_value x10
    exact Lane.near_foldl (fun _ _ q11 g11 => Lane.putFrame_near (tr m rfl) g11) (Lane.onLinkEnd_near (tr m rfl) h0))

theorem Lane.flushLinks_near {M : Nat} {b : Lane} {l0 : Lane} (m : sub 0x8000000000000001000000000000000000000000000000000000000000000000000000000000000000000000000000000 M = true) (h0 : Lane.Near M b l0) :
    Lane.Near M b (Lane.flushLinks l0) := by
  delta Lane.flushLinks
  exact Lane.flushLink_near (tr m rfl) (Lane.flushLink_near (tr m rfl) h0)

theorem Lane.sendFrame_near {M : Nat} {b : Lane} {l0 : Lane} {y1} {y2} (m : sub 0x8000000000000001000000000000000000000000000000000000000000000000000000000000000000000000000000000 M = true) (h0 : Lane.Near M b l0) :
    Lane.Near M b (Lane.sendFrame l0 y1 y2) := by
  delta Lane.sendFrame
  exact Lane.near_ite (Lane.flushLink_near (tr m rfl) (Lane.onLinkEnd_near (tr m rfl) h0)) h0

theorem Lane.sendHello_near {M : Nat} {b : Lane} {l0 : Lane} {y1} (m : sub 0x1000000000000000000000000000000000000000000000000000000000000000000000000000000000 M = true) (h0 : Lane.Near M b l0) :
    Lane.Near M b (Lane.sendHello l0 y1) := by
  delta Lane.sendHello
  exact Lane.near_ite (Lane.emitFrame_near (tr m rfl) h0) h0

theorem Lane.sendHellos_near {M : Nat} {b : Lane} {l0 : Lane} (m : sub 0x1000000000000000000000000000000000000000000000000000000000000000000000000000000000 M = true) (h0 : Lane.Near M b l0) :
    Lane.Near M b (Lane.sendHellos l0) := by
  delta Lane.sendHellos
  exact Lane.sendHello_near (tr m rfl) (Lane.sendHello_near (tr m rfl) h0)

theorem Lane.sendBoth_near {M : Nat} {b : Lane} {l0 : Lane} {y1} (m : sub 0x8000000000000001000000000000000000000000000000000000000000000000000000000000000000000000000000000 M = true) (h0 : Lane.Near M b l0) :
    Lane.Near M b (Lane.sendBoth l0 y1) := by
  delta Lane.sendBoth
  exact Lane.sendFrame_near (tr m rfl) (Lane.sendFrame_near (tr m rfl) h0)

theorem Lane.sendTo_near {M : Nat} {b : Lane} {l0 : Lane} {y1} {y2} (m : sub 0x8000000000000001000000000000000000000000000000000000000000000000000000000000000000000000000000000 M = true) (h0 : Lane.Near M b l0) :
    Lane.Near M b (Lane.sendTo l0 y1 y2) := by
  delta Lane.sendTo
  exact Lane.near_ite (Lane.sendFrame_near (tr m rfl) h0) (Lane.near_ite (Lane.sendFrame_near (tr m rfl) h0) h0)

theorem Lane.loseLink_near {M : Nat} {b : Lane} {l0 : Lane} {y1} (m : sub 0x8000000000000000000000000000000000000000000000000000000000000000000000000000000000600000000000000 M = true) (h0 : Lane.Near M b l0) :
    Lane.Near M b (Lane.loseLink l0 y1) := by
  delta Lane.loseLink
  extract_lets -underBinder +onlyGivenNames x10
  clear_value x10
  extract_lets -underBinder +onlyGivenNames x11
  have h11 : Lane.Near M b x11 := Lane.onLinkEnd_near (tr m rfl) h0
  clear_value x11
  exact Lane.setLink_near (tr m rfl) (Lane.raise_near (inEvt ev_WG_EVT (tb m rfl)) rfl h11)

theorem Lane.aliveLink_near {M : Nat} {b : Lane} {l0 : Lane} {y1} (m : sub 0x8000000000000000000000000000000000000000000000000000000000000000000000000000000000200000000000000 M = true) (h0 : Lane.Near M b l0) :
    Lane.Near M b (Lane.aliveLink l0 y1) := by
  delta Lane.aliveLink
  extract_lets -underBinder +onlyGivenNames x10
  have h10 : Lane.Near M b x10 := Lane.onLinkEnd_near (tr m rfl) h0
  clear_value x10
  exact Lane.near_ite (by
    extract_lets -underBinder +onlyGivenNames x11
    clear_value x11
    extract_lets -underBinder +onlyGivenNames x12
    have h12 : Lane.Near M b x12 := Lane.onLinkEnd_near (tr m rfl) h10
    clear_value x12
    exact Lane.near_ite (Lane.setLink_near (tr m rfl) h12) h12) h10

theorem Lane.validFrame_near {M : Nat} {b : Lane} {l0 : Lane} {y1} {y2} (m : sub 0x8000000000000000000000000000000000000000000000000000000000000000000000000000000000200000000000000 M = true) (h0 : Lane.Near M b l0) :
    Lane.Near M b (Lane.validFrame l0 y1 y2) := by
  delta Lane.validFrame
  extract_lets -underBinder +onlyGivenNames x10
  clear_value x10
  exact Lane.aliveLink_near (tr m rfl) (Lane.onLinkEnd_near (tr m rfl) h0)

theorem Lane.receive_near {M : Nat} {b : Lane} {l0 : Lane} {y1} {y2} {y3 : Lane → Lane} (m : sub 0x8000000000000000000000000000000000000000000000000000000000000000000000000000000000200000000000000 M = true) (h0 : Lane.Near M b l0) (h3 : ∀ l, Lane.Near M b l → Lane.Near M b (y3 l)) :
    Lane.Near M b (Lane.receive l0 y1 y2 y3) := by
  delta Lane.receive
  exact Lane.near_ite h0 (by
    extract_lets -underBinder +onlyGivenNames x10
    have h10 : Lane.Near M b x10 := Lane.validFrame_near (tr m rfl) h0
    clear_value x10
    exact Lane.near_ite (h3 _ (Lane.onLinkEnd_near (tr m rfl) h10)) h10)

theorem Lane.resend_near {M : Nat} {b : Lane} {l0 : Lane} {y1} (m : sub 0x8000000000000001000000000000000000000000000000000000000000000000000000000000000000600000000000000 M = true) (h0 : Lane.Near M b l0) :
    Lane.Near M b (Lane.resend l0 y1) := by
  delta Lane.resend
  extract_lets -underBinder +onlyGivenNames x10 x11
  clear_value x10 x11
  exact Lane.near_ite (Lane.loseLink_near (tr m rfl) h0) (Lane.near_ite h0 (by
    extract_lets -underBinder +onlyGivenNames x12
    clear_value x12
    exact Lane.near_foldl (fun _ _ q13 g13 => Lane.emitFrame_near (tr m rfl) g13) (Lane.onLinkEnd_near (tr m rfl) h0)))

theorem Lane.spoiledFrame_near {M : Nat} {b : Lane} {l0 : Lane} {y1} (m : sub 0x8000000000000000000000000000000000000000000000000000000000000000000000000000000006600000000000000 M = true) (h0 : Lane.Near M b l0) :
    Lane.Near M b (Lane.spoiledFrame l0 y1) := by
  delta Lane.spoiledFrame
  extract_lets -underBinder +onlyGivenNames x10
  have h10 : Lane.Near M b x10 := Lane.bump_near (put_ite (inReg at_WG_P1CNT (tb m rfl)) (inReg at_WG_P2CNT (tb m rfl))) h0
  clear_value x10
  extract_lets -underBinder +onlyGivenNames x11
  have h11 : Lane.Near M b x11 := Lane.onLinkEnd_near (tr m rfl) h10
  clear_value x11
  exact Lane.near_ite (Lane.loseLink_near (tr m rfl) h11) h11

theorem Lane.trainLink_near {M : Nat} {b : Lane} {l0 : Lane} {y1} {y2} (m : sub 0x8000000000000001000000000000000000000000000000000000000000000000000000000000000000200000000000000 M = true) (h0 : Lane.Near M b l0) :
    Lane.Near M b (Lane.trainLink l0 y1 y2) := by
  delta Lane.trainLink
  exact Lane.near_ite h0 (by
    extract_lets -underBinder +onlyGivenNames x10
    clear_value x10
    extract_lets -underBinder +onlyGivenNames x11
    have h11 : Lane.Near M b x11 := Lane.onLinkEnd_near (tr m rfl) (Lane.validFrame_near (tr m rfl) h0)
    clear_value x11
    extract_lets -underBinder +onlyGivenNames x12
    have h12 : Lane.Near M b x12 := Lane.near_ite (Lane.onLinkEnd_near (tr m rfl) (Lane.setLink_near (tr m rfl) h11)) h11
    clear_value x12
    exact Lane.sendHello_near (tr m rfl) h12)

theorem Lane.setPref_near {M : Nat} {b : Lane} {l0 : Lane} {y1} {y2} (m : sub 0xc000000000000000000000000000000000000000000000000 M = true) (h0 : Lane.Near M b l0) :
    Lane.Near M b (Lane.setPref l0 y1 y2) := by
  delta Lane.setPref
  exact Lane.put_near (inReg (at_LE_PREF_LO (Fin.isLt _)) (tb m rfl)) (Lane.put_near (inReg (at_LE_PREF_HI (Fin.isLt _)) (tb m rfl)) h0)

theorem Lane.holdMeasured_near {M : Nat} {b : Lane} {l0 : Lane} {y1} (m : sub 0xc000000000000000000000000000000000000000000000000 M = true) (h0 : Lane.Near M b l0) :
    Lane.Near M b (Lane.holdMeasured l0 y1) := by
  delta Lane.holdMeasured
  split
  · exact Lane.setPref_near (tr m rfl) h0
  · exact Lane.setPref_near (tr m rfl) h0
  · exact Lane.setPref_near (tr m rfl) h0
  · exact h0

theorem Lane.setHoldForce_near {M : Nat} {b : Lane} {l0 : Lane} {y1} (m : sub 0xc000000000000000000000000000000000000000000000000 M = true) (h0 : Lane.Near M b l0) :
    Lane.Near M b (Lane.setHoldForce l0 y1) := by
  delta Lane.setHoldForce
  split
  · exact Lane.near_ite (Lane.setPref_near (tr m rfl) h0) h0
  · exact h0

theorem Lane.event_near {M : Nat} {b : Lane} {l0 : Lane} {y1} (m : sub 0x20000000000000000000000000000000000000000000000000000000000000000000000000000000000000000000000000000000000000000000 M = true) (h0 : Lane.Near M b l0) :
    Lane.Near M b (Lane.event l0 y1) := by
  delta Lane.event
  exact Lane.onCall_near (f := _) (CallState.Near.mk kp kp (ch m rfl) kp kp) h0

theorem Lane.showKf_near {M : Nat} {b : Lane} {l0 : Lane} {y1} (m : sub 0x2000000000000000000000000000000000000000000000000000000000000000000000000 M = true) (h0 : Lane.Near M b l0) :
    Lane.Near M b (Lane.showKf l0 y1) := by
  delta Lane.showKf
  extract_lets -underBinder +onlyGivenNames x10
  clear_value x10
  exact Lane.putBit_near (inReg at_SF_KOSTAT (tb m rfl)) h0

theorem Lane.koOne_near {M : Nat} {b : Lane} {l0 : Lane} {y1} (m : sub 0x8000000000000000000000000000000000001000000002000000000000000000000000000000000000000000000000000000000000000000000000 M = true) (h0 : Lane.Near M b l0) :
    Lane.Near M b (Lane.koOne l0 y1) := by
  delta Lane.koOne
  extract_lets -underBinder +onlyGivenNames x10
  clear_value x10
  exact Lane.near_ite h0 (by
    extract_lets -underBinder +onlyGivenNames x11
    have h11 : Lane.Near M b x11 := Lane.onSafety_near (f := _) (SafetyState.Near.mk kp kp kp kp kp kp kp (ch m rfl) kp) (Lane.putBit_near (inReg at_SF_KOSTAT (tb m rfl)) h0)
    clear_value x11
    exact Lane.send_near (tb m rfl) (Lane.showKf_near (tr m rfl) (Lane.putBit_near (inReg at_SF_KOSTAT (tb m rfl)) h11)))

theorem Lane.koSettle_near {M : Nat} {b : Lane} {l0 : Lane} (m : sub 0x8000000000000000000000000000000000001000000002000000000000000000000000000000000000000000000000000000000000000000000000 M = true) (h0 : Lane.Near M b l0) :
    Lane.Near M b (Lane.koSettle l0) := by
  delta Lane.koSettle
  exact Lane.koOne_near (tr m rfl) (Lane.koOne_near (tr m rfl) (Lane.koOne_near (tr m rfl) (Lane.koOne_near (tr m rfl) h0)))

theorem Lane.moveCore_near {M : Nat} {b : Lane} {l0 : Lane} {y1} (m : sub 0x380000000000000000000000000000000000000000000000000000000000000000000000000000000000000 M = true) (h0 : Lane.Near M b l0) :
    Lane.Near M b (Lane.moveCore l0 y1) := by
  delta Lane.moveCore
  exact Lane.onPower_near (f := _) (PowerState.Near.mk kp kp kp kp kp kp (ch m rfl) (ch m rfl) (ch m rfl) kp kp kp kp kp kp kp kp kp kp kp kp kp kp kp kp) h0

theorem Lane.raiseCore_near {M : Nat} {b : Lane} {l0 : Lane} (m : sub 0x380000000000000000000000000000000000000000000000000000000000000000000000000000000000000 M = true) (h0 : Lane.Near M b l0) :
    Lane.Near M b (Lane.raiseCore l0) := by
  delta Lane.raiseCore
  exact Lane.moveCore_near (tr m rfl) h0

theorem Lane.restCore_near {M : Nat} {b : Lane} {l0 : Lane} (m : sub 0x380000000000000000000000000000000000000000000000000000000000000000000000000000000000000 M = true) (h0 : Lane.Near M b l0) :
    Lane.Near M b (Lane.restCore l0) := by
  delta Lane.restCore
  split
  · exact Lane.moveCore_near (tr m rfl) h0
  · exact Lane.moveCore_near (tr m rfl) h0
  · exact Lane.moveCore_near (tr m rfl) h0
  · exact Lane.raiseCore_near (tr m rfl) h0

theorem Lane.startPrecharge_near {M : Nat} {b : Lane} {l0 : Lane} {y1} (m : sub 0x800000000000000000000000000000000380350000000000000000000000000000000000000000000000000a00000000000000000000000000000000 M = true) (h0 : Lane.Near M b l0) :
    Lane.Near M b (Lane.startPrecharge l0 y1) := by
  delta Lane.startPrecharge
  extract_lets -underBinder +onlyGivenNames x10
  have h10 : Lane.Near M b x10 := Lane.raiseCore_near (tr m rfl) h0
  clear_value x10
  exact Lane.near_ite (Lane.settle_near (tr m rfl) (Lane.onAx_near (f := _) (AxisState.Near.mk kp kp (ch m rfl) kp (ch m rfl) kp kp kp kp) h10)) (Lane.onMode_near (f := _) (ModeState.Near.mk kp kp kp kp kp kp (ch m rfl) kp kp kp) h10)

theorem Lane.judgeAngle_near {M : Nat} {b : Lane} {l0 : Lane} {y1} (m : sub 0x650000000000000000000000000000000000000000000000000a00000000060000000000000000000000 M = true) (h0 : Lane.Near M b l0) :
    Lane.Near M b (Lane.judgeAngle l0 y1) := by
  delta Lane.judgeAngle
  exact Lane.near_ite h0 (Lane.near_ite (Lane.substitute_near (tr m rfl) h0) (Lane.setOff_near (tr m rfl) h0))

theorem Lane.enableAxis_near {M : Nat} {b : Lane} {l0 : Lane} {y1} (m : sub 0x80000000000000000000000030c000000380750000000000000000000000000000000050000000000000000a000000000f0000000000000000000000 M = true) (h0 : Lane.Near M b l0) :
    Lane.Near M b (Lane.enableAxis l0 y1) := by
  delta Lane.enableAxis
  extract_lets -underBinder +onlyGivenNames x10
  have h10 : Lane.Near M b x10 := Lane.when_near h0 (fun _ g11 => Lane.drop_near (inReg (at_DC_CNT (Fin.isLt _)) (tb m rfl)) (Lane.drop_near (inReg (at_DC_CNT (Fin.isLt _)) (tb m rfl)) (Lane.drop_near (inReg (at_DC_CNT (Fin.isLt _)) (tb m rfl)) g11)))
  clear_value x10
  extract_lets -underBinder +onlyGivenNames x12
  have h12 : Lane.Near M b x12 := Lane.judgeAngle_near (tr m rfl) (Lane.raise_near (inReg (at_DC_CTRL (Fin.isLt _)) (tb m rfl)).1 rfl h10)
  clear_value x12
  extract_lets -underBinder +onlyGivenNames x13
  have h13 : Lane.Near M b x13 := Lane.drop_near (inReg (at_LE_WREF (Fin.isLt _)) (tb m rfl)) h12
  clear_value x13
  extract_lets -underBinder +onlyGivenNames x14
  have h14 : Lane.Near M b x14 := Lane.onLp_near (f := _) (LoopState.Near.mk kp (ch m rfl) (ch m rfl) kp kp kp kp (ch m rfl) (ch m rfl) kp kp kp kp kp) h13
  clear_value x14
  extract_lets -underBinder +onlyGivenNames x15
  have h15 : Lane.Near M b x15 := Lane.drop_near (inReg (at_LE_INT (Fin.isLt _)) (tb m rfl)) (Lane.drop_near (inReg (at_LE_INT (Fin.isLt _)) (tb m rfl)) h14)
  clear_value x15
  exact Lane.near_ite (Lane.startPrecharge_near (tr m rfl) h15) (Lane.settle_near (tr m rfl) h15)

theorem Lane.disableAxis_near {M : Nat} {b : Lane} {l0 : Lane} {y1} (m : sub 0x750000000000000000000000000000000000000020000000000a00008000030000000000000000000000 M = true) (h0 : Lane.Near M b l0) :
    Lane.Near M b (Lane.disableAxis l0 y1) := by
  delta Lane.disableAxis
  extract_lets -underBinder +onlyGivenNames x10
  have h10 : Lane.Near M b x10 := Lane.drop_near (inReg (at_DC_CTRL (Fin.isLt _)) (tb m rfl)) h0
  clear_value x10
  extract_lets -underBinder +onlyGivenNames x11
  have h11 : Lane.Near M b x11 := Lane.put_near (inReg (at_LE_STAT (Fin.isLt _)) (tb m rfl)) h10
  clear_value x11
  exact Lane.abandon_near (tr m rfl) h11

theorem Lane.parkAxis_near {M : Nat} {b : Lane} {l0 : Lane} {y1} (m : sub 0x750000000000000000000000000000000000000020000000000a00008000020000000000000000000000 M = true) (h0 : Lane.Near M b l0) :
    Lane.Near M b (Lane.parkAxis l0 y1) := by
  delta Lane.parkAxis
  exact Lane.abandon_near (tr m rfl) (Lane.put_near (inReg (at_LE_STAT (Fin.isLt _)) (tb m rfl)) h0)

theorem Lane.setPeerState_near {M : Nat} {b : Lane} {l0 : Lane} {y1} {y2} (m : sub 0x200000000000000 M = true) (h0 : Lane.Near M b l0) :
    Lane.Near M b (Lane.setPeerState l0 y1 y2) := by
  delta Lane.setPeerState
  exact Lane.near_ite (Lane.put_near (inReg at_WG_STAT (tb m rfl)) h0) (Lane.put_near (inReg at_WG_STAT (tb m rfl)) h0)

theorem Lane.countLive_near {M : Nat} {b : Lane} {l0 : Lane} (m : sub 0x4 M = true) (h0 : Lane.Near M b l0) :
    Lane.Near M b (Lane.countLive l0) := by
  delta Lane.countLive
  exact Lane.put_near (inReg at_LC_STATE (tb m rfl)) h0

theorem Lane.propose_near {M : Nat} {b : Lane} {l0 : Lane} {y1} (m : sub 0x80000000000000000000000000000000000000000000000000000000000000000000000000000000000000000000000000000 M = true) (h0 : Lane.Near M b l0) :
    Lane.Near M b (Lane.propose l0 y1) := by
  delta Lane.propose
  exact Lane.onWing_near (f := _) (WingState.Near.mk kp kp kp kp kp kp kp kp kp kp kp kp kp kp kp kp (ch m rfl) kp kp kp kp kp kp kp kp kp kp kp kp kp kp kp kp kp kp kp kp kp kp kp kp kp kp kp kp kp kp kp kp kp kp kp kp) h0

theorem Lane.dropSpotlight_near {M : Nat} {b : Lane} {l0 : Lane} (m : sub 0x20bb5e00000000000000000000000000000103b10000000000014000000000000000000000000000000000000000000000000000000000000000 M = true) (h0 : Lane.Near M b l0) :
    Lane.Near M b (Lane.dropSpotlight l0) := by
  delta Lane.dropSpotlight
  extract_lets -underBinder +onlyGivenNames x10
  have h10 : Lane.Near M b x10 := Lane.when_near h0 (fun _ g11 => Lane.event_near (tr m rfl) g11)
  clear_value x10
  extract_lets -underBinder +onlyGivenNames x12
  have h12 : Lane.Near M b x12 := Lane.drop_near (inReg at_HS_SPOT (tb m rfl)) (Lane.drop_near (inReg at_HS_SPOT (tb m rfl)) (Lane.drop_near (inReg at_HS_SPOT (tb m rfl)) (Lane.drop_near (inReg at_HS_SPOT (tb m rfl)) h10)))
  clear_value x12
  extract_lets -underBinder +onlyGivenNames x13
  have h13 : Lane.Near M b x13 := Lane.drop_near (inReg at_HS_SPOT (tb m rfl)) (Lane.drop_near (inReg at_HS_SPOT (tb m rfl)) (Lane.drop_near (inReg at_HS_SPOT (tb m rfl)) (Lane.drop_near (inReg at_HS_SPOT (tb m rfl)) h12)))
  clear_value x13
  extract_lets -underBinder +onlyGivenNames x14
  have h14 : Lane.Near M b x14 := Lane.near_foldl (fun _ _ q15 g15 => Lane.answer_near (tr m rfl) g15) h13
  clear_value x14
  exact Lane.onSeats_near (f := _) (SeatState.Near.mk kp kp kp kp kp kp kp kp (ch m rfl) (ch m rfl) kp (ch m rfl) (ch m rfl) (ch m rfl) kp (ch m rfl) kp kp kp) h14

theorem Lane.completeAll_near {M : Nat} {b : Lane} {l0 : Lane} (m : sub 0x8000000000000000000000000000000000000000000000200000000000000000000000000000000000000000000000000000000000000000000 M = true) (h0 : Lane.Near M b l0) :
    Lane.Near M b (Lane.completeAll l0) := by
  delta Lane.completeAll
  extract_lets -underBinder +onlyGivenNames x10
  have h10 : Lane.Near M b x10 := Lane.near_foldl (fun _ _ q11 g11 => Lane.setWord_near (inReg (at_CB_ACT (List.mem_range.1 q11)) (tb m rfl)) g11) h0
  clear_value x10
  exact Lane.onCall_near (f := _) (CallState.Near.mk (ch m rfl) kp kp kp kp) h10

theorem Lane.leadSelf_near {M : Nat} {b : Lane} {l0 : Lane} (m : sub 0x180400000000000000000000000000000000020000000000000000000000000000000000000000000000000020200000000000004 M = true) (h0 : Lane.Near M b l0) :
    Lane.Near M b (Lane.leadSelf l0) := by
  delta Lane.leadSelf
  extract_lets -underBinder +onlyGivenNames x10
  have h10 : Lane.Near M b x10 := Lane.put_near (inReg at_WG_STAT (tb m rfl)) (Lane.raise_near (inReg at_CB_STAT (tb m rfl)).1 rfl (Lane.raise_near (inReg at_LC_STATE (tb m rfl)).1 rfl h0))
  clear_value x10
  exact Lane.onWing_near (f := _) (WingState.Near.mk kp kp kp kp kp kp kp kp kp kp kp kp kp kp kp kp kp kp kp (ch m rfl) kp kp kp kp kp kp kp kp (ch m rfl) (ch m rfl) kp kp kp kp kp kp kp kp kp kp kp kp kp kp kp kp kp kp kp kp kp kp kp) (Lane.put_near (inReg at_WG_LEAD (tb m rfl)) (Lane.drop_near (inReg at_WG_STAT (tb m rfl)) h10))

theorem Lane.takeToken_near {M : Nat} {b : Lane} {l0 : Lane} (m : sub 0x20000000000180400000000000000000000000000000000020000000000000000000000000000000000000000000000000020600000000000004 M = true) (h0 : Lane.Near M b l0) :
    Lane.Near M b (Lane.takeToken l0) := by
  delta Lane.takeToken
  exact Lane.event_near (tr m rfl) (Lane.raise_near (inEvt ev_WG_EVT (tb m rfl)) rfl (Lane.leadSelf_near (tr m rfl) h0))

theorem Lane.holdToken_near {M : Nat} {b : Lane} {l0 : Lane} (m : sub 0x20000000000180400000000000000000000000000000000020000000000000000000000000000000000000000000000000020600000000000004 M = true) (h0 : Lane.Near M b l0) :
    Lane.Near M b (Lane.holdToken l0) := by
  delta Lane.holdToken
  exact Lane.near_ite h0 (Lane.takeToken_near (tr m rfl) h0)

theorem Lane.ensureEnabled_near {M : Nat} {b : Lane} {l0 : Lane} {y1} (m : sub 0x80000000000000000000000030c000000380750000000000000000000000000000000050000000000000000a000000000f0000000000000000000000 M = true) (h0 : Lane.Near M b l0) :
    Lane.Near M b (Lane.ensureEnabled l0 y1) := by
  delta Lane.ensureEnabled
  exact Lane.near_ite h0 (Lane.enableAxis_near (tr m rfl) h0)

theorem Lane.takeMode_near {M : Nat} {b : Lane} {l0 : Lane} {y1} (m : sub 0x2000020000020000000380000000000000380000000000000000000000000000000000000000000000000000000000000000000000000000000800004 M = true) (h0 : Lane.Near M b l0) :
    Lane.Near M b (Lane.takeMode l0 y1) := by
  delta Lane.takeMode
  extract_lets -underBinder +onlyGivenNames x10
  have h10 : Lane.Near M b x10 := Lane.when_near h0 (fun _ g11 => Lane.onMode_near (f := _) (ModeState.Near.mk kp kp kp kp kp kp kp kp (ch m rfl) kp) g11)
  clear_value x10
  extract_lets -underBinder +onlyGivenNames x12
  have h12 : Lane.Near M b x12 := Lane.onWing_near (f := _) (WingState.Near.mk kp kp kp kp kp kp kp kp kp kp kp kp kp kp kp kp (ch m rfl) (ch m rfl) (ch m rfl) kp kp kp kp kp kp kp kp kp kp kp kp kp kp kp kp kp kp kp kp kp kp kp kp kp kp kp kp kp kp kp (ch m rfl) kp kp) (Lane.setMode_near (tr m rfl) h10)
  clear_value x12
  extract_lets -underBinder +onlyGivenNames x13
  have h13 : Lane.Near M b x13 := Lane.put_near (inReg at_BX_PCAP (tb m rfl)) h12
  clear_value x13
  extract_lets -underBinder +onlyGivenNames x14
  have h14 : Lane.Near M b x14 := Lane.restCore_near (tr m rfl) (Lane.put_near (inReg at_BX_PCAP (tb m rfl)) h13)
  clear_value x14
  exact Lane.when_near (Lane.when_near (Lane.when_near (Lane.event_near (tr m rfl) h14) (fun _ g15 => Lane.event_near (tr m rfl) g15)) (fun _ g16 => Lane.event_near (tr m rfl) g16)) (fun _ g17 => Lane.event_near (tr m rfl) g17)

theorem Lane.enterGhost_near {M : Nat} {b : Lane} {l0 : Lane} (m : sub 0x380000002cc8028bb5e2000018078000030c000000380751103b1000200022001400000000000005c000020000000000a000080000f0006020600000000800004 M = true) (h0 : Lane.Near M b l0) :
    Lane.Near M b (Lane.enterGhost l0) := by
  delta Lane.enterGhost
  exact Lane.near_ite h0 (by
    extract_lets -underBinder +onlyGivenNames x10
    clear_value x10
    extract_lets -underBinder +onlyGivenNames x11
    have h11 : Lane.Near M b x11 := Lane.voidSteps_near (tr m rfl) (Lane.dropSpotlight_near (tr m rfl) (Lane.takeMode_near (tr m rfl) h0))
    clear_value x11
    extract_lets -underBinder +onlyGivenNames x12
    have h12 : Lane.Near M b x12 := Lane.onMode_near (f := _) (ModeState.Near.mk kp (ch m rfl) (ch m rfl) kp kp (ch m rfl) kp kp kp kp) h11
    clear_value x12
    extract_lets -underBinder +onlyGivenNames x13
    have h13 : Lane.Near M b x13 := Lane.when_near h12 (fun _ g14 => Lane.holdToken_near (tr m rfl) (Lane.completeAll_near (tr m rfl) g14))
    clear_value x13
    extract_lets -underBinder +onlyGivenNames x15
    have h15 : Lane.Near M b x15 := Lane.allAxes_near h13 (fun _ _ g16 => by
    split
    · exact Lane.disableAxis_near (tr m rfl) g16
    · exact Lane.ensureEnabled_near (tr m rfl) (Lane.when_near g16 (fun _ g17 => Lane.holdMeasured_near (tr m rfl) g17))
    · exact Lane.ensureEnabled_near (tr m rfl) (Lane.setPref_near (tr m rfl) g16)
    · exact Lane.ensureEnabled_near (tr m rfl) (Lane.when_near g16 (fun _ g18 => Lane.setHoldForce_near (tr m rfl) g18)))
    clear_value x15
    exact Lane.koSettle_near (tr m rfl) (Lane.put_near (inReg at_BI_STAT (tb m rfl)) h15))

theorem Lane.enterCurtain_near {M : Nat} {b : Lane} {l0 : Lane} (m : sub 0x2cc8020bb5e2000000038000030c000000380751103b1000200000001400000000000005c000020000000000a000080000f0002000000000000800004 M = true) (h0 : Lane.Near M b l0) :
    Lane.Near M b (Lane.enterCurtain l0) := by
  delta Lane.enterCurtain
  extract_lets -underBinder +onlyGivenNames x10
  have h10 : Lane.Near M b x10 := Lane.dropSpotlight_near (tr m rfl) (Lane.takeMode_near (tr m rfl) h0)
  clear_value x10
  extract_lets -underBinder +onlyGivenNames x11
  have h11 : Lane.Near M b x11 := Lane.onMode_near (f := _) (ModeState.Near.mk kp (ch m rfl) (ch m rfl) kp kp (ch m rfl) kp kp kp kp) h10
  clear_value x11
  extract_lets -underBinder +onlyGivenNames x12
  have h12 : Lane.Near M b x12 := Lane.allAxes_near h11 (fun _ _ g13 => Lane.near_ite (Lane.ensureEnabled_near (tr m rfl) (Lane.setHoldForce_near (tr m rfl) g13)) (Lane.disableAxis_near (tr m rfl) g13))
  clear_value x12
  exact Lane.koSettle_near (tr m rfl) (Lane.put_near (inReg at_BI_STAT (tb m rfl)) h12)

theorem Lane.enterHold_near {M : Nat} {b : Lane} {l0 : Lane} (m : sub 0x24c8020000020000000380000000000000380751000000002000000000000000000000000000020000000000a00008000020002000000000000800004 M = true) (h0 : Lane.Near M b l0) :
    Lane.Near M b (Lane.enterHold l0) := by
  delta Lane.enterHold
  extract_lets -underBinder +onlyGivenNames x10
  have h10 : Lane.Near M b x10 := Lane.takeMode_near (tr m rfl) h0
  clear_value x10
  extract_lets -underBinder +onlyGivenNames x11
  have h11 : Lane.Near M b x11 := Lane.onMode_near (f := _) (ModeState.Near.mk kp (ch m rfl) (ch m rfl) kp kp (ch m rfl) kp kp kp kp) h10
  clear_value x11
  extract_lets -underBinder +onlyGivenNames x12
  have h12 : Lane.Near M b x12 := Lane.allAxes_near h11 (fun _ _ g13 => Lane.parkAxis_near (tr m rfl) g13)
  clear_value x12
  exact Lane.koSettle_near (tr m rfl) (Lane.restCore_near (tr m rfl) (Lane.put_near (inReg at_BI_STAT (tb m rfl)) h12))

theorem Lane.enterArmedByArm_near {M : Nat} {b : Lane} {l0 : Lane} (m : sub 0x280802000002000000038000030c00000038075100000000200000000000000000000005c000000000000000a000000000f0000000000000000800004 M = true) (h0 : Lane.Near M b l0) :
    Lane.Near M b (Lane.enterArmedByArm l0) := by
  delta Lane.enterArmedByArm
  extract_lets -underBinder +onlyGivenNames x10
  have h10 : Lane.Near M b x10 := Lane.takeMode_near (tr m rfl) h0
  clear_value x10
  extract_lets -underBinder +onlyGivenNames x11
  have h11 : Lane.Near M b x11 := Lane.allAxes_near h10 (fun _ _ g12 => Lane.near_ite (Lane.enableAxis_near (tr m rfl) (Lane.near_ite (Lane.setHoldForce_near (tr m rfl) g12) (Lane.holdMeasured_near (tr m rfl) g12))) g12)
  clear_value x11
  exact Lane.koSettle_near (tr m rfl) h11

theorem Lane.endDefault_near {M : Nat} {b : Lane} {l0 : Lane} (m : sub 0xc000000000000000000000000000000000000000001000000000000000000000000000c000000000000000000000000000000000000000000000000 M = true) (h0 : Lane.Near M b l0) :
    Lane.Near M b (Lane.endDefault l0) := by
  delta Lane.endDefault
  extract_lets -underBinder +onlyGivenNames x10
  have h10 : Lane.Near M b x10 := Lane.drop_near (inReg at_HS_SPOT (tb m rfl)) (Lane.onMode_near (f := _) (ModeState.Near.mk kp (ch m rfl) (ch m rfl) kp kp kp kp kp kp kp) h0)
  clear_value x10
  exact Lane.allAxes_near h10 (fun _ _ g11 => Lane.setHoldForce_near (tr m rfl) g11)

theorem Lane.enterWorkshop_near {M : Nat} {b : Lane} {l0 : Lane} (m : sub 0x24c8020000020000000380000000000000380751000000002000000000000000000000000000020000000000a00008000030002000000000000800004 M = true) (h0 : Lane.Near M b l0) :
    Lane.Near M b (Lane.enterWorkshop l0) := by
  delta Lane.enterWorkshop
  extract_lets -underBinder +onlyGivenNames x10
  have h10 : Lane.Near M b x10 := Lane.takeMode_near (tr m rfl) h0
  clear_value x10
  extract_lets -underBinder +onlyGivenNames x11
  have h11 : Lane.Near M b x11 := Lane.onMode_near (f := _) (ModeState.Near.mk kp (ch m rfl) (ch m rfl) kp kp (ch m rfl) kp kp kp kp) h10
  clear_value x11
  extract_lets -underBinder +onlyGivenNames x12
  have h12 : Lane.Near M b x12 := Lane.allAxes_near h11 (fun _ _ g13 => Lane.disableAxis_near (tr m rfl) g13)
  clear_value x12
  exact Lane.koSettle_near (tr m rfl) (Lane.restCore_near (tr m rfl) (Lane.put_near (inReg at_BI_STAT (tb m rfl)) h12))

theorem Lane.enterDegraded_near {M : Nat} {b : Lane} {l0 : Lane} (m : sub 0x2408020000020000000380000000000000380751000000002000000000000000000000000000020000000000a00008000030000000000000000800004 M = true) (h0 : Lane.Near M b l0) :
    Lane.Near M b (Lane.enterDegraded l0) := by
  delta Lane.enterDegraded
  extract_lets -underBinder +onlyGivenNames x10
  clear_value x10
  extract_lets -underBinder +onlyGivenNames x11
  have h11 : Lane.Near M b x11 := Lane.takeMode_near (tr m rfl) h0
  clear_value x11
  extract_lets -underBinder +onlyGivenNames x12
  have h12 : Lane.Near M b x12 := Lane.when_near h11 (fun _ g13 => Lane.allAxes_near (Lane.onMode_near (f := _) (ModeState.Near.mk kp kp kp kp kp (ch m rfl) kp kp kp kp) g13) (fun _ _ g14 => Lane.parkAxis_near (tr m rfl) g14))
  clear_value x12
  extract_lets -underBinder +onlyGivenNames x15
  have h15 : Lane.Near M b x15 := Lane.when_near h12 (fun _ g16 => Lane.allAxes_near g16 (fun _ _ g17 => Lane.disableAxis_near (tr m rfl) g17))
  clear_value x15
  exact Lane.koSettle_near (tr m rfl) h15

theorem Lane.enterMode_near {M : Nat} {b : Lane} {l0 : Lane} {y1} (m : sub 0x380000002cc8028bb5e2000018078000030c000000380751103b1000200022001400000000000005c000020000000000a000080000f0006020600000000800004 M = true) (h0 : Lane.Near M b l0) :
    Lane.Near M b (Lane.enterMode l0 y1) := by
  delta Lane.enterMode
  split
  · exact Lane.enterHold_near (tr m rfl) h0
  · exact Lane.near_ite (Lane.enterArmedByArm_near (tr m rfl) h0) (Lane.koSettle_near (tr m rfl) (Lane.endDefault_near (tr m rfl) (Lane.takeMode_near (tr m rfl) h0)))
  · exact Lane.koSettle_near (tr m rfl) (Lane.takeMode_near (tr m rfl) h0)
  · exact Lane.enterDegraded_near (tr m rfl) h0
  · exact Lane.enterGhost_near (tr m rfl) h0
  · exact Lane.enterCurtain_near (tr m rfl) h0
  · exact Lane.enterWorkshop_near (tr m rfl) h0
  · exact Lane.koSettle_near (tr m rfl) (Lane.restCore_near (tr m rfl) (Lane.allAxes_near (Lane.takeMode_near (tr m rfl) h0) (fun _ _ g10 => Lane.parkAxis_near (tr m rfl) g10)))

theorem Lane.judgeSets_near {M : Nat} {b : Lane} {l0 : Lane} (m : sub 0x380000002cc8028bb5e2000018078000030c000000380751103b1000200022001400000000000005c000020000000000a000080000f0006020600000000800004 M = true) (h0 : Lane.Near M b l0) :
    Lane.Near M b (Lane.judgeSets l0) := by
  delta Lane.judgeSets
  exact Lane.near_ite (Lane.enterGhost_near (tr m rfl) h0) h0

theorem Lane.setOut_near {M : Nat} {b : Lane} {l0 : Lane} {y1} (m : sub 0x380000002cc8028bb5e2000018078000030c000000380751103b1000200022001400000000000005c000020000000000a000080000f0006020600000000800004 M = true) (h0 : Lane.Near M b l0) :
    Lane.Near M b (Lane.setOut l0 y1) := by
  delta Lane.setOut
  exact Lane.near_ite (Lane.judgeSets_near (tr m rfl) (Lane.setOff_near (tr m rfl) h0)) h0

theorem Lane.loseToken_near {M : Nat} {b : Lane} {l0 : Lane} (m : sub 0x620400000000000000000000000000000000020000000000000000000000000000000000000000000000000000600000000000004 M = true) (h0 : Lane.Near M b l0) :
    Lane.Near M b (Lane.loseToken l0) := by
  delta Lane.loseToken
  extract_lets -underBinder +onlyGivenNames x10
  have h10 : Lane.Near M b x10 := Lane.raise_near (inEvt ev_WG_EVT (tb m rfl)) rfl (Lane.drop_near (inReg at_CB_STAT (tb m rfl)) (Lane.drop_near (inReg at_LC_STATE (tb m rfl)) h0))
  clear_value x10
  extract_lets -underBinder +onlyGivenNames x11
  have h11 : Lane.Near M b x11 := by
    unfold x11
    split
    · exact Lane.put_near (inReg at_WG_STAT (tb m rfl)) h10
    · exact Lane.put_near (inReg at_WG_STAT (tb m rfl)) h10
  clear_value x11
  exact Lane.onWing_near (f := _) (WingState.Near.mk kp kp kp kp kp kp kp kp kp kp kp kp kp kp kp kp kp kp kp (ch m rfl) kp kp kp kp kp kp (ch m rfl) kp kp kp (ch m rfl) (ch m rfl) kp kp kp kp kp kp kp kp kp kp kp kp kp kp kp kp kp kp kp kp kp) h11

theorem Lane.leaveLead_near {M : Nat} {b : Lane} {l0 : Lane} (m : sub 0x720400008000000000000001000000000000020000000000000000000000000000000000000000000000000000600000000000004 M = true) (h0 : Lane.Near M b l0) :
    Lane.Near M b (Lane.leaveLead l0) := by
  delta Lane.leaveLead
  exact Lane.near_ite (by
    extract_lets -underBinder +onlyGivenNames x10
    have h10 : Lane.Near M b x10 := by
      unfold x10
      split
      · exact Lane.sendTo_near (tr m rfl) h0
      · exact h0
    clear_value x10
    exact Lane.loseToken_near (tr m rfl) h10) (Lane.onWing_near (f := _) (WingState.Near.mk kp kp kp kp kp kp kp kp kp kp kp kp kp kp kp kp kp kp kp kp kp kp kp kp kp kp kp kp kp (ch m rfl) kp kp kp kp kp kp kp kp kp kp kp kp kp kp kp kp kp kp kp kp kp kp kp) h0)

theorem Lane.startGuard_near {M : Nat} {b : Lane} {l0 : Lane} (m : sub 0x80800000000000000000000000000000000000000000000000000000000000000000000000000000000000020200000000000000 M = true) (h0 : Lane.Near M b l0) :
    Lane.Near M b (Lane.startGuard l0) := by
  delta Lane.startGuard
  exact Lane.near_ite h0 (by
    extract_lets -underBinder +onlyGivenNames x10
    clear_value x10
    extract_lets -underBinder +onlyGivenNames x11
    have h11 : Lane.Near M b x11 := Lane.put_near (inReg at_WG_STAT (tb m rfl)) (Lane.put_near (inReg at_WG_LEAD (tb m rfl)) (Lane.raise_near (inReg at_WG_STAT (tb m rfl)).1 rfl h0))
    clear_value x11
    exact Lane.onWing_near (f := _) (WingState.Near.mk kp kp kp kp kp kp kp kp kp kp kp kp kp kp kp kp kp kp kp kp (ch m rfl) kp kp kp kp kp kp kp (ch m rfl) kp kp kp kp kp kp kp kp kp kp kp kp kp kp kp kp kp kp kp kp kp kp kp kp) h11)

theorem Lane.startDrill_near {M : Nat} {b : Lane} {l0 : Lane} (m : sub 0x630400008000000000000001000000000000020000000000000000000000000000000000000000000000000800600000000000004 M = true) (h0 : Lane.Near M b l0) :
    Lane.Near M b (Lane.startDrill l0) := by
  delta Lane.startDrill
  split
  · extract_lets -underBinder +onlyGivenNames x10
    have h10 : Lane.Near M b x10 := Lane.put_near (inReg at_WG_DRILL (tb m rfl)) (Lane.sendTo_near (tr m rfl) h0)
    clear_value x10
    exact Lane.onWing_near (f := _) (WingState.Near.mk kp kp kp kp kp kp kp kp kp kp kp kp kp kp kp kp kp kp kp kp kp kp kp kp kp (ch m rfl) (ch m rfl) kp kp kp (ch m rfl) kp kp kp kp kp kp kp kp kp kp kp kp kp kp kp kp kp kp kp kp kp kp) h10
  · exact Lane.near_ite (Lane.loseToken_near (tr m rfl) h0) h0

theorem Lane.endDrill_near {M : Nat} {b : Lane} {l0 : Lane} (m : sub 0x6a0c00000000000000000000000000000000020000000000000000000000000000000000000000000000000820600000000000004 M = true) (h0 : Lane.Near M b l0) :
    Lane.Near M b (Lane.endDrill l0) := by
  delta Lane.endDrill
  exact Lane.near_ite h0 (Lane.near_ite (Lane.bump_near (inReg at_WG_DRILL (tb m rfl)) (Lane.raise_near (inEvt ev_WG_EVT (tb m rfl)) rfl (Lane.loseToken_near (tr m rfl) h0))) (Lane.near_ite (by
    extract_lets -underBinder +onlyGivenNames x10
    have h10 : Lane.Near M b x10 := Lane.drop_near (inReg at_LC_STATE (tb m rfl)) (Lane.raise_near (inEvt ev_WG_EVT (tb m rfl)) rfl (Lane.raise_near (inEvt ev_WG_EVT (tb m rfl)) rfl h0))
    clear_value x10
    exact Lane.startGuard_near (tr m rfl) (Lane.onWing_near (f := _) (WingState.Near.mk kp kp kp kp kp kp kp kp kp kp kp kp kp kp kp kp kp kp kp kp kp kp kp kp kp kp (ch m rfl) kp kp kp kp (ch m rfl) kp kp kp kp kp kp kp kp kp kp kp kp kp kp kp kp kp kp kp kp kp) (Lane.drop_near (inReg at_CB_STAT (tb m rfl)) h10))) (Lane.onWing_near (f := _) (WingState.Near.mk kp kp kp kp kp kp kp kp kp kp kp kp kp kp kp kp kp kp kp kp kp kp kp kp kp kp (ch m rfl) kp kp kp kp kp kp kp kp kp kp kp kp kp kp kp kp kp kp kp kp kp kp kp kp kp kp) (Lane.put_near (inReg at_WG_DRILL (tb m rfl)) (Lane.raise_near (inEvt ev_WG_EVT (tb m rfl)) rfl h0)))))

theorem Lane.showResyncs_near {M : Nat} {b : Lane} {l0 : Lane} (m : sub 0x400000000000000000 M = true) (h0 : Lane.Near M b l0) :
    Lane.Near M b (Lane.showResyncs l0) := by
  delta Lane.showResyncs
  exact Lane.put_near (inReg at_WG_RESYNC (tb m rfl)) h0

theorem Lane.laneOut_near {M : Nat} {b : Lane} {l0 : Lane} (m : sub 0x380000000848000001e00050720560008000000000000751103b00002000020014000000000000000000000000000000a00008000020004700600000000000004 M = true) (h0 : Lane.Near M b l0) :
    Lane.Near M b (Lane.laneOut l0) := by
  delta Lane.laneOut
  extract_lets -underBinder +onlyGivenNames x10
  have h10 : Lane.Near M b x10 := Lane.leaveLead_near (tr m rfl) h0
  clear_value x10
  extract_lets -underBinder +onlyGivenNames x11
  clear_value x11
  extract_lets -underBinder +onlyGivenNames x12
  have h12 : Lane.Near M b x12 := Lane.voidSteps_near (tr m rfl) (Lane.setLState_near (tr m rfl) h10)
  clear_value x12
  extract_lets -underBinder +onlyGivenNames x13
  have h13 : Lane.Near M b x13 := Lane.countLive_near (tr m rfl) (Lane.allAxes_near h12 (fun _ _ g14 => Lane.abandon_near (tr m rfl) g14))
  clear_value x13
  extract_lets -underBinder +onlyGivenNames x15
  clear_value x15
  extract_lets -underBinder +onlyGivenNames x16
  have h16 : Lane.Near M b x16 := Lane.near_foldl (fun _ _ q17 g17 => Lane.reply_near (tr m rfl) g17) h13
  clear_value x16
  extract_lets -underBinder +onlyGivenNames x18
  have h18 : Lane.Near M b x18 := Lane.addTo_near (inReg at_WG_CMDEXP (tb m rfl)) (Lane.when_near h16 (fun _ g19 => Lane.raise_near (inEvt ev_WG_EVT (tb m rfl)) rfl g19))
  clear_value x18
  extract_lets -underBinder +onlyGivenNames x20
  have h20 : Lane.Near M b x20 := Lane.onWing_near (f := _) (WingState.Near.mk kp kp kp kp kp kp kp kp kp kp kp kp kp kp (ch m rfl) (ch m rfl) kp (ch m rfl) kp kp kp kp kp kp kp kp kp kp kp kp kp kp kp kp kp kp kp (ch m rfl) kp (ch m rfl) kp kp kp kp kp kp kp kp kp kp kp kp kp) h18
  clear_value x20
  extract_lets -underBinder +onlyGivenNames x21
  have h21 : Lane.Near M b x21 := Lane.put_near (inReg at_WG_CMD (tb m rfl)) (Lane.put_near (inReg at_WG_RESYNC (tb m rfl)) h20)
  clear_value x21
  extract_lets -underBinder +onlyGivenNames x22
  have h22 : Lane.Near M b x22 := Lane.onMode_near (f := _) (ModeState.Near.mk kp (ch m rfl) kp kp kp kp (ch m rfl) kp kp kp) h21
  clear_value x22
  exact Lane.koSettle_near (tr m rfl) (Lane.when_near h22 (fun _ g23 => Lane.sendBoth_near (tr m rfl) g23))

theorem Lane.setTrioMode_near {M : Nat} {b : Lane} {l0 : Lane} {y1} (m : sub 0x200000000000 M = true) (h0 : Lane.Near M b l0) :
    Lane.Near M b (Lane.setTrioMode l0 y1) := by
  delta Lane.setTrioMode
  exact Lane.put_near (inReg at_TV_STAT (tb m rfl)) h0

theorem Lane.showOdd_near {M : Nat} {b : Lane} {l0 : Lane} {y1} {y2} {y3} (m : sub 0xe000000000000 M = true) (h0 : Lane.Near M b l0) :
    Lane.Near M b (Lane.showOdd l0 y1 y2 y3) := by
  delta Lane.showOdd
  extract_lets -underBinder +onlyGivenNames x10
  have h10 : Lane.Near M b x10 := Lane.put_near (inReg at_TV_LASTODD (tb m rfl)) (Lane.put_near (inReg at_TV_LASTODD (tb m rfl)) h0)
  clear_value x10
  extract_lets -underBinder +onlyGivenNames x11
  have h11 : Lane.Near M b x11 := Lane.put_near (inReg at_TV_LASTODD (tb m rfl)) (Lane.put_near (inReg at_TV_LASTODD (tb m rfl)) h10)
  clear_value x11
  extract_lets -underBinder +onlyGivenNames x12
  clear_value x12
  extract_lets -underBinder +onlyGivenNames x13
  have h13 : Lane.Near M b x13 := Lane.put_near (inReg at_TV_LASTT0 (tb m rfl)) (Lane.put_near (inReg at_TV_LASTT0 (tb m rfl)) h11)
  clear_value x13
  exact Lane.put_near (inReg at_TV_LASTT1 (tb m rfl)) h13

theorem Lane.haltTrio_near {M : Nat} {b : Lane} {l0 : Lane} {y1 : Fld} (m : sub 0x5000380000000848000001e00050720560008000000000000751103b00002000020014000000000000000000000000000000a0000800002000470060020000000000c M = true) (h0 : Lane.Near M b l0) (f1 : Evt y1.addr M ∧ y1.width = 1) :
    Lane.Near M b (Lane.haltTrio l0 y1) := by
  delta Lane.haltTrio
  extract_lets -underBinder +onlyGivenNames x10
  have h10 : Lane.Near M b x10 := Lane.setTrioMode_near (tr m rfl) (Lane.raise_near f1.1 f1.2 h0)
  clear_value x10
  extract_lets -underBinder +onlyGivenNames x11
  have h11 : Lane.Near M b x11 := Lane.putBit_near (inReg at_LC_ENGSTAT (tb m rfl)) (Lane.putBit_near (inReg at_LC_ENGSTAT (tb m rfl)) (Lane.putBit_near (inReg at_LC_ENGSTAT (tb m rfl)) h10))
  clear_value x11
  exact Lane.laneOut_near (tr m rfl) (Lane.onTrio_near (f := _) (TrioState.Near.mk (ch m rfl) kp (ch m rfl) kp kp kp kp kp kp kp kp kp kp kp kp) h11)

theorem Lane.coreUnusable_near {M : Nat} {b : Lane} {l0 : Lane} {y1} (m : sub 0x800000000000000000000000000000000000000000000000000000000000000000000600000000008 M = true) (h0 : Lane.Near M b l0) :
    Lane.Near M b (Lane.coreUnusable l0 y1) := by
  delta Lane.coreUnusable
  extract_lets -underBinder +onlyGivenNames x10
  have h10 : Lane.Near M b x10 := Lane.putBit_near (inReg at_TV_STAT (tb m rfl)) (Lane.raise_near (inEvt ev_TV_EVT (tb m rfl)) rfl h0)
  clear_value x10
  extract_lets -underBinder +onlyGivenNames x11
  have h11 : Lane.Near M b x11 := Lane.putBit_near (inReg at_LC_ENGSTAT (tb m rfl)) (Lane.putBit_near (inReg at_LC_ENGSTAT (tb m rfl)) h10)
  clear_value x11
  exact Lane.note_near (tb m rfl) (Lane.setTrioMode_near (tr m rfl) h11)

theorem Lane.showRecent_near {M : Nat} {b : Lane} {l0 : Lane} (m : sub 0x1000000000000 M = true) (h0 : Lane.Near M b l0) :
    Lane.Near M b (Lane.showRecent l0) := by
  delta Lane.showRecent
  exact Lane.put_near (inReg at_TV_RECENT (tb m rfl)) h0

theorem Lane.oddCore_near {M : Nat} {b : Lane} {l0 : Lane} {y1} {y2} {y3} (m : sub 0x7fff00000000000000000000000000000000000000000000000000080000000000000000000000000000000000000000000000000000000000000000000f600000000008 M = true) (h0 : Lane.Near M b l0) :
    Lane.Near M b (Lane.oddCore l0 y1 y2 y3) := by
  delta Lane.oddCore
  extract_lets -underBinder +onlyGivenNames x10
  have h10 : Lane.Near M b x10 := Lane.raise_near (evt_ite (inEvt ev_TV_EVT (tb m rfl)) (inEvt ev_TV_EVT (tb m rfl))) wd_ite h0
  clear_value x10
  extract_lets -underBinder +onlyGivenNames x11
  have h11 : Lane.Near M b x11 := Lane.note_near (tb m rfl) (Lane.showOdd_near (tr m rfl) h10)
  clear_value x11
  extract_lets -underBinder +onlyGivenNames x12
  have h12 : Lane.Near M b x12 := Lane.onTrio_near (f := _) (TrioState.Near.mk (ch m rfl) (ch m rfl) (ch m rfl) (ch m rfl) (ch m rfl) (ch m rfl) (ch m rfl) (ch m rfl) (ch m rfl) (ch m rfl) (ch m rfl) (ch m rfl) (ch m rfl) (ch m rfl) (ch m rfl)) (Lane.showRecent_near (tr m rfl) h11)
  clear_value x12
  exact Lane.near_ite (Lane.coreUnusable_near (tr m rfl) h12) (Lane.onTrio_near (f := _) (TrioState.Near.mk kp kp kp kp kp kp (ch m rfl) kp kp kp kp kp kp kp kp) (Lane.put_near (inReg at_TV_STAT (tb m rfl)) (Lane.setTrioMode_near (tr m rfl) h12)))

theorem Lane.resyncLate_near {M : Nat} {b : Lane} {l0 : Lane} (m : sub 0x800000000000000000000000000000000000000000000000000000000000000000000600000000008 M = true) (h0 : Lane.Near M b l0) :
    Lane.Near M b (Lane.resyncLate l0) := by
  delta Lane.resyncLate
  exact Lane.coreUnusable_near (tr m rfl) (Lane.raise_near (inEvt ev_TV_EVT (tb m rfl)) rfl h0)

theorem Lane.nextExercise_near {M : Nat} {b : Lane} {l0 : Lane} (m : sub 0x80000000000000 M = true) (h0 : Lane.Near M b l0) :
    Lane.Near M b (Lane.nextExercise l0) := by
  delta Lane.nextExercise
  exact Lane.put_near (inReg at_TV_EXER (tb m rfl)) h0

theorem Lane.endExercise_near {M : Nat} {b : Lane} {l0 : Lane} {y1} (m : sub 0x380000000848000001e00050720560008000000000000751103b00002000020014000000000000000000000000000000a00008000020004700680400000000004 M = true) (h0 : Lane.Near M b l0) :
    Lane.Near M b (Lane.endExercise l0 y1) := by
  delta Lane.endExercise
  extract_lets -underBinder +onlyGivenNames x10
  have h10 : Lane.Near M b x10 := Lane.raise_near (inEvt ev_TV_EVT (tb m rfl)) rfl h0
  clear_value x10
  exact Lane.near_ite (Lane.laneOut_near (tr m rfl) (Lane.nextExercise_near (tr m rfl) (Lane.raise_near (inEvt ev_TV_EVT (tb m rfl)) rfl (Lane.put_near (inReg at_TV_EXER (tb m rfl)) h10)))) (Lane.nextExercise_near (tr m rfl) (Lane.bump_near (inReg at_TV_EXER (tb m rfl)) (Lane.put_near (inReg at_TV_EXER (tb m rfl)) h10)))

theorem Lane.voidExercise_near {M : Nat} {b : Lane} {l0 : Lane} (m : sub 0x80000000000000 M = true) (h0 : Lane.Near M b l0) :
    Lane.Near M b (Lane.voidExercise l0) := by
  delta Lane.voidExercise
  exact Lane.put_near (inReg at_TV_EXER (tb m rfl)) h0

theorem Lane.armExercise_near {M : Nat} {b : Lane} {l0 : Lane} {y1} (m : sub 0x1e01000000000000000000000000000000000000000000000000000000000000000000000000000000000000000000000000000000000000000000000080000000000000 M = true) (h0 : Lane.Near M b l0) :
    Lane.Near M b (Lane.armExercise l0 y1) := by
  delta Lane.armExercise
  extract_lets -underBinder +onlyGivenNames x10
  have h10 : Lane.Near M b x10 := Lane.near_ite (Lane.drop_near (inReg at_TV_EXER (tb m rfl)) h0) h0
  clear_value x10
  extract_lets -underBinder +onlyGivenNames x11 x12 x13
  clear_value x11 x12 x13
  exact Lane.onTrio_near (f := _) (TrioState.Near.mk (ch m rfl) kp kp kp kp kp kp kp kp (ch m rfl) (ch m rfl) (ch m rfl) (ch m rfl) kp kp) h10

theorem Lane.trioCycle_near {M : Nat} {b : Lane} {l0 : Lane} (m : sub 0x4800000000000000000000000000000000000000000000000000000000000000000051000000000000 M = true) (h0 : Lane.Near M b l0) :
    Lane.Near M b (Lane.trioCycle l0) := by
  delta Lane.trioCycle
  extract_lets -underBinder +onlyGivenNames x10
  clear_value x10
  extract_lets -underBinder +onlyGivenNames x11
  have h11 : Lane.Near M b x11 := Lane.when_near h0 (fun _ g12 => Lane.note_near (tb m rfl) g12)
  clear_value x11
  extract_lets -underBinder +onlyGivenNames x13
  have h13 : Lane.Near M b x13 := Lane.put_near (inReg at_TV_WIN (tb m rfl)) (Lane.drop_near (inReg at_TV_SKEW (tb m rfl)) h11)
  clear_value x13
  exact Lane.showRecent_near (tr m rfl) (Lane.nextChoice_near (tb m rfl) h13)

end Sys2Proof.Machine
end

