-- ==== Sys2Proof/Laws/NearBoard.lean ====
section
/-!
SUPPORT. What the functions of the lane may change: power, the events of an axis, the loops, the box office, the sealed signals, time, the velvet rope, the callboard and the CAN ports.
-/

namespace Sys2Proof.Machine

-- one elaboration thread: thousands of small proofs would otherwise start one each
set_option Elab.async false

theorem Lane.boostCore_near {M : Nat} {b : Lane} {l0 : Lane} {y1} (m : sub 0x380000000000000000000000000000000000000000000000000000000000000000000000000000000000000 M = true) (h0 : Lane.Near M b l0) :
    Lane.Near M b (Lane.boostCore l0 y1) := by
  delta Lane.boostCore
  extract_lets -underBinder +onlyGivenNames x10
  clear_value x10
  exact Lane.near_ite (Lane.moveCore_near (tr m rfl) h0) h0

theorem showGauges_near {M : Nat} {b l : Lane} {f g : Nat → Fld} {v : Vector Nat 16} (hf : ∀ i : Fin 16, Evt (f i).addr M ∧ (f i).width = 1)
    (hg : ∀ i : Fin 16, Put (g i).addr M) (h : Lane.Near M b l) : Lane.Near M b (showGauges f g v l) :=
  Lane.near_foldl (fun _ i _ q => Lane.put_near (hg i) (Lane.raise_near (hf i).1 (hf i).2 q)) h

theorem Lane.showSpread_near {M : Nat} {b : Lane} {l0 : Lane} {y1} {y2} {y3} (m : sub 0x4000000000000000000000000000000000000000000000000000000000000000000000000000000000000000000000000000000000000000000000000020000000000000 M = true) (h0 : Lane.Near M b l0) :
    Lane.Near M b (Lane.showSpread l0 y1 y2 y3) := by
  delta Lane.showSpread
  extract_lets -underBinder +onlyGivenNames x10 x11
  clear_value x10 x11
  extract_lets -underBinder +onlyGivenNames x12
  have h12 : Lane.Near M b x12 := Lane.put_near (inReg at_TV_SPREAD (tb m rfl)) (Lane.put_near (inReg at_TV_SPREAD (tb m rfl)) h0)
  clear_value x12
  exact Lane.onTrio_near (f := _) (TrioState.Near.mk kp kp kp kp kp kp kp kp kp kp kp kp kp kp (ch m rfl)) h12

theorem Lane.markMax_near {M : Nat} {b : Lane} {l0 : Lane} (m : sub 0x4000000000000000000000000000000000000000000000000000000000000000000000000000000000000000 M = true) (h0 : Lane.Near M b l0) :
    Lane.Near M b (Lane.markMax l0) := by
  delta Lane.markMax
  exact Lane.onPower_near (f := _) (PowerState.Near.mk kp kp kp kp kp kp kp kp kp kp kp kp kp (ch m rfl) kp kp kp kp kp kp kp kp kp kp kp) h0

theorem Lane.showVcok_near {M : Nat} {b : Lane} {l0 : Lane} (m : sub 0x200 M = true) (h0 : Lane.Near M b l0) :
    Lane.Near M b (Lane.showVcok l0) := by
  delta Lane.showVcok
  extract_lets -underBinder +onlyGivenNames x10 x11
  clear_value x10 x11
  exact Lane.putFlag_near (inReg at_PW_SUPSTAT (tb m rfl)) h0

theorem Lane.coreRisen_near {M : Nat} {b : Lane} {l0 : Lane} (m : sub 0x800000000000000000000000000000000780350000000000000000000000000000000000000000000000000a00000000000000000000000000000000 M = true) (h0 : Lane.Near M b l0) :
    Lane.Near M b (Lane.coreRisen l0) := by
  delta Lane.coreRisen
  extract_lets -underBinder +onlyGivenNames x10
  have h10 : Lane.Near M b x10 := Lane.onPower_near (f := _) (PowerState.Near.mk kp kp kp kp kp kp kp (ch m rfl) (ch m rfl) (ch m rfl) kp kp kp kp kp kp kp kp kp kp kp kp kp kp kp) h0
  clear_value x10
  exact Lane.near_ite (by
    extract_lets -underBinder +onlyGivenNames x11
    have h11 : Lane.Near M b x11 := Lane.onMode_near (f := _) (ModeState.Near.mk kp kp kp kp kp kp (ch m rfl) kp kp kp) h10
    clear_value x11
    exact Lane.allAxes_near h11 (fun _ _ g12 => Lane.near_ite (Lane.startPrecharge_near (tr m rfl) g12) g12)) h10

theorem Lane.measureCore_near {M : Nat} {b : Lane} {l0 : Lane} {y1} (m : sub 0x800000000000000000000000000000000780350000000000000000000000000000000000000000000000000a00000000000000000000000000000280 M = true) (h0 : Lane.Near M b l0) :
    Lane.Near M b (Lane.measureCore l0 y1) := by
  delta Lane.measureCore
  extract_lets -underBinder +onlyGivenNames x10
  have h10 : Lane.Near M b x10 := Lane.showVcok_near (tr m rfl) (Lane.put_near (inReg at_PW_VCSET (tb m rfl)) h0)
  clear_value x10
  exact Lane.when_near h10 (fun _ g11 => Lane.coreRisen_near (tr m rfl) g11)

theorem Lane.powerPhase_near {M : Nat} {b : Lane} {l0 : Lane} {y1} (m : sub 0x6000000000000000000000000000000000000000000000000000000000000000000000000000000000000 M = true) (h0 : Lane.Near M b l0) :
    Lane.Near M b (Lane.powerPhase l0 y1) := by
  delta Lane.powerPhase
  exact Lane.onPower_near (f := _) (PowerState.Near.mk (ch m rfl) (ch m rfl) kp kp kp kp kp kp kp kp kp kp kp kp kp kp kp kp kp kp kp kp kp kp kp) h0

theorem Lane.enableCore_near {M : Nat} {b : Lane} {l0 : Lane} {y1} (m : sub 0x8001000000000000000000000000000000000000000000000000000000000000000000000000000000000 M = true) (h0 : Lane.Near M b l0) :
    Lane.Near M b (Lane.enableCore l0 y1) := by
  delta Lane.enableCore
  exact Lane.send_near (tb m rfl) (Lane.onPower_near (f := _) (PowerState.Near.mk kp kp (ch m rfl) kp kp kp kp kp kp kp kp kp kp kp kp kp kp kp kp kp kp kp kp kp kp) h0)

theorem Lane.setRail_near {M : Nat} {b : Lane} {l0 : Lane} {y1} {y2} (m : sub 0x10001000000000000000000000000000000000000000000000000000000000000000000000000000000000 M = true) (h0 : Lane.Near M b l0) :
    Lane.Near M b (Lane.setRail l0 y1 y2) := by
  delta Lane.setRail
  exact Lane.near_ite h0 (Lane.send_near (tb m rfl) (Lane.onPower_near (f := _) (PowerState.Near.mk kp kp kp (ch m rfl) kp kp kp kp kp kp kp kp kp kp kp kp kp kp kp kp kp kp kp kp kp) h0))

theorem Lane.railsUp_near {M : Nat} {b : Lane} {l0 : Lane} {y1} (m : sub 0x10001000000000000000000000000000000000000000000000000000000000000000000000000000000000 M = true) (h0 : Lane.Near M b l0) :
    Lane.Near M b (Lane.railsUp l0 y1) := by
  delta Lane.railsUp
  exact Lane.near_foldl (fun _ _ q10 g10 => Lane.near_ite (Lane.setRail_near (tr m rfl) g10) g10) h0

theorem Lane.railsDown_near {M : Nat} {b : Lane} {l0 : Lane} (m : sub 0x10001000000000000000000000000000000000000000000000000000000000000000000000000000000000 M = true) (h0 : Lane.Near M b l0) :
    Lane.Near M b (Lane.railsDown l0) := by
  delta Lane.railsDown
  exact Lane.setRail_near (tr m rfl) (Lane.setRail_near (tr m rfl) (Lane.setRail_near (tr m rfl) h0))

theorem Lane.shutDown_near {M : Nat} {b : Lane} {l0 : Lane} {y1} (m : sub 0x800000000000000000000000000018004e251000000002000000000000000000000000000000000000000a00000000000000000000000000000004 M = true) (h0 : Lane.Near M b l0) :
    Lane.Near M b (Lane.shutDown l0 y1) := by
  delta Lane.shutDown
  extract_lets -underBinder +onlyGivenNames x10
  have h10 : Lane.Near M b x10 := Lane.onPower_near (f := _) (PowerState.Near.mk kp kp kp kp kp (ch m rfl) kp kp kp kp kp kp kp kp kp kp kp kp (ch m rfl) (ch m rfl) kp kp kp kp kp) (Lane.powerPhase_near (tr m rfl) h0)
  clear_value x10
  exact Lane.enableCore_near (tr m rfl) (Lane.koSettle_near (tr m rfl) (Lane.allAxes_near (Lane.setLState_near (tr m rfl) h10) (fun _ _ g11 => Lane.settle_near (tr m rfl) g11)))

/-- A lane just reset, with what the reset of its logic die leaves of it, stays within the full mask. -/
theorem Lane.afresh_near {b l : Lane} {M fresh logNext : Nat} {emit : List Emission} {log : List LogRecord} {seats : SeatState} {trust : TrustState}
    {power : PowerState} (m : sub 0xffffffffffffffffffffffffffffffffffffffffffffffffffffffffffffffffffffffffffffffffffffffffffffffffffffffffffffffffffffffffffffffffffffffffffffffffffffffffff M = true) (h : Lane.Near M b l) :
    Lane.Near M b { Lane.reset l.id with now := l.now, fresh := fresh, emit := emit, log := log, logNext := logNext, seats := seats,
                                         trust := trust, power := power } where
  id := h.id
  now := h.now
  regsWf := rfl
  stageWf := rfl
  word a hb := by
    rw [sub_iff.1 m _ (sub_iff.1 (rfl : sub 0x7ffffffffffffffffffffffffffffffffffffffffffffffffffffffffffffffffffffffffffffffff 0xffffffffffffffffffffffffffffffffffffffffffffffffffffffffffffffffffffffffffffffffffffffffffffffffffffffffffffffffffffffffffffffffffffffffffffffffffffffffff = true) _ (any_bit (regNo_le a)))] at hb
    cases hb
  evt := ch m rfl
  log := ch m rfl
  emit := ch m rfl
  ltime := ch m rfl
  fresh := ch m rfl
  stage := ch m rfl
  axes := fun _ => AxisState.Near.mk (ch m rfl) (ch m rfl) (ch m rfl) (ch m rfl) (ch m rfl) (ch m rfl) (ch m rfl) (ch m rfl) (ch m rfl)
  power := PowerState.Near.mk (ch m rfl) (ch m rfl) (ch m rfl) (ch m rfl) (ch m rfl) (ch m rfl) (ch m rfl) (ch m rfl) (ch m rfl) (ch m rfl) (ch m rfl) (ch m rfl) (ch m rfl) (ch m rfl) (ch m rfl) (ch m rfl) (ch m rfl) (ch m rfl) (ch m rfl) (ch m rfl) (ch m rfl) (ch m rfl) (ch m rfl) (ch m rfl) (ch m rfl)
  link := LinkState.Near.mk (ch m rfl) (ch m rfl) (ch m rfl) (ch m rfl) (ch m rfl) (ch m rfl) (ch m rfl) (ch m rfl) (ch m rfl) (ch m rfl) (ch m rfl)
  loops := fun _ => LoopState.Near.mk (ch m rfl) (ch m rfl) (ch m rfl) (ch m rfl) (ch m rfl) (ch m rfl) (ch m rfl) (ch m rfl) (ch m rfl) (ch m rfl) (ch m rfl) (ch m rfl) (ch m rfl) (ch m rfl)
  wing := WingState.Near.mk (ch m rfl) (ch m rfl) (ch m rfl) (ch m rfl) (ch m rfl) (ch m rfl) (ch m rfl) (ch m rfl) (ch m rfl) (ch m rfl) (ch m rfl) (ch m rfl) (ch m rfl) (ch m rfl) (ch m rfl) (ch m rfl) (ch m rfl) (ch m rfl) (ch m rfl) (ch m rfl) (ch m rfl) (ch m rfl) (ch m rfl) (ch m rfl) (ch m rfl) (ch m rfl) (ch m rfl) (ch m rfl) (ch m rfl) (ch m rfl) (ch m rfl) (ch m rfl) (ch m rfl) (ch m rfl) (ch m rfl) (ch m rfl) (ch m rfl) (ch m rfl) (ch m rfl) (ch m rfl) (ch m rfl) (ch m rfl) (ch m rfl) (ch m rfl) (ch m rfl) (ch m rfl) (ch m rfl) (ch m rfl) (ch m rfl) (ch m rfl) (ch m rfl) (ch m rfl) (ch m rfl)
  seats := SeatState.Near.mk (ch m rfl) (ch m rfl) (ch m rfl) (ch m rfl) (ch m rfl) (ch m rfl) (ch m rfl) (ch m rfl) (ch m rfl) (ch m rfl) (ch m rfl) (ch m rfl) (ch m rfl) (ch m rfl) (ch m rfl) (ch m rfl) (ch m rfl) (ch m rfl) (ch m rfl)
  call := CallState.Near.mk (ch m rfl) (ch m rfl) (ch m rfl) (ch m rfl) (ch m rfl)
  safety := SafetyState.Near.mk (ch m rfl) (ch m rfl) (ch m rfl) (ch m rfl) (ch m rfl) (ch m rfl) (ch m rfl) (ch m rfl) (ch m rfl)
  mode_ := ModeState.Near.mk (ch m rfl) (ch m rfl) (ch m rfl) (ch m rfl) (ch m rfl) (ch m rfl) (ch m rfl) (ch m rfl) (ch m rfl) (ch m rfl)
  trust := TrustState.Near.mk (ch m rfl) (ch m rfl) (ch m rfl) (ch m rfl) (ch m rfl) (ch m rfl) (ch m rfl) (ch m rfl) (ch m rfl) (ch m rfl) (ch m rfl) (ch m rfl) (ch m rfl) (ch m rfl) (ch m rfl) (ch m rfl) (ch m rfl) (ch m rfl) (ch m rfl) (ch m rfl)
  reh := RehState.Near.mk (ch m rfl) (ch m rfl) (ch m rfl) (ch m rfl) (ch m rfl) (ch m rfl) (ch m rfl) (ch m rfl) (ch m rfl) (ch m rfl) (ch m rfl) (ch m rfl) (ch m rfl) (ch m rfl) (ch m rfl) (ch m rfl) (ch m rfl) (ch m rfl) (ch m rfl) (ch m rfl) (ch m rfl) (ch m rfl) (ch m rfl) (ch m rfl) (ch m rfl)
  trio := TrioState.Near.mk (ch m rfl) (ch m rfl) (ch m rfl) (ch m rfl) (ch m rfl) (ch m rfl) (ch m rfl) (ch m rfl) (ch m rfl) (ch m rfl) (ch m rfl) (ch m rfl) (ch m rfl) (ch m rfl) (ch m rfl)
  box := BoxState.Near.mk (ch m rfl) (ch m rfl) (ch m rfl) (ch m rfl) (ch m rfl) (ch m rfl) (ch m rfl) (ch m rfl) (ch m rfl) (ch m rfl) (ch m rfl) (ch m rfl) (ch m rfl) (ch m rfl) (ch m rfl) (ch m rfl) (ch m rfl) (ch m rfl) (ch m rfl)
  ring := RingState.Near.mk (ch m rfl) (ch m rfl) (ch m rfl) (ch m rfl) (ch m rfl) (ch m rfl) (ch m rfl) (ch m rfl) (ch m rfl) (ch m rfl) (ch m rfl) (ch m rfl) (ch m rfl) (ch m rfl) (ch m rfl) (ch m rfl) (ch m rfl) (ch m rfl) (ch m rfl) (ch m rfl) (ch m rfl) (ch m rfl) (ch m rfl) (ch m rfl) (ch m rfl) (ch m rfl) (ch m rfl) (ch m rfl) (ch m rfl) (ch m rfl) (ch m rfl) (ch m rfl) (ch m rfl) (ch m rfl) (ch m rfl) (ch m rfl) (ch m rfl)
  tm := TimeState.Near.mk (ch m rfl) (ch m rfl) (ch m rfl) (ch m rfl) (ch m rfl) (ch m rfl) (ch m rfl) (ch m rfl) (ch m rfl)
  can := fun _ => CanState.Near.mk (ch m rfl) (ch m rfl) (ch m rfl) (ch m rfl) (ch m rfl) (ch m rfl)
  dict := DictState.Near.mk (ch m rfl) (ch m rfl)

theorem Lane.releaseLogic_near {M : Nat} {b l0 : Lane} {y1} (m : sub 0xffffffffffffffffffffffffffffffffffffffffffffffffffffffffffffffffffffffffffffffffffffffffffffffffffffffffffffffffffffffffffffffffffffffffffffffffffffffffff M = true) (h0 : Lane.Near M b l0) :
    Lane.Near M b (Lane.releaseLogic l0 y1) := by
  delta Lane.releaseLogic
  extract_lets x1 x3 x4 x5 x2
  have h2 : Lane.Near M b x2 := Lane.afresh_near m h0
  clear_value x2
  exact Lane.near_ite (Lane.note_near (tb m rfl) (Lane.near_ite (Lane.note_near (tb m rfl) (Lane.raise_near (inEvt ev_PW_SUPEVT (tb m rfl)) rfl h2)) h2))
    (Lane.near_ite (Lane.note_near (tb m rfl) (Lane.raise_near (inEvt ev_PW_SUPEVT (tb m rfl)) rfl h2)) h2)

theorem Lane.showTemps_near {M : Nat} {b : Lane} {l0 : Lane} {y1} (m : sub 0x2600 M = true) (h0 : Lane.Near M b l0) :
    Lane.Near M b (Lane.showTemps l0 y1) := by
  delta Lane.showTemps
  extract_lets -underBinder +onlyGivenNames x10 x11 x12
  clear_value x10 x11 x12
  extract_lets -underBinder +onlyGivenNames x13
  have h13 : Lane.Near M b x13 := Lane.when_near h0 (fun _ g14 => Lane.raise_near (inEvt ev_PW_SUPEVT (tb m rfl)) rfl g14)
  clear_value x13
  exact Lane.putFlag_near (inReg at_PW_SUPSTAT (tb m rfl)) (Lane.putInt_near (inReg at_PW_TEMP (tb m rfl)) (Lane.putInt_near (inReg at_PW_TEMP (tb m rfl)) h13))

theorem Lane.measure_near {M : Nat} {b : Lane} {l0 : Lane} {y1} (m : sub 0x800000000000000000000000000001000f80350000000000000000000000000000000000000000000000080a00000000000000000000000000002e80 M = true) (h0 : Lane.Near M b l0) :
    Lane.Near M b (Lane.measure l0 y1) := by
  delta Lane.measure
  extract_lets -underBinder +onlyGivenNames x10
  have h10 : Lane.Near M b x10 := Lane.put_near (inReg at_GD_VMSTAT (tb m rfl)) h0
  clear_value x10
  extract_lets -underBinder +onlyGivenNames x11
  have h11 : Lane.Near M b x11 := Lane.showTemps_near (tr m rfl) (Lane.measureCore_near (tr m rfl) (Lane.put_near (inReg at_PW_VIN (tb m rfl)) (Lane.put_near (inReg at_PW_VIN (tb m rfl)) h10)))
  clear_value x11
  extract_lets -underBinder +onlyGivenNames x12
  have h12 : Lane.Near M b x12 := Lane.putFlag_near (inReg at_PW_SUPSTAT (tb m rfl)) h11
  clear_value x12
  extract_lets -underBinder +onlyGivenNames x13
  have h13 : Lane.Near M b x13 := Lane.putFlag_near (inReg at_PW_SUPSTAT (tb m rfl)) h12
  clear_value x13
  extract_lets -underBinder +onlyGivenNames x14
  have h14 : Lane.Near M b x14 := Lane.putFlag_near (inReg at_PW_SUPSTAT (tb m rfl)) h13
  clear_value x14
  extract_lets -underBinder +onlyGivenNames x15
  have h15 : Lane.Near M b x15 := Lane.onPower_near (f := _) (PowerState.Near.mk kp kp kp kp kp kp kp kp kp kp kp kp kp kp kp kp kp kp kp kp kp kp kp (ch m rfl) kp) h14
  clear_value x15
  extract_lets -underBinder +onlyGivenNames x16
  have h16 : Lane.Near M b x16 := Lane.putFlag_near (inReg at_PW_SUPSTAT (tb m rfl)) h15
  clear_value x16
  extract_lets -underBinder +onlyGivenNames x17
  have h17 : Lane.Near M b x17 := Lane.putFlag_near (inReg at_PW_SUPSTAT (tb m rfl)) h16
  clear_value x17
  extract_lets -underBinder +onlyGivenNames x18
  have h18 : Lane.Near M b x18 := Lane.putFlag_near (inReg at_PW_SUPSTAT (tb m rfl)) h17
  clear_value x18
  extract_lets -underBinder +onlyGivenNames x19
  have h19 : Lane.Near M b x19 := Lane.onPower_near (f := _) (PowerState.Near.mk kp kp kp kp kp kp kp kp kp kp (ch m rfl) kp kp kp kp kp kp kp kp kp kp kp kp kp kp) h18
  clear_value x19
  extract_lets -underBinder +onlyGivenNames x20
  have h20 : Lane.Near M b x20 := Lane.putFlag_near (inReg at_PW_SUPSTAT (tb m rfl)) (Lane.putFlag_near (inReg at_PW_SUPSTAT (tb m rfl)) h19)
  clear_value x20
  exact Lane.putFlag_near (inReg at_PW_SUPSTAT (tb m rfl)) h20

theorem Lane.queueEvent_near {M : Nat} {b : Lane} {l0 : Lane} {y1} {y2} (m : sub 0x200000000000000000000000000000000000000000000000000000000000c0000000000000000000000 M = true) (h0 : Lane.Near M b l0) :
    Lane.Near M b (Lane.queueEvent l0 y1 y2) := by
  delta Lane.queueEvent
  exact Lane.near_ite (Lane.onAx_near (f := _) (AxisState.Near.mk kp (ch m rfl) kp kp kp kp kp kp kp) h0) (Lane.bump_near (inReg (at_DC_CNT (Fin.isLt _)) (tb m rfl)) (Lane.raise_near (inEvt (ev_DC_EVT (Fin.isLt _)) (tb m rfl)) rfl h0))

theorem Lane.rotorLost_near {M : Nat} {b : Lane} {l0 : Lane} {y1} (m : sub 0x380000002cc8028bb5e2000018078000030c000000380751103b1000200022001400000000000005c000020000000000a000080000f0006020600000000800004 M = true) (h0 : Lane.Near M b l0) :
    Lane.Near M b (Lane.rotorLost l0 y1) := by
  delta Lane.rotorLost
  extract_lets -underBinder +onlyGivenNames x10
  have h10 : Lane.Near M b x10 := Lane.voidAxis_near (tr m rfl) (Lane.raise_near (inEvt (ev_DC_EVT (Fin.isLt _)) (tb m rfl)) rfl h0)
  clear_value x10
  extract_lets -underBinder +onlyGivenNames x11
  clear_value x11
  exact Lane.near_ite (Lane.drop_near (inReg (at_DC_LASTX (Fin.isLt _)) (tb m rfl)) h10) (Lane.near_ite (Lane.setOut_near (tr m rfl) h10) (by
    extract_lets -underBinder +onlyGivenNames x12
    have h12 : Lane.Near M b x12 := Lane.onAx_near (f := _) (AxisState.Near.mk kp kp kp kp (ch m rfl) kp (ch m rfl) kp kp) h10
    clear_value x12
    exact Lane.enterRank3_near (tr m rfl) (Lane.setAxst_near (tr m rfl) h12)))

theorem Lane.declareRotor_near {M : Nat} {b : Lane} {l0 : Lane} {y1} (m : sub 0x380000002cc8028bb5e2000018078000030c000000380751103b1000200022001400000000000005c000020000000000a000080000f0006020600000000800004 M = true) (h0 : Lane.Near M b l0) :
    Lane.Near M b (Lane.declareRotor l0 y1) := by
  delta Lane.declareRotor
  exact Lane.near_ite (Lane.rotorLost_near (tr m rfl) h0) h0

theorem Lane.recatchDone_near {M : Nat} {b : Lane} {l0 : Lane} {y1} (m : sub 0x200000000000c00000000000000000000000000000000000000000000000000000000000060000000000000000000000 M = true) (h0 : Lane.Near M b l0) :
    Lane.Near M b (Lane.recatchDone l0 y1) := by
  delta Lane.recatchDone
  extract_lets -underBinder +onlyGivenNames x10
  have h10 : Lane.Near M b x10 := Lane.setAxst_near (tr m rfl) (Lane.raise_near (inEvt (ev_DC_EVT (Fin.isLt _)) (tb m rfl)) rfl h0)
  clear_value x10
  exact Lane.onAx_near (f := _) (AxisState.Near.mk kp kp kp kp kp kp (ch m rfl) (ch m rfl) kp) (Lane.onLp_near (f := _) (LoopState.Near.mk kp kp kp kp kp kp kp kp (ch m rfl) kp kp kp kp kp) h10)

theorem Lane.judge_near {M : Nat} {b : Lane} {l0 : Lane} {y1} {y2} (m : sub 0x380000002cc8028bb5e2000018078000030c000000380f51103b1000200022001400000000000005c000020000000000a000080000f0006020600000000800004 M = true) (h0 : Lane.Near M b l0) :
    Lane.Near M b (Lane.judge l0 y1 y2) := by
  delta Lane.judge
  exact Lane.near_ite (by
    split
    · exact h0
    · extract_lets -underBinder +onlyGivenNames x10
      clear_value x10
      extract_lets -underBinder +onlyGivenNames x11
      have h11 : Lane.Near M b x11 := Lane.onAx_near (f := _) (AxisState.Near.mk kp kp kp kp kp kp (ch m rfl) kp kp) h0
      clear_value x11
      exact Lane.near_ite (Lane.recatchDone_near (tr m rfl) h11) h11) (Lane.near_ite (by
    extract_lets -underBinder +onlyGivenNames x12
    have h12 : Lane.Near M b x12 := Lane.put_near (inReg (at_DC_LASTX (Fin.isLt _)) (tb m rfl)) h0
    clear_value x12
    exact Lane.near_ite (Lane.declareRotor_near (tr m rfl) h12) h12) (Lane.drop_near (inReg (at_DC_LASTX (Fin.isLt _)) (tb m rfl)) h0))

theorem Lane.showEvent_near {M : Nat} {b : Lane} {l0 : Lane} {y1} {y2} {y3} (m : sub 0x18000000000000000000000000000 M = true) (h0 : Lane.Near M b l0) :
    Lane.Near M b (Lane.showEvent l0 y1 y2 y3) := by
  delta Lane.showEvent
  extract_lets -underBinder +onlyGivenNames x10
  clear_value x10
  extract_lets -underBinder +onlyGivenNames x11
  have h11 : Lane.Near M b x11 := Lane.put_near (inReg (at_DC_LASTX (Fin.isLt _)) (tb m rfl)) h0
  clear_value x11
  extract_lets -underBinder +onlyGivenNames x12
  have h12 : Lane.Near M b x12 := Lane.put_near (inReg (at_DC_LASTX (Fin.isLt _)) (tb m rfl)) h11
  clear_value x12
  extract_lets -underBinder +onlyGivenNames x13
  have h13 : Lane.Near M b x13 := Lane.putFlag_near (inReg (at_DC_LASTX (Fin.isLt _)) (tb m rfl)) h12
  clear_value x13
  extract_lets -underBinder +onlyGivenNames x14
  have h14 : Lane.Near M b x14 := Lane.putFlag_near (inReg (at_DC_LASTX (Fin.isLt _)) (tb m rfl)) h13
  clear_value x14
  extract_lets -underBinder +onlyGivenNames x15
  have h15 : Lane.Near M b x15 := Lane.putInt_near (inReg (at_DC_LASTX (Fin.isLt _)) (tb m rfl)) h14
  clear_value x15
  exact Lane.putInt_near (inReg (at_DC_LASTT (Fin.isLt _)) (tb m rfl)) h15

theorem Lane.takeEvent_near {M : Nat} {b : Lane} {l0 : Lane} {y1} {y2} (m : sub 0x380000002cc8028bb5e2000018078000030c000000380f51903b1000200022001400000000000005c000020000000000a00018003af0006020600000000800004 M = true) (h0 : Lane.Near M b l0) :
    Lane.Near M b (Lane.takeEvent l0 y1 y2) := by
  delta Lane.takeEvent
  extract_lets -underBinder +onlyGivenNames x10
  have h10 : Lane.Near M b x10 := Lane.integrate_near (tr m rfl) h0
  clear_value x10
  extract_lets -underBinder +onlyGivenNames x11 x12
  clear_value x11 x12
  extract_lets -underBinder +onlyGivenNames x13
  have h13 : Lane.Near M b x13 := Lane.showEvent_near (tr m rfl) h10
  clear_value x13
  extract_lets -underBinder +onlyGivenNames x14
  have h14 : Lane.Near M b x14 := Lane.correct_near (tr m rfl) h13
  clear_value x14
  extract_lets -underBinder +onlyGivenNames x15
  have h15 : Lane.Near M b x15 := Lane.when_near h14 (fun _ g16 => Lane.onAx_near (f := _) (AxisState.Near.mk (ch m rfl) kp kp kp kp kp kp kp kp) g16)
  clear_value x15
  exact Lane.judge_near (tr m rfl) h15

theorem Lane.takeEvents_near {M : Nat} {b : Lane} {l0 : Lane} {y1} (m : sub 0x380000002cc8028bb5e2000018078000030c000000380f71903b1000200022001400000000000005c000020000000000a00018003af0006020600000000800004 M = true) (h0 : Lane.Near M b l0) :
    Lane.Near M b (Lane.takeEvents l0 y1) := by
  delta Lane.takeEvents
  extract_lets -underBinder +onlyGivenNames x10
  clear_value x10
  exact Lane.near_foldl (fun _ _ q11 g11 => Lane.takeEvent_near (tr m rfl) g11) (Lane.onAx_near (f := _) (AxisState.Near.mk kp (ch m rfl) kp kp kp kp kp kp kp) h0)

theorem Lane.ascRearm_near {M : Nat} {b : Lane} {l0 : Lane} {y1} {y2} {y3} {y4} (m : sub 0x250000000000000000000000000000000000000000000000000a00000000000000000000000000000000 M = true) (h0 : Lane.Near M b l0) :
    Lane.Near M b (Lane.ascRearm l0 y1 y2 y3 y4) := by
  delta Lane.ascRearm
  extract_lets -underBinder +onlyGivenNames x10
  clear_value x10
  exact Lane.near_ite (Lane.settle_near (tr m rfl) (Lane.onAx_near (f := _) (AxisState.Near.mk kp kp (ch m rfl) kp kp kp kp kp kp) h0)) h0

theorem Lane.endInsert_near {M : Nat} {b : Lane} {l0 : Lane} {y1} {y2} (m : sub 0x350000000000000000000000000000000000000000000000000a00000000020000000000000000000000 M = true) (h0 : Lane.Near M b l0) :
    Lane.Near M b (Lane.endInsert l0 y1 y2) := by
  delta Lane.endInsert
  exact Lane.near_ite (by
    extract_lets -underBinder +onlyGivenNames x10
    have h10 : Lane.Near M b x10 := Lane.onAx_near (f := _) (AxisState.Near.mk kp kp (ch m rfl) kp (ch m rfl) kp kp kp kp) h0
    clear_value x10
    exact Lane.settle_near (tr m rfl) (Lane.raise_near (inReg (at_DC_STAT (Fin.isLt _)) (tb m rfl)).1 rfl h10)) h0

theorem Lane.abortInsert_near {M : Nat} {b : Lane} {l0 : Lane} {y1} {y2} (m : sub 0x350000000000000000000000000000000000000000000000000a00000000020000000000000000000000 M = true) (h0 : Lane.Near M b l0) :
    Lane.Near M b (Lane.abortInsert l0 y1 y2) := by
  delta Lane.abortInsert
  extract_lets -underBinder +onlyGivenNames x10
  have h10 : Lane.Near M b x10 := Lane.raise_near (inEvt (ev_GD_EVT (Fin.isLt _)) (tb m rfl)) rfl h0
  clear_value x10
  exact Lane.endInsert_near (tr m rfl) (Lane.onAx_near (f := _) (AxisState.Near.mk kp kp kp kp (ch m rfl) kp kp kp kp) h10)

theorem Lane.insertLost_near {M : Nat} {b : Lane} {l0 : Lane} {y1} {y2} {y3} {y4} (m : sub 0x350000000000000000000000000000000000000000000000000a00000000020000000000000000000000 M = true) (h0 : Lane.Near M b l0) :
    Lane.Near M b (Lane.insertLost l0 y1 y2 y3 y4) := by
  delta Lane.insertLost
  exact Lane.near_ite (Lane.abortInsert_near (tr m rfl) h0) h0

theorem Lane.stirDecay_near {M : Nat} {b : Lane} {l0 : Lane} {y1} (m : sub 0x400000000000000000000000000000000000000000000000000000000000000000000000000000000000 M = true) (h0 : Lane.Near M b l0) :
    Lane.Near M b (Lane.stirDecay l0 y1) := by
  delta Lane.stirDecay
  exact Lane.when_near h0 (fun _ g10 => Lane.onAx_near (f := _) (AxisState.Near.mk kp kp kp kp kp kp (ch m rfl) kp kp) g10)

theorem Lane.writeTables_near {M : Nat} {b : Lane} {l0 : Lane} {y1} {y2} (m : sub 0xf000000000000000000000000000000 M = true) (h0 : Lane.Near M b l0) :
    Lane.Near M b (Lane.writeTables l0 y1 y2) := by
  delta Lane.writeTables
  exact Lane.writeWords_near (fun _ hk => inReg (at_DC_DEG12 (Fin.isLt _) hk) (tb m rfl)) (Lane.writeWords_near (fun _ hk => inReg (at_DC_DEG6 (Fin.isLt _) hk) (tb m rfl)) (Lane.writeWords_near (fun _ hk => inReg (at_DC_TAB12 (Fin.isLt _) hk) (tb m rfl)) (Lane.writeWords_near (fun _ hk => inReg (at_DC_TAB6 (Fin.isLt _) hk) (tb m rfl)) h0)))

theorem Lane.reloadTables_near {M : Nat} {b : Lane} {l0 : Lane} {y1} (m : sub 0xf000000000000000000000000000000 M = true) (h0 : Lane.Near M b l0) :
    Lane.Near M b (Lane.reloadTables l0 y1) := by
  delta Lane.reloadTables
  split
  · exact Lane.writeTables_near (tr m rfl) h0
  · exact h0

theorem Lane.initFlux_near {M : Nat} {b : Lane} {l0 : Lane} {y1} (m : sub 0x10000000000000000000000000000000000000000000000000000000001a00000000000000000000000 M = true) (h0 : Lane.Near M b l0) :
    Lane.Near M b (Lane.initFlux l0 y1) := by
  delta Lane.initFlux
  extract_lets -underBinder +onlyGivenNames x10
  clear_value x10
  exact Lane.showEstimates_near (tr m rfl) (Lane.onAx_near (f := _) (AxisState.Near.mk (ch m rfl) kp kp kp kp kp kp kp kp) h0)

theorem Lane.substEnd_near {M : Nat} {b : Lane} {l0 : Lane} {y1} (m : sub 0x380000002cc8028bb5e2000018078000030c000000380751103b1000200022001400000000000005c000020000000000a000080000f0006020600000000800004 M = true) (h0 : Lane.Near M b l0) :
    Lane.Near M b (Lane.substEnd l0 y1) := by
  delta Lane.substEnd
  exact Lane.setOut_near (tr m rfl) (Lane.raise_near (inEvt (ev_DC_EVT (Fin.isLt _)) (tb m rfl)) rfl h0)

theorem Lane.actInvalid_near {M : Nat} {b : Lane} {l0 : Lane} {y1} (m : sub 0x380000002cc8028bb5e2000018078000030c000000380751103b1000200022001400000000000005c000020000000000a000080000f0006020600000000800004 M = true) (h0 : Lane.Near M b l0) :
    Lane.Near M b (Lane.actInvalid l0 y1) := by
  delta Lane.actInvalid
  exact Lane.near_ite h0 (Lane.near_ite (Lane.substitute_near (tr m rfl) h0) (Lane.setOut_near (tr m rfl) h0))

theorem Lane.beatAngle_near {M : Nat} {b : Lane} {l0 : Lane} {y1} (m : sub 0x380000002cc8028bb5e2000018078000030c000000380751903b1000200022001400000000000005c000020000000000a000080000f0006020600000000800004 M = true) (h0 : Lane.Near M b l0) :
    Lane.Near M b (Lane.beatAngle l0 y1) := by
  delta Lane.beatAngle
  extract_lets -underBinder +onlyGivenNames x10
  clear_value x10
  extract_lets -underBinder +onlyGivenNames x11
  have h11 : Lane.Near M b x11 := Lane.onAx_near (f := _) (AxisState.Near.mk (ch m rfl) kp kp kp kp kp kp kp kp) h0
  clear_value x11
  extract_lets -underBinder +onlyGivenNames x12
  have h12 : Lane.Near M b x12 := Lane.when_near h11 (fun _ g13 => Lane.raise_near (inEvt (ev_DC_EVT (Fin.isLt _)) (tb m rfl)) rfl g13)
  clear_value x12
  extract_lets -underBinder +onlyGivenNames x14
  have h14 : Lane.Near M b x14 := Lane.when_near h12 (fun _ g15 => Lane.note_near (tb m rfl) g15)
  clear_value x14
  exact Lane.near_ite (Lane.near_ite (Lane.substEnd_near (tr m rfl) h14) (Lane.near_ite (Lane.onAx_near (f := _) (AxisState.Near.mk (ch m rfl) kp kp kp kp kp kp kp kp) (Lane.drop_near (inReg (at_DC_STAT (Fin.isLt _)) (tb m rfl)) h14)) h14)) h14

theorem Lane.accumulate_near {M : Nat} {b : Lane} {l0 : Lane} {y1} {y2} (m : sub 0x200000040000000000000000000000000000000000000000000 M = true) (h0 : Lane.Near M b l0) :
    Lane.Near M b (Lane.accumulate l0 y1 y2) := by
  delta Lane.accumulate
  exact Lane.near_ite h0 (Lane.bump_near (inReg (at_LE_CNT (Fin.isLt _)) (tb m rfl)) (Lane.raise_near (inEvt (ev_LE_EVT (Fin.isLt _)) (tb m rfl)) rfl h0))

theorem Lane.loopBits_near {M : Nat} {b : Lane} {l0 : Lane} {y1} {y2} {y3} {y4} {y5} (m : sub 0x20000000000000000000000000000000000000000000 M = true) (h0 : Lane.Near M b l0) :
    Lane.Near M b (Lane.loopBits l0 y1 y2 y3 y4 y5) := by
  delta Lane.loopBits
  exact Lane.putBit_near (inReg (at_LE_STAT (Fin.isLt _)) (tb m rfl)) (Lane.putBit_near (inReg (at_LE_STAT (Fin.isLt _)) (tb m rfl)) h0)

theorem Lane.outerLoop_near {M : Nat} {b : Lane} {l0 : Lane} {y1} (m : sub 0x34000000000000000000000000000000000000000000210000060000000000000000000000000000000000000000000 M = true) (h0 : Lane.Near M b l0) :
    Lane.Near M b (Lane.outerLoop l0 y1) := by
  delta Lane.outerLoop
  extract_lets -underBinder +onlyGivenNames x10 x11 x12
  clear_value x10 x11 x12
  extract_lets -underBinder +onlyGivenNames x13
  have h13 : Lane.Near M b x13 := Lane.accumulate_near (tr m rfl) h0
  clear_value x13
  extract_lets -underBinder +onlyGivenNames x14 x15 x16 x17 x18 x19
  clear_value x14 x15 x16 x17 x18 x19
  extract_lets -underBinder +onlyGivenNames x20
  have h20 : Lane.Near M b x20 := Lane.near_ite h13 (Lane.accumulate_near (tr m rfl) h13)
  clear_value x20
  extract_lets -underBinder +onlyGivenNames x21
  clear_value x21
  extract_lets -underBinder +onlyGivenNames x22
  have h22 : Lane.Near M b x22 := Lane.onLp_near (f := _) (LoopState.Near.mk kp (ch m rfl) kp (ch m rfl) (ch m rfl) kp kp kp kp kp kp kp kp kp) h20
  clear_value x22
  exact Lane.loopBits_near (tr m rfl) (Lane.putInt_near (inReg (at_LE_WREF (Fin.isLt _)) (tb m rfl)) h22)

theorem Lane.speedLoop_near {M : Nat} {b : Lane} {l0 : Lane} {y1} (m : sub 0x48000000000000000000000000000000000000000000230000060000000000000000000000000000000000000000000 M = true) (h0 : Lane.Near M b l0) :
    Lane.Near M b (Lane.speedLoop l0 y1) := by
  delta Lane.speedLoop
  extract_lets -underBinder +onlyGivenNames x10
  clear_value x10
  extract_lets -underBinder +onlyGivenNames x11
  have h11 : Lane.Near M b x11 := Lane.putInt_near (inReg (at_LE_WREF (Fin.isLt _)) (tb m rfl)) h0
  clear_value x11
  extract_lets -underBinder +onlyGivenNames x12 x13
  clear_value x12 x13
  extract_lets -underBinder +onlyGivenNames x14
  have h14 : Lane.Near M b x14 := Lane.accumulate_near (tr m rfl) h11
  clear_value x14
  extract_lets -underBinder +onlyGivenNames x15 x16 x17 x18 x19 x20
  clear_value x15 x16 x17 x18 x19 x20
  extract_lets -underBinder +onlyGivenNames x21
  have h21 : Lane.Near M b x21 := Lane.near_ite h14 (Lane.accumulate_near (tr m rfl) h14)
  clear_value x21
  extract_lets -underBinder +onlyGivenNames x22
  clear_value x22
  extract_lets -underBinder +onlyGivenNames x23
  have h23 : Lane.Near M b x23 := Lane.onLp_near (f := _) (LoopState.Near.mk kp kp (ch m rfl) kp kp (ch m rfl) kp kp kp kp kp kp kp kp) h21
  clear_value x23
  extract_lets -underBinder +onlyGivenNames x24
  have h24 : Lane.Near M b x24 := Lane.put_near (inReg (at_LE_OUT (Fin.isLt _)) (tb m rfl)) (Lane.putInt_near (inReg (at_LE_OUT (Fin.isLt _)) (tb m rfl)) h23)
  clear_value x24
  exact Lane.loopBits_near (tr m rfl) h24

theorem Lane.noProposal_near {M : Nat} {b : Lane} {l0 : Lane} {y1} (m : sub 0x20000020000000000000000000000000000000000000000000 M = true) (h0 : Lane.Near M b l0) :
    Lane.Near M b (Lane.noProposal l0 y1) := by
  delta Lane.noProposal
  exact Lane.drop_near (inReg (at_LE_STAT (Fin.isLt _)) (tb m rfl)) (Lane.drop_near (inReg (at_LE_OUT (Fin.isLt _)) (tb m rfl)) h0)

theorem Lane.loopInputs_near {M : Nat} {b : Lane} {l0 : Lane} {y1} (m : sub 0x90000020000000000000000000000000000000000000000000 M = true) (h0 : Lane.Near M b l0) :
    Lane.Near M b (Lane.loopInputs l0 y1) := by
  delta Lane.loopInputs
  extract_lets -underBinder +onlyGivenNames x10
  have h10 : Lane.Near M b x10 := Lane.putInt_near (inReg (at_LE_WREF (Fin.isLt _)) (tb m rfl)) h0
  clear_value x10
  extract_lets -underBinder +onlyGivenNames x11
  have h11 : Lane.Near M b x11 := Lane.putInt_near (inReg (at_LE_OANG (Fin.isLt _)) (tb m rfl)) h10
  clear_value x11
  extract_lets -underBinder +onlyGivenNames x12
  clear_value x12
  extract_lets -underBinder +onlyGivenNames x13
  have h13 : Lane.Near M b x13 := Lane.putInt_near (inReg (at_LE_OANG (Fin.isLt _)) (tb m rfl)) h11
  clear_value x13
  exact Lane.putFlag_near (inReg (at_LE_STAT (Fin.isLt _)) (tb m rfl)) h13

theorem Lane.runLoops_near {M : Nat} {b : Lane} {l0 : Lane} {y1} {y2} (m : sub 0x207c0000000000000000000000000000000000000000002b0000060000000000000000000000000000000000000000000 M = true) (h0 : Lane.Near M b l0) :
    Lane.Near M b (Lane.runLoops l0 y1 y2) := by
  delta Lane.runLoops
  extract_lets -underBinder +onlyGivenNames x10
  have h10 : Lane.Near M b x10 := Lane.onLp_near (f := _) (LoopState.Near.mk kp kp kp (ch m rfl) kp kp kp kp kp kp kp kp (ch m rfl) kp) (Lane.loopInputs_near (tr m rfl) h0)
  clear_value x10
  exact Lane.near_ite (Lane.noProposal_near (tr m rfl) h10) (by
    extract_lets -underBinder +onlyGivenNames x11
    have h11 : Lane.Near M b x11 := Lane.when_near h10 (fun _ g12 => Lane.outerLoop_near (tr m rfl) g12)
    clear_value x11
    exact Lane.raise_near (inReg (at_LE_STAT (Fin.isLt _)) (tb m rfl)).1 rfl (Lane.speedLoop_near (tr m rfl) h11))

theorem Lane.sumBeat_near {M : Nat} {b : Lane} {l0 : Lane} {y1} (m : sub 0x80000000000000000000000000000000000000000000000000000000000000000000000000000000000000000000000 M = true) (h0 : Lane.Near M b l0) :
    Lane.Near M b (Lane.sumBeat l0 y1) := by
  delta Lane.sumBeat
  extract_lets -underBinder +onlyGivenNames x10
  clear_value x10
  exact Lane.onLp_near (f := _) (LoopState.Near.mk kp kp kp kp kp kp (ch m rfl) kp kp kp kp kp kp kp) h0

theorem Lane.plausCheck_near {M : Nat} {b : Lane} {l0 : Lane} {y1} (m : sub 0x900000000000000000000000000000000000000000000101000020000000000000000000000000000000000000000000 M = true) (h0 : Lane.Near M b l0) :
    Lane.Near M b (Lane.plausCheck l0 y1) := by
  delta Lane.plausCheck
  extract_lets -underBinder +onlyGivenNames x10 x11
  clear_value x10 x11
  extract_lets -underBinder +onlyGivenNames x12
  have h12 : Lane.Near M b x12 := Lane.putInt_near (inReg (at_LE_SUPV (Fin.isLt _)) (tb m rfl)) h0
  clear_value x12
  extract_lets -underBinder +onlyGivenNames x13
  have h13 : Lane.Near M b x13 := Lane.onLp_near (f := _) (LoopState.Near.mk kp kp kp kp kp kp kp (ch m rfl) kp kp (ch m rfl) kp kp kp) h12
  clear_value x13
  extract_lets -underBinder +onlyGivenNames x14
  have h14 : Lane.Near M b x14 := Lane.near_ite h13 (Lane.put_near (inReg (at_LE_PLS1 (Fin.isLt _)) (tb m rfl)) h13)
  clear_value x14
  exact Lane.near_ite (Lane.put_near (inReg (at_LE_STAT (Fin.isLt _)) (tb m rfl)) h14) h14

theorem Lane.oscCheck_near {M : Nat} {b : Lane} {l0 : Lane} {y1} (m : sub 0x460000000000000000000000000000000000000000000100000040000000000000000000000000000000000000000000 M = true) (h0 : Lane.Near M b l0) :
    Lane.Near M b (Lane.oscCheck l0 y1) := by
  delta Lane.oscCheck
  extract_lets -underBinder +onlyGivenNames x10 x11
  clear_value x10 x11
  extract_lets -underBinder +onlyGivenNames x12
  have h12 : Lane.Near M b x12 := Lane.put_near (inReg (at_LE_SUPV (Fin.isLt _)) (tb m rfl)) (Lane.put_near (inReg (at_LE_SUPV (Fin.isLt _)) (tb m rfl)) h0)
  clear_value x12
  extract_lets -underBinder +onlyGivenNames x13
  clear_value x13
  extract_lets -underBinder +onlyGivenNames x14
  have h14 : Lane.Near M b x14 := Lane.onLp_near (f := _) (LoopState.Near.mk kp kp kp kp (ch m rfl) (ch m rfl) kp kp kp (ch m rfl) kp kp kp kp) h12
  clear_value x14
  exact Lane.near_ite (Lane.raise_near (inEvt (ev_LE_EVT (Fin.isLt _)) (tb m rfl)) rfl h14) h14

theorem Lane.supervise_near {M : Nat} {b : Lane} {l0 : Lane} {y1} (m : sub 0xfe0000000000000000000000000000000000000000000101000060000000000000000000000000000000000000000000 M = true) (h0 : Lane.Near M b l0) :
    Lane.Near M b (Lane.supervise l0 y1) := by
  delta Lane.supervise
  extract_lets -underBinder +onlyGivenNames x10
  clear_value x10
  extract_lets -underBinder +onlyGivenNames x11
  have h11 : Lane.Near M b x11 := Lane.near_ite (Lane.plausCheck_near (tr m rfl) h0) (Lane.onLp_near (f := _) (LoopState.Near.mk kp kp kp kp kp kp kp kp kp kp (ch m rfl) kp kp kp) h0)
  clear_value x11
  extract_lets -underBinder +onlyGivenNames x12
  have h12 : Lane.Near M b x12 := Lane.onLp_near (f := _) (LoopState.Near.mk kp kp kp kp kp kp (ch m rfl) kp kp kp kp kp kp kp) (Lane.oscCheck_near (tr m rfl) h11)
  clear_value x12
  exact Lane.near_ite (Lane.put_near (inReg (at_LE_STAT (Fin.isLt _)) (tb m rfl)) h12) (Lane.near_ite (Lane.onLp_near (f := _) (LoopState.Near.mk kp kp kp kp kp kp kp (ch m rfl) (ch m rfl) kp kp kp kp kp) (Lane.put_near (inReg (at_LE_STAT (Fin.isLt _)) (tb m rfl)) h12)) (Lane.near_ite (Lane.put_near (inReg (at_LE_STAT (Fin.isLt _)) (tb m rfl)) h12) h12))

theorem Lane.injected_near {M : Nat} {b : Lane} {l0 : Lane} {y1} (m : sub 0x380000000848000001e00050720560008000000000000751103b0000200002001400000000000000000000c000000000a00008000020004700600000000000004 M = true) (h0 : Lane.Near M b l0) :
    Lane.Near M b (Lane.injected l0 y1) := by
  delta Lane.injected
  extract_lets -underBinder +onlyGivenNames x10
  have h10 : Lane.Near M b x10 := Lane.putFlag_near (inReg at_LE_LSTAT (tb m rfl)) h0
  clear_value x10
  exact Lane.near_ite h10 (Lane.laneOut_near (tr m rfl) (Lane.raise_near (inEvt ev_LE_LEVT (tb m rfl)) rfl h10))

theorem Lane.showBox_near {M : Nat} {b : Lane} {l0 : Lane} (m : sub 0x2100000 M = true) (h0 : Lane.Near M b l0) :
    Lane.Near M b (Lane.showBox l0) := by
  delta Lane.showBox
  extract_lets -underBinder +onlyGivenNames x10
  have h10 : Lane.Near M b x10 := Lane.put_near (inReg at_BX_STAT (tb m rfl)) h0
  clear_value x10
  extract_lets -underBinder +onlyGivenNames x11
  have h11 : Lane.Near M b x11 := Lane.putFlag_near (inReg at_BX_STAT (tb m rfl)) h10
  clear_value x11
  extract_lets -underBinder +onlyGivenNames x12
  have h12 : Lane.Near M b x12 := Lane.put_near (inReg at_BX_DIECOM (tb m rfl)) h11
  clear_value x12
  extract_lets -underBinder +onlyGivenNames x13
  have h13 : Lane.Near M b x13 := Lane.put_near (inReg at_BX_DIECOM (tb m rfl)) h12
  clear_value x13
  extract_lets -underBinder +onlyGivenNames x14 x15
  clear_value x14 x15
  exact Lane.put_near (inReg at_BX_STAT (tb m rfl)) h13

theorem Lane.beginWork_near {M : Nat} {b : Lane} {l0 : Lane} {y1} (m : sub 0x380000800000000000000000000000000000000000080000000000000000000000000000000000000000000000000010000000000000002000000000000000000 M = true) (h0 : Lane.Near M b l0) :
    Lane.Near M b (Lane.beginWork l0 y1) := by
  delta Lane.beginWork
  split
  · exact Lane.onPower_near (f := _) (PowerState.Near.mk kp kp kp kp kp kp (ch m rfl) kp kp kp kp kp kp kp kp kp kp kp kp kp kp kp kp kp kp) h0
  · extract_lets -underBinder +onlyGivenNames x10
    clear_value x10
    exact Lane.onReh_near (f := _) (RehState.Near.mk kp kp kp kp kp kp kp kp (ch m rfl) kp kp kp kp kp kp kp kp kp kp kp kp kp kp kp kp) h0
  · exact Lane.onReh_near (f := _) (RehState.Near.mk kp kp kp kp kp kp kp kp kp (ch m rfl) kp kp kp kp kp kp kp kp kp kp kp kp kp kp kp) h0
  · exact Lane.onReh_near (f := _) (RehState.Near.mk kp kp kp kp kp kp kp kp kp kp (ch m rfl) kp kp kp kp kp kp kp kp kp kp kp kp kp kp) h0
  · extract_lets -underBinder +onlyGivenNames x11
    have h11 : Lane.Near M b x11 := Lane.put_near (inReg at_BI_STAT (tb m rfl)) h0
    clear_value x11
    extract_lets -underBinder +onlyGivenNames x12
    have h12 : Lane.Near M b x12 := Lane.when_near h11 (fun _ g13 => Lane.allAxes_near g13 (fun _ _ g14 => Lane.put_near (inReg (at_GD_LKCTL (Fin.isLt _)) (tb m rfl)) g14))
    clear_value x12
    exact Lane.near_ite (Lane.onTrust_near (f := _) (TrustState.Near.mk kp kp kp kp kp kp kp kp (ch m rfl) kp kp kp kp kp kp kp kp kp kp kp) h12) h12
  · extract_lets -underBinder +onlyGivenNames x15
    have h15 : Lane.Near M b x15 := Lane.put_near (inReg at_BI_STAT (tb m rfl)) h0
    clear_value x15
    extract_lets -underBinder +onlyGivenNames x16
    have h16 : Lane.Near M b x16 := Lane.when_near h15 (fun _ g17 => Lane.allAxes_near g17 (fun _ _ g18 => Lane.put_near (inReg (at_GD_LKCTL (Fin.isLt _)) (tb m rfl)) g18))
    clear_value x16
    exact Lane.near_ite (Lane.onTrust_near (f := _) (TrustState.Near.mk kp kp kp kp kp kp kp kp (ch m rfl) kp kp kp kp kp kp kp kp kp kp kp) h16) h16
  · exact h0

theorem Lane.setBrake_near {M : Nat} {b : Lane} {l0 : Lane} {y1} {y2} (m : sub 0x400000000000000000000000000000000000000000000000000000000000000000000000000000000000000000000000000000000000000000000000000000100000200000 M = true) (h0 : Lane.Near M b l0) :
    Lane.Near M b (Lane.setBrake l0 y1 y2) := by
  delta Lane.setBrake
  extract_lets -underBinder +onlyGivenNames x10 x11
  clear_value x10 x11
  extract_lets -underBinder +onlyGivenNames x12
  have h12 : Lane.Near M b x12 := Lane.onBox_near (f := _) (BoxState.Near.mk kp kp kp kp kp kp kp (ch m rfl) kp kp kp kp kp kp kp kp kp kp kp) h0
  clear_value x12
  exact Lane.when_near (Lane.put_near (inReg (at_BX_BRKLV (Fin.isLt _)) (tb m rfl)) h12) (fun _ g13 => Lane.raise_near (inEvt ev_BX_EVT (tb m rfl)) rfl g13)

theorem Lane.sellOne_near {M : Nat} {b : Lane} {l0 : Lane} {y1} (m : sub 0x538000000380000800000000000000000000000000000000000080000000000000000000000000000000000000000000000000010000000000000002000000100020200000 M = true) (h0 : Lane.Near M b l0) :
    Lane.Near M b (Lane.sellOne l0 y1) := by
  delta Lane.sellOne
  extract_lets -underBinder +onlyGivenNames x10
  clear_value x10
  extract_lets -underBinder +onlyGivenNames x11
  have h11 : Lane.Near M b x11 := Lane.onBox_near (f := _) (BoxState.Near.mk (ch m rfl) (ch m rfl) (ch m rfl) kp kp (ch m rfl) kp kp kp kp kp kp kp kp kp kp kp kp kp) h0
  clear_value x11
  extract_lets -underBinder +onlyGivenNames x12
  have h12 : Lane.Near M b x12 := Lane.allAxes_near h11 (fun _ _ g13 => Lane.setBrake_near (tr m rfl) g13)
  clear_value x12
  exact Lane.beginWork_near (tr m rfl) (Lane.bump_near (inReg at_BX_TICK (tb m rfl)) h12)

theorem sellAll_near {M k : Nat} {b l : Lane} (m : sub 0x538000000380000800000000000000000000000000000000000080000000000000000000000000000000000000000000000000010000000000000002000000100020200000 M = true) (h : Lane.Near M b l) :
    Lane.Near M b (sellAll k l) := by
  induction k generalizing l with
  | zero => exact h
  | succ k ih =>
    unfold sellAll
    split
    · exact h
    · exact ih (Lane.sellOne_near (tr m rfl) h)

theorem bumpBy_near {M n : Nat} {b l : Lane} {f : Fld} (ha : Put f.addr M) (h : Lane.Near M b l) :
    Lane.Near M b (bumpBy n f l) := by
  induction n generalizing l with
  | zero => exact h
  | succ n ih => exact ih (Lane.bump_near ha h)

theorem Lane.decideSales_near {M : Nat} {b : Lane} {l0 : Lane} (m : sub 0x5b8000000380000800000000000000000000000000000000000080000000000000000000000000000000000000000000000000010000000000000002000000100022300000 M = true) (h0 : Lane.Near M b l0) :
    Lane.Near M b (Lane.decideSales l0) := by
  delta Lane.decideSales
  extract_lets -underBinder +onlyGivenNames x10
  have h10 : Lane.Near M b x10 := sellAll_near (tr m rfl) h0
  clear_value x10
  extract_lets -underBinder +onlyGivenNames x11
  have h11 : Lane.Near M b x11 := bumpBy_near (inReg at_BX_TICK (tb m rfl)) h10
  clear_value x11
  exact Lane.showBox_near (tr m rfl) (Lane.onBox_near (f := _) (BoxState.Near.mk kp kp kp kp (ch m rfl) kp kp kp kp kp kp kp kp kp kp kp kp kp kp) h11)

theorem Lane.queueTicket_near {M : Nat} {b : Lane} {l0 : Lane} {y1} {y2} {y3} {y4} (m : sub 0x48000000000000000000000005e00000000000000000000000000000103b00000000000014000000000000000000000000000000000000000000000000000000002300000 M = true) (h0 : Lane.Near M b l0) :
    Lane.Near M b (Lane.queueTicket l0 y1 y2 y3 y4) := by
  delta Lane.queueTicket
  extract_lets -underBinder +onlyGivenNames x10
  clear_value x10
  extract_lets -underBinder +onlyGivenNames x11
  have h11 : Lane.Near M b x11 := Lane.onBox_near (f := _) (BoxState.Near.mk kp kp kp (ch m rfl) kp kp kp kp kp kp kp kp kp kp kp kp kp kp kp) h0
  clear_value x11
  exact Lane.near_ite (by
    extract_lets -underBinder +onlyGivenNames x12
    have h12 : Lane.Near M b x12 := Lane.raise_near (inEvt ev_BX_EVT (tb m rfl)) rfl h11
    clear_value x12
    split
    · exact h12
    · exact Lane.answer_near (tr m rfl) h12) (Lane.showBox_near (tr m rfl) (Lane.onBox_near (f := _) (BoxState.Near.mk (ch m rfl) kp kp kp kp kp kp kp kp kp kp kp kp kp kp kp kp kp kp) h11))

theorem Lane.queueActivity_near {M : Nat} {b : Lane} {l0 : Lane} {y1} {y2} {y3} (m : sub 0x48000000000000000000000005e00000000000000000000000000000103b00000000000014000000000000000000000000000000000000000000000000000000002300000 M = true) (h0 : Lane.Near M b l0) :
    Lane.Near M b (Lane.queueActivity l0 y1 y2 y3) := by
  delta Lane.queueActivity
  exact Lane.queueTicket_near (tr m rfl) h0

theorem Lane.cool_near {M : Nat} {b : Lane} {l0 : Lane} {y1} (m : sub 0x20000000000000000000000000000000000000000000000000000000000000000000000000000000000000000000000000000000000000000000000000000000000000000 M = true) (h0 : Lane.Near M b l0) :
    Lane.Near M b (Lane.cool l0 y1) := by
  delta Lane.cool
  exact Lane.onBox_near (f := _) (BoxState.Near.mk kp kp (ch m rfl) kp kp kp kp kp kp kp kp kp kp kp kp kp kp kp kp) h0

theorem Lane.endBoost_near {M : Nat} {b : Lane} {l0 : Lane} (m : sub 0x380000000000000000000000000000000000000000000000000000000000000000000000000000000000000 M = true) (h0 : Lane.Near M b l0) :
    Lane.Near M b (Lane.endBoost l0) := by
  delta Lane.endBoost
  exact Lane.near_ite h0 (Lane.moveCore_near (tr m rfl) h0)

theorem Lane.interruptWork_near {M : Nat} {b : Lane} {l0 : Lane} {y1} (m : sub 0x380000000000000000000000000000000000000000380000000000000000000000000000000000000000000000000000000000000000004000000000000000000 M = true) (h0 : Lane.Near M b l0) :
    Lane.Near M b (Lane.interruptWork l0 y1) := by
  delta Lane.interruptWork
  split
  · exact Lane.endBoost_near (tr m rfl) h0
  · exact Lane.raise_near (inEvt ev_BI_EVT (tb m rfl)) rfl (Lane.onReh_near (f := _) (RehState.Near.mk kp kp kp kp kp kp kp kp (ch m rfl) kp kp kp kp kp kp kp kp kp kp kp kp kp kp kp kp) h0)
  · exact Lane.raise_near (inEvt ev_BI_EVT (tb m rfl)) rfl (Lane.onReh_near (f := _) (RehState.Near.mk kp kp kp kp kp kp kp kp kp (ch m rfl) kp kp kp kp kp kp kp kp kp kp kp kp kp kp kp) h0)
  · exact Lane.raise_near (inEvt ev_BI_EVT (tb m rfl)) rfl (Lane.onReh_near (f := _) (RehState.Near.mk kp kp kp kp kp kp kp kp kp kp (ch m rfl) kp kp kp kp kp kp kp kp kp kp kp kp kp kp) h0)
  · exact h0

theorem Lane.suspend_near {M : Nat} {b : Lane} {l0 : Lane} {y1} (m : sub 0x38000000380000000000000000000000000000000000000000380000000000000000000000000000000000000000000000000000000000000000004000000000000000000 M = true) (h0 : Lane.Near M b l0) :
    Lane.Near M b (Lane.suspend l0 y1) := by
  delta Lane.suspend
  extract_lets -underBinder +onlyGivenNames x10
  have h10 : Lane.Near M b x10 := Lane.onBox_near (f := _) (BoxState.Near.mk (ch m rfl) (ch m rfl) kp kp kp kp kp kp kp kp kp kp kp kp kp kp kp kp kp) h0
  clear_value x10
  exact Lane.interruptWork_near (tr m rfl) (Lane.cool_near (tr m rfl) h10)

theorem Lane.suspendBeat_near {M : Nat} {b : Lane} {l0 : Lane} (m : sub 0x38000000380000000000000000000000000000000000000000380000000000000000000000000000000000000000000000000000000000000000004000000000000000000 M = true) (h0 : Lane.Near M b l0) :
    Lane.Near M b (Lane.suspendBeat l0) := by
  delta Lane.suspendBeat
  exact Lane.near_foldl (fun _ _ q10 g10 => Lane.suspend_near (tr m rfl) g10) h0

theorem Lane.retire_near {M : Nat} {b : Lane} {l0 : Lane} {y1} (m : sub 0x30000000000000000000000000000000000000000000000000000000000000000000000000000000000000000000000000000000000000000000000000000000000000000 M = true) (h0 : Lane.Near M b l0) :
    Lane.Near M b (Lane.retire l0 y1) := by
  delta Lane.retire
  exact Lane.cool_near (tr m rfl) (Lane.onBox_near (f := _) (BoxState.Near.mk kp (ch m rfl) kp kp kp kp kp kp kp kp kp kp kp kp kp kp kp kp kp) h0)

theorem Lane.endWork_near {M : Nat} {b : Lane} {l0 : Lane} {y1} (m : sub 0x5b8000000380000800000000000000000000000000000000000080000000000000000000000000000000000000000000000000010000000000000002000000100022300000 M = true) (h0 : Lane.Near M b l0) :
    Lane.Near M b (Lane.endWork l0 y1) := by
  delta Lane.endWork
  split
  · exact h0
  · exact Lane.decideSales_near (tr m rfl) (Lane.retire_near (tr m rfl) h0)

theorem Lane.windingHeat_near {M : Nat} {b : Lane} {l0 : Lane} {y1} (m : sub 0x100000000000000000000000000000000000000000000000000000010000000000000000000000000000000000000000000000000000000000000000000000040000200000 M = true) (h0 : Lane.Near M b l0) :
    Lane.Near M b (Lane.windingHeat l0 y1) := by
  delta Lane.windingHeat
  extract_lets -underBinder +onlyGivenNames x10 x11 x12 x13 x14 x15 x16 x17 x18
  clear_value x10 x11 x12 x13 x14 x15 x16 x17 x18
  extract_lets -underBinder +onlyGivenNames x19
  have h19 : Lane.Near M b x19 := Lane.onBox_near (f := _) (BoxState.Near.mk kp kp kp kp kp (ch m rfl) kp kp kp kp kp kp kp kp kp kp kp kp kp) h0
  clear_value x19
  extract_lets -underBinder +onlyGivenNames x20
  have h20 : Lane.Near M b x20 := Lane.onAx_near (f := _) (AxisState.Near.mk (ch m rfl) kp kp kp kp kp kp kp kp) h19
  clear_value x20
  extract_lets -underBinder +onlyGivenNames x21
  have h21 : Lane.Near M b x21 := Lane.putInt_near (inReg (at_BX_WTEMP (Fin.isLt _)) (tb m rfl)) h20
  clear_value x21
  extract_lets -underBinder +onlyGivenNames x22
  have h22 : Lane.Near M b x22 := Lane.put_near (inReg (at_BX_WTEMP (Fin.isLt _)) (tb m rfl)) h21
  clear_value x22
  exact Lane.when_near h22 (fun _ g23 => Lane.raise_near (inEvt ev_BX_EVT (tb m rfl)) rfl g23)

theorem Lane.setLimit_near {M : Nat} {b : Lane} {l0 : Lane} {y1} (m : sub 0x400000000000000000200000 M = true) (h0 : Lane.Near M b l0) :
    Lane.Near M b (Lane.setLimit l0 y1) := by
  delta Lane.setLimit
  extract_lets -underBinder +onlyGivenNames x10 x11 x12
  clear_value x10 x11 x12
  extract_lets -underBinder +onlyGivenNames x13
  have h13 : Lane.Near M b x13 := Lane.put_near (inReg (at_DC_TQLIM (Fin.isLt _)) (tb m rfl)) h0
  clear_value x13
  exact Lane.when_near h13 (fun _ g14 => Lane.raise_near (inEvt ev_BX_EVT (tb m rfl)) rfl g14)

theorem Lane.refuseRegen_near {M : Nat} {b : Lane} {l0 : Lane} (m : sub 0x800000000000000000000000000000000000000000000000000000000000000000000000000000000000000000000000000000000000000000000000000000000020300000 M = true) (h0 : Lane.Near M b l0) :
    Lane.Near M b (Lane.refuseRegen l0) := by
  delta Lane.refuseRegen
  exact Lane.onBox_near (f := _) (BoxState.Near.mk kp kp kp kp kp kp kp kp (ch m rfl) kp kp kp kp kp kp kp kp kp kp) (Lane.bump_near (inReg at_BX_TICK (tb m rfl)) (Lane.raise_near (inEvt ev_BX_EVT (tb m rfl)) rfl (Lane.drop_near (inReg at_BX_STAT (tb m rfl)) h0)))

theorem Lane.regenCycle_near {M : Nat} {b : Lane} {l0 : Lane} (m : sub 0x7a00000000000000000000000000000000000000000000000000000000000000000000000000000000000000000000000000000000000000000000000000000000028300000 M = true) (h0 : Lane.Near M b l0) :
    Lane.Near M b (Lane.regenCycle l0) := by
  delta Lane.regenCycle
  extract_lets -underBinder +onlyGivenNames x10 x11 x12 x13
  clear_value x10 x11 x12 x13
  extract_lets -underBinder +onlyGivenNames x14
  have h14 : Lane.Near M b x14 := Lane.onBox_near (f := _) (BoxState.Near.mk kp kp kp kp kp kp (ch m rfl) kp kp (ch m rfl) (ch m rfl) (ch m rfl) kp kp kp kp kp kp kp) h0
  clear_value x14
  extract_lets -underBinder +onlyGivenNames x15
  have h15 : Lane.Near M b x15 := Lane.put_near (inReg at_BX_RES1 (tb m rfl)) h14
  clear_value x15
  extract_lets -underBinder +onlyGivenNames x16
  clear_value x16
  exact Lane.near_ite (Lane.onBox_near (f := _) (BoxState.Near.mk kp kp kp kp kp kp kp kp (ch m rfl) kp kp kp kp kp kp kp kp kp kp) (Lane.raise_near (inReg at_BX_STAT (tb m rfl)).1 rfl h15)) (Lane.near_ite (Lane.drop_near (inReg at_BX_STAT (tb m rfl)) h15) (Lane.near_ite (Lane.drop_near (inReg at_BX_STAT (tb m rfl)) h15) (Lane.near_ite (Lane.onBox_near (f := _) (BoxState.Near.mk kp kp kp kp kp kp kp kp (ch m rfl) kp kp kp kp kp kp kp kp kp kp) (Lane.bump_near (inReg at_BX_TICK (tb m rfl)) (Lane.raise_near (inReg at_BX_STAT (tb m rfl)).1 rfl h15))) (Lane.refuseRegen_near (tr m rfl) h15))))

theorem Lane.brakeHeat_near {M : Nat} {b : Lane} {l0 : Lane} {y1} {y2} (m : sub 0x400000000000000000000000000000000000000000000000000000000000000000000000000000000000000000000000000000000000000000000000000000100000200000 M = true) (h0 : Lane.Near M b l0) :
    Lane.Near M b (Lane.brakeHeat l0 y1 y2) := by
  delta Lane.brakeHeat
  extract_lets -underBinder +onlyGivenNames x10 x11 x12 x13 x14
  clear_value x10 x11 x12 x13 x14
  exact Lane.setBrake_near (tr m rfl) h0

theorem Lane.showSup_near {M : Nat} {b : Lane} {l0 : Lane} (m : sub 0x10000000 M = true) (h0 : Lane.Near M b l0) :
    Lane.Near M b (Lane.showSup l0) := by
  delta Lane.showSup
  exact Lane.near_ite (Lane.put_near (inReg at_BX_SUP (tb m rfl)) h0) (Lane.drop_near (inReg at_BX_SUP (tb m rfl)) h0)

theorem Lane.boxBeat_near {M : Nat} {b : Lane} {l0 : Lane} {y1} (m : sub 0x3c7fb800000038000080000000000000000000000000000000000038001000000000000000000000000000000000000000000000001000000000040000600000014003a300000 M = true) (h0 : Lane.Near M b l0) :
    Lane.Near M b (Lane.boxBeat l0 y1) := by
  delta Lane.boxBeat
  extract_lets -underBinder +onlyGivenNames x10
  have h10 : Lane.Near M b x10 := Lane.onBox_near (f := _) (BoxState.Near.mk kp kp kp kp kp kp kp kp kp kp (ch m rfl) (ch m rfl) kp kp kp kp kp kp kp) h0
  clear_value x10
  extract_lets -underBinder +onlyGivenNames x11
  have h11 : Lane.Near M b x11 := Lane.allAxes_near h10 (fun _ _ g12 => Lane.windingHeat_near (tr m rfl) g12)
  clear_value x11
  extract_lets -underBinder +onlyGivenNames x13
  have h13 : Lane.Near M b x13 := Lane.onBox_near (f := _) (BoxState.Near.mk kp kp kp kp kp kp kp kp kp kp kp kp kp kp kp kp kp (ch m rfl) kp) h11
  clear_value x13
  extract_lets -underBinder +onlyGivenNames x14
  have h14 : Lane.Near M b x14 := Lane.when_near h13 (fun _ g15 => Lane.allAxes_near (Lane.regenCycle_near (tr m rfl) (Lane.onBox_near (f := _) (BoxState.Near.mk kp kp kp kp kp kp kp kp kp kp kp kp kp kp kp (ch m rfl) (ch m rfl) kp kp) g15)) (fun _ _ g16 => Lane.setLimit_near (tr m rfl) g16))
  clear_value x14
  extract_lets -underBinder +onlyGivenNames x17
  have h17 : Lane.Near M b x17 := Lane.suspendBeat_near (tr m rfl) h14
  clear_value x17
  extract_lets -underBinder +onlyGivenNames x18
  clear_value x18
  extract_lets -underBinder +onlyGivenNames x19
  have h19 : Lane.Near M b x19 := Lane.onBox_near (f := _) (BoxState.Near.mk kp kp kp kp kp kp kp kp kp kp kp kp kp kp kp kp kp kp (ch m rfl)) h17
  clear_value x19
  exact Lane.decideSales_near (tr m rfl) (Lane.showSup_near (tr m rfl) h19)

theorem Lane.writeEntry_near {M : Nat} {b : Lane} {l0 : Lane} {y1} {y2} {y3} {y4} {y5} {y6} (m : sub 0x4000000000000000000000000000000000000000000000000000000000000000000000000000000000000000440000000000000000000000000000000000000000000000000000000000000000 M = true) (h0 : Lane.Near M b l0) :
    Lane.Near M b (Lane.writeEntry l0 y1 y2 y3 y4 y5 y6) := by
  delta Lane.writeEntry
  extract_lets -underBinder +onlyGivenNames x10 x11 x12
  clear_value x10 x11 x12
  extract_lets -underBinder +onlyGivenNames x13
  have h13 : Lane.Near M b x13 := Lane.onDict_near (f := _) (DictState.Near.mk (ch m rfl) kp) h0
  clear_value x13
  exact Lane.when_near h13 (fun _ g14 => Lane.bump_near (inReg at_SG_CNT2 (tb m rfl)) (Lane.raise_near (inEvt ev_SG_EVT (tb m rfl)) rfl g14))

theorem Lane.writeSignal_near {M : Nat} {b : Lane} {l0 : Lane} {y1} {y2} {y3} {y4} (m : sub 0x4000000000000000000000000000000000000000000000000000000000000000000000000000000000000000540000000000000000000000000000000000000000000000000000000000000000 M = true) (h0 : Lane.Near M b l0) :
    Lane.Near M b (Lane.writeSignal l0 y1 y2 y3 y4) := by
  delta Lane.writeSignal
  split
  · exact Lane.near_ite (Lane.writeEntry_near (tr m rfl) h0) (Lane.bump_near (inReg at_SG_CNT0 (tb m rfl)) (Lane.raise_near (inEvt ev_SG_EVT (tb m rfl)) rfl h0))
  · exact Lane.bump_near (inReg at_SG_CNT0 (tb m rfl)) (Lane.raise_near (inEvt ev_SG_EVT (tb m rfl)) rfl h0)

theorem Lane.loadDictionary_near {M : Nat} {b : Lane} {l0 : Lane} (m : sub 0xc000000000000000000000000000000000000000000000000000000000000000000000000000000000000000560000000000000000000000000000000000000000000000000000000000000000 M = true) (h0 : Lane.Near M b l0) :
    Lane.Near M b (Lane.loadDictionary l0) := by
  delta Lane.loadDictionary
  split
  · exact Lane.onDict_near (f := _) (DictState.Near.mk (ch m rfl) kp) h0
  · extract_lets -underBinder +onlyGivenNames x10
    clear_value x10
    extract_lets -underBinder +onlyGivenNames x11
    have h11 : Lane.Near M b x11 := Lane.onDict_near (f := _) (DictState.Near.mk (ch m rfl) (ch m rfl)) h0
    clear_value x11
    extract_lets -underBinder +onlyGivenNames x12
    have h12 : Lane.Near M b x12 := by
      unfold x12
      refine Lane.near_foldl (fun _ _ q13 g13 => ?_) h11
      split
      · exact Lane.writeSignal_near (tr m rfl) g13
      · exact g13
    clear_value x12
    exact Lane.put_near (inReg at_SG_STAT (tb m rfl)) (Lane.raise_near (inReg at_SG_STAT (tb m rfl)).1 rfl h12)

theorem Lane.sealedEvent_near {M : Nat} {b : Lane} {l0 : Lane} {y1} {y2} (m : sub 0x800000000000000000000000000000000000000000000000000000000000000000 M = true) (h0 : Lane.Near M b l0) :
    Lane.Near M b (Lane.sealedEvent l0 y1 y2) := by
  delta Lane.sealedEvent
  exact Lane.put_near (inReg at_SG_LASTS (tb m rfl)) (Lane.put_near (inReg at_SG_LASTS (tb m rfl)) h0)

theorem Lane.presentCopy_near {M : Nat} {b l : Lane} {y1} {y2} (m : sub 0xa00000000000000000000000000000000000000000000000000000000000000000 M = true) (h : Lane.Near M b l) :
    Lane.Near M b (Lane.presentCopy l y1 y2).1 := by
  unfold Lane.presentCopy
  split
  · exact h
  · split
    · exact h
    · split
      · exact h
      · exact Lane.sealedEvent_near (tr m rfl) (Lane.bump_near (inReg at_SG_CNT1 (tb m rfl)) h)

theorem Lane.acceptSealed_near {M : Nat} {b : Lane} {l0 : Lane} {y1} {y2} {y3} {y4} {y5} {y6} (m : sub 0x4000000000000000000000000000000000000000000000000000000000000000000000000000000000000000640000000000000000000000000000000000000000000000000000000000000000 M = true) (h0 : Lane.Near M b l0) :
    Lane.Near M b (Lane.acceptSealed l0 y1 y2 y3 y4 y5 y6) := by
  delta Lane.acceptSealed
  extract_lets -underBinder +onlyGivenNames x10
  clear_value x10
  extract_lets -underBinder +onlyGivenNames x11
  have h11 : Lane.Near M b x11 := Lane.when_near h0 (fun _ g12 => Lane.addTo_near (inReg at_SG_CNT1 (tb m rfl)) (Lane.raise_near (inEvt ev_SG_EVT (tb m rfl)) rfl g12))
  clear_value x11
  exact Lane.writeEntry_near (tr m rfl) h11

theorem Lane.singlePath_near {M : Nat} {b : Lane} {l0 : Lane} {y1} {y2} {y3} {y4} (m : sub 0xc000000000000000000000000000000000000000000000000000000000000000000000000000000000000000e40000000000000000000000000000000000000000000000000000000000000000 M = true) (h0 : Lane.Near M b l0) :
    Lane.Near M b (Lane.singlePath l0 y1 y2 y3 y4) := by
  delta Lane.singlePath
  exact Lane.near_ite (Lane.sealedEvent_near (tr m rfl) (Lane.bump_near (inReg at_SG_CNT2 (tb m rfl)) (Lane.raise_near (inEvt ev_SG_EVT (tb m rfl)) rfl (Lane.acceptSealed_near (tr m rfl) h0)))) (Lane.onDict_near (f := _) (DictState.Near.mk kp (ch m rfl)) (Lane.sealedEvent_near (tr m rfl) (Lane.bump_near (inReg at_SG_CNT1 (tb m rfl)) (Lane.raise_near (inEvt ev_SG_EVT (tb m rfl)) rfl h0))))

theorem Lane.compareSealed_near {M : Nat} {b : Lane} {l0 : Lane} {y1} {y2} {y3} {y4} (m : sub 0xc000000000000000000000000000000000000000000000000000000000000000000000000000000000000000e40000000000000000000000000000000000000000000000000000000000000000 M = true) (h0 : Lane.Near M b l0) :
    Lane.Near M b (Lane.compareSealed l0 y1 y2 y3 y4) := by
  delta Lane.compareSealed
  split
  · exact h0
  · extract_lets -underBinder +onlyGivenNames x10
    have h10 : Lane.Near M b x10.1 := Lane.presentCopy_near (tr m rfl) h0
    clear_value x10
    extract_lets -underBinder +onlyGivenNames x11
    have h11 : Lane.Near M b x11.1 := Lane.presentCopy_near (tr m rfl) h10
    clear_value x11
    extract_lets -underBinder +onlyGivenNames x12
    have h12 : Lane.Near M b x12 := h11
    clear_value x12
    split
    · exact Lane.near_ite (Lane.acceptSealed_near (tr m rfl) h12) (Lane.sealedEvent_near (tr m rfl) (Lane.bump_near (inReg at_SG_CNT1 (tb m rfl)) (Lane.raise_near (inEvt ev_SG_EVT (tb m rfl)) rfl h12)))
    · exact Lane.singlePath_near (tr m rfl) h12
    · exact Lane.singlePath_near (tr m rfl) h12
    · exact h12

theorem Lane.latchWindow_near {M : Nat} {b : Lane} {l0 : Lane} {y1} {y2} (m : sub 0x7000000000000000000000000000000000000000000000000000000000000000000 M = true) (h0 : Lane.Near M b l0) :
    Lane.Near M b (Lane.latchWindow l0 y1 y2) := by
  delta Lane.latchWindow
  extract_lets -underBinder +onlyGivenNames x10
  have h10 : Lane.Near M b x10 := Lane.put_near (inReg (at_SG_HSEL (Fin.isLt _)) (tb m rfl)) h0
  clear_value x10
  extract_lets -underBinder +onlyGivenNames x11
  clear_value x11
  extract_lets -underBinder +onlyGivenNames x12
  have h12 : Lane.Near M b x12 := Lane.near_foldl (fun _ _ q13 g13 => Lane.setWord_near (inReg (at_SG_LAT (Fin.isLt _) (List.mem_range.1 q13)) (tb m rfl)) g13) h10
  clear_value x12
  extract_lets -underBinder +onlyGivenNames x14
  clear_value x14
  exact Lane.raise_near (inReg (at_SG_WST (Fin.isLt _)) (tb m rfl)).1 rfl (Lane.putFlag_near (inReg (at_SG_WST (Fin.isLt _)) (tb m rfl)) h12)

theorem Lane.commitWindow_near {M : Nat} {b : Lane} {l0 : Lane} {y1} (m : sub 0x4000000000000000000000000000000000000000000000000000000000000000000000000000000000000002540000000000000000000000000000000000000000000000000000000000000000 M = true) (h0 : Lane.Near M b l0) :
    Lane.Near M b (Lane.commitWindow l0 y1) := by
  delta Lane.commitWindow
  extract_lets -underBinder +onlyGivenNames x10 x11
  clear_value x10 x11
  exact Lane.putFlag_near (inReg (at_SG_WST (Fin.isLt _)) (tb m rfl)) (Lane.writeSignal_near (tr m rfl) h0)

theorem Lane.applyIncr_near {M : Nat} {b : Lane} {l0 : Lane} (m : sub 0x1000000000000000000000000000000000000000000000000000000000 M = true) (h0 : Lane.Near M b l0) :
    Lane.Near M b (Lane.applyIncr l0) := by
  delta Lane.applyIncr
  exact Lane.near_ite h0 (Lane.near_ite (Lane.put_near (inReg at_TM_APPL (tb m rfl)) h0) (Lane.put_near (inReg at_TM_APPL (tb m rfl)) h0))

theorem Lane.setTimeMode_near {M : Nat} {b : Lane} {l0 : Lane} {y1} (m : sub 0x1a000000000000000000000000000000000000000000000000000000000000000000000000000000000000000000001180000000000000000000000000000000000000000000000000000000 M = true) (h0 : Lane.Near M b l0) :
    Lane.Near M b (Lane.setTimeMode l0 y1) := by
  delta Lane.setTimeMode
  extract_lets -underBinder +onlyGivenNames x10
  clear_value x10
  extract_lets -underBinder +onlyGivenNames x11
  have h11 : Lane.Near M b x11 := Lane.put_near (inReg at_TM_STAT (tb m rfl)) h0
  clear_value x11
  extract_lets -underBinder +onlyGivenNames x12
  have h12 : Lane.Near M b x12 := Lane.when_near h11 (fun _ g13 => Lane.raise_near (inEvt ev_TM_EVT (tb m rfl)) rfl g13)
  clear_value x12
  extract_lets -underBinder +onlyGivenNames x14
  have h14 : Lane.Near M b x14 := Lane.when_near h12 (fun _ g15 => Lane.raise_near (inEvt ev_TM_EVT (tb m rfl)) rfl g15)
  clear_value x14
  extract_lets -underBinder +onlyGivenNames x16
  have h16 : Lane.Near M b x16 := Lane.when_near h14 (fun _ g17 => Lane.raise_near (inEvt ev_TM_EVT (tb m rfl)) rfl g17)
  clear_value x16
  extract_lets -underBinder +onlyGivenNames x18
  clear_value x18
  exact Lane.applyIncr_near (tr m rfl) (Lane.onTime_near (f := _) (TimeState.Near.mk kp kp (ch m rfl) kp (ch m rfl) (ch m rfl) kp kp kp) h16)

theorem Lane.writeIncr_near {M : Nat} {b : Lane} {l0 : Lane} {y1} (m : sub 0x1000000000000000000000000000000000000000000000000000000000000000000000000000000000000000000001800000000000000000000000000000000000000000000000000000000 M = true) (h0 : Lane.Near M b l0) :
    Lane.Near M b (Lane.writeIncr l0 y1) := by
  delta Lane.writeIncr
  exact Lane.near_ite (Lane.onTime_near (f := _) (TimeState.Near.mk kp (ch m rfl) kp kp kp kp kp kp kp) h0) (Lane.applyIncr_near (tr m rfl) (Lane.put_near (inReg at_TM_INCR (tb m rfl)) h0))

theorem Lane.startSlew_near {M : Nat} {b : Lane} {l0 : Lane} {y1} (m : sub 0x800000000000000000000000000000000000000000000000000000000000000000000000000000000000000000001180000000000000000000000000000000000000000200000000000000 M = true) (h0 : Lane.Near M b l0) :
    Lane.Near M b (Lane.startSlew l0 y1) := by
  delta Lane.startSlew
  extract_lets -underBinder +onlyGivenNames x10
  clear_value x10
  extract_lets -underBinder +onlyGivenNames x11
  have h11 : Lane.Near M b x11 := Lane.put_near (inReg at_TM_APPL (tb m rfl)) (Lane.raise_near (inReg at_WG_STAT (tb m rfl)).1 rfl h0)
  clear_value x11
  split
  · exact Lane.raise_near (inEvt ev_TM_EVT (tb m rfl)) rfl (Lane.drop_near (inReg at_TM_STAT (tb m rfl)) (Lane.onTime_near (f := _) (TimeState.Near.mk (ch m rfl) kp kp kp kp kp kp kp kp) h11))
  · exact h11

theorem Lane.endSlew_near {M : Nat} {b : Lane} {l0 : Lane} (m : sub 0x1000000000000000000000000000000000000000000000000000000000000000000000000000000000000000000001800000000000000000000000000000000000000000200000000000000 M = true) (h0 : Lane.Near M b l0) :
    Lane.Near M b (Lane.endSlew l0) := by
  delta Lane.endSlew
  extract_lets -underBinder +onlyGivenNames x10
  have h10 : Lane.Near M b x10 := Lane.drop_near (inReg at_WG_STAT (tb m rfl)) h0
  clear_value x10
  split
  · exact Lane.applyIncr_near (tr m rfl) (Lane.put_near (inReg at_TM_INCR (tb m rfl)) (Lane.onTime_near (f := _) (TimeState.Near.mk kp (ch m rfl) kp kp kp kp kp kp kp) h10))
  · exact Lane.applyIncr_near (tr m rfl) h10

theorem Lane.writeStep_near {M : Nat} {b : Lane} {l0 : Lane} {y1} (m : sub 0x800000000000000000000000000000000000000000000000000000000000000000000000000000000000000000000180000000000000000000000000000000000000000000000000000000 M = true) (h0 : Lane.Near M b l0) :
    Lane.Near M b (Lane.writeStep l0 y1) := by
  delta Lane.writeStep
  exact Lane.near_ite (Lane.raise_near (inEvt ev_TM_EVT (tb m rfl)) rfl h0) (Lane.raise_near (inReg at_TM_STAT (tb m rfl)).1 rfl (Lane.onTime_near (f := _) (TimeState.Near.mk (ch m rfl) kp kp kp kp kp kp kp kp) h0))

theorem Lane.applyStep_near {M : Nat} {b : Lane} {l0 : Lane} (m : sub 0x800000000000000000000000000000000000000000000000000000000000000000002000000000000000000000000080000000000000000000000000000000000000000000000000000000 M = true) (h0 : Lane.Near M b l0) :
    Lane.Near M b (Lane.applyStep l0) := by
  delta Lane.applyStep
  split
  · exact h0
  · extract_lets -underBinder +onlyGivenNames x10
    have h10 : Lane.Near M b x10 := Lane.setLtime_near (tb m rfl) h0
    clear_value x10
    exact Lane.drop_near (inReg at_TM_STAT (tb m rfl)) (Lane.onTime_near (f := _) (TimeState.Near.mk (ch m rfl) kp kp kp kp kp kp kp kp) h10)

theorem Lane.setTime_near {M : Nat} {b : Lane} {l0 : Lane} {y1} {y2} (m : sub 0x4000004080000000000000000000000000000000000000000000000000000000000002000000000000000000000000100000000000000000000000000000000000000000000000000000000 M = true) (h0 : Lane.Near M b l0) :
    Lane.Near M b (Lane.setTime l0 y1 y2) := by
  delta Lane.setTime
  extract_lets -underBinder +onlyGivenNames x10 x11
  clear_value x10 x11
  extract_lets -underBinder +onlyGivenNames x12
  have h12 : Lane.Near M b x12 := Lane.onRing_near (f := _) (RingState.Near.mk kp kp kp kp kp kp kp kp kp (ch m rfl) kp kp kp kp kp kp (ch m rfl) kp kp kp kp kp kp kp kp kp kp kp kp kp kp kp kp kp kp kp kp) h0
  clear_value x12
  exact Lane.raise_near (inEvt ev_TM_EVT (tb m rfl)) rfl (Lane.onTime_near (f := _) (TimeState.Near.mk kp kp kp (ch m rfl) kp kp kp kp kp) (Lane.setLtime_near (tb m rfl) h12))

theorem Lane.helloTime_near {M : Nat} {b : Lane} {l0 : Lane} {y1} {y2} {y3} {y4} (m : sub 0x4000004080000000000000000000000000000000000000000000000000000000000002000000000000000000000000100000000000000000000000000000000000000000000000000000000 M = true) (h0 : Lane.Near M b l0) :
    Lane.Near M b (Lane.helloTime l0 y1 y2 y3 y4) := by
  delta Lane.helloTime
  extract_lets -underBinder +onlyGivenNames x10 x11
  clear_value x10 x11
  exact Lane.near_ite h0 (Lane.setTime_near (tr m rfl) h0)

theorem Lane.syncState_near {M : Nat} {b : Lane} {l0 : Lane} {y1} {y2} {y3} (m : sub 0x1a000000000000000000000000000000000000000000000000000000000000000000000000000000000000000000001180000000000000000000000000000000000000000000000000000000 M = true) (h0 : Lane.Near M b l0) :
    Lane.Near M b (Lane.syncState l0 y1 y2 y3) := by
  delta Lane.syncState
  extract_lets -underBinder +onlyGivenNames x10
  have h10 : Lane.Near M b x10 := Lane.onTime_near (f := _) (TimeState.Near.mk kp kp kp kp (ch m rfl) (ch m rfl) kp kp kp) h0
  clear_value x10
  exact Lane.near_ite h10 (Lane.near_ite (Lane.near_ite h10 (Lane.setTimeMode_near (tr m rfl) h10)) (Lane.near_ite (Lane.setTimeMode_near (tr m rfl) h10) (by
    split
    · exact Lane.setTimeMode_near (tr m rfl) h10
    · exact Lane.setTimeMode_near (tr m rfl) h10
    · exact Lane.near_ite (Lane.setTimeMode_near (tr m rfl) h10) h10
    · exact Lane.near_ite (Lane.setTimeMode_near (tr m rfl) h10) h10
    · exact h10)))

theorem Lane.takeSync_near {M : Nat} {b : Lane} {l0 : Lane} {y1} {y2} {y3} {y4} (m : sub 0xfe0000040800000000000000000000000000000000000000000000000000000000000020000000000000000000003c1180000000000000000000000000000000000000000000000000000000 M = true) (h0 : Lane.Near M b l0) :
    Lane.Near M b (Lane.takeSync l0 y1 y2 y3 y4) := by
  delta Lane.takeSync
  exact Lane.near_ite (Lane.bump_near (inReg at_TM_CNT (tb m rfl)) h0) (by
    extract_lets -underBinder +onlyGivenNames x10 x11 x12
    clear_value x10 x11 x12
    extract_lets -underBinder +onlyGivenNames x13
    have h13 : Lane.Near M b x13 := Lane.putInt_near (inReg at_TM_OFS (tb m rfl)) (Lane.bump_near (inReg at_TM_CNT (tb m rfl)) h0)
    clear_value x13
    extract_lets -underBinder +onlyGivenNames x14
    have h14 : Lane.Near M b x14 := Lane.setWord_near (inReg at_TM_GMHI (tb m rfl)) (Lane.setWord_near (inReg at_TM_GMLO (tb m rfl)) h13)
    clear_value x14
    extract_lets -underBinder +onlyGivenNames x15
    clear_value x15
    extract_lets -underBinder +onlyGivenNames x16
    have h16 : Lane.Near M b x16 := Lane.onTime_near (f := _) (TimeState.Near.mk kp kp kp kp kp kp (ch m rfl) (ch m rfl) (ch m rfl)) h14
    clear_value x16
    extract_lets -underBinder +onlyGivenNames x17
    have h17 : Lane.Near M b x17 := Lane.when_near h16 (fun _ g18 => Lane.raise_near (inEvt ev_TM_EVT (tb m rfl)) rfl g18)
    clear_value x17
    exact Lane.near_ite (Lane.near_ite h17 (Lane.setTime_near (tr m rfl) h17)) (Lane.syncState_near (tr m rfl) h17))

theorem Lane.startTime_near {M : Nat} {b : Lane} {l0 : Lane} (m : sub 0x1a000000000000000000000000000000000000000000000000000000000000000000000000000000000000000000001180000000000000000000000000000000000000000000000000000000 M = true) (h0 : Lane.Near M b l0) :
    Lane.Near M b (Lane.startTime l0) := by
  delta Lane.startTime
  exact Lane.near_ite (Lane.setTimeMode_near (tr m rfl) h0) h0

theorem Lane.timeCycle_near {M : Nat} {b : Lane} {l0 : Lane} (m : sub 0x68000000000000000000000000000000000000000000000000000000000000000000000000000000000000000000000000000000000000000000000000000000000000000000000000000000 M = true) (h0 : Lane.Near M b l0) :
    Lane.Near M b (Lane.timeCycle l0) := by
  delta Lane.timeCycle
  exact Lane.onTime_near (f := _) (TimeState.Near.mk kp kp kp kp (ch m rfl) kp (ch m rfl) (ch m rfl) kp) h0

theorem Lane.latchTime_near {M : Nat} {b : Lane} {l0 : Lane} (m : sub 0x3c000000000000000000000000000000000000000000000000000000000 M = true) (h0 : Lane.Near M b l0) :
    Lane.Near M b (Lane.latchTime l0) := by
  delta Lane.latchTime
  extract_lets -underBinder +onlyGivenNames x10 x11
  clear_value x10 x11
  extract_lets -underBinder +onlyGivenNames x12
  have h12 : Lane.Near M b x12 := Lane.put_near (inReg at_TM_NS (tb m rfl)) h0
  clear_value x12
  extract_lets -underBinder +onlyGivenNames x13
  have h13 : Lane.Near M b x13 := Lane.setWord_near (inReg at_TM_SECHI (tb m rfl)) (Lane.setWord_near (inReg at_TM_SECLO (tb m rfl)) h12)
  clear_value x13
  exact Lane.put_near (inReg at_TM_FRAC (tb m rfl)) h13

theorem Lane.setRing_near {M : Nat} {b : Lane} {l0 : Lane} {y1} (m : sub 0x1db0000000000000000000000000000000000000000000000000000000000000000000000000000000000000000000000800000000000000000000000000000000000000000000000000 M = true) (h0 : Lane.Near M b l0) :
    Lane.Near M b (Lane.setRing l0 y1) := by
  delta Lane.setRing
  exact Lane.onRing_near (f := _) (RingState.Near.mk kp kp kp kp kp kp kp kp kp kp kp kp kp kp kp kp kp kp (ch m rfl) (ch m rfl) kp (ch m rfl) (ch m rfl) kp (ch m rfl) (ch m rfl) (ch m rfl) kp kp kp kp kp kp kp kp kp kp) (Lane.put_near (inReg at_VR_STAT (tb m rfl)) h0)

theorem Lane.cancelChange_near {M : Nat} {b : Lane} {l0 : Lane} (m : sub 0x70000000000000000000000000000000000000000000000000000000000000000000000000000000000000000000000001800000000000000000000000000000000000000000000000000 M = true) (h0 : Lane.Near M b l0) :
    Lane.Near M b (Lane.cancelChange l0) := by
  delta Lane.cancelChange
  split
  · exact Lane.raise_near (inEvt ev_VR_EVT (tb m rfl)) rfl (Lane.drop_near (inReg at_VR_STAT (tb m rfl)) (Lane.onRing_near (f := _) (RingState.Near.mk kp kp kp kp kp kp kp kp kp kp kp kp kp kp kp kp kp kp kp kp kp kp kp kp kp kp kp kp kp kp (ch m rfl) (ch m rfl) (ch m rfl) kp kp kp kp) h0))
  · exact h0

theorem Lane.noteBreak_near {M : Nat} {b : Lane} {l0 : Lane} {y1} {y2} (m : sub 0x570000000000000000000000000000000000000000000000000000000000000000000000000000000000000000000000001800000000000000000000000000000000000000000000000000 M = true) (h0 : Lane.Near M b l0) :
    Lane.Near M b (Lane.noteBreak l0 y1 y2) := by
  delta Lane.noteBreak
  exact Lane.near_ite h0 (by
    extract_lets -underBinder +onlyGivenNames x10
    have h10 : Lane.Near M b x10 := Lane.cancelChange_near (tr m rfl) (Lane.onRing_near (f := _) (RingState.Near.mk kp kp kp kp kp kp kp kp kp kp kp kp kp kp kp kp kp kp kp kp kp kp kp kp kp kp kp kp kp kp kp kp kp kp (ch m rfl) kp (ch m rfl)) h0)
    clear_value x10
    exact Lane.when_near h10 (fun _ g11 => Lane.raise_near (inReg at_VR_STAT (tb m rfl)).1 rfl g11))

theorem Lane.noteRestore_near {M : Nat} {b : Lane} {l0 : Lane} {y1} {y2} (m : sub 0x270000000000000000000000000000000000000000000000000000000000000000000000000000000000000000000000001800000000000000000000000000000000000000000000000000 M = true) (h0 : Lane.Near M b l0) :
    Lane.Near M b (Lane.noteRestore l0 y1 y2) := by
  delta Lane.noteRestore
  exact Lane.near_ite h0 (Lane.cancelChange_near (tr m rfl) (Lane.onRing_near (f := _) (RingState.Near.mk kp kp kp kp kp kp kp kp kp kp kp kp kp kp kp kp kp kp kp kp kp kp kp kp kp kp kp kp kp kp kp kp kp kp kp (ch m rfl) kp) h0))

theorem Lane.breakPort_near {M : Nat} {b : Lane} {l0 : Lane} {y1} (m : sub 0x770000000400000000000000000000000000000000000000000000000000000000000000000000000000000000000000061800000000000000000000000000000000000000000000000000 M = true) (h0 : Lane.Near M b l0) :
    Lane.Near M b (Lane.breakPort l0 y1) := by
  delta Lane.breakPort
  exact Lane.near_ite h0 (by
    extract_lets -underBinder +onlyGivenNames x10
    have h10 : Lane.Near M b x10 := Lane.onPort_near (tr m rfl) (Lane.raise_near (inEvt ev_VR_EVT (tb m rfl)) rfl (Lane.put_near (put_ite (inReg at_VR_PSTATW (tb m rfl)) (inReg at_VR_PSTATE (tb m rfl))) h0))
    clear_value x10
    exact Lane.noteBreak_near (tr m rfl) (Lane.onRing_near (f := _) (RingState.Near.mk kp kp kp kp kp kp kp kp kp kp kp kp kp kp kp kp kp kp kp kp kp kp kp kp kp kp kp kp kp kp kp kp kp kp kp (ch m rfl) kp) h10))

theorem Lane.welcome_near {M : Nat} {b : Lane} {l0 : Lane} {y1} (m : sub 0x101db0000400000000000000000000000000000000000000000000000000000000000000000000000000000000000000060800000000000000000000000000000000000000000000000000 M = true) (h0 : Lane.Near M b l0) :
    Lane.Near M b (Lane.welcome l0 y1) := by
  delta Lane.welcome
  extract_lets -underBinder +onlyGivenNames x10
  have h10 : Lane.Near M b x10 := Lane.put_near (put_ite (inReg at_VR_PSTATW (tb m rfl)) (inReg at_VR_PSTATE (tb m rfl))) h0
  clear_value x10
  extract_lets -underBinder +onlyGivenNames x11
  have h11 : Lane.Near M b x11 := Lane.when_near h10 (fun _ g12 => Lane.near_ite (Lane.onPort_near (tr m rfl) g12) (Lane.onRing_near (f := _) (RingState.Near.mk kp kp kp kp kp kp kp kp kp kp kp kp kp kp kp kp kp kp kp kp kp kp kp kp kp kp kp kp kp kp kp kp kp kp (ch m rfl) kp kp) g12))
  clear_value x11
  exact Lane.near_ite (Lane.setRing_near (tr m rfl) h11) h11

theorem Lane.sameNode_near {M : Nat} {b : Lane} {l0 : Lane} (m : sub 0x9db0000000000000000000000000000000000000000000000000000000000000000000000000000000000000000000001800000000000000000000000000000000000000000000000000 M = true) (h0 : Lane.Near M b l0) :
    Lane.Near M b (Lane.sameNode l0) := by
  delta Lane.sameNode
  exact Lane.raise_near (inEvt ev_VR_EVT (tb m rfl)) rfl (Lane.onRing_near (f := _) (RingState.Near.mk kp kp kp kp kp kp kp kp kp kp kp kp kp kp kp kp kp kp kp kp kp kp kp kp kp kp kp kp kp (ch m rfl) kp kp kp kp kp kp kp) (Lane.setRing_near (tr m rfl) h0))

theorem Lane.ringHello_near {M : Nat} {b : Lane} {l0 : Lane} {y1} {y2} (m : sub 0x779db0000400000000000000000000000000000000000000000000000000000000000000000000000000000000000000061800000000000000000000000000000000000000000000000000 M = true) (h0 : Lane.Near M b l0) :
    Lane.Near M b (Lane.ringHello l0 y1 y2) := by
  delta Lane.ringHello
  exact Lane.near_ite h0 (Lane.near_ite (Lane.sameNode_near (tr m rfl) h0) (Lane.near_ite (Lane.breakPort_near (tr m rfl) (Lane.put_near (put_ite (inReg at_VR_PSTATW (tb m rfl)) (inReg at_VR_PSTATE (tb m rfl))) (Lane.raise_near (inEvt ev_VR_EVT (tb m rfl)) rfl h0))) (by
    extract_lets -underBinder +onlyGivenNames x10
    have h10 : Lane.Near M b x10 := Lane.put_near (put_ite (inReg at_VR_PSTATW (tb m rfl)) (inReg at_VR_PSTATE (tb m rfl))) (Lane.put_near (put_ite (inReg at_VR_PSTATW (tb m rfl)) (inReg at_VR_PSTATE (tb m rfl))) h0)
    clear_value x10
    extract_lets -underBinder +onlyGivenNames x11
    have h11 : Lane.Near M b x11 := Lane.onPort_near (tr m rfl) h10
    clear_value x11
    extract_lets -underBinder +onlyGivenNames x12
    clear_value x12
    exact Lane.near_ite h11 (by
    extract_lets -underBinder +onlyGivenNames x13
    have h13 : Lane.Near M b x13 := Lane.put_near (put_ite (inReg at_VR_PSTATW (tb m rfl)) (inReg at_VR_PSTATE (tb m rfl))) h11
    clear_value x13
    exact Lane.near_ite (Lane.breakPort_near (tr m rfl) (Lane.raise_near (inEvt ev_VR_EVT (tb m rfl)) rfl h13)) (Lane.near_ite (Lane.breakPort_near (tr m rfl) (Lane.raise_near (inEvt ev_VR_EVT (tb m rfl)) rfl h13)) (Lane.near_ite h13 (Lane.welcome_near (tr m rfl) h13)))))))

theorem Lane.negotiateLink_near {M : Nat} {b : Lane} {l0 : Lane} {y1} (m : sub 0x400000000000000000000000000000000000000000000000000000000000000000000000000000000000000060000000000000000000000000000000000000000000000000000 M = true) (h0 : Lane.Near M b l0) :
    Lane.Near M b (Lane.negotiateLink l0 y1) := by
  delta Lane.negotiateLink
  exact Lane.near_ite (Lane.onPort_near (tr m rfl) (Lane.raise_near (put_ite (inReg at_VR_PSTATW (tb m rfl)) (inReg at_VR_PSTATE (tb m rfl))).1 wd_ite (Lane.put_near (put_ite (inReg at_VR_PSTATW (tb m rfl)) (inReg at_VR_PSTATE (tb m rfl))) h0))) h0

theorem Lane.ringSwitched_near {M : Nat} {b : Lane} {l0 : Lane} (m : sub 0x1db0000400000000000000000000000000000000000000000000000000000000000000000000000000000000000000060800000000000000000000000000000000000000000000000000 M = true) (h0 : Lane.Near M b l0) :
    Lane.Near M b (Lane.ringSwitched l0) := by
  delta Lane.ringSwitched
  exact Lane.near_ite (Lane.near_foldl (fun _ _ q10 g10 => Lane.when_near g10 (fun _ g11 => Lane.when_near g11 (fun _ g12 => Lane.negotiateLink_near (tr m rfl) g12))) h0) (Lane.near_foldl (fun _ _ q13 g13 => Lane.onPort_near (tr m rfl) (Lane.put_near (put_ite (inReg at_VR_PSTATW (tb m rfl)) (inReg at_VR_PSTATE (tb m rfl))) g13)) (Lane.setRing_near (tr m rfl) h0))

theorem Lane.sendOn_near {M : Nat} {b : Lane} {l0 : Lane} {y1} {y2} {y3} {y4} {y5} {y6} (m : sub 0x1000000000000000000000000000600000000000000000000000000000000000000000000000000000 M = true) (h0 : Lane.Near M b l0) :
    Lane.Near M b (Lane.sendOn l0 y1 y2 y3 y4 y5 y6) := by
  delta Lane.sendOn
  extract_lets -underBinder +onlyGivenNames x10 x11 x12
  clear_value x10 x11 x12
  split
  · exact Lane.when_near (Lane.bump_near (put_ite (inReg at_VR_PCNT1W (tb m rfl)) (inReg at_VR_PCNT1E (tb m rfl))) h0) (fun _ g13 => Lane.send_near (tb m rfl) g13)
  · exact Lane.send_near (tb m rfl) h0

theorem Lane.forward_near {M : Nat} {b : Lane} {l0 : Lane} {y1} {y2} {y3} {y4} {y5} {y6} (m : sub 0x1000000000000000000000000000600000000000000000000000000000000000000000000000000000 M = true) (h0 : Lane.Near M b l0) :
    Lane.Near M b (Lane.forward l0 y1 y2 y3 y4 y5 y6) := by
  delta Lane.forward
  extract_lets -underBinder +onlyGivenNames x10
  clear_value x10
  exact Lane.near_ite h0 (Lane.near_ite (Lane.near_ite h0 (Lane.sendOn_near (tr m rfl) h0)) (Lane.near_ite (Lane.sendOn_near (tr m rfl) h0) h0))

theorem Lane.takeBreaks_near {M : Nat} {b : Lane} {l0 : Lane} {y1} {y2} (m : sub 0x770000000000000000000000000000000000000000000000000000000000000000000000000000000000000000000000001800000000000000000000000000000000000000000000000000 M = true) (h0 : Lane.Near M b l0) :
    Lane.Near M b (Lane.takeBreaks l0 y1 y2) := by
  delta Lane.takeBreaks
  extract_lets -underBinder +onlyGivenNames x10 x11
  clear_value x10 x11
  extract_lets -underBinder +onlyGivenNames x12
  have h12 : Lane.Near M b x12 := by
    unfold x12
    split
    · exact Lane.noteBreak_near (tr m rfl) h0
    · exact h0
  clear_value x12
  extract_lets -underBinder +onlyGivenNames x13
  have h13 : Lane.Near M b x13 := by
    unfold x13
    split
    · exact Lane.noteBreak_near (tr m rfl) h12
    · exact h12
  clear_value x13
  split
  · exact Lane.noteRestore_near (tr m rfl) h13
  · exact h13

theorem Lane.takeControl_near {M : Nat} {b : Lane} {l0 : Lane} {y1} {y2} (m : sub 0x770000020000000000000000000000000000000000000000000000000000000000000000000000000000000000000000001800000000000000000000000000000000000000000000000000 M = true) (h0 : Lane.Near M b l0) :
    Lane.Near M b (Lane.takeControl l0 y1 y2) := by
  delta Lane.takeControl
  extract_lets -underBinder +onlyGivenNames x10
  have h10 : Lane.Near M b x10 := Lane.takeBreaks_near (tr m rfl) (Lane.onRing_near (f := _) (RingState.Near.mk kp kp kp kp kp kp kp (ch m rfl) kp kp kp kp kp kp kp kp kp kp kp kp kp kp kp kp kp kp kp kp kp kp kp kp kp kp kp kp kp) h0)
  clear_value x10
  split
  · exact Lane.near_ite (Lane.raise_near (inReg at_VR_STAT (tb m rfl)).1 rfl (Lane.put_near (inReg at_VR_STAT (tb m rfl)) (Lane.onRing_near (f := _) (RingState.Near.mk kp kp kp kp kp kp kp kp kp kp kp kp kp kp kp kp kp kp kp kp kp kp kp kp kp kp kp kp kp kp (ch m rfl) kp kp kp kp kp kp) h10))) h10
  · exact h10

theorem Lane.showFill_near {M : Nat} {b : Lane} {l0 : Lane} (m : sub 0x80000000000000000000000000000000000000000000000000000000000000000 M = true) (h0 : Lane.Near M b l0) :
    Lane.Near M b (Lane.showFill l0) := by
  delta Lane.showFill
  extract_lets -underBinder +onlyGivenNames x10
  clear_value x10
  exact Lane.put_near (inReg at_SG_QSTAT (tb m rfl)) (Lane.put_near (inReg at_SG_QSTAT (tb m rfl)) h0)

theorem Lane.acceptCue_near {M : Nat} {b : Lane} {l0 : Lane} {y1} {y2} {y3} {y4} (m : sub 0xfe7700043b50000000000000000000000000000000000000000000000000000000000020000000000000001c00003c1180181800000000000000000000000000000000000000000000000000 M = true) (h0 : Lane.Near M b l0) :
    Lane.Near M b (Lane.acceptCue l0 y1 y2 y3 y4) := by
  delta Lane.acceptCue
  extract_lets -underBinder +onlyGivenNames x10 x11
  clear_value x10 x11
  exact Lane.near_ite (Lane.onRing_near (f := _) (RingState.Near.mk kp kp kp kp (ch m rfl) kp kp kp kp kp kp kp kp kp kp kp kp kp kp kp kp kp kp kp kp kp kp kp kp kp kp kp kp kp kp kp kp) (Lane.raise_near (inEvt ev_SG_EVT (tb m rfl)) rfl (Lane.bump_near (inReg at_SG_CNT0 (tb m rfl)) h0))) (by
    extract_lets -underBinder +onlyGivenNames x12
    clear_value x12
    extract_lets -underBinder +onlyGivenNames x13
    have h13 : Lane.Near M b x13 := Lane.onRing_near (f := _) (RingState.Near.mk kp kp (ch m rfl) kp (ch m rfl) kp (ch m rfl) kp kp kp kp kp kp kp kp kp kp kp kp kp kp kp kp kp kp kp kp kp kp kp kp kp kp kp kp kp kp) (Lane.bump_near (put_ite (inReg at_VR_PCNT0W (tb m rfl)) (inReg at_VR_PCNT0E (tb m rfl))) h0)
    clear_value x13
    split
    · exact Lane.takeControl_near (tr m rfl) h13
    · extract_lets -underBinder +onlyGivenNames x14
      clear_value x14
      exact Lane.takeSync_near (tr m rfl) h13
    · exact h13
    · exact Lane.showFill_near (tr m rfl) (Lane.onRing_near (f := _) (RingState.Near.mk kp kp kp kp kp kp kp kp kp kp (ch m rfl) (ch m rfl) kp kp kp kp kp kp kp kp kp kp kp kp kp kp kp kp kp kp kp kp kp kp kp kp kp) h13))

theorem Lane.judgeCue_near {M : Nat} {b : Lane} {l0 : Lane} {y1} {y2} {y3} (m : sub 0xfe7700043b70000000000000000000000000000000000000000000000000000000000070000000000000001c00003c1180781800000000000000000000000000000000000000000000000000 M = true) (h0 : Lane.Near M b l0) :
    Lane.Near M b (Lane.judgeCue l0 y1 y2 y3) := by
  delta Lane.judgeCue
  extract_lets -underBinder +onlyGivenNames x10 x11
  clear_value x10 x11
  extract_lets -underBinder +onlyGivenNames x12
  have h12 : Lane.Near M b x12 := Lane.nextChoice_near (tb m rfl) h0
  clear_value x12
  split
  · exact Lane.bump_near (put_ite (inReg at_VR_PCNT0W (tb m rfl)) (inReg at_VR_PCNT0E (tb m rfl))) h12
  · exact Lane.bump_near (put_ite (inReg at_VR_PCNT1W (tb m rfl)) (inReg at_VR_PCNT1E (tb m rfl))) (Lane.onRing_near (f := _) (RingState.Near.mk kp kp kp (ch m rfl) kp kp kp kp kp kp kp kp kp kp kp kp kp kp kp kp kp kp kp kp kp kp kp kp kp kp kp kp kp kp kp kp kp) h12)
  · extract_lets -underBinder +onlyGivenNames x13
    clear_value x13
    extract_lets -underBinder +onlyGivenNames x14
    have h14 : Lane.Near M b x14 := Lane.onRing_near (f := _) (RingState.Near.mk kp kp kp (ch m rfl) kp kp kp kp kp kp kp kp kp kp kp kp kp kp kp kp kp kp kp kp kp kp kp kp kp kp kp kp kp kp kp kp kp) h12
    clear_value x14
    extract_lets -underBinder +onlyGivenNames x15
    clear_value x15
    exact Lane.near_ite (Lane.forward_near (tr m rfl) (Lane.bump_near (put_ite (inReg at_VR_PCNT0W (tb m rfl)) (inReg at_VR_PCNT0E (tb m rfl))) h14)) (Lane.near_ite (Lane.bump_near (put_ite (inReg at_VR_PCNT0W (tb m rfl)) (inReg at_VR_PCNT0E (tb m rfl))) h14) (by
    extract_lets -underBinder +onlyGivenNames x16
    have h16 : Lane.Near M b x16 := Lane.onRing_near (f := _) (RingState.Near.mk kp kp kp kp kp kp (ch m rfl) kp kp kp kp kp kp kp kp kp kp kp kp kp kp kp kp kp kp kp kp kp kp kp kp kp kp kp kp kp kp) h14
    clear_value x16
    extract_lets -underBinder +onlyGivenNames x17
    have h17 : Lane.Near M b x17 := Lane.near_ite h16 (Lane.acceptCue_near (tr m rfl) h16)
    clear_value x17
    exact Lane.forward_near (tr m rfl) h17))

theorem Lane.listenCue_near {M : Nat} {b : Lane} {l0 : Lane} {y1} {y2} {y3} (m : sub 0x1a0001800000000000000000000000000000000000000000000000000000000001000000000000000000000000000780000000000000000000000000000000000000000000000000000 M = true) (h0 : Lane.Near M b l0) :
    Lane.Near M b (Lane.listenCue l0 y1 y2 y3) := by
  delta Lane.listenCue
  extract_lets -underBinder +onlyGivenNames x10
  clear_value x10
  split
  · exact Lane.forward_near (tr m rfl) (Lane.onRing_near (f := _) (RingState.Near.mk kp kp kp kp kp kp kp kp kp kp kp kp kp kp kp kp kp kp kp kp kp kp (ch m rfl) kp kp kp kp kp kp kp kp kp kp kp kp kp kp) h0)
  · extract_lets -underBinder +onlyGivenNames x11 x12 x13 x14 x15
    clear_value x11 x12 x13 x14 x15
    extract_lets -underBinder +onlyGivenNames x16
    have h16 : Lane.Near M b x16 := Lane.onRing_near (f := _) (RingState.Near.mk kp (ch m rfl) (ch m rfl) kp kp kp kp kp kp kp kp kp kp kp kp kp kp kp kp (ch m rfl) kp (ch m rfl) (ch m rfl) kp kp kp kp kp kp kp kp kp kp kp kp kp kp) h0
    clear_value x16
    exact Lane.forward_near (tr m rfl) (Lane.bump_near (put_ite (inReg at_VR_PCNT0W (tb m rfl)) (inReg at_VR_PCNT0E (tb m rfl))) h16)

theorem Lane.badFrameIn_near {M : Nat} {b : Lane} {l0 : Lane} {y1} {y2} {y3} (m : sub 0x1000000000000000000000000000780000000000000000000000000000000000000000000000000000 M = true) (h0 : Lane.Near M b l0) :
    Lane.Near M b (Lane.badFrameIn l0 y1 y2 y3) := by
  delta Lane.badFrameIn
  extract_lets -underBinder +onlyGivenNames x10
  have h10 : Lane.Near M b x10 := Lane.bump_near (put_ite (inReg at_VR_PCNT0W (tb m rfl)) (inReg at_VR_PCNT0E (tb m rfl))) h0
  clear_value x10
  extract_lets -underBinder +onlyGivenNames x11
  clear_value x11
  exact Lane.near_ite (Lane.forward_near (tr m rfl) h10) h10

theorem Lane.sendOwn_near {M : Nat} {b : Lane} {l0 : Lane} {y1} {y2} {y3} {y4} {y5} (m : sub 0x1000000000000000000000000000000000000000000000000000000000000000000000000000000000 M = true) (h0 : Lane.Near M b l0) :
    Lane.Near M b (Lane.sendOwn l0 y1 y2 y3 y4 y5) := by
  delta Lane.sendOwn
  extract_lets -underBinder +onlyGivenNames x10 x11
  clear_value x10 x11
  exact Lane.near_ite (Lane.send_near (tb m rfl) h0) h0

theorem Lane.sendStart_near {M : Nat} {b : Lane} {l0 : Lane} (m : sub 0x2000000000000000000000000000000000000000000000000000000000000000001000000000000000000000000000000000000000000000000000000000000000000000000000000000 M = true) (h0 : Lane.Near M b l0) :
    Lane.Near M b (Lane.sendStart l0) := by
  delta Lane.sendStart
  extract_lets -underBinder +onlyGivenNames x10 x11
  clear_value x10 x11
  exact Lane.sendOwn_near (tr m rfl) (Lane.sendOwn_near (tr m rfl) (Lane.onRing_near (f := _) (RingState.Near.mk kp kp kp kp kp kp kp kp kp kp kp kp kp kp kp kp kp kp kp kp kp kp kp kp kp kp kp (ch m rfl) kp kp kp kp kp kp kp kp kp) h0))

theorem Lane.adoptStart_near {M : Nat} {b : Lane} {l0 : Lane} {y1} {y2} (m : sub 0x5db4000800000000000000000000000000000000000000000000000000000000000000000000000000000000000000014800000000000000000000000000000000000000000000000000 M = true) (h0 : Lane.Near M b l0) :
    Lane.Near M b (Lane.adoptStart l0 y1 y2) := by
  delta Lane.adoptStart
  extract_lets -underBinder +onlyGivenNames x10 x11 x12
  clear_value x10 x11 x12
  extract_lets -underBinder +onlyGivenNames x13
  have h13 : Lane.Near M b x13 := Lane.put_near (inReg at_VR_STAT (tb m rfl)) (Lane.put_near (inReg at_VR_STAT (tb m rfl)) (Lane.setRing_near (tr m rfl) h0))
  clear_value x13
  extract_lets -underBinder +onlyGivenNames x14
  have h14 : Lane.Near M b x14 := Lane.putInt_near (inReg at_VR_DRIFT (tb m rfl)) h13
  clear_value x14
  exact Lane.put_near (inReg at_VR_CYCNUM (tb m rfl)) (Lane.onRing_near (f := _) (RingState.Near.mk kp (ch m rfl) kp kp kp kp kp kp kp kp kp kp kp kp kp kp (ch m rfl) kp kp kp kp kp kp kp kp kp kp kp (ch m rfl) kp kp kp kp kp kp kp kp) h14)

theorem Lane.forwardStart_near {M : Nat} {b : Lane} {l0 : Lane} {y1} {y2} {y3} {y4} (m : sub 0x1000000000000000000000000000000000000000000000000000000000000000000000000000000000 M = true) (h0 : Lane.Near M b l0) :
    Lane.Near M b (Lane.forwardStart l0 y1 y2 y3 y4) := by
  delta Lane.forwardStart
  extract_lets -underBinder +onlyGivenNames x10 x11 x12 x13
  clear_value x10 x11 x12 x13
  exact Lane.near_ite h0 (Lane.send_near (tb m rfl) h0)

theorem Lane.takeStart_near {M : Nat} {b : Lane} {l0 : Lane} {y1} {y2} {y3} (m : sub 0xddb4000800000000000000000000000000000000000000000000000000000000001000000000000000000000000000615800000000000000000000000000000000000000000000000000 M = true) (h0 : Lane.Near M b l0) :
    Lane.Near M b (Lane.takeStart l0 y1 y2 y3) := by
  delta Lane.takeStart
  extract_lets -underBinder +onlyGivenNames x10
  clear_value x10
  exact Lane.near_ite (Lane.sameNode_near (tr m rfl) h0) (by
    split
    · exact h0
    · exact Lane.near_ite h0 (Lane.bump_near (put_ite (inReg at_VR_PCNT1W (tb m rfl)) (inReg at_VR_PCNT1E (tb m rfl))) h0)
    · exact Lane.near_ite (by
    extract_lets -underBinder +onlyGivenNames x11
    have h11 : Lane.Near M b x11 := Lane.onRing_near (f := _) (RingState.Near.mk kp kp kp kp kp kp kp kp kp kp kp kp kp kp kp kp kp kp kp kp kp kp kp kp kp kp (ch m rfl) kp kp kp kp kp kp kp kp kp kp) h0
    clear_value x11
    exact Lane.when_near h11 (fun _ g12 => Lane.raise_near (inEvt ev_VR_EVT (tb m rfl)) rfl g12)) (Lane.near_ite (Lane.forwardStart_near (tr m rfl) (Lane.raise_near (inEvt ev_VR_EVT (tb m rfl)) rfl (Lane.adoptStart_near (tr m rfl) h0))) (Lane.bump_near (put_ite (inReg at_VR_PCNT1W (tb m rfl)) (inReg at_VR_PCNT1E (tb m rfl))) h0))
    · exact Lane.near_ite h0 (by
    extract_lets -underBinder +onlyGivenNames x13
    clear_value x13
    exact Lane.near_ite (Lane.bump_near (put_ite (inReg at_VR_PCNT1W (tb m rfl)) (inReg at_VR_PCNT1E (tb m rfl))) h0) (Lane.near_ite (Lane.forwardStart_near (tr m rfl) h0) (Lane.forwardStart_near (tr m rfl) (Lane.adoptStart_near (tr m rfl) h0))))
    · exact Lane.near_ite h0 (by
    extract_lets -underBinder +onlyGivenNames x14
    clear_value x14
    exact Lane.near_ite (Lane.bump_near (put_ite (inReg at_VR_PCNT1W (tb m rfl)) (inReg at_VR_PCNT1E (tb m rfl))) h0) (Lane.near_ite (Lane.forwardStart_near (tr m rfl) h0) (Lane.forwardStart_near (tr m rfl) (Lane.adoptStart_near (tr m rfl) h0)))))

theorem Lane.virecIn_near {M : Nat} {b : Lane} {l0 : Lane} {y1} {y2} (m : sub 0xfe77ddb43b78000000000000000000000000000000000000000000000000000000000070000000000000001c00003c1180795800000000000000000000000000000000000000000000000000 M = true) (h0 : Lane.Near M b l0) :
    Lane.Near M b (Lane.virecIn l0 y1 y2) := by
  delta Lane.virecIn
  extract_lets -underBinder +onlyGivenNames x10
  clear_value x10
  exact Lane.near_ite h0 (Lane.near_ite (Lane.badFrameIn_near (tr m rfl) h0) (Lane.near_ite h0 (Lane.near_ite (Lane.bump_near (put_ite (inReg at_VR_PCNT0W (tb m rfl)) (inReg at_VR_PCNT0E (tb m rfl))) h0) (by
    split
    · exact Lane.near_ite h0 (Lane.near_ite (Lane.listenCue_near (tr m rfl) h0) (Lane.judgeCue_near (tr m rfl) h0))
    · exact Lane.takeStart_near (tr m rfl) h0
    · exact h0
    · exact Lane.bump_near (put_ite (inReg at_VR_PCNT0W (tb m rfl)) (inReg at_VR_PCNT0E (tb m rfl))) h0))))

theorem Lane.emptyCue_near {M : Nat} {b : Lane} {l0 : Lane} {y1} {y2} (m : sub 0x770000014400000000000000000000000000000000000000000000000000000000000000000000000000000000000000661800000000000000000000000000000000000000000000000000 M = true) (h0 : Lane.Near M b l0) :
    Lane.Near M b (Lane.emptyCue l0 y1 y2) := by
  delta Lane.emptyCue
  split
  · extract_lets -underBinder +onlyGivenNames x10 x11
    clear_value x10 x11
    exact Lane.near_ite h0 (Lane.near_foldl (fun _ _ q12 g12 => Lane.near_ite (by
    extract_lets -underBinder +onlyGivenNames x13
    clear_value x13
    extract_lets -underBinder +onlyGivenNames x14
    have h14 : Lane.Near M b x14 := Lane.onRing_near (f := _) (RingState.Near.mk kp kp kp kp kp kp (ch m rfl) kp kp kp kp kp kp kp kp kp kp kp kp kp kp kp kp kp kp kp kp kp kp kp kp kp kp kp kp kp kp) (Lane.bump_near (put_ite (inReg at_VR_PCNT1W (tb m rfl)) (inReg at_VR_PCNT1E (tb m rfl))) g12)
    clear_value x14
    exact Lane.near_ite (Lane.breakPort_near (tr m rfl) h14) h14) g12) (Lane.onRing_near (f := _) (RingState.Near.mk kp kp kp kp (ch m rfl) kp kp kp kp kp kp kp kp kp kp kp kp kp kp kp kp kp kp kp kp kp kp kp kp kp kp kp kp kp kp kp kp) h0))
  · exact h0

theorem Lane.sendCue_near {M : Nat} {b : Lane} {l0 : Lane} {y1} {y2} {y3} (m : sub 0x1000000000000000000000000000000000000000000000000000000000000000000000000000000000 M = true) (h0 : Lane.Near M b l0) :
    Lane.Near M b (Lane.sendCue l0 y1 y2 y3) := by
  delta Lane.sendCue
  extract_lets -underBinder +onlyGivenNames x10
  have h10 : ∀ u0 u1, Lane.Near M b u0 → Lane.Near M b (x10 u0 u1) := by
    intro _ _ g11
    unfold x10
    exact Lane.sendOwn_near (tr m rfl) g11
  clear_value x10
  split
  · exact h10 _ _ h0
  · exact h10 _ _ h0
  · exact h10 _ _ (h10 _ _ h0)
  · exact h0

theorem Lane.restorePort_near {M : Nat} {b : Lane} {l0 : Lane} {y1} (m : sub 0x270000000400000000000000000000000000000000000000000000000000000000000000000000000000000000000000001800000000000000000000000000000000000000000000000000 M = true) (h0 : Lane.Near M b l0) :
    Lane.Near M b (Lane.restorePort l0 y1) := by
  delta Lane.restorePort
  exact Lane.near_ite (Lane.noteRestore_near (tr m rfl) (Lane.onPort_near (tr m rfl) h0)) h0

theorem Lane.restoreAnnounced_near {M : Nat} {b : Lane} {l0 : Lane} (m : sub 0x270000000400000000000000000000000000000000000000000000000000000000000000000000000000000000000000001800000000000000000000000000000000000000000000000000 M = true) (h0 : Lane.Near M b l0) :
    Lane.Near M b (Lane.restoreAnnounced l0) := by
  delta Lane.restoreAnnounced
  exact Lane.restorePort_near (tr m rfl) h0

theorem Lane.cueLeft_near {M : Nat} {b : Lane} {l0 : Lane} {y1} (m : sub 0x270002000400000000000000000000000000000400000000000000000000000000000000000000000000000000000000001800000000000000000000000000000000000000000000000000 M = true) (h0 : Lane.Near M b l0) :
    Lane.Near M b (Lane.cueLeft l0 y1) := by
  delta Lane.cueLeft
  split
  · exact Lane.restoreAnnounced_near (tr m rfl) h0
  · exact Lane.onRing_near (f := _) (RingState.Near.mk kp kp kp kp kp kp kp kp kp kp kp kp kp kp kp (ch m rfl) kp kp kp kp kp kp kp kp kp kp kp kp kp kp kp kp kp kp kp kp kp) h0
  · exact Lane.onSeats_near (f := _) (SeatState.Near.mk kp kp (ch m rfl) kp kp kp kp kp kp kp kp kp kp kp kp kp kp kp kp) h0
  · exact h0

theorem Lane.sendOwnCue_near {M : Nat} {b : Lane} {l0 : Lane} {y1} {y2} {y3} {y4} (m : sub 0x270002008400000000000000000000000000000400000000000000000000000000001000000000000000000000000000801800000000000000000000000000000000000000000000000000 M = true) (h0 : Lane.Near M b l0) :
    Lane.Near M b (Lane.sendOwnCue l0 y1 y2 y3 y4) := by
  delta Lane.sendOwnCue
  extract_lets -underBinder +onlyGivenNames x10
  clear_value x10
  exact Lane.near_ite h0 (by
    extract_lets -underBinder +onlyGivenNames x11
    clear_value x11
    extract_lets -underBinder +onlyGivenNames x12
    have h12 : Lane.Near M b x12 := Lane.onRing_near (f := _) (RingState.Near.mk kp kp kp kp kp (ch m rfl) kp kp kp kp kp kp kp kp kp kp kp kp kp kp kp kp kp kp kp kp kp kp kp kp kp kp kp kp kp kp kp) h0
    clear_value x12
    exact Lane.near_ite (Lane.raise_near (inEvt ev_VR_EVT (tb m rfl)) rfl (Lane.bump_near (inReg at_VR_NCNT (tb m rfl)) h12)) (Lane.cueLeft_near (tr m rfl) (Lane.sendCue_near (tr m rfl) h12)))

theorem Lane.publish_near {M : Nat} {b : Lane} {l0 : Lane} {y1} {y2} (m : sub 0xc000000000000000000000000000000000000000000000000000000000000000000000000000000000000000f40000000000000000000000000000000000000000000000000000000000000000 M = true) (h0 : Lane.Near M b l0) :
    Lane.Near M b (Lane.publish l0 y1 y2) := by
  delta Lane.publish
  split
  · split
    · exact Lane.writeSignal_near (tr m rfl) h0
    · exact h0
  · exact Lane.near_ite (Lane.writeSignal_near (tr m rfl) h0) h0
  · exact Lane.compareSealed_near (tr m rfl) h0
  · exact h0

theorem Lane.foreignRecord_near {M : Nat} {b : Lane} {l0 : Lane} {y1} {y2} (m : sub 0x140000000000000000000000000000000000000000000000000000000000000000 M = true) (h0 : Lane.Near M b l0) :
    Lane.Near M b (Lane.foreignRecord l0 y1 y2) := by
  delta Lane.foreignRecord
  exact Lane.near_ite (Lane.bump_near (inReg at_SG_CNT0 (tb m rfl)) (Lane.raise_near (inEvt ev_SG_EVT (tb m rfl)) rfl h0)) h0

theorem Lane.foreignRecords_near {M : Nat} {b : Lane} {l0 : Lane} {y1} (m : sub 0x140000000000000000000000000000000000000000000000000000000000000000 M = true) (h0 : Lane.Near M b l0) :
    Lane.Near M b (Lane.foreignRecords l0 y1) := by
  delta Lane.foreignRecords
  extract_lets -underBinder +onlyGivenNames x10
  have h10 : Lane.Near M b x10 := Lane.near_foldl (fun _ _ q11 g11 => Lane.foreignRecord_near (tr m rfl) g11) h0
  clear_value x10
  extract_lets -underBinder +onlyGivenNames x12
  clear_value x12
  refine Lane.near_foldl (fun _ _ q13 g13 => ?_) h10
  split
  · exact Lane.foreignRecord_near (tr m rfl) g13
  · exact g13

theorem Lane.publishAll_near {M : Nat} {b : Lane} {l0 : Lane} {y1} (m : sub 0xe000000000700000000000000000000000000000000000000000000000000000000000000000000000000000fc0000000000000000000000000000000000000000000000000000000000000000 M = true) (h0 : Lane.Near M b l0) :
    Lane.Near M b (Lane.publishAll l0 y1) := by
  delta Lane.publishAll
  extract_lets -underBinder +onlyGivenNames x10
  clear_value x10
  extract_lets -underBinder +onlyGivenNames x11
  have h11 : Lane.Near M b x11 := Lane.onDict_near (f := _) (DictState.Near.mk kp (ch m rfl)) h0
  clear_value x11
  extract_lets -underBinder +onlyGivenNames x12
  have h12 : Lane.Near M b x12 := Lane.foreignRecords_near (tr m rfl) (Lane.near_foldl (fun _ _ q13 g13 => Lane.publish_near (tr m rfl) g13) h11)
  clear_value x12
  extract_lets -underBinder +onlyGivenNames x14
  have h14 : Lane.Near M b x14 := Lane.onRing_near (f := _) (RingState.Near.mk kp kp kp kp kp kp kp kp kp kp (ch m rfl) (ch m rfl) (ch m rfl) kp kp kp kp kp kp kp kp kp kp kp kp kp kp kp kp kp kp kp kp kp kp kp kp) h12
  clear_value x14
  extract_lets -underBinder +onlyGivenNames x15
  have h15 : Lane.Near M b x15 := Lane.put_near (inReg at_SG_QSTAT (tb m rfl)) h14
  clear_value x15
  exact Lane.onCan_near (f := _) (CanState.Near.mk kp kp kp kp kp (ch m rfl)) (Lane.onCan_near (f := _) (CanState.Near.mk kp kp kp kp kp (ch m rfl)) h15)

theorem Lane.fillBuffer_near {M : Nat} {b : Lane} {l0 : Lane} {y1} {y2} {y3} (m : sub 0x10000000000000000000000000000000000000000000000000000000000000000 M = true) (h0 : Lane.Near M b l0) :
    Lane.Near M b (Lane.fillBuffer l0 y1 y2 y3) := by
  delta Lane.fillBuffer
  exact Lane.near_ite h0 (Lane.near_foldl (fun _ _ q10 g10 => Lane.setWord_near (inReg (at_CN_BDAT (Fin.isLt _) (Fin.isLt _) (List.mem_range.1 q10)) (tb m rfl)) g10) h0)

theorem Lane.snapshotAll_near {M : Nat} {b : Lane} {l0 : Lane} (m : sub 0x1800000000000000000000000000000000000000000000000000000000000000000000000000000010000000000000000000000000000000000000000000000000000000000000000 M = true) (h0 : Lane.Near M b l0) :
    Lane.Near M b (Lane.snapshotAll l0) := by
  delta Lane.snapshotAll
  split
  · exact h0
  · extract_lets -underBinder +onlyGivenNames x10
    have h10 : Lane.Near M b x10 := Lane.onRing_near (f := _) (RingState.Near.mk kp kp kp kp kp kp kp kp kp kp kp kp kp kp (ch m rfl) kp kp kp kp kp kp kp kp kp kp kp kp kp kp kp kp kp kp kp kp kp kp) h0
    clear_value x10
    extract_lets -underBinder +onlyGivenNames x11
    have h11 : Lane.Near M b x11 := Lane.onRing_near (f := _) (RingState.Near.mk kp kp kp kp kp kp kp kp kp kp kp kp kp (ch m rfl) kp kp kp kp kp kp kp kp kp kp kp kp kp kp kp kp kp kp kp kp kp kp kp) h10
    clear_value x11
    exact Lane.near_foldl (fun _ _ q12 g12 => Lane.fillBuffer_near (tr m rfl) g12) h11

theorem Lane.setDrift_near {M : Nat} {b : Lane} {l0 : Lane} {y1} (m : sub 0x4000000000000000000000000000000000000000000000000000000000000000000000000000000000000000000010000000000000000000000000000000000000000000000000000 M = true) (h0 : Lane.Near M b l0) :
    Lane.Near M b (Lane.setDrift l0 y1) := by
  delta Lane.setDrift
  extract_lets -underBinder +onlyGivenNames x10
  clear_value x10
  exact Lane.put_near (inReg at_VR_DRIFT (tb m rfl)) (Lane.putInt_near (inReg at_VR_DRIFT (tb m rfl)) (Lane.onRing_near (f := _) (RingState.Near.mk kp kp kp kp kp kp kp kp kp kp kp kp kp kp kp kp (ch m rfl) kp kp kp kp kp kp kp kp kp kp kp kp kp kp kp kp kp kp kp kp) h0))

theorem Lane.updateDrift_near {M : Nat} {b : Lane} {l0 : Lane} (m : sub 0x4000000000000000000000000000000000000000000000000000000000000000000000000000000000000000000010000000000000000000000000000000000000000000000000000 M = true) (h0 : Lane.Near M b l0) :
    Lane.Near M b (Lane.updateDrift l0) := by
  delta Lane.updateDrift
  exact Lane.near_ite h0 (Lane.setDrift_near (tr m rfl) h0)

theorem Lane.updateSilence_near {M : Nat} {b : Lane} {l0 : Lane} (m : sub 0x1db8000000000000000000000000000000000000000000000000000000000000000000000000000000000000000000801800000000000000000000000000000000000000000000000000 M = true) (h0 : Lane.Near M b l0) :
    Lane.Near M b (Lane.updateSilence l0) := by
  delta Lane.updateSilence
  extract_lets -underBinder +onlyGivenNames x10 x11 x12
  clear_value x10 x11 x12
  extract_lets -underBinder +onlyGivenNames x13
  have h13 : Lane.Near M b x13 := Lane.onRing_near (f := _) (RingState.Near.mk kp kp kp kp kp kp kp kp kp kp kp kp kp kp kp kp kp (ch m rfl) kp kp kp kp kp kp kp kp kp kp kp kp kp kp kp kp kp kp kp) h0
  clear_value x13
  extract_lets -underBinder +onlyGivenNames x14
  have h14 : Lane.Near M b x14 := Lane.when_near h13 (fun _ g15 => Lane.raise_near (inReg at_VR_STAT (tb m rfl)).1 rfl (Lane.when_near g15 (fun _ g16 => Lane.raise_near (inEvt ev_VR_EVT (tb m rfl)) rfl g16)))
  clear_value x14
  extract_lets -underBinder +onlyGivenNames x17
  have h17 : Lane.Near M b x17 := Lane.when_near h14 (fun _ g18 => Lane.setRing_near (tr m rfl) (Lane.raise_near (inReg at_VR_STAT (tb m rfl)).1 rfl (Lane.raise_near (inEvt ev_VR_EVT (tb m rfl)) rfl (Lane.raise_near (inReg at_VR_STAT (tb m rfl)).1 rfl g18))))
  clear_value x17
  extract_lets -underBinder +onlyGivenNames x19
  have h19 : Lane.Near M b x19 := Lane.when_near h17 (fun _ g20 => Lane.drop_near (inReg at_VR_STAT (tb m rfl)) g20)
  clear_value x19
  extract_lets -underBinder +onlyGivenNames x21
  have h21 : Lane.Near M b x21 := Lane.when_near h19 (fun _ g22 => Lane.drop_near (inReg at_VR_STAT (tb m rfl)) g22)
  clear_value x21
  exact Lane.when_near h21 (fun _ g23 => Lane.bump_near (inReg at_VR_NCNT (tb m rfl)) g23)

theorem Lane.useSheet_near {M : Nat} {b : Lane} {l0 : Lane} {y1} {y2 : Fld} (m : sub 0x800000000000000000000000000000000000000000000000000 M = true) (h0 : Lane.Near M b l0) (f2 : Evt y2.addr M ∧ y2.width = 1) :
    Lane.Near M b (Lane.useSheet l0 y1 y2) := by
  delta Lane.useSheet
  exact Lane.drop_near (inReg at_VR_STAT (tb m rfl)) (Lane.raise_near f2.1 f2.2 (Lane.put_near (inReg at_VR_STAT (tb m rfl)) h0))

theorem Lane.adoptMajority_near {M : Nat} {b : Lane} {l0 : Lane} (m : sub 0x80008000000000000000000000000000000000000000000000000000000000000000000000000000000000000000000001800000000000000000000000000000000000000000000000000 M = true) (h0 : Lane.Near M b l0) :
    Lane.Near M b (Lane.adoptMajority l0) := by
  delta Lane.adoptMajority
  extract_lets -underBinder +onlyGivenNames x10
  have h10 : Lane.Near M b x10 := Lane.onRing_near (f := _) (RingState.Near.mk kp kp kp kp kp kp kp kp kp kp kp kp kp kp kp kp kp kp kp kp kp kp kp kp kp kp kp kp kp kp kp kp kp (ch m rfl) kp kp kp) h0
  clear_value x10
  extract_lets -underBinder +onlyGivenNames x11
  have h11 : Lane.Near M b x11 := Lane.when_near h10 (fun _ g12 => Lane.drop_near (inReg at_VR_STAT (tb m rfl)) (Lane.onRing_near (f := _) (RingState.Near.mk kp kp kp kp kp kp kp kp kp kp kp kp kp kp kp kp kp (ch m rfl) kp kp kp kp kp kp kp kp kp kp kp kp kp kp kp kp kp kp kp) g12))
  clear_value x11
  split
  · exact Lane.useSheet_near (tr m rfl) h11 ⟨(inEvt ev_VR_EVT (tb m rfl)), rfl⟩
  · exact Lane.drop_near (inReg at_VR_STAT (tb m rfl)) h11

theorem Lane.awaitMajority_near {M : Nat} {b : Lane} {l0 : Lane} {y1} (m : sub 0x80000000000000000000000000000000000000000000000000000000000000000000000000000000000000000000000000800000000000000000000000000000000000000000000000000 M = true) (h0 : Lane.Near M b l0) :
    Lane.Near M b (Lane.awaitMajority l0 y1) := by
  delta Lane.awaitMajority
  exact Lane.raise_near (inReg at_VR_STAT (tb m rfl)).1 rfl (Lane.onRing_near (f := _) (RingState.Near.mk kp kp kp kp kp kp kp kp kp kp kp kp kp kp kp kp kp kp kp kp kp kp kp kp kp kp kp kp kp kp kp kp kp (ch m rfl) kp kp kp) h0)

theorem Lane.changeSheet_near {M : Nat} {b : Lane} {l0 : Lane} {y1} (m : sub 0xd0008000000000000000000000000000000000000000000000000000000000000000000000000000000000000000000001800000000000000000000000000000000000000000000000000 M = true) (h0 : Lane.Near M b l0) :
    Lane.Near M b (Lane.changeSheet l0 y1) := by
  delta Lane.changeSheet
  exact Lane.near_ite (Lane.adoptMajority_near (tr m rfl) h0) (by
    split
    · exact Lane.near_ite (by
    extract_lets -underBinder +onlyGivenNames x10 x11
    clear_value x10 x11
    extract_lets -underBinder +onlyGivenNames x12
    have h12 : Lane.Near M b x12 := Lane.onRing_near (f := _) (RingState.Near.mk kp kp kp kp kp kp kp kp kp kp kp kp kp kp kp kp kp kp kp kp kp kp kp kp kp kp kp kp kp kp (ch m rfl) kp (ch m rfl) kp kp kp kp) h0
    clear_value x12
    exact Lane.near_ite (Lane.raise_near (inEvt ev_VR_EVT (tb m rfl)) rfl (Lane.drop_near (inReg at_VR_STAT (tb m rfl)) h12)) (Lane.near_ite (Lane.useSheet_near (tr m rfl) h12 ⟨(inEvt ev_VR_EVT (tb m rfl)), rfl⟩) (Lane.awaitMajority_near (tr m rfl) h12))) h0
    · split
      · exact Lane.near_ite h0 (Lane.awaitMajority_near (tr m rfl) h0)
      · exact h0)

theorem Lane.healCycle_near {M : Nat} {b : Lane} {l0 : Lane} (m : sub 0x700000000000000000000000000000000000000000000000000000000000000000000000000000000000000000000000061800000000000000000000000000000000000000000000000000 M = true) (h0 : Lane.Near M b l0) :
    Lane.Near M b (Lane.healCycle l0) := by
  delta Lane.healCycle
  extract_lets -underBinder +onlyGivenNames x10 x11
  clear_value x10 x11
  extract_lets -underBinder +onlyGivenNames x12
  have h12 : Lane.Near M b x12 := Lane.when_near h0 (fun _ g13 => Lane.raise_near (inEvt ev_VR_EVT (tb m rfl)) rfl (Lane.onRing_near (f := _) (RingState.Near.mk kp kp kp kp kp kp kp kp kp kp kp kp kp kp kp kp kp kp kp kp kp kp kp kp kp kp kp kp kp kp kp kp kp kp (ch m rfl) (ch m rfl) kp) g13))
  clear_value x12
  extract_lets -underBinder +onlyGivenNames x14
  have h14 : Lane.Near M b x14 := Lane.near_foldl (fun _ _ q15 g15 => Lane.putFlag_near (put_ite (inReg at_VR_PSTATW (tb m rfl)) (inReg at_VR_PSTATE (tb m rfl))) g15) h12
  clear_value x14
  extract_lets -underBinder +onlyGivenNames x16
  clear_value x16
  extract_lets -underBinder +onlyGivenNames x17
  have h17 : Lane.Near M b x17 := Lane.putFlag_near (inReg at_VR_STAT (tb m rfl)) h14
  clear_value x17
  extract_lets -underBinder +onlyGivenNames x18
  have h18 : Lane.Near M b x18 := Lane.putFlag_near (inReg at_VR_STAT (tb m rfl)) h17
  clear_value x18
  exact Lane.near_ite (Lane.raise_near (inEvt ev_VR_EVT (tb m rfl)) rfl (Lane.onRing_near (f := _) (RingState.Near.mk kp kp kp kp kp kp kp kp kp kp kp kp kp kp kp kp kp kp kp kp kp kp kp kp kp kp kp kp kp kp kp kp kp kp kp kp (ch m rfl)) h18)) h18

theorem Lane.listenCycle_near {M : Nat} {b : Lane} {l0 : Lane} (m : sub 0x1df4000000000000000000000000000000000000000000000000000000000000000000000000000000000000000000010800000000000000000000000000000000000000000000000000 M = true) (h0 : Lane.Near M b l0) :
    Lane.Near M b (Lane.listenCycle l0) := by
  delta Lane.listenCycle
  extract_lets -underBinder +onlyGivenNames x10 x11 x12
  clear_value x10 x11 x12
  extract_lets -underBinder +onlyGivenNames x13
  have h13 : Lane.Near M b x13 := Lane.onRing_near (f := _) (RingState.Near.mk kp kp kp kp kp kp kp kp kp kp kp kp kp kp kp kp kp kp kp (ch m rfl) (ch m rfl) kp (ch m rfl) kp (ch m rfl) kp kp kp kp kp kp kp kp kp kp kp kp) h0
  clear_value x13
  exact Lane.near_ite (Lane.setDrift_near (tr m rfl) (Lane.setRing_near (tr m rfl) (Lane.put_near (inReg at_VR_STAT (tb m rfl)) h13))) h13

theorem Lane.ringStateCycle_near {M : Nat} {b : Lane} {l0 : Lane} (m : sub 0x1ff4000000000000000000000000000000000000000000000000000000000000000000000000000000000000000000010800000000000000000000000000000000000000000000000000 M = true) (h0 : Lane.Near M b l0) :
    Lane.Near M b (Lane.ringStateCycle l0) := by
  delta Lane.ringStateCycle
  split
  · exact Lane.listenCycle_near (tr m rfl) h0
  · extract_lets -underBinder +onlyGivenNames x10
    have h10 : Lane.Near M b x10 := Lane.onRing_near (f := _) (RingState.Near.mk kp kp kp kp kp kp kp kp kp kp kp kp kp kp kp kp kp kp (ch m rfl) kp kp kp kp kp kp kp kp kp kp kp kp kp kp kp kp kp kp) h0
    clear_value x10
    exact Lane.near_ite (Lane.setRing_near (tr m rfl) h10) h10
  · exact Lane.near_ite (Lane.onRing_near (f := _) (RingState.Near.mk kp kp kp kp kp kp kp kp kp kp kp kp kp kp kp kp kp kp kp kp kp kp kp kp kp (ch m rfl) kp kp kp kp kp kp kp kp kp kp kp) h0) (Lane.near_ite (Lane.near_ite (Lane.onRing_near (f := _) (RingState.Near.mk kp kp kp kp kp kp kp kp kp kp kp kp kp kp kp kp kp kp kp kp kp kp kp kp kp (ch m rfl) kp kp kp kp kp kp kp kp kp kp kp) h0) (Lane.setRing_near (tr m rfl) h0)) (Lane.onRing_near (f := _) (RingState.Near.mk kp kp kp kp kp kp kp kp kp kp kp kp kp kp kp kp kp kp kp kp kp kp kp (ch m rfl) (ch m rfl) kp kp kp kp kp kp kp kp kp kp kp kp) (Lane.setRing_near (tr m rfl) h0)))
  · exact h0

theorem Lane.breakUnadmitted_near {M : Nat} {b : Lane} {l0 : Lane} (m : sub 0x770000000400000000000000000000000000000000000000000000000000000000000000000000000000000000000000061800000000000000000000000000000000000000000000000000 M = true) (h0 : Lane.Near M b l0) :
    Lane.Near M b (Lane.breakUnadmitted l0) := by
  delta Lane.breakUnadmitted
  exact Lane.near_ite h0 (Lane.near_foldl (fun _ _ q10 g10 => Lane.near_ite g10 (Lane.breakPort_near (tr m rfl) g10)) h0)

theorem Lane.ringCycle_near {M : Nat} {b : Lane} {l0 : Lane} (m : sub 0xe0007f3ffdfffc00000000000000000000000000000000000000000000000000000000001000000000000000fd0000000040875800000000000000000000000000000000000000000000000000 M = true) (h0 : Lane.Near M b l0) :
    Lane.Near M b (Lane.ringCycle l0) := by
  delta Lane.ringCycle
  extract_lets -underBinder +onlyGivenNames x10
  clear_value x10
  extract_lets -underBinder +onlyGivenNames x11
  have h11 : Lane.Near M b x11 := Lane.breakUnadmitted_near (tr m rfl) (Lane.ringStateCycle_near (tr m rfl) (Lane.updateSilence_near (tr m rfl) (Lane.updateDrift_near (tr m rfl) h0)))
  clear_value x11
  extract_lets -underBinder +onlyGivenNames x12
  clear_value x12
  extract_lets -underBinder +onlyGivenNames x13
  have h13 : Lane.Near M b x13 := Lane.onRing_near (f := _) (RingState.Near.mk kp (ch m rfl) kp kp kp kp kp kp kp (ch m rfl) kp kp kp kp kp kp kp kp kp kp kp kp kp kp kp kp kp kp kp kp kp kp kp kp kp kp kp) h11
  clear_value x13
  extract_lets -underBinder +onlyGivenNames x14
  have h14 : Lane.Near M b x14 := Lane.healCycle_near (tr m rfl) (Lane.changeSheet_near (tr m rfl) h13)
  clear_value x14
  extract_lets -underBinder +onlyGivenNames x15
  have h15 : Lane.Near M b x15 := Lane.when_near h14 (fun _ g16 => Lane.sendStart_near (tr m rfl) g16)
  clear_value x15
  extract_lets -underBinder +onlyGivenNames x17
  have h17 : Lane.Near M b x17 := Lane.put_near (inReg at_VR_STAT (tb m rfl)) h15
  clear_value x17
  extract_lets -underBinder +onlyGivenNames x18
  have h18 : Lane.Near M b x18 := Lane.near_foldl (fun _ _ q19 g19 => Lane.setWord_near (inReg (at_VR_MISS (List.mem_range.1 q19)) (tb m rfl)) g19) h17
  clear_value x18
  extract_lets -underBinder +onlyGivenNames x20
  have h20 : Lane.Near M b x20 := Lane.put_near (inReg at_VR_CYCNUM (tb m rfl)) h18
  clear_value x20
  extract_lets -underBinder +onlyGivenNames x21
  have h21 : Lane.Near M b x21 := Lane.snapshotAll_near (tr m rfl) (Lane.publishAll_near (tr m rfl) h20)
  clear_value x21
  exact Lane.onRing_near (f := _) (RingState.Near.mk kp kp (ch m rfl) (ch m rfl) (ch m rfl) (ch m rfl) (ch m rfl) (ch m rfl) (ch m rfl) kp kp kp kp kp kp kp kp kp kp kp kp kp kp kp kp kp kp kp kp kp kp kp kp kp kp kp kp) h21

theorem Lane.announce_near {M : Nat} {b : Lane} {l0 : Lane} {y1} (m : sub 0x50000000000000000000000000000000000000000000000000000000000000000000000000000000000000000000000000800000000000000000000000000000000000000000000000000 M = true) (h0 : Lane.Near M b l0) :
    Lane.Near M b (Lane.announce l0 y1) := by
  delta Lane.announce
  extract_lets -underBinder +onlyGivenNames x10
  clear_value x10
  exact Lane.near_ite (Lane.raise_near (inReg at_VR_STAT (tb m rfl)).1 rfl (Lane.put_near (inReg at_VR_STAT (tb m rfl)) (Lane.onRing_near (f := _) (RingState.Near.mk kp kp kp kp kp kp kp kp kp kp kp kp kp kp kp kp kp kp kp kp kp kp kp kp kp kp kp kp kp kp (ch m rfl) kp (ch m rfl) kp kp kp kp) h0))) h0

theorem Lane.reintegrate_near {M : Nat} {b : Lane} {l0 : Lane} (m : sub 0x1db0000000000000000000000000000000000000000000000000000000000000000000000000000000000000000000000800000000000000000000000000000000000000000000000000 M = true) (h0 : Lane.Near M b l0) :
    Lane.Near M b (Lane.reintegrate l0) := by
  delta Lane.reintegrate
  exact Lane.near_ite h0 (Lane.setRing_near (tr m rfl) h0)

theorem Lane.latchFault_near {M : Nat} {b : Lane} {l0 : Lane} {y1} (m : sub 0x100000000000000000000000000000000000000000000000000000000000000000000000000000000000000000000000000000000000000000000000 M = true) (h0 : Lane.Near M b l0) :
    Lane.Near M b (Lane.latchFault l0 y1) := by
  delta Lane.latchFault
  exact Lane.onMode_near (f := _) (ModeState.Near.mk kp kp kp (ch m rfl) kp kp kp kp kp kp) h0

theorem Lane.latchFaults_near {M : Nat} {b : Lane} {l0 : Lane} (m : sub 0x100000000000000000000000000000000000000000000000000000000000000000000000000000000000000000000000000000000000000000000000 M = true) (h0 : Lane.Near M b l0) :
    Lane.Near M b (Lane.latchFaults l0) := by
  delta Lane.latchFaults
  extract_lets -underBinder +onlyGivenNames x10
  clear_value x10
  exact Lane.onMode_near (f := _) (ModeState.Near.mk kp kp kp (ch m rfl) kp kp kp kp kp kp) h0

theorem Lane.watchHold_near {M : Nat} {b : Lane} {l0 : Lane} (m : sub 0x4000000000000000000000000000000000000000800000000000000000000000000000000000000000000000000000000000000000000000000000000 M = true) (h0 : Lane.Near M b l0) :
    Lane.Near M b (Lane.watchHold l0) := by
  delta Lane.watchHold
  extract_lets -underBinder +onlyGivenNames x10 x11
  clear_value x10 x11
  exact Lane.onMode_near (f := _) (ModeState.Near.mk kp kp kp kp kp kp kp kp kp (ch m rfl)) (Lane.when_near h0 (fun _ g12 => Lane.note_near (tb m rfl) g12))

theorem Lane.sampleFaults_near {M : Nat} {b : Lane} {l0 : Lane} (m : sub 0x300000000000000000000000000000000000000800000000000000000000000000000000000000000000000000000000000000000000000000000000 M = true) (h0 : Lane.Near M b l0) :
    Lane.Near M b (Lane.sampleFaults l0) := by
  delta Lane.sampleFaults
  extract_lets -underBinder +onlyGivenNames x10
  have h10 : Lane.Near M b x10 := Lane.latchFaults_near (tr m rfl) h0
  clear_value x10
  extract_lets -underBinder +onlyGivenNames x11
  clear_value x11
  extract_lets -underBinder +onlyGivenNames x12
  have h12 : Lane.Near M b x12 := Lane.when_near h10 (fun _ g13 => Lane.note_near (tb m rfl) g13)
  clear_value x12
  exact Lane.onMode_near (f := _) (ModeState.Near.mk kp kp kp kp (ch m rfl) kp kp kp kp kp) h12

theorem Lane.setPend_near {M : Nat} {b : Lane} {l0 : Lane} {y1} {y2} (m : sub 0x100000000000000000000000000000000000000000000000000000000000000000000 M = true) (h0 : Lane.Near M b l0) :
    Lane.Near M b (Lane.setPend l0 y1 y2) := by
  delta Lane.setPend
  exact Lane.near_ite h0 (Lane.putBit_near (inReg (at_CB_PEND (by omega)) (tb m rfl)) h0)

theorem Lane.presentOne_near {M : Nat} {b : Lane} {l0 : Lane} {y1} (m : sub 0x10000000000000000000000000000000000000000000000000000000000000004000000000000000000000000000000000000000000000000000000000000000000000 M = true) (h0 : Lane.Near M b l0) :
    Lane.Near M b (Lane.presentOne l0 y1) := by
  delta Lane.presentOne
  extract_lets -underBinder +onlyGivenNames x10 x11 x12 x13
  clear_value x10 x11 x12 x13
  extract_lets -underBinder +onlyGivenNames x14
  have h14 : Lane.Near M b x14 := Lane.when_near h0 (fun _ g15 => Lane.trioEvent_near (tr m rfl) g15)
  clear_value x14
  exact Lane.put_near (inReg (at_CB_PRES (Fin.isLt _)) (tb m rfl)) (Lane.put_near (inReg (at_CB_PRES (Fin.isLt _)) (tb m rfl)) (Lane.put_near (inReg (at_CB_PRES (Fin.isLt _)) (tb m rfl)) (Lane.putFlag_near (inReg (at_CB_PRES (Fin.isLt _)) (tb m rfl)) h14)))

theorem Lane.presentAll_near {M : Nat} {b : Lane} {l0 : Lane} (m : sub 0x10000000000000000000000000000000000000000000000000000000200000004020000000000000000000000000000000000000000000000000000000000000000000 M = true) (h0 : Lane.Near M b l0) :
    Lane.Near M b (Lane.presentAll l0) := by
  delta Lane.presentAll
  extract_lets -underBinder +onlyGivenNames x10
  have h10 : Lane.Near M b x10 := Lane.near_foldl (fun _ _ q11 g11 => Lane.presentOne_near (tr m rfl) g11) h0
  clear_value x10
  extract_lets -underBinder +onlyGivenNames x12
  have h12 : Lane.Near M b x12 := Lane.put_near (inReg at_CB_STAT (tb m rfl)) h10
  clear_value x12
  exact Lane.atn_near (tr m rfl) h12

theorem Lane.sampleCall_near {M : Nat} {b : Lane} {l0 : Lane} (m : sub 0x100000000000000000b0000000000000000000000000000000000000200000004120000000000000000000000000000000000000000000000000000000000000000000 M = true) (h0 : Lane.Near M b l0) :
    Lane.Near M b (Lane.sampleCall l0) := by
  delta Lane.sampleCall
  exact Lane.near_ite (by
    extract_lets -underBinder +onlyGivenNames x10 x11 x12
    clear_value x10 x11 x12
    extract_lets -underBinder +onlyGivenNames x13
    have h13 : Lane.Near M b x13 := Lane.near_foldl (fun _ _ q14 g14 => Lane.setPend_near (tr m rfl) g14) h0
    clear_value x13
    exact Lane.presentAll_near (tr m rfl) (Lane.onCall_near (f := _) (CallState.Near.mk kp (ch m rfl) (ch m rfl) kp (ch m rfl)) h13)) (Lane.onCall_near (f := _) (CallState.Near.mk kp kp (ch m rfl) kp (ch m rfl)) h0)

theorem Lane.claimFor_near {M : Nat} {b : Lane} {l0 : Lane} {y1} (m : sub 0x100000000000000000080000000000000000000000000000000000002000000053e0000000000000000000000000000000000000000000000000000000000000000000 M = true) (h0 : Lane.Near M b l0) :
    Lane.Near M b (Lane.claimFor l0 y1) := by
  delta Lane.claimFor
  exact Lane.near_ite (Lane.raise_near (inEvt ev_CB_EVT (tb m rfl)) rfl (Lane.setWord_near (inReg (at_CB_CLAIM (Fin.isLt _)) (tb m rfl)) h0)) (by
    split
    · exact Lane.setWord_near (inReg (at_CB_CLAIM (Fin.isLt _)) (tb m rfl)) h0
    · extract_lets -underBinder +onlyGivenNames x10
      have h10 : Lane.Near M b x10 := Lane.bump_near (inReg at_CB_CNT (tb m rfl)) (Lane.setPend_near (tr m rfl) h0)
      clear_value x10
      extract_lets -underBinder +onlyGivenNames x11
      have h11 : Lane.Near M b x11 := Lane.when_near h10 (fun _ g12 => Lane.putBit_near (inReg (at_CB_ACT (by omega)) (tb m rfl)) (Lane.onCall_near (f := _) (CallState.Near.mk (ch m rfl) kp kp kp kp) g12))
      clear_value x11
      exact Lane.setWord_near (inReg (at_CB_CLAIM (Fin.isLt _)) (tb m rfl)) (Lane.presentAll_near (tr m rfl) h11))

theorem Lane.deactivate_near {M : Nat} {b : Lane} {l0 : Lane} {y1} (m : sub 0x8000000000000000000000000000000000000000000000200000000000000000000000000000000000000000000000000000000000000000000 M = true) (h0 : Lane.Near M b l0) :
    Lane.Near M b (Lane.deactivate l0 y1) := by
  delta Lane.deactivate
  exact Lane.putBit_near (inReg (at_CB_ACT (by omega)) (tb m rfl)) (Lane.onCall_near (f := _) (CallState.Near.mk (ch m rfl) kp kp kp kp) h0)

theorem Lane.completeFor_near {M : Nat} {b : Lane} {l0 : Lane} {y1} {y2} (m : sub 0x100000000000000000080000000000000000000000000000000000002000000042e0000000000000000000000000000000000000000000000000000000000000000000 M = true) (h0 : Lane.Near M b l0) :
    Lane.Near M b (Lane.completeFor l0 y1 y2) := by
  delta Lane.completeFor
  exact Lane.near_ite (Lane.presentAll_near (tr m rfl) (Lane.deactivate_near (tr m rfl) h0)) (Lane.bump_near (inReg at_CB_CNT (tb m rfl)) (Lane.raise_near (inEvt ev_CB_EVT (tb m rfl)) rfl h0))

theorem Lane.keepCallWrite_near {M : Nat} {b : Lane} {l0 : Lane} {y1} {y2} (m : sub 0x40000000000000000000000000000000000000000000000000000000000000000000000000000000000000000000000000000000000000000000 M = true) (h0 : Lane.Near M b l0) :
    Lane.Near M b (Lane.keepCallWrite l0 y1 y2) := by
  delta Lane.keepCallWrite
  extract_lets -underBinder +onlyGivenNames x10
  clear_value x10
  exact Lane.onCall_near (f := _) (CallState.Near.mk kp kp kp (ch m rfl) kp) h0

theorem Lane.repeatCallWrite_near {M : Nat} {b : Lane} {l0 : Lane} {y1} {y2} (m : sub 0x80000000000000000000000000000000005ffffffffffffffffffffffffffffffffffffffffffffffffffffffffffffffffffffffffffffffff M = true) (h0 : Lane.Near M b l0) :
    Lane.Near M b (Lane.repeatCallWrite l0 y1 y2) := by
  delta Lane.repeatCallWrite
  split
  · exact Lane.near_ite (Lane.deactivate_near (tr m rfl) h0) h0
  · exact Lane.writeWord_near (tr m rfl) h0

theorem Lane.applyCallMirror_near {M : Nat} {b : Lane} {l0 : Lane} {y1} (m : sub 0x100000000000000000180000000000000000000000000000000005ffffffffffffffffffffffffffffffffffffffffffffffffffffffffffffffffffffffffffffffff M = true) (h0 : Lane.Near M b l0) :
    Lane.Near M b (Lane.applyCallMirror l0 y1) := by
  delta Lane.applyCallMirror
  extract_lets -underBinder +onlyGivenNames x10
  have h10 : Lane.Near M b x10 := Lane.near_foldl (fun _ _ q11 g11 => Lane.setWord_near (inReg (at_CB_ACT (List.mem_range.1 q11)) (tb m rfl)) (Lane.setWord_near (inReg (at_CB_PEND (List.mem_range.1 q11)) (tb m rfl)) g11)) h0
  clear_value x10
  extract_lets -underBinder +onlyGivenNames x12
  have h12 : Lane.Near M b x12 := Lane.near_foldl (fun _ _ q13 g13 => Lane.putBit_near (inReg (at_CB_ACT (by omega)) (tb m rfl)) g13) h10
  clear_value x12
  extract_lets -underBinder +onlyGivenNames x14
  have h14 : Lane.Near M b x14 := Lane.near_foldl (fun _ _ q15 g15 => Lane.setWord_near (inReg (at_CB_EN (by have := (List.mem_range.1 q15); omega) (by have := (List.mem_range.1 q15); omega)) (tb m rfl)) g15) h12
  clear_value x14
  extract_lets -underBinder +onlyGivenNames x16
  have h16 : Lane.Near M b x16 := Lane.near_foldl (fun _ _ q17 g17 => Lane.put_near (inReg (at_CB_SRC (List.mem_range.1 q17)) (tb m rfl)) g17) h14
  clear_value x16
  extract_lets -underBinder +onlyGivenNames x18
  have h18 : Lane.Near M b x18 := Lane.near_foldl (fun _ _ q19 g19 => Lane.put_near (inReg (at_CB_THR (List.mem_range.1 q19)) (tb m rfl)) g19) h16
  clear_value x18
  extract_lets -underBinder +onlyGivenNames x20
  have h20 : Lane.Near M b x20 := Lane.onCall_near (f := _) (CallState.Near.mk (ch m rfl) (ch m rfl) kp kp kp) h18
  clear_value x20
  extract_lets -underBinder +onlyGivenNames x21
  clear_value x21
  extract_lets -underBinder +onlyGivenNames x22
  have h22 : Lane.Near M b x22 := Lane.near_foldl (fun _ _ q23 g23 => Lane.near_ite (Lane.repeatCallWrite_near (tr m rfl) g23) g23) h20
  clear_value x22
  exact Lane.presentAll_near (tr m rfl) h22

theorem Lane.takeOverCall_near {M : Nat} {b : Lane} {l0 : Lane} (m : sub 0x20000000000000000000000000000000000000000000000040000000000000000000000000000000000000000000000000000000000000000000 M = true) (h0 : Lane.Near M b l0) :
    Lane.Near M b (Lane.takeOverCall l0) := by
  delta Lane.takeOverCall
  exact Lane.raise_near (inEvt ev_CB_EVT (tb m rfl)) rfl (Lane.event_near (tr m rfl) h0)

theorem Lane.confine_near {M : Nat} {b : Lane} {l0 : Lane} {y1} (m : sub 0x1000000000000000000000000000000000000000000000000000000000000000000000000800000000000000000228000000000000000000000000000000000000000000000000000000000000 M = true) (h0 : Lane.Near M b l0) :
    Lane.Near M b (Lane.confine l0 y1) := by
  delta Lane.confine
  extract_lets -underBinder +onlyGivenNames x10
  clear_value x10
  exact Lane.near_ite h0 (Lane.near_ite (by
    extract_lets -underBinder +onlyGivenNames x11
    have h11 : Lane.Near M b x11 := Lane.bump_near (inReg (at_CN_BOREC (Fin.isLt _)) (tb m rfl)) (Lane.raise_near (inEvt (ev_CN_EVT (Fin.isLt _)) (tb m rfl)) rfl (Lane.put_near (inReg (at_CN_STAT (Fin.isLt _)) (tb m rfl)) h0))
    clear_value x11
    exact Lane.note_near (tb m rfl) (Lane.onCan_near (f := _) (CanState.Near.mk kp kp kp kp (ch m rfl) kp) h11)) (Lane.near_ite (Lane.put_near (inReg (at_CN_STAT (Fin.isLt _)) (tb m rfl)) (Lane.when_near h0 (fun _ g12 => Lane.raise_near (inEvt (ev_CN_EVT (Fin.isLt _)) (tb m rfl)) rfl g12))) (Lane.put_near (inReg (at_CN_STAT (Fin.isLt _)) (tb m rfl)) h0)))

theorem Lane.canStore_near {M : Nat} {b : Lane} {l0 : Lane} {y1} {y2} {y3} (m : sub 0x200000000000000000000000000000000000000000000000000000000000000000000000000000000000000001d020000000000000000000000000000000000000000000000000000000000000 M = true) (h0 : Lane.Near M b l0) :
    Lane.Near M b (Lane.canStore l0 y1 y2 y3) := by
  delta Lane.canStore
  extract_lets -underBinder +onlyGivenNames x10
  have h10 : Lane.Near M b x10 := Lane.when_near h0 (fun _ g11 => Lane.raise_near (inEvt (ev_CN_EVT (Fin.isLt _)) (tb m rfl)) rfl (Lane.raise_near (inReg (at_CN_BCTL (Fin.isLt _) (Fin.isLt _)) (tb m rfl)).1 rfl g11))
  clear_value x10
  extract_lets -underBinder +onlyGivenNames x12
  have h12 : Lane.Near M b x12 := Lane.put_near (inReg (at_CN_BCTL (Fin.isLt _) (Fin.isLt _)) (tb m rfl)) h10
  clear_value x12
  extract_lets -underBinder +onlyGivenNames x13
  have h13 : Lane.Near M b x13 := Lane.put_near (inReg (at_CN_BID (Fin.isLt _) (Fin.isLt _)) (tb m rfl)) h12
  clear_value x13
  extract_lets -underBinder +onlyGivenNames x14
  have h14 : Lane.Near M b x14 := Lane.putFlag_near (inReg (at_CN_BCTL (Fin.isLt _) (Fin.isLt _)) (tb m rfl)) (Lane.putFlag_near (inReg (at_CN_BCTL (Fin.isLt _) (Fin.isLt _)) (tb m rfl)) (Lane.putFlag_near (inReg (at_CN_BCTL (Fin.isLt _) (Fin.isLt _)) (tb m rfl)) h13))
  clear_value x14
  extract_lets -underBinder +onlyGivenNames x15
  have h15 : Lane.Near M b x15 := Lane.put_near (inReg (at_CN_BCTL (Fin.isLt _) (Fin.isLt _)) (tb m rfl)) (Lane.putFlag_near (inReg (at_CN_BCTL (Fin.isLt _) (Fin.isLt _)) (tb m rfl)) h14)
  clear_value x15
  extract_lets -underBinder +onlyGivenNames x16
  have h16 : Lane.Near M b x16 := Lane.put_near (inReg (at_CN_BSTM (Fin.isLt _) (Fin.isLt _)) (tb m rfl)) h15
  clear_value x16
  extract_lets -underBinder +onlyGivenNames x17
  have h17 : Lane.Near M b x17 := Lane.near_foldl (fun _ _ q18 g18 => Lane.setWord_near (inReg (at_CN_BDAT (Fin.isLt _) (Fin.isLt _) (List.mem_range.1 q18)) (tb m rfl)) g18) h16
  clear_value x17
  extract_lets -underBinder +onlyGivenNames x19
  have h19 : Lane.Near M b x19 := Lane.raise_near (inReg (at_CN_BCTL (Fin.isLt _) (Fin.isLt _)) (tb m rfl)).1 rfl h17
  clear_value x19
  exact Lane.when_near h19 (fun _ g20 => Lane.onCan_near (f := _) (CanState.Near.mk kp kp kp kp kp (ch m rfl)) g20)

theorem Lane.goodFrame_near {M : Nat} {b : Lane} {l0 : Lane} {y1} (m : sub 0x1000000000000000000000000000000000000000000000000000000000000000000000004800000000000000000238000000000000000000000000000000000000000000000000000000000000 M = true) (h0 : Lane.Near M b l0) :
    Lane.Near M b (Lane.goodFrame l0 y1) := by
  delta Lane.goodFrame
  extract_lets -underBinder +onlyGivenNames x10
  clear_value x10
  exact Lane.near_ite (Lane.confine_near (tr m rfl) (Lane.nextChoice_near (tb m rfl) (Lane.put_near (inReg (at_CN_ERR (Fin.isLt _)) (tb m rfl)) h0))) (Lane.confine_near (tr m rfl) (Lane.put_near (inReg (at_CN_ERR (Fin.isLt _)) (tb m rfl)) h0))

theorem Lane.receiveError_near {M : Nat} {b : Lane} {l0 : Lane} {y1} {y2} {y3} (m : sub 0x1000000000000000000000000000000000000000000000000000000000000000000000000800000000000000000238000000000000000000000000000000000000000000000000000000000000 M = true) (h0 : Lane.Near M b l0) :
    Lane.Near M b (Lane.receiveError l0 y1 y2 y3) := by
  delta Lane.receiveError
  exact Lane.confine_near (tr m rfl) (Lane.put_near (inReg (at_CN_ERR (Fin.isLt _)) (tb m rfl)) (Lane.put_near (inReg (at_CN_STAT (Fin.isLt _)) (tb m rfl)) h0))

theorem Lane.protocolException_near {M : Nat} {b : Lane} {l0 : Lane} {y1} (m : sub 0x1000000000000000000000000000000000000000000000000000000000000000000000000800000000000000000238000000000000000000000000000000000000000000000000000000000000 M = true) (h0 : Lane.Near M b l0) :
    Lane.Near M b (Lane.protocolException l0 y1) := by
  delta Lane.protocolException
  exact Lane.near_ite (Lane.drop_near (inReg (at_CN_STAT (Fin.isLt _)) (tb m rfl)) h0) (Lane.receiveError_near (tr m rfl) h0)

theorem Lane.canReceive_near {M : Nat} {b : Lane} {l0 : Lane} {y1} {y2} (m : sub 0x300000000000000000000000000000000000000000000000000000000000000000000000480000000000000001d2b8000000000000000000000000000000000000000000000000000000000000 M = true) (h0 : Lane.Near M b l0) :
    Lane.Near M b (Lane.canReceive l0 y1 y2) := by
  delta Lane.canReceive
  exact Lane.near_ite h0 (Lane.near_ite (Lane.protocolException_near (tr m rfl) h0) (by
    extract_lets -underBinder +onlyGivenNames x10
    have h10 : Lane.Near M b x10 := Lane.goodFrame_near (tr m rfl) h0
    clear_value x10
    exact Lane.near_ite (Lane.raise_near (inEvt (ev_CN_EVT (Fin.isLt _)) (tb m rfl)) rfl h10) (by
    split
    · exact Lane.canStore_near (tr m rfl) h10
    · exact Lane.bump_near (inReg (at_CN_CNT1 (Fin.isLt _)) (tb m rfl)) h10)))

theorem Lane.canMissed_near {M : Nat} {b : Lane} {l0 : Lane} {y1} {y2} (m : sub 0x40a0000000000000000000000000000000000000000000000000000000000000 M = true) (h0 : Lane.Near M b l0) :
    Lane.Near M b (Lane.canMissed l0 y1 y2) := by
  delta Lane.canMissed
  exact Lane.drop_near (inReg (at_CN_BCTL (Fin.isLt _) (Fin.isLt _)) (tb m rfl)) (Lane.put_near (inReg (at_CN_BCTL (Fin.isLt _) (Fin.isLt _)) (tb m rfl)) (Lane.bump_near (inReg (at_CN_CNT1 (Fin.isLt _)) (tb m rfl)) (Lane.raise_near (inEvt (ev_CN_EVT (Fin.isLt _)) (tb m rfl)) rfl h0)))

theorem Lane.noteFired_near {M : Nat} {b : Lane} {l0 : Lane} {y1} {y2} (m : sub 0x600000000000000000000000000000000000000000000000000000000000000000000000000000000000000000000000000000000000000000000000000000000000000000000000000000000 M = true) (h0 : Lane.Near M b l0) :
    Lane.Near M b (Lane.noteFired l0 y1 y2) := by
  delta Lane.noteFired
  extract_lets -underBinder +onlyGivenNames x10
  clear_value x10
  exact Lane.onCan_near (f := _) (CanState.Near.mk kp (ch m rfl) (ch m rfl) kp kp kp) h0

theorem Lane.canOpen_near {M : Nat} {b : Lane} {l0 : Lane} {y1} {y2} (m : sub 0x7000000000000000000000000000000000000000000000000000000000000000000000000000000000000000040a8000000000000000000000000000000000000000000000000000000000000 M = true) (h0 : Lane.Near M b l0) :
    Lane.Near M b (Lane.canOpen l0 y1 y2) := by
  delta Lane.canOpen
  extract_lets -underBinder +onlyGivenNames x10 x11 x12 x13
  clear_value x10 x11 x12 x13
  extract_lets -underBinder +onlyGivenNames x14
  have h14 : Lane.Near M b x14 := Lane.when_near h0 (fun _ g15 => Lane.noteFired_near (tr m rfl) g15)
  clear_value x14
  exact Lane.near_ite h14 (Lane.near_ite h14 (Lane.near_ite (Lane.canMissed_near (tr m rfl) h14) (by
    extract_lets -underBinder +onlyGivenNames x16
    clear_value x16
    exact Lane.onCan_near (f := _) (CanState.Near.mk (ch m rfl) kp kp kp kp kp) (Lane.drop_near (inReg (at_CN_STAT (Fin.isLt _)) (tb m rfl)) (Lane.raise_near (inReg (at_CN_STAT (Fin.isLt _)) (tb m rfl)).1 rfl h14)))))

theorem Lane.canAcked_near {M : Nat} {b : Lane} {l0 : Lane} {y1} {y2} (m : sub 0x1000000000000000000000000000000000000000000000000000000000000000000000000800000000000000004278000000000000000000000000000000000000000000000000000000000000 M = true) (h0 : Lane.Near M b l0) :
    Lane.Near M b (Lane.canAcked l0 y1 y2) := by
  delta Lane.canAcked
  extract_lets -underBinder +onlyGivenNames x10
  have h10 : Lane.Near M b x10 := Lane.put_near (inReg (at_CN_CNT0 (Fin.isLt _)) (tb m rfl)) (Lane.bump_near (inReg (at_CN_CNT0 (Fin.isLt _)) (tb m rfl)) h0)
  clear_value x10
  extract_lets -underBinder +onlyGivenNames x11
  have h11 : Lane.Near M b x11 := Lane.when_near h10 (fun _ g12 => Lane.raise_near (inEvt (ev_CN_EVT (Fin.isLt _)) (tb m rfl)) rfl (Lane.drop_near (inReg (at_CN_STAT (Fin.isLt _)) (tb m rfl)) g12))
  clear_value x11
  extract_lets -underBinder +onlyGivenNames x13
  have h13 : Lane.Near M b x13 := Lane.put_near (inReg (at_CN_BCTL (Fin.isLt _) (Fin.isLt _)) (tb m rfl)) h11
  clear_value x13
  exact Lane.confine_near (tr m rfl) (Lane.put_near (inReg (at_CN_ERR (Fin.isLt _)) (tb m rfl)) h13)

theorem Lane.canUnacked_near {M : Nat} {b : Lane} {l0 : Lane} {y1} {y2} (m : sub 0x1000000000000000000000000000000000000000000000000000000000000000000000000800000000000000004278000000000000000000000000000000000000000000000000000000000000 M = true) (h0 : Lane.Near M b l0) :
    Lane.Near M b (Lane.canUnacked l0 y1 y2) := by
  delta Lane.canUnacked
  extract_lets -underBinder +onlyGivenNames x10
  clear_value x10
  extract_lets -underBinder +onlyGivenNames x11
  have h11 : Lane.Near M b x11 := Lane.put_near (inReg (at_CN_STAT (Fin.isLt _)) (tb m rfl)) (Lane.raise_near (inEvt (ev_CN_EVT (Fin.isLt _)) (tb m rfl)) rfl (Lane.bump_near (inReg (at_CN_CNT0 (Fin.isLt _)) (tb m rfl)) (Lane.bump_near (inReg (at_CN_CNT0 (Fin.isLt _)) (tb m rfl)) h0)))
  clear_value x11
  extract_lets -underBinder +onlyGivenNames x12
  have h12 : Lane.Near M b x12 := Lane.when_near h11 (fun _ g13 => Lane.raise_near (inEvt (ev_CN_EVT (Fin.isLt _)) (tb m rfl)) rfl (Lane.raise_near (inReg (at_CN_STAT (Fin.isLt _)) (tb m rfl)).1 rfl g13))
  clear_value x12
  extract_lets -underBinder +onlyGivenNames x14
  have h14 : Lane.Near M b x14 := Lane.put_near (inReg (at_CN_BCTL (Fin.isLt _) (Fin.isLt _)) (tb m rfl)) h12
  clear_value x14
  exact Lane.confine_near (tr m rfl) (Lane.when_near h14 (fun _ g15 => Lane.put_near (inReg (at_CN_ERR (Fin.isLt _)) (tb m rfl)) g15))

theorem Lane.canOutcome_near {M : Nat} {b : Lane} {l0 : Lane} {y1} {y2} {y3} (m : sub 0x10000000000000000000000000000000000000000000000000000000000000000000000008000000000000000042f8000000000000000000000000000000000000000000000000000000000000 M = true) (h0 : Lane.Near M b l0) :
    Lane.Near M b (Lane.canOutcome l0 y1 y2 y3) := by
  delta Lane.canOutcome
  split
  · exact Lane.canAcked_near (tr m rfl) h0
  · exact Lane.canUnacked_near (tr m rfl) h0
  · extract_lets -underBinder +onlyGivenNames x10
    have h10 : Lane.Near M b x10 := Lane.put_near (inReg (at_CN_BCTL (Fin.isLt _) (Fin.isLt _)) (tb m rfl)) (Lane.put_near (inReg (at_CN_STAT (Fin.isLt _)) (tb m rfl)) (Lane.bump_near (inReg (at_CN_CNT1 (Fin.isLt _)) (tb m rfl)) h0))
    clear_value x10
    exact Lane.confine_near (tr m rfl) (Lane.put_near (inReg (at_CN_ERR (Fin.isLt _)) (tb m rfl)) h10)
  · exact Lane.put_near (inReg (at_CN_BCTL (Fin.isLt _) (Fin.isLt _)) (tb m rfl)) (Lane.bump_near (inReg (at_CN_CNT1 (Fin.isLt _)) (tb m rfl)) h0)
  · exact Lane.canMissed_near (tr m rfl) h0

theorem Lane.canClose_near {M : Nat} {b : Lane} {l0 : Lane} {y1} {y2} (m : sub 0x11000000000000000000000000000000000000000000000000000000000000000000000018000000000000000042f8000000000000000000000000000000000000000000000000000000000000 M = true) (h0 : Lane.Near M b l0) :
    Lane.Near M b (Lane.canClose l0 y1 y2) := by
  delta Lane.canClose
  split
  · exact h0
  · extract_lets -underBinder +onlyGivenNames x10 x11
    clear_value x10 x11
    exact Lane.near_ite h0 (by
    extract_lets -underBinder +onlyGivenNames x12
    have h12 : Lane.Near M b x12 := Lane.drop_near (inReg (at_CN_STAT (Fin.isLt _)) (tb m rfl)) (Lane.onCan_near (f := _) (CanState.Near.mk (ch m rfl) kp kp kp kp kp) h0)
    clear_value x12
    extract_lets -underBinder +onlyGivenNames x13
    have h13 : Lane.Near M b x13 := Lane.when_near h12 (fun _ g14 => Lane.send_near (tb m rfl) g14)
    clear_value x13
    exact Lane.raise_near (inReg (at_CN_STAT (Fin.isLt _)) (tb m rfl)).1 rfl (Lane.drop_near (inReg (at_CN_BCTL (Fin.isLt _) (Fin.isLt _)) (tb m rfl)) (Lane.canOutcome_near (tr m rfl) h13)))

theorem Lane.canRecover_near {M : Nat} {b : Lane} {l0 : Lane} {y1} (m : sub 0x8000000000000000000000000000000000000000000000000000000000000 M = true) (h0 : Lane.Near M b l0) :
    Lane.Near M b (Lane.canRecover l0 y1) := by
  delta Lane.canRecover
  exact Lane.near_ite (Lane.put_near (inReg (at_CN_STAT (Fin.isLt _)) (tb m rfl)) h0) h0

theorem Lane.ackBuffer_near {M : Nat} {b : Lane} {l0 : Lane} {y1} {y2} {y3} (m : sub 0x4000000000000000000000000000000000000000000000000000000000000000 M = true) (h0 : Lane.Near M b l0) :
    Lane.Near M b (Lane.ackBuffer l0 y1 y2 y3) := by
  delta Lane.ackBuffer
  exact Lane.near_ite (Lane.drop_near (inReg (at_CN_BCTL (Fin.isLt _) (Fin.isLt _)) (tb m rfl)) h0) h0

theorem Lane.writeImage_near {M : Nat} {b : Lane} {l0 : Lane} {y1} (m : sub 0x5ffffffffffffffffffffffffffffffffffffffffffffffffffffffffffffffffffffffffffffffff M = true) (h0 : Lane.Near M b l0) :
    Lane.Near M b (Lane.writeImage l0 y1) := by
  delta Lane.writeImage
  exact Lane.near_foldl (fun _ _ q10 g10 => Lane.near_ite (Lane.writeWord_near (tr m rfl) g10) g10) h0

theorem Lane.writeSeats_near {M : Nat} {b : Lane} {l0 : Lane} {y1} (m : sub 0x3c280000000000000000000000000000000000000000000000000000000000000000000000000000 M = true) (h0 : Lane.Near M b l0) :
    Lane.Near M b (Lane.writeSeats l0 y1) := by
  delta Lane.writeSeats
  extract_lets -underBinder +onlyGivenNames x10
  clear_value x10
  extract_lets -underBinder +onlyGivenNames x11
  have h11 : Lane.Near M b x11 := by
    unfold x11
    refine Lane.near_foldl (fun _ _ q12 g12 => ?_) h0
    split
    · exact Lane.setWord_near (inReg (at_HS_SCAN (Fin.isLt _)) (tb m rfl)) (Lane.setWord_near (inReg (at_HS_SCFG (Fin.isLt _)) (tb m rfl)) g12)
    · extract_lets -underBinder +onlyGivenNames x13
      have h13 : Lane.Near M b x13 := Lane.put_near (inReg (at_HS_SCFG (Fin.isLt _)) (tb m rfl)) (Lane.put_near (inReg (at_HS_SCFG (Fin.isLt _)) (tb m rfl)) (Lane.raise_near (inReg (at_HS_SCFG (Fin.isLt _)) (tb m rfl)).1 rfl g12))
      clear_value x13
      extract_lets -underBinder +onlyGivenNames x14
      have h14 : Lane.Near M b x14 := Lane.put_near (inReg (at_HS_SCFG (Fin.isLt _)) (tb m rfl)) h13
      clear_value x14
      extract_lets -underBinder +onlyGivenNames x15
      have h15 : Lane.Near M b x15 := Lane.setWord_near (inReg (at_HS_SKEYHI (Fin.isLt _)) (tb m rfl)) (Lane.setWord_near (inReg (at_HS_SKEYLO (Fin.isLt _)) (tb m rfl)) h14)
      clear_value x15
      split
      · exact Lane.setWord_near (inReg (at_HS_SCAN (Fin.isLt _)) (tb m rfl)) h15
      · exact Lane.put_near (inReg (at_HS_SCAN (Fin.isLt _)) (tb m rfl)) (Lane.put_near (inReg (at_HS_SCAN (Fin.isLt _)) (tb m rfl)) (Lane.put_near (inReg (at_HS_SCAN (Fin.isLt _)) (tb m rfl)) (Lane.raise_near (inReg (at_HS_SCAN (Fin.isLt _)) (tb m rfl)).1 rfl h15)))
  clear_value x11
  extract_lets -underBinder +onlyGivenNames x16
  have h16 : Lane.Near M b x16 := Lane.put_near (inReg at_HS_SPOTCFG (tb m rfl)) (Lane.putFlag_near (inReg at_HS_SPOTCFG (tb m rfl)) h11)
  clear_value x16
  split
  · exact Lane.put_near (inReg at_HS_PORT (tb m rfl)) (Lane.raise_near (inReg at_HS_PORT (tb m rfl)).1 rfl h16)
  · exact Lane.drop_near (inReg at_HS_PORT (tb m rfl)) h16

theorem Lane.writeBook_near {M : Nat} {b : Lane} {l0 : Lane} {y1} (m : sub 0x5ffffffffffffffffffffffffffffffffffffffffffffffffffffffffffffffffffffffffffffffff M = true) (h0 : Lane.Near M b l0) :
    Lane.Near M b (Lane.writeBook l0 y1) := by
  delta Lane.writeBook
  extract_lets -underBinder +onlyGivenNames x10
  have h10 : Lane.Near M b x10 := Lane.writeImage_near (tr m rfl) h0
  clear_value x10
  extract_lets -underBinder +onlyGivenNames x11
  have h11 : Lane.Near M b x11 := by
    unfold x11
    split
    · exact Lane.near_foldl (fun _ _ q12 g12 => Lane.writeTables_near (tr m rfl) g12) h10
    · exact h10
  clear_value x11
  extract_lets -underBinder +onlyGivenNames x13
  have h13 : Lane.Near M b x13 := by
    unfold x13
    split
    · exact Lane.putFlag_near (inReg at_LC_STATE (tb m rfl)) (Lane.put_near (inReg at_VR_CYC (tb m rfl)) (Lane.writeSeats_near (tr m rfl) h11))
    · exact h11
  clear_value x13
  split
  · exact Lane.put_near (inReg at_TM_CFG (tb m rfl)) h13
  · exact h13

theorem Lane.clearBook_near {M : Nat} {b : Lane} {l0 : Lane} {y1} (m : sub 0x5ffffffffffffffffffffffffffffffffffffffffffffffffffffffffffffffffffffffffffffffff M = true) (h0 : Lane.Near M b l0) :
    Lane.Near M b (Lane.clearBook l0 y1) := by
  delta Lane.clearBook
  exact Lane.near_foldl (fun _ _ q10 g10 => Lane.near_ite (Lane.writeWord_near (tr m rfl) g10) g10) h0

end Sys2Proof.Machine
end

