-- ==== Sys2Proof/Laws/NearAxis.lean ====
section
/-!
SUPPORT. What the functions of the lane may change: the gate drivers, over-voltage, feedback, start-up, the rehearsal, trust and the safety inputs.
-/

namespace Sys2Proof.Machine

-- one elaboration thread: thousands of small proofs would otherwise start one each
set_option Elab.async false

theorem Lane.afterUnav_near {M : Nat} {b : Lane} {l0 : Lane} {y1} (m : sub 0x380000002cc8028bb5e2000018078000030c000000380751103b1000200022001400000000000005c000020000000000a000080000f0006020600000000800004 M = true) (h0 : Lane.Near M b l0) :
    Lane.Near M b (Lane.afterUnav l0 y1) := by
  delta Lane.afterUnav
  extract_lets -underBinder +onlyGivenNames x10
  have h10 : Lane.Near M b x10 := Lane.markUnav_near (tr m rfl) h0
  clear_value x10
  exact Lane.near_ite (Lane.setOut_near (tr m rfl) h10) (Lane.near_ite (Lane.lookup_near (tr m rfl) h10) (Lane.settle_near (tr m rfl) h10))

theorem Lane.failSwitch_near {M : Nat} {b : Lane} {l0 : Lane} {y1} {y2} {y3 : Fld} (m : sub 0x380000002cc8028bb5e2000018078000030c000000380751103b1000200022001400000000000005c000020000000000a000080000f0026020600000000800004 M = true) (h0 : Lane.Near M b l0) (f3 : Evt y3.addr M ∧ y3.width = 1) :
    Lane.Near M b (Lane.failSwitch l0 y1 y2 y3) := by
  delta Lane.failSwitch
  exact Lane.afterUnav_near (tr m rfl) (Lane.raise_near f3.1 f3.2 (Lane.putBit_near (inReg at_BI_SWFAIL (tb m rfl)) h0))

theorem Lane.holdGin_near {M : Nat} {b : Lane} {l0 : Lane} {y1} {y2} (m : sub 0x40000000000000000000000000000000000000000000000002000000000000000000000000000000000 M = true) (h0 : Lane.Near M b l0) :
    Lane.Near M b (Lane.holdGin l0 y1 y2) := by
  delta Lane.holdGin
  extract_lets -underBinder +onlyGivenNames x10
  clear_value x10
  exact Lane.onAx_near (f := _) (AxisState.Near.mk kp kp (ch m rfl) kp kp kp kp kp kp) (Lane.addTo_near (inReg (at_GD_CNT1 (Fin.isLt _)) (tb m rfl)) h0)

theorem Lane.ginApply_near {M : Nat} {b : Lane} {l0 : Lane} {y1} (m : sub 0x250000000000000000000000000000000000000000000000002a00000000000000000000000000000000 M = true) (h0 : Lane.Near M b l0) :
    Lane.Near M b (Lane.ginApply l0 y1) := by
  delta Lane.ginApply
  exact Lane.near_ite (Lane.settle_near (tr m rfl) h0) (by
    extract_lets -underBinder +onlyGivenNames x10 x11
    clear_value x10 x11
    exact Lane.settle_near (tr m rfl) (Lane.setWant_near (tr m rfl) (Lane.holdGin_near (tr m rfl) h0)))

theorem Lane.ginBoth_near {M : Nat} {b : Lane} {l0 : Lane} {y1} {y2} {y3} (m : sub 0x2800000000000000000000000000000000 M = true) (h0 : Lane.Near M b l0) :
    Lane.Near M b (Lane.ginBoth l0 y1 y2 y3) := by
  delta Lane.ginBoth
  extract_lets -underBinder +onlyGivenNames x10 x11
  clear_value x10 x11
  exact Lane.near_ite (Lane.addTo_near (inReg (at_GD_CNT1 (Fin.isLt _)) (tb m rfl)) (Lane.raise_near (inEvt (ev_GD_EVT (Fin.isLt _)) (tb m rfl)) rfl h0)) h0

theorem Lane.beginInsert_near {M : Nat} {b : Lane} {l0 : Lane} {y1} {y2} (m : sub 0x350000000000000000000000000000000000000000000000001a00000000000000000000000000000000 M = true) (h0 : Lane.Near M b l0) :
    Lane.Near M b (Lane.beginInsert l0 y1 y2) := by
  delta Lane.beginInsert
  extract_lets -underBinder +onlyGivenNames x10
  have h10 : Lane.Near M b x10 := Lane.bump_near (inReg (at_GD_CNT0 (Fin.isLt _)) (tb m rfl)) (Lane.raise_near (inEvt (ev_GD_EVT (Fin.isLt _)) (tb m rfl)) rfl h0)
  clear_value x10
  extract_lets -underBinder +onlyGivenNames x11
  have h11 : Lane.Near M b x11 := Lane.leakAbort_near (tr m rfl) h10
  clear_value x11
  extract_lets -underBinder +onlyGivenNames x12
  have h12 : Lane.Near M b x12 := Lane.onAx_near (f := _) (AxisState.Near.mk kp kp kp kp (ch m rfl) kp kp kp kp) h11
  clear_value x12
  exact Lane.settle_near (tr m rfl) h12

theorem Lane.holdInsert_near {M : Nat} {b : Lane} {l0 : Lane} {y1} (m : sub 0x100000000000000000000000000000000000000000000000000000000000000000000000000000000000 M = true) (h0 : Lane.Near M b l0) :
    Lane.Near M b (Lane.holdInsert l0 y1) := by
  delta Lane.holdInsert
  exact Lane.onAx_near (f := _) (AxisState.Near.mk kp kp kp kp (ch m rfl) kp kp kp kp) h0

theorem Lane.turnOn_near {M : Nat} {b : Lane} {l0 : Lane} {y1} {y2} {y3} (m : sub 0x380000002cc8028bb5e2000018078000030c000000380751103b1000200022001400000000000005c000020000000000a000080000f0026020600000000800004 M = true) (h0 : Lane.Near M b l0) :
    Lane.Near M b (Lane.turnOn l0 y1 y2 y3) := by
  delta Lane.turnOn
  extract_lets -underBinder +onlyGivenNames x10
  clear_value x10
  extract_lets -underBinder +onlyGivenNames x11
  have h11 : Lane.Near M b x11 := Lane.onAx_near (f := _) (AxisState.Near.mk kp kp (ch m rfl) kp kp kp kp kp kp) (Lane.setOn_near (tr m rfl) h0)
  clear_value x11
  exact Lane.near_ite (Lane.failSwitch_near (tr m rfl) h11 ⟨(inEvt ev_BI_EVT (tb m rfl)), rfl⟩) h11

theorem Lane.holdTurnOn_near {M : Nat} {b : Lane} {l0 : Lane} {y1} {y2} (m : sub 0x400000000000000000000000000000000000000000000000020000000000a0000000000000000000000 M = true) (h0 : Lane.Near M b l0) :
    Lane.Near M b (Lane.holdTurnOn l0 y1 y2) := by
  delta Lane.holdTurnOn
  exact Lane.near_ite (Lane.holdRate_near (tr m rfl) h0) (Lane.holdGin_near (tr m rfl) h0)

theorem Lane.stillLocked_near {M : Nat} {b : Lane} {l0 : Lane} {y1} (m : sub 0x380000002cc8028bb5e2000018078000030c0000003807d1103b1000200022001400000000000005c000020000000000a000080000f0006020600000000800004 M = true) (h0 : Lane.Near M b l0) :
    Lane.Near M b (Lane.stillLocked l0 y1) := by
  delta Lane.stillLocked
  extract_lets -underBinder +onlyGivenNames x10
  clear_value x10
  exact Lane.near_ite h0 (Lane.afterUnav_near (tr m rfl) (Lane.onAx_near (f := _) (AxisState.Near.mk kp kp kp (ch m rfl) kp kp kp kp kp) h0))

theorem Lane.holdPeak_near {M : Nat} {b : Lane} {l0 : Lane} {y1} {y2} (m : sub 0x250000000000000000000000000000000000000000000000000a00000000000000000000000000000000 M = true) (h0 : Lane.Near M b l0) :
    Lane.Near M b (Lane.holdPeak l0 y1 y2) := by
  delta Lane.holdPeak
  exact Lane.settle_near (tr m rfl) (Lane.onAx_near (f := _) (AxisState.Near.mk kp kp (ch m rfl) kp kp kp kp kp kp) h0)

theorem Lane.countPeak_near {M : Nat} {b : Lane} {l0 : Lane} {y1} (m : sub 0x380000002cc8028bb5e2000018078000030c0000003807d1103b1000200022001400000000000005c000020000000000a000080000f0006020600000000800004 M = true) (h0 : Lane.Near M b l0) :
    Lane.Near M b (Lane.countPeak l0 y1) := by
  delta Lane.countPeak
  exact Lane.near_ite h0 (by
    extract_lets -underBinder +onlyGivenNames x10
    have h10 : Lane.Near M b x10 := Lane.onAx_near (f := _) (AxisState.Near.mk kp kp kp (ch m rfl) kp kp kp kp kp) h0
    clear_value x10
    exact Lane.near_ite (Lane.setOut_near (tr m rfl) (Lane.raise_near (inEvt (ev_GD_EVT (Fin.isLt _)) (tb m rfl)) rfl h10)) h10)

theorem Lane.holdHit_near {M : Nat} {b : Lane} {l0 : Lane} {y1} {y2} (m : sub 0x250000000000000000000000000000000000000000000000000a00000000000000000000000000000000 M = true) (h0 : Lane.Near M b l0) :
    Lane.Near M b (Lane.holdHit l0 y1 y2) := by
  delta Lane.holdHit
  split
  · exact Lane.holdPeak_near (tr m rfl) h0
  · exact h0

theorem Lane.tripSwitch_near {M : Nat} {b : Lane} {l0 : Lane} {y1} {y2} {y3} (m : sub 0x380000002cc8028bb5e2000018078000030c0000003807d1103b1000200022001400000000000005c000020000000000a000080000f0006020600000000800004 M = true) (h0 : Lane.Near M b l0) :
    Lane.Near M b (Lane.tripSwitch l0 y1 y2 y3) := by
  delta Lane.tripSwitch
  exact Lane.near_ite (by
    extract_lets -underBinder +onlyGivenNames x10
    have h10 : Lane.Near M b x10 := Lane.raise_near (evt_ite (inEvt (ev_GD_EVT (Fin.isLt _)) (tb m rfl)) (inEvt (ev_GD_EVT (Fin.isLt _)) (tb m rfl))) wd_ite h0
    clear_value x10
    extract_lets -underBinder +onlyGivenNames x11
    have h11 : Lane.Near M b x11 := Lane.voidAxis_near (tr m rfl) (Lane.leakAbort_near (tr m rfl) h10)
    clear_value x11
    extract_lets -underBinder +onlyGivenNames x12
    have h12 : Lane.Near M b x12 := Lane.afterUnav_near (tr m rfl) (Lane.onAx_near (f := _) (AxisState.Near.mk kp kp kp (ch m rfl) kp kp kp kp kp) h11)
    clear_value x12
    exact Lane.onAx_near (f := _) (AxisState.Near.mk kp kp (ch m rfl) kp kp kp kp kp kp) h12) h0

theorem Lane.confirmTrip_near {M : Nat} {b : Lane} {l0 : Lane} {y1} {y2} (m : sub 0x800000000000000000000000000000000000000000000000400000000000000000000000000000000 M = true) (h0 : Lane.Near M b l0) :
    Lane.Near M b (Lane.confirmTrip l0 y1 y2) := by
  delta Lane.confirmTrip
  exact Lane.note_near (tb m rfl) (Lane.putBit_near (put_ite (inReg (at_GD_FAULT (Fin.isLt _)) (tb m rfl)) (inReg (at_GD_FAULT (Fin.isLt _)) (tb m rfl))) h0)

theorem Lane.bstBack_near {M : Nat} {b : Lane} {l0 : Lane} {y1} {y2} (m : sub 0x380000002cc8028bb5e2000018078000030c0000003807d1103b1000200022001400000000000005c000020000000000a000080000f0006020600000000800004 M = true) (h0 : Lane.Near M b l0) :
    Lane.Near M b (Lane.bstBack l0 y1 y2) := by
  delta Lane.bstBack
  extract_lets -underBinder +onlyGivenNames x10
  clear_value x10
  exact Lane.near_ite (Lane.afterUnav_near (tr m rfl) (Lane.onAx_near (f := _) (AxisState.Near.mk kp kp kp (ch m rfl) kp kp kp kp kp) h0)) h0

theorem Lane.showBst_near {M : Nat} {b : Lane} {l0 : Lane} {y1} {y2} {y3} (m : sub 0xc000000000000000000000000000000000 M = true) (h0 : Lane.Near M b l0) :
    Lane.Near M b (Lane.showBst l0 y1 y2 y3) := by
  delta Lane.showBst
  split
  · exact Lane.put_near (inReg (at_GD_BSTV0 (Fin.isLt _)) (tb m rfl)) h0
  · exact Lane.put_near (inReg (at_GD_BSTV0 (Fin.isLt _)) (tb m rfl)) h0
  · exact Lane.put_near (inReg (at_GD_BSTV1 (Fin.isLt _)) (tb m rfl)) h0

theorem Lane.leakResult_near {M : Nat} {b : Lane} {l0 : Lane} {y1} {y2} {y3} (m : sub 0x380000002cc8028bb5e2000018078000030c000000380751103b1000200022001400000000000005c000020000000010e000080000f0006020600000000800004 M = true) (h0 : Lane.Near M b l0) :
    Lane.Near M b (Lane.leakResult l0 y1 y2 y3) := by
  delta Lane.leakResult
  split
  · exact Lane.raise_near (inEvt (ev_GD_EVT (Fin.isLt _)) (tb m rfl)) rfl h0
  · exact Lane.putBit_near (inReg (at_GD_LKCTL (Fin.isLt _)) (tb m rfl)) (Lane.putBit_near (inReg (at_GD_LKCTL (Fin.isLt _)) (tb m rfl)) (Lane.putBit_near (inReg (at_GD_LKCTL (Fin.isLt _)) (tb m rfl)) h0))
  · extract_lets -underBinder +onlyGivenNames x10
    have h10 : Lane.Near M b x10 := Lane.putBit_near (inReg (at_GD_LKCTL (Fin.isLt _)) (tb m rfl)) h0
    clear_value x10
    exact Lane.near_ite (Lane.afterUnav_near (tr m rfl) (Lane.putBit_near (inReg (at_GD_FAULT (Fin.isLt _)) (tb m rfl)) (Lane.putBit_near (inReg (at_GD_LKCTL (Fin.isLt _)) (tb m rfl)) (Lane.putBit_near (inReg (at_GD_LKCTL (Fin.isLt _)) (tb m rfl)) h10)))) (Lane.raise_near (inEvt (ev_GD_EVT (Fin.isLt _)) (tb m rfl)) rfl (Lane.putBit_near (inReg (at_GD_LKCTL (Fin.isLt _)) (tb m rfl)) h10))

theorem Lane.clearFaults_near {M : Nat} {b : Lane} {l0 : Lane} {y1} {y2} (m : sub 0x380000002cc8028bb5e2000018078000030c000000380751103b1000200022001400000000000005c000020000000000e000080000f0006020600000000800004 M = true) (h0 : Lane.Near M b l0) :
    Lane.Near M b (Lane.clearFaults l0 y1 y2) := by
  delta Lane.clearFaults
  exact Lane.afterUnav_near (tr m rfl) (Lane.clearBits_near (inReg (at_GD_FAULT (Fin.isLt _)) (tb m rfl)) (Lane.clearBits_near (inReg (at_GD_FAULT (Fin.isLt _)) (tb m rfl)) (Lane.clearBits_near (inReg (at_GD_FAULT (Fin.isLt _)) (tb m rfl)) (Lane.clearBits_near (inReg (at_GD_FAULT (Fin.isLt _)) (tb m rfl)) (Lane.clearBits_near (inReg (at_GD_FAULT (Fin.isLt _)) (tb m rfl)) h0)))))

theorem Lane.chopperCount_near {M : Nat} {b : Lane} {l0 : Lane} (m : sub 0x1800000000000000000000000000000000000000000000000000000002000000000000000000000000000000000000 M = true) (h0 : Lane.Near M b l0) :
    Lane.Near M b (Lane.chopperCount l0) := by
  delta Lane.chopperCount
  exact Lane.near_ite (by
    extract_lets -underBinder +onlyGivenNames x10
    clear_value x10
    exact Lane.onLink_near (f := _) (LinkState.Near.mk kp kp kp kp kp kp kp kp kp (ch m rfl) (ch m rfl)) (Lane.put_near (inReg at_GD_CHON (tb m rfl)) h0)) h0

theorem Lane.chopperOn_near {M : Nat} {b : Lane} {l0 : Lane} (m : sub 0x12c0000000000000000000000000000000000000000000000000000000080000000000000000000000000000000000 M = true) (h0 : Lane.Near M b l0) :
    Lane.Near M b (Lane.chopperOn l0) := by
  delta Lane.chopperOn
  exact Lane.onLink_near (f := _) (LinkState.Near.mk kp kp kp kp (ch m rfl) (ch m rfl) kp (ch m rfl) kp kp (ch m rfl)) (Lane.raise_near (inReg at_GD_VMSTAT (tb m rfl)).1 rfl h0)

theorem Lane.chopperOff_near {M : Nat} {b : Lane} {l0 : Lane} (m : sub 0x1b00000000000000000000000000000000000000000000000000000002080000000000000000000000000000000000 M = true) (h0 : Lane.Near M b l0) :
    Lane.Near M b (Lane.chopperOff l0) := by
  delta Lane.chopperOff
  extract_lets -underBinder +onlyGivenNames x10
  have h10 : Lane.Near M b x10 := Lane.chopperCount_near (tr m rfl) h0
  clear_value x10
  exact Lane.onLink_near (f := _) (LinkState.Near.mk kp kp kp kp kp kp (ch m rfl) (ch m rfl) kp kp kp) (Lane.drop_near (inReg at_GD_VMSTAT (tb m rfl)) (Lane.drop_near (inReg at_GD_VMSTAT (tb m rfl)) h10))

theorem Lane.showLevel_near {M : Nat} {b : Lane} {l0 : Lane} (m : sub 0x80000000000000000000000000000000000 M = true) (h0 : Lane.Near M b l0) :
    Lane.Near M b (Lane.showLevel l0) := by
  delta Lane.showLevel
  exact Lane.put_near (inReg at_GD_VMSTAT (tb m rfl)) h0

theorem Lane.stageOv1_near {M : Nat} {b : Lane} {l0 : Lane} (m : sub 0x16c4000000000000000000000000000000000000000000000000000001080000000000000000000000000000000000 M = true) (h0 : Lane.Near M b l0) :
    Lane.Near M b (Lane.stageOv1 l0) := by
  delta Lane.stageOv1
  extract_lets -underBinder +onlyGivenNames x10
  have h10 : Lane.Near M b x10 := Lane.showLevel_near (tr m rfl) (Lane.onLink_near (f := _) (LinkState.Near.mk (ch m rfl) kp kp kp kp (ch m rfl) kp kp (ch m rfl) kp kp) (Lane.raise_near (inEvt ev_GD_LEVT (tb m rfl)) rfl h0))
  clear_value x10
  exact Lane.near_ite (by
    split
    · exact Lane.near_ite (Lane.chopperOn_near (tr m rfl) h10) (Lane.onLink_near (f := _) (LinkState.Near.mk kp kp kp kp kp kp kp (ch m rfl) kp kp kp) h10)
    · exact Lane.chopperOn_near (tr m rfl) h10) h10

theorem Lane.dropOv1_near {M : Nat} {b : Lane} {l0 : Lane} (m : sub 0x1f04000000000000000000000000000000000000000000000000000002080000000000000000000000000000000000 M = true) (h0 : Lane.Near M b l0) :
    Lane.Near M b (Lane.dropOv1 l0) := by
  delta Lane.dropOv1
  extract_lets -underBinder +onlyGivenNames x10
  have h10 : Lane.Near M b x10 := Lane.showLevel_near (tr m rfl) (Lane.onLink_near (f := _) (LinkState.Near.mk (ch m rfl) kp kp kp kp kp kp (ch m rfl) (ch m rfl) kp kp) h0)
  clear_value x10
  exact Lane.when_near h10 (fun _ g11 => Lane.chopperOff_near (tr m rfl) g11)

theorem Lane.releaseOv1_near {M : Nat} {b : Lane} {l0 : Lane} {y1} (m : sub 0x1f04000000000000000000000000000000000000000000000000000002080000000000000000000000000000000000 M = true) (h0 : Lane.Near M b l0) :
    Lane.Near M b (Lane.releaseOv1 l0 y1) := by
  delta Lane.releaseOv1
  exact Lane.near_ite (Lane.near_ite (Lane.onLink_near (f := _) (LinkState.Near.mk kp kp kp kp kp kp kp kp (ch m rfl) kp kp) h0) (Lane.dropOv1_near (tr m rfl) h0)) h0

theorem Lane.lookAll_near {M : Nat} {b : Lane} {l0 : Lane} (m : sub 0x250000000000000000000000000000000000000000000000002a000000000e0000000000000000000000 M = true) (h0 : Lane.Near M b l0) :
    Lane.Near M b (Lane.lookAll l0) := by
  delta Lane.lookAll
  exact Lane.allAxes_near h0 (fun _ _ g10 => Lane.near_ite (Lane.lookup_near (tr m rfl) g10) (Lane.near_ite (Lane.settle_near (tr m rfl) g10) (Lane.ginApply_near (tr m rfl) g10)))

theorem Lane.releaseOv2_near {M : Nat} {b : Lane} {l0 : Lane} {y1} (m : sub 0x1f0c000000250000000000000000000000000000000000000000000002082a000000000e0000000000000000000000 M = true) (h0 : Lane.Near M b l0) :
    Lane.Near M b (Lane.releaseOv2 l0 y1) := by
  delta Lane.releaseOv2
  extract_lets -underBinder +onlyGivenNames x10
  have h10 : Lane.Near M b x10 := Lane.near_ite (Lane.lookAll_near (tr m rfl) (Lane.showLevel_near (tr m rfl) (Lane.onLink_near (f := _) (LinkState.Near.mk kp (ch m rfl) kp kp kp kp kp kp kp kp kp) h0))) h0
  clear_value x10
  exact Lane.releaseOv1_near (tr m rfl) h10

theorem Lane.showVm_near {M : Nat} {b : Lane} {l0 : Lane} {y1} (m : sub 0x80000000000000000000000000000000000 M = true) (h0 : Lane.Near M b l0) :
    Lane.Near M b (Lane.showVm l0 y1) := by
  delta Lane.showVm
  exact Lane.put_near (inReg at_GD_VMSTAT (tb m rfl)) h0

theorem Lane.onFb_near {M : Nat} {b : Lane} {l0 : Lane} {y1} {y2} (m : sub 0x1000000000000000000000000000000000000000000000000000000000000000000000000000000000000 M = true) (h0 : Lane.Near M b l0) :
    Lane.Near M b (Lane.onFb l0 y1 y2) := by
  delta Lane.onFb
  exact Lane.onAx_near (f := _) (AxisState.Near.mk kp kp kp kp kp kp kp kp (ch m rfl)) h0

theorem Lane.onSer_near {M : Nat} {b : Lane} {l0 : Lane} {y1} {y2} (m : sub 0x1000000000000000000000000000000000000000000000000000000000000000000000000000000000000 M = true) (h0 : Lane.Near M b l0) :
    Lane.Near M b (Lane.onSer l0 y1 y2) := by
  delta Lane.onSer
  exact Lane.onFb_near (tr m rfl) h0

theorem Lane.causes_near {M : Nat} {b : Lane} {l0 : Lane} {y1} {y2} (m : sub 0x380000002cc8028bb5e2000018078000030c000000381751103b1000200022001400000000000005c000020000060000a000080000f0006020600000000800004 M = true) (h0 : Lane.Near M b l0) :
    Lane.Near M b (Lane.causes l0 y1 y2) := by
  delta Lane.causes
  extract_lets -underBinder +onlyGivenNames x10
  clear_value x10
  extract_lets -underBinder +onlyGivenNames x11
  have h11 : Lane.Near M b x11 := Lane.onFb_near (tr m rfl) h0
  clear_value x11
  extract_lets -underBinder +onlyGivenNames x12
  clear_value x12
  extract_lets -underBinder +onlyGivenNames x13
  have h13 : Lane.Near M b x13 := Lane.putFlag_near (inReg (at_FB_STAT (Fin.isLt _)) (tb m rfl)) h11
  clear_value x13
  exact Lane.near_ite (Lane.actInvalid_near (tr m rfl) (Lane.raise_near (inEvt (ev_FB_EVT (Fin.isLt _)) (tb m rfl)) rfl h13)) h13

theorem Lane.showSpeed_near {M : Nat} {b : Lane} {l0 : Lane} {y1} (m : sub 0x400000000000000000000000000000000000000 M = true) (h0 : Lane.Near M b l0) :
    Lane.Near M b (Lane.showSpeed l0 y1) := by
  delta Lane.showSpeed
  exact Lane.putInt_near (inReg (at_FB_SPEED (Fin.isLt _)) (tb m rfl)) h0

theorem Lane.setSpeed_near {M : Nat} {b : Lane} {l0 : Lane} {y1} {y2} (m : sub 0x1000000000000000000000000000000000000000000000400000000000000000000000000000000000000 M = true) (h0 : Lane.Near M b l0) :
    Lane.Near M b (Lane.setSpeed l0 y1 y2) := by
  delta Lane.setSpeed
  exact Lane.showSpeed_near (tr m rfl) (Lane.onFb_near (tr m rfl) h0)

theorem Lane.moveCounter_near {M : Nat} {b : Lane} {l0 : Lane} {y1} {y2} (m : sub 0x380000002cc8028bb5e2000018078000030c000000381751103b1000200022001400000000000005c0000200000e0000a000080000f0006020600000000800004 M = true) (h0 : Lane.Near M b l0) :
    Lane.Near M b (Lane.moveCounter l0 y1 y2) := by
  delta Lane.moveCounter
  extract_lets -underBinder +onlyGivenNames x10
  clear_value x10
  extract_lets -underBinder +onlyGivenNames x11
  have h11 : Lane.Near M b x11 := Lane.putInt_near (inReg (at_FB_POS (Fin.isLt _)) (tb m rfl)) h0
  clear_value x11
  extract_lets -underBinder +onlyGivenNames x12
  have h12 : Lane.Near M b x12 := Lane.when_near h11 (fun _ g13 => Lane.onFb_near (tr m rfl) (Lane.raise_near (inEvt (ev_FB_EVT (Fin.isLt _)) (tb m rfl)) rfl g13))
  clear_value x12
  extract_lets -underBinder +onlyGivenNames x14
  have h14 : Lane.Near M b x14 := Lane.when_near h12 (fun _ g15 => Lane.onFb_near (tr m rfl) (Lane.raise_near (inEvt (ev_FB_EVT (Fin.isLt _)) (tb m rfl)) rfl g15))
  clear_value x14
  extract_lets -underBinder +onlyGivenNames x16
  clear_value x16
  extract_lets -underBinder +onlyGivenNames x17
  have h17 : Lane.Near M b x17 := Lane.onFb_near (tr m rfl) h14
  clear_value x17
  exact Lane.near_ite (Lane.causes_near (tr m rfl) (Lane.raise_near (inEvt (ev_FB_EVT (Fin.isLt _)) (tb m rfl)) rfl h17)) h17

theorem Lane.history_near {M : Nat} {b : Lane} {l0 : Lane} {y1} {y2} (m : sub 0x1000000000000000000000000000000000000000000001000000000000000000000000000000000000000 M = true) (h0 : Lane.Near M b l0) :
    Lane.Near M b (Lane.history l0 y1 y2) := by
  delta Lane.history
  extract_lets -underBinder +onlyGivenNames x10
  have h10 : Lane.Near M b x10 := Lane.onFb_near (tr m rfl) h0
  clear_value x10
  exact Lane.put_near (inReg (at_FB_STEP (Fin.isLt _)) (tb m rfl)) h10

theorem Lane.stepFault_near {M : Nat} {b : Lane} {l0 : Lane} {y1} (m : sub 0x380000002cc8028bb5e2000018078000030c000000381751103b1000200022001400000000000005c000020001060000a000080000f0006020600000000800004 M = true) (h0 : Lane.Near M b l0) :
    Lane.Near M b (Lane.stepFault l0 y1) := by
  delta Lane.stepFault
  extract_lets -underBinder +onlyGivenNames x10
  have h10 : Lane.Near M b x10 := Lane.raise_near (inReg (at_FB_STAT (Fin.isLt _)) (tb m rfl)).1 rfl (Lane.raise_near (inEvt (ev_FB_EVT (Fin.isLt _)) (tb m rfl)) rfl (Lane.bump_near (inReg (at_FB_STEP (Fin.isLt _)) (tb m rfl)) h0))
  clear_value x10
  extract_lets -underBinder +onlyGivenNames x11
  have h11 : Lane.Near M b x11 := Lane.onFb_near (tr m rfl) (Lane.history_near (tr m rfl) h10)
  clear_value x11
  exact Lane.near_ite (Lane.causes_near (tr m rfl) h11) h11

theorem Lane.edgeSpeed_near {M : Nat} {b : Lane} {l0 : Lane} {y1} {y2} {y3} {y4} (m : sub 0x1004000000000000000000000000000000000000000000420000000000000000000000000000000000000 M = true) (h0 : Lane.Near M b l0) :
    Lane.Near M b (Lane.edgeSpeed l0 y1 y2 y3 y4) := by
  delta Lane.edgeSpeed
  extract_lets -underBinder +onlyGivenNames x10 x11
  clear_value x10 x11
  extract_lets -underBinder +onlyGivenNames x12
  have h12 : Lane.Near M b x12 := Lane.drop_near (inReg (at_FB_STAT (Fin.isLt _)) (tb m rfl)) h0
  clear_value x12
  extract_lets -underBinder +onlyGivenNames x13
  have h13 : ∀ u0, Lane.Near M b (x13 u0) := by
    intro _
    unfold x13
    exact Lane.setSpeed_near (tr m rfl) (Lane.onFb_near (tr m rfl) (Lane.raise_near (inReg (at_FB_STAT (Fin.isLt _)) (tb m rfl)).1 rfl h12))
  clear_value x13
  exact Lane.near_ite (h13 _) (Lane.near_ite (h13 _) (by
    extract_lets -underBinder +onlyGivenNames x14 x15 x16
    clear_value x14 x15 x16
    exact Lane.setSpeed_near (tr m rfl) (Lane.onFb_near (tr m rfl) (Lane.drop_near (inReg (at_FB_STAT (Fin.isLt _)) (tb m rfl)) (Lane.nextChoice_near (tb m rfl) h12)))))

theorem Lane.countedEdge_near {M : Nat} {b : Lane} {l0 : Lane} {y1} {y2} {y3} (m : sub 0x380000002cc8028bb5e2000018078000030c000000381755103b1000200022001400000000000005c0000200014e0000a000080000f0006020600000000800004 M = true) (h0 : Lane.Near M b l0) :
    Lane.Near M b (Lane.countedEdge l0 y1 y2 y3) := by
  delta Lane.countedEdge
  extract_lets -underBinder +onlyGivenNames x10 x11
  clear_value x10 x11
  extract_lets -underBinder +onlyGivenNames x12
  have h12 : Lane.Near M b x12 := Lane.edgeSpeed_near (tr m rfl) (Lane.history_near (tr m rfl) h0)
  clear_value x12
  extract_lets -underBinder +onlyGivenNames x13
  have h13 : Lane.Near M b x13 := Lane.when_near h12 (fun _ g14 => Lane.raise_near (inEvt (ev_FB_EVT (Fin.isLt _)) (tb m rfl)) rfl (Lane.putFlag_near (inReg (at_FB_STAT (Fin.isLt _)) (tb m rfl)) g14))
  clear_value x13
  exact Lane.moveCounter_near (tr m rfl) h13

theorem Lane.edgeA_near {M : Nat} {b : Lane} {l0 : Lane} {y1} {y2} {y3} (m : sub 0x380000002cc8028bb5e2000018078000030c000000381755103b1000200022001400000000000005c0000200014e0000a000080000f0006020600000000800004 M = true) (h0 : Lane.Near M b l0) :
    Lane.Near M b (Lane.edgeA l0 y1 y2 y3) := by
  delta Lane.edgeA
  exact Lane.near_ite h0 (by
    extract_lets -underBinder +onlyGivenNames x10
    have h10 : Lane.Near M b x10 := Lane.putBit_near (inReg (at_FB_STAT (Fin.isLt _)) (tb m rfl)) h0
    clear_value x10
    split
    · exact Lane.countedEdge_near (tr m rfl) h10
    · exact Lane.near_ite (Lane.countedEdge_near (tr m rfl) (Lane.nextChoice_near (tb m rfl) h10)) h10
    · exact Lane.near_ite (Lane.countedEdge_near (tr m rfl) h10) h10
    · exact h10)

theorem Lane.moveB_near {M : Nat} {b : Lane} {l0 : Lane} {y1} {y2} {y3} (m : sub 0x1000000000000000000000000000000000000000000000020000000000000000000000000000000000000 M = true) (h0 : Lane.Near M b l0) :
    Lane.Near M b (Lane.moveB l0 y1 y2 y3) := by
  delta Lane.moveB
  exact Lane.onFb_near (tr m rfl) (Lane.putBit_near (inReg (at_FB_STAT (Fin.isLt _)) (tb m rfl)) h0)

theorem Lane.edgeB_near {M : Nat} {b : Lane} {l0 : Lane} {y1} {y2} {y3} (m : sub 0x380000002cc8028bb5e2000018078000030c000000381755103b1000200022001400000000000005c0000200014e0000a000080000f0006020600000000800004 M = true) (h0 : Lane.Near M b l0) :
    Lane.Near M b (Lane.edgeB l0 y1 y2 y3) := by
  delta Lane.edgeB
  exact Lane.near_ite h0 (by
    extract_lets -underBinder +onlyGivenNames x10
    have h10 : Lane.Near M b x10 := Lane.moveB_near (tr m rfl) h0
    clear_value x10
    split
    · exact Lane.countedEdge_near (tr m rfl) h10
    · exact Lane.near_ite (Lane.countedEdge_near (tr m rfl) h10) h10
    · exact h10)

theorem Lane.edgeBoth_near {M : Nat} {b : Lane} {l0 : Lane} {y1} {y2} {y3} {y4} (m : sub 0x380000002cc8028bb5e2000018078000030c000000381755103b1000200022001400000000000005c0000200014e0000a000080000f0006020600000000800004 M = true) (h0 : Lane.Near M b l0) :
    Lane.Near M b (Lane.edgeBoth l0 y1 y2 y3 y4) := by
  delta Lane.edgeBoth
  exact Lane.near_ite (Lane.edgeB_near (tr m rfl) h0) (Lane.near_ite (Lane.edgeA_near (tr m rfl) h0) (by
    extract_lets -underBinder +onlyGivenNames x10
    have h10 : Lane.Near M b x10 := Lane.moveB_near (tr m rfl) (Lane.putBit_near (inReg (at_FB_STAT (Fin.isLt _)) (tb m rfl)) h0)
    clear_value x10
    split
    · exact Lane.stepFault_near (tr m rfl) h10
    · exact Lane.near_ite (Lane.stepFault_near (tr m rfl) h10) h10
    · exact Lane.near_ite (Lane.edgeB_near (tr m rfl) (Lane.edgeA_near (tr m rfl) (Lane.nextChoice_near (tb m rfl) h0))) (Lane.edgeA_near (tr m rfl) (Lane.edgeB_near (tr m rfl) (Lane.nextChoice_near (tb m rfl) h0)))
    · exact h10))

theorem Lane.edgePair_near {M : Nat} {b : Lane} {l0 : Lane} {y1} {y2} {y3} {y4} {y5} {y6} (m : sub 0x380000002cc8028bb5e2000018078000030c000000381755103b1000200022001400000000000005c0000200014e0000a000080000f0006020600000000800004 M = true) (h0 : Lane.Near M b l0) :
    Lane.Near M b (Lane.edgePair l0 y1 y2 y3 y4 y5 y6) := by
  delta Lane.edgePair
  exact Lane.near_ite (Lane.edgeB_near (tr m rfl) (Lane.edgeA_near (tr m rfl) h0)) (Lane.edgeA_near (tr m rfl) (Lane.edgeB_near (tr m rfl) h0))

theorem Lane.reReference_near {M : Nat} {b : Lane} {l0 : Lane} {y1} {y2} {y3} (m : sub 0x380000002cc8028bb5e2000018078000030c000000381751103b1000200022001400000000000005c0000200080e0000a000080000f0006020600000000800004 M = true) (h0 : Lane.Near M b l0) :
    Lane.Near M b (Lane.reReference l0 y1 y2 y3) := by
  delta Lane.reReference
  extract_lets -underBinder +onlyGivenNames x10 x11 x12
  clear_value x10 x11 x12
  extract_lets -underBinder +onlyGivenNames x13
  have h13 : Lane.Near M b x13 := Lane.moveCounter_near (tr m rfl) (Lane.putInt_near (inReg (at_FB_IDXERR (Fin.isLt _)) (tb m rfl)) h0)
  clear_value x13
  extract_lets -underBinder +onlyGivenNames x14
  have h14 : Lane.Near M b x14 := Lane.when_near h13 (fun _ g15 => Lane.raise_near (inEvt (ev_FB_EVT (Fin.isLt _)) (tb m rfl)) rfl g15)
  clear_value x14
  extract_lets -underBinder +onlyGivenNames x16
  have h16 : Lane.Near M b x16 := Lane.onFb_near (tr m rfl) h14
  clear_value x16
  extract_lets -underBinder +onlyGivenNames x17
  have h17 : Lane.Near M b x17 := Lane.near_ite (Lane.drop_near (inReg (at_FB_STAT (Fin.isLt _)) (tb m rfl)) h16) (Lane.raise_near (inEvt (ev_FB_EVT (Fin.isLt _)) (tb m rfl)) rfl h16)
  clear_value x17
  extract_lets -underBinder +onlyGivenNames x18
  clear_value x18
  exact Lane.causes_near (tr m rfl) h17

theorem Lane.negotiate_near {M : Nat} {b : Lane} {l0 : Lane} {y1} (m : sub 0x380000002cc8028bb5e2000018078000030c000000381751103b1000200022001400000000000005c000021000060000a000080000f0006020600000000800004 M = true) (h0 : Lane.Near M b l0) :
    Lane.Near M b (Lane.negotiate l0 y1) := by
  delta Lane.negotiate
  exact Lane.near_ite h0 (by
    extract_lets -underBinder +onlyGivenNames x10
    have h10 : Lane.Near M b x10 := Lane.drop_near (inReg (at_FB_SERCNT (Fin.isLt _)) (tb m rfl)) (Lane.drop_near (inReg (at_FB_STAT (Fin.isLt _)) (tb m rfl)) (Lane.drop_near (inReg (at_FB_STAT (Fin.isLt _)) (tb m rfl)) h0))
    clear_value x10
    extract_lets -underBinder +onlyGivenNames x11
    have h11 : Lane.Near M b x11 := Lane.onSer_near (tr m rfl) h10
    clear_value x11
    exact Lane.causes_near (tr m rfl) h11)

theorem Lane.stepRate_near {M : Nat} {b : Lane} {l0 : Lane} {y1} (m : sub 0x1000000000000000000000000000000000000000000000040000000000000000000000000000000000000 M = true) (h0 : Lane.Near M b l0) :
    Lane.Near M b (Lane.stepRate l0 y1) := by
  delta Lane.stepRate
  extract_lets -underBinder +onlyGivenNames x10
  clear_value x10
  exact Lane.near_ite (Lane.onSer_near (tr m rfl) (Lane.raise_near (inEvt (ev_FB_EVT (Fin.isLt _)) (tb m rfl)) rfl h0)) (Lane.onSer_near (tr m rfl) h0)

theorem Lane.estimateAnew_near {M : Nat} {b : Lane} {l0 : Lane} {y1} (m : sub 0x20000000000000000000000000000000000000 M = true) (h0 : Lane.Near M b l0) :
    Lane.Near M b (Lane.estimateAnew l0 y1) := by
  delta Lane.estimateAnew
  exact Lane.when_near h0 (fun _ g10 => Lane.raise_near (inReg (at_FB_STAT (Fin.isLt _)) (tb m rfl)).1 rfl g10)

theorem Lane.negotiateFrame_near {M : Nat} {b : Lane} {l0 : Lane} {y1} {y2} {y3} {y4} (m : sub 0x380400002cc8028bb5e2000018078000030c000000381751103b1000200022001400000000000005c000020800060000a000080000f0006020600000000800004 M = true) (h0 : Lane.Near M b l0) :
    Lane.Near M b (Lane.negotiateFrame l0 y1 y2 y3 y4) := by
  delta Lane.negotiateFrame
  extract_lets -underBinder +onlyGivenNames x10
  have h10 : Lane.Near M b x10 := Lane.when_near h0 (fun _ g11 => Lane.put_near (inReg (at_FB_SERPOS (Fin.isLt _)) (tb m rfl)) g11)
  clear_value x10
  extract_lets -underBinder +onlyGivenNames x12
  have h12 : Lane.Near M b x12 := Lane.onSer_near (tr m rfl) h10
  clear_value x12
  extract_lets -underBinder +onlyGivenNames x13
  clear_value x13
  exact Lane.near_ite (by
    extract_lets -underBinder +onlyGivenNames x14
    have h14 : Lane.Near M b x14 := Lane.estimateAnew_near (tr m rfl) (Lane.put_near (inReg (at_FB_STAT (Fin.isLt _)) (tb m rfl)) (Lane.raise_near (inReg (at_FB_STAT (Fin.isLt _)) (tb m rfl)).1 rfl h12))
    clear_value x14
    extract_lets -underBinder +onlyGivenNames x15
    have h15 : Lane.Near M b x15 := Lane.onSer_near (tr m rfl) h14
    clear_value x15
    extract_lets -underBinder +onlyGivenNames x16
    have h16 : Lane.Near M b x16 := Lane.onTrust_near (f := _) (TrustState.Near.mk kp kp kp kp kp kp kp kp kp kp kp kp kp kp kp kp kp kp kp (ch m rfl)) h15
    clear_value x16
    exact Lane.causes_near (tr m rfl) h16) (Lane.near_ite (Lane.stepRate_near (tr m rfl) h12) h12)

theorem Lane.badFrame_near {M : Nat} {b : Lane} {l0 : Lane} {y1} (m : sub 0x380000002cc8028bb5e2000018078000030c000000381751103b1000200022001400000000000005c000021000060000a000080000f0006020600000000800004 M = true) (h0 : Lane.Near M b l0) :
    Lane.Near M b (Lane.badFrame l0 y1) := by
  delta Lane.badFrame
  extract_lets -underBinder +onlyGivenNames x10
  have h10 : Lane.Near M b x10 := Lane.raise_near (inEvt (ev_FB_EVT (Fin.isLt _)) (tb m rfl)) rfl (Lane.bump_near (inReg (at_FB_SERCNT (Fin.isLt _)) (tb m rfl)) h0)
  clear_value x10
  extract_lets -underBinder +onlyGivenNames x11
  have h11 : Lane.Near M b x11 := Lane.onSer_near (tr m rfl) h10
  clear_value x11
  extract_lets -underBinder +onlyGivenNames x12
  have h12 : Lane.Near M b x12 := Lane.estimateAnew_near (tr m rfl) h11
  clear_value x12
  exact Lane.near_ite (Lane.causes_near (tr m rfl) h12) h12

theorem Lane.serialSpeed_near {M : Nat} {b : Lane} {l0 : Lane} {y1} (m : sub 0x1000000000000000000000000000000000000000000000420000000000000000000000000000000000000 M = true) (h0 : Lane.Near M b l0) :
    Lane.Near M b (Lane.serialSpeed l0 y1) := by
  delta Lane.serialSpeed
  extract_lets -underBinder +onlyGivenNames x10
  clear_value x10
  split
  · split
    · exact Lane.setSpeed_near (tr m rfl) (Lane.drop_near (inReg (at_FB_STAT (Fin.isLt _)) (tb m rfl)) h0)
    · exact Lane.raise_near (inReg (at_FB_STAT (Fin.isLt _)) (tb m rfl)).1 rfl h0
  · exact h0

theorem Lane.compareFrame_near {M : Nat} {b : Lane} {l0 : Lane} {y1} {y2} (m : sub 0x380000002cc8028bb5e2000018078000030c000000381751103b1000200022001400000000000005c0000200080e0000a000080000f0006020600000000800004 M = true) (h0 : Lane.Near M b l0) :
    Lane.Near M b (Lane.compareFrame l0 y1 y2) := by
  delta Lane.compareFrame
  extract_lets -underBinder +onlyGivenNames x10
  clear_value x10
  extract_lets -underBinder +onlyGivenNames x11
  have h11 : Lane.Near M b x11 := Lane.when_near h0 (fun _ g12 => Lane.raise_near (inEvt (ev_FB_EVT (Fin.isLt _)) (tb m rfl)) rfl g12)
  clear_value x11
  extract_lets -underBinder +onlyGivenNames x13
  have h13 : Lane.Near M b x13 := Lane.onSer_near (tr m rfl) h11
  clear_value x13
  extract_lets -underBinder +onlyGivenNames x14
  clear_value x14
  extract_lets -underBinder +onlyGivenNames x15
  have h15 : Lane.Near M b x15 := Lane.when_near h13 (fun _ g16 => Lane.causes_near (tr m rfl) g16)
  clear_value x15
  extract_lets -underBinder +onlyGivenNames x17
  have h17 : Lane.Near M b x17 := Lane.when_near h15 (fun _ g18 => Lane.causes_near (tr m rfl) g18)
  clear_value x17
  exact Lane.near_ite (Lane.reReference_near (tr m rfl) h17) h17

theorem Lane.firstFrame_near {M : Nat} {b : Lane} {l0 : Lane} {y1} {y2} {y3} {y4} (m : sub 0x380000002cc8028bb5e2000018078000030c000000381751103b1000200022001400000000000005c0000200000e0000a000080000f0006020600000000800004 M = true) (h0 : Lane.Near M b l0) :
    Lane.Near M b (Lane.firstFrame l0 y1 y2 y3 y4) := by
  delta Lane.firstFrame
  extract_lets -underBinder +onlyGivenNames x10
  have h10 : Lane.Near M b x10 := Lane.putInt_near (inReg (at_FB_POS (Fin.isLt _)) (tb m rfl)) h0
  clear_value x10
  extract_lets -underBinder +onlyGivenNames x11
  have h11 : Lane.Near M b x11 := Lane.onFb_near (tr m rfl) (Lane.raise_near (inReg (at_FB_STAT (Fin.isLt _)) (tb m rfl)).1 rfl h10)
  clear_value x11
  exact Lane.causes_near (tr m rfl) h11

theorem Lane.cleanFrame_near {M : Nat} {b : Lane} {l0 : Lane} {y1} {y2} {y3} {y4} (m : sub 0x380000002cc8028bb5e2000018078000030c000000381751103b1000200022001400000000000005c0000208084e0000a000080000f0006020600000000800004 M = true) (h0 : Lane.Near M b l0) :
    Lane.Near M b (Lane.cleanFrame l0 y1 y2 y3 y4) := by
  delta Lane.cleanFrame
  extract_lets -underBinder +onlyGivenNames x10
  have h10 : Lane.Near M b x10 := Lane.put_near (inReg (at_FB_SERPOS (Fin.isLt _)) (tb m rfl)) h0
  clear_value x10
  extract_lets -underBinder +onlyGivenNames x11
  have h11 : Lane.Near M b x11 := Lane.onSer_near (tr m rfl) h10
  clear_value x11
  extract_lets -underBinder +onlyGivenNames x12
  have h12 : Lane.Near M b x12 := Lane.when_near h11 (fun _ g13 => Lane.causes_near (tr m rfl) g13)
  clear_value x12
  extract_lets -underBinder +onlyGivenNames x14 x15
  clear_value x14 x15
  extract_lets -underBinder +onlyGivenNames x16
  have h16 : Lane.Near M b x16 := Lane.near_ite (Lane.firstFrame_near (tr m rfl) h12) (Lane.near_ite (Lane.compareFrame_near (tr m rfl) h12) (Lane.moveCounter_near (tr m rfl) h12))
  clear_value x16
  exact Lane.near_ite h16 (Lane.serialSpeed_near (tr m rfl) h16)

theorem Lane.hallJudge_near {M : Nat} {b : Lane} {l0 : Lane} {y1} {y2} (m : sub 0x380000002cc8028bb5e2000018078000030c000000381751103b1000200022001400000000000005c000020000060000a000080000f0006020600000000800004 M = true) (h0 : Lane.Near M b l0) :
    Lane.Near M b (Lane.hallJudge l0 y1 y2) := by
  delta Lane.hallJudge
  extract_lets -underBinder +onlyGivenNames x10
  have h10 : Lane.Near M b x10 := Lane.when_near h0 (fun _ g11 => Lane.raise_near (inEvt (ev_FB_EVT (Fin.isLt _)) (tb m rfl)) rfl g11)
  clear_value x10
  extract_lets -underBinder +onlyGivenNames x12
  have h12 : Lane.Near M b x12 := Lane.onFb_near (tr m rfl) h10
  clear_value x12
  extract_lets -underBinder +onlyGivenNames x13
  clear_value x13
  extract_lets -underBinder +onlyGivenNames x14
  have h14 : Lane.Near M b x14 := Lane.when_near h12 (fun _ g15 => Lane.causes_near (tr m rfl) g15)
  clear_value x14
  exact Lane.when_near h14 (fun _ g16 => Lane.causes_near (tr m rfl) g16)

theorem Lane.keeperStart_near {M : Nat} {b : Lane} {l0 : Lane} (m : sub 0x80000000000000400000000000000000000000018000000f0000000000000000000000000000000000000000000000000000000000000000000000008 M = true) (h0 : Lane.Near M b l0) :
    Lane.Near M b (Lane.keeperStart l0) := by
  delta Lane.keeperStart
  extract_lets -underBinder +onlyGivenNames x10
  clear_value x10
  extract_lets -underBinder +onlyGivenNames x11
  have h11 : Lane.Near M b x11 := Lane.sendHellos_near (tr m rfl) (Lane.putBit_near (inReg at_LC_ENGSTAT (tb m rfl)) h0)
  clear_value x11
  extract_lets -underBinder +onlyGivenNames x12
  have h12 : Lane.Near M b x12 := Lane.putFlag_near (inReg at_KP_STAT (tb m rfl)) (Lane.putFlag_near (inReg at_KP_STAT (tb m rfl)) h11)
  clear_value x12
  extract_lets -underBinder +onlyGivenNames x13
  have h13 : Lane.Near M b x13 := Lane.showFuses_near (tr m rfl) (Lane.putFlag_near (inReg at_KP_STAT (tb m rfl)) h12)
  clear_value x13
  extract_lets -underBinder +onlyGivenNames x14
  have h14 : Lane.Near M b x14 := Lane.putFlag_near (inReg at_KP_STAT (tb m rfl)) h13
  clear_value x14
  extract_lets -underBinder +onlyGivenNames x15
  have h15 : Lane.Near M b x15 := Lane.put_near (inReg at_KP_TAMP (tb m rfl)) (Lane.put_near (inReg at_KP_TAMP (tb m rfl)) h14)
  clear_value x15
  extract_lets -underBinder +onlyGivenNames x16
  have h16 : Lane.Near M b x16 := Lane.when_near h15 (fun _ g17 => Lane.note_near (tb m rfl) (Lane.raise_near (inEvt ev_KP_EVT (tb m rfl)) rfl g17))
  clear_value x16
  exact Lane.when_near (Lane.onTrust_near (f := _) (TrustState.Near.mk (ch m rfl) kp kp kp kp kp kp kp kp kp kp kp kp kp kp kp kp kp kp kp) h16) (fun _ g18 => Lane.onWing_near (f := _) (WingState.Near.mk kp kp kp kp kp kp kp kp kp kp kp kp kp kp kp kp kp kp kp kp kp kp kp kp kp kp kp kp kp kp kp kp kp kp kp kp kp kp kp (ch m rfl) kp kp kp kp kp kp kp kp kp kp kp kp kp) g18)

theorem Lane.bareSeats_near {M : Nat} {b : Lane} {l0 : Lane} (m : sub 0x3c200000000000000000000000000000000000000000000000000000000000000000000000000000 M = true) (h0 : Lane.Near M b l0) :
    Lane.Near M b (Lane.bareSeats l0) := by
  delta Lane.bareSeats
  extract_lets -underBinder +onlyGivenNames x10
  have h10 : Lane.Near M b x10 := Lane.near_foldl (fun _ _ q11 g11 => Lane.setWord_near (inReg (at_HS_SCAN (List.mem_range.1 q11)) (tb m rfl)) (Lane.setWord_near (inReg (at_HS_SCFG (List.mem_range.1 q11)) (tb m rfl)) g11)) h0
  clear_value x10
  extract_lets -underBinder +onlyGivenNames x12
  have h12 : Lane.Near M b x12 := Lane.put_near (inReg (at_HS_SCFG (by decide)) (tb m rfl)) (Lane.put_near (inReg (at_HS_SCFG (by decide)) (tb m rfl)) (Lane.raise_near (inReg (at_HS_SCFG (by decide)) (tb m rfl)).1 rfl h10))
  clear_value x12
  extract_lets -underBinder +onlyGivenNames x13 x14
  clear_value x13 x14
  extract_lets -underBinder +onlyGivenNames x15
  have h15 : Lane.Near M b x15 := Lane.setWord_near (inReg (at_HS_SKEYHI (by decide)) (tb m rfl)) (Lane.setWord_near (inReg (at_HS_SKEYLO (by decide)) (tb m rfl)) h12)
  clear_value x15
  exact Lane.put_near (inReg at_HS_PORT (tb m rfl)) (Lane.raise_near (inReg at_HS_PORT (tb m rfl)).1 rfl h15)

theorem Lane.queueStep_near {M : Nat} {b : Lane} {l0 : Lane} {y1} (m : sub 0x48000000000000000000000005e00000000000000000000000000000103b00000000000014000000000000000000000000000000000000000000000000000000002300000 M = true) (h0 : Lane.Near M b l0) :
    Lane.Near M b (Lane.queueStep l0 y1) := by
  delta Lane.queueStep
  exact Lane.queueTicket_near (tr m rfl) h0

theorem Lane.startRehearsal_near {M : Nat} {b : Lane} {l0 : Lane} {y1} (m : sub 0x48000000002008002000020005e2000000038000000000000038000113fb00000000000014000000000000000000004000000000000000000000002000000000002b0000e M = true) (h0 : Lane.Near M b l0) :
    Lane.Near M b (Lane.startRehearsal l0 y1) := by
  delta Lane.startRehearsal
  extract_lets -underBinder +onlyGivenNames x10
  have h10 : Lane.Near M b x10 := Lane.put_near (inReg at_LC_REV (tb m rfl)) (Lane.onTrust_near (f := _) (TrustState.Near.mk kp kp kp kp kp kp kp kp kp kp kp kp (ch m rfl) kp kp kp kp kp kp kp) h0)
  clear_value x10
  extract_lets -underBinder +onlyGivenNames x11
  have h11 : Lane.Near M b x11 := Lane.sendHellos_near (tr m rfl) (Lane.put_near (inReg at_LC_ENGSTAT (tb m rfl)) (Lane.takeMode_near (tr m rfl) h10))
  clear_value x11
  extract_lets -underBinder +onlyGivenNames x12
  have h12 : Lane.Near M b x12 := Lane.bareSeats_near (tr m rfl) (Lane.put_near (inReg at_BI_STAT (tb m rfl)) (Lane.put_near (inReg at_LE_LSTAT (tb m rfl)) h11))
  clear_value x12
  extract_lets -underBinder +onlyGivenNames x13
  have h13 : Lane.Near M b x13 := Lane.onReh_near (f := _) (RehState.Near.mk kp kp (ch m rfl) kp kp kp kp kp kp kp kp kp kp kp kp kp kp kp kp kp kp kp kp kp kp) h12
  clear_value x13
  exact Lane.queueActivity_near (tr m rfl) (Lane.near_foldl (fun _ _ q14 g14 => Lane.queueStep_near (tr m rfl) g14) h13)

theorem Lane.verifyFirmware_near {M : Nat} {b : Lane} {l0 : Lane} (m : sub 0x48000000002038002000020005e2000000038000000000000038000113fb00000000000014000000000000000000004000000000000000000000002000000000002b0000e M = true) (h0 : Lane.Near M b l0) :
    Lane.Near M b (Lane.verifyFirmware l0) := by
  delta Lane.verifyFirmware
  extract_lets -underBinder +onlyGivenNames x10
  clear_value x10
  split
  · exact Lane.bareSeats_near (tr m rfl) (Lane.onTrust_near (f := _) (TrustState.Near.mk kp kp kp kp kp kp kp kp kp kp kp kp kp kp (ch m rfl) kp kp kp kp kp) h0)
  · extract_lets -underBinder +onlyGivenNames x11
    have h11 : Lane.Near M b x11 := Lane.onTrust_near (f := _) (TrustState.Near.mk kp kp kp kp kp kp kp kp kp kp kp kp kp (ch m rfl) kp kp kp kp kp kp) h0
    clear_value x11
    split
    · exact Lane.near_ite (Lane.startRehearsal_near (tr m rfl) h11) (Lane.near_ite (Lane.bareSeats_near (tr m rfl) (Lane.onTrust_near (f := _) (TrustState.Near.mk kp kp kp kp kp kp kp kp kp kp kp kp kp kp (ch m rfl) kp kp kp kp kp) h11)) h11)
    · exact h11

theorem Lane.marking_near {M : Nat} {b : Lane} {l0 : Lane} {y1 : Lane → Lane} (m : sub 0x800000000000000000000000000000000000000000000000000000000000004000000000000000000 M = true) (h0 : Lane.Near M b l0) (h1 : ∀ l, Lane.Near M b l → Lane.Near M b (y1 l)) :
    Lane.Near M b (Lane.marking l0 y1) := by
  delta Lane.marking
  extract_lets -underBinder +onlyGivenNames x10
  have h10 : Lane.Near M b x10 := h1 _ h0
  clear_value x10
  exact Lane.near_ite h10 (Lane.note_near (tb m rfl) (Lane.raise_near (inEvt ev_BI_EVT (tb m rfl)) rfl h10))

theorem Lane.failEngines_near {M : Nat} {b : Lane} {l0 : Lane} {y1} (m : sub 0x380000000848000001e00050720560008000000000000751903b00002000020014000000000000000000004000000000a0000800002000470060020000000000c M = true) (h0 : Lane.Near M b l0) :
    Lane.Near M b (Lane.failEngines l0 y1) := by
  delta Lane.failEngines
  extract_lets -underBinder +onlyGivenNames x10
  have h10 : Lane.Near M b x10 := Lane.marking_near (tr m rfl) h0 (fun _ g11 => by
    extract_lets -underBinder +onlyGivenNames x12
    have h12 : Lane.Near M b x12 := Lane.put_near (inReg at_LC_ENGSTAT (tb m rfl)) (Lane.orBits_near (inReg at_LC_ENGSTAT (tb m rfl)) g11)
    clear_value x12
    extract_lets -underBinder +onlyGivenNames x13
    have h13 : Lane.Near M b x13 := Lane.when_near h12 (fun _ g14 => Lane.drop_near (inReg at_LE_LSTAT (tb m rfl)) g14)
    clear_value x13
    exact Lane.orBits_near (inReg at_TV_STAT (tb m rfl)) h13)
  clear_value x10
  exact Lane.near_ite (Lane.laneOut_near (tr m rfl) h10) h10

theorem Lane.showMemory_near {M : Nat} {b : Lane} {l0 : Lane} {y1} {y2} {y3} {y4} {y5} (m : sub 0x800000000000000000000000000000000000000000000000000000000000080000000000000000000 M = true) (h0 : Lane.Near M b l0) :
    Lane.Near M b (Lane.showMemory l0 y1 y2 y3 y4 y5) := by
  delta Lane.showMemory
  extract_lets -underBinder +onlyGivenNames x10
  have h10 : Lane.Near M b x10 := Lane.put_near (inReg at_BI_MEMRES (tb m rfl)) (Lane.put_near (inReg at_BI_MEMRES (tb m rfl)) (Lane.raise_near (inReg at_BI_MEMRES (tb m rfl)).1 rfl h0))
  clear_value x10
  extract_lets -underBinder +onlyGivenNames x11
  have h11 : Lane.Near M b x11 := Lane.put_near (inReg at_BI_MEMRES (tb m rfl)) (Lane.putFlag_near (inReg at_BI_MEMRES (tb m rfl)) (Lane.put_near (inReg at_BI_MEMRES (tb m rfl)) h10))
  clear_value x11
  exact Lane.note_near (tb m rfl) h11

theorem Lane.bankCount_near {M : Nat} {b : Lane} {l0 : Lane} (m : sub 0x398000000848000001e00050720560008000000000000751103b00002000020014000000000000000000000000000000a00008000020006700600000000000004 M = true) (h0 : Lane.Near M b l0) :
    Lane.Near M b (Lane.bankCount l0) := by
  delta Lane.bankCount
  extract_lets -underBinder +onlyGivenNames x10 x11
  clear_value x10 x11
  extract_lets -underBinder +onlyGivenNames x12
  have h12 : Lane.Near M b x12 := Lane.onReh_near (f := _) (RehState.Near.mk kp kp kp kp (ch m rfl) (ch m rfl) kp kp kp kp kp kp kp kp kp kp kp kp kp kp kp kp kp kp kp) h0
  clear_value x12
  exact Lane.near_ite h12 (by
    extract_lets -underBinder +onlyGivenNames x13
    have h13 : Lane.Near M b x13 := Lane.raise_near (inReg at_BI_STAT (tb m rfl)).1 rfl h12
    clear_value x13
    exact Lane.near_ite (Lane.laneOut_near (tr m rfl) h13) h13)

theorem Lane.marchAll_near {M : Nat} {b : Lane} {l0 : Lane} {y1} (m : sub 0x24398000008848000001e00050720560008000000000000751903b00002000020014000000000000000000000000000000a0000800002018e700600000000000004 M = true) (h0 : Lane.Near M b l0) :
    Lane.Near M b (Lane.marchAll l0 y1) := by
  delta Lane.marchAll
  extract_lets -underBinder +onlyGivenNames x10 x11
  clear_value x10 x11
  extract_lets -underBinder +onlyGivenNames x12
  have h12 : Lane.Near M b x12 := Lane.near_foldl (fun _ _ q13 g13 => Lane.showMemory_near (tr m rfl) g13) h0
  clear_value x12
  extract_lets -underBinder +onlyGivenNames x14
  have h14 : Lane.Near M b x14 := Lane.when_near h12 (fun _ g15 => Lane.raise_near (inEvt ev_BI_EVT (tb m rfl)) rfl g15)
  clear_value x14
  extract_lets -underBinder +onlyGivenNames x16 x17
  clear_value x16 x17
  extract_lets -underBinder +onlyGivenNames x18
  have h18 : Lane.Near M b x18 := Lane.onTrust_near (f := _) (TrustState.Near.mk (ch m rfl) kp kp kp kp kp kp kp kp kp kp kp kp kp kp kp kp kp kp kp) h14
  clear_value x18
  extract_lets -underBinder +onlyGivenNames x19
  have h19 : Lane.Near M b x19 := Lane.onReh_near (f := _) (RehState.Near.mk kp kp kp kp kp kp kp kp kp kp kp kp kp kp kp (ch m rfl) kp kp kp kp kp kp kp kp kp) h18
  clear_value x19
  extract_lets -underBinder +onlyGivenNames x20
  have h20 : Lane.Near M b x20 := Lane.addTo_near (inReg at_BI_MEMCNT (tb m rfl)) h19
  clear_value x20
  extract_lets -underBinder +onlyGivenNames x21
  have h21 : Lane.Near M b x21 := Lane.drop_near (inReg at_BI_MEMCNT (tb m rfl)) (Lane.put_near (inReg at_BI_MEMCNT (tb m rfl)) h20)
  clear_value x21
  extract_lets -underBinder +onlyGivenNames x22
  have h22 : Lane.Near M b x22 := Lane.marking_near (tr m rfl) h21 (fun _ g23 => Lane.orBits_near (inReg at_BI_UNUS (tb m rfl)) g23)
  clear_value x22
  extract_lets -underBinder +onlyGivenNames x24
  have h24 : Lane.Near M b x24 := Lane.onReh_near (f := _) (RehState.Near.mk kp kp kp kp kp kp kp kp kp kp kp kp kp kp kp kp kp kp (ch m rfl) kp kp kp kp kp kp) h22
  clear_value x24
  extract_lets -underBinder +onlyGivenNames x25
  have h25 : Lane.Near M b x25 := Lane.when_near h24 (fun _ g26 => Lane.marking_near (tr m rfl) g26 (fun _ g27 => Lane.raise_near (inReg at_BI_UNUS (tb m rfl)).1 rfl g27))
  clear_value x25
  exact Lane.when_near (Lane.bankCount_near (tr m rfl) h25) (fun _ g28 => Lane.laneOut_near (tr m rfl) g28)

theorem Lane.failComparators_near {M : Nat} {b : Lane} {l0 : Lane} {y1} {y2} (m : sub 0x840380000002cc8028bb5e2000018078000030c000000380751103b1000200022001400000000000005c000020000000000a000080000f0016020600000000800004 M = true) (h0 : Lane.Near M b l0) :
    Lane.Near M b (Lane.failComparators l0 y1 y2) := by
  delta Lane.failComparators
  extract_lets -underBinder +onlyGivenNames x10 x11
  clear_value x10 x11
  extract_lets -underBinder +onlyGivenNames x12
  have h12 : Lane.Near M b x12 := Lane.when_near h0 (fun _ g13 => Lane.raise_near (inEvt ev_BI_EVT (tb m rfl)) rfl g13)
  clear_value x12
  refine Lane.near_foldl (fun _ _ q14 g14 => ?_) h12
  extract_lets -underBinder +onlyGivenNames x15
  have h15 : Lane.Near M b x15 := Lane.onReh_near (f := _) (RehState.Near.mk kp kp kp kp kp kp kp kp kp kp kp kp kp kp kp kp kp kp kp (ch m rfl) kp kp kp kp (ch m rfl)) g14
  clear_value x15
  extract_lets -underBinder +onlyGivenNames x16
  have h16 : Lane.Near M b x16 := Lane.near_ite (Lane.putBit_near (inReg at_BI_CMPST (tb m rfl)) h15) (Lane.putBit_near (inReg at_BI_CMPST (tb m rfl)) h15)
  clear_value x16
  exact Lane.near_ite (Lane.setOut_near (tr m rfl) h16) h16

theorem Lane.failSwitches_near {M : Nat} {b : Lane} {l0 : Lane} {y1} (m : sub 0x380000002cc8028bb5e2000018078000030c000000380751103b1000200022001400000000000005c000020000000000a000080000f0026020600000000800004 M = true) (h0 : Lane.Near M b l0) :
    Lane.Near M b (Lane.failSwitches l0 y1) := by
  delta Lane.failSwitches
  exact Lane.near_ite h0 (Lane.allAxes_near (Lane.raise_near (inEvt ev_BI_EVT (tb m rfl)) rfl (Lane.orBits_near (inReg at_BI_SWFAIL (tb m rfl)) h0)) (fun _ _ g10 => Lane.afterUnav_near (tr m rfl) g10))

theorem Lane.failTwins_near {M : Nat} {b : Lane} {l0 : Lane} {y1} (m : sub 0x44000000000000000000 M = true) (h0 : Lane.Near M b l0) :
    Lane.Near M b (Lane.failTwins l0 y1) := by
  delta Lane.failTwins
  exact Lane.near_ite h0 (Lane.raise_near (inEvt ev_BI_EVT (tb m rfl)) rfl (Lane.orBits_near (inReg at_BI_TWIN (tb m rfl)) h0))

theorem Lane.refuseBook_near {M : Nat} {b : Lane} {l0 : Lane} {y1} (m : sub 0x7840000000000000000000000000000000000000000800000000000000000000000000000000000000000000000000000000000000000000000000000000 M = true) (h0 : Lane.Near M b l0) :
    Lane.Near M b (Lane.refuseBook l0 y1) := by
  delta Lane.refuseBook
  extract_lets -underBinder +onlyGivenNames x10
  have h10 : Lane.Near M b x10 := Lane.onTrust_near (f := _) (TrustState.Near.mk kp kp kp (ch m rfl) kp kp kp kp (ch m rfl) (ch m rfl) (ch m rfl) (ch m rfl) kp kp kp kp kp kp kp kp) h0
  clear_value x10
  exact Lane.note_near (tb m rfl) h10

theorem Lane.takeBook_near {M : Nat} {b : Lane} {l0 : Lane} {y1} {y2} (m : sub 0x7940000000000000000000000000000000000000000000000000000000000000000000000000000000000000000000000000000000000000000000000000 M = true) (h0 : Lane.Near M b l0) :
    Lane.Near M b (Lane.takeBook l0 y1 y2) := by
  delta Lane.takeBook
  exact Lane.onTrust_near (f := _) (TrustState.Near.mk kp kp kp (ch m rfl) kp (ch m rfl) kp kp (ch m rfl) (ch m rfl) (ch m rfl) (ch m rfl) kp kp kp kp kp kp kp kp) h0

theorem Lane.readBook_near {M : Nat} {b : Lane} {l0 : Lane} (m : sub 0x7940000000000000000000000000000000000000000800000000000000000000000000000000000000000000000000000000000000000000000000000000 M = true) (h0 : Lane.Near M b l0) :
    Lane.Near M b (Lane.readBook l0) := by
  delta Lane.readBook
  exact Lane.near_foldl (fun _ _ q10 g10 => Lane.near_ite g10 (by
    split
    · exact g10
    · split
      · exact Lane.takeBook_near (tr m rfl) g10
      · exact Lane.refuseBook_near (tr m rfl) g10)) h0

theorem Lane.stepLeak_near {M : Nat} {b : Lane} {l0 : Lane} {y1} {y2} {y3} (m : sub 0x380000002cc8028bb5e2000018078000030c000000380751103b1000200022001400000000000005c000020000000010e000080000f0006020600000000800004 M = true) (h0 : Lane.Near M b l0) :
    Lane.Near M b (Lane.stepLeak l0 y1 y2 y3) := by
  delta Lane.stepLeak
  exact Lane.near_ite (Lane.leakResult_near (tr m rfl) h0) h0

theorem Lane.stepResult_near {M : Nat} {b : Lane} {l0 : Lane} {y1} {y2} (m : sub 0x86439800000acc8028bb5e200507a07e000830c000000380751903b1000200022001400000000000005c00002c000000010e000080000f01fe72060020000080000c M = true) (h0 : Lane.Near M b l0) :
    Lane.Near M b (Lane.stepResult l0 y1 y2) := by
  delta Lane.stepResult
  split
  · exact Lane.near_ite (Lane.failEngines_near (tr m rfl) h0) h0
  · exact Lane.failEngines_near (tr m rfl) h0
  · exact Lane.when_near (Lane.injected_near (tr m rfl) h0) (fun _ g10 => Lane.laneOut_near (tr m rfl) g10)
  · exact Lane.marchAll_near (tr m rfl) h0
  · extract_lets -underBinder +onlyGivenNames x11 x12
    clear_value x11 x12
    exact Lane.failTwins_near (tr m rfl) (Lane.failSwitches_near (tr m rfl) (Lane.failComparators_near (tr m rfl) h0))
  · exact Lane.marking_near (tr m rfl) h0 (fun _ g13 => Lane.orBits_near (inReg at_BI_UNUS (tb m rfl)) (Lane.orBits_near (inReg at_BI_UNUS (tb m rfl)) (Lane.orBits_near (inReg at_BI_UNUS (tb m rfl)) g13)))
  · exact Lane.marking_near (tr m rfl) h0 (fun _ g14 => Lane.orBits_near (inReg at_BI_UNUS (tb m rfl)) g14)
  · exact Lane.near_foldl (fun _ _ q15 g15 => Lane.stepLeak_near (tr m rfl) g15) h0
  · exact h0

theorem Lane.showStep_near {M : Nat} {b : Lane} {l0 : Lane} (m : sub 0x2000000000000000000 M = true) (h0 : Lane.Near M b l0) :
    Lane.Near M b (Lane.showStep l0) := by
  delta Lane.showStep
  exact Lane.put_near (inReg at_BI_STAT (tb m rfl)) h0

theorem Lane.endStep_near {M : Nat} {b : Lane} {l0 : Lane} {y1} {y2} (m : sub 0x5f800086439d80794acc8028bb5e200507a07e000830c000000380751903b1000200022001400000000000005c00002c000000010e000080000f81fe720600300022b0000c M = true) (h0 : Lane.Near M b l0) :
    Lane.Near M b (Lane.endStep l0 y1 y2) := by
  delta Lane.endStep
  extract_lets -underBinder +onlyGivenNames x10
  clear_value x10
  extract_lets -underBinder +onlyGivenNames x11
  have h11 : Lane.Near M b x11 := Lane.onReh_near (f := _) (RehState.Near.mk (ch m rfl) (ch m rfl) kp (ch m rfl) kp kp kp kp kp kp kp kp kp kp kp kp kp kp kp kp kp kp kp kp kp) h0
  clear_value x11
  extract_lets -underBinder +onlyGivenNames x12
  have h12 : Lane.Near M b x12 := Lane.near_ite (Lane.readBook_near (tr m rfl) h11) (Lane.stepResult_near (tr m rfl) h11)
  clear_value x12
  extract_lets -underBinder +onlyGivenNames x13
  have h13 : Lane.Near M b x13 := Lane.note_near (tb m rfl) (Lane.when_near h12 (fun _ g14 => Lane.raise_near (inEvt ev_BI_EVT (tb m rfl)) rfl g14))
  clear_value x13
  extract_lets -underBinder +onlyGivenNames x15
  have h15 : Lane.Near M b x15 := Lane.near_ite (Lane.queueStep_near (tr m rfl) h13) (Lane.near_ite (Lane.queueStep_near (tr m rfl) h13) h13)
  clear_value x15
  extract_lets -underBinder +onlyGivenNames x16
  have h16 : Lane.Near M b x16 := Lane.showStep_near (tr m rfl) (Lane.endWork_near (tr m rfl) h15)
  clear_value x16
  exact Lane.near_ite (Lane.put_near (inReg at_BI_SODT (tb m rfl)) (Lane.put_near (inReg at_BI_SODT (tb m rfl)) h16)) h16

theorem Lane.endRerun_near {M : Nat} {b : Lane} {l0 : Lane} {y1} {y2} (m : sub 0x5b800086439800080acc8028bb5e200507a07e000830c000000380751903b1000200022001400000000000005c00002c000000010e000080000f01fe720600300022b0000c M = true) (h0 : Lane.Near M b l0) :
    Lane.Near M b (Lane.endRerun l0 y1 y2) := by
  delta Lane.endRerun
  extract_lets -underBinder +onlyGivenNames x10
  have h10 : Lane.Near M b x10 := Lane.note_near (tb m rfl) (Lane.stepResult_near (tr m rfl) h0)
  clear_value x10
  exact Lane.showStep_near (tr m rfl) (Lane.endWork_near (tr m rfl) h10)

theorem Lane.digestOn_near {M : Nat} {b : Lane} {l0 : Lane} {y1} (m : sub 0x8000000000000001000000000000000000000000000000000000000000000000000000000000000000000000000000000 M = true) (h0 : Lane.Near M b l0) :
    Lane.Near M b (Lane.digestOn l0 y1) := by
  delta Lane.digestOn
  exact Lane.near_ite (by
    extract_lets -underBinder +onlyGivenNames x10
    clear_value x10
    exact Lane.sendFrame_near (tr m rfl) (Lane.onLinkEnd_near (tr m rfl) h0)) h0

theorem Lane.sendDigests_near {M : Nat} {b : Lane} {l0 : Lane} (m : sub 0x8000000000000001000000000000000000000000000000000000000000000000000000000000000000000000000000000 M = true) (h0 : Lane.Near M b l0) :
    Lane.Near M b (Lane.sendDigests l0) := by
  delta Lane.sendDigests
  exact Lane.digestOn_near (tr m rfl) (Lane.digestOn_near (tr m rfl) h0)

theorem Lane.sendDigest_near {M : Nat} {b : Lane} {l0 : Lane} (m : sub 0x580000000008000000000000001000000000000000000000000000000000000000000000000000000000000000000000000000000000 M = true) (h0 : Lane.Near M b l0) :
    Lane.Near M b (Lane.sendDigest l0) := by
  delta Lane.sendDigest
  extract_lets -underBinder +onlyGivenNames x10
  clear_value x10
  extract_lets -underBinder +onlyGivenNames x11
  have h11 : Lane.Near M b x11 := Lane.onLinkEnd_near (tr m rfl) (Lane.onLinkEnd_near (tr m rfl) h0)
  clear_value x11
  exact Lane.sendDigests_near (tr m rfl) (Lane.onWing_near (f := _) (WingState.Near.mk kp kp kp kp kp kp kp kp kp kp kp kp kp kp kp kp kp kp kp kp kp kp kp kp kp kp kp kp kp kp kp kp kp kp kp kp kp kp kp kp (ch m rfl) (ch m rfl) kp (ch m rfl) kp kp kp kp kp kp kp kp kp) h11)

theorem Lane.startTrio_near {M : Nat} {b : Lane} {l0 : Lane} (m : sub 0xf000000000000000000000000000000000000000000000000000000000000000000000000000000000000000000000000000000000000000000000000200000000000 M = true) (h0 : Lane.Near M b l0) :
    Lane.Near M b (Lane.startTrio l0) := by
  delta Lane.startTrio
  exact Lane.setTrioMode_near (tr m rfl) (Lane.onTrio_near (f := _) (TrioState.Near.mk (ch m rfl) (ch m rfl) (ch m rfl) (ch m rfl) kp kp kp kp kp kp kp kp kp kp kp) h0)

theorem Lane.startWindings_near {M : Nat} {b : Lane} {l0 : Lane} (m : sub 0x100000000000000000000000000000000000000000000000000000000000000000000000000000000000000000000000000000000000000000000000000000000000000000 M = true) (h0 : Lane.Near M b l0) :
    Lane.Near M b (Lane.startWindings l0) := by
  delta Lane.startWindings
  exact Lane.onBox_near (f := _) (BoxState.Near.mk kp kp kp kp kp (ch m rfl) kp kp kp kp kp kp kp kp kp kp kp kp kp) h0

theorem Lane.installBook_near {M : Nat} {b : Lane} {l0 : Lane} {y1} (m : sub 0xc0000000000000001000000003800002a2cc8028bb5e2000018078000030c0000043817515ffffffffffffffffffffffffffffffffffffffffffffffffffffffffffffffffffffffffffffffff M = true) (h0 : Lane.Near M b l0) :
    Lane.Near M b (Lane.installBook l0 y1) := by
  delta Lane.installBook
  extract_lets -underBinder +onlyGivenNames x10
  clear_value x10
  extract_lets -underBinder +onlyGivenNames x11
  have h11 : Lane.Near M b x11 := h0
  clear_value x11
  extract_lets -underBinder +onlyGivenNames x12
  have h12 : Lane.Near M b x12 := Lane.writeBook_near (tr m rfl) (by
    split
    · exact Lane.clearBook_near (tr m rfl) h0
    · exact h0)
  clear_value x12
  extract_lets -underBinder +onlyGivenNames x13
  have h13 : Lane.Near M b x13 := Lane.onTrust_near (f := _) (TrustState.Near.mk kp kp kp kp (ch m rfl) kp (ch m rfl) kp kp kp kp kp kp kp kp kp kp kp kp kp) h12
  clear_value x13
  extract_lets -underBinder +onlyGivenNames x14
  have h14 : Lane.Near M b x14 := Lane.loadDictionary_near (tr m rfl) (Lane.when_near h13 (fun _ g15 => Lane.startWindings_near (tr m rfl) g15))
  clear_value x14
  extract_lets -underBinder +onlyGivenNames x16
  have h16 : Lane.Near M b x16 := Lane.markMax_near (tr m rfl) (Lane.moveCore_near (tr m rfl) h14)
  clear_value x16
  extract_lets -underBinder +onlyGivenNames x17
  have h17 : Lane.Near M b x17 := Lane.allAxes_near h16 (fun _ _ g18 => Lane.negotiate_near (tr m rfl) (Lane.markUnav_near (tr m rfl) g18))
  clear_value x17
  extract_lets -underBinder +onlyGivenNames x19
  clear_value x19
  exact Lane.near_foldl (fun _ _ q20 g20 => Lane.near_ite (Lane.endSession_near (tr m rfl) g20) g20) h17

theorem Lane.compareDigests_near {M : Nat} {b : Lane} {l0 : Lane} (m : sub 0x800000000000002000000000000000000000000000000000000000000000000000000000000000000000000000000000000000000000400000000000000 M = true) (h0 : Lane.Near M b l0) :
    Lane.Near M b (Lane.compareDigests l0) := by
  delta Lane.compareDigests
  exact Lane.near_ite h0 (by
    extract_lets -underBinder +onlyGivenNames x10 x11 x12 x13
    clear_value x10 x11 x12 x13
    extract_lets -underBinder +onlyGivenNames x14
    have h14 : Lane.Near M b x14 := Lane.when_near (Lane.when_near h0 (fun _ g15 => Lane.raise_near (inEvt ev_WG_EVT (tb m rfl)) rfl g15)) (fun _ g16 => Lane.raise_near (inEvt ev_WG_EVT (tb m rfl)) rfl g16)
    clear_value x14
    extract_lets -underBinder +onlyGivenNames x17
    have h17 : Lane.Near M b x17 := Lane.onWing_near (f := _) (WingState.Near.mk kp kp kp kp kp kp kp kp kp kp kp kp kp kp kp kp kp kp kp kp kp kp kp kp kp kp kp kp kp kp kp kp kp kp kp kp kp kp kp kp kp kp kp kp kp kp (ch m rfl) kp kp kp kp kp kp) h14
    clear_value x17
    exact Lane.near_ite (by
    extract_lets -underBinder +onlyGivenNames x18
    clear_value x18
    exact Lane.onTrust_near (f := _) (TrustState.Near.mk kp kp kp kp kp kp kp kp (ch m rfl) kp kp kp kp kp kp kp kp kp kp kp) h17) h17)

theorem Lane.notStarted_near {M : Nat} {b : Lane} {l0 : Lane} {y1} (m : sub 0x200000000000000000000000000000000000000000000000000000000000000000000000000000000000000000000200000000000000 M = true) (h0 : Lane.Near M b l0) :
    Lane.Near M b (Lane.notStarted l0 y1) := by
  delta Lane.notStarted
  exact Lane.onWing_near (f := _) (WingState.Near.mk kp kp kp kp kp kp kp kp kp kp kp kp kp kp kp kp kp kp kp kp kp kp kp kp kp kp kp kp kp kp kp kp kp kp kp kp kp kp kp kp kp kp (ch m rfl) kp kp kp kp kp kp kp kp kp kp) (Lane.setPeerState_near (tr m rfl) h0)

theorem Lane.compareSerials_near {M : Nat} {b : Lane} {l0 : Lane} (m : sub 0x380000000848000001e00250720560008000000000000751103b00002000020014000000000000000000000000000000a00008000020004700600000000000004 M = true) (h0 : Lane.Near M b l0) :
    Lane.Near M b (Lane.compareSerials l0) := by
  delta Lane.compareSerials
  extract_lets -underBinder +onlyGivenNames x10
  clear_value x10
  split
  · exact Lane.near_ite (Lane.near_ite h0 (Lane.laneOut_near (tr m rfl) h0)) (Lane.near_ite (Lane.notStarted_near (tr m rfl) h0) (Lane.near_ite (Lane.notStarted_near (tr m rfl) h0) h0))
  · exact h0

theorem Lane.acceptBook_near {M : Nat} {b : Lane} {l0 : Lane} {y1} (m : sub 0xc000000000000000100000000380000ae2cc8028bb5e2000018078000030c0000043817515ffffffffffffffffffffffffffffffffffffffffffffffffffffffffffffffffffffffffffffffff M = true) (h0 : Lane.Near M b l0) :
    Lane.Near M b (Lane.acceptBook l0 y1) := by
  delta Lane.acceptBook
  extract_lets -underBinder +onlyGivenNames x10
  have h10 : Lane.Near M b x10 := Lane.onTrust_near (f := _) (TrustState.Near.mk kp kp kp (ch m rfl) kp kp kp kp (ch m rfl) kp kp kp kp kp kp kp kp kp kp kp) h0
  clear_value x10
  exact Lane.near_ite (Lane.installBook_near (tr m rfl) h10) (Lane.onTrust_near (f := _) (TrustState.Near.mk kp kp kp kp kp kp (ch m rfl) kp kp kp kp kp kp kp kp kp kp kp kp kp) h10)

theorem Lane.endScriptCheck_near {M : Nat} {b : Lane} {l0 : Lane} (m : sub 0xc000000000000000100000000380007ee2cc8028bb5e2200018078000030c000004381751dffffffffffffffffffffffffffffffffffffffffffffffffffffffffffffffffffffffffffffffff M = true) (h0 : Lane.Near M b l0) :
    Lane.Near M b (Lane.endScriptCheck l0) := by
  delta Lane.endScriptCheck
  split
  · exact Lane.propose_near (tr m rfl) (Lane.compareDigests_near (tr m rfl) h0)
  · split
    · exact Lane.propose_near (tr m rfl) (Lane.compareDigests_near (tr m rfl) (Lane.refuseBook_near (tr m rfl) h0))
    · exact Lane.near_ite (Lane.propose_near (tr m rfl) (Lane.compareDigests_near (tr m rfl) (Lane.acceptBook_near (tr m rfl) (Lane.onTrust_near (f := _) (TrustState.Near.mk kp kp kp kp kp kp kp (ch m rfl) kp kp kp kp kp kp kp kp kp kp kp kp) h0)))) (Lane.near_ite (by
    extract_lets -underBinder +onlyGivenNames x10
    clear_value x10
    exact Lane.propose_near (tr m rfl) (Lane.compareDigests_near (tr m rfl) (Lane.refuseBook_near (tr m rfl) (Lane.onTrust_near (f := _) (TrustState.Near.mk kp kp kp kp kp kp kp (ch m rfl) kp kp kp kp kp kp kp kp kp kp kp kp) h0)))) (Lane.onTrust_near (f := _) (TrustState.Near.mk kp kp kp kp kp kp kp (ch m rfl) kp kp kp kp kp kp kp kp kp kp kp kp) h0))

theorem Lane.settleAwaiting_near {M : Nat} {b : Lane} {l0 : Lane} (m : sub 0xc000000000000000100000000380007ee2cc8028bb5e2200018078000030c000004381751dffffffffffffffffffffffffffffffffffffffffffffffffffffffffffffffffffffffffffffffff M = true) (h0 : Lane.Near M b l0) :
    Lane.Near M b (Lane.settleAwaiting l0) := by
  delta Lane.settleAwaiting
  exact Lane.near_ite (Lane.endScriptCheck_near (tr m rfl) h0) h0

theorem Lane.queueRotation_near {M : Nat} {b : Lane} {l0 : Lane} {y1} (m : sub 0x48000000000000000000000005e00000000000000000000000000000103b00000000000014000000000000000000000000000000000000000000000000000000002300000 M = true) (h0 : Lane.Near M b l0) :
    Lane.Near M b (Lane.queueRotation l0 y1) := by
  delta Lane.queueRotation
  exact Lane.queueActivity_near (tr m rfl) h0

theorem Lane.bankDue_near {M : Nat} {b : Lane} {l0 : Lane} (m : sub 0x48000000020000000000000005e00000000000000000000000000000103b00000000000014000000000000000000000000000000000000000000000000000000002300000 M = true) (h0 : Lane.Near M b l0) :
    Lane.Near M b (Lane.bankDue l0) := by
  delta Lane.bankDue
  exact Lane.near_ite (Lane.queueRotation_near (tr m rfl) (Lane.onReh_near (f := _) (RehState.Near.mk kp kp kp kp kp kp (ch m rfl) kp kp kp kp kp kp kp kp kp kp kp kp kp kp kp kp kp kp) h0)) h0

theorem Lane.swapBank_near {M : Nat} {b : Lane} {l0 : Lane} (m : sub 0x98000000000000000000000000000000000000000000000000000000000000000000000000000000000000000000000000000000000000000000000000000000 M = true) (h0 : Lane.Near M b l0) :
    Lane.Near M b (Lane.swapBank l0) := by
  delta Lane.swapBank
  split
  · exact Lane.onReh_near (f := _) (RehState.Near.mk kp kp kp kp (ch m rfl) (ch m rfl) kp kp (ch m rfl) kp kp kp kp kp kp kp kp kp kp kp kp kp kp kp kp) h0
  · exact h0

theorem Lane.addRows_near {M : Nat} {b : Lane} {l0 : Lane} {y1} (m : sub 0x10000000000000000000000000000000000000000000000000000000000000000000000000000000000000000000000000000000000000100000000000000000000 M = true) (h0 : Lane.Near M b l0) :
    Lane.Near M b (Lane.addRows l0 y1) := by
  delta Lane.addRows
  extract_lets -underBinder +onlyGivenNames x10
  clear_value x10
  extract_lets -underBinder +onlyGivenNames x11
  have h11 : Lane.Near M b x11 := Lane.onReh_near (f := _) (RehState.Near.mk kp kp kp kp kp kp kp kp kp kp kp kp kp kp kp kp kp (ch m rfl) kp kp kp kp kp kp kp) h0
  clear_value x11
  exact Lane.addTo_near (inReg at_BI_MEMCNT (tb m rfl)) h11

theorem Lane.marchFails_near {M : Nat} {b : Lane} {l0 : Lane} {y1} {y2} (m : sub 0x10398000000848000001e00050720560008000000000000751903b00002000020014000000000000000000000000000000a0000800002018e700600000000000004 M = true) (h0 : Lane.Near M b l0) :
    Lane.Near M b (Lane.marchFails l0 y1 y2) := by
  delta Lane.marchFails
  extract_lets -underBinder +onlyGivenNames x10
  have h10 : Lane.Near M b x10 := Lane.near_foldl (fun _ _ q11 g11 => Lane.showMemory_near (tr m rfl) g11) h0
  clear_value x10
  extract_lets -underBinder +onlyGivenNames x12
  clear_value x12
  extract_lets -underBinder +onlyGivenNames x13
  have h13 : Lane.Near M b x13 := Lane.addRows_near (tr m rfl) (Lane.addTo_near (inReg at_BI_MEMCNT (tb m rfl)) (Lane.raise_near (inEvt ev_BI_EVT (tb m rfl)) rfl h10))
  clear_value x13
  extract_lets -underBinder +onlyGivenNames x14
  have h14 : Lane.Near M b x14 := Lane.onReh_near (f := _) (RehState.Near.mk kp kp kp kp kp (ch m rfl) kp kp kp kp kp kp kp kp kp kp kp kp kp kp kp kp kp kp kp) h13
  clear_value x14
  exact Lane.bankCount_near (tr m rfl) (Lane.marking_near (tr m rfl) h14 (fun _ g15 => Lane.putBit_near (inReg at_BI_UNUS (tb m rfl)) g15))

theorem Lane.endMarch_near {M : Nat} {b : Lane} {l0 : Lane} {y1} {y2} (m : sub 0x5b8000010398000800848000001e00050720560008000000000080751903b00002000020014000000000000000000000000000010a0000800002118e700600100022300004 M = true) (h0 : Lane.Near M b l0) :
    Lane.Near M b (Lane.endMarch l0 y1 y2) := by
  delta Lane.endMarch
  extract_lets -underBinder +onlyGivenNames x10
  have h10 : Lane.Near M b x10 := Lane.onReh_near (f := _) (RehState.Near.mk kp kp kp kp kp kp kp kp (ch m rfl) kp kp kp kp kp kp kp kp kp kp kp kp kp kp kp kp) h0
  clear_value x10
  extract_lets -underBinder +onlyGivenNames x11
  have h11 : Lane.Near M b x11 := Lane.put_near (inReg at_BI_ROTPOS (tb m rfl)) h10
  clear_value x11
  extract_lets -underBinder +onlyGivenNames x12
  have h12 : Lane.Near M b x12 := Lane.when_near h11 (fun _ g13 => Lane.bump_near (inReg at_BI_ROTPOS (tb m rfl)) g13)
  clear_value x12
  exact Lane.endWork_near (tr m rfl) (Lane.near_ite h12 (Lane.marchFails_near (tr m rfl) h12))

theorem Lane.comparatorDue_near {M : Nat} {b : Lane} {l0 : Lane} (m : sub 0x48000002840000000000000005e00000000000000000000000000000103b00000000000014000000000000000000000000000010000000000000000000000000002300000 M = true) (h0 : Lane.Near M b l0) :
    Lane.Near M b (Lane.comparatorDue l0) := by
  delta Lane.comparatorDue
  exact Lane.near_ite (by
    extract_lets -underBinder +onlyGivenNames x10
    clear_value x10
    extract_lets -underBinder +onlyGivenNames x11
    have h11 : Lane.Near M b x11 := Lane.allAxes_near h0 (fun _ _ g12 => Lane.putBit_near (inReg (at_GD_LKCTL (Fin.isLt _)) (tb m rfl)) g12)
    clear_value x11
    extract_lets -underBinder +onlyGivenNames x13
    have h13 : Lane.Near M b x13 := Lane.onReh_near (f := _) (RehState.Near.mk kp kp kp kp kp kp kp (ch m rfl) kp kp kp kp (ch m rfl) kp (ch m rfl) kp kp kp kp kp kp kp kp kp kp) h11
    clear_value x13
    exact Lane.near_ite h13 (Lane.queueRotation_near (tr m rfl) h13)) h0

theorem Lane.endComparators_near {M : Nat} {b : Lane} {l0 : Lane} {y1} {y2} (m : sub 0x5b8000840380000802cc8028bb5e2000018078000030c000000380751103b1000200022001400000000000005c000020000000010a000080000f1016020600100022b00004 M = true) (h0 : Lane.Near M b l0) :
    Lane.Near M b (Lane.endComparators l0 y1 y2) := by
  delta Lane.endComparators
  extract_lets -underBinder +onlyGivenNames x10 x11 x12
  clear_value x10 x11 x12
  extract_lets -underBinder +onlyGivenNames x13
  have h13 : Lane.Near M b x13 := Lane.put_near (inReg at_BI_ROTPOS (tb m rfl)) (Lane.onReh_near (f := _) (RehState.Near.mk kp kp kp kp kp kp kp kp kp (ch m rfl) kp kp kp kp kp kp kp kp kp kp kp kp kp kp kp) h0)
  clear_value x13
  exact Lane.endWork_near (tr m rfl) (Lane.failComparators_near (tr m rfl) h13)

theorem Lane.twinDue_near {M : Nat} {b : Lane} {l0 : Lane} (m : sub 0x48000000400000000000000005e00000000000000000000000000000103b00000000000014000000000000000000000000000000000000000000000000000000002300000 M = true) (h0 : Lane.Near M b l0) :
    Lane.Near M b (Lane.twinDue l0) := by
  delta Lane.twinDue
  extract_lets -underBinder +onlyGivenNames x10
  have h10 : Lane.Near M b x10 := Lane.near_ite h0 (Lane.onReh_near (f := _) (RehState.Near.mk kp kp kp kp kp kp kp kp kp kp kp (ch m rfl) kp kp kp kp kp kp kp kp kp kp kp kp kp) h0)
  clear_value x10
  exact Lane.near_ite (Lane.queueRotation_near (tr m rfl) h10) h10

theorem Lane.endTwin_near {M : Nat} {b : Lane} {l0 : Lane} {y1} {y2} (m : sub 0x5b8000000780000800000000000000000000000000000000000080000000000000000000000000000000000000000000000000010000000000000046000000100022300000 M = true) (h0 : Lane.Near M b l0) :
    Lane.Near M b (Lane.endTwin l0 y1 y2) := by
  delta Lane.endTwin
  extract_lets -underBinder +onlyGivenNames x10
  have h10 : Lane.Near M b x10 := Lane.onReh_near (f := _) (RehState.Near.mk kp kp kp kp kp kp kp kp kp kp (ch m rfl) kp kp kp kp kp kp kp kp kp kp kp kp kp kp) h0
  clear_value x10
  extract_lets -underBinder +onlyGivenNames x11
  have h11 : Lane.Near M b x11 := Lane.near_ite h10 (Lane.failTwins_near (tr m rfl) h10)
  clear_value x11
  exact Lane.endWork_near (tr m rfl) (Lane.onReh_near (f := _) (RehState.Near.mk kp kp kp kp kp kp kp kp kp kp kp (ch m rfl) kp kp kp kp kp kp kp kp kp kp kp kp kp) h11)

theorem Lane.marginScan_near {M : Nat} {b : Lane} {l0 : Lane} {y1} {y2} (m : sub 0x80000000000000000000000000000000008000000000000000000000000000000000000000000000000000000000000000000000000002004000600000000000000 M = true) (h0 : Lane.Near M b l0) :
    Lane.Near M b (Lane.marginScan l0 y1 y2) := by
  delta Lane.marginScan
  extract_lets -underBinder +onlyGivenNames x10
  have h10 : Lane.Near M b x10 := Lane.addTo_near (put_ite (inReg at_BI_LNK (tb m rfl)) (inReg at_BI_LNK (tb m rfl))) h0
  clear_value x10
  extract_lets -underBinder +onlyGivenNames x11
  clear_value x11
  extract_lets -underBinder +onlyGivenNames x12
  have h12 : Lane.Near M b x12 := Lane.onReh_near (f := _) (RehState.Near.mk kp kp kp kp kp kp kp kp kp kp kp kp kp kp kp kp kp kp kp kp (ch m rfl) kp kp kp kp) h10
  clear_value x12
  exact Lane.near_ite (Lane.loseLink_near (tr m rfl) (Lane.raise_near (inEvt ev_BI_EVT (tb m rfl)) rfl h12)) h12

theorem Lane.rerun_near {M : Nat} {b : Lane} {l0 : Lane} {y1} {y2} (m : sub 0x48000000000000000000000005e00000000000000000000000000000103b00000000000014000000000000000000000000000000000000000000000000000000002300000 M = true) (h0 : Lane.Near M b l0) :
    Lane.Near M b (Lane.rerun l0 y1 y2) := by
  delta Lane.rerun
  exact Lane.near_ite (Lane.queueTicket_near (tr m rfl) h0) h0

theorem Lane.tamper_near {M : Nat} {b : Lane} {l0 : Lane} {y1} (m : sub 0x8008000000000000000000000000000040026251080000012000000000000000000000000000000000000000a00000000000000000000000000000000 M = true) (h0 : Lane.Near M b l0) :
    Lane.Near M b (Lane.tamper l0 y1) := by
  delta Lane.tamper
  extract_lets -underBinder +onlyGivenNames x10
  clear_value x10
  extract_lets -underBinder +onlyGivenNames x11
  have h11 : Lane.Near M b x11 := Lane.onTrust_near (f := _) (TrustState.Near.mk (ch m rfl) kp kp kp kp kp kp kp kp kp kp kp kp kp kp kp kp kp kp kp) h0
  clear_value x11
  extract_lets -underBinder +onlyGivenNames x12
  have h12 : Lane.Near M b x12 := Lane.near_foldl (fun _ _ q13 g13 => Lane.drop_near (inReg (at_HS_SSEQ (List.mem_range.1 q13)) (tb m rfl)) g13) (Lane.drop_near (inReg at_KP_STAT (tb m rfl)) h11)
  clear_value x12
  extract_lets -underBinder +onlyGivenNames x14
  have h14 : Lane.Near M b x14 := Lane.onPower_near (f := _) (PowerState.Near.mk kp kp kp kp (ch m rfl) kp kp kp kp kp kp kp kp kp kp kp kp (ch m rfl) kp kp kp kp kp kp kp) (Lane.powerPhase_near (tr m rfl) h12)
  clear_value x14
  exact Lane.koSettle_near (tr m rfl) (Lane.allAxes_near h14 (fun _ _ g15 => Lane.settle_near (tr m rfl) g15))

theorem Lane.unlock_near {M : Nat} {b : Lane} {l0 : Lane} (m : sub 0x3800c0010848000001e00050720560008000000000000751103b00032000020014000000000000000000000000000000a00008000020004700600000000000004 M = true) (h0 : Lane.Near M b l0) :
    Lane.Near M b (Lane.unlock l0) := by
  delta Lane.unlock
  extract_lets -underBinder +onlyGivenNames x10
  have h10 : Lane.Near M b x10 := Lane.onTrust_near (f := _) (TrustState.Near.mk kp (ch m rfl) kp kp kp kp kp kp kp kp kp kp kp kp kp (ch m rfl) (ch m rfl) kp kp kp) h0
  clear_value x10
  extract_lets -underBinder +onlyGivenNames x11
  have h11 : Lane.Near M b x11 := Lane.drop_near (inReg at_KP_STAT (tb m rfl)) (Lane.raise_near (inReg at_KP_STAT (tb m rfl)).1 rfl (Lane.raise_near (inReg at_KP_STAT (tb m rfl)).1 rfl h10))
  clear_value x11
  exact Lane.laneOut_near (tr m rfl) (Lane.raise_near (inEvt ev_KP_EVT (tb m rfl)) rfl h11)

theorem Lane.onCart_near {M : Nat} {b : Lane} {l0 : Lane} {y1} {y2} (m : sub 0x400000000000000000000000000000000000000000000000000000000000000000000000000000000000000000000000000000000000000000000000000000 M = true) (h0 : Lane.Near M b l0) :
    Lane.Near M b (Lane.onCart l0 y1 y2) := by
  delta Lane.onCart
  exact Lane.onTrust_near (f := _) (TrustState.Near.mk kp kp kp kp kp kp kp kp kp kp kp kp kp kp kp kp kp kp kp (ch m rfl)) h0

theorem Lane.showDigest_near {M : Nat} {b : Lane} {l0 : Lane} {y1} {y2} (m : sub 0x8000000000000000000000000000000000000000000000000000000000000000000000000000 M = true) (h0 : Lane.Near M b l0) :
    Lane.Near M b (Lane.showDigest l0 y1 y2) := by
  delta Lane.showDigest
  exact Lane.near_foldl (fun _ _ q10 g10 => Lane.setWord_near (inReg (at_CT_ID (Fin.isLt _) (List.mem_range.1 q10)) (tb m rfl)) g10) h0

theorem Lane.acceptCart_near {M : Nat} {b : Lane} {l0 : Lane} {y1} {y2} {y3} (m : sub 0x8000000000000000000000000000000000000000800000300000000000000000000000000000000000000000000000000000000000000000000000000 M = true) (h0 : Lane.Near M b l0) :
    Lane.Near M b (Lane.acceptCart l0 y1 y2 y3) := by
  delta Lane.acceptCart
  extract_lets -underBinder +onlyGivenNames x10
  have h10 : Lane.Near M b x10 := Lane.raise_near (inEvt (ev_CT_EVT (Fin.isLt _)) (tb m rfl)) rfl (Lane.put_near (inReg (at_CT_STAT (Fin.isLt _)) (tb m rfl)) h0)
  clear_value x10
  exact Lane.note_near (tb m rfl) (Lane.onTrust_near (f := _) (TrustState.Near.mk (ch m rfl) kp kp kp kp kp kp kp kp kp kp kp kp kp kp kp kp kp kp kp) h10)

theorem Lane.put64_near {M n : Nat} {b l : Lane} {f g : Fld} (hf : Put f.addr M) (hg : Put g.addr M)
    (h : Lane.Near M b l) : Lane.Near M b (l.put64 f g n) := Lane.put_near hg (Lane.put_near hf h)

theorem Lane.dropAcceptance_near {M : Nat} {b : Lane} {l0 : Lane} {y1} {y2} (m : sub 0x8000000000000000000000000000000000000000000000000000000000000000000000000000000000000000000000000000000000000000000000000 M = true) (h0 : Lane.Near M b l0) :
    Lane.Near M b (Lane.dropAcceptance l0 y1 y2) := by
  delta Lane.dropAcceptance
  exact Lane.near_ite h0 (Lane.onTrust_near (f := _) (TrustState.Near.mk (ch m rfl) kp kp kp kp kp kp kp kp kp kp kp kp kp kp kp kp kp kp kp) h0)

theorem Lane.cartPass_near {M : Nat} {b : Lane} {l0 : Lane} {y1} {y2} (m : sub 0x400008000000005e00000000000000000000000000000103b06100000000014000000000000000000000000000000000000000000000000000000000000000 M = true) (h0 : Lane.Near M b l0) :
    Lane.Near M b (Lane.cartPass l0 y1 y2) := by
  delta Lane.cartPass
  extract_lets -underBinder +onlyGivenNames x10
  have h10 : Lane.Near M b x10 := Lane.put64_near (inReg (at_CT_RATED_LO (Fin.isLt _)) (tb m rfl)) (inReg (at_CT_RATED_HI (Fin.isLt _)) (tb m rfl)) (Lane.put_near (inReg (at_CT_STAT (Fin.isLt _)) (tb m rfl)) h0)
  clear_value x10
  extract_lets -underBinder +onlyGivenNames x11
  have h11 : Lane.Near M b x11 := Lane.onTrust_near (f := _) (TrustState.Near.mk (ch m rfl) kp kp kp kp kp kp kp kp kp kp kp kp kp kp kp kp kp kp kp) h10
  clear_value x11
  extract_lets -underBinder +onlyGivenNames x12
  have h12 : Lane.Near M b x12 := Lane.onCart_near (tr m rfl) h11
  clear_value x12
  split
  · exact Lane.answer_near (tr m rfl) (Lane.onCart_near (tr m rfl) h12)
  · exact h12

theorem Lane.cartFail_near {M : Nat} {b : Lane} {l0 : Lane} {y1} {y2} (m : sub 0x400008000000005e00000000000000000000000000000903b00300000000014000000000000000000000000000000000000000000000000000000000000000 M = true) (h0 : Lane.Near M b l0) :
    Lane.Near M b (Lane.cartFail l0 y1 y2) := by
  delta Lane.cartFail
  extract_lets -underBinder +onlyGivenNames x10
  have h10 : Lane.Near M b x10 := Lane.raise_near (inEvt (ev_CT_EVT (Fin.isLt _)) (tb m rfl)) rfl (Lane.put_near (inReg (at_CT_STAT (Fin.isLt _)) (tb m rfl)) h0)
  clear_value x10
  extract_lets -underBinder +onlyGivenNames x11
  have h11 : Lane.Near M b x11 := Lane.when_near h10 (fun _ g12 => Lane.put_near (inReg (at_CT_STAT (Fin.isLt _)) (tb m rfl)) g12)
  clear_value x11
  split
  · extract_lets -underBinder +onlyGivenNames x13
    have h13 : Lane.Near M b x13 := Lane.onCart_near (tr m rfl) h11
    clear_value x13
    exact Lane.near_ite (Lane.answer_near (tr m rfl) (Lane.acceptCart_near (tr m rfl) h13)) (Lane.answer_near (tr m rfl) h13)
  · exact h11

theorem Lane.cartCheck_near {M : Nat} {b : Lane} {l0 : Lane} {y1} {y2} (m : sub 0x380000002cc8028bb5e2000018078000030c000000380751103b1020200022001400000000000005c000020000000000a000080000f0006020600000000800004 M = true) (h0 : Lane.Near M b l0) :
    Lane.Near M b (Lane.cartCheck l0 y1 y2) := by
  delta Lane.cartCheck
  extract_lets -underBinder +onlyGivenNames x10
  clear_value x10
  split
  · exact h0
  · exact Lane.near_ite (Lane.setOut_near (tr m rfl) (Lane.raise_near (inEvt (ev_CT_EVT (Fin.isLt _)) (tb m rfl)) rfl h0)) (Lane.near_ite (Lane.setOut_near (tr m rfl) h0) h0)

theorem Lane.showLife_near {M : Nat} {b : Lane} {l0 : Lane} {y1} (m : sub 0x1800000000000000000000000000000000000000000000000000000000000000000000000000 M = true) (h0 : Lane.Near M b l0) :
    Lane.Near M b (Lane.showLife l0 y1) := by
  delta Lane.showLife
  exact Lane.put64_near (inReg (at_CT_LIFE_LO (Fin.isLt _)) (tb m rfl)) (inReg (at_CT_LIFE_HI (Fin.isLt _)) (tb m rfl)) h0

theorem Lane.startLife_near {M : Nat} {b : Lane} {l0 : Lane} {y1} {y2} (m : sub 0x400000000000000000000000000000000000000000000800001b00000000000000000000000000000000000000000000000000000000000000000000000000 M = true) (h0 : Lane.Near M b l0) :
    Lane.Near M b (Lane.startLife l0 y1 y2) := by
  delta Lane.startLife
  extract_lets -underBinder +onlyGivenNames x10
  have h10 : Lane.Near M b x10 := Lane.showLife_near (tr m rfl) (Lane.onCart_near (tr m rfl) h0)
  clear_value x10
  extract_lets -underBinder +onlyGivenNames x11 x12
  clear_value x11 x12
  extract_lets -underBinder +onlyGivenNames x13
  have h13 : Lane.Near M b x13 := Lane.when_near h10 (fun _ g14 => Lane.note_near (tb m rfl) (Lane.raise_near (inEvt (ev_CT_EVT (Fin.isLt _)) (tb m rfl)) rfl (Lane.raise_near (inReg (at_CT_STAT (Fin.isLt _)) (tb m rfl)).1 rfl g14)))
  clear_value x13
  exact Lane.onCart_near (tr m rfl) h13

theorem Lane.setLife_near {M : Nat} {b : Lane} {l0 : Lane} {y1} {y2} (m : sub 0x400000000000000000000000000000000000000000000000001a00000000000000000000000000000000000000000000000000000000000000000000000000 M = true) (h0 : Lane.Near M b l0) :
    Lane.Near M b (Lane.setLife l0 y1 y2) := by
  delta Lane.setLife
  extract_lets -underBinder +onlyGivenNames x10 x11 x12
  clear_value x10 x11 x12
  extract_lets -underBinder +onlyGivenNames x13
  have h13 : Lane.Near M b x13 := Lane.showLife_near (tr m rfl) (Lane.onCart_near (tr m rfl) h0)
  clear_value x13
  exact Lane.when_near h13 (fun _ g14 => Lane.raise_near (inEvt (ev_CT_EVT (Fin.isLt _)) (tb m rfl)) rfl g14)

theorem Lane.ackLife_near {M : Nat} {b : Lane} {l0 : Lane} {y1} (m : sub 0x400000000000000000000000000000000000000000000000000100000000000000000000000000002000000000000000000000400000000000000000200000 M = true) (h0 : Lane.Near M b l0) :
    Lane.Near M b (Lane.ackLife l0 y1) := by
  delta Lane.ackLife
  extract_lets -underBinder +onlyGivenNames x10
  clear_value x10
  extract_lets -underBinder +onlyGivenNames x11
  have h11 : Lane.Near M b x11 := Lane.onCart_near (tr m rfl) (Lane.raise_near (inReg (at_CT_STAT (Fin.isLt _)) (tb m rfl)).1 rfl h0)
  clear_value x11
  exact Lane.setLimit_near (tr m rfl) (Lane.scaleField_near (inReg (at_LE_WMAX (Fin.isLt _)) (tb m rfl)) (Lane.scaleField_near (inReg (at_DC_TQLIM (Fin.isLt _)) (tb m rfl)) h11))

theorem Lane.playbillAxis_near {M : Nat} {b : Lane} {l0 : Lane} {y1} {y2} (m : sub 0x400000000000000000000000000000000000000000001000000200000000000000000000000000000000000000000000000000000000000000000000000000 M = true) (h0 : Lane.Near M b l0) :
    Lane.Near M b (Lane.playbillAxis l0 y1 y2) := by
  delta Lane.playbillAxis
  exact Lane.near_ite h0 (Lane.near_ite (by
    extract_lets -underBinder +onlyGivenNames x10
    clear_value x10
    exact Lane.when_near (Lane.onCart_near (tr m rfl) h0) (fun _ g11 => Lane.raise_near (inEvt (ev_CT_EVT (Fin.isLt _)) (tb m rfl)) rfl g11)) (by
    extract_lets -underBinder +onlyGivenNames x12 x13
    clear_value x12 x13
    exact Lane.send_near (tb m rfl) (Lane.onCart_near (tr m rfl) h0)))

theorem Lane.ownPair_near {M : Nat} {b : Lane} {l0 : Lane} {y1} (m : sub 0x40000000000000000000000000000000000000000000000000000000000000000000000 M = true) (h0 : Lane.Near M b l0) :
    Lane.Near M b (Lane.ownPair l0 y1) := by
  delta Lane.ownPair
  extract_lets -underBinder +onlyGivenNames x10
  clear_value x10
  exact Lane.putBit_near (inReg at_SF_OWN (tb m rfl)) h0

theorem Lane.pairChange_near {M : Nat} {b : Lane} {l0 : Lane} {y1} {y2} {y3} (m : sub 0x300000000000000000000000000000000000000000000060000000000000000000000000000000000000000000000000000000000000000000000 M = true) (h0 : Lane.Near M b l0) :
    Lane.Near M b (Lane.pairChange l0 y1 y2 y3) := by
  delta Lane.pairChange
  extract_lets -underBinder +onlyGivenNames x10
  have h10 : Lane.Near M b x10 := Lane.putBit_near (inReg at_SF_RAW (tb m rfl)) (Lane.putBit_near (inReg at_SF_RAW (tb m rfl)) h0)
  clear_value x10
  extract_lets -underBinder +onlyGivenNames x11
  have h11 : Lane.Near M b x11 := Lane.onSafety_near (f := _) (SafetyState.Near.mk (ch m rfl) (ch m rfl) kp kp kp kp kp kp kp) h10
  clear_value x11
  exact Lane.ownPair_near (tr m rfl) h11

theorem Lane.resetFall_near {M : Nat} {b : Lane} {l0 : Lane} {y1} {y2} (m : sub 0x80000000000000000000000000000000000000000000c0b0000000000000000000000000000000000000000000000000000000000000000000000 M = true) (h0 : Lane.Near M b l0) :
    Lane.Near M b (Lane.resetFall l0 y1 y2) := by
  delta Lane.resetFall
  exact Lane.near_ite h0 (by
    extract_lets -underBinder +onlyGivenNames x10
    have h10 : Lane.Near M b x10 := Lane.put_near (inReg at_SF_RSTHI (tb m rfl)) (Lane.drop_near (inReg at_SF_RAW (tb m rfl)) h0)
    clear_value x10
    exact Lane.near_ite (Lane.drop_near (inReg at_SF_STAT (tb m rfl)) h10) (Lane.near_ite h10 (Lane.near_ite (Lane.bump_near (inReg at_SF_RST (tb m rfl)) (Lane.raise_near (inEvt ev_SF_EVT (tb m rfl)) rfl h10)) (Lane.onSafety_near (f := _) (SafetyState.Near.mk kp kp kp (ch m rfl) kp kp kp kp kp) h10))))

theorem Lane.singleResets_near {M : Nat} {b : Lane} {l0 : Lane} (m : sub 0x1000000000000000000000000000000000000000000000080000000000000000000000000000000000000000000000000000000000000000000000 M = true) (h0 : Lane.Near M b l0) :
    Lane.Near M b (Lane.singleResets l0) := by
  delta Lane.singleResets
  extract_lets -underBinder +onlyGivenNames x10
  clear_value x10
  exact Lane.near_ite (Lane.onSafety_near (f := _) (SafetyState.Near.mk kp kp kp kp (ch m rfl) kp kp kp kp) (Lane.raise_near (inEvt ev_SF_EVT (tb m rfl)) rfl h0)) h0

theorem Lane.outputFault_near {M : Nat} {b : Lane} {l0 : Lane} {y1} {y2 : Fld} {y3 : Fld} (m : sub 0x380000002cc8028bb5e2000018078000030c000000380751103b1000200022001400000000000005c000020000000000a000080000f0006020600000000800004 M = true) (h0 : Lane.Near M b l0) (f2 : Put y2.addr M) (f3 : Evt y3.addr M ∧ y3.width = 1) :
    Lane.Near M b (Lane.outputFault l0 y1 y2 y3) := by
  delta Lane.outputFault
  extract_lets -underBinder +onlyGivenNames x10
  have h10 : Lane.Near M b x10 := Lane.koSettle_near (tr m rfl) (Lane.raise_near f3.1 f3.2 (Lane.putBit_near f2 h0))
  clear_value x10
  exact Lane.near_ite (Lane.allAxes_near h10 (fun _ _ g11 => Lane.setOut_near (tr m rfl) g11)) h10

theorem Lane.judgeContactor_near {M : Nat} {b : Lane} {l0 : Lane} {y1} {y2} {y3} (m : sub 0x380000002cc8028bb5e2000018078000030c000000380751103b100020a022001400000000000005c000020000000000a000080000f0006020600000000800004 M = true) (h0 : Lane.Near M b l0) :
    Lane.Near M b (Lane.judgeContactor l0 y1 y2 y3) := by
  delta Lane.judgeContactor
  extract_lets -underBinder +onlyGivenNames x10
  have h10 : Lane.Near M b x10 := Lane.showKf_near (tr m rfl) (Lane.putBit_near (inReg at_SF_RAW (tb m rfl)) h0)
  clear_value x10
  extract_lets -underBinder +onlyGivenNames x11
  clear_value x11
  exact Lane.near_ite h10 (Lane.near_ite (Lane.outputFault_near (tr m rfl) h10 (inReg at_SF_KOSTAT (tb m rfl)) ⟨(inEvt ev_SF_EVT (tb m rfl)), rfl⟩) (Lane.raise_near (inEvt ev_SF_EVT (tb m rfl)) rfl (Lane.putBit_near (inReg at_SF_KOSTAT (tb m rfl)) h10)))

end Sys2Proof.Machine
end

