-- ==== Sys2Proof/Laws/NearSeats.lean ====
section
/-!
SUPPORT. What the functions of the lane may change: register accesses, the Spotlight, opcodes and seats.
-/

namespace Sys2Proof.Machine

-- one elaboration thread: thousands of small proofs would otherwise start one each
set_option Elab.async false

theorem Lane.showSheet_near {M : Nat} {b : Lane} {l0 : Lane} (m : sub 0x4000000000000000000000000018000000000000000000000000000000000000000000000000000000 M = true) (h0 : Lane.Near M b l0) :
    Lane.Near M b (Lane.showSheet l0) := by
  delta Lane.showSheet
  split
  · exact Lane.setWord_near (inReg at_VR_SHDAT1 (tb m rfl)) (Lane.setWord_near (inReg at_VR_SHDAT0 (tb m rfl)) h0)
  · extract_lets -underBinder +onlyGivenNames x10
    have h10 : Lane.Near M b x10 := Lane.nextChoice_near (tb m rfl) (Lane.setWord_near (inReg at_VR_SHDAT0 (tb m rfl)) h0)
    clear_value x10
    exact Lane.nextChoice_near (tb m rfl) (Lane.setWord_near (inReg at_VR_SHDAT1 (tb m rfl)) h10)

theorem Lane.showLease_near {M : Nat} {b : Lane} {l0 : Lane} (m : sub 0x20000000000000000 M = true) (h0 : Lane.Near M b l0) :
    Lane.Near M b (Lane.showLease l0) := by
  delta Lane.showLease
  exact Lane.put_near (inReg at_WG_LEAD (tb m rfl)) h0

theorem Lane.speedNow_near {M : Nat} {b : Lane} {l0 : Lane} {y1} (m : sub 0x400000000000000000000000000000000000000 M = true) (h0 : Lane.Near M b l0) :
    Lane.Near M b (Lane.speedNow l0 y1) := by
  delta Lane.speedNow
  exact Lane.putInt_near (inReg (at_FB_SPEED (Fin.isLt _)) (tb m rfl)) h0

theorem Lane.onRead_near {M : Nat} {b : Lane} {l0 : Lane} {y1} (m : sub 0x100000000000000000080000000000000000000018000000000040002000000053e000000003c018000000000000000402000000000000000000420001000000000000 M = true) (h0 : Lane.Near M b l0) :
    Lane.Near M b (Lane.onRead l0 y1) := by
  delta Lane.onRead
  exact Lane.near_ite (Lane.showRecent_near (tr m rfl) h0) (Lane.near_ite (Lane.showLease_near (tr m rfl) h0) (Lane.near_ite (Lane.showResyncs_near (tr m rfl) h0) (Lane.near_ite (Lane.latchTime_near (tr m rfl) h0) (Lane.near_ite (Lane.chopperCount_near (tr m rfl) h0) (Lane.near_ite (Lane.showSheet_near (tr m rfl) h0) (by
    split
    · exact Lane.speedNow_near (tr m rfl) h0
    · split
      · exact Lane.claimFor_near (tr m rfl) h0
      · exact h0))))))

theorem readWords_near {M n a : Nat} {b l : Lane} (m : sub 0x100000000000000000080000000000000000000018000000000040002000000053e000000003c018000000000000000402000000000000000000420001000000000000 M = true) (h : Lane.Near M b l) :
    Lane.Near M b (readWords n a l).1 := by
  induction n generalizing a l with
  | zero => exact h
  | succ n ih => exact ih (Lane.onRead_near (tr m rfl) h)

theorem Lane.retrain_near {M : Nat} {b : Lane} {l0 : Lane} (m : sub 0x8000000000000001000000000000000000000000000000000000000000000000000000000000000000200000000000000 M = true) (h0 : Lane.Near M b l0) :
    Lane.Near M b (Lane.retrain l0) := by
  delta Lane.retrain
  extract_lets -underBinder +onlyGivenNames x10
  have h10 : ∀ u0 u1, Lane.Near M b u0 → Lane.Near M b (x10 u0 u1) := by
    intro _ _ g11
    unfold x10
    exact Lane.near_ite (Lane.sendHello_near (tr m rfl) (Lane.onLinkEnd_near (tr m rfl) (Lane.setLink_near (tr m rfl) g11))) g11
  clear_value x10
  exact h10 _ _ (h10 _ _ h0)

theorem Lane.askDrill_near {M : Nat} {b : Lane} {l0 : Lane} (m : sub 0x10000000000000000000000000000000000000000000000000000000000000000000000000000000000000000000000000000000 M = true) (h0 : Lane.Near M b l0) :
    Lane.Near M b (Lane.askDrill l0) := by
  delta Lane.askDrill
  exact Lane.onWing_near (f := _) (WingState.Near.mk kp kp kp kp kp kp kp kp kp kp kp kp kp kp kp kp kp kp kp kp kp kp kp kp kp (ch m rfl) kp kp kp kp kp kp kp kp kp kp kp kp kp kp kp kp kp kp kp kp kp kp kp kp kp kp kp) h0

theorem Lane.askExercise_near {M : Nat} {b : Lane} {l0 : Lane} (m : sub 0x200000000000000000000000000000000000000000000000000000000000000000000000000000000000000000000000000000000000000000000000000000000000000 M = true) (h0 : Lane.Near M b l0) :
    Lane.Near M b (Lane.askExercise l0) := by
  delta Lane.askExercise
  exact Lane.onTrio_near (f := _) (TrioState.Near.mk kp kp kp kp kp kp kp kp kp (ch m rfl) kp kp kp kp kp) h0

theorem Lane.writeControl_near {M : Nat} {b : Lane} {l0 : Lane} {y1} {y2} (m : sub 0x380000002cc8028bb5e2000018078000030c0000003807515ffffffffffffffffffffffffffffffffffffffffffffffffffffffffffffffffffffffffffffffff M = true) (h0 : Lane.Near M b l0) :
    Lane.Near M b (Lane.writeControl l0 y1 y2) := by
  delta Lane.writeControl
  extract_lets -underBinder +onlyGivenNames x10
  clear_value x10
  extract_lets -underBinder +onlyGivenNames x11
  have h11 : Lane.Near M b x11 := Lane.putFlag_near (inReg (at_DC_CTRL (Fin.isLt _)) (tb m rfl)) (Lane.writeWord_near (tr m rfl) h0)
  clear_value x11
  exact Lane.near_ite (Lane.judgeSets_near (tr m rfl) (Lane.enableAxis_near (tr m rfl) h11)) (Lane.near_ite (Lane.disableAxis_near (tr m rfl) h11) h11)

theorem Lane.writeFbControl_near {M : Nat} {b : Lane} {l0 : Lane} {y1} {y2} (m : sub 0x380000002cc8028bb5e2000018078000030c0000003817515ffffffffffffffffffffffffffffffffffffffffffffffffffffffffffffffffffffffffffffffff M = true) (h0 : Lane.Near M b l0) :
    Lane.Near M b (Lane.writeFbControl l0 y1 y2) := by
  delta Lane.writeFbControl
  extract_lets -underBinder +onlyGivenNames x10
  have h10 : Lane.Near M b x10 := Lane.writeWord_near (tr m rfl) h0
  clear_value x10
  extract_lets -underBinder +onlyGivenNames x11
  have h11 : Lane.Near M b x11 := Lane.when_near h10 (fun _ g12 => Lane.onFb_near (tr m rfl) (Lane.drop_near (inReg (at_FB_STAT (Fin.isLt _)) (tb m rfl)) g12))
  clear_value x11
  exact Lane.when_near h11 (fun _ g13 => Lane.negotiate_near (tr m rfl) g13)

theorem Lane.writeBridge_near {M : Nat} {b : Lane} {l0 : Lane} {y1} {y2} (m : sub 0x8000000000000000000000000000000003803505ffffffffffffffffffffffffffffffffffffffffffffffffffffffffffffffffffffffffffffffff M = true) (h0 : Lane.Near M b l0) :
    Lane.Near M b (Lane.writeBridge l0 y1 y2) := by
  delta Lane.writeBridge
  extract_lets -underBinder +onlyGivenNames x10
  clear_value x10
  extract_lets -underBinder +onlyGivenNames x11
  have h11 : Lane.Near M b x11 := Lane.writeWord_near (tr m rfl) h0
  clear_value x11
  exact Lane.near_ite (Lane.near_ite h11 (Lane.release_near (tr m rfl) h11)) (by
    extract_lets -underBinder +onlyGivenNames x12
    have h12 : Lane.Near M b x12 := Lane.when_near h11 (fun _ g13 => Lane.startPrecharge_near (tr m rfl) g13)
    clear_value x12
    exact Lane.ginApply_near (tr m rfl) (Lane.ginBoth_near (tr m rfl) h12))

theorem Lane.writeBuffer_near {M : Nat} {b : Lane} {l0 : Lane} {y1} {y2} {y3} {y4} (m : sub 0x5ffffffffffffffffffffffffffffffffffffffffffffffffffffffffffffffffffffffffffffffff M = true) (h0 : Lane.Near M b l0) :
    Lane.Near M b (Lane.writeBuffer l0 y1 y2 y3 y4) := by
  delta Lane.writeBuffer
  exact Lane.near_ite h0 (Lane.near_ite (by
    extract_lets -underBinder +onlyGivenNames x10
    have h10 : Lane.Near M b x10 := Lane.writeWord_near (tr m rfl) h0
    clear_value x10
    exact Lane.when_near h10 (fun _ g11 => Lane.ackBuffer_near (tr m rfl) g11)) (Lane.writeWord_near (tr m rfl) h0))

theorem Lane.writeCall_near {M : Nat} {b : Lane} {l0 : Lane} {y1} {y2} (m : sub 0x100000000000000000480000000000000000000000000000000005ffffffffffffffffffffffffffffffffffffffffffffffffffffffffffffffffffffffffffffffff M = true) (h0 : Lane.Near M b l0) :
    Lane.Near M b (Lane.writeCall l0 y1 y2) := by
  delta Lane.writeCall
  split
  · exact Lane.keepCallWrite_near (tr m rfl) (Lane.completeFor_near (tr m rfl) h0)
  · extract_lets -underBinder +onlyGivenNames x10
    have h10 : Lane.Near M b x10 := Lane.near_ite h0 (Lane.near_ite (Lane.writeWord_near (tr m rfl) h0) (Lane.near_ite (Lane.writeWord_near (tr m rfl) h0) (Lane.writeWord_near (tr m rfl) h0)))
    clear_value x10
    exact Lane.presentAll_near (tr m rfl) (Lane.keepCallWrite_near (tr m rfl) h10)

theorem Lane.writeCoreLimits_near {M : Nat} {b : Lane} {l0 : Lane} {y1} (m : sub 0x43800005ffffffffffffffffffffffffffffffffffffffffffffffffffffffffffffffffffffffffffffffff M = true) (h0 : Lane.Near M b l0) :
    Lane.Near M b (Lane.writeCoreLimits l0 y1) := by
  delta Lane.writeCoreLimits
  extract_lets -underBinder +onlyGivenNames x10
  clear_value x10
  extract_lets -underBinder +onlyGivenNames x11
  have h11 : Lane.Near M b x11 := Lane.writeWord_near (tr m rfl) h0
  clear_value x11
  exact Lane.markMax_near (tr m rfl) (Lane.moveCore_near (tr m rfl) h11)

theorem Lane.writeRingCommand_near {M : Nat} {b : Lane} {l0 : Lane} {y1} (m : sub 0x51db0000000000000000000000000000000000000000000000000000000000000000000000000000000000000000000000800000000000000000000000000000000000000000000000000 M = true) (h0 : Lane.Near M b l0) :
    Lane.Near M b (Lane.writeRingCommand l0 y1) := by
  delta Lane.writeRingCommand
  extract_lets -underBinder +onlyGivenNames x10
  have h10 : Lane.Near M b x10 := Lane.when_near h0 (fun _ g11 => Lane.announce_near (tr m rfl) g11)
  clear_value x10
  exact Lane.when_near h10 (fun _ g12 => Lane.reintegrate_near (tr m rfl) g12)

theorem Lane.writeSingle_near {M : Nat} {b : Lane} {l0 : Lane} {y1} {y2} (m : sub 0x1851db0000400048200000000000000008000005e000000100000080000000043800015ffffffffffffffffffffffffffffffffffffffffffffffffffffffffffffffffffffffffffffffff M = true) (h0 : Lane.Near M b l0) :
    Lane.Near M b (Lane.writeSingle l0 y1 y2) := by
  delta Lane.writeSingle
  exact Lane.near_ite (Lane.writeIncr_near (tr m rfl) h0) (Lane.near_ite (Lane.writeStep_near (tr m rfl) h0) (Lane.near_ite (Lane.writeCoreLimits_near (tr m rfl) h0) (Lane.near_ite (Lane.when_near h0 (fun _ g10 => Lane.askExercise_near (tr m rfl) g10)) (Lane.near_ite (Lane.when_near (Lane.when_near h0 (fun _ g11 => Lane.retrain_near (tr m rfl) g11)) (fun _ g12 => Lane.askDrill_near (tr m rfl) g12)) (Lane.near_ite (Lane.when_near h0 (fun _ g13 => Lane.rerun_near (tr m rfl) g13)) (Lane.near_ite (Lane.writeRingCommand_near (tr m rfl) h0) (Lane.near_ite (Lane.ringSwitched_near (tr m rfl) (Lane.writeWord_near (tr m rfl) h0)) (Lane.near_ite (Lane.koSettle_near (tr m rfl) (Lane.writeWord_near (tr m rfl) h0)) (Lane.writeWord_near (tr m rfl) h0)))))))))

theorem Lane.writeAxis_near {M : Nat} {b : Lane} {l0 : Lane} {y1} {y2} (m : sub 0x1851db0000400048200000380000002cc8028bb5e2000019078000830c0000043817515ffffffffffffffffffffffffffffffffffffffffffffffffffffffffffffffffffffffffffffffff M = true) (h0 : Lane.Near M b l0) :
    Lane.Near M b (Lane.writeAxis l0 y1 y2) := by
  delta Lane.writeAxis
  split
  · exact Lane.writeControl_near (tr m rfl) h0
  · exact Lane.near_ite (Lane.clearFaults_near (tr m rfl) h0) h0
  · exact Lane.writeFbControl_near (tr m rfl) h0
  · exact Lane.writeBridge_near (tr m rfl) h0
  · exact Lane.writeSingle_near (tr m rfl) h0

theorem Lane.applyWrite_near {M : Nat} {b : Lane} {l0 : Lane} {y1} {y2} (m : sub 0x4001851db0000400048210000380000002dc8068bb5e2000019078000830c0000043817515ffffffffffffffffffffffffffffffffffffffffffffffffffffffffffffffffffffffffffffffff M = true) (h0 : Lane.Near M b l0) :
    Lane.Near M b (Lane.applyWrite l0 y1 y2) := by
  delta Lane.applyWrite
  extract_lets -underBinder +onlyGivenNames x10
  have h10 : Lane.Near M b x10 := Lane.latchFaults_near (tr m rfl) h0
  clear_value x10
  split
  · exact Lane.writeBuffer_near (tr m rfl) h10
  · exact Lane.when_near h10 (fun _ g11 => Lane.canRecover_near (tr m rfl) g11)
  · exact Lane.latchWindow_near (tr m rfl) h10
  · exact Lane.when_near h10 (fun _ g12 => Lane.commitWindow_near (tr m rfl) g12)
  · exact Lane.near_ite (Lane.writeCall_near (tr m rfl) h10) (Lane.writeAxis_near (tr m rfl) h10)

theorem Lane.writeRegs_near {M : Nat} {b l : Lane} {y1} {y2} {y3} (m : sub 0x4001851db0000400048210000380000002dc8068bb5e2000019078000830c0000043817515ffffffffffffffffffffffffffffffffffffffffffffffffffffffffffffffffffffffffffffffff M = true) (h : Lane.Near M b l) :
    Lane.Near M b (Lane.writeRegs l y1 y2 y3).1 := by
  unfold Lane.writeRegs
  split
  · exact h
  · dsimp only
    split
    · exact h
    · exact Lane.near_foldl (fun _ _ _ q => Lane.applyWrite_near (tr m rfl) q) h

theorem Lane.setEndCycle_near {M : Nat} {b : Lane} {l0 : Lane} {y1} (m : sub 0x60000000000000000000000000000000000000000000000000000000000000000000000000000 M = true) (h0 : Lane.Near M b l0) :
    Lane.Near M b (Lane.setEndCycle l0 y1) := by
  delta Lane.setEndCycle
  exact Lane.put64_near (inReg at_HS_SPOTEND_LO (tb m rfl)) (inReg at_HS_SPOTEND_HI (tb m rfl)) h0

theorem Lane.startLease_near {M : Nat} {b : Lane} {l0 : Lane} {y1} (m : sub 0xc0020220000000000000000000000000000000000170000000000000000000000000000000000000000000000000000000000000000000000000000 M = true) (h0 : Lane.Near M b l0) :
    Lane.Near M b (Lane.startLease l0 y1) := by
  delta Lane.startLease
  extract_lets -underBinder +onlyGivenNames x10
  have h10 : Lane.Near M b x10 := Lane.put_near (inReg at_HS_SPOT (tb m rfl)) (Lane.put_near (inReg at_HS_SPOT (tb m rfl)) (Lane.raise_near (inReg at_HS_SPOT (tb m rfl)).1 rfl h0))
  clear_value x10
  extract_lets -underBinder +onlyGivenNames x11
  have h11 : Lane.Near M b x11 := Lane.drop_near (inReg at_HS_SPOT (tb m rfl)) (Lane.drop_near (inReg at_HS_SPOT (tb m rfl)) (Lane.drop_near (inReg at_HS_SPOT (tb m rfl)) (Lane.drop_near (inReg at_HS_SPOT (tb m rfl)) h10)))
  clear_value x11
  extract_lets -underBinder +onlyGivenNames x12
  have h12 : Lane.Near M b x12 := Lane.raise_near (inEvt ev_HS_EVT (tb m rfl)) rfl (Lane.setEndCycle_near (tr m rfl) (Lane.drop_near (inReg at_HS_SPOT (tb m rfl)) h11))
  clear_value x12
  extract_lets -underBinder +onlyGivenNames x13
  have h13 : Lane.Near M b x13 := Lane.onSeats_near (f := _) (SeatState.Near.mk kp kp kp kp kp kp kp kp kp (ch m rfl) kp kp kp (ch m rfl) kp kp kp kp kp) h12
  clear_value x13
  extract_lets -underBinder +onlyGivenNames x14
  have h14 : Lane.Near M b x14 := Lane.when_near h13 (fun _ g15 => Lane.onMode_near (f := _) (ModeState.Near.mk kp (ch m rfl) (ch m rfl) kp kp kp kp kp kp kp) g15)
  clear_value x14
  exact Lane.event_near (tr m rfl) h14

theorem Lane.startDefault_near {M : Nat} {b : Lane} {l0 : Lane} {y1} (m : sub 0xc0000000000000000000000000000000000000000010000000000000000000000000000000000000000000000000000000000000000000000000000 M = true) (h0 : Lane.Near M b l0) :
    Lane.Near M b (Lane.startDefault l0 y1) := by
  delta Lane.startDefault
  extract_lets -underBinder +onlyGivenNames x10
  have h10 : Lane.Near M b x10 := Lane.drop_near (inReg at_HS_SPOT (tb m rfl)) (Lane.raise_near (inReg at_HS_SPOT (tb m rfl)).1 rfl h0)
  clear_value x10
  exact Lane.near_ite (by
    split
    · exact h10
    · exact Lane.onMode_near (f := _) (ModeState.Near.mk kp (ch m rfl) (ch m rfl) kp kp kp kp kp kp kp) h10) h10

theorem Lane.leaseAction_near {M : Nat} {b : Lane} {l0 : Lane} {y1} (m : sub 0xc0000000000000000000000000000000000750000010000000000000000000000000000000020000000000a00008000030000000000000000000000 M = true) (h0 : Lane.Near M b l0) :
    Lane.Near M b (Lane.leaseAction l0 y1) := by
  delta Lane.leaseAction
  exact Lane.near_ite (Lane.allAxes_near h0 (fun _ _ g10 => Lane.disableAxis_near (tr m rfl) g10)) (Lane.near_ite h0 (by
    split
    · exact Lane.raise_near (inReg at_HS_SPOT (tb m rfl)).1 rfl h0
    · exact Lane.startDefault_near (tr m rfl) h0
    · exact Lane.startDefault_near (tr m rfl) h0))

theorem Lane.endLease_near {M : Nat} {b : Lane} {l0 : Lane} {y1} {y2 : Fld} (m : sub 0xc0020700000000000000000000000000000750000010000000000000000000000000000000020000000000a00008000030000000000000000000000 M = true) (h0 : Lane.Near M b l0) (f2 : Evt y2.addr M ∧ y2.width = 1) :
    Lane.Near M b (Lane.endLease l0 y1 y2) := by
  delta Lane.endLease
  extract_lets -underBinder +onlyGivenNames x10
  have h10 : Lane.Near M b x10 := Lane.raise_near f2.1 f2.2 (Lane.put_near (inReg at_HS_SPOT (tb m rfl)) (Lane.drop_near (inReg at_HS_SPOT (tb m rfl)) (Lane.drop_near (inReg at_HS_SPOT (tb m rfl)) (Lane.drop_near (inReg at_HS_SPOT (tb m rfl)) h0))))
  clear_value x10
  extract_lets -underBinder +onlyGivenNames x11
  have h11 : Lane.Near M b x11 := Lane.onSeats_near (f := _) (SeatState.Near.mk kp kp kp kp kp kp kp kp kp kp kp kp (ch m rfl) (ch m rfl) (ch m rfl) kp kp kp kp) h10
  clear_value x11
  exact Lane.leaseAction_near (tr m rfl) (Lane.event_near (tr m rfl) h11)

theorem Lane.expireLease_near {M : Nat} {b : Lane} {l0 : Lane} (m : sub 0xc0020700000000000000000000000000000750000110000000000000000000000000000000020000000000a00008000030000000000000000000000 M = true) (h0 : Lane.Near M b l0) :
    Lane.Near M b (Lane.expireLease l0) := by
  delta Lane.expireLease
  exact Lane.near_ite (Lane.endLease_near (tr m rfl) h0 ⟨(inEvt ev_HS_EVT (tb m rfl)), rfl⟩) h0

theorem Lane.cancelReservation_near {M : Nat} {b : Lane} {l0 : Lane} (m : sub 0x65e00000000000000000000000000000103b10000000000014000000000000000000000000000000000000000000000000000000000000000 M = true) (h0 : Lane.Near M b l0) :
    Lane.Near M b (Lane.cancelReservation l0) := by
  delta Lane.cancelReservation
  extract_lets -underBinder +onlyGivenNames x10
  have h10 : Lane.Near M b x10 := Lane.drop_near (inReg at_HS_SPOT (tb m rfl)) (Lane.drop_near (inReg at_HS_SPOT (tb m rfl)) h0)
  clear_value x10
  extract_lets -underBinder +onlyGivenNames x11
  have h11 : Lane.Near M b x11 := Lane.near_foldl (fun _ _ q12 g12 => Lane.answer_near (tr m rfl) g12) h10
  clear_value x11
  exact Lane.onSeats_near (f := _) (SeatState.Near.mk kp kp kp kp kp kp kp kp kp (ch m rfl) (ch m rfl) kp kp kp kp kp kp kp kp) h11

theorem Lane.stopNow_near {M : Nat} {b : Lane} {l0 : Lane} (m : sub 0xc0020f65e00000000000000000000000000750103b10000000000014000000000000000000020000000000a00008000030000000000000000000000 M = true) (h0 : Lane.Near M b l0) :
    Lane.Near M b (Lane.stopNow l0) := by
  delta Lane.stopNow
  extract_lets -underBinder +onlyGivenNames x10
  have h10 : Lane.Near M b x10 := Lane.cancelReservation_near (tr m rfl) (Lane.onSeats_near (f := _) (SeatState.Near.mk kp kp kp kp kp kp kp kp kp kp kp kp (ch m rfl) kp kp (ch m rfl) kp kp kp) h0)
  clear_value x10
  exact Lane.near_ite (Lane.endLease_near (tr m rfl) h10 ⟨(inEvt ev_HS_EVT (tb m rfl)), rfl⟩) (Lane.leaseAction_near (tr m rfl) (Lane.raise_near (inEvt ev_HS_EVT (tb m rfl)) rfl h10))

theorem Lane.spotCycle_near {M : Nat} {b : Lane} {l0 : Lane} (m : sub 0xc0020fe5e00000000000000000000000000750103b70000000000014000000000000000000020000000000a00008000030000000000000000000000 M = true) (h0 : Lane.Near M b l0) :
    Lane.Near M b (Lane.spotCycle l0) := by
  delta Lane.spotCycle
  extract_lets -underBinder +onlyGivenNames x10
  have h10 : Lane.Near M b x10 := Lane.when_near h0 (fun _ g11 => Lane.onSeats_near (f := _) (SeatState.Near.mk kp kp kp kp kp kp kp kp kp kp kp kp kp (ch m rfl) kp kp kp kp kp) (Lane.put_near (inReg at_HS_SPOT (tb m rfl)) g11))
  clear_value x10
  extract_lets -underBinder +onlyGivenNames x12
  have h12 : Lane.Near M b x12 := by
    unfold x12
    split
    · exact Lane.endLease_near (tr m rfl) h10 ⟨(inEvt ev_HS_EVT (tb m rfl)), rfl⟩
    · exact Lane.endLease_near (tr m rfl) h10 ⟨(inEvt ev_HS_EVT (tb m rfl)), rfl⟩
    · exact h10
  clear_value x12
  extract_lets -underBinder +onlyGivenNames x13
  have h13 : Lane.Near M b x13 := by
    unfold x13
    split
    · exact Lane.startLease_near (tr m rfl) (Lane.onSeats_near (f := _) (SeatState.Near.mk kp kp kp kp kp kp kp kp kp kp kp (ch m rfl) kp kp kp kp kp kp kp) h12)
    · exact h12
  clear_value x13
  extract_lets -underBinder +onlyGivenNames x14
  have h14 : Lane.Near M b x14 := Lane.near_ite (Lane.stopNow_near (tr m rfl) h13) h13
  clear_value x14
  exact Lane.onSeats_near (f := _) (SeatState.Near.mk kp kp kp kp kp kp kp kp kp kp (ch m rfl) kp kp kp kp kp kp kp kp) h14

theorem Lane.busyAll_near {M : Nat} {b : Lane} {l0 : Lane} {y1} {y2} (m : sub 0x5e00000000000000000000000000000103b00000000000014000000000000000000000000000000000000000000000000000000000000000 M = true) (h0 : Lane.Near M b l0) :
    Lane.Near M b (Lane.busyAll l0 y1 y2) := by
  delta Lane.busyAll
  exact Lane.near_foldl (fun _ _ q10 g10 => Lane.answer_near (tr m rfl) g10) h0

theorem Lane.reserve_near {M : Nat} {b : Lane} {l0 : Lane} {y1} (m : sub 0x20000000000000000000000000000000000010000000000000000000000000000000000000000000000000000000000000000000000000000 M = true) (h0 : Lane.Near M b l0) :
    Lane.Near M b (Lane.reserve l0 y1) := by
  delta Lane.reserve
  exact Lane.onSeats_near (f := _) (SeatState.Near.mk kp kp kp kp kp kp kp kp kp (ch m rfl) kp kp kp kp kp kp kp kp kp) (Lane.put_near (inReg at_HS_SPOT (tb m rfl)) (Lane.raise_near (inReg at_HS_SPOT (tb m rfl)).1 rfl h0))

theorem Lane.grantTo_near {M : Nat} {b : Lane} {l0 : Lane} {y1} (m : sub 0x85e00000000000000000000000000000103b00000000000014000000000000000000000000000000000000000000000000000000000000000 M = true) (h0 : Lane.Near M b l0) :
    Lane.Near M b (Lane.grantTo l0 y1) := by
  delta Lane.grantTo
  extract_lets -underBinder +onlyGivenNames x10
  have h10 : Lane.Near M b x10 := Lane.onSeats_near (f := _) (SeatState.Near.mk kp kp kp kp kp kp kp kp kp kp kp (ch m rfl) kp kp kp kp kp kp kp) h0
  clear_value x10
  exact Lane.answer_near (tr m rfl) h10

theorem Lane.decideFree_near {M : Nat} {b : Lane} {l0 : Lane} {y1} (m : sub 0x85e00000000000000000000000000000103b00000000000014000000000000000000000000000000000000000000000000000000000000000 M = true) (h0 : Lane.Near M b l0) :
    Lane.Near M b (Lane.decideFree l0 y1) := by
  delta Lane.decideFree
  split
  · exact h0
  · exact Lane.busyAll_near (tr m rfl) (Lane.grantTo_near (tr m rfl) h0)

theorem Lane.decideHeld_near {M : Nat} {b : Lane} {l0 : Lane} {y1} (m : sub 0x125e00000000000000000000000000000103b10000000000014000000000000000000000000000000000000000000000000000000000000000 M = true) (h0 : Lane.Near M b l0) :
    Lane.Near M b (Lane.decideHeld l0 y1) := by
  delta Lane.decideHeld
  extract_lets -underBinder +onlyGivenNames x10 x11 x12
  clear_value x10 x11 x12
  extract_lets -underBinder +onlyGivenNames x13
  have h13 : Lane.Near M b x13 := Lane.near_foldl (fun _ _ q14 g14 => Lane.answer_near (tr m rfl) g14) h0
  clear_value x13
  split
  · exact Lane.busyAll_near (tr m rfl) (Lane.onSeats_near (f := _) (SeatState.Near.mk kp kp kp kp kp kp kp kp kp kp kp kp (ch m rfl) kp kp kp kp kp kp) (Lane.reserve_near (tr m rfl) h13))
  · exact Lane.busyAll_near (tr m rfl) h13

theorem Lane.decideReserved_near {M : Nat} {b : Lane} {l0 : Lane} {y1} (m : sub 0x25e00000000000000000000000000000103b10000000000014000000000000000000000000000000000000000000000000000000000000000 M = true) (h0 : Lane.Near M b l0) :
    Lane.Near M b (Lane.decideReserved l0 y1) := by
  delta Lane.decideReserved
  extract_lets -underBinder +onlyGivenNames x10
  clear_value x10
  split
  · exact Lane.busyAll_near (tr m rfl) (Lane.reserve_near (tr m rfl) (Lane.busyAll_near (tr m rfl) h0))
  · exact Lane.busyAll_near (tr m rfl) h0

theorem Lane.grantReserved_near {M : Nat} {b : Lane} {l0 : Lane} (m : sub 0x85e00000000000000000000000000000103b00000000000014000000000000000000000000000000000000000000000000000000000000000 M = true) (h0 : Lane.Near M b l0) :
    Lane.Near M b (Lane.grantReserved l0) := by
  delta Lane.grantReserved
  split
  · exact Lane.grantTo_near (tr m rfl) h0
  · exact Lane.onSeats_near (f := _) (SeatState.Near.mk kp kp kp kp kp kp kp kp kp kp kp (ch m rfl) kp kp kp kp kp kp kp) h0

theorem Lane.decideSpot_near {M : Nat} {b : Lane} {l0 : Lane} (m : sub 0x1b5e00000000000000000000000000000103b10000000000014000000000000000000000000000000000000000000000000000000000000000 M = true) (h0 : Lane.Near M b l0) :
    Lane.Near M b (Lane.decideSpot l0) := by
  delta Lane.decideSpot
  exact Lane.near_ite h0 (by
    extract_lets -underBinder +onlyGivenNames x10
    clear_value x10
    extract_lets -underBinder +onlyGivenNames x11
    have h11 : ∀ u0, Lane.Near M b u0 → Lane.Near M b (x11 u0) := by
      intro _ g12
      unfold x11
      exact Lane.onSeats_near (f := _) (SeatState.Near.mk kp kp kp kp kp kp kp kp (ch m rfl) kp kp kp kp kp kp kp kp kp kp) g12
    clear_value x11
    exact Lane.near_ite (Lane.decideHeld_near (tr m rfl) (h11 _ h0)) (Lane.near_ite (by
    extract_lets -underBinder +onlyGivenNames x13
    have h13 : Lane.Near M b x13 := Lane.decideReserved_near (tr m rfl) (h11 _ h0)
    clear_value x13
    exact Lane.near_ite (Lane.grantReserved_near (tr m rfl) h13) h13) (Lane.near_ite h0 (Lane.decideFree_near (tr m rfl) (h11 _ h0)))))

theorem Lane.spotRequest_near {M : Nat} {b : Lane} {l0 : Lane} {y1} {y2} {y3} (m : sub 0x15e00000000000000000000000000000103b00000000000014000000000000000000000000000000000000000000000000000000000000000 M = true) (h0 : Lane.Near M b l0) :
    Lane.Near M b (Lane.spotRequest l0 y1 y2 y3) := by
  delta Lane.spotRequest
  exact Lane.near_ite (Lane.answer_near (tr m rfl) h0) (Lane.near_ite (Lane.onSeats_near (f := _) (SeatState.Near.mk kp kp kp kp kp kp kp kp (ch m rfl) kp kp kp kp kp kp kp kp kp kp) h0) h0)

theorem Lane.spotRenew_near {M : Nat} {b : Lane} {l0 : Lane} {y1} {y2} (m : sub 0x5e00000000000000000000000000000103b60000000000014000000000000000000000000000000000000000000000000000000000000000 M = true) (h0 : Lane.Near M b l0) :
    Lane.Near M b (Lane.spotRenew l0 y1 y2) := by
  delta Lane.spotRenew
  exact Lane.near_ite (by
    extract_lets -underBinder +onlyGivenNames x10
    have h10 : Lane.Near M b x10 := Lane.setEndCycle_near (tr m rfl) h0
    clear_value x10
    exact Lane.answer_near (tr m rfl) h10) (Lane.answer_near (tr m rfl) h0)

theorem Lane.spotRelease_near {M : Nat} {b : Lane} {l0 : Lane} {y1} {y2} (m : sub 0x165e00000000000000000000000000000103b10000000000014000000000000000000000000000000000000000000000000000000000000000 M = true) (h0 : Lane.Near M b l0) :
    Lane.Near M b (Lane.spotRelease l0 y1 y2) := by
  delta Lane.spotRelease
  exact Lane.near_ite (Lane.answer_near (tr m rfl) (Lane.onSeats_near (f := _) (SeatState.Near.mk kp kp kp kp kp kp kp kp kp kp kp kp (ch m rfl) kp kp kp kp kp kp) h0)) (Lane.near_ite (Lane.answer_near (tr m rfl) (Lane.cancelReservation_near (tr m rfl) h0)) (Lane.answer_near (tr m rfl) h0))

theorem Lane.stopCommand_near {M : Nat} {b : Lane} {l0 : Lane} {y1} {y2} (m : sub 0x805e00000000000000000000000000000103b00000000000014000000000000000000000000000000000000000000000000000000000000000 M = true) (h0 : Lane.Near M b l0) :
    Lane.Near M b (Lane.stopCommand l0 y1 y2) := by
  delta Lane.stopCommand
  exact Lane.answer_near (tr m rfl) (Lane.onSeats_near (f := _) (SeatState.Near.mk kp kp kp kp kp kp kp kp kp kp kp kp kp kp kp (ch m rfl) kp kp kp) h0)

theorem Lane.applySpotMirror_near {M : Nat} {b : Lane} {l0 : Lane} {y1} (m : sub 0x180000000000000000000000000000000000070000000000000000000000000000000000000000000000000000000000000000000000000000 M = true) (h0 : Lane.Near M b l0) :
    Lane.Near M b (Lane.applySpotMirror l0 y1) := by
  delta Lane.applySpotMirror
  extract_lets -underBinder +onlyGivenNames x10
  have h10 : Lane.Near M b x10 := by
    unfold x10
    split
    · extract_lets -underBinder +onlyGivenNames x11
      clear_value x11
      extract_lets -underBinder +onlyGivenNames x12
      have h12 : Lane.Near M b x12 := Lane.put_near (inReg at_HS_SPOT (tb m rfl)) (Lane.put_near (inReg at_HS_SPOT (tb m rfl)) (Lane.raise_near (inReg at_HS_SPOT (tb m rfl)).1 rfl h0))
      clear_value x12
      exact Lane.setEndCycle_near (tr m rfl) h12
    · exact h0
  clear_value x10
  extract_lets -underBinder +onlyGivenNames x13
  have h13 : Lane.Near M b x13 := Lane.near_ite h10 (by
    split
    · exact Lane.put_near (inReg at_HS_SPOT (tb m rfl)) (Lane.raise_near (inReg at_HS_SPOT (tb m rfl)).1 rfl h10)
    · exact Lane.drop_near (inReg at_HS_SPOT (tb m rfl)) (Lane.drop_near (inReg at_HS_SPOT (tb m rfl)) h10))
  clear_value x13
  exact Lane.onSeats_near (f := _) (SeatState.Near.mk kp kp kp kp kp kp kp kp kp kp kp (ch m rfl) (ch m rfl) kp kp kp kp kp kp) h13

theorem Lane.authFail_near {M : Nat} {b : Lane} {l0 : Lane} {y1} {y2} (m : sub 0x800900000000000000000000000000000000000000000000000000000000000000000000000000000 M = true) (h0 : Lane.Near M b l0) :
    Lane.Near M b (Lane.authFail l0 y1 y2) := by
  delta Lane.authFail
  extract_lets -underBinder +onlyGivenNames x10
  have h10 : Lane.Near M b x10 := Lane.raise_near (inEvt ev_HS_EVT (tb m rfl)) rfl h0
  clear_value x10
  extract_lets -underBinder +onlyGivenNames x11
  have h11 : Lane.Near M b x11 := Lane.near_ite (Lane.raise_near (inEvt ev_HS_EVT (tb m rfl)) rfl (Lane.bump_near (inReg at_HS_CNT1 (tb m rfl)) h10)) (Lane.bump_near (inReg at_HS_CNT1 (tb m rfl)) h10)
  clear_value x11
  exact Lane.note_near (tb m rfl) h11

theorem Lane.answerAuth_near {M : Nat} {b : Lane} {l0 : Lane} {y1} {y2} {y3} (m : sub 0x5e00000000000000000000000000000903b00000000000014000000000000000000000000000000000000000000000000000000000000000 M = true) (h0 : Lane.Near M b l0) :
    Lane.Near M b (Lane.answerAuth l0 y1 y2 y3) := by
  delta Lane.answerAuth
  exact Lane.answer_near (tr m rfl) (Lane.authFail_near (tr m rfl) h0)

theorem Lane.finishSession_near {M : Nat} {b : Lane} {l0 : Lane} {y1} {y2} {y3} {y4} {y5} (m : sub 0x20000006005e000000000000000000000000000009c3b00000000000014000000000000000000000000000000000000000000000000000000000000000 M = true) (h0 : Lane.Near M b l0) :
    Lane.Near M b (Lane.finishSession l0 y1 y2 y3 y4 y5) := by
  delta Lane.finishSession
  extract_lets -underBinder +onlyGivenNames x10
  clear_value x10
  exact Lane.near_ite (Lane.answerAuth_near (tr m rfl) h0) (Lane.near_ite (Lane.answerAuth_near (tr m rfl) h0) (by
    extract_lets -underBinder +onlyGivenNames x11
    have h11 : Lane.Near M b x11 := Lane.endSession_near (tr m rfl) h0
    clear_value x11
    extract_lets -underBinder +onlyGivenNames x12
    have h12 : Lane.Near M b x12 := Lane.onSeats_near (f := _) (SeatState.Near.mk kp kp kp kp kp kp kp kp kp kp kp kp kp kp kp kp kp (ch m rfl) (ch m rfl)) h11
    clear_value x12
    extract_lets -underBinder +onlyGivenNames x13
    have h13 : Lane.Near M b x13 := Lane.raise_near (inReg (at_HS_SSEQ (Fin.isLt _)) (tb m rfl)).1 rfl (Lane.setWord_near (inReg (at_HS_SSEQ (Fin.isLt _)) (tb m rfl)) (Lane.setWord_near (inReg (at_HS_SSES (Fin.isLt _)) (tb m rfl)) h12))
    clear_value x13
    exact Lane.answerTagged_near (tr m rfl) (Lane.raise_near (inEvt ev_HS_EVT (tb m rfl)) rfl h13)))

theorem Lane.queueAsked_near {M : Nat} {b : Lane} {l0 : Lane} {y1} {y2} {y3} {y4} {y5} {y6} (m : sub 0x48000000000000000000000005e00000000000000000000000000000103b00000000000014000000000000000000000000000000000000000000000000000000002300000 M = true) (h0 : Lane.Near M b l0) :
    Lane.Near M b (Lane.queueAsked l0 y1 y2 y3 y4 y5 y6) := by
  delta Lane.queueAsked
  extract_lets -underBinder +onlyGivenNames x10
  have h10 : Lane.Near M b x10 := Lane.queueTicket_near (tr m rfl) h0
  clear_value x10
  exact Lane.near_ite h10 (by
    split
    · exact Lane.answer_near (tr m rfl) h10
    · exact h10)

theorem Lane.sessionOpen_near {M : Nat} {b : Lane} {l0 : Lane} {y1} {y2} {y3} {y4} {y5} (m : sub 0x48000000000000020000006005e000000000000000000000000000009c3b00000000000014000000000000000000000000000000000000000000000000000000002300000 M = true) (h0 : Lane.Near M b l0) :
    Lane.Near M b (Lane.sessionOpen l0 y1 y2 y3 y4 y5) := by
  delta Lane.sessionOpen
  exact Lane.near_ite (Lane.answerAuth_near (tr m rfl) h0) (Lane.near_ite (Lane.finishSession_near (tr m rfl) h0) (Lane.queueAsked_near (tr m rfl) h0))

theorem Lane.sessionClose_near {M : Nat} {b : Lane} {l0 : Lane} {y1} {y2} (m : sub 0x20000000005e00000000000000000000000000000183b00000000000014000000000000000000000000000000000000000000000000000000000000000 M = true) (h0 : Lane.Near M b l0) :
    Lane.Near M b (Lane.sessionClose l0 y1 y2) := by
  delta Lane.sessionClose
  exact Lane.near_ite (Lane.answer_near (tr m rfl) (Lane.endSession_near (tr m rfl) h0)) (Lane.answer_near (tr m rfl) h0)

theorem Lane.ping_near {M : Nat} {b : Lane} {l0 : Lane} {y1} {y2} {y3} (m : sub 0x5e00000000000000000000000000000103b00000000000014000000000000000000000000000000000000000000000000000000000000000 M = true) (h0 : Lane.Near M b l0) :
    Lane.Near M b (Lane.ping l0 y1 y2 y3) := by
  delta Lane.ping
  exact Lane.answer_near (tr m rfl) h0

theorem Lane.readReg_near {M : Nat} {b : Lane} {l0 : Lane} {y1} {y2} {y3} {y4} (m : sub 0x10000000000000000008005e00000000000000001800000000004103b000000053e001400003c018000000000000000402000000000000000000420001000000000000 M = true) (h0 : Lane.Near M b l0) :
    Lane.Near M b (Lane.readReg l0 y1 y2 y3 y4) := by
  delta Lane.readReg
  exact Lane.near_ite (Lane.answer_near (tr m rfl) h0) (Lane.near_ite (Lane.answer_near (tr m rfl) h0) (by
    extract_lets -underBinder +onlyGivenNames x10
    have h10 : Lane.Near M b x10.1 := readWords_near (tr m rfl) h0
    clear_value x10
    exact Lane.answer_near (tr m rfl) h10))

theorem Lane.writeReg_near {M : Nat} {b : Lane} {l0 : Lane} {y1} {y2} {y3} {y4} {y5} (m : sub 0x4001851db0000400048210000380000002dc8068bb5e2000019078000830c0000043817515ffffffffffffffffffffffffffffffffffffffffffffffffffffffffffffffffffffffffffffffff M = true) (h0 : Lane.Near M b l0) :
    Lane.Near M b (Lane.writeReg l0 y1 y2 y3 y4 y5) := by
  delta Lane.writeReg
  extract_lets -underBinder +onlyGivenNames x10
  have h10 : Lane.Near M b x10.1 := Lane.writeRegs_near (tr m rfl) h0
  clear_value x10
  exact Lane.answer_near (tr m rfl) h10

theorem Lane.spotQuery_near {M : Nat} {b : Lane} {l0 : Lane} {y1} {y2} (m : sub 0x5e00000000000000000000000000000103b00000000000014000000000000000000000000000000000000000000000000000000000000000 M = true) (h0 : Lane.Near M b l0) :
    Lane.Near M b (Lane.spotQuery l0 y1 y2) := by
  delta Lane.spotQuery
  exact Lane.answer_near (tr m rfl) h0

theorem Lane.rehReport_near {M : Nat} {b : Lane} {l0 : Lane} {y1} {y2} (m : sub 0x5e00000000000000000000000000000103b00000000000014000000000000000000000000000000000000000000000000000000000000000 M = true) (h0 : Lane.Near M b l0) :
    Lane.Near M b (Lane.rehReport l0 y1 y2) := by
  delta Lane.rehReport
  exact Lane.answer_near (tr m rfl) h0

theorem Lane.logInfo_near {M : Nat} {b : Lane} {l0 : Lane} {y1} {y2} (m : sub 0x5e00000000000000000000000000000103b00000000000014000000000000000000000000000000000000000000000000000000000000000 M = true) (h0 : Lane.Near M b l0) :
    Lane.Near M b (Lane.logInfo l0 y1 y2) := by
  delta Lane.logInfo
  exact Lane.answer_near (tr m rfl) h0

theorem Lane.logRead_near {M : Nat} {b : Lane} {l0 : Lane} {y1} {y2} {y3} {y4} (m : sub 0x5e00000000000000000000000000000103b00000000000014000000000000000000000000000000000000000000000000000000000000000 M = true) (h0 : Lane.Near M b l0) :
    Lane.Near M b (Lane.logRead l0 y1 y2 y3 y4) := by
  delta Lane.logRead
  exact Lane.near_ite (Lane.answer_near (tr m rfl) h0) (Lane.answer_near (tr m rfl) h0)

theorem Lane.logMark_near {M : Nat} {b : Lane} {l0 : Lane} {y1} {y2} {y3} (m : sub 0x5e00000000000000000000000000000903b00000000000014000000000000000000000000000000000000000000000000000000000000000 M = true) (h0 : Lane.Near M b l0) :
    Lane.Near M b (Lane.logMark l0 y1 y2 y3) := by
  delta Lane.logMark
  exact Lane.answer_near (tr m rfl) (Lane.note_near (tb m rfl) h0)

theorem Lane.timeRead_near {M : Nat} {b : Lane} {l0 : Lane} {y1} {y2} (m : sub 0x5e00000000000000000000000000000103b00000000000014000000000000000000000000000000000000000000000000000000000000000 M = true) (h0 : Lane.Near M b l0) :
    Lane.Near M b (Lane.timeRead l0 y1 y2) := by
  delta Lane.timeRead
  exact Lane.answer_near (tr m rfl) h0

theorem Lane.timeEcho_near {M : Nat} {b : Lane} {l0 : Lane} {y1} {y2} {y3} (m : sub 0x5e00000000000000000000000000000103b00000000000014000000000000000000000000000000000000000000000000000000000000000 M = true) (h0 : Lane.Near M b l0) :
    Lane.Near M b (Lane.timeEcho l0 y1 y2 y3) := by
  delta Lane.timeEcho
  exact Lane.answer_near (tr m rfl) h0

theorem Lane.idInfo_near {M : Nat} {b : Lane} {l0 : Lane} {y1} {y2} (m : sub 0x5e00000000000000000000000000000103b00000000000014000000000000000000000000000000000000000000000000000000000000000 M = true) (h0 : Lane.Near M b l0) :
    Lane.Near M b (Lane.idInfo l0 y1 y2) := by
  delta Lane.idInfo
  exact Lane.answer_near (tr m rfl) h0

theorem Lane.idCert_near {M : Nat} {b : Lane} {l0 : Lane} {y1} {y2} {y3} {y4} (m : sub 0x5e00000000000000000000000000000103b00000000000014000000000000000000000000000000000000000000000000000000000000000 M = true) (h0 : Lane.Near M b l0) :
    Lane.Near M b (Lane.idCert l0 y1 y2 y3 y4) := by
  delta Lane.idCert
  exact Lane.near_ite (Lane.answer_near (tr m rfl) h0) (by
    extract_lets -underBinder +onlyGivenNames x10
    clear_value x10
    exact Lane.answer_near (tr m rfl) h0)

theorem Lane.safetyStatus_near {M : Nat} {b : Lane} {l0 : Lane} {y1} {y2} (m : sub 0x5e00000000000000000000000000000103b00000000000014000000000000000000000000000000000000000000000000000000000000000 M = true) (h0 : Lane.Near M b l0) :
    Lane.Near M b (Lane.safetyStatus l0 y1 y2) := by
  delta Lane.safetyStatus
  exact Lane.answer_near (tr m rfl) h0

theorem Lane.pbStatus_near {M : Nat} {b : Lane} {l0 : Lane} {y1} {y2} (m : sub 0x5e00000000000000000000000000000103b00000000000014000000000000000000000000000000000000000000000000000000000000000 M = true) (h0 : Lane.Near M b l0) :
    Lane.Near M b (Lane.pbStatus l0 y1 y2) := by
  delta Lane.pbStatus
  exact Lane.answer_near (tr m rfl) h0

theorem Lane.finishAttest_near {M : Nat} {b : Lane} {l0 : Lane} {y1} {y2} {y3} (m : sub 0x5e00000000000000000000000000000103b00000000000014000000000000000000000000000000000000000000000000000000000000000 M = true) (h0 : Lane.Near M b l0) :
    Lane.Near M b (Lane.finishAttest l0 y1 y2 y3) := by
  delta Lane.finishAttest
  extract_lets -underBinder +onlyGivenNames x10
  clear_value x10
  exact Lane.answer_near (tr m rfl) h0

theorem Lane.attest_near {M : Nat} {b : Lane} {l0 : Lane} {y1} {y2} {y3} (m : sub 0x48000000000000000000000005e00000000000000000000000000000103b00000000000014000000000000000000000000000000000000000000000000000000002300000 M = true) (h0 : Lane.Near M b l0) :
    Lane.Near M b (Lane.attest l0 y1 y2 y3) := by
  delta Lane.attest
  exact Lane.near_ite (Lane.finishAttest_near (tr m rfl) h0) (Lane.queueAsked_near (tr m rfl) h0)

theorem Lane.refuseMode_near {M : Nat} {b : Lane} {l0 : Lane} {y1} {y2} {y3} (m : sub 0x1000000000000000000000000000000000000000000000000000000000000000000000000000000000000000000000000000000000000000000 M = true) (h0 : Lane.Near M b l0) :
    Lane.Near M b (Lane.refuseMode l0 y1 y2 y3) := by
  delta Lane.refuseMode
  exact Lane.onSeats_near (f := _) (SeatState.Near.mk kp kp kp kp kp kp kp kp kp kp kp kp kp kp kp kp (ch m rfl) kp kp) h0

theorem Lane.askMode_near {M : Nat} {b : Lane} {l0 : Lane} {y1} {y2} {y3} (m : sub 0x1000000000000080000000000000000000000000000000000000000000000000000000000000000000000000000000000000000000000000000 M = true) (h0 : Lane.Near M b l0) :
    Lane.Near M b (Lane.askMode l0 y1 y2 y3) := by
  delta Lane.askMode
  extract_lets -underBinder +onlyGivenNames x10
  have h10 : Lane.Near M b x10 := Lane.onSeats_near (f := _) (SeatState.Near.mk kp kp kp kp kp kp kp kp kp kp kp kp kp kp kp kp (ch m rfl) kp kp) h0
  clear_value x10
  exact Lane.onWing_near (f := _) (WingState.Near.mk kp kp kp kp kp kp kp kp kp kp kp kp kp kp kp kp (ch m rfl) kp kp kp kp kp kp kp kp kp kp kp kp kp kp kp kp kp kp kp kp kp kp kp kp kp kp kp kp kp kp kp kp kp kp kp kp) h10

theorem Lane.arm_near {M : Nat} {b : Lane} {l0 : Lane} {y1} {y2} (m : sub 0x1000000000000080000000000000000000000000000000000000000000000000000000000000000000000000000000000000000000000000000 M = true) (h0 : Lane.Near M b l0) :
    Lane.Near M b (Lane.arm l0 y1 y2) := by
  delta Lane.arm
  split
  · exact Lane.refuseMode_near (tr m rfl) h0
  · exact Lane.askMode_near (tr m rfl) h0

theorem Lane.performOp_near {M : Nat} {b : Lane} {l0 : Lane} {y1} {y2} (m : sub 0x1000000000000080000000000000000000000000000000000000000000000000000000000000000000000000000000000000000000000000000 M = true) (h0 : Lane.Near M b l0) :
    Lane.Near M b (Lane.performOp l0 y1 y2) := by
  delta Lane.performOp
  exact Lane.near_ite (Lane.refuseMode_near (tr m rfl) h0) (Lane.askMode_near (tr m rfl) h0)

theorem Lane.disarm_near {M : Nat} {b : Lane} {l0 : Lane} {y1} {y2} (m : sub 0x1000000000000080000000000000000000000000000000000000000000000000000000000000000000000000000000000000000000000000000 M = true) (h0 : Lane.Near M b l0) :
    Lane.Near M b (Lane.disarm l0 y1 y2) := by
  delta Lane.disarm
  exact Lane.near_ite (Lane.askMode_near (tr m rfl) h0) (Lane.refuseMode_near (tr m rfl) h0)

theorem Lane.workshopEnter_near {M : Nat} {b : Lane} {l0 : Lane} {y1} {y2} (m : sub 0x1000000000000080000000000000000000000000000000000000000000000000000000000000000000000000000000000000000000000000000 M = true) (h0 : Lane.Near M b l0) :
    Lane.Near M b (Lane.workshopEnter l0 y1 y2) := by
  delta Lane.workshopEnter
  exact Lane.near_ite (Lane.refuseMode_near (tr m rfl) h0) (Lane.near_ite (Lane.refuseMode_near (tr m rfl) h0) (Lane.askMode_near (tr m rfl) h0))

theorem Lane.workshopLeave_near {M : Nat} {b : Lane} {l0 : Lane} {y1} {y2} (m : sub 0x1000000000000080000000000000000000000000000000000000000000000000000000000000000000000000000000000000000000000000000 M = true) (h0 : Lane.Near M b l0) :
    Lane.Near M b (Lane.workshopLeave l0 y1 y2) := by
  delta Lane.workshopLeave
  exact Lane.askMode_near (tr m rfl) h0

theorem Lane.setOne_near {M : Nat} {b : Lane} {l0 : Lane} {y1} (m : sub 0xc0000000000000000000000030c00000038075000000000000000000000000000000005c000000000000000a000000000f0000000000000000000000 M = true) (h0 : Lane.Near M b l0) :
    Lane.Near M b (Lane.setOne l0 y1) := by
  delta Lane.setOne
  split
  · rename_i _
    extract_lets -underBinder +onlyGivenNames x10
    clear_value x10
    extract_lets -underBinder +onlyGivenNames x11
    have h11 : Lane.Near M b x11 := Lane.setPref_near (tr m rfl) h0
    clear_value x11
    exact Lane.near_ite (Lane.ensureEnabled_near (tr m rfl) (Lane.onMode_near (f := _) (ModeState.Near.mk kp kp kp kp kp (ch m rfl) kp kp kp kp) h11)) h11
  · rename_i _
    exact h0

theorem Lane.setpoint_near {M : Nat} {b : Lane} {l0 : Lane} {y1} {y2} {y3} (m : sub 0xc00000005e0000000000000030c000000380750103b0000000000001400000000000005c000000000000000a000000000f0000000000000000000000 M = true) (h0 : Lane.Near M b l0) :
    Lane.Near M b (Lane.setpoint l0 y1 y2 y3) := by
  delta Lane.setpoint
  split
  · exact Lane.answer_near (tr m rfl) h0
  · exact Lane.answer_near (tr m rfl) (Lane.near_foldl (fun _ _ q10 g10 => Lane.setOne_near (tr m rfl) g10) h0)

theorem Lane.rehRerun_near {M : Nat} {b : Lane} {l0 : Lane} {y1} {y2} {y3} (m : sub 0x48000000000000000000000005e00000000000000000000000000000103b00000000000014000000000000000000000000000000000000000000000000000000002300000 M = true) (h0 : Lane.Near M b l0) :
    Lane.Near M b (Lane.rehRerun l0 y1 y2 y3) := by
  delta Lane.rehRerun
  exact Lane.near_ite (Lane.answer_near (tr m rfl) h0) (Lane.queueAsked_near (tr m rfl) h0)

theorem Lane.rehTask_near {M : Nat} {b : Lane} {l0 : Lane} {y1} {y2} {y3} (m : sub 0x48000000000000000000000005e00000000000000000000000000000103b00000000000014000000000000000000000000000000000000000000000000000000002300000 M = true) (h0 : Lane.Near M b l0) :
    Lane.Near M b (Lane.rehTask l0 y1 y2 y3) := by
  delta Lane.rehTask
  split
  · exact Lane.answer_near (tr m rfl) h0
  · exact Lane.queueAsked_near (tr m rfl) h0

theorem Lane.fwStatus_near {M : Nat} {b : Lane} {l0 : Lane} {y1} {y2} (m : sub 0x5e00000000000000000000000000000103b00000000000014000000000000000000000000000000000000000000000000000000000000000 M = true) (h0 : Lane.Near M b l0) :
    Lane.Near M b (Lane.fwStatus l0 y1 y2) := by
  delta Lane.fwStatus
  exact Lane.answer_near (tr m rfl) h0

theorem Lane.loadBegin_near {M : Nat} {b : Lane} {l0 : Lane} {y1} {y2} {y3} {y4} {y5} (m : sub 0x28000000005e00000000000000000000000000000103b00000000000014000000000000000000000000000000000000000000000000000000000000000 M = true) (h0 : Lane.Near M b l0) :
    Lane.Near M b (Lane.loadBegin l0 y1 y2 y3 y4 y5) := by
  delta Lane.loadBegin
  extract_lets -underBinder +onlyGivenNames x10 x11
  exact Lane.near_ite (Lane.answer_near (tr m rfl) h0) (Lane.near_ite (Lane.answer_near (tr m rfl) h0) (by
    extract_lets -underBinder +onlyGivenNames x12
    clear_value x12
    exact Lane.answer_near (tr m rfl) (Lane.onTrust_near (f := _) (TrustState.Near.mk (ch m rfl) kp (ch m rfl) kp kp kp kp kp kp kp kp kp kp kp kp kp kp kp kp kp) h0)))

theorem Lane.loadData_near {M : Nat} {b : Lane} {l0 : Lane} {y1} {y2} {y3} {y4} {y5} (m : sub 0x20000000005e00000000000000000000000000000103b00000000000014000000000000000000000000000000000000000000000000000000000000000 M = true) (h0 : Lane.Near M b l0) :
    Lane.Near M b (Lane.loadData l0 y1 y2 y3 y4 y5) := by
  delta Lane.loadData
  split
  · exact Lane.near_ite (Lane.answer_near (tr m rfl) h0) (Lane.near_ite (Lane.answer_near (tr m rfl) h0) (Lane.answer_near (tr m rfl) (Lane.onTrust_near (f := _) (TrustState.Near.mk kp kp (ch m rfl) kp kp kp kp kp kp kp kp kp kp kp kp kp kp kp kp kp) h0)))
  · exact Lane.answer_near (tr m rfl) h0

theorem Lane.closeLoad_near {M : Nat} {b : Lane} {l0 : Lane} (m : sub 0x20000000000000000000000000000000000000000000000000000000000000000000000000000000000000000000000000000000000000000000000000 M = true) (h0 : Lane.Near M b l0) :
    Lane.Near M b (Lane.closeLoad l0) := by
  delta Lane.closeLoad
  exact Lane.onTrust_near (f := _) (TrustState.Near.mk kp kp (ch m rfl) kp kp kp kp kp kp kp kp kp kp kp kp kp kp kp kp kp) h0

theorem Lane.pbLoadEnd_near {M : Nat} {b : Lane} {l0 : Lane} {y1} {y2} {y3} {y4} (m : sub 0x28000000005e00000000000000000000000000000103b00000000000014000000000000000000000000000000000000000000000000000000000000000 M = true) (h0 : Lane.Near M b l0) :
    Lane.Near M b (Lane.pbLoadEnd l0 y1 y2 y3 y4) := by
  delta Lane.pbLoadEnd
  split
  · exact Lane.answer_near (tr m rfl) h0
  · extract_lets -underBinder +onlyGivenNames x10
    have h10 : Lane.Near M b x10 := Lane.closeLoad_near (tr m rfl) h0
    clear_value x10
    exact Lane.near_ite (Lane.answer_near (tr m rfl) h10) (by
    split
    · exact Lane.answer_near (tr m rfl) h10
    · extract_lets -underBinder +onlyGivenNames x11
      clear_value x11
      extract_lets -underBinder +onlyGivenNames x12
      have h12 : Lane.Near M b x12 := Lane.onTrust_near (f := _) (TrustState.Near.mk (ch m rfl) kp kp kp kp kp kp kp kp kp kp kp kp kp kp kp kp kp kp kp) h10
      clear_value x12
      exact Lane.answer_near (tr m rfl) h12)

theorem Lane.fwLoadEnd_near {M : Nat} {b : Lane} {l0 : Lane} {y1} {y2} {y3} {y4} (m : sub 0x28000000005e00000000000000000000000000000103b00000000000014000000000000000000000000000000000000000000000000000000000000000 M = true) (h0 : Lane.Near M b l0) :
    Lane.Near M b (Lane.fwLoadEnd l0 y1 y2 y3 y4) := by
  delta Lane.fwLoadEnd
  split
  · exact Lane.answer_near (tr m rfl) h0
  · extract_lets -underBinder +onlyGivenNames x10
    have h10 : Lane.Near M b x10 := Lane.closeLoad_near (tr m rfl) h0
    clear_value x10
    exact Lane.near_ite (Lane.answer_near (tr m rfl) h10) (by
    split
    · exact Lane.answer_near (tr m rfl) h10
    · extract_lets -underBinder +onlyGivenNames x11
      clear_value x11
      extract_lets -underBinder +onlyGivenNames x12
      have h12 : Lane.Near M b x12 := Lane.onTrust_near (f := _) (TrustState.Near.mk (ch m rfl) kp kp kp kp kp kp kp kp kp kp kp kp kp kp kp kp kp kp kp) h10
      clear_value x12
      exact Lane.answer_near (tr m rfl) h12)

theorem Lane.pbAbort_near {M : Nat} {b : Lane} {l0 : Lane} {y1} {y2} (m : sub 0x20000000005e00000000000000000000000000000103b00000000000014000000000000000000000000000000000000000000000000000000000000000 M = true) (h0 : Lane.Near M b l0) :
    Lane.Near M b (Lane.pbAbort l0 y1 y2) := by
  delta Lane.pbAbort
  exact Lane.near_ite (Lane.answer_near (tr m rfl) (Lane.closeLoad_near (tr m rfl) h0)) (Lane.answer_near (tr m rfl) h0)

theorem Lane.pbActivate_near {M : Nat} {b : Lane} {l0 : Lane} {y1} {y2} (m : sub 0x7942008020005e20580000380008000000000380751903b00002000000014000000000000000000020000000000a00008000020002000000000000800004 M = true) (h0 : Lane.Near M b l0) :
    Lane.Near M b (Lane.pbActivate l0 y1 y2) := by
  delta Lane.pbActivate
  split
  · exact Lane.answer_near (tr m rfl) h0
  · split
    · exact h0
    · extract_lets -underBinder +onlyGivenNames x10
      have h10 : Lane.Near M b x10 := by
        unfold x10
        split
        · exact Lane.takeBook_near (tr m rfl) h0
        · exact Lane.refuseBook_near (tr m rfl) h0
      clear_value x10
      extract_lets -underBinder +onlyGivenNames x11
      have h11 : Lane.Near M b x11 := Lane.put_near (inReg at_BI_STAT (tb m rfl)) (Lane.allAxes_near (Lane.takeMode_near (tr m rfl) h10) (fun _ _ g12 => Lane.parkAxis_near (tr m rfl) g12))
      clear_value x11
      exact Lane.answer_near (tr m rfl) (Lane.sendDigest_near (tr m rfl) (Lane.koSettle_near (tr m rfl) h11))

theorem Lane.fwRestart_near {M : Nat} {b : Lane} {l0 : Lane} {y1} {y2} (m : sub 0x1000000005e00000000000000000000000000000103b00000000000014000000000000000000000000000000000000000000000000000000000000000 M = true) (h0 : Lane.Near M b l0) :
    Lane.Near M b (Lane.fwRestart l0 y1 y2) := by
  delta Lane.fwRestart
  exact Lane.answer_near (tr m rfl) (Lane.onMode_near (f := _) (ModeState.Near.mk kp kp kp kp kp kp kp (ch m rfl) kp kp) h0)

theorem Lane.fwCommit_near {M : Nat} {b : Lane} {l0 : Lane} {y1} {y2} (m : sub 0x10000000005e00000000000000000000000000000103b00000000000014000000000000000000000000000000000000000000000000000000000000000 M = true) (h0 : Lane.Near M b l0) :
    Lane.Near M b (Lane.fwCommit l0 y1 y2) := by
  delta Lane.fwCommit
  split
  · exact Lane.answer_near (tr m rfl) h0
  · exact Lane.near_ite (by
    extract_lets -underBinder +onlyGivenNames x10
    have h10 : Lane.Near M b x10 := Lane.onTrust_near (f := _) (TrustState.Near.mk kp (ch m rfl) kp kp kp kp kp kp kp kp kp kp kp kp kp kp kp kp kp kp) h0
    clear_value x10
    exact Lane.answer_near (tr m rfl) h10) (Lane.answer_near (tr m rfl) h0)

theorem Lane.confirmCheck_near {M : Nat} {b : Lane} {l0 : Lane} {y1} {y2} {y3} (m : sub 0x200000000000005e00000000000000000000000000004103b00000000000014000000000000000000000000000000000000000000000000000000000000000 M = true) (h0 : Lane.Near M b l0) :
    Lane.Near M b (Lane.confirmCheck l0 y1 y2 y3) := by
  delta Lane.confirmCheck
  exact Lane.near_ite (Lane.answer_near (tr m rfl) h0) (Lane.near_ite (Lane.answer_near (tr m rfl) h0) (Lane.near_ite (Lane.nextChoice_near (tb m rfl) (Lane.answer_near (tr m rfl) h0)) (Lane.onTrust_near (f := _) (TrustState.Near.mk kp kp kp kp kp kp kp kp kp kp kp kp kp kp kp kp kp kp (ch m rfl) kp) h0)))

theorem Lane.cartAccept_near {M : Nat} {b : Lane} {l0 : Lane} {y1} {y2} {y3} {y4} (m : sub 0x400008000000005e00000000000000000000000000000903b00300000000014000000000000000000000000000000000000000000000000000000000000000 M = true) (h0 : Lane.Near M b l0) :
    Lane.Near M b (Lane.cartAccept l0 y1 y2 y3 y4) := by
  delta Lane.cartAccept
  split
  · rename_i _
    extract_lets -underBinder +onlyGivenNames x10
    clear_value x10
    exact Lane.near_ite (Lane.onCart_near (tr m rfl) h0) (Lane.near_ite (Lane.answer_near (tr m rfl) h0) (Lane.near_ite (Lane.answer_near (tr m rfl) h0) (Lane.answer_near (tr m rfl) (Lane.acceptCart_near (tr m rfl) h0))))
  · rename_i _
    exact Lane.answer_near (tr m rfl) h0

theorem Lane.lifeAckOp_near {M : Nat} {b : Lane} {l0 : Lane} {y1} {y2} {y3} (m : sub 0x400000000000005e00000000000000000000000000000103b00100000000014000000000000000002000000000000000000000400000000000000000200000 M = true) (h0 : Lane.Near M b l0) :
    Lane.Near M b (Lane.lifeAckOp l0 y1 y2 y3) := by
  delta Lane.lifeAckOp
  split
  · rename_i _
    extract_lets -underBinder +onlyGivenNames x10
    clear_value x10
    exact Lane.near_ite (Lane.answer_near (tr m rfl) (Lane.ackLife_near (tr m rfl) h0)) (Lane.answer_near (tr m rfl) h0)
  · rename_i _
    exact Lane.answer_near (tr m rfl) h0

theorem Lane.runOp_near {M : Nat} {b : Lane} {l0 : Lane} {y1} {y2} {y3} (m : sub 0x4001851db000040004821000038060797bdc806fbf5e2058019078000830d800004381755dffffffffffffffffffffffffffffffffffffffffffffffffffffffffffffffffffffffffffffffff M = true) (h0 : Lane.Near M b l0) :
    Lane.Near M b (Lane.runOp l0 y1 y2 y3) := by
  delta Lane.runOp
  split
  · exact Lane.sessionOpen_near (tr m rfl) h0
  · exact Lane.sessionClose_near (tr m rfl) h0
  · exact Lane.ping_near (tr m rfl) h0
  · exact Lane.readReg_near (tr m rfl) h0
  · exact Lane.writeReg_near (tr m rfl) h0
  · exact Lane.spotRequest_near (tr m rfl) h0
  · exact Lane.spotRenew_near (tr m rfl) h0
  · exact Lane.spotRelease_near (tr m rfl) h0
  · exact Lane.spotQuery_near (tr m rfl) h0
  · exact Lane.arm_near (tr m rfl) h0
  · exact Lane.performOp_near (tr m rfl) h0
  · exact Lane.setpoint_near (tr m rfl) h0
  · exact Lane.disarm_near (tr m rfl) h0
  · exact Lane.stopCommand_near (tr m rfl) h0
  · exact Lane.workshopEnter_near (tr m rfl) h0
  · exact Lane.workshopLeave_near (tr m rfl) h0
  · exact Lane.pbStatus_near (tr m rfl) h0
  · exact Lane.loadBegin_near (tr m rfl) h0
  · exact Lane.loadData_near (tr m rfl) h0
  · exact Lane.pbLoadEnd_near (tr m rfl) h0
  · exact Lane.pbActivate_near (tr m rfl) h0
  · exact Lane.pbAbort_near (tr m rfl) h0
  · exact Lane.rehReport_near (tr m rfl) h0
  · exact Lane.rehRerun_near (tr m rfl) h0
  · exact Lane.rehTask_near (tr m rfl) h0
  · exact Lane.logInfo_near (tr m rfl) h0
  · exact Lane.logRead_near (tr m rfl) h0
  · exact Lane.logMark_near (tr m rfl) h0
  · exact Lane.timeRead_near (tr m rfl) h0
  · exact Lane.timeEcho_near (tr m rfl) h0
  · exact Lane.idInfo_near (tr m rfl) h0
  · exact Lane.idCert_near (tr m rfl) h0
  · exact Lane.attest_near (tr m rfl) h0
  · exact Lane.fwStatus_near (tr m rfl) h0
  · exact Lane.loadBegin_near (tr m rfl) h0
  · exact Lane.loadData_near (tr m rfl) h0
  · exact Lane.fwLoadEnd_near (tr m rfl) h0
  · exact Lane.fwRestart_near (tr m rfl) h0
  · exact Lane.fwCommit_near (tr m rfl) h0
  · exact Lane.confirmCheck_near (tr m rfl) h0
  · exact Lane.cartAccept_near (tr m rfl) h0
  · exact Lane.lifeAckOp_near (tr m rfl) h0
  · exact Lane.safetyStatus_near (tr m rfl) h0

theorem Lane.notAddressed_near {M : Nat} {b : Lane} {l0 : Lane} {y1} {y2} {y3} (m : sub 0x1000000005e00000000000000000000000000000103b00000000000014000000000000000000000000000000000000000000000000000000000000000 M = true) (h0 : Lane.Near M b l0) :
    Lane.Near M b (Lane.notAddressed l0 y1 y2 y3) := by
  delta Lane.notAddressed
  exact Lane.near_ite h0 (Lane.near_ite (Lane.answer_near (tr m rfl) (Lane.onMode_near (f := _) (ModeState.Near.mk kp kp kp kp kp kp kp (ch m rfl) kp kp) h0)) (Lane.answer_near (tr m rfl) h0))

theorem Lane.perform_near {M : Nat} {b : Lane} {l0 : Lane} {y1} {y2} {y3} (m : sub 0x4001851db000040004821000038060797bdc806fbf5e2058019078000830d800004381755dffffffffffffffffffffffffffffffffffffffffffffffffffffffffffffffffffffffffffffffff M = true) (h0 : Lane.Near M b l0) :
    Lane.Near M b (Lane.perform l0 y1 y2 y3) := by
  delta Lane.perform
  exact Lane.near_ite (Lane.notAddressed_near (tr m rfl) h0) (by
    extract_lets -underBinder +onlyGivenNames x10
    have h10 : Lane.Near M b x10 := Lane.when_near h0 (fun _ g11 => Lane.bump_near (inReg at_HS_CNT3 (tb m rfl)) g11)
    clear_value x10
    split
    · exact Lane.near_ite (Lane.refuseMode_near (tr m rfl) h10) (Lane.answer_near (tr m rfl) h10)
    · exact Lane.runOp_near (tr m rfl) h10)

theorem Lane.showPending_near {M : Nat} {b : Lane} {l0 : Lane} (m : sub 0x100000000000000000 M = true) (h0 : Lane.Near M b l0) :
    Lane.Near M b (Lane.showPending l0) := by
  delta Lane.showPending
  exact Lane.put_near (inReg at_WG_CMD (tb m rfl)) h0

theorem Lane.listCommands_near {M : Nat} {b : Lane} {l0 : Lane} (m : sub 0x20010000000000000000000000000000000000000000000000000000000000000000000000000000000000000000000000000 M = true) (h0 : Lane.Near M b l0) :
    Lane.Near M b (Lane.listCommands l0) := by
  delta Lane.listCommands
  extract_lets -underBinder +onlyGivenNames x10
  clear_value x10
  exact Lane.onWing_near (f := _) (WingState.Near.mk kp (ch m rfl) kp kp kp kp kp kp kp kp kp kp kp kp (ch m rfl) kp kp kp kp kp kp kp kp kp kp kp kp kp kp kp kp kp kp kp kp kp kp kp kp kp kp kp kp kp kp kp kp kp kp kp kp kp kp) h0

theorem Lane.sendSummary_near {M : Nat} {b : Lane} {l0 : Lane} (m : sub 0x1000000000000000000000000000000000000000000000000000000000000000000000000000000000 M = true) (h0 : Lane.Near M b l0) :
    Lane.Near M b (Lane.sendSummary l0) := by
  delta Lane.sendSummary
  split
  · exact Lane.emitSummary_near (tr m rfl) (Lane.emitSummary_near (tr m rfl) h0)
  · exact h0

theorem Lane.acceptSequence_near {M : Nat} {b : Lane} {l0 : Lane} {y1} (m : sub 0x20000004000000000000000000000000000000000080100000000000000000000000000000000000000000000000000000000000000000000000000000 M = true) (h0 : Lane.Near M b l0) :
    Lane.Near M b (Lane.acceptSequence l0 y1) := by
  delta Lane.acceptSequence
  exact Lane.near_ite h0 (by
    extract_lets -underBinder +onlyGivenNames x10
    have h10 : Lane.Near M b x10 := Lane.put_near (inReg (at_HS_SSEQ (Fin.isLt _)) (tb m rfl)) h0
    clear_value x10
    extract_lets -underBinder +onlyGivenNames x11
    have h11 : Lane.Near M b x11 := Lane.onSeats_near (f := _) (SeatState.Near.mk kp kp kp kp kp kp kp kp kp kp kp kp kp kp kp kp kp kp (ch m rfl)) h10
    clear_value x11
    exact Lane.near_ite (Lane.endSession_near (tr m rfl) (Lane.raise_near (inReg (at_HS_SSEQ (Fin.isLt _)) (tb m rfl)).1 rfl h11)) h11)

theorem Lane.packetFails_near {M : Nat} {b : Lane} {l0 : Lane} {y1} {y2} {y3} {y4} (m : sub 0x1e00000000000000000000000000000903b00000000000014000000000000000000000000000000000000000000000000000000000000000 M = true) (h0 : Lane.Near M b l0) :
    Lane.Near M b (Lane.packetFails l0 y1 y2 y3 y4) := by
  delta Lane.packetFails
  exact Lane.reply_near (tr m rfl) (Lane.when_near h0 (fun _ g10 => Lane.authFail_near (tr m rfl) g10))

theorem Lane.markSeen_near {M : Nat} {b : Lane} {l0 : Lane} {y1} (m : sub 0x8000000000000000000000000000000000000000000000000000000000000000000000000000000000000000000000000000000000000000 M = true) (h0 : Lane.Near M b l0) :
    Lane.Near M b (Lane.markSeen l0 y1) := by
  delta Lane.markSeen
  exact Lane.onSeats_near (f := _) (SeatState.Near.mk kp kp kp kp kp kp kp (ch m rfl) kp kp kp kp kp kp kp kp kp kp kp) h0

theorem Lane.secondCopy_near {M : Nat} {b : Lane} {l0 : Lane} {y1} {y2} (m : sub 0x1e00000000060000000000000000000103b00000000000014000000000000000000000000000000000000000000000000000000000000000 M = true) (h0 : Lane.Near M b l0) :
    Lane.Near M b (Lane.secondCopy l0 y1 y2) := by
  delta Lane.secondCopy
  extract_lets -underBinder +onlyGivenNames x10
  have h10 : Lane.Near M b x10 := Lane.bump_near (inReg at_HS_CNT1 (tb m rfl)) h0
  clear_value x10
  extract_lets -underBinder +onlyGivenNames x11
  clear_value x11
  extract_lets -underBinder +onlyGivenNames x12
  have h12 : Lane.Near M b x12 := Lane.onWing_near (f := _) (WingState.Near.mk kp kp kp kp kp kp kp kp kp kp kp kp kp kp (ch m rfl) (ch m rfl) kp kp kp kp kp kp kp kp kp kp kp kp kp kp kp kp kp kp kp kp kp kp kp kp kp kp kp kp kp kp kp kp kp kp kp kp kp) h10
  clear_value x12
  split
  · exact Lane.sendReply_near (tr m rfl) h12
  · exact h12

theorem Lane.holdCommand_near {M : Nat} {b : Lane} {l0 : Lane} {y1} {y2} (m : sub 0x8000000000020010000000000000001000000000000000000000000000000000000000000000000000000000000000100000000000000000 M = true) (h0 : Lane.Near M b l0) :
    Lane.Near M b (Lane.holdCommand l0 y1 y2) := by
  delta Lane.holdCommand
  extract_lets -underBinder +onlyGivenNames x10
  have h10 : Lane.Near M b x10 := Lane.onWing_near (f := _) (WingState.Near.mk kp kp kp kp kp kp kp kp kp kp kp kp kp kp (ch m rfl) kp kp kp kp kp kp kp kp kp kp kp kp kp kp kp kp kp kp kp kp kp kp kp kp kp kp kp kp kp kp kp kp kp kp kp kp kp kp) (Lane.markSeen_near (tr m rfl) h0)
  clear_value x10
  exact Lane.when_near (Lane.showPending_near (tr m rfl) h10) (fun _ g11 => Lane.sendSummary_near (tr m rfl) (Lane.listCommands_near (tr m rfl) g11))

theorem Lane.takePacket_near {M : Nat} {b : Lane} {l0 : Lane} {y1} {y2} {y3} (m : sub 0x4001851db000040004821000038060797bdc806fbfde205801907a001830d800004381755dffffffffffffffffffffffffffffffffffffffffffffffffffffffffffffffffffffffffffffffff M = true) (h0 : Lane.Near M b l0) :
    Lane.Near M b (Lane.takePacket l0 y1 y2 y3) := by
  delta Lane.takePacket
  extract_lets -underBinder +onlyGivenNames x10 x11
  clear_value x10 x11
  exact Lane.near_ite (Lane.perform_near (tr m rfl) h0) (by
    extract_lets -underBinder +onlyGivenNames x12
    have h12 : Lane.Near M b x12 := Lane.when_near h0 (fun _ g13 => Lane.near_foldl (fun _ _ q14 g14 => Lane.sendBoth_near (tr m rfl) g14) g13)
    clear_value x12
    exact Lane.near_ite (Lane.perform_near (tr m rfl) h12) (Lane.near_ite (Lane.near_ite (Lane.answer_near (tr m rfl) h12) h12) (Lane.holdCommand_near (tr m rfl) h12)))

theorem Lane.checkPacket_near {M : Nat} {b : Lane} {l0 : Lane} {y1} {y2} (m : sub 0x4001851db000040004821000038060797bdc806fbfde205801907e001830d800004381755dffffffffffffffffffffffffffffffffffffffffffffffffffffffffffffffffffffffffffffffff M = true) (h0 : Lane.Near M b l0) :
    Lane.Near M b (Lane.checkPacket l0 y1 y2) := by
  delta Lane.checkPacket
  extract_lets -underBinder +onlyGivenNames x10
  clear_value x10
  exact Lane.near_ite (Lane.bump_near (inReg at_HS_CNT0 (tb m rfl)) h0) (by
    extract_lets -underBinder +onlyGivenNames x11
    have h11 : Lane.Near M b x11 := Lane.bump_near (inReg at_HS_CNT0 (tb m rfl)) h0
    clear_value x11
    split
    · exact Lane.near_ite h11 (by
    split
    · exact Lane.packetFails_near (tr m rfl) h11
    · exact Lane.near_ite (Lane.secondCopy_near (tr m rfl) h11) (by
    split
    · exact Lane.packetFails_near (tr m rfl) h11
    · extract_lets -underBinder +onlyGivenNames x12
      have h12 : Lane.Near M b x12 := Lane.acceptSequence_near (tr m rfl) h11
      clear_value x12
      exact Lane.near_ite (Lane.takePacket_near (tr m rfl) h12) (Lane.packetFails_near (tr m rfl) h12)))
    · split
      · exact Lane.packetFails_near (tr m rfl) h11
      · exact h11)

theorem Lane.frameError_near {M : Nat} {b : Lane} {l0 : Lane} (m : sub 0x1100000000000000000000000000000000000000000000000000000000000000000000000000000 M = true) (h0 : Lane.Near M b l0) :
    Lane.Near M b (Lane.frameError l0) := by
  delta Lane.frameError
  exact Lane.raise_near (inEvt ev_HS_EVT (tb m rfl)) rfl (Lane.bump_near (inReg at_HS_CNT2 (tb m rfl)) h0)

theorem Lane.setTransfer_near {M : Nat} {b : Lane} {l0 : Lane} {y1} {y2} (m : sub 0x2000000000000000000000000000000000000000000000000000000000000000000000000000000000000000000000000000000000000000 M = true) (h0 : Lane.Near M b l0) :
    Lane.Near M b (Lane.setTransfer l0 y1 y2) := by
  delta Lane.setTransfer
  exact Lane.onSeats_near (f := _) (SeatState.Near.mk kp kp kp kp kp (ch m rfl) kp kp kp kp kp kp kp kp kp kp kp kp kp) h0

theorem Lane.segment_near {M : Nat} {b : Lane} {l0 : Lane} {y1} {y2} {y3} {y4} {y5} {y6} (m : sub 0x4001851db000040004821000038060797bdc806fbffe205801907e001830d800004381755dffffffffffffffffffffffffffffffffffffffffffffffffffffffffffffffffffffffffffffffff M = true) (h0 : Lane.Near M b l0) :
    Lane.Near M b (Lane.segment l0 y1 y2 y3 y4 y5 y6) := by
  delta Lane.segment
  extract_lets -underBinder +onlyGivenNames x10
  clear_value x10
  exact Lane.near_ite (by
    extract_lets -underBinder +onlyGivenNames x11
    have h11 : Lane.Near M b x11 := Lane.near_ite (Lane.frameError_near (tr m rfl) (Lane.setTransfer_near (tr m rfl) h0)) h0
    clear_value x11
    exact Lane.near_ite (Lane.frameError_near (tr m rfl) h11) (Lane.near_ite (Lane.checkPacket_near (tr m rfl) h11) (Lane.setTransfer_near (tr m rfl) h11))) (by
    split
    · exact Lane.frameError_near (tr m rfl) h0
    · exact Lane.near_ite (Lane.frameError_near (tr m rfl) (Lane.setTransfer_near (tr m rfl) h0)) (Lane.near_ite (Lane.checkPacket_near (tr m rfl) (Lane.setTransfer_near (tr m rfl) h0)) (Lane.setTransfer_near (tr m rfl) h0)))

theorem Lane.takeVirec_near {M : Nat} {b : Lane} {l0 : Lane} {y1} {y2} (m : sub 0x40fff7ddb43b7c0004821000038060797bdc806fbfde205801907e001830d800004381757dffffffffffffffffffffffffffffffffffffffffffffffffffffffffffffffffffffffffffffffff M = true) (h0 : Lane.Near M b l0) :
    Lane.Near M b (Lane.takeVirec l0 y1 y2) := by
  delta Lane.takeVirec
  exact Lane.near_foldl (fun _ _ q10 g10 => Lane.checkPacket_near (tr m rfl) g10) (Lane.virecIn_near (tr m rfl) h0)

theorem Lane.addSegment_near {M : Nat} {b : Lane} {l0 : Lane} {y1} {y2} {y3} (m : sub 0x4001851db000040004821000038060797bdc806fbfde205801907e001830d800004381755dffffffffffffffffffffffffffffffffffffffffffffffffffffffffffffffffffffffffffffffff M = true) (h0 : Lane.Near M b l0) :
    Lane.Near M b (Lane.addSegment l0 y1 y2 y3) := by
  delta Lane.addSegment
  extract_lets -underBinder +onlyGivenNames x10
  clear_value x10
  exact Lane.near_ite (Lane.checkPacket_near (tr m rfl) (Lane.onLinkEnd_near (tr m rfl) h0)) (Lane.onLinkEnd_near (tr m rfl) h0)

theorem Lane.expire_near {M : Nat} {b : Lane} {l0 : Lane} {y1} (m : sub 0x1e00000000020000000000000000000103b00000000000014000000000000000000000000000000000000000000000300400000000000000 M = true) (h0 : Lane.Near M b l0) :
    Lane.Near M b (Lane.expire l0 y1) := by
  delta Lane.expire
  extract_lets -underBinder +onlyGivenNames x10
  have h10 : Lane.Near M b x10 := Lane.onWing_near (f := _) (WingState.Near.mk kp kp kp kp kp kp kp kp kp kp kp kp kp kp (ch m rfl) kp kp kp kp kp kp kp kp kp kp kp kp kp kp kp kp kp kp kp kp kp kp kp kp kp kp kp kp kp kp kp kp kp kp kp kp kp kp) h0
  clear_value x10
  extract_lets -underBinder +onlyGivenNames x11
  have h11 : Lane.Near M b x11 := Lane.bump_near (inReg at_WG_CMDEXP (tb m rfl)) (Lane.raise_near (inEvt ev_WG_EVT (tb m rfl)) rfl (Lane.showPending_near (tr m rfl) h10))
  clear_value x11
  exact Lane.reply_near (tr m rfl) h11

end Sys2Proof.Machine
end

