-- ==== Sys2Proof/Laws/NearWing.lean ====
section
/-!
SUPPORT. What the functions of the lane may change: the wing, the agreement, the beat and the vote.
-/

namespace Sys2Proof.Machine

-- one elaboration thread: thousands of small proofs would otherwise start one each
set_option Elab.async false

theorem Lane.showMedian_near {M : Nat} {b : Lane} {l0 : Lane} (m : sub 0x200000000000000000000 M = true) (h0 : Lane.Near M b l0) :
    Lane.Near M b (Lane.showMedian l0) := by
  delta Lane.showMedian
  split
  · exact Lane.put_near (inReg at_BI_REFFIG (tb m rfl)) h0
  · exact h0

theorem Lane.checkFigures_near {M : Nat} {b : Lane} {l0 : Lane} (m : sub 0x380000000848000001e00050720560008000000000000751903b00002000020014000000000000000000000000000000a0000800002020c700600000000000004 M = true) (h0 : Lane.Near M b l0) :
    Lane.Near M b (Lane.checkFigures l0) := by
  delta Lane.checkFigures
  exact Lane.near_ite h0 (by
    extract_lets -underBinder +onlyGivenNames x10
    have h10 : Lane.Near M b x10 := Lane.showMedian_near (tr m rfl) h0
    clear_value x10
    exact Lane.near_ite (Lane.laneOut_near (tr m rfl) (Lane.marking_near (tr m rfl) (Lane.raise_near (inEvt ev_BI_EVT (tb m rfl)) rfl h10) (fun _ g11 => Lane.raise_near (inReg at_BI_UNUS (tb m rfl)).1 rfl g11))) h10)

theorem Lane.compareFigures_near {M : Nat} {b : Lane} {l0 : Lane} (m : sub 0x4000000000000000000 M = true) (h0 : Lane.Near M b l0) :
    Lane.Near M b (Lane.compareFigures l0) := by
  delta Lane.compareFigures
  extract_lets -underBinder +onlyGivenNames x10
  clear_value x10
  split
  · exact Lane.near_ite (Lane.raise_near (inEvt ev_BI_EVT (tb m rfl)) rfl h0) h0
  · exact Lane.near_ite (Lane.raise_near (inEvt ev_BI_EVT (tb m rfl)) rfl h0) h0
  · exact h0

theorem Lane.setOffset_near {M : Nat} {b : Lane} {l0 : Lane} {y1} {y2} (m : sub 0x18000000000000000 M = true) (h0 : Lane.Near M b l0) :
    Lane.Near M b (Lane.setOffset l0 y1 y2) := by
  delta Lane.setOffset
  extract_lets -underBinder +onlyGivenNames x10
  clear_value x10
  exact Lane.putInt_near (put_ite (inReg at_WG_TOFS1 (tb m rfl)) (inReg at_WG_TOFS2 (tb m rfl))) h0

theorem Lane.takeSummary_near {M : Nat} {b : Lane} {l0 : Lane} {y1} {y2} {y3} {y4} (m : sub 0xc000000000000000100000000000000000000000000000000000000000000000000000000000000001e200000000000000 M = true) (h0 : Lane.Near M b l0) :
    Lane.Near M b (Lane.takeSummary l0 y1 y2 y3 y4) := by
  delta Lane.takeSummary
  extract_lets -underBinder +onlyGivenNames x10
  have h10 : Lane.Near M b x10 := Lane.near_ite (Lane.raise_near (inReg at_WG_STAT (tb m rfl)).1 rfl h0) (Lane.when_near (Lane.setOffset_near (tr m rfl) h0) (fun _ g11 => Lane.send_near (tb m rfl) g11))
  clear_value x10
  exact Lane.near_ite (Lane.bump_near (put_ite (inReg at_WG_P1CNT (tb m rfl)) (inReg at_WG_P2CNT (tb m rfl))) h10) (Lane.near_ite h10 (Lane.onWing_near (f := _) (WingState.Near.mk kp kp kp (ch m rfl) (ch m rfl) kp kp kp kp kp kp kp kp kp kp kp kp kp kp kp kp kp kp kp kp kp kp kp kp kp kp kp kp kp kp kp kp kp kp kp kp kp kp kp kp kp kp kp kp kp kp kp kp) h10))

theorem Lane.endGuard_near {M : Nat} {b : Lane} {l0 : Lane} (m : sub 0x20000000000180400000000000000000000000000000000060000000000000000000000000000000000000000000000000020600000000000004 M = true) (h0 : Lane.Near M b l0) :
    Lane.Near M b (Lane.endGuard l0) := by
  delta Lane.endGuard
  extract_lets -underBinder +onlyGivenNames x10
  have h10 : Lane.Near M b x10 := Lane.onWing_near (f := _) (WingState.Near.mk kp kp kp kp kp kp kp kp kp kp kp kp kp kp kp kp kp kp kp (ch m rfl) kp kp kp kp kp kp kp kp kp kp kp kp kp kp kp kp kp kp kp kp kp kp kp kp kp kp kp kp kp kp kp kp kp) (Lane.drop_near (inReg at_WG_STAT (tb m rfl)) h0)
  clear_value x10
  split
  · exact Lane.near_ite (Lane.takeOverCall_near (tr m rfl) (Lane.takeToken_near (tr m rfl) h10)) (Lane.put_near (inReg at_WG_STAT (tb m rfl)) h10)
  · exact h10

theorem Lane.yieldToken_near {M : Nat} {b : Lane} {l0 : Lane} (m : sub 0x200000000000000000000000000000000000000000000000000000000000000000000000000000000000000000000000000000000 M = true) (h0 : Lane.Near M b l0) :
    Lane.Near M b (Lane.yieldToken l0) := by
  delta Lane.yieldToken
  exact Lane.onWing_near (f := _) (WingState.Near.mk kp kp kp kp kp kp kp kp kp kp kp kp kp kp kp kp kp kp kp kp kp kp kp kp kp kp kp kp kp kp (ch m rfl) kp kp kp kp kp kp kp kp kp kp kp kp kp kp kp kp kp kp kp kp kp kp) h0

theorem Lane.takeTokenFrame_near {M : Nat} {b : Lane} {l0 : Lane} {y1} {y2} {y3} (m : sub 0x281400000000000000000000000000000000000000000000000000000000000000000000000000000000000020200000000000000 M = true) (h0 : Lane.Near M b l0) :
    Lane.Near M b (Lane.takeTokenFrame l0 y1 y2 y3) := by
  delta Lane.takeTokenFrame
  exact Lane.near_ite (Lane.near_ite (Lane.yieldToken_near (tr m rfl) h0) h0) (by
    extract_lets -underBinder +onlyGivenNames x10
    have h10 : Lane.Near M b x10 := Lane.put_near (inReg at_WG_LEAD (tb m rfl)) (Lane.drop_near (inReg at_WG_STAT (tb m rfl)) (Lane.put_near (inReg at_WG_STAT (tb m rfl)) h0))
    clear_value x10
    exact Lane.onWing_near (f := _) (WingState.Near.mk kp kp kp kp kp kp kp kp kp kp kp kp kp kp kp kp kp kp kp (ch m rfl) kp (ch m rfl) kp kp kp kp kp kp (ch m rfl) kp kp kp kp kp kp kp kp kp kp kp kp kp kp kp kp kp kp kp kp kp kp kp kp) (Lane.put_near (inReg at_WG_LEAD (tb m rfl)) h10))

theorem Lane.enterResync_near {M : Nat} {b : Lane} {l0 : Lane} (m : sub 0x380000000848000001e0005f720560008000000000000751103b00002000020014000000000000000000000000000000a00008000020004700600000000000004 M = true) (h0 : Lane.Near M b l0) :
    Lane.Near M b (Lane.enterResync l0) := by
  delta Lane.enterResync
  exact Lane.near_ite h0 (by
    extract_lets -underBinder +onlyGivenNames x10
    clear_value x10
    exact Lane.near_ite (Lane.laneOut_near (tr m rfl) (Lane.raise_near (inEvt ev_WG_EVT (tb m rfl)) rfl h0)) (by
    extract_lets -underBinder +onlyGivenNames x11
    clear_value x11
    extract_lets -underBinder +onlyGivenNames x12
    have h12 : Lane.Near M b x12 := Lane.voidSteps_near (tr m rfl) (Lane.setLState_near (tr m rfl) (Lane.raise_near (inEvt ev_WG_EVT (tb m rfl)) rfl h0))
    clear_value x12
    extract_lets -underBinder +onlyGivenNames x13
    have h13 : Lane.Near M b x13 := Lane.countLive_near (tr m rfl) (Lane.allAxes_near h12 (fun _ _ g14 => Lane.abandon_near (tr m rfl) g14))
    clear_value x13
    extract_lets -underBinder +onlyGivenNames x15
    have h15 : Lane.Near M b x15 := Lane.put_near (inReg at_WG_RESYNC (tb m rfl)) (Lane.put_near (inReg at_WG_RESYNC (tb m rfl)) h13)
    clear_value x15
    extract_lets -underBinder +onlyGivenNames x16
    have h16 : Lane.Near M b x16 := Lane.onWing_near (f := _) (WingState.Near.mk kp kp kp kp kp kp kp kp kp kp kp kp kp kp kp kp kp kp kp kp kp kp kp kp kp kp (ch m rfl) kp kp (ch m rfl) kp (ch m rfl) kp (ch m rfl) (ch m rfl) (ch m rfl) (ch m rfl) (ch m rfl) kp kp kp kp kp kp kp kp kp kp kp kp kp kp kp) h15
    clear_value x16
    exact Lane.koSettle_near (tr m rfl) (Lane.sendBoth_near (tr m rfl) (Lane.showResyncs_near (tr m rfl) h16))))

theorem Lane.lastLive_near {M : Nat} {b : Lane} {l0 : Lane} (m : sub 0x380000002cc8028bb5e2000018078000030c000000380751103b1000200022001400000000000005c000020000000000a000080000f0006020600000000800004 M = true) (h0 : Lane.Near M b l0) :
    Lane.Near M b (Lane.lastLive l0) := by
  delta Lane.lastLive
  exact Lane.near_ite (Lane.enterGhost_near (tr m rfl) h0) h0

theorem Lane.peerResync_near {M : Nat} {b : Lane} {l0 : Lane} {y1} (m : sub 0x380000002cc8028bb5e2000018078000030c000000380751103b1000200022001400000000000005c000020000000000a000080000f0006020600000000800004 M = true) (h0 : Lane.Near M b l0) :
    Lane.Near M b (Lane.peerResync l0 y1) := by
  delta Lane.peerResync
  exact Lane.lastLive_near (tr m rfl) (Lane.countLive_near (tr m rfl) (Lane.setPeerState_near (tr m rfl) h0))

theorem Lane.afterLoss_near {M : Nat} {b : Lane} {l0 : Lane} (m : sub 0x380000002cc8028bb5e2000018078000030c000000380751103b1000200022001400000000000005c000020000000000a000080000f0006020600000000800004 M = true) (h0 : Lane.Near M b l0) :
    Lane.Near M b (Lane.afterLoss l0) := by
  delta Lane.afterLoss
  exact Lane.lastLive_near (tr m rfl) (Lane.onWing_near (f := _) (WingState.Near.mk kp kp kp kp kp kp kp kp kp kp kp kp kp kp kp kp kp kp kp kp kp kp kp kp kp kp kp kp kp kp kp kp kp kp kp kp kp kp kp kp kp kp kp kp kp kp kp kp kp kp (ch m rfl) kp kp) h0)

theorem Lane.declareLost_near {M : Nat} {b : Lane} {l0 : Lane} {y1} (m : sub 0x380000002cc8028bb5e200507a0fe000830c000000380751103b1000200022001400000000000005c000020000000000a000080000f0006720600000000800004 M = true) (h0 : Lane.Near M b l0) :
    Lane.Near M b (Lane.declareLost l0 y1) := by
  delta Lane.declareLost
  exact Lane.near_ite h0 (by
    extract_lets -underBinder +onlyGivenNames x10
    clear_value x10
    extract_lets -underBinder +onlyGivenNames x11
    have h11 : Lane.Near M b x11 := Lane.raise_near (inEvt ev_WG_EVT (tb m rfl)) rfl (Lane.setPeerState_near (tr m rfl) h0)
    clear_value x11
    exact Lane.near_ite (Lane.laneOut_near (tr m rfl) (Lane.raise_near (inEvt ev_WG_EVT (tb m rfl)) rfl h11)) (by
    extract_lets -underBinder +onlyGivenNames x12
    clear_value x12
    extract_lets -underBinder +onlyGivenNames x13
    have h13 : Lane.Near M b x13 := Lane.near_ite (Lane.setPeerState_near (tr m rfl) h11) h11
    clear_value x13
    extract_lets -underBinder +onlyGivenNames x14
    have h14 : Lane.Near M b x14 := Lane.countLive_near (tr m rfl) h13
    clear_value x14
    extract_lets -underBinder +onlyGivenNames x15
    have h15 : Lane.Near M b x15 := Lane.when_near h14 (fun _ g16 => Lane.event_near (tr m rfl) g16)
    clear_value x15
    extract_lets -underBinder +onlyGivenNames x17
    have h17 : Lane.Near M b x17 := Lane.when_near h15 (fun _ g18 => Lane.startGuard_near (tr m rfl) g18)
    clear_value x17
    exact Lane.afterLoss_near (tr m rfl) h17))

theorem Lane.outSeen_near {M : Nat} {b : Lane} {l0 : Lane} {y1} (m : sub 0x380000802cc8028bb5e222507a0fe000830c000000380751103b1000200022001400000000000005c000020000000000a000080000f0006720600000000800004 M = true) (h0 : Lane.Near M b l0) :
    Lane.Near M b (Lane.outSeen l0 y1) := by
  delta Lane.outSeen
  extract_lets -underBinder +onlyGivenNames x10
  have h10 : Lane.Near M b x10 := Lane.raise_near (inEvt ev_WG_EVT (tb m rfl)) rfl h0
  clear_value x10
  exact Lane.near_ite (Lane.declareLost_near (tr m rfl) h10) (Lane.compareDigests_near (tr m rfl) (Lane.onWing_near (f := _) (WingState.Near.mk kp kp kp kp kp kp kp kp kp kp kp kp kp kp kp kp kp kp kp kp kp kp kp kp kp kp kp kp kp kp kp kp kp kp kp kp kp kp kp kp kp kp (ch m rfl) kp kp kp kp kp kp kp kp kp kp) (Lane.setPeerState_near (tr m rfl) h10)))

theorem Lane.takeHandover_near {M : Nat} {b : Lane} {l0 : Lane} {y1} {y2} (m : sub 0x380000000848000001e0005f7e0d60008000000000000751103b00002000020014000000000000000000000000000000a00008000020004f20600000000000004 M = true) (h0 : Lane.Near M b l0) :
    Lane.Near M b (Lane.takeHandover l0 y1 y2) := by
  delta Lane.takeHandover
  exact Lane.near_ite h0 (Lane.near_ite (by
    extract_lets -underBinder +onlyGivenNames x10
    have h10 : Lane.Near M b x10 := Lane.put_near (inReg at_WG_DRILL (tb m rfl)) (Lane.bump_near (inReg at_WG_DRILL (tb m rfl)) (Lane.raise_near (inEvt ev_WG_EVT (tb m rfl)) rfl h0))
    clear_value x10
    exact Lane.onWing_near (f := _) (WingState.Near.mk kp kp kp kp kp kp kp kp kp kp kp kp kp kp kp kp kp kp kp kp kp kp kp kp kp kp kp (ch m rfl) kp (ch m rfl) kp kp kp kp kp kp kp kp kp kp kp kp kp kp kp kp kp kp kp kp kp kp kp) h10) (Lane.near_ite (Lane.startGuard_near (tr m rfl) (Lane.raise_near (inEvt ev_WG_EVT (tb m rfl)) rfl h0)) (by
    extract_lets -underBinder +onlyGivenNames x11
    clear_value x11
    extract_lets -underBinder +onlyGivenNames x12
    have h12 : Lane.Near M b x12 := Lane.onWing_near (f := _) (WingState.Near.mk kp kp kp kp kp kp kp kp kp kp kp kp kp kp kp kp kp kp kp kp kp kp kp kp kp kp kp (ch m rfl) kp kp kp kp kp kp kp kp kp kp kp kp kp kp kp kp kp kp kp kp kp kp kp kp kp) (Lane.raise_near (inEvt ev_WG_EVT (tb m rfl)) rfl h0)
    clear_value x12
    exact Lane.near_ite (Lane.enterResync_near (tr m rfl) h12) h12)))

theorem Lane.applyMirror_near {M : Nat} {b : Lane} {l0 : Lane} {y1} (m : sub 0x1000000040000000001818000000000e0000000000000000000005ffffffffffffffffffffffffffffffffffffffffffffffffffffffffffffffffffffffffffffffff M = true) (h0 : Lane.Near M b l0) :
    Lane.Near M b (Lane.applyMirror l0 y1) := by
  delta Lane.applyMirror
  extract_lets -underBinder +onlyGivenNames x10
  have h10 : Lane.Near M b x10 := Lane.onWing_near (f := _) (WingState.Near.mk kp kp kp kp kp kp kp kp kp kp kp kp kp kp kp kp kp kp kp kp kp kp (ch m rfl) (ch m rfl) (ch m rfl) kp kp kp kp kp kp kp kp kp kp kp kp kp kp kp kp kp kp kp kp kp kp kp kp kp kp kp kp) h0
  clear_value x10
  extract_lets -underBinder +onlyGivenNames x11
  have h11 : Lane.Near M b x11 := Lane.setWord_near (inReg at_WG_MIRCRC (tb m rfl)) (Lane.put_near (inReg at_WG_MIRROR (tb m rfl)) h10)
  clear_value x11
  extract_lets -underBinder +onlyGivenNames x12
  have h12 : Lane.Near M b x12 := Lane.applyCallMirror_near (tr m rfl) (Lane.applySpotMirror_near (tr m rfl) h11)
  clear_value x12
  exact Lane.allAxes_near h12 (fun _ _ g13 => Lane.when_near g13 (fun _ g14 => Lane.setLife_near (tr m rfl) g14))

theorem Lane.rejoinReply_near {M : Nat} {b : Lane} {l0 : Lane} {y1} {y2} (m : sub 0x1000000040000200003818002000c00e3800000000000003800005ffffffffffffffffffffffffffffffffffffffffffffffffffffffffffffffffffffffffffffffff M = true) (h0 : Lane.Near M b l0) :
    Lane.Near M b (Lane.rejoinReply l0 y1 y2) := by
  delta Lane.rejoinReply
  exact Lane.near_ite (by
    extract_lets -underBinder +onlyGivenNames x10
    have h10 : Lane.Near M b x10 := Lane.applyMirror_near (tr m rfl) (Lane.near_ite h0 (Lane.takeMode_near (tr m rfl) h0))
    clear_value x10
    exact Lane.onWing_near (f := _) (WingState.Near.mk kp kp kp kp kp kp kp kp kp kp kp kp kp kp kp kp kp kp kp kp kp kp kp kp kp kp kp kp kp kp kp kp kp kp kp (ch m rfl) (ch m rfl) kp kp kp kp kp kp kp kp kp kp kp kp kp kp kp kp) (Lane.put_near (inReg at_WG_RESYNC (tb m rfl)) h10)) h0

theorem Lane.answerRejoin_near {M : Nat} {b : Lane} {l0 : Lane} {y1} (m : sub 0x800000008000000000000001000000000000000000000000000000000000000000000000000000000000000000000000000000000 M = true) (h0 : Lane.Near M b l0) :
    Lane.Near M b (Lane.answerRejoin l0 y1) := by
  delta Lane.answerRejoin
  split
  · exact Lane.near_ite (Lane.sendFrame_near (tr m rfl) (Lane.onWing_near (f := _) (WingState.Near.mk kp kp kp kp kp kp kp kp kp kp kp kp kp kp kp kp kp kp kp kp kp kp kp kp kp kp kp kp kp kp kp kp (ch m rfl) kp kp kp kp kp kp kp kp kp kp kp kp kp kp kp kp kp kp kp kp) h0)) h0
  · exact h0

theorem Lane.rejoinAsked_near {M : Nat} {b : Lane} {l0 : Lane} {y1} (m : sub 0x380000002cc8028bb5e2000098078000830c000000380751103b1000200022001400000000000005c000020000000000a000080000f0006020600000000800004 M = true) (h0 : Lane.Near M b l0) :
    Lane.Near M b (Lane.rejoinAsked l0 y1) := by
  delta Lane.rejoinAsked
  extract_lets -underBinder +onlyGivenNames x10
  have h10 : Lane.Near M b x10 := Lane.onWing_near (f := _) (WingState.Near.mk kp kp kp kp kp kp kp kp kp kp kp kp kp kp kp kp kp kp kp kp kp kp kp kp kp kp kp kp kp kp kp kp (ch m rfl) kp kp kp kp kp kp kp kp kp kp kp kp kp kp kp kp kp kp kp kp) h0
  clear_value x10
  exact Lane.answerRejoin_near (tr m rfl) (Lane.near_ite (Lane.peerResync_near (tr m rfl) h10) h10)

theorem Lane.takeDigest_near {M : Nat} {b : Lane} {l0 : Lane} {y1} {y2} {y3} {y4} (m : sub 0xc000000000000000100000000380007ee2cc8028bb5e222507a07e000830c000004381751dffffffffffffffffffffffffffffffffffffffffffffffffffffffffffffffffffffffffffffffff M = true) (h0 : Lane.Near M b l0) :
    Lane.Near M b (Lane.takeDigest l0 y1 y2 y3 y4) := by
  delta Lane.takeDigest
  exact Lane.near_ite h0 (by
    extract_lets -underBinder +onlyGivenNames x10
    have h10 : Lane.Near M b x10 := Lane.onWing_near (f := _) (WingState.Near.mk kp kp kp kp kp kp kp kp kp kp kp kp kp kp kp kp kp kp kp kp kp kp kp kp kp kp kp kp kp kp kp kp kp kp kp kp kp kp kp kp kp kp (ch m rfl) kp kp kp kp kp kp kp kp kp kp) h0
    clear_value x10
    exact Lane.settleAwaiting_near (tr m rfl) (Lane.compareDigests_near (tr m rfl) (Lane.near_ite h10 (Lane.compareSerials_near (tr m rfl) h10))))

theorem Lane.endWait_near {M : Nat} {b : Lane} {l0 : Lane} (m : sub 0xc000000000000000100000000380007ee2cc8028bb5e2240018078000030c000004381751dffffffffffffffffffffffffffffffffffffffffffffffffffffffffffffffffffffffffffffffff M = true) (h0 : Lane.Near M b l0) :
    Lane.Near M b (Lane.endWait l0) := by
  delta Lane.endWait
  extract_lets -underBinder +onlyGivenNames x10
  have h10 : ∀ u0 u1, Lane.Near M b u0 → Lane.Near M b (x10 u0 u1) := by
    intro _ _ g11
    unfold x10
    exact Lane.near_ite (Lane.setPeerState_near (tr m rfl) g11) g11
  clear_value x10
  extract_lets -underBinder +onlyGivenNames x12
  have h12 : Lane.Near M b x12 := Lane.onWing_near (f := _) (WingState.Near.mk kp kp kp kp kp kp kp kp kp kp kp kp kp kp kp kp kp kp kp kp kp kp kp kp kp kp kp kp kp kp kp kp kp kp kp kp kp kp kp kp kp kp kp (ch m rfl) kp kp kp kp kp kp kp kp kp) (h10 _ _ (h10 _ _ h0))
  clear_value x12
  exact Lane.settleAwaiting_near (tr m rfl) (Lane.compareDigests_near (tr m rfl) (Lane.compareFigures_near (tr m rfl) h12))

theorem Lane.endReverify_near {M : Nat} {b : Lane} {l0 : Lane} {y1} (m : sub 0x380000002cc8028bb5e280507a07e000830c000000380751103b1000200022001400000000000005c000020000000000a000080000f0006720600000000800004 M = true) (h0 : Lane.Near M b l0) :
    Lane.Near M b (Lane.endReverify l0 y1) := by
  delta Lane.endReverify
  extract_lets -underBinder +onlyGivenNames x10
  have h10 : Lane.Near M b x10 := Lane.onWing_near (f := _) (WingState.Near.mk kp kp kp kp kp kp kp kp kp kp kp kp kp kp kp kp kp kp kp kp kp kp kp kp kp kp kp kp kp kp kp kp kp kp kp kp kp kp kp kp kp kp kp kp kp kp kp kp (ch m rfl) kp kp kp kp) h0
  clear_value x10
  extract_lets -underBinder +onlyGivenNames x11 x12 x13
  clear_value x11 x12 x13
  exact Lane.near_ite (Lane.laneOut_near (tr m rfl) h10) (Lane.near_ite (Lane.enterGhost_near (tr m rfl) (Lane.holdToken_near (tr m rfl) h10)) (Lane.laneOut_near (tr m rfl) h10))

theorem Lane.closeBeat_near {M : Nat} {b : Lane} {l0 : Lane} (m : sub 0x720000000000000000000000000000000000000000000000000000000000000000000000000000000006200000000000000 M = true) (h0 : Lane.Near M b l0) :
    Lane.Near M b (Lane.closeBeat l0) := by
  delta Lane.closeBeat
  extract_lets -underBinder +onlyGivenNames x10
  clear_value x10
  extract_lets -underBinder +onlyGivenNames x11
  have h11 : ∀ u0 u1, Lane.Near M b u0 → Lane.Near M b (x11 u0 u1) := by
    intro _ _ g12
    unfold x11
    exact Lane.when_near g12 (fun _ g13 => Lane.bump_near (put_ite (inReg at_WG_P1CNT (tb m rfl)) (inReg at_WG_P2CNT (tb m rfl))) g13)
  clear_value x11
  extract_lets -underBinder +onlyGivenNames x14
  have h14 : Lane.Near M b x14 := h11 _ _ (h11 _ _ h0)
  clear_value x14
  extract_lets -underBinder +onlyGivenNames x15
  clear_value x15
  extract_lets -underBinder +onlyGivenNames x16
  have h16 : Lane.Near M b x16 := Lane.onWing_near (f := _) (WingState.Near.mk kp kp (ch m rfl) kp kp (ch m rfl) (ch m rfl) (ch m rfl) kp kp kp kp kp kp kp kp kp kp kp kp kp kp kp kp kp kp kp kp kp kp kp kp kp kp kp kp kp kp kp kp kp kp kp kp kp kp kp kp kp kp kp kp kp) h14
  clear_value x16
  exact Lane.putFlag_near (inReg at_WG_STAT (tb m rfl)) h16

theorem Lane.decideRelay_near {M : Nat} {b : Lane} {l0 : Lane} (m : sub 0x200000000000000 M = true) (h0 : Lane.Near M b l0) :
    Lane.Near M b (Lane.decideRelay l0) := by
  delta Lane.decideRelay
  extract_lets -underBinder +onlyGivenNames x10 x11 x12
  clear_value x10 x11 x12
  exact Lane.putFlag_near (inReg at_WG_STAT (tb m rfl)) h0

theorem Lane.readStates_near {M : Nat} {b : Lane} {l0 : Lane} (m : sub 0x380000002cc8028bb5e2002018078000030c000000380751103b1000200022001400000000000005c000020000000000a000080000f0006020600000000800004 M = true) (h0 : Lane.Near M b l0) :
    Lane.Near M b (Lane.readStates l0) := by
  delta Lane.readStates
  extract_lets -underBinder +onlyGivenNames x10
  have h10 : ∀ u0 u1, Lane.Near M b u0 → Lane.Near M b (x10 u0 u1) := by
    intro _ _ g11
    unfold x10
    split
    · extract_lets -underBinder +onlyGivenNames x12
      have h12 : Lane.Near M b x12 := Lane.when_near g11 (fun _ g13 => Lane.peerResync_near (tr m rfl) g13)
      clear_value x12
      exact Lane.when_near h12 (fun _ g14 => Lane.onWing_near (f := _) (WingState.Near.mk kp kp kp kp kp kp kp kp kp kp kp kp kp kp kp kp kp kp kp kp kp kp kp kp kp kp kp kp kp kp kp kp kp kp kp kp kp kp (ch m rfl) kp kp kp kp kp kp kp kp kp kp kp kp kp kp) g14)
    · exact g11
  clear_value x10
  exact h10 _ _ (h10 _ _ h0)

theorem Lane.countAlone_near {M : Nat} {b : Lane} {l0 : Lane} (m : sub 0x1800000000000000000000000000000000000000000000000000000000000000000000000000000000000200000000000000 M = true) (h0 : Lane.Near M b l0) :
    Lane.Near M b (Lane.countAlone l0) := by
  delta Lane.countAlone
  exact Lane.near_ite (Lane.onWing_near (f := _) (WingState.Near.mk kp kp kp kp kp kp kp kp (ch m rfl) kp kp kp kp kp kp kp kp kp kp kp kp kp kp kp kp kp kp kp kp kp kp kp kp kp kp kp kp kp kp kp kp kp kp kp kp kp kp kp kp kp kp kp kp) (Lane.drop_near (inReg at_WG_STAT (tb m rfl)) h0)) (Lane.near_ite h0 (by
    extract_lets -underBinder +onlyGivenNames x10
    clear_value x10
    exact Lane.onWing_near (f := _) (WingState.Near.mk kp kp kp kp kp kp kp kp (ch m rfl) (ch m rfl) kp kp kp kp kp kp kp kp kp kp kp kp kp kp kp kp kp kp kp kp kp kp kp kp kp kp kp kp kp kp kp kp kp kp kp kp kp kp kp kp kp kp kp) h0))

theorem Lane.isolate_near {M : Nat} {b : Lane} {l0 : Lane} (m : sub 0x380000002cc8028bb5e200507a07e000830c000000380751103b1000200022001400000000000005c000020000000000a000080000f0006720600000000800004 M = true) (h0 : Lane.Near M b l0) :
    Lane.Near M b (Lane.isolate l0) := by
  delta Lane.isolate
  exact Lane.near_ite h0 (by
    extract_lets -underBinder +onlyGivenNames x10
    have h10 : Lane.Near M b x10 := Lane.raise_near (inEvt ev_WG_EVT (tb m rfl)) rfl (Lane.raise_near (inReg at_WG_STAT (tb m rfl)).1 rfl h0)
    clear_value x10
    exact Lane.near_ite (Lane.laneOut_near (tr m rfl) (Lane.raise_near (inEvt ev_WG_EVT (tb m rfl)) rfl h10)) (Lane.near_ite (Lane.laneOut_near (tr m rfl) h10) (Lane.near_ite (Lane.holdToken_near (tr m rfl) (Lane.near_ite h10 (Lane.completeAll_near (tr m rfl) (Lane.enterGhost_near (tr m rfl) h10)))) h10)))

theorem Lane.judgeLoss_near {M : Nat} {b : Lane} {l0 : Lane} {y1} (m : sub 0x380000002cc8028bb5e200707a0fe180830c000000380751103b1000200022001400000000000005c000020000000000a000080000f0006720600000000800004 M = true) (h0 : Lane.Near M b l0) :
    Lane.Near M b (Lane.judgeLoss l0 y1) := by
  delta Lane.judgeLoss
  exact Lane.near_ite h0 (by
    extract_lets -underBinder +onlyGivenNames x10
    have h10 : Lane.Near M b x10 := Lane.isolate_near (tr m rfl) (Lane.countAlone_near (tr m rfl) (Lane.readStates_near (tr m rfl) h0))
    clear_value x10
    extract_lets -underBinder +onlyGivenNames x11
    have h11 : Lane.Near M b x11 := Lane.near_ite (Lane.declareLost_near (tr m rfl) h10) h10
    clear_value x11
    exact Lane.near_ite (Lane.declareLost_near (tr m rfl) h11) h11)

theorem Lane.reDecide_near {M : Nat} {b : Lane} {l0 : Lane} {y1} (m : sub 0x250000000000000000000000000000000000000000000000000a000000008e0000000000000000000000 M = true) (h0 : Lane.Near M b l0) :
    Lane.Near M b (Lane.reDecide l0 y1) := by
  delta Lane.reDecide
  extract_lets -underBinder +onlyGivenNames x10
  have h10 : Lane.Near M b x10 := Lane.compare_near (tr m rfl) h0
  clear_value x10
  exact Lane.near_ite (Lane.lookup_near (tr m rfl) h10) (Lane.settle_near (tr m rfl) h10)

theorem Lane.transfer_near {M : Nat} {b : Lane} {l0 : Lane} {y1} (m : sub 0x10000000000000002000000000250000000000000000000000000000000000000000000000000a00000000de0000000000000000200000 M = true) (h0 : Lane.Near M b l0) :
    Lane.Near M b (Lane.transfer l0 y1) := by
  delta Lane.transfer
  extract_lets -underBinder +onlyGivenNames x10 x11 x12 x13
  clear_value x10 x11 x12 x13
  extract_lets -underBinder +onlyGivenNames x14
  have h14 : Lane.Near M b x14 := Lane.onWing_near (f := _) (WingState.Near.mk kp kp kp kp kp kp kp kp kp kp kp kp kp kp kp kp kp kp kp kp kp kp kp kp kp kp kp kp kp kp kp kp kp kp kp kp kp kp kp kp kp kp kp kp kp kp kp kp kp (ch m rfl) kp kp kp) (Lane.onLp_near (f := _) (LoopState.Near.mk (ch m rfl) kp kp kp kp kp kp kp kp kp kp kp kp kp) h0)
  clear_value x14
  extract_lets -underBinder +onlyGivenNames x15
  have h15 : Lane.Near M b x15 := Lane.when_near h14 (fun _ g16 => Lane.setLimit_near (tr m rfl) g16)
  clear_value x15
  exact Lane.reDecide_near (tr m rfl) (Lane.putInt_near (inReg (at_DC_TREF (Fin.isLt _)) (tb m rfl)) (Lane.putInt_near (inReg (at_DC_TREF (Fin.isLt _)) (tb m rfl)) h15))

theorem Lane.setIntegrators_near {M : Nat} {b : Lane} {l0 : Lane} {y1} {y2} {y3} (m : sub 0xc000000000000000000000000000000000000000000040000000000000000000000000000000000000000000000000 M = true) (h0 : Lane.Near M b l0) :
    Lane.Near M b (Lane.setIntegrators l0 y1 y2 y3) := by
  delta Lane.setIntegrators
  extract_lets -underBinder +onlyGivenNames x10
  have h10 : Lane.Near M b x10 := Lane.onLp_near (f := _) (LoopState.Near.mk kp (ch m rfl) (ch m rfl) kp kp kp kp kp kp kp kp kp kp kp) h0
  clear_value x10
  exact Lane.putInt_near (inReg (at_LE_INT (Fin.isLt _)) (tb m rfl)) (Lane.putInt_near (inReg (at_LE_INT (Fin.isLt _)) (tb m rfl)) h10)

theorem Lane.takeIntegrators_near {M : Nat} {b : Lane} {l0 : Lane} {y1} (m : sub 0xc000000000000000000000000000000000000000000040000000000000000000000000000000000000000000000000 M = true) (h0 : Lane.Near M b l0) :
    Lane.Near M b (Lane.takeIntegrators l0 y1) := by
  delta Lane.takeIntegrators
  extract_lets -underBinder +onlyGivenNames x10
  clear_value x10
  exact Lane.setIntegrators_near (tr m rfl) h0

theorem Lane.dropAgreed_near {M : Nat} {b : Lane} {l0 : Lane} (m : sub 0x5000000000000000e000000000000000000000000000000000000000000040000000000000000000000000500000000000000000000000 M = true) (h0 : Lane.Near M b l0) :
    Lane.Near M b (Lane.dropAgreed l0) := by
  delta Lane.dropAgreed
  exact Lane.near_ite h0 (by
    extract_lets -underBinder +onlyGivenNames x10
    clear_value x10
    extract_lets -underBinder +onlyGivenNames x11
    have h11 : Lane.Near M b x11 := Lane.onWing_near (f := _) (WingState.Near.mk kp kp kp kp kp kp kp kp kp kp kp kp kp kp kp kp kp kp kp kp kp kp kp kp kp kp kp kp kp kp kp kp kp kp kp kp kp kp kp kp kp kp kp kp kp kp kp kp kp (ch m rfl) kp (ch m rfl) kp) h0
    clear_value x11
    exact Lane.allAxes_near h11 (fun _ _ g12 => by
    extract_lets -underBinder +onlyGivenNames x13
    have h13 : Lane.Near M b x13 := Lane.onLp_near (f := _) (LoopState.Near.mk (ch m rfl) kp kp kp kp kp kp kp kp kp kp kp kp kp) (Lane.setWord_near (inReg (at_DC_TQLIM (Fin.isLt _)) (tb m rfl)) (Lane.setWord_near (inReg (at_DC_TREF (Fin.isLt _)) (tb m rfl)) g12))
    clear_value x13
    exact Lane.setIntegrators_near (tr m rfl) h13))

theorem Lane.postAgreed_near {M : Nat} {b : Lane} {l0 : Lane} (m : sub 0x8000000000000000000000000000000000000000000000000000000000000000000000000000000000 M = true) (h0 : Lane.Near M b l0) :
    Lane.Near M b (Lane.postAgreed l0) := by
  delta Lane.postAgreed
  exact Lane.near_foldl (fun _ _ q10 g10 => Lane.setStage_near (tb m rfl) g10) h0

theorem Lane.agreeValues_near {M : Nat} {b : Lane} {l0 : Lane} (m : sub 0x200000000000000000000000000000d000000000000000e000000000258000000000000000000000000000000040000000000000000a00000000de0000000000000000200000 M = true) (h0 : Lane.Near M b l0) :
    Lane.Near M b (Lane.agreeValues l0) := by
  delta Lane.agreeValues
  extract_lets -underBinder +onlyGivenNames x10
  have h10 : Lane.Near M b x10 := Lane.onWing_near (f := _) (WingState.Near.mk kp kp kp kp kp kp kp kp kp kp kp kp kp kp kp kp kp kp kp kp kp kp kp kp kp kp kp kp kp kp kp kp kp kp kp kp kp kp kp kp kp kp kp kp kp kp kp kp kp kp kp kp (ch m rfl)) h0
  clear_value x10
  exact Lane.near_ite h10 (by
    extract_lets -underBinder +onlyGivenNames x11
    have h11 : Lane.Near M b x11 := Lane.onBox_near (f := _) (BoxState.Near.mk kp kp kp kp kp kp kp kp kp kp kp kp kp kp (ch m rfl) kp kp kp kp) (Lane.postAgreed_near (tr m rfl) (Lane.onWing_near (f := _) (WingState.Near.mk kp kp kp kp kp kp kp kp kp kp kp kp kp kp kp kp kp kp kp kp kp kp kp kp kp kp kp kp kp kp kp kp kp kp kp kp kp kp kp kp kp kp kp kp kp kp kp kp kp kp kp (ch m rfl) kp) h10))
    clear_value x11
    extract_lets -underBinder +onlyGivenNames x12
    have h12 : Lane.Near M b x12 := Lane.allAxes_near h11 (fun _ _ g13 => Lane.takeIntegrators_near (tr m rfl) g13)
    clear_value x12
    exact Lane.allAxes_near h12 (fun _ _ g14 => Lane.transfer_near (tr m rfl) g14))

theorem Lane.comparePos_near {M : Nat} {b : Lane} {l0 : Lane} {y1} (m : sub 0x380000002dc8028bb5e2000018078400030c000000380751103b1000200022001400000000000005c000020000000000a000080000f0006020600000000800004 M = true) (h0 : Lane.Near M b l0) :
    Lane.Near M b (Lane.comparePos l0 y1) := by
  delta Lane.comparePos
  extract_lets -underBinder +onlyGivenNames x10 x11
  clear_value x10 x11
  extract_lets -underBinder +onlyGivenNames x12
  have h12 : Lane.Near M b x12 := Lane.onWing_near (f := _) (WingState.Near.mk kp kp kp kp kp kp kp kp kp kp kp (ch m rfl) kp kp kp kp kp kp kp kp kp kp kp kp kp kp kp kp kp kp kp kp kp kp kp kp kp kp kp kp kp kp kp kp kp kp kp kp kp kp kp kp kp) h0
  clear_value x12
  exact Lane.near_ite h12 (by
    extract_lets -underBinder +onlyGivenNames x13
    have h13 : Lane.Near M b x13 := Lane.raise_near (inEvt ev_WG_EVT (tb m rfl)) rfl h12
    clear_value x13
    exact Lane.near_ite (Lane.setOut_near (tr m rfl) h13) (Lane.latchFault_near (tr m rfl) h13))

theorem Lane.compareTime_near {M : Nat} {b : Lane} {l0 : Lane} (m : sub 0x1800000000000000000000000000000000000000000000000002000000000000000000000000000000000000000001980000000000000000000000000000000000000000600000000000000 M = true) (h0 : Lane.Near M b l0) :
    Lane.Near M b (Lane.compareTime l0) := by
  delta Lane.compareTime
  split
  · exact Lane.when_near (Lane.onWing_near (f := _) (WingState.Near.mk kp kp kp kp kp kp kp kp kp kp (ch m rfl) kp kp kp kp kp kp kp kp kp kp kp kp kp kp kp kp kp kp kp kp kp kp kp kp kp kp kp kp kp kp kp kp kp kp kp kp kp kp kp kp kp kp) h0) (fun _ g10 => Lane.endSlew_near (tr m rfl) g10)
  · extract_lets -underBinder +onlyGivenNames x11
    clear_value x11
    extract_lets -underBinder +onlyGivenNames x12
    have h12 : Lane.Near M b x12 := Lane.onWing_near (f := _) (WingState.Near.mk kp kp kp kp kp kp kp kp kp kp (ch m rfl) kp kp kp kp kp kp kp kp kp kp kp kp kp kp kp kp kp kp kp kp kp kp kp kp kp kp kp kp kp kp kp kp kp kp kp kp kp kp kp kp kp kp) h0
    clear_value x12
    exact Lane.near_ite (Lane.near_ite (Lane.endSlew_near (tr m rfl) h12) h12) (Lane.near_ite (Lane.startSlew_near (tr m rfl) (Lane.raise_near (inEvt ev_WG_EVT (tb m rfl)) rfl h12)) h12)

theorem Lane.compareFragments_near {M : Nat} {b : Lane} {l0 : Lane} (m : sub 0x380000000848000001e08050720560008000000000000751103b00002000020014000000000000000000000000000000a00008000020004700600000000000004 M = true) (h0 : Lane.Near M b l0) :
    Lane.Near M b (Lane.compareFragments l0) := by
  delta Lane.compareFragments
  extract_lets -underBinder +onlyGivenNames x10 x11
  clear_value x10 x11
  split
  · exact h0
  · exact Lane.near_ite h0 (by
    split
    · exact Lane.near_ite (Lane.laneOut_near (tr m rfl) h0) (Lane.onWing_near (f := _) (WingState.Near.mk kp kp kp kp kp kp kp kp kp kp kp kp kp kp kp kp kp kp kp kp kp kp kp kp kp kp kp kp kp kp kp kp kp kp kp kp kp kp kp kp kp kp kp kp kp kp kp kp (ch m rfl) kp kp kp kp) h0)
    · exact Lane.onWing_near (f := _) (WingState.Near.mk kp kp kp kp kp kp kp kp kp kp kp kp kp kp kp kp kp kp kp kp kp kp kp kp kp kp kp kp kp kp kp kp kp kp kp kp kp kp kp kp kp kp kp kp kp kp kp kp (ch m rfl) kp kp kp kp) h0)

theorem Lane.takeDemand_near {M : Nat} {b : Lane} {l0 : Lane} {y1} (m : sub 0x90000000000000000000000000000000000000000000000000000000000000000000000 M = true) (h0 : Lane.Near M b l0) :
    Lane.Near M b (Lane.takeDemand l0 y1) := by
  delta Lane.takeDemand
  extract_lets -underBinder +onlyGivenNames x10 x11
  clear_value x10 x11
  extract_lets -underBinder +onlyGivenNames x12
  have h12 : Lane.Near M b x12 := Lane.putBit_near (inReg at_SF_STAT (tb m rfl)) h0
  clear_value x12
  exact Lane.when_near h12 (fun _ g13 => Lane.when_near (Lane.raise_near (inEvt ev_SF_EVT (tb m rfl)) rfl g13) (fun _ g14 => Lane.putBit_near (inReg at_SF_STAT (tb m rfl)) g14))

theorem Lane.laneDiffers_near {M : Nat} {b : Lane} {l0 : Lane} (m : sub 0x400000000000000000000000000000000000000000000080000000000000000000000000000000000000000000000000000000000000000000000 M = true) (h0 : Lane.Near M b l0) :
    Lane.Near M b (Lane.laneDiffers l0) := by
  delta Lane.laneDiffers
  extract_lets -underBinder +onlyGivenNames x10
  have h10 : Lane.Near M b x10 := Lane.onSafety_near (f := _) (SafetyState.Near.mk kp kp (ch m rfl) kp kp kp kp kp kp) h0
  clear_value x10
  exact Lane.when_near h10 (fun _ g11 => Lane.raise_near (inEvt ev_SF_EVT (tb m rfl)) rfl g11)

theorem Lane.stopFunction_near {M : Nat} {b : Lane} {l0 : Lane} (m : sub 0x10000800000000000000000000000000000750000000000000000000000000000000000000020000000000a00008000030000000000000000000000 M = true) (h0 : Lane.Near M b l0) :
    Lane.Near M b (Lane.stopFunction l0) := by
  delta Lane.stopFunction
  extract_lets -underBinder +onlyGivenNames x10 x11
  clear_value x10 x11
  extract_lets -underBinder +onlyGivenNames x12
  have h12 : Lane.Near M b x12 := Lane.onSafety_near (f := _) (SafetyState.Near.mk kp kp kp kp kp kp kp kp (ch m rfl)) h0
  clear_value x12
  exact Lane.near_ite h12 (Lane.near_ite (Lane.onSeats_near (f := _) (SeatState.Near.mk kp kp kp kp kp kp kp kp kp kp kp kp kp kp kp (ch m rfl) kp kp kp) h12) (Lane.near_ite (Lane.allAxes_near h12 (fun _ _ g13 => Lane.disableAxis_near (tr m rfl) g13)) h12))

theorem Lane.takeResets_near {M : Nat} {b : Lane} {l0 : Lane} (m : sub 0x7000000000000000000000000000000000000000000000000000000000000000000000000000000000000000000000000000000000000000000000 M = true) (h0 : Lane.Near M b l0) :
    Lane.Near M b (Lane.takeResets l0) := by
  delta Lane.takeResets
  extract_lets -underBinder +onlyGivenNames x10 x11 x12 x13
  clear_value x10 x11 x12 x13
  exact Lane.near_ite h0 (by
    extract_lets -underBinder +onlyGivenNames x14 x15 x16
    clear_value x14 x15 x16
    exact Lane.near_ite (Lane.onSafety_near (f := _) (SafetyState.Near.mk kp kp kp kp (ch m rfl) (ch m rfl) (ch m rfl) kp kp) h0) (Lane.onSafety_near (f := _) (SafetyState.Near.mk kp kp kp kp (ch m rfl) kp kp kp kp) h0))

theorem Lane.agreeSafety_near {M : Nat} {b : Lane} {l0 : Lane} (m : sub 0x1f400800000000000000000000000000000751000000002090000000000000000000000000020000000000a00008000030000000000000000000000 M = true) (h0 : Lane.Near M b l0) :
    Lane.Near M b (Lane.agreeSafety l0) := by
  delta Lane.agreeSafety
  extract_lets -underBinder +onlyGivenNames x10
  have h10 : Lane.Near M b x10 := Lane.near_foldl (fun _ _ q11 g11 => Lane.takeDemand_near (tr m rfl) g11) h0
  clear_value x10
  exact Lane.koSettle_near (tr m rfl) (Lane.takeResets_near (tr m rfl) (Lane.stopFunction_near (tr m rfl) (Lane.laneDiffers_near (tr m rfl) h10)))

theorem Lane.takeOsc_near {M : Nat} {b : Lane} {l0 : Lane} {y1} (m : sub 0x1000000000000000000000000000000000000000000000000000040000000000000000000000000000000000000000000 M = true) (h0 : Lane.Near M b l0) :
    Lane.Near M b (Lane.takeOsc l0 y1) := by
  delta Lane.takeOsc
  exact Lane.near_ite h0 (Lane.near_ite (Lane.raise_near (inEvt (ev_LE_EVT (Fin.isLt _)) (tb m rfl)) rfl h0) (Lane.onLp_near (f := _) (LoopState.Near.mk kp kp kp kp kp kp kp kp kp kp kp (ch m rfl) kp kp) h0))

theorem Lane.takePlaus_near {M : Nat} {b : Lane} {l0 : Lane} {y1} (m : sub 0x380000002cc8028bb5e2000018078000030c000000380751103b1000200022001400000000000005d000060000000000a000080000f0006020600000000800004 M = true) (h0 : Lane.Near M b l0) :
    Lane.Near M b (Lane.takePlaus l0 y1) := by
  delta Lane.takePlaus
  extract_lets -underBinder +onlyGivenNames x10 x11
  clear_value x10 x11
  exact Lane.near_ite h0 (Lane.near_ite (Lane.raise_near (inEvt (ev_LE_EVT (Fin.isLt _)) (tb m rfl)) rfl h0) (by
    extract_lets -underBinder +onlyGivenNames x12
    clear_value x12
    extract_lets -underBinder +onlyGivenNames x13
    have h13 : Lane.Near M b x13 := Lane.put_near (inReg (at_LE_PLS1 (Fin.isLt _)) (tb m rfl)) h0
    clear_value x13
    exact Lane.near_ite (Lane.setOut_near (tr m rfl) (Lane.raise_near (inEvt (ev_LE_EVT (Fin.isLt _)) (tb m rfl)) rfl h13)) h13))

theorem Lane.agreeCommands_near {M : Nat} {b : Lane} {l0 : Lane} (m : sub 0x60000000000000000000000000000000000000000000000000000000000000000000000000000000000100000000000000000 M = true) (h0 : Lane.Near M b l0) :
    Lane.Near M b (Lane.agreeCommands l0) := by
  delta Lane.agreeCommands
  extract_lets -underBinder +onlyGivenNames x10 x11
  clear_value x10 x11
  extract_lets -underBinder +onlyGivenNames x12
  have h12 : Lane.Near M b x12 := Lane.onWing_near (f := _) (WingState.Near.mk kp kp kp kp kp kp kp kp kp kp kp kp kp kp (ch m rfl) (ch m rfl) kp kp kp kp kp kp kp kp kp kp kp kp kp kp kp kp kp kp kp kp kp kp kp kp kp kp kp kp kp kp kp kp kp kp kp kp kp) h0
  clear_value x12
  exact Lane.showPending_near (tr m rfl) (Lane.addTo_near (inReg at_WG_CMD (tb m rfl)) h12)

theorem Lane.planMode_near {M : Nat} {b : Lane} {l0 : Lane} {y1} (m : sub 0x100000000000000000000000000000000000000000000000000000000000000000000000000000000000000000000000000000 M = true) (h0 : Lane.Near M b l0) :
    Lane.Near M b (Lane.planMode l0 y1) := by
  delta Lane.planMode
  exact Lane.near_ite (Lane.onWing_near (f := _) (WingState.Near.mk kp kp kp kp kp kp kp kp kp kp kp kp kp kp kp kp kp (ch m rfl) kp kp kp kp kp kp kp kp kp kp kp kp kp kp kp kp kp kp kp kp kp kp kp kp kp kp kp kp kp kp kp kp kp kp kp) h0) h0

theorem Lane.agreeModes_near {M : Nat} {b : Lane} {l0 : Lane} (m : sub 0x100000000000000000000000000000000000000000000000000000000000000000000000000000000000000000000000000000 M = true) (h0 : Lane.Near M b l0) :
    Lane.Near M b (Lane.agreeModes l0) := by
  delta Lane.agreeModes
  exact Lane.near_ite (Lane.near_ite (Lane.planMode_near (tr m rfl) h0) h0) (by
    split
    · exact Lane.near_ite h0 (Lane.planMode_near (tr m rfl) h0)
    · exact h0)

theorem Lane.judgeHeld_near {M : Nat} {b : Lane} {l0 : Lane} (m : sub 0x380000002cc8028bb5e2005f7a07e000830c000000380751103b1000200022001400000000000005c000020000000000a000080000f0006720600000000800004 M = true) (h0 : Lane.Near M b l0) :
    Lane.Near M b (Lane.judgeHeld l0) := by
  delta Lane.judgeHeld
  split
  · extract_lets -underBinder +onlyGivenNames x10 x11
    clear_value x10 x11
    extract_lets -underBinder +onlyGivenNames x12
    have h12 : Lane.Near M b x12 := Lane.onWing_near (f := _) (WingState.Near.mk kp kp kp kp kp kp kp kp kp kp kp kp kp kp kp kp kp kp (ch m rfl) kp kp kp kp kp kp kp kp kp kp kp kp kp kp kp kp kp kp kp kp kp kp kp kp kp kp kp kp kp kp kp kp kp kp) h0
    clear_value x12
    exact Lane.near_ite h12 (Lane.near_ite (Lane.near_ite (Lane.enterGhost_near (tr m rfl) h12) (Lane.laneOut_near (tr m rfl) h12)) (Lane.near_ite h12 (Lane.enterResync_near (tr m rfl) (Lane.raise_near (inEvt ev_WG_EVT (tb m rfl)) rfl h12))))

theorem Lane.confirmBook_near {M : Nat} {b : Lane} {l0 : Lane} {y1} (m : sub 0x8180000000000000000000000000000000000000000000000b0000000000000000000000000000000000000000000000000000000000000000000000000 M = true) (h0 : Lane.Near M b l0) :
    Lane.Near M b (Lane.confirmBook l0 y1) := by
  delta Lane.confirmBook
  split
  · exact h0
  · split
    · extract_lets -underBinder +onlyGivenNames x10
      have h10 : Lane.Near M b x10 := Lane.onTrust_near (f := _) (TrustState.Near.mk (ch m rfl) (ch m rfl) kp kp kp kp kp kp (ch m rfl) kp kp kp kp kp kp kp kp kp kp kp) h0
      clear_value x10
      exact Lane.when_near h10 (fun _ g11 => Lane.raise_near (inEvt ev_KP_EVT (tb m rfl)) rfl (Lane.showFuses_near (tr m rfl) g11))

theorem Lane.decideConfirm_near {M : Nat} {b : Lane} {l0 : Lane} (m : sub 0x200818008000005e00000000000000000000000000005103b000b2000000014000000000000000000000000000000000000000000000000000000000000000 M = true) (h0 : Lane.Near M b l0) :
    Lane.Near M b (Lane.decideConfirm l0) := by
  delta Lane.decideConfirm
  split
  · exact h0
  · extract_lets -underBinder +onlyGivenNames x10
    have h10 : Lane.Near M b x10 := Lane.onTrust_near (f := _) (TrustState.Near.mk kp kp kp kp kp kp kp kp kp kp kp kp kp kp kp kp kp kp (ch m rfl) kp) h0
    clear_value x10
    extract_lets -underBinder +onlyGivenNames x11
    clear_value x11
    exact Lane.near_ite (by
    extract_lets -underBinder +onlyGivenNames x12
    have h12 : Lane.Near M b x12 := Lane.confirmBook_near (tr m rfl) h10
    clear_value x12
    exact Lane.answer_near (tr m rfl) (Lane.koSettle_near (tr m rfl) h12)) (Lane.nextChoice_near (tb m rfl) (Lane.answer_near (tr m rfl) h10))

theorem Lane.keepLife_near {M : Nat} {b : Lane} {l0 : Lane} (m : sub 0x400000000000000000000000000000000000000000000000001a00000000000000000000000000000000000000000000000000000000000000000000000000 M = true) (h0 : Lane.Near M b l0) :
    Lane.Near M b (Lane.keepLife l0) := by
  delta Lane.keepLife
  exact Lane.near_ite (Lane.allAxes_near h0 (fun _ _ g10 => Lane.near_ite (Lane.setLife_near (tr m rfl) g10) g10)) h0

theorem Lane.formMirror_near {M : Nat} {b : Lane} {l0 : Lane} (m : sub 0x8060000080000000000000010000000000000000000000000000000000000000000000000000000000000000c0000000000000000 M = true) (h0 : Lane.Near M b l0) :
    Lane.Near M b (Lane.formMirror l0) := by
  delta Lane.formMirror
  exact Lane.near_ite (by
    extract_lets -underBinder +onlyGivenNames x10
    clear_value x10
    extract_lets -underBinder +onlyGivenNames x11
    have h11 : Lane.Near M b x11 := Lane.onWing_near (f := _) (WingState.Near.mk kp kp kp kp kp kp kp kp kp kp kp kp kp kp kp kp kp kp kp kp kp kp (ch m rfl) (ch m rfl) kp kp kp kp kp kp kp kp kp kp kp kp kp kp kp kp kp kp kp kp kp kp kp kp kp kp kp kp kp) h0
    clear_value x11
    extract_lets -underBinder +onlyGivenNames x12
    have h12 : Lane.Near M b x12 := Lane.setWord_near (inReg at_WG_MIRCRC (tb m rfl)) (Lane.put_near (inReg at_WG_MIRROR (tb m rfl)) h11)
    clear_value x12
    exact Lane.answerRejoin_near (tr m rfl) (Lane.answerRejoin_near (tr m rfl) h12)) h0

theorem Lane.sendMirror_near {M : Nat} {b : Lane} {l0 : Lane} (m : sub 0x8000000000000001000000000000000000000000000000000000000000000000000000000000000000000000000000000 M = true) (h0 : Lane.Near M b l0) :
    Lane.Near M b (Lane.sendMirror l0) := by
  delta Lane.sendMirror
  split
  · exact Lane.near_ite (Lane.sendBoth_near (tr m rfl) h0) h0
  · exact h0

theorem Lane.watchDrill_near {M : Nat} {b : Lane} {l0 : Lane} (m : sub 0x200000000000000000000000000000000000000000000000000000000000000000000000000000000000000000000000000000000 M = true) (h0 : Lane.Near M b l0) :
    Lane.Near M b (Lane.watchDrill l0) := by
  delta Lane.watchDrill
  exact Lane.near_ite h0 (by
    split
    · exact Lane.near_ite (Lane.yieldToken_near (tr m rfl) h0) h0
    · exact h0)

theorem Lane.resyncBeat_near {M : Nat} {b : Lane} {l0 : Lane} (m : sub 0x14000000000000000000000000000000000000000000000000000000000000000000000000000000000000000400000000000000000 M = true) (h0 : Lane.Near M b l0) :
    Lane.Near M b (Lane.resyncBeat l0) := by
  delta Lane.resyncBeat
  exact Lane.near_ite h0 (by
    extract_lets -underBinder +onlyGivenNames x10
    have h10 : Lane.Near M b x10 := Lane.put_near (inReg at_WG_RESYNC (tb m rfl)) h0
    clear_value x10
    exact Lane.near_ite h10 (by
    extract_lets -underBinder +onlyGivenNames x11
    clear_value x11
    extract_lets -underBinder +onlyGivenNames x12
    have h12 : Lane.Near M b x12 := Lane.onWing_near (f := _) (WingState.Near.mk kp kp kp kp kp kp kp kp kp kp kp kp kp kp kp kp kp kp kp kp kp kp kp kp kp kp kp kp kp kp kp kp kp kp kp (ch m rfl) kp kp kp kp kp kp kp kp kp kp kp kp kp kp kp kp kp) h10
    clear_value x12
    exact Lane.near_ite (Lane.onWing_near (f := _) (WingState.Near.mk kp kp kp kp kp kp kp kp kp kp kp kp kp kp kp kp kp kp kp kp kp kp kp kp kp kp kp kp kp kp kp kp kp kp kp kp kp (ch m rfl) kp kp kp kp kp kp kp kp kp kp kp kp kp kp kp) (Lane.put_near (inReg at_WG_RESYNC (tb m rfl)) h12)) h12))

theorem Lane.agreeBeat_near {M : Nat} {b : Lane} {l0 : Lane} (m : sub 0x180000000002000000000038060081addf428bb5ef805f7a07e600930e00000038075d103b11ab209022001400000198000005d000060000000000a00008000df0006720600000000a00004 M = true) (h0 : Lane.Near M b l0) :
    Lane.Near M b (Lane.agreeBeat l0) := by
  delta Lane.agreeBeat
  extract_lets -underBinder +onlyGivenNames x10
  have h10 : Lane.Near M b x10 := Lane.agreeValues_near (tr m rfl) h0
  clear_value x10
  extract_lets -underBinder +onlyGivenNames x11
  have h11 : Lane.Near M b x11 := Lane.near_ite (Lane.compareFragments_near (tr m rfl) (Lane.compareTime_near (tr m rfl) (Lane.allAxes_near h10 (fun _ _ g12 => Lane.comparePos_near (tr m rfl) g12)))) (Lane.resyncBeat_near (tr m rfl) h10)
  clear_value x11
  exact Lane.near_ite h11 (by
    extract_lets -underBinder +onlyGivenNames x13
    have h13 : Lane.Near M b x13 := Lane.agreeSafety_near (tr m rfl) h11
    clear_value x13
    extract_lets -underBinder +onlyGivenNames x14
    have h14 : Lane.Near M b x14 := Lane.when_near h13 (fun _ g15 => Lane.allAxes_near g15 (fun _ _ g16 => Lane.takePlaus_near (tr m rfl) (Lane.takeOsc_near (tr m rfl) g16)))
    clear_value x14
    extract_lets -underBinder +onlyGivenNames x17
    have h17 : Lane.Near M b x17 := Lane.decideConfirm_near (tr m rfl) (Lane.agreeCommands_near (tr m rfl) (Lane.agreeModes_near (tr m rfl) h14))
    clear_value x17
    extract_lets -underBinder +onlyGivenNames x18
    have h18 : Lane.Near M b x18 := Lane.when_near h17 (fun _ g19 => Lane.judgeHeld_near (tr m rfl) g19)
    clear_value x18
    exact Lane.keepLife_near (tr m rfl) h18)

theorem Lane.leadBeat_near {M : Nat} {b : Lane} {l0 : Lane} (m : sub 0x100000000000000000b01b5e00000a06000008000000000000001103b100000041200140000000000000000000000000000000000000000000000c0000000000000000 M = true) (h0 : Lane.Near M b l0) :
    Lane.Near M b (Lane.leadBeat l0) := by
  delta Lane.leadBeat
  extract_lets -underBinder +onlyGivenNames x10
  have h10 : Lane.Near M b x10 := Lane.sampleCall_near (tr m rfl) h0
  clear_value x10
  exact Lane.watchDrill_near (tr m rfl) (Lane.sendMirror_near (tr m rfl) (Lane.when_near h10 (fun _ g11 => Lane.formMirror_near (tr m rfl) (Lane.decideSpot_near (tr m rfl) g11))))

theorem Lane.deadline_near {M : Nat} {b : Lane} {l0 : Lane} (m : sub 0x180000000002000001000038060081addf4b8bb5ef807ffa6fe7f2930e00000038075d103b11ab209432001400000198000005d000060000000000a00008000df00067e6600000000a00004 M = true) (h0 : Lane.Near M b l0) :
    Lane.Near M b (Lane.deadline l0) := by
  delta Lane.deadline
  exact Lane.near_ite h0 (by
    extract_lets -underBinder +onlyGivenNames x10
    have h10 : Lane.Near M b x10 := Lane.flushLinks_near (tr m rfl) h0
    clear_value x10
    extract_lets -underBinder +onlyGivenNames x11
    clear_value x11
    extract_lets -underBinder +onlyGivenNames x12
    have h12 : Lane.Near M b x12 := Lane.judgeLoss_near (tr m rfl) (Lane.decideRelay_near (tr m rfl) (Lane.closeBeat_near (tr m rfl) h10))
    clear_value x12
    exact Lane.near_ite (Lane.near_ite (Lane.sampleCall_near (tr m rfl) h12) (Lane.leadBeat_near (tr m rfl) (Lane.agreeBeat_near (tr m rfl) h12))) (Lane.sampleCall_near (tr m rfl) (Lane.decideConfirm_near (tr m rfl) (Lane.agreeCommands_near (tr m rfl) (Lane.agreeModes_near (tr m rfl) h12)))))

theorem Lane.newBeat_near {M : Nat} {b : Lane} {l0 : Lane} (m : sub 0x18070000000000000000000000000000000000000000000000000000000000000000000000000000000000000000000000000 M = true) (h0 : Lane.Near M b l0) :
    Lane.Near M b (Lane.newBeat l0) := by
  delta Lane.newBeat
  exact Lane.onWing_near (f := _) (WingState.Near.mk kp (ch m rfl) (ch m rfl) (ch m rfl) kp kp kp kp kp kp kp kp (ch m rfl) (ch m rfl) kp kp kp kp kp kp kp kp kp kp kp kp kp kp kp kp kp kp kp kp kp kp kp kp kp kp kp kp kp kp kp kp kp kp kp kp kp kp kp) h0

theorem Lane.beatFrames_near {M : Nat} {b : Lane} {l0 : Lane} (m : sub 0x8000000000000001000000000000000000000000000000000000000000000000000000000000000000000000000000000 M = true) (h0 : Lane.Near M b l0) :
    Lane.Near M b (Lane.beatFrames l0) := by
  delta Lane.beatFrames
  exact Lane.sendDigests_near (tr m rfl) (Lane.sendHellos_near (tr m rfl) (Lane.flushLinks_near (tr m rfl) h0))

theorem Lane.sampleAxis_near {M : Nat} {b : Lane} {l0 : Lane} {y1} (m : sub 0x380000002cc8028bb5e2000018078000030c000000380751903b1000200022001400000000000005c000020000700000a000080000f0006020600000000800004 M = true) (h0 : Lane.Near M b l0) :
    Lane.Near M b (Lane.sampleAxis l0 y1) := by
  delta Lane.sampleAxis
  extract_lets -underBinder +onlyGivenNames x10
  have h10 : Lane.Near M b x10 := Lane.put_near (inReg (at_FB_BPOS (Fin.isLt _)) (tb m rfl)) h0
  clear_value x10
  extract_lets -underBinder +onlyGivenNames x11
  have h11 : Lane.Near M b x11 := Lane.put_near (inReg (at_FB_BHI (Fin.isLt _)) (tb m rfl)) h10
  clear_value x11
  extract_lets -underBinder +onlyGivenNames x12
  have h12 : Lane.Near M b x12 := Lane.put_near (inReg (at_FB_BHI (Fin.isLt _)) (tb m rfl)) h11
  clear_value x12
  exact Lane.beatAngle_near (tr m rfl) (Lane.speedNow_near (tr m rfl) h12)

theorem Lane.sampleBeat_near {M : Nat} {b : Lane} {l0 : Lane} {y1} (m : sub 0x380000006fc8028bb5e2000018078000030c001000f80751903b1000200022001400000000000005c000020000700080a000080000f0006020600000000802e84 M = true) (h0 : Lane.Near M b l0) :
    Lane.Near M b (Lane.sampleBeat l0 y1) := by
  delta Lane.sampleBeat
  exact Lane.allAxes_near (Lane.watchHold_near (tr m rfl) (Lane.sampleFaults_near (tr m rfl) (Lane.measure_near (tr m rfl) h0))) (fun _ _ g10 => Lane.sampleAxis_near (tr m rfl) g10)

theorem Lane.takeEffects_near {M : Nat} {b : Lane} {l0 : Lane} (m : sub 0x4001851db000040004821000038060797bdc806fbfde205801907c000830d800004381755dffffffffffffffffffffffffffffffffffffffffffffffffffffffffffffffffffffffffffffffff M = true) (h0 : Lane.Near M b l0) :
    Lane.Near M b (Lane.takeEffects l0) := by
  delta Lane.takeEffects
  extract_lets -underBinder +onlyGivenNames x10
  clear_value x10
  extract_lets -underBinder +onlyGivenNames x11
  have h11 : Lane.Near M b x11 := Lane.onWing_near (f := _) (WingState.Near.mk kp kp kp kp kp kp kp kp kp kp kp kp kp kp kp (ch m rfl) kp kp kp kp kp kp kp kp kp kp kp kp kp kp kp kp kp kp kp kp kp kp kp kp kp kp kp kp kp kp kp kp kp kp kp kp kp) h0
  clear_value x11
  refine Lane.near_foldl (fun _ _ q12 g12 => ?_) h11
  split
  · exact Lane.perform_near (tr m rfl) (Lane.markSeen_near (tr m rfl) g12)
  · exact g12

theorem Lane.stopRef_near {M : Nat} {b : Lane} {l0 : Lane} {y1} {y2} {y3} {y4} (m : sub 0xc000000000000000000000000000000000000000000000000 M = true) (h0 : Lane.Near M b l0) :
    Lane.Near M b (Lane.stopRef l0 y1 y2 y3 y4) := by
  delta Lane.stopRef
  split
  · exact Lane.setPref_near (tr m rfl) h0
  · split
    · exact Lane.setPref_near (tr m rfl) h0
    · exact h0
  · exact h0

theorem Lane.stopBeat_near {M : Nat} {b : Lane} {l0 : Lane} (m : sub 0x8000000000000000000000000000000000000000000000000000000000000000000000c000000000000000000000000000000000000000000000000 M = true) (h0 : Lane.Near M b l0) :
    Lane.Near M b (Lane.stopBeat l0) := by
  delta Lane.stopBeat
  split
  · extract_lets -underBinder +onlyGivenNames x10
    have h10 : Lane.Near M b x10 := Lane.allAxes_near h0 (fun _ _ g11 => Lane.stopRef_near (tr m rfl) g11)
    clear_value x10
    exact Lane.onMode_near (f := _) (ModeState.Near.mk kp kp (ch m rfl) kp kp kp kp kp kp kp) h10
  · exact h0

theorem Lane.loopBeat_near {M : Nat} {b : Lane} {l0 : Lane} {y1} {y2} (m : sub 0x60fc0000000000000000000000000000000000000000002b0000060000000000000000000000000000000000000000000 M = true) (h0 : Lane.Near M b l0) :
    Lane.Near M b (Lane.loopBeat l0 y1 y2) := by
  delta Lane.loopBeat
  extract_lets -underBinder +onlyGivenNames x10
  have h10 : Lane.Near M b x10 := Lane.onLp_near (f := _) (LoopState.Near.mk kp kp kp kp kp kp kp kp kp kp kp kp kp (ch m rfl)) h0
  clear_value x10
  exact Lane.sumBeat_near (tr m rfl) (Lane.runLoops_near (tr m rfl) h10)

theorem Lane.beatZero_near {M : Nat} {b : Lane} {l0 : Lane} (m : sub 0x400000000000000000000000000000000000000000fe0000000000000000000000000000000000000000000191000060000000000000000000000000000000100000200000 M = true) (h0 : Lane.Near M b l0) :
    Lane.Near M b (Lane.beatZero l0) := by
  delta Lane.beatZero
  extract_lets -underBinder +onlyGivenNames x10
  clear_value x10
  exact Lane.allAxes_near h0 (fun _ _ g11 => Lane.brakeHeat_near (tr m rfl) (Lane.supervise_near (tr m rfl) (Lane.loopInputs_near (tr m rfl) g11)))

theorem Lane.loopsBeat_near {M : Nat} {b : Lane} {l0 : Lane} (m : sub 0x400000000000000000000000000000000000000006ffc0000000000000000000000000000000000000000003b1000060000000000000000000000000000000100000200000 M = true) (h0 : Lane.Near M b l0) :
    Lane.Near M b (Lane.loopsBeat l0) := by
  delta Lane.loopsBeat
  extract_lets -underBinder +onlyGivenNames x10
  have h10 : Lane.Near M b x10 := Lane.near_ite (Lane.beatZero_near (tr m rfl) h0) h0
  clear_value x10
  exact Lane.allAxes_near h10 (fun _ _ g11 => Lane.loopBeat_near (tr m rfl) g11)

theorem Lane.endReentry_near {M : Nat} {b : Lane} {l0 : Lane} (m : sub 0x400000000000000000 M = true) (h0 : Lane.Near M b l0) :
    Lane.Near M b (Lane.endReentry l0) := by
  delta Lane.endReentry
  exact Lane.near_ite (Lane.put_near (inReg at_WG_RESYNC (tb m rfl)) h0) h0

theorem Lane.sendToken_near {M : Nat} {b : Lane} {l0 : Lane} (m : sub 0x631400008000000000000001000000000000020000000000000000000000000000000000000000000000000820600000000000004 M = true) (h0 : Lane.Near M b l0) :
    Lane.Near M b (Lane.sendToken l0) := by
  delta Lane.sendToken
  exact Lane.near_ite (Lane.near_ite h0 (Lane.startDrill_near (tr m rfl) h0)) (Lane.near_ite (by
    extract_lets -underBinder +onlyGivenNames x10 x11
    clear_value x10 x11
    extract_lets -underBinder +onlyGivenNames x12
    have h12 : Lane.Near M b x12 := Lane.onWing_near (f := _) (WingState.Near.mk kp kp kp kp kp kp kp kp kp kp kp kp kp kp kp kp kp kp kp (ch m rfl) kp (ch m rfl) kp kp kp kp kp kp kp kp kp kp kp kp kp kp kp kp kp kp kp kp kp kp kp kp kp kp kp kp kp kp kp) (Lane.put_near (inReg at_WG_LEAD (tb m rfl)) h0)
    clear_value x12
    exact Lane.sendBoth_near (tr m rfl) h12) h0)

theorem Lane.compose_near {M : Nat} {b : Lane} {l0 : Lane} (m : sub 0x800000000000000020018000000000000005000000000000000000000000000000000000000000000000000000000000000000000000000000000 M = true) (h0 : Lane.Near M b l0) :
    Lane.Near M b (Lane.compose l0) := by
  delta Lane.compose
  exact Lane.near_ite (Lane.when_near h0 (fun _ g10 => Lane.sendBoth_near (tr m rfl) g10)) (by
    extract_lets -underBinder +onlyGivenNames x11
    clear_value x11
    extract_lets -underBinder +onlyGivenNames x12
    have h12 : Lane.Near M b x12 := Lane.nextChoice_near (tb m rfl) (Lane.onWing_near (f := _) (WingState.Near.mk kp (ch m rfl) kp kp kp kp kp kp kp kp kp kp kp kp kp kp kp kp kp kp kp kp kp kp kp kp kp kp kp kp kp kp kp kp kp kp kp kp kp kp kp kp kp kp kp kp kp kp kp kp kp kp kp) h0)
    clear_value x12
    exact Lane.sendSummary_near (tr m rfl) (Lane.listCommands_near (tr m rfl) (Lane.onSafety_near (f := _) (SafetyState.Near.mk kp kp kp (ch m rfl) kp kp kp kp kp) h12)))

theorem Lane.beatStart_near {M : Nat} {b : Lane} {l0 : Lane} {y1} (m : sub 0x4001851db00007c7ff821000038060797ffc886fbfde205807b17f807effd801004f81755dffffffffffffffffffffffffffffffffffffffffffffffffffffffffffffffffffffffffffffffff M = true) (h0 : Lane.Near M b l0) :
    Lane.Near M b (Lane.beatStart l0 y1) := by
  delta Lane.beatStart
  extract_lets -underBinder +onlyGivenNames x10
  have h10 : Lane.Near M b x10 := Lane.takeEffects_near (tr m rfl) (Lane.sampleBeat_near (tr m rfl) (Lane.beatFrames_near (tr m rfl) (Lane.newBeat_near (tr m rfl) h0)))
  clear_value x10
  extract_lets -underBinder +onlyGivenNames x11
  have h11 : Lane.Near M b x11 := Lane.boxBeat_near (tr m rfl) (Lane.loopsBeat_near (tr m rfl) (Lane.stopBeat_near (tr m rfl) h10))
  clear_value x11
  extract_lets -underBinder +onlyGivenNames x12
  have h12 : Lane.Near M b x12 := Lane.near_ite (Lane.sendToken_near (tr m rfl) (Lane.endReentry_near (tr m rfl) h11)) (Lane.endReentry_near (tr m rfl) h11)
  clear_value x12
  exact Lane.compose_near (tr m rfl) h12

theorem Lane.countDrop_near {M : Nat} {b l : Lane} {y1} {y2} {y3} (m : sub 0x8000000000000000000000000000000000000000000000000000000000000000000000000000000000000000000000000000000000000000000000000000000000000000000 M = true) (h : Lane.Near M b l) :
    Lane.Near M b (Lane.countDrop l y1 y2 y3).1 := by
  delta Lane.countDrop
  extract_lets x
  dsimp only
  exact Lane.onBox_near (f := _) (BoxState.Near.mk kp kp kp kp kp kp kp kp kp kp kp kp (ch m rfl) kp kp kp kp kp kp) h

theorem Lane.thirdDrop_near {M : Nat} {b : Lane} {l0 : Lane} {y1} (m : sub 0x380000000848000001e00050720560008000000000000751103b00002000020014000000000000000000000000000000a00008000020004700600000000200004 M = true) (h0 : Lane.Near M b l0) :
    Lane.Near M b (Lane.thirdDrop l0 y1) := by
  delta Lane.thirdDrop
  exact Lane.near_ite (Lane.laneOut_near (tr m rfl) (Lane.raise_near (inEvt ev_BX_EVT (tb m rfl)) rfl h0)) h0

theorem Lane.discardLoops_near {M : Nat} {b : Lane} {l0 : Lane} {y1} (m : sub 0x201c000000000000000000000000000000000000000000230000060000000000000000000000000000000000000000000 M = true) (h0 : Lane.Near M b l0) :
    Lane.Near M b (Lane.discardLoops l0 y1) := by
  delta Lane.discardLoops
  split
  · extract_lets -underBinder +onlyGivenNames x10
    have h10 : Lane.Near M b x10 := Lane.onLp_near (f := _) (LoopState.Near.mk kp (ch m rfl) (ch m rfl) (ch m rfl) kp kp kp kp kp kp kp kp (ch m rfl) kp) h0
    clear_value x10
    extract_lets -underBinder +onlyGivenNames x11
    have h11 : Lane.Near M b x11 := Lane.bump_near (inReg (at_LE_CNT (Fin.isLt _)) (tb m rfl)) (Lane.noProposal_near (tr m rfl) (Lane.putInt_near (inReg (at_LE_WREF (Fin.isLt _)) (tb m rfl)) h10))
    clear_value x11
    exact Lane.raise_near (inEvt (ev_LE_EVT (Fin.isLt _)) (tb m rfl)) rfl h11

theorem Lane.dropLoops_near {M : Nat} {b : Lane} {l0 : Lane} {y1} (m : sub 0x8000000000380000000848000001e0005072056001a01c000000000751103b00002000020014000000000000230000060000000000a00008000020004700600000000200004 M = true) (h0 : Lane.Near M b l0) :
    Lane.Near M b (Lane.dropLoops l0 y1) := by
  delta Lane.dropLoops
  exact Lane.near_ite h0 (by
    extract_lets -underBinder +onlyGivenNames x10
    have h10 : Lane.Near M b x10 := Lane.discardLoops_near (tr m rfl) h0
    clear_value x10
    extract_lets -underBinder +onlyGivenNames x11
    have h11 : Lane.Near M b x11 := Lane.sendSummary_near (tr m rfl) (Lane.onWing_near (f := _) (WingState.Near.mk kp (ch m rfl) kp kp kp kp kp kp kp kp kp kp kp kp kp kp kp kp kp kp kp kp kp kp kp kp kp kp kp kp kp kp kp kp kp kp kp kp kp kp kp kp kp kp kp kp kp kp kp kp kp kp kp) h10)
    clear_value x11
    extract_lets -underBinder +onlyGivenNames x12
    have h12 : Lane.Near M b x12.1 := Lane.countDrop_near (tr m rfl) h11
    clear_value x12
    exact Lane.thirdDrop_near (tr m rfl) h12)

theorem Lane.dropAgreement_near {M : Nat} {b : Lane} {l0 : Lane} (m : sub 0x38000000000380000000848000001e5005072056000800e000000000751103b00002000020014000000000000040000000000000000a00008000de0004700600000000200004 M = true) (h0 : Lane.Near M b l0) :
    Lane.Near M b (Lane.dropAgreement l0) := by
  delta Lane.dropAgreement
  exact Lane.near_ite h0 (by
    extract_lets -underBinder +onlyGivenNames x10
    clear_value x10
    extract_lets -underBinder +onlyGivenNames x11
    have h11 : Lane.Near M b x11 := Lane.dropAgreed_near (tr m rfl) h0
    clear_value x11
    extract_lets -underBinder +onlyGivenNames x12
    have h12 : Lane.Near M b x12 := Lane.when_near h11 (fun _ g13 => Lane.onBox_near (f := _) (BoxState.Near.mk kp kp kp kp kp kp kp kp kp kp kp kp kp kp (ch m rfl) kp kp kp kp) (Lane.allAxes_near g13 (fun _ _ g14 => Lane.drop_near (inReg (at_DC_TREF (Fin.isLt _)) (tb m rfl)) g14)))
    clear_value x12
    extract_lets -underBinder +onlyGivenNames x15
    have h15 : Lane.Near M b x15 := Lane.allAxes_near (Lane.onBox_near (f := _) (BoxState.Near.mk kp kp kp kp kp kp kp kp kp kp kp kp kp (ch m rfl) kp kp kp kp kp) h12) (fun _ _ g16 => Lane.reDecide_near (tr m rfl) g16)
    clear_value x15
    extract_lets -underBinder +onlyGivenNames x17
    have h17 : Lane.Near M b x17.1 := Lane.countDrop_near (tr m rfl) h15
    clear_value x17
    exact Lane.thirdDrop_near (tr m rfl) h17)

theorem Lane.dropTask_near {M : Nat} {b : Lane} {l0 : Lane} {y1} (m : sub 0x8000000000380000000848000001e00050720560008000000000000751103b00002000020014000000000000000000000000000000a00008000020004700600000040200004 M = true) (h0 : Lane.Near M b l0) :
    Lane.Near M b (Lane.dropTask l0 y1) := by
  delta Lane.dropTask
  split
  · exact h0
  · extract_lets -underBinder +onlyGivenNames x10
    have h10 : Lane.Near M b x10.1 := Lane.countDrop_near (tr m rfl) h0
    clear_value x10
    exact Lane.thirdDrop_near (tr m rfl) (Lane.bump_near (inReg at_BX_DROP (tb m rfl)) (Lane.put_near (inReg at_BX_DROP (tb m rfl)) (Lane.put_near (inReg at_BX_DROP (tb m rfl)) h10)))

theorem Lane.endStop_near {M : Nat} {b : Lane} {l0 : Lane} (m : sub 0xc000000000000000008000000000000000000000001000000000000000000000000000c000000000000000000000000000000000000000000000000 M = true) (h0 : Lane.Near M b l0) :
    Lane.Near M b (Lane.endStop l0) := by
  delta Lane.endStop
  split
  · exact Lane.near_ite h0 (by
    split
    · exact Lane.propose_near (tr m rfl) h0
    · exact Lane.near_ite (Lane.onWing_near (f := _) (WingState.Near.mk kp kp kp kp kp kp kp kp kp kp kp kp kp kp kp kp (ch m rfl) kp kp kp kp kp kp kp kp kp kp kp kp kp kp kp kp kp kp kp kp kp kp kp kp kp kp kp kp kp kp kp kp kp kp kp kp) h0) (Lane.endDefault_near (tr m rfl) h0))
  · exact h0

theorem Lane.writeRepairs_near {M : Nat} {b : Lane} {l0 : Lane} (m : sub 0x10000000008000000000000000000000000000000000000000000000000000000000000000000000000000000000000000000000000000100000000000000000000 M = true) (h0 : Lane.Near M b l0) :
    Lane.Near M b (Lane.writeRepairs l0) := by
  delta Lane.writeRepairs
  extract_lets -underBinder +onlyGivenNames x10
  clear_value x10
  extract_lets -underBinder +onlyGivenNames x11
  have h11 : Lane.Near M b x11 := Lane.onTrust_near (f := _) (TrustState.Near.mk (ch m rfl) kp kp kp kp kp kp kp kp kp kp kp kp kp kp kp kp kp kp kp) h0
  clear_value x11
  exact Lane.drop_near (inReg at_BI_MEMCNT (tb m rfl)) (Lane.onReh_near (f := _) (RehState.Near.mk kp kp kp kp kp kp kp kp kp kp kp kp kp kp kp kp kp (ch m rfl) kp kp kp kp kp kp kp) h11)

theorem Lane.finalFlush_near {M : Nat} {b : Lane} {l0 : Lane} (m : sub 0x10000000008000000000000000000000000000000000000000000000000000000000000000000000000000000000000000000000000000100000000000000000000 M = true) (h0 : Lane.Near M b l0) :
    Lane.Near M b (Lane.finalFlush l0) := by
  delta Lane.finalFlush
  extract_lets -underBinder +onlyGivenNames x10
  clear_value x10
  exact Lane.writeRepairs_near (tr m rfl) (Lane.onTrust_near (f := _) (TrustState.Near.mk (ch m rfl) kp kp kp kp kp kp kp kp kp kp kp kp kp kp kp kp kp kp kp) h0)

theorem Lane.workDone_near {M : Nat} {b : Lane} {l0 : Lane} {y1} (m : sub 0x210000000028000006005e000000000000000000000003800009c3b00000000000014000000000000000000000000000000000000000000100000000000000000000 M = true) (h0 : Lane.Near M b l0) :
    Lane.Near M b (Lane.workDone l0 y1) := by
  delta Lane.workDone
  split
  · exact Lane.endBoost_near (tr m rfl) h0
  · exact Lane.finishSession_near (tr m rfl) h0
  · exact Lane.finishAttest_near (tr m rfl) h0
  · exact Lane.finalFlush_near (tr m rfl) h0
  · exact Lane.writeRepairs_near (tr m rfl) h0
  · exact Lane.onReh_near (f := _) (RehState.Near.mk kp kp kp kp kp kp kp kp kp kp kp kp kp kp kp kp kp kp kp kp kp kp (ch m rfl) kp kp) h0
  · exact h0

theorem Lane.endTicket_near {M : Nat} {b : Lane} {l0 : Lane} {y1} (m : sub 0x5b8000210380000828000006005e000000000000000000000003800009c3b00000000000014000000000000000000000000000010000000000000102000000100022300000 M = true) (h0 : Lane.Near M b l0) :
    Lane.Near M b (Lane.endTicket l0 y1) := by
  delta Lane.endTicket
  split
  · exact h0
  · exact Lane.near_ite h0 (Lane.decideSales_near (tr m rfl) (Lane.workDone_near (tr m rfl) (Lane.retire_near (tr m rfl) h0)))

theorem Lane.takeFigure_near {M : Nat} {b : Lane} {l0 : Lane} {y1} (m : sub 0x500380000000848000001e00050720560008000000000000751903b00002000020014000000000000000000000000000000a0000800002020c700600000000000004 M = true) (h0 : Lane.Near M b l0) :
    Lane.Near M b (Lane.takeFigure l0 y1) := by
  delta Lane.takeFigure
  extract_lets -underBinder +onlyGivenNames x10
  have h10 : Lane.Near M b x10 := Lane.onReh_near (f := _) (RehState.Near.mk kp kp kp kp kp kp kp kp kp kp kp kp kp kp kp kp kp kp kp kp kp (ch m rfl) kp kp kp) (Lane.put_near (inReg at_BI_REFFIG (tb m rfl)) h0)
  clear_value x10
  extract_lets -underBinder +onlyGivenNames x11
  clear_value x11
  extract_lets -underBinder +onlyGivenNames x12
  have h12 : Lane.Near M b x12 := Lane.checkFigures_near (tr m rfl) (Lane.onReh_near (f := _) (RehState.Near.mk kp kp kp kp kp kp kp kp kp kp kp kp kp kp kp kp kp kp kp kp kp kp kp (ch m rfl) kp) h10)
  clear_value x12
  exact Lane.near_ite (Lane.laneOut_near (tr m rfl) h12) h12

theorem Lane.clearCycle_near {M : Nat} {b : Lane} {l0 : Lane} (m : sub 0x8000000000000080000000000000000000000000000000000000000000000000000000000080000000200000000000000 M = true) (h0 : Lane.Near M b l0) :
    Lane.Near M b (Lane.clearCycle l0) := by
  delta Lane.clearCycle
  extract_lets -underBinder +onlyGivenNames x10
  have h10 : Lane.Near M b x10 := Lane.allAxes_near h0 (fun _ _ g11 => Lane.onAx_near (f := _) (AxisState.Near.mk kp kp kp (ch m rfl) kp kp kp kp kp) (Lane.drop_near (inReg (at_DC_CNT (Fin.isLt _)) (tb m rfl)) g11))
  clear_value x10
  extract_lets -underBinder +onlyGivenNames x12
  have h12 : ∀ u0 u1, Lane.Near M b u0 → Lane.Near M b (x12 u0 u1) := by
    intro _ _ g13
    unfold x12
    extract_lets -underBinder +onlyGivenNames x14
    have h14 : Lane.Near M b x14 := Lane.onLinkEnd_near (tr m rfl) g13
    clear_value x14
    exact Lane.near_ite (Lane.onLinkEnd_near (tr m rfl) (Lane.setLink_near (tr m rfl) h14)) h14
  clear_value x12
  exact h12 _ _ (h12 _ _ h10)

theorem Lane.restart_near {M : Nat} {b : Lane} {l0 : Lane} (m : sub 0x1008000000000000000000000000000000022251080000002000000000000000000000000000000000000000a00000000000000000000000000000000 M = true) (h0 : Lane.Near M b l0) :
    Lane.Near M b (Lane.restart l0) := by
  delta Lane.restart
  extract_lets -underBinder +onlyGivenNames x10
  have h10 : Lane.Near M b x10 := Lane.near_foldl (fun _ _ q11 g11 => Lane.drop_near (inReg (at_HS_SSEQ (List.mem_range.1 q11)) (tb m rfl)) g11) h0
  clear_value x10
  extract_lets -underBinder +onlyGivenNames x12
  have h12 : Lane.Near M b x12 := Lane.onPower_near (f := _) (PowerState.Near.mk (ch m rfl) kp kp kp (ch m rfl) kp kp kp kp kp kp kp kp kp kp kp kp kp kp kp kp kp kp kp kp) (Lane.onMode_near (f := _) (ModeState.Near.mk kp kp kp kp kp kp kp (ch m rfl) kp kp) h10)
  clear_value x12
  exact Lane.koSettle_near (tr m rfl) (Lane.allAxes_near h12 (fun _ _ g13 => Lane.settle_near (tr m rfl) g13))

theorem Lane.guardCycle_near {M : Nat} {b : Lane} {l0 : Lane} (m : sub 0x80000000000000000000000000000000000000000000000000000000000000000000000000000000000000020000000000000000 M = true) (h0 : Lane.Near M b l0) :
    Lane.Near M b (Lane.guardCycle l0) := by
  delta Lane.guardCycle
  exact Lane.near_ite h0 (Lane.near_ite (Lane.onWing_near (f := _) (WingState.Near.mk kp kp kp kp kp kp kp kp kp kp kp kp kp kp kp kp kp kp kp kp kp kp kp kp kp kp kp kp (ch m rfl) kp kp kp kp kp kp kp kp kp kp kp kp kp kp kp kp kp kp kp kp kp kp kp kp) h0) (Lane.put_near (inReg at_WG_LEAD (tb m rfl)) h0))

theorem Lane.drillCycle_near {M : Nat} {b : Lane} {l0 : Lane} (m : sub 0x200000000007a0c00000000000000000000000000000000060000000000000000000000000000000000000000000000000820600000000000004 M = true) (h0 : Lane.Near M b l0) :
    Lane.Near M b (Lane.drillCycle l0) := by
  delta Lane.drillCycle
  extract_lets -underBinder +onlyGivenNames x10
  clear_value x10
  extract_lets -underBinder +onlyGivenNames x11
  have h11 : Lane.Near M b x11 := Lane.endDrill_near (tr m rfl) h0
  clear_value x11
  extract_lets -underBinder +onlyGivenNames x12
  have h12 : Lane.Near M b x12 := Lane.when_near h11 (fun _ g13 => Lane.put_near (inReg at_WG_DRILL (tb m rfl)) g13)
  clear_value x12
  exact Lane.near_ite (Lane.takeOverCall_near (tr m rfl) (Lane.takeToken_near (tr m rfl) h12)) h12

theorem Lane.acceptPeer_near {M : Nat} {b : Lane} {l0 : Lane} {y1} (m : sub 0x20000000000000000000000000000000000000000000000000000000000000000000000000000000000000000000600000000000004 M = true) (h0 : Lane.Near M b l0) :
    Lane.Near M b (Lane.acceptPeer l0 y1) := by
  delta Lane.acceptPeer
  exact Lane.near_ite (by
    extract_lets -underBinder +onlyGivenNames x10
    have h10 : Lane.Near M b x10 := Lane.raise_near (inEvt ev_WG_EVT (tb m rfl)) rfl (Lane.setPeerState_near (tr m rfl) h0)
    clear_value x10
    exact Lane.countLive_near (tr m rfl) (Lane.onWing_near (f := _) (WingState.Near.mk kp kp kp kp kp kp kp kp kp kp kp kp kp kp kp kp kp kp kp kp kp kp kp kp kp kp kp kp kp kp kp kp kp kp kp kp kp kp (ch m rfl) kp kp kp kp kp kp kp kp kp kp kp kp kp kp) h10)) (Lane.onWing_near (f := _) (WingState.Near.mk kp kp kp kp kp kp kp kp kp kp kp kp kp kp kp kp kp kp kp kp kp kp kp kp kp kp kp kp kp kp kp kp kp kp kp kp kp kp (ch m rfl) kp kp kp kp kp kp kp kp kp kp kp kp kp kp) h0)

theorem Lane.reenter_near {M : Nat} {b : Lane} {l0 : Lane} (m : sub 0x80800000000001000000000030c000000380751000000002000000000000000000000050000000000000000a000000000f0000400400000000000004 M = true) (h0 : Lane.Near M b l0) :
    Lane.Near M b (Lane.reenter l0) := by
  delta Lane.reenter
  exact Lane.near_ite (by
    extract_lets -underBinder +onlyGivenNames x10
    have h10 : Lane.Near M b x10 := Lane.countLive_near (tr m rfl) (Lane.raise_near (inEvt ev_WG_EVT (tb m rfl)) rfl (Lane.put_near (inReg at_WG_RESYNC (tb m rfl)) (Lane.setLState_near (tr m rfl) h0)))
    clear_value x10
    extract_lets -underBinder +onlyGivenNames x11
    have h11 : Lane.Near M b x11 := Lane.onWing_near (f := _) (WingState.Near.mk kp kp kp kp kp kp kp kp kp kp kp kp kp kp kp kp kp kp kp kp kp kp kp kp kp kp kp kp kp kp kp kp kp kp kp kp kp (ch m rfl) kp kp kp kp kp kp kp kp kp kp kp kp kp kp kp) h10
    clear_value x11
    exact Lane.koSettle_near (tr m rfl) (Lane.allAxes_near h11 (fun _ _ g12 => Lane.near_ite (Lane.enableAxis_near (tr m rfl) g12) g12))) h0

theorem Lane.firstHold_near {M : Nat} {b : Lane} {l0 : Lane} (m : sub 0x1a000000000000000000000000000000000000000001800180400900000000000000000000000000000020000000001180000000000000000000000000000000000000020200000000000004 M = true) (h0 : Lane.Near M b l0) :
    Lane.Near M b (Lane.firstHold l0) := by
  delta Lane.firstHold
  extract_lets -underBinder +onlyGivenNames x10
  clear_value x10
  extract_lets -underBinder +onlyGivenNames x11
  have h11 : ∀ u0 u1, Lane.Near M b u0 → Lane.Near M b (x11 u0 u1) := by
    intro _ _ g12
    unfold x11
    exact Lane.setPeerState_near (tr m rfl) g12
  clear_value x11
  extract_lets -underBinder +onlyGivenNames x13
  have h13 : Lane.Near M b x13 := Lane.countLive_near (tr m rfl) (Lane.setLState_near (tr m rfl) (h11 _ _ (h11 _ _ h0)))
  clear_value x13
  extract_lets -underBinder +onlyGivenNames x14
  have h14 : Lane.Near M b x14 := Lane.onWing_near (f := _) (WingState.Near.mk kp kp kp kp kp (ch m rfl) kp kp (ch m rfl) kp kp kp kp kp kp kp kp kp kp kp kp kp kp kp kp kp kp kp kp kp kp kp kp kp kp kp kp kp kp kp kp kp kp kp (ch m rfl) (ch m rfl) kp kp kp kp kp kp kp) h13
  clear_value x14
  extract_lets -underBinder +onlyGivenNames x15
  clear_value x15
  extract_lets -underBinder +onlyGivenNames x16
  have h16 : Lane.Near M b x16 := Lane.near_ite (Lane.leadSelf_near (tr m rfl) h14) (Lane.onWing_near (f := _) (WingState.Near.mk kp kp kp kp kp kp kp kp kp kp kp kp kp kp kp kp kp kp kp (ch m rfl) kp kp kp kp kp kp kp kp kp kp kp kp kp kp kp kp kp kp kp kp kp kp kp kp kp kp kp kp kp kp kp kp kp) (Lane.put_near (inReg at_WG_STAT (tb m rfl)) h14))
  clear_value x16
  exact Lane.startTime_near (tr m rfl) h16

theorem Lane.takeNextBook_near {M : Nat} {b : Lane} {l0 : Lane} (m : sub 0xc0000000000000001000000003800002a2cc8028bb5e2000018078000030c0000043817515ffffffffffffffffffffffffffffffffffffffffffffffffffffffffffffffffffffffffffffffff M = true) (h0 : Lane.Near M b l0) :
    Lane.Near M b (Lane.takeNextBook l0) := by
  delta Lane.takeNextBook
  split
  · exact Lane.installBook_near (tr m rfl) h0
  · exact h0

theorem Lane.takeNextMode_near {M : Nat} {b : Lane} {l0 : Lane} (m : sub 0xc01a0000000000001000000003800002a2cc8028bb5e2180018078090030c0000043817515ffffffffffffffffffffffffffffffffffffffffffffffffffffffffffffffffffffffffffffffff M = true) (h0 : Lane.Near M b l0) :
    Lane.Near M b (Lane.takeNextMode l0) := by
  delta Lane.takeNextMode
  split
  · exact h0
  · extract_lets -underBinder +onlyGivenNames x10
    clear_value x10
    extract_lets -underBinder +onlyGivenNames x11
    have h11 : Lane.Near M b x11 := Lane.when_near h0 (fun _ g12 => Lane.firstHold_near (tr m rfl) g12)
    clear_value x11
    extract_lets -underBinder +onlyGivenNames x13
    have h13 : Lane.Near M b x13 := Lane.when_near h11 (fun _ g14 => Lane.takeNextBook_near (tr m rfl) g14)
    clear_value x13
    exact Lane.enterMode_near (tr m rfl) (Lane.onWing_near (f := _) (WingState.Near.mk kp kp kp kp kp kp kp kp kp kp kp kp kp kp kp kp kp (ch m rfl) kp kp kp kp kp kp kp kp kp kp kp kp kp kp kp kp kp kp kp kp kp kp kp kp kp kp kp kp kp kp kp kp kp kp kp) h13)

theorem Lane.answerModes_near {M : Nat} {b : Lane} {l0 : Lane} (m : sub 0x1005e00000000000000000000000000000103b00000000000014000000000000000000000000000000000000000000000000000000000000000 M = true) (h0 : Lane.Near M b l0) :
    Lane.Near M b (Lane.answerModes l0) := by
  delta Lane.answerModes
  extract_lets -underBinder +onlyGivenNames x10
  clear_value x10
  extract_lets -underBinder +onlyGivenNames x11
  have h11 : Lane.Near M b x11 := Lane.onSeats_near (f := _) (SeatState.Near.mk kp kp kp kp kp kp kp kp kp kp kp kp kp kp kp kp (ch m rfl) kp kp) h0
  clear_value x11
  refine Lane.near_foldl (fun _ _ q12 g12 => ?_) h11
  split
  · exact Lane.answer_near (tr m rfl) g12
  · exact Lane.near_ite (Lane.answer_near (tr m rfl) g12) (Lane.answer_near (tr m rfl) g12)

theorem Lane.modeCycle_near {M : Nat} {b : Lane} {l0 : Lane} (m : sub 0xc01a0000000000001000000003800002a2cc8029bb5e2180018078090030c0000043817515ffffffffffffffffffffffffffffffffffffffffffffffffffffffffffffffffffffffffffffffff M = true) (h0 : Lane.Near M b l0) :
    Lane.Near M b (Lane.modeCycle l0) := by
  delta Lane.modeCycle
  extract_lets -underBinder +onlyGivenNames x10
  have h10 : Lane.Near M b x10 := Lane.answerModes_near (tr m rfl) (Lane.near_ite h0 (Lane.takeNextMode_near (tr m rfl) h0))
  clear_value x10
  exact Lane.near_ite (Lane.onWing_near (f := _) (WingState.Near.mk kp kp kp kp kp kp kp kp kp kp kp kp kp kp kp kp (ch m rfl) kp kp kp kp kp kp kp kp kp kp kp kp kp kp kp kp kp kp kp kp kp kp kp kp kp kp kp kp kp kp kp kp kp kp kp kp) h10) h10

theorem Lane.mirrorCycle_near {M : Nat} {b : Lane} {l0 : Lane} (m : sub 0x1000000040000000001818000000000e0000000000000000000005ffffffffffffffffffffffffffffffffffffffffffffffffffffffffffffffffffffffffffffffff M = true) (h0 : Lane.Near M b l0) :
    Lane.Near M b (Lane.mirrorCycle l0) := by
  delta Lane.mirrorCycle
  split
  · exact Lane.near_ite (Lane.onWing_near (f := _) (WingState.Near.mk kp kp kp kp kp kp kp kp kp kp kp kp kp kp kp kp kp kp kp kp kp kp kp kp (ch m rfl) kp kp kp kp kp kp kp kp kp kp kp kp kp kp kp kp kp kp kp kp kp kp kp kp kp kp kp kp) h0) (Lane.applyMirror_near (tr m rfl) h0)
  · exact h0

theorem Lane.clearLatches_near {M : Nat} {b : Lane} {l0 : Lane} (m : sub 0x10000000000000000000000000000000000000000000000000000000000000000000000 M = true) (h0 : Lane.Near M b l0) :
    Lane.Near M b (Lane.clearLatches l0) := by
  delta Lane.clearLatches
  exact Lane.put_near (inReg at_SF_STAT (tb m rfl)) h0

theorem Lane.clearDisc_near {M : Nat} {b : Lane} {l0 : Lane} (m : sub 0x40000000000000000000000000000000000000000000000000000000000000000000000 M = true) (h0 : Lane.Near M b l0) :
    Lane.Near M b (Lane.clearDisc l0) := by
  delta Lane.clearDisc
  exact Lane.near_foldl (fun _ _ q10 g10 => Lane.near_ite (Lane.ownPair_near (tr m rfl) (Lane.putBit_near (inReg at_SF_OWN (tb m rfl)) g10)) g10) h0

theorem Lane.resetCycle_near {M : Nat} {b : Lane} {l0 : Lane} (m : sub 0xa0000000000000000000000000000000000010000000060d0000000000000000000000000000000000000000000000000000000000000000000000 M = true) (h0 : Lane.Near M b l0) :
    Lane.Near M b (Lane.resetCycle l0) := by
  delta Lane.resetCycle
  exact Lane.near_ite (by
    extract_lets -underBinder +onlyGivenNames x10
    have h10 : Lane.Near M b x10 := Lane.clearDisc_near (tr m rfl) (Lane.clearLatches_near (tr m rfl) (Lane.onSafety_near (f := _) (SafetyState.Near.mk kp kp kp kp kp (ch m rfl) kp kp kp) h0))
    clear_value x10
    exact Lane.koSettle_near (tr m rfl) (Lane.bump_near (inReg at_SF_RST (tb m rfl)) (Lane.raise_near (inEvt ev_SF_EVT (tb m rfl)) rfl h10))) h0

theorem Lane.softCycle_near {M : Nat} {b : Lane} {l0 : Lane} {y1} (m : sub 0x1000000000000000000000000000000000000000000000000000020000000000000000000000000000000000000000000 M = true) (h0 : Lane.Near M b l0) :
    Lane.Near M b (Lane.softCycle l0 y1) := by
  delta Lane.softCycle
  exact Lane.near_ite (Lane.onLp_near (f := _) (LoopState.Near.mk kp kp kp kp kp kp kp kp kp kp kp (ch m rfl) kp kp) (Lane.raise_near (inReg (at_LE_STAT (Fin.isLt _)) (tb m rfl)).1 rfl h0)) h0

theorem Lane.cartCycle_near {M : Nat} {b : Lane} {l0 : Lane} {y1} (m : sub 0x380400002cc8028bb5e2000018078000030c000000380751903b11b0200022001400000000000005c000020000000000a000080000f0006020600000000800004 M = true) (h0 : Lane.Near M b l0) :
    Lane.Near M b (Lane.cartCycle l0 y1) := by
  delta Lane.cartCycle
  exact Lane.near_ite h0 (by
    extract_lets -underBinder +onlyGivenNames x10
    clear_value x10
    extract_lets -underBinder +onlyGivenNames x11
    have h11 : Lane.Near M b x11 := Lane.cartCheck_near (tr m rfl) h0
    clear_value x11
    exact Lane.near_ite (Lane.startLife_near (tr m rfl) h11) h11)

theorem Lane.cryptoCycle_near {M : Nat} {b : Lane} {l0 : Lane} (m : sub 0x8000000000000000000000005e00000000000000000000000000000103b00000000000014000000000000000000000000000000000000000000000000000000002100000 M = true) (h0 : Lane.Near M b l0) :
    Lane.Near M b (Lane.cryptoCycle l0) := by
  delta Lane.cryptoCycle
  extract_lets -underBinder +onlyGivenNames x10 x11
  clear_value x10 x11
  extract_lets -underBinder +onlyGivenNames x12
  have h12 : Lane.Near M b x12 := Lane.showBox_near (tr m rfl) (Lane.onBox_near (f := _) (BoxState.Near.mk (ch m rfl) kp kp kp kp kp kp kp kp kp kp kp kp kp kp kp kp kp kp) h0)
  clear_value x12
  refine Lane.near_foldl (fun _ _ q13 g13 => ?_) h12
  split
  · exact Lane.answer_near (tr m rfl) g13
  · exact g13

theorem Lane.ringPartCycle_near {M : Nat} {b : Lane} {l0 : Lane} (m : sub 0xe0007f3ffdfffc00000000000000000000000000000000000000000000000000000000001000000000000000fd0000000040875800000000000000000000000000000000000000000000000000 M = true) (h0 : Lane.Near M b l0) :
    Lane.Near M b (Lane.ringPartCycle l0) := by
  delta Lane.ringPartCycle
  exact Lane.near_ite (Lane.ringCycle_near (tr m rfl) h0) (Lane.ringCycle_near (tr m rfl) (Lane.onRing_near (f := _) (RingState.Near.mk kp (ch m rfl) kp kp kp kp kp kp kp kp kp kp kp kp kp kp kp kp kp kp kp kp kp kp kp kp kp kp kp kp kp kp kp kp kp kp kp) h0))

theorem Lane.cueInstant_near {M : Nat} {b : Lane} {l0 : Lane} {y1} (m : sub 0xe07a7f3ffdfffc001080105003804002a3cea039ff5e218707aefe090930c0000043a37d5dffffffffffffffffffffffffffffffffffffffffffffffffffffffffffffffffffffffffffffffff M = true) (h0 : Lane.Near M b l0) :
    Lane.Near M b (Lane.cueInstant l0 y1) := by
  delta Lane.cueInstant
  extract_lets -underBinder +onlyGivenNames x10
  have h10 : Lane.Near M b x10 := Lane.onMode_near (f := _) (ModeState.Near.mk (ch m rfl) kp kp kp kp kp kp kp kp kp) h0
  clear_value x10
  exact Lane.near_ite (Lane.restart_near (tr m rfl) h10) (by
    extract_lets -underBinder +onlyGivenNames x11
    have h11 : Lane.Near M b x11 := Lane.drillCycle_near (tr m rfl) (Lane.guardCycle_near (tr m rfl) (Lane.clearCycle_near (tr m rfl) (Lane.takeFigure_near (tr m rfl) h10)))
    clear_value x11
    extract_lets -underBinder +onlyGivenNames x12
    have h12 : Lane.Near M b x12 := Lane.reenter_near (tr m rfl) (Lane.acceptPeer_near (tr m rfl) (Lane.acceptPeer_near (tr m rfl) h11))
    clear_value x12
    extract_lets -underBinder +onlyGivenNames x13
    have h13 : Lane.Near M b x13 := Lane.mirrorCycle_near (tr m rfl) (Lane.modeCycle_near (tr m rfl) h12)
    clear_value x13
    extract_lets -underBinder +onlyGivenNames x14
    have h14 : Lane.Near M b x14 := Lane.resetCycle_near (tr m rfl) (Lane.when_near h13 (fun _ g15 => Lane.spotCycle_near (tr m rfl) g15))
    clear_value x14
    extract_lets -underBinder +onlyGivenNames x16
    have h16 : Lane.Near M b x16 := Lane.allAxes_near h14 (fun _ _ g17 => Lane.cartCycle_near (tr m rfl) (Lane.softCycle_near (tr m rfl) g17))
    clear_value x16
    exact Lane.timeCycle_near (tr m rfl) (Lane.ringPartCycle_near (tr m rfl) (Lane.trioCycle_near (tr m rfl) (Lane.cryptoCycle_near (tr m rfl) h16))))

theorem Lane.voterStore_near {M : Nat} {b : Lane} {l0 : Lane} {y1} (m : sub 0x4001851db0000400048210000380000002dc8068bb5e2000019078000830c0000043817595ffffffffffffffffffffffffffffffffffffffffffffffffffffffffffffffffffffffffffffffff M = true) (h0 : Lane.Near M b l0) :
    Lane.Near M b (Lane.voterStore l0 y1) := by
  delta Lane.voterStore
  extract_lets -underBinder +onlyGivenNames x10 x11 x12
  clear_value x10 x11 x12
  exact Lane.near_ite (Lane.near_ite h0 (Lane.applyWrite_near (tr m rfl) h0)) (Lane.near_ite (Lane.setStage_near (tb m rfl) h0) h0)

theorem Lane.onLast_near {M : Nat} {b : Lane} {l0 : Lane} {y1} (m : sub 0x1000000000000000000000000000000000000000000000000000000000000000000000000000000000000000000000000000000000000000000000000000000000000 M = true) (h0 : Lane.Near M b l0) :
    Lane.Near M b (Lane.onLast l0 y1) := by
  delta Lane.onLast
  exact Lane.onTrio_near (f := _) (TrioState.Near.mk (ch m rfl) kp kp kp kp kp kp kp kp kp kp kp kp kp kp) h0

theorem Lane.voterLoad_near {M : Nat} {b : Lane} {l0 : Lane} {y1} (m : sub 0x110000000000000000080000000000000000000018000000000040002000000053e000000003c018000000000000000402000000000000000000420001000000000000 M = true) (h0 : Lane.Near M b l0) :
    Lane.Near M b (Lane.voterLoad l0 y1) := by
  delta Lane.voterLoad
  extract_lets -underBinder +onlyGivenNames x10
  clear_value x10
  extract_lets -underBinder +onlyGivenNames x11
  have h11 : Lane.Near M b x11 := Lane.when_near h0 (fun _ g12 => Lane.onRead_near (tr m rfl) g12)
  clear_value x11
  extract_lets -underBinder +onlyGivenNames x13
  clear_value x13
  exact Lane.onLast_near (tr m rfl) h11

theorem Lane.commitTxn_near {M : Nat} {b : Lane} {l0 : Lane} {y1} (m : sub 0x4001851db000040004821f000380000002dc8068bb5e2000019078000830c0000043817595ffffffffffffffffffffffffffffffffffffffffffffffffffffffffffffffffffffffffffffffff M = true) (h0 : Lane.Near M b l0) :
    Lane.Near M b (Lane.commitTxn l0 y1) := by
  delta Lane.commitTxn
  extract_lets -underBinder +onlyGivenNames x10
  clear_value x10
  extract_lets -underBinder +onlyGivenNames x11
  have h11 : Lane.Near M b x11 := Lane.onTrio_near (f := _) (TrioState.Near.mk (ch m rfl) (ch m rfl) (ch m rfl) (ch m rfl) kp kp kp kp kp kp kp kp kp kp kp) h0
  clear_value x11
  exact Lane.near_ite (Lane.voterStore_near (tr m rfl) h11) h11

theorem Lane.showLag_near {M : Nat} {b : Lane} {l0 : Lane} {y1} (m : sub 0x10000000000000 M = true) (h0 : Lane.Near M b l0) :
    Lane.Near M b (Lane.showLag l0 y1) := by
  delta Lane.showLag
  extract_lets -underBinder +onlyGivenNames x10
  clear_value x10
  exact Lane.put_near (inReg at_TV_SKEW (tb m rfl)) (Lane.put_near (inReg at_TV_SKEW (tb m rfl)) h0)

theorem Lane.pairMismatch_near {M : Nat} {b : Lane} {l0 : Lane} {y1} {y2} (m : sub 0x5000380000000848000001e00050720560008000000000000751103b00002000020014000000000000000000000000000000a0000800002000470060e60000000000c M = true) (h0 : Lane.Near M b l0) :
    Lane.Near M b (Lane.pairMismatch l0 y1 y2) := by
  delta Lane.pairMismatch
  exact Lane.haltTrio_near (tr m rfl) (Lane.showOdd_near (tr m rfl) h0) ⟨(inEvt ev_TV_EVT (tb m rfl)), rfl⟩

theorem Lane.noMajority_near {M : Nat} {b : Lane} {l0 : Lane} {y1} (m : sub 0x5000380000000848000001e00050720560008000000000000751103b00002000020014000000000000000000000000000000a0000800002000470060e60000000000c M = true) (h0 : Lane.Near M b l0) :
    Lane.Near M b (Lane.noMajority l0 y1) := by
  delta Lane.noMajority
  exact Lane.haltTrio_near (tr m rfl) (Lane.showOdd_near (tr m rfl) h0) ⟨(inEvt ev_TV_EVT (tb m rfl)), rfl⟩

theorem Lane.voterFault_near {M : Nat} {b : Lane} {l0 : Lane} {y1} (m : sub 0x5000380000000848000001e00050720560008000000000000751103b00002000020014000000000000000000000000000000a0000800002000470060e60000000000c M = true) (h0 : Lane.Near M b l0) :
    Lane.Near M b (Lane.voterFault l0 y1) := by
  delta Lane.voterFault
  exact Lane.haltTrio_near (tr m rfl) (Lane.showOdd_near (tr m rfl) h0) ⟨(inEvt ev_TV_EVT (tb m rfl)), rfl⟩

theorem Lane.closeExercise_near {M : Nat} {b : Lane} {l0 : Lane} {y1} {y2} (m : sub 0x380000000848000001e00050720560008000000000000751103b00002000020014000000000000000000000000000000a00008000020004700680400000000004 M = true) (h0 : Lane.Near M b l0) :
    Lane.Near M b (Lane.closeExercise l0 y1 y2) := by
  delta Lane.closeExercise
  split
  · exact h0
  · exact Lane.near_ite (Lane.voidExercise_near (tr m rfl) h0) (Lane.endExercise_near (tr m rfl) h0)

theorem Lane.decideTxn_near {M : Nat} {b : Lane} {l0 : Lane} {y1} (m : sub 0x350000000000000000080000000000000000000018000000000040002000000053e000000003c018000000000000000402000000000000000000420001000000000000 M = true) (h0 : Lane.Near M b l0) :
    Lane.Near M b (Lane.decideTxn l0 y1) := by
  delta Lane.decideTxn
  extract_lets -underBinder +onlyGivenNames x10
  have h10 : Lane.Near M b x10 := Lane.onTrio_near (f := _) (TrioState.Near.mk (ch m rfl) kp (ch m rfl) kp (ch m rfl) (ch m rfl) kp kp kp kp kp kp kp kp kp) h0
  clear_value x10
  exact Lane.near_ite (Lane.voterLoad_near (tr m rfl) h10) h10

theorem Lane.flushDecided_near {M k : Nat} {b l : Lane} (m : sub 0x4001851db000040004821f000380000002dc8068bb5e2000019078000830c0000043817595ffffffffffffffffffffffffffffffffffffffffffffffffffffffffffffffffffffffffffffffff M = true) (h : Lane.Near M b l) :
    Lane.Near M b (Lane.flushDecided k l) := by
  induction k generalizing l with
  | zero => exact h
  | succ k ih =>
    unfold Lane.flushDecided
    split
    · split
      · exact ih (Lane.commitTxn_near (tr m rfl) h)
      · exact h
    · exact h

theorem Lane.makeOdd_near {M : Nat} {b : Lane} {l0 : Lane} {y1} {y2} {y3} (m : sub 0x4001851db000040004ffff000380000002dc8068bb5e2000019078000830c000004381759dffffffffffffffffffffffffffffffffffffffffffffffffffffffffffffffffffffffffffffffff M = true) (h0 : Lane.Near M b l0) :
    Lane.Near M b (Lane.makeOdd l0 y1 y2 y3) := by
  delta Lane.makeOdd
  extract_lets -underBinder +onlyGivenNames x10
  have h10 : Lane.Near M b x10 := Lane.oddCore_near (tr m rfl) h0
  clear_value x10
  exact Lane.flushDecided_near (tr m rfl) h10

theorem Lane.judgeThree_near {M : Nat} {b : Lane} {l0 : Lane} {y1} {y2} {y3} {y4} {y5} {y6} (m : sub 0x4001851db000040004ffff000380000002dc8068bb5e200507b07e000830d80000438175ddffffffffffffffffffffffffffffffffffffffffffffffffffffffffffffffffffffffffffffffff M = true) (h0 : Lane.Near M b l0) :
    Lane.Near M b (Lane.judgeThree l0 y1 y2 y3 y4 y5 y6) := by
  delta Lane.judgeThree
  extract_lets -underBinder +onlyGivenNames x10
  clear_value x10
  exact Lane.near_ite (Lane.noMajority_near (tr m rfl) h0) (Lane.near_ite (Lane.voterFault_near (tr m rfl) h0) (by
    extract_lets -underBinder +onlyGivenNames x11
    clear_value x11
    exact Lane.makeOdd_near (tr m rfl) (Lane.commitTxn_near (tr m rfl) (Lane.decideTxn_near (tr m rfl) h0))))

theorem Lane.judgeTrio_near {M : Nat} {b : Lane} {l0 : Lane} {y1} {y2} (m : sub 0x4001851db000040004ffff000380000002dc8068bb5e200507b07e000830d80000438175ddffffffffffffffffffffffffffffffffffffffffffffffffffffffffffffffffffffffffffffffff M = true) (h0 : Lane.Near M b l0) :
    Lane.Near M b (Lane.judgeTrio l0 y1 y2) := by
  delta Lane.judgeTrio
  split
  · exact Lane.near_ite (Lane.near_ite (Lane.decideTxn_near (tr m rfl) h0) (Lane.voterFault_near (tr m rfl) h0)) h0
  · exact Lane.near_ite (Lane.near_ite (Lane.closeExercise_near (tr m rfl) (Lane.commitTxn_near (tr m rfl) (Lane.decideTxn_near (tr m rfl) h0))) (Lane.voterFault_near (tr m rfl) h0)) (Lane.judgeThree_near (tr m rfl) (Lane.closeExercise_near (tr m rfl) h0))
  · exact h0

theorem Lane.judgePair_near {M : Nat} {b : Lane} {l0 : Lane} {y1} {y2} (m : sub 0x4001851db000040004823f000380000002dc8068bb5e200507b07e000830d80000438175d5ffffffffffffffffffffffffffffffffffffffffffffffffffffffffffffffffffffffffffffffff M = true) (h0 : Lane.Near M b l0) :
    Lane.Near M b (Lane.judgePair l0 y1 y2) := by
  delta Lane.judgePair
  split
  · extract_lets -underBinder +onlyGivenNames x10
    have h10 : Lane.Near M b x10 := Lane.closeExercise_near (tr m rfl) h0
    clear_value x10
    exact Lane.near_ite h10 (Lane.near_ite (Lane.near_ite (Lane.commitTxn_near (tr m rfl) (Lane.decideTxn_near (tr m rfl) h10)) (Lane.voterFault_near (tr m rfl) h10)) (Lane.pairMismatch_near (tr m rfl) h10))
  · exact h0

theorem Lane.giveEvents_near {M : Nat} {b : Lane} {l0 : Lane} {y1} {y2} (m : sub 0x4000000000000000000000000000000000000000000000000000000000000000000000000000000000000000000000000000000000000000000000000000000000000 M = true) (h0 : Lane.Near M b l0) :
    Lane.Near M b (Lane.giveEvents l0 y1 y2) := by
  delta Lane.giveEvents
  exact Lane.onTrio_near (f := _) (TrioState.Near.mk kp kp (ch m rfl) kp kp kp kp kp kp kp kp kp kp kp kp) h0

theorem Lane.judgeThird_near {M : Nat} {b : Lane} {l0 : Lane} {y1} {y2} {y3} {y4} (m : sub 0x4001851db000040004ffff000380000002dc8068bb5e200507b07e000830c000004381759dffffffffffffffffffffffffffffffffffffffffffffffffffffffffffffffffffffffffffffffff M = true) (h0 : Lane.Near M b l0) :
    Lane.Near M b (Lane.judgeThird l0 y1 y2 y3 y4) := by
  delta Lane.judgeThird
  extract_lets -underBinder +onlyGivenNames x10
  have h10 : Lane.Near M b x10 := Lane.showLag_near (tr m rfl) h0
  clear_value x10
  extract_lets -underBinder +onlyGivenNames x11
  clear_value x11
  extract_lets -underBinder +onlyGivenNames x12
  have h12 : Lane.Near M b x12 := Lane.closeExercise_near (tr m rfl) (Lane.commitTxn_near (tr m rfl) h10)
  clear_value x12
  exact Lane.near_ite (Lane.makeOdd_near (tr m rfl) h12) h12

theorem Lane.placeCopy_near {M : Nat} {b : Lane} {l0 : Lane} {y1} {y2} (m : sub 0x805000000000000000000000000000000000000000000000000000000000000000000000000000000000000000000000000000000000000000000000000000000000000 M = true) (h0 : Lane.Near M b l0) :
    Lane.Near M b (Lane.placeCopy l0 y1 y2) := by
  delta Lane.placeCopy
  extract_lets -underBinder +onlyGivenNames x10 x11 x12 x13
  clear_value x10 x11 x12 x13
  exact Lane.onTrio_near (f := _) (TrioState.Near.mk (ch m rfl) kp (ch m rfl) kp kp kp kp kp kp kp kp (ch m rfl) kp kp kp) h0

theorem Lane.releaseHeld_near {M : Nat} {b : Lane} {l0 : Lane} (m : sub 0x805000000000000000000000000000000000000000000000000000000000000000000000000000000000000000000000000000000000000000000000000000000000000 M = true) (h0 : Lane.Near M b l0) :
    Lane.Near M b (Lane.releaseHeld l0) := by
  delta Lane.releaseHeld
  refine Lane.near_foldl (fun _ _ q10 g10 => ?_) h0
  split
  · exact Lane.near_ite (Lane.placeCopy_near (tr m rfl) g10) g10
  · exact g10

theorem Lane.judgeLast_near {M k : Nat} {y : Bool} {b l : Lane} (m : sub 0x4001851db000040004ffff000380000002dc8068bb5e200507b07e000830d80000438175ddffffffffffffffffffffffffffffffffffffffffffffffffffffffffffffffffffffffffffffffff M = true) (h : Lane.Near M b l) :
    Lane.Near M b (Lane.judgeLast k y l) := by
  induction k generalizing l with
  | zero => exact h
  | succ k ih =>
    unfold Lane.judgeLast
    split
    · exact h
    · split
      · exact h
      · extract_lets x
        have hx : Lane.Near M b x := Lane.near_ite (Lane.judgeTrio_near (tr m rfl) h) (Lane.judgePair_near (tr m rfl) h)
        clear_value x
        exact Lane.near_ite hx (ih (Lane.releaseHeld_near (tr m rfl) hx))

theorem Lane.issue_near {M : Nat} {b : Lane} {l0 : Lane} {y1} {y2} {y3} (m : sub 0x4001851db000040004ffff000380000002dc8068bb5e200507b07e000830d80000438175ddffffffffffffffffffffffffffffffffffffffffffffffffffffffffffffffffffffffffffffffff M = true) (h0 : Lane.Near M b l0) :
    Lane.Near M b (Lane.issue l0 y1 y2 y3) := by
  delta Lane.issue
  extract_lets -underBinder +onlyGivenNames x10
  clear_value x10
  exact Lane.near_ite h0 (Lane.near_ite (Lane.onTrio_near (f := _) (TrioState.Near.mk kp kp (ch m rfl) kp kp kp kp kp kp kp kp kp kp kp kp) h0) (by
    extract_lets -underBinder +onlyGivenNames x11
    have h11 : Lane.Near M b x11 := Lane.placeCopy_near (tr m rfl) h0
    clear_value x11
    split
    · exact h11
    · split
      · exact Lane.judgeLast_near (tr m rfl) h11
      · extract_lets -underBinder +onlyGivenNames x12
        have h12 : Lane.Near M b x12 := Lane.giveEvents_near (tr m rfl) h11
        clear_value x12
        exact Lane.near_ite h12 (Lane.judgeThird_near (tr m rfl) h12)))

theorem Lane.closeDecided_near {M : Nat} {b : Lane} {l0 : Lane} {y1} {y2} {y3} (m : sub 0x4001851db000040004ffff000380000002dc8068bb5e200507b07e000830c000004381759dffffffffffffffffffffffffffffffffffffffffffffffffffffffffffffffffffffffffffffffff M = true) (h0 : Lane.Near M b l0) :
    Lane.Near M b (Lane.closeDecided l0 y1 y2 y3) := by
  delta Lane.closeDecided
  split
  · exact Lane.endExercise_near (tr m rfl) (Lane.commitTxn_near (tr m rfl) h0)
  · extract_lets -underBinder +onlyGivenNames x10
    clear_value x10
    extract_lets -underBinder +onlyGivenNames x11
    have h11 : Lane.Near M b x11 := Lane.closeExercise_near (tr m rfl) (Lane.commitTxn_near (tr m rfl) h0)
    clear_value x11
    exact Lane.makeOdd_near (tr m rfl) (Lane.onTrio_near (f := _) (TrioState.Near.mk kp kp kp kp kp kp kp kp (ch m rfl) kp kp kp kp kp kp) h11)

theorem Lane.closeUndecided_near {M : Nat} {b : Lane} {l0 : Lane} {y1} {y2} {y3} (m : sub 0x4001851db000040004ffff000380000002dc8068bb5e200507b07e000830d80000438175ddffffffffffffffffffffffffffffffffffffffffffffffffffffffffffffffffffffffffffffffff M = true) (h0 : Lane.Near M b l0) :
    Lane.Near M b (Lane.closeUndecided l0 y1 y2 y3) := by
  delta Lane.closeUndecided
  extract_lets -underBinder +onlyGivenNames x10
  have h10 : Lane.Near M b x10 := Lane.closeExercise_near (tr m rfl) h0
  clear_value x10
  split
  · exact Lane.judgeThree_near (tr m rfl) h10
  · exact Lane.noMajority_near (tr m rfl) h10

theorem Lane.closeWindows_near {M k y : Nat} {b l : Lane} (m : sub 0x4001851db000040004ffff000380000002dc8068bb5e200507b07e000830d80000438175ddffffffffffffffffffffffffffffffffffffffffffffffffffffffffffffffffffffffffffffffff M = true) (h : Lane.Near M b l) :
    Lane.Near M b (Lane.closeWindows k y l) := by
  induction k generalizing l with
  | zero => exact h
  | succ k ih =>
    unfold Lane.closeWindows
    dsimp only
    split
    · exact h
    · exact h
    · split
      · exact Lane.near_ite (ih (Lane.closeDecided_near (tr m rfl) h)) h
      · exact Lane.near_ite (Lane.closeUndecided_near (tr m rfl) h) h
      · exact h
    · split
      · exact Lane.near_ite (Lane.pairMismatch_near (tr m rfl) (Lane.closeExercise_near (tr m rfl) h)) h
      · exact h

theorem Lane.discardCopy_near {M : Nat} {b : Lane} {l0 : Lane} {y1} (m : sub 0x100000000000000000000000000000000000000000000000000000000000000000000000000000000000000000000000000000000000000000000000010000000000000 M = true) (h0 : Lane.Near M b l0) :
    Lane.Near M b (Lane.discardCopy l0 y1) := by
  delta Lane.discardCopy
  split
  · exact Lane.near_ite (Lane.onTrio_near (f := _) (TrioState.Near.mk kp kp kp kp kp kp kp kp (ch m rfl) kp kp kp kp kp kp) (Lane.showLag_near (tr m rfl) h0)) h0
  · exact h0

theorem Lane.loneCopy_near {M : Nat} {b : Lane} {l0 : Lane} {y1} (m : sub 0x4001851db000040004ffff000380000002dc8068bb5e200507b07e000830d80000438175ddffffffffffffffffffffffffffffffffffffffffffffffffffffffffffffffffffffffffffffffff M = true) (h0 : Lane.Near M b l0) :
    Lane.Near M b (Lane.loneCopy l0 y1) := by
  delta Lane.loneCopy
  split
  · exact Lane.near_ite (Lane.noMajority_near (tr m rfl) (Lane.closeExercise_near (tr m rfl) h0)) h0
  · exact Lane.near_ite (Lane.noMajority_near (tr m rfl) (Lane.closeExercise_near (tr m rfl) h0)) h0
  · exact Lane.near_ite h0 (by
    extract_lets -underBinder +onlyGivenNames x10
    have h10 : Lane.Near M b x10 := Lane.closeExercise_near (tr m rfl) h0
    clear_value x10
    exact Lane.near_ite (Lane.makeOdd_near (tr m rfl) (Lane.commitTxn_near (tr m rfl) (Lane.decideTxn_near (tr m rfl) h10))) (Lane.noMajority_near (tr m rfl) h10))
  · exact h0

end Sys2Proof.Machine
end

