-- ==== Sys2Proof/Laws/Events.lean ====
section
/-!
SUPPORT. What each command may change: one lemma per command, over its mask of registers and hidden parts.
-/

namespace Sys2Proof.Machine

-- one elaboration thread: thousands of small proofs would otherwise start one each
set_option Elab.async false

/-- What an outcome of an event is: the lane of the event runs `f` from its time on where the guard `g` holds, no other lane
and no waiting command changes, and `f` stays within every mask that contains `w`. -/
def Runs (g : Lane → Bool) (w : Nat) (e : At) (s : State) (o : Host.Outcome State Fault Refusal) : Prop :=
  ∃ f : Lane → Lane, o = .next (s.onLane e.lane fun l => if g l then f (l.advanceTo e.t) else l) ∧
    ∀ M b l, sub w M = true → Lane.Near M b l → Lane.Near M b (f l)

theorem runs_logic {w : Nat} {e : At} {s : State} {f : Lane → Lane}
    (h : ∀ M b l, sub w M = true → Lane.Near M b l → Lane.Near M b (f l)) :
    Runs Lane.logicUp w e s (.next (s.logicEvent e f)) := ⟨f, rfl, h⟩

theorem runs_power {w : Nat} {e : At} {s : State} {f : Lane → Lane}
    (h : ∀ M b l, sub w M = true → Lane.Near M b l → Lane.Near M b (f l)) :
    Runs Lane.monitorsUp w e s (.next (s.powerEvent e f)) := ⟨f, rfl, h⟩

theorem runs_any {w : Nat} {e : At} {s : State} {f : Lane → Lane}
    (h : ∀ M b l, sub w M = true → Lane.Near M b l → Lane.Near M b (f l)) :
    Runs (fun _ => true) w e s (.next (s.anyEvent e f)) := ⟨f, rfl, h⟩

theorem execBeatStart_event {a0} {a1} {s} :
    Runs Lane.logicUp 0x4001851db00007c7ff821000038060797ffc886fbfde205807b17f807effd801004f81755dffffffffffffffffffffffffffffffffffffffffffffffffffffffffffffffffffffffffffffffff a0 s (execBeatStart a0 a1 s) := by
  refine runs_logic fun M b l m g10 => ?_
  exact Lane.beatStart_near (tr m rfl) g10

theorem execPeerSummary_event {a0} {a1} {a2} {a3} {a4} {s} :
    Runs Lane.logicUp 0xc800000000000000100000000000000000000000000000000000000000000000000000000000000001e200000000000000 a0 s (execPeerSummary a0 a1 a2 a3 a4 s) := by
  refine runs_logic fun M b l m g10 => ?_
  exact Lane.near_ite g10 (Lane.near_ite (Lane.takeSummary_near (tr m rfl) (Lane.validFrame_near (tr m rfl) g10)) (Lane.near_ite (Lane.takeSummary_near (tr m rfl) (Lane.aliveLink_near (tr m rfl) g10)) (Lane.aliveLink_near (tr m rfl) g10)))

theorem execReceiveDeadline_event {a0} {s} :
    Runs Lane.logicUp 0x180000000002000001000038060081addf4b8bb5ef807ffa6fe7f2930e00000038075d103b11ab209432001400000198000005d000060000000000a00008000df00067e6600000000a00004 a0 s (execReceiveDeadline a0 s) := by
  refine runs_logic fun M b l m g10 => ?_
  exact Lane.deadline_near (tr m rfl) g10

theorem execLoopDeadlineDrop_event {a0} {a1} {s} :
    Runs Lane.logicUp 0x38000000000380000000848000001e5005072056001a01e000000000751103b00002000020014000000000000270000060000000000a00008000de0004700600000040200004 a0 s (execLoopDeadlineDrop a0 a1 s) := by
  refine runs_logic fun M b l m g10 => ?_
  split
  · exact Lane.dropLoops_near (tr m rfl) g10
  · exact Lane.dropAgreement_near (tr m rfl) g10
  · exact Lane.dropTask_near (tr m rfl) g10

theorem execLadderCrossing_event {a0} {a1} {a2} {a3} {a4} {a5} {a6} {s} :
    Runs Lane.logicUp 0x380000002cc8028bb5e2000018078000030c000000380f71903b1000200022001400000000000005c000020000000000a00018003af0006020600000000800004 a0 s (execLadderCrossing a0 a1 a2 a3 a4 a5 a6 s) := by
  refine runs_logic fun M b l m g10 => ?_
  exact Lane.near_ite (by
    extract_lets -underBinder +onlyGivenNames x11
    have h11 : Lane.Near M b x11 := Lane.insertLost_near (tr m rfl) (Lane.ascRearm_near (tr m rfl) (Lane.stirDecay_near (tr m rfl) (Lane.queueEvent_near (tr m rfl) g10)))
    clear_value x11
    exact Lane.near_ite (Lane.decideSwitch_near (tr m rfl) (Lane.takeEvents_near (tr m rfl) h11)) h11) g10

theorem execUnderstudyUpdate_event {a0} {a1} {s} :
    Runs Lane.logicUp 0x380000002cc8028bb5e2000018078000030c000000380f71903b1000200022001400000000000005c000020000000000a00018003af0006020600000000800004 a0 s (execUnderstudyUpdate a0 a1 s) := by
  refine runs_logic fun M b l m g10 => ?_
  exact Lane.update_near (tr m rfl) (Lane.takeEvents_near (tr m rfl) g10)

theorem execDroppedUpdate_event {a0} {a1} {s} :
    Runs Lane.logicUp 0x380000002cc8028bb5e2000018078000030c000000380751103b1000200022001400000000000005c000020000000000a000080000f0006020600000000800004 a0 s (execDroppedUpdate a0 a1 s) := by
  refine runs_logic fun M b l m g10 => ?_
  extract_lets -underBinder +onlyGivenNames x11
  have h11 : Lane.Near M b x11 := Lane.onAx_near (f := _) (AxisState.Near.mk (ch m rfl) kp kp kp kp kp kp kp kp) g10
  clear_value x11
  exact Lane.near_ite (Lane.declareRotor_near (tr m rfl) h11) h11

theorem execCopyDisagreement_event {a0} {a1} {a2} {s} :
    Runs Lane.logicUp 0x380000002cc8028bb5e2000018078000030c0000003807d1103b1000200022001400000000000005c000020000000000a000080000f0006020600000000800004 a0 s (execCopyDisagreement a0 a1 a2 s) := by
  refine runs_logic fun M b l m g10 => ?_
  extract_lets -underBinder +onlyGivenNames x11
  clear_value x11
  extract_lets -underBinder +onlyGivenNames x12
  have h12 : Lane.Near M b x12 := Lane.when_near (Lane.addTo_near (inReg (at_DC_CNT (Fin.isLt _)) (tb m rfl)) g10) (fun _ g13 => Lane.raise_near (inEvt (ev_DC_EVT (Fin.isLt _)) (tb m rfl)) rfl g13)
  clear_value x12
  extract_lets -underBinder +onlyGivenNames x14
  have h14 : Lane.Near M b x14 := Lane.settle_near (tr m rfl) (Lane.onAx_near (f := _) (AxisState.Near.mk kp kp kp (ch m rfl) kp kp kp kp kp) h12)
  clear_value x14
  exact Lane.near_ite (Lane.setOut_near (tr m rfl) h14) h14

theorem execTableParity_event {a0} {a1} {a2} {s} :
    Runs Lane.logicUp 0x380000002cc8028bb5e2000018078000030c0000003807d1103b1000200022001400000000000005c000020000000000a0f0080000f0006020600000000800004 a0 s (execTableParity a0 a1 a2 s) := by
  refine runs_logic fun M b l m g10 => ?_
  extract_lets -underBinder +onlyGivenNames x11
  clear_value x11
  extract_lets -underBinder +onlyGivenNames x12
  have h12 : Lane.Near M b x12 := Lane.raise_near (inEvt (ev_DC_EVT (Fin.isLt _)) (tb m rfl)) rfl g10
  clear_value x12
  extract_lets -underBinder +onlyGivenNames x13
  have h13 : Lane.Near M b x13 := Lane.release_near (tr m rfl) (Lane.onAx_near (f := _) (AxisState.Near.mk kp kp kp (ch m rfl) kp kp kp kp kp) h12)
  clear_value x13
  exact Lane.near_ite (Lane.setOut_near (tr m rfl) h13) (Lane.reloadTables_near (tr m rfl) h13)

theorem execDwellEnd_event {a0} {a1} {s} :
    Runs Lane.logicUp 0x250000000000000000000000000000000000000000000000000a000000000e0000000000000000000000 a0 s (execDwellEnd a0 a1 s) := by
  refine runs_logic fun M b l m g10 => ?_
  exact Lane.near_ite (by
    extract_lets -underBinder +onlyGivenNames x11
    have h11 : Lane.Near M b x11 := Lane.drop_near (inReg (at_DC_STAT (Fin.isLt _)) (tb m rfl)) g10
    clear_value x11
    exact Lane.near_ite (Lane.lookup_near (tr m rfl) h11) h11) g10

theorem execRateHoldRelease_event {a0} {a1} {s} :
    Runs Lane.monitorsUp 0x250000000000000000000000000000000000000000000000002a000000000e0000000000000000000000 a0 s (execRateHoldRelease a0 a1 s) := by
  refine runs_power fun M b l m g10 => ?_
  exact Lane.near_ite (Lane.near_ite (by
    extract_lets -underBinder +onlyGivenNames x11
    have h11 : Lane.Near M b x11 := Lane.drop_near (inReg (at_DC_STAT (Fin.isLt _)) (tb m rfl)) g10
    clear_value x11
    exact Lane.near_ite (Lane.lookup_near (tr m rfl) h11) h11) g10) (Lane.ginApply_near (tr m rfl) g10)

theorem execAscEnd_event {a0} {a1} {s} :
    Runs Lane.logicUp 0x650000000000000000000000000000000000000000000000000a00000000020000000000000000000000 a0 s (execAscEnd a0 a1 s) := by
  refine runs_logic fun M b l m g10 => ?_
  split
  · exact Lane.near_ite (by
    extract_lets -underBinder +onlyGivenNames x11
    have h11 : Lane.Near M b x11 := Lane.onAx_near (f := _) (AxisState.Near.mk kp kp kp kp kp kp (ch m rfl) kp kp) g10
    clear_value x11
    exact Lane.enterRank3_near (tr m rfl) (Lane.setAxst_near (tr m rfl) h11)) g10
  · exact g10

theorem execDecayDone_event {a0} {a1} {s} :
    Runs Lane.logicUp 0x650000000000000000000000000000000000000000000000000a00008001ae0000000000000000000000 a0 s (execDecayDone a0 a1 s) := by
  refine runs_logic fun M b l m g10 => ?_
  split
  · exact Lane.near_ite (by
    extract_lets -underBinder +onlyGivenNames x11
    have h11 : Lane.Near M b x11 := Lane.onAx_near (f := _) (AxisState.Near.mk kp kp kp kp kp kp (ch m rfl) kp kp) (Lane.initFlux_near (tr m rfl) g10)
    clear_value x11
    exact Lane.decideSwitch_near (tr m rfl) (Lane.setAxst_near (tr m rfl) (Lane.drop_near (inReg (at_DC_LASTX (Fin.isLt _)) (tb m rfl)) h11))) g10
  · exact g10

theorem execRecatchFail_event {a0} {a1} {s} :
    Runs Lane.logicUp 0x380000002cc8028bb5e2000018078000030c000000380751103b1000200022001400000000000005c000020000000000a000080000f0006020600000000800004 a0 s (execRecatchFail a0 a1 s) := by
  refine runs_logic fun M b l m g10 => ?_
  split
  · exact Lane.near_ite (Lane.setOut_near (tr m rfl) (Lane.raise_near (inEvt (ev_DC_EVT (Fin.isLt _)) (tb m rfl)) rfl g10)) g10
  · exact g10

theorem execSubstituteTimeout_event {a0} {a1} {s} :
    Runs Lane.logicUp 0x380000002cc8028bb5e2000018078000030c000000380751103b1000200022001400000000000005c000020000000000a000080000f0006020600000000800004 a0 s (execSubstituteTimeout a0 a1 s) := by
  refine runs_logic fun M b l m g10 => ?_
  split
  · exact Lane.near_ite (Lane.substEnd_near (tr m rfl) g10) g10
  · exact g10

theorem execAxisEnable_event {a0} {a1} {s} :
    Runs Lane.logicUp 0x380000002cc8028bb5e2000018078000030c000000380751103b1000200022001400000000000005c000020000000000a000080000f0006020600000000800004 a0 s (execAxisEnable a0 a1 s) := by
  refine runs_logic fun M b l m g10 => ?_
  exact Lane.near_ite (Lane.judgeSets_near (tr m rfl) (Lane.enableAxis_near (tr m rfl) g10)) g10

theorem execAxisDisable_event {a0} {a1} {s} :
    Runs Lane.logicUp 0x750000000000000000000000000000000000000020000000000a00008000030000000000000000000000 a0 s (execAxisDisable a0 a1 s) := by
  refine runs_logic fun M b l m g10 => ?_
  exact Lane.disableAxis_near (tr m rfl) g10

theorem execPrechargeEnd_event {a0} {a1} {a2} {s} :
    Runs Lane.monitorsUp 0x380000002cc8028bb5e2000018078000030c0000003807d1103b1000200022001400000000000005c000020000000002a00008001af0026020600000000800004 a0 s (execPrechargeEnd a0 a1 a2 s) := by
  refine runs_power fun M b l m g10 => ?_
  split
  · exact g10
  · exact Lane.near_ite (by
    extract_lets -underBinder +onlyGivenNames x11
    have h11 : Lane.Near M b x11 := Lane.onAx_near (f := _) (AxisState.Near.mk kp kp kp kp (ch m rfl) kp kp kp kp) g10
    clear_value x11
    extract_lets -underBinder +onlyGivenNames x12
    have h12 : Lane.Near M b x12 := Lane.when_near h11 (fun _ g13 => Lane.setAxst_near (tr m rfl) g13)
    clear_value x12
    extract_lets -underBinder +onlyGivenNames x14
    clear_value x14
    extract_lets -underBinder +onlyGivenNames x15
    have h15 : Lane.Near M b x15 := Lane.near_foldl (fun _ _ q16 g16 => Lane.failSwitch_near (tr m rfl) g16 ⟨(inEvt ev_BI_EVT (tb m rfl)), rfl⟩) h12
    clear_value x15
    extract_lets -underBinder +onlyGivenNames x17
    have h17 : Lane.Near M b x17 := Lane.actInvalid_near (tr m rfl) (Lane.stillLocked_near (tr m rfl) h15)
    clear_value x17
    exact Lane.near_ite (Lane.update_near (tr m rfl) h17) (Lane.ginApply_near (tr m rfl) h17)) g10

theorem execPeakTrip_event {a0} {a1} {a2} {a3} {a4} {s} :
    Runs Lane.monitorsUp 0x380000002cc8028bb5e2000018078000030c000000380ff1903b1000200022001400000000000005c000020000000001a00018003af0006020600000000800004 a0 s (execPeakTrip a0 a1 a2 a3 a4 s) := by
  refine runs_power fun M b l m g10 => ?_
  extract_lets -underBinder +onlyGivenNames x11
  have h11 : Lane.Near M b x11 := Lane.bump_near (inReg (at_GD_CNT0 (Fin.isLt _)) (tb m rfl)) (Lane.raise_near (inEvt (ev_GD_EVT (Fin.isLt _)) (tb m rfl)) rfl g10)
  extract_lets -underBinder +onlyGivenNames x12
  have h12 : Lane.Near M b x12 := Lane.raise_near (evt_ite (inEvt (ev_DC_EVT (Fin.isLt _)) (tb m rfl)) (inEvt (ev_DC_EVT (Fin.isLt _)) (tb m rfl))) wd_ite h11
  extract_lets -underBinder +onlyGivenNames x13
  have h13 : Lane.Near M b x13 := Lane.voidAxis_near (tr m rfl) (Lane.leakAbort_near (tr m rfl) h12)
  extract_lets -underBinder +onlyGivenNames x14
  have h14 : Lane.Near M b x14 := Lane.stirDecay_near (tr m rfl) (Lane.queueEvent_near (tr m rfl) h13)
  extract_lets -underBinder +onlyGivenNames x15
  extract_lets -underBinder +onlyGivenNames x16
  have h16 : Lane.Near M b x16 := Lane.holdHit_near (tr m rfl) h14
  clear_value x16
  extract_lets -underBinder +onlyGivenNames x17
  have h17 : Lane.Near M b x17 := Lane.when_near h16 (fun _ g18 => Lane.abortInsert_near (tr m rfl) g18)
  clear_value x17
  extract_lets -underBinder +onlyGivenNames x19
  have h19 : Lane.Near M b x19 := Lane.countPeak_near (tr m rfl) h17
  clear_value x19
  exact Lane.near_ite (Lane.decideSwitch_near (tr m rfl) (Lane.takeEvents_near (tr m rfl) h19)) h19

theorem execVdsTrip_event {a0 : Seen Nat} {a1} {a2} {s} :
    Runs Lane.monitorsUp 0x380000002cc8028bb5e2000018078000030c0000003807d1103b1000200022001400000000000005c000020000000000a000080000f0006020600000000800004 a0.toAt s (execVdsTrip a0 a1 a2 s) := by
  refine runs_power fun M b l m g10 => ?_
  exact Lane.near_ite (Lane.tripSwitch_near (tr m rfl) g10) g10

theorem execCeilingTrip_event {a0 : Seen (Nat × Nat)} {a1} {a2} {s} :
    Runs Lane.monitorsUp 0x380000002cc8028bb5e2000018078000030c0000003807d1103b1000200022001400000000000005c000020000000000a000080000f0006020600000000800004 a0.toAt s (execCeilingTrip a0 a1 a2 s) := by
  refine runs_power fun M b l m g10 => ?_
  exact Lane.near_ite (Lane.tripSwitch_near (tr m rfl) g10) g10

theorem execTier1Decision_event {a0} {a1} {s} :
    Runs Lane.logicUp 0x380000002cc8028bb5e2000018078000030c0000003807d1903b1000200022001400000000000005c000020000000000e000080000f0006020600000000800004 a0 s (execTier1Decision a0 a1 s) := by
  refine runs_logic fun M b l m g10 => ?_
  extract_lets -underBinder +onlyGivenNames x11 x12
  clear_value x11 x12
  exact Lane.near_ite g10 (Lane.near_ite (by
    extract_lets -underBinder +onlyGivenNames x13
    have h13 : Lane.Near M b x13 := Lane.near_foldl (fun _ _ q14 g14 => Lane.confirmTrip_near (tr m rfl) g14) (Lane.raise_near (inEvt (ev_GD_EVT (Fin.isLt _)) (tb m rfl)) rfl g10)
    clear_value x13
    exact Lane.afterUnav_near (tr m rfl) (Lane.onAx_near (f := _) (AxisState.Near.mk kp kp kp (ch m rfl) kp kp kp kp kp) h13)) (by
    extract_lets -underBinder +onlyGivenNames x15
    have h15 : Lane.Near M b x15 := Lane.onAx_near (f := _) (AxisState.Near.mk kp kp kp (ch m rfl) kp kp kp kp kp) g10
    clear_value x15
    exact Lane.setOut_near (tr m rfl) (Lane.markUnav_near (tr m rfl) (Lane.raise_near (inEvt (ev_GD_EVT (Fin.isLt _)) (tb m rfl)) rfl h15))))

theorem execGinChange_event {a0} {a1} {a2} {s} :
    Runs Lane.monitorsUp 0x250000000000000000000000000000000000000000000000042a00000000000000000000000000000000 a0 s (execGinChange a0 a1 a2 s) := by
  refine runs_power fun M b l m g10 => ?_
  extract_lets -underBinder +onlyGivenNames x11
  clear_value x11
  extract_lets -underBinder +onlyGivenNames x12
  have h12 : Lane.Near M b x12 := Lane.put_near (inReg (at_GD_GIN (Fin.isLt _)) (tb m rfl)) g10
  clear_value x12
  exact Lane.near_ite h12 (Lane.ginApply_near (tr m rfl) (Lane.ginBoth_near (tr m rfl) h12))

theorem execDeadTimeEnd_event {a0 : Seen (Bool × Bool)} {a1} {a2} {a3} {a4} {s} :
    Runs Lane.monitorsUp 0x380000002cc8028bb5e2000018078000030c000000380751103b1000200022001400000000000005c000020000000003a000080000f0026020600000000800004 a0.toAt s (execDeadTimeEnd a0 a1 a2 a3 a4 s) := by
  refine runs_power fun M b l m g10 => ?_
  extract_lets -underBinder +onlyGivenNames x11 x12
  clear_value x11 x12
  exact Lane.near_ite g10 (Lane.near_ite (Lane.holdTurnOn_near (tr m rfl) g10) (Lane.near_ite (Lane.beginInsert_near (tr m rfl) g10) (Lane.turnOn_near (tr m rfl) (Lane.when_near g10 (fun _ g13 => Lane.holdInsert_near (tr m rfl) g13)))))

theorem execGateOffFailure_event {a0 : Seen Nat} {a1} {a2} {s} :
    Runs Lane.monitorsUp 0x380000002cc8028bb5e2000018078000030c000000380751103b1000200022001400000000000005c000020000000000e000080000f0006020600000000800004 a0.toAt s (execGateOffFailure a0 a1 a2 s) := by
  refine runs_power fun M b l m g10 => ?_
  extract_lets -underBinder +onlyGivenNames x11
  clear_value x11
  exact Lane.near_ite g10 (Lane.afterUnav_near (tr m rfl) (Lane.putBit_near (inReg (at_GD_FAULT (Fin.isLt _)) (tb m rfl)) (Lane.raise_near (inEvt (ev_GD_EVT (Fin.isLt _)) (tb m rfl)) rfl (Lane.leakAbort_near (tr m rfl) g10))))

theorem execVgLockout_event {a0 : Seen Nat} {s} :
    Runs Lane.monitorsUp 0x100000000000000000000000000000000000000020000250000000000000000000000000000000000000000000001080a00000000000004000000000000000600 a0.toAt s (execVgLockout a0 s) := by
  refine runs_power fun M b l m g10 => ?_
  exact Lane.when_near g10 (fun _ g11 => by
    extract_lets -underBinder +onlyGivenNames x12
    have h12 : Lane.Near M b x12 := Lane.raise_near (inEvt ev_PW_SUPEVT (tb m rfl)) rfl (Lane.raise_near (inEvt ev_GD_LEVT (tb m rfl)) rfl (Lane.raise_near (inReg at_GD_VMSTAT (tb m rfl)).1 rfl g11))
    clear_value x12
    extract_lets -underBinder +onlyGivenNames x13
    have h13 : Lane.Near M b x13 := Lane.drop_near (inReg at_PW_SUPSTAT (tb m rfl)) h12
    clear_value x13
    extract_lets -underBinder +onlyGivenNames x14
    have h14 : Lane.Near M b x14 := Lane.onPower_near (f := _) (PowerState.Near.mk kp kp kp kp kp kp kp kp kp kp kp kp kp kp kp kp (ch m rfl) kp kp kp kp kp kp kp kp) h13
    clear_value x14
    exact Lane.allAxes_near (Lane.voidAxis_near (tr m rfl) h14) (fun _ _ g15 => Lane.settle_near (tr m rfl) (Lane.leakAbort_near (tr m rfl) g15)))

theorem execVgLockoutPersist_event {a0} {s} :
    Runs Lane.monitorsUp 0x380000000848000001e00050720560008000000000000751103b00002000020014000000000000000000000000000000a00008000020004700600000000000004 a0 s (execVgLockoutPersist a0 s) := by
  refine runs_power fun M b l m g10 => ?_
  split
  · exact Lane.near_ite (Lane.laneOut_near (tr m rfl) g10) g10
  · exact g10

theorem execVgRecover_event {a0 : Seen Nat} {s} :
    Runs Lane.monitorsUp 0x20000250000000000000000000000000000000000000000000000080a00000000000000000000000000000200 a0.toAt s (execVgRecover a0 s) := by
  refine runs_power fun M b l m g10 => ?_
  exact Lane.when_near g10 (fun _ g11 => by
    extract_lets -underBinder +onlyGivenNames x12
    have h12 : Lane.Near M b x12 := Lane.onPower_near (f := _) (PowerState.Near.mk kp kp kp kp kp kp kp kp kp kp kp kp kp kp kp kp (ch m rfl) kp kp kp kp kp kp kp kp) (Lane.raise_near (inReg at_PW_SUPSTAT (tb m rfl)).1 rfl (Lane.drop_near (inReg at_GD_VMSTAT (tb m rfl)) g11))
    clear_value x12
    exact Lane.allAxes_near h12 (fun _ _ g13 => Lane.settle_near (tr m rfl) g13))

theorem execBootstrapLockout_event {a0 : Seen Nat} {a1} {a2} {s} :
    Runs Lane.monitorsUp 0x380000002cc8028bb5e2000018078000030c0000003807d1103b1000200022001400000000000005c000020000000000e000080000f0006020600000000800004 a0.toAt s (execBootstrapLockout a0 a1 a2 s) := by
  refine runs_power fun M b l m g10 => ?_
  exact Lane.when_near g10 (fun _ g11 => by
    extract_lets -underBinder +onlyGivenNames x12
    have h12 : Lane.Near M b x12 := Lane.raise_near (inEvt (ev_GD_EVT (Fin.isLt _)) (tb m rfl)) rfl (Lane.putBit_near (inReg (at_GD_STAT (Fin.isLt _)) (tb m rfl)) g11)
    clear_value x12
    extract_lets -underBinder +onlyGivenNames x13
    have h13 : Lane.Near M b x13 := Lane.leakAbort_near (tr m rfl) h12
    clear_value x13
    extract_lets -underBinder +onlyGivenNames x14
    have h14 : Lane.Near M b x14 := Lane.onAx_near (f := _) (AxisState.Near.mk kp kp kp (ch m rfl) kp kp kp kp kp) h13
    clear_value x14
    exact Lane.near_ite h14 (by
    extract_lets -underBinder +onlyGivenNames x15
    clear_value x15
    extract_lets -underBinder +onlyGivenNames x16
    have h16 : Lane.Near M b x16 := Lane.onAx_near (f := _) (AxisState.Near.mk kp kp kp (ch m rfl) kp kp kp kp kp) h14
    clear_value x16
    extract_lets -underBinder +onlyGivenNames x17
    have h17 : Lane.Near M b x17 := Lane.when_near h16 (fun _ g18 => Lane.raise_near (inEvt (ev_GD_EVT (Fin.isLt _)) (tb m rfl)) rfl (Lane.putBit_near (inReg (at_GD_FAULT (Fin.isLt _)) (tb m rfl)) g18))
    clear_value x17
    exact Lane.afterUnav_near (tr m rfl) h17))

theorem execBootstrapRecover_event {a0 : Seen Nat} {a1} {a2} {s} :
    Runs Lane.monitorsUp 0x380000002cc8028bb5e2000018078000030c0000003807d1103b1000200022001400000000000005c000020000000000a000080000f0006020600000000800004 a0.toAt s (execBootstrapRecover a0 a1 a2 s) := by
  refine runs_power fun M b l m g10 => ?_
  exact Lane.when_near g10 (fun _ g11 => by
    extract_lets -underBinder +onlyGivenNames x12
    have h12 : Lane.Near M b x12 := Lane.putBit_near (inReg (at_GD_STAT (Fin.isLt _)) (tb m rfl)) g11
    clear_value x12
    exact Lane.bstBack_near (tr m rfl) (Lane.onAx_near (f := _) (AxisState.Near.mk kp kp kp (ch m rfl) kp kp kp kp kp) h12))

theorem execRefreshTimerRestart_event {a0 : Seen Nat} {a1} {a2} {s} :
    Runs Lane.monitorsUp 0x380000002cc8028bb5e2000018078000030c0000003807d1103b1000200022001400000000000005c000020000000000a000080000f0006020600000000800004 a0.toAt s (execRefreshTimerRestart a0 a1 a2 s) := by
  refine runs_power fun M b l m g10 => ?_
  exact Lane.near_ite g10 (by
    extract_lets -underBinder +onlyGivenNames x11
    have h11 : Lane.Near M b x11 := Lane.putBit_near (inReg (at_GD_STAT (Fin.isLt _)) (tb m rfl)) g10
    clear_value x11
    extract_lets -underBinder +onlyGivenNames x12
    have h12 : Lane.Near M b x12 := Lane.onAx_near (f := _) (AxisState.Near.mk kp kp kp (ch m rfl) (ch m rfl) kp kp kp kp) h11
    clear_value x12
    exact Lane.bstBack_near (tr m rfl) (Lane.when_near h12 (fun _ g13 => Lane.endInsert_near (tr m rfl) g13)))

theorem execRefreshPending_event {a0} {a1} {a2} {s} :
    Runs Lane.monitorsUp 0x200000000000000000000000000000000 a0 s (execRefreshPending a0 a1 a2 s) := by
  refine runs_power fun M b l m g10 => ?_
  exact Lane.near_ite (Lane.putBit_near (inReg (at_GD_STAT (Fin.isLt _)) (tb m rfl)) g10) g10

theorem execRefreshInsert_event {a0} {a1} {a2} {a3} {s} :
    Runs Lane.monitorsUp 0x350000000000000000000000000000000000000000000000001a00000000000000000000000000000000 a0 s (execRefreshInsert a0 a1 a2 a3 s) := by
  refine runs_power fun M b l m g10 => ?_
  extract_lets -underBinder +onlyGivenNames x11 x12
  clear_value x11 x12
  exact Lane.near_ite g10 (Lane.near_ite (Lane.beginInsert_near (tr m rfl) g10) (Lane.onAx_near (f := _) (AxisState.Near.mk kp kp kp kp (ch m rfl) kp kp kp kp) g10))

theorem execRefreshLate_event {a0} {a1} {s} :
    Runs Lane.monitorsUp 0x800000000000000000000000000000000 a0 s (execRefreshLate a0 a1 s) := by
  refine runs_power fun M b l m g10 => ?_
  split
  · exact Lane.near_ite (Lane.raise_near (inEvt (ev_GD_EVT (Fin.isLt _)) (tb m rfl)) rfl g10) g10
  · exact g10

theorem execLeakCheckRequest_event {a0} {a1} {a2} {s} :
    Runs Lane.logicUp 0x10000000000000000000000000000000000 a0 s (execLeakCheckRequest a0 a1 a2 s) := by
  refine runs_logic fun M b l m g10 => ?_
  exact Lane.put_near (inReg (at_GD_LKCTL (Fin.isLt _)) (tb m rfl)) g10

theorem execLeakCheckStart_event {a0} {a1} {a2} {a3} {s} :
    Runs Lane.monitorsUp 0x20000000000000000000000000000000000000000000000000c000000000000000000000000000000000 a0 s (execLeakCheckStart a0 a1 a2 a3 s) := by
  refine runs_power fun M b l m g10 => ?_
  extract_lets -underBinder +onlyGivenNames x11
  have h11 : Lane.Near M b x11 := Lane.when_near g10 (fun _ g12 => Lane.showBst_near (tr m rfl) g12)
  clear_value x11
  exact Lane.near_ite (Lane.onAx_near (f := _) (AxisState.Near.mk kp kp kp kp kp (ch m rfl) kp kp kp) h11) h11

theorem execLeakCheckEnd_event {a0} {a1} {a2} {a3} {a4} {s} :
    Runs Lane.monitorsUp 0x3380000002cc8028bb5e2000018078000030c000000380751103b1000200022001400000000000005c000020000000010e000080000f0026020600000000800004 a0 s (execLeakCheckEnd a0 a1 a2 a3 a4 s) := by
  refine runs_power fun M b l m g10 => ?_
  split
  · exact Lane.near_ite (by
    extract_lets -underBinder +onlyGivenNames x11
    have h11 : Lane.Near M b x11 := Lane.leakResult_near (tr m rfl) (Lane.onAx_near (f := _) (AxisState.Near.mk kp kp kp kp kp (ch m rfl) kp kp kp) g10)
    clear_value x11
    exact Lane.near_ite (by
    extract_lets -underBinder +onlyGivenNames x12
    have h12 : Lane.Near M b x12 := Lane.onReh_near (f := _) (RehState.Near.mk kp kp kp kp kp kp kp kp kp kp kp kp kp (ch m rfl) (ch m rfl) kp kp kp kp kp kp kp kp kp kp) h11
    clear_value x12
    exact Lane.near_ite h12 (Lane.failSwitch_near (tr m rfl) h12 ⟨(inEvt ev_BI_EVT (tb m rfl)), rfl⟩)) h11) g10
  · exact g10

theorem execFaultClear_event {a0} {a1} {a2} {s} :
    Runs Lane.logicUp 0x380000002cc8028bb5e2000018078000030c000000380751103b1000200022001400000000000005c000020000000000e000080000f0006020600000000800004 a0 s (execFaultClear a0 a1 a2 s) := by
  refine runs_logic fun M b l m g10 => ?_
  exact Lane.near_ite (Lane.clearFaults_near (tr m rfl) g10) g10

theorem execOv1Enter_event {a0} {a1} {s} :
    Runs Lane.monitorsUp 0x16c4000000000000000000000000000000000000000000000000000001080000000000000000000000000000000000 a0 s (execOv1Enter a0 a1 s) := by
  refine runs_power fun M b l m g10 => ?_
  extract_lets -underBinder +onlyGivenNames x11
  have h11 : Lane.Near M b x11 := Lane.showVm_near (tr m rfl) g10
  clear_value x11
  exact Lane.near_ite (Lane.stageOv1_near (tr m rfl) h11) h11

theorem execOv1Release_event {a0} {a1} {s} :
    Runs Lane.monitorsUp 0x1f04000000000000000000000000000000000000000000000000000002080000000000000000000000000000000000 a0 s (execOv1Release a0 a1 s) := by
  refine runs_power fun M b l m g10 => ?_
  exact Lane.releaseOv1_near (tr m rfl) (Lane.showVm_near (tr m rfl) g10)

theorem execOv2Enter_event {a0} {a1} {s} :
    Runs Lane.monitorsUp 0x8000000250000000000000000000000000000000000000000000001080a000000000e0000000000000000000000 a0 s (execOv2Enter a0 a1 s) := by
  refine runs_power fun M b l m g10 => ?_
  extract_lets -underBinder +onlyGivenNames x11
  have h11 : Lane.Near M b x11 := Lane.showVm_near (tr m rfl) g10
  clear_value x11
  exact Lane.near_ite (by
    extract_lets -underBinder +onlyGivenNames x12
    have h12 : Lane.Near M b x12 := Lane.showLevel_near (tr m rfl) (Lane.onLink_near (f := _) (LinkState.Near.mk kp (ch m rfl) kp kp kp kp kp kp kp kp kp) (Lane.raise_near (inEvt ev_GD_LEVT (tb m rfl)) rfl h11))
    clear_value x12
    exact Lane.allAxes_near h12 (fun _ _ g13 => Lane.near_ite (Lane.lookup_near (tr m rfl) g13) (Lane.near_ite (Lane.settle_near (tr m rfl) g13) (Lane.enterRank3_near (tr m rfl) g13)))) h11

theorem execOv2Release_event {a0} {a1} {s} :
    Runs Lane.monitorsUp 0x1f0c000000250000000000000000000000000000000000000000000002082a000000000e0000000000000000000000 a0 s (execOv2Release a0 a1 s) := by
  refine runs_power fun M b l m g10 => ?_
  exact Lane.releaseOv2_near (tr m rfl) (Lane.showVm_near (tr m rfl) g10)

theorem execOv3Enter_event {a0} {a1} {s} :
    Runs Lane.monitorsUp 0x100000000000000000000000000000000000010000000250000000000000000000000000000000000000000000001080a00000000020004000000000000000000 a0 s (execOv3Enter a0 a1 s) := by
  refine runs_power fun M b l m g10 => ?_
  extract_lets -underBinder +onlyGivenNames x11
  have h11 : Lane.Near M b x11 := Lane.showVm_near (tr m rfl) g10
  clear_value x11
  exact Lane.near_ite (by
    extract_lets -underBinder +onlyGivenNames x12
    have h12 : Lane.Near M b x12 := Lane.showLevel_near (tr m rfl) (Lane.onLink_near (f := _) (LinkState.Near.mk kp kp (ch m rfl) kp kp kp kp kp kp kp kp) (Lane.raise_near (inEvt ev_GD_LEVT (tb m rfl)) rfl h11))
    clear_value x12
    exact Lane.allAxes_near (Lane.voidAxis_near (tr m rfl) h12) (fun _ _ g13 => Lane.enterRank3_near (tr m rfl) (Lane.leakAbort_near (tr m rfl) g13))) h11

theorem execOv3Release_event {a0 : Seen Nat} {a1} {s} :
    Runs Lane.monitorsUp 0x1f1c000000250000000000000000000000000000000000000000000002082a000000000e0000000000000000000000 a0.toAt s (execOv3Release a0 a1 s) := by
  refine runs_power fun M b l m g10 => ?_
  extract_lets -underBinder +onlyGivenNames x11
  have h11 : Lane.Near M b x11 := Lane.showVm_near (tr m rfl) g10
  clear_value x11
  exact Lane.near_ite (Lane.releaseOv2_near (tr m rfl) (Lane.lookAll_near (tr m rfl) (Lane.showLevel_near (tr m rfl) (Lane.onLink_near (f := _) (LinkState.Near.mk kp kp (ch m rfl) kp kp kp kp kp kp kp kp) h11)))) h11

theorem execOvmax_event {a0} {a1} {s} :
    Runs Lane.monitorsUp 0x380000000848000001e00050720560008000020000000751103b00002000020014000000000000000000000000001080a00008000020004700600000000000004 a0 s (execOvmax a0 a1 s) := by
  refine runs_power fun M b l m g10 => ?_
  extract_lets -underBinder +onlyGivenNames x11
  have h11 : Lane.Near M b x11 := Lane.showVm_near (tr m rfl) g10
  clear_value x11
  exact Lane.near_ite (by
    extract_lets -underBinder +onlyGivenNames x12
    have h12 : Lane.Near M b x12 := Lane.showLevel_near (tr m rfl) (Lane.onLink_near (f := _) (LinkState.Near.mk kp kp kp (ch m rfl) kp kp kp kp kp kp kp) (Lane.raise_near (inEvt ev_GD_LEVT (tb m rfl)) rfl h11))
    clear_value x12
    exact Lane.laneOut_near (tr m rfl) (Lane.allAxes_near h12 (fun _ _ g13 => Lane.settle_near (tr m rfl) (Lane.leakAbort_near (tr m rfl) g13)))) h11

theorem execChopperFault_event {a0} {s} :
    Runs Lane.monitorsUp 0x1f04000000250000000000000000000000000000000000000000000003082a000000000e0000000000000000000000 a0 s (execChopperFault a0 s) := by
  refine runs_power fun M b l m g10 => ?_
  split
  · exact Lane.near_ite (by
    extract_lets -underBinder +onlyGivenNames x11
    have h11 : Lane.Near M b x11 := Lane.raise_near (inEvt ev_GD_LEVT (tb m rfl)) rfl (Lane.raise_near (inReg at_GD_VMSTAT (tb m rfl)).1 rfl (Lane.chopperOff_near (tr m rfl) g10))
    clear_value x11
    extract_lets -underBinder +onlyGivenNames x12
    have h12 : Lane.Near M b x12 := Lane.raise_near (inEvt ev_GD_LEVT (tb m rfl)) rfl (Lane.raise_near (inReg at_GD_VMSTAT (tb m rfl)).1 rfl h11)
    clear_value x12
    extract_lets -underBinder +onlyGivenNames x13
    have h13 : Lane.Near M b x13 := Lane.near_ite (Lane.dropOv1_near (tr m rfl) h12) h12
    clear_value x13
    exact Lane.lookAll_near (tr m rfl) h13) g10
  · exact g10

theorem execStuckChopper_event {a0 : Seen Nat} {s} :
    Runs Lane.monitorsUp 0x380000002cc8028bb5e2000018078000030c000000380751103b1000200022001400000000000005c000020000001080a000080000f0006020600000000800004 a0.toAt s (execStuckChopper a0 s) := by
  refine runs_power fun M b l m g10 => ?_
  exact Lane.near_ite (by
    extract_lets -underBinder +onlyGivenNames x11
    have h11 : Lane.Near M b x11 := Lane.raise_near (inEvt ev_GD_LEVT (tb m rfl)) rfl (Lane.raise_near (inReg at_GD_VMSTAT (tb m rfl)).1 rfl (Lane.raise_near (inReg at_GD_VMSTAT (tb m rfl)).1 rfl g10))
    clear_value x11
    exact Lane.koSettle_near (tr m rfl) (Lane.allAxes_near h11 (fun _ _ g12 => Lane.setOut_near (tr m rfl) g12))) g10

theorem execChopperMinOnEnd_event {a0} {s} :
    Runs Lane.monitorsUp 0x1f04000000000000000000000000000000000000000000000000000002080000000000000000000000000000000000 a0 s (execChopperMinOnEnd a0 s) := by
  refine runs_power fun M b l m g10 => ?_
  exact Lane.near_ite (by
    extract_lets -underBinder +onlyGivenNames x11
    have h11 : Lane.Near M b x11 := Lane.raise_near (inReg at_GD_VMSTAT (tb m rfl)).1 rfl g10
    clear_value x11
    exact Lane.near_ite (Lane.dropOv1_near (tr m rfl) h11) h11) g10

theorem execCountEdge_event {a0} {a1} {a2} {s} :
    Runs Lane.logicUp 0x380000002cc8028bb5e2000018078000030c000000381755103b1000200022001400000000000005c0000200014e0000a000080000f0006020600000000800004 a0 s (execCountEdge a0 a1 a2 s) := by
  refine runs_logic fun M b l m g10 => ?_
  extract_lets -underBinder +onlyGivenNames x11 x12
  clear_value x11 x12
  split
  · exact Lane.when_near g10 (fun _ g13 => Lane.edgeA_near (tr m rfl) g13)
  · exact Lane.when_near g10 (fun _ g14 => Lane.edgeB_near (tr m rfl) g14)
  · extract_lets -underBinder +onlyGivenNames x15
    clear_value x15
    exact Lane.near_ite (Lane.when_near g10 (fun _ g16 => Lane.edgeB_near (tr m rfl) g16)) (Lane.near_ite (Lane.edgeA_near (tr m rfl) g10) (Lane.near_ite (Lane.edgeBoth_near (tr m rfl) g10) (Lane.near_ite (Lane.edgePair_near (tr m rfl) g10) (Lane.near_ite (Lane.edgeBoth_near (tr m rfl) (Lane.nextChoice_near (tb m rfl) g10)) (Lane.edgePair_near (tr m rfl) (Lane.nextChoice_near (tb m rfl) g10))))))

theorem execIndexPulse_event {a0 : Seen (Bool × Nat)} {a1} {a2} {s} :
    Runs Lane.logicUp 0x380000002cc8028bb5e2000018078000030c000000381751103b1000200022001400000000000005c0000200080e0000a000080000f0006020600000000800004 a0.toAt s (execIndexPulse a0 a1 a2 s) := by
  refine runs_logic fun M b l m g10 => ?_
  exact Lane.when_near g10 (fun _ g11 => by
    extract_lets -underBinder +onlyGivenNames x12
    clear_value x12
    extract_lets -underBinder +onlyGivenNames x13
    have h13 : Lane.Near M b x13 := Lane.putBit_near (inReg (at_FB_STAT (Fin.isLt _)) (tb m rfl)) g11
    clear_value x13
    exact Lane.near_ite (by
    extract_lets -underBinder +onlyGivenNames x14 x15
    clear_value x14 x15
    extract_lets -underBinder +onlyGivenNames x16
    have h16 : Lane.Near M b x16 := Lane.reReference_near (tr m rfl) h13
    clear_value x16
    extract_lets -underBinder +onlyGivenNames x17
    have h17 : Lane.Near M b x17 := Lane.onFb_near (tr m rfl) h16
    clear_value x17
    exact Lane.near_ite (Lane.causes_near (tr m rfl) h17) h17) h13)

theorem execSerialFrameSend_event {a0} {a1} {s} :
    Runs Lane.logicUp 0x1000000000000000000000000000000000000000000000000000000000000000000000000000000000000 a0 s (execSerialFrameSend a0 a1 s) := by
  refine runs_logic fun M b l m g10 => ?_
  exact Lane.near_ite (Lane.onSer_near (tr m rfl) g10) g10

theorem execSerialFrame_event {a0} {a1} {a2} {s} :
    Runs Lane.logicUp 0x380400002cc8028bb5e2000018078000030c000000381751103b1000200022001400000000000005c0000218084e0000a000080000f0006020600000000800004 a0 s (execSerialFrame a0 a1 a2 s) := by
  refine runs_logic fun M b l m g10 => ?_
  split
  · exact g10
  · extract_lets -underBinder +onlyGivenNames x11 x12
    clear_value x11 x12
    extract_lets -underBinder +onlyGivenNames x13
    have h13 : Lane.Near M b x13 := Lane.put_near (inReg (at_FB_SERCNT (Fin.isLt _)) (tb m rfl)) (Lane.onSer_near (tr m rfl) g10)
    clear_value x13
    extract_lets -underBinder +onlyGivenNames x14
    have h14 : Lane.Near M b x14 := Lane.when_near h13 (fun _ g15 => Lane.raise_near (inEvt (ev_FB_EVT (Fin.isLt _)) (tb m rfl)) rfl g15)
    clear_value x14
    exact Lane.near_ite (Lane.negotiateFrame_near (tr m rfl) h14) (Lane.near_ite (Lane.cleanFrame_near (tr m rfl) h14) (Lane.badFrame_near (tr m rfl) h14))

theorem execReneg_event {a0} {a1} {s} :
    Runs Lane.logicUp 0x380000002cc8028bb5e2000018078000030c000000381751103b1000200022001400000000000005c000021000060000a000080000f0006020600000000800004 a0 s (execReneg a0 a1 s) := by
  refine runs_logic fun M b l m g10 => ?_
  exact Lane.near_ite (Lane.negotiate_near (tr m rfl) g10) g10

theorem execHallTransition_event {a0} {a1} {a2} {s} :
    Runs Lane.logicUp 0x380000002cc8028bb5e2000018078000030c000000381755103b1000200022001400000000000005c000020000060000a000080000f0006020600000000800004 a0 s (execHallTransition a0 a1 a2 s) := by
  refine runs_logic fun M b l m g10 => ?_
  extract_lets -underBinder +onlyGivenNames x11
  clear_value x11
  extract_lets -underBinder +onlyGivenNames x12
  have h12 : Lane.Near M b x12 := Lane.put_near (inReg (at_FB_STAT (Fin.isLt _)) (tb m rfl)) g10
  clear_value x12
  extract_lets -underBinder +onlyGivenNames x13
  have h13 : Lane.Near M b x13 := Lane.when_near h12 (fun _ g14 => Lane.onFb_near (tr m rfl) g14)
  clear_value x13
  exact Lane.near_ite h13 (by
    split
    · split
      · extract_lets -underBinder +onlyGivenNames x15 x16
        clear_value x15 x16
        exact Lane.hallJudge_near (tr m rfl) h13
      · exact Lane.near_ite h13 (Lane.hallJudge_near (tr m rfl) (Lane.nextChoice_near (tb m rfl) h13))
    · exact h13)

theorem execHallInvalid_event {a0} {a1} {s} :
    Runs Lane.logicUp 0x380000002cc8028bb5e2000018078000030c000000381751103b1000200022001400000000000005c000020000060000a000080000f0006020600000000800004 a0 s (execHallInvalid a0 a1 s) := by
  refine runs_logic fun M b l m g10 => ?_
  exact Lane.near_ite (Lane.causes_near (tr m rfl) (Lane.onFb_near (tr m rfl) (Lane.raise_near (inEvt (ev_FB_EVT (Fin.isLt _)) (tb m rfl)) rfl g10))) g10

theorem execPrbarm_event {a0} {a1} {a2} {s} :
    Runs Lane.logicUp 0x1000000000000000000000000000000000000000000000030000000000000000000000000000000000000 a0 s (execPrbarm a0 a1 a2 s) := by
  refine runs_logic fun M b l m g10 => ?_
  exact Lane.onFb_near (tr m rfl) (Lane.drop_near (inReg (at_FB_STAT (Fin.isLt _)) (tb m rfl)) (Lane.put_near (inReg (at_FB_CTRL (Fin.isLt _)) (tb m rfl)) g10))

theorem execProbeEdge_event {a0 : Seen Nat} {a1} {a2} {s} :
    Runs Lane.logicUp 0x10040000000000000000000000000000000000000000e0060000000000000000000000000000000000000 a0.toAt s (execProbeEdge a0 a1 a2 s) := by
  refine runs_logic fun M b l m g10 => ?_
  exact Lane.near_ite g10 (Lane.near_ite (Lane.raise_near (inEvt (ev_FB_EVT (Fin.isLt _)) (tb m rfl)) rfl g10) (Lane.near_ite (by
    extract_lets -underBinder +onlyGivenNames x11
    have h11 : Lane.Near M b x11 := Lane.nextChoice_near (tb m rfl) (Lane.put_near (inReg (at_FB_PRBPOS (Fin.isLt _)) (tb m rfl)) g10)
    clear_value x11
    extract_lets -underBinder +onlyGivenNames x12
    clear_value x12
    extract_lets -underBinder +onlyGivenNames x13
    have h13 : Lane.Near M b x13 := Lane.put_near (inReg (at_FB_PRBTS0 (Fin.isLt _)) (tb m rfl)) (Lane.put_near (inReg (at_FB_PRBTS0 (Fin.isLt _)) (tb m rfl)) h11)
    clear_value x13
    extract_lets -underBinder +onlyGivenNames x14
    have h14 : Lane.Near M b x14 := Lane.raise_near (inReg (at_FB_STAT (Fin.isLt _)) (tb m rfl)).1 rfl (Lane.put_near (inReg (at_FB_PRBTS1 (Fin.isLt _)) (tb m rfl)) h13)
    clear_value x14
    exact Lane.onFb_near (tr m rfl) (Lane.raise_near (inEvt (ev_FB_EVT (Fin.isLt _)) (tb m rfl)) rfl h14)) g10))

theorem execStall_event {a0} {a1} {s} :
    Runs Lane.logicUp 0x1000000000000000000000000000000000000000000000460000000000000000000000000000000000000 a0 s (execStall a0 a1 s) := by
  refine runs_logic fun M b l m g10 => ?_
  split
  · exact Lane.near_ite (by
    extract_lets -underBinder +onlyGivenNames x11
    have h11 : Lane.Near M b x11 := Lane.setSpeed_near (tr m rfl) (Lane.raise_near (inEvt (ev_FB_EVT (Fin.isLt _)) (tb m rfl)) rfl (Lane.raise_near (inReg (at_FB_STAT (Fin.isLt _)) (tb m rfl)).1 rfl g10))
    clear_value x11
    exact Lane.onFb_near (tr m rfl) h11) g10
  · exact g10

theorem execLineFault_event {a0 : Seen (Int × Nat)} {a1} {a2} {s} :
    Runs Lane.logicUp 0x380000002cc8028bb5e2000018078000030c000000381751103b1000200022001400000000000005c000020000060000a000080000f0006020600000000800004 a0.toAt s (execLineFault a0 a1 a2 s) := by
  refine runs_logic fun M b l m g10 => ?_
  exact Lane.when_near g10 (fun _ g11 => Lane.causes_near (tr m rfl) (Lane.onFb_near (tr m rfl) (Lane.raise_near (inEvt (ev_FB_EVT (Fin.isLt _)) (tb m rfl)) rfl g11)))

theorem execLineGood_event {a0 : Seen (Sys2Proof.FbLine × Nat)} {a1} {s} :
    Runs Lane.logicUp 0x1000000000000000000000000000000000000000000000000000000000000000000000000000000000000 a0.toAt s (execLineGood a0 a1 s) := by
  refine runs_logic fun M b l m g10 => ?_
  exact Lane.near_ite (Lane.onFb_near (tr m rfl) g10) g10

theorem execLockstepMismatch_event {a0} {s} :
    Runs Lane.logicUp 0x10000380000000848000001e00050720560008000000000000751103b0000200002001400000000000000000000c000000000a0000800002000470060000000000000c a0 s (execLockstepMismatch a0 s) := by
  refine runs_logic fun M b l m g10 => ?_
  extract_lets -underBinder +onlyGivenNames x11
  have h11 : Lane.Near M b x11 := Lane.drop_near (inReg at_LE_LSTAT (tb m rfl)) (Lane.raise_near (inEvt ev_LE_LEVT (tb m rfl)) rfl (Lane.trioEvent_near (tr m rfl) g10))
  clear_value x11
  extract_lets -underBinder +onlyGivenNames x12
  have h12 : Lane.Near M b x12 := Lane.putBit_near (inReg at_LC_ENGSTAT (tb m rfl)) (Lane.putBit_near (inReg at_LC_ENGSTAT (tb m rfl)) h11)
  clear_value x12
  exact Lane.laneOut_near (tr m rfl) (Lane.putBit_near (inReg at_LC_ENGSTAT (tb m rfl)) (Lane.putBit_near (inReg at_LC_ENGSTAT (tb m rfl)) h12))

theorem execLockstepInjection_event {a0} {a1} {s} :
    Runs Lane.logicUp 0x2000000380000000848000001e00050720560008000000000000751103b0000200002001400000000000000000000c000000000a00008000020004700600000000000004 a0 s (execLockstepInjection a0 a1 s) := by
  refine runs_logic fun M b l m g10 => ?_
  exact Lane.near_ite (Lane.injected_near (tr m rfl) (Lane.onTrio_near (f := _) (TrioState.Near.mk kp kp kp kp kp kp kp kp kp kp kp kp kp (ch m rfl) kp) g10)) g10

theorem execVoteCopy_event {a0 : Seen (Fin 65)} {a1} {a2} {a3} {s} :
    Runs Lane.logicUp 0x4001851db000040004ffff000380000002dc8068bb5e200507b07e000830d80000438175ddffffffffffffffffffffffffffffffffffffffffffffffffffffffffffffffffffffffffffffffff a0.toAt s (execVoteCopy a0 a1 a2 a3 s) := by
  refine runs_logic fun M b l m g10 => ?_
  extract_lets -underBinder +onlyGivenNames x11
  have h11 : Lane.Near M b x11 := Lane.closeWindows_near (tr m rfl) g10
  clear_value x11
  exact Lane.near_ite h11 (Lane.near_ite (Lane.discardCopy_near (tr m rfl) h11) (Lane.issue_near (tr m rfl) (Lane.onTrio_near (f := _) (TrioState.Near.mk kp kp (ch m rfl) kp kp kp kp kp kp kp kp kp kp kp kp) h11)))

theorem execLaggardWindowClose_event {a0} {s} :
    Runs Lane.logicUp 0x4001851db000040004ffff000380000002dc8068bb5e200507b07e000830d80000438175ddffffffffffffffffffffffffffffffffffffffffffffffffffffffffffffffffffffffffffffffff a0 s (execLaggardWindowClose a0 s) := by
  refine runs_logic fun M b l m g10 => ?_
  exact Lane.closeWindows_near (tr m rfl) g10

theorem execLoneCopyTimeout_event {a0} {s} :
    Runs Lane.logicUp 0x4001851db000040004ffff000380000002dc8068bb5e200507b07e000830d80000438175ddffffffffffffffffffffffffffffffffffffffffffffffffffffffffffffffffffffffffffffffff a0 s (execLoneCopyTimeout a0 s) := by
  refine runs_logic fun M b l m g10 => ?_
  split
  · exact Lane.near_ite g10 (Lane.loneCopy_near (tr m rfl) g10)
  · exact g10

theorem execResyncComplete_event {a0 : Seen Sys2Proof.Word} {s} :
    Runs Lane.logicUp 0x184000000000000000000000000000000000000000000000000000800000000000000000000000000000000000000000000000000000000000000000001e00000000008 a0.toAt s (execResyncComplete a0 s) := by
  refine runs_logic fun M b l m g10 => ?_
  exact Lane.near_ite (Lane.resyncLate_near (tr m rfl) g10) (Lane.near_ite (by
    extract_lets -underBinder +onlyGivenNames x11 x12
    extract_lets -underBinder +onlyGivenNames x13
    have h13 : Lane.Near M b x13 := Lane.raise_near (inEvt ev_TV_EVT (tb m rfl)) rfl (Lane.setTrioMode_near (tr m rfl) g10)
    clear_value x13
    extract_lets -underBinder +onlyGivenNames x14
    have h14 : Lane.Near M b x14 := Lane.near_ite (Lane.put_near (inReg at_TV_RSCNT (tb m rfl)) h13) h13
    clear_value x14
    extract_lets -underBinder +onlyGivenNames x15
    have h15 : Lane.Near M b x15 := Lane.onTrio_near (f := _) (TrioState.Near.mk kp kp (ch m rfl) kp kp kp kp (ch m rfl) (ch m rfl) kp kp kp kp kp kp) h14
    clear_value x15
    exact Lane.note_near (tb m rfl) (Lane.showRecent_near (tr m rfl) h15)) g10)

theorem execResyncTimeout_event {a0} {s} :
    Runs Lane.logicUp 0x800000000000000000000000000000000000000000000000000000000000000000000600000000008 a0 s (execResyncTimeout a0 s) := by
  refine runs_logic fun M b l m g10 => ?_
  exact Lane.near_ite (Lane.resyncLate_near (tr m rfl) g10) g10

theorem execSpreadHigh_event {a0} {s} :
    Runs Lane.logicUp 0x380000000000000000000000000000000000000000000000000000000000000000000000000400000000000 a0 s (execSpreadHigh a0 s) := by
  refine runs_logic fun M b l m g10 => ?_
  exact Lane.near_ite (Lane.boostCore_near (tr m rfl) (Lane.raise_near (inEvt ev_TV_EVT (tb m rfl)) rfl g10)) g10

theorem execSpreadPersist_event {a0} {s} :
    Runs Lane.logicUp 0x380000000848000001e00050720560008000000000000751103b00002000020014000000000000000000000000000000a00008000020004700600000000000004 a0 s (execSpreadPersist a0 s) := by
  refine runs_logic fun M b l m g10 => ?_
  exact Lane.near_ite (Lane.laneOut_near (tr m rfl) g10) g10

theorem execExercise_event {a0} {a1} {s} :
    Runs Lane.logicUp 0x1e01000000000000000000000000000000000000000000000000000000000000000000000000000000000000000000000000000000000000000000000080000000000000 a0 s (execExercise a0 a1 s) := by
  refine runs_logic fun M b l m g10 => ?_
  exact Lane.near_ite g10 (by
    split
    · exact g10
    · exact Lane.onTrio_near (f := _) (TrioState.Near.mk kp kp kp kp kp kp kp kp kp kp (ch m rfl) kp kp kp kp) g10
    · exact Lane.armExercise_near (tr m rfl) g10)

theorem execExnow_event {a0} {s} :
    Runs Lane.logicUp 0x200000000000000000000000000000000000000000000000000000000000000000000000000000000000000000000000000000000000000000000000000000000000000 a0 s (execExnow a0 s) := by
  refine runs_logic fun M b l m g10 => ?_
  exact Lane.near_ite (Lane.onTrio_near (f := _) (TrioState.Near.mk kp kp kp kp kp kp kp kp kp (ch m rfl) kp kp kp kp kp) g10) g10

theorem execWingHello_event {a0} {a1} {a2} {a3} {a4} {a5} {a6} {s} :
    Runs Lane.logicUp 0x4000004080000000000000380000000848000001e04050720560008000000000000753903b00002000020014000000100000000000000000000000a0000800002020c700600000000000004 a0 s (execWingHello a0 a1 a2 a3 a4 a5 a6 s) := by
  refine runs_logic fun M b l m g10 => ?_
  extract_lets -underBinder +onlyGivenNames x11
  have h11 : Lane.Near M b x11 := Lane.trainLink_near (tr m rfl) g10
  clear_value x11
  extract_lets -underBinder +onlyGivenNames x12
  have h12 : Lane.Near M b x12 := Lane.onWing_near (f := _) (WingState.Near.mk kp kp kp kp kp kp kp kp kp kp kp kp kp kp kp kp kp kp kp kp kp kp kp kp kp kp kp kp kp kp kp kp kp kp kp kp kp kp kp kp kp kp kp kp kp kp kp (ch m rfl) kp kp kp kp kp) h11
  clear_value x12
  exact Lane.checkFigures_near (tr m rfl) (Lane.helloTime_near (tr m rfl) h12)

theorem execFrameResend_event {a0} {a1} {s} :
    Runs Lane.logicUp 0x8000000000000001000000000000000000000000000000000000000000000000000000000000000000600000000000000 a0 s (execFrameResend a0 a1 s) := by
  refine runs_logic fun M b l m g10 => ?_
  exact Lane.resend_near (tr m rfl) g10

theorem execLinkSilence_event {a0} {a1} {s} :
    Runs Lane.logicUp 0x8000000000000000000000000000000000000000000000000000000000000000000000000000000000600000000000000 a0 s (execLinkSilence a0 a1 s) := by
  refine runs_logic fun M b l m g10 => ?_
  exact Lane.near_ite (Lane.loseLink_near (tr m rfl) g10) g10

theorem execCommandSegment_event {a0} {a1} {a2} {a3} {a4} {s} :
    Runs Lane.logicUp 0x4001851db000040004821000038060797bdc806fbfde205801907e001830d800004381755dffffffffffffffffffffffffffffffffffffffffffffffffffffffffffffffffffffffffffffffff a0 s (execCommandSegment a0 a1 a2 a3 a4 s) := by
  refine runs_logic fun M b l m g10 => ?_
  exact Lane.receive_near (tr m rfl) g10 (fun _ g11 => Lane.addSegment_near (tr m rfl) g11)

theorem execCommandExpiry_event {a0} {a1} {s} :
    Runs Lane.logicUp 0x1e00000000020000000000000000000103b00000000000014000000000000000000000000000000000000000000000300400000000000000 a0 s (execCommandExpiry a0 a1 s) := by
  refine runs_logic fun M b l m g10 => ?_
  split
  · exact Lane.expire_near (tr m rfl) g10
  · exact g10

theorem execMirror_event {a0} {a1} {a2} {a3} {a4} {a5} {s} :
    Runs Lane.logicUp 0x8000008000000000000000000000000000000000000000000000000000000000000000000000000000000000200000000000000 a0 s (execMirror a0 a1 a2 a3 a4 a5 s) := by
  refine runs_logic fun M b l m g10 => ?_
  exact Lane.receive_near (tr m rfl) g10 (fun _ g11 => Lane.near_ite (Lane.onWing_near (f := _) (WingState.Near.mk kp kp kp kp kp kp kp kp kp kp kp kp kp kp kp kp kp kp kp kp kp kp kp kp (ch m rfl) kp kp kp kp kp kp kp kp kp kp kp kp kp kp kp kp kp kp kp kp kp kp kp kp kp kp kp kp) g11) g11)

theorem execToken_event {a0} {a1} {a2} {a3} {a4} {a5} {s} :
    Runs Lane.logicUp 0x281400008000000000000000000000000000000000000000000000000000000000000000000000000000000020200000000000000 a0 s (execToken a0 a1 a2 a3 a4 a5 s) := by
  refine runs_logic fun M b l m g10 => ?_
  exact Lane.receive_near (tr m rfl) g10 (fun _ g11 => Lane.takeTokenFrame_near (tr m rfl) g11)

theorem execLeadLeaseExpiry_event {a0} {s} :
    Runs Lane.logicUp 0x80800000000000000000000000000000000000000000000000000000000000000000000000000000000000020200000000000000 a0 s (execLeadLeaseExpiry a0 s) := by
  refine runs_logic fun M b l m g10 => ?_
  exact Lane.near_ite (Lane.startGuard_near (tr m rfl) g10) g10

theorem execTokenGuardEnd_event {a0} {s} :
    Runs Lane.logicUp 0x20000000000180400000000000000000000000000000000060000000000000000000000000000000000000000000000000020600000000000004 a0 s (execTokenGuardEnd a0 s) := by
  refine runs_logic fun M b l m g10 => ?_
  exact Lane.near_ite (Lane.endGuard_near (tr m rfl) g10) g10

theorem execHandoverDrill_event {a0} {s} :
    Runs Lane.logicUp 0x630400008000000000000001000000000000020000000000000000000000000000000000000000000000000800600000000000004 a0 s (execHandoverDrill a0 s) := by
  refine runs_logic fun M b l m g10 => ?_
  exact Lane.near_ite (Lane.startDrill_near (tr m rfl) g10) g10

theorem execHandover_event {a0} {a1} {a2} {a3} {s} :
    Runs Lane.logicUp 0x380000000848000001e0005f7e0d60008000000000000751103b00002000020014000000000000000000000000000000a00008000020004f20600000000000004 a0 s (execHandover a0 a1 a2 a3 s) := by
  refine runs_logic fun M b l m g10 => ?_
  exact Lane.receive_near (tr m rfl) g10 (fun _ g11 => Lane.takeHandover_near (tr m rfl) g11)

theorem execDrillnow_event {a0} {s} :
    Runs Lane.logicUp 0x10000000000000000000000000000000000000000000000000000000000000000000000000000000000000000000000000000000 a0 s (execDrillnow a0 s) := by
  refine runs_logic fun M b l m g10 => ?_
  exact Lane.near_ite (Lane.askDrill_near (tr m rfl) g10) g10

theorem execRetrain_event {a0} {s} :
    Runs Lane.logicUp 0x8000000000000001000000000000000000000000000000000000000000000000000000000000000000200000000000000 a0 s (execRetrain a0 s) := by
  refine runs_logic fun M b l m g10 => ?_
  exact Lane.near_ite (Lane.retrain_near (tr m rfl) g10) g10

theorem execOutFrame_event {a0} {a1} {a2} {s} :
    Runs Lane.logicUp 0x380000802cc8028bb5e222507a0fe000830c000000380751103b1000200022001400000000000005c000020000000000a000080000f0006720600000000800004 a0 s (execOutFrame a0 a1 a2 s) := by
  refine runs_logic fun M b l m g10 => ?_
  exact Lane.receive_near (tr m rfl) g10 (fun _ g11 => Lane.outSeen_near (tr m rfl) g11)

theorem execRejoin_event {a0} {a1} {a2} {a3} {s} :
    Runs Lane.logicUp 0x10000380400002cc8038bb5e2000c98e78000830c0000003807515ffffffffffffffffffffffffffffffffffffffffffffffffffffffffffffffffffffffffffffffff a0 s (execRejoin a0 a1 a2 a3 s) := by
  refine runs_logic fun M b l m g10 => ?_
  exact Lane.receive_near (tr m rfl) g10 (fun _ g11 => by
    split
    · exact Lane.near_ite (Lane.rejoinReply_near (tr m rfl) g11) g11
    · exact Lane.rejoinAsked_near (tr m rfl) g11)

theorem execResyncLaneTimeout_event {a0} {s} :
    Runs Lane.logicUp 0x380000000848000001e00050720560008000000000000751103b00002000020014000000000000000000000000000000a00008000020004700600000000000004 a0 s (execResyncLaneTimeout a0 s) := by
  refine runs_logic fun M b l m g10 => ?_
  exact Lane.near_ite (Lane.laneOut_near (tr m rfl) (Lane.raise_near (inEvt ev_WG_EVT (tb m rfl)) rfl g10)) g10

theorem execDigest_event {a0} {a1} {a2} {a3} {a4} {a5} {s} :
    Runs Lane.logicUp 0xc000000000000000100000000380007ee2cc8028bb5e222507a07e000830c000004381751dffffffffffffffffffffffffffffffffffffffffffffffffffffffffffffffffffffffffffffffff a0 s (execDigest a0 a1 a2 a3 a4 a5 s) := by
  refine runs_logic fun M b l m g10 => ?_
  exact Lane.receive_near (tr m rfl) g10 (fun _ g11 => Lane.takeDigest_near (tr m rfl) g11)

theorem execDigestWaitEnd_event {a0} {s} :
    Runs Lane.logicUp 0xc000000000000000100000000380007ee2cc8028bb5e2240018078000030c000004381751dffffffffffffffffffffffffffffffffffffffffffffffffffffffffffffffffffffffffffffffff a0 s (execDigestWaitEnd a0 s) := by
  refine runs_logic fun M b l m g10 => ?_
  exact Lane.near_ite (Lane.endWait_near (tr m rfl) g10) g10

theorem execPromptBookReverify_event {a0} {a1} {s} :
    Runs Lane.logicUp 0x380000002cc8028bb5e280507a07e000830c000000380751103b1000200022001400000000000005c000020000000000a000080000f0006720600000000800004 a0 s (execPromptBookReverify a0 a1 s) := by
  refine runs_logic fun M b l m g10 => ?_
  exact Lane.near_ite (Lane.endReverify_near (tr m rfl) g10) g10

theorem execCurtainEntry_event {a0} {s} :
    Runs Lane.logicUp 0xc000000000000000008000000000000000000000001000000000000000000000000000c000000000000000000000000000000000000000000000000 a0 s (execCurtainEntry a0 s) := by
  refine runs_logic fun M b l m g10 => ?_
  exact Lane.endStop_near (tr m rfl) g10

theorem execTicketRequest_event {a0} {a1} {a2} {s} :
    Runs Lane.logicUp 0x48000000000000000000000005e00000000000000000000000000000103b00000000000014000000000000000000000000000000000000000000000000000000002300000 a0 s (execTicketRequest a0 a1 a2 s) := by
  refine runs_logic fun M b l m g10 => ?_
  exact Lane.queueTicket_near (tr m rfl) g10

theorem execTicketedWorkEnd_event {a0} {a1} {s} :
    Runs Lane.logicUp 0x5b8000210380000828000006005e000000000000000000000003800009c3b00000000000014000000000000000000000000000010000000000000102000000100022300000 a0 s (execTicketedWorkEnd a0 a1 s) := by
  refine runs_logic fun M b l m g10 => ?_
  exact Lane.endTicket_near (tr m rfl) g10

theorem execTicketStarved_event {a0} {a1} {s} :
    Runs Lane.logicUp 0x8000000000000000000000000000000000000000000000000000000000000000000000000000000000000000000000000000000000000000000000000000000002300000 a0 s (execTicketStarved a0 a1 s) := by
  refine runs_logic fun M b l m g10 => ?_
  extract_lets -underBinder +onlyGivenNames x11
  clear_value x11
  exact Lane.near_ite (Lane.showBox_near (tr m rfl) (Lane.raise_near (inEvt ev_BX_EVT (tb m rfl)) rfl (Lane.onBox_near (f := _) (BoxState.Near.mk (ch m rfl) kp kp kp kp kp kp kp kp kp kp kp kp kp kp kp kp kp kp) g10))) g10

theorem execCommitmentRelease_event {a0} {a1} {s} :
    Runs Lane.logicUp 0x20000000000000000000000000000000000000000000000000000000000000000000000000000000000000000000000000000000000000000000000000000000002100000 a0 s (execCommitmentRelease a0 a1 s) := by
  refine runs_logic fun M b l m g10 => ?_
  exact Lane.showBox_near (tr m rfl) (Lane.onBox_near (f := _) (BoxState.Near.mk kp kp (ch m rfl) kp kp kp kp kp kp kp kp kp kp kp kp kp kp kp kp) g10)

theorem execSupLedgerClose_event {a0} {s} :
    Runs Lane.logicUp 0x12100000 a0 s (execSupLedgerClose a0 s) := by
  refine runs_logic fun M b l m g10 => ?_
  exact Lane.near_ite (Lane.showBox_near (tr m rfl) (Lane.showSup_near (tr m rfl) (Lane.drop_near (inReg at_BX_STAT (tb m rfl)) g10))) g10

theorem execGaugeRead_event {a0} {a1} {a2} {s} :
    Runs Lane.logicUp 0x40000000000000000000000000000000000000000000000033800000000000000000000000000000000000000000000000000000000000000000000000200000000c8600 a0 s (execGaugeRead a0 a1 a2 s) := by
  refine runs_logic fun M b l m g10 => ?_
  extract_lets -underBinder +onlyGivenNames x11
  have h11 : Lane.Near M b x11 := showGauges_near (fun i => ⟨inEvt (at_PW_LGAUGE i.isLt).1 (tb m rfl), rfl⟩) (fun i => inReg (at_PW_LGAUGE i.isLt) (tb m rfl)) g10
  clear_value x11
  extract_lets -underBinder +onlyGivenNames x12
  have h12 : Lane.Near M b x12 := showGauges_near (fun i => ⟨inEvt (at_PW_PGAUGE i.isLt).1 (tb m rfl), rfl⟩) (fun i => inReg (at_PW_PGAUGE i.isLt) (tb m rfl)) h11
  clear_value x12
  extract_lets -underBinder +onlyGivenNames x13 x14 x15 x16 x17 x18
  clear_value x13 x14 x15 x16 x17 x18
  split
  · extract_lets -underBinder +onlyGivenNames x19
    have h19 : Lane.Near M b x19 := Lane.put_near (inReg at_PW_PACE (tb m rfl)) (Lane.put_near (inReg at_PW_PACE (tb m rfl)) (Lane.putFlag_near (inReg at_PW_PACE (tb m rfl)) h12))
    clear_value x19
    extract_lets -underBinder +onlyGivenNames x20
    have h20 : Lane.Near M b x20 := Lane.putFlag_near (inReg at_PW_SUPSTAT (tb m rfl)) h19
    clear_value x20
    extract_lets -underBinder +onlyGivenNames x21
    have h21 : Lane.Near M b x21 := Lane.when_near h20 (fun _ g22 => Lane.bump_near (inReg at_PW_PACE (tb m rfl)) (Lane.raise_near (inEvt ev_PW_SUPEVT (tb m rfl)) rfl g22))
    clear_value x21
    extract_lets -underBinder +onlyGivenNames x23
    have h23 : Lane.Near M b x23 := Lane.onPower_near (f := _) (PowerState.Near.mk kp kp kp kp kp kp kp kp kp kp kp (ch m rfl) (ch m rfl) kp kp kp kp kp kp kp kp kp kp kp kp) h21
    clear_value x23
    extract_lets -underBinder +onlyGivenNames x24
    have h24 : Lane.Near M b x24 := Lane.when_near h23 (fun _ g25 => Lane.boostCore_near (tr m rfl) g25)
    clear_value x24
    exact Lane.showSpread_near (tr m rfl) h24

theorem execDeficitPersist_event {a0} {a1} {s} :
    Runs Lane.logicUp 0x380000000848000001e00050720560008000000000000751103b00002000020014000000000000000000000000000000a00008000020004700600000000000004 a0 s (execDeficitPersist a0 a1 s) := by
  refine runs_logic fun M b l m g10 => ?_
  exact Lane.near_ite (Lane.near_ite (Lane.laneOut_near (tr m rfl) g10) g10) (Lane.near_ite (Lane.laneOut_near (tr m rfl) g10) g10)

theorem execVcoreStep_event {a0} {s} :
    Runs Lane.logicUp 0x1c000001000000000000000000000000000000000000000000000000000000000000000000000000000000280 a0 s (execVcoreStep a0 s) := by
  refine runs_logic fun M b l m g10 => ?_
  extract_lets -underBinder +onlyGivenNames x11 x12
  clear_value x11 x12
  exact Lane.near_ite g10 (by
    extract_lets -underBinder +onlyGivenNames x13
    clear_value x13
    exact Lane.send_near (tb m rfl) (Lane.showVcok_near (tr m rfl) (Lane.markMax_near (tr m rfl) (Lane.onPower_near (f := _) (PowerState.Near.mk kp kp kp kp kp kp kp kp kp kp kp kp kp kp (ch m rfl) (ch m rfl) kp kp kp kp kp kp kp kp kp) (Lane.put_near (inReg at_PW_VCSET (tb m rfl)) g10)))))

theorem execVcoreRiseDone_event {a0} {a1} {s} :
    Runs Lane.logicUp 0x800000000000000000000000000000000780350000000000000000000000000000000000000000000000000a00000000000000000000000000000280 a0 s (execVcoreRiseDone a0 a1 s) := by
  refine runs_logic fun M b l m g10 => ?_
  exact Lane.measureCore_near (tr m rfl) g10

theorem execVcoreRiseTimeout_event {a0 : Seen Nat} {s} :
    Runs Lane.logicUp 0x380000000848000001e00050720560008000000000780751103b00002000020014000000000000000000000000000000a00008000020004700600000000000684 a0.toAt s (execVcoreRiseTimeout a0 s) := by
  refine runs_logic fun M b l m g10 => ?_
  extract_lets -underBinder +onlyGivenNames x11
  have h11 : Lane.Near M b x11 := Lane.measureCore_near (tr m rfl) g10
  clear_value x11
  exact Lane.near_ite (Lane.laneOut_near (tr m rfl) (Lane.raise_near (inEvt ev_PW_SUPEVT (tb m rfl)) rfl h11)) h11

theorem execCoreUndervoltage_event {a0 : Seen Nat} {a1} {s} :
    Runs Lane.logicUp 0x380000000848000001e00050720560008000000000780751103b00002000020014000000000000000000000000000000a00008000020004700600000000000684 a0.toAt s (execCoreUndervoltage a0 a1 s) := by
  refine runs_logic fun M b l m g10 => ?_
  extract_lets -underBinder +onlyGivenNames x11
  have h11 : Lane.Near M b x11 := Lane.measureCore_near (tr m rfl) g10
  clear_value x11
  exact Lane.near_ite (Lane.laneOut_near (tr m rfl) (Lane.raise_near (inEvt ev_PW_SUPEVT (tb m rfl)) rfl h11)) h11

theorem execCoreOvervoltage_event {a0 : Seen Nat} {a1} {s} :
    Runs Lane.monitorsUp 0x800000000000000000000000000018004e251000000002000000000000000000000000000000000000000a00000000000000000000000000000004 a0.toAt s (execCoreOvervoltage a0 a1 s) := by
  refine runs_power fun M b l m g10 => ?_
  exact Lane.near_ite (Lane.shutDown_near (tr m rfl) g10) g10

theorem execLateCrossing_event {a0} {a1} {s} :
    Runs Lane.logicUp 0x20400 a0 s (execLateCrossing a0 a1 s) := by
  refine runs_logic fun M b l m g10 => ?_
  extract_lets -underBinder +onlyGivenNames x11
  have h11 : Lane.Near M b x11 := Lane.put_near (inReg at_PW_XCNT (tb m rfl)) (Lane.bump_near (inReg at_PW_XCNT (tb m rfl)) g10)
  clear_value x11
  exact Lane.raise_near (inEvt ev_PW_SUPEVT (tb m rfl)) rfl h11

theorem execReferenceLoss_event {a0 : Seen (Nat × Nat)} {s} :
    Runs Lane.logicUp 0x380000000848000001e00050720560008000000400000751103b00002000020014000000000000000000000000000000a00008000020004700600000000000604 a0.toAt s (execReferenceLoss a0 s) := by
  refine runs_logic fun M b l m g10 => ?_
  exact Lane.when_near g10 (fun _ g11 => Lane.laneOut_near (tr m rfl) (Lane.onPower_near (f := _) (PowerState.Near.mk kp kp kp kp kp kp kp kp kp kp kp kp kp kp kp kp kp kp kp kp kp (ch m rfl) kp kp kp) (Lane.drop_near (inReg at_PW_SUPSTAT (tb m rfl)) (Lane.raise_near (inEvt ev_PW_SUPEVT (tb m rfl)) rfl g11))))

theorem execPllUnlock_event {a0} {s} :
    Runs Lane.logicUp 0x380000000848000001e00050720560008000000800000751103b00002000020014000000000000000000000000000000a00008000020004700600000000000604 a0 s (execPllUnlock a0 s) := by
  refine runs_logic fun M b l m g10 => ?_
  exact Lane.laneOut_near (tr m rfl) (Lane.onPower_near (f := _) (PowerState.Near.mk kp kp kp kp kp kp kp kp kp kp kp kp kp kp kp kp kp kp kp kp kp kp (ch m rfl) kp kp) (Lane.drop_near (inReg at_PW_SUPSTAT (tb m rfl)) (Lane.raise_near (inEvt ev_PW_SUPEVT (tb m rfl)) rfl g10)))

theorem execPowerUp_event {a0 : Seen Nat} {a1} {s} :
    Runs (fun _ => true) 0x800000000000000000000000000000000003c0066000000000000000000000000000000000000000000000000000000000000000000000000000000000000 a0.toAt s (execPowerUp a0 a1 s) := by
  refine runs_any fun M b l m g10 => ?_
  exact Lane.near_ite (Lane.onPower_near (f := _) (PowerState.Near.mk (ch m rfl) (ch m rfl) kp kp (ch m rfl) (ch m rfl) kp kp kp kp kp kp kp kp kp kp kp (ch m rfl) (ch m rfl) (ch m rfl) (ch m rfl) kp kp kp kp) (Lane.onTrust_near (f := _) (TrustState.Near.mk kp kp kp kp kp kp kp kp kp kp kp kp kp kp kp kp (ch m rfl) kp kp kp) g10)) g10

theorem execPllLock_event {a0} {s} :
    Runs Lane.monitorsUp 0xc0000e001000000000000000000000000000000000000000000000000000000000000000000000000000000200 a0 s (execPllLock a0 s) := by
  refine runs_power fun M b l m g10 => ?_
  extract_lets -underBinder +onlyGivenNames x11
  have h11 : Lane.Near M b x11 := Lane.onPower_near (f := _) (PowerState.Near.mk kp kp kp kp kp kp kp kp kp kp kp kp kp kp kp kp kp kp kp kp kp (ch m rfl) (ch m rfl) kp kp) g10
  clear_value x11
  exact Lane.near_ite (Lane.enableCore_near (tr m rfl) (Lane.send_near (tb m rfl) (Lane.powerPhase_near (tr m rfl) h11))) (Lane.near_ite (Lane.raise_near (inReg at_PW_SUPSTAT (tb m rfl)).1 rfl (Lane.raise_near (inReg at_PW_SUPSTAT (tb m rfl)).1 rfl h11)) h11)

theorem execSupplyWindowMiss_event {a0 : Seen (Fin 4)} {s} :
    Runs Lane.monitorsUp 0x3e001000000000000000000000000000000000000000000000000000000000000000000000000000000000 a0.toAt s (execSupplyWindowMiss a0 s) := by
  refine runs_power fun M b l m g10 => ?_
  exact Lane.near_ite (by
    extract_lets -underBinder +onlyGivenNames x11
    have h11 : Lane.Near M b x11 := Lane.enableCore_near (tr m rfl) (Lane.railsDown_near (tr m rfl) (Lane.railsUp_near (tr m rfl) g10))
    clear_value x11
    extract_lets -underBinder +onlyGivenNames x12
    have h12 : Lane.Near M b x12 := Lane.onPower_near (f := _) (PowerState.Near.mk kp kp kp kp (ch m rfl) kp kp kp kp kp kp kp kp kp kp kp kp kp kp kp kp kp kp kp kp) h11
    clear_value x12
    exact Lane.powerPhase_near (tr m rfl) h12) g10

theorem execSupplyRetry_event {a0} {s} :
    Runs Lane.monitorsUp 0xe001000000000000000000000000000000000000000000000000000000000000000000000000000000000 a0 s (execSupplyRetry a0 s) := by
  refine runs_power fun M b l m g10 => ?_
  exact Lane.near_ite (Lane.enableCore_near (tr m rfl) (Lane.send_near (tb m rfl) (Lane.powerPhase_near (tr m rfl) g10))) g10

theorem execLogicRelease_event {a0 : Seen Nat} {a1} {s} :
    Runs Lane.monitorsUp 0xffffffffffffffffffffffffffffffffffffffffffffffffffffffffffffffffffffffffffffffffffffffffffffffffffffffffffffffffffffffffffffffffffffffffffffffffffffffffff a0.toAt s (execLogicRelease a0 a1 s) := by
  refine runs_power fun M b l m g10 => ?_
  exact Lane.near_ite (Lane.releaseLogic_near (tr m rfl) (Lane.railsUp_near (tr m rfl) g10)) g10

theorem execVinReserve_event {a0} {a1} {s} :
    Runs Lane.logicUp 0x100000000000000000000000000000000000000000000000000000000000000000000000000000000000000000000000000000000000000000000000000000000000012100e00 a0 s (execVinReserve a0 a1 s) := by
  refine runs_logic fun M b l m g10 => ?_
  extract_lets -underBinder +onlyGivenNames x11
  have h11 : Lane.Near M b x11 := Lane.put_near (inReg at_PW_VIN (tb m rfl)) g10
  clear_value x11
  extract_lets -underBinder +onlyGivenNames x12
  have h12 : Lane.Near M b x12 := Lane.when_near h11 (fun _ g13 => Lane.onBox_near (f := _) (BoxState.Near.mk kp kp kp kp kp kp kp kp kp kp kp kp kp kp kp kp kp (ch m rfl) kp) g13)
  clear_value x12
  exact Lane.near_ite (Lane.showBox_near (tr m rfl) (Lane.showSup_near (tr m rfl) (Lane.raise_near (inReg at_BX_STAT (tb m rfl)).1 rfl (Lane.raise_near (inEvt ev_PW_SUPEVT (tb m rfl)) rfl (Lane.raise_near (inReg at_PW_SUPSTAT (tb m rfl)).1 rfl h12))))) h12

theorem execVinUndervoltage_event {a0 : Seen Nat} {s} :
    Runs Lane.monitorsUp 0x800000000000000000000000000018004e251000000002000000000000000000000000000000000000000a00000000000000000000000000000004 a0.toAt s (execVinUndervoltage a0 s) := by
  refine runs_power fun M b l m g10 => ?_
  exact Lane.when_near g10 (fun _ g11 => by
    split
    · exact Lane.onPower_near (f := _) (PowerState.Near.mk kp kp kp kp kp kp kp kp kp kp kp kp kp kp kp kp kp kp kp (ch m rfl) kp kp kp kp kp) g11
    · exact Lane.onPower_near (f := _) (PowerState.Near.mk kp kp kp kp kp kp kp kp kp kp kp kp kp kp kp kp kp kp kp (ch m rfl) kp kp kp kp kp) (Lane.powerPhase_near (tr m rfl) g11)
    · exact Lane.shutDown_near (tr m rfl) g11)

theorem execShutdownSequenceEnd_event {a0 : Seen Bool} {a1} {s} :
    Runs Lane.monitorsUp 0x240076001000000000000000000000000000000000000000000000000000000000000000000000000000000000 a0.toAt s (execShutdownSequenceEnd a0 a1 s) := by
  refine runs_power fun M b l m g10 => ?_
  exact Lane.near_ite (by
    extract_lets -underBinder +onlyGivenNames x11
    have h11 : Lane.Near M b x11 := Lane.onPower_near (f := _) (PowerState.Near.mk kp kp kp kp (ch m rfl) (ch m rfl) kp kp kp kp kp kp kp kp kp kp kp (ch m rfl) kp kp (ch m rfl) kp kp kp kp) (Lane.railsDown_near (tr m rfl) g10)
    clear_value x11
    exact Lane.powerPhase_near (tr m rfl) h11) g10

theorem execTemperatureWarning_event {a0} {a1} {a2} {s} :
    Runs Lane.logicUp 0x2600 a0 s (execTemperatureWarning a0 a1 a2 s) := by
  refine runs_logic fun M b l m g10 => ?_
  exact Lane.showTemps_near (tr m rfl) g10

theorem execTemperatureTrip_event {a0} {a1} {a2} {s} :
    Runs Lane.logicUp 0x380000000848000001e00050720560008000000000000751103b00002000020014000000000000000000000000000000a00008000020004700600000000002604 a0 s (execTemperatureTrip a0 a1 a2 s) := by
  refine runs_logic fun M b l m g10 => ?_
  extract_lets -underBinder +onlyGivenNames x11
  have h11 : Lane.Near M b x11 := Lane.showTemps_near (tr m rfl) g10
  clear_value x11
  exact Lane.near_ite (Lane.laneOut_near (tr m rfl) (Lane.raise_near (inEvt ev_PW_SUPEVT (tb m rfl)) rfl h11)) h11

theorem execMemoryInitDone_event {a0} {a1} {s} :
    Runs Lane.logicUp 0x80000000000000400000000000000000000000018000000f0000000000000000000000000000000000000000000000000000000000000000000000018 a0 s (execMemoryInitDone a0 a1 s) := by
  refine runs_logic fun M b l m g10 => ?_
  exact Lane.near_ite (Lane.keeperStart_near (tr m rfl) (Lane.raise_near (inReg at_LC_MEMCFG (tb m rfl)).1 rfl (Lane.put_near (inReg at_LC_MEMCFG (tb m rfl)) g10))) g10

theorem execFirmwareVerified_event {a0} {s} :
    Runs Lane.logicUp 0x48000000002038002000020005e2000000038000000000000038000113fb00000000000014000000000000000000004000000000000000000000002000000000002b0000e a0 s (execFirmwareVerified a0 s) := by
  refine runs_logic fun M b l m g10 => ?_
  exact Lane.near_ite (Lane.verifyFirmware_near (tr m rfl) g10) g10

theorem execRehearsalStepDone_event {a0} {a1} {a2} {s} :
    Runs Lane.logicUp 0x5f800086439d80794acc8028bb5e200507a07e000830c000000380751903b1000200022001400000000000005c00002c000000010e000080000f81fe720600300022b0000c a0 s (execRehearsalStepDone a0 a1 a2 s) := by
  refine runs_logic fun M b l m g10 => ?_
  exact Lane.near_ite (Lane.endStep_near (tr m rfl) g10) (Lane.near_ite (Lane.endRerun_near (tr m rfl) g10) g10)

theorem execScriptCheck_event {a0} {s} :
    Runs Lane.logicUp 0xf000000000002000020000020580000380008000000000380001000000000000000000000000000000000000000000000000000000000000002000000200000800004 a0 s (execScriptCheck a0 s) := by
  refine runs_logic fun M b l m g10 => ?_
  exact Lane.near_ite (Lane.sendDigest_near (tr m rfl) (Lane.startTrio_near (tr m rfl) (Lane.drop_near (inReg at_BI_STAT (tb m rfl)) (Lane.put_near (inReg at_BI_STAT (tb m rfl)) (Lane.takeMode_near (tr m rfl) g10))))) g10

theorem execScriptCheckDone_event {a0} {s} :
    Runs Lane.logicUp 0xc000000000000000100000000380007ee2cc8028bb5e2200018078000030c000004381751dffffffffffffffffffffffffffffffffffffffffffffffffffffffffffffffffffffffffffffffff a0 s (execScriptCheckDone a0 s) := by
  refine runs_logic fun M b l m g10 => ?_
  exact Lane.near_ite (Lane.endScriptCheck_near (tr m rfl) g10) g10

theorem execMemoryRotation_event {a0} {s} :
    Runs Lane.logicUp 0x48000000020000000000000005e00000000000000000000000000000103b00000000000014000000000000000000000000000000000000000000000000000000002300000 a0 s (execMemoryRotation a0 s) := by
  refine runs_logic fun M b l m g10 => ?_
  exact Lane.bankDue_near (tr m rfl) g10

theorem execBankSwap_event {a0} {s} :
    Runs Lane.logicUp 0x98000000000000000000000000000000000000000000000000000000000000000000000000000000000000000000000000000000000000000000000000000000 a0 s (execBankSwap a0 s) := by
  refine runs_logic fun M b l m g10 => ?_
  exact Lane.swapBank_near (tr m rfl) g10

theorem execMarchDone_event {a0} {a1} {s} :
    Runs Lane.logicUp 0x5b8000010398000800848000001e00050720560008000000000080751903b00002000020014000000000000000000000000000010a0000800002118e700600100022300004 a0 s (execMarchDone a0 a1 s) := by
  refine runs_logic fun M b l m g10 => ?_
  split
  · exact Lane.endMarch_near (tr m rfl) g10
  · exact g10

theorem execEccCorrected_event {a0} {a1} {a2} {a3} {a4} {s} :
    Runs Lane.logicUp 0x18000000000000000000000000000000000000000000000000800000000000000000000000000000000000000000000000000000000000184000000000000000000 a0 s (execEccCorrected a0 a1 a2 a3 a4 s) := by
  refine runs_logic fun M b l m g10 => ?_
  extract_lets -underBinder +onlyGivenNames x11
  have h11 : Lane.Near M b x11 := Lane.showMemory_near (tr m rfl) g10
  clear_value x11
  extract_lets -underBinder +onlyGivenNames x12 x13
  clear_value x12 x13
  extract_lets -underBinder +onlyGivenNames x14
  have h14 : Lane.Near M b x14 := Lane.onReh_near (f := _) (RehState.Near.mk kp kp kp kp kp kp kp kp kp kp kp kp kp kp kp kp (ch m rfl) kp kp kp kp kp kp kp kp) h11
  clear_value x14
  exact Lane.when_near h14 (fun _ g15 => Lane.addRows_near (tr m rfl) (Lane.raise_near (inEvt ev_BI_EVT (tb m rfl)) rfl g15))

theorem execComparatorRotation_event {a0} {a1} {s} :
    Runs Lane.logicUp 0x5f8000842bc0000802cc8028bb5e2000018078000030c000000380751103b1000200022001400000000000005c000020000000010a000080000f1016020600100022b00004 a0 s (execComparatorRotation a0 a1 s) := by
  refine runs_logic fun M b l m g10 => ?_
  split
  · exact Lane.comparatorDue_near (tr m rfl) g10
  · exact Lane.endComparators_near (tr m rfl) g10
  · exact g10

theorem execTwinSweep_event {a0} {a1} {s} :
    Runs Lane.logicUp 0x5f8000000780000800000000005e00000000000000000000000080000103b00000000000014000000000000000000000000000010000000000000046000000100022300000 a0 s (execTwinSweep a0 a1 s) := by
  refine runs_logic fun M b l m g10 => ?_
  split
  · exact Lane.twinDue_near (tr m rfl) g10
  · exact Lane.endTwin_near (tr m rfl) g10
  · exact g10

theorem execLinkMarginScan_event {a0} {a1} {a2} {s} :
    Runs Lane.logicUp 0x80000000000000000000000000000000008000000000000000000000000000000000000000000000000000000000000000000000000002004000600000000000000 a0 s (execLinkMarginScan a0 a1 a2 s) := by
  refine runs_logic fun M b l m g10 => ?_
  exact Lane.marginScan_near (tr m rfl) g10

theorem execRerun_event {a0} {a1} {s} :
    Runs Lane.logicUp 0x48000000000000000000000005e00000000000000000000000000000103b00000000000014000000000000000000000000000000000000000000000000000000002300000 a0 s (execRerun a0 a1 s) := by
  refine runs_logic fun M b l m g10 => ?_
  exact Lane.rerun_near (tr m rfl) g10

theorem execPhyLink_event {a0 : Seen Sys2Proof.Word} {a1} {s} :
    Runs Lane.logicUp 0x770000000400000000000000000000000000000000000000000000000000000000000000000000000000000000000000061800000000000000000000000000000000000000000000000000 a0.toAt s (execPhyLink a0 a1 s) := by
  refine runs_logic fun M b l m g10 => ?_
  exact Lane.near_ite g10 (by
    extract_lets -underBinder +onlyGivenNames x11
    clear_value x11
    extract_lets -underBinder +onlyGivenNames x12
    have h12 : Lane.Near M b x12 := Lane.onPort_near (tr m rfl) g10
    clear_value x12
    exact Lane.near_ite (Lane.breakPort_near (tr m rfl) (Lane.raise_near (inEvt ev_VR_EVT (tb m rfl)) rfl h12)) (Lane.negotiateLink_near (tr m rfl) h12))

theorem execVirecHelloSend_event {a0} {a1} {s} :
    Runs Lane.logicUp 0x400000000000000000000000000000000000000000000000000000000001000000000000000000000000000000000000000000000000000000000000000000000000000000000 a0 s (execVirecHelloSend a0 a1 s) := by
  refine runs_logic fun M b l m g10 => ?_
  extract_lets -underBinder +onlyGivenNames x11
  clear_value x11
  exact Lane.near_ite (Lane.send_near (tb m rfl) (Lane.onPort_near (tr m rfl) g10)) g10

theorem execVirecHello_event {a0} {a1} {a2} {s} :
    Runs Lane.logicUp 0x779db0000400000000000000000000000000000000000000000000000000000000000000000000000000000000000000061800000000000000000000000000000000000000000000000000 a0 s (execVirecHello a0 a1 a2 s) := by
  refine runs_logic fun M b l m g10 => ?_
  exact Lane.ringHello_near (tr m rfl) g10

theorem execRateTimeout_event {a0} {a1} {s} :
    Runs Lane.logicUp 0x400000000000000000000000000000000000000000000000000000000000000000000000000000000000000060000000000000000000000000000000000000000000000000000 a0 s (execRateTimeout a0 a1 s) := by
  refine runs_logic fun M b l m g10 => ?_
  extract_lets -underBinder +onlyGivenNames x11
  clear_value x11
  exact Lane.near_ite (by
    extract_lets -underBinder +onlyGivenNames x12
    clear_value x12
    exact Lane.onPort_near (tr m rfl) (Lane.putFlag_near (put_ite (inReg at_VR_PSTATW (tb m rfl)) (inReg at_VR_PSTATE (tb m rfl))) g10)) g10

theorem execCueInstant_event {a0} {a1} {s} :
    Runs Lane.logicUp 0xe07a7f3ffdfffc001080105003804002a3cea039ff5e218707aefe090930c0000043a37d5dffffffffffffffffffffffffffffffffffffffffffffffffffffffffffffffffffffffffffffffff a0 s (execCueInstant a0 a1 s) := by
  refine runs_logic fun M b l m g10 => ?_
  exact Lane.cueInstant_near (tr m rfl) g10

theorem execCueSend_event {a0} {a1} {a2} {a3} {s} :
    Runs Lane.logicUp 0x270002008400000000000000000000000000000400000000000000000000000000001000000000000000000000000000801800000000000000000000000000000000000000000000000000 a0 s (execCueSend a0 a1 a2 a3 s) := by
  refine runs_logic fun M b l m g10 => ?_
  split
  · exact g10
  · exact Lane.sendOwnCue_near (tr m rfl) g10

theorem execCueFrame_event {a0} {a1} {a2} {s} :
    Runs Lane.logicUp 0x40fff7ddb43b7c0004821000038060797bdc806fbfde205801907e001830d800004381757dffffffffffffffffffffffffffffffffffffffffffffffffffffffffffffffffffffffffffffffff a0 s (execCueFrame a0 a1 a2 s) := by
  refine runs_logic fun M b l m g10 => ?_
  exact Lane.takeVirec_near (tr m rfl) g10

theorem execCueWindowEnd_event {a0} {a1} {a2} {s} :
    Runs Lane.logicUp 0x770000014400000000000000000000000000000000000000000000000000000000000000000000000000000000000000661800000000000000000000000000000000000000000000000000 a0 s (execCueWindowEnd a0 a1 a2 s) := by
  refine runs_logic fun M b l m g10 => ?_
  exact Lane.emptyCue_near (tr m rfl) g10

theorem execPortBreak_event {a0 : Seen Nat} {a1} {s} :
    Runs Lane.logicUp 0x770000000400000000000000000000000000000000000000000000000000000000000000000000000000000000000000061800000000000000000000000000000000000000000000000000 a0.toAt s (execPortBreak a0 a1 s) := by
  refine runs_logic fun M b l m g10 => ?_
  exact Lane.when_near g10 (fun _ g11 => Lane.breakPort_near (tr m rfl) (Lane.onPort_near (tr m rfl) g11))

theorem execColdStart_event {a0} {s} :
    Runs Lane.logicUp 0x1db0000000000000000000000000000000000000000000000000000000000000000000000000000000000000000000000800000000000000000000000000000000000000000000000000 a0 s (execColdStart a0 s) := by
  refine runs_logic fun M b l m g10 => ?_
  exact Lane.near_ite (Lane.setRing_near (tr m rfl) g10) g10

theorem execStartFrame_event {a0} {a1} {a2} {s} :
    Runs Lane.logicUp 0x40fff7ddb43b7c0004821000038060797bdc806fbfde205801907e001830d800004381757dffffffffffffffffffffffffffffffffffffffffffffffffffffffffffffffffffffffffffffffff a0 s (execStartFrame a0 a1 a2 s) := by
  refine runs_logic fun M b l m g10 => ?_
  exact Lane.takeVirec_near (tr m rfl) g10

theorem execShann_event {a0} {a1} {s} :
    Runs Lane.logicUp 0x50000000000000000000000000000000000000000000000000000000000000000000000000000000000000000000000000800000000000000000000000000000000000000000000000000 a0 s (execShann a0 a1 s) := by
  refine runs_logic fun M b l m g10 => ?_
  exact Lane.announce_near (tr m rfl) g10

theorem execReint_event {a0} {s} :
    Runs Lane.logicUp 0x1db0000000000000000000000000000000000000000000000000000000000000000000000000000000000000000000000800000000000000000000000000000000000000000000000000 a0 s (execReint a0 s) := by
  refine runs_logic fun M b l m g10 => ?_
  exact Lane.near_ite (Lane.reintegrate_near (tr m rfl) g10) g10

theorem execStep_event {a0} {a1} {s} :
    Runs Lane.logicUp 0x800000000000000000000000000000000000000000000000000000000000000000000000000000000000000000000180000000000000000000000000000000000000000000000000000000 a0 s (execStep a0 a1 s) := by
  refine runs_logic fun M b l m g10 => ?_
  exact Lane.writeStep_near (tr m rfl) g10

theorem execStepApply_event {a0} {s} :
    Runs Lane.logicUp 0x800000000000000000000000000000000000000000000000000000000000000000002000000000000000000000000080000000000000000000000000000000000000000000000000000000 a0 s (execStepApply a0 s) := by
  refine runs_logic fun M b l m g10 => ?_
  exact Lane.near_ite (Lane.applyStep_near (tr m rfl) g10) g10

theorem execIncr_event {a0} {a1} {s} :
    Runs Lane.logicUp 0x1000000000000000000000000000000000000000000000000000000000000000000000000000000000000000000001800000000000000000000000000000000000000000000000000000000 a0 s (execIncr a0 a1 s) := by
  refine runs_logic fun M b l m g10 => ?_
  exact Lane.near_ite (Lane.writeIncr_near (tr m rfl) g10) g10

theorem execSyncLoss_event {a0} {s} :
    Runs Lane.logicUp 0x1a000000000000000000000000000000000000000000000000000000000000000000000000000000000000000000001180000000000000000000000000000000000000000000000000000000 a0 s (execSyncLoss a0 s) := by
  refine runs_logic fun M b l m g10 => ?_
  exact Lane.near_ite (Lane.raise_near (inEvt ev_TM_EVT (tb m rfl)) rfl (Lane.setTimeMode_near (tr m rfl) g10)) g10

theorem execTimeLatch_event {a0} {s} :
    Runs Lane.logicUp 0x3c000000000000000000000000000000000000000000000000000000000 a0 s (execTimeLatch a0 s) := by
  refine runs_logic fun M b l m g10 => ?_
  exact Lane.latchTime_near (tr m rfl) g10

theorem execCanFrameReceived_event {a0} {a1} {a2} {s} :
    Runs Lane.logicUp 0x300000000000000000000000000000000000000000000000000000000000000000000000480000000000000001d2b8000000000000000000000000000000000000000000000000000000000000 a0 s (execCanFrameReceived a0 a1 a2 s) := by
  refine runs_logic fun M b l m g10 => ?_
  exact Lane.canReceive_near (tr m rfl) g10

theorem execCanSlot_event {a0} {a1} {a2} {s} :
    Runs Lane.logicUp 0x7000000000000000000000000000000000000000000000000000000000000000000000000000000000000000040a8000000000000000000000000000000000000000000000000000000000000 a0 s (execCanSlot a0 a1 a2 s) := by
  refine runs_logic fun M b l m g10 => ?_
  exact Lane.canOpen_near (tr m rfl) g10

theorem execCanSlotEnd_event {a0} {a1} {a2} {s} :
    Runs Lane.logicUp 0x11000000000000000000000000000000000000000008000000000000000000000000000018000000000000000142f8000000000000000000000000000000000000000000000000000000000000 a0 s (execCanSlotEnd a0 a1 a2 s) := by
  refine runs_logic fun M b l m g10 => ?_
  exact Lane.near_foldl (fun _ _ q11 g11 => Lane.loadCan_near (tr m rfl) g11) (Lane.canClose_near (tr m rfl) g10)

theorem execBusOffDelay_event {a0} {a1} {s} :
    Runs Lane.logicUp 0x8000000000000000000000000000000000000000000000000000000000000 a0 s (execBusOffDelay a0 a1 s) := by
  refine runs_logic fun M b l m g10 => ?_
  split
  · exact Lane.near_ite (Lane.canRecover_near (tr m rfl) g10) g10
  · exact g10

theorem execRecover_event {a0} {a1} {s} :
    Runs Lane.logicUp 0x8000000000000000000000000000000000000000000000000000000000000 a0 s (execRecover a0 a1 s) := by
  refine runs_logic fun M b l m g10 => ?_
  exact Lane.canRecover_near (tr m rfl) g10

theorem execRecoveryDone_event {a0} {a1} {s} :
    Runs Lane.logicUp 0x1000000000000000000000000000000000000000000000000000000000000000000000000000000000000000000038000000000000000000000000000000000000000000000000000000000000 a0 s (execRecoveryDone a0 a1 s) := by
  refine runs_logic fun M b l m g10 => ?_
  exact Lane.near_ite (by
    extract_lets -underBinder +onlyGivenNames x11
    have h11 : Lane.Near M b x11 := Lane.put_near (inReg (at_CN_ERR (Fin.isLt _)) (tb m rfl)) (Lane.put_near (inReg (at_CN_ERR (Fin.isLt _)) (tb m rfl)) (Lane.put_near (inReg (at_CN_STAT (Fin.isLt _)) (tb m rfl)) g10))
    clear_value x11
    exact Lane.onCan_near (f := _) (CanState.Near.mk kp kp kp kp (ch m rfl) kp) (Lane.raise_near (inEvt (ev_CN_EVT (Fin.isLt _)) (tb m rfl)) rfl h11)) g10

theorem execFreshAck_event {a0} {a1} {a2} {a3} {s} :
    Runs Lane.logicUp 0x4000000000000000000000000000000000000000000000000000000000000000 a0 s (execFreshAck a0 a1 a2 a3 s) := by
  refine runs_logic fun M b l m g10 => ?_
  exact Lane.ackBuffer_near (tr m rfl) g10

theorem execAddressClaim_event {a0} {a1} {a2} {a3} {s} :
    Runs Lane.logicUp 0x800000000000000000000000000000000000000000000000000000000000000000000000000000000000000004000000000000000000000000000000000000000000000000000000000000000 a0 s (execAddressClaim a0 a1 a2 a3 s) := by
  refine runs_logic fun M b l m g10 => ?_
  split
  · exact Lane.near_ite (Lane.raise_near (inReg (at_CN_BCTL (Fin.isLt _) (Fin.isLt _)) (tb m rfl)).1 rfl g10) g10
  · exact Lane.onCan_near (f := _) (CanState.Near.mk kp kp kp (ch m rfl) kp kp) g10

theorem execWindowLatch_event {a0} {a1} {a2} {s} :
    Runs Lane.logicUp 0x7000000000000000000000000000000000000000000000000000000000000000000 a0 s (execWindowLatch a0 a1 a2 s) := by
  refine runs_logic fun M b l m g10 => ?_
  exact Lane.latchWindow_near (tr m rfl) g10

theorem execCommit_event {a0} {a1} {s} :
    Runs Lane.logicUp 0x4000000000000000000000000000000000000000000000000000000000000000000000000000000000000002540000000000000000000000000000000000000000000000000000000000000000 a0 s (execCommit a0 a1 s) := by
  refine runs_logic fun M b l m g10 => ?_
  exact Lane.commitWindow_near (tr m rfl) g10

theorem execSeatWrite_event {a0} {a1} {a2} {a3} {s} :
    Runs Lane.logicUp 0x4001851db000040004821000038060797bdc806fbfdf205801907e001830d800004381755dffffffffffffffffffffffffffffffffffffffffffffffffffffffffffffffffffffffffffffffff a0 s (execSeatWrite a0 a1 a2 a3 s) := by
  refine runs_logic fun M b l m g10 => ?_
  exact Lane.near_ite g10 (Lane.near_ite (Lane.frameError_near (tr m rfl) g10) (Lane.near_ite (Lane.raise_near (inEvt ev_HS_EVT (tb m rfl)) rfl (Lane.bump_near (inReg at_HS_CNT2 (tb m rfl)) g10)) (Lane.checkPacket_near (tr m rfl) (Lane.onSeats_near (f := _) (SeatState.Near.mk (ch m rfl) kp kp kp kp kp kp kp kp kp kp kp kp kp kp kp kp kp kp) g10))))

theorem execSeatRead_event {a0} {a1} {s} :
    Runs Lane.logicUp 0x200000000000000000000000000001000200000000000000000000000000000000000000000000000000000000000000000000000000000 a0 s (execSeatRead a0 a1 s) := by
  refine runs_logic fun M b l m g10 => ?_
  exact Lane.near_ite g10 (by
    extract_lets -underBinder +onlyGivenNames x11
    have h11 : Lane.Near M b x11 := Lane.send_near (tb m rfl) g10
    clear_value x11
    exact Lane.near_ite (Lane.atn_near (tr m rfl) (Lane.onSeats_near (f := _) (SeatState.Near.mk kp (ch m rfl) kp kp kp kp kp kp kp kp kp kp kp kp kp kp kp kp kp) h11)) h11)

theorem execSeatStatus_event {a0} {a1} {s} :
    Runs Lane.logicUp 0x100000000000000000000000000001000000000000000000000000000000000000000000000000000000000000000000000000000000000 a0 s (execSeatStatus a0 a1 s) := by
  refine runs_logic fun M b l m g10 => ?_
  exact Lane.near_ite g10 (by
    extract_lets -underBinder +onlyGivenNames x11
    have h11 : Lane.Near M b x11 := Lane.onSeats_near (f := _) (SeatState.Near.mk (ch m rfl) kp kp kp kp kp kp kp kp kp kp kp kp kp kp kp kp kp kp) g10
    clear_value x11
    exact Lane.send_near (tb m rfl) h11)

theorem execCanSegment_event {a0} {a1} {a2} {a3} {a4} {a5} {a6} {s} :
    Runs Lane.logicUp 0x4001851db000040004821000038060797bdc806fbffe205801907e001830d800004381755dffffffffffffffffffffffffffffffffffffffffffffffffffffffffffffffffffffffffffffffff a0 s (execCanSegment a0 a1 a2 a3 a4 a5 a6 s) := by
  refine runs_logic fun M b l m g10 => ?_
  exact Lane.near_ite (Lane.segment_near (tr m rfl) g10) g10

theorem execCanTransferTimeout_event {a0} {a1} {s} :
    Runs Lane.logicUp 0x2000000000000000000000000000000001100000000000000000000000000000000000000000000000000000000000000000000000000000 a0 s (execCanTransferTimeout a0 a1 s) := by
  refine runs_logic fun M b l m g10 => ?_
  split
  · exact Lane.near_ite (Lane.frameError_near (tr m rfl) (Lane.setTransfer_near (tr m rfl) g10)) g10
  · exact g10

theorem execSessionOpen_event {a0} {a1} {a2} {a3} {a4} {a5} {s} :
    Runs Lane.logicUp 0x48000000000000021000007005e000000000000000000000000000009c3b00000000000014000000000000000000000000000000000000000000000000000000002300000 a0 s (execSessionOpen a0 a1 a2 a3 a4 a5 s) := by
  refine runs_logic fun M b l m g => ?_
  show Lane.Near M b (Lane.perform _ _ _ _)
  unfold Lane.perform
  split
  · exact Lane.notAddressed_near (tr m rfl) g
  · extract_lets x
    have hx : Lane.Near M b x := Lane.when_near g (fun _ q => Lane.bump_near (inReg at_HS_CNT3 (tb m rfl)) q)
    clear_value x
    split
    · exact Lane.near_ite (Lane.refuseMode_near (tr m rfl) hx) (Lane.answer_near (tr m rfl) hx)
    · exact Lane.sessionOpen_near (tr m rfl) hx

theorem execSessionClose_event {a0} {a1} {a2} {s} :
    Runs Lane.logicUp 0x21000001005e00000000000000000000000000000183b00000000000014000000000000000000000000000000000000000000000000000000000000000 a0 s (execSessionClose a0 a1 a2 s) := by
  refine runs_logic fun M b l m g => ?_
  show Lane.Near M b (Lane.perform _ _ _ _)
  unfold Lane.perform
  split
  · exact Lane.notAddressed_near (tr m rfl) g
  · extract_lets x
    have hx : Lane.Near M b x := Lane.when_near g (fun _ q => Lane.bump_near (inReg at_HS_CNT3 (tb m rfl)) q)
    clear_value x
    split
    · exact Lane.near_ite (Lane.refuseMode_near (tr m rfl) hx) (Lane.answer_near (tr m rfl) hx)
    · exact Lane.sessionClose_near (tr m rfl) hx

theorem execPing_event {a0} {a1} {a2} {a3} {s} :
    Runs Lane.logicUp 0x1000001005e00000000000000000000000000000103b00000000000014000000000000000000000000000000000000000000000000000000000000000 a0 s (execPing a0 a1 a2 a3 s) := by
  refine runs_logic fun M b l m g => ?_
  show Lane.Near M b (Lane.perform _ _ _ _)
  unfold Lane.perform
  split
  · exact Lane.notAddressed_near (tr m rfl) g
  · extract_lets x
    have hx : Lane.Near M b x := Lane.when_near g (fun _ q => Lane.bump_near (inReg at_HS_CNT3 (tb m rfl)) q)
    clear_value x
    split
    · exact Lane.near_ite (Lane.refuseMode_near (tr m rfl) hx) (Lane.answer_near (tr m rfl) hx)
    · exact Lane.ping_near (tr m rfl) hx

theorem execReadReg_event {a0} {a1} {a2} {a3} {a4} {s} :
    Runs Lane.logicUp 0x10000000000001000009005e00000000000000001800000000004103b000000053e001400003c018000000000000000402000000000000000000420001000000000000 a0 s (execReadReg a0 a1 a2 a3 a4 s) := by
  refine runs_logic fun M b l m g => ?_
  show Lane.Near M b (Lane.perform _ _ _ _)
  unfold Lane.perform
  split
  · exact Lane.notAddressed_near (tr m rfl) g
  · extract_lets x
    have hx : Lane.Near M b x := Lane.when_near g (fun _ q => Lane.bump_near (inReg at_HS_CNT3 (tb m rfl)) q)
    clear_value x
    split
    · exact Lane.near_ite (Lane.refuseMode_near (tr m rfl) hx) (Lane.answer_near (tr m rfl) hx)
    · exact Lane.readReg_near (tr m rfl) hx

theorem execWriteReg_event {a0} {a1} {a2} {a3} {a4} {a5} {s} :
    Runs Lane.logicUp 0x4001851db0000400048210000380000003dc8069bb5e2000019078000830c0000043817515ffffffffffffffffffffffffffffffffffffffffffffffffffffffffffffffffffffffffffffffff a0 s (execWriteReg a0 a1 a2 a3 a4 a5 s) := by
  refine runs_logic fun M b l m g => ?_
  show Lane.Near M b (Lane.perform _ _ _ _)
  unfold Lane.perform
  split
  · exact Lane.notAddressed_near (tr m rfl) g
  · extract_lets x
    have hx : Lane.Near M b x := Lane.when_near g (fun _ q => Lane.bump_near (inReg at_HS_CNT3 (tb m rfl)) q)
    clear_value x
    split
    · exact Lane.near_ite (Lane.refuseMode_near (tr m rfl) hx) (Lane.answer_near (tr m rfl) hx)
    · exact Lane.writeReg_near (tr m rfl) hx

theorem execSpotRequest_event {a0} {a1} {a2} {a3} {s} :
    Runs Lane.logicUp 0x1000001015e00000000000000000000000000000103b00000000000014000000000000000000000000000000000000000000000000000000000000000 a0 s (execSpotRequest a0 a1 a2 a3 s) := by
  refine runs_logic fun M b l m g => ?_
  show Lane.Near M b (Lane.perform _ _ _ _)
  unfold Lane.perform
  split
  · exact Lane.notAddressed_near (tr m rfl) g
  · extract_lets x
    have hx : Lane.Near M b x := Lane.when_near g (fun _ q => Lane.bump_near (inReg at_HS_CNT3 (tb m rfl)) q)
    clear_value x
    split
    · exact Lane.near_ite (Lane.refuseMode_near (tr m rfl) hx) (Lane.answer_near (tr m rfl) hx)
    · exact Lane.spotRequest_near (tr m rfl) hx

theorem execSpotRenew_event {a0} {a1} {a2} {s} :
    Runs Lane.logicUp 0x1000001005e00000000000000000000000000000103b60000000000014000000000000000000000000000000000000000000000000000000000000000 a0 s (execSpotRenew a0 a1 a2 s) := by
  refine runs_logic fun M b l m g => ?_
  show Lane.Near M b (Lane.perform _ _ _ _)
  unfold Lane.perform
  split
  · exact Lane.notAddressed_near (tr m rfl) g
  · extract_lets x
    have hx : Lane.Near M b x := Lane.when_near g (fun _ q => Lane.bump_near (inReg at_HS_CNT3 (tb m rfl)) q)
    clear_value x
    split
    · exact Lane.near_ite (Lane.refuseMode_near (tr m rfl) hx) (Lane.answer_near (tr m rfl) hx)
    · exact Lane.spotRenew_near (tr m rfl) hx

theorem execSpotRelease_event {a0} {a1} {a2} {s} :
    Runs Lane.logicUp 0x1000001165e00000000000000000000000000000103b10000000000014000000000000000000000000000000000000000000000000000000000000000 a0 s (execSpotRelease a0 a1 a2 s) := by
  refine runs_logic fun M b l m g => ?_
  show Lane.Near M b (Lane.perform _ _ _ _)
  unfold Lane.perform
  split
  · exact Lane.notAddressed_near (tr m rfl) g
  · extract_lets x
    have hx : Lane.Near M b x := Lane.when_near g (fun _ q => Lane.bump_near (inReg at_HS_CNT3 (tb m rfl)) q)
    clear_value x
    split
    · exact Lane.near_ite (Lane.refuseMode_near (tr m rfl) hx) (Lane.answer_near (tr m rfl) hx)
    · exact Lane.spotRelease_near (tr m rfl) hx

theorem execSpotQuery_event {a0} {a1} {a2} {s} :
    Runs Lane.logicUp 0x1000001005e00000000000000000000000000000103b00000000000014000000000000000000000000000000000000000000000000000000000000000 a0 s (execSpotQuery a0 a1 a2 s) := by
  refine runs_logic fun M b l m g => ?_
  show Lane.Near M b (Lane.perform _ _ _ _)
  unfold Lane.perform
  split
  · exact Lane.notAddressed_near (tr m rfl) g
  · extract_lets x
    have hx : Lane.Near M b x := Lane.when_near g (fun _ q => Lane.bump_near (inReg at_HS_CNT3 (tb m rfl)) q)
    clear_value x
    split
    · exact Lane.near_ite (Lane.refuseMode_near (tr m rfl) hx) (Lane.answer_near (tr m rfl) hx)
    · exact Lane.spotQuery_near (tr m rfl) hx

theorem execSpotLeaseExpiry_event {a0} {s} :
    Runs Lane.logicUp 0xc0020700000000000000000000000000000750000110000000000000000000000000000000020000000000a00008000030000000000000000000000 a0 s (execSpotLeaseExpiry a0 s) := by
  refine runs_logic fun M b l m g10 => ?_
  exact Lane.expireLease_near (tr m rfl) g10

theorem execFrozenTimeout_event {a0} {s} :
    Runs Lane.logicUp 0xc0000000000000000000000000000000000000000010000000000000000000000000000000000000000000000000000000000000000000000000000 a0 s (execFrozenTimeout a0 s) := by
  refine runs_logic fun M b l m g10 => ?_
  exact Lane.near_ite (Lane.startDefault_near (tr m rfl) g10) g10

theorem execArm_event {a0} {a1} {a2} {s} :
    Runs Lane.logicUp 0x1000001005e00000000080000000000000000000103b00000000000014000000000000000000000000000000000000000000000000000000000000000 a0 s (execArm a0 a1 a2 s) := by
  refine runs_logic fun M b l m g => ?_
  show Lane.Near M b (Lane.perform _ _ _ _)
  unfold Lane.perform
  split
  · exact Lane.notAddressed_near (tr m rfl) g
  · extract_lets x
    have hx : Lane.Near M b x := Lane.when_near g (fun _ q => Lane.bump_near (inReg at_HS_CNT3 (tb m rfl)) q)
    clear_value x
    split
    · exact Lane.near_ite (Lane.refuseMode_near (tr m rfl) hx) (Lane.answer_near (tr m rfl) hx)
    · exact Lane.arm_near (tr m rfl) hx

theorem execPerform_event {a0} {a1} {a2} {s} :
    Runs Lane.logicUp 0x1000001005e00000000080000000000000000000103b00000000000014000000000000000000000000000000000000000000000000000000000000000 a0 s (execPerform a0 a1 a2 s) := by
  refine runs_logic fun M b l m g => ?_
  show Lane.Near M b (Lane.perform _ _ _ _)
  unfold Lane.perform
  split
  · exact Lane.notAddressed_near (tr m rfl) g
  · extract_lets x
    have hx : Lane.Near M b x := Lane.when_near g (fun _ q => Lane.bump_near (inReg at_HS_CNT3 (tb m rfl)) q)
    clear_value x
    split
    · exact Lane.near_ite (Lane.refuseMode_near (tr m rfl) hx) (Lane.answer_near (tr m rfl) hx)
    · exact Lane.performOp_near (tr m rfl) hx

theorem execSetpoint_event {a0} {a1} {a2} {a3} {s} :
    Runs Lane.logicUp 0x1c00001005e0000000000000030c000000380750103b0000000000001400000000000005c000000000000000a000000000f0000000000000000000000 a0 s (execSetpoint a0 a1 a2 a3 s) := by
  refine runs_logic fun M b l m g => ?_
  show Lane.Near M b (Lane.perform _ _ _ _)
  unfold Lane.perform
  split
  · exact Lane.notAddressed_near (tr m rfl) g
  · extract_lets x
    have hx : Lane.Near M b x := Lane.when_near g (fun _ q => Lane.bump_near (inReg at_HS_CNT3 (tb m rfl)) q)
    clear_value x
    split
    · exact Lane.near_ite (Lane.refuseMode_near (tr m rfl) hx) (Lane.answer_near (tr m rfl) hx)
    · exact Lane.setpoint_near (tr m rfl) hx

theorem execDisarm_event {a0} {a1} {a2} {s} :
    Runs Lane.logicUp 0x1000001005e00000000080000000000000000000103b00000000000014000000000000000000000000000000000000000000000000000000000000000 a0 s (execDisarm a0 a1 a2 s) := by
  refine runs_logic fun M b l m g => ?_
  show Lane.Near M b (Lane.perform _ _ _ _)
  unfold Lane.perform
  split
  · exact Lane.notAddressed_near (tr m rfl) g
  · extract_lets x
    have hx : Lane.Near M b x := Lane.when_near g (fun _ q => Lane.bump_near (inReg at_HS_CNT3 (tb m rfl)) q)
    clear_value x
    split
    · exact Lane.near_ite (Lane.refuseMode_near (tr m rfl) hx) (Lane.answer_near (tr m rfl) hx)
    · exact Lane.disarm_near (tr m rfl) hx

theorem execStop_event {a0} {a1} {a2} {s} :
    Runs Lane.logicUp 0x1000001805e00000000000000000000000000000103b00000000000014000000000000000000000000000000000000000000000000000000000000000 a0 s (execStop a0 a1 a2 s) := by
  refine runs_logic fun M b l m g => ?_
  show Lane.Near M b (Lane.perform _ _ _ _)
  unfold Lane.perform
  split
  · exact Lane.notAddressed_near (tr m rfl) g
  · extract_lets x
    have hx : Lane.Near M b x := Lane.when_near g (fun _ q => Lane.bump_near (inReg at_HS_CNT3 (tb m rfl)) q)
    clear_value x
    split
    · exact Lane.near_ite (Lane.refuseMode_near (tr m rfl) hx) (Lane.answer_near (tr m rfl) hx)
    · exact Lane.stopCommand_near (tr m rfl) hx

theorem execWorkshopEnter_event {a0} {a1} {a2} {s} :
    Runs Lane.logicUp 0x1000001005e00000000080000000000000000000103b00000000000014000000000000000000000000000000000000000000000000000000000000000 a0 s (execWorkshopEnter a0 a1 a2 s) := by
  refine runs_logic fun M b l m g => ?_
  show Lane.Near M b (Lane.perform _ _ _ _)
  unfold Lane.perform
  split
  · exact Lane.notAddressed_near (tr m rfl) g
  · extract_lets x
    have hx : Lane.Near M b x := Lane.when_near g (fun _ q => Lane.bump_near (inReg at_HS_CNT3 (tb m rfl)) q)
    clear_value x
    split
    · exact Lane.near_ite (Lane.refuseMode_near (tr m rfl) hx) (Lane.answer_near (tr m rfl) hx)
    · exact Lane.workshopEnter_near (tr m rfl) hx

theorem execWorkshopLeave_event {a0} {a1} {a2} {s} :
    Runs Lane.logicUp 0x1000001005e00000000080000000000000000000103b00000000000014000000000000000000000000000000000000000000000000000000000000000 a0 s (execWorkshopLeave a0 a1 a2 s) := by
  refine runs_logic fun M b l m g => ?_
  show Lane.Near M b (Lane.perform _ _ _ _)
  unfold Lane.perform
  split
  · exact Lane.notAddressed_near (tr m rfl) g
  · extract_lets x
    have hx : Lane.Near M b x := Lane.when_near g (fun _ q => Lane.bump_near (inReg at_HS_CNT3 (tb m rfl)) q)
    clear_value x
    split
    · exact Lane.near_ite (Lane.refuseMode_near (tr m rfl) hx) (Lane.answer_near (tr m rfl) hx)
    · exact Lane.workshopLeave_near (tr m rfl) hx

theorem execPbStatus_event {a0} {a1} {a2} {s} :
    Runs Lane.logicUp 0x1000001005e00000000000000000000000000000103b00000000000014000000000000000000000000000000000000000000000000000000000000000 a0 s (execPbStatus a0 a1 a2 s) := by
  refine runs_logic fun M b l m g => ?_
  show Lane.Near M b (Lane.perform _ _ _ _)
  unfold Lane.perform
  split
  · exact Lane.notAddressed_near (tr m rfl) g
  · extract_lets x
    have hx : Lane.Near M b x := Lane.when_near g (fun _ q => Lane.bump_near (inReg at_HS_CNT3 (tb m rfl)) q)
    clear_value x
    split
    · exact Lane.near_ite (Lane.refuseMode_near (tr m rfl) hx) (Lane.answer_near (tr m rfl) hx)
    · exact Lane.pbStatus_near (tr m rfl) hx

theorem execPbLoadBegin_event {a0} {a1} {a2} {a3} {a4} {s} :
    Runs Lane.logicUp 0x29000001005e00000000000000000000000000000103b00000000000014000000000000000000000000000000000000000000000000000000000000000 a0 s (execPbLoadBegin a0 a1 a2 a3 a4 s) := by
  refine runs_logic fun M b l m g => ?_
  show Lane.Near M b (Lane.perform _ _ _ _)
  unfold Lane.perform
  split
  · exact Lane.notAddressed_near (tr m rfl) g
  · extract_lets x
    have hx : Lane.Near M b x := Lane.when_near g (fun _ q => Lane.bump_near (inReg at_HS_CNT3 (tb m rfl)) q)
    clear_value x
    split
    · exact Lane.near_ite (Lane.refuseMode_near (tr m rfl) hx) (Lane.answer_near (tr m rfl) hx)
    · exact Lane.loadBegin_near (tr m rfl) hx

theorem execPbLoadData_event {a0} {a1} {a2} {a3} {a4} {s} :
    Runs Lane.logicUp 0x21000001005e00000000000000000000000000000103b00000000000014000000000000000000000000000000000000000000000000000000000000000 a0 s (execPbLoadData a0 a1 a2 a3 a4 s) := by
  refine runs_logic fun M b l m g => ?_
  show Lane.Near M b (Lane.perform _ _ _ _)
  unfold Lane.perform
  split
  · exact Lane.notAddressed_near (tr m rfl) g
  · extract_lets x
    have hx : Lane.Near M b x := Lane.when_near g (fun _ q => Lane.bump_near (inReg at_HS_CNT3 (tb m rfl)) q)
    clear_value x
    split
    · exact Lane.near_ite (Lane.refuseMode_near (tr m rfl) hx) (Lane.answer_near (tr m rfl) hx)
    · exact Lane.loadData_near (tr m rfl) hx

theorem execPbLoadEnd_event {a0} {a1} {a2} {a3} {a4} {s} :
    Runs Lane.logicUp 0x29000001005e00000000000000000000000000000103b00000000000014000000000000000000000000000000000000000000000000000000000000000 a0 s (execPbLoadEnd a0 a1 a2 a3 a4 s) := by
  refine runs_logic fun M b l m g => ?_
  show Lane.Near M b (Lane.perform _ _ _ _)
  unfold Lane.perform
  split
  · exact Lane.notAddressed_near (tr m rfl) g
  · extract_lets x
    have hx : Lane.Near M b x := Lane.when_near g (fun _ q => Lane.bump_near (inReg at_HS_CNT3 (tb m rfl)) q)
    clear_value x
    split
    · exact Lane.near_ite (Lane.refuseMode_near (tr m rfl) hx) (Lane.answer_near (tr m rfl) hx)
    · exact Lane.pbLoadEnd_near (tr m rfl) hx

theorem execPbActivate_event {a0} {a1} {a2} {s} :
    Runs Lane.logicUp 0x7943008021005e20580000380008000000000380751903b00002000000014000000000000000000020000000000a00008000020002000000000000800004 a0 s (execPbActivate a0 a1 a2 s) := by
  refine runs_logic fun M b l m g => ?_
  show Lane.Near M b (Lane.perform _ _ _ _)
  unfold Lane.perform
  split
  · exact Lane.notAddressed_near (tr m rfl) g
  · extract_lets x
    have hx : Lane.Near M b x := Lane.when_near g (fun _ q => Lane.bump_near (inReg at_HS_CNT3 (tb m rfl)) q)
    clear_value x
    split
    · exact Lane.near_ite (Lane.refuseMode_near (tr m rfl) hx) (Lane.answer_near (tr m rfl) hx)
    · exact Lane.pbActivate_near (tr m rfl) hx

theorem execPbAbort_event {a0} {a1} {a2} {s} :
    Runs Lane.logicUp 0x21000001005e00000000000000000000000000000103b00000000000014000000000000000000000000000000000000000000000000000000000000000 a0 s (execPbAbort a0 a1 a2 s) := by
  refine runs_logic fun M b l m g => ?_
  show Lane.Near M b (Lane.perform _ _ _ _)
  unfold Lane.perform
  split
  · exact Lane.notAddressed_near (tr m rfl) g
  · extract_lets x
    have hx : Lane.Near M b x := Lane.when_near g (fun _ q => Lane.bump_near (inReg at_HS_CNT3 (tb m rfl)) q)
    clear_value x
    split
    · exact Lane.near_ite (Lane.refuseMode_near (tr m rfl) hx) (Lane.answer_near (tr m rfl) hx)
    · exact Lane.pbAbort_near (tr m rfl) hx

theorem execRehReport_event {a0} {a1} {a2} {s} :
    Runs Lane.logicUp 0x1000001005e00000000000000000000000000000103b00000000000014000000000000000000000000000000000000000000000000000000000000000 a0 s (execRehReport a0 a1 a2 s) := by
  refine runs_logic fun M b l m g => ?_
  show Lane.Near M b (Lane.perform _ _ _ _)
  unfold Lane.perform
  split
  · exact Lane.notAddressed_near (tr m rfl) g
  · extract_lets x
    have hx : Lane.Near M b x := Lane.when_near g (fun _ q => Lane.bump_near (inReg at_HS_CNT3 (tb m rfl)) q)
    clear_value x
    split
    · exact Lane.near_ite (Lane.refuseMode_near (tr m rfl) hx) (Lane.answer_near (tr m rfl) hx)
    · exact Lane.rehReport_near (tr m rfl) hx

theorem execRehRerun_event {a0} {a1} {a2} {a3} {s} :
    Runs Lane.logicUp 0x48000000000000001000001005e00000000000000000000000000000103b00000000000014000000000000000000000000000000000000000000000000000000002300000 a0 s (execRehRerun a0 a1 a2 a3 s) := by
  refine runs_logic fun M b l m g => ?_
  show Lane.Near M b (Lane.perform _ _ _ _)
  unfold Lane.perform
  split
  · exact Lane.notAddressed_near (tr m rfl) g
  · extract_lets x
    have hx : Lane.Near M b x := Lane.when_near g (fun _ q => Lane.bump_near (inReg at_HS_CNT3 (tb m rfl)) q)
    clear_value x
    split
    · exact Lane.near_ite (Lane.refuseMode_near (tr m rfl) hx) (Lane.answer_near (tr m rfl) hx)
    · exact Lane.rehRerun_near (tr m rfl) hx

theorem execRehTask_event {a0} {a1} {a2} {a3} {s} :
    Runs Lane.logicUp 0x48000000000000001000001005e00000000000000000000000000000103b00000000000014000000000000000000000000000000000000000000000000000000002300000 a0 s (execRehTask a0 a1 a2 a3 s) := by
  refine runs_logic fun M b l m g => ?_
  show Lane.Near M b (Lane.perform _ _ _ _)
  unfold Lane.perform
  split
  · exact Lane.notAddressed_near (tr m rfl) g
  · extract_lets x
    have hx : Lane.Near M b x := Lane.when_near g (fun _ q => Lane.bump_near (inReg at_HS_CNT3 (tb m rfl)) q)
    clear_value x
    split
    · exact Lane.near_ite (Lane.refuseMode_near (tr m rfl) hx) (Lane.answer_near (tr m rfl) hx)
    · exact Lane.rehTask_near (tr m rfl) hx

theorem execLogInfo_event {a0} {a1} {a2} {s} :
    Runs Lane.logicUp 0x1000001005e00000000000000000000000000000103b00000000000014000000000000000000000000000000000000000000000000000000000000000 a0 s (execLogInfo a0 a1 a2 s) := by
  refine runs_logic fun M b l m g => ?_
  show Lane.Near M b (Lane.perform _ _ _ _)
  unfold Lane.perform
  split
  · exact Lane.notAddressed_near (tr m rfl) g
  · extract_lets x
    have hx : Lane.Near M b x := Lane.when_near g (fun _ q => Lane.bump_near (inReg at_HS_CNT3 (tb m rfl)) q)
    clear_value x
    split
    · exact Lane.near_ite (Lane.refuseMode_near (tr m rfl) hx) (Lane.answer_near (tr m rfl) hx)
    · exact Lane.logInfo_near (tr m rfl) hx

theorem execLogRead_event {a0} {a1} {a2} {a3} {a4} {s} :
    Runs Lane.logicUp 0x1000001005e00000000000000000000000000000103b00000000000014000000000000000000000000000000000000000000000000000000000000000 a0 s (execLogRead a0 a1 a2 a3 a4 s) := by
  refine runs_logic fun M b l m g => ?_
  show Lane.Near M b (Lane.perform _ _ _ _)
  unfold Lane.perform
  split
  · exact Lane.notAddressed_near (tr m rfl) g
  · extract_lets x
    have hx : Lane.Near M b x := Lane.when_near g (fun _ q => Lane.bump_near (inReg at_HS_CNT3 (tb m rfl)) q)
    clear_value x
    split
    · exact Lane.near_ite (Lane.refuseMode_near (tr m rfl) hx) (Lane.answer_near (tr m rfl) hx)
    · exact Lane.logRead_near (tr m rfl) hx

theorem execLogMark_event {a0} {a1} {a2} {a3} {s} :
    Runs Lane.logicUp 0x1000001005e00000000000000000000000000000903b00000000000014000000000000000000000000000000000000000000000000000000000000000 a0 s (execLogMark a0 a1 a2 a3 s) := by
  refine runs_logic fun M b l m g => ?_
  show Lane.Near M b (Lane.perform _ _ _ _)
  unfold Lane.perform
  split
  · exact Lane.notAddressed_near (tr m rfl) g
  · extract_lets x
    have hx : Lane.Near M b x := Lane.when_near g (fun _ q => Lane.bump_near (inReg at_HS_CNT3 (tb m rfl)) q)
    clear_value x
    split
    · exact Lane.near_ite (Lane.refuseMode_near (tr m rfl) hx) (Lane.answer_near (tr m rfl) hx)
    · exact Lane.logMark_near (tr m rfl) hx

theorem execTimeRead_event {a0} {a1} {a2} {s} :
    Runs Lane.logicUp 0x1000001005e00000000000000000000000000000103b00000000000014000000000000000000000000000000000000000000000000000000000000000 a0 s (execTimeRead a0 a1 a2 s) := by
  refine runs_logic fun M b l m g => ?_
  show Lane.Near M b (Lane.perform _ _ _ _)
  unfold Lane.perform
  split
  · exact Lane.notAddressed_near (tr m rfl) g
  · extract_lets x
    have hx : Lane.Near M b x := Lane.when_near g (fun _ q => Lane.bump_near (inReg at_HS_CNT3 (tb m rfl)) q)
    clear_value x
    split
    · exact Lane.near_ite (Lane.refuseMode_near (tr m rfl) hx) (Lane.answer_near (tr m rfl) hx)
    · exact Lane.timeRead_near (tr m rfl) hx

theorem execTimeEcho_event {a0} {a1} {a2} {a3} {s} :
    Runs Lane.logicUp 0x1000001005e00000000000000000000000000000103b00000000000014000000000000000000000000000000000000000000000000000000000000000 a0 s (execTimeEcho a0 a1 a2 a3 s) := by
  refine runs_logic fun M b l m g => ?_
  show Lane.Near M b (Lane.perform _ _ _ _)
  unfold Lane.perform
  split
  · exact Lane.notAddressed_near (tr m rfl) g
  · extract_lets x
    have hx : Lane.Near M b x := Lane.when_near g (fun _ q => Lane.bump_near (inReg at_HS_CNT3 (tb m rfl)) q)
    clear_value x
    split
    · exact Lane.near_ite (Lane.refuseMode_near (tr m rfl) hx) (Lane.answer_near (tr m rfl) hx)
    · exact Lane.timeEcho_near (tr m rfl) hx

theorem execIdInfo_event {a0} {a1} {a2} {s} :
    Runs Lane.logicUp 0x1000001005e00000000000000000000000000000103b00000000000014000000000000000000000000000000000000000000000000000000000000000 a0 s (execIdInfo a0 a1 a2 s) := by
  refine runs_logic fun M b l m g => ?_
  show Lane.Near M b (Lane.perform _ _ _ _)
  unfold Lane.perform
  split
  · exact Lane.notAddressed_near (tr m rfl) g
  · extract_lets x
    have hx : Lane.Near M b x := Lane.when_near g (fun _ q => Lane.bump_near (inReg at_HS_CNT3 (tb m rfl)) q)
    clear_value x
    split
    · exact Lane.near_ite (Lane.refuseMode_near (tr m rfl) hx) (Lane.answer_near (tr m rfl) hx)
    · exact Lane.idInfo_near (tr m rfl) hx

theorem execIdCert_event {a0} {a1} {a2} {a3} {a4} {s} :
    Runs Lane.logicUp 0x1000001005e00000000000000000000000000000103b00000000000014000000000000000000000000000000000000000000000000000000000000000 a0 s (execIdCert a0 a1 a2 a3 a4 s) := by
  refine runs_logic fun M b l m g => ?_
  show Lane.Near M b (Lane.perform _ _ _ _)
  unfold Lane.perform
  split
  · exact Lane.notAddressed_near (tr m rfl) g
  · extract_lets x
    have hx : Lane.Near M b x := Lane.when_near g (fun _ q => Lane.bump_near (inReg at_HS_CNT3 (tb m rfl)) q)
    clear_value x
    split
    · exact Lane.near_ite (Lane.refuseMode_near (tr m rfl) hx) (Lane.answer_near (tr m rfl) hx)
    · exact Lane.idCert_near (tr m rfl) hx

theorem execAttest_event {a0} {a1} {a2} {a3} {s} :
    Runs Lane.logicUp 0x48000000000000001000001005e00000000000000000000000000000103b00000000000014000000000000000000000000000000000000000000000000000000002300000 a0 s (execAttest a0 a1 a2 a3 s) := by
  refine runs_logic fun M b l m g => ?_
  show Lane.Near M b (Lane.perform _ _ _ _)
  unfold Lane.perform
  split
  · exact Lane.notAddressed_near (tr m rfl) g
  · extract_lets x
    have hx : Lane.Near M b x := Lane.when_near g (fun _ q => Lane.bump_near (inReg at_HS_CNT3 (tb m rfl)) q)
    clear_value x
    split
    · exact Lane.near_ite (Lane.refuseMode_near (tr m rfl) hx) (Lane.answer_near (tr m rfl) hx)
    · exact Lane.attest_near (tr m rfl) hx

theorem execFwStatus_event {a0} {a1} {a2} {s} :
    Runs Lane.logicUp 0x1000001005e00000000000000000000000000000103b00000000000014000000000000000000000000000000000000000000000000000000000000000 a0 s (execFwStatus a0 a1 a2 s) := by
  refine runs_logic fun M b l m g => ?_
  show Lane.Near M b (Lane.perform _ _ _ _)
  unfold Lane.perform
  split
  · exact Lane.notAddressed_near (tr m rfl) g
  · extract_lets x
    have hx : Lane.Near M b x := Lane.when_near g (fun _ q => Lane.bump_near (inReg at_HS_CNT3 (tb m rfl)) q)
    clear_value x
    split
    · exact Lane.near_ite (Lane.refuseMode_near (tr m rfl) hx) (Lane.answer_near (tr m rfl) hx)
    · exact Lane.fwStatus_near (tr m rfl) hx

theorem execFwLoadBegin_event {a0} {a1} {a2} {a3} {a4} {s} :
    Runs Lane.logicUp 0x29000001005e00000000000000000000000000000103b00000000000014000000000000000000000000000000000000000000000000000000000000000 a0 s (execFwLoadBegin a0 a1 a2 a3 a4 s) := by
  refine runs_logic fun M b l m g => ?_
  show Lane.Near M b (Lane.perform _ _ _ _)
  unfold Lane.perform
  split
  · exact Lane.notAddressed_near (tr m rfl) g
  · extract_lets x
    have hx : Lane.Near M b x := Lane.when_near g (fun _ q => Lane.bump_near (inReg at_HS_CNT3 (tb m rfl)) q)
    clear_value x
    split
    · exact Lane.near_ite (Lane.refuseMode_near (tr m rfl) hx) (Lane.answer_near (tr m rfl) hx)
    · exact Lane.loadBegin_near (tr m rfl) hx

theorem execFwLoadData_event {a0} {a1} {a2} {a3} {a4} {s} :
    Runs Lane.logicUp 0x21000001005e00000000000000000000000000000103b00000000000014000000000000000000000000000000000000000000000000000000000000000 a0 s (execFwLoadData a0 a1 a2 a3 a4 s) := by
  refine runs_logic fun M b l m g => ?_
  show Lane.Near M b (Lane.perform _ _ _ _)
  unfold Lane.perform
  split
  · exact Lane.notAddressed_near (tr m rfl) g
  · extract_lets x
    have hx : Lane.Near M b x := Lane.when_near g (fun _ q => Lane.bump_near (inReg at_HS_CNT3 (tb m rfl)) q)
    clear_value x
    split
    · exact Lane.near_ite (Lane.refuseMode_near (tr m rfl) hx) (Lane.answer_near (tr m rfl) hx)
    · exact Lane.loadData_near (tr m rfl) hx

theorem execFwLoadEnd_event {a0} {a1} {a2} {a3} {a4} {s} :
    Runs Lane.logicUp 0x29000001005e00000000000000000000000000000103b00000000000014000000000000000000000000000000000000000000000000000000000000000 a0 s (execFwLoadEnd a0 a1 a2 a3 a4 s) := by
  refine runs_logic fun M b l m g => ?_
  show Lane.Near M b (Lane.perform _ _ _ _)
  unfold Lane.perform
  split
  · exact Lane.notAddressed_near (tr m rfl) g
  · extract_lets x
    have hx : Lane.Near M b x := Lane.when_near g (fun _ q => Lane.bump_near (inReg at_HS_CNT3 (tb m rfl)) q)
    clear_value x
    split
    · exact Lane.near_ite (Lane.refuseMode_near (tr m rfl) hx) (Lane.answer_near (tr m rfl) hx)
    · exact Lane.fwLoadEnd_near (tr m rfl) hx

theorem execFwRestart_event {a0} {a1} {a2} {s} :
    Runs Lane.logicUp 0x1000001005e00000000000000000000000000000103b00000000000014000000000000000000000000000000000000000000000000000000000000000 a0 s (execFwRestart a0 a1 a2 s) := by
  refine runs_logic fun M b l m g => ?_
  show Lane.Near M b (Lane.perform _ _ _ _)
  unfold Lane.perform
  split
  · exact Lane.notAddressed_near (tr m rfl) g
  · extract_lets x
    have hx : Lane.Near M b x := Lane.when_near g (fun _ q => Lane.bump_near (inReg at_HS_CNT3 (tb m rfl)) q)
    clear_value x
    split
    · exact Lane.near_ite (Lane.refuseMode_near (tr m rfl) hx) (Lane.answer_near (tr m rfl) hx)
    · exact Lane.fwRestart_near (tr m rfl) hx

theorem execFwCommit_event {a0} {a1} {a2} {s} :
    Runs Lane.logicUp 0x11000001005e00000000000000000000000000000103b00000000000014000000000000000000000000000000000000000000000000000000000000000 a0 s (execFwCommit a0 a1 a2 s) := by
  refine runs_logic fun M b l m g => ?_
  show Lane.Near M b (Lane.perform _ _ _ _)
  unfold Lane.perform
  split
  · exact Lane.notAddressed_near (tr m rfl) g
  · extract_lets x
    have hx : Lane.Near M b x := Lane.when_near g (fun _ q => Lane.bump_near (inReg at_HS_CNT3 (tb m rfl)) q)
    clear_value x
    split
    · exact Lane.near_ite (Lane.refuseMode_near (tr m rfl) hx) (Lane.answer_near (tr m rfl) hx)
    · exact Lane.fwCommit_near (tr m rfl) hx

theorem execConfirmCheck_event {a0} {a1} {a2} {a3} {s} :
    Runs Lane.logicUp 0x200001000001005e00000000000000000000000000004103b00000000000014000000000000000000000000000000000000000000000000000000000000000 a0 s (execConfirmCheck a0 a1 a2 a3 s) := by
  refine runs_logic fun M b l m g => ?_
  show Lane.Near M b (Lane.perform _ _ _ _)
  unfold Lane.perform
  split
  · exact Lane.notAddressed_near (tr m rfl) g
  · extract_lets x
    have hx : Lane.Near M b x := Lane.when_near g (fun _ q => Lane.bump_near (inReg at_HS_CNT3 (tb m rfl)) q)
    clear_value x
    split
    · exact Lane.near_ite (Lane.refuseMode_near (tr m rfl) hx) (Lane.answer_near (tr m rfl) hx)
    · exact Lane.confirmCheck_near (tr m rfl) hx

theorem execCartAccept_event {a0} {a1} {a2} {a3} {a4} {s} :
    Runs Lane.logicUp 0x400009000001005e00000000000000000000000000000903b00300000000014000000000000000000000000000000000000000000000000000000000000000 a0 s (execCartAccept a0 a1 a2 a3 a4 s) := by
  refine runs_logic fun M b l m g => ?_
  show Lane.Near M b (Lane.perform _ _ _ _)
  unfold Lane.perform
  split
  · exact Lane.notAddressed_near (tr m rfl) g
  · extract_lets x
    have hx : Lane.Near M b x := Lane.when_near g (fun _ q => Lane.bump_near (inReg at_HS_CNT3 (tb m rfl)) q)
    clear_value x
    split
    · exact Lane.near_ite (Lane.refuseMode_near (tr m rfl) hx) (Lane.answer_near (tr m rfl) hx)
    · exact Lane.cartAccept_near (tr m rfl) hx

theorem execLifeAck_event {a0} {a1} {a2} {a3} {s} :
    Runs Lane.logicUp 0x400001000001005e00000000000000000000000000000103b00100000000014000000000000000002000000000000000000000400000000000000000200000 a0 s (execLifeAck a0 a1 a2 a3 s) := by
  refine runs_logic fun M b l m g => ?_
  show Lane.Near M b (Lane.perform _ _ _ _)
  unfold Lane.perform
  split
  · exact Lane.notAddressed_near (tr m rfl) g
  · extract_lets x
    have hx : Lane.Near M b x := Lane.when_near g (fun _ q => Lane.bump_near (inReg at_HS_CNT3 (tb m rfl)) q)
    clear_value x
    split
    · exact Lane.near_ite (Lane.refuseMode_near (tr m rfl) hx) (Lane.answer_near (tr m rfl) hx)
    · exact Lane.lifeAckOp_near (tr m rfl) hx

theorem execSafetyStatus_event {a0} {a1} {a2} {s} :
    Runs Lane.logicUp 0x1000001005e00000000000000000000000000000103b00000000000014000000000000000000000000000000000000000000000000000000000000000 a0 s (execSafetyStatus a0 a1 a2 s) := by
  refine runs_logic fun M b l m g => ?_
  show Lane.Near M b (Lane.perform _ _ _ _)
  unfold Lane.perform
  split
  · exact Lane.notAddressed_near (tr m rfl) g
  · extract_lets x
    have hx : Lane.Near M b x := Lane.when_near g (fun _ q => Lane.bump_near (inReg at_HS_CNT3 (tb m rfl)) q)
    clear_value x
    split
    · exact Lane.near_ite (Lane.refuseMode_near (tr m rfl) hx) (Lane.answer_near (tr m rfl) hx)
    · exact Lane.safetyStatus_near (tr m rfl) hx

theorem execClaim_event {a0} {a1} {s} :
    Runs Lane.logicUp 0x100000000000000000080000000000000000000000000000000000002000000053e0000000000000000000000000000000000000000000000000000000000000000000 a0 s (execClaim a0 a1 s) := by
  refine runs_logic fun M b l m g10 => ?_
  exact Lane.near_ite g10 (Lane.claimFor_near (tr m rfl) g10)

theorem execCompletion_event {a0} {a1} {a2} {s} :
    Runs Lane.logicUp 0x100000000000000000480000000000000000000000000000000000002000000042e0000000000000000000000000000000000000000000000000000000000000000000 a0 s (execCompletion a0 a1 a2 s) := by
  refine runs_logic fun M b l m g10 => ?_
  exact Lane.keepCallWrite_near (tr m rfl) (Lane.completeFor_near (tr m rfl) g10)

theorem execSafetyInputChange_event {a0 : Seen Nat} {a1} {a2} {a3} {s} :
    Runs Lane.logicUp 0x300000000000000000000000000000000000000000000060000000000000000000000000000000000000000000000000000000000000000000000 a0.toAt s (execSafetyInputChange a0 a1 a2 a3 s) := by
  refine runs_logic fun M b l m g10 => ?_
  exact Lane.when_near g10 (fun _ g11 => Lane.pairChange_near (tr m rfl) g11)

theorem execDiscrepancyFault_event {a0} {a1} {s} :
    Runs Lane.logicUp 0x2000000000000000000000000000000000000000000000c0000000000000000000000000000000000000000000000000000000000000000000000 a0 s (execDiscrepancyFault a0 a1 s) := by
  refine runs_logic fun M b l m g10 => ?_
  split
  · exact Lane.near_ite (by
    extract_lets -underBinder +onlyGivenNames x11
    have h11 : Lane.Near M b x11 := Lane.raise_near (inEvt ev_SF_EVT (tb m rfl)) rfl (Lane.putBit_near (inReg at_SF_OWN (tb m rfl)) g10)
    clear_value x11
    exact Lane.ownPair_near (tr m rfl) (Lane.onSafety_near (f := _) (SafetyState.Near.mk kp (ch m rfl) kp kp kp kp kp kp kp) h11)) g10
  · exact g10

theorem execGtSeenOpen_event {a0 : Seen Nat} {a1} {s} :
    Runs Lane.logicUp 0xb0000000000000000000000000000000000000000000000000000000000000000000000 a0.toAt s (execGtSeenOpen a0 a1 s) := by
  refine runs_logic fun M b l m g10 => ?_
  exact Lane.near_ite (Lane.putBit_near (inReg at_SF_RAW (tb m rfl)) (Lane.raise_near (inEvt ev_SF_EVT (tb m rfl)) rfl (Lane.putBit_near (inReg at_SF_STAT (tb m rfl)) g10))) g10

theorem execResetButton_event {a0} {a1} {a2} {s} :
    Runs Lane.logicUp 0x80000000000000000000000000000000000000000000c0b0000000000000000000000000000000000000000000000000000000000000000000000 a0 s (execResetButton a0 a1 a2 s) := by
  refine runs_logic fun M b l m g10 => ?_
  exact Lane.resetFall_near (tr m rfl) g10

theorem execResetStuck_event {a0 : Seen Nat} {s} :
    Runs Lane.logicUp 0x40b0000000000000000000000000000000000000000000000000000000000000000000000 a0.toAt s (execResetStuck a0 s) := by
  refine runs_logic fun M b l m g10 => ?_
  exact Lane.near_ite g10 (Lane.bump_near (inReg at_SF_RST (tb m rfl)) (Lane.raise_near (inReg at_SF_RAW (tb m rfl)).1 rfl (Lane.raise_near (inEvt ev_SF_EVT (tb m rfl)) rfl (Lane.raise_near (inReg at_SF_STAT (tb m rfl)).1 rfl g10))))

theorem execResetSingle_event {a0} {s} :
    Runs Lane.logicUp 0x1000000000000000000000000000000000000000000000080000000000000000000000000000000000000000000000000000000000000000000000 a0 s (execResetSingle a0 s) := by
  refine runs_logic fun M b l m g10 => ?_
  exact Lane.singleResets_near (tr m rfl) g10

theorem execKoCommand_event {a0} {a1} {s} :
    Runs Lane.logicUp 0x8000000000000000000000000000000000001000000003000000000000000000000000000000000000000000000000000000000000000000000000 a0 s (execKoCommand a0 a1 s) := by
  refine runs_logic fun M b l m g10 => ?_
  exact Lane.koSettle_near (tr m rfl) (Lane.put_near (inReg at_SF_KOCMD (tb m rfl)) g10)

theorem execContactorCheck_event {a0} {a1} {a2} {s} :
    Runs Lane.logicUp 0x380000002cc8028bb5e2000018078000030c000000380751103b100020a022001400000000000005c000020000000000a000080000f0006020600000000800004 a0 s (execContactorCheck a0 a1 a2 s) := by
  refine runs_logic fun M b l m g10 => ?_
  exact Lane.judgeContactor_near (tr m rfl) g10

theorem execContactorFault_event {a0 : Seen Nat} {a1} {a2} {s} :
    Runs Lane.logicUp 0x380000002cc8028bb5e2000018078000030c000000380751103b100020a022001400000000000005c000020000000000a000080000f0006020600000000800004 a0.toAt s (execContactorFault a0 a1 a2 s) := by
  refine runs_logic fun M b l m g10 => ?_
  exact Lane.when_near g10 (fun _ g11 => Lane.judgeContactor_near (tr m rfl) g11)

theorem execKoOvercurrent_event {a0 : Seen Nat} {a1} {s} :
    Runs Lane.logicUp 0x380000002cc8028bb5e2000018078000030c000000380751103b1000208022001400000000000005c000020000000000a000080000f0006020600000000800004 a0.toAt s (execKoOvercurrent a0 a1 s) := by
  refine runs_logic fun M b l m g10 => ?_
  exact Lane.near_ite (Lane.outputFault_near (tr m rfl) g10 (inReg at_SF_KOSTAT (tb m rfl)) ⟨(inEvt ev_SF_EVT (tb m rfl)), rfl⟩) g10

theorem execKoShort_event {a0 : Seen Nat} {a1} {s} :
    Runs Lane.logicUp 0x2080000000000000000000000000000000000000000000000000000000000000000000000 a0.toAt s (execKoShort a0 a1 s) := by
  refine runs_logic fun M b l m g10 => ?_
  exact Lane.near_ite g10 (by
    extract_lets -underBinder +onlyGivenNames x11
    have h11 : Lane.Near M b x11 := Lane.putBit_near (inReg at_SF_KOSTAT (tb m rfl)) g10
    clear_value x11
    exact Lane.near_ite (Lane.raise_near (inEvt ev_SF_EVT (tb m rfl)) rfl (Lane.putBit_near (inReg at_SF_KOSTAT (tb m rfl)) h11)) h11)

theorem execTamper_event {a0} {a1} {s} :
    Runs Lane.monitorsUp 0x8008000000000000000000000000000040026251080000012000000000000000000000000000000000000000a00000000000000000000000000000000 a0 s (execTamper a0 a1 s) := by
  refine runs_power fun M b l m g10 => ?_
  split
  · exact Lane.tamper_near (tr m rfl) g10
  · exact g10

theorem execDebugChallenge_event {a0} {s} :
    Runs Lane.logicUp 0x40000000000000000000000000000000000000000005000000000000000000000000000000000000000000000000000000000000000000000000000000000 a0 s (execDebugChallenge a0 s) := by
  refine runs_logic fun M b l m g10 => ?_
  exact Lane.send_near (tb m rfl) (Lane.nextChoice_near (tb m rfl) (Lane.onTrust_near (f := _) (TrustState.Near.mk kp kp kp kp kp kp kp kp kp kp kp kp kp kp kp (ch m rfl) kp kp kp kp) g10))

theorem execDebugUnlock_event {a0} {a1} {s} :
    Runs Lane.logicUp 0x3800c0010848000001e00050720560008000000000000751103b00032000020014000000000000000000000000000000a00008000020004700600000000000004 a0 s (execDebugUnlock a0 a1 s) := by
  refine runs_logic fun M b l m g10 => ?_
  exact Lane.near_ite (Lane.unlock_near (tr m rfl) g10) g10

theorem execCartridgeAuth_event {a0} {a1} {s} :
    Runs Lane.logicUp 0x400000000000000000000000000000000000000000005000000000000000000000000000000000000000000000000000000000000000000000000000000000 a0 s (execCartridgeAuth a0 a1 s) := by
  refine runs_logic fun M b l m g10 => ?_
  exact Lane.near_ite (by
    extract_lets -underBinder +onlyGivenNames x11
    clear_value x11
    exact Lane.send_near (tb m rfl) (Lane.nextChoice_near (tb m rfl) (Lane.onCart_near (tr m rfl) g10))) g10

theorem execCartridgeAuthDone_event {a0} {a1} {a2} {s} :
    Runs Lane.logicUp 0x400008000000005e00000000000000000000000000000903b0e300000000014000000000000000000000000000000000000000000000000000000000000000 a0 s (execCartridgeAuthDone a0 a1 a2 s) := by
  refine runs_logic fun M b l m g10 => ?_
  exact Lane.near_ite (by
    extract_lets -underBinder +onlyGivenNames x11
    clear_value x11
    extract_lets -underBinder +onlyGivenNames x12
    have h12 : Lane.Near M b x12 := Lane.showDigest_near (tr m rfl) (Lane.onCart_near (tr m rfl) g10)
    clear_value x12
    extract_lets -underBinder +onlyGivenNames x13
    have h13 : Lane.Near M b x13 := Lane.dropAcceptance_near (tr m rfl) h12
    clear_value x13
    exact Lane.near_ite (Lane.cartPass_near (tr m rfl) h13) (Lane.cartFail_near (tr m rfl) h13)) g10

theorem execPlaybillWrite_event {a0} {a1} {s} :
    Runs Lane.logicUp 0x5f8000000380500800000000005e00000000000000000000000080001103b00200000000014000000000000000000000000000010000000000000002000000100022300000 a0 s (execPlaybillWrite a0 a1 s) := by
  refine runs_logic fun M b l m g10 => ?_
  split
  · exact Lane.near_ite (Lane.queueActivity_near (tr m rfl) (Lane.onTrust_near (f := _) (TrustState.Near.mk kp kp kp kp kp kp kp kp kp kp kp kp kp kp kp kp kp (ch m rfl) kp kp) g10)) g10
  · exact Lane.near_ite (Lane.endWork_near (tr m rfl) (Lane.allAxes_near g10 (fun _ _ g11 => Lane.playbillAxis_near (tr m rfl) g11))) g10

theorem execCorruptedFrame_event {a0 : Seen (List Sys2Proof.Byte)} {a1} {s} :
    Runs Lane.logicUp 0x8000000000000000000000000000000000000000000000000000000000000000000000000000000006600000000000000 a0.toAt s (execCorruptedFrame a0 a1 s) := by
  refine runs_logic fun M b l m g10 => ?_
  exact Lane.near_ite g10 (Lane.near_ite (Lane.aliveLink_near (tr m rfl) g10) (Lane.spoiledFrame_near (tr m rfl) g10))

theorem execMemorySupplyFault_event {a0} {a1} {s} :
    Runs Lane.logicUp 0x1000000000000000000000000000000000000000000000000000000000000000000000000000000000000000600 a0 s (execMemorySupplyFault a0 a1 s) := by
  refine runs_logic fun M b l m g10 => ?_
  extract_lets -underBinder +onlyGivenNames x11
  have h11 : Lane.Near M b x11 := Lane.onPower_near (f := _) (PowerState.Near.mk kp kp kp kp kp kp kp kp kp kp kp kp kp kp kp kp kp kp kp kp kp kp kp (ch m rfl) kp) (Lane.raise_near (inEvt ev_PW_SUPEVT (tb m rfl)) rfl g10)
  clear_value x11
  exact Lane.drop_near (by split <;> first | exact (inReg at_PW_SUPSTAT (tb m rfl)) | exact (inReg at_PW_SUPSTAT (tb m rfl)) | exact (inReg at_PW_SUPSTAT (tb m rfl))) h11

theorem execCanReceiveError_event {a0} {a1} {a2} {a3} {s} :
    Runs Lane.logicUp 0x1000000000000000000000000000000000000000000000000000000000000000000000000800000000000000000238000000000000000000000000000000000000000000000000000000000000 a0 s (execCanReceiveError a0 a1 a2 a3 s) := by
  refine runs_logic fun M b l m g10 => ?_
  exact Lane.near_ite g10 (by
    split
    · exact Lane.receiveError_near (tr m rfl) g10
    · exact Lane.protocolException_near (tr m rfl) g10)

theorem execGtInputChange_event {a0 : Seen Nat} {a1} {a2} {s} :
    Runs Lane.logicUp 0x60000000000000000000000000000000000000000000000000000000000000000000000 a0.toAt s (execGtInputChange a0 a1 a2 s) := by
  refine runs_logic fun M b l m g10 => ?_
  exact Lane.near_ite g10 (by
    extract_lets -underBinder +onlyGivenNames x11
    have h11 : Lane.Near M b x11 := Lane.putBit_near (inReg at_SF_RAW (tb m rfl)) g10
    clear_value x11
    exact Lane.near_ite (Lane.putBit_near (inReg at_SF_OWN (tb m rfl)) h11) h11)

theorem execTestHigh_event {a0} {s} :
    Runs Lane.monitorsUp 0x380000000848000001e00050720560008000000040380751103b00002000020014000000000000000000000000000000a00008000020004700600000000000004 a0 s (execTestHigh a0 s) := by
  refine runs_power fun M b l m g10 => ?_
  extract_lets -underBinder +onlyGivenNames x11
  have h11 : Lane.Near M b x11 := Lane.onPower_near (f := _) (PowerState.Near.mk kp kp kp kp kp kp kp kp kp kp kp kp kp kp kp kp kp (ch m rfl) kp kp kp kp kp kp kp) g10
  clear_value x11
  exact Lane.near_ite (Lane.koSettle_near (tr m rfl) (Lane.restCore_near (tr m rfl) (Lane.setMode_near (tr m rfl) (Lane.laneOut_near (tr m rfl) h11)))) h11

theorem execSeatOtherTransaction_event {a0} {s} :
    Runs Lane.logicUp 0x1100000000000000000000000000000000000000000000000000000000000000000000000000000 a0 s (execSeatOtherTransaction a0 s) := by
  refine runs_logic fun M b l m g10 => ?_
  exact Lane.near_ite (Lane.frameError_near (tr m rfl) g10) g10

theorem execChopperIntervalEnd_event {a0} {s} :
    Runs Lane.monitorsUp 0x12c0000000000000000000000000000000000000000000000000000000080000000000000000000000000000000000 a0 s (execChopperIntervalEnd a0 s) := by
  refine runs_power fun M b l m g10 => ?_
  split
  · exact Lane.near_ite (Lane.chopperOn_near (tr m rfl) g10) g10
  · exact g10

end Sys2Proof.Machine
end

