-- ==== Sys2Proof/Laws/Reg.lean ====
section
/-!
SUPPORT. Fields of registers: what a field just written reads as, and what a write elsewhere leaves of it.
-/

namespace Sys2Proof.Machine

/-- The bits of a word after a field of it is replaced. -/
theorem Fld.getLsbD_insert (f : Fld) (w : Word) (v j : Nat) (hj : j < 32) :
    (f.insert w v).getLsbD j = if f.lo ≤ j ∧ j < f.lo + f.width then v.testBit (j - f.lo) else w.getLsbD j := by
  unfold Fld.insert Fld.mask
  simp only [BitVec.getLsbD_or, BitVec.getLsbD_and, BitVec.getLsbD_not, BitVec.getLsbD_shiftLeft, BitVec.getLsbD_ofNat,
    Nat.testBit_mod_two_pow, Nat.testBit_two_pow_sub_one, hj, decide_true, Bool.true_and]
  by_cases h1 : f.lo ≤ j
  · have h3 : j - f.lo < 32 := by omega
    by_cases h2 : j < f.lo + f.width
    · have h4 : j - f.lo < f.width := by omega
      simp [h1, h2, h3, h4, Nat.not_lt.2 h1]
    · have h4 : ¬j - f.lo < f.width := by omega
      simp [h1, h2, h4, Nat.not_lt.2 h1]
  · have h2 : j < f.lo := by omega
    simp [h1, h2]

/-- The bits of a field's value. -/
theorem Fld.testBit_extract (f : Fld) (w : Word) (j : Nat) :
    (f.extract w).testBit j = (decide (j < f.width) && w.getLsbD (f.lo + j)) := by
  unfold Fld.extract
  rw [Nat.testBit_mod_two_pow, BitVec.testBit_toNat, BitVec.getLsbD_ushiftRight]

/-- A field just written reads as the low bits of what was written. -/
theorem Fld.extract_insert (f : Fld) (w : Word) (v : Nat) (h : f.lo + f.width ≤ 32) :
    f.extract (f.insert w v) = v % 2 ^ f.width := by
  apply Nat.eq_of_testBit_eq
  intro j
  rw [Fld.testBit_extract, Nat.testBit_mod_two_pow]
  by_cases hj : j < f.width
  · rw [Fld.getLsbD_insert f w v _ (by omega), if_pos (by omega), Nat.add_sub_cancel_left]
  · simp [hj]

/-- Another field of the same word keeps its value. -/
theorem Fld.extract_insert_of_disjoint (f g : Fld) (w : Word) (v : Nat) (hg : g.lo + g.width ≤ 32)
    (h : f.lo + f.width ≤ g.lo ∨ g.lo + g.width ≤ f.lo) : g.extract (f.insert w v) = g.extract w := by
  apply Nat.eq_of_testBit_eq
  intro j
  rw [Fld.testBit_extract, Fld.testBit_extract]
  by_cases hj : j < g.width
  · rw [Fld.getLsbD_insert f w v _ (by omega), if_neg (by omega)]
  · simp [hj]

/-- A field is less than two to its width. -/
theorem Lane.get_lt (l : Lane) (f : Fld) : l.get f < 2 ^ f.width := Nat.mod_lt _ (Nat.two_pow_pos _)

/-- The register space of a lane in its place is in canonical form. -/
theorem Lane.Sound.wf {i : LaneId} {l : Lane} (h : l.Sound i) : RegFile.wf l.id l.regs = true := h.1.symm ▸ h.2.1

/-- Setting a word keeps a lane in its place. -/
theorem Lane.Sound.setWord {i : LaneId} {l : Lane} (h : l.Sound i) (a : Nat) (w : Word) : (l.setWord a w).Sound i :=
  ⟨h.1, h.1 ▸ RegFile.wfFrom_put (resetWord l.id) a w 0 _ (Nat.zero_le a) h.wf, h.2.2⟩

/-- Putting a field keeps a lane in its place. -/
theorem Lane.Sound.put {i : LaneId} {l : Lane} (h : l.Sound i) (f : Fld) (v : Nat) : (l.put f v).Sound i := h.setWord _ _

/-- What stays within a mask of a lane in its place is in its place. -/
theorem Lane.Near.place {M : Nat} {i : LaneId} {a b : Lane} (h : Lane.Near M a b) (ha : a.Sound i) : b.Sound i := h.sound ha.1

/-- A word just set is the word read. -/
theorem Lane.word_setWord {l : Lane} (h : RegFile.wf l.id l.regs = true) (a : Nat) (w : Word) :
    (l.setWord a w).word a = w := RegFile.look_put (resetWord l.id) h a w

/-- Setting a word leaves every other address alone. -/
theorem Lane.word_setWord_of_ne (l : Lane) {a b : Nat} (w : Word) (h : b ≠ a) : (l.setWord a w).word b = l.word b := by
  show (RegFile.look (RegFile.put _ l.regs a w) b).getD _ = _
  rw [RegFile.look_put_of_ne _ _ _ h]
  rfl

/-- A field just put. -/
theorem Lane.get_put {l : Lane} (h : RegFile.wf l.id l.regs = true) (f : Fld) (v : Nat) (hf : f.lo + f.width ≤ 32) :
    (l.put f v).get f = v % 2 ^ f.width := by
  unfold Lane.get Lane.put
  rw [Lane.word_setWord h, Fld.extract_insert _ _ _ hf]

/-- A field of another word after a put. -/
theorem Lane.get_put_of_ne (l : Lane) {f g : Fld} (v : Nat) (h : g.addr ≠ f.addr) : (l.put f v).get g = l.get g := by
  unfold Lane.get Lane.put
  rw [Lane.word_setWord_of_ne _ _ h]

/-- A disjoint field of the same word after a put. -/
theorem Lane.get_put_of_disjoint {l : Lane} (h : RegFile.wf l.id l.regs = true) {f g : Fld} (v : Nat) (ha : g.addr = f.addr)
    (hg : g.lo + g.width ≤ 32) (hd : f.lo + f.width ≤ g.lo ∨ g.lo + g.width ≤ f.lo) : (l.put f v).get g = l.get g := by
  unfold Lane.get Lane.put
  rw [ha, Lane.word_setWord h, Fld.extract_insert_of_disjoint _ _ _ _ hg hd]

/-- A flag just raised is set. -/
theorem Lane.flag_raise {l : Lane} (h : RegFile.wf l.id l.regs = true) (f : Fld) (hf : f.lo < 32) (hw : f.width = 1) :
    (l.raise f).flag f = true := by
  unfold Lane.flag Lane.raise
  show ((l.put f 1).get f != 0) = true
  rw [Lane.get_put h _ _ (by omega), hw]
  rfl

/-- A field just dropped is zero. -/
theorem Lane.get_drop {l : Lane} (h : RegFile.wf l.id l.regs = true) (f : Fld) (hf : f.lo + f.width ≤ 32) :
    (l.drop f).get f = 0 := by
  unfold Lane.drop
  rw [Lane.get_put h _ _ hf, Nat.zero_mod]

/-- A flag just put. -/
theorem Lane.flag_putFlag {l : Lane} (h : RegFile.wf l.id l.regs = true) (f : Fld) (b : Bool) (hf : f.lo < 32)
    (hw : f.width = 1) : (l.putFlag f b).flag f = b := by
  unfold Lane.flag Lane.putFlag
  rw [Lane.get_put h _ _ (by omega), hw]
  cases b <;> rfl

/-- A saturating counter just bumped. -/
theorem Lane.get_bump {l : Lane} (h : RegFile.wf l.id l.regs = true) (f : Fld) (hf : f.lo + f.width ≤ 32) :
    (l.bump f).get f = min (l.get f + 1) (2 ^ f.width - 1) := by
  unfold Lane.bump
  rw [Lane.get_put h _ _ hf]
  exact Nat.mod_eq_of_lt (by have := Nat.two_pow_pos f.width; omega)

/-- What stays within a mask keeps the fields of a register outside it. -/
theorem Lane.Near.get {M : Nat} {a b : Lane} (h : Lane.Near M a b) {f : Fld} (m : M.testBit (regNo f.addr) = false) :
    b.get f = a.get f := by
  unfold Lane.get
  rw [h.word _ m]

/-- A field of the register with number `k`, outside the mask. -/
theorem Lane.Near.keep {M k : Nat} {a b : Lane} (h : Lane.Near M a b) {f : Fld} (hr : regNo f.addr = k)
    (m : M.testBit k = false) : b.get f = a.get f := h.get (hr ▸ m)

/-- A flag of an event register stays set where the mask lets none clear. -/
theorem Lane.Near.flag {M : Nat} {a b : Lane} (h : Lane.Near M a b) {f : Fld} (m : M.testBit 322 = false)
    (he : isEvt f.addr = true) (hw : f.width = 1) (hf : a.flag f = true) : b.flag f = true := by
  have key : ∀ l : Lane, l.flag f = (l.word f.addr).getLsbD f.lo := fun l => by
    have h0 : (f.extract (l.word f.addr)).testBit 0 = (l.word f.addr).getLsbD f.lo := by
      rw [Fld.testBit_extract, hw]
      rfl
    rw [← h0]
    unfold Lane.flag
    have hl := l.get_lt f
    rw [hw] at hl
    generalize hg : l.get f = v at hl
    unfold Lane.get at hg
    rw [hg]
    match v, hl with
    | 0, _ => rfl
    | 1, _ => rfl
  rw [key] at hf ⊢
  exact h.evt m _ he _ hf

/-! ### Hidden updates -/

@[simp] theorem Lane.get_onPower (l : Lane) (f : PowerState → PowerState) (x : Fld) : (l.onPower f).get x = l.get x := rfl

@[simp] theorem Lane.flag_onPower (l : Lane) (f : PowerState → PowerState) (x : Fld) : (l.onPower f).flag x = l.flag x := rfl

theorem Lane.Sound.onPower {i : LaneId} {l : Lane} (h : l.Sound i) (f : PowerState → PowerState) : (l.onPower f).Sound i := h

@[simp] theorem Lane.get_onLink (l : Lane) (f : LinkState → LinkState) (x : Fld) : (l.onLink f).get x = l.get x := rfl

@[simp] theorem Lane.flag_onLink (l : Lane) (f : LinkState → LinkState) (x : Fld) : (l.onLink f).flag x = l.flag x := rfl

theorem Lane.Sound.onLink {i : LaneId} {l : Lane} (h : l.Sound i) (f : LinkState → LinkState) : (l.onLink f).Sound i := h

@[simp] theorem Lane.get_onWing (l : Lane) (f : WingState → WingState) (x : Fld) : (l.onWing f).get x = l.get x := rfl

@[simp] theorem Lane.flag_onWing (l : Lane) (f : WingState → WingState) (x : Fld) : (l.onWing f).flag x = l.flag x := rfl

theorem Lane.Sound.onWing {i : LaneId} {l : Lane} (h : l.Sound i) (f : WingState → WingState) : (l.onWing f).Sound i := h

@[simp] theorem Lane.get_onSeats (l : Lane) (f : SeatState → SeatState) (x : Fld) : (l.onSeats f).get x = l.get x := rfl

@[simp] theorem Lane.flag_onSeats (l : Lane) (f : SeatState → SeatState) (x : Fld) : (l.onSeats f).flag x = l.flag x := rfl

theorem Lane.Sound.onSeats {i : LaneId} {l : Lane} (h : l.Sound i) (f : SeatState → SeatState) : (l.onSeats f).Sound i := h

@[simp] theorem Lane.get_onCall (l : Lane) (f : CallState → CallState) (x : Fld) : (l.onCall f).get x = l.get x := rfl

@[simp] theorem Lane.flag_onCall (l : Lane) (f : CallState → CallState) (x : Fld) : (l.onCall f).flag x = l.flag x := rfl

theorem Lane.Sound.onCall {i : LaneId} {l : Lane} (h : l.Sound i) (f : CallState → CallState) : (l.onCall f).Sound i := h

@[simp] theorem Lane.get_onSafety (l : Lane) (f : SafetyState → SafetyState) (x : Fld) : (l.onSafety f).get x = l.get x := rfl

@[simp] theorem Lane.flag_onSafety (l : Lane) (f : SafetyState → SafetyState) (x : Fld) : (l.onSafety f).flag x = l.flag x := rfl

theorem Lane.Sound.onSafety {i : LaneId} {l : Lane} (h : l.Sound i) (f : SafetyState → SafetyState) : (l.onSafety f).Sound i := h

@[simp] theorem Lane.get_onMode (l : Lane) (f : ModeState → ModeState) (x : Fld) : (l.onMode f).get x = l.get x := rfl

@[simp] theorem Lane.flag_onMode (l : Lane) (f : ModeState → ModeState) (x : Fld) : (l.onMode f).flag x = l.flag x := rfl

theorem Lane.Sound.onMode {i : LaneId} {l : Lane} (h : l.Sound i) (f : ModeState → ModeState) : (l.onMode f).Sound i := h

@[simp] theorem Lane.get_onTrust (l : Lane) (f : TrustState → TrustState) (x : Fld) : (l.onTrust f).get x = l.get x := rfl

@[simp] theorem Lane.flag_onTrust (l : Lane) (f : TrustState → TrustState) (x : Fld) : (l.onTrust f).flag x = l.flag x := rfl

theorem Lane.Sound.onTrust {i : LaneId} {l : Lane} (h : l.Sound i) (f : TrustState → TrustState) : (l.onTrust f).Sound i := h

@[simp] theorem Lane.get_onReh (l : Lane) (f : RehState → RehState) (x : Fld) : (l.onReh f).get x = l.get x := rfl

@[simp] theorem Lane.flag_onReh (l : Lane) (f : RehState → RehState) (x : Fld) : (l.onReh f).flag x = l.flag x := rfl

theorem Lane.Sound.onReh {i : LaneId} {l : Lane} (h : l.Sound i) (f : RehState → RehState) : (l.onReh f).Sound i := h

@[simp] theorem Lane.get_onTrio (l : Lane) (f : TrioState → TrioState) (x : Fld) : (l.onTrio f).get x = l.get x := rfl

@[simp] theorem Lane.flag_onTrio (l : Lane) (f : TrioState → TrioState) (x : Fld) : (l.onTrio f).flag x = l.flag x := rfl

theorem Lane.Sound.onTrio {i : LaneId} {l : Lane} (h : l.Sound i) (f : TrioState → TrioState) : (l.onTrio f).Sound i := h

@[simp] theorem Lane.get_onBox (l : Lane) (f : BoxState → BoxState) (x : Fld) : (l.onBox f).get x = l.get x := rfl

@[simp] theorem Lane.flag_onBox (l : Lane) (f : BoxState → BoxState) (x : Fld) : (l.onBox f).flag x = l.flag x := rfl

theorem Lane.Sound.onBox {i : LaneId} {l : Lane} (h : l.Sound i) (f : BoxState → BoxState) : (l.onBox f).Sound i := h

@[simp] theorem Lane.get_onRing (l : Lane) (f : RingState → RingState) (x : Fld) : (l.onRing f).get x = l.get x := rfl

@[simp] theorem Lane.flag_onRing (l : Lane) (f : RingState → RingState) (x : Fld) : (l.onRing f).flag x = l.flag x := rfl

theorem Lane.Sound.onRing {i : LaneId} {l : Lane} (h : l.Sound i) (f : RingState → RingState) : (l.onRing f).Sound i := h

@[simp] theorem Lane.get_onTime (l : Lane) (f : TimeState → TimeState) (x : Fld) : (l.onTime f).get x = l.get x := rfl

@[simp] theorem Lane.flag_onTime (l : Lane) (f : TimeState → TimeState) (x : Fld) : (l.onTime f).flag x = l.flag x := rfl

theorem Lane.Sound.onTime {i : LaneId} {l : Lane} (h : l.Sound i) (f : TimeState → TimeState) : (l.onTime f).Sound i := h

@[simp] theorem Lane.get_onDict (l : Lane) (f : DictState → DictState) (x : Fld) : (l.onDict f).get x = l.get x := rfl

@[simp] theorem Lane.flag_onDict (l : Lane) (f : DictState → DictState) (x : Fld) : (l.onDict f).flag x = l.flag x := rfl

theorem Lane.Sound.onDict {i : LaneId} {l : Lane} (h : l.Sound i) (f : DictState → DictState) : (l.onDict f).Sound i := h

@[simp] theorem Lane.get_onAx (l : Lane) (n : Axis) (f : AxisState → AxisState) (x : Fld) : (l.onAx n f).get x = l.get x := rfl

@[simp] theorem Lane.flag_onAx (l : Lane) (n : Axis) (f : AxisState → AxisState) (x : Fld) : (l.onAx n f).flag x = l.flag x := rfl

theorem Lane.Sound.onAx {i : LaneId} {l : Lane} (h : l.Sound i) (n : Axis) (f : AxisState → AxisState) : (l.onAx n f).Sound i := h

@[simp] theorem Lane.get_onLp (l : Lane) (n : Axis) (f : LoopState → LoopState) (x : Fld) : (l.onLp n f).get x = l.get x := rfl

@[simp] theorem Lane.flag_onLp (l : Lane) (n : Axis) (f : LoopState → LoopState) (x : Fld) : (l.onLp n f).flag x = l.flag x := rfl

theorem Lane.Sound.onLp {i : LaneId} {l : Lane} (h : l.Sound i) (n : Axis) (f : LoopState → LoopState) : (l.onLp n f).Sound i := h

@[simp] theorem Lane.get_onCan (l : Lane) (n : Can) (f : CanState → CanState) (x : Fld) : (l.onCan n f).get x = l.get x := rfl

@[simp] theorem Lane.flag_onCan (l : Lane) (n : Can) (f : CanState → CanState) (x : Fld) : (l.onCan n f).flag x = l.flag x := rfl

theorem Lane.Sound.onCan {i : LaneId} {l : Lane} (h : l.Sound i) (n : Can) (f : CanState → CanState) : (l.onCan n f).Sound i := h

@[simp] theorem Lane.get_send (l : Lane) (v : Emission) (x : Fld) : (l.send v).get x = l.get x := rfl

@[simp] theorem Lane.flag_send (l : Lane) (v : Emission) (x : Fld) : (l.send v).flag x = l.flag x := rfl

theorem Lane.Sound.send {i : LaneId} {l : Lane} (h : l.Sound i) (v : Emission) : (l.send v).Sound i := h

@[simp] theorem Lane.get_note (l : Lane) (v : LogEntry) (x : Fld) : (l.note v).get x = l.get x := rfl

@[simp] theorem Lane.flag_note (l : Lane) (v : LogEntry) (x : Fld) : (l.note v).flag x = l.flag x := rfl

theorem Lane.Sound.note {i : LaneId} {l : Lane} (h : l.Sound i) (v : LogEntry) : (l.note v).Sound i := h

@[simp] theorem Lane.get_nextChoice (l : Lane) (x : Fld) : (l.nextChoice).get x = l.get x := rfl

@[simp] theorem Lane.flag_nextChoice (l : Lane) (x : Fld) : (l.nextChoice).flag x = l.flag x := rfl

theorem Lane.Sound.nextChoice {i : LaneId} {l : Lane} (h : l.Sound i) : (l.nextChoice).Sound i := h

@[simp] theorem Lane.get_setLtime (l : Lane) (t : Nat) (x : Fld) : (l.setLtime t).get x = l.get x := rfl

@[simp] theorem Lane.flag_setLtime (l : Lane) (t : Nat) (x : Fld) : (l.setLtime t).flag x = l.flag x := rfl

theorem Lane.Sound.setLtime {i : LaneId} {l : Lane} (h : l.Sound i) (t : Nat) : (l.setLtime t).Sound i := h

end Sys2Proof.Machine
end

