-- ==== Sys2Proof/Laws/Exec.lean ====
section
/-!
SUPPORT. What every command and every step can do: it answers a next state, runs in the lane of its event alone, and keeps
the canonical forms.
-/

namespace Sys2Proof.Machine

/-- Every command runs in its own lane, within a mask of its own. -/
theorem exec_runs (c : Instr) (s : State) : ∃ g w, Runs g w c.at s (exec c s) :=
  match c with
  | .beatStart _ _ => ⟨_, _, execBeatStart_event⟩
  | .peerSummary _ _ _ _ _ => ⟨_, _, execPeerSummary_event⟩
  | .receiveDeadline _ => ⟨_, _, execReceiveDeadline_event⟩
  | .loopDeadlineDrop _ _ => ⟨_, _, execLoopDeadlineDrop_event⟩
  | .ladderCrossing _ _ _ _ _ _ _ => ⟨_, _, execLadderCrossing_event⟩
  | .understudyUpdate _ _ => ⟨_, _, execUnderstudyUpdate_event⟩
  | .droppedUpdate _ _ => ⟨_, _, execDroppedUpdate_event⟩
  | .copyDisagreement _ _ _ => ⟨_, _, execCopyDisagreement_event⟩
  | .tableParity _ _ x2 => ⟨_, _, execTableParity_event (a2 := x2)⟩
  | .dwellEnd _ _ => ⟨_, _, execDwellEnd_event⟩
  | .rateHoldRelease _ _ => ⟨_, _, execRateHoldRelease_event⟩
  | .ascEnd _ _ => ⟨_, _, execAscEnd_event⟩
  | .decayDone _ _ => ⟨_, _, execDecayDone_event⟩
  | .recatchFail _ _ => ⟨_, _, execRecatchFail_event⟩
  | .substituteTimeout _ _ => ⟨_, _, execSubstituteTimeout_event⟩
  | .axisEnable _ _ => ⟨_, _, execAxisEnable_event⟩
  | .axisDisable _ _ => ⟨_, _, execAxisDisable_event⟩
  | .prechargeEnd _ _ _ => ⟨_, _, execPrechargeEnd_event⟩
  | .peakTrip _ _ _ _ _ => ⟨_, _, execPeakTrip_event⟩
  | .vdsTrip _ _ _ => ⟨_, _, execVdsTrip_event⟩
  | .ceilingTrip _ _ _ => ⟨_, _, execCeilingTrip_event⟩
  | .tier1Decision _ _ => ⟨_, _, execTier1Decision_event⟩
  | .ginChange _ _ _ => ⟨_, _, execGinChange_event⟩
  | .deadTimeEnd _ _ _ _ _ => ⟨_, _, execDeadTimeEnd_event⟩
  | .gateOffFailure _ _ _ => ⟨_, _, execGateOffFailure_event⟩
  | .vgLockout _ => ⟨_, _, execVgLockout_event⟩
  | .vgLockoutPersist _ => ⟨_, _, execVgLockoutPersist_event⟩
  | .vgRecover _ => ⟨_, _, execVgRecover_event⟩
  | .bootstrapLockout _ _ _ => ⟨_, _, execBootstrapLockout_event⟩
  | .bootstrapRecover _ _ _ => ⟨_, _, execBootstrapRecover_event⟩
  | .refreshTimerRestart _ _ _ => ⟨_, _, execRefreshTimerRestart_event⟩
  | .refreshPending _ _ _ => ⟨_, _, execRefreshPending_event⟩
  | .refreshInsert _ _ _ _ => ⟨_, _, execRefreshInsert_event⟩
  | .refreshLate _ _ => ⟨_, _, execRefreshLate_event⟩
  | .leakCheckRequest _ _ _ => ⟨_, _, execLeakCheckRequest_event⟩
  | .leakCheckStart _ _ _ _ => ⟨_, _, execLeakCheckStart_event⟩
  | .leakCheckEnd _ _ _ _ _ => ⟨_, _, execLeakCheckEnd_event⟩
  | .faultClear _ _ _ => ⟨_, _, execFaultClear_event⟩
  | .ov1Enter _ _ => ⟨_, _, execOv1Enter_event⟩
  | .ov1Release _ _ => ⟨_, _, execOv1Release_event⟩
  | .ov2Enter _ _ => ⟨_, _, execOv2Enter_event⟩
  | .ov2Release _ _ => ⟨_, _, execOv2Release_event⟩
  | .ov3Enter _ _ => ⟨_, _, execOv3Enter_event⟩
  | .ov3Release _ _ => ⟨_, _, execOv3Release_event⟩
  | .ovmax _ _ => ⟨_, _, execOvmax_event⟩
  | .chopperFault _ => ⟨_, _, execChopperFault_event⟩
  | .stuckChopper _ => ⟨_, _, execStuckChopper_event⟩
  | .chopperMinOnEnd _ => ⟨_, _, execChopperMinOnEnd_event⟩
  | .countEdge _ _ _ => ⟨_, _, execCountEdge_event⟩
  | .indexPulse _ _ _ => ⟨_, _, execIndexPulse_event⟩
  | .serialFrameSend _ _ => ⟨_, _, execSerialFrameSend_event⟩
  | .serialFrame _ _ _ => ⟨_, _, execSerialFrame_event⟩
  | .reneg _ _ => ⟨_, _, execReneg_event⟩
  | .hallTransition _ _ _ => ⟨_, _, execHallTransition_event⟩
  | .hallInvalid _ _ => ⟨_, _, execHallInvalid_event⟩
  | .prbarm _ _ _ => ⟨_, _, execPrbarm_event⟩
  | .probeEdge _ _ _ => ⟨_, _, execProbeEdge_event⟩
  | .stall _ _ => ⟨_, _, execStall_event⟩
  | .lineFault _ _ _ => ⟨_, _, execLineFault_event⟩
  | .lineGood _ _ => ⟨_, _, execLineGood_event⟩
  | .lockstepMismatch _ => ⟨_, _, execLockstepMismatch_event⟩
  | .lockstepInjection _ _ => ⟨_, _, execLockstepInjection_event⟩
  | .voteCopy _ _ _ _ => ⟨_, _, execVoteCopy_event⟩
  | .laggardWindowClose _ => ⟨_, _, execLaggardWindowClose_event⟩
  | .loneCopyTimeout _ => ⟨_, _, execLoneCopyTimeout_event⟩
  | .resyncComplete _ => ⟨_, _, execResyncComplete_event⟩
  | .resyncTimeout _ => ⟨_, _, execResyncTimeout_event⟩
  | .spreadHigh _ => ⟨_, _, execSpreadHigh_event⟩
  | .spreadPersist _ => ⟨_, _, execSpreadPersist_event⟩
  | .exercise _ _ => ⟨_, _, execExercise_event⟩
  | .exnow _ => ⟨_, _, execExnow_event⟩
  | .wingHello _ _ _ _ _ _ _ => ⟨_, _, execWingHello_event⟩
  | .frameResend _ _ => ⟨_, _, execFrameResend_event⟩
  | .linkSilence _ _ => ⟨_, _, execLinkSilence_event⟩
  | .commandSegment _ _ _ _ _ => ⟨_, _, execCommandSegment_event⟩
  | .commandExpiry _ _ => ⟨_, _, execCommandExpiry_event⟩
  | .mirror _ _ _ _ _ _ => ⟨_, _, execMirror_event⟩
  | .token _ _ _ _ x4 _ => ⟨_, _, execToken_event (a4 := x4)⟩
  | .leadLeaseExpiry _ => ⟨_, _, execLeadLeaseExpiry_event⟩
  | .tokenGuardEnd _ => ⟨_, _, execTokenGuardEnd_event⟩
  | .handoverDrill _ => ⟨_, _, execHandoverDrill_event⟩
  | .handover _ _ _ _ => ⟨_, _, execHandover_event⟩
  | .drillnow _ => ⟨_, _, execDrillnow_event⟩
  | .retrain _ => ⟨_, _, execRetrain_event⟩
  | .outFrame _ _ _ => ⟨_, _, execOutFrame_event⟩
  | .rejoin _ _ _ _ => ⟨_, _, execRejoin_event⟩
  | .resyncLaneTimeout _ => ⟨_, _, execResyncLaneTimeout_event⟩
  | .digest _ _ _ _ _ _ => ⟨_, _, execDigest_event⟩
  | .digestWaitEnd _ => ⟨_, _, execDigestWaitEnd_event⟩
  | .promptBookReverify _ _ => ⟨_, _, execPromptBookReverify_event⟩
  | .curtainEntry _ => ⟨_, _, execCurtainEntry_event⟩
  | .ticketRequest _ _ _ => ⟨_, _, execTicketRequest_event⟩
  | .ticketedWorkEnd _ _ => ⟨_, _, execTicketedWorkEnd_event⟩
  | .ticketStarved _ _ => ⟨_, _, execTicketStarved_event⟩
  | .commitmentRelease _ _ => ⟨_, _, execCommitmentRelease_event⟩
  | .supLedgerClose _ => ⟨_, _, execSupLedgerClose_event⟩
  | .gaugeRead _ _ _ => ⟨_, _, execGaugeRead_event⟩
  | .deficitPersist _ _ => ⟨_, _, execDeficitPersist_event⟩
  | .vcoreStep _ => ⟨_, _, execVcoreStep_event⟩
  | .vcoreRiseDone _ _ => ⟨_, _, execVcoreRiseDone_event⟩
  | .vcoreRiseTimeout _ => ⟨_, _, execVcoreRiseTimeout_event⟩
  | .coreUndervoltage _ _ => ⟨_, _, execCoreUndervoltage_event⟩
  | .coreOvervoltage _ _ => ⟨_, _, execCoreOvervoltage_event⟩
  | .lateCrossing _ _ => ⟨_, _, execLateCrossing_event⟩
  | .referenceLoss _ => ⟨_, _, execReferenceLoss_event⟩
  | .pllUnlock _ => ⟨_, _, execPllUnlock_event⟩
  | .powerUp _ _ => ⟨_, _, execPowerUp_event⟩
  | .pllLock _ => ⟨_, _, execPllLock_event⟩
  | .supplyWindowMiss _ => ⟨_, _, execSupplyWindowMiss_event⟩
  | .supplyRetry _ => ⟨_, _, execSupplyRetry_event⟩
  | .logicRelease _ _ => ⟨_, _, execLogicRelease_event⟩
  | .vinReserve _ _ => ⟨_, _, execVinReserve_event⟩
  | .vinUndervoltage _ => ⟨_, _, execVinUndervoltage_event⟩
  | .shutdownSequenceEnd _ _ => ⟨_, _, execShutdownSequenceEnd_event⟩
  | .temperatureWarning _ _ _ => ⟨_, _, execTemperatureWarning_event⟩
  | .temperatureTrip _ _ _ => ⟨_, _, execTemperatureTrip_event⟩
  | .memoryInitDone _ _ => ⟨_, _, execMemoryInitDone_event⟩
  | .firmwareVerified _ => ⟨_, _, execFirmwareVerified_event⟩
  | .rehearsalStepDone _ _ _ => ⟨_, _, execRehearsalStepDone_event⟩
  | .scriptCheck _ => ⟨_, _, execScriptCheck_event⟩
  | .scriptCheckDone _ => ⟨_, _, execScriptCheckDone_event⟩
  | .memoryRotation _ => ⟨_, _, execMemoryRotation_event⟩
  | .bankSwap _ => ⟨_, _, execBankSwap_event⟩
  | .marchDone _ _ => ⟨_, _, execMarchDone_event⟩
  | .eccCorrected _ _ _ _ _ => ⟨_, _, execEccCorrected_event⟩
  | .comparatorRotation _ _ => ⟨_, _, execComparatorRotation_event⟩
  | .twinSweep _ _ => ⟨_, _, execTwinSweep_event⟩
  | .linkMarginScan _ _ _ => ⟨_, _, execLinkMarginScan_event⟩
  | .rerun _ _ => ⟨_, _, execRerun_event⟩
  | .phyLink _ _ => ⟨_, _, execPhyLink_event⟩
  | .virecHelloSend _ _ => ⟨_, _, execVirecHelloSend_event⟩
  | .virecHello _ _ _ => ⟨_, _, execVirecHello_event⟩
  | .rateTimeout _ _ => ⟨_, _, execRateTimeout_event⟩
  | .cueInstant _ _ => ⟨_, _, execCueInstant_event⟩
  | .cueSend _ _ _ _ => ⟨_, _, execCueSend_event⟩
  | .cueFrame _ _ _ => ⟨_, _, execCueFrame_event⟩
  | .cueWindowEnd _ _ _ => ⟨_, _, execCueWindowEnd_event⟩
  | .portBreak _ _ => ⟨_, _, execPortBreak_event⟩
  | .coldStart _ => ⟨_, _, execColdStart_event⟩
  | .startFrame _ _ _ => ⟨_, _, execStartFrame_event⟩
  | .shann _ _ => ⟨_, _, execShann_event⟩
  | .reint _ => ⟨_, _, execReint_event⟩
  | .step _ _ => ⟨_, _, execStep_event⟩
  | .stepApply _ => ⟨_, _, execStepApply_event⟩
  | .incr _ _ => ⟨_, _, execIncr_event⟩
  | .syncLoss _ => ⟨_, _, execSyncLoss_event⟩
  | .timeLatch _ => ⟨_, _, execTimeLatch_event⟩
  | .canFrameReceived _ _ _ => ⟨_, _, execCanFrameReceived_event⟩
  | .canSlot _ _ _ => ⟨_, _, execCanSlot_event⟩
  | .canSlotEnd _ _ _ => ⟨_, _, execCanSlotEnd_event⟩
  | .busOffDelay _ _ => ⟨_, _, execBusOffDelay_event⟩
  | .recover _ _ => ⟨_, _, execRecover_event⟩
  | .recoveryDone _ _ => ⟨_, _, execRecoveryDone_event⟩
  | .freshAck _ _ _ _ => ⟨_, _, execFreshAck_event⟩
  | .addressClaim _ _ _ _ => ⟨_, _, execAddressClaim_event⟩
  | .windowLatch _ _ _ => ⟨_, _, execWindowLatch_event⟩
  | .commit _ _ => ⟨_, _, execCommit_event⟩
  | .seatWrite _ _ _ _ => ⟨_, _, execSeatWrite_event⟩
  | .seatRead _ _ => ⟨_, _, execSeatRead_event⟩
  | .seatStatus _ _ => ⟨_, _, execSeatStatus_event⟩
  | .canSegment _ _ _ _ _ _ _ => ⟨_, _, execCanSegment_event⟩
  | .canTransferTimeout _ _ => ⟨_, _, execCanTransferTimeout_event⟩
  | .sessionOpen _ _ _ _ _ _ => ⟨_, _, execSessionOpen_event⟩
  | .sessionClose _ _ _ => ⟨_, _, execSessionClose_event⟩
  | .ping _ _ _ _ => ⟨_, _, execPing_event⟩
  | .readReg _ _ _ _ _ => ⟨_, _, execReadReg_event⟩
  | .writeReg _ _ _ _ _ _ => ⟨_, _, execWriteReg_event⟩
  | .spotRequest _ _ _ _ => ⟨_, _, execSpotRequest_event⟩
  | .spotRenew _ _ _ => ⟨_, _, execSpotRenew_event⟩
  | .spotRelease _ _ _ => ⟨_, _, execSpotRelease_event⟩
  | .spotQuery _ _ _ => ⟨_, _, execSpotQuery_event⟩
  | .spotLeaseExpiry _ => ⟨_, _, execSpotLeaseExpiry_event⟩
  | .frozenTimeout _ => ⟨_, _, execFrozenTimeout_event⟩
  | .arm _ _ _ => ⟨_, _, execArm_event⟩
  | .perform _ _ _ => ⟨_, _, execPerform_event⟩
  | .setpoint _ _ _ _ => ⟨_, _, execSetpoint_event⟩
  | .disarm _ _ _ => ⟨_, _, execDisarm_event⟩
  | .stop _ _ _ => ⟨_, _, execStop_event⟩
  | .workshopEnter _ _ _ => ⟨_, _, execWorkshopEnter_event⟩
  | .workshopLeave _ _ _ => ⟨_, _, execWorkshopLeave_event⟩
  | .pbStatus _ _ _ => ⟨_, _, execPbStatus_event⟩
  | .pbLoadBegin _ _ _ _ _ => ⟨_, _, execPbLoadBegin_event⟩
  | .pbLoadData _ _ _ _ _ => ⟨_, _, execPbLoadData_event⟩
  | .pbLoadEnd _ _ _ _ _ => ⟨_, _, execPbLoadEnd_event⟩
  | .pbActivate _ _ _ => ⟨_, _, execPbActivate_event⟩
  | .pbAbort _ _ _ => ⟨_, _, execPbAbort_event⟩
  | .rehReport _ _ _ => ⟨_, _, execRehReport_event⟩
  | .rehRerun _ _ _ _ => ⟨_, _, execRehRerun_event⟩
  | .rehTask _ _ _ _ => ⟨_, _, execRehTask_event⟩
  | .logInfo _ _ _ => ⟨_, _, execLogInfo_event⟩
  | .logRead _ _ _ _ _ => ⟨_, _, execLogRead_event⟩
  | .logMark _ _ _ _ => ⟨_, _, execLogMark_event⟩
  | .timeRead _ _ _ => ⟨_, _, execTimeRead_event⟩
  | .timeEcho _ _ _ _ => ⟨_, _, execTimeEcho_event⟩
  | .idInfo _ _ _ => ⟨_, _, execIdInfo_event⟩
  | .idCert _ _ _ _ _ => ⟨_, _, execIdCert_event⟩
  | .attest _ _ _ _ => ⟨_, _, execAttest_event⟩
  | .fwStatus _ _ _ => ⟨_, _, execFwStatus_event⟩
  | .fwLoadBegin _ _ _ _ _ => ⟨_, _, execFwLoadBegin_event⟩
  | .fwLoadData _ _ _ _ _ => ⟨_, _, execFwLoadData_event⟩
  | .fwLoadEnd _ _ _ _ _ => ⟨_, _, execFwLoadEnd_event⟩
  | .fwRestart _ _ _ => ⟨_, _, execFwRestart_event⟩
  | .fwCommit _ _ _ => ⟨_, _, execFwCommit_event⟩
  | .confirmCheck _ _ _ _ => ⟨_, _, execConfirmCheck_event⟩
  | .cartAccept _ _ _ _ _ => ⟨_, _, execCartAccept_event⟩
  | .lifeAck _ _ _ _ => ⟨_, _, execLifeAck_event⟩
  | .safetyStatus _ _ _ => ⟨_, _, execSafetyStatus_event⟩
  | .claim _ _ => ⟨_, _, execClaim_event⟩
  | .completion _ _ _ => ⟨_, _, execCompletion_event⟩
  | .safetyInputChange _ _ _ _ => ⟨_, _, execSafetyInputChange_event⟩
  | .discrepancyFault _ _ => ⟨_, _, execDiscrepancyFault_event⟩
  | .gtSeenOpen _ _ => ⟨_, _, execGtSeenOpen_event⟩
  | .resetButton _ _ _ => ⟨_, _, execResetButton_event⟩
  | .resetStuck _ => ⟨_, _, execResetStuck_event⟩
  | .resetSingle _ => ⟨_, _, execResetSingle_event⟩
  | .koCommand _ _ => ⟨_, _, execKoCommand_event⟩
  | .contactorCheck _ _ _ => ⟨_, _, execContactorCheck_event⟩
  | .contactorFault _ _ _ => ⟨_, _, execContactorFault_event⟩
  | .koOvercurrent _ _ => ⟨_, _, execKoOvercurrent_event⟩
  | .koShort _ _ => ⟨_, _, execKoShort_event⟩
  | .tamper _ _ => ⟨_, _, execTamper_event⟩
  | .debugChallenge _ => ⟨_, _, execDebugChallenge_event⟩
  | .debugUnlock _ _ => ⟨_, _, execDebugUnlock_event⟩
  | .cartridgeAuth _ _ => ⟨_, _, execCartridgeAuth_event⟩
  | .cartridgeAuthDone _ _ _ => ⟨_, _, execCartridgeAuthDone_event⟩
  | .playbillWrite _ _ => ⟨_, _, execPlaybillWrite_event⟩
  | .corruptedFrame _ _ => ⟨_, _, execCorruptedFrame_event⟩
  | .memorySupplyFault _ _ => ⟨_, _, execMemorySupplyFault_event⟩
  | .canReceiveError _ _ _ _ => ⟨_, _, execCanReceiveError_event⟩
  | .gtInputChange _ _ _ => ⟨_, _, execGtInputChange_event⟩
  | .testHigh _ => ⟨_, _, execTestHigh_event⟩
  | .seatOtherTransaction _ => ⟨_, _, execSeatOtherTransaction_event⟩
  | .chopperIntervalEnd _ => ⟨_, _, execChopperIntervalEnd_event⟩

/-- The lane of the event after it has run. -/
theorem State.lane_onLane (s : State) (i : LaneId) (f : Lane → Lane) : (s.onLane i f).lane i = f (s.lane i) := by
  cases i <;> rfl

/-- The other lanes after the event has run. -/
theorem State.lane_onLane_of_ne (s : State) {i j : LaneId} (f : Lane → Lane) (h : j ≠ i) : (s.onLane i f).lane j = s.lane j := by
  cases i <;> cases j <;> first | rfl | exact absurd rfl h

theorem State.pending_onLane (s : State) (i : LaneId) (f : Lane → Lane) : (s.onLane i f).pending = s.pending := by
  cases i <;> rfl

/-- A lane in its place. -/
theorem State.Sound.lane {s : State} (h : s.Sound) (i : LaneId) : (s.lane i).Sound i := by
  cases i
  · exact h.1
  · exact h.2.1
  · exact h.2.2

theorem State.sound_of_lanes {s : State} (h : ∀ i, (s.lane i).Sound i) : s.Sound := ⟨h .A, h .B, h .C⟩

/-- Advancing a lane keeps it in its place. -/
theorem Lane.Sound.advanceTo {i : LaneId} {l : Lane} (h : l.Sound i) (t : Nat) : (l.advanceTo t).Sound i := h

/-- Advancing a lane leaves every word. -/
theorem Lane.word_advanceTo (l : Lane) (t a : Nat) : (l.advanceTo t).word a = l.word a := rfl

/-- An event of the logic die, where that die runs. -/
theorem State.lane_logicEvent {s : State} {e : At} {f : Lane → Lane} (h : (s.lane e.lane).logicUp = true) :
    (s.logicEvent e f).lane e.lane = f ((s.lane e.lane).advanceTo e.t) := by
  unfold State.logicEvent
  rw [State.lane_onLane, if_pos h]

/-- An event of the power die, where that die is powered. -/
theorem State.lane_powerEvent {s : State} {e : At} {f : Lane → Lane} (h : (s.lane e.lane).monitorsUp = true) :
    (s.powerEvent e f).lane e.lane = f ((s.lane e.lane).advanceTo e.t) := by
  unfold State.powerEvent
  rw [State.lane_onLane, if_pos h]

theorem State.lane_anyEvent {s : State} {e : At} {f : Lane → Lane} :
    (s.anyEvent e f).lane e.lane = f ((s.lane e.lane).advanceTo e.t) := State.lane_onLane _ _ _

/-- What an event answers: the other lanes and the queue stay; where its guard holds the lane of the event is its former
self at the event's time, changed within the mask; where it does not hold, that lane stays too. -/
theorem Runs.next {g : Lane → Bool} {w : Nat} {e : At} {s : State} {o : Host.Outcome State Fault Refusal}
    (h : Runs g w e s o) (hs : s.Sound) : ∃ t, o = .next t ∧ t.pending = s.pending ∧ (∀ i, i ≠ e.lane → t.lane i = s.lane i) ∧
      (g (s.lane e.lane) = true → Lane.Near w ((s.lane e.lane).advanceTo e.t) (t.lane e.lane)) ∧
      (g (s.lane e.lane) = false → t.lane e.lane = s.lane e.lane) := by
  obtain ⟨f, ho, hf⟩ := h
  refine ⟨_, ho, State.pending_onLane _ _ _, fun i hi => State.lane_onLane_of_ne _ _ hi, fun hg => ?_, fun hg => ?_⟩
  · rw [State.lane_onLane, if_pos hg]
    exact hf w _ _ (sub_refl w) (Lane.Near.refl w ((hs.lane e.lane).advanceTo e.t))
  · rw [State.lane_onLane, if_neg (by rw [hg]; exact Bool.false_ne_true)]

/-- An event keeps every lane in its place. -/
theorem Runs.sound {g : Lane → Bool} {w : Nat} {e : At} {s t : State} {o : Host.Outcome State Fault Refusal}
    (h : Runs g w e s o) (hs : s.Sound) (ho : o = .next t) : t.Sound := by
  obtain ⟨u, hu, -, hi, hy, hn⟩ := h.next hs
  rw [ho] at hu
  injection hu with hu
  subst hu
  refine State.sound_of_lanes fun i => ?_
  by_cases hie : i = e.lane
  · subst hie
    cases hg : g (s.lane e.lane)
    · rw [hn hg]; exact hs.lane _
    · exact (hy hg).sound (hs.lane e.lane).1
  · rw [hi i hie]; exact hs.lane i

/-- A command of the logic die completes: its frame is the one of its event lemma, and its effect is `f`. -/
theorem does_logic {w : Nat} {g : Lane → Bool} {c : Instr} {s : State} {ps : List Part} {f : Lane → Lane} {P : Lane → Lane → Prop}
    (hs : s.Runs c.at) (hx : exec c s = .next (s.logicEvent c.at f)) (hr : Runs g w c.at s (exec c s)) (hg : g = Lane.logicUp)
    (m : sub w (maskOf ps) = true) (hP : (s.before c).Sound c.at.lane → P (s.before c) (f (s.before c))) : Does c s ps P := by
  subst hg
  obtain ⟨t, ht, hp, hi, hy, -⟩ := hr.next hs.1
  have e : t = s.logicEvent c.at f := by
    rw [hx] at ht
    injection ht with ht
    exact ht.symm
  refine ⟨t, ht, hp, hi, (hy hs.2).mono m, ?_⟩
  rw [e, State.lane_logicEvent hs.2]
  exact hP ((hs.1.lane c.at.lane).advanceTo c.at.t)

/-- A command of the power die completes. -/
theorem does_power {w : Nat} {g : Lane → Bool} {c : Instr} {s : State} {ps : List Part} {f : Lane → Lane} {P : Lane → Lane → Prop}
    (hs : s.Powered c.at) (hx : exec c s = .next (s.powerEvent c.at f)) (hr : Runs g w c.at s (exec c s)) (hg : g = Lane.monitorsUp)
    (m : sub w (maskOf ps) = true) (hP : (s.before c).Sound c.at.lane → P (s.before c) (f (s.before c))) : Does c s ps P := by
  subst hg
  obtain ⟨t, ht, hp, hi, hy, -⟩ := hr.next hs.1
  have e : t = s.powerEvent c.at f := by
    rw [hx] at ht
    injection ht with ht
    exact ht.symm
  refine ⟨t, ht, hp, hi, (hy hs.2).mono m, ?_⟩
  rw [e, State.lane_powerEvent hs.2]
  exact hP ((hs.1.lane c.at.lane).advanceTo c.at.t)

/-- A command that acts whatever the supplies are completes. -/
theorem does_any {w : Nat} {g : Lane → Bool} {c : Instr} {s : State} {ps : List Part} {f : Lane → Lane} {P : Lane → Lane → Prop}
    (hs : s.Sound) (hx : exec c s = .next (s.anyEvent c.at f)) (hr : Runs g w c.at s (exec c s)) (hg : g (s.lane c.at.lane) = true)
    (m : sub w (maskOf ps) = true) (hP : (s.before c).Sound c.at.lane → P (s.before c) (f (s.before c))) : Does c s ps P := by
  obtain ⟨t, ht, hp, hi, hy, -⟩ := hr.next hs
  have e : t = s.anyEvent c.at f := by
    rw [hx] at ht
    injection ht with ht
    exact ht.symm
  refine ⟨t, ht, hp, hi, (hy hg).mono m, ?_⟩
  rw [e, State.lane_anyEvent]
  exact hP ((hs.lane c.at.lane).advanceTo c.at.t)

end Sys2Proof.Machine
end

