-- ==== Sys2Proof/WellFormed.lean ====
section
/-!
DEFINITION. Which commands can come about at all: what the operand types leave too wide.
-/

namespace Sys2Proof

/-- Sensor readings fit PW_TEMP's signed fields (R67, R68). -/
def Temps.wf (t : Temps) : Bool :=
  [t.ld.1, t.ld.2, t.pd.1, t.pd.2].all fun x => decide (-32768 ≤ x ∧ x ≤ 32767)

/-- What the monitors read fits the registers that hold it (R68, R153): VM_x, VIN_x, VG_x in 10 mV, VCORE_x in mV. -/
def Measured.wf (m : Measured) : Bool :=
  decide (m.vm < 65536) && decide (m.vin < 65536) && decide (m.vg < 65536) && decide (m.vcore < 65536) && m.temps.wf

/-- A well-formed command: a crossing is stamped no later than it is queued (R72), measurements fit their registers, and a
CAN frame carries at most 64 bytes (R434), a segment 62 bytes of data (R469). -/
def Instr.wf : Instr → Bool
  | .beatStart _ m => m.wf
  | .temperatureWarning _ ld pd => Temps.wf ⟨ld, pd⟩
  | .temperatureTrip _ t _ => t.wf
  | .ladderCrossing e _ _ _ _ stamp _ => decide (stamp ≤ e.t)
  | .serialFrame _ _ f => decide (f.delay < 65536)
  | .ov1Enter _ vm | .ov1Release _ vm | .ov2Enter _ vm | .ov2Release _ vm | .ov3Enter _ vm | .ov3Release _ vm
  | .ovmax _ vm => decide (vm < 65536)
  | .canFrameReceived _ _ f => decide (f.data.length ≤ 64)
  | .canSegment _ _ _ _ _ _ pkt => decide (pkt.bytes.length ≤ 62)
  | _ => true

end Sys2Proof
end

