-- ==== Sys2Proof/Laws/RegRest.lean ====
section
/-!
SUPPORT. The number of each register that no operation of the block writes by name.
-/

namespace Sys2Proof.Machine

-- one elaboration thread, as in RegNo
set_option Elab.async false

theorem at_LC_ID : IsReg R.LC_ID 0 := by decide +kernel

theorem at_LC_SERIAL_LO : IsReg R.LC_SERIAL_LO 5 := by decide +kernel

theorem at_LC_SERIAL_HI : IsReg R.LC_SERIAL_HI 6 := by decide +kernel

theorem at_PW_VCLIM : IsReg R.PW_VCLIM 8 := by decide +kernel

theorem at_PW_RESERVE : IsReg R.PW_RESERVE 12 := by decide +kernel

theorem at_PW_TLIM : IsReg R.PW_TLIM 14 := by decide +kernel

theorem at_PW_GFLOOR : IsReg R.PW_GFLOOR 16 := by decide +kernel

theorem at_BX_CFG : IsReg R.BX_CFG 22 := by decide +kernel

theorem at_BX_DIEMOD : IsReg R.BX_DIEMOD 24 := by decide +kernel

theorem at_BX_RES0 : IsReg R.BX_RES0 26 := by decide +kernel

theorem at_BX_WMOD0 {n : Nat} (hn : n < 4) : IsReg (R.BX_WMOD0 n) 40 :=
  (by decide +kernel : ∀ n, n < 4 → IsReg (R.BX_WMOD0 n) 40) n hn

theorem at_BX_WMOD1 {n : Nat} (hn : n < 4) : IsReg (R.BX_WMOD1 n) 41 :=
  (by decide +kernel : ∀ n, n < 4 → IsReg (R.BX_WMOD1 n) 41) n hn

theorem at_BX_BRK {n : Nat} (hn : n < 4) : IsReg (R.BX_BRK n) 43 :=
  (by decide +kernel : ∀ n, n < 4 → IsReg (R.BX_BRK n) 43) n hn

theorem at_TV_CMD : IsReg R.TV_CMD 56 := by decide +kernel

theorem at_WG_CFG : IsReg R.WG_CFG 59 := by decide +kernel

theorem at_WG_POSTOL : IsReg R.WG_POSTOL 60 := by decide +kernel

theorem at_WG_CTRL : IsReg R.WG_CTRL 72 := by decide +kernel

theorem at_BI_REFCFG : IsReg R.BI_REFCFG 82 := by decide +kernel

theorem at_BI_ROT : IsReg R.BI_ROT 83 := by decide +kernel

theorem at_BI_CMD : IsReg R.BI_CMD 86 := by decide +kernel

theorem at_DC_BANDS {n : Nat} (hn : n < 4) : IsReg (R.DC_BANDS n) 98 :=
  (by decide +kernel : ∀ n, n < 4 → IsReg (R.DC_BANDS n) 98) n hn

theorem at_DC_FLUX {n : Nat} (hn : n < 4) : IsReg (R.DC_FLUX n) 99 :=
  (by decide +kernel : ∀ n, n < 4 → IsReg (R.DC_FLUX n) 99) n hn

theorem at_DC_MOT0 {n : Nat} (hn : n < 4) : IsReg (R.DC_MOT0 n) 100 :=
  (by decide +kernel : ∀ n, n < 4 → IsReg (R.DC_MOT0 n) 100) n hn

theorem at_DC_MOT1 {n : Nat} (hn : n < 4) : IsReg (R.DC_MOT1 n) 101 :=
  (by decide +kernel : ∀ n, n < 4 → IsReg (R.DC_MOT1 n) 101) n hn

theorem at_DC_MOT2 {n : Nat} (hn : n < 4) : IsReg (R.DC_MOT2 n) 102 :=
  (by decide +kernel : ∀ n, n < 4 → IsReg (R.DC_MOT2 n) 102) n hn

theorem at_DC_SCALE {n : Nat} (hn : n < 4) : IsReg (R.DC_SCALE n) 103 :=
  (by decide +kernel : ∀ n, n < 4 → IsReg (R.DC_SCALE n) 103) n hn

theorem at_DC_THOFS {n : Nat} (hn : n < 4) : IsReg (R.DC_THOFS n) 104 :=
  (by decide +kernel : ∀ n, n < 4 → IsReg (R.DC_THOFS n) 104) n hn

theorem at_DC_PEAK {n : Nat} (hn : n < 4) : IsReg (R.DC_PEAK n) 105 :=
  (by decide +kernel : ∀ n, n < 4 → IsReg (R.DC_PEAK n) 105) n hn

theorem at_DC_LADCFG {n : Nat} (hn : n < 4) : IsReg (R.DC_LADCFG n) 106 :=
  (by decide +kernel : ∀ n, n < 4 → IsReg (R.DC_LADCFG n) 106) n hn

theorem at_DC_ISOFS {n : Nat} (hn : n < 4) : IsReg (R.DC_ISOFS n) 107 :=
  (by decide +kernel : ∀ n, n < 4 → IsReg (R.DC_ISOFS n) 107) n hn

theorem at_DC_LAD {n : Nat} {k : Nat} (hn : n < 4) (hk : k < 4) : IsReg (R.DC_LAD n k) 108 :=
  (by decide +kernel : ∀ n, n < 4 → ∀ k, k < 4 → IsReg (R.DC_LAD n k) 108) n hn k hk

theorem at_DC_RESID {n : Nat} (hn : n < 4) : IsReg (R.DC_RESID n) 109 :=
  (by decide +kernel : ∀ n, n < 4 → IsReg (R.DC_RESID n) 109) n hn

theorem at_DC_TRIMK {n : Nat} (hn : n < 4) : IsReg (R.DC_TRIMK n) 110 :=
  (by decide +kernel : ∀ n, n < 4 → IsReg (R.DC_TRIMK n) 110) n hn

theorem at_DC_REV {n : Nat} (hn : n < 4) : IsReg (R.DC_REV n) 113 :=
  (by decide +kernel : ∀ n, n < 4 → IsReg (R.DC_REV n) 113) n hn

theorem at_DC_LIMITS {n : Nat} (hn : n < 4) : IsReg (R.DC_LIMITS n) 114 :=
  (by decide +kernel : ∀ n, n < 4 → IsReg (R.DC_LIMITS n) 114) n hn

theorem at_DC_BEMF0 {n : Nat} (hn : n < 4) : IsReg (R.DC_BEMF0 n) 115 :=
  (by decide +kernel : ∀ n, n < 4 → IsReg (R.DC_BEMF0 n) 115) n hn

theorem at_DC_BEMF1 {n : Nat} (hn : n < 4) : IsReg (R.DC_BEMF1 n) 116 :=
  (by decide +kernel : ∀ n, n < 4 → IsReg (R.DC_BEMF1 n) 116) n hn

theorem at_DC_RCATCH {n : Nat} (hn : n < 4) : IsReg (R.DC_RCATCH n) 117 :=
  (by decide +kernel : ∀ n, n < 4 → IsReg (R.DC_RCATCH n) 117) n hn

theorem at_DC_SECT {n : Nat} (hn : n < 4) : IsReg (R.DC_SECT n) 118 :=
  (by decide +kernel : ∀ n, n < 4 → IsReg (R.DC_SECT n) 118) n hn

theorem at_DC_CPR {n : Nat} (hn : n < 4) : IsReg (R.DC_CPR n) 119 :=
  (by decide +kernel : ∀ n, n < 4 → IsReg (R.DC_CPR n) 119) n hn

theorem at_GD_CFG {n : Nat} (hn : n < 4) : IsReg (R.GD_CFG n) 124 :=
  (by decide +kernel : ∀ n, n < 4 → IsReg (R.GD_CFG n) 124) n hn

theorem at_GD_DT {n : Nat} (hn : n < 4) : IsReg (R.GD_DT n) 125 :=
  (by decide +kernel : ∀ n, n < 4 → IsReg (R.GD_DT n) 125) n hn

theorem at_GD_VDS {n : Nat} (hn : n < 4) : IsReg (R.GD_VDS n) 126 :=
  (by decide +kernel : ∀ n, n < 4 → IsReg (R.GD_VDS n) 126) n hn

theorem at_GD_BSTCFG {n : Nat} (hn : n < 4) : IsReg (R.GD_BSTCFG n) 127 :=
  (by decide +kernel : ∀ n, n < 4 → IsReg (R.GD_BSTCFG n) 127) n hn

theorem at_GD_BSTCFG2 {n : Nat} (hn : n < 4) : IsReg (R.GD_BSTCFG2 n) 128 :=
  (by decide +kernel : ∀ n, n < 4 → IsReg (R.GD_BSTCFG2 n) 128) n hn

theorem at_GD_FCLR {n : Nat} (hn : n < 4) : IsReg (R.GD_FCLR n) 137 :=
  (by decide +kernel : ∀ n, n < 4 → IsReg (R.GD_FCLR n) 137) n hn

theorem at_GD_OVA : IsReg R.GD_OVA 140 := by decide +kernel

theorem at_GD_OVB : IsReg R.GD_OVB 141 := by decide +kernel

theorem at_GD_OVH : IsReg R.GD_OVH 142 := by decide +kernel

theorem at_GD_OVCFG : IsReg R.GD_OVCFG 143 := by decide +kernel

theorem at_FB_CFG {n : Nat} (hn : n < 4) : IsReg (R.FB_CFG n) 146 :=
  (by decide +kernel : ∀ n, n < 4 → IsReg (R.FB_CFG n) 146) n hn

theorem at_FB_FILT {n : Nat} (hn : n < 4) : IsReg (R.FB_FILT n) 147 :=
  (by decide +kernel : ∀ n, n < 4 → IsReg (R.FB_FILT n) 147) n hn

theorem at_FB_SPDCFG {n : Nat} (hn : n < 4) : IsReg (R.FB_SPDCFG n) 155 :=
  (by decide +kernel : ∀ n, n < 4 → IsReg (R.FB_SPDCFG n) 155) n hn

theorem at_FB_IDX {n : Nat} (hn : n < 4) : IsReg (R.FB_IDX n) 157 :=
  (by decide +kernel : ∀ n, n < 4 → IsReg (R.FB_IDX n) 157) n hn

theorem at_FB_IDXPOS {n : Nat} (hn : n < 4) : IsReg (R.FB_IDXPOS n) 158 :=
  (by decide +kernel : ∀ n, n < 4 → IsReg (R.FB_IDXPOS n) 158) n hn

theorem at_FB_CPR {n : Nat} (hn : n < 4) : IsReg (R.FB_CPR n) 160 :=
  (by decide +kernel : ∀ n, n < 4 → IsReg (R.FB_CPR n) 160) n hn

theorem at_FB_SER0 {n : Nat} (hn : n < 4) : IsReg (R.FB_SER0 n) 164 :=
  (by decide +kernel : ∀ n, n < 4 → IsReg (R.FB_SER0 n) 164) n hn

theorem at_FB_SER1 {n : Nat} (hn : n < 4) : IsReg (R.FB_SER1 n) 165 :=
  (by decide +kernel : ∀ n, n < 4 → IsReg (R.FB_SER1 n) 165) n hn

theorem at_FB_SER2 {n : Nat} (hn : n < 4) : IsReg (R.FB_SER2 n) 166 :=
  (by decide +kernel : ∀ n, n < 4 → IsReg (R.FB_SER2 n) 166) n hn

theorem at_FB_HALL {n : Nat} (hn : n < 4) : IsReg (R.FB_HALL n) 169 :=
  (by decide +kernel : ∀ n, n < 4 → IsReg (R.FB_HALL n) 169) n hn

theorem at_LE_AXCFG {n : Nat} (hn : n < 4) : IsReg (R.LE_AXCFG n) 172 :=
  (by decide +kernel : ∀ n, n < 4 → IsReg (R.LE_AXCFG n) 172) n hn

theorem at_LE_KPO {n : Nat} (hn : n < 4) : IsReg (R.LE_KPO n) 175 :=
  (by decide +kernel : ∀ n, n < 4 → IsReg (R.LE_KPO n) 175) n hn

theorem at_LE_KIO {n : Nat} (hn : n < 4) : IsReg (R.LE_KIO n) 176 :=
  (by decide +kernel : ∀ n, n < 4 → IsReg (R.LE_KIO n) 176) n hn

theorem at_LE_KPW {n : Nat} (hn : n < 4) : IsReg (R.LE_KPW n) 177 :=
  (by decide +kernel : ∀ n, n < 4 → IsReg (R.LE_KPW n) 177) n hn

theorem at_LE_KIW {n : Nat} (hn : n < 4) : IsReg (R.LE_KIW n) 178 :=
  (by decide +kernel : ∀ n, n < 4 → IsReg (R.LE_KIW n) 178) n hn

theorem at_LE_SOFT {n : Nat} (hn : n < 4) : IsReg (R.LE_SOFT n) 179 :=
  (by decide +kernel : ∀ n, n < 4 → IsReg (R.LE_SOFT n) 179) n hn

theorem at_LE_ILIM {n : Nat} (hn : n < 4) : IsReg (R.LE_ILIM n) 180 :=
  (by decide +kernel : ∀ n, n < 4 → IsReg (R.LE_ILIM n) 180) n hn

theorem at_LE_SCALE {n : Nat} (hn : n < 4) : IsReg (R.LE_SCALE n) 182 :=
  (by decide +kernel : ∀ n, n < 4 → IsReg (R.LE_SCALE n) 182) n hn

theorem at_LE_PFS {n : Nat} (hn : n < 4) : IsReg (R.LE_PFS n) 183 :=
  (by decide +kernel : ∀ n, n < 4 → IsReg (R.LE_PFS n) 183) n hn

theorem at_LE_GEAR {n : Nat} (hn : n < 4) : IsReg (R.LE_GEAR n) 184 :=
  (by decide +kernel : ∀ n, n < 4 → IsReg (R.LE_GEAR n) 184) n hn

theorem at_LE_PZERO_LO {n : Nat} (hn : n < 4) : IsReg (R.LE_PZERO_LO n) 185 :=
  (by decide +kernel : ∀ n, n < 4 → IsReg (R.LE_PZERO_LO n) 185) n hn

theorem at_LE_PZERO_HI {n : Nat} (hn : n < 4) : IsReg (R.LE_PZERO_HI n) 186 :=
  (by decide +kernel : ∀ n, n < 4 → IsReg (R.LE_PZERO_HI n) 186) n hn

theorem at_LE_FCRV {n : Nat} {k : Nat} (hn : n < 4) (hk : k < 8) : IsReg (R.LE_FCRV n k) 187 :=
  (by decide +kernel : ∀ n, n < 4 → ∀ k, k < 8 → IsReg (R.LE_FCRV n k) 187) n hn k hk

theorem at_LE_FSTEP {n : Nat} (hn : n < 4) : IsReg (R.LE_FSTEP n) 188 :=
  (by decide +kernel : ∀ n, n < 4 → IsReg (R.LE_FSTEP n) 188) n hn

theorem at_LE_OSCO {n : Nat} (hn : n < 4) : IsReg (R.LE_OSCO n) 189 :=
  (by decide +kernel : ∀ n, n < 4 → IsReg (R.LE_OSCO n) 189) n hn

theorem at_LE_OSCW {n : Nat} (hn : n < 4) : IsReg (R.LE_OSCW n) 190 :=
  (by decide +kernel : ∀ n, n < 4 → IsReg (R.LE_OSCW n) 190) n hn

theorem at_LE_PLS0 {n : Nat} (hn : n < 4) : IsReg (R.LE_PLS0 n) 191 :=
  (by decide +kernel : ∀ n, n < 4 → IsReg (R.LE_PLS0 n) 191) n hn

theorem at_LE_KF {n : Nat} (hn : n < 4) : IsReg (R.LE_KF n) 193 :=
  (by decide +kernel : ∀ n, n < 4 → IsReg (R.LE_KF n) 193) n hn

theorem at_VR_CFG : IsReg R.VR_CFG 202 := by decide +kernel

theorem at_VR_CS : IsReg R.VR_CS 207 := by decide +kernel

theorem at_VR_ETYPE : IsReg R.VR_ETYPE 216 := by decide +kernel

theorem at_VR_PHYID : IsReg R.VR_PHYID 217 := by decide +kernel

theorem at_VR_SHIDX : IsReg R.VR_SHIDX 218 := by decide +kernel

theorem at_VR_CMD : IsReg R.VR_CMD 221 := by decide +kernel

theorem at_TM_JUMP : IsReg R.TM_JUMP 226 := by decide +kernel

theorem at_TM_STEP : IsReg R.TM_STEP 229 := by decide +kernel

theorem at_TM_FARLIM : IsReg R.TM_FARLIM 238 := by decide +kernel

theorem at_CN_CFG {c : Nat} (hc : c < 2) : IsReg (R.CN_CFG c) 239 :=
  (by decide +kernel : ∀ c, c < 2 → IsReg (R.CN_CFG c) 239) c hc

theorem at_CN_NOMBT {c : Nat} (hc : c < 2) : IsReg (R.CN_NOMBT c) 240 :=
  (by decide +kernel : ∀ c, c < 2 → IsReg (R.CN_NOMBT c) 240) c hc

theorem at_CN_DATBT {c : Nat} (hc : c < 2) : IsReg (R.CN_DATBT c) 241 :=
  (by decide +kernel : ∀ c, c < 2 → IsReg (R.CN_DATBT c) 241) c hc

theorem at_CN_SSP {c : Nat} (hc : c < 2) : IsReg (R.CN_SSP c) 242 :=
  (by decide +kernel : ∀ c, c < 2 → IsReg (R.CN_SSP c) 242) c hc

theorem at_CN_CMD {c : Nat} (hc : c < 2) : IsReg (R.CN_CMD c) 248 :=
  (by decide +kernel : ∀ c, c < 2 → IsReg (R.CN_CMD c) 248) c hc

theorem at_CN_SCHCFG {c : Nat} (hc : c < 2) : IsReg (R.CN_SCHCFG c) 250 :=
  (by decide +kernel : ∀ c, c < 2 → IsReg (R.CN_SCHCFG c) 250) c hc

theorem at_CN_SCH {c : Nat} {k : Nat} (hc : c < 2) (hk : k < 64) : IsReg (R.CN_SCH c k) 251 :=
  (by decide +kernel : ∀ c, c < 2 → ∀ k, k < 64 → IsReg (R.CN_SCH c k) 251) c hc k hk

theorem at_CN_BMSK {c : Nat} {b : Nat} (hc : c < 2) (hb : b < 64) : IsReg (R.CN_BMSK c b) 253 :=
  (by decide +kernel : ∀ c, c < 2 → ∀ b, b < 64 → IsReg (R.CN_BMSK c b) 253) c hc b hb

theorem at_SG_WDAT {s : Nat} {w : Nat} (hs : s < 8) (hw : w < 8) : IsReg (R.SG_WDAT s w) 267 :=
  (by decide +kernel : ∀ s, s < 8 → ∀ w, w < 8 → IsReg (R.SG_WDAT s w) 267) s hs w hw

theorem at_SG_WCMD {s : Nat} (hs : s < 8) : IsReg (R.SG_WCMD s) 268 :=
  (by decide +kernel : ∀ s, s < 8 → IsReg (R.SG_WCMD s) 268) s hs

theorem at_CB_COMPL {s : Nat} (hs : s < 8) : IsReg (R.CB_COMPL s) 277 :=
  (by decide +kernel : ∀ s, s < 8 → IsReg (R.CB_COMPL s) 277) s hs

theorem at_SF_CFG : IsReg R.SF_CFG 284 := by decide +kernel

theorem at_SF_SICFG {k : Nat} (hk : k < 8) : IsReg (R.SF_SICFG k) 285 :=
  (by decide +kernel : ∀ k, k < 8 → IsReg (R.SF_SICFG k) 285) k hk

theorem at_SF_GTCFG {m : Nat} (hm : m < 2) : IsReg (R.SF_GTCFG m) 286 :=
  (by decide +kernel : ∀ m, m < 2 → IsReg (R.SF_GTCFG m) 286) m hm

theorem at_SF_KOCFG {m : Nat} (hm : m < 4) : IsReg (R.SF_KOCFG m) 287 :=
  (by decide +kernel : ∀ m, m < 4 → IsReg (R.SF_KOCFG m) 287) m hm

theorem at_CT_CFG {n : Nat} (hn : n < 4) : IsReg (R.CT_CFG n) 298 :=
  (by decide +kernel : ∀ n, n < 4 → IsReg (R.CT_CFG n) 298) n hn

end Sys2Proof.Machine
end

