-- ==== Sys2Proof/Laws/State.lean ====
section
/-!
SUPPORT. What each update of a lane leaves of each of its parts: one lemma for each part and update, and for the readings
of the register space.
-/

namespace Sys2Proof.Machine

variable (l : Lane)


@[simp] theorem Lane.onAx_id (n : Axis) (f : AxisState → AxisState) : (l.onAx n f).id = l.id := rfl
@[simp] theorem Lane.onAx_regs (n : Axis) (f : AxisState → AxisState) : (l.onAx n f).regs = l.regs := rfl
@[simp] theorem Lane.onAx_sets (n : Axis) (f : AxisState → AxisState) : (l.onAx n f).sets = l.sets := rfl
@[simp] theorem Lane.onAx_now (n : Axis) (f : AxisState → AxisState) : (l.onAx n f).now = l.now := rfl
@[simp] theorem Lane.onAx_ltime (n : Axis) (f : AxisState → AxisState) : (l.onAx n f).ltime = l.ltime := rfl
@[simp] theorem Lane.onAx_fresh (n : Axis) (f : AxisState → AxisState) : (l.onAx n f).fresh = l.fresh := rfl
@[simp] theorem Lane.onAx_emit (n : Axis) (f : AxisState → AxisState) : (l.onAx n f).emit = l.emit := rfl
@[simp] theorem Lane.onAx_log (n : Axis) (f : AxisState → AxisState) : (l.onAx n f).log = l.log := rfl
@[simp] theorem Lane.onAx_logNext (n : Axis) (f : AxisState → AxisState) : (l.onAx n f).logNext = l.logNext := rfl
@[simp] theorem Lane.onAx_axes (n : Axis) (f : AxisState → AxisState) : (l.onAx n f).axes = l.axes.set n (f l.axes[n]) := rfl
@[simp] theorem Lane.onAx_power (n : Axis) (f : AxisState → AxisState) : (l.onAx n f).power = l.power := rfl
@[simp] theorem Lane.onAx_link (n : Axis) (f : AxisState → AxisState) : (l.onAx n f).link = l.link := rfl
@[simp] theorem Lane.onAx_loops (n : Axis) (f : AxisState → AxisState) : (l.onAx n f).loops = l.loops := rfl
@[simp] theorem Lane.onAx_wing (n : Axis) (f : AxisState → AxisState) : (l.onAx n f).wing = l.wing := rfl
@[simp] theorem Lane.onAx_seats (n : Axis) (f : AxisState → AxisState) : (l.onAx n f).seats = l.seats := rfl
@[simp] theorem Lane.onAx_call (n : Axis) (f : AxisState → AxisState) : (l.onAx n f).call = l.call := rfl
@[simp] theorem Lane.onAx_safety (n : Axis) (f : AxisState → AxisState) : (l.onAx n f).safety = l.safety := rfl
@[simp] theorem Lane.onAx_mode_ (n : Axis) (f : AxisState → AxisState) : (l.onAx n f).mode_ = l.mode_ := rfl
@[simp] theorem Lane.onAx_trust (n : Axis) (f : AxisState → AxisState) : (l.onAx n f).trust = l.trust := rfl
@[simp] theorem Lane.onAx_reh (n : Axis) (f : AxisState → AxisState) : (l.onAx n f).reh = l.reh := rfl
@[simp] theorem Lane.onAx_trio (n : Axis) (f : AxisState → AxisState) : (l.onAx n f).trio = l.trio := rfl
@[simp] theorem Lane.onAx_box (n : Axis) (f : AxisState → AxisState) : (l.onAx n f).box = l.box := rfl
@[simp] theorem Lane.onAx_ring (n : Axis) (f : AxisState → AxisState) : (l.onAx n f).ring = l.ring := rfl
@[simp] theorem Lane.onAx_tm (n : Axis) (f : AxisState → AxisState) : (l.onAx n f).tm = l.tm := rfl
@[simp] theorem Lane.onAx_can (n : Axis) (f : AxisState → AxisState) : (l.onAx n f).can = l.can := rfl
@[simp] theorem Lane.onAx_dict (n : Axis) (f : AxisState → AxisState) : (l.onAx n f).dict = l.dict := rfl
@[simp] theorem Lane.onAx_stage (n : Axis) (f : AxisState → AxisState) : (l.onAx n f).stage = l.stage := rfl
@[simp] theorem Lane.onAx_word (n : Axis) (f : AxisState → AxisState) (a : Nat) : (l.onAx n f).word a = l.word a := rfl
@[simp] theorem Lane.onAx_get (n : Axis) (f : AxisState → AxisState) (g : Fld) : (l.onAx n f).get g = l.get g := rfl
@[simp] theorem Lane.onAx_flag (n : Axis) (f : AxisState → AxisState) (g : Fld) : (l.onAx n f).flag g = l.flag g := rfl
@[simp] theorem Lane.onAx_getInt (n : Axis) (f : AxisState → AxisState) (g : Fld) : (l.onAx n f).getInt g = l.getInt g := rfl
@[simp] theorem Lane.onAx_bit (n : Axis) (f : AxisState → AxisState) (g : Fld) (i : Nat) : (l.onAx n f).bit g i = l.bit g i := rfl
@[simp] theorem Lane.onAx_lstate (n : Axis) (f : AxisState → AxisState) : (l.onAx n f).lstate = l.lstate := rfl
@[simp] theorem Lane.onAx_mode (n : Axis) (f : AxisState → AxisState) : (l.onAx n f).mode = l.mode := rfl

@[simp] theorem Lane.onLp_id (n : Axis) (f : LoopState → LoopState) : (l.onLp n f).id = l.id := rfl
@[simp] theorem Lane.onLp_regs (n : Axis) (f : LoopState → LoopState) : (l.onLp n f).regs = l.regs := rfl
@[simp] theorem Lane.onLp_sets (n : Axis) (f : LoopState → LoopState) : (l.onLp n f).sets = l.sets := rfl
@[simp] theorem Lane.onLp_now (n : Axis) (f : LoopState → LoopState) : (l.onLp n f).now = l.now := rfl
@[simp] theorem Lane.onLp_ltime (n : Axis) (f : LoopState → LoopState) : (l.onLp n f).ltime = l.ltime := rfl
@[simp] theorem Lane.onLp_fresh (n : Axis) (f : LoopState → LoopState) : (l.onLp n f).fresh = l.fresh := rfl
@[simp] theorem Lane.onLp_emit (n : Axis) (f : LoopState → LoopState) : (l.onLp n f).emit = l.emit := rfl
@[simp] theorem Lane.onLp_log (n : Axis) (f : LoopState → LoopState) : (l.onLp n f).log = l.log := rfl
@[simp] theorem Lane.onLp_logNext (n : Axis) (f : LoopState → LoopState) : (l.onLp n f).logNext = l.logNext := rfl
@[simp] theorem Lane.onLp_axes (n : Axis) (f : LoopState → LoopState) : (l.onLp n f).axes = l.axes := rfl
@[simp] theorem Lane.onLp_power (n : Axis) (f : LoopState → LoopState) : (l.onLp n f).power = l.power := rfl
@[simp] theorem Lane.onLp_link (n : Axis) (f : LoopState → LoopState) : (l.onLp n f).link = l.link := rfl
@[simp] theorem Lane.onLp_loops (n : Axis) (f : LoopState → LoopState) : (l.onLp n f).loops = l.loops.set n (f l.loops[n]) := rfl
@[simp] theorem Lane.onLp_wing (n : Axis) (f : LoopState → LoopState) : (l.onLp n f).wing = l.wing := rfl
@[simp] theorem Lane.onLp_seats (n : Axis) (f : LoopState → LoopState) : (l.onLp n f).seats = l.seats := rfl
@[simp] theorem Lane.onLp_call (n : Axis) (f : LoopState → LoopState) : (l.onLp n f).call = l.call := rfl
@[simp] theorem Lane.onLp_safety (n : Axis) (f : LoopState → LoopState) : (l.onLp n f).safety = l.safety := rfl
@[simp] theorem Lane.onLp_mode_ (n : Axis) (f : LoopState → LoopState) : (l.onLp n f).mode_ = l.mode_ := rfl
@[simp] theorem Lane.onLp_trust (n : Axis) (f : LoopState → LoopState) : (l.onLp n f).trust = l.trust := rfl
@[simp] theorem Lane.onLp_reh (n : Axis) (f : LoopState → LoopState) : (l.onLp n f).reh = l.reh := rfl
@[simp] theorem Lane.onLp_trio (n : Axis) (f : LoopState → LoopState) : (l.onLp n f).trio = l.trio := rfl
@[simp] theorem Lane.onLp_box (n : Axis) (f : LoopState → LoopState) : (l.onLp n f).box = l.box := rfl
@[simp] theorem Lane.onLp_ring (n : Axis) (f : LoopState → LoopState) : (l.onLp n f).ring = l.ring := rfl
@[simp] theorem Lane.onLp_tm (n : Axis) (f : LoopState → LoopState) : (l.onLp n f).tm = l.tm := rfl
@[simp] theorem Lane.onLp_can (n : Axis) (f : LoopState → LoopState) : (l.onLp n f).can = l.can := rfl
@[simp] theorem Lane.onLp_dict (n : Axis) (f : LoopState → LoopState) : (l.onLp n f).dict = l.dict := rfl
@[simp] theorem Lane.onLp_stage (n : Axis) (f : LoopState → LoopState) : (l.onLp n f).stage = l.stage := rfl
@[simp] theorem Lane.onLp_word (n : Axis) (f : LoopState → LoopState) (a : Nat) : (l.onLp n f).word a = l.word a := rfl
@[simp] theorem Lane.onLp_get (n : Axis) (f : LoopState → LoopState) (g : Fld) : (l.onLp n f).get g = l.get g := rfl
@[simp] theorem Lane.onLp_flag (n : Axis) (f : LoopState → LoopState) (g : Fld) : (l.onLp n f).flag g = l.flag g := rfl
@[simp] theorem Lane.onLp_getInt (n : Axis) (f : LoopState → LoopState) (g : Fld) : (l.onLp n f).getInt g = l.getInt g := rfl
@[simp] theorem Lane.onLp_bit (n : Axis) (f : LoopState → LoopState) (g : Fld) (i : Nat) : (l.onLp n f).bit g i = l.bit g i := rfl
@[simp] theorem Lane.onLp_lstate (n : Axis) (f : LoopState → LoopState) : (l.onLp n f).lstate = l.lstate := rfl
@[simp] theorem Lane.onLp_mode (n : Axis) (f : LoopState → LoopState) : (l.onLp n f).mode = l.mode := rfl

@[simp] theorem Lane.onWing_id (f : WingState → WingState) : (l.onWing f).id = l.id := rfl
@[simp] theorem Lane.onWing_regs (f : WingState → WingState) : (l.onWing f).regs = l.regs := rfl
@[simp] theorem Lane.onWing_sets (f : WingState → WingState) : (l.onWing f).sets = l.sets := rfl
@[simp] theorem Lane.onWing_now (f : WingState → WingState) : (l.onWing f).now = l.now := rfl
@[simp] theorem Lane.onWing_ltime (f : WingState → WingState) : (l.onWing f).ltime = l.ltime := rfl
@[simp] theorem Lane.onWing_fresh (f : WingState → WingState) : (l.onWing f).fresh = l.fresh := rfl
@[simp] theorem Lane.onWing_emit (f : WingState → WingState) : (l.onWing f).emit = l.emit := rfl
@[simp] theorem Lane.onWing_log (f : WingState → WingState) : (l.onWing f).log = l.log := rfl
@[simp] theorem Lane.onWing_logNext (f : WingState → WingState) : (l.onWing f).logNext = l.logNext := rfl
@[simp] theorem Lane.onWing_axes (f : WingState → WingState) : (l.onWing f).axes = l.axes := rfl
@[simp] theorem Lane.onWing_power (f : WingState → WingState) : (l.onWing f).power = l.power := rfl
@[simp] theorem Lane.onWing_link (f : WingState → WingState) : (l.onWing f).link = l.link := rfl
@[simp] theorem Lane.onWing_loops (f : WingState → WingState) : (l.onWing f).loops = l.loops := rfl
@[simp] theorem Lane.onWing_wing (f : WingState → WingState) : (l.onWing f).wing = f l.wing := rfl
@[simp] theorem Lane.onWing_seats (f : WingState → WingState) : (l.onWing f).seats = l.seats := rfl
@[simp] theorem Lane.onWing_call (f : WingState → WingState) : (l.onWing f).call = l.call := rfl
@[simp] theorem Lane.onWing_safety (f : WingState → WingState) : (l.onWing f).safety = l.safety := rfl
@[simp] theorem Lane.onWing_mode_ (f : WingState → WingState) : (l.onWing f).mode_ = l.mode_ := rfl
@[simp] theorem Lane.onWing_trust (f : WingState → WingState) : (l.onWing f).trust = l.trust := rfl
@[simp] theorem Lane.onWing_reh (f : WingState → WingState) : (l.onWing f).reh = l.reh := rfl
@[simp] theorem Lane.onWing_trio (f : WingState → WingState) : (l.onWing f).trio = l.trio := rfl
@[simp] theorem Lane.onWing_box (f : WingState → WingState) : (l.onWing f).box = l.box := rfl
@[simp] theorem Lane.onWing_ring (f : WingState → WingState) : (l.onWing f).ring = l.ring := rfl
@[simp] theorem Lane.onWing_tm (f : WingState → WingState) : (l.onWing f).tm = l.tm := rfl
@[simp] theorem Lane.onWing_can (f : WingState → WingState) : (l.onWing f).can = l.can := rfl
@[simp] theorem Lane.onWing_dict (f : WingState → WingState) : (l.onWing f).dict = l.dict := rfl
@[simp] theorem Lane.onWing_stage (f : WingState → WingState) : (l.onWing f).stage = l.stage := rfl
@[simp] theorem Lane.onWing_word (f : WingState → WingState) (a : Nat) : (l.onWing f).word a = l.word a := rfl
@[simp] theorem Lane.onWing_get (f : WingState → WingState) (g : Fld) : (l.onWing f).get g = l.get g := rfl
@[simp] theorem Lane.onWing_flag (f : WingState → WingState) (g : Fld) : (l.onWing f).flag g = l.flag g := rfl
@[simp] theorem Lane.onWing_getInt (f : WingState → WingState) (g : Fld) : (l.onWing f).getInt g = l.getInt g := rfl
@[simp] theorem Lane.onWing_bit (f : WingState → WingState) (g : Fld) (i : Nat) : (l.onWing f).bit g i = l.bit g i := rfl
@[simp] theorem Lane.onWing_lstate (f : WingState → WingState) : (l.onWing f).lstate = l.lstate := rfl
@[simp] theorem Lane.onWing_mode (f : WingState → WingState) : (l.onWing f).mode = l.mode := rfl

@[simp] theorem Lane.onSeats_id (f : SeatState → SeatState) : (l.onSeats f).id = l.id := rfl
@[simp] theorem Lane.onSeats_regs (f : SeatState → SeatState) : (l.onSeats f).regs = l.regs := rfl
@[simp] theorem Lane.onSeats_sets (f : SeatState → SeatState) : (l.onSeats f).sets = l.sets := rfl
@[simp] theorem Lane.onSeats_now (f : SeatState → SeatState) : (l.onSeats f).now = l.now := rfl
@[simp] theorem Lane.onSeats_ltime (f : SeatState → SeatState) : (l.onSeats f).ltime = l.ltime := rfl
@[simp] theorem Lane.onSeats_fresh (f : SeatState → SeatState) : (l.onSeats f).fresh = l.fresh := rfl
@[simp] theorem Lane.onSeats_emit (f : SeatState → SeatState) : (l.onSeats f).emit = l.emit := rfl
@[simp] theorem Lane.onSeats_log (f : SeatState → SeatState) : (l.onSeats f).log = l.log := rfl
@[simp] theorem Lane.onSeats_logNext (f : SeatState → SeatState) : (l.onSeats f).logNext = l.logNext := rfl
@[simp] theorem Lane.onSeats_axes (f : SeatState → SeatState) : (l.onSeats f).axes = l.axes := rfl
@[simp] theorem Lane.onSeats_power (f : SeatState → SeatState) : (l.onSeats f).power = l.power := rfl
@[simp] theorem Lane.onSeats_link (f : SeatState → SeatState) : (l.onSeats f).link = l.link := rfl
@[simp] theorem Lane.onSeats_loops (f : SeatState → SeatState) : (l.onSeats f).loops = l.loops := rfl
@[simp] theorem Lane.onSeats_wing (f : SeatState → SeatState) : (l.onSeats f).wing = l.wing := rfl
@[simp] theorem Lane.onSeats_seats (f : SeatState → SeatState) : (l.onSeats f).seats = f l.seats := rfl
@[simp] theorem Lane.onSeats_call (f : SeatState → SeatState) : (l.onSeats f).call = l.call := rfl
@[simp] theorem Lane.onSeats_safety (f : SeatState → SeatState) : (l.onSeats f).safety = l.safety := rfl
@[simp] theorem Lane.onSeats_mode_ (f : SeatState → SeatState) : (l.onSeats f).mode_ = l.mode_ := rfl
@[simp] theorem Lane.onSeats_trust (f : SeatState → SeatState) : (l.onSeats f).trust = l.trust := rfl
@[simp] theorem Lane.onSeats_reh (f : SeatState → SeatState) : (l.onSeats f).reh = l.reh := rfl
@[simp] theorem Lane.onSeats_trio (f : SeatState → SeatState) : (l.onSeats f).trio = l.trio := rfl
@[simp] theorem Lane.onSeats_box (f : SeatState → SeatState) : (l.onSeats f).box = l.box := rfl
@[simp] theorem Lane.onSeats_ring (f : SeatState → SeatState) : (l.onSeats f).ring = l.ring := rfl
@[simp] theorem Lane.onSeats_tm (f : SeatState → SeatState) : (l.onSeats f).tm = l.tm := rfl
@[simp] theorem Lane.onSeats_can (f : SeatState → SeatState) : (l.onSeats f).can = l.can := rfl
@[simp] theorem Lane.onSeats_dict (f : SeatState → SeatState) : (l.onSeats f).dict = l.dict := rfl
@[simp] theorem Lane.onSeats_stage (f : SeatState → SeatState) : (l.onSeats f).stage = l.stage := rfl
@[simp] theorem Lane.onSeats_word (f : SeatState → SeatState) (a : Nat) : (l.onSeats f).word a = l.word a := rfl
@[simp] theorem Lane.onSeats_get (f : SeatState → SeatState) (g : Fld) : (l.onSeats f).get g = l.get g := rfl
@[simp] theorem Lane.onSeats_flag (f : SeatState → SeatState) (g : Fld) : (l.onSeats f).flag g = l.flag g := rfl
@[simp] theorem Lane.onSeats_getInt (f : SeatState → SeatState) (g : Fld) : (l.onSeats f).getInt g = l.getInt g := rfl
@[simp] theorem Lane.onSeats_bit (f : SeatState → SeatState) (g : Fld) (i : Nat) : (l.onSeats f).bit g i = l.bit g i := rfl
@[simp] theorem Lane.onSeats_lstate (f : SeatState → SeatState) : (l.onSeats f).lstate = l.lstate := rfl
@[simp] theorem Lane.onSeats_mode (f : SeatState → SeatState) : (l.onSeats f).mode = l.mode := rfl

@[simp] theorem Lane.onSafety_id (f : SafetyState → SafetyState) : (l.onSafety f).id = l.id := rfl
@[simp] theorem Lane.onSafety_regs (f : SafetyState → SafetyState) : (l.onSafety f).regs = l.regs := rfl
@[simp] theorem Lane.onSafety_sets (f : SafetyState → SafetyState) : (l.onSafety f).sets = l.sets := rfl
@[simp] theorem Lane.onSafety_now (f : SafetyState → SafetyState) : (l.onSafety f).now = l.now := rfl
@[simp] theorem Lane.onSafety_ltime (f : SafetyState → SafetyState) : (l.onSafety f).ltime = l.ltime := rfl
@[simp] theorem Lane.onSafety_fresh (f : SafetyState → SafetyState) : (l.onSafety f).fresh = l.fresh := rfl
@[simp] theorem Lane.onSafety_emit (f : SafetyState → SafetyState) : (l.onSafety f).emit = l.emit := rfl
@[simp] theorem Lane.onSafety_log (f : SafetyState → SafetyState) : (l.onSafety f).log = l.log := rfl
@[simp] theorem Lane.onSafety_logNext (f : SafetyState → SafetyState) : (l.onSafety f).logNext = l.logNext := rfl
@[simp] theorem Lane.onSafety_axes (f : SafetyState → SafetyState) : (l.onSafety f).axes = l.axes := rfl
@[simp] theorem Lane.onSafety_power (f : SafetyState → SafetyState) : (l.onSafety f).power = l.power := rfl
@[simp] theorem Lane.onSafety_link (f : SafetyState → SafetyState) : (l.onSafety f).link = l.link := rfl
@[simp] theorem Lane.onSafety_loops (f : SafetyState → SafetyState) : (l.onSafety f).loops = l.loops := rfl
@[simp] theorem Lane.onSafety_wing (f : SafetyState → SafetyState) : (l.onSafety f).wing = l.wing := rfl
@[simp] theorem Lane.onSafety_seats (f : SafetyState → SafetyState) : (l.onSafety f).seats = l.seats := rfl
@[simp] theorem Lane.onSafety_call (f : SafetyState → SafetyState) : (l.onSafety f).call = l.call := rfl
@[simp] theorem Lane.onSafety_safety (f : SafetyState → SafetyState) : (l.onSafety f).safety = f l.safety := rfl
@[simp] theorem Lane.onSafety_mode_ (f : SafetyState → SafetyState) : (l.onSafety f).mode_ = l.mode_ := rfl
@[simp] theorem Lane.onSafety_trust (f : SafetyState → SafetyState) : (l.onSafety f).trust = l.trust := rfl
@[simp] theorem Lane.onSafety_reh (f : SafetyState → SafetyState) : (l.onSafety f).reh = l.reh := rfl
@[simp] theorem Lane.onSafety_trio (f : SafetyState → SafetyState) : (l.onSafety f).trio = l.trio := rfl
@[simp] theorem Lane.onSafety_box (f : SafetyState → SafetyState) : (l.onSafety f).box = l.box := rfl
@[simp] theorem Lane.onSafety_ring (f : SafetyState → SafetyState) : (l.onSafety f).ring = l.ring := rfl
@[simp] theorem Lane.onSafety_tm (f : SafetyState → SafetyState) : (l.onSafety f).tm = l.tm := rfl
@[simp] theorem Lane.onSafety_can (f : SafetyState → SafetyState) : (l.onSafety f).can = l.can := rfl
@[simp] theorem Lane.onSafety_dict (f : SafetyState → SafetyState) : (l.onSafety f).dict = l.dict := rfl
@[simp] theorem Lane.onSafety_stage (f : SafetyState → SafetyState) : (l.onSafety f).stage = l.stage := rfl
@[simp] theorem Lane.onSafety_word (f : SafetyState → SafetyState) (a : Nat) : (l.onSafety f).word a = l.word a := rfl
@[simp] theorem Lane.onSafety_get (f : SafetyState → SafetyState) (g : Fld) : (l.onSafety f).get g = l.get g := rfl
@[simp] theorem Lane.onSafety_flag (f : SafetyState → SafetyState) (g : Fld) : (l.onSafety f).flag g = l.flag g := rfl
@[simp] theorem Lane.onSafety_getInt (f : SafetyState → SafetyState) (g : Fld) : (l.onSafety f).getInt g = l.getInt g := rfl
@[simp] theorem Lane.onSafety_bit (f : SafetyState → SafetyState) (g : Fld) (i : Nat) : (l.onSafety f).bit g i = l.bit g i := rfl
@[simp] theorem Lane.onSafety_lstate (f : SafetyState → SafetyState) : (l.onSafety f).lstate = l.lstate := rfl
@[simp] theorem Lane.onSafety_mode (f : SafetyState → SafetyState) : (l.onSafety f).mode = l.mode := rfl

@[simp] theorem Lane.onMode_id (f : ModeState → ModeState) : (l.onMode f).id = l.id := rfl
@[simp] theorem Lane.onMode_regs (f : ModeState → ModeState) : (l.onMode f).regs = l.regs := rfl
@[simp] theorem Lane.onMode_sets (f : ModeState → ModeState) : (l.onMode f).sets = l.sets := rfl
@[simp] theorem Lane.onMode_now (f : ModeState → ModeState) : (l.onMode f).now = l.now := rfl
@[simp] theorem Lane.onMode_ltime (f : ModeState → ModeState) : (l.onMode f).ltime = l.ltime := rfl
@[simp] theorem Lane.onMode_fresh (f : ModeState → ModeState) : (l.onMode f).fresh = l.fresh := rfl
@[simp] theorem Lane.onMode_emit (f : ModeState → ModeState) : (l.onMode f).emit = l.emit := rfl
@[simp] theorem Lane.onMode_log (f : ModeState → ModeState) : (l.onMode f).log = l.log := rfl
@[simp] theorem Lane.onMode_logNext (f : ModeState → ModeState) : (l.onMode f).logNext = l.logNext := rfl
@[simp] theorem Lane.onMode_axes (f : ModeState → ModeState) : (l.onMode f).axes = l.axes := rfl
@[simp] theorem Lane.onMode_power (f : ModeState → ModeState) : (l.onMode f).power = l.power := rfl
@[simp] theorem Lane.onMode_link (f : ModeState → ModeState) : (l.onMode f).link = l.link := rfl
@[simp] theorem Lane.onMode_loops (f : ModeState → ModeState) : (l.onMode f).loops = l.loops := rfl
@[simp] theorem Lane.onMode_wing (f : ModeState → ModeState) : (l.onMode f).wing = l.wing := rfl
@[simp] theorem Lane.onMode_seats (f : ModeState → ModeState) : (l.onMode f).seats = l.seats := rfl
@[simp] theorem Lane.onMode_call (f : ModeState → ModeState) : (l.onMode f).call = l.call := rfl
@[simp] theorem Lane.onMode_safety (f : ModeState → ModeState) : (l.onMode f).safety = l.safety := rfl
@[simp] theorem Lane.onMode_mode_ (f : ModeState → ModeState) : (l.onMode f).mode_ = f l.mode_ := rfl
@[simp] theorem Lane.onMode_trust (f : ModeState → ModeState) : (l.onMode f).trust = l.trust := rfl
@[simp] theorem Lane.onMode_reh (f : ModeState → ModeState) : (l.onMode f).reh = l.reh := rfl
@[simp] theorem Lane.onMode_trio (f : ModeState → ModeState) : (l.onMode f).trio = l.trio := rfl
@[simp] theorem Lane.onMode_box (f : ModeState → ModeState) : (l.onMode f).box = l.box := rfl
@[simp] theorem Lane.onMode_ring (f : ModeState → ModeState) : (l.onMode f).ring = l.ring := rfl
@[simp] theorem Lane.onMode_tm (f : ModeState → ModeState) : (l.onMode f).tm = l.tm := rfl
@[simp] theorem Lane.onMode_can (f : ModeState → ModeState) : (l.onMode f).can = l.can := rfl
@[simp] theorem Lane.onMode_dict (f : ModeState → ModeState) : (l.onMode f).dict = l.dict := rfl
@[simp] theorem Lane.onMode_stage (f : ModeState → ModeState) : (l.onMode f).stage = l.stage := rfl
@[simp] theorem Lane.onMode_word (f : ModeState → ModeState) (a : Nat) : (l.onMode f).word a = l.word a := rfl
@[simp] theorem Lane.onMode_get (f : ModeState → ModeState) (g : Fld) : (l.onMode f).get g = l.get g := rfl
@[simp] theorem Lane.onMode_flag (f : ModeState → ModeState) (g : Fld) : (l.onMode f).flag g = l.flag g := rfl
@[simp] theorem Lane.onMode_getInt (f : ModeState → ModeState) (g : Fld) : (l.onMode f).getInt g = l.getInt g := rfl
@[simp] theorem Lane.onMode_bit (f : ModeState → ModeState) (g : Fld) (i : Nat) : (l.onMode f).bit g i = l.bit g i := rfl
@[simp] theorem Lane.onMode_lstate (f : ModeState → ModeState) : (l.onMode f).lstate = l.lstate := rfl
@[simp] theorem Lane.onMode_mode (f : ModeState → ModeState) : (l.onMode f).mode = l.mode := rfl

@[simp] theorem Lane.onTrust_id (f : TrustState → TrustState) : (l.onTrust f).id = l.id := rfl
@[simp] theorem Lane.onTrust_regs (f : TrustState → TrustState) : (l.onTrust f).regs = l.regs := rfl
@[simp] theorem Lane.onTrust_sets (f : TrustState → TrustState) : (l.onTrust f).sets = l.sets := rfl
@[simp] theorem Lane.onTrust_now (f : TrustState → TrustState) : (l.onTrust f).now = l.now := rfl
@[simp] theorem Lane.onTrust_ltime (f : TrustState → TrustState) : (l.onTrust f).ltime = l.ltime := rfl
@[simp] theorem Lane.onTrust_fresh (f : TrustState → TrustState) : (l.onTrust f).fresh = l.fresh := rfl
@[simp] theorem Lane.onTrust_emit (f : TrustState → TrustState) : (l.onTrust f).emit = l.emit := rfl
@[simp] theorem Lane.onTrust_log (f : TrustState → TrustState) : (l.onTrust f).log = l.log := rfl
@[simp] theorem Lane.onTrust_logNext (f : TrustState → TrustState) : (l.onTrust f).logNext = l.logNext := rfl
@[simp] theorem Lane.onTrust_axes (f : TrustState → TrustState) : (l.onTrust f).axes = l.axes := rfl
@[simp] theorem Lane.onTrust_power (f : TrustState → TrustState) : (l.onTrust f).power = l.power := rfl
@[simp] theorem Lane.onTrust_link (f : TrustState → TrustState) : (l.onTrust f).link = l.link := rfl
@[simp] theorem Lane.onTrust_loops (f : TrustState → TrustState) : (l.onTrust f).loops = l.loops := rfl
@[simp] theorem Lane.onTrust_wing (f : TrustState → TrustState) : (l.onTrust f).wing = l.wing := rfl
@[simp] theorem Lane.onTrust_seats (f : TrustState → TrustState) : (l.onTrust f).seats = l.seats := rfl
@[simp] theorem Lane.onTrust_call (f : TrustState → TrustState) : (l.onTrust f).call = l.call := rfl
@[simp] theorem Lane.onTrust_safety (f : TrustState → TrustState) : (l.onTrust f).safety = l.safety := rfl
@[simp] theorem Lane.onTrust_mode_ (f : TrustState → TrustState) : (l.onTrust f).mode_ = l.mode_ := rfl
@[simp] theorem Lane.onTrust_trust (f : TrustState → TrustState) : (l.onTrust f).trust = f l.trust := rfl
@[simp] theorem Lane.onTrust_reh (f : TrustState → TrustState) : (l.onTrust f).reh = l.reh := rfl
@[simp] theorem Lane.onTrust_trio (f : TrustState → TrustState) : (l.onTrust f).trio = l.trio := rfl
@[simp] theorem Lane.onTrust_box (f : TrustState → TrustState) : (l.onTrust f).box = l.box := rfl
@[simp] theorem Lane.onTrust_ring (f : TrustState → TrustState) : (l.onTrust f).ring = l.ring := rfl
@[simp] theorem Lane.onTrust_tm (f : TrustState → TrustState) : (l.onTrust f).tm = l.tm := rfl
@[simp] theorem Lane.onTrust_can (f : TrustState → TrustState) : (l.onTrust f).can = l.can := rfl
@[simp] theorem Lane.onTrust_dict (f : TrustState → TrustState) : (l.onTrust f).dict = l.dict := rfl
@[simp] theorem Lane.onTrust_stage (f : TrustState → TrustState) : (l.onTrust f).stage = l.stage := rfl
@[simp] theorem Lane.onTrust_word (f : TrustState → TrustState) (a : Nat) : (l.onTrust f).word a = l.word a := rfl
@[simp] theorem Lane.onTrust_get (f : TrustState → TrustState) (g : Fld) : (l.onTrust f).get g = l.get g := rfl
@[simp] theorem Lane.onTrust_flag (f : TrustState → TrustState) (g : Fld) : (l.onTrust f).flag g = l.flag g := rfl
@[simp] theorem Lane.onTrust_getInt (f : TrustState → TrustState) (g : Fld) : (l.onTrust f).getInt g = l.getInt g := rfl
@[simp] theorem Lane.onTrust_bit (f : TrustState → TrustState) (g : Fld) (i : Nat) : (l.onTrust f).bit g i = l.bit g i := rfl
@[simp] theorem Lane.onTrust_lstate (f : TrustState → TrustState) : (l.onTrust f).lstate = l.lstate := rfl
@[simp] theorem Lane.onTrust_mode (f : TrustState → TrustState) : (l.onTrust f).mode = l.mode := rfl

@[simp] theorem Lane.onCall_id (f : CallState → CallState) : (l.onCall f).id = l.id := rfl
@[simp] theorem Lane.onCall_regs (f : CallState → CallState) : (l.onCall f).regs = l.regs := rfl
@[simp] theorem Lane.onCall_sets (f : CallState → CallState) : (l.onCall f).sets = l.sets := rfl
@[simp] theorem Lane.onCall_now (f : CallState → CallState) : (l.onCall f).now = l.now := rfl
@[simp] theorem Lane.onCall_ltime (f : CallState → CallState) : (l.onCall f).ltime = l.ltime := rfl
@[simp] theorem Lane.onCall_fresh (f : CallState → CallState) : (l.onCall f).fresh = l.fresh := rfl
@[simp] theorem Lane.onCall_emit (f : CallState → CallState) : (l.onCall f).emit = l.emit := rfl
@[simp] theorem Lane.onCall_log (f : CallState → CallState) : (l.onCall f).log = l.log := rfl
@[simp] theorem Lane.onCall_logNext (f : CallState → CallState) : (l.onCall f).logNext = l.logNext := rfl
@[simp] theorem Lane.onCall_axes (f : CallState → CallState) : (l.onCall f).axes = l.axes := rfl
@[simp] theorem Lane.onCall_power (f : CallState → CallState) : (l.onCall f).power = l.power := rfl
@[simp] theorem Lane.onCall_link (f : CallState → CallState) : (l.onCall f).link = l.link := rfl
@[simp] theorem Lane.onCall_loops (f : CallState → CallState) : (l.onCall f).loops = l.loops := rfl
@[simp] theorem Lane.onCall_wing (f : CallState → CallState) : (l.onCall f).wing = l.wing := rfl
@[simp] theorem Lane.onCall_seats (f : CallState → CallState) : (l.onCall f).seats = l.seats := rfl
@[simp] theorem Lane.onCall_call (f : CallState → CallState) : (l.onCall f).call = f l.call := rfl
@[simp] theorem Lane.onCall_safety (f : CallState → CallState) : (l.onCall f).safety = l.safety := rfl
@[simp] theorem Lane.onCall_mode_ (f : CallState → CallState) : (l.onCall f).mode_ = l.mode_ := rfl
@[simp] theorem Lane.onCall_trust (f : CallState → CallState) : (l.onCall f).trust = l.trust := rfl
@[simp] theorem Lane.onCall_reh (f : CallState → CallState) : (l.onCall f).reh = l.reh := rfl
@[simp] theorem Lane.onCall_trio (f : CallState → CallState) : (l.onCall f).trio = l.trio := rfl
@[simp] theorem Lane.onCall_box (f : CallState → CallState) : (l.onCall f).box = l.box := rfl
@[simp] theorem Lane.onCall_ring (f : CallState → CallState) : (l.onCall f).ring = l.ring := rfl
@[simp] theorem Lane.onCall_tm (f : CallState → CallState) : (l.onCall f).tm = l.tm := rfl
@[simp] theorem Lane.onCall_can (f : CallState → CallState) : (l.onCall f).can = l.can := rfl
@[simp] theorem Lane.onCall_dict (f : CallState → CallState) : (l.onCall f).dict = l.dict := rfl
@[simp] theorem Lane.onCall_stage (f : CallState → CallState) : (l.onCall f).stage = l.stage := rfl
@[simp] theorem Lane.onCall_word (f : CallState → CallState) (a : Nat) : (l.onCall f).word a = l.word a := rfl
@[simp] theorem Lane.onCall_get (f : CallState → CallState) (g : Fld) : (l.onCall f).get g = l.get g := rfl
@[simp] theorem Lane.onCall_flag (f : CallState → CallState) (g : Fld) : (l.onCall f).flag g = l.flag g := rfl
@[simp] theorem Lane.onCall_getInt (f : CallState → CallState) (g : Fld) : (l.onCall f).getInt g = l.getInt g := rfl
@[simp] theorem Lane.onCall_bit (f : CallState → CallState) (g : Fld) (i : Nat) : (l.onCall f).bit g i = l.bit g i := rfl
@[simp] theorem Lane.onCall_lstate (f : CallState → CallState) : (l.onCall f).lstate = l.lstate := rfl
@[simp] theorem Lane.onCall_mode (f : CallState → CallState) : (l.onCall f).mode = l.mode := rfl

@[simp] theorem Lane.onTrio_id (f : TrioState → TrioState) : (l.onTrio f).id = l.id := rfl
@[simp] theorem Lane.onTrio_regs (f : TrioState → TrioState) : (l.onTrio f).regs = l.regs := rfl
@[simp] theorem Lane.onTrio_sets (f : TrioState → TrioState) : (l.onTrio f).sets = l.sets := rfl
@[simp] theorem Lane.onTrio_now (f : TrioState → TrioState) : (l.onTrio f).now = l.now := rfl
@[simp] theorem Lane.onTrio_ltime (f : TrioState → TrioState) : (l.onTrio f).ltime = l.ltime := rfl
@[simp] theorem Lane.onTrio_fresh (f : TrioState → TrioState) : (l.onTrio f).fresh = l.fresh := rfl
@[simp] theorem Lane.onTrio_emit (f : TrioState → TrioState) : (l.onTrio f).emit = l.emit := rfl
@[simp] theorem Lane.onTrio_log (f : TrioState → TrioState) : (l.onTrio f).log = l.log := rfl
@[simp] theorem Lane.onTrio_logNext (f : TrioState → TrioState) : (l.onTrio f).logNext = l.logNext := rfl
@[simp] theorem Lane.onTrio_axes (f : TrioState → TrioState) : (l.onTrio f).axes = l.axes := rfl
@[simp] theorem Lane.onTrio_power (f : TrioState → TrioState) : (l.onTrio f).power = l.power := rfl
@[simp] theorem Lane.onTrio_link (f : TrioState → TrioState) : (l.onTrio f).link = l.link := rfl
@[simp] theorem Lane.onTrio_loops (f : TrioState → TrioState) : (l.onTrio f).loops = l.loops := rfl
@[simp] theorem Lane.onTrio_wing (f : TrioState → TrioState) : (l.onTrio f).wing = l.wing := rfl
@[simp] theorem Lane.onTrio_seats (f : TrioState → TrioState) : (l.onTrio f).seats = l.seats := rfl
@[simp] theorem Lane.onTrio_call (f : TrioState → TrioState) : (l.onTrio f).call = l.call := rfl
@[simp] theorem Lane.onTrio_safety (f : TrioState → TrioState) : (l.onTrio f).safety = l.safety := rfl
@[simp] theorem Lane.onTrio_mode_ (f : TrioState → TrioState) : (l.onTrio f).mode_ = l.mode_ := rfl
@[simp] theorem Lane.onTrio_trust (f : TrioState → TrioState) : (l.onTrio f).trust = l.trust := rfl
@[simp] theorem Lane.onTrio_reh (f : TrioState → TrioState) : (l.onTrio f).reh = l.reh := rfl
@[simp] theorem Lane.onTrio_trio (f : TrioState → TrioState) : (l.onTrio f).trio = f l.trio := rfl
@[simp] theorem Lane.onTrio_box (f : TrioState → TrioState) : (l.onTrio f).box = l.box := rfl
@[simp] theorem Lane.onTrio_ring (f : TrioState → TrioState) : (l.onTrio f).ring = l.ring := rfl
@[simp] theorem Lane.onTrio_tm (f : TrioState → TrioState) : (l.onTrio f).tm = l.tm := rfl
@[simp] theorem Lane.onTrio_can (f : TrioState → TrioState) : (l.onTrio f).can = l.can := rfl
@[simp] theorem Lane.onTrio_dict (f : TrioState → TrioState) : (l.onTrio f).dict = l.dict := rfl
@[simp] theorem Lane.onTrio_stage (f : TrioState → TrioState) : (l.onTrio f).stage = l.stage := rfl
@[simp] theorem Lane.onTrio_word (f : TrioState → TrioState) (a : Nat) : (l.onTrio f).word a = l.word a := rfl
@[simp] theorem Lane.onTrio_get (f : TrioState → TrioState) (g : Fld) : (l.onTrio f).get g = l.get g := rfl
@[simp] theorem Lane.onTrio_flag (f : TrioState → TrioState) (g : Fld) : (l.onTrio f).flag g = l.flag g := rfl
@[simp] theorem Lane.onTrio_getInt (f : TrioState → TrioState) (g : Fld) : (l.onTrio f).getInt g = l.getInt g := rfl
@[simp] theorem Lane.onTrio_bit (f : TrioState → TrioState) (g : Fld) (i : Nat) : (l.onTrio f).bit g i = l.bit g i := rfl
@[simp] theorem Lane.onTrio_lstate (f : TrioState → TrioState) : (l.onTrio f).lstate = l.lstate := rfl
@[simp] theorem Lane.onTrio_mode (f : TrioState → TrioState) : (l.onTrio f).mode = l.mode := rfl

@[simp] theorem Lane.onReh_id (f : RehState → RehState) : (l.onReh f).id = l.id := rfl
@[simp] theorem Lane.onReh_regs (f : RehState → RehState) : (l.onReh f).regs = l.regs := rfl
@[simp] theorem Lane.onReh_sets (f : RehState → RehState) : (l.onReh f).sets = l.sets := rfl
@[simp] theorem Lane.onReh_now (f : RehState → RehState) : (l.onReh f).now = l.now := rfl
@[simp] theorem Lane.onReh_ltime (f : RehState → RehState) : (l.onReh f).ltime = l.ltime := rfl
@[simp] theorem Lane.onReh_fresh (f : RehState → RehState) : (l.onReh f).fresh = l.fresh := rfl
@[simp] theorem Lane.onReh_emit (f : RehState → RehState) : (l.onReh f).emit = l.emit := rfl
@[simp] theorem Lane.onReh_log (f : RehState → RehState) : (l.onReh f).log = l.log := rfl
@[simp] theorem Lane.onReh_logNext (f : RehState → RehState) : (l.onReh f).logNext = l.logNext := rfl
@[simp] theorem Lane.onReh_axes (f : RehState → RehState) : (l.onReh f).axes = l.axes := rfl
@[simp] theorem Lane.onReh_power (f : RehState → RehState) : (l.onReh f).power = l.power := rfl
@[simp] theorem Lane.onReh_link (f : RehState → RehState) : (l.onReh f).link = l.link := rfl
@[simp] theorem Lane.onReh_loops (f : RehState → RehState) : (l.onReh f).loops = l.loops := rfl
@[simp] theorem Lane.onReh_wing (f : RehState → RehState) : (l.onReh f).wing = l.wing := rfl
@[simp] theorem Lane.onReh_seats (f : RehState → RehState) : (l.onReh f).seats = l.seats := rfl
@[simp] theorem Lane.onReh_call (f : RehState → RehState) : (l.onReh f).call = l.call := rfl
@[simp] theorem Lane.onReh_safety (f : RehState → RehState) : (l.onReh f).safety = l.safety := rfl
@[simp] theorem Lane.onReh_mode_ (f : RehState → RehState) : (l.onReh f).mode_ = l.mode_ := rfl
@[simp] theorem Lane.onReh_trust (f : RehState → RehState) : (l.onReh f).trust = l.trust := rfl
@[simp] theorem Lane.onReh_reh (f : RehState → RehState) : (l.onReh f).reh = f l.reh := rfl
@[simp] theorem Lane.onReh_trio (f : RehState → RehState) : (l.onReh f).trio = l.trio := rfl
@[simp] theorem Lane.onReh_box (f : RehState → RehState) : (l.onReh f).box = l.box := rfl
@[simp] theorem Lane.onReh_ring (f : RehState → RehState) : (l.onReh f).ring = l.ring := rfl
@[simp] theorem Lane.onReh_tm (f : RehState → RehState) : (l.onReh f).tm = l.tm := rfl
@[simp] theorem Lane.onReh_can (f : RehState → RehState) : (l.onReh f).can = l.can := rfl
@[simp] theorem Lane.onReh_dict (f : RehState → RehState) : (l.onReh f).dict = l.dict := rfl
@[simp] theorem Lane.onReh_stage (f : RehState → RehState) : (l.onReh f).stage = l.stage := rfl
@[simp] theorem Lane.onReh_word (f : RehState → RehState) (a : Nat) : (l.onReh f).word a = l.word a := rfl
@[simp] theorem Lane.onReh_get (f : RehState → RehState) (g : Fld) : (l.onReh f).get g = l.get g := rfl
@[simp] theorem Lane.onReh_flag (f : RehState → RehState) (g : Fld) : (l.onReh f).flag g = l.flag g := rfl
@[simp] theorem Lane.onReh_getInt (f : RehState → RehState) (g : Fld) : (l.onReh f).getInt g = l.getInt g := rfl
@[simp] theorem Lane.onReh_bit (f : RehState → RehState) (g : Fld) (i : Nat) : (l.onReh f).bit g i = l.bit g i := rfl
@[simp] theorem Lane.onReh_lstate (f : RehState → RehState) : (l.onReh f).lstate = l.lstate := rfl
@[simp] theorem Lane.onReh_mode (f : RehState → RehState) : (l.onReh f).mode = l.mode := rfl

@[simp] theorem Lane.onBox_id (f : BoxState → BoxState) : (l.onBox f).id = l.id := rfl
@[simp] theorem Lane.onBox_regs (f : BoxState → BoxState) : (l.onBox f).regs = l.regs := rfl
@[simp] theorem Lane.onBox_sets (f : BoxState → BoxState) : (l.onBox f).sets = l.sets := rfl
@[simp] theorem Lane.onBox_now (f : BoxState → BoxState) : (l.onBox f).now = l.now := rfl
@[simp] theorem Lane.onBox_ltime (f : BoxState → BoxState) : (l.onBox f).ltime = l.ltime := rfl
@[simp] theorem Lane.onBox_fresh (f : BoxState → BoxState) : (l.onBox f).fresh = l.fresh := rfl
@[simp] theorem Lane.onBox_emit (f : BoxState → BoxState) : (l.onBox f).emit = l.emit := rfl
@[simp] theorem Lane.onBox_log (f : BoxState → BoxState) : (l.onBox f).log = l.log := rfl
@[simp] theorem Lane.onBox_logNext (f : BoxState → BoxState) : (l.onBox f).logNext = l.logNext := rfl
@[simp] theorem Lane.onBox_axes (f : BoxState → BoxState) : (l.onBox f).axes = l.axes := rfl
@[simp] theorem Lane.onBox_power (f : BoxState → BoxState) : (l.onBox f).power = l.power := rfl
@[simp] theorem Lane.onBox_link (f : BoxState → BoxState) : (l.onBox f).link = l.link := rfl
@[simp] theorem Lane.onBox_loops (f : BoxState → BoxState) : (l.onBox f).loops = l.loops := rfl
@[simp] theorem Lane.onBox_wing (f : BoxState → BoxState) : (l.onBox f).wing = l.wing := rfl
@[simp] theorem Lane.onBox_seats (f : BoxState → BoxState) : (l.onBox f).seats = l.seats := rfl
@[simp] theorem Lane.onBox_call (f : BoxState → BoxState) : (l.onBox f).call = l.call := rfl
@[simp] theorem Lane.onBox_safety (f : BoxState → BoxState) : (l.onBox f).safety = l.safety := rfl
@[simp] theorem Lane.onBox_mode_ (f : BoxState → BoxState) : (l.onBox f).mode_ = l.mode_ := rfl
@[simp] theorem Lane.onBox_trust (f : BoxState → BoxState) : (l.onBox f).trust = l.trust := rfl
@[simp] theorem Lane.onBox_reh (f : BoxState → BoxState) : (l.onBox f).reh = l.reh := rfl
@[simp] theorem Lane.onBox_trio (f : BoxState → BoxState) : (l.onBox f).trio = l.trio := rfl
@[simp] theorem Lane.onBox_box (f : BoxState → BoxState) : (l.onBox f).box = f l.box := rfl
@[simp] theorem Lane.onBox_ring (f : BoxState → BoxState) : (l.onBox f).ring = l.ring := rfl
@[simp] theorem Lane.onBox_tm (f : BoxState → BoxState) : (l.onBox f).tm = l.tm := rfl
@[simp] theorem Lane.onBox_can (f : BoxState → BoxState) : (l.onBox f).can = l.can := rfl
@[simp] theorem Lane.onBox_dict (f : BoxState → BoxState) : (l.onBox f).dict = l.dict := rfl
@[simp] theorem Lane.onBox_stage (f : BoxState → BoxState) : (l.onBox f).stage = l.stage := rfl
@[simp] theorem Lane.onBox_word (f : BoxState → BoxState) (a : Nat) : (l.onBox f).word a = l.word a := rfl
@[simp] theorem Lane.onBox_get (f : BoxState → BoxState) (g : Fld) : (l.onBox f).get g = l.get g := rfl
@[simp] theorem Lane.onBox_flag (f : BoxState → BoxState) (g : Fld) : (l.onBox f).flag g = l.flag g := rfl
@[simp] theorem Lane.onBox_getInt (f : BoxState → BoxState) (g : Fld) : (l.onBox f).getInt g = l.getInt g := rfl
@[simp] theorem Lane.onBox_bit (f : BoxState → BoxState) (g : Fld) (i : Nat) : (l.onBox f).bit g i = l.bit g i := rfl
@[simp] theorem Lane.onBox_lstate (f : BoxState → BoxState) : (l.onBox f).lstate = l.lstate := rfl
@[simp] theorem Lane.onBox_mode (f : BoxState → BoxState) : (l.onBox f).mode = l.mode := rfl

@[simp] theorem Lane.onRing_id (f : RingState → RingState) : (l.onRing f).id = l.id := rfl
@[simp] theorem Lane.onRing_regs (f : RingState → RingState) : (l.onRing f).regs = l.regs := rfl
@[simp] theorem Lane.onRing_sets (f : RingState → RingState) : (l.onRing f).sets = l.sets := rfl
@[simp] theorem Lane.onRing_now (f : RingState → RingState) : (l.onRing f).now = l.now := rfl
@[simp] theorem Lane.onRing_ltime (f : RingState → RingState) : (l.onRing f).ltime = l.ltime := rfl
@[simp] theorem Lane.onRing_fresh (f : RingState → RingState) : (l.onRing f).fresh = l.fresh := rfl
@[simp] theorem Lane.onRing_emit (f : RingState → RingState) : (l.onRing f).emit = l.emit := rfl
@[simp] theorem Lane.onRing_log (f : RingState → RingState) : (l.onRing f).log = l.log := rfl
@[simp] theorem Lane.onRing_logNext (f : RingState → RingState) : (l.onRing f).logNext = l.logNext := rfl
@[simp] theorem Lane.onRing_axes (f : RingState → RingState) : (l.onRing f).axes = l.axes := rfl
@[simp] theorem Lane.onRing_power (f : RingState → RingState) : (l.onRing f).power = l.power := rfl
@[simp] theorem Lane.onRing_link (f : RingState → RingState) : (l.onRing f).link = l.link := rfl
@[simp] theorem Lane.onRing_loops (f : RingState → RingState) : (l.onRing f).loops = l.loops := rfl
@[simp] theorem Lane.onRing_wing (f : RingState → RingState) : (l.onRing f).wing = l.wing := rfl
@[simp] theorem Lane.onRing_seats (f : RingState → RingState) : (l.onRing f).seats = l.seats := rfl
@[simp] theorem Lane.onRing_call (f : RingState → RingState) : (l.onRing f).call = l.call := rfl
@[simp] theorem Lane.onRing_safety (f : RingState → RingState) : (l.onRing f).safety = l.safety := rfl
@[simp] theorem Lane.onRing_mode_ (f : RingState → RingState) : (l.onRing f).mode_ = l.mode_ := rfl
@[simp] theorem Lane.onRing_trust (f : RingState → RingState) : (l.onRing f).trust = l.trust := rfl
@[simp] theorem Lane.onRing_reh (f : RingState → RingState) : (l.onRing f).reh = l.reh := rfl
@[simp] theorem Lane.onRing_trio (f : RingState → RingState) : (l.onRing f).trio = l.trio := rfl
@[simp] theorem Lane.onRing_box (f : RingState → RingState) : (l.onRing f).box = l.box := rfl
@[simp] theorem Lane.onRing_ring (f : RingState → RingState) : (l.onRing f).ring = f l.ring := rfl
@[simp] theorem Lane.onRing_tm (f : RingState → RingState) : (l.onRing f).tm = l.tm := rfl
@[simp] theorem Lane.onRing_can (f : RingState → RingState) : (l.onRing f).can = l.can := rfl
@[simp] theorem Lane.onRing_dict (f : RingState → RingState) : (l.onRing f).dict = l.dict := rfl
@[simp] theorem Lane.onRing_stage (f : RingState → RingState) : (l.onRing f).stage = l.stage := rfl
@[simp] theorem Lane.onRing_word (f : RingState → RingState) (a : Nat) : (l.onRing f).word a = l.word a := rfl
@[simp] theorem Lane.onRing_get (f : RingState → RingState) (g : Fld) : (l.onRing f).get g = l.get g := rfl
@[simp] theorem Lane.onRing_flag (f : RingState → RingState) (g : Fld) : (l.onRing f).flag g = l.flag g := rfl
@[simp] theorem Lane.onRing_getInt (f : RingState → RingState) (g : Fld) : (l.onRing f).getInt g = l.getInt g := rfl
@[simp] theorem Lane.onRing_bit (f : RingState → RingState) (g : Fld) (i : Nat) : (l.onRing f).bit g i = l.bit g i := rfl
@[simp] theorem Lane.onRing_lstate (f : RingState → RingState) : (l.onRing f).lstate = l.lstate := rfl
@[simp] theorem Lane.onRing_mode (f : RingState → RingState) : (l.onRing f).mode = l.mode := rfl

@[simp] theorem Lane.onTime_id (f : TimeState → TimeState) : (l.onTime f).id = l.id := rfl
@[simp] theorem Lane.onTime_regs (f : TimeState → TimeState) : (l.onTime f).regs = l.regs := rfl
@[simp] theorem Lane.onTime_sets (f : TimeState → TimeState) : (l.onTime f).sets = l.sets := rfl
@[simp] theorem Lane.onTime_now (f : TimeState → TimeState) : (l.onTime f).now = l.now := rfl
@[simp] theorem Lane.onTime_ltime (f : TimeState → TimeState) : (l.onTime f).ltime = l.ltime := rfl
@[simp] theorem Lane.onTime_fresh (f : TimeState → TimeState) : (l.onTime f).fresh = l.fresh := rfl
@[simp] theorem Lane.onTime_emit (f : TimeState → TimeState) : (l.onTime f).emit = l.emit := rfl
@[simp] theorem Lane.onTime_log (f : TimeState → TimeState) : (l.onTime f).log = l.log := rfl
@[simp] theorem Lane.onTime_logNext (f : TimeState → TimeState) : (l.onTime f).logNext = l.logNext := rfl
@[simp] theorem Lane.onTime_axes (f : TimeState → TimeState) : (l.onTime f).axes = l.axes := rfl
@[simp] theorem Lane.onTime_power (f : TimeState → TimeState) : (l.onTime f).power = l.power := rfl
@[simp] theorem Lane.onTime_link (f : TimeState → TimeState) : (l.onTime f).link = l.link := rfl
@[simp] theorem Lane.onTime_loops (f : TimeState → TimeState) : (l.onTime f).loops = l.loops := rfl
@[simp] theorem Lane.onTime_wing (f : TimeState → TimeState) : (l.onTime f).wing = l.wing := rfl
@[simp] theorem Lane.onTime_seats (f : TimeState → TimeState) : (l.onTime f).seats = l.seats := rfl
@[simp] theorem Lane.onTime_call (f : TimeState → TimeState) : (l.onTime f).call = l.call := rfl
@[simp] theorem Lane.onTime_safety (f : TimeState → TimeState) : (l.onTime f).safety = l.safety := rfl
@[simp] theorem Lane.onTime_mode_ (f : TimeState → TimeState) : (l.onTime f).mode_ = l.mode_ := rfl
@[simp] theorem Lane.onTime_trust (f : TimeState → TimeState) : (l.onTime f).trust = l.trust := rfl
@[simp] theorem Lane.onTime_reh (f : TimeState → TimeState) : (l.onTime f).reh = l.reh := rfl
@[simp] theorem Lane.onTime_trio (f : TimeState → TimeState) : (l.onTime f).trio = l.trio := rfl
@[simp] theorem Lane.onTime_box (f : TimeState → TimeState) : (l.onTime f).box = l.box := rfl
@[simp] theorem Lane.onTime_ring (f : TimeState → TimeState) : (l.onTime f).ring = l.ring := rfl
@[simp] theorem Lane.onTime_tm (f : TimeState → TimeState) : (l.onTime f).tm = f l.tm := rfl
@[simp] theorem Lane.onTime_can (f : TimeState → TimeState) : (l.onTime f).can = l.can := rfl
@[simp] theorem Lane.onTime_dict (f : TimeState → TimeState) : (l.onTime f).dict = l.dict := rfl
@[simp] theorem Lane.onTime_stage (f : TimeState → TimeState) : (l.onTime f).stage = l.stage := rfl
@[simp] theorem Lane.onTime_word (f : TimeState → TimeState) (a : Nat) : (l.onTime f).word a = l.word a := rfl
@[simp] theorem Lane.onTime_get (f : TimeState → TimeState) (g : Fld) : (l.onTime f).get g = l.get g := rfl
@[simp] theorem Lane.onTime_flag (f : TimeState → TimeState) (g : Fld) : (l.onTime f).flag g = l.flag g := rfl
@[simp] theorem Lane.onTime_getInt (f : TimeState → TimeState) (g : Fld) : (l.onTime f).getInt g = l.getInt g := rfl
@[simp] theorem Lane.onTime_bit (f : TimeState → TimeState) (g : Fld) (i : Nat) : (l.onTime f).bit g i = l.bit g i := rfl
@[simp] theorem Lane.onTime_lstate (f : TimeState → TimeState) : (l.onTime f).lstate = l.lstate := rfl
@[simp] theorem Lane.onTime_mode (f : TimeState → TimeState) : (l.onTime f).mode = l.mode := rfl

@[simp] theorem Lane.onDict_id (f : DictState → DictState) : (l.onDict f).id = l.id := rfl
@[simp] theorem Lane.onDict_regs (f : DictState → DictState) : (l.onDict f).regs = l.regs := rfl
@[simp] theorem Lane.onDict_sets (f : DictState → DictState) : (l.onDict f).sets = l.sets := rfl
@[simp] theorem Lane.onDict_now (f : DictState → DictState) : (l.onDict f).now = l.now := rfl
@[simp] theorem Lane.onDict_ltime (f : DictState → DictState) : (l.onDict f).ltime = l.ltime := rfl
@[simp] theorem Lane.onDict_fresh (f : DictState → DictState) : (l.onDict f).fresh = l.fresh := rfl
@[simp] theorem Lane.onDict_emit (f : DictState → DictState) : (l.onDict f).emit = l.emit := rfl
@[simp] theorem Lane.onDict_log (f : DictState → DictState) : (l.onDict f).log = l.log := rfl
@[simp] theorem Lane.onDict_logNext (f : DictState → DictState) : (l.onDict f).logNext = l.logNext := rfl
@[simp] theorem Lane.onDict_axes (f : DictState → DictState) : (l.onDict f).axes = l.axes := rfl
@[simp] theorem Lane.onDict_power (f : DictState → DictState) : (l.onDict f).power = l.power := rfl
@[simp] theorem Lane.onDict_link (f : DictState → DictState) : (l.onDict f).link = l.link := rfl
@[simp] theorem Lane.onDict_loops (f : DictState → DictState) : (l.onDict f).loops = l.loops := rfl
@[simp] theorem Lane.onDict_wing (f : DictState → DictState) : (l.onDict f).wing = l.wing := rfl
@[simp] theorem Lane.onDict_seats (f : DictState → DictState) : (l.onDict f).seats = l.seats := rfl
@[simp] theorem Lane.onDict_call (f : DictState → DictState) : (l.onDict f).call = l.call := rfl
@[simp] theorem Lane.onDict_safety (f : DictState → DictState) : (l.onDict f).safety = l.safety := rfl
@[simp] theorem Lane.onDict_mode_ (f : DictState → DictState) : (l.onDict f).mode_ = l.mode_ := rfl
@[simp] theorem Lane.onDict_trust (f : DictState → DictState) : (l.onDict f).trust = l.trust := rfl
@[simp] theorem Lane.onDict_reh (f : DictState → DictState) : (l.onDict f).reh = l.reh := rfl
@[simp] theorem Lane.onDict_trio (f : DictState → DictState) : (l.onDict f).trio = l.trio := rfl
@[simp] theorem Lane.onDict_box (f : DictState → DictState) : (l.onDict f).box = l.box := rfl
@[simp] theorem Lane.onDict_ring (f : DictState → DictState) : (l.onDict f).ring = l.ring := rfl
@[simp] theorem Lane.onDict_tm (f : DictState → DictState) : (l.onDict f).tm = l.tm := rfl
@[simp] theorem Lane.onDict_can (f : DictState → DictState) : (l.onDict f).can = l.can := rfl
@[simp] theorem Lane.onDict_dict (f : DictState → DictState) : (l.onDict f).dict = f l.dict := rfl
@[simp] theorem Lane.onDict_stage (f : DictState → DictState) : (l.onDict f).stage = l.stage := rfl
@[simp] theorem Lane.onDict_word (f : DictState → DictState) (a : Nat) : (l.onDict f).word a = l.word a := rfl
@[simp] theorem Lane.onDict_get (f : DictState → DictState) (g : Fld) : (l.onDict f).get g = l.get g := rfl
@[simp] theorem Lane.onDict_flag (f : DictState → DictState) (g : Fld) : (l.onDict f).flag g = l.flag g := rfl
@[simp] theorem Lane.onDict_getInt (f : DictState → DictState) (g : Fld) : (l.onDict f).getInt g = l.getInt g := rfl
@[simp] theorem Lane.onDict_bit (f : DictState → DictState) (g : Fld) (i : Nat) : (l.onDict f).bit g i = l.bit g i := rfl
@[simp] theorem Lane.onDict_lstate (f : DictState → DictState) : (l.onDict f).lstate = l.lstate := rfl
@[simp] theorem Lane.onDict_mode (f : DictState → DictState) : (l.onDict f).mode = l.mode := rfl

@[simp] theorem Lane.onCan_id (k : Fin 2) (f : CanState → CanState) : (l.onCan k f).id = l.id := rfl
@[simp] theorem Lane.onCan_regs (k : Fin 2) (f : CanState → CanState) : (l.onCan k f).regs = l.regs := rfl
@[simp] theorem Lane.onCan_sets (k : Fin 2) (f : CanState → CanState) : (l.onCan k f).sets = l.sets := rfl
@[simp] theorem Lane.onCan_now (k : Fin 2) (f : CanState → CanState) : (l.onCan k f).now = l.now := rfl
@[simp] theorem Lane.onCan_ltime (k : Fin 2) (f : CanState → CanState) : (l.onCan k f).ltime = l.ltime := rfl
@[simp] theorem Lane.onCan_fresh (k : Fin 2) (f : CanState → CanState) : (l.onCan k f).fresh = l.fresh := rfl
@[simp] theorem Lane.onCan_emit (k : Fin 2) (f : CanState → CanState) : (l.onCan k f).emit = l.emit := rfl
@[simp] theorem Lane.onCan_log (k : Fin 2) (f : CanState → CanState) : (l.onCan k f).log = l.log := rfl
@[simp] theorem Lane.onCan_logNext (k : Fin 2) (f : CanState → CanState) : (l.onCan k f).logNext = l.logNext := rfl
@[simp] theorem Lane.onCan_axes (k : Fin 2) (f : CanState → CanState) : (l.onCan k f).axes = l.axes := rfl
@[simp] theorem Lane.onCan_power (k : Fin 2) (f : CanState → CanState) : (l.onCan k f).power = l.power := rfl
@[simp] theorem Lane.onCan_link (k : Fin 2) (f : CanState → CanState) : (l.onCan k f).link = l.link := rfl
@[simp] theorem Lane.onCan_loops (k : Fin 2) (f : CanState → CanState) : (l.onCan k f).loops = l.loops := rfl
@[simp] theorem Lane.onCan_wing (k : Fin 2) (f : CanState → CanState) : (l.onCan k f).wing = l.wing := rfl
@[simp] theorem Lane.onCan_seats (k : Fin 2) (f : CanState → CanState) : (l.onCan k f).seats = l.seats := rfl
@[simp] theorem Lane.onCan_call (k : Fin 2) (f : CanState → CanState) : (l.onCan k f).call = l.call := rfl
@[simp] theorem Lane.onCan_safety (k : Fin 2) (f : CanState → CanState) : (l.onCan k f).safety = l.safety := rfl
@[simp] theorem Lane.onCan_mode_ (k : Fin 2) (f : CanState → CanState) : (l.onCan k f).mode_ = l.mode_ := rfl
@[simp] theorem Lane.onCan_trust (k : Fin 2) (f : CanState → CanState) : (l.onCan k f).trust = l.trust := rfl
@[simp] theorem Lane.onCan_reh (k : Fin 2) (f : CanState → CanState) : (l.onCan k f).reh = l.reh := rfl
@[simp] theorem Lane.onCan_trio (k : Fin 2) (f : CanState → CanState) : (l.onCan k f).trio = l.trio := rfl
@[simp] theorem Lane.onCan_box (k : Fin 2) (f : CanState → CanState) : (l.onCan k f).box = l.box := rfl
@[simp] theorem Lane.onCan_ring (k : Fin 2) (f : CanState → CanState) : (l.onCan k f).ring = l.ring := rfl
@[simp] theorem Lane.onCan_tm (k : Fin 2) (f : CanState → CanState) : (l.onCan k f).tm = l.tm := rfl
@[simp] theorem Lane.onCan_can (k : Fin 2) (f : CanState → CanState) : (l.onCan k f).can = l.can.set k (f l.can[k]) := rfl
@[simp] theorem Lane.onCan_dict (k : Fin 2) (f : CanState → CanState) : (l.onCan k f).dict = l.dict := rfl
@[simp] theorem Lane.onCan_stage (k : Fin 2) (f : CanState → CanState) : (l.onCan k f).stage = l.stage := rfl
@[simp] theorem Lane.onCan_word (k : Fin 2) (f : CanState → CanState) (a : Nat) : (l.onCan k f).word a = l.word a := rfl
@[simp] theorem Lane.onCan_get (k : Fin 2) (f : CanState → CanState) (g : Fld) : (l.onCan k f).get g = l.get g := rfl
@[simp] theorem Lane.onCan_flag (k : Fin 2) (f : CanState → CanState) (g : Fld) : (l.onCan k f).flag g = l.flag g := rfl
@[simp] theorem Lane.onCan_getInt (k : Fin 2) (f : CanState → CanState) (g : Fld) : (l.onCan k f).getInt g = l.getInt g := rfl
@[simp] theorem Lane.onCan_bit (k : Fin 2) (f : CanState → CanState) (g : Fld) (i : Nat) : (l.onCan k f).bit g i = l.bit g i := rfl
@[simp] theorem Lane.onCan_lstate (k : Fin 2) (f : CanState → CanState) : (l.onCan k f).lstate = l.lstate := rfl
@[simp] theorem Lane.onCan_mode (k : Fin 2) (f : CanState → CanState) : (l.onCan k f).mode = l.mode := rfl

@[simp] theorem Lane.onPower_id (f : PowerState → PowerState) : (l.onPower f).id = l.id := rfl
@[simp] theorem Lane.onPower_regs (f : PowerState → PowerState) : (l.onPower f).regs = l.regs := rfl
@[simp] theorem Lane.onPower_sets (f : PowerState → PowerState) : (l.onPower f).sets = l.sets := rfl
@[simp] theorem Lane.onPower_now (f : PowerState → PowerState) : (l.onPower f).now = l.now := rfl
@[simp] theorem Lane.onPower_ltime (f : PowerState → PowerState) : (l.onPower f).ltime = l.ltime := rfl
@[simp] theorem Lane.onPower_fresh (f : PowerState → PowerState) : (l.onPower f).fresh = l.fresh := rfl
@[simp] theorem Lane.onPower_emit (f : PowerState → PowerState) : (l.onPower f).emit = l.emit := rfl
@[simp] theorem Lane.onPower_log (f : PowerState → PowerState) : (l.onPower f).log = l.log := rfl
@[simp] theorem Lane.onPower_logNext (f : PowerState → PowerState) : (l.onPower f).logNext = l.logNext := rfl
@[simp] theorem Lane.onPower_axes (f : PowerState → PowerState) : (l.onPower f).axes = l.axes := rfl
@[simp] theorem Lane.onPower_power (f : PowerState → PowerState) : (l.onPower f).power = f l.power := rfl
@[simp] theorem Lane.onPower_link (f : PowerState → PowerState) : (l.onPower f).link = l.link := rfl
@[simp] theorem Lane.onPower_loops (f : PowerState → PowerState) : (l.onPower f).loops = l.loops := rfl
@[simp] theorem Lane.onPower_wing (f : PowerState → PowerState) : (l.onPower f).wing = l.wing := rfl
@[simp] theorem Lane.onPower_seats (f : PowerState → PowerState) : (l.onPower f).seats = l.seats := rfl
@[simp] theorem Lane.onPower_call (f : PowerState → PowerState) : (l.onPower f).call = l.call := rfl
@[simp] theorem Lane.onPower_safety (f : PowerState → PowerState) : (l.onPower f).safety = l.safety := rfl
@[simp] theorem Lane.onPower_mode_ (f : PowerState → PowerState) : (l.onPower f).mode_ = l.mode_ := rfl
@[simp] theorem Lane.onPower_trust (f : PowerState → PowerState) : (l.onPower f).trust = l.trust := rfl
@[simp] theorem Lane.onPower_reh (f : PowerState → PowerState) : (l.onPower f).reh = l.reh := rfl
@[simp] theorem Lane.onPower_trio (f : PowerState → PowerState) : (l.onPower f).trio = l.trio := rfl
@[simp] theorem Lane.onPower_box (f : PowerState → PowerState) : (l.onPower f).box = l.box := rfl
@[simp] theorem Lane.onPower_ring (f : PowerState → PowerState) : (l.onPower f).ring = l.ring := rfl
@[simp] theorem Lane.onPower_tm (f : PowerState → PowerState) : (l.onPower f).tm = l.tm := rfl
@[simp] theorem Lane.onPower_can (f : PowerState → PowerState) : (l.onPower f).can = l.can := rfl
@[simp] theorem Lane.onPower_dict (f : PowerState → PowerState) : (l.onPower f).dict = l.dict := rfl
@[simp] theorem Lane.onPower_stage (f : PowerState → PowerState) : (l.onPower f).stage = l.stage := rfl
@[simp] theorem Lane.onPower_word (f : PowerState → PowerState) (a : Nat) : (l.onPower f).word a = l.word a := rfl
@[simp] theorem Lane.onPower_get (f : PowerState → PowerState) (g : Fld) : (l.onPower f).get g = l.get g := rfl
@[simp] theorem Lane.onPower_flag (f : PowerState → PowerState) (g : Fld) : (l.onPower f).flag g = l.flag g := rfl
@[simp] theorem Lane.onPower_getInt (f : PowerState → PowerState) (g : Fld) : (l.onPower f).getInt g = l.getInt g := rfl
@[simp] theorem Lane.onPower_bit (f : PowerState → PowerState) (g : Fld) (i : Nat) : (l.onPower f).bit g i = l.bit g i := rfl
@[simp] theorem Lane.onPower_lstate (f : PowerState → PowerState) : (l.onPower f).lstate = l.lstate := rfl
@[simp] theorem Lane.onPower_mode (f : PowerState → PowerState) : (l.onPower f).mode = l.mode := rfl

@[simp] theorem Lane.onLink_id (f : LinkState → LinkState) : (l.onLink f).id = l.id := rfl
@[simp] theorem Lane.onLink_regs (f : LinkState → LinkState) : (l.onLink f).regs = l.regs := rfl
@[simp] theorem Lane.onLink_sets (f : LinkState → LinkState) : (l.onLink f).sets = l.sets := rfl
@[simp] theorem Lane.onLink_now (f : LinkState → LinkState) : (l.onLink f).now = l.now := rfl
@[simp] theorem Lane.onLink_ltime (f : LinkState → LinkState) : (l.onLink f).ltime = l.ltime := rfl
@[simp] theorem Lane.onLink_fresh (f : LinkState → LinkState) : (l.onLink f).fresh = l.fresh := rfl
@[simp] theorem Lane.onLink_emit (f : LinkState → LinkState) : (l.onLink f).emit = l.emit := rfl
@[simp] theorem Lane.onLink_log (f : LinkState → LinkState) : (l.onLink f).log = l.log := rfl
@[simp] theorem Lane.onLink_logNext (f : LinkState → LinkState) : (l.onLink f).logNext = l.logNext := rfl
@[simp] theorem Lane.onLink_axes (f : LinkState → LinkState) : (l.onLink f).axes = l.axes := rfl
@[simp] theorem Lane.onLink_power (f : LinkState → LinkState) : (l.onLink f).power = l.power := rfl
@[simp] theorem Lane.onLink_link (f : LinkState → LinkState) : (l.onLink f).link = f l.link := rfl
@[simp] theorem Lane.onLink_loops (f : LinkState → LinkState) : (l.onLink f).loops = l.loops := rfl
@[simp] theorem Lane.onLink_wing (f : LinkState → LinkState) : (l.onLink f).wing = l.wing := rfl
@[simp] theorem Lane.onLink_seats (f : LinkState → LinkState) : (l.onLink f).seats = l.seats := rfl
@[simp] theorem Lane.onLink_call (f : LinkState → LinkState) : (l.onLink f).call = l.call := rfl
@[simp] theorem Lane.onLink_safety (f : LinkState → LinkState) : (l.onLink f).safety = l.safety := rfl
@[simp] theorem Lane.onLink_mode_ (f : LinkState → LinkState) : (l.onLink f).mode_ = l.mode_ := rfl
@[simp] theorem Lane.onLink_trust (f : LinkState → LinkState) : (l.onLink f).trust = l.trust := rfl
@[simp] theorem Lane.onLink_reh (f : LinkState → LinkState) : (l.onLink f).reh = l.reh := rfl
@[simp] theorem Lane.onLink_trio (f : LinkState → LinkState) : (l.onLink f).trio = l.trio := rfl
@[simp] theorem Lane.onLink_box (f : LinkState → LinkState) : (l.onLink f).box = l.box := rfl
@[simp] theorem Lane.onLink_ring (f : LinkState → LinkState) : (l.onLink f).ring = l.ring := rfl
@[simp] theorem Lane.onLink_tm (f : LinkState → LinkState) : (l.onLink f).tm = l.tm := rfl
@[simp] theorem Lane.onLink_can (f : LinkState → LinkState) : (l.onLink f).can = l.can := rfl
@[simp] theorem Lane.onLink_dict (f : LinkState → LinkState) : (l.onLink f).dict = l.dict := rfl
@[simp] theorem Lane.onLink_stage (f : LinkState → LinkState) : (l.onLink f).stage = l.stage := rfl
@[simp] theorem Lane.onLink_word (f : LinkState → LinkState) (a : Nat) : (l.onLink f).word a = l.word a := rfl
@[simp] theorem Lane.onLink_get (f : LinkState → LinkState) (g : Fld) : (l.onLink f).get g = l.get g := rfl
@[simp] theorem Lane.onLink_flag (f : LinkState → LinkState) (g : Fld) : (l.onLink f).flag g = l.flag g := rfl
@[simp] theorem Lane.onLink_getInt (f : LinkState → LinkState) (g : Fld) : (l.onLink f).getInt g = l.getInt g := rfl
@[simp] theorem Lane.onLink_bit (f : LinkState → LinkState) (g : Fld) (i : Nat) : (l.onLink f).bit g i = l.bit g i := rfl
@[simp] theorem Lane.onLink_lstate (f : LinkState → LinkState) : (l.onLink f).lstate = l.lstate := rfl
@[simp] theorem Lane.onLink_mode (f : LinkState → LinkState) : (l.onLink f).mode = l.mode := rfl

@[simp] theorem Lane.nextChoice_id : (l.nextChoice).id = l.id := rfl
@[simp] theorem Lane.nextChoice_regs : (l.nextChoice).regs = l.regs := rfl
@[simp] theorem Lane.nextChoice_sets : (l.nextChoice).sets = l.sets := rfl
@[simp] theorem Lane.nextChoice_now : (l.nextChoice).now = l.now := rfl
@[simp] theorem Lane.nextChoice_ltime : (l.nextChoice).ltime = l.ltime := rfl
@[simp] theorem Lane.nextChoice_fresh : (l.nextChoice).fresh = l.fresh + 1 := rfl
@[simp] theorem Lane.nextChoice_emit : (l.nextChoice).emit = l.emit := rfl
@[simp] theorem Lane.nextChoice_log : (l.nextChoice).log = l.log := rfl
@[simp] theorem Lane.nextChoice_logNext : (l.nextChoice).logNext = l.logNext := rfl
@[simp] theorem Lane.nextChoice_axes : (l.nextChoice).axes = l.axes := rfl
@[simp] theorem Lane.nextChoice_power : (l.nextChoice).power = l.power := rfl
@[simp] theorem Lane.nextChoice_link : (l.nextChoice).link = l.link := rfl
@[simp] theorem Lane.nextChoice_loops : (l.nextChoice).loops = l.loops := rfl
@[simp] theorem Lane.nextChoice_wing : (l.nextChoice).wing = l.wing := rfl
@[simp] theorem Lane.nextChoice_seats : (l.nextChoice).seats = l.seats := rfl
@[simp] theorem Lane.nextChoice_call : (l.nextChoice).call = l.call := rfl
@[simp] theorem Lane.nextChoice_safety : (l.nextChoice).safety = l.safety := rfl
@[simp] theorem Lane.nextChoice_mode_ : (l.nextChoice).mode_ = l.mode_ := rfl
@[simp] theorem Lane.nextChoice_trust : (l.nextChoice).trust = l.trust := rfl
@[simp] theorem Lane.nextChoice_reh : (l.nextChoice).reh = l.reh := rfl
@[simp] theorem Lane.nextChoice_trio : (l.nextChoice).trio = l.trio := rfl
@[simp] theorem Lane.nextChoice_box : (l.nextChoice).box = l.box := rfl
@[simp] theorem Lane.nextChoice_ring : (l.nextChoice).ring = l.ring := rfl
@[simp] theorem Lane.nextChoice_tm : (l.nextChoice).tm = l.tm := rfl
@[simp] theorem Lane.nextChoice_can : (l.nextChoice).can = l.can := rfl
@[simp] theorem Lane.nextChoice_dict : (l.nextChoice).dict = l.dict := rfl
@[simp] theorem Lane.nextChoice_stage : (l.nextChoice).stage = l.stage := rfl
@[simp] theorem Lane.nextChoice_word (a : Nat) : (l.nextChoice).word a = l.word a := rfl
@[simp] theorem Lane.nextChoice_get (g : Fld) : (l.nextChoice).get g = l.get g := rfl
@[simp] theorem Lane.nextChoice_flag (g : Fld) : (l.nextChoice).flag g = l.flag g := rfl
@[simp] theorem Lane.nextChoice_getInt (g : Fld) : (l.nextChoice).getInt g = l.getInt g := rfl
@[simp] theorem Lane.nextChoice_bit (g : Fld) (i : Nat) : (l.nextChoice).bit g i = l.bit g i := rfl
@[simp] theorem Lane.nextChoice_lstate : (l.nextChoice).lstate = l.lstate := rfl
@[simp] theorem Lane.nextChoice_mode : (l.nextChoice).mode = l.mode := rfl

@[simp] theorem Lane.send_id (x : Emission) : (l.send x).id = l.id := rfl
@[simp] theorem Lane.send_regs (x : Emission) : (l.send x).regs = l.regs := rfl
@[simp] theorem Lane.send_sets (x : Emission) : (l.send x).sets = l.sets := rfl
@[simp] theorem Lane.send_now (x : Emission) : (l.send x).now = l.now := rfl
@[simp] theorem Lane.send_ltime (x : Emission) : (l.send x).ltime = l.ltime := rfl
@[simp] theorem Lane.send_fresh (x : Emission) : (l.send x).fresh = l.fresh := rfl
@[simp] theorem Lane.send_emit (x : Emission) : (l.send x).emit = x :: l.emit := rfl
@[simp] theorem Lane.send_log (x : Emission) : (l.send x).log = l.log := rfl
@[simp] theorem Lane.send_logNext (x : Emission) : (l.send x).logNext = l.logNext := rfl
@[simp] theorem Lane.send_axes (x : Emission) : (l.send x).axes = l.axes := rfl
@[simp] theorem Lane.send_power (x : Emission) : (l.send x).power = l.power := rfl
@[simp] theorem Lane.send_link (x : Emission) : (l.send x).link = l.link := rfl
@[simp] theorem Lane.send_loops (x : Emission) : (l.send x).loops = l.loops := rfl
@[simp] theorem Lane.send_wing (x : Emission) : (l.send x).wing = l.wing := rfl
@[simp] theorem Lane.send_seats (x : Emission) : (l.send x).seats = l.seats := rfl
@[simp] theorem Lane.send_call (x : Emission) : (l.send x).call = l.call := rfl
@[simp] theorem Lane.send_safety (x : Emission) : (l.send x).safety = l.safety := rfl
@[simp] theorem Lane.send_mode_ (x : Emission) : (l.send x).mode_ = l.mode_ := rfl
@[simp] theorem Lane.send_trust (x : Emission) : (l.send x).trust = l.trust := rfl
@[simp] theorem Lane.send_reh (x : Emission) : (l.send x).reh = l.reh := rfl
@[simp] theorem Lane.send_trio (x : Emission) : (l.send x).trio = l.trio := rfl
@[simp] theorem Lane.send_box (x : Emission) : (l.send x).box = l.box := rfl
@[simp] theorem Lane.send_ring (x : Emission) : (l.send x).ring = l.ring := rfl
@[simp] theorem Lane.send_tm (x : Emission) : (l.send x).tm = l.tm := rfl
@[simp] theorem Lane.send_can (x : Emission) : (l.send x).can = l.can := rfl
@[simp] theorem Lane.send_dict (x : Emission) : (l.send x).dict = l.dict := rfl
@[simp] theorem Lane.send_stage (x : Emission) : (l.send x).stage = l.stage := rfl
@[simp] theorem Lane.send_word (x : Emission) (a : Nat) : (l.send x).word a = l.word a := rfl
@[simp] theorem Lane.send_get (x : Emission) (g : Fld) : (l.send x).get g = l.get g := rfl
@[simp] theorem Lane.send_flag (x : Emission) (g : Fld) : (l.send x).flag g = l.flag g := rfl
@[simp] theorem Lane.send_getInt (x : Emission) (g : Fld) : (l.send x).getInt g = l.getInt g := rfl
@[simp] theorem Lane.send_bit (x : Emission) (g : Fld) (i : Nat) : (l.send x).bit g i = l.bit g i := rfl
@[simp] theorem Lane.send_lstate (x : Emission) : (l.send x).lstate = l.lstate := rfl
@[simp] theorem Lane.send_mode (x : Emission) : (l.send x).mode = l.mode := rfl

@[simp] theorem Lane.note_id (x : LogEntry) : (l.note x).id = l.id := rfl
@[simp] theorem Lane.note_regs (x : LogEntry) : (l.note x).regs = l.regs := rfl
@[simp] theorem Lane.note_sets (x : LogEntry) : (l.note x).sets = l.sets := rfl
@[simp] theorem Lane.note_now (x : LogEntry) : (l.note x).now = l.now := rfl
@[simp] theorem Lane.note_ltime (x : LogEntry) : (l.note x).ltime = l.ltime := rfl
@[simp] theorem Lane.note_fresh (x : LogEntry) : (l.note x).fresh = l.fresh := rfl
@[simp] theorem Lane.note_emit (x : LogEntry) : (l.note x).emit = l.emit := rfl
@[simp] theorem Lane.note_log (x : LogEntry) : (l.note x).log = ⟨l.logNext, l.ltime, x⟩ :: l.log := rfl
@[simp] theorem Lane.note_logNext (x : LogEntry) : (l.note x).logNext = l.logNext + 1 := rfl
@[simp] theorem Lane.note_axes (x : LogEntry) : (l.note x).axes = l.axes := rfl
@[simp] theorem Lane.note_power (x : LogEntry) : (l.note x).power = l.power := rfl
@[simp] theorem Lane.note_link (x : LogEntry) : (l.note x).link = l.link := rfl
@[simp] theorem Lane.note_loops (x : LogEntry) : (l.note x).loops = l.loops := rfl
@[simp] theorem Lane.note_wing (x : LogEntry) : (l.note x).wing = l.wing := rfl
@[simp] theorem Lane.note_seats (x : LogEntry) : (l.note x).seats = l.seats := rfl
@[simp] theorem Lane.note_call (x : LogEntry) : (l.note x).call = l.call := rfl
@[simp] theorem Lane.note_safety (x : LogEntry) : (l.note x).safety = l.safety := rfl
@[simp] theorem Lane.note_mode_ (x : LogEntry) : (l.note x).mode_ = l.mode_ := rfl
@[simp] theorem Lane.note_trust (x : LogEntry) : (l.note x).trust = l.trust := rfl
@[simp] theorem Lane.note_reh (x : LogEntry) : (l.note x).reh = l.reh := rfl
@[simp] theorem Lane.note_trio (x : LogEntry) : (l.note x).trio = l.trio := rfl
@[simp] theorem Lane.note_box (x : LogEntry) : (l.note x).box = l.box := rfl
@[simp] theorem Lane.note_ring (x : LogEntry) : (l.note x).ring = l.ring := rfl
@[simp] theorem Lane.note_tm (x : LogEntry) : (l.note x).tm = l.tm := rfl
@[simp] theorem Lane.note_can (x : LogEntry) : (l.note x).can = l.can := rfl
@[simp] theorem Lane.note_dict (x : LogEntry) : (l.note x).dict = l.dict := rfl
@[simp] theorem Lane.note_stage (x : LogEntry) : (l.note x).stage = l.stage := rfl
@[simp] theorem Lane.note_word (x : LogEntry) (a : Nat) : (l.note x).word a = l.word a := rfl
@[simp] theorem Lane.note_get (x : LogEntry) (g : Fld) : (l.note x).get g = l.get g := rfl
@[simp] theorem Lane.note_flag (x : LogEntry) (g : Fld) : (l.note x).flag g = l.flag g := rfl
@[simp] theorem Lane.note_getInt (x : LogEntry) (g : Fld) : (l.note x).getInt g = l.getInt g := rfl
@[simp] theorem Lane.note_bit (x : LogEntry) (g : Fld) (i : Nat) : (l.note x).bit g i = l.bit g i := rfl
@[simp] theorem Lane.note_lstate (x : LogEntry) : (l.note x).lstate = l.lstate := rfl
@[simp] theorem Lane.note_mode (x : LogEntry) : (l.note x).mode = l.mode := rfl

@[simp] theorem Lane.setWord_id (a : Nat) (w : Word) : (l.setWord a w).id = l.id := rfl
@[simp] theorem Lane.setWord_sets (a : Nat) (w : Word) : (l.setWord a w).sets = l.sets := rfl
@[simp] theorem Lane.setWord_now (a : Nat) (w : Word) : (l.setWord a w).now = l.now := rfl
@[simp] theorem Lane.setWord_ltime (a : Nat) (w : Word) : (l.setWord a w).ltime = l.ltime := rfl
@[simp] theorem Lane.setWord_fresh (a : Nat) (w : Word) : (l.setWord a w).fresh = l.fresh := rfl
@[simp] theorem Lane.setWord_emit (a : Nat) (w : Word) : (l.setWord a w).emit = l.emit := rfl
@[simp] theorem Lane.setWord_log (a : Nat) (w : Word) : (l.setWord a w).log = l.log := rfl
@[simp] theorem Lane.setWord_logNext (a : Nat) (w : Word) : (l.setWord a w).logNext = l.logNext := rfl
@[simp] theorem Lane.setWord_axes (a : Nat) (w : Word) : (l.setWord a w).axes = l.axes := rfl
@[simp] theorem Lane.setWord_power (a : Nat) (w : Word) : (l.setWord a w).power = l.power := rfl
@[simp] theorem Lane.setWord_link (a : Nat) (w : Word) : (l.setWord a w).link = l.link := rfl
@[simp] theorem Lane.setWord_loops (a : Nat) (w : Word) : (l.setWord a w).loops = l.loops := rfl
@[simp] theorem Lane.setWord_wing (a : Nat) (w : Word) : (l.setWord a w).wing = l.wing := rfl
@[simp] theorem Lane.setWord_seats (a : Nat) (w : Word) : (l.setWord a w).seats = l.seats := rfl
@[simp] theorem Lane.setWord_call (a : Nat) (w : Word) : (l.setWord a w).call = l.call := rfl
@[simp] theorem Lane.setWord_safety (a : Nat) (w : Word) : (l.setWord a w).safety = l.safety := rfl
@[simp] theorem Lane.setWord_mode_ (a : Nat) (w : Word) : (l.setWord a w).mode_ = l.mode_ := rfl
@[simp] theorem Lane.setWord_trust (a : Nat) (w : Word) : (l.setWord a w).trust = l.trust := rfl
@[simp] theorem Lane.setWord_reh (a : Nat) (w : Word) : (l.setWord a w).reh = l.reh := rfl
@[simp] theorem Lane.setWord_trio (a : Nat) (w : Word) : (l.setWord a w).trio = l.trio := rfl
@[simp] theorem Lane.setWord_box (a : Nat) (w : Word) : (l.setWord a w).box = l.box := rfl
@[simp] theorem Lane.setWord_ring (a : Nat) (w : Word) : (l.setWord a w).ring = l.ring := rfl
@[simp] theorem Lane.setWord_tm (a : Nat) (w : Word) : (l.setWord a w).tm = l.tm := rfl
@[simp] theorem Lane.setWord_can (a : Nat) (w : Word) : (l.setWord a w).can = l.can := rfl
@[simp] theorem Lane.setWord_dict (a : Nat) (w : Word) : (l.setWord a w).dict = l.dict := rfl
@[simp] theorem Lane.setWord_stage (a : Nat) (w : Word) : (l.setWord a w).stage = l.stage := rfl

@[simp] theorem Lane.setStage_id (a : Nat) (w : Word) : (l.setStage a w).id = l.id := rfl
@[simp] theorem Lane.setStage_regs (a : Nat) (w : Word) : (l.setStage a w).regs = l.regs := rfl
@[simp] theorem Lane.setStage_sets (a : Nat) (w : Word) : (l.setStage a w).sets = l.sets := rfl
@[simp] theorem Lane.setStage_now (a : Nat) (w : Word) : (l.setStage a w).now = l.now := rfl
@[simp] theorem Lane.setStage_ltime (a : Nat) (w : Word) : (l.setStage a w).ltime = l.ltime := rfl
@[simp] theorem Lane.setStage_fresh (a : Nat) (w : Word) : (l.setStage a w).fresh = l.fresh := rfl
@[simp] theorem Lane.setStage_emit (a : Nat) (w : Word) : (l.setStage a w).emit = l.emit := rfl
@[simp] theorem Lane.setStage_log (a : Nat) (w : Word) : (l.setStage a w).log = l.log := rfl
@[simp] theorem Lane.setStage_logNext (a : Nat) (w : Word) : (l.setStage a w).logNext = l.logNext := rfl
@[simp] theorem Lane.setStage_axes (a : Nat) (w : Word) : (l.setStage a w).axes = l.axes := rfl
@[simp] theorem Lane.setStage_power (a : Nat) (w : Word) : (l.setStage a w).power = l.power := rfl
@[simp] theorem Lane.setStage_link (a : Nat) (w : Word) : (l.setStage a w).link = l.link := rfl
@[simp] theorem Lane.setStage_loops (a : Nat) (w : Word) : (l.setStage a w).loops = l.loops := rfl
@[simp] theorem Lane.setStage_wing (a : Nat) (w : Word) : (l.setStage a w).wing = l.wing := rfl
@[simp] theorem Lane.setStage_seats (a : Nat) (w : Word) : (l.setStage a w).seats = l.seats := rfl
@[simp] theorem Lane.setStage_call (a : Nat) (w : Word) : (l.setStage a w).call = l.call := rfl
@[simp] theorem Lane.setStage_safety (a : Nat) (w : Word) : (l.setStage a w).safety = l.safety := rfl
@[simp] theorem Lane.setStage_mode_ (a : Nat) (w : Word) : (l.setStage a w).mode_ = l.mode_ := rfl
@[simp] theorem Lane.setStage_trust (a : Nat) (w : Word) : (l.setStage a w).trust = l.trust := rfl
@[simp] theorem Lane.setStage_reh (a : Nat) (w : Word) : (l.setStage a w).reh = l.reh := rfl
@[simp] theorem Lane.setStage_trio (a : Nat) (w : Word) : (l.setStage a w).trio = l.trio := rfl
@[simp] theorem Lane.setStage_box (a : Nat) (w : Word) : (l.setStage a w).box = l.box := rfl
@[simp] theorem Lane.setStage_ring (a : Nat) (w : Word) : (l.setStage a w).ring = l.ring := rfl
@[simp] theorem Lane.setStage_tm (a : Nat) (w : Word) : (l.setStage a w).tm = l.tm := rfl
@[simp] theorem Lane.setStage_can (a : Nat) (w : Word) : (l.setStage a w).can = l.can := rfl
@[simp] theorem Lane.setStage_dict (a : Nat) (w : Word) : (l.setStage a w).dict = l.dict := rfl
@[simp] theorem Lane.setStage_stage (a : Nat) (w : Word) : (l.setStage a w).stage = l.stage.put 0 a w := rfl
@[simp] theorem Lane.setStage_word (a : Nat) (w : Word) (b : Nat) : (l.setStage a w).word b = l.word b := rfl
@[simp] theorem Lane.setStage_get (a : Nat) (w : Word) (g : Fld) : (l.setStage a w).get g = l.get g := rfl
@[simp] theorem Lane.setStage_flag (a : Nat) (w : Word) (g : Fld) : (l.setStage a w).flag g = l.flag g := rfl
@[simp] theorem Lane.setStage_getInt (a : Nat) (w : Word) (g : Fld) : (l.setStage a w).getInt g = l.getInt g := rfl
@[simp] theorem Lane.setStage_bit (a : Nat) (w : Word) (g : Fld) (i : Nat) : (l.setStage a w).bit g i = l.bit g i := rfl
@[simp] theorem Lane.setStage_lstate (a : Nat) (w : Word) : (l.setStage a w).lstate = l.lstate := rfl
@[simp] theorem Lane.setStage_mode (a : Nat) (w : Word) : (l.setStage a w).mode = l.mode := rfl

@[simp] theorem Lane.put_id (f : Fld) (v : Nat) : (l.put f v).id = l.id := rfl
@[simp] theorem Lane.put_sets (f : Fld) (v : Nat) : (l.put f v).sets = l.sets := rfl
@[simp] theorem Lane.put_now (f : Fld) (v : Nat) : (l.put f v).now = l.now := rfl
@[simp] theorem Lane.put_ltime (f : Fld) (v : Nat) : (l.put f v).ltime = l.ltime := rfl
@[simp] theorem Lane.put_fresh (f : Fld) (v : Nat) : (l.put f v).fresh = l.fresh := rfl
@[simp] theorem Lane.put_emit (f : Fld) (v : Nat) : (l.put f v).emit = l.emit := rfl
@[simp] theorem Lane.put_log (f : Fld) (v : Nat) : (l.put f v).log = l.log := rfl
@[simp] theorem Lane.put_logNext (f : Fld) (v : Nat) : (l.put f v).logNext = l.logNext := rfl
@[simp] theorem Lane.put_axes (f : Fld) (v : Nat) : (l.put f v).axes = l.axes := rfl
@[simp] theorem Lane.put_power (f : Fld) (v : Nat) : (l.put f v).power = l.power := rfl
@[simp] theorem Lane.put_link (f : Fld) (v : Nat) : (l.put f v).link = l.link := rfl
@[simp] theorem Lane.put_loops (f : Fld) (v : Nat) : (l.put f v).loops = l.loops := rfl
@[simp] theorem Lane.put_wing (f : Fld) (v : Nat) : (l.put f v).wing = l.wing := rfl
@[simp] theorem Lane.put_seats (f : Fld) (v : Nat) : (l.put f v).seats = l.seats := rfl
@[simp] theorem Lane.put_call (f : Fld) (v : Nat) : (l.put f v).call = l.call := rfl
@[simp] theorem Lane.put_safety (f : Fld) (v : Nat) : (l.put f v).safety = l.safety := rfl
@[simp] theorem Lane.put_mode_ (f : Fld) (v : Nat) : (l.put f v).mode_ = l.mode_ := rfl
@[simp] theorem Lane.put_trust (f : Fld) (v : Nat) : (l.put f v).trust = l.trust := rfl
@[simp] theorem Lane.put_reh (f : Fld) (v : Nat) : (l.put f v).reh = l.reh := rfl
@[simp] theorem Lane.put_trio (f : Fld) (v : Nat) : (l.put f v).trio = l.trio := rfl
@[simp] theorem Lane.put_box (f : Fld) (v : Nat) : (l.put f v).box = l.box := rfl
@[simp] theorem Lane.put_ring (f : Fld) (v : Nat) : (l.put f v).ring = l.ring := rfl
@[simp] theorem Lane.put_tm (f : Fld) (v : Nat) : (l.put f v).tm = l.tm := rfl
@[simp] theorem Lane.put_can (f : Fld) (v : Nat) : (l.put f v).can = l.can := rfl
@[simp] theorem Lane.put_dict (f : Fld) (v : Nat) : (l.put f v).dict = l.dict := rfl
@[simp] theorem Lane.put_stage (f : Fld) (v : Nat) : (l.put f v).stage = l.stage := rfl

@[simp] theorem Lane.putInt_id (f : Fld) (v : Int) : (l.putInt f v).id = l.id := rfl
@[simp] theorem Lane.putInt_sets (f : Fld) (v : Int) : (l.putInt f v).sets = l.sets := rfl
@[simp] theorem Lane.putInt_now (f : Fld) (v : Int) : (l.putInt f v).now = l.now := rfl
@[simp] theorem Lane.putInt_ltime (f : Fld) (v : Int) : (l.putInt f v).ltime = l.ltime := rfl
@[simp] theorem Lane.putInt_fresh (f : Fld) (v : Int) : (l.putInt f v).fresh = l.fresh := rfl
@[simp] theorem Lane.putInt_emit (f : Fld) (v : Int) : (l.putInt f v).emit = l.emit := rfl
@[simp] theorem Lane.putInt_log (f : Fld) (v : Int) : (l.putInt f v).log = l.log := rfl
@[simp] theorem Lane.putInt_logNext (f : Fld) (v : Int) : (l.putInt f v).logNext = l.logNext := rfl
@[simp] theorem Lane.putInt_axes (f : Fld) (v : Int) : (l.putInt f v).axes = l.axes := rfl
@[simp] theorem Lane.putInt_power (f : Fld) (v : Int) : (l.putInt f v).power = l.power := rfl
@[simp] theorem Lane.putInt_link (f : Fld) (v : Int) : (l.putInt f v).link = l.link := rfl
@[simp] theorem Lane.putInt_loops (f : Fld) (v : Int) : (l.putInt f v).loops = l.loops := rfl
@[simp] theorem Lane.putInt_wing (f : Fld) (v : Int) : (l.putInt f v).wing = l.wing := rfl
@[simp] theorem Lane.putInt_seats (f : Fld) (v : Int) : (l.putInt f v).seats = l.seats := rfl
@[simp] theorem Lane.putInt_call (f : Fld) (v : Int) : (l.putInt f v).call = l.call := rfl
@[simp] theorem Lane.putInt_safety (f : Fld) (v : Int) : (l.putInt f v).safety = l.safety := rfl
@[simp] theorem Lane.putInt_mode_ (f : Fld) (v : Int) : (l.putInt f v).mode_ = l.mode_ := rfl
@[simp] theorem Lane.putInt_trust (f : Fld) (v : Int) : (l.putInt f v).trust = l.trust := rfl
@[simp] theorem Lane.putInt_reh (f : Fld) (v : Int) : (l.putInt f v).reh = l.reh := rfl
@[simp] theorem Lane.putInt_trio (f : Fld) (v : Int) : (l.putInt f v).trio = l.trio := rfl
@[simp] theorem Lane.putInt_box (f : Fld) (v : Int) : (l.putInt f v).box = l.box := rfl
@[simp] theorem Lane.putInt_ring (f : Fld) (v : Int) : (l.putInt f v).ring = l.ring := rfl
@[simp] theorem Lane.putInt_tm (f : Fld) (v : Int) : (l.putInt f v).tm = l.tm := rfl
@[simp] theorem Lane.putInt_can (f : Fld) (v : Int) : (l.putInt f v).can = l.can := rfl
@[simp] theorem Lane.putInt_dict (f : Fld) (v : Int) : (l.putInt f v).dict = l.dict := rfl
@[simp] theorem Lane.putInt_stage (f : Fld) (v : Int) : (l.putInt f v).stage = l.stage := rfl

@[simp] theorem Lane.putFlag_id (f : Fld) (b : Bool) : (l.putFlag f b).id = l.id := rfl
@[simp] theorem Lane.putFlag_sets (f : Fld) (b : Bool) : (l.putFlag f b).sets = l.sets := rfl
@[simp] theorem Lane.putFlag_now (f : Fld) (b : Bool) : (l.putFlag f b).now = l.now := rfl
@[simp] theorem Lane.putFlag_ltime (f : Fld) (b : Bool) : (l.putFlag f b).ltime = l.ltime := rfl
@[simp] theorem Lane.putFlag_fresh (f : Fld) (b : Bool) : (l.putFlag f b).fresh = l.fresh := rfl
@[simp] theorem Lane.putFlag_emit (f : Fld) (b : Bool) : (l.putFlag f b).emit = l.emit := rfl
@[simp] theorem Lane.putFlag_log (f : Fld) (b : Bool) : (l.putFlag f b).log = l.log := rfl
@[simp] theorem Lane.putFlag_logNext (f : Fld) (b : Bool) : (l.putFlag f b).logNext = l.logNext := rfl
@[simp] theorem Lane.putFlag_axes (f : Fld) (b : Bool) : (l.putFlag f b).axes = l.axes := rfl
@[simp] theorem Lane.putFlag_power (f : Fld) (b : Bool) : (l.putFlag f b).power = l.power := rfl
@[simp] theorem Lane.putFlag_link (f : Fld) (b : Bool) : (l.putFlag f b).link = l.link := rfl
@[simp] theorem Lane.putFlag_loops (f : Fld) (b : Bool) : (l.putFlag f b).loops = l.loops := rfl
@[simp] theorem Lane.putFlag_wing (f : Fld) (b : Bool) : (l.putFlag f b).wing = l.wing := rfl
@[simp] theorem Lane.putFlag_seats (f : Fld) (b : Bool) : (l.putFlag f b).seats = l.seats := rfl
@[simp] theorem Lane.putFlag_call (f : Fld) (b : Bool) : (l.putFlag f b).call = l.call := rfl
@[simp] theorem Lane.putFlag_safety (f : Fld) (b : Bool) : (l.putFlag f b).safety = l.safety := rfl
@[simp] theorem Lane.putFlag_mode_ (f : Fld) (b : Bool) : (l.putFlag f b).mode_ = l.mode_ := rfl
@[simp] theorem Lane.putFlag_trust (f : Fld) (b : Bool) : (l.putFlag f b).trust = l.trust := rfl
@[simp] theorem Lane.putFlag_reh (f : Fld) (b : Bool) : (l.putFlag f b).reh = l.reh := rfl
@[simp] theorem Lane.putFlag_trio (f : Fld) (b : Bool) : (l.putFlag f b).trio = l.trio := rfl
@[simp] theorem Lane.putFlag_box (f : Fld) (b : Bool) : (l.putFlag f b).box = l.box := rfl
@[simp] theorem Lane.putFlag_ring (f : Fld) (b : Bool) : (l.putFlag f b).ring = l.ring := rfl
@[simp] theorem Lane.putFlag_tm (f : Fld) (b : Bool) : (l.putFlag f b).tm = l.tm := rfl
@[simp] theorem Lane.putFlag_can (f : Fld) (b : Bool) : (l.putFlag f b).can = l.can := rfl
@[simp] theorem Lane.putFlag_dict (f : Fld) (b : Bool) : (l.putFlag f b).dict = l.dict := rfl
@[simp] theorem Lane.putFlag_stage (f : Fld) (b : Bool) : (l.putFlag f b).stage = l.stage := rfl

@[simp] theorem Lane.raise_id (f : Fld) : (l.raise f).id = l.id := rfl
@[simp] theorem Lane.raise_sets (f : Fld) : (l.raise f).sets = (f.addr, f.mask) :: l.sets := rfl
@[simp] theorem Lane.raise_now (f : Fld) : (l.raise f).now = l.now := rfl
@[simp] theorem Lane.raise_ltime (f : Fld) : (l.raise f).ltime = l.ltime := rfl
@[simp] theorem Lane.raise_fresh (f : Fld) : (l.raise f).fresh = l.fresh := rfl
@[simp] theorem Lane.raise_emit (f : Fld) : (l.raise f).emit = l.emit := rfl
@[simp] theorem Lane.raise_log (f : Fld) : (l.raise f).log = l.log := rfl
@[simp] theorem Lane.raise_logNext (f : Fld) : (l.raise f).logNext = l.logNext := rfl
@[simp] theorem Lane.raise_axes (f : Fld) : (l.raise f).axes = l.axes := rfl
@[simp] theorem Lane.raise_power (f : Fld) : (l.raise f).power = l.power := rfl
@[simp] theorem Lane.raise_link (f : Fld) : (l.raise f).link = l.link := rfl
@[simp] theorem Lane.raise_loops (f : Fld) : (l.raise f).loops = l.loops := rfl
@[simp] theorem Lane.raise_wing (f : Fld) : (l.raise f).wing = l.wing := rfl
@[simp] theorem Lane.raise_seats (f : Fld) : (l.raise f).seats = l.seats := rfl
@[simp] theorem Lane.raise_call (f : Fld) : (l.raise f).call = l.call := rfl
@[simp] theorem Lane.raise_safety (f : Fld) : (l.raise f).safety = l.safety := rfl
@[simp] theorem Lane.raise_mode_ (f : Fld) : (l.raise f).mode_ = l.mode_ := rfl
@[simp] theorem Lane.raise_trust (f : Fld) : (l.raise f).trust = l.trust := rfl
@[simp] theorem Lane.raise_reh (f : Fld) : (l.raise f).reh = l.reh := rfl
@[simp] theorem Lane.raise_trio (f : Fld) : (l.raise f).trio = l.trio := rfl
@[simp] theorem Lane.raise_box (f : Fld) : (l.raise f).box = l.box := rfl
@[simp] theorem Lane.raise_ring (f : Fld) : (l.raise f).ring = l.ring := rfl
@[simp] theorem Lane.raise_tm (f : Fld) : (l.raise f).tm = l.tm := rfl
@[simp] theorem Lane.raise_can (f : Fld) : (l.raise f).can = l.can := rfl
@[simp] theorem Lane.raise_dict (f : Fld) : (l.raise f).dict = l.dict := rfl
@[simp] theorem Lane.raise_stage (f : Fld) : (l.raise f).stage = l.stage := rfl

@[simp] theorem Lane.mark_id (a : Nat) (w : Word) : (l.mark a w).id = l.id := rfl
@[simp] theorem Lane.mark_regs (a : Nat) (w : Word) : (l.mark a w).regs = l.regs := rfl
@[simp] theorem Lane.mark_sets (a : Nat) (w : Word) : (l.mark a w).sets = (a, w) :: l.sets := rfl
@[simp] theorem Lane.mark_now (a : Nat) (w : Word) : (l.mark a w).now = l.now := rfl
@[simp] theorem Lane.mark_ltime (a : Nat) (w : Word) : (l.mark a w).ltime = l.ltime := rfl
@[simp] theorem Lane.mark_fresh (a : Nat) (w : Word) : (l.mark a w).fresh = l.fresh := rfl
@[simp] theorem Lane.mark_emit (a : Nat) (w : Word) : (l.mark a w).emit = l.emit := rfl
@[simp] theorem Lane.mark_log (a : Nat) (w : Word) : (l.mark a w).log = l.log := rfl
@[simp] theorem Lane.mark_logNext (a : Nat) (w : Word) : (l.mark a w).logNext = l.logNext := rfl
@[simp] theorem Lane.mark_axes (a : Nat) (w : Word) : (l.mark a w).axes = l.axes := rfl
@[simp] theorem Lane.mark_power (a : Nat) (w : Word) : (l.mark a w).power = l.power := rfl
@[simp] theorem Lane.mark_link (a : Nat) (w : Word) : (l.mark a w).link = l.link := rfl
@[simp] theorem Lane.mark_loops (a : Nat) (w : Word) : (l.mark a w).loops = l.loops := rfl
@[simp] theorem Lane.mark_wing (a : Nat) (w : Word) : (l.mark a w).wing = l.wing := rfl
@[simp] theorem Lane.mark_seats (a : Nat) (w : Word) : (l.mark a w).seats = l.seats := rfl
@[simp] theorem Lane.mark_call (a : Nat) (w : Word) : (l.mark a w).call = l.call := rfl
@[simp] theorem Lane.mark_safety (a : Nat) (w : Word) : (l.mark a w).safety = l.safety := rfl
@[simp] theorem Lane.mark_mode_ (a : Nat) (w : Word) : (l.mark a w).mode_ = l.mode_ := rfl
@[simp] theorem Lane.mark_trust (a : Nat) (w : Word) : (l.mark a w).trust = l.trust := rfl
@[simp] theorem Lane.mark_reh (a : Nat) (w : Word) : (l.mark a w).reh = l.reh := rfl
@[simp] theorem Lane.mark_trio (a : Nat) (w : Word) : (l.mark a w).trio = l.trio := rfl
@[simp] theorem Lane.mark_box (a : Nat) (w : Word) : (l.mark a w).box = l.box := rfl
@[simp] theorem Lane.mark_ring (a : Nat) (w : Word) : (l.mark a w).ring = l.ring := rfl
@[simp] theorem Lane.mark_tm (a : Nat) (w : Word) : (l.mark a w).tm = l.tm := rfl
@[simp] theorem Lane.mark_can (a : Nat) (w : Word) : (l.mark a w).can = l.can := rfl
@[simp] theorem Lane.mark_dict (a : Nat) (w : Word) : (l.mark a w).dict = l.dict := rfl
@[simp] theorem Lane.mark_stage (a : Nat) (w : Word) : (l.mark a w).stage = l.stage := rfl
@[simp] theorem Lane.mark_word (a : Nat) (w : Word) (b : Nat) : (l.mark a w).word b = l.word b := rfl
@[simp] theorem Lane.mark_get (a : Nat) (w : Word) (g : Fld) : (l.mark a w).get g = l.get g := rfl
@[simp] theorem Lane.mark_flag (a : Nat) (w : Word) (g : Fld) : (l.mark a w).flag g = l.flag g := rfl
@[simp] theorem Lane.mark_getInt (a : Nat) (w : Word) (g : Fld) : (l.mark a w).getInt g = l.getInt g := rfl
@[simp] theorem Lane.mark_bit (a : Nat) (w : Word) (g : Fld) (i : Nat) : (l.mark a w).bit g i = l.bit g i := rfl
@[simp] theorem Lane.mark_lstate (a : Nat) (w : Word) : (l.mark a w).lstate = l.lstate := rfl
@[simp] theorem Lane.mark_mode (a : Nat) (w : Word) : (l.mark a w).mode = l.mode := rfl

@[simp] theorem Lane.drop_id (f : Fld) : (l.drop f).id = l.id := rfl
@[simp] theorem Lane.drop_sets (f : Fld) : (l.drop f).sets = l.sets := rfl
@[simp] theorem Lane.drop_now (f : Fld) : (l.drop f).now = l.now := rfl
@[simp] theorem Lane.drop_ltime (f : Fld) : (l.drop f).ltime = l.ltime := rfl
@[simp] theorem Lane.drop_fresh (f : Fld) : (l.drop f).fresh = l.fresh := rfl
@[simp] theorem Lane.drop_emit (f : Fld) : (l.drop f).emit = l.emit := rfl
@[simp] theorem Lane.drop_log (f : Fld) : (l.drop f).log = l.log := rfl
@[simp] theorem Lane.drop_logNext (f : Fld) : (l.drop f).logNext = l.logNext := rfl
@[simp] theorem Lane.drop_axes (f : Fld) : (l.drop f).axes = l.axes := rfl
@[simp] theorem Lane.drop_power (f : Fld) : (l.drop f).power = l.power := rfl
@[simp] theorem Lane.drop_link (f : Fld) : (l.drop f).link = l.link := rfl
@[simp] theorem Lane.drop_loops (f : Fld) : (l.drop f).loops = l.loops := rfl
@[simp] theorem Lane.drop_wing (f : Fld) : (l.drop f).wing = l.wing := rfl
@[simp] theorem Lane.drop_seats (f : Fld) : (l.drop f).seats = l.seats := rfl
@[simp] theorem Lane.drop_call (f : Fld) : (l.drop f).call = l.call := rfl
@[simp] theorem Lane.drop_safety (f : Fld) : (l.drop f).safety = l.safety := rfl
@[simp] theorem Lane.drop_mode_ (f : Fld) : (l.drop f).mode_ = l.mode_ := rfl
@[simp] theorem Lane.drop_trust (f : Fld) : (l.drop f).trust = l.trust := rfl
@[simp] theorem Lane.drop_reh (f : Fld) : (l.drop f).reh = l.reh := rfl
@[simp] theorem Lane.drop_trio (f : Fld) : (l.drop f).trio = l.trio := rfl
@[simp] theorem Lane.drop_box (f : Fld) : (l.drop f).box = l.box := rfl
@[simp] theorem Lane.drop_ring (f : Fld) : (l.drop f).ring = l.ring := rfl
@[simp] theorem Lane.drop_tm (f : Fld) : (l.drop f).tm = l.tm := rfl
@[simp] theorem Lane.drop_can (f : Fld) : (l.drop f).can = l.can := rfl
@[simp] theorem Lane.drop_dict (f : Fld) : (l.drop f).dict = l.dict := rfl
@[simp] theorem Lane.drop_stage (f : Fld) : (l.drop f).stage = l.stage := rfl

@[simp] theorem Lane.putBit_id (f : Fld) (j : Nat) (b : Bool) : (l.putBit f j b).id = l.id := rfl
@[simp] theorem Lane.putBit_sets (f : Fld) (j : Nat) (b : Bool) : (l.putBit f j b).sets = l.sets := rfl
@[simp] theorem Lane.putBit_now (f : Fld) (j : Nat) (b : Bool) : (l.putBit f j b).now = l.now := rfl
@[simp] theorem Lane.putBit_ltime (f : Fld) (j : Nat) (b : Bool) : (l.putBit f j b).ltime = l.ltime := rfl
@[simp] theorem Lane.putBit_fresh (f : Fld) (j : Nat) (b : Bool) : (l.putBit f j b).fresh = l.fresh := rfl
@[simp] theorem Lane.putBit_emit (f : Fld) (j : Nat) (b : Bool) : (l.putBit f j b).emit = l.emit := rfl
@[simp] theorem Lane.putBit_log (f : Fld) (j : Nat) (b : Bool) : (l.putBit f j b).log = l.log := rfl
@[simp] theorem Lane.putBit_logNext (f : Fld) (j : Nat) (b : Bool) : (l.putBit f j b).logNext = l.logNext := rfl
@[simp] theorem Lane.putBit_axes (f : Fld) (j : Nat) (b : Bool) : (l.putBit f j b).axes = l.axes := rfl
@[simp] theorem Lane.putBit_power (f : Fld) (j : Nat) (b : Bool) : (l.putBit f j b).power = l.power := rfl
@[simp] theorem Lane.putBit_link (f : Fld) (j : Nat) (b : Bool) : (l.putBit f j b).link = l.link := rfl
@[simp] theorem Lane.putBit_loops (f : Fld) (j : Nat) (b : Bool) : (l.putBit f j b).loops = l.loops := rfl
@[simp] theorem Lane.putBit_wing (f : Fld) (j : Nat) (b : Bool) : (l.putBit f j b).wing = l.wing := rfl
@[simp] theorem Lane.putBit_seats (f : Fld) (j : Nat) (b : Bool) : (l.putBit f j b).seats = l.seats := rfl
@[simp] theorem Lane.putBit_call (f : Fld) (j : Nat) (b : Bool) : (l.putBit f j b).call = l.call := rfl
@[simp] theorem Lane.putBit_safety (f : Fld) (j : Nat) (b : Bool) : (l.putBit f j b).safety = l.safety := rfl
@[simp] theorem Lane.putBit_mode_ (f : Fld) (j : Nat) (b : Bool) : (l.putBit f j b).mode_ = l.mode_ := rfl
@[simp] theorem Lane.putBit_trust (f : Fld) (j : Nat) (b : Bool) : (l.putBit f j b).trust = l.trust := rfl
@[simp] theorem Lane.putBit_reh (f : Fld) (j : Nat) (b : Bool) : (l.putBit f j b).reh = l.reh := rfl
@[simp] theorem Lane.putBit_trio (f : Fld) (j : Nat) (b : Bool) : (l.putBit f j b).trio = l.trio := rfl
@[simp] theorem Lane.putBit_box (f : Fld) (j : Nat) (b : Bool) : (l.putBit f j b).box = l.box := rfl
@[simp] theorem Lane.putBit_ring (f : Fld) (j : Nat) (b : Bool) : (l.putBit f j b).ring = l.ring := rfl
@[simp] theorem Lane.putBit_tm (f : Fld) (j : Nat) (b : Bool) : (l.putBit f j b).tm = l.tm := rfl
@[simp] theorem Lane.putBit_can (f : Fld) (j : Nat) (b : Bool) : (l.putBit f j b).can = l.can := rfl
@[simp] theorem Lane.putBit_dict (f : Fld) (j : Nat) (b : Bool) : (l.putBit f j b).dict = l.dict := rfl
@[simp] theorem Lane.putBit_stage (f : Fld) (j : Nat) (b : Bool) : (l.putBit f j b).stage = l.stage := rfl

@[simp] theorem Lane.bump_id (f : Fld) : (l.bump f).id = l.id := rfl
@[simp] theorem Lane.bump_sets (f : Fld) : (l.bump f).sets = l.sets := rfl
@[simp] theorem Lane.bump_now (f : Fld) : (l.bump f).now = l.now := rfl
@[simp] theorem Lane.bump_ltime (f : Fld) : (l.bump f).ltime = l.ltime := rfl
@[simp] theorem Lane.bump_fresh (f : Fld) : (l.bump f).fresh = l.fresh := rfl
@[simp] theorem Lane.bump_emit (f : Fld) : (l.bump f).emit = l.emit := rfl
@[simp] theorem Lane.bump_log (f : Fld) : (l.bump f).log = l.log := rfl
@[simp] theorem Lane.bump_logNext (f : Fld) : (l.bump f).logNext = l.logNext := rfl
@[simp] theorem Lane.bump_axes (f : Fld) : (l.bump f).axes = l.axes := rfl
@[simp] theorem Lane.bump_power (f : Fld) : (l.bump f).power = l.power := rfl
@[simp] theorem Lane.bump_link (f : Fld) : (l.bump f).link = l.link := rfl
@[simp] theorem Lane.bump_loops (f : Fld) : (l.bump f).loops = l.loops := rfl
@[simp] theorem Lane.bump_wing (f : Fld) : (l.bump f).wing = l.wing := rfl
@[simp] theorem Lane.bump_seats (f : Fld) : (l.bump f).seats = l.seats := rfl
@[simp] theorem Lane.bump_call (f : Fld) : (l.bump f).call = l.call := rfl
@[simp] theorem Lane.bump_safety (f : Fld) : (l.bump f).safety = l.safety := rfl
@[simp] theorem Lane.bump_mode_ (f : Fld) : (l.bump f).mode_ = l.mode_ := rfl
@[simp] theorem Lane.bump_trust (f : Fld) : (l.bump f).trust = l.trust := rfl
@[simp] theorem Lane.bump_reh (f : Fld) : (l.bump f).reh = l.reh := rfl
@[simp] theorem Lane.bump_trio (f : Fld) : (l.bump f).trio = l.trio := rfl
@[simp] theorem Lane.bump_box (f : Fld) : (l.bump f).box = l.box := rfl
@[simp] theorem Lane.bump_ring (f : Fld) : (l.bump f).ring = l.ring := rfl
@[simp] theorem Lane.bump_tm (f : Fld) : (l.bump f).tm = l.tm := rfl
@[simp] theorem Lane.bump_can (f : Fld) : (l.bump f).can = l.can := rfl
@[simp] theorem Lane.bump_dict (f : Fld) : (l.bump f).dict = l.dict := rfl
@[simp] theorem Lane.bump_stage (f : Fld) : (l.bump f).stage = l.stage := rfl

/-! ### The lanes of the block -/

@[simp] theorem State.onLane_pending (s : State) (i : LaneId) (f : Lane → Lane) : (s.onLane i f).pending = s.pending := by
  cases i <;> rfl

@[simp] theorem State.onLane_lane (s : State) (i : LaneId) (f : Lane → Lane) : (s.onLane i f).lane i = f (s.lane i) := by
  cases i <;> rfl

theorem State.onLane_other (s : State) {i j : LaneId} (f : Lane → Lane) (h : j ≠ i) : (s.onLane i f).lane j = s.lane j := by
  cases i <;> cases j <;> first | rfl | exact absurd rfl h

/-- An event of the logic die changes no lane but its own. -/
theorem State.logicEvent_other (s : State) (e : At) (f : Lane → Lane) {j : LaneId} (h : j ≠ e.lane) :
    (s.logicEvent e f).lane j = s.lane j := s.onLane_other _ h

/-- An event of the power die changes no lane but its own. -/
theorem State.powerEvent_other (s : State) (e : At) (f : Lane → Lane) {j : LaneId} (h : j ≠ e.lane) :
    (s.powerEvent e f).lane j = s.lane j := s.onLane_other _ h

/-- An event that acts whatever the supplies are changes no lane but its own. -/
theorem State.anyEvent_other (s : State) (e : At) (f : Lane → Lane) {j : LaneId} (h : j ≠ e.lane) :
    (s.anyEvent e f).lane j = s.lane j := s.onLane_other _ h

/-- While the logic die is up, its event acts at the event's moment. -/
theorem State.logicEvent_of_up {s : State} {e : At} (f : Lane → Lane) (h : (s.lane e.lane).logicUp = true) :
    s.logicEvent e f = s.onLane e.lane fun l => f (l.advanceTo e.t) := by
  unfold State.logicEvent
  cases e with | mk i t => cases i <;> simp_all [State.onLane, State.lane]

/-- While the logic die is unpowered or in reset, its events have no effect. -/
theorem State.logicEvent_of_down {s : State} {e : At} (f : Lane → Lane) (h : (s.lane e.lane).logicUp = false) :
    s.logicEvent e f = s := by
  unfold State.logicEvent
  cases e with | mk i t => cases i <;> simp_all [State.onLane, State.lane]

/-- While the power die is powered, its event acts at the event's moment. -/
theorem State.powerEvent_of_up {s : State} {e : At} (f : Lane → Lane) (h : (s.lane e.lane).monitorsUp = true) :
    s.powerEvent e f = s.onLane e.lane fun l => f (l.advanceTo e.t) := by
  unfold State.powerEvent
  cases e with | mk i t => cases i <;> simp_all [State.onLane, State.lane]

/-- While the power die is unpowered, its events have no effect. -/
theorem State.powerEvent_of_down {s : State} {e : At} (f : Lane → Lane) (h : (s.lane e.lane).monitorsUp = false) :
    s.powerEvent e f = s := by
  unfold State.powerEvent
  cases e with | mk i t => cases i <;> simp_all [State.onLane, State.lane]

@[simp] theorem State.logicEvent_pending (s : State) (e : At) (f : Lane → Lane) : (s.logicEvent e f).pending = s.pending := by
  simp [State.logicEvent]

@[simp] theorem State.powerEvent_pending (s : State) (e : At) (f : Lane → Lane) : (s.powerEvent e f).pending = s.pending := by
  simp [State.powerEvent]

@[simp] theorem State.anyEvent_pending (s : State) (e : At) (f : Lane → Lane) : (s.anyEvent e f).pending = s.pending := by
  simp [State.anyEvent]

end Sys2Proof.Machine
end

