-- ==== Sys2Proof/Tests/Slice0.lean ====
section
/-!
SUPPORT. The model's own tests: for each statement with premises, states and operands that meet them (a witness), and the
commands that `WellFormed` refuses.
-/

namespace Sys2Proof.Tests

open Sys2Proof.Machine

-- one test at a time: each waits for the kernel, and a waiting test holds a thread and its stack
set_option Elab.async false

/-! ### Building a small state -/

/-- The block after reset with lane A changed. -/
def onA (f : Lane → Lane) : State := { State.reset with laneA := f (.reset .A) }

/-- Two seconds into lane A's time. -/
def at0 : At := ⟨.A, 8000000000⟩

/-- Lane A is sound. -/
@[reducible] def sound (l : Lane) : Prop := l.id = .A ∧ RegFile.wf .A l.regs = true ∧ RegFile.wfStage l.stage = true

/-- The command finds lane A, built by `f`, in a sound state with both dies up, and `P` holds of that lane then. -/
@[reducible] def Meets (c : Instr) (f : Lane → Lane) (P : Lane → Prop) : Prop :=
  sound (f (.reset .A)) ∧ (f (.reset .A)).logicUp = true ∧ (f (.reset .A)).monitorsUp = true ∧ P ((onA f).before c)

/-- `Meets` for a command of the power die, the logic die down. -/
@[reducible] def MeetsPw (c : Instr) (f : Lane → Lane) (P : Lane → Prop) : Prop :=
  sound (f (.reset .A)) ∧ (f (.reset .A)).monitorsUp = true ∧ P ((onA f).before c)

/-- `Meets` for a command that needs no supply. -/
@[reducible] def MeetsDown (c : Instr) (f : Lane → Lane) (P : Lane → Prop) : Prop :=
  sound (f (.reset .A)) ∧ P ((onA f).before c)

/-- A LIVE lane in a module state. -/
def live (l : Lane) (m : Nat) : Lane := (l.put R.LC_STATE_MSTATE m).put R.LC_STATE_LSTATE 2

/-- A LIVE lane in which seat 0 holds the spotlight. -/
def hold (l : Lane) (m : Nat) : Lane := ((live l m).raise R.HS_SPOT_HELD).put R.HS_SPOTEND_LO_END 9

/-- A lane in WORKSHOP whose axis 0 runs on a confirmed book. -/
def drv (l : Lane) : Lane :=
  (((live l 10).put (R.DC_STAT_AXST 0) 1).raise (R.DC_CTRL_EN 0)).onTrust fun t => { t with state := 5 }

/-- Every axis stands still. -/
def still (l : Lane) : Lane := l.allAxes fun l n => l.raise (R.FB_STAT_STILL n)

def tx0 : Txn := ⟨0, false, false, 1, 5, 15⟩
def tx1 : Txn := ⟨0, false, false, 1, 6, 15⟩
def tx2 : Txn := ⟨0, false, false, 1, 7, 15⟩
def hd : Hdr := ⟨1, 0, false, 1, 0, 0, 7, 0, 0, 0⟩
/-- A frame header with link sequence 1 from lane B. -/
def fh : FrameHdr := ⟨3, 1, 3, 1, 0, 0, 0, 0⟩
def shd : SummaryHdr := ⟨3, 0, 0, 0⟩
def tz : Temps := ⟨(0, 0), (0, 0)⟩
def mz : Measured := ⟨0, 0, 0, 0, tz, 0⟩
def pk : Packet := ⟨hd, none, true, true, []⟩
def co : Cost := ⟨8, .n, 0, 0, 0, 0, Vector.replicate 4 0, Vector.replicate 4 0, 0⟩
def en0 : Envelope := ⟨[], 0⟩
def fw0 : FwImage := ⟨en0, true, true, 0⟩
def fwBad : FwImage := ⟨en0, false, true, 0⟩
/-- The header of an image with an empty body (R318). -/
def hdr0 (magic : Nat) : List Byte := beBytes 4 magic ++ [0, 1, 0, 0] ++ List.replicate 56 0
def fwOk : FwImage := ⟨⟨hdr0 0x41534B46, 1772⟩, true, true, 0⟩
def slot0 (size : Nat) : SlotRecord := makeRecord 1 size 0
def sr : StepResult := ⟨0, [], false, [], 0, 0, [], [], [], [], 0, 0, 0, 0, []⟩
def swA : Vector (CodeSweep × CodeSweep) 12 := Vector.replicate 12 (⟨none, true⟩, ⟨some 2, true⟩)
def swB : Vector (CodeSweep × CodeSweep) 12 := Vector.replicate 12 (⟨some (-2), true⟩, ⟨some 3, true⟩)
def cf : CanFrame := ⟨0, false, false, false, false, false, 0, []⟩
def cr : CartRead := ⟨7, 0, true, ⟨0, 0, .A, 0⟩, true, 100, [], false⟩
def mi : MirrorSet :=
  ⟨0, ⟨none, 0, 0, none, none, false⟩, ⟨[], [], [], [], [], []⟩, Vector.replicate 4 0, Vector.replicate 4 0, 0⟩
def ab : AxisBlock :=
  ⟨0, 0, false, false, false, false, false, false, false, false, false, false, false, 0, 0, 0, 0, 0, 0, 0, 0, 0⟩
def sm : Summary :=
  ⟨0, 2, 4, 4, false, 0, 7, (2, 2), false, false, 0, 1, false, 0, 0, 0, 0, 0, [], Vector.replicate 4 ab⟩
/-- A book with no section, which the first check refuses. -/
def bk0 : Book :=
  ⟨en0, none, none, 0, none, none, none, none, none, none, Vector.replicate 2 none, none, none, none, [], [], none⟩
def st0 : StopSection := ⟨Vector.replicate 4 2, 9, 0, 1, 1, Vector.replicate 4 0, Vector.replicate 4 0, [], true⟩
def bkOk : Book := { bk0 with envelope := ⟨hdr0 0x41534B50, 1772⟩, ecdsa := some 0, lms := some 0 }
def regs2 : List RegEntry := (List.range 2).flatMap fun n =>
  [⟨R.DC_CTRL n, 7, 1⟩, ⟨R.DC_RESID n, 7, 1⟩, ⟨R.FB_CFG n, 7, 8⟩, ⟨R.FB_SER2 n, 7, 0x00020018⟩, ⟨R.LE_AXCFG n, 7, 2⟩,
    ⟨R.LE_SCALE n, 7, 0x00010001⟩, ⟨R.LE_FCRV n 7, 7, 0x10000⟩, ⟨R.LE_KF n, 7, 1⟩]
def tab2 : AxisTables := ⟨List.replicate 9 0x80808080, [], List.replicate 54 0x90909090, []⟩
def tab0 : AxisTables := ⟨[], [], [], []⟩
/-- A book that every check passes: axis 0 a service axis and axis 1 a hold axis of one control cycle of 1 ms. -/
def okBook : Book := { bkOk with
  machine := some ⟨false, 1000, Vector.replicate 8 none, Vector.replicate 3 none, false, 100⟩
  registers := some regs2
  tables := some #v[tab2, tab2, tab0, tab0]
  tasks := some []
  safety := some ⟨{ st0 with roles := #v[2, 3, 0, 0], points := [(0, 0)] },
    (List.range 4).map fun m => ⟨R.SF_KOCFG m, 7, 1⟩⟩
  signals := some ⟨[⟨9, 4, 1, .seat 0, 0, 0, 0, 0, 0, []⟩], [], [], []⟩ }
def okSolo : Book := { okBook with machine := okBook.machine.map fun m => { m with laneCAbsent := true } }
def bk : Book := { bk0 with safety := some ⟨st0, []⟩ }
def enBook : Book := { bk0 with registers := some [⟨R.DC_CTRL 0, 7, 1⟩] }
def tk : TaskEntry := ⟨1, false, 1, 0, 0, co, 1, []⟩
def taskBook : Book := { bk0 with tasks := some [tk] }
def sigBook : Book := { bk0 with signals := some ⟨[⟨7, 4, 0, .seat 0, 0, 0, 0, 0, 0, []⟩], [], [], []⟩ }
def cue0 : CueEntry := ⟨0, 64, 1, 0, 0, 1⟩
def sheet0 : CueSheet := ⟨0, 1, 0, 0, 0, [cue0]⟩
def ringOf (c : CueEntry) : Book :=
  { bk0 with cues := some (Vector.replicate 3 (some ⟨⟨[(1, 10), (2, 10)], 1, 1, []⟩, [{ sheet0 with cues := [c] }]⟩)) }
def ringBook : Book := ringOf cue0
/-- The sheet of this book needs 1000 Mbit/s. -/
def ringFast : Book :=
  { bk0 with cues := some (Vector.replicate 3 (some ⟨⟨[(1, 10), (2, 10)], 1, 1, []⟩, [{ sheet0 with rate := 0 }]⟩)) }
/-- A Virec frame of sheet 0 and cycle 0, and as it arrives, the links measured at 25 ns. -/
def vf (version type src cue len : Nat) : List Byte :=
  virecFrame 34997 ⟨version, type, false, false, 0, 0, 1, src, cue, 0⟩ (List.replicate len 0)
def vin (b : List Byte) : VirecIn := ⟨b, [100, 100], []⟩
/-- Node 2 on the ring of `ringOf c` in a ring state, port 0 up, `q` quarter nanoseconds after the cue instant. -/
def node2 (l : Lane) (c : CueEntry) (state q : Nat) : Lane :=
  ((((((l.raise R.VR_CFG_EN).put R.VR_PSTATW_LINK 2).put R.VR_STAT_STATE state).put R.VR_CFG_NODE 2).onTrust fun t =>
    { t with book := some (ringOf c) })).onRing fun r => { r with cueAt := (8000000000 - q) * 2 ^ 22 }
/-- A START of a node in lane time 7, cycle 3, sheet 0. -/
def sf (src : Nat) : List Byte :=
  virecFrame 34997 ⟨1, 2, false, false, 0, 0, 63, src, 0, 0⟩ (startBytes ⟨src, 7, 3, 0, 0⟩)
def mSw : MonitorSweep := ⟨0, 0⟩
def mSw7 : MonitorSweep := ⟨740, 790⟩
def fc : PacketFacts := ⟨true, true, true, bk0, fw0, true, 0⟩
def pin : PacketIn := ⟨[], fc⟩
/-- A STOP of class 1 from seat 0 to all lanes, in a session of number 5, with a tag of zeros. -/
def stopPkt : List Byte :=
  let b : List Byte := [1, 0, 0, 0, 0, 1, 0x03, 0x05, 0, 0, 7, 1, 0, 0, 0, 5]
  b ++ beBytes 4 (crc32c b).toNat ++ List.replicate 16 0
def stopIn : PacketIn := ⟨stopPkt, fc⟩
/-- The same with its CRC spoilt; of another version. -/
def badIn : PacketIn := ⟨stopPkt.set 17 0, fc⟩
def oldIn : PacketIn :=
  let b : List Byte := [2, 0, 0, 0, 0, 1, 0x03, 0x05, 0, 0, 7, 0, 0, 0, 0, 0]
  ⟨b ++ beBytes 4 (crc32c b).toNat, fc⟩
/-- Seat 0 of the SEAT port, in session 5. -/
def seat0 (l : Lane) (m : Nat) : Lane :=
  (((((((live l m).raise R.HS_PORT_EN).put R.HS_PORT_SEAT 0).raise (R.HS_SCFG_DEF 0)).put (R.HS_SCFG_MAXCLS 0) 3).raise
    (R.HS_SSEQ_OPEN 0)).setWord (R.HS_SSES 0) 5)

/-- The reset state meets the hypothesis of the invariant. -/
theorem witness_sound : State.reset.Sound := ⟨⟨rfl, rfl, rfl⟩, ⟨rfl, rfl, rfl⟩, ⟨rfl, rfl, rfl⟩⟩

/-- After reset the logic die runs and the power die is powered. -/
theorem witness_runs : State.reset.Runs at0 ∧ State.reset.Powered at0 := ⟨⟨witness_sound, rfl⟩, witness_sound, rfl⟩

/-- The premises of PaceAndCoreVoltage can be met. -/
theorem witness_PaceAndCoreVoltage :
    (Meets (.gaugeRead at0 (Vector.replicate 16 0) (Vector.replicate 16 0)) id fun l => (∀ x ∈ (Vector.replicate 16 0
      : Vector Nat 16).toList, x ≤ l.get R.PW_GFLOOR_LLIM) ∧ (∀ x ∈ (Vector.replicate 16 0 : Vector Nat 16).toList, x
      ≤ l.get R.PW_GFLOOR_PLIM)) ∧
    (Meets (.gaugeRead at0 (Vector.replicate 16 65535) (Vector.replicate 16 0)) (fun l => l.put R.PW_VCSET_TARGET
      800) fun l => (∃ x ∈ (Vector.replicate 16 65535 : Vector Nat 16).toList, l.get R.PW_GFLOOR_LLIM < x) ∧
      l.power.goal ≤ l.get R.PW_VCSET_TARGET ∧ l.power.logicSince = none ∧ l.power.powerSince = none) ∧
    (Meets (.gaugeRead at0 (Vector.replicate 16 0) (Vector.replicate 16 65535)) id fun l => (∀ x ∈ (Vector.replicate
      16 0 : Vector Nat 16).toList, x ≤ l.get R.PW_GFLOOR_LLIM) ∧ (∃ x ∈ (Vector.replicate 16 65535 : Vector Nat
      16).toList, l.get R.PW_GFLOOR_PLIM < x)) ∧
    (Meets (.deficitPersist at0 true) (fun l => l.onPower fun q => { q with powerSince := some 0 }) fun l =>
      l.power.powerSince = some 0 ∧ 0 + us 100 ≤ l.now) ∧
    (Meets (.deficitPersist at0 false) (fun l => l.onPower fun q =>
      { q with logicSince := some 0, maxSince := some 0 }) fun l => l.power.logicSince = some 0 ∧ 0 + us 100 ≤ l.now
      ∧ l.power.maxSince = some 0) ∧
    (Meets (.vcoreStep at0) (fun l => l.put R.PW_VCSET_TARGET 780) fun l => l.get R.PW_VCSET_TARGET < l.power.goal ∧
      l.power.goal ≤ 900 ∧ l.power.lastStep + us 2 ≤ l.now) ∧
    (Meets (.vcoreStep at0) (fun l => (l.put R.PW_VCSET_TARGET 800).onPower fun q => { q with goal := 780 }) fun l =>
      l.power.goal < l.get R.PW_VCSET_TARGET ∧ l.power.lastStep + us 2 ≤ l.now) ∧
    (Meets (.vcoreRiseDone at0 739) id fun _ => 739 < 740) ∧
    (Meets (.vcoreRiseDone at0 740) id fun l => 740 ≤ 740 ∧ 740 < 1024 ∧ l.mode_.enableWait = false) ∧
    (Meets (.vcoreRiseTimeout ⟨at0, 739⟩) (fun l => l.onPower fun q => { q with riseSince := some 0 }) fun l =>
      l.power.riseSince = some 0 ∧ 0 + us 90 ≤ l.now ∧ 739 < 740) ∧
    (Meets (.vcoreRiseTimeout ⟨at0, 740⟩) id fun l => l.power.riseSince = none ∧ l.mode_.enableWait = false ∧ 740 <
      1024 ∧ 740 ≤ 740) ∧
    (Meets (.coreUndervoltage ⟨at0, 1999⟩ 714) id fun _ => 714 < 715 ∧ 1999 < 2000) ∧
    (Meets (.coreUndervoltage ⟨at0, 2000⟩ 714) id fun l => 714 < 715 ∧ 2000 ≤ 2000 ∧ 740 ≤ l.coreFloor ∧
      l.power.riseSince = none ∧ l.power.risenAt + us 2 ≤ l.now) ∧
    (Meets (.coreOvervoltage ⟨at0, 2000⟩ 931) id fun l => 930 < 931 ∧ 2000 ≤ 2000 ∧ l.power.phase ≠ .shutdown ∧
      l.power.phase ≠ .stopped) := by
  refine ⟨?_, ?_, ?_, ?_, ?_, ?_, ?_, ?_, ?_, ?_, ?_, ?_, ?_, ?_⟩ <;> decide +kernel

/-- The premises of ReferenceAndPowerUp can be met. -/
theorem witness_ReferenceAndPowerUp :
    (Meets (.referenceLoss ⟨at0, 24749999, 20⟩) id fun _ => (24749999 < 24750000 ∨ 25250000 < 24749999) ∧ 20 ≤ 20) ∧
    (MeetsDown (.powerUp ⟨at0, 681⟩ true) (fun l => l.onPower fun q => { q with phase := .unpowered }) fun l => 680 <
      681 ∧ l.power.phase = .unpowered) ∧
    (MeetsPw (.pllLock at0) (fun l => l.onPower fun q => { q with phase := .oscillator }) fun l => l.power.phase =
      .oscillator) ∧
    (Meets (.pllLock at0) id fun l => l.power.phase = .up) ∧
    (MeetsPw (.supplyWindowMiss ⟨at0, 1⟩) (fun l => l.onPower fun q => { q with phase := .supplies }) fun l =>
      l.power.phase = .supplies ∧ l.power.phaseAt + ms 3 ≤ l.now) ∧
    (MeetsPw (.supplyWindowMiss ⟨at0, 0⟩) (fun l => l.onPower fun q =>
      { q with phase := .supplies, phaseAt := 7992000000 }) fun l => l.power.phase = .supplies ∧ l.power.phaseAt + ms
      2 ≤ l.now) ∧
    (MeetsPw (.supplyRetry at0) (fun l => l.onPower fun q => { q with phase := .retryWait }) fun l => l.power.phase =
      .retryWait ∧ l.power.phaseAt + ms 50 ≤ l.now) ∧
    (MeetsPw (.logicRelease ⟨at0, 780⟩ true) (fun l => l.onPower fun q =>
      { q with phase := .supplies, phaseAt := 7999999999 }) fun l => l.power.phase = .supplies ∧ 780 ≤ 780 ∧ 780 ≤
      820 ∧ l.now ≤ l.power.phaseAt + ms 5 ∧ l.power.lostCause = false ∧ l.power.ovLatch = false) := by
  refine ⟨?_, ?_, ?_, ?_, ?_, ?_, ?_, ?_⟩ <;> decide +kernel

/-- The premises of PowerDownAndTemperature can be met. -/
theorem witness_PowerDownAndTemperature :
    (Meets (.vinReserve at0 65535) id fun l => 65535 < 65536 ∧ l.get R.PW_RESERVE_THR + 50 < 65535 ∧ l.get
      R.PW_RESERVE_THR ≤ 65535) ∧
    (Meets (.vinReserve at0 0) (fun l => l.put R.PW_RESERVE_THR 1) fun l => 0 < l.get R.PW_RESERVE_THR) ∧
    (Meets (.vinReserve at0 120) (fun l => l.put R.PW_RESERVE_THR 100) fun l => 120 < 65536 ∧ l.get R.PW_RESERVE_THR
      ≤ 120 ∧ 120 ≤ l.get R.PW_RESERVE_THR + 50) ∧
    (Meets (.supLedgerClose at0) (fun l => l.onBox fun q => { q with supSince := some 0 }) fun l => l.box.supSince =
      some 0 ∧ 0 + ms 10 ≤ l.now) ∧
    (MeetsPw (.vinUndervoltage ⟨at0, 0⟩) (fun l => l.onPower fun q => { q with phase := .shutdown }) fun l => 0 < 600
      ∧ l.power.phase = .shutdown) ∧
    (MeetsPw (.vinUndervoltage ⟨at0, 0⟩) (fun l => l.onPower fun q => { q with phase := .stopped }) fun l => 0 < 600
      ∧ l.power.phase = .stopped) ∧
    (Meets (.vinUndervoltage ⟨at0, 0⟩) id fun l => 0 < 600 ∧ l.power.phase = .up) ∧
    (MeetsPw (.shutdownSequenceEnd ⟨at0, true⟩ true) (fun l => l.onPower fun q =>
      { q with phase := .shutdown, byOv := true }) fun l => l.power.phase = .shutdown ∧ l.power.byOv = true ∧
      l.power.vinFell = false) ∧
    (MeetsPw (.shutdownSequenceEnd ⟨at0, true⟩ true) (fun l => l.onPower fun q => { q with phase := .shutdown }) fun
      l => l.power.phase = .shutdown ∧ l.power.byOv = false) ∧
    (Meets (.temperatureWarning at0 ((tz : Temps).ld) ((tz : Temps).pd)) id fun l => hottest tz < (l.get
      R.PW_TLIM_WARN : Int) ∧ -2 ^ 15 ≤ max (tz : Temps).ld.1 (tz : Temps).ld.2 ∧ max (tz : Temps).ld.1 (tz :
      Temps).ld.2 < 2 ^ 15) ∧
    (Meets (.temperatureWarning at0 (({ tz with ld := (0, 32767) } : Temps).ld) (({ tz with ld := (0, 32767) } :
      Temps).pd)) id fun l => -2 ^ 15 ≤ max ({ tz with ld := (0, 32767) } : Temps).ld.1 ({ tz with ld := (0, 32767) }
      : Temps).ld.2 ∧ max ({ tz with ld := (0, 32767) } : Temps).ld.1 ({ tz with ld := (0, 32767) } : Temps).ld.2 < 2
      ^ 15 ∧ (l.get R.PW_TLIM_WARN : Int) ≤ hottest ({ tz with ld := (0, 32767) } : Temps) ∧ l.flag
      R.PW_SUPSTAT_TWARN = false) ∧
    (Meets (.temperatureTrip at0 tz 1000) id fun l => (hottest tz < (l.get R.PW_TLIM_TRIP : Int) ∨ 1000 < 1000)) ∧
    (Meets (.temperatureTrip at0 { tz with pd := (32767, 0) } 1000) id fun l => (l.get R.PW_TLIM_TRIP : Int) ≤
      hottest ({ tz with pd := (32767, 0) } : Temps) ∧ 1000 ≤ 1000) ∧
    (MeetsPw (.testHigh at0) (fun l => l.onPower fun q => { q with phase := .supplies }) fun l => l.logicUp = false) ∧
    (Meets (.testHigh at0) id fun l => l.logicUp = true) := by
  refine ⟨?_, ?_, ?_, ?_, ?_, ?_, ?_, ?_, ?_, ?_, ?_, ?_, ?_, ?_, ?_⟩ <;> decide +kernel

/-- The premises of UnderstudyAndTable can be met. -/
theorem witness_UnderstudyAndTable :
    (Meets (.ladderCrossing at0 0 0 0 true 0 false) (fun l => (l.put (R.DC_LADCFG_EN 0) 1).onAx 0 fun q =>
      { q with queue := List.replicate 16 ⟨0, 0, 0, true, false⟩ }) fun l => l.bit (R.DC_LADCFG_EN 0) (0 : Fin 8).val
      = true ∧ 16 ≤ (l.ax 0).queue.length) ∧
    (Meets (.ladderCrossing at0 0 0 0 true 0 true) (fun l => l.put (R.DC_LADCFG_EN 0) 1) fun l => l.bit
      (R.DC_LADCFG_EN 0) (0 : Fin 8).val = true) ∧
    (Meets (.ladderCrossing at0 0 0 0 true 0 false) (fun l => l.put (R.DC_LADCFG_EN 0) 1) fun l => l.bit
      (R.DC_LADCFG_EN 0) (0 : Fin 8).val = true ∧ (l.ax 0).queue.length < 16) ∧
    (Meets (.droppedUpdate at0 0) id fun l => (l.ax 0).us.dropped = 0) ∧
    (Meets (.droppedUpdate at0 0) (fun l => (l.onAx 0 fun q => { q with us := { q.us with dropped := 1 } }).put
      (R.DC_STAT_AXST 0) 1) fun l => 1 ≤ (l.ax 0).us.dropped ∧ l.inService 0 = true ∧ l.inRecatch 0 = false) ∧
    (Meets (.droppedUpdate at0 0) (fun l => (l.onAx 0 fun q => { q with us := { q.us with dropped := 1 } }).put
      (R.DC_STAT_AXST 0) 5) fun l => 1 ≤ (l.ax 0).us.dropped ∧ (l.inService 0 = false ∨ l.inRecatch 0 = true)) ∧
    (Meets (.copyDisagreement at0 0 3) (fun l => (l.put (R.DC_CNT_CDCNT 0) 7).onAx 0 fun q =>
      { q with prot := { q.prot with disagree := 2 } }) fun l => 3 &&& ~~~(l.ax 0).prot.disagree ≠ 0 ∧ 8 ≤ l.get
      (R.DC_CNT_CDCNT 0) + count6 (3 &&& ~~~(l.ax 0).prot.disagree)) ∧
    (Meets (.tableParity at0 0 1) (fun l => l.onAx 0 fun q =>
      { q with prot := { q.prot with parityAt := some (0, 7999999999) } }) fun l => (l.ax 0).prot.parityAt = some
      ((0, 7999999999) : Fin 2 × Nat) ∧ l.now < ((0, 7999999999) : Fin 2 × Nat).2 + ms 1000) ∧
    (Meets (.dwellEnd at0 0) id fun l => (l.ax 0).sw.dwellEnd ≤ l.now ∧ l.looksUp 0 = false) ∧
    (Meets (.dwellEnd at0 0) (fun l => drv l) fun l => (l.ax 0).sw.dwellEnd ≤ l.now ∧ l.looksUp 0 = true) ∧
    (Meets (.rateHoldRelease at0 0) id fun l => l.internal 0 = true ∧ l.looksUp 0 = false) ∧
    (Meets (.rateHoldRelease at0 0) (fun l => (drv l).raise (R.DC_STAT_RATEHOLD 0)) fun l => l.internal 0 = true ∧
      l.flag (R.DC_STAT_RATEHOLD 0) = true ∧ l.looksUp 0 = true) ∧
    (Meets (.rateHoldRelease at0 0) (fun l => l.put (R.GD_CFG_SRC 0) 1) fun l => l.internal 0 = false ∧ l.rank3 0 =
      none) ∧
    (Meets (.rateHoldRelease at0 0) (fun l => (l.put (R.GD_CFG_SRC 0) 1).onLink fun q => { q with ov2 := true }) fun
      l => l.internal 0 = false ∧ l.rank3 0 ≠ none) := by
  refine ⟨?_, ?_, ?_, ?_, ?_, ?_, ?_, ?_, ?_, ?_, ?_, ?_, ?_, ?_⟩ <;> decide +kernel

/-- The premises of RecatchAndEnable can be met. -/
theorem witness_RecatchAndEnable :
    (Meets (.ascEnd at0 0) (fun l => (l.onAx 0 fun q => { q with recatch := some ⟨0, 0, 0⟩ }).put (R.DC_STAT_AXST 0)
      2) fun l => (l.ax 0).recatch = some (⟨0, 0, 0⟩ : RecatchState) ∧ l.axst 0 = .asc ∧ l.since (⟨0, 0, 0⟩ :
      RecatchState).declared (us (100 * l.get (R.DC_RCATCH_ASCMIN 0))) = true) ∧
    (Meets (.decayDone at0 0) (fun l => (l.onAx 0 fun q => { q with recatch := some ⟨0, 7999600000, 0⟩ }).put
      (R.DC_STAT_AXST 0) 3) fun l => (l.ax 0).recatch = some (⟨0, 7999600000, 0⟩ : RecatchState) ∧ l.axst 0 = .decay
      ∧ l.since (⟨0, 7999600000, 0⟩ : RecatchState).quietSince (us 100) = true) ∧
    (Meets (.recatchFail at0 0) (fun l => (l.onAx 0 fun q => { q with recatch := some ⟨0, 0, 0⟩ }).put
      (R.DC_STAT_AXST 0) 4) fun l => (l.ax 0).recatch = some (⟨0, 0, 0⟩ : RecatchState) ∧ l.inRecatch 0 = true ∧
      l.since (⟨0, 0, 0⟩ : RecatchState).declared (ms 20) = true) ∧
    (Meets (.substituteTimeout at0 0) (fun l => l.onAx 0 fun q =>
      { q with us := { q.us with substSince := some 0 } }) fun l => (l.ax 0).us.substSince = some 0 ∧ l.since 0 (ms
      (l.get (R.DC_BEMF1_SUBSTMAX 0))) = true) ∧
    (Meets (.axisEnable at0 0) (fun l => (((live l 10).raise (R.FB_STAT_VALID 0)).onTrust fun q =>
      { q with state := 5 }).put R.PW_VCSET_MEAS 740) fun l => l.get (R.DC_CTRL_EN 0) = 0 ∧ l.enableRefused 0 = none
      ∧ l.fbValid 0 = true ∧ l.fewSets = false ∧ l.inService 0 = true ∧ l.modeDrives 0 = true ∧ l.coreReady = true) := by
  refine ⟨?_, ?_, ?_, ?_, ?_⟩ <;> decide +kernel

/-- The premises of GateProtection can be met. -/
theorem witness_GateProtection :
    (Meets (.prechargeEnd at0 0 7) (fun l => (l.onAx 0 fun q =>
      { q with refresh := { q.refresh with precharge := some 0 } }).raise (R.FB_STAT_VALID 0)) fun l => (l.ax
      0).refresh.precharge = some 0 ∧ 0 + us (l.get (R.GD_BSTCFG2_PRE 0)) ≤ l.now ∧ l.internal 0 = true ∧ l.inService
      0 = true ∧ l.fbValid 0 = true ∧ l.get (R.GD_STAT_BSTUV 0) = 0) ∧
    (Meets (.peakTrip at0 0 0 true true) (fun l => l.put (R.GD_STAT_ON 0) 2) fun l => l.conducting 0 0 = some (1 :
      Switch)) ∧
    (Meets (.peakTrip at0 0 0 false true) (fun l => l.put (R.GD_STAT_ON 0) 1) fun l => l.conducting 0 0 = some (0 :
      Switch)) ∧
    (Meets (.vdsTrip ⟨at0, 65535⟩ 0 1) (fun l => (l.put (R.GD_STAT_ON 0) 2).onAx 0 fun q =>
      { q with sw := { q.sw with turnOns := Vector.replicate 6 [0] } }) fun l => l.get (R.GD_VDS_THR 0) < 65535 ∧
      l.onFor 0 1 (40 * l.get (R.GD_VDS_BLANK 0)) = true ∧ ((l.on 0).getLsbD (1 : Switch).val = true ∨ l.turningOff 0
      1 = true)) ∧
    (Meets (.ceilingTrip ⟨at0, 65535, Config.armLevel⟩ 0 1) (fun l => (l.put (R.GD_STAT_ON 0) 2).put (R.GD_VDS_THR 0)
      300) fun l => l.ceilingLevel 0 < 65535 ∧ (l.on 0).getLsbD 1 = true) ∧
    (Meets (.tier1Decision at0 0) (fun l => l.onAx 0 fun q =>
      { q with prot := { q.prot with trips := [(1, true)] } }) fun l => (l.ax 0).prot.trips = [((1 : Switch), true)]) ∧
    (Meets (.tier1Decision at0 0) (fun l => l.onAx 0 fun q =>
      { q with prot := { q.prot with trips := [(1, true), (3, false)] } }) fun l => (1 : Switch) ≠ (3 : Switch) ∧
      (l.ax 0).prot.trips = [((1 : Switch), true), ((3 : Switch), false)] ∧ l.inService 0 = true) ∧
    (Meets (.deadTimeEnd ⟨at0, true, true⟩ 0 0 true true) (fun l => l.onAx 0 fun q =>
      { q with sw := { q.sw with cmd := 1, turnOns := Vector.replicate 6 [7999999999] } }) fun l => (l.ax
      0).sw.cmd.getLsbD (0 : Switch).val = true ∧ (l.ax 0).sw.cmd.getLsbD (peerOf 0).val = false ∧ (l.on 0).getLsbD
      (0 : Switch).val = false ∧ (l.on 0).getLsbD (peerOf 0).val = false ∧ (l.ax 0).sw.offAt[peerOf 0] + 40 * l.get
      (R.GD_DT_DT 0) ≤ l.now ∧ l.bit (R.GD_FAULT_GSTK 0) (peerOf 0).val = false ∧ l.rank3 0 = none ∧ l.rateOk 0 0 =
      false ∧ l.internal 0 = true) ∧
    (Meets (.deadTimeEnd ⟨at0, true, true⟩ 0 0 true true) (fun l => (l.put (R.GD_CFG_SRC 0) 1).onAx 0 fun q =>
      { q with sw := { q.sw with cmd := 1, turnOns := Vector.replicate 6 [7999999999] } }) fun l => (l.ax
      0).sw.cmd.getLsbD (0 : Switch).val = true ∧ (l.ax 0).sw.cmd.getLsbD (peerOf 0).val = false ∧ (l.on 0).getLsbD
      (0 : Switch).val = false ∧ (l.on 0).getLsbD (peerOf 0).val = false ∧ (l.ax 0).sw.offAt[peerOf 0] + 40 * l.get
      (R.GD_DT_DT 0) ≤ l.now ∧ l.bit (R.GD_FAULT_GSTK 0) (peerOf 0).val = false ∧ l.rank3 0 = none ∧ l.rateOk 0 0 =
      false ∧ l.internal 0 = false) ∧
    (Meets (.deadTimeEnd ⟨at0, true, true⟩ 0 1 true true) (fun l => l.onAx 0 fun q =>
      { q with sw := { q.sw with cmd := 2 } }) fun l => (l.ax 0).sw.cmd.getLsbD (1 : Switch).val = true ∧ (l.ax
      0).sw.cmd.getLsbD (peerOf 1).val = false ∧ (l.on 0).getLsbD (1 : Switch).val = false ∧ (l.on 0).getLsbD (peerOf
      1).val = false ∧ (l.ax 0).sw.offAt[peerOf 1] + 40 * l.get (R.GD_DT_DT 0) ≤ l.now ∧ l.bit (R.GD_FAULT_GSTK 0)
      (peerOf 1).val = false ∧ (l.rank3 0 ≠ none ∨ l.rateOk 0 1 = true) ∧ (1 : Switch).val % 2 = 1) ∧
    (Meets (.deadTimeEnd ⟨at0, true, true⟩ 0 0 true true) (fun l => l.onAx 0 fun q =>
      { q with sw := { q.sw with cmd := 1 } }) fun l => (l.ax 0).sw.cmd.getLsbD (0 : Switch).val = true ∧ (l.ax
      0).sw.cmd.getLsbD (peerOf 0).val = false ∧ (l.on 0).getLsbD (0 : Switch).val = false ∧ (l.on 0).getLsbD (peerOf
      0).val = false ∧ (l.ax 0).sw.offAt[peerOf 0] + 40 * l.get (R.GD_DT_DT 0) ≤ l.now ∧ l.bit (R.GD_FAULT_GSTK 0)
      (peerOf 0).val = false ∧ (l.rank3 0 ≠ none ∨ l.rateOk 0 0 = true) ∧ (0 : Switch).val % 2 = 0 ∧ (l.ax
      0).refresh.due.getLsbD (phaseOf 0).val = false) ∧
    (Meets (.deadTimeEnd ⟨at0, true, true⟩ 0 0 true true) (fun l => (drv l).onAx 0 fun q =>
      { q with sw := { q.sw with cmd := 1 }, refresh := { q.refresh with due := 1 } }) fun l => (l.ax
      0).sw.cmd.getLsbD (0 : Switch).val = true ∧ (l.ax 0).sw.cmd.getLsbD (peerOf 0).val = false ∧ (l.on 0).getLsbD
      (0 : Switch).val = false ∧ (l.on 0).getLsbD (peerOf 0).val = false ∧ (l.ax 0).sw.offAt[peerOf 0] + 40 * l.get
      (R.GD_DT_DT 0) ≤ l.now ∧ l.bit (R.GD_FAULT_GSTK 0) (peerOf 0).val = false ∧ (l.rank3 0 ≠ none ∨ l.rateOk 0 0 =
      true) ∧ (0 : Switch).val % 2 = 0 ∧ (l.ax 0).refresh.due.getLsbD (phaseOf 0).val = true ∧ l.mayInsert 0 (bit3
      (phaseOf 0)) (if true then bit3 (phaseOf 0) else 0) = true) ∧
    (Meets (.gateOffFailure ⟨at0, 201⟩ 0 1) id fun l => 200 < 201 ∧ (l.ax 0).sw.cmd.getLsbD (1 : Switch).val = false
      ∧ (l.ax 0).sw.offAt[(1 : Switch)] + us 2 ≤ l.now) ∧
    (Meets (.faultClear at0 0 2) (fun l => live l 10) fun l => l.mode = .workshop ∧ (2 : BitVec 6).getLsbD (1 :
      Switch).val = true) := by
  refine ⟨?_, ?_, ?_, ?_, ?_, ?_, ?_, ?_, ?_, ?_, ?_, ?_, ?_, ?_⟩ <;> decide +kernel

/-- The premises of DirectInputs can be met. -/
theorem witness_DirectInputs :
    (Meets (.ginChange at0 0 1) id fun l => l.internal 0 = true) ∧
    (Meets (.ginChange at0 0 3) (fun l => l.put (R.GD_CFG_SRC 0) 2) fun l => l.get (R.GD_CFG_SRC 0) = 2 ∧ (3 : BitVec
      6).getLsbD (highOf (0 : Phase)).val = true ∧ (3 : BitVec 6).getLsbD (lowOf (0 : Phase)).val = true ∧ (l.bit
      (R.GD_GIN_LEVEL 0) (highOf (0 : Phase)).val = false ∨ l.bit (R.GD_GIN_LEVEL 0) (lowOf (0 : Phase)).val = false)
      ∧ l.internal 0 = false ∧ l.rank3 0 = none) ∧
    (Meets (.ginChange at0 0 1) (fun l => l.put (R.GD_CFG_SRC 0) 1) fun l => l.internal 0 = false ∧ l.rank3 0 = none
      ∧ l.get (R.GD_CFG_SRC 0) = 1 ∧ (1 : BitVec 6).getLsbD (lowOf (0 : Phase)).val = false) ∧
    (Meets (.ginChange at0 0 3) (fun l => l.put (R.GD_CFG_SRC 0) 1) fun l => l.internal 0 = false ∧ l.rank3 0 = none
      ∧ l.get (R.GD_CFG_SRC 0) = 1 ∧ (3 : BitVec 6).getLsbD (lowOf (0 : Phase)).val = true ∧ (3 : BitVec 6).getLsbD
      (highOf (0 : Phase)).val = true) ∧
    (Meets (.ginChange at0 0 2) (fun l => l.put (R.GD_CFG_SRC 0) 1) fun l => l.internal 0 = false ∧ l.rank3 0 = none
      ∧ l.get (R.GD_CFG_SRC 0) = 1 ∧ (2 : BitVec 6).getLsbD (lowOf (0 : Phase)).val = true ∧ (2 : BitVec 6).getLsbD
      (highOf (0 : Phase)).val = false) ∧
    (Meets (.ginChange at0 0 2) (fun l => (l.put (R.GD_CFG_SRC 0) 1).onLink fun q => { q with ov2 := true }) fun l =>
      l.internal 0 = false ∧ l.rank3 0 ≠ none) := by
  refine ⟨?_, ?_, ?_, ?_, ?_, ?_⟩ <;> decide +kernel

/-- The premises of VgAndBootstrap can be met. -/
theorem witness_VgAndBootstrap :
    (Meets (.vgLockout ⟨at0, 749⟩) id fun _ => 749 < 750) ∧
    (Meets (.vgLockoutPersist at0) (fun l => l.onPower fun q => { q with vgSince := some 0 }) fun l =>
      l.power.vgSince = some 0 ∧ 0 + us 100 ≤ l.now) ∧
    (Meets (.vgRecover ⟨at0, 801⟩) (fun l => l.onPower fun q => { q with vgSince := some 0 }) fun _ => 800 < 801) ∧
    (Meets (.bootstrapLockout ⟨at0, 749⟩ 0 0) (fun l => l.onAx 0 fun q =>
      { q with refresh := { q.refresh with precharge := some 0 } }) fun l => 749 < 750 ∧ (l.ax
      0).refresh.precharge.isSome = true) ∧
    (Meets (.bootstrapLockout ⟨at0, 749⟩ 0 0) (fun l => l.onAx 0 fun q =>
      { q with prot := { q.prot with lockouts := Vector.replicate 3 [7999999999, 7999999998] } }) fun l => 749 < 750
      ∧ (l.ax 0).refresh.precharge = none ∧ 2 ≤ (((l.ax 0).prot.lockouts[(0 : Phase)]).filter fun t => decide (l.now
      < t + ms 1000)).length) ∧
    (Meets (.bootstrapRecover ⟨at0, 801⟩ 0 0) (fun l => l.onAx 0 fun q =>
      { q with prot := { q.prot with bstOut := 1, restarted := 1 } }) fun l => 800 < 801 ∧ (l.ax
      0).prot.restarted.getLsbD (0 : Phase).val = true) ∧
    (Meets (.bootstrapRecover ⟨at0, 801⟩ 0 0) (fun l => l.onAx 0 fun q =>
      { q with prot := { q.prot with bstOut := 1 } }) fun l => 800 < 801 ∧ (l.ax 0).prot.restarted.getLsbD (0 :
      Phase).val = false) := by
  refine ⟨?_, ?_, ?_, ?_, ?_, ?_, ?_⟩ <;> decide +kernel

/-- The premises of RefreshAndLeakCheck can be met. -/
theorem witness_RefreshAndLeakCheck :
    (Meets (.refreshTimerRestart ⟨at0, 65535⟩ 0 0) (fun l => (l.put (R.GD_STAT_ON 0) 2).onAx 0 fun q =>
      { q with sw := { q.sw with turnOns := Vector.replicate 6 [0] }, refresh := { q.refresh with inserting := 1 }, prot := { q.prot with supplied := 7, bstOut := 1 } })
      fun l => l.get (R.GD_BSTCFG_REFW 0) ≤ 65535 ∧ l.insertDone 0 0 = true ∧ (l.ax 0).prot.supplied.getLsbD (0 :
      Phase).val = true) ∧
    (Meets (.refreshPending at0 0 0) id fun l => l.since (l.ax 0).refresh.timers[(0 : Phase)] (us (100 * (l.get
      (R.GD_BSTCFG_REFT 0) - l.get (R.GD_BSTCFG_PEND 0)))) = true) ∧
    (Meets (.refreshInsert at0 0 1 0) (fun l => (drv l).put (R.GD_STAT_ON 0) 1) fun l => (l.refreshSet 0 1).getLsbD
      (0 : Phase).val = true ∧ (l.on 0).getLsbD (highOf (0 : Phase)).val = true ∧ l.mayInsert 0 (l.refreshSet 0 1) 0
      = true ∧ (1 : BitVec 3).getLsbD (0 : Phase).val = true ∧ (l.ax 0).refresh.timers[(0 : Phase)] + us (100 * l.get
      (R.GD_BSTCFG_REFT 0)) ≤ l.now) ∧
    (Meets (.refreshInsert at0 0 1 0) (fun l => l.put (R.GD_STAT_ON 0) 1) fun l => (1 : BitVec 3).getLsbD (0 :
      Phase).val = true ∧ (l.ax 0).refresh.timers[(0 : Phase)] + us (100 * l.get (R.GD_BSTCFG_REFT 0)) ≤ l.now ∧
      (l.refreshSet 0 1).getLsbD (0 : Phase).val = true ∧ (l.on 0).getLsbD (highOf (0 : Phase)).val = true ∧
      l.mayInsert 0 (l.refreshSet 0 1) 0 = false) ∧
    (Meets (.refreshInsert at0 0 1 0) (fun l => drv l) fun l => (1 : BitVec 3).getLsbD (0 : Phase).val = true ∧ (l.ax
      0).refresh.timers[(0 : Phase)] + us (100 * l.get (R.GD_BSTCFG_REFT 0)) ≤ l.now ∧ l.refreshSet 0 1 ≠ 0 ∧ (∀ p :
      Phase, (l.refreshSet 0 1).getLsbD p.val = true → (l.on 0).getLsbD (highOf p).val = false)) ∧
    (Meets (.refreshLate at0 0) (fun l => l.onAx 0 fun q =>
      { q with refresh := { q.refresh with dueSince := some 0 } }) fun l => (l.ax 0).refresh.dueSince = some 0 ∧ 0 +
      us 100 ≤ l.now) ∧
    (Meets (.leakCheckStart at0 0 1 801) (fun l => l.put (R.GD_LKCTL_REQ 0) 2) fun l => l.leakMayStart 0 1 801 =
      true) ∧
    (Meets (.leakCheckStart at0 0 0 800) (fun l => l.put (R.GD_LKCTL_REQ 0) 1) fun l => l.leakMayStart 0 0 800 =
      false ∧ (0 : Switch).val % 2 = 0 ∧ 800 ≤ 800) ∧
    (Meets (.leakCheckEnd at0 0 1 (.void) ⟨0, 0, 0, 0⟩) (fun l => l.onAx 0 fun q => { q with leak := ⟨[(1, 0)]⟩ })
      fun l => (l.ax 0).leak.running.find? (fun x => x.1 == 1) = some (1, 0) ∧ 0 + us 20 ≤ l.now ∧ (.void :
      LeakResult) = .void) ∧
    (Meets (.leakCheckEnd at0 0 1 (.fail) ⟨0, 0, 0, 0⟩) (fun l => l.onAx 0 fun q => { q with leak := ⟨[(1, 0)]⟩ })
      fun l => (l.ax 0).leak.running.find? (fun x => x.1 == 1) = some (1, 0) ∧ 0 + us 20 ≤ l.now ∧ (.fail :
      LeakResult) = .fail ∧ l.bit (R.GD_LKCTL_FAIL1 0) (1 : Switch).val = false) ∧
    (Meets (.leakCheckEnd at0 0 1 (.fail) ⟨0, 0, 0, 0⟩) (fun l => (l.onAx 0 fun q =>
      { q with leak := ⟨[(1, 0)]⟩ }).put (R.GD_LKCTL_FAIL1 0) 2) fun l => (l.ax 0).leak.running.find? (fun x => x.1
      == 1) = some (1, 0) ∧ 0 + us 20 ≤ l.now ∧ (.fail : LeakResult) = .fail ∧ l.bit (R.GD_LKCTL_FAIL1 0) (1 :
      Switch).val = true) ∧
    (Meets (.leakCheckEnd at0 0 1 (.pass) ⟨0, 0, 0, 0⟩) (fun l => ((l.onAx 0 fun q =>
      { q with leak := ⟨[(1, 0)]⟩ }).onReh fun q => { q with sweepAsked := Vector.replicate 4 63 }).put (R.GD_VDS_THR
      0) 300) fun l => (l.ax 0).leak.running.find? (fun x => x.1 == 1) = some (1, 0) ∧ 0 + us 20 ≤ l.now ∧ (.pass :
      LeakResult) = .pass ∧ (.pass : LeakResult) ≠ .void ∧ l.reh.sweepAsked[(0 : Axis)].getLsbD (1 : Switch).val =
      true ∧ l.switchSweepOk 0 1 (⟨0, 0, 0, 0⟩ : SwitchSweep) = false) := by
  refine ⟨?_, ?_, ?_, ?_, ?_, ?_, ?_, ?_, ?_, ?_, ?_, ?_⟩ <;> decide +kernel

/-- The premises of OverVoltageStages can be met. -/
theorem witness_OverVoltageStages :
    (Meets (.ov1Enter at0 0) id fun l => 0 < l.get R.GD_OVA_OV1) ∧
    (Meets (.ov1Enter at0 65535) (fun l => l.raise R.GD_OVCFG_CHEN) fun l => l.get R.GD_OVA_OV1 ≤ 65535 ∧ l.link.ov1
      = false ∧ l.chopperUsable = true ∧ l.link.bchOnAt = none) ∧
    (Meets (.ov1Enter at0 65535) (fun l => (l.raise R.GD_OVCFG_CHEN).onLink fun q => { q with bchOnAt := some 0 })
      fun l => l.get R.GD_OVA_OV1 ≤ 65535 ∧ l.link.ov1 = false ∧ l.chopperUsable = true ∧ l.link.bchOnAt = some 0 ∧ 0
      + us 20 ≤ l.now) ∧
    (Meets (.ov1Enter at0 65535) (fun l => (l.raise R.GD_OVCFG_CHEN).onLink fun q =>
      { q with bchOnAt := some 7999999999 }) fun l => l.get R.GD_OVA_OV1 ≤ 65535 ∧ l.link.ov1 = false ∧
      l.chopperUsable = true ∧ l.link.bchOnAt = some 7999999999 ∧ l.now < 7999999999 + us 20 ∧ l.flag R.GD_VMSTAT_BCH
      = false) ∧
    (Meets (.ov1Release at0 65535) id fun l => l.get R.GD_OVA_OV1 < 65535 + l.get R.GD_OVH_CHH) ∧
    (Meets (.ov1Release at0 0) (fun l => l.onLink fun q => { q with ov1 := true }) fun l => 0 + l.get R.GD_OVH_CHH ≤
      l.get R.GD_OVA_OV1 ∧ l.link.ov1 = true ∧ l.link.ov2 = false ∧ l.link.ov3 = false ∧ l.link.ovmax = false ∧
      l.minOnRuns = false) ∧
    (Meets (.ov1Release at0 0) (fun l => l.onLink fun q => { q with ov2 := true }) fun l => (l.link.ov2 = true ∨
      l.link.ov3 = true ∨ l.link.ovmax = true)) ∧
    (Meets (.ov2Enter at0 0) id fun l => 0 < l.get R.GD_OVA_OV2) ∧
    (Meets (.ov2Enter at0 65535) (fun l => l.put (R.GD_CFG_SRC 0) 1) fun l => l.get R.GD_OVA_OV2 ≤ 65535 ∧ l.link.ov2
      = false ∧ l.internal 0 = false) ∧
    (Meets (.ov2Release at0 0) (fun l => l.onLink fun q => { q with ov2 := true }) fun l => 0 + l.get R.GD_OVH_RELH ≤
      l.get R.GD_OVA_OV2 ∧ l.link.ov3 = false ∧ l.link.ovmax = false) ∧
    (Meets (.ov2Release at0 0) (fun l => l.onLink fun q => { q with ov3 := true }) fun l => (l.link.ov3 = true ∨
      l.link.ovmax = true)) ∧
    (Meets (.ov2Release at0 65535) (fun l => l.onLink fun q => { q with ov2 := true }) fun l => l.get R.GD_OVA_OV2 <
      65535 + l.get R.GD_OVH_RELH) ∧
    (Meets (.ov3Enter at0 0) id fun l => 0 < l.get R.GD_OVB_OV3) ∧
    (Meets (.ov3Enter at0 65535) (fun l => l.onAx 0 fun q => { q with us := { q.us with lastWord := 7999999999 } })
      fun l => l.get R.GD_OVB_OV3 ≤ 65535 ∧ l.link.ov3 = false ∧ l.atSpeed 0 = false ∧ l.axst 0 ≠ .asc) ∧
    (Meets (.ov3Release ⟨at0, 1000⟩ 0) (fun l => l.onLink fun q => { q with ov3 := true }) fun l => 1000 ≤ 1000 ∧
      l.link.ovmax = false ∧ 0 + l.get R.GD_OVH_RELH ≤ l.get R.GD_OVB_OV3) ∧
    (Meets (.ov3Release ⟨at0, 999⟩ 65535) (fun l => l.onLink fun q => { q with ovmax := true }) fun l => (l.link.ov3
      = false ∨ l.link.ovmax = true) ∧ 999 < 1000 ∧ l.get R.GD_OVB_OV3 < 65535 + l.get R.GD_OVH_RELH) ∧
    (Meets (.ovmax at0 0) id fun l => 0 < l.get R.GD_OVB_OVMAX) ∧
    (Meets (.ovmax at0 65535) id fun l => l.get R.GD_OVB_OVMAX ≤ 65535 ∧ l.link.ovmax = false) := by
  refine ⟨?_, ?_, ?_, ?_, ?_, ?_, ?_, ?_, ?_, ?_, ?_, ?_, ?_, ?_, ?_, ?_, ?_, ?_⟩ <;> decide +kernel

/-- The premises of Chopper can be met. -/
theorem witness_Chopper :
    (Meets (.chopperFault at0) (fun l => (l.onLink fun q => { q with bchOnAt := some 0 }).raise R.GD_VMSTAT_BCH) fun
      l => l.link.bchOnAt = some 0 ∧ l.flag R.GD_VMSTAT_BCH = true ∧ 0 + us 2 ≤ l.now) ∧
    (Meets (.stuckChopper ⟨at0, 10⟩) id fun l => 10 ≤ 10 ∧ l.flag R.GD_VMSTAT_BCH = false ∧ l.link.bchOffAt + us 2 <
      l.now) ∧
    (Meets (.chopperMinOnEnd at0) (fun l => l.raise R.GD_VMSTAT_BCH) fun l => l.flag R.GD_VMSTAT_BCH = true ∧
      l.minOnRuns = false ∧ l.link.releaseHeld = false) ∧
    (Meets (.chopperMinOnEnd at0) (fun l => (l.raise R.GD_VMSTAT_BCH).onLink fun q => { q with releaseHeld := true })
      fun l => l.flag R.GD_VMSTAT_BCH = true ∧ l.minOnRuns = false ∧ l.link.releaseHeld = true) ∧
    (Meets (.chopperIntervalEnd at0) (fun l => (l.onLink fun q =>
      { q with bchOnAt := some 0, bchHeld := true, ov1 := true }).raise R.GD_OVCFG_CHEN) fun l => l.link.bchOnAt =
      some 0 ∧ 0 + us 20 ≤ l.now ∧ l.link.bchHeld = true ∧ l.link.ov1 = true ∧ l.chopperUsable = true) := by
  refine ⟨?_, ?_, ?_, ?_, ?_⟩ <;> decide +kernel

/-- The premises of EncoderFeedback can be met. -/
theorem witness_EncoderFeedback :
    (Meets (.countEdge at0 0 (.a true 99999)) (fun l => l.put (R.FB_CFG_INC 0) 1) fun l => (.a true 99999 : EdgeIn) =
      .a true 99999 ∧ filterPasses (l.get (R.FB_FILT_QGLT 0)) 99999 = true ∧ l.levelA 0 ≠ true ∧ l.get (R.FB_CFG_INC
      0) = 1) ∧
    (Meets (.countEdge at0 0 (.a true 99999)) (fun l => l.put (R.FB_CFG_INC 0) 2) fun l => (.a true 99999 : EdgeIn) =
      .a true 99999 ∧ filterPasses (l.get (R.FB_FILT_QGLT 0)) 99999 = true ∧ l.levelA 0 ≠ true ∧ l.get (R.FB_CFG_INC
      0) = 2 ∧ (l.fb 0).bAt + ns 50 ≤ l.edgeStamp 0) ∧
    (Meets (.countEdge at0 0 (.a true 99999)) (fun l => l.put (R.FB_CFG_INC 0) 3) fun l => (.a true 99999 : EdgeIn) =
      .a true 99999 ∧ filterPasses (l.get (R.FB_FILT_QGLT 0)) 99999 = true ∧ l.levelA 0 ≠ true ∧ l.get (R.FB_CFG_INC
      0) = 3) ∧
    (Meets (.countEdge at0 0 (.a true 99999)) (fun l => l.put (R.FB_CFG_INC 0) 0) fun l => (.a true 99999 : EdgeIn) =
      .a true 99999 ∧ filterPasses (l.get (R.FB_FILT_QGLT 0)) 99999 = true ∧ l.levelA 0 ≠ true ∧ l.get (R.FB_CFG_INC
      0) = 0) ∧
    (Meets (.countEdge at0 0 (.a false 99999)) (fun l => (l.put (R.FB_CFG_INC 0) 2).put (R.FB_STAT_ABZ 0) 7) fun l =>
      (.a false 99999 : EdgeIn) = .a false 99999 ∧ filterPasses (l.get (R.FB_FILT_QGLT 0)) 99999 = true ∧ l.levelA 0
      ≠ false ∧ 2 ≤ l.get (R.FB_CFG_INC 0)) ∧
    (Meets (.countEdge at0 0 (.b true 99999)) (fun l => l.put (R.FB_CFG_INC 0) 1) fun l => (.b true 99999 : EdgeIn) =
      .b true 99999 ∧ filterPasses (l.get (R.FB_FILT_QGLT 0)) 99999 = true ∧ l.levelB 0 ≠ true ∧ l.get (R.FB_CFG_INC
      0) = 1) ∧
    (Meets (.countEdge at0 0 (.b true 99999)) (fun l => l.put (R.FB_CFG_INC 0) 3) fun l => (.b true 99999 : EdgeIn) =
      .b true 99999 ∧ filterPasses (l.get (R.FB_FILT_QGLT 0)) 99999 = true ∧ l.levelB 0 ≠ true ∧ l.get (R.FB_CFG_INC
      0) = 3) ∧
    (Meets (.countEdge at0 0 (.pair true true true 4 99999 99999)) (fun l => l.put (R.FB_CFG_INC 0) 1) fun l =>
      (.pair true true true 4 99999 99999 : EdgeIn) = .pair true true true 4 99999 99999 ∧ filterPasses (l.get
      (R.FB_FILT_QGLT 0)) 99999 = true ∧ l.levelA 0 ≠ true ∧ l.levelB 0 ≠ true ∧ l.get (R.FB_CFG_INC 0) = 1 ∧ 4 < 5) ∧
    (Meets (.countEdge at0 0 (.pair true true false 31 99999 99999)) (fun l => l.put (R.FB_CFG_INC 0) 1) fun l =>
      (.pair true true false 31 99999 99999 : EdgeIn) = .pair true true false 31 99999 99999 ∧ filterPasses (l.get
      (R.FB_FILT_QGLT 0)) 99999 = true ∧ l.levelA 0 ≠ true ∧ l.levelB 0 ≠ true ∧ l.get (R.FB_CFG_INC 0) = 1 ∧ 30 <
      31) ∧
    (Meets (.indexPulse ⟨at0, false, 99999⟩ 0 0) id fun l => filterPasses (l.get (R.FB_FILT_QGLT 0)) 99999 = true ∧
      l.flag (R.FB_IDX_EN 0) = false) ∧
    (Meets (.indexPulse ⟨at0, true, 99999⟩ 0 0) (fun l => l.put (R.FB_STAT_ABZ 0) 1) fun l => filterPasses (l.get
      (R.FB_FILT_QGLT 0)) 99999 = true ∧ l.flag (R.FB_IDX_EN 0) = false ∧ l.bit (R.FB_STAT_ABZ 0) 0 = true) ∧
    (Meets (.indexPulse ⟨at0, true, 99999⟩ 0 1) id fun l => filterPasses (l.get (R.FB_FILT_QGLT 0)) 99999 = true ∧
      l.flag (R.FB_IDX_EN 0) = false ∧ l.get (R.FB_IDX_GATE 0) ≠ (1 : BitVec 2).toNat) ∧
    (Meets (.indexPulse ⟨at0, true, 99999⟩ 0 0) (fun l => ((l.raise (R.FB_IDX_EN 0)).put (R.FB_CPR_CPR 0) 256).put
      (R.FB_POS_POS 0) 1) fun l => filterPasses (l.get (R.FB_FILT_QGLT 0)) 99999 = true ∧ l.bit (R.FB_STAT_ABZ 0) 0 =
      false ∧ l.flag (R.FB_IDX_EN 0) = true ∧ l.get (R.FB_IDX_GATE 0) = (0 : BitVec 2).toNat ∧ l.indexDistance 0 ≠ 0) ∧
    (Meets (.probeEdge ⟨at0, 99999999⟩ 0 true) (fun l => (l.put (R.FB_CTRL_PRBEDGE 0) 3).put (R.FB_STAT_PRBFULL 0) 1)
      fun l => filterPasses (l.get (R.FB_FILT_PGLT 0)) 99999999 = true ∧ l.bit (R.FB_CTRL_PRBEDGE 0) (if true then 0
      else 1) = true ∧ l.get (R.FB_STAT_PRBFULL 0) = 1) ∧
    (Meets (.probeEdge ⟨at0, 99999999⟩ 0 false) (fun l => (l.put (R.FB_CTRL_PRBEDGE 0) 3).onAx 0 fun q =>
      { q with fb := { q.fb with armed := true } }) fun l => filterPasses (l.get (R.FB_FILT_PGLT 0)) 99999999 = true
      ∧ l.bit (R.FB_CTRL_PRBEDGE 0) (if false then 0 else 1) = true ∧ l.get (R.FB_STAT_PRBFULL 0) = 0 ∧ (l.fb
      0).armed = true) ∧
    (Meets (.stall at0 0) (fun l => (l.onAx 0 fun q => { q with fb := { q.fb with stamps := [0] } }).put
      (R.FB_CFG_INC 0) 1) fun l => (l.fb 0).stamps = 0 :: ([]) ∧ l.get (R.FB_CFG_INC 0) ≠ 0 ∧ 0 + ms (l.get
      (R.FB_SPDCFG_STALL 0)) ≤ l.now) := by
  refine ⟨?_, ?_, ?_, ?_, ?_, ?_, ?_, ?_, ?_, ?_, ?_, ?_, ?_, ?_, ?_, ?_⟩ <;> decide +kernel

/-- The premises of SerialAndHall can be met. -/
theorem witness_SerialAndHall :
    (Meets (.serialFrameSend at0 0) (fun l => (l.put (R.FB_CFG_SER 0) 1).raise (R.FB_STAT_SERLOCK 0)) fun l => l.get
      (R.FB_CFG_SER 0) ≠ 0 ∧ l.periodOver 0 = true ∧ (l.flag (R.FB_STAT_SERLOCK 0) = true ∨ (l.fb
      0).serial.negotiating = true)) ∧
    (Meets (.serialFrame at0 0 ⟨false, 0, 0⟩) (fun l => l.onAx 0 fun q =>
      { q with fb := { q.fb with serial := { q.fb.serial with latched := some (0, 0) } } }) fun l => (l.fb
      0).serial.latched ≠ none ∧ (l.fb 0).serial.negotiating = false ∧ ((⟨false, 0, 0⟩ : SerialFrameIn).inTime &&
      l.frameCrcOk 0 (⟨false, 0, 0⟩ : SerialFrameIn) && !l.frameErr 0 (⟨false, 0, 0⟩ : SerialFrameIn)) = false) ∧
    (Meets (.serialFrame at0 0 ⟨false, 0, 0⟩) (fun l => l.onAx 0 fun q =>
      { q with fb := { q.fb with serial := { q.fb.serial with latched := some (0, 0), negotiating := true } } }) fun
      l => (l.fb 0).serial.latched ≠ none ∧ (l.fb 0).serial.negotiating = true ∧ ((⟨false, 0, 0⟩ :
      SerialFrameIn).inTime && l.frameCrcOk 0 (⟨false, 0, 0⟩ : SerialFrameIn) && !l.frameErr 0 (⟨false, 0, 0⟩ :
      SerialFrameIn)) = false ∧ (⟨false, 0, 0⟩ : SerialFrameIn).delay ≤ 2000 ∧ (l.fb 0).serial.frames < 255) ∧
    (Meets (.serialFrame at0 0 ⟨false, 0, 2001⟩) (fun l => l.onAx 0 fun q =>
      { q with fb := { q.fb with serial := { q.fb.serial with latched := some (0, 0), negotiating := true } } }) fun
      l => (l.fb 0).serial.latched ≠ none ∧ (l.fb 0).serial.negotiating = true ∧ ((⟨false, 0, 2001⟩ :
      SerialFrameIn).inTime && l.frameCrcOk 0 (⟨false, 0, 2001⟩ : SerialFrameIn) && !l.frameErr 0 (⟨false, 0, 2001⟩ :
      SerialFrameIn)) = false ∧ (2000 < (⟨false, 0, 2001⟩ : SerialFrameIn).delay ∨ 255 ≤ (l.fb 0).serial.frames)) ∧
    (Meets (.serialFrame at0 0 ⟨true, 0, 0⟩) (fun l => (l.onAx 0 fun q =>
      { q with fb := { q.fb with serial := { q.fb.serial with latched := some (0, 0) } } }).put (R.FB_SER0_CRCL 0) 0)
      fun l => (l.fb 0).serial.latched ≠ none ∧ (l.fb 0).serial.negotiating = false ∧ ((⟨true, 0, 0⟩ :
      SerialFrameIn).inTime && l.frameCrcOk 0 (⟨true, 0, 0⟩ : SerialFrameIn) && !l.frameErr 0 (⟨true, 0, 0⟩ :
      SerialFrameIn)) = true) ∧
    (Meets (.serialFrame at0 0 ⟨true, 0, 0⟩) (fun l => (l.onAx 0 fun q =>
      { q with fb := { q.fb with serial := { q.fb.serial with latched := some (0, 0), negotiating := true, clean := 63 } } }).put
      (R.FB_SER0_CRCL 0) 0) fun l => (l.fb 0).serial.latched ≠ none ∧ (l.fb 0).serial.negotiating = true ∧ ((⟨true,
      0, 0⟩ : SerialFrameIn).inTime && l.frameCrcOk 0 (⟨true, 0, 0⟩ : SerialFrameIn) && !l.frameErr 0 (⟨true, 0, 0⟩ :
      SerialFrameIn)) = true ∧ 63 ≤ (l.fb 0).serial.clean) ∧
    (Meets (.reneg at0 0) (fun l => (live l 4).put (R.FB_CFG_SER 0) 1) fun l => (l.mode = .hold ∨ l.mode = .workshop)
      ∧ l.get (R.FB_CFG_SER 0) ≠ 0) ∧
    (Meets (.hallTransition at0 0 1) (fun l => ((l.put (R.FB_STAT_HALL 0) 5).raise (R.FB_CFG_HALLEN 0)).put
      (R.FB_HALL_HTOL 0) 0) fun l => l.get (R.FB_STAT_HALL 0) ≠ (1 : BitVec 3).toNat ∧ l.flag (R.FB_CFG_HALLEN 0) =
      true ∧ hallSector (l.get (R.FB_STAT_HALL 0)) = some 0 ∧ hallSector (1 : BitVec 3).toNat = some 1 ∧ hallBoundary
      0 1 = some 1 ∧ (l.get (R.FB_HALL_HTOL 0) : Rat) < ratAbs (angleDiff (65536 / 6 * (1 : Rat) + (l.get
      (R.FB_HALL_HOFS 0) : Rat) - (l.thetaEnc 0 + (l.get (R.DC_THOFS_OFS 0) : Rat))))) ∧
    (Meets (.hallTransition at0 0 1) (fun l => ((l.put (R.FB_STAT_HALL 0) 5).raise (R.FB_CFG_HALLEN 0)).put
      (R.FB_HALL_HTOL 0) 65535) fun l => l.get (R.FB_STAT_HALL 0) ≠ (1 : BitVec 3).toNat ∧ l.flag (R.FB_CFG_HALLEN 0)
      = true ∧ hallSector (l.get (R.FB_STAT_HALL 0)) = some 0 ∧ hallSector (1 : BitVec 3).toNat = some 1 ∧
      hallBoundary 0 1 = some 1 ∧ ratAbs (angleDiff (65536 / 6 * (1 : Rat) + (l.get (R.FB_HALL_HOFS 0) : Rat) -
      (l.thetaEnc 0 + (l.get (R.DC_THOFS_OFS 0) : Rat)))) ≤ (l.get (R.FB_HALL_HTOL 0) : Rat)) ∧
    (Meets (.hallInvalid at0 0) (fun l => l.raise (R.FB_CFG_HALLEN 0)) fun l => l.flag (R.FB_CFG_HALLEN 0) = true ∧
      (l.get (R.FB_STAT_HALL 0) = 0 ∨ l.get (R.FB_STAT_HALL 0) = 7) ∧ (l.fb 0).hallAt + ms 1 ≤ l.now) ∧
    (Meets (.lineFault ⟨at0, 99, 1000⟩ 0 (.a)) id fun _ => (99 : Int).natAbs < 100 ∧ 1000 ≤ 1000) ∧
    (Meets (.lineGood ⟨at0, .a, 1000⟩ 0) id fun l => (l.fb 0).lineAt[(0 : Fin 4)] + ms 1 ≤ l.now) := by
  refine ⟨?_, ?_, ?_, ?_, ?_, ?_, ?_, ?_, ?_, ?_, ?_, ?_⟩ <;> decide +kernel

/-- The premises of BeatAndLockstep can be met. -/
theorem witness_BeatAndLockstep :
    (Meets (.beatStart at0 mz) (fun l => live l 4) fun l => l.wing.agreed = []) ∧
    (Meets (.receiveDeadline at0) (fun l => l.onWing fun q => { q with closed := false }) fun l => l.wing.closed =
      false ∧ l.wing.beatAt + us 24 ≤ l.now) ∧
    (Meets (.receiveDeadline at0) (fun l => ((live l 4).onWing fun q =>
      { q with closed := false, firstHold := true }).put R.WG_STAT_P1ST 2) fun l => l.wing.closed = false ∧
      l.wing.beatAt + us 24 ≤ l.now ∧ l.wing.firstHold = true ∧ l.box.agreeDrop ≠ some l.wing.beatNo ∧
      ((l.flushLinks.closeBeat.decideRelay).judgeLoss l.wing.missed).lstate ≠ .out) ∧
    (Meets (.loopDeadlineDrop at0 (.loops 0)) (fun l => l.onWing fun q => { q with closed := false }) fun l =>
      (.loops 0 : DropKind) = .loops (0 : Axis) ∧ l.wing.closed = false ∧ (l.lp (0 : Axis)).dropped = false) ∧
    (Meets (.loopDeadlineDrop at0 (.agreement)) (fun l => l.onWing fun q => { q with closed := false }) fun l =>
      (.agreement : DropKind) = .agreement ∧ l.box.agreeDrop ≠ some l.wing.beatNo ∧ l.wing.closed = false) ∧
    (Meets (.loopDeadlineDrop at0 (.agreement)) (fun l => (l.onWing fun q =>
      { q with closed := true, beatNo := 5 }).onBox fun q => { q with agreeDrop := some 4 }) fun l => (.agreement :
      DropKind) = .agreement ∧ l.box.agreeDrop ≠ some l.wing.beatNo ∧ l.wing.closed = true ∧ l.box.agreeDrop = some
      (l.wing.beatNo - 1) ∧ l.wing.beatNo ≠ 0) ∧
    (Meets (.loopDeadlineDrop at0 (.task 0)) (fun l => l.onTrust fun q => { q with book := some taskBook }) fun l =>
      (.task 0 : DropKind) = .task 0 ∧ ((l.trust.book.bind (·.tasks)).getD [])[0]? = some tk) ∧
    (Meets (.lockstepInjection at0 false) (fun l => ((((live l 4).raise R.LE_LSTAT_RUN).onMode fun q =>
      { q with cycle := 65536 }).onWing fun q => { q with beatAt := 7999800001, beatNo := 10 }).put R.VR_CYC_LEN 20)
      fun l => l.injectionDue = true) := by
  refine ⟨?_, ?_, ?_, ?_, ?_, ?_, ?_, ?_⟩ <;> decide +kernel

/-- The premises of TrioVoting can be met. -/
theorem witness_TrioVoting :
    (Meets (.voteCopy ⟨at0, 0⟩ 1 tx0 true) (fun l => (l.put R.TV_STAT_MODE 0).onTrio fun q =>
      { q with slots := [⟨[⟨0, tx0, 0⟩], none, 0, 0, none, none⟩] }) fun l => l.trioMode ≠ .halted ∧ l.coreVotes 1 =
      true ∧ (∀ d : Core, l.trio.cores[d].held = none) ∧ l.trio.cores[(1 : Core)].next = l.trio.number ∧ l.trio.slots
      = [(⟨[⟨0, tx0, 0⟩], none, 0, 0, none, none⟩ : Slot)] ∧ (⟨[⟨0, tx0, 0⟩], none, 0, 0, none, none⟩ : Slot).copies
      = [(⟨0, tx0, 0⟩ : Copy)] ∧ (⟨[⟨0, tx0, 0⟩], none, 0, 0, none, none⟩ : Slot).ex = none ∧ (⟨[⟨0, tx0, 0⟩], none,
      0, 0, none, none⟩ : Slot).delayed = none ∧ (⟨[⟨0, tx0, 0⟩], none, 0, 0, none, none⟩ : Slot).decided = none ∧
      l.trioMode = .trio ∧ (⟨0, tx0, 0⟩ : Copy).txn = tx0) ∧
    (Meets (.voteCopy ⟨at0, 0⟩ 1 tx0 false) (fun l => (l.put R.TV_STAT_MODE 0).onTrio fun q =>
      { q with slots := [⟨[⟨0, tx0, 0⟩], none, 0, 0, none, none⟩] }) fun l => l.trioMode ≠ .halted ∧ l.coreVotes 1 =
      true ∧ (∀ d : Core, l.trio.cores[d].held = none) ∧ l.trio.cores[(1 : Core)].next = l.trio.number ∧ l.trio.slots
      = [(⟨[⟨0, tx0, 0⟩], none, 0, 0, none, none⟩ : Slot)] ∧ (⟨[⟨0, tx0, 0⟩], none, 0, 0, none, none⟩ : Slot).copies
      = [(⟨0, tx0, 0⟩ : Copy)] ∧ (⟨[⟨0, tx0, 0⟩], none, 0, 0, none, none⟩ : Slot).ex = none ∧ (⟨[⟨0, tx0, 0⟩], none,
      0, 0, none, none⟩ : Slot).delayed = none ∧ (⟨[⟨0, tx0, 0⟩], none, 0, 0, none, none⟩ : Slot).decided = none ∧
      l.trioMode = .trio ∧ (⟨0, tx0, 0⟩ : Copy).txn = tx0) ∧
    (Meets (.voteCopy ⟨at0, 0⟩ 1 tx0 true) (fun l => (l.put R.TV_STAT_MODE 2).onTrio fun q =>
      { q with slots := [⟨[⟨0, tx1, 7999999999⟩], none, 0, 0, none, none⟩] }) fun l => l.trioMode ≠ .halted ∧
      l.coreVotes 1 = true ∧ (∀ d : Core, l.trio.cores[d].held = none) ∧ l.trio.cores[(1 : Core)].next =
      l.trio.number ∧ l.trio.slots = [(⟨[⟨0, tx1, 7999999999⟩], none, 0, 0, none, none⟩ : Slot)] ∧ (⟨[⟨0, tx1,
      7999999999⟩], none, 0, 0, none, none⟩ : Slot).copies = [(⟨0, tx1, 7999999999⟩ : Copy)] ∧ (⟨[⟨0, tx1,
      7999999999⟩], none, 0, 0, none, none⟩ : Slot).ex = none ∧ (⟨[⟨0, tx1, 7999999999⟩], none, 0, 0, none, none⟩ :
      Slot).delayed = none ∧ (⟨[⟨0, tx1, 7999999999⟩], none, 0, 0, none, none⟩ : Slot).decided = none ∧ l.trioMode ≠
      .trio ∧ (⟨0, tx1, 7999999999⟩ : Copy).txn ≠ tx0) ∧
    (Meets (.voteCopy ⟨at0, 0⟩ 1 tx0 true) (fun l => (l.put R.TV_STAT_MODE 2).onTrio fun q =>
      { q with slots := [⟨[⟨0, tx0, 7999999999⟩], none, 0, 0, none, none⟩] }) fun l => l.trioMode ≠ .halted ∧
      l.coreVotes 1 = true ∧ (∀ d : Core, l.trio.cores[d].held = none) ∧ l.trio.cores[(1 : Core)].next =
      l.trio.number ∧ l.trio.slots = [(⟨[⟨0, tx0, 7999999999⟩], none, 0, 0, none, none⟩ : Slot)] ∧ (⟨[⟨0, tx0,
      7999999999⟩], none, 0, 0, none, none⟩ : Slot).copies = [(⟨0, tx0, 7999999999⟩ : Copy)] ∧ (⟨[⟨0, tx0,
      7999999999⟩], none, 0, 0, none, none⟩ : Slot).ex = none ∧ (⟨[⟨0, tx0, 7999999999⟩], none, 0, 0, none, none⟩ :
      Slot).delayed = none ∧ (⟨[⟨0, tx0, 7999999999⟩], none, 0, 0, none, none⟩ : Slot).decided = none ∧ l.trioMode ≠
      .trio ∧ l.now ≤ (⟨0, tx0, 7999999999⟩ : Copy).at_ + l.window ∧ (⟨0, tx0, 7999999999⟩ : Copy).txn = tx0 ∧ (tx0 :
      Txn).kind ≠ 2 ∧ (tx0 : Txn).kind.val ≤ 1) ∧
    (Meets (.voteCopy ⟨at0, 0⟩ 2 tx2 true) (fun l => (l.put R.TV_STAT_MODE 0).onTrio fun q =>
      { q with slots := [⟨[⟨0, tx0, 0⟩, ⟨1, tx1, 0⟩], none, 0, 0, none, none⟩] }) fun l => l.trioMode ≠ .halted ∧
      l.coreVotes 2 = true ∧ (∀ d : Core, l.trio.cores[d].held = none) ∧ l.trio.cores[(2 : Core)].next =
      l.trio.number ∧ l.trioMode = .trio ∧ l.trio.slots = [(⟨[⟨0, tx0, 0⟩, ⟨1, tx1, 0⟩], none, 0, 0, none, none⟩ :
      Slot)] ∧ (⟨[⟨0, tx0, 0⟩, ⟨1, tx1, 0⟩], none, 0, 0, none, none⟩ : Slot).copies = [(⟨0, tx0, 0⟩ : Copy), (⟨1,
      tx1, 0⟩ : Copy)] ∧ (⟨[⟨0, tx0, 0⟩, ⟨1, tx1, 0⟩], none, 0, 0, none, none⟩ : Slot).ex = none ∧ (⟨[⟨0, tx0, 0⟩,
      ⟨1, tx1, 0⟩], none, 0, 0, none, none⟩ : Slot).delayed = none ∧ (⟨[⟨0, tx0, 0⟩, ⟨1, tx1, 0⟩], none, 0, 0, none,
      none⟩ : Slot).decided = none ∧ (⟨0, tx0, 0⟩ : Copy).txn ≠ (⟨1, tx1, 0⟩ : Copy).txn ∧ (⟨1, tx1, 0⟩ : Copy).at_ +
      ns 32 < l.now ∧ tx2 ≠ (⟨0, tx0, 0⟩ : Copy).txn ∧ tx2 ≠ (⟨1, tx1, 0⟩ : Copy).txn) ∧
    (Meets (.voteCopy ⟨at0, 0⟩ 2 tx0 true) (fun l => (l.put R.TV_STAT_MODE 0).onTrio fun q =>
      { q with slots := [⟨[⟨0, tx0, 7999999999⟩, ⟨1, tx1, 7999999999⟩], none, 0, 0, none, none⟩] }) fun l =>
      l.trioMode ≠ .halted ∧ l.coreVotes 2 = true ∧ (∀ d : Core, l.trio.cores[d].held = none) ∧ l.trio.cores[(2 :
      Core)].next = l.trio.number ∧ l.trioMode = .trio ∧ l.trio.slots = [(⟨[⟨0, tx0, 7999999999⟩, ⟨1, tx1,
      7999999999⟩], none, 0, 0, none, none⟩ : Slot)] ∧ (⟨[⟨0, tx0, 7999999999⟩, ⟨1, tx1, 7999999999⟩], none, 0, 0,
      none, none⟩ : Slot).copies = [(⟨0, tx0, 7999999999⟩ : Copy), (⟨1, tx1, 7999999999⟩ : Copy)] ∧ (⟨[⟨0, tx0,
      7999999999⟩, ⟨1, tx1, 7999999999⟩], none, 0, 0, none, none⟩ : Slot).ex = none ∧ (⟨[⟨0, tx0, 7999999999⟩, ⟨1,
      tx1, 7999999999⟩], none, 0, 0, none, none⟩ : Slot).delayed = none ∧ (⟨[⟨0, tx0, 7999999999⟩, ⟨1, tx1,
      7999999999⟩], none, 0, 0, none, none⟩ : Slot).decided = none ∧ (⟨0, tx0, 7999999999⟩ : Copy).txn ≠ (⟨1, tx1,
      7999999999⟩ : Copy).txn ∧ l.now ≤ (⟨1, tx1, 7999999999⟩ : Copy).at_ + ns 32 ∧ tx0 = (⟨0, tx0, 7999999999⟩ :
      Copy).txn ∧ (tx0 : Txn).kind ≠ 2 ∧ (tx0 : Txn).kind.val ≤ 1) ∧
    (Meets (.voteCopy ⟨at0, 0⟩ 2 tx0 true) (fun l => (l.put R.TV_STAT_MODE 0).onTrio fun q =>
      { q with slots := [⟨[⟨0, tx0, 7999999999⟩, ⟨1, tx0, 7999999999⟩], some (tx0, 7999999999), 0, 0, none, none⟩] })
      fun l => l.trioMode ≠ .halted ∧ l.coreVotes 2 = true ∧ (∀ d : Core, l.trio.cores[d].held = none) ∧
      l.trio.cores[(2 : Core)].next = l.trio.number ∧ l.trioMode = .trio ∧ l.trio.slots = [(⟨[⟨0, tx0, 7999999999⟩,
      ⟨1, tx0, 7999999999⟩], some (tx0, 7999999999), 0, 0, none, none⟩ : Slot)] ∧ (⟨[⟨0, tx0, 7999999999⟩, ⟨1, tx0,
      7999999999⟩], some (tx0, 7999999999), 0, 0, none, none⟩ : Slot).decided = some (tx0, 7999999999) ∧ (⟨[⟨0, tx0,
      7999999999⟩, ⟨1, tx0, 7999999999⟩], some (tx0, 7999999999), 0, 0, none, none⟩ : Slot).ex = none ∧ (⟨[⟨0, tx0,
      7999999999⟩, ⟨1, tx0, 7999999999⟩], some (tx0, 7999999999), 0, 0, none, none⟩ : Slot).delayed = none ∧ l.now ≤
      7999999999 + l.window ∧ (tx0 : Txn).kind ≠ 2 ∧ (tx0 : Txn).kind.val ≤ 1) ∧
    (Meets (.voteCopy ⟨at0, 0⟩ 2 tx0 true) (fun l => (l.put R.TV_STAT_MODE 0).onTrio fun q =>
      { q with slots := [⟨[⟨0, tx1, 7999999999⟩, ⟨1, tx1, 7999999999⟩], some (tx1, 7999999999), 0, 0, none, none⟩] })
      fun l => l.trioMode ≠ .halted ∧ l.coreVotes 2 = true ∧ (∀ d : Core, l.trio.cores[d].held = none) ∧
      l.trio.cores[(2 : Core)].next = l.trio.number ∧ l.trioMode = .trio ∧ l.trio.slots = [(⟨[⟨0, tx1, 7999999999⟩,
      ⟨1, tx1, 7999999999⟩], some (tx1, 7999999999), 0, 0, none, none⟩ : Slot)] ∧ (⟨[⟨0, tx1, 7999999999⟩, ⟨1, tx1,
      7999999999⟩], some (tx1, 7999999999), 0, 0, none, none⟩ : Slot).decided = some (tx1, 7999999999) ∧ tx1 ≠ tx0 ∧
      (⟨[⟨0, tx1, 7999999999⟩, ⟨1, tx1, 7999999999⟩], some (tx1, 7999999999), 0, 0, none, none⟩ : Slot).ex = none ∧
      (⟨[⟨0, tx1, 7999999999⟩, ⟨1, tx1, 7999999999⟩], some (tx1, 7999999999), 0, 0, none, none⟩ : Slot).delayed =
      none ∧ l.now ≤ 7999999999 + l.window ∧ tx1.kind ≠ 2) ∧
    (Meets (.voteCopy ⟨at0, 0⟩ 1 tx0 true) (fun l => l.put R.TV_STAT_MODE 0) fun l => l.trioMode ≠ .halted ∧
      l.coreVotes 1 = true ∧ (∀ d : Core, l.trio.cores[d].held = none) ∧ l.trio.cores[(1 : Core)].next =
      l.trio.number ∧ l.trio.slots = [] ∧ l.trio.exercise = none) ∧
    (Meets (.laggardWindowClose at0) (fun l => (l.put R.TV_STAT_MODE 0).onTrio fun q =>
      { q with slots := [⟨[], some (tx0, 0), 0, 0, none, none⟩] }) fun l => l.trioMode = .trio ∧ l.trio.slots =
      [(⟨[], some (tx0, 0), 0, 0, none, none⟩ : Slot)] ∧ (⟨[], some (tx0, 0), 0, 0, none, none⟩ : Slot).decided =
      some (tx0, 0) ∧ (⟨[], some (tx0, 0), 0, 0, none, none⟩ : Slot).ex = none ∧ 0 + l.window ≤ l.now ∧ tx0.kind ≠ 2
      ∧ tx0.kind.val ≤ 1) ∧
    (Meets (.laggardWindowClose at0) (fun l => (l.put R.TV_STAT_MODE 0).onTrio fun q =>
      { q with slots := [⟨[⟨0, tx0, 0⟩, ⟨1, tx1, 0⟩], none, 0, 0, none, none⟩] }) fun l => l.trioMode = .trio ∧
      l.trio.slots = [(⟨[⟨0, tx0, 0⟩, ⟨1, tx1, 0⟩], none, 0, 0, none, none⟩ : Slot)] ∧ (⟨[⟨0, tx0, 0⟩, ⟨1, tx1, 0⟩],
      none, 0, 0, none, none⟩ : Slot).decided = none ∧ (⟨[⟨0, tx0, 0⟩, ⟨1, tx1, 0⟩], none, 0, 0, none, none⟩ :
      Slot).copies = [(⟨0, tx0, 0⟩ : Copy), (⟨1, tx1, 0⟩ : Copy)] ∧ (⟨[⟨0, tx0, 0⟩, ⟨1, tx1, 0⟩], none, 0, 0, none,
      none⟩ : Slot).ex = none ∧ (⟨[⟨0, tx0, 0⟩, ⟨1, tx1, 0⟩], none, 0, 0, none, none⟩ : Slot).delayed = none ∧ (⟨1,
      tx1, 0⟩ : Copy).at_ + ns 32 ≤ l.now) ∧
    (Meets (.laggardWindowClose at0) (fun l => (l.put R.TV_STAT_MODE 2).onTrio fun q =>
      { q with slots := [⟨[⟨0, tx1, 0⟩], none, 0, 0, none, none⟩] }) fun l => (l.trioMode = .pair ∨ l.trioMode =
      .resync) ∧ l.trio.slots = [(⟨[⟨0, tx1, 0⟩], none, 0, 0, none, none⟩ : Slot)] ∧ (⟨[⟨0, tx1, 0⟩], none, 0, 0,
      none, none⟩ : Slot).copies = [(⟨0, tx1, 0⟩ : Copy)] ∧ (⟨[⟨0, tx1, 0⟩], none, 0, 0, none, none⟩ : Slot).ex =
      none ∧ (⟨0, tx1, 0⟩ : Copy).at_ + l.window ≤ l.now) ∧
    (Meets (.loneCopyTimeout at0) (fun l => (l.put R.TV_STAT_MODE 0).onTrio fun q =>
      { q with slots := [⟨[⟨0, tx1, 0⟩], none, 0, 0, none, none⟩] }) fun l => l.trioMode = .trio ∧
      l.trio.slots.getLast? = some (⟨[⟨0, tx1, 0⟩], none, 0, 0, none, none⟩ : Slot) ∧ (⟨[⟨0, tx1, 0⟩], none, 0, 0,
      none, none⟩ : Slot).copies = [(⟨0, tx1, 0⟩ : Copy)] ∧ (⟨[⟨0, tx1, 0⟩], none, 0, 0, none, none⟩ : Slot).decided
      = none ∧ (⟨[⟨0, tx1, 0⟩], none, 0, 0, none, none⟩ : Slot).delayed = none ∧ (⟨0, tx1, 0⟩ : Copy).at_ + us 1 ≤
      l.now) ∧
    (Meets (.resyncComplete ⟨at0, 0⟩) (fun l => l.put R.TV_STAT_MODE 1) fun l => l.trioMode = .resync ∧
      l.trio.resyncAt + (us 8 + 1) ≤ l.now) ∧
    (Meets (.resyncComplete ⟨at0, 8⟩) (fun l => (l.put R.TV_STAT_MODE 1).onTrio fun q =>
      { q with resyncAt := 7999968000 }) fun l => l.trioMode = .resync ∧ l.now ≤ l.trio.resyncAt + us 8 ∧
      l.trio.slots = []) ∧
    (Meets (.resyncTimeout at0) (fun l => l.put R.TV_STAT_MODE 1) fun l => l.trioMode = .resync ∧ l.trio.resyncAt +
      us 8 ≤ l.now) ∧
    (Meets (.spreadHigh at0) (fun l => l.onTrio fun q => { q with spreadSince := some 0 }) fun l =>
      l.trio.spreadSince = some 0 ∧ 0 + us 20 ≤ l.now) ∧
    (Meets (.spreadPersist at0) (fun l => (l.onTrio fun q => { q with spreadSince := some 0 }).onPower fun q =>
      { q with maxSince := some 0 }) fun l => l.trio.spreadSince = some 0 ∧ 0 + us 100 ≤ l.now ∧ l.power.maxSince =
      some 0) ∧
    (Meets (.exercise at0 true) (fun l => (((l.put R.TV_STAT_MODE 1).onTrio fun q => { q with exNow := true }).onWing
      fun q => { q with beatNo := 11 }).put R.VR_CYC_LEN 20) fun l => l.exerciseDue = true ∧ l.trioMode = .resync) ∧
    (Meets (.exercise at0 true) (fun l => (((l.put R.TV_STAT_MODE 0).onTrio fun q => { q with exNow := true }).onWing
      fun q => { q with beatNo := 11 }).put R.VR_CYC_LEN 20) fun l => l.exerciseDue = true ∧ l.trioMode = .trio ∧
      l.trio.slots.all (fun q => q.decided.isSome) = true) ∧
    (Meets (.exnow at0) (fun l => live l 10) fun l => l.mode = .workshop) := by
  refine ⟨?_, ?_, ?_, ?_, ?_, ?_, ?_, ?_, ?_, ?_, ?_, ?_, ?_, ?_, ?_, ?_, ?_, ?_, ?_, ?_, ?_⟩ <;> decide +kernel

/-- The premises of WingLinks can be met. -/
theorem witness_WingLinks :
    (Meets (.corruptedFrame ⟨at0, []⟩ 1) id fun l => l.linkIgnored 1 = false ∧ frameOk ([]) = false) ∧
    (Meets (.corruptedFrame ⟨at0, []⟩ 0) (fun l => (l.put R.WG_STAT_L1 2).onWing fun w =>
      { w with links := w.links.set 0 { w.links[0] with failed := 15 } }) fun l => l.linkIgnored 0 = false ∧ frameOk
      ([]) = false ∧ l.linkMode 0 = .up ∧ 15 ≤ l.wing.links[(0 : Peer)].failed) ∧
    (Meets (.corruptedFrame ⟨at0, frameBytes fh []⟩ 0) id fun l => l.linkIgnored 0 = false ∧ frameOk (frameBytes fh
      []) = true) ∧
    (Meets (.frameResend at0 0) (fun l => l.onWing fun w =>
      { w with links := w.links.set 0 { w.links[0] with unacked := [⟨0, .out, 0, 1⟩] } }) fun l => (∀ x ∈
      l.wing.links[(0 : Peer)].unacked, x.repeats < 2) ∧ l.quiet = false ∧ l.wing.links[(0 : Peer)].unacked = [(⟨0,
      .out, 0, 1⟩ : Unacked)] ∧ (⟨0, .out, 0, 1⟩ : Unacked).sentAt + us 20 ≤ l.now) ∧
    (Meets (.frameResend at0 0) (fun l => l.onWing fun w =>
      { w with links := w.links.set 0 { w.links[0] with unacked := [⟨0, .out, 0, 2⟩] } }) fun l => ∃ x ∈
      l.wing.links[(0 : Peer)].unacked, 2 ≤ x.repeats ∧ x.sentAt + us 20 ≤ l.now) ∧
    (Meets (.linkSilence at0 0) (fun l => l.put R.WG_STAT_L1 2) fun l => l.linkMode 0 = .up ∧ l.wing.links[(0 :
      Peer)].lastValid + us 200 ≤ l.now) ∧
    (Meets (.peerSummary at0 0 3 shd sm) id fun l => l.linkIgnored 0 = false ∧ (3 : BitVec 2).toNat ≠ laneNum
      (peerLane l.id 0) ∧ (3 : BitVec 2).toNat ≠ laneNum (peerLane l.id (otherPeer 0))) ∧
    (Meets (.peerSummary at0 0 1 shd sm) id fun l => l.linkIgnored 0 = false ∧ (1 : BitVec 2).toNat = laneNum
      (peerLane l.id (0 : Peer)) ∧ (l.wing.closed = true ∨ l.ofThisBeat (summaryFrameHdr 1 shd) = false) ∧ (0 : Peer)
      = 0) ∧
    (Meets (.peerSummary at0 1 1 shd sm) (fun l => l.onWing fun q => { q with closed := false }) fun l =>
      l.linkIgnored 1 = false ∧ (1 : BitVec 2).toNat = laneNum (peerLane l.id (0 : Peer)) ∧ l.wing.closed = false ∧
      l.ofThisBeat (summaryFrameHdr 1 shd) = true ∧ l.wing.got[(0 : Peer)] = none ∧ (0 : Peer) ≠ 1) ∧
    (Meets (.retrain at0) (fun l => ((live l 4).put R.WG_STAT_L1 2).onWing fun w =>
      { w with links := w.links.set 0 { w.links[0] with lostCount := 4 } }) fun l => (l.mode = .hold ∨ l.mode =
      .workshop) ∧ l.linkMode 0 ≠ .down ∧ l.linkHeld 0 = true) ∧
    (Meets (.wingHello at0 0 fh 0 0 0 true) id fun l => l.linkHeld 0 = false ∧ l.linkIgnored 0 = false ∧ l.linkMode 0
      = .down ∧ l.timeMode = .free ∧ l.wing.digestSent = false ∧ l.tm.setFrom < 3) := by
  refine ⟨?_, ?_, ?_, ?_, ?_, ?_, ?_, ?_, ?_, ?_, ?_⟩ <;> decide +kernel

/-- The premises of LeadToken can be met. -/
theorem witness_LeadToken :
    (Meets (.leadLeaseExpiry at0) (fun l => (live (l.onWing fun q => { q with firstHold := true }) 4).setLtime 100)
      fun l => l.wing.firstHold = true ∧ l.lstate ≠ .out ∧ l.flag R.LC_STATE_LEAD = false ∧ l.wing.leaseEnd < l.ltime
      ∧ l.flag R.WG_STAT_GUARD = false ∧ l.wing.takeNext = false) ∧
    (Meets (.tokenGuardEnd at0) (fun l => (live (l.raise R.WG_STAT_GUARD) 4).onWing fun q => { q with oldLead := 2 })
      fun l => l.flag R.WG_STAT_GUARD = true ∧ l.get R.WG_LEAD_GUARDC = 0 ∧ l.wing.guardFresh = false ∧ (laneOf
      l.wing.oldLead).bind l.nextLead = some l.id) ∧
    (Meets (.tokenGuardEnd at0) (fun l => ((live (l.raise R.WG_STAT_GUARD) 4).onWing fun q =>
      { q with oldLead := 0 }).put R.WG_STAT_P1ST 2) fun l => l.flag R.WG_STAT_GUARD = true ∧ l.get R.WG_LEAD_GUARDC
      = 0 ∧ l.wing.guardFresh = false ∧ (laneOf l.wing.oldLead).bind l.nextLead = some LaneId.B ∧ LaneId.B ≠ l.id) ∧
    (Meets (.tokenGuardEnd at0) (fun l => l.raise R.WG_STAT_GUARD) fun l => l.flag R.WG_STAT_GUARD = true ∧ l.get
      R.WG_LEAD_GUARDC = 0 ∧ l.wing.guardFresh = false ∧ (laneOf l.wing.oldLead).bind l.nextLead = none) ∧
    (Meets (.token at0 0 { fh with seq := 2 } 0 0 0) id fun l => l.linkIgnored 0 = false ∧ l.inOrder 0
      ({ fh with seq := 2 } : FrameHdr).seq = false) ∧
    (Meets (.token at0 0 fh 0 0 0) id fun l => l.linkIgnored 0 = false ∧ l.inOrder 0 (fh : FrameHdr).seq = true ∧
      l.flag R.LC_STATE_LEAD = false) ∧
    (Meets (.token at0 0 fh 0 0 0) (fun l => l.raise R.LC_STATE_LEAD) fun l => l.linkIgnored 0 = false ∧ l.inOrder 0
      (fh : FrameHdr).seq = true ∧ l.flag R.LC_STATE_LEAD = true) ∧
    (Meets (.mirror at0 0 { fh with seq := 2 } true true mi) id fun l => l.linkIgnored 0 = false ∧ l.inOrder 0
      ({ fh with seq := 2 } : FrameHdr).seq = false ∧ (true && true && l.leadIs 0) = false) ∧
    (Meets (.mirror at0 0 fh true true mi) (fun l => l.put R.WG_STAT_LEADL 1) fun l => l.linkIgnored 0 = false ∧
      l.inOrder 0 (fh : FrameHdr).seq = true ∧ l.leadIs 0 = true) ∧
    (Meets (.handoverDrill at0) (fun l => ((live ((l.put R.WG_DRILL_NEXT 0).raise R.LC_STATE_LEAD) 4).put
      R.WG_STAT_P1ST 2).put R.WG_STAT_L1 2) fun l => l.beatIn = 0 ∧ l.flag R.LC_STATE_LEAD = true ∧ l.lstate = .live
      ∧ l.wing.drilling = false ∧ (l.get R.WG_DRILL_NEXT = 0 ∨ l.wing.drillNow = true) ∧ l.mode ≠ .ghost ∧ l.mode ≠
      .curtain ∧ l.someResync = false ∧ l.nextLead l.id = some LaneId.B ∧ peerLane l.id (0 : Peer) = LaneId.B ∧
      l.linkMode (0 : Peer) = .up ∧ l.quiet = false) ∧
    (Meets (.handover at0 0 { fh with seq := 2 } 0) id fun l => l.linkIgnored 0 = false ∧ l.inOrder 0
      ({ fh with seq := 2 } : FrameHdr).seq = false) ∧
    (Meets (.handover at0 0 fh 0) (fun l => live (l.put R.WG_STAT_LEADL 1) 4) fun l => l.inOrder 0 1 = true ∧
      l.leadIs 0 = true ∧ l.lstate = .live ∧ l.nextLead (peerLane l.id 0) = some l.id ∧ (0 : Word) = l.mirrorSum) ∧
    (Meets (.handover at0 0 fh 1) (fun l => (live (l.put R.WG_STAT_LEADL 1) 4).put R.WG_STAT_P1ST 2) fun l =>
      l.inOrder 0 1 = true ∧ l.leadIs 0 = true ∧ l.lstate = .live ∧ l.nextLead (peerLane l.id 0) = some l.id ∧ (1 :
      Word) ≠ l.mirrorSum ∧ l.peerLive 0 = true ∧ l.wing.drillFails = 0) ∧
    (Meets (.handover at0 0 fh 1) (fun l => ((live (l.put R.WG_STAT_LEADL 1) 4).put R.WG_STAT_P1ST 2).onWing fun q =>
      { q with drillFails := 1 }) fun l => l.nextLead (peerLane l.id 0) = some l.id ∧ (1 : Word) ≠ l.mirrorSum ∧
      l.peerLive 0 = true ∧ 1 ≤ l.wing.drillFails) ∧
    (Meets (.drillnow at0) (fun l => live l 10) fun l => l.mode = .workshop) := by
  refine ⟨?_, ?_, ?_, ?_, ?_, ?_, ?_, ?_, ?_, ?_, ?_, ?_, ?_, ?_, ?_⟩ <;> decide +kernel

/-- The premises of LaneStates can be met. -/
theorem witness_LaneStates :
    (Meets (.outFrame at0 0 { fh with seq := 2 }) id fun l => l.linkIgnored 0 = false ∧ l.inOrder 0
      ({ fh with seq := 2 } : FrameHdr).seq = false) ∧
    (Meets (.outFrame at0 0 fh) id fun l => l.linkIgnored 0 = false ∧ l.inOrder 0 (fh : FrameHdr).seq = true ∧
      l.wing.firstHold = false) ∧
    (Meets (.outFrame at0 0 fh) (fun l => (l.onWing fun q => { q with firstHold := true }).put R.WG_STAT_P1ST 2) fun
      l => l.linkIgnored 0 = false ∧ l.inOrder 0 (fh : FrameHdr).seq = true ∧ l.wing.firstHold = true ∧ l.peerState 0
      ≠ 0) ∧
    (Meets (.rejoin at0 0 { fh with seq := 2 } none) id fun l => l.linkIgnored 0 = false ∧ l.inOrder 0
      ({ fh with seq := 2 } : FrameHdr).seq = false) ∧
    (Meets (.rejoin at0 0 fh (some (4, mi))) (fun l => ((l.put R.WG_STAT_LEADL 1).put R.LC_STATE_LSTATE 1).put
      R.WG_RESYNC_STEP 1) fun l => l.linkIgnored 0 = false ∧ l.inOrder 0 (fh : FrameHdr).seq = true ∧ (some (4, mi))
      = some (4, mi) ∧ l.leadIs 0 = true ∧ l.lstate = .resync ∧ l.get R.WG_RESYNC_STEP = 1) ∧
    (Meets (.rejoin at0 0 fh none) (fun l => l.put R.WG_STAT_P1ST 2) fun l => l.linkIgnored 0 = false ∧ l.inOrder 0
      (fh : FrameHdr).seq = true ∧ l.flag R.LC_STATE_LEAD = false ∧ l.peerLive 0 = true) ∧
    (Meets (.rejoin at0 0 fh none) (fun l => ((((live l 4).raise R.LC_STATE_LEAD).onWing fun q =>
      { q with mirror := some mi }).put R.WG_STAT_P1ST 1).put R.WG_STAT_L1 2) fun l => l.linkIgnored 0 = false ∧
      l.inOrder 0 (fh : FrameHdr).seq = true ∧ l.peerState 0 = 1 ∧ l.flag R.LC_STATE_LEAD = true ∧ l.lstate = .live ∧
      l.wing.mirror = some mi ∧ l.linkMode 0 = .up ∧ l.quiet = false) ∧
    (Meets (.resyncLaneTimeout at0) (fun l => l.put R.LC_STATE_LSTATE 1) fun l => l.lstate = .resync ∧ l.get
      R.WG_RESYNC_STEP < 3 ∧ l.wing.resyncAt + ms 100 ≤ l.now) ∧
    (Meets (.curtainEntry at0) (fun l => (still ((l.onTrust fun q => { q with book := some bk }).onMode fun q =>
      { q with stop := some (.ghost, 0), slowSince := some 0 })).setLtime (ltMs 10000)) fun l => l.mode_.stop = some
      (.ghost, 0) ∧ l.stopSection = some st0 ∧ l.stopDue st0 0 = true) ∧
    (Meets (.curtainEntry at0) (fun l => live ((still ((l.onTrust fun q => { q with book := some bk }).onMode fun q
      => { q with stop := some (.default, 0), slowSince := some 0 })).setLtime (ltMs 10000)) 6) fun l => l.mode_.stop
      = some (.default, 0) ∧ l.stopSection = some st0 ∧ l.stopDue st0 0 = true ∧ l.mode = .performing) ∧
    (Meets (.curtainEntry at0) (fun l => live ((still ((l.onTrust fun q => { q with book := some bk }).onMode fun q
      => { q with stop := some (.default, 0), slowSince := some 0 })).setLtime (ltMs 10000)) 7) fun l => l.mode_.stop
      = some (.default, 0) ∧ l.stopSection = some st0 ∧ l.stopDue st0 0 = true ∧ l.mode ≠ .performing) ∧
    (Meets (.digest at0 0 { fh with seq := 2 } 0 0 0) id fun l => l.linkIgnored 0 = false ∧ l.inOrder 0
      ({ fh with seq := 2 } : FrameHdr).seq = false) ∧
    (Meets (.digest at0 0 fh 0 0 0) (fun l => l.put R.WG_STAT_P1ST 2) fun l => l.linkIgnored 0 = false ∧ l.inOrder 0
      (fh : FrameHdr).seq = true ∧ l.peerState 0 ≠ 0 ∧ (l.wing.waitOver = false ∨ l.wing.firstHold = true)) ∧
    (Meets (.digestWaitEnd at0) (fun l => l.onWing fun q => { q with digestSent := true }) fun l => l.wing.digestSent
      = true ∧ l.wing.waitOver = false ∧ l.wing.firstHold = false ∧ l.wing.digestAt + ms 200 ≤ l.now ∧
      l.wing.digests[(0 : Peer)] = none ∧ l.wing.digests[(1 : Peer)] = none) ∧
    (Meets (.promptBookReverify at0 6) (fun l => live (l.onWing fun q => { q with reverify := true }) 4) fun l =>
      l.wing.reverify = true ∧ l.lstate = .live ∧ passes 6 l.id = false) ∧
    (Meets (.promptBookReverify at0 7) (fun l => (live ((l.put R.WG_STAT_LEADL 1).onWing fun q =>
      { q with reverify := true }) 4).put R.WG_STAT_P1ST 2) fun l => l.wing.reverify = true ∧ l.lstate = .live ∧
      laneOf (l.get R.WG_STAT_LEADL) = some LaneId.B ∧ LaneId.B ≠ l.id ∧ l.liveIn LaneId.B = true ∧ passes 7 LaneId.B
      = true) ∧
    (Meets (.promptBookReverify at0 7) (fun l => live ((l.put R.WG_STAT_LEADL 0).onWing fun q =>
      { q with reverify := true }) 4) fun l => l.wing.reverify = true ∧ l.lstate = .live ∧ passes 7 l.id = true ∧
      l.get R.WG_STAT_LEADL = laneNum l.id ∧ l.mode ≠ .curtain) := by
  refine ⟨?_, ?_, ?_, ?_, ?_, ?_, ?_, ?_, ?_, ?_, ?_, ?_, ?_, ?_, ?_, ?_, ?_⟩ <;> decide +kernel

/-- The premises of HeldCommands can be met. -/
theorem witness_HeldCommands :
    (Meets (.commandSegment at0 0 { fh with seq := 2 } [] fc) id fun l => l.linkIgnored 0 = false ∧ l.inOrder 0
      ({ fh with seq := 2 } : FrameHdr).seq = false) ∧
    (Meets (.commandSegment at0 0 fh [1] fc) id fun l => l.linkIgnored 0 = false ∧ l.inOrder 0 (fh : FrameHdr).seq =
      true ∧ ((l.wing.links[(0 : Peer)].segs ++ ([1])).length < 16 ∨ (l.wing.links[(0 : Peer)].segs ++ ([1])).length
      < packetLength (l.wing.links[(0 : Peer)].segs ++ ([1])))) ∧
    (Meets (.commandSegment at0 0 fh (List.replicate 20 0) fc) id fun l => l.linkIgnored 0 = false ∧ l.inOrder 0 (fh
      : FrameHdr).seq = true ∧ 16 ≤ (l.wing.links[(0 : Peer)].segs ++ (List.replicate 20 0)).length ∧ packetLength
      (l.wing.links[(0 : Peer)].segs ++ (List.replicate 20 0)) ≤ (l.wing.links[(0 : Peer)].segs ++ (List.replicate 20
      0)).length) ∧
    (Meets (.commandExpiry at0 0) (fun l => l.onWing fun q => { q with pending := [⟨pk, none, 0, none⟩] }) fun l =>
      (∃ q ∈ l.wing.pending, q.pkt.hdr.fp = 0 ∧ q.heldAt + us 100 ≤ l.now)) := by
  refine ⟨?_, ?_, ?_, ?_⟩ <;> decide +kernel

/-- The premises of BoxOffice can be met. -/
theorem witness_BoxOffice :
    (Meets (.ticketRequest at0 co 0) id fun l => l.tooDear ⟨0, .other, co, some .n, 0, 0, false⟩ = false) ∧
    (Meets (.ticketRequest at0 { co with dieLD := 1000000000 } 0) (fun l => l.put R.PW_TLIM_WARN 1) fun l =>
      l.tooDear ⟨0, .other, { co with dieLD := 1000000000 }, some .n, 0, 0, false⟩ = true) ∧
    (Meets (.ticketedWorkEnd at0 3) (fun l => l.onBox fun q =>
      { q with running := [⟨3, .logFlush, co, none, 0, 0, false⟩] }) fun l => (l.box.running.find? fun t_b => t_b.id
      == 3) = some (⟨3, .logFlush, co, none, 0, 0, false⟩ : Ticket) ∧ ownEnd (⟨3, .logFlush, co, none, 0, 0, false⟩ :
      Ticket).work = false ∧ (⟨3, .logFlush, co, none, 0, 0, false⟩ : Ticket).work = .logFlush) ∧
    (Meets (.ticketedWorkEnd at0 3) (fun l => l.onBox fun q =>
      { q with running := [⟨3, .other, co, none, 0, 0, false⟩], commits := [⟨3, 0, 0, none⟩] }) fun l =>
      (l.box.running.find? fun t_b => t_b.id == 3) = some (⟨3, .other, co, none, 0, 0, false⟩ : Ticket) ∧ ownEnd (⟨3,
      .other, co, none, 0, 0, false⟩ : Ticket).work = false ∧ (⟨3, .other, co, none, 0, 0, false⟩ : Ticket).work =
      .other ∧ l.box.queued = [] ∧ (⟨3, 0, 0, none⟩ : Commit).id = 3 ∧ (⟨3, 0, 0, none⟩ : Commit).releaseAt = none) ∧
    (Meets (.ticketStarved at0 3) (fun l => (l.onBox fun q =>
      { q with queued := [⟨3, .logFlush, co, none, 0, 0, false⟩] }).onMode fun q => { q with cycle := 1000000 }) fun
      l => ∃ t ∈ l.box.queued, t.id = 3 ∧ l.get (R.BX_CLASS_MAXWAIT t.cost.cls) ≤ l.mode_.cycle - t.cycle) ∧
    (Meets (.commitmentRelease at0 3) (fun l => l.onBox fun q =>
      { q with commits := [⟨3, 0, 0, none⟩, ⟨4, 0, 0, none⟩] }) fun _ => (⟨4, 0, 0, none⟩ : Commit).id ≠ 3) := by
  refine ⟨?_, ?_, ?_, ?_, ?_, ?_⟩ <;> decide +kernel

/-- The premises of StartOfDay can be met. -/
theorem witness_StartOfDay :
    (Meets (.memoryInitDone at0 0) id fun l => l.mode = .boot ∧ l.flag R.LC_MEMCFG_ECCON = false) ∧
    (Meets (.firmwareVerified at0) (fun l => ((l.raise R.LC_MEMCFG_ECCON).put R.LC_MEMCFG_SIZE 1).onTrust fun q =>
      { q with flash := { q.flash with fw := #v[some (slot0 1772, fwOk), none] } }) fun l => l.mode = .boot ∧ l.flag
      R.LC_MEMCFG_ECCON = true ∧ l.heldInBoot = false ∧ l.trust.romResponder = false ∧ (slotOrder l.fwSlots).filter
      (fun k_b => !l.trust.fwTried.testBit k_b.val) = (0 : Fin 2) :: ([] : List (Fin 2)) ∧ l.fwSlots[(0 : Fin 2)] =
      some (1, fwOk) ∧ l.firmwareOk fwOk = true) ∧
    (Meets (.firmwareVerified at0) (fun l => ((l.raise R.LC_MEMCFG_ECCON).put R.LC_MEMCFG_SIZE 1).onTrust fun q =>
      { q with flash := { q.flash with fw := #v[some (slot0 0, fwBad), none] } }) fun l => l.mode = .boot ∧ l.flag
      R.LC_MEMCFG_ECCON = true ∧ l.heldInBoot = false ∧ l.trust.romResponder = false ∧ (slotOrder l.fwSlots).filter
      (fun k_b => !l.trust.fwTried.testBit k_b.val) = (0 : Fin 2) :: ([] : List (Fin 2)) ∧ l.fwSlots[(0 : Fin 2)] =
      some (1, fwBad) ∧ l.firmwareOk fwBad = false ∧ ([] : List (Fin 2)) = []) ∧
    (Meets (.firmwareVerified at0) (fun l => ((l.raise R.LC_MEMCFG_ECCON).put R.LC_MEMCFG_SIZE 1).onTrust fun q =>
      { q with flash := { q.flash with fw := #v[some (slot0 0, fwBad), some (slot0 0, fwBad)] } }) fun l => l.mode =
      .boot ∧ l.flag R.LC_MEMCFG_ECCON = true ∧ l.heldInBoot = false ∧ l.trust.romResponder = false ∧ (slotOrder
      l.fwSlots).filter (fun k_b => !l.trust.fwTried.testBit k_b.val) = (0 : Fin 2) :: ([(1 : Fin 2)]) ∧ l.fwSlots[(0
      : Fin 2)] = some (1, fwBad) ∧ l.firmwareOk fwBad = false ∧ ([(1 : Fin 2)]) ≠ []) ∧
    (Meets (.firmwareVerified at0) (fun l => (l.raise R.LC_MEMCFG_ECCON).put R.LC_MEMCFG_SIZE 1) fun l => l.mode =
      .boot ∧ l.flag R.LC_MEMCFG_ECCON = true ∧ l.heldInBoot = false ∧ l.trust.romResponder = false ∧ (slotOrder
      l.fwSlots).filter (fun k => !l.trust.fwTried.testBit k.val) = []) ∧
    (Meets (.rehearsalStepDone at0 1 { sr with engines := 128 }) (fun l => (l.put R.LC_STATE_MSTATE 2).onBox fun q =>
      { q with running := [⟨3, .step 1, co, none, 0, 0, false⟩] }) fun l => l.mode = .rehearsal ∧ (l.runningFor
      (.step 1)).isSome = true ∧ l.stepFailed ({ sr with engines := 128 } : StepResult) 1 = true) ∧
    (Meets (.rehearsalStepDone at0 3 sr) (fun l => (l.put R.LC_STATE_MSTATE 4).onBox fun q =>
      { q with running := [⟨3, .rerun 3, co, none, 0, 0, false⟩] }) fun l => l.mode ≠ .rehearsal ∧ (l.runningFor
      (.rerun 3)).isSome = true) ∧
    (Meets (.scriptCheck at0) (fun l => (l.put R.LC_STATE_MSTATE 2).onReh fun q => { q with done := 0x3FE }) fun l =>
      l.mode = .rehearsal ∧ l.reh.done = 0x3FE ∧ l.wing.struck = false) ∧
    (Meets (.scriptCheckDone at0) (fun l => l.put R.LC_STATE_MSTATE 3) fun l => l.mode = .scriptCheck ∧
      l.wing.proposed ≠ 4 ∧ l.trust.checking = none) ∧
    (Meets (.scriptCheckDone at0) (fun l => (l.put R.LC_STATE_MSTATE 3).onTrust fun q =>
      { q with checking := some bk }) fun l => l.mode = .scriptCheck ∧ l.wing.proposed ≠ 4 ∧ l.trust.checking = some
      bk ∧ l.checkBook bk = some ((l.checkBook bk).getD (0, 0, 0))) := by
  refine ⟨?_, ?_, ?_, ?_, ?_, ?_, ?_, ?_, ?_, ?_⟩ <;> decide +kernel

/-- The premises of ServiceRehearsal can be met. -/
theorem witness_ServiceRehearsal :
    (Meets (.memoryRotation at0) (fun l => (live l 4).onMode fun q => { q with cycle := 1000000 }) fun l => l.rotates
      = true ∧ l.rotating .bank = false ∧ l.reh.spareBank ≠ none ∧ l.flag R.BI_STAT_ROTSTOP = false ∧ l.reh.bankTurn
      + l.get R.BI_ROT_MEMPER ≤ l.mode_.cycle) ∧
    (Meets (.bankSwap at0) (fun l => l.onReh fun q => { q with bank := some ⟨0, false⟩ }) fun l => l.reh.bank = some
      ⟨0, false⟩ ∧ l.reh.spareBank = some 16) ∧
    (Meets (.marchDone at0 [(0, 0, 0)]) (fun l => l.onReh fun q => { q with bank := some ⟨16, true⟩ }) fun l =>
      l.reh.bank = some ⟨16, true⟩ ∧ ([(0, 0, 0)]) ≠ [] ∧ 16 < 17) ∧
    (Meets (.eccCorrected at0 0 0 0 0) (fun l => l.onReh fun q => { q with corrected := [(0, 0, 7999999999)] }) fun l
      => (0, 0, 7999999999) ∈ l.reh.corrected ∧ l.now ≤ 7999999999 + ms 1000) ∧
    (Meets (.comparatorRotation at0 none) (fun l => ((live l 4).onMode fun q => { q with cycle := 1000000 }).onBox
      fun q => { q with running := [⟨3, .rotation .comparator, co, none, 0, 0, false⟩] }) fun l => l.rotates = true ∧
      l.reh.cmpTurn + l.get R.BI_ROT_CMPPER ≤ l.mode_.cycle ∧ l.rotating .comparator = true) ∧
    (Meets (.comparatorRotation at0 none) (fun l => (live l 4).onMode fun q => { q with cycle := 1000000 }) fun l =>
      l.rotates = true ∧ l.reh.cmpTurn + l.get R.BI_ROT_CMPPER ≤ l.mode_.cycle ∧ l.rotating .comparator = false) ∧
    (Meets (.comparatorRotation at0 (some swA)) (fun l => l.onReh fun q => { q with cmp := some 0 }) fun l => (some
      swA) = some swA ∧ l.reh.cmp = some 0 ∧ l.reh.proofStopped.getLsbD (0 : Fin 12).val = false ∧ codeSweepOk swA[(0
      : Fin 12)].1 = false) ∧
    (Meets (.comparatorRotation at0 (some swB)) (fun l => l.onReh fun q => { q with cmp := some 0 }) fun l => (some
      swB) = some swB ∧ l.reh.cmp = some 0 ∧ l.reh.proofStopped.getLsbD (11 : Fin 12).val = false ∧ codeSweepOk
      swB[(11 : Fin 12)].1 = true ∧ codeSweepOk swB[(11 : Fin 12)].2 = false) ∧
    (Meets (.twinSweep at0 none) id fun l => l.rotates = false) ∧
    (Meets (.twinSweep at0 none) (fun l => live l 4) fun l => l.rotates = true ∧ l.rotating .twin = false ∧ l.twinOk
      l.reh.nextTwin = true) ∧
    (Meets (.twinSweep at0 (some mSw)) (fun l => l.onReh fun q => { q with twin := some 3 }) fun l => (some mSw) =
      some mSw ∧ l.reh.twin = some 3 ∧ l.twinSweepOk 3 mSw = false ∧ 3 < 12) ∧
    (Meets (.twinSweep at0 (some mSw7)) (fun l => l.onReh fun q => { q with twin := some 8 }) fun l => (some mSw7) =
      some mSw7 ∧ l.reh.twin = some 8 ∧ l.twinSweepOk 8 mSw7 = true ∧ l.runningFor (.rotation .twin) = none) ∧
    (Meets (.linkMarginScan at0 0 0) id fun _ => True) ∧
    (Meets (.linkMarginScan at0 0 1) id fun l => 1 ≠ 0 ∧ l.reh.margins[(0 : Peer)] = 0) ∧
    (Meets (.linkMarginScan at0 0 1) (fun l => (l.put R.WG_STAT_L1 2).onReh fun q =>
      { q with margins := Vector.replicate 2 1 }) fun l => 1 ≠ 0 ∧ 1 ≤ l.reh.margins[(0 : Peer)] ∧ l.linkMode 0 ≠
      .down) ∧
    (Meets (.rerun at0 3) (fun l => live l 4) fun l => (l.mode = .hold ∨ l.mode = .workshop) ∧ 3 ≤ (3 : BitVec
      8).toNat ∧ (3 : BitVec 8).toNat ≤ 9) := by
  refine ⟨?_, ?_, ?_, ?_, ?_, ?_, ?_, ?_, ?_, ?_, ?_, ?_, ?_, ?_, ?_, ?_⟩ <;> decide +kernel

/-- The premises of RingJoining can be met. -/
theorem witness_RingJoining :
    (Meets (.phyLink ⟨at0, 5⟩ 0) (fun l => (l.onReh fun q => { q with done := 128 }).setWord R.VR_PHYID 6) fun l =>
      l.reh.done.testBit 7 = true ∧ l.bit R.LC_ENGSTAT_UNUS 6 = false ∧ l.word R.VR_PHYID ≠ 0 ∧ l.word R.VR_PHYID ≠
      5) ∧
    (Meets (.phyLink ⟨at0, 5⟩ 0) (fun l => (l.onReh fun q => { q with done := 128 }).raise R.VR_CFG_EN) fun l =>
      l.reh.done.testBit 7 = true ∧ l.bit R.LC_ENGSTAT_UNUS 6 = false ∧ (l.word R.VR_PHYID = 0 ∨ l.word R.VR_PHYID =
      5) ∧ l.flag R.VR_CFG_EN = true ∧ l.bit R.BI_UNUS_VR (0 : Port).val = false ∧ l.portUp 0 = false) ∧
    (Meets (.virecHelloSend at0 0) (fun l => (l.raise R.VR_CFG_EN).onPort 0 fun q => { q with phy := true }) fun l =>
      l.portUsable 0 = true ∧ l.ring.ports[(0 : Port)].phy = true ∧ l.ring.duplicate = false ∧ l.ring.ports[(0 :
      Port)].helloAt + (if l.portUp 0 then ms 100 else us 100) ≤ l.now) ∧
    (Meets (.virecHello at0 0 ⟨0, .A, 1, true, true, none, 0⟩) (fun l => ((l.raise R.VR_CFG_EN).onReh fun q =>
      { q with done := 128 }).put R.VR_CFG_NODE 0) fun l => l.portUsable 0 = true ∧ (⟨0, .A, 1, true, true, none, 0⟩
      : RingHello).node = l.node) ∧
    (Meets (.virecHello at0 0 ⟨3, .B, 1, true, true, none, 0⟩) (fun l => ((l.raise R.VR_CFG_EN).onReh fun q =>
      { q with done := 128 }).put R.VR_CFG_NODE 1) fun l => l.portUsable 0 = true ∧ (⟨3, .B, 1, true, true, none, 0⟩
      : RingHello).node ≠ l.node ∧ ((⟨3, .B, 1, true, true, none, 0⟩ : RingHello).ring ≠ l.id ∨ l.neighbour 0 ≠ some
      (⟨3, .B, 1, true, true, none, 0⟩ : RingHello).node)) ∧
    (Meets (.virecHello at0 0 ⟨2, .A, 1, true, true, none, 0⟩) (fun l => (((l.raise R.VR_CFG_EN).onReh fun q =>
      { q with done := 128 }).put R.VR_CFG_NODE 1).onTrust fun q => { q with book := some ringBook }) fun l =>
      l.portUsable 0 = true ∧ (⟨2, .A, 1, true, true, none, 0⟩ : RingHello).node ≠ l.node ∧ (⟨2, .A, 1, true, true,
      none, 0⟩ : RingHello).ring = l.id ∧ l.neighbour 0 = some (⟨2, .A, 1, true, true, none, 0⟩ : RingHello).node ∧
      ([] : List Nat) = (((l.helloDelay (⟨2, .A, 1, true, true, none, 0⟩ : RingHello)).map fun d => (d ::
      l.ring.ports[(0 : Port)].delays).take 8).getD l.ring.ports[(0 : Port)].delays) ∧ (([] : List Nat).length < 8 ∨
      l.ratePermitted 0 (⟨2, .A, 1, true, true, none, 0⟩ : RingHello) = false)) ∧
    (Meets (.virecHello at0 0 ⟨2, .A, 1, true, true, none, 0⟩) (fun l => ((((l.raise R.VR_CFG_EN).onReh fun q =>
      { q with done := 128 }).put R.VR_CFG_NODE 1).onTrust fun q => { q with book := some ringBook }).onPort 0 fun q
      => { q with delays := List.replicate 8 5 }) fun l => l.portUsable 0 = true ∧ (⟨2, .A, 1, true, true, none, 0⟩ :
      RingHello).node ≠ l.node ∧ (⟨2, .A, 1, true, true, none, 0⟩ : RingHello).ring = l.id ∧ l.neighbour 0 = some
      (⟨2, .A, 1, true, true, none, 0⟩ : RingHello).node ∧ (List.replicate 8 5) = (((l.helloDelay (⟨2, .A, 1, true,
      true, none, 0⟩ : RingHello)).map fun d => (d :: l.ring.ports[(0 : Port)].delays).take 8).getD l.ring.ports[(0 :
      Port)].delays) ∧ 8 ≤ (List.replicate 8 5).length ∧ l.ratePermitted 0 (⟨2, .A, 1, true, true, none, 0⟩ :
      RingHello) = true ∧ (l.needs1000 = false ∨ l.flag (psG1000 0) = true) ∧ medianDelay (List.replicate 8 5) ≤ 4 *
      l.maxDelay 0 ∧ l.ringMode = .off ∧ l.portUp 0 = false) ∧
    (Meets (.virecHello at0 0 ⟨2, .A, 1, true, true, none, 0⟩) (fun l => (((((l.raise R.VR_CFG_EN).onReh fun q =>
      { q with done := 128 }).put R.VR_CFG_NODE 1).onTrust fun q => { q with book := some ringBook }).onPort 0 fun q
      => { q with delays := List.replicate 8 99999 }).raise R.VR_PSTATW_G1000) fun l => l.portUsable 0 = true ∧ (⟨2,
      .A, 1, true, true, none, 0⟩ : RingHello).node ≠ l.node ∧ (⟨2, .A, 1, true, true, none, 0⟩ : RingHello).ring =
      l.id ∧ l.neighbour 0 = some (⟨2, .A, 1, true, true, none, 0⟩ : RingHello).node ∧ (List.replicate 8 99999) =
      (((l.helloDelay (⟨2, .A, 1, true, true, none, 0⟩ : RingHello)).map fun d => (d :: l.ring.ports[(0 :
      Port)].delays).take 8).getD l.ring.ports[(0 : Port)].delays) ∧ 8 ≤ (List.replicate 8 99999).length ∧
      l.ratePermitted 0 (⟨2, .A, 1, true, true, none, 0⟩ : RingHello) = true ∧ (l.needs1000 = false ∨ l.flag (psG1000
      0) = true) ∧ 4 * l.maxDelay 0 < medianDelay (List.replicate 8 99999)) ∧
    (Meets (.virecHello at0 0 ⟨2, .A, 1, true, true, none, 0⟩) (fun l => ((((l.raise R.VR_CFG_EN).put R.VR_CFG_NODE
      1).onTrust fun q => { q with book := some ringFast }).onPort 0 fun q =>
      { q with delays := List.replicate 8 5 }).raise R.VR_CFG_ALLOW100) fun l => l.portUsable 0 = true ∧ (⟨2, .A, 1,
      true, true, none, 0⟩ : RingHello).node ≠ l.node ∧ (⟨2, .A, 1, true, true, none, 0⟩ : RingHello).ring = l.id ∧
      l.neighbour 0 = some (⟨2, .A, 1, true, true, none, 0⟩ : RingHello).node ∧ (List.replicate 8 5) =
      (((l.helloDelay (⟨2, .A, 1, true, true, none, 0⟩ : RingHello)).map fun d => (d :: l.ring.ports[(0 :
      Port)].delays).take 8).getD l.ring.ports[(0 : Port)].delays) ∧ 8 ≤ (List.replicate 8 5).length ∧
      l.ratePermitted 0 (⟨2, .A, 1, true, true, none, 0⟩ : RingHello) = true ∧ l.needs1000 = true ∧ l.flag (psG1000
      0) = false) ∧
    (Meets (.rateTimeout at0 0) (fun l => l.onPort 0 fun q => { q with phy := true }) fun l => l.ring.ports[(0 :
      Port)].phy = true ∧ l.portUp 0 = false ∧ l.ring.ports[(0 : Port)].since + ms 50 ≤ l.now) ∧
    (Meets (.portBreak ⟨at0, 10⟩ 0) id fun l => 10 ≤ 10 ∧ l.get (psLink 0) ≠ 3) ∧
    (Meets (.coldStart at0) (fun l => ((((l.raise R.VR_CFG_EN).put R.VR_STAT_STATE 1).raise R.VR_CFG_CSTART).raise
      R.LC_STATE_LEAD).onRing fun q => { q with quiet := 65535 }) fun l => l.ringMode = .listen ∧ l.get
      R.VR_CS_LISTEN ≤ l.ring.quiet ∧ l.ring.quietSince + l.ring.backoff ≤ l.now ∧ l.flag R.VR_CFG_CSTART = true ∧
      l.flag R.LC_STATE_LEAD = true ∧ l.ringDead = false) ∧
    (Meets (.startFrame at0 0 (vin (sf 2))) (fun l => node2 l cue0 4 0) fun l => l.portUp 0 = true ∧ fcsOk (vin (sf
      2) : VirecIn).bytes = true ∧ isVirec (l.get R.VR_ETYPE_ETYPE) (vin (sf 2) : VirecIn).bytes = true ∧ (readHeader
      (vin (sf 2) : VirecIn).bytes).version = 1 ∧ (readHeader (vin (sf 2) : VirecIn).bytes).type = 2 ∧ l.ringMode ≠
      .off ∧ (readHeader (vin (sf 2) : VirecIn).bytes).src = l.node ∧ l.ring.ownStart ≠ some (readStart (readHeader
      (vin (sf 2) : VirecIn).bytes).src (readPayload (vin (sf 2) : VirecIn).bytes)).time) ∧
    (Meets (.startFrame at0 0 (vin (sf 1))) (fun l => node2 l cue0 4 0) fun l => l.portUp 0 = true ∧ fcsOk (vin (sf
      1) : VirecIn).bytes = true ∧ isVirec (l.get R.VR_ETYPE_ETYPE) (vin (sf 1) : VirecIn).bytes = true ∧ (readHeader
      (vin (sf 1) : VirecIn).bytes).version = 1 ∧ (readHeader (vin (sf 1) : VirecIn).bytes).type = 2 ∧ l.ringMode =
      .up ∧ (readHeader (vin (sf 1) : VirecIn).bytes).src ≠ l.node) ∧
    (Meets (.startFrame at0 0 (vin (sf 2))) (fun l => (node2 l cue0 2 0).onRing fun q =>
      { q with ownStart := some 7, returned := q.returned.set 1 true }) fun l => l.portUp 0 = true ∧ fcsOk (vin (sf
      2) : VirecIn).bytes = true ∧ isVirec (l.get R.VR_ETYPE_ETYPE) (vin (sf 2) : VirecIn).bytes = true ∧ (readHeader
      (vin (sf 2) : VirecIn).bytes).version = 1 ∧ (readHeader (vin (sf 2) : VirecIn).bytes).type = 2 ∧ l.ringMode =
      .coldStart ∧ (readHeader (vin (sf 2) : VirecIn).bytes).src = l.node ∧ l.ring.ownStart = some (readStart
      (readHeader (vin (sf 2) : VirecIn).bytes).src (readPayload (vin (sf 2) : VirecIn).bytes)).time ∧
      l.ring.returned[otherPort 0] = true) ∧
    (Meets (.startFrame at0 0 (vin (sf 3))) (fun l => node2 l cue0 2 0) fun l => l.portUp 0 = true ∧ fcsOk (vin (sf
      3) : VirecIn).bytes = true ∧ isVirec (l.get R.VR_ETYPE_ETYPE) (vin (sf 3) : VirecIn).bytes = true ∧ (readHeader
      (vin (sf 3) : VirecIn).bytes).version = 1 ∧ (readHeader (vin (sf 3) : VirecIn).bytes).type = 2 ∧ l.ringMode =
      .coldStart ∧ l.node < (readHeader (vin (sf 3) : VirecIn).bytes).src) ∧
    (Meets (.startFrame at0 0 (vin (sf 1))) (fun l => node2 l cue0 2 0) fun l => l.portUp 0 = true ∧ fcsOk (vin (sf
      1) : VirecIn).bytes = true ∧ isVirec (l.get R.VR_ETYPE_ETYPE) (vin (sf 1) : VirecIn).bytes = true ∧ (readHeader
      (vin (sf 1) : VirecIn).bytes).version = 1 ∧ (readHeader (vin (sf 1) : VirecIn).bytes).type = 2 ∧ l.ringMode =
      .coldStart ∧ (readHeader (vin (sf 1) : VirecIn).bytes).src < l.node) ∧
    (Meets (.startFrame at0 0 (vin (sf 1))) (fun l => node2 l cue0 1 0) fun l => l.portUp 0 = true ∧ fcsOk (vin (sf
      1) : VirecIn).bytes = true ∧ isVirec (l.get R.VR_ETYPE_ETYPE) (vin (sf 1) : VirecIn).bytes = true ∧ (readHeader
      (vin (sf 1) : VirecIn).bytes).version = 1 ∧ (readHeader (vin (sf 1) : VirecIn).bytes).type = 2 ∧ (l.ringMode =
      .listen ∨ l.ringMode = .integrate) ∧ (readHeader (vin (sf 1) : VirecIn).bytes).src ≠ l.node ∧ l.ring.duplicate
      = false ∧ l.ring.adoptedIn = none) ∧
    (Meets (.reint at0) (fun l => (live l 4).put R.VR_STAT_STATE 4) fun l => (l.mode = .hold ∨ l.mode = .workshop) ∧
      l.ringMode ≠ .off) := by
  refine ⟨?_, ?_, ?_, ?_, ?_, ?_, ?_, ?_, ?_, ?_, ?_, ?_, ?_, ?_, ?_, ?_, ?_, ?_, ?_⟩ <;> decide +kernel

/-- The premises of RingCycle can be met. -/
theorem witness_RingCycle :
    (Meets (.cueSend at0 0 0 0) (fun l => ((node2 l cue0 4 0).put R.VR_CFG_NODE 1).put R.VR_PSTATE_LINK 2) fun l =>
      l.cue 0 = some cue0 ∧ cue0.owner = l.node ∧ cue0.dir ≠ 3 ∧ l.maySend cue0.kind = true ∧ 0 ∉ l.ring.sent ∧ 40 *
      (cue0.start : Int) ≤ l.sinceCue + 32 ∧ l.sinceCue + 0 ≤ 40 * (cue0.start : Int) + 2 * windowNs cue0.win ∧ max 0
      (max 64 (30 + (l.ownPayload 0 cue0).length)) ≤ cue0.len ∧ cue0.dir = 0 ∧ l.portUp 1 = true ∧ l.flag (psLoop 1)
      = false) ∧
    (Meets (.cueSend at0 0 0 0) (fun l => (node2 l cue0 4 9000).put R.VR_CFG_NODE 1) fun l => l.cue 0 = some cue0 ∧
      cue0.owner = l.node ∧ cue0.dir ≠ 3 ∧ l.maySend cue0.kind = true ∧ 0 ∉ l.ring.sent ∧ 40 * (cue0.start : Int) ≤
      l.sinceCue + 32 ∧ (40 * (cue0.start : Int) + 2 * windowNs cue0.win < l.sinceCue + 0 ∨ cue0.len < max 0 (max 64
      (30 + (l.ownPayload 0 cue0).length)))) ∧
    (Meets (.cueSend at0 0 0 0) (fun l => (node2 l { cue0 with dir := 1 } 4 0).put R.VR_CFG_NODE 1) fun l => l.cue 0
      = some ({ cue0 with dir := 1 }) ∧ ({ cue0 with dir := 1 }).owner = l.node ∧ ({ cue0 with dir := 1 }).dir ≠ 3 ∧
      l.maySend ({ cue0 with dir := 1 }).kind = true ∧ 0 ∉ l.ring.sent ∧ 40 * (({ cue0 with dir := 1 }).start : Int)
      ≤ l.sinceCue + 32 ∧ l.sinceCue + 0 ≤ 40 * (({ cue0 with dir := 1 }).start : Int) + 2 * windowNs
      ({ cue0 with dir := 1 }).win ∧ max 0 (max 64 (30 + (l.ownPayload 0 ({ cue0 with dir := 1 })).length)) ≤
      ({ cue0 with dir := 1 }).len ∧ ({ cue0 with dir := 1 }).dir = 1 ∧ l.portUp 0 = true ∧ l.flag (psLoop 0) =
      false) ∧
    (Meets (.cueFrame at0 0 (vin (vf 1 1 1 0 0 ++ [0]))) (fun l => node2 l cue0 4 100) fun l => l.ringMode ≠ .off ∧
      l.portUp 0 = true ∧ fcsOk (vin (vf 1 1 1 0 0 ++ [0]) : VirecIn).bytes = false) ∧
    (Meets (.cueFrame at0 0 (vin (vf 2 1 1 0 0))) (fun l => node2 l cue0 4 100) fun l => l.ringMode ≠ .off ∧ l.portUp
      0 = true ∧ fcsOk (vin (vf 2 1 1 0 0) : VirecIn).bytes = true ∧ isVirec (l.get R.VR_ETYPE_ETYPE) (vin (vf 2 1 1
      0 0) : VirecIn).bytes = true ∧ (readHeader (vin (vf 2 1 1 0 0) : VirecIn).bytes).version ≠ 1) ∧
    (Meets (.cueFrame at0 0 (vin (vf 1 1 1 0 0))) (fun l => node2 l cue0 1 100) fun l => l.ringMode ≠ .off ∧ l.portUp
      0 = true ∧ fcsOk (vin (vf 1 1 1 0 0) : VirecIn).bytes = true ∧ isVirec (l.get R.VR_ETYPE_ETYPE) (vin (vf 1 1 1
      0 0) : VirecIn).bytes = true ∧ (readHeader (vin (vf 1 1 1 0 0) : VirecIn).bytes).version = 1 ∧ (readHeader (vin
      (vf 1 1 1 0 0) : VirecIn).bytes).type = 1 ∧ (readHeader (vin (vf 1 1 1 0 0) : VirecIn).bytes).src ≠ l.node ∧
      l.ringMode = .listen ∧ l.sheetOf (readHeader (vin (vf 1 1 1 0 0) : VirecIn).bytes).sheet = some sheet0 ∧
      ((l.arrivals sheet0 (vin (vf 1 1 1 0 0) : VirecIn).links 0).find? fun a_b => a_b.cue == (readHeader (vin (vf 1
      1 1 0 0) : VirecIn).bytes).cue && a_b.looped == (readHeader (vin (vf 1 1 1 0 0) : VirecIn).bytes).looped) =
      some (⟨0, true, false, 0, 100, 0⟩ : Flight)) ∧
    (Meets (.cueFrame at0 0 (vin (vf 1 1 1 0 0))) (fun l => node2 l cue0 4 9000) fun l => l.ringMode ≠ .off ∧
      l.portUp 0 = true ∧ fcsOk (vin (vf 1 1 1 0 0) : VirecIn).bytes = true ∧ isVirec (l.get R.VR_ETYPE_ETYPE) (vin
      (vf 1 1 1 0 0) : VirecIn).bytes = true ∧ (readHeader (vin (vf 1 1 1 0 0) : VirecIn).bytes).version = 1 ∧
      (readHeader (vin (vf 1 1 1 0 0) : VirecIn).bytes).type = 1 ∧ (readHeader (vin (vf 1 1 1 0 0) :
      VirecIn).bytes).src ≠ l.node ∧ l.ringMode ≠ .listen ∧ l.windowsNow 0 (vin (vf 1 1 1 0 0) : VirecIn).links = []) ∧
    (Meets (.cueFrame at0 0 (vin (vf 1 1 1 5 0))) (fun l => node2 l cue0 4 100) fun l => l.ringMode ≠ .off ∧ l.portUp
      0 = true ∧ fcsOk (vin (vf 1 1 1 5 0) : VirecIn).bytes = true ∧ isVirec (l.get R.VR_ETYPE_ETYPE) (vin (vf 1 1 1
      5 0) : VirecIn).bytes = true ∧ (readHeader (vin (vf 1 1 1 5 0) : VirecIn).bytes).version = 1 ∧ (readHeader (vin
      (vf 1 1 1 5 0) : VirecIn).bytes).type = 1 ∧ (readHeader (vin (vf 1 1 1 5 0) : VirecIn).bytes).src ≠ l.node ∧
      l.ringMode ≠ .listen ∧ l.windowsNow 0 (vin (vf 1 1 1 5 0) : VirecIn).links ≠ [] ∧ (l.windowsNow 0 (vin (vf 1 1
      1 5 0) : VirecIn).links).find? (l.headerFits (readHeader (vin (vf 1 1 1 5 0) : VirecIn).bytes)) = none) ∧
    (Meets (.cueFrame at0 0 (vin (vf 1 1 1 0 36))) (fun l => node2 l cue0 4 100) fun l => l.ringMode ≠ .off ∧
      l.portUp 0 = true ∧ fcsOk (vin (vf 1 1 1 0 36) : VirecIn).bytes = true ∧ isVirec (l.get R.VR_ETYPE_ETYPE) (vin
      (vf 1 1 1 0 36) : VirecIn).bytes = true ∧ (readHeader (vin (vf 1 1 1 0 36) : VirecIn).bytes).version = 1 ∧
      (readHeader (vin (vf 1 1 1 0 36) : VirecIn).bytes).type = 1 ∧ (readHeader (vin (vf 1 1 1 0 36) :
      VirecIn).bytes).src ≠ l.node ∧ l.ringMode ≠ .listen ∧ (l.windowsNow 0 (vin (vf 1 1 1 0 36) :
      VirecIn).links).find? (l.headerFits (readHeader (vin (vf 1 1 1 0 36) : VirecIn).bytes)) = some (⟨sheet0, ⟨0,
      true, false, 0, 100, 0⟩, 0, 0⟩ : Window) ∧ (⟨sheet0, ⟨0, true, false, 0, 100, 0⟩, 0, 0⟩ : Window).entry.len <
      (vin (vf 1 1 1 0 36) : VirecIn).bytes.length) ∧
    (Meets (.cueFrame at0 0 (vin (vf 1 1 1 0 0))) (fun l => node2 l { cue0 with kind := 0 } 4 100) fun l =>
      l.ringMode ≠ .off ∧ l.portUp 0 = true ∧ fcsOk (vin (vf 1 1 1 0 0) : VirecIn).bytes = true ∧ isVirec (l.get
      R.VR_ETYPE_ETYPE) (vin (vf 1 1 1 0 0) : VirecIn).bytes = true ∧ (readHeader (vin (vf 1 1 1 0 0) :
      VirecIn).bytes).version = 1 ∧ (readHeader (vin (vf 1 1 1 0 0) : VirecIn).bytes).type = 1 ∧ (readHeader (vin (vf
      1 1 1 0 0) : VirecIn).bytes).src ≠ l.node ∧ l.ringMode ≠ .listen ∧ (l.windowsNow 0 (vin (vf 1 1 1 0 0) :
      VirecIn).links).find? (l.headerFits (readHeader (vin (vf 1 1 1 0 0) : VirecIn).bytes)) = some
      (⟨{ sheet0 with cues := [{ cue0 with kind := 0 }] }, ⟨0, true, false, 0, 100, 0⟩, 0, 0⟩ : Window) ∧ (vin (vf 1
      1 1 0 0) : VirecIn).bytes.length ≤ (⟨{ sheet0 with cues := [{ cue0 with kind := 0 }] }, ⟨0, true, false, 0,
      100, 0⟩, 0, 0⟩ : Window).entry.len ∧ (0, (readHeader (vin (vf 1 1 1 0 0) : VirecIn).bytes).cue, (readHeader
      (vin (vf 1 1 1 0 0) : VirecIn).bytes).looped) ∉ l.ring.met ∧ (∀ a ∈ l.ring.accepted, a.cue ≠ (readHeader (vin
      (vf 1 1 1 0 0) : VirecIn).bytes).cue) ∧ ((⟨{ sheet0 with cues := [{ cue0 with kind := 0 }] }, ⟨0, true, false,
      0, 100, 0⟩, 0, 0⟩ : Window).entry.kind = 0 ∨ (⟨{ sheet0 with cues := [{ cue0 with kind := 0 }] }, ⟨0, true,
      false, 0, 100, 0⟩, 0, 0⟩ : Window).entry.kind = 4) ∧ l.ring.fill + l.ring.fillPrev + (vin (vf 1 1 1 0 0) :
      VirecIn).bytes.length ≤ 458752) ∧
    (Meets (.cueWindowEnd at0 0 [100, 100]) (fun l => (node2 l cue0 4 9000).onRing fun q =>
      { q with emptyRun := q.emptyRun.set 0 true }) fun l => l.ringOn = true ∧ (l.ring.accepted.any fun a => a.cue ==
      0) = false ∧ 0 ∉ l.ring.empty ∧ l.sheet = some sheet0 ∧ l.cue 0 = some cue0 ∧ ⟨0, true, false, 0, 100, 0⟩ ∈
      l.arrivals sheet0 [100, 100] 0 ∧ (∀ p : Port, ∀ a ∈ l.arrivals sheet0 [100, 100] p, a.cue = 0 → (a.at_ +
      l.ring.drift + 4 * windowNs 0) % l.cycleQ ≤ l.sinceCue) ∧ l.cuePorts sheet0 [100, 100] 0 = [0] ∧ l.portUp 0 =
      true ∧ l.ring.emptyRun[(0 : Port)] = true) ∧
    (Meets (.shann at0 0) (fun l => (node2 l cue0 4 0).put R.VR_CFG_NODE 1) fun l => l.mayAnnounce = true ∧
      (l.ringPart.map fun r => r.ring.sheetMaster) = some l.node ∧ l.ring.sent = []) ∧
    (Meets (.shann at0 0) (fun l => ((node2 l cue0 4 0).put R.VR_CFG_NODE 1).onRing fun q => { q with sent := [0] })
      fun l => l.mayAnnounce = true ∧ (l.ringPart.map fun r => r.ring.sheetMaster) = some l.node ∧ (l.ring.sent.any
      fun q => (l.cue q).any fun c => c.kind == 1) = true) ∧
    (Meets (.cueInstant at0 0) (fun l => l.onMode fun q => { q with fwRestart := true }) fun l => l.mode_.fwRestart =
      true) ∧
    (Meets (.cueInstant at0 0) id fun l => l.mode_.fwRestart = false) := by
  refine ⟨?_, ?_, ?_, ?_, ?_, ?_, ?_, ?_, ?_, ?_, ?_, ?_, ?_, ?_, ?_⟩ <;> decide +kernel

/-- The premises of NetworkTime can be met. -/
theorem witness_NetworkTime :
    (Meets (.step at0 0) (fun l => l.put R.TM_STAT_STATE 4) fun l => (l.get R.TM_JUMP_THR < (0 : Int).natAbs ∨ l.flag
      R.WG_STAT_TSLEW = true ∨ l.tm.step ≠ none ∨ l.timeMode = .holdover ∨ l.timeMode = .far)) ∧
    (Meets (.step at0 0) id fun l => (0 : Int).natAbs ≤ l.get R.TM_JUMP_THR ∧ l.flag R.WG_STAT_TSLEW = false ∧
      l.tm.step = none ∧ l.timeMode ≠ .holdover ∧ l.timeMode ≠ .far) ∧
    (Meets (.stepApply (⟨.A, 7999996000⟩ : At)) (fun l => (l.onTime fun q => { q with step := some 5 }).put
      R.VR_CYC_LEN 20) fun l => l.tm.step = some 5 ∧ ltUs (50 * l.beats) ≤ l.ltime % ltUs (50 * l.beats) + ltUs 5) ∧
    (Meets (.incr at0 167688274) (fun l => l.raise R.WG_STAT_TSLEW) fun l => 167688274 ≤ (167688274 : Word).toNat ∧
      (167688274 : Word).toNat ≤ 167856046 ∧ l.flag R.WG_STAT_TSLEW = true) ∧
    (Meets (.incr at0 167856046) id fun l => 167688274 ≤ (167856046 : Word).toNat ∧ (167856046 : Word).toNat ≤
      167856046 ∧ l.flag R.WG_STAT_TSLEW = false ∧ l.timeMode ≠ .holdover ∧ l.timeMode ≠ .far) ∧
    (Meets (.incr at0 167772160) (fun l => l.put R.TM_STAT_STATE 4) fun l => 167688274 ≤ (167772160 : Word).toNat ∧
      (167772160 : Word).toNat ≤ 167856046 ∧ l.flag R.WG_STAT_TSLEW = false ∧ (l.timeMode = .holdover ∨ l.timeMode =
      .far)) ∧
    (Meets (.syncLoss at0) (fun l => (l.put R.TM_STAT_STATE 3).onTime fun q => { q with lost := 255 }) fun l =>
      (l.timeMode = .acquire ∨ l.timeMode = .locked) ∧ l.get R.TM_CFG_LOSS ≤ l.tm.lost) := by
  refine ⟨?_, ?_, ?_, ?_, ?_, ?_, ?_⟩ <;> decide +kernel

/-- The premises of CanBus can be met. -/
theorem witness_CanBus :
    (Meets (.canFrameReceived at0 0 { cf with fdf := true }) (fun l => (l.raise (R.CN_CFG_ON 0)).raise
      (R.CN_CFG_EXCINT 0)) fun l => l.canOn 0 = true ∧ l.canOff 0 = false ∧ ({ cf with fdf := true } : CanFrame).fdf
      = true ∧ l.flag (R.CN_CFG_FD 0) = false ∧ l.flag (R.CN_CFG_EXCINT 0) = true) ∧
    (Meets (.canFrameReceived at0 0 { cf with remote := true }) (fun l => l.raise (R.CN_CFG_ON 0)) fun l => l.canOn 0
      = true ∧ l.canOff 0 = false ∧ (({ cf with remote := true } : CanFrame).fdf = false ∨ l.flag (R.CN_CFG_FD 0) =
      true) ∧ ({ cf with remote := true } : CanFrame).remote = true) ∧
    (Meets (.canFrameReceived at0 0 cf) (fun l => ((l.raise (R.CN_CFG_ON 0)).put (R.CN_BCTL_OWN 0 2) 2).raise
      (R.CN_BCTL_FRESH 0 2)) fun l => l.canOn 0 = true ∧ l.canOff 0 = false ∧ ((cf : CanFrame).fdf = false ∨ l.flag
      (R.CN_CFG_FD 0) = true) ∧ (cf : CanFrame).remote = false ∧ (List.finRange 64).find? ((l.goodFrame 0).canMatch 0
      cf) = some (2 : Fin 64) ∧ l.flag (R.CN_BCTL_FRESH 0 (2 : Fin 64)) = true) ∧
    (Meets (.canFrameReceived at0 0 cf) (fun l => l.raise (R.CN_CFG_ON 0)) fun l => l.canOn 0 = true ∧ l.canOff 0 =
      false ∧ ((cf : CanFrame).fdf = false ∨ l.flag (R.CN_CFG_FD 0) = true) ∧ (cf : CanFrame).remote = false ∧
      (List.finRange 64).find? ((l.goodFrame 0).canMatch 0 cf) = none) ∧
    (Meets (.canFrameReceived at0 0 { cf with fdf := true }) (fun l => (l.raise (R.CN_CFG_ON 0)).drop
      (R.CN_CFG_EXCINT 0)) fun l => l.canOn 0 = true ∧ l.canOff 0 = false ∧ ({ cf with fdf := true } : CanFrame).fdf
      = true ∧ l.flag (R.CN_CFG_FD 0) = false ∧ l.flag (R.CN_CFG_EXCINT 0) = false) ∧
    (Meets (.canSlot at0 0 0) id fun l => l.canOn 0 = false ∧ l.get (R.CN_SCH_KIND 0 0) ≠ 1 ∧ l.get (R.CN_SCH_KIND 0
      0) ≠ 2) ∧
    (Meets (.canSlot at0 0 0) (fun l => ((l.raise (R.CN_CFG_ON 0)).put (R.CN_SCH_KIND 0 0) 1).put (R.CN_STAT_STATE 0)
      2) fun l => l.canOn 0 = true ∧ l.canFires 0 0 = true ∧ l.canFired 0 0 = false ∧ 4000 * (l.get (R.CN_SCH_START 0
      0) : Int) ≤ l.sinceCue ∧ l.get (R.CN_SCH_KIND 0 0) = 1 ∧ (l.canOff 0 = true ∨ l.canUnclaimed 0 = true ∨ l.get
      (R.CN_CFG_OPMODE 0) = 2)) ∧
    (Meets (.canSlot at0 0 0) (fun l => (l.raise (R.CN_CFG_ON 0)).put (R.CN_SCH_KIND 0 0) 2) fun l => l.canOn 0 =
      true ∧ l.canFires 0 0 = true ∧ l.canFired 0 0 = false ∧ 4000 * (l.get (R.CN_SCH_START 0 0) : Int) ≤ l.sinceCue
      ∧ l.get (R.CN_SCH_KIND 0 0) = 2 ∧ l.flag (R.CN_BCTL_READY 0 (l.bufIdx (R.CN_SCH_BUF 0 0))) = false) ∧
    (Meets (.canSlot at0 0 0) (fun l => ((l.raise (R.CN_CFG_ON 0)).put (R.CN_SCH_KIND 0 0) 1).put (R.CN_CFG_OPMODE 0)
      1) fun l => l.canOn 0 = true ∧ l.canFires 0 0 = true ∧ l.canFired 0 0 = false ∧ 4000 * (l.get (R.CN_SCH_START 0
      0) : Int) ≤ l.sinceCue ∧ (l.get (R.CN_SCH_KIND 0 0) = 1 ∨ (l.get (R.CN_SCH_KIND 0 0) = 2 ∧ l.flag
      (R.CN_BCTL_READY 0 (l.bufIdx (R.CN_SCH_BUF 0 0))) = true)) ∧ l.canOff 0 = false ∧ l.canUnclaimed 0 = false ∧
      l.get (R.CN_CFG_OPMODE 0) ≠ 2) ∧
    (Meets (.canSlotEnd at0 0 (.acked)) (fun l => l.onCan 0 fun q => { q with slot := some (0, cf) }) fun l =>
      l.can[(0 : Can)].slot = some (0, cf) ∧ ((.acked : SlotEnd) = .notBegun → l.sinceCue < 0 ∨ 4000 * ((l.get
      (R.CN_SCH_START 0 0) : Int) + l.get (R.CN_SCHCFG_WIN 0)) ≤ l.sinceCue ∨ l.canFired 0 0 = false) ∧ (.acked :
      SlotEnd) ≠ .notBegun ∧ (.acked : SlotEnd) = .acked) ∧
    (Meets (.canSlotEnd at0 0 (.ackError)) (fun l => l.onCan 0 fun q => { q with slot := some (0, cf) }) fun l =>
      l.can[(0 : Can)].slot = some (0, cf) ∧ ((.ackError : SlotEnd) = .notBegun → l.sinceCue < 0 ∨ 4000 * ((l.get
      (R.CN_SCH_START 0 0) : Int) + l.get (R.CN_SCHCFG_WIN 0)) ≤ l.sinceCue ∨ l.canFired 0 0 = false) ∧ (.ackError :
      SlotEnd) ≠ .notBegun ∧ (.ackError : SlotEnd) = .ackError) ∧
    (Meets (.canSlotEnd at0 0 (.error 5)) (fun l => l.onCan 0 fun q => { q with slot := some (0, cf) }) fun l =>
      l.can[(0 : Can)].slot = some (0, cf) ∧ ((.error 5 : SlotEnd) = .notBegun → l.sinceCue < 0 ∨ 4000 * ((l.get
      (R.CN_SCH_START 0 0) : Int) + l.get (R.CN_SCHCFG_WIN 0)) ≤ l.sinceCue ∨ l.canFired 0 0 = false) ∧ (.error 5 :
      SlotEnd) ≠ .notBegun ∧ (.error 5 : SlotEnd) = .error (5 : Fin 8)) ∧
    (Meets (.canSlotEnd at0 0 (.arbLost)) (fun l => l.onCan 0 fun q => { q with slot := some (0, cf) }) fun l =>
      l.can[(0 : Can)].slot = some (0, cf) ∧ ((.arbLost : SlotEnd) = .notBegun → l.sinceCue < 0 ∨ 4000 * ((l.get
      (R.CN_SCH_START 0 0) : Int) + l.get (R.CN_SCHCFG_WIN 0)) ≤ l.sinceCue ∨ l.canFired 0 0 = false) ∧ (.arbLost :
      SlotEnd) ≠ .notBegun ∧ (.arbLost : SlotEnd) = .arbLost) ∧
    (Meets (.canSlotEnd at0 0 (.notBegun)) (fun l => l.onCan 0 fun q => { q with slot := some (0, cf) }) fun l =>
      l.can[(0 : Can)].slot = some (0, cf) ∧ ((.notBegun : SlotEnd) = .notBegun → l.sinceCue < 0 ∨ 4000 * ((l.get
      (R.CN_SCH_START 0 0) : Int) + l.get (R.CN_SCHCFG_WIN 0)) ≤ l.sinceCue ∨ l.canFired 0 0 = false) ∧ (.notBegun :
      SlotEnd) = .notBegun) ∧
    (Meets (.canSlotEnd at0 0 (.notBegun)) (fun l => ((l.onCan 0 fun q =>
      { q with slot := some (0, cf), fired := [0] }).onRing fun q => { q with cueAt := 8000000000 * 2 ^ 22 }).put
      (R.CN_SCHCFG_WIN 0) 5) fun l => l.can[(0 : Can)].slot = some (0, cf) ∧ (.notBegun : SlotEnd) = .notBegun ∧ 0 ≤
      l.sinceCue ∧ l.sinceCue < 4000 * ((l.get (R.CN_SCH_START 0 0) : Int) + l.get (R.CN_SCHCFG_WIN 0)) ∧ l.canFired
      0 0 = true) ∧
    (Meets (.busOffDelay at0 0) (fun l => ((l.onCan 0 fun q => { q with offSince := some 0 }).put (R.CN_BOREC_MAX 0)
      3).put (R.CN_STAT_STATE 0) 2) fun l => l.can[(0 : Can)].offSince = some 0 ∧ 0 + ms (l.get (R.CN_BOREC_DELAY 0))
      ≤ l.now ∧ l.get (R.CN_BOREC_BOCNT 0) < l.get (R.CN_BOREC_MAX 0) ∧ l.get (R.CN_STAT_STATE 0) = 2) ∧
    (Meets (.recover at0 0) (fun l => l.put (R.CN_STAT_STATE 0) 2) fun l => l.get (R.CN_STAT_STATE 0) = 2) ∧
    (Meets (.recoveryDone at0 0) (fun l => l.put (R.CN_STAT_STATE 0) 3) fun l => l.get (R.CN_STAT_STATE 0) = 3) ∧
    (Meets (.freshAck at0 0 0 0) id fun l => l.get (R.CN_BCTL_SSEQ 0 0) = (0 : BitVec 4).toNat) ∧
    (Meets (.addressClaim at0 0 0 none) (fun l => l.put (R.CN_BCTL_OWN 0 0) 1) fun l => l.get (R.CN_BCTL_OWN 0 0) =
      1) ∧
    (Meets (.addressClaim at0 0 0 (some true)) id fun _ => (some true) = some true) ∧
    (Meets (.canReceiveError at0 0 (some 3) true) (fun l => l.raise (R.CN_CFG_ON 0)) fun l => l.canOn 0 = true ∧
      l.canOff 0 = false ∧ (some 3) = some (3 : Fin 8)) ∧
    (Meets (.canReceiveError at0 0 none true) (fun l => (l.raise (R.CN_CFG_ON 0)).raise (R.CN_CFG_EXCINT 0)) fun l =>
      l.canOn 0 = true ∧ l.canOff 0 = false ∧ l.flag (R.CN_CFG_EXCINT 0) = true) ∧
    (Meets (.canReceiveError at0 0 none true) (fun l => (l.raise (R.CN_CFG_ON 0)).drop (R.CN_CFG_EXCINT 0)) fun l =>
      l.canOn 0 = true ∧ l.canOff 0 = false ∧ l.flag (R.CN_CFG_EXCINT 0) = false) := by
  refine ⟨?_, ?_, ?_, ?_, ?_, ?_, ?_, ?_, ?_, ?_, ?_, ?_, ?_, ?_, ?_, ?_, ?_, ?_, ?_, ?_, ?_, ?_, ?_, ?_⟩ <;> decide +kernel

/-- The premises of WindowsAndCallboard can be met. -/
theorem witness_WindowsAndCallboard :
    (Meets (.commit at0 0) (fun l => (l.onTrust fun q => { q with book := some sigBook }).put (R.SG_HSEL_HANDLE 0) 7)
      fun l => (l.sigDef (l.get (R.SG_HSEL_HANDLE 0))).map (·.source) = some (.seat 0)) ∧
    (Meets (.commit at0 0) id fun l => (l.sigDef (l.get (R.SG_HSEL_HANDLE 0))).isNone = true) ∧
    (Meets (.claim at0 0) id fun l => l.callGuarded = false ∧ l.flag R.CB_STAT_LEAD = false) ∧
    (Meets (.claim at0 0) (fun l => l.raise R.CB_STAT_LEAD) fun l => l.callGuarded = false ∧ l.flag R.CB_STAT_LEAD =
      true ∧ l.presentedTo 0 = none) ∧
    (Meets (.claim at0 0) (fun l => ((((l.raise R.CB_STAT_LEAD).put (R.CB_PEND_PEND 0) 32).put (R.CB_EN_EN 0 0)
      32).put (R.CB_SRC_PRIO 5) 7).put (R.CB_THR_THR 0) 0) fun l => l.callGuarded = false ∧ l.flag R.CB_STAT_LEAD =
      true ∧ l.presentedTo 0 = some 5 ∧ 5 ≠ 0) ∧
    (Meets (.completion at0 0 5) id fun l => l.heldBy 0 5 = false) ∧
    (Meets (.completion at0 0 5) (fun l => l.onCall fun q => { q with active := [(5, 0), (6, 0)] }) fun l => l.heldBy
      0 5 = true ∧ ((6, 0) : Nat × Seat).1 ≠ 5) := by
  refine ⟨?_, ?_, ?_, ?_, ?_, ?_, ?_⟩ <;> decide +kernel

/-- The premises of SeatPaths can be met. -/
theorem witness_SeatPaths :
    (Meets (.seatWrite at0 0 ((⟨stopPkt.drop 1, fc⟩ : PacketIn).bytes) ((⟨stopPkt.drop 1, fc⟩ : PacketIn).facts))
      (fun l => l.raise R.HS_PORT_EN) fun l => l.flag R.HS_PORT_EN = true ∧ (⟨stopPkt.drop 1, fc⟩ :
      PacketIn).bytes.length ≠ packetLength (⟨stopPkt.drop 1, fc⟩ : PacketIn).bytes) ∧
    (Meets (.seatWrite at0 2 ((stopIn : PacketIn).bytes) ((stopIn : PacketIn).facts)) (fun l => l.raise R.HS_PORT_EN)
      fun l => l.flag R.HS_PORT_EN = true ∧ (stopIn : PacketIn).bytes.length = packetLength (stopIn :
      PacketIn).bytes) ∧
    (Meets (.seatWrite at0 1 ((badIn : PacketIn).bytes) ((badIn : PacketIn).facts)) (fun l => l.raise R.HS_PORT_EN)
      fun l => l.flag R.HS_PORT_EN = true ∧ (badIn : PacketIn).bytes.length = packetLength (badIn : PacketIn).bytes ∧
      1 ≠ 2 ∧ packetCrcOk (badIn : PacketIn).bytes = false) ∧
    (Meets (.seatWrite at0 1 ((stopIn : PacketIn).bytes) ((stopIn : PacketIn).facts)) (fun l => seat0 l 4) fun l =>
      l.flag R.HS_PORT_EN = true ∧ (stopIn : PacketIn).bytes.length = packetLength (stopIn : PacketIn).bytes ∧ 1 ≠ 2
      ∧ packetCrcOk (stopIn : PacketIn).bytes = true ∧ (readPacket stopIn).op = some Op.stop ∧ l.frontFails
      (readPacket stopIn) .port = none ∧ opLocal Op.stop = false ∧ l.trust.romResponder = false ∧ l.goneOut = false ∧
      l.duplicate (readHdr (stopIn : PacketIn).bytes).fp = false ∧ l.sequenceFails (readHdr (stopIn :
      PacketIn).bytes) = none ∧ opFits Op.stop (readHdr (stopIn : PacketIn).bytes).len = true) ∧
    (Meets (.seatWrite at0 1 ((stopIn : PacketIn).bytes) ((stopIn : PacketIn).facts)) (fun l => (seat0 l 4).onSeats
      fun q => { q with seen := [(sha64 (stopPkt.take 16), 7999999999)] }) fun l => l.flag R.HS_PORT_EN = true ∧
      (stopIn : PacketIn).bytes.length = packetLength (stopIn : PacketIn).bytes ∧ 1 ≠ 2 ∧ packetCrcOk (stopIn :
      PacketIn).bytes = true ∧ (readPacket stopIn).op = some Op.stop ∧ l.frontFails (readPacket stopIn) .port = none
      ∧ opLocal Op.stop = false ∧ l.trust.romResponder = false ∧ l.duplicate (readHdr (stopIn : PacketIn).bytes).fp =
      true) ∧
    (Meets (.seatRead at0 true) (fun l => l.raise R.HS_PORT_EN) fun l => l.flag R.HS_PORT_EN = true) ∧
    (Meets (.seatStatus at0 0) (fun l => l.raise R.HS_PORT_EN) fun l => l.flag R.HS_PORT_EN = true) ∧
    (Meets (.seatOtherTransaction at0) (fun l => l.raise R.HS_PORT_EN) fun l => l.flag R.HS_PORT_EN = true) ∧
    (Meets (.canSegment at0 0 true false 1 0 pin) (fun l => l.raise (R.HS_SCAN_EN 0)) fun l => l.flag (R.HS_SCAN_EN
      0) = true ∧ 1 ≠ 0) ∧
    (Meets (.canSegment at0 0 true false 0 5 pin) (fun l => (l.raise (R.HS_SCAN_EN 0)).onSeats fun q =>
      { q with transfers := Vector.replicate 8 (some ⟨0, 1, 0, []⟩) }) fun l => l.flag (R.HS_SCAN_EN 0) = true ∧
      l.seats.transfers[(0 : Seat)] ≠ none) ∧
    (Meets (.canSegment at0 0 true true 0 0 pin) (fun l => l.raise (R.HS_SCAN_EN 0)) fun l => l.flag (R.HS_SCAN_EN 0)
      = true ∧ l.seats.transfers[(0 : Seat)] = none) ∧
    (Meets (.canSegment at0 0 false false 1 0 pin) (fun l => l.raise (R.HS_SCAN_EN 0)) fun l => l.flag (R.HS_SCAN_EN
      0) = true ∧ l.seats.transfers[(0 : Seat)] = none) ∧
    (Meets (.canSegment at0 0 false false 1 5 pin) (fun l => (l.raise (R.HS_SCAN_EN 0)).onSeats fun q =>
      { q with transfers := Vector.replicate 8 (some ⟨0, 1, 0, []⟩) }) fun l => l.flag (R.HS_SCAN_EN 0) = true ∧
      l.seats.transfers[(0 : Seat)] = some (⟨0, 1, 0, []⟩ : CanTransfer) ∧ ((⟨0, 1, 0, []⟩ : CanTransfer).number ≠ (5
      : Byte).toNat ∨ (⟨0, 1, 0, []⟩ : CanTransfer).next ≠ (1 : Fin 64).val)) ∧
    (Meets (.canSegment at0 0 false false 1 0 pin) (fun l => (l.raise (R.HS_SCAN_EN 0)).onSeats fun q =>
      { q with transfers := Vector.replicate 8 (some ⟨0, 1, 0, []⟩) }) fun l => l.flag (R.HS_SCAN_EN 0) = true ∧
      l.seats.transfers[(0 : Seat)] = some (⟨0, 1, 0, []⟩ : CanTransfer) ∧ (⟨0, 1, 0, []⟩ : CanTransfer).number = (0
      : Byte).toNat ∧ (⟨0, 1, 0, []⟩ : CanTransfer).next = (1 : Fin 64).val) ∧
    (Meets (.canSegment at0 0 false true 1 0 pin) (fun l => (l.raise (R.HS_SCAN_EN 0)).onSeats fun q =>
      { q with transfers := Vector.replicate 8 (some ⟨0, 1, 0, []⟩) }) fun l => l.flag (R.HS_SCAN_EN 0) = true ∧
      l.seats.transfers[(0 : Seat)] = some (⟨0, 1, 0, []⟩ : CanTransfer) ∧ (⟨0, 1, 0, []⟩ : CanTransfer).number = (0
      : Byte).toNat ∧ (⟨0, 1, 0, []⟩ : CanTransfer).next = (1 : Fin 64).val) ∧
    (Meets (.canTransferTimeout at0 0) (fun l => (l.onSeats fun q =>
      { q with transfers := Vector.replicate 8 (some ⟨0, 1, 0, []⟩) }).onMode fun q => { q with cycle := 8 }) fun l
      => l.seats.transfers[(0 : Seat)] = some (⟨0, 1, 0, []⟩ : CanTransfer) ∧ (⟨0, 1, 0, []⟩ : CanTransfer).cycle + 8
      ≤ l.mode_.cycle) := by
  refine ⟨?_, ?_, ?_, ?_, ?_, ?_, ?_, ?_, ?_, ?_, ?_, ?_, ?_, ?_, ?_, ?_⟩ <;> decide +kernel

/-- The premises of RegisterOpcodes can be met. -/
theorem witness_RegisterOpcodes :
    (Meets (.readReg at0 hd none 2 1) (fun l => live l 4) fun l => l.allows hd (.readReg 2 1) ∧ (¬(2 % 4 = 0 ∧ 1 ≤ 1
      ∧ 1 ≤ 64 ∧ 2 + 4 * 1 ≤ 2 ^ 24))) ∧
    (Meets (.readReg at0 hd none (R.CB_CLAIM 7) 1) (fun l => (live l 4).raise R.WG_STAT_GUARD) fun l => l.allows hd
      (.readReg (R.CB_CLAIM 7) 1) ∧ (R.CB_CLAIM 7) % 4 = 0 ∧ 1 ≤ 1 ∧ 1 ≤ 64 ∧ (R.CB_CLAIM 7) + 4 * 1 ≤ 2 ^ 24 ∧
      claims (R.CB_CLAIM 7) 1 = true ∧ l.callGuarded = true) ∧
    (Meets (.readReg at0 hd none 0 64) (fun l => live l 4) fun l => l.allows hd (.readReg 0 64) ∧ 0 % 4 = 0 ∧ 1 ≤ 64
      ∧ 64 ≤ 64 ∧ 0 + 4 * 64 ≤ 2 ^ 24 ∧ (¬(claims 0 64 = true ∧ l.callGuarded = true))) ∧
    (Meets (.writeReg at0 hd none 0 255 []) (fun l => live l 4) fun l => l.allows hd (.writeReg 0 255 ([])) ∧ (¬(0 %
      4 = 0 ∧ 1 ≤ 255 ∧ 255 ≤ 254 ∧ 0 + 4 * 255 ≤ 2 ^ 24))) ∧
    (Meets (.writeReg at0 hd none (R.PW_TLIM) 1 [0x04E20400]) (fun l => live l 4) fun l => l.allows hd (.writeReg
      R.PW_TLIM 1 ([0x04E20400])) ∧ ([0x04E20400]) = [0x04E20400] ∧ l.firstRefused [(R.PW_TLIM, 0x04E20400)] = none) ∧
    (Meets (.writeReg at0 hd none 0x130000 1 [2]) (fun l => live l 4) fun l => l.allows hd (.writeReg 0x130000 1
      ([2])) ∧ 0x130000 % 4 = 0 ∧ 0x130000 ≤ 0x130000 ∧ 0x130000 + 4 ≤ 2 ^ 24 ∧ ([2]) = [2]) := by
  refine ⟨?_, ?_, ?_, ?_, ?_, ?_⟩ <;> decide +kernel

/-- The premises of ReportOpcodes can be met. -/
theorem witness_ReportOpcodes :
    (Meets (.ping at0 hd none [1]) (fun l => live l 4) fun l => l.allows hd (.ping ([1]))) ∧
    (Meets (.pbStatus at0 hd none) (fun l => live l 4) fun l => l.allows hd .pbStatus) ∧
    (Meets (.rehReport at0 hd none) (fun l => live l 4) fun l => l.allows hd .rehReport) ∧
    (Meets (.logInfo at0 hd none) (fun l => live l 4) fun l => l.allows hd .logInfo) ∧
    (Meets (.timeRead at0 hd none) (fun l => live l 4) fun l => l.allows hd .timeRead) ∧
    (Meets (.timeEcho at0 hd none 0) (fun l => live l 4) fun l => l.allows hd (.timeEcho 0)) ∧
    (Meets (.idInfo at0 hd none) (fun l => live l 4) fun l => l.allows hd .idInfo) ∧
    (Meets (.idCert at0 hd none 3 0) (fun l => live l 4) fun l => l.allows hd (.idCert 3 0) ∧ 2 < 3) ∧
    (Meets (.idCert at0 hd none 2 0) (fun l => live l 4) fun l => l.allows hd (.idCert 2 0) ∧ 2 ≤ 2) ∧
    (Meets (.fwStatus at0 hd none) (fun l => live l 4) fun l => l.allows hd .fwStatus) ∧
    (Meets (.safetyStatus at0 hd none) (fun l => live l 4) fun l => l.allows hd .safetyStatus) := by
  refine ⟨?_, ?_, ?_, ?_, ?_, ?_, ?_, ?_, ?_, ?_, ?_⟩ <;> decide +kernel

/-- The premises of SpotlightOpcodes can be met. -/
theorem witness_SpotlightOpcodes :
    (Meets (.spotRequest at0 hd none true) (fun l => (live l 4).raise R.WG_STAT_GUARD) fun l => l.allows hd
      (.spotRequest true) ∧ l.flag R.WG_STAT_GUARD = true) ∧
    (Meets (.spotRequest at0 hd none true) (fun l => (live l 4).raise R.LC_STATE_LEAD) fun l => l.allows hd
      (.spotRequest true) ∧ l.flag R.WG_STAT_GUARD = false ∧ l.flag R.LC_STATE_LEAD = true) ∧
    (Meets (.spotRequest at0 hd none true) (fun l => live l 4) fun l => l.allows hd (.spotRequest true) ∧ l.flag
      R.WG_STAT_GUARD = false ∧ l.flag R.LC_STATE_LEAD = false) ∧
    (Meets (.spotQuery at0 hd none) (fun l => live l 4) fun l => l.allows hd .spotQuery) ∧
    (Meets (.stop at0 hd none) (fun l => live l 4) fun l => l.allows hd .stop) ∧
    (Meets (.frozenTimeout at0) (fun l => live ((l.raise R.HS_SPOT_FROZEN).onMode fun q => { q with cycle := 4 }) 6)
      fun l => l.flag R.HS_SPOT_FROZEN = true ∧ l.flag R.HS_SPOT_HELD = false ∧ l.seats.endedAt + 4 ≤ l.mode_.cycle ∧
      l.flag R.HS_SPOTCFG_DEFAULT = false ∧ l.mode = .performing ∧ l.mode_.stop = none) := by
  refine ⟨?_, ?_, ?_, ?_, ?_, ?_⟩ <;> decide +kernel

/-- The premises of StateOpcodes can be met. -/
theorem witness_StateOpcodes :
    (Meets (.arm at0 hd none) (fun l => ((hold l 4).onTrust fun q => { q with state := 5 }).onWing fun q =>
      { q with values := { q.values with everyConfirmed := true } }) fun l => l.allows hd .arm ∧ l.armRefused = none) ∧
    (Meets (.arm at0 hd none) (fun l => hold l 4) fun l => l.allows hd .arm ∧ l.armRefused = some (⟨9, 0⟩ : Status)) ∧
    (Meets (.perform at0 hd none) (fun l => hold l 5) fun l => l.allows hd .perform ∧ l.inhibited = false) ∧
    (Meets (.perform at0 hd none) (fun l => ((hold l 5).put (R.SF_SICFG_FUNC 0) 1).put R.SF_STAT_DEM 1) fun l =>
      l.allows hd .perform ∧ l.inhibited = true) ∧
    (Meets (.setpoint at0 hd none ([⟨4, 0⟩] : List SetEntry)) (fun l => hold l 6) fun l => l.allows hd (.setpoint
      ([⟨4, 0⟩] : List SetEntry)) ∧ (∃ x ∈ ([⟨4, 0⟩] : List SetEntry), 4 ≤ x.axis)) ∧
    (Meets (.setpoint at0 hd none ([⟨0, 0⟩] : List SetEntry)) (fun l => hold l 6) fun l => l.allows hd (.setpoint
      ([⟨0, 0⟩] : List SetEntry)) ∧ (∃ x ∈ ([⟨0, 0⟩] : List SetEntry), ∃ n : Axis, n.val = x.axis ∧ l.loopRole n =
      .none)) ∧
    (Meets (.setpoint at0 hd none ([⟨0, 5⟩] : List SetEntry)) (fun l => (hold l 6).put (R.LE_AXCFG_ROLE 0) 1) fun l
      => l.allows hd (.setpoint [⟨0, 5⟩]) ∧ l.loopRole 0 ≠ .none ∧ ([⟨0, 5⟩] : List SetEntry).map (·.axis) = [0]) ∧
    (Meets (.setpoint at0 hd none ([⟨0, 5⟩, ⟨0, 6⟩] : List SetEntry)) (fun l => (hold l 6).put (R.LE_AXCFG_ROLE 0) 1)
      fun l => l.allows hd (.setpoint [⟨0, 5⟩, ⟨0, 6⟩]) ∧ l.loopRole 0 ≠ .none ∧ ¬(([⟨0, 5⟩, ⟨0, 6⟩] : List
      SetEntry).map (·.axis)).Nodup) ∧
    (Meets (.disarm at0 hd none) (fun l => hold l 5) fun l => l.allows hd .disarm ∧ (∀ n, l.bookEnables n = true →
      l.flag (R.FB_STAT_STILL n) = true)) ∧
    (Meets (.disarm at0 hd none) (fun l => ((hold l 5).put (R.FB_STAT_STILL 0) 0).onTrust fun q =>
      { q with book := some enBook }) fun l => l.allows hd .disarm ∧ (∃ n, l.bookEnables n = true ∧ l.flag
      (R.FB_STAT_STILL n) = false)) ∧
    (Meets (.workshopEnter at0 hd none) (fun l => (live l 9).put R.LC_STATE_LIVECNT 2) fun l => l.allows hd
      .workshopEnter ∧ l.mode = .curtain ∧ 2 ≤ l.get R.LC_STATE_LIVECNT) ∧
    (Meets (.workshopEnter at0 hd none) (fun l => (live l 9).put R.LC_STATE_LIVECNT 1) fun l => l.allows hd
      .workshopEnter ∧ l.mode = .curtain ∧ l.get R.LC_STATE_LIVECNT < 2) ∧
    (Meets (.workshopEnter at0 hd none) (fun l => live l 4) fun l => l.allows hd .workshopEnter ∧ l.mode = .hold ∧
      l.wing.booksDiffer = false ∧ l.wing.serialBad = false) ∧
    (Meets (.workshopEnter at0 hd none) (fun l => (live l 4).onWing fun q => { q with booksDiffer := true }) fun l =>
      l.allows hd .workshopEnter ∧ l.mode = .hold ∧ (l.wing.booksDiffer = true ∨ l.wing.serialBad = true)) ∧
    (Meets (.workshopLeave at0 hd none) (fun l => live l 10) fun l => l.allows hd .workshopLeave) := by
  refine ⟨?_, ?_, ?_, ?_, ?_, ?_, ?_, ?_, ?_, ?_, ?_, ?_, ?_, ?_, ?_⟩ <;> decide +kernel

/-- The premises of SessionsAndLog can be met. -/
theorem witness_SessionsAndLog :
    (Meets (.sessionOpen at0 { hd with session := 0 } none 0 true true) (fun l => live l 4) fun l => l.allows
      ({ hd with session := 0 } : Hdr) (.sessionOpen 0 true true) ∧ ({ hd with session := 0 } : Hdr).session.toNat ≤
      l.seats.sessionHigh[({ hd with session := 0 } : Hdr).seat]) ∧
    (Meets (.sessionOpen at0 { hd with session := 1 } none 0 true true) (fun l => live l 4) fun l => l.allows
      ({ hd with session := 1 } : Hdr) (.sessionOpen 0 true true) ∧ l.trust.romResponder = false ∧
      l.seats.sessionHigh[({ hd with session := 1 } : Hdr).seat] < ({ hd with session := 1 } : Hdr).session.toNat) ∧
    (Meets (.sessionClose at0 hd none) (fun l => live l 4) fun l => l.allows hd .sessionClose ∧ l.flag
      (R.HS_SSEQ_OPEN (hd : Hdr).seat) = false) ∧
    (Meets (.sessionClose at0 hd none) (fun l => (live l 4).raise (R.HS_SSEQ_OPEN 0)) fun l => l.allows hd
      .sessionClose ∧ l.flag (R.HS_SSEQ_OPEN (hd : Hdr).seat) = true) ∧
    (Meets (.logRead at0 hd none 0 15) (fun l => live l 4) fun l => l.allows hd (.logRead 0 15) ∧ (15 < 16 ∨ 1024 <
      15)) ∧
    (Meets (.logRead at0 hd none 0 16) (fun l => live l 4) fun l => l.allows hd (.logRead 0 16) ∧ 16 ≤ 16 ∧ 16 ≤
      1024) ∧
    (Meets (.logMark at0 hd none [65]) (fun l => live l 4) fun l => l.allows hd (.logMark ([65]))) ∧
    (Meets (.attest at0 hd none 0) (fun l => live l 4) fun l => l.allows hd (.attest 0) ∧ l.trust.romResponder =
      false) := by
  refine ⟨?_, ?_, ?_, ?_, ?_, ?_, ?_, ?_⟩ <;> decide +kernel

/-- The premises of BookOpcodes can be met. -/
theorem witness_BookOpcodes :
    (Meets (.pbLoadBegin at0 hd none 0 0) (fun l => (live l 4).onTrust fun q =>
      { q with load := some ⟨false, 0, 0, 4, 0, 0⟩ }) fun l => l.allows hd (.pbLoadBegin 0 0) ∧ l.trust.load ≠ none) ∧
    (Meets (.pbLoadBegin at0 hd none 2097153 0) (fun l => live l 4) fun l => l.allows hd (.pbLoadBegin 2097153 0) ∧
      l.trust.load = none ∧ 2097152 < 2097153) ∧
    (Meets (.pbLoadBegin at0 hd none 2097152 0) (fun l => live l 4) fun l => l.allows hd (.pbLoadBegin 2097152 0) ∧
      l.trust.load = none ∧ 2097152 ≤ 2097152) ∧
    (Meets (.pbLoadData at0 hd none 0 4) (fun l => live l 4) fun l => l.allows hd (.pbLoadData 0 4) ∧ l.trust.load =
      none) ∧
    (Meets (.pbLoadData at0 hd none 0 4) (fun l => (live l 4).onTrust fun q =>
      { q with load := some ⟨false, 1, 0, 4, 0, 0⟩ }) fun l => l.allows hd (.pbLoadData 0 4) ∧ l.trust.load = some
      (⟨false, 1, 0, 4, 0, 0⟩ : LoadSession) ∧ (⟨false, 1, 0, 4, 0, 0⟩ : LoadSession).seat ≠ (hd : Hdr).seat) ∧
    (Meets (.pbLoadData at0 hd none 4 4) (fun l => (live l 4).onTrust fun q =>
      { q with load := some ⟨false, 0, 0, 4, 0, 0⟩ }) fun l => l.allows hd (.pbLoadData 4 4) ∧ l.trust.load = some
      (⟨false, 0, 0, 4, 0, 0⟩ : LoadSession) ∧ (⟨false, 0, 0, 4, 0, 0⟩ : LoadSession).seat = (hd : Hdr).seat ∧
      ((⟨false, 0, 0, 4, 0, 0⟩ : LoadSession).firmware ≠ false ∨ 4 ≠ (⟨false, 0, 0, 4, 0, 0⟩ : LoadSession).written ∨
      (⟨false, 0, 0, 4, 0, 0⟩ : LoadSession).length < 4 + 4)) ∧
    (Meets (.pbLoadData at0 hd none 0 4) (fun l => (live l 4).onTrust fun q =>
      { q with load := some ⟨false, 0, 0, 4, 0, 0⟩ }) fun l => l.allows hd (.pbLoadData 0 4) ∧ l.trust.load = some
      (⟨false, 0, 0, 4, 0, 0⟩ : LoadSession) ∧ (⟨false, 0, 0, 4, 0, 0⟩ : LoadSession).seat = (hd : Hdr).seat ∧
      (⟨false, 0, 0, 4, 0, 0⟩ : LoadSession).firmware = false ∧ 0 = (⟨false, 0, 0, 4, 0, 0⟩ : LoadSession).written ∧
      0 + 4 ≤ (⟨false, 0, 0, 4, 0, 0⟩ : LoadSession).length) ∧
    (Meets (.pbLoadEnd at0 hd none true bk) (fun l => live l 4) fun l => l.allows hd (.pbLoadEnd true bk) ∧ l.loadOf
      hd false = none) ∧
    (Meets (.pbLoadEnd at0 hd none true bk) (fun l => (live l 4).onTrust fun q =>
      { q with load := some ⟨false, 0, 0, 4, 0, 0⟩ }) fun l => l.allows hd (.pbLoadEnd true bk) ∧ l.loadOf hd false =
      some (⟨false, 0, 0, 4, 0, 0⟩ : LoadSession) ∧ ((⟨false, 0, 0, 4, 0, 0⟩ : LoadSession).written ≠ (⟨false, 0, 0,
      4, 0, 0⟩ : LoadSession).length ∨ (⟨false, 0, 0, 4, 0, 0⟩ : LoadSession).digest ≠ (bk : Book).digest ∨ true =
      false)) ∧
    (Meets (.pbLoadEnd at0 hd none true bk) (fun l => (live l 4).onTrust fun q =>
      { q with load := some ⟨false, 0, 0, 4, 0, 4⟩ }) fun l => l.allows hd (.pbLoadEnd true bk) ∧ l.loadOf hd false =
      some (⟨false, 0, 0, 4, 0, 4⟩ : LoadSession) ∧ (⟨false, 0, 0, 4, 0, 4⟩ : LoadSession).written = (⟨false, 0, 0,
      4, 0, 4⟩ : LoadSession).length ∧ (⟨false, 0, 0, 4, 0, 4⟩ : LoadSession).digest = (bk : Book).digest ∧
      l.verifyBook bk = some 1) ∧
    (Meets (.pbLoadEnd at0 hd none true bkOk) (fun l => (live l 4).onTrust fun q =>
      { q with load := some ⟨false, 0, 0, 4, 0, 4⟩ }) fun l => l.allows hd (.pbLoadEnd true bkOk) ∧ l.loadOf hd false
      = some (⟨false, 0, 0, 4, 0, 4⟩ : LoadSession) ∧ (⟨false, 0, 0, 4, 0, 4⟩ : LoadSession).written = (⟨false, 0, 0,
      4, 0, 4⟩ : LoadSession).length ∧ (⟨false, 0, 0, 4, 0, 4⟩ : LoadSession).digest = (bkOk : Book).digest ∧
      l.verifyBook bkOk = none) ∧
    (Meets (.pbActivate at0 hd none) (fun l => live l 4) fun l => l.allows hd .pbActivate ∧ activeSlot l.pbSlots =
      none) ∧
    (Meets (.pbActivate at0 hd none) (fun l => (live l 4).onTrust fun q =>
      { q with flash := { q.flash with pb := #v[some (slot0 1772, bkOk), none] } }) fun l => l.allows hd .pbActivate
      ∧ activeSlot l.pbSlots = some (0 : Fin 2) ∧ l.pbSlots[(0 : Fin 2)] = some (1, bkOk) ∧ l.verifyBook bkOk = none) ∧
    (Meets (.pbActivate at0 hd none) (fun l => (live l 4).onTrust fun q =>
      { q with flash := { q.flash with pb := #v[some (slot0 0, bk), none] } }) fun l => l.allows hd .pbActivate ∧
      activeSlot l.pbSlots = some (0 : Fin 2) ∧ l.pbSlots[(0 : Fin 2)] = some (1, bk) ∧ l.verifyBook bk = some 1) ∧
    (Meets (.pbAbort at0 hd none) (fun l => live l 4) fun l => l.allows hd .pbAbort ∧ l.trust.load = none) ∧
    (Meets (.pbAbort at0 hd none) (fun l => (live l 4).onTrust fun q =>
      { q with load := some ⟨false, 0, 0, 4, 0, 4⟩ }) fun l => l.allows hd .pbAbort ∧ l.trust.load ≠ none) := by
  refine ⟨?_, ?_, ?_, ?_, ?_, ?_, ?_, ?_, ?_, ?_, ?_, ?_, ?_, ?_, ?_, ?_⟩ <;> decide +kernel

/-- The premises of FirmwareOpcodes can be met. -/
theorem witness_FirmwareOpcodes :
    (Meets (.fwLoadBegin at0 hd none 0 0) (fun l => (live l 4).onTrust fun q =>
      { q with load := some ⟨true, 0, 0, 4, 0, 0⟩ }) fun l => l.allows hd (.fwLoadBegin 0 0) ∧ l.trust.load ≠ none) ∧
    (Meets (.fwLoadBegin at0 hd none 4194305 0) (fun l => live l 4) fun l => l.allows hd (.fwLoadBegin 4194305 0) ∧
      l.trust.load = none ∧ 4194304 < 4194305) ∧
    (Meets (.fwLoadBegin at0 hd none 4194304 0) (fun l => live l 4) fun l => l.allows hd (.fwLoadBegin 4194304 0) ∧
      l.trust.load = none ∧ 4194304 ≤ 4194304) ∧
    (Meets (.fwLoadData at0 hd none 0 4) (fun l => live l 4) fun l => l.allows hd (.fwLoadData 0 4) ∧ l.trust.load =
      none) ∧
    (Meets (.fwLoadData at0 hd none 0 4) (fun l => (live l 4).onTrust fun q =>
      { q with load := some ⟨true, 1, 0, 4, 0, 0⟩ }) fun l => l.allows hd (.fwLoadData 0 4) ∧ l.trust.load = some
      (⟨true, 1, 0, 4, 0, 0⟩ : LoadSession) ∧ (⟨true, 1, 0, 4, 0, 0⟩ : LoadSession).seat ≠ (hd : Hdr).seat) ∧
    (Meets (.fwLoadData at0 hd none 4 4) (fun l => (live l 4).onTrust fun q =>
      { q with load := some ⟨true, 0, 0, 4, 0, 0⟩ }) fun l => l.allows hd (.fwLoadData 4 4) ∧ l.trust.load = some
      (⟨true, 0, 0, 4, 0, 0⟩ : LoadSession) ∧ (⟨true, 0, 0, 4, 0, 0⟩ : LoadSession).seat = (hd : Hdr).seat ∧ ((⟨true,
      0, 0, 4, 0, 0⟩ : LoadSession).firmware ≠ true ∨ 4 ≠ (⟨true, 0, 0, 4, 0, 0⟩ : LoadSession).written ∨ (⟨true, 0,
      0, 4, 0, 0⟩ : LoadSession).length < 4 + 4)) ∧
    (Meets (.fwLoadData at0 hd none 0 4) (fun l => (live l 4).onTrust fun q =>
      { q with load := some ⟨true, 0, 0, 4, 0, 0⟩ }) fun l => l.allows hd (.fwLoadData 0 4) ∧ l.trust.load = some
      (⟨true, 0, 0, 4, 0, 0⟩ : LoadSession) ∧ (⟨true, 0, 0, 4, 0, 0⟩ : LoadSession).seat = (hd : Hdr).seat ∧ (⟨true,
      0, 0, 4, 0, 0⟩ : LoadSession).firmware = true ∧ 0 = (⟨true, 0, 0, 4, 0, 0⟩ : LoadSession).written ∧ 0 + 4 ≤
      (⟨true, 0, 0, 4, 0, 0⟩ : LoadSession).length) ∧
    (Meets (.fwLoadEnd at0 hd none true fw0) (fun l => live l 4) fun l => l.allows hd (.fwLoadEnd true fw0) ∧
      l.loadOf hd true = none) ∧
    (Meets (.fwLoadEnd at0 hd none true fw0) (fun l => (live l 4).onTrust fun q =>
      { q with load := some ⟨true, 0, 0, 4, 0, 0⟩ }) fun l => l.allows hd (.fwLoadEnd true fw0) ∧ l.loadOf hd true =
      some (⟨true, 0, 0, 4, 0, 0⟩ : LoadSession) ∧ ((⟨true, 0, 0, 4, 0, 0⟩ : LoadSession).written ≠ (⟨true, 0, 0, 4,
      0, 0⟩ : LoadSession).length ∨ (⟨true, 0, 0, 4, 0, 0⟩ : LoadSession).digest ≠ (fw0 : FwImage).digest ∨ true =
      false)) ∧
    (Meets (.fwLoadEnd at0 hd none true fw0) (fun l => (live l 4).onTrust fun q =>
      { q with load := some ⟨true, 0, 0, 4, 0, 4⟩ }) fun l => l.allows hd (.fwLoadEnd true fw0) ∧ l.loadOf hd true =
      some (⟨true, 0, 0, 4, 0, 4⟩ : LoadSession) ∧ (⟨true, 0, 0, 4, 0, 4⟩ : LoadSession).written = (⟨true, 0, 0, 4,
      0, 4⟩ : LoadSession).length ∧ (⟨true, 0, 0, 4, 0, 4⟩ : LoadSession).digest = (fw0 : FwImage).digest ∧
      l.firmwareRefused fw0 = some 1) ∧
    (Meets (.fwLoadEnd at0 hd none true fwOk) (fun l => (live l 4).onTrust fun q =>
      { q with load := some ⟨true, 0, 0, 4, 0, 4⟩ }) fun l => l.allows hd (.fwLoadEnd true fwOk) ∧ l.loadOf hd true =
      some (⟨true, 0, 0, 4, 0, 4⟩ : LoadSession) ∧ (⟨true, 0, 0, 4, 0, 4⟩ : LoadSession).written = (⟨true, 0, 0, 4,
      0, 4⟩ : LoadSession).length ∧ (⟨true, 0, 0, 4, 0, 4⟩ : LoadSession).digest = (fwOk : FwImage).digest ∧
      l.firmwareRefused fwOk = none) ∧
    (Meets (.fwRestart at0 hd none) (fun l => live l 4) fun l => l.allows hd .fwRestart) ∧
    (Meets (.fwRestart at0 hd none) (fun l => live l 5) fun l => l.named hd ∧ l.opRefused hd .fwRestart ≠ none) ∧
    (Meets (.fwRestart at0 { hd with mask := 0 } none) (fun l => live l 4) fun l => (¬l.named ({ hd with mask := 0 }
      : Hdr)) ∧ (l.mode = .hold ∨ l.mode = .workshop)) ∧
    (Meets (.fwCommit at0 hd none) (fun l => ((live l 4).onTrust fun q => { q with fw := some fw0 }).onWing fun q =>
      { q with values := { q.values with oneVersion := true } }) fun l => l.allows hd .fwCommit ∧ l.trust.fw = some
      fw0 ∧ l.wing.values.oneVersion = true) ∧
    (Meets (.fwCommit at0 hd none) (fun l => ((live l 4).onTrust fun q => { q with fw := some fw0 }).onWing fun q =>
      { q with values := { q.values with oneVersion := false } }) fun l => l.allows hd .fwCommit ∧ l.trust.fw = some
      fw0 ∧ l.wing.values.oneVersion = false) := by
  refine ⟨?_, ?_, ?_, ?_, ?_, ?_, ?_, ?_, ?_, ?_, ?_, ?_, ?_, ?_, ?_, ?_⟩ <;> decide +kernel

/-- The premises of DecisionOpcodes can be met. -/
theorem witness_DecisionOpcodes :
    (Meets (.confirmCheck at0 hd none 0) (fun l => (live l 4).onTrust fun q =>
      { q with load := some ⟨true, 0, 0, 4, 0, 4⟩ }) fun l => l.allows hd (.confirmCheck 0) ∧ l.trust.load ≠ none) ∧
    (Meets (.confirmCheck at0 hd none 0) (fun l => live l 4) fun l => l.allows hd (.confirmCheck 0) ∧ l.trust.load =
      none ∧ (l.trust.state ≠ 4 ∨ l.wing.values.noneConfirmed = false)) ∧
    (Meets (.confirmCheck at0 hd none 0) (fun l => ((live l 4).onTrust fun q =>
      { q with state := 4, book := some bk0 }).onWing fun q =>
      { q with values := { q.values with noneConfirmed := true } }) fun l => l.allows hd (.confirmCheck 0) ∧
      l.trust.load = none ∧ l.trust.state = 4 ∧ l.wing.values.noneConfirmed = true ∧ l.trust.book = some bk0 ∧
      checkValue bk0 = 0) ∧
    (Meets (.confirmCheck at0 hd none 1) (fun l => ((live l 4).onTrust fun q =>
      { q with state := 4, book := some bk0 }).onWing fun q =>
      { q with values := { q.values with noneConfirmed := true } }) fun l => l.allows hd (.confirmCheck 1) ∧
      l.trust.load = none ∧ l.trust.state = 4 ∧ l.wing.values.noneConfirmed = true ∧ l.trust.book = some bk0 ∧
      checkValue bk0 ≠ 1) ∧
    (Meets (.cartAccept at0 hd none 4 0) (fun l => live l 4) fun l => l.allows hd (.cartAccept 4 0) ∧ 4 ≤ 4) ∧
    (Meets (.cartAccept at0 hd none 3 0) (fun l => (live l 4).onCart 3 fun q => { q with running := true }) fun l =>
      (3 : Axis).val = 3 ∧ l.allows hd (.cartAccept 3 0) ∧ (l.cart (3 : Axis)).running = true) ∧
    (Meets (.cartAccept at0 hd none 3 0) (fun l => live l 4) fun l => (3 : Axis).val = 3 ∧ l.allows hd (.cartAccept 3
      0) ∧ (l.cart (3 : Axis)).running = false ∧ (l.cart (3 : Axis)).digest ≠ some 0) ∧
    (Meets (.cartAccept at0 hd none 3 0) (fun l => ((live l 4).onCart 3 fun q => { q with digest := some 0 }).put
      (R.CT_STAT_AUTH 3) 1) fun l => (3 : Axis).val = 3 ∧ l.allows hd (.cartAccept 3 0) ∧ (l.cart (3 : Axis)).running
      = false ∧ (l.cart (3 : Axis)).digest = some 0 ∧ l.axisTrusted (3 : Axis) = true) ∧
    (Meets (.cartAccept at0 hd none 3 0) (fun l => (live l 4).onCart 3 fun q => { q with digest := some 0 }) fun l =>
      (3 : Axis).val = 3 ∧ l.allows hd (.cartAccept 3 0) ∧ (l.cart (3 : Axis)).running = false ∧ (l.cart (3 :
      Axis)).digest = some 0 ∧ l.axisTrusted (3 : Axis) = false) ∧
    (Meets (.lifeAck at0 hd none 4) (fun l => live l 4) fun l => l.allows hd (.lifeAck 4) ∧ 4 ≤ 4) ∧
    (Meets (.lifeAck at0 hd none 3) (fun l => live l 4) fun l => (3 : Axis).val = 3 ∧ l.allows hd (.lifeAck 3) ∧
      l.lifeRefused (3 : Axis) = false) ∧
    (Meets (.lifeAck at0 hd none 3) (fun l => (live l 4).onCart 3 fun q => { q with refusedLife := true }) fun l =>
      (3 : Axis).val = 3 ∧ l.allows hd (.lifeAck 3) ∧ l.lifeRefused (3 : Axis) = true) ∧
    (Meets (.rehRerun at0 hd none 10) (fun l => live l 4) fun l => l.allows hd (.rehRerun 10) ∧ (10 < 3 ∨ 9 < 10)) ∧
    (Meets (.rehRerun at0 hd none 9) (fun l => live l 4) fun l => l.allows hd (.rehRerun 9) ∧ 3 ≤ 9 ∧ 9 ≤ 9) ∧
    (Meets (.rehTask at0 hd none 0) (fun l => hold l 10) fun l => l.allows hd (.rehTask 0) ∧ (((l.trust.book.bind
      (·.tasks)).getD [])[(0 : Nat)]?) = none) ∧
    (Meets (.rehTask at0 hd none 0) (fun l => (hold l 10).onTrust fun q => { q with book := some taskBook }) fun l =>
      l.allows hd (.rehTask 0) ∧ (((l.trust.book.bind (·.tasks)).getD [])[(0 : Nat)]?) = some tk) := by
  refine ⟨?_, ?_, ?_, ?_, ?_, ?_, ?_, ?_, ?_, ?_, ?_, ?_, ?_, ?_, ?_, ?_⟩ <;> decide +kernel

/-- The premises of SafetyInputs can be met. -/
theorem witness_SafetyInputs :
    (Meets (.safetyInputChange ⟨at0, 999999⟩ 0 true true) id fun l => tenths (l.get (R.SF_SICFG_FILT 0)) ≤ us 999999) ∧
    (Meets (.safetyInputChange ⟨at0, 999999⟩ 0 false true) (fun l => l.put R.SF_OWN_DISCF 1) fun l => tenths (l.get
      (R.SF_SICFG_FILT 0)) ≤ us 999999 ∧ false ≠ true ∧ l.bit R.SF_OWN_DISCF 0 = true) ∧
    (Meets (.discrepancyFault at0 0) (fun l => l.onSafety fun q =>
      { q with discSince := Vector.replicate 8 (some 0) }) fun l => l.safety.discSince[(0 : Fin 8)] = some 0 ∧ 0 + ms
      (l.get (R.SF_SICFG_DISC 0)) ≤ l.now ∧ l.bit R.SF_OWN_DISCF 0 = false) ∧
    (Meets (.gtSeenOpen ⟨at0, 999999⟩ 0) (fun l => live l 4) fun l => l.mode ≠ .boot ∧ l.bit R.SF_STAT_GTOK 0 = false
      ∧ tenths (l.get (R.SF_GTCFG_FILT 0)) ≤ us 999999 ∧ l.mode_.leftBoot + tenths (l.get (R.SF_GTCFG_FILT 0)) ≤
      l.now) ∧
    (Meets (.gtInputChange ⟨at0, 999999⟩ 0 true) id fun l => tenths (l.get (R.SF_GTCFG_FILT 0)) ≤ us 999999) ∧
    (Meets (.resetButton at0 1000 1000) id fun l => 1000 ≤ 1000 ∧ (l.flag R.SF_STAT_RSTUCK = true ∨ 2000000 < 1000 ∨
      l.highFromBoot 1000 = true)) ∧
    (Meets (.resetButton at0 49999 1000) (fun l => live l 4) fun l => 1000 ≤ 49999 ∧ 1000 ≤ 1000 ∧ l.flag
      R.SF_STAT_RSTUCK = false ∧ l.highFromBoot 49999 = false ∧ 49999 < 50000) ∧
    (Meets (.resetButton at0 50000 1000) (fun l => live l 4) fun l => 1000 ≤ 50000 ∧ 1000 ≤ 1000 ∧ l.flag
      R.SF_STAT_RSTUCK = false ∧ l.highFromBoot 50000 = false ∧ 50000 ≤ 50000 ∧ 50000 ≤ 2000000) ∧
    (Meets (.resetStuck ⟨at0, 2000001⟩) id fun l => l.flag R.SF_STAT_RSTUCK = false ∧ 2000000 < 2000001) ∧
    (Meets (.resetSingle at0) (fun l => l.onSafety fun q => { q with resets := #v[some 0, none, none] }) fun l =>
      some 0 ∈ l.safety.resets.toList ∧ 0 + l.get R.SF_CFG_RWIN * 1000000 < l.ltimeNs) := by
  refine ⟨?_, ?_, ?_, ?_, ?_, ?_, ?_, ?_, ?_, ?_⟩ <;> decide +kernel

/-- The premises of Contactors can be met. -/
theorem witness_Contactors :
    (Meets (.koCommand at0 0) (fun l => l.put (R.SF_KOCFG_FUNC 3) 3) fun l => l.get (R.SF_KOCFG_FUNC (3 : Fin 4)) = 3
      ∧ (0 : BitVec 4).getLsbD (3 : Fin 4) = false) ∧
    (Meets (.contactorCheck at0 0 true) id fun l => (l.flag (R.SF_KOCFG_FBEN 0) = false ∨ l.now < l.safety.koAt[(0 :
      Fin 4)] + ms 50 ∨ l.contactorClosed 0 true = l.bit R.SF_KOSTAT_ON 0)) ∧
    (Meets (.contactorCheck at0 0 false) (fun l => (((l.put (R.SF_KOCFG_FBPOL 0) 0).raise (R.SF_KOCFG_FBEN 0)).put
      R.SF_KOSTAT_ON 1).put (R.SF_KOCFG_FUNC 0) 1) fun l => l.flag (R.SF_KOCFG_FBEN 0) = true ∧ l.safety.koAt[(0 :
      Fin 4)] + ms 50 ≤ l.now ∧ l.contactorClosed 0 false = false ∧ l.bit R.SF_KOSTAT_ON 0 = true ∧ l.get
      (R.SF_KOCFG_FUNC 0) = 1) ∧
    (Meets (.contactorCheck at0 0 true) (fun l => (l.put (R.SF_KOCFG_FBPOL 0) 0).raise (R.SF_KOCFG_FBEN 0)) fun l =>
      l.flag (R.SF_KOCFG_FBEN 0) = true ∧ l.safety.koAt[(0 : Fin 4)] + ms 50 ≤ l.now ∧ l.contactorClosed 0 true =
      true ∧ l.bit R.SF_KOSTAT_ON 0 = false) ∧
    (Meets (.contactorFault ⟨at0, 10000⟩ 0 false) id fun l => 10000 ≤ 10000 ∧ l.flag (R.SF_KOCFG_FBEN 0) = true ∧
      l.safety.koAt[(0 : Fin 4)] + ms 60 ≤ l.now ∧ l.contactorClosed 0 false = true ∧ l.bit R.SF_KOSTAT_ON 0 = false) ∧
    (Meets (.contactorFault ⟨at0, 10000⟩ 0 false) (fun l => (((l.put (R.SF_KOCFG_FBPOL 0) 0).raise (R.SF_KOCFG_FBEN
      0)).put R.SF_KOSTAT_ON 1).put (R.SF_KOCFG_FUNC 0) 1) fun l => 10000 ≤ 10000 ∧ l.flag (R.SF_KOCFG_FBEN 0) = true
      ∧ l.safety.koAt[(0 : Fin 4)] + ms 60 ≤ l.now ∧ l.contactorClosed 0 false = false ∧ l.bit R.SF_KOSTAT_ON 0 =
      true ∧ l.get (R.SF_KOCFG_FUNC 0) = 1) ∧
    (Meets (.contactorFault ⟨at0, 10000⟩ 0 false) (fun l => l.drop (R.SF_KOCFG_FBEN 0)) fun l => 10000 ≤ 10000 ∧
      (l.flag (R.SF_KOCFG_FBEN 0) = false ∨ l.now < l.safety.koAt[(0 : Fin 4)] + ms 60 ∨ l.contactorClosed 0 false =
      l.bit R.SF_KOSTAT_ON 0)) ∧
    (Meets (.koOvercurrent ⟨at0, 50⟩ 0) (fun l => (l.put R.SF_KOSTAT_ON 1).put (R.SF_KOCFG_FUNC 0) 1) fun l => l.bit
      R.SF_KOSTAT_ON 0 = true ∧ 50 ≤ 50 ∧ l.get (R.SF_KOCFG_FUNC 0) = 1) ∧
    (Meets (.koShort ⟨at0, 9999⟩ 0) id fun l => l.bit R.SF_KOSTAT_ON 0 = false ∧ (9999 < 10000 ∨ l.now <
      l.safety.koAt[(0 : Fin 4)] + ms 10)) ∧
    (Meets (.koShort ⟨at0, 10000⟩ 0) id fun l => l.bit R.SF_KOSTAT_ON 0 = false ∧ 10000 ≤ 10000 ∧ l.safety.koAt[(0 :
      Fin 4)] + ms 10 ≤ l.now) := by
  refine ⟨?_, ?_, ?_, ?_, ?_, ?_, ?_, ?_, ?_, ?_⟩ <;> decide +kernel

/-- The premises of TamperAndDebug can be met. -/
theorem witness_TamperAndDebug :
    (Meets (.tamper at0 (.light)) id fun l => l.tamperCause (.light : TamperReading) = some TamperCause.light) ∧
    (Meets (.debugUnlock at0 ⟨0, .A, 9, 0, true, true⟩) (fun l => l.onTrust fun q => { q with challenge := some 9 })
      fun l => l.tokenOk (⟨0, .A, 9, 0, true, true⟩ : DebugToken) = true) := by
  refine ⟨?_, ?_⟩ <;> decide +kernel

/-- The premises of Cartridges can be met. -/
theorem witness_Cartridges :
    (Meets (.cartridgeAuth at0 0) (fun l => (((l.onTrust fun q => { q with book := some enBook }).raise
      (R.FB_STAT_SERLOCK 0)).put (R.FB_CFG_SER 0) 2).onCart 0 fun q => { q with due := true }) fun l => l.bookEnables
      0 = true ∧ l.get (R.FB_CFG_SER 0) = 2 ∧ l.flag (R.FB_STAT_SERLOCK 0) = true ∧ (l.cart 0).due = true) ∧
    (Meets (.cartridgeAuthDone at0 0 cr) (fun l => (l.onCart 0 fun q =>
      { q with running := true, challenge := some 0 }).onTrust fun q =>
      { q with flash := { q.flash with verified := [7] } }) fun l => (l.cart 0).running = true ∧ ((cr :
      CartRead).digest ∈ l.trust.flash.verified ∨ l.chainOk cr = true) ∧ l.challengeOk 0 cr = true ∧ (cr :
      CartRead).rated < 2 ^ 64) ∧
    (Meets (.cartridgeAuthDone at0 0 cr) (fun l => l.onCart 0 fun q => { q with running := true }) fun l => (l.cart
      0).running = true ∧ (((cr : CartRead).digest ∉ l.trust.flash.verified ∧ l.chainOk cr = false) ∨ l.challengeOk 0
      cr = false) ∧ (l.cart 0).acceptWait = none ∧ l.trust.flash.accepted[(0 : Axis)] ≠ some (cr : CartRead).digest) ∧
    (Meets (.cartridgeAuthDone at0 0 cr) (fun l => (l.onCart 0 fun q => { q with running := true }).onTrust fun q =>
      { q with flash := { q.flash with accepted := #v[some 7, none, none, none] } }) fun l => (l.cart 0).running =
      true ∧ (((cr : CartRead).digest ∉ l.trust.flash.verified ∧ l.chainOk cr = false) ∨ l.challengeOk 0 cr = false)
      ∧ l.trust.flash.accepted[(0 : Axis)] = some (cr : CartRead).digest) ∧
    (Meets (.cartridgeAuthDone at0 0 cr) (fun l => l.onCart 0 fun q =>
      { q with running := true, acceptWait := some (7, hd, none) }) fun l => (l.cart 0).running = true ∧ (((cr :
      CartRead).digest ∉ l.trust.flash.verified ∧ l.chainOk cr = false) ∨ l.challengeOk 0 cr = false) ∧ (l.cart
      0).acceptWait = some ((7 : BitVec 384), hd, (none : Option Path)) ∧ (7 : BitVec 384) = (cr : CartRead).digest) ∧
    (Meets (.playbillWrite (⟨.A, 4000000000000⟩ : At) none) (fun l => live l 4) fun l => l.trust.playAt + ms 600000 ≤
      l.now ∧ (∀ t ∈ l.box.queued, t.work ≠ .cartWrite) ∧ l.runningFor .cartWrite = none) ∧
    (Meets (.playbillWrite at0 (some 0)) (fun l => ((l.onTrust fun q => { q with book := some enBook }).onCart 0 fun
      q => { q with digest := some 0 }).onBox fun q =>
      { q with running := [⟨3, .cartWrite, co, none, 0, 0, false⟩] }) fun l => l.runningFor .cartWrite = some ⟨3,
      .cartWrite, co, none, 0, 0, false⟩ ∧ l.bookEnables 0 = true ∧ (l.cart 0).digest ≠ none ∧ (0 : BitVec 4).getLsbD
      0 = false) ∧
    (Meets (.playbillWrite at0 (some 1)) (fun l => ((l.onTrust fun q => { q with book := some enBook }).onCart 0 fun
      q => { q with digest := some 0, failures := 2 }).onBox fun q =>
      { q with running := [⟨3, .cartWrite, co, none, 0, 0, false⟩] }) fun l => l.runningFor .cartWrite = some ⟨3,
      .cartWrite, co, none, 0, 0, false⟩ ∧ l.bookEnables 0 = true ∧ (l.cart 0).digest ≠ none ∧ (1 : BitVec 4).getLsbD
      0 = true ∧ 2 ≤ (l.cart 0).failures) := by
  refine ⟨?_, ?_, ?_, ?_, ?_, ?_, ?_, ?_⟩ <;> decide +kernel

/-- The premises of Spotlight can be met. -/
theorem witness_Spotlight :
    (Meets (.spotLeaseExpiry at0) (fun l => live (l.raise R.HS_SPOT_HELD) 6) fun l => l.flag R.HS_SPOT_HELD = true ∧
      l.endCycle ≤ l.mode_.cycle ∧ l.flag R.HS_SPOTCFG_DEFAULT = false ∧ l.mode = .performing ∧ l.mode_.stop = none) ∧
    (Meets (.spotRenew at0 hd none) (fun l => live l 4) fun l => l.allows hd .spotRenew ∧ l.holdsSpot (hd : Hdr).seat
      = false) ∧
    (Meets (.spotRenew at0 hd none) (fun l => hold l 4) fun l => l.allows hd .spotRenew ∧ l.holdsSpot (hd : Hdr).seat
      = true ∧ l.mode_.cycle + 1 + l.leaseCycles < 2 ^ 64) ∧
    (Meets (.spotRelease at0 hd none) (fun l => hold l 4) fun l => l.allows hd .spotRelease ∧ l.holdsSpot (hd :
      Hdr).seat = true) ∧
    (Meets (.spotRelease at0 hd none) (fun l => (live l 4).raise R.HS_SPOT_RESV) fun l => l.allows hd .spotRelease ∧
      l.holdsSpot (hd : Hdr).seat = false ∧ l.flag R.HS_SPOT_RESV = true ∧ l.get R.HS_SPOT_RSEAT = (hd : Hdr).seat) ∧
    (Meets (.spotRelease at0 hd none) (fun l => live l 4) fun l => l.allows hd .spotRelease ∧ l.holdsSpot (hd :
      Hdr).seat = false ∧ (¬(l.flag R.HS_SPOT_RESV = true ∧ l.get R.HS_SPOT_RSEAT = (hd : Hdr).seat))) := by
  refine ⟨?_, ?_, ?_, ?_, ?_, ?_⟩ <;> decide +kernel

/-! ### The statements about the whole lane -/

/-- EmptyQueueIdles, UnpoweredDieIgnores: an empty queue; a die that is down with commands of it. -/
theorem witness_idle_down : State.reset.pending = [] ∧
    (∃ l : Lane, l = ((Lane.reset .A).onPower fun p => { p with phase := .unpowered }) ∧ l.logicUp = false ∧
      l.monitorsUp = false) ∧ dieOf (.exnow at0) = .logic ∧ dieOf (.ovmax at0 0) = .power :=
  ⟨rfl, ⟨_, rfl, rfl, rfl⟩, rfl, rfl⟩

/-- AgreementClasses, ModeAgreement and ShareRule. -/
theorem witness_agreement : List.Perm [3, 1, 2] [(1 : Int), 2, 3] ∧ (-4 : Int).natAbs < (5 : Int).natAbs ∧
    (-3 - 1 : Int).natAbs = (5 - 1 : Int).natAbs ∧ (∀ x ∈ [Mode.hold, .armed, .ghost], x ∈ stateOrder) ∧
    (-(32767 : Nat) : Int) ≤ -32767 := by decide

/-- IndexDistance, at both ends of FB_CPR. -/
theorem witness_index :
    (((Lane.reset .A).put (R.FB_CPR_CPR 0) 256).put (R.FB_IDXPOS_IDXPOS 0) 255).get (R.FB_IDXPOS_IDXPOS 0) < 2 ^ 8 ∧
    ((Lane.reset .A).put (R.FB_CPR_CPR 0) 256).get (R.FB_CPR_CPR 0) = 2 ^ 8 ∧
    ((Lane.reset .A).put (R.FB_CPR_CPR 0) 16777216).get (R.FB_CPR_CPR 0) = 2 ^ 24 := by decide +kernel

/-- AccessCodes: a register of the map, and an address of none. -/
theorem witness_access : (regAt R.PW_TLIM).isSome = true ∧ regAt 0x130000 = none := by decide +kernel

/-- Presentation: a source presented, and none. -/
theorem witness_presented : (Lane.reset .A).presentedTo 0 = none ∧
    (((((Lane.reset .A).put (R.CB_PEND_PEND 0) 32).put (R.CB_EN_EN 0 0) 32).put (R.CB_SRC_PRIO 5) 7).put
      (R.CB_THR_THR 0) 6).presentedTo 0 = some 5 := by decide +kernel

/-- OpcodeRefusals: the ROM responder, a lane gone OUT, GHOST LIGHT, a state not named for the opcode, one that is. -/
theorem witness_refusals : ((Lane.reset .A).onTrust fun t => { t with romResponder := true }).trust.romResponder = true ∧
    ((Lane.reset .A).put R.LC_STATE_MSTATE 4).goneOut = true ∧ (live (.reset .A) 8).mode = .ghost ∧
    (live (.reset .A) 8).goneOut = false ∧ opStates .arm (live (.reset .A) 8).mode = false ∧ (live (.reset .A) 4).inPlay ∧
    opStates .spotRenew (live (.reset .A) 4).mode = true ∧ opHolder .spotRenew = false := by decide +kernel

/-- SettledSwitches: a lane with each of the conditions, and one that switches. -/
theorem witness_switches : (live (.reset .A) 10).lstate = .live ∧ (Lane.reset .A).lstate ≠ .live ∧
    (Lane.reset .A).trust.state ≠ 5 ∧ (Lane.reset .A).flag (R.DC_CTRL_EN 0) = false ∧
    ((Lane.reset .A).put (R.DC_STAT_AXST 0) 5).inService 0 = false ∧
    (((live (.reset .A) 10).onTrust fun t => { t with state := 5 }).raise (R.DC_CTRL_EN 0)).blocked 0 = false := by
  decide +kernel

/-- HolderRefused: each opcode in a state that permits it, its seat without the spotlight; a waiting refusal. -/
theorem witness_holder : (live (.reset .A) 6).named hd ∧ (live (.reset .A) 6).inPlay ∧ (live (.reset .A) 6).mode = .performing ∧
    (live (.reset .A) 10).mode = .workshop ∧ (live (.reset .A) 4).mode = .hold ∧ (live (.reset .A) 5).mode = .armed ∧
    (live (.reset .A) 6).flag R.HS_SPOT_HELD = false ∧
    sound ((Lane.reset .A).onSeats fun s => { s with modeReqs := [⟨0, some (10, 255), hd, some .port⟩] }) := by decide +kernel

/-- SpotlightLease and SpotlightRelease: a grant, a release and a revocation that take effect. -/
theorem witness_lease :
    (∃ l : Lane, l = ((Lane.reset .A).onSeats fun s => { s with grantNext := some 3 }) ∧ l.Sound .A ∧ 0 < l.beats ∧
      l.seats.stopNext = false ∧ l.mode_.cycle + l.leaseCycles < 2 ^ 64) ∧
    (∃ l : Lane, l = ((Lane.reset .A).onSeats fun s => { s with endNext := some .release }) ∧ l.Sound .A ∧
      l.seats.grantNext = none ∧ l.seats.stopNext = false ∧ l.seats.gap = 0) ∧
    (∃ l : Lane, l = ((Lane.reset .A).onSeats fun s => { s with endNext := some .revoke }) ∧ l.Sound .A ∧
      l.seats.grantNext = none ∧ l.seats.stopNext = false ∧ l.seats.gap = 0) :=
  ⟨⟨_, rfl, ⟨rfl, rfl, rfl⟩, by decide +kernel, rfl, by decide +kernel⟩, ⟨_, rfl, ⟨rfl, rfl, rfl⟩, rfl, rfl, rfl⟩,
   ⟨_, rfl, ⟨rfl, rfl, rfl⟩, rfl, rfl, rfl⟩⟩

/-- OutputBalls: a die that is down, one that runs, a lane without confirmed book, a lane OUT. -/
theorem witness_balls : ((Lane.reset .A).onPower fun p => { p with phase := .unpowered }).logicUp = false ∧
    (Lane.reset .A).logicUp = true ∧ (Lane.reset .A).Sound .A ∧ (Lane.reset .A).trust.state ≠ 5 ∧
    (Lane.reset .A).lstate = .out := ⟨rfl, rfl, ⟨rfl, rfl, rfl⟩, by decide +kernel, by decide +kernel⟩

/-- SCRIPT_CHECK_DONE with a book that passes every check of R330, for the least frame overhead and allowances that an
implementation can have (assumptions 5 and 19). -/
theorem witness_bookPasses (h1 : Config.frameOverhead = fun _ => 0) (h2 : Config.allowance = fun _ _ _ => 0) :
    Meets (.scriptCheckDone at0)
      (fun l => (l.put R.LC_STATE_MSTATE 3).onTrust fun q => { q with checking := some okBook, fw := some fwOk }) fun l =>
        l.mode = .scriptCheck ∧ l.wing.proposed ≠ 4 ∧ l.trust.checking = some okBook ∧ l.checkBook okBook = none ∧
        l.awaitsPartner okBook = false ∧ l.trust.book = none := by
  delta Meets Lane.checkBook Lane.checkCross Lane.axisRules Lane.periodOk Lane.checkSchedule placed placeTasks
  rw [h1, h2]
  decide +kernel

/-! ### Well-formed commands -/

/-- A reading that its register cannot hold makes the command ill-formed, for each monitor. -/
theorem test_measured_refused : [⟨65536, 0, 0, 0, tz, 0⟩, ⟨0, 65536, 0, 0, tz, 0⟩, ⟨0, 0, 65536, 0, tz, 0⟩,
    ⟨0, 0, 0, 65536, tz, 0⟩, (⟨0, 0, 0, 0, ⟨(0, 0), (0, 32768)⟩, 0⟩ : Measured)].all (fun m => !(Instr.beatStart at0 m).wf) =
      true ∧ (Instr.beatStart at0 ⟨65535, 65535, 65535, 65535, ⟨(-32768, 0), (0, 32767)⟩, 0⟩).wf = true := by decide

/-- The same for each command that carries one reading. -/
theorem test_reading_refused : [.temperatureWarning at0 (32768, 0) (0, 0), .temperatureTrip at0 ⟨(0, 0), (-32769, 0)⟩ 0,
    .ov1Enter at0 65536, .ov1Release at0 65536, .ov2Enter at0 65536, .ov2Release at0 65536, .ov3Enter at0 65536,
    .ov3Release ⟨at0, 0⟩ 65536, Instr.ovmax at0 65536].all (fun c => !c.wf) = true := by decide

/-- A crossing stamped after it is queued is ill-formed. -/
theorem test_stamp_refused : (Instr.ladderCrossing ⟨.A, 5⟩ 0 0 0 true 6 false).wf = false ∧
    (Instr.ladderCrossing ⟨.A, 5⟩ 0 0 0 true 5 false).wf = true := by decide

/-- A line delay that its field cannot hold is ill-formed. -/
theorem test_delay_refused : (Instr.serialFrame at0 0 ⟨true, 0, 65536⟩).wf = false ∧
    (Instr.serialFrame at0 0 ⟨true, 0, 65535⟩).wf = true := by decide

/-- A CAN frame of more than 64 bytes, or a segment with more than 62 bytes of data, is ill-formed. -/
theorem test_can_refused : (Instr.canFrameReceived at0 0 { cf with data := List.replicate 65 0 }).wf = false ∧
    (Instr.canSegment at0 0 true true 0 0 ⟨List.replicate 63 0, fc⟩).wf = false ∧
    (Instr.canSegment at0 0 true true 0 0 ⟨List.replicate 62 0, fc⟩).wf = true := by decide

/-! ### What the spec's worked examples give -/

/-- Lane A after a command on a lane built by `f`. -/
def after (c : Instr) (f : Lane → Lane) : Lane :=
  match exec c (onA f) with
  | .next t => t.laneA
  | _ => .reset .A

/-- Chapter 16, the cab takes over: SPOT_RENEW in cycle 5,000 with a lease of 100 cycles ends at 5,101. -/
theorem test_renew : (after (.spotRenew at0 hd none) fun l => ((((hold l 6).put R.HS_SPOTEND_LO_END 5090).put
    R.VR_CYC_LEN 20).put R.HS_SPOTCFG_LEASE 100).onMode fun m => { m with cycle := 5000 }).endCycle = 5101 := by
  decide +kernel

/-- Chapter 13, a grandmaster change: TM_INCR takes 0x0A01_47AE, the top of its range, and no more. -/
theorem test_increment : (after (.incr at0 0x0A0147AE) id).get R.TM_APPL_APPL = 167856046 ∧
    (after (.incr at0 0x0A0147AF) id).get R.TM_APPL_APPL = 167772160 := by decide +kernel

/-- Chapter 3, setting up AX0: 20.0 N·m (20480) agreed for two sets are 10,240 for each; LIM 14746 bounds more. -/
theorem test_share : shareOf 20480 2 14746 = 10240 ∧ shareOf (-40000) 2 14746 = -14746 := by decide +kernel

/-- Chapter 17, two seats, one source: source 11 at priority 6 is presented to seats 0 and 1; claimed by seat 0, to none. -/
theorem test_two_seats :
    let f (l : Lane) : Lane := ((((((((l.raise R.CB_STAT_LEAD).put (R.CB_SRC_PRIO 11) 6).put (R.CB_THR_THR 0) 2).put
      (R.CB_THR_THR 1) 4).put (R.CB_EN_EN 0 0) 2048).put (R.CB_EN_EN 1 0) 2048).put (R.CB_PEND_PEND 0) 2048))
    (f (.reset .A)).presentedTo 0 = some 11 ∧ (f (.reset .A)).presentedTo 1 = some 11 ∧
      (after (.claim at0 0) f).get (R.CB_CLAIM_SRC 0) = 11 ∧ (after (.claim at0 0) f).presentedTo 1 = none := by
  decide +kernel

/-- No row of the opcode table spells a command in bits. -/
theorem test_no_word : decodeTableWord 32 0 = none ∧ State.reset.withFetchWord 32 0 = State.reset := ⟨rfl, rfl⟩

end Sys2Proof.Tests
end

/-!
PROOFS. The state after reset, soundness from step to step, and what a write leaves of a register.
-/

namespace Sys2Proof.Machine

/-! ### The state after reset -/

/-- Each lane of the block after reset is its own letter's. -/
@[simp] theorem State.lane_reset (i : LaneId) : State.reset.lane i = Lane.reset i := by
  cases i <;> rfl

/-- After reset every register reads its Reset column (R14). -/
@[simp] theorem Lane.word_reset (i : LaneId) (a : Nat) : (Lane.reset i).word a = resetWord i a := rfl

theorem resetWord_LC_STATE (i : LaneId) : resetWord i R.LC_STATE = 1 := by
  cases i <;> decide +kernel

theorem resetWord_GD_STAT (i : LaneId) (n : Axis) : resetWord i (R.GD_STAT n) = 0 := by
  revert n
  cases i <;> decide +kernel

theorem Lane.mode_reset (i : LaneId) : (Lane.reset i).mode = .boot := by
  unfold Lane.mode Lane.get
  rw [Lane.word_reset, resetWord_LC_STATE]
  rfl

theorem Lane.lstate_reset (i : LaneId) : (Lane.reset i).lstate = .out := by
  unfold Lane.lstate Lane.get
  rw [Lane.word_reset, resetWord_LC_STATE]
  rfl

/-- After reset no switch is on. -/
theorem Lane.on_reset (i : LaneId) (n : Axis) : (Lane.reset i).on n = 0 := by
  unfold Lane.on Lane.get
  rw [Lane.word_reset, resetWord_GD_STAT]
  rfl

/-- Settles O3: each clause is a fact about the lane that reset builds. -/
theorem resetLane : Obligations.ResetLane := by
  unfold Obligations.ResetLane
  refine ⟨rfl, fun i => ?_⟩
  rw [State.lane_reset]
  exact ⟨rfl, Lane.word_reset i, Lane.mode_reset i, Lane.lstate_reset i, Lane.on_reset i⟩

/-! ### Soundness -/

/-- A lane after reset lists no word at all. -/
theorem Lane.sound_reset (i : LaneId) : (Lane.reset i).Sound i := ⟨rfl, rfl, rfl⟩

/-- Settles O4, lane by lane. -/
theorem resetSound : Obligations.ResetSound := by
  unfold Obligations.ResetSound
  refine State.sound_of_lanes fun i => ?_
  rw [State.lane_reset]
  exact Lane.sound_reset i

/-- A command keeps the state sound: its own lane changes within a mask, and the other lanes stay. -/
theorem exec_sound {c : Instr} {s t : State} (hs : s.Sound) (h : exec c s = .next t) : t.Sound := by
  obtain ⟨_, _, hr⟩ := exec_runs c s
  exact hr.sound hs h

/-- Settles O5: an idle step changes nothing, and any other runs one command on the same lanes. -/
theorem stepKeepsSound : Obligations.StepKeepsSound := by
  unfold Obligations.StepKeepsSound
  intro s t hs h
  unfold step at h
  split at h
  next =>
    injection h with hst
    exact hst ▸ hs
  next c rest _ => exact exec_sound (s := { s with pending := rest }) hs h

/-! ### What a write leaves of a register -/

/-- Bit `i` of the word is one of the field's. -/
abbrev FieldDesc.Covers (f : FieldDesc) (i : Nat) : Prop := f.lo ≤ i ∧ i < f.lo + f.width

/-- The fields share no bit. -/
abbrev FieldDesc.Apart (f g : FieldDesc) : Prop := f.lo + f.width ≤ g.lo ∨ g.lo + g.width ≤ f.lo

/-- What a write of the bit `new` leaves of the bit `old` of a field with the access code (R10). -/
def Acc.writeBit (new old : Bool) : Acc → Bool
  | .rw | .rwl => new
  | .w1c => old && !new
  | .ro | .wo => old

/-- The mask of a field holds the bits that the field covers. -/
theorem FieldDesc.getLsbD_mask (f : FieldDesc) {i : Nat} (hi : i < 32) :
    (BitVec.ofNat 32 (2 ^ f.width - 1) <<< f.lo).getLsbD i = decide (f.Covers i) := by
  simp only [BitVec.getLsbD_shiftLeft, BitVec.getLsbD_ofNat, Nat.testBit_two_pow_sub_one, hi, decide_true, Bool.true_and]
  by_cases hlo : f.lo ≤ i
  · have hlt : i - f.lo < 32 := by omega
    have hw : i - f.lo < f.width ↔ i < f.lo + f.width := by omega
    simp [hlo, hlt, hw]
  · simp [hlo, Nat.lt_of_not_le hlo]

/-- A write of a field changes the bits it covers, by its access code, and no others. -/
theorem FieldDesc.getLsbD_write (f : FieldDesc) (new w : Word) {i : Nat} (hi : i < 32) :
    (f.write new w).getLsbD i = if f.Covers i then f.acc.writeBit (new.getLsbD i) (w.getLsbD i) else w.getLsbD i := by
  have hmask := f.getLsbD_mask hi
  unfold FieldDesc.write
  by_cases hc : f.Covers i
  · rw [if_pos hc]
    rw [decide_eq_true hc] at hmask
    cases f.acc <;>
      simp only [BitVec.getLsbD_or, BitVec.getLsbD_and, BitVec.getLsbD_not, hmask, hi, Acc.writeBit] <;> simp
  · rw [if_neg hc]
    rw [decide_eq_false hc] at hmask
    cases f.acc <;> simp only [BitVec.getLsbD_or, BitVec.getLsbD_and, BitVec.getLsbD_not, hmask, hi] <;> simp

/-- Writing fields none of which covers a bit leaves that bit. -/
theorem getLsbD_foldl_write_of_not_covers {fs : List FieldDesc} {new : Word} {i : Nat} (hi : i < 32)
    (h : ∀ f ∈ fs, ¬f.Covers i) (w : Word) : (fs.foldl (fun w f => f.write new w) w).getLsbD i = w.getLsbD i := by
  induction fs generalizing w with
  | nil => rfl
  | cons f fs ih =>
    rw [List.foldl_cons, ih (fun g hg => h g (List.mem_cons_of_mem _ hg)), f.getLsbD_write new w hi,
      if_neg (h f List.mem_cons_self)]

/-- Writing fields that share no bits changes a bit by the access code of the field that covers it. -/
theorem getLsbD_foldl_write_of_covers {fs : List FieldDesc} {new : Word} {i : Nat} (hi : i < 32)
    (hfs : fs.Pairwise FieldDesc.Apart) {f : FieldDesc} (hf : f ∈ fs) (hc : f.Covers i) (w : Word) :
    (fs.foldl (fun w f => f.write new w) w).getLsbD i = f.acc.writeBit (new.getLsbD i) (w.getLsbD i) := by
  induction fs generalizing w with
  | nil => cases hf
  | cons g fs ih =>
    obtain ⟨hg, hfs⟩ := List.pairwise_cons.1 hfs
    rw [List.foldl_cons]
    rcases List.mem_cons.1 hf with rfl | hf
    · have hrest : ∀ k ∈ fs, ¬k.Covers i := fun k hk => by have := hg k hk; omega
      rw [getLsbD_foldl_write_of_not_covers hi hrest, f.getLsbD_write new w hi, if_pos hc]
    · have hng : ¬g.Covers i := by have := hg f hf; omega
      rw [ih hfs hf, g.getLsbD_write new w hi, if_neg hng]

/-- The fields of every register of the map share no bits. -/
theorem fields_apart_of_mem_blockRegs {a : Nat} {d : RegDesc} (h : d ∈ blockRegs a) : d.fields.Pairwise FieldDesc.Apart := by
  have hall : (blockRegs a).all (fun d => decide (d.fields.Pairwise FieldDesc.Apart)) = true := by
    unfold blockRegs
    split <;> decide +kernel
  exact of_decide_eq_true (List.all_eq_true.1 hall d h)

theorem fields_apart_of_regAt {a : Nat} {d : RegDesc} (h : regAt a = some d) : d.fields.Pairwise FieldDesc.Apart :=
  fields_apart_of_mem_blockRegs (List.mem_of_find?_eq_some h)

theorem RegDesc.getLsbD_write_of_covers {d : RegDesc} (hd : d.fields.Pairwise FieldDesc.Apart) {f : FieldDesc}
    (hf : f ∈ d.fields) {i : Nat} (hi : i < 32) (hc : f.Covers i) (new w : Word) :
    (d.write new w).getLsbD i = f.acc.writeBit (new.getLsbD i) (w.getLsbD i) :=
  getLsbD_foldl_write_of_covers hi hd hf hc w

theorem RegDesc.getLsbD_write_of_not_covers {d : RegDesc} {i : Nat} (hi : i < 32) (h : ∀ f ∈ d.fields, ¬f.Covers i)
    (new w : Word) : (d.write new w).getLsbD i = w.getLsbD i :=
  getLsbD_foldl_write_of_not_covers hi h w

theorem Lane.writeWord_of_regAt_none {a : Nat} (h : regAt a = none) (l : Lane) (new : Word) : l.writeWord a new = l := by
  unfold Lane.writeWord
  rw [h]

/-- Settles O12: the fields of a register share no bits, so each bit is written by the access code of the one field that
covers it, or by none. -/
theorem accessCodes : Obligations.AccessCodes := by
  unfold Obligations.AccessCodes
  refine ⟨fun a d hd new w i hi => ⟨fun f hf hlo hlt => ?_, fun hout => ?_⟩, fun a l new h => l.writeWord_of_regAt_none h new⟩
  · rw [d.getLsbD_write_of_covers (fields_apart_of_regAt hd) hf hi ⟨hlo, hlt⟩]
    cases f.acc <;> simp [Acc.writeBit]
  · exact d.getLsbD_write_of_not_covers hi (fun f hf hc => by have := hout f hf; omega) new w

end Sys2Proof.Machine

/-!
PROOFS. What a lane that goes OUT does with the commands that wait for agreement in it (R266), and with which frames that
does not agree.
-/

namespace Sys2Proof.Machine

/-! ### Frames with a few parts kept -/

/-- The mask that lets everything change but the bits `ks`, which are all different. -/
def allBut (ks : List Nat) : Nat := ks.foldl (fun m k => m ^^^ 2 ^ k) (2 ^ 616 - 1)

/-! ### The commands that expire with their holder -/

/-- A lane that goes OUT counts every command waiting in it as expired (R266). -/
theorem Lane.get_CMDEXP_laneOut {i : LaneId} {l : Lane} (h : l.Sound i) :
    l.laneOut.get R.WG_CMDEXP_EXP = min (l.get R.WG_CMDEXP_EXP + l.wing.pending.length) 65535 := by
  delta Lane.laneOut
  extract_lets l1 known l2 l3 lost l4 l5 l6 l7 l8
  have n1 : Lane.Near (allBut [69, 401]) l l1 := Lane.leaveLead_near (by decide +kernel) (.refl _ h)
  have n2 : Lane.Near (allBut [69, 401]) l l2 :=
    Lane.voidSteps_near (by decide +kernel) (Lane.setLState_near (by decide +kernel) n1)
  have n3 : Lane.Near (allBut [69, 401]) l l3 := Lane.countLive_near (by decide +kernel)
    (Lane.allAxes_near n2 fun _ _ g => Lane.abandon_near (by decide +kernel) g)
  have hlost : lost = l.wing.pending.length := congrArg List.length (n3.wing.pending (by decide +kernel))
  have n4 : Lane.Near (allBut [69, 401]) l l4 :=
    Lane.near_foldl (fun _ _ _ g => Lane.reply_near (by decide +kernel) g) n3
  have n4' : Lane.Near (allBut [69, 401]) l (l4.when (decide (0 < lost)) fun l => l.raise R.WG_EVT_CMDEXP) :=
    Lane.when_near n4 fun _ g => Lane.raise_near (inEvt ev_WG_EVT (by decide +kernel)) rfl g
  have e5 : l5.get R.WG_CMDEXP_EXP = min (l.get R.WG_CMDEXP_EXP + l.wing.pending.length) 65535 := by
    unfold l5 Lane.addTo
    rw [Lane.get_put (n4'.place h).wf _ _ (by decide), n4'.keep (f := R.WG_CMDEXP_EXP) at_WG_CMDEXP.1 (by decide +kernel), hlost]
    exact Nat.mod_eq_of_lt (show min _ 65535 < 65536 by omega)
  have s5 : l5.Sound i := (n4'.place h).put _ _
  have n7 : Lane.Near (allBut [69]) l6 l7 :=
    Lane.put_near (inReg at_WG_CMD (by decide +kernel)) (Lane.put_near (inReg at_WG_RESYNC (by decide +kernel)) (.refl _ (s5.onWing _)))
  have n8 : Lane.Near (allBut [69]) l8 ((l8.when known fun l => l.sendBoth .out).koSettle) :=
    Lane.koSettle_near (by decide +kernel)
      (Lane.when_near (.refl _ ((n7.place (s5.onWing _)).onMode _)) fun _ g => Lane.sendBoth_near (by decide +kernel) g)
  calc ((l8.when known fun l => l.sendBoth .out).koSettle).get R.WG_CMDEXP_EXP
      = l8.get R.WG_CMDEXP_EXP := n8.keep at_WG_CMDEXP.1 (by decide +kernel)
    _ = l7.get R.WG_CMDEXP_EXP := Lane.get_onMode _ _ _
    _ = l6.get R.WG_CMDEXP_EXP := n7.keep at_WG_CMDEXP.1 (by decide +kernel)
    _ = l5.get R.WG_CMDEXP_EXP := Lane.get_onWing _ _ _
    _ = _ := e5

/-- A command that takes a lane with a waiting command OUT changes WG_CMDEXP, and so does not stay within parts that leave
that register out. -/
theorem not_does_of_laneOut {c : Instr} {s : State} {ps : List Part} {f : Lane → Lane} {P : Lane → Lane → Prop} {l : Lane}
    (hs : s.Runs c.at) (hx : exec c s = .next (s.logicEvent c.at f)) (hf : f (s.before c) = l.laneOut)
    (hl : l.Sound c.at.lane) (hw : l.get R.WG_CMDEXP_EXP = (s.before c).get R.WG_CMDEXP_EXP)
    (hroom : l.get R.WG_CMDEXP_EXP < 65535) (hp : l.wing.pending ≠ []) (m : (maskOf ps).testBit 69 = false) :
    ¬ Does c s ps P := by
  rintro ⟨t, ht, -, -, hn, -⟩
  have et : t = s.logicEvent c.at f := by
    rw [hx] at ht
    injection ht with ht
    exact ht.symm
  have out : t.lane c.at.lane = l.laneOut := by
    rw [et, State.lane_logicEvent hs.2]
    exact hf
  have same : l.laneOut.get R.WG_CMDEXP_EXP = l.get R.WG_CMDEXP_EXP := by
    rw [← out, hn.keep (f := R.WG_CMDEXP_EXP) at_WG_CMDEXP.1 m, hw]
  have pos : 0 < l.wing.pending.length := List.length_pos_iff.2 hp
  rw [Lane.get_CMDEXP_laneOut hl] at same
  omega

/-! ### A lockstep mismatch in a lane with a waiting command -/

/-- A command that waits for agreement. -/
def waitingCommand : Pending := ⟨⟨⟨0, 0, false, 0, 0, 0, 0, 0, 0, 0⟩, none, true, true, []⟩, none, 0, none⟩

/-- Refutes O30: a lane that a lockstep mismatch takes OUT counts the command waiting in it in WG_CMDEXP (R266), and that
register is none of the parts the clause of LOCKSTEP_MISMATCH lists. The state is the one after reset with one command
waiting in lane A. -/
theorem not_beatAndLockstep : ¬ Obligations.BeatAndLockstep := by
  unfold Obligations.BeatAndLockstep
  rintro ⟨-, -, -, mismatch, -⟩
  let s : State := { State.reset with laneA := (Lane.reset .A).onWing fun w => { w with pending := [waitingCommand] } }
  have hs : s.Runs ⟨.A, 0⟩ := ⟨⟨⟨rfl, rfl, rfl⟩, Lane.sound_reset .B, Lane.sound_reset .C⟩, rfl⟩
  refine not_does_of_laneOut (c := .lockstepMismatch ⟨.A, 0⟩) hs rfl rfl ?_ ?_ ?_ ?_ ?_ (mismatch ⟨.A, 0⟩ s hs)
  case refine_1 => exact ⟨rfl, by decide +kernel, rfl⟩
  case refine_2 => decide +kernel
  case refine_3 => decide +kernel
  case refine_4 => exact List.cons_ne_nil _ _
  case refine_5 => decide +kernel

end Sys2Proof.Machine

/-!
PROOFS. A die that is not up ignores its events; and DEFICIT_PERSIST, PLL_UNLOCK and TEMPERATURE_TRIP, which take a lane OUT,
change WG_CMDEXP.
-/

namespace Sys2Proof.Machine

/-! ### The die that takes a command -/

/-- An event of a die. -/
def Die.event (d : Die) (s : State) (e : At) (f : Lane → Lane) : State :=
  match d with
  | .logic => s.logicEvent e f
  | .power => s.powerEvent e f
  | .either => s.anyEvent e f

/-- Every command is one event of the die that takes it. -/
theorem exec_dieOf (c : Instr) (s : State) : ∃ f, exec c s = .next ((dieOf c).event s c.at f) := by
  cases c <;> (dsimp only [exec, dieOf, Die.event, Instr.at]; exact ⟨_, rfl⟩)

/-- Settles O7: every command is an event of its die, and such an event leaves the state where that die is not up. -/
theorem unpoweredDieIgnores : Obligations.UnpoweredDieIgnores := by
  unfold Obligations.UnpoweredDieIgnores
  refine ⟨fun c s hd down => ?_, fun c s hd down => ?_⟩
  · obtain ⟨f, hf⟩ := exec_dieOf c s
    rw [hf, hd]
    exact congrArg _ (State.logicEvent_of_down f down)
  · obtain ⟨f, hf⟩ := exec_dieOf c s
    rw [hf, hd]
    exact congrArg _ (State.powerEvent_of_down f down)

/-! ### Commands that take a lane with a waiting command OUT

`laneOutParts` names every register that a lane going OUT writes but WG_CMDEXP, where the lane counts the commands that wait
in it (R266). Each of the three statements below has a clause that takes the lane OUT and lists these parts. -/

/-- Lane A as reset leaves it, with one command waiting for agreement and a deficit of the power die since the count 0. -/
def waitingLane : Lane :=
  ((Lane.reset .A).onWing fun w => { w with pending := [waitingCommand] }).onPower fun p => { p with powerSince := some 0 }

/-- The block as reset leaves it, but for `waitingLane`. -/
def waitingState : State := { State.reset with laneA := waitingLane }

theorem waitingState_runs {e : At} (he : e.lane = .A) : waitingState.Runs e :=
  ⟨⟨⟨rfl, rfl, rfl⟩, Lane.sound_reset .B, Lane.sound_reset .C⟩, by rw [he]; rfl⟩

/-- An event that leaves WG_CMDEXP and the waiting command as they are and then takes the lane OUT changes WG_CMDEXP, and so
does not stay within parts that leave that register out. -/
theorem not_does_of_waiting {c : Instr} {ps : List Part} {f : Lane → Lane} {P : Lane → Lane → Prop} {l : Lane}
    (hc : c.at.lane = .A) (hx : exec c waitingState = .next (waitingState.logicEvent c.at f))
    (hf : f (waitingState.before c) = l.laneOut) (hl : Lane.Near (allBut [69, 401]) (waitingState.before c) l)
    (m : (maskOf ps).testBit 69 = false) : ¬ Does c waitingState ps P := by
  have runs : waitingState.Runs c.at := waitingState_runs hc
  have lane : waitingState.before c = waitingLane.advanceTo c.at.t := by
    unfold State.before
    rw [hc]
    rfl
  have same : l.get R.WG_CMDEXP_EXP = (waitingState.before c).get R.WG_CMDEXP_EXP :=
    hl.keep at_WG_CMDEXP.1 (by decide +kernel)
  have zero : (waitingState.before c).get R.WG_CMDEXP_EXP = 0 := by
    rw [lane]
    show waitingLane.get R.WG_CMDEXP_EXP = 0
    decide +kernel
  have waits : l.wing.pending = [waitingCommand] := by
    rw [hl.wing.pending (by decide +kernel), lane]
    rfl
  refine not_does_of_laneOut runs hx hf (hl.place ((runs.1.lane _).advanceTo _)) same ?_ ?_ m
  · rw [same, zero]
    decide
  · rw [waits]
    exact List.cons_ne_nil _ _

/-- The lane of a command of `waitingState`, just before it, stays within every mask. -/
theorem waitingState_before_near {M : Nat} {c : Instr} (hc : c.at.lane = .A) :
    Lane.Near M (waitingState.before c) (waitingState.before c) :=
  .refl _ (((waitingState_runs hc).1.lane _).advanceTo _)

/-- Refutes O17: a deficit of the power die that has lasted 100 µs takes the lane OUT (R50), which counts the command waiting
in it in WG_CMDEXP (R266); that register is none of the parts the clause of DEFICIT_PERSIST lists. -/
theorem not_paceAndCoreVoltage : ¬ Obligations.PaceAndCoreVoltage := by
  unfold Obligations.PaceAndCoreVoltage
  rintro ⟨-, persist, -⟩
  let c : Instr := .deficitPersist ⟨.A, us 100⟩ true
  let l : Lane := waitingState.before c
  have lasted : l.lasted l.power.powerSince (us 100) = true := by decide +kernel
  exact not_does_of_waiting (c := c) rfl rfl ((if_pos rfl).trans (if_pos lasted)) (waitingState_before_near rfl) (by decide +kernel)
    (persist ⟨.A, us 100⟩ true waitingState (waitingState_runs rfl))

/-- Refutes O18: a PLL that leaves lock takes the lane OUT (R54), which counts the command waiting in it in WG_CMDEXP (R266);
that register is none of the parts the clause of PLL_UNLOCK lists. -/
theorem not_referenceAndPowerUp : ¬ Obligations.ReferenceAndPowerUp := by
  unfold Obligations.ReferenceAndPowerUp
  rintro ⟨-, -, unlock, -⟩
  let c : Instr := .pllUnlock ⟨.A, 0⟩
  let l : Lane := ((waitingState.before c).raise R.PW_SUPEVT_PLLUNL).drop R.PW_SUPSTAT_PLLLOCK
  have near : Lane.Near (allBut [69, 401]) (waitingState.before c) (l.onPower fun p => { p with pllLost := true }) :=
    Lane.onPower_near (.mk kp kp kp kp kp kp kp kp kp kp kp kp kp kp kp kp kp kp kp kp kp kp (not_bit (by decide +kernel)) kp kp)
      (Lane.drop_near (inReg at_PW_SUPSTAT (by decide +kernel))
        (Lane.raise_near (inEvt ev_PW_SUPEVT (by decide +kernel)) rfl (waitingState_before_near rfl)))
  exact not_does_of_waiting (c := c) rfl rfl rfl near (by decide +kernel) (unlock ⟨.A, 0⟩ waitingState (waitingState_runs rfl))

/-- Both sensors of each die at 150.0 °C, above the 148.0 °C of PW_TLIM[TRIP] after reset. -/
def tripTemps : Temps := ⟨(1500, 1500), (1500, 1500)⟩

/-- Refutes O19: a die at its trip temperature for 1 ms takes the lane OUT (R67), which counts the command waiting in it in
WG_CMDEXP (R266); that register is none of the parts the clause of TEMPERATURE_TRIP lists. -/
theorem not_powerDownAndTemperature : ¬ Obligations.PowerDownAndTemperature := by
  unfold Obligations.PowerDownAndTemperature
  rintro ⟨-, -, -, -, -, trip, -⟩
  let c : Instr := .temperatureTrip ⟨.A, 0⟩ tripTemps 1000
  let shown : Lane := (waitingState.before c).showTemps tripTemps
  have trips : 1000 ≤ 1000 ∧ (shown.get R.PW_TLIM_TRIP : Int) ≤ hottest tripTemps := by decide +kernel
  have near : Lane.Near (allBut [69, 401]) (waitingState.before c) (shown.raise R.PW_SUPEVT_TTRIP) :=
    Lane.raise_near (inEvt ev_PW_SUPEVT (by decide +kernel)) rfl
      (Lane.showTemps_near (by decide +kernel) (waitingState_before_near rfl))
  exact not_does_of_waiting (c := c) rfl rfl (if_pos trips) near (by decide +kernel)
    (trip ⟨.A, 0⟩ tripTemps 1000 waitingState (waitingState_runs rfl))

end Sys2Proof.Machine

/-!
PROOFS. The share of an axis keeps within LIMC (R94), and the gate drivers of an axis whose demands are settled (R93, R336).
-/

namespace Sys2Proof.Machine

-- one declaration at a time: each waits for the kernel, and a waiting one holds a thread and its stack
set_option Elab.async false

/-! ### The share of an axis -/

theorem clampInt_of_mem {lo hi x : Int} (h : lo ≤ x) (h' : x ≤ hi) : clampInt lo hi x = x := by
  unfold clampInt
  rw [if_neg (by omega), if_neg (by omega)]

theorem clampInt_mem {lo hi : Int} (h : lo ≤ hi) (x : Int) : lo ≤ clampInt lo hi x ∧ clampInt lo hi x ≤ hi := by
  unfold clampInt
  split
  · omega
  · split <;> omega

/-- A torque within a limit that fits the register passes both bounds unchanged. -/
theorem sat16_clampInt {limc : Nat} (h : limc ≤ 32767) (q : Int) : sat16 (clampInt (-limc) limc q) = clampInt (-limc) limc q := by
  have hq := clampInt_mem (show -(limc : Int) ≤ limc by omega) q
  exact clampInt_of_mem (by omega) (by omega)

/-- Settles O10: the share is the quotient bounded by LIMC, and an exact quotient within LIMC is left as it is. -/
theorem shareRule : Obligations.ShareRule := by
  unfold Obligations.ShareRule
  refine ⟨fun total nax limc h => ?_, fun q nax limc hn h hlo hhi => ?_⟩
  · unfold shareOf
    split
    · omega
    · rw [sat16_clampInt h]
      exact clampInt_mem (by omega) _
  · have hne : (nax : Int) ≠ 0 := by omega
    unfold shareOf
    rw [if_neg (by omega), if_pos (Int.mul_emod_left q nax), Int.mul_ediv_cancel q hne, sat16_clampInt h,
      clampInt_of_mem hlo hhi]

/-! ### What the gate drivers make of their demands -/

@[simp] theorem Lane.ax_onAx_self (l : Lane) (n : Axis) (f : AxisState → AxisState) : (l.onAx n f).ax n = f (l.ax n) :=
  Vector.getElem_set_self n.isLt

/-- Fields of GD_STAT of two axes lie in two registers. -/
theorem addr_GD_STAT_ne {k n : Axis} (h : k ≠ n) : R.GD_STAT k ≠ R.GD_STAT n := by
  have : k.val ≠ n.val := fun e => h (Fin.ext e)
  show 0x070014 + 0x1000 * k.val ≠ 0x070014 + 0x1000 * n.val
  omega

@[simp] theorem Lane.on_onAx (l : Lane) (k n : Axis) (f : AxisState → AxisState) : (l.onAx n f).on k = l.on k := rfl

/-- Switches told to the power die read as told (R76). -/
theorem Lane.on_setOn {l : Lane} (h : RegFile.wf l.id l.regs = true) (n : Axis) (w : BitVec 6) : (l.setOn n w).on n = w := by
  unfold Lane.setOn
  split
  · assumption
  · rw [Lane.on_onAx]
    unfold Lane.on
    rw [Lane.get_put h _ _ (show 0 + 6 ≤ 32 by decide), Nat.mod_eq_of_lt w.isLt]
    exact (BitVec.ofNat_toNat 6 w).trans (BitVec.setWidth_eq w)

theorem Lane.on_setOn_of_ne (l : Lane) {k n : Axis} (h : k ≠ n) (w : BitVec 6) : (l.setOn n w).on k = l.on k := by
  unfold Lane.setOn
  split
  · rfl
  · rw [Lane.on_onAx]
    unfold Lane.on
    rw [Lane.get_put_of_ne _ _ (addr_GD_STAT_ne h)]

/-- The gate drivers follow in two steps: hold-release checks may be aborted (R143), which changes the event flags and the
checks alone; then switches turn off. -/
theorem Lane.settle_eq {l : Lane} {i : LaneId} (h : l.Sound i) (n : Axis) : ∃ (m : Lane) (sw : Switches → Switches),
    Lane.Near (2 ^ 131 ||| 2 ^ 333) l m ∧
    l.settle n = (m.setOn n (m.on n &&& l.gateCommand n)).onAx n fun a => { a with sw := sw a.sw } :=
  ⟨_, fun x => { x with
      cmd := l.gateCommand n, demand := l.highDemand n, soft := x.soft &&& ~~~l.gateCommand n
      offAt := Vector.ofFn fun j => if (l.ax n).sw.cmd.getLsbD j.val && !(l.gateCommand n).getLsbD j.val then _ else x.offAt[j] },
    Lane.near_ite (Lane.leakAbort_near (by decide +kernel) (.refl _ h)) (Lane.leakAbortOf_near (by decide +kernel) (.refl _ h)), rfl⟩

/-- A step that leaves GD_STAT alone leaves the switches as they are. -/
theorem Lane.Near.on {M : Nat} {a b : Lane} (h : Lane.Near M a b) (m : M.testBit 129 = false) (n : Axis) : b.on n = a.on n :=
  congrArg (BitVec.ofNat 6) (h.keep (f := R.GD_STAT_ON n) (at_GD_STAT n.isLt).1 m)

/-- The demands turn switches off and turn none on: a turn-on waits for its dead time (R118). -/
theorem Lane.on_settle {l : Lane} {i : LaneId} (h : l.Sound i) (n : Axis) : (l.settle n).on n = l.on n &&& l.gateCommand n := by
  obtain ⟨m, _, near, e⟩ := l.settle_eq h n
  rw [e, Lane.on_onAx, Lane.on_setOn near.regsWf, near.on (by decide +kernel)]

theorem Lane.on_settle_of_ne {l : Lane} {i : LaneId} (h : l.Sound i) {k n : Axis} (hk : k ≠ n) : (l.settle n).on k = l.on k := by
  obtain ⟨m, _, near, e⟩ := l.settle_eq h n
  rw [e, Lane.on_onAx, Lane.on_setOn_of_ne _ hk, near.on (by decide +kernel)]

/-- A demand of rank 2 turns all six switches off (R93). -/
theorem Lane.on_settle_of_blocked {l : Lane} {i : LaneId} (h : l.Sound i) {n : Axis} (hb : l.blocked n = true) :
    (l.settle n).on n = 0 := by
  rw [Lane.on_settle h, Lane.gateCommand, if_pos hb]
  exact BitVec.and_zero

/-- The conditions that make a demand of rank 2 (R93, R336). -/
theorem Lane.blocked_of {l : Lane} {n : Axis} (h : l.logicUp = false ∨ l.lstate ≠ .live ∨ l.link.ovmax = true ∨
    l.power.vgSince ≠ none ∨ l.power.testHigh = true ∨ l.trust.state ≠ 5 ∨ l.flag (R.DC_CTRL_EN n) = false ∨
    l.inService n = false) : l.blocked n = true := by
  unfold Lane.blocked
  simp only [Bool.or_eq_true, Bool.not_eq_true', bne_iff_ne, Option.isSome_iff_ne_none]
  tauto

/-- Settles O15: what stands at the gate drivers can only take switches away, and a demand of rank 2 takes all six. -/
theorem settledSwitches : Obligations.SettledSwitches := by
  unfold Obligations.SettledSwitches
  intro i l n h
  refine ⟨?_, fun hb => Lane.on_settle_of_blocked h (Lane.blocked_of hb), fun k hk => Lane.on_settle_of_ne h hk⟩
  rw [Lane.on_settle h]
  ext j hj
  simp only [BitVec.getElem_and, BitVec.getElem_not]
  cases (l.on n)[j] <;> simp

end Sys2Proof.Machine

/-!
PROOFS. A request for switches that the gate drivers follow: what it asks of each switch and what it leaves of the axis.
-/

namespace Sys2Proof.Machine

-- one declaration at a time: each waits for the kernel, and a waiting one holds a thread and its stack
set_option Elab.async false

/-! ### The axis state -/

theorem addr_DC_STAT_ne {k n : Axis} (h : k ≠ n) : R.DC_STAT k ≠ R.DC_STAT n := by
  have : k.val ≠ n.val := fun e => h (Fin.ext e)
  show 0x060004 + 0x1000 * k.val ≠ 0x060004 + 0x1000 * n.val
  omega

theorem Lane.axst_of_get {a b : Lane} {n : Axis} (h : b.get (R.DC_STAT_AXST n) = a.get (R.DC_STAT_AXST n)) :
    b.axst n = a.axst n := by
  unfold Lane.axst
  rw [h]

/-- A step that leaves DC_STAT alone leaves the axis state as it is. -/
theorem Lane.Near.axst {M : Nat} {a b : Lane} (h : Lane.Near M a b) (m : M.testBit 89 = false) (n : Axis) :
    b.axst n = a.axst n := Lane.axst_of_get (h.keep (at_DC_STAT n.isLt).1 m)

/-- DC_STAT holds the axis state in its four lowest bits, apart from every other field. -/
theorem Lane.axst_put {l : Lane} (h : RegFile.wf l.id l.regs = true) {n : Axis} {g : Fld} (v : Nat)
    (hg : g.addr = R.DC_STAT n → 4 ≤ g.lo) : (l.put g v).axst n = l.axst n := by
  refine Lane.axst_of_get ?_
  by_cases ha : R.DC_STAT n = g.addr
  · exact Lane.get_put_of_disjoint h v ha (show 0 + 4 ≤ 32 by decide) (.inr (show 0 + 4 ≤ g.lo from hg ha.symm))
  · exact Lane.get_put_of_ne _ _ ha

theorem Lane.axst_setAxst {l : Lane} (h : RegFile.wf l.id l.regs = true) (n : Axis) (a : Axst) : (l.setAxst n a).axst n = a := by
  unfold Lane.axst Lane.setAxst
  rw [Lane.get_put h _ _ (show 0 + 4 ≤ 32 by decide)]
  cases a <;> rfl

/-! ### A request that the gate drivers follow -/

/-- What a decision changes before the gate drivers follow it: flags and counters of the axes, and the request of the
switches. -/
def decisionMask : Nat := 2 ^ 89 ||| 2 ^ 90 ||| 2 ^ 91 ||| 2 ^ 330

/-- `m` is `l` with a new request, or the old one, just before the gate drivers follow it; the axis state stays. -/
structure Lane.Asks (n : Axis) (l m : Lane) : Prop where
  near : Lane.Near decisionMask l m
  axst : m.axst n = l.axst n

theorem Lane.Asks.refl {l : Lane} {i : LaneId} (h : l.Sound i) (n : Axis) : Lane.Asks n l l := ⟨.refl _ h, rfl⟩

theorem Lane.Asks.step {l m k : Lane} {n : Axis} (h : Lane.Asks n l m) (near : Lane.Near (2 ^ 90 ||| 2 ^ 91 ||| 2 ^ 330) m k) :
    Lane.Asks n l k :=
  ⟨h.near.trans (near.mono (by decide +kernel)), (near.axst (by decide +kernel) n).trans h.axst⟩

/-- A flag of DC_STAT is put. -/
theorem Lane.Asks.put {l m : Lane} {n : Axis} (h : Lane.Asks n l m) {g : Fld} (v : Nat) (hg : g.addr = R.DC_STAT n)
    (hlo : 4 ≤ g.lo) : Lane.Asks n l (m.put g v) :=
  ⟨Lane.put_near (inReg (hg ▸ at_DC_STAT n.isLt) (by decide +kernel)) h.near,
    (Lane.axst_put h.near.regsWf v fun _ => hlo).trans h.axst⟩

theorem Lane.Asks.raise {l m : Lane} {n : Axis} (h : Lane.Asks n l m) {g : Fld} (hg : g.addr = R.DC_STAT n) (hlo : 4 ≤ g.lo) :
    Lane.Asks n l (m.raise g) :=
  ⟨Lane.mark_near (h.put 1 hg hlo).near, (h.put 1 hg hlo).axst⟩

theorem Lane.Asks.onSw {l m : Lane} {n : Axis} (h : Lane.Asks n l m) (f : AxisState → Switches) :
    Lane.Asks n l (m.onAx n fun a => { a with sw := f a }) :=
  h.step (Lane.onAx_near (.mk kp kp (not_bit (by decide +kernel)) kp kp kp kp kp kp) (.refl _ (h.near.sound rfl)))

/-- The gate drivers follow a request. -/
def Lane.Follows (n : Axis) (l m : Lane) : Prop := ∃ k, Lane.Asks n l k ∧ m = k.settle n

theorem Lane.Asks.settle {l m : Lane} {n : Axis} (h : Lane.Asks n l m) : Lane.Follows n l (m.settle n) := ⟨m, h, rfl⟩

theorem Lane.Asks.release {l m : Lane} {n : Axis} (h : Lane.Asks n l m) : Lane.Follows n l (m.release n) :=
  ((h.put 0 rfl (by decide : 4 ≤ 16)).onSw _).settle

theorem Lane.Asks.takeState {l m : Lane} {n : Axis} (h : Lane.Asks n l m) (w : BitVec 6) :
    Lane.Follows n l (m.takeState n w) :=
  ((((h.put 0 rfl (by decide : 4 ≤ 16)).onSw _).onSw _).raise rfl (by decide : 4 ≤ 15)).settle

theorem Lane.Asks.seenMask {l m : Lane} {n : Axis} (h : Lane.Asks n l m) : Lane.Asks n l (m.seenMask n) := h.onSw _

theorem Lane.Asks.holdRate {l m : Lane} {n : Axis} (h : Lane.Asks n l m) : Lane.Asks n l (m.holdRate n) :=
  (h.step (Lane.when_near (.refl _ (h.near.sound rfl)) fun _ g =>
    Lane.bump_near (inReg (at_DC_CNT n.isLt) (by decide +kernel)) g)).raise rfl (by decide : 4 ≤ 16)

/-- Whatever a table lookup finds, it ends in a request that the gate drivers follow. -/
theorem Lane.lookup_follows {l : Lane} {i : LaneId} (h : l.Sound i) (n : Axis) : Lane.Follows n l (l.lookup n) := by
  have asks : Lane.Asks n l (l.putFlag (R.DC_STAT_REVHOLD n) (l.revHold n)) :=
    (Lane.Asks.refl h n).put _ rfl (by decide : 4 ≤ 17)
  unfold Lane.lookup
  extract_lets a m
  split
  · exact asks.settle
  · split
    · exact (asks.step (Lane.raise_near (inEvt (ev_DC_EVT n.isLt) (by decide +kernel)) rfl
        (.refl _ (asks.near.sound rfl)))).seenMask.release
    · extract_lets w
      split
      · exact (asks.put 0 rfl (by decide : 4 ≤ 16)).seenMask.settle
      · split
        · exact asks.holdRate.settle
        · exact asks.seenMask.takeState w

/-- A demand of rank 3 is a request that the gate drivers follow, or they follow what stands. -/
theorem Lane.enterRank3_follows {l : Lane} {i : LaneId} (h : l.Sound i) (n : Axis) : Lane.Follows n l (l.enterRank3 n) := by
  have asks := Lane.Asks.refl h n
  unfold Lane.enterRank3
  split
  · split
    · exact asks.settle
    · split
      · exact asks.takeState _
      · exact (asks.onSw _).settle
  · exact asks.settle

/-- The gate drivers change no axis state. -/
theorem Lane.Follows.axst {l m : Lane} {n : Axis} (h : Lane.Follows n l m) : m.axst n = l.axst n := by
  obtain ⟨k, asks, rfl⟩ := h
  have near : Lane.Near (allBut [89]) k (k.settle n) := Lane.settle_near (by decide +kernel) (.refl _ (asks.near.sound rfl))
  rw [near.axst (by decide +kernel), asks.axst]

/-! ### The understudy while switches change -/

/-- The understudy but for its record of the states applied since its last update (R78). -/
def Understudy.still (u : Understudy) : Understudy := { u with trail := [] }

/-- Two understudies that differ in their records and their estimate words alone have the same flux and currents. -/
theorem Understudy.estimates_of_still {u v : Understudy} {t : Nat} {fast : Bool}
    (h : u.still = { v.still with lastWord := t, fast := fast }) :
    u.psiA = v.psiA ∧ u.psiB = v.psiB ∧ u.ia = v.ia ∧ u.ib = v.ib :=
  ⟨(congrArg psiA h :), (congrArg psiB h :), (congrArg ia h :), (congrArg ib h :)⟩

theorem Understudy.substSince_of_still {u v : Understudy} (h : u.still = v.still) : u.substSince = v.substSince :=
  (congrArg substSince h :)

theorem Lane.still_setOn (l : Lane) (n : Axis) (w : BitVec 6) : ((l.setOn n w).ax n).us.still = (l.ax n).us.still := by
  unfold Lane.setOn
  split
  · rfl
  · rw [Lane.ax_onAx_self]
    rfl

/-- Of the understudy the gate drivers change only the record of applied states. -/
theorem Lane.still_settle {l : Lane} {i : LaneId} (h : l.Sound i) (n : Axis) :
    ((l.settle n).ax n).us.still = (l.ax n).us.still := by
  obtain ⟨m, sw, near, e⟩ := l.settle_eq h n
  rw [e, Lane.ax_onAx_self]
  show ((m.setOn n _).ax n).us.still = _
  rw [Lane.still_setOn]
  exact congrArg Understudy.still ((near.axes n).us (by decide +kernel))

theorem Lane.Follows.still {l m : Lane} {n : Axis} (h : Lane.Follows n l m) : (m.ax n).us.still = (l.ax n).us.still := by
  obtain ⟨k, asks, rfl⟩ := h
  rw [Lane.still_settle (asks.near.sound rfl)]
  exact congrArg Understudy.still ((asks.near.axes n).us (by decide +kernel))

/-- Both comparators change fields of DC_STAT apart from the axis state, and a register that shows the flux reference. -/
theorem Lane.axst_compare {l : Lane} {i : LaneId} (h : l.Sound i) (n : Axis) : (l.compare n).axst n = l.axst n := by
  unfold Lane.compare
  extract_lets u te ref mag ct cp k m0 m1 m2
  have n0 : Lane.Near (allBut [89]) l m0 := Lane.putInt_near (inReg (at_DC_PSI n.isLt) (by decide +kernel)) (.refl _ h)
  have s0 : m0.Sound i := n0.place h
  calc (m2.put (R.DC_STAT_SECTOR n) k).axst n
      = m2.axst n := Lane.axst_put ((s0.put _ _).put _ _).wf _ fun _ => (by decide : 4 ≤ 8)
    _ = m1.axst n := Lane.axst_put (s0.put _ _).wf _ fun _ => (by decide : 4 ≤ 14)
    _ = m0.axst n := Lane.axst_put s0.wf _ fun _ => (by decide : 4 ≤ 12)
    _ = l.axst n := n0.axst (by decide +kernel) n

theorem Lane.decideSwitch_follows {l : Lane} {i : LaneId} (h : l.Sound i) (n : Axis) :
    Lane.Follows n ((l.postWord n).compare n) (l.decideSwitch n) := by
  have s1 : ((l.postWord n).compare n).Sound i :=
    (Lane.compare_near (sub_refl _) (.refl _ (h.onAx n _))).place (h.onAx n _)
  unfold Lane.decideSwitch
  extract_lets m
  split
  · exact Lane.lookup_follows s1 n
  · exact (Lane.Asks.refl s1 n).settle

/-- The hysteresis decision changes no axis state. -/
theorem Lane.axst_decideSwitch {l : Lane} {i : LaneId} (h : l.Sound i) (n : Axis) : (l.decideSwitch n).axst n = l.axst n := by
  rw [(Lane.decideSwitch_follows h n).axst]
  exact Lane.axst_compare (h.onAx n _) n

/-- The hysteresis decision takes an estimate word and leaves the estimates. -/
theorem Lane.still_decideSwitch {l : Lane} {i : LaneId} (h : l.Sound i) (n : Axis) :
    ∃ fast, ((l.decideSwitch n).ax n).us.still = { (l.ax n).us.still with lastWord := l.now, fast := fast } := by
  have compared : Lane.Near (allBut [328]) (l.postWord n) ((l.postWord n).compare n) :=
    Lane.compare_near (by decide +kernel) (.refl _ (h.onAx n _))
  have same : (((l.postWord n).compare n).ax n).us = ((l.postWord n).ax n).us := (compared.axes n).us (by decide +kernel)
  refine ⟨((l.postWord n).ax n).us.fast, ?_⟩
  rw [(Lane.decideSwitch_follows h n).still, same]
  unfold Lane.postWord
  extract_lets fast
  rw [Lane.ax_onAx_self]
  rfl

end Sys2Proof.Machine

/-!
PROOFS. Disabling, enabling and entering GHOST LIGHT, in their steps; a winding set out of service stays out through them.
-/

namespace Sys2Proof.Machine

-- one declaration at a time: each waits for the kernel, and a waiting one holds a thread and its stack
set_option Elab.async false

theorem Lane.Sound.raise {i : LaneId} {l : Lane} (h : l.Sound i) (f : Fld) : (l.raise f).Sound i := (h.put f 1 :)

theorem Lane.ax_put (l : Lane) (f : Fld) (v : Nat) (n : Axis) : (l.put f v).ax n = l.ax n :=
  congrArg (·[n]) (Lane.put_axes l f v)

theorem Lane.ax_setAxst (l : Lane) (k : Axis) (a : Axst) (n : Axis) : (l.setAxst k a).ax n = l.ax n := l.ax_put _ _ n

/-! ### A winding set out of service stays out -/

/-- The winding set of axis `n` is out of service in a lane in its place. -/
structure Lane.IsOut (i : LaneId) (n : Axis) (l : Lane) : Prop where
  sound : l.Sound i
  axst : l.axst n = .out

theorem Lane.inService_of_isOut {i : LaneId} {l : Lane} {n : Axis} (h : l.IsOut i n) : l.inService n = false := by
  unfold Lane.inService
  rw [h.axst]
  rfl

theorem Lane.axst_of_not_inService {l : Lane} {n : Axis} (h : ¬l.inService n = true) : l.axst n = .out := by
  unfold Lane.inService at h
  simpa using h

theorem Lane.IsOut.near {M : Nat} {i : LaneId} {n : Axis} {l m : Lane} (h : l.IsOut i n) (k : Lane.Near M l m)
    (b : M.testBit 89 = false) : m.IsOut i n := ⟨k.place h.sound, (k.axst b n).trans h.axst⟩

theorem Lane.IsOut.put {i : LaneId} {n : Axis} {l : Lane} (h : l.IsOut i n) {g : Fld} (v : Nat)
    (hg : g.addr = R.DC_STAT n → 4 ≤ g.lo) : (l.put g v).IsOut i n :=
  ⟨h.sound.put _ _, (Lane.axst_put h.sound.wf v hg).trans h.axst⟩

theorem Lane.IsOut.raise {i : LaneId} {n : Axis} {l : Lane} (h : l.IsOut i n) {g : Fld}
    (hg : g.addr = R.DC_STAT n → 4 ≤ g.lo) : (l.raise g).IsOut i n :=
  ⟨(h.put 1 hg).sound, (h.put 1 hg).axst⟩

theorem Lane.IsOut.onAx {i : LaneId} {n : Axis} {l : Lane} (h : l.IsOut i n) (k : Axis) (f : AxisState → AxisState) :
    (l.onAx k f).IsOut i n := ⟨h.sound, h.axst⟩

theorem Lane.IsOut.when {i : LaneId} {n : Axis} {l : Lane} (h : l.IsOut i n) {b : Bool} {f : Lane → Lane}
    (hf : b = true → (f l).IsOut i n) : (l.when b f).IsOut i n := by
  cases b
  · exact h
  · exact hf rfl

/-- The state of another axis is another register. -/
theorem Lane.IsOut.setAxst_of_ne {i : LaneId} {n k : Axis} {l : Lane} (h : l.IsOut i n) (hk : k ≠ n) (a : Axst) :
    (l.setAxst k a).IsOut i n := h.put _ fun e => absurd e (addr_DC_STAT_ne hk)

theorem Lane.isOut_setAxst {i : LaneId} {l : Lane} (h : l.Sound i) (n : Axis) : (l.setAxst n .out).IsOut i n :=
  ⟨h.put _ _, Lane.axst_setAxst h.wf n .out⟩

theorem Lane.IsOut.setAxst_out {i : LaneId} {n : Axis} {l : Lane} (h : l.IsOut i n) (k : Axis) : (l.setAxst k .out).IsOut i n := by
  by_cases hk : k = n
  · exact hk ▸ Lane.isOut_setAxst h.sound k
  · exact h.setAxst_of_ne hk _

theorem Lane.IsOut.settle {i : LaneId} {n : Axis} {l : Lane} (h : l.IsOut i n) (k : Axis) : (l.settle k).IsOut i n :=
  h.near (M := allBut [89]) (Lane.settle_near (by decide +kernel) (.refl _ h.sound)) (by decide +kernel)

theorem Lane.IsOut.release {i : LaneId} {n : Axis} {l : Lane} (h : l.IsOut i n) (k : Axis) : (l.release k).IsOut i n :=
  ((h.put 0 fun _ => (by decide : 4 ≤ 16)).onAx _ _).settle k

/-- A set taken out of service is out (R98). -/
theorem Lane.isOut_setOff {i : LaneId} {l : Lane} (h : l.Sound i) (n : Axis) : (l.setOff n).IsOut i n := by
  have out := Lane.isOut_setAxst (h.onAx n fun a => { a with recatch := none, us := { a.us with substSince := none } }) n
  have noted := out.near (M := allBut [89]) (Lane.raise_near (f := R.DC_EVT_OUTSVC n) (inEvt (ev_DC_EVT n.isLt) (by decide +kernel)) rfl
    (.refl _ out.sound)) (by decide +kernel)
  exact (noted.put 0 fun _ => (by decide : 4 ≤ 18)).release n

theorem Lane.IsOut.setOff {i : LaneId} {n : Axis} {l : Lane} (h : l.IsOut i n) (k : Axis) : (l.setOff k).IsOut i n := by
  have out := (h.onAx k fun a => { a with recatch := none, us := { a.us with substSince := none } }).setAxst_out k
  have noted := out.near (M := allBut [89]) (Lane.raise_near (f := R.DC_EVT_OUTSVC k) (inEvt (ev_DC_EVT k.isLt) (by decide +kernel)) rfl
    (.refl _ out.sound)) (by decide +kernel)
  exact (noted.put 0 fun _ => (by decide : 4 ≤ 18)).release k

/-! ### Abandoning, disabling and enabling, in their steps -/

/-- An axis without its re-catch, its substitute and its precharge. -/
def AxisState.letGo (a : AxisState) : AxisState :=
  { a with recatch := none, us := { a.us with substSince := none }, refresh := { a.refresh with precharge := none } }

/-- What abandoning a re-catch or substitute does before the switches are released (R97, R101). -/
def Lane.letGo (l : Lane) (n : Axis) : Lane :=
  let l := l.when (l.inRecatch n) fun l => l.drop (R.DC_LASTX_RLCNT n)
  let l := l.onAx n AxisState.letGo
  let l := l.drop (R.DC_STAT_SUBST n)
  l.when (l.inService n) fun l => l.setAxst n .off

theorem Lane.abandon_eq (l : Lane) (n : Axis) : l.abandon n = (l.letGo n).release n := rfl

/-- The counters are cleared where DC_CTRL[EN] changes from 0 to 1 (R102). -/
def Lane.clearCounters (l : Lane) (n : Axis) : Lane :=
  l.when (!l.flag (R.DC_CTRL_EN n)) fun l =>
    ((l.drop (R.DC_CNT_RHCNT n)).drop (R.DC_CNT_QOVFCNT n)).drop (R.DC_CNT_CDCNT n)

/-- An enable sets wref and the integrators to 0 (R132, R207). -/
def Lane.clearLoops (l : Lane) (n : Axis) : Lane :=
  (((l.drop (R.LE_WREF_REF n)).onLp n fun p => { p with io := 0, iw := 0, startNext := true, evaluated := 0 }).drop
    (R.LE_INT_IO n)).drop (R.LE_INT_IW n)

/-- An enable ends in the precharge where the module state permits drive (R132). -/
def Lane.startDrive (l : Lane) (n : Axis) : Lane :=
  if l.inService n ∧ l.modeDrives n then l.startPrecharge n else l.settle n

theorem Lane.enableAxis_eq (l : Lane) (n : Axis) :
    l.enableAxis n = ((((l.clearCounters n).raise (R.DC_CTRL_EN n)).judgeAngle n).clearLoops n).startDrive n := rfl

theorem Lane.clearCounters_near {M : Nat} {b l : Lane} {n : Axis} (m : M.testBit 91 = true) (h : Lane.Near M b l) :
    Lane.Near M b (l.clearCounters n) :=
  have counter : Put (R.DC_CNT n) M := inReg (at_DC_CNT n.isLt) m
  Lane.when_near h fun _ g => Lane.drop_near counter (Lane.drop_near counter (Lane.drop_near counter g))

theorem Lane.clearLoops_near {M : Nat} {b l : Lane} {n : Axis}
    (m : sub 0x30c000000000000000000000000000000000000000000050000000000000000000000000000000000000000000000000 M = true)
    (h : Lane.Near M b l) : Lane.Near M b (l.clearLoops n) :=
  have int : Put (R.LE_INT n) M := inReg (at_LE_INT n.isLt) (tb m rfl)
  Lane.drop_near int (Lane.drop_near int (Lane.onLp_near
    (.mk kp (ch m rfl) (ch m rfl) kp kp kp kp (ch m rfl) (ch m rfl) kp kp kp kp kp)
    (Lane.drop_near (inReg (at_LE_WREF n.isLt) (tb m rfl)) h)))

/-- Starting the drive touches GD_STAT and GD_EVT alone of the registers. -/
theorem Lane.startDrive_near {M : Nat} {b l : Lane} {n : Axis}
    (m : sub 0x800000000000000000000000000000000380350000000000000000000000000000000000000000000000000a00000000000000000000000000000000 M = true)
    (h : Lane.Near M b l) : Lane.Near M b (l.startDrive n) :=
  Lane.near_ite (Lane.startPrecharge_near m h) (Lane.settle_near (tr m rfl) h)

theorem Lane.IsOut.letGo {i : LaneId} {n : Axis} {l : Lane} (h : l.IsOut i n) (k : Axis) : (l.letGo k).IsOut i n := by
  unfold Lane.letGo
  extract_lets l1 l2 l3
  have h1 : l1.IsOut i n := h.near (M := allBut [89]) (Lane.when_near (.refl _ h.sound) fun _ g =>
    Lane.drop_near (inReg (at_DC_LASTX k.isLt) (by decide +kernel)) g) (by decide +kernel)
  have h3 : l3.IsOut i n := (h1.onAx k _).put 0 fun _ => (by decide : 4 ≤ 18)
  refine h3.when fun served => h3.setAxst_of_ne (fun hk => ?_) _
  rw [hk, Lane.inService_of_isOut h3] at served
  cases served

theorem Lane.IsOut.disableAxis {i : LaneId} {n : Axis} {l : Lane} (h : l.IsOut i n) (k : Axis) : (l.disableAxis k).IsOut i n := by
  have off := h.near (M := allBut [89]) (m := (l.drop (R.DC_CTRL_EN k)).put (R.LE_STAT_SUP k) 0)
    (Lane.put_near (inReg (at_LE_STAT k.isLt) (by decide +kernel))
      (Lane.drop_near (inReg (at_DC_CTRL k.isLt) (by decide +kernel)) (.refl _ h.sound))) (by decide +kernel)
  exact (off.letGo k).release k

theorem Lane.IsOut.judgeAngle {i : LaneId} {n : Axis} {l : Lane} (h : l.IsOut i n) (k : Axis) : (l.judgeAngle k).IsOut i n := by
  unfold Lane.judgeAngle
  split
  · exact h
  · split
    · exact (h.raise fun _ => (by decide : 4 ≤ 18)).onAx k _
    · exact h.setOff k

theorem Lane.IsOut.enableAxis {i : LaneId} {n : Axis} {l : Lane} (h : l.IsOut i n) (k : Axis) : (l.enableAxis k).IsOut i n := by
  rw [Lane.enableAxis_eq]
  have enabled := h.near (M := allBut [89]) (m := (l.clearCounters k).raise (R.DC_CTRL_EN k))
    (Lane.raise_near (inReg (at_DC_CTRL k.isLt) (by decide +kernel)).1 rfl
      (Lane.clearCounters_near (by decide +kernel) (.refl _ h.sound))) (by decide +kernel)
  have judged := enabled.judgeAngle k
  exact judged.near (M := allBut [89])
    (Lane.startDrive_near (by decide +kernel) (Lane.clearLoops_near (by decide +kernel) (.refl _ judged.sound))) (by decide +kernel)

theorem Lane.IsOut.ensureEnabled {i : LaneId} {n : Axis} {l : Lane} (h : l.IsOut i n) (k : Axis) :
    (l.ensureEnabled k).IsOut i n := by
  unfold Lane.ensureEnabled
  split
  · exact h
  · exact h.enableAxis k

/-! ### Entering GHOST LIGHT, in its steps (R285) -/

/-- What entering GHOST LIGHT does before it turns to the axes. -/
def Lane.intoGhost (l : Lane) : Lane :=
  let l := (l.takeMode .ghost).dropSpotlight.voidSteps
  let l := l.onMode fun m => { m with stop := some (.ghost, l.ltime), slowSince := none, enableFirst := 0 }
  l.when (l.get R.LC_STATE_LIVECNT ≤ 1) fun l => l.completeAll.holdToken

/-- The references of an axis before GHOST LIGHT drives it, by its stop role; `parked` where it comes from HOLD or WORKSHOP. -/
def Lane.ghostRef (parked : Bool) (l : Lane) (n : Axis) : Lane :=
  match l.stopRole n with
  | .none => l
  | .steer => l.when parked fun l => l.holdMeasured n
  | .service => l.setPref n (BitVec.ofNat 64 (profileForce ((l.stopSection.map (·.points)).getD []) 0))
  | .hold => l.when parked fun l => l.setHoldForce n

/-- What entering GHOST LIGHT does to an axis. -/
def Lane.ghostAxis (parked : Bool) (l : Lane) (n : Axis) : Lane :=
  if l.stopRole n = .none then l.disableAxis n else (l.ghostRef parked n).ensureEnabled n

theorem Lane.enterGhost_eq {l : Lane} (h : ¬(l.mode = .ghost ∨ l.mode = .curtain ∨ l.tiedToHold)) :
    l.enterGhost = ((l.intoGhost.allAxes (Lane.ghostAxis (l.mode == .hold || l.mode == .workshop))).put R.BI_STAT_PHASE 2).koSettle := by
  unfold Lane.enterGhost
  rw [if_neg h]
  extract_lets parked l1 l2 l3
  have each : (fun (l : Lane) (n : Axis) => match l.stopRole n with
      | .none => l.disableAxis n
      | .steer => (l.when parked fun l => l.holdMeasured n).ensureEnabled n
      | .service => (l.setPref n (BitVec.ofNat 64 (profileForce ((l.stopSection.map (·.points)).getD []) 0))).ensureEnabled n
      | .hold => (l.when parked fun l => l.setHoldForce n).ensureEnabled n) = Lane.ghostAxis parked := by
    funext m n
    unfold Lane.ghostAxis Lane.ghostRef
    cases m.stopRole n <;> rfl
  exact congrArg (fun f => ((l3.allAxes f).put R.BI_STAT_PHASE 2).koSettle) each

/-- The registers of the axes and the book in force that entering GHOST LIGHT leaves until it turns to the axes: DC_CTRL,
DC_STAT, DC_CNT, LE_WREF and LE_INT. -/
def driveKept : List Nat := [88, 89, 91, 196, 198, 487]

theorem Lane.intoGhost_near {l : Lane} {i : LaneId} (h : l.Sound i) : Lane.Near (allBut driveKept) l l.intoGhost := by
  unfold Lane.intoGhost
  extract_lets l1 l2
  have n1 : Lane.Near (allBut driveKept) l l1 := Lane.voidSteps_near (by decide +kernel)
    (Lane.dropSpotlight_near (by decide +kernel) (Lane.takeMode_near (by decide +kernel) (.refl _ h)))
  have n2 : Lane.Near (allBut driveKept) l l2 := Lane.onMode_near
    (.mk kp (not_bit (by decide +kernel)) (not_bit (by decide +kernel)) kp kp (not_bit (by decide +kernel)) kp kp kp kp) n1
  exact Lane.when_near n2 fun _ g => Lane.holdToken_near (by decide +kernel) (Lane.completeAll_near (by decide +kernel) g)

theorem Lane.ghostRef_near {M : Nat} {b l : Lane} {parked : Bool} {n : Axis}
    (m : sub 0xc000000000000000000000000000000000000000000000000 M = true) (h : Lane.Near M b l) :
    Lane.Near M b (l.ghostRef parked n) := by
  unfold Lane.ghostRef
  split
  · exact h
  · exact Lane.when_near h fun _ g => Lane.holdMeasured_near m g
  · exact Lane.setPref_near m h
  · exact Lane.when_near h fun _ g => Lane.setHoldForce_near m g

theorem Lane.ghostEnd_near {M : Nat} {b l : Lane}
    (m : sub (2 ^ 73 ||| 0x8000000000000000000000000000000000001000000002000000000000000000000000000000000000000000000000000000000000000000000000) M = true)
    (h : Lane.Near M b l) : Lane.Near M b ((l.put R.BI_STAT_PHASE 2).koSettle) :=
  Lane.koSettle_near (tr m (by decide +kernel)) (Lane.put_near (inReg at_BI_STAT (tb m (by decide +kernel))) h)

theorem Lane.allAxes_keeps {Q : Lane → Prop} {f : Lane → Axis → Lane} (hf : ∀ l n, Q l → Q (f l n)) {l : Lane} (h : Q l) :
    Q (l.allAxes f) := hf _ _ (hf _ _ (hf _ _ (hf _ _ h)))

/-- What disabling and ensuring an axis keep, and every step that leaves the registers of the drive, entering GHOST LIGHT
keeps. -/
theorem Lane.enterGhost_keeps {i : LaneId} {Q : Lane → Prop} (sound : ∀ l, Q l → l.Sound i)
    (near : ∀ l m, Lane.Near (allBut driveKept) l m → Q l → Q m) (disable : ∀ l k, Q l → Q (l.disableAxis k))
    (ensure : ∀ l k, Q l → Q (l.ensureEnabled k)) {l : Lane} (h : Q l) : Q l.enterGhost := by
  by_cases stays : l.mode = .ghost ∨ l.mode = .curtain ∨ l.tiedToHold
  · unfold Lane.enterGhost
    rwa [if_pos stays]
  · have axis (parked : Bool) (m : Lane) (k : Axis) (hm : Q m) : Q (m.ghostAxis parked k) := by
      unfold Lane.ghostAxis
      split
      · exact disable _ _ hm
      · exact ensure _ _ (near _ _ (Lane.ghostRef_near (by decide +kernel) (.refl _ (sound _ hm))) hm)
    rw [Lane.enterGhost_eq stays]
    have into := near _ _ (Lane.intoGhost_near (sound _ h)) h
    have axes := Lane.allAxes_keeps (axis (l.mode == .hold || l.mode == .workshop)) into
    exact near _ _ (Lane.ghostEnd_near (by decide +kernel) (.refl _ (sound _ axes))) axes

theorem Lane.IsOut.judgeSets {i : LaneId} {n : Axis} {l : Lane} (h : l.IsOut i n) : l.judgeSets.IsOut i n := by
  unfold Lane.judgeSets
  split
  · exact Lane.enterGhost_keeps (fun _ g => g.sound) (fun _ _ k g => g.near k (by decide +kernel)) (fun _ k g => g.disableAxis k)
      (fun _ k g => g.ensureEnabled k) h
  · exact h

/-- A set taken out is out of service, also where the lane goes to GHOST LIGHT over it (R98, R559). -/
theorem Lane.inService_setOut {l : Lane} {i : LaneId} (h : l.Sound i) (n : Axis) : (l.setOut n).inService n = false := by
  unfold Lane.setOut
  split
  next => exact Lane.inService_of_isOut (Lane.isOut_setOff h n).judgeSets
  next out => exact Lane.inService_of_isOut ⟨h, Lane.axst_of_not_inService out⟩

/-- A set taken out of service says so (R98). -/
theorem Lane.flag_OUTSVC_setOff {l : Lane} {i : LaneId} (h : l.Sound i) (n : Axis) :
    (l.setOff n).flag (R.DC_EVT_OUTSVC n) = true := by
  unfold Lane.setOff
  extract_lets m
  have out : (m.setAxst n .out).Sound i := (h.onAx n _).put _ _
  have raised := Lane.flag_raise out.wf (R.DC_EVT_OUTSVC n) (show 3 < 32 by decide) rfl
  have near : Lane.Near (allBut [322]) ((m.setAxst n .out).raise (R.DC_EVT_OUTSVC n))
      ((((m.setAxst n .out).raise (R.DC_EVT_OUTSVC n)).drop (R.DC_STAT_SUBST n)).release n) :=
    Lane.release_near (by decide +kernel)
      (Lane.drop_near (inReg (at_DC_STAT n.isLt) (by decide +kernel)) (.refl _ (out.raise _)))
  exact near.flag (by decide +kernel) (is_DC_EVT n.isLt) rfl raised

theorem Lane.flag_OUTSVC_setOut {l : Lane} {i : LaneId} (h : l.Sound i) {n : Axis} (served : l.inService n = true) :
    (l.setOut n).flag (R.DC_EVT_OUTSVC n) = true := by
  unfold Lane.setOut
  rw [if_pos served]
  have near : Lane.Near (allBut [322]) (l.setOff n) (l.setOff n).judgeSets :=
    Lane.judgeSets_near (by decide +kernel) (.refl _ (Lane.isOut_setOff h n).sound)
  exact near.flag (by decide +kernel) (is_DC_EVT n.isLt) rfl (Lane.flag_OUTSVC_setOff h n)

end Sys2Proof.Machine

/-!
PROOFS. A field at 0 that only clears: the counters and loop references that an enable sets to 0 (R102, R132, R207).
-/

namespace Sys2Proof.Machine

-- one declaration at a time: each waits for the kernel, and a waiting one holds a thread and its stack
set_option Elab.async false

/-! ### A field at 0 that only clears -/

/-- The field reads 0 in a lane in its place. -/
structure Lane.IsClear (i : LaneId) (f : Fld) (l : Lane) : Prop where
  sound : l.Sound i
  zero : l.get f = 0

theorem Lane.IsClear.near {M : Nat} {i : LaneId} {f : Fld} {l m : Lane} (h : l.IsClear i f) (k : Lane.Near M l m)
    (b : M.testBit (regNo f.addr) = false) : m.IsClear i f := ⟨k.place h.sound, (k.get b).trans h.zero⟩

/-- Clearing bits of a word leaves a field at 0 there. -/
theorem Fld.extract_insert_zero {f : Fld} {w : Word} (h : f.extract w = 0) (g : Fld) : f.extract (g.insert w 0) = 0 := by
  apply Nat.eq_of_testBit_eq
  intro j
  have hj : (f.extract w).testBit j = false := by rw [h, Nat.zero_testBit]
  rw [Nat.zero_testBit, Fld.testBit_extract]
  rw [Fld.testBit_extract] at hj
  by_cases hlt : f.lo + j < 32
  · rw [Fld.getLsbD_insert g w 0 _ hlt]
    split
    · simp
    · exact hj
  · rw [BitVec.getLsbD_of_ge _ _ (by omega), Bool.and_false]

/-- Dropping any field leaves a field at 0 as it is. -/
theorem Lane.IsClear.drop {i : LaneId} {f : Fld} {l : Lane} (h : l.IsClear i f) (g : Fld) : (l.drop g).IsClear i f := by
  refine ⟨h.sound.put g 0, ?_⟩
  by_cases ha : f.addr = g.addr
  · show f.extract ((l.setWord g.addr (g.insert (l.word g.addr) 0)).word f.addr) = 0
    rw [ha, Lane.word_setWord h.sound.wf]
    exact Fld.extract_insert_zero (ha ▸ h.zero) g
  · exact (Lane.get_put_of_ne _ _ ha).trans h.zero

theorem Lane.isClear_drop {i : LaneId} {l : Lane} (h : l.Sound i) (f : Fld) (hf : f.lo + f.width ≤ 32) :
    (l.drop f).IsClear i f := ⟨h.put f 0, Lane.get_drop h.wf f hf⟩

theorem Lane.IsClear.onLp {i : LaneId} {f : Fld} {l : Lane} (h : l.IsClear i f) (k : Axis) (g : LoopState → LoopState) :
    (l.onLp k g).IsClear i f := ⟨h.sound.onLp k g, (Lane.get_onLp l k g f).trans h.zero⟩

theorem Lane.IsClear.setWant {i : LaneId} {f : Fld} {l : Lane} (h : l.IsClear i f) (k : Axis) (w : BitVec 6) :
    (l.setWant k w).IsClear i f := ⟨h.sound.onAx k _, (Lane.get_onAx l k _ f).trans h.zero⟩

theorem Lane.IsClear.clearCounters {i : LaneId} {f : Fld} {l : Lane} (h : l.IsClear i f) (k : Axis) :
    (l.clearCounters k).IsClear i f := by
  unfold Lane.clearCounters
  cases !l.flag (R.DC_CTRL_EN k)
  · exact h
  · exact ((h.drop _).drop _).drop _

theorem Lane.IsClear.clearLoops {i : LaneId} {f : Fld} {l : Lane} (h : l.IsClear i f) (k : Axis) :
    (l.clearLoops k).IsClear i f := (((h.drop _).onLp k _).drop _).drop _

/-- The field lies in DC_CNT, LE_WREF or LE_INT, of which an enable clears fields and nothing here sets one. -/
abbrev Fld.AtEnable (f : Fld) : Prop := (allBut [91, 196, 198]).testBit (regNo f.addr) = false

theorem Fld.atEnable_of_addr {f : Fld} {n : Axis} (hf : f.addr = R.DC_CNT n ∨ f.addr = R.LE_WREF n ∨ f.addr = R.LE_INT n) :
    f.AtEnable := by
  unfold Fld.AtEnable
  rcases hf with e | e | e
  · rw [e, (at_DC_CNT n.isLt).1]
    decide +kernel
  · rw [e, (at_LE_WREF n.isLt).1]
    decide +kernel
  · rw [e, (at_LE_INT n.isLt).1]
    decide +kernel

section
variable {i : LaneId} {f : Fld} {l : Lane} (hf : f.AtEnable)
include hf

/-- Setting DC_CTRL[EN] and judging the angle leaves the registers that an enable clears. -/
theorem Lane.IsClear.judged (h : l.IsClear i f) (k : Axis) : ((l.raise (R.DC_CTRL_EN k)).judgeAngle k).IsClear i f :=
  h.near (M := allBut [91, 196, 198]) (Lane.judgeAngle_near (by decide +kernel)
    (Lane.raise_near (inReg (at_DC_CTRL k.isLt) (by decide +kernel)).1 rfl (.refl _ h.sound))) hf

theorem Lane.IsClear.startDrive (h : l.IsClear i f) (k : Axis) : (l.startDrive k).IsClear i f :=
  h.near (M := allBut [91, 196, 198]) (Lane.startDrive_near (by decide +kernel) (.refl _ h.sound)) hf

theorem Lane.IsClear.enableAxis (h : l.IsClear i f) (k : Axis) : (l.enableAxis k).IsClear i f :=
  (((h.clearCounters k).judged hf k).clearLoops k).startDrive hf k

theorem Lane.IsClear.ensureEnabled (h : l.IsClear i f) (k : Axis) : (l.ensureEnabled k).IsClear i f := by
  unfold Lane.ensureEnabled
  split
  · exact h
  · exact h.enableAxis hf k

theorem Lane.IsClear.disableAxis (h : l.IsClear i f) (k : Axis) : (l.disableAxis k).IsClear i f :=
  h.near (M := allBut [91, 196, 198]) (Lane.disableAxis_near (by decide +kernel) (.refl _ h.sound)) hf

theorem Lane.IsClear.keptInto {m : Lane} (h : l.IsClear i f) (k : Lane.Near (allBut driveKept) l m) : m.IsClear i f :=
  h.near k (off (by decide +kernel) hf)

theorem Lane.IsClear.ghostAxis (h : l.IsClear i f) (parked : Bool) (k : Axis) : (l.ghostAxis parked k).IsClear i f := by
  unfold Lane.ghostAxis
  split
  · exact h.disableAxis hf k
  · exact (h.keptInto hf (Lane.ghostRef_near (by decide +kernel) (.refl _ h.sound))).ensureEnabled hf k

theorem Lane.IsClear.enterGhost (h : l.IsClear i f) : l.enterGhost.IsClear i f :=
  Lane.enterGhost_keeps (fun _ g => g.sound) (fun _ _ k g => g.keptInto hf k) (fun _ k g => g.disableAxis hf k)
    (fun _ k g => g.ensureEnabled hf k) h

theorem Lane.IsClear.judgeSets (h : l.IsClear i f) : l.judgeSets.IsClear i f := by
  unfold Lane.judgeSets
  split
  · exact h.enterGhost hf
  · exact h

end

/-- The counters that an enable from DC_CTRL[EN] 0 clears (R102). -/
theorem Lane.isClear_counter_enableAxis {i : LaneId} {l : Lane} (h : l.Sound i) {n : Axis} (hn : l.get (R.DC_CTRL_EN n) = 0)
    {f : Fld} (hf : f ∈ [R.DC_CNT_RHCNT n, R.DC_CNT_QOVFCNT n, R.DC_CNT_CDCNT n]) : (l.enableAxis n).IsClear i f := by
  have counter : f.addr = R.DC_CNT n ∧ f.lo + f.width ≤ 32 := by
    simp only [List.mem_cons, List.not_mem_nil, or_false] at hf
    rcases hf with rfl | rfl | rfl <;> exact ⟨rfl, by simp⟩
  have atEnable : f.AtEnable := Fld.atEnable_of_addr (.inl counter.1)
  have cleared : (l.clearCounters n).IsClear i f := by
    unfold Lane.clearCounters Lane.flag
    rw [hn]
    simp only [List.mem_cons, List.not_mem_nil, or_false] at hf
    rcases hf with rfl | rfl | rfl
    · exact ((Lane.isClear_drop h _ counter.2).drop _).drop _
    · exact (Lane.isClear_drop (h.put _ 0) _ counter.2).drop _
    · exact Lane.isClear_drop ((h.put _ 0).put _ 0) _ counter.2
  exact ((cleared.judged atEnable n).clearLoops n).startDrive atEnable n

/-- The reference wref and the integrators that every enable clears (R132, R207). -/
theorem Lane.isClear_loop_enableAxis {i : LaneId} {l : Lane} (h : l.Sound i) (n : Axis) {f : Fld}
    (hf : f ∈ [R.LE_WREF_REF n, R.LE_INT_IO n, R.LE_INT_IW n]) : (l.enableAxis n).IsClear i f := by
  have loop : (f.addr = R.LE_WREF n ∨ f.addr = R.LE_INT n) ∧ f.lo + f.width ≤ 32 := by
    simp only [List.mem_cons, List.not_mem_nil, or_false] at hf
    rcases hf with rfl | rfl | rfl
    · exact ⟨.inl rfl, by simp⟩
    all_goals exact ⟨.inr rfl, by simp⟩
  have atEnable : f.AtEnable := Fld.atEnable_of_addr (.inr loop.1)
  rw [Lane.enableAxis_eq]
  refine Lane.IsClear.startDrive atEnable ?_ n
  generalize hm : ((l.clearCounters n).raise (R.DC_CTRL_EN n)).judgeAngle n = m
  have s : m.Sound i := hm ▸ Lane.Near.place (M := allBut []) (Lane.judgeAngle_near (by decide +kernel)
    (Lane.raise_near (inReg (at_DC_CTRL n.isLt) (by decide +kernel)).1 rfl
      (Lane.clearCounters_near (by decide +kernel) (.refl _ h)))) h
  simp only [List.mem_cons, List.not_mem_nil, or_false] at hf
  rcases hf with rfl | rfl | rfl
  · exact (((Lane.isClear_drop s _ loop.2).onLp n _).drop _).drop _
  · exact (Lane.isClear_drop ((s.put _ 0).onLp n _) _ loop.2).drop _
  · exact Lane.isClear_drop (((s.put _ 0).onLp n _).put _ 0) _ loop.2

end Sys2Proof.Machine

/-!
PROOFS. What disabling, enabling and a re-catch probe do to an axis (R97, R102, R132).
-/

namespace Sys2Proof.Machine

-- one declaration at a time: each waits for the kernel, and a waiting one holds a thread and its stack
set_option Elab.async false

/-! ### Disabling an axis (R102) -/

theorem Lane.letGo_near {M : Nat} {b l : Lane} {n : Axis} (m : sub (2 ^ 89 ||| 2 ^ 111 ||| 2 ^ 328 ||| 2 ^ 332 ||| 2 ^ 334) M = true)
    (h : Lane.Near M b l) : Lane.Near M b (l.letGo n) := by
  have stat : Put (R.DC_STAT n) M := inReg (at_DC_STAT n.isLt) (tb m (by decide +kernel))
  have lastx : Put (R.DC_LASTX n) M := inReg (at_DC_LASTX n.isLt) (tb m (by decide +kernel))
  unfold Lane.letGo
  extract_lets l1 l2 l3
  have n1 : Lane.Near M b l1 := Lane.when_near h fun _ g => Lane.drop_near lastx g
  have n3 : Lane.Near M b l3 := Lane.drop_near stat (Lane.onAx_near (.mk (ch m (by decide +kernel)) kp kp kp
    (ch m (by decide +kernel)) kp (ch m (by decide +kernel)) kp kp) n1)
  exact Lane.when_near n3 fun _ g => Lane.put_near stat g

/-- What is let go: the re-catch, the substitute, and the axis state of either. -/
theorem Lane.letGo_effects {l : Lane} {i : LaneId} (h : l.Sound i) (n : Axis) :
    ((l.letGo n).ax n).recatch = none ∧ ((l.letGo n).ax n).us.substSince = none ∧
    ((l.letGo n).axst n = .off ∨ (l.letGo n).axst n = .out) ∧ (l.letGo n).IsClear i (R.DC_STAT_SUBST n) := by
  unfold Lane.letGo
  extract_lets l1 l2 l3
  have s1 : l1.Sound i := (Lane.when_near (M := allBut []) (.refl _ h) fun _ g =>
    Lane.drop_near (inReg (at_DC_LASTX n.isLt) (by decide +kernel)) g).place h
  have subst : l3.IsClear i (R.DC_STAT_SUBST n) := Lane.isClear_drop (s1.onAx n _) _ (show 18 + 1 ≤ 32 by decide)
  have hax : l3.ax n = (l1.ax n).letGo := (l2.ax_put _ 0 n).trans (Lane.ax_onAx_self _ _ _)
  have recatch : (l3.ax n).recatch = none := congrArg AxisState.recatch hax
  have since : (l3.ax n).us.substSince = none := congrArg (·.us.substSince) hax
  clear_value l3
  unfold Lane.when
  by_cases served : l3.inService n = true
  · rw [if_pos served]
    beta_reduce
    rw [Lane.ax_setAxst]
    have apart : (l3.setAxst n .off).get (R.DC_STAT_SUBST n) = l3.get (R.DC_STAT_SUBST n) :=
      Lane.get_put_of_disjoint subst.sound.wf _ rfl (show 18 + 1 ≤ 32 by decide) (.inl (show 0 + 4 ≤ 18 by decide))
    exact ⟨recatch, since, .inl (Lane.axst_setAxst subst.sound.wf n .off), subst.sound.put _ _, apart.trans subst.zero⟩
  · rw [if_neg served]
    exact ⟨recatch, since, .inr (Lane.axst_of_not_inService served), subst⟩

/-- Releasing the switches of a disabled axis turns all six off. -/
theorem Lane.on_release_of_disabled {l : Lane} {i : LaneId} (h : l.Sound i) {n : Axis} (hn : l.get (R.DC_CTRL_EN n) = 0) :
    (l.release n).on n = 0 := by
  have asked : Lane.Near (allBut [88]) l ((l.drop (R.DC_STAT_RATEHOLD n)).setWant n 0) :=
    Lane.setWant_near (by decide +kernel) (Lane.drop_near (inReg (at_DC_STAT n.isLt) (by decide +kernel)) (.refl _ h))
  have disabled : ((l.drop (R.DC_STAT_RATEHOLD n)).setWant n 0).flag (R.DC_CTRL_EN n) = false := by
    unfold Lane.flag
    rw [asked.keep (at_DC_CTRL n.isLt).1 (by decide +kernel), hn]
    rfl
  exact Lane.on_settle_of_blocked (asked.place h) (Lane.blocked_of (.inr (.inr (.inr (.inr (.inr (.inr (.inl disabled))))))))

theorem Lane.release_follows {l : Lane} {i : LaneId} (h : l.Sound i) (n : Axis) : Lane.Follows n l (l.release n) :=
  (Lane.Asks.refl h n).release

/-- What a write of 0 to DC_CTRL[EN] leaves of the axis (R97, R101, R102). -/
theorem Lane.disableAxis_effects {l : Lane} {i : LaneId} (h : l.Sound i) (n : Axis) :
    (l.disableAxis n).get (R.DC_CTRL_EN n) = 0 ∧ (l.disableAxis n).get (R.DC_STAT_SUBST n) = 0 ∧
    (l.disableAxis n).get (R.LE_STAT_SUP n) = 0 ∧ (l.disableAxis n).on n = 0 ∧ ((l.disableAxis n).ax n).recatch = none ∧
    ((l.disableAxis n).ax n).us.substSince = none ∧ (l.disableAxis n).inRecatch n = false := by
  unfold Lane.disableAxis
  extract_lets l1 l2
  rw [Lane.abandon_eq]
  have s1 : l1.Sound i := h.put _ 0
  have s2 : l2.Sound i := s1.put _ 0
  have en : l2.IsClear i (R.DC_CTRL_EN n) := (Lane.isClear_drop h _ (show 0 + 1 ≤ 32 by decide)).drop _
  have sup : l2.IsClear i (R.LE_STAT_SUP n) := Lane.isClear_drop s1 _ (show 0 + 2 ≤ 32 by decide)
  have gone : Lane.Near (allBut [88, 173]) l2 (l2.letGo n) := Lane.letGo_near (by decide +kernel) (.refl _ s2)
  have released : Lane.Near (allBut [88, 173, 334]) (l2.letGo n) ((l2.letGo n).release n) :=
    Lane.release_near (by decide +kernel) (.refl _ (gone.place s2))
  have enGone := en.near gone (by rw [(at_DC_CTRL n.isLt).1]; decide +kernel)
  have supGone := sup.near gone (by rw [(at_LE_STAT n.isLt).1]; decide +kernel)
  obtain ⟨recatch, since, state, subst⟩ := Lane.letGo_effects s2 n
  have follows := Lane.release_follows (gone.place s2) n
  refine ⟨?_, ?_, ?_, ?_, ?_, ?_, ?_⟩
  · exact (released.keep (at_DC_CTRL n.isLt).1 (by decide +kernel)).trans enGone.zero
  · have dropped := subst.drop (R.DC_STAT_RATEHOLD n)
    have settled : Lane.Near (allBut [89]) (((l2.letGo n).drop (R.DC_STAT_RATEHOLD n)).setWant n 0) ((l2.letGo n).release n) :=
      Lane.settle_near (by decide +kernel) (.refl _ (dropped.sound.onAx n _))
    exact ((dropped.setWant n 0).near settled (by rw [(at_DC_STAT n.isLt).1]; decide +kernel)).zero
  · exact (released.keep (at_LE_STAT n.isLt).1 (by decide +kernel)).trans supGone.zero
  · exact Lane.on_release_of_disabled (gone.place s2) enGone.zero
  · exact ((released.axes n).recatch (by decide +kernel)).trans recatch
  · exact (Understudy.substSince_of_still follows.still).trans since
  · unfold Lane.inRecatch
    rw [follows.axst]
    rcases state with e | e <;> rw [e] <;> rfl

/-! ### Enabling an axis (R132) -/

/-- The parts that say how many sets an axis counts, whether it may drive, and when: LC_STATE, PW_VCSET, WG_STAT, DC_STAT,
GD_CFG, the peers' last summaries, the axes that wait for SETPOINT, and the book. -/
def enableKept : List Nat := [2, 7, 57, 89, 124, 391, 478, 487]

theorem Lane.fewSets_of_near {l m : Lane} (h : Lane.Near (allBut enableKept) l m) : m.fewSets = l.fewSets := by
  have state (f : Fld) (hf : f.addr = R.LC_STATE) : m.get f = l.get f := h.keep (hf ▸ at_LC_STATE.1) (by decide +kernel)
  have links (f : Fld) (hf : f.addr = R.WG_STAT) : m.get f = l.get f := h.keep (hf ▸ at_WG_STAT.1) (by decide +kernel)
  have axst (k : Axis) : m.axst k = l.axst k := h.axst (by decide +kernel) k
  have last : m.wing.last = l.wing.last := h.wing.last (by decide +kernel)
  have book : m.trust.book = l.trust.book := h.trust.book (by decide +kernel)
  unfold Lane.fewSets Lane.fromHold Lane.mode Lane.setCount Lane.bookEnables Lane.inService Lane.peerSet Lane.peerLive
    Lane.peerState Lane.lstate
  simp only [state R.LC_STATE_MSTATE rfl, state R.LC_STATE_LSTATE rfl, links R.WG_STAT_P1ST rfl, links R.WG_STAT_P2ST rfl,
    axst, last, book, h.id]

theorem Lane.modeDrives_of_near {l m : Lane} (h : Lane.Near (allBut enableKept) l m) (n : Axis) :
    m.modeDrives n = l.modeDrives n := by
  have state : m.get R.LC_STATE_MSTATE = l.get R.LC_STATE_MSTATE := h.keep at_LC_STATE.1 (by decide +kernel)
  have source : m.get (R.GD_CFG_SRC n) = l.get (R.GD_CFG_SRC n) := h.keep (at_GD_CFG n.isLt).1 (by decide +kernel)
  have first : m.mode_.enableFirst = l.mode_.enableFirst := h.mode_.enableFirst (by decide +kernel)
  unfold Lane.modeDrives Lane.mode Lane.internal
  rw [state, source, first]

theorem Lane.coreReady_of_near {l m : Lane} (h : Lane.Near (allBut enableKept) l m) : m.coreReady = l.coreReady := by
  unfold Lane.coreReady
  rw [h.keep (f := R.PW_VCSET_MEAS) at_PW_VCSET.1 (by decide +kernel)]

/-- Valid feedback is judged good (R101, R560). -/
theorem Lane.judgeAngle_of_fbValid {l : Lane} {n : Axis} (h : l.fbValid n = true) : l.judgeAngle n = l := by
  unfold Lane.judgeAngle Lane.angleLost
  rw [h, Bool.not_true, Bool.and_false, Bool.false_and]
  rfl

/-- With the core ready the precharge begins at the present moment (R132). -/
theorem Lane.precharge_startPrecharge {l : Lane} {i : LaneId} (h : l.Sound i) {n : Axis} (hc : l.coreReady = true) :
    ((l.startPrecharge n).ax n).refresh.precharge = some l.now := by
  have raised : Lane.Near (allBut enableKept) l l.raiseCore := Lane.raiseCore_near (by decide +kernel) (.refl _ h)
  unfold Lane.startPrecharge
  extract_lets m
  rw [if_pos ((Lane.coreReady_of_near raised).trans hc)]
  have settled : Lane.Near (allBut [332]) _ _ := Lane.settle_near (y1 := n) (by decide +kernel) (.refl _ ((raised.place h).onAx n fun a =>
    { a with refresh := { a.refresh with precharge := some m.now }, sw := { a.sw with looped := 0 } }))
  have kept := (settled.axes n).refresh (by decide +kernel)
  calc ((Lane.settle _ n).ax n).refresh.precharge
      = some m.now := (congrArg Refresh.precharge kept).trans (congrArg (·.refresh.precharge) (Lane.ax_onAx_self _ _ _))
    _ = some l.now := congrArg some raised.now

/-- Enabling an axis with valid feedback, before it drives. -/
theorem Lane.enableAxis_of_fbValid {l : Lane} {i : LaneId} (h : l.Sound i) {n : Axis} (hv : l.fbValid n = true) :
    ∃ m, Lane.Near (allBut enableKept) l m ∧ m.get (R.DC_CTRL_EN n) = 1 ∧ l.enableAxis n = m.startDrive n := by
  have counted : Lane.Near (allBut (149 :: enableKept)) l (l.clearCounters n) :=
    Lane.clearCounters_near (by decide +kernel) (.refl _ h)
  have raised : Lane.Near (allBut (149 :: enableKept)) l ((l.clearCounters n).raise (R.DC_CTRL_EN n)) :=
    Lane.raise_near (inReg (at_DC_CTRL n.isLt) (by decide +kernel)).1 rfl counted
  have valid : ((l.clearCounters n).raise (R.DC_CTRL_EN n)).fbValid n = true := by
    unfold Lane.fbValid Lane.flag
    rw [raised.keep (at_FB_STAT n.isLt).1 (by decide +kernel)]
    exact hv
  have cleared : Lane.Near (allBut [88, 149, 2, 7, 57, 89, 124, 391, 478, 487]) ((l.clearCounters n).raise (R.DC_CTRL_EN n))
      (((l.clearCounters n).raise (R.DC_CTRL_EN n)).clearLoops n) :=
    Lane.clearLoops_near (by decide +kernel) (.refl _ (raised.place h))
  refine ⟨_, (raised.mono (by decide +kernel)).trans (cleared.mono (by decide +kernel)), ?_, ?_⟩
  · rw [cleared.keep (at_DC_CTRL n.isLt).1 (by decide +kernel)]
    exact Lane.get_put counted.regsWf (R.DC_CTRL_EN n) 1 (show 0 + 1 ≤ 32 by decide)
  · rw [Lane.enableAxis_eq, Lane.judgeAngle_of_fbValid valid]

/-- An axis whose feedback is valid is enabled, and with enough sets the lane stays in its state; it precharges where it may
drive (R132). -/
theorem Lane.enableAxis_effects {l : Lane} {i : LaneId} (h : l.Sound i) {n : Axis} (hv : l.fbValid n = true)
    (hs : l.fewSets = false) : (l.enableAxis n).judgeSets.get (R.DC_CTRL_EN n) = 1 ∧
    (l.inService n = true → l.modeDrives n = true → l.coreReady = true →
      ((l.enableAxis n).judgeSets.ax n).refresh.precharge = some l.now) := by
  obtain ⟨m, near, en, e⟩ := Lane.enableAxis_of_fbValid h hv
  have started : Lane.Near (allBut (88 :: enableKept)) m (m.startDrive n) :=
    Lane.startDrive_near (by decide +kernel) (.refl _ (near.place h))
  have enough : (m.startDrive n).fewSets = false :=
    (Lane.fewSets_of_near (near.trans (started.mono (by decide +kernel)))).trans hs
  have stays : (m.startDrive n).judgeSets = m.startDrive n := by
    unfold Lane.judgeSets
    exact if_neg fun few => by rw [enough] at few; cases few.2
  rw [e, stays]
  refine ⟨(started.keep (at_DC_CTRL n.isLt).1 (by decide +kernel)).trans en, fun served drives core => ?_⟩
  have served' : m.inService n = true := by
    unfold Lane.inService
    rw [near.axst (by decide +kernel)]
    exact served
  unfold Lane.startDrive
  rw [if_pos ⟨served', (Lane.modeDrives_of_near near n).trans drives⟩,
    Lane.precharge_startPrecharge (near.place h) ((Lane.coreReady_of_near near).trans core), near.now]

/-! ### The flying re-catch (R97) -/

/-- A new axis state and the demand of rank 3 that it makes or ends. -/
theorem Lane.enterRank3_setAxst {l : Lane} {i : LaneId} (h : l.Sound i) (n : Axis) (a : Axst) :
    ((l.setAxst n a).enterRank3 n).axst n = a ∧ (((l.setAxst n a).enterRank3 n).ax n).recatch = (l.ax n).recatch := by
  have s : (l.setAxst n a).Sound i := h.put _ _
  have near : Lane.Near (allBut [334]) (l.setAxst n a) ((l.setAxst n a).enterRank3 n) :=
    Lane.enterRank3_near (by decide +kernel) (.refl _ s)
  exact ⟨(Lane.enterRank3_follows s n).axst.trans (Lane.axst_setAxst h.wf n a), (near.axes n).recatch (by decide +kernel)⟩

/-- Step 3 of R97: the flux of the magnet at the rotor angle, and no current. -/
theorem Lane.us_initFlux {l : Lane} {i : LaneId} (h : l.Sound i) (n : Axis) :
    ((l.initFlux n).ax n).us = { (l.ax n).us with
      psiA := l.psim n * Config.cosTurn (l.thetaAt n l.now), psiB := l.psim n * Config.sinTurn (l.thetaAt n l.now)
      ia := 0, ib := 0, te := 0, last := l.now, applied := l.on n, trail := [] } := by
  unfold Lane.initFlux
  extract_lets th
  have started := h.onAx n fun a => { a with
    us := { a.us with psiA := l.psim n * Config.cosTurn th, psiB := l.psim n * Config.sinTurn th, ia := 0, ib := 0, te := 0,
                      last := l.now, applied := l.on n, trail := [] } }
  have shown : Lane.Near (allBut [328]) _ _ :=
    Lane.showEstimates_near (y1 := n) (y2 := th) (by decide +kernel) (.refl _ started)
  exact ((shown.axes n).us (by decide +kernel)).trans (congrArg AxisState.us (Lane.ax_onAx_self _ _ _))

/-- Steps 3 and 4 of R97: the probe begins on the flux of step 3. -/
theorem Lane.probe_effects {l : Lane} {i : LaneId} (h : l.Sound i) (n : Axis) (f : AxisState → AxisState)
    (hf : ∀ a, (f a).us = a.us) :
    let m := (((((l.initFlux n).onAx n f).drop (R.DC_LASTX_RLCNT n)).setAxst n .probe).decideSwitch n)
    m.axst n = .probe ∧ m.get (R.DC_LASTX_RLCNT n) = 0 ∧ (m.ax n).us.ia = 0 ∧ (m.ax n).us.ib = 0 ∧
      (m.ax n).us.psiA = l.psim n * Config.cosTurn (l.thetaAt n l.now) ∧
      (m.ax n).us.psiB = l.psim n * Config.sinTurn (l.thetaAt n l.now) := by
  have s0 : ((l.initFlux n).onAx n f).Sound i :=
    ((Lane.initFlux_near (M := allBut []) (by decide +kernel) (.refl _ h)).place h).onAx n f
  have clear := Lane.isClear_drop s0 (R.DC_LASTX_RLCNT n) (show 16 + 4 ≤ 32 by decide)
  have set : Lane.Near (allBut [111]) (((l.initFlux n).onAx n f).drop (R.DC_LASTX_RLCNT n)) _ :=
    Lane.setAxst_near (y1 := n) (y2 := .probe) (by decide +kernel) (.refl _ clear.sound)
  have s1 := set.place clear.sound
  have decided : Lane.Near (allBut [111]) _ _ := Lane.decideSwitch_near (y1 := n) (by decide +kernel) (.refl _ s1)
  obtain ⟨fast, still⟩ := Lane.still_decideSwitch s1 n
  obtain ⟨psiA, psiB, ia, ib⟩ := Understudy.estimates_of_still still
  have us := Lane.us_initFlux h n
  rw [Lane.ax_setAxst, Lane.drop, Lane.ax_put, Lane.ax_onAx_self, hf, us] at psiA psiB ia ib
  exact ⟨(Lane.axst_decideSwitch s1 n).trans (Lane.axst_setAxst clear.sound.wf n .probe),
    (decided.keep (at_DC_LASTX n.isLt).1 (by decide +kernel)).trans
      ((set.keep (at_DC_LASTX n.isLt).1 (by decide +kernel)).trans clear.zero), ia, ib, psiA, psiB⟩

end Sys2Proof.Machine

/-!
PROOFS. The commands of re-catch, substitute, enabling and disabling (R97, R101, R102, R132).
-/

namespace Sys2Proof.Machine

-- one declaration at a time: each waits for the kernel, and a waiting one holds a thread and its stack
set_option Elab.async false

/-! ### The commands of re-catch, substitute and enabling -/

/-- ASC_END (R97). -/
theorem does_ascEnd (e : At) (n : Axis) (s : State) (hs : s.Runs e) :
    Does (.ascEnd e n) s [.reg (R.DC_STAT 0), .reg (R.GD_STAT 0), .reg (R.GD_EVT 0), .axUs, .axSw, .axLeak, .axRecatch] fun l m =>
      (l.axst n ≠ .asc → m = l) ∧ ((l.ax n).recatch = none → m = l) ∧
      (∀ r, (l.ax n).recatch = some r → l.axst n = .asc → l.since r.declared (us (100 * l.get (R.DC_RCATCH_ASCMIN n))) = true →
        m.axst n = .decay ∧ (m.ax n).recatch = some { r with quietSince := l.now }) := by
  refine does_logic hs rfl execAscEnd_event rfl (by decide +kernel) fun h => ?_
  generalize s.before (.ascEnd e n) = l at h
  cases hr : (l.ax n).recatch with
  | none => exact ⟨fun _ => rfl, fun _ => rfl, nofun⟩
  | some r =>
    dsimp only
    refine ⟨fun state => if_neg fun g => state g.1, nofun, fun r' same state old => ?_⟩
    cases same
    rw [if_pos ⟨state, old⟩]
    obtain ⟨decays, kept⟩ := Lane.enterRank3_setAxst (h.onAx n fun a => { a with recatch := some { r with quietSince := l.now } }) n .decay
    exact ⟨decays, kept.trans (congrArg AxisState.recatch (Lane.ax_onAx_self _ _ _))⟩

/-- DECAY_DONE (R97). -/
theorem does_decayDone (e : At) (n : Axis) (s : State) (hs : s.Runs e) :
    Does (.decayDone e n) s [.block 6, .reg (R.GD_STAT 0), .reg (R.GD_EVT 0), .axUs, .axSw, .axLeak, .axRecatch] fun l m =>
      (l.axst n ≠ .decay → m = l) ∧ ((l.ax n).recatch = none → m = l) ∧
      (∀ r, (l.ax n).recatch = some r → l.axst n = .decay → l.since r.quietSince (us 100) = true →
        m.axst n = .probe ∧ m.get (R.DC_LASTX_RLCNT n) = 0 ∧ (m.ax n).us.ia = 0 ∧ (m.ax n).us.ib = 0 ∧
        (m.ax n).us.psiA = l.psim n * Config.cosTurn (l.thetaAt n l.now) ∧
        (m.ax n).us.psiB = l.psim n * Config.sinTurn (l.thetaAt n l.now)) := by
  refine does_logic hs rfl execDecayDone_event rfl (by decide +kernel) fun h => ?_
  generalize s.before (.decayDone e n) = l at h
  cases hr : (l.ax n).recatch with
  | none => exact ⟨fun _ => rfl, fun _ => rfl, nofun⟩
  | some r =>
    dsimp only
    refine ⟨fun state => if_neg fun g => state g.1, nofun, fun r' same state quiet => ?_⟩
    cases same
    rw [if_pos ⟨state, quiet⟩]
    exact Lane.probe_effects h n _ fun _ => rfl

/-- A flag of an axis raised just before its set is taken out stays. -/
theorem Lane.flag_raise_setOut {l : Lane} {i : LaneId} (h : l.Sound i) (n : Axis) {f : Fld} (hf : f.addr = R.DC_EVT n)
    (hlo : f.lo < 32) (hw : f.width = 1) : ((l.raise f).setOut n).flag f = true :=
  have near : Lane.Near (allBut [322]) (l.raise f) ((l.raise f).setOut n) :=
    Lane.setOut_near (by decide +kernel) (.refl _ (h.raise f))
  near.flag (by decide +kernel) (hf ▸ is_DC_EVT n.isLt) hw (Lane.flag_raise h.wf f hlo hw)

theorem Lane.Sound.axst_raise_evt {l : Lane} {i : LaneId} (h : l.Sound i) (n : Axis) {f : Fld} (hf : f.addr = R.DC_EVT n)
    (hw : f.width = 1) : (l.raise f).axst n = l.axst n :=
  have near : Lane.Near (allBut [89]) l (l.raise f) :=
    Lane.raise_near (inEvt (hf ▸ ev_DC_EVT n.isLt) (by decide +kernel)) hw (.refl _ h)
  near.axst (by decide +kernel) n

/-- A set in a re-catch is in service. -/
theorem Lane.inService_of_inRecatch {l : Lane} {n : Axis} (h : l.inRecatch n = true) : l.inService n = true := by
  unfold Lane.inRecatch at h
  unfold Lane.inService
  cases state : l.axst n <;> simp_all

/-- RECATCH_FAIL (R97). -/
theorem does_recatchFail (e : At) (n : Axis) (s : State) (hs : s.Runs e) :
    Does (.recatchFail e n) s setOutParts fun l m =>
      (l.inRecatch n = false → m = l) ∧ ((l.ax n).recatch = none → m = l) ∧
      (∀ r, (l.ax n).recatch = some r → l.inRecatch n = true → l.since r.declared (ms 20) = true →
        m.flag (R.DC_EVT_RCFAIL n) = true ∧ m.flag (R.DC_EVT_OUTSVC n) = true ∧ m.inService n = false) := by
  refine does_logic hs rfl execRecatchFail_event rfl (by decide +kernel) fun h => ?_
  generalize s.before (.recatchFail e n) = l at h
  cases hr : (l.ax n).recatch with
  | none => exact ⟨fun _ => rfl, fun _ => rfl, nofun⟩
  | some r =>
    dsimp only
    refine ⟨fun no => if_neg fun g => ?_, nofun, fun r' same caught late => ?_⟩
    · rw [no] at g
      cases g.1
    · cases same
      rw [if_pos ⟨caught, late⟩]
      have served : (l.raise (R.DC_EVT_RCFAIL n)).inService n = true := by
        unfold Lane.inService
        rw [h.axst_raise_evt n rfl rfl]
        exact Lane.inService_of_inRecatch caught
      exact ⟨Lane.flag_raise_setOut h n rfl (show 2 < 32 by decide) rfl, Lane.flag_OUTSVC_setOut (h.raise _) served,
        Lane.inService_setOut (h.raise _) n⟩

/-- SUBSTITUTE_TIMEOUT (R101). -/
theorem does_substituteTimeout (e : At) (n : Axis) (s : State) (hs : s.Runs e) :
    Does (.substituteTimeout e n) s setOutParts fun l m =>
      ((l.ax n).us.substSince = none → m = l) ∧
      (∀ t, (l.ax n).us.substSince = some t → l.since t (ms (l.get (R.DC_BEMF1_SUBSTMAX n))) = true →
        m.flag (R.DC_EVT_SUBSTEND n) = true ∧ m.inService n = false) := by
  refine does_logic hs rfl execSubstituteTimeout_event rfl (by decide +kernel) fun h => ?_
  generalize s.before (.substituteTimeout e n) = l at h
  cases ht : (l.ax n).us.substSince with
  | none => exact ⟨fun _ => rfl, nofun⟩
  | some t =>
    dsimp only
    refine ⟨nofun, fun t' same late => ?_⟩
    cases same
    rw [if_pos late, Lane.substEnd]
    exact ⟨Lane.flag_raise_setOut h n rfl (show 8 < 32 by decide) rfl, Lane.inService_setOut (h.raise _) n⟩

/-- AXIS_ENABLE (R132). -/
theorem does_axisEnable (e : At) (n : Axis) (s : State) (hs : s.Runs e) :
    Does (.axisEnable e n) s setOutParts fun l m =>
      (l.enableRefused n ≠ none → m = l) ∧ (l.flag (R.DC_CTRL_EN n) = true → m = l) ∧
      (l.get (R.DC_CTRL_EN n) = 0 → l.enableRefused n = none →
        m.get (R.DC_CNT_RHCNT n) = 0 ∧ m.get (R.DC_CNT_QOVFCNT n) = 0 ∧ m.get (R.DC_CNT_CDCNT n) = 0 ∧
        m.get (R.LE_WREF_REF n) = 0 ∧ m.get (R.LE_INT_IO n) = 0 ∧ m.get (R.LE_INT_IW n) = 0) ∧
      (l.get (R.DC_CTRL_EN n) = 0 → l.enableRefused n = none → l.fbValid n = true → l.fewSets = false →
        m.get (R.DC_CTRL_EN n) = 1 ∧
        (l.inService n = true → l.modeDrives n = true → l.coreReady = true →
          (m.ax n).refresh.precharge = some l.now)) := by
  refine does_logic hs rfl execAxisEnable_event rfl (by decide +kernel) fun h => ?_
  generalize s.before (.axisEnable e n) = l at h
  have enables (hen : l.get (R.DC_CTRL_EN n) = 0) (hok : l.enableRefused n = none) :
      (!l.flag (R.DC_CTRL_EN n)) = true ∧ (l.enableRefused n).isNone = true := by
    unfold Lane.flag
    rw [hen, hok]
    exact ⟨rfl, rfl⟩
  refine ⟨fun refused => if_neg fun g => refused (Option.isNone_iff_eq_none.1 g.2), fun on => if_neg fun g => ?_,
    fun hen hok => ?_, fun hen hok valid enough => ?_⟩
  · rw [on] at g
    cases g.1
  · rw [if_pos (enables hen hok)]
    have counter {f : Fld} (hf : f ∈ [R.DC_CNT_RHCNT n, R.DC_CNT_QOVFCNT n, R.DC_CNT_CDCNT n])
        (address : f.addr = R.DC_CNT n) : (l.enableAxis n).judgeSets.get f = 0 :=
      ((Lane.isClear_counter_enableAxis h hen hf).judgeSets (Fld.atEnable_of_addr (.inl address))).zero
    have loop {f : Fld} (hf : f ∈ [R.LE_WREF_REF n, R.LE_INT_IO n, R.LE_INT_IW n])
        (address : f.addr = R.LE_WREF n ∨ f.addr = R.LE_INT n) : (l.enableAxis n).judgeSets.get f = 0 :=
      ((Lane.isClear_loop_enableAxis h n hf).judgeSets (Fld.atEnable_of_addr (.inr address))).zero
    exact ⟨counter (by simp) rfl, counter (by simp) rfl, counter (by simp) rfl, loop (by simp) (.inl rfl),
      loop (by simp) (.inr rfl), loop (by simp) (.inr rfl)⟩
  · rw [if_pos (enables hen hok)]
    exact Lane.enableAxis_effects h valid enough

/-- AXIS_DISABLE (R102). -/
theorem does_axisDisable (e : At) (n : Axis) (s : State) (hs : s.Runs e) :
    Does (.axisDisable e n) s [.reg (R.DC_CTRL 0), .reg (R.DC_STAT 0),
    .reg (R.DC_LASTX 0), .reg (R.GD_STAT 0), .reg (R.GD_EVT 0), .reg (R.LE_STAT 0), .axUs, .axSw, .axRefresh,
    .axLeak, .axRecatch] fun _ m =>
      m.get (R.DC_CTRL_EN n) = 0 ∧ m.get (R.DC_STAT_SUBST n) = 0 ∧ m.get (R.LE_STAT_SUP n) = 0 ∧ m.on n = 0 ∧
      (m.ax n).recatch = none ∧ (m.ax n).us.substSince = none ∧ m.inRecatch n = false :=
  does_logic hs rfl execAxisDisable_event rfl (by decide +kernel) fun h => Lane.disableAxis_effects h n

/-- Settles O21, command by command. -/
theorem recatchAndEnable : Obligations.RecatchAndEnable := by
  unfold Obligations.RecatchAndEnable
  exact ⟨does_ascEnd, does_decayDone, does_recatchFail, does_substituteTimeout, does_axisEnable, does_axisDisable⟩

end Sys2Proof.Machine

/-!
PROOFS. COPY_DISAGREEMENT at its eighth disagreement, where the set goes out of service and GHOST LIGHT enables its axis anew.
-/

namespace Sys2Proof.Machine

-- one declaration at a time: each waits for the kernel, and a waiting one holds a thread and its stack
set_option Elab.async false

/-! ### COPY_DISAGREEMENT clears its own count (R84, R98, R102)

The eighth disagreement takes the winding set out of service. Where that leaves an axis the book enables fewer than two sets,
the lane enters GHOST LIGHT (R559), which ensures that every axis with a stop role is enabled (R285). An axis whose
DC_CTRL[EN] was 0 is so enabled anew, and its DC_CNT starts again at 0. -/

theorem Lane.stopRole_of_book {l m : Lane} (h : m.trust.book = l.trust.book) (n : Axis) : m.stopRole n = l.stopRole n := by
  unfold Lane.stopRole Lane.stopSection
  rw [h]

/-- GHOST LIGHT enables anew an axis that has a stop role and DC_CTRL[EN] 0, which clears its counters. -/
theorem Lane.isClear_counter_ghostAxis {i : LaneId} {l : Lane} (h : l.Sound i) {n : Axis} (role : l.stopRole n ≠ .none)
    (hn : l.get (R.DC_CTRL_EN n) = 0) (parked : Bool) : (l.ghostAxis parked n).IsClear i (R.DC_CNT_CDCNT n) := by
  have near : Lane.Near (allBut driveKept) l (l.ghostRef parked n) := Lane.ghostRef_near (by decide +kernel) (.refl _ h)
  have off : (l.ghostRef parked n).get (R.DC_CTRL_EN n) = 0 :=
    (near.keep (at_DC_CTRL n.isLt).1 (by decide +kernel)).trans hn
  unfold Lane.ghostAxis Lane.ensureEnabled Lane.flag
  rw [if_neg role, off, if_neg (show ¬((0 != 0) = true ∧ _) from fun g => absurd g.1 (by decide))]
  exact Lane.isClear_counter_enableAxis (near.place h) off (by simp)

/-- Entering GHOST LIGHT clears DC_CNT[CDCNT] of axis 0 where that axis has a stop role and DC_CTRL[EN] 0. -/
theorem Lane.isClear_counter_enterGhost {i : LaneId} {l : Lane} (h : l.Sound i)
    (enters : ¬(l.mode = .ghost ∨ l.mode = .curtain ∨ l.tiedToHold)) (role : l.stopRole 0 ≠ .none)
    (hn : l.get (R.DC_CTRL_EN 0) = 0) : l.enterGhost.IsClear i (R.DC_CNT_CDCNT 0) := by
  have near := Lane.intoGhost_near h
  have cnt : (R.DC_CNT_CDCNT 0).AtEnable := Fld.atEnable_of_addr (n := 0) (.inl rfl)
  have role' : l.intoGhost.stopRole 0 ≠ .none := by
    rwa [Lane.stopRole_of_book (near.trust.book (by decide +kernel))]
  have axis0 (parked : Bool) : (l.intoGhost.ghostAxis parked 0).IsClear i (R.DC_CNT_CDCNT 0) :=
    Lane.isClear_counter_ghostAxis (near.place h) role' ((near.keep (at_DC_CTRL (by decide)).1 (by decide +kernel)).trans hn) parked
  rw [Lane.enterGhost_eq enters]
  generalize (l.mode == .hold || l.mode == .workshop) = parked
  have axes := (((axis0 parked).ghostAxis cnt parked 1).ghostAxis cnt parked 2).ghostAxis cnt parked 3
  exact axes.keptInto cnt (Lane.ghostEnd_near (by decide +kernel) (.refl _ axes.sound))

/-- The lane once COPY_DISAGREEMENT has counted the switches that newly differ and turned off all that differ (R84). -/
def Lane.countDisagreement (l : Lane) (n : Axis) (differ : BitVec 6) : Lane :=
  let new := count6 (differ &&& ~~~(l.ax n).prot.disagree)
  let l := (l.addTo (R.DC_CNT_CDCNT n) new).when (new != 0) fun l => l.raise (R.DC_EVT_COPYDIS n)
  (l.onAx n fun a => { a with prot := { a.prot with disagree := differ } }).settle n

/-- COPY_DISAGREEMENT takes the set out of service at the eighth disagreement, where one is new (R84). -/
theorem lane_copyDisagreement {e : At} {n : Axis} {differ : BitVec 6} {s t : State} (hs : s.Runs e)
    (next : exec (.copyDisagreement e n differ) s = .next t)
    (new : count6 (differ &&& ~~~((s.before (.copyDisagreement e n differ)).ax n).prot.disagree) ≠ 0)
    (eighth : 8 ≤ ((s.before (.copyDisagreement e n differ)).countDisagreement n differ).get (R.DC_CNT_CDCNT n)) :
    t.lane e.lane = ((s.before (.copyDisagreement e n differ)).countDisagreement n differ).setOut n := by
  injection next with ht
  rw [← ht]
  exact (State.lane_logicEvent hs.2).trans (if_pos ⟨new, eighth⟩)

/-- A book that enables axis 0 and gives every axis the stop role SERVICE. -/
def serviceBook : Book where
  envelope := ⟨[], 0⟩
  ecdsa := none
  lms := none
  digest := 0
  machine := none
  registers := some [⟨R.DC_CTRL 0, 7, 1⟩]
  tables := none
  tasks := none
  cues := none
  canSched := none
  claims := .replicate 2 none
  signals := none
  trust := none
  safety := some ⟨⟨.replicate 4 2, 9, 0, 1, 1, .replicate 4 0, .replicate 4 0, [], true⟩, []⟩
  unknown := []
  repeated := []
  malformed := none

/-- Lane A, LIVE in PERFORMING under `serviceBook`: the set of axis 0 in service, its DC_CTRL[EN] 0 as after AXIS_DISABLE, and
7 disagreements counted. -/
def disagreeingLane : Lane :=
  let live := ((Lane.reset .A).put R.LC_STATE_MSTATE 6).put R.LC_STATE_LSTATE 2
  ((live.put (R.DC_STAT_AXST 0) 1).put (R.DC_CNT_CDCNT 0) 7).onTrust fun t => { t with book := some serviceBook }

/-- The block as reset leaves it, but for `disagreeingLane`. -/
def disagreeingState : State := { State.reset with laneA := disagreeingLane }

theorem disagreeingState_runs : disagreeingState.Runs ⟨.A, 0⟩ :=
  ⟨⟨⟨rfl, by decide +kernel, by decide +kernel⟩, Lane.sound_reset .B, Lane.sound_reset .C⟩, by decide +kernel⟩

/-- `disagreeingLane` with its eighth disagreement counted, before the set goes out of service. -/
def eighthLane : Lane := (disagreeingState.before (.copyDisagreement ⟨.A, 0⟩ 0 1)).countDisagreement 0 1

theorem eighthLane_sound : eighthLane.Sound .A := ⟨by decide +kernel, by decide +kernel, by decide +kernel⟩

/-- The set of axis 0 goes out of service there, by which the lane enters GHOST LIGHT and clears the count. -/
theorem get_CDCNT_setOut_eighthLane : (eighthLane.setOut 0).get (R.DC_CNT_CDCNT 0) = 0 := by
  have served : eighthLane.inService 0 = true := by decide +kernel
  have few : (eighthLane.setOff 0).lstate = .live ∧ (eighthLane.setOff 0).fewSets = true := by decide +kernel
  have enters : ¬((eighthLane.setOff 0).mode = .ghost ∨ (eighthLane.setOff 0).mode = .curtain ∨
      (eighthLane.setOff 0).tiedToHold = true) := by decide +kernel
  have role : (eighthLane.setOff 0).stopRole 0 ≠ .none := by decide +kernel
  have disabled : (eighthLane.setOff 0).get (R.DC_CTRL_EN 0) = 0 := by decide +kernel
  unfold Lane.setOut Lane.judgeSets
  rw [if_pos served, if_pos few]
  exact (Lane.isClear_counter_enterGhost (Lane.isOut_setOff eighthLane_sound 0).sound enters role disabled).zero

/-- Refutes O20: in `disagreeingState` the eighth disagreement ends with DC_CNT[CDCNT] 0, where the clause of
COPY_DISAGREEMENT has the count 8. -/
theorem not_understudyAndTable : ¬ Obligations.UnderstudyAndTable := by
  unfold Obligations.UnderstudyAndTable
  rintro ⟨-, -, -, copies, -⟩
  let c : Instr := .copyDisagreement ⟨.A, 0⟩ 0 1
  obtain ⟨t, next, -, -, -, -, -, counted, -⟩ := copies ⟨.A, 0⟩ 0 1 disagreeingState disagreeingState_runs
  have after : t.lane .A = eighthLane.setOut 0 :=
    lane_copyDisagreement disagreeingState_runs next (by decide +kernel) (by decide +kernel)
  have count : (t.lane .A).get (R.DC_CNT_CDCNT 0) =
      min ((disagreeingState.before c).get (R.DC_CNT_CDCNT 0) +
        count6 (1 &&& ~~~((disagreeingState.before c).ax 0).prot.disagree)) 255 := (counted (by decide +kernel)).2
  rw [after, get_CDCNT_setOut_eighthLane] at count
  exact absurd count (by decide +kernel)

end Sys2Proof.Machine

/-!
PROOFS. VG_LOCKOUT_PERSIST and OVMAX, which take a lane OUT, change WG_CMDEXP.
-/

namespace Sys2Proof.Machine

-- one declaration at a time: each waits for the kernel, and a waiting one holds a thread and its stack
set_option Elab.async false

/-! ### Events of the power die that take a lane with a waiting command OUT -/

/-- Where the logic die runs, the power die is powered, and an event of either acts alike. -/
theorem State.powerEvent_eq_logicEvent {s : State} {e : At} (hs : s.Runs e) (f : Lane → Lane) :
    s.powerEvent e f = s.logicEvent e f := by
  have powered : (s.lane e.lane).monitorsUp = true := by
    have up := hs.2
    unfold Lane.logicUp at up
    unfold Lane.monitorsUp
    rw [eq_of_beq up]
    rfl
  rw [State.powerEvent_of_up f powered, State.logicEvent_of_up f hs.2]

/-- The block as reset leaves it, but for lane A: one command waits for agreement there, and VG_x is in lockout since the
count 0. -/
def lockedOutState : State :=
  { waitingState with laneA := waitingLane.onPower fun p => { p with vgSince := some 0 } }

theorem lockedOutState_runs {e : At} (he : e.lane = .A) : lockedOutState.Runs e :=
  ⟨⟨⟨rfl, rfl, rfl⟩, Lane.sound_reset .B, Lane.sound_reset .C⟩, by rw [he]; rfl⟩

/-- Refutes O24: a VG_x lockout that has lasted 100 µs takes the lane OUT (R130), which counts the command waiting in it in
WG_CMDEXP (R266); that register is none of the parts the clause of VG_LOCKOUT_PERSIST lists. -/
theorem not_vgAndBootstrap : ¬ Obligations.VgAndBootstrap := by
  unfold Obligations.VgAndBootstrap
  rintro ⟨-, persist, -⟩
  let c : Instr := .vgLockoutPersist ⟨.A, us 100⟩
  let l : Lane := lockedOutState.before c
  have runs : lockedOutState.Runs c.at := lockedOutState_runs rfl
  have lasted : l.since 0 (us 100) = true := by decide +kernel
  refine not_does_of_laneOut (c := c) (l := l) runs (congrArg _ (State.powerEvent_eq_logicEvent runs _)) ?_ ?_ rfl ?_ ?_ ?_
    (persist ⟨.A, us 100⟩ lockedOutState ⟨runs.1, rfl⟩)
  case refine_1 => exact if_pos lasted
  case refine_2 => exact (runs.1.lane _).advanceTo _
  case refine_3 => decide +kernel
  case refine_4 => exact List.cons_ne_nil _ _
  case refine_5 => decide +kernel

/-- Refutes O26: VM_x at OVMAX takes the lane OUT (R146), which counts the command waiting in it in WG_CMDEXP (R266); that
register is none of the parts the clause of OVMAX lists. -/
theorem not_overVoltageStages : ¬ Obligations.OverVoltageStages := by
  unfold Obligations.OverVoltageStages
  rintro ⟨-, -, -, -, -, -, max⟩
  let c : Instr := .ovmax ⟨.A, 0⟩ 65535
  let shown : Lane := (waitingState.before c).showVm 65535
  have runs : waitingState.Runs c.at := waitingState_runs rfl
  have reached : shown.get R.GD_OVB_OVMAX ≤ 65535 ∧ (!shown.link.ovmax) = true := by decide +kernel
  have near : Lane.Near (allBut [69, 401]) (waitingState.before c)
      (((shown.raise R.GD_LEVT_OVMAX).onLink fun k => { k with ovmax := true }).showLevel.allAxes fun l n =>
        (l.leakAbort n).settle n) :=
    Lane.allAxes_near (Lane.showLevel_near (by decide +kernel)
      (Lane.onLink_near (.mk kp kp kp (not_bit (by decide +kernel)) kp kp kp kp kp kp kp)
        (Lane.raise_near (inEvt ev_GD_LEVT (by decide +kernel)) rfl
          (Lane.showVm_near (by decide +kernel) (waitingState_before_near rfl)))))
      fun _ _ g => Lane.settle_near (by decide +kernel) (Lane.leakAbort_near (by decide +kernel) g)
  exact not_does_of_waiting (c := c) rfl (congrArg _ (State.powerEvent_eq_logicEvent runs _)) (if_pos reached) near
    (by decide +kernel) (max ⟨.A, 0⟩ 65535 waitingState ⟨runs.1, rfl⟩)

end Sys2Proof.Machine

/-!
PROOFS. The brake chopper (R149, R150, R151): what its fields of GD_VMSTAT show after it turns on or off, and its commands.
-/

namespace Sys2Proof.Machine

-- one declaration at a time: each waits for the kernel, and a waiting one holds a thread and its stack
set_option Elab.async false

/-! ### Fields after a flag is raised -/

/-- A flag just raised reads 1. -/
theorem Lane.get_raise {l : Lane} (h : RegFile.wf l.id l.regs = true) (f : Fld) (hf : f.lo < 32) (hw : f.width = 1) :
    (l.raise f).get f = 1 := by
  show (l.put f 1).get f = 1
  rw [Lane.get_put h _ _ (by omega), hw]
  rfl

/-- A flag of another register leaves a field as it is. -/
theorem Lane.get_raise_of_ne (l : Lane) {f g : Fld} (h : g.addr ≠ f.addr) : (l.raise f).get g = l.get g :=
  Lane.get_put_of_ne l 1 h

/-- A flag of the same register leaves a disjoint field as it is. -/
theorem Lane.get_raise_of_disjoint {l : Lane} (h : RegFile.wf l.id l.regs = true) {f g : Fld} (ha : g.addr = f.addr)
    (hg : g.lo + g.width ≤ 32) (hd : f.lo + f.width ≤ g.lo ∨ g.lo + g.width ≤ f.lo) : (l.raise f).get g = l.get g :=
  Lane.get_put_of_disjoint h 1 ha hg hd

theorem Lane.flag_of_get {l m : Lane} {f : Fld} (h : m.get f = l.get f) : m.flag f = l.flag f := by
  unfold Lane.flag
  rw [h]

theorem Lane.get_of_flag_eq_false {l : Lane} {f : Fld} (h : l.flag f = false) : l.get f = 0 := by
  unfold Lane.flag at h
  simpa using h

theorem Lane.flag_eq_false_of_get {l : Lane} {f : Fld} (h : l.get f = 0) : l.flag f = false := by
  unfold Lane.flag
  rw [h]
  rfl

/-! ### The chopper turns on and off -/

theorem Lane.get_BCH_chopperOn {l : Lane} {i : LaneId} (h : l.Sound i) : l.chopperOn.get R.GD_VMSTAT_BCH = 1 :=
  Lane.get_raise h.wf R.GD_VMSTAT_BCH (show 21 < 32 by decide) rfl

theorem Lane.isClear_BCH_chopperOff {l : Lane} {i : LaneId} (h : l.Sound i) : l.chopperOff.IsClear i R.GD_VMSTAT_BCH := by
  have counted : l.chopperCount.Sound i := by
    unfold Lane.chopperCount
    split
    · exact (h.put _ _).onLink _
    · exact h
  have off := (Lane.isClear_drop counted R.GD_VMSTAT_BCH (show 21 + 1 ≤ 32 by decide)).drop R.GD_VMSTAT_BCS
  exact ⟨off.sound.onLink _, off.zero⟩

/-- The release of OV1 without a chopper to turn off: the stages of the over-voltage change, and LEVEL follows. -/
theorem Lane.dropOv1_of_off {l : Lane} {i : LaneId} (h : l.Sound i) (off : l.get R.GD_VMSTAT_BCH = 0) :
    l.dropOv1 = (l.onLink fun k => { k with ov1 := false, releaseHeld := false, bchHeld := false }).showLevel := by
  have apart : (l.onLink fun k => { k with ov1 := false, releaseHeld := false, bchHeld := false }).showLevel.get
      R.GD_VMSTAT_BCH = l.get R.GD_VMSTAT_BCH :=
    Lane.get_put_of_disjoint (h.onLink _).wf _ rfl (show 21 + 1 ≤ 32 by decide) (.inl (show 16 + 3 ≤ 21 by decide))
  unfold Lane.dropOv1
  extract_lets m
  rw [Lane.flag_eq_false_of_get (apart.trans off)]
  rfl

/-- A field of GD_VMSTAT above LEVEL keeps its value where OV1 is released with the chopper off. -/
theorem Lane.get_dropOv1_of_off {l : Lane} {i : LaneId} (h : l.Sound i) (off : l.get R.GD_VMSTAT_BCH = 0) {f : Fld}
    (ha : f.addr = R.GD_VMSTAT) (hlo : 19 ≤ f.lo) (hf : f.lo + f.width ≤ 32) : l.dropOv1.get f = l.get f := by
  rw [Lane.dropOv1_of_off h off]
  exact Lane.get_put_of_disjoint (h.onLink _).wf _ ha hf (.inl hlo)

/-- Releasing OV1 ends the stage and turns the chopper off. -/
theorem Lane.dropOv1_effects {l : Lane} {i : LaneId} (h : l.Sound i) :
    l.dropOv1.link.ov1 = false ∧ l.dropOv1.get R.GD_VMSTAT_BCH = 0 := by
  unfold Lane.dropOv1
  extract_lets m
  have s : m.Sound i := (h.onLink _).put _ _
  have ended : m.link.ov1 = false := rfl
  clear_value m
  cases on : m.flag R.GD_VMSTAT_BCH
  · exact ⟨ended, Lane.get_of_flag_eq_false on⟩
  · have off : Lane.Near (allBut [362]) m m.chopperOff := Lane.chopperOff_near (by decide +kernel) (.refl _ s)
    exact ⟨(off.link.ov1 (by decide +kernel)).trans ended, (Lane.isClear_BCH_chopperOff s).zero⟩

/-! ### The commands of the chopper -/

/-- The chopper off and faulted, regeneration locked (R149). -/
def Lane.chopperFails (l : Lane) : Lane :=
  (((l.chopperOff.raise R.GD_VMSTAT_CHFLT).raise R.GD_LEVT_CHFLT).raise R.GD_VMSTAT_REGLOCK).raise R.GD_LEVT_REGLOCK

/-- What a lane shows whose chopper is faulted. -/
structure Lane.ChopperFailed (i : LaneId) (l : Lane) : Prop where
  sound : l.Sound i
  event : l.flag R.GD_LEVT_CHFLT = true
  lockEvent : l.flag R.GD_LEVT_REGLOCK = true
  off : l.get R.GD_VMSTAT_BCH = 0
  fault : l.get R.GD_VMSTAT_CHFLT = 1
  lock : l.get R.GD_VMSTAT_REGLOCK = 1

theorem Lane.chopperFailed_chopperFails {l : Lane} {i : LaneId} (h : l.Sound i) : l.chopperFails.ChopperFailed i := by
  have off := Lane.isClear_BCH_chopperOff h
  unfold Lane.chopperFails
  generalize l.chopperOff = k at off
  have s0 := off.sound
  have s1 := s0.raise R.GD_VMSTAT_CHFLT
  have s2 := s1.raise R.GD_LEVT_CHFLT
  have s3 := s2.raise R.GD_VMSTAT_REGLOCK
  have levt : R.GD_VMSTAT ≠ R.GD_LEVT := by decide
  have above {f : Fld} (ha : f.addr = R.GD_VMSTAT) (hlo : 21 ≤ f.lo) (hf : f.lo + f.width ≤ 32) :
      ((((k.raise R.GD_VMSTAT_CHFLT).raise R.GD_LEVT_CHFLT).raise R.GD_VMSTAT_REGLOCK).raise R.GD_LEVT_REGLOCK).get f =
        (k.raise R.GD_VMSTAT_CHFLT).get f :=
    calc _ = (((k.raise R.GD_VMSTAT_CHFLT).raise R.GD_LEVT_CHFLT).raise R.GD_VMSTAT_REGLOCK).get f :=
          Lane.get_raise_of_ne _ (ha ▸ levt)
      _ = ((k.raise R.GD_VMSTAT_CHFLT).raise R.GD_LEVT_CHFLT).get f := Lane.get_raise_of_disjoint s2.wf ha hf (.inl hlo)
      _ = (k.raise R.GD_VMSTAT_CHFLT).get f := Lane.get_raise_of_ne _ (ha ▸ levt)
  refine ⟨s3.raise _, ?event, Lane.flag_raise s3.wf _ (show 7 < 32 by decide) rfl, ?off, ?fault, ?lock⟩
  case event =>
    have near : Lane.Near (allBut [322]) ((k.raise R.GD_VMSTAT_CHFLT).raise R.GD_LEVT_CHFLT)
        ((((k.raise R.GD_VMSTAT_CHFLT).raise R.GD_LEVT_CHFLT).raise R.GD_VMSTAT_REGLOCK).raise R.GD_LEVT_REGLOCK) :=
      Lane.raise_near (inEvt ev_GD_LEVT (by decide +kernel)) rfl
        (Lane.raise_near (inReg at_GD_VMSTAT (by decide +kernel)).1 rfl (.refl _ s2))
    exact near.flag (by decide +kernel) is_GD_LEVT rfl (Lane.flag_raise s1.wf _ (show 4 < 32 by decide) rfl)
  case off =>
    rw [above rfl (by decide) (by decide)]
    exact (Lane.get_raise_of_disjoint (f := R.GD_VMSTAT_CHFLT) (g := R.GD_VMSTAT_BCH) s0.wf rfl (by decide)
      (by decide)).trans off.zero
  case fault =>
    rw [above rfl (by decide) (by decide)]
    exact Lane.get_raise s0.wf _ (show 23 < 32 by decide) rfl
  case lock =>
    exact (Lane.get_raise_of_ne _ levt).trans (Lane.get_raise s2.wf R.GD_VMSTAT_REGLOCK (show 20 < 32 by decide) rfl)

theorem Lane.ChopperFailed.dropOv1 {i : LaneId} {l : Lane} (h : l.ChopperFailed i) : l.dropOv1.ChopperFailed i := by
  have near : Lane.Near (allBut [322]) l l.dropOv1 := Lane.dropOv1_near (by decide +kernel) (.refl _ h.sound)
  exact ⟨near.place h.sound, near.flag (by decide +kernel) is_GD_LEVT rfl h.event,
    near.flag (by decide +kernel) is_GD_LEVT rfl h.lockEvent,
    (Lane.get_dropOv1_of_off h.sound h.off rfl (by decide) (by decide)).trans h.off,
    (Lane.get_dropOv1_of_off h.sound h.off rfl (by decide) (by decide)).trans h.fault,
    (Lane.get_dropOv1_of_off h.sound h.off rfl (by decide) (by decide)).trans h.lock⟩

theorem Lane.ChopperFailed.lookAll {i : LaneId} {l : Lane} (h : l.ChopperFailed i) : l.lookAll.ChopperFailed i := by
  have near : Lane.Near (allBut [139, 322]) l l.lookAll := Lane.lookAll_near (by decide +kernel) (.refl _ h.sound)
  have shown (f : Fld) (hf : f.addr = R.GD_VMSTAT) : l.lookAll.get f = l.get f :=
    near.keep (hf ▸ at_GD_VMSTAT.1) (by decide +kernel)
  exact ⟨near.place h.sound, near.flag (by decide +kernel) is_GD_LEVT rfl h.event,
    near.flag (by decide +kernel) is_GD_LEVT rfl h.lockEvent,
    (shown _ rfl).trans h.off, (shown _ rfl).trans h.fault, (shown _ rfl).trans h.lock⟩

/-- CHOPPER_FAULT (R149). -/
theorem does_chopperFault (e : At) (s : State) (hs : s.Powered e) :
    Does (.chopperFault e) s [.reg (R.DC_STAT 0), .reg (R.DC_EVT 0),
    .reg (R.DC_CNT 0), .reg (R.GD_STAT 0), .reg (R.GD_EVT 0), .reg (R.GD_CNT1 0), .reg R.GD_VMSTAT, .reg R.GD_LEVT,
    .reg R.GD_CHON, .axUs, .axSw, .axLeak, .link] fun l m =>
      (l.link.bchOnAt = none → m = l) ∧ (l.flag R.GD_VMSTAT_BCH = false → m = l) ∧
      (∀ t, l.link.bchOnAt = some t → l.flag R.GD_VMSTAT_BCH = true → t + us 2 ≤ l.now →
        m.flag R.GD_LEVT_CHFLT = true ∧ m.flag R.GD_LEVT_REGLOCK = true ∧ m.get R.GD_VMSTAT_BCH = 0 ∧
        m.get R.GD_VMSTAT_CHFLT = 1 ∧ m.get R.GD_VMSTAT_REGLOCK = 1) := by
  refine does_power hs rfl execChopperFault_event rfl (by decide +kernel) fun h => ?_
  generalize s.before (.chopperFault e) = l at h
  cases ht : l.link.bchOnAt with
  | none => exact ⟨fun _ => rfl, fun _ => rfl, nofun⟩
  | some t =>
    dsimp only
    refine ⟨nofun, fun off => if_neg fun g => ?_, fun t' same on late => ?_⟩
    · rw [off] at g
      cases g.1
    · cases same
      rw [if_pos ⟨on, decide_eq_true late⟩]
      have failed := Lane.chopperFailed_chopperFails h
      have released : (if l.chopperFails.link.releaseHeld then l.chopperFails.dropOv1 else l.chopperFails).ChopperFailed
          e.lane := by
        split
        · exact failed.dropOv1
        · exact failed
      obtain ⟨-, event, lockEvent, off, fault, lock⟩ := released.lookAll
      exact ⟨event, lockEvent, off, fault, lock⟩

/-- Taking every set of the lane out leaves none in service. -/
theorem Lane.inService_allAxes_setOut {l : Lane} {i : LaneId} (h : l.Sound i) (n : Axis) :
    (l.allAxes fun l n => l.setOut n).Sound i ∧ (l.allAxes fun l n => l.setOut n).inService n = false := by
  have sound {m : Lane} (g : m.Sound i) (k : Axis) : (m.setOut k).Sound i :=
    (Lane.setOut_near (M := allBut []) (by decide +kernel) (.refl _ g)).place g
  have out {m : Lane} (g : m.Sound i) (k : Axis) : (m.setOut k).IsOut i k :=
    ⟨sound g k, Lane.axst_of_not_inService (by rw [Lane.inService_setOut g k]; exact Bool.false_ne_true)⟩
  have keep {m : Lane} {k : Axis} (g : m.IsOut i k) (j : Axis) : (m.setOut j).IsOut i k := by
    unfold Lane.setOut
    split
    · exact (g.setOff j).judgeSets
    · exact g
  have s1 := sound h 0
  have s2 := sound s1 1
  have s3 := sound s2 2
  refine ⟨sound s3 3, Lane.inService_of_isOut (i := i) ?_⟩
  show Lane.IsOut i n ((((l.setOut 0).setOut 1).setOut 2).setOut 3)
  match n with
  | 0 => exact keep (keep (keep (out h 0) 1) 2) 3
  | 1 => exact keep (keep (out s1 1) 2) 3
  | 2 => exact keep (out s2 2) 3
  | 3 => exact out s3 3

/-- STUCK_CHOPPER (R150). -/
theorem does_stuckChopper (e : At) (held : Nat) (s : State) (hs : s.Powered e) :
    Does (.stuckChopper ⟨e, held⟩) s (setOutParts ++ [.reg R.GD_VMSTAT, .reg R.GD_LEVT]) fun l m =>
      (l.flag R.GD_VMSTAT_BCH = true → m = l) ∧ (held < 10 → m = l) ∧ (l.now ≤ l.link.bchOffAt + us 2 → m = l) ∧
      (10 ≤ held → l.flag R.GD_VMSTAT_BCH = false → l.link.bchOffAt + us 2 < l.now →
        m.flag R.GD_LEVT_STUCK = true ∧ m.get R.GD_VMSTAT_STUCK = 1 ∧ ∀ n : Axis, m.inService n = false) := by
  refine does_power hs rfl execStuckChopper_event rfl (by decide +kernel) fun h => ?_
  generalize s.before (.stuckChopper ⟨e, held⟩) = l at h
  refine ⟨fun on => if_neg fun g => ?_, fun short => if_neg fun g => ?_, fun early => if_neg fun g => ?_,
    fun long off late => ?_⟩
  · rw [on] at g
    cases g.2.1
  · exact absurd g.1 (Nat.not_le_of_lt short)
  · exact absurd g.2.2 (Nat.not_lt_of_le early)
  · rw [if_pos ⟨long, by rw [off]; rfl, late⟩]
    have s1 := h.raise R.GD_VMSTAT_BCS
    have s2 := s1.raise R.GD_VMSTAT_STUCK
    have s3 := s2.raise R.GD_LEVT_STUCK
    have stuck : (((l.raise R.GD_VMSTAT_BCS).raise R.GD_VMSTAT_STUCK).raise R.GD_LEVT_STUCK).get R.GD_VMSTAT_STUCK = 1 :=
      (Lane.get_raise_of_ne _ (show R.GD_VMSTAT ≠ R.GD_LEVT by decide)).trans (Lane.get_raise s1.wf _ (by decide) rfl)
    have event := Lane.flag_raise s2.wf R.GD_LEVT_STUCK (show 5 < 32 by decide) rfl
    generalize ((l.raise R.GD_VMSTAT_BCS).raise R.GD_VMSTAT_STUCK).raise R.GD_LEVT_STUCK = k at s3 stuck event
    have near : Lane.Near (allBut [139, 322]) k (k.allAxes fun l n => l.setOut n).koSettle :=
      Lane.koSettle_near (by decide +kernel)
        (Lane.allAxes_near (.refl _ s3) fun _ _ g => Lane.setOut_near (by decide +kernel) g)
    refine ⟨near.flag (by decide +kernel) is_GD_LEVT rfl event,
      (near.keep at_GD_VMSTAT.1 (by decide +kernel)).trans stuck, fun n => ?_⟩
    obtain ⟨sound, out⟩ := Lane.inService_allAxes_setOut s3 n
    have settled : Lane.Near (allBut [89]) _ (k.allAxes fun l n => l.setOut n).koSettle :=
      Lane.koSettle_near (by decide +kernel) (.refl _ sound)
    unfold Lane.inService
    rw [settled.axst (by decide +kernel)]
    exact out

/-- CHOPPER_MIN_ON_END (R151). -/
theorem does_chopperMinOnEnd (e : At) (s : State) (hs : s.Powered e) :
    Does (.chopperMinOnEnd e) s [.reg R.GD_VMSTAT, .reg R.GD_CHON, .link] fun l m =>
      (l.flag R.GD_VMSTAT_BCH = false → m = l) ∧ (l.minOnRuns = true → m = l) ∧
      (l.flag R.GD_VMSTAT_BCH = true → l.minOnRuns = false → l.link.releaseHeld = false → m = l.raise R.GD_VMSTAT_BCS) ∧
      (l.flag R.GD_VMSTAT_BCH = true → l.minOnRuns = false → l.link.releaseHeld = true →
        m.link.ov1 = false ∧ m.get R.GD_VMSTAT_BCH = 0) := by
  refine does_power hs rfl execChopperMinOnEnd_event rfl (by decide +kernel) fun h => ?_
  generalize s.before (.chopperMinOnEnd e) = l at h
  have ended (on : l.flag R.GD_VMSTAT_BCH = true) (runs : l.minOnRuns = false) :
      l.flag R.GD_VMSTAT_BCH = true ∧ (!l.minOnRuns) = true := ⟨on, by rw [runs]; rfl⟩
  refine ⟨fun off => if_neg fun g => ?_, fun runs => if_neg fun g => ?_, fun on runs keeps => ?_,
    fun on runs released => ?_⟩
  · rw [off] at g
    cases g.1
  · rw [runs] at g
    cases g.2
  · rw [if_pos (ended on runs)]
    exact if_neg fun g => by cases keeps.symm.trans g
  · rw [if_pos (ended on runs)]
    dsimp only
    rw [if_pos (show (l.raise R.GD_VMSTAT_BCS).link.releaseHeld = true from released)]
    exact Lane.dropOv1_effects (h.raise _)

/-- CHOPPER_INTERVAL_END (R151). -/
theorem does_chopperIntervalEnd (e : At) (s : State) (hs : s.Powered e) :
    Does (.chopperIntervalEnd e) s [.reg R.GD_VMSTAT, .link] fun l m =>
      (l.link.bchHeld = false → m = l) ∧ (l.link.ov1 = false → m = l) ∧
      (∀ t, l.link.bchOnAt = some t → t + us 20 ≤ l.now → l.link.bchHeld = true → l.link.ov1 = true →
        l.chopperUsable = true → m.get R.GD_VMSTAT_BCH = 1) := by
  refine does_power hs rfl execChopperIntervalEnd_event rfl (by decide +kernel) fun h => ?_
  generalize s.before (.chopperIntervalEnd e) = l at h
  cases ht : l.link.bchOnAt with
  | none => exact ⟨fun _ => rfl, fun _ => rfl, nofun⟩
  | some t =>
    dsimp only
    refine ⟨fun free => if_neg fun g => ?_, fun ended => if_neg fun g => ?_, fun t' same late held stage usable => ?_⟩
    · rw [free] at g
      cases g.1
    · rw [ended] at g
      cases g.2.1
    · cases same
      rw [if_pos ⟨held, stage, decide_eq_true late, usable⟩]
      exact Lane.get_BCH_chopperOn h

/-- Settles O27, command by command. -/
theorem chopper : Obligations.Chopper := by
  unfold Obligations.Chopper
  exact ⟨does_chopperFault, does_stuckChopper, does_chopperMinOnEnd, does_chopperIntervalEnd⟩

end Sys2Proof.Machine

/-!
PROOFS. GIN_CHANGE: what the pins of a PE or PS bridge request, and what becomes of it (R113, R114, R117).
-/

namespace Sys2Proof.Machine

-- one declaration at a time: each waits for the kernel, and a waiting one holds a thread and its stack
set_option Elab.async false

/-! ### Masks of switches and half-bridges -/

@[simp] theorem getLsbD_bits6 (p : Switch → Bool) (j : Switch) : (bits6 p).getLsbD j.val = p j := by
  unfold bits6
  rw [BitVec.getLsbD_ofBoolListLE]
  fin_cases j <;> rfl

@[simp] theorem getLsbD_bits3 (p : Phase → Bool) (j : Phase) : (bits3 p).getLsbD j.val = p j := by
  unfold bits3
  rw [BitVec.getLsbD_ofBoolListLE]
  fin_cases j <;> rfl

/-- A mask of switches has the bits of the field it is read from. -/
theorem getLsbD_ofNat_six (v : Nat) (j : Switch) : (BitVec.ofNat 6 v).getLsbD j.val = v.testBit j.val := by
  rw [BitVec.getLsbD_ofNat, decide_eq_true j.isLt, Bool.true_and]

@[simp] theorem phaseOf_highOf (p : Phase) : phaseOf (highOf p) = p := by
  fin_cases p <;> rfl

@[simp] theorem phaseOf_lowOf (p : Phase) : phaseOf (lowOf p) = p := by
  fin_cases p <;> rfl

/-! ### What the gate drivers leave of a request -/

theorem Lane.sw_setOn (l : Lane) (n : Axis) (w : BitVec 6) : ((l.setOn n w).ax n).sw = (l.ax n).sw := by
  unfold Lane.setOn
  split
  · rfl
  · rw [Lane.ax_onAx_self]
    dsimp only
    rw [Lane.ax_put]

/-- Following the demands changes what stands at the gate drivers and keeps the request. -/
theorem Lane.want_settle {l : Lane} {i : LaneId} (h : l.Sound i) (n : Axis) : ((l.settle n).ax n).sw.want = (l.ax n).sw.want := by
  unfold Lane.settle
  extract_lets cmd old high m
  have near : Lane.Near (allBut [330]) l m := Lane.near_ite (Lane.leakAbort_near (by decide +kernel) (.refl _ h))
    (Lane.leakAbortOf_near (by decide +kernel) (.refl _ h))
  rw [Lane.ax_onAx_self]
  show ((m.setOn n _).ax n).sw.want = _
  rw [Lane.sw_setOn]
  exact congrArg Switches.want ((near.axes n).sw (by decide +kernel))

/-- The parts that say which demand of rank 3 acts: DC_STAT, GD_CFG, the understudy's estimate word and the stages OV2 and
OV3. -/
def rank3Kept : List Nat := [89, 124, 328, 363, 364]

theorem Lane.internal_of_near {M : Nat} {l m : Lane} (h : Lane.Near M l m) (hM : M.testBit 124 = false) (n : Axis) :
    m.internal n = l.internal n := by
  unfold Lane.internal
  rw [h.keep (at_GD_CFG n.isLt).1 hM]

theorem Lane.rank3_of_near {l m : Lane} (h : Lane.Near (allBut rank3Kept) l m) (n : Axis) : m.rank3 n = l.rank3 n := by
  have us : (m.ax n).us = (l.ax n).us := (h.axes n).us (by decide +kernel)
  unfold Lane.rank3 Lane.atSpeed
  rw [h.axst (by decide +kernel), Lane.internal_of_near h (by decide +kernel), h.link.ov2 (by decide +kernel),
    h.link.ov3 (by decide +kernel), us, h.now]

theorem Lane.rateOkAt_of_near {l m : Lane} (h : Lane.Near (allBut [114, 330]) l m) (n : Axis) (j : Switch) (t : Nat) :
    m.rateOkAt n j t = l.rateOkAt n j t := by
  have sw : (m.ax n).sw = (l.ax n).sw := (h.axes n).sw (by decide +kernel)
  unfold Lane.rateOkAt
  rw [sw, h.keep (f := R.DC_LIMITS_RATEMAX n) (at_DC_LIMITS n.isLt).1 (by decide +kernel)]

theorem Lane.rateOk_of_near {l m : Lane} (h : Lane.Near (allBut [114, 330]) l m) (n : Axis) (j : Switch) :
    m.rateOk n j = l.rateOk n j := by
  unfold Lane.rateOk
  rw [h.now]
  exact Lane.rateOkAt_of_near h n j l.now

/-- Without a demand of rank 3 a bridge of the pins turns on what is requested and stands already or keeps the rate limits;
under one the request waits (R91, R117). -/
theorem Lane.want_ginApply {l : Lane} {i : LaneId} (h : l.Sound i) (n : Axis) :
    (l.rank3 n = none → ∀ j : Switch, ((l.ginApply n).ax n).sw.want.getLsbD j.val =
      ((l.ginRequest n).getLsbD j.val && ((l.ax n).sw.want.getLsbD j.val || l.rateOk n j))) ∧
    (l.rank3 n ≠ none → ((l.ginApply n).ax n).sw.want = (l.ax n).sw.want) := by
  unfold Lane.ginApply
  refine ⟨fun free j => ?_, fun acts => ?_⟩
  · rw [if_neg (by rw [free]; exact Bool.false_ne_true)]
    extract_lets w hold
    have held : Lane.Near (allBut []) l (l.holdGin n hold) := Lane.holdGin_near (by decide +kernel) (.refl _ h)
    have asked : ((l.holdGin n hold).setWant n (w &&& ~~~hold)).Sound i := (held.place h).onAx n _
    rw [Lane.want_settle asked, Lane.setWant, Lane.ax_onAx_self]
    show (w &&& ~~~hold).getLsbD j.val = _
    rw [BitVec.getLsbD_and, BitVec.getLsbD_not, getLsbD_bits6, decide_eq_true j.isLt]
    cases w.getLsbD j.val <;> cases (l.ax n).sw.want.getLsbD j.val <;> cases l.rateOk n j <;> rfl
  · rw [if_pos (Option.isSome_iff_ne_none.2 acts)]
    exact Lane.want_settle h n

/-! ### The request of the pins -/

theorem Lane.ginRequest_congr {l m : Lane} {n : Axis} (source : m.get (R.GD_CFG_SRC n) = l.get (R.GD_CFG_SRC n))
    (levels : m.get (R.GD_GIN_LEVEL n) = l.get (R.GD_GIN_LEVEL n)) : m.ginRequest n = l.ginRequest n := by
  unfold Lane.ginRequest
  rw [source, levels]

/-- A PE bridge: the low pin enables a half-bridge and the high pin says which switch (R113). -/
theorem Lane.ginRequest_of_pe {l : Lane} {n : Axis} {levels : BitVec 6} (source : l.get (R.GD_CFG_SRC n) = 1)
    (pins : l.get (R.GD_GIN_LEVEL n) = levels.toNat) (p : Phase) :
    (l.ginRequest n).getLsbD (highOf p).val = (levels.getLsbD (lowOf p).val && levels.getLsbD (highOf p).val) ∧
    (l.ginRequest n).getLsbD (lowOf p).val = (levels.getLsbD (lowOf p).val && !levels.getLsbD (highOf p).val) := by
  have high : (highOf p).val % 2 = 0 := by
    show 2 * p.val % 2 = 0
    omega
  have low : (lowOf p).val % 2 = 1 := by
    show (2 * p.val + 1) % 2 = 1
    omega
  have same : BitVec.ofNat 6 levels.toNat = levels := (BitVec.ofNat_toNat 6 levels).trans (BitVec.setWidth_eq levels)
  unfold Lane.ginRequest
  rw [source, pins, same]
  dsimp only
  rw [if_pos rfl, getLsbD_bits6, getLsbD_bits6, phaseOf_highOf, phaseOf_lowOf, high, low]
  constructor
  · cases levels.getLsbD (highOf p).val <;> rfl
  · cases levels.getLsbD (highOf p).val <;> rfl

/-- A half-bridge for which both switches are newly requested raises GINBOTH (R114). -/
theorem Lane.flag_GINBOTH_ginBoth {l : Lane} {i : LaneId} (h : l.Sound i) {n : Axis} {old levels : BitVec 6} {p : Phase}
    (source : l.get (R.GD_CFG_SRC n) = 2) (high : levels.getLsbD (highOf p).val = true)
    (low : levels.getLsbD (lowOf p).val = true)
    (new : old.getLsbD (highOf p).val = false ∨ old.getLsbD (lowOf p).val = false) :
    (l.ginBoth n old levels).flag (R.GD_EVT_GINBOTH n) = true := by
  unfold Lane.ginBoth
  extract_lets both k
  have counts : k ≠ 0 := by
    have now : both levels p = true := by
      show (_ && _) = true
      rw [high, low]
      rfl
    have before : both old p = false := by
      show (_ && _) = false
      rcases new with e | e <;> rw [e]
      · rfl
      · exact Bool.and_false _
    have listed : p ∈ ([0, 1, 2] : List Phase) := by fin_cases p <;> simp
    refine List.length_pos_iff.2 (List.ne_nil_of_mem (List.mem_filter.2 ⟨listed, ?_⟩)) |>.ne'
    rw [now, before]
    rfl
  rw [if_pos ⟨source, counts⟩]
  have counted : Lane.Near (allBut [322]) (l.raise (R.GD_EVT_GINBOTH n))
      ((l.raise (R.GD_EVT_GINBOTH n)).addTo (R.GD_CNT1_GINBOTH n) k) :=
    Lane.put_near (inReg (at_GD_CNT1 n.isLt) (by decide +kernel)) (.refl _ (h.raise _))
  exact counted.flag (by decide +kernel) (is_GD_EVT n.isLt) rfl (Lane.flag_raise h.wf _ (show 12 < 32 by decide) rfl)

/-- GIN_CHANGE (R113). -/
theorem does_ginChange (e : At) (n : Axis) (levels : BitVec 6) (s : State) (hs : s.Powered e) :
    Does (.ginChange e n levels) s [.reg (R.GD_STAT 0), .reg (R.GD_EVT 0), .reg (R.GD_CNT1 0), .reg (R.GD_GIN 0),
    .axUs, .axSw, .axLeak] fun l m =>
      m.get (R.GD_GIN_LEVEL n) = levels.toNat ∧ (l.internal n = true → m = l.put (R.GD_GIN_LEVEL n) levels.toNat) ∧
      (∀ p, l.get (R.GD_CFG_SRC n) = 2 → levels.getLsbD (highOf p).val = true → levels.getLsbD (lowOf p).val = true →
        (l.bit (R.GD_GIN_LEVEL n) (highOf p).val = false ∨ l.bit (R.GD_GIN_LEVEL n) (lowOf p).val = false) →
        m.flag (R.GD_EVT_GINBOTH n) = true) ∧
      (∀ p, l.get (R.GD_CFG_SRC n) = 1 →
        (levels.getLsbD (lowOf p).val = false →
          (m.ginRequest n).getLsbD (highOf p).val = false ∧ (m.ginRequest n).getLsbD (lowOf p).val = false) ∧
        (levels.getLsbD (lowOf p).val = true → levels.getLsbD (highOf p).val = true →
          (m.ginRequest n).getLsbD (highOf p).val = true ∧ (m.ginRequest n).getLsbD (lowOf p).val = false) ∧
        (levels.getLsbD (lowOf p).val = true → levels.getLsbD (highOf p).val = false →
          (m.ginRequest n).getLsbD (highOf p).val = false ∧ (m.ginRequest n).getLsbD (lowOf p).val = true)) ∧
      (l.internal n = false → l.rank3 n = none → ∀ j : Switch, (m.ax n).sw.want.getLsbD j.val =
        ((m.ginRequest n).getLsbD j.val && ((l.ax n).sw.want.getLsbD j.val || l.rateOk n j))) ∧
      (l.internal n = false → l.rank3 n ≠ none → (m.ax n).sw.want = (l.ax n).sw.want) := by
  refine does_power hs rfl execGinChange_event rfl (by decide +kernel) fun h => ?_
  generalize s.before (.ginChange e n levels) = l at h
  extract_lets old shown
  -- the pins are shown, GINBOTH is judged, and where the pins drive the bridge the request follows
  have n1 : Lane.Near (2 ^ 138) l shown := Lane.put_near (inReg (at_GD_GIN n.isLt) (by decide +kernel)) (.refl _ h)
  have s1 : shown.Sound e.lane := n1.place h
  have n2 : Lane.Near (2 ^ 131 ||| 2 ^ 133) shown (shown.ginBoth n old levels) :=
    Lane.ginBoth_near (by decide +kernel) (.refl _ s1)
  have s2 := n2.place s1
  have n12 : Lane.Near (2 ^ 131 ||| 2 ^ 133 ||| 2 ^ 138) l (shown.ginBoth n old levels) :=
    (n1.mono (by decide +kernel)).trans (n2.mono (by decide +kernel))
  have n3 : Lane.Near (allBut [124, 138, 322]) (shown.ginBoth n old levels) ((shown.ginBoth n old levels).ginApply n) :=
    Lane.ginApply_near (by decide +kernel) (.refl _ s2)
  have source : shown.internal n = l.internal n := Lane.internal_of_near n1 (by decide +kernel) n
  have pins : shown.get (R.GD_GIN_LEVEL n) = levels.toNat :=
    (Lane.get_put h.wf _ _ (show 0 + 6 ≤ 32 by decide)).trans (Nat.mod_eq_of_lt levels.isLt)
  have pins2 : (shown.ginBoth n old levels).get (R.GD_GIN_LEVEL n) = levels.toNat :=
    (n2.keep (at_GD_GIN n.isLt).1 (by decide +kernel)).trans pins
  have pins3 := (n3.keep (f := R.GD_GIN_LEVEL n) (at_GD_GIN n.isLt).1 (by decide +kernel)).trans pins2
  have config2 : (shown.ginBoth n old levels).get (R.GD_CFG_SRC n) = l.get (R.GD_CFG_SRC n) :=
    n12.keep (at_GD_CFG n.isLt).1 (by decide +kernel)
  have config3 := (n3.keep (f := R.GD_CFG_SRC n) (at_GD_CFG n.isLt).1 (by decide +kernel)).trans config2
  have rank3 : (shown.ginBoth n old levels).rank3 n = l.rank3 n := Lane.rank3_of_near (n12.mono (by decide +kernel)) n
  have sw : ((shown.ginBoth n old levels).ax n).sw = (l.ax n).sw := (n12.axes n).sw (by decide +kernel)
  have driven (src : l.get (R.GD_CFG_SRC n) ≠ 0) : ¬shown.internal n = true := by
    rw [source]
    exact fun g => src (eq_of_beq g)
  refine ⟨?_, fun inner => if_pos (source.trans inner), fun p src high low new => ?_, fun p src => ?_,
    fun outer free j => ?_, fun outer acts => ?_⟩
  · split
    · exact pins
    · exact pins3
  · rw [if_neg (driven (by rw [src]; decide))]
    have before : old.getLsbD (highOf p).val = false ∨ old.getLsbD (lowOf p).val = false := by
      rw [getLsbD_ofNat_six, getLsbD_ofNat_six]
      exact new
    have both := Lane.flag_GINBOTH_ginBoth s1 ((n1.keep (at_GD_CFG n.isLt).1 (by decide +kernel)).trans src) high low before
    exact n3.flag (by decide +kernel) (is_GD_EVT n.isLt) rfl both
  · rw [if_neg (driven (by rw [src]; decide))]
    obtain ⟨high, low⟩ := Lane.ginRequest_of_pe (config3.trans src) pins3 p
    rw [high, low]
    refine ⟨fun e => ?_, fun e e' => ?_, fun e e' => ?_⟩
    · rw [e]
      exact ⟨rfl, rfl⟩
    · rw [e, e']
      exact ⟨rfl, rfl⟩
    · rw [e, e']
      exact ⟨rfl, rfl⟩
  · rw [if_neg (by rw [source, outer]; exact Bool.false_ne_true), (Lane.want_ginApply s2 n).1 (rank3.trans free) j,
      Lane.ginRequest_congr (config3.trans config2.symm) (pins3.trans pins2.symm), sw,
      Lane.rateOk_of_near (n12.mono (by decide +kernel))]
  · rw [if_neg (by rw [source, outer]; exact Bool.false_ne_true), (Lane.want_ginApply s2 n).2 (rank3 ▸ acts), sw]

/-- Settles O23. -/
theorem directInputs : Obligations.DirectInputs := by
  unfold Obligations.DirectInputs
  exact does_ginChange

end Sys2Proof.Machine

/-!
PROOFS. What a bridge keeps while it only turns switches off: the relation that the gate drivers following, a set going out
of service, and GHOST LIGHT keep to; and what becomes of an axis whose unavailable switches change.
-/

namespace Sys2Proof.Machine

-- one declaration at a time: each waits for the kernel, and a waiting one holds a thread and its stack
set_option Elab.async false

/-! ### Parts of an axis -/

theorem Lane.ax_onAx_of_ne (l : Lane) {k n : Axis} (h : k ≠ n) (f : AxisState → AxisState) : (l.onAx k f).ax n = l.ax n :=
  Vector.getElem_set_ne k.isLt n.isLt fun e => h (Fin.ext e)

theorem Lane.ax_raise (l : Lane) (f : Fld) (n : Axis) : (l.raise f).ax n = l.ax n := l.ax_put f 1 n

/-- What an update keeps of an axis it keeps of every axis. -/
theorem Lane.part_onAx {α : Type} (g : AxisState → α) {f : AxisState → AxisState} {l : Lane} {k : Axis}
    (hf : g (f (l.ax k)) = g (l.ax k)) (n : Axis) : g ((l.onAx k f).ax n) = g (l.ax n) := by
  by_cases hk : k = n
  · subst hk
    rw [Lane.ax_onAx_self, hf]
  · rw [Lane.ax_onAx_of_ne _ hk]

/-- Switches told to the power die change the understudy's record alone. -/
theorem Lane.part_setOn {α : Type} (g : AxisState → α) (hg : ∀ a u, g { a with us := u } = g a) (l : Lane) (k n : Axis)
    (w : BitVec 6) : g ((l.setOn k w).ax n) = g (l.ax n) := by
  unfold Lane.setOn
  split
  · rfl
  · rw [Lane.part_onAx g (hg _ _), Lane.ax_put]

/-- The running checks after some are aborted are among those before. -/
theorem Lane.running_leakAbortOf {l : Lane} {k n : Axis} {p : Switch → Bool} {x : Switch × Nat}
    (h : x ∈ ((l.leakAbortOf k p).ax n).leak.running) : x ∈ (l.ax n).leak.running := by
  unfold Lane.leakAbortOf at h
  split at h
  · rw [Lane.ax_raise] at h
    by_cases hk : k = n
    · subst hk
      rw [Lane.ax_onAx_self] at h
      exact List.mem_of_mem_filter h
    · rwa [Lane.ax_onAx_of_ne _ hk] at h
  · exact h

theorem Lane.running_settle {l : Lane} {k n : Axis} {x : Switch × Nat} (h : x ∈ ((l.settle k).ax n).leak.running) :
    x ∈ (l.ax n).leak.running := by
  unfold Lane.settle at h
  extract_lets cmd old high m at h
  rw [Lane.part_onAx (fun a => a.leak.running) rfl, Lane.part_setOn (fun a => a.leak.running) fun _ _ => rfl] at h
  unfold m at h
  split at h
  · exact Lane.running_leakAbortOf h
  · exact Lane.running_leakAbortOf h

/-- The fields of GD_STAT past the switches that are on stay while the gate drivers follow. -/
theorem Lane.get_mask_settle {l : Lane} {i : LaneId} (h : l.Sound i) (k : Axis) {f : Fld} {n : Axis}
    (ha : f.addr = R.GD_STAT n) (hlo : 6 ≤ f.lo) (hf : f.lo + f.width ≤ 32) : (l.settle k).get f = l.get f := by
  obtain ⟨m, sw, near, e⟩ := l.settle_eq h k
  have told (w : BitVec 6) : (m.setOn k w).get f = m.get f := by
    unfold Lane.setOn
    split
    · rfl
    · rw [Lane.get_onAx]
      by_cases hk : f.addr = R.GD_STAT k
      · exact Lane.get_put_of_disjoint near.regsWf _ hk hf (.inl hlo)
      · exact Lane.get_put_of_ne _ _ hk
  rw [e, Lane.get_onAx, told]
  exact near.keep (ha ▸ (at_GD_STAT n.isLt).1) (by decide +kernel)

/-! ### A bridge that only turns switches off -/

/-- The refresh of an axis but for its precharge. -/
def Refresh.idle (r : Refresh) : Refresh := { r with precharge := none }

/-- From `l` to `m` no switch of bridge `n` turns on and no hold-release check of it begins; its refresh stays but for the
precharge, and so do the fields of GD_STAT from bit `b` on, which lies past the switches that are on. -/
structure Lane.Rests (i : LaneId) (n : Axis) (b : Nat) (l m : Lane) : Prop where
  low : 6 ≤ b
  sound : m.Sound i
  on : ∀ j : Switch, (m.on n).getLsbD j.val = true → (l.on n).getLsbD j.val = true
  masks : ∀ f : Fld, f.addr = R.GD_STAT n → b ≤ f.lo → f.lo + f.width ≤ 32 → m.get f = l.get f
  checks : ∀ x ∈ (m.ax n).leak.running, x ∈ (l.ax n).leak.running
  refresh : (m.ax n).refresh.idle = (l.ax n).refresh.idle

/-- GD_STAT, the refresh and the hold-release checks. -/
def bridgeKept : List Nat := [129, 332, 333]

namespace Lane.Rests

variable {i : LaneId} {n : Axis} {b : Nat} {l m : Lane}

theorem refl (hb : 6 ≤ b) (h : l.Sound i) : l.Rests i n b l :=
  ⟨hb, h, fun _ g => g, fun _ _ _ _ => rfl, fun _ g => g, rfl⟩

theorem trans {k : Lane} (h : l.Rests i n b m) (g : m.Rests i n b k) : l.Rests i n b k :=
  ⟨h.low, g.sound, fun j q => h.on j (g.on j q), fun f ha hb hf => (g.masks f ha hb hf).trans (h.masks f ha hb hf),
    fun x q => h.checks x (g.checks x q), g.refresh.trans h.refresh⟩

theorem mono {c : Nat} (h : l.Rests i n b m) (hc : b ≤ c) : l.Rests i n c m :=
  ⟨h.low.trans hc, h.sound, h.on, fun f ha hb hf => h.masks f ha (hc.trans hb) hf, h.checks, h.refresh⟩

/-- A switch off before is off after. -/
theorem off (h : l.Rests i n b m) {j : Switch} (hj : (l.on n).getLsbD j.val = false) : (m.on n).getLsbD j.val = false :=
  Bool.eq_false_iff.2 fun g => by cases hj.symm.trans (h.on j g)

/-- A step that leaves GD_STAT, the refresh and the checks alone. -/
theorem step {k : Lane} (h : l.Rests i n b m) (g : Lane.Near (allBut bridgeKept) m k) : l.Rests i n b k where
  low := h.low
  sound := g.place h.sound
  on j q := h.on j (g.on (by decide +kernel) n ▸ q)
  masks f ha hb hf := (g.keep (ha ▸ (at_GD_STAT n.isLt).1) (by decide +kernel)).trans (h.masks f ha hb hf)
  checks x q := h.checks x ((g.axes n).leak (by decide +kernel) ▸ q)
  refresh := (congrArg Refresh.idle ((g.axes n).refresh (by decide +kernel))).trans h.refresh

/-- An update of an axis that leaves its checks and its refresh but for the precharge. -/
theorem onAx (h : l.Rests i n b m) (k : Axis) {f : AxisState → AxisState} (leak : (f (m.ax k)).leak = (m.ax k).leak)
    (refresh : (f (m.ax k)).refresh.idle = (m.ax k).refresh.idle) : l.Rests i n b (m.onAx k f) where
  low := h.low
  sound := h.sound.onAx k f
  on := h.on
  masks := h.masks
  checks x q := h.checks x (Lane.part_onAx AxisState.leak leak n ▸ q)
  refresh := (Lane.part_onAx (fun a => a.refresh.idle) refresh n).trans h.refresh

theorem settle (h : l.Rests i n b m) (k : Axis) : l.Rests i n b (m.settle k) where
  low := h.low
  sound := (Lane.settle_near (M := allBut []) (by decide +kernel) (.refl _ h.sound)).place h.sound
  on j q := by
    by_cases hk : n = k
    · subst hk
      rw [Lane.on_settle h.sound, BitVec.getLsbD_and, Bool.and_eq_true] at q
      exact h.on j q.1
    · rw [Lane.on_settle_of_ne h.sound hk] at q
      exact h.on j q
  masks f ha hb hf := (Lane.get_mask_settle h.sound k ha (h.low.trans hb) hf).trans (h.masks f ha hb hf)
  checks x q := h.checks x (Lane.running_settle q)
  refresh := by
    have near : Lane.Near (allBut [332]) m (m.settle k) := Lane.settle_near (by decide +kernel) (.refl _ h.sound)
    exact (congrArg Refresh.idle ((near.axes n).refresh (by decide +kernel))).trans h.refresh

/-- A request that the gate drivers follow. -/
theorem follows {k : Axis} {q : Lane} (h : l.Rests i n b m) (g : Lane.Follows k m q) : l.Rests i n b q := by
  obtain ⟨a, asks, rfl⟩ := g
  exact (h.step (asks.near.mono (by decide +kernel))).settle k

theorem release (h : l.Rests i n b m) (k : Axis) : l.Rests i n b (m.release k) := h.follows (Lane.release_follows h.sound k)

/-- A field of GD_STAT below bit `b` and past the switches that are on. -/
theorem putMask (h : l.Rests i n b m) {g : Fld} (v : Nat) (hlo : 6 ≤ g.lo)
    (hg : g.lo + g.width ≤ b) : l.Rests i n b (m.put g v) where
  low := h.low
  sound := h.sound.put g v
  on j q := by
    have same : (m.put g v).get (R.GD_STAT_ON n) = m.get (R.GD_STAT_ON n) := by
      by_cases hn : R.GD_STAT n = g.addr
      · exact Lane.get_put_of_disjoint h.sound.wf v hn (show 0 + 6 ≤ 32 by decide) (.inr (show 0 + 6 ≤ g.lo from hlo))
      · exact Lane.get_put_of_ne _ _ hn
    unfold Lane.on at q
    rw [same] at q
    exact h.on j q
  masks f hf hb hw := by
    refine Eq.trans ?_ (h.masks f hf hb hw)
    by_cases hn : f.addr = g.addr
    · exact Lane.get_put_of_disjoint h.sound.wf v hn hw (.inl (hg.trans hb))
    · exact Lane.get_put_of_ne _ _ hn
  checks x q := h.checks x (Lane.ax_put m g v n ▸ q)
  refresh := (congrArg (·.refresh.idle) (Lane.ax_put m g v n)).trans h.refresh

/-! ### A set out of service, and GHOST LIGHT -/

theorem setOff (h : l.Rests i n b m) (k : Axis) : l.Rests i n b (m.setOff k) := by
  unfold Lane.setOff
  extract_lets q
  have let_go : l.Rests i n b q := h.onAx k rfl rfl
  refine Rests.release (let_go.step ?_) k
  exact Lane.drop_near (inReg (at_DC_STAT k.isLt) (by decide +kernel))
    (Lane.raise_near (inEvt (ev_DC_EVT k.isLt) (by decide +kernel)) rfl
      (Lane.setAxst_near (by decide +kernel) (.refl _ let_go.sound)))

theorem letGo (h : l.Rests i n b m) (k : Axis) : l.Rests i n b (m.letGo k) := by
  unfold Lane.letGo
  extract_lets l1 l2 l3
  have h1 : l.Rests i n b l1 := h.step (Lane.when_near (.refl _ h.sound) fun _ g =>
    Lane.drop_near (inReg (at_DC_LASTX k.isLt) (by decide +kernel)) g)
  have h2 : l.Rests i n b l2 := h1.onAx k rfl rfl
  refine h2.step (Lane.when_near (Lane.drop_near (inReg (at_DC_STAT k.isLt) (by decide +kernel)) (.refl _ h2.sound))
    fun _ g => Lane.setAxst_near (by decide +kernel) g)

theorem disableAxis (h : l.Rests i n b m) (k : Axis) : l.Rests i n b (m.disableAxis k) := by
  have off := h.step (Lane.put_near (f := R.LE_STAT_SUP k) (v := 0) (inReg (at_LE_STAT k.isLt) (by decide +kernel))
    (Lane.drop_near (f := R.DC_CTRL_EN k) (inReg (at_DC_CTRL k.isLt) (by decide +kernel)) (.refl _ h.sound)))
  exact (off.letGo k).release k

theorem judgeAngle (h : l.Rests i n b m) (k : Axis) : l.Rests i n b (m.judgeAngle k) := by
  unfold Lane.judgeAngle
  split
  · exact h
  · split
    · exact h.step (Lane.substitute_near (by decide +kernel) (.refl _ h.sound))
    · exact h.setOff k

theorem startDrive (h : l.Rests i n b m) (k : Axis) : l.Rests i n b (m.startDrive k) := by
  unfold Lane.startDrive
  split
  · unfold Lane.startPrecharge
    extract_lets q
    have raised : l.Rests i n b q := h.step (Lane.raiseCore_near (by decide +kernel) (.refl _ h.sound))
    split
    · exact Rests.settle (raised.onAx k rfl rfl) k
    · exact raised.step (Lane.onMode_near (.mk kp kp kp kp kp kp (not_bit (by decide +kernel)) kp kp kp) (.refl _ raised.sound))
  · exact h.settle k

theorem ensureEnabled (h : l.Rests i n b m) (k : Axis) : l.Rests i n b (m.ensureEnabled k) := by
  unfold Lane.ensureEnabled
  split
  · exact h
  · rw [Lane.enableAxis_eq]
    have enabled := h.step (Lane.raise_near (f := R.DC_CTRL_EN k) (inReg (at_DC_CTRL k.isLt) (by decide +kernel)).1 rfl
      (Lane.clearCounters_near (n := k) (by decide +kernel) (.refl _ h.sound)))
    have judged := enabled.judgeAngle k
    exact (judged.step (Lane.clearLoops_near (by decide +kernel) (.refl _ judged.sound))).startDrive k

end Lane.Rests

/-- The parts of the drive and of the bridges that entering GHOST LIGHT leaves until it turns to the axes. -/
def ghostKept : List Nat := driveKept ++ bridgeKept

/-- Before it turns to the axes, entering GHOST LIGHT leaves the bridges alone as well. -/
theorem Lane.intoGhost_near_ghostKept {l : Lane} {i : LaneId} (h : l.Sound i) : Lane.Near (allBut ghostKept) l l.intoGhost := by
  unfold Lane.intoGhost
  extract_lets l1 l2
  have n1 : Lane.Near (allBut ghostKept) l l1 := Lane.voidSteps_near (by decide +kernel)
    (Lane.dropSpotlight_near (by decide +kernel) (Lane.takeMode_near (by decide +kernel) (.refl _ h)))
  have n2 : Lane.Near (allBut ghostKept) l l2 := Lane.onMode_near
    (.mk kp (not_bit (by decide +kernel)) (not_bit (by decide +kernel)) kp kp (not_bit (by decide +kernel)) kp kp kp kp) n1
  exact Lane.when_near n2 fun _ g => Lane.holdToken_near (by decide +kernel) (Lane.completeAll_near (by decide +kernel) g)

/-- What disabling and ensuring an axis keep, and every step that leaves the drive and the bridges, entering GHOST LIGHT
keeps: `enterGhost_keeps` for what speaks of the bridges too. -/
theorem Lane.enterGhost_keeps_bridges {i : LaneId} {Q : Lane → Prop} (sound : ∀ l, Q l → l.Sound i)
    (near : ∀ l m, Lane.Near (allBut ghostKept) l m → Q l → Q m) (disable : ∀ l k, Q l → Q (l.disableAxis k))
    (ensure : ∀ l k, Q l → Q (l.ensureEnabled k)) {l : Lane} (h : Q l) : Q l.enterGhost := by
  by_cases stays : l.mode = .ghost ∨ l.mode = .curtain ∨ l.tiedToHold
  · unfold Lane.enterGhost
    rwa [if_pos stays]
  · have axis (parked : Bool) (m : Lane) (k : Axis) (hm : Q m) : Q (m.ghostAxis parked k) := by
      unfold Lane.ghostAxis
      split
      · exact disable _ _ hm
      · exact ensure _ _ (near _ _ (Lane.ghostRef_near (by decide +kernel) (.refl _ (sound _ hm))) hm)
    rw [Lane.enterGhost_eq stays]
    have into := near _ _ (Lane.intoGhost_near_ghostKept (sound _ h)) h
    have axes := Lane.allAxes_keeps (axis (l.mode == .hold || l.mode == .workshop)) into
    exact near _ _ (Lane.ghostEnd_near (by decide +kernel) (.refl _ (sound _ axes))) axes

namespace Lane.Rests

variable {i : LaneId} {n : Axis} {b : Nat} {l m : Lane}

theorem judgeSets (h : l.Rests i n b m) : l.Rests i n b m.judgeSets := by
  unfold Lane.judgeSets
  split
  · exact Lane.enterGhost_keeps_bridges (fun _ g => g.sound) (fun _ _ k g => g.step (k.mono (by decide +kernel)))
      (fun _ k g => g.disableAxis k) (fun _ k g => g.ensureEnabled k) h
  · exact h

theorem setOut (h : l.Rests i n b m) (k : Axis) : l.Rests i n b (m.setOut k) := by
  unfold Lane.setOut
  split
  · exact (h.setOff k).judgeSets
  · exact h

end Lane.Rests

/-- A set taken out of service has every switch off (R98). -/
theorem Lane.on_setOut {l : Lane} {i : LaneId} (h : l.Sound i) {n : Axis} (served : l.inService n = true) (j : Switch) :
    ((l.setOut n).on n).getLsbD j.val = false := by
  have off : (l.setOff n).on n = 0 := by
    unfold Lane.setOff
    extract_lets q
    have out := (Lane.isOut_setAxst (h.onAx n fun a => { a with recatch := none, us := { a.us with substSince := none } }) n)
    have noted : Lane.Near (allBut [89]) (q.setAxst n .out) ((q.setAxst n .out).raise (R.DC_EVT_OUTSVC n)) :=
      Lane.raise_near (inEvt (ev_DC_EVT n.isLt) (by decide +kernel)) rfl (.refl _ out.sound)
    have dropped := (out.near noted (by decide +kernel)).put (g := R.DC_STAT_SUBST n) 0 fun _ => (by decide : 4 ≤ 18)
    have asked : Lane.IsOut i n (((((q.setAxst n .out).raise (R.DC_EVT_OUTSVC n)).drop (R.DC_STAT_SUBST n)).drop
        (R.DC_STAT_RATEHOLD n)).setWant n 0) :=
      (dropped.put (g := R.DC_STAT_RATEHOLD n) 0 fun _ => (by decide : 4 ≤ 16)).onAx n _
    exact Lane.on_settle_of_blocked asked.sound
      (Lane.blocked_of (.inr (.inr (.inr (.inr (.inr (.inr (.inr (Lane.inService_of_isOut asked)))))))))
  unfold Lane.setOut
  rw [if_pos served]
  have stays : (l.setOff n).Rests i n 6 (l.setOff n).judgeSets := (Lane.Rests.refl (by decide) (Lane.isOut_setOff h n).sound).judgeSets
  refine stays.off ?_
  rw [off]
  exact BitVec.getLsbD_zero

/-! ### The mask of unavailable switches changes -/

/-- The switches of bridge `n` that a demand of rank 1 holds off whatever is requested: the unavailable ones, and the peer of
a gate-off failure (R119). -/
def Lane.barred (l : Lane) (n : Axis) : BitVec 6 := l.unav n ||| bits6 fun j => l.bit (R.GD_FAULT_GSTK n) (peerOf j).val

/-- No switch stands at the gate drivers that a demand of rank 1 holds off (R93). -/
theorem Lane.gateCommand_of_rank1 {l : Lane} {n : Axis} {j : Nat} (h : (l.rank1 n).getLsbD j = true) :
    (l.gateCommand n).getLsbD j = false := by
  unfold Lane.gateCommand
  split
  · exact BitVec.getLsbD_zero
  · rw [BitVec.getLsbD_and, BitVec.getLsbD_not, h]
    simp

theorem Lane.rank1_of_barred {l : Lane} {n : Axis} {j : Nat} (h : (l.barred n).getLsbD j = true) :
    (l.rank1 n).getLsbD j = true := by
  unfold Lane.barred at h
  unfold Lane.rank1
  simp only [BitVec.getLsbD_or, Bool.or_eq_true] at h ⊢
  tauto

/-- A barred switch is off once the gate drivers have followed. -/
theorem Lane.Follows.off {i : LaneId} {l m : Lane} {n : Axis} (h : Lane.Follows n l m) (hl : l.Sound i) {j : Switch}
    (hj : (l.barred n).getLsbD j.val = true) : (m.on n).getLsbD j.val = false := by
  obtain ⟨k, asks, rfl⟩ := h
  have same : k.barred n = l.barred n := by
    unfold Lane.barred Lane.unav Lane.bit
    rw [asks.near.keep (f := R.GD_STAT_UNAV n) (at_GD_STAT n.isLt).1 (by decide +kernel),
      asks.near.keep (f := R.GD_FAULT_GSTK n) (at_GD_FAULT n.isLt).1 (by decide +kernel)]
  rw [Lane.on_settle (asks.near.place hl), BitVec.getLsbD_and,
    Lane.gateCommand_of_rank1 (Lane.rank1_of_barred (same.symm ▸ hj)), Bool.and_false]

/-- UNAV shows the causes once it is brought up to date; nothing else of the bridge changes (R87). -/
theorem Lane.markUnav_effects {l : Lane} {i : LaneId} (h : l.Sound i) (n : Axis) :
    l.Rests i n 14 (l.markUnav n) ∧ (l.markUnav n).unav n = l.unavCauses n := by
  unfold Lane.markUnav
  extract_lets w l1 l2
  have h1 : l.Rests i n 14 l1 := (Lane.Rests.refl (by decide) h).putMask (g := R.GD_STAT_UNAV n) w.toNat
    (show 6 ≤ 8 by decide) (show 8 + 6 ≤ 14 by decide)
  have rest : Lane.Near (allBut bridgeKept) l1 (l2.putFlag (R.DC_STAT_TBLDEG n) (count6 w == 1)) :=
    Lane.putFlag_near (inReg (at_DC_STAT n.isLt) (by decide +kernel))
      (Lane.put_near (inReg (at_DC_STAT n.isLt) (by decide +kernel)) (.refl _ h1.sound))
  refine ⟨h1.step rest, ?_⟩
  have shown : l1.get (R.GD_STAT_UNAV n) = w.toNat :=
    (Lane.get_put h.wf _ _ (show 8 + 6 ≤ 32 by decide)).trans (Nat.mod_eq_of_lt w.isLt)
  unfold Lane.unav
  rw [rest.keep (f := R.GD_STAT_UNAV n) (at_GD_STAT n.isLt).1 (by decide +kernel), shown]
  exact (BitVec.ofNat_toNat 6 w).trans (BitVec.setWidth_eq w)

/-- After the mask of unavailable switches has changed, UNAV shows the causes, and the switches barred by them or by a
gate-off failure of their peer are off (R87, R88, R93). -/
theorem Lane.afterUnav_effects {l : Lane} {i : LaneId} (h : l.Sound i) (n : Axis) :
    l.Rests i n 14 (l.afterUnav n) ∧ (l.afterUnav n).unav n = l.unavCauses n ∧
    ∀ j : Switch, (l.unavCauses n).getLsbD j.val = true ∨ l.bit (R.GD_FAULT_GSTK n) (peerOf j).val = true →
      ((l.afterUnav n).on n).getLsbD j.val = false := by
  obtain ⟨marked, shown⟩ := Lane.markUnav_effects h n
  have fault : Lane.Near (allBut [130]) l (l.markUnav n) := Lane.markUnav_near (by decide +kernel) (.refl _ h)
  have gstk : (l.markUnav n).get (R.GD_FAULT_GSTK n) = l.get (R.GD_FAULT_GSTK n) :=
    fault.keep (at_GD_FAULT n.isLt).1 (by decide +kernel)
  have barred (j : Switch) (hj : (l.unavCauses n).getLsbD j.val = true ∨ l.bit (R.GD_FAULT_GSTK n) (peerOf j).val = true) :
      ((l.markUnav n).barred n).getLsbD j.val = true := by
    unfold Lane.barred Lane.bit
    rw [shown, gstk, BitVec.getLsbD_or, getLsbD_bits6, Bool.or_eq_true]
    exact hj
  have s := marked.sound
  unfold Lane.afterUnav
  dsimp only
  generalize l.markUnav n = k at marked shown barred s
  have unav {m : Lane} (g : k.Rests i n 6 m) : m.unav n = l.unavCauses n := by
    unfold Lane.unav at shown ⊢
    rw [g.masks (R.GD_STAT_UNAV n) rfl (show 6 ≤ 8 by decide) (show 8 + 6 ≤ 32 by decide), shown]
  have rests := Lane.Rests.refl (n := n) (b := 6) (by decide) s
  split
  next out =>
    have g := rests.setOut n
    exact ⟨marked.trans (g.mono (by decide)), unav g, fun j _ => Lane.on_setOut s out.2 j⟩
  next =>
    have step {m : Lane} (f : Lane.Follows n k m) : l.Rests i n 14 m ∧ m.unav n = l.unavCauses n ∧
        ∀ j : Switch, (l.unavCauses n).getLsbD j.val = true ∨ l.bit (R.GD_FAULT_GSTK n) (peerOf j).val = true →
          (m.on n).getLsbD j.val = false :=
      ⟨marked.trans ((rests.follows f).mono (by decide)), unav (rests.follows f), fun j hj => f.off s (barred j hj)⟩
    split
    · exact step (Lane.lookup_follows s n)
    · exact step (Lane.Asks.refl s n).settle

end Sys2Proof.Machine

/-!
PROOFS. Bootstrap refresh and the hold-release check (R134 to R137, R141, R142): bits of a field, the end of an insertion, the
end of a check, and the commands.
-/

namespace Sys2Proof.Machine

-- one declaration at a time: each waits for the kernel, and a waiting one holds a thread and its stack
set_option Elab.async false

/-! ### Parts of an axis -/

theorem Lane.Near.prot {M : Nat} {l m : Lane} (h : Lane.Near M l m) (hM : M.testBit 331 = false) (n : Axis) :
    (m.ax n).prot = (l.ax n).prot := (h.axes n).prot hM

theorem Lane.Near.refresh {M : Nat} {l m : Lane} (h : Lane.Near M l m) (hM : M.testBit 332 = false) (n : Axis) :
    (m.ax n).refresh = (l.ax n).refresh := (h.axes n).refresh hM

theorem Lane.Near.leak {M : Nat} {l m : Lane} (h : Lane.Near M l m) (hM : M.testBit 333 = false) (n : Axis) :
    (m.ax n).leak = (l.ax n).leak := (h.axes n).leak hM

theorem Lane.Near.sw {M : Nat} {l m : Lane} (h : Lane.Near M l m) (hM : M.testBit 330 = false) (n : Axis) :
    (m.ax n).sw = (l.ax n).sw := (h.axes n).sw hM

/-! ### Bits of a field -/

theorem Lane.bit_of_get {l m : Lane} {f : Fld} (h : m.get f = l.get f) (j : Nat) : m.bit f j = l.bit f j := by
  unfold Lane.bit
  rw [h]

/-- A bit just put reads what was put. -/
theorem Lane.bit_putBit {l : Lane} (h : RegFile.wf l.id l.regs = true) (f : Fld) (hf : f.lo + f.width ≤ 32) {j : Nat}
    (hj : j < f.width) (b : Bool) : (l.putBit f j b).bit f j = b := by
  have room : 2 ^ j < 2 ^ f.width := Nat.pow_lt_pow_right (by decide) hj
  have mask : 2 ^ f.width - 1 - 2 ^ j = 2 ^ f.width - (2 ^ j + 1) := by omega
  unfold Lane.bit Lane.putBit
  rw [Lane.get_put h _ _ hf, Nat.testBit_mod_two_pow, decide_eq_true hj, Bool.true_and]
  cases b
  · rw [if_neg Bool.false_ne_true, Nat.testBit_and, mask, Nat.testBit_two_pow_sub_succ room, Nat.testBit_two_pow_self]
    simp
  · rw [if_pos rfl, Nat.testBit_or, Nat.testBit_two_pow_self, Bool.or_true]

theorem Lane.ax_putBit (l : Lane) (f : Fld) (j : Nat) (b : Bool) (n : Axis) : (l.putBit f j b).ax n = l.ax n :=
  Lane.ax_put l f _ n

theorem Lane.get_putBit_of_disjoint {l : Lane} (h : RegFile.wf l.id l.regs = true) {f g : Fld} (j : Nat) (b : Bool)
    (ha : g.addr = f.addr) (hg : g.lo + g.width ≤ 32) (hd : f.lo + f.width ≤ g.lo ∨ g.lo + g.width ≤ f.lo) :
    (l.putBit f j b).get g = l.get g := Lane.get_put_of_disjoint h _ ha hg hd

@[simp] theorem getLsbD_bit3 (p q : Phase) : (bit3 p).getLsbD q.val = (q == p) := getLsbD_bits3 _ _

@[simp] theorem getLsbD_bit6 (j k : Switch) : (bit6 j).getLsbD k.val = (k == j) := getLsbD_bits6 _ _

/-- A half-bridge taken out of a mask is not in it. -/
theorem getLsbD_and_not_bit3 (v : BitVec 3) (p : Phase) : (v &&& ~~~bit3 p).getLsbD p.val = false := by
  rw [BitVec.getLsbD_and, BitVec.getLsbD_not, getLsbD_bit3, beq_self_eq_true, Bool.not_true, Bool.and_false, Bool.and_false]

/-- A switch taken out of a mask is not in it. -/
theorem getLsbD_and_not_bit6 (v : BitVec 6) (j : Switch) : (v &&& ~~~bit6 j).getLsbD j.val = false := by
  rw [BitVec.getLsbD_and, BitVec.getLsbD_not, getLsbD_bit6, beq_self_eq_true, Bool.not_true, Bool.and_false, Bool.and_false]

/-! ### The timers of the bootstrap refresh -/

/-- What the end of an insertion leaves: the half-bridge no longer inserts, and the masks of GD_STAT stay. -/
theorem Lane.endInsert_effects {l : Lane} {i : LaneId} (h : l.Sound i) (n : Axis) (p : Phase) :
    (l.endInsert n p).Sound i ∧ ((l.endInsert n p).ax n).refresh.inserting.getLsbD p.val = false ∧
    ((l.endInsert n p).ax n).refresh.timers = (l.ax n).refresh.timers ∧
    ((l.endInsert n p).ax n).refresh.due = (l.ax n).refresh.due ∧
    ∀ f : Fld, f.addr = R.GD_STAT n → 6 ≤ f.lo → f.lo + f.width ≤ 32 → (l.endInsert n p).get f = l.get f := by
  unfold Lane.endInsert
  split
  next inserts =>
    extract_lets k
    have noted : k.Sound i := h.onAx n _
    have step : Lane.Near (allBut [129, 332]) k (k.raise (R.DC_STAT_DWELL n)) :=
      Lane.raise_near (inReg (at_DC_STAT n.isLt) (by decide +kernel)).1 rfl (.refl _ noted)
    have settled : Lane.Near (allBut [332]) (k.raise (R.DC_STAT_DWELL n)) ((k.raise (R.DC_STAT_DWELL n)).settle n) :=
      Lane.settle_near (by decide +kernel) (.refl _ (step.place noted))
    have refresh : (((k.raise (R.DC_STAT_DWELL n)).settle n).ax n).refresh =
        { (l.ax n).refresh with inserting := (l.ax n).refresh.inserting &&& ~~~(bit3 p) } := by
      rw [settled.refresh (by decide +kernel), Lane.ax_raise, Lane.ax_onAx_self]
    refine ⟨settled.place (step.place noted), ?_, by rw [refresh], by rw [refresh], fun f hf hlo hw => ?_⟩
    · rw [refresh]
      exact getLsbD_and_not_bit3 _ p
    · rw [Lane.get_mask_settle (step.place noted) n hf hlo hw]
      exact step.keep (hf ▸ (at_GD_STAT n.isLt).1) (by decide +kernel)
  next ends => exact ⟨h, Bool.eq_false_iff.2 ends, rfl, rfl, fun _ _ _ _ => rfl⟩

/-- A high side comes back where its supply is back and its timer has restarted; of the rest of the bridge only what a change
of UNAV changes (R131). -/
theorem Lane.bstBack_effects {l : Lane} {i : LaneId} (h : l.Sound i) (n : Axis) (p : Phase) :
    l.Rests i n 14 (l.bstBack n p) ∧
    ((l.ax n).prot.supplied.getLsbD p.val = true → (l.ax n).prot.restarted.getLsbD p.val = true →
      ((l.bstBack n p).ax n).prot.bstOut.getLsbD p.val = false) := by
  unfold Lane.bstBack
  extract_lets a
  split
  next =>
    let k := l.onAx n fun a => { a with prot := { a.prot with bstOut := a.prot.bstOut &&& ~~~(bit3 p) } }
    have back : l.Rests i n 14 k := (Lane.Rests.refl (by decide) h).onAx n rfl rfl
    have followed : Lane.Near (allBut [331]) k (k.afterUnav n) := Lane.afterUnav_near (by decide +kernel) (.refl _ back.sound)
    refine ⟨back.trans (Lane.afterUnav_effects back.sound n).1, fun _ _ => ?_⟩
    show (((k.afterUnav n).ax n).prot.bstOut).getLsbD p.val = false
    rw [followed.prot (by decide +kernel), Lane.ax_onAx_self]
    exact getLsbD_and_not_bit3 _ p
  next stays =>
    exact ⟨.refl (by decide) h, fun supplied restarted => Bool.eq_false_iff.2 fun out => stays ⟨out, supplied, restarted⟩⟩

/-- The timer of half-bridge `p` restarts: no refresh of it is due (R134). -/
def Lane.restartTimer (l : Lane) (n : Axis) (p : Phase) : Lane :=
  (l.putBit (R.GD_STAT_PEND n) (highOf p).val false).onAx n fun a =>
    let due := a.refresh.due &&& ~~~(bit3 p)
    { a with
      refresh := { a.refresh with
        timers := a.refresh.timers.set p l.now
        due := due
        dueSince := if due = 0 then none else a.refresh.dueSince }
      prot := { a.prot with restarted := a.prot.restarted ||| bit3 p } }

/-- A restarted timer does not end step 3 of an insertion, and does not begin it. -/
theorem Lane.insertDone_restartTimer {l : Lane} {i : LaneId} (h : l.Sound i) (n : Axis) (p : Phase) :
    (l.restartTimer n p).insertDone n p = l.insertDone n p := by
  have near : Lane.Near (allBut [125, 127, 330]) l (l.restartTimer n p) :=
    Lane.onAx_near (.mk kp kp kp (not_bit (by decide +kernel)) (not_bit (by decide +kernel)) kp kp kp kp)
      (Lane.putBit_near (inReg (at_GD_STAT n.isLt) (by decide +kernel)) (.refl _ h))
  have masks {f : Fld} (hf : f.addr = R.GD_STAT n) (hw : f.lo + f.width ≤ 24) : (l.restartTimer n p).get f = l.get f :=
    Lane.get_putBit_of_disjoint h.wf _ _ hf (by omega) (.inr hw)
  have unav : (l.restartTimer n p).unav n = l.unav n :=
    congrArg (BitVec.ofNat 6) (masks (f := R.GD_STAT_UNAV n) rfl (show 8 + 6 ≤ 24 by decide))
  have on : (l.restartTimer n p).on n = l.on n :=
    congrArg (BitVec.ofNat 6) (masks (f := R.GD_STAT_ON n) rfl (show 0 + 6 ≤ 24 by decide))
  have insertAt : ((l.restartTimer n p).ax n).refresh.insertAt = (l.ax n).refresh.insertAt := by
    unfold Lane.restartTimer
    rw [Lane.ax_onAx_self]
    show ((l.putBit _ _ _).ax n).refresh.insertAt = _
    rw [Lane.ax_putBit]
  unfold Lane.insertDone Lane.onFor Lane.since Lane.deadTime Lane.refw
  rw [unav, on, near.sw (by decide +kernel), insertAt, near.now,
    near.keep (f := R.GD_BSTCFG_REFW n) (at_GD_BSTCFG n.isLt).1 (by decide +kernel),
    near.keep (f := R.GD_DT_DT n) (at_GD_DT n.isLt).1 (by decide +kernel)]

/-- REFRESH_TIMER_RESTART (R134). -/
theorem does_refreshTimerRestart (e : At) (n : Axis) (p : Phase) (lowFor : Nat) (s : State) (hs : s.Powered e) :
    Does (.refreshTimerRestart ⟨e, lowFor⟩ n p) s (setOutParts ++ [.axProt]) fun l m =>
      (lowFor < l.get (R.GD_BSTCFG_REFW n) → m = l) ∧
      (l.get (R.GD_BSTCFG_REFW n) ≤ lowFor →
        m.bit (R.GD_STAT_PEND n) (highOf p).val = false ∧ (m.ax n).refresh.timers[p] = l.now ∧
        (m.ax n).refresh.due.getLsbD p.val = false ∧
        (l.insertDone n p = true → (m.ax n).refresh.inserting.getLsbD p.val = false) ∧
        ((l.ax n).prot.supplied.getLsbD p.val = true → (m.ax n).prot.bstOut.getLsbD p.val = false)) := by
  refine does_power hs rfl execRefreshTimerRestart_event rfl (by decide +kernel) fun h => ?_
  generalize s.before (.refreshTimerRestart ⟨e, lowFor⟩ n p) = l at h
  refine ⟨fun short => if_pos short, fun long => ?_⟩
  dsimp only
  rw [if_neg (Nat.not_lt_of_le long)]
  let k := l.restartTimer n p
  have restarted : k.Sound e.lane := (h.put _ _).onAx n _
  have pending : k.bit (R.GD_STAT_PEND n) (highOf p).val = false :=
    Lane.bit_putBit h.wf _ (show 24 + 6 ≤ 32 by decide) (highOf p).isLt false
  let q := k.when (k.insertDone n p) fun l => l.endInsert n p
  have ended : q.Sound e.lane ∧ (l.insertDone n p = true → (q.ax n).refresh.inserting.getLsbD p.val = false) ∧
      (q.ax n).refresh.timers = (k.ax n).refresh.timers ∧ (q.ax n).refresh.due = (k.ax n).refresh.due ∧
      q.bit (R.GD_STAT_PEND n) (highOf p).val = false ∧ (q.ax n).prot = (k.ax n).prot := by
    rw [← Lane.insertDone_restartTimer h n p]
    unfold q Lane.when
    split
    next =>
      obtain ⟨sound, inserting, timers, due, masks⟩ := Lane.endInsert_effects restarted n p
      have near : Lane.Near (allBut [331]) k (k.endInsert n p) := Lane.endInsert_near (by decide +kernel) (.refl _ restarted)
      exact ⟨sound, fun _ => inserting, timers, due,
        (Lane.bit_of_get (masks _ rfl (show 6 ≤ 24 by decide) (show 24 + 6 ≤ 32 by decide)) _).trans pending,
        near.prot (by decide +kernel) n⟩
    next runs => exact ⟨restarted, fun done => absurd done runs, rfl, rfl, pending, rfl⟩
  have started : (k.ax n).refresh.timers[p] = l.now ∧ (k.ax n).refresh.due.getLsbD p.val = false ∧
      (k.ax n).prot.restarted.getLsbD p.val = true ∧ (k.ax n).prot.supplied = (l.ax n).prot.supplied := by
    unfold k Lane.restartTimer
    rw [Lane.ax_onAx_self]
    refine ⟨Vector.getElem_set_self p.isLt, getLsbD_and_not_bit3 _ p, ?_, ?_⟩
    · rw [BitVec.getLsbD_or, getLsbD_bit3, beq_self_eq_true, Bool.or_true]
    · show ((l.putBit _ _ _).ax n).prot.supplied = _
      rw [Lane.ax_putBit]
  change (q.bstBack n p).bit _ _ = false ∧ ((q.bstBack n p).ax n).refresh.timers[p] = l.now ∧
    ((q.bstBack n p).ax n).refresh.due.getLsbD p.val = false ∧
    (_ → ((q.bstBack n p).ax n).refresh.inserting.getLsbD p.val = false) ∧
    (_ → ((q.bstBack n p).ax n).prot.bstOut.getLsbD p.val = false)
  obtain ⟨sound, inserting, timers, due, pend, prot⟩ := ended
  obtain ⟨now, clear, again, supplied⟩ := started
  clear_value q k
  obtain ⟨rests, back⟩ := Lane.bstBack_effects sound n p
  have kept {α : Type} (g : Refresh → α) (hg : ∀ r, g r.idle = g r) : g ((q.bstBack n p).ax n).refresh = g (q.ax n).refresh :=
    (hg _).symm.trans ((congrArg g rests.refresh).trans (hg _))
  refine ⟨?_, ?_, ?_, fun done => ?_, fun had => back ?_ ?_⟩
  · exact (Lane.bit_of_get (rests.masks _ rfl (show 14 ≤ 24 by decide) (show 24 + 6 ≤ 32 by decide)) _).trans pend
  · rw [kept Refresh.timers fun _ => rfl, timers, now]
  · rw [kept Refresh.due fun _ => rfl, due, clear]
  · rw [kept Refresh.inserting fun _ => rfl, inserting done]
  · rw [prot, supplied, had]
  · rw [prot, again]

end Sys2Proof.Machine

/-!
PROOFS. The other commands of the bootstrap refresh, and those of the hold-release check (R135 to R137, R141, R142).
-/

namespace Sys2Proof.Machine

-- one declaration at a time: each waits for the kernel, and a waiting one holds a thread and its stack
set_option Elab.async false

/-- A mask with a bit set is not empty. -/
theorem ne_zero_of_getLsbD {w : Nat} {v : BitVec w} {j : Nat} (h : v.getLsbD j = true) : v ≠ 0 := by
  rintro rfl
  simp at h

/-! ### Refresh -/

/-- REFRESH_PENDING (R135). -/
theorem does_refreshPending (e : At) (n : Axis) (p : Phase) (s : State) (hs : s.Powered e) :
    Does (.refreshPending e n p) s [.reg (R.GD_STAT 0)] fun l m =>
      (l.since (l.ax n).refresh.timers[p] (us (100 * (l.get (R.GD_BSTCFG_REFT n) - l.get (R.GD_BSTCFG_PEND n)))) =
        true →
        m.bit (R.GD_STAT_PEND n) (highOf p).val = true) ∧
      (l.since (l.ax n).refresh.timers[p] (us (100 * (l.get (R.GD_BSTCFG_REFT n) - l.get (R.GD_BSTCFG_PEND n)))) =
        false →
        m = l) := by
  refine does_power hs rfl execRefreshPending_event rfl (by decide +kernel) fun h => ?_
  generalize s.before (.refreshPending e n p) = l at h
  refine ⟨fun ripe => ?_, fun young => if_neg (by rw [young]; exact Bool.false_ne_true)⟩
  rw [if_pos ripe]
  exact Lane.bit_putBit h.wf _ (show 24 + 6 ≤ 32 by decide) (highOf p).isLt true

/-- A high side whose half-bridge inserts does not stand at the gate drivers unless a demand of rank 3 acts (R93, R136). -/
theorem Lane.gateCommand_of_inserting {l : Lane} {n : Axis} {p : Phase} (free : l.rank3 n = none)
    (inserts : (l.ax n).refresh.inserting.getLsbD p.val = true) : (l.gateCommand n).getLsbD (highOf p).val = false := by
  have even : (highOf p).val % 2 = 0 := by
    show 2 * p.val % 2 = 0
    omega
  have lower : (l.lowerDemand n).getLsbD (highOf p).val = false := by
    unfold Lane.lowerDemand
    extract_lets a
    split
    · fin_cases p <;> rfl
    · rw [getLsbD_bits6, phaseOf_highOf, if_pos inserts, even]
      rfl
  unfold Lane.gateCommand
  split
  · exact BitVec.getLsbD_zero
  · rw [free, BitVec.getLsbD_and, Option.getD_none, lower, Bool.false_and]

/-- An insertion that begins where no demand of rank 3 acts (R136). -/
theorem Lane.beginInsert_effects {l : Lane} {i : LaneId} (h : l.Sound i) {n : Axis} {ph : BitVec 3} {p : Phase}
    (free : l.rank3 n = none) (hp : ph.getLsbD p.val = true) :
    (l.beginInsert n ph).flag (R.GD_EVT_REFINS n) = true ∧
    ((l.beginInsert n ph).ax n).refresh.inserting.getLsbD p.val = true ∧
    ((l.beginInsert n ph).on n).getLsbD (highOf p).val = false ∧
    (l.beginInsert n ph).get (R.GD_CNT0_REFCNT n) = min (l.get (R.GD_CNT0_REFCNT n) + 1) 65535 := by
  unfold Lane.beginInsert
  extract_lets l1 l2 l3
  have s0 := h.raise (R.GD_EVT_REFINS n)
  have n1 : Lane.Near (allBut [322]) (l.raise (R.GD_EVT_REFINS n)) l1 :=
    Lane.bump_near (inReg (at_GD_CNT0 n.isLt) (by decide +kernel)) (.refl _ s0)
  have s1 := n1.place s0
  have rises : Lane.Near (allBut rank3Kept) l l1 := Lane.bump_near (inReg (at_GD_CNT0 n.isLt) (by decide +kernel))
    (Lane.raise_near (inEvt (ev_GD_EVT n.isLt) (by decide +kernel)) rfl (.refl _ h))
  have begins {M : Nat} (m : sub (allBut ([132, 322] ++ rank3Kept)) M = true) : Lane.Near M l1 l3 := by
    refine Lane.Near.mono m (Lane.onAx_near (.mk kp kp kp kp (not_bit (by decide +kernel)) kp kp kp kp) ?_)
    exact Lane.leakAbort_near (by decide +kernel) (.refl _ s1)
  have n3 : Lane.Near (allBut [132, 322]) l1 l3 := begins (by decide +kernel)
  have s3 := n3.place s1
  have n4 : Lane.Near (allBut [132, 322, 332]) l3 (l3.settle n) := Lane.settle_near (by decide +kernel) (.refl _ s3)
  have kept : Lane.Near (allBut [132, 322]) l1 (l3.settle n) := n3.trans (n4.mono (by decide +kernel))
  have still : l3.rank3 n = none :=
    (Lane.rank3_of_near (rises.trans (begins (by decide +kernel))) n).trans free
  have inserting : (l3.ax n).refresh.inserting.getLsbD p.val = true := by
    unfold l3
    rw [Lane.ax_onAx_self]
    dsimp only
    rw [BitVec.getLsbD_or, hp, Bool.or_true]
  refine ⟨?_, ?_, ?_, ?_⟩
  · have raised := Lane.flag_raise h.wf (R.GD_EVT_REFINS n) (show 6 < 32 by decide) rfl
    exact kept.flag (by decide +kernel) (is_GD_EVT n.isLt) rfl (n1.flag (by decide +kernel) (is_GD_EVT n.isLt) rfl raised)
  · rw [n4.refresh (by decide +kernel), inserting]
  · rw [Lane.on_settle s3, BitVec.getLsbD_and, Lane.gateCommand_of_inserting still inserting, Bool.and_false]
  · have counted : l1.get (R.GD_CNT0_REFCNT n) = min ((l.raise (R.GD_EVT_REFINS n)).get (R.GD_CNT0_REFCNT n) + 1) 65535 :=
      Lane.get_bump s0.wf _ (show 0 + 16 ≤ 32 by decide)
    have before : Lane.Near (allBut [132]) l (l.raise (R.GD_EVT_REFINS n)) :=
      Lane.raise_near (inEvt (ev_GD_EVT n.isLt) (by decide +kernel)) rfl (.refl _ h)
    rw [kept.keep (f := R.GD_CNT0_REFCNT n) (at_GD_CNT0 n.isLt).1 (by decide +kernel), counted,
      before.keep (f := R.GD_CNT0_REFCNT n) (at_GD_CNT0 n.isLt).1 (by decide +kernel)]

theorem Lane.rank3_of_mayInsert {l : Lane} {n : Axis} {ph above : BitVec 3} (h : l.mayInsert n ph above = true) :
    l.rank3 n = none := by
  unfold Lane.mayInsert at h
  simp only [Bool.and_eq_true, Option.isNone_iff_eq_none] at h
  obtain ⟨⟨⟨-, free⟩, -⟩, -⟩ := h
  exact free

/-- A timer that is due and has reached REFT is in the set to refresh (R136). -/
theorem Lane.refreshSet_of_ripe {l : Lane} {n : Axis} {due : BitVec 3} {p : Phase} (hp : due.getLsbD p.val = true)
    (ripe : (l.ax n).refresh.timers[p] + us (100 * l.get (R.GD_BSTCFG_REFT n)) ≤ l.now) :
    (l.refreshSet n due).getLsbD p.val = true := by
  unfold Lane.refreshSet
  extract_lets reft ripes near
  have listed : ripes.getLsbD p.val = true := by
    unfold ripes
    rw [getLsbD_bits3, hp]
    exact decide_eq_true ripe
  have some : (ripes ||| (l.ax n).refresh.due).getLsbD p.val = true := by
    rw [BitVec.getLsbD_or, listed, Bool.true_or]
  rw [if_neg (ne_zero_of_getLsbD some), BitVec.getLsbD_or, some, Bool.true_or]

/-- REFRESH_INSERT (R136). -/
theorem does_refreshInsert (e : At) (n : Axis) (due above : BitVec 3) (s : State) (hs : s.Powered e) :
    Does (.refreshInsert e n due above) s [.reg (R.GD_STAT 0), .reg (R.GD_EVT 0), .reg (R.GD_CNT0 0), .axUs, .axSw,
    .axRefresh, .axLeak] fun l m =>
      (l.refreshSet n due = 0 → m = l) ∧
      (∀ p : Phase, (l.refreshSet n due).getLsbD p.val = true → (l.on n).getLsbD (highOf p).val = true →
        l.mayInsert n (l.refreshSet n due) above = true →
        m.flag (R.GD_EVT_REFINS n) = true ∧ (m.ax n).refresh.inserting.getLsbD p.val = true ∧
        (m.on n).getLsbD (highOf p).val = false ∧
        m.get (R.GD_CNT0_REFCNT n) = min (l.get (R.GD_CNT0_REFCNT n) + 1) 65535) ∧
      (∀ p : Phase, (l.refreshSet n due).getLsbD p.val = true → (l.on n).getLsbD (highOf p).val = true →
        l.mayInsert n (l.refreshSet n due) above = false →
        (m.ax n).refresh.due = l.refreshSet n due ∧ (m.ax n).refresh.dueSince = some ((l.ax n).refresh.dueSince.getD
          l.now)) ∧
      (l.refreshSet n due ≠ 0 → (∀ p : Phase, (l.refreshSet n due).getLsbD p.val = true →
        (l.on n).getLsbD (highOf p).val = false) →
        (m.ax n).refresh.due = l.refreshSet n due ∧ m.on n = l.on n) ∧
      (∀ p : Phase, due.getLsbD p.val = true → (l.ax n).refresh.timers[p] + us (100 * l.get (R.GD_BSTCFG_REFT n)) ≤
        l.now →
        (l.refreshSet n due).getLsbD p.val = true) := by
  refine does_power hs rfl execRefreshInsert_event rfl (by decide +kernel) fun h => ?_
  generalize s.before (.refreshInsert e n due above) = l at h
  extract_lets all now
  change (all = 0 → _) ∧ (∀ p : Phase, all.getLsbD p.val = true → _) ∧ (∀ p : Phase, all.getLsbD p.val = true → _) ∧
    (all ≠ 0 → (∀ p : Phase, all.getLsbD p.val = true → _) → _) ∧ _
  have wanted {p : Phase} (hp : all.getLsbD p.val = true) : ¬all = 0 := ne_zero_of_getLsbD hp
  have now_bit (p : Phase) : now.getLsbD p.val = (all.getLsbD p.val && (l.on n).getLsbD (highOf p).val) := getLsbD_bits3 _ p
  have stands {p : Phase} (hp : all.getLsbD p.val = true) (on : (l.on n).getLsbD (highOf p).val = true) : ¬now = 0 :=
    ne_zero_of_getLsbD (by rw [now_bit, hp, on]; rfl)
  refine ⟨fun none => if_pos none, fun p hp on may => ?_, fun p hp on held => ?_, fun wait off => ?_,
    fun p hp ripe => Lane.refreshSet_of_ripe hp ripe⟩
  · rw [if_neg (wanted hp), if_pos ⟨stands hp on, may⟩]
    exact Lane.beginInsert_effects h (Lane.rank3_of_mayInsert may) hp
  · rw [if_neg (wanted hp), if_neg fun g => Bool.eq_false_iff.1 held g.2, Lane.ax_onAx_self]
    exact ⟨rfl, if_neg (stands hp on)⟩
  · have idle : now = 0 := by
      refine BitVec.eq_of_getLsbD_eq fun j hj => ?_
      refine ((now_bit ⟨j, hj⟩).trans ?_).trans BitVec.getLsbD_zero.symm
      show (all.getLsbD j && _) = false
      cases due : all.getLsbD j
      · rfl
      · exact off ⟨j, hj⟩ due
    rw [if_neg wait, if_neg fun g => g.1 idle, Lane.ax_onAx_self]
    exact ⟨rfl, rfl⟩

/-- REFRESH_LATE (R137). -/
theorem does_refreshLate (e : At) (n : Axis) (s : State) (hs : s.Powered e) :
    Does (.refreshLate e n) s [.reg (R.GD_EVT 0)] fun l m =>
      ((l.ax n).refresh.dueSince = none → m = l) ∧
      (∀ t, (l.ax n).refresh.dueSince = some t → t + us 100 ≤ l.now → m.flag (R.GD_EVT_REFLATE n) = true) := by
  refine does_power hs rfl execRefreshLate_event rfl (by decide +kernel) fun h => ?_
  generalize s.before (.refreshLate e n) = l at h
  cases since : (l.ax n).refresh.dueSince with
  | none => exact ⟨fun _ => rfl, nofun⟩
  | some t =>
    refine ⟨nofun, fun t' same late => ?_⟩
    cases same
    dsimp only
    rw [if_pos (show l.since t (us 100) = true from decide_eq_true late)]
    exact Lane.flag_raise h.wf _ (show 7 < 32 by decide) rfl

/-! ### The hold-release check -/

/-- LEAK_CHECK_REQUEST (R141). -/
theorem does_leakCheckRequest (e : At) (n : Axis) (mask : BitVec 6) (s : State) (hs : s.Runs e) :
    Does (.leakCheckRequest e n mask) s [.reg (R.GD_LKCTL 0)] fun _ m => m.get (R.GD_LKCTL_REQ n) = mask.toNat := by
  refine does_logic hs rfl execLeakCheckRequest_event rfl (by decide +kernel) fun h => ?_
  exact (Lane.get_put h.wf _ _ (show 0 + 6 ≤ 32 by decide)).trans (Nat.mod_eq_of_lt mask.isLt)

/-- Showing a bootstrap supply does not bear on whether a check may start. -/
theorem Lane.leakMayStart_showBst {l : Lane} {i : LaneId} (h : l.Sound i) (n : Axis) (p : Phase) (v : Nat) (j : Switch)
    (bst : Nat) : (l.showBst n p v).leakMayStart n j bst = l.leakMayStart n j bst := by
  have near : Lane.Near (allBut [129, 136, 330, 333]) l (l.showBst n p v) := Lane.showBst_near (by decide +kernel) (.refl _ h)
  unfold Lane.leakMayStart Lane.since
  rw [near.sw (by decide +kernel), near.leak (by decide +kernel), near.on (by decide +kernel), near.now,
    Lane.bit_of_get (near.keep (f := R.GD_LKCTL_REQ n) (at_GD_LKCTL n.isLt).1 (by decide +kernel))]

/-- LEAK_CHECK_START (R141). -/
theorem does_leakCheckStart (e : At) (n : Axis) (j : Switch) (bst : Nat) (s : State) (hs : s.Powered e) :
    Does (.leakCheckStart e n j bst) s [.reg (R.GD_BSTV0 0), .reg (R.GD_BSTV1 0), .axLeak] fun l m =>
      (l.leakMayStart n j bst = true → (m.ax n).leak.running = (j, l.now) :: (l.ax n).leak.running) ∧
      (l.leakMayStart n j bst = false → j.val % 2 = 1 → m = l) ∧
      (l.leakMayStart n j bst = false → j.val % 2 = 0 → m = l.showBst n (phaseOf j) bst) ∧
      (j.val % 2 = 0 → bst ≤ 800 → m = l.showBst n (phaseOf j) bst) := by
  refine does_power hs rfl execLeakCheckStart_event rfl (by decide +kernel) fun h => ?_
  generalize s.before (.leakCheckStart e n j bst) = l at h
  extract_lets k
  have may : k.leakMayStart n j bst = l.leakMayStart n j bst := by
    unfold k Lane.when
    split
    · exact Lane.leakMayStart_showBst h n _ bst j bst
    · rfl
  have near : Lane.Near (allBut [333]) l k := Lane.when_near (.refl _ h) fun _ g => Lane.showBst_near (by decide +kernel) g
  have odd (hj : j.val % 2 = 1) : k = l := if_neg (by rw [hj]; decide)
  have even (hj : j.val % 2 = 0) : k = l.showBst n (phaseOf j) bst := if_pos (by rw [hj]; rfl)
  have refused (no : l.leakMayStart n j bst = false) : ¬k.leakMayStart n j bst = true := by
    rw [may, no]
    exact Bool.false_ne_true
  refine ⟨fun starts => ?_, fun no hj => ?_, fun no hj => ?_, fun hj low => ?_⟩
  · rw [if_pos (may.trans starts), Lane.ax_onAx_self, near.leak (by decide +kernel), near.now]
  · rw [if_neg (refused no), odd hj]
  · rw [if_neg (refused no), even hj]
  · have no : l.leakMayStart n j bst = false := by
      unfold Lane.leakMayStart
      extract_lets sw quiet
      rw [hj, decide_eq_false (Nat.not_lt_of_le low)]
      exact Bool.and_false _
    rw [if_neg (refused no), even hj]

section

variable {i : LaneId} {l : Lane}

/-- A bit of GD_LKCTL changes nothing of the bridge. -/
theorem Lane.putBit_LKCTL_near (h : l.Sound i) {n : Axis} {f : Fld} (hf : f.addr = R.GD_LKCTL n) (j : Nat) (b : Bool) :
    Lane.Near (2 ^ 136) l (l.putBit f j b) :=
  Lane.putBit_near (hf ▸ inReg (at_GD_LKCTL n.isLt) (by decide +kernel)) (.refl _ h)

/-- The request of a check stays while a bit of PASS or FAIL1 changes. -/
theorem Lane.get_REQ_putBit (h : l.Sound i) {n : Axis} {f : Fld} (hf : f.addr = R.GD_LKCTL n) (hlo : 6 ≤ f.lo) (j : Nat)
    (b : Bool) : (l.putBit f j b).get (R.GD_LKCTL_REQ n) = l.get (R.GD_LKCTL_REQ n) :=
  Lane.get_putBit_of_disjoint (f := f) (g := R.GD_LKCTL_REQ n) h.wf j b hf.symm (show 0 + 6 ≤ 32 by decide) (.inr hlo)

/-- A void check keeps its request (R142). -/
theorem Lane.leakResult_void (h : l.Sound i) (n : Axis) (j : Switch) :
    Lane.Near (2 ^ 131) l (l.leakResult n j .void) ∧ (l.leakResult n j .void).flag (R.GD_EVT_LKVOID n) = true :=
  ⟨Lane.raise_near (inEvt (ev_GD_EVT n.isLt) (by decide +kernel)) rfl (.refl _ h),
    Lane.flag_raise h.wf _ (show 10 < 32 by decide) rfl⟩

/-- A check passed shows in PASS and withdraws its request (R142). -/
theorem Lane.leakResult_pass (h : l.Sound i) (n : Axis) (j : Switch) :
    Lane.Near (2 ^ 136) l (l.leakResult n j .pass) ∧ (l.leakResult n j .pass).bit (R.GD_LKCTL_PASS n) j.val = true ∧
    (l.leakResult n j .pass).bit (R.GD_LKCTL_REQ n) j.val = false := by
  have p1 := Lane.putBit_LKCTL_near h (f := R.GD_LKCTL_REQ n) rfl j.val false
  have s1 := p1.place h
  have p2 := Lane.putBit_LKCTL_near s1 (f := R.GD_LKCTL_FAIL1 n) rfl j.val false
  have s2 := p2.place s1
  have p3 := Lane.putBit_LKCTL_near s2 (f := R.GD_LKCTL_PASS n) rfl j.val true
  have cleared := Lane.bit_putBit h.wf (R.GD_LKCTL_REQ n) (show 0 + 6 ≤ 32 by decide) (j := j.val) j.isLt false
  refine ⟨(p1.trans p2).trans p3, Lane.bit_putBit s2.wf (R.GD_LKCTL_PASS n) (show 8 + 6 ≤ 32 by decide) j.isLt true, ?_⟩
  exact (Lane.bit_of_get ((Lane.get_REQ_putBit s2 (f := R.GD_LKCTL_PASS n) rfl (show 6 ≤ 8 by decide) j.val true).trans
    (Lane.get_REQ_putBit s1 (f := R.GD_LKCTL_FAIL1 n) rfl (show 6 ≤ 16 by decide) j.val false)) j.val).trans cleared

/-- The first failure of a check is noted and keeps its request (R142). -/
theorem Lane.leakResult_fail_first (h : l.Sound i) {n : Axis} {j : Switch} (first : l.bit (R.GD_LKCTL_FAIL1 n) j.val = false) :
    Lane.Near (2 ^ 131 ||| 2 ^ 136) l (l.leakResult n j .fail) ∧
    (l.leakResult n j .fail).flag (R.GD_EVT_LKFAIL n) = true ∧
    (l.leakResult n j .fail).bit (R.GD_LKCTL_FAIL1 n) j.val = true ∧
    (l.leakResult n j .fail).get (R.GD_LKCTL_REQ n) = l.get (R.GD_LKCTL_REQ n) := by
  have p1 := Lane.putBit_LKCTL_near h (f := R.GD_LKCTL_PASS n) rfl j.val false
  have s1 := p1.place h
  have p2 := Lane.putBit_LKCTL_near s1 (f := R.GD_LKCTL_FAIL1 n) rfl j.val true
  have s2 := p2.place s1
  have shown : l.leakResult n j .fail = ((l.putBit (R.GD_LKCTL_PASS n) j.val false).putBit (R.GD_LKCTL_FAIL1 n) j.val
      true).raise (R.GD_EVT_LKFAIL n) := if_neg (Bool.eq_false_iff.1 first)
  have request := (Lane.get_REQ_putBit s1 (f := R.GD_LKCTL_FAIL1 n) rfl (show 6 ≤ 16 by decide) j.val true).trans
    (Lane.get_REQ_putBit h (f := R.GD_LKCTL_PASS n) rfl (show 6 ≤ 8 by decide) j.val false)
  have failed := Lane.bit_putBit s1.wf (R.GD_LKCTL_FAIL1 n) (show 16 + 6 ≤ 32 by decide) (j := j.val) j.isLt true
  rw [shown]
  generalize (l.putBit (R.GD_LKCTL_PASS n) j.val false).putBit (R.GD_LKCTL_FAIL1 n) j.val true = k at p2 s2 request failed
  have noted : Lane.Near (2 ^ 131) k (k.raise (R.GD_EVT_LKFAIL n)) :=
    Lane.raise_near (inEvt (ev_GD_EVT n.isLt) (by decide +kernel)) rfl (.refl _ s2)
  exact ⟨((p1.trans p2).mono (by decide +kernel)).trans (noted.mono (by decide +kernel)),
    Lane.flag_raise s2.wf _ (show 9 < 32 by decide) rfl,
    (Lane.bit_of_get (noted.keep (at_GD_LKCTL n.isLt).1 (by decide +kernel)) _).trans failed,
    (noted.keep (at_GD_LKCTL n.isLt).1 (by decide +kernel)).trans request⟩

/-- The second failure of a check is a fault of the switch (R142). -/
theorem Lane.leakResult_fail_again (h : l.Sound i) {n : Axis} {j : Switch} (again : l.bit (R.GD_LKCTL_FAIL1 n) j.val = true) :
    l.Rests i n 14 (l.leakResult n j .fail) ∧ (l.leakResult n j .fail).bit (R.GD_FAULT_LEAK n) j.val = true := by
  have p1 := Lane.putBit_LKCTL_near h (f := R.GD_LKCTL_PASS n) rfl j.val false
  have s1 := p1.place h
  have p2 := Lane.putBit_LKCTL_near s1 (f := R.GD_LKCTL_REQ n) rfl j.val false
  have s2 := p2.place s1
  have p3 := Lane.putBit_LKCTL_near s2 (f := R.GD_LKCTL_FAIL1 n) rfl j.val false
  have shown : l.leakResult n j .fail = ((((l.putBit (R.GD_LKCTL_PASS n) j.val false).putBit (R.GD_LKCTL_REQ n) j.val
      false).putBit (R.GD_LKCTL_FAIL1 n) j.val false).putBit (R.GD_FAULT_LEAK n) j.val true).afterUnav n := if_pos again
  have cleared := (p1.trans p2).trans p3
  rw [shown]
  generalize ((l.putBit (R.GD_LKCTL_PASS n) j.val false).putBit (R.GD_LKCTL_REQ n) j.val false).putBit
    (R.GD_LKCTL_FAIL1 n) j.val false = k at cleared
  have s3 := cleared.place h
  have faulted : Lane.Near (2 ^ 130) k (k.putBit (R.GD_FAULT_LEAK n) j.val true) :=
    Lane.putBit_near (inReg (at_GD_FAULT n.isLt) (by decide +kernel)) (.refl _ s3)
  have fault := Lane.bit_putBit s3.wf (R.GD_FAULT_LEAK n) (show 12 + 6 ≤ 32 by decide) (j := j.val) j.isLt true
  generalize k.putBit (R.GD_FAULT_LEAK n) j.val true = q at faulted fault
  have rests : l.Rests i n 14 q := ((Lane.Rests.refl (by decide) h).step (cleared.mono (by decide +kernel))).step
    (faulted.mono (by decide +kernel))
  have followed : Lane.Near (allBut [130]) q (q.afterUnav n) := Lane.afterUnav_near (by decide +kernel) (.refl _ rests.sound)
  exact ⟨rests.trans (Lane.afterUnav_effects rests.sound n).1,
    (Lane.bit_of_get (followed.keep (at_GD_FAULT n.isLt).1 (by decide +kernel)) _).trans fault⟩

/-- The end of a check turns nothing on and begins no check, and it leaves the sweeps alone (R142). -/
theorem Lane.leakResult_rests (h : l.Sound i) (n : Axis) (j : Switch) (r : LeakResult) :
    l.Rests i n 14 (l.leakResult n j r) := by
  have rests : l.Rests i n 14 l := .refl (by decide) h
  cases r with
  | void => exact rests.step ((Lane.leakResult_void h n j).1.mono (by decide +kernel))
  | pass => exact rests.step ((Lane.leakResult_pass h n j).1.mono (by decide +kernel))
  | fail =>
    cases first : l.bit (R.GD_LKCTL_FAIL1 n) j.val
    · exact rests.step ((Lane.leakResult_fail_first h first).1.mono (by decide +kernel))
    · exact (Lane.leakResult_fail_again h first).1

end

/-- A switch that fails a sweep or the loop-back turns nothing on (R357, R359). -/
theorem Lane.Rests.failSwitch {i : LaneId} {n : Axis} {l m : Lane} (h : l.Rests i n 14 m) (j : Switch) {ev : Fld}
    (ha : ev.addr = R.BI_EVT) (hw : ev.width = 1) : l.Rests i n 14 (m.failSwitch n j ev) := by
  have failed := h.step (Lane.raise_near (ha ▸ inEvt ev_BI_EVT (by decide +kernel)) hw
    (Lane.putBit_near (f := R.BI_SWFAIL_SW) (j := 6 * n.val + j.val) (b := true) (inReg at_BI_SWFAIL (by decide +kernel))
      (.refl _ h.sound)))
  exact failed.trans (Lane.afterUnav_effects failed.sound n).1

/-- The sweep of R357 that shared the window of a check ends with it. -/
def Lane.endSharedSweep (l : Lane) (n : Axis) (j : Switch) (r : LeakResult) (sweep : SwitchSweep) : Lane :=
  if r ≠ .void ∧ l.reh.sweepAsked[n].getLsbD j.val then
    let l := l.onReh fun q => { q with
      sweepAsked := q.sweepAsked.set n (q.sweepAsked[n] &&& ~~~(bit6 j))
      swept := q.swept.set n (q.swept[n].set j l.mode_.cycle) }
    if l.switchSweepOk n j sweep then l else l.failSwitch n j R.BI_EVT_SWFAIL
  else l

theorem Lane.endSharedSweep_near {l : Lane} {i : LaneId} (h : l.Sound i) (n : Axis) (j : Switch) (r : LeakResult)
    (sweep : SwitchSweep) : Lane.Near (allBut [130, 136, 322]) l (l.endSharedSweep n j r sweep) := by
  unfold Lane.endSharedSweep
  split
  · extract_lets k
    have swept : Lane.Near (allBut [130, 136, 322]) l k :=
      Lane.onReh_near (.mk kp kp kp kp kp kp kp kp kp kp kp kp kp (not_bit (by decide +kernel))
        (not_bit (by decide +kernel)) kp kp kp kp kp kp kp kp kp kp) (.refl _ h)
    exact Lane.near_ite swept (Lane.failSwitch_near (by decide +kernel) swept ⟨inEvt ev_BI_EVT (by decide +kernel), rfl⟩)
  · exact .refl _ h

theorem Lane.Rests.endSharedSweep {i : LaneId} {n : Axis} {l m : Lane} (h : l.Rests i n 14 m) (j : Switch) (r : LeakResult)
    (sweep : SwitchSweep) : l.Rests i n 14 (m.endSharedSweep n j r sweep) := by
  unfold Lane.endSharedSweep
  split
  · extract_lets k
    have swept : l.Rests i n 14 k := ⟨h.low, h.sound.onReh _, h.on, h.masks, h.checks, h.refresh⟩
    split
    · exact swept
    · exact swept.failSwitch j rfl rfl
  · exact h

/-- A sweep asked for ends with the window of the check, and one failed shows in BI_EVT (R357). -/
theorem Lane.endSharedSweep_asked {l : Lane} {i : LaneId} (h : l.Sound i) {n : Axis} {j : Switch} {r : LeakResult}
    {sweep : SwitchSweep} (valid : r ≠ .void) (asked : l.reh.sweepAsked[n].getLsbD j.val = true) :
    (l.endSharedSweep n j r sweep).reh.sweepAsked[n].getLsbD j.val = false ∧
    (l.switchSweepOk n j sweep = false → (l.endSharedSweep n j r sweep).flag R.BI_EVT_SWFAIL = true) := by
  unfold Lane.endSharedSweep
  rw [if_pos ⟨valid, asked⟩]
  extract_lets k
  have s : k.Sound i := h.onReh _
  have ended : k.reh.sweepAsked[n].getLsbD j.val = false := by
    show ((l.reh.sweepAsked.set n _)[n] : BitVec 6).getLsbD j.val = false
    rw [show (l.reh.sweepAsked.set n (l.reh.sweepAsked[n] &&& ~~~(bit6 j)))[n] = l.reh.sweepAsked[n] &&& ~~~(bit6 j) from
      Vector.getElem_set_self n.isLt]
    exact getLsbD_and_not_bit6 _ j
  have same : k.switchSweepOk n j sweep = l.switchSweepOk n j sweep := rfl
  clear_value k
  split
  next ok => exact ⟨ended, fun bad => absurd (same.symm.trans ok) (Bool.eq_false_iff.1 bad)⟩
  next =>
    have failed : Lane.Near (allBut [517]) k (k.failSwitch n j R.BI_EVT_SWFAIL) :=
      Lane.failSwitch_near (by decide +kernel) (.refl _ s) ⟨inEvt ev_BI_EVT (by decide +kernel), rfl⟩
    have same : (k.failSwitch n j R.BI_EVT_SWFAIL).reh.sweepAsked = k.reh.sweepAsked :=
      failed.reh.sweepAsked (by decide +kernel)
    refine ⟨(congrArg (fun v : Vector (BitVec 6) 4 => v[n].getLsbD j.val) same).trans ended, fun _ => ?_⟩
    unfold Lane.failSwitch
    have put : (k.putBit R.BI_SWFAIL_SW (6 * n.val + j.val) true).Sound i := s.put _ _
    generalize k.putBit R.BI_SWFAIL_SW (6 * n.val + j.val) true = q at put
    have followed : Lane.Near (allBut [322]) (q.raise R.BI_EVT_SWFAIL) ((q.raise R.BI_EVT_SWFAIL).afterUnav n) :=
      Lane.afterUnav_near (by decide +kernel) (.refl _ (put.raise _))
    exact followed.flag (by decide +kernel) is_BI_EVT rfl (Lane.flag_raise put.wf R.BI_EVT_SWFAIL (by decide) rfl)

/-- LEAK_CHECK_END (R142). -/
theorem does_leakCheckEnd (e : At) (n : Axis) (j : Switch) (r : LeakResult) (sweep : SwitchSweep) (s : State)
    (hs : s.Powered e) : Does (.leakCheckEnd e n j r sweep) s (setOutParts ++ [.reg R.BI_SWFAIL, .reg (R.GD_FAULT 0),
      .reg (R.GD_LKCTL 0)]) fun l m =>
      ((∀ x ∈ (l.ax n).leak.running, x.1 ≠ j) → m = l) ∧
      (∀ t, (l.ax n).leak.running.find? (fun x => x.1 == j) = some (j, t) → l.now < t + us 20 → m = l) ∧
      (∀ t, (l.ax n).leak.running.find? (fun x => x.1 == j) = some (j, t) → t + us 20 ≤ l.now →
        (∀ x ∈ (m.ax n).leak.running, x.1 ≠ j) ∧
        (r = .void → m.flag (R.GD_EVT_LKVOID n) = true ∧ m.get (R.GD_LKCTL_REQ n) = l.get (R.GD_LKCTL_REQ n)) ∧
        (r = .fail → l.bit (R.GD_LKCTL_FAIL1 n) j.val = false →
          m.flag (R.GD_EVT_LKFAIL n) = true ∧ m.bit (R.GD_LKCTL_FAIL1 n) j.val = true ∧
          m.get (R.GD_LKCTL_REQ n) = l.get (R.GD_LKCTL_REQ n)) ∧
        (r = .fail → l.bit (R.GD_LKCTL_FAIL1 n) j.val = true → m.bit (R.GD_FAULT_LEAK n) j.val = true) ∧
        (r = .pass → m.bit (R.GD_LKCTL_PASS n) j.val = true ∧ m.bit (R.GD_LKCTL_REQ n) j.val = false) ∧
        (r ≠ .void → l.reh.sweepAsked[n].getLsbD j.val = true → m.reh.sweepAsked[n].getLsbD j.val = false ∧
          (l.switchSweepOk n j sweep = false → m.flag R.BI_EVT_SWFAIL = true))) := by
  refine does_power hs rfl execLeakCheckEnd_event rfl (by decide +kernel) fun h => ?_
  generalize s.before (.leakCheckEnd e n j r sweep) = l at h
  refine ⟨fun idle => ?_, fun t found early => ?_, fun t found late => ?_⟩
  · have none : (l.ax n).leak.running.find? (fun x => x.1 == j) = none :=
      List.find?_eq_none.2 fun x hx => by rw [beq_iff_eq]; exact idle x hx
    rw [none]
  · rw [found]
    exact if_neg fun g => absurd (of_decide_eq_true g) (Nat.not_le_of_lt early)
  · rw [found]
    dsimp only
    rw [if_pos (show l.since t (us 20) = true from decide_eq_true late)]
    let k := l.onAx n fun a => { a with leak := ⟨a.leak.running.filter fun x => x.1 != j⟩ }
    have sk : k.Sound e.lane := h.onAx n _
    have gone : ∀ x ∈ (k.ax n).leak.running, x.1 ≠ j := fun x hx => by
      unfold k at hx
      rw [Lane.ax_onAx_self] at hx
      exact bne_iff_ne.1 (List.mem_filter.1 hx).2
    let q := k.leakResult n j r
    have rests : k.Rests e.lane n 14 q := Lane.leakResult_rests sk n j r
    have sweeps : Lane.Near (allBut [126, 517]) k q := Lane.leakResult_near (by decide +kernel) (.refl _ sk)
    have thr : q.get (R.GD_VDS_THR n) = l.get (R.GD_VDS_THR n) := sweeps.keep (at_GD_VDS n.isLt).1 (by decide +kernel)
    have sameSweep : q.switchSweepOk n j sweep = l.switchSweepOk n j sweep := by
      unfold Lane.switchSweepOk Lane.ceilingLevel
      rw [thr]
    have sameAsked : q.reh.sweepAsked = l.reh.sweepAsked := sweeps.reh.sweepAsked (by decide +kernel)
    let m := q.endSharedSweep n j r sweep
    have near : Lane.Near (allBut [130, 136, 322]) q m := Lane.endSharedSweep_near rests.sound n j r sweep
    have control {f : Fld} (hf : f.addr = R.GD_LKCTL n) : m.get f = q.get f :=
      near.keep (hf ▸ (at_GD_LKCTL n.isLt).1) (by decide +kernel)
    change (∀ x ∈ (m.ax n).leak.running, x.1 ≠ j) ∧ (_ → m.flag _ = true ∧ m.get _ = l.get _) ∧ (_ → _ → m.flag _ = true ∧
      m.bit _ _ = true ∧ m.get _ = l.get _) ∧ (_ → _ → m.bit _ _ = true) ∧ (_ → m.bit _ _ = true ∧ m.bit _ _ = false) ∧
      (_ → _ → m.reh.sweepAsked[n].getLsbD j.val = false ∧ (_ → m.flag _ = true))
    refine ⟨fun x hx => gone x (rests.checks x ((Lane.Rests.refl (by decide) rests.sound).endSharedSweep j r sweep |>.checks x hx)),
      ?_, ?_, ?_, ?_, fun valid asked => ?_⟩
    · rintro rfl
      obtain ⟨noted, event⟩ := Lane.leakResult_void sk n j
      exact ⟨near.flag (by decide +kernel) (is_GD_EVT n.isLt) rfl event,
        (control rfl).trans (noted.keep (at_GD_LKCTL n.isLt).1 (by decide +kernel))⟩
    · rintro rfl first
      obtain ⟨-, event, failed, request⟩ := Lane.leakResult_fail_first sk first
      exact ⟨near.flag (by decide +kernel) (is_GD_EVT n.isLt) rfl event, (Lane.bit_of_get (control rfl) _).trans failed,
        (control rfl).trans request⟩
    · rintro rfl again
      exact (Lane.bit_of_get (near.keep (at_GD_FAULT n.isLt).1 (by decide +kernel)) _).trans
        (Lane.leakResult_fail_again sk again).2
    · rintro rfl
      obtain ⟨-, passed, withdrawn⟩ := Lane.leakResult_pass sk n j
      exact ⟨(Lane.bit_of_get (control rfl) _).trans passed, (Lane.bit_of_get (control rfl) _).trans withdrawn⟩
    · rw [← sameSweep]
      exact Lane.endSharedSweep_asked rests.sound valid (by rw [sameAsked]; exact asked)

/-- Settles O25, command by command. -/
theorem refreshAndLeakCheck : Obligations.RefreshAndLeakCheck := by
  unfold Obligations.RefreshAndLeakCheck
  exact ⟨does_refreshTimerRestart, does_refreshPending, does_refreshInsert, does_refreshLate, does_leakCheckRequest,
    does_leakCheckStart, does_leakCheckEnd⟩

end Sys2Proof.Machine

/-!
PROOFS. Trips, the Tier 1 decision, dead time, gate-off failure and fault clear (R118, R119, R122, R123, R127, R129).
-/

namespace Sys2Proof.Machine

-- one declaration at a time: each waits for the kernel, and a waiting one holds a thread and its stack
set_option Elab.async false

/-! ### Unavailable switches -/

@[simp] theorem peerOf_peerOf (j : Switch) : peerOf (peerOf j) = j := by
  fin_cases j <;> rfl

theorem Lane.bit_UNAV (l : Lane) (n : Axis) (j : Switch) : l.bit (R.GD_STAT_UNAV n) j.val = (l.unav n).getLsbD j.val :=
  (getLsbD_ofNat_six _ j).symm

/-- A trip not yet decided makes its switch unavailable (R127). -/
theorem Lane.unavCauses_of_trip {l : Lane} {n : Axis} {x : Switch × Bool} (h : x ∈ (l.ax n).prot.trips) :
    (l.unavCauses n).getLsbD x.1.val = true := by
  have tripped : ((l.ax n).prot.trips.any fun y => y.1 == x.1) = true := List.any_eq_true.2 ⟨x, h, beq_self_eq_true _⟩
  unfold Lane.unavCauses
  simp only [BitVec.getLsbD_or, getLsbD_bits6, tripped, Bool.or_true, Bool.true_or]

/-- A gate-off failure makes its switch unavailable (R119). -/
theorem Lane.unavCauses_of_gstk {l : Lane} {n : Axis} {j : Switch} (h : l.bit (R.GD_FAULT_GSTK n) j.val = true) :
    (l.unavCauses n).getLsbD j.val = true := by
  have stuck : (BitVec.ofNat 6 (l.get (R.GD_FAULT_GSTK n))).getLsbD j.val = true := (getLsbD_ofNat_six _ j).trans h
  unfold Lane.unavCauses
  simp only [BitVec.getLsbD_or, stuck, Bool.or_true, Bool.true_or]

/-- The mask of unavailable switches leaves the axis state. -/
theorem Lane.axst_markUnav {l : Lane} {i : LaneId} (h : l.Sound i) (n : Axis) : (l.markUnav n).axst n = l.axst n := by
  unfold Lane.markUnav
  extract_lets w l1 l2
  have s1 : l1.Sound i := h.put _ _
  calc (l2.putFlag (R.DC_STAT_TBLDEG n) (count6 w == 1)).axst n = l2.axst n :=
        Lane.axst_put (g := R.DC_STAT_TBLDEG n) (s1.put _ _).wf _ fun _ => (show 4 ≤ 19 by decide)
    _ = l1.axst n := Lane.axst_put (g := R.DC_STAT_SWAVAIL n) s1.wf _ fun _ => (show 4 ≤ 24 by decide)
    _ = l.axst n := Lane.axst_put h.wf _ fun e => absurd e fun e => (by
        change 0x070014 + 0x1000 * n.val = 0x060004 + 0x1000 * n.val at e
        omega)

/-! ### Trips -/

/-- A trip turns its switch off with the soft sink and makes it unavailable (R125, R127). -/
theorem Lane.tripSwitch_effects {l : Lane} {i : LaneId} (h : l.Sound i) {n : Axis} {j : Switch} (c : Bool)
    (conducts : (l.on n).getLsbD j.val = true ∨ l.turningOff n j = true) :
    (l.tripSwitch n j c).flag (if c then R.GD_EVT_CEIL n else R.GD_EVT_VDS n) = true ∧
    ((l.tripSwitch n j c).on n).getLsbD j.val = false ∧ (l.tripSwitch n j c).bit (R.GD_STAT_UNAV n) j.val = true ∧
    ((l.tripSwitch n j c).ax n).sw.soft.getLsbD j.val = true := by
  unfold Lane.tripSwitch
  rw [if_pos (Bool.or_eq_true _ _ ▸ conducts)]
  extract_lets l1 l2 l3
  have s1 : l1.Sound i := h.raise _
  have raised : l1.flag (if c then R.GD_EVT_CEIL n else R.GD_EVT_VDS n) = true := by
    cases c
    · exact Lane.flag_raise h.wf (R.GD_EVT_VDS n) (show 0 < 32 by decide) rfl
    · exact Lane.flag_raise h.wf (R.GD_EVT_CEIL n) (show 1 < 32 by decide) rfl
  have events : isEvt (if c then R.GD_EVT_CEIL n else R.GD_EVT_VDS n).addr = true := by
    cases c
    · exact is_GD_EVT n.isLt
    · exact is_GD_EVT n.isLt
  have single : (if c then R.GD_EVT_CEIL n else R.GD_EVT_VDS n).width = 1 := by
    cases c
    · rfl
    · rfl
  have aborted : Lane.Near (allBut [322]) l1 l2 :=
    Lane.voidAxis_near (by decide +kernel) (Lane.leakAbort_near (by decide +kernel) (.refl _ s1))
  have s2 := aborted.place s1
  let k := l2.onAx n fun a => { a with prot := { a.prot with trips := a.prot.trips ++ [(j, c)] } }
  have sk : k.Sound i := s2.onAx n _
  have tripped : (k.unavCauses n).getLsbD j.val = true := by
    refine Lane.unavCauses_of_trip (x := (j, c)) ?_
    unfold k
    rw [Lane.ax_onAx_self]
    exact List.mem_append_right _ (List.mem_singleton_self _)
  have followed : Lane.Near (allBut [322]) k (k.afterUnav n) := Lane.afterUnav_near (by decide +kernel) (.refl _ sk)
  obtain ⟨-, unav, off⟩ := Lane.afterUnav_effects sk n
  refine ⟨followed.flag (f := if c then R.GD_EVT_CEIL n else R.GD_EVT_VDS n) (by decide +kernel) events single
    (aborted.flag (by decide +kernel) events single raised), off j (.inl tripped), ?_, ?_⟩
  · show (k.afterUnav n).bit _ _ = true
    rw [Lane.bit_UNAV, unav, tripped]
  · rw [Lane.ax_onAx_self]
    show (_ ||| bit6 j).getLsbD j.val = true
    rw [BitVec.getLsbD_or, getLsbD_bit6, beq_self_eq_true, Bool.or_true]

/-- Without a switch that is on or turns off there is nothing to trip (R125). -/
theorem Lane.tripSwitch_of_off {l : Lane} {n : Axis} {j : Switch} (off : (l.on n).getLsbD j.val = false)
    (quiet : l.turningOff n j = false) (c : Bool) : l.tripSwitch n j c = l :=
  if_neg (by rw [off, quiet]; exact Bool.false_ne_true)

/-- VDS_TRIP (R122). -/
theorem does_vdsTrip (e : At) (n : Axis) (j : Switch) (vds : Nat) (s : State) (hs : s.Powered e) :
    Does (.vdsTrip ⟨e, vds⟩ n j) s (setOutParts ++ [.axProt]) fun l m =>
      (vds ≤ l.get (R.GD_VDS_THR n) → m = l) ∧ (l.onFor n j (40 * l.get (R.GD_VDS_BLANK n)) = false → m = l) ∧
      ((l.on n).getLsbD j.val = false → l.turningOff n j = false → m = l) ∧
      (l.get (R.GD_VDS_THR n) < vds → l.onFor n j (40 * l.get (R.GD_VDS_BLANK n)) = true →
        ((l.on n).getLsbD j.val = true ∨ l.turningOff n j = true) →
        m.flag (R.GD_EVT_VDS n) = true ∧ (m.on n).getLsbD j.val = false ∧ m.bit (R.GD_STAT_UNAV n) j.val = true ∧
        (m.ax n).sw.soft.getLsbD j.val = true) := by
  refine does_power hs rfl execVdsTrip_event rfl (by decide +kernel) fun h => ?_
  generalize s.before (.vdsTrip ⟨e, vds⟩ n j) = l at h
  refine ⟨fun low => if_neg fun g => absurd g.1 (Nat.not_lt_of_le low), fun blank => if_neg fun g => ?_,
    fun off quiet => ?_, fun above past conducts => ?_⟩
  · exact Bool.eq_false_iff.1 blank g.2
  · rw [Lane.tripSwitch_of_off off quiet]
    exact ite_self l
  · rw [if_pos ⟨above, past⟩]
    exact Lane.tripSwitch_effects h false conducts

/-- CEILING_TRIP (R123). -/
theorem does_ceilingTrip (e : At) (n : Axis) (j : Switch) (vds vgs : Nat) (s : State) (hs : s.Powered e) :
    Does (.ceilingTrip ⟨e, vds, vgs⟩ n j) s (setOutParts ++ [.axProt]) fun l m =>
      (vds ≤ l.ceilingLevel n → m = l) ∧ (vgs < Config.armLevel → m = l) ∧
      ((l.on n).getLsbD j.val = false → l.turningOff n j = false → m = l) ∧
      (l.ceilingLevel n < vds → Config.armLevel ≤ vgs → ((l.on n).getLsbD j.val = true ∨ l.turningOff n j = true) →
        m.flag (R.GD_EVT_CEIL n) = true ∧ (m.on n).getLsbD j.val = false ∧ m.bit (R.GD_STAT_UNAV n) j.val = true ∧
        (m.ax n).sw.soft.getLsbD j.val = true) := by
  refine does_power hs rfl execCeilingTrip_event rfl (by decide +kernel) fun h => ?_
  generalize s.before (.ceilingTrip ⟨e, vds, vgs⟩ n j) = l at h
  refine ⟨fun low => if_neg fun g => absurd g.1 (Nat.not_lt_of_le low),
    fun unarmed => if_neg fun g => absurd g.2 (Nat.not_le_of_lt unarmed), fun off quiet => ?_, fun above armed conducts => ?_⟩
  · rw [Lane.tripSwitch_of_off off quiet]
    exact ite_self l
  · rw [if_pos ⟨above, armed⟩]
    exact Lane.tripSwitch_effects h true conducts

/-! ### The Tier 1 decision -/

theorem count6_bit6 (j : Switch) : count6 (bits6 fun k => j == k) = 1 := by
  revert j
  decide

theorem count6_two {j k : Switch} (h : j ≠ k) : count6 (bits6 fun x => j == x || k == x) = 2 := by
  revert j k
  decide

/-- A confirmed trip shows in the fault bit of its kind (R127). -/
theorem Lane.bit_confirmTrip {l : Lane} {i : LaneId} (h : l.Sound i) (n : Axis) (j : Switch) (c : Bool) :
    (l.confirmTrip n (j, c)).bit (if c then R.GD_FAULT_CEIL n else R.GD_FAULT_VDS n) j.val = true := by
  cases c
  · exact Lane.bit_putBit h.wf (R.GD_FAULT_VDS n) (show 0 + 6 ≤ 32 by decide) j.isLt true
  · exact Lane.bit_putBit h.wf (R.GD_FAULT_CEIL n) (show 6 + 6 ≤ 32 by decide) j.isLt true

/-- TIER1_DECISION (R127). -/
theorem does_tier1Decision (e : At) (n : Axis) (s : State) (hs : s.Runs e) :
    Does (.tier1Decision e n) s (setOutParts ++ [.reg (R.GD_FAULT 0), .log, .axProt]) fun l m =>
      ((l.ax n).prot.trips = [] → m = l) ∧
      (∀ j c, (l.ax n).prot.trips = [(j, c)] → m.flag (R.GD_EVT_T1DEG n) = true ∧
        m.bit (if c then R.GD_FAULT_CEIL n else R.GD_FAULT_VDS n) j.val = true) ∧
      (∀ j k b c, j ≠ k → (l.ax n).prot.trips = [(j, b), (k, c)] → l.inService n = true →
        m.flag (R.GD_EVT_T1OUT n) = true ∧ m.flag (R.DC_EVT_OUTSVC n) = true) := by
  refine does_logic hs rfl execTier1Decision_event rfl (by decide +kernel) fun h => ?_
  generalize s.before (.tier1Decision e n) = l at h
  refine ⟨fun none => ?_, fun j c one => ?_, fun j k b c ne two served => ?_⟩
  · rw [none]
    exact if_pos rfl
  · extract_lets ts hit l1 l2
    have single : hit = bits6 fun k => j == k := by
      unfold hit ts
      rw [one]
      exact congrArg bits6 (funext fun k => Bool.or_false _)
    have hits : ¬hit = 0 := ne_zero_of_getLsbD (j := j.val) (by rw [single, getLsbD_bits6, beq_self_eq_true])
    have s0 := h.raise (R.GD_EVT_T1DEG n)
    have raised := Lane.flag_raise h.wf (R.GD_EVT_T1DEG n) (show 14 < 32 by decide) rfl
    have confirmed : l1 = (l.raise (R.GD_EVT_T1DEG n)).confirmTrip n (j, c) := by
      unfold l1 ts
      rw [one]
      rfl
    have noted : Lane.Near (allBut [322]) (l.raise (R.GD_EVT_T1DEG n)) l1 :=
      confirmed ▸ Lane.confirmTrip_near (by decide +kernel) (.refl _ s0)
    have fault : l1.bit (if c then R.GD_FAULT_CEIL n else R.GD_FAULT_VDS n) j.val = true :=
      confirmed ▸ Lane.bit_confirmTrip s0 n j c
    have faults : (if c then R.GD_FAULT_CEIL n else R.GD_FAULT_VDS n).addr = R.GD_FAULT n := by
      cases c
      · rfl
      · rfl
    clear_value l1
    have done : Lane.Near (allBut [130, 322]) l1 ((l1.onAx n fun a => { a with prot := { a.prot with trips := [] } }).afterUnav n) :=
      Lane.afterUnav_near (by decide +kernel) (Lane.onAx_near (.mk kp kp kp (not_bit (by decide +kernel)) kp kp kp kp kp)
        (.refl _ (noted.place s0)))
    rw [if_neg hits, if_pos (single ▸ count6_bit6 j)]
    exact ⟨done.flag (by decide +kernel) (is_GD_EVT n.isLt) rfl (noted.flag (by decide +kernel) (is_GD_EVT n.isLt) rfl raised),
      (Lane.bit_of_get (done.keep (faults ▸ (at_GD_FAULT n.isLt).1) (by decide +kernel)) _).trans fault⟩
  · extract_lets ts hit l1 l2
    have double : hit = bits6 fun x => j == x || k == x := by
      unfold hit ts
      rw [two]
      exact congrArg bits6 (funext fun x => congrArg _ (Bool.or_false _))
    have hits : ¬hit = 0 := ne_zero_of_getLsbD (j := j.val) (by
      rw [double, getLsbD_bits6, beq_self_eq_true, Bool.true_or])
    have wide : ¬count6 hit = 1 := by
      rw [double, count6_two ne]
      decide
    rw [if_neg hits, if_neg wide]
    have s2 : l2.Sound e.lane := h.onAx n _
    have served2 : l2.inService n = true := served
    clear_value l2
    have s3 := s2.raise (R.GD_EVT_T1OUT n)
    have raised := Lane.flag_raise s2.wf (R.GD_EVT_T1OUT n) (show 15 < 32 by decide) rfl
    have noted : Lane.Near (allBut [89]) l2 (l2.raise (R.GD_EVT_T1OUT n)) :=
      Lane.raise_near (inEvt (ev_GD_EVT n.isLt) (by decide +kernel)) rfl (.refl _ s2)
    have marked : Lane.Near (allBut [322]) (l2.raise (R.GD_EVT_T1OUT n)) ((l2.raise (R.GD_EVT_T1OUT n)).markUnav n) :=
      Lane.markUnav_near (by decide +kernel) (.refl _ s3)
    have serving : ((l2.raise (R.GD_EVT_T1OUT n)).markUnav n).inService n = true := by
      unfold Lane.inService
      rw [Lane.axst_markUnav s3, noted.axst (by decide +kernel)]
      exact served2
    have out : Lane.Near (allBut [322]) _ (((l2.raise (R.GD_EVT_T1OUT n)).markUnav n).setOut n) :=
      Lane.setOut_near (by decide +kernel) marked
    exact ⟨out.flag (by decide +kernel) (is_GD_EVT n.isLt) rfl raised, Lane.flag_OUTSVC_setOut (marked.place s3) serving⟩

/-! ### Gate-off failure and fault clear -/

/-- GATE_OFF_FAILURE (R119). -/
theorem does_gateOffFailure (e : At) (n : Axis) (j : Switch) (vgs : Nat) (s : State) (hs : s.Powered e) :
    Does (.gateOffFailure ⟨e, vgs⟩ n j) s (setOutParts ++ [.reg (R.GD_FAULT 0)]) fun l m =>
      (vgs ≤ 200 → m = l) ∧ ((l.ax n).sw.cmd.getLsbD j.val = true → m = l) ∧
        (l.now < (l.ax n).sw.offAt[j] + us 2 → m = l) ∧
      (200 < vgs → (l.ax n).sw.cmd.getLsbD j.val = false → (l.ax n).sw.offAt[j] + us 2 ≤ l.now →
        m.flag (R.GD_EVT_GSTK n) = true ∧ m.bit (R.GD_FAULT_GSTK n) j.val = true ∧
          m.bit (R.GD_STAT_UNAV n) j.val = true ∧
        (m.on n).getLsbD (peerOf j).val = false) := by
  refine does_power hs rfl execGateOffFailure_event rfl (by decide +kernel) fun h => ?_
  generalize s.before (.gateOffFailure ⟨e, vgs⟩ n j) = l at h
  refine ⟨fun low => if_pos (.inl low), fun on => if_pos (.inr (.inl on)), fun early => ?_,
    fun high off late => ?_⟩
  · have runs : l.since (l.ax n).sw.offAt[j] (us 2) = false := decide_eq_false (Nat.not_le_of_lt early)
    exact if_pos (.inr (.inr (by rw [runs]; rfl)))
  · have acts : ¬(vgs ≤ 200 ∨ (l.ax n).sw.cmd.getLsbD j.val = true ∨ (!l.since (l.ax n).sw.offAt[j] (us 2)) = true) := by
      rintro (low | on | early)
      · exact absurd low (Nat.not_le_of_lt high)
      · exact Bool.eq_false_iff.1 off on
      · rw [show l.since (l.ax n).sw.offAt[j] (us 2) = true from decide_eq_true late] at early
        cases early
    dsimp only
    rw [if_neg acts]
    have aborted : (l.leakAbort n).Sound e.lane := (Lane.leakAbort_near (M := allBut []) (by decide +kernel) (.refl _ h)).place h
    have s1 := aborted.raise (R.GD_EVT_GSTK n)
    have raised := Lane.flag_raise aborted.wf (R.GD_EVT_GSTK n) (show 5 < 32 by decide) rfl
    have stuck := Lane.bit_putBit s1.wf (R.GD_FAULT_GSTK n) (show 18 + 6 ≤ 32 by decide) (j := j.val) j.isLt true
    have faulted : Lane.Near (allBut [322]) ((l.leakAbort n).raise (R.GD_EVT_GSTK n))
        (((l.leakAbort n).raise (R.GD_EVT_GSTK n)).putBit (R.GD_FAULT_GSTK n) j.val true) :=
      Lane.putBit_near (inReg (at_GD_FAULT n.isLt) (by decide +kernel)) (.refl _ s1)
    have event := faulted.flag (by decide +kernel) (is_GD_EVT n.isLt) rfl raised
    have s2 := faulted.place s1
    generalize ((l.leakAbort n).raise (R.GD_EVT_GSTK n)).putBit (R.GD_FAULT_GSTK n) j.val true = k at stuck event s2
    have followed : Lane.Near (allBut [130, 322]) k (k.afterUnav n) := Lane.afterUnav_near (by decide +kernel) (.refl _ s2)
    obtain ⟨-, unav, barred⟩ := Lane.afterUnav_effects s2 n
    refine ⟨followed.flag (by decide +kernel) (is_GD_EVT n.isLt) rfl event,
      (Lane.bit_of_get (followed.keep (at_GD_FAULT n.isLt).1 (by decide +kernel)) _).trans stuck, ?_,
      barred _ (.inr (by rw [peerOf_peerOf]; exact stuck))⟩
    rw [Lane.bit_UNAV, unav]
    exact Lane.unavCauses_of_gstk stuck

/-- The fields of one bit per switch of GD_FAULT, from bit 0 up: VDS, CEIL, LEAK, GSTK, BLAT. -/
def faultField (n : Axis) (k : Nat) : Fld := ⟨R.GD_FAULT n, 6 * k, 6⟩

/-- A bit cleared reads 0. -/
theorem Lane.bit_clearBits {l : Lane} (h : RegFile.wf l.id l.regs = true) {f : Fld} (hf : f.lo + f.width ≤ 32) {m : BitVec 6}
    {j : Switch} (hj : m.getLsbD j.val = true) : (l.clearBits f m).bit f j.val = false := by
  unfold Lane.bit Lane.clearBits
  rw [Lane.get_put h _ _ hf, Nat.testBit_mod_two_pow, BitVec.testBit_toNat, BitVec.getLsbD_and, BitVec.getLsbD_not, hj]
  simp

/-- The faults of the switches `m` are clear from the field `b` of GD_FAULT up. -/
def Lane.FaultsClear (i : LaneId) (n : Axis) (m : BitVec 6) (b : Nat) (l : Lane) : Prop :=
  l.Sound i ∧ ∀ k, b ≤ k → k < 5 → ∀ j : Switch, m.getLsbD j.val = true → l.bit (faultField n k) j.val = false

theorem Lane.FaultsClear.next {i : LaneId} {n : Axis} {m : BitVec 6} {b : Nat} {l : Lane} (h : l.FaultsClear i n m (b + 1))
    (hb : b < 5) : (l.clearBits (faultField n b) m).FaultsClear i n m b := by
  obtain ⟨s, clear⟩ := h
  refine ⟨s.put _ _, fun k hk hk5 j hj => ?_⟩
  rcases Nat.eq_or_lt_of_le hk with rfl | past
  · exact Lane.bit_clearBits s.wf (show 6 * b + 6 ≤ 32 by omega) hj
  · rw [← clear k past hk5 j hj]
    exact Lane.bit_of_get (Lane.get_put_of_disjoint (f := faultField n b) (g := faultField n k) s.wf _ rfl (show 6 * k + 6 ≤ 32 by omega)
      (.inl (show 6 * b + 6 ≤ 6 * k by omega))) _

/-- FAULT_CLEAR (R129). -/
theorem does_faultClear (e : At) (n : Axis) (mask : BitVec 6) (s : State) (hs : s.Runs e) :
    Does (.faultClear e n mask) s (setOutParts ++ [.reg (R.GD_FAULT 0)]) fun l m =>
      (l.mode ≠ .workshop → m = l) ∧
      (∀ j : Switch, l.mode = .workshop → mask.getLsbD j.val = true →
        m.bit (R.GD_FAULT_VDS n) j.val = false ∧ m.bit (R.GD_FAULT_CEIL n) j.val = false ∧
        m.bit (R.GD_FAULT_LEAK n) j.val = false ∧ m.bit (R.GD_FAULT_GSTK n) j.val = false ∧
        m.bit (R.GD_FAULT_BLAT n) j.val = false) := by
  refine does_logic hs rfl execFaultClear_event rfl (by decide +kernel) fun h => ?_
  generalize s.before (.faultClear e n mask) = l at h
  refine ⟨fun mode => if_neg mode, fun j mode hj => ?_⟩
  rw [if_pos mode]
  have start : l.FaultsClear e.lane n mask 5 := ⟨h, fun k low high => absurd high (Nat.not_lt_of_le low)⟩
  have cleared := ((((start.next (by decide)).next (by decide)).next (by decide)).next (by decide)).next (by decide)
  unfold Lane.clearFaults
  change Lane.FaultsClear e.lane n mask 0 (((((l.clearBits (R.GD_FAULT_BLAT n) mask).clearBits (R.GD_FAULT_GSTK n)
    mask).clearBits (R.GD_FAULT_LEAK n) mask).clearBits (R.GD_FAULT_CEIL n) mask).clearBits (R.GD_FAULT_VDS n) mask) at cleared
  generalize ((((l.clearBits (R.GD_FAULT_BLAT n) mask).clearBits (R.GD_FAULT_GSTK n) mask).clearBits (R.GD_FAULT_LEAK n)
    mask).clearBits (R.GD_FAULT_CEIL n) mask).clearBits (R.GD_FAULT_VDS n) mask = q at cleared
  obtain ⟨sound, clear⟩ := cleared
  have followed : Lane.Near (allBut [130]) q (q.afterUnav n) := Lane.afterUnav_near (by decide +kernel) (.refl _ sound)
  have kept (k : Nat) (hk : k < 5) : (q.afterUnav n).bit (faultField n k) j.val = false :=
    (Lane.bit_of_get (followed.keep (at_GD_FAULT n.isLt).1 (by decide +kernel)) _).trans (clear k (Nat.zero_le k) hk j hj)
  exact ⟨kept 0 (by decide), kept 1 (by decide), kept 2 (by decide), kept 3 (by decide), kept 4 (by decide)⟩

end Sys2Proof.Machine

/-!
PROOFS. DEAD_TIME_END: when a switch turns on, and what becomes of it (R91, R118, R136, R359).
-/

namespace Sys2Proof.Machine

-- one declaration at a time: each waits for the kernel, and a waiting one holds a thread and its stack
set_option Elab.async false

/-- What the turn-on of a switch asks for (R118, R124). -/
theorem Lane.mayTurnOn_iff {l : Lane} {n : Axis} {j : Switch} {peerLow inside : Bool} :
    l.mayTurnOn n j peerLow inside = true ↔
      (l.ax n).sw.cmd.getLsbD j.val = true ∧ (l.on n).getLsbD j.val = false ∧ (l.on n).getLsbD (peerOf j).val = false ∧
      (l.ax n).sw.cmd.getLsbD (peerOf j).val = false ∧ peerLow = true ∧
      (l.ax n).sw.offAt[peerOf j] + 40 * l.get (R.GD_DT_DT n) ≤ l.now ∧
      l.bit (R.GD_FAULT_GSTK n) (peerOf j).val = false ∧
      (inside = true ∨ (l.ax n).sw.peakHeld.getLsbD j.val = false) := by
  unfold Lane.mayTurnOn Lane.since Lane.deadTime
  simp only [Bool.and_eq_true, Bool.or_eq_true, Bool.not_eq_true', decide_eq_true_eq, and_assoc]

/-- The switch is on once it has turned on; a low side, and a high side whose gate rose in time, fail nothing (R359). -/
theorem Lane.on_turnOn {l : Lane} {i : LaneId} (h : l.Sound i) (n : Axis) {j : Switch} {gateOk : Bool}
    (passes : j.val % 2 = 1 ∨ gateOk = true) : (l.turnOn n j gateOk).on n = l.on n ||| bit6 j := by
  have judged : ¬((j.val % 2 == 0 && !(l.ax n).sw.looped.getLsbD j.val) && !gateOk) = true := by
    rcases passes with odd | good
    · rw [odd]
      exact Bool.false_ne_true
    · rw [good]
      exact Bool.eq_false_iff.1 (Bool.and_false _)
  unfold Lane.turnOn
  extract_lets _ k
  exact (congrArg (fun m => Lane.on m n) (if_neg judged)).trans (Lane.on_setOn h.wf n _)

/-- A turn-on that the rate limits hold back leaves the switches and is noted, by the understudy's flag or among the held
requests of the pins (R91, R117). -/
theorem Lane.holdTurnOn_effects {l : Lane} {i : LaneId} (h : l.Sound i) (n : Axis) (j : Switch) :
    (l.holdTurnOn n j).on n = l.on n ∧
    (l.internal n = true → (l.holdTurnOn n j).flag (R.DC_STAT_RATEHOLD n) = true) ∧
    (l.internal n = false → ((l.holdTurnOn n j).ax n).sw.ginHeld.getLsbD j.val = true) := by
  have near : Lane.Near (allBut [129]) l (l.holdTurnOn n j) := Lane.holdTurnOn_near (by decide +kernel) (.refl _ h)
  refine ⟨near.on (by decide +kernel) n, fun inner => ?_, fun outer => ?_⟩
  · rw [show l.holdTurnOn n j = l.holdRate n from if_pos inner]
    unfold Lane.holdRate
    extract_lets k
    have s : k.Sound i := (Lane.when_near (M := allBut []) (.refl _ h) fun _ g =>
      Lane.bump_near (inReg (at_DC_CNT n.isLt) (by decide +kernel)) g).place h
    exact Lane.flag_raise s.wf _ (show 16 < 32 by decide) rfl
  · rw [show l.holdTurnOn n j = l.holdGin n ((l.ax n).sw.ginHeld ||| bit6 j) from if_neg (Bool.eq_false_iff.1 outer)]
    unfold Lane.holdGin
    extract_lets fresh
    rw [Lane.ax_onAx_self]
    dsimp only
    rw [BitVec.getLsbD_or, getLsbD_bit6, beq_self_eq_true, Bool.or_true]

/-- DEAD_TIME_END (R118). -/
theorem does_deadTimeEnd (e : At) (n : Axis) (j : Switch) (peerLow inside gateOk above : Bool) (s : State)
    (hs : s.Powered e) : Does (.deadTimeEnd ⟨e, peerLow, above⟩ n j inside gateOk) s (setOutParts ++
      [.reg R.BI_SWFAIL, .reg (R.GD_CNT0 0), .reg (R.GD_CNT1 0)]) fun l m =>
      (peerLow = false → m = l) ∧
      ((l.ax n).sw.cmd.getLsbD j.val = false → m = l) ∧ ((l.ax n).sw.cmd.getLsbD (peerOf j).val = true → m = l) ∧
      ((l.on n).getLsbD (peerOf j).val = true → m = l) ∧
      (l.now < (l.ax n).sw.offAt[peerOf j] + 40 * l.get (R.GD_DT_DT n) → m = l) ∧
      (l.bit (R.GD_FAULT_GSTK n) (peerOf j).val = true → m = l) ∧
      (peerLow = true → inside = true → (l.ax n).sw.cmd.getLsbD j.val = true →
        (l.ax n).sw.cmd.getLsbD (peerOf j).val = false →
        (l.on n).getLsbD j.val = false → (l.on n).getLsbD (peerOf j).val = false →
        (l.ax n).sw.offAt[peerOf j] + 40 * l.get (R.GD_DT_DT n) ≤ l.now →
          l.bit (R.GD_FAULT_GSTK n) (peerOf j).val = false →
        (l.rank3 n = none → l.rateOk n j = false → m.on n = l.on n ∧
          (l.internal n = true → m.flag (R.DC_STAT_RATEHOLD n) = true) ∧
          (l.internal n = false → (m.ax n).sw.ginHeld.getLsbD j.val = true)) ∧
        (l.rank3 n ≠ none ∨ l.rateOk n j = true →
          (j.val % 2 = 1 → m.on n = l.on n ||| bit6 j) ∧
          (j.val % 2 = 0 → (l.ax n).refresh.due.getLsbD (phaseOf j).val = false → gateOk = true →
            m.on n = l.on n ||| bit6 j) ∧
          (j.val % 2 = 0 → (l.ax n).refresh.due.getLsbD (phaseOf j).val = true →
            l.mayInsert n (bit3 (phaseOf j)) (if above then bit3 (phaseOf j) else 0) = true →
            m.flag (R.GD_EVT_REFINS n) = true ∧ (m.ax n).refresh.inserting.getLsbD (phaseOf j).val = true))) := by
  refine does_power hs rfl execDeadTimeEnd_event rfl (by decide +kernel) fun h => ?_
  generalize s.before (.deadTimeEnd ⟨e, peerLow, above⟩ n j inside gateOk) = l at h
  extract_lets p due
  have waits (no : ¬l.mayTurnOn n j peerLow inside = true) : (!l.mayTurnOn n j peerLow inside) = true := by
    rw [Bool.eq_false_iff.2 no]
    rfl
  refine ⟨fun high => if_pos (waits fun may => ?_), fun off => if_pos (waits fun may => ?_),
    fun peer => if_pos (waits fun may => ?_), fun peer => if_pos (waits fun may => ?_),
    fun early => if_pos (waits fun may => ?_), fun stuck => if_pos (waits fun may => ?_),
    fun low inner cmd peerCmd off peerOff late free => ?_⟩
  · obtain ⟨-, -, -, -, low, -⟩ := Lane.mayTurnOn_iff.1 may
    exact Bool.eq_false_iff.1 high low
  · exact Bool.eq_false_iff.1 off (Lane.mayTurnOn_iff.1 may).1
  · obtain ⟨-, -, -, peerCmd, -⟩ := Lane.mayTurnOn_iff.1 may
    exact Bool.eq_false_iff.1 peerCmd peer
  · obtain ⟨-, -, peerOff, -⟩ := Lane.mayTurnOn_iff.1 may
    exact Bool.eq_false_iff.1 peerOff peer
  · obtain ⟨-, -, -, -, -, late, -⟩ := Lane.mayTurnOn_iff.1 may
    exact absurd late (Nat.not_le_of_lt early)
  · obtain ⟨-, -, -, -, -, -, free, -⟩ := Lane.mayTurnOn_iff.1 may
    exact Bool.eq_false_iff.1 free stuck
  · have may : ¬(!l.mayTurnOn n j peerLow inside) = true := by
      rw [Lane.mayTurnOn_iff.2 ⟨cmd, off, peerOff, peerCmd, low, late, free, .inl inner⟩]
      exact Bool.false_ne_true
    rw [if_neg may]
    refine ⟨fun none slow => ?_, fun allowed => ?_⟩
    · rw [if_pos (by rw [none, slow]; rfl)]
      exact Lane.holdTurnOn_effects h n j
    · have fast : ¬((l.rank3 n).isNone && !l.rateOk n j) = true := by
        rcases allowed with acts | good
        · rw [Option.isNone_eq_false_iff.2 (Option.isSome_iff_ne_none.2 acts)]
          exact Bool.false_ne_true
        · rw [good]
          exact Bool.eq_false_iff.1 (Bool.and_false _)
      have notDue (idle : due = false) (passes : j.val % 2 = 1 ∨ gateOk = true) :
          (if (due && l.mayInsert n (bit3 p) (if above then bit3 p else 0)) = true then l.beginInsert n (bit3 p)
            else (l.when due fun l => l.holdInsert n).turnOn n j gateOk).on n = l.on n ||| bit6 j := by
        rw [idle]
        exact Lane.on_turnOn h n passes
      rw [if_neg fast]
      refine ⟨fun odd => notDue ?_ (.inl odd), fun even idle good => notDue ?_ (.inr good), fun even waiting room => ?_⟩
      · unfold due
        rw [odd]
        rfl
      · unfold due
        rw [idle, Bool.and_false]
      · have isDue : due = true := by
          unfold due
          rw [even, waiting]
          rfl
        rw [if_pos (by rw [isDue]; exact room)]
        obtain ⟨event, inserts, -⟩ := Lane.beginInsert_effects h (p := p) (Lane.rank3_of_mayInsert room)
          (show (bit3 p).getLsbD p.val = true by rw [getLsbD_bit3, beq_self_eq_true])
        exact ⟨event, inserts⟩

end Sys2Proof.Machine

/-!
PROOFS. PEAK_TRIP: the conducting switch goes off and stays off while the trip is counted and the understudy takes its events
(R72, R80, R97, R124, R128).
-/

namespace Sys2Proof.Machine

-- one declaration at a time: each waits for the kernel, and a waiting one holds a thread and its stack
set_option Elab.async false

/-! ### The understudy turns nothing on -/

namespace Lane.Rests

variable {i : LaneId} {n : Axis} {b : Nat} {l m : Lane}

theorem rotorLost (h : l.Rests i n b m) (k : Axis) : l.Rests i n b (m.rotorLost k) := by
  unfold Lane.rotorLost
  extract_lets q again r
  have lost : l.Rests i n b q := h.step (Lane.voidAxis_near (by decide +kernel)
    (Lane.raise_near (inEvt (ev_DC_EVT k.isLt) (by decide +kernel)) rfl (.refl _ h.sound)))
  split
  · exact lost.step (Lane.drop_near (inReg (at_DC_LASTX k.isLt) (by decide +kernel)) (.refl _ lost.sound))
  · split
    · exact lost.setOut k
    · have begins : l.Rests i n b r := lost.onAx k rfl rfl
      have short := begins.step (Lane.setAxst_near (y1 := k) (y2 := .asc) (by decide +kernel) (.refl _ begins.sound))
      exact short.follows (Lane.enterRank3_follows short.sound k)

theorem declareRotor (h : l.Rests i n b m) (k : Axis) : l.Rests i n b (m.declareRotor k) := by
  unfold Lane.declareRotor
  split
  · exact h.rotorLost k
  · exact h

theorem judge (h : l.Rests i n b m) (k : Axis) (out : Bool) : l.Rests i n b (m.judge k out) := by
  unfold Lane.judge
  split
  · split
    · exact h
    · extract_lets c q
      have counted : l.Rests i n b q := h.onAx k rfl rfl
      split
      · exact counted.step (Lane.recatchDone_near (by decide +kernel) (.refl _ counted.sound))
      · exact counted
  · split
    · extract_lets q
      have counted : l.Rests i n b q := h.step (Lane.put_near (inReg (at_DC_LASTX k.isLt) (by decide +kernel)) (.refl _ h.sound))
      split
      · exact counted.declareRotor k
      · exact counted
    · exact h.step (Lane.drop_near (inReg (at_DC_LASTX k.isLt) (by decide +kernel)) (.refl _ h.sound))

theorem takeEvent (h : l.Rests i n b m) (k : Axis) (ev : LadderEvent) : l.Rests i n b (m.takeEvent k ev) := by
  unfold Lane.takeEvent
  extract_lets l1 codes out l2 l3 l4
  have n1 : Lane.Near (allBut bridgeKept) m l1 := Lane.integrate_near (by decide +kernel) (.refl _ h.sound)
  have n3 : Lane.Near (allBut bridgeKept) m l3 :=
    Lane.correct_near (by decide +kernel) (Lane.showEvent_near (by decide +kernel) n1)
  have n4 : Lane.Near (allBut bridgeKept) m l4 := Lane.when_near n3 fun _ g =>
    Lane.onAx_near (.mk (not_bit (by decide +kernel)) kp kp kp kp kp kp kp kp) g
  exact (h.step n4).judge k out

theorem takeEvents (h : l.Rests i n b m) (k : Axis) : l.Rests i n b (m.takeEvents k) := by
  unfold Lane.takeEvents
  extract_lets q
  have events (q : List LadderEvent) : ∀ {m : Lane}, l.Rests i n b m →
      l.Rests i n b (q.foldl (fun l ev => l.takeEvent k ev) m) := by
    induction q with
    | nil => exact fun h => h
    | cons ev q ih => exact fun h => ih (h.takeEvent k ev)
  exact events q (h.onAx k rfl rfl)

theorem decideSwitch (h : l.Rests i n b m) (k : Axis) : l.Rests i n b (m.decideSwitch k) := by
  have compared := h.step (Lane.compare_near (y1 := k) (by decide +kernel)
    (Lane.postWord_near (y1 := k) (by decide +kernel) (.refl _ h.sound)))
  exact compared.follows (Lane.decideSwitch_follows h.sound k)

theorem countPeak (h : l.Rests i n b m) (k : Axis) : l.Rests i n b (m.countPeak k) := by
  unfold Lane.countPeak
  split
  · exact h
  · extract_lets q
    have counted : l.Rests i n b q := h.onAx k rfl rfl
    split
    · exact (counted.step (Lane.raise_near (inEvt (ev_GD_EVT k.isLt) (by decide +kernel)) rfl (.refl _ counted.sound))).setOut k
    · exact counted

end Lane.Rests

/-! ### The conducting switch -/

/-- A switch that a peak trip holds is off (R124). -/
theorem Lane.on_holdPeak {l : Lane} {i : LaneId} (h : l.Sound i) (n : Axis) (j : Switch) :
    (l.holdPeak n j).Sound i ∧ ((l.holdPeak n j).on n).getLsbD j.val = false := by
  unfold Lane.holdPeak
  let k := l.onAx n fun a => { a with sw := { a.sw with
    peakHeld := a.sw.peakHeld ||| bit6 j
    peakFree := (a.sw.peakFree &&& ~~~(bit6 j)) ||| (bit6 j &&& ~~~a.sw.want) } }
  have sk : k.Sound i := h.onAx n _
  have held : (k.rank1 n).getLsbD j.val = true := by
    have own : ((k.ax n).sw.peakHeld &&& ~~~((k.ax n).sw.peakFree &&& (k.ax n).sw.want)).getLsbD j.val = true := by
      unfold k
      rw [Lane.ax_onAx_self]
      dsimp only
      simp only [BitVec.getLsbD_and, BitVec.getLsbD_or, BitVec.getLsbD_not, getLsbD_bit6, beq_self_eq_true, decide_eq_true j.isLt]
      cases (l.ax n).sw.want.getLsbD j.val
      · simp
      · simp
    unfold Lane.rank1
    simp only [BitVec.getLsbD_or, own, Bool.or_true, Bool.true_or]
  refine ⟨(Lane.settle_near (M := allBut []) (by decide +kernel) (.refl _ sk)).place sk, ?_⟩
  show ((k.settle n).on n).getLsbD j.val = false
  rw [Lane.on_settle sk, BitVec.getLsbD_and, Lane.gateCommand_of_rank1 held, Bool.and_false]

/-- An insertion that ends turns nothing on. -/
theorem Lane.off_abortInsert {l : Lane} {i : LaneId} (h : l.Sound i) (n : Axis) (p : Phase) {j : Switch}
    (off : (l.on n).getLsbD j.val = false) : ((l.abortInsert n p).on n).getLsbD j.val = false := by
  unfold Lane.abortInsert
  extract_lets k
  have noted : Lane.Near (allBut [129]) l (k.onAx n fun a => { a with refresh := { a.refresh with retryAt := k.now + us 100 } }) :=
    Lane.onAx_near (.mk kp kp kp kp (not_bit (by decide +kernel)) kp kp kp kp)
      (Lane.raise_near (inEvt (ev_GD_EVT n.isLt) (by decide +kernel)) rfl (.refl _ h))
  have stays := noted.on (by decide +kernel) n
  have s := noted.place h
  generalize k.onAx n (fun a => { a with refresh := { a.refresh with retryAt := k.now + us 100 } }) = q at stays s
  rw [← stays] at off
  unfold Lane.endInsert
  split
  · extract_lets r
    have ends : Lane.Near (allBut [129]) q (r.raise (R.DC_STAT_DWELL n)) :=
      Lane.raise_near (inReg (at_DC_STAT n.isLt) (by decide +kernel)).1 rfl
        (Lane.onAx_near (.mk kp kp (not_bit (by decide +kernel)) kp (not_bit (by decide +kernel)) kp kp kp kp) (.refl _ s))
    rw [Lane.on_settle (ends.place s), BitVec.getLsbD_and, ends.on (by decide +kernel), off, Bool.false_and]
  · exact off

/-- A peak trip is shown, its switch held, and its insertion aborted. -/
def Lane.holdTrip (l : Lane) (n : Axis) (p : Phase) (hit : Option Switch) : Lane :=
  (l.holdHit n hit).when (hit == some (lowOf p) && ((l.holdHit n hit).ax n).refresh.inserting.getLsbD p.val) fun l =>
    l.abortInsert n p

theorem Lane.holdTrip_near {l : Lane} {i : LaneId} (h : l.Sound i) (n : Axis) (p : Phase) (hit : Option Switch) :
    Lane.Near (allBut [132, 322]) l (l.holdTrip n p hit) :=
  Lane.when_near (Lane.holdHit_near (by decide +kernel) (.refl _ h)) fun _ g => Lane.abortInsert_near (by decide +kernel) g

theorem Lane.off_holdTrip {l : Lane} {i : LaneId} (h : l.Sound i) (n : Axis) (p : Phase) (j : Switch) :
    ((l.holdTrip n p (some j)).on n).getLsbD j.val = false := by
  obtain ⟨sound, off⟩ := Lane.on_holdPeak h n j
  unfold Lane.holdTrip Lane.when
  split
  · exact Lane.off_abortInsert sound n p off
  · exact off

/-- PEAK_TRIP (R124). -/
theorem does_peakTrip (e : At) (n : Axis) (p : Phase) (positive taken : Bool) (s : State) (hs : s.Powered e) :
    Does (.peakTrip e n p positive taken) s (setOutParts ++
    [.reg (R.DC_TEST 0), .reg (R.DC_PSI 0), .reg (R.DC_ANGLE 0), .reg (R.DC_TRIM 0), .reg (R.DC_LASTT 0),
    .reg (R.GD_CNT0 0), .log, .axQueue, .axProt, .axLastRecatch]) fun l m =>
      m.flag (R.GD_EVT_PEAK n) = true ∧ m.get (R.GD_CNT0_PKCNT n) = min (l.get (R.GD_CNT0_PKCNT n) + 1) 65535 ∧
      (positive = true → m.flag (R.DC_EVT_PEAKP n) = true) ∧ (positive = false → m.flag (R.DC_EVT_PEAKN n) = true) ∧
      (∀ j, l.conducting n p = some j → (m.on n).getLsbD j.val = false) := by
  refine does_power hs rfl execPeakTrip_event rfl (by decide +kernel) fun h => ?_
  generalize s.before (.peakTrip e n p positive taken) = l at h
  extract_lets l0 l1 l2 l3 hit l4 l5 l6
  have sr := h.raise (R.GD_EVT_PEAK n)
  have nr : Lane.Near (allBut [129, 132]) l (l.raise (R.GD_EVT_PEAK n)) :=
    Lane.raise_near (inEvt (ev_GD_EVT n.isLt) (by decide +kernel)) rfl (.refl _ h)
  have raised := Lane.flag_raise h.wf (R.GD_EVT_PEAK n) (show 2 < 32 by decide) rfl
  have n0 : Lane.Near (allBut [129, 322]) (l.raise (R.GD_EVT_PEAK n)) l0 :=
    Lane.bump_near (inReg (at_GD_CNT0 n.isLt) (by decide +kernel)) (.refl _ sr)
  have s0 := n0.place sr
  have counted : l0.get (R.GD_CNT0_PKCNT n) = min (l.get (R.GD_CNT0_PKCNT n) + 1) 65535 := by
    rw [← nr.keep (f := R.GD_CNT0_PKCNT n) (at_GD_CNT0 n.isLt).1 (by decide +kernel)]
    exact Lane.get_bump sr.wf _ (show 16 + 16 ≤ 32 by decide)
  have n1 : Lane.Near (allBut [129, 132, 322]) l0 l1 :=
    Lane.raise_near (evt_ite (inEvt (ev_DC_EVT n.isLt) (by decide +kernel)) (inEvt (ev_DC_EVT n.isLt) (by decide +kernel)))
      (by cases positive <;> rfl) (.refl _ s0)
  have s1 := n1.place s0
  have pos (h : positive = true) : l1.flag (R.DC_EVT_PEAKP n) = true := by
    unfold l1
    rw [if_pos h]
    exact Lane.flag_raise s0.wf _ (show 9 < 32 by decide) rfl
  have neg (h : positive = false) : l1.flag (R.DC_EVT_PEAKN n) = true := by
    unfold l1
    rw [if_neg (Bool.eq_false_iff.1 h)]
    exact Lane.flag_raise s0.wf _ (show 10 < 32 by decide) rfl
  have n2 : Lane.Near (allBut [129, 132, 322]) l1 l2 :=
    Lane.voidAxis_near (by decide +kernel) (Lane.leakAbort_near (by decide +kernel) (.refl _ s1))
  have n3 : Lane.Near (allBut [129, 132, 322]) l1 l3 :=
    Lane.stirDecay_near (by decide +kernel) (Lane.queueEvent_near (by decide +kernel) n2)
  have s3 := n3.place s1
  have on3 : l3.on n = l.on n :=
    (n3.on (by decide +kernel) n).trans ((n1.on (by decide +kernel) n).trans ((n0.on (by decide +kernel) n).trans
      (nr.on (by decide +kernel) n)))
  have sameHit : hit = l.conducting n p := by
    unfold hit Lane.conducting
    rw [on3]
  have tripped : l5 = l3.holdTrip n p hit := rfl
  have n5 : Lane.Near (allBut [132, 322]) l3 l5 := Lane.holdTrip_near s3 n p hit
  clear_value l5 hit l3
  have s5 := n5.place s3
  have rests : l5.Rests e.lane n 6 (if taken ∧ l6.logicUp then (l6.takeEvents n).decideSwitch n else l6) := by
    have trips : l5.Rests e.lane n 6 l6 := (Lane.Rests.refl (by decide) s5).countPeak n
    split
    · exact (trips.takeEvents n).decideSwitch n
    · exact trips
  have n7 : Lane.Near (allBut [132, 322]) l5 (if taken ∧ l6.logicUp then (l6.takeEvents n).decideSwitch n else l6) := by
    have n6 : Lane.Near (allBut [132, 322]) l5 l6 := Lane.countPeak_near (by decide +kernel) (.refl _ s5)
    exact Lane.near_ite (Lane.decideSwitch_near (by decide +kernel) (Lane.takeEvents_near (by decide +kernel) n6)) n6
  have n17 := ((n3.mono (N := allBut [132, 322]) (by decide +kernel)).trans n5).trans n7
  have n07 := (n1.mono (N := allBut [132, 322]) (by decide +kernel)).trans n17
  have event := n0.flag (by decide +kernel) (is_GD_EVT n.isLt) rfl raised
  refine ⟨n07.flag (by decide +kernel) (is_GD_EVT n.isLt) rfl event, (n07.keep (at_GD_CNT0 n.isLt).1 (by decide +kernel)).trans counted,
    fun up => n17.flag (by decide +kernel) (is_DC_EVT n.isLt) rfl (pos up),
    fun down => n17.flag (by decide +kernel) (is_DC_EVT n.isLt) rfl (neg down), fun j conducts => rests.off ?_⟩
  rw [tripped, sameHit, conducts]
  exact Lane.off_holdTrip s3 n p j

end Sys2Proof.Machine

/-!
PROOFS. PRECHARGE_END: a precharge that has ended does not begin again in what follows from its end, and a clean end lets the
axis run (R101, R131, R132, R359, R560).
-/

namespace Sys2Proof.Machine

-- one declaration at a time: each waits for the kernel, and a waiting one holds a thread and its stack
set_option Elab.async false

/-! ### No precharge of an axis begins -/

/-- No precharge of axis `n` runs in a lane in its place. -/
structure Lane.Charged (i : LaneId) (n : Axis) (l : Lane) : Prop where
  sound : l.Sound i
  idle : (l.ax n).refresh.precharge = none

namespace Lane.Charged

variable {i : LaneId} {n : Axis} {l m : Lane}

theorem near {M : Nat} (h : l.Charged i n) (g : Lane.Near M l m) (hM : M.testBit 332 = false) : m.Charged i n :=
  ⟨g.place h.sound, (congrArg Refresh.precharge (g.refresh hM n)).trans h.idle⟩

/-- An update of an axis that begins no precharge. -/
theorem onAx (h : l.Charged i n) (k : Axis) {f : AxisState → AxisState}
    (hf : (f (l.ax k)).refresh.precharge = (l.ax k).refresh.precharge ∨ (f (l.ax k)).refresh.precharge = none) :
    (l.onAx k f).Charged i n := by
  refine ⟨h.sound.onAx k f, ?_⟩
  by_cases hk : k = n
  · subst hk
    rw [Lane.ax_onAx_self]
    rcases hf with same | none
    · exact same.trans h.idle
    · exact none
  · rw [Lane.ax_onAx_of_ne _ hk]
    exact h.idle

theorem release (h : l.Charged i n) (k : Axis) : (l.release k).Charged i n :=
  h.near (M := allBut [332]) (Lane.release_near (by decide +kernel) (.refl _ h.sound)) (by decide +kernel)

theorem disableAxis (h : l.Charged i n) (k : Axis) : (l.disableAxis k).Charged i n := by
  have off : Lane.Near (allBut [332]) l ((l.drop (R.DC_CTRL_EN k)).put (R.LE_STAT_SUP k) 0) :=
    Lane.put_near (inReg (at_LE_STAT k.isLt) (by decide +kernel))
      (Lane.drop_near (inReg (at_DC_CTRL k.isLt) (by decide +kernel)) (.refl _ h.sound))
  refine Charged.release (l := ((l.drop (R.DC_CTRL_EN k)).put (R.LE_STAT_SUP k) 0).letGo k) ?_ k
  have stopped := h.near off (by decide +kernel)
  unfold Lane.letGo
  extract_lets l1 l2 l3
  have h1 : l1.Charged i n := stopped.near (M := allBut [332]) (Lane.when_near (.refl _ stopped.sound) fun _ g =>
    Lane.drop_near (inReg (at_DC_LASTX k.isLt) (by decide +kernel)) g) (by decide +kernel)
  have h2 : l2.Charged i n := h1.onAx k (.inr rfl)
  exact h2.near (M := allBut [332]) (Lane.when_near (Lane.drop_near (inReg (at_DC_STAT k.isLt) (by decide +kernel))
    (.refl _ h2.sound)) fun _ g => Lane.setAxst_near (by decide +kernel) g) (by decide +kernel)

/-- The drive of another axis starts, or none does. -/
theorem startDrive (h : l.Charged i n) {k : Axis} (other : l.inService k = true → k ≠ n) : (l.startDrive k).Charged i n := by
  unfold Lane.startDrive
  split
  next starts =>
    unfold Lane.startPrecharge
    extract_lets q
    have raised : q.Charged i n := h.near (M := allBut [332]) (Lane.raiseCore_near (by decide +kernel) (.refl _ h.sound))
      (by decide +kernel)
    split
    · have begun (f : AxisState → AxisState) : (q.onAx k f).Charged i n :=
        ⟨raised.sound.onAx k f, by rw [Lane.ax_onAx_of_ne _ (other starts.1)]; exact raised.idle⟩
      exact (begun _).near (M := allBut [332]) (Lane.settle_near (by decide +kernel) (.refl _ (begun _).sound))
        (by decide +kernel)
    · exact raised.near (M := allBut [332]) (Lane.onMode_near
        (.mk kp kp kp kp kp kp (not_bit (by decide +kernel)) kp kp kp) (.refl _ raised.sound)) (by decide +kernel)
  next => exact h.near (M := allBut [332]) (Lane.settle_near (by decide +kernel) (.refl _ h.sound)) (by decide +kernel)

end Lane.Charged

/-- A set out of service whose axis is enabled over a lane's GHOST LIGHT does not precharge (R132). -/
theorem Lane.Charged.ensureEnabled {i : LaneId} {n : Axis} {l : Lane} (h : l.Charged i n) (out : l.IsOut i n) (k : Axis) :
    (l.ensureEnabled k).Charged i n := by
  unfold Lane.ensureEnabled
  split
  · exact h
  · rw [Lane.enableAxis_eq]
    have enabled : Lane.Near (allBut [89, 332]) l ((l.clearCounters k).raise (R.DC_CTRL_EN k)) :=
      Lane.raise_near (inReg (at_DC_CTRL k.isLt) (by decide +kernel)).1 rfl
        (Lane.clearCounters_near (by decide +kernel) (.refl _ h.sound))
    have ready := (out.near enabled (by decide +kernel)).judgeAngle k
    have judged : Lane.Near (allBut [332]) l (((l.clearCounters k).raise (R.DC_CTRL_EN k)).judgeAngle k) :=
      Lane.judgeAngle_near (by decide +kernel) (enabled.mono (by decide +kernel))
    have cleared : Lane.Near (allBut [89, 332]) _ ((((l.clearCounters k).raise (R.DC_CTRL_EN k)).judgeAngle k).clearLoops k) :=
      Lane.clearLoops_near (by decide +kernel) (.refl _ ready.sound)
    have off := Lane.inService_of_isOut (ready.near cleared (by decide +kernel))
    refine ((h.near judged (by decide +kernel)).near cleared (by decide +kernel)).startDrive fun served hk => ?_
    subst hk
    exact Bool.eq_false_iff.1 off served

/-- What the loss of a set leads to begins no precharge of its axis (R98, R559). -/
theorem Lane.Charged.judgeSets {i : LaneId} {n : Axis} {l : Lane} (h : l.Charged i n) (out : l.IsOut i n) :
    l.judgeSets.Charged i n := by
  have kept : l.enterGhost.IsOut i n ∧ l.enterGhost.Charged i n :=
    Lane.enterGhost_keeps_bridges (Q := fun m => m.IsOut i n ∧ m.Charged i n) (fun _ g => g.1.sound)
      (fun _ _ k g => ⟨g.1.near k (by decide +kernel), g.2.near k (by decide +kernel)⟩)
      (fun _ k g => ⟨g.1.disableAxis k, g.2.disableAxis k⟩)
      (fun _ k g => ⟨g.1.ensureEnabled k, g.2.ensureEnabled g.1 k⟩) ⟨out, h⟩
  unfold Lane.judgeSets
  split
  · exact kept.2
  · exact h

namespace Lane.Charged

variable {i : LaneId} {n : Axis} {l : Lane}

theorem setOut (h : l.Charged i n) : (l.setOut n).Charged i n := by
  unfold Lane.setOut
  split
  · have off : Lane.Near (allBut [332]) l (l.setOff n) := Lane.setOff_near (by decide +kernel) (.refl _ h.sound)
    exact (h.near off (by decide +kernel)).judgeSets (Lane.isOut_setOff h.sound n)
  · exact h

theorem afterUnav (h : l.Charged i n) : (l.afterUnav n).Charged i n := by
  have marked := h.near (M := allBut [332]) (Lane.markUnav_near (y1 := n) (by decide +kernel) (.refl _ h.sound))
    (by decide +kernel)
  unfold Lane.afterUnav
  dsimp only
  split
  · exact marked.setOut
  · exact marked.near (M := allBut [332]) (Lane.near_ite (Lane.lookup_near (by decide +kernel) (.refl _ marked.sound))
      (Lane.settle_near (by decide +kernel) (.refl _ marked.sound))) (by decide +kernel)

theorem failSwitch (h : l.Charged i n) (j : Switch) {ev : Fld} (ha : ev.addr = R.BI_EVT) (hw : ev.width = 1) :
    (l.failSwitch n j ev).Charged i n := by
  have failed : Lane.Near (allBut [332]) l ((l.putBit R.BI_SWFAIL_SW (6 * n.val + j.val) true).raise ev) :=
    Lane.raise_near (ha ▸ inEvt ev_BI_EVT (by decide +kernel)) hw
      (Lane.putBit_near (inReg at_BI_SWFAIL (by decide +kernel)) (.refl _ h.sound))
  exact (h.near failed (by decide +kernel)).afterUnav

theorem failSwitches (h : l.Charged i n) (ps : List Phase) :
    (ps.foldl (fun l p => l.failSwitch n (lowOf p) R.BI_EVT_GATEFAIL) l).Charged i n := by
  induction ps generalizing l with
  | nil => exact h
  | cons p ps ih => exact ih (h.failSwitch (lowOf p) rfl rfl)

theorem stillLocked (h : l.Charged i n) : (l.stillLocked n).Charged i n := by
  unfold Lane.stillLocked
  extract_lets out
  split
  · exact h
  · exact (h.onAx n (.inl rfl)).afterUnav

theorem actInvalid (h : l.Charged i n) : (l.actInvalid n).Charged i n := by
  unfold Lane.actInvalid
  split
  · exact h
  · split
    · exact h.near (M := allBut [332]) (Lane.substitute_near (by decide +kernel) (.refl _ h.sound)) (by decide +kernel)
    · exact h.setOut

end Lane.Charged

/-! ### A clean end -/

/-- No high side stays locked out where no supply is in lockout. -/
theorem Lane.stillLocked_of_clear {l : Lane} {n : Axis} (h : l.get (R.GD_STAT_BSTUV n) = 0) : l.stillLocked n = l := by
  unfold Lane.stillLocked Lane.bit
  rw [h]
  exact if_pos (by decide)

/-- Valid feedback needs no substitute (R560). -/
theorem Lane.actInvalid_of_valid {l : Lane} {n : Axis} (h : l.fbValid n = true) : l.actInvalid n = l := by
  unfold Lane.actInvalid Lane.angleLost
  rw [h]
  exact if_pos (by rw [Bool.not_true, Bool.and_false, Bool.false_and]; rfl)

/-- An update of the understudy keeps the axis state and posts an estimate word now (R78, R148). -/
theorem Lane.update_effects {l : Lane} {i : LaneId} (h : l.Sound i) (n : Axis) :
    (l.update n).axst n = l.axst n ∧ ((l.update n).ax n).us.lastWord = l.now := by
  have advanced : Lane.Near (allBut [89]) l (l.integrate n l.now) := Lane.integrate_near (by decide +kernel) (.refl _ h)
  have s := advanced.place h
  obtain ⟨fast, still⟩ := Lane.still_decideSwitch s n
  unfold Lane.update
  exact ⟨(Lane.axst_decideSwitch s n).trans (advanced.axst (by decide +kernel) n),
    (congrArg Understudy.lastWord still).trans advanced.now⟩

/-- PRECHARGE_END (R132). -/
theorem does_prechargeEnd (e : At) (n : Axis) (gateOk : BitVec 3) (s : State) (hs : s.Powered e) :
    Does (.prechargeEnd e n gateOk) s (setOutParts ++ [.reg R.BI_SWFAIL, .reg (R.DC_TEST 0), .reg (R.DC_PSI 0),
    .reg (R.DC_ANGLE 0), .reg (R.GD_CNT1 0), .axProt]) fun l m =>
      ((l.ax n).refresh.precharge = none → m = l) ∧
      (∀ t, (l.ax n).refresh.precharge = some t → l.now < t + us (l.get (R.GD_BSTCFG2_PRE n)) → m = l) ∧
      (∀ t, (l.ax n).refresh.precharge = some t → t + us (l.get (R.GD_BSTCFG2_PRE n)) ≤ l.now →
        (m.ax n).refresh.precharge = none ∧
        (l.internal n = true → l.inService n = true → gateOk = 7 → l.fbValid n = true → l.get (R.GD_STAT_BSTUV n) = 0 →
          m.axst n = .run ∧ (m.ax n).us.lastWord = l.now)) := by
  refine does_power hs rfl execPrechargeEnd_event rfl (by decide +kernel) fun h => ?_
  generalize s.before (.prechargeEnd e n gateOk) = l at h
  refine ⟨fun none => by rw [none], fun t runs early => ?_, fun t runs late => ?_⟩
  · rw [runs]
    exact if_neg fun g => absurd (of_decide_eq_true g) (Nat.not_le_of_lt early)
  · rw [runs]
    dsimp only
    rw [if_pos (show l.since t (us (l.get (R.GD_BSTCFG2_PRE n))) = true from decide_eq_true late)]
    let l0 := l.onAx n fun a => { a with refresh := { a.refresh with precharge := none } }
    let l1 := l0.when (l0.internal n && l0.inService n) fun l => l.setAxst n .run
    let bad := ([0, 1, 2] : List Phase).filter fun p => !gateOk.getLsbD p.val && (l1.ax n).sw.cmd.getLsbD (lowOf p).val
    let l2 := bad.foldl (fun l p => l.failSwitch n (lowOf p) R.BI_EVT_GATEFAIL) l1
    let l3 := (l2.stillLocked n).actInvalid n
    change ((if l3.internal n then l3.update n else l3.ginApply n).ax n).refresh.precharge = none ∧
      (_ → _ → _ → _ → _ → (if l3.internal n then l3.update n else l3.ginApply n).axst n = .run ∧
        ((if l3.internal n then l3.update n else l3.ginApply n).ax n).us.lastWord = l.now)
    have ended : l0.Charged e.lane n := ⟨h.onAx n _, by unfold l0; rw [Lane.ax_onAx_self]⟩
    have n1 : Lane.Near (allBut [124, 129, 149, 332]) l0 l1 :=
      Lane.when_near (.refl _ ended.sound) fun _ g => Lane.setAxst_near (by decide +kernel) g
    have judged : l3.Charged e.lane n := ((ended.near n1 (by decide +kernel)).failSwitches bad).stillLocked.actInvalid
    refine ⟨?_, fun inner served good valid clear => ?_⟩
    · have decided : Lane.Near (allBut [332]) l3 (if l3.internal n then l3.update n else l3.ginApply n) :=
        Lane.near_ite (Lane.update_near (by decide +kernel) (.refl _ judged.sound))
          (Lane.ginApply_near (by decide +kernel) (.refl _ judged.sound))
      exact (judged.near decided (by decide +kernel)).idle
    · have runs1 : l1 = l0.setAxst n .run := if_pos (Bool.and_eq_true _ _ ▸ ⟨inner, served⟩)
      have none : bad = [] := by
        unfold bad
        rw [good]
        rfl
      have same : l3 = l1 := by
        unfold l3 l2
        rw [none]
        show (l1.stillLocked n).actInvalid n = l1
        rw [Lane.stillLocked_of_clear ((n1.keep (at_GD_STAT n.isLt).1 (by decide +kernel)).trans clear),
          Lane.actInvalid_of_valid ((Lane.flag_of_get (n1.keep (at_FB_STAT n.isLt).1 (by decide +kernel))).trans valid)]
      have inner1 : l1.internal n = true := (Lane.internal_of_near n1 (by decide +kernel) n).trans inner
      rw [same, if_pos inner1]
      obtain ⟨state, word⟩ := Lane.update_effects (n1.place ended.sound) n
      exact ⟨by rw [state, runs1, Lane.axst_setAxst ended.sound.wf], word.trans n1.now⟩

/-- Settles O22, command by command. -/
theorem gateProtection : Obligations.GateProtection := by
  unfold Obligations.GateProtection
  exact ⟨does_prechargeEnd, does_peakTrip, does_vdsTrip, does_ceilingTrip, does_tier1Decision, does_deadTimeEnd,
    does_gateOffFailure, does_faultClear⟩

end Sys2Proof.Machine

/-!
PROOFS. The distance to the nearest count that an index represents (R170).
-/

namespace Sys2Proof.Machine

-- one declaration at a time: each waits for the kernel, and a waiting one holds a thread and its stack
set_option Elab.async false

/-- A difference of two residues of `2 * c`, brought by at most one turn into half a turn. -/
theorem nearest_residue {c d : Int} (lo : -(2 * c) < d) (hi : d < 2 * c) :
    let near := if c < d then d - 2 * c else d
    let best := if near ≤ -c then near + 2 * c else near
    (-c < best ∧ best ≤ c) ∧ 2 * c ∣ best - d := by
  dsimp only
  by_cases above : c < d
  · rw [if_pos above, if_neg (by omega)]
    exact ⟨by omega, -1, by omega⟩
  · rw [if_neg above]
    by_cases below : d ≤ -c
    · rw [if_pos below]
      exact ⟨by omega, 1, by omega⟩
    · rw [if_neg below]
      exact ⟨by omega, 0, by omega⟩

/-- Settles O11: the two corrections bring the difference of two residues into half a turn, by whole turns. -/
theorem indexDistance : Obligations.IndexDistance := by
  unfold Obligations.IndexDistance
  intro l n k hk _ cpr inside
  let pos := l.get (R.FB_POS_POS n)
  let idx := l.get (R.FB_IDXPOS_IDXPOS n)
  let d : Int := (idx : Int) - ((pos % 2 ^ k : Nat) : Int)
  have turn : (2 : Int) ^ k = 2 * 2 ^ (k - 1) := by
    rw [← pow_succ', Nat.sub_add_cancel (by omega)]
  have rest : ((pos % 2 ^ k : Nat) : Int) < 2 ^ k := by exact_mod_cast Nat.mod_lt pos (Nat.two_pow_pos k)
  have place : (idx : Int) < 2 ^ k := by exact_mod_cast inside
  have half : (2 * 2 ^ (k - 1) : Int) / 2 = 2 ^ (k - 1) := Int.mul_ediv_cancel_left _ (by decide)
  have cast : ((2 ^ k : Nat) : Int) = 2 * 2 ^ (k - 1) := by
    push_cast
    exact turn
  have nearest : ∃ best, l.indexDistance n = best ∧ (-2 ^ (k - 1) < best ∧ best ≤ 2 ^ (k - 1)) ∧
      2 * 2 ^ (k - 1) ∣ best - d := by
    refine ⟨_, ?_, nearest_residue (c := 2 ^ (k - 1)) (d := d) (by omega) (by omega)⟩
    unfold Lane.indexDistance
    rw [cpr]
    simp only [cast, half]
    rfl
  obtain ⟨best, dist, ⟨lo, hi⟩, turns⟩ := nearest
  rw [dist]
  refine ⟨lo, hi, Int.emod_eq_zero_of_dvd ?_⟩
  have whole : (2 : Int) ^ k ∣ (pos : Int) - ((pos % 2 ^ k : Nat) : Int) := by
    push_cast
    exact Int.dvd_self_sub_emod
  have split : (pos : Int) + best - idx = (pos - ((pos % 2 ^ k : Nat) : Int)) + (best - d) := by
    unfold d
    ring
  rw [← turn] at turns
  exact split ▸ dvd_add whole turns

end Sys2Proof.Machine

/-!
PROOFS. The rules of a feedback port: what an update leaves of its hidden state, what judging its causes and counting keep of
it (R163 to R172, R189).
-/

namespace Sys2Proof.Machine

-- one declaration at a time: each waits for the kernel, and a waiting one holds a thread and its stack
set_option Elab.async false

/-! ### The hidden state of a port -/

@[simp] theorem Lane.fb_put (l : Lane) (n : Axis) (f : Fld) (v : Nat) : (l.put f v).fb n = l.fb n :=
  congrArg AxisState.fb (l.ax_put f v n)

@[simp] theorem Lane.fb_raise (l : Lane) (n : Axis) (f : Fld) : (l.raise f).fb n = l.fb n :=
  congrArg AxisState.fb (l.ax_raise f n)

@[simp] theorem Lane.fb_onFb (l : Lane) (n : Axis) (f : FeedbackState → FeedbackState) : (l.onFb n f).fb n = f (l.fb n) :=
  congrArg AxisState.fb (Lane.ax_onAx_self l n _)

@[simp] theorem Lane.fb_onSer (l : Lane) (n : Axis) (f : SerialState → SerialState) :
    (l.onSer n f).fb n = { l.fb n with serial := f (l.fb n).serial } := l.fb_onFb n _

@[simp] theorem Lane.get_onFb (l : Lane) (n : Axis) (f : FeedbackState → FeedbackState) (x : Fld) :
    (l.onFb n f).get x = l.get x := rfl

@[simp] theorem Lane.flag_onFb (l : Lane) (n : Axis) (f : FeedbackState → FeedbackState) (x : Fld) :
    (l.onFb n f).flag x = l.flag x := rfl

@[simp] theorem Lane.get_onSer (l : Lane) (n : Axis) (f : SerialState → SerialState) (x : Fld) :
    (l.onSer n f).get x = l.get x := rfl

@[simp] theorem Lane.flag_onSer (l : Lane) (n : Axis) (f : SerialState → SerialState) (x : Fld) :
    (l.onSer n f).flag x = l.flag x := rfl

theorem Lane.Near.fb {M : Nat} {l m : Lane} (h : Lane.Near M l m) (hM : M.testBit 336 = false) (n : Axis) :
    m.fb n = l.fb n := (h.axes n).fb hM

theorem Lane.Sound.onFb {i : LaneId} {l : Lane} (h : l.Sound i) (n : Axis) (f : FeedbackState → FeedbackState) :
    (l.onFb n f).Sound i := h

theorem Lane.Sound.onSer {i : LaneId} {l : Lane} (h : l.Sound i) (n : Axis) (f : SerialState → SerialState) :
    (l.onSer n f).Sound i := h

theorem Lane.when_of_true (l : Lane) {b : Bool} {f : Lane → Lane} (h : b = true) : l.when b f = f l := if_pos h

theorem Lane.when_of_false (l : Lane) {b : Bool} {f : Lane → Lane} (h : b = false) : l.when b f = l :=
  if_neg (by rw [h]; exact Bool.false_ne_true)

/-- Another bit than the one put reads as before. -/
theorem Lane.bit_putBit_of_ne {l : Lane} (h : RegFile.wf l.id l.regs = true) (f : Fld) (hf : f.lo + f.width ≤ 32) {j k : Nat}
    (hj : j < f.width) (hk : k < f.width) (hne : k ≠ j) (b : Bool) : (l.putBit f j b).bit f k = l.bit f k := by
  have room : 2 ^ j < 2 ^ f.width := Nat.pow_lt_pow_right (by decide) hj
  have mask : 2 ^ f.width - 1 - 2 ^ j = 2 ^ f.width - (2 ^ j + 1) := by omega
  unfold Lane.bit Lane.putBit
  rw [Lane.get_put h _ _ hf, Nat.testBit_mod_two_pow, decide_eq_true hk, Bool.true_and]
  cases b
  · rw [if_neg Bool.false_ne_true, Nat.testBit_and, mask, Nat.testBit_two_pow_sub_succ room, Nat.testBit_two_pow_of_ne hne.symm]
    simp [hk]
  · rw [if_pos rfl, Nat.testBit_or, Nat.testBit_two_pow_of_ne hne.symm, Bool.or_false]

/-! ### Judging the causes (R189) -/

/-- The registers that counting, re-references and causes leave: FB_CFG, FB_SERPOS and FB_SERCNT, and no event flag clears. -/
def portKept : List Nat := [146, 167, 168, 322]

/-- What invalid feedback does to the drive leaves the port alone (R189, R190). -/
theorem Lane.causes_near_shown {i : LaneId} {l : Lane} (h : l.Sound i) (n : Axis) (f : FbCauses → FbCauses) :
    Lane.Near (allBut (149 :: 151 :: 336 :: portKept))
      ((l.onFb n fun b => { b with causes := f b.causes }).putFlag (R.FB_STAT_VALID n) (f (l.fb n).causes).clear)
      (l.causes n f) := by
  unfold Lane.causes
  extract_lets was l1 ok l2
  have shown : ok = (f (l.fb n).causes).clear := by
    unfold ok l1
    rw [Lane.fb_onFb]
  rw [← shown]
  have s2 : l2.Sound i := (h.onFb n _).put _ _
  exact Lane.near_ite (Lane.actInvalid_near (by decide +kernel)
    (Lane.raise_near (inEvt (ev_FB_EVT n.isLt) (by decide +kernel)) rfl (.refl _ s2))) (.refl _ s2)

theorem Lane.fb_causes {i : LaneId} {l : Lane} (h : l.Sound i) (n : Axis) (f : FbCauses → FbCauses) :
    (l.causes n f).fb n = { l.fb n with causes := f (l.fb n).causes } := by
  rw [(Lane.causes_near_shown h n f).fb (by decide +kernel), Lane.putFlag, Lane.fb_put, Lane.fb_onFb]

/-- FB_STAT[VALID] shows whether a cause is present (R189). -/
theorem Lane.get_VALID_causes {i : LaneId} {l : Lane} (h : l.Sound i) (n : Axis) (f : FbCauses → FbCauses) :
    (l.causes n f).get (R.FB_STAT_VALID n) = (f (l.fb n).causes).clear.toNat := by
  rw [(Lane.causes_near_shown h n f).keep (at_FB_STAT n.isLt).1 (by decide +kernel), Lane.putFlag,
    Lane.get_put (h.onFb n _).wf _ _ (show 0 + 1 ≤ 32 by decide)]
  exact Nat.mod_eq_of_lt (Bool.toNat_lt _)

/-- A cause that is present makes the feedback invalid. -/
theorem Lane.get_VALID_causes_of_present {i : LaneId} {l : Lane} (h : l.Sound i) (n : Axis) {f : FbCauses → FbCauses}
    (present : (f (l.fb n).causes).clear = false) : (l.causes n f).get (R.FB_STAT_VALID n) = 0 := by
  rw [Lane.get_VALID_causes h, present]
  rfl

/-! ### What counting keeps of a port -/

/-- The hidden state of a port but for what counting, re-references and causes change: the wraps, the history, the stamps,
the speed, the distance from the index, the causes, and the runs of frames within and outside TOL. -/
def FeedbackState.uncounted (b : FeedbackState) : FeedbackState :=
  { b with
    wraps := 0, history := [], faultsSince := 0, stamps := [], intervals := 0, starting := false, skipped := false
    measured := 0, sinceIndex := none, causes := FeedbackState.init.causes
    serial := { b.serial with devs := 0, within := 0 } }

theorem FeedbackState.serial_of_uncounted {a b : FeedbackState} (h : a.uncounted = b.uncounted) :
    a.serial.bad = b.serial.bad ∧ a.serial.latched = b.serial.latched :=
  ⟨congrArg (·.serial.bad) h, congrArg (·.serial.latched) h⟩

/-- `m` comes from `l` by counting, re-references and causes at port `n`: FB_STAT keeps its fields from REF up, and the hidden
state all that counting does not change. -/
structure Lane.Counts (i : LaneId) (n : Axis) (l m : Lane) : Prop where
  sound : m.Sound i
  near : Lane.Near (allBut portKept) l m
  stat : ∀ f : Fld, f.addr = R.FB_STAT n → 7 ≤ f.lo → f.lo + f.width ≤ 32 → m.get f = l.get f
  port : (m.fb n).uncounted = (l.fb n).uncounted

namespace Lane.Counts

variable {i : LaneId} {n : Axis} {l m k : Lane}

theorem refl (h : l.Sound i) : l.Counts i n l := ⟨h, .refl _ h, fun _ _ _ _ => rfl, rfl⟩

theorem trans (h : l.Counts i n m) (g : m.Counts i n k) : l.Counts i n k :=
  ⟨g.sound, h.near.trans g.near, fun f ha lo hf => (g.stat f ha lo hf).trans (h.stat f ha lo hf), g.port.trans h.port⟩

/-- A step that leaves FB_STAT and the hidden state of the ports. -/
theorem step (h : l.Counts i n m) (g : Lane.Near (allBut (149 :: 336 :: portKept)) m k) : l.Counts i n k :=
  h.trans ⟨g.place h.sound, g.mono (by decide +kernel),
    fun _ ha _ _ => g.keep (ha ▸ (at_FB_STAT n.isLt).1) (by decide +kernel), by rw [g.fb (by decide +kernel)]⟩

/-- A field of FB_STAT below REF. -/
theorem put (h : l.Counts i n m) {f : Fld} (v : Nat) (ha : f.addr = R.FB_STAT n) (hf : f.lo + f.width ≤ 7) :
    l.Counts i n (m.put f v) :=
  h.trans ⟨h.sound.put f v, Lane.put_near (ha ▸ inReg (at_FB_STAT n.isLt) (by decide +kernel)) (.refl _ h.sound),
    fun _ hg lo hi => Lane.get_put_of_disjoint h.sound.wf v (hg.trans ha.symm) hi (.inl (by omega)), by rw [Lane.fb_put]⟩

theorem raise (h : l.Counts i n m) {f : Fld} (ha : f.addr = R.FB_STAT n) (hf : f.lo + f.width ≤ 7) :
    l.Counts i n (m.raise f) :=
  have g := h.put 1 ha hf
  ⟨g.sound, Lane.mark_near g.near, g.stat, g.port⟩

/-- An event flag of the port. -/
theorem event (h : l.Counts i n m) {f : Fld} (ha : f.addr = R.FB_EVT n) (hw : f.width = 1) : l.Counts i n (m.raise f) :=
  h.step (Lane.raise_near (ha ▸ inEvt (ev_FB_EVT n.isLt) (by decide +kernel)) hw (.refl _ h.sound))

theorem onFb (h : l.Counts i n m) {f : FeedbackState → FeedbackState} (hf : (f (m.fb n)).uncounted = (m.fb n).uncounted) :
    l.Counts i n (m.onFb n f) :=
  h.trans ⟨h.sound.onFb n f, Lane.onFb_near (by decide +kernel) (.refl _ h.sound), fun _ _ _ _ => rfl, by
    rw [Lane.fb_onFb, hf]⟩

theorem when (h : l.Counts i n m) {b : Bool} {f : Lane → Lane} (hf : l.Counts i n m → l.Counts i n (f m)) :
    l.Counts i n (m.when b f) := by
  cases b
  · exact h
  · exact hf h

theorem causes (h : l.Counts i n m) (f : FbCauses → FbCauses) : l.Counts i n (m.causes n f) :=
  ((h.onFb rfl).put _ rfl (by simp)).step
    ((Lane.causes_near_shown h.sound n f).mono (by decide +kernel))

theorem moveCounter (h : l.Counts i n m) (d : Int) : l.Counts i n (m.moveCounter n d) := by
  unfold Lane.moveCounter
  extract_lets x l1 l2 l3 old l4
  have moved : l.Counts i n l1 :=
    h.step (Lane.putInt_near (inReg (at_FB_POS n.isLt) (by decide +kernel)) (.refl _ h.sound))
  have up : l.Counts i n l2 := moved.when fun g => (g.event rfl rfl).onFb rfl
  have down : l.Counts i n l3 := up.when fun g => (g.event rfl rfl).onFb rfl
  have since : l.Counts i n l4 := down.onFb rfl
  split
  · exact (since.event rfl rfl).causes _
  · exact since

theorem history (h : l.Counts i n m) (fault : Bool) : l.Counts i n (m.history n fault) := by
  unfold Lane.history
  extract_lets l1
  have kept : l.Counts i n l1 := h.onFb rfl
  exact kept.step (Lane.put_near (inReg (at_FB_STEP n.isLt) (by decide +kernel)) (.refl _ kept.sound))

theorem setSpeed (h : l.Counts i n m) (v : Rat) : l.Counts i n (m.setSpeed n v) :=
  have measured : l.Counts i n (m.onFb n fun b => { b with measured := v }) := h.onFb rfl
  measured.step (Lane.showSpeed_near (by decide +kernel) (.refl _ measured.sound))

theorem choose (h : l.Counts i n m) : l.Counts i n m.nextChoice :=
  h.step (Lane.nextChoice_near (by decide +kernel) (.refl _ h.sound))

theorem edgeSpeed (h : l.Counts i n m) (t : Nat) (up turn : Bool) : l.Counts i n (m.edgeSpeed n t up turn) := by
  unfold Lane.edgeSpeed
  extract_lets b reported l1 anew
  have moving : l.Counts i n l1 := h.put 0 rfl (by simp)
  have afresh (v : Rat) : l.Counts i n (anew v) := ((moving.raise rfl (by simp)).onFb rfl).setSpeed v
  split
  · exact afresh 0
  · split
    · exact afresh reported
    · exact ((moving.choose.put 0 rfl (by simp)).onFb rfl).setSpeed _

theorem countedEdge (h : l.Counts i n m) (fwd : Bool) (t : Nat) : l.Counts i n (m.countedEdge n fwd t) := by
  unfold Lane.countedEdge
  extract_lets up turn l1 l2
  have speed : l.Counts i n l1 := (h.history false).edgeSpeed t up turn
  have turned : l.Counts i n l2 := speed.when fun g => (g.put _ rfl (by simp)).event rfl rfl
  exact turned.moveCounter _

theorem stepFault (h : l.Counts i n m) : l.Counts i n (m.stepFault n) := by
  unfold Lane.stepFault
  extract_lets l1 l2
  have counted : l.Counts i n (m.bump (R.FB_STEP_TOTAL n)) :=
    h.step (Lane.bump_near (inReg (at_FB_STEP n.isLt) (by decide +kernel)) (.refl _ h.sound))
  have shown : l.Counts i n l1 := (counted.event rfl rfl).raise rfl (by simp)
  have taken : l.Counts i n l2 := (shown.history true).onFb rfl
  split
  · exact taken.causes _
  · exact taken

theorem reReference (h : l.Counts i n m) (d : Int) (bad : Bool) : l.Counts i n (m.reReference n d bad) := by
  unfold Lane.reReference
  extract_lets allow good lineGood l1 l2 l3 l4 clean
  have shown : l.Counts i n (m.putInt (R.FB_IDXERR_D n) d) :=
    h.step (Lane.putInt_near (inReg (at_FB_IDXERR n.isLt) (by decide +kernel)) (.refl _ h.sound))
  have moved : l.Counts i n l1 := shown.moveCounter d
  have noted : l.Counts i n l2 := moved.when fun g => g.event rfl rfl
  have cleared : l.Counts i n l3 := noted.onFb rfl
  have judged : l.Counts i n l4 := by
    unfold l4
    split
    · exact cleared.put 0 rfl (by simp)
    · exact cleared.event rfl rfl
  exact judged.causes _

theorem estimateAnew (h : l.Counts i n m) : l.Counts i n (m.estimateAnew n) := h.when fun g => g.raise rfl (by simp)

theorem serialSpeed (h : l.Counts i n m) : l.Counts i n (m.serialSpeed n) := by
  unfold Lane.serialSpeed
  extract_lets k
  split
  · split
    · exact (h.put 0 rfl (by simp)).setSpeed _
    · exact h.raise rfl (by simp)
  · exact h

theorem compareFrame (h : l.Counts i n m) (d : Int) : l.Counts i n (m.compareFrame n d) := by
  unfold Lane.compareFrame
  extract_lets dev l1 l2 x l3 l4
  have noted : l.Counts i n l1 := h.when fun g => g.event rfl rfl
  have judged : l.Counts i n l2 := noted.onFb rfl
  have deviates : l.Counts i n l3 := judged.when fun g => g.causes _
  have agrees : l.Counts i n l4 := deviates.when fun g => g.causes _
  split
  · exact agrees.reReference d false
  · exact agrees

/-! What the relation gives -/

theorem flag (h : l.Counts i n m) {f : Fld} (ha : f.addr = R.FB_EVT n) (hw : f.width = 1) (hf : l.flag f = true) :
    m.flag f = true := h.near.flag (by decide +kernel) (ha ▸ is_FB_EVT n.isLt) hw hf

theorem config (h : l.Counts i n m) {f : Fld} (ha : f.addr = R.FB_CFG n) : m.get f = l.get f :=
  h.near.keep (ha ▸ (at_FB_CFG n.isLt).1) (by decide +kernel)

theorem bit_ABZ (h : l.Counts i n m) (j : Nat) : m.bit (R.FB_STAT_ABZ n) j = l.bit (R.FB_STAT_ABZ n) j :=
  Lane.bit_of_get (h.stat (R.FB_STAT_ABZ n) rfl (show 7 ≤ 12 by decide) (show 12 + 3 ≤ 32 by decide)) j

theorem bAt (h : l.Counts i n m) : (m.fb n).bAt = (l.fb n).bAt := (congrArg FeedbackState.bAt h.port :)

end Lane.Counts

/-! ### The counter (R163, R166, R167) -/

/-- The counter moves modulo its width. -/
theorem Lane.get_POS_putInt {l : Lane} (h : RegFile.wf l.id l.regs = true) (n : Axis) (x : Int) :
    (l.putInt (R.FB_POS_POS n) x).get (R.FB_POS_POS n) = (x % 4294967296).toNat := by
  unfold Lane.putInt
  rw [Lane.get_put h _ _ (show 0 + 32 ≤ 32 by decide)]
  show (x % 4294967296).toNat % 4294967296 = _
  omega

theorem Lane.get_POS_moveCounter {i : LaneId} {l : Lane} (h : l.Sound i) (n : Axis) (d : Int) :
    (l.moveCounter n d).get (R.FB_POS_POS n) = (((l.get (R.FB_POS_POS n) : Int) + d) % 4294967296).toNat := by
  have near : Lane.Near (allBut [151]) (l.putInt (R.FB_POS_POS n) ((l.get (R.FB_POS_POS n) : Int) + d))
      (l.moveCounter n d) := by
    unfold Lane.moveCounter
    extract_lets x l1 l2 l3 old l4
    have s1 : l1.Sound i := h.put _ _
    have up : Lane.Near (allBut [151]) l1 l2 := Lane.when_near (.refl _ s1) fun _ g =>
      Lane.onFb_near (by decide +kernel) (Lane.raise_near (inEvt (ev_FB_EVT n.isLt) (by decide +kernel)) rfl g)
    have down : Lane.Near (allBut [151]) l1 l3 := Lane.when_near up fun _ g =>
      Lane.onFb_near (by decide +kernel) (Lane.raise_near (inEvt (ev_FB_EVT n.isLt) (by decide +kernel)) rfl g)
    have since : Lane.Near (allBut [151]) l1 l4 := Lane.onFb_near (by decide +kernel) down
    exact Lane.near_ite (Lane.causes_near (by decide +kernel)
      (Lane.raise_near (inEvt (ev_FB_EVT n.isLt) (by decide +kernel)) rfl since)) since
  rw [near.keep (at_FB_POS n.isLt).1 (by decide +kernel), Lane.get_POS_putInt h.wf]

/-- A counted edge moves the counter by one, the way that CNTINV turns (R166, R167). -/
theorem Lane.get_POS_countedEdge {i : LaneId} {l : Lane} (h : l.Sound i) (n : Axis) (fwd : Bool) (t : Nat) :
    (l.countedEdge n fwd t).get (R.FB_POS_POS n) =
      (((l.get (R.FB_POS_POS n) : Int) + if fwd = l.flag (R.FB_CFG_CNTINV n) then -1 else 1) % 4294967296).toNat := by
  unfold Lane.countedEdge
  extract_lets up turn l1 l2
  have near : Lane.Near (allBut [151]) l l2 := Lane.when_near
    (Lane.edgeSpeed_near (by decide +kernel) (Lane.history_near (by decide +kernel) (.refl _ h))) fun _ g =>
      Lane.raise_near (inEvt (ev_FB_EVT n.isLt) (by decide +kernel)) rfl
        (Lane.putFlag_near (inReg (at_FB_STAT n.isLt) (by decide +kernel)) g)
  have way : (if up then 1 else -1 : Int) = if fwd = l.flag (R.FB_CFG_CNTINV n) then -1 else 1 := by
    unfold up
    cases fwd <;> cases l.flag (R.FB_CFG_CNTINV n) <;> rfl
  rw [Lane.get_POS_moveCounter (near.place h), near.keep (at_FB_POS n.isLt).1 (by decide +kernel), way]

end Sys2Proof.Machine

/-!
PROOFS. Edges on A and B: COUNT_EDGE (R161 to R168).
-/

namespace Sys2Proof.Machine

-- one declaration at a time: each waits for the kernel, and a waiting one holds a thread and its stack
set_option Elab.async false

/-! ### The lines A and B (R164, R166) -/

section
variable {i : LaneId} {l : Lane} (h : l.Sound i) (n : Axis) (r : Bool) (t : Nat)
include h

theorem Lane.moveA_near : Lane.Near (allBut [146, 151]) l (l.putBit (R.FB_STAT_ABZ n) 2 r) :=
  Lane.putBit_near (inReg (at_FB_STAT n.isLt) (by decide +kernel)) (.refl _ h)

theorem Lane.moveB_near_lines : Lane.Near (allBut [146, 151]) l (l.moveB n r t) := Lane.moveB_near (by decide +kernel) (.refl _ h)

theorem Lane.levels_moveA :
    (l.putBit (R.FB_STAT_ABZ n) 2 r).levelA n = r ∧ (l.putBit (R.FB_STAT_ABZ n) 2 r).levelB n = l.levelB n :=
  ⟨Lane.bit_putBit h.wf _ (show 12 + 3 ≤ 32 by decide) (show 2 < 3 by decide) r,
    Lane.bit_putBit_of_ne h.wf _ (show 12 + 3 ≤ 32 by decide) (show 2 < 3 by decide) (show 1 < 3 by decide) (by decide) r⟩

theorem Lane.levels_moveB : (l.moveB n r t).levelB n = r ∧ (l.moveB n r t).levelA n = l.levelA n :=
  ⟨Lane.bit_putBit h.wf _ (show 12 + 3 ≤ 32 by decide) (show 1 < 3 by decide) r,
    Lane.bit_putBit_of_ne h.wf _ (show 12 + 3 ≤ 32 by decide) (show 1 < 3 by decide) (show 2 < 3 by decide) (by decide) r⟩

/-- A new level of A in quadrature counts; in step/direction and up/down its rise does (R166). -/
theorem Lane.edgeA_of_inc1 (new : l.levelA n ≠ r) (inc : l.get (R.FB_CFG_INC n) = 1) :
    l.edgeA n r t = (l.putBit (R.FB_STAT_ABZ n) 2 r).countedEdge n (r != l.levelB n) t := by
  have inc' := ((Lane.moveA_near h n r).keep (at_FB_CFG n.isLt).1 (by decide +kernel)).trans inc
  unfold Lane.edgeA
  rw [if_neg new]
  dsimp only
  rw [inc', (Lane.levels_moveA h n r).2]
  rfl

theorem Lane.edgeA_of_inc2 (new : l.levelA n ≠ true) (inc : l.get (R.FB_CFG_INC n) = 2) :
    l.edgeA n true t = (l.putBit (R.FB_STAT_ABZ n) 2 true).nextChoice.countedEdge n
      ((l.putBit (R.FB_STAT_ABZ n) 2 true).stepUp n t) t := by
  have inc' := ((Lane.moveA_near h n true).keep (at_FB_CFG n.isLt).1 (by decide +kernel)).trans inc
  unfold Lane.edgeA
  rw [if_neg new]
  dsimp only
  rw [inc']
  rfl

theorem Lane.edgeA_of_inc3 (new : l.levelA n ≠ true) (inc : l.get (R.FB_CFG_INC n) = 3) :
    l.edgeA n true t = (l.putBit (R.FB_STAT_ABZ n) 2 true).countedEdge n true t := by
  have inc' := ((Lane.moveA_near h n true).keep (at_FB_CFG n.isLt).1 (by decide +kernel)).trans inc
  unfold Lane.edgeA
  rw [if_neg new]
  dsimp only
  rw [inc']
  rfl

/-- An edge of A that is not counted shows in FB_STAT alone. -/
theorem Lane.edgeA_uncounted (new : l.levelA n ≠ r)
    (inc : l.get (R.FB_CFG_INC n) = 0 ∨ 2 ≤ l.get (R.FB_CFG_INC n) ∧ r = false) :
    l.edgeA n r t = l.putBit (R.FB_STAT_ABZ n) 2 r := by
  have kept := (Lane.moveA_near h n r).keep (f := R.FB_CFG_INC n) (at_FB_CFG n.isLt).1 (by decide +kernel)
  unfold Lane.edgeA
  rw [if_neg new]
  dsimp only
  rw [kept]
  rcases inc with zero | ⟨two, rfl⟩
  · rw [zero]
    rfl
  · split
    · omega
    · rfl
    · rfl
    · rfl

theorem Lane.edgeB_of_inc1 (new : l.levelB n ≠ r) (inc : l.get (R.FB_CFG_INC n) = 1) :
    l.edgeB n r t = (l.moveB n r t).countedEdge n (r == l.levelA n) t := by
  have inc' := ((Lane.moveB_near_lines h n r t).keep (at_FB_CFG n.isLt).1 (by decide +kernel)).trans inc
  unfold Lane.edgeB
  rw [if_neg new]
  dsimp only
  rw [inc', (Lane.levels_moveB h n r t).2]
  rfl

theorem Lane.edgeB_of_inc3 (new : l.levelB n ≠ true) (inc : l.get (R.FB_CFG_INC n) = 3) :
    l.edgeB n true t = (l.moveB n true t).countedEdge n false t := by
  have inc' := ((Lane.moveB_near_lines h n true t).keep (at_FB_CFG n.isLt).1 (by decide +kernel)).trans inc
  unfold Lane.edgeB
  rw [if_neg new]
  dsimp only
  rw [inc']
  rfl

/-- After its new level is shown, an edge only counts. -/
theorem Lane.edgeA_counts (new : l.levelA n ≠ r) : (l.putBit (R.FB_STAT_ABZ n) 2 r).Counts i n (l.edgeA n r t) := by
  have shown := Lane.Counts.refl (n := n) (h.put (R.FB_STAT_ABZ n) _ : (l.putBit (R.FB_STAT_ABZ n) 2 r).Sound i)
  unfold Lane.edgeA
  rw [if_neg new]
  dsimp only
  split
  · exact shown.countedEdge _ _
  · split
    · exact shown.choose.countedEdge _ _
    · exact shown
  · split
    · exact shown.countedEdge _ _
    · exact shown
  · exact shown

theorem Lane.edgeB_counts (new : l.levelB n ≠ r) : (l.moveB n r t).Counts i n (l.edgeB n r t) := by
  have shown := Lane.Counts.refl (n := n) ((Lane.moveB_near_lines h n r t).place h)
  unfold Lane.edgeB
  rw [if_neg new]
  dsimp only
  split
  · exact shown.countedEdge _ _
  · split
    · exact shown.countedEdge _ _
    · exact shown
  · exact shown

/-- The direction of an edge of A in quadrature: B's level against the new one (R164). -/
theorem Lane.get_POS_edgeA (new : l.levelA n ≠ r) (inc : l.get (R.FB_CFG_INC n) = 1) :
    (l.edgeA n r t).get (R.FB_POS_POS n) = (((l.get (R.FB_POS_POS n) : Int) +
      if (l.levelB n != r) = l.flag (R.FB_CFG_CNTINV n) then -1 else 1) % 4294967296).toNat := by
  have near := Lane.moveA_near h n r
  rw [Lane.edgeA_of_inc1 h n r t new inc, Lane.get_POS_countedEdge (near.place h), near.keep (at_FB_POS n.isLt).1 (by decide +kernel),
    Lane.flag_of_get (near.keep (at_FB_CFG n.isLt).1 (by decide +kernel)), bne_comm]

theorem Lane.get_POS_edgeB (new : l.levelB n ≠ r) (inc : l.get (R.FB_CFG_INC n) = 1) :
    (l.edgeB n r t).get (R.FB_POS_POS n) = (((l.get (R.FB_POS_POS n) : Int) +
      if (l.levelA n == r) = l.flag (R.FB_CFG_CNTINV n) then -1 else 1) % 4294967296).toNat := by
  have near := Lane.moveB_near_lines h n r t
  rw [Lane.edgeB_of_inc1 h n r t new inc, Lane.get_POS_countedEdge (near.place h), near.keep (at_FB_POS n.isLt).1 (by decide +kernel),
    Lane.flag_of_get (near.keep (at_FB_CFG n.isLt).1 (by decide +kernel)), Bool.beq_comm]

/-- A new level of A in step/direction counts one way or the other, by B's level where B is stable (R166). -/
theorem Lane.get_POS_edgeA_step (new : l.levelA n ≠ true) (inc : l.get (R.FB_CFG_INC n) = 2) :
    (l.edgeA n true t).get (R.FB_POS_POS n) = (((l.get (R.FB_POS_POS n) : Int) +
      if (l.putBit (R.FB_STAT_ABZ n) 2 true).stepUp n t = l.flag (R.FB_CFG_CNTINV n) then -1 else 1) % 4294967296).toNat := by
  have near := Lane.moveA_near h n true
  rw [Lane.edgeA_of_inc2 h n t new inc, Lane.get_POS_countedEdge (near.place h).nextChoice, Lane.get_nextChoice, Lane.flag_nextChoice,
    near.keep (at_FB_POS n.isLt).1 (by decide +kernel), Lane.flag_of_get (near.keep (at_FB_CFG n.isLt).1 (by decide +kernel))]

theorem Lane.stepUp_of_stable (stable : (l.fb n).bAt + ns 50 ≤ t) :
    (l.putBit (R.FB_STAT_ABZ n) 2 r).stepUp n t = l.levelB n := by
  unfold Lane.stepUp Lane.putBit
  rw [Lane.fb_put, if_neg (Nat.not_lt_of_le stable)]
  exact (Lane.levels_moveA h n r).2

theorem Lane.get_POS_edgeA_up (new : l.levelA n ≠ true) (inc : l.get (R.FB_CFG_INC n) = 3) :
    (l.edgeA n true t).get (R.FB_POS_POS n) = (((l.get (R.FB_POS_POS n) : Int) +
      if l.flag (R.FB_CFG_CNTINV n) then -1 else 1) % 4294967296).toNat := by
  have near := Lane.moveA_near h n true
  rw [Lane.edgeA_of_inc3 h n t new inc, Lane.get_POS_countedEdge (near.place h), near.keep (at_FB_POS n.isLt).1 (by decide +kernel),
    Lane.flag_of_get (near.keep (at_FB_CFG n.isLt).1 (by decide +kernel))]
  cases l.flag (R.FB_CFG_CNTINV n) <;> rfl

theorem Lane.get_POS_edgeB_down (new : l.levelB n ≠ true) (inc : l.get (R.FB_CFG_INC n) = 3) :
    (l.edgeB n true t).get (R.FB_POS_POS n) = (((l.get (R.FB_POS_POS n) : Int) +
      if l.flag (R.FB_CFG_CNTINV n) then 1 else -1) % 4294967296).toNat := by
  have near := Lane.moveB_near_lines h n true t
  rw [Lane.edgeB_of_inc3 h n t new inc, Lane.get_POS_countedEdge (near.place h), near.keep (at_FB_POS n.isLt).1 (by decide +kernel),
    Lane.flag_of_get (near.keep (at_FB_CFG n.isLt).1 (by decide +kernel))]
  cases l.flag (R.FB_CFG_CNTINV n) <;> rfl

/-- The level of B and its moment after an edge of it (R166). -/
theorem Lane.edgeB_shows (new : l.levelB n ≠ r) : (l.edgeB n r t).levelB n = r ∧ ((l.edgeB n r t).fb n).bAt = t := by
  have counts := Lane.edgeB_counts h n r t new
  refine ⟨(counts.bit_ABZ 1).trans (Lane.levels_moveB h n r t).1, counts.bAt.trans ?_⟩
  unfold Lane.moveB
  rw [Lane.fb_onFb]

end

/-! ### Pairs of edges (R163, R164) -/

/-- Two moves of the counter are one. -/
theorem move_twice (p : Nat) (d : Int) :
    (((((p : Int) + d) % 4294967296).toNat + d) % 4294967296).toNat = (((p : Int) + 2 * d) % 4294967296).toNat := by
  omega

/-- Two edges taken in order both count the same way. -/
theorem Lane.get_POS_edgePair {i : LaneId} {l : Lane} (h : l.Sound i) {n : Axis} {ra rb : Bool} (newA : l.levelA n ≠ ra)
    (newB : l.levelB n ≠ rb) (inc : l.get (R.FB_CFG_INC n) = 1) (first : Bool) (t u : Nat) :
    (l.edgePair n ra rb first t u).get (R.FB_POS_POS n) = (((l.get (R.FB_POS_POS n) : Int) +
      if ((ra == rb) == first) = l.flag (R.FB_CFG_CNTINV n) then -2 else 2) % 4294967296).toNat := by
  have double (b c : Bool) : (if b = c then -2 else 2 : Int) = 2 * if b = c then -1 else 1 := by split <;> rfl
  unfold Lane.edgePair
  cases first
  · rw [if_neg Bool.false_ne_true]
    have counts := Lane.edgeB_counts h n rb t newB
    have lines := Lane.moveB_near_lines h n rb t
    have levelA : (l.edgeB n rb t).levelA n = l.levelA n := (counts.bit_ABZ 2).trans (Lane.levels_moveB h n rb t).2
    have config (f : Fld) (ha : f.addr = R.FB_CFG n) : (l.edgeB n rb t).get f = l.get f :=
      (counts.config ha).trans (lines.keep (ha ▸ (at_FB_CFG n.isLt).1) (by decide +kernel))
    have way : (l.levelA n == rb) = ((ra == rb) == false) := by revert newA; cases l.levelA n <;> cases ra <;> cases rb <;> decide
    have way' : (rb != ra) = ((ra == rb) == false) := by cases ra <;> cases rb <;> rfl
    rw [Lane.get_POS_edgeA counts.sound n ra u (levelA ▸ newA) ((config _ rfl).trans inc),
      (Lane.edgeB_shows h n rb t newB).1, Lane.flag_of_get (config (R.FB_CFG_CNTINV n) rfl), Lane.get_POS_edgeB h n rb t newB inc, way,
      way', double, move_twice]
  · rw [if_pos rfl]
    have counts := Lane.edgeA_counts h n ra t newA
    have lines := Lane.moveA_near h n ra
    have levelA : (l.edgeA n ra t).levelA n = ra := (counts.bit_ABZ 2).trans (Lane.levels_moveA h n ra).1
    have levelB : (l.edgeA n ra t).levelB n = l.levelB n := (counts.bit_ABZ 1).trans (Lane.levels_moveA h n ra).2
    have config (f : Fld) (ha : f.addr = R.FB_CFG n) : (l.edgeA n ra t).get f = l.get f :=
      (counts.config ha).trans (lines.keep (ha ▸ (at_FB_CFG n.isLt).1) (by decide +kernel))
    have way : (l.levelB n != ra) = ((ra == rb) == true) := by revert newB; cases l.levelB n <;> cases ra <;> cases rb <;> decide
    have way' : (ra == rb) = ((ra == rb) == true) := by cases ra <;> cases rb <;> rfl
    rw [Lane.get_POS_edgeB counts.sound n rb u (levelB ▸ newB) ((config _ rfl).trans inc), levelA,
      Lane.flag_of_get (config (R.FB_CFG_CNTINV n) rfl), Lane.get_POS_edgeA h n ra t newA inc, way, ← way', double]
    exact move_twice _ _

/-- Two edges at once in quadrature are a step fault, and the counter stays (R163, R164). -/
theorem Lane.edgeBoth_effects {i : LaneId} {l : Lane} (h : l.Sound i) {n : Axis} {ra rb : Bool} (newA : l.levelA n ≠ ra)
    (newB : l.levelB n ≠ rb) (inc : l.get (R.FB_CFG_INC n) = 1) (t : Nat) :
    (l.edgeBoth n ra rb t).get (R.FB_POS_POS n) = l.get (R.FB_POS_POS n) ∧
      (l.edgeBoth n ra rb t).flag (R.FB_EVT_STEPF n) = true := by
  have lineA := Lane.moveA_near h n ra
  have lines := lineA.trans (Lane.moveB_near_lines (lineA.place h) n rb t)
  have fault : l.edgeBoth n ra rb t = (((l.putBit (R.FB_STAT_ABZ n) 2 ra).moveB n rb t).stepFault n) := by
    unfold Lane.edgeBoth
    rw [if_neg newA, if_neg newB]
    dsimp only
    rw [inc]
    rfl
  rw [fault]
  generalize (l.putBit (R.FB_STAT_ABZ n) 2 ra).moveB n rb t = m at lines
  have s := lines.place h
  have faults : Lane.Near (allBut [151]) m (m.stepFault n) := Lane.stepFault_near (by decide +kernel) (.refl _ s)
  refine ⟨(faults.keep (at_FB_POS n.isLt).1 (by decide +kernel)).trans (lines.keep (at_FB_POS n.isLt).1 (by decide +kernel)), ?_⟩
  unfold Lane.stepFault
  extract_lets l1 l2
  have counted : (m.bump (R.FB_STEP_TOTAL n)).Sound i := s.put _ _
  have raised : ((m.bump (R.FB_STEP_TOTAL n)).raise (R.FB_EVT_STEPF n)).flag (R.FB_EVT_STEPF n) = true :=
    Lane.flag_raise counted.wf _ (show 3 < 32 by decide) rfl
  have shown : Lane.Counts i n ((m.bump (R.FB_STEP_TOTAL n)).raise (R.FB_EVT_STEPF n)) l2 :=
    (((Lane.Counts.refl (counted.raise _)).raise (f := R.FB_STAT_UNCERT n) rfl (by simp)).history true).onFb rfl
  split
  · exact (shown.causes _).flag rfl rfl raised
  · exact shown.flag rfl rfl raised

/-- COUNT_EDGE (R161). -/
theorem does_countEdge (e : At) (n : Axis) (edge : EdgeIn) (s : State) (hs : s.Runs e) :
    Does (.countEdge e n edge) s (setOutParts ++ [.reg (R.FB_STAT 0), .reg (R.FB_EVT 0), .reg (R.FB_POS 0),
    .reg (R.FB_SPEED 0), .reg (R.FB_STEP 0), .fresh, .axFb]) fun l m =>
      (∀ r h, edge = .a r h → filterPasses (l.get (R.FB_FILT_QGLT n)) h = false → m = l) ∧
      (∀ r h, edge = .b r h → filterPasses (l.get (R.FB_FILT_QGLT n)) h = false → m = l) ∧
      (∀ r h, edge = .a r h → l.levelA n = r → m = l) ∧ (∀ r h, edge = .b r h → l.levelB n = r → m = l) ∧
      (∀ r h, edge = .a r h → filterPasses (l.get (R.FB_FILT_QGLT n)) h = true → l.levelA n ≠ r →
        (l.get (R.FB_CFG_INC n) = 1 → m.get (R.FB_POS_POS n) = (((l.get (R.FB_POS_POS n) : Int) +
          (if (l.levelB n != r) = l.flag (R.FB_CFG_CNTINV n) then -1 else 1)) % 4294967296).toNat) ∧
        (l.get (R.FB_CFG_INC n) = 2 → r = true → (l.fb n).bAt + ns 50 ≤ l.edgeStamp n →
          m.get (R.FB_POS_POS n) = (((l.get (R.FB_POS_POS n) : Int) +
            (if l.levelB n = l.flag (R.FB_CFG_CNTINV n) then -1 else 1)) % 4294967296).toNat) ∧
        (l.get (R.FB_CFG_INC n) = 2 → r = true →
          m.get (R.FB_POS_POS n) = (((l.get (R.FB_POS_POS n) : Int) + 1) % 4294967296).toNat ∨
          m.get (R.FB_POS_POS n) = (((l.get (R.FB_POS_POS n) : Int) - 1) % 4294967296).toNat) ∧
        (l.get (R.FB_CFG_INC n) = 3 → r = true → m.get (R.FB_POS_POS n) = (((l.get (R.FB_POS_POS n) : Int) +
          (if l.flag (R.FB_CFG_CNTINV n) then -1 else 1)) % 4294967296).toNat) ∧
        (l.get (R.FB_CFG_INC n) = 0 → m = l.putBit (R.FB_STAT_ABZ n) 2 r) ∧
        (2 ≤ l.get (R.FB_CFG_INC n) → r = false → m = l.putBit (R.FB_STAT_ABZ n) 2 false)) ∧
      (∀ r h, edge = .b r h → filterPasses (l.get (R.FB_FILT_QGLT n)) h = true → l.levelB n ≠ r →
        m.levelB n = r ∧ (m.fb n).bAt = l.edgeStamp n ∧
        (l.get (R.FB_CFG_INC n) = 1 → m.get (R.FB_POS_POS n) = (((l.get (R.FB_POS_POS n) : Int) +
          (if (l.levelA n == r) = l.flag (R.FB_CFG_CNTINV n) then -1 else 1)) % 4294967296).toNat) ∧
        (l.get (R.FB_CFG_INC n) = 3 → r = true → m.get (R.FB_POS_POS n) = (((l.get (R.FB_POS_POS n) : Int) +
          (if l.flag (R.FB_CFG_CNTINV n) then 1 else -1)) % 4294967296).toNat)) ∧
      (∀ ra rb first sp ha hb, edge = .pair ra rb first sp ha hb → filterPasses (l.get (R.FB_FILT_QGLT n)) ha = true →
        filterPasses (l.get (R.FB_FILT_QGLT n)) hb = true → l.levelA n ≠ ra → l.levelB n ≠ rb →
          l.get (R.FB_CFG_INC n) = 1 →
        (sp < 5 → m.get (R.FB_POS_POS n) = l.get (R.FB_POS_POS n) ∧ m.flag (R.FB_EVT_STEPF n) = true) ∧
        (30 < sp → m.get (R.FB_POS_POS n) = (((l.get (R.FB_POS_POS n) : Int) +
          (if ((ra == rb) == first) = l.flag (R.FB_CFG_CNTINV n) then -2 else 2)) % 4294967296).toNat)) := by
  refine does_logic hs rfl execCountEdge_event rfl (by decide +kernel) fun h => ?_
  generalize s.before (.countEdge e n edge) = l at h
  dsimp only
  have same (b : Bool) {f : Lane → Lane} (still : f l = l) : l.when b f = l := by
    cases b
    · rfl
    · exact still
  refine ⟨?_, ?_, ?_, ?_, ?_, ?_, ?_⟩
  · rintro r held rfl blocked
    exact Lane.when_of_false _ blocked
  · rintro r held rfl blocked
    exact Lane.when_of_false _ blocked
  · rintro r held rfl old
    exact same _ (if_pos old)
  · rintro r held rfl old
    exact same _ (if_pos old)
  · rintro r held rfl passes new
    dsimp only
    rw [Lane.when_of_true _ passes]
    refine ⟨Lane.get_POS_edgeA h n r _ new, ?_, ?_, ?_, ?_, ?_⟩
    · rintro inc rfl stable
      rw [Lane.get_POS_edgeA_step h n _ new inc, Lane.stepUp_of_stable h n true _ stable]
    · rintro inc rfl
      rw [Lane.get_POS_edgeA_step h n _ new inc]
      split
      · exact .inr rfl
      · exact .inl rfl
    · rintro inc rfl
      exact Lane.get_POS_edgeA_up h n _ new inc
    · exact fun zero => Lane.edgeA_uncounted h n r _ new (.inl zero)
    · rintro two rfl
      exact Lane.edgeA_uncounted h n false _ new (.inr ⟨two, rfl⟩)
  · rintro r held rfl passes new
    dsimp only
    obtain ⟨level, at_⟩ := Lane.edgeB_shows h n r (l.edgeStamp n) new
    rw [Lane.when_of_true _ passes]
    refine ⟨level, at_, Lane.get_POS_edgeB h n r _ new, ?_⟩
    rintro inc rfl
    exact Lane.get_POS_edgeB_down h n _ new inc
  · rintro ra rb first sp ha hb rfl passA passB newA newB inc
    dsimp only
    rw [passA, passB]
    refine ⟨fun close => ?_, fun apart => ?_⟩
    · rw [if_neg (by decide), if_neg (by decide), if_pos close]
      exact Lane.edgeBoth_effects h newA newB inc _
    · rw [if_neg (by decide), if_neg (by decide), if_neg (by omega), if_pos apart]
      exact Lane.get_POS_edgePair h newA newB inc first _ _

end Sys2Proof.Machine

/-!
PROOFS. INDEX_PULSE, PRBARM, PROBE_EDGE and STALL (R170 to R172, R181, R185).
-/

namespace Sys2Proof.Machine

-- one declaration at a time: each waits for the kernel, and a waiting one holds a thread and its stack
set_option Elab.async false

/-! ### The index (R170 to R172) -/

/-- The distance from the index is a matter of FB_CPR, FB_IDXPOS and FB_POS. -/
theorem Lane.indexDistance_of_near {l m : Lane} (h : Lane.Near (allBut [151, 157, 158, 160]) l m) (n : Axis) :
    m.indexDistance n = l.indexDistance n := by
  unfold Lane.indexDistance
  rw [h.keep (f := R.FB_CPR_CPR n) (at_FB_CPR n.isLt).1 (by decide +kernel),
    h.keep (f := R.FB_IDXPOS_IDXPOS n) (at_FB_IDXPOS n.isLt).1 (by decide +kernel),
    h.keep (f := R.FB_POS_POS n) (at_FB_POS n.isLt).1 (by decide +kernel)]

/-- A re-reference moves the counter by its distance, forgets the step faults since the last one, and says so (R171). -/
theorem Lane.reReference_effects {i : LaneId} {l : Lane} (h : l.Sound i) (n : Axis) (d : Int) (bad : Bool) :
    (l.reReference n d bad).get (R.FB_POS_POS n) = (((l.get (R.FB_POS_POS n) : Int) + d) % 4294967296).toNat ∧
      ((l.reReference n d bad).fb n).faultsSince = 0 ∧
      (d ≠ 0 → (l.reReference n d bad).flag (R.FB_EVT_REREF n) = true) := by
  unfold Lane.reReference
  extract_lets allow good lineGood l1 l2 l3 l4 clean
  have shown : Lane.Near (allBut [151]) l (l.putInt (R.FB_IDXERR_D n) d) :=
    Lane.putInt_near (inReg (at_FB_IDXERR n.isLt) (by decide +kernel)) (.refl _ h)
  have s0 := shown.place h
  have moved : l1.get (R.FB_POS_POS n) = (((l.get (R.FB_POS_POS n) : Int) + d) % 4294967296).toNat := by
    unfold l1
    rw [Lane.get_POS_moveCounter s0, shown.keep (at_FB_POS n.isLt).1 (by decide +kernel)]
  have s1 : l1.Sound i := ((Lane.Counts.refl s0).moveCounter d).sound
  have noted : Lane.Near (allBut [151]) l1 l2 := Lane.when_near (.refl _ s1) fun _ g =>
    Lane.raise_near (inEvt (ev_FB_EVT n.isLt) (by decide +kernel)) rfl g
  have s2 := noted.place s1
  have judged : Lane.Near (allBut [151, 322, 336]) l3 l4 := Lane.near_ite
    (Lane.drop_near (inReg (at_FB_STAT n.isLt) (by decide +kernel)) (.refl _ (s2.onFb n _)))
    (Lane.raise_near (inEvt (ev_FB_EVT n.isLt) (by decide +kernel)) rfl (.refl _ (s2.onFb n _)))
  have s4 := judged.place (s2.onFb n _)
  refine ⟨?_, ?_, fun far => ?_⟩
  · have ended {f : FbCauses → FbCauses} : Lane.Near (allBut [151]) l4 (l4.causes n f) :=
      Lane.causes_near (by decide +kernel) (.refl _ s4)
    exact (ended.keep (at_FB_POS n.isLt).1 (by decide +kernel)).trans ((judged.keep (at_FB_POS n.isLt).1 (by decide +kernel)).trans
      ((noted.keep (at_FB_POS n.isLt).1 (by decide +kernel)).trans moved))
  · rw [Lane.fb_causes s4]
    show (l4.fb n).faultsSince = 0
    rw [judged.fb (by decide +kernel)]
    unfold l3
    rw [Lane.fb_onFb]
  · have raised : l2.flag (R.FB_EVT_REREF n) = true := by
      have tells : l2 = l1.raise (R.FB_EVT_REREF n) := if_pos (bne_iff_ne.2 far)
      rw [tells]
      exact Lane.flag_raise s1.wf _ (show 5 < 32 by decide) rfl
    have ended {f : FbCauses → FbCauses} : Lane.Near (allBut [322]) l3 (l4.causes n f) :=
      Lane.causes_near (by decide +kernel) (judged.mono (by decide +kernel))
    exact ended.flag (by decide +kernel) (is_FB_EVT n.isLt) rfl raised

/-- A qualified index re-references, and the distance from it counts anew (R170 to R172). -/
theorem Lane.takeIndex_effects {i : LaneId} {l : Lane} (h : l.Sound i) (n : Axis) (d : Int) (close : Bool) {good : Prop}
    [Decidable good] :
    let k := (l.reReference n d close).onFb n fun b => { b with sinceIndex := some 0 }
    let m := if good then k.causes n fun c => { c with index := false } else k
    m.get (R.FB_POS_POS n) = (((l.get (R.FB_POS_POS n) : Int) + d) % 4294967296).toNat ∧
      (m.fb n).sinceIndex = some 0 ∧ (m.fb n).faultsSince = 0 ∧ (d ≠ 0 → m.flag (R.FB_EVT_REREF n) = true) := by
  extract_lets k m
  obtain ⟨moved, forgot, tells⟩ := Lane.reReference_effects h n d close
  have sk : k.Sound i := ((Lane.Counts.refl h).reReference d close).sound.onFb n _
  have ended : Lane.Near (allBut [151, 322]) k m :=
    Lane.near_ite (Lane.causes_near (by decide +kernel) (.refl _ sk)) (.refl _ sk)
  have port : (m.fb n).sinceIndex = (k.fb n).sinceIndex ∧ (m.fb n).faultsSince = (k.fb n).faultsSince := by
    unfold m
    split
    · rw [Lane.fb_causes sk]
      exact ⟨rfl, rfl⟩
    · exact ⟨rfl, rfl⟩
  have fresh : k.fb n = { (l.reReference n d close).fb n with sinceIndex := some 0 } := Lane.fb_onFb _ n _
  rw [port.1, port.2, fresh]
  exact ⟨(ended.keep (at_FB_POS n.isLt).1 (by decide +kernel)).trans moved, rfl, forgot,
    fun far => ended.flag (by decide +kernel) (is_FB_EVT n.isLt) rfl (tells far)⟩

/-- INDEX_PULSE (R170). -/
theorem does_indexPulse (e : At) (n : Axis) (rise : Bool) (ab : BitVec 2) (held : Nat) (s : State) (hs : s.Runs e) :
    Does (.indexPulse ⟨e, rise, held⟩ n ab) s (setOutParts ++
    [.reg (R.FB_STAT 0), .reg (R.FB_EVT 0), .reg (R.FB_POS 0), .reg (R.FB_IDXERR 0), .axFb]) fun l m =>
      (filterPasses (l.get (R.FB_FILT_QGLT n)) held = false → m = l) ∧
      (filterPasses (l.get (R.FB_FILT_QGLT n)) held = true →
        (rise = false → m = l.putBit (R.FB_STAT_ABZ n) 0 false) ∧
        (l.bit (R.FB_STAT_ABZ n) 0 = true → m = l.putBit (R.FB_STAT_ABZ n) 0 rise) ∧
        (l.flag (R.FB_IDX_EN n) = false → m = l.putBit (R.FB_STAT_ABZ n) 0 rise) ∧
        (l.get (R.FB_IDX_GATE n) ≠ ab.toNat → m = l.putBit (R.FB_STAT_ABZ n) 0 rise) ∧
        (rise = true → l.bit (R.FB_STAT_ABZ n) 0 = false → l.flag (R.FB_IDX_EN n) = true →
          l.get (R.FB_IDX_GATE n) = ab.toNat →
          m.get (R.FB_POS_POS n) = (((l.get (R.FB_POS_POS n) : Int) + l.indexDistance n) % 4294967296).toNat ∧
          (m.fb n).sinceIndex = some 0 ∧ (m.fb n).faultsSince = 0 ∧
          (l.indexDistance n ≠ 0 → m.flag (R.FB_EVT_REREF n) = true))) := by
  refine does_logic hs rfl execIndexPulse_event rfl (by decide +kernel) fun h => ?_
  generalize s.before (.indexPulse ⟨e, rise, held⟩ n ab) = l at h
  refine ⟨fun blocked => Lane.when_of_false _ blocked, fun passes => ?_⟩
  rw [Lane.when_of_true _ passes]
  dsimp only
  have shown : Lane.Near (allBut [151, 157, 158, 160]) l (l.putBit (R.FB_STAT_ABZ n) 0 rise) :=
    Lane.putBit_near (inReg (at_FB_STAT n.isLt) (by decide +kernel)) (.refl _ h)
  have enable : (l.putBit (R.FB_STAT_ABZ n) 0 rise).flag (R.FB_IDX_EN n) = l.flag (R.FB_IDX_EN n) :=
    Lane.flag_of_get (shown.keep (at_FB_IDX n.isLt).1 (by decide +kernel))
  have gate : (l.putBit (R.FB_STAT_ABZ n) 0 rise).get (R.FB_IDX_GATE n) = l.get (R.FB_IDX_GATE n) :=
    shown.keep (at_FB_IDX n.isLt).1 (by decide +kernel)
  have from_ : (l.putBit (R.FB_STAT_ABZ n) 0 rise).get (R.FB_POS_POS n) = l.get (R.FB_POS_POS n) :=
    shown.keep (at_FB_POS n.isLt).1 (by decide +kernel)
  have s0 := shown.place h
  rw [enable, gate, Lane.indexDistance_of_near shown]
  refine ⟨?_, fun old => if_neg fun g => ?_, fun off => if_neg fun g => ?_, fun shut => if_neg fun g => shut g.2.2.2.symm,
    fun up new on qualified => ?_⟩
  · rintro rfl
    exact if_neg fun g => Bool.false_ne_true g.1
  · rw [old] at g
    cases g.2.1
  · rw [off] at g
    cases g.2.2.1
  · rw [if_pos ⟨up, by rw [new]; rfl, on, qualified.symm⟩, ← from_]
    exact Lane.takeIndex_effects s0 n _ _

/-- PRBARM (R181). -/
theorem does_prbarm (e : At) (n : Axis) (sel : BitVec 2) (s : State) (hs : s.Runs e) :
    Does (.prbarm e n sel) s [.reg (R.FB_CTRL 0), .reg (R.FB_STAT 0), .axFb] fun _ m =>
      m.get (R.FB_CTRL_PRBEDGE n) = sel.toNat ∧ m.get (R.FB_STAT_PRBFULL n) = 0 ∧ (m.fb n).armed = true := by
  refine does_logic hs rfl execPrbarm_event rfl (by decide +kernel) fun h => ?_
  generalize s.before (.prbarm e n sel) = l at h
  have selected := Lane.get_put h.wf (R.FB_CTRL_PRBEDGE n) sel.toNat (show 2 + 2 ≤ 32 by decide)
  have s1 := h.put (R.FB_CTRL_PRBEDGE n) sel.toNat
  have emptied : Lane.Near (allBut [148]) (l.put (R.FB_CTRL_PRBEDGE n) sel.toNat) _ :=
    Lane.drop_near (f := R.FB_STAT_PRBFULL n) (inReg (at_FB_STAT n.isLt) (by decide +kernel)) (.refl _ s1)
  rw [Lane.get_onFb, Lane.get_onFb, Lane.fb_onFb]
  exact ⟨(emptied.keep (at_FB_CTRL n.isLt).1 (by decide +kernel)).trans (selected.trans (Nat.mod_eq_of_lt sel.isLt)),
    Lane.get_drop s1.wf (R.FB_STAT_PRBFULL n) (show 8 + 1 ≤ 32 by decide), rfl⟩

/-! ### The probe latch (R181) -/

/-- What a probe edge latches: the counter and the stamp. -/
def Lane.latchProbe (l : Lane) (n : Axis) : Lane :=
  let l := (l.put (R.FB_PRBPOS_POS n) (l.probePos n)).nextChoice
  let t := l.stampNow / 4
  let l := (l.put (R.FB_PRBTS0_QNS n) (l.stampNow % 4)).put (R.FB_PRBTS0_NS n) (t % 1000000000)
  l.put (R.FB_PRBTS1_SEC n) (t / 1000000000)

theorem Lane.latchProbe_effects {i : LaneId} {l : Lane} (h : l.Sound i) (n : Axis) :
    (l.latchProbe n).Sound i ∧ (l.latchProbe n).get (R.FB_PRBTS0_QNS n) = l.stampNow % 4 ∧
      (l.latchProbe n).get (R.FB_PRBTS0_NS n) = l.stampNow / 4 % 1000000000 := by
  unfold Lane.latchProbe
  extract_lets l1 t l2
  have s1 : l1.Sound i := (h.put (R.FB_PRBPOS_POS n) _).nextChoice
  have now : l1.stampNow = l.stampNow := rfl
  have sq := s1.put (R.FB_PRBTS0_QNS n) (l1.stampNow % 4)
  have s2 : l2.Sound i := sq.put _ _
  have far : Lane.Near (allBut [162]) l2 (l2.put (R.FB_PRBTS1_SEC n) (t / 1000000000)) :=
    Lane.put_near (inReg (at_FB_PRBTS1 n.isLt) (by decide +kernel)) (.refl _ s2)
  refine ⟨s2.put _ _, (far.keep (at_FB_PRBTS0 n.isLt).1 (by decide +kernel)).trans ?_,
    (far.keep (at_FB_PRBTS0 n.isLt).1 (by decide +kernel)).trans ?_⟩
  · unfold l2
    rw [Lane.get_put_of_disjoint sq.wf (f := R.FB_PRBTS0_NS n) (g := R.FB_PRBTS0_QNS n) _ rfl (show 30 + 2 ≤ 32 by decide)
      (.inl (show 0 + 30 ≤ 30 by decide)), Lane.get_put s1.wf _ _ (show 30 + 2 ≤ 32 by decide), now]
    exact Nat.mod_mod _ 4
  · unfold l2 t
    rw [Lane.get_put sq.wf _ _ (show 0 + 30 ≤ 32 by decide), now]
    exact Nat.mod_eq_of_lt (lt_of_lt_of_le (Nat.mod_lt _ (by decide)) (show 1000000000 ≤ 2 ^ 30 by decide))

/-- PROBE_EDGE (R181). -/
theorem does_probeEdge (e : At) (n : Axis) (rising : Bool) (held : Nat) (s : State) (hs : s.Runs e) :
    Does (.probeEdge ⟨e, held⟩ n rising) s [.reg (R.FB_STAT 0), .reg (R.FB_EVT 0), .reg (R.FB_PRBPOS 0),
    .reg (R.FB_PRBTS0 0), .reg (R.FB_PRBTS1 0), .fresh, .axFb] fun l m =>
      (filterPasses (l.get (R.FB_FILT_PGLT n)) held = false → m = l) ∧
      (l.bit (R.FB_CTRL_PRBEDGE n) (if rising then 0 else 1) = false → m = l) ∧
      (filterPasses (l.get (R.FB_FILT_PGLT n)) held = true →
        l.bit (R.FB_CTRL_PRBEDGE n) (if rising then 0 else 1) = true →
        (l.get (R.FB_STAT_PRBFULL n) = 1 → m.flag (R.FB_EVT_PRBOVF n) = true ∧
          m.word (R.FB_PRBPOS n) = l.word (R.FB_PRBPOS n)) ∧
        (l.get (R.FB_STAT_PRBFULL n) = 0 → (l.fb n).armed = false → m = l) ∧
        (l.get (R.FB_STAT_PRBFULL n) = 0 → (l.fb n).armed = true →
          m.flag (R.FB_EVT_PRB n) = true ∧ m.get (R.FB_STAT_PRBFULL n) = 1 ∧ (m.fb n).armed = false ∧
          m.get (R.FB_PRBTS0_QNS n) = l.stampNow % 4 ∧ m.get (R.FB_PRBTS0_NS n) = l.stampNow / 4 % 1000000000)) := by
  refine does_logic hs rfl execProbeEdge_event rfl (by decide +kernel) fun h => ?_
  generalize s.before (.probeEdge ⟨e, held⟩ n rising) = l at h
  refine ⟨fun blocked => if_pos (.inl (by rw [blocked]; rfl)), fun other => if_pos (.inr (by rw [other]; rfl)), fun passes selected => ?_⟩
  rw [if_neg (by rw [passes, selected]; decide)]
  refine ⟨fun full => ?_, fun empty idle => ?_, fun empty armed => ?_⟩
  · rw [if_pos (show l.flag (R.FB_STAT_PRBFULL n) = true by unfold Lane.flag; rw [full]; rfl)]
    have kept : Lane.Near (allBut [161]) l (l.raise (R.FB_EVT_PRBOVF n)) :=
      Lane.raise_near (inEvt (ev_FB_EVT n.isLt) (by decide +kernel)) rfl (.refl _ h)
    exact ⟨Lane.flag_raise h.wf _ (show 15 < 32 by decide) rfl, kept.word _ (by rw [(at_FB_PRBPOS n.isLt).1]; decide +kernel)⟩
  · rw [if_neg (by rw [Lane.flag_eq_false_of_get empty]; decide), if_neg (by rw [idle]; decide)]
  · rw [if_neg (by rw [Lane.flag_eq_false_of_get empty]; decide), if_pos armed]
    obtain ⟨s1, quarter, nano⟩ := Lane.latchProbe_effects h n
    let k := ((l.latchProbe n).raise (R.FB_STAT_PRBFULL n)).raise (R.FB_EVT_PRB n)
    let m := k.onFb n fun b => { b with armed := false }
    change m.flag (R.FB_EVT_PRB n) = true ∧ m.get (R.FB_STAT_PRBFULL n) = 1 ∧ (m.fb n).armed = false ∧
      m.get (R.FB_PRBTS0_QNS n) = l.stampNow % 4 ∧ m.get (R.FB_PRBTS0_NS n) = l.stampNow / 4 % 1000000000
    have s2 := s1.raise (R.FB_STAT_PRBFULL n)
    have shown : Lane.Near (allBut [162]) (l.latchProbe n) ((l.latchProbe n).raise (R.FB_STAT_PRBFULL n)) :=
      Lane.raise_near (inReg (at_FB_STAT n.isLt) (by decide +kernel)).1 rfl (.refl _ s1)
    have noted : Lane.Near (allBut [149, 162]) ((l.latchProbe n).raise (R.FB_STAT_PRBFULL n)) k :=
      Lane.raise_near (inEvt (ev_FB_EVT n.isLt) (by decide +kernel)) rfl (.refl _ s2)
    have latched {f : Fld} (ha : f.addr = R.FB_PRBTS0 n) : m.get f = (l.latchProbe n).get f :=
      (Lane.get_onFb k n _ f).trans ((noted.keep (ha ▸ (at_FB_PRBTS0 n.isLt).1) (by decide +kernel)).trans
        (shown.keep (ha ▸ (at_FB_PRBTS0 n.isLt).1) (by decide +kernel)))
    refine ⟨?_, ?_, congrArg FeedbackState.armed (Lane.fb_onFb k n _), (latched rfl).trans quarter, (latched rfl).trans nano⟩
    · exact (Lane.flag_onFb k n _ _).trans (Lane.flag_raise s2.wf (R.FB_EVT_PRB n) (show 14 < 32 by decide) rfl)
    · exact (Lane.get_onFb k n _ _).trans ((noted.keep (at_FB_STAT n.isLt).1 (by decide +kernel)).trans
        (Lane.get_raise s1.wf _ (show 8 < 32 by decide) rfl))

/-- STALL (R185). -/
theorem does_stall (e : At) (n : Axis) (s : State) (hs : s.Runs e) :
    Does (.stall e n) s [.reg (R.FB_STAT 0), .reg (R.FB_EVT 0), .reg (R.FB_SPEED 0), .axFb] fun l m =>
      ((l.fb n).stamps = [] → m = l) ∧
      (∀ t r, (l.fb n).stamps = t :: r → l.now < t + ms (l.get (R.FB_SPDCFG_STALL n)) → m = l) ∧
      (∀ t r, (l.fb n).stamps = t :: r → l.get (R.FB_CFG_INC n) ≠ 0 →
        t + ms (l.get (R.FB_SPDCFG_STALL n)) ≤ l.now →
        m.flag (R.FB_EVT_STALL n) = true ∧ m.get (R.FB_STAT_STILL n) = 1 ∧ (m.fb n).measured = 0) := by
  refine does_logic hs rfl execStall_event rfl (by decide +kernel) fun h => ?_
  generalize s.before (.stall e n) = l at h
  cases stamps : (l.fb n).stamps with
  | nil => exact ⟨fun _ => rfl, nofun, nofun⟩
  | cons t r =>
    dsimp only
    refine ⟨nofun, fun t' r' same early => if_neg fun g => ?_, fun t' r' same inc late => ?_⟩
    · cases same
      exact absurd (of_decide_eq_true g.2) (Nat.not_le_of_lt early)
    · cases same
      rw [if_pos ⟨inc, decide_eq_true late⟩]
      have s1 := h.raise (R.FB_STAT_STILL n)
      have s2 := s1.raise (R.FB_EVT_STALL n)
      have noted : Lane.Near (allBut [149]) (l.raise (R.FB_STAT_STILL n)) ((l.raise (R.FB_STAT_STILL n)).raise (R.FB_EVT_STALL n)) :=
        Lane.raise_near (inEvt (ev_FB_EVT n.isLt) (by decide +kernel)) rfl (.refl _ s1)
      have slowed : Lane.Near (allBut [149, 322]) ((l.raise (R.FB_STAT_STILL n)).raise (R.FB_EVT_STALL n)) _ :=
        Lane.setSpeed_near (y1 := n) (y2 := 0) (by decide +kernel) (.refl _ s2)
      rw [Lane.flag_onFb, Lane.get_onFb, Lane.fb_onFb]
      refine ⟨slowed.flag (by decide +kernel) (is_FB_EVT n.isLt) rfl (Lane.flag_raise s1.wf _ (show 4 < 32 by decide) rfl), ?_, ?_⟩
      · exact (slowed.keep (at_FB_STAT n.isLt).1 (by decide +kernel)).trans
          ((noted.keep (at_FB_STAT n.isLt).1 (by decide +kernel)).trans (Lane.get_raise h.wf _ (show 5 < 32 by decide) rfl))
      · unfold Lane.setSpeed Lane.showSpeed Lane.putInt
        rw [Lane.fb_put, Lane.fb_onFb]

/-- Settles O28, command by command. -/
theorem encoderFeedback : Obligations.EncoderFeedback := by
  unfold Obligations.EncoderFeedback
  exact ⟨does_countEdge, does_indexPulse, does_prbarm, does_probeEdge, does_stall⟩

end Sys2Proof.Machine

/-!
PROOFS. Serial frames: SERIAL_FRAME_SEND, SERIAL_FRAME and RENEG (R173 to R177, R188).
-/

namespace Sys2Proof.Machine

-- one declaration at a time: each waits for the kernel, and a waiting one holds a thread and its stack
set_option Elab.async false

/-- SERIAL_FRAME_SEND (R175). -/
theorem does_serialFrameSend (e : At) (n : Axis) (s : State) (hs : s.Runs e) :
    Does (.serialFrameSend e n) s [.axFb] fun l m =>
      (l.get (R.FB_CFG_SER n) = 0 → m = l) ∧ (l.periodOver n = false → m = l) ∧
      (l.flag (R.FB_STAT_SERLOCK n) = false → (l.fb n).serial.negotiating = false → m = l) ∧
      (l.get (R.FB_CFG_SER n) ≠ 0 → l.periodOver n = true →
        (l.flag (R.FB_STAT_SERLOCK n) = true ∨ (l.fb n).serial.negotiating = true) →
        (m.fb n).serial.latched = some (BitVec.ofNat 32 (l.get (R.FB_POS_POS n)), l.now) ∧
        (m.fb n).serial.sentAt = some l.now) := by
  refine does_logic hs rfl execSerialFrameSend_event rfl (by decide +kernel) fun h => ?_
  generalize s.before (.serialFrameSend e n) = l at h
  refine ⟨fun off => if_neg fun g => g.1 off, fun early => if_neg fun g => ?_, fun unlocked idle => if_neg fun g => ?_,
    fun on due runs => ?_⟩
  · rw [early] at g
    cases g.2.2
  · rw [unlocked, idle] at g
    rcases g.2.1 with g | g <;> cases g
  · rw [if_pos ⟨on, runs.symm, due⟩, Lane.fb_onSer]
    exact ⟨rfl, rfl⟩

/-! ### The end of a frame (R173, R174) -/

/-- What the end of a frame takes before it is judged: the latch is used, the line delay and a warning are shown. -/
def Lane.endFrame (l : Lane) (n : Axis) (delay : Nat) (warned : Bool) : Lane :=
  ((l.onSer n fun x => { x with latched := none }).put (R.FB_SERCNT_DLY n) (min 2047 delay)).when warned
    fun l => l.raise (R.FB_EVT_SERWARN n)

theorem Lane.endFrame_near {i : LaneId} {l : Lane} (h : l.Sound i) (n : Axis) (delay : Nat) (warned : Bool) :
    Lane.Near (allBut [146, 149, 160, 164, 165, 166]) l (l.endFrame n delay warned) :=
  Lane.when_near (Lane.put_near (inReg (at_FB_SERCNT n.isLt) (by decide +kernel))
    (Lane.onSer_near (by decide +kernel) (.refl _ h))) fun _ g =>
      Lane.raise_near (inEvt (ev_FB_EVT n.isLt) (by decide +kernel)) rfl g

theorem Lane.fb_endFrame (l : Lane) (n : Axis) (delay : Nat) (warned : Bool) :
    (l.endFrame n delay warned).fb n = { l.fb n with serial := { (l.fb n).serial with latched := none } } := by
  unfold Lane.endFrame
  cases warned
  · rw [Lane.when_of_false _ rfl, Lane.fb_put, Lane.fb_onSer]
  · rw [Lane.when_of_true _ rfl, Lane.fb_raise, Lane.fb_put, Lane.fb_onSer]

theorem Lane.get_SERCNT_endFrame {i : LaneId} {l : Lane} (h : l.Sound i) (n : Axis) (delay : Nat) (warned : Bool) :
    (l.endFrame n delay warned).get (R.FB_SERCNT_DLY n) = min 2047 delay ∧
    (l.endFrame n delay warned).get (R.FB_SERCNT_BAD n) = l.get (R.FB_SERCNT_BAD n) := by
  have s1 := (h.onSer n fun x => { x with latched := none }).put (R.FB_SERCNT_DLY n) (min 2047 delay)
  have warns : Lane.Near (allBut [168]) _ (l.endFrame n delay warned) := Lane.when_near (.refl _ s1) fun _ g =>
    Lane.raise_near (inEvt (ev_FB_EVT n.isLt) (by decide +kernel)) rfl g
  rw [warns.keep (f := R.FB_SERCNT_DLY n) (at_FB_SERCNT n.isLt).1 (by decide +kernel),
    warns.keep (f := R.FB_SERCNT_BAD n) (at_FB_SERCNT n.isLt).1 (by decide +kernel),
    Lane.get_put (h.onSer n _).wf _ _ (show 0 + 11 ≤ 32 by decide),
    Lane.get_put_of_disjoint (h.onSer n _).wf (f := R.FB_SERCNT_DLY n) (g := R.FB_SERCNT_BAD n) _ rfl
      (show 16 + 16 ≤ 32 by decide) (.inl (show 0 + 11 ≤ 16 by decide)), Lane.get_onSer]
  exact ⟨Nat.mod_eq_of_lt (show min 2047 delay < 2048 by omega), rfl⟩

/-- The counts of a frame are a matter of the port's configuration. -/
theorem Lane.frameCounts_of_near {l m : Lane} (h : Lane.Near (allBut [146, 149, 160, 164, 165, 166]) l m) (n : Axis)
    (f : SerialFrameIn) : m.frameCounts n f = l.frameCounts n f := by
  have config {g : Fld} (ha : g.addr = R.FB_CFG n) : m.get g = l.get g := h.keep (ha ▸ (at_FB_CFG n.isLt).1) (by decide +kernel)
  have format {g : Fld} (ha : g.addr = R.FB_SER0 n) : m.get g = l.get g := h.keep (ha ▸ (at_FB_SER0 n.isLt).1) (by decide +kernel)
  have turns {g : Fld} (ha : g.addr = R.FB_SER2 n) : m.get g = l.get g := h.keep (ha ▸ (at_FB_SER2 n.isLt).1) (by decide +kernel)
  unfold Lane.frameCounts Lane.framePosition Lane.frameData Lane.biss
  rw [h.keep (f := R.FB_CPR_CPR n) (at_FB_CPR n.isLt).1 (by decide +kernel), turns (g := R.FB_SER2_STB n) rfl,
    turns (g := R.FB_SER2_MTB n) rfl, format (g := R.FB_SER0_CRCL n) rfl, format (g := R.FB_SER0_LEN n) rfl,
    config (g := R.FB_CFG_SER n) rfl, Lane.flag_of_get (format (g := R.FB_SER0_GRAY n) rfl),
    Lane.flag_of_get (config (g := R.FB_CFG_CNTINV n) rfl)]

/-- The counts of a frame fit FB_SERPOS. -/
theorem Lane.frameCounts_lt (l : Lane) (n : Axis) (f : SerialFrameIn) : l.frameCounts n f < 4294967296 := by
  unfold Lane.frameCounts
  dsimp only
  split <;> exact Nat.mod_lt _ (by decide)

/-- The position of a frame is shown as it is. -/
theorem Lane.get_SERPOS_put {i : LaneId} {l : Lane} (h : l.Sound i) (n : Axis) {c : Nat} (hc : c < 4294967296) :
    (l.put (R.FB_SERPOS_POS n) c).get (R.FB_SERPOS_POS n) = c :=
  (Lane.get_put h.wf _ _ (show 0 + 32 ≤ 32 by decide)).trans (Nat.mod_eq_of_lt hc)

/-! ### Frames in service (R176, R177, R188) -/

/-- A frame that is not clean is counted and discarded (R176). -/
theorem Lane.badFrame_effects {i : LaneId} {l : Lane} (h : l.Sound i) (n : Axis) :
    (l.badFrame n).flag (R.FB_EVT_SERBAD n) = true ∧
      (l.badFrame n).get (R.FB_SERCNT_BAD n) = min (l.get (R.FB_SERCNT_BAD n) + 1) 65535 ∧
      ((l.badFrame n).fb n).serial.bad = (l.fb n).serial.bad + 1 ∧
      ((l.badFrame n).fb n).serial.latched = (l.fb n).serial.latched ∧
      (l.badFrame n).get (R.FB_SERCNT_DLY n) = l.get (R.FB_SERCNT_DLY n) := by
  have s0 : (l.bump (R.FB_SERCNT_BAD n)).Sound i := h.put _ _
  have noted : Lane.Near (allBut [168, 336]) (l.bump (R.FB_SERCNT_BAD n)) ((l.bump (R.FB_SERCNT_BAD n)).raise (R.FB_EVT_SERBAD n)) :=
    Lane.raise_near (inEvt (ev_FB_EVT n.isLt) (by decide +kernel)) rfl (.refl _ s0)
  have s1 := noted.place s0
  have counts : Lane.Counts i n (((l.bump (R.FB_SERCNT_BAD n)).raise (R.FB_EVT_SERBAD n)).onSer n fun x =>
      { x with bad := x.bad + 1, clean := 0, samples := [] }) (l.badFrame n) := by
    unfold Lane.badFrame
    extract_lets l1 l2 l3
    have anew : Lane.Counts i n l2 l3 := (Lane.Counts.refl (s1.onSer n _)).estimateAnew
    split
    · exact anew.causes _
    · exact anew
  obtain ⟨bad, latched⟩ := FeedbackState.serial_of_uncounted counts.port
  rw [Lane.fb_onSer, noted.fb (by decide +kernel), Lane.bump, Lane.fb_put] at bad latched
  have raised := Lane.flag_raise s0.wf (R.FB_EVT_SERBAD n) (show 9 < 32 by decide) rfl
  refine ⟨counts.flag rfl rfl ((Lane.flag_onSer _ n _ _).trans raised), ?_, bad, latched, ?_⟩
  · rw [counts.near.keep (at_FB_SERCNT n.isLt).1 (by decide +kernel), Lane.get_onSer]
    exact (noted.keep (f := R.FB_SERCNT_BAD n) (at_FB_SERCNT n.isLt).1 (by decide +kernel)).trans
      (Lane.get_bump h.wf _ (show 16 + 16 ≤ 32 by decide))
  · rw [counts.near.keep (at_FB_SERCNT n.isLt).1 (by decide +kernel), Lane.get_onSer]
    exact (noted.keep (f := R.FB_SERCNT_DLY n) (at_FB_SERCNT n.isLt).1 (by decide +kernel)).trans
      (Lane.get_put_of_disjoint h.wf _ rfl (show 0 + 11 ≤ 32 by decide) (.inr (show 0 + 11 ≤ 16 by decide)))

theorem Lane.get_of_flag {l : Lane} {f : Fld} (hw : f.width = 1) (h : l.flag f = true) : l.get f = 1 := by
  have small := l.get_lt f
  rw [hw] at small
  have pos : l.get f ≠ 0 := bne_iff_ne.1 h
  omega

/-- The first clean frame makes the position valid and is else a matter of counting (R174). -/
theorem Lane.firstFrame_effects {i : LaneId} {l : Lane} (h : l.Sound i) (n : Axis) (c : Nat) (d : Int) (inc : Bool) :
    (l.firstFrame n c d inc).Sound i ∧ Lane.Near (allBut portKept) l (l.firstFrame n c d inc) ∧
      ((l.firstFrame n c d inc).fb n).uncounted = (l.fb n).uncounted ∧
      (l.firstFrame n c d inc).get (R.FB_STAT_REF n) = 1 := by
  have shown : Lane.Counts i n l (l.putInt (R.FB_POS_POS n) (if inc then (l.get (R.FB_POS_POS n) : Int) + d else (c : Int))) :=
    (Lane.Counts.refl h).step (Lane.putInt_near (inReg (at_FB_POS n.isLt) (by decide +kernel)) (.refl _ h))
  unfold Lane.firstFrame
  extract_lets l1 l2
  have referenced : Lane.Near (allBut portKept) l (l1.raise (R.FB_STAT_REF n)) :=
    Lane.raise_near (inReg (at_FB_STAT n.isLt) (by decide +kernel)).1 rfl shown.near
  have s2 : l2.Sound i := (shown.sound.raise _).onFb n _
  have counts : Lane.Counts i n l2 (l2.causes n fun c => { c with noRef := false }) := (Lane.Counts.refl s2).causes _
  refine ⟨counts.sound, (Lane.onFb_near (by decide +kernel) referenced).trans counts.near, counts.port.trans ?_,
    (counts.stat (R.FB_STAT_REF n) rfl (show 7 ≤ 7 by decide) (show 7 + 1 ≤ 32 by decide)).trans
      ((Lane.get_onFb _ n _ _).trans (Lane.get_raise shown.sound.wf _ (show 7 < 32 by decide) rfl))⟩
  unfold l2
  rw [Lane.fb_onFb, Lane.fb_raise]
  exact shown.port

/-- A clean frame in service ends a run of discarded ones, shows its position and leaves the counter referenced (R174, R176). -/
theorem Lane.cleanFrame_effects {i : LaneId} {l : Lane} (h : l.Sound i) (n : Axis) {c : Nat} (hc : c < 4294967296)
    (q : BitVec 32) (t : Nat) :
    ((l.cleanFrame n c q t).fb n).serial.bad = 0 ∧ (l.cleanFrame n c q t).get (R.FB_SERPOS_POS n) = c ∧
      (l.cleanFrame n c q t).get (R.FB_STAT_REF n) = 1 ∧
      ((l.cleanFrame n c q t).fb n).serial.latched = (l.fb n).serial.latched ∧
      (l.cleanFrame n c q t).get (R.FB_SERCNT_DLY n) = l.get (R.FB_SERCNT_DLY n) := by
  unfold Lane.cleanFrame
  extract_lets l1 l2 l3 d inc l4
  have shown : Lane.Near (allBut [168, 336]) l l1 :=
    Lane.put_near (inReg (at_FB_SERPOS n.isLt) (by decide +kernel)) (.refl _ h)
  have s1 := shown.place h
  have clean : Lane.Counts i n l2 l3 := (Lane.Counts.refl (s1.onSer n _)).when fun g => g.causes _
  have taken : l4.Sound i ∧ Lane.Near (allBut portKept) l3 l4 ∧ (l4.fb n).uncounted = (l3.fb n).uncounted ∧
      l4.get (R.FB_STAT_REF n) = 1 := by
    unfold l4
    cases ref : l3.flag (R.FB_STAT_REF n) with
    | false => exact Lane.firstFrame_effects clean.sound n c d inc
    | true =>
      rw [if_neg (by decide)]
      have counts : Lane.Counts i n l3 (if inc then l3.compareFrame n d else
          l3.moveCounter n (diff32 c (l3.get (R.FB_POS_POS n)))) := by
        split
        · exact (Lane.Counts.refl clean.sound).compareFrame d
        · exact (Lane.Counts.refl clean.sound).moveCounter _
      exact ⟨counts.sound, counts.near, counts.port,
        (counts.stat (R.FB_STAT_REF n) rfl (show 7 ≤ 7 by decide) (show 7 + 1 ≤ 32 by decide)).trans (Lane.get_of_flag rfl ref)⟩
  obtain ⟨s4, near, port, ref⟩ := taken
  have ended : Lane.Counts i n l4 (if inc then l4 else l4.serialSpeed n) := by
    split
    · exact .refl s4
    · exact (Lane.Counts.refl s4).serialSpeed
  have kept := (clean.near.trans near).trans ended.near
  obtain ⟨bad, latched⟩ := FeedbackState.serial_of_uncounted (ended.port.trans (port.trans clean.port))
  rw [Lane.fb_onSer, shown.fb (by decide +kernel)] at bad latched
  exact ⟨bad,
    (kept.keep (at_FB_SERPOS n.isLt).1 (by decide +kernel)).trans ((Lane.get_onSer l1 n _ _).trans (Lane.get_SERPOS_put h n hc)),
    (ended.stat (R.FB_STAT_REF n) rfl (show 7 ≤ 7 by decide) (show 7 + 1 ≤ 32 by decide)).trans ref,
    latched,
    (kept.keep (at_FB_SERCNT n.isLt).1 (by decide +kernel)).trans ((Lane.get_onSer l1 n _ _).trans
      (shown.keep (f := R.FB_SERCNT_DLY n) (at_FB_SERCNT n.isLt).1 (by decide +kernel)))⟩

/-! ### Negotiation (R175) -/

/-- The serial link locks at the rate `rate`. -/
def Lane.lockSerial (l : Lane) (n : Axis) (rate : Nat) : Lane :=
  let l := ((l.raise (R.FB_STAT_SERLOCK n)).put (R.FB_STAT_SRATE n) rate).estimateAnew n
  let l := l.onSer n fun x => { x with negotiating := false, bad := 0, devs := 0, within := 0, samples := [] }
  let l := l.onTrust fun t => { t with carts := t.carts.set n { t.carts[n] with due := true } }
  l.causes n fun c => { c with serial := false }

/-- A frame is counted at the rate of the negotiation, and its position shown where it is clean. -/
def Lane.countFrame (l : Lane) (n : Axis) (clean : Bool) (c : Nat) : Lane :=
  (l.when clean fun l => l.put (R.FB_SERPOS_POS n) c).onSer n fun x =>
    { x with frames := x.frames + 1, clean := if clean then x.clean + 1 else 0 }

theorem Lane.negotiateFrame_eq (l : Lane) (n : Axis) (clean : Bool) (c delay : Nat) :
    l.negotiateFrame n clean c delay =
      if 64 ≤ ((l.countFrame n clean c).fb n).serial.clean then
        (l.countFrame n clean c).lockSerial n ((l.countFrame n clean c).fb n).serial.rate
      else if 2000 < delay ∨ 256 ≤ ((l.countFrame n clean c).fb n).serial.frames then (l.countFrame n clean c).stepRate n
      else l.countFrame n clean c := rfl

/-- The registers of the port that a lock and a step of the rate leave. -/
abbrev rateKept : List Nat := [167, 168]

theorem Lane.lockSerial_effects {i : LaneId} {l : Lane} (h : l.Sound i) (n : Axis) (rate : Nat) :
    Lane.Near (allBut rateKept) l (l.lockSerial n rate) ∧ (l.lockSerial n rate).get (R.FB_STAT_SERLOCK n) = 1 ∧
      ((l.lockSerial n rate).fb n).serial =
        { (l.fb n).serial with negotiating := false, bad := 0, devs := 0, within := 0, samples := [] } := by
  unfold Lane.lockSerial
  extract_lets l1 l2 l3
  have s0 := h.raise (R.FB_STAT_SERLOCK n)
  have locked := Lane.get_raise h.wf (R.FB_STAT_SERLOCK n) (show 9 < 32 by decide) rfl
  have sr := s0.put (R.FB_STAT_SRATE n) rate
  have rated := Lane.get_put_of_disjoint s0.wf (f := R.FB_STAT_SRATE n) (g := R.FB_STAT_SERLOCK n) rate rfl
    (show 9 + 1 ≤ 32 by decide) (.inr (show 9 + 1 ≤ 10 by decide))
  have anew : Lane.Near (allBut [167, 168, 336]) l l1 := Lane.estimateAnew_near (by decide +kernel)
    (Lane.put_near (inReg (at_FB_STAT n.isLt) (by decide +kernel))
      (Lane.raise_near (inReg (at_FB_STAT n.isLt) (by decide +kernel)).1 rfl (.refl _ h)))
  have estimated : Lane.Counts i n ((l.raise (R.FB_STAT_SERLOCK n)).put (R.FB_STAT_SRATE n) rate) l1 :=
    (Lane.Counts.refl sr).estimateAnew
  have near3 : Lane.Near (allBut rateKept) l l3 := Lane.onTrust_near
    (.mk kp kp kp kp kp kp kp kp kp kp kp kp kp kp kp kp kp kp kp (not_bit (by decide +kernel)))
    (Lane.onSer_near (by decide +kernel) (anew.mono (by decide +kernel)))
  have s2 : l2.Sound i := estimated.sound.onSer n _
  have s3 : l3.Sound i := s2.onTrust _
  have counts : Lane.Counts i n l3 (l3.causes n fun c => { c with serial := false }) := (Lane.Counts.refl s3).causes _
  refine ⟨near3.trans (counts.near.mono (by decide +kernel)), ?_, ?_⟩
  · calc (l3.causes n fun c => { c with serial := false }).get (R.FB_STAT_SERLOCK n)
        = l3.get (R.FB_STAT_SERLOCK n) := counts.stat (R.FB_STAT_SERLOCK n) rfl (show 7 ≤ 9 by decide) (show 9 + 1 ≤ 32 by decide)
      _ = l2.get (R.FB_STAT_SERLOCK n) := Lane.get_onTrust l2 _ _
      _ = l1.get (R.FB_STAT_SERLOCK n) := Lane.get_onSer l1 n _ _
      _ = _ := estimated.stat (R.FB_STAT_SERLOCK n) rfl (show 7 ≤ 9 by decide) (show 9 + 1 ≤ 32 by decide)
      _ = _ := rated
      _ = 1 := locked
  · rw [Lane.fb_causes s3]
    show (l2.fb n).serial = _
    unfold l2
    rw [Lane.fb_onSer, anew.fb (by decide +kernel)]

theorem Lane.stepRate_effects {i : LaneId} {l : Lane} (h : l.Sound i) (n : Axis) :
    Lane.Near (allBut rateKept) l (l.stepRate n) ∧ ((l.stepRate n).fb n).serial.latched = (l.fb n).serial.latched ∧
      ((l.stepRate n).fb n).serial.frames = 0 ∧ ((l.stepRate n).fb n).serial.clean = 0 := by
  refine ⟨Lane.stepRate_near (by decide +kernel) (.refl _ h), ?_⟩
  unfold Lane.stepRate
  dsimp only
  split
  · rw [Lane.fb_onSer, Lane.fb_raise]
    exact ⟨rfl, rfl, rfl⟩
  · rw [Lane.fb_onSer]
    exact ⟨rfl, rfl, rfl⟩

theorem Lane.countFrame_effects {i : LaneId} {l : Lane} (h : l.Sound i) (n : Axis) (clean : Bool) {c : Nat}
    (hc : c < 4294967296) :
    (l.countFrame n clean c).Sound i ∧ Lane.Near (allBut [168]) l (l.countFrame n clean c) ∧
      (clean = true → (l.countFrame n clean c).get (R.FB_SERPOS_POS n) = c) ∧
      ((l.countFrame n clean c).fb n).serial.latched = (l.fb n).serial.latched ∧
      ((l.countFrame n clean c).fb n).serial.frames = (l.fb n).serial.frames + 1 ∧
      ((l.countFrame n clean c).fb n).serial.clean = if clean then (l.fb n).serial.clean + 1 else 0 := by
  have shown : Lane.Near (allBut [168, 336]) l (l.when clean fun l => l.put (R.FB_SERPOS_POS n) c) :=
    Lane.when_near (.refl _ h) fun _ g => Lane.put_near (inReg (at_FB_SERPOS n.isLt) (by decide +kernel)) g
  refine ⟨(shown.place h).onSer n _, Lane.onSer_near (by decide +kernel) (shown.mono (by decide +kernel)), ?_, ?_⟩
  · rintro rfl
    exact (Lane.get_onSer _ n _ _).trans (Lane.get_SERPOS_put h n hc)
  · unfold Lane.countFrame
    rw [Lane.fb_onSer, shown.fb (by decide +kernel)]
    exact ⟨rfl, rfl, rfl⟩

/-- A frame during negotiation: a clean one shows its position, the 64th in a row locks the link; one that is not clean
starts the run anew, and the rate steps at the 256th frame or a late one. -/
theorem Lane.negotiateFrame_effects {i : LaneId} {l : Lane} (h : l.Sound i) (n : Axis) (clean : Bool) {c : Nat}
    (hc : c < 4294967296) (delay : Nat) {m : Lane} (hm : l.negotiateFrame n clean c delay = m) :
    (m.fb n).serial.latched = (l.fb n).serial.latched ∧ m.get (R.FB_SERCNT_DLY n) = l.get (R.FB_SERCNT_DLY n) ∧
      (clean = true → m.get (R.FB_SERPOS_POS n) = c ∧
        (63 ≤ (l.fb n).serial.clean → m.get (R.FB_STAT_SERLOCK n) = 1 ∧ (m.fb n).serial.negotiating = false)) ∧
      (clean = false → (m.fb n).serial.clean = 0 ∧
        (delay ≤ 2000 → (l.fb n).serial.frames < 255 → (m.fb n).serial.frames = (l.fb n).serial.frames + 1) ∧
        (2000 < delay ∨ 255 ≤ (l.fb n).serial.frames → (m.fb n).serial.frames = 0)) := by
  rw [Lane.negotiateFrame_eq] at hm
  obtain ⟨s1, near, shows, latched, frames, run⟩ := Lane.countFrame_effects h n clean hc
  generalize l.countFrame n clean c = k at *
  have delayKept := near.keep (f := R.FB_SERCNT_DLY n) (at_FB_SERCNT n.isLt).1 (by decide +kernel)
  by_cases locks : 64 ≤ (k.fb n).serial.clean
  · rw [if_pos locks] at hm
    subst hm
    obtain ⟨locking, locked, after⟩ := Lane.lockSerial_effects s1 n (k.fb n).serial.rate
    refine ⟨(congrArg SerialState.latched after).trans latched,
      (locking.keep (at_FB_SERCNT n.isLt).1 (by decide +kernel)).trans delayKept, fun good => ?_, fun bad => ?_⟩
    · exact ⟨(locking.keep (at_FB_SERPOS n.isLt).1 (by decide +kernel)).trans (shows good),
        fun _ => ⟨locked, congrArg SerialState.negotiating after⟩⟩
    · rw [run, bad] at locks
      exact absurd locks (show ¬64 ≤ 0 by decide)
  · rw [if_neg locks] at hm
    have short (good : clean = true) : ¬63 ≤ (l.fb n).serial.clean := fun long =>
      locks (by rw [run, good]; exact Nat.succ_le_succ long)
    by_cases steps : 2000 < delay ∨ 256 ≤ (k.fb n).serial.frames
    · rw [if_pos steps] at hm
      subst hm
      obtain ⟨stepping, latchKept, restart, none⟩ := Lane.stepRate_effects s1 n
      refine ⟨latchKept.trans latched, (stepping.keep (at_FB_SERCNT n.isLt).1 (by decide +kernel)).trans delayKept,
        fun good => ⟨(stepping.keep (at_FB_SERPOS n.isLt).1 (by decide +kernel)).trans (shows good),
          fun long => absurd long (short good)⟩, fun _ => ⟨none, fun soon few => ?_, fun _ => restart⟩⟩
      omega
    · rw [if_neg steps] at hm
      subst hm
      refine ⟨latched, delayKept, fun good => ⟨shows good, fun long => absurd long (short good)⟩,
        fun bad => ⟨by rw [run, bad]; rfl, fun _ _ => frames, fun many => ?_⟩⟩
      omega

/-- What a frame `f` that ended at port `n` makes of `l`, as the clause of SERIAL_FRAME says it (R175, R176). -/
def Lane.FrameTaken (n : Axis) (f : SerialFrameIn) (l m : Lane) : Prop :=
  (m.fb n).serial.latched = none ∧ m.get (R.FB_SERCNT_DLY n) = min 2047 f.delay ∧
  ((l.fb n).serial.negotiating = false → (f.inTime && l.frameCrcOk n f && !l.frameErr n f) = false →
    m.flag (R.FB_EVT_SERBAD n) = true ∧
    m.get (R.FB_SERCNT_BAD n) = min (l.get (R.FB_SERCNT_BAD n) + 1) 65535 ∧
    (m.fb n).serial.bad = (l.fb n).serial.bad + 1) ∧
  ((l.fb n).serial.negotiating = false → (f.inTime && l.frameCrcOk n f && !l.frameErr n f) = true →
    (m.fb n).serial.bad = 0 ∧ m.get (R.FB_SERPOS_POS n) = l.frameCounts n f ∧ m.get (R.FB_STAT_REF n) = 1) ∧
  ((l.fb n).serial.negotiating = true → (f.inTime && l.frameCrcOk n f && !l.frameErr n f) = true →
    m.get (R.FB_SERPOS_POS n) = l.frameCounts n f ∧
    (63 ≤ (l.fb n).serial.clean → m.get (R.FB_STAT_SERLOCK n) = 1 ∧ (m.fb n).serial.negotiating = false)) ∧
  ((l.fb n).serial.negotiating = true → (f.inTime && l.frameCrcOk n f && !l.frameErr n f) = false →
    (m.fb n).serial.clean = 0 ∧
    (f.delay ≤ 2000 → (l.fb n).serial.frames < 255 → (m.fb n).serial.frames = (l.fb n).serial.frames + 1) ∧
    (2000 < f.delay ∨ 255 ≤ (l.fb n).serial.frames → (m.fb n).serial.frames = 0))

/-- A frame that ended is a frame of the negotiation, a clean one in service, or one to discard. -/
theorem Lane.frameTaken_endFrame {i : LaneId} {l : Lane} (h : l.Sound i) (n : Axis) (f : SerialFrameIn) (q : BitVec 32)
    (t : Nat) (warned : Bool) {m : Lane} (hm : l.endFrame n f.delay warned = m) {clean : Bool}
    (hc : (f.inTime && l.frameCrcOk n f && !l.frameErr n f) = clean) :
    Lane.FrameTaken n f l (if (m.fb n).serial.negotiating then m.negotiateFrame n clean (m.frameCounts n f) f.delay
      else if clean then m.cleanFrame n (m.frameCounts n f) q t else m.badFrame n) := by
  have near := Lane.endFrame_near h n f.delay warned
  obtain ⟨delay, bad⟩ := Lane.get_SERCNT_endFrame h n f.delay warned
  have serial := congrArg FeedbackState.serial (Lane.fb_endFrame l n f.delay warned)
  rw [hm] at near delay bad serial
  have sm := near.place h
  have fits := l.frameCounts_lt n f
  have latched : (m.fb n).serial.latched = none := (congrArg SerialState.latched serial :)
  have discarded : (m.fb n).serial.bad = (l.fb n).serial.bad := (congrArg SerialState.bad serial :)
  have frames : (m.fb n).serial.frames = (l.fb n).serial.frames := (congrArg SerialState.frames serial :)
  have run : (m.fb n).serial.clean = (l.fb n).serial.clean := (congrArg SerialState.clean serial :)
  have negotiates : (m.fb n).serial.negotiating = (l.fb n).serial.negotiating := (congrArg SerialState.negotiating serial :)
  unfold Lane.FrameTaken
  rw [Lane.frameCounts_of_near near n f, negotiates, hc]
  cases (l.fb n).serial.negotiating with
  | true =>
    rw [if_pos rfl]
    obtain ⟨latchKept, delayKept, good, spoilt⟩ := Lane.negotiateFrame_effects sm n clean fits f.delay rfl
    rw [run] at good
    rw [frames] at spoilt
    exact ⟨latchKept.trans latched, delayKept.trans delay, nofun, nofun, fun _ => good, fun _ => spoilt⟩
  | false =>
    rw [if_neg Bool.false_ne_true]
    cases clean with
    | true =>
      rw [if_pos rfl]
      obtain ⟨ended, shows, ref, latchKept, delayKept⟩ := Lane.cleanFrame_effects sm n fits q t
      exact ⟨latchKept.trans latched, delayKept.trans delay, nofun, fun _ _ => ⟨ended, shows, ref⟩, nofun, nofun⟩
    | false =>
      rw [if_neg Bool.false_ne_true]
      obtain ⟨flagged, counted, longer, latchKept, delayKept⟩ := Lane.badFrame_effects sm n
      rw [bad] at counted
      rw [discarded] at longer
      exact ⟨latchKept.trans latched, delayKept.trans delay, fun _ _ => ⟨flagged, counted, longer⟩, nofun, nofun, nofun⟩

/-- SERIAL_FRAME (R176). -/
theorem does_serialFrame (e : At) (n : Axis) (f : SerialFrameIn) (s : State) (hs : s.Runs e) :
    Does (.serialFrame e n f) s (setOutParts ++ [.block 8, .axFb, .trust]) fun l m =>
      ((l.fb n).serial.latched = none → m = l) ∧ ((l.fb n).serial.latched ≠ none → Lane.FrameTaken n f l m) := by
  refine does_logic hs rfl execSerialFrame_event rfl (by decide +kernel) fun h => ?_
  generalize s.before (.serialFrame e n f) = l at h
  cases latch : (l.fb n).serial.latched with
  | none => exact ⟨fun _ => rfl, fun no => absurd rfl no⟩
  | some sample => exact ⟨nofun, fun _ => Lane.frameTaken_endFrame h n f sample.1 sample.2 _ rfl rfl⟩

/-- RENEG (R175). -/
theorem does_reneg (e : At) (n : Axis) (s : State) (hs : s.Runs e) :
    Does (.reneg e n) s (setOutParts ++
    [.reg (R.FB_STAT 0), .reg (R.FB_EVT 0), .reg (R.FB_SERCNT 0), .axFb]) fun l m =>
      (l.mode ≠ .hold → l.mode ≠ .workshop → m = l) ∧ (l.get (R.FB_CFG_SER n) = 0 → m = l) ∧
      (l.mode = .hold ∨ l.mode = .workshop → l.get (R.FB_CFG_SER n) ≠ 0 →
        m.get (R.FB_STAT_REF n) = 0 ∧ m.get (R.FB_STAT_SERLOCK n) = 0 ∧ m.get (R.FB_SERCNT_BAD n) = 0 ∧
        m.get (R.FB_STAT_VALID n) = 0 ∧ (m.fb n).serial.negotiating = true ∧
        (m.fb n).serial.rate = l.get (R.FB_SER0_RMAX n)) := by
  refine does_logic hs rfl execReneg_event rfl (by decide +kernel) fun h => ?_
  generalize s.before (.reneg e n) = l at h
  refine ⟨fun hold workshop => if_neg fun g => ?_, fun off => ?_, fun mode on => ?_⟩
  · rcases g with g | g
    · exact hold g
    · exact workshop g
  · split
    · exact if_pos off
    · rfl
  · rw [if_pos mode]
    unfold Lane.negotiate
    rw [if_neg on]
    extract_lets l1 idle l2
    have s1 := h.put (R.FB_STAT_SERLOCK n) 0
    have s2 := s1.put (R.FB_STAT_REF n) 0
    have s3 : l1.Sound e.lane := s2.put (R.FB_SERCNT_BAD n) 0
    have s4 : l2.Sound e.lane := s3.onSer n _
    have dropped : Lane.Near (allBut [149]) ((l.drop (R.FB_STAT_SERLOCK n)).drop (R.FB_STAT_REF n)) l1 :=
      Lane.drop_near (inReg (at_FB_SERCNT n.isLt) (by decide +kernel)) (.refl _ s2)
    have format : Lane.Near (allBut [164]) l l1 := Lane.drop_near (inReg (at_FB_SERCNT n.isLt) (by decide +kernel))
      (Lane.drop_near (inReg (at_FB_STAT n.isLt) (by decide +kernel))
        (Lane.drop_near (inReg (at_FB_STAT n.isLt) (by decide +kernel)) (.refl _ h)))
    have counts : Lane.Counts e.lane n l2 (l2.causes n fun c => { c with noRef := true, serial := true }) :=
      (Lane.Counts.refl s4).causes _
    have stat {f : Fld} (ha : f.addr = R.FB_STAT n) (lo : 7 ≤ f.lo) (hf : f.lo + f.width ≤ 32) :
        (l2.causes n fun c => { c with noRef := true, serial := true }).get f =
          ((l.drop (R.FB_STAT_SERLOCK n)).drop (R.FB_STAT_REF n)).get f :=
      (counts.stat f ha lo hf).trans ((Lane.get_onSer l1 n _ f).trans
        (dropped.keep (ha ▸ (at_FB_STAT n.isLt).1) (by decide +kernel)))
    refine ⟨(stat rfl (show 7 ≤ 7 by decide) (show 7 + 1 ≤ 32 by decide)).trans (Lane.get_drop s1.wf _ (show 7 + 1 ≤ 32 by decide)),
      (stat rfl (show 7 ≤ 9 by decide) (show 9 + 1 ≤ 32 by decide)).trans ?_, ?_,
      Lane.get_VALID_causes_of_present s4 n rfl, ?_, ?_⟩
    · exact (Lane.get_put_of_disjoint s1.wf (f := R.FB_STAT_REF n) (g := R.FB_STAT_SERLOCK n) 0 rfl (show 9 + 1 ≤ 32 by decide)
        (.inl (show 7 + 1 ≤ 9 by decide))).trans (Lane.get_drop h.wf _ (show 9 + 1 ≤ 32 by decide))
    · exact (counts.near.keep (at_FB_SERCNT n.isLt).1 (by decide +kernel)).trans ((Lane.get_onSer l1 n _ _).trans
        (Lane.get_drop s2.wf _ (show 16 + 16 ≤ 32 by decide)))
    · rw [Lane.fb_causes s4]
      show (l2.fb n).serial.negotiating = true
      unfold l2
      rw [Lane.fb_onSer]
    · rw [Lane.fb_causes s4]
      show (l2.fb n).serial.rate = l.get (R.FB_SER0_RMAX n)
      unfold l2
      rw [Lane.fb_onSer]
      exact format.keep (at_FB_SER0 n.isLt).1 (by decide +kernel)

end Sys2Proof.Machine

/-!
PROOFS. HALL_TRANSITION, HALL_INVALID, LINE_FAULT and LINE_GOOD (R179, R180, R189).
-/

namespace Sys2Proof.Machine

-- one declaration at a time: each waits for the kernel, and a waiting one holds a thread and its stack
set_option Elab.async false

/-! ### Hall inputs (R179, R180) -/

theorem FeedbackState.hall_of_uncounted {a b : FeedbackState} (h : a.uncounted = b.uncounted) :
    a.hallAt = b.hallAt ∧ a.hallDevs = b.hallDevs ∧ a.hallGood = b.hallGood :=
  ⟨congrArg (·.hallAt) h, congrArg (·.hallDevs) h, congrArg (·.hallGood) h⟩

/-- A boundary judged counts on or ends the run of deviating ones, and shows a deviating one (R180). -/
theorem Lane.hallJudge_effects {i : LaneId} {l : Lane} (h : l.Sound i) (n : Axis) (dev : Bool) :
    (l.hallJudge n dev).get (R.FB_STAT_HALL n) = l.get (R.FB_STAT_HALL n) ∧
      ((l.hallJudge n dev).fb n).hallAt = (l.fb n).hallAt ∧
      ((l.hallJudge n dev).fb n).hallDevs = (if dev then (l.fb n).hallDevs + 1 else 0) ∧
      ((l.hallJudge n dev).fb n).hallGood = (if dev then 0 else (l.fb n).hallGood + 1) ∧
      (dev = true → (l.hallJudge n dev).flag (R.FB_EVT_HALLDEV n) = true) := by
  unfold Lane.hallJudge
  extract_lets l1 l2 b l3
  have noted : Lane.Counts i n l l1 := (Lane.Counts.refl h).when fun g => g.event rfl rfl
  have port : l1.fb n = l.fb n := by
    unfold l1
    cases dev
    · rfl
    · exact Lane.fb_raise l n _
  have counts : Lane.Counts i n l2 (l3.when (decide (4 ≤ b.hallGood)) fun l => l.causes n fun c => { c with hall := false }) :=
    ((Lane.Counts.refl (noted.sound.onFb n _)).when fun g => g.causes _).when fun g => g.causes _
  obtain ⟨since, devs, good⟩ := FeedbackState.hall_of_uncounted counts.port
  have judged : l2.fb n = { l.fb n with
      hallDevs := if dev then (l.fb n).hallDevs + 1 else 0, hallGood := if dev then 0 else (l.fb n).hallGood + 1 } := by
    unfold l2
    rw [Lane.fb_onFb, port]
  rw [judged] at since devs good
  refine ⟨(counts.stat (R.FB_STAT_HALL n) rfl (show 7 ≤ 16 by decide) (show 16 + 3 ≤ 32 by decide)).trans
    ((Lane.get_onFb l1 n _ _).trans
      (noted.stat (R.FB_STAT_HALL n) rfl (show 7 ≤ 16 by decide) (show 16 + 3 ≤ 32 by decide))), since, devs, good, ?_⟩
  rintro rfl
  exact counts.flag rfl rfl ((Lane.flag_onFb l1 n _ _).trans
    (Lane.flag_raise h.wf (R.FB_EVT_HALLDEV n) (show 12 < 32 by decide) rfl))

/-- A new Hall code is shown, and its moment kept (R179). -/
def Lane.showHall (l : Lane) (n : Axis) (code : BitVec 3) : Lane :=
  (l.put (R.FB_STAT_HALL n) code.toNat).when (l.get (R.FB_STAT_HALL n) != code.toNat)
    fun l => l.onFb n fun b => { b with hallAt := l.now }

theorem Lane.showHall_effects {i : LaneId} {l : Lane} (h : l.Sound i) (n : Axis) (code : BitVec 3) :
    Lane.Near (2 ^ 149 ||| 2 ^ 336) l (l.showHall n code) ∧ (l.showHall n code).get (R.FB_STAT_HALL n) = code.toNat ∧
      (l.get (R.FB_STAT_HALL n) ≠ code.toNat → ((l.showHall n code).fb n).hallAt = l.now) ∧
      ((l.showHall n code).fb n).hallDevs = (l.fb n).hallDevs ∧ ((l.showHall n code).fb n).hallGood = (l.fb n).hallGood ∧
      ((l.showHall n code).fb n).stamps = (l.fb n).stamps ∧ ((l.showHall n code).fb n).measured = (l.fb n).measured := by
  have shown : Lane.Near (2 ^ 149 ||| 2 ^ 336) l (l.put (R.FB_STAT_HALL n) code.toNat) :=
    Lane.put_near (inReg (at_FB_STAT n.isLt) (by decide +kernel)) (.refl _ h)
  have code_ : (l.put (R.FB_STAT_HALL n) code.toNat).get (R.FB_STAT_HALL n) = code.toNat :=
    (Lane.get_put h.wf _ _ (show 16 + 3 ≤ 32 by decide)).trans (Nat.mod_eq_of_lt code.isLt)
  refine ⟨Lane.when_near shown fun _ g => Lane.onFb_near (by decide +kernel) g, ?_⟩
  unfold Lane.showHall
  cases new : l.get (R.FB_STAT_HALL n) != code.toNat with
  | false =>
    rw [Lane.when_of_false _ rfl, Lane.fb_put]
    exact ⟨code_, fun no => absurd (bne_iff_ne.2 no) (by rw [new]; exact Bool.false_ne_true), rfl, rfl, rfl, rfl⟩
  | true =>
    rw [Lane.when_of_true _ rfl, Lane.get_onFb, Lane.fb_onFb, Lane.fb_put]
    exact ⟨code_, fun _ => shown.now, rfl, rfl, rfl, rfl⟩

/-- The angle of the counter is a matter of the stamps, the speed and registers that a Hall code leaves (R77). -/
theorem Lane.thetaEnc_of_near {l m : Lane} (h : Lane.Near (2 ^ 149 ||| 2 ^ 336) l m) {n : Axis}
    (stamps : (m.fb n).stamps = (l.fb n).stamps) (measured : (m.fb n).measured = (l.fb n).measured) :
    m.thetaEnc n = l.thetaEnc n := by
  have inc : m.get (R.FB_CFG_INC n) = l.get (R.FB_CFG_INC n) := h.keep (at_FB_CFG n.isLt).1 (by decide +kernel)
  have speed : m.countSpeedAt n m.now = l.countSpeedAt n l.now := by
    unfold Lane.countSpeedAt
    dsimp only
    rw [show (m.ax n).fb.stamps = (l.ax n).fb.stamps from stamps, show (m.ax n).fb.measured = (l.ax n).fb.measured from measured,
      inc, h.now]
  unfold Lane.thetaEnc Lane.thetaEncAt
  dsimp only
  rw [speed, show (m.ax n).fb.stamps = (l.ax n).fb.stamps from stamps, h.now,
    h.keep (f := R.FB_POS_POS n) (at_FB_POS n.isLt).1 (by decide +kernel),
    h.keep (f := R.DC_MOT0_POLEP n) (at_DC_MOT0 n.isLt).1 (by decide +kernel),
    h.keep (f := R.DC_CPR_CPR n) (at_DC_CPR n.isLt).1 (by decide +kernel),
    Lane.flag_of_get (h.keep (f := R.DC_CTRL_DIRINV n) (at_DC_CTRL n.isLt).1 (by decide +kernel))]

/-- What a Hall code that came after `old` is judged by (R180). -/
def Lane.judgeHall (l : Lane) (n : Axis) (old new : Nat) : Lane :=
  if !l.flag (R.FB_CFG_HALLEN n) then l
  else
    match hallSector old, hallSector new with
    | some a, some b =>
      (match hallBoundary a b with
       | some k =>
         let edge : Rat := 65536 / 6 * (k : Rat) + (l.get (R.FB_HALL_HOFS n) : Rat)
         let here := l.thetaEnc n + (l.get (R.DC_THOFS_OFS n) : Rat)
         l.hallJudge n (decide ((l.get (R.FB_HALL_HTOL n) : Rat) < ratAbs (angleDiff (edge - here))))
       | none => if a = b then l else l.nextChoice.hallJudge n (l.choice % 2 == 0))
    | _, _ => l

/-- Judging a Hall code keeps the code and its moment. -/
theorem Lane.judgeHall_keeps {i : LaneId} {l : Lane} (h : l.Sound i) (n : Axis) (old new : Nat) :
    (l.judgeHall n old new).get (R.FB_STAT_HALL n) = l.get (R.FB_STAT_HALL n) ∧
      ((l.judgeHall n old new).fb n).hallAt = (l.fb n).hallAt := by
  have judged {k : Lane} (g : k.Sound i) (dev : Bool) := And.intro (Lane.hallJudge_effects g n dev).1 (Lane.hallJudge_effects g n dev).2.1
  unfold Lane.judgeHall
  split
  · exact ⟨rfl, rfl⟩
  · split
    · split
      · exact judged h _
      · split
        · exact ⟨rfl, rfl⟩
        · exact judged h.nextChoice _
    · exact ⟨rfl, rfl⟩

/-- Between neighbouring codes the boundary is judged by its distance from the counter angle (R180). -/
theorem Lane.judgeHall_of_boundary {l : Lane} {n : Axis} {old new a b k : Nat} (on : l.flag (R.FB_CFG_HALLEN n) = true)
    (from_ : hallSector old = some a) (onto : hallSector new = some b) (between : hallBoundary a b = some k) :
    l.judgeHall n old new = l.hallJudge n (decide ((l.get (R.FB_HALL_HTOL n) : Rat) <
      ratAbs (angleDiff (65536 / 6 * (k : Rat) + (l.get (R.FB_HALL_HOFS n) : Rat) -
        (l.thetaEnc n + (l.get (R.DC_THOFS_OFS n) : Rat)))))) := by
  unfold Lane.judgeHall
  rw [if_neg (by rw [on]; decide), from_, onto]
  dsimp only
  rw [between]

/-- HALL_TRANSITION (R180). -/
theorem does_hallTransition (e : At) (n : Axis) (code : BitVec 3) (s : State) (hs : s.Runs e) :
    Does (.hallTransition e n code) s (setOutParts ++ [.reg (R.FB_STAT 0), .reg (R.FB_EVT 0), .fresh, .axFb]) fun l m =>
      m.get (R.FB_STAT_HALL n) = code.toNat ∧
      (l.get (R.FB_STAT_HALL n) ≠ code.toNat → (m.fb n).hallAt = l.now) ∧
      (∀ a b k, l.flag (R.FB_CFG_HALLEN n) = true → hallSector (l.get (R.FB_STAT_HALL n)) = some a →
        hallSector code.toNat = some b → hallBoundary a b = some k →
        ((l.get (R.FB_HALL_HTOL n) : Rat) < ratAbs (angleDiff (65536 / 6 * (k : Rat) + (l.get (R.FB_HALL_HOFS n) :
          Rat) -
            (l.thetaEnc n + (l.get (R.DC_THOFS_OFS n) : Rat)))) →
          m.flag (R.FB_EVT_HALLDEV n) = true ∧ (m.fb n).hallDevs = (l.fb n).hallDevs + 1 ∧ (m.fb n).hallGood = 0) ∧
        (ratAbs (angleDiff (65536 / 6 * (k : Rat) + (l.get (R.FB_HALL_HOFS n) : Rat) -
            (l.thetaEnc n + (l.get (R.DC_THOFS_OFS n) : Rat)))) ≤ (l.get (R.FB_HALL_HTOL n) : Rat) →
          (m.fb n).hallDevs = 0 ∧ (m.fb n).hallGood = (l.fb n).hallGood + 1)) := by
  refine does_logic (f := fun l => (l.showHall n code).judgeHall n (l.get (R.FB_STAT_HALL n)) code.toNat) hs rfl
    execHallTransition_event rfl (by decide +kernel) fun h => ?_
  generalize s.before (.hallTransition e n code) = l at h
  obtain ⟨near, shown, since, devs, good, stamps, measured⟩ := Lane.showHall_effects h n code
  have s1 := near.place h
  obtain ⟨keepsCode, keepsMoment⟩ := Lane.judgeHall_keeps s1 n (l.get (R.FB_STAT_HALL n)) code.toNat
  refine ⟨keepsCode.trans shown, fun new => keepsMoment.trans (since new), fun a b k on from_ onto between => ?_⟩
  have enable : (l.showHall n code).flag (R.FB_CFG_HALLEN n) = true :=
    (Lane.flag_of_get (near.keep (at_FB_CFG n.isLt).1 (by decide +kernel))).trans on
  rw [Lane.judgeHall_of_boundary enable from_ onto between, Lane.thetaEnc_of_near near stamps measured,
    near.keep (f := R.FB_HALL_HTOL n) (at_FB_HALL n.isLt).1 (by decide +kernel),
    near.keep (f := R.FB_HALL_HOFS n) (at_FB_HALL n.isLt).1 (by decide +kernel),
    near.keep (f := R.DC_THOFS_OFS n) (at_DC_THOFS n.isLt).1 (by decide +kernel), ← devs, ← good]
  refine ⟨fun far => ?_, fun close => ?_⟩
  · rw [decide_eq_true far]
    obtain ⟨-, -, more, none_, tells⟩ := Lane.hallJudge_effects s1 n true
    exact ⟨tells rfl, more, none_⟩
  · rw [decide_eq_false (not_lt.2 close)]
    obtain ⟨-, -, none_, more, -⟩ := Lane.hallJudge_effects s1 n false
    exact ⟨none_, more⟩

theorem FbCauses.clear_of_hall (c : FbCauses) : { c with hall := true }.clear = false := Bool.and_false _

theorem FbCauses.clear_of_line (c : FbCauses) : { c with line := true }.clear = false := by
  simp [FbCauses.clear]

/-- HALL_INVALID (R180). -/
theorem does_hallInvalid (e : At) (n : Axis) (s : State) (hs : s.Runs e) :
    Does (.hallInvalid e n) s (setOutParts ++ [.reg (R.FB_STAT 0), .reg (R.FB_EVT 0), .axFb]) fun l m =>
      (l.flag (R.FB_CFG_HALLEN n) = false → m = l) ∧ (l.now < (l.fb n).hallAt + ms 1 → m = l) ∧
      (l.flag (R.FB_CFG_HALLEN n) = true → l.get (R.FB_STAT_HALL n) = 0 ∨ l.get (R.FB_STAT_HALL n) = 7 →
        (l.fb n).hallAt + ms 1 ≤ l.now → m.flag (R.FB_EVT_HALLBAD n) = true ∧ m.get (R.FB_STAT_VALID n) = 0) := by
  refine does_logic hs rfl execHallInvalid_event rfl (by decide +kernel) fun h => ?_
  generalize s.before (.hallInvalid e n) = l at h
  refine ⟨fun off => if_neg fun g => ?_, fun early => if_neg fun g => ?_, fun on idle late => ?_⟩
  · exact Bool.false_ne_true (off.symm.trans g.1)
  · exact absurd (of_decide_eq_true g.2.2) (Nat.not_le_of_lt early)
  · have noSector : hallSector (l.get (R.FB_STAT_HALL n)) = none := by
      rcases idle with z | z <;> rw [z] <;> rfl
    rw [if_pos ⟨on, noSector, decide_eq_true late⟩]
    have s1 : ((l.raise (R.FB_EVT_HALLBAD n)).onFb n fun b => { b with hallGood := 0 }).Sound e.lane :=
      (h.raise _).onFb n _
    refine ⟨((Lane.Counts.refl s1).causes _).flag rfl rfl ?_, Lane.get_VALID_causes_of_present s1 n (FbCauses.clear_of_hall _)⟩
    rw [Lane.flag_onFb]
    exact Lane.flag_raise h.wf (R.FB_EVT_HALLBAD n) (show 13 < 32 by decide) rfl

/-! ### Line faults (R189) -/

theorem lineBit_self (j : Fin 4) : (1#4 <<< j.val).getLsbD j.val = true := by
  revert j
  decide

/-- LINE_FAULT (R189). -/
theorem does_lineFault (e : At) (n : Axis) (line : FbLine) (vid : Int) (held : Nat) (s : State) (hs : s.Runs e) :
    Does (.lineFault ⟨e, vid, held⟩ n line) s (setOutParts ++ [.reg (R.FB_STAT 0), .reg (R.FB_EVT 0), .axFb]) fun l m =>
      (100 ≤ vid.natAbs → m = l) ∧ (held < 1000 → m = l) ∧
      (vid.natAbs < 100 → 1000 ≤ held → m.flag (R.FB_EVT_LINE n) = true ∧ m.get (R.FB_STAT_VALID n) = 0 ∧
        (m.fb n).lineBad.getLsbD (lineNo line).val = true) := by
  refine does_logic hs rfl execLineFault_event rfl (by decide +kernel) fun h => ?_
  generalize s.before (.lineFault ⟨e, vid, held⟩ n line) = l at h
  refine ⟨fun strong => Lane.when_of_false _ (decide_eq_false fun g => Nat.not_lt.2 strong g.1),
    fun brief => Lane.when_of_false _ (decide_eq_false fun g => Nat.not_le.2 brief g.2), fun weak lasting => ?_⟩
  rw [Lane.when_of_true _ (decide_eq_true ⟨weak, lasting⟩)]
  have s1 := h.raise (R.FB_EVT_LINE n)
  refine ⟨((Lane.Counts.refl (s1.onFb n _)).causes _).flag rfl rfl ?_, Lane.get_VALID_causes_of_present (s1.onFb n _) n
    (FbCauses.clear_of_line _), ?_⟩
  · rw [Lane.flag_onFb]
    exact Lane.flag_raise h.wf (R.FB_EVT_LINE n) (show 17 < 32 by decide) rfl
  · rw [Lane.fb_causes (s1.onFb n _), Lane.fb_onFb]
    dsimp only
    rw [BitVec.getLsbD_or, lineBit_self, Bool.or_true]

/-- LINE_GOOD (R189). -/
theorem does_lineGood (e : At) (n : Axis) (line : FbLine) (held : Nat) (s : State) (hs : s.Runs e) :
    Does (.lineGood ⟨e, line, held⟩ n) s [.axFb] fun l m =>
      m.regs = l.regs ∧ (held < 1000 → m = l) ∧ (l.now < (l.fb n).lineAt[(lineNo line)] + ms 1 → m = l) ∧
      (1000 ≤ held → (l.fb n).lineAt[(lineNo line)] + ms 1 ≤ l.now →
        (m.fb n).lineBad.getLsbD (lineNo line).val = false) := by
  refine does_logic hs rfl execLineGood_event rfl (by decide +kernel) fun h => ?_
  generalize s.before (.lineGood ⟨e, line, held⟩ n) = l at h
  refine ⟨?_, fun brief => if_neg fun g => Nat.not_le.2 brief g.1,
    fun early => if_neg fun g => Nat.not_le.2 early (of_decide_eq_true g.2), fun lasting late => ?_⟩
  · split
    · rfl
    · rfl
  · rw [if_pos ⟨lasting, decide_eq_true late⟩, Lane.fb_onFb]
    dsimp only
    rw [BitVec.getLsbD_and, BitVec.getLsbD_not, lineBit_self, Bool.not_true, Bool.and_false, Bool.and_false]

/-- Settles O29, command by command. -/
theorem serialAndHall : Obligations.SerialAndHall := by
  unfold Obligations.SerialAndHall
  exact ⟨does_serialFrameSend, does_serialFrame, does_reneg, does_hallTransition, does_hallInvalid, does_lineFault, does_lineGood⟩

end Sys2Proof.Machine

/-!
PROOFS. SPREAD_PERSIST, which takes a lane OUT, changes WG_CMDEXP.
-/

namespace Sys2Proof.Machine

/-! ### A lasting pace spread in a lane with a waiting command -/

/-- Lane A with one command waiting for agreement; the spread has been above 2.00 %, and the target of VCORE_x at its maximum,
since the count 0. -/
def spreadLane : Lane :=
  (waitingLane.onPower fun p => { p with maxSince := some 0 }).onTrio fun t => { t with spreadSince := some 0 }

/-- The block as reset leaves it, but for `spreadLane`. -/
def spreadState : State := { waitingState with laneA := spreadLane }

theorem spreadState_runs {e : At} (he : e.lane = .A) : spreadState.Runs e :=
  ⟨⟨⟨rfl, rfl, rfl⟩, Lane.sound_reset .B, Lane.sound_reset .C⟩, by rw [he]; rfl⟩

/-- Refutes O31: a spread that has lasted 100 µs at the maximum target takes the lane OUT (R229), which counts the command
waiting in it in WG_CMDEXP (R266); that register is none of the parts the clause of SPREAD_PERSIST lists. -/
theorem not_trioVoting : ¬ Obligations.TrioVoting := by
  unfold Obligations.TrioVoting
  rintro ⟨-, -, -, -, -, -, persist, -⟩
  let c : Instr := .spreadPersist ⟨.A, us 100⟩
  let l : Lane := spreadState.before c
  have runs : spreadState.Runs c.at := spreadState_runs rfl
  have lasted : l.lasted l.trio.spreadSince (us 100) = true ∧ l.lasted l.power.maxSince (us 100) = true := by decide +kernel
  refine not_does_of_laneOut (c := c) (l := l) runs rfl ?_ ?_ rfl ?_ ?_ ?_ (persist ⟨.A, us 100⟩ spreadState runs)
  case refine_1 => exact if_pos lasted
  case refine_2 => exact (runs.1.lane _).advanceTo _
  case refine_3 => decide +kernel
  case refine_4 => exact List.cons_ne_nil _ _
  case refine_5 => decide +kernel

end Sys2Proof.Machine

/-!
PROOFS. The rules of the agreement classes (R261, R206), and how proposed module states are agreed (R271).
-/

namespace Sys2Proof.Machine

/-! ### Three values in any order -/

/-- The orders of two elements. -/
theorem eq_or_eq_of_perm_pair {α : Type} {v : List α} {a b : α} (h : v.Perm [a, b]) : v = [a, b] ∨ v = [b, a] := by
  match v, h.length_eq with
  | [x, y], _ =>
    rcases (show x = a ∨ x = b by simpa using h.subset (a := x) (by simp)) with rfl | rfl
    · exact .inl (by rw [List.perm_singleton.1 h.cons_inv])
    · exact .inr (by rw [List.perm_singleton.1 (h.trans (.swap ..)).cons_inv])

/-- What holds of the six orders of three elements holds of every permutation of them. -/
theorem of_perm_triple {α : Type} {P : List α → Prop} {a b c : α}
    (first : P [a, b, c] ∧ P [a, c, b]) (second : P [b, a, c] ∧ P [b, c, a]) (third : P [c, a, b] ∧ P [c, b, a])
    {v : List α} (h : v.Perm [a, b, c]) : P v := by
  match v, h.length_eq with
  | x :: r, _ =>
    rcases (show x = a ∨ x = b ∨ x = c by simpa using h.subset (a := x) (by simp)) with rfl | rfl | rfl
    · rcases eq_or_eq_of_perm_pair h.cons_inv with rfl | rfl
      · exact first.1
      · exact first.2
    · rcases eq_or_eq_of_perm_pair (h.trans (.swap ..)).cons_inv with rfl | rfl
      · exact second.1
      · exact second.2
    · rcases eq_or_eq_of_perm_pair (h.trans (List.perm_append_comm (l₁ := [a, b]) (l₂ := [x]))).cons_inv with rfl | rfl
      · exact third.1
      · exact third.2

/-- Classes that take the median of three give the middle value (R261). -/
theorem agree_of_sorted_triple {α : Type} (agree : List Int → α) (give : Int → α)
    (median : ∀ x y z, agree [x, y, z] = give (median3 x y z)) {a b c : Int} (hab : a ≤ b) (hbc : b ≤ c) {v : List Int}
    (h : v.Perm [a, b, c]) : agree v = give b := by
  have middle (x y z : Int) (hm : median3 x y z = b) : agree [x, y, z] = give b := by rw [median, hm]
  refine of_perm_triple (P := fun v => agree v = give b) ⟨middle _ _ _ ?_, middle _ _ _ ?_⟩ ⟨middle _ _ _ ?_, middle _ _ _ ?_⟩
    ⟨middle _ _ _ ?_, middle _ _ _ ?_⟩ h
  all_goals
    unfold median3
    split_ifs <;> omega

/-- The integrators' rule for three values is the median (R206). -/
theorem agreeIntegrator_triple (x y z : Int) : agreeIntegrator [x, y, z] = some (median3 x y z) := by
  simp only [agreeIntegrator, median3]
  congr 1
  split_ifs <;> omega

/-! ### Two values -/

/-- TORQUE of two values of one sign is the smaller magnitude, and 0 of two signs (R261). -/
theorem agreeTorque_pair (a b : Int) :
    (0 < a → 0 < b → agreeTorque [a, b] = min a b) ∧ (a < 0 → b < 0 → agreeTorque [a, b] = max a b) ∧
      (a * b ≤ 0 → agreeTorque [a, b] = 0) := by
  simp only [agreeTorque]
  refine ⟨fun ha hb => ?_, fun ha hb => ?_, fun h => if_neg ?_⟩
  · rw [if_pos (.inl ⟨ha, hb⟩)]
    split <;> omega
  · rw [if_pos (.inr ⟨ha, hb⟩)]
    split <;> omega
  · rintro (⟨ha, hb⟩ | ⟨ha, hb⟩)
    · exact absurd (Int.mul_pos ha hb) (Int.not_lt.2 h)
    · exact absurd (Int.mul_pos_of_neg_of_neg ha hb) (Int.not_lt.2 h)

/-- SPEED of two values is the larger magnitude, at equal magnitude the positive value (R261). -/
theorem agreeSpeed_pair (a b : Int) :
    (a.natAbs < b.natAbs → agreeSpeed [a, b] = b ∧ agreeSpeed [b, a] = b) ∧ agreeSpeed [a, a] = a ∧
      (0 < a → agreeSpeed [a, -a] = a ∧ agreeSpeed [-a, a] = a) := by
  simp only [agreeSpeed]
  refine ⟨fun far => ⟨?_, if_pos far⟩, by simp, fun pos => ?_⟩
  · rw [if_neg (by omega), if_pos far]
  · simp only [Int.natAbs_neg, lt_self_iff_false, if_false]
    omega

/-- POSE of two values is the one farther from zero, at equal distance the larger (R261). -/
theorem agreePose_pair (z a b : Int) :
    ((a - z).natAbs < (b - z).natAbs → agreePose z [a, b] = b ∧ agreePose z [b, a] = b) ∧
      ((a - z).natAbs = (b - z).natAbs → a ≤ b → agreePose z [a, b] = b ∧ agreePose z [b, a] = b) := by
  simp only [agreePose]
  refine ⟨fun far => ⟨?_, if_pos far⟩, fun same le => ?_⟩
  · rw [if_neg (by omega), if_pos far]
  · simp only [same, lt_self_iff_false, if_false]
    omega

/-- An integrator of two values is the one nearer zero, and 0 of two opposite ones (R206). -/
theorem agreeIntegrator_pair (a b : Int) :
    (a.natAbs < b.natAbs → agreeIntegrator [a, b] = some a ∧ agreeIntegrator [b, a] = some a) ∧
      agreeIntegrator [a, a] = some a ∧ agreeIntegrator [a, -a] = some 0 := by
  simp only [agreeIntegrator]
  refine ⟨fun near => ?_, by simp, ?_⟩
  · rw [if_pos near, if_neg (by omega), if_pos near]
    exact ⟨rfl, rfl⟩
  · simp only [Int.natAbs_neg, lt_self_iff_false, if_false, Option.some.injEq, ite_eq_right_iff]
    omega

/-! ### Truth values and counts -/

/-- INHIBIT and PERMIT: two of three, either and both of two, and the one value alone (R261). -/
theorem agreeBool_rules (a b c : Bool) :
    agreeInhibit [a, b, c] = decide (2 ≤ a.toNat + b.toNat + c.toNat) ∧ agreeInhibit [a, b] = (a || b) ∧
      agreePermit [a, b, c] = decide (2 ≤ a.toNat + b.toNat + c.toNat) ∧ agreePermit [a, b] = (a && b) ∧
      agreeInhibit [a] = a ∧ agreePermit [a] = a := by
  revert a b c
  decide

/-- COUNT: two of three, or the smallest; the smaller of two; the one value alone (R261). -/
theorem agreeCount_rules (a b c : Nat) :
    agreeCount [a, a, b] = a ∧ agreeCount [a, b, a] = a ∧ agreeCount [b, a, a] = a ∧
      (a ≠ b → a ≠ c → b ≠ c → agreeCount [a, b, c] = min a (min b c)) ∧ agreeCount [a, b] = min a b ∧
      agreeCount [a] = a := by
  refine ⟨if_pos (.inl rfl), if_pos (.inr rfl), ?_, fun hab hac hbc => ?_, rfl, rfl⟩
  · by_cases h : b = a
    · exact (if_pos (.inl h)).trans h
    · exact (if_neg (by tauto)).trans (if_pos rfl)
  · exact (if_neg (by tauto)).trans (if_neg hbc)

/-- Settles O8, class by class. -/
theorem agreementClasses : Obligations.AgreementClasses := by
  unfold Obligations.AgreementClasses
  refine ⟨fun a b c z hab hbc v hv => ?_, fun a b => ?_, agreeSpeed_pair, agreePose_pair, agreeIntegrator_pair, agreeBool_rules,
    agreeCount_rules, fun a z => ⟨rfl, rfl, rfl, rfl, rfl, rfl⟩⟩
  · exact ⟨agree_of_sorted_triple agreeTorque id (fun _ _ _ => rfl) hab hbc hv,
      agree_of_sorted_triple agreeLimit id (fun _ _ _ => rfl) hab hbc hv,
      agree_of_sorted_triple agreeHigh id (fun _ _ _ => rfl) hab hbc hv,
      agree_of_sorted_triple agreeSpeed id (fun _ _ _ => rfl) hab hbc hv,
      agree_of_sorted_triple (agreePose z) id (fun _ _ _ => rfl) hab hbc hv,
      agree_of_sorted_triple agreeIntegrator some agreeIntegrator_triple hab hbc hv⟩
  · obtain ⟨positive, negative, mixed⟩ := agreeTorque_pair a b
    exact ⟨positive, negative, mixed, rfl, rfl⟩

/-! ### Proposed module states -/

/-- A code of R39 stands for the state it is of. -/
theorem Mode.ofCode_code : Function.LeftInverse Mode.ofCode Mode.code := by
  intro m
  cases m <;> rfl

/-- The codes of R39 tell the module states apart. -/
theorem Mode.code_injective : Function.Injective Mode.code := Mode.ofCode_code.injective

/-- The order of R271 by codes is the order of the states. -/
theorem Mode.idxOf_code (m : Mode) : modeOrder.idxOf m.code = stateOrder.idxOf m := by
  cases m <;> rfl

/-- The more restrictive of two states is the one that stands first in the order of R271. -/
theorem stricter_code (a b : Mode) :
    stricter a.code b.code = (if stateOrder.idxOf a ≤ stateOrder.idxOf b then a else b).code := by
  unfold stricter
  rw [Mode.idxOf_code, Mode.idxOf_code, apply_ite Mode.code]

/-- Of three states that differ the first in the order of R271 is agreed. -/
theorem agreeState_of_ne {a b c : Mode} (hab : a ≠ b) (hac : a ≠ c) (hbc : b ≠ c) :
    ∃ x ∈ [a, b, c], agreeState [a.code, b.code, c.code] = some x.code ∧
      ∀ y ∈ [a, b, c], stateOrder.idxOf x ≤ stateOrder.idxOf y := by
  have differ : agreeState [a.code, b.code, c.code] = some (stricter a.code (stricter b.code c.code)) := by
    simp only [agreeState]
    rw [if_neg (by simp [Mode.code_injective.eq_iff, hab, hac]), if_neg (by simp [Mode.code_injective.eq_iff, hbc])]
  rw [stricter_code b c, stricter_code] at differ
  refine ⟨_, ?_, differ, ?_⟩ <;> split_ifs <;> simp <;> omega

/-- Of two states that differ GHOST LIGHT or CURTAIN from either lane is agreed, and no other (R271). -/
theorem agreeState_pair_of_ne {a b : Mode} (hab : a ≠ b) : agreeState [a.code, b.code] =
    (if a = .ghost ∨ b = .ghost then some Mode.ghost.code else if a = .curtain ∨ b = .curtain then some
      Mode.curtain.code else none) := by
  have ghost (m : Mode) : m.code = 8 ↔ m = .ghost := Mode.code_injective.eq_iff (b := .ghost)
  have curtain (m : Mode) : m.code = 9 ↔ m = .curtain := Mode.code_injective.eq_iff (b := .curtain)
  simp only [agreeState]
  rw [if_neg (fun h => hab (Mode.code_injective h))]
  simp only [ghost, curtain]
  rfl

/-- A state that two of three lanes propose is agreed (R271). -/
theorem agreeState_two_of_three (a b : Nat) :
    agreeState [a, a, b] = some a ∧ agreeState [a, b, a] = some a ∧ agreeState [b, a, a] = some a := by
  refine ⟨if_pos (.inl rfl), if_pos (.inr rfl), ?_⟩
  by_cases h : b = a
  · exact (if_pos (.inl h)).trans (congrArg some h)
  · exact (if_neg (by tauto)).trans (if_pos rfl)

/-- Settles O9: the codes carry the order of R271 over to the states. -/
theorem modeAgreement : Obligations.ModeAgreement := by
  unfold Obligations.ModeAgreement
  exact ⟨agreeState_two_of_three, fun a b c hab hac hbc _ => agreeState_of_ne hab hac hbc,
    fun a b hab _ _ => agreeState_pair_of_ne hab, fun a => ⟨if_pos rfl, rfl⟩⟩

end Sys2Proof.Machine

/-!
PROOFS. Receiving a frame of a wing link in its order (R255), the segments of a forwarded packet (R264), and the expiry of a
held command (R266).
-/

namespace Sys2Proof.Machine

-- one declaration at a time: each waits for the kernel, and a waiting one holds a thread and its stack
set_option Elab.async false

/-! ### Link ends -/

@[simp] theorem Lane.links_onLinkEnd_self (l : Lane) (p : Peer) (f : LinkEnd → LinkEnd) :
    (l.onLinkEnd p f).wing.links[p] = f l.wing.links[p] := Vector.getElem_set_self p.isLt

/-- Going UP and counting a good frame leave the sequence and the segments of the link (R256). -/
theorem Lane.link_aliveLink (l : Lane) (p : Peer) : ((l.aliveLink p).wing.links[p]).rxSeq = l.wing.links[p].rxSeq ∧
    ((l.aliveLink p).wing.links[p]).segs = l.wing.links[p].segs := by
  have setLink (l : Lane) (m : LinkMode) : (l.setLink p m).wing = l.wing := rfl
  unfold Lane.aliveLink
  extract_lets l1 g l2
  split_ifs <;> simp only [setLink, l2, l1, Lane.links_onLinkEnd_self, and_self]

/-- A valid frame leaves the sequence and the segments of the link (R255). -/
theorem Lane.link_validFrame (l : Lane) (p : Peer) (ack : BitVec 8) :
    ((l.validFrame p ack).wing.links[p]).rxSeq = l.wing.links[p].rxSeq ∧
      ((l.validFrame p ack).wing.links[p]).segs = l.wing.links[p].segs := by
  unfold Lane.validFrame
  extract_lets newer
  obtain ⟨seq, segs⟩ := Lane.link_aliveLink (l.onLinkEnd p fun e => { e with unacked := e.unacked.filter newer }) p
  rw [seq, segs, Lane.links_onLinkEnd_self]
  exact ⟨rfl, rfl⟩

/-- Whether a frame is the next in order does not hang on its acknowledgement. -/
theorem Lane.inOrder_validFrame (l : Lane) (p : Peer) (ack seq : BitVec 8) :
    (l.validFrame p ack).inOrder p seq = l.inOrder p seq := by
  unfold Lane.inOrder
  rw [(l.link_validFrame p ack).1]

/-! ### Receiving a frame, case by case -/

/-- On an ignored link nothing is received. -/
theorem Lane.receive_of_ignored {l : Lane} {p : Peer} (h : FrameHdr) (f : Lane → Lane) (ignored : l.linkIgnored p = true) :
    l.receive p h f = l := if_pos ignored

/-- A frame out of order acknowledges, and comes again (R255). -/
theorem Lane.receive_of_outOfOrder {l : Lane} {p : Peer} {h : FrameHdr} (f : Lane → Lane) (heard : l.linkIgnored p = false)
    (out : l.inOrder p h.seq = false) : l.receive p h f = l.validFrame p h.ack :=
  (if_neg (by rw [heard]; decide)).trans (if_neg (by rw [Lane.inOrder_validFrame, out]; decide))

/-- The next frame in order acts. -/
theorem Lane.receive_of_inOrder {l : Lane} {p : Peer} {h : FrameHdr} (f : Lane → Lane) (heard : l.linkIgnored p = false)
    (next : l.inOrder p h.seq = true) :
    l.receive p h f = f ((l.validFrame p h.ack).onLinkEnd p fun q => { q with rxSeq := h.seq.toNat }) :=
  (if_neg (by rw [heard]; decide)).trans (if_pos ((Lane.inOrder_validFrame ..).trans next))

/-! ### Forwarded packets (R264) -/

theorem Lane.onLinkEnd_onLinkEnd (l : Lane) (p : Peer) (f g : LinkEnd → LinkEnd) :
    (l.onLinkEnd p f).onLinkEnd p g = l.onLinkEnd p fun q => g (f q) := by
  have twice : ((l.wing.links.set p (f l.wing.links[p])).set p (g (l.onLinkEnd p f).wing.links[p])) =
      l.wing.links.set p (g (f l.wing.links[p])) := by
    rw [Lane.links_onLinkEnd_self, Vector.set_set]
  exact congrArg (fun k => l.onWing fun w => { w with links := k }) twice

/-- Bytes that make no whole packet yet are kept. -/
theorem Lane.addSegment_of_partial {l : Lane} {p : Peer} {seg : List Byte} (facts : PacketFacts)
    (short : (l.wing.links[p].segs ++ seg).length < 16 ∨
      (l.wing.links[p].segs ++ seg).length < packetLength (l.wing.links[p].segs ++ seg)) :
    l.addSegment p seg facts = l.onLinkEnd p fun q => { q with segs := l.wing.links[p].segs ++ seg } := by
  unfold Lane.addSegment
  exact if_neg fun whole => by omega

/-- A whole packet is checked, and the next one begins without bytes. -/
theorem Lane.addSegment_of_whole {l : Lane} {p : Peer} {seg : List Byte} (facts : PacketFacts)
    (header : 16 ≤ (l.wing.links[p].segs ++ seg).length)
    (whole : packetLength (l.wing.links[p].segs ++ seg) ≤ (l.wing.links[p].segs ++ seg).length) :
    l.addSegment p seg facts = (l.onLinkEnd p fun q => { q with segs := [] }).checkPacket
      (readPacket ⟨l.wing.links[p].segs ++ seg, facts⟩) .wing := by
  unfold Lane.addSegment
  exact if_pos ⟨header, whole⟩

/-- COMMAND_SEGMENT (R264). -/
theorem does_commandSegment (e : At) (p : Peer) (h : FrameHdr) (seg : List Byte) (facts : PacketFacts) (s : State)
    (hs : s.Runs e) : Does (.commandSegment e p h seg facts) s beatParts fun l m =>
      (l.linkIgnored p = true → m = l) ∧
      (l.linkIgnored p = false → l.inOrder p h.seq = false → m = l.validFrame p h.ack) ∧
      (l.linkIgnored p = false → l.inOrder p h.seq = true →
        ((l.wing.links[p].segs ++ seg).length < 16 ∨ (l.wing.links[p].segs ++
          seg).length < packetLength (l.wing.links[p].segs ++ seg) →
          m.wing.links[p].segs = l.wing.links[p].segs ++ seg ∧ m.wing.links[p].rxSeq = h.seq.toNat) ∧
        (16 ≤ (l.wing.links[p].segs ++ seg).length → packetLength (l.wing.links[p].segs ++
          seg) ≤ (l.wing.links[p].segs ++ seg).length →
          m = ((l.validFrame p h.ack).onLinkEnd p fun q => { q with rxSeq := h.seq.toNat, segs := [] }).checkPacket
            (readPacket ⟨l.wing.links[p].segs ++ seg, facts⟩) .wing)) := by
  refine does_logic hs rfl execCommandSegment_event rfl (by decide +kernel) fun _ => ?_
  generalize s.before (.commandSegment e p h seg facts) = l
  refine ⟨fun ignored => Lane.receive_of_ignored h _ ignored, fun heard out => Lane.receive_of_outOfOrder _ heard out,
    fun heard next => ?_⟩
  rw [Lane.receive_of_inOrder _ heard next]
  let taken : Lane := (l.validFrame p h.ack).onLinkEnd p fun q => { q with rxSeq := h.seq.toNat }
  have bytes : taken.wing.links[p].segs = l.wing.links[p].segs :=
    (congrArg LinkEnd.segs (Lane.links_onLinkEnd_self ..)).trans (l.link_validFrame p h.ack).2
  change (_ → (taken.addSegment p seg facts).wing.links[p].segs = _ ∧ (taken.addSegment p seg facts).wing.links[p].rxSeq = _) ∧
    (_ → _ → taken.addSegment p seg facts = _)
  rw [← bytes]
  refine ⟨fun short => ?_, fun header whole => ?_⟩
  · rw [Lane.addSegment_of_partial facts short, Lane.links_onLinkEnd_self]
    exact ⟨rfl, congrArg LinkEnd.rxSeq (Lane.links_onLinkEnd_self ..)⟩
  · rw [Lane.addSegment_of_whole facts header whole]
    exact congrArg (fun k => Lane.checkPacket k _ .wing) (Lane.onLinkEnd_onLinkEnd ..)

/-! ### The expiry of a held command (R266) -/

/-- An expired command waits no more, and is shown and counted; its answer changes none of this. -/
theorem Lane.expire_effects {i : LaneId} {l : Lane} (h : l.Sound i) (q : Pending) :
    (l.expire q).flag R.WG_EVT_CMDEXP = true ∧
      (l.expire q).wing.pending = l.wing.pending.filter (fun p => p.pkt.hdr.fp != q.pkt.hdr.fp) ∧
      (l.expire q).get R.WG_CMDEXP_EXP = min (l.get R.WG_CMDEXP_EXP + 1) 65535 := by
  unfold Lane.expire
  extract_lets l1 l2
  have s1 : l1.showPending.Sound i := (h.onWing _).put _ _
  have s2 := s1.raise R.WG_EVT_CMDEXP
  have shown : Lane.Near (allBut [69]) l1 (l1.showPending.raise R.WG_EVT_CMDEXP) :=
    Lane.raise_near (inEvt ev_WG_EVT (by decide +kernel)) rfl (Lane.showPending_near (by decide +kernel) (.refl _ (h.onWing _)))
  have counted : Lane.Near (allBut [322]) (l1.showPending.raise R.WG_EVT_CMDEXP) l2 :=
    Lane.bump_near (inReg at_WG_CMDEXP (by decide +kernel)) (.refl _ s2)
  have answered : Lane.Near (allBut [69, 322, 401]) l2
      (l2.reply q.pkt.hdr q.path (.notAgreed 1) [] (decide (0 < q.pkt.hdr.cls))) :=
    Lane.reply_near (by decide +kernel) (.refl _ (counted.place s2))
  refine ⟨?_, answered.wing.pending (by decide +kernel), ?_⟩
  · exact answered.flag (by decide +kernel) is_WG_EVT rfl
      (counted.flag (by decide +kernel) is_WG_EVT rfl (Lane.flag_raise s1.wf _ (by decide) rfl))
  · rw [answered.keep at_WG_CMDEXP.1 (by decide +kernel), Lane.get_bump s2.wf R.WG_CMDEXP_EXP (by decide),
      shown.keep at_WG_CMDEXP.1 (by decide +kernel)]
    rfl

/-- COMMAND_EXPIRY (R266). -/
theorem does_commandExpiry (e : At) (fp : BitVec 64) (s : State) (hs : s.Runs e) :
    Does (.commandExpiry e fp) s [.reg R.WG_EVT, .reg R.WG_CMD, .reg R.WG_CMDEXP, .reg (R.CN_BCTL 0 0),
    .reg (R.CN_BDAT 0 0 0), .reg R.HS_EVT, .reg R.HS_PORT, .reg R.HS_CNT1, .reg R.HS_CNT2, .reg R.HS_CNT3,
    .reg (R.HS_SLAST 0), .wing, .seats] fun l m =>
      ((∀ q ∈ l.wing.pending, q.pkt.hdr.fp = fp → l.now < q.heldAt + us 100) → m = l) ∧
      ((∃ q ∈ l.wing.pending, q.pkt.hdr.fp = fp ∧ q.heldAt + us 100 ≤ l.now) →
        m.flag R.WG_EVT_CMDEXP = true ∧ (∀ q ∈ m.wing.pending, q.pkt.hdr.fp ≠ fp) ∧
        m.get R.WG_CMDEXP_EXP = min (l.get R.WG_CMDEXP_EXP + 1) 65535) := by
  refine does_logic hs rfl execCommandExpiry_event rfl (by decide +kernel) fun h => ?_
  generalize s.before (.commandExpiry e fp) = l at h
  have due (q : Pending) : (q.pkt.hdr.fp == fp && l.since q.heldAt (us 100)) = true ↔
      q.pkt.hdr.fp = fp ∧ q.heldAt + us 100 ≤ l.now := by simp [Lane.since]
  cases found : l.wing.pending.find? fun p => p.pkt.hdr.fp == fp && l.since p.heldAt (us 100) with
  | none =>
    refine ⟨fun _ => rfl, ?_⟩
    rintro ⟨q, held, expired⟩
    exact absurd ((due q).2 expired) (List.find?_eq_none.1 found q held)
  | some q =>
    have expired := List.find?_some found
    obtain ⟨rfl, old⟩ := (due q).1 expired
    obtain ⟨shown, rest, counted⟩ := Lane.expire_effects h q
    refine ⟨fun young => absurd old (Nat.not_le_of_lt (young q (List.mem_of_find?_eq_some found) rfl)), fun _ => ⟨shown, ?_, counted⟩⟩
    dsimp only
    rw [rest]
    exact fun p hp => bne_iff_ne.1 (List.mem_filter.1 hp).2

/-- Settles O35, command by command. -/
theorem heldCommands : Obligations.HeldCommands := by
  unfold Obligations.HeldCommands
  exact ⟨does_commandSegment, does_commandExpiry⟩

end Sys2Proof.Machine

/-!
PROOFS. Commands of the wing links that take a lane OUT (WING_HELLO, HANDOVER, RESYNC_LANE_TIMEOUT) change WG_CMDEXP.
-/

namespace Sys2Proof.Machine

-- one declaration at a time: each waits for the kernel, and a waiting one holds a thread and its stack
set_option Elab.async false

/-! ### A lane with a waiting command goes OUT

`laneOutParts` does not name WG_CMDEXP, where a lane that goes OUT counts the commands that wait in it (R266). The lists of
WING_HELLO, HANDOVER and RESYNC_LANE_TIMEOUT add other parts to it, and that register to none. -/

/-- The block as reset leaves it, but for lane A. -/
def withLaneA (l : Lane) : State := { State.reset with laneA := l }

theorem withLaneA_runs {l : Lane} (h : l.Sound .A) (up : l.logicUp = true) (t : Nat) : (withLaneA l).Runs ⟨.A, t⟩ :=
  ⟨⟨h, Lane.sound_reset .B, Lane.sound_reset .C⟩, up⟩

theorem waitingLane_sound : waitingLane.Sound .A := Lane.sound_reset .A

/-- A command of lane A that leaves WG_CMDEXP, at 0, and the waiting commands as they are and then takes the lane OUT changes
WG_CMDEXP, and so does not stay within parts that leave that register out. -/
theorem not_does_of_waiting_laneA {a : Lane} {t : Nat} {c : Instr} {ps : List Part} {f : Lane → Lane}
    {P : Lane → Lane → Prop} {l : Lane} (ha : a.Sound .A) (up : a.logicUp = true) (hc : c.at = ⟨.A, t⟩)
    (hx : exec c (withLaneA a) = .next ((withLaneA a).logicEvent c.at f)) (hf : f (a.advanceTo t) = l.laneOut)
    (hl : Lane.Near (allBut [69, 401]) (a.advanceTo t) l) (zero : a.get R.WG_CMDEXP_EXP = 0) (waits : a.wing.pending ≠ [])
    (m : (maskOf ps).testBit 69 = false) : ¬ Does c (withLaneA a) ps P := by
  have lane : (withLaneA a).before c = a.advanceTo t := by
    unfold State.before
    rw [hc]
    rfl
  have same : l.get R.WG_CMDEXP_EXP = a.get R.WG_CMDEXP_EXP := hl.keep at_WG_CMDEXP.1 (by decide +kernel)
  have still : l.wing.pending = a.wing.pending := hl.wing.pending (by decide +kernel)
  refine not_does_of_laneOut (l := l) (hc ▸ withLaneA_runs ha up t) hx (by rw [lane, hf]) ?_ (by rw [lane, same]; rfl) ?_ ?_ m
  · rw [hc]
    exact hl.place (ha.advanceTo t)
  · rw [same, zero]
    decide
  · rwa [still]

/-- What changes of the wing links but the waiting commands stays within the mask that leaves those out. -/
theorem WingState.near_of_pending {x y : WingState} (h : y.pending = x.pending) : WingState.Near (allBut [69, 401]) x y := by
  constructor
  case pending => exact fun _ => h
  all_goals exact not_bit (by decide +kernel)

/-! ### WING_HELLO -/

/-- Lane A with one command waiting, whose own reference figure is known, and 0. -/
def figuredLane : Lane := waitingLane.onReh fun r => { r with figured := true }

/-- The header of a frame of sequence 1, with no other field set. -/
def firstFrame : FrameHdr := ⟨0, 0, 0, 1, 0, 0, 0, 0⟩

/-- Refutes O32: the reference figure 0 is outside its window, so the HELLO of lane C takes lane A OUT (R360, R362), which
counts the command waiting in it in WG_CMDEXP (R266); that register is none of the parts the clause of WING_HELLO lists. -/
theorem not_wingLinks : ¬ Obligations.WingLinks := by
  unfold Obligations.WingLinks
  rintro ⟨-, -, -, -, -, hello⟩
  have sound : figuredLane.Sound .A := waitingLane_sound.onReh _
  let c : Instr := .wingHello ⟨.A, 0⟩ 1 firstFrame 0 0 0 false
  let trained : Lane := (figuredLane.advanceTo 0).trainLink 1 firstFrame
  let shown : Lane := trained.onWing fun w => { w with figures := w.figures.set 1 (some (0 : BitVec 16).toNat) }
  let heard : Lane := shown.helloTime (peerLane shown.id 1) 0 0 false
  let marked : Lane := (heard.showMedian.raise R.BI_EVT_REFFAIL).marking fun l => l.raise R.BI_UNUS_REF
  have known : (!heard.reh.figured) = false := by decide +kernel
  have outside : !heard.showMedian.wing.firstHold ∧
      (!figureOk (heard.showMedian.get R.BI_REFFIG_OWN) ∨ heard.showMedian.figureFar) ∧
      !heard.showMedian.flag R.BI_EVT_REFFAIL := by decide +kernel
  have goesOut : heard.checkFigures = marked.laneOut :=
    (if_neg (by rw [known]; decide)).trans (if_pos outside)
  have start : Lane.Near (allBut [69, 401]) (figuredLane.advanceTo 0) trained :=
    Lane.trainLink_near (by decide +kernel) (.refl _ (sound.advanceTo 0))
  have told : Lane.Near (allBut [69, 401]) (figuredLane.advanceTo 0) heard :=
    Lane.helloTime_near (by decide +kernel) (Lane.onWing_near (WingState.near_of_pending rfl) start)
  have near : Lane.Near (allBut [69, 401]) (figuredLane.advanceTo 0) marked :=
    Lane.marking_near (by decide +kernel)
      (Lane.raise_near (inEvt ev_BI_EVT (by decide +kernel)) rfl (Lane.showMedian_near (by decide +kernel) told))
      fun _ g => Lane.raise_near (inReg at_BI_UNUS (by decide +kernel)).1 rfl g
  exact not_does_of_waiting_laneA (c := c) sound rfl rfl rfl goesOut near (by decide +kernel) (List.cons_ne_nil _ _)
    (by decide +kernel) (hello ⟨.A, 0⟩ 1 firstFrame 0 0 0 false _ (withLaneA_runs sound rfl 0))

/-! ### HANDOVER -/

/-- Lane A, LIVE, with one command waiting; lane C is LIVE and the lead. One drill has failed, and lane A has entered RESYNC
twice at the count 0. -/
def drilledLane : Lane :=
  (((waitingLane.setLState .live).setPeerState 1 2).put R.WG_STAT_LEADL 2).onWing fun w =>
    { w with drillFails := 1, resyncs := [0, 0] }

theorem drilledLane_sound : drilledLane.Sound .A := (((waitingLane_sound.put _ _).put _ _).put _ _).onWing _

/-- A second drill in succession that fails puts the next LIVE lane into RESYNC (R281). -/
theorem Lane.takeHandover_of_second {l : Lane} {p : Peer} {crc : Word}
    (mine : l.leadIs p = true ∧ l.lstate = .live ∧ l.nextLead (peerLane l.id p) = some l.id) (differs : crc ≠ l.mirrorSum)
    (live : l.peerLive p = true) (again : 1 ≤ l.wing.drillFails) : l.takeHandover p crc =
      ((l.raise R.WG_EVT_DRILLERR).onWing fun w => { w with drillFails := 0 }).enterResync := by
  obtain ⟨lead, alive, next⟩ := mine
  have second : 2 ≤ l.wing.drillFails + 1 := by omega
  unfold Lane.takeHandover
  rw [if_neg (by simp [lead, alive, next]), if_neg differs, if_neg (by simp [live])]
  dsimp only
  rw [if_pos second, if_pos second]

/-- The third entry into RESYNC within 60 s takes the lane OUT (R277). -/
theorem Lane.enterResync_of_third {l : Lane} (live : l.lstate = .live) (third : 2 ≤ l.recentResyncs.length) :
    l.enterResync = (l.raise R.WG_EVT_RSFAIL).laneOut :=
  (if_neg (not_not.2 live)).trans (if_pos third)

/-- Refutes O33: a HANDOVER of the lead whose CRC differs from that of the mirror set held, 0, is the second failure in
succession, which puts lane A into RESYNC (R281); the third entry within 60 s takes it OUT (R277), which counts the command
waiting in it in WG_CMDEXP (R266); that register is none of the parts the clause of HANDOVER lists. -/
theorem not_leadToken : ¬ Obligations.LeadToken := by
  unfold Obligations.LeadToken
  rintro ⟨-, -, -, -, -, handover, -⟩
  let c : Instr := .handover ⟨.A, 0⟩ 1 firstFrame 1
  let l : Lane := drilledLane.advanceTo 0
  let taken : Lane := (l.validFrame 1 firstFrame.ack).onLinkEnd 1 fun q => { q with rxSeq := firstFrame.seq.toNat }
  let failed : Lane := (taken.raise R.WG_EVT_DRILLERR).onWing fun w => { w with drillFails := 0 }
  have received : l.receive 1 firstFrame (fun l => l.takeHandover 1 1) = taken.takeHandover 1 1 :=
    Lane.receive_of_inOrder _ (by decide +kernel) (by decide +kernel)
  have second : taken.takeHandover 1 1 = failed.enterResync :=
    Lane.takeHandover_of_second (by decide +kernel) (by decide +kernel) (by decide +kernel) (by decide +kernel)
  have third : failed.enterResync = (failed.raise R.WG_EVT_RSFAIL).laneOut :=
    Lane.enterResync_of_third (by decide +kernel) (by decide +kernel)
  have start : Lane.Near (allBut [69, 401]) (drilledLane.advanceTo 0) taken :=
    Lane.onLinkEnd_near (by decide +kernel)
      (Lane.validFrame_near (by decide +kernel) (.refl _ (drilledLane_sound.advanceTo 0)))
  have near : Lane.Near (allBut [69, 401]) (drilledLane.advanceTo 0) (failed.raise R.WG_EVT_RSFAIL) :=
    Lane.raise_near (inEvt ev_WG_EVT (by decide +kernel)) rfl (Lane.onWing_near (WingState.near_of_pending rfl)
      (Lane.raise_near (inEvt ev_WG_EVT (by decide +kernel)) rfl start))
  exact not_does_of_waiting_laneA (c := c) drilledLane_sound rfl rfl rfl (received.trans (second.trans third)) near
    (by decide +kernel) (List.cons_ne_nil _ _) (by decide +kernel)
    (handover ⟨.A, 0⟩ 1 firstFrame 1 _ (withLaneA_runs drilledLane_sound rfl 0))

/-! ### RESYNC_LANE_TIMEOUT -/

/-- Lane A with one command waiting, in RESYNC since the count 0. -/
def resyncLane : Lane := waitingLane.setLState .resync

/-- Refutes O34: a lane that has not reached step 3 of R276 in 100 ms goes OUT (R277) and counts the command waiting in it in
WG_CMDEXP (R266); that register is none of the parts the clause of RESYNC_LANE_TIMEOUT lists. -/
theorem not_laneStates : ¬ Obligations.LaneStates := by
  unfold Obligations.LaneStates
  rintro ⟨-, -, timeout, -⟩
  have sound : resyncLane.Sound .A := waitingLane_sound.put _ _
  let c : Instr := .resyncLaneTimeout ⟨.A, ms 100⟩
  let l : Lane := resyncLane.advanceTo (ms 100)
  have late : l.lstate = .resync ∧ l.get R.WG_RESYNC_STEP < 3 ∧ l.since l.wing.resyncAt (ms 100) := by decide +kernel
  have near : Lane.Near (allBut [69, 401]) l (l.raise R.WG_EVT_RSFAIL) :=
    Lane.raise_near (inEvt ev_WG_EVT (by decide +kernel)) rfl (.refl _ (sound.advanceTo _))
  exact not_does_of_waiting_laneA (c := c) sound rfl rfl rfl (if_pos late) near (by decide +kernel) (List.cons_ne_nil _ _)
    (by decide +kernel) (timeout ⟨.A, ms 100⟩ _ (withLaneA_runs sound rfl _))

end Sys2Proof.Machine

/-!
PROOFS. Tickets and commitments of the box office: queueing, the end of ticketed work, starvation, release (R292, R303, R305).
-/

namespace Sys2Proof.Machine

-- one declaration at a time: each waits for the kernel, and a waiting one holds a thread and its stack
set_option Elab.async false

/-! ### The fields that show the box office -/

/-- Showing the box office changes nothing of it. -/
@[simp] theorem Lane.showBox_box (l : Lane) : l.showBox.box = l.box := rfl

/-- Showing the box office clears no event flag (R313). -/
theorem Lane.flag_showBox {i : LaneId} {l : Lane} (h : l.Sound i) {f : Fld} (evt : isEvt f.addr = true) (hw : f.width = 1)
    (raised : l.flag f = true) : l.showBox.flag f = true :=
  (Lane.showBox_near (M := 2 ^ 20 ||| 2 ^ 25) (by decide +kernel) (.refl _ h)).flag (by decide +kernel) evt hw raised

/-! ### Queueing a ticket (R305) -/

/-- The ticket that a request makes: it takes the next number, and its age counts from the present cycle. -/
def Lane.requestedTicket (l : Lane) (w : Work) (c : Cost) (engine : Option Engine) : Ticket :=
  ⟨l.box.nextId, w, c, engine, l.box.point, l.mode_.cycle, false⟩

/-- The lane with the number of the next ticket used up. -/
def Lane.numberTicket (l : Lane) : Lane := l.onBox fun b => { b with nextId := b.nextId + 1 }

/-- A ticket that costs more than a ledger's limit is refused. -/
theorem Lane.queueTicket_of_tooDear {l : Lane} {w : Work} {c : Cost} {engine : Option Engine}
    (dear : l.tooDear (l.requestedTicket w c engine) = true) :
    l.queueTicket w c engine none = l.numberTicket.raise R.BX_EVT_TREFUSE := if_pos dear

/-- Any other ticket is queued last. -/
theorem Lane.queueTicket_of_fair {l : Lane} {w : Work} {c : Cost} {engine : Option Engine} (ask : Option (Hdr × Option Path))
    (fair : l.tooDear (l.requestedTicket w c engine) = false) : l.queueTicket w c engine ask =
      (l.numberTicket.onBox fun b => { b with queued := b.queued ++ [l.requestedTicket w c engine] }).showBox :=
  if_neg (Bool.eq_false_iff.1 fair)

/-- TICKET_REQUEST (R305). -/
theorem does_ticketRequest (e : At) (cost : Cost) (target : Nat) (s : State) (hs : s.Runs e) :
    Does (.ticketRequest e cost target) s [.reg R.BX_STAT, .reg R.BX_EVT, .reg R.BX_DIECOM, .reg (R.CN_BCTL 0 0),
    .reg (R.CN_BDAT 0 0 0), .reg R.HS_EVT, .reg R.HS_PORT, .reg R.HS_CNT1, .reg R.HS_CNT2, .reg R.HS_CNT3,
    .reg (R.HS_SLAST 0), .seats, .box] fun l m =>
      ∃ t : Ticket, t.id = l.box.nextId ∧ t.cost = cost ∧ t.cycle = l.mode_.cycle ∧ m.box.nextId = l.box.nextId + 1 ∧
        (l.tooDear t = true → m.flag R.BX_EVT_TREFUSE = true ∧ m.box.queued = l.box.queued) ∧
        (l.tooDear t = false → m.box.queued = l.box.queued ++ [t]) := by
  refine does_logic hs rfl execTicketRequest_event rfl (by decide +kernel) fun h => ?_
  generalize s.before (.ticketRequest e cost target) = l at h
  generalize (if cost.cls = 7 then Work.boost target else if cost.cls = 0 then .shutdown
    else if cost.cls = 4 then .cartWrite else if cost.cls = 6 then .logFlush else .other) = w
  refine ⟨l.requestedTicket w cost (some cost.engine), rfl, rfl, rfl, ?_⟩
  cases price : l.tooDear (l.requestedTicket w cost (some cost.engine)) with
  | true =>
    rw [Lane.queueTicket_of_tooDear price]
    exact ⟨rfl, fun _ => ⟨Lane.flag_raise (h.onBox _).wf _ (by decide) rfl, rfl⟩, nofun⟩
  | false =>
    rw [Lane.queueTicket_of_fair none price]
    exact ⟨rfl, nofun, fun _ => rfl⟩

/-! ### The end of ticketed work (R303) -/

theorem Lane.endTicket_of_none {l : Lane} {id : Nat} (gone : (l.box.running.find? fun t => t.id == id) = none) :
    l.endTicket id = l := by
  unfold Lane.endTicket
  rw [gone]

theorem Lane.endTicket_of_some {l : Lane} {id : Nat} {t : Ticket}
    (found : (l.box.running.find? fun t => t.id == id) = some t) :
    l.endTicket id = if ownEnd t.work then l else ((l.retire t).workDone t.work).decideSales := by
  unfold Lane.endTicket
  rw [found]

/-- Counting in a register leaves the tickets and ledgers as they are. -/
theorem bumpBy_box (k : Nat) (f : Fld) (l : Lane) : (bumpBy k f l).box = l.box := by
  induction k generalizing l with
  | zero => rfl
  | succ k ih => exact ih _

/-- With nothing queued a decision point sells nothing. -/
theorem Lane.box_decideSales_of_empty {l : Lane} (empty : l.box.queued = []) :
    l.decideSales.box = { l.box with point := l.box.point + 1 } := by
  have nothingSold : sellAll l.box.queued.length l = l := by rw [empty]; rfl
  unfold Lane.decideSales
  rw [nothingSold, Lane.showBox_box, Lane.onBox_box, bumpBy_box]

/-- The commitment of work that just ended is held for 5 ms more (R292). -/
theorem Lane.mem_commits_retire {l : Lane} {t : Ticket} {c : Commit} (mem : c ∈ l.box.commits) (own : c.id = t.id)
    (held : c.releaseAt = none) : { c with releaseAt := some (l.now + ms 5) } ∈ (l.retire t).box.commits :=
  List.mem_map.2 ⟨c, mem, if_pos ⟨own, held⟩⟩

/-- The repair rows are written, and none is pending (R353). -/
theorem Lane.writeRepairs_effects {i : LaneId} {l : Lane} (h : l.Sound i) :
    l.writeRepairs.trust.flash.repair = l.trust.flash.repair ++ l.reh.toRepair ∧
      l.writeRepairs.get R.BI_MEMCNT_PENDING = 0 :=
  ⟨rfl, Lane.get_drop ((h.onTrust _).onReh _).wf _ (by decide)⟩

/-- Nothing that a sale begins writes the flash or the pending repairs. -/
theorem Lane.decideSales_keeps {i : LaneId} {l : Lane} (h : l.Sound i) :
    l.decideSales.trust.flash = l.trust.flash ∧ l.decideSales.get R.BI_MEMCNT_PENDING = l.get R.BI_MEMCNT_PENDING := by
  have near : Lane.Near (allBut [80, 483]) l l.decideSales := Lane.decideSales_near (by decide +kernel) (.refl _ h)
  exact ⟨near.trust.flash (by decide +kernel), near.keep at_BI_MEMCNT.1 (by decide +kernel)⟩

/-- TICKETED_WORK_END (R303). -/
theorem does_ticketedWorkEnd (e : At) (id : Nat) (s : State) (hs : s.Runs e) :
    Does (.ticketedWorkEnd e id) s [.reg R.BX_STAT, .reg R.BX_EVT,
    .reg R.BX_DIECOM, .reg R.BX_TICK, .reg (R.BX_BRKLV 0), .reg R.BI_STAT, .reg R.BI_MEMCNT, .reg (R.GD_LKCTL 0),
    .reg (R.CN_BCTL 0 0), .reg (R.CN_BDAT 0 0 0), .block 18, .log, .power, .seats, .trust, .reh, .box] fun l m =>
      ((l.box.running.find? fun t => t.id == id) = none → m = l) ∧
      (∀ t, (l.box.running.find? fun t => t.id == id) = some t → ownEnd t.work = true → m = l) ∧
      (∀ t, (l.box.running.find? fun t => t.id == id) = some t → ownEnd t.work = false →
        m = ((l.retire t).workDone t.work).decideSales ∧
        (t.work = .logFlush → m.trust.flash.repair = l.trust.flash.repair ++ l.reh.toRepair ∧
          m.get R.BI_MEMCNT_PENDING = 0) ∧
        (t.work = .other → l.box.queued = [] → (∀ r ∈ m.box.running, r.id ≠ id) ∧
          (∀ c ∈ l.box.commits, c.id = id → c.releaseAt = none →
            { c with releaseAt := some (l.now + ms 5) } ∈ m.box.commits))) := by
  refine does_logic hs rfl execTicketedWorkEnd_event rfl (by decide +kernel) fun h => ?_
  generalize s.before (.ticketedWorkEnd e id) = l at h
  refine ⟨Lane.endTicket_of_none, fun t found own => (Lane.endTicket_of_some found).trans (if_pos own),
    fun t found other => ?_⟩
  have own : t.id = id := beq_iff_eq.1 (List.find?_some (p := fun t : Ticket => t.id == id) found)
  have retired : (l.retire t).Sound e.lane := (h.onBox _).onBox _
  rw [(Lane.endTicket_of_some found).trans (if_neg (Bool.eq_false_iff.1 other))]
  refine ⟨rfl, fun flush => ?_, fun plain empty => ?_⟩
  · rw [flush]
    obtain ⟨written, cleared⟩ := Lane.writeRepairs_effects retired
    have repaired : ((l.retire t).workDone .logFlush).Sound e.lane := ((retired.onTrust _).onReh _).put _ 0
    obtain ⟨flash, pending⟩ := Lane.decideSales_keeps repaired
    exact ⟨(congrArg _ flash).trans written, pending.trans cleared⟩
  · have box : ((l.retire t).workDone t.work).decideSales.box = { (l.retire t).box with point := l.box.point + 1 } := by
      rw [plain]
      exact Lane.box_decideSales_of_empty (l := l.retire t) empty
    rw [box]
    refine ⟨fun r running => ?_, fun c mem mine held => Lane.mem_commits_retire mem (mine.trans own.symm) held⟩
    exact own ▸ bne_iff_ne.1 (List.mem_filter.1 running).2

/-! ### Starvation (R305) -/

/-- TICKET_STARVED (R305). -/
theorem does_ticketStarved (e : At) (id : Nat) (s : State) (hs : s.Runs e) :
    Does (.ticketStarved e id) s [.reg R.BX_STAT, .reg R.BX_EVT, .reg R.BX_DIECOM, .box] fun l m =>
      ((∀ t ∈ l.box.queued, t.id = id → l.mode_.cycle - t.cycle < l.get (R.BX_CLASS_MAXWAIT t.cost.cls)) → m = l) ∧
      ((∃ t ∈ l.box.queued, t.id = id ∧ l.get (R.BX_CLASS_MAXWAIT t.cost.cls) ≤ l.mode_.cycle - t.cycle) →
        m.flag R.BX_EVT_STARVE = true ∧ ∃ t ∈ m.box.queued, t.id = id ∧ t.starved = true) := by
  refine does_logic hs rfl execTicketStarved_event rfl (by decide +kernel) fun h => ?_
  generalize s.before (.ticketStarved e id) = l at h
  extract_lets due
  have due_iff (t : Ticket) : due t = true ↔
      t.id = id ∧ l.get (R.BX_CLASS_MAXWAIT t.cost.cls) ≤ l.mode_.cycle - t.cycle := by simp [due]
  refine ⟨fun young => if_neg fun waits => ?_, ?_⟩
  · obtain ⟨t, queued, late⟩ := List.any_eq_true.1 waits
    obtain ⟨own, old⟩ := (due_iff t).1 late
    exact absurd old (Nat.not_le_of_lt (young t queued own))
  · rintro ⟨t, queued, own, old⟩
    have late : due t = true := (due_iff t).2 ⟨own, old⟩
    rw [if_pos (List.any_eq_true.2 ⟨t, queued, late⟩)]
    refine ⟨Lane.flag_showBox ((h.onBox _).raise _) is_BX_EVT rfl (Lane.flag_raise (h.onBox _).wf _ (by decide) rfl), ?_⟩
    exact ⟨{ t with starved := true }, List.mem_map.2 ⟨t, queued, if_pos late⟩, own, rfl⟩

/-! ### The release of a commitment (R292) -/

/-- The commitment of ticket `id` has been held to its end at the count `now`. -/
def Commit.isOver (c : Commit) (id now : Nat) : Bool :=
  c.id == id && (match c.releaseAt with | some t => decide (t ≤ now) | none => false)

theorem Commit.isOver_iff {c : Commit} {id now : Nat} :
    c.isOver id now = true ↔ c.id = id ∧ ∃ t, c.releaseAt = some t ∧ t ≤ now := by
  unfold Commit.isOver
  cases c.releaseAt <;> simp

/-- COMMITMENT_RELEASE (R292). -/
theorem does_commitmentRelease (e : At) (id : Nat) (s : State) (hs : s.Runs e) :
    Does (.commitmentRelease e id) s [.reg R.BX_STAT, .reg R.BX_DIECOM, .box] fun l m =>
      (∀ c ∈ m.box.commits, c ∈ l.box.commits ∧ (c.id = id → ∀ t, c.releaseAt = some t → l.now < t)) ∧
      (∀ c ∈ l.box.commits, c.id ≠ id → c ∈ m.box.commits) := by
  refine does_logic hs rfl execCommitmentRelease_event rfl (by decide +kernel) fun _ => ?_
  generalize s.before (.commitmentRelease e id) = l
  change (∀ c ∈ l.box.commits.filter (fun c => !c.isOver id l.now), _) ∧
    ∀ c ∈ l.box.commits, _ → c ∈ l.box.commits.filter fun c => !c.isOver id l.now
  refine ⟨fun c kept => ?_, fun c mem other => ?_⟩
  · obtain ⟨mem, stays⟩ := List.mem_filter.1 kept
    refine ⟨mem, fun own t release => Nat.lt_of_not_le fun past => ?_⟩
    have ended : c.isOver id l.now = true := Commit.isOver_iff.2 ⟨own, t, release, past⟩
    rw [ended] at stays
    exact absurd stays (by decide)
  · have stays : c.isOver id l.now = false := Bool.eq_false_iff.2 fun ended => other (Commit.isOver_iff.1 ended).1
    exact List.mem_filter.2 ⟨mem, by rw [stays]; rfl⟩

/-- Settles O36, command by command. -/
theorem boxOffice : Obligations.BoxOffice := by
  unfold Obligations.BoxOffice
  exact ⟨does_ticketRequest, does_ticketedWorkEnd, does_ticketStarved, does_commitmentRelease⟩

end Sys2Proof.Machine

/-!
PROOFS. How a lane executes an opcode: the answers, the lanes a packet names, what is refused (R467, R470, R471, R477).
-/

namespace Sys2Proof.Machine

-- one declaration at a time: each waits for the kernel, and a waiting one holds a thread and its stack
set_option Elab.async false

/-! ### Whole records outside a mask -/

/-- A bit that one of two masks without a common bit holds is not in the other. -/
theorem testBit_of_and_eq_zero {a b k : Nat} (h : a &&& b = 0) (hk : b.testBit k = true) : a.testBit k = false := by
  have bit : (a &&& b).testBit k = false := by rw [h, Nat.zero_testBit]
  rwa [Nat.testBit_and, hk, Bool.and_true] at bit

/-- Within a mask that holds no part of it the record of trust stays as it is. -/
theorem TrustState.Near.eq {M : Nat} {x y : TrustState} (h : TrustState.Near M x y) (m : M &&& maskOf [.trust] = 0) : y = x := by
  have part : ∀ k < 20, (maskOf [.trust]).testBit (483 + k) = true := by decide +kernel
  have out (k : Nat) (hk : k < 20) : M.testBit (483 + k) = false := testBit_of_and_eq_zero m (part k hk)
  obtain ⟨flash, fuses, load, checking, book, slot, nextBook, awaiting, state, code, section_, offset, fw, fwTried, rom,
    challenge, debugOpen, playAt, confirm, carts⟩ := h
  cases x
  cases y
  rw [TrustState.mk.injEq]
  exact ⟨flash (out 0 (by decide)), fuses (out 1 (by decide)), load (out 2 (by decide)), checking (out 3 (by decide)),
    book (out 4 (by decide)), slot (out 5 (by decide)), nextBook (out 6 (by decide)), awaiting (out 7 (by decide)),
    state (out 8 (by decide)), code (out 9 (by decide)), section_ (out 10 (by decide)), offset (out 11 (by decide)),
    fw (out 12 (by decide)), fwTried (out 13 (by decide)), rom (out 14 (by decide)), challenge (out 15 (by decide)),
    debugOpen (out 16 (by decide)), playAt (out 17 (by decide)), confirm (out 18 (by decide)), carts (out 19 (by decide))⟩

/-- Within a mask that holds no part of it the box office stays as it is. -/
theorem BoxState.Near.eq {M : Nat} {x y : BoxState} (h : BoxState.Near M x y) (m : M &&& maskOf [.box] = 0) : y = x := by
  have part : ∀ k < 19, (maskOf [.box]).testBit (543 + k) = true := by decide +kernel
  have out (k : Nat) (hk : k < 19) : M.testBit (543 + k) = false := testBit_of_and_eq_zero m (part k hk)
  obtain ⟨queued, running, commits, nextId, point, tw, br, bk, regen, chonLast, vmSum, vmCount, drops, agreeDrop, zeroRefs,
    dieLD, diePD, supSince, overdue⟩ := h
  cases x
  cases y
  rw [BoxState.mk.injEq]
  exact ⟨queued (out 0 (by decide)), running (out 1 (by decide)), commits (out 2 (by decide)), nextId (out 3 (by decide)),
    point (out 4 (by decide)), tw (out 5 (by decide)), br (out 6 (by decide)), bk (out 7 (by decide)),
    regen (out 8 (by decide)), chonLast (out 9 (by decide)), vmSum (out 10 (by decide)), vmCount (out 11 (by decide)),
    drops (out 12 (by decide)), agreeDrop (out 13 (by decide)), zeroRefs (out 14 (by decide)), dieLD (out 15 (by decide)),
    diePD (out 16 (by decide)), supSince (out 17 (by decide)), overdue (out 18 (by decide))⟩

/-! ### What an answer leaves -/

/-- The parts an answer may change: registers of the CAN controllers and of the seats, and the queues of the seats. -/
def answerMask : Nat := maskOf [.block 12, .block 18, .seats]

section
variable {i : LaneId} {l : Lane} (hl : l.Sound i) (h : Hdr) (path : Option Path) (st : Status) (b : List Byte)
include hl

theorem Lane.near_answer : Lane.Near answerMask l (l.answer h path st b) := Lane.answer_near (by decide +kernel) (.refl _ hl)

theorem Lane.Sound.answer : (l.answer h path st b).Sound i := (Lane.near_answer hl h path st b).place hl

theorem Lane.trust_answer : (l.answer h path st b).trust = l.trust :=
  (Lane.near_answer hl h path st b).trust.eq (by decide +kernel)

theorem Lane.box_answer : (l.answer h path st b).box = l.box :=
  (Lane.near_answer hl h path st b).box.eq (by decide +kernel)

end

/-! ### Answers reach their seats (R467, R471, R477) -/

/-- A packet whose reply is suppressed, or whose copy came over no path of a seat, leaves the lane as it is. -/
theorem Lane.sendReply_of_quiet {l : Lane} {h : Hdr} {path : Option Path} {r : Reply}
    (quiet : path = none ∨ path = some .wing ∨ h.noReply = true ∧ r.cls = 0) : l.sendReply h path r = l := by
  unfold Lane.sendReply
  split_ifs with suppressed
  · rfl
  · rcases quiet with rfl | rfl | quiet
    · rfl
    · rfl
    · exact absurd quiet suppressed

/-- Any other reply is counted and queued. -/
theorem Lane.sendReply_of_sent {l : Lane} {h : Hdr} {p : Path} {r : Reply} (out : p ≠ .wing)
    (sent : h.noReply = false ∨ r.cls ≠ 0) :
    l.sendReply h (some p) r = (l.countReply h ⟨r.cls, r.detail⟩).queueReply (some p) r := by
  unfold Lane.sendReply
  rw [if_neg (fun quiet => sent.elim (by simp [quiet.1]) (· quiet.2))]
  cases p with
  | wing => exact absurd rfl out
  | _ => rfl

/-- Counting a reply leaves the queues. -/
theorem Lane.seats_countReply (l : Lane) (h : Hdr) (st : Status) : (l.countReply h st).seats = l.seats := by
  unfold Lane.countReply Lane.when
  split_ifs <;> rfl

theorem Lane.Sound.countReply {i : LaneId} {l : Lane} (hl : l.Sound i) (h : Hdr) (st : Status) : (l.countReply h st).Sound i :=
  (Lane.countReply_near (M := answerMask) (by decide +kernel) (.refl _ hl)).place hl

/-- A port queues up to eight replies. -/
theorem Lane.replies_queueReply_port {l : Lane} (r : Reply) (room : l.seats.replies.length < 8) :
    (l.queueReply (some .port) r).seats.replies = l.seats.replies ++ [r] := by
  show (if l.seats.replies.length < 8 then _ else _ : Lane).seats.replies = _
  rw [if_pos room]
  rfl

/-- A full port discards the reply and says so. -/
theorem Lane.queueReply_full {i : LaneId} {l : Lane} (hl : l.Sound i) (r : Reply) (full : 8 ≤ l.seats.replies.length) :
    (l.queueReply (some .port) r).seats.replies = l.seats.replies ∧
      (l.queueReply (some .port) r).flag R.HS_EVT_OVF = true := by
  have discards : l.queueReply (some .port) r = (l.bump R.HS_CNT2_OVF).raise R.HS_EVT_OVF := if_neg (Nat.not_lt.2 full)
  have bumped : (l.bump R.HS_CNT2_OVF).Sound i := hl.put _ _
  rw [discards]
  exact ⟨rfl, Lane.flag_raise bumped.wf _ (by decide) rfl⟩

/-- Storing a reply changes nothing but the stored replies (R478). -/
theorem Lane.keepReply_keeps {i : LaneId} {m : Lane} (hm : m.Sound i) (h : Hdr) (r : Reply) :
    (m.keepReply h r).Sound i ∧ (m.keepReply h r).id = m.id ∧ (m.keepReply h r).seats.replies = m.seats.replies ∧
      (m.keepReply h r).seats.ringReplies = m.seats.ringReplies := by
  unfold Lane.keepReply
  split
  · exact ⟨hm.onSeats _, rfl, rfl, rfl⟩
  · exact ⟨hm, rfl, rfl, rfl⟩

/-- A lane that took its command from `l` and kept its queues answers as `l` is to answer. -/
theorem answered_answer {i : LaneId} {l m : Lane} (hm : m.Sound i) (id : m.id = l.id)
    (replies : m.seats.replies = l.seats.replies) (ring : m.seats.ringReplies = l.seats.ringReplies) (h : Hdr)
    (path : Option Path) (st : Status) (b : List Byte) : Answered l (m.answer h path st b) h path st b := by
  unfold Lane.answer Lane.answerTagged Lane.reply
  obtain ⟨hk, kId, kReplies, kRing⟩ := Lane.keepReply_keeps hm h (m.mkReply h st b (decide (0 < h.cls)))
  generalize m.keepReply h (m.mkReply h st b (decide (0 < h.cls))) = k at hk kId kReplies kRing
  rw [id] at kId
  rw [replies] at kReplies
  rw [ring] at kRing
  have sends (p : Path) (out : p ≠ .wing) (sent : h.noReply = false ∨ st.cls ≠ 0) :
      k.sendReply h (some p) (k.mkReply h st b (decide (0 < h.cls))) =
        (k.countReply h st).queueReply (some p) (k.mkReply h st b (decide (0 < h.cls))) := Lane.sendReply_of_sent out sent
  refine ⟨fun quiet => ?_, fun sent => ⟨k.mkReply h st b (decide (0 < h.cls)), ⟨kId, rfl, rfl, rfl, rfl, rfl, rfl, rfl, rfl⟩,
    ?_, ?_, ?_⟩⟩
  · rw [Lane.sendReply_of_quiet quiet]
    exact ⟨kReplies, kRing⟩
  · rintro rfl room
    rw [sends .port nofun sent, Lane.replies_queueReply_port] <;> rw [Lane.seats_countReply, kReplies]
    exact room
  · rintro rfl full
    have counted := Lane.seats_countReply k h st
    rw [sends .port nofun sent]
    obtain ⟨same, lost⟩ := Lane.queueReply_full (hk.countReply h st) (k.mkReply h st b (decide (0 < h.cls)))
      (by rw [counted, kReplies]; exact full)
    exact ⟨same.trans (by rw [counted, kReplies]), lost⟩
  · rintro n rfl
    rw [sends (.ring n) nofun sent]
    show (k.countReply h st).seats.ringReplies ++ _ = _
    rw [Lane.seats_countReply, kRing]

/-! ### The lane with the execution counted -/

/-- HS_CNT3[EXEC] counts an agreed opcode in a lane that it names. -/
def Lane.counted (l : Lane) : Lane := l.bump R.HS_CNT3_EXEC

theorem Lane.Sound.counted {i : LaneId} {l : Lane} (hl : l.Sound i) : l.counted.Sound i := hl.put _ _

theorem Lane.get_counted (l : Lane) {f : Fld} (other : f.addr ≠ R.HS_CNT3) : l.counted.get f = l.get f :=
  Lane.get_put_of_ne l _ other

/-- What refuses an opcode does not hang on the count (R480). -/
theorem Lane.opRefused_counted (l : Lane) (h : Hdr) (op : Op) : l.counted.opRefused h op = l.opRefused h op := by
  have get (f : Fld) (other : f.addr ≠ R.HS_CNT3) : l.counted.get f = l.get f := l.get_counted other
  unfold Lane.opRefused Lane.goneOut Lane.fromHold Lane.lstate Lane.mode Lane.stateStatus Lane.holdsSpot Lane.spotOwner
    Lane.endCycle Lane.flag
  simp only [get R.LC_STATE_MSTATE (by decide), get R.LC_STATE_LSTATE (by decide), get R.HS_SPOT_HELD (by decide),
    get R.HS_SPOT_HOLDER (by decide), get R.HS_SPOT_RESV (by decide), get R.HS_SPOT_RSEAT (by decide),
    get R.HS_SPOTEND_HI_END (by decide), get R.HS_SPOTEND_LO_END (by decide)]
  rfl

/-! ### Execution (R470, R477) -/

section
variable {l : Lane} {h : Hdr} {path : Option Path} {op : Op}

theorem Lane.perform_of_unnamed (unnamed : ¬l.named h) : l.perform h path op = l.notAddressed h path op :=
  if_pos (by simpa using unnamed)

/-- A named lane executes an agreed opcode with the count, or answers why not. -/
theorem Lane.perform_of_named (named : l.named h) (agreed : opLocal op = false) : l.perform h path op =
    match l.opRefused h op with
    | some st => if opAtCycle op ∧ l.counted.fromHold then l.counted.refuseMode h path st else l.counted.answer h path st []
    | none => l.counted.runOp h path op := by
  have counts : l.when (!opLocal op) (fun l => l.bump R.HS_CNT3_EXEC) = l.counted := by rw [agreed]; rfl
  unfold Lane.perform
  rw [if_neg (by rw [named]; decide), counts]
  dsimp only
  rw [Lane.opRefused_counted] <;> rfl

theorem Lane.perform_of_allows (agreed : opLocal op = false) (a : l.allows h op) :
    l.perform h path op = l.counted.runOp h path op := by
  rw [Lane.perform_of_named a.1 agreed, a.2]

/-- A lane turns away an agreed opcode that is not answered at a cycle start as R470 and R477 say. -/
theorem turnedAway_perform {i : LaneId} (hl : l.Sound i) (agreed : opLocal op = false) (soon : opAtCycle op = false) :
    TurnedAway l (l.perform h path op) h path op := by
  refine ⟨fun unnamed => ?_, fun st named refused => ?_⟩
  · rw [if_neg (by rw [agreed]; decide), Lane.perform_of_unnamed unnamed]
    unfold Lane.notAddressed
    rw [if_neg (by rw [agreed]; decide)]
    split
    · exact answered_answer (hl.onMode _) rfl rfl rfl _ _ _ _
    · exact answered_answer hl rfl rfl rfl _ _ _ _
  · have later : ¬(opAtCycle op = true ∧ l.counted.fromHold = true) := by rw [soon]; exact fun h => nomatch h.1
    rw [if_neg (by rw [soon]; exact fun h => nomatch h.1), Lane.perform_of_named named agreed, refused]
    simp only [if_neg later]
    exact answered_answer hl.counted rfl rfl rfl _ _ _ _

end

end Sys2Proof.Machine

/-!
PROOFS. Loading a prompt book into the inactive slot, its activation and abort (R317, R340, R342, R483).
-/

namespace Sys2Proof.Machine

-- one declaration at a time: each waits for the kernel, and a waiting one holds a thread and its stack
set_option Elab.async false

/-! ### Slots (R317) -/

/-- Of two valid slots the one with the higher write sequence is active (R317). -/
theorem activeSlot_pair {α : Type} (a b : Nat × α) : activeSlot #v[some a, some b] = some (if a.1 < b.1 then 1 else 0) := by
  show (if a.1 < b.1 then [1, 0] else [0, 1] : List (Fin 2)).head? = _
  split_ifs <;> rfl

theorem inactiveSlot_pair {α : Type} (a b : Nat × α) : inactiveSlot #v[some a, some b] = if a.1 < b.1 then 0 else 1 := by
  unfold inactiveSlot
  rw [activeSlot_pair]
  split_ifs <;> rfl

/-- Emptying the slot that is not active leaves the active one. -/
theorem activeSlot_set_inactive {α : Type} (s : Vector (Option (Nat × α)) 2) :
    activeSlot (s.set (inactiveSlot s) none) = activeSlot s := by
  obtain ⟨a, b, rfl⟩ : ∃ a b, s = #v[a, b] := ⟨s[0], s[1], by ext k hk; interval_cases k <;> rfl⟩
  cases a with
  | none => cases b <;> rfl
  | some a =>
    cases b with
    | none => rfl
    | some b =>
      simp only [inactiveSlot_pair, activeSlot_pair]
      by_cases older : a.1 < b.1
      · simp only [if_pos older]
        rfl
      · simp only [if_neg older]
        rfl

/-! ### Prompt-book status -/

/-- The prompt-book status is read off the record of trust (R335). -/
theorem Lane.bookBytes_of_trust {l m : Lane} (h : m.trust = l.trust) : m.bookBytes = l.bookBytes := by
  unfold Lane.bookBytes Lane.presentBook Lane.pbSlots
  rw [h]

/-! ### PB_LOAD_BEGIN (R340) -/

section
variable {l : Lane} {h : Hdr} {path : Option Path}

theorem Lane.loadBegin_of_open (fw : Bool) (n : Nat) (d : BitVec 384) (busy : l.trust.load ≠ none) :
    l.loadBegin h path fw n d = l.answer h path (.busy 16) [] := if_pos (Option.isSome_iff_ne_none.2 busy)

theorem Lane.loadBegin_of_long {n : Nat} (d : BitVec 384) (free : l.trust.load = none) (long : 2097152 < n) :
    l.loadBegin h path false n d = l.answer h path (.param 1) [] :=
  (if_neg (by rw [free]; decide)).trans (if_pos long)

/-- The load session of a prompt book begins: the inactive slot is empty from now on. -/
def Lane.openBook (l : Lane) (seat : Seat) (n : Nat) (d : BitVec 384) : Lane :=
  l.onTrust fun t => { t with
    flash := { l.trust.flash with pb := l.trust.flash.pb.set (inactiveSlot l.pbSlots) none }
    load := some ⟨false, seat, inactiveSlot l.pbSlots, n, d, 0⟩ }

theorem Lane.loadBegin_of_fits {n : Nat} (d : BitVec 384) (free : l.trust.load = none) (fits : n ≤ 2097152) :
    l.loadBegin h path false n d = (l.openBook h.seat n d).answer h path .ok [] :=
  (if_neg (by rw [free]; decide)).trans (if_neg (Nat.not_lt.2 fits))

/-- The other slot stays the active one. -/
theorem Lane.activeSlot_openBook (l : Lane) (seat : Seat) (n : Nat) (d : BitVec 384) :
    activeSlot (l.openBook seat n d).pbSlots = activeSlot l.pbSlots := by
  have emptied : (l.openBook seat n d).pbSlots = l.pbSlots.set (inactiveSlot l.pbSlots) none := by
    unfold Lane.pbSlots
    exact Vector.map_set ..
  rw [emptied, activeSlot_set_inactive]

/-! ### PB_LOAD_DATA (R483) -/

theorem Lane.loadData_of_none (fw : Bool) (offset count : Nat) (free : l.trust.load = none) :
    l.loadData h path fw offset count = l.answer h path (.param 3) [] := by
  unfold Lane.loadData
  rw [free]

variable {x : LoadSession}

theorem Lane.loadData_of_some (fw : Bool) (offset count : Nat) (running : l.trust.load = some x) :
    l.loadData h path fw offset count =
      if x.seat ≠ h.seat then l.answer h path (.busy 16) []
      else if x.firmware ≠ fw ∨ offset ≠ x.written ∨ x.length < offset + count then l.answer h path (.param 3) []
      else (l.onTrust fun t => { t with load := some { x with written := offset + count } }).answer h path .ok [] := by
  unfold Lane.loadData
  rw [running]

/-! ### PB_LOAD_END (R483) -/

theorem Lane.pbLoadEnd_of_none (rb : Bool) (b : Book) (none : l.loadOf h false = none) :
    l.pbLoadEnd h path rb b = l.answer h path (.image 1) [] := by
  unfold Lane.pbLoadEnd
  rw [none]

theorem Lane.pbLoadEnd_of_unread {rb : Bool} {b : Book} (own : l.loadOf h false = some x)
    (bad : x.written ≠ x.length ∨ x.digest ≠ b.digest ∨ rb = false) :
    l.pbLoadEnd h path rb b = l.closeLoad.answer h path (.image 1) [] := by
  unfold Lane.pbLoadEnd
  rw [own]
  exact if_pos (by simpa using bad)

/-- The verified book and its record stand in the slot of the load session. -/
def Lane.storeBook (l : Lane) (x : LoadSession) (b : Book) : Lane :=
  l.closeLoad.onTrust fun t => { t with flash := { t.flash with
    pb := t.flash.pb.set x.slot (some (makeRecord (BitVec.ofNat 32 (nextWrite l.pbSlots)) x.length x.digest, b)) } }

/-- An image read back as announced is verified, and stored where no check fails. -/
theorem Lane.pbLoadEnd_of_read {b : Book} (own : l.loadOf h false = some x) (whole : x.written = x.length)
    (digest : x.digest = b.digest) : l.pbLoadEnd h path true b =
      match l.verifyBook b with
      | some c => l.closeLoad.answer h path (.image c) l.bookBytes
      | none => (l.storeBook x b).answer h path .ok (l.storeBook x b).bookBytes := by
  unfold Lane.pbLoadEnd
  rw [own]
  exact if_neg (by simp [whole, digest])

/-! ### PB_ACTIVATE (R342) -/

theorem Lane.pbActivate_of_none (none : activeSlot l.pbSlots = none) :
    l.pbActivate h path = l.answer h path l.bookStatus l.bookBytes := by
  unfold Lane.pbActivate
  rw [none]

/-- The keeper verifies the book of slot `k` and takes it for SCRIPT CHECK, or refuses it. -/
def Lane.judgeBook (l : Lane) (k : Fin 2) (b : Book) : Lane :=
  match l.verifyBook b with
  | none => l.takeBook k b
  | some c => l.refuseBook (c, 0, 0)

/-- SCRIPT CHECK is entered from HOLD. -/
def Lane.enterCheck (l : Lane) : Lane :=
  (((l.takeMode .scriptCheck).allAxes fun l n => l.parkAxis n).put R.BI_STAT_PHASE 2).koSettle

theorem Lane.pbActivate_of_some {k : Fin 2} {n : Nat} {b : Book} (active : activeSlot l.pbSlots = some k)
    (holds : l.pbSlots[k] = some (n, b)) :
    l.pbActivate h path = (l.judgeBook k b).enterCheck.sendDigest.answer h path .ok [] := by
  unfold Lane.pbActivate
  rw [active]
  dsimp only
  rw [holds]
  rfl

end

/-- The module state just taken (R40). -/
theorem Lane.mode_takeMode {i : LaneId} {l : Lane} (hl : l.Sound i) (m : Mode) : (l.takeMode m).mode = m := by
  have set (k : Lane) (hk : k.Sound i) : (k.setMode m).get R.LC_STATE_MSTATE = m.code := by
    rw [Lane.setMode, Lane.get_put hk.wf _ _ (by decide)]
    cases m <;> rfl
  unfold Lane.takeMode
  extract_lets l1 l2 l3 l4
  have h1 : l1.Sound i := (Lane.when_near (M := answerMask ||| 2 ^ 481) (.refl _ hl) fun _ g => Lane.onMode_near
    (.mk kp kp kp kp kp kp kp kp (not_bit (by decide +kernel)) kp) g).place hl
  have h2 : l2.Sound i := (h1.put _ _).onWing _
  have rest : Lane.Near (allBut [2]) l2 l4 := Lane.restCore_near (by decide +kernel)
    (Lane.put_near (inReg at_BX_PCAP (by decide +kernel)) (Lane.put_near (inReg at_BX_PCAP (by decide +kernel)) (.refl _ h2)))
  have near : Lane.Near (allBut [2]) l2 ((((l4.event 1).when (m == .degraded) fun l => l.event 2).when (m == .ghost)
      fun l => l.event 3).when (m == .curtain) fun l => l.event 4) :=
    Lane.when_near (Lane.when_near (Lane.when_near (Lane.event_near (by decide +kernel) rest)
      fun _ g => Lane.event_near (by decide +kernel) g) fun _ g => Lane.event_near (by decide +kernel) g)
      fun _ g => Lane.event_near (by decide +kernel) g
  have shown : l2.get R.LC_STATE_MSTATE = m.code := set l1 h1
  unfold Lane.mode
  rw [near.keep at_LC_STATE.1 (by decide +kernel), shown, Mode.ofCode_code]

/-- Outside LC_STATE the module state stays. -/
theorem Lane.Near.mode {M : Nat} {l m : Lane} (h : Lane.Near M l m) (out : M.testBit 2 = false) : m.mode = l.mode := by
  unfold Lane.mode
  rw [h.keep at_LC_STATE.1 out]

/-- Entering SCRIPT CHECK shows it, and leaves the record of trust (R40). -/
theorem Lane.enterCheck_effects {i : LaneId} {l : Lane} (hl : l.Sound i) :
    l.enterCheck.Sound i ∧ l.enterCheck.mode = .scriptCheck ∧ l.enterCheck.trust = l.trust := by
  have took : Lane.Near (allBut [] ^^^ maskOf [.trust]) l (l.takeMode .scriptCheck) :=
    Lane.takeMode_near (by decide +kernel) (.refl _ hl)
  have rest : Lane.Near (allBut [2] ^^^ maskOf [.trust]) (l.takeMode .scriptCheck) l.enterCheck :=
    Lane.koSettle_near (by decide +kernel) (Lane.put_near (inReg at_BI_STAT (by decide +kernel))
      (Lane.allAxes_near (.refl _ (took.place hl)) fun _ _ g => Lane.parkAxis_near (by decide +kernel) g))
  exact ⟨rest.place (took.place hl), (rest.mode (by decide +kernel)).trans (Lane.mode_takeMode hl _),
    (rest.trust.eq (by decide +kernel)).trans (took.trust.eq (by decide +kernel))⟩

/-- DIGEST is sent now (R332). -/
theorem Lane.sendDigest_effects {i : LaneId} {l : Lane} (hl : l.Sound i) :
    l.sendDigest.Sound i ∧ l.sendDigest.wing.digestSent = true ∧ l.sendDigest.wing.digestAt = l.now ∧
      l.sendDigest.mode = l.mode ∧ l.sendDigest.trust = l.trust ∧ l.sendDigest.get R.BI_STAT_PHASE = l.get R.BI_STAT_PHASE := by
  unfold Lane.sendDigest
  extract_lets anew m
  have hm : (m.onWing fun w => { w with digestSent := true, digestAt := m.now, waitOver := false }).Sound i :=
    ((hl.onWing _).onWing _).onWing _
  have near : Lane.Near (allBut [2, 73, 427, 428] ^^^ maskOf [.trust]) _ (Lane.sendDigests _) :=
    Lane.sendDigests_near (by decide +kernel) (.refl _ hm)
  exact ⟨near.place hm, near.wing.digestSent (by decide +kernel), near.wing.digestAt (by decide +kernel),
    near.mode (by decide +kernel), near.trust.eq (by decide +kernel), near.keep at_BI_STAT.1 (by decide +kernel)⟩

/-! ### PB_ABORT (R483) -/

theorem Lane.pbAbort_of_none {l : Lane} {h : Hdr} {path : Option Path} (free : l.trust.load = none) :
    l.pbAbort h path = l.answer h path ⟨0, 2⟩ [] := if_neg (by rw [free]; decide)

theorem Lane.pbAbort_of_open {l : Lane} {h : Hdr} {path : Option Path} (busy : l.trust.load ≠ none) :
    l.pbAbort h path = l.closeLoad.answer h path .ok [] := if_pos (Option.isSome_iff_ne_none.2 busy)

/-! ### The commands -/

theorem does_pbLoadBegin (e : At) (h : Hdr) (path : Option Path) (length : Nat) (digest : BitVec 384) (s : State)
    (hs : s.Runs e) : Does (.pbLoadBegin e h path length digest) s (replyParts ++ [.trust]) fun l m =>
      TurnedAway l m h path (.pbLoadBegin length digest) ∧
      (l.allows h (.pbLoadBegin length digest) → l.trust.load ≠ none → Answered l m h path (.busy 16) [] ∧
        m.trust = l.trust) ∧
      (l.allows h (.pbLoadBegin length digest) → l.trust.load = none → 2097152 < length →
        Answered l m h path (.param 1) [] ∧ m.trust = l.trust) ∧
      (l.allows h (.pbLoadBegin length digest) → l.trust.load = none → length ≤ 2097152 →
        Answered l m h path .ok [] ∧ m.trust.load = some ⟨false, h.seat, inactiveSlot l.pbSlots, length, digest, 0⟩ ∧
        m.trust.flash.pb[inactiveSlot l.pbSlots] = none ∧ activeSlot m.pbSlots = activeSlot l.pbSlots) := by
  refine does_logic hs rfl execPbLoadBegin_event rfl (by decide +kernel) fun hl => ?_
  generalize s.before (.pbLoadBegin e h path length digest) = l at hl
  refine ⟨turnedAway_perform hl rfl rfl, fun a busy => ?_, fun a free long => ?_, fun a free fits => ?_⟩ <;>
    rw [Lane.perform_of_allows rfl a]
  · rw [show l.counted.runOp h path (.pbLoadBegin length digest) = _ from Lane.loadBegin_of_open _ _ _ busy]
    exact ⟨answered_answer hl.counted rfl rfl rfl _ _ _ _, Lane.trust_answer hl.counted _ _ _ _⟩
  · rw [show l.counted.runOp h path (.pbLoadBegin length digest) = _ from Lane.loadBegin_of_long _ free long]
    exact ⟨answered_answer hl.counted rfl rfl rfl _ _ _ _, Lane.trust_answer hl.counted _ _ _ _⟩
  · rw [show l.counted.runOp h path (.pbLoadBegin length digest) = _ from Lane.loadBegin_of_fits _ free fits]
    have opened : (l.counted.openBook h.seat length digest).Sound e.lane := hl.counted.onTrust _
    have trust := Lane.trust_answer opened h path .ok []
    refine ⟨answered_answer opened rfl rfl rfl _ _ _ _, congrArg TrustState.load trust, ?_, ?_⟩
    · rw [trust]
      exact Vector.getElem_set_self (inactiveSlot l.pbSlots).isLt
    · unfold Lane.pbSlots
      rw [trust]
      exact l.activeSlot_openBook h.seat length digest

theorem does_pbLoadData (e : At) (h : Hdr) (path : Option Path) (offset count : Nat) (s : State) (hs : s.Runs e) :
    Does (.pbLoadData e h path offset count) s (replyParts ++ [.trust]) fun l m =>
      TurnedAway l m h path (.pbLoadData offset count) ∧
      (l.allows h (.pbLoadData offset count) → l.trust.load = none → Answered l m h path (.param 3) [] ∧
        m.trust = l.trust) ∧
      (∀ x, l.allows h (.pbLoadData offset count) → l.trust.load = some x → x.seat ≠ h.seat →
        Answered l m h path (.busy 16) [] ∧ m.trust = l.trust) ∧
      (∀ x, l.allows h (.pbLoadData offset count) → l.trust.load = some x → x.seat = h.seat →
        (x.firmware ≠ false ∨ offset ≠ x.written ∨ x.length < offset + count) → Answered l m h path (.param 3) [] ∧
          m.trust = l.trust) ∧
      (∀ x, l.allows h (.pbLoadData offset count) → l.trust.load = some x → x.seat = h.seat → x.firmware = false →
        offset = x.written → offset + count ≤ x.length →
        Answered l m h path .ok [] ∧ m.trust.load = some { x with written := offset + count }) := by
  refine does_logic hs rfl execPbLoadData_event rfl (by decide +kernel) fun hl => ?_
  generalize s.before (.pbLoadData e h path offset count) = l at hl
  have hc := hl.counted
  have runs : l.counted.runOp h path (.pbLoadData offset count) = l.counted.loadData h path false offset count := rfl
  refine ⟨turnedAway_perform hl rfl rfl, fun a free => ?_, fun x a running other => ?_, fun x a running own bad => ?_,
    fun x a running own kind next fits => ?_⟩ <;> rw [Lane.perform_of_allows rfl a, runs]
  · rw [Lane.loadData_of_none (l := l.counted) false offset count free]
    exact ⟨answered_answer hc rfl rfl rfl _ _ _ _, Lane.trust_answer hc _ _ _ _⟩
  · rw [Lane.loadData_of_some (l := l.counted) false offset count running, if_pos other]
    exact ⟨answered_answer hc rfl rfl rfl _ _ _ _, Lane.trust_answer hc _ _ _ _⟩
  · rw [Lane.loadData_of_some (l := l.counted) false offset count running, if_neg (not_not.2 own), if_pos bad]
    exact ⟨answered_answer hc rfl rfl rfl _ _ _ _, Lane.trust_answer hc _ _ _ _⟩
  · have fine : ¬(x.firmware ≠ false ∨ offset ≠ x.written ∨ x.length < offset + count) := by
      rintro (wrong | gap | long)
      · exact wrong kind
      · exact gap next
      · omega
    rw [Lane.loadData_of_some (l := l.counted) false offset count running, if_neg (not_not.2 own), if_neg fine]
    have written := hc.onTrust fun t => { t with load := some { x with written := offset + count } }
    exact ⟨answered_answer written rfl rfl rfl _ _ _ _, congrArg TrustState.load (Lane.trust_answer written _ _ _ _)⟩

theorem does_pbLoadEnd (e : At) (h : Hdr) (path : Option Path) (rb : Bool) (b : Book) (s : State) (hs : s.Runs e) :
    Does (.pbLoadEnd e h path rb b) s (replyParts ++ [.trust]) fun l m =>
      TurnedAway l m h path (.pbLoadEnd rb b) ∧
      (l.allows h (.pbLoadEnd rb b) → l.loadOf h false = none → Answered l m h path (.image 1) [] ∧ m.trust = l.trust) ∧
      (∀ x, l.allows h (.pbLoadEnd rb b) → l.loadOf h false = some x →
        x.written ≠ x.length ∨ x.digest ≠ b.digest ∨ rb = false →
        Answered l m h path (.image 1) [] ∧ m.trust.load = none ∧ m.trust.flash = l.trust.flash) ∧
      (∀ x c, l.allows h (.pbLoadEnd rb b) → l.loadOf h false = some x → x.written = x.length → x.digest = b.digest →
        rb = true →
        l.verifyBook b = some c → Answered l m h path (.image c) l.bookBytes ∧ m.trust.load = none ∧
          m.trust.flash = l.trust.flash) ∧
      (∀ x, l.allows h (.pbLoadEnd rb b) → l.loadOf h false = some x → x.written = x.length → x.digest = b.digest →
        rb = true →
        l.verifyBook b = none → Answered l m h path .ok m.bookBytes ∧ m.trust.load = none ∧
        m.trust.flash.pb[x.slot] = some (makeRecord (BitVec.ofNat 32 (nextWrite l.pbSlots)) x.length x.digest, b)) := by
  refine does_logic hs rfl execPbLoadEnd_event rfl (by decide +kernel) fun hl => ?_
  generalize s.before (.pbLoadEnd e h path rb b) = l at hl
  have hc := hl.counted
  have closed : l.counted.closeLoad.Sound e.lane := hc.onTrust _
  have runs : l.counted.runOp h path (.pbLoadEnd rb b) = l.counted.pbLoadEnd h path rb b := rfl
  refine ⟨turnedAway_perform hl rfl rfl, fun a none => ?_, fun x a own bad => ?_, fun x c a own whole digest rb refused => ?_,
    fun x a own whole digest rb good => ?_⟩ <;> rw [Lane.perform_of_allows rfl a, runs]
  · rw [Lane.pbLoadEnd_of_none (l := l.counted) rb b none]
    exact ⟨answered_answer hc rfl rfl rfl _ _ _ _, Lane.trust_answer hc _ _ _ _⟩
  · rw [Lane.pbLoadEnd_of_unread (l := l.counted) own bad]
    have trust := Lane.trust_answer closed h path (.image 1) []
    exact ⟨answered_answer closed rfl rfl rfl _ _ _ _, congrArg TrustState.load trust, (congrArg TrustState.flash trust :)⟩
  · rw [rb, Lane.pbLoadEnd_of_read (l := l.counted) own whole digest, show l.counted.verifyBook b = some c from refused]
    dsimp only
    have trust := Lane.trust_answer closed h path (.image c) l.counted.bookBytes
    exact ⟨answered_answer closed rfl rfl rfl _ _ _ _, congrArg TrustState.load trust, (congrArg TrustState.flash trust :)⟩
  · rw [rb, Lane.pbLoadEnd_of_read (l := l.counted) own whole digest, show l.counted.verifyBook b = none from good]
    have stored : (l.counted.storeBook x b).Sound e.lane := closed.onTrust _
    have trust := Lane.trust_answer stored h path .ok (l.counted.storeBook x b).bookBytes
    dsimp only
    refine ⟨?_, congrArg TrustState.load trust, ?_⟩
    · rw [Lane.bookBytes_of_trust trust]
      exact answered_answer stored rfl rfl rfl _ _ _ _
    · rw [trust]
      exact Vector.getElem_set_self x.slot.isLt

/-- What the keeper makes of the book of a slot: SCRIPT CHECK has it, or its status says why not (R319, R335). -/
theorem Lane.judgeBook_effects {i : LaneId} {l : Lane} (hl : l.Sound i) (k : Fin 2) (b : Book) :
    (l.judgeBook k b).Sound i ∧ (l.judgeBook k b).trust.book = l.trust.book ∧
      (l.verifyBook b = none → (l.judgeBook k b).trust.state = 2 ∧ (l.judgeBook k b).trust.checking = some b) ∧
      (∀ c, l.verifyBook b = some c → (l.judgeBook k b).trust.state = 3 ∧ (l.judgeBook k b).trust.code = c) := by
  unfold Lane.judgeBook
  cases l.verifyBook b with
  | none => exact ⟨hl.onTrust _, rfl, fun _ => ⟨rfl, rfl⟩, nofun⟩
  | some c => exact ⟨(hl.onTrust _).note _, rfl, nofun, fun d same => ⟨rfl, Option.some.inj same⟩⟩

theorem does_pbActivate (e : At) (h : Hdr) (path : Option Path) (s : State) (hs : s.Runs e) :
    Does (.pbActivate e h path) s (replyParts ++ [.reg R.LC_STATE, .reg R.BX_PCAP, .reg R.BI_STAT,
    .reg (R.DC_STAT 0), .reg (R.DC_LASTX 0), .reg (R.GD_STAT 0), .reg (R.GD_EVT 0), .reg (R.LE_STAT 0),
    .reg R.SF_KOSTAT, .log, .emit, .axUs, .axSw, .axRefresh, .axLeak, .axRecatch, .power, .wing, .call, .safety,
    .trust]) fun l m =>
      TurnedAway l m h path .pbActivate ∧
      (l.allows h .pbActivate → activeSlot l.pbSlots = none → Answered l m h path l.bookStatus l.bookBytes ∧
        m.mode = l.mode) ∧
      (∀ k x b, l.allows h .pbActivate → activeSlot l.pbSlots = some k → l.pbSlots[k] = some (x, b) →
        m.mode = .scriptCheck ∧ m.trust.book = l.trust.book ∧ m.wing.digestSent = true ∧
        (l.verifyBook b = none → m.trust.state = 2 ∧ m.trust.checking = some b) ∧
        (∀ c, l.verifyBook b = some c → m.trust.state = 3 ∧ m.trust.code = c) ∧
        ∀ n : Axis, m.flag (R.DC_CTRL_EN n) = l.flag (R.DC_CTRL_EN n)) := by
  refine does_logic hs rfl execPbActivate_event rfl (by decide +kernel) fun hl => ?_
  generalize s.before (.pbActivate e h path) = l at hl
  have hc := hl.counted
  have runs : l.counted.runOp h path .pbActivate = l.counted.pbActivate h path := rfl
  refine ⟨turnedAway_perform hl rfl rfl, fun a none => ?_, fun k x b a active holds => ?_⟩ <;>
    rw [Lane.perform_of_allows rfl a, runs]
  · rw [Lane.pbActivate_of_none (l := l.counted) none]
    refine ⟨answered_answer hc rfl rfl rfl _ _ _ _, ((Lane.near_answer hc h path _ _).mode (by decide +kernel)).trans ?_⟩
    exact congrArg Mode.ofCode (l.get_counted (by decide))
  · obtain ⟨hj, book, taken, refused⟩ := Lane.judgeBook_effects hc k b
    obtain ⟨he, mode, trust⟩ := Lane.enterCheck_effects hj
    obtain ⟨hd, sent, -, sameMode, sameTrust, -⟩ := Lane.sendDigest_effects he
    have near := Lane.near_answer hd h path .ok []
    have kept : (((l.counted.judgeBook k b).enterCheck.sendDigest).answer h path .ok []).trust =
        (l.counted.judgeBook k b).trust := ((Lane.trust_answer hd _ _ _ _).trans sameTrust).trans trust
    have whole : Lane.Near (allBut [88]) l.counted (l.counted.pbActivate h path) :=
      Lane.pbActivate_near (by decide +kernel) (.refl _ hc)
    rw [Lane.pbActivate_of_some (l := l.counted) active holds] at whole ⊢
    refine ⟨?_, ?_, ?_, ?_, ?_, fun n => ?_⟩
    · rw [near.mode (by decide +kernel), sameMode, mode]
    · rw [kept, book]
      rfl
    · rw [near.wing.digestSent (by decide +kernel), sent]
    · rw [kept]
      exact taken
    · rw [kept]
      exact refused
    · rw [Lane.flag_of_get (whole.keep (f := R.DC_CTRL_EN n) (at_DC_CTRL n.isLt).1 (by decide +kernel))]
      exact Lane.flag_of_get (l.get_counted (by revert n; decide))

theorem does_pbAbort (e : At) (h : Hdr) (path : Option Path) (s : State) (hs : s.Runs e) :
    Does (.pbAbort e h path) s (replyParts ++ [.trust]) fun l m =>
      TurnedAway l m h path .pbAbort ∧
      (l.allows h .pbAbort → l.trust.load = none → Answered l m h path ⟨0, 2⟩ [] ∧ m.trust = l.trust) ∧
      (l.allows h .pbAbort → l.trust.load ≠ none → Answered l m h path .ok [] ∧ m.trust.load = none ∧
        m.trust.flash = l.trust.flash) := by
  refine does_logic hs rfl execPbAbort_event rfl (by decide +kernel) fun hl => ?_
  generalize s.before (.pbAbort e h path) = l at hl
  have runs : l.counted.runOp h path .pbAbort = l.counted.pbAbort h path := rfl
  refine ⟨turnedAway_perform hl rfl rfl, fun a free => ?_, fun a busy => ?_⟩ <;> rw [Lane.perform_of_allows rfl a, runs]
  · rw [Lane.pbAbort_of_none (l := l.counted) free]
    exact ⟨answered_answer hl.counted rfl rfl rfl _ _ _ _, Lane.trust_answer hl.counted _ _ _ _⟩
  · rw [Lane.pbAbort_of_open (l := l.counted) busy]
    have closed : l.counted.closeLoad.Sound e.lane := hl.counted.onTrust _
    have trust := Lane.trust_answer closed h path .ok []
    exact ⟨answered_answer closed rfl rfl rfl _ _ _ _, congrArg TrustState.load trust, (congrArg TrustState.flash trust :)⟩

/-- Settles O50, command by command. -/
theorem bookOpcodes : Obligations.BookOpcodes := by
  unfold Obligations.BookOpcodes
  exact ⟨does_pbLoadBegin, does_pbLoadData, does_pbLoadEnd, does_pbActivate, does_pbAbort⟩

end Sys2Proof.Machine

/-!
PROOFS. FW_COMMIT in the ROM responder, whose answer shows MSTATE as it stands (R480).
-/

namespace Sys2Proof.Machine

/-! ### FW_COMMIT with a code of no module state in MSTATE -/

/-- A firmware image. -/
def someFirmware : FwImage := ⟨⟨[], 0⟩, true, true, 0⟩

/-- Lane A in the ROM responder with firmware on record, and 12, the code of no module state, in LC_STATE[MSTATE]. -/
def oddLane : Lane :=
  ((Lane.reset .A).put R.LC_STATE_MSTATE 12).onTrust fun t => { t with romResponder := true, fw := some someFirmware }

theorem oddLane_sound : oddLane.Sound .A := ((Lane.sound_reset .A).put R.LC_STATE_MSTATE 12).onTrust _

/-- FW_COMMIT from seat 0 to lane A. -/
def commitHdr : Hdr := ⟨0, 0, false, 0, 0x0906, 0, 1, 3, 0, 0⟩

/-- Refutes O51: the STATE that refuses FW_COMMIT where the versions of the lanes differ carries MSTATE as it stands (R480).
The clause of FW_COMMIT wants the code of `Lane.mode` there, which is 11 for every MSTATE from 11 on. A sound lane may hold
12, and the ROM responder executes FW_COMMIT in every module state (R324, R479): `oddLane` answers 12. -/
theorem not_firmwareOpcodes : ¬ Obligations.FirmwareOpcodes := by
  unfold Obligations.FirmwareOpcodes
  rintro ⟨-, -, -, -, commit⟩
  let e : At := ⟨.A, 0⟩
  let s : State := withLaneA oddLane
  let l : Lane := oddLane.advanceTo 0
  obtain ⟨t, ht, -, -, -, -, -, refuse⟩ := commit e commitHdr (some .port) s (withLaneA_runs oddLane_sound (by decide +kernel) 0)
  have next : t = s.opcode e commitHdr (some .port) .fwCommit := (Host.Outcome.next.inj ht).symm
  have allowed : l.allows commitHdr .fwCommit := by decide +kernel
  have answers : Answered l (t.lane .A) commitHdr (some .port) ⟨4, l.mode.code⟩ [] := (refuse someFirmware allowed rfl rfl).1
  obtain ⟨r, ⟨-, -, -, detail, -⟩, queued, -⟩ := answers.2 (.inl rfl)
  have wanted : r.detail = 11 := detail.trans (by decide +kernel)
  have replies : (t.lane .A).seats.replies = [r] := queued rfl (by decide)
  have given : ((s.opcode e commitHdr (some .port) .fwCommit).lane .A).seats.replies.map (·.detail) = [12] := by decide +kernel
  rw [← next, replies, List.map_singleton, wanted] at given
  exact absurd given (by decide)

end Sys2Proof.Machine

/-!
PROOFS. Confirmation, cartridge and life decisions, reruns and tasks (R338, R365, R542, R546).
-/

namespace Sys2Proof.Machine

-- one declaration at a time: each waits for the kernel, and a waiting one holds a thread and its stack
set_option Elab.async false

/-! ### CONFIRM_CHECK (R338) -/

section
variable {l : Lane} {h : Hdr} {path : Option Path} {v : Word}

theorem Lane.confirmCheck_of_load (busy : l.trust.load ≠ none) :
    l.confirmCheck h path v = l.answer h path (.busy 17) [] := if_pos (Option.isSome_iff_ne_none.2 busy)

theorem Lane.confirmCheck_of_state (free : l.trust.load = none) (odd : l.trust.state ≠ 4 ∨ l.wing.values.noneConfirmed = false) :
    l.confirmCheck h path v = l.answer h path l.bookStatus l.bookBytes :=
  (if_neg (by rw [free]; decide)).trans (if_pos (by simpa using odd))

/-- Where every lane waits for confirmation the value decides. -/
theorem Lane.confirmCheck_of_waiting {b : Book} (free : l.trust.load = none) (waits : l.trust.state = 4)
    (every : l.wing.values.noneConfirmed = true) (book : l.trust.book = some b) :
    l.confirmCheck h path v =
      if checkValue b ≠ v then (l.answer h path (.param (l.choice % 256)) l.bookBytes).nextChoice
      else l.onTrust fun t => { t with confirm := some (v, h, path) } := by
  unfold Lane.confirmCheck
  rw [if_neg (by rw [free]; decide), if_neg (by simp [waits, every]), book]
  simp

end

theorem does_confirmCheck (e : At) (h : Hdr) (path : Option Path) (v : Word) (s : State) (hs : s.Runs e) :
    Does (.confirmCheck e h path v) s (replyParts ++ [.fresh, .trust]) fun l m =>
      TurnedAway l m h path (.confirmCheck v) ∧
      (l.allows h (.confirmCheck v) → l.trust.load ≠ none → Answered l m h path (.busy 17) [] ∧ m.trust = l.trust) ∧
      (l.allows h (.confirmCheck v) → l.trust.load = none → l.trust.state ≠ 4 ∨ l.wing.values.noneConfirmed = false →
        Answered l m h path l.bookStatus l.bookBytes ∧ m.trust = l.trust) ∧
      (∀ b, l.allows h (.confirmCheck v) → l.trust.load = none → l.trust.state = 4 →
        l.wing.values.noneConfirmed = true →
        l.trust.book = some b → checkValue b = v → m.trust.confirm = some (v, h, path) ∧
          m.seats.replies = l.seats.replies) ∧
      (∀ b, l.allows h (.confirmCheck v) → l.trust.load = none → l.trust.state = 4 →
        l.wing.values.noneConfirmed = true →
        l.trust.book = some b → checkValue b ≠ v → m.trust = l.trust ∧
        ∃ d, d < 256 ∧ Answered l m h path (.param d) l.bookBytes) := by
  refine does_logic hs rfl execConfirmCheck_event rfl (by decide +kernel) fun hl => ?_
  generalize s.before (.confirmCheck e h path v) = l at hl
  have hc := hl.counted
  have runs : l.counted.runOp h path (.confirmCheck v) = l.counted.confirmCheck h path v := rfl
  refine ⟨turnedAway_perform hl rfl rfl, fun a busy => ?_, fun a free odd => ?_, fun b a free waits every book same => ?_,
    fun b a free waits every book other => ?_⟩ <;> rw [Lane.perform_of_allows rfl a, runs]
  · rw [Lane.confirmCheck_of_load (l := l.counted) busy]
    exact ⟨answered_answer hc rfl rfl rfl _ _ _ _, Lane.trust_answer hc _ _ _ _⟩
  · rw [Lane.confirmCheck_of_state (l := l.counted) free odd]
    exact ⟨answered_answer hc rfl rfl rfl _ _ _ _, Lane.trust_answer hc _ _ _ _⟩
  · rw [Lane.confirmCheck_of_waiting (l := l.counted) free waits every book, if_neg (not_not.2 same)]
    exact ⟨rfl, rfl⟩
  · rw [Lane.confirmCheck_of_waiting (l := l.counted) free waits every book, if_pos other]
    exact ⟨Lane.trust_answer hc _ _ _ _, _, Nat.mod_lt _ (by decide), answered_answer hc rfl rfl rfl _ _ _ _⟩

/-! ### CART_ACCEPT (R542) -/

theorem Lane.cart_counted (l : Lane) (n : Axis) : l.counted.cart n = l.cart n := rfl

/-- Whether an axis is trusted does not hang on the count of executions. -/
theorem Lane.axisTrusted_counted (l : Lane) (n : Axis) : l.counted.axisTrusted n = l.axisTrusted n := by
  have get (f : Fld) (other : f.addr ≠ R.HS_CNT3) : l.counted.get f = l.get f := l.get_counted other
  have peer (p : Peer) : l.counted.peerState p = l.peerState p := by
    unfold Lane.peerState
    rw [get R.WG_STAT_P1ST (by decide), get R.WG_STAT_P2ST (by decide)]
  unfold Lane.axisTrusted Lane.agreedFault Lane.votes Lane.voteOf Lane.peerLive Lane.lstate Lane.cartOk
  simp only [peer, get R.LC_STATE_LSTATE (by decide), get (R.CT_STAT_AUTH n) (by revert n; decide)]
  rfl

section
variable {l : Lane} {h : Hdr} {path : Option Path} {d : BitVec 384}

theorem Lane.cartAccept_of_axis (n : Axis) : l.cartAccept h path n d =
    if (l.cart n).running then l.onCart n fun c => { c with acceptWait := some (d, h, path) }
    else if (l.cart n).digest ≠ some d then l.answer h path (.param 7) []
    else if l.axisTrusted n then l.answer h path ⟨0, 2⟩ []
    else (l.acceptCart n d h.seat).answer h path .ok [] := dif_pos n.isLt

/-- An accepted cartridge shows ACCEPTED and its digest is on record (R542). -/
theorem Lane.acceptCart_effects {i : LaneId} (hl : l.Sound i) (n : Axis) (seat : Nat) :
    (l.acceptCart n d seat).Sound i ∧ (l.acceptCart n d seat).get (R.CT_STAT_AUTH n) = 3 ∧
      (l.acceptCart n d seat).flag (R.CT_EVT_ACCEPT n) = true ∧ (l.acceptCart n d seat).trust.flash.accepted[n] = some d := by
  have shown : (l.put (R.CT_STAT_AUTH n) 3).Sound i := hl.put _ _
  refine ⟨((shown.raise _).onTrust _).note _, ?_, Lane.flag_raise shown.wf _ (by simp) rfl,
    Vector.getElem_set_self n.isLt⟩
  show ((l.put (R.CT_STAT_AUTH n) 3).put (R.CT_EVT_ACCEPT n) 1).get (R.CT_STAT_AUTH n) = 3
  rw [Lane.get_put_of_ne _ _ ((by decide : ∀ n : Axis, (R.CT_STAT_AUTH n).addr ≠ (R.CT_EVT_ACCEPT n).addr) n),
    Lane.get_put hl.wf _ _ ((by decide : ∀ n : Axis, (R.CT_STAT_AUTH n).lo + (R.CT_STAT_AUTH n).width ≤ 32) n)]
  rfl

end

theorem does_cartAccept (e : At) (h : Hdr) (path : Option Path) (axis : Nat) (d : BitVec 384) (s : State) (hs : s.Runs e) :
    Does (.cartAccept e h path axis d) s (replyParts ++ [.reg (R.CT_STAT 0), .reg (R.CT_EVT 0), .log, .trust]) fun l m =>
      TurnedAway l m h path (.cartAccept axis d) ∧
      (l.allows h (.cartAccept axis d) → 4 ≤ axis → Answered l m h path (.param 7) [] ∧ m.trust = l.trust) ∧
      (∀ n : Axis, n.val = axis → l.allows h (.cartAccept axis d) → (l.cart n).running = true →
        (m.cart n).acceptWait = some (d, h, path)) ∧
      (∀ n : Axis, n.val = axis → l.allows h (.cartAccept axis d) → (l.cart n).running = false →
        (l.cart n).digest ≠ some d →
        Answered l m h path (.param 7) [] ∧ m.trust = l.trust) ∧
      (∀ n : Axis, n.val = axis → l.allows h (.cartAccept axis d) → (l.cart n).running = false →
        (l.cart n).digest = some d →
        l.axisTrusted n = true → Answered l m h path ⟨0, 2⟩ [] ∧ m.trust = l.trust) ∧
      (∀ n : Axis, n.val = axis → l.allows h (.cartAccept axis d) → (l.cart n).running = false →
        (l.cart n).digest = some d →
        l.axisTrusted n = false → Answered l m h path .ok [] ∧ m.get (R.CT_STAT_AUTH n) = 3 ∧
        m.flag (R.CT_EVT_ACCEPT n) = true ∧ m.trust.flash.accepted[n] = some d) := by
  refine does_logic hs rfl execCartAccept_event rfl (by decide +kernel) fun hl => ?_
  generalize s.before (.cartAccept e h path axis d) = l at hl
  have hc := hl.counted
  have runs (axis : Nat) : l.counted.runOp h path (.cartAccept axis d) = l.counted.cartAccept h path axis d := rfl
  refine ⟨turnedAway_perform hl rfl rfl, fun a none => ?_, ?_, ?_, ?_, ?_⟩
  · rw [Lane.perform_of_allows rfl a, runs, show l.counted.cartAccept h path axis d = _ from dif_neg (Nat.not_lt.2 none)]
    exact ⟨answered_answer hc rfl rfl rfl _ _ _ _, Lane.trust_answer hc _ _ _ _⟩
  all_goals
    rintro n rfl a
    rw [Lane.perform_of_allows rfl a, runs, Lane.cartAccept_of_axis n, Lane.cart_counted, Lane.axisTrusted_counted]
  · intro running
    rw [if_pos running]
    exact congrArg CartState.acceptWait (Vector.getElem_set_self n.isLt)
  · intro idle other
    rw [if_neg (Bool.eq_false_iff.1 idle), if_pos other]
    exact ⟨answered_answer hc rfl rfl rfl _ _ _ _, Lane.trust_answer hc _ _ _ _⟩
  · intro idle same trusted
    rw [if_neg (Bool.eq_false_iff.1 idle), if_neg (not_not.2 same), if_pos trusted]
    exact ⟨answered_answer hc rfl rfl rfl _ _ _ _, Lane.trust_answer hc _ _ _ _⟩
  · intro idle same new
    obtain ⟨sound, auth, event, digest⟩ := Lane.acceptCart_effects (d := d) hc n h.seat
    have near := Lane.near_answer sound h path .ok []
    rw [if_neg (Bool.eq_false_iff.1 idle), if_neg (not_not.2 same), if_neg (Bool.eq_false_iff.1 new)]
    refine ⟨answered_answer sound rfl rfl rfl _ _ _ _, (near.keep (at_CT_STAT n.isLt).1 (by decide +kernel)).trans auth, ?_, ?_⟩
    · exact near.flag (by decide +kernel) (is_CT_EVT n.isLt) rfl event
    · rw [Lane.trust_answer sound]
      exact digest

/-! ### LIFE_ACK (R546) -/

/-- An acknowledged life restricts the axis (R546). -/
theorem Lane.ackLife_effects {i : LaneId} {l : Lane} (hl : l.Sound i) (n : Axis) :
    Lane.Near (allBut (List.range' 440 19)) l (l.ackLife n) ∧ (l.ackLife n).get (R.CT_STAT_RESTR n) = 1 ∧
      ((l.ackLife n).cart n).acked = true := by
  unfold Lane.ackLife
  extract_lets k m
  have raised : (l.raise (R.CT_STAT_RESTR n)).Sound i := hl.raise _
  have hm : m.Sound i := raised.onTrust _
  have near : Lane.Near (allBut (296 :: 502 :: List.range' 440 19)) m
      (((m.scaleField (R.DC_TQLIM_RATED n) k).scaleField (R.LE_WMAX_WMAX n) k).setLimit n) :=
    Lane.setLimit_near (by decide +kernel) (Lane.scaleField_near (inReg (at_LE_WMAX n.isLt) (by decide +kernel))
      (Lane.scaleField_near (inReg (at_DC_TQLIM n.isLt) (by decide +kernel)) (.refl _ hm)))
  refine ⟨?_, ?_, ?_⟩
  · exact Lane.ackLife_near (M := allBut (List.range' 440 19)) (by decide +kernel) (.refl _ hl)
  · rw [near.keep (at_CT_STAT n.isLt).1 (by decide +kernel)]
    show (l.put (R.CT_STAT_RESTR n) 1).get _ = 1
    rw [Lane.get_put hl.wf _ _ ((by decide : ∀ n : Axis, (R.CT_STAT_RESTR n).lo + (R.CT_STAT_RESTR n).width ≤ 32) n)]
    rfl
  · have carts := near.trust.carts (by decide +kernel)
    unfold Lane.cart
    rw [carts]
    exact congrArg CartState.acked (Vector.getElem_set_self n.isLt)

theorem does_lifeAck (e : At) (h : Hdr) (path : Option Path) (axis : Nat) (s : State) (hs : s.Runs e) :
    Does (.lifeAck e h path axis) s (replyParts ++ [.reg R.BX_EVT, .reg (R.DC_TQLIM 0), .reg (R.LE_WMAX 0),
    .reg (R.CT_STAT 0), .trust]) fun l m =>
      TurnedAway l m h path (.lifeAck axis) ∧
      (l.allows h (.lifeAck axis) → 4 ≤ axis → Answered l m h path (.param 7) [] ∧ m.trust = l.trust) ∧
      (∀ n : Axis, n.val = axis → l.allows h (.lifeAck axis) → l.lifeRefused n = false →
        Answered l m h path ⟨0, 2⟩ [] ∧ m.trust = l.trust) ∧
      (∀ n : Axis, n.val = axis → l.allows h (.lifeAck axis) → l.lifeRefused n = true →
        Answered l m h path .ok [] ∧ m.get (R.CT_STAT_RESTR n) = 1 ∧ (m.cart n).acked = true) := by
  refine does_logic hs rfl execLifeAck_event rfl (by decide +kernel) fun hl => ?_
  generalize s.before (.lifeAck e h path axis) = l at hl
  have hc := hl.counted
  have runs (axis : Nat) : l.counted.runOp h path (.lifeAck axis) = l.counted.lifeAckOp h path axis := rfl
  have ofAxis (n : Axis) : l.counted.lifeAckOp h path n =
      if l.counted.lifeRefused n then (l.counted.ackLife n).answer h path .ok [] else l.counted.answer h path ⟨0, 2⟩ [] :=
    dif_pos n.isLt
  refine ⟨turnedAway_perform hl rfl rfl, fun a none => ?_, ?_, ?_⟩
  · rw [Lane.perform_of_allows rfl a, runs, show l.counted.lifeAckOp h path axis = _ from dif_neg (Nat.not_lt.2 none)]
    exact ⟨answered_answer hc rfl rfl rfl _ _ _ _, Lane.trust_answer hc _ _ _ _⟩
  · rintro n rfl a fine
    have fine : l.counted.lifeRefused n = false := fine
    rw [Lane.perform_of_allows rfl a, runs, ofAxis, if_neg (Bool.eq_false_iff.1 fine)]
    exact ⟨answered_answer hc rfl rfl rfl _ _ _ _, Lane.trust_answer hc _ _ _ _⟩
  · rintro n rfl a worn
    have worn : l.counted.lifeRefused n = true := worn
    obtain ⟨near, restricted, acked⟩ := Lane.ackLife_effects hc n
    have sound := near.place hc
    rw [Lane.perform_of_allows rfl a, runs, ofAxis, if_pos worn]
    refine ⟨answered_answer sound near.id (near.seats.replies (by decide +kernel)) (near.seats.ringReplies (by decide +kernel))
      _ _ _ _, ?_, ?_⟩
    · exact ((Lane.near_answer sound h path .ok []).keep (at_CT_STAT n.isLt).1 (by decide +kernel)).trans restricted
    · unfold Lane.cart at acked ⊢
      rwa [Lane.trust_answer sound]

/-! ### Tickets asked for by an opcode (R305, R365) -/

/-- Whether a ticket is too dear does not hang on the count of executions. -/
theorem Lane.tooDear_counted (l : Lane) (t : Ticket) : l.counted.tooDear t = l.tooDear t := by
  have get (f : Fld) (other : f.addr ≠ R.HS_CNT3) : l.counted.get f = l.get f := l.get_counted other
  have cth (n : Axis) : l.counted.get (R.BX_WMOD0_CTH n) = l.get (R.BX_WMOD0_CTH n) := get _ (by revert n; decide)
  have tmax (n : Axis) : l.counted.get (R.BX_WMOD1_TMAX n) = l.get (R.BX_WMOD1_TMAX n) := get _ (by revert n; decide)
  have warn (n : Axis) : l.counted.get (R.BX_BRKLV_WARN n) = l.get (R.BX_BRKLV_WARN n) := get _ (by revert n; decide)
  unfold Lane.tooDear Lane.opens Lane.limits Lane.costs Lane.costLD Lane.flag
  simp only [get R.GD_OVCFG_CHEN (by decide), get R.BX_STAT_SUPOPEN (by decide), get R.PW_TLIM_WARN (by decide),
    get R.BX_CFG_DIEMARG (by decide), get R.BX_RES1_EMAX (by decide), get R.BX_DIEMOD_CLD (by decide),
    get R.BX_DIEMOD_CPD (by decide), get R.PW_VCSET_TARGET (by decide), get R.BX_DIEMOD_PLD0 (by decide), cth, tmax, warn]

section
variable {i : LaneId} {l : Lane} (hl : l.Sound i) {h : Hdr} {path : Option Path} {w : Work} {c : Cost} {engine : Option Engine}
include hl

/-- A ticket that is too dear is answered PARAM 5, and none is queued (R305). -/
theorem Lane.queueAsked_of_tooDear (ok : Option (List Byte)) (dear : l.tooDear (l.requestedTicket w c engine) = true) :
    l.queueAsked h path w c engine ok = (l.numberTicket.raise R.BX_EVT_TREFUSE).answer h path (.param 5) [] := by
  have refused : l.queueTicket w c engine (some (h, path)) =
      (l.numberTicket.raise R.BX_EVT_TREFUSE).answer h path (.param 5) [] := if_pos dear
  have hr : (l.numberTicket.raise R.BX_EVT_TREFUSE).Sound i := (hl.onBox _).raise _
  have box := Lane.box_answer hr h path (.param 5) []
  unfold Lane.queueAsked
  rw [refused]
  exact if_pos (by rw [box]; rfl)

/-- The lane with a ticket queued last (R305). -/
def Lane.ticketQueued (l : Lane) (t : Ticket) : Lane :=
  (l.numberTicket.onBox fun b => { b with queued := b.queued ++ [t] }).showBox

omit hl in
/-- Any other ticket is queued, and answered OK (R305). -/
theorem Lane.queueAsked_of_fair (b : List Byte) (fair : l.tooDear (l.requestedTicket w c engine) = false) :
    l.queueAsked h path w c engine (some b) = (l.ticketQueued (l.requestedTicket w c engine)).answer h path .ok b := by
  unfold Lane.queueAsked
  rw [Lane.queueTicket_of_fair (some (h, path)) fair]
  exact if_neg (by simp [Lane.numberTicket])

/-- How a lane answers an opcode that asks for a ticket (R305, R365). -/
theorem Lane.queueAsked_effects : ∃ t : Ticket, t.work = w ∧ t.cost = c ∧
    (l.tooDear t = true → Answered l (l.counted.queueAsked h path w c engine (some [])) h path (.param 5) [] ∧
      (l.counted.queueAsked h path w c engine (some [])).flag R.BX_EVT_TREFUSE = true ∧
      (l.counted.queueAsked h path w c engine (some [])).box.queued = l.box.queued) ∧
    (l.tooDear t = false → Answered l (l.counted.queueAsked h path w c engine (some [])) h path .ok [] ∧
      (l.counted.queueAsked h path w c engine (some [])).box.queued = l.box.queued ++ [t]) := by
  have hn : l.counted.numberTicket.Sound i := hl.counted.onBox _
  refine ⟨l.requestedTicket w c engine, rfl, rfl, fun dear => ?_, fun fair => ?_⟩
  · rw [Lane.queueAsked_of_tooDear hl.counted _ ((l.tooDear_counted _).trans dear)]
    have hr := hn.raise R.BX_EVT_TREFUSE
    refine ⟨answered_answer hr rfl rfl rfl _ _ _ _, ?_, (congrArg BoxState.queued (Lane.box_answer hr h path (.param 5) []) :)⟩
    exact (Lane.near_answer hr h path (.param 5) []).flag (by decide +kernel) is_BX_EVT rfl
      (Lane.flag_raise hn.wf _ (by decide) rfl)
  · rw [Lane.queueAsked_of_fair [] ((l.tooDear_counted _).trans fair)]
    have hq : (l.counted.ticketQueued (l.requestedTicket w c engine)).Sound i :=
      (Lane.showBox_near (M := 2 ^ 20 ||| 2 ^ 25) (by decide +kernel) (.refl _ (hn.onBox _))).place (hn.onBox _)
    exact ⟨answered_answer hq rfl rfl rfl _ _ _ _, (congrArg BoxState.queued (Lane.box_answer hq h path .ok []) :)⟩

end

theorem does_rehRerun (e : At) (h : Hdr) (path : Option Path) (step : Nat) (s : State) (hs : s.Runs e) :
    Does (.rehRerun e h path step) s (replyParts ++ [.reg R.BX_STAT, .reg R.BX_EVT, .reg R.BX_DIECOM, .box]) fun l m =>
      TurnedAway l m h path (.rehRerun step) ∧
      (l.allows h (.rehRerun step) → step < 3 ∨ 9 < step → Answered l m h path (.param 7) [] ∧ m.box = l.box) ∧
      (l.allows h (.rehRerun step) → 3 ≤ step → step ≤ 9 → ∃ t : Ticket, t.work = .rerun step ∧
        t.cost = stepTicket step ∧
        (l.tooDear t = true → Answered l m h path (.param 5) [] ∧ m.flag R.BX_EVT_TREFUSE = true ∧
          m.box.queued = l.box.queued) ∧
        (l.tooDear t = false → Answered l m h path .ok [] ∧ m.box.queued = l.box.queued ++ [t])) := by
  refine does_logic hs rfl execRehRerun_event rfl (by decide +kernel) fun hl => ?_
  generalize s.before (.rehRerun e h path step) = l at hl
  have runs : l.counted.runOp h path (.rehRerun step) = if step < 3 ∨ 9 < step then l.counted.answer h path (.param 7) []
    else l.counted.queueAsked h path (.rerun step) (stepTicket step) none (some []) := rfl
  refine ⟨turnedAway_perform hl rfl rfl, fun a none => ?_, fun a low high => ?_⟩ <;> rw [Lane.perform_of_allows rfl a, runs]
  · rw [if_pos none]
    exact ⟨answered_answer hl.counted rfl rfl rfl _ _ _ _, Lane.box_answer hl.counted _ _ _ _⟩
  · rw [if_neg (by omega)]
    exact Lane.queueAsked_effects hl

theorem does_rehTask (e : At) (h : Hdr) (path : Option Path) (index : Nat) (s : State) (hs : s.Runs e) :
    Does (.rehTask e h path index) s (replyParts ++ [.reg R.BX_STAT, .reg R.BX_EVT, .reg R.BX_DIECOM, .box]) fun l m =>
      TurnedAway l m h path (.rehTask index) ∧
      (l.allows h (.rehTask index) → (((l.trust.book.bind (·.tasks)).getD [])[index]?) = none →
        Answered l m h path (.param 7) [] ∧ m.box = l.box) ∧
      (∀ x, l.allows h (.rehTask index) → (((l.trust.book.bind (·.tasks)).getD [])[index]?) = some x →
        ∃ t : Ticket, t.work = .task x.id ∧ t.cost = x.cost ∧
        (l.tooDear t = true → Answered l m h path (.param 5) [] ∧ m.flag R.BX_EVT_TREFUSE = true ∧
          m.box.queued = l.box.queued) ∧
        (l.tooDear t = false → Answered l m h path .ok [] ∧ m.box.queued = l.box.queued ++ [t])) := by
  refine does_logic hs rfl execRehTask_event rfl (by decide +kernel) fun hl => ?_
  generalize s.before (.rehTask e h path index) = l at hl
  have runs : l.counted.runOp h path (.rehTask index) =
    match ((l.trust.book.bind (·.tasks)).getD [])[index]? with
    | none => l.counted.answer h path (.param 7) []
    | some t => l.counted.queueAsked h path (.task t.id) t.cost (some t.cost.engine) (some []) := rfl
  refine ⟨turnedAway_perform hl rfl rfl, fun a none => ?_, fun x a task => ?_⟩ <;> rw [Lane.perform_of_allows rfl a, runs]
  · rw [none]
    exact ⟨answered_answer hl.counted rfl rfl rfl _ _ _ _, Lane.box_answer hl.counted _ _ _ _⟩
  · rw [task]
    exact Lane.queueAsked_effects hl

/-- Settles O52, command by command. -/
theorem decisionOpcodes : Obligations.DecisionOpcodes := by
  unfold Obligations.DecisionOpcodes
  exact ⟨does_confirmCheck, does_cartAccept, does_lifeAck, does_rehRerun, does_rehTask⟩

end Sys2Proof.Machine

/-!
PROOFS. Start of day: the keeper's start, firmware, the rehearsal steps, SCRIPT CHECK and its end (R323, R330, R344).
-/

namespace Sys2Proof.Machine

-- one declaration at a time: each waits for the kernel, and a waiting one holds a thread and its stack
set_option Elab.async false

/-! ### MEMORY_INIT_DONE: the keeper starts (R323) -/

/-- The fuses and keys that KP_STAT shows at the keeper's start (R548). -/
def Lane.showKeys (l : Lane) (u : Fuses) : Lane :=
  ((((l.putFlag R.KP_STAT_PUFOK (!u.erased)).putFlag R.KP_STAT_IDKEY (!u.erased)).putFlag R.KP_STAT_ERASED
    u.erased).showFuses).putFlag R.KP_STAT_DBGOPEN l.trust.debugOpen

/-- The tamper cause on record is shown and taken off, and an erased or opened lane stays OUT (R535, R537). -/
def Lane.showTamper (l : Lane) (u : Fuses) : Lane :=
  let m := (l.put R.KP_TAMP_COUNT (min 65535 l.trust.flash.tampers)).put R.KP_TAMP_CAUSE l.trust.flash.tamperCause
  let m := m.when (l.trust.flash.tamperCause != 0) fun k => (k.raise R.KP_EVT_TAMPER).note (.tampered k.trust.flash.tamperCause)
  (m.onTrust fun t => { t with flash := { t.flash with tamperCause := 0 } }).when (u.erased || m.trust.debugOpen)
    fun l => l.onWing fun w => { w with struck := true }

theorem Lane.keeperStart_eq (l : Lane) : l.keeperStart =
    ((((l.putBit R.LC_ENGSTAT_RUN 7 true).sendHellos).showKeys l.trust.fuses).showTamper l.trust.fuses) := rfl

/-- The keys are shown as the fuses have them, below the fields that follow (R548). -/
theorem Lane.showKeys_effects {i : LaneId} {l : Lane} (hl : l.Sound i) (u : Fuses) :
    Lane.Near (2 ^ 292 ||| 2 ^ 295) l (l.showKeys u) ∧ (l.showKeys u).flag R.KP_STAT_PUFOK = !u.erased ∧
      (l.showKeys u).flag R.KP_STAT_IDKEY = !u.erased := by
  unfold Lane.showKeys Lane.showFuses
  extract_lets v k1
  have puf : (l.putFlag R.KP_STAT_PUFOK (!u.erased)).Sound i := hl.put _ _
  have keys : ((l.putFlag R.KP_STAT_PUFOK (!u.erased)).putFlag R.KP_STAT_IDKEY (!u.erased)).Sound i := puf.put _ _
  have erased : (((l.putFlag R.KP_STAT_PUFOK (!u.erased)).putFlag R.KP_STAT_IDKEY (!u.erased)).putFlag R.KP_STAT_ERASED
    u.erased).Sound i := keys.put _ _
  have h1 : k1.Sound i := erased.put _ _
  have h2 : (k1.put R.KP_REVOKE_LMS v.revokeLms.toNat).Sound i := h1.put _ _
  have low (f : Fld) (ha : f.addr = R.KP_STAT) (hf : f.lo + f.width ≤ 2) (d : Bool) :
      ((((k1.put R.KP_REVOKE_LMS v.revokeLms.toNat).put R.KP_REVOKE_ECDSA v.revokeEcdsa.toNat).putFlag R.KP_STAT_DBGOPEN d).get
        f) =
        ((l.putFlag R.KP_STAT_PUFOK (!u.erased)).putFlag R.KP_STAT_IDKEY (!u.erased)).get f := by
    have other (k : Lane) (n : Nat) {g : Fld} (hg : g.addr = R.KP_REVOKE) : (k.put g n).get f = k.get f :=
      Lane.get_put_of_ne k n (by rw [ha, hg]; decide)
    have above {k : Lane} (hk : k.Sound i) (n : Nat) {g : Fld} (hg : g.addr = R.KP_STAT) (lo : 2 ≤ g.lo) :
        (k.put g n).get f = k.get f :=
      Lane.get_put_of_disjoint hk.wf n (ha.trans hg.symm) (by omega) (.inr (hf.trans lo))
    have c1 : k1.get f = _ := above erased (~~~v.revokeEcdsa).toNat (g := R.KP_STAT_SLOTS) rfl (by decide)
    have c2 : (k1.put R.KP_REVOKE_LMS v.revokeLms.toNat).get f = k1.get f := other k1 _ rfl
    rw [Lane.putFlag, above (h2.put _ _) _ rfl (by decide), other _ _ rfl, c2, c1]
    exact above keys _ rfl (by decide)
  refine ⟨?_, ?_, ?_⟩
  · have mine : Put R.KP_STAT (2 ^ 292 ||| 2 ^ 295) := inReg at_KP_STAT (by decide +kernel)
    have revoke : Put R.KP_REVOKE (2 ^ 292 ||| 2 ^ 295) := inReg at_KP_REVOKE (by decide +kernel)
    exact Lane.putFlag_near mine (Lane.put_near revoke (Lane.put_near revoke (Lane.put_near mine (Lane.putFlag_near mine
      (Lane.putFlag_near mine (Lane.putFlag_near mine (.refl _ hl)))))))
  · rw [Lane.flag_of_get (low R.KP_STAT_PUFOK rfl (by decide) _)]
    have apart := Lane.get_put_of_disjoint (f := R.KP_STAT_IDKEY) (g := R.KP_STAT_PUFOK) puf.wf (!u.erased).toNat rfl
      (by decide) (by decide)
    exact (Lane.flag_of_get apart).trans (Lane.flag_putFlag hl.wf _ _ (by decide) rfl)
  · rw [Lane.flag_of_get (low R.KP_STAT_IDKEY rfl (by decide) _)]
    exact Lane.flag_putFlag puf.wf _ _ (by decide) rfl

/-- Showing the tamper cause leaves every register but KP_TAMP and KP_EVT. -/
theorem Lane.get_showTamper (l : Lane) (u : Fuses) {f : Fld} (tamp : f.addr ≠ R.KP_TAMP) (evt : f.addr ≠ R.KP_EVT) :
    (l.showTamper u).get f = l.get f := by
  unfold Lane.showTamper
  extract_lets m1 m2
  have records : m2.get f = m1.get f := by
    show (m1.when _ _).get f = _
    unfold Lane.when
    split
    · exact Lane.get_raise_of_ne m1 (f := R.KP_EVT_TAMPER) evt
    · rfl
  have counts : m1.get f = l.get f := (Lane.get_put_of_ne _ _ tamp).trans (Lane.get_put_of_ne _ _ tamp)
  rw [← counts, ← records]
  unfold Lane.when
  split <;> rfl

/-- What the registers show once the keeper runs (R535, R537). -/
theorem Lane.keeperStart_effects {i : LaneId} {l : Lane} (hl : l.Sound i) :
    l.keeperStart.bit R.LC_ENGSTAT_RUN 7 = true ∧ l.keeperStart.flag R.KP_STAT_PUFOK = !l.trust.fuses.erased ∧
      l.keeperStart.flag R.KP_STAT_IDKEY = !l.trust.fuses.erased := by
  have runs : (l.putBit R.LC_ENGSTAT_RUN 7 true).Sound i := hl.put _ _
  have hellos : Lane.Near (2 ^ 324) (l.putBit R.LC_ENGSTAT_RUN 7 true) (l.putBit R.LC_ENGSTAT_RUN 7 true).sendHellos :=
    Lane.sendHellos_near (by decide +kernel) (.refl _ runs)
  obtain ⟨near, pufok, idkey⟩ := Lane.showKeys_effects (hellos.place runs) l.trust.fuses
  rw [Lane.keeperStart_eq]
  refine ⟨?_, ?_, ?_⟩
  · rw [Lane.bit_of_get (Lane.get_showTamper _ _ (by decide) (by decide)),
      Lane.bit_of_get (near.keep at_LC_ENGSTAT.1 (by decide +kernel)),
      Lane.bit_of_get (hellos.keep at_LC_ENGSTAT.1 (by decide +kernel))]
    exact Lane.bit_putBit hl.wf _ (by decide) (by decide) _
  · rw [Lane.flag_of_get (Lane.get_showTamper _ _ (by decide) (by decide)), pufok]
  · rw [Lane.flag_of_get (Lane.get_showTamper _ _ (by decide) (by decide)), idkey]

theorem does_memoryInitDone (e : At) (size : Fin 5) (s : State) (hs : s.Runs e) :
    Does (.memoryInitDone e size) s [.reg R.LC_ENGSTAT,
    .reg R.LC_MEMCFG, .block 16, .log, .emit, .wing, .trust] fun l m =>
      (l.mode ≠ .boot → m = l) ∧ (l.flag R.LC_MEMCFG_ECCON = true → m = l) ∧
      (l.mode = .boot → l.flag R.LC_MEMCFG_ECCON = false →
        m.get R.LC_MEMCFG_SIZE = size.val ∧ m.get R.LC_MEMCFG_ECCON = 1 ∧ m.bit R.LC_ENGSTAT_RUN 7 = true ∧
        m.flag R.KP_STAT_PUFOK = !l.trust.fuses.erased ∧ m.flag R.KP_STAT_IDKEY = !l.trust.fuses.erased) := by
  refine does_logic hs rfl execMemoryInitDone_event rfl (by decide +kernel) fun hl => ?_
  generalize s.before (.memoryInitDone e size) = l at hl
  refine ⟨fun other => if_neg fun now => other now.1, fun on => if_neg fun now => by simp [on] at now, fun boot fresh => ?_⟩
  have sized : (l.put R.LC_MEMCFG_SIZE size).Sound e.lane := hl.put _ _
  have trained := sized.raise R.LC_MEMCFG_ECCON
  have near : Lane.Near (allBut [4]) _ ((l.put R.LC_MEMCFG_SIZE size).raise R.LC_MEMCFG_ECCON).keeperStart :=
    Lane.keeperStart_near (by decide +kernel) (.refl _ trained)
  rw [if_pos ⟨boot, by rw [fresh]; rfl⟩]
  refine ⟨?_, ?_, Lane.keeperStart_effects trained⟩
  · rw [near.keep at_LC_MEMCFG.1 (by decide +kernel),
      Lane.get_raise_of_disjoint (f := R.LC_MEMCFG_ECCON) (g := R.LC_MEMCFG_SIZE) sized.wf rfl (by decide) (by decide),
      Lane.get_put hl.wf _ _ (by decide)]
    exact Nat.mod_eq_of_lt (size.isLt.trans (by decide))
  · rw [near.keep at_LC_MEMCFG.1 (by decide +kernel), Lane.get_raise sized.wf _ (by decide) rfl]

/-! ### FIRMWARE_VERIFIED (R323, R324) -/

/-- The bare seat table has seat 7 at the port (R533). -/
theorem Lane.get_SEAT_bareSeats {i : LaneId} {l : Lane} (hl : l.Sound i) : l.bareSeats.get R.HS_PORT_SEAT = 7 := by
  unfold Lane.bareSeats
  extract_lets l1 l2 slot key l3
  have h1 : l1.Sound i := List.foldlRecOn (motive := fun l : Lane => l.Sound i) _ _ hl
    fun (l : Lane) g _ _ => (g.setWord _ _).setWord _ _
  have h3 : l3.Sound i := ((((h1.raise _).put _ _).put _ _).setWord _ _).setWord _ _
  rw [Lane.get_put (h3.raise _).wf _ _ (by decide)]
  rfl

/-- What REHEARSAL begins with (R323). -/
theorem Lane.startRehearsal_effects {i : LaneId} {l : Lane} (hl : l.Sound i) (f : FwImage) :
    (l.startRehearsal f).mode = .rehearsal ∧ (l.startRehearsal f).get R.LC_REV_FWV = imageVersion f.envelope % 65536 ∧
      (l.startRehearsal f).get R.LC_ENGSTAT_RUN = 255 ∧ (l.startRehearsal f).trust.fw = some f := by
  unfold Lane.startRehearsal
  extract_lets l1 l2 l3 l4
  have h0 : (l.onTrust fun t => { t with fw := some f }).Sound i := hl.onTrust _
  have h1 : l1.Sound i := h0.put _ _
  have took : Lane.Near (allBut [1, 495]) l1 (l1.takeMode .rehearsal) := Lane.takeMode_near (by decide +kernel) (.refl _ h1)
  have ht : (l1.takeMode .rehearsal).Sound i := took.place h1
  have run : Lane.Near (allBut [1, 2, 495]) (l1.takeMode .rehearsal) ((l1.takeMode .rehearsal).put R.LC_ENGSTAT_RUN 255) :=
    Lane.put_near (inReg at_LC_ENGSTAT (by decide +kernel)) (.refl _ ht)
  have rest : Lane.Near (allBut [1, 2, 3, 495]) ((l1.takeMode .rehearsal).put R.LC_ENGSTAT_RUN 255)
      (([1, 3, 5, 6, 7, 8, 9].foldl (fun (l : Lane) k => l.queueStep k) l4).queueActivity .memory 8 none) := by
    refine Lane.queueActivity_near (by decide +kernel)
      (Lane.near_foldl (fun _ _ _ g => Lane.queueStep_near (by decide +kernel) g) ?_)
    refine Lane.onReh_near (.mk kp kp (not_bit (by decide +kernel)) kp kp kp kp kp kp kp kp kp
      kp kp kp kp kp kp kp kp kp kp kp kp kp) ?_
    exact Lane.bareSeats_near (by decide +kernel) (Lane.put_near (inReg at_BI_STAT (by decide +kernel))
      (Lane.put_near (inReg at_LE_LSTAT (by decide +kernel)) (Lane.sendHellos_near (by decide +kernel) (.refl _ (ht.put _ _)))))
  refine ⟨?_, ?_, ?_, ?_⟩
  · exact ((rest.mode (by decide +kernel)).trans (run.mode (by decide +kernel))).trans (Lane.mode_takeMode h1 _)
  · rw [rest.keep at_LC_REV.1 (by decide +kernel), run.keep at_LC_REV.1 (by decide +kernel),
      took.keep at_LC_REV.1 (by decide +kernel)]
    exact Lane.get_put h0.wf _ _ (by decide)
  · rw [rest.keep at_LC_ENGSTAT.1 (by decide +kernel)]
    exact Lane.get_put ht.wf _ _ (by decide)
  · rw [rest.trust.fw (by decide +kernel), run.trust.fw (by decide +kernel), took.trust.fw (by decide +kernel)]
    rfl

/-- The firmware slots left to try, the active one first (R323). -/
def Lane.untried (l : Lane) : List (Fin 2) := (slotOrder l.fwSlots).filter fun k => !l.trust.fwTried.testBit k.val

/-- The lane answers from ROM, with the bare seat table (R324). -/
def Lane.enterRom (l : Lane) : Lane := (l.onTrust fun t => { t with romResponder := true }).bareSeats

theorem Lane.enterRom_effects {i : LaneId} {l : Lane} (hl : l.Sound i) :
    l.enterRom.trust.romResponder = true ∧ l.enterRom.get R.HS_PORT_SEAT = 7 := by
  have near : Lane.Near (maskOf [.block 18]) (l.onTrust fun t => { t with romResponder := true }) l.enterRom :=
    Lane.bareSeats_near (by decide +kernel) (.refl _ (hl.onTrust _))
  exact ⟨near.trust.romResponder (by decide +kernel), Lane.get_SEAT_bareSeats (hl.onTrust _)⟩

/-- A slot counts as tried. -/
def Lane.trySlot (l : Lane) (k : Fin 2) : Lane := l.onTrust fun t => { t with fwTried := t.fwTried ||| 2 ^ k.val }

theorem Lane.verifyFirmware_of_nil {l : Lane} (none : l.untried = []) : l.verifyFirmware = l.enterRom := by
  unfold Lane.verifyFirmware
  rw [show List.filter _ _ = l.untried from rfl, none]
  rfl

theorem Lane.verifyFirmware_of_cons {l : Lane} {k : Fin 2} {r : List (Fin 2)} {x : Nat} {f : FwImage} (next : l.untried = k :: r)
    (holds : l.fwSlots[k] = some (x, f)) : l.verifyFirmware =
      if l.firmwareOk f then (l.trySlot k).startRehearsal f
      else if r.isEmpty then (l.trySlot k).enterRom else l.trySlot k := by
  unfold Lane.verifyFirmware
  rw [show List.filter _ _ = l.untried from rfl, next]
  show (match (l.trySlot k).fwSlots[k] with | some (_, f) => _ | none => _ : Lane) = _
  rw [show (l.trySlot k).fwSlots[k] = some (x, f) from holds]
  rfl

theorem does_firmwareVerified (e : At) (s : State) (hs : s.Runs e) : Does (.firmwareVerified e) s [.reg R.LC_REV, .reg R.LC_STATE,
    .reg R.LC_ENGSTAT, .reg R.BX_STAT, .reg R.BX_EVT, .reg R.BX_PCAP, .reg R.BX_DIECOM, .reg R.BI_STAT,
    .reg R.LE_LSTAT, .reg (R.CN_BCTL 0 0), .reg (R.CN_BDAT 0 0 0), .block 18, .emit, .power, .wing, .seats, .call,
    .modeState, .trust, .reh, .box] fun l m =>
      (l.mode ≠ .boot → m = l) ∧ (l.heldInBoot = true → m = l) ∧ (l.trust.romResponder = true → m = l) ∧
      (l.flag R.LC_MEMCFG_ECCON = false → m = l) ∧
      (l.mode = .boot → l.flag R.LC_MEMCFG_ECCON = true → l.heldInBoot = false → l.trust.romResponder = false →
        ((slotOrder l.fwSlots).filter (fun k => !l.trust.fwTried.testBit k.val) = [] →
          m.trust.romResponder = true ∧ m.get R.HS_PORT_SEAT = 7) ∧
        (∀ k r x f, (slotOrder l.fwSlots).filter (fun k => !l.trust.fwTried.testBit k.val) = k :: r →
          l.fwSlots[k] = some (x, f) →
          (l.firmwareOk f = true → m.mode = .rehearsal ∧ m.get R.LC_REV_FWV = imageVersion f.envelope % 65536 ∧
            m.get R.LC_ENGSTAT_RUN = 255 ∧ m.trust.fw = some f) ∧
          (l.firmwareOk f = false → r = [] → m.trust.romResponder = true ∧ m.get R.HS_PORT_SEAT = 7) ∧
          (l.firmwareOk f = false → r ≠ [] → m.mode = .boot ∧ m.trust.fwTried.testBit k.val = true ∧
            m.regs = l.regs))) := by
  refine does_logic hs rfl execFirmwareVerified_event rfl (by decide +kernel) fun hl => ?_
  generalize s.before (.firmwareVerified e) = l at hl
  refine ⟨fun other => if_neg fun now => other now.1, fun held => if_neg fun now => by simp [held] at now,
    fun rom => if_neg fun now => by simp [rom] at now, fun off => if_neg fun now => by simp [off] at now,
    fun boot on free firm => ?_⟩
  rw [if_pos ⟨boot, on, by rw [free]; rfl, by rw [firm]; rfl⟩]
  refine ⟨fun none => ?_, fun k r x f next holds => ⟨fun good => ?_, fun bad last => ?_, fun bad more => ?_⟩⟩
  · rw [Lane.verifyFirmware_of_nil none]
    exact Lane.enterRom_effects hl
  · rw [Lane.verifyFirmware_of_cons next holds, if_pos good]
    exact Lane.startRehearsal_effects (hl.onTrust _) f
  · rw [Lane.verifyFirmware_of_cons next holds, if_neg (Bool.eq_false_iff.1 bad), if_pos (by rw [last]; rfl)]
    exact Lane.enterRom_effects (hl.onTrust _)
  · rw [Lane.verifyFirmware_of_cons next holds, if_neg (Bool.eq_false_iff.1 bad), if_neg (by simpa using more)]
    refine ⟨boot, ?_, rfl⟩
    show (l.trust.fwTried ||| 2 ^ k.val).testBit k.val = true
    rw [Nat.testBit_or, Nat.testBit_two_pow_self, Bool.or_true]

/-! ### REHEARSAL_STEP_DONE (R344, R365) -/

/-- A completed step is marked, and shown where it failed (R344). -/
theorem Lane.endStep_effects {i : LaneId} {l : Lane} (hl : l.Sound i) (k : Nat) (r : StepResult) :
    (l.endStep k r).reh.done = l.reh.done ||| 2 ^ k ∧
      (l.endStep k r).reh.failed = l.reh.failed ||| (if l.stepFailed r k then 2 ^ k else 0) ∧
      (l.stepFailed r k = true → (l.endStep k r).flag R.BI_EVT_SODFAIL = true) := by
  unfold Lane.endStep
  extract_lets bad l1 l2 l3 l4 l5
  have h1 : l1.Sound i := hl.onReh _
  have n2 : Lane.Near (allBut [503, 504]) l1 l2 :=
    Lane.near_ite (Lane.readBook_near (by decide +kernel) (.refl _ h1)) (Lane.stepResult_near (by decide +kernel) (.refl _ h1))
  have h2 : l2.Sound i := n2.place h1
  have n3 : Lane.Near (allBut [503, 504]) l1 l3 := Lane.note_near (by decide +kernel)
    (Lane.when_near n2 fun _ g => Lane.raise_near (inEvt ev_BI_EVT (by decide +kernel)) rfl g)
  have rest : Lane.Near (allBut [322, 503, 504]) l3 (if l5.reh.done = 0x3FE then
      (l5.put R.BI_SODT_TIME (min 65535 ((l5.now - l5.reh.since) / 400000))).put R.BI_SODT_PEAK (min 65535 l5.reh.peak)
      else l5) := by
    have n5 : Lane.Near (allBut [322, 503, 504]) l3 l5 := by
      have h3 : Lane.Near (allBut [322, 503, 504]) l3 l3 := .refl _ (n3.place h1)
      exact Lane.showStep_near (by decide +kernel) (Lane.endWork_near (by decide +kernel)
        (Lane.near_ite (Lane.queueStep_near (by decide +kernel) h3)
          (Lane.near_ite (Lane.queueStep_near (by decide +kernel) h3) h3)))
    exact Lane.near_ite (Lane.put_near (inReg at_BI_SODT (by decide +kernel))
      (Lane.put_near (inReg at_BI_SODT (by decide +kernel)) n5)) n5
  refine ⟨?_, ?_, fun failed => ?_⟩
  · rw [rest.reh.done (by decide +kernel), n3.reh.done (by decide +kernel)]
    rfl
  · rw [rest.reh.failed (by decide +kernel), n3.reh.failed (by decide +kernel)]
    rfl
  · refine rest.flag (by decide +kernel) is_BI_EVT rfl ?_
    have raised : l3.flag R.BI_EVT_SODFAIL = (l2.raise R.BI_EVT_SODFAIL).flag R.BI_EVT_SODFAIL := by
      show ((l2.when bad _).flag _) = _
      rw [show bad = true from failed]
      rfl
    rw [raised]
    exact Lane.flag_raise h2.wf _ (by decide) rfl

/-- A rerun marks no step (R365). -/
theorem Lane.done_endRerun {i : LaneId} {l : Lane} (hl : l.Sound i) (k : Nat) (r : StepResult) :
    (l.endRerun k r).reh.done = l.reh.done :=
  (Lane.endRerun_near (M := allBut [503]) (by decide +kernel) (.refl _ hl)).reh.done (by decide +kernel)

theorem does_rehearsalStepDone (e : At) (step : Fin 10) (r : StepResult) (s : State) (hs : s.Runs e) :
    Does (.rehearsalStepDone e step r) s (setOutParts ++
    [.reg R.LC_ENGSTAT, .reg R.BX_STAT, .reg R.BX_EVT, .reg R.BX_DIECOM, .reg R.BX_TICK, .reg (R.BX_BRKLV 0),
    .reg R.TV_STAT, .reg R.WG_CMD, .reg R.WG_CMDEXP, .reg R.WG_RESYNC, .block 5, .reg (R.GD_FAULT 0),
    .reg (R.GD_LKCTL 0), .reg R.LE_LSTAT, .reg R.LE_LEVT, .log, .trust, .box]) fun l m =>
      (l.runningFor (.step step) = none → l.runningFor (.rerun step) = none → m = l) ∧
      (l.mode = .rehearsal → (l.runningFor (.step step)).isSome = true →
        m.reh.done = l.reh.done ||| 2 ^ step.val ∧
        m.reh.failed = l.reh.failed ||| (if l.stepFailed r step then 2 ^ step.val else 0) ∧
        (l.stepFailed r step = true → m.flag R.BI_EVT_SODFAIL = true)) ∧
      (l.mode ≠ .rehearsal → (l.runningFor (.rerun step)).isSome = true →
        m.reh.done = l.reh.done ∧ m = (((l.stepResult step r).note (.stepDone step true (l.stepFailed r
          step))).endWork (.rerun step)).showStep) := by
  refine does_logic hs rfl execRehearsalStepDone_event rfl (by decide +kernel) fun hl => ?_
  generalize s.before (.rehearsalStepDone e step r) = l at hl
  refine ⟨fun noStep noRerun => ?_, fun inside running => ?_, fun outside running => ?_⟩
  · rw [if_neg (by simp [noStep]), if_neg (by simp [noRerun])]
  · rw [if_pos ⟨inside, running⟩]
    exact Lane.endStep_effects hl step r
  · rw [if_neg (fun now => outside now.1), if_pos running]
    exact ⟨Lane.done_endRerun hl step r, rfl⟩

/-! ### SCRIPT_CHECK (R323 step 5) -/

theorem does_scriptCheck (e : At) (s : State) (hs : s.Runs e) : Does (.scriptCheck e) s [.reg R.LC_STATE, .reg R.BX_PCAP, .reg R.TV_STAT,
    .reg R.BI_STAT, .emit, .power, .wing, .call, .modeState, .trio] fun l m =>
      (l.mode ≠ .rehearsal → m = l) ∧ (l.reh.done ≠ 0x3FE → m = l) ∧ (l.wing.struck = true → m = l) ∧
      (l.mode = .rehearsal → l.reh.done = 0x3FE → l.wing.struck = false →
        m.mode = .scriptCheck ∧ m.wing.digestSent = true ∧ m.wing.digestAt = l.now ∧ m.get R.BI_STAT_PHASE = 2) := by
  refine does_logic hs rfl execScriptCheck_event rfl (by decide +kernel) fun hl => ?_
  generalize s.before (.scriptCheck e) = l at hl
  refine ⟨fun other => if_neg fun now => other now.1, fun open_ => if_neg fun now => open_ now.2.1,
    fun struck => if_neg fun now => by simp [struck] at now, fun inside whole free => ?_⟩
  rw [if_pos ⟨inside, whole, by rw [free]; rfl⟩]
  have took : Lane.Near (allBut []) l (l.takeMode .scriptCheck) := Lane.takeMode_near (by decide +kernel) (.refl _ hl)
  have ht := took.place hl
  have hp : ((l.takeMode .scriptCheck).put R.BI_STAT_PHASE 2).Sound e.lane := ht.put _ _
  have hd : (((l.takeMode .scriptCheck).put R.BI_STAT_PHASE 2).drop R.BI_STAT_STEP).Sound e.lane := hp.put _ _
  have entered : Lane.Near (allBut [2]) (l.takeMode .scriptCheck)
      (((l.takeMode .scriptCheck).put R.BI_STAT_PHASE 2).drop R.BI_STAT_STEP).startTrio :=
    Lane.startTrio_near (by decide +kernel) (Lane.drop_near (inReg at_BI_STAT (by decide +kernel))
      (Lane.put_near (inReg at_BI_STAT (by decide +kernel)) (.refl _ ht)))
  have trio : Lane.Near (allBut [73]) (((l.takeMode .scriptCheck).put R.BI_STAT_PHASE 2).drop R.BI_STAT_STEP)
      (((l.takeMode .scriptCheck).put R.BI_STAT_PHASE 2).drop R.BI_STAT_STEP).startTrio :=
    Lane.startTrio_near (by decide +kernel) (.refl _ hd)
  obtain ⟨-, sent, at_, mode, -, phase⟩ := Lane.sendDigest_effects (entered.place ht)
  refine ⟨?_, sent, at_.trans (entered.now.trans took.now), ?_⟩
  · exact (mode.trans (entered.mode (by decide +kernel))).trans (Lane.mode_takeMode hl _)
  · rw [phase, trio.keep at_BI_STAT.1 (by decide +kernel), Lane.drop,
      Lane.get_put_of_disjoint (f := R.BI_STAT_STEP) (g := R.BI_STAT_PHASE) hp.wf _ rfl (by decide) (by decide)]
    exact Lane.get_put ht.wf _ _ (by decide)

/-! ### SCRIPT_CHECK_DONE (R330) -/

/-- Comparing digests leaves the record of trust where the book is refused (R330). -/
theorem Lane.trust_compareDigests_of_refused {l : Lane} (refused : l.trust.state = 3) : l.compareDigests.trust = l.trust := by
  unfold Lane.compareDigests
  split
  · rfl
  · extract_lets own peers dig fw l1 l2
    have same : l1.trust = l.trust := by
      show ((l.when dig _).when fw _).trust = _
      cases dig <;> cases fw <;> rfl
    rw [if_neg (by show ¬(l1.trust.state = 4 ∨ l1.trust.state = 5 ∨ l1.trust.state = 6 ∨ l1.trust.state = 7)
                   rw [same, refused]; decide)]
    exact same

theorem Lane.endScriptCheck_of_none {l : Lane} (none : l.trust.checking = none) :
    l.endScriptCheck = l.compareDigests.propose .hold := by
  unfold Lane.endScriptCheck
  rw [none]

section
variable {l : Lane} {b : Book} (checking : l.trust.checking = some b)
include checking

theorem Lane.endScriptCheck_of_refused {c : BookFault} (bad : l.checkBook b = some c) :
    l.endScriptCheck = (l.refuseBook c).compareDigests.propose .hold := by
  unfold Lane.endScriptCheck
  rw [checking]
  simp only [bad]

theorem Lane.endScriptCheck_of_good (good : l.checkBook b = none) : l.endScriptCheck =
    if !l.awaitsPartner b then ((l.onTrust fun t => { t with awaiting := false }).acceptBook b).compareDigests.propose .hold
    else if l.wing.waitOver then
      (((l.onTrust fun t => { t with awaiting := false }).refuseBook
        (8, (Config.bookFault 27 0).1, (Config.bookFault 27 0).2)).compareDigests).propose .hold
    else l.onTrust fun t => { t with awaiting := true } := by
  unfold Lane.endScriptCheck
  rw [checking]
  simp only [good]

end

/-- A book that comes into force is the book in force; the book under check stays (R323). -/
theorem Lane.installBook_effects {i : LaneId} {l : Lane} (hl : l.Sound i) (b : Book) :
    (l.installBook b).trust.book = some b ∧ (l.installBook b).trust.checking = l.trust.checking := by
  refine ⟨?_, (Lane.installBook_near (M := allBut [486]) (by decide +kernel) (.refl _ hl)).trust.checking (by decide +kernel)⟩
  unfold Lane.installBook
  extract_lets first old l1 l2 l3 l4 l5 differs
  have h1 : l1.Sound i := by
    refine (Lane.writeBook_near (M := allBut []) (by decide +kernel) ?_).place hl
    split
    · exact Lane.clearBook_near (by decide +kernel) (.refl _ hl)
    · exact .refl _ hl
  have near : Lane.Near (allBut [487]) l2 ((List.finRange 8).foldl (fun l s => if differs l s then l.endSession s else l) l5) := by
    refine Lane.near_foldl (fun _ _ _ g => Lane.near_ite (Lane.endSession_near (by decide +kernel) g) g) ?_
    refine Lane.allAxes_near ?_ fun _ _ g => Lane.negotiate_near (by decide +kernel) (Lane.markUnav_near (by decide +kernel) g)
    refine Lane.markMax_near (by decide +kernel) (Lane.moveCore_near (by decide +kernel) ?_)
    exact Lane.loadDictionary_near (by decide +kernel)
      (Lane.when_near (.refl _ (h1.onTrust _)) fun _ g => Lane.startWindings_near (by decide +kernel) g)
  exact near.trust.book (by decide +kernel)

/-- An accepted book comes into force at the first start, and waits for the agreed HOLD after that (R342). -/
theorem Lane.acceptBook_effects {i : LaneId} {l : Lane} (hl : l.Sound i) (b : Book) :
    (l.acceptBook b).Sound i ∧ (l.acceptBook b).trust.checking = none ∧
      (l.trust.book = none → (l.acceptBook b).trust.book = some b) ∧
      (l.trust.book ≠ none → (l.acceptBook b).trust.nextBook = some b) := by
  have hm : (l.onTrust fun t => { t with checking := none, state := l.acceptedState b }).Sound i := hl.onTrust _
  obtain ⟨book, checking⟩ := Lane.installBook_effects hm b
  have first : l.trust.book = none → l.acceptBook b =
      (l.onTrust fun t => { t with checking := none, state := l.acceptedState b }).installBook b := fun none =>
    if_pos (by simp [none])
  have later : l.trust.book ≠ none → l.acceptBook b =
      (l.onTrust fun t => { t with checking := none, state := l.acceptedState b }).onTrust fun t =>
        { t with nextBook := some b } := fun some => if_neg (by simpa [Option.isNone_iff_eq_none] using some)
  refine ⟨(Lane.acceptBook_near (M := allBut []) (by decide +kernel) (.refl _ hl)).place hl, ?_, fun none => ?_, fun some => ?_⟩
  · by_cases none : l.trust.book = none
    · rw [first none, checking]
      rfl
    · rw [later none]
      rfl
  · rw [first none, book]
  · rw [later some]
    rfl

theorem does_scriptCheckDone (e : At) (s : State) (hs : s.Runs e) : Does (.scriptCheckDone e) s (setOutParts ++
    [.reg R.LC_ID, .reg R.LC_REV, .reg R.LC_ENGSTAT, .reg R.LC_MEMCFG, .reg R.LC_SERIAL_LO, .reg R.LC_SERIAL_HI,
    .block 1, .block 2, .block 3, .block 4, .block 5, .block 6, .block 7, .block 8, .block 9, .block 10, .block 11,
    .block 12, .block 13, .block 14, .block 15, .block 16, .block 17, .clears, .log, .axFb, .trust, .box,
    .dict]) fun l m =>
      (l.mode ≠ .scriptCheck → m = l) ∧ (l.wing.proposed = 4 → m = l) ∧
      (l.mode = .scriptCheck → l.wing.proposed ≠ 4 →
        (l.trust.checking = none → m.wing.proposed = 4) ∧
        (∀ b c, l.trust.checking = some b → l.checkBook b = some c →
          m.wing.proposed = 4 ∧ m.trust.state = 3 ∧ m.trust.code = c.1 ∧ m.trust.checking = none) ∧
        (∀ b, l.trust.checking = some b → l.checkBook b = none → l.awaitsPartner b = false →
          m.wing.proposed = 4 ∧ m.trust.checking = none ∧ (l.trust.book = none → m.trust.book = some b) ∧
          (l.trust.book ≠ none → m.trust.nextBook = some b)) ∧
        (∀ b, l.trust.checking = some b → l.checkBook b = none → l.awaitsPartner b = true → l.wing.waitOver = true →
          m.wing.proposed = 4 ∧ m.trust.state = 3 ∧ m.trust.code = 8) ∧
        (∀ b, l.trust.checking = some b → l.checkBook b = none → l.awaitsPartner b = true → l.wing.waitOver = false →
          m.trust.awaiting = true ∧ m.regs = l.regs)) := by
  refine does_logic hs rfl execScriptCheckDone_event rfl (by decide +kernel) fun hl => ?_
  generalize s.before (.scriptCheckDone e) = l at hl
  refine ⟨fun other => if_neg fun now => other now.1, fun done => if_neg fun now => now.2 done, fun inside open_ => ?_⟩
  rw [if_pos ⟨inside, open_⟩]
  refine ⟨fun none => ?_, fun b c checking bad => ?_, fun b checking good whole => ?_, fun b checking good waits late => ?_,
    fun b checking good waits more => ?_⟩
  · rw [Lane.endScriptCheck_of_none none]
    rfl
  · rw [Lane.endScriptCheck_of_refused checking bad]
    show _ ∧ (l.refuseBook c).compareDigests.trust.state = 3 ∧ _ ∧ (l.refuseBook c).compareDigests.trust.checking = none
    rw [Lane.trust_compareDigests_of_refused (l := l.refuseBook c) rfl]
    exact ⟨rfl, rfl, congrArg TrustState.code (Lane.trust_compareDigests_of_refused (l := l.refuseBook c) rfl), rfl⟩
  · rw [Lane.endScriptCheck_of_good checking good, if_pos (by rw [whole]; rfl)]
    obtain ⟨sound, settled, first, later⟩ :=
      Lane.acceptBook_effects (hl.onTrust fun t => { t with awaiting := false }) b
    have near := Lane.compareDigests_near (M := allBut [486, 487, 489]) (by decide +kernel) (.refl _ sound)
    refine ⟨rfl, (near.trust.checking (by decide +kernel)).trans settled, fun none => ?_, fun some => ?_⟩
    · exact (near.trust.book (by decide +kernel)).trans (first none)
    · exact (near.trust.nextBook (by decide +kernel)).trans (later some)
  · rw [Lane.endScriptCheck_of_good checking good, if_neg (by rw [waits]; decide), if_pos late]
    have trust := Lane.trust_compareDigests_of_refused (l := (l.onTrust fun t => { t with awaiting := false }).refuseBook
      (8, (Config.bookFault 27 0).1, (Config.bookFault 27 0).2)) rfl
    exact ⟨rfl, congrArg TrustState.state trust, congrArg TrustState.code trust⟩
  · rw [Lane.endScriptCheck_of_good checking good, if_neg (by rw [waits]; decide), if_neg (Bool.eq_false_iff.1 more)]
    exact ⟨rfl, rfl⟩

/-- Settles O37, command by command. -/
theorem startOfDay : Obligations.StartOfDay := by
  unfold Obligations.StartOfDay
  exact ⟨does_memoryInitDone, does_firmwareVerified, does_rehearsalStepDone, does_scriptCheck, does_scriptCheckDone⟩

end Sys2Proof.Machine

/-!
PROOFS. MARCH_DONE, which takes a lane with 15 usable banks OUT, changes WG_CMDEXP.
-/

namespace Sys2Proof.Machine

-- one declaration at a time: each waits for the kernel, and a waiting one holds a thread and its stack
set_option Elab.async false

/-! ### A march that leaves too few banks (R354)

Up to the moment the lane goes OUT, the end of a march keeps WG_CMDEXP (bit 69 of a mask), the waiting commands (bit 401) and
the running tickets (bit 544); up to the moment it marks its bank, BI_UNUS (bit 75) as well. -/

/-- A mask that lets the record of rehearsal change lets it become any other. -/
theorem RehState.near_of_reh {M : Nat} (m : sub (Part.mask .reh) M = true) (x y : RehState) : RehState.Near M x y := by
  constructor
  all_goals exact not_bit (tb m (by decide +kernel))

/-- A lane with 15 usable banks or fewer goes OUT. -/
theorem Lane.bankCount_of_few {i : LaneId} {l : Lane} (hl : l.Sound i) (few : 17 - ones 17 (l.get R.BI_UNUS_BANK) ≤ 15) :
    ∃ m, l.bankCount = m.laneOut ∧ Lane.Near (allBut [69, 401, 544]) l m := by
  delta Lane.bankCount
  extract_lets bad usable mapped stopped
  have missing : usable ≠ 17 := fun all => absurd (all ▸ few : 17 ≤ 15) (by decide)
  exact ⟨stopped, (if_neg missing).trans (if_pos few), Lane.raise_near (inReg at_BI_STAT (by decide +kernel)).1 rfl
    (Lane.onReh_near (RehState.near_of_reh (by decide +kernel) _ _) (.refl _ hl))⟩

/-- Showing and logging what became unusable leaves the marks of the banks as they were set. -/
theorem Lane.get_UNUS_marking (l : Lane) (f : Lane → Lane) :
    (l.marking f).get R.BI_UNUS_BANK = (f l).get R.BI_UNUS_BANK := by
  unfold Lane.marking
  extract_lets m
  split
  · rfl
  · exact Lane.get_raise_of_ne m (by decide)

/-- A march with failing bits marks its bank unusable; where that leaves 15 usable banks or fewer the lane goes OUT. -/
theorem Lane.marchFails_of_few {i : LaneId} {l : Lane} (hl : l.Sound i) {b : Nat} (hb : b < 17)
    (bits : List (Fin 2048 × Fin 32 × Fin 39)) (few : 17 - ones 17 (l.get R.BI_UNUS_BANK ||| 2 ^ b) ≤ 15) :
    ∃ m, l.marchFails b bits = m.laneOut ∧ Lane.Near (allBut [69, 401, 544]) l m := by
  delta Lane.marchFails
  extract_lets shown rows listed spare
  have kept : Lane.Near (allBut [69, 75, 401, 544]) l spare :=
    Lane.onReh_near (RehState.near_of_reh (by decide +kernel) _ _)
      (Lane.addRows_near (by decide +kernel) (Lane.addTo_near (inReg at_BI_MEMCNT (by decide +kernel))
        (Lane.raise_near (inEvt ev_BI_EVT (by decide +kernel)) rfl
          (Lane.near_foldl (fun _ _ _ g => Lane.showMemory_near (by decide +kernel) g) (.refl _ hl)))))
  have marked : Lane.Near (allBut [69, 401, 544]) l (spare.marking fun l => l.putBit R.BI_UNUS_BANK b true) :=
    Lane.marking_near (by decide +kernel) (kept.mono (by decide +kernel)) fun _ g =>
      Lane.putBit_near (inReg at_BI_UNUS (by decide +kernel)) g
  have bad : (spare.marking fun l => l.putBit R.BI_UNUS_BANK b true).get R.BI_UNUS_BANK =
      l.get R.BI_UNUS_BANK ||| 2 ^ b := by
    have room : l.get R.BI_UNUS_BANK ||| 2 ^ b < 2 ^ 17 :=
      Nat.or_lt_two_pow (l.get_lt R.BI_UNUS_BANK) (Nat.pow_lt_pow_right (by decide) hb)
    calc (spare.marking fun l => l.putBit R.BI_UNUS_BANK b true).get R.BI_UNUS_BANK
        = (spare.put R.BI_UNUS_BANK (spare.get R.BI_UNUS_BANK ||| 2 ^ b)).get R.BI_UNUS_BANK := spare.get_UNUS_marking _
      _ = (spare.get R.BI_UNUS_BANK ||| 2 ^ b) % 2 ^ 17 := Lane.get_put (kept.place hl).wf _ _ (by decide)
      _ = (l.get R.BI_UNUS_BANK ||| 2 ^ b) % 2 ^ 17 := by rw [kept.keep at_BI_UNUS.1 (by decide +kernel)]
      _ = l.get R.BI_UNUS_BANK ||| 2 ^ b := Nat.mod_eq_of_lt room
  obtain ⟨m, out, near⟩ := Lane.bankCount_of_few (marked.place hl) (bad ▸ few)
  exact ⟨m, out, marked.trans near⟩

/-- The end of work that no running ticket stands for changes nothing. -/
theorem Lane.endWork_of_none {l : Lane} {w : Work} (idle : l.runningFor w = none) : l.endWork w = l := by
  unfold Lane.endWork
  rw [idle]

/-- Where the running tickets stay, each piece of work keeps its ticket. -/
theorem Lane.Near.runningFor {M : Nat} {a b : Lane} (h : Lane.Near M a b) (m : M.testBit 544 = false) (w : Work) :
    b.runningFor w = a.runningFor w := by
  unfold Lane.runningFor
  rw [h.box.running m]

/-- Going OUT leaves the running tickets as they are. -/
theorem Lane.runningFor_laneOut {i : LaneId} {l : Lane} (hl : l.Sound i) (w : Work) :
    l.laneOut.runningFor w = l.runningFor w :=
  (Lane.laneOut_near (M := allBut [544]) (by decide +kernel) (.refl _ hl)).runningFor (by decide +kernel) w

/-- A march with failing bits ends, under no ticket, and leaves 15 usable banks or fewer: the lane goes OUT. -/
theorem Lane.endMarch_of_few {i : LaneId} {l : Lane} (hl : l.Sound i) {b : Nat} (hb : b < 17)
    {bits : List (Fin 2048 × Fin 32 × Fin 39)} (bad : bits ≠ [])
    (few : 17 - ones 17 (l.get R.BI_UNUS_BANK ||| 2 ^ b) ≤ 15) (idle : l.runningFor (.rotation .bank) = none) :
    ∃ m, l.endMarch b bits = m.laneOut ∧ Lane.Near (allBut [69, 401, 544]) l m := by
  delta Lane.endMarch
  extract_lets isolated turned swept
  have start : Lane.Near (allBut [69, 75, 401, 544]) l swept :=
    Lane.when_near (Lane.put_near (inReg at_BI_ROTPOS (by decide +kernel))
      (Lane.onReh_near (RehState.near_of_reh (by decide +kernel) _ _) (.refl _ hl)))
      fun _ g => Lane.bump_near (inReg at_BI_ROTPOS (by decide +kernel)) g
  have unus : swept.get R.BI_UNUS_BANK = l.get R.BI_UNUS_BANK := start.keep at_BI_UNUS.1 (by decide +kernel)
  obtain ⟨m, out, failed⟩ := Lane.marchFails_of_few (start.place hl) hb bits (unus.symm ▸ few)
  have near : Lane.Near (allBut [69, 401, 544]) l m := (start.mono (by decide +kernel)).trans failed
  have still : m.laneOut.runningFor (.rotation .bank) = none :=
    (Lane.runningFor_laneOut (near.place hl) _).trans ((near.runningFor (by decide +kernel) _).trans idle)
  rw [if_neg (by simpa using bad), out]
  exact ⟨m, Lane.endWork_of_none still, near⟩

/-! ### MARCH_DONE in a lane with a waiting command -/

/-- Lane A with one command waiting. Bank 1 of its stage memory is unusable, and bank 0 is isolated for its march. -/
def marchLane : Lane :=
  (waitingLane.put R.BI_UNUS_BANK 2).onReh fun r => { r with bank := some ⟨0, true⟩ }

/-- Refutes O38: a march of bank 0 with a failing bit leaves 15 usable banks and takes the lane OUT (R354), which counts the
command waiting in it in WG_CMDEXP (R266); that register is none of the parts the clause of MARCH_DONE lists. -/
theorem not_serviceRehearsal : ¬ Obligations.ServiceRehearsal := by
  unfold Obligations.ServiceRehearsal
  rintro ⟨-, -, march, -⟩
  have sound : marchLane.Sound .A := (waitingLane_sound.put _ _).onReh _
  let bits : List (Fin 2048 × Fin 32 × Fin 39) := [(0, 0, 0)]
  let c : Instr := .marchDone ⟨.A, 0⟩ bits
  let l : Lane := marchLane.advanceTo 0
  obtain ⟨m, out, near⟩ : ∃ m, l.endMarch 0 bits = m.laneOut ∧ Lane.Near (allBut [69, 401, 544]) l m :=
    Lane.endMarch_of_few (sound.advanceTo 0) (by decide) (List.cons_ne_nil _ _) (by decide +kernel) rfl
  exact not_does_of_waiting_laneA (c := c) sound rfl rfl rfl out (near.mono (by decide +kernel)) (by decide +kernel)
    (List.cons_ne_nil _ _) (by decide +kernel) (march ⟨.A, 0⟩ bits _ (withLaneA_runs sound rfl 0))

end Sys2Proof.Machine

/-!
PROOFS. A step runs the front of the queue and touches one lane alone; which opcodes a lane refuses for its state (R479,
R480, R558); what the callboard presents (R501, R502); what the output balls show (R569).
-/

namespace Sys2Proof.Machine

-- one declaration at a time: each waits for the kernel, and a waiting one holds a thread and its stack
set_option Elab.async false

/-! ### The step -/

/-- Settles O1: a step takes the front of the queue off. -/
theorem stepRunsFrontCommand : Obligations.StepRunsFrontCommand := by
  unfold Obligations.StepRunsFrontCommand
  intro c rest s
  unfold step
  rfl

/-- Settles O2: there is nothing to take off. -/
theorem emptyQueueIdles : Obligations.EmptyQueueIdles := by
  unfold Obligations.EmptyQueueIdles
  intro s idle
  unfold step
  rw [idle]

/-- Settles O6: every command runs in its own lane, where its die is up or not. -/
theorem commandsCompleteInTheirLane : Obligations.CommandsCompleteInTheirLane := by
  unfold Obligations.CommandsCompleteInTheirLane
  intro c s
  obtain ⟨_, _, f, answers, -⟩ := exec_runs c s
  exact ⟨_, answers, State.pending_onLane _ _ _, fun i other => State.lane_onLane_of_ne s _ other⟩

/-! ### Refusals by the state of the lane -/

theorem opInRom_iff (op : Op) : opInRom op = true ↔ opCode op ∈ [0x0001, 0x0002] ∨ opCode op / 256 ∈ [0x08, 0x09] := by
  unfold opInRom
  simp [or_assoc]

theorem opInGhost_iff (op : Op) : opInGhost op = true ↔
    (opLocal op = true ∧ opClass op = 0) ∨ opCode op ∈ [0x0001, 0x0002, 0x0305] ∨ opCode op / 256 ∈ [0x06, 0x0A] := by
  unfold opInGhost
  simp only [Bool.or_eq_true, Bool.and_eq_true, beq_iff_eq, List.mem_cons, List.not_mem_nil, or_false]
  tauto

/-- The code of GHOST LIGHT. -/
theorem Lane.get_MSTATE_of_ghost {l : Lane} (ghost : l.mode = .ghost) : l.get R.LC_STATE_MSTATE = 8 := by
  unfold Lane.mode at ghost
  generalize l.get R.LC_STATE_MSTATE = c at ghost ⊢
  unfold Mode.ofCode at ghost
  split at ghost <;> simp_all

section
variable {l : Lane} {h : Hdr} {op : Op}

theorem Lane.opRefused_of_rom (rom : l.trust.romResponder = true) :
    l.opRefused h op = if opInRom op then none else some ⟨4, l.get R.LC_STATE_MSTATE⟩ := if_pos rom

theorem Lane.opRefused_of_out (firmware : l.trust.romResponder = false) (out : l.goneOut = true) :
    l.opRefused h op = if opLocal op && opClass op == 0 then none else some ⟨4, l.get R.LC_STATE_MSTATE⟩ :=
  (if_neg (by rw [firmware]; decide)).trans (if_pos out)

theorem Lane.opRefused_of_in (firmware : l.trust.romResponder = false) (inside : l.goneOut = false) :
    l.opRefused h op =
      if l.mode = .ghost ∧ !opInGhost op then some ⟨4, l.get R.LC_STATE_MSTATE⟩
      else if !opStates op l.mode then some ⟨4, l.get R.LC_STATE_MSTATE⟩
      else if opHolder op ∧ !l.holdsSpot h.seat then some (.noSpot l.spotOwner)
      else none :=
  (if_neg (by rw [firmware]; decide)).trans (if_neg (by rw [inside]; decide))

end

/-- Settles O14: by the four checks in their order. -/
theorem opcodeRefusals : Obligations.OpcodeRefusals := by
  unfold Obligations.OpcodeRefusals
  intro l h op
  refine ⟨fun rom => ⟨fun inRom => ?_, fun low high => ?_⟩, fun firmware out => ⟨fun own first => ?_, fun other => ?_⟩,
    fun firmware inside ghost noLocal low high => ?_, fun firmware states inside => ?_, fun play states free => ?_⟩
  · rw [Lane.opRefused_of_rom rom, if_pos ((opInRom_iff op).2 inRom)]
  · rw [Lane.opRefused_of_rom rom, if_neg fun inRom => ((opInRom_iff op).1 inRom).elim low high]
  · rw [Lane.opRefused_of_out firmware out, own, first]
    rfl
  · rw [Lane.opRefused_of_out firmware out, if_neg]
    simpa [imp_iff_not_or] using other
  · have shut : opInGhost op = false := Bool.eq_false_iff.2 fun inGhost =>
      ((opInGhost_iff op).1 inGhost).elim noLocal (·.elim low high)
    rw [Lane.opRefused_of_in firmware inside, if_pos ⟨ghost, by rw [shut]; rfl⟩, Lane.get_MSTATE_of_ghost ghost]
  · rw [Lane.opRefused_of_in firmware inside]
    split
    · rfl
    · rw [states]
      rfl
  · obtain ⟨firmware, inside, light⟩ := play
    rw [Lane.opRefused_of_in firmware inside, if_neg fun dark => light dark.1, states, if_neg (by decide),
      if_neg (by rw [free]; exact fun held => nomatch held.1)]

/-! ### The presented source -/

/-- One step of the search for the source to present: a later source must have a higher priority. -/
def betterOf (prio : Nat → Nat) (best : Option Nat) (k : Nat) : Option Nat :=
  match best with
  | none => some k
  | some b => if prio b < prio k then some k else some b

/-- The source found stands before every other one, by its priority and then by its number. -/
def BestOf (prio : Nat → Nat) (xs : List Nat) (k : Nat) : Prop :=
  k ∈ xs ∧ ∀ j ∈ xs, prio j < prio k ∨ prio j = prio k ∧ k ≤ j

theorem bestOf_append {prio : Nat → Nat} {xs : List Nat} {b k : Nat} (best : BestOf prio xs b) (later : ∀ j ∈ xs, j < k) :
    ∃ c, betterOf prio (some b) k = some c ∧ BestOf prio (xs ++ [k]) c := by
  obtain ⟨mem, before⟩ := best
  by_cases higher : prio b < prio k
  · refine ⟨k, if_pos higher, List.mem_append_right _ (List.mem_singleton.2 rfl), fun j hj => ?_⟩
    rcases List.mem_append.1 hj with hj | hj
    · rcases before j hj with below | level <;> omega
    · exact .inr ⟨by rw [List.mem_singleton.1 hj], (List.mem_singleton.1 hj).ge⟩
  · refine ⟨b, if_neg higher, List.mem_append_left _ mem, fun j hj => ?_⟩
    rcases List.mem_append.1 hj with hj | hj
    · exact before j hj
    · have := later b mem
      rw [List.mem_singleton.1 hj]
      omega

/-- The search through ascending numbers finds the best source, or the list is empty. -/
theorem foldl_betterOf (prio : Nat → Nat) (xs : List Nat) (ascending : xs.Pairwise (· < ·)) :
    (xs = [] ∧ xs.foldl (betterOf prio) none = none) ∨ ∃ k, xs.foldl (betterOf prio) none = some k ∧ BestOf prio xs k := by
  induction xs using List.reverseRecOn with
  | nil => exact .inl ⟨rfl, rfl⟩
  | append_singleton xs k ih =>
    obtain ⟨before, -, later⟩ := List.pairwise_append.1 ascending
    rw [List.foldl_append]
    rcases ih before with ⟨rfl, none⟩ | ⟨b, found, best⟩
    · exact .inr ⟨k, rfl, List.mem_singleton.2 rfl, fun j hj => .inr ⟨by rw [List.mem_singleton.1 hj], (List.mem_singleton.1 hj).ge⟩⟩
    · rw [found]
      exact .inr (bestOf_append best fun j hj => later j hj k (List.mem_singleton.2 rfl))

theorem Lane.presentedTo_eq (l : Lane) (s : Seat) : l.presentedTo s =
    ((List.range 512).filter (l.candidate s)).foldl (betterOf fun k => l.get (R.CB_SRC_PRIO k)) none := rfl

theorem Lane.mem_candidates {l : Lane} {s : Seat} {k : Nat} :
    k ∈ (List.range 512).filter (l.candidate s) ↔ k < 512 ∧ l.candidate s k = true := by
  rw [List.mem_filter, List.mem_range]

/-- The presented source is the best of the candidates, or there is no candidate. -/
theorem Lane.presentedTo_cases (l : Lane) (s : Seat) :
    ((List.range 512).filter (l.candidate s) = [] ∧ l.presentedTo s = none) ∨ ∃ k, l.presentedTo s = some k ∧
      BestOf (fun k => l.get (R.CB_SRC_PRIO k)) ((List.range 512).filter (l.candidate s)) k := by
  rw [Lane.presentedTo_eq]
  exact foldl_betterOf _ _ (List.pairwise_lt_range.filter _)

theorem Lane.candidate_iff {l : Lane} {s : Seat} {k : Nat} : l.candidate s k = true ↔
    l.pends k = true ∧ l.callActive k = false ∧ l.callEnabled s k = true ∧ l.effective s < l.get (R.CB_SRC_PRIO k) := by
  unfold Lane.candidate
  simp only [Bool.and_eq_true, Bool.not_eq_true', decide_eq_true_eq, and_assoc]

/-! ### The effective threshold -/

/-- The largest of a start value and a list is one of them and not below any. -/
theorem foldl_max_spec (xs : List Nat) (a : Nat) :
    a ≤ xs.foldl max a ∧ (∀ x ∈ xs, x ≤ xs.foldl max a) ∧ (xs.foldl max a = a ∨ xs.foldl max a ∈ xs) := by
  induction xs generalizing a with
  | nil => exact ⟨le_refl a, nofun, .inl rfl⟩
  | cons x xs ih =>
    obtain ⟨start, above, found⟩ := ih (max a x)
    refine ⟨le_trans (le_max_left a x) start, fun y hy => ?_, ?_⟩
    · rcases List.mem_cons.1 hy with rfl | hy
      · exact le_trans (le_max_right a y) start
      · exact above y hy
    · rw [List.foldl_cons]
      rcases found with first | later
      · rw [first]
        rcases max_choice a x with e | e <;> rw [e]
        · exact .inl rfl
        · exact .inr (List.mem_cons_self ..)
      · exact .inr (List.mem_cons_of_mem _ later)

theorem Lane.mem_activeFor {l : Lane} {s : Seat} {p : Nat} :
    p ∈ l.activeFor s ↔ ∃ x ∈ l.call.active, x.2 = s ∧ l.get (R.CB_SRC_PRIO x.1) = p := by
  unfold Lane.activeFor
  simp only [List.mem_map, List.mem_filter, beq_iff_eq, and_assoc]

/-- Settles O13: the search keeps the best candidate so far, and a maximum is one of its values. -/
theorem presentation : Obligations.Presentation := by
  unfold Obligations.Presentation
  refine ⟨fun l s k shown => ?_, fun l s idle j small => ?_, fun l s => ?_, fun was now => ⟨rfl, rfl, rfl, rfl⟩⟩
  · rcases l.presentedTo_cases s with ⟨-, none⟩ | ⟨b, found, mem, best⟩
    · rw [none] at shown
      cases shown
    · cases found.symm.trans shown
      obtain ⟨small, candidate⟩ := Lane.mem_candidates.1 mem
      obtain ⟨pends, rests, enabled, above⟩ := Lane.candidate_iff.1 candidate
      exact ⟨small, pends, rests, enabled, above, fun j hj other => best j (Lane.mem_candidates.2 ⟨hj, other⟩)⟩
  · rcases l.presentedTo_cases s with ⟨empty, -⟩ | ⟨b, found, -⟩
    · exact Bool.eq_false_iff.2 fun candidate =>
        List.not_mem_nil (empty ▸ Lane.mem_candidates.2 ⟨small, candidate⟩)
    · rw [idle] at found
      cases found
  · obtain ⟨least, above, found⟩ := foldl_max_spec (l.activeFor s) (l.get (R.CB_THR_THR s))
    refine ⟨least, fun x active own => above _ (Lane.mem_activeFor.2 ⟨x, active, own, rfl⟩), found.imp_right fun mem => ?_⟩
    obtain ⟨x, active, own, same⟩ := Lane.mem_activeFor.1 mem
    exact ⟨x, active, own, same.symm⟩

/-! ### The output balls -/

theorem Lane.gates_of_up {l : Lane} (up : l.logicUp = true) (n : Axis) : l.balls.gates[n] = l.on n := by
  unfold Lane.balls
  simp only [if_pos up]
  exact Vector.getElem_ofFn n.isLt

theorem Lane.gates_of_down {l : Lane} (down : l.logicUp = false) : l.balls.gates = Vector.replicate 4 0 :=
  if_neg (by rw [down]; decide)

/-- A gate that is not told on shows off, whether the logic die runs or not. -/
theorem Lane.gates_of_off {l : Lane} {n : Axis} (off : l.on n = 0) : l.balls.gates[n] = 0 := by
  cases up : l.logicUp with
  | true => rw [Lane.gates_of_up up, off]
  | false => simp only [Lane.gates_of_down up, Fin.getElem_fin, Vector.getElem_replicate]

theorem Lane.koWanted_of_shut {l : Lane} (shut : l.trust.state ≠ 5 ∨ l.lstate = .out) (m : Fin 4) : l.koWanted m = false := by
  unfold Lane.koWanted
  rcases shut with book | out
  · simp [book]
  · simp [out]

/-- A KO output that follows leaves the state of the lane and of its book. -/
theorem Lane.koOne_shut {i : LaneId} {l : Lane} (hl : l.Sound i) (shut : l.trust.state ≠ 5 ∨ l.lstate = .out) (m : Fin 4) :
    (l.koOne m).trust.state ≠ 5 ∨ (l.koOne m).lstate = .out := by
  have near := Lane.koOne_near (M := maskOf [.reg R.SF_KOSTAT, .emit, .safety]) (y1 := m) (by decide +kernel) (.refl _ hl)
  refine shut.imp (fun book => ?_) fun out => ?_
  · rwa [near.trust.eq (by decide +kernel)]
  · unfold Lane.lstate at out ⊢
    rwa [near.keep (f := R.LC_STATE_LSTATE) at_LC_STATE.1 (by decide +kernel)]

/-- KO output `m` with its own bit changed, before its read-back and its feedback are judged. -/
def Lane.koSwitched (l : Lane) (m : Fin 4) (w : Bool) : Lane :=
  (l.putBit R.SF_KOSTAT_ON m.val w).onSafety fun s => { s with koAt := s.koAt.set m l.now }

theorem Lane.koOne_of_change {l : Lane} {m : Fin 4} (change : l.bit R.SF_KOSTAT_ON m.val ≠ l.koWanted m) :
    l.koOne m = (((l.koSwitched m (l.koWanted m)).putBit R.SF_KOSTAT_RDBK m.val (l.koWanted m)).showKf m).send
      (.ko m (l.koWanted m)) := if_neg change

theorem Lane.Sound.koSwitched {i : LaneId} {l : Lane} (hl : l.Sound i) (m : Fin 4) (w : Bool) : (l.koSwitched m w).Sound i :=
  hl.put _ _

/-- The read-back and the feedback leave which outputs are on. -/
theorem Lane.get_ON_showKf {i : LaneId} {k : Lane} (hk : k.Sound i) (m : Fin 4) (w : Bool) :
    ((k.putBit R.SF_KOSTAT_RDBK m.val w).showKf m).get R.SF_KOSTAT_ON = k.get R.SF_KOSTAT_ON := by
  have back : (k.putBit R.SF_KOSTAT_RDBK m.val w).Sound i := hk.put _ _
  exact (Lane.get_putBit_of_disjoint (f := R.SF_KOSTAT_KFOK) (g := R.SF_KOSTAT_ON) back.wf m.val _ rfl (by decide) (by decide)).trans
    (Lane.get_putBit_of_disjoint (f := R.SF_KOSTAT_RDBK) (g := R.SF_KOSTAT_ON) hk.wf m.val _ rfl (by decide) (by decide))

/-- An output that follows is on where it is wanted, and leaves the other ones. -/
theorem Lane.bit_ON_koOne {i : LaneId} {l : Lane} (hl : l.Sound i) (m k : Fin 4) :
    (l.koOne m).bit R.SF_KOSTAT_ON k.val = if k = m then l.koWanted m else l.bit R.SF_KOSTAT_ON k.val := by
  by_cases same : l.bit R.SF_KOSTAT_ON m.val = l.koWanted m
  · have idle : l.koOne m = l := if_pos same
    rw [idle]
    split_ifs with own
    · rw [own, same]
    · rfl
  · have kept : (l.koOne m).get R.SF_KOSTAT_ON = (l.putBit R.SF_KOSTAT_ON m.val (l.koWanted m)).get R.SF_KOSTAT_ON := by
      rw [Lane.koOne_of_change same]
      exact Lane.get_ON_showKf (hl.koSwitched m _) m _
    rw [Lane.bit_of_get kept]
    split_ifs with own
    · rw [own, Lane.bit_putBit hl.wf _ (by decide) m.isLt]
    · exact Lane.bit_putBit_of_ne hl.wf _ (by decide) m.isLt k.isLt (fun e => own (Fin.ext e)) _

theorem Lane.Sound.koOne {i : LaneId} {l : Lane} (hl : l.Sound i) (m : Fin 4) : (l.koOne m).Sound i :=
  (Lane.koOne_near (M := maskOf [.reg R.SF_KOSTAT, .emit, .safety]) (y1 := m) (by decide +kernel) (.refl _ hl)).place hl

/-- While the book is not confirmed or the lane is OUT every KO output that follows goes off (R336, R524). -/
theorem Lane.get_ON_koSettle {i : LaneId} {l : Lane} (hl : l.Sound i) (shut : l.trust.state ≠ 5 ∨ l.lstate = .out) :
    l.koSettle.get R.SF_KOSTAT_ON = 0 := by
  have h0 := hl.koOne 0
  have h1 := h0.koOne 1
  have h2 := h1.koOne 2
  have s0 := Lane.koOne_shut hl shut 0
  have s1 := Lane.koOne_shut h0 s0 1
  have s2 := Lane.koOne_shut h1 s1 2
  have small : l.koSettle.get R.SF_KOSTAT_ON < 2 ^ 4 := Lane.get_lt _ _
  have off (k : Fin 4) : l.koSettle.bit R.SF_KOSTAT_ON k.val = false := by
    unfold Lane.koSettle
    rw [Lane.bit_ON_koOne h2, Lane.koWanted_of_shut s2, Lane.bit_ON_koOne h1, Lane.koWanted_of_shut s1,
      Lane.bit_ON_koOne h0, Lane.koWanted_of_shut s0, Lane.bit_ON_koOne hl, Lane.koWanted_of_shut shut]
    fin_cases k <;> rfl
  refine Nat.eq_of_testBit_eq fun j => ?_
  rw [Nat.zero_testBit]
  by_cases inside : j < 4
  · exact off ⟨j, inside⟩
  · exact Nat.testBit_lt_two_pow (lt_of_lt_of_le small (Nat.pow_le_pow_right (by decide) (Nat.le_of_not_lt inside)))

/-- Settles O16: each ball reads off the lane; a shut lane settles its gates and KO outputs off. -/
theorem outputBalls : Obligations.OutputBalls := by
  unfold Obligations.OutputBalls
  refine ⟨fun l down => ?_, fun l up => ?_, fun i l n hl shut => ?_, fun i l hl shut => ?_⟩
  · unfold Lane.balls
    simp only [down, Bool.false_eq_true, if_false, false_and, Bool.false_and, Bool.not_false, if_true]
    exact ⟨trivial, trivial, trivial, rfl, trivial, trivial, trivial⟩
  · have small : l.get R.SF_KOSTAT_ON < 2 ^ 4 := Lane.get_lt _ _
    refine ⟨fun n => Lane.gates_of_up up n, ?_, ?_⟩
    · unfold Lane.balls
      simp only [if_pos up]
      rw [BitVec.toNat_ofNat, Nat.mod_eq_of_lt small]
    · unfold Lane.balls
      simp only [up, if_true, Bool.true_and]
      exact ⟨trivial, trivial, trivial⟩
  · refine Lane.gates_of_off (Lane.on_settle_of_blocked hl (Lane.blocked_of ?_))
    rcases shut with book | out
    · exact .inr (.inr (.inr (.inr (.inr (.inl book)))))
    · exact .inr (.inl (by rw [out]; decide))
  · unfold Lane.balls
    rw [Lane.get_ON_koSettle hl shut]
    exact ite_self _

end Sys2Proof.Machine

/-!
PROOFS. Lane time: step, increment, loss of SYNC and the latch of TM_NS (R415, R416, R421, R426).
-/

namespace Sys2Proof.Machine

-- one declaration at a time: each waits for the kernel, and a waiting one holds a thread and its stack
set_option Elab.async false

/-! ### Fields after a write of a field -/

section
variable {i : LaneId} {l : Lane}

/-- A field just written reads what was written. -/
theorem Lane.Sound.get_put (hl : l.Sound i) (f : Fld) (v : Nat) (fits : (f.lo + f.width).ble 32 = true := by rfl) :
    (l.put f v).get f = v % 2 ^ f.width := Lane.get_put hl.wf f v (Nat.le_of_ble_eq_true fits)

/-- A field that lies apart in the same register reads as before. -/
theorem Lane.Sound.get_put_apart (hl : l.Sound i) {f g : Fld} (v : Nat) (same : g.addr = f.addr := by rfl)
    (fits : (g.lo + g.width).ble 32 = true := by rfl)
    (apart : ((f.lo + f.width).ble g.lo || (g.lo + g.width).ble f.lo) = true := by rfl) : (l.put f v).get g = l.get g :=
  Lane.get_put_of_disjoint hl.wf v same (Nat.le_of_ble_eq_true fits)
    ((Bool.or_eq_true_iff.1 apart).imp Nat.le_of_ble_eq_true Nat.le_of_ble_eq_true)

/-- A field of a register of another row reads as before. -/
theorem Lane.get_put_elsewhere (l : Lane) {f g : Fld} (v : Nat) {a b : Nat} (hf : regNo f.addr = a) (hg : regNo g.addr = b)
    (other : a.beq b = false := by rfl) : (l.put f v).get g = l.get g :=
  Lane.get_put_of_ne l v fun same => Nat.ne_of_beq_eq_false other (hf ▸ hg ▸ congrArg regNo same.symm)

end

/-! ### Steps of the lane time (R416) -/

/-- A write of TM_STEP is refused (R416). -/
def Lane.stepRefused (l : Lane) (step : Int) : Prop :=
  l.get R.TM_JUMP_THR < step.natAbs ∨ l.flag R.WG_STAT_TSLEW = true ∨ l.tm.step ≠ none ∨ l.timeMode = .holdover ∨ l.timeMode = .far

theorem Lane.writeStep_of_refused {l : Lane} {step : Int} (refused : l.stepRefused step) :
    l.writeStep step = l.raise R.TM_EVT_STEPREF :=
  if_pos (refused.imp_right (Or.imp_right (Or.imp_left Option.isSome_iff_ne_none.2)))

theorem Lane.writeStep_of_taken {l : Lane} {step : Int} (taken : ¬l.stepRefused step) :
    l.writeStep step = (l.onTime fun t => { t with step := some step }).raise R.TM_STAT_STEPPEND :=
  if_neg fun h => taken (h.imp_right (Or.imp_right (Or.imp_left Option.isSome_iff_ne_none.1)))

/-- STEP (R416). -/
theorem does_step (e : At) (step : Int) (s : State) (hs : s.Runs e) :
    Does (.step e step) s [.reg R.TM_STAT, .reg R.TM_EVT, .tm] fun l m =>
      (l.get R.TM_JUMP_THR < step.natAbs ∨ l.flag R.WG_STAT_TSLEW = true ∨ l.tm.step ≠ none ∨ l.timeMode = .holdover ∨
        l.timeMode = .far → m = l.raise R.TM_EVT_STEPREF ∧ m.flag R.TM_EVT_STEPREF = true) ∧
      (step.natAbs ≤ l.get R.TM_JUMP_THR → l.flag R.WG_STAT_TSLEW = false → l.tm.step = none → l.timeMode ≠ .holdover →
        l.timeMode ≠ .far → m.tm.step = some step ∧ m.get R.TM_STAT_STEPPEND = 1 ∧ m.ltime = l.ltime) := by
  refine does_logic hs rfl execStep_event rfl (by decide +kernel) fun hl => ?_
  generalize s.before (.step e step) = l at hl
  refine ⟨fun refused => ?_, fun small still free held far => ?_⟩
  · rw [Lane.writeStep_of_refused refused]
    exact ⟨rfl, Lane.flag_raise hl.wf _ (by decide) rfl⟩
  · have taken : ¬l.stepRefused step := by
      rintro (large | slew | pending | holdover | out)
      · exact absurd small (Nat.not_le_of_lt large)
      · rw [still] at slew
        cases slew
      · exact pending free
      · exact held holdover
      · exact far out
    rw [Lane.writeStep_of_taken taken]
    exact ⟨rfl, Lane.get_raise (hl.onTime _).wf _ (by decide) rfl, rfl⟩

/-- STEP_APPLY (R416). -/
theorem does_stepApply (e : At) (s : State) (hs : s.Runs e) : Does (.stepApply e) s [.reg R.TM_STAT, .ltime, .tm] fun l m =>
    (l.tm.step = none → m = l) ∧
    (l.ltime % ltUs (50 * l.beats) + ltUs 5 < ltUs (50 * l.beats) → m = l) ∧
    (∀ d, l.tm.step = some d → ltUs (50 * l.beats) ≤ l.ltime % ltUs (50 * l.beats) + ltUs 5 →
      m.ltime = ((l.ltime : Int) + d * 2 ^ 24).toNat ∧ m.tm.step = none ∧ m.get R.TM_STAT_STEPPEND = 0) := by
  refine does_logic hs rfl execStepApply_event rfl (by decide +kernel) fun hl => ?_
  generalize s.before (.stepApply e) = l at hl
  unfold Lane.applyStep
  refine ⟨fun free => ?_, fun early => if_neg (Nat.not_le_of_lt early), fun d pending late => ?_⟩
  · rw [free]
    exact ite_self l
  · rw [if_pos late, pending]
    exact ⟨rfl, rfl, Lane.get_drop ((hl.setLtime _).onTime _).wf _ (by decide)⟩

/-! ### The increment (R415) -/

theorem Lane.get_APPL_applyIncr {i : LaneId} {l : Lane} (hl : l.Sound i) (still : l.flag R.WG_STAT_TSLEW = false) :
    l.applyIncr.get R.TM_APPL_APPL =
      (if l.timeMode = .holdover ∨ l.timeMode = .far then l.tm.kept else l.get R.TM_INCR_INCR) % 2 ^ 32 := by
  unfold Lane.applyIncr
  rw [if_neg (by rw [still]; decide)]
  split_ifs <;> exact hl.get_put _ _

/-- INCR (R415). -/
theorem does_incr (e : At) (w : Word) (s : State) (hs : s.Runs e) :
    Does (.incr e w) s [.reg R.TM_INCR, .reg R.TM_APPL, .tm] fun l m =>
      (w.toNat < 167688274 ∨ 167856046 < w.toNat → m = l) ∧
      (167688274 ≤ w.toNat → w.toNat ≤ 167856046 → l.flag R.WG_STAT_TSLEW = true → m.tm.held = some w ∧
        m.regs = l.regs) ∧
      (167688274 ≤ w.toNat → w.toNat ≤ 167856046 → l.flag R.WG_STAT_TSLEW = false →
        m.get R.TM_INCR_INCR = w.toNat ∧ (l.timeMode ≠ .holdover → l.timeMode ≠ .far → m.get R.TM_APPL_APPL = w.toNat) ∧
        (l.timeMode = .holdover ∨ l.timeMode = .far → m.get R.TM_APPL_APPL = l.tm.kept % 2 ^ 32)) := by
  refine does_logic hs rfl execIncr_event rfl (by decide +kernel) fun hl => ?_
  generalize s.before (.incr e w) = l at hl
  unfold Lane.writeIncr
  refine ⟨fun outside => if_neg (by omega), fun low high slew => ?_, fun low high still => ?_⟩
  · rw [if_pos ⟨low, high⟩, if_pos slew]
    exact ⟨rfl, rfl⟩
  · rw [if_pos ⟨low, high⟩, if_neg (by rw [still]; decide)]
    have written := hl.put R.TM_INCR_INCR w.toNat
    have reads : (l.put R.TM_INCR_INCR w.toNat).get R.TM_INCR_INCR = w.toNat :=
      (hl.get_put _ _).trans (Nat.mod_eq_of_lt w.isLt)
    have mode : (l.put R.TM_INCR_INCR w.toNat).timeMode = l.timeMode := by
      unfold Lane.timeMode
      rw [Lane.get_put_elsewhere l _ at_TM_INCR.1 at_TM_STAT.1]
    have applied := Lane.get_APPL_applyIncr written
      ((Lane.flag_of_get (Lane.get_put_elsewhere l _ at_TM_INCR.1 at_WG_STAT.1)).trans still)
    rw [mode, reads] at applied
    have kept : Lane.Near (2 ^ 228) (l.put R.TM_INCR_INCR w.toNat) (l.put R.TM_INCR_INCR w.toNat).applyIncr :=
      Lane.applyIncr_near (by decide +kernel) (.refl _ written)
    refine ⟨(kept.keep at_TM_INCR.1 (by decide +kernel)).trans reads, fun held far => ?_, fun coasts => ?_⟩
    · rw [applied, if_neg (not_or.2 ⟨held, far⟩)]
      exact Nat.mod_eq_of_lt w.isLt
    · rw [applied, if_pos coasts]
      rfl

/-! ### The loss of SYNC (R421) -/

/-- Entering HOLDOVER keeps the increment in force. -/
theorem Lane.setTimeMode_holdover {l : Lane} (new : l.timeMode ≠ .holdover) : l.setTimeMode .holdover =
    ((l.put R.TM_STAT_STATE 4).onTime fun t => { t with
      lockRun := 0, unlockRun := 0, kept := (l.put R.TM_STAT_STATE 4).get R.TM_APPL_APPL }).applyIncr := by
  unfold Lane.setTimeMode
  generalize l.timeMode = was at new
  cases was with
  | holdover => exact absurd rfl new
  | _ => rfl

theorem Lane.setTimeMode_holdover_effects {i : LaneId} {l : Lane} (hl : l.Sound i) (new : l.timeMode ≠ .holdover) :
    (l.setTimeMode .holdover).Sound i ∧ (l.setTimeMode .holdover).get R.TM_STAT_STATE = 4 ∧
      (l.setTimeMode .holdover).tm.kept = l.get R.TM_APPL_APPL := by
  rw [Lane.setTimeMode_holdover new]
  have shown := (hl.put R.TM_STAT_STATE 4).onTime fun t => { t with
    lockRun := 0, unlockRun := 0, kept := (l.put R.TM_STAT_STATE 4).get R.TM_APPL_APPL }
  have applied := Lane.applyIncr_near (M := 2 ^ 228) (by decide +kernel) (.refl _ shown)
  refine ⟨applied.place shown, (applied.keep at_TM_STAT.1 (by decide +kernel)).trans (hl.get_put _ _), ?_⟩
  exact (applied.tm.kept (by decide +kernel)).trans (Lane.get_put_elsewhere l _ at_TM_STAT.1 at_TM_APPL.1)

/-- SYNC_LOSS (R421). -/
theorem does_syncLoss (e : At) (s : State) (hs : s.Runs e) :
    Does (.syncLoss e) s [.reg R.TM_STAT, .reg R.TM_EVT, .reg R.TM_APPL, .tm] fun l m =>
      (l.timeMode ≠ .acquire → l.timeMode ≠ .locked → m = l) ∧ (l.tm.lost < l.get R.TM_CFG_LOSS → m = l) ∧
      (l.timeMode = .acquire ∨ l.timeMode = .locked → l.get R.TM_CFG_LOSS ≤ l.tm.lost →
        m.get R.TM_STAT_STATE = 4 ∧ m.flag R.TM_EVT_LOSS = true ∧ m.tm.kept = l.get R.TM_APPL_APPL) := by
  refine does_logic hs rfl execSyncLoss_event rfl (by decide +kernel) fun hl => ?_
  generalize s.before (.syncLoss e) = l at hl
  refine ⟨fun free far => if_neg fun h => h.1.elim free far, fun few => if_neg fun h => absurd h.2 (Nat.not_le_of_lt few),
    fun follows lost => ?_⟩
  have new : l.timeMode ≠ .holdover := by
    intro holds
    rw [holds] at follows
    rcases follows with h | h <;> cases h
  obtain ⟨sound, state, kept⟩ := Lane.setTimeMode_holdover_effects hl new
  rw [if_pos ⟨follows, lost⟩]
  exact ⟨(Lane.get_put_elsewhere _ 1 ev_TM_EVT at_TM_STAT.1).trans state, Lane.flag_raise sound.wf _ (by decide) rfl, kept⟩

/-! ### The latch (R426) -/

/-- TIME_LATCH (R426). -/
theorem does_timeLatch (e : At) (s : State) (hs : s.Runs e) :
    Does (.timeLatch e) s [.reg R.TM_NS, .reg R.TM_SECLO, .reg R.TM_SECHI, .reg R.TM_FRAC] fun l m =>
      m.ltime = l.ltime ∧ m.get R.TM_NS_NS = l.ltime / 2 ^ 24 % 1000000000 ∧
      m.word R.TM_SECLO = BitVec.ofNat 32 (l.ltime / (1000000000 * 2 ^ 24)) ∧
      m.word R.TM_SECHI = BitVec.ofNat 32 (l.ltime / (1000000000 * 2 ^ 24) / 2 ^ 32) ∧
      m.get R.TM_FRAC_FRAC = l.ltime / 2 ^ 8 % 2 ^ 16 := by
  refine does_logic hs rfl execTimeLatch_event rfl (by decide +kernel) fun hl => ?_
  generalize s.before (.timeLatch e) = l at hl
  have hl : l.Sound e.lane := hl
  unfold Lane.latchTime
  extract_lets t sec l1 l2
  have s1 : l1.Sound e.lane := hl.put _ _
  have low := s1.setWord R.TM_SECLO (BitVec.ofNat 32 sec)
  have s2 : l2.Sound e.lane := low.setWord _ _
  have kept {a : Nat} (other : a ≠ R.TM_FRAC) : (l2.put R.TM_FRAC_FRAC (t / 2 ^ 8 % 2 ^ 16)).word a = l2.word a :=
    Lane.word_setWord_of_ne _ _ other
  refine ⟨rfl, ?_, ?_, ?_, (s2.get_put _ _).trans (Nat.mod_mod _ _)⟩
  · have latched : (l2.put R.TM_FRAC_FRAC (t / 2 ^ 8 % 2 ^ 16)).word R.TM_NS = l1.word R.TM_NS := by
      rw [kept (by decide), Lane.word_setWord_of_ne _ _ (by decide), Lane.word_setWord_of_ne _ _ (by decide)]
    show R.TM_NS_NS.extract _ = _
    rw [latched]
    exact (hl.get_put R.TM_NS_NS _).trans (Nat.mod_eq_of_lt (show t / 2 ^ 24 % 1000000000 < 2 ^ 30 by omega))
  · rw [kept (by decide), Lane.word_setWord_of_ne _ _ (by decide)]
    exact Lane.word_setWord s1.wf _ _
  · rw [kept (by decide)]
    exact Lane.word_setWord low.wf _ _

/-- Settles O41, command by command. -/
theorem networkTime : Obligations.NetworkTime := by
  unfold Obligations.NetworkTime
  exact ⟨does_step, does_stepApply, does_incr, does_syncLoss, does_timeLatch⟩

end Sys2Proof.Machine

/-!
PROOFS. DEBUG_UNLOCK takes a lane OUT and changes WG_CMDEXP (R537, R266).
-/

namespace Sys2Proof.Machine

-- one declaration at a time: each waits for the kernel, and a waiting one holds a thread and its stack
set_option Elab.async false

/-- Lane A with one command waiting and the challenge 0 open. -/
def challengedLane : Lane := waitingLane.onTrust fun t => { t with challenge := some 0 }

/-- The token that answers that challenge. -/
def unlockToken : DebugToken := ⟨resetWord .A R.LC_SERIAL_HI ++ resetWord .A R.LC_SERIAL_LO, .A, 0, 0, true, true⟩

/-- The unlocked lane just before it goes OUT. -/
def Lane.unlocking (l : Lane) : Lane :=
  let l := l.onTrust fun t => { t with challenge := none, debugOpen := true, fuses := { t.fuses with erased := true } }
  (((l.raise R.KP_STAT_DBGOPEN).raise R.KP_STAT_ERASED).drop R.KP_STAT_IDKEY).raise R.KP_EVT_UNLOCK

theorem Lane.unlock_eq (l : Lane) : l.unlock = l.unlocking.laneOut := rfl

/-- Whatever changes of the record of trust stays within the mask that leaves the waiting commands out. -/
theorem TrustState.near_of_pending (x y : TrustState) : TrustState.Near (allBut [69, 401]) x y := by
  constructor <;> exact not_bit (by decide +kernel)

/-- The unlock changes the keeper's registers and the record of trust alone until the lane goes OUT. -/
theorem Lane.unlocking_near {i : LaneId} {l : Lane} (hl : l.Sound i) :
    Lane.Near (allBut [69, 401]) l l.unlocking := by
  unfold Lane.unlocking
  exact Lane.raise_near (inEvt ev_KP_EVT (by decide +kernel)) rfl (Lane.drop_near (inReg at_KP_STAT (by decide +kernel))
    (Lane.raise_near (inReg at_KP_STAT (by decide +kernel)).1 rfl (Lane.raise_near (inReg at_KP_STAT (by decide +kernel)).1 rfl
      (Lane.onTrust_near (TrustState.near_of_pending _ _) (.refl _ hl)))))

/-- Refutes O55: the token that answers lane A's challenge takes the lane OUT (R537), which counts the command waiting in it in
WG_CMDEXP (R266); that register is none of the parts the clause of DEBUG_UNLOCK lists. -/
theorem not_tamperAndDebug : ¬ Obligations.TamperAndDebug := by
  unfold Obligations.TamperAndDebug
  rintro ⟨-, -, unlock⟩
  let c : Instr := .debugUnlock ⟨.A, 0⟩ unlockToken
  let l : Lane := challengedLane.advanceTo 0
  have sound : challengedLane.Sound .A := waitingLane_sound.onTrust _
  have opens : l.tokenOk unlockToken = true := by decide +kernel
  exact not_does_of_waiting_laneA (c := c) sound rfl rfl rfl ((if_pos opens).trans l.unlock_eq)
    (Lane.unlocking_near (sound.advanceTo 0)) (by decide +kernel) (List.cons_ne_nil _ _) (by decide +kernel)
    (unlock ⟨.A, 0⟩ unlockToken _ (withLaneA_runs sound rfl 0))

end Sys2Proof.Machine

/-!
PROOFS. The signal windows of the seats, and claims and completions of the callboard (R459, R504, R505).
-/

namespace Sys2Proof.Machine

-- one declaration at a time: each waits for the kernel, and a waiting one holds a thread and its stack
set_option Elab.async false

/-! ### A row of words -/

theorem Lane.sound_foldl_setWord {i : LaneId} {l : Lane} (hl : l.Sound i) (addr : Nat → Nat) (v : Nat → Word) (n : Nat) :
    ((List.range n).foldl (fun l k => l.setWord (addr k) (v k)) l).Sound i := by
  induction n with
  | zero => exact hl
  | succ n ih =>
    rw [List.range_succ, List.foldl_append]
    exact ih.setWord _ _

/-- A word of a row written word by word. -/
theorem Lane.word_foldl_setWord {i : LaneId} {l : Lane} (hl : l.Sound i) {addr : Nat → Nat} (v : Nat → Word)
    (apart : ∀ j k, addr j = addr k → j = k) {n k : Nat} (hk : k < n) :
    ((List.range n).foldl (fun l k => l.setWord (addr k) (v k)) l).word (addr k) = v k := by
  induction n with
  | zero => exact absurd hk (Nat.not_lt_zero k)
  | succ n ih =>
    rw [List.range_succ, List.foldl_append, List.foldl_cons, List.foldl_nil]
    by_cases last : k = n
    · rw [last]
      exact Lane.word_setWord (Lane.sound_foldl_setWord hl addr v n).wf _ _
    · rw [Lane.word_setWord_of_ne _ _ fun same => last (apart k n same)]
      exact ih (by omega)

/-! ### Windows (R459) -/

/-- Within a mask that holds no part of it the dictionary stays as it is. -/
theorem DictState.Near.eq {M : Nat} {x y : DictState} (h : DictState.Near M x y) (m : M &&& maskOf [.dict] = 0) : y = x := by
  obtain ⟨entries, lost⟩ := h
  cases x
  cases y
  rw [DictState.mk.injEq]
  exact ⟨entries (testBit_of_and_eq_zero m (by decide +kernel)), lost (testBit_of_and_eq_zero m (by decide +kernel))⟩

theorem Lane.entryBytes_put (l : Lane) (f : Fld) (v h : Nat) : (l.put f v).entryBytes h = l.entryBytes h := rfl

/-- WINDOW_LATCH (R459). -/
theorem does_windowLatch (e : At) (w : Seat) (handle : BitVec 20) (s : State) (hs : s.Runs e) :
    Does (.windowLatch e w handle) s [.reg (R.SG_HSEL 0), .reg (R.SG_WST 0), .reg (R.SG_LAT 0 0)] fun l m =>
      m.get (R.SG_HSEL_HANDLE w) = handle.toNat ∧ m.get (R.SG_WST_DONE w) = 1 ∧ m.dict = l.dict ∧
      (∀ k : Fin 16, m.word (R.SG_LAT w k) = wordOf (l.entryBytes handle.toNat) (4 * k.val)) := by
  refine does_logic hs rfl execWindowLatch_event rfl (by decide +kernel) fun hl => ?_
  generalize s.before (.windowLatch e w handle) = l at hl
  have hl : l.Sound e.lane := hl
  have whole := Lane.latchWindow_near (M := 2 ^ 264 ||| 2 ^ 265 ||| 2 ^ 266) (y1 := w) (y2 := handle.toNat) (by decide +kernel) (.refl _ hl)
  have dict : (l.latchWindow w handle.toNat).dict = l.dict := whole.dict.eq (by decide +kernel)
  revert dict
  unfold Lane.latchWindow
  extract_lets l1 b l2 st
  have s1 : l1.Sound e.lane := hl.put _ _
  have s2 : l2.Sound e.lane := Lane.sound_foldl_setWord s1 _ _ 16
  have latched : Lane.Near (2 ^ 266) l1 l2 :=
    Lane.near_foldl (fun _ k small near => Lane.setWord_near (inReg (at_SG_LAT w.isLt (List.mem_range.1 small)) (by decide +kernel)) near)
      (.refl _ s1)
  have stale : (l2.putFlag (R.SG_WST_STALE w) st).Sound e.lane := s2.put _ _
  have shown : Lane.Near (2 ^ 265) l2 ((l2.putFlag (R.SG_WST_STALE w) st).raise (R.SG_WST_DONE w)) :=
    Lane.raise_near (inReg (at_SG_WST w.isLt) (by decide +kernel)).1 rfl
      (Lane.putFlag_near (inReg (at_SG_WST w.isLt) (by decide +kernel)) (.refl _ s2))
  refine fun dict => ⟨?_, Lane.get_raise stale.wf _ (show 31 < 32 by decide) rfl, dict, fun k => ?_⟩
  · exact (shown.keep (at_SG_HSEL w.isLt).1 (by decide +kernel)).trans
      ((latched.keep (at_SG_HSEL w.isLt).1 (by decide +kernel)).trans ((hl.get_put _ _).trans (Nat.mod_eq_of_lt handle.isLt)))
  · rw [shown.word _ (by rw [(at_SG_LAT w.isLt k.isLt).1]; decide +kernel)]
    exact Lane.word_foldl_setWord s1 (fun k => wordOf b (4 * k)) (addr := fun k => R.SG_LAT w k) (fun j k same => by
      have : 0x0D1010 + 0x100 * w.val + 0x4 * j = 0x0D1010 + 0x100 * w.val + 0x4 * k := same
      omega) k.isLt

theorem samePath_seat (p : SourcePath) (w : Seat) : samePath p (.seat w) = decide (p = .seat w) := by
  cases p <;> rfl

section
variable {l : Lane} {w : Seat}

/-- A seat commits to a handle whose source it is. -/
theorem Lane.commitWindow_of_own {d : SigDef} (def_ : l.sigDef (l.get (R.SG_HSEL_HANDLE w)) = some d) (own : d.source = .seat w) :
    l.commitWindow w =
      (l.writeEntry d (l.windowData w) l.beatStartTime false 0 0).putFlag (R.SG_WST_REFUSED w) false := by
  unfold Lane.commitWindow Lane.writeSignal
  dsimp only
  rw [def_]
  simp only [samePath_seat, own, decide_true, if_true, Bool.not_true]

/-- A commit to any other handle is discarded. -/
theorem Lane.commitWindow_of_foreign (foreign : ∀ d, l.sigDef (l.get (R.SG_HSEL_HANDLE w)) = some d → d.source ≠ .seat w) :
    l.commitWindow w = ((l.raise R.SG_EVT_FOREIGN).bump R.SG_CNT0_FOREIGN).putFlag (R.SG_WST_REFUSED w) true := by
  unfold Lane.commitWindow Lane.writeSignal
  dsimp only
  cases def_ : l.sigDef (l.get (R.SG_HSEL_HANDLE w)) with
  | none => rfl
  | some d => simp only [samePath_seat, foreign d def_, decide_false, Bool.false_eq_true, if_false, Bool.not_false]

end

/-- COMMIT (R459). -/
theorem does_commit (e : At) (w : Seat) (s : State) (hs : s.Runs e) :
    Does (.commit e w) s [.reg R.SG_EVT, .reg R.SG_CNT0, .reg R.SG_CNT2, .reg (R.SG_WST 0), .dict] fun l m =>
      (∀ d, l.sigDef (l.get (R.SG_HSEL_HANDLE w)) = some d → d.source = .seat w →
        m.get (R.SG_WST_REFUSED w) = 0 ∧ m.dict = (l.writeEntry d (l.windowData w) l.beatStartTime false 0 0).dict) ∧
      ((∀ d, l.sigDef (l.get (R.SG_HSEL_HANDLE w)) = some d → d.source ≠ .seat w) →
        m.get (R.SG_WST_REFUSED w) = 1 ∧ m.flag R.SG_EVT_FOREIGN = true ∧ m.dict = l.dict) := by
  refine does_logic hs rfl execCommit_event rfl (by decide +kernel) fun hl => ?_
  generalize s.before (.commit e w) = l at hl
  have hl : l.Sound e.lane := hl
  refine ⟨fun d def_ own => ?_, fun foreign => ?_⟩
  · rw [Lane.commitWindow_of_own def_ own]
    have written := Lane.writeEntry_near (M := allBut []) (y1 := d) (y2 := l.windowData w) (y3 := l.beatStartTime)
      (y4 := false) (y5 := 0) (y6 := 0) (by decide +kernel) (.refl _ hl)
    exact ⟨(written.place hl).get_put _ _, rfl⟩
  · rw [Lane.commitWindow_of_foreign foreign]
    have s1 := hl.raise R.SG_EVT_FOREIGN
    have s2 : ((l.raise R.SG_EVT_FOREIGN).bump R.SG_CNT0_FOREIGN).Sound e.lane := s1.put _ _
    refine ⟨s2.get_put _ _, ?_, rfl⟩
    have after : Lane.Near (2 ^ 260 ||| 2 ^ 265) (l.raise R.SG_EVT_FOREIGN)
        (((l.raise R.SG_EVT_FOREIGN).bump R.SG_CNT0_FOREIGN).putFlag (R.SG_WST_REFUSED w) true) :=
      Lane.putFlag_near (inReg (at_SG_WST w.isLt) (by decide +kernel)) (Lane.bump_near (inReg at_SG_CNT0 (by decide +kernel)) (.refl _ s1))
    exact after.flag (by decide +kernel) is_SG_EVT rfl (Lane.flag_raise hl.wf _ (by decide) rfl)

/-! ### The word of a claim (R504) -/

/-- The four fields of a claim's word. -/
theorem claim_fields {v n d k : Nat} (hv : v < 2) (hn : n < 2) (hd : d < 4) (hk : k < 512) (s : Seat) :
    let x : Word := BitVec.ofNat 32 (v * 2 ^ 31 + n * 2 ^ 30 + d * 2 ^ 28 + k)
    (R.CB_CLAIM_VALID s).extract x = v ∧ (R.CB_CLAIM_NOTLEAD s).extract x = n ∧ (R.CB_CLAIM_LEADL s).extract x = d ∧
      (R.CB_CLAIM_SRC s).extract x = k := by
  intro x
  have value : x.toNat = v * 2 ^ 31 + n * 2 ^ 30 + d * 2 ^ 28 + k := by
    rw [BitVec.toNat_ofNat]
    exact Nat.mod_eq_of_lt (by omega)
  unfold Fld.extract
  simp only [BitVec.toNat_ushiftRight, Nat.shiftRight_eq_div_pow, value]
  refine ⟨?_, ?_, ?_, ?_⟩ <;> omega

/-- What CB_CLAIM of a seat reads after a claim: the lead it names is the one WG_STAT names. -/
theorem Lane.get_CLAIM {i : LaneId} {l : Lane} (hl : l.Sound i) (s : Seat) (valid notLead : Bool) {k : Nat} (hk : k < 512) :
    let m := l.setWord (R.CB_CLAIM s) (l.claimWord valid notLead k)
    m.get (R.CB_CLAIM_VALID s) = valid.toNat ∧ m.get (R.CB_CLAIM_NOTLEAD s) = notLead.toNat ∧
      m.get (R.CB_CLAIM_LEADL s) = l.get R.WG_STAT_LEADL ∧ m.get (R.CB_CLAIM_SRC s) = k := by
  intro m
  have word : m.word (R.CB_CLAIM s) = l.claimWord valid notLead k := Lane.word_setWord hl.wf _ _
  unfold Lane.get
  rw [word]
  exact claim_fields valid.toNat_lt notLead.toNat_lt (l.get_lt R.WG_STAT_LEADL) hk s

/-! ### Claims (R504) -/

theorem Lane.presentedTo_lt {l : Lane} {s : Seat} {k : Nat} (shown : l.presentedTo s = some k) : k < 512 := by
  rcases l.presentedTo_cases s with ⟨-, none⟩ | ⟨b, found, mem, -⟩
  · rw [none] at shown
    cases shown
  · cases found.symm.trans shown
    exact (Lane.mem_candidates.1 mem).1

theorem Lane.pends_eq_bit (l : Lane) (k : Nat) : l.pends k = l.bit (R.CB_PEND_PEND (k / 32 % 16)) (k % 32) := by
  unfold Lane.pends Lane.bit Lane.get Fld.extract
  rw [BitVec.ushiftRight_zero, Nat.mod_eq_of_lt (BitVec.isLt _)]

/-- A source set to rest no longer pends. -/
theorem Lane.pends_setPend {i : LaneId} {l : Lane} (hl : l.Sound i) {k : Nat} (real : k ≠ 0) :
    (l.setPend k false).pends k = false := by
  unfold Lane.setPend
  rw [if_neg real, Lane.pends_eq_bit]
  exact Lane.bit_putBit hl.wf _ (show 0 + 32 ≤ 32 by decide) (Nat.mod_lt k (show 0 < 32 by decide)) false

/-- The lane in which a claimed source has ceased to pend and, outside GHOST LIGHT, become active. -/
def Lane.activated (l : Lane) (s : Seat) (k : Nat) : Lane :=
  ((l.setPend k false).bump R.CB_CNT_CLAIMS).when (((l.setPend k false).bump R.CB_CNT_CLAIMS).mode != .ghost) fun l =>
    (l.onCall fun c => { c with active := c.active ++ [(k, s)] }).putBit (R.CB_ACT_ACT (k / 32 % 16)) (k % 32) true

theorem Lane.activated_near {i : LaneId} {l : Lane} (hl : l.Sound i) (s : Seat) (k : Nat) :
    Lane.Near (2 ^ 271 ||| 2 ^ 273 ||| 2 ^ 459) (l.setPend k false) (l.activated s k) := by
  have rests := (Lane.setPend_near (M := allBut []) (y1 := k) (y2 := false) (by decide +kernel) (.refl _ hl)).place hl
  have counted : Lane.Near (2 ^ 271 ||| 2 ^ 273 ||| 2 ^ 459) (l.setPend k false) ((l.setPend k false).bump R.CB_CNT_CLAIMS) :=
    Lane.bump_near (inReg at_CB_CNT (by decide +kernel)) (.refl _ rests)
  exact Lane.when_near counted fun _ near => Lane.putBit_near (inReg (at_CB_ACT (by omega)) (by decide +kernel))
    (Lane.onCall_near (f := _) (CallState.Near.mk (not_bit (by decide +kernel)) kp kp kp kp) near)

theorem Lane.active_activated {i : LaneId} {l : Lane} (hl : l.Sound i) (s : Seat) (k : Nat) :
    (l.activated s k).call.active = if l.mode = .ghost then l.call.active else l.call.active ++ [(k, s)] := by
  have counted : Lane.Near (2 ^ 271 ||| 2 ^ 272) l ((l.setPend k false).bump R.CB_CNT_CLAIMS) :=
    Lane.bump_near (inReg at_CB_CNT (by decide +kernel)) (Lane.setPend_near (by decide +kernel) (.refl _ hl))
  have call : ((l.setPend k false).bump R.CB_CNT_CLAIMS).call.active = l.call.active := counted.call.active (by decide +kernel)
  unfold Lane.activated
  rw [counted.mode (by decide +kernel)]
  by_cases dark : l.mode = .ghost
  · rw [Lane.when_of_false _ (by rw [dark]; rfl), if_pos dark, call]
  · rw [Lane.when_of_true _ (by simpa using dark), if_neg dark]
    show (_ ++ _ : List (Nat × Seat)) = _
    rw [call]

theorem Lane.claimFor_of_standby {l : Lane} {s : Seat} (standby : l.flag R.CB_STAT_LEAD = false) :
    l.claimFor s = (l.setWord (R.CB_CLAIM s) (l.claimWord false true 0)).raise R.CB_EVT_NOTLEAD :=
  if_pos (by rw [standby]; rfl)

theorem Lane.claimFor_of_none {l : Lane} {s : Seat} (lead : l.flag R.CB_STAT_LEAD = true) (idle : l.presentedTo s = none) :
    l.claimFor s = l.setWord (R.CB_CLAIM s) (l.claimWord false false 0) := by
  unfold Lane.claimFor
  rw [if_neg (by rw [lead]; decide), idle]

theorem Lane.claimFor_of_some {l : Lane} {s : Seat} {k : Nat} (lead : l.flag R.CB_STAT_LEAD = true) (shown : l.presentedTo s = some k) :
    l.claimFor s = (l.activated s k).presentAll.setWord (R.CB_CLAIM s) ((l.activated s k).claimWord true false k) := by
  unfold Lane.claimFor
  rw [if_neg (by rw [lead]; decide), shown]
  rfl

/-- What the presentations and the claim's own word may change. -/
def claimMask : Nat := 2 ^ 269 ||| 2 ^ 276 ||| 2 ^ 278 ||| 2 ^ 309 ||| maskOf [.trio]

/-- The claim's word goes out over the presentations anew. -/
theorem Lane.claim_effects {i : LaneId} {a p : Lane} (ha : a.Sound i) (near : Lane.Near claimMask a p) (s : Seat) {k : Nat}
    (hk : k < 512) (valid : Bool) :
    let m := p.setWord (R.CB_CLAIM s) (a.claimWord valid false k)
    Lane.Near claimMask a m ∧ m.get (R.CB_CLAIM_VALID s) = valid.toNat ∧ m.get (R.CB_CLAIM_SRC s) = k := by
  have word : a.claimWord valid false k = p.claimWord valid false k := by
    unfold Lane.claimWord
    rw [near.keep (f := R.WG_STAT_LEADL) at_WG_STAT.1 (by decide +kernel)]
  rw [word]
  obtain ⟨shown, -, -, src⟩ := Lane.get_CLAIM (near.place ha) s valid false hk
  exact ⟨Lane.setWord_near (inReg (at_CB_CLAIM s.isLt) (by decide +kernel)) near, shown, src⟩

theorem Lane.Sound.setPend {i : LaneId} {l : Lane} (hl : l.Sound i) (k : Nat) (b : Bool) : (l.setPend k b).Sound i :=
  (Lane.setPend_near (M := allBut []) (by decide +kernel) (.refl _ hl)).place hl

theorem Lane.get_CLAIMS_activated {i : LaneId} {l : Lane} (hl : l.Sound i) (s : Seat) (k : Nat) :
    (l.activated s k).get R.CB_CNT_CLAIMS = min 65535 (l.get R.CB_CNT_CLAIMS + 1) := by
  have rests := hl.setPend k false
  have counted : ((l.setPend k false).bump R.CB_CNT_CLAIMS).Sound i := rests.put _ _
  have active : Lane.Near (2 ^ 273 ||| 2 ^ 459) ((l.setPend k false).bump R.CB_CNT_CLAIMS) (l.activated s k) :=
    Lane.when_near (.refl _ counted) fun _ near => Lane.putBit_near (inReg (at_CB_ACT (by omega)) (by decide +kernel))
      (Lane.onCall_near (f := _) (CallState.Near.mk (not_bit (by decide +kernel)) kp kp kp kp) near)
  have pends : Lane.Near (2 ^ 272) l (l.setPend k false) := Lane.setPend_near (by decide +kernel) (.refl _ hl)
  rw [active.keep at_CB_CNT.1 (by decide +kernel), Lane.get_bump rests.wf _ (by decide), pends.keep at_CB_CNT.1 (by decide +kernel)]
  exact Nat.min_comm _ _

/-- A claim of the lead that finds a source (R504). -/
theorem Lane.claimFor_effects {i : LaneId} {l : Lane} (hl : l.Sound i) {w : Seat} {k : Nat} (lead : l.flag R.CB_STAT_LEAD = true)
    (shown : l.presentedTo w = some k) (real : k ≠ 0) :
    (l.claimFor w).get (R.CB_CLAIM_VALID w) = 1 ∧ (l.claimFor w).get (R.CB_CLAIM_SRC w) = k ∧ (l.claimFor w).pends k = false ∧
      (l.claimFor w).get R.CB_CNT_CLAIMS = min 65535 (l.get R.CB_CNT_CLAIMS + 1) ∧
      (l.claimFor w).call.active = (if l.mode = .ghost then l.call.active else l.call.active ++ [(k, w)]) := by
  rw [Lane.claimFor_of_some lead shown]
  have rests := hl.setPend k false
  have active := Lane.activated_near hl w k
  have s1 := active.place rests
  obtain ⟨claimed, valid, src⟩ := Lane.claim_effects s1 (Lane.presentAll_near (by decide +kernel) (.refl _ s1)) w
    (Lane.presentedTo_lt shown) true
  refine ⟨valid, src, ?_, ?_, ?_⟩
  · have off := Lane.pends_setPend hl real
    have row := (at_CB_PEND (show k / 32 % 16 < 16 by omega)).1
    unfold Lane.pends at off ⊢
    rwa [claimed.word _ (by rw [row]; decide +kernel), active.word _ (by rw [row]; decide +kernel)]
  · rw [claimed.keep at_CB_CNT.1 (by decide +kernel), Lane.get_CLAIMS_activated hl]
  · rw [claimed.call.active (by decide +kernel), Lane.active_activated hl]

/-- CLAIM (R504). -/
theorem does_claim (e : At) (w : Seat) (s : State) (hs : s.Runs e) :
    Does (.claim e w) s [.block 14, .reg R.HS_PORT, .call, .trio] fun l m =>
      (l.callGuarded = true → m = l) ∧
      (l.callGuarded = false → l.flag R.CB_STAT_LEAD = false →
        m.get (R.CB_CLAIM_VALID w) = 0 ∧ m.get (R.CB_CLAIM_NOTLEAD w) = 1 ∧
          m.get (R.CB_CLAIM_LEADL w) = l.get R.WG_STAT_LEADL ∧
        m.flag R.CB_EVT_NOTLEAD = true ∧ m.call = l.call) ∧
      (l.callGuarded = false → l.flag R.CB_STAT_LEAD = true → l.presentedTo w = none →
        m.get (R.CB_CLAIM_VALID w) = 0 ∧ m.get (R.CB_CLAIM_NOTLEAD w) = 0 ∧ m.call = l.call) ∧
      (∀ k, l.callGuarded = false → l.flag R.CB_STAT_LEAD = true → l.presentedTo w = some k → k ≠ 0 →
        m.get (R.CB_CLAIM_VALID w) = 1 ∧ m.get (R.CB_CLAIM_SRC w) = k ∧ m.pends k = false ∧
        m.get R.CB_CNT_CLAIMS = min 65535 (l.get R.CB_CNT_CLAIMS + 1) ∧
        m.call.active = (if l.mode = .ghost then l.call.active else l.call.active ++ [(k, w)])) := by
  refine does_logic hs rfl execClaim_event rfl (by decide +kernel) fun hl => ?_
  generalize s.before (.claim e w) = l at hl
  have hl : l.Sound e.lane := hl
  refine ⟨fun guarded => if_pos guarded, fun free standby => ?_, fun free lead idle => ?_, fun k free lead shown real => ?_⟩
  · rw [if_neg (by rw [free]; decide), Lane.claimFor_of_standby standby]
    have s1 := hl.setWord (R.CB_CLAIM w) (l.claimWord false true 0)
    obtain ⟨valid, notLead, leadl, -⟩ := Lane.get_CLAIM hl w false true (k := 0) (by decide)
    generalize claimed : l.setWord (R.CB_CLAIM w) (l.claimWord false true 0) = m at s1 valid notLead leadl
    have call : m.call = l.call := by rw [← claimed]; rfl
    have kept : Lane.Near (2 ^ 270) m (m.raise R.CB_EVT_NOTLEAD) := Lane.raise_near (inEvt ev_CB_EVT (by decide +kernel)) rfl (.refl _ s1)
    exact ⟨(kept.keep (at_CB_CLAIM w.isLt).1 (by decide +kernel)).trans valid,
      (kept.keep (at_CB_CLAIM w.isLt).1 (by decide +kernel)).trans notLead,
      (kept.keep (at_CB_CLAIM w.isLt).1 (by decide +kernel)).trans leadl, Lane.flag_raise s1.wf _ (by decide) rfl, call⟩
  · rw [if_neg (by rw [free]; decide), Lane.claimFor_of_none lead idle]
    obtain ⟨valid, notLead, -⟩ := Lane.get_CLAIM hl w false false (k := 0) (by decide)
    exact ⟨valid, notLead, rfl⟩
  · rw [if_neg (by rw [free]; decide)]
    exact Lane.claimFor_effects hl lead shown real

/-! ### Completions (R505) -/

theorem Lane.callActive_deactivate (l : Lane) (k : Nat) : (l.deactivate k).callActive k = false := by
  show ((l.call.active.filter fun x => x.1 != k).any fun x => x.1 == k) = false
  rw [List.any_filter]
  simp

theorem Lane.mem_active_deactivate {l : Lane} {k : Nat} {x : Nat × Seat} (mem : x ∈ l.call.active) (other : x.1 ≠ k) :
    x ∈ (l.deactivate k).call.active := List.mem_filter.2 ⟨mem, bne_iff_ne.2 other⟩

/-- Keeping a write for the mirror set changes the kept writes alone. -/
theorem Lane.keepCallWrite_effects (l : Lane) (a : Nat) (w : Word) :
    (l.keepCallWrite a w).regs = l.regs ∧ (l.keepCallWrite a w).id = l.id ∧
      (l.keepCallWrite a w).call.active = l.call.active := ⟨rfl, rfl, rfl⟩

/-- A completion by the seat that holds the source (R505). -/
theorem Lane.completeFor_of_held {i : LaneId} {l : Lane} (hl : l.Sound i) {w : Seat} {k : Nat} (held : l.heldBy w k = true) :
    (l.completeFor w k).call.active = (l.deactivate k).call.active ∧
      (l.completeFor w k).get R.CB_CNT_BADCOMPL = l.get R.CB_CNT_BADCOMPL := by
  have rests : Lane.Near (2 ^ 273 ||| 2 ^ 459) l (l.deactivate k) := Lane.deactivate_near (by decide +kernel) (.refl _ hl)
  have presented : Lane.Near claimMask (l.deactivate k) (l.deactivate k).presentAll :=
    Lane.presentAll_near (by decide +kernel) (.refl _ (rests.place hl))
  unfold Lane.completeFor
  rw [if_pos held, presented.call.active (by decide +kernel), presented.keep at_CB_CNT.1 (by decide +kernel),
    rests.keep at_CB_CNT.1 (by decide +kernel)]
  exact ⟨rfl, rfl⟩

/-- A completion by another seat (R505). -/
theorem Lane.completeFor_of_other {i : LaneId} {l : Lane} (hl : l.Sound i) {w : Seat} {k : Nat} (other : l.heldBy w k = false) :
    (l.completeFor w k).flag R.CB_EVT_BADCOMPL = true ∧
      (l.completeFor w k).get R.CB_CNT_BADCOMPL = min 65535 (l.get R.CB_CNT_BADCOMPL + 1) ∧
      (l.completeFor w k).call.active = l.call.active := by
  have s1 := hl.raise R.CB_EVT_BADCOMPL
  unfold Lane.completeFor
  rw [if_neg (by rw [other]; decide)]
  refine ⟨?_, ?_, rfl⟩
  · exact (Lane.flag_of_get (Lane.get_put_elsewhere (l.raise R.CB_EVT_BADCOMPL) _ at_CB_CNT.1 ev_CB_EVT)).trans
      (Lane.flag_raise hl.wf R.CB_EVT_BADCOMPL (by decide) rfl)
  · rw [Lane.get_bump s1.wf _ (by decide), Lane.get_raise_of_ne l (by decide)]
    exact Nat.min_comm _ _

/-- COMPLETION (R505). -/
theorem does_completion (e : At) (w : Seat) (src : Fin 512) (s : State) (hs : s.Runs e) :
    Does (.completion e w src) s [.reg R.CB_STAT, .reg R.CB_EVT, .reg R.CB_CNT, .reg (R.CB_ACT 0),
    .reg (R.CB_PRES 0), .reg R.HS_PORT, .call, .trio] fun l m =>
      (l.heldBy w src = false → m.flag R.CB_EVT_BADCOMPL = true ∧
        m.get R.CB_CNT_BADCOMPL = min 65535 (l.get R.CB_CNT_BADCOMPL + 1) ∧
        m.call.active = l.call.active) ∧
      (l.heldBy w src = true → m.callActive src = false ∧ (∀ x ∈ l.call.active, x.1 ≠ src → x ∈ m.call.active) ∧
        m.get R.CB_CNT_BADCOMPL = l.get R.CB_CNT_BADCOMPL) := by
  refine does_logic hs rfl execCompletion_event rfl (by decide +kernel) fun hl => ?_
  generalize s.before (.completion e w src) = l at hl
  have hl : l.Sound e.lane := hl
  have other := @Lane.completeFor_of_other _ _ hl w src.val
  have own := @Lane.completeFor_of_held _ _ hl w src.val
  generalize l.completeFor w src = m at other own
  refine ⟨other, fun held => ?_⟩
  obtain ⟨active, count⟩ := own held
  refine ⟨?_, fun x mem apart => ?_, count⟩
  · show (m.call.active.any fun x => x.1 == src.val) = false
    rw [active]
    exact l.callActive_deactivate src
  · show x ∈ m.call.active
    rw [active]
    exact Lane.mem_active_deactivate mem apart

/-- Settles O43, command by command. -/
theorem windowsAndCallboard : Obligations.WindowsAndCallboard := by
  unfold Obligations.WindowsAndCallboard
  exact ⟨does_windowLatch, does_commit, does_claim, does_completion⟩

end Sys2Proof.Machine

/-!
PROOFS. The CAN controllers: reception, slots, bus-off and recovery, acknowledgement, address claim (R429, R431, R433 to R441).
-/

namespace Sys2Proof.Machine

-- one declaration at a time: each waits for the kernel, and a waiting one holds a thread and its stack
set_option Elab.async false

/-! ### Fields after a flag or a counter changed -/

section
variable {i : LaneId} {l : Lane}

theorem Lane.get_raise_elsewhere (l : Lane) {f g : Fld} {a b : Nat} (hf : regNo f.addr = a) (hg : regNo g.addr = b)
    (other : a.beq b = false := by rfl) : (l.raise f).get g = l.get g := Lane.get_put_elsewhere l 1 hf hg other

theorem Lane.get_drop_elsewhere (l : Lane) {f g : Fld} {a b : Nat} (hf : regNo f.addr = a) (hg : regNo g.addr = b)
    (other : a.beq b = false := by rfl) : (l.drop f).get g = l.get g := Lane.get_put_elsewhere l 0 hf hg other

theorem Lane.get_bump_elsewhere (l : Lane) {f g : Fld} {a b : Nat} (hf : regNo f.addr = a) (hg : regNo g.addr = b)
    (other : a.beq b = false := by rfl) : (l.bump f).get g = l.get g := Lane.get_put_elsewhere l _ hf hg other

theorem Lane.get_putFlag_elsewhere (l : Lane) {f g : Fld} (v : Bool) {a b : Nat} (hf : regNo f.addr = a) (hg : regNo g.addr = b)
    (other : a.beq b = false := by rfl) : (l.putFlag f v).get g = l.get g := Lane.get_put_elsewhere l _ hf hg other

theorem Lane.Sound.get_raise_apart (hl : l.Sound i) {f g : Fld} (same : g.addr = f.addr := by rfl)
    (fits : (g.lo + g.width).ble 32 = true := by rfl)
    (apart : ((f.lo + f.width).ble g.lo || (g.lo + g.width).ble f.lo) = true := by rfl) : (l.raise f).get g = l.get g :=
  hl.get_put_apart 1 same fits apart

theorem Lane.Sound.get_drop_apart (hl : l.Sound i) {f g : Fld} (same : g.addr = f.addr := by rfl)
    (fits : (g.lo + g.width).ble 32 = true := by rfl)
    (apart : ((f.lo + f.width).ble g.lo || (g.lo + g.width).ble f.lo) = true := by rfl) : (l.drop f).get g = l.get g :=
  hl.get_put_apart 0 same fits apart

theorem Lane.Sound.get_bump_apart (hl : l.Sound i) {f g : Fld} (same : g.addr = f.addr := by rfl)
    (fits : (g.lo + g.width).ble 32 = true := by rfl)
    (apart : ((f.lo + f.width).ble g.lo || (g.lo + g.width).ble f.lo) = true := by rfl) : (l.bump f).get g = l.get g :=
  hl.get_put_apart _ same fits apart

theorem Lane.Sound.get_putFlag_apart (hl : l.Sound i) {f g : Fld} (v : Bool) (same : g.addr = f.addr := by rfl)
    (fits : (g.lo + g.width).ble 32 = true := by rfl)
    (apart : ((f.lo + f.width).ble g.lo || (g.lo + g.width).ble f.lo) = true := by rfl) : (l.putFlag f v).get g = l.get g :=
  hl.get_put_apart _ same fits apart

theorem Lane.Sound.drop (hl : l.Sound i) (f : Fld) : (l.drop f).Sound i := hl.put f 0

theorem Lane.Sound.bump (hl : l.Sound i) (f : Fld) : (l.bump f).Sound i := hl.put f _

theorem Lane.Sound.putFlag (hl : l.Sound i) (f : Fld) (b : Bool) : (l.putFlag f b).Sound i := hl.put f _

end

/-! ### A controller's own record -/

@[simp] theorem Lane.can_onCan_self (l : Lane) (k : Can) (f : CanState → CanState) : (l.onCan k f).can[k] = f l.can[k] :=
  Vector.getElem_set_self k.isLt

section
variable {i : LaneId} {l : Lane}

/-! ### Error confinement (R440) -/

/-- What the error confinement may change: the state, its events, the bus-off count and what goes with bus-off. -/
def confineMask : Nat := 2 ^ 243 ||| 2 ^ 245 ||| 2 ^ 249 ||| 2 ^ 612 ||| maskOf [.log]

theorem Lane.confine_near_confineMask (hl : l.Sound i) (k : Can) : Lane.Near confineMask l (l.confine k) :=
  Lane.confine_near (by decide +kernel) (.refl _ hl)

/-- The confinement leaves the fields of CN_STAT above the state. -/
theorem Lane.get_confine (hl : l.Sound i) (k : Can) {g : Fld} (ha : g.addr = R.CN_STAT k) (hlo : 2 ≤ g.lo)
    (hg : g.lo + g.width ≤ 32) : (l.confine k).get g = l.get g := by
  have stated {m : Lane} (hm : m.Sound i) (v : Nat) : (m.put (R.CN_STAT_STATE k) v).get g = m.get g :=
    Lane.get_put_of_disjoint hm.wf v ha hg (.inl hlo)
  have row : regNo g.addr = 243 := ha ▸ (at_CN_STAT k.isLt).1
  have event (m : Lane) {f : Fld} (hf : f.addr = R.CN_EVT k) : (m.raise f).get g = m.get g :=
    Lane.get_raise_elsewhere m (hf ▸ ev_CN_EVT k.isLt) row
  unfold Lane.confine
  dsimp only
  split_ifs
  · rfl
  · rw [Lane.get_note, Lane.get_onCan, Lane.get_bump_elsewhere _ (at_CN_BOREC k.isLt).1 row, event _ rfl, stated hl]
  · unfold Lane.when
    split_ifs
    · rw [stated (hl.raise _), event l rfl]
    · exact stated hl 1
  · exact stated hl 0

/-! ### Errors in received frames (R429, R440) -/

theorem Lane.receiveError_effects (hl : l.Sound i) (k : Can) {code amount : Nat} (small : code < 8) :
    (l.receiveError k code amount).get (R.CN_STAT_LERR k) = code ∧
      (l.receiveError k code amount).get (R.CN_ERR_REC k) = min 65535 (l.get (R.CN_ERR_REC k) + amount) := by
  have s1 := hl.put (R.CN_STAT_LERR k) code
  unfold Lane.receiveError
  have s2 := s1.put (R.CN_ERR_REC k) (min 65535 (l.get (R.CN_ERR_REC k) + amount))
  refine ⟨?_, ?_⟩
  · rw [Lane.get_confine s2 k rfl (show 2 ≤ 5 by decide) (show 5 + 3 ≤ 32 by decide),
      Lane.get_put_elsewhere _ _ (at_CN_ERR k.isLt).1 (at_CN_STAT k.isLt).1, hl.get_put (R.CN_STAT_LERR k) code]
    exact Nat.mod_eq_of_lt small
  · rw [(Lane.confine_near_confineMask s2 k).keep (at_CN_ERR k.isLt).1 (by decide +kernel), s1.get_put (R.CN_ERR_REC k)]
    exact Nat.mod_eq_of_lt (show min 65535 _ < 65536 by omega)

theorem Lane.protocolException_of_integrates {k : Can} (integrates : l.flag (R.CN_CFG_EXCINT k) = true) :
    l.protocolException k = l.drop (R.CN_STAT_IDLE k) := if_pos integrates

theorem Lane.protocolException_of_signals {k : Can} (signals : l.flag (R.CN_CFG_EXCINT k) = false) :
    l.protocolException k = l.receiveError k 3 1 := if_neg (by rw [signals]; decide)

/-! ### Reception (R433, R434) -/

theorem Lane.canReceive_of_off {k : Can} (f : CanFrame) (off : l.canOn k = false ∨ l.canOff k = true) : l.canReceive k f = l :=
  if_pos (off.imp_left fun h => by rw [h]; rfl)

section
variable {k : Can} {f : CanFrame} (on : l.canOn k = true) (live : l.canOff k = false)
include on live

theorem Lane.canReceive_of_fd (fd : f.fdf = true) (classic : l.flag (R.CN_CFG_FD k) = false) :
    l.canReceive k f = l.protocolException k :=
  (if_neg (by rw [on, live]; decide)).trans (if_pos ⟨fd, by rw [classic]; rfl⟩)

theorem Lane.canReceive_of_good (fits : f.fdf = false ∨ l.flag (R.CN_CFG_FD k) = true) : l.canReceive k f =
    if f.remote then (l.goodFrame k).raise (R.CN_EVT_RXREM k)
    else match (List.finRange 64).find? ((l.goodFrame k).canMatch k f) with
      | some b => (l.goodFrame k).canStore k f b
      | none => (l.goodFrame k).bump (R.CN_CNT1_NOMATCH k) :=
  (if_neg (by rw [on, live]; decide)).trans (if_neg fun h => fits.elim (by simp [h.1]) (by simpa using h.2))

end

/-- A store leaves SSEQ two further, the frame's head and its 16 words, and says where it replaced a fresh one. -/
theorem Lane.canStore_effects (hl : l.Sound i) (k : Can) (f : CanFrame) (b : Fin 64) :
    (l.canStore k f b).get (R.CN_BID_ID k b) = f.id.toNat ∧ (l.canStore k f b).get (R.CN_BCTL_FRESH k b) = 1 ∧
      (l.canStore k f b).get (R.CN_BCTL_DLC k b) = f.dlc.val ∧
      (l.canStore k f b).get (R.CN_BCTL_SSEQ k b) = (l.get (R.CN_BCTL_SSEQ k b) + 2) % 16 ∧
      (∀ w : Fin 16, (l.canStore k f b).word (R.CN_BDAT k b w) = canWord f.data w) ∧
      (l.flag (R.CN_BCTL_FRESH k b) = true → (l.canStore k f b).flag (R.CN_EVT_RXREPL k) = true) := by
  have ctl := at_CN_BCTL k.isLt b.isLt
  have evt := ev_CN_EVT k.isLt
  unfold Lane.canStore
  extract_lets l1 l2 l3 l4 l5 l6 l7 l8
  have n1 : Lane.Near (2 ^ 245 ||| 2 ^ 254) l l1 := Lane.when_near (.refl _ hl) fun _ near =>
    Lane.raise_near (inEvt evt (by decide +kernel)) rfl (Lane.raise_near (inReg ctl (by decide +kernel)).1 rfl near)
  have s1 := n1.place hl
  have s2 : l2.Sound i := s1.put _ _
  have s3 : l3.Sound i := s2.put _ _
  have sfdf : (l3.putFlag (R.CN_BCTL_FDF k b) f.fdf).Sound i := s3.putFlag _ _
  have sbrs : ((l3.putFlag (R.CN_BCTL_FDF k b) f.fdf).putFlag (R.CN_BCTL_BRS k b) f.brs).Sound i := sfdf.putFlag _ _
  have s4 : l4.Sound i := sbrs.putFlag _ _
  have sesi : (l4.putFlag (R.CN_BCTL_ESI k b) f.esi).Sound i := s4.putFlag _ _
  have s5 : l5.Sound i := sesi.put _ _
  have s6 : l6.Sound i := s5.put _ _
  have s7 : l7.Sound i := Lane.sound_foldl_setWord s6 _ _ 16
  have s8 : l8.Sound i := s7.raise _
  have data : Lane.Near (2 ^ 255 ||| 2 ^ 256) l5 l7 :=
    Lane.near_foldl (fun _ _ small near => Lane.setWord_near
      (inReg (at_CN_BDAT k.isLt b.isLt (List.mem_range.1 small)) (by decide +kernel)) near)
      (Lane.put_near (inReg (at_CN_BSTM k.isLt b.isLt) (by decide +kernel)) (.refl _ s5))
  have head : Lane.Near (2 ^ 254) l3 l5 :=
    Lane.put_near (inReg ctl (by decide +kernel)) (Lane.putFlag_near (inReg ctl (by decide +kernel))
      (Lane.putFlag_near (inReg ctl (by decide +kernel)) (Lane.putFlag_near (inReg ctl (by decide +kernel))
        (Lane.putFlag_near (inReg ctl (by decide +kernel)) (.refl _ s3)))))
  have fresh : Lane.Near (2 ^ 254) l7 l8 := Lane.raise_near (inReg ctl (by decide +kernel)).1 rfl (.refl _ s7)
  have done : Lane.Near (2 ^ 613) l8 (l8.when (l8.get (R.CN_BCTL_OWN k b) == 2) fun l => l.onCan k fun c => { c with got := c.got ++ [b.val] }) :=
    Lane.when_near (.refl _ s8) fun _ near => Lane.onCan_near (f := _) (CanState.Near.mk kp kp kp kp kp (not_bit (by decide +kernel))) near
  generalize (l8.when (l8.get (R.CN_BCTL_OWN k b) == 2) fun l => l.onCan k fun c => { c with got := c.got ++ [b.val] }) = m at done
  -- what the last steps leave of the control word's fields
  have late {g : Fld} (ha : g.addr = R.CN_BCTL k b) (hlo : 1 ≤ g.lo) (hg : g.lo + g.width ≤ 32) : m.get g = l5.get g := by
    have row : regNo g.addr = 254 := ha ▸ ctl.1
    rw [done.keep row (by decide +kernel), ← data.keep row (by decide +kernel)]
    exact Lane.get_raise_of_disjoint s7.wf ha hg (.inl hlo)
  refine ⟨?_, ?_, ?_, ?_, fun w => ?_, fun old => ?_⟩
  · have row := (at_CN_BID k.isLt b.isLt).1
    rw [done.keep row (by decide +kernel), fresh.keep row (by decide +kernel), data.keep row (by decide +kernel),
      head.keep row (by decide +kernel)]
    exact (s2.get_put _ _).trans (Nat.mod_eq_of_lt f.id.isLt)
  · rw [done.keep ctl.1 (by decide +kernel)]
    exact Lane.get_raise s7.wf _ (show 0 < 32 by decide) rfl
  · rw [late rfl (show 1 ≤ 18 by decide) (show 18 + 4 ≤ 32 by decide)]
    exact (sesi.get_put _ _).trans (Nat.mod_eq_of_lt f.dlc.isLt)
  · rw [late rfl (show 1 ≤ 6 by decide) (show 6 + 4 ≤ 32 by decide)]
    have first : l1.get (R.CN_BCTL_SSEQ k b) = l.get (R.CN_BCTL_SSEQ k b) := by
      unfold l1 Lane.when
      split_ifs
      · exact (Lane.get_raise_elsewhere _ evt ctl.1).trans hl.get_raise_apart
      · rfl
    calc l5.get (R.CN_BCTL_SSEQ k b)
        = l4.get (R.CN_BCTL_SSEQ k b) := (sesi.get_put_apart _).trans (s4.get_putFlag_apart _)
      _ = l3.get (R.CN_BCTL_SSEQ k b) :=
          (sbrs.get_putFlag_apart _).trans ((sfdf.get_putFlag_apart _).trans (s3.get_putFlag_apart _))
      _ = l2.get (R.CN_BCTL_SSEQ k b) := Lane.get_put_elsewhere l2 _ (at_CN_BID k.isLt b.isLt).1 ctl.1
      _ = (l1.get (R.CN_BCTL_SSEQ k b) + 2) % 16 := s1.get_put _ _
      _ = (l.get (R.CN_BCTL_SSEQ k b) + 2) % 16 := by rw [first]
  · have row := (at_CN_BDAT k.isLt b.isLt w.isLt).1
    rw [done.word _ (by rw [row]; decide +kernel), fresh.word _ (by rw [row]; decide +kernel)]
    exact Lane.word_foldl_setWord s6 (fun w => canWord f.data w) (addr := fun w => R.CN_BDAT k b w) (fun x y same => by
      have : 0x0C0810 + 0x2000 * k.val + 0x50 * b.val + 0x4 * x = 0x0C0810 + 0x2000 * k.val + 0x50 * b.val + 0x4 * y := same
      omega) w.isLt
  · have noted : l1.flag (R.CN_EVT_RXREPL k) = true := by
      unfold l1
      rw [Lane.when_of_true _ old]
      exact Lane.flag_raise (hl.raise _).wf _ (show 7 < 32 by decide) rfl
    have placed : Lane.Near (allBut [245, 322]) l1 m :=
      ((Lane.put_near (M := allBut [245, 322]) (inReg (at_CN_BID k.isLt b.isLt) (by decide +kernel))
        (Lane.put_near (inReg ctl (by decide +kernel)) (.refl _ s1))).trans (head.mono (by decide +kernel))).trans
        (((data.mono (by decide +kernel)).trans (fresh.mono (by decide +kernel))).trans (done.mono (by decide +kernel)))
    exact placed.flag (by decide +kernel) (is_CN_EVT k.isLt) rfl noted

end

/-- CAN_FRAME_RECEIVED (R433). -/
theorem does_canFrameReceived (e : At) (k : Can) (f : CanFrame) (s : State) (hs : s.Runs e) :
    Does (.canFrameReceived e k f) s [.block 12, .log, .fresh, .can] fun l m =>
      (l.canOn k = false → m = l) ∧ (l.canOff k = true → m = l) ∧
      (l.canOn k = true → l.canOff k = false → f.fdf = true → l.flag (R.CN_CFG_FD k) = false →
        (l.flag (R.CN_CFG_EXCINT k) = true → m = l.drop (R.CN_STAT_IDLE k)) ∧
        (l.flag (R.CN_CFG_EXCINT k) = false → m.get (R.CN_STAT_LERR k) = 3 ∧
          m.get (R.CN_ERR_REC k) = min 65535 (l.get (R.CN_ERR_REC k) + 1))) ∧
      (l.canOn k = true → l.canOff k = false → f.fdf = false ∨ l.flag (R.CN_CFG_FD k) = true →
        (f.remote = true → m = (l.goodFrame k).raise (R.CN_EVT_RXREM k)) ∧
        (∀ b, f.remote = false → (List.finRange 64).find? ((l.goodFrame k).canMatch k f) = some b →
          m.get (R.CN_BID_ID k b) = f.id.toNat ∧ m.get (R.CN_BCTL_FRESH k b) = 1 ∧
            m.get (R.CN_BCTL_DLC k b) = f.dlc.val ∧
          m.get (R.CN_BCTL_SSEQ k b) = (l.get (R.CN_BCTL_SSEQ k b) + 2) % 16 ∧
          (∀ w : Fin 16, m.word (R.CN_BDAT k b w) = canWord f.data w) ∧
          (l.flag (R.CN_BCTL_FRESH k b) = true → m.flag (R.CN_EVT_RXREPL k) = true)) ∧
        (f.remote = false → (List.finRange 64).find? ((l.goodFrame k).canMatch k f) = none →
          m = (l.goodFrame k).bump (R.CN_CNT1_NOMATCH k))) := by
  refine does_logic hs rfl execCanFrameReceived_event rfl (by decide +kernel) fun hl => ?_
  generalize s.before (.canFrameReceived e k f) = l at hl
  have hl : l.Sound e.lane := hl
  refine ⟨fun off => Lane.canReceive_of_off f (.inl off), fun off => Lane.canReceive_of_off f (.inr off),
    fun on live fd classic => ?_, fun on live fits => ?_⟩
  · rw [Lane.canReceive_of_fd on live fd classic]
    refine ⟨Lane.protocolException_of_integrates, fun signals => ?_⟩
    rw [Lane.protocolException_of_signals signals]
    exact Lane.receiveError_effects hl k (by decide)
  · rw [Lane.canReceive_of_good on live fits]
    refine ⟨fun remote => if_pos remote, fun b data found => ?_, fun data missed => ?_⟩
    · have good : Lane.Near (confineMask ||| 2 ^ 244 ||| maskOf [.fresh]) l (l.goodFrame k) :=
        Lane.goodFrame_near (by decide +kernel) (.refl _ hl)
      have stored := Lane.canStore_effects (good.place hl) k f b
      have kept {g : Fld} (ha : g.addr = R.CN_BCTL k b) : (l.goodFrame k).get g = l.get g :=
        good.keep (ha ▸ (at_CN_BCTL k.isLt b.isLt).1) (by decide +kernel)
      rw [kept rfl, Lane.flag_of_get (kept (g := R.CN_BCTL_FRESH k b) rfl)] at stored
      rw [if_neg (by rw [data]; decide), found]
      exact stored
    · rw [if_neg (by rw [data]; decide), missed]

/-! ### Slots (R435 to R439) -/

section
variable {i : LaneId} {l : Lane} {k : Can} {n : Fin 64}

/-- A slot is due: its moment has come in a cycle of its own in which it has not fired. -/
def Lane.slotDue (l : Lane) (k : Can) (n : Fin 64) : Prop :=
  (4000 * l.get (R.CN_SCH_START k n) : Int) ≤ l.sinceCue ∧ l.canFires k n = true ∧ l.canFired k n = false

theorem Lane.canOpen_of_not_due (early : ¬l.slotDue k n) : l.canOpen k n = l := by
  have not_due : (decide ((4000 * l.get (R.CN_SCH_START k n) : Int) ≤ l.sinceCue) && l.canFires k n && !l.canFired k n) = false := by
    simpa [Lane.slotDue, ← Bool.not_eq_true, and_assoc] using early
  unfold Lane.canOpen
  simp only [not_due]
  exact if_pos (.inr (.inl rfl))

/-- What a due slot does, in the lane that has noted it. -/
theorem Lane.canOpen_of_due (due : l.slotDue k n) : l.canOpen k n =
    if !l.canOn k ∨ (l.get (R.CN_SCH_KIND k n) ≠ 1 ∧ l.get (R.CN_SCH_KIND k n) ≠ 2) then l.noteFired k n
    else if l.get (R.CN_SCH_KIND k n) = 2 ∧ !l.flag (R.CN_BCTL_READY k (l.bufIdx (R.CN_SCH_BUF k n))) then l.noteFired k n
    else if l.canOff k ∨ (l.get (R.CN_SCH_KIND k n) = 1 ∧ (l.noteFired k n).canUnclaimed k) ∨ l.get (R.CN_CFG_OPMODE k) = 2 then
      (l.noteFired k n).canMissed k (l.bufIdx (R.CN_SCH_BUF k n))
    else (((l.noteFired k n).raise (R.CN_STAT_SLOT k)).drop (R.CN_STAT_IDLE k)).onCan k fun c =>
      { c with slot := some (n, l.canFrameOf k (l.bufIdx (R.CN_SCH_BUF k n))) } := by
  obtain ⟨late, fires, new⟩ := due
  have isDue : (decide ((4000 * l.get (R.CN_SCH_START k n) : Int) ≤ l.sinceCue) && l.canFires k n && !l.canFired k n) = true := by
    rw [decide_eq_true late, fires, new]
    rfl
  unfold Lane.canOpen
  simp only [isDue, Bool.not_true, Bool.false_eq_true, false_or]
  rfl

/-- Noting that a slot fires changes the record of the fired slots alone. -/
theorem Lane.canUnclaimed_noteFired : (l.noteFired k n).canUnclaimed k = l.canUnclaimed k := by
  unfold Lane.canUnclaimed Lane.noteFired
  rw [Lane.can_onCan_self]
  rfl

theorem Lane.canFired_noteFired : (l.noteFired k n).canFired k n = true := by
  unfold Lane.canFired Lane.noteFired
  rw [Lane.can_onCan_self]
  show (l.get R.VR_CYCNUM_NUM == l.get R.VR_CYCNUM_NUM && _) = true
  rw [beq_self_eq_true, Bool.true_and]
  split_ifs <;> exact List.contains_iff_mem.2 (List.mem_cons_self ..)

theorem Lane.canFired_of_can {m : Lane} (fired : m.can[k].fired = l.can[k].fired) (firedIn : m.can[k].firedIn = l.can[k].firedIn)
    (cycle : m.get R.VR_CYCNUM_NUM = l.get R.VR_CYCNUM_NUM) : m.canFired k n = l.canFired k n := by
  unfold Lane.canFired
  rw [fired, firedIn, cycle]

theorem Lane.Sound.noteFired (hl : l.Sound i) : (l.noteFired k n).Sound i := hl

/-- A missed slot (R437). -/
theorem Lane.canMissed_effects (hl : l.Sound i) (b : Fin 64) :
    (l.canMissed k b).flag (R.CN_EVT_MISSED k) = true ∧ (l.canMissed k b).get (R.CN_BCTL_TXRES k b) = 5 ∧
      (l.canMissed k b).can = l.can ∧ (l.canMissed k b).get R.VR_CYCNUM_NUM = l.get R.VR_CYCNUM_NUM := by
  have s1 := hl.raise (R.CN_EVT_MISSED k)
  have s2 := s1.bump (R.CN_CNT1_MISSED k)
  have s3 := s2.put (R.CN_BCTL_TXRES k b) 5
  have ctl := (at_CN_BCTL k.isLt b.isLt).1
  have evt := ev_CN_EVT k.isLt
  have cnt := (at_CN_CNT1 k.isLt).1
  unfold Lane.canMissed
  refine ⟨Lane.flag_of_get ?_ |>.trans (Lane.flag_raise hl.wf _ (show 6 < 32 by decide) rfl), ?_, rfl, ?_⟩
  · rw [Lane.get_drop_elsewhere _ ctl evt, Lane.get_put_elsewhere _ _ ctl evt, Lane.get_bump_elsewhere _ cnt evt]
  · exact s3.get_drop_apart.trans (s2.get_put _ _)
  · rw [Lane.get_drop_elsewhere _ ctl at_VR_CYCNUM.1, Lane.get_put_elsewhere _ _ ctl at_VR_CYCNUM.1,
      Lane.get_bump_elsewhere _ cnt at_VR_CYCNUM.1, Lane.get_raise_elsewhere _ evt at_VR_CYCNUM.1]

/-- A slot that opens (R436). -/
def Lane.slotOpens (l : Lane) (k : Can) (n : Fin 64) (f : CanFrame) : Lane :=
  ((l.raise (R.CN_STAT_SLOT k)).drop (R.CN_STAT_IDLE k)).onCan k fun c => { c with slot := some (n, f) }

theorem Lane.slotOpens_effects (hl : l.Sound i) (f : CanFrame) :
    (l.slotOpens k n f).get (R.CN_STAT_SLOT k) = 1 ∧ (l.slotOpens k n f).get (R.CN_STAT_IDLE k) = 0 ∧
      (l.slotOpens k n f).can[k].slot = some (n, f) ∧ (l.slotOpens k n f).canFired k n = l.canFired k n := by
  have s1 := hl.raise (R.CN_STAT_SLOT k)
  have stat := (at_CN_STAT k.isLt).1
  unfold Lane.slotOpens
  rw [Lane.get_onCan, Lane.get_onCan, Lane.can_onCan_self]
  refine ⟨s1.get_drop_apart.trans (Lane.get_raise hl.wf _ (show 3 < 32 by decide) rfl),
    Lane.get_drop s1.wf _ (show 4 + 1 ≤ 32 by decide), rfl, Lane.canFired_of_can ?_ ?_ ?_⟩
  · rw [Lane.can_onCan_self]
    rfl
  · rw [Lane.can_onCan_self]
    rfl
  · rw [Lane.get_onCan, Lane.get_drop_elsewhere _ stat at_VR_CYCNUM.1, Lane.get_raise_elsewhere _ stat at_VR_CYCNUM.1]

end

/-- CAN_SLOT (R437). -/
theorem does_canSlot (e : At) (k : Can) (entry : Fin 64) (s : State) (hs : s.Runs e) :
    Does (.canSlot e k entry) s [.reg (R.CN_STAT 0), .reg (R.CN_EVT 0), .reg (R.CN_CNT1 0), .reg (R.CN_BCTL 0 0),
    .can] fun l m =>
      (l.canFires k entry = false → m = l) ∧ (l.canFired k entry = true → m = l) ∧
      (l.sinceCue < 4000 * l.get (R.CN_SCH_START k entry) → m = l) ∧ (l.canOn k = false → m.regs = l.regs) ∧
      (l.get (R.CN_SCH_KIND k entry) ≠ 1 → l.get (R.CN_SCH_KIND k entry) ≠ 2 → m.regs = l.regs) ∧
      (l.canOn k = true → l.canFires k entry = true → l.canFired k entry = false →
        4000 * (l.get (R.CN_SCH_START k entry) : Int) ≤ l.sinceCue →
        m.canFired k entry = true ∧
        (l.get (R.CN_SCH_KIND k entry) = 2 → l.flag (R.CN_BCTL_READY k (l.bufIdx (R.CN_SCH_BUF k entry))) = false →
          m.regs = l.regs) ∧
        (l.get (R.CN_SCH_KIND k entry) = 1 → l.canOff k = true ∨ l.canUnclaimed k = true ∨ l.get (R.CN_CFG_OPMODE k)
          = 2 →
          m.flag (R.CN_EVT_MISSED k) = true ∧ m.get (R.CN_BCTL_TXRES k (l.bufIdx (R.CN_SCH_BUF k entry))) = 5) ∧
        (l.get (R.CN_SCH_KIND k entry) = 1 ∨
            (l.get (R.CN_SCH_KIND k entry) = 2 ∧ l.flag (R.CN_BCTL_READY k (l.bufIdx (R.CN_SCH_BUF k entry))) = true) →
          l.canOff k = false → l.canUnclaimed k = false → l.get (R.CN_CFG_OPMODE k) ≠ 2 →
          m.get (R.CN_STAT_SLOT k) = 1 ∧ m.get (R.CN_STAT_IDLE k) = 0 ∧
          m.can[k].slot = some (entry, l.canFrameOf k (l.bufIdx (R.CN_SCH_BUF k entry))))) := by
  refine does_logic hs rfl execCanSlot_event rfl (by decide +kernel) fun hl => ?_
  generalize s.before (.canSlot e k entry) = l at hl
  have hl : l.Sound e.lane := hl
  have idle (bars : l.canOn k = false ∨ l.get (R.CN_SCH_KIND k entry) ≠ 1 ∧ l.get (R.CN_SCH_KIND k entry) ≠ 2) :
      (l.canOpen k entry).regs = l.regs := by
    by_cases due : l.slotDue k entry
    · rw [Lane.canOpen_of_due due, if_pos (bars.imp_left fun off => by rw [off]; rfl)]
      rfl
    · rw [Lane.canOpen_of_not_due due]
  refine ⟨fun rests => Lane.canOpen_of_not_due fun due => ?_, fun fired => Lane.canOpen_of_not_due fun due => ?_,
    fun early => Lane.canOpen_of_not_due fun due => absurd due.1 (not_le_of_gt early), fun off => idle (.inl off),
    fun fixed queue => idle (.inr ⟨fixed, queue⟩), fun on fires new late => ?_⟩
  · rw [due.2.1] at rests
    cases rests
  · rw [due.2.2] at fired
    cases fired
  · have hn : (l.noteFired k entry).Sound e.lane := hl.noteFired
    have missed := Lane.canMissed_effects (k := k) hn (l.bufIdx (R.CN_SCH_BUF k entry))
    have opens := Lane.slotOpens_effects (k := k) (n := entry) hn (l.canFrameOf k (l.bufIdx (R.CN_SCH_BUF k entry)))
    obtain ⟨evt, res, can, cycle⟩ := missed
    have fired : (l.canOpen k entry).canFired k entry = true := by
      rw [Lane.canOpen_of_due ⟨late, fires, new⟩]
      split_ifs
      · exact Lane.canFired_noteFired
      · exact Lane.canFired_noteFired
      · rw [Lane.canFired_of_can (l := l.noteFired k entry) (by rw [can]) (by rw [can]) cycle]
        exact Lane.canFired_noteFired
      · exact opens.2.2.2.trans Lane.canFired_noteFired
    refine ⟨fired, fun queue rests => ?_, fun fixed bars => ?_, fun kind live claimed mode => ?_⟩
    · rw [Lane.canOpen_of_due ⟨late, fires, new⟩, if_neg (by rw [on, queue]; decide), if_pos ⟨queue, by rw [rests]; rfl⟩]
      rfl
    · rw [Lane.canOpen_of_due ⟨late, fires, new⟩, if_neg (by rw [on, fixed]; decide), if_neg (by rw [fixed]; exact fun h => by cases h.1),
        if_pos (bars.imp_right (Or.imp_left fun open_ => ⟨fixed, Lane.canUnclaimed_noteFired.trans open_⟩))]
      exact ⟨evt, res⟩
    · rw [Lane.canOpen_of_due ⟨late, fires, new⟩, if_neg, if_neg, if_neg]
      · exact ⟨opens.1, opens.2.1, opens.2.2.1⟩
      · rintro (off | ⟨-, open_⟩ | listens)
        · rw [live] at off
          cases off
        · rw [Lane.canUnclaimed_noteFired, claimed] at open_
          cases open_
        · exact mode listens
      · rintro ⟨queue, rests⟩
        rcases kind with fixed | ⟨-, ready⟩
        · rw [fixed] at queue
          cases queue
        · rw [ready] at rests
          cases rests
      · rintro (off | ⟨fixed, queue⟩)
        · rw [on] at off
          cases off
        · exact kind.elim fixed fun k => queue k.1

/-! ### The end of a slot (R436, R437, R439) -/

section
variable {i : LaneId} {l : Lane} {k : Can}

/-- What the outcome of a slot may change. -/
def outcomeMask : Nat := confineMask ||| 2 ^ 244 ||| 2 ^ 246 ||| 2 ^ 247 ||| 2 ^ 254

/-- An acknowledged slot ends the run of unacknowledged ones and the solitude (R439). -/
theorem Lane.canAcked_effects (hl : l.Sound i) (b : Fin 64) :
    (l.canAcked k b).get (R.CN_CNT0_RUN k) = 0 ∧ (l.canAcked k b).get (R.CN_STAT_ALONE k) = 0 ∧
      (l.canAcked k b).get (R.CN_STAT_SLOT k) = l.get (R.CN_STAT_SLOT k) := by
  have s1 := hl.bump (R.CN_CNT0_SENT k)
  have s2 := s1.put (R.CN_CNT0_RUN k) 0
  have stat := (at_CN_STAT k.isLt).1
  have evt := ev_CN_EVT k.isLt
  unfold Lane.canAcked
  extract_lets l1 l2 l3
  have run1 : l1.get (R.CN_CNT0_RUN k) = 0 := s1.get_put _ _
  have slot1 : l1.get (R.CN_STAT_SLOT k) = l.get (R.CN_STAT_SLOT k) :=
    (Lane.get_put_elsewhere _ _ (at_CN_CNT0 k.isLt).1 stat).trans (Lane.get_bump_elsewhere _ (at_CN_CNT0 k.isLt).1 stat)
  have alone : l2.Sound i ∧ l2.get (R.CN_CNT0_RUN k) = 0 ∧ l2.get (R.CN_STAT_ALONE k) = 0 ∧
      l2.get (R.CN_STAT_SLOT k) = l.get (R.CN_STAT_SLOT k) := by
    unfold l2
    cases solitary : l1.flag (R.CN_STAT_ALONE k) with
    | true =>
      rw [Lane.when_of_true _ rfl, Lane.get_raise_elsewhere _ evt (at_CN_CNT0 k.isLt).1,
        Lane.get_drop_elsewhere _ stat (at_CN_CNT0 k.isLt).1, Lane.get_raise_elsewhere _ evt stat,
        Lane.get_raise_elsewhere _ evt stat]
      exact ⟨(Lane.Sound.drop s2 _).raise _, run1, Lane.get_drop s2.wf _ (show 2 + 1 ≤ 32 by decide),
        (Lane.Sound.get_drop_apart s2).trans slot1⟩
    | false =>
      rw [Lane.when_of_false _ rfl]
      exact ⟨s2, run1, Lane.get_of_flag_eq_false solitary, slot1⟩
  obtain ⟨s3, run2, alone2, slot2⟩ := alone
  have s4 : l3.Sound i := s3.put _ _
  have s5 := s4.put (R.CN_ERR_TEC k) (l3.get (R.CN_ERR_TEC k) - 1)
  have ctl := (at_CN_BCTL k.isLt b.isLt).1
  have err := (at_CN_ERR k.isLt).1
  refine ⟨?_, ?_, ?_⟩
  · rw [(Lane.confine_near_confineMask s5 k).keep (at_CN_CNT0 k.isLt).1 (by decide +kernel),
      Lane.get_put_elsewhere _ _ err (at_CN_CNT0 k.isLt).1]
    exact (Lane.get_put_elsewhere _ _ ctl (at_CN_CNT0 k.isLt).1).trans run2
  · rw [Lane.get_confine s5 k rfl (show 2 ≤ 2 by decide) (show 2 + 1 ≤ 32 by decide), Lane.get_put_elsewhere _ _ err stat]
    exact (Lane.get_put_elsewhere _ _ ctl stat).trans alone2
  · rw [Lane.get_confine s5 k rfl (show 2 ≤ 3 by decide) (show 3 + 1 ≤ 32 by decide), Lane.get_put_elsewhere _ _ err stat]
    exact (Lane.get_put_elsewhere _ _ ctl stat).trans slot2

/-- An acknowledgement error (R437). -/
theorem Lane.canUnacked_effects (hl : l.Sound i) (b : Fin 64) :
    (l.canUnacked k b).flag (R.CN_EVT_UNACK k) = true ∧ (l.canUnacked k b).get (R.CN_STAT_LERR k) = 2 ∧
      (l.canUnacked k b).get (R.CN_STAT_SLOT k) = l.get (R.CN_STAT_SLOT k) := by
  have stat := (at_CN_STAT k.isLt).1
  have evt := ev_CN_EVT k.isLt
  have ctl := (at_CN_BCTL k.isLt b.isLt).1
  have err := (at_CN_ERR k.isLt).1
  unfold Lane.canUnacked
  extract_lets passive l1 l2 l3
  have s0 := (hl.bump (R.CN_CNT0_UNACK k)).bump (R.CN_CNT0_RUN k)
  have sevt := s0.raise (R.CN_EVT_UNACK k)
  have s1 : l1.Sound i := sevt.put _ _
  have lerr1 : l1.get (R.CN_STAT_LERR k) = 2 := sevt.get_put _ _
  have unack1 : l1.flag (R.CN_EVT_UNACK k) = true :=
    (Lane.flag_of_get (Lane.get_put_elsewhere _ _ stat evt)).trans (Lane.flag_raise s0.wf _ (show 0 < 32 by decide) rfl)
  have n2 : Lane.Near (2 ^ 243 ||| 2 ^ 245) l1 l2 := Lane.when_near (.refl _ s1) fun _ near =>
    Lane.raise_near (inEvt evt (by decide +kernel)) rfl
      (Lane.raise_near (inReg (at_CN_STAT k.isLt) (by decide +kernel)).1 rfl near)
  have s2 := n2.place s1
  have slot1 : l1.get (R.CN_STAT_SLOT k) = l.get (R.CN_STAT_SLOT k) := by
    refine (sevt.get_put_apart 2).trans ?_
    rw [Lane.get_raise_elsewhere _ evt stat, Lane.get_bump_elsewhere _ (at_CN_CNT0 k.isLt).1 stat,
      Lane.get_bump_elsewhere _ (at_CN_CNT0 k.isLt).1 stat]
  have shown2 : l2.get (R.CN_STAT_LERR k) = 2 ∧ l2.get (R.CN_STAT_SLOT k) = l.get (R.CN_STAT_SLOT k) := by
    unfold l2 Lane.when
    split_ifs
    · exact ⟨(Lane.get_raise_elsewhere _ evt stat).trans (s1.get_raise_apart.trans lerr1),
        (Lane.get_raise_elsewhere _ evt stat).trans (s1.get_raise_apart.trans slot1)⟩
    · exact ⟨lerr1, slot1⟩
  have s3 : l3.Sound i := s2.put _ _
  have n4 : Lane.Near (2 ^ 244) l3 (l3.when (!passive) fun l => l.put (R.CN_ERR_TEC k) (l.get (R.CN_ERR_TEC k) + 8)) :=
    Lane.when_near (.refl _ s3) fun _ near => Lane.put_near (inReg (at_CN_ERR k.isLt) (by decide +kernel)) near
  have n3 : Lane.Near (2 ^ 254) l2 l3 := Lane.put_near (inReg (at_CN_BCTL k.isLt b.isLt) (by decide +kernel)) (.refl _ s2)
  have s4 := n4.place s3
  have late {g : Fld} (ha : g.addr = R.CN_STAT k) (hlo : 2 ≤ g.lo) (hg : g.lo + g.width ≤ 32) := Lane.get_confine s4 k ha hlo hg
  refine ⟨?_, ?_, ?_⟩
  · have after : Lane.Near outcomeMask l1 _ := ((n2.mono (by decide +kernel)).trans (n3.mono (by decide +kernel))).trans
      ((n4.mono (by decide +kernel)).trans ((Lane.confine_near_confineMask s4 k).mono (by decide +kernel)))
    exact after.flag (by decide +kernel) (is_CN_EVT k.isLt) rfl unack1
  · rw [late rfl (show 2 ≤ 5 by decide) (show 5 + 3 ≤ 32 by decide), n4.keep stat (by decide +kernel),
      n3.keep stat (by decide +kernel), shown2.1]
  · rw [late rfl (show 2 ≤ 3 by decide) (show 3 + 1 ≤ 32 by decide), n4.keep stat (by decide +kernel),
      n3.keep stat (by decide +kernel), shown2.2]

/-- A slot that ends in an error shows its code (R437). -/
theorem Lane.canOutcome_error (hl : l.Sound i) (b : Fin 64) (c : Fin 8) :
    (l.canOutcome k b (.error c)).get (R.CN_STAT_LERR k) = c.val ∧
      (l.canOutcome k b (.error c)).get (R.CN_STAT_SLOT k) = l.get (R.CN_STAT_SLOT k) := by
  have stat := (at_CN_STAT k.isLt).1
  have s1 := hl.bump (R.CN_CNT1_TXERR k)
  have s2 := s1.put (R.CN_STAT_LERR k) c
  have s3 := s2.put (R.CN_BCTL_TXRES k b) 3
  have late {g : Fld} (ha : g.addr = R.CN_STAT k) (hlo : 2 ≤ g.lo) (hg : g.lo + g.width ≤ 32) :
      (l.canOutcome k b (.error c)).get g = ((l.bump (R.CN_CNT1_TXERR k)).put (R.CN_STAT_LERR k) c).get g := by
    have row : regNo g.addr = 243 := ha ▸ stat
    show ((Lane.put _ (R.CN_ERR_TEC k) _).confine k).get _ = _
    rw [Lane.get_confine (s3.put _ _) k ha hlo hg, Lane.get_put_elsewhere _ _ (at_CN_ERR k.isLt).1 row,
      Lane.get_put_elsewhere _ _ (at_CN_BCTL k.isLt b.isLt).1 row]
  refine ⟨?_, ?_⟩
  · rw [late rfl (show 2 ≤ 5 by decide) (show 5 + 3 ≤ 32 by decide)]
    exact (s1.get_put (R.CN_STAT_LERR k) c).trans (Nat.mod_eq_of_lt c.isLt)
  · rw [late rfl (show 2 ≤ 3 by decide) (show 3 + 1 ≤ 32 by decide)]
    exact (s1.get_put_apart _).trans (Lane.get_bump_elsewhere _ (at_CN_CNT1 k.isLt).1 stat)

/-- Lost arbitration is counted (R437). -/
theorem Lane.canOutcome_arbLost (hl : l.Sound i) (b : Fin 64) :
    (l.canOutcome k b .arbLost).get (R.CN_CNT1_ARBLOST k) = min (l.get (R.CN_CNT1_ARBLOST k) + 1) 255 :=
  (Lane.get_put_elsewhere (l.bump (R.CN_CNT1_ARBLOST k)) _ (at_CN_BCTL k.isLt b.isLt).1 (at_CN_CNT1 k.isLt).1).trans
    (Lane.get_bump hl.wf (R.CN_CNT1_ARBLOST k) (show 16 + 8 ≤ 32 by decide))

/-- The slot is taken off the bus: its frame has been sent, unless it was not begun (R437). -/
def Lane.slotOver (l : Lane) (k : Can) (f : CanFrame) (r : SlotEnd) : Lane :=
  ((l.onCan k fun c => { c with slot := none }).drop (R.CN_STAT_SLOT k)).when (r != .notBegun) fun l => l.send (.canFrame k f)

theorem Lane.canClose_of_none (r : SlotEnd) (shut : l.can[k].slot = none) : l.canClose k r = l := by
  unfold Lane.canClose
  rw [shut]

theorem Lane.canClose_of_waiting {r : SlotEnd} {n : Fin 64} {f : CanFrame} (slot : l.can[k].slot = some (n, f))
    (waits : r = .notBegun ∧ 0 ≤ l.sinceCue ∧
      l.sinceCue < 4000 * ((l.get (R.CN_SCH_START k n) : Int) + l.get (R.CN_SCHCFG_WIN k)) ∧ l.canFired k n = true) :
    l.canClose k r = l := by
  unfold Lane.canClose
  rw [slot]
  exact if_pos waits

theorem Lane.canClose_of_over {r : SlotEnd} {n : Fin 64} {f : CanFrame} (slot : l.can[k].slot = some (n, f))
    (ended : r = .notBegun → l.sinceCue < 0 ∨
      4000 * ((l.get (R.CN_SCH_START k n) : Int) + l.get (R.CN_SCHCFG_WIN k)) ≤ l.sinceCue ∨ l.canFired k n = false) :
    l.canClose k r = (((l.slotOver k f r).canOutcome k (l.bufIdx (R.CN_SCH_BUF k n)) r).drop
      (R.CN_BCTL_READY k (l.bufIdx (R.CN_SCH_BUF k n)))).raise (R.CN_STAT_IDLE k) := by
  unfold Lane.canClose
  rw [slot]
  dsimp only
  rw [if_neg]
  · rfl
  · rintro ⟨unbegun, from_, until_, fired⟩
    rcases ended unbegun with early | late | gone
    · omega
    · omega
    · rw [gone] at fired
      cases fired

theorem Lane.slotOver_effects (hl : l.Sound i) (f : CanFrame) (r : SlotEnd) :
    (l.slotOver k f r).Sound i ∧ (l.slotOver k f r).can[k].slot = none ∧ (l.slotOver k f r).get (R.CN_STAT_SLOT k) = 0 ∧
      (r ≠ .notBegun → .canFrame k f ∈ (l.slotOver k f r).emit) ∧
      (l.slotOver k f r).get (R.CN_CNT1_ARBLOST k) = l.get (R.CN_CNT1_ARBLOST k) := by
  have s1 : (l.onCan k fun c => { c with slot := none }).Sound i := hl
  have slot : ((l.onCan k fun c => { c with slot := none }).drop (R.CN_STAT_SLOT k)).get (R.CN_STAT_SLOT k) = 0 :=
    Lane.get_drop s1.wf _ (show 3 + 1 ≤ 32 by decide)
  have count : ((l.onCan k fun c => { c with slot := none }).drop (R.CN_STAT_SLOT k)).get (R.CN_CNT1_ARBLOST k) =
      l.get (R.CN_CNT1_ARBLOST k) := Lane.get_drop_elsewhere _ (at_CN_STAT k.isLt).1 (at_CN_CNT1 k.isLt).1
  have can : ((l.onCan k fun c => { c with slot := none }).drop (R.CN_STAT_SLOT k)).can[k].slot = none :=
    congrArg CanState.slot (l.can_onCan_self k fun c => { c with slot := none })
  unfold Lane.slotOver Lane.when
  split_ifs with begun
  · exact ⟨s1.drop _, can, slot, fun _ => List.mem_cons_self .., count⟩
  · exact ⟨s1.drop _, can, slot, fun r => absurd (bne_iff_ne.2 r) begun, count⟩

/-- No outcome opens the slot anew. -/
theorem Lane.get_SLOT_canOutcome (hl : l.Sound i) (b : Fin 64) (r : SlotEnd) :
    (l.canOutcome k b r).get (R.CN_STAT_SLOT k) = l.get (R.CN_STAT_SLOT k) := by
  have stat := (at_CN_STAT k.isLt).1
  have ctl := (at_CN_BCTL k.isLt b.isLt).1
  have cnt := (at_CN_CNT1 k.isLt).1
  cases r with
  | acked => exact (Lane.canAcked_effects hl b).2.2
  | ackError => exact (Lane.canUnacked_effects hl b).2.2
  | error c => exact (Lane.canOutcome_error hl b c).2
  | arbLost => exact (Lane.get_put_elsewhere _ _ ctl stat).trans (Lane.get_bump_elsewhere _ cnt stat)
  | notBegun =>
    show ((Lane.put _ _ _).drop _).get _ = _
    rw [Lane.get_drop_elsewhere _ ctl stat, Lane.get_put_elsewhere _ _ ctl stat, Lane.get_bump_elsewhere _ cnt stat,
      Lane.get_raise_elsewhere _ (ev_CN_EVT k.isLt) stat]

end

/-- What a slot's end leaves after its outcome: the buffer is free and the controller idle, and reply segments may take buffers. -/
def restMask : Nat := 2 ^ 243 ||| 2 ^ 254 ||| 2 ^ 256 ||| maskOf [.seats]

/-- The frames that wait are loaded (R469). -/
theorem Lane.loadAll_near {i : LaneId} {l : Lane} (hl : l.Sound i) :
    Lane.Near (2 ^ 254 ||| 2 ^ 256 ||| maskOf [.seats]) l ((List.finRange 8).foldl (fun l s => l.loadCan s) l) :=
  Lane.near_foldl (fun _ _ _ near => Lane.loadCan_near (by decide +kernel) near) (.refl _ hl)

/-- The lane after the end of a slot, from the outcome on. -/
def Lane.slotDone (o : Lane) (k : Can) (b : Fin 64) : Lane :=
  (List.finRange 8).foldl (fun l s => l.loadCan s) ((o.drop (R.CN_BCTL_READY k b)).raise (R.CN_STAT_IDLE k))

theorem Lane.slotDone_effects {i : LaneId} {o : Lane} (ho : o.Sound i) (k : Can) (b : Fin 64) :
    Lane.Near restMask o (o.slotDone k b) ∧ (o.slotDone k b).get (R.CN_STAT_IDLE k) = 1 ∧
      ∀ g : Fld, g.addr = R.CN_STAT k → g.lo + g.width ≤ 32 → 5 ≤ g.lo ∨ g.lo + g.width ≤ 4 → (o.slotDone k b).get g = o.get g := by
  have stat := at_CN_STAT k.isLt
  have ctl := at_CN_BCTL k.isLt b.isLt
  have s1 := ho.drop (R.CN_BCTL_READY k b)
  have s2 := s1.raise (R.CN_STAT_IDLE k)
  have loaded := Lane.loadAll_near s2
  have idle : Lane.Near restMask o ((o.drop (R.CN_BCTL_READY k b)).raise (R.CN_STAT_IDLE k)) :=
    Lane.raise_near (inReg stat (by decide +kernel)).1 rfl (Lane.drop_near (inReg ctl (by decide +kernel)) (.refl _ ho))
  refine ⟨idle.trans (loaded.mono (by decide +kernel)), ?_, fun g ha hg apart => ?_⟩
  · exact (loaded.keep stat.1 (by decide +kernel)).trans (Lane.get_raise s1.wf _ (show 4 < 32 by decide) rfl)
  · have row : regNo g.addr = 243 := ha ▸ stat.1
    refine (loaded.keep row (by decide +kernel)).trans ?_
    rw [Lane.get_raise_of_disjoint s1.wf (f := R.CN_STAT_IDLE k) ha hg apart, Lane.get_drop_elsewhere _ ctl.1 row]

/-- CAN_SLOT_END (R437). -/
theorem does_canSlotEnd (e : At) (k : Can) (r : SlotEnd) (s : State) (hs : s.Runs e) :
    Does (.canSlotEnd e k r) s [.block 12, .log, .emit, .seats, .can] fun l m =>
      (∀ i f, l.can[k].slot = some (i, f) →
        (r = .notBegun → 0 ≤ l.sinceCue →
          l.sinceCue < 4000 * ((l.get (R.CN_SCH_START k i) : Int) + l.get (R.CN_SCHCFG_WIN k)) → l.canFired k i = true →
          m.can[k].slot = some (i, f)) ∧
        ((r = .notBegun → l.sinceCue < 0 ∨
            4000 * ((l.get (R.CN_SCH_START k i) : Int) + l.get (R.CN_SCHCFG_WIN k)) ≤ l.sinceCue ∨ l.canFired k i =
              false) →
          m.can[k].slot = none ∧ m.get (R.CN_STAT_SLOT k) = 0 ∧ m.get (R.CN_STAT_IDLE k) = 1 ∧
          (r ≠ .notBegun → .canFrame k f ∈ m.emit) ∧
          (r = .acked → m.get (R.CN_CNT0_RUN k) = 0 ∧ m.get (R.CN_STAT_ALONE k) = 0) ∧
          (r = .ackError → m.flag (R.CN_EVT_UNACK k) = true ∧ m.get (R.CN_STAT_LERR k) = 2) ∧
          (∀ c, r = .error c → m.get (R.CN_STAT_LERR k) = c.val) ∧
          (r = .arbLost → m.get (R.CN_CNT1_ARBLOST k) = min (l.get (R.CN_CNT1_ARBLOST k) + 1) 255) ∧
          (r = .notBegun → m.flag (R.CN_EVT_MISSED k) = true))) := by
  refine does_logic hs rfl execCanSlotEnd_event rfl (by decide +kernel) fun hl => ?_
  generalize s.before (.canSlotEnd e k r) = l at hl
  have hl : l.Sound e.lane := hl
  refine fun n f slot => ⟨fun unbegun from_ until_ fired => ?_, fun ended => ?_⟩
  · rw [Lane.canClose_of_waiting slot ⟨unbegun, from_, until_, fired⟩, ((Lane.loadAll_near hl).can k).slot (by decide +kernel), slot]
  · have whole : (List.finRange 8).foldl (fun l s => l.loadCan s) (l.canClose k r) =
        ((l.slotOver k f r).canOutcome k (l.bufIdx (R.CN_SCH_BUF k n)) r).slotDone k (l.bufIdx (R.CN_SCH_BUF k n)) := by
      rw [Lane.canClose_of_over slot ended]
      rfl
    rw [whole]
    obtain ⟨s1, shut, off, sent, count⟩ := Lane.slotOver_effects (k := k) hl f r
    generalize l.slotOver k f r = o at s1 shut off sent count
    generalize l.bufIdx (R.CN_SCH_BUF k n) = b
    have outcome : Lane.Near outcomeMask o (o.canOutcome k b r) := Lane.canOutcome_near (by decide +kernel) (.refl _ s1)
    have off2 := (Lane.get_SLOT_canOutcome (k := k) s1 b r).trans off
    obtain ⟨done, idle, kept⟩ := Lane.slotDone_effects (outcome.place s1) k b
    refine ⟨?_, (kept _ rfl (show 3 + 1 ≤ 32 by decide) (.inr (show 3 + 1 ≤ 4 by decide))).trans off2, idle, fun begun => ?_, ?_, ?_, ?_,
      ?_, ?_⟩
    · rw [(done.can k).slot (by decide +kernel), (outcome.can k).slot (by decide +kernel), shut]
    · rw [done.emit (by decide +kernel), outcome.emit (by decide +kernel)]
      exact sent begun
    · rintro rfl
      obtain ⟨run, alone, -⟩ := Lane.canAcked_effects (k := k) s1 b
      exact ⟨(done.keep (at_CN_CNT0 k.isLt).1 (by decide +kernel)).trans run,
        (kept _ rfl (show 2 + 1 ≤ 32 by decide) (.inr (show 2 + 1 ≤ 4 by decide))).trans alone⟩
    · rintro rfl
      obtain ⟨unack, lerr, -⟩ := Lane.canUnacked_effects (k := k) s1 b
      exact ⟨done.flag (by decide +kernel) (is_CN_EVT k.isLt) rfl unack,
        (kept _ rfl (show 5 + 3 ≤ 32 by decide) (.inl (show 5 ≤ 5 by decide))).trans lerr⟩
    · rintro c rfl
      exact (kept _ rfl (show 5 + 3 ≤ 32 by decide) (.inl (show 5 ≤ 5 by decide))).trans (Lane.canOutcome_error (k := k) s1 b c).1
    · rintro rfl
      rw [done.keep (at_CN_CNT1 k.isLt).1 (by decide +kernel), Lane.canOutcome_arbLost s1 b, count]
    · rintro rfl
      exact done.flag (by decide +kernel) (is_CN_EVT k.isLt) rfl (Lane.canMissed_effects (k := k) s1 b).1

/-! ### Bus-off and recovery (R441) -/

theorem Lane.canRecover_of_busOff {l : Lane} {k : Can} (off : l.get (R.CN_STAT_STATE k) = 2) :
    l.canRecover k = l.put (R.CN_STAT_STATE k) 3 := if_pos off

/-- BUS_OFF_DELAY (R441). -/
theorem does_busOffDelay (e : At) (k : Can) (s : State) (hs : s.Runs e) :
    Does (.busOffDelay e k) s [.reg (R.CN_STAT 0)] fun l m =>
      (l.can[k].offSince = none → m = l) ∧ (l.get (R.CN_BOREC_MAX k) ≤ l.get (R.CN_BOREC_BOCNT k) → m = l) ∧
      (∀ t, l.can[k].offSince = some t → l.now < t + ms (l.get (R.CN_BOREC_DELAY k)) → m = l) ∧
      (∀ t, l.can[k].offSince = some t → t + ms (l.get (R.CN_BOREC_DELAY k)) ≤ l.now →
        l.get (R.CN_BOREC_BOCNT k) < l.get (R.CN_BOREC_MAX k) → l.get (R.CN_STAT_STATE k) = 2 →
          m.get (R.CN_STAT_STATE k) = 3) := by
  refine does_logic hs rfl execBusOffDelay_event rfl (by decide +kernel) fun hl => ?_
  generalize s.before (.busOffDelay e k) = l at hl
  have hl : l.Sound e.lane := hl
  cases off : l.can[k].offSince with
  | none => exact ⟨fun _ => rfl, fun _ => rfl, nofun, nofun⟩
  | some t =>
    dsimp only
    refine ⟨nofun, fun many => if_neg fun h => absurd many (Nat.not_le_of_lt h.2), fun u same early => ?_, fun u same late few state => ?_⟩
    · cases same
      exact if_neg fun h => absurd (of_decide_eq_true h.1) (Nat.not_le_of_lt early)
    · cases same
      rw [if_pos ⟨decide_eq_true late, few⟩, Lane.canRecover_of_busOff state]
      exact hl.get_put _ _

/-- RECOVER (R441). -/
theorem does_recover (e : At) (k : Can) (s : State) (hs : s.Runs e) :
    Does (.recover e k) s [.reg (R.CN_STAT 0)] fun l m =>
      (l.get (R.CN_STAT_STATE k) ≠ 2 → m = l) ∧ (l.get (R.CN_STAT_STATE k) = 2 → m.get (R.CN_STAT_STATE k) = 3) := by
  refine does_logic hs rfl execRecover_event rfl (by decide +kernel) fun hl => ?_
  generalize s.before (.recover e k) = l at hl
  have hl : l.Sound e.lane := hl
  refine ⟨fun other => if_neg other, fun off => ?_⟩
  rw [Lane.canRecover_of_busOff off]
  exact hl.get_put _ _

/-- RECOVERY_DONE (R441). -/
theorem does_recoveryDone (e : At) (k : Can) (s : State) (hs : s.Runs e) :
    Does (.recoveryDone e k) s [.reg (R.CN_STAT 0), .reg (R.CN_ERR 0), .reg (R.CN_EVT 0), .can] fun l m =>
      (l.get (R.CN_STAT_STATE k) ≠ 3 → m = l) ∧
      (l.get (R.CN_STAT_STATE k) = 3 → m.get (R.CN_STAT_STATE k) = 0 ∧ m.get (R.CN_ERR_TEC k) = 0 ∧
        m.get (R.CN_ERR_REC k) = 0 ∧
        m.flag (R.CN_EVT_RECOVERED k) = true) := by
  refine does_logic hs rfl execRecoveryDone_event rfl (by decide +kernel) fun hl => ?_
  generalize s.before (.recoveryDone e k) = l at hl
  have hl : l.Sound e.lane := hl
  refine ⟨fun other => if_neg other, fun recovering => ?_⟩
  rw [if_pos recovering]
  have stat := (at_CN_STAT k.isLt).1
  have err := (at_CN_ERR k.isLt).1
  have evt := ev_CN_EVT k.isLt
  have s1 := hl.put (R.CN_STAT_STATE k) 0
  have s2 := s1.put (R.CN_ERR_TEC k) 0
  have s3 := s2.put (R.CN_ERR_REC k) 0
  dsimp only
  rw [Lane.get_onCan, Lane.get_onCan, Lane.get_onCan, Lane.onCan_flag, Lane.get_raise_elsewhere _ evt stat, Lane.get_raise_elsewhere _ evt err,
    Lane.get_raise_elsewhere _ evt err, Lane.get_put_elsewhere _ _ err stat, Lane.get_put_elsewhere _ _ err stat]
  exact ⟨hl.get_put _ _, (s2.get_put_apart 0).trans (s1.get_put _ _), s2.get_put _ _,
    Lane.flag_raise s3.wf _ (show 5 < 32 by decide) rfl⟩

/-! ### Acknowledgement and address claim (R431, R434) -/

/-- FRESH_ACK (R434). -/
theorem does_freshAck (e : At) (k : Can) (b : Fin 64) (seen : BitVec 4) (s : State) (hs : s.Runs e) :
    Does (.freshAck e k b seen) s [.reg (R.CN_BCTL 0 0)] fun l m =>
      (l.get (R.CN_BCTL_SSEQ k b) ≠ seen.toNat → m = l) ∧
      (l.get (R.CN_BCTL_SSEQ k b) = seen.toNat → m.get (R.CN_BCTL_FRESH k b) = 0) := by
  refine does_logic hs rfl execFreshAck_event rfl (by decide +kernel) fun hl => ?_
  generalize s.before (.freshAck e k b seen) = l at hl
  unfold Lane.ackBuffer
  refine ⟨fun stale => if_neg stale, fun present => ?_⟩
  rw [if_pos present]
  exact Lane.get_drop hl.wf _ (show 0 + 1 ≤ 32 by decide)

/-- ADDRESS_CLAIM (R431). -/
theorem does_addressClaim (e : At) (k : Can) (b : Fin 64) (won : Option Bool) (s : State) (hs : s.Runs e) :
    Does (.addressClaim e k b won) s [.reg (R.CN_BCTL 0 0), .can] fun l m =>
      (won = none → l.get (R.CN_BCTL_OWN k b) ≠ 1 → m = l) ∧
      (won = none → l.get (R.CN_BCTL_OWN k b) = 1 → m.get (R.CN_BCTL_READY k b) = 1) ∧
      (∀ w, won = some w → m.can[k].claimed = w ∧ m.regs = l.regs) := by
  refine does_logic hs rfl execAddressClaim_event rfl (by decide +kernel) fun hl => ?_
  generalize s.before (.addressClaim e k b won) = l at hl
  cases won with
  | none =>
    refine ⟨fun _ other => if_neg other, fun _ owned => ?_, nofun⟩
    dsimp only
    rw [if_pos owned]
    exact Lane.get_raise hl.wf _ (show 26 < 32 by decide) rfl
  | some w =>
    refine ⟨nofun, nofun, fun v same => ?_⟩
    cases same
    exact ⟨congrArg CanState.claimed (l.can_onCan_self k fun c => { c with claimed := w }), rfl⟩

/-- CAN_RECEIVE_ERROR (R440). -/
theorem does_canReceiveError (e : At) (k : Can) (code : Option (Fin 8)) (eight : Bool) (s : State) (hs : s.Runs e) :
    Does (.canReceiveError e k code eight) s [.reg (R.CN_STAT 0), .reg (R.CN_ERR 0), .reg (R.CN_EVT 0),
    .reg (R.CN_BOREC 0), .log, .can] fun l m =>
      (l.canOn k = false → m = l) ∧ (l.canOff k = true → m = l) ∧
      (l.canOn k = true → l.canOff k = false →
        (∀ c, code = some c → m.get (R.CN_STAT_LERR k) = c.val ∧
          m.get (R.CN_ERR_REC k) = min 65535 (l.get (R.CN_ERR_REC k) + if eight then 8 else 1)) ∧
        (code = none → l.flag (R.CN_CFG_EXCINT k) = true → m = l.drop (R.CN_STAT_IDLE k)) ∧
        (code = none → l.flag (R.CN_CFG_EXCINT k) = false → m.get (R.CN_STAT_LERR k) = 3 ∧
          m.get (R.CN_ERR_REC k) = min 65535 (l.get (R.CN_ERR_REC k) + 1))) := by
  refine does_logic hs rfl execCanReceiveError_event rfl (by decide +kernel) fun hl => ?_
  generalize s.before (.canReceiveError e k code eight) = l at hl
  refine ⟨fun off => if_pos (.inl (by rw [off]; rfl)), fun off => if_pos (.inr off), fun on live => ?_⟩
  rw [if_neg (by rw [on, live]; decide)]
  cases code with
  | some c =>
    refine ⟨fun d same => ?_, nofun, nofun⟩
    cases same
    exact Lane.receiveError_effects hl k c.isLt
  | none =>
    refine ⟨nofun, fun _ integrates => Lane.protocolException_of_integrates integrates, fun _ signals => ?_⟩
    dsimp only
    rw [Lane.protocolException_of_signals signals]
    exact Lane.receiveError_effects hl k (by decide)

/-- Settles O42, command by command. -/
theorem canBus : Obligations.CanBus := by
  unfold Obligations.CanBus
  exact ⟨does_canFrameReceived, does_canSlot, does_canSlotEnd, does_busOffDelay, does_recover, does_recoveryDone, does_freshAck,
    does_addressClaim, does_canReceiveError⟩

end Sys2Proof.Machine

/-!
PROOFS. Local opcodes, and those that only report (R477, R482, R335, R529, R531).
-/

namespace Sys2Proof.Machine

-- one declaration at a time: each waits for the kernel, and a waiting one holds a thread and its stack
set_option Elab.async false

/-! ### Local opcodes (R477) -/

section
variable {i : LaneId} {l : Lane} {h : Hdr} {path : Option Path} {op : Op}

/-- A lane that a local opcode does not name ignores it. -/
theorem Lane.perform_local_of_unnamed (unnamed : ¬l.named h) (here : opLocal op = true) : l.perform h path op = l := by
  rw [Lane.perform_of_unnamed unnamed]
  exact if_pos here

/-- A named lane executes a local opcode without a count, or answers why not. -/
theorem Lane.perform_local_of_named (named : l.named h) (here : opLocal op = true) (soon : opAtCycle op = false) :
    l.perform h path op = match l.opRefused h op with
      | some st => l.answer h path st []
      | none => l.runOp h path op := by
  have uncounted : l.when (!opLocal op) (fun l => l.bump R.HS_CNT3_EXEC) = l := by rw [here]; rfl
  unfold Lane.perform
  rw [if_neg (by rw [named]; decide), uncounted]
  dsimp only
  cases l.opRefused h op with
  | none => rfl
  | some st => exact if_neg fun late => by rw [soon] at late; exact nomatch late.1

theorem Lane.perform_local_of_allows (here : opLocal op = true) (soon : opAtCycle op = false) (a : l.allows h op) :
    l.perform h path op = l.runOp h path op := by
  rw [Lane.perform_local_of_named a.1 here soon, a.2]

/-- A lane turns away a local opcode as R470 and R477 say. -/
theorem turnedAway_perform_local (hl : l.Sound i) (here : opLocal op = true) (soon : opAtCycle op = false) :
    TurnedAway l (l.perform h path op) h path op := by
  refine ⟨fun unnamed => ?_, fun st named refused => ?_⟩
  · rw [if_pos here]
    exact Lane.perform_local_of_unnamed unnamed here
  · rw [if_neg (by rw [soon]; exact fun h => nomatch h.1), Lane.perform_local_of_named named here soon, refused]
    exact answered_answer hl rfl rfl rfl _ _ _ _

/-- An opcode that only reports is turned away or answered with its report. -/
theorem answered_report (hl : l.Sound i) (here : opLocal op = true) (soon : opAtCycle op = false) (st : Status)
    (b : List Byte) (reports : l.allows h op → l.runOp h path op = l.answer h path st b) (a : l.allows h op) :
    Answered l (l.perform h path op) h path st b := by
  rw [Lane.perform_local_of_allows here soon a, reports a]
  exact answered_answer hl rfl rfl rfl _ _ _ _

end

/-! ### The opcodes that only report (R482) -/

theorem length_beBytes (n v : Nat) : (beBytes n v).length = n := by
  induction n with
  | zero => rfl
  | succ n ih => exact congrArg (· + 1) ih

/-- The report of LOG_INFO has 24 bytes (R482). -/
theorem Lane.logInfo_eq_answer (l : Lane) (h : Hdr) (path : Option Path) :
    ∃ b : List Byte, l.logInfo h path = l.answer h path .ok b ∧ b.length = 24 :=
  ⟨_, rfl, by simp only [List.length_append, length_beBytes]⟩

theorem does_logInfo (e : At) (h : Hdr) (path : Option Path) (s : State) (hs : s.Runs e) :
    Does (.logInfo e h path) s replyParts fun l m =>
      TurnedAway l m h path .logInfo ∧
      (l.allows h .logInfo → ∃ b : List Byte, Answered l m h path .ok b ∧ b.length = 24) := by
  refine does_logic hs rfl execLogInfo_event rfl (by decide +kernel) fun hl => ?_
  generalize s.before (.logInfo e h path) = l at hl
  obtain ⟨b, report, length⟩ := l.logInfo_eq_answer h path
  exact ⟨turnedAway_perform_local hl rfl rfl, fun a => ⟨b, answered_report hl rfl rfl _ _ (fun _ => report) a, length⟩⟩

theorem does_idCert (e : At) (h : Hdr) (path : Option Path) (index offset : Nat) (s : State) (hs : s.Runs e) :
    Does (.idCert e h path index offset) s replyParts fun l m =>
      TurnedAway l m h path (.idCert index offset) ∧
      (l.allows h (.idCert index offset) → 2 < index → Answered l m h path (.param 7) []) ∧
      (l.allows h (.idCert index offset) → index ≤ 2 → Answered l m h path .ok
        (beBytes 2 (Config.certificate l.id index).length ++ ((Config.certificate l.id index).drop offset).take
          1022)) := by
  refine does_logic hs rfl execIdCert_event rfl (by decide +kernel) fun hl => ?_
  generalize s.before (.idCert e h path index offset) = l at hl
  exact ⟨turnedAway_perform_local hl rfl rfl,
    fun a none => answered_report hl rfl rfl _ _ (fun _ => if_pos none) a,
    fun a held => answered_report hl rfl rfl _ _ (fun _ => if_neg (Nat.not_lt.2 held)) a⟩

/-- Settles O46: each is a local opcode whose execution is one answer. -/
theorem reportOpcodes : Obligations.ReportOpcodes := by
  unfold Obligations.ReportOpcodes
  refine ⟨fun e h path data s hs => ?_, fun e h path s hs => ?_, fun e h path s hs => ?_, does_logInfo,
    fun e h path s hs => ?_, fun e h path arrival s hs => ?_, fun e h path s hs => ?_, does_idCert,
    fun e h path s hs => ?_, fun e h path s hs => ?_⟩
  · exact does_logic hs rfl execPing_event rfl (by decide +kernel) fun hl =>
      ⟨turnedAway_perform_local hl rfl rfl, answered_report hl rfl rfl _ _ fun _ => rfl⟩
  · exact does_logic hs rfl execPbStatus_event rfl (by decide +kernel) fun hl =>
      ⟨turnedAway_perform_local hl rfl rfl, answered_report hl rfl rfl _ _ fun _ => rfl⟩
  · exact does_logic hs rfl execRehReport_event rfl (by decide +kernel) fun hl =>
      ⟨turnedAway_perform_local hl rfl rfl, answered_report hl rfl rfl _ _ fun _ => rfl⟩
  · exact does_logic hs rfl execTimeRead_event rfl (by decide +kernel) fun hl =>
      ⟨turnedAway_perform_local hl rfl rfl, answered_report hl rfl rfl _ _ fun _ => rfl⟩
  · exact does_logic hs rfl execTimeEcho_event rfl (by decide +kernel) fun hl =>
      ⟨turnedAway_perform_local hl rfl rfl, answered_report hl rfl rfl _ _ fun _ => rfl⟩
  · exact does_logic hs rfl execIdInfo_event rfl (by decide +kernel) fun hl =>
      ⟨turnedAway_perform_local hl rfl rfl, answered_report hl rfl rfl _ _ fun _ => rfl⟩
  · exact does_logic hs rfl execFwStatus_event rfl (by decide +kernel) fun hl =>
      ⟨turnedAway_perform_local hl rfl rfl, answered_report hl rfl rfl _ _ fun _ => rfl⟩
  · exact does_logic hs rfl execSafetyStatus_event rfl (by decide +kernel) fun hl =>
      ⟨turnedAway_perform_local hl rfl rfl, answered_report hl rfl rfl _ _ fun _ => rfl⟩

end Sys2Proof.Machine

/-!
PROOFS. The spotlight: its lease, renewal, release, requests and STOP (R482, R488 to R493, R582).
-/

namespace Sys2Proof.Machine

-- one declaration at a time: each waits for the kernel, and a waiting one holds a thread and its stack
set_option Elab.async false

/-- Within a mask that holds no part of it the record of the seats stays as it is. -/
theorem SeatState.Near.eq {M : Nat} {x y : SeatState} (h : SeatState.Near M x y) (m : M &&& maskOf [.seats] = 0) : y = x := by
  have part : ∀ k < 19, (maskOf [.seats]).testBit (440 + k) = true := by decide +kernel
  have out (k : Nat) (hk : k < 19) : M.testBit (440 + k) = false := testBit_of_and_eq_zero m (part k hk)
  obtain ⟨buffered, replies, ringReplies, canOut, canNum, transfers, stored, seen, requests, reserved, cancelled, grantNext,
    endNext, gap, endedAt, stopNext, modeReqs, sessionHigh, sequenced⟩ := h
  cases x
  cases y
  rw [SeatState.mk.injEq]
  exact ⟨buffered (out 0 (by decide)), replies (out 1 (by decide)), ringReplies (out 2 (by decide)),
    canOut (out 3 (by decide)), canNum (out 4 (by decide)), transfers (out 5 (by decide)), stored (out 6 (by decide)),
    seen (out 7 (by decide)), requests (out 8 (by decide)), reserved (out 9 (by decide)), cancelled (out 10 (by decide)),
    grantNext (out 11 (by decide)), endNext (out 12 (by decide)), gap (out 13 (by decide)), endedAt (out 14 (by decide)),
    stopNext (out 15 (by decide)), modeReqs (out 16 (by decide)), sessionHigh (out 17 (by decide)),
    sequenced (out 18 (by decide))⟩

/-! ### What the registers of the spotlight show -/

section
variable {M : Nat} {i : LaneId} {l m : Lane}

/-- The end cycle is read off HS_SPOTEND. -/
theorem Lane.Near.endCycle (near : Lane.Near M l m) (lo : M.testBit 305 = false) (hi : M.testBit 306 = false) :
    m.endCycle = l.endCycle := by
  unfold Lane.endCycle
  rw [near.keep at_HS_SPOTEND_HI.1 hi, near.keep at_HS_SPOTEND_LO.1 lo]

/-- The length of a lease is read off HS_SPOTCFG and the length of a cycle. -/
theorem Lane.Near.leaseCycles (near : Lane.Near M l m) (cfg : M.testBit 307 = false) (cyc : M.testBit 205 = false) :
    m.leaseCycles = l.leaseCycles := by
  unfold Lane.leaseCycles Lane.beats
  rw [near.keep at_HS_SPOTCFG.1 cfg, near.keep at_VR_CYC.1 cyc]

/-- The seat that holds or is reserved is read off HS_SPOT. -/
theorem Lane.spotOwner_of_word (spot : m.word R.HS_SPOT = l.word R.HS_SPOT) : m.spotOwner = l.spotOwner := by
  have same {f : Fld} (at_ : f.addr = R.HS_SPOT) : m.get f = l.get f := by
    unfold Lane.get
    rw [at_, spot]
  unfold Lane.spotOwner Lane.flag
  rw [same (f := R.HS_SPOT_HELD) rfl, same (f := R.HS_SPOT_HOLDER) rfl, same (f := R.HS_SPOT_RESV) rfl,
    same (f := R.HS_SPOT_RSEAT) rfl]

theorem Lane.Near.spotOwner (near : Lane.Near M l m) (spot : M.testBit 304 = false) : m.spotOwner = l.spotOwner :=
  Lane.spotOwner_of_word (near.word _ (by rw [at_HS_SPOT.1]; exact spot))

/-- Whether a seat holds the spotlight is read off HS_SPOT, HS_SPOTEND and the cycle. -/
theorem Lane.Near.holdsSpot (near : Lane.Near M l m) (s : Seat) (spot : M.testBit 304 = false) (lo : M.testBit 305 = false)
    (hi : M.testBit 306 = false) (cycle : M.testBit 473 = false) : m.holdsSpot s = l.holdsSpot s := by
  unfold Lane.holdsSpot Lane.flag
  rw [near.keep (f := R.HS_SPOT_HELD) at_HS_SPOT.1 spot, near.keep (f := R.HS_SPOT_HOLDER) at_HS_SPOT.1 spot,
    near.endCycle lo hi, near.mode_.cycle cycle]

/-- What SPOT_QUERY reports is read off HS_SPOT, HS_SPOTCFG and the length of a cycle. -/
theorem Lane.Near.spotBytes (near : Lane.Near M l m) (c : Nat) (spot : M.testBit 304 = false) (cfg : M.testBit 307 = false)
    (cyc : M.testBit 205 = false) : m.spotBytes c = l.spotBytes c := by
  unfold Lane.spotBytes
  rw [near.word _ (by rw [at_HS_SPOT.1]; exact spot), near.leaseCycles cfg cyc, near.keep at_HS_SPOTCFG.1 cfg]

theorem Lane.holdsSpot_iff (s : Seat) : l.holdsSpot s = true ↔
    l.flag R.HS_SPOT_HELD = true ∧ l.get R.HS_SPOT_HOLDER = s.val ∧ l.mode_.cycle < l.endCycle := by
  unfold Lane.holdsSpot
  rw [Bool.and_eq_true, Bool.and_eq_true, beq_iff_eq, decide_eq_true_eq, and_assoc]

/-- The count of executions lies in a register of its own. -/
theorem Lane.near_counted (hl : l.Sound i) : Lane.Near (2 ^ 313) l l.counted :=
  Lane.bump_near (inReg at_HS_CNT3 (by decide +kernel)) (.refl _ hl)

/-- An end cycle of 64 bits reads back. -/
theorem Lane.Sound.endCycle_setEndCycle (hl : l.Sound i) {c : Nat} (fits : c < 2 ^ 64) : (l.setEndCycle c).endCycle = c := by
  unfold Lane.endCycle Lane.setEndCycle Lane.put64
  rw [(hl.put _ _).get_put R.HS_SPOTEND_HI_END, Lane.get_put_elsewhere _ _ at_HS_SPOTEND_HI.1 at_HS_SPOTEND_LO.1,
    hl.get_put R.HS_SPOTEND_LO_END]
  show c / 2 ^ 32 % 2 ^ 32 * 2 ^ 32 + c % 2 ^ 32 % 2 ^ 32 = c
  omega

theorem Lane.Sound.setEndCycle (hl : l.Sound i) (c : Nat) : (l.setEndCycle c).Sound i := (hl.put _ _).put _ _

end

/-! ### What the end of a lease shows (R491, R493) -/

section
variable {i : LaneId} {l : Lane} (hl : l.Sound i)
include hl

/-- The default changes two flags of HS_SPOT. -/
theorem Lane.get_startDefault (stop : Bool) {f : Fld} (spot : f.addr = R.HS_SPOT) (fits : (f.lo + f.width).ble 32 = true)
    (apart : ((f.lo + f.width).ble 19 || (21 : Nat).ble f.lo) = true) : (l.startDefault stop).get f = l.get f := by
  have same : (l.startDefault stop).get f = ((l.raise R.HS_SPOT_DEFACT).drop R.HS_SPOT_FROZEN).get f := by
    unfold Lane.startDefault
    dsimp only
    split_ifs
    · split <;> rfl
    · rfl
  have below : f.lo + f.width ≤ 19 ∨ 21 ≤ f.lo := by simpa using apart
  rw [same, (hl.raise _).get_drop_apart spot fits (by simp; omega), hl.get_raise_apart spot fits (by simp; omega)]

theorem Lane.flags_startDefault (stop : Bool) : (l.startDefault stop).flag R.HS_SPOT_DEFACT = true ∧
    (l.startDefault stop).flag R.HS_SPOT_FROZEN = false := by
  have same (f : Fld) : (l.startDefault stop).flag f = ((l.raise R.HS_SPOT_DEFACT).drop R.HS_SPOT_FROZEN).flag f := by
    unfold Lane.startDefault
    dsimp only
    split_ifs
    · split <;> rfl
    · rfl
  rw [same, same]
  exact ⟨(Lane.flag_of_get (hl.raise R.HS_SPOT_DEFACT).get_drop_apart).trans (Lane.flag_raise hl.wf _ (by decide) rfl),
    Lane.flag_eq_false_of_get (Lane.get_drop (hl.raise _).wf _ (by decide))⟩

/-- A stopping default has the module follow its stop section (R493). -/
theorem Lane.stop_startDefault (performing : l.mode = .performing) (none : l.mode_.stop = none) :
    (l.startDefault true).mode_.stop = some (.default, l.ltime) := by
  have shown : Lane.Near (2 ^ 304) l ((l.raise R.HS_SPOT_DEFACT).drop R.HS_SPOT_FROZEN) :=
    Lane.drop_near (inReg at_HS_SPOT (by decide +kernel)) (Lane.raise_near (inReg at_HS_SPOT (by decide +kernel)).1 rfl
      (.refl _ hl))
  have stays := shown.mode (by decide +kernel)
  have still := shown.mode_.stop (by decide +kernel)
  unfold Lane.startDefault
  dsimp only
  rw [if_pos ⟨rfl, .inr (.inl (stays.trans performing))⟩, still, none]
  exact congrArg some (congrArg (Prod.mk _) (shown.ltime (by decide +kernel)))

/-- What acts after a lease changes two flags of HS_SPOT. -/
theorem Lane.get_leaseAction (why : LeaseEnd) {f : Fld} (spot : f.addr = R.HS_SPOT) (fits : (f.lo + f.width).ble 32 = true)
    (apart : ((f.lo + f.width).ble 19 || (21 : Nat).ble f.lo) = true) : (l.leaseAction why).get f = l.get f := by
  have below : f.lo + f.width ≤ 19 ∨ 21 ≤ f.lo := by simpa using apart
  have axes : Lane.Near (allBut [304]) l (l.allAxes fun l n => l.disableAxis n) :=
    Lane.allAxes_near (.refl _ hl) fun _ _ g => Lane.disableAxis_near (by decide +kernel) g
  unfold Lane.leaseAction
  split_ifs
  · exact axes.get (by rw [spot, at_HS_SPOT.1]; decide +kernel)
  · rfl
  · cases why with
    | revoke => exact hl.get_raise_apart spot fits (by simp; omega)
    | release => exact Lane.get_startDefault hl _ spot fits apart
    | stop => exact Lane.get_startDefault hl _ spot fits apart

/-- The lane as the end of a lease leaves it, before what acts then. -/
def Lane.leaseOver (l : Lane) (ev : Fld) : Lane :=
  ((((((l.drop R.HS_SPOT_HELD).drop R.HS_SPOT_HOLDER).drop R.HS_SPOT_HRANK).put R.HS_SPOT_GAPC 2).raise ev).onSeats
    fun s => { s with gap := 2, endedAt := l.mode_.cycle, endNext := none }).event 6

omit hl in
theorem Lane.endLease_eq (why : LeaseEnd) (ev : Fld) : l.endLease why ev = (l.leaseOver ev).leaseAction why := rfl

/-- A lease that is over: the light is not held, the gap of R491 begins, a reservation stays. -/
theorem Lane.leaseOver_effects {ev : Fld} (event : ev.addr = R.HS_EVT) (bit : ev.lo < 32) (single : ev.width = 1) :
    (l.leaseOver ev).Sound i ∧ (l.leaseOver ev).get R.HS_SPOT_HELD = 0 ∧ (l.leaseOver ev).get R.HS_SPOT_GAPC = 2 ∧
      (l.leaseOver ev).get R.HS_SPOT_RESV = l.get R.HS_SPOT_RESV ∧ (l.leaseOver ev).flag ev = true := by
  have h1 := hl.drop R.HS_SPOT_HELD
  have h2 := h1.drop R.HS_SPOT_HOLDER
  have h3 := h2.drop R.HS_SPOT_HRANK
  have h4 := h3.put R.HS_SPOT_GAPC 2
  have row : regNo ev.addr = 308 := by rw [event]; exact ev_HS_EVT
  have same (f : Fld) : (l.leaseOver ev).get f =
      (((((l.drop R.HS_SPOT_HELD).drop R.HS_SPOT_HOLDER).drop R.HS_SPOT_HRANK).put R.HS_SPOT_GAPC 2).raise ev).get f := rfl
  refine ⟨h4.raise ev, ?_, ?_, ?_, ?_⟩
  · rw [same, Lane.get_raise_elsewhere _ row at_HS_SPOT.1, h3.get_put_apart, h2.get_drop_apart, h1.get_drop_apart,
      Lane.get_drop hl.wf _ (by decide)]
  · rw [same, Lane.get_raise_elsewhere _ row at_HS_SPOT.1, h3.get_put R.HS_SPOT_GAPC]
    rfl
  · rw [same, Lane.get_raise_elsewhere _ row at_HS_SPOT.1, h3.get_put_apart, h2.get_drop_apart, h1.get_drop_apart,
      hl.get_drop_apart]
  · rw [Lane.flag_of_get (same ev)]
    exact Lane.flag_raise h4.wf ev bit single

/-- What the end of a lease shows (R491, R582). -/
theorem Lane.endLease_effects (why : LeaseEnd) {ev : Fld} (event : ev.addr = R.HS_EVT) (bit : ev.lo < 32)
    (single : ev.width = 1) :
    (l.endLease why ev).Sound i ∧ (l.endLease why ev).flag R.HS_SPOT_HELD = false ∧ (l.endLease why ev).flag ev = true ∧
      (l.endLease why ev).get R.HS_SPOT_GAPC = 2 ∧ (l.endLease why ev).flag R.HS_SPOT_RESV = l.flag R.HS_SPOT_RESV ∧
      (l.endLease why ev).seats = { l.seats with gap := 2, endedAt := l.mode_.cycle, endNext := none } := by
  obtain ⟨sound, held, gap, resv, shown⟩ := Lane.leaseOver_effects hl event bit single
  have seats : (l.leaseOver ev).seats = { l.seats with gap := 2, endedAt := l.mode_.cycle, endNext := none } := rfl
  rw [Lane.endLease_eq]
  generalize l.leaseOver ev = k at sound held gap resv shown seats
  have near : Lane.Near (allBut (322 :: List.range' 440 19)) k (k.leaseAction why) :=
    Lane.leaseAction_near (by decide +kernel) (.refl _ sound)
  refine ⟨near.place sound, ?_, ?_, ?_, ?_, ?_⟩
  · exact Lane.flag_eq_false_of_get ((Lane.get_leaseAction sound why rfl rfl rfl).trans held)
  · exact near.flag (by decide +kernel) (event ▸ is_HS_EVT) single shown
  · exact (Lane.get_leaseAction sound why rfl rfl rfl).trans gap
  · exact Lane.flag_of_get ((Lane.get_leaseAction sound why rfl rfl rfl).trans resv)
  · rw [near.seats.eq (by decide +kernel), seats]

/-- HS_SPOT as a lease begins with it (R488). -/
def Lane.lightOn (l : Lane) (s : Seat) : Lane :=
  let k := ((l.raise R.HS_SPOT_HELD).put R.HS_SPOT_HOLDER s.val).put R.HS_SPOT_HRANK (l.get (R.HS_SCFG_RANK s))
  ((((k.drop R.HS_SPOT_RESV).drop R.HS_SPOT_RSEAT).drop R.HS_SPOT_DEFACT).drop R.HS_SPOT_FROZEN).drop R.HS_SPOT_GAPC

/-- A lit light is held by its seat. -/
theorem Lane.lightOn_effects (s : Seat) : Lane.Near (2 ^ 304) l (l.lightOn s) ∧ (l.lightOn s).get R.HS_SPOT_HELD = 1 ∧
    (l.lightOn s).get R.HS_SPOT_HOLDER = s.val := by
  unfold Lane.lightOn
  extract_lets k
  have h1 := hl.raise R.HS_SPOT_HELD
  have h2 : ((l.raise R.HS_SPOT_HELD).put R.HS_SPOT_HOLDER s.val).Sound i := h1.put _ _
  have hk : k.Sound i := h2.put _ _
  have nk : Lane.Near (2 ^ 304) l k := Lane.put_near (inReg at_HS_SPOT (by decide +kernel))
    (Lane.put_near (inReg at_HS_SPOT (by decide +kernel)) (Lane.raise_near (inReg at_HS_SPOT (by decide +kernel)).1 rfl
      (.refl _ hl)))
  have held : k.get R.HS_SPOT_HELD = 1 := by
    rw [h2.get_put_apart, h1.get_put_apart, Lane.get_raise hl.wf _ (by decide) rfl]
  have holder : k.get R.HS_SPOT_HOLDER = s.val := by
    rw [h2.get_put_apart, h1.get_put R.HS_SPOT_HOLDER]
    exact Nat.mod_eq_of_lt s.isLt
  clear_value k
  have k1 := hk.drop R.HS_SPOT_RESV
  have k2 := k1.drop R.HS_SPOT_RSEAT
  have k3 := k2.drop R.HS_SPOT_DEFACT
  have k4 := k3.drop R.HS_SPOT_FROZEN
  refine ⟨?_, ?_, ?_⟩
  · exact Lane.drop_near (inReg at_HS_SPOT (by decide +kernel)) (Lane.drop_near (inReg at_HS_SPOT (by decide +kernel))
      (Lane.drop_near (inReg at_HS_SPOT (by decide +kernel)) (Lane.drop_near (inReg at_HS_SPOT (by decide +kernel))
        (Lane.drop_near (inReg at_HS_SPOT (by decide +kernel)) nk))))
  · rw [k4.get_drop_apart, k3.get_drop_apart, k2.get_drop_apart, k1.get_drop_apart, hk.get_drop_apart, held]
  · rw [k4.get_drop_apart, k3.get_drop_apart, k2.get_drop_apart, k1.get_drop_apart, hk.get_drop_apart, holder]

/-- A grant takes effect (R488): the seat holds the light to the end of its lease. -/
theorem Lane.startLease_effects (s : Seat) (fits : l.mode_.cycle + l.leaseCycles < 2 ^ 64) :
    (l.startLease s).Sound i ∧ (l.startLease s).flag R.HS_SPOT_HELD = true ∧
      (l.startLease s).get R.HS_SPOT_HOLDER = s.val ∧ (l.startLease s).endCycle = l.mode_.cycle + l.leaseCycles ∧
      (l.startLease s).flag R.HS_EVT_GRANT = true := by
  obtain ⟨near, held, holder⟩ := Lane.lightOn_effects hl s
  have lit := near.place hl
  unfold Lane.startLease
  extract_lets l1 l2 l3 l4 l5
  have cycle : l2.mode_.cycle = l.mode_.cycle := rfl
  have lease : l2.leaseCycles = l.leaseCycles := by
    have same : Lane.Near (2 ^ 304) l l2 := Lane.drop_near (inReg at_HS_SPOT (by decide +kernel))
      (Lane.drop_near (inReg at_HS_SPOT (by decide +kernel)) (Lane.drop_near (inReg at_HS_SPOT (by decide +kernel))
        (Lane.drop_near (inReg at_HS_SPOT (by decide +kernel)) (Lane.put_near (inReg at_HS_SPOT (by decide +kernel))
          (Lane.put_near (inReg at_HS_SPOT (by decide +kernel))
            (Lane.raise_near (inReg at_HS_SPOT (by decide +kernel)).1 rfl (.refl _ hl)))))))
    exact same.leaseCycles (by decide +kernel) (by decide +kernel)
  have h3 : l3 = ((l.lightOn s).setEndCycle (l.mode_.cycle + l.leaseCycles)).raise R.HS_EVT_GRANT := by
    rw [← lease]
    rfl
  have set := lit.setEndCycle (l.mode_.cycle + l.leaseCycles)
  have nearSet : Lane.Near (2 ^ 305 ||| 2 ^ 306) (l.lightOn s) ((l.lightOn s).setEndCycle (l.mode_.cycle + l.leaseCycles)) :=
    Lane.setEndCycle_near (by decide +kernel) (.refl _ lit)
  have nearGrant : Lane.Near (2 ^ 308) ((l.lightOn s).setEndCycle (l.mode_.cycle + l.leaseCycles)) l3 := by
    rw [h3]
    exact Lane.raise_near (inEvt ev_HS_EVT (by decide +kernel)) rfl (.refl _ set)
  have sound3 := nearGrant.place set
  have grant : l3.flag R.HS_EVT_GRANT = true := by
    rw [h3]
    exact Lane.flag_raise set.wf _ (by decide) rfl
  have ended : l3.endCycle = l.mode_.cycle + l.leaseCycles :=
    (nearGrant.endCycle (by decide +kernel) (by decide +kernel)).trans (lit.endCycle_setEndCycle fits)
  have spot {f : Fld} (at_ : regNo f.addr = 304) : l3.get f = (l.lightOn s).get f :=
    (nearGrant.keep at_ (by decide +kernel)).trans (nearSet.keep at_ (by decide +kernel))
  clear_value l3
  have rest : Lane.Near (maskOf [.seats, .modeState, .call]) l3 (l5.event 5) :=
    Lane.event_near (by decide +kernel) (Lane.when_near
      (Lane.onSeats_near (f := _) (.mk kp kp kp kp kp kp kp kp kp (not_bit (by decide +kernel)) kp kp kp
        (not_bit (by decide +kernel)) kp kp kp kp kp) (.refl _ sound3))
      fun _ g => Lane.onMode_near (f := _) (.mk kp (not_bit (by decide +kernel)) (not_bit (by decide +kernel)) kp kp kp kp kp kp kp) g)
  refine ⟨rest.place sound3, ?_, ?_, ?_, ?_⟩
  · refine (Lane.flag_of_get (rest.keep at_HS_SPOT.1 (by decide +kernel))).trans ?_
    unfold Lane.flag
    rw [spot at_HS_SPOT.1, held]
    rfl
  · exact (rest.keep at_HS_SPOT.1 (by decide +kernel)).trans ((spot at_HS_SPOT.1).trans holder)
  · exact (rest.endCycle (by decide +kernel) (by decide +kernel)).trans ended
  · exact rest.flag (by decide +kernel) is_HS_EVT rfl grant

/-! ### The start of a cycle (R488, R491, R582) -/

/-- The event of a lease that ends at the start of a cycle (R491, R582). -/
def endEvent : LeaseEnd → Fld
  | .revoke => R.HS_EVT_PREEMPT
  | _ => R.HS_EVT_RELEASE

omit hl in
theorem endEvent_in_HS_EVT (why : LeaseEnd) :
    (endEvent why).addr = R.HS_EVT ∧ (endEvent why).lo < 32 ∧ (endEvent why).width = 1 := by
  cases why <;> exact ⟨rfl, by decide, rfl⟩

/-- A lease that ends at the start of a cycle, with no grant and no STOP to take effect. -/
theorem Lane.spotCycle_of_end (idle : l.seats.gap = 0) (noGrant : l.seats.grantNext = none) (noStop : l.seats.stopNext = false)
    {why : LeaseEnd} (ends : l.seats.endNext = some why) :
    l.spotCycle = (l.endLease why (endEvent why)).onSeats fun s => { s with cancelled := false } := by
  obtain ⟨event, bit, single⟩ := endEvent_in_HS_EVT why
  obtain ⟨-, -, -, -, -, seats⟩ := Lane.endLease_effects hl why event bit single
  unfold Lane.spotCycle
  extract_lets l1 l2 l3 l4
  have h1 : l1 = l := Lane.when_of_false l (by rw [idle]; rfl)
  have h2 : l2 = l.endLease why (endEvent why) := by
    unfold l2
    rw [h1, ends]
    cases why <;> rfl
  have h3 : l3 = l2 := by
    unfold l3
    rw [show l2.seats.grantNext = none by rw [h2, seats]; exact noGrant]
  have h4 : l4 = l3 := by
    unfold l4
    rw [show l3.seats.stopNext = false by rw [h3, h2, seats]; exact noStop]
    rfl
  rw [h4, h3, h2]

/-- What the start of such a cycle shows (R491, R582). -/
theorem Lane.spotCycle_effects_of_end (idle : l.seats.gap = 0) (noGrant : l.seats.grantNext = none)
    (noStop : l.seats.stopNext = false) {why : LeaseEnd} (ends : l.seats.endNext = some why) :
    l.spotCycle.flag R.HS_SPOT_HELD = false ∧ l.spotCycle.flag (endEvent why) = true ∧ l.spotCycle.seats.gap = 2 ∧
      l.spotCycle.flag R.HS_SPOT_RESV = l.flag R.HS_SPOT_RESV := by
  obtain ⟨event, bit, single⟩ := endEvent_in_HS_EVT why
  obtain ⟨-, free, shown, -, resv, seats⟩ := Lane.endLease_effects hl why event bit single
  rw [Lane.spotCycle_of_end hl idle noGrant noStop ends]
  generalize l.endLease why (endEvent why) = k at free shown resv seats
  exact ⟨free, shown, congrArg SeatState.gap seats, resv⟩

/-- A grant takes effect after whatever ends at the start of its cycle. -/
theorem Lane.spotCycle_of_grant {w : Seat} (granted : l.seats.grantNext = some w) (noStop : l.seats.stopNext = false) :
    ∃ k, Lane.Near (allBut [205, 305, 306, 307, 455, 473]) l k ∧
      l.spotCycle = (k.startLease w).onSeats fun s => { s with cancelled := false } := by
  unfold Lane.spotCycle
  extract_lets l1 l2 l3 l4
  have n1 : Lane.Near (allBut [205, 305, 306, 307, 451, 455, 473]) l l1 := Lane.when_near (.refl _ hl) fun _ g =>
    Lane.onSeats_near (f := _) (.mk kp kp kp kp kp kp kp kp kp kp kp kp kp (not_bit (by decide +kernel)) kp kp kp kp kp)
      (Lane.put_near (inReg at_HS_SPOT (by decide +kernel)) g)
  have n2 : Lane.Near (allBut [205, 305, 306, 307, 451, 455, 473]) l l2 := by
    unfold l2
    split
    · exact Lane.endLease_near (by decide +kernel) n1 ⟨inEvt ev_HS_EVT (by decide +kernel), rfl⟩
    · exact Lane.endLease_near (by decide +kernel) n1 ⟨inEvt ev_HS_EVT (by decide +kernel), rfl⟩
    · exact n1
  have h3 : l3 = (l2.onSeats fun q => { q with grantNext := none }).startLease w := by
    unfold l3
    rw [show l2.seats.grantNext = some w from (n2.seats.grantNext (by decide +kernel)).trans granted]
  have n3 : Lane.Near (allBut [205, 305, 306, 307, 455, 473]) l (l2.onSeats fun q => { q with grantNext := none }) :=
    Lane.onSeats_near (f := _) (.mk kp kp kp kp kp kp kp kp kp kp kp (not_bit (by decide +kernel)) kp kp kp kp kp kp kp)
      (n2.mono (by decide +kernel))
  have n4 : Lane.Near (allBut [455]) l l3 := by
    rw [h3]
    exact Lane.startLease_near (by decide +kernel) (n3.mono (by decide +kernel))
  refine ⟨_, n3, ?_⟩
  rw [← h3]
  unfold l4
  rw [show l3.seats.stopNext = false from (n4.seats.stopNext (by decide +kernel)).trans noStop]
  rfl

end

/-- Lc is the least whole number of cycles, not below 2, that covers the lease (R488). -/
theorem Lane.leaseCycles_least {l : Lane} (runs : 0 < l.beats) : 2 ≤ l.leaseCycles ∧
    l.get R.HS_SPOTCFG_LEASE * 1000 ≤ l.leaseCycles * (50 * l.beats) ∧
    ∀ c, 2 ≤ c → l.get R.HS_SPOTCFG_LEASE * 1000 ≤ c * (50 * l.beats) → l.leaseCycles ≤ c := by
  unfold Lane.leaseCycles
  generalize l.get R.HS_SPOTCFG_LEASE * 1000 = lease
  have long : 0 < 50 * l.beats := by omega
  generalize 50 * l.beats = cycle at long
  refine ⟨le_max_left _ _, ?_, fun c two covers => max_le two ?_⟩
  · have up : lease ≤ (lease + (cycle - 1)) / cycle * cycle := by
      have := Nat.lt_div_mul_add (a := lease + (cycle - 1)) long
      omega
    exact up.trans (Nat.mul_le_mul_right _ (le_max_right _ _))
  · exact Nat.lt_succ_iff.1 ((Nat.div_lt_iff_lt_mul long).2 (by rw [Nat.succ_mul]; omega))

theorem does_spotLeaseExpiry (e : At) (s : State) (hs : s.Runs e) : Does (.spotLeaseExpiry e) s [.reg (R.DC_CTRL 0),
    .reg (R.DC_STAT 0), .reg (R.DC_LASTX 0), .reg (R.GD_STAT 0), .reg (R.GD_EVT 0), .reg (R.LE_STAT 0), .reg R.HS_SPOT,
    .reg R.HS_EVT, .axUs, .axSw, .axRefresh, .axLeak, .axRecatch, .seats, .call, .modeState] fun l m =>
      (l.flag R.HS_SPOT_HELD = false → m = l) ∧ (l.mode_.cycle < l.endCycle → m = l) ∧
      (l.flag R.HS_SPOT_HELD = true → l.endCycle ≤ l.mode_.cycle →
        m.flag R.HS_SPOT_HELD = false ∧ m.flag R.HS_EVT_EXPIRE = true ∧ m.get R.HS_SPOT_GAPC = 2 ∧ m.seats.gap = 2 ∧
        m.seats.endedAt = l.mode_.cycle) ∧
      (l.flag R.HS_SPOT_HELD = true → l.endCycle ≤ l.mode_.cycle → l.flag R.HS_SPOTCFG_DEFAULT = false →
        l.mode = .performing →
        l.mode_.stop = none → m.mode_.stop = some (.default, l.ltime) ∧ m.flag R.HS_SPOT_DEFACT = true) := by
  refine does_logic hs rfl execSpotLeaseExpiry_event rfl (by decide +kernel) fun hl => ?_
  generalize s.before (.spotLeaseExpiry e) = l at hl
  have expires (held : l.flag R.HS_SPOT_HELD = true) (past : l.endCycle ≤ l.mode_.cycle) :
      l.expireLease = l.endLease .release R.HS_EVT_EXPIRE := if_pos ⟨held, past⟩
  refine ⟨fun free => if_neg fun due => ?_, fun early => if_neg fun due => ?_, fun held past => ?_,
    fun held past stops performing runs => ?_⟩
  · exact Bool.eq_false_iff.1 free due.1
  · exact Nat.not_le.2 early due.2
  · obtain ⟨-, free, event, gap, -, seats⟩ := Lane.endLease_effects hl .release (ev := R.HS_EVT_EXPIRE) rfl (by decide) rfl
    rw [expires held past, seats]
    exact ⟨free, event, gap, rfl, rfl⟩
  · rw [expires held past, Lane.endLease_eq]
    obtain ⟨sound, -⟩ := Lane.leaseOver_effects hl (ev := R.HS_EVT_EXPIRE) rfl (by decide) rfl
    have near : Lane.Near (allBut [2, 307, 325, 474]) l (l.leaseOver R.HS_EVT_EXPIRE) := by
      have shown : Lane.Near (allBut [2, 307, 325, 474]) l (((((l.drop R.HS_SPOT_HELD).drop R.HS_SPOT_HOLDER).drop
          R.HS_SPOT_HRANK).put R.HS_SPOT_GAPC 2).raise R.HS_EVT_EXPIRE) :=
        Lane.raise_near (inEvt ev_HS_EVT (by decide +kernel)) rfl (Lane.put_near (inReg at_HS_SPOT (by decide +kernel))
          (Lane.drop_near (inReg at_HS_SPOT (by decide +kernel)) (Lane.drop_near (inReg at_HS_SPOT (by decide +kernel))
            (Lane.drop_near (inReg at_HS_SPOT (by decide +kernel)) (.refl _ hl)))))
      exact Lane.event_near (by decide +kernel) (Lane.onSeats_near (f := _) (.mk kp kp kp kp kp kp kp kp kp kp kp kp
        (not_bit (by decide +kernel)) (not_bit (by decide +kernel)) (not_bit (by decide +kernel)) kp kp kp kp) shown)
    have performing' := (near.mode (by decide +kernel)).trans performing
    have runs' := (near.mode_.stop (by decide +kernel)).trans runs
    have stops' := (Lane.flag_of_get (near.keep (f := R.HS_SPOTCFG_DEFAULT) at_HS_SPOTCFG.1 (by decide +kernel))).trans stops
    have time := near.ltime (by decide +kernel)
    generalize l.leaseOver R.HS_EVT_EXPIRE = k at sound performing' runs' stops' time
    have acts : k.leaseAction .release = k.startDefault true := by
      unfold Lane.leaseAction
      rw [if_neg (by rw [performing']; decide), if_neg (by rw [performing']; decide), stops']
      rfl
    rw [acts, ← time]
    exact ⟨Lane.stop_startDefault sound performing' runs', (Lane.flags_startDefault sound true).1⟩

/-- Settles O58: the least covering number, then what the start of a cycle and the end cycle do. -/
theorem spotlightLease : Obligations.SpotlightLease := by
  unfold Obligations.SpotlightLease
  refine ⟨fun l => Lane.leaseCycles_least, fun i l w hl granted noStop fits => ?_, does_spotLeaseExpiry⟩
  obtain ⟨k, near, begins⟩ := Lane.spotCycle_of_grant hl granted noStop
  have cycle := near.mode_.cycle (by decide +kernel)
  have lease := near.leaseCycles (by decide +kernel) (by decide +kernel)
  have sound := near.place hl
  rw [← cycle, ← lease] at fits ⊢
  obtain ⟨-, held, holder, ends, event⟩ := Lane.startLease_effects sound w fits
  rw [begins]
  exact ⟨held, holder, ends, event⟩

/-! ### SPOT_RENEW (R492) -/

section
variable {i : LaneId} {l : Lane} {h : Hdr} {path : Option Path}

/-- A renewal leaves what is decided for the next cycle, whatever becomes of it. -/
theorem Lane.endNext_perform_spotRenew (hl : l.Sound i) : (l.perform h path .spotRenew).seats.endNext = l.seats.endNext := by
  suffices near : Lane.Near (allBut [452]) l (l.perform h path .spotRenew) from near.seats.endNext (by decide +kernel)
  have answers {k : Lane} (g : Lane.Near (allBut [452]) l k) (st : Status) (b : List Byte) :
      Lane.Near (allBut [452]) l (k.answer h path st b) := Lane.answer_near (by decide +kernel) g
  by_cases named : l.named h
  · rw [Lane.perform_of_named named rfl]
    have counted : Lane.Near (allBut [452]) l l.counted := (Lane.near_counted hl).mono (by decide +kernel)
    cases l.opRefused h .spotRenew with
    | some st => exact answers counted st []
    | none =>
      show Lane.Near (allBut [452]) l (l.counted.spotRenew h path)
      unfold Lane.spotRenew
      split_ifs
      · exact answers (Lane.setEndCycle_near (by decide +kernel) counted) _ _
      · exact answers counted _ _
  · rw [Lane.perform_of_unnamed named]
    exact answers (.refl _ hl) _ _

theorem Lane.Sound.holdsSpot_counted (hl : l.Sound i) (s : Seat) : l.counted.holdsSpot s = l.holdsSpot s :=
  (Lane.near_counted hl).holdsSpot s (by decide +kernel) (by decide +kernel) (by decide +kernel) (by decide +kernel)

theorem Lane.Sound.spotOwner_counted (hl : l.Sound i) : l.counted.spotOwner = l.spotOwner :=
  (Lane.near_counted hl).spotOwner (by decide +kernel)

/-- An answer leaves the registers of the spotlight and what is decided for it. -/
theorem Lane.near_answer_spot (hl : l.Sound i) (st : Status) (b : List Byte) :
    Lane.Near (allBut [205, 304, 305, 306, 307, 449, 452, 453]) l (l.answer h path st b) :=
  Lane.answer_near (by decide +kernel) (.refl _ hl)

end

/-- Settles O59: the holder's renewal sets the end cycle, any other is answered NOSPOT. -/
theorem spotlightRenewal : Obligations.SpotlightRenewal := by
  unfold Obligations.SpotlightRenewal
  intro e h path s hs
  refine does_logic hs rfl execSpotRenew_event rfl (by decide +kernel) fun hl => ?_
  generalize s.before (.spotRenew e h path) = l at hl
  have hc := hl.counted
  have same := Lane.near_counted hl
  have holds := hl.holdsSpot_counted h.seat
  have runs : l.counted.runOp h path .spotRenew = l.counted.spotRenew h path := rfl
  refine ⟨turnedAway_perform hl rfl rfl, Lane.endNext_perform_spotRenew hl, fun a other => ?_,
    fun a held holder early => ?_⟩ <;>
    rw [Lane.perform_of_allows rfl a, runs] <;> unfold Lane.spotRenew
  · rw [if_neg (by rw [holds, Lane.holdsSpot_iff]; exact other), hl.spotOwner_counted]
    refine ⟨answered_answer hc rfl rfl rfl _ _ _ _, ?_⟩
    exact ((Lane.near_answer_spot hc _ _).endCycle (by decide +kernel) (by decide +kernel)).trans
      (same.endCycle (by decide +kernel) (by decide +kernel))
  · rw [if_pos (by rw [holds, Lane.holdsSpot_iff]; exact ⟨held, holder, early⟩),
      same.leaseCycles (by decide +kernel) (by decide +kernel), same.mode_.cycle (by decide +kernel)]
    have set := hc.setEndCycle (l.mode_.cycle + 1 + l.leaseCycles)
    have ends := hc.endCycle_setEndCycle (c := l.mode_.cycle + 1 + l.leaseCycles)
    have kept : (l.counted.setEndCycle (l.mode_.cycle + 1 + l.leaseCycles)).id = l.id ∧
      (l.counted.setEndCycle (l.mode_.cycle + 1 + l.leaseCycles)).seats = l.seats := ⟨rfl, rfl⟩
    dsimp only
    generalize l.counted.setEndCycle (l.mode_.cycle + 1 + l.leaseCycles) = k at set ends kept
    obtain ⟨id, seats⟩ := kept
    have near := Lane.near_answer_spot (h := h) (path := path) set .ok (k.spotBytes k.endCycle)
    have stays := near.endCycle (by decide +kernel) (by decide +kernel)
    rw [stays, near.spotBytes _ (by decide +kernel) (by decide +kernel) (by decide +kernel)]
    exact ⟨answered_answer set id (by rw [seats]) (by rw [seats]) _ _ _ _, ends⟩

/-! ### SPOT_RELEASE (R582) -/

section
variable {i : LaneId} {k l : Lane}

/-- The queues after a reply leaves hang on the queues before it alone. -/
theorem Lane.queues_sendReply_congr (hk : k.Sound i) (hl : l.Sound i) (replies : k.seats.replies = l.seats.replies)
    (ring : k.seats.ringReplies = l.seats.ringReplies) (h : Hdr) (path : Option Path) (r : Reply) :
    (k.sendReply h path r).seats.replies = (l.sendReply h path r).seats.replies ∧
      (k.sendReply h path r).seats.ringReplies = (l.sendReply h path r).seats.ringReplies := by
  by_cases quiet : path = none ∨ path = some .wing ∨ h.noReply = true ∧ r.cls = 0
  · rw [Lane.sendReply_of_quiet quiet, Lane.sendReply_of_quiet quiet]
    exact ⟨replies, ring⟩
  · obtain ⟨away, crosses, sent⟩ : path ≠ none ∧ path ≠ some .wing ∧ (h.noReply = false ∨ r.cls ≠ 0) := by
      simpa [not_or, imp_iff_not_or] using quiet
    obtain ⟨p, rfl⟩ := Option.ne_none_iff_exists'.1 away
    have out : p ≠ .wing := fun same => crosses (congrArg some same)
    rw [Lane.sendReply_of_sent out sent, Lane.sendReply_of_sent out sent]
    have sk := hk.countReply h ⟨r.cls, r.detail⟩
    have sl := hl.countReply h ⟨r.cls, r.detail⟩
    rw [← k.seats_countReply h ⟨r.cls, r.detail⟩, ← l.seats_countReply h ⟨r.cls, r.detail⟩] at replies ring
    generalize k.countReply h ⟨r.cls, r.detail⟩ = k' at sk replies ring
    generalize l.countReply h ⟨r.cls, r.detail⟩ = l' at sl replies ring
    cases p with
    | wing => exact absurd rfl out
    | ring n => exact ⟨replies, congrArg (· ++ [r]) ring⟩
    | port =>
      show (if k'.seats.replies.length < 8 then _ else _ : Lane).seats.replies =
          (if l'.seats.replies.length < 8 then _ else _ : Lane).seats.replies ∧
        (if k'.seats.replies.length < 8 then _ else _ : Lane).seats.ringReplies =
          (if l'.seats.replies.length < 8 then _ else _ : Lane).seats.ringReplies
      rw [replies]
      split_ifs
      · exact ⟨congrArg (· ++ [r]) replies, ring⟩
      · exact ⟨replies, ring⟩
    | can n =>
      have queues {x : Lane} (hx : x.Sound i) : (x.queueReply (some (.can n)) r).seats.replies = x.seats.replies ∧
          (x.queueReply (some (.can n)) r).seats.ringReplies = x.seats.ringReplies := by
        have near : Lane.Near (allBut [441, 442]) x (x.queueReply (some (.can n)) r) :=
          Lane.loadCan_near (by decide +kernel) (Lane.onSeats_near (f := _)
            (.mk kp kp kp (not_bit (by decide +kernel)) (not_bit (by decide +kernel)) kp kp kp kp kp kp kp kp kp kp kp kp kp kp)
            (.refl _ hx))
        exact ⟨near.seats.replies (by decide +kernel), near.seats.ringReplies (by decide +kernel)⟩
      rw [(queues sk).1, (queues sl).1, (queues sk).2, (queues sl).2]
      exact ⟨replies, ring⟩

/-- The queues after an answer hang on the queues before it and on what a reply shows of the lane. -/
theorem Lane.queues_answer_congr (hk : k.Sound i) (hl : l.Sound i) (replies : k.seats.replies = l.seats.replies)
    (ring : k.seats.ringReplies = l.seats.ringReplies) (lstate : k.get R.LC_STATE_LSTATE = l.get R.LC_STATE_LSTATE)
    (mstate : k.get R.LC_STATE_MSTATE = l.get R.LC_STATE_MSTATE) (h : Hdr) (path : Option Path) (st : Status)
    (b : List Byte) : (k.answer h path st b).seats.replies = (l.answer h path st b).seats.replies ∧
      (k.answer h path st b).seats.ringReplies = (l.answer h path st b).seats.ringReplies := by
  have made : k.mkReply h st b (decide (0 < h.cls)) = l.mkReply h st b (decide (0 < h.cls)) := by
    unfold Lane.mkReply
    rw [hk.1, hl.1, lstate, mstate]
  have again (x : Lane) (r : Reply) : (x.keepReply h r).mkReply h st b (decide (0 < h.cls)) =
      x.mkReply h st b (decide (0 < h.cls)) := by
    unfold Lane.keepReply
    split <;> rfl
  unfold Lane.answer Lane.answerTagged Lane.reply
  rw [again, again, made]
  obtain ⟨sk, -, kReplies, kRing⟩ := Lane.keepReply_keeps hk h (l.mkReply h st b (decide (0 < h.cls)))
  obtain ⟨sl, -, lReplies, lRing⟩ := Lane.keepReply_keeps hl h (l.mkReply h st b (decide (0 < h.cls)))
  exact Lane.queues_sendReply_congr sk sl (by rw [kReplies, lReplies, replies]) (by rw [kRing, lRing, ring]) h path _

/-- A put reads alike in two lanes that show the same word. -/
theorem Lane.word_put_congr (hk : k.Sound i) (hl : l.Sound i) (f : Fld) (v : Nat) (same : k.word f.addr = l.word f.addr) :
    (k.put f v).word f.addr = (l.put f v).word f.addr := by
  unfold Lane.put
  rw [Lane.word_setWord hk.wf, Lane.word_setWord hl.wf, same]

/-- The lane with its reservation gone from HS_SPOT. -/
def Lane.unreserved (l : Lane) : Lane := (l.drop R.HS_SPOT_RESV).drop R.HS_SPOT_RSEAT

theorem Lane.Sound.unreserved (hl : l.Sound i) : l.unreserved.Sound i := (hl.drop _).drop _

theorem Lane.near_unreserved (hl : l.Sound i) : Lane.Near (2 ^ 304) l l.unreserved :=
  Lane.drop_near (inReg at_HS_SPOT (by decide +kernel)) (Lane.drop_near (inReg at_HS_SPOT (by decide +kernel)) (.refl _ hl))

theorem Lane.Sound.flag_RESV_unreserved (hl : l.Sound i) : l.unreserved.flag R.HS_SPOT_RESV = false := by
  refine Lane.flag_eq_false_of_get ?_
  unfold Lane.unreserved
  rw [(hl.drop _).get_drop_apart, Lane.get_drop hl.wf _ (by decide)]

/-- The request that held the reservation is answered NOSPOT. -/
def Lane.answerReserved (l : Lane) : Lane :=
  l.seats.reserved.toList.foldl (fun l r => l.answer r.hdr r.path (.noSpot l.spotOwner) []) l

theorem Lane.cancelReservation_eq (l : Lane) : l.cancelReservation =
    l.unreserved.answerReserved.onSeats fun s => { s with reserved := none, cancelled := true } := rfl

/-- Cancelling a reservation shows no reserved seat and leaves what is decided (R582). -/
theorem Lane.cancelReservation_effects (hl : l.Sound i) : l.cancelReservation.Sound i ∧
    l.cancelReservation.flag R.HS_SPOT_RESV = false ∧ l.cancelReservation.seats.reserved = none ∧
      l.cancelReservation.seats.endNext = l.seats.endNext ∧ l.cancelReservation.seats.gap = l.seats.gap := by
  have none := hl.flag_RESV_unreserved
  have h0 := hl.unreserved
  have kept : l.unreserved.seats = l.seats := rfl
  rw [Lane.cancelReservation_eq]
  generalize l.unreserved = k at none h0 kept
  have near : Lane.Near (allBut [304, 452, 453]) k k.answerReserved :=
    Lane.near_foldl (fun _ _ _ g => Lane.answer_near (by decide +kernel) g) (.refl _ h0)
  have stays := Lane.flag_of_get (near.keep (f := R.HS_SPOT_RESV) at_HS_SPOT.1 (by decide +kernel))
  have ends := near.seats.endNext (by decide +kernel)
  have gap := near.seats.gap (by decide +kernel)
  rw [kept] at ends gap
  exact ⟨(near.place h0).onSeats _, stays.trans none, rfl, ends, gap⟩

/-- The count of executions leaves the queues that cancelling a reservation fills. -/
theorem Lane.queues_cancelReservation_counted (hl : l.Sound i) :
    l.counted.cancelReservation.seats.replies = l.cancelReservation.seats.replies ∧
      l.counted.cancelReservation.seats.ringReplies = l.cancelReservation.seats.ringReplies := by
  have hc := hl.counted
  have near := Lane.near_counted hl
  have spot : l.counted.unreserved.word R.HS_SPOT = l.unreserved.word R.HS_SPOT :=
    Lane.word_put_congr (hc.drop _) (hl.drop _) R.HS_SPOT_RSEAT 0 (Lane.word_put_congr hc hl R.HS_SPOT_RESV 0
      (near.word _ (by rw [at_HS_SPOT.1]; decide +kernel)))
  have owner := Lane.spotOwner_of_word spot
  have state {f : Fld} (at_ : regNo f.addr = 2) : l.counted.unreserved.get f = l.unreserved.get f := by
    rw [(Lane.near_unreserved hc).keep at_ (by decide +kernel), (Lane.near_unreserved hl).keep at_ (by decide +kernel),
      near.keep at_ (by decide +kernel)]
  have seats : l.counted.unreserved.seats = l.unreserved.seats := rfl
  rw [Lane.cancelReservation_eq, Lane.cancelReservation_eq]
  have sk := hc.unreserved
  have sl := hl.unreserved
  have lstate := state (f := R.LC_STATE_LSTATE) at_LC_STATE.1
  have mstate := state (f := R.LC_STATE_MSTATE) at_LC_STATE.1
  generalize l.counted.unreserved = k at owner seats sk lstate mstate
  generalize l.unreserved = u at owner seats sl lstate mstate
  have alike : k.answerReserved.seats.replies = u.answerReserved.seats.replies ∧
      k.answerReserved.seats.ringReplies = u.answerReserved.seats.ringReplies := by
    unfold Lane.answerReserved
    rw [seats]
    cases u.seats.reserved with
    | none => exact ⟨congrArg SeatState.replies seats, congrArg SeatState.ringReplies seats⟩
    | some r =>
      dsimp only [Option.toList_some, List.foldl_cons, List.foldl_nil]
      rw [owner]
      exact Lane.queues_answer_congr sk sl (congrArg SeatState.replies seats) (congrArg SeatState.ringReplies seats) lstate
        mstate _ _ _ _
  exact alike

end

theorem does_spotRelease (e : At) (h : Hdr) (path : Option Path) (s : State) (hs : s.Runs e) :
    Does (.spotRelease e h path) s (replyParts ++ [.reg R.HS_SPOT]) fun l m =>
    TurnedAway l m h path .spotRelease ∧
    (l.allows h .spotRelease → l.holdsSpot h.seat = true →
      Answered l m h path .ok [] ∧ (l.seats.endNext = none → m.seats.endNext = some .release) ∧
      (l.seats.endNext ≠ none → m.seats.endNext = l.seats.endNext)) ∧
    (l.allows h .spotRelease → l.holdsSpot h.seat = false → l.flag R.HS_SPOT_RESV = true →
      l.get R.HS_SPOT_RSEAT = h.seat.val →
      Answered l.cancelReservation m h path .ok [] ∧ m.flag R.HS_SPOT_RESV = false ∧ m.seats.reserved = none ∧
      m.seats.endNext = l.seats.endNext ∧ m.seats.gap = l.seats.gap) ∧
    (l.allows h .spotRelease → l.holdsSpot h.seat = false →
      ¬(l.flag R.HS_SPOT_RESV = true ∧ l.get R.HS_SPOT_RSEAT = h.seat.val) →
      Answered l m h path (.noSpot l.spotOwner) [] ∧ m.word R.HS_SPOT = l.word R.HS_SPOT ∧ m.endCycle = l.endCycle ∧
      m.seats.endNext = l.seats.endNext ∧ m.seats.reserved = l.seats.reserved) := by
  refine does_logic hs rfl execSpotRelease_event rfl (by decide +kernel) fun hl => ?_
  generalize s.before (.spotRelease e h path) = l at hl
  have hc := hl.counted
  have same := Lane.near_counted hl
  have holds := hl.holdsSpot_counted h.seat
  have resv : l.counted.flag R.HS_SPOT_RESV = l.flag R.HS_SPOT_RESV := Lane.flag_of_get (l.get_counted (by decide))
  have rseat : l.counted.get R.HS_SPOT_RSEAT = l.get R.HS_SPOT_RSEAT := l.get_counted (by decide)
  have runs : l.counted.runOp h path .spotRelease = l.counted.spotRelease h path := rfl
  refine ⟨turnedAway_perform hl rfl rfl, fun a held => ?_, fun a free reserved seat => ?_, fun a free other => ?_⟩ <;>
    rw [Lane.perform_of_allows rfl a, runs] <;> unfold Lane.spotRelease
  · rw [if_pos (by rw [holds, held])]
    have hd : (l.counted.onSeats fun s => { s with endNext := some (s.endNext.getD .release) }).Sound _ := hc.onSeats _
    have near := Lane.near_answer_spot (h := h) (path := path) hd .ok []
    refine ⟨answered_answer hd rfl rfl rfl _ _ _ _, fun none => ?_, fun decided => ?_⟩ <;>
      refine (near.seats.endNext (by decide +kernel)).trans ?_
    · show some (l.seats.endNext.getD .release) = _
      rw [none]
      rfl
    · obtain ⟨why, decided⟩ := Option.ne_none_iff_exists'.1 decided
      show some (l.seats.endNext.getD .release) = _
      rw [decided]
      rfl
  · rw [if_neg (by rw [holds, free]; decide), resv, rseat, if_pos ⟨reserved, seat⟩]
    obtain ⟨hr, gone, cleared, ends, gap⟩ := Lane.cancelReservation_effects hc
    obtain ⟨replies, ring⟩ := Lane.queues_cancelReservation_counted hl
    have id : l.cancelReservation.id = l.id := (Lane.cancelReservation_effects hl).1.1.trans hl.1.symm
    have id' := hr.1.trans hl.1.symm
    have near := Lane.near_answer_spot (h := h) (path := path) hr .ok []
    refine ⟨answered_answer hr (id'.trans id.symm) replies ring _ _ _ _, ?_, ?_, ?_, ?_⟩
    · exact (Lane.flag_of_get (near.keep at_HS_SPOT.1 (by decide +kernel))).trans gone
    · exact (near.seats.reserved (by decide +kernel)).trans cleared
    · exact (near.seats.endNext (by decide +kernel)).trans ends
    · exact (near.seats.gap (by decide +kernel)).trans gap
  · rw [if_neg (by rw [holds, free]; decide), resv, rseat, if_neg other, hl.spotOwner_counted]
    have near := Lane.near_answer_spot (h := h) (path := path) hc (.noSpot l.spotOwner) []
    refine ⟨answered_answer hc rfl rfl rfl _ _ _ _, ?_, ?_, near.seats.endNext (by decide +kernel),
      near.seats.reserved (by decide +kernel)⟩
    · exact (near.word _ (by rw [at_HS_SPOT.1]; decide +kernel)).trans (same.word _ (by rw [at_HS_SPOT.1]; decide +kernel))
    · exact (near.endCycle (by decide +kernel) (by decide +kernel)).trans
        (same.endCycle (by decide +kernel) (by decide +kernel))

/-- Settles O60: the command, then the two ends of a lease that the next cycle start brings. -/
theorem spotlightRelease : Obligations.SpotlightRelease := by
  unfold Obligations.SpotlightRelease
  refine ⟨does_spotRelease, fun i l hl ends noGrant noStop idle => ?_, fun i l hl ends noGrant noStop idle => ?_⟩ <;>
    obtain ⟨free, event, gap, resv⟩ := Lane.spotCycle_effects_of_end hl idle noGrant noStop ends
  · exact ⟨free, event, gap⟩
  · exact ⟨free, event, gap, resv⟩

/-! ### SPOT_REQUEST, SPOT_QUERY, STOP and the frozen timeout (R482, R490, R493) -/

theorem does_spotRequest (e : At) (h : Hdr) (path : Option Path) (preempt : Bool) (s : State) (hs : s.Runs e) :
    Does (.spotRequest e h path preempt) s replyParts fun l m =>
      TurnedAway l m h path (.spotRequest preempt) ∧
      (l.allows h (.spotRequest preempt) → l.flag R.WG_STAT_GUARD = true → Answered l m h path (.retry 1) [] ∧
        m.seats.requests = l.seats.requests) ∧
      (l.allows h (.spotRequest preempt) → l.flag R.WG_STAT_GUARD = false → l.flag R.LC_STATE_LEAD = true →
        m.seats.requests = l.seats.requests ++ [⟨h.seat, preempt, h, path⟩] ∧ m.seats.replies = l.seats.replies) ∧
      (l.allows h (.spotRequest preempt) → l.flag R.WG_STAT_GUARD = false → l.flag R.LC_STATE_LEAD = false →
        m.seats = l.seats) := by
  refine does_logic hs rfl execSpotRequest_event rfl (by decide +kernel) fun hl => ?_
  generalize s.before (.spotRequest e h path preempt) = l at hl
  have hc := hl.counted
  have guard : l.counted.flag R.WG_STAT_GUARD = l.flag R.WG_STAT_GUARD := Lane.flag_of_get (l.get_counted (by decide))
  have lead : l.counted.flag R.LC_STATE_LEAD = l.flag R.LC_STATE_LEAD := Lane.flag_of_get (l.get_counted (by decide))
  have runs : l.counted.runOp h path (.spotRequest preempt) = l.counted.spotRequest h path preempt := rfl
  refine ⟨turnedAway_perform hl rfl rfl, fun a guarded => ?_, fun a open_ leads => ?_, fun a open_ follows => ?_⟩ <;>
    rw [Lane.perform_of_allows rfl a, runs] <;> unfold Lane.spotRequest <;> rw [guard, lead]
  · rw [if_pos guarded]
    have near : Lane.Near (allBut [448]) l.counted (l.counted.answer h path (.retry 1) []) :=
      Lane.answer_near (by decide +kernel) (.refl _ hc)
    exact ⟨answered_answer hc rfl rfl rfl _ _ _ _, near.seats.requests (by decide +kernel)⟩
  · rw [if_neg (by rw [open_]; decide), if_pos leads]
    exact ⟨rfl, rfl⟩
  · rw [if_neg (by rw [open_]; decide), if_neg (by rw [follows]; decide)]
    rfl

theorem does_stop (e : At) (h : Hdr) (path : Option Path) (s : State) (hs : s.Runs e) :
    Does (.stop e h path) s replyParts fun l m =>
      TurnedAway l m h path .stop ∧
      (l.allows h .stop → m.seats.stopNext = true ∧ Answered l m h path .ok []) := by
  refine does_logic hs rfl execStop_event rfl (by decide +kernel) fun hl => ?_
  generalize s.before (.stop e h path) = l at hl
  have runs : l.counted.runOp h path .stop =
      (l.counted.onSeats fun s => { s with stopNext := true }).answer h path .ok [] := rfl
  refine ⟨turnedAway_perform hl rfl rfl, fun a => ?_⟩
  rw [Lane.perform_of_allows rfl a, runs]
  have noted : (l.counted.onSeats fun s => { s with stopNext := true }).Sound _ := hl.counted.onSeats _
  have kept : (l.counted.onSeats fun s => { s with stopNext := true }).id = l.id ∧
    (l.counted.onSeats fun s => { s with stopNext := true }).seats = { l.seats with stopNext := true } := ⟨rfl, rfl⟩
  generalize (l.counted.onSeats fun s => { s with stopNext := true }) = k at noted kept
  obtain ⟨id, seats⟩ := kept
  have near : Lane.Near (allBut [455]) k (k.answer h path .ok []) := Lane.answer_near (by decide +kernel) (.refl _ noted)
  refine ⟨?_, answered_answer noted id (by rw [seats]) (by rw [seats]) _ _ _ _⟩
  rw [near.seats.stopNext (by decide +kernel), seats]

theorem does_frozenTimeout (e : At) (s : State) (hs : s.Runs e) :
    Does (.frozenTimeout e) s [.reg R.HS_SPOT, .modeState] fun l m =>
      (l.flag R.HS_SPOT_FROZEN = false → m = l) ∧ (l.flag R.HS_SPOT_HELD = true → m = l) ∧
      (l.mode_.cycle < l.seats.endedAt + 4 → m = l) ∧
      (l.flag R.HS_SPOT_FROZEN = true → l.flag R.HS_SPOT_HELD = false → l.seats.endedAt + 4 ≤ l.mode_.cycle →
        m.flag R.HS_SPOT_DEFACT = true ∧ m.flag R.HS_SPOT_FROZEN = false ∧
        (l.flag R.HS_SPOTCFG_DEFAULT = false → l.mode = .performing → l.mode_.stop = none →
          m.mode_.stop = some (.default, l.ltime))) := by
  refine does_logic hs rfl execFrozenTimeout_event rfl (by decide +kernel) fun hl => ?_
  generalize s.before (.frozenTimeout e) = l at hl
  refine ⟨fun thawed => if_neg fun due => ?_, fun held => if_neg fun due => ?_, fun early => if_neg fun due => ?_,
    fun frozen free late => ?_⟩
  · exact Bool.eq_false_iff.1 thawed due.1
  · exact absurd due.2.1 (by rw [held]; decide)
  · exact Nat.not_le.2 early due.2.2
  · rw [if_pos ⟨frozen, by rw [free]; rfl, late⟩]
    obtain ⟨acts, thawed⟩ := Lane.flags_startDefault hl (!l.flag R.HS_SPOTCFG_DEFAULT)
    refine ⟨acts, thawed, fun stops performing runs => ?_⟩
    rw [stops]
    exact Lane.stop_startDefault hl performing runs

/-- Settles O47, command by command. -/
theorem spotlightOpcodes : Obligations.SpotlightOpcodes := by
  unfold Obligations.SpotlightOpcodes
  refine ⟨does_spotRequest, fun e h path s hs => ?_, does_stop, does_frozenTimeout⟩
  exact does_logic hs rfl execSpotQuery_event rfl (by decide +kernel) fun hl =>
    ⟨turnedAway_perform_local hl rfl rfl, answered_report hl rfl rfl _ _ fun _ => rfl⟩

end Sys2Proof.Machine

/-!
PROOFS. Opcodes that ask for a module state, SETPOINT, and what a seat without the spotlight gets (R494, R553 to R557, R577).
-/

namespace Sys2Proof.Machine

-- one declaration at a time: each waits for the kernel, and a waiting one holds a thread and its stack
set_option Elab.async false

/-! ### Codes of the module states (R39) -/

theorem Mode.code_ofCode {c : Nat} (known : Mode.ofCode c ≠ .reserved) : (Mode.ofCode c).code = c := by
  rcases Nat.lt_or_ge c 11 with small | large
  · interval_cases c <;> rfl
  · obtain ⟨k, rfl⟩ := Nat.exists_eq_add_of_le' large
    exact absurd rfl known

section
variable {i : LaneId} {l : Lane} {h : Hdr} {path : Option Path} {op : Op}

theorem Lane.get_MSTATE_eq_code (known : l.mode ≠ .reserved) : l.get R.LC_STATE_MSTATE = l.mode.code :=
  (Mode.code_ofCode known).symm

/-- The states from HOLD on are those of the codes 4 to 10 (R40). -/
theorem Lane.fromHold_of_code (low : 4 ≤ l.mode.code) (high : l.mode.code ≤ 10) : l.fromHold = true := by
  have known : l.mode ≠ .reserved := fun same => by rw [same] at high; exact absurd high (by decide)
  unfold Lane.fromHold
  rw [Lane.get_MSTATE_eq_code known]
  exact decide_eq_true ⟨low, high⟩

theorem Lane.mode_counted (l : Lane) : l.counted.mode = l.mode := by
  unfold Lane.mode
  rw [l.get_counted (by decide)]

theorem Lane.stateStatus_counted (l : Lane) : l.counted.stateStatus = l.stateStatus := by
  unfold Lane.stateStatus
  rw [l.get_counted (by decide)]

theorem Lane.fromHold_counted (l : Lane) : l.counted.fromHold = l.fromHold := by
  unfold Lane.fromHold
  rw [l.get_counted (by decide)]

/-! ### Opcodes that are answered at a cycle start (R554) -/

/-- An agreed opcode that the ROM responder does not know is executed in the module states that name it alone (R480). -/
theorem Lane.opStates_of_allows (a : l.allows h op) (agreed : opLocal op = false) (rom : opInRom op = false) :
    opStates op l.mode = true := by
  have fine := a.2
  by_contra wrong
  rw [Bool.not_eq_true] at wrong
  unfold Lane.opRefused at fine
  rw [rom, agreed, wrong] at fine
  simp at fine

/-- A lane that an agreed opcode does not name answers OK 0x03 (R477). -/
theorem Lane.answered_of_unnamed (hl : l.Sound i) (unnamed : ¬l.named h) (agreed : opLocal op = false) :
    Answered l (l.perform h path op) h path ⟨0, 3⟩ [] := by
  rw [Lane.perform_of_unnamed unnamed]
  unfold Lane.notAddressed
  rw [if_neg (by rw [agreed]; decide)]
  split
  · exact answered_answer (hl.onMode _) rfl rfl rfl _ _ _ _
  · exact answered_answer hl rfl rfl rfl _ _ _ _

/-- The lane with an answer to give at the next cycle start. -/
theorem Lane.perform_of_refusedMode {st : Status} (named : l.named h) (agreed : opLocal op = false)
    (late : opAtCycle op = true) (held : l.fromHold = true) (refused : l.opRefused h op = some st) :
    l.perform h path op = l.counted.refuseMode h path st := by
  rw [Lane.perform_of_named named agreed, refused]
  exact if_pos ⟨late, (Lane.fromHold_counted l).trans held⟩

/-- A lane turns away an opcode of the cycle start as R470, R477 and R554 say. -/
theorem turnedAway_perform_late (hl : l.Sound i) (agreed : opLocal op = false) :
    TurnedAway l (l.perform h path op) h path op := by
  refine ⟨fun unnamed => ?_, fun st named refused => ?_⟩
  · rw [if_neg (by rw [agreed]; decide)]
    exact Lane.answered_of_unnamed hl unnamed agreed
  · split_ifs with late
    · rw [Lane.perform_of_refusedMode named agreed late.1 late.2 refused]
      exact ⟨rfl, rfl⟩
    · have soon : ¬(opAtCycle op = true ∧ l.counted.fromHold = true) := by rwa [l.fromHold_counted]
      rw [Lane.perform_of_named named agreed, refused]
      simp only [if_neg soon]
      exact answered_answer hl.counted rfl rfl rfl _ _ _ _

/-! ### Requests for a module state (R271, R554) -/

/-- A request that proposes its state. -/
theorem Lane.askMode_counted_effects (l : Lane) (h : Hdr) (path : Option Path) (m : Mode) :
    (l.counted.askMode h path m).seats.modeReqs = l.seats.modeReqs ++ [⟨m.code, none, h, path⟩] ∧
      (l.counted.askMode h path m).seats.replies = l.seats.replies ∧ (l.counted.askMode h path m).mode = l.mode ∧
      (l.counted.askMode h path m).wing.proposed =
        if l.wing.proposed = l.get R.LC_STATE_MSTATE then m.code else stricter l.wing.proposed m.code := by
  have mstate : l.counted.get R.LC_STATE_MSTATE = l.get R.LC_STATE_MSTATE := l.get_counted (by decide)
  refine ⟨rfl, rfl, l.mode_counted, ?_⟩
  rw [← mstate]
  rfl

/-- A refusal that waits for the next cycle start. -/
theorem Lane.refuseMode_counted_effects (l : Lane) (h : Hdr) (path : Option Path) (st : Status) :
    (l.counted.refuseMode h path st).seats.modeReqs = l.seats.modeReqs ++ [⟨0, some (st.cls, st.detail), h, path⟩] ∧
      (l.counted.refuseMode h path st).wing.proposed = l.wing.proposed ∧ (l.counted.refuseMode h path st).mode = l.mode :=
  ⟨rfl, rfl, l.mode_counted⟩

/-! ### What the count of executions leaves -/

theorem Lane.inhibited_counted (l : Lane) : l.counted.inhibited = l.inhibited := by
  have same (k : Nat) (ten : k < 10) : l.counted.inputFunc k = l.inputFunc k := by
    unfold Lane.inputFunc
    rw [l.get_counted (f := R.SF_SICFG_FUNC k) (by show 0x0F0040 + 0x4 * k ≠ 0x120024; omega),
      l.get_counted (f := R.SF_GTCFG_FUNC (k - 8)) (by show 0x0F0060 + 0x4 * (k - 8) ≠ 0x120024; omega)]
  have shown (f : Fld) (other : f.addr ≠ R.HS_CNT3) (k : Nat) : l.counted.bit f k = l.bit f k :=
    Lane.bit_of_get (l.get_counted other) k
  rw [Bool.eq_iff_iff]
  unfold Lane.inhibited
  simp only [List.any_eq_true, shown R.SF_STAT_DEM (by decide), shown R.SF_STAT_LATCH (by decide)]
  refine exists_congr fun k => and_congr_right fun mem => ?_
  rw [same k (List.mem_range.1 mem)]

theorem Lane.internal_counted (l : Lane) (n : Axis) : l.counted.internal n = l.internal n := by
  unfold Lane.internal
  rw [l.get_counted (by revert n; decide)]

theorem Lane.fbValid_counted (l : Lane) (n : Axis) : l.counted.fbValid n = l.fbValid n :=
  Lane.flag_of_get (l.get_counted (by revert n; decide))

theorem Lane.thresholdsHold_counted (l : Lane) : l.counted.thresholdsHold = l.thresholdsHold := by
  have get (f : Fld) (other : f.addr ≠ R.HS_CNT3) : l.counted.get f = l.get f := l.get_counted other
  unfold Lane.thresholdsHold
  simp only [get R.GD_OVA_OV1 (by decide), get R.GD_OVA_OV2 (by decide), get R.GD_OVB_OV3 (by decide),
    get R.GD_OVB_OVMAX (by decide), get R.GD_OVH_CHH (by decide)]

theorem Lane.tiedToHold_counted (l : Lane) : l.counted.tiedToHold = l.tiedToHold := by
  unfold Lane.tiedToHold
  rw [l.mode_counted]
  rfl

theorem Lane.armRefused_counted (l : Lane) : l.counted.armRefused = l.armRefused := by
  have internal : l.counted.internal = l.internal := funext l.internal_counted
  have refused (n : Axis) : l.counted.lifeRefused n = l.lifeRefused n := rfl
  unfold Lane.armRefused
  rw [l.tiedToHold_counted, l.thresholdsHold_counted, l.inhibited_counted, l.stateStatus_counted, internal]
  simp only [l.fbValid_counted, refused, l.axisTrusted_counted]
  rfl

theorem Lane.loopRole_counted (l : Lane) (n : Axis) : l.counted.loopRole n = l.loopRole n := by
  unfold Lane.loopRole
  rw [l.get_counted (by revert n; decide)]

end

/-! ### ARM, PERFORM, DISARM and the workshop (R553, R555, R557) -/

theorem does_arm (e : At) (h : Hdr) (path : Option Path) (s : State) (hs : s.Runs e) :
    Does (.arm e h path) s (replyParts ++ [.wing]) fun l m =>
      TurnedAway l m h path .arm ∧
      (l.allows h .arm → l.armRefused = none → m.seats.modeReqs = l.seats.modeReqs ++
        [⟨Mode.armed.code, none, h, path⟩] ∧ m.seats.replies = l.seats.replies ∧ m.mode = l.mode ∧
        m.wing.proposed = (if l.wing.proposed = l.get R.LC_STATE_MSTATE then Mode.armed.code else stricter
        l.wing.proposed Mode.armed.code)) ∧
      (∀ st, l.allows h .arm → l.armRefused = some st → m.seats.modeReqs = l.seats.modeReqs ++
        [⟨0, some (st.cls, st.detail), h, path⟩] ∧ m.wing.proposed = l.wing.proposed) := by
  refine does_logic hs rfl execArm_event rfl (by decide +kernel) fun hl => ?_
  generalize s.before (.arm e h path) = l at hl
  have runs : l.counted.runOp h path .arm = l.counted.arm h path := rfl
  refine ⟨turnedAway_perform_late hl rfl, fun a fine => ?_, fun st a refused => ?_⟩ <;>
    rw [Lane.perform_of_allows rfl a, runs] <;> unfold Lane.arm <;> rw [l.armRefused_counted]
  · rw [fine]
    exact l.askMode_counted_effects h path .armed
  · rw [refused]
    obtain ⟨asked, proposed, -⟩ := l.refuseMode_counted_effects h path st
    exact ⟨asked, proposed⟩

theorem does_perform (e : At) (h : Hdr) (path : Option Path) (s : State) (hs : s.Runs e) :
    Does (.perform e h path) s (replyParts ++ [.wing]) fun l m =>
      TurnedAway l m h path .perform ∧
      (l.allows h .perform → l.inhibited = false → m.seats.modeReqs = l.seats.modeReqs ++
        [⟨Mode.performing.code, none, h, path⟩] ∧ m.seats.replies = l.seats.replies ∧ m.mode = l.mode) ∧
      (l.allows h .perform → l.inhibited = true → m.seats.modeReqs = l.seats.modeReqs ++
        [⟨0, some (4, l.mode.code), h, path⟩] ∧ m.wing.proposed = l.wing.proposed) := by
  refine does_logic hs rfl execPerform_event rfl (by decide +kernel) fun hl => ?_
  generalize s.before (.perform e h path) = l at hl
  have runs : l.counted.runOp h path .perform = l.counted.performOp h path := rfl
  refine ⟨turnedAway_perform_late hl rfl, fun a free => ?_, fun a inhibited => ?_⟩ <;>
    rw [Lane.perform_of_allows rfl a, runs] <;> unfold Lane.performOp <;> rw [l.inhibited_counted]
  · rw [if_neg (Bool.eq_false_iff.1 free)]
    obtain ⟨asked, replies, mode, -⟩ := l.askMode_counted_effects h path .performing
    exact ⟨asked, replies, mode⟩
  · have armed : l.mode = .armed := beq_iff_eq.1 (Lane.opStates_of_allows a rfl rfl)
    have code := Lane.get_MSTATE_eq_code (l := l) (by rw [armed]; decide)
    obtain ⟨asked, proposed, -⟩ := l.refuseMode_counted_effects h path l.stateStatus
    rw [if_pos inhibited, l.stateStatus_counted, ← code]
    exact ⟨asked, proposed⟩

/-- Every axis the book enables stands still, or one of them does not. -/
theorem Lane.everyAxis_iff (l : Lane) (f : Axis → Bool) : l.everyAxis f = true ↔ ∀ n, l.bookEnables n = true → f n = true := by
  unfold Lane.everyAxis
  simp only [List.all_eq_true, List.mem_finRange, true_imp_iff, Bool.or_eq_true, Bool.not_eq_true']
  exact forall_congr' fun n => by rw [← Bool.not_eq_true, ← imp_iff_not_or]

theorem Lane.still_counted (l : Lane) : (l.counted.everyAxis fun n => l.counted.flag (R.FB_STAT_STILL n)) =
    l.everyAxis fun n => l.flag (R.FB_STAT_STILL n) := by
  have still (n : Axis) : l.counted.flag (R.FB_STAT_STILL n) = l.flag (R.FB_STAT_STILL n) :=
    Lane.flag_of_get (l.get_counted (by revert n; decide))
  simp only [still]
  rfl

theorem does_disarm (e : At) (h : Hdr) (path : Option Path) (s : State) (hs : s.Runs e) :
    Does (.disarm e h path) s (replyParts ++ [.wing]) fun l m =>
      TurnedAway l m h path .disarm ∧
      (l.allows h .disarm → (∀ n, l.bookEnables n = true → l.flag (R.FB_STAT_STILL n) = true) →
        m.seats.modeReqs = l.seats.modeReqs ++ [⟨Mode.hold.code, none, h, path⟩] ∧
        m.seats.replies = l.seats.replies ∧ m.mode = l.mode) ∧
      (l.allows h .disarm → (∃ n, l.bookEnables n = true ∧
        l.flag (R.FB_STAT_STILL n) = false) → m.seats.modeReqs = l.seats.modeReqs ++
        [⟨0, some (4, l.mode.code), h, path⟩] ∧ m.wing.proposed = l.wing.proposed) := by
  refine does_logic hs rfl execDisarm_event rfl (by decide +kernel) fun hl => ?_
  generalize s.before (.disarm e h path) = l at hl
  have runs : l.counted.runOp h path .disarm = l.counted.disarm h path := rfl
  have rests := l.everyAxis_iff fun n => l.flag (R.FB_STAT_STILL n)
  refine ⟨turnedAway_perform_late hl rfl, fun a still => ?_, fun a ⟨n, enabled, moves⟩ => ?_⟩ <;>
    rw [Lane.perform_of_allows rfl a, runs] <;> unfold Lane.disarm <;> rw [l.still_counted]
  · rw [if_pos (rests.2 still)]
    obtain ⟨asked, replies, mode, -⟩ := l.askMode_counted_effects h path .hold
    exact ⟨asked, replies, mode⟩
  · have states : (l.mode == .armed || l.mode == .performing) = true := Lane.opStates_of_allows a rfl rfl
    have drives : l.mode = .armed ∨ l.mode = .performing := by simpa using states
    have code := Lane.get_MSTATE_eq_code (l := l) (by rcases drives with d | d <;> rw [d] <;> decide)
    obtain ⟨asked, proposed, -⟩ := l.refuseMode_counted_effects h path l.stateStatus
    have stirs : ¬(l.everyAxis fun n => l.flag (R.FB_STAT_STILL n)) = true := fun all =>
      Bool.eq_false_iff.1 moves (rests.1 all n enabled)
    rw [if_neg stirs, l.stateStatus_counted, ← code]
    exact ⟨asked, proposed⟩

theorem does_workshopEnter (e : At) (h : Hdr) (path : Option Path) (s : State) (hs : s.Runs e) :
    Does (.workshopEnter e h path) s (replyParts ++ [.wing]) fun l m =>
      TurnedAway l m h path .workshopEnter ∧
      (l.allows h .workshopEnter → l.mode = .curtain → 2 ≤ l.get R.LC_STATE_LIVECNT →
        m.seats.modeReqs = l.seats.modeReqs ++ [⟨Mode.workshop.code, none, h, path⟩] ∧
          m.seats.replies = l.seats.replies ∧ m.mode = l.mode) ∧
      (l.allows h .workshopEnter → l.mode = .curtain → l.get R.LC_STATE_LIVECNT < 2 →
        m.seats.modeReqs = l.seats.modeReqs ++ [⟨0, some (4, l.mode.code), h, path⟩]) ∧
      (l.allows h .workshopEnter → l.mode = .hold → l.wing.booksDiffer = false → l.wing.serialBad = false →
        m.seats.modeReqs = l.seats.modeReqs ++ [⟨Mode.workshop.code, none, h, path⟩] ∧
          m.seats.replies = l.seats.replies ∧ m.mode = l.mode) ∧
      (l.allows h .workshopEnter → l.mode = .hold → l.wing.booksDiffer = true ∨ l.wing.serialBad = true →
        m.seats.modeReqs = l.seats.modeReqs ++ [⟨0, some (4, l.mode.code), h, path⟩]) := by
  refine does_logic hs rfl execWorkshopEnter_event rfl (by decide +kernel) fun hl => ?_
  generalize s.before (.workshopEnter e h path) = l at hl
  have live : l.counted.get R.LC_STATE_LIVECNT = l.get R.LC_STATE_LIVECNT := l.get_counted (by decide)
  have tied : l.counted.tiedToHold = (l.mode == .hold && (l.wing.booksDiffer || l.wing.serialBad)) := by
    rw [← l.mode_counted]
    rfl
  have runs : l.counted.runOp h path .workshopEnter =
      if l.mode = .curtain ∧ l.get R.LC_STATE_LIVECNT < 2 then l.counted.refuseMode h path l.stateStatus
      else if (l.mode == .hold && (l.wing.booksDiffer || l.wing.serialBad)) then l.counted.refuseMode h path l.stateStatus
      else l.counted.askMode h path .workshop := by
    rw [← tied, ← live, ← l.mode_counted, ← l.stateStatus_counted]
    rfl
  obtain ⟨asked, replies, mode, -⟩ := l.askMode_counted_effects h path .workshop
  obtain ⟨refuses, -, -⟩ := l.refuseMode_counted_effects h path l.stateStatus
  refine ⟨turnedAway_perform_late hl rfl, fun a curtain two => ?_, fun a curtain few => ?_, fun a hold same paired => ?_,
    fun a hold bad => ?_⟩ <;> rw [Lane.perform_of_allows rfl a, runs]
  · rw [if_neg (fun few => by omega), if_neg (by rw [curtain]; exact Bool.false_ne_true)]
    exact ⟨asked, replies, mode⟩
  · rw [if_pos ⟨curtain, few⟩, ← Lane.get_MSTATE_eq_code (by rw [curtain]; decide)]
    exact refuses
  · rw [if_neg (by rw [hold]; exact fun h => nomatch h.1), if_neg (by rw [hold, same, paired]; decide)]
    exact ⟨asked, replies, mode⟩
  · rw [if_neg (by rw [hold]; exact fun h => nomatch h.1), if_pos (by rcases bad with bad | bad <;> rw [hold, bad] <;> simp),
      ← Lane.get_MSTATE_eq_code (by rw [hold]; decide)]
    exact refuses

theorem does_workshopLeave (e : At) (h : Hdr) (path : Option Path) (s : State) (hs : s.Runs e) :
    Does (.workshopLeave e h path) s (replyParts ++ [.wing]) fun l m =>
      TurnedAway l m h path .workshopLeave ∧
      (l.allows h .workshopLeave → m.seats.modeReqs = l.seats.modeReqs ++ [⟨Mode.hold.code, none, h, path⟩] ∧
        m.seats.replies = l.seats.replies ∧ m.mode = l.mode) := by
  refine does_logic hs rfl execWorkshopLeave_event rfl (by decide +kernel) fun hl => ?_
  generalize s.before (.workshopLeave e h path) = l at hl
  have runs : l.counted.runOp h path .workshopLeave = l.counted.askMode h path .hold := rfl
  refine ⟨turnedAway_perform_late hl rfl, fun a => ?_⟩
  rw [Lane.perform_of_allows rfl a, runs]
  obtain ⟨asked, replies, mode, -⟩ := l.askMode_counted_effects h path .hold
  exact ⟨asked, replies, mode⟩

/-! ### SETPOINT (R577) -/

/-- Within a mask that holds no part of it the loop of an axis stays as it is. -/
theorem LoopState.Near.eq {M : Nat} {x y : LoopState} (h : LoopState.Near M x y) (m : M &&& maskOf [.loops] = 0) : y = x := by
  have part : ∀ k < 14, (maskOf [.loops]).testBit (373 + k) = true := by decide +kernel
  have out (k : Nat) (hk : k < 14) : M.testBit (373 + k) = false := testBit_of_and_eq_zero m (part k hk)
  obtain ⟨limc, io, iw, outerRan, oscO, oscW, sums, evaluated, startNext, oscFlag, plausFlag, softNext, dropped, saved⟩ := h
  cases x
  cases y
  rw [LoopState.mk.injEq]
  exact ⟨limc (out 0 (by decide)), io (out 1 (by decide)), iw (out 2 (by decide)), outerRan (out 3 (by decide)),
    oscO (out 4 (by decide)), oscW (out 5 (by decide)), sums (out 6 (by decide)), evaluated (out 7 (by decide)),
    startNext (out 8 (by decide)), oscFlag (out 9 (by decide)), plausFlag (out 10 (by decide)), softNext (out 11 (by decide)),
    dropped (out 12 (by decide)), saved (out 13 (by decide))⟩

/-- A field that fills its word is the word. -/
theorem Fld.insert_whole (a : Nat) (w : Word) (v : Nat) : (⟨a, 0, 32⟩ : Fld).insert w v = BitVec.ofNat 32 v := by
  have mask : (⟨a, 0, 32⟩ : Fld).mask = BitVec.allOnes 32 := rfl
  unfold Fld.insert
  rw [mask]
  apply BitVec.eq_of_toNat_eq
  simp

section
variable {i : LaneId} {l : Lane}

/-- An answer leaves the loops. -/
theorem Lane.loops_answer (hl : l.Sound i) (h : Hdr) (path : Option Path) (st : Status) (b : List Byte) :
    (l.answer h path st b).loops = l.loops :=
  Vector.ext fun n hn => ((Lane.near_answer hl h path st b).loops ⟨n, hn⟩).eq (by decide +kernel)

/-- The two words of a set point. -/
def Lane.PrefIs (l : Lane) (n : Axis) (r : BitVec 64) : Prop :=
  l.word (R.LE_PREF_HI n) = BitVec.ofNat 32 (r.toNat / 2 ^ 32) ∧ l.word (R.LE_PREF_LO n) = BitVec.ofNat 32 (r.toNat % 2 ^ 32)

/-- The set point of one axis reads back, that of another stays (R577). -/
theorem Lane.prefIs_setPref (hl : l.Sound i) (n : Axis) (r : BitVec 64) : (l.setPref n r).PrefIs n r := by
  have apart : R.LE_PREF_HI n ≠ R.LE_PREF_LO n := by revert n; decide
  have hh : (l.put (R.LE_PREF_HI_PREF n) (r.toNat / 2 ^ 32)).Sound i := hl.put _ _
  unfold Lane.PrefIs Lane.setPref
  refine ⟨?_, ?_⟩
  · unfold Lane.put
    rw [Lane.word_setWord_of_ne _ _ apart, Lane.word_setWord hl.wf]
    exact Fld.insert_whole _ _ _
  · rw [Lane.put, Lane.word_setWord hh.wf]
    exact Fld.insert_whole _ _ _

theorem Lane.word_setPref_of_ne (l : Lane) {k n : Axis} (other : k ≠ n) (r : BitVec 64) :
    (l.setPref k r).word (R.LE_PREF_HI n) = l.word (R.LE_PREF_HI n) ∧
      (l.setPref k r).word (R.LE_PREF_LO n) = l.word (R.LE_PREF_LO n) := by
  have apart : ∀ k n : Axis, k ≠ n → R.LE_PREF_HI n ≠ R.LE_PREF_HI k ∧ R.LE_PREF_HI n ≠ R.LE_PREF_LO k ∧
      R.LE_PREF_LO n ≠ R.LE_PREF_HI k ∧ R.LE_PREF_LO n ≠ R.LE_PREF_LO k := by decide
  obtain ⟨hh, hl, lh, ll⟩ := apart k n other
  unfold Lane.setPref Lane.put
  rw [Lane.word_setWord_of_ne _ _ hl, Lane.word_setWord_of_ne _ _ hh, Lane.word_setWord_of_ne _ _ ll,
    Lane.word_setWord_of_ne _ _ lh]
  exact ⟨rfl, rfl⟩

/-- What an entry does to the set points is its set point. -/
theorem Lane.word_setOne (hl : l.Sound i) (k : Axis) (r : BitVec 64) {a : Nat} (place : regNo a = 194 ∨ regNo a = 195) :
    (l.setOne ⟨k.val, r⟩).word a = (l.setPref k r).word a := by
  have near : Lane.Near (allBut [194, 195]) (l.setPref k r) (l.setOne ⟨k.val, r⟩) := by
    have hp : (l.setPref k r).Sound i := (hl.put _ _).put _ _
    unfold Lane.setOne
    rw [dif_pos k.isLt]
    exact Lane.near_ite (Lane.ensureEnabled_near (by decide +kernel) (Lane.onMode_near (f := _)
      (.mk kp kp kp kp kp (not_bit (by decide +kernel)) kp kp kp kp) (.refl _ hp))) (.refl _ hp)
  exact near.word _ (by rcases place with p | p <;> rw [p] <;> decide +kernel)

theorem Lane.Sound.setOne (hl : l.Sound i) (e : SetEntry) : (l.setOne e).Sound i :=
  (Lane.setOne_near (M := allBut []) (by decide +kernel) (.refl _ hl)).place hl

theorem Lane.Sound.foldl_setOne (hl : l.Sound i) (es : List SetEntry) : (es.foldl (fun l e => l.setOne e) l).Sound i := by
  induction es generalizing l with
  | nil => exact hl
  | cons e es ih => exact ih (hl.setOne e)

/-- Entries of other axes leave a set point. -/
theorem Lane.PrefIs.foldl_setOne {n : Axis} {r : BitVec 64} (hl : l.Sound i) (set : l.PrefIs n r) {es : List SetEntry}
    (valid : ∀ x ∈ es, x.axis < 4) (none : ∀ x ∈ es, x.axis ≠ n.val) : (es.foldl (fun l e => l.setOne e) l).PrefIs n r := by
  induction es generalizing l with
  | nil => exact set
  | cons e es ih =>
    obtain ⟨k, v⟩ := e
    have small : k < 4 := valid ⟨k, v⟩ List.mem_cons_self
    have other : (⟨k, small⟩ : Axis) ≠ n := fun same => none ⟨k, v⟩ List.mem_cons_self (congrArg Fin.val same)
    refine ih (hl.setOne _) ?_ (fun x mem => valid x (.tail _ mem)) (fun x mem => none x (.tail _ mem))
    obtain ⟨hi, lo⟩ := l.word_setPref_of_ne other v
    unfold Lane.PrefIs
    rw [Lane.word_setOne hl ⟨k, small⟩ v (.inr (at_LE_PREF_HI n.isLt).1),
      Lane.word_setOne hl ⟨k, small⟩ v (.inl (at_LE_PREF_LO n.isLt).1), hi, lo]
    exact set

/-- Every entry of a SETPOINT sets its axis, where no axis stands twice. -/
theorem Lane.prefIs_foldl_setOne (hl : l.Sound i) {es : List SetEntry} (valid : ∀ x ∈ es, x.axis < 4)
    (once : (es.map (·.axis)).Nodup) {n : Axis} {r : BitVec 64} (mem : ⟨n.val, r⟩ ∈ es) :
    (es.foldl (fun l e => l.setOne e) l).PrefIs n r := by
  induction es generalizing l with
  | nil => exact nomatch mem
  | cons e es ih =>
    obtain ⟨fresh, rest⟩ := List.nodup_cons.1 once
    have later : ∀ x ∈ es, x.axis < 4 := fun x mem => valid x (.tail _ mem)
    rcases List.mem_cons.1 mem with rfl | mem
    · refine Lane.PrefIs.foldl_setOne (hl.setOne _) ?_ later fun x mem same => ?_
      · unfold Lane.PrefIs
        rw [Lane.word_setOne hl n r (.inr (at_LE_PREF_HI n.isLt).1), Lane.word_setOne hl n r (.inl (at_LE_PREF_LO n.isLt).1)]
        exact Lane.prefIs_setPref hl n r
      · exact fresh (List.mem_map.2 ⟨x, mem, same⟩)
    · exact ih (hl.setOne e) later rest mem

/-- A SETPOINT is refused for an axis that has no role before one that stands twice (R577). -/
theorem Lane.setpointRefused_eq (l : Lane) (es : List SetEntry) : l.setpointRefused es =
    if ∀ x ∈ es, ∃ n : Axis, n.val = x.axis ∧ l.loopRole n ≠ .none then
      if (es.map (·.axis)).Nodup then none else some (.param 2)
    else some (.param 7) := by
  have valid (x : SetEntry) : (if h : x.axis < 4 then l.loopRole ⟨x.axis, h⟩ != .none else false) = true ↔
      ∃ n : Axis, n.val = x.axis ∧ l.loopRole n ≠ .none := by
    split_ifs with small
    · exact ⟨fun role => ⟨⟨x.axis, small⟩, rfl, bne_iff_ne.1 role⟩, fun ⟨n, same, role⟩ => bne_iff_ne.2 (by
        have : n = ⟨x.axis, small⟩ := Fin.ext same
        rwa [← this])⟩
    · exact ⟨nofun, fun ⟨n, same, _⟩ => absurd (same ▸ n.isLt) small⟩
  unfold Lane.setpointRefused
  simp only [Bool.not_eq_true', ← Bool.not_eq_true, List.all_eq_true, valid]
  by_cases all : ∀ x ∈ es, ∃ n : Axis, n.val = x.axis ∧ l.loopRole n ≠ .none
  · rw [if_neg (not_not.2 all), if_pos all]
    by_cases once : (es.map (·.axis)).Nodup <;> simp [once]
  · rw [if_pos all, if_neg all]

theorem Lane.setpoint_of_refused {h : Hdr} {path : Option Path} {es : List SetEntry} {st : Status}
    (refused : l.setpointRefused es = some st) : l.setpoint h path es = l.answer h path st [] := by
  unfold Lane.setpoint
  rw [refused]

theorem Lane.setpoint_of_fits {h : Hdr} {path : Option Path} {es : List SetEntry}
    (fits : l.setpointRefused es = none) : l.setpoint h path es = (es.foldl (fun l e => l.setOne e) l).answer h path .ok [] := by
  unfold Lane.setpoint
  rw [fits]

theorem Lane.setpointRefused_counted (l : Lane) (es : List SetEntry) : l.counted.setpointRefused es = l.setpointRefused es := by
  simp only [Lane.setpointRefused_eq, l.loopRole_counted]

end

theorem does_setpoint (e : At) (h : Hdr) (path : Option Path) (es : List SetEntry) (s : State) (hs : s.Runs e) :
    Does (.setpoint e h path es) s (replyParts ++ [.reg (R.DC_CTRL 0), .reg (R.DC_STAT 0), .reg (R.DC_EVT 0),
    .reg (R.DC_CNT 0), .reg (R.GD_STAT 0), .reg (R.GD_EVT 0), .reg (R.LE_PREF_LO 0), .reg (R.LE_PREF_HI 0),
    .reg (R.LE_WREF 0), .reg (R.LE_INT 0), .axUs, .axSw, .axRefresh, .axLeak, .axRecatch, .power, .loops]) fun l m =>
      TurnedAway l m h path (.setpoint es) ∧
      (l.allows h (.setpoint es) → (∃ x ∈ es, 4 ≤ x.axis) → Answered l m h path (.param 7) [] ∧ m.loops = l.loops) ∧
      (l.allows h (.setpoint es) → (∃ x ∈ es, ∃ n : Axis, n.val = x.axis ∧ l.loopRole n = .none) →
        Answered l m h path (.param 7) [] ∧ m.loops = l.loops) ∧
      (l.allows h (.setpoint es) → (∀ x ∈ es, ∃ n : Axis, n.val = x.axis ∧ l.loopRole n ≠ .none) →
        (¬(es.map (·.axis)).Nodup → Answered l m h path (.param 2) [] ∧ m.loops = l.loops) ∧
        ((es.map (·.axis)).Nodup → Answered l m h path .ok [] ∧
          ∀ (n : Axis) r, ⟨n.val, r⟩ ∈ es → m.word (R.LE_PREF_HI n) = BitVec.ofNat 32 (r.toNat / 2 ^ 32) ∧
            m.word (R.LE_PREF_LO n) = BitVec.ofNat 32 (r.toNat % 2 ^ 32))) := by
  refine does_logic hs rfl execSetpoint_event rfl (by decide +kernel) fun hl => ?_
  generalize s.before (.setpoint e h path es) = l at hl
  have hc := hl.counted
  have runs : l.counted.runOp h path (.setpoint es) = l.counted.setpoint h path es := rfl
  have refuses (st : Status) (refused : l.setpointRefused es = some st) :
      Answered l (l.counted.setpoint h path es) h path st [] ∧ (l.counted.setpoint h path es).loops = l.loops := by
    rw [Lane.setpoint_of_refused ((l.setpointRefused_counted es).trans refused)]
    exact ⟨answered_answer hc rfl rfl rfl _ _ _ _, Lane.loops_answer hc _ _ _ _⟩
  refine ⟨turnedAway_perform hl rfl rfl, fun a ⟨x, mem, large⟩ => ?_, fun a ⟨x, mem, n, same, idle⟩ => ?_, fun a roles =>
    ⟨fun twice => ?_, fun once => ?_⟩⟩ <;> rw [Lane.perform_of_allows rfl a, runs]
  · refine refuses _ ((l.setpointRefused_eq es).trans (if_neg fun roles => ?_))
    obtain ⟨n, same, -⟩ := roles x mem
    exact absurd n.isLt (by omega)
  · refine refuses _ ((l.setpointRefused_eq es).trans (if_neg fun roles => ?_))
    obtain ⟨k, same', role⟩ := roles x mem
    exact role (Fin.ext (same'.trans same.symm) ▸ idle)
  · exact refuses _ ((l.setpointRefused_eq es).trans ((if_pos roles).trans (if_neg twice)))
  · have fits : l.counted.setpointRefused es = none :=
      (l.setpointRefused_counted es).trans ((l.setpointRefused_eq es).trans ((if_pos roles).trans (if_pos once)))
    have valid : ∀ x ∈ es, x.axis < 4 := fun x mem => by
      obtain ⟨n, same, -⟩ := roles x mem
      omega
    have sets (n : Axis) (r : BitVec 64) (mem : ⟨n.val, r⟩ ∈ es) := Lane.prefIs_foldl_setOne hc valid once mem
    have sound := hc.foldl_setOne es
    have near : Lane.Near (allBut [441, 442]) l.counted (es.foldl (fun l e => l.setOne e) l.counted) :=
      Lane.near_foldl (fun _ _ _ g => Lane.setOne_near (by decide +kernel) g) (.refl _ hc)
    have replies := near.seats.replies (by decide +kernel)
    have ring := near.seats.ringReplies (by decide +kernel)
    have id := near.id
    rw [Lane.setpoint_of_fits fits]
    generalize es.foldl (fun l e => l.setOne e) l.counted = k at sets sound replies ring id
    refine ⟨answered_answer sound id replies ring _ _ _ _, fun n r mem => ?_⟩
    have answers := Lane.near_answer sound h path .ok []
    rw [answers.word _ (by rw [(at_LE_PREF_HI n.isLt).1]; decide +kernel),
      answers.word _ (by rw [(at_LE_PREF_LO n.isLt).1]; decide +kernel)]
    exact sets n r mem

/-- Settles O48, command by command. -/
theorem stateOpcodes : Obligations.StateOpcodes := by
  unfold Obligations.StateOpcodes
  exact ⟨does_arm, does_perform, does_setpoint, does_disarm, does_workshopEnter, does_workshopLeave⟩

/-! ### A seat that does not hold the spotlight (R494) -/

section
variable {i : LaneId} {l : Lane} {h : Hdr} {path : Option Path} {op : Op}

/-- An opcode marked holder is refused with the seat that holds or is reserved. -/
theorem Lane.opRefused_of_unheld (play : l.inPlay) (states : opStates op l.mode = true) (holder : opHolder op = true)
    (unheld : ¬(l.flag R.HS_SPOT_HELD = true ∧ l.get R.HS_SPOT_HOLDER = h.seat.val ∧ l.mode_.cycle < l.endCycle)) :
    l.opRefused h op = some (.noSpot l.spotOwner) := by
  obtain ⟨firmware, inside, light⟩ := play
  have dark : l.holdsSpot h.seat = false := by rw [Bool.eq_false_iff, Ne, Lane.holdsSpot_iff]; exact unheld
  rw [Lane.opRefused_of_in firmware inside, if_neg (fun ghost => light ghost.1), if_neg (by rw [states]; decide),
    if_pos ⟨holder, by rw [dark]; rfl⟩]

/-- At once where the opcode is answered so. -/
theorem answered_of_unheld (hl : l.Sound i) (agreed : opLocal op = false) (soon : opAtCycle op = false) (named : l.named h)
    (refused : l.opRefused h op = some (.noSpot l.spotOwner)) :
    Answered l (l.perform h path op) h path ⟨10, l.spotOwner⟩ [] := by
  have away := (turnedAway_perform (path := path) hl agreed soon).2 _ named refused
  rwa [if_neg (by rw [soon]; exact fun h => nomatch h.1)] at away

/-- At the next cycle start for a module state. -/
theorem asked_of_unheld (agreed : opLocal op = false) (late : opAtCycle op = true) (named : l.named h)
    (low : 4 ≤ l.mode.code) (high : l.mode.code ≤ 10) (refused : l.opRefused h op = some (.noSpot l.spotOwner)) :
    (l.perform h path op).seats.modeReqs = l.seats.modeReqs ++ [⟨0, some (10, l.spotOwner), h, path⟩] ∧
      (l.perform h path op).mode = l.mode := by
  rw [Lane.perform_of_refusedMode named agreed late (Lane.fromHold_of_code low high) refused]
  obtain ⟨asked, -, mode⟩ := l.refuseMode_counted_effects h path (.noSpot l.spotOwner)
  exact ⟨asked, mode⟩

/-- A waiting refusal is answered at the cycle start (R554). -/
theorem Lane.answerModes_of_refused (hl : l.Sound i) {r : ModeReq} {c d : Nat} (waits : l.seats.modeReqs = [r])
    (refused : r.refused = some (c, d)) :
    Answered l l.answerModes r.hdr r.path ⟨c, d⟩ [] ∧ l.answerModes.seats.modeReqs = [] := by
  have answers : l.answerModes = (l.onSeats fun s => { s with modeReqs := [] }).answer r.hdr r.path ⟨c, d⟩ [] := by
    unfold Lane.answerModes
    rw [waits, List.foldl_cons, List.foldl_nil, refused]
  have emptied : (l.onSeats fun s => { s with modeReqs := [] }).Sound i := hl.onSeats _
  have near : Lane.Near (allBut [456]) (l.onSeats fun s => { s with modeReqs := [] })
      ((l.onSeats fun s => { s with modeReqs := [] }).answer r.hdr r.path ⟨c, d⟩ []) :=
    Lane.answer_near (by decide +kernel) (.refl _ emptied)
  rw [answers]
  exact ⟨answered_answer emptied rfl rfl rfl _ _ _ _, near.seats.modeReqs (by decide +kernel)⟩

end

/-- Settles O57: each opcode marked holder is refused NOSPOT, the state changes at the next cycle start. -/
theorem holderRefused : Obligations.HolderRefused := by
  unfold Obligations.HolderRefused
  refine ⟨fun e h path es s hs => ?_, fun e h path index s hs => ?_, fun e h path s hs => ?_, fun e h path s hs => ?_,
    fun e h path s hs => ?_, fun l r c d i hl => Lane.answerModes_of_refused hl⟩
  · refine does_logic hs rfl execSetpoint_event rfl (by decide +kernel) fun hl named play mode unheld => ?_
    refine answered_of_unheld hl rfl rfl named (Lane.opRefused_of_unheld play ?_ rfl unheld)
    rcases mode with mode | mode | mode <;> rw [mode] <;> rfl
  · refine does_logic hs rfl execRehTask_event rfl (by decide +kernel) fun hl named play mode unheld => ?_
    exact answered_of_unheld hl rfl rfl named (Lane.opRefused_of_unheld play (by rw [mode]; rfl) rfl unheld)
  · refine does_logic hs rfl execArm_event rfl (by decide +kernel) fun hl named play mode unheld => ?_
    exact asked_of_unheld rfl rfl named (by rw [mode]; decide) (by rw [mode]; decide)
      (Lane.opRefused_of_unheld play (by rw [mode]; rfl) rfl unheld)
  · refine does_logic hs rfl execPerform_event rfl (by decide +kernel) fun hl named play mode unheld => ?_
    exact asked_of_unheld rfl rfl named (by rw [mode]; decide) (by rw [mode]; decide)
      (Lane.opRefused_of_unheld play (by rw [mode]; rfl) rfl unheld)
  · refine does_logic hs rfl execDisarm_event rfl (by decide +kernel) fun hl named play mode unheld => ?_
    have known : 4 ≤ (s.before (.disarm e h path)).mode.code ∧ (s.before (.disarm e h path)).mode.code ≤ 10 := by
      rcases mode with mode | mode <;> rw [mode] <;> decide
    refine asked_of_unheld rfl rfl named known.1 known.2 (Lane.opRefused_of_unheld play ?_ rfl unheld)
    rcases mode with mode | mode <;> rw [mode] <;> rfl

end Sys2Proof.Machine

/-!
PROOFS. Sessions, the house log and attestation (R473, R476, R484, R534).
-/

namespace Sys2Proof.Machine

-- one declaration at a time: each waits for the kernel, and a waiting one holds a thread and its stack
set_option Elab.async false

/-! ### Tickets that are answered when their work ends (R475, R534) -/

/-- How a lane takes an opcode that is answered when its ticketed work ends, or at once where the ticket is too dear. -/
theorem Lane.queueAsked_effects_late {i : LaneId} {k l : Lane} (hk : k.Sound i) (id : k.id = l.id) (seats : k.seats = l.seats)
    (box : k.box = l.box) (dear : ∀ t, k.tooDear t = l.tooDear t) {h : Hdr} {path : Option Path} (w : Work) (c : Cost)
    (engine : Option Engine) : ∃ t : Ticket, t.work = w ∧ t.cost = c ∧
      (l.tooDear t = true → Answered l (k.queueAsked h path w c engine none) h path (.param 5) [] ∧
        (k.queueAsked h path w c engine none).flag R.BX_EVT_TREFUSE = true ∧
        (k.queueAsked h path w c engine none).box.queued = l.box.queued) ∧
      (l.tooDear t = false → (k.queueAsked h path w c engine none).box.queued = l.box.queued ++ [t] ∧
        (k.queueAsked h path w c engine none).seats.replies = l.seats.replies) := by
  have hn : k.numberTicket.Sound i := hk.onBox _
  refine ⟨k.requestedTicket w c engine, rfl, rfl, fun costs => ?_, fun fair => ?_⟩
  · rw [Lane.queueAsked_of_tooDear hk _ ((dear _).trans costs), ← box]
    have hr := hn.raise R.BX_EVT_TREFUSE
    have refused : (k.numberTicket.raise R.BX_EVT_TREFUSE).flag R.BX_EVT_TREFUSE = true := Lane.flag_raise hn.wf _ (by decide) rfl
    have kept : (k.numberTicket.raise R.BX_EVT_TREFUSE).id = k.id ∧
      (k.numberTicket.raise R.BX_EVT_TREFUSE).seats = k.seats ∧
      (k.numberTicket.raise R.BX_EVT_TREFUSE).box.queued = k.box.queued := ⟨rfl, rfl, rfl⟩
    generalize k.numberTicket.raise R.BX_EVT_TREFUSE = x at hr refused kept
    obtain ⟨xId, xSeats, xQueue⟩ := kept
    rw [seats] at xSeats
    refine ⟨answered_answer hr (xId.trans id) (by rw [xSeats]) (by rw [xSeats]) _ _ _ _, ?_, ?_⟩
    · exact (Lane.near_answer hr h path (.param 5) []).flag (by decide +kernel) is_BX_EVT rfl refused
    · rw [Lane.box_answer hr, xQueue]
  · have queued : k.queueAsked h path w c engine none = k.ticketQueued (k.requestedTicket w c engine) := by
      unfold Lane.queueAsked
      rw [Lane.queueTicket_of_fair (some (h, path)) ((dear _).trans fair)]
      exact ite_self _
    rw [queued, ← box, ← seats]
    exact ⟨rfl, rfl⟩

/-! ### SESSION_OPEN and SESSION_CLOSE (R473, R476) -/

/-- A replayed identifier is shown, counted and logged (R472, R475). -/
theorem Lane.authFail_replay_effects {i : LaneId} {l : Lane} (hl : l.Sound i) (s : Seat) :
    (l.authFail s 3).Sound i ∧ (l.authFail s 3).flag R.HS_EVT_AUTHFAIL = true ∧
      (l.authFail s 3).flag R.HS_EVT_REPLAY = true ∧
      (l.authFail s 3).log = ⟨l.logNext, l.ltime, .authFailed s 3⟩ :: l.log := by
  have failed : l.authFail s 3 =
      (((l.raise R.HS_EVT_AUTHFAIL).bump R.HS_CNT1_REPLAY).raise R.HS_EVT_REPLAY).note (.authFailed s 3) := rfl
  have h1 := hl.raise R.HS_EVT_AUTHFAIL
  have h2 := h1.bump R.HS_CNT1_REPLAY
  rw [failed]
  refine ⟨(h2.raise _).note _, ?_, ?_, rfl⟩
  · rw [Lane.flag_note, Lane.flag_of_get h2.get_raise_apart, Lane.flag_of_get (Lane.get_bump_elsewhere _ at_HS_CNT1.1 ev_HS_EVT)]
    exact Lane.flag_raise hl.wf _ (by decide) rfl
  · rw [Lane.flag_note]
    exact Lane.flag_raise h2.wf _ (by decide) rfl

theorem does_sessionOpen (e : At) (h : Hdr) (path : Option Path) (key : BitVec 64) (a b : Bool) (s : State) (hs : s.Runs e) :
    Does (.sessionOpen e h path key a b) s (replyParts ++
    [.reg R.BX_STAT, .reg R.BX_EVT, .reg R.BX_DIECOM, .reg (R.HS_SSES 0), .reg (R.HS_SSEQ 0), .log, .trust,
    .box]) fun l m =>
      TurnedAway l m h path (.sessionOpen key a b) ∧
      (l.allows h (.sessionOpen key a b) → h.session.toNat ≤ l.seats.sessionHigh[h.seat] →
        Answered l m h path (.auth 3) [] ∧ m.flag R.HS_EVT_AUTHFAIL = true ∧ m.flag R.HS_EVT_REPLAY = true ∧
        ∃ r, m.log = r :: l.log ∧ r.entry = .authFailed h.seat 3) ∧
      (l.allows h (.sessionOpen key a b) → l.trust.romResponder = false →
        l.seats.sessionHigh[h.seat] < h.session.toNat →
        ∃ t : Ticket, t.work = .session h path key a b ∧ t.cost = firmwareCost 3 ∧
        (l.tooDear t = true → Answered l m h path (.param 5) [] ∧ m.flag R.BX_EVT_TREFUSE = true ∧
          m.box.queued = l.box.queued) ∧
        (l.tooDear t = false → m.box.queued = l.box.queued ++ [t] ∧ m.seats.replies = l.seats.replies)) := by
  refine does_logic hs rfl execSessionOpen_event rfl (by decide +kernel) fun hl => ?_
  generalize s.before (.sessionOpen e h path key a b) = l at hl
  have hc := hl.counted
  have runs : l.counted.runOp h path (.sessionOpen key a b) =
      if !decide (l.seats.sessionHigh[h.seat] < h.session.toNat) then l.counted.answerAuth h path 3
      else if l.trust.romResponder then l.counted.finishSession h path key a b
      else l.counted.queueAsked h path (.session h path key a b) (firmwareCost 3) (some (firmwareEngineOf 3)) none := rfl
  refine ⟨turnedAway_perform hl rfl rfl, fun al old => ?_, fun al firmware new => ?_⟩ <;>
    rw [Lane.perform_of_allows rfl al, runs]
  · rw [if_pos (by simpa using old)]
    obtain ⟨hf, failed, replay, log⟩ := Lane.authFail_replay_effects hc h.seat
    have near := Lane.near_answer hf h path (.auth 3) []
    unfold Lane.answerAuth
    refine ⟨answered_answer hf rfl rfl rfl _ _ _ _, near.flag (by decide +kernel) is_HS_EVT rfl failed,
      near.flag (by decide +kernel) is_HS_EVT rfl replay, _, (near.log (by decide +kernel)).1.trans log, rfl⟩
  · rw [if_neg (by simpa using new), if_neg (by rw [firmware]; decide)]
    exact Lane.queueAsked_effects_late (l := l) hc rfl rfl rfl l.tooDear_counted _ _ _

/-- The session of a seat is closed and the close shown (R476). -/
theorem Lane.endSession_effects {i : LaneId} {l : Lane} (hl : l.Sound i) (s : Seat)
    (open_ : l.flag (R.HS_SSEQ_OPEN s) = true) : (l.endSession s).Sound i ∧ (l.endSession s).seats = l.seats ∧
      (l.endSession s).flag (R.HS_SSEQ_OPEN s) = false ∧ (l.endSession s).flag R.HS_EVT_SESCLOSE = true := by
  have hd := hl.drop (R.HS_SSEQ_OPEN s)
  unfold Lane.endSession
  rw [if_pos open_]
  refine ⟨(hd.raise _).onTrust _, rfl, ?_, ?_⟩
  · rw [Lane.flag_onTrust, Lane.flag_of_get (Lane.get_raise_elsewhere _ ev_HS_EVT (at_HS_SSEQ s.isLt).1)]
    exact Lane.flag_eq_false_of_get (Lane.get_drop hl.wf _ ((by decide : ∀ s : Seat,
      (R.HS_SSEQ_OPEN s).lo + (R.HS_SSEQ_OPEN s).width ≤ 32) s))
  · rw [Lane.flag_onTrust]
    exact Lane.flag_raise hd.wf _ (by decide) rfl

theorem does_sessionClose (e : At) (h : Hdr) (path : Option Path) (s : State) (hs : s.Runs e) :
    Does (.sessionClose e h path) s (replyParts ++ [.reg (R.HS_SSEQ 0), .trust]) fun l m =>
      TurnedAway l m h path .sessionClose ∧
      (l.allows h .sessionClose → l.flag (R.HS_SSEQ_OPEN h.seat) = false → Answered l m h path ⟨0, 2⟩ []) ∧
      (l.allows h .sessionClose → l.flag (R.HS_SSEQ_OPEN h.seat) = true → Answered l m h path .ok [] ∧
        m.flag (R.HS_SSEQ_OPEN h.seat) = false ∧ m.flag R.HS_EVT_SESCLOSE = true) := by
  refine does_logic hs rfl execSessionClose_event rfl (by decide +kernel) fun hl => ?_
  generalize s.before (.sessionClose e h path) = l at hl
  have hc := hl.counted
  have same : l.counted.flag (R.HS_SSEQ_OPEN h.seat) = l.flag (R.HS_SSEQ_OPEN h.seat) :=
    Lane.flag_of_get (l.get_counted ((by decide : ∀ s : Seat, (R.HS_SSEQ_OPEN s).addr ≠ R.HS_CNT3) h.seat))
  have runs : l.counted.runOp h path .sessionClose = l.counted.sessionClose h path := rfl
  refine ⟨turnedAway_perform hl rfl rfl, fun a closed => ?_, fun a open_ => ?_⟩ <;>
    rw [Lane.perform_of_allows rfl a, runs] <;> unfold Lane.sessionClose <;> rw [same]
  · rw [if_neg (by rw [closed]; decide)]
    exact answered_answer hc rfl rfl rfl _ _ _ _
  · obtain ⟨hx, seats, closed, shown⟩ := Lane.endSession_effects hc h.seat (same.trans open_)
    rw [if_pos open_]
    generalize l.counted.endSession h.seat = x at hx seats closed shown
    have id : x.id = l.id := hx.1.trans hl.1.symm
    have near : Lane.Near (allBut [319, 322]) x (x.answer h path .ok []) := Lane.answer_near (by decide +kernel) (.refl _ hx)
    refine ⟨answered_answer hx id (by rw [seats]; rfl) (by rw [seats]; rfl) _ _ _ _, ?_, ?_⟩
    · exact (Lane.flag_of_get (near.keep (at_HS_SSEQ h.seat.isLt).1 (by decide +kernel))).trans closed
    · exact near.flag (by decide +kernel) is_HS_EVT rfl shown

/-! ### The house log (R484) -/

/-- Whole records that fit are a front part of the records (R484). -/
theorem wholeRecords_eq (n : Nat) (rs : List LogRecord) :
    ∃ qs, qs <+: rs ∧ (qs.flatMap recordBytes).length ≤ n ∧ wholeRecords n rs = qs.flatMap recordBytes := by
  induction rs generalizing n with
  | nil => exact ⟨[], List.nil_prefix, n.zero_le, by cases n <;> rfl⟩
  | cons r rs ih =>
    unfold wholeRecords
    dsimp only
    split_ifs with fits
    · obtain ⟨qs, front, length, eq⟩ := ih (n - (recordBytes r).length)
      refine ⟨r :: qs, List.cons_prefix_cons.2 ⟨rfl, front⟩, ?_, ?_⟩
      · rw [List.flatMap_cons, List.length_append]
        omega
      · rw [List.flatMap_cons, eq]
    · exact ⟨[], List.nil_prefix, n.zero_le, rfl⟩

theorem does_logRead (e : At) (h : Hdr) (path : Option Path) (first largest : Nat) (s : State) (hs : s.Runs e) :
    Does (.logRead e h path first largest) s replyParts fun l m =>
      TurnedAway l m h path (.logRead first largest) ∧
      (l.allows h (.logRead first largest) → largest < 16 ∨ 1024 < largest → Answered l m h path (.param 1) []) ∧
      (l.allows h (.logRead first largest) → 16 ≤ largest → largest ≤ 1024 →
        ∃ rs, rs <+: (l.log.filter fun r => decide (first ≤ r.num)).reverse ∧
          (rs.flatMap recordBytes).length ≤ largest ∧
          Answered l m h path .ok (rs.flatMap recordBytes)) := by
  refine does_logic hs rfl execLogRead_event rfl (by decide +kernel) fun hl => ?_
  generalize s.before (.logRead e h path first largest) = l at hl
  refine ⟨turnedAway_perform_local hl rfl rfl, fun a outside => ?_, fun a low high => ?_⟩
  · exact answered_report hl rfl rfl _ _ (fun _ => if_pos outside) a
  · obtain ⟨rs, front, length, eq⟩ := wholeRecords_eq largest (l.log.filter fun r => decide (first ≤ r.num)).reverse
    have report : l.logRead h path first largest = l.answer h path .ok (rs.flatMap recordBytes) := by
      rw [← eq]
      exact if_neg (by omega)
    exact ⟨rs, front, length, answered_report hl rfl rfl _ _ (fun _ => report) a⟩

theorem does_logMark (e : At) (h : Hdr) (path : Option Path) (text : List Byte) (s : State) (hs : s.Runs e) :
    Does (.logMark e h path text) s (replyParts ++ [.log]) fun l m =>
      TurnedAway l m h path (.logMark text) ∧
      (l.allows h (.logMark text) → Answered l m h path .ok (beBytes 8 l.logNext) ∧
        ∃ r, m.log = r :: l.log ∧ r.num = l.logNext ∧ r.entry = .mark text) := by
  refine does_logic hs rfl execLogMark_event rfl (by decide +kernel) fun hl => ?_
  generalize s.before (.logMark e h path text) = l at hl
  have noted := hl.counted.note (.mark text)
  have near := Lane.near_answer noted h path .ok (beBytes 8 l.logNext)
  have log : (l.counted.note (.mark text)).log = ⟨l.logNext, l.ltime, .mark text⟩ :: l.log := rfl
  have runs : l.counted.runOp h path (.logMark text) =
      (l.counted.note (.mark text)).answer h path .ok (beBytes 8 l.logNext) := rfl
  refine ⟨turnedAway_perform hl rfl rfl, fun a => ?_⟩
  rw [Lane.perform_of_allows rfl a, runs]
  exact ⟨answered_answer noted rfl rfl rfl _ _ _ _, _, (near.log (by decide +kernel)).1.trans log, rfl, rfl⟩

/-! ### ATTEST (R534) -/

theorem does_attest (e : At) (h : Hdr) (path : Option Path) (nonce : BitVec 256) (s : State) (hs : s.Runs e) :
    Does (.attest e h path nonce) s (replyParts ++ [.reg R.BX_STAT, .reg R.BX_EVT, .reg R.BX_DIECOM, .box]) fun l m =>
      TurnedAway l m h path (.attest nonce) ∧
      (l.allows h (.attest nonce) → l.trust.romResponder = false → ∃ t : Ticket, t.work = .attest h path nonce ∧
        t.cost = firmwareCost 3 ∧
        (l.tooDear t = true → Answered l m h path (.param 5) [] ∧ m.flag R.BX_EVT_TREFUSE = true ∧
          m.box.queued = l.box.queued) ∧
        (l.tooDear t = false → m.box.queued = l.box.queued ++ [t] ∧ m.seats.replies = l.seats.replies)) := by
  refine does_logic hs rfl execAttest_event rfl (by decide +kernel) fun hl => ?_
  generalize s.before (.attest e h path nonce) = l at hl
  refine ⟨turnedAway_perform_local hl rfl rfl, fun a firmware => ?_⟩
  have runs : l.runOp h path (.attest nonce) =
      l.queueAsked h path (.attest h path nonce) (firmwareCost 3) (some (firmwareEngineOf 3)) none :=
    if_neg (by rw [firmware]; decide)
  rw [Lane.perform_local_of_allows rfl rfl a, runs]
  exact Lane.queueAsked_effects_late hl rfl rfl rfl (fun _ => rfl) _ _ _

/-- Settles O49, command by command. -/
theorem sessionsAndLog : Obligations.SessionsAndLog := by
  unfold Obligations.SessionsAndLog
  exact ⟨does_sessionOpen, does_sessionClose, does_logRead, does_logMark, does_attest⟩

end Sys2Proof.Machine

/-!
PROOFS. READ_REG and WRITE_REG (R10, R11, R485, R486).
-/

namespace Sys2Proof.Machine

-- one declaration at a time: each waits for the kernel, and a waiting one holds a thread and its stack
set_option Elab.async false

/-! ### Ranges (R485, R486) -/

theorem rangeFits_iff (a count most : Nat) :
    rangeFits a count most = true ↔ a % 4 = 0 ∧ 1 ≤ count ∧ count ≤ most ∧ a + 4 * count ≤ 2 ^ 24 := decide_eq_true_iff

/-! ### READ_REG (R485) -/

theorem does_readReg (e : At) (h : Hdr) (path : Option Path) (addr count : Nat) (s : State) (hs : s.Runs e) :
    Does (.readReg e h path addr count) s (replyParts ++
    [.reg R.TV_RECENT, .reg R.WG_LEAD, .reg R.WG_RESYNC, .reg R.GD_CHON, .reg (R.FB_SPEED 0), .reg R.VR_SHDAT0,
    .reg R.VR_SHDAT1, .reg R.TM_NS, .reg R.TM_SECLO, .reg R.TM_SECHI, .reg R.TM_FRAC, .block 14, .fresh, .link,
    .call, .trio]) fun l m =>
      TurnedAway l m h path (.readReg addr count) ∧
      (l.allows h (.readReg addr count) → ¬(addr % 4 = 0 ∧ 1 ≤ count ∧ count ≤ 64 ∧ addr + 4 * count ≤ 2 ^ 24) →
        Answered l m h path (.param 2) []) ∧
      (l.allows h (.readReg addr count) → addr % 4 = 0 ∧ 1 ≤ count ∧ count ≤ 64 ∧ addr + 4 * count ≤ 2 ^ 24 →
        claims addr count = true ∧ l.callGuarded = true → Answered l m h path (.retry 1) []) ∧
      (l.allows h (.readReg addr count) → addr % 4 = 0 ∧ 1 ≤ count ∧ count ≤ 64 ∧ addr + 4 * count ≤ 2 ^ 24 →
        ¬(claims addr count = true ∧ l.callGuarded = true) →
        Answered l m h path .ok ((readWords count addr l).2.flatMap fun w => beBytes 4 w.toNat)) := by
  refine does_logic hs rfl execReadReg_event rfl (by decide +kernel) fun hl => ?_
  generalize s.before (.readReg e h path addr count) = l at hl
  have runs : l.runOp h path (.readReg addr count) =
      if !rangeFits addr count 64 then l.answer h path (.param 2) []
      else if claims addr count ∧ l.callGuarded then l.answer h path (.retry 1) []
      else (readWords count addr l).1.answer h path .ok ((readWords count addr l).2.flatMap fun w => beBytes 4 w.toNat) := rfl
  rw [← rangeFits_iff]
  refine ⟨turnedAway_perform_local hl rfl rfl, fun a wrong => ?_, fun a fits guarded => ?_, fun a fits open_ => ?_⟩ <;>
    rw [Lane.perform_local_of_allows rfl rfl a, runs]
  · rw [if_pos (by simpa using wrong)]
    exact answered_answer hl rfl rfl rfl _ _ _ _
  · rw [if_neg (by rw [fits]; decide), if_pos guarded]
    exact answered_answer hl rfl rfl rfl _ _ _ _
  · rw [if_neg (by rw [fits]; decide), if_neg open_]
    have near : Lane.Near (allBut [441, 442]) l (readWords count addr l).1 := readWords_near (by decide +kernel) (.refl _ hl)
    exact answered_answer (near.place hl) near.id (near.seats.replies (by decide +kernel))
      (near.seats.ringReplies (by decide +kernel)) _ _ _ _

/-! ### What refuses a word does not hang on the count of executions (R11, R486) -/

section
variable (l : Lane) (a : Nat) (w : Word)

theorem Lane.changesLocked_counted : l.counted.changesLocked a w = l.changesLocked a w := by
  by_cases own : a = R.HS_CNT3
  · have readOnly (k : Lane) : k.changesLocked R.HS_CNT3 w = false := by
      have free : ((regAt R.HS_CNT3).all fun d => d.fields.all fun f => f.acc != .rwl) = true := by decide +kernel
      unfold Lane.changesLocked
      cases row : regAt R.HS_CNT3 with
      | none => rfl
      | some d =>
        rw [row] at free
        have none : ∀ f ∈ d.fields, f.acc ≠ .rwl := by simpa using free
        refine Bool.and_eq_false_iff.2 (.inr (List.any_eq_false.2 fun f mem both => none f mem ?_))
        exact beq_iff_eq.1 (Bool.and_eq_true_iff.1 both).1
    rw [own, readOnly, readOnly]
  · have same : l.counted.word a = l.word a := Lane.word_setWord_of_ne _ _ own
    unfold Lane.changesLocked
    rw [same]

theorem Lane.ownedBuffer_counted : l.counted.ownedBuffer a w = l.ownedBuffer a w := by
  have owner (k : Can) (b : Fin 64) : l.counted.get (R.CN_BCTL_OWN k b) = l.get (R.CN_BCTL_OWN k b) :=
    Lane.get_bump_elsewhere l at_HS_CNT3.1 (at_CN_BCTL k.isLt b.isLt).1
  unfold Lane.ownedBuffer
  simp only [owner]

theorem Lane.rangeOk_counted : l.counted.rangeOk a w = l.rangeOk a w := by
  have cpr (n : Axis) : l.counted.get (R.FB_CPR_CPR n) = l.get (R.FB_CPR_CPR n) := l.get_counted (by revert n; decide)
  unfold Lane.rangeOk Lane.ordered
  simp only [cpr, l.loopRole_counted]

theorem Lane.mayAnnounce_counted : l.counted.mayAnnounce = l.mayAnnounce := by
  have node : l.counted.node = l.node := l.get_counted (by decide)
  unfold Lane.mayAnnounce Lane.healDue Lane.portLink Lane.neighbour
  rw [node]
  rfl

theorem Lane.enableRefused_counted (n : Axis) : l.counted.enableRefused n = l.enableRefused n := by
  unfold Lane.enableRefused
  rw [l.mode_counted, l.axisTrusted_counted, l.inhibited_counted, l.internal_counted, l.fbValid_counted,
    l.thresholdsHold_counted, l.stateStatus_counted]
  rfl

theorem Lane.wordRefused_counted : l.counted.wordRefused a w = l.wordRefused a w := by
  have acts : l.counted.actsElsewhere a w = l.actsElsewhere a w := by
    unfold Lane.actsElsewhere
    rw [l.mode_counted]
  have enabled (n : Axis) : l.counted.flag (R.DC_CTRL_EN n) = l.flag (R.DC_CTRL_EN n) :=
    Lane.flag_of_get (l.get_counted (by revert n; decide))
  unfold Lane.wordRefused
  rw [l.changesLocked_counted, l.mode_counted, acts, l.ownedBuffer_counted, l.rangeOk_counted, l.mayAnnounce_counted]
  simp only [enabled, l.enableRefused_counted]

theorem Lane.firstRefused_counted (ws : List (Nat × Word)) : l.counted.firstRefused ws = l.firstRefused ws := by
  unfold Lane.firstRefused
  simp only [l.wordRefused_counted]

end

/-! ### WRITE_REG (R486) -/

section
variable {i : LaneId} {l : Lane} {a count : Nat} {words : List Word} {w : Word}

theorem Lane.writeRegs_of_unfit (wrong : rangeFits a count 254 = false) : l.writeRegs a count words = (l, .param 2) :=
  if_pos (by rw [wrong]; rfl)

theorem Lane.writeRegs_of_refused {st : Status} (fits : rangeFits a count 254 = true)
    (refused : l.firstRefused (numbered a (words.take count)) = some st) : l.writeRegs a count words = (l, st) := by
  unfold Lane.writeRegs
  rw [if_neg (by rw [fits]; decide)]
  dsimp only
  rw [refused]

/-- One accepted word. -/
theorem Lane.writeRegs_one (fits : rangeFits a 1 254 = true) (fine : l.firstRefused [(a, w)] = none) :
    l.writeRegs a 1 [w] = (l.applyWrite a w, ⟨0, l.writeDetail [(a, w)]⟩) := by
  have one : numbered a ([w].take 1) = [(a, w)] := rfl
  unfold Lane.writeRegs
  rw [if_neg (by rw [fits]; decide), one]
  dsimp only
  rw [fine]
  rfl

/-- The word of PW_TLIM is two fields that a write in HOLD or WORKSHOP sets (R69). -/
theorem regAt_PW_TLIM :
    regAt R.PW_TLIM = some ⟨R.PW_TLIM, [], [⟨16, 16, .rwl, 1480, 1000, 1480⟩, ⟨0, 16, .rwl, 1350, 1000, 1480⟩]⟩ := by
  decide +kernel

/-- A write of PW_TLIM stores the word (R10, R69). -/
theorem Lane.word_writeWord_PW_TLIM (hl : l.Sound i) : (l.writeWord R.PW_TLIM w).word R.PW_TLIM = w := by
  have clears : clearedByOne R.PW_TLIM = 0 := by decide +kernel
  unfold Lane.writeWord
  rw [regAt_PW_TLIM]
  dsimp only
  rw [Lane.word_setWord hl.wf, clears, show (0 : Word) = 0#32 from rfl, BitVec.and_zero, BitVec.not_zero,
    BitVec.and_allOnes]
  refine BitVec.eq_of_getLsbD_eq fun j hj => ?_
  have apart := fields_apart_of_regAt regAt_PW_TLIM
  rcases Nat.lt_or_ge j 16 with low | high
  · rw [RegDesc.getLsbD_write_of_covers apart (f := ⟨0, 16, .rwl, 1350, 1000, 1480⟩) (by simp) hj ⟨j.zero_le, by simpa using low⟩]
    rfl
  · rw [RegDesc.getLsbD_write_of_covers apart (f := ⟨16, 16, .rwl, 1480, 1000, 1480⟩) (by simp) hj ⟨high, by simpa using hj⟩]
    rfl

/-- A write of PW_TLIM does nothing beside. -/
theorem Lane.applyWrite_PW_TLIM : l.applyWrite R.PW_TLIM w = l.latchFaults.writeWord R.PW_TLIM w := by
  have buffer : canBufferAt R.PW_TLIM = none := by decide +kernel
  have can : canAt R.CN_CMD R.PW_TLIM = none := by decide +kernel
  have seat (r : Nat → Nat) (other : ∀ s : Seat, r s ≠ R.PW_TLIM) : seatAt r R.PW_TLIM = none :=
    List.find?_eq_none.2 fun s _ same => other s (beq_iff_eq.1 same)
  have axis (r : Nat → Nat) (other : ∀ n : Axis, r n ≠ R.PW_TLIM) : axisAt r R.PW_TLIM = none :=
    List.find?_eq_none.2 fun n _ same => other n (beq_iff_eq.1 same)
  unfold Lane.applyWrite
  rw [buffer, can, seat R.SG_HSEL (by decide), seat R.SG_WCMD (by decide)]
  dsimp only
  rw [if_neg (by decide)]
  unfold Lane.writeAxis
  rw [axis R.DC_CTRL (by decide), axis R.GD_FCLR (by decide), axis R.FB_CTRL (by decide), axis R.GD_CFG (by decide)]
  rfl

/-! ### Addresses beyond the registers (R37, R486) -/

section
variable (beyond : 0x130000 ≤ a)
include beyond

theorem regAt_of_beyond : regAt a = none := by
  have block : blockRegs a = [] := by
    have high : 19 ≤ a / 0x10000 := (Nat.le_div_iff_mul_le (by decide)).2 beyond
    obtain ⟨k, block⟩ := Nat.exists_eq_add_of_le' high
    unfold blockRegs
    rw [block]
    rfl
  unfold regAt
  rw [block]
  rfl

theorem axisAt_of_beyond {r : Nat → Nat} (within : ∀ n : Axis, r n < 0x130000) : axisAt r a = none :=
  List.find?_eq_none.2 fun n _ same => absurd (within n) (by have := beq_iff_eq.1 same; omega)

theorem seatAt_of_beyond {r : Nat → Nat} (within : ∀ s : Seat, r s < 0x130000) : seatAt r a = none :=
  List.find?_eq_none.2 fun s _ same => absurd (within s) (by have := beq_iff_eq.1 same; omega)

theorem canAt_of_beyond {r : Nat → Nat} (within : ∀ k : Can, r k < 0x130000) : canAt r a = none :=
  List.find?_eq_none.2 fun k _ same => absurd (within k) (by have := beq_iff_eq.1 same; omega)

theorem canBufferAt_of_beyond : canBufferAt a = none := by
  have none : ((List.finRange 2).find? fun (k : Can) => decide (R.CN_BID k 0 ≤ a ∧ a < R.CN_BID k 64)) = none :=
    List.find?_eq_none.2 fun k _ same => by
      have := (of_decide_eq_true same).2
      have := ((by decide : ∀ k : Can, R.CN_BID k 64 < 0x130000) k)
      omega
  unfold canBufferAt
  rw [none]

/-- Such a word is accepted. -/
theorem Lane.wordRefused_of_beyond (l : Lane) (w : Word) : l.wordRefused a w = none := by
  have row := regAt_of_beyond beyond
  have locked : l.changesLocked a w = false := by unfold Lane.changesLocked; rw [row]
  have inRange : l.rangeOk a w = true := by unfold Lane.rangeOk; rw [row]
  have owned : l.ownedBuffer a w = false := by unfold Lane.ownedBuffer; rw [canBufferAt_of_beyond beyond]
  have other {b : Nat} (within : b < 0x130000) : a ≠ b := by omega
  have others {b : Nat} (within : b < 0x130000) : (a == b) = false := beq_eq_false_iff_ne.2 (other within)
  have acts : l.actsElsewhere a w = false := by
    unfold Lane.actsElsewhere
    rw [axisAt_of_beyond beyond (r := R.GD_FCLR) (by decide), axisAt_of_beyond beyond (r := R.FB_CTRL) (by decide),
      others (b := R.TV_CMD) (by decide), others (b := R.WG_CTRL) (by decide), others (b := R.BI_CMD) (by decide),
      others (b := R.VR_CMD) (by decide)]
    simp
  unfold Lane.wordRefused
  rw [locked, acts, owned, inRange, if_neg (by simp), if_neg (by simp), if_neg (by simp), if_neg (by simp),
    if_neg (fun h => other (by decide) h.1), if_neg (fun h => other (by decide) h.1),
    axisAt_of_beyond beyond (r := R.DC_CTRL) (by decide)]

/-- Such a word is discarded (R13). -/
theorem Lane.applyWrite_of_beyond (l : Lane) (w : Word) : l.applyWrite a w = l.latchFaults := by
  have other {b : Nat} (within : b < 0x130000) : a ≠ b := by omega
  unfold Lane.applyWrite
  rw [canBufferAt_of_beyond beyond, canAt_of_beyond beyond (r := R.CN_CMD) (by decide),
    seatAt_of_beyond beyond (r := R.SG_HSEL) (by decide), seatAt_of_beyond beyond (r := R.SG_WCMD) (by decide)]
  dsimp only
  rw [if_neg (by simp only [R.SF_STAT]; omega)]
  unfold Lane.writeAxis
  rw [axisAt_of_beyond beyond (r := R.DC_CTRL) (by decide), axisAt_of_beyond beyond (r := R.GD_FCLR) (by decide),
    axisAt_of_beyond beyond (r := R.FB_CTRL) (by decide), axisAt_of_beyond beyond (r := R.GD_CFG) (by decide)]
  dsimp only
  unfold Lane.writeSingle
  rw [if_neg (other (by decide)), if_neg (other (by decide)), if_neg (other (by decide)), if_neg (other (by decide)),
    if_neg (other (by decide)), if_neg (other (by decide)), if_neg (other (by decide)), if_neg (other (by decide)),
    if_neg (by simp only [R.KP_STAT]; omega)]
  exact Lane.writeWord_of_regAt_none (regAt_of_beyond beyond) _ _

end

theorem Lane.near_latchFaults (hl : l.Sound i) : Lane.Near (maskOf [.modeState]) l l.latchFaults :=
  Lane.latchFaults_near (by decide +kernel) (.refl _ hl)

end

theorem does_writeReg (e : At) (h : Hdr) (path : Option Path) (addr count : Nat) (words : List Word) (s : State)
    (hs : s.Runs e) : Does (.writeReg e h path addr count words) s beatParts fun l m =>
      TurnedAway l m h path (.writeReg addr count words) ∧
      (l.allows h (.writeReg addr count words) → ¬(addr % 4 = 0 ∧ 1 ≤ count ∧ count ≤ 254 ∧ addr + 4 * count ≤ 2 ^ 24) →
        Answered l m h path (.param 2) [] ∧ m.stage = l.stage) ∧
      (l.allows h (.writeReg addr count words) → addr % 4 = 0 ∧ 1 ≤ count ∧ count ≤ 254 ∧ addr + 4 * count ≤ 2 ^ 24 →
        ∀ st, l.firstRefused (numbered addr (words.take count)) = some st → Answered l m h path st [] ∧
          m.stage = l.stage) ∧
      (∀ w, l.allows h (.writeReg addr count words) → addr = R.PW_TLIM → count = 1 → words = [w] →
        l.firstRefused [(addr, w)] = none → Answered l m h path .ok [] ∧
        m.get R.PW_TLIM_WARN = R.PW_TLIM_WARN.extract w ∧ m.get R.PW_TLIM_TRIP = R.PW_TLIM_TRIP.extract w) ∧
      (∀ w, l.allows h (.writeReg addr count words) → addr % 4 = 0 → 0x130000 ≤ addr → addr + 4 ≤ 2 ^ 24 → count = 1 →
        words = [w] → Answered l m h path ⟨0, 1⟩ []) := by
  refine does_logic hs rfl execWriteReg_event rfl (by decide +kernel) fun hl => ?_
  generalize s.before (.writeReg e h path addr count words) = l at hl
  have hc := hl.counted
  have runs : l.counted.runOp h path (.writeReg addr count words) =
      (l.counted.writeRegs addr count words).1.answer h path (l.counted.writeRegs addr count words).2 [] := rfl
  have stays (st : Status) : (l.counted.answer h path st []).stage = l.stage :=
    (Lane.near_answer hc h path st []).stage (by decide +kernel)
  rw [← rangeFits_iff]
  refine ⟨turnedAway_perform hl rfl rfl, fun a wrong => ?_, fun a fits st refused => ?_, fun w a at_ one word fine => ?_,
    fun w a whole beyond inside one word => ?_⟩ <;> rw [Lane.perform_of_allows rfl a, runs]
  · rw [Lane.writeRegs_of_unfit (by simpa using wrong)]
    exact ⟨answered_answer hc rfl rfl rfl _ _ _ _, stays _⟩
  · rw [Lane.writeRegs_of_refused fits ((l.firstRefused_counted _).trans refused)]
    exact ⟨answered_answer hc rfl rfl rfl _ _ _ _, stays _⟩
  · subst at_ one word
    have detail : l.counted.writeDetail [(R.PW_TLIM, w)] = 0 := by
      have row : ([(R.PW_TLIM, w)].any fun x => (regAt x.1).isNone) = false := by
        simp [regAt_PW_TLIM]
      have plain : seatAt R.CB_COMPL R.PW_TLIM = none := by decide +kernel
      unfold Lane.writeDetail
      rw [row, if_neg (by decide), if_neg (by simp [plain])]
    rw [Lane.writeRegs_one rfl ((l.firstRefused_counted _).trans fine), detail, Lane.applyWrite_PW_TLIM]
    have latched := Lane.near_latchFaults hc
    have hk := latched.place hc
    have kept := congrArg SeatState.replies (latched.seats.eq (by decide +kernel))
    have ring := congrArg SeatState.ringReplies (latched.seats.eq (by decide +kernel))
    have id := latched.id
    generalize l.counted.latchFaults = k at hk kept ring id
    have written : Lane.Near (2 ^ 14) k (k.writeWord R.PW_TLIM w) := by
      unfold Lane.writeWord
      rw [regAt_PW_TLIM]
      exact Lane.setWord_near (inReg at_PW_TLIM (by decide +kernel)) (.refl _ hk)
    have stored : (k.writeWord R.PW_TLIM w).word R.PW_TLIM = w := Lane.word_writeWord_PW_TLIM hk
    have hx := written.place hk
    have near := Lane.near_answer hx h path .ok []
    have word : ((k.writeWord R.PW_TLIM w).answer h path .ok []).word R.PW_TLIM = w :=
      (near.word _ (by rw [at_PW_TLIM.1]; decide +kernel)).trans stored
    have replies := (written.seats.replies (by decide +kernel)).trans kept
    have rings := (written.seats.ringReplies (by decide +kernel)).trans ring
    exact ⟨answered_answer hx (written.id.trans id) replies rings _ _ _ _, congrArg R.PW_TLIM_WARN.extract word,
      congrArg R.PW_TLIM_TRIP.extract word⟩
  · subst one word
    have fits : rangeFits addr 1 254 = true := (rangeFits_iff _ _ _).2 ⟨whole, le_refl 1, by decide, by omega⟩
    have fine : l.counted.firstRefused [(addr, w)] = none := by
      unfold Lane.firstRefused
      simp [Lane.wordRefused_of_beyond beyond]
    have detail : l.counted.writeDetail [(addr, w)] = 1 := by
      unfold Lane.writeDetail
      rw [if_pos (by simp [regAt_of_beyond beyond])]
    rw [Lane.writeRegs_one fits fine, detail, Lane.applyWrite_of_beyond beyond]
    have latched := Lane.near_latchFaults hc
    exact answered_answer (latched.place hc) latched.id (congrArg SeatState.replies (latched.seats.eq (by decide +kernel)))
      (congrArg SeatState.ringReplies (latched.seats.eq (by decide +kernel))) _ _ _ _

/-- Settles O45: READ_REG, then WRITE_REG. -/
theorem registerOpcodes : Obligations.RegisterOpcodes := by
  unfold Obligations.RegisterOpcodes
  exact ⟨does_readReg, does_writeReg⟩

end Sys2Proof.Machine

/-!
PROOFS. Safety inputs, gate inputs and the reset button (R517, R518, R522, R523).
-/

namespace Sys2Proof.Machine

-- one declaration at a time: each waits for the kernel, and a waiting one holds a thread and its stack
set_option Elab.async false

/-! ### Single bits of a register -/

section
variable {i : LaneId} {l : Lane}

/-- A field of another register after one bit was put. -/
theorem Lane.get_putBit_elsewhere (l : Lane) {f g : Fld} (j : Nat) (v : Bool) {a b : Nat} (hf : regNo f.addr = a)
    (hg : regNo g.addr = b) (other : a.beq b = false := by rfl) : (l.putBit f j v).get g = l.get g :=
  Lane.get_put_elsewhere l _ hf hg other

/-- A field apart in the same register after one bit was put. -/
theorem Lane.Sound.get_putBit_apart (hl : l.Sound i) {f g : Fld} (j : Nat) (v : Bool) (same : g.addr = f.addr := by rfl)
    (fits : (g.lo + g.width).ble 32 = true := by rfl)
    (apart : ((f.lo + f.width).ble g.lo || (g.lo + g.width).ble f.lo) = true := by rfl) : (l.putBit f j v).get g = l.get g :=
  hl.get_put_apart _ same fits apart

theorem Lane.Sound.putBit (hl : l.Sound i) (f : Fld) (j : Nat) (v : Bool) : (l.putBit f j v).Sound i := hl.put _ _

end

/-! ### Safety inputs (R517) -/

section
variable {i : LaneId} {l : Lane} (hl : l.Sound i) (k : Fin 8)
include hl

/-- The own demand of a pair follows its levels and its fault. -/
theorem Lane.ownPair_effects : (l.ownPair k).bit R.SF_OWN_DEM k =
      (!(l.bit R.SF_RAW_P k && !l.bit R.SF_RAW_N k) || l.bit R.SF_OWN_DISCF k) ∧
    (l.ownPair k).bit R.SF_OWN_DISCF k = l.bit R.SF_OWN_DISCF k := by
  refine ⟨Lane.bit_putBit hl.wf R.SF_OWN_DEM (by decide) (k.isLt.trans (by decide)) _, ?_⟩
  exact Lane.bit_of_get (hl.get_putBit_apart _ _) _

/-- A pair whose levels the filter passes. -/
def Lane.pairShown (l : Lane) (k : Fin 8) (pos neg : Bool) : Lane :=
  (l.putBit R.SF_RAW_P k pos).putBit R.SF_RAW_N k neg

theorem Lane.pairShown_effects (pos neg : Bool) : (l.pairShown k pos neg).Sound i ∧
    (l.pairShown k pos neg).bit R.SF_RAW_P k = pos ∧ (l.pairShown k pos neg).bit R.SF_RAW_N k = neg ∧
    (l.pairShown k pos neg).bit R.SF_OWN_DISCF k = l.bit R.SF_OWN_DISCF k := by
  have hp := hl.putBit R.SF_RAW_P k pos
  refine ⟨hp.putBit _ _ _, ?_, ?_, ?_⟩
  · exact (Lane.bit_of_get (hp.get_putBit_apart (f := R.SF_RAW_N) (g := R.SF_RAW_P) _ _) _).trans
      (Lane.bit_putBit hl.wf R.SF_RAW_P (by decide) k.isLt _)
  · exact Lane.bit_putBit hp.wf R.SF_RAW_N (by decide) k.isLt _
  · exact Lane.bit_of_get ((Lane.get_putBit_elsewhere _ _ _ at_SF_RAW.1 at_SF_OWN.1).trans
      (Lane.get_putBit_elsewhere l _ _ at_SF_RAW.1 at_SF_OWN.1)) _

end

theorem does_safetyInputChange (e : At) (k : Fin 8) (pos neg : Bool) (held : Nat) (s : State) (hs : s.Runs e) :
    Does (.safetyInputChange ⟨e, held⟩ k pos neg) s [.reg R.SF_RAW, .reg R.SF_OWN, .safety] fun l m =>
      (us held < tenths (l.get (R.SF_SICFG_FILT k)) → m = l) ∧
      (tenths (l.get (R.SF_SICFG_FILT k)) ≤ us held →
        m.bit R.SF_RAW_P k = pos ∧ m.bit R.SF_RAW_N k = neg ∧
        m.bit R.SF_OWN_DEM k = (!(pos && !neg) || l.bit R.SF_OWN_DISCF k) ∧
          m.bit R.SF_OWN_DISCF k = l.bit R.SF_OWN_DISCF k ∧
        (pos = neg → m.safety.discSince[k] = some (l.safety.discSince[k].getD l.now)) ∧
        (pos ≠ neg → m.safety.discSince[k] = none) ∧
        (pos = false → neg = true → l.bit R.SF_OWN_DISCF k = true → m.safety.shown.getLsbD k = true)) := by
  refine does_logic hs rfl execSafetyInputChange_event rfl (by decide +kernel) fun hl => ?_
  generalize s.before (.safetyInputChange ⟨e, held⟩ k pos neg) = l at hl
  refine ⟨fun short => Lane.when_of_false l (decide_eq_false (Nat.not_le.2 short)), fun long => ?_⟩
  rw [Lane.when_of_true l (decide_eq_true long)]
  obtain ⟨hp, p, n, faults⟩ := Lane.pairShown_effects hl k pos neg
  have since : (l.pairShown k pos neg).safety = l.safety ∧ (l.pairShown k pos neg).now = l.now := ⟨rfl, rfl⟩
  unfold Lane.pairChange
  rw [show (l.putBit R.SF_RAW_P k pos).putBit R.SF_RAW_N k neg = l.pairShown k pos neg from rfl]
  generalize l.pairShown k pos neg = x at hp p n faults since
  obtain ⟨safety, now⟩ := since
  extract_lets y z
  have hz : z.Sound _ := hp.onSafety _
  obtain ⟨demand, stays⟩ := Lane.ownPair_effects hz k
  have raw {f : Fld} (at_ : regNo f.addr = 281) : (z.ownPair k).bit f k = x.bit f k :=
    Lane.bit_of_get (Lane.get_putBit_elsewhere z _ _ at_SF_OWN.1 at_) _
  have p' : z.bit R.SF_RAW_P k = pos := p
  have n' : z.bit R.SF_RAW_N k = neg := n
  have faults' : z.bit R.SF_OWN_DISCF k = l.bit R.SF_OWN_DISCF k := faults
  have discs : (z.ownPair k).safety.discSince[k] = if pos = neg then some (x.safety.discSince[k].getD x.now) else none :=
    Vector.getElem_set_self k.isLt
  rw [p', n', faults'] at demand
  refine ⟨(raw at_SF_RAW.1).trans p, (raw at_SF_RAW.1).trans n, demand, stays.trans faults', fun same => ?_, fun other => ?_,
    fun low high fault => ?_⟩
  · rw [discs, if_pos same, safety, now]
  · rw [discs, if_neg other]
  · have shown : (z.ownPair k).safety.shown =
        if !pos && neg && x.bit R.SF_OWN_DISCF k then x.safety.shown ||| BitVec.twoPow 8 k.val else x.safety.shown := rfl
    rw [shown, low, high, faults, fault]
    simp [k.isLt]

theorem does_discrepancyFault (e : At) (k : Fin 8) (s : State) (hs : s.Runs e) :
    Does (.discrepancyFault e k) s [.reg R.SF_OWN, .reg R.SF_EVT, .safety] fun l m =>
      (l.safety.discSince[k] = none → m = l) ∧
      (∀ t, l.safety.discSince[k] = some t → l.now < t + ms (l.get (R.SF_SICFG_DISC k)) → m = l) ∧
      (∀ t, l.safety.discSince[k] = some t → t + ms (l.get (R.SF_SICFG_DISC k)) ≤ l.now →
        l.bit R.SF_OWN_DISCF k = false →
        m.bit R.SF_OWN_DISCF k = true ∧ m.flag R.SF_EVT_DISC = true ∧ m.bit R.SF_OWN_DEM k = true ∧
          m.safety.shown.getLsbD k = false) := by
  refine does_logic hs rfl execDiscrepancyFault_event rfl (by decide +kernel) fun hl => ?_
  generalize s.before (.discrepancyFault e k) = l at hl
  have faulted := hl.putBit R.SF_OWN_DISCF k true
  refine ⟨fun agrees => by rw [agrees], fun t since early => ?_, fun t since long new => ?_⟩ <;> rw [since] <;> dsimp only
  · exact if_neg fun due => Nat.not_le.2 early (of_decide_eq_true due.1)
  · rw [if_pos ⟨decide_eq_true long, by rw [new]; rfl⟩]
    have shown := faulted.raise R.SF_EVT_DISC
    have event : ((l.putBit R.SF_OWN_DISCF k true).raise R.SF_EVT_DISC).flag R.SF_EVT_DISC = true :=
      Lane.flag_raise faulted.wf _ (by decide) rfl
    have fault : ((l.putBit R.SF_OWN_DISCF k true).raise R.SF_EVT_DISC).bit R.SF_OWN_DISCF k = true :=
      (Lane.bit_of_get (Lane.get_raise_elsewhere _ ev_SF_EVT at_SF_OWN.1) _).trans
        (Lane.bit_putBit hl.wf R.SF_OWN_DISCF (by decide) k.isLt _)
    generalize (l.putBit R.SF_OWN_DISCF k true).raise R.SF_EVT_DISC = x at shown event fault
    have hz : (x.onSafety fun s => { s with shown := s.shown &&& ~~~(BitVec.twoPow 8 k.val) }).Sound _ := shown.onSafety _
    have zFault : (x.onSafety fun s => { s with shown := s.shown &&& ~~~(BitVec.twoPow 8 k.val) }).bit R.SF_OWN_DISCF k = true :=
      fault
    have zShown : (x.onSafety fun s => { s with shown := s.shown &&& ~~~(BitVec.twoPow 8 k.val) }).safety.shown.getLsbD k = false := by
      show (x.safety.shown &&& ~~~(BitVec.twoPow 8 k.val)).getLsbD k = false
      simp [k.isLt]
    have zEvent : (x.onSafety fun s => { s with shown := s.shown &&& ~~~(BitVec.twoPow 8 k.val) }).flag R.SF_EVT_DISC = true :=
      event
    generalize (x.onSafety fun s => { s with shown := s.shown &&& ~~~(BitVec.twoPow 8 k.val) }) = z at hz zFault zShown zEvent
    obtain ⟨demand, stays⟩ := Lane.ownPair_effects hz k
    refine ⟨stays.trans zFault, ?_, ?_, zShown⟩
    · exact (Lane.flag_of_get (Lane.get_putBit_elsewhere z _ _ at_SF_OWN.1 ev_SF_EVT)).trans zEvent
    · rw [demand, zFault, Bool.or_true]

/-! ### Gate inputs (R518) -/

theorem does_gtSeenOpen (e : At) (g : Fin 2) (low : Nat) (s : State) (hs : s.Runs e) :
    Does (.gtSeenOpen ⟨e, low⟩ g) s [.reg R.SF_STAT, .reg R.SF_RAW, .reg R.SF_EVT] fun l m =>
      (l.mode = .boot ∨ l.bit R.SF_STAT_GTOK g = true ∨ us low < tenths (l.get (R.SF_GTCFG_FILT g)) ∨
        l.now < l.mode_.leftBoot + tenths (l.get (R.SF_GTCFG_FILT g)) → m = l) ∧
      (l.mode ≠ .boot → l.bit R.SF_STAT_GTOK g = false → tenths (l.get (R.SF_GTCFG_FILT g)) ≤ us low →
        l.mode_.leftBoot + tenths (l.get (R.SF_GTCFG_FILT g)) ≤ l.now →
        m.bit R.SF_STAT_GTOK g = true ∧ m.flag R.SF_EVT_GTSEEN = true ∧ m.bit R.SF_RAW_GT g = false) := by
  refine does_logic hs rfl execGtSeenOpen_event rfl (by decide +kernel) fun hl => ?_
  generalize s.before (.gtSeenOpen ⟨e, low⟩ g) = l at hl
  refine ⟨fun fails => if_neg ?_, fun left unseen long past => ?_⟩
  · rintro ⟨left, unseen, long, past⟩
    have long := of_decide_eq_true long
    have past := of_decide_eq_true past
    rcases fails with boot | seen | short | early
    · exact left boot
    · rw [seen] at unseen
      exact nomatch unseen
    · exact Nat.not_le.2 short long
    · exact Nat.not_le.2 early past
  · rw [if_pos ⟨left, by rw [unseen]; rfl, decide_eq_true long, decide_eq_true past⟩]
    have seen := hl.putBit R.SF_STAT_GTOK g true
    have shown := seen.raise R.SF_EVT_GTSEEN
    refine ⟨?_, ?_, Lane.bit_putBit shown.wf R.SF_RAW_GT (by decide) g.isLt _⟩
    · rw [Lane.bit_of_get (Lane.get_putBit_elsewhere _ _ _ at_SF_RAW.1 at_SF_STAT.1),
        Lane.bit_of_get (Lane.get_raise_elsewhere _ ev_SF_EVT at_SF_STAT.1)]
      exact Lane.bit_putBit hl.wf R.SF_STAT_GTOK (by decide) g.isLt _
    · rw [Lane.flag_of_get (Lane.get_putBit_elsewhere _ _ _ at_SF_RAW.1 ev_SF_EVT)]
      exact Lane.flag_raise seen.wf _ (by decide) rfl

theorem does_gtInputChange (e : At) (g : Fin 2) (high : Bool) (held : Nat) (s : State) (hs : s.Runs e) :
    Does (.gtInputChange ⟨e, held⟩ g high) s [.reg R.SF_RAW, .reg R.SF_OWN] fun l m =>
      (us held < tenths (l.get (R.SF_GTCFG_FILT g)) → m = l) ∧
      (tenths (l.get (R.SF_GTCFG_FILT g)) ≤ us held → m.bit R.SF_RAW_GT g = high ∧
        m.bit R.SF_OWN_DEM (8 + g.val) = (if l.bit R.SF_STAT_GTOK g then !high else l.bit R.SF_OWN_DEM (8 + g.val))) := by
  refine does_logic hs rfl execGtInputChange_event rfl (by decide +kernel) fun hl => ?_
  generalize s.before (.gtInputChange ⟨e, held⟩ g high) = l at hl
  refine ⟨fun short => if_pos ?_, fun long => ?_⟩
  · rw [show l.gtFilter g held = false from decide_eq_false (Nat.not_le.2 short)]
    rfl
  · rw [if_neg (by rw [show l.gtFilter g held = true from decide_eq_true long]; decide)]
    have shown := hl.putBit R.SF_RAW_GT g high
    have level : (l.putBit R.SF_RAW_GT g high).bit R.SF_RAW_GT g = high := Lane.bit_putBit hl.wf _ (by decide) g.isLt _
    have seen : (l.putBit R.SF_RAW_GT g high).bit R.SF_STAT_GTOK g = l.bit R.SF_STAT_GTOK g :=
      Lane.bit_of_get (Lane.get_putBit_elsewhere l _ _ at_SF_RAW.1 at_SF_STAT.1) _
    have own : (l.putBit R.SF_RAW_GT g high).bit R.SF_OWN_DEM (8 + g.val) = l.bit R.SF_OWN_DEM (8 + g.val) :=
      Lane.bit_of_get (Lane.get_putBit_elsewhere l _ _ at_SF_RAW.1 at_SF_OWN.1) _
    dsimp only
    rw [seen]
    split_ifs
    · refine ⟨(Lane.bit_of_get (Lane.get_putBit_elsewhere _ _ _ at_SF_OWN.1 at_SF_RAW.1) _).trans level, ?_⟩
      exact Lane.bit_putBit shown.wf R.SF_OWN_DEM (by decide) (by show 8 + g.val < 10; omega) _
    · exact ⟨level, own⟩

/-! ### The reset button (R522) -/

/-- A press that the filter of 1 ms has passed, with its length in ms. -/
def Lane.pressShown (l : Lane) (high : Nat) : Lane := (l.drop R.SF_RAW_SRS).put R.SF_RSTHI_HIGH (min 65535 (high / 1000))

theorem Lane.pressShown_effects {i : LaneId} {l : Lane} (hl : l.Sound i) (high : Nat) :
    (l.pressShown high).Sound i ∧ (l.pressShown high).flag R.SF_RAW_SRS = false ∧
      (l.pressShown high).get R.SF_RSTHI_HIGH = min 65535 (high / 1000) ∧
      (l.pressShown high).flag R.SF_STAT_RSTUCK = l.flag R.SF_STAT_RSTUCK ∧
      (l.pressShown high).get R.SF_RST_SHORT = l.get R.SF_RST_SHORT ∧
      (l.pressShown high).highFromBoot high = l.highFromBoot high ∧ (l.pressShown high).safety = l.safety := by
  have hd := hl.drop R.SF_RAW_SRS
  have kept {f : Fld} {b : Nat} (at_ : regNo f.addr = b) (raw : (281 : Nat).beq b = false) (hi : (291 : Nat).beq b = false) :
      (l.pressShown high).get f = l.get f :=
    (Lane.get_put_elsewhere _ _ at_SF_RSTHI.1 at_ hi).trans (Lane.get_drop_elsewhere l at_SF_RAW.1 at_ raw)
  refine ⟨hd.put _ _, ?_, ?_, Lane.flag_of_get (kept at_SF_STAT.1 rfl rfl), kept at_SF_RST.1 rfl rfl, ?_, rfl⟩
  · exact Lane.flag_eq_false_of_get ((Lane.get_put_elsewhere _ _ at_SF_RSTHI.1 at_SF_RAW.1).trans
      (Lane.get_drop hl.wf _ (by decide)))
  · exact (hd.get_put R.SF_RSTHI_HIGH _).trans (Nat.mod_eq_of_lt (lt_of_le_of_lt (Nat.min_le_left _ _) (by decide)))
  · have mode : (l.pressShown high).mode = l.mode := congrArg Mode.ofCode (kept at_LC_STATE.1 rfl rfl)
    unfold Lane.highFromBoot
    rw [mode]
    rfl

/-- What a press does, once shown. -/
theorem Lane.resetFall_of_long {l : Lane} {high low : Nat} (passes : 1000 ≤ high) (stays : 1000 ≤ low) :
    l.resetFall high low =
      if (l.pressShown high).flag R.SF_STAT_RSTUCK ∨ 2000000 < high then (l.pressShown high).drop R.SF_STAT_RSTUCK
      else if (l.pressShown high).highFromBoot high then l.pressShown high
      else if high < 50000 then ((l.pressShown high).raise R.SF_EVT_RSTSHORT).bump R.SF_RST_SHORT
      else (l.pressShown high).onSafety fun s => { s with resetNow := true } := if_neg (by omega)

theorem does_resetButton (e : At) (high low : Nat) (s : State) (hs : s.Runs e) :
    Does (.resetButton e high low) s [.reg R.SF_STAT, .reg R.SF_RAW, .reg R.SF_EVT, .reg R.SF_RST, .reg R.SF_RSTHI,
    .safety] fun l m =>
      (high < 1000 ∨ low < 1000 → m = l) ∧
      (1000 ≤ high → 1000 ≤ low → m.flag R.SF_RAW_SRS = false ∧ m.get R.SF_RSTHI_HIGH = min 65535 (high / 1000) ∧
        m.flag R.SF_STAT_RSTUCK = false) ∧
      (1000 ≤ high → 1000 ≤ low → l.flag R.SF_STAT_RSTUCK = true ∨ 2000000 < high ∨ l.highFromBoot high = true →
        m.safety.resetNow = l.safety.resetNow ∧ m.get R.SF_RST_SHORT = l.get R.SF_RST_SHORT) ∧
      (l.flag R.SF_STAT_RSTUCK = false → l.highFromBoot high = false → 1000 ≤ low → 1000 ≤ high → high < 50000 →
        m.safety.resetNow = l.safety.resetNow ∧ m.flag R.SF_EVT_RSTSHORT = true ∧
        m.get R.SF_RST_SHORT = min 255 (l.get R.SF_RST_SHORT + 1)) ∧
      (l.flag R.SF_STAT_RSTUCK = false → l.highFromBoot high = false → 1000 ≤ low → 50000 ≤ high → high ≤ 2000000 →
        m.safety.resetNow = true) := by
  refine does_logic hs rfl execResetButton_event rfl (by decide +kernel) fun hl => ?_
  generalize s.before (.resetButton e high low) = l at hl
  obtain ⟨hx, srs, length, stuck, short, boot, safety⟩ := Lane.pressShown_effects hl high
  refine ⟨fun brief => if_pos brief, fun passes stays => ?_, fun passes stays idle => ?_, fun free young stays passes brief => ?_,
    fun free young stays long fits => ?_⟩
  · rw [Lane.resetFall_of_long passes stays]
    generalize l.pressShown high = x at hx srs length stuck
    split_ifs with ends fromBoot brief
    · refine ⟨(Lane.flag_of_get (Lane.get_drop_elsewhere _ at_SF_STAT.1 at_SF_RAW.1)).trans srs,
        (Lane.get_drop_elsewhere _ at_SF_STAT.1 at_SF_RSTHI.1).trans length, ?_⟩
      exact Lane.flag_eq_false_of_get (Lane.get_drop hx.wf _ (by decide))
    all_goals have free : x.flag R.SF_STAT_RSTUCK = false := Bool.eq_false_iff.2 fun set => ends (.inl set)
    · exact ⟨srs, length, free⟩
    · have kept {f : Fld} {b : Nat} (at_ : regNo f.addr = b) (evt : (283 : Nat).beq b = false) (rst : (290 : Nat).beq b = false) :
          ((x.raise R.SF_EVT_RSTSHORT).bump R.SF_RST_SHORT).get f = x.get f :=
        (Lane.get_bump_elsewhere _ at_SF_RST.1 at_ rst).trans (Lane.get_raise_elsewhere x ev_SF_EVT at_ evt)
      exact ⟨(Lane.flag_of_get (kept at_SF_RAW.1 rfl rfl)).trans srs, (kept at_SF_RSTHI.1 rfl rfl).trans length,
        (Lane.flag_of_get (kept at_SF_STAT.1 rfl rfl)).trans free⟩
    · exact ⟨srs, length, free⟩
  · rw [Lane.resetFall_of_long passes stays]
    generalize l.pressShown high = x at hx stuck short boot safety
    split_ifs with ends fromBoot brief
    · exact ⟨congrArg SafetyState.resetNow safety, (Lane.get_drop_elsewhere _ at_SF_STAT.1 at_SF_RST.1).trans short⟩
    · exact ⟨congrArg SafetyState.resetNow safety, short⟩
    all_goals
      rw [stuck, not_or] at ends
      rw [boot] at fromBoot
      exact absurd idle (by simp [ends.1, ends.2, fromBoot])
  · rw [Lane.resetFall_of_long passes stays, if_neg (fun ends => Nat.not_le.2 (ends.resolve_left (by rw [stuck, free]; decide))
        (by omega)), if_neg (by rw [boot, young]; decide), if_pos brief]
    generalize l.pressShown high = x at hx short safety
    have shown := hx.raise R.SF_EVT_RSTSHORT
    refine ⟨congrArg SafetyState.resetNow safety, ?_, ?_⟩
    · exact (Lane.flag_of_get (Lane.get_bump_elsewhere _ at_SF_RST.1 ev_SF_EVT)).trans (Lane.flag_raise hx.wf _ (by decide) rfl)
    · rw [Lane.get_bump shown.wf R.SF_RST_SHORT (by decide), Lane.get_raise_elsewhere x ev_SF_EVT at_SF_RST.1, short, Nat.min_comm]
      rfl
  · rw [Lane.resetFall_of_long (by omega) stays, if_neg (fun ends => Nat.not_le.2 (ends.resolve_left (by rw [stuck, free]; decide))
        fits), if_neg (by rw [boot, young]; decide), if_neg (by omega)]
    rfl

theorem does_resetStuck (e : At) (high : Nat) (s : State) (hs : s.Runs e) :
    Does (.resetStuck ⟨e, high⟩) s [.reg R.SF_STAT, .reg R.SF_RAW, .reg R.SF_EVT, .reg R.SF_RST] fun l m =>
      (l.flag R.SF_STAT_RSTUCK = true ∨ high ≤ 2000000 → m = l) ∧
      (l.flag R.SF_STAT_RSTUCK = false → 2000000 < high →
        m.flag R.SF_STAT_RSTUCK = true ∧ m.flag R.SF_EVT_RSTUCK = true ∧ m.flag R.SF_RAW_SRS = true ∧
        m.get R.SF_RST_STUCK = min 255 (l.get R.SF_RST_STUCK + 1)) := by
  refine does_logic hs rfl execResetStuck_event rfl (by decide +kernel) fun hl => ?_
  generalize s.before (.resetStuck ⟨e, high⟩) = l at hl
  refine ⟨fun done => if_pos done.symm, fun free long => ?_⟩
  rw [if_neg (by rw [free]; rintro (short | stuck); exacts [Nat.not_le.2 long short, nomatch stuck])]
  have h1 := hl.raise R.SF_STAT_RSTUCK
  have h2 := h1.raise R.SF_EVT_RSTUCK
  have h3 := h2.raise R.SF_RAW_SRS
  refine ⟨?_, ?_, ?_, ?_⟩
  · rw [Lane.flag_of_get (Lane.get_bump_elsewhere _ at_SF_RST.1 at_SF_STAT.1),
      Lane.flag_of_get (Lane.get_raise_elsewhere _ at_SF_RAW.1 at_SF_STAT.1),
      Lane.flag_of_get (Lane.get_raise_elsewhere _ ev_SF_EVT at_SF_STAT.1)]
    exact Lane.flag_raise hl.wf _ (by decide) rfl
  · rw [Lane.flag_of_get (Lane.get_bump_elsewhere _ at_SF_RST.1 ev_SF_EVT),
      Lane.flag_of_get (Lane.get_raise_elsewhere _ at_SF_RAW.1 ev_SF_EVT)]
    exact Lane.flag_raise h1.wf _ (by decide) rfl
  · rw [Lane.flag_of_get (Lane.get_bump_elsewhere _ at_SF_RST.1 at_SF_RAW.1)]
    exact Lane.flag_raise h2.wf _ (by decide) rfl
  · rw [Lane.get_bump h3.wf R.SF_RST_STUCK (by decide), Lane.get_raise_elsewhere _ at_SF_RAW.1 at_SF_RST.1,
      Lane.get_raise_elsewhere _ ev_SF_EVT at_SF_RST.1, Lane.get_raise_elsewhere l at_SF_STAT.1 at_SF_RST.1, Nat.min_comm]
    rfl

/-! ### A valid reset alone (R523) -/

/-- A valid reset of a lane whose window has passed. -/
def Lane.windowOver (l : Lane) (x : Option Nat) : Bool :=
  match x with
  | some t => decide (t + l.resetWindow < l.ltimeNs)
  | none => false

theorem Lane.singleResets_eq (l : Lane) : l.singleResets =
    if l.safety.resets.any l.windowOver then
      (l.raise R.SF_EVT_RSTSINGLE).onSafety fun s => { s with resets := s.resets.map fun x => if l.windowOver x then none else x }
    else l := rfl

theorem does_resetSingle (e : At) (s : State) (hs : s.Runs e) : Does (.resetSingle e) s [.reg R.SF_EVT, .safety] fun l m =>
      ((∀ x ∈ l.safety.resets.toList, ∀ t, x = some t → l.ltimeNs ≤ t + l.get R.SF_CFG_RWIN * 1000000) → m = l) ∧
      ((∃ t, some t ∈ l.safety.resets.toList ∧ t + l.get R.SF_CFG_RWIN * 1000000 < l.ltimeNs) →
        m.flag R.SF_EVT_RSTSINGLE = true ∧
        ∀ t, some t ∈ m.safety.resets.toList → l.ltimeNs ≤ t + l.get R.SF_CFG_RWIN * 1000000) := by
  refine does_logic hs rfl execResetSingle_event rfl (by decide +kernel) fun hl => ?_
  generalize s.before (.resetSingle e) = l at hl
  have past (t : Nat) : l.windowOver (some t) = true ↔ t + l.get R.SF_CFG_RWIN * 1000000 < l.ltimeNs := decide_eq_true_iff
  have some_past : l.safety.resets.any l.windowOver = true ↔
      ∃ t, some t ∈ l.safety.resets.toList ∧ t + l.get R.SF_CFG_RWIN * 1000000 < l.ltimeNs := by
    rw [← Vector.any_toList, List.any_eq_true]
    constructor
    · rintro ⟨x, mem, late⟩
      cases x with
      | none => exact nomatch late
      | some t => exact ⟨t, mem, (past t).1 late⟩
    · rintro ⟨t, mem, late⟩
      exact ⟨some t, mem, (past t).2 late⟩
  rw [Lane.singleResets_eq]
  refine ⟨fun young => if_neg fun late => ?_, fun late => ?_⟩
  · obtain ⟨t, mem, late⟩ := some_past.1 late
    exact Nat.not_le.2 late (young _ mem t rfl)
  · rw [if_pos (some_past.2 late)]
    refine ⟨Lane.flag_raise hl.wf _ (by decide) rfl, fun t mem => ?_⟩
    have mem : some t ∈ (l.safety.resets.map fun x => if l.windowOver x then none else x).toList := mem
    rw [Vector.toList_map, List.mem_map] at mem
    obtain ⟨x, -, kept⟩ := mem
    split_ifs at kept with gone
    rw [kept] at gone
    exact Nat.not_lt.1 fun late => gone ((past t).2 late)

/-- Settles O53, command by command. -/
theorem safetyInputs : Obligations.SafetyInputs := by
  unfold Obligations.SafetyInputs
  exact ⟨does_safetyInputChange, does_discrepancyFault, does_gtSeenOpen, does_gtInputChange, does_resetButton,
    does_resetStuck, does_resetSingle⟩

end Sys2Proof.Machine

/-!
PROOFS. Contactor outputs and their faults (R524, R525).
-/

namespace Sys2Proof.Machine

-- one declaration at a time: each waits for the kernel, and a waiting one holds a thread and its stack
set_option Elab.async false

/-! ### Outputs that follow their functions (R524) -/

/-- A fault of output `m` is latched. -/
def Lane.koFault (l : Lane) (m : Fin 4) : Bool :=
  l.bit R.SF_KOSTAT_OC m.val || l.bit R.SF_KOSTAT_SHORT m.val || l.bit R.SF_KOSTAT_WELD m.val || l.bit R.SF_KOSTAT_NOCLOSE m.val

theorem Lane.koWanted_eq (l : Lane) (m : Fin 4) : l.koWanted m =
    (l.koPermitted m && l.lstate != .out && l.trust.state == 5 && !l.wing.serialBad && l.logicUp && !l.koFault m) := rfl

theorem Lane.koWanted_of_fault {l : Lane} {m : Fin 4} (fault : l.koFault m = true) : l.koWanted m = false := by
  rw [Lane.koWanted_eq, fault]
  simp

section
variable {i : LaneId} {l : Lane} (hl : l.Sound i)
include hl

/-- What an output that follows may change. -/
theorem Lane.near_koOne (m : Fin 4) : Lane.Near (maskOf [.reg R.SF_KOSTAT, .emit, .safety]) l (l.koOne m) :=
  Lane.koOne_near (by decide +kernel) (.refl _ hl)

theorem Lane.near_koSettle : Lane.Near (maskOf [.reg R.SF_KOSTAT, .emit, .safety]) l l.koSettle :=
  Lane.koSettle_near (by decide +kernel) (.refl _ hl)

/-- An output that follows leaves the faults latched. -/
theorem Lane.get_koOne_of_fault (m : Fin 4) {f : Fld} (row : f.addr = R.SF_KOSTAT) (fits : (f.lo + f.width).ble 32 = true)
    (high : (12 : Nat).ble f.lo = true) : (l.koOne m).get f = l.get f := by
  have above : 12 ≤ f.lo := Nat.le_of_ble_eq_true high
  by_cases same : l.bit R.SF_KOSTAT_ON m.val = l.koWanted m
  · exact congrArg (Lane.get · f) (if_pos same)
  · rw [Lane.koOne_of_change same]
    have switched := hl.koSwitched m (l.koWanted m)
    have on : (l.koSwitched m (l.koWanted m)).get f = l.get f :=
      hl.get_putBit_apart m.val (l.koWanted m) row fits (by simp; omega)
    generalize l.koSwitched m (l.koWanted m) = x at switched on
    have back := switched.putBit R.SF_KOSTAT_RDBK m.val (l.koWanted m)
    exact ((back.get_putBit_apart (f := R.SF_KOSTAT_KFOK) m.val _ row fits (by simp; omega)).trans
      (switched.get_putBit_apart (f := R.SF_KOSTAT_RDBK) m.val _ row fits (by simp; omega))).trans on

theorem Lane.get_koSettle_of_fault {f : Fld} (row : f.addr = R.SF_KOSTAT) (fits : (f.lo + f.width).ble 32 = true)
    (high : (12 : Nat).ble f.lo = true) : l.koSettle.get f = l.get f := by
  have h0 := hl.koOne 0
  have h1 := h0.koOne 1
  have h2 := h1.koOne 2
  unfold Lane.koSettle
  rw [Lane.get_koOne_of_fault h2 3 row fits high, Lane.get_koOne_of_fault h1 2 row fits high,
    Lane.get_koOne_of_fault h0 1 row fits high, Lane.get_koOne_of_fault hl 0 row fits high]

/-- Which outputs are wanted does not hang on which are on. -/
theorem Lane.koWanted_koOne (m k : Fin 4) : (l.koOne m).koWanted k = l.koWanted k := by
  have near := Lane.near_koOne hl m
  have get {f : Fld} {b : Nat} (at_ : regNo f.addr = b)
      (out : (maskOf [.reg R.SF_KOSTAT, .emit, .safety]).testBit b = false) : (l.koOne m).get f = l.get f := near.keep at_ out
  have state {f : Fld} (at_ : regNo f.addr = 280) : (l.koOne m).get f = l.get f := get at_ (by decide +kernel)
  have lane {f : Fld} (at_ : regNo f.addr = 2) : (l.koOne m).get f = l.get f := get at_ (by decide +kernel)
  have row : ∀ k : Fin 4, (maskOf [.reg R.SF_KOSTAT, .emit, .safety]).testBit (regNo (R.SF_KOCFG k)) = false := by
    decide +kernel
  have cfg {f : Fld} (at_ : f.addr = R.SF_KOCFG k) : (l.koOne m).get f = l.get f := near.get (by rw [at_]; exact row k)
  have demands (n : Nat) : (l.koOne m).demands n = l.demands n := by
    unfold Lane.demands
    rw [state (f := R.SF_STAT_DEM) at_SF_STAT.1, state (f := R.SF_STAT_LATCH) at_SF_STAT.1]
  have permitted : (l.koOne m).koPermitted k = l.koPermitted k := by
    unfold Lane.koPermitted Lane.flag Lane.bit
    rw [lane (f := R.LC_STATE_MSTATE) at_LC_STATE.1, cfg (f := R.SF_KOCFG_FUNC k) rfl, cfg (f := R.SF_KOCFG_MASK k) rfl,
      demands, near.get (f := R.GD_VMSTAT_STUCK) (by decide +kernel), near.get (f := R.GD_OVCFG_KOSEL) (by decide +kernel),
      get (f := R.SF_KOCMD_CMD) at_SF_KOCMD.1 (by decide +kernel)]
  have lstate : (l.koOne m).lstate = l.lstate := by
    unfold Lane.lstate
    rw [lane (f := R.LC_STATE_LSTATE) at_LC_STATE.1]
  have up : (l.koOne m).logicUp = l.logicUp := by
    unfold Lane.logicUp
    rw [near.power.phase (by decide +kernel)]
  have fault : (l.koOne m).koFault k = l.koFault k := by
    unfold Lane.koFault Lane.bit
    rw [Lane.get_koOne_of_fault hl m (f := R.SF_KOSTAT_OC) rfl rfl rfl,
      Lane.get_koOne_of_fault hl m (f := R.SF_KOSTAT_SHORT) rfl rfl rfl,
      Lane.get_koOne_of_fault hl m (f := R.SF_KOSTAT_WELD) rfl rfl rfl,
      Lane.get_koOne_of_fault hl m (f := R.SF_KOSTAT_NOCLOSE) rfl rfl rfl]
  rw [Lane.koWanted_eq, Lane.koWanted_eq, permitted, lstate, up, fault, near.trust.state (by decide +kernel),
    near.wing.serialBad (by decide +kernel)]

/-- Every output that follows is on exactly where it is wanted (R524). -/
theorem Lane.bit_ON_koSettle (k : Fin 4) : l.koSettle.bit R.SF_KOSTAT_ON k.val = l.koWanted k := by
  have h0 := hl.koOne 0
  have h1 := h0.koOne 1
  have h2 := h1.koOne 2
  unfold Lane.koSettle
  rw [Lane.bit_ON_koOne h2, Lane.koWanted_koOne h1, Lane.bit_ON_koOne h1, Lane.koWanted_koOne h0, Lane.bit_ON_koOne h0,
    Lane.koWanted_koOne hl, Lane.bit_ON_koOne hl, Lane.koWanted_koOne h0, Lane.koWanted_koOne hl, Lane.koWanted_koOne hl]
  fin_cases k <;> rfl

end

/-! ### A latched fault keeps its output off (R524, R525) -/

/-- Output `m` is off by the fault of field `bits`. -/
structure Lane.KoTripped (i : LaneId) (m : Fin 4) (bits : Fld) (l : Lane) : Prop where
  sound : l.Sound i
  off : l.bit R.SF_KOSTAT_ON m.val = false
  held : l.bit bits m.val = true

/-- The faults that turn an output off. -/
def koFaults : List Fld := [R.SF_KOSTAT_OC, R.SF_KOSTAT_SHORT, R.SF_KOSTAT_WELD, R.SF_KOSTAT_NOCLOSE]

theorem koFaults_row : ∀ f ∈ koFaults, f.addr = R.SF_KOSTAT ∧ (f.lo + f.width).ble 32 = true ∧ (12 : Nat).ble f.lo = true ∧
    f.width = 4 := by
  unfold koFaults
  simp [R.SF_KOSTAT]

theorem Lane.koFault_of_mem {l : Lane} {m : Fin 4} {bits : Fld} (mem : bits ∈ koFaults) (held : l.bit bits m.val = true) :
    l.koFault m = true := by
  unfold koFaults at mem
  unfold Lane.koFault
  simp only [List.mem_cons, List.not_mem_nil, or_false] at mem
  rcases mem with rfl | rfl | rfl | rfl <;> rw [held] <;> simp

namespace Lane.KoTripped

variable {i : LaneId} {m : Fin 4} {bits : Fld} {l : Lane}

/-- What leaves SF_KOSTAT leaves an output off by its fault. -/
theorem near (t : l.KoTripped i m bits) (mem : bits ∈ koFaults) {M : Nat} {k : Lane} (near : Lane.Near M l k)
    (out : M.testBit 289 = false) : k.KoTripped i m bits := by
  obtain ⟨row, -⟩ := koFaults_row bits mem
  exact ⟨near.place t.sound, (Lane.bit_of_get (near.keep at_SF_KOSTAT.1 out) _).trans t.off,
    (Lane.bit_of_get (near.get (by rw [row, at_SF_KOSTAT.1]; exact out)) _).trans t.held⟩

/-- An output with a latched fault stays off as the outputs follow. -/
theorem koSettle_of_held (sound : l.Sound i) (mem : bits ∈ koFaults) (held : l.bit bits m.val = true) :
    l.koSettle.KoTripped i m bits := by
  obtain ⟨row, fits, high, -⟩ := koFaults_row bits mem
  refine ⟨(Lane.near_koSettle sound).place sound, ?_, ?_⟩
  · rw [Lane.bit_ON_koSettle sound, Lane.koWanted_of_fault (Lane.koFault_of_mem mem held)]
  · exact (Lane.bit_of_get (Lane.get_koSettle_of_fault sound row fits high) _).trans held

/-- GHOST LIGHT leaves it off. -/
theorem enterGhost (t : l.KoTripped i m bits) (mem : bits ∈ koFaults) : l.enterGhost.KoTripped i m bits := by
  unfold Lane.enterGhost
  split_ifs
  · exact t
  · extract_lets parked l1 l2 l3 l4
    have n1 : Lane.Near (allBut [289]) l l1 := Lane.voidSteps_near (by decide +kernel) (Lane.dropSpotlight_near (by decide +kernel)
      (Lane.takeMode_near (by decide +kernel) (.refl _ t.sound)))
    have n2 : Lane.Near (allBut [289]) l l2 := Lane.onMode_near (f := _) (.mk kp (not_bit (by decide +kernel))
      (not_bit (by decide +kernel)) kp kp (not_bit (by decide +kernel)) kp kp kp kp) n1
    have n3 : Lane.Near (allBut [289]) l l3 := Lane.when_near n2 fun _ g =>
      Lane.holdToken_near (by decide +kernel) (Lane.completeAll_near (by decide +kernel) g)
    have n4 : Lane.Near (allBut [289]) l l4 := Lane.allAxes_near n3 fun _ _ g => by
      split
      · exact Lane.disableAxis_near (by decide +kernel) g
      · exact Lane.ensureEnabled_near (by decide +kernel) (Lane.when_near g fun _ q => Lane.holdMeasured_near (by decide +kernel) q)
      · exact Lane.ensureEnabled_near (by decide +kernel) (Lane.setPref_near (by decide +kernel) g)
      · exact Lane.ensureEnabled_near (by decide +kernel) (Lane.when_near g fun _ q => Lane.setHoldForce_near (by decide +kernel) q)
    have shown : Lane.Near (allBut [289]) l (l4.put R.BI_STAT_PHASE 2) := Lane.put_near (inReg at_BI_STAT (by decide +kernel)) n4
    have still := t.near mem shown (by decide +kernel)
    exact koSettle_of_held still.sound mem still.held

/-- A set that goes out leaves it off. -/
theorem setOut (t : l.KoTripped i m bits) (mem : bits ∈ koFaults) (n : Axis) : (l.setOut n).KoTripped i m bits := by
  have gone : Lane.Near (allBut [289]) l (l.setOff n) := Lane.setOff_near (by decide +kernel) (.refl _ t.sound)
  unfold Lane.setOut Lane.judgeSets
  split_ifs
  · exact (t.near mem gone (by decide +kernel)).enterGhost mem
  · exact t.near mem gone (by decide +kernel)
  · exact t

theorem allAxes_setOut (t : l.KoTripped i m bits) (mem : bits ∈ koFaults) :
    (l.allAxes fun l n => l.setOut n).KoTripped i m bits :=
  (((t.setOut mem 0).setOut mem 1).setOut mem 2).setOut mem 3

end Lane.KoTripped

/-- A fault that turns an output off for the day (R525, R560). -/
theorem Lane.outputFault_effects {i : LaneId} {l : Lane} (hl : l.Sound i) (m : Fin 4) {bits ev : Fld} (mem : bits ∈ koFaults)
    (event : ev.addr = R.SF_EVT) (bit : ev.lo < 32) (single : ev.width = 1) :
    (l.outputFault m bits ev).KoTripped i m bits ∧ (l.outputFault m bits ev).flag ev = true ∧
      (l.outputFault m bits ev).get R.SF_RAW_KF = l.get R.SF_RAW_KF ∧
      (l.get (R.SF_KOCFG_FUNC m) = 1 → ∀ n, (l.outputFault m bits ev).inService n = false) := by
  obtain ⟨row, fits, high, width⟩ := koFaults_row bits mem
  have place : regNo ev.addr = 283 := event ▸ ev_SF_EVT
  have stat : regNo bits.addr = 289 := row ▸ at_SF_KOSTAT.1
  have faulted := hl.putBit bits m true
  have shown := faulted.raise ev
  have told : ((l.putBit bits m true).raise ev).flag ev = true := Lane.flag_raise faulted.wf ev bit single
  have held : ((l.putBit bits m true).raise ev).bit bits m = true := by
    refine (Lane.bit_of_get (Lane.get_raise_elsewhere _ place stat) _).trans ?_
    exact Lane.bit_putBit hl.wf bits (Nat.le_of_ble_eq_true fits) (by rw [width]; exact m.isLt) _
  have other {f : Fld} {b : Nat} (at_ : regNo f.addr = b) (away : (289 : Nat).beq b = false) (evt : (283 : Nat).beq b = false) :
      ((l.putBit bits m true).raise ev).get f = l.get f :=
    (Lane.get_raise_elsewhere _ place at_ evt).trans (Lane.get_putBit_elsewhere l _ _ stat at_ away)
  have raw := other (f := R.SF_RAW_KF) at_SF_RAW.1 rfl rfl
  have func : ((l.putBit bits m true).raise ev).get (R.SF_KOCFG_FUNC m) = l.get (R.SF_KOCFG_FUNC m) :=
    other (at_SF_KOCFG m.isLt).1 rfl rfl
  unfold Lane.outputFault
  generalize (l.putBit bits m true).raise ev = x at shown told held raw func
  have settled := Lane.near_koSettle shown
  have tripped := Lane.KoTripped.koSettle_of_held shown mem held
  have func' := (settled.keep (f := R.SF_KOCFG_FUNC m) (at_SF_KOCFG m.isLt).1 (by decide +kernel)).trans func
  have told' := settled.flag (by decide +kernel) (event ▸ is_SF_EVT) single told
  have raw' := (settled.keep (f := R.SF_RAW_KF) at_SF_RAW.1 (by decide +kernel)).trans raw
  dsimp only
  rw [func']
  generalize x.koSettle = y at tripped told' raw'
  have near : Lane.Near (allBut [281, 322]) y (y.allAxes fun l n => l.setOut n) :=
    Lane.allAxes_near (.refl _ tripped.sound) fun _ _ g => Lane.setOut_near (by decide +kernel) g
  split_ifs with supply
  · exact ⟨tripped.allAxes_setOut mem, near.flag (by decide +kernel) (event ▸ is_SF_EVT) single told',
      (near.keep at_SF_RAW.1 (by decide +kernel)).trans raw', fun _ n => (Lane.inService_allAxes_setOut tripped.sound n).2⟩
  · exact ⟨tripped, told', raw', fun one => absurd one supply⟩

/-! ### The feedback of a contactor (R525) -/

/-- The feedback level as the lane shows it. -/
def Lane.feedbackShown (l : Lane) (m : Fin 4) (high : Bool) : Lane := (l.putBit R.SF_RAW_KF m.val high).showKf m

theorem Lane.feedbackShown_effects {i : LaneId} {l : Lane} (hl : l.Sound i) (m : Fin 4) (high : Bool) :
    (l.feedbackShown m high).Sound i ∧ (l.feedbackShown m high).bit R.SF_RAW_KF m = high ∧
      (∀ f : Fld, f.addr = R.SF_KOSTAT → (f.lo + f.width).ble 32 = true →
        ((f.lo + f.width).ble 4 || (8 : Nat).ble f.lo) = true → (l.feedbackShown m high).get f = l.get f) ∧
      (∀ f : Fld, f.addr = R.SF_KOCFG m → (l.feedbackShown m high).get f = l.get f) := by
  have raw := hl.putBit R.SF_RAW_KF m high
  refine ⟨raw.putBit _ _ _, ?_, fun f row fits apart => ?_, fun f row => ?_⟩
  · exact (Lane.bit_of_get (Lane.get_putBit_elsewhere (f := R.SF_KOSTAT_KFOK) _ _ _ at_SF_KOSTAT.1 at_SF_RAW.1) _).trans
      (Lane.bit_putBit hl.wf R.SF_RAW_KF (by decide) m.isLt _)
  · have away : f.lo + f.width ≤ 4 ∨ 8 ≤ f.lo := by simpa using apart
    have stat : regNo f.addr = 289 := row ▸ at_SF_KOSTAT.1
    exact (raw.get_putBit_apart (f := R.SF_KOSTAT_KFOK) _ _ row fits (by simp; omega)).trans
      (Lane.get_putBit_elsewhere l _ _ at_SF_RAW.1 stat)
  · have place : regNo f.addr = 287 := by rw [row]; exact (at_SF_KOCFG m.isLt).1
    exact (Lane.get_putBit_elsewhere (f := R.SF_KOSTAT_KFOK) _ _ _ at_SF_KOSTAT.1 place).trans
      (Lane.get_putBit_elsewhere l _ _ at_SF_RAW.1 place)

/-- What a judgement of the feedback makes of the output (R525). -/
theorem Lane.judgeContactor_effects {i : LaneId} {l : Lane} (hl : l.Sound i) (k : Fin 4) (high : Bool) (d : Nat) :
    (l.judgeContactor k high d).bit R.SF_RAW_KF k = high ∧
      (l.flag (R.SF_KOCFG_FBEN k) = false ∨ l.now < l.safety.koAt[k] + d ∨ l.contactorClosed k high = l.bit
        R.SF_KOSTAT_ON k →
        (l.judgeContactor k high d).bit R.SF_KOSTAT_ON k = l.bit R.SF_KOSTAT_ON k ∧
        (l.judgeContactor k high d).bit R.SF_KOSTAT_NOCLOSE k = l.bit R.SF_KOSTAT_NOCLOSE k ∧
        (l.judgeContactor k high d).bit R.SF_KOSTAT_WELD k = l.bit R.SF_KOSTAT_WELD k) ∧
      (l.flag (R.SF_KOCFG_FBEN k) = true → l.safety.koAt[k] + d ≤ l.now → l.contactorClosed k high = false →
        l.bit R.SF_KOSTAT_ON k = true →
        (l.judgeContactor k high d).bit R.SF_KOSTAT_NOCLOSE k = true ∧
        (l.judgeContactor k high d).flag R.SF_EVT_NOCLOSE = true ∧
        (l.judgeContactor k high d).bit R.SF_KOSTAT_ON k = false ∧
        (l.get (R.SF_KOCFG_FUNC k) = 1 → ∀ n, (l.judgeContactor k high d).inService n = false)) ∧
      (l.flag (R.SF_KOCFG_FBEN k) = true → l.safety.koAt[k] + d ≤ l.now → l.contactorClosed k high = true →
        l.bit R.SF_KOSTAT_ON k = false →
        (l.judgeContactor k high d).bit R.SF_KOSTAT_WELD k = true ∧
        (l.judgeContactor k high d).flag R.SF_EVT_WELD = true ∧
        (l.judgeContactor k high d).bit R.SF_KOSTAT_ON k = false) := by
  obtain ⟨hx, level, stat, cfg⟩ := Lane.feedbackShown_effects hl k high
  have still : (l.feedbackShown k high).safety = l.safety ∧ (l.feedbackShown k high).now = l.now := ⟨rfl, rfl⟩
  have judged : l.judgeContactor k high d =
      if !(l.feedbackShown k high).flag (R.SF_KOCFG_FBEN k) ∨
          !(l.feedbackShown k high).since (l.feedbackShown k high).safety.koAt[k] d ∨
          (l.feedbackShown k high).contactorClosed k high = (l.feedbackShown k high).bit R.SF_KOSTAT_ON k then
        l.feedbackShown k high
      else if (l.feedbackShown k high).bit R.SF_KOSTAT_ON k then
        (l.feedbackShown k high).outputFault k R.SF_KOSTAT_NOCLOSE R.SF_EVT_NOCLOSE
      else ((l.feedbackShown k high).putBit R.SF_KOSTAT_WELD k true).raise R.SF_EVT_WELD := rfl
  have on : (l.feedbackShown k high).bit R.SF_KOSTAT_ON k = l.bit R.SF_KOSTAT_ON k := Lane.bit_of_get (stat _ rfl rfl rfl) _
  have noclose : (l.feedbackShown k high).bit R.SF_KOSTAT_NOCLOSE k = l.bit R.SF_KOSTAT_NOCLOSE k :=
    Lane.bit_of_get (stat _ rfl rfl rfl) _
  have weld : (l.feedbackShown k high).bit R.SF_KOSTAT_WELD k = l.bit R.SF_KOSTAT_WELD k := Lane.bit_of_get (stat _ rfl rfl rfl) _
  have enabled : (l.feedbackShown k high).flag (R.SF_KOCFG_FBEN k) = l.flag (R.SF_KOCFG_FBEN k) := Lane.flag_of_get (cfg _ rfl)
  have func := cfg (R.SF_KOCFG_FUNC k) rfl
  have closed : (l.feedbackShown k high).contactorClosed k high = l.contactorClosed k high := by
    unfold Lane.contactorClosed
    rw [Lane.flag_of_get (cfg (R.SF_KOCFG_FBPOL k) rfl)]
  have since : (l.feedbackShown k high).since (l.feedbackShown k high).safety.koAt[k] d = decide (l.safety.koAt[k] + d ≤ l.now) := by
    unfold Lane.since
    rw [still.1, still.2]
  rw [enabled, since, closed, on] at judged
  rw [judged]
  generalize l.feedbackShown k high = x at hx level on noclose weld func
  obtain ⟨tripped, told, raw, out⟩ := Lane.outputFault_effects hx k (bits := R.SF_KOSTAT_NOCLOSE) (ev := R.SF_EVT_NOCLOSE)
    (by simp [koFaults]) rfl (by decide) rfl
  have welded := hx.putBit R.SF_KOSTAT_WELD k true
  refine ⟨?_, fun fine => ?_, fun en long differs closes => ?_, fun en long differs opens => ?_⟩
  · split_ifs
    · exact level
    · exact (Lane.bit_of_get raw _).trans level
    · exact (Lane.bit_of_get ((Lane.get_raise_elsewhere _ ev_SF_EVT at_SF_RAW.1).trans
        (Lane.get_putBit_elsewhere x _ _ at_SF_KOSTAT.1 at_SF_RAW.1)) _).trans level
  · rw [if_pos (fine.imp (fun off => by rw [off]; rfl) fun rest => rest.imp
      (fun early => by rw [decide_eq_false (Nat.not_le.2 early)]; rfl) fun same => same)]
    exact ⟨on, noclose, weld⟩
  · rw [if_neg (by rw [en, differs, closes, decide_eq_true long]; decide), if_pos closes]
    exact ⟨tripped.held, told, tripped.off, fun supply => out (func.trans supply)⟩
  · rw [if_neg (by rw [en, differs, opens, decide_eq_true long]; decide), if_neg (by rw [opens]; decide)]
    refine ⟨?_, Lane.flag_raise welded.wf _ (by decide) rfl, ?_⟩
    · exact (Lane.bit_of_get (Lane.get_raise_elsewhere _ ev_SF_EVT at_SF_KOSTAT.1) _).trans
        (Lane.bit_putBit hx.wf R.SF_KOSTAT_WELD (by decide) k.isLt _)
    · exact (Lane.bit_of_get ((Lane.get_raise_elsewhere _ ev_SF_EVT at_SF_KOSTAT.1).trans
        (hx.get_putBit_apart (f := R.SF_KOSTAT_WELD) _ _)) _).trans (on.trans opens)

/-! ### The commands -/

theorem does_koCommand (e : At) (cmd : BitVec 4) (s : State) (hs : s.Runs e) :
    Does (.koCommand e cmd) s [.reg R.SF_KOCMD, .reg R.SF_KOSTAT, .emit, .safety] fun l m =>
      m.get R.SF_KOCMD_CMD = cmd.toNat ∧
      (∀ k : Fin 4, m.bit R.SF_KOSTAT_ON k = (l.put R.SF_KOCMD_CMD cmd.toNat).koWanted k) ∧
      (∀ k : Fin 4, l.get (R.SF_KOCFG_FUNC k) = 3 → cmd.getLsbD k = false → m.bit R.SF_KOSTAT_ON k = false) := by
  refine does_logic hs rfl execKoCommand_event rfl (by decide +kernel) fun hl => ?_
  generalize s.before (.koCommand e cmd) = l at hl
  have hp := hl.put R.SF_KOCMD_CMD cmd.toNat
  have stored : (l.put R.SF_KOCMD_CMD cmd.toNat).get R.SF_KOCMD_CMD = cmd.toNat :=
    (hl.get_put R.SF_KOCMD_CMD _).trans (Nat.mod_eq_of_lt cmd.isLt)
  refine ⟨?_, Lane.bit_ON_koSettle hp, fun k command low => ?_⟩
  · exact ((Lane.near_koSettle hp).keep at_SF_KOCMD.1 (by decide +kernel)).trans stored
  · have func : (l.put R.SF_KOCMD_CMD cmd.toNat).get (R.SF_KOCFG_FUNC k) = 3 :=
      (Lane.get_put_elsewhere l _ at_SF_KOCMD.1 (at_SF_KOCFG k.isLt).1).trans command
    have bit : (l.put R.SF_KOCMD_CMD cmd.toNat).bit R.SF_KOCMD_CMD k = false := by
      unfold Lane.bit
      rw [stored]
      exact low
    have refused : (l.put R.SF_KOCMD_CMD cmd.toNat).koPermitted k = false := by
      unfold Lane.koPermitted
      rw [func, bit]
      simp
    rw [Lane.bit_ON_koSettle hp, Lane.koWanted_eq, refused]
    simp

theorem does_contactorFault (e : At) (k : Fin 4) (high : Bool) (held : Nat) (s : State) (hs : s.Runs e) :
    Does (.contactorFault ⟨e, held⟩ k high) s (setOutParts ++ [.reg R.SF_RAW, .reg R.SF_EVT]) fun l m =>
      (held < 10000 → m = l) ∧
      (10000 ≤ held → m.bit R.SF_RAW_KF k = high) ∧
      (10000 ≤ held → l.flag (R.SF_KOCFG_FBEN k) = false ∨ l.now < l.safety.koAt[k] + ms 60 ∨
        l.contactorClosed k high = l.bit R.SF_KOSTAT_ON k →
        m.bit R.SF_KOSTAT_ON k = l.bit R.SF_KOSTAT_ON k ∧ m.bit R.SF_KOSTAT_NOCLOSE k = l.bit R.SF_KOSTAT_NOCLOSE k ∧
        m.bit R.SF_KOSTAT_WELD k = l.bit R.SF_KOSTAT_WELD k) ∧
      (10000 ≤ held → l.flag (R.SF_KOCFG_FBEN k) = true → l.safety.koAt[k] + ms 60 ≤ l.now →
        l.contactorClosed k high = false →
        l.bit R.SF_KOSTAT_ON k = true →
        m.bit R.SF_KOSTAT_NOCLOSE k = true ∧ m.flag R.SF_EVT_NOCLOSE = true ∧ m.bit R.SF_KOSTAT_ON k = false ∧
        (l.get (R.SF_KOCFG_FUNC k) = 1 → ∀ n, m.inService n = false)) ∧
      (10000 ≤ held → l.flag (R.SF_KOCFG_FBEN k) = true → l.safety.koAt[k] + ms 60 ≤ l.now →
        l.contactorClosed k high = true →
        l.bit R.SF_KOSTAT_ON k = false →
        m.bit R.SF_KOSTAT_WELD k = true ∧ m.flag R.SF_EVT_WELD = true ∧ m.bit R.SF_KOSTAT_ON k = false) := by
  refine does_logic hs rfl execContactorFault_event rfl (by decide +kernel) fun hl => ?_
  generalize s.before (.contactorFault ⟨e, held⟩ k high) = l at hl
  obtain ⟨raw, fine, opens, welds⟩ := Lane.judgeContactor_effects hl k high (ms 60)
  have judges (long : 10000 ≤ held) : (l.when (decide (10000 ≤ held)) fun l => l.judgeContactor k high (ms 60)) =
      l.judgeContactor k high (ms 60) := Lane.when_of_true l (decide_eq_true long)
  refine ⟨fun brief => Lane.when_of_false l (decide_eq_false (Nat.not_le.2 brief)), fun long => ?_, fun long => ?_,
    fun long => ?_, fun long => ?_⟩ <;> rw [judges long]
  exacts [raw, fine, opens, welds]

theorem does_koOvercurrent (e : At) (k : Fin 4) (held : Nat) (s : State) (hs : s.Runs e) :
    Does (.koOvercurrent ⟨e, held⟩ k) s (setOutParts ++ [.reg R.SF_EVT]) fun l m =>
      (l.bit R.SF_KOSTAT_ON k = false ∨ held < 50 → m = l) ∧
      (l.bit R.SF_KOSTAT_ON k = true → 50 ≤ held →
        m.bit R.SF_KOSTAT_OC k = true ∧ m.flag R.SF_EVT_OC = true ∧ m.bit R.SF_KOSTAT_ON k = false ∧
        (l.get (R.SF_KOCFG_FUNC k) = 1 → ∀ n, m.inService n = false)) := by
  refine does_logic hs rfl execKoOvercurrent_event rfl (by decide +kernel) fun hl => ?_
  generalize s.before (.koOvercurrent ⟨e, held⟩ k) = l at hl
  obtain ⟨tripped, told, -, out⟩ := Lane.outputFault_effects hl k (bits := R.SF_KOSTAT_OC) (ev := R.SF_EVT_OC)
    (by simp [koFaults]) rfl (by decide) rfl
  refine ⟨fun idle => if_neg ?_, fun on long => ?_⟩
  · rintro ⟨on, long⟩
    rcases idle with off | brief
    · exact Bool.eq_false_iff.1 off on
    · exact Nat.not_le.2 brief long
  · rw [if_pos ⟨on, long⟩]
    exact ⟨tripped.held, told, tripped.off, out⟩

theorem does_koShort (e : At) (k : Fin 4) (held : Nat) (s : State) (hs : s.Runs e) :
    Does (.koShort ⟨e, held⟩ k) s [.reg R.SF_EVT, .reg R.SF_KOSTAT] fun l m =>
      (l.bit R.SF_KOSTAT_ON k = true → m = l) ∧
      (l.bit R.SF_KOSTAT_ON k = false → m.bit R.SF_KOSTAT_RDBK k = true ∧ m.bit R.SF_KOSTAT_ON k = false) ∧
      (l.bit R.SF_KOSTAT_ON k = false → held < 10000 ∨ l.now < l.safety.koAt[k] + ms 10 →
        m.bit R.SF_KOSTAT_SHORT k = l.bit R.SF_KOSTAT_SHORT k) ∧
      (l.bit R.SF_KOSTAT_ON k = false → 10000 ≤ held → l.safety.koAt[k] + ms 10 ≤ l.now →
        m.bit R.SF_KOSTAT_SHORT k = true ∧ m.flag R.SF_EVT_SHORT = true) := by
  refine does_logic hs rfl execKoShort_event rfl (by decide +kernel) fun hl => ?_
  generalize s.before (.koShort ⟨e, held⟩ k) = l at hl
  have hx := hl.putBit R.SF_KOSTAT_RDBK k true
  have back : (l.putBit R.SF_KOSTAT_RDBK k true).bit R.SF_KOSTAT_RDBK k = true := Lane.bit_putBit hl.wf _ (by decide) k.isLt _
  have on : (l.putBit R.SF_KOSTAT_RDBK k true).bit R.SF_KOSTAT_ON k = l.bit R.SF_KOSTAT_ON k :=
    Lane.bit_of_get (hl.get_putBit_apart _ _) _
  have short : (l.putBit R.SF_KOSTAT_RDBK k true).bit R.SF_KOSTAT_SHORT k = l.bit R.SF_KOSTAT_SHORT k :=
    Lane.bit_of_get (hl.get_putBit_apart _ _) _
  have since : (l.putBit R.SF_KOSTAT_RDBK k true).since (l.putBit R.SF_KOSTAT_RDBK k true).safety.koAt[k] (ms 10) =
      decide (l.safety.koAt[k] + ms 10 ≤ l.now) := rfl
  refine ⟨fun closed => if_pos closed, fun open_ => ?_, fun open_ brief => ?_, fun open_ long past => ?_⟩ <;>
    rw [if_neg (Bool.eq_false_iff.1 open_)] <;> dsimp only <;> rw [since] <;>
    generalize l.putBit R.SF_KOSTAT_RDBK k true = x at hx back on short
  · split_ifs
    · have kept {f : Fld} (row : f.addr = R.SF_KOSTAT) (fits : (f.lo + f.width).ble 32 = true)
          (apart : ((f.lo + f.width).ble 24 || (28 : Nat).ble f.lo) = true) :
          ((x.putBit R.SF_KOSTAT_SHORT k true).raise R.SF_EVT_SHORT).get f = x.get f := by
        have stat : regNo f.addr = 289 := row ▸ at_SF_KOSTAT.1
        exact (Lane.get_raise_elsewhere _ ev_SF_EVT stat).trans (hx.get_putBit_apart _ _ row fits (by rwa [Bool.or_comm]))
      exact ⟨(Lane.bit_of_get (kept rfl rfl rfl) _).trans back, (Lane.bit_of_get (kept rfl rfl rfl) _).trans (on.trans open_)⟩
    · exact ⟨back, on.trans open_⟩
  · rw [if_neg fun ⟨long, past⟩ => brief.elim (Nat.not_lt.2 long) (Nat.not_lt.2 (of_decide_eq_true past))]
    exact short
  · rw [if_pos ⟨long, decide_eq_true past⟩]
    refine ⟨?_, Lane.flag_raise (hx.putBit _ _ _).wf _ (by decide) rfl⟩
    exact (Lane.bit_of_get (Lane.get_raise_elsewhere _ ev_SF_EVT at_SF_KOSTAT.1) _).trans
      (Lane.bit_putBit hx.wf R.SF_KOSTAT_SHORT (by decide) k.isLt _)

/-- Settles O54, command by command. -/
theorem contactors : Obligations.Contactors := by
  unfold Obligations.Contactors
  refine ⟨does_koCommand, fun e k high s hs => ?_, does_contactorFault, does_koOvercurrent, does_koShort⟩
  exact does_logic hs rfl execContactorCheck_event rfl (by decide +kernel) fun hl =>
    Lane.judgeContactor_effects hl k high (ms 50)

end Sys2Proof.Machine

/-!
PROOFS. Cartridge authentication and the playbill (R540, R545).
-/

namespace Sys2Proof.Machine

-- one declaration at a time: each waits for the kernel, and a waiting one holds a thread and its stack
set_option Elab.async false

/-! ### The cartridges of a lane -/

theorem Lane.cart_onCart (l : Lane) (n : Axis) (f : CartState → CartState) : (l.onCart n f).cart n = f (l.cart n) :=
  Vector.getElem_set_self n.isLt

theorem Lane.cart_onCart_of_ne (l : Lane) {n k : Axis} (other : k ≠ n) (f : CartState → CartState) :
    (l.onCart k f).cart n = l.cart n := by
  refine Vector.getElem_set_ne k.isLt n.isLt ?_
  exact fun same => other (Fin.ext same)

/-- Where the cartridges stay, each reads as before. -/
theorem Lane.Near.cart {M : Nat} {a b : Lane} (near : Lane.Near M a b) (kept : M.testBit 502 = false) (n : Axis) :
    b.cart n = a.cart n := by
  unfold Lane.cart
  rw [near.trust.carts kept]

/-! ### CARTRIDGE_AUTH -/

/-- CARTRIDGE_AUTH (R540). -/
theorem does_cartridgeAuth (e : At) (n : Axis) (s : State) (hs : s.Runs e) :
    Does (.cartridgeAuth e n) s [.emit, .fresh, .trust] fun l m =>
      (l.bookEnables n = false ∨ l.get (R.FB_CFG_SER n) ≠ 2 ∨ l.flag (R.FB_STAT_SERLOCK n) = false ∨ (l.cart n).due =
        false → m = l) ∧
      (l.bookEnables n = true → l.get (R.FB_CFG_SER n) = 2 → l.flag (R.FB_STAT_SERLOCK n) = true →
        (l.cart n).due = true →
        ∃ c, (m.cart n).running = true ∧ (m.cart n).due = false ∧ (m.cart n).challenge = some c ∧ m.regs = l.regs ∧
        m.emit = .cartChallenge n c :: l.emit) := by
  refine does_logic hs rfl execCartridgeAuth_event rfl (by decide +kernel) fun hl => ?_
  generalize s.before (.cartridgeAuth e n) = l at hl
  constructor
  · intro idle
    refine if_neg ?_
    rintro ⟨book, serial, lock, due⟩
    rcases idle with off | other | open' | done
    · exact absurd book (Bool.eq_false_iff.1 off)
    · exact other serial
    · exact absurd lock (Bool.eq_false_iff.1 open')
    · exact absurd due (Bool.eq_false_iff.1 done)
  · intro book serial lock due
    have cart := l.cart_onCart n fun x => { x with running := true, due := false, challenge := some l.choice }
    rw [if_pos ⟨book, serial, lock, due⟩]
    exact ⟨l.choice, congrArg CartState.running cart, congrArg CartState.due cart, congrArg CartState.challenge cart, rfl, rfl⟩

/-! ### CARTRIDGE_AUTH_DONE -/

/-- The lane with the cartridge of axis `n` read: its authentication runs no more. -/
def Lane.cartRead (l : Lane) (n : Axis) (r : CartRead) : Lane :=
  ((l.onCart n fun c => { c with running := false, challenge := none, digest := some r.digest }).showDigest n
    r.digest).dropAcceptance n r.digest

/-- The cartridge proves itself: a digest known or a chain to an anchor, and the challenge signed (R540). -/
def Lane.cartProven (l : Lane) (n : Axis) (r : CartRead) : Bool :=
  decide (r.digest ∈ l.trust.flash.verified ∨ l.chainOk r) && l.challengeOk n r

section
variable {i : LaneId} {l : Lane} (hl : l.Sound i) (n : Axis) (r : CartRead)
include hl

/-- What reading a cartridge may change: its digest shown, the cartridges and the acceptance on record. -/
theorem Lane.near_cartRead : Lane.Near (maskOf [.reg (R.CT_ID 0 0), .trust]) l (l.cartRead n r) :=
  Lane.dropAcceptance_near (by decide +kernel) (Lane.showDigest_near (by decide +kernel)
    (Lane.onCart_near (by decide +kernel) (.refl _ hl)))

/-- Showing the digest leaves the flash, the fuses, the book and the cartridges as they are. -/
theorem Lane.trust_showDigest (d : BitVec 384) : (l.showDigest n d).trust = l.trust :=
  (Lane.showDigest_near (M := maskOf [.reg (R.CT_ID 0 0)]) (by decide +kernel) (.refl _ hl)).trust.eq (by decide +kernel)

omit hl in
/-- What the lane holds of its cartridges is not a matter of its acceptances. -/
theorem Lane.dropAcceptance_effects (d : BitVec 384) :
    (∀ k, (l.dropAcceptance n d).cart k = l.cart k) ∧
      ((l.dropAcceptance n d).trust.flash.accepted[n] = some d ↔ l.trust.flash.accepted[n] = some d) := by
  by_cases same : l.trust.flash.accepted[n] = some d
  · rw [show l.dropAcceptance n d = l from if_pos same]
    exact ⟨fun _ => rfl, .rfl⟩
  · rw [show l.dropAcceptance n d = _ from if_neg same]
    have dropped : (l.trust.flash.accepted.set n none)[n] = none := Vector.getElem_set_self n.isLt
    refine ⟨fun _ => rfl, ⟨fun shown => ?_, fun shown => absurd shown same⟩⟩
    exact nomatch dropped.symm.trans shown

/-- A cartridge read shows its digest and runs no more; an acceptance on record holds for this digest alone (R542). -/
theorem Lane.cartRead_effects :
    (l.cartRead n r).cart n = { l.cart n with running := false, challenge := none, digest := some r.digest } ∧
      ((l.cartRead n r).trust.flash.accepted[n] = some r.digest ↔ l.trust.flash.accepted[n] = some r.digest) := by
  have read := l.cart_onCart n fun c => { c with running := false, challenge := none, digest := some r.digest }
  have flash : (l.onCart n fun c => { c with running := false, challenge := none, digest := some r.digest }).trust.flash =
      l.trust.flash := rfl
  have sound : (l.onCart n fun c => { c with running := false, challenge := none, digest := some r.digest }).Sound i := hl
  unfold Lane.cartRead
  generalize l.onCart n _ = x at read flash sound
  have shown := Lane.trust_showDigest sound n r.digest
  have place : (x.showDigest n r.digest).Sound i :=
    (Lane.showDigest_near (M := maskOf [.reg (R.CT_ID 0 0)]) (by decide +kernel) (.refl _ sound)).place sound
  generalize x.showDigest n r.digest = y at shown place
  obtain ⟨carts, accepted⟩ := Lane.dropAcceptance_effects n r.digest
  rw [carts, accepted, Lane.cart, shown, flash]
  exact ⟨read, .rfl⟩

end

/-! #### The authentication passes -/

/-- The registers after a pass. -/
def Lane.showPass (l : Lane) (n : Axis) (r : CartRead) : Lane :=
  (l.put (R.CT_STAT_AUTH n) 1).put64 (R.CT_RATED_LO_RATED n) (R.CT_RATED_HI_RATED n) r.rated

/-- The digest read is on record as verified, and the playbill's record is taken over. -/
def Lane.keepPass (l : Lane) (n : Axis) (r : CartRead) : Lane :=
  (l.onTrust fun t => { t with flash := { t.flash with
    verified := if r.digest ∈ t.flash.verified then t.flash.verified else (r.digest :: t.flash.verified).take 16 } }).onCart n
    fun c => { c with record := ((playbillOf r).map (·.1)).getD 0, seq := ((playbillOf r).map (·.2)).getD 0 }

/-- Ends a CART_ACCEPT that waited for the authentication. -/
def Lane.endAccept (l : Lane) (n : Axis) : Lane := l.onCart n fun c => { c with acceptWait := none }

/-- What a pass shows (R540). -/
def Lane.ShowsPass (m : Lane) (n : Axis) (r : CartRead) : Prop :=
  m.get (R.CT_STAT_AUTH n) = 1 ∧ (r.rated < 2 ^ 64 → m.rated n = r.rated) ∧
    (m.cart n).record = ((playbillOf r).map (·.1)).getD 0 ∧ (m.cart n).seq = ((playbillOf r).map (·.2)).getD 0 ∧
    r.digest ∈ m.trust.flash.verified

/-- What is known of the cartridge after a read, whatever its outcome (R540). -/
def CartState.Read (c : CartState) (r : CartRead) : Prop :=
  c.running = false ∧ c.challenge = none ∧ c.digest = some r.digest

section
variable {i : LaneId} {l : Lane} (hl : l.Sound i) (n : Axis) (r : CartRead)
include hl

theorem Lane.rated_put64 {v : Nat} (small : v < 2 ^ 64) :
    (l.put64 (R.CT_RATED_LO_RATED n) (R.CT_RATED_HI_RATED n) v).rated n = v := by
  have low := (Lane.get_put_elsewhere (f := R.CT_RATED_HI_RATED n) (g := R.CT_RATED_LO_RATED n)
    (l.put (R.CT_RATED_LO_RATED n) (v % 2 ^ 32)) (v / 2 ^ 32)
    (at_CT_RATED_HI n.isLt).1 (at_CT_RATED_LO n.isLt).1).trans (hl.get_put (R.CT_RATED_LO_RATED n) (v % 2 ^ 32))
  have high := (hl.put (R.CT_RATED_LO_RATED n) (v % 2 ^ 32)).get_put (R.CT_RATED_HI_RATED n) (v / 2 ^ 32)
  have low' : (l.put64 (R.CT_RATED_LO_RATED n) (R.CT_RATED_HI_RATED n) v).get (R.CT_RATED_LO_RATED n) = v % 2 ^ 32 % 2 ^ 32 := low
  have high' : (l.put64 (R.CT_RATED_LO_RATED n) (R.CT_RATED_HI_RATED n) v).get (R.CT_RATED_HI_RATED n) = v / 2 ^ 32 % 2 ^ 32 := high
  unfold Lane.rated
  rw [low', high']
  omega

theorem Lane.showPass_effects :
    (l.showPass n r).Sound i ∧ (l.showPass n r).trust = l.trust ∧ (l.showPass n r).get (R.CT_STAT_AUTH n) = 1 ∧
      (r.rated < 2 ^ 64 → (l.showPass n r).rated n = r.rated) := by
  have auth : (l.put (R.CT_STAT_AUTH n) 1).Sound i := hl.put _ _
  have shown : (l.put (R.CT_STAT_AUTH n) 1).get (R.CT_STAT_AUTH n) = 1 := hl.get_put _ _
  have trust : (l.put (R.CT_STAT_AUTH n) 1).trust = l.trust := rfl
  unfold Lane.showPass
  generalize l.put (R.CT_STAT_AUTH n) 1 = x at auth shown trust
  have near : Lane.Near (maskOf [.reg (R.CT_RATED_LO 0), .reg (R.CT_RATED_HI 0)]) x
      (x.put64 (R.CT_RATED_LO_RATED n) (R.CT_RATED_HI_RATED n) r.rated) :=
    Lane.put64_near (inReg (at_CT_RATED_LO n.isLt) (by decide +kernel)) (inReg (at_CT_RATED_HI n.isLt) (by decide +kernel))
      (.refl _ auth)
  exact ⟨near.place auth, (near.trust.eq (by decide +kernel)).trans trust,
    (near.keep (at_CT_STAT n.isLt).1 (by decide +kernel)).trans shown, fun small => Lane.rated_put64 auth n small⟩

omit hl in
theorem Lane.cart_keepPass : (l.keepPass n r).cart n =
    { l.cart n with record := ((playbillOf r).map (·.1)).getD 0, seq := ((playbillOf r).map (·.2)).getD 0 } :=
  Lane.cart_onCart _ n _

omit hl in
theorem Lane.verified_keepPass : r.digest ∈ (l.keepPass n r).trust.flash.verified := by
  show r.digest ∈ if r.digest ∈ l.trust.flash.verified then l.trust.flash.verified
    else (r.digest :: l.trust.flash.verified).take 16
  split
  · assumption
  · exact List.mem_cons_self

theorem Lane.Sound.keepPass : (l.keepPass n r).Sound i := (hl.onTrust _).onTrust _

omit hl in
theorem Lane.get_onCart (f : CartState → CartState) (x : Fld) : (l.onCart n f).get x = l.get x := Lane.get_onTrust _ _ _

omit hl in
theorem Lane.get_keepPass (x : Fld) : (l.keepPass n r).get x = l.get x := by
  unfold Lane.keepPass
  rw [Lane.get_onCart, Lane.get_onTrust]

omit hl in
theorem Lane.rated_keepPass : (l.keepPass n r).rated n = l.rated n := by
  unfold Lane.rated
  rw [Lane.get_keepPass, Lane.get_keepPass]

theorem Lane.Sound.endAccept : (l.endAccept n).Sound i := hl.onTrust _

omit hl in
/-- After a pass a CART_ACCEPT that waited is answered. -/
theorem Lane.cartPass_eq : l.cartPass n r = match (((l.showPass n r).keepPass n r).cart n).acceptWait with
    | some (_, h, p) => (((l.showPass n r).keepPass n r).endAccept n).answer h p ⟨0, 2⟩ []
    | none => (l.showPass n r).keepPass n r := by
  unfold Lane.cartPass Lane.showPass
  generalize (l.put (R.CT_STAT_AUTH n) 1).put64 _ _ r.rated = x
  rfl

theorem Lane.cartPass_effects (read : (l.cart n).Read r) :
    ((l.cartPass n r).cart n).Read r ∧ (l.cartPass n r).ShowsPass n r := by
  obtain ⟨sound, trust, auth, rated⟩ := Lane.showPass_effects hl n r
  have cart : (l.showPass n r).cart n = l.cart n := by rw [Lane.cart, trust, Lane.cart]
  rw [Lane.cartPass_eq]
  generalize l.showPass n r = x at sound trust auth rated cart
  have kept := sound.keepPass n r
  have cart' := (Lane.cart_keepPass n r (l := x)).trans (by rw [cart])
  have auth' : (x.keepPass n r).get (R.CT_STAT_AUTH n) = 1 := (Lane.get_keepPass n r _).trans auth
  have rated' : r.rated < 2 ^ 64 → (x.keepPass n r).rated n = r.rated := (Lane.rated_keepPass n r).symm ▸ rated
  have known := Lane.verified_keepPass n r (l := x)
  generalize x.keepPass n r = y at kept cart' auth' rated' known
  obtain ⟨idle, unasked, digest⟩ := read
  split
  next h p _ =>
    have ended : (y.endAccept n).cart n = { y.cart n with acceptWait := none } := Lane.cart_onCart _ n _
    have place := kept.endAccept n
    have regs (f : Fld) : (y.endAccept n).get f = y.get f := Lane.get_onCart n _ f
    have flash : (y.endAccept n).trust.flash = y.trust.flash := rfl
    generalize y.endAccept n = z at ended place regs flash
    have near := Lane.near_answer place h p ⟨0, 2⟩ []
    generalize z.answer h p ⟨0, 2⟩ [] = a at near
    have cart := (near.cart (by decide +kernel) n).trans ended
    rw [cart'] at cart
    have low := (near.keep (f := R.CT_RATED_LO_RATED n) (at_CT_RATED_LO n.isLt).1 (by decide +kernel)).trans (regs _)
    have high := (near.keep (f := R.CT_RATED_HI_RATED n) (at_CT_RATED_HI n.isLt).1 (by decide +kernel)).trans (regs _)
    rw [CartState.Read, Lane.ShowsPass, cart, Lane.rated, low, high, near.trust.eq (by decide +kernel), flash]
    exact ⟨⟨idle, unasked, digest⟩, (near.keep (at_CT_STAT n.isLt).1 (by decide +kernel)).trans ((regs _).trans auth'),
      rated', rfl, rfl, known⟩
  next =>
    rw [CartState.Read, Lane.ShowsPass, cart']
    exact ⟨⟨idle, unasked, digest⟩, auth', rated', rfl, rfl, known⟩

end

/-! #### The authentication fails -/

/-- The lane after a failed authentication, before a CART_ACCEPT that waited applies. -/
def Lane.cartFailed (l : Lane) (n : Axis) (r : CartRead) : Lane :=
  ((l.put (R.CT_STAT_AUTH n) 2).raise (R.CT_EVT_AUTHFAIL n)).when (l.trust.flash.accepted[n] == some r.digest) fun l =>
    l.put (R.CT_STAT_AUTH n) 3

/-- What a failure shows (R540, R542): `kept` says that an acceptance of the digest read is on record, and `wait` is the
CART_ACCEPT that waited. -/
def Lane.ShowsFailure (m : Lane) (n : Axis) (r : CartRead) (kept : Prop) (wait : Option (BitVec 384 × Hdr × Option Path)) : Prop :=
  m.flag (R.CT_EVT_AUTHFAIL n) = true ∧ (kept → m.get (R.CT_STAT_AUTH n) = 3) ∧
    (wait = none → ¬kept → m.get (R.CT_STAT_AUTH n) = 2) ∧
    ∀ d h p, wait = some (d, h, p) → d = r.digest →
      m.get (R.CT_STAT_AUTH n) = 3 ∧ m.flag (R.CT_EVT_ACCEPT n) = true ∧ m.trust.flash.accepted[n] = some d

section
variable {i : LaneId} {l : Lane} (hl : l.Sound i) (n : Axis) (r : CartRead)
include hl

theorem Lane.cartFailed_effects :
    (l.cartFailed n r).Sound i ∧ (l.cartFailed n r).trust = l.trust ∧
      (l.cartFailed n r).flag (R.CT_EVT_AUTHFAIL n) = true ∧
      (l.cartFailed n r).get (R.CT_STAT_AUTH n) = if l.trust.flash.accepted[n] = some r.digest then 3 else 2 := by
  have shown : (l.put (R.CT_STAT_AUTH n) 2).Sound i := hl.put _ _
  have auth := ((l.put (R.CT_STAT_AUTH n) 2).get_raise_elsewhere (f := R.CT_EVT_AUTHFAIL n) (g := R.CT_STAT_AUTH n)
    (ev_CT_EVT n.isLt) (at_CT_STAT n.isLt).1).trans (hl.get_put _ _)
  have event := Lane.flag_raise shown.wf (R.CT_EVT_AUTHFAIL n) (by simp) rfl
  have trust : ((l.put (R.CT_STAT_AUTH n) 2).raise (R.CT_EVT_AUTHFAIL n)).trust = l.trust := rfl
  have place : ((l.put (R.CT_STAT_AUTH n) 2).raise (R.CT_EVT_AUTHFAIL n)).Sound i := shown.raise _
  unfold Lane.cartFailed
  generalize (l.put (R.CT_STAT_AUTH n) 2).raise (R.CT_EVT_AUTHFAIL n) = x at auth event trust place
  by_cases kept : l.trust.flash.accepted[n] = some r.digest
  · rw [Lane.when_of_true _ (beq_iff_eq.2 kept), if_pos kept]
    have near : Lane.Near (maskOf [.reg (R.CT_STAT 0)]) x (x.put (R.CT_STAT_AUTH n) 3) :=
      Lane.put_near (inReg (at_CT_STAT n.isLt) (by decide +kernel)) (.refl _ place)
    exact ⟨place.put _ _, trust, near.flag (by decide +kernel) (is_CT_EVT n.isLt) rfl event, place.get_put _ _⟩
  · rw [Lane.when_of_false _ (beq_eq_false_iff_ne.2 kept), if_neg kept]
    exact ⟨place, trust, event, auth⟩

omit hl in
/-- A CART_ACCEPT that waited applies after the failure (R542). -/
theorem Lane.cartFail_eq : l.cartFail n r = match ((l.cartFailed n r).cart n).acceptWait with
    | some (d, h, p) =>
      if d = r.digest then (((l.cartFailed n r).endAccept n).acceptCart n d h.seat).answer h p .ok []
      else ((l.cartFailed n r).endAccept n).answer h p (.param 7) []
    | none => l.cartFailed n r := rfl

theorem Lane.cartFail_effects (read : (l.cart n).Read r) :
    ((l.cartFail n r).cart n).Read r ∧
      (l.cartFail n r).ShowsFailure n r (l.trust.flash.accepted[n] = some r.digest) (l.cart n).acceptWait := by
  obtain ⟨place, trust, event, auth⟩ := Lane.cartFailed_effects hl n r
  have cart : (l.cartFailed n r).cart n = l.cart n := by rw [Lane.cart, trust, Lane.cart]
  rw [Lane.cartFail_eq]
  generalize l.cartFailed n r = x at place trust event auth cart
  rw [cart]
  cases wait : (l.cart n).acceptWait with
  | some asked =>
    obtain ⟨d, h, p⟩ := asked
    dsimp only
    have ended : (x.endAccept n).cart n = { x.cart n with acceptWait := none } := Lane.cart_onCart _ n _
    have place' := place.endAccept n
    have auth' : (x.endAccept n).get (R.CT_STAT_AUTH n) = _ := (Lane.get_onCart n _ _).trans auth
    have event' : (x.endAccept n).flag (R.CT_EVT_AUTHFAIL n) = true := event
    generalize x.endAccept n = y at ended place' auth' event'
    rw [cart] at ended
    obtain ⟨idle, unasked, digest⟩ := read
    by_cases same : d = r.digest
    · rw [if_pos same]
      obtain ⟨sound, auth, accept, record⟩ := Lane.acceptCart_effects (d := d) place' n h.seat
      have near : Lane.Near (allBut [322, 502]) y (y.acceptCart n d h.seat) :=
        Lane.acceptCart_near (by decide +kernel) (.refl _ place')
      generalize y.acceptCart n d h.seat = z at sound auth accept record near
      have out := Lane.near_answer sound h p .ok []
      generalize z.answer h p .ok [] = a at out
      have shown := (out.keep (f := R.CT_STAT_AUTH n) (at_CT_STAT n.isLt).1 (by decide +kernel)).trans auth
      have failed := near.flag (by decide +kernel) (is_CT_EVT n.isLt) rfl event'
      rw [CartState.Read, (out.cart (by decide +kernel) n).trans ((near.cart (by decide +kernel) n).trans ended)]
      refine ⟨⟨idle, unasked, digest⟩, out.flag (by decide +kernel) (is_CT_EVT n.isLt) rfl failed, fun _ => shown,
        fun waitless => absurd waitless (Option.some_ne_none _), fun d' _ _ asked _ => ⟨shown, out.flag (by decide +kernel) (is_CT_EVT n.isLt) rfl accept, ?_⟩⟩
      obtain ⟨rfl, -⟩ := Prod.mk.inj (Option.some.inj asked)
      rw [out.trust.eq (by decide +kernel)]
      exact record
    · rw [if_neg same]
      have out := Lane.near_answer place' h p (.param 7) []
      generalize y.answer h p (.param 7) [] = a at out
      rw [CartState.Read, (out.cart (by decide +kernel) n).trans ended]
      refine ⟨⟨idle, unasked, digest⟩, out.flag (by decide +kernel) (is_CT_EVT n.isLt) rfl event', fun kept => ?_,
        fun waitless => absurd waitless (Option.some_ne_none _), fun d' _ _ asked same' => ?_⟩
      · rw [out.keep (at_CT_STAT n.isLt).1 (by decide +kernel), auth', if_pos kept]
      · obtain ⟨rfl, -⟩ := Prod.mk.inj (Option.some.inj asked)
        exact absurd same' same
  | none =>
    dsimp only
    rw [cart]
    exact ⟨read, event, fun kept => auth.trans (if_pos kept), fun _ lost => auth.trans (if_neg lost),
      fun _ _ _ asked => nomatch asked⟩

end

/-- An authentication that ends shows its outcome (R540). -/
theorem Lane.authDone_eq (l : Lane) (n : Axis) (r : CartRead) (running : (l.cart n).running = true) :
    (if (l.cart n).running then
      let ok := decide (r.digest ∈ l.trust.flash.verified ∨ l.chainOk r) && l.challengeOk n r
      let l := (l.onCart n fun c => { c with running := false, challenge := none, digest := some r.digest }).showDigest n r.digest
      let l := l.dropAcceptance n r.digest
      if ok then l.cartPass n r else l.cartFail n r
    else l) = if l.cartProven n r then (l.cartRead n r).cartPass n r else (l.cartRead n r).cartFail n r := if_pos running

theorem Lane.cartProven_iff (l : Lane) (n : Axis) (r : CartRead) :
    l.cartProven n r = true ↔ (r.digest ∈ l.trust.flash.verified ∨ l.chainOk r = true) ∧ l.challengeOk n r = true := by
  unfold Lane.cartProven
  rw [Bool.and_eq_true, decide_eq_true_iff]

theorem Lane.not_cartProven_iff (l : Lane) (n : Axis) (r : CartRead) : l.cartProven n r = false ↔
    (r.digest ∉ l.trust.flash.verified ∧ l.chainOk r = false) ∨ l.challengeOk n r = false := by
  rw [← Bool.not_eq_true, Lane.cartProven_iff, not_and_or, not_or, Bool.not_eq_true, Bool.not_eq_true]

/-- CARTRIDGE_AUTH_DONE (R540). -/
theorem does_cartridgeAuthDone (e : At) (n : Axis) (r : CartRead) (s : State) (hs : s.Runs e) :
    Does (.cartridgeAuthDone e n r) s [.reg (R.CN_BCTL 0 0), .reg (R.CN_BDAT 0 0 0), .reg (R.CT_STAT 0),
    .reg (R.CT_EVT 0), .reg (R.CT_RATED_LO 0), .reg (R.CT_RATED_HI 0), .reg (R.CT_ID 0 0), .reg R.HS_EVT,
    .reg R.HS_PORT, .reg R.HS_CNT1, .reg R.HS_CNT2, .reg R.HS_CNT3, .reg (R.HS_SLAST 0), .log, .seats,
    .trust] fun l m =>
      ((l.cart n).running = false → m = l) ∧
      ((l.cart n).running = true → (m.cart n).running = false ∧ (m.cart n).challenge = none ∧
        (m.cart n).digest = some r.digest) ∧
      ((l.cart n).running = true → r.digest ∈ l.trust.flash.verified ∨ l.chainOk r = true → l.challengeOk n r = true →
        m.get (R.CT_STAT_AUTH n) = 1 ∧ (r.rated < 2 ^ 64 → m.rated n = r.rated) ∧
        (m.cart n).record = ((playbillOf r).map (·.1)).getD 0 ∧ (m.cart n).seq = ((playbillOf r).map (·.2)).getD 0 ∧
        r.digest ∈ m.trust.flash.verified) ∧
      ((l.cart n).running = true → (r.digest ∉ l.trust.flash.verified ∧
        l.chainOk r = false) ∨ l.challengeOk n r = false →
        m.flag (R.CT_EVT_AUTHFAIL n) = true ∧
        (l.trust.flash.accepted[n] = some r.digest → m.get (R.CT_STAT_AUTH n) = 3) ∧
        ((l.cart n).acceptWait = none → l.trust.flash.accepted[n] ≠ some r.digest → m.get (R.CT_STAT_AUTH n) = 2)) ∧
      (∀ d h p, (l.cart n).running = true → (r.digest ∉ l.trust.flash.verified ∧
        l.chainOk r = false) ∨ l.challengeOk n r = false →
        (l.cart n).acceptWait = some (d, h, p) → d = r.digest →
        m.get (R.CT_STAT_AUTH n) = 3 ∧ m.flag (R.CT_EVT_ACCEPT n) = true ∧ m.trust.flash.accepted[n] = some d) := by
  refine does_logic hs rfl execCartridgeAuthDone_event rfl (by decide +kernel) fun hl => ?_
  generalize s.before (.cartridgeAuthDone e n r) = l at hl
  obtain ⟨cart, accepted⟩ := Lane.cartRead_effects hl n r
  have place := (Lane.near_cartRead hl n r).place hl
  have wait : ((l.cartRead n r).cart n).acceptWait = (l.cart n).acceptWait := by rw [cart]
  have read : ((l.cartRead n r).cart n).Read r := by rw [cart]; exact ⟨rfl, rfl, rfl⟩
  have pass := Lane.cartPass_effects place n r read
  have fail := Lane.cartFail_effects place n r read
  rw [wait, accepted] at fail
  have whole := l.authDone_eq n r
  refine ⟨fun idle => if_neg (Bool.eq_false_iff.1 idle), ?_, ?_, ?_, ?_⟩
  · intro running
    rw [whole running]
    split
    · exact pass.1
    · exact fail.1
  · intro running known signed
    rw [whole running, if_pos ((l.cartProven_iff n r).2 ⟨known, signed⟩)]
    exact pass.2
  · intro running unproven
    rw [whole running, if_neg (Bool.eq_false_iff.1 ((l.not_cartProven_iff n r).2 unproven))]
    obtain ⟨-, event, kept, lost, -⟩ := fail
    exact ⟨event, kept, lost⟩
  · intro d h p running unproven
    rw [whole running, if_neg (Bool.eq_false_iff.1 ((l.not_cartProven_iff n r).2 unproven))]
    obtain ⟨-, -, -, -, waited⟩ := fail
    exact waited d h p

/-! ### PLAYBILL_WRITE -/

/-- A pass over the axes of which the one at `n` alone turns `P` into `Q`, and the others keep both, leaves `Q`. -/
theorem Lane.allAxes_turns {P Q : Lane → Prop} {f : Lane → Axis → Lane} (n : Axis) (turn : ∀ l, P l → Q (f l n))
    (before : ∀ l k, k ≠ n → P l → P (f l k)) (after : ∀ l k, k ≠ n → Q l → Q (f l k)) {l : Lane} (h : P l) :
    Q (l.allAxes f) := by
  unfold Lane.allAxes
  match n with
  | 0 => exact after _ 3 (by decide) (after _ 2 (by decide) (after _ 1 (by decide) (turn _ h)))
  | 1 => exact after _ 3 (by decide) (after _ 2 (by decide) (turn _ (before _ 0 (by decide) h)))
  | 2 => exact after _ 3 (by decide) (turn _ (before _ 1 (by decide) (before _ 0 (by decide) h)))
  | 3 => exact turn _ (before _ 2 (by decide) (before _ 1 (by decide) (before _ 0 (by decide) h)))

/-- Where the book stays, so do the axes it enables. -/
theorem Lane.Near.bookEnables {M : Nat} {a b : Lane} (near : Lane.Near M a b) (kept : M.testBit 487 = false) (n : Axis) :
    b.bookEnables n = a.bookEnables n := by
  unfold Lane.bookEnables
  rw [near.trust.book kept, near.id]

/-- The record write of an axis may change CT_EVT, what was sent, and the cartridges. -/
def playbillMask : Nat := 2 ^ 297 ||| 2 ^ 324 ||| 2 ^ 502

/-- The outcome of the record write of axis `n` in the lane `m`, whose cartridge was `c` (R545). -/
def Lane.ShowsWrite (m : Lane) (failed : BitVec 4) (n : Axis) (c : CartState) : Prop :=
  (failed.getLsbD n = false → (m.cart n).seq = c.seq + 1 ∧ (m.cart n).record = c.life.floor.toNat ∧
    (m.cart n).failures = 0 ∧ ∃ b, Emission.playbill n b ∈ m.emit) ∧
  (failed.getLsbD n = true → (m.cart n).failures = c.failures + 1 ∧ (m.cart n).seq = c.seq ∧
    (2 ≤ c.failures → m.flag (R.CT_EVT_WRFAIL n) = true))

/-- The outcome stays while the cartridge and what was sent stay and the events do not clear. -/
theorem Lane.ShowsWrite.keep {a b : Lane} {failed : BitVec 4} {n : Axis} {c : CartState} (shows : a.ShowsWrite failed n c)
    (cart : b.cart n = a.cart n) (sent : ∀ x ∈ a.emit, x ∈ b.emit)
    (event : a.flag (R.CT_EVT_WRFAIL n) = true → b.flag (R.CT_EVT_WRFAIL n) = true) : b.ShowsWrite failed n c := by
  obtain ⟨written, lost⟩ := shows
  unfold Lane.ShowsWrite
  rw [cart]
  refine ⟨fun good => ?_, fun bad => ?_⟩
  · obtain ⟨seq, record, failures, x, mem⟩ := written good
    exact ⟨seq, record, failures, x, sent _ mem⟩
  · obtain ⟨failures, seq, third⟩ := lost bad
    exact ⟨failures, seq, fun h => event (third h)⟩

section
variable {i : LaneId} {l : Lane} (hl : l.Sound i) (failed : BitVec 4) (n : Axis)

theorem Lane.playbillAxis_of_none (idle : l.bookEnables n = false ∨ (l.cart n).digest = none) :
    l.playbillAxis failed n = l := if_pos (by
  refine idle.imp (fun off => ?_) fun none => ?_
  · rw [off]; rfl
  · rw [none]; rfl)

/-- A third failure in a row raises WRFAIL. -/
def Lane.writeFailed (l : Lane) (n : Axis) : Lane :=
  (l.onCart n fun c => { c with failures := (l.cart n).failures + 1 }).when (decide (3 ≤ (l.cart n).failures + 1)) fun l =>
    l.raise (R.CT_EVT_WRFAIL n)

/-- A record written has the next sequence number and the consumed life. -/
def Lane.writeDone (l : Lane) (n : Axis) : Lane :=
  (l.onCart n fun c => { c with failures := 0, seq := (l.cart n).seq + 1, record := (l.cart n).life.floor.toNat }).send
    (.playbill n (let b := l.recordBody (l.cart n).life.floor.toNat ((l.cart n).seq + 1)
      b ++ beBytes 96 (Config.signature l.id b).toNat))

theorem Lane.playbillAxis_of_read (book : l.bookEnables n = true) (digest : (l.cart n).digest ≠ none) :
    l.playbillAxis failed n = if failed.getLsbD n then l.writeFailed n else l.writeDone n := if_neg (by
  rw [book, Option.isNone_eq_false_iff.2 (Option.isSome_iff_ne_none.2 digest)]
  simp)

theorem Lane.trust_when_raise (b : Bool) (f : Fld) : (l.when b fun l => l.raise f).trust = l.trust := by
  cases b
  · rfl
  · rfl

theorem Lane.emit_when_raise (b : Bool) (f : Fld) : (l.when b fun l => l.raise f).emit = l.emit := by
  cases b
  · rfl
  · rfl

theorem Lane.cart_writeFailed (k : Axis) : (l.writeFailed k).cart n =
    (l.onCart k fun c => { c with failures := (l.cart k).failures + 1 }).cart n := by
  unfold Lane.writeFailed Lane.cart
  rw [Lane.trust_when_raise]

theorem Lane.cart_writeDone (k : Axis) : (l.writeDone k).cart n =
    (l.onCart k fun c => { c with failures := 0, seq := (l.cart k).seq + 1, record := (l.cart k).life.floor.toNat }).cart n := by
  unfold Lane.writeDone
  generalize l.onCart k _ = x
  rfl

theorem Lane.emit_writeFailed (k : Axis) : (l.writeFailed k).emit = l.emit := Lane.emit_when_raise _ _

theorem Lane.emit_writeDone (k : Axis) : ∃ b, (l.writeDone k).emit = .playbill k b :: l.emit := ⟨_, rfl⟩

/-- A record write of another axis leaves the cartridge of the axis, and what was sent stays. -/
theorem Lane.playbillAxis_apart {k : Axis} (other : k ≠ n) :
    (l.playbillAxis failed k).cart n = l.cart n ∧ ∀ x ∈ l.emit, x ∈ (l.playbillAxis failed k).emit := by
  by_cases read : l.bookEnables k = true ∧ (l.cart k).digest ≠ none
  · rw [Lane.playbillAxis_of_read failed k read.1 read.2]
    split
    · rw [Lane.cart_writeFailed, Lane.emit_writeFailed]
      exact ⟨l.cart_onCart_of_ne other _, fun _ mem => mem⟩
    · obtain ⟨b, sent⟩ := l.emit_writeDone k
      rw [Lane.cart_writeDone, sent]
      exact ⟨l.cart_onCart_of_ne other _, fun x mem => List.mem_cons_of_mem _ mem⟩
  · rw [Lane.playbillAxis_of_none failed k (by rw [not_and_or, Bool.not_eq_true, not_not] at read; exact read)]
    exact ⟨rfl, fun _ mem => mem⟩

include hl

/-- The record write of an axis that the book enables and whose cartridge has been read. -/
theorem Lane.playbillAxis_effects (book : l.bookEnables n = true) (digest : (l.cart n).digest ≠ none) :
    (l.playbillAxis failed n).ShowsWrite failed n (l.cart n) := by
  rw [Lane.playbillAxis_of_read failed n book digest]
  split
  next bad =>
    have cart := (l.cart_writeFailed n n).trans (l.cart_onCart n _)
    refine ⟨fun good => absurd bad (Bool.eq_false_iff.1 good), fun _ => ?_⟩
    rw [cart]
    refine ⟨rfl, rfl, fun third => ?_⟩
    unfold Lane.writeFailed
    rw [Lane.when_of_true _ (decide_eq_true (Nat.succ_le_succ third))]
    exact Lane.flag_raise (hl.onTrust _).wf _ (by simp) rfl
  next good =>
    have cart := (l.cart_writeDone n n).trans (l.cart_onCart n _)
    obtain ⟨b, sent⟩ := l.emit_writeDone n
    refine ⟨fun _ => ?_, fun bad => absurd bad good⟩
    rw [cart, sent]
    exact ⟨rfl, rfl, rfl, b, List.mem_cons_self⟩

/-- The record writes of the four axes. -/
theorem Lane.playbillAxes_effects (book : l.bookEnables n = true) (digest : (l.cart n).digest ≠ none) :
    Lane.Near playbillMask l (l.allAxes fun l n => l.playbillAxis failed n) ∧
      (l.allAxes fun l n => l.playbillAxis failed n).ShowsWrite failed n (l.cart n) := by
  have step {m : Lane} (k : Axis) (near : Lane.Near playbillMask l m) : Lane.Near playbillMask l (m.playbillAxis failed k) :=
    Lane.playbillAxis_near (by decide +kernel) near
  have apart {m : Lane} (hm : m.Sound i) (k : Axis) : Lane.Near playbillMask m (m.playbillAxis failed k) :=
    Lane.playbillAxis_near (by decide +kernel) (.refl _ hm)
  refine Lane.allAxes_turns (P := fun m => Lane.Near playbillMask l m ∧ m.cart n = l.cart n)
    (Q := fun m => Lane.Near playbillMask l m ∧ m.ShowsWrite failed n (l.cart n)) n ?_ ?_ ?_ ⟨.refl _ hl, rfl⟩
  · rintro m ⟨near, cart⟩
    have enabled : m.bookEnables n = true := (near.bookEnables (by decide +kernel) n).trans book
    have shows := Lane.playbillAxis_effects (near.place hl) failed n enabled (cart ▸ digest)
    exact ⟨step n near, cart ▸ shows⟩
  · rintro m k other ⟨near, cart⟩
    exact ⟨step k near, (Lane.playbillAxis_apart failed n other).1.trans cart⟩
  · rintro m k other ⟨near, shows⟩
    obtain ⟨cart, sent⟩ := Lane.playbillAxis_apart (l := m) failed n other
    exact ⟨step k near, shows.keep cart sent fun event =>
      (apart (near.place hl) k).flag (by decide +kernel) (is_CT_EVT n.isLt) rfl event⟩

end

/-- A ticket to write the playbill is queued every ten minutes, one at a time (R545). -/
def Lane.askWrite (l : Lane) : Lane :=
  if l.since l.trust.playAt (ms 600000) ∧ !(l.box.queued.any fun t => t.work == .cartWrite) ∧
      (l.runningFor .cartWrite).isNone then
    (l.onTrust fun t => { t with playAt := l.now }).queueActivity .cartWrite 4 none
  else l

/-- The writes sold end. -/
def Lane.endWrites (l : Lane) (failed : BitVec 4) : Lane :=
  if (l.runningFor .cartWrite).isSome then (l.allAxes fun l n => l.playbillAxis failed n).endWork .cartWrite else l

theorem Lane.askWrite_of_early {l : Lane} (early : l.now < l.trust.playAt + ms 600000 ∨
    (∃ t ∈ l.box.queued, t.work = .cartWrite) ∨ l.runningFor .cartWrite ≠ none) : l.askWrite = l := if_neg (by
  rintro ⟨due, free, idle⟩
  rcases early with soon | ⟨t, mem, same⟩ | runs
  · exact absurd (of_decide_eq_true due) (Nat.not_le.2 soon)
  · have waits : (l.box.queued.any fun t => t.work == .cartWrite) = true :=
      List.any_eq_true.2 ⟨t, mem, beq_iff_eq.2 same⟩
    rw [waits] at free
    exact Bool.false_ne_true free
  · exact runs (Option.isNone_iff_eq_none.1 idle))

theorem Lane.askWrite_of_due {l : Lane} (due : l.trust.playAt + ms 600000 ≤ l.now)
    (free : ∀ t ∈ l.box.queued, t.work ≠ .cartWrite) (idle : l.runningFor .cartWrite = none) :
    l.askWrite = (l.onTrust fun t => { t with playAt := l.now }).queueActivity .cartWrite 4 none := if_pos (by
  refine ⟨decide_eq_true due, ?_, Option.isNone_iff_eq_none.2 idle⟩
  exact (Bool.not_eq_true' _).mpr (List.any_eq_false.2 fun t mem same => free t mem (beq_iff_eq.1 same)))

theorem Lane.endWrites_of_none {l : Lane} {failed : BitVec 4} (idle : l.runningFor .cartWrite = none) :
    l.endWrites failed = l := if_neg (by rw [idle]; decide)

theorem Lane.endWrites_of_some {l : Lane} {failed : BitVec 4} {x : Ticket} (running : l.runningFor .cartWrite = some x) :
    l.endWrites failed = (l.allAxes fun l n => l.playbillAxis failed n).endWork .cartWrite := if_pos (by rw [running]; rfl)

/-- A firmware activity that nobody asked for is refused when it is too dear, and queued last otherwise (R300, R305). -/
theorem Lane.queueActivity_effects {i : LaneId} {l : Lane} (hl : l.Sound i) (w : Work) (cls : Fin 9) :
    ∃ t : Ticket, t.work = w ∧ t.cost = firmwareCost cls ∧
      (l.tooDear t = true → (l.queueActivity w cls none).flag R.BX_EVT_TREFUSE = true ∧
        (l.queueActivity w cls none).box.queued = l.box.queued) ∧
      (l.tooDear t = false → (l.queueActivity w cls none).box.queued = l.box.queued ++ [t]) := by
  refine ⟨l.requestedTicket w (firmwareCost cls) (some (firmwareEngineOf cls)), rfl, rfl, fun dear => ?_, fun fair => ?_⟩
  · rw [Lane.queueActivity, Lane.queueTicket_of_tooDear dear]
    exact ⟨Lane.flag_raise (hl.onBox _).wf _ (by decide) rfl, rfl⟩
  · rw [Lane.queueActivity, Lane.queueTicket_of_fair none fair]
    rfl

/-- PLAYBILL_WRITE (R545). -/
theorem does_playbillWrite (e : At) (failed : Option (BitVec 4)) (s : State) (hs : s.Runs e) :
    Does (.playbillWrite e failed) s [.reg R.BX_STAT, .reg R.BX_EVT, .reg R.BX_DIECOM, .reg R.BX_TICK,
    .reg (R.BX_BRKLV 0), .reg R.BI_STAT, .reg (R.GD_LKCTL 0), .reg (R.CN_BCTL 0 0), .reg (R.CN_BDAT 0 0 0),
    .reg (R.CT_EVT 0), .reg R.HS_EVT, .reg R.HS_PORT, .reg R.HS_CNT1, .reg R.HS_CNT2, .reg R.HS_CNT3,
    .reg (R.HS_SLAST 0), .emit, .power, .seats, .trust, .reh, .box] fun l m =>
      (failed = none → l.now < l.trust.playAt + ms 600000 ∨ (∃ t ∈ l.box.queued, t.work = .cartWrite) ∨
        l.runningFor .cartWrite ≠ none → m = l) ∧
      (failed = none → l.trust.playAt + ms 600000 ≤ l.now → (∀ t ∈ l.box.queued, t.work ≠ .cartWrite) →
        l.runningFor .cartWrite = none → m.trust.playAt = l.now ∧ ∃ t : Ticket, t.work = .cartWrite ∧
          t.cost = firmwareCost 4 ∧
        (l.tooDear t = true → m.flag R.BX_EVT_TREFUSE = true ∧ m.box.queued = l.box.queued) ∧
        (l.tooDear t = false → m.box.queued = l.box.queued ++ [t])) ∧
      (∀ f, failed = some f → l.runningFor .cartWrite = none → m = l) ∧
      (∀ f x, failed = some f → l.runningFor .cartWrite = some x → ∀ n : Axis, l.bookEnables n = true →
        (l.cart n).digest ≠ none →
        (f.getLsbD n = false → (m.cart n).seq = (l.cart n).seq + 1 ∧
          (m.cart n).record = (l.cart n).life.floor.toNat ∧ (m.cart n).failures = 0 ∧
          ∃ b, Emission.playbill n b ∈ m.emit) ∧
        (f.getLsbD n = true → (m.cart n).failures = (l.cart n).failures + 1 ∧ (m.cart n).seq = (l.cart n).seq ∧
          (2 ≤ (l.cart n).failures → m.flag (R.CT_EVT_WRFAIL n) = true))) := by
  refine does_logic (f := fun l => match failed with | none => l.askWrite | some f => l.endWrites f) hs rfl
    execPlaybillWrite_event rfl (by decide +kernel) fun hl => ?_
  generalize s.before (.playbillWrite e failed) = l at hl
  cases failed with
  | none =>
    dsimp only
    refine ⟨fun _ early => Lane.askWrite_of_early early, fun _ due free idle => ?_, by rintro _ ⟨⟩, by rintro _ _ ⟨⟩⟩
    rw [Lane.askWrite_of_due due free idle]
    have place := hl.onTrust fun t => { t with playAt := l.now }
    have near : Lane.Near (allBut [500]) (l.onTrust fun t => { t with playAt := l.now })
        ((l.onTrust fun t => { t with playAt := l.now }).queueActivity .cartWrite 4 none) :=
      Lane.queueActivity_near (by decide +kernel) (.refl _ place)
    exact ⟨near.trust.playAt (by decide +kernel), Lane.queueActivity_effects place .cartWrite 4⟩
  | some f =>
    dsimp only
    refine ⟨by rintro ⟨⟩, by rintro ⟨⟩, ?_, ?_⟩
    · rintro f ⟨⟩ idle
      exact Lane.endWrites_of_none idle
    · rintro f x ⟨⟩ running n book digest
      obtain ⟨near, shows⟩ := Lane.playbillAxes_effects hl f n book digest
      rw [Lane.endWrites_of_some running]
      generalize l.allAxes _ = w at near shows
      have done : Lane.Near (allBut [297, 324, 322, 502]) w (w.endWork .cartWrite) :=
        Lane.endWork_near (by decide +kernel) (.refl _ (near.place hl))
      exact shows.keep (done.cart (by decide +kernel) n) (fun _ mem => (done.emit (by decide +kernel)).symm ▸ mem)
        fun event => done.flag (by decide +kernel) (is_CT_EVT n.isLt) rfl event

/-- Settles O56. -/
theorem cartridges : Obligations.Cartridges := by
  unfold Obligations.Cartridges
  exact ⟨does_cartridgeAuth, does_cartridgeAuthDone, does_playbillWrite⟩

end Sys2Proof.Machine

/-!
PROOFS. The seat port and CAN transfers (R464 to R469, R472, R477, R478).
-/

namespace Sys2Proof.Machine

-- one declaration at a time: each waits for the kernel, and a waiting one holds a thread and its stack
set_option Elab.async false

/-! ### Framing errors -/

section
variable {i : LaneId} {l : Lane} (hl : l.Sound i)
include hl

/-- A framing error is counted and shown (R466, R469). -/
theorem Lane.frameError_effects : l.frameError.flag R.HS_EVT_FRAME = true ∧
    l.frameError.get R.HS_CNT2_FRAME = min 65535 (l.get R.HS_CNT2_FRAME + 1) ∧ l.frameError.seats = l.seats := by
  refine ⟨Lane.flag_raise (hl.bump _).wf _ (by decide) rfl, ?_, rfl⟩
  exact (Lane.get_raise_elsewhere (f := R.HS_EVT_FRAME) (g := R.HS_CNT2_FRAME) _ ev_HS_EVT at_HS_CNT2.1).trans
    ((Lane.get_bump hl.wf R.HS_CNT2_FRAME (by decide)).trans (Nat.min_comm _ _))

/-- A packet too many is counted and shown (R466). -/
theorem Lane.overflow_effects : ((l.bump R.HS_CNT2_OVF).raise R.HS_EVT_OVF).flag R.HS_EVT_OVF = true ∧
    ((l.bump R.HS_CNT2_OVF).raise R.HS_EVT_OVF).get R.HS_CNT2_OVF = min 65535 (l.get R.HS_CNT2_OVF + 1) := by
  refine ⟨Lane.flag_raise (hl.bump _).wf _ (by decide) rfl, ?_⟩
  exact (Lane.get_raise_elsewhere (f := R.HS_EVT_OVF) (g := R.HS_CNT2_OVF) _ ev_HS_EVT at_HS_CNT2.1).trans
    ((Lane.get_bump hl.wf R.HS_CNT2_OVF (by decide)).trans (Nat.min_comm _ _))

/-- ATN_x shows a waiting reply, or a presentation to the seat of the port (R467, R503). -/
theorem Lane.flag_ATN_atn :
    l.atn.flag R.HS_PORT_ATN = (!l.seats.replies.isEmpty || l.presented (l.get R.HS_PORT_SEAT)) := by
  have seat : (l.put R.HS_PORT_RQ l.seats.replies.length).get R.HS_PORT_SEAT = l.get R.HS_PORT_SEAT := hl.get_put_apart _
  have pres : (l.put R.HS_PORT_RQ l.seats.replies.length).presented (l.get R.HS_PORT_SEAT) =
      l.presented (l.get R.HS_PORT_SEAT) :=
    Lane.flag_of_get (Lane.get_put_elsewhere (f := R.HS_PORT_RQ) (g := R.CB_PRES_VALID (l.get R.HS_PORT_SEAT)) _ _ at_HS_PORT.1
      (at_CB_PRES (l.get_lt R.HS_PORT_SEAT)).1)
  have shown := Lane.flag_putFlag (hl.put R.HS_PORT_RQ l.seats.replies.length).wf R.HS_PORT_ATN
    (!l.seats.replies.isEmpty || (l.put R.HS_PORT_RQ l.seats.replies.length).presented
      ((l.put R.HS_PORT_RQ l.seats.replies.length).get R.HS_PORT_SEAT)) (by decide) rfl
  exact shown.trans (by rw [seat, pres])

end

/-! ### READ, STATUS and other transactions of the seat port -/

/-- SEAT_READ (R466). -/
theorem does_seatRead (e : At) (whole : Bool) (s : State) (hs : s.Runs e) :
    Does (.seatRead e whole) s [.reg R.HS_PORT, .emit, .seats] fun l m =>
      (l.flag R.HS_PORT_EN = false → m = l) ∧
      (l.flag R.HS_PORT_EN = true → m.emit = .seatOut (portRead l.seats.replies.head?) :: l.emit ∧
        m.seats.replies = (if whole then l.seats.replies.tail else l.seats.replies)) ∧
      (l.flag R.HS_PORT_EN = true → whole = true →
        m.flag R.HS_PORT_ATN = (!l.seats.replies.tail.isEmpty || l.presented (l.get R.HS_PORT_SEAT))) := by
  refine does_logic hs rfl execSeatRead_event rfl (by decide +kernel) fun hl => ?_
  generalize s.before (.seatRead e whole) = l at hl
  refine ⟨fun off => if_pos (by rw [off]; rfl), fun on => ?_, fun on all => ?_⟩
  · rw [if_neg (by rw [on]; decide)]
    cases whole
    · exact ⟨rfl, rfl⟩
    · exact ⟨rfl, rfl⟩
  · subst all
    rw [if_neg (by rw [on]; decide)]
    exact Lane.flag_ATN_atn (l := (l.send (.seatOut (portRead l.seats.replies.head?))).onSeats fun q =>
      { q with replies := q.replies.tail }) hl

/-- The STATUS byte (R466): room in the buffers, and the replies that wait. -/
theorem statusByte_bits (waiting : Fin 3) (n : Nat) :
    (BitVec.ofNat 8 ((if waiting.val < 2 then 128 else 0) + 16 * min 7 n)).getLsbD 7 = decide (waiting.val < 2) ∧
      (BitVec.ofNat 8 ((if waiting.val < 2 then 128 else 0) + 16 * min 7 n)).toNat / 16 % 8 = min 7 n ∧
      (BitVec.ofNat 8 ((if waiting.val < 2 then 128 else 0) + 16 * min 7 n)).toNat % 16 = 0 := by
  have bits : ∀ (w : Fin 3) (k : Fin 8),
      (BitVec.ofNat 8 ((if w.val < 2 then 128 else 0) + 16 * k.val)).getLsbD 7 = decide (w.val < 2) ∧
      (BitVec.ofNat 8 ((if w.val < 2 then 128 else 0) + 16 * k.val)).toNat / 16 % 8 = k.val ∧
      (BitVec.ofNat 8 ((if w.val < 2 then 128 else 0) + 16 * k.val)).toNat % 16 = 0 := by decide
  exact bits waiting ⟨min 7 n, by omega⟩

/-- SEAT_STATUS (R466). -/
theorem does_seatStatus (e : At) (waiting : Fin 3) (s : State) (hs : s.Runs e) :
    Does (.seatStatus e waiting) s [.emit, .seats] fun l m =>
      (l.flag R.HS_PORT_EN = false → m = l) ∧
      (l.flag R.HS_PORT_EN = true → m.regs = l.regs ∧ m.seats.buffered = waiting.val ∧
        ∃ b : Byte, m.emit = .seatStatus [0, 0, b] :: l.emit ∧ b.getLsbD 7 = decide (waiting.val < 2) ∧
          b.toNat / 16 % 8 = min 7 l.seats.replies.length ∧ b.toNat % 16 = 0) := by
  refine does_logic hs rfl execSeatStatus_event rfl (by decide +kernel) fun hl => ?_
  generalize s.before (.seatStatus e waiting) = l at hl
  refine ⟨fun off => if_pos (by rw [off]; rfl), fun on => ?_⟩
  rw [if_neg (by rw [on]; decide)]
  exact ⟨rfl, rfl, _, rfl, statusByte_bits waiting _⟩

/-- SEAT_OTHER_TRANSACTION (R466). -/
theorem does_seatOtherTransaction (e : At) (s : State) (hs : s.Runs e) :
    Does (.seatOtherTransaction e) s [.reg R.HS_EVT, .reg R.HS_CNT2] fun l m =>
      (l.flag R.HS_PORT_EN = false → m = l) ∧
      (l.flag R.HS_PORT_EN = true → m.flag R.HS_EVT_FRAME = true ∧
        m.get R.HS_CNT2_FRAME = min 65535 (l.get R.HS_CNT2_FRAME + 1)) := by
  refine does_logic hs rfl execSeatOtherTransaction_event rfl (by decide +kernel) fun hl => ?_
  generalize s.before (.seatOtherTransaction e) = l at hl
  refine ⟨fun off => if_neg (by rw [off]; decide), fun on => ?_⟩
  obtain ⟨shown, counted, -⟩ := Lane.frameError_effects hl
  rw [if_pos on]
  exact ⟨shown, counted⟩

/-! ### Transfers on CAN (R469) -/

theorem Lane.transfers_setTransfer (l : Lane) (k : Seat) (t : Option CanTransfer) :
    (l.setTransfer k t).seats.transfers[k] = t := Vector.getElem_set_self k.isLt

theorem Lane.Sound.setTransfer {i : LaneId} {l : Lane} (hl : l.Sound i) (k : Seat) (t : Option CanTransfer) :
    (l.setTransfer k t).Sound i := hl.onSeats _

/-- A transfer given up is a framing error. -/
theorem Lane.dropTransfer_effects {i : LaneId} {l : Lane} (hl : l.Sound i) (k : Seat) :
    (l.setTransfer k none).frameError.seats.transfers[k] = none ∧
      (l.setTransfer k none).frameError.flag R.HS_EVT_FRAME = true ∧
      (l.setTransfer k none).frameError.get R.HS_CNT2_FRAME = min 65535 (l.get R.HS_CNT2_FRAME + 1) := by
  obtain ⟨shown, counted, seats⟩ := Lane.frameError_effects (hl.setTransfer k none)
  rw [seats]
  exact ⟨l.transfers_setTransfer k none, shown, counted⟩

/-- CAN_TRANSFER_TIMEOUT (R469). -/
theorem does_canTransferTimeout (e : At) (k : Seat) (s : State) (hs : s.Runs e) :
    Does (.canTransferTimeout e k) s [.reg R.HS_EVT, .reg R.HS_CNT2, .seats] fun l m =>
      (l.seats.transfers[k] = none → m = l) ∧
      (∀ t, l.seats.transfers[k] = some t → l.mode_.cycle < t.cycle + 8 → m = l) ∧
      (∀ t, l.seats.transfers[k] = some t → t.cycle + 8 ≤ l.mode_.cycle →
        m.seats.transfers[k] = none ∧ m.flag R.HS_EVT_FRAME = true ∧
        m.get R.HS_CNT2_FRAME = min 65535 (l.get R.HS_CNT2_FRAME + 1)) := by
  refine does_logic hs rfl execCanTransferTimeout_event rfl (by decide +kernel) fun hl => ?_
  generalize s.before (.canTransferTimeout e k) = l at hl
  refine ⟨fun none => ?_, fun t same early => ?_, fun t same late => ?_⟩
  · rw [none]
  · rw [same]
    exact if_neg (Nat.not_le.2 early)
  · rw [same]
    dsimp only
    rw [if_pos late]
    exact Lane.dropTransfer_effects hl k

/-- The packet of a completed transfer: its padding falls away. -/
def wholePacket (b : List Byte) (facts : PacketFacts) : Packet := readPacket ⟨b.take (packetLength b), facts⟩

section
variable {l : Lane} {k : Seat} {last : Bool} {index : Fin 64} {number : Byte} {pkt : PacketIn}

/-- A new first segment gives up an open transfer. -/
def Lane.restarted (l : Lane) (k : Seat) : Lane :=
  if l.seats.transfers[k].isSome then (l.setTransfer k none).frameError else l

theorem Lane.segment_of_first : l.segment k true last index number pkt =
    if index ≠ 0 then (l.restarted k).frameError
    else if last then (l.restarted k).checkPacket (wholePacket pkt.bytes pkt.facts) (.can k)
    else (l.restarted k).setTransfer k (some ⟨number.toNat, 1, (l.restarted k).mode_.cycle, pkt.bytes⟩) := rfl

theorem Lane.segment_of_stray (none : l.seats.transfers[k] = none) :
    l.segment k false last index number pkt = l.frameError := by
  unfold Lane.segment
  rw [none]
  rfl

theorem Lane.segment_of_open {t : CanTransfer} (open_ : l.seats.transfers[k] = some t) :
    l.segment k false last index number pkt =
      if t.number ≠ number.toNat ∨ t.next ≠ index.val then (l.setTransfer k none).frameError
      else if last then (l.setTransfer k none).checkPacket (wholePacket (t.data ++ pkt.bytes) pkt.facts) (.can k)
      else l.setTransfer k (some { t with next := t.next + 1, data := t.data ++ pkt.bytes }) := by
  unfold Lane.segment
  rw [open_]
  rfl

theorem Lane.restarted_effects {i : LaneId} (hl : l.Sound i) : (l.restarted k).Sound i ∧
    (l.restarted k).mode_ = l.mode_ ∧ (l.restarted k).seats.transfers[k] = none ∧
    (l.seats.transfers[k] = none → l.restarted k = l) ∧
    (l.seats.transfers[k] ≠ none → (l.restarted k).flag R.HS_EVT_FRAME = true) := by
  unfold Lane.restarted
  cases open_ : l.seats.transfers[k] with
  | none => exact ⟨hl, rfl, open_, fun _ => rfl, fun some => absurd rfl some⟩
  | some t =>
    obtain ⟨gone, shown, -⟩ := Lane.dropTransfer_effects hl k
    exact ⟨((hl.setTransfer k none).bump _).raise _, rfl, gone, fun none => absurd none (Option.some_ne_none t), fun _ => shown⟩

end

/-- CAN_SEGMENT (R469). -/
theorem does_canSegment (e : At) (k : Seat) (first last : Bool) (index : Fin 64) (number : Byte) (pkt : PacketIn) (s : State)
    (hs : s.Runs e) : Does (.canSegment e k first last index number pkt) s beatParts fun l m =>
      (l.flag (R.HS_SCAN_EN k) = false → m = l) ∧
      (l.flag (R.HS_SCAN_EN k) = true → first = true → index ≠ 0 →
        m.seats.transfers[k] = none ∧ m.flag R.HS_EVT_FRAME = true) ∧
      (l.flag (R.HS_SCAN_EN k) = true → first = true → index = 0 →
        last = false →
        m.seats.transfers[k] = some ⟨number.toNat, 1, l.mode_.cycle, pkt.bytes⟩ ∧
        (l.seats.transfers[k] ≠ none → m.flag R.HS_EVT_FRAME = true)) ∧
      (l.flag (R.HS_SCAN_EN k) = true → first = true → index = 0 →
        last = true → l.seats.transfers[k] = none →
        m = l.checkPacket (readPacket ⟨pkt.bytes.take (packetLength pkt.bytes), pkt.facts⟩) (.can k)) ∧
      (l.flag (R.HS_SCAN_EN k) = true → first = false → l.seats.transfers[k] = none →
        m.flag R.HS_EVT_FRAME = true) ∧
      (∀ t, l.flag (R.HS_SCAN_EN k) = true → first = false → l.seats.transfers[k] = some t →
        (t.number ≠ number.toNat ∨ t.next ≠ index.val →
          m.seats.transfers[k] = none ∧ m.flag R.HS_EVT_FRAME = true) ∧
        (t.number = number.toNat → t.next = index.val →
          (last = false → m.regs = l.regs ∧
            m.seats.transfers[k] = some { t with next := t.next + 1, data := t.data ++ pkt.bytes }) ∧
          (last = true → m = (l.setTransfer k none).checkPacket
            (readPacket ⟨(t.data ++ pkt.bytes).take (packetLength (t.data ++ pkt.bytes)), pkt.facts⟩) (.can k)))) := by
  refine does_logic hs rfl execCanSegment_event rfl (by decide +kernel) fun hl => ?_
  generalize s.before (.canSegment e k first last index number pkt) = l at hl
  refine ⟨fun off => if_neg (by rw [off]; decide), ?_⟩
  by_cases on : l.flag (R.HS_SCAN_EN k) = true
  · obtain ⟨place, mode, gone, same, shown⟩ := Lane.restarted_effects (k := k) hl
    rw [if_pos on]
    cases first
    · refine ⟨nofun, nofun, nofun, fun _ _ none => ?_, fun t _ _ open_ => ⟨fun odd => ?_, fun right next => ⟨?_, ?_⟩⟩⟩
      · rw [Lane.segment_of_stray none]
        exact (Lane.frameError_effects hl).1
      · obtain ⟨dropped, event, -⟩ := Lane.dropTransfer_effects hl k
        rw [Lane.segment_of_open open_, if_pos odd]
        exact ⟨dropped, event⟩
      · rintro rfl
        rw [Lane.segment_of_open open_, if_neg (by simp [right, next]), if_neg (by decide)]
        exact ⟨rfl, l.transfers_setTransfer k _⟩
      · rintro rfl
        rw [Lane.segment_of_open open_, if_neg (by simp [right, next]), if_pos rfl]
        rfl
    · rw [Lane.segment_of_first]
      refine ⟨fun _ _ odd => ?_, fun _ _ zero more => ?_, fun _ _ zero done none => ?_, nofun, nofun⟩
      · obtain ⟨event, -, seats⟩ := Lane.frameError_effects place
        rw [if_pos odd, seats]
        exact ⟨gone, event⟩
      · rw [if_neg (not_not.2 zero), if_neg (Bool.eq_false_iff.1 more), mode]
        exact ⟨Lane.transfers_setTransfer _ k _, shown⟩
      · rw [if_neg (not_not.2 zero), if_pos done, same none]
        rfl
  · exact ⟨fun h => absurd h on, fun h => absurd h on, fun h => absurd h on, fun h => absurd h on, fun _ h => absurd h on⟩

/-! ### The checks of a packet (R472) -/

/-- What the receipt of a packet at the port changes before its checks: HS_CNT0 and the packets buffered. -/
def receiptMask : Nat := 2 ^ 310 ||| 2 ^ 440

/-- A lane is OUT to its seats as before where its states, the strike and the ROM responder stay. -/
theorem Lane.Near.goneOut {M : Nat} {l x : Lane} (near : Lane.Near M l x)
    (free : M.testBit 2 = false ∧ M.testBit 426 = false ∧ M.testBit 497 = false) : x.goneOut = l.goneOut := by
  have state {f : Fld} (row : f.addr = R.LC_STATE) : x.get f = l.get f := near.keep (row ▸ at_LC_STATE.1) free.1
  unfold Lane.goneOut Lane.fromHold Lane.lstate
  rw [state (f := R.LC_STATE_LSTATE) rfl, state (f := R.LC_STATE_MSTATE) rfl, near.wing.struck free.2.1,
    near.trust.romResponder free.2.2]

section
variable {l x : Lane} (near : Lane.Near receiptMask l x)
include near

/-- The checks on receipt do not hang on the counter or on the buffers. -/
theorem Lane.Near.frontFails_port (p : Packet) : x.frontFails p .port = l.frontFails p .port := by
  have seat := p.hdr.seat.isLt
  have config {f : Fld} (row : f.addr = R.HS_SCFG p.hdr.seat) : x.get f = l.get f :=
    near.keep (row ▸ (at_HS_SCFG seat).1) (by decide +kernel)
  have sequence {f : Fld} (row : f.addr = R.HS_SSEQ p.hdr.seat) : x.get f = l.get f :=
    near.keep (row ▸ (at_HS_SSEQ seat).1) (by decide +kernel)
  have port {f : Fld} (row : f.addr = R.HS_PORT) : x.get f = l.get f := near.keep (row ▸ at_HS_PORT.1) (by decide +kernel)
  have session : x.word (R.HS_SSES p.hdr.seat) = l.word (R.HS_SSES p.hdr.seat) :=
    near.word _ (by rw [(at_HS_SSES seat).1]; decide +kernel)
  have cabs : x.get R.LC_STATE_CABS = l.get R.LC_STATE_CABS := near.keep at_LC_STATE.1 (by decide +kernel)
  have serves : x.serves p.hdr.seat .port = l.serves p.hdr.seat .port := by
    unfold Lane.serves Lane.flag
    rw [config (f := R.HS_SCFG_DEF p.hdr.seat) rfl, port (f := R.HS_PORT_EN) rfl, port (f := R.HS_PORT_SEAT) rfl]
  have inside : x.inSession p.hdr = l.inSession p.hdr := by
    unfold Lane.inSession Lane.flag
    rw [sequence (f := R.HS_SSEQ_OPEN p.hdr.seat) rfl, sequence (f := R.HS_SSEQ_EXH p.hdr.seat) rfl, session]
  have absent : x.flag R.LC_STATE_CABS = l.flag R.LC_STATE_CABS := Lane.flag_of_get cabs
  unfold Lane.frontFails
  dsimp only
  rw [serves, inside, absent, config (f := R.HS_SCFG_MAXCLS p.hdr.seat) rfl]

theorem Lane.Near.sequenceFails (h : Hdr) : x.sequenceFails h = l.sequenceFails h := by
  have sequence {f : Fld} (row : f.addr = R.HS_SSEQ h.seat) : x.get f = l.get f :=
    near.keep (row ▸ (at_HS_SSEQ h.seat.isLt).1) (by decide +kernel)
  unfold Lane.sequenceFails Lane.flag
  rw [sequence (f := R.HS_SSEQ_EXH h.seat) rfl, sequence (f := R.HS_SSEQ_LASTSEQ h.seat) rfl,
    near.seats.sequenced (by decide +kernel)]

theorem Lane.Near.duplicate (fp : BitVec 64) : x.duplicate fp = l.duplicate fp := by
  unfold Lane.duplicate
  rw [near.seats.seen (by decide +kernel), near.now]

end

section
variable {i : LaneId} {l : Lane} {h : Hdr} {path : Option Path} {op : Op} (hl : l.Sound i)
include hl

/-- No opcode but WRITE_REG changes HS_CNT0. -/
theorem Lane.near_runOp_of_ne (other : ∀ a c ws, op ≠ .writeReg a c ws) : Lane.Near (allBut [310]) l (l.runOp h path op) := by
  delta Lane.runOp
  split
  · exact Lane.sessionOpen_near (by decide +kernel) (.refl _ hl)
  · exact Lane.sessionClose_near (by decide +kernel) (.refl _ hl)
  · exact Lane.ping_near (by decide +kernel) (.refl _ hl)
  · exact Lane.readReg_near (by decide +kernel) (.refl _ hl)
  · exact absurd rfl (other _ _ _)
  · exact Lane.spotRequest_near (by decide +kernel) (.refl _ hl)
  · exact Lane.spotRenew_near (by decide +kernel) (.refl _ hl)
  · exact Lane.spotRelease_near (by decide +kernel) (.refl _ hl)
  · exact Lane.spotQuery_near (by decide +kernel) (.refl _ hl)
  · exact Lane.arm_near (by decide +kernel) (.refl _ hl)
  · exact Lane.performOp_near (by decide +kernel) (.refl _ hl)
  · exact Lane.setpoint_near (by decide +kernel) (.refl _ hl)
  · exact Lane.disarm_near (by decide +kernel) (.refl _ hl)
  · exact Lane.stopCommand_near (by decide +kernel) (.refl _ hl)
  · exact Lane.workshopEnter_near (by decide +kernel) (.refl _ hl)
  · exact Lane.workshopLeave_near (by decide +kernel) (.refl _ hl)
  · exact Lane.pbStatus_near (by decide +kernel) (.refl _ hl)
  · exact Lane.loadBegin_near (by decide +kernel) (.refl _ hl)
  · exact Lane.loadData_near (by decide +kernel) (.refl _ hl)
  · exact Lane.pbLoadEnd_near (by decide +kernel) (.refl _ hl)
  · exact Lane.pbActivate_near (by decide +kernel) (.refl _ hl)
  · exact Lane.pbAbort_near (by decide +kernel) (.refl _ hl)
  · exact Lane.rehReport_near (by decide +kernel) (.refl _ hl)
  · exact Lane.rehRerun_near (by decide +kernel) (.refl _ hl)
  · exact Lane.rehTask_near (by decide +kernel) (.refl _ hl)
  · exact Lane.logInfo_near (by decide +kernel) (.refl _ hl)
  · exact Lane.logRead_near (by decide +kernel) (.refl _ hl)
  · exact Lane.logMark_near (by decide +kernel) (.refl _ hl)
  · exact Lane.timeRead_near (by decide +kernel) (.refl _ hl)
  · exact Lane.timeEcho_near (by decide +kernel) (.refl _ hl)
  · exact Lane.idInfo_near (by decide +kernel) (.refl _ hl)
  · exact Lane.idCert_near (by decide +kernel) (.refl _ hl)
  · exact Lane.attest_near (by decide +kernel) (.refl _ hl)
  · exact Lane.fwStatus_near (by decide +kernel) (.refl _ hl)
  · exact Lane.loadBegin_near (by decide +kernel) (.refl _ hl)
  · exact Lane.loadData_near (by decide +kernel) (.refl _ hl)
  · exact Lane.fwLoadEnd_near (by decide +kernel) (.refl _ hl)
  · exact Lane.fwRestart_near (by decide +kernel) (.refl _ hl)
  · exact Lane.fwCommit_near (by decide +kernel) (.refl _ hl)
  · exact Lane.confirmCheck_near (by decide +kernel) (.refl _ hl)
  · exact Lane.cartAccept_near (by decide +kernel) (.refl _ hl)
  · exact Lane.lifeAckOp_near (by decide +kernel) (.refl _ hl)
  · exact Lane.safetyStatus_near (by decide +kernel) (.refl _ hl)

omit hl in
/-- WRITE_REG is neither an opcode of the lane alone nor one of the ROM responder. -/
theorem ne_writeReg_of_own (own : (opLocal op || opInRom op) = true) (a : Nat) (c : Nat) (ws : List Word) :
    op ≠ .writeReg a c ws := by
  rintro rfl
  have code : opCode (.writeReg a c ws) = 0x0102 := rfl
  have local_ : opLocal (.writeReg a c ws) = false := rfl
  rw [local_, opInRom, code] at own
  exact absurd own (by decide)

/-- An opcode leaves HS_CNT0 as it is where a lane executes only opcodes of its own or of the ROM responder. -/
theorem Lane.near_perform_of_own (own : l.opRefused h op = none → (opLocal op || opInRom op) = true) :
    Lane.Near (allBut [310]) l (l.perform h path op) := by
  have step : Lane.Near (allBut [310]) l (l.when (!opLocal op) fun l => l.bump R.HS_CNT3_EXEC) :=
    Lane.when_near (.refl _ hl) fun _ near => Lane.bump_near (inReg at_HS_CNT3 (by decide +kernel)) near
  have refused : (l.when (!opLocal op) fun l => l.bump R.HS_CNT3_EXEC).opRefused h op = l.opRefused h op := by
    cases opLocal op
    · exact l.opRefused_counted h op
    · rfl
  unfold Lane.perform
  dsimp only
  rw [refused]
  generalize l.when (!opLocal op) (fun l => l.bump R.HS_CNT3_EXEC) = x at step
  refine Lane.near_ite (Lane.notAddressed_near (by decide +kernel) (.refl _ hl)) ?_
  cases free : l.opRefused h op with
  | some st =>
    exact Lane.near_ite (Lane.refuseMode_near (by decide +kernel) step) (Lane.answer_near (by decide +kernel) step)
  | none => exact step.trans (Lane.near_runOp_of_ne (step.place hl) (ne_writeReg_of_own (own free)))

theorem Lane.near_perform_of_rom (rom : l.trust.romResponder = true) : Lane.Near (allBut [310]) l (l.perform h path op) := by
  refine Lane.near_perform_of_own hl fun free => ?_
  rw [Lane.opRefused_of_rom rom] at free
  cases inRom : opInRom op with
  | true => rw [Bool.or_true]
  | false =>
    rw [inRom] at free
    exact nomatch free

/-- No packet taken changes HS_CNT0: WRITE_REG is held until it is agreed. -/
theorem Lane.near_takePacket (p : Packet) (op : Op) (path : Path) : Lane.Near (allBut [310]) l (l.takePacket p op path) := by
  unfold Lane.takePacket
  dsimp only
  split
  next rom => exact Lane.near_perform_of_rom hl rom
  next firmware =>
    have forwards : Lane.Near (allBut [310]) l (l.when (path != .wing && !l.goneOut) fun l =>
        (commandSegments p).foldl (fun l f => l.sendBoth f) l) :=
      Lane.when_near (.refl _ hl) fun _ near => Lane.near_foldl (fun _ _ _ g => Lane.sendBoth_near (by decide +kernel) g) near
    generalize l.when (path != .wing && !l.goneOut) _ = x at forwards
    split
    next own => exact forwards.trans (Lane.near_perform_of_own (forwards.place hl) fun _ => by rw [own]; rfl)
    next agreed =>
      exact Lane.near_ite (Lane.near_ite (Lane.answer_near (by decide +kernel) forwards) forwards)
        (Lane.holdCommand_near (by decide +kernel) forwards)

end

/-- The checks after the CRC and its count (R472 from step 2). -/
def Lane.judgePacket (l : Lane) (p : Packet) (path : Path) : Lane :=
  match p.op with
  | some op =>
    if path = .wing ∧ (opLocal op ∨ l.goneOut) then l
    else
      match l.frontFails p path with
      | some st => l.packetFails p.hdr path st false
      | none =>
        if !opLocal op ∧ !l.trust.romResponder ∧ l.duplicate p.hdr.fp then l.secondCopy p.hdr path
        else
          match l.sequenceFails p.hdr with
          | some st => l.packetFails p.hdr path st (decide (0 < p.hdr.cls))
          | none =>
            if opFits op p.hdr.len then (l.acceptSequence p.hdr).takePacket p op path
            else (l.acceptSequence p.hdr).packetFails p.hdr path (.format 1) (decide (0 < p.hdr.cls))
  | none =>
    match l.frontFails p path with
    | some st => l.packetFails p.hdr path st false
    | none => l

theorem Lane.checkPacket_of_bad {l : Lane} {p : Packet} {path : Path} (bad : p.crcOk = false) :
    l.checkPacket p path = l.bump R.HS_CNT0_CRC := if_pos (by rw [bad]; rfl)

theorem Lane.checkPacket_of_good {l : Lane} {p : Packet} {path : Path} (good : p.crcOk = true) :
    l.checkPacket p path = (l.bump R.HS_CNT0_RXOK).judgePacket p path := if_neg (by rw [good]; decide)

section
variable {l : Lane} {p : Packet} {op : Op}

theorem Lane.judgePacket_of_failed {st : Status} (failed : l.frontFails p .port = some st) :
    l.judgePacket p .port = l.packetFails p.hdr .port st false := by
  unfold Lane.judgePacket
  rw [failed]
  cases p.op with
  | none => rfl
  | some op => exact if_neg fun wing => nomatch wing.1

/-- A packet that passes the checks of its front is a second copy, or goes on to the check of its sequence. -/
theorem Lane.judgePacket_of_passed (is : p.op = some op) (passed : l.frontFails p .port = none) :
    l.judgePacket p .port =
      if !opLocal op ∧ !l.trust.romResponder ∧ l.duplicate p.hdr.fp then l.secondCopy p.hdr .port
      else
        match l.sequenceFails p.hdr with
        | some st => l.packetFails p.hdr .port st (decide (0 < p.hdr.cls))
        | none =>
          if opFits op p.hdr.len then (l.acceptSequence p.hdr).takePacket p op .port
          else (l.acceptSequence p.hdr).packetFails p.hdr .port (.format 1) (decide (0 < p.hdr.cls)) := by
  unfold Lane.judgePacket
  rw [is, passed]
  exact if_neg fun wing => nomatch wing.1

/-- The judgement of a packet leaves HS_CNT0. -/
theorem Lane.near_judgePacket {i : LaneId} (hl : l.Sound i) : Lane.Near (allBut [310]) l (l.judgePacket p .port) := by
  have fails {m : Lane} (near : Lane.Near (allBut [310]) l m) (st : Status) (tagged : Bool) :
      Lane.Near (allBut [310]) l (m.packetFails p.hdr .port st tagged) := Lane.packetFails_near (by decide +kernel) near
  cases front : l.frontFails p .port with
  | some st =>
    rw [Lane.judgePacket_of_failed front]
    exact fails (.refl _ hl) st false
  | none =>
    cases is : p.op with
    | none =>
      unfold Lane.judgePacket
      rw [is, front]
      exact .refl _ hl
    | some op =>
      have accepted : Lane.Near (allBut [310]) l (l.acceptSequence p.hdr) :=
        Lane.acceptSequence_near (by decide +kernel) (.refl _ hl)
      rw [Lane.judgePacket_of_passed is front]
      refine Lane.near_ite (Lane.secondCopy_near (by decide +kernel) (.refl _ hl)) ?_
      cases l.sequenceFails p.hdr with
      | some st => exact fails (.refl _ hl) st _
      | none =>
        exact Lane.near_ite (accepted.trans (Lane.near_takePacket (accepted.place hl) p op .port)) (fails accepted _ _)

end

/-! ### What a failure answers (R471, R472, R477) -/

/-- The reply to a packet of the port that fails a check of its front carries no tag, as to class 0. -/
theorem answered_reply_port {i : LaneId} {l m : Lane} (hm : m.Sound i) (id : m.id = l.id)
    (replies : m.seats.replies = l.seats.replies) (ring : m.seats.ringReplies = l.seats.ringReplies) (h : Hdr) (st : Status) :
    Answered l (m.reply h (some .port) st [] false) { h with cls := 0 } (some .port) st [] := by
  have counted := Lane.seats_countReply m h st
  have sends (sent : h.noReply = false ∨ st.cls ≠ 0) : m.reply h (some .port) st [] false =
      (m.countReply h st).queueReply (some .port) (m.mkReply h st [] false) := Lane.sendReply_of_sent nofun sent
  refine ⟨fun quiet => ?_, fun sent => ⟨m.mkReply h st [] false, ⟨id, rfl, rfl, rfl, rfl, rfl, rfl, rfl, rfl⟩, ?_, ?_, nofun⟩⟩
  · rw [show m.reply h (some .port) st [] false = m from Lane.sendReply_of_quiet quiet]
    exact ⟨replies, ring⟩
  · intro _ room
    rw [sends sent, Lane.replies_queueReply_port _ (by rw [counted, replies]; exact room), counted, replies]
  · intro _ full
    obtain ⟨same, lost⟩ := Lane.queueReply_full (hm.countReply h st) (m.mkReply h st [] false)
      (by rw [counted, replies]; exact full)
    rw [sends sent]
    exact ⟨same.trans (by rw [counted, replies]), lost⟩

section
variable {i : LaneId} {l : Lane} (hl : l.Sound i)
include hl

/-- A failed check of the front is answered untagged, after the lane has shown a failure of authentication. -/
theorem answered_packetFails_port {k : Lane} (id : l.id = k.id) (replies : l.seats.replies = k.seats.replies)
    (ring : l.seats.ringReplies = k.seats.ringReplies) (h : Hdr) (st : Status) :
    Answered k (l.packetFails h .port st false) { h with cls := 0 } (some .port) st [] := by
  have shown : Lane.Near (allBut (List.range' 440 19)) l (l.when (st.cls == 7) fun l => l.authFail h.seat st.detail) :=
    Lane.when_near (.refl _ hl) fun _ near => Lane.authFail_near (by decide +kernel) near
  have kept : (l.when (st.cls == 7) fun l => l.authFail h.seat st.detail).seats = l.seats :=
    shown.seats.eq (by decide +kernel)
  exact answered_reply_port (shown.place hl) (shown.id.trans id) (by rw [kept, replies]) (by rw [kept, ring]) h st

/-! ### Second copies (R478) -/

/-- Counting a reply leaves the count of second copies, which stands in the register of the BUSY count. -/
theorem Lane.get_DUP_countReply (h : Hdr) (st : Status) : (l.countReply h st).get R.HS_CNT1_DUP = l.get R.HS_CNT1_DUP := by
  have busy : (l.when (st.cls == 1) fun l => l.bump R.HS_CNT1_BUSY).Sound i ∧
      (l.when (st.cls == 1) fun l => l.bump R.HS_CNT1_BUSY).get R.HS_CNT1_DUP = l.get R.HS_CNT1_DUP := by
    cases st.cls == 1
    · exact ⟨hl, rfl⟩
    · exact ⟨hl.bump _, hl.get_bump_apart⟩
  unfold Lane.countReply
  dsimp only
  obtain ⟨place, same⟩ := busy
  generalize l.when (st.cls == 1) (fun l => l.bump R.HS_CNT1_BUSY) = x at place same
  have near : Lane.Near (allBut [311]) x
      ((((x.when (st.cls != 0 && st.cls != 1) fun l => l.bump R.HS_CNT3_REFUSED).put (R.HS_SLAST_CLASS h.seat) st.cls).put
        (R.HS_SLAST_DETAIL h.seat) st.detail).put (R.HS_SLAST_OPCODE h.seat) h.opcode) := by
    refine Lane.put_near (inReg (at_HS_SLAST h.seat.isLt) (by decide +kernel)) (Lane.put_near (inReg (at_HS_SLAST h.seat.isLt)
      (by decide +kernel)) (Lane.put_near (inReg (at_HS_SLAST h.seat.isLt) (by decide +kernel)) ?_))
    exact Lane.when_near (.refl _ place) fun _ near => Lane.bump_near (inReg at_HS_CNT3 (by decide +kernel)) near
  exact (near.keep at_HS_CNT1.1 (by decide +kernel)).trans same

/-- Replies leave the count of second copies. -/
theorem Lane.get_DUP_sendReply (h : Hdr) (path : Option Path) (r : Reply) :
    (l.sendReply h path r).get R.HS_CNT1_DUP = l.get R.HS_CNT1_DUP := by
  have queued : ((l.countReply h ⟨r.cls, r.detail⟩).queueReply path r).get R.HS_CNT1_DUP = l.get R.HS_CNT1_DUP :=
    ((Lane.queueReply_near (M := allBut [311]) (by decide +kernel) (.refl _ (hl.countReply h _))).keep at_HS_CNT1.1
      (by decide +kernel)).trans (Lane.get_DUP_countReply hl h _)
  unfold Lane.sendReply
  split
  · rfl
  · split
    · rfl
    · rfl
    · exact queued

theorem Lane.get_DUP_secondCopy (h : Hdr) (path : Path) :
    (l.secondCopy h path).get R.HS_CNT1_DUP = min 255 (l.get R.HS_CNT1_DUP + 1) := by
  have counted : (l.bump R.HS_CNT1_DUP).get R.HS_CNT1_DUP = min 255 (l.get R.HS_CNT1_DUP + 1) :=
    (Lane.get_bump hl.wf R.HS_CNT1_DUP (by decide)).trans (Nat.min_comm _ _)
  have place := hl.bump R.HS_CNT1_DUP
  unfold Lane.secondCopy
  dsimp only
  generalize l.bump R.HS_CNT1_DUP = x at counted place
  split
  · exact (Lane.get_DUP_sendReply (place.onWing _) h _ _).trans counted
  · exact counted

/-! ### Held commands (R264, R265) -/

/-- Listing a command leaves its packet, its path and the moment of its receipt. -/
theorem Lane.pending_listCommands {q : Pending} (mem : q ∈ l.wing.pending) :
    ∃ r ∈ (l.listCommands).sendSummary.wing.pending, r.pkt = q.pkt ∧ r.path = q.path ∧ r.heldAt = q.heldAt := by
  have place : l.listCommands.Sound i := hl.onWing _
  have sent : Lane.Near (allBut [401]) l.listCommands (l.listCommands).sendSummary :=
    Lane.sendSummary_near (by decide +kernel) (.refl _ place)
  rw [sent.wing.pending (by decide +kernel)]
  refine ⟨_, List.mem_map_of_mem mem, ?_⟩
  split
  · exact ⟨rfl, rfl, rfl⟩
  · exact ⟨rfl, rfl, rfl⟩

/-- The lane with a copy of an agreed opcode held. -/
def Lane.withHeld (l : Lane) (p : Packet) (path : Path) : Lane :=
  ((l.markSeen p.hdr.fp).onWing fun w => { w with pending := w.pending ++ [⟨p, directPath path, l.now, none⟩] }).showPending

omit hl in
theorem Lane.holdCommand_eq (p : Packet) (path : Path) : l.holdCommand p path =
    (l.withHeld p path).when (l.withHeld p path).beforeSummary fun l => (l.listCommands).sendSummary := rfl

/-- A command held is pending with the path of its direct copy and the moment of its receipt. -/
theorem Lane.pending_holdCommand (p : Packet) (path : Path) :
    ∃ q ∈ (l.holdCommand p path).wing.pending, q.pkt = p ∧ q.path = directPath path ∧ q.heldAt = l.now := by
  have held : Pending.mk p (directPath path) l.now none ∈ (l.withHeld p path).wing.pending :=
    List.mem_append_right l.wing.pending List.mem_cons_self
  have place : (l.withHeld p path).Sound i := ((hl.onSeats _).onWing _).put _ _
  rw [Lane.holdCommand_eq]
  generalize l.withHeld p path = x at held place
  cases x.beforeSummary
  · exact ⟨_, held, rfl, rfl, rfl⟩
  · exact Lane.pending_listCommands place held

/-- A lane in its firmware that has not gone OUT forwards a direct copy of an agreed opcode, and holds it. -/
theorem Lane.pending_takePacket {p : Packet} {op : Op} (agreed : opLocal op = false) (firmware : l.trust.romResponder = false)
    (inside : l.goneOut = false) :
    ∃ q ∈ (l.takePacket p op .port).wing.pending, q.pkt = p ∧ q.path = some .port ∧ q.heldAt = l.now := by
  have forwards : Lane.Near (allBut [2, 497, 426]) l (l.when (Path.port != .wing && !l.goneOut) fun l =>
      (commandSegments p).foldl (fun l f => l.sendBoth f) l) :=
    Lane.when_near (.refl _ hl) fun _ near => Lane.near_foldl (fun _ _ _ g => Lane.sendBoth_near (by decide +kernel) g) near
  unfold Lane.takePacket
  dsimp only
  rw [if_neg (by rw [firmware]; decide), if_neg (by rw [agreed]; decide)]
  generalize l.when (Path.port != .wing && !l.goneOut) _ = x at forwards
  rw [if_neg (by rw [forwards.goneOut (by decide +kernel), inside]; decide)]
  obtain ⟨q, mem, pkt, path, at_⟩ := Lane.pending_holdCommand (forwards.place hl) p .port
  exact ⟨q, mem, pkt, path, at_.trans forwards.now⟩

end

/-! ### WRITE transactions of the seat port -/

/-- The lane with a packet of the port buffered. -/
def Lane.buffering (l : Lane) (n : Nat) : Lane := l.onSeats fun q => { q with buffered := n }

section
variable {i : LaneId} {l : Lane} (hl : l.Sound i)
include hl

theorem Lane.Sound.buffering (n : Nat) : (l.buffering n).Sound i := hl.onSeats _

/-- A packet of the port whose CRC is right goes to judgement with its receipt counted. -/
theorem Lane.near_received (n : Nat) : Lane.Near receiptMask l ((l.buffering n).bump R.HS_CNT0_RXOK) :=
  Lane.bump_near (inReg at_HS_CNT0 (by decide +kernel))
    (Lane.onSeats_near (f := _) (SeatState.Near.mk (not_bit (by decide +kernel)) kp kp kp kp kp kp kp kp kp kp kp kp kp kp kp kp kp kp) (.refl _ hl))

/-- No judgement of a packet changes the packets buffered. -/
theorem Lane.buffered_checkPacket (p : Packet) (path : Path) : (l.checkPacket p path).seats.buffered = l.seats.buffered :=
  (Lane.checkPacket_near (M := allBut [440]) (by decide +kernel) (.refl _ hl)).seats.buffered (by decide +kernel)

/-- What becomes of a packet of the port whose CRC is right (R466, R472). -/
theorem Lane.received_effects (n : Nat) (p : Packet) (good : p.crcOk = true) :
    ((l.buffering n).checkPacket p .port).get R.HS_CNT0_RXOK = min 65535 (l.get R.HS_CNT0_RXOK + 1) ∧
      (∀ st, l.frontFails p .port = some st →
        Answered l ((l.buffering n).checkPacket p .port) { p.hdr with cls := 0 } (some .port) st []) ∧
      (∀ op, p.op = some op → l.frontFails p .port = none → opLocal op = false → l.trust.romResponder = false →
        l.goneOut = false → l.duplicate p.hdr.fp = false → l.sequenceFails p.hdr = none → opFits op p.hdr.len = true →
        ∃ q ∈ ((l.buffering n).checkPacket p .port).wing.pending, q.pkt = p ∧ q.path = some .port ∧ q.heldAt = l.now) ∧
      (∀ op, p.op = some op → l.frontFails p .port = none → opLocal op = false → l.trust.romResponder = false →
        l.duplicate p.hdr.fp = true →
        ((l.buffering n).checkPacket p .port).get R.HS_CNT1_DUP = min 255 (l.get R.HS_CNT1_DUP + 1)) := by
  have near := Lane.near_received hl n
  have counted : ((l.buffering n).bump R.HS_CNT0_RXOK).get R.HS_CNT0_RXOK = min 65535 (l.get R.HS_CNT0_RXOK + 1) :=
    (Lane.get_bump (hl.buffering n).wf R.HS_CNT0_RXOK (by decide)).trans (Nat.min_comm _ _)
  rw [Lane.checkPacket_of_good good]
  have place := near.place hl
  generalize (l.buffering n).bump R.HS_CNT0_RXOK = x at near counted place
  refine ⟨?_, fun st failed => ?_, fun op is passed agreed firmware inside new inOrder fits => ?_,
    fun op is passed agreed firmware second => ?_⟩
  · exact ((Lane.near_judgePacket place).keep at_HS_CNT0.1 (by decide +kernel)).trans counted
  · rw [Lane.judgePacket_of_failed (near.frontFails_port p ▸ failed)]
    exact answered_packetFails_port place near.id (near.seats.replies (by decide +kernel))
      (near.seats.ringReplies (by decide +kernel)) p.hdr st
  · have accepted : Lane.Near (allBut [2, 426, 497]) x (x.acceptSequence p.hdr) :=
      Lane.acceptSequence_near (by decide +kernel) (.refl _ place)
    have first : ¬((!opLocal op) = true ∧ (!x.trust.romResponder) = true ∧ x.duplicate p.hdr.fp = true) := by
      rw [near.duplicate, new]
      exact fun second => nomatch second.2.2
    rw [Lane.judgePacket_of_passed is (near.frontFails_port p ▸ passed), if_neg first, near.sequenceFails, inOrder]
    dsimp only
    rw [if_pos fits]
    obtain ⟨q, mem, pkt, path, at_⟩ := Lane.pending_takePacket (p := p) (accepted.place place) agreed
      (by rw [accepted.trust.romResponder (by decide +kernel), near.trust.romResponder (by decide +kernel), firmware])
      (by rw [accepted.goneOut (by decide +kernel), near.goneOut (by decide +kernel), inside])
    exact ⟨q, mem, pkt, path, at_.trans (accepted.now.trans near.now)⟩
  · have again : (!opLocal op) = true ∧ (!x.trust.romResponder) = true ∧ x.duplicate p.hdr.fp = true := by
      rw [agreed, near.trust.romResponder (by decide +kernel), firmware, near.duplicate]
      exact ⟨rfl, rfl, second⟩
    rw [Lane.judgePacket_of_passed is (near.frontFails_port p ▸ passed), if_pos again, Lane.get_DUP_secondCopy place,
      near.keep at_HS_CNT1.1 (by decide +kernel)]

end

/-- SEAT_WRITE (R466). -/
theorem does_seatWrite (e : At) (waiting : Fin 3) (pkt : PacketIn) (s : State) (hs : s.Runs e) :
    Does (.seatWrite e waiting pkt.bytes pkt.facts) s beatParts fun l m =>
      (l.flag R.HS_PORT_EN = false → m = l) ∧
      (l.flag R.HS_PORT_EN = true → pkt.bytes.length ≠ packetLength pkt.bytes →
        m.flag R.HS_EVT_FRAME = true ∧ m.get R.HS_CNT2_FRAME = min 65535 (l.get R.HS_CNT2_FRAME + 1) ∧
          m.seats = l.seats) ∧
      (l.flag R.HS_PORT_EN = true → pkt.bytes.length = packetLength pkt.bytes → waiting = 2 →
        m.flag R.HS_EVT_OVF = true ∧ m.get R.HS_CNT2_OVF = min 65535 (l.get R.HS_CNT2_OVF + 1) ∧ m.seats = l.seats) ∧
      (l.flag R.HS_PORT_EN = true → pkt.bytes.length = packetLength pkt.bytes → waiting ≠ 2 →
        m.seats.buffered = waiting.val + 1 ∧
        (packetCrcOk pkt.bytes = false → m.get R.HS_CNT0_CRC = min 65535 (l.get R.HS_CNT0_CRC + 1) ∧
          m.seats.replies = l.seats.replies) ∧
        (packetCrcOk pkt.bytes = true → m.get R.HS_CNT0_RXOK = min 65535 (l.get R.HS_CNT0_RXOK + 1)) ∧
        (packetCrcOk pkt.bytes = true → ∀ st, l.frontFails (readPacket pkt) .port = some st →
          Answered l m { (readHdr pkt.bytes) with cls := 0 } (some .port) st []) ∧
        (∀ op, packetCrcOk pkt.bytes = true → (readPacket pkt).op = some op →
          l.frontFails (readPacket pkt) .port = none →
          opLocal op = false → l.trust.romResponder = false → l.goneOut = false →
            l.duplicate (readHdr pkt.bytes).fp = false →
          l.sequenceFails (readHdr pkt.bytes) = none → opFits op (readHdr pkt.bytes).len = true →
          ∃ q ∈ m.wing.pending, q.pkt = readPacket pkt ∧ q.path = some .port ∧ q.heldAt = l.now) ∧
        (∀ op, packetCrcOk pkt.bytes = true → (readPacket pkt).op = some op →
          l.frontFails (readPacket pkt) .port = none →
          opLocal op = false → l.trust.romResponder = false → l.duplicate (readHdr pkt.bytes).fp = true →
          m.get R.HS_CNT1_DUP = min 255 (l.get R.HS_CNT1_DUP + 1))) := by
  refine does_logic hs rfl execSeatWrite_event rfl (by decide +kernel) fun hl => ?_
  generalize s.before (.seatWrite e waiting pkt.bytes pkt.facts) = l at hl
  refine ⟨fun off => if_pos (by rw [off]; rfl), fun on odd => ?_, fun on whole full => ?_, fun on whole room => ?_⟩
  · rw [if_neg (by rw [on]; decide), if_pos odd]
    exact Lane.frameError_effects hl
  · obtain ⟨shown, counted⟩ := Lane.overflow_effects hl
    rw [if_neg (by rw [on]; decide), if_neg (not_not.2 whole), if_pos full]
    exact ⟨shown, counted, rfl⟩
  · rw [if_neg (by rw [on]; decide), if_neg (not_not.2 whole), if_neg room]
    refine ⟨Lane.buffered_checkPacket (hl.buffering (waiting.val + 1)) (readPacket pkt) .port, fun bad => ?_, fun good => ?_,
      fun good => ?_, fun op good => ?_, fun op good => ?_⟩
    · rw [Lane.checkPacket_of_bad bad]
      exact ⟨(Lane.get_bump (hl.buffering _).wf R.HS_CNT0_CRC (by decide)).trans (Nat.min_comm _ _), rfl⟩
    all_goals obtain ⟨counted, failed, held, second⟩ := Lane.received_effects hl (waiting.val + 1) (readPacket pkt) good
    · exact counted
    · exact failed
    · exact held op
    · exact second op

/-- Settles O44. -/
theorem seatPaths : Obligations.SeatPaths := by
  unfold Obligations.SeatPaths
  exact ⟨does_seatWrite, does_seatRead, does_seatStatus, does_seatOtherTransaction, does_canSegment, does_canTransferTimeout⟩

end Sys2Proof.Machine

/-!
PROOFS. The Virec ring: ports, HELLO, cold start and joining (R371 to R373, R401 to R405, R411).
-/

namespace Sys2Proof.Machine

-- one declaration at a time: each waits for the kernel, and a waiting one holds a thread and its stack
set_option Elab.async false

/-! ### The fields of a port -/

/-- The fields of VR_PSTATW and VR_PSTATE by number. -/
def psField (p : Port) : Fin 6 → Fld
  | 0 => psLink p
  | 1 => psG1000 p
  | 2 => psLvl p
  | 3 => psLoop p
  | 4 => psNbr p
  | 5 => psDelay p

/-- The two registers of the ports' states. -/
def psMask : Nat := 2 ^ 209 ||| 2 ^ 210

theorem row_psField (p : Port) (k : Fin 6) : regNo (psField p k).addr = 209 + p.val :=
  (by decide +kernel : ∀ (p : Port) (k : Fin 6), regNo (psField p k).addr = 209 + p.val) p k

/-- A mask without the two registers of the ports' states keeps each field. -/
theorem Lane.Near.psField {M : Nat} {a b : Lane} (near : Lane.Near M a b) (west : M.testBit 209 = false)
    (east : M.testBit 210 = false) (p : Port) (k : Fin 6) : b.get (psField p k) = a.get (psField p k) := by
  refine near.keep (row_psField p k) ?_
  match p with
  | 0 => exact west
  | 1 => exact east

/-- The changes of a mask keep a port's link where they keep its register. -/
theorem Lane.Near.portUp {M : Nat} {a b : Lane} (near : Lane.Near M a b) (west : M.testBit 209 = false)
    (east : M.testBit 210 = false) (p : Port) : b.portUp p = a.portUp p :=
  congrArg (· == 2) (near.psField west east p 0)

section
variable {i : LaneId} {l : Lane} (hl : l.Sound i) (p : Port)
include hl

theorem Lane.Sound.get_put_ps (k : Fin 6) (v : Nat) : (l.put (psField p k) v).get (psField p k) = v % 2 ^ (psField p k).width :=
  hl.get_put _ v ((by decide : ∀ (p : Port) (k : Fin 6), ((psField p k).lo + (psField p k).width).ble 32 = true) p k)

theorem Lane.Sound.get_put_ps_of_ne {j k : Fin 6} (ne : j ≠ k) (v : Nat) :
    (l.put (psField p j) v).get (psField p k) = l.get (psField p k) :=
  hl.get_put_apart v ((by decide : ∀ (p : Port) (j k : Fin 6), (psField p k).addr = (psField p j).addr) p j k)
    ((by decide : ∀ (p : Port) (k : Fin 6), ((psField p k).lo + (psField p k).width).ble 32 = true) p k)
    ((by decide : ∀ (p : Port) (j k : Fin 6), j ≠ k → (((psField p j).lo + (psField p j).width).ble (psField p k).lo ||
      ((psField p k).lo + (psField p k).width).ble (psField p j).lo) = true) p j k ne)

theorem Lane.near_put_ps (k : Fin 6) (v : Nat) : Lane.Near psMask l (l.put (psField p k) v) := by
  exact Lane.put_near ((by decide +kernel : ∀ (p : Port) (k : Fin 6), Put (psField p k).addr psMask) p k) (.refl _ hl)

end

/-- The state of a port after a change of it, and of the other one. -/
theorem Lane.ports_onPort (l : Lane) (p : Port) (f : RingPort → RingPort) :
    (l.onPort p f).ring.ports[p] = f l.ring.ports[p] := Vector.getElem_set_self p.isLt

theorem Lane.Sound.onPort {i : LaneId} {l : Lane} (hl : l.Sound i) (p : Port) (f : RingPort → RingPort) :
    (l.onPort p f).Sound i := hl.onRing _

theorem Lane.near_onPort {i : LaneId} {l : Lane} (hl : l.Sound i) (p : Port) (f : RingPort → RingPort) :
    Lane.Near (2 ^ 562) l (l.onPort p f) := Lane.onPort_near (by decide +kernel) (.refl _ hl)

/-! ### A break of a port (R405) -/

/-- What a broken port keeps of the exchange with its neighbour. -/
def RingPort.cut (q : RingPort) : RingPort := { q with delays := [], heardHello := none, restore := false }

/-- The lane with the port shown broken. -/
def Lane.portShut (l : Lane) (p : Port) : Lane := ((l.put (psLink p) 3).raise R.VR_EVT_BREAK).onPort p RingPort.cut

/-- The lane with the port shown broken and its restore ended. -/
def Lane.portCut (l : Lane) (p : Port) : Lane :=
  (l.portShut p).onRing fun r => { r with restores := r.restores.filter fun x => x.1 != (l.portShut p).portLink p }

/-- What a break that becomes known may change: the state and the events of the ring, the breaks and the restores, and a
pending change of sheet. -/
def breakMask : Nat := maskOf [.reg R.VR_STAT, .reg R.VR_EVT] ||| 0x77 <<< 592

theorem Lane.breakPort_of_broken {l : Lane} {p : Port} (broken : l.get (psLink p) = 3) : l.breakPort p = l := if_pos broken

section
variable {i : LaneId} {l : Lane} (hl : l.Sound i) (p : Port)
include hl

theorem Lane.Sound.portCut : (l.portCut p).Sound i := (((hl.put _ _).raise _).onRing _).onRing _

/-- A port that breaks reads broken, and the break becomes known. -/
theorem Lane.near_breakPort (whole : l.get (psLink p) ≠ 3) : Lane.Near breakMask (l.portCut p) (l.breakPort p) := by
  have noted : ∃ k c, l.breakPort p = (l.portCut p).noteBreak k c := ⟨_, _, if_neg whole⟩
  obtain ⟨k, c, noted⟩ := noted
  rw [noted]
  exact Lane.noteBreak_near (by decide +kernel) (.refl _ (hl.portCut p))

/-- A broken port: its link reads so, its other fields stand, and the exchange with the neighbour is cut (R405). -/
theorem Lane.breakPort_effects : (l.breakPort p).Sound i ∧ (l.breakPort p).get (psLink p) = 3 ∧
    (∀ k, 0 ≠ k → (l.breakPort p).get (psField p k) = l.get (psField p k)) ∧
    (l.breakPort p).ring.ports[p] = (if l.get (psLink p) = 3 then l.ring.ports[p] else l.ring.ports[p].cut) ∧
    (l.get (psLink p) ≠ 3 → (l.breakPort p).flag R.VR_EVT_BREAK = true) := by
  by_cases broken : l.get (psLink p) = 3
  · rw [Lane.breakPort_of_broken broken, if_pos broken]
    exact ⟨hl, broken, fun _ _ => rfl, rfl, fun whole => absurd broken whole⟩
  · have near := Lane.near_breakPort hl p broken
    have place := hl.portCut p
    have cut (k : Fin 6) : (l.portCut p).get (psField p k) = (l.put (psLink p) 3).get (psField p k) :=
      Lane.get_put_of_ne _ _ ((by decide : ∀ (p : Port) (k : Fin 6), (psField p k).addr ≠ R.VR_EVT) p k)
    have port : (l.portCut p).ring.ports[p] = l.ring.ports[p].cut := Lane.ports_onPort _ p _
    have event : (l.portCut p).flag R.VR_EVT_BREAK = true := Lane.flag_raise (hl.put _ _).wf _ (by decide) rfl
    refine ⟨near.place place, ?_, fun k other => ?_, ?_, fun _ => near.flag (by decide +kernel) (by decide +kernel) rfl event⟩
    · exact (near.psField (by decide +kernel) (by decide +kernel) p 0).trans ((cut 0).trans ((hl.get_put_ps p 0 3).trans
        ((by decide : ∀ p : Port, 3 % 2 ^ (psField p 0).width = 3) p)))
    · exact (near.psField (by decide +kernel) (by decide +kernel) p k).trans ((cut k).trans (hl.get_put_ps_of_ne p other 3))
    · rw [if_neg broken, near.ring.ports (by decide +kernel), port]

end

/-! ### The ring state (R392) -/

section
variable {i : LaneId} {l : Lane} (hl : l.Sound i)
include hl

theorem Lane.Sound.setRing (m : RingMode) : (l.setRing m).Sound i := (hl.put _ _).onRing _

theorem Lane.get_STATE_setRing (m : RingMode) : (l.setRing m).get R.VR_STAT_STATE = m.code :=
  (hl.get_put R.VR_STAT_STATE m.code).trans (by cases m <;> rfl)

theorem Lane.ringMode_setRing (m : RingMode) : (l.setRing m).ringMode = m := by
  unfold Lane.ringMode
  rw [Lane.get_STATE_setRing hl]
  cases m <;> rfl

/-- Another node with the own identifier (R402). -/
theorem Lane.sameNode_effects : l.sameNode.flag R.VR_EVT_DUPID = true ∧ l.sameNode.ringMode = .listen ∧
    l.sameNode.ring.duplicate = true := by
  have place := (hl.setRing .listen).onRing fun r => { r with duplicate := true }
  have state : l.sameNode.get R.VR_STAT_STATE = (l.setRing .listen).get R.VR_STAT_STATE :=
    Lane.get_raise_elsewhere (f := R.VR_EVT_DUPID) (g := R.VR_STAT_STATE)
      ((l.setRing .listen).onRing fun r => { r with duplicate := true }) ev_VR_EVT at_VR_STAT.1
  refine ⟨Lane.flag_raise place.wf _ (by decide) rfl, ?_, rfl⟩
  have mode := Lane.ringMode_setRing hl .listen
  unfold Lane.ringMode at mode ⊢
  rw [state, mode]

end

/-- The ring state hangs on VR_STAT alone. -/
theorem Lane.Near.ringMode {M : Nat} {a b : Lane} (near : Lane.Near M a b) (kept : M.testBit 203 = false) :
    b.ringMode = a.ringMode := by
  unfold Lane.ringMode
  rw [near.keep at_VR_STAT.1 kept]

/-- COLD_START (R401). -/
theorem does_coldStart (e : At) (s : State) (hs : s.Runs e) :
    Does (.coldStart e) s [.reg R.VR_STAT, .ring] fun l m =>
      (l.ringMode ≠ .listen → m = l) ∧ (l.flag R.LC_STATE_LEAD = false → m = l) ∧
        (l.flag R.VR_CFG_CSTART = false → m = l) ∧
      (l.ring.quiet < l.get R.VR_CS_LISTEN → m = l) ∧ (l.now < l.ring.quietSince + l.ring.backoff → m = l) ∧
      (l.ringMode = .listen → l.get R.VR_CS_LISTEN ≤ l.ring.quiet → l.ring.quietSince + l.ring.backoff ≤ l.now →
        l.flag R.VR_CFG_CSTART = true → l.flag R.LC_STATE_LEAD = true → l.ringDead = false →
        m.get R.VR_STAT_STATE = 2 ∧ m.ring.cold = 0 ∧ m.ring.returned = Vector.replicate 2 false) := by
  refine does_logic hs rfl execColdStart_event rfl (by decide +kernel) fun hl => ?_
  generalize s.before (.coldStart e) = l at hl
  refine ⟨fun other => ?_, fun standby => ?_, fun follower => ?_, fun noisy => ?_, fun early => ?_,
    fun listens quiet late starter lead alive => ?_⟩
  · exact if_neg fun h => other h.1
  · refine if_neg ?_
    rintro ⟨-, -, -, -, lead, -⟩
    exact absurd lead (Bool.eq_false_iff.1 standby)
  · refine if_neg ?_
    rintro ⟨-, -, -, starter, -⟩
    exact absurd starter (Bool.eq_false_iff.1 follower)
  · exact if_neg fun h => Nat.not_le.2 noisy h.2.1
  · refine if_neg ?_
    rintro ⟨-, -, late, -⟩
    exact Nat.not_le.2 early (of_decide_eq_true late)
  · rw [if_pos ⟨listens, quiet, decide_eq_true late, starter, lead, by rw [alive]; rfl⟩]
    exact ⟨Lane.get_STATE_setRing hl .coldStart, rfl, rfl⟩

/-- REINT (R411). -/
theorem does_reint (e : At) (s : State) (hs : s.Runs e) : Does (.reint e) s [.reg R.VR_STAT, .ring] fun l m =>
      (l.mode ≠ .hold → l.mode ≠ .workshop → m = l) ∧ (l.ringMode = .off → m = l) ∧
      (l.mode = .hold ∨ l.mode = .workshop → l.ringMode ≠ .off → m.get R.VR_STAT_STATE = 1) := by
  refine does_logic hs rfl execReint_event rfl (by decide +kernel) fun hl => ?_
  generalize s.before (.reint e) = l at hl
  refine ⟨fun noHold noWorkshop => if_neg (not_or.2 ⟨noHold, noWorkshop⟩), fun off => ?_, fun parked on => ?_⟩
  · have same : l.reintegrate = l := if_pos off
    rw [same, ite_self]
  · rw [if_pos parked, show l.reintegrate = l.setRing .listen from if_neg on]
    exact Lane.get_STATE_setRing hl .listen

/-! ### Ports: link, rate and break (R369, R371, R372, R405) -/

/-- PORT_BREAK (R405). -/
theorem does_portBreak (e : At) (p : Port) (held : Nat) (s : State) (hs : s.Runs e) :
    Does (.portBreak ⟨e, held⟩ p) s [.reg R.VR_STAT, .reg R.VR_EVT, .reg R.VR_PSTATW, .reg R.VR_PSTATE,
    .ring] fun l m =>
      (held < 10 → m = l) ∧
      (10 ≤ held → m.get (psLink p) = 3 ∧ m.ring.ports[p].phy = false ∧
        (l.get (psLink p) ≠ 3 → m.flag R.VR_EVT_BREAK = true ∧ m.ring.ports[p].delays = [])) := by
  refine does_logic hs rfl execPortBreak_event rfl (by decide +kernel) fun hl => ?_
  generalize s.before (.portBreak ⟨e, held⟩ p) = l at hl
  refine ⟨fun short => Lane.when_of_false l (decide_eq_false (Nat.not_le.2 short)), fun long => ?_⟩
  have dead := l.ports_onPort p fun q => { q with phy := false }
  have place := hl.onPort p fun q => { q with phy := false }
  have same : (l.onPort p fun q => { q with phy := false }).get (psLink p) = l.get (psLink p) := rfl
  rw [Lane.when_of_true l (decide_eq_true long)]
  generalize l.onPort p (fun q => { q with phy := false }) = x at dead place same
  obtain ⟨-, link, -, port, event⟩ := Lane.breakPort_effects place p
  rw [port, dead, same]
  refine ⟨link, ?_, fun whole => ⟨event (same ▸ whole), ?_⟩⟩
  · split
    · rfl
    · rfl
  · rw [if_neg whole]
    rfl

/-- RATE_TIMEOUT (R372). -/
theorem does_rateTimeout (e : At) (p : Port) (s : State) (hs : s.Runs e) :
    Does (.rateTimeout e p) s [.reg R.VR_PSTATW, .reg R.VR_PSTATE, .ring] fun l m =>
      (l.ring.ports[p].phy = false → m = l) ∧ (l.portUp p = true → m = l) ∧
      (l.now < l.ring.ports[p].since + ms 50 → m = l) ∧
      (l.ring.ports[p].phy = true → l.portUp p = false → l.ring.ports[p].since + ms 50 ≤ l.now →
        m.flag (psG1000 p) = !(l.flag (psG1000 p) && l.flag R.VR_CFG_ALLOW100) ∧ m.ring.ports[p].since = l.now ∧
        m.ring.ports[p].delays = []) := by
  refine does_logic hs rfl execRateTimeout_event rfl (by decide +kernel) fun hl => ?_
  generalize s.before (.rateTimeout e p) = l at hl
  dsimp only
  refine ⟨fun dark => if_neg ?_, fun up => if_neg ?_, fun early => if_neg ?_, fun phy down late => ?_⟩
  · rintro ⟨phy, -⟩
    exact absurd phy (Bool.eq_false_iff.1 dark)
  · rintro ⟨-, down, -⟩
    rw [up] at down
    exact nomatch down
  · rintro ⟨-, -, late⟩
    exact Nat.not_le.2 early (of_decide_eq_true late)
  · rw [if_pos ⟨phy, by rw [down]; rfl, decide_eq_true late⟩, Lane.ports_onPort]
    refine ⟨?_, rfl, rfl⟩
    exact Lane.flag_putFlag hl.wf (psG1000 p) _ ((by decide : ∀ p : Port, (psG1000 p).lo < 32) p)
      ((by decide : ∀ p : Port, (psG1000 p).width = 1) p)

/-- The lane once a PHY has reported link: it fits, or stays in reset. -/
def Lane.phySeen (l : Lane) (p : Port) (bad : Bool) : Lane := l.onPort p fun q => { q with phy := !bad, misfit := bad }

/-- A usable PHY with link begins negotiation (R371, R372). -/
theorem Lane.negotiateLink_effects {i : LaneId} {l : Lane} (hl : l.Sound i) (p : Port) :
    (l.negotiateLink p).ring.ports[p].phy = l.ring.ports[p].phy ∧ (l.negotiateLink p).ring.ports[p].misfit = l.ring.ports[p].misfit ∧
    (l.portUsable p = true → l.portUp p = false →
      (l.negotiateLink p).get (psLink p) = (if l.get (psLink p) = 3 then 3 else 1) ∧
      (l.negotiateLink p).get (psG1000 p) = 1 ∧ (l.negotiateLink p).ring.ports[p].since = l.now) := by
  by_cases free : l.portUsable p = true ∧ (!l.portUp p) = true
  · have begun : l.negotiateLink p = ((l.put (psLink p) (if l.get (psLink p) = 3 then 3 else 1)).raise (psG1000 p)).onPort p
      fun q => { q with since := l.now, helloAt := 0, delays := [], heardHello := none } := if_pos free
    have shown := hl.put (psLink p) (if l.get (psLink p) = 3 then 3 else 1)
    have small : (if l.get (psLink p) = 3 then 3 else 1) % 2 ^ (psLink p).width = if l.get (psLink p) = 3 then 3 else 1 := by
      rw [(by decide : ∀ p : Port, (psLink p).width = 2) p]
      split <;> rfl
    rw [begun, Lane.ports_onPort]
    refine ⟨rfl, rfl, fun _ _ => ⟨?_, ?_, rfl⟩⟩
    · exact (shown.get_put_ps_of_ne p (j := 1) (k := 0) (by decide) 1).trans ((hl.get_put_ps p 0 _).trans small)
    · exact (shown.get_put_ps p 1 1).trans ((by decide : ∀ p : Port, 1 % 2 ^ (psField p 1).width = 1) p)
  · rw [show l.negotiateLink p = l from if_neg free]
    exact ⟨rfl, rfl, fun usable down => absurd ⟨usable, by rw [down]; rfl⟩ free⟩

/-- What a port that breaks may change. -/
def brokenMask : Nat := psMask ||| 2 ^ 562 ||| breakMask

theorem Lane.near_breakPort_of_sound {i : LaneId} {l : Lane} (hl : l.Sound i) (p : Port) : Lane.Near brokenMask l (l.breakPort p) :=
  Lane.breakPort_near (by decide +kernel) (.refl _ hl)

/-- An event that shows before a break of the port shows after it. -/
theorem Lane.flag_breakPort {i : LaneId} {l : Lane} (hl : l.Sound i) (p : Port) {f : Fld} (event : isEvt f.addr = true)
    (one : f.width = 1) (shown : l.flag f = true) : (l.breakPort p).flag f = true :=
  (Lane.near_breakPort_of_sound hl p).flag (by decide +kernel) event one shown

/-- A port broken with an event of the ring: the event shows, and the port is broken (R369, R373). -/
theorem Lane.raise_breakPort_effects {i : LaneId} {l : Lane} (hl : l.Sound i) (p : Port) {f : Fld} (ring : f.addr = R.VR_EVT)
    (low : f.lo < 32) (one : f.width = 1) :
    ((l.raise f).breakPort p).flag f = true ∧ ((l.raise f).breakPort p).get (psLink p) = 3 ∧
    (∀ k, 0 ≠ k → ((l.raise f).breakPort p).get (psField p k) = l.get (psField p k)) ∧
    (((l.raise f).breakPort p).ring.ports[p] = l.ring.ports[p] ∨ ((l.raise f).breakPort p).ring.ports[p] = l.ring.ports[p].cut) := by
  have raised := hl.raise f
  have event := Lane.flag_raise hl.wf f low one
  have fields (k : Fin 6) : (l.raise f).get (psField p k) = l.get (psField p k) :=
    Lane.get_put_of_ne _ _ (ring ▸ (by decide : ∀ (p : Port) (k : Fin 6), (psField p k).addr ≠ R.VR_EVT) p k)
  have port : (l.raise f).ring.ports[p] = l.ring.ports[p] := rfl
  generalize l.raise f = x at raised event fields port
  obtain ⟨-, link, same, now, -⟩ := Lane.breakPort_effects raised p
  refine ⟨Lane.flag_breakPort raised p (ring ▸ by decide +kernel) one event, link, fun k other => (same k other).trans (fields k), ?_⟩
  rw [now, port]
  split
  · exact .inl rfl
  · exact .inr rfl

/-- PHY_LINK (R371). -/
theorem does_phyLink (e : At) (p : Port) (ident : Word) (s : State) (hs : s.Runs e) :
    Does (.phyLink ⟨e, ident⟩ p) s [.reg R.VR_STAT, .reg R.VR_EVT, .reg R.VR_PSTATW, .reg R.VR_PSTATE, .ring] fun l m =>
      (l.reh.done.testBit 7 = false → m = l) ∧ (l.bit R.LC_ENGSTAT_UNUS 6 = true → m = l) ∧
      (l.reh.done.testBit 7 = true → l.bit R.LC_ENGSTAT_UNUS 6 = false →
        (l.word R.VR_PHYID ≠ 0 → l.word R.VR_PHYID ≠ ident →
          m.flag R.VR_EVT_PHYFAIL = true ∧ m.get (psLink p) = 3 ∧ m.ring.ports[p].misfit = true) ∧
        (l.word R.VR_PHYID = 0 ∨ l.word R.VR_PHYID = ident →
          m.ring.ports[p].phy = true ∧ m.ring.ports[p].misfit = false ∧
          (l.flag R.VR_CFG_EN = true → l.bit R.BI_UNUS_VR p.val = false → l.portUp p = false →
            m.get (psLink p) = (if l.get (psLink p) = 3 then 3 else 1) ∧ m.get (psG1000 p) = 1 ∧
            m.ring.ports[p].since = l.now))) := by
  refine does_logic hs rfl execPhyLink_event rfl (by decide +kernel) fun hl => ?_
  generalize s.before (.phyLink ⟨e, ident⟩ p) = l at hl
  refine ⟨fun early => if_pos (.inl (by rw [early]; rfl)), fun dead => if_pos (.inr dead), fun past alive => ?_⟩
  rw [if_neg (by rw [past, alive]; decide)]
  have port (bad : Bool) : (l.phySeen p bad).ring.ports[p] = { l.ring.ports[p] with phy := !bad, misfit := bad } :=
    l.ports_onPort p _
  have place (bad : Bool) : (l.phySeen p bad).Sound _ := hl.onPort p _
  refine ⟨fun known other => ?_, fun fits => ?_⟩
  · have bad : (l.word R.VR_PHYID != 0 && l.word R.VR_PHYID != ident) = true := by
      rw [bne_iff_ne.2 known, bne_iff_ne.2 other]
      rfl
    dsimp only
    rw [bad, if_pos rfl]
    obtain ⟨event, link, -, now⟩ := Lane.raise_breakPort_effects (place true) p (f := R.VR_EVT_PHYFAIL) rfl (by decide) rfl
    refine ⟨event, link, ?_⟩
    rcases now with now | now
    · exact (congrArg RingPort.misfit now).trans (congrArg RingPort.misfit (port true))
    · exact (congrArg RingPort.misfit now).trans (congrArg RingPort.misfit (port true))
  · have good : (l.word R.VR_PHYID != 0 && l.word R.VR_PHYID != ident) = false := by
      rcases fits with none | same
      · rw [none]
        rfl
      · rw [same, bne_self_eq_false, Bool.and_false]
    dsimp only
    rw [good, if_neg Bool.false_ne_true]
    obtain ⟨phy, misfit, begun⟩ := Lane.negotiateLink_effects (place false) p
    have fitting := congrArg RingPort.misfit (port false)
    refine ⟨phy.trans (congrArg RingPort.phy (port false)), misfit.trans fitting, fun enabled usable down => begun ?_ down⟩
    have unused : (l.phySeen p false).portUsable p = (l.flag R.VR_CFG_EN && !l.bit R.BI_UNUS_VR p.val &&
      !((l.phySeen p false).ring.ports[p]).misfit && !l.bit R.LC_ENGSTAT_UNUS 6) := rfl
    rw [unused, fitting, enabled, usable, alive]
    rfl

/-! ### What the ring description says -/

section
variable {M : Nat} {a b : Lane} (near : Lane.Near M a b)
include near

theorem Lane.Near.ringPart (book : M.testBit 487 = false) : b.ringPart = a.ringPart := by
  unfold Lane.ringPart
  rw [near.trust.book book]
  simp only [near.id]

theorem Lane.Near.node (config : M.testBit 202 = false) : b.node = a.node := near.keep (f := R.VR_CFG_NODE) at_VR_CFG.1 config

theorem Lane.Near.needs1000 (book : M.testBit 487 = false) (state : M.testBit 203 = false) : b.needs1000 = a.needs1000 := by
  unfold Lane.needs1000 Lane.sheet Lane.sheetOf
  rw [near.ringPart book, near.keep (f := R.VR_STAT_SHACT) at_VR_STAT.1 state]

theorem Lane.Near.neighbour (book : M.testBit 487 = false) (config : M.testBit 202 = false) (p : Port) :
    b.neighbour p = a.neighbour p := by
  unfold Lane.neighbour Lane.members
  rw [near.ringPart book, near.node config]

theorem Lane.Near.maxDelay (book : M.testBit 487 = false) (config : M.testBit 202 = false) (p : Port) :
    b.maxDelay p = a.maxDelay p := by
  unfold Lane.maxDelay
  rw [near.ringPart book, near.node config, near.neighbour book config]

end

/-! ### HELLO (R371, R373) -/

/-- VIREC_HELLO_SEND (R371). -/
theorem does_virecHelloSend (e : At) (p : Port) (s : State) (hs : s.Runs e) : Does (.virecHelloSend e p) s [.emit, .ring] fun l m =>
      (l.portUsable p = false → m = l) ∧ (l.ring.ports[p].phy = false → m = l) ∧ (l.ring.duplicate = true → m = l) ∧
      (l.now < l.ring.ports[p].helloAt + (if l.portUp p then ms 100 else us 100) → m = l) ∧
      (l.portUsable p = true → l.ring.ports[p].phy = true → l.ring.duplicate = false →
        l.ring.ports[p].helloAt + (if l.portUp p then ms 100 else us 100) ≤ l.now →
        m.emit = .ringHello p (l.ownHello p) :: l.emit ∧ m.ring.ports[p].helloAt = l.now ∧ m.regs = l.regs) := by
  refine does_logic hs rfl execVirecHelloSend_event rfl (by decide +kernel) fun hl => ?_
  generalize s.before (.virecHelloSend e p) = l at hl
  dsimp only
  refine ⟨fun shut => if_neg ?_, fun dark => if_neg ?_, fun twice => if_neg ?_, fun early => if_neg ?_,
    fun usable phy single late => ?_⟩
  · rintro ⟨usable, -⟩
    exact absurd usable (Bool.eq_false_iff.1 shut)
  · rintro ⟨-, phy, -⟩
    exact absurd phy (Bool.eq_false_iff.1 dark)
  · rintro ⟨-, -, -, single⟩
    rw [twice] at single
    exact nomatch single
  · rintro ⟨-, -, late, -⟩
    exact Nat.not_le.2 early (of_decide_eq_true late)
  · rw [if_pos ⟨usable, phy, decide_eq_true late, by rw [single]; rfl⟩]
    exact ⟨rfl, congrArg RingPort.helloAt (l.ports_onPort p fun q => { q with helloAt := l.now }), rfl⟩

/-- The link delays kept with a HELLO: the one it measures, and those before it. -/
def Lane.delaysWith (l : Lane) (p : Port) (h : RingHello) : List Nat :=
  ((l.helloDelay h).map fun d => (d :: l.ring.ports[p].delays).take 8).getD l.ring.ports[p].delays

/-- The lane once a HELLO of the neighbour has been heard: its node and the common level show. -/
def Lane.greeted (l : Lane) (p : Port) (h : RingHello) : Lane :=
  (l.put (psNbr p) h.node).put (psLvl p) (min h.level (l.get R.VR_CFG_LVLMAX))

/-- The lane once what a HELLO says of the neighbour stands. -/
def Lane.heardHello (l : Lane) (p : Port) (h : RingHello) : Lane :=
  (l.greeted p h).onPort p fun q => { q with
    level := h.level, g1000 := h.g1000, g100 := h.g100, heardHello := some (h.sent, l.now)
    delays := match (l.greeted p h).helloDelay h with | some d => (d :: q.delays).take 8 | none => q.delays }

/-- The lane with the median link delay shown. -/
def Lane.timed (l : Lane) (p : Port) : Lane :=
  l.put (psDelay p) (min 65535 (Config.quantize ((medianDelay l.ring.ports[p].delays : Rat) / 4)).toNat)

/-- What follows a HELLO of the neighbour: with eight delays and a permitted rate the port is judged and admitted (R373). -/
def Lane.judgePort (l : Lane) (p : Port) (h : RingHello) : Lane :=
  if l.ring.ports[p].delays.length < 8 ∨ !l.ratePermitted p h then l
  else if (l.timed p).needs1000 ∧ !(l.timed p).flag (psG1000 p) then ((l.timed p).raise R.VR_EVT_RATELOW).breakPort p
  else if 4 * (l.timed p).maxDelay p < medianDelay l.ring.ports[p].delays then ((l.timed p).raise R.VR_EVT_DELAYHI).breakPort p
  else if (l.timed p).portUp p then l.timed p
  else (l.timed p).welcome p

/-- A HELLO of the neighbour is heard, and the port judged. -/
theorem Lane.ringHello_of_neighbour {l : Lane} {p : Port} {h : RingHello} (usable : l.portUsable p = true)
    (other : h.node ≠ l.node) (ring : h.ring = l.id) (next : l.neighbour p = some h.node) :
    l.ringHello p h = (l.heardHello p h).judgePort p h := by
  have right : ¬(h.ring ≠ l.id ∨ l.neighbour p ≠ some h.node) := by
    rintro (wrong | wrong)
    · exact wrong ring
    · exact wrong next
  exact (if_neg (by rw [usable]; decide)).trans ((if_neg other).trans (if_neg right))

/-- What a HELLO of the neighbour changes before the port is judged. -/
def heardMask : Nat := psMask ||| 2 ^ 562

/-- The lane in which a break of the port is withdrawn, or announced as restored (R408). -/
def Lane.restored (l : Lane) (p : Port) : Lane :=
  l.when (l.ring.breaks.any fun b => b.1 == l.portLink p) fun l =>
    if l.ringOn then l.onPort p fun q => { q with restore := true }
    else l.onRing fun r => { r with breaks := r.breaks.filter fun b => b.1 != l.portLink p }

section
variable {i : LaneId} {l : Lane} (hl : l.Sound i) (p : Port)
include hl

theorem Lane.heardHello_effects (h : RingHello) : (l.heardHello p h).Sound i ∧ Lane.Near heardMask l (l.heardHello p h) ∧
    (l.heardHello p h).get (psLvl p) = min h.level (l.get R.VR_CFG_LVLMAX) % 4 ∧
    (∀ k, 2 ≠ k → 4 ≠ k → (l.heardHello p h).get (psField p k) = l.get (psField p k)) ∧
    (l.heardHello p h).ring.ports[p] = { l.ring.ports[p] with
      level := h.level, g1000 := h.g1000, g100 := h.g100, heardHello := some (h.sent, l.now), delays := l.delaysWith p h } := by
  have named := hl.put (psNbr p) h.node
  have greeted : (l.greeted p h).Sound i := named.put _ _
  have level := named.get_put_ps p 2 (min h.level (l.get R.VR_CFG_LVLMAX))
  have near : Lane.Near psMask l (l.greeted p h) := (Lane.near_put_ps hl p 4 h.node).trans (Lane.near_put_ps named p 2 _)
  have fields (k : Fin 6) (notLevel : 2 ≠ k) (notNode : 4 ≠ k) : (l.greeted p h).get (psField p k) = l.get (psField p k) :=
    (named.get_put_ps_of_ne p notLevel _).trans (hl.get_put_ps_of_ne p notNode _)
  refine ⟨greeted.onPort p _, ?_, ?_, fields, ?_⟩
  · exact (near.mono (by decide +kernel)).trans ((Lane.near_onPort greeted p _).mono (by decide +kernel))
  · exact level.trans (congrArg (_ % 2 ^ ·) ((by decide : ∀ p : Port, (psField p 2).width = 2) p))
  · have kept : (l.greeted p h).helloDelay h = l.helloDelay h := rfl
    have told : (match l.helloDelay h with | some d => (d :: l.ring.ports[p].delays).take 8 | none => l.ring.ports[p].delays) =
        l.delaysWith p h := by
      unfold Lane.delaysWith
      cases l.helloDelay h <;> rfl
    refine (Lane.ports_onPort _ p _).trans ?_
    rw [kept]
    exact congrArg (fun d => { l.ring.ports[p] with
      level := h.level, g1000 := h.g1000, g100 := h.g100, heardHello := some (h.sent, l.now), delays := d }) told

/-- What a restored port leaves of its break changes the breaks and its own announcement. -/
theorem Lane.restored_effects : Lane.Near (2 ^ 562 ||| 2 ^ 596) l (l.restored p) ∧
    ∃ r, (l.restored p).ring.ports[p] = { l.ring.ports[p] with restore := r } := by
  by_cases broken : (l.ring.breaks.any fun b => b.1 == l.portLink p) = true
  · unfold Lane.restored
    rw [Lane.when_of_true l broken]
    dsimp only
    split
    · exact ⟨(Lane.near_onPort hl p _).mono (by decide +kernel), _, Lane.ports_onPort l p _⟩
    · exact ⟨Lane.onRing_near { RingState.Near.refl l.ring with breaks := not_bit (by decide +kernel) } (.refl _ hl),
        l.ring.ports[p].restore, rfl⟩
  · have same : l.restored p = l := Lane.when_of_false l (Bool.eq_false_iff.2 broken)
    rw [same]
    exact ⟨.refl _ hl, l.ring.ports[p].restore, rfl⟩

/-- The admission of a port (R373): its link reads UP, its exchange with the neighbour stands, and a ring that was off
listens. -/
theorem Lane.welcome_effects : (l.welcome p).get (psLink p) = 2 ∧
    (∀ k, 0 ≠ k → (l.welcome p).get (psField p k) = l.get (psField p k)) ∧
    (∃ r, (l.welcome p).ring.ports[p] = { l.ring.ports[p] with restore := r }) ∧
    (l.ringMode = .off → (l.welcome p).ringMode = .listen) := by
  have shown := hl.put (psLink p) 2
  have link : (l.put (psLink p) 2).get (psLink p) = 2 :=
    (hl.get_put_ps p 0 2).trans ((by decide : ∀ p : Port, 2 % 2 ^ (psField p 0).width = 2) p)
  have fields (k : Fin 6) (other : 0 ≠ k) : (l.put (psLink p) 2).get (psField p k) = l.get (psField p k) :=
    hl.get_put_ps_of_ne p other 2
  have mode : (l.put (psLink p) 2).ringMode = l.ringMode := (Lane.near_put_ps hl p 0 2).ringMode (by decide +kernel)
  have port : (l.put (psLink p) 2).ring.ports[p] = l.ring.ports[p] := rfl
  have out : l.welcome p = if ((l.put (psLink p) 2).restored p).ringMode = .off then ((l.put (psLink p) 2).restored p).setRing .listen
      else (l.put (psLink p) 2).restored p := rfl
  obtain ⟨near, r, kept⟩ := Lane.restored_effects shown p
  generalize (l.put (psLink p) 2).restored p = y at out near kept
  have place := near.place shown
  have same (k : Fin 6) : (l.welcome p).get (psField p k) = (l.put (psLink p) 2).get (psField p k) := by
    rw [out]
    split
    · exact (Lane.get_put_of_ne y _ ((by decide : ∀ (p : Port) (k : Fin 6), (psField p k).addr ≠ R.VR_STAT) p k)).trans
        (near.psField (by decide +kernel) (by decide +kernel) p k)
    · exact near.psField (by decide +kernel) (by decide +kernel) p k
  refine ⟨(same 0).trans link, fun k other => (same k).trans (fields k other), ⟨r, ?_⟩, fun off => ?_⟩
  · rw [out, ← port, ← kept]
    split <;> rfl
  · rw [out, if_pos ((near.ringMode (by decide +kernel)).trans (mode.trans off))]
    exact Lane.ringMode_setRing place .listen

end

section
variable {i : LaneId} {l : Lane} (hl : l.Sound i) (p : Port)
include hl

/-- Showing the link delay changes that field alone. -/
theorem Lane.timed_effects : (l.timed p).Sound i ∧ Lane.Near psMask l (l.timed p) ∧
    (∀ k, 5 ≠ k → (l.timed p).get (psField p k) = l.get (psField p k)) ∧
    (l.timed p).get (psDelay p) = min 65535 (Config.quantize ((medianDelay l.ring.ports[p].delays : Rat) / 4)).toNat := by
  refine ⟨hl.put _ _, Lane.near_put_ps hl p 5 _, fun k other => hl.get_put_ps_of_ne p other _, ?_⟩
  refine (hl.get_put_ps p 5 _).trans ?_
  rw [(by decide : ∀ p : Port, (psField p 5).width = 16) p]
  exact Nat.mod_eq_of_lt (by omega)

/-- Judging a heard neighbour keeps the common level and what the neighbour said. -/
theorem Lane.judgePort_kept (h : RingHello) : (l.judgePort p h).get (psLvl p) = l.get (psLvl p) ∧
    (l.judgePort p h).ring.ports[p].level = l.ring.ports[p].level ∧
    (l.judgePort p h).ring.ports[p].g1000 = l.ring.ports[p].g1000 ∧
    (l.judgePort p h).ring.ports[p].g100 = l.ring.ports[p].g100 := by
  obtain ⟨place, -, fields, -⟩ := Lane.timed_effects hl p
  have port : (l.timed p).ring.ports[p] = l.ring.ports[p] := rfl
  have level := fields 2 (by decide)
  unfold Lane.judgePort
  generalize l.timed p = x at place port level
  have broken {f : Fld} (ring : f.addr = R.VR_EVT) (low : f.lo < 32) (one : f.width = 1) :
      ((x.raise f).breakPort p).get (psLvl p) = l.get (psLvl p) ∧
      ((x.raise f).breakPort p).ring.ports[p].level = l.ring.ports[p].level ∧
      ((x.raise f).breakPort p).ring.ports[p].g1000 = l.ring.ports[p].g1000 ∧
      ((x.raise f).breakPort p).ring.ports[p].g100 = l.ring.ports[p].g100 := by
    obtain ⟨-, -, same, now⟩ := Lane.raise_breakPort_effects place p ring low one
    refine ⟨(same 2 (by decide)).trans level, ?_⟩
    rw [port] at now
    rcases now with now | now
    · rw [now]
      exact ⟨rfl, rfl, rfl⟩
    · rw [now]
      exact ⟨rfl, rfl, rfl⟩
  split
  · exact ⟨rfl, rfl, rfl, rfl⟩
  split
  · exact broken rfl (by decide) rfl
  split
  · exact broken rfl (by decide) rfl
  split
  · rw [port]
    exact ⟨level, rfl, rfl, rfl⟩
  · obtain ⟨-, same, ⟨r, now⟩, -⟩ := Lane.welcome_effects place p
    rw [now, port]
    exact ⟨(same 2 (by decide)).trans level, rfl, rfl, rfl⟩

/-- A port that is judged (R372, R373): too slow a rate, too long a link, or the admission. -/
theorem Lane.judgePort_effects (h : RingHello) (many : 8 ≤ l.ring.ports[p].delays.length) (permitted : l.ratePermitted p h = true) :
    (l.needs1000 = true → l.flag (psG1000 p) = false →
      (l.judgePort p h).flag R.VR_EVT_RATELOW = true ∧ (l.judgePort p h).get (psLink p) = 3) ∧
    (l.needs1000 = false ∨ l.flag (psG1000 p) = true → 4 * l.maxDelay p < medianDelay l.ring.ports[p].delays →
      (l.judgePort p h).flag R.VR_EVT_DELAYHI = true ∧ (l.judgePort p h).get (psLink p) = 3) ∧
    (l.needs1000 = false ∨ l.flag (psG1000 p) = true → medianDelay l.ring.ports[p].delays ≤ 4 * l.maxDelay p →
      (l.judgePort p h).get (psLink p) = 2 ∧ (l.judgePort p h).ring.ports[p].delays = l.ring.ports[p].delays ∧
      (l.judgePort p h).get (psDelay p) =
        min 65535 (Config.quantize ((medianDelay l.ring.ports[p].delays : Rat) / 4)).toNat ∧
      (l.ringMode = .off → l.portUp p = false → (l.judgePort p h).ringMode = .listen)) := by
  obtain ⟨place, near, fields, delay⟩ := Lane.timed_effects hl p
  have port : (l.timed p).ring.ports[p] = l.ring.ports[p] := rfl
  have rate : (l.timed p).flag (psG1000 p) = l.flag (psG1000 p) := congrArg (· != 0) (fields 1 (by decide))
  have up : (l.timed p).portUp p = l.portUp p := congrArg (· == 2) (fields 0 (by decide))
  have needs := near.needs1000 (by decide +kernel) (by decide +kernel)
  have longest := near.maxDelay (by decide +kernel) (by decide +kernel) p
  have mode := near.ringMode (by decide +kernel)
  have judged : l.judgePort p h =
      if (l.timed p).needs1000 ∧ !(l.timed p).flag (psG1000 p) then ((l.timed p).raise R.VR_EVT_RATELOW).breakPort p
      else if 4 * (l.timed p).maxDelay p < medianDelay l.ring.ports[p].delays then ((l.timed p).raise R.VR_EVT_DELAYHI).breakPort p
      else if (l.timed p).portUp p then l.timed p
      else (l.timed p).welcome p := by
    refine if_neg ?_
    rintro (few | barred)
    · exact Nat.not_lt.2 many few
    · rw [permitted] at barred
      exact nomatch barred
  rw [judged, needs, rate, longest, up]
  generalize l.timed p = x at place port mode delay fields
  have fast (ok : l.needs1000 = false ∨ l.flag (psG1000 p) = true) : ¬(l.needs1000 = true ∧ (!l.flag (psG1000 p)) = true) := by
    rintro ⟨need, slow⟩
    rcases ok with ok | ok
    · exact absurd need (Bool.eq_false_iff.1 ok)
    · rw [ok] at slow
      exact nomatch slow
  refine ⟨fun need slow => ?_, fun ok long => ?_, fun ok short => ?_⟩
  · rw [if_pos ⟨need, by rw [slow]; rfl⟩]
    obtain ⟨event, link, -⟩ := Lane.raise_breakPort_effects place p (f := R.VR_EVT_RATELOW) rfl (by decide) rfl
    exact ⟨event, link⟩
  · rw [if_neg (fast ok), if_pos long]
    obtain ⟨event, link, -⟩ := Lane.raise_breakPort_effects place p (f := R.VR_EVT_DELAYHI) rfl (by decide) rfl
    exact ⟨event, link⟩
  · rw [if_neg (fast ok), if_neg (Nat.not_lt.2 short)]
    by_cases already : l.portUp p = true
    · rw [if_pos already, port]
      refine ⟨(fields 0 (by decide)).trans (of_decide_eq_true already), rfl, delay, fun _ down => ?_⟩
      exact absurd already (Bool.eq_false_iff.1 down)
    · obtain ⟨link, same, ⟨r, now⟩, listens⟩ := Lane.welcome_effects place p
      rw [if_neg already, now, port]
      exact ⟨link, rfl, (same 5 (by decide)).trans delay, fun off _ => listens (mode.trans off)⟩

end

/-- VIREC_HELLO (R373). -/
theorem does_virecHello (e : At) (p : Port) (h : RingHello) (s : State) (hs : s.Runs e) :
    Does (.virecHello e p h) s [.reg R.VR_STAT, .reg R.VR_EVT, .reg R.VR_PSTATW, .reg R.VR_PSTATE, .ring] fun l m =>
      (l.portUsable p = false → m = l) ∧
      (l.portUsable p = true → h.node = l.node → m.flag R.VR_EVT_DUPID = true ∧ m.ringMode = .listen ∧
        m.ring.duplicate = true) ∧
      (l.portUsable p = true → h.node ≠ l.node → h.ring ≠ l.id ∨ l.neighbour p ≠ some h.node →
        m.flag R.VR_EVT_MISWIRE = true ∧ m.get (psLink p) = 3) ∧
      (∀ ds, l.portUsable p = true → h.node ≠ l.node → h.ring = l.id → l.neighbour p = some h.node →
        ds = (((l.helloDelay h).map fun d => (d :: l.ring.ports[p].delays).take 8).getD l.ring.ports[p].delays) →
        m.get (psLvl p) = min h.level (l.get R.VR_CFG_LVLMAX) % 4 ∧ m.ring.ports[p].level = h.level ∧
        m.ring.ports[p].g1000 = h.g1000 ∧ m.ring.ports[p].g100 = h.g100 ∧
        (ds.length < 8 ∨ l.ratePermitted p h = false →
          m.ring.ports[p].delays = ds ∧ m.ring.ports[p].heardHello = some (h.sent, l.now) ∧
            m.get (psLink p) = l.get (psLink p)) ∧
        (8 ≤ ds.length → l.ratePermitted p h = true →
          (l.needs1000 = true → l.flag (psG1000 p) = false → m.flag R.VR_EVT_RATELOW = true ∧ m.get (psLink p) = 3) ∧
          (l.needs1000 = false ∨ l.flag (psG1000 p) = true → 4 * l.maxDelay p < medianDelay ds →
            m.flag R.VR_EVT_DELAYHI = true ∧ m.get (psLink p) = 3) ∧
          (l.needs1000 = false ∨ l.flag (psG1000 p) = true → medianDelay ds ≤ 4 * l.maxDelay p →
            m.get (psLink p) = 2 ∧ m.ring.ports[p].delays = ds ∧ m.get (psDelay p) =
              min 65535 (Config.quantize ((medianDelay ds : Rat) / 4)).toNat ∧
            (l.ringMode = .off → l.portUp p = false → m.ringMode = .listen)))) := by
  refine does_logic hs rfl execVirecHello_event rfl (by decide +kernel) fun hl => ?_
  generalize s.before (.virecHello e p h) = l at hl
  have begun (usable : l.portUsable p = true) : ¬(!l.portUsable p) = true := by
    rw [usable]
    decide
  refine ⟨fun shut => if_pos (by rw [shut]; rfl), fun usable own => ?_, fun usable other wrong => ?_,
    fun ds usable other ring next same => ?_⟩
  · rw [show l.ringHello p h = l.sameNode from (if_neg (begun usable)).trans (if_pos own)]
    exact Lane.sameNode_effects hl
  · rw [show l.ringHello p h = ((l.raise R.VR_EVT_MISWIRE).put (psNbr p) h.node).breakPort p from
      (if_neg (begun usable)).trans ((if_neg other).trans (if_pos wrong))]
    have raised := hl.raise R.VR_EVT_MISWIRE
    have event := Lane.flag_raise hl.wf R.VR_EVT_MISWIRE (by decide) rfl
    generalize l.raise R.VR_EVT_MISWIRE = x at raised event
    have named := (Lane.near_put_ps raised p 4 h.node).flag (by decide +kernel) (f := R.VR_EVT_MISWIRE) (by decide +kernel) rfl event
    have place := raised.put (psNbr p) h.node
    exact ⟨Lane.flag_breakPort place p (by decide +kernel) rfl named, (Lane.breakPort_effects place p).2.1⟩
  · subst same
    rw [Lane.ringHello_of_neighbour usable other ring next]
    obtain ⟨place, near, level, fields, port⟩ := Lane.heardHello_effects hl p h
    have rate : (l.heardHello p h).flag (psG1000 p) = l.flag (psG1000 p) := congrArg (· != 0) (fields 1 (by decide) (by decide))
    have up : (l.heardHello p h).portUp p = l.portUp p := congrArg (· == 2) (fields 0 (by decide) (by decide))
    have slow : (l.heardHello p h).flag R.VR_CFG_ALLOW100 = l.flag R.VR_CFG_ALLOW100 :=
      congrArg (· != 0) (near.keep (f := R.VR_CFG_ALLOW100) at_VR_CFG.1 (by decide +kernel))
    have permitted : (l.heardHello p h).ratePermitted p h = l.ratePermitted p h := by
      unfold Lane.ratePermitted
      rw [rate, slow]
    have needs := near.needs1000 (by decide +kernel) (by decide +kernel)
    have longest := near.maxDelay (by decide +kernel) (by decide +kernel) p
    have mode := near.ringMode (by decide +kernel)
    have link := fields 0 (by decide) (by decide)
    generalize l.heardHello p h = x at place level port rate up permitted needs longest mode link
    have delays : x.ring.ports[p].delays = l.delaysWith p h := congrArg RingPort.delays port
    obtain ⟨keptLevel, said, fast, slow'⟩ := Lane.judgePort_kept place p h
    refine ⟨keptLevel.trans level, said.trans (congrArg RingPort.level port), fast.trans (congrArg RingPort.g1000 port),
      slow'.trans (congrArg RingPort.g100 port), fun early => ?_, fun many allowed => ?_⟩
    · have same : x.judgePort p h = x := by
        refine if_pos ?_
        rw [delays, permitted]
        exact early.imp_right fun barred => by rw [barred]; rfl
      rw [same]
      exact ⟨delays, congrArg RingPort.heardHello port, link⟩
    · have effects := Lane.judgePort_effects place p h (by rw [delays]; exact many) (permitted.trans allowed)
      rw [delays, rate, up, needs, longest, mode] at effects
      exact effects

/-! ### What a Virec frame does (R374, R376) -/

/-- A frame that carries no command does no more than it does as a frame of the ring. -/
theorem Lane.takeVirec_of_no_commands {l : Lane} {p : Port} {f : VirecIn} (none : l.commandsOf p f = []) :
    l.takeVirec p f = l.virecIn p f := by
  unfold Lane.takeVirec
  rw [none]
  rfl

/-- A frame of another type than CUE carries no command. -/
theorem Lane.commandsOf_of_type {l : Lane} {p : Port} {f : VirecIn} (type : (readHeader f.bytes).type ≠ 1) : l.commandsOf p f = [] := by
  refine if_neg ?_
  rintro ⟨-, cue, -⟩
  exact type cue

/-- A frame of which no cue is accepted carries no command. -/
theorem Lane.commandsOf_of_same {l : Lane} {p : Port} {f : VirecIn} (same : (l.virecIn p f).ring.accepted = l.ring.accepted) :
    l.commandsOf p f = [] := by
  refine if_neg ?_
  rintro ⟨-, -, taken, -⟩
  rw [same, bne_self_eq_false] at taken
  exact nomatch taken

theorem Lane.takeVirec_of_off {l : Lane} {p : Port} {f : VirecIn} (off : l.ringMode = .off) : l.takeVirec p f = l := by
  have same : l.virecIn p f = l := if_pos (.inl off)
  rw [Lane.takeVirec_of_no_commands (Lane.commandsOf_of_same (congrArg (·.ring.accepted) same)), same]

theorem Lane.takeVirec_of_down {l : Lane} {p : Port} {f : VirecIn} (down : l.portUp p = false) : l.takeVirec p f = l := by
  have same : l.virecIn p f = l := if_pos (.inr (by rw [down]; rfl))
  rw [Lane.takeVirec_of_no_commands (Lane.commandsOf_of_same (congrArg (·.ring.accepted) same)), same]

/-- The guards of a frame of the ring that is read: the ring is on, the port up, the FCS good, the version known. -/
structure Lane.Reads (l : Lane) (p : Port) (f : VirecIn) : Prop where
  on_ : l.ringMode ≠ .off
  up : l.portUp p = true
  fcs : fcsOk f.bytes = true
  virec : isVirec (l.get R.VR_ETYPE_ETYPE) f.bytes = true
  version : (readHeader f.bytes).version = 1

theorem Lane.Reads.not_off {l : Lane} {p : Port} (on_ : l.ringMode ≠ .off) (up : l.portUp p = true) :
    ¬(l.ringMode = .off ∨ (!l.portUp p) = true) := by
  rintro (off | down)
  · exact on_ off
  · rw [up] at down
    exact nomatch down

/-- A START that is read is taken, and does no more (R402). -/
theorem Lane.Reads.takeVirec_start {l : Lane} {p : Port} {f : VirecIn} (r : l.Reads p f) (type : (readHeader f.bytes).type = 2) :
    l.takeVirec p f = l.takeStart p (readHeader f.bytes) f.bytes := by
  rw [Lane.takeVirec_of_no_commands (Lane.commandsOf_of_type (by rw [type]; decide))]
  unfold Lane.virecIn
  rw [if_neg (Lane.Reads.not_off r.on_ r.up), if_neg (by rw [r.fcs]; decide), if_neg (by rw [r.virec]; decide),
    if_neg (not_not.2 r.version), type]
  rfl

/-- The counters of the cue windows of a port saturate. -/
theorem Lane.Sound.get_bump_pcCueErr {i : LaneId} {l : Lane} (hl : l.Sound i) (p : Port) :
    (l.bump (pcCueErr p)).get (pcCueErr p) = min (l.get (pcCueErr p) + 1) 255 := by
  rw [Lane.get_bump hl.wf _ ((by decide : ∀ p : Port, (pcCueErr p).lo + (pcCueErr p).width ≤ 32) p),
    (by decide : ∀ p : Port, (pcCueErr p).width = 8) p]
  rfl

/-- The own START has come back on a port; on both, the ring is up. -/
def Lane.startReturned (l : Lane) (p : Port) : Lane :=
  (l.onRing fun r => { r with returned := r.returned.set p true }).when
    ((l.ring.returned.set p true)[(0 : Port)] && (l.ring.returned.set p true)[(1 : Port)]) fun l => l.raise R.VR_EVT_RINGUP

/-- The START of a node of lower identifier wins: it is adopted and passed on. -/
def Lane.startLost (l : Lane) (p : Port) (h : RingHeader) (b : List Byte) : Lane :=
  ((l.adoptStart p (readStart h.src (readPayload b))).raise R.VR_EVT_STARTLOST).forwardStart p h (readStart h.src (readPayload b)) b

/-- A START is adopted within the cycle of the last one. -/
def Lane.startRecent (l : Lane) : Bool := match l.ring.adoptedIn with | some c => decide (l.ring.num ≤ c + 1) | none => false

/-- A listening node takes a START: adopted, or passed on, or an error beside one of a lower identifier. -/
def Lane.joinStart (l : Lane) (p : Port) (h : RingHeader) (b : List Byte) : Lane :=
  if l.startRecent ∧ l.get R.VR_STAT_STARTER < h.src then l.bump (pcCueErr p)
  else if l.startRecent ∧ l.get R.VR_STAT_STARTER = h.src ∧ l.ring.num = (readStart h.src (readPayload b)).cycle.toNat then
    l.forwardStart p h (readStart h.src (readPayload b)) b
  else (l.adoptStart p (readStart h.src (readPayload b))).forwardStart p h (readStart h.src (readPayload b)) b

/-- A START that is no sign of a duplicate identifier, by the ring's state. -/
def Lane.joinByStart (l : Lane) (p : Port) (h : RingHeader) (b : List Byte) : Lane :=
  match l.ringMode with
  | .off => l
  | .up => if h.src = l.node then l else l.bump (pcCueErr p)
  | .coldStart => if h.src = l.node then l.startReturned p else if h.src < l.node then l.startLost p h b else l.bump (pcCueErr p)
  | .listen | .integrate => if h.src = l.node ∨ l.ring.duplicate then l else l.joinStart p h b

/-- The lane with the ring state of an adopted START. -/
def Lane.startShown (l : Lane) (f : StartFrame) : Lane :=
  ((l.setRing .integrate).put R.VR_STAT_STARTER f.src).put R.VR_STAT_SHACT f.sheet

section
variable {i : LaneId} {l : Lane} (hl : l.Sound i)
include hl

theorem Lane.startShown_effects (f : StartFrame) (src : f.src < 1024) (sheet : f.sheet < 8) : (l.startShown f).Sound i ∧
    (l.startShown f).get R.VR_STAT_STATE = 3 ∧ (l.startShown f).get R.VR_STAT_STARTER = f.src ∧
    (l.startShown f).get R.VR_STAT_SHACT = f.sheet := by
  have ring := hl.setRing .integrate
  have state := Lane.get_STATE_setRing hl .integrate
  unfold Lane.startShown
  generalize l.setRing .integrate = x at ring state
  have named := ring.put R.VR_STAT_STARTER f.src
  refine ⟨named.put _ _, ?_, ?_, ?_⟩
  · exact (named.get_put_apart (g := R.VR_STAT_STATE) f.sheet).trans ((ring.get_put_apart (g := R.VR_STAT_STATE) f.src).trans state)
  · exact (named.get_put_apart (g := R.VR_STAT_STARTER) f.sheet).trans
      ((ring.get_put R.VR_STAT_STARTER f.src).trans (Nat.mod_eq_of_lt src))
  · exact (named.get_put R.VR_STAT_SHACT f.sheet).trans (Nat.mod_eq_of_lt sheet)

/-- An adopted START (R403). -/
theorem Lane.adoptStart_effects (p : Port) (f : StartFrame) (src : f.src < 1024) (sheet : f.sheet < 8) :
    (l.adoptStart p f).Sound i ∧ (l.adoptStart p f).get R.VR_STAT_STATE = 3 ∧
    (l.adoptStart p f).get R.VR_STAT_STARTER = f.src ∧ (l.adoptStart p f).get R.VR_STAT_SHACT = f.sheet ∧
    (l.adoptStart p f).ring.adoptedIn = some (l.adoptStart p f).ring.num := by
  obtain ⟨shown, state, starter, active⟩ := Lane.startShown_effects hl f src sheet
  have out : ∃ drift d n, l.adoptStart p f = ((((l.startShown f).putInt R.VR_DRIFT_D drift).onRing fun r =>
      { r with num := n, adoptedIn := some n, drift := d }).put R.VR_CYCNUM_NUM n) := ⟨_, _, _, rfl⟩
  obtain ⟨drift, d, n, out⟩ := out
  rw [out]
  generalize l.startShown f = x at shown state starter active
  have kept {g : Fld} (stat : regNo g.addr = 203) (y : Lane) (drifts : y.get g = (x.putInt R.VR_DRIFT_D drift).get g) :
      (y.put R.VR_CYCNUM_NUM n).get g = x.get g :=
    (Lane.get_put_elsewhere y n at_VR_CYCNUM.1 stat).trans (drifts.trans (Lane.get_put_elsewhere x _ at_VR_DRIFT.1 stat))
  exact ⟨((shown.put _ _).onRing _).put _ _, (kept at_VR_STAT.1 _ rfl).trans state, (kept at_VR_STAT.1 _ rfl).trans starter,
    (kept at_VR_STAT.1 _ rfl).trans active, rfl⟩

/-- A START that is adopted and passed on shows as it was adopted. -/
theorem Lane.forwardStart_kept (p : Port) (h : RingHeader) (f : StartFrame) (b : List Byte) :
    Lane.Near (2 ^ 324) l (l.forwardStart p h f b) := Lane.forwardStart_near (by decide +kernel) (.refl _ hl)

end

section
variable {i : LaneId} {l : Lane} (hl : l.Sound i) (p : Port)
include hl

/-- The own START that came back is noted, and with the one on the other port the ring is up (R402). -/
theorem Lane.startReturned_effects : (l.startReturned p).ring.returned[p] = true ∧
    (l.ring.returned[otherPort p] = true → (l.startReturned p).flag R.VR_EVT_RINGUP = true) := by
  have noted : (l.startReturned p).ring = { l.ring with returned := l.ring.returned.set p true } := by
    unfold Lane.startReturned Lane.when
    split <;> rfl
  have here : (l.ring.returned.set p true)[p] = true := Vector.getElem_set_self p.isLt
  refine ⟨(congrArg (fun r : RingState => r.returned[p]) noted).trans here, fun other => ?_⟩
  have both : ((l.ring.returned.set p true)[(0 : Port)] && (l.ring.returned.set p true)[(1 : Port)]) = true := by
    match p, here, other with
    | 0, here, other => exact Bool.and_eq_true_iff.2 ⟨here, (Vector.getElem_set_ne (i := 0) (j := 1) _ _ (by decide)).trans other⟩
    | 1, here, other => exact Bool.and_eq_true_iff.2 ⟨(Vector.getElem_set_ne (i := 1) (j := 0) _ _ (by decide)).trans other, here⟩
  rw [show l.startReturned p = _ from Lane.when_of_true _ both]
  exact Lane.flag_raise (l := l.onRing fun r => { r with returned := r.returned.set p true }) (hl.onRing _).wf _ (by decide) rfl

/-- A START of a lower identifier is adopted (R402, R403). -/
theorem Lane.startLost_effects (h : RingHeader) (b : List Byte) (src : h.src < 1024)
    (small : (readStart h.src (readPayload b)).sheet < 8) : (l.startLost p h b).flag R.VR_EVT_STARTLOST = true ∧
    (l.startLost p h b).get R.VR_STAT_STATE = 3 ∧ (l.startLost p h b).get R.VR_STAT_STARTER = h.src := by
  obtain ⟨place, state, starter, -⟩ := Lane.adoptStart_effects hl p (readStart h.src (readPayload b)) src small
  unfold Lane.startLost
  generalize l.adoptStart p (readStart h.src (readPayload b)) = x at place state starter
  have event := Lane.flag_raise place.wf R.VR_EVT_STARTLOST (by decide) rfl
  have near := Lane.forwardStart_kept (place.raise R.VR_EVT_STARTLOST) p h (readStart h.src (readPayload b)) b
  have kept {g : Fld} (stat : regNo g.addr = 203) : (x.raise R.VR_EVT_STARTLOST).get g = x.get g :=
    Lane.get_raise_elsewhere x ev_VR_EVT stat
  exact ⟨near.flag (by decide +kernel) (by decide +kernel) rfl event,
    (near.keep at_VR_STAT.1 (by decide +kernel)).trans ((kept at_VR_STAT.1).trans state),
    (near.keep at_VR_STAT.1 (by decide +kernel)).trans ((kept at_VR_STAT.1).trans starter)⟩

end

theorem Lane.joinByStart_of_up {l : Lane} {p : Port} {h : RingHeader} {b : List Byte} (ring : l.ringMode = .up) :
    l.joinByStart p h b = if h.src = l.node then l else l.bump (pcCueErr p) := by
  unfold Lane.joinByStart
  rw [ring]

theorem Lane.joinByStart_of_coldStart {l : Lane} {p : Port} {h : RingHeader} {b : List Byte} (ring : l.ringMode = .coldStart) :
    l.joinByStart p h b = if h.src = l.node then l.startReturned p else if h.src < l.node then l.startLost p h b
      else l.bump (pcCueErr p) := by
  unfold Lane.joinByStart
  rw [ring]

theorem Lane.joinByStart_of_joining {l : Lane} {p : Port} {h : RingHeader} {b : List Byte}
    (ring : l.ringMode = .listen ∨ l.ringMode = .integrate) :
    l.joinByStart p h b = if h.src = l.node ∨ l.ring.duplicate then l else l.joinStart p h b := by
  unfold Lane.joinByStart
  rcases ring with ring | ring
  · rw [ring]
  · rw [ring]

/-- A START that is no other node's of the own identifier is taken by the ring's state. -/
theorem Lane.takeStart_of_new {l : Lane} {p : Port} {h : RingHeader} {b : List Byte}
    (new : h.src ≠ l.node ∨ l.ring.ownStart = some (readStart h.src (readPayload b)).time) :
    l.takeStart p h b = l.joinByStart p h b := by
  refine if_neg ?_
  rintro ⟨own, twin⟩
  rcases new with other | mine
  · exact other own
  · exact twin mine

/-- START_FRAME (R402). -/
theorem does_startFrame (e : At) (p : Port) (f : VirecIn) (s : State) (hs : s.Runs e) :
    Does (.startFrame e p f) s (beatParts ++ [.ltime]) fun l m =>
      (l.ringMode = .off → m = l) ∧ (l.portUp p = false → m = l) ∧
      (l.portUp p = true → fcsOk f.bytes = true → isVirec (l.get R.VR_ETYPE_ETYPE) f.bytes = true →
        (readHeader f.bytes).version = 1 → (readHeader f.bytes).type = 2 →
        (l.ringMode ≠ .off → (readHeader f.bytes).src = l.node →
          l.ring.ownStart ≠ some (readStart (readHeader f.bytes).src (readPayload f.bytes)).time →
          m.flag R.VR_EVT_DUPID = true ∧ m.ringMode = .listen) ∧
        (l.ringMode = .up → (readHeader f.bytes).src ≠ l.node → m.get (pcCueErr p) = min (l.get (pcCueErr p) + 1) 255) ∧
        (l.ringMode = .coldStart → (readHeader f.bytes).src = l.node →
          l.ring.ownStart = some (readStart (readHeader f.bytes).src (readPayload f.bytes)).time →
          m.ring.returned[p] = true ∧ (l.ring.returned[otherPort p] = true → m.flag R.VR_EVT_RINGUP = true)) ∧
        (l.ringMode = .coldStart → l.node < (readHeader f.bytes).src →
          m.get (pcCueErr p) = min (l.get (pcCueErr p) + 1) 255) ∧
        (l.ringMode = .coldStart → (readHeader f.bytes).src < l.node →
          m.flag R.VR_EVT_STARTLOST = true ∧ m.get R.VR_STAT_STATE = 3 ∧
            m.get R.VR_STAT_STARTER = (readHeader f.bytes).src) ∧
        (l.ringMode = .listen ∨ l.ringMode = .integrate → (readHeader f.bytes).src ≠ l.node → l.ring.duplicate = false →
          l.ring.adoptedIn = none →
          m.get R.VR_STAT_STATE = 3 ∧ m.get R.VR_STAT_STARTER = (readHeader f.bytes).src ∧
          m.get R.VR_STAT_SHACT = (readStart (readHeader f.bytes).src (readPayload f.bytes)).sheet ∧
          m.ring.adoptedIn = some m.ring.num)) := by
  refine does_logic hs rfl execStartFrame_event rfl (by decide +kernel) fun hl => ?_
  generalize s.before (.startFrame e p f) = l at hl
  refine ⟨fun off => Lane.takeVirec_of_off off, fun down => Lane.takeVirec_of_down down, fun up fcs virec version type => ?_⟩
  have src : (readHeader f.bytes).src < 1024 := Nat.mod_lt _ (by decide)
  have small : (readStart (readHeader f.bytes).src (readPayload f.bytes)).sheet < 8 := Nat.mod_lt _ (by decide)
  have taken (on_ : l.ringMode ≠ .off) := Lane.Reads.takeVirec_start ⟨on_, up, fcs, virec, version⟩ type
  refine ⟨fun on_ own twin => ?_, fun ring other => ?_, fun ring own mine => ?_, fun ring later => ?_, fun ring sooner => ?_,
    fun ring other single new => ?_⟩
  · rw [taken on_]
    obtain ⟨event, listens, -⟩ := Lane.sameNode_effects hl
    rw [show l.takeStart p (readHeader f.bytes) f.bytes = l.sameNode from if_pos ⟨own, twin⟩]
    exact ⟨event, listens⟩
  · rw [taken (by rw [ring]; decide), Lane.takeStart_of_new (.inl other), Lane.joinByStart_of_up ring]
    rw [if_neg other]
    exact hl.get_bump_pcCueErr p
  · rw [taken (by rw [ring]; decide), Lane.takeStart_of_new (.inr mine), Lane.joinByStart_of_coldStart ring]
    rw [if_pos own]
    exact Lane.startReturned_effects hl p
  · rw [taken (by rw [ring]; decide), Lane.takeStart_of_new (.inl (Nat.ne_of_gt later)), Lane.joinByStart_of_coldStart ring]
    rw [if_neg (Nat.ne_of_gt later), if_neg (Nat.not_lt.2 (Nat.le_of_lt later))]
    exact hl.get_bump_pcCueErr p
  · rw [taken (by rw [ring]; decide), Lane.takeStart_of_new (.inl (Nat.ne_of_lt sooner)), Lane.joinByStart_of_coldStart ring]
    rw [if_neg (Nat.ne_of_lt sooner), if_pos sooner]
    exact Lane.startLost_effects hl p _ _ src small
  · rw [taken (by rcases ring with ring | ring <;> rw [ring] <;> decide), Lane.takeStart_of_new (.inl other),
      Lane.joinByStart_of_joining ring, if_neg (not_or.2 ⟨other, Bool.eq_false_iff.1 single⟩)]
    have old : ¬l.startRecent = true := by
      unfold Lane.startRecent
      rw [new]
      exact Bool.false_ne_true
    rw [show l.joinStart p (readHeader f.bytes) f.bytes = _ from (if_neg fun h => old h.1).trans (if_neg fun h => old h.1)]
    obtain ⟨place, state, starter, active, adopted⟩ := Lane.adoptStart_effects hl p
      (readStart (readHeader f.bytes).src (readPayload f.bytes)) src small
    generalize l.adoptStart p (readStart (readHeader f.bytes).src (readPayload f.bytes)) = x at place state starter active adopted
    have near := Lane.forwardStart_kept place p (readHeader f.bytes) (readStart (readHeader f.bytes).src (readPayload f.bytes)) f.bytes
    refine ⟨(near.keep at_VR_STAT.1 (by decide +kernel)).trans state, (near.keep at_VR_STAT.1 (by decide +kernel)).trans starter,
      (near.keep at_VR_STAT.1 (by decide +kernel)).trans active, ?_⟩
    rw [near.ring.adoptedIn (by decide +kernel), near.ring.num (by decide +kernel)]
    exact adopted

/-- Settles O39: each command of ports, HELLO, cold start and joining by its own lemma. -/
theorem ringJoining : Obligations.RingJoining :=
  ⟨does_phyLink, does_virecHelloSend, does_virecHello, does_rateTimeout, does_portBreak, does_coldStart, does_startFrame, does_reint⟩

end Sys2Proof.Machine

/-!
PROOFS. The Virec ring in a cycle: cues, windows, sheet change and the cue instant (R379, R388 to R390, R400).
-/

namespace Sys2Proof.Machine

-- one declaration at a time: each waits for the kernel, and a waiting one holds a thread and its stack
set_option Elab.async false

/-! ### The announcement of a sheet (R400) -/

/-- A change of sheet that shows as pending. -/
theorem Lane.Sound.pend_effects {i : LaneId} {l : Lane} (hl : l.Sound i) (k : Nat) :
    ((l.put R.VR_STAT_SHPEND k).raise R.VR_STAT_PEND).get R.VR_STAT_PEND = 1 ∧
    ((l.put R.VR_STAT_SHPEND k).raise R.VR_STAT_PEND).get R.VR_STAT_SHPEND = k % 8 := by
  have shown := hl.put R.VR_STAT_SHPEND k
  have value := hl.get_put R.VR_STAT_SHPEND k
  generalize l.put R.VR_STAT_SHPEND k = x at shown value
  exact ⟨shown.get_put R.VR_STAT_PEND 1, (shown.get_raise_apart (f := R.VR_STAT_PEND) (g := R.VR_STAT_SHPEND)).trans value⟩

/-- SHANN (R400). -/
theorem does_shann (e : At) (sheet : Fin 8) (s : State) (hs : s.Runs e) :
    Does (.shann e sheet) s [.reg R.VR_STAT, .ring] fun l m =>
      (l.mayAnnounce = false → m = l) ∧ ((l.ringPart.map fun r => r.ring.sheetMaster) ≠ some l.node → m = l) ∧
      (l.mayAnnounce = true → (l.ringPart.map fun r => r.ring.sheetMaster) = some l.node →
        m.get R.VR_STAT_PEND = 1 ∧ m.get R.VR_STAT_SHPEND = sheet.val ∧ m.ring.announce = true ∧
        (l.ring.sent = [] → m.ring.change = some (sheet.val, l.ring.num)) ∧
        ((l.ring.sent.any fun q => (l.cue q).any fun c => c.kind == 1) = true →
          m.ring.change = some (sheet.val, l.ring.num + 1))) := by
  refine does_logic hs rfl execShann_event rfl (by decide +kernel) fun hl => ?_
  generalize s.before (.shann e sheet) = l at hl
  refine ⟨fun barred => if_neg ?_, fun other => if_neg ?_, fun free master => ?_⟩
  · rintro ⟨free, -⟩
    exact absurd free (Bool.eq_false_iff.1 barred)
  · rintro ⟨-, master⟩
    exact other master
  · rw [show l.announce sheet.val = _ from if_pos ⟨free, master⟩]
    have changed := hl.onRing fun r => { r with
      change := some (sheet.val, if (l.ring.sent.any fun q => (l.cue q).any fun c => c.kind == 1) then r.num + 1 else r.num)
      announce := true }
    obtain ⟨pend, shown⟩ := changed.pend_effects sheet.val
    refine ⟨pend, shown.trans (Nat.mod_eq_of_lt sheet.isLt), rfl, fun none => ?_, fun left => ?_⟩
    · exact congrArg (fun n => some (sheet.val, n)) (if_neg (by rw [none]; exact Bool.false_ne_true))
    · exact congrArg (fun n => some (sheet.val, n)) (if_pos left)

/-! ### Own cues (R390) -/

/-- The lane once an own cue counts as sent. -/
def Lane.cueSent (l : Lane) (q : Nat) : Lane := l.onRing fun r => { r with sent := q :: r.sent }

/-- The frame of an own cue that goes out of a port. -/
def Lane.cueFrame (l : Lane) (p : Port) (q : Nat) (c : CueEntry) : Emission :=
  .ringFrame p (virecFrame (l.get R.VR_ETYPE_ETYPE) (l.ownHeader 1 q (l.members.length - 1) p false) (l.ownPayload q c))

/-- An own frame goes out of an admitted port that is not looped. -/
theorem Lane.sendOwn_of_up {l : Lane} {p : Port} (up : l.portUp p = true) (straight : l.flag (psLoop p) = false) (type cue hops : Nat)
    (pl : List Byte) : l.sendOwn type cue hops pl p =
      l.send (.ringFrame p (virecFrame (l.get R.VR_ETYPE_ETYPE) (l.ownHeader type cue hops p false) pl)) := by
  unfold Lane.sendOwn
  rw [straight]
  exact if_pos up

/-- What the leaving of a cue may change: the announcement of a restore, the counter of SYNC, the replies that wait. -/
def cueLeftMask : Nat :=
  maskOf [.reg R.VR_STAT, .reg R.VR_EVT, .seats] ||| 2 ^ 562 ||| 2 ^ 577 ||| 2 ^ 592 ||| 2 ^ 593 ||| 2 ^ 594 ||| 2 ^ 597

/-- What the sending of a cue keeps: the cues sent, and what has gone out. -/
theorem Lane.cueLeft_kept {i : LaneId} {l : Lane} (hl : l.Sound i) (c : CueEntry) :
    (l.cueLeft c).ring.sent = l.ring.sent ∧ (l.cueLeft c).emit = l.emit := by
  have near : Lane.Near cueLeftMask l (l.cueLeft c) :=
    Lane.cueLeft_near (by decide +kernel) (.refl _ hl)
  exact ⟨near.ring.sent (by decide +kernel), near.emit (by decide +kernel)⟩

/-- CUE_SEND (R390). -/
theorem does_cueSend (e : At) (cue late size : Nat) (s : State) (hs : s.Runs e) :
    Does (.cueSend e cue late size) s [.reg R.VR_STAT, .reg R.VR_EVT, .reg R.VR_NCNT, .emit, .seats, .ring] fun l m =>
      (l.cue cue = none → m = l) ∧
      (∀ c, l.cue cue = some c →
        c.owner ≠ l.node ∨ c.dir = 3 ∨ l.maySend c.kind = false ∨ cue ∈ l.ring.sent ∨ l.sinceCue + 32 < 40 * c.start
          → m = l) ∧
      (∀ c, l.cue cue = some c → c.owner = l.node → c.dir ≠ 3 → l.maySend c.kind = true → cue ∉ l.ring.sent →
        40 * (c.start : Int) ≤ l.sinceCue + 32 →
        m.ring.sent = cue :: l.ring.sent ∧
        (40 * (c.start : Int) + 2 * windowNs c.win < l.sinceCue + late ∨ c.len < max size (max 64 (30 + (l.ownPayload
          cue c).length)) →
          m.flag R.VR_EVT_TXGUARD = true ∧ m.get R.VR_NCNT_TXGUARD = min (l.get R.VR_NCNT_TXGUARD + 1) 65535 ∧
            m.emit = l.emit) ∧
        (l.sinceCue + late ≤ 40 * (c.start : Int) + 2 * windowNs c.win →
          max size (max 64 (30 + (l.ownPayload cue c).length)) ≤ c.len →
          c.dir = 0 → l.portUp 1 = true → l.flag (psLoop 1) = false →
          m.emit = .ringFrame 1 (virecFrame (l.get R.VR_ETYPE_ETYPE) (l.ownHeader 1 cue (l.members.length - 1) 1 false)
            (l.ownPayload cue c)) :: l.emit) ∧
        (l.sinceCue + late ≤ 40 * (c.start : Int) + 2 * windowNs c.win →
          max size (max 64 (30 + (l.ownPayload cue c).length)) ≤ c.len →
          c.dir = 1 → l.portUp 0 = true → l.flag (psLoop 0) = false →
          m.emit = .ringFrame 0 (virecFrame (l.get R.VR_ETYPE_ETYPE) (l.ownHeader 1 cue (l.members.length - 1) 0 false)
            (l.ownPayload cue c)) :: l.emit)) := by
  refine does_logic hs rfl execCueSend_event rfl (by decide +kernel) fun hl => ?_
  generalize s.before (.cueSend e cue late size) = l at hl
  refine ⟨fun none => by rw [none], fun c found barred => ?_, fun c found own dir may new due => ?_⟩
  · rw [found]
    refine if_pos (barred.imp_right (Or.imp_right (Or.imp ?_ (Or.imp_left List.contains_iff_mem.2))))
    intro mute
    rw [mute]
    rfl
  · rw [found]
    dsimp only
    have out : l.sendOwnCue cue c late size =
        if 40 * (c.start : Int) + 2 * windowNs c.win < l.sinceCue + late ∨ c.len < max size (max 64 (30 + (l.ownPayload cue c).length))
        then ((l.cueSent cue).bump R.VR_NCNT_TXGUARD).raise R.VR_EVT_TXGUARD
        else ((l.cueSent cue).sendCue cue c.dir (l.ownPayload cue c)).cueLeft c := by
      refine if_neg ?_
      rintro (other | out | mute | sent | early)
      · exact other own
      · exact dir out
      · rw [may] at mute
        exact nomatch mute
      · exact new (List.contains_iff_mem.1 sent)
      · exact Int.not_le.2 early due
    have sound : (l.cueSent cue).Sound _ := hl.onRing _
    have goes {p : Port} (up : l.portUp p = true) (straight : l.flag (psLoop p) = false) :
        (l.cueSent cue).sendOwn 1 cue (l.members.length - 1) (l.ownPayload cue c) p = (l.cueSent cue).send (l.cueFrame p cue c) :=
      Lane.sendOwn_of_up (l := l.cueSent cue) up straight 1 cue _ _
    have fits (ready : l.sinceCue + late ≤ 40 * (c.start : Int) + 2 * windowNs c.win)
        (short : max size (max 64 (30 + (l.ownPayload cue c).length)) ≤ c.len) :
        l.sendOwnCue cue c late size = ((l.cueSent cue).sendCue cue c.dir (l.ownPayload cue c)).cueLeft c :=
      out.trans (if_neg (not_or.2 ⟨Int.not_lt.2 ready, Nat.not_lt.2 short⟩))
    have leaves (p : Port) (sent : (l.cueSent cue).sendCue cue c.dir (l.ownPayload cue c) = (l.cueSent cue).sendOwn 1 cue
        (l.members.length - 1) (l.ownPayload cue c) p) (up : l.portUp p = true) (straight : l.flag (psLoop p) = false) :
        (((l.cueSent cue).sendCue cue c.dir (l.ownPayload cue c)).cueLeft c).emit = l.cueFrame p cue c :: l.emit := by
      rw [sent, goes up straight]
      have placed : ((l.cueSent cue).send (l.cueFrame p cue c)).Sound _ := sound.send _
      exact (Lane.cueLeft_kept placed c).2
    refine ⟨?_, fun refused => ?_, fun ready short east up straight => ?_, fun ready short west up straight => ?_⟩
    · rw [out]
      split
      · rfl
      · have near : Lane.Near (2 ^ 324) (l.cueSent cue) ((l.cueSent cue).sendCue cue c.dir (l.ownPayload cue c)) :=
          Lane.sendCue_near (by decide +kernel) (.refl _ sound)
        exact (Lane.cueLeft_kept (near.place sound) c).1.trans (near.ring.sent (by decide +kernel))
    · rw [out, if_pos refused]
      have counted := sound.bump R.VR_NCNT_TXGUARD
      have count : ((l.cueSent cue).bump R.VR_NCNT_TXGUARD).get R.VR_NCNT_TXGUARD = min (l.get R.VR_NCNT_TXGUARD + 1) 65535 :=
        Lane.get_bump sound.wf R.VR_NCNT_TXGUARD (by decide)
      have silent : ((l.cueSent cue).bump R.VR_NCNT_TXGUARD).emit = l.emit := rfl
      generalize (l.cueSent cue).bump R.VR_NCNT_TXGUARD = x at counted count silent
      exact ⟨Lane.flag_raise counted.wf _ (by decide) rfl,
        (Lane.get_raise_elsewhere x ev_VR_EVT at_VR_NCNT.1).trans count, silent⟩
    · rw [fits ready short]
      exact leaves 1 (by rw [east]; rfl) up straight
    · rw [fits ready short]
      exact leaves 0 (by rw [west]; rfl) up straight

/-! ### The counters of a port -/

/-- The fields of the two registers of a port's counters by number. -/
def pcField (p : Port) : Fin 6 → Fld
  | 0 => pcClean p
  | 1 => pcFcs p
  | 2 => pcWin p
  | 3 => pcEmpty p
  | 4 => pcCut p
  | 5 => pcCueErr p

section
variable {i : LaneId} {l : Lane} (hl : l.Sound i) (p : Port)
include hl

theorem Lane.Sound.get_bump_pc (k : Fin 6) :
    (l.bump (pcField p k)).get (pcField p k) = min (l.get (pcField p k) + 1) (2 ^ (pcField p k).width - 1) :=
  Lane.get_bump hl.wf _ ((by decide : ∀ (p : Port) (k : Fin 6), (pcField p k).lo + (pcField p k).width ≤ 32) p k)

theorem Lane.Sound.get_bump_pcClean : (l.bump (pcClean p)).get (pcClean p) = min (l.get (pcClean p) + 1) 65535 := by
  refine (hl.get_bump_pc p 0).trans ?_
  rw [(by decide : ∀ p : Port, 2 ^ (pcField p 0).width - 1 = 65535) p]
  rfl

theorem Lane.Sound.get_bump_pcFcs : (l.bump (pcFcs p)).get (pcFcs p) = min (l.get (pcFcs p) + 1) 255 := by
  refine (hl.get_bump_pc p 1).trans ?_
  rw [(by decide : ∀ p : Port, 2 ^ (pcField p 1).width - 1 = 255) p]
  rfl

theorem Lane.Sound.get_bump_pcWin : (l.bump (pcWin p)).get (pcWin p) = min (l.get (pcWin p) + 1) 255 := by
  refine (hl.get_bump_pc p 2).trans ?_
  rw [(by decide : ∀ p : Port, 2 ^ (pcField p 2).width - 1 = 255) p]
  rfl

theorem Lane.Sound.get_bump_pcEmpty : (l.bump (pcEmpty p)).get (pcEmpty p) = min (l.get (pcEmpty p) + 1) 65535 := by
  refine (hl.get_bump_pc p 3).trans ?_
  rw [(by decide : ∀ p : Port, 2 ^ (pcField p 3).width - 1 = 65535) p]
  rfl

end

/-- A mask without the first registers of the ports' counters keeps the clean frames, the FCS and the window errors. -/
theorem Lane.Near.pcField {M : Nat} {a b : Lane} (near : Lane.Near M a b) (west : M.testBit 211 = false)
    (east : M.testBit 212 = false) (p : Port) (k : Fin 6) (first : k < 3) : b.get (pcField p k) = a.get (pcField p k) := by
  refine near.keep ((by decide +kernel : ∀ (p : Port) (k : Fin 6), k < 3 → regNo (Machine.pcField p k).addr = 211 + p.val) p k first) ?_
  match p with
  | 0 => exact west
  | 1 => exact east

/-! ### Cue frames (R388) -/

/-- What the forwarding of a frame may change. -/
def forwardMask : Nat := 2 ^ 213 ||| 2 ^ 214 ||| 2 ^ 324

theorem Lane.near_forward {i : LaneId} {l : Lane} (hl : l.Sound i) (links : List Nat) (p : Port) (h : RingHeader) (len : Nat)
    (body : List Byte) (bad : Bool) : Lane.Near forwardMask l (l.forward links p h len body bad) :=
  Lane.forward_near (by decide +kernel) (.refl _ hl)

/-- A frame with a bad FCS is counted (R388). -/
theorem Lane.badFrameIn_effects {i : LaneId} {l : Lane} (hl : l.Sound i) (p : Port) (h : RingHeader) (f : VirecIn) :
    (l.badFrameIn p h f).get (pcFcs p) = min (l.get (pcFcs p) + 1) 255 ∧ (l.badFrameIn p h f).ring.accepted = l.ring.accepted := by
  have counted := hl.bump (pcFcs p)
  have count := hl.get_bump_pcFcs p
  have same : (l.bump (pcFcs p)).ring.accepted = l.ring.accepted := rfl
  unfold Lane.badFrameIn
  generalize l.bump (pcFcs p) = x at counted count same
  dsimp only
  split
  · have near := Lane.near_forward counted f.links p h 64 (frameBody f.bytes) true
    exact ⟨(near.pcField (by decide +kernel) (by decide +kernel) p 1 (by decide)).trans count,
      (near.ring.accepted (by decide +kernel)).trans same⟩
  · exact ⟨count, same⟩

/-- The flight of the frame that a listening node takes it for. -/
def Lane.heardFlight (l : Lane) (p : Port) (h : RingHeader) (f : VirecIn) : Option Flight :=
  (l.sheetOf h.sheet).bind fun s => (l.arrivals s f.links p).find? fun a => a.cue == h.cue && a.looped == h.looped

/-- A frame of no known flight is passed on (R393). -/
theorem Lane.listenCue_of_unknown {l : Lane} {p : Port} {h : RingHeader} {f : VirecIn} (unknown : l.heardFlight p h f = none) :
    l.listenCue p h f = (l.onRing fun r => { r with quiet := 0 }).forward f.links p h 64 (frameBody f.bytes) false := by
  unfold Lane.listenCue
  unfold Lane.heardFlight at unknown
  rw [unknown]

/-- A frame of a known flight is counted as clean, and its sheet kept (R393). -/
theorem Lane.listenCue_of_known {l : Lane} {p : Port} {h : RingHeader} {f : VirecIn} {a : Flight}
    (known : l.heardFlight p h f = some a) : ∃ (r : RingState) (len : Nat), r.quiet = 0 ∧ r.lastSheet = some h.sheet ∧
    l.listenCue p h f = ((l.onRing fun _ => r).bump (pcClean p)).forward f.links p h len (frameBody f.bytes) false := by
  unfold Lane.listenCue
  unfold Lane.heardFlight at known
  rw [known]
  exact ⟨_, _, rfl, rfl, rfl⟩

section
variable {i : LaneId} {l : Lane} (hl : l.Sound i) (p : Port) (h : RingHeader) (f : VirecIn)
include hl

/-- A known flight: the sheet it was heard by stands, and the clean frame is counted. -/
theorem Lane.listenCue_known_effects {a : Flight} (known : l.heardFlight p h f = some a) :
    (l.listenCue p h f).ring.quiet = 0 ∧ (l.listenCue p h f).ring.lastSheet = some h.sheet ∧
    (l.listenCue p h f).get (pcClean p) = min (l.get (pcClean p) + 1) 65535 := by
  obtain ⟨r, len, quiet, last, out⟩ := Lane.listenCue_of_known known
  have heard := hl.onRing fun _ => r
  have count := heard.get_bump_pcClean p
  have near := Lane.near_forward (heard.bump (pcClean p)) f.links p h len (frameBody f.bytes) false
  rw [out]
  exact ⟨(near.ring.quiet (by decide +kernel)).trans quiet, (near.ring.lastSheet (by decide +kernel)).trans last,
    (near.pcField (by decide +kernel) (by decide +kernel) p 0 (by decide)).trans count⟩

/-- Each frame ends the quiet of a listening node. -/
theorem Lane.listenCue_quiet : (l.listenCue p h f).ring.quiet = 0 := by
  match known : l.heardFlight p h f with
  | some a => exact (Lane.listenCue_known_effects hl p h f known).1
  | none =>
    have near := Lane.near_forward (hl.onRing fun r => { r with quiet := 0 }) f.links p h 64 (frameBody f.bytes) false
    rw [Lane.listenCue_of_unknown known]
    exact near.ring.quiet (by decide +kernel)

end

/-- A frame outside every window (R388). -/
theorem Lane.judgeCue_of_no_window {l : Lane} {p : Port} {h : RingHeader} {f : VirecIn} (none : l.windowsNow p f.links = []) :
    l.judgeCue p h f = l.nextChoice.bump (pcWin p) := by
  unfold Lane.judgeCue
  rw [none]

/-- A frame in a window that its header does not name (R388). -/
theorem Lane.judgeCue_of_misfit {l : Lane} {p : Port} {h : RingHeader} {f : VirecIn} {w : Window} {ws : List Window}
    (open_ : l.windowsNow p f.links = w :: ws) (misfit : (l.windowsNow p f.links).find? (l.headerFits h) = none) :
    l.judgeCue p h f = (l.nextChoice.onRing fun r => { r with met := (p, w.at_.cue, w.at_.looped) :: r.met }).bump (pcCueErr p) := by
  unfold Lane.judgeCue
  dsimp only
  rw [misfit, open_]

/-- The lane once a frame of a window has been met. -/
def Lane.cueMet (l : Lane) (p : Port) (h : RingHeader) : Lane :=
  l.nextChoice.onRing fun r => { r with met := (p, h.cue, h.looped) :: r.met }

/-- The lane once a frame on time has come by a port. -/
def Lane.cueArrived (l : Lane) (p : Port) (h : RingHeader) : Lane :=
  (l.cueMet p h).onRing fun r => { r with emptyRun := r.emptyRun.set p false }

/-- A frame whose header names its window (R388). -/
theorem Lane.judgeCue_of_fit {l : Lane} {p : Port} {h : RingHeader} {f : VirecIn} {w : Window}
    (fit : (l.windowsNow p f.links).find? (l.headerFits h) = some w) : l.judgeCue p h f =
      if w.entry.len < f.bytes.length then
        ((l.cueMet p h).bump (pcWin p)).forward f.links p h w.entry.len (f.bytes.take (w.entry.len - 4)) true
      else if l.ring.met.contains (p, h.cue, h.looped) then (l.cueMet p h).bump (pcWin p)
      else (if l.ring.accepted.any (fun a => a.cue == h.cue) then l.cueArrived p h else (l.cueArrived p h).acceptCue p w h f).forward
        f.links p h w.entry.len (frameBody f.bytes) false := by
  unfold Lane.judgeCue
  dsimp only
  rw [fit]
  match l.windowsNow p f.links, fit with
  | _ :: _, _ => rfl

/-! ### Commands in cues (R380) -/

/-- A sheet is found by its own number. -/
theorem Lane.sheetOf_num {l : Lane} {k : Nat} {s : CueSheet} (found : l.sheetOf k = some s) : l.sheetOf s.num = some s := by
  obtain ⟨r, part, found'⟩ := Option.bind_eq_some_iff.1 found
  have num : s.num = k := beq_iff_eq.1 (List.find?_some (p := fun s : CueSheet => s.num == k) found')
  rw [num, found]

/-- The sheet of an open window is found by its number. -/
theorem Lane.sheetOf_window {l : Lane} {p : Port} {links : List Nat} {w : Window} (open_ : w ∈ l.windowsNow p links) :
    l.sheetOf w.sheet.num = some w.sheet := by
  obtain ⟨s, sheet, flights⟩ := List.mem_flatMap.1 open_
  obtain ⟨a, -, windows⟩ := List.mem_flatMap.1 flights
  obtain ⟨k, -, made⟩ := List.mem_filterMap.1 windows
  have same : w.sheet = s := by
    dsimp only at made
    split at made
    · exact (Option.some.inj made) ▸ rfl
    · exact nomatch made
  rw [same]
  rcases List.mem_append.1 sheet with active | pending
  · exact Lane.sheetOf_num (Option.mem_toList.1 active)
  · obtain ⟨n, -, found⟩ := Option.bind_eq_some_iff.1 (Option.mem_toList.1 pending)
    exact Lane.sheetOf_num found

/-- The cue that a fitting header names is its window's. -/
theorem Lane.cue_of_fit {l : Lane} {p : Port} {links : List Nat} {h : RingHeader} {w : Window}
    (fit : (l.windowsNow p links).find? (l.headerFits h) = some w) :
    ((l.sheetOf h.sheet).bind fun s => s.cues[h.cue]?) = w.sheet.cues[w.at_.cue]? := by
  have named : l.headerFits h w = true := List.find?_some fit
  unfold Lane.headerFits at named
  simp only [Bool.and_eq_true, beq_iff_eq] at named
  obtain ⟨⟨⟨⟨cue, -⟩, sheet⟩, -⟩, -⟩ := named
  rw [sheet, Lane.sheetOf_window (List.mem_of_find?_eq_some fit), cue]
  rfl

/-- A frame of a window that is no COMMAND cue carries no command. -/
theorem Lane.commandsOf_of_fit {l : Lane} {p : Port} {f : VirecIn} {w : Window}
    (fit : (l.windowsNow p f.links).find? (l.headerFits (readHeader f.bytes)) = some w) (plain : w.entry.kind ≠ 3) :
    l.commandsOf p f = [] := by
  refine if_neg ?_
  rintro ⟨-, -, -, command⟩
  rw [Lane.cue_of_fit fit] at command
  obtain ⟨c, found, kind⟩ := (Option.any_eq_true _ _).1 command
  have entry : w.entry = c := by
    unfold Window.entry
    rw [List.getD_eq_getElem?_getD, found]
    rfl
  exact plain ((congrArg CueEntry.kind entry).trans (beq_iff_eq.1 kind))

/-! ### The acceptance of a cue (R380) -/

/-- The lane once a clean first copy counts as accepted. -/
def Lane.cueTaken (l : Lane) (p : Port) (w : Window) (h : RingHeader) (f : VirecIn) : Lane :=
  (l.bump (pcClean p)).onRing fun r => { r with
    accepted := r.accepted ++ [⟨h.cue, h.src, w.dev, h.sheet⟩], empty := r.empty.filter (· != h.cue)
    emptyRun := (l.cuePorts w.sheet f.links h.cue).foldl (fun (v : Vector Bool 2) (p : Port) => v.set p false)
      r.emptyRun }

/-- The lane once the payload of a cue waits for its publication. -/
def Lane.cueQueued (l : Lane) (w : Window) (h : RingHeader) (f : VirecIn) : Lane :=
  (l.onRing fun r => { r with
    queue := r.queue ++ [(h.cue, w.entry.kind == 4, readPayload f.bytes)], fill := r.fill + f.bytes.length }).showFill

/-- A DATA or SEALED cue that fits is accepted and queued. -/
theorem Lane.acceptCue_of_data {l : Lane} {p : Port} {w : Window} {h : RingHeader} {f : VirecIn} (data : w.entry.kind = 0 ∨ w.entry.kind = 4)
    (room : l.ring.fill + l.ring.fillPrev + f.bytes.length ≤ 458752) :
    l.acceptCue p w h f = (l.cueTaken p w h f).cueQueued w h f := by
  unfold Lane.acceptCue
  dsimp only
  rw [if_neg fun full => Nat.not_lt.2 room full.2]
  split
  next control => omega
  next sync => omega
  next command => omega
  next => rfl

/-- An accepted DATA or SEALED cue: it counts as accepted and clean, and its payload waits. -/
theorem Lane.acceptCue_data_effects {i : LaneId} {l : Lane} (hl : l.Sound i) {p : Port} {w : Window} {h : RingHeader} {f : VirecIn}
    (data : w.entry.kind = 0 ∨ w.entry.kind = 4) (room : l.ring.fill + l.ring.fillPrev + f.bytes.length ≤ 458752) :
    (l.acceptCue p w h f).Sound i ∧
    (l.acceptCue p w h f).ring.accepted = l.ring.accepted ++ [⟨h.cue, h.src, w.dev, h.sheet⟩] ∧
    (l.acceptCue p w h f).ring.queue = l.ring.queue ++ [(h.cue, w.entry.kind == 4, readPayload f.bytes)] ∧
    (l.acceptCue p w h f).get (pcClean p) = min (l.get (pcClean p) + 1) 65535 := by
  rw [Lane.acceptCue_of_data data room]
  have taken : (l.cueTaken p w h f).Sound i := (hl.bump _).onRing _
  have count : (l.cueTaken p w h f).get (pcClean p) = min (l.get (pcClean p) + 1) 65535 := hl.get_bump_pcClean p
  have accepted : (l.cueTaken p w h f).ring.accepted = l.ring.accepted ++ [⟨h.cue, h.src, w.dev, h.sheet⟩] := rfl
  have queue : (l.cueTaken p w h f).ring.queue = l.ring.queue := rfl
  generalize l.cueTaken p w h f = x at taken count accepted queue
  have queued := taken.onRing fun r => { r with
    queue := r.queue ++ [(h.cue, w.entry.kind == 4, readPayload f.bytes)], fill := r.fill + f.bytes.length }
  have near : Lane.Near (2 ^ 259) _ (x.cueQueued w h f) := Lane.showFill_near (by decide +kernel) (.refl _ queued)
  exact ⟨near.place queued, (near.ring.accepted (by decide +kernel)).trans accepted,
    (near.ring.queue (by decide +kernel)).trans (congrArg (· ++ _) queue),
    (near.pcField (by decide +kernel) (by decide +kernel) p 0 (by decide)).trans count⟩

/-! ### A cue frame by what it is (R388) -/

/-- A CUE of another node that is read is heard or judged. -/
theorem Lane.Reads.virecIn_cue {l : Lane} {p : Port} {f : VirecIn} (r : l.Reads p f) (type : (readHeader f.bytes).type = 1)
    (other : (readHeader f.bytes).src ≠ l.node) :
    l.virecIn p f = if l.ringMode = .listen then l.listenCue p (readHeader f.bytes) f else l.judgeCue p (readHeader f.bytes) f := by
  unfold Lane.virecIn
  rw [if_neg (Lane.Reads.not_off r.on_ r.up), if_neg (by rw [r.fcs]; decide), if_neg (by rw [r.virec]; decide),
    if_neg (not_not.2 r.version), type]
  exact if_neg other

/-- An own CUE that comes back is let alone. -/
theorem Lane.Reads.virecIn_own {l : Lane} {p : Port} {f : VirecIn} (r : l.Reads p f) (type : (readHeader f.bytes).type = 1)
    (own : (readHeader f.bytes).src = l.node) : l.virecIn p f = l := by
  unfold Lane.virecIn
  rw [if_neg (Lane.Reads.not_off r.on_ r.up), if_neg (by rw [r.fcs]; decide), if_neg (by rw [r.virec]; decide),
    if_neg (not_not.2 r.version), type]
  exact if_pos own

/-- A frame by which no cue is accepted does no more than it does as a frame of the ring. -/
theorem Lane.takeVirec_of_same {l m : Lane} {p : Port} {f : VirecIn} (out : l.virecIn p f = m)
    (same : m.ring.accepted = l.ring.accepted) : l.takeVirec p f = m := by
  rw [Lane.takeVirec_of_no_commands (Lane.commandsOf_of_same (by rw [out, same])), out]

/-- A listening node takes no command. -/
theorem Lane.Reads.takeVirec_listen {l : Lane} {p : Port} {f : VirecIn} (r : l.Reads p f) (type : (readHeader f.bytes).type = 1)
    (other : (readHeader f.bytes).src ≠ l.node) (listens : l.ringMode = .listen) :
    l.takeVirec p f = l.listenCue p (readHeader f.bytes) f := by
  have none : l.commandsOf p f = [] := by
    refine if_neg ?_
    rintro ⟨on_, -⟩
    unfold Lane.ringOn at on_
    rw [listens] at on_
    exact nomatch on_
  rw [Lane.takeVirec_of_no_commands none, r.virecIn_cue type other, if_pos listens]

/-- CUE_FRAME (R388). -/
theorem does_cueFrame (e : At) (p : Port) (f : VirecIn) (s : State) (hs : s.Runs e) :
    Does (.cueFrame e p f) s (beatParts ++ [.ltime]) fun l m =>
      (l.ringMode = .off → m = l) ∧ (l.portUp p = false → m = l) ∧
      (l.ringMode ≠ .off → l.portUp p = true →
        (fcsOk f.bytes = false → m.get (pcFcs p) = min (l.get (pcFcs p) + 1) 255) ∧
        (fcsOk f.bytes = true → isVirec (l.get R.VR_ETYPE_ETYPE) f.bytes = false → m = l) ∧
        (fcsOk f.bytes = true → isVirec (l.get R.VR_ETYPE_ETYPE) f.bytes = true → (readHeader f.bytes).version ≠ 1 →
          m.get (pcWin p) = min (l.get (pcWin p) + 1) 255) ∧
        (fcsOk f.bytes = true → isVirec (l.get R.VR_ETYPE_ETYPE) f.bytes = true → (readHeader f.bytes).version = 1 →
          (readHeader f.bytes).type = 1 → (readHeader f.bytes).src = l.node → m = l) ∧
        (fcsOk f.bytes = true → isVirec (l.get R.VR_ETYPE_ETYPE) f.bytes = true → (readHeader f.bytes).version = 1 →
          (readHeader f.bytes).type = 1 → (readHeader f.bytes).src ≠ l.node →
          (l.ringMode = .listen → m.ring.quiet = 0) ∧
          (∀ sh a, l.ringMode = .listen → l.sheetOf (readHeader f.bytes).sheet = some sh →
            ((l.arrivals sh f.links p).find? fun a => a.cue == (readHeader f.bytes).cue && a.looped == (readHeader
              f.bytes).looped) = some a →
            m.ring.lastSheet = some (readHeader f.bytes).sheet ∧
              m.get (pcClean p) = min (l.get (pcClean p) + 1) 65535) ∧
          (l.ringMode ≠ .listen → l.windowsNow p f.links = [] →
            m.get (pcWin p) = min (l.get (pcWin p) + 1) 255 ∧ m.ring.accepted = l.ring.accepted) ∧
          (l.ringMode ≠ .listen → l.windowsNow p f.links ≠ [] →
            (l.windowsNow p f.links).find? (l.headerFits (readHeader f.bytes)) = none →
            m.get (pcCueErr p) = min (l.get (pcCueErr p) + 1) 255 ∧ m.ring.accepted = l.ring.accepted) ∧
          (∀ w, l.ringMode ≠ .listen → (l.windowsNow p f.links).find? (l.headerFits (readHeader f.bytes)) = some w →
            (w.entry.len < f.bytes.length → m.get (pcWin p) = min (l.get (pcWin p) + 1) 255 ∧
              m.ring.accepted = l.ring.accepted) ∧
            (f.bytes.length ≤ w.entry.len →
              (p, (readHeader f.bytes).cue, (readHeader f.bytes).looped) ∉ l.ring.met →
              (∀ a ∈ l.ring.accepted, a.cue ≠ (readHeader f.bytes).cue) →
              w.entry.kind = 0 ∨ w.entry.kind = 4 → l.ring.fill + l.ring.fillPrev + f.bytes.length ≤ 458752 →
              m.ring.accepted = l.ring.accepted ++ [⟨(readHeader f.bytes).cue, (readHeader f.bytes).src, w.dev,
                (readHeader f.bytes).sheet⟩] ∧
              m.ring.queue = l.ring.queue ++ [((readHeader f.bytes).cue, w.entry.kind == 4, readPayload f.bytes)] ∧
              m.get (pcClean p) = min (l.get (pcClean p) + 1) 65535)))) := by
  refine does_logic hs rfl execCueFrame_event rfl (by decide +kernel) fun hl => ?_
  generalize s.before (.cueFrame e p f) = l at hl
  refine ⟨fun off => Lane.takeVirec_of_off off, fun down => Lane.takeVirec_of_down down, fun on_ up =>
    ⟨fun bad => ?_, fun fcs alien => ?_, fun fcs virec version => ?_, fun fcs virec version type own => ?_,
      fun fcs virec version type other => ⟨fun listens => ?_, fun sh a listens sheet flight => ?_, fun synced none => ?_,
        fun synced some misfit => ?_, fun w synced fit => ?_⟩⟩⟩
  · obtain ⟨count, same⟩ := Lane.badFrameIn_effects hl p (readHeader f.bytes) f
    rw [Lane.takeVirec_of_same ((if_neg (Lane.Reads.not_off on_ up)).trans (if_pos (by rw [bad]; rfl))) same]
    exact count
  · exact Lane.takeVirec_of_same ((if_neg (Lane.Reads.not_off on_ up)).trans ((if_neg (by rw [fcs]; decide)).trans
      (if_pos (by rw [alien]; rfl)))) rfl
  · have out : l.virecIn p f = l.bump (pcWin p) := (if_neg (Lane.Reads.not_off on_ up)).trans ((if_neg (by rw [fcs]; decide)).trans
      ((if_neg (by rw [virec]; decide)).trans (if_pos version)))
    rw [Lane.takeVirec_of_same out rfl]
    exact hl.get_bump_pcWin p
  · exact Lane.takeVirec_of_same (Lane.Reads.virecIn_own ⟨on_, up, fcs, virec, version⟩ type own) rfl
  · rw [Lane.Reads.takeVirec_listen ⟨on_, up, fcs, virec, version⟩ type other listens]
    exact Lane.listenCue_quiet hl p _ f
  · have known : l.heardFlight p (readHeader f.bytes) f = some a := by
      unfold Lane.heardFlight
      rw [sheet]
      exact flight
    rw [Lane.Reads.takeVirec_listen ⟨on_, up, fcs, virec, version⟩ type other listens]
    exact (Lane.listenCue_known_effects hl p _ f known).2
  · have out : l.virecIn p f = l.nextChoice.bump (pcWin p) := by
      rw [Lane.Reads.virecIn_cue ⟨on_, up, fcs, virec, version⟩ type other, if_neg synced, Lane.judgeCue_of_no_window none]
    rw [Lane.takeVirec_of_same out rfl]
    exact ⟨hl.nextChoice.get_bump_pcWin p, rfl⟩
  · obtain ⟨w, ws, open_⟩ := List.exists_cons_of_ne_nil some
    have out : l.virecIn p f =
        (l.nextChoice.onRing fun r => { r with met := (p, w.at_.cue, w.at_.looped) :: r.met }).bump (pcCueErr p) := by
      rw [Lane.Reads.virecIn_cue ⟨on_, up, fcs, virec, version⟩ type other, if_neg synced, Lane.judgeCue_of_misfit open_ misfit]
    rw [Lane.takeVirec_of_same out rfl]
    exact ⟨(hl.nextChoice.onRing fun r => { r with met := (p, w.at_.cue, w.at_.looped) :: r.met }).get_bump_pcCueErr p, rfl⟩
  · have out : l.virecIn p f = l.judgeCue p (readHeader f.bytes) f := by
      rw [Lane.Reads.virecIn_cue ⟨on_, up, fcs, virec, version⟩ type other, if_neg synced]
    rw [Lane.judgeCue_of_fit fit] at out
    have met : (l.cueMet p (readHeader f.bytes)).Sound _ := hl.nextChoice.onRing _
    refine ⟨fun long => ?_, fun short new free data room => ?_⟩
    · rw [if_pos long] at out
      have count : ((l.cueMet p (readHeader f.bytes)).bump (pcWin p)).get (pcWin p) = min (l.get (pcWin p) + 1) 255 :=
        met.get_bump_pcWin p
      have same : ((l.cueMet p (readHeader f.bytes)).bump (pcWin p)).ring.accepted = l.ring.accepted := rfl
      have counted := met.bump (pcWin p)
      generalize (l.cueMet p (readHeader f.bytes)).bump (pcWin p) = x at out counted count same
      have near := Lane.near_forward counted f.links p (readHeader f.bytes) w.entry.len (f.bytes.take (w.entry.len - 4)) true
      have kept := (near.ring.accepted (by decide +kernel)).trans same
      rw [Lane.takeVirec_of_same out kept]
      exact ⟨(near.pcField (by decide +kernel) (by decide +kernel) p 2 (by decide)).trans count, kept⟩
    · rw [if_neg (Nat.not_lt.2 short), if_neg (fun again => new (List.contains_iff_mem.1 again)), if_neg ?_] at out
      · rw [Lane.takeVirec_of_no_commands (Lane.commandsOf_of_fit fit (by omega)), out]
        obtain ⟨place, accepted, queue, clean⟩ := Lane.acceptCue_data_effects (l := l.cueArrived p (readHeader f.bytes))
          (met.onRing _) (p := p) (h := readHeader f.bytes) data room
        have clean' : ((l.cueArrived p (readHeader f.bytes)).acceptCue p w (readHeader f.bytes) f).get (pcClean p) =
          min (l.get (pcClean p) + 1) 65535 := clean
        generalize (l.cueArrived p (readHeader f.bytes)).acceptCue p w (readHeader f.bytes) f = x at place accepted queue clean'
        have near := Lane.near_forward place f.links p (readHeader f.bytes) w.entry.len (frameBody f.bytes) false
        exact ⟨(near.ring.accepted (by decide +kernel)).trans accepted, (near.ring.queue (by decide +kernel)).trans queue,
          (near.pcField (by decide +kernel) (by decide +kernel) p 0 (by decide)).trans clean'⟩
      · rw [List.any_eq_true]
        rintro ⟨a, taken, same⟩
        exact free a taken (beq_iff_eq.1 same)

/-! ### Empty cues (R389, R405) -/

/-- A port on which a cue stayed empty: it is counted, and the second one in succession breaks it. -/
def Lane.emptyOn (l : Lane) (p : Port) : Lane :=
  if l.portUp p then
    if l.ring.emptyRun[p] then ((l.bump (pcEmpty p)).onRing fun r => { r with emptyRun := r.emptyRun.set p true }).breakPort p
    else (l.bump (pcEmpty p)).onRing fun r => { r with emptyRun := r.emptyRun.set p true }
  else l

/-- The lane once a cue counts as empty. -/
def Lane.cueEmpty (l : Lane) (q : Nat) : Lane := l.onRing fun r => { r with empty := q :: r.empty }

/-- The flights of a cue on both ports. -/
def Lane.cueFlights (l : Lane) (s : CueSheet) (links : List Nat) (q : Nat) : List Flight :=
  ([0, 1] : List Port).flatMap fun p => (l.arrivals s links p).filter fun f => f.cue == q

theorem Lane.mem_cueFlights {l : Lane} {s : CueSheet} {links : List Nat} {q : Nat} {f : Flight} :
    f ∈ l.cueFlights s links q ↔ ∃ p : Port, f ∈ l.arrivals s links p ∧ f.cue = q := by
  unfold Lane.cueFlights
  constructor
  · intro mem
    obtain ⟨p, -, flight⟩ := List.mem_flatMap.1 mem
    obtain ⟨arrives, cue⟩ := List.mem_filter.1 flight
    exact ⟨p, arrives, beq_iff_eq.1 cue⟩
  · rintro ⟨p, arrives, cue⟩
    exact List.mem_flatMap.2 ⟨p, (by decide : ∀ p : Port, p ∈ ([0, 1] : List Port)) p, List.mem_filter.2 ⟨arrives, beq_iff_eq.2 cue⟩⟩

/-- The guards of an empty cue do not hold, or the sheet in use names no such cue. -/
theorem Lane.emptyCue_of_idle {l : Lane} {q : Nat} {links : List Nat}
    (idle : l.ringOn = false ∨ (l.ring.accepted.any fun a => a.cue == q) = true ∨ q ∈ l.ring.empty ∨ l.sheet = none) :
    l.emptyCue q links = l := by
  unfold Lane.emptyCue
  match sheet : l.sheet, l.cue q with
  | some s, some c =>
    refine if_pos ?_
    rcases idle with off | taken | empty | none
    · exact .inl (by rw [off]; rfl)
    · exact .inr (.inl taken)
    · exact .inr (.inr (.inl (List.contains_iff_mem.2 empty)))
    · rw [sheet] at none
      exact nomatch none
  | some s, none => rfl
  | none, _ => rfl

/-- A cue whose windows have passed without a frame is empty on each of its ports (R389). -/
theorem Lane.emptyCue_of_due {l : Lane} {q : Nat} {links : List Nat} {s : CueSheet} {c : CueEntry} (on_ : l.ringOn = true)
    (free : (l.ring.accepted.any fun a => a.cue == q) = false) (new : q ∉ l.ring.empty) (sheet : l.sheet = some s)
    (cue : l.cue q = some c) (due : l.cueFlights s links q ≠ [])
    (passed : ∀ f ∈ l.cueFlights s links q, (f.at_ + l.ring.drift + 4 * windowNs c.win) % l.cycleQ ≤ l.sinceCue) :
    l.emptyCue q links = (l.cuePorts s links q).foldl Lane.emptyOn (l.cueEmpty q) := by
  unfold Lane.emptyCue
  rw [sheet, cue]
  dsimp only
  refine if_neg ?_
  rintro (off | taken | empty | none | early)
  · rw [on_] at off
    exact nomatch off
  · exact absurd taken (Bool.eq_false_iff.1 free)
  · exact new (List.contains_iff_mem.1 empty)
  · exact due (List.isEmpty_iff.1 none)
  · have all : (l.cueFlights s links q).all (fun f => decide ((f.at_ + l.ring.drift + 4 * windowNs c.win) % l.cycleQ ≤ l.sinceCue)) = true :=
      List.all_eq_true.2 fun f mem => decide_eq_true (passed f mem)
    rw [Bool.not_eq_true'] at early
    exact absurd all (Bool.eq_false_iff.1 early)

/-- What an empty cue on a port may change. -/
def emptyMask : Nat := 2 ^ 213 ||| 2 ^ 214 ||| 2 ^ 568 ||| brokenMask

/-- The lane once a port's empty cue is counted. -/
def Lane.emptyCounted (l : Lane) (p : Port) : Lane :=
  (l.bump (pcEmpty p)).onRing fun r => { r with emptyRun := r.emptyRun.set p true }

section
variable {i : LaneId} {l : Lane} (hl : l.Sound i) (p : Port)
include hl

theorem Lane.emptyCounted_effects : (l.emptyCounted p).Sound i ∧ Lane.Near emptyMask l (l.emptyCounted p) ∧
    (l.emptyCounted p).get (pcEmpty p) = min (l.get (pcEmpty p) + 1) 65535 ∧ (l.emptyCounted p).ring.emptyRun[p] = true ∧
    (l.emptyCounted p).get (psLink p) = l.get (psLink p) := by
  have counted : Lane.Near emptyMask l (l.bump (pcEmpty p)) := Lane.bump_near
    ((by decide +kernel : ∀ p : Port, Put (pcEmpty p).addr emptyMask) p) (.refl _ hl)
  refine ⟨(hl.bump _).onRing _, ?_, hl.get_bump_pcEmpty p, Vector.getElem_set_self p.isLt, ?_⟩
  · exact Lane.onRing_near (f := fun r => { r with emptyRun := r.emptyRun.set p true })
      { RingState.Near.refl l.ring with emptyRun := not_bit (by decide +kernel) } counted
  · exact Lane.get_put_of_ne l _ ((by decide : ∀ p : Port, (psLink p).addr ≠ (pcEmpty p).addr) p)

theorem Lane.near_emptyOn : Lane.Near emptyMask l (l.emptyOn p) := by
  obtain ⟨place, near, -⟩ := Lane.emptyCounted_effects hl p
  refine Lane.near_ite (Lane.near_ite ?_ near) (.refl _ hl)
  exact near.trans ((Lane.near_breakPort_of_sound place p).mono (by decide +kernel))

/-- An empty cue on an admitted port: counted, and at the second one in succession the port is broken (R405). -/
theorem Lane.emptyOn_effects (up : l.portUp p = true) :
    (l.emptyOn p).get (pcEmpty p) = min (l.get (pcEmpty p) + 1) 65535 ∧ (l.emptyOn p).ring.emptyRun[p] = true ∧
    (l.ring.emptyRun[p] = true → (l.emptyOn p).get (psLink p) = 3 ∧ (l.emptyOn p).flag R.VR_EVT_BREAK = true) := by
  obtain ⟨place, -, count, run, link⟩ := Lane.emptyCounted_effects hl p
  have out : l.emptyOn p = if l.ring.emptyRun[p] then (l.emptyCounted p).breakPort p else l.emptyCounted p := if_pos up
  rw [out]
  have linked : l.get (psLink p) = 2 := beq_iff_eq.1 up
  generalize l.emptyCounted p = x at place count run link
  by_cases second : l.ring.emptyRun[p] = true
  · obtain ⟨-, broken, -, -, event⟩ := Lane.breakPort_effects place p
    have near := Lane.near_breakPort_of_sound place p
    rw [if_pos second]
    refine ⟨?_, ?_, fun _ => ⟨broken, event (by rw [link, linked]; decide)⟩⟩
    · have row : regNo (pcEmpty p).addr = 213 + p.val := (by decide +kernel : ∀ p : Port, regNo (pcEmpty p).addr = 213 + p.val) p
      refine (near.keep row ?_).trans count
      exact (by decide +kernel : ∀ p : Port, brokenMask.testBit (213 + p.val) = false) p
    · rw [near.ring.emptyRun (by decide +kernel)]
      exact run
  · rw [if_neg second]
    exact ⟨count, run, fun twice => absurd twice second⟩

end

/-- CUE_WINDOW_END (R389). -/
theorem does_cueWindowEnd (e : At) (cue : Nat) (links : List Nat) (s : State) (hs : s.Runs e) :
    Does (.cueWindowEnd e cue links) s [.reg R.VR_STAT, .reg R.VR_EVT, .reg R.VR_PSTATW, .reg R.VR_PSTATE,
    .reg R.VR_PCNT1W, .reg R.VR_PCNT1E, .ring] fun l m =>
      (l.ringOn = false → m = l) ∧ ((l.ring.accepted.any fun a => a.cue == cue) = true → m = l) ∧
        (cue ∈ l.ring.empty → m = l) ∧
      (l.sheet = none → m = l) ∧
      (∀ sh c p' a', l.ringOn = true → (l.ring.accepted.any fun a => a.cue == cue) = false → cue ∉ l.ring.empty →
        l.sheet = some sh → l.cue cue = some c → a' ∈ l.arrivals sh links p' → a'.cue = cue →
        (∀ p : Port, ∀ a ∈ l.arrivals sh links p, a.cue = cue →
          (a.at_ + l.ring.drift + 4 * windowNs c.win) % l.cycleQ ≤ l.sinceCue) →
        m.ring.empty = cue :: l.ring.empty ∧
        (∀ p : Port, l.cuePorts sh links cue = [p] → l.portUp p = true →
          m.get (pcEmpty p) = min (l.get (pcEmpty p) + 1) 65535 ∧ m.ring.emptyRun[p] = true ∧
          (l.ring.emptyRun[p] = true → m.get (psLink p) = 3 ∧ m.flag R.VR_EVT_BREAK = true))) := by
  refine does_logic hs rfl execCueWindowEnd_event rfl (by decide +kernel) fun hl => ?_
  generalize s.before (.cueWindowEnd e cue links) = l at hl
  refine ⟨fun off => Lane.emptyCue_of_idle (.inl off), fun taken => Lane.emptyCue_of_idle (.inr (.inl taken)),
    fun empty => Lane.emptyCue_of_idle (.inr (.inr (.inl empty))), fun none => Lane.emptyCue_of_idle (.inr (.inr (.inr none))),
    fun sh c p' a' on_ free new sheet named arrives same passed => ?_⟩
  have due : l.cueFlights sh links cue ≠ [] := List.ne_nil_of_mem (Lane.mem_cueFlights.2 ⟨p', arrives, same⟩)
  rw [Lane.emptyCue_of_due on_ free new sheet named due fun f mem => ?_]
  · have place : (l.cueEmpty cue).Sound _ := hl.onRing _
    refine ⟨?_, fun p alone up => ?_⟩
    · have near : Lane.Near emptyMask (l.cueEmpty cue) ((l.cuePorts sh links cue).foldl Lane.emptyOn (l.cueEmpty cue)) := by
        refine Lane.near_foldl (fun x p _ g => ?_) (.refl _ place)
        exact g.trans (Lane.near_emptyOn (g.place place) p)
      exact near.ring.empty (by decide +kernel)
    · rw [alone]
      exact Lane.emptyOn_effects place p up
  · obtain ⟨p, flies, ours⟩ := Lane.mem_cueFlights.1 mem
    exact passed p f flies ours

/-! ### The figure of the check reference (R360) -/

/-- The row of BI_REFFIG: hardware alone writes it. -/
def figureRow : RegDesc := ⟨R.BI_REFFIG, [], [⟨16, 16, .ro, 0, 0, 65535⟩, ⟨0, 16, .ro, 0, 0, 65535⟩]⟩

/-- The rows of a block depend on the block alone. -/
theorem blockRegs_block (a : Nat) : blockRegs (a / 0x10000 * 0x10000) = blockRegs a := by
  unfold blockRegs
  rw [Nat.mul_div_cancel _ (by decide)]

/-- No row but that of BI_REFFIG has its number. -/
theorem row_of_figure {a k : Nat} (block : a / 0x10000 < 19) (row : k < (blockRegs a).length)
    (number : blockStart (a / 0x10000) + k = 81) : (blockRegs a)[k] = figureRow := by
  have rows : ∀ j < 19, ∀ k < 82, blockStart j + k = 81 → (blockRegs (j * 0x10000))[k]? = some figureRow ∨
    (blockRegs (j * 0x10000)).length ≤ k := by decide +kernel
  rcases rows _ block k (by omega) number with found | short
  · rw [blockRegs_block, List.getElem?_eq_getElem row] at found
    exact Option.some.inj found
  · rw [blockRegs_block] at short
    exact absurd row (Nat.not_lt.2 short)

/-- A register with the number of BI_REFFIG has its row. -/
theorem regAt_of_figure {a : Nat} {d : RegDesc} (found : regAt a = some d) (number : regNo a = 81) : d = figureRow := by
  have block : a / 0x10000 < 19 := by
    by_contra beyond
    rw [regAt_of_beyond (by omega)] at found
    exact nomatch found
  unfold regNo at number
  split at number
  next k place =>
    obtain ⟨row, hit, before⟩ := List.findIdx?_eq_some_iff_getElem.1 place
    have first : regAt a = some (blockRegs a)[k] := by
      unfold regAt
      rw [List.find?_eq_some_iff_getElem]
      exact ⟨hit, k, row, rfl, fun j low => by rw [Bool.not_eq_true']; exact Bool.eq_false_iff.2 (before j low)⟩
    rw [row_of_figure block row number, found] at first
    exact Option.some.inj first
  next => omega

theorem write_figureRow (new w : Word) : figureRow.write new w = w := rfl

/-- What the software of a cycle start may change: anything but the figure and the cycle number. -/
def cycleMask : Nat := allBut [81, 473]

section
variable {b l : Lane} (near : Lane.Near cycleMask b l)
include near

/-- Setting a word to itself changes no word. -/
theorem Lane.setWord_same (a : Nat) : Lane.Near cycleMask b (l.setWord a (l.word a)) := by
  have place : RegFile.wf l.id (l.setWord a (l.word a)).regs = true := RegFile.wfFrom_put _ a _ 0 _ (Nat.zero_le a) near.regsWf
  refine { near with regsWf := place, word := fun x kept => ?_, evt := fun kept => absurd kept (by decide +kernel) }
  by_cases same : x = a
  · subst same
    exact (Lane.word_setWord near.regsWf x _).trans (near.word x kept)
  · exact (Lane.word_setWord_of_ne l _ same).trans (near.word x kept)

/-- A write of a register leaves the figure (R10). -/
theorem Lane.writeWord_keeps_figure (a : Nat) (w : Word) : Lane.Near cycleMask b (l.writeWord a w) := by
  unfold Lane.writeWord
  split
  next => exact near
  next d found =>
    by_cases figure : regNo a = 81
    · rw [regAt_of_figure found figure, write_figureRow]
      exact Lane.setWord_same near a
    · refine Lane.setReg_near ?_ (by decide +kernel) near
      have other : ∀ k < 321, k ≠ 81 → cycleMask.testBit k = true := by decide +kernel
      exact other _ (regNo_of_regAt found) figure

end

/-- What a cycle start does once its figure is taken. -/
def Lane.restOfCycle (l : Lane) : Lane :=
  let l := (((l.clearCycle.guardCycle.drillCycle.acceptPeer 0).acceptPeer 1).reenter).modeCycle.mirrorCycle
  let l := (l.when (l.lstate != .out) fun l => l.spotCycle).resetCycle
  let l := l.allAxes fun l n => (l.softCycle n).cartCycle n
  l.cryptoCycle.trioCycle.ringPartCycle.timeCycle

section
variable {b l : Lane} (near : Lane.Near cycleMask b l)
include near

/-! ### A book that comes into force leaves the figure (R329, R342) -/

theorem Lane.writeImage_keeps_figure (es : List RegEntry) : Lane.Near cycleMask b (l.writeImage es) :=
  Lane.near_foldl (fun _ e _ g => Lane.near_ite (Lane.writeWord_keeps_figure g e.addr e.value) g) near

theorem Lane.clearBook_keeps_figure (x : Book) : Lane.Near cycleMask b (l.clearBook x) :=
  Lane.near_foldl (fun _ e _ g => Lane.near_ite (Lane.writeWord_keeps_figure g e.addr _) g) near

theorem Lane.writeBook_keeps_figure (x : Book) : Lane.Near cycleMask b (l.writeBook x) := by
  unfold Lane.writeBook
  extract_lets image tables machine
  have images : Lane.Near cycleMask b image := Lane.writeImage_keeps_figure near _
  have tabled : Lane.Near cycleMask b tables := by
    unfold tables
    split
    · exact Lane.near_foldl (fun _ _ _ g => Lane.writeTables_near (by decide +kernel) g) images
    · exact images
  have seated : Lane.Near cycleMask b machine := by
    unfold machine
    split
    · exact Lane.putFlag_near (inReg at_LC_STATE (by decide +kernel)) (Lane.put_near (inReg at_VR_CYC (by decide +kernel))
        (Lane.writeSeats_near (by decide +kernel) tabled))
    · exact tabled
  split
  · exact Lane.put_near (inReg at_TM_CFG (by decide +kernel)) seated
  · exact seated

theorem Lane.installBook_keeps_figure (x : Book) : Lane.Near cycleMask b (l.installBook x) := by
  unfold Lane.installBook
  extract_lets first old written trusted loaded core ready differs
  have wrote : Lane.Near cycleMask b written := by
    refine Lane.writeBook_keeps_figure ?_ x
    split
    · exact Lane.clearBook_keeps_figure near _
    · exact near
  have trust : Lane.Near cycleMask b trusted := Lane.onTrust_near (f := _)
    { TrustState.Near.refl written.trust with book := not_bit (by decide +kernel), nextBook := not_bit (by decide +kernel) } wrote
  have dictionary : Lane.Near cycleMask b loaded := Lane.loadDictionary_near (by decide +kernel)
    (Lane.when_near trust fun _ g => Lane.startWindings_near (by decide +kernel) g)
  have limits : Lane.Near cycleMask b core := Lane.markMax_near (by decide +kernel) (Lane.moveCore_near (by decide +kernel) dictionary)
  have axes : Lane.Near cycleMask b ready := Lane.allAxes_near limits fun _ _ g =>
    Lane.negotiate_near (by decide +kernel) (Lane.markUnav_near (by decide +kernel) g)
  exact Lane.near_foldl (fun _ _ _ g => Lane.near_ite (Lane.endSession_near (by decide +kernel) g) g) axes

theorem Lane.takeNextBook_keeps_figure : Lane.Near cycleMask b l.takeNextBook := by
  unfold Lane.takeNextBook
  split
  · exact Lane.installBook_keeps_figure near _
  · exact near

/-! ### The module state and the mirror leave the figure (R271, R279) -/

theorem Lane.takeNextMode_keeps_figure : Lane.Near cycleMask b l.takeNextMode := by
  unfold Lane.takeNextMode
  split
  · exact near
  · extract_lets script held booked
    have hold : Lane.Near cycleMask b held := Lane.when_near near fun _ g => Lane.firstHold_near (by decide +kernel) g
    have book : Lane.Near cycleMask b booked := Lane.when_near hold fun _ g => Lane.takeNextBook_keeps_figure g
    exact Lane.enterMode_near (by decide +kernel) (Lane.onWing_near (f := _)
      { WingState.Near.refl booked.wing with next := not_bit (by decide +kernel) } book)

theorem Lane.modeCycle_keeps_figure : Lane.Near cycleMask b l.modeCycle := by
  unfold Lane.modeCycle
  extract_lets answered
  have answers : Lane.Near cycleMask b answered :=
    Lane.answerModes_near (by decide +kernel) (Lane.near_ite near (Lane.takeNextMode_keeps_figure near))
  exact Lane.near_ite (Lane.onWing_near (f := _)
    { WingState.Near.refl answered.wing with proposed := not_bit (by decide +kernel) } answers) answers

theorem Lane.repeatCallWrite_keeps_figure (a : Nat) (w : Word) : Lane.Near cycleMask b (l.repeatCallWrite a w) := by
  unfold Lane.repeatCallWrite
  split
  · exact Lane.near_ite (Lane.deactivate_near (by decide +kernel) near) near
  · exact Lane.writeWord_keeps_figure near a w

theorem Lane.applyCallMirror_keeps_figure (x : CallMirror) : Lane.Near cycleMask b (l.applyCallMirror x) := by
  unfold Lane.applyCallMirror
  extract_lets blank active enabled ranked level called from_ repeated
  have blanks : Lane.Near cycleMask b blank := Lane.near_foldl (fun _ _ row g =>
    Lane.setWord_near (inReg (at_CB_ACT (List.mem_range.1 row)) (by decide +kernel))
      (Lane.setWord_near (inReg (at_CB_PEND (List.mem_range.1 row)) (by decide +kernel)) g)) near
  have actives : Lane.Near cycleMask b active := Lane.near_foldl (fun _ _ _ g =>
    Lane.putBit_near (inReg (at_CB_ACT (Nat.mod_lt _ (by decide))) (by decide +kernel)) g) blanks
  have enables : Lane.Near cycleMask b enabled := Lane.near_foldl (fun _ i row g =>
    Lane.setWord_near (inReg (at_CB_EN (Nat.div_lt_of_lt_mul (List.mem_range.1 row)) (Nat.mod_lt i (by decide))) (by decide +kernel)) g)
    actives
  have ranks : Lane.Near cycleMask b ranked := Lane.near_foldl (fun _ _ row g =>
    Lane.put_near (inReg (at_CB_SRC (List.mem_range.1 row)) (by decide +kernel)) g) enables
  have levels : Lane.Near cycleMask b level := Lane.near_foldl (fun _ _ row g =>
    Lane.put_near (inReg (at_CB_THR (List.mem_range.1 row)) (by decide +kernel)) g) ranks
  clear_value level
  have calls : Lane.Near cycleMask b called := Lane.onCall_near (f := _)
    { CallState.Near.refl level.call with active := not_bit (by decide +kernel), sampled := not_bit (by decide +kernel) } levels
  have repeats : Lane.Near cycleMask b repeated := Lane.near_foldl (fun _ x _ g =>
    Lane.near_ite (Lane.repeatCallWrite_keeps_figure g x.1 x.2.1) g) calls
  exact Lane.presentAll_near (by decide +kernel) repeats

theorem Lane.applyMirror_keeps_figure (x : MirrorSet) : Lane.Near cycleMask b (l.applyMirror x) := by
  unfold Lane.applyMirror
  extract_lets taken shown called
  have takes : Lane.Near cycleMask b taken := Lane.onWing_near (f := _)
    { WingState.Near.refl l.wing with
      mirror := not_bit (by decide +kernel), mirrorNext := not_bit (by decide +kernel)
      mirrorSeq := not_bit (by decide +kernel) } near
  have shows : Lane.Near cycleMask b shown := Lane.setWord_near (inReg at_WG_MIRCRC (by decide +kernel))
    (Lane.put_near (inReg at_WG_MIRROR (by decide +kernel)) takes)
  have calls : Lane.Near cycleMask b called :=
    Lane.applyCallMirror_keeps_figure (Lane.applySpotMirror_near (by decide +kernel) shows) _
  exact Lane.allAxes_near calls fun _ _ g => Lane.when_near g fun _ h => Lane.setLife_near (by decide +kernel) h

theorem Lane.mirrorCycle_keeps_figure : Lane.Near cycleMask b l.mirrorCycle := by
  unfold Lane.mirrorCycle
  split
  · exact Lane.near_ite (Lane.onWing_near (f := _)
      { WingState.Near.refl l.wing with mirrorNext := not_bit (by decide +kernel) } near) (Lane.applyMirror_keeps_figure near _)
  · exact near

/-- What follows the figure of a cycle start. -/
theorem Lane.restOfCycle_keeps_figure : Lane.Near cycleMask b l.restOfCycle := by
  have ready := Lane.drillCycle_near (M := cycleMask) (by decide +kernel) (Lane.guardCycle_near (by decide +kernel)
    (Lane.clearCycle_near (by decide +kernel) near))
  have entered := Lane.reenter_near (M := cycleMask) (by decide +kernel) (Lane.acceptPeer_near (y1 := 1) (by decide +kernel)
    (Lane.acceptPeer_near (y1 := 0) (by decide +kernel) ready))
  have agreed := Lane.mirrorCycle_keeps_figure (Lane.modeCycle_keeps_figure entered)
  unfold Lane.restOfCycle
  generalize (((l.clearCycle.guardCycle.drillCycle.acceptPeer 0).acceptPeer 1).reenter).modeCycle.mirrorCycle = x at agreed ⊢
  have reset : Lane.Near cycleMask b ((x.when (x.lstate != .out) fun l => l.spotCycle).resetCycle) :=
    Lane.resetCycle_near (by decide +kernel) (Lane.when_near agreed fun _ g => Lane.spotCycle_near (by decide +kernel) g)
  have axes := Lane.allAxes_near (f := fun l n => (l.softCycle n).cartCycle n) reset fun _ _ g =>
    Lane.cartCycle_near (by decide +kernel) (Lane.softCycle_near (by decide +kernel) g)
  exact Lane.timeCycle_near (by decide +kernel) (Lane.ringPartCycle_near (by decide +kernel)
    (Lane.trioCycle_near (by decide +kernel) (Lane.cryptoCycle_near (by decide +kernel) axes)))

end

/-! ### The cue instant (R360, R379) -/

section
variable {i : LaneId} {l : Lane} (hl : l.Sound i)
include hl

theorem Lane.showMedian_own : l.showMedian.get R.BI_REFFIG_OWN = l.get R.BI_REFFIG_OWN := by
  unfold Lane.showMedian
  split
  · exact hl.get_put_apart (f := R.BI_REFFIG_MED) (g := R.BI_REFFIG_OWN) _
  · rfl

/-- The comparison of the figures leaves the own one. -/
theorem Lane.checkFigures_own : l.checkFigures.get R.BI_REFFIG_OWN = l.get R.BI_REFFIG_OWN := by
  have median := Lane.showMedian_own hl
  have place : l.showMedian.Sound i := (Lane.showMedian_near (M := 2 ^ 81) (by decide +kernel) (.refl _ hl)).place hl
  unfold Lane.checkFigures
  split
  · rfl
  generalize l.showMedian = x at median place
  dsimp only
  have near : Lane.Near (allBut [81]) x ((x.raise R.BI_EVT_REFFAIL).marking fun l => l.raise R.BI_UNUS_REF).laneOut :=
    Lane.laneOut_near (by decide +kernel) (Lane.marking_near (by decide +kernel)
      (Lane.raise_near (inEvt ev_BI_EVT (by decide +kernel)) rfl (.refl _ place))
      fun _ g => Lane.raise_near (inReg at_BI_UNUS (by decide +kernel)).1 rfl g)
  split
  · exact (near.keep (f := R.BI_REFFIG_OWN) at_BI_REFFIG.1 (by decide +kernel)).trans median
  · exact median

/-- The figure of a cycle start shows (R360). -/
theorem Lane.takeFigure_effects (figure : BitVec 16) : Lane.Near (allBut [473]) l (l.takeFigure figure.toNat) ∧
    (l.takeFigure figure.toNat).get R.BI_REFFIG_OWN = figure.toNat := by
  refine ⟨Lane.takeFigure_near (by decide +kernel) (.refl _ hl), ?_⟩
  have shown : (l.put R.BI_REFFIG_OWN figure.toNat).get R.BI_REFFIG_OWN = figure.toNat :=
    (hl.get_put R.BI_REFFIG_OWN figure.toNat).trans (Nat.mod_eq_of_lt figure.isLt)
  have place := hl.put R.BI_REFFIG_OWN figure.toNat
  unfold Lane.takeFigure
  generalize l.put R.BI_REFFIG_OWN figure.toNat = x at place shown
  extract_lets figured bad checked
  have placed : (figured.onReh fun r => { r with refBad := bad }).Sound i := place
  have own : checked.get R.BI_REFFIG_OWN = figure.toNat := (Lane.checkFigures_own placed).trans shown
  have check : checked.Sound i := (Lane.checkFigures_near (M := allBut []) (by decide +kernel) (.refl _ placed)).place placed
  clear_value checked
  split
  · exact ((Lane.laneOut_near (M := allBut [81]) (by decide +kernel) (.refl _ check)).keep (f := R.BI_REFFIG_OWN) at_BI_REFFIG.1
      (by decide +kernel)).trans own
  · exact own

/-- A lane that restarts is at the first phase of its supply (R57, R341). -/
theorem Lane.restart_effects : l.restart.power.phase = .oscillator ∧ l.restart.mode_.fwRestart = false := by
  unfold Lane.restart
  extract_lets closed begun
  have closing : Lane.Near (allBut []) l closed := Lane.near_foldl (fun _ _ row g =>
    Lane.drop_near (inReg (at_HS_SSEQ (List.mem_range.1 row)) (by decide +kernel)) g) (.refl _ hl)
  have shut := closing.place hl
  clear_value closed
  have place : begun.Sound i := shut
  have phase : begun.power.phase = .oscillator := rfl
  have restarts : begun.mode_.fwRestart = false := rfl
  clear_value begun
  have near : Lane.Near (allBut [337, 480]) begun (begun.allAxes fun l n => l.settle n).koSettle :=
    Lane.koSettle_near (by decide +kernel) (Lane.allAxes_near (.refl _ place) fun _ _ g => Lane.settle_near (by decide +kernel) g)
  exact ⟨(near.power.phase (by decide +kernel)).trans phase, (near.mode_.fwRestart (by decide +kernel)).trans restarts⟩

end

/-- The lane once the cycle that starts is counted (R379). -/
def Lane.cycleCounted (l : Lane) : Lane :=
  l.onMode fun m => { m with cycle := (l.ltime + ltUs 25) / ltUs (50 * l.beats) }

/-- CUE_INSTANT (R379). -/
theorem does_cueInstant (e : At) (figure : BitVec 16) (s : State) (hs : s.Runs e) :
    Does (.cueInstant e figure) s (beatParts ++ [.axProt, .can]) fun l m =>
      (l.mode_.fwRestart = true → m.power.phase = .oscillator ∧ m.mode_.fwRestart = false) ∧
      (l.mode_.fwRestart = false → m.get R.BI_REFFIG_OWN = figure.toNat ∧
        m.mode_.cycle = (l.ltime + ltUs 25) / ltUs (50 * l.beats)) := by
  refine does_logic hs rfl execCueInstant_event rfl (by decide +kernel) fun hl => ?_
  generalize s.before (.cueInstant e figure) = l at hl
  have out : l.cueInstant figure.toNat = if l.mode_.fwRestart then l.cycleCounted.restart
      else (l.cycleCounted.takeFigure figure.toNat).restOfCycle := rfl
  have counted : l.cycleCounted.Sound _ := hl
  rw [out]
  refine ⟨fun again => ?_, fun on_ => ?_⟩
  · rw [if_pos again]
    exact Lane.restart_effects counted
  · rw [if_neg (Bool.eq_false_iff.1 on_)]
    obtain ⟨taken, own⟩ := Lane.takeFigure_effects counted figure
    have rest := Lane.restOfCycle_keeps_figure (.refl _ (taken.place counted))
    exact ⟨(rest.keep (f := R.BI_REFFIG_OWN) at_BI_REFFIG.1 (by decide +kernel)).trans own,
      (rest.mode_.cycle (by decide +kernel)).trans (taken.mode_.cycle (by decide +kernel))⟩

/-- Settles O40: each command of cues, windows, sheet changes and the cue instant by its own lemma. -/
theorem ringCycle : Obligations.RingCycle :=
  ⟨does_cueSend, does_cueFrame, does_cueWindowEnd, does_shann, does_cueInstant⟩

end Sys2Proof.Machine
